-- ==== Sys2Proof/Word.lean ====
section
/-!
DEFINITION. Word.lean: the word types of the block. Registers are 32 bits wide (R11), frames are sequences of bytes.
-/
namespace Sys2Proof

/-- A byte of a frame, of a record or of the flash. -/
abbrev Byte := BitVec 8

/-- A 32-bit register or table word (R11). -/
abbrev Word := BitVec 32

end Sys2Proof
end

