-- ==== Sys2Proof/Syntax.lean ====
section
/-!
DEFINITION. Syntax.lean: the commands that the block takes, one constructor of Instr for each row of spec/opcode_table.json. A
command is a register access, a message or frame that arrives, an event of a pin or clock, or a step that one of the block's
own engines takes; a step whose condition does not hold when the command comes changes nothing (assumption 3).

Operands. `w`: who writes, and `v`: the value written. `r`: who reads. `a`: an offset in the requester's view. `p`: a port.
`d`: an F-die. `G`: a region of 0 to 7. `C`: a cluster of 0 to 31. `k`: a context, pool, counter or ring slot. `i`: an instance,
a time base or an input of a region. `e`: a DMA engine or another die. `q`: a class queue. `raw`, `data`: bytes that a read of
host memory, of the image source or of another memory outside the block has brought. `straps`: the levels of the strap pins,
as PKG.STRAPS lays them out. Where an operand tells something that the spec leaves to the surroundings (whether a FIFO has room,
how far a frame has come), the command says which.
-/
namespace Sys2Proof

/-- Who writes a register: the driver of instance 0 in the privileged view; the boot sequencer, for a REGWRITE record; instance
i in its own layout. -/
inductive Writer where
  | host | boot | inst (i : Fin 256)
deriving DecidableEq, Repr

/-- Who reads: the driver of instance 0, the OBS port, or instance i in its own layout. -/
inductive Reader where
  | host | obs | inst (i : Fin 256)
deriving DecidableEq, Repr

/-- What the spec names of a function's configuration space (R374, R375, R378, R399, R418): the SR-IOV capability of the physical
function, the power state, and the Message Control word of MSI-X. -/
inductive ConfigReg where
  | vfEnable | numVfs | totalVfs | firstVfOffset | vfStride | powerState | msixControl
deriving DecidableEq, Repr

/-- The size of a register access: 32 bits, 64 bits, or anything else; or an access not to a BAR but to the configuration space of the
requester's function. -/
inductive AccessSize where
  | dword | qword | other | config (r : ConfigReg)
deriving DecidableEq, Repr

/-- The counter units of Table 17-1. -/
inductive CounterUnit where
  | pkg | hif | die (d : Fin 4) | tbl (d : Fin 4) | hbm (d : Fin 4) | xep (d : Fin 4) | rgn (g : Fin 8) | cls (c : Fin 32)
  | prt (p : Fin 256) | mac (p : Fin 256)
deriving DecidableEq, Repr

/-- How the read of a trace unit ends: data from a stack, data that the controller corrected, or an uncorrectable error at an
address of the stack. -/
inductive TraceRead where
  | good (stack : Fin 2) | corrected (stack : Fin 2) | bad (stack : Fin 2) (addr : BitVec 36)
deriving DecidableEq, Repr

/-- How an AVSBus transaction ends: done, done with a voltage read, an alert of the regulator, no response, or a wrong CRC. -/
inductive AvsResult where
  | ok | voltage (mv : BitVec 10) | alert | noResponse | crcError
deriving DecidableEq, Repr

/-- What the PCS and the reassembly say of a received frame. -/
inductive RxQuality where
  | good | codeword | assembly
deriving DecidableEq, Repr

/-- What comes with a received frame: its quality; whether the error is found only after the head has left; and the FEC events
since the last frame, with the lane they are counted at. -/
structure RxInfo where
  quality : RxQuality := .good
  late : Bool := false
  fecLane : Fin 4 := 0
  fecCorrected : BitVec 16 := 0
  fecSymbols : BitVec 16 := 0
  fecBad : BitVec 16 := 0
deriving DecidableEq, Repr

/-- Which condition of a link fails (R90): signal or lock of some lanes, alignment, the PCS, or a remote fault. -/
inductive DownCause where
  | lanes (mask : BitVec 4) | align | pcsFault | remote
deriving DecidableEq, Repr

/-- What happens to a verification of preemption (R117, R119): the attempt is answered; VERIFY_TIME passes; or the partner asks for
one itself. -/
inductive VerifyEvent where
  | answered | timeout | request
deriving DecidableEq, Repr

/-- How a Silo read ends (R317): data, corrected data, an uncorrectable error of the data, of a link record with its other copy
good, or of both copies. -/
inductive SiloRead where
  | good | corrected | bad (addr : BitVec 36) | fallback (addr : BitVec 36) | lost (addr : BitVec 36)
deriving DecidableEq, Repr

/-- A read of host memory that ends in error (R376): of n + 1 descriptors of the ring whose turn it is; of the segments of the
frame with these descriptors; of a free ring. -/
inductive DmaFail where
  | txDesc (n : Fin 8) | txData (desc : List Byte) | pool (i : Fin 256) (k : Fin 4)
deriving DecidableEq, Repr

/-- What takes the PCIe link or its functions down (R375). -/
inductive PcieEvent where
  | linkDown | hotReset | conventional
deriving DecidableEq, Repr

/-- What resets an instance: a Function Level Reset, or a write of INS_CTRL. -/
inductive ResetBy where
  | flr | reg (w : Writer) (v : BitVec 32)
deriving DecidableEq, Repr

/-- What the sweeps of a byte lane found: bit k of `rd` and of `wr` is whether tap k passed, of the read and of the write delay; and
whether the standard's lane repair has a spare for it in its channel (R437). -/
structure LaneSweep where
  rd : BitVec 128 := 0
  wr : BitVec 128 := 0
  spare : Bool := false
deriving DecidableEq, Repr

/-- Where the next fault message is taken: into die d's collector, from it to the package, or into the package's. -/
inductive FaultHop where
  | die (d : Fin 4) | fromDie (d : Fin 4) | pkg
deriving DecidableEq, Repr


/-- A port, and a number of bytes of a frame there: of what it has sent of a frame that may be preempted, or of what has come of a frame
that is still arriving at the head of one of its queues. -/
structure PortBytes where
  port : Fin 256
  n : Nat := 0
deriving DecidableEq, Repr

/-- What a training brings: the coefficient updates of the partner since the last command, each a lane and the TXEQ word that it asks for,
and whether training is complete with them (R82). -/
structure Training where
  updates : List (Fin 4 × BitVec 32) := []
  done : Bool := true
deriving DecidableEq, Repr

/-- A step of a fault message or the collector that escalates, with the strap pins as they stand at the end of a reset that it causes. -/
structure HopStraps where
  hop : FaultHop
  straps : BitVec 7 := 0
deriving DecidableEq, Repr
structure CollectorStraps where
  c : Fin 5
  straps : BitVec 7 := 0
deriving DecidableEq, Repr

/-- The commands of the block, one constructor for each row of spec/opcode_table.json, in its order. -/
inductive Instr where
  /-- REGISTER_WRITE (R521): A write to a register that has no row of its own sets each field by its own access
  code, after the width, alignment and range checks. A write of any register; the offset is in the writer's view.
  -/
  | registerWrite (w : Writer) (a : BitVec 28) (v : BitVec 64) (size : AccessSize)
  /-- COUNTER_LOW_READ (R14): A low-word read of a 64-bit counter latches the high word for that requester. The
  offset is in the reader's view. -/
  | counterLowRead (r : Reader) (a : BitVec 28) (size : AccessSize)
  /-- READ_CLEAR (R15): A read of an RC field returns the value and then clears it, all 64 bits for a 64-bit
  counter. A read of any register. -/
  | readClear (r : Reader) (a : BitVec 28) (size : AccessSize)
  /-- FRAME_RECEIVE (R93): The receive MAC takes a frame from the lanes, checks framing and FCS, stamps it and
  writes it to the staging FIFO. The bytes as received, FCS included. -/
  | frameReceive (p : Fin 256) (bytes : List Byte) (i : RxInfo)
  /-- RX_BAD_AFTER_HEAD (R111): An error found after the pipe took the frame's head is counted and the frame's tail
  is marked bad. -/
  | rxBadAfterHead (p : Fin 256)
  /-- PAUSE_FRAME_RECEIVE (R97): A received 802.3x pause frame loads all eight pause timers, or is counted and
  ignored while broken. The quanta. -/
  | pauseFrameReceive (p : Fin 256) (q : BitVec 16)
  /-- PFC_FRAME_RECEIVE (R97): A received PFC frame loads the timers of the priorities it names that PFC_RX_EN
  enables. The priority-enable vector and the eight times. -/
  | pfcFrameReceive (p : Fin 256) (vec : BitVec 8) (times : List (BitVec 16))
  /-- PAUSE_TIMER_EXPIRE (R97): A priority's received pause timer counts down to 0 and the priority is unpaused. -/
  | pauseTimerExpire (p : Fin 256) (pri : Fin 8)
  /-- PAUSE_WDOG (R103): The pause watchdog reaches TIME for a paused priority, breaks it, counts it and sends
  PAUSE_WDOG. -/
  | pauseWdog (p : Fin 256) (pri : Fin 8)
  /-- PAUSE_WDOG_WRITE (R105): A write of PAUSE_WDOG.TIME compares the new value with the elapsed pause time and
  may break a priority at once. -/
  | pauseWdogWrite (w : Writer) (p : Fin 256) (v : BitVec 32)
  /-- PAUSE_XOFF (R100): A priority or port enters XOFF when a source requests it, and the generator queues a pause
  frame carrying QUANTA. -/
  | pauseXoff (p : Fin 256)
  /-- PAUSE_REFRESH (R100): The REFRESH interval elapses while XOFF lasts and the generator queues a refresh. -/
  | pauseRefresh (p : Fin 256)
  /-- PAUSE_XON (R100): The last XOFF request ends and the generator queues a pause time of 0. -/
  | pauseXon (p : Fin 256)
  /-- PAUSE_FRAME_SEND (R101): The MAC inserts a generated pause or PFC frame at the next frame boundary, ahead of
  all queued frames. The bytes sent of a frame that is preempted. -/
  | pauseFrameSend (p : PortBytes)
  /-- PORT_ENABLE (R89): Setting PORT_CFG.ENABLE starts bring-up from negotiation, or from receiver adaptation
  under C2M. -/
  | portEnable (w : Writer) (p : Fin 256) (v : BitVec 32)
  /-- PORT_DISABLE (R89): Clearing PORT_CFG.ENABLE finishes the frame in transmission, stops the transmitters and
  makes the port link-down. -/
  | portDisable (w : Writer) (p : Fin 256) (v : BitVec 32)
  /-- AN_DONE (R81): Clause 73 auto-negotiation completes with a matching ability, or finds none and restarts.
  The PHY types that the partner advertises, each its SPEED and MEDIA. -/
  | anDone (p : Fin 256) (partner : List (BitVec 2 × BitVec 2))
  /-- LT_DONE (R82): Link training completes on every lane in use and the trained values are stored in TXEQ. -/
  | ltDone (p : Fin 256) (x : Training)
  /-- LT_FAIL (R82): Training does not complete within the standard's maximum wait, which sets LT_FAIL, sends
  LINK_TRAIN and restarts from negotiation. -/
  | ltFail (p : Fin 256)
  /-- LINK_UP (R90): All link-up conditions come to hold, and the device sets LINK_UP and sends LINK. The
  signal-to-noise ratio of each lane. -/
  | linkUp (p : Fin 256) (snr : List (BitVec 16))
  /-- LINK_DOWN (R90): A link-up condition stops holding, and the device cuts frames, clears pause state and
  flushes or holds queued frames. The condition that no longer holds, and whether a frame was in reception. -/
  | linkDown (p : Fin 256) (c : DownCause) (cut : Bool)
  /-- PORT_STATE_WRITE (R116): A write of PORT_STATE sets the maintenance state, and a change of LB_MODE restarts
  bring-up. -/
  | portStateWrite (w : Writer) (p : Fin 256) (v : BitVec 32)
  /-- PREEMPT_VERIFY (R117): A preemption verification attempt times out after VERIFY_TIME, retries, or fails after
  3 attempts with PREEMPT_VERIFY. What happens. -/
  | preemptVerify (p : Fin 256) (e : VerifyEvent)
  /-- PIPE_TAKE_HEAD (R93): The pipe takes a frame's head once 256 bytes or the whole frame are in staging, and the
  Sieve parses the window. -/
  | pipeTakeHead (p : Fin 256)
  /-- CONTEXT_START (R153): A frame waiting at a hand-off takes a free microengine context and starts its routine
  at ENTRY. -/
  | contextStart (C : Fin 32)
  /-- EXT_EQ (R159): A microword extracts a field and branches on a masked equality. -/
  | extEq (C : Fin 32) (k : Fin 64)
  /-- EXT_LT (R159): A microword extracts a field and branches on a masked unsigned less-than. -/
  | extLt (C : Fin 32) (k : Fin 64)
  /-- ALU_ADD (R159): A microword adds VALUE to the selected register. -/
  | aluAdd (C : Fin 32) (k : Fin 64)
  /-- ALU_SUB (R159): A microword subtracts VALUE from the selected register. -/
  | aluSub (C : Fin 32) (k : Fin 64)
  /-- ALU_AND (R159): A microword ANDs VALUE with the selected register. -/
  | aluAnd (C : Fin 32) (k : Fin 64)
  /-- ALU_OR (R159): A microword ORs VALUE with the selected register. -/
  | aluOr (C : Fin 32) (k : Fin 64)
  /-- ALU_XOR (R159): A microword XORs VALUE with the selected register. -/
  | aluXor (C : Fin 32) (k : Fin 64)
  /-- ALU_SHL (R159): A microword shifts the selected register left. -/
  | aluShl (C : Fin 32) (k : Fin 64)
  /-- ALU_SHR (R159): A microword shifts the selected register right. -/
  | aluShr (C : Fin 32) (k : Fin 64)
  /-- ALU_MOVE (R159): A microword moves VALUE to its destination. -/
  | aluMove (C : Fin 32) (k : Fin 64)
  /-- ADV (R159): A microword advances CUR by an extracted length and branches on the window end. -/
  | adv (C : Fin 32) (k : Fin 64)
  /-- DISPATCH (R159): A microword jumps to T0 plus a masked extracted field. -/
  | dispatch (C : Fin 32) (k : Fin 64)
  /-- BRANCH (R159): A microword branches to T0 unconditionally. -/
  | branch (C : Fin 32) (k : Fin 64)
  /-- BRANCH_OVR (R159): A microword branches on OVR. -/
  | branchOvr (C : Fin 32) (k : Fin 64)
  /-- BRANCH_EQ (R159): A microword branches on X equal to Y. -/
  | branchEq (C : Fin 32) (k : Fin 64)
  /-- BRANCH_LT (R159): A microword branches on X unsigned below Y. -/
  | branchLt (C : Fin 32) (k : Fin 64)
  /-- CSUM (R159): A microword computes a one's-complement sum from 0 over L bytes. -/
  | csum (C : Fin 32) (k : Fin 64)
  /-- CSUM_CONTINUE (R159): A microword computes a one's-complement sum starting from X. -/
  | csumContinue (C : Fin 32) (k : Fin 64)
  /-- CHECK (R160): A safe-point microword acts on the first pending HOLD, LIMIT or ABORT request, or goes on to
  T0. -/
  | check (C : Fin 32) (k : Fin 64)
  /-- END (R159): A microword ends the routine, sets ME and writes the vector back. -/
  | endRoutine (C : Fin 32) (k : Fin 64)
  /-- END_MAL (R159): A microword ends the routine and raises a malformed class. -/
  | endMal (C : Fin 32) (k : Fin 64)
  /-- FAIL (R159): A microword ends the routine as parse failure UCODE_FAIL with a subcode. -/
  | failRoutine (C : Fin 32) (k : Fin 64)
  /-- FAIL_WINDOW (R159): A microword ends the routine as parse failure WINDOW. -/
  | failWindow (C : Fin 32) (k : Fin 64)
  /-- ILLEGAL_WORD (R161): A context fetches an illegal word, stops at once and sends the frame to the host with
  UCODE_FAULT. -/
  | illegalWord (C : Fin 32) (k : Fin 64)
  /-- ABORT (R163): A write of ME_CTRL.ABORT raises ABORT for every running context. -/
  | abort (C : Fin 32) (v : BitVec 32)
  /-- REDIGEST (R169): A write of CS_CTRL.REDIGEST starts reading all 4,096 store words through the maintenance
  port. -/
  | redigest (C : Fin 32) (v : BitVec 32)
  /-- REDIGEST_DONE (R169): A REDIGEST finishes and writes CS_DIGEST_NOW. -/
  | redigestDone (C : Fin 32)
  /-- CS_RD_ADDR (R173): A write of CS_RD_ADDR latches the addressed control-store word into CS_RD_DATA. -/
  | csRdAddr (w : Writer) (C : Fin 32) (v : BitVec 32)
  /-- HOSTLIM_WRITE (R139): A write of a HOSTLIM register fills that bucket to the new BURST. -/
  | hostlimWrite (w : Writer) (p : Fin 256) (r : Fin 16) (v : BitVec 32)
  /-- FRAG_EXPIRE (R145): A fragment entry's age reaches FRAG_LIFE, and the entry is freed and counted. -/
  | fragExpire (C : Fin 32)
  /-- FRAG_FLUSH (R146): A write of FRAG_CFG.FLUSH frees every fragment entry of the cluster as of the write. -/
  | fragFlush (w : Writer) (C : Fin 32) (v : BitVec 32)
  /-- FRAG_FLUSH_DONE (R146): The flush has freed every way and FLUSH_BUSY clears. -/
  | fragFlushDone (C : Fin 32)
  /-- LOOKUP_S0 (R176): Stage S0 reads PORT_VLAN, writes carry fields and merges the entry's record. -/
  | lookupS0 (p : Fin 256)
  /-- LOOKUP_S1 (R176): Stage S1 searches TUNNEL_TERM with a tunnel or label key and merges the hit or applies the
  miss action. -/
  | lookupS1 (p : Fin 256)
  /-- LOOKUP_S2 (R176): Stage S2 makes the L2 destination and source searches. -/
  | lookupS2 (p : Fin 256)
  /-- LOOKUP_S3 (R176): Stage S3 searches HOST and LPM in parallel and merges the winner. -/
  | lookupS3 (p : Fin 256)
  /-- LOOKUP_S4 (R176): Stage S4 searches the enabled ACL_IN rule groups and merges them under the per-field rule.
  -/
  | lookupS4 (p : Fin 256)
  /-- LOOKUP_S5 (R185): Stage S5 resolves NEXTHOP, ECMP or MCAST and applies the fragment table. -/
  | lookupS5 (p : Fin 256)
  /-- LOOKUP_S6 (R334): Stage S6 meters the frame at its policer and counts it at its counter pair. -/
  | lookupS6 (p : Fin 256)
  /-- LOOKUP_S7 (R185): Stage S7 maps the queue, runs the sampler, fixes the disposition and completes the
  descriptor. -/
  | lookupS7 (p : Fin 256)
  /-- LL_WAIT_END (R286): A lossless frame waiting in its pipe finds 16 KiB free in the source FIFO and enters it.
  -/
  | llWaitEnd (p : Fin 256)
  /-- LINK_REPLAY (R287): A die-to-die transfer fails its CRC and is replayed. The e-th of the other dies. -/
  | linkReplay (d : Fin 4) (e : Fin 3)
  /-- LINK_RETRAIN (R287): After 16 consecutive failures the link retrains, losing its cells in flight, and sends
  XBAR_LINK. The e-th of the other dies. -/
  | linkRetrain (d : Fin 4) (e : Fin 3)
  /-- LINK_RETRAIN_DONE (R287): The link completes retraining and resumes carrying cells. The e-th of the other
  dies. -/
  | linkRetrainDone (d : Fin 4) (e : Fin 3)
  /-- FRAME_ADMIT (R290): A frame's first cell reaches its region, which admits, spills, pushes out or refuses it.
  Input i (0 to 3 the dies, 4 the host link); whether the region's Silo write FIFO has room. -/
  | frameAdmit (G : Fin 8) (i : Fin 5) (room : Bool)
  /-- MC_ENQUEUE (R267): A region walks a multicast copy's segment and enqueues up to 32 member pointers per
  handshake. Whether the region's Silo write FIFO has room. -/
  | mcEnqueue (G : Fin 8) (room : Bool)
  /-- FRAME_TAIL_WRITTEN (R301): A frame's last cell is written to the region and a frame that is not cut through
  becomes eligible. Input i, and which of its open frames. -/
  | frameTailWritten (G : Fin 8) (i : Fin 5) (n : Nat)
  /-- SILO_READBACK (R309): The read-back engine copies a Silo frame on-die when the queue's on-die part is below
  REFILL and cells are free. Queue, stack, and the outcome of the read. -/
  | siloReadback (G : Fin 8) (q : BitVec 13) (k : Fin 2) (r : SiloRead)
  /-- HBM_REFRESH (R316): The controller issues the refresh that each stack's temperature report asks for. -/
  | hbmRefresh (d : Fin 4) (k : Fin 2)
  /-- SELF_REFRESH_ENTRY (R318): In Hold, a stack idle for SR_IDLE µs enters self-refresh. -/
  | selfRefreshEntry (d : Fin 4) (k : Fin 2)
  /-- SCHEDULER_PICK (R322): When the port's transmit path has room, the scheduler picks a queue by minimum and
  normal passes. How many bytes are there of a head frame that is still arriving. -/
  | schedulerPick (p : Fin 256) (got : Nat)
  /-- EGRESS_E0 (R177): Stage E0 searches ACL_OUT and merges the egress record into the copy. -/
  | egressE0 (p : Fin 256)
  /-- EGRESS_E1 (R272): Stage E1 decapsulates, edits TTL, labels, tags and MACs, encapsulates, fixes checksums,
  checks length and charges the copy. -/
  | egressE1 (p : Fin 256)
  /-- RW_CSUM_WAIT (R277): A copy held for the whole-frame UDP sum resumes once the whole frame is in the region
  buffer. -/
  | rwCsumWait (p : Fin 256)
  /-- EGRESS_E2 (R363): Stage E2 corrects PTP event fields or performs a host frame's time-stamp operation. -/
  | egressE2 (p : Fin 256)
  /-- EGRESS_E3 (R279): Stage E3 counts the copy at its egress counter pair. -/
  | egressE3 (p : Fin 256)
  /-- FRAME_START (R107): The transmit island starts a frame on the wire once it holds THRESH × 64 bytes or the
  whole frame. The bytes in the transmit FIFO, and the bytes sent of a frame that is preempted. -/
  | frameStart (p : Fin 256) (got : Nat) (cut : Nat)
  /-- TX_UNDERRUN (R108): The transmit FIFO empties before a frame's last byte, and the MAC stomps the FCS and
  steps THRESH. The bytes sent. -/
  | txUnderrun (p : Fin 256) (sent : Nat)
  /-- FRAME_TX_END (R289): A frame's last byte leaves and its cells return to their accounts. -/
  | frameTxEnd (p : Fin 256)
  /-- SHAPER_REFILL (R328): Every 128 ns each enabled shaper bucket gains tokens, after any pending commit applies.
  -/
  | shaperRefill (d : Fin 4)
  /-- SHAPER_COMMIT (R329): A write of a shaper's CTRL register stages its rates, bursts and enables for the next
  refill. Shaper n: queue n below 8,192, group n − 8,192 above. -/
  | shaperCommit (w : Writer) (G : Fin 8) (n : Fin 9216) (v : BitVec 32)
  /-- GATE_ENTRY_END (R340): A gate list entry's INTERVAL ends and the next entry's states take effect. -/
  | gateEntryEnd (p : PortBytes)
  /-- GATE_CYCLE_START (R340): A gate cycle starts at base time plus k × CYCLE with entry 0. -/
  | gateCycleStart (p : PortBytes)
  /-- GATE_CHANGE_REQUEST (R343): A write of GATE_CTRL.CHANGE checks the administrative list, sets PENDING and
  computes the change time. -/
  | gateChangeRequest (w : Writer) (p : Fin 256) (v : BitVec 32)
  /-- GATE_CANCEL (R344): A write of GATE_CTRL.CANCEL clears PENDING. -/
  | gateCancel (w : Writer) (p : Fin 256) (v : BitVec 32)
  /-- GATE_CHANGE (R343): At the change time the new list starts and the banks swap, with GATE_CHANGE sent. -/
  | gateChange (p : PortBytes)
  /-- GCL_ADDR (R348): A write of GCL_ADDR latches the named gate entry into GCL_DATA0 and GCL_DATA1. -/
  | gclAddr (w : Writer) (p : Fin 256) (v : BitVec 32)
  /-- GCL_WRITE (R348): A write of GCL_DATA1 writes the whole entry into the administrative bank. -/
  | gclWrite (w : Writer) (p : Fin 256) (v : BitVec 32)
  /-- QUEUE_SAMPLE (R349): The region sampler visits a queue and records its depth and head delay. -/
  | queueSample (G : Fin 8) (q : BitVec 13)
  /-- SAMP_CLR_MAX (R350): A write of SAMP_CFG.CLR_MAX clears every queue sample maximum of the region. -/
  | sampClrMax (w : Writer) (G : Fin 8) (v : BitVec 32)
  /-- LEVEL_CHANGE (R57): A write of PKG.LEVEL_CTRL clears the sentinel offsets, suspends stepping and starts each
  rail walking to the new level. -/
  | levelChange (w : Writer) (v : BitVec 32)
  /-- RAMP_STEP (R57): RAMP_INTERVAL elapses and each walking rail moves one 5 mV step, or reaches its target. -/
  | rampStep
  /-- SENTINEL_WINDOW (R60): A sentinel window of 1,000 ticks ends, TEMPO and MARGIN are reported and the AVS
  master may step the rail. The two regions' counts in the window. -/
  | sentinelWindow (d : Fin 4) (t0 : BitVec 12) (t1 : BitVec 12)
  /-- SETTLE_END (R61): SETTLE µs after a rail step the AVS master reads the rail back and resumes counting
  windows. The rail as read back, in mV. -/
  | settleEnd (d : Fin 4) (mv : BitVec 10)
  /-- AVS_TRANSACTION_DONE (R66): An AVSBus transaction gets a response or none, and is retried or after 3 failures
  sets BUS_ERR and sends AVS. -/
  | avsTransactionDone (d : Fin 4) (r : AvsResult)
  /-- AVS_BUS_ERR_CLEAR (R66): Clearing BUS_ERR resumes sentinel stepping. -/
  | avsBusErrClear (w : Writer) (d : Fin 4) (v : BitVec 32)
  /-- SENT_CLR (R60): A write of SENT_CLR.CLR_MIN resets the region's TEMPO_MIN and MARGIN_MIN. -/
  | sentClr (G : Fin 8) (v : BitVec 32)
  /-- SAG_WARN (R73): A rail stays below WARN_PCT for WARN_TIME, and the device drives SAG_WARN_N low and sends
  SAG_WARN. -/
  | sagWarn (d : Fin 4) (mv : BitVec 10)
  /-- SAG_WARN_RELEASE (R73): Every rail has been above its warning threshold for 1 µs and SAG_WARN_N is released.
  -/
  | sagWarnRelease
  /-- SAG_RESET (R74): A rail stays below RESET_PCT for RESET_TIME and the whole package takes a sag reset. -/
  | sagReset (d : Fin 4) (mv : BitVec 10)
  /-- SAG_RESET_END (R488): Every VDD_CORE rail has been above its warning threshold for 100 µs and the boot
  sequencer reruns. -/
  | sagResetEnd (straps : BitVec 7)
  /-- SAG_CLR_MIN (R73): A write of SAG_STATUS.CLR_MIN sets MIN_MV to 0x3FF. -/
  | sagClrMin (w : Writer) (d : Fin 4) (v : BitVec 32)
  /-- TBL_READ (R207): Table command READ returns an entry or part, by index or slot. -/
  | tblRead (w : Writer) (d : Fin 4) (v : BitVec 32)
  /-- TBL_WRITE (R258): Table command WRITE replaces an entry or part of a direct or associative table. -/
  | tblWrite (w : Writer) (d : Fin 4) (v : BitVec 32)
  /-- TBL_INSERT (R212): Table command INSERT places or replaces an exact-match entry by key, displacing entries if
  needed. -/
  | tblInsert (w : Writer) (d : Fin 4) (v : BitVec 32)
  /-- TBL_DELETE (R207): Table command DELETE removes an entry by key, position or index. -/
  | tblDelete (w : Writer) (d : Fin 4) (v : BitVec 32)
  /-- TBL_SEARCH (R207): Table command SEARCH finds an entry by key and returns it or its position. -/
  | tblSearch (w : Writer) (d : Fin 4) (v : BitVec 32)
  /-- MOVE_BLOCK (R243): Table command MOVE_BLOCK shifts a run of associative positions by one, step by step. -/
  | moveBlock (w : Writer) (d : Fin 4) (v : BitVec 32)
  /-- TBL_FENCE (R194): Table command FENCE issues a fence tagged ARG at its acceptance. -/
  | tblFence (w : Writer) (d : Fin 4) (v : BitVec 32)
  /-- TBL_DIGEST (R207): Table command DIGEST returns the die's digest of the table. -/
  | tblDigest (w : Writer) (d : Fin 4) (v : BitVec 32)
  /-- TBL_BAD_OP (R207): A command with an opcode not defined for the table completes with BAD_OP and changes
  nothing. An opcode of 8 to 15. -/
  | tblBadOp (w : Writer) (d : Fin 4) (v : BitVec 32)
  /-- EM_TMPL_COMMIT (R205): A write of EM_TMPL_CTRL.COMMIT copies the staged words into an action template of both
  regions. -/
  | emTmplCommit (w : Writer) (d : Fin 4) (v : BitVec 32)
  /-- CMD_COMPLETE (R206): A table operation reaches its completion point, clears BUSY, sets STATUS and DONE and
  raises TBLCMD. Which of the operations in flight. -/
  | cmdComplete (d : Fin 4) (n : Nat)
  /-- FENCE_ISSUE (R195): A write of TBL[d].FENCE.ISSUE advances the die's epoch, or is refused while 3 fences are
  outstanding. -/
  | fenceIssue (w : Writer) (d : Fin 4) (v : BitVec 32)
  /-- FENCE_DONE (R194): No frame or copy of an earlier epoch remains, and the fence completes with DONE_SEEN. -/
  | fenceDone (d : Fin 4)
  /-- FENCE_TIMEOUT (R197): A fence outstanding for LIMIT ms completes with TIMEOUT_SEEN and sends FENCE_TIMEOUT.
  -/
  | fenceTimeout (d : Fin 4)
  /-- FENCE_CFG_WRITE (R197): A write of FENCE_CFG.LIMIT applies at once and may time out outstanding fences
  immediately. -/
  | fenceCfgWrite (w : Writer) (d : Fin 4) (v : BitVec 32)
  /-- GLEANER_COMMIT (R219): The engine serves a Gleaner candidate as a learn or move, and the Gleaner writes the
  event record. -/
  | gleanerCommit (d : Fin 4)
  /-- AGE_QUANTUM (R222): The age clock advances one quantum and a new sweep pass may start. -/
  | ageQuantum (d : Fin 4)
  /-- SWEEP_PASS_END (R223): A sweep pass finishes reading every slot and the next pass may start. -/
  | sweepPassEnd (d : Fin 4)
  /-- GLEANER_REMOVAL (R224): A queued aging removal rereads the stamps and deletes the entry or counts
  GLN_AGE_SAVED. -/
  | gleanerRemoval (d : Fin 4)
  /-- WINNOW_START (R229): A write of WIN_CTRL.START starts a Winnow pass after its checks. -/
  | winnowStart (w : Writer) (d : Fin 4) (v : BitVec 32)
  /-- WINNOW_STOP (R229): A write of WIN_CTRL.STOP ends the pass at its present entry. -/
  | winnowStop (w : Writer) (d : Fin 4) (v : BitVec 32)
  /-- WINNOW_COMPARE (R226): Winnow reads a shadow entry and compares it with the device, by index or by key. The
  shadow entry as read. -/
  | winnowCompare (d : Fin 4) (raw : List Byte)
  /-- WINNOW_RECHECK (R227): WIN_RECHECK after a disagreement Winnow rereads both and logs and reports it if it
  persists. The shadow entry as read again. -/
  | winnowRecheck (d : Fin 4) (raw : List Byte)
  /-- WINNOW_DMA (R228): A shadow read fails, which ends the pass, sets DMA_ERR and sends WINNOW_DMA. -/
  | winnowDma (d : Fin 4)
  /-- TIME_ARM (R356): A write of BASE_CTRL with ARM puts the base into ARMED. -/
  | timeArm (i : Fin 2) (v : BitVec 32)
  /-- TIME_STEP_REQUEST (R357): A write of BASE_CTRL with STEP schedules a step at the step instant with the step
  values of the write. -/
  | timeStepRequest (i : Fin 2) (v : BitVec 32)
  /-- TIME_STEP (R357): At the step instant an ARMED base is set or offset and enters STEPPED, or the step is
  refused. -/
  | timeStep (i : Fin 2)
  /-- RATE_WRITE (R358): A write of RATE_HI commits the 40-bit rate from the next reference tick. -/
  | rateWrite (w : Writer) (i : Fin 2) (v : BitVec 32)
  /-- TIME_REFCLK (R355): TIME_REFCLK shows no edge for 100 ns, which sets REFCLK_LOST and sends TIME_REFCLK. -/
  | timeRefclk
  /-- TIME_REFCLK_RELOCK (R355): The clock returns and the islands relock, with both bases UNARMED at 0. -/
  | timeRefclkRelock
  /-- BASE_SWITCH_REQUEST (R360): A write of TIM.ACTIVE.SWITCH requests a switch to a STEPPED base and sets
  PENDING. -/
  | baseSwitchRequest (w : Writer) (v : BitVec 32)
  /-- PORT_SWITCH (R361): A port reaches its switch point and moves gates, stamps and corrections to the new base.
  -/
  | portSwitch (p : Fin 256)
  /-- TIME_READ (R369): A read of TIME_NS latches the seconds of the same instant for the requester. -/
  | timeRead (r : Reader) (i : Fin 2)
  /-- TIME_CAPTURE (R369): A write of TIM.CAPTURE latches both bases, their states and the reference ticks at one
  tick. -/
  | timeCapture (v : BitVec 32)
  /-- PCIE_LINK_DOWN (R375): A link-down, hot reset or conventional reset resets configuration space, clears VF
  Enable and squashes all instances. -/
  | pcieLinkDown (e : PcieEvent)
  /-- DMA_ERR (R376): A DMA read ends in error, fails its job, counts DMA_ERR and sends HIF_DMA. -/
  | dmaErr (f : DmaFail)
  /-- DMA_JOB_DONE (R401): A DMA engine completes a job and is given to the next waiting instance in rotation. The
  engine, and the bytes its read brought. -/
  | dmaJobDone (e : Fin 16) (raw : List Byte)
  /-- MBOX_SEND_TO_VF (R380): A physical-function SEND copies MBOX_TO_VF into the virtual function's mailbox and
  raises its vector. -/
  | mboxSendToVf (w : Writer) (i : Fin 256) (v : BitVec 32)
  /-- MBOX_SEND_TO_PF (R380): A virtual-function SEND copies MBOX_TO_PF to MBOX_FROM_VF and raises the MBOX cause.
  -/
  | mboxSendToPf (i : Fin 256) (v : BitVec 32)
  /-- RING_ENABLE (R385): A write of 1 to a ring's ENABLE sets its indices to 0 and starts it on pass 0. -/
  | ringEnable (w : Writer) (tx : Bool) (r : BitVec 13) (v : BitVec 32)
  /-- RING_DISABLE (R385): A write of 0 to a ring's ENABLE stops it and drops its staged frames. -/
  | ringDisable (w : Writer) (tx : Bool) (r : BitVec 13) (v : BitVec 32)
  /-- TX_DOORBELL (R386): A write of TXDB makes filled transmit descriptors available. -/
  | txDoorbell (i : Fin 256) (j : BitVec 13) (v : BitVec 32)
  /-- TX_FETCH (R390): The device fetches a transmit frame in rotating order and checks it, refusing it with a
  status if it fails. The descriptors and the segments as read. -/
  | txFetch (raw : List Byte) (data : List Byte)
  /-- INJECT (R388): A through-lookup frame in the injection buffer is taken by its pipe when staging is empty and
  completes OK. -/
  | inject (p : Fin 256)
  /-- INJECT_TIMEOUT (R388): A frame waits TX_INJECT_LIMIT µs at its ring head and completes with INJECT_TIMEOUT.
  -/
  | injectTimeout (r : BitVec 13)
  /-- TX_DIRECT_HANDOFF (R389): A direct-to-queue frame's first cell enters the host link and the frame completes
  OK. -/
  | txDirectHandoff (r : BitVec 13)
  /-- RX_DELIVER (R395): A frame in slow-path staging takes a pool and ring slots and is written into buffers with
  its descriptors. The global ring. -/
  | rxDeliver (r : BitVec 13)
  /-- RX_DOORBELL (R391): A write of RXDB frees receive ring slots. -/
  | rxDoorbell (i : Fin 256) (j : BitVec 13) (v : BitVec 32)
  /-- POOL_TAIL (R395): A write of POOL_TAIL makes free-ring entries available to the pool. -/
  | poolTail (i : Fin 256) (k : Fin 4) (v : BitVec 32)
  /-- POOL_FETCH (R395): A free-ring read fills the pool cache when it holds fewer than 32 entries. The free-ring
  entries as read. -/
  | poolFetch (i : Fin 256) (k : Fin 4) (raw : List Byte)
  /-- POOL_WAIT_EXPIRE (R396): A waiting frame reaches POOL_WAIT µs and is dropped or completed with DISCARD. -/
  | poolWaitExpire (r : BitVec 13)
  /-- RING_INT_ARM (R399): A write of ARM in RXINT or TXINT arms the ring interrupt and may send at once. -/
  | ringIntArm (tx : Bool) (i : Fin 256) (j : BitVec 13) (v : BitVec 32)
  /-- RING_INT_TIMER (R399): TIMER µs pass since the first completion, and the armed ring sends its MSI-X message.
  -/
  | ringIntTimer (tx : Bool) (r : BitVec 13)
  /-- INT0_ACK (R400): A write of INT0_ACK sends the cause again if it is still pending. -/
  | int0Ack (v : BitVec 32)
  /-- INS_CMD_READ (R402): An instance command READ is translated through its window and run on the engine. -/
  | insCmdRead (i : Fin 256) (v : BitVec 32)
  /-- INS_CMD_WRITE (R403): An instance command WRITE is checked for window and references and run on the engine.
  -/
  | insCmdWrite (i : Fin 256) (v : BitVec 32)
  /-- INS_CMD_DELETE (R402): An instance command DELETE is translated through its window and run on the engine. -/
  | insCmdDelete (i : Fin 256) (v : BitVec 32)
  /-- INS_CMD_FENCE (R404): An instance command FENCE issues a fence on the named die. -/
  | insCmdFence (i : Fin 256) (v : BitVec 32)
  /-- INS_CMD_MOVE_BLOCK (R402): An instance command MOVE_BLOCK translates START and END and runs on the engine. -/
  | insCmdMoveBlock (i : Fin 256) (v : BitVec 32)
  /-- INS_CMD_NOT_PERMITTED (R403): An instance command of any other opcode, or from instance 0, completes with
  NOT_PERMITTED. -/
  | insCmdNotPermitted (i : Fin 256) (v : BitVec 32)
  /-- WIN_HOLD_CLEAR (R384): Clearing INS_CTRL.WIN_HOLD lets a held instance command start against the windows as
  they stand. -/
  | winHoldClear (w : Writer) (i : Fin 256) (v : BitVec 32)
  /-- DIRTY_SWAP (R406): A write of DIRTY_CFG.SWAP sends later marks to the other bitmap and sets SWAP_BUSY. -/
  | dirtySwap (w : Writer) (i : Fin 256) (v : BitVec 32)
  /-- DIRTY_SWAP_DONE (R406): Every bit gathered before the swap has been merged, and SWAP_BUSY clears and ACTIVE
  changes. -/
  | dirtySwapDone (i : Fin 256)
  /-- INSTANCE_RESET (R407): An FLR, a write of INS_CTRL.RESET or R375 starts an instance reset, which sets
  RESETTING. -/
  | instanceReset (i : Fin 256) (how : ResetBy)
  /-- DRAIN_END (R408): The drain empties or DRAIN_LIMIT expires, and the squash phase runs. -/
  | drainEnd (i : Fin 256)
  /-- INS_RESET (R408): The reset completes: rings and pools are disabled, RESET_DONE is set and INS_RESET is sent.
  -/
  | insReset (i : Fin 256)
  /-- RESET_RELEASE (R413): RESET_N rises, the straps are latched and the boot sequencer starts. -/
  | resetRelease (straps : BitVec 7)
  /-- HEADER_CHECK (R421): The boot sequencer reads and checks the image header and its signature block. The bytes
  as read; whether a read ran out of time; whether the flash is read in 1S-1S-1S mode. -/
  | headerCheck (raw : List Byte) (timeout : Bool) (slow : Bool)
  /-- SECTION_APPLY (R431): A staged section is checked, verified, decrypted and applied, skipped or failed. The
  section as read; whether a read ran out of time. -/
  | sectionApply (raw : List Byte) (timeout : Bool)
  /-- REGWRITE_POLL (R428): A REGWRITE poll record ends when its bits clear, or fails the section after 100 ms. -/
  | regwritePoll
  /-- REGWRITE_DELAY (R428): A REGWRITE delay record's wait of VALUE µs ends. -/
  | regwriteDelay
  /-- HOST_LOAD (R435): A write of HOST_CTRL.GO during the host wait starts reading an image from host memory. -/
  | hostLoad (w : Writer) (v : BitVec 32)
  /-- HBM_TRAIN (R437): Training of a die's stacks completes, with failed stacks taking Silo out of service. What
  the sweeps found on each of the 512 byte lanes, stack 0 first. -/
  | hbmTrain (d : Fin 4) (lanes : List LaneSweep)
  /-- BOOT_DONE (R417): The boot sequencer completes, locks RWL fields and admits the first frames to the pipes. -/
  | bootDone
  /-- FUSE_PROGRAM (R427): FUSE_CTRL OP 1 programs an owner key slot with FUSE_STAGE. -/
  | fuseProgram (w : Writer) (v : BitVec 32)
  /-- FUSE_REVOKE (R427): FUSE_CTRL OP 2 revokes an owner key slot. -/
  | fuseRevoke (w : Writer) (v : BitVec 32)
  /-- SVN_COMMIT (R436): FUSE_CTRL OP 3 raises FUSE_SVN to the running image's SVN. -/
  | svnCommit (w : Writer) (v : BitVec 32)
  /-- FUSE_DONE (R436): A fuse operation ends, clears BUSY and sets ERR if it failed to verify. Whether the
  operation verified. -/
  | fuseDone (ok : Bool)
  /-- ENUMERATE (R449): A package takes COUNT as its ring address and forwards the frame with COUNT + 1. DEST, TAG
  and payload, and whether the CRC is right. -/
  | enumerate (dest : BitVec 16) (tag : BitVec 8) (payload : List Byte) (crcOk : Bool)
  /-- RING_HOLD (R454): A HOLD frame sets the package's ring Hold level to DIE_MASK. DEST, TAG and payload, and
  whether the CRC is right. -/
  | ringHold (dest : BitVec 16) (tag : BitVec 8) (payload : List Byte) (crcOk : Bool)
  /-- RING_RELEASE (R454): A RELEASE frame sets the ring Hold level to 0. DEST, TAG and payload, and whether the
  CRC is right. -/
  | ringRelease (dest : BitVec 16) (tag : BitVec 8) (payload : List Byte) (crcOk : Bool)
  /-- RING_RESET (R455): A RESET frame performs a ring reset of the package at its EOF. DEST, TAG and payload, and
  whether the CRC is right. -/
  | ringReset (dest : BitVec 16) (tag : BitVec 8) (payload : List Byte) (crcOk : Bool) (straps : BitVec 7)
  /-- SNAPSHOT_AT (R456): A SNAPSHOT_AT frame sets the pending snapshot instant, or is refused or latched late.
  DEST, TAG and payload, and whether the CRC is right. -/
  | snapshotAt (dest : BitVec 16) (tag : BitVec 8) (payload : List Byte) (crcOk : Bool)
  /-- TALLY_LOAD (R461): A TALLY_LOAD frame stores expected digests for the sweep. DEST, TAG and payload, and
  whether the CRC is right. -/
  | tallyLoad (dest : BitVec 16) (tag : BitVec 8) (payload : List Byte) (crcOk : Bool)
  /-- TALLY_SUM (R461): A TALLY_SUM frame makes the package compare its digests and update MATCH, MISMATCH or
  SKIPPED in flight. DEST, TAG and payload, and whether the CRC is right. -/
  | tallySum (dest : BitVec 16) (tag : BitVec 8) (payload : List Byte) (crcOk : Bool)
  /-- RING_READ (R457): A READ frame returns words of the readable set in a READ_RESP. DEST, TAG and payload, and
  whether the CRC is right. -/
  | ringRead (dest : BitVec 16) (tag : BitVec 8) (payload : List Byte) (crcOk : Bool)
  /-- ACK (R453): An ACK response is forwarded cut-through toward the head, or taken into the head's RX FIFO. DEST,
  TAG and payload, and whether the CRC is right. -/
  | ack (dest : BitVec 16) (tag : BitVec 8) (payload : List Byte) (crcOk : Bool)
  /-- READ_RESP (R457): A READ_RESP response is forwarded toward the head, or taken into the head's RX FIFO. DEST,
  TAG and payload, and whether the CRC is right. -/
  | readResp (dest : BitVec 16) (tag : BitVec 8) (payload : List Byte) (crcOk : Bool)
  /-- BREAK (R452): A BREAK response is forwarded toward the head, or taken into the head's RX FIFO. DEST, TAG and
  payload, and whether the CRC is right. -/
  | breakFrame (dest : BitVec 16) (tag : BitVec 8) (payload : List Byte) (crcOk : Bool)
  /-- CHAIN_BREAK (R452): The chain input is lost, and the package sends idles, a BREAK and fault kind
  CHAIN_BREAK. -/
  | chainBreak
  /-- BREAK_REPEAT (R452): Each 1 ms while the input is lost the package sends another BREAK. -/
  | breakRepeat
  /-- CHAIN_INPUT_REGAINED (R450): The chain input regains alignment, and a package head sends ENUMERATE. -/
  | chainInputRegained
  /-- HEAD_ENUM (R450): A write of HEAD_CTRL.ENUM makes the head send ENUMERATE. -/
  | headEnum (w : Writer) (v : BitVec 32)
  /-- HEAD_SEND (R453): A write of HEAD_CTRL.SEND sends the frame in TX_HDR and TX_DATA, applying it to the head
  itself. -/
  | headSend (w : Writer) (v : BitVec 32) (straps : BitVec 7)
  /-- RX_POP (R453): A write of CHN.RX_POP discards the oldest returned frame. -/
  | rxPop (v : BitVec 32)
  /-- HEARTBEAT_SEND (R465): Every HB_INTERVAL a paired package sends HEARTBEAT. -/
  | heartbeatSend
  /-- HEARTBEAT (R465): A HEARTBEAT message marks the partner seen, with role conflicts detected. -/
  | heartbeat (role : BitVec 8) (mode : BitVec 8) (epoch : BitVec 32) (next : BitVec 64) (applied : BitVec 64)
  /-- CMD (R467): The standby takes a mirrored CMD and applies it in SEQ order. -/
  | cmd (seq : BitVec 64) (d : Fin 4) (commit : Bool) (word : BitVec 32) (index : BitVec 32) (data : List (BitVec 32))
  /-- CMD_ACK (R468): The primary takes a CMD_ACK, completes a waiting command and flags any divergence. -/
  | cmdAck (seq : BitVec 64) (status : BitVec 8) (index : BitVec 32)
  /-- GLEAN (R469): A GLEAN message becomes a remote INSERT or a remote DELETE on the same die. The record of the
  message. -/
  | glean (raw : List Byte)
  /-- FRAG (R469): A FRAG message installs a RESOLVED fragment entry, or counts FRAG_DROP. -/
  | frag (c : Fin 32) (entry : List (BitVec 32))
  /-- TIME (R469): A TIME message records the primary's time state in PEER_TIME. The body of the message. -/
  | time (body : List Byte)
  /-- TALLY (R469): A TALLY message records the partner's digests and updates TALLY_EQ. The digests of the 20
  classes. -/
  | tally (digests : List (BitVec 64))
  /-- CKPT (R469): A CKPT message delivers counter pairs for the standby's checkpoint. CKPT_ID, region, first pair,
  and the pairs. -/
  | ckpt (id : BitVec 32) (g : Fin 8) (first : BitVec 19) (raw : List Byte)
  /-- HANDOVER (R470): A HANDOVER message makes the standby apply every CMD up to its SEQ and then promote. -/
  | handover (seq : BitVec 64)
  /-- PAIR_PERIODIC_SEND (R469): Every 10 ms while mirroring the primary sends TIME, TALLY and a complete CKPT. -/
  | pairPeriodicSend
  /-- PEER_TIMEOUT (R470): No message arrives for HB_TIMEOUT, so the standby promotes or the primary goes solo. -/
  | peerTimeout
  /-- PAIR_PROMOTE (R470): The standby finishes applying received commands and becomes primary with EPOCH + 1. -/
  | pairPromote
  /-- PAIR_START (R466): A write of PAIR.CTRL.START on the primary starts mirroring, or stops it with MIRROR at 0.
  -/
  | pairStart (v : BitVec 32)
  /-- PAIR_HANDOVER (R470): A write of PAIR.CTRL.HANDOVER makes the primary stop new commands and hand over. -/
  | pairHandover (v : BitVec 32)
  /-- PAIR_HANDOVER_SEND (R470): Every mirrored CMD is acknowledged, and the primary sends HANDOVER and becomes
  standby. -/
  | pairHandoverSend
  /-- PROMOTE (R470): A write of PAIR.CTRL.PROMOTE promotes the standby at once if the partner is silent. -/
  | promote (w : Writer) (v : BitVec 32)
  /-- DEMOTE (R470): A write of PAIR.CTRL.DEMOTE makes the package standby with mirroring off. -/
  | demote (v : BitVec 32)
  /-- FAULT_MESSAGE (R477): A collector takes a fault message, gives it severity, capture, escalation and fatal
  action, and stores or forwards it. -/
  | faultMessage (h : HopStraps)
  /-- FAULT_POP (R479): A write of FLT.POP removes the oldest stored message. -/
  | faultPop (v : BitVec 32)
  /-- FAULT_INJECT (R481): A write of FLT.INJECT_HI passes a message to the named source's collector as if that
  source sent it. -/
  | faultInject (w : Writer) (v : BitVec 32)
  /-- FIRST_CLR (R480): A write of FIRST_CLR clears CAPTURED so the next qualifying message is captured. -/
  | firstClr (c : Fin 5) (v : BitVec 32)
  /-- ESC_ACK (R482): A write of ESC_ACK acknowledges serious messages up to COUNT and restarts or stops the timer.
  -/
  | escAck (w : Writer) (c : Fin 5) (v : BitVec 32)
  /-- ESCALATE (R484): The escalation timer expires, sets ACKED to RECEIVED, sends ESCALATE and takes the fatal
  action. -/
  | escalate (c : CollectorStraps)
  /-- FAULT_N_PULSE_END (R485): The FAULT_N pulse of PULSE µs ends and the pin is released unless latched or
  forced. -/
  | faultNPulseEnd
  /-- FAULT_N_CLEAR (R485): A write of FAULT_N_CTRL.CLEAR ends a latched low. -/
  | faultNClear (w : Writer) (v : BitVec 32)
  /-- POWER_ON_RESET (R540): A rail monitor or VDD_CORE below 0.5 V causes a power-on reset, held until rails are
  in range for 1 ms. -/
  | powerOnReset
  /-- PIN_RESET (R486): RESET_N low for at least 1 µs floats outputs, places HBM in self-refresh and resets the
  package. -/
  | pinReset
  /-- PACKAGE_SOFT_RESET (R486): PKG.RESET_CTRL.SOFT resets the package and reruns the boot sequencer. -/
  | packageSoftReset (w : Writer) (v : BitVec 32) (straps : BitVec 7)
  /-- DIE_RESET (R489): A die reset request enters an internal Hold and returns the die's dynamic state to reset.
  -/
  | dieReset (w : Writer) (v : BitVec 32)
  /-- DIE_RESET_DONE (R489): The die reset leaves the internal Hold and sends DIE_RESET. -/
  | dieResetDone (d : Fin 4)
  /-- FORWARDING_RESET (R490): A forwarding reset discards a die's buffers, Silo and source FIFOs and refuses
  arrivals for up to 20 µs. -/
  | forwardingReset (w : Writer) (v : BitVec 32)
  /-- FWD_RESET (R490): The forwarding reset's refusal period ends and FWD_RESET is sent. -/
  | fwdReset (d : Fin 4)
  /-- HOLD_REQUEST (R493): A write of HOLD_CTRL.HOLD or a fatal action sets the Hold latch H and opens the entry
  window. -/
  | holdRequest (w : Writer) (d : Fin 4) (v : BitVec 32)
  /-- HOLD_RELEASE (R494): A write of HOLD_CTRL.RELEASE fires the pulse release, which is lost in the entry window.
  -/
  | holdRelease (w : Writer) (d : Fin 4) (v : BitVec 32)
  /-- HOLD_REL_N (R494): HOLD_REL_N low for 20 ns fires a pulse release, or acts as a level release under PIN_MODE
  1. Whether the pin has been low for 20 ns, or has risen. -/
  | holdRelN (low : Bool)
  /-- HOLD_ENTRY (R496): The 16 ns entry window ends, pipes stop and in-flight frames are lost and counted. -/
  | holdEntry (d : Fin 4)
  /-- HOLD_ENTER (R496): Every context is idle or parked, outputs float, HELD sets and HOLD_ENTER is sent. -/
  | holdEnter (d : Fin 4)
  /-- HOLD_EXIT (R498): Release completes, outputs are driven, HELD clears, HOLD_EXIT is sent and ports restart
  bring-up. -/
  | holdExit (d : Fin 4)
  /-- PMC_SEL (R502): A write of PMC_SEL selects an event and sets its counter to 0. -/
  | pmcSel (w : Writer) (u : CounterUnit) (k : Fin 8) (v : BitVec 32)
  /-- PMC_CLR (R501): PMC_CTRL.CLR sets the unit's programmable counters to 0. -/
  | pmcClr (w : Writer) (u : CounterUnit) (v : BitVec 32)
  /-- PMC_FREEZE (R501): PMC_CTRL.FREEZE stops or restarts the unit's programmable counters. -/
  | pmcFreeze (w : Writer) (u : CounterUnit) (v : BitVec 32)
  /-- FREEZE_ALL (R503): A write of PMC_GLOBAL.FREEZE_ALL sets FREEZE in every unit at one tick. -/
  | freezeAll (w : Writer) (v : BitVec 32)
  /-- CLEAR_ALL (R503): PMC_GLOBAL.CLEAR_ALL clears every unit's programmable counters at one tick. -/
  | clearAll (w : Writer) (v : BitVec 32)
  /-- BW_WINDOW (R507): A bandwidth window ends and the MAC publishes its byte counts and maxima. -/
  | bwWindow (p : Fin 256)
  /-- BW_CFG_WRITE (R507): A write of BW_CFG clears maxima or restarts measurement with a new WINDOW. -/
  | bwCfgWrite (w : Writer) (p : Fin 256) (v : BitVec 32)
  /-- SNAP_NOW (R509): A write of SNAP_CTRL.NOW latches every counter at the next tick. -/
  | snapNow (w : Writer) (v : BitVec 32)
  /-- SNAP_ARM (R509): A write of SNAP_CTRL.ARM sets a pending snapshot instant, or is refused. -/
  | snapArm (w : Writer) (v : BitVec 32)
  /-- SNAP_CANCEL (R509): A write of SNAP_CTRL.CANCEL removes the pending instant. -/
  | snapCancel (w : Writer) (v : BitVec 32)
  /-- SNAPSHOT_LATCH (R508): The named base reaches the pending instant and every counter is latched into its copy.
  -/
  | snapshotLatch
  /-- SNAP_ADDR (R510): A write of SNAP_ADDR selects the snapshot copy that SNAP_DATA returns. -/
  | snapAddr (w : Writer) (v : BitVec 32)
  /-- TRACE_RECORD_WRITE (R511): A filtered trace record is written whole to its die's ring, or dropped if the
  write FIFO is full. Whether the die's trace write FIFO has room. -/
  | traceRecordWrite (d : Fin 4) (room : Bool)
  /-- TRC_UNFREEZE (R512): A write of TRC_CTRL.UNFREEZE ends a frozen trace ring. -/
  | trcUnfreeze (v : BitVec 32)
  /-- TRC_RESTART (R512): A write of TRC_CTRL.RESTART clears STOPPED in stop mode. -/
  | trcRestart (v : BitVec 32)
  /-- TRC_RD_ADDR (R514): A write of TRC_RD_ADDR latches a trace unit into TRC_RD_DATA. -/
  | trcRdAddr (w : Writer) (v : BitVec 32) (r : TraceRead)
  /-- OBS_REG (R516): An OBS REG transaction returns COUNT register words. The first offset and the number of
  words. -/
  | obsReg (a : BitVec 32) (n : BitVec 8)
  /-- OBS_SNAP (R516): An OBS SNAP transaction returns COUNT snapshot copies. The first offset and the number of
  copies. -/
  | obsSnap (a : BitVec 32) (n : BitVec 8)
  /-- OBS_TRACE (R516): An OBS TRACE transaction returns trace units. The first unit and the outcome of each read.
  -/
  | obsTrace (d : Fin 4) (u : BitVec 26) (rs : List TraceRead)
  /-- THERMTRIP (R548): A sensor reads 120 °C for 10 µs and THERMTRIP_N goes low until VDD_IO is removed. -/
  | thermtrip
  /-- SYS_REFCLK_LOST (R544): Loss of SYS_REFCLK causes a power-on reset held until the clock has run for 1 ms. -/
  | sysRefclkLost
  /-- SERDES_REFCLK_LOST (R544): Loss of SERDES_REFCLK takes every port of its L-die down with a local fault. The
  L-die, and the ports with a frame in reception. -/
  | serdesRefclkLost (l : Fin 8) (cuts : BitVec 32)
  /-- SHAIX_REFCLK_LOST (R544): Loss of SHAIX_REFCLK takes the Shaix link down. -/
  | shaixRefclkLost
  /-- POWER_ON_RESET_END (R540): A power-on reset caused in service ends once every rail, and SYS_REFCLK, has been
  in range for 1 ms, and the boot sequencer reruns. -/
  | powerOnResetEnd (straps : BitVec 7)
  /-- SERDES_REFCLK_RETURN (R544): SERDES_REFCLK of an L-die returns and bring-up of every enabled port of that
  L-die restarts. -/
  | serdesRefclkReturn (l : Fin 8)
  /-- PCIE_LINK_UP (R418): After RESET_N and PCIE_PERST_N release, or after a link-down, the PCIe endpoint trains
  and HIF.LINK_STATUS.UP sets. -/
  | pcieLinkUp (width : BitVec 5) (rate : Fin 16)
  /-- SHAIX_LINK_UP (R463): The Shaix link completes training and the PCS gains alignment, setting
  PAIR.STATUS.LINK_UP. -/
  | shaixLinkUp
  /-- SHAIX_LINK_DOWN (R463): The Shaix PCS loses alignment and PAIR.STATUS.LINK_UP clears. -/
  | shaixLinkDown
  /-- BAD_FRAMES (R448): A chain frame of an undefined KIND, or a LEN its kind does not allow, is forwarded without
  being acted on and counted in CHN.BAD_FRAMES. KIND, DEST, TAG and payload. -/
  | badFrames (kind : BitVec 8) (dest : BitVec 16) (tag : BitVec 8) (payload : List Byte)
  /-- MSG_ERR (R464): A Shaix message with a bad FCS or an undefined TYPE is discarded and counted in PAIR.MSG_ERR.
  -/
  | msgErr
deriving DecidableEq, Repr

end Sys2Proof
end

