-- ==== Sys2Proof/Decode.lean ====
section
/-!
DEFINITION. Decode.lean: the command that a word of spec/opcode_table.json spells. The table gives no row any bits ("fields" is
empty in every row): the block has no instruction encoding of its own, and no word spells a command. The words of the parse
microcode, which the block's microengines run, are decoded in Machine/Microword.lean.
-/
namespace Sys2Proof

/-- The command that the table's bits of a word spell: none, for every word. -/
def decodeTableWord (_nbits _w : Nat) : Option Instr := none

end Sys2Proof
end

