-- ==== Sys2Proof/Config.lean ====
section
/-!
DEFINITION. Config.lean: the values the spec leaves open (free values). None has a body: no proof can see what they are.
-/
namespace Sys2Proof

/-- A free value of w bits: the n-th one the block draws. The spec constrains it only where the caller says so
(assumption 1). -/
opaque Config.freeValue (w : Nat) (n : Nat) : BitVec w

/-- Where JEDEC HBM4 and the controller place the 256-byte unit u of a stack: its pseudo-channel, its bank there and its row. The spec
gives neither their numbers nor the map (R315, assumption 129). -/
opaque Config.hbmChannel (u : Nat) : BitVec 16
opaque Config.hbmBank (u : Nat) : Nat
opaque Config.hbmRow (u : Nat) : Nat

/-- Which of several widest runs of passing taps HBM training takes, and which way half a tap of its centre goes; a sweep with no
passing tap has any centre (R437, assumption 134). -/
opaque Config.runPick (sweep : BitVec 128) : Nat

end Sys2Proof
end

