-- ==== Sys2Proof/Machine/Map.lean ====
section
/-!
DEFINITION. Machine/Map.lean: sparse tables as plain data. A table is a list of (key, value) pairs in one canonical
form: keys strictly rising, and no entry equal to what an unlisted key reads as. Every register, table memory, buffer
and per-element state of the block is held in this form, so that equal contents are equal data.
-/
namespace Sys2Proof.Machine

/-- A sparse table from numbers to values. -/
abbrev SMap (α : Type) : Type := List (Nat × α)

/-- The value at key k; `dflt` where nothing is listed. -/
def SMap.get {α : Type} (dflt : α) : SMap α → Nat → α
  | [], _ => dflt
  | (k, v) :: m, i => if k = i then v else SMap.get dflt m i

/-- Lists v at key i, in key order. -/
def SMap.put {α : Type} : SMap α → Nat → α → SMap α
  | [], i, v => [(i, v)]
  | (k, w) :: m, i, v =>
    if i < k then (i, v) :: (k, w) :: m
    else if i = k then (i, v) :: m
    else (k, w) :: SMap.put m i v

/-- Takes key i off the list. -/
def SMap.del {α : Type} (m : SMap α) (i : Nat) : SMap α := m.filter (fun e => e.1 != i)

/-- Sets key i to v: writing what an unlisted key reads as takes the entry off the list. -/
def SMap.set {α : Type} [DecidableEq α] (dflt : α) (m : SMap α) (i : Nat) (v : α) : SMap α :=
  if v = dflt then SMap.del m i else SMap.put m i v

/-- Changes the value at key i by f. -/
def SMap.mod {α : Type} [DecidableEq α] (dflt : α) (m : SMap α) (i : Nat) (f : α → α) : SMap α :=
  SMap.set dflt m i (f (SMap.get dflt m i))

/-- The entry at key i, where one is listed. -/
def SMap.find {α : Type} : SMap α → Nat → Option α
  | [], _ => none
  | (k, v) :: m, i => if k = i then some v else SMap.find m i

/-- Takes off every entry whose key satisfies p. -/
def SMap.drop {α : Type} (m : SMap α) (p : Nat → Bool) : SMap α := m.filter (fun e => !p e.1)

/-- The canonical form: keys strictly rising, and no entry equal to the default. -/
def SMap.wf {α : Type} [DecidableEq α] (dflt : α) : SMap α → Bool
  | [] => true
  | (k, v) :: m => decide (v ≠ dflt) && m.all (fun e => decide (k < e.1)) && SMap.wf dflt m

end Sys2Proof.Machine
end

