-- ==== Sys2Proof/Machine/Parts.lean ====
section
/-!
DEFINITION. Machine/Parts.lean: the parts that the block's state is made of, as plain data: what the registers of the
spec do not show (queues, timers, frames in flight, engines), one structure for each kind of element.
-/
namespace Sys2Proof.Machine
open Sys2Proof

/-! ## Time (ch. 12) -/

/-- The state of a time base (R356). -/
inductive BaseState where
  | unarmed | armed | stepped
deriving DecidableEq, Repr

/-- A step waiting for its step instant (R357): the tick it applies at, its mode and its values, as they stood at the
write. -/
structure PendStep where
  at_ : Nat
  add : Bool
  s : Nat
  ns : Nat
deriving DecidableEq, Repr

/-- A time base (R352, R353): seconds, nanoseconds, the fraction in 2^-48 ns, the state, the rate in force and a committed
one that the next tick takes (R358), the steps waiting, and the advance since reset in 2^-48 ns, steps left out (what R364
measures residence with). -/
structure TimeBase where
  s : Nat := 0
  ns : Nat := 0
  frac : Nat := 0
  state : BaseState := .unarmed
  rate : Int := 0
  rateNext : Option Int := none
  steps : List PendStep := []
  advance : Nat := 0
deriving DecidableEq, Repr

/-- An instant of a base as a stamp carries it: the base, its STEPPED bit, seconds and nanoseconds (R368, R479). -/
structure Stamp where
  base : Nat := 0
  stepped : Bool := false
  s : Nat := 0
  ns : Nat := 0
deriving DecidableEq, Repr

/-! ## Faults (ch. 16) -/

/-- A fault message (Table 16-1) with what its first collector records beside it: the time stamp (R479), the
reference ticks, and the requester and access of Table 16-6. -/
structure Msg where
  typ : Nat
  idx : Nat
  kind : Nat
  sev : Nat := 0
  lost : Bool := false
  injected : Bool := false
  addr : Nat := 0
  seq : Nat := 0
  stamp : Stamp := {}
  ref : Nat := 0
  requester : Nat := 0x1FF
  access : Nat := 0
deriving DecidableEq, Repr

/-- A collector: the messages it holds, oldest first; whether it dropped one since the last it stored; the drops since
the last FLT_LOST message; the arrival ticks of the 64 most recent serious messages, newest first (R478, R482); the SEQ that
the package collector gives next (R477). -/
structure Collector where
  held : List Msg := []
  dropped : Bool := false
  lostSince : Nat := 0
  arrivals : List Nat := []
  seq : Nat := 0
deriving DecidableEq, Repr

/-! ## Observation (ch. 17) -/

/-- A trace record that a source has produced and the ring has not yet written (R511): its type, its ring, its body,
what the filters of R513 look at, and whether a ring in FREEZE_FATAL mode freezes after it (R512). -/
structure TraceRec where
  typ : Nat
  die : Nat
  body : List Byte
  sev : Nat := 0
  opcode : Nat := 0
  table : Nat := 0
  failed : Bool := false
  requester : Nat := 0x1FF
  region : Nat := 0
  freeze : Bool := false
  stamp : Stamp := {}
deriving DecidableEq, Repr

/-- The trace ring of a die (R511 to R514): its 32-byte units in the HBM, by position in the ring; LOST of the next
header; the bytes written since RESTART, for stop mode. -/
structure TraceRing where
  units : SMap (List Byte) := []
  lost : Bool := false
  since : Nat := 0
deriving DecidableEq, Repr

/-- A pending snapshot instant (R456, R509): its base, seconds, nanoseconds and tag. -/
structure PendSnap where
  base : Nat := 0
  s : Nat := 0
  ns : Nat := 0
  tag : Nat := 0
deriving DecidableEq, Repr

/-- What the device does on the xSPI bus (R416, R419): it pulses NVM_RESET_N; the soft reset and Read SFDP commands, in 1S-1S-1S mode
at 50 MHz; entry into 8D-8D-8D mode; reads from an address on, in 8D-8D-8D or 1S-1S-1S mode, at a clock in MHz. -/
inductive NvmOp where
  | pulseReset | softReset | readSfdp | enterOctal
  | read (octal : Bool) (mhz addr : Nat)
deriving DecidableEq, Repr

/-- What leaves the block, in the order it leaves. -/
inductive Output where
  /-- Words answered to a read of requester `req`. -/
  | readData (req : Nat) (words : List Nat)
  /-- A frame or a fragment on the transmit lanes of a port, FCS included. -/
  | wire (port : Nat) (bytes : List Byte)
  /-- An MSI-X message: function and vector (R399, R400). -/
  | msix (inst vec : Nat)
  /-- A PCIe memory write of the DMA engines on behalf of an instance. -/
  | dma (inst addr : Nat) (bytes : List Byte)
  /-- A frame on the Sheaf chain output, from DEST to its CRC (Table 15-1). -/
  | chain (bytes : List Byte)
  /-- A message on the Shaix link: its type and payload (ch. 15). -/
  | shaix (type : Nat) (payload : List Byte)
  /-- A voltage command of die d's AVS master, in mV (R65). -/
  | avs (die mv : Nat)
  /-- A pin driven low or released. -/
  | pin (name : String) (low : Bool)
  /-- The answer of the OBS port: status and words (R516). -/
  | obs (status : Nat) (words : List Nat)
  /-- The base and next pages of a negotiation of a port, which advertise one ability: the PHY type of SPEED and MEDIA (R81). -/
  | negotiate (port speed media : Nat)
  /-- A port begins, or ends, sending remote fault to its partner (R90). -/
  | remoteFault (port : Nat) (on : Bool)
  /-- A verify request of a port, or its answer to its partner's (R117, R119). -/
  | verify (port : Nat) (answer : Bool)
  /-- The xSPI bus is driven, or floated (R420). -/
  | nvmBus (driven : Bool)
  /-- What the device does to the flash (R419). -/
  | nvm (op : NvmOp)
deriving DecidableEq, Repr

/-! ## F-die: rail, Hold, collector (ch. 02, 16) -/

/-- The phases of a Hold (Table 16-15, R498): the entry window, from Hold entry to step 4, held, and the exit. -/
inductive HoldPhase where
  | idle | window | parking | held | exiting
deriving DecidableEq, Repr

/-- What a die holds beside its registers. Rail (R57 to R66): the voltage last written over AVSBus, whether that write is still to be
confirmed, and the voltage last confirmed; the walk, its target and the tick of its last step; the windows counted below and above,
SETTLE running and the tick it ends at, and the failures of the transaction in progress; the reference of the sag monitor (R75). Hold
(R493 to R499): the phase, the tick of the request, a release that will act at step 4, the internal request of a die
reset, the cause of Table 16-14, the frames lost at this entry. The forwarding reset's refusal period (R490). By stack,
the tick of its last access, or of Hold entry (R318). The Silo cell given out next, and the queue read back last, plus 1 (region of the
die × 8,192 + queue; R306, R309). The die collector (R477). -/
structure Die where
  cmdMv : Nat := 765
  writing : Bool := false
  confMv : Nat := 765
  walking : Bool := false
  target : Nat := 765
  stepAt : Nat := 0
  below : Nat := 0
  above : Nat := 0
  settling : Bool := false
  settleAt : Nat := 0
  avsFails : Nat := 0
  sagMv : Nat := 765
  phase : HoldPhase := .idle
  holdAt : Nat := 0
  release : Bool := false
  resetting : Bool := false
  cause : Nat := 0
  dropped : Nat := 0
  refusing : Bool := false
  srAt : SMap Nat := []
  siloNext : Nat := 0
  siloTurn : Nat := 0
  col : Collector := {}
deriving DecidableEq, Repr

/-! ## Parsing (ch. 04, 05) -/

/-- A bucket of a host limiter (R139): the thousandths of a token missing from full, and the µs it was last brought up
to date. -/
structure Bucket where
  missing : Nat := 0
  at_ : Nat := 0
deriving DecidableEq, Repr

/-- An entry of a fragment table (R141 to R149): its key bytes, whether it is PENDING, the tick of its creation or last
rewrite, the stored result, and the frame that will complete it. -/
structure FragEntry where
  v6 : Bool := false
  key : List Byte := []
  pending : Bool := true
  born : Nat := 0
  result : SMap Nat := []
  owner : Nat := 0
deriving DecidableEq, Repr

/-! ## Search ports of banks (ch. 07, 08) -/

/-- A read that a search asks of a bank: a place of the exact-match store of the frame's region (R201); an LPM bank of die e (R249); an
ACL_IN bank of local cluster c of die e in a cascade, through the port of unit u (R254). -/
inductive Ask where
  | em (slot : Nat)
  | lpm (e bank : Nat)
  | acl (e c u bank : Nat)
deriving DecidableEq, Repr

/-- What the banks of a region have served in the handshake in progress, which takes one reference tick (assumption 9). -/
structure Cycle where
  at_ : Nat := 0
  served : List Ask := []
deriving DecidableEq, Repr

/-! ## Between the pipes and the wire (ch. 09 to 11) -/

/-- The receive errors of R93, and a failed reassembly (R119). -/
inductive RxErr where
  | runt | oversize | codeword | fcs | assembly
deriving DecidableEq, Repr

/-- What the host asked of a frame it sent (R367, R388, R389): the instance and ring, the time-stamp operation, OFF_PTP and
the reference time, and whether E1 leaves it unchanged (a direct frame with RW_EN 0). -/
structure HostTx where
  inst : Nat
  ring : Nat
  slot : Nat := 0
  op : Nat
  offPtp : Nat
  refS : Nat
  refNs : Nat
  noRw : Bool := false
deriving DecidableEq, Repr

/-- A frame that has left S7, or a host frame sent direct to queue: the number of its ingress frame (0 for a direct one),
its bytes as received, its descriptor D0 to D15 (Table 6-13), the multicast group entry it carries (R264), its receive
stamp and the two bases' advance at it, an error the MAC will find only after the head has left, whether the tail is
marked bad (R111), the ingress die and its fence epoch (R194), what the host asked, and what E1 needs beyond the
descriptor: whether DECAP_OFF is the offset of an inner Ethernet header (R273), and PROTO as parsed (R276). -/
structure Pkt where
  id : Nat := 0
  bytes : List Byte := []
  desc : SMap Nat := []
  group : SMap Nat := []
  stamp : Stamp := {}
  advA : Nat := 0
  advB : Nat := 0
  late : Option RxErr := none
  bad : Bool := false
  die : Nat := 0
  epoch : Nat := 0
  host : Option HostTx := none
  innerEth : Bool := false
  proto : Nat := 0
deriving DecidableEq, Repr

/-- A frame in a source FIFO or on the host link (R284): waiting, partly sent into an admitted store, or being discarded
after a refusal (R290). -/
inductive CellState where
  | waiting | writing (sid : Nat) | siloing (q : Nat) | refused
deriving DecidableEq, Repr
structure Transit where
  pkt : Pkt := {}
  st : CellState := .waiting
deriving DecidableEq, Repr

/-- A frame in a region's cells (R289): whether its tail has been written, its pointers not yet sent or dropped, the queue
of a unicast frame, whether it is a multicast copy, and its cells by account: the queue's own (reserved and shared of a
lossy queue, reserved of a lossless one), its lossless group's, and the tail reserve's. `got`: the bytes of it that are known to have
been written while it still arrives (R301). -/
structure Stored where
  pkt : Pkt := {}
  whole : Bool := false
  got : Nat := 0
  refs : Nat := 0
  q : Nat := 0
  mc : Bool := false
  own : Nat := 0
  grp : Nat := 0
  tail : Nat := 0
deriving DecidableEq, Repr

/-- A queue pointer (R265, R291): the stored frame, the copy's egress port and REWRITE entry, the tick of its enqueue, and
whether the copy goes cut-through (R106). -/
structure Ptr where
  sid : Nat := 0
  eg : Nat := 0
  rw : Nat := 0
  enq : Nat := 0
  ct : Bool := false
deriving DecidableEq, Repr

/-- A frame of a queue in Silo (R306 to R310): its number in arrival order at its region, which stored frames share (R267), its copy's
egress port and REWRITE entry, the tick of its enqueue, whether its tail has been written, whether it is void (R305), the cells charged,
its first cell in the die's Silo, and the two copies of its link record, one on each stack: the first cell of the next frame of its
queue. -/
structure SiloFrame where
  pkt : Pkt := {}
  arr : Nat := 0
  eg : Nat := 0
  rw : Nat := 0
  mc : Bool := false
  enq : Nat := 0
  whole : Bool := false
  void : Bool := false
  charge : Nat := 64
  pos : Nat := 0
  link0 : Option Nat := none
  link1 : Option Nat := none
deriving DecidableEq, Repr

/-- A class queue (R289, R307): its on-die pointers in order, its on-die cells (those charged to its own account), its
cells charged to lossless groups, whether it is spilled, its Silo part in order, and the stored frame into which the front Silo frame is
being copied (R309). -/
structure Queue where
  ptrs : List Ptr := []
  use : Nat := 0
  grp : Nat := 0
  spilled : Bool := false
  silo : List SiloFrame := []
  copying : Option Nat := none
deriving DecidableEq, Repr

/-- A lossless group (IN_PORT, LL_PRI) (R296 to R298): shared cells, headroom cells (borrowed ones included), borrowed
cells, and whether it is in XOFF. -/
structure LlGroup where
  shared : Nat := 0
  hdrm : Nat := 0
  borrowed : Nat := 0
  xoff : Bool := false
deriving DecidableEq, Repr

/-- A frame whose pointers wait for enqueue, in arrival order (R267): the stored frame, the next pool entry and the members
left; a unicast frame waits its turn with one. -/
structure McPend where
  sid : Nat
  next : Nat
  left : Nat
  uni : Bool := false
deriving DecidableEq, Repr

/-- The settings of a shaper (R329): the enables, rates in Mb/s, bursts in 64-byte units. -/
structure ShCfg where
  minEn : Bool := false
  maxEn : Bool := false
  minRate : Nat := 0
  maxRate : Nat := 0
  minBurst : Nat := 256
  maxBurst : Nat := 256
deriving DecidableEq, Repr

/-- A shaper (R328, R329): the settings in force, the two counts in 1/4,096 byte, and a commit that waits. -/
structure Shaper where
  cfg : ShCfg := {}
  minTok : Int := 0
  maxTok : Int := 0
  pend : Option ShCfg := none
deriving DecidableEq, Repr

/-- The token counts of a policer in one region, in thousandths of a bit, and the tick they were brought up to date. -/
structure PolTok where
  c : Nat := 0
  p : Nat := 0
  at_ : Nat := 0
deriving DecidableEq, Repr

/-- A pair of table COUNTER in one region, and its snapshot copy (R505, R509). -/
structure Pair where
  packets : Nat := 0
  bytes : Nat := 0
  snapPackets : Nat := 0
  snapBytes : Nat := 0
deriving DecidableEq, Repr

/-- What a region holds beside its registers and the table entries of its die: stored frames and queues, lossless groups, frames
waiting for pointers, Silo cells lost to failed link records (R317), shapers (queue q at q, group n at 8,192 + n), policer tokens,
counter pairs, SAMPLER counts, samples since one was last kept for the trace (R513), the bucket of TTL_HOSTLIM, the input whose
turn at the write port comes next (R285), and what its search banks have served in this handshake, with the pipe each served last,
plus 1 (R201, R249). -/
structure Region where
  stored : SMap Stored := []
  next : Nat := 1
  queues : SMap Queue := []
  groups : SMap LlGroup := []
  mcPend : List McPend := []
  leaked : Nat := 0
  shapers : SMap Shaper := []
  pol : SMap PolTok := []
  pairs : SMap Pair := []
  sampler : SMap Nat := []
  sampleDiv : Nat := 0
  ttlLim : Bucket := {}
  inTurn : Nat := 0
  cycle : Cycle := {}
  bankTurn : SMap Nat := []
deriving DecidableEq, Repr

/-- How far a copy has come in the transmit path (R272, R107). -/
inductive TxStage where
  | e0 | e1 | csum | e2 | e3 | fifo | sending | preempted
deriving DecidableEq, Repr

/-- A copy that the scheduler has picked: its region's stored frame, its queue, egress port and REWRITE entry, its stage, its
bytes without FCS as the stages left them, its descriptor, its egress counter (and whether E0 replaced it), its egress
epoch, the change of its length in E1, what E2 asks of the transmit island (0 nothing, 1 residence, 2 residence and link
delay, 3 origin time, 4 turnaround), whether it is express, whether its picks at the group and at the port charge their
deficits (R323, R324), the bytes that have come to the transmit FIFO, the bytes sent when it was preempted, and the tick its
fragment on the wire started at. -/
structure TxCopy where
  sid : Nat := 0
  q : Nat := 0
  eg : Nat := 0
  rw : Nat := 0
  stage : TxStage := .e0
  bytes : List Byte := []
  desc : SMap Nat := []
  counter : Nat := 0
  countEn : Bool := false
  cntOver : Bool := false
  epoch : Option Nat := none
  shift : Int := 0
  ptp : Nat := 0
  express : Bool := false
  qAdj : Bool := true
  gAdj : Bool := true
  filled : Nat := 0
  sent : Nat := 0
  startAt : Nat := 0
deriving DecidableEq, Repr

/-- The scheduler of a port (R322, R323): the deficit of each class queue (0 to 255) and group (256 + n), whether its turn is
open, and for each node (0 to 31 the groups, 32 the port) and strict level, at node × 8 + level, the turn pointer and the
child served last in the minimum pass, plus 1. -/
structure Sched where
  deficit : SMap Int := []
  opened : SMap Bool := []
  turn : SMap Nat := []
  rot : SMap Nat := []
deriving DecidableEq, Repr

/-- A gate list entry (R348). -/
structure GateEntry where
  states : Nat := 0xFF
  interval : Nat := 1000
deriving DecidableEq, Repr

/-- The gate list of a port (R340 to R345): the entries of both banks (bank × 1,024 + entry), whether the operating list runs
on the port's base, the start of the entry in force in ns of that base, the change time, the cycle start at which the
list resumes after a step, and the cycle start until which the last entry runs on after a switch of bases (R361). -/
structure Gate where
  banks : SMap GateEntry := []
  run : Bool := false
  entryAt : Nat := 0
  changeAt : Option Nat := none
  resumeAt : Option Nat := none
  holdTill : Option Nat := none
deriving DecidableEq, Repr

/-- A link between two dies (R287): whether it is trained, and the transfers that have failed in a row at its lower-numbered and at its
higher-numbered end. -/
structure Link where
  trained : Bool := false
  failsLow : Nat := 0
  failsHigh : Nat := 0
deriving DecidableEq, Repr

/-! ## The HBM controller (ch. 10) -/

/-- A request to the controller (R315): a write or a read of 256 bytes, its bank and row, the tick it came, and the read-back it belongs
to (0: none). -/
structure HbmReq where
  write : Bool := false
  bank : Nat := 0
  row : Nat := 0
  at_ : Nat := 0
  tag : Nat := 0
deriving DecidableEq, Repr

/-- A bank of a pseudo-channel (R315, R316): its request queue, of depth 8, in arrival order; the open row, and whether it
has yet to be accessed; the row hits in a row that went ahead of an older request; the tick of the last access. -/
structure HbmBank where
  reqs : List HbmReq := []
  row : Option Nat := none
  fresh : Bool := false
  run : Nat := 0
  last : Nat := 0
deriving DecidableEq, Repr

/-- A pseudo-channel (R315, R316): the requests that no bank queue has room for yet, its banks, the bank whose turn comes next, and whether
it drains writes. -/
structure HbmChan where
  waiting : List HbmReq := []
  banks : SMap HbmBank := []
  turn : Nat := 0
  drain : Bool := false
deriving DecidableEq, Repr

/-! ## The command engine of a die (ch. 06 to 09) -/

/-- An entry of the exact-match store (Table 7-1), at its slot index (the even slot of a pair): its stamps in the two
regions. -/
structure EmEntry where
  kind : Nat := 0
  tmpl : Nat := 0
  fwdKind : Nat := 0
  fwdIdx : Nat := 0
  key : Nat := 0
  stamp0 : Nat := 0
  stamp1 : Nat := 0
deriving DecidableEq, Repr

/-- An associative entry (Table 8-2): VALID, and the words of its KEY, MASK and ACTION parts. -/
structure Assoc where
  valid : Bool := false
  key : SMap Nat := []
  mask : SMap Nat := []
  action : SMap Nat := []
deriving DecidableEq, Repr

/-- Who issued an operation, and where its result goes (R206, R384, ch. 15): the command register of instance 0, that of
another instance, a template commit, a mirrored command or commit of the pair's primary. -/
inductive OpVia where
  | reg | inst (i : Nat) | commit | mirror (seq : Nat) (commit : Bool)
deriving DecidableEq, Repr

/-- An operation the engine has accepted: opcode, table, cluster mask, argument, index and operand words, the base of the
instance window it came through, its SEQ where the pair mirrors it (R467), and the multicast frames it waits for (R266).
Once it has run (`done`) it keeps its status, index, moves and result words, where it has any, until it completes. -/
structure TblOp where
  via : OpVia := .reg
  op : Nat := 0
  table : Nat := 0
  cmask : Nat := 0
  arg : Nat := 0
  index : Nat := 0
  data : SMap Nat := []
  base : Nat := 0
  seq : Option Nat := none
  after : List Nat := []
  done : Bool := false
  status : Nat := 0
  res : Nat := 0
  moves : Nat := 0
  out : Option (SMap Nat) := none
deriving DecidableEq, Repr

/-- What waits in the Gleaner queue: a candidate, its 62-bit key and the port it came from (R217, R218); a removal of the sweep, the
entry's table, whether it takes two slots, and its key (R223). -/
inductive GlItem where
  | cand (key port : Nat)
  | removal (table : Nat) (two : Bool) (key : Nat)
deriving DecidableEq, Repr

/-- An outstanding fence (R194): its tag, its fence point in ticks, the last epoch it covers, and the instance that issued
it (0: instance 0, through the register or the command). -/
structure Fence where
  tag : Nat
  at_ : Nat
  epoch : Nat
  inst : Nat := 0
deriving DecidableEq, Repr

/-- A disagreement that Winnow will look at again (R227): the table and the clusters compared, the shadow entry (for a count, WIN_COUNT),
its cause and copy, and the tick of the first reading. -/
structure Recheck where
  table : Nat
  mask : Nat
  pos : Nat
  cause : Nat
  copy : Nat
  at_ : Nat
deriving DecidableEq, Repr

/-- What a die's engine holds: the direct tables (table × 2^20 + index), the exact-match store, LPM, ACL_OUT and the
ACL_IN of its 8 clusters (cluster × 2^15 + position); the operations in flight in acceptance order, and whether the last one served was
the Gleaner's (R33); the Gleaner queue, its event number, its age clock, the ticks of the quantum in progress and its length in ms, and
whether a sweep pass runs or is due; the fences outstanding and the epoch; Winnow's position in its pass, disagreements to look at
again and the messages of the second in progress. -/
structure Engine where
  direct : SMap (SMap Nat) := []
  em : SMap EmEntry := []
  lpm : SMap Assoc := []
  aclOut : SMap Assoc := []
  aclIn : SMap Assoc := []
  ops : List TblOp := []
  lastGl : Bool := false
  glQueue : List GlItem := []
  seq : Nat := 0
  clock : Nat := 0
  quantumTicks : Nat := 0
  quantum : Nat := 1000
  sweeping : Bool := false
  sweepDue : Bool := false
  fences : List Fence := []
  epoch : Nat := 0
  rechecks : List Recheck := []
  winMsgs : List Nat := []
  winSeq : Nat := 0
deriving DecidableEq, Repr

/-! ## Ports (ch. 03) -/

/-- Where a port's bring-up stands (R81 to R83, R89). -/
inductive BringUp where
  | down | negotiating | training | adapting | up
deriving DecidableEq, Repr

/-- What a port holds beside its registers. Pause (R97 to R104), by priority: the quanta last loaded and the tick they were loaded
at, the tick the pause began. The XOFF requests of staging and of the region buffer, and the control frames queued, the tick at
which the last of them started, and by priority the tick of the last frame queued with its XOFF (R100, R101, R115). The frames
whose errors the MAC is still to find, oldest first (R111). Bring-up and verification, with the tick of its last attempt (R89,
R117). Whether the port has switched while a switch of bases is pending, and the end of its cycle in progress on the old base
(R360, R361). The copies in the transmit path, oldest first (R107, R118, R320), the scheduler's deficits, turns and rotation
(R322, R323), and the gate list (R339 to R348). The IPv4 identification counter (R276), the bandwidth window in progress (R507),
and the host limiter's buckets by reason (R139). -/
structure Port where
  quanta : SMap Nat := []
  loadedAt : SMap Nat := []
  since : SMap Nat := []
  stgHigh : Bool := false
  bufReq : Nat := 0
  ctrl : List (List Byte) := []
  ctrlAt : Option Nat := none
  toldAt : SMap Nat := []
  late : List (Nat × RxErr) := []
  bring : BringUp := .down
  verifyTries : Nat := 0
  verifyAt : Nat := 0
  onTarget : Bool := false
  switchAt : Option Nat := none
  tx : List TxCopy := []
  sched : Sched := {}
  gate : Gate := {}
  ipId : Nat := 0
  bwRx : Nat := 0
  bwTx : Nat := 0
  bwFrom : Nat := 0
  lims : SMap Bucket := []
deriving DecidableEq, Repr

/-- Where a frame stands in its ingress die (Table 1-7): in the staging FIFO, in the host injection buffer, in the
parse stage and pipe, waiting in its pipe for a lossless source FIFO (R286), or in the source FIFO toward a region. -/
inductive Loc where
  | staging | injected | pipe | llWait | source
deriving DecidableEq, Repr

/-- What the microengines do with a frame: nothing, it waits for a context at a control-store entry, it runs, or its
routine has ended (R129, R153). -/
inductive MeWait where
  | none | waiting (entry : Nat) | running | ended
deriving DecidableEq, Repr

/-- A frame on the ingress side. `late`: an error the MAC will find only after the head has left (R111); `bad`: it has.
The receive stamp and the two bases' advance at it (R112, R364). The header vector, the fragment key and the entry a
first fragment owns, the stage the pipe takes next, the carry word, the merged action record, the descriptor, the
multicast group entry, a host reason, what dropped it (0 an action, 1 R185, 2 R336), whether the fragment table gave its
result, whether S1 used its label key, the fence epoch, the destination regions it still waits for (R286), and while a search of it waits
for banks the reads they have still to serve. -/
structure Frame where
  port : Nat := 0
  bytes : List Byte := []
  loc : Loc := .staging
  late : Option RxErr := none
  bad : Bool := false
  stamp : Stamp := {}
  advA : Nat := 0
  advB : Nat := 0
  host : Option HostTx := none
  hv : SMap Nat := []
  me : MeWait := .none
  fragKey : List Byte := []
  fragV6 : Bool := false
  fragUse : Bool := false
  fragSlot : Option Nat := none
  stage : Nat := 0
  carry : SMap Nat := []
  rec_ : SMap Nat := []
  desc : SMap Nat := []
  group : SMap Nat := []
  reason : Nat := 0
  dropBy : Nat := 0
  fragRes : Bool := false
  label : Bool := false
  epoch : Nat := 0
  dests : List Nat := []
  asks : Option (List Ask) := none
deriving DecidableEq, Repr

/-- A microengine context (Table 5-1): the frame it runs for, its registers, its copy of the vector, a pending ABORT, and
whether it has parked. -/
structure Ctx where
  frame : Option Nat := none
  pc : Nat := 0
  cur : Nat := 0
  x : Nat := 0
  y : Nat := 0
  ovr : Bool := false
  steps : Nat := 0
  vec : SMap Nat := []
  abort : Bool := false
deriving DecidableEq, Repr

/-- What a cluster holds: its control store by address, its contexts, the unit served last (R22), its fragment table by
set × 8 + way, and the malformed limiter's bucket. -/
structure Cluster where
  store : SMap Nat := []
  ctxs : SMap Ctx := []
  lastUnit : Nat := 7
  frags : SMap FragEntry := []
  malLim : Bucket := {}
deriving DecidableEq, Repr

/-! ## Slow-path staging (ch. 13) -/

/-- A frame in slow-path staging (R392 to R396): its global ring, what its descriptors will carry, its bytes without
FCS, the tick it began to wait, the pool it has begun with, and the buffers already written (address and length). -/
structure HostFrame where
  ring : Nat := 0
  kind : Nat := 0
  code : Nat := 0
  sub : Nat := 0
  inPort : Nat := 0
  egPort : Nat := 0
  frameLen : Nat := 0
  actFwd : Nat := 0
  fwdIdx : Nat := 0
  sampleIdx : Nat := 0
  stamp : Stamp := {}
  trunc : Bool := false
  bytes : List Byte := []
  waitFrom : Option Nat := none
  pool : Option Nat := none
  counted : Bool := false
  written : List (Nat × Nat) := []
deriving DecidableEq, Repr

/-! ## Rings, pools, DMA engines and instances (ch. 13) -/

/-- A transmit frame that the device has fetched from a ring and not completed (R386 to R389): its first slot, counted on
over the passes, its slots, its port, whether it goes direct to queue, its bytes without FCS, its direct descriptor and
what the host asked, and its number in the injection buffer. -/
structure TxFrame where
  first : Nat := 0
  slots : Nat := 1
  port : Nat := 0
  direct : Bool := false
  bytes : List Byte := []
  desc : SMap Nat := []
  host : HostTx := { inst := 0, ring := 0, op := 0, offPtp := 0, refS := 0, refNs := 0 }
  id : Option Nat := none
deriving DecidableEq, Repr

/-- A transmit ring (R385, R386): the slots fetched and the slots completed since it was enabled, the frame in progress, and
the tick its next frame reached the head; and its doorbell, TXDB. -/
structure TxRing where
  fetch : Nat := 0
  hw : Nat := 0
  frame : Option TxFrame := none
  since : Nat := 0
  db : Nat := 0
deriving DecidableEq, Repr

/-- A receive ring (R385, R391): the slots taken and the slots written since it was enabled; and its doorbell, RXDB. -/
structure RxRing where
  alloc : Nat := 0
  hw : Nat := 0
  db : Nat := 0
deriving DecidableEq, Repr

/-- A buffer pool (R395): the buffers in its cache, its index in the free ring, and whether a failed read has emptied it until
the next doorbell (R376). -/
structure Pool where
  cache : List Nat := []
  head : Nat := 0
  failed : Bool := false
deriving DecidableEq, Repr

/-- The interrupt of a ring (R399): RXINT or TXINT, the completions since ARM was set, and the tick of the first. -/
structure RingInt where
  reg : Nat := 0
  done : Nat := 0
  first : Option Nat := none
deriving DecidableEq, Repr

/-- What a DMA job is for (R401): a read of a transmit frame of a ring, of pool k's free ring, of a shadow of a die; transmit
completions of n slots, a receive buffer, the descriptors of a frame of n slots, a Gleaner record of a die, a Winnow log record,
an update of a word of a dirty bitmap, counter pairs of a checkpoint, the last ones with its half and CKPT_ID (R469). -/
inductive JobKind where
  | txRead (ring : Nat)
  | poolRead (k : Nat)
  | winRead (die : Nat)
  | txDone (ring n : Nat)
  | rxBuf (ring : Nat)
  | rxDesc (ring n : Nat)
  | gleaner (die : Nat)
  | winnow
  | dirty (map word bits : Nat)
  | ckpt (done : Option (Nat × Nat))
deriving DecidableEq, Repr

/-- A DMA job: its number in order of arrival, its instance, and what it writes to host memory. -/
structure Job where
  n : Nat
  inst : Nat
  kind : JobKind
  writes : List (Nat × List Byte) := []
deriving DecidableEq, Repr

/-- What an instance holds beside its registers: a command held back by WIN_HOLD (R384), the tick its reset began and its
drain limit in ms (R407, R408), and the transmit ring served last (R390); of its function's configuration space, whether it is in D3hot
(R374), MSI-X Enable and Function Mask; and the vectors whose messages are pending, as a mask (R399). -/
structure Inst where
  held : Option Nat := none
  resetAt : Nat := 0
  limit : Nat := 0
  lastRing : Nat := 8191
  d3hot : Bool := false
  msixEn : Bool := false
  msixMask : Bool := false
  msixPend : Nat := 0
deriving DecidableEq, Repr

/-! ## The redundancy pair (ch. 15) -/

/-- A mirrored command that the primary has sent and not seen acknowledged, or not completed itself (R468): its SEQ, its own
result and the standby's, each a status and an index. -/
structure LagCmd where
  seq : Nat
  own : Option (Nat × Nat) := none
  ack : Option (Nat × Nat) := none
deriving DecidableEq, Repr

/-- What the pair holds beside its registers: the commands of the lag, whether the primary hands over, the SEQ that a
standby applies up to before it promotes, whether a promotion is applying received commands, the ticks of the last message
received, heartbeat sent and periodic state sent, the partner's role, the mode in force; on a standby the SEQ it applies next
and the commands that came before their turn (SEQ, die, operation); the CKPT_ID of the next checkpoint sent; the checkpoint
being received: its CKPT_ID, the pairs that have arrived, and the half they go to. -/
structure PairState where
  lag : List LagCmd := []
  handing : Bool := false
  promoting : Bool := false
  upTo : Option Nat := none
  seenAt : Option Nat := none
  beatAt : Option Nat := none
  sentAt : Option Nat := none
  peerRole : Nat := 0
  mode : Nat := 0
  expect : Option Nat := none
  early : List (Nat × Nat × TblOp) := []
  ckptOut : Nat := 0
  ckptId : Nat := 0
  ckptSeen : Nat := 0
  ckptHalf : Nat := 0
deriving DecidableEq, Repr

/-! ## The Sheaf chain (ch. 15) -/

/-- A chain frame without SOF, CRC and EOF (Table 15-1), and whether its CRC is wrong. -/
structure ChainFrame where
  dest : Nat := 0
  kind : Nat := 0
  len : Nat := 0
  tag : Nat := 0
  payload : List Byte := []
  crcBad : Bool := false
deriving DecidableEq, Repr

/-- What the chain interface holds beside its registers: whether the repeater runs (R445), whether the input is aligned or
lost (R443, R452), the tick of the last BREAK, the frames returned to the head, oldest first (R453), the SWEEP_ID and the
expected digests by class that the last LOADs stored (R461), and whether an ENUMERATE of the head is on the ring. -/
structure Chain where
  on : Bool := false
  locked : Bool := false
  lost : Bool := false
  breakAt : Nat := 0
  rx : List ChainFrame := []
  sweep : Nat := 0
  expected : SMap Nat := []
  enumBusy : Bool := false
deriving DecidableEq, Repr

/-! ## Start-up (ch. 14) -/

/-- Where the boot sequencer stands (Table 14-3): not started; it reads the fuses (step 2); it opens the flash (step 3); it reads a
header; it reads sections; a REGWRITE record polls or waits; it trains the HBM, with an image or on the way to the host wait; the host
wait; completed. -/
inductive BootPhase where
  | off | fuses | flash | header | sections | polling | delaying | training | trainingIdle | hostWait | done
deriving DecidableEq, Repr

/-- What the boot sequencer holds beside its registers: its phase; the tick of its reference (R416); the signed header in
force; the section in progress and its REQUIRED flag; a REGWRITE's records still to apply, and the address, mask and deadline
of the poll or delay; whether a UCODE_BASE section has been seen and one applied; the patches applied; whether the xSPI bus is driven
(R420). -/
structure Boot where
  phase : BootPhase := .off
  bus : Bool := false
  start : Nat := 0
  header : List Byte := []
  section_ : Nat := 0
  required : Bool := false
  records : List (Nat × Nat) := []
  poll : Nat := 0
  mask : Nat := 0
  till : Nat := 0
  base : Bool := false
  patches : List Nat := []
deriving DecidableEq, Repr

/-- A package reset in service that holds the package until its cause has ended (R488, R540). -/
inductive PkgHold where
  | none | sag | powerOn
deriving DecidableEq, Repr

/-- The fuses (R427): the family key and the hash of the vendor's keys, which no command changes (assumption 2); by owner slot, whether
it is programmed, its hash and its revoke bit; FUSE_SVN; and the operation that BUSY stands for, with its slot and hash. -/
structure Fuses where
  familyKey : List Byte := List.replicate 32 0
  vendorHash : List Byte := List.replicate 48 0
  programmed : Nat := 0
  revoked : Nat := 0
  hashes : SMap (List Byte) := []
  svn : Nat := 0
  op : Nat := 0
  slot : Nat := 0
  stage : List Byte := []
deriving DecidableEq, Repr

/-- The FAULT_N output (R485): the tick at which its pulse ends, and whether a latched low stands. -/
structure FaultPin where
  till : Option Nat := none
  latched : Bool := false
deriving DecidableEq, Repr

end Sys2Proof.Machine
end

