-- ==== Sys2Proof/Machine/RegFields.lean ====
section
/-!
DEFINITION. Machine/RegFields.lean: the fields of every register by name (the tables Bits | Field | Access | Reset of
spec/02 to spec/18). F.<block>_<register>_<field> is the pair of its highest and lowest bit.
-/
namespace Sys2Proof.Machine

/-- A field of a register or of a table word: bits hi to lo. -/
structure Bf where
  hi : Nat
  lo : Nat
deriving DecidableEq, Repr

/-! Fields of block PKG. -/
def F.PKG_LEVEL_CTRL_RAMP_INTERVAL : Bf := ⟨17, 8⟩
def F.PKG_LEVEL_CTRL_LEVEL : Bf := ⟨1, 0⟩
def F.PKG_LEVEL_STATUS_CURRENT : Bf := ⟨9, 8⟩
def F.PKG_LEVEL_STATUS_RAMP_ERR : Bf := ⟨5, 5⟩
def F.PKG_LEVEL_STATUS_BUSY : Bf := ⟨4, 4⟩
def F.PKG_LEVEL_STATUS_RAIL_AT_TARGET : Bf := ⟨3, 0⟩
/-! Fields of block DIE. -/
def F.DIE_SENT_CFG_STEP_DOWN_EN : Bf := ⟨31, 31⟩
def F.DIE_SENT_CFG_CONSEC : Bf := ⟨23, 20⟩
def F.DIE_SENT_CFG_CEIL_STEPS : Bf := ⟨19, 16⟩
def F.DIE_SENT_CFG_SETTLE : Bf := ⟨15, 8⟩
def F.DIE_SENT_CFG_HYST : Bf := ⟨7, 0⟩
def F.DIE_SENT_FLOOR_FLOOR : Bf := ⟨10, 0⟩
def F.DIE_AVS_STATUS_RAIL_MV : Bf := ⟨25, 16⟩
def F.DIE_AVS_STATUS_OFFSET_STEPS : Bf := ⟨11, 8⟩
def F.DIE_AVS_STATUS_AT_CEILING : Bf := ⟨4, 4⟩
def F.DIE_AVS_STATUS_BUS_ERR : Bf := ⟨3, 3⟩
def F.DIE_AVS_STATUS_READBACK_ERR : Bf := ⟨2, 2⟩
def F.DIE_AVS_STATUS_BELOW_FLOOR : Bf := ⟨0, 0⟩
def F.DIE_AVS_CFG_BUS_CLK : Bf := ⟨1, 0⟩
/-! Fields of block RGN. -/
def F.RGN_SENT_TEMPO_TEMPO_MIN : Bf := ⟨27, 16⟩
def F.RGN_SENT_TEMPO_TEMPO : Bf := ⟨11, 0⟩
def F.RGN_SENT_MARGIN_MARGIN_MIN : Bf := ⟨26, 16⟩
def F.RGN_SENT_MARGIN_MARGIN : Bf := ⟨10, 0⟩
def F.RGN_SENT_CLR_CLR_MIN : Bf := ⟨0, 0⟩
/-! Fields of block MAC. -/
def F.MAC_STG_CFG_PFC_PRI : Bf := ⟨31, 24⟩
def F.MAC_STG_CFG_XOFF : Bf := ⟨23, 16⟩
def F.MAC_STG_CFG_XON : Bf := ⟨15, 8⟩
def F.MAC_STG_CFG_MODE : Bf := ⟨1, 0⟩
/-! Fields of block DIE. -/
def F.DIE_SAG_CFG_WARN_PCT : Bf := ⟨31, 24⟩
def F.DIE_SAG_CFG_RESET_PCT : Bf := ⟨23, 16⟩
def F.DIE_SAG_CFG_WARN_TIME : Bf := ⟨15, 8⟩
def F.DIE_SAG_CFG_RESET_TIME : Bf := ⟨7, 0⟩
def F.DIE_SAG_STATUS_MIN_MV : Bf := ⟨25, 16⟩
def F.DIE_SAG_STATUS_CLR_MIN : Bf := ⟨2, 2⟩
def F.DIE_SAG_STATUS_WARN_ACTIVE : Bf := ⟨1, 1⟩
def F.DIE_SAG_STATUS_WARN_SEEN : Bf := ⟨0, 0⟩
/-! Fields of block LANE. -/
def F.LANE_CFG_RX_INVERT : Bf := ⟨1, 1⟩
def F.LANE_CFG_TX_INVERT : Bf := ⟨0, 0⟩
def F.LANE_TXEQ_PRE3 : Bf := ⟨31, 26⟩
def F.LANE_TXEQ_PRE2 : Bf := ⟨25, 20⟩
def F.LANE_TXEQ_PRE1 : Bf := ⟨19, 14⟩
def F.LANE_TXEQ_POST1 : Bf := ⟨13, 8⟩
def F.LANE_TXEQ_MAIN : Bf := ⟨7, 0⟩
def F.LANE_STATUS_SIGNAL_DETECT : Bf := ⟨31, 31⟩
def F.LANE_STATUS_CDR_LOCK : Bf := ⟨30, 30⟩
def F.LANE_STATUS_LT_ACTIVE : Bf := ⟨29, 29⟩
def F.LANE_STATUS_SNR : Bf := ⟨15, 0⟩
/-! Fields of block MAC. -/
def F.MAC_PORT_CFG_ENABLE : Bf := ⟨31, 31⟩
def F.MAC_PORT_CFG_SPEED : Bf := ⟨30, 29⟩
def F.MAC_PORT_CFG_MEDIA : Bf := ⟨28, 27⟩
def F.MAC_PORT_CFG_AN_EN : Bf := ⟨26, 26⟩
def F.MAC_PORT_CFG_LT_EN : Bf := ⟨25, 25⟩
def F.MAC_PORT_CFG_DOWN_ACTION : Bf := ⟨24, 24⟩
def F.MAC_PORT_CFG_MAX_FRAME : Bf := ⟨15, 0⟩
def F.MAC_LINK_STATUS_LINK_UP : Bf := ⟨15, 15⟩
def F.MAC_LINK_STATUS_AN_DONE : Bf := ⟨14, 14⟩
def F.MAC_LINK_STATUS_LT_DONE : Bf := ⟨13, 13⟩
def F.MAC_LINK_STATUS_ALIGN_LOCK : Bf := ⟨12, 12⟩
def F.MAC_LINK_STATUS_LOCAL_FAULT : Bf := ⟨11, 11⟩
def F.MAC_LINK_STATUS_REMOTE_FAULT : Bf := ⟨10, 10⟩
def F.MAC_LINK_STATUS_AN_NO_COMMON : Bf := ⟨9, 9⟩
def F.MAC_LINK_STATUS_LANE_LOCK : Bf := ⟨3, 0⟩
def F.MAC_LINK_EVENTS_LT_FAIL : Bf := ⟨2, 2⟩
def F.MAC_LINK_EVENTS_LINK_DOWN_SEEN : Bf := ⟨1, 1⟩
def F.MAC_LINK_EVENTS_LINK_UP_SEEN : Bf := ⟨0, 0⟩
def F.MAC_PAUSE_CFG_PFC_RX_EN : Bf := ⟨23, 16⟩
def F.MAC_PAUSE_CFG_PFC_TX_EN : Bf := ⟨15, 8⟩
def F.MAC_PAUSE_CFG_RX_MODE : Bf := ⟨3, 2⟩
def F.MAC_PAUSE_CFG_TX_MODE : Bf := ⟨1, 0⟩
def F.MAC_PAUSE_TX_CFG_QUANTA : Bf := ⟨31, 16⟩
def F.MAC_PAUSE_TX_CFG_REFRESH : Bf := ⟨15, 0⟩
def F.MAC_CTRL_SA_LO_SA_LO : Bf := ⟨31, 0⟩
def F.MAC_CTRL_SA_HI_SA_HI : Bf := ⟨15, 0⟩
def F.MAC_PAUSE_STATUS_RX_PAUSED : Bf := ⟨23, 16⟩
def F.MAC_PAUSE_STATUS_TX_XOFF : Bf := ⟨15, 8⟩
/-! Fields of block PRT. -/
def F.PRT_PAUSE_WDOG_EN : Bf := ⟨31, 24⟩
def F.PRT_PAUSE_WDOG_TIME : Bf := ⟨23, 0⟩
def F.PRT_PAUSE_WDOG_STATUS_BROKEN : Bf := ⟨15, 8⟩
def F.PRT_PAUSE_WDOG_STATUS_BREAK_SEEN : Bf := ⟨7, 0⟩
def F.PRT_CT_CFG_CT_EN : Bf := ⟨31, 31⟩
def F.PRT_CT_CFG_STEP_EN : Bf := ⟨30, 30⟩
def F.PRT_CT_CFG_THRESH : Bf := ⟨5, 0⟩
def F.PRT_CT_STATUS_AT_MAX : Bf := ⟨1, 1⟩
def F.PRT_CT_STATUS_STEPPED : Bf := ⟨0, 0⟩
/-! Fields of block MAC. -/
def F.MAC_TS_CFG_RX_ADJ : Bf := ⟨31, 16⟩
def F.MAC_TS_CFG_TX_ADJ : Bf := ⟨15, 0⟩
def F.MAC_PORT_STATE_LB_MODE : Bf := ⟨3, 2⟩
def F.MAC_PORT_STATE_STATE : Bf := ⟨1, 0⟩
def F.MAC_PREEMPT_CFG_PREEMPT_EN : Bf := ⟨31, 31⟩
def F.MAC_PREEMPT_CFG_VERIFY_EN : Bf := ⟨30, 30⟩
def F.MAC_PREEMPT_CFG_VERIFY_TIME : Bf := ⟨23, 16⟩
def F.MAC_PREEMPT_CFG_EXPRESS_PRI : Bf := ⟨15, 8⟩
def F.MAC_PREEMPT_CFG_ADD_FRAG_SIZE : Bf := ⟨1, 0⟩
def F.MAC_PREEMPT_STATUS_ACTIVE : Bf := ⟨3, 3⟩
def F.MAC_PREEMPT_STATUS_VERIFY_FAIL : Bf := ⟨2, 2⟩
def F.MAC_PREEMPT_STATUS_VERIFY_STATE : Bf := ⟨1, 0⟩
/-! Fields of block CLS. -/
def F.CLS_SIEVE_CFG_TPID_ALT : Bf := ⟨31, 16⟩
def F.CLS_UDP_PORTS0_VXLAN_PORT : Bf := ⟨31, 16⟩
def F.CLS_UDP_PORTS0_GENEVE_PORT : Bf := ⟨15, 0⟩
def F.CLS_UDP_PORTS1_ROCE_PORT : Bf := ⟨31, 16⟩
def F.CLS_HANDOFF_ROUTINE_EN : Bf := ⟨31, 31⟩
def F.CLS_HANDOFF_NOROUTINE : Bf := ⟨30, 30⟩
def F.CLS_HANDOFF_ENTRY : Bf := ⟨11, 0⟩
def F.CLS_ETYPE_HANDOFF_EN : Bf := ⟨31, 31⟩
def F.CLS_ETYPE_HANDOFF_ETYPE : Bf := ⟨15, 0⟩
def F.CLS_UDP_HANDOFF_EN : Bf := ⟨31, 31⟩
def F.CLS_UDP_HANDOFF_PORT : Bf := ⟨15, 0⟩
def F.CLS_MAL_ACTION_ACT : Bf := ⟨19, 0⟩
/-! Fields of block PRT. -/
def F.PRT_HOSTLIM_RATE : Bf := ⟨31, 16⟩
def F.PRT_HOSTLIM_BURST : Bf := ⟨15, 0⟩
/-! Fields of block CLS. -/
def F.CLS_FRAG_CFG_EN : Bf := ⟨31, 31⟩
def F.CLS_FRAG_CFG_FLUSH : Bf := ⟨30, 30⟩
def F.CLS_FRAG_CFG_FRAG_LIFE : Bf := ⟨15, 0⟩
def F.CLS_FRAG_STATUS_FLUSH_BUSY : Bf := ⟨16, 16⟩
def F.CLS_FRAG_STATUS_LIVE : Bf := ⟨13, 0⟩
def F.CLS_ME_CFG_STEP_LIMIT : Bf := ⟨11, 0⟩
def F.CLS_ME_CTRL_ABORT : Bf := ⟨0, 0⟩
def F.CLS_ME_STATUS_WAITING : Bf := ⟨25, 16⟩
def F.CLS_ME_STATUS_BUSY : Bf := ⟨6, 0⟩
def F.CLS_CS_STATUS_LOADED : Bf := ⟨31, 31⟩
def F.CLS_CS_STATUS_REJECTED : Bf := ⟨30, 30⟩
def F.CLS_CS_STATUS_DIGEST_BUSY : Bf := ⟨29, 29⟩
def F.CLS_CS_STATUS_PATCHES : Bf := ⟨23, 16⟩
def F.CLS_CS_STATUS_REJECT_ADDR : Bf := ⟨11, 0⟩
def F.CLS_CS_CTRL_REDIGEST : Bf := ⟨0, 0⟩
def F.CLS_CS_RD_ADDR_ADDR : Bf := ⟨11, 0⟩
def F.CLS_ACL_SET_EN3 : Bf := ⟨19, 19⟩
def F.CLS_ACL_SET_PROF3 : Bf := ⟨18, 15⟩
def F.CLS_ACL_SET_EN2 : Bf := ⟨14, 14⟩
def F.CLS_ACL_SET_PROF2 : Bf := ⟨13, 10⟩
def F.CLS_ACL_SET_EN1 : Bf := ⟨9, 9⟩
def F.CLS_ACL_SET_PROF1 : Bf := ⟨8, 5⟩
def F.CLS_ACL_SET_EN0 : Bf := ⟨4, 4⟩
def F.CLS_ACL_SET_PROF0 : Bf := ⟨3, 0⟩
def F.CLS_ACL_KEY_SRC : Bf := ⟨31, 30⟩
def F.CLS_ACL_KEY_WORD : Bf := ⟨5, 0⟩
/-! Fields of block RGN. -/
def F.RGN_MISS_CFG_TUNNEL : Bf := ⟨31, 30⟩
def F.RGN_MISS_CFG_LABEL : Bf := ⟨29, 28⟩
def F.RGN_MISS_CFG_L2 : Bf := ⟨27, 26⟩
def F.RGN_MISS_CFG_L3 : Bf := ⟨25, 24⟩
def F.RGN_MISS_CFG_EACL_EN : Bf := ⟨0, 0⟩
/-! Fields of block PRT. -/
def F.PRT_LOOKUP_CFG_TUN_EN : Bf := ⟨31, 31⟩
def F.PRT_LOOKUP_CFG_MPLS_EN : Bf := ⟨30, 30⟩
def F.PRT_LOOKUP_CFG_PVID : Bf := ⟨11, 0⟩
/-! Fields of block RGN. -/
def F.RGN_EKW_SEL_EN3 : Bf := ⟨31, 31⟩
def F.RGN_EKW_SEL_W3 : Bf := ⟨29, 24⟩
def F.RGN_EKW_SEL_EN2 : Bf := ⟨23, 23⟩
def F.RGN_EKW_SEL_W2 : Bf := ⟨21, 16⟩
def F.RGN_EKW_SEL_EN1 : Bf := ⟨15, 15⟩
def F.RGN_EKW_SEL_W1 : Bf := ⟨13, 8⟩
def F.RGN_EKW_SEL_EN0 : Bf := ⟨7, 7⟩
def F.RGN_EKW_SEL_W0 : Bf := ⟨5, 0⟩
/-! Fields of block TBL. -/
def F.TBL_FENCE_ISSUE : Bf := ⟨31, 31⟩
def F.TBL_FENCE_TAG : Bf := ⟨7, 0⟩
def F.TBL_FENCE_STATUS_LAST_DONE_TAG : Bf := ⟨31, 24⟩
def F.TBL_FENCE_STATUS_LAST_ISSUED_TAG : Bf := ⟨23, 16⟩
def F.TBL_FENCE_STATUS_OUTSTANDING : Bf := ⟨11, 10⟩
def F.TBL_FENCE_STATUS_HELD_SEEN : Bf := ⟨2, 2⟩
def F.TBL_FENCE_STATUS_TIMEOUT_SEEN : Bf := ⟨1, 1⟩
def F.TBL_FENCE_STATUS_DONE_SEEN : Bf := ⟨0, 0⟩
def F.TBL_FENCE_CFG_LIMIT : Bf := ⟨15, 0⟩
def F.TBL_EM_TMPL_CTRL_COMMIT : Bf := ⟨31, 31⟩
def F.TBL_EM_TMPL_CTRL_BUSY : Bf := ⟨30, 30⟩
def F.TBL_EM_TMPL_CTRL_INDEX : Bf := ⟨5, 0⟩
def F.TBL_CMD_OPCODE : Bf := ⟨31, 28⟩
def F.TBL_CMD_TABLE : Bf := ⟨27, 20⟩
def F.TBL_CMD_CLUSTER_MASK : Bf := ⟨19, 12⟩
def F.TBL_CMD_ARG : Bf := ⟨7, 0⟩
def F.TBL_CMD_INDEX_INDEX : Bf := ⟨19, 0⟩
def F.TBL_CMD_STATUS_BUSY : Bf := ⟨31, 31⟩
def F.TBL_CMD_STATUS_STATUS : Bf := ⟨7, 4⟩
def F.TBL_CMD_STATUS_DONE : Bf := ⟨0, 0⟩
def F.TBL_CMD_RESULT_MOVES : Bf := ⟨31, 24⟩
def F.TBL_CMD_RESULT_INDEX : Bf := ⟨19, 0⟩
def F.TBL_EM_CFG_MAX_MOVES : Bf := ⟨3, 0⟩
/-! Fields of block PRT. -/
def F.PRT_LEARN_CFG_LEARN_EN : Bf := ⟨31, 31⟩
def F.PRT_LEARN_CFG_MOVE_EN : Bf := ⟨30, 30⟩
/-! Fields of block TBL. -/
def F.TBL_GLN_CFG_TMPL : Bf := ⟨23, 18⟩
def F.TBL_GLN_CFG_NH_BASE : Bf := ⟨17, 0⟩
def F.TBL_GLN_AGE_CFG_L2_EN : Bf := ⟨31, 31⟩
def F.TBL_GLN_AGE_CFG_HOST_EN : Bf := ⟨30, 30⟩
def F.TBL_GLN_AGE_CFG_TUN_EN : Bf := ⟨29, 29⟩
def F.TBL_GLN_AGE_CFG_LIMIT : Bf := ⟨14, 0⟩
def F.TBL_GLN_QUANTUM_QUANTUM : Bf := ⟨15, 0⟩
def F.TBL_WIN_CFG_TABLE : Bf := ⟨31, 24⟩
def F.TBL_WIN_CFG_CLUSTER_MASK : Bf := ⟨23, 16⟩
def F.TBL_WIN_CFG_RATE : Bf := ⟨15, 0⟩
def F.TBL_WIN_CTRL_START : Bf := ⟨31, 31⟩
def F.TBL_WIN_CTRL_STOP : Bf := ⟨30, 30⟩
def F.TBL_WIN_CTRL_CONTINUOUS : Bf := ⟨29, 29⟩
def F.TBL_WIN_STATUS_BUSY : Bf := ⟨31, 31⟩
def F.TBL_WIN_STATUS_DMA_ERR : Bf := ⟨30, 30⟩
def F.TBL_WIN_STATUS_LOG_WRAP : Bf := ⟨29, 29⟩
def F.TBL_WIN_STATUS_POSITION : Bf := ⟨20, 0⟩
def F.TBL_LPM_BSEL_CFG_VRF_BITS : Bf := ⟨2, 0⟩
def F.TBL_LPM_BSEL_EN : Bf := ⟨31, 31⟩
def F.TBL_LPM_BSEL_COUNT_M1 : Bf := ⟨13, 8⟩
def F.TBL_LPM_BSEL_FIRST : Bf := ⟨5, 0⟩
/-! Fields of block CLS. -/
def F.CLS_ACL_GROUP_WIDE : Bf := ⟨31, 31⟩
def F.CLS_ACL_GROUP_WIDE_PROF : Bf := ⟨19, 16⟩
def F.CLS_ACL_GROUP_BANKS : Bf := ⟨15, 0⟩
/-! Fields of block XBAR. -/
def F.XBAR_CASC_CFG_ACLIN_MODE : Bf := ⟨3, 2⟩
def F.XBAR_CASC_CFG_LPM_MODE : Bf := ⟨1, 0⟩
/-! Fields of block RGN. -/
def F.RGN_ECMP_HASH_INNER : Bf := ⟨13, 13⟩
def F.RGN_ECMP_HASH_FIELDS : Bf := ⟨12, 0⟩
def F.RGN_ECMP_SEED_SEED : Bf := ⟨31, 0⟩
def F.RGN_MC_CFG_PEND_LIMIT : Bf := ⟨15, 0⟩
def F.RGN_RW_CFG_NOTECT_FWD : Bf := ⟨9, 9⟩
def F.RGN_RW_CFG_TTL_ACT : Bf := ⟨8, 8⟩
def F.RGN_RW_CFG_TTL_CODE : Bf := ⟨7, 0⟩
/-! Fields of block XEP. -/
def F.XEP_XB_LL_LL : Bf := ⟨31, 0⟩
/-! Fields of block RGN. -/
def F.RGN_QCFG_LOSSLESS : Bf := ⟨31, 31⟩
def F.RGN_QCFG_LL_PRI : Bf := ⟨30, 28⟩
def F.RGN_QCFG_PO_CLASS : Bf := ⟨27, 25⟩
def F.RGN_QCFG_SPILL_EN : Bf := ⟨24, 24⟩
def F.RGN_QCFG_ALPHA : Bf := ⟨23, 20⟩
def F.RGN_QCFG_MIN : Bf := ⟨15, 0⟩
def F.RGN_BUF_CFG_BORROW_EN : Bf := ⟨31, 31⟩
def F.RGN_BUF_CFG_HDRM_POOL : Bf := ⟨17, 0⟩
def F.RGN_LL_CFG_LL_XOFF : Bf := ⟨31, 16⟩
def F.RGN_LL_CFG_LL_XON : Bf := ⟨15, 0⟩
def F.RGN_LL_HDRM_HDRM_MAX : Bf := ⟨13, 0⟩
def F.RGN_QSPILL_SPILL_TH : Bf := ⟨31, 16⟩
def F.RGN_QSPILL_REFILL : Bf := ⟨15, 0⟩
def F.RGN_QLIM_SILO_MAX : Bf := ⟨15, 0⟩
/-! Fields of block HBM. -/
def F.HBM_CTRL_CFG_SR_IDLE : Bf := ⟨31, 16⟩
def F.HBM_CTRL_CFG_PAGE_IDLE : Bf := ⟨15, 8⟩
def F.HBM_CTRL_CFG_HIT_RUN : Bf := ⟨7, 4⟩
/-! Fields of block RGN. -/
def F.RGN_QSCHED_GROUP : Bf := ⟨31, 27⟩
def F.RGN_QSCHED_SP_LEVEL : Bf := ⟨26, 24⟩
def F.RGN_QSCHED_WEIGHT : Bf := ⟨23, 16⟩
def F.RGN_QSCHED_GATE_TC : Bf := ⟨15, 13⟩
def F.RGN_QSCHED_FC_PRI : Bf := ⟨12, 10⟩
def F.RGN_GSCHED_SP_LEVEL : Bf := ⟨26, 24⟩
def F.RGN_GSCHED_WEIGHT : Bf := ⟨23, 16⟩
/-! Fields of block PRT. -/
def F.PRT_GATE_CTRL_CHANGE : Bf := ⟨31, 31⟩
def F.PRT_GATE_CTRL_CANCEL : Bf := ⟨30, 30⟩
def F.PRT_GATE_STATUS_RUNNING : Bf := ⟨31, 31⟩
def F.PRT_GATE_STATUS_PENDING : Bf := ⟨30, 30⟩
def F.PRT_GATE_STATUS_OPER_BANK : Bf := ⟨29, 29⟩
def F.PRT_GATE_STATUS_SHORT_WIN : Bf := ⟨28, 28⟩
def F.PRT_GATE_STATUS_CHANGE_ERR : Bf := ⟨26, 26⟩
def F.PRT_GATE_STATUS_CHANGED : Bf := ⟨25, 25⟩
def F.PRT_GATE_STATUS_ENTRY : Bf := ⟨9, 0⟩
def F.PRT_GCL_ADDR_BANK : Bf := ⟨10, 10⟩
def F.PRT_GCL_ADDR_ENTRY : Bf := ⟨9, 0⟩
/-! Fields of block RGN. -/
def F.RGN_SAMP_CFG_CLR_MAX : Bf := ⟨31, 31⟩
def F.RGN_SAMP_CFG_DELAY_ALARM : Bf := ⟨23, 0⟩
/-! Fields of block PRT. -/
def F.PRT_PTP_CFG_MODE : Bf := ⟨1, 0⟩
def F.PRT_PTP_LINK_DELAY_LINK_DELAY : Bf := ⟨31, 0⟩
/-! Fields of block PKG. -/
def F.PKG_STRAPS_HOST_WAIT : Bf := ⟨6, 6⟩
def F.PKG_STRAPS_RING_HEAD : Bf := ⟨5, 5⟩
def F.PKG_STRAPS_SLOT1 : Bf := ⟨4, 3⟩
def F.PKG_STRAPS_NVM_SDR : Bf := ⟨2, 2⟩
def F.PKG_STRAPS_NVM_SPEED : Bf := ⟨1, 0⟩
/-! Fields of block HBM. -/
def F.HBM_TRAIN_CFG_MIN_EYE : Bf := ⟨6, 0⟩
def F.HBM_TRAIN_STATUS_DONE : Bf := ⟨31, 31⟩
def F.HBM_TRAIN_STATUS_REPAIRED : Bf := ⟨25, 16⟩
def F.HBM_TRAIN_STATUS_FAILED : Bf := ⟨1, 0⟩
def F.HBM_TRAIN_REPAIRED : Bf := ⟨31, 31⟩
def F.HBM_TRAIN_RD_CENTRE : Bf := ⟨30, 24⟩
def F.HBM_TRAIN_RD_WIDTH : Bf := ⟨23, 16⟩
def F.HBM_TRAIN_FAIL : Bf := ⟨15, 15⟩
def F.HBM_TRAIN_WR_CENTRE : Bf := ⟨14, 8⟩
def F.HBM_TRAIN_WR_WIDTH : Bf := ⟨7, 0⟩
/-! Fields of block BOOT. -/
def F.BOOT_STATUS_DONE : Bf := ⟨31, 31⟩
def F.BOOT_STATUS_NO_IMAGE : Bf := ⟨30, 30⟩
def F.BOOT_STATUS_HOST_WAIT : Bf := ⟨29, 29⟩
def F.BOOT_STATUS_SOURCE : Bf := ⟨28, 27⟩
def F.BOOT_STATUS_NVM_SLOW : Bf := ⟨26, 26⟩
def F.BOOT_STATUS_STEP : Bf := ⟨23, 20⟩
def F.BOOT_STATUS_REJECTS : Bf := ⟨15, 8⟩
def F.BOOT_FAIL_INFO_CODE : Bf := ⟨31, 24⟩
def F.BOOT_FAIL_INFO_SOURCE : Bf := ⟨23, 22⟩
def F.BOOT_FAIL_INFO_SECTION : Bf := ⟨15, 0⟩
def F.BOOT_FUSE_CTRL_KEY : Bf := ⟨31, 24⟩
def F.BOOT_FUSE_CTRL_BUSY : Bf := ⟨23, 23⟩
def F.BOOT_FUSE_CTRL_ERR : Bf := ⟨22, 22⟩
def F.BOOT_FUSE_CTRL_SLOT : Bf := ⟨9, 8⟩
def F.BOOT_FUSE_CTRL_OP : Bf := ⟨1, 0⟩
/-! Fields of block CHN. -/
def F.CHN_ADDR_VALID : Bf := ⟨31, 31⟩
def F.CHN_ADDR_OVERFLOW : Bf := ⟨30, 30⟩
def F.CHN_ADDR_ADDR : Bf := ⟨14, 0⟩
def F.CHN_STATUS_IN_LOCK : Bf := ⟨31, 31⟩
def F.CHN_STATUS_HEAD : Bf := ⟨30, 30⟩
def F.CHN_STATUS_IN_LOST : Bf := ⟨29, 29⟩
def F.CHN_STATUS_IN_LOST_SEEN : Bf := ⟨28, 28⟩
def F.CHN_STATUS_SNAP_LATE : Bf := ⟨27, 27⟩
def F.CHN_CMD_EN_READ_EN : Bf := ⟨3, 3⟩
def F.CHN_CMD_EN_SNAP_EN : Bf := ⟨2, 2⟩
def F.CHN_CMD_EN_RESET_EN : Bf := ⟨1, 1⟩
def F.CHN_CMD_EN_HOLD_EN : Bf := ⟨0, 0⟩
/-! Fields of block PAIR. -/
def F.PAIR_CFG_ROLE : Bf := ⟨31, 30⟩
def F.PAIR_CFG_MIRROR : Bf := ⟨29, 28⟩
def F.PAIR_CFG_LAG_LIMIT : Bf := ⟨15, 0⟩
def F.PAIR_TIMING_HB_TIMEOUT : Bf := ⟨31, 16⟩
def F.PAIR_TIMING_HB_INTERVAL : Bf := ⟨15, 0⟩
def F.PAIR_STATUS_ROLE : Bf := ⟨31, 30⟩
def F.PAIR_STATUS_MIRRORING : Bf := ⟨29, 29⟩
def F.PAIR_STATUS_LINK_UP : Bf := ⟨28, 28⟩
def F.PAIR_STATUS_PEER_SEEN : Bf := ⟨27, 27⟩
def F.PAIR_STATUS_SOLO : Bf := ⟨26, 26⟩
def F.PAIR_STATUS_CONFLICT : Bf := ⟨25, 25⟩
def F.PAIR_STATUS_DRAINING : Bf := ⟨24, 24⟩
def F.PAIR_STATUS_DIVERGE : Bf := ⟨23, 23⟩
def F.PAIR_STATUS_PROMOTED_SEEN : Bf := ⟨22, 22⟩
def F.PAIR_STATUS_LAG : Bf := ⟨15, 0⟩
/-! Fields of block FLT. -/
def F.FLT_FAULT_N_CTRL_FORCE : Bf := ⟨31, 31⟩
def F.FLT_FAULT_N_CTRL_CLEAR : Bf := ⟨30, 30⟩
def F.FLT_FAULT_N_CTRL_LATCH : Bf := ⟨29, 29⟩
def F.FLT_FAULT_N_CTRL_LOW : Bf := ⟨28, 28⟩
def F.FLT_FAULT_N_CTRL_PULSE : Bf := ⟨9, 0⟩
/-! Fields of block PKG. -/
def F.PKG_RESET_CTRL_KEY : Bf := ⟨31, 24⟩
def F.PKG_RESET_CTRL_SOFT : Bf := ⟨8, 8⟩
def F.PKG_RESET_CTRL_FWD_MASK : Bf := ⟨7, 4⟩
def F.PKG_RESET_CTRL_DIE_MASK : Bf := ⟨3, 0⟩
/-! Fields of block FLT. -/
def F.FLT_RESET_CAUSE_POWER_ON : Bf := ⟨31, 31⟩
def F.FLT_RESET_CAUSE_SAG : Bf := ⟨30, 30⟩
def F.FLT_RESET_CAUSE_PIN : Bf := ⟨29, 29⟩
def F.FLT_RESET_CAUSE_RING : Bf := ⟨28, 28⟩
def F.FLT_RESET_CAUSE_SOFT : Bf := ⟨27, 27⟩
def F.FLT_RESET_CAUSE_ESCALATION : Bf := ⟨26, 26⟩
def F.FLT_RESET_CAUSE_PREV_DONE : Bf := ⟨25, 25⟩
def F.FLT_RESET_CAUSE_SAG_DIES : Bf := ⟨19, 16⟩
def F.FLT_RESET_CAUSE_RESETS : Bf := ⟨15, 0⟩
/-! Fields of block DIE. -/
def F.DIE_HOLD_CTRL_HOLD : Bf := ⟨31, 31⟩
def F.DIE_HOLD_CTRL_RELEASE : Bf := ⟨30, 30⟩
def F.DIE_HOLD_CFG_PIN_MODE : Bf := ⟨4, 4⟩
def F.DIE_HOLD_CFG_REL_RING_EN : Bf := ⟨2, 2⟩
def F.DIE_HOLD_CFG_REL_PIN_EN : Bf := ⟨1, 1⟩
def F.DIE_HOLD_CFG_REL_REG_EN : Bf := ⟨0, 0⟩
def F.DIE_HOLD_STATUS_HELD : Bf := ⟨31, 31⟩
def F.DIE_HOLD_STATUS_ENTERING : Bf := ⟨30, 30⟩
def F.DIE_HOLD_STATUS_EXITING : Bf := ⟨29, 29⟩
def F.DIE_HOLD_STATUS_LATCH : Bf := ⟨28, 28⟩
def F.DIE_HOLD_STATUS_RING : Bf := ⟨27, 27⟩
def F.DIE_HOLD_STATUS_ESCALATED : Bf := ⟨26, 26⟩
def F.DIE_HOLD_STATUS_REL_LOST : Bf := ⟨25, 25⟩
def F.DIE_HOLD_STATUS_ENTRIES : Bf := ⟨15, 0⟩
/-! Fields of block OBS. -/
def F.OBS_PMC_GLOBAL_FREEZE_ALL : Bf := ⟨1, 1⟩
def F.OBS_PMC_GLOBAL_CLEAR_ALL : Bf := ⟨0, 0⟩
/-! Fields of block PKG. -/
def F.PKG_ID_VENDOR : Bf := ⟨31, 16⟩
def F.PKG_ID_PART : Bf := ⟨15, 0⟩
def F.PKG_REV_IMG_FORMAT : Bf := ⟨15, 8⟩
def F.PKG_REV_REV : Bf := ⟨7, 0⟩
/-! Fields of block CLS. -/
def F.CLS_MAL_HOSTLIM_RATE : Bf := ⟨31, 16⟩
def F.CLS_MAL_HOSTLIM_BURST : Bf := ⟨15, 0⟩
/-! Fields of block TBL. -/
def F.TBL_EM_LIMIT_L : Bf := ⟨20, 0⟩
def F.TBL_EM_USED_U : Bf := ⟨20, 0⟩
def F.TBL_GLN_STATUS_QUEUED : Bf := ⟨28, 16⟩
def F.TBL_GLN_STATUS_CLOCK : Bf := ⟨15, 0⟩
def F.TBL_WIN_RECHECK_V : Bf := ⟨15, 0⟩
def F.TBL_WIN_COUNT_V : Bf := ⟨20, 0⟩
def F.TBL_WIN_LOG_SIZE_V : Bf := ⟨15, 0⟩
/-! Fields of block RGN. -/
def F.RGN_TTL_HOSTLIM_RATE : Bf := ⟨31, 16⟩
def F.RGN_TTL_HOSTLIM_BURST : Bf := ⟨15, 0⟩
/-! Fields of block XEP. -/
def F.XEP_LINK_STATUS_UP : Bf := ⟨2, 0⟩
/-! Fields of block RGN. -/
def F.RGN_BUF_SHARED_V : Bf := ⟨17, 0⟩
def F.RGN_BUF_RESERVED_V : Bf := ⟨17, 0⟩
def F.RGN_BUF_HDRM_V : Bf := ⟨17, 0⟩
def F.RGN_BUF_BORROWED_V : Bf := ⟨17, 0⟩
def F.RGN_BUF_TAIL_V : Bf := ⟨14, 0⟩
def F.RGN_PTR_USED_V : Bf := ⟨18, 0⟩
/-! Fields of block HBM. -/
def F.HBM_SILO_GRANTED_V : Bf := ⟨27, 0⟩
def F.HBM_SILO_VOID_V : Bf := ⟨22, 0⟩
def F.HBM_SR_STATUS_V : Bf := ⟨1, 0⟩
/-! Fields of block RGN. -/
def F.RGN_QSHP_MIN_RATE : Bf := ⟨31, 12⟩
def F.RGN_QSHP_MAX_RATE : Bf := ⟨31, 12⟩
def F.RGN_QSHP_BURST_MINB : Bf := ⟨31, 16⟩
def F.RGN_QSHP_BURST_MAXB : Bf := ⟨15, 0⟩
def F.RGN_QSHP_CTRL_MIN_EN : Bf := ⟨31, 31⟩
def F.RGN_QSHP_CTRL_MAX_EN : Bf := ⟨30, 30⟩
def F.RGN_QSHP_CTRL_PENDING : Bf := ⟨0, 0⟩
def F.RGN_GSHP_MIN_RATE : Bf := ⟨31, 12⟩
def F.RGN_GSHP_MAX_RATE : Bf := ⟨31, 12⟩
def F.RGN_GSHP_BURST_MINB : Bf := ⟨31, 16⟩
def F.RGN_GSHP_BURST_MAXB : Bf := ⟨15, 0⟩
def F.RGN_GSHP_CTRL_MIN_EN : Bf := ⟨31, 31⟩
def F.RGN_GSHP_CTRL_MAX_EN : Bf := ⟨30, 30⟩
def F.RGN_GSHP_CTRL_PENDING : Bf := ⟨0, 0⟩
/-! Fields of block PRT. -/
def F.PRT_GATE_CFG_EN : Bf := ⟨31, 31⟩
def F.PRT_GATE_CFG_FALLBACK : Bf := ⟨15, 8⟩
def F.PRT_GATE_ADMIN_CYCLE_V : Bf := ⟨29, 0⟩
def F.PRT_GATE_ADMIN_COUNT_V : Bf := ⟨10, 0⟩
def F.PRT_GATE_ADMIN_BASE_NS_V : Bf := ⟨29, 0⟩
def F.PRT_GATE_ADMIN_BASE_S_HI_V : Bf := ⟨15, 0⟩
def F.PRT_GCL_DATA0_STATES : Bf := ⟨7, 0⟩
def F.PRT_GCL_DATA1_INTERVAL : Bf := ⟨29, 0⟩
def F.PRT_GATE_OPER_CYCLE_V : Bf := ⟨29, 0⟩
def F.PRT_GATE_OPER_COUNT_V : Bf := ⟨10, 0⟩
def F.PRT_GATE_OPER_BASE_NS_V : Bf := ⟨29, 0⟩
def F.PRT_GATE_OPER_BASE_S_HI_V : Bf := ⟨15, 0⟩
def F.PRT_GATE_SDU_V : Bf := ⟨13, 0⟩
/-! Fields of block RGN. -/
def F.RGN_QSAMP_DEPTH_V : Bf := ⟨28, 0⟩
def F.RGN_QSAMP_DEPTH_MAX_V : Bf := ⟨28, 0⟩
/-! Fields of block TIM. -/
def F.TIM_BASE_CTRL_ARM : Bf := ⟨31, 31⟩
def F.TIM_BASE_CTRL_STEP : Bf := ⟨30, 30⟩
def F.TIM_BASE_STATUS_STATE : Bf := ⟨31, 30⟩
def F.TIM_BASE_STATUS_STEP_ERR : Bf := ⟨2, 2⟩
def F.TIM_BASE_STATUS_STEP_REFUSED : Bf := ⟨1, 1⟩
def F.TIM_BASE_STATUS_STEPPED_SEEN : Bf := ⟨0, 0⟩
def F.TIM_STEP_MODE_M : Bf := ⟨0, 0⟩
def F.TIM_STEP_NS_V : Bf := ⟨29, 0⟩
def F.TIM_STEP_S_HI_V : Bf := ⟨15, 0⟩
def F.TIM_RATE_HI_V : Bf := ⟨7, 0⟩
def F.TIM_TIME_NS_V : Bf := ⟨29, 0⟩
def F.TIM_TIME_S_HI_V : Bf := ⟨15, 0⟩
def F.TIM_ACTIVE_SWITCH : Bf := ⟨31, 31⟩
def F.TIM_ACTIVE_STATUS_CANCELLED : Bf := ⟨9, 9⟩
def F.TIM_ACTIVE_STATUS_PENDING : Bf := ⟨8, 8⟩
def F.TIM_ACTIVE_STATUS_TARGET : Bf := ⟨4, 4⟩
def F.TIM_ACTIVE_STATUS_ACTIVE : Bf := ⟨0, 0⟩
def F.TIM_CAPTURE_CAPTURE : Bf := ⟨0, 0⟩
def F.TIM_CAP_S_HI_V : Bf := ⟨15, 0⟩
def F.TIM_REF_STATUS_REFCLK_LOST : Bf := ⟨1, 1⟩
def F.TIM_REF_STATUS_REFCLK_OK : Bf := ⟨0, 0⟩
/-! Fields of block INS. -/
def F.INS_INS_CTRL_WIN_HOLD : Bf := ⟨31, 31⟩
def F.INS_INS_CTRL_RESET : Bf := ⟨30, 30⟩
def F.INS_INS_RESET_CFG_MODE : Bf := ⟨31, 31⟩
def F.INS_INS_RESET_CFG_DRAIN_LIMIT : Bf := ⟨15, 0⟩
def F.INS_INS_STATUS_RESETTING : Bf := ⟨31, 31⟩
def F.INS_INS_STATUS_RESET_DONE : Bf := ⟨30, 30⟩
def F.INS_INS_STATUS_CMD_IDLE : Bf := ⟨29, 29⟩
def F.INS_INS_STATUS_VF_ENABLED : Bf := ⟨28, 28⟩
def F.INS_INS_STATUS_PHASE : Bf := ⟨25, 24⟩
def F.INS_INS_STATUS_VECTORS : Bf := ⟨23, 16⟩
def F.INS_RX_RANGE_COUNT : Bf := ⟨29, 16⟩
def F.INS_RX_RANGE_BASE : Bf := ⟨12, 0⟩
def F.INS_TX_RANGE_COUNT : Bf := ⟨29, 16⟩
def F.INS_TX_RANGE_BASE : Bf := ⟨12, 0⟩
def F.INS_CQ_RANGE_HI : Bf := ⟨15, 8⟩
def F.INS_CQ_RANGE_LO : Bf := ⟨7, 0⟩
def F.INS_CODE_RANGE_HI : Bf := ⟨15, 8⟩
def F.INS_CODE_RANGE_LO : Bf := ⟨7, 0⟩
def F.INS_DIE_MASK_V : Bf := ⟨3, 0⟩
def F.INS_ENG_MAX_V : Bf := ⟨4, 0⟩
def F.INS_WIN_CFG_EN : Bf := ⟨31, 31⟩
def F.INS_WIN_CFG_TABLE : Bf := ⟨23, 16⟩
def F.INS_WIN_CFG_CLUSTER_MASK : Bf := ⟨15, 8⟩
def F.INS_WIN_BASE_V : Bf := ⟨19, 0⟩
def F.INS_WIN_SIZE_V : Bf := ⟨20, 0⟩
def F.INS_POOL_CFG_EN : Bf := ⟨31, 31⟩
def F.INS_POOL_CFG_SIZE_LOG2 : Bf := ⟨27, 24⟩
def F.INS_POOL_STATUS_CACHED : Bf := ⟨22, 16⟩
def F.INS_POOL_STATUS_HEAD : Bf := ⟨15, 0⟩
def F.INS_MBOX_CTRL_SEND : Bf := ⟨31, 31⟩
def F.INS_MBOX_CTRL_TO_PF_PENDING : Bf := ⟨1, 1⟩
def F.INS_MBOX_CTRL_TO_VF_PENDING : Bf := ⟨0, 0⟩
def F.INS_DIRTY_CFG_EN : Bf := ⟨31, 31⟩
def F.INS_DIRTY_CFG_SWAP : Bf := ⟨30, 30⟩
def F.INS_DIRTY_CFG_SWAP_BUSY : Bf := ⟨29, 29⟩
def F.INS_DIRTY_CFG_ACTIVE : Bf := ⟨28, 28⟩
def F.INS_DIRTY_CFG_OUT_OF_RANGE : Bf := ⟨27, 27⟩
def F.INS_DIRTY_PAGES_V : Bf := ⟨27, 0⟩
/-! Fields of block HIF. -/
def F.HIF_LINK_STATUS_UP : Bf := ⟨31, 31⟩
def F.HIF_LINK_STATUS_WIDTH : Bf := ⟨20, 16⟩
def F.HIF_LINK_STATUS_RATE : Bf := ⟨3, 0⟩
def F.HIF_VF_VECTORS_V : Bf := ⟨6, 0⟩
def F.HIF_INT0_CAUSE_V : Bf := ⟨9, 0⟩
def F.HIF_INT0_MASK_V : Bf := ⟨9, 0⟩
def F.HIF_INT0_ACK_V : Bf := ⟨9, 0⟩
def F.HIF_INT0_VEC_V : Bf := ⟨6, 0⟩
def F.HIF_POOL_WAIT_V : Bf := ⟨15, 0⟩
def F.HIF_TX_INJECT_LIMIT_V : Bf := ⟨15, 0⟩
def F.HIF_STG_FREE_V : Bf := ⟨15, 0⟩
def F.HIF_RX_MAP_EN : Bf := ⟨31, 31⟩
def F.HIF_RX_MAP_SPREAD : Bf := ⟨18, 16⟩
def F.HIF_RX_MAP_RING : Bf := ⟨12, 0⟩
def F.HIF_GLN_CFG_EN : Bf := ⟨31, 31⟩
def F.HIF_GLN_CFG_SIZE_LOG2 : Bf := ⟨27, 24⟩
def F.HIF_RXR_CFG_ENABLE : Bf := ⟨31, 31⟩
def F.HIF_RXR_CFG_SIZE_LOG2 : Bf := ⟨27, 24⟩
def F.HIF_RXR_STATUS_QUIESCED : Bf := ⟨31, 31⟩
def F.HIF_RXR_STATUS_OWNED : Bf := ⟨30, 30⟩
def F.HIF_RXR_STATUS_OWNER : Bf := ⟨23, 16⟩
def F.HIF_RXR_STATUS_INDEX : Bf := ⟨15, 0⟩
def F.HIF_TXR_CFG_ENABLE : Bf := ⟨31, 31⟩
def F.HIF_TXR_CFG_SIZE_LOG2 : Bf := ⟨27, 24⟩
def F.HIF_TXR_STATUS_QUIESCED : Bf := ⟨31, 31⟩
def F.HIF_TXR_STATUS_OWNED : Bf := ⟨30, 30⟩
def F.HIF_TXR_STATUS_OWNER : Bf := ⟨23, 16⟩
def F.HIF_TXR_STATUS_INDEX : Bf := ⟨15, 0⟩
/-! Fields of block BOOT. -/
def F.BOOT_SECT_COUNT_APPLIED : Bf := ⟨31, 16⟩
def F.BOOT_SECT_COUNT_SKIPPED : Bf := ⟨15, 0⟩
def F.BOOT_IMAGE_SVN_V : Bf := ⟨5, 0⟩
def F.BOOT_KEY_STATUS_OPEN : Bf := ⟨16, 16⟩
def F.BOOT_KEY_STATUS_SLOT : Bf := ⟨13, 12⟩
def F.BOOT_KEY_STATUS_REVOKED : Bf := ⟨11, 8⟩
def F.BOOT_KEY_STATUS_PROGRAMMED : Bf := ⟨3, 0⟩
def F.BOOT_FUSE_SVN_V : Bf := ⟨5, 0⟩
def F.BOOT_HOST_LEN_V : Bf := ⟨20, 0⟩
def F.BOOT_HOST_CTRL_GO : Bf := ⟨31, 31⟩
/-! Fields of block CHN. -/
def F.CHN_RING_HOLD_V : Bf := ⟨3, 0⟩
def F.CHN_TALLY_GROUP_V : Bf := ⟨7, 0⟩
def F.CHN_SWEEP_STATUS_ID : Bf := ⟨31, 24⟩
def F.CHN_SWEEP_STATUS_MATCHED : Bf := ⟨23, 23⟩
def F.CHN_SWEEP_STATUS_INCOMPLETE : Bf := ⟨22, 22⟩
def F.CHN_SWEEP_STATUS_MIS : Bf := ⟨19, 0⟩
def F.CHN_HEAD_CTRL_ENUM : Bf := ⟨31, 31⟩
def F.CHN_HEAD_CTRL_SEND : Bf := ⟨30, 30⟩
def F.CHN_HEAD_STATUS_ENUM_BUSY : Bf := ⟨31, 31⟩
def F.CHN_HEAD_STATUS_TX_BUSY : Bf := ⟨30, 30⟩
def F.CHN_HEAD_STATUS_COUNT : Bf := ⟨15, 0⟩
def F.CHN_TX_HDR1_LEN : Bf := ⟨6, 0⟩
def F.CHN_RX_HDR1_VALID : Bf := ⟨31, 31⟩
def F.CHN_RX_HDR1_CRC_BAD : Bf := ⟨30, 30⟩
def F.CHN_RX_HDR1_LEN : Bf := ⟨6, 0⟩
def F.CHN_RX_POP_POP : Bf := ⟨0, 0⟩
/-! Fields of block PAIR. -/
def F.PAIR_CTRL_START : Bf := ⟨31, 31⟩
def F.PAIR_CTRL_HANDOVER : Bf := ⟨30, 30⟩
def F.PAIR_CTRL_PROMOTE : Bf := ⟨29, 29⟩
def F.PAIR_CTRL_DEMOTE : Bf := ⟨28, 28⟩
def F.PAIR_REMOTE_NH_BASE_V : Bf := ⟨17, 0⟩
def F.PAIR_CKPT_STATUS_VALID : Bf := ⟨31, 31⟩
def F.PAIR_CKPT_STATUS_HALF : Bf := ⟨30, 30⟩
def F.PAIR_CKPT_STATUS_ID : Bf := ⟨15, 0⟩
def F.PAIR_TALLY_EQ_V : Bf := ⟨19, 0⟩
/-! Fields of block FLT. -/
def F.FLT_STATUS_INT_PENDING : Bf := ⟨31, 31⟩
def F.FLT_STATUS_CAPTURED : Bf := ⟨30, 30⟩
def F.FLT_STATUS_ESC_RUNNING : Bf := ⟨29, 29⟩
def F.FLT_STATUS_FATAL_SEEN : Bf := ⟨28, 28⟩
def F.FLT_STATUS_LOST_SEEN : Bf := ⟨27, 27⟩
def F.FLT_STATUS_ESC_FIRED : Bf := ⟨26, 26⟩
def F.FLT_STATUS_STORED : Bf := ⟨10, 0⟩
def F.FLT_CFG_CAPTURE_SEV : Bf := ⟨31, 30⟩
def F.FLT_CFG_INT_SEV : Bf := ⟨29, 28⟩
def F.FLT_ESC_CFG_ACTION : Bf := ⟨31, 30⟩
def F.FLT_ESC_CFG_HOLD_MASK : Bf := ⟨27, 24⟩
def F.FLT_ESC_CFG_TIME : Bf := ⟨19, 0⟩
def F.FLT_ESC_ACK_COUNT : Bf := ⟨15, 0⟩
def F.FLT_ESC_COUNT_ACKED : Bf := ⟨31, 16⟩
def F.FLT_ESC_COUNT_RECEIVED : Bf := ⟨15, 0⟩
def F.FLT_HEAD_TS_S_HI_V : Bf := ⟨15, 0⟩
def F.FLT_FIRST_TS_S_HI_V : Bf := ⟨15, 0⟩
def F.FLT_POP_POP : Bf := ⟨0, 0⟩
def F.FLT_FIRST_REQ_REQUESTER : Bf := ⟨24, 16⟩
def F.FLT_FIRST_REQ_ACCESS : Bf := ⟨2, 0⟩
def F.FLT_FIRST_CLR_CLR : Bf := ⟨0, 0⟩
/-! Fields of block DIE. -/
def F.DIE_FLT_STATUS_CAPTURED : Bf := ⟨30, 30⟩
def F.DIE_FLT_STATUS_ESC_RUNNING : Bf := ⟨29, 29⟩
def F.DIE_FLT_STATUS_LOST_SEEN : Bf := ⟨27, 27⟩
def F.DIE_FLT_STATUS_ESC_FIRED : Bf := ⟨26, 26⟩
def F.DIE_FLT_STATUS_BUFFERED : Bf := ⟨6, 0⟩
def F.DIE_ESC_CFG_ACTION : Bf := ⟨31, 30⟩
def F.DIE_ESC_CFG_TIME : Bf := ⟨19, 0⟩
def F.DIE_ESC_ACK_COUNT : Bf := ⟨15, 0⟩
def F.DIE_ESC_COUNT_ACKED : Bf := ⟨31, 16⟩
def F.DIE_ESC_COUNT_RECEIVED : Bf := ⟨15, 0⟩
def F.DIE_FIRST_TS_S_HI_V : Bf := ⟨15, 0⟩
def F.DIE_FIRST_REQ_REQUESTER : Bf := ⟨24, 16⟩
def F.DIE_FIRST_REQ_ACCESS : Bf := ⟨2, 0⟩
def F.DIE_FIRST_CLR_CLR : Bf := ⟨0, 0⟩
/-! Fields of block MAC. -/
def F.MAC_BW_CFG_CLR_MAX : Bf := ⟨31, 31⟩
def F.MAC_BW_CFG_WINDOW : Bf := ⟨19, 0⟩
def F.MAC_BW_STATUS_VALID : Bf := ⟨31, 31⟩
def F.MAC_BW_STATUS_NUM : Bf := ⟨23, 0⟩
/-! Fields of block OBS. -/
def F.OBS_SNAP_CTRL_ARM : Bf := ⟨31, 31⟩
def F.OBS_SNAP_CTRL_NOW : Bf := ⟨30, 30⟩
def F.OBS_SNAP_CTRL_CANCEL : Bf := ⟨29, 29⟩
def F.OBS_SNAP_AT_NS_BASE : Bf := ⟨31, 31⟩
def F.OBS_SNAP_AT_NS_NS : Bf := ⟨29, 0⟩
def F.OBS_SNAP_AT_S_HI_V : Bf := ⟨15, 0⟩
def F.OBS_SNAP_STATUS_PENDING : Bf := ⟨31, 31⟩
def F.OBS_SNAP_STATUS_REFUSED : Bf := ⟨29, 29⟩
def F.OBS_SNAP_STATUS_SEQ : Bf := ⟨15, 0⟩
def F.OBS_SNAP_TIME_S_HI_V : Bf := ⟨15, 0⟩
def F.OBS_SNAP_ADDR_A : Bf := ⟨27, 2⟩
def F.OBS_TRC_STATUS_STOPPED : Bf := ⟨31, 31⟩
def F.OBS_TRC_STATUS_FROZEN : Bf := ⟨30, 30⟩
def F.OBS_TRC_STATUS_SIZE : Bf := ⟨15, 0⟩
def F.OBS_TRC_CTRL_UNFREEZE : Bf := ⟨31, 31⟩
def F.OBS_TRC_CTRL_RESTART : Bf := ⟨30, 30⟩
def F.OBS_TRC_RD_ADDR_DIE : Bf := ⟨31, 30⟩
def F.OBS_TRC_RD_ADDR_UNIT : Bf := ⟨25, 0⟩
def F.OBS_TRC_RD_STATUS_VALID : Bf := ⟨31, 31⟩
def F.OBS_TRC_RD_STATUS_UE : Bf := ⟨30, 30⟩
def F.OBS_PORT_CFG_DISABLE : Bf := ⟨0, 0⟩
def F.OBS_PMC_CTRL_FREEZE : Bf := ⟨1, 1⟩
def F.OBS_PMC_CTRL_CLR : Bf := ⟨0, 0⟩
def F.OBS_PMC_SEL_EN : Bf := ⟨31, 31⟩
def F.OBS_PMC_SEL_QUAL : Bf := ⟨27, 16⟩
def F.OBS_PMC_SEL_EVENT : Bf := ⟨7, 0⟩
/-! Fields of block HIF. -/
def F.HIF_PMC_CTRL_FREEZE : Bf := ⟨1, 1⟩
def F.HIF_PMC_CTRL_CLR : Bf := ⟨0, 0⟩
def F.HIF_PMC_SEL_EN : Bf := ⟨31, 31⟩
def F.HIF_PMC_SEL_QUAL : Bf := ⟨27, 16⟩
def F.HIF_PMC_SEL_EVENT : Bf := ⟨7, 0⟩
/-! Fields of block DIE. -/
def F.DIE_PMC_CTRL_FREEZE : Bf := ⟨1, 1⟩
def F.DIE_PMC_CTRL_CLR : Bf := ⟨0, 0⟩
def F.DIE_PMC_SEL_EN : Bf := ⟨31, 31⟩
def F.DIE_PMC_SEL_QUAL : Bf := ⟨27, 16⟩
def F.DIE_PMC_SEL_EVENT : Bf := ⟨7, 0⟩
/-! Fields of block TBL. -/
def F.TBL_PMC_CTRL_FREEZE : Bf := ⟨1, 1⟩
def F.TBL_PMC_CTRL_CLR : Bf := ⟨0, 0⟩
def F.TBL_PMC_SEL_EN : Bf := ⟨31, 31⟩
def F.TBL_PMC_SEL_QUAL : Bf := ⟨27, 16⟩
def F.TBL_PMC_SEL_EVENT : Bf := ⟨7, 0⟩
/-! Fields of block HBM. -/
def F.HBM_PMC_CTRL_FREEZE : Bf := ⟨1, 1⟩
def F.HBM_PMC_CTRL_CLR : Bf := ⟨0, 0⟩
def F.HBM_PMC_SEL_EN : Bf := ⟨31, 31⟩
def F.HBM_PMC_SEL_QUAL : Bf := ⟨27, 16⟩
def F.HBM_PMC_SEL_EVENT : Bf := ⟨7, 0⟩
/-! Fields of block XEP. -/
def F.XEP_PMC_CTRL_FREEZE : Bf := ⟨1, 1⟩
def F.XEP_PMC_CTRL_CLR : Bf := ⟨0, 0⟩
def F.XEP_PMC_SEL_EN : Bf := ⟨31, 31⟩
def F.XEP_PMC_SEL_QUAL : Bf := ⟨27, 16⟩
def F.XEP_PMC_SEL_EVENT : Bf := ⟨7, 0⟩
/-! Fields of block RGN. -/
def F.RGN_PMC_CTRL_FREEZE : Bf := ⟨1, 1⟩
def F.RGN_PMC_CTRL_CLR : Bf := ⟨0, 0⟩
def F.RGN_PMC_SEL_EN : Bf := ⟨31, 31⟩
def F.RGN_PMC_SEL_QUAL : Bf := ⟨27, 16⟩
def F.RGN_PMC_SEL_EVENT : Bf := ⟨7, 0⟩
/-! Fields of block CLS. -/
def F.CLS_PMC_CTRL_FREEZE : Bf := ⟨1, 1⟩
def F.CLS_PMC_CTRL_CLR : Bf := ⟨0, 0⟩
def F.CLS_PMC_SEL_EN : Bf := ⟨31, 31⟩
def F.CLS_PMC_SEL_QUAL : Bf := ⟨27, 16⟩
def F.CLS_PMC_SEL_EVENT : Bf := ⟨7, 0⟩
/-! Fields of block PRT. -/
def F.PRT_PMC_CTRL_FREEZE : Bf := ⟨1, 1⟩
def F.PRT_PMC_CTRL_CLR : Bf := ⟨0, 0⟩
def F.PRT_PMC_SEL_EN : Bf := ⟨31, 31⟩
def F.PRT_PMC_SEL_QUAL : Bf := ⟨27, 16⟩
def F.PRT_PMC_SEL_EVENT : Bf := ⟨7, 0⟩
/-! Fields of block MAC. -/
def F.MAC_PMC_CTRL_FREEZE : Bf := ⟨1, 1⟩
def F.MAC_PMC_CTRL_CLR : Bf := ⟨0, 0⟩
def F.MAC_PMC_SEL_EN : Bf := ⟨31, 31⟩
def F.MAC_PMC_SEL_QUAL : Bf := ⟨27, 16⟩
def F.MAC_PMC_SEL_EVENT : Bf := ⟨7, 0⟩
/-! Fields of block LAY. -/
def F.LAY_RXDB_V : Bf := ⟨15, 0⟩
def F.LAY_RXHW_V : Bf := ⟨15, 0⟩
def F.LAY_RXINT_ARM : Bf := ⟨31, 31⟩
def F.LAY_RXINT_EN : Bf := ⟨30, 30⟩
def F.LAY_RXINT_VECTOR : Bf := ⟨21, 16⟩
def F.LAY_RXINT_COUNT : Bf := ⟨15, 8⟩
def F.LAY_RXINT_TIMER : Bf := ⟨7, 0⟩
def F.LAY_TXDB_V : Bf := ⟨15, 0⟩
def F.LAY_TXHW_V : Bf := ⟨15, 0⟩
def F.LAY_TXINT_ARM : Bf := ⟨31, 31⟩
def F.LAY_TXINT_EN : Bf := ⟨30, 30⟩
def F.LAY_TXINT_VECTOR : Bf := ⟨21, 16⟩
def F.LAY_TXINT_COUNT : Bf := ⟨15, 8⟩
def F.LAY_TXINT_TIMER : Bf := ⟨7, 0⟩
def F.LAY_POOL_TAIL_V : Bf := ⟨15, 0⟩
def F.LAY_POOL_HEAD_V : Bf := ⟨15, 0⟩
def F.LAY_INS_CMD_OPCODE : Bf := ⟨31, 28⟩
def F.LAY_INS_CMD_TABLE : Bf := ⟨27, 20⟩
def F.LAY_INS_CMD_CM : Bf := ⟨19, 12⟩
def F.LAY_INS_CMD_DIE : Bf := ⟨9, 8⟩
def F.LAY_INS_CMD_ARG : Bf := ⟨7, 0⟩
def F.LAY_INS_CMD_INDEX_INDEX : Bf := ⟨19, 0⟩
def F.LAY_INS_CMD_STATUS_BUSY : Bf := ⟨31, 31⟩
def F.LAY_INS_CMD_STATUS_STATUS : Bf := ⟨12, 8⟩
def F.LAY_INS_CMD_STATUS_DONE : Bf := ⟨0, 0⟩
def F.LAY_INS_FENCE_STATUS_LAST_DONE_TAG : Bf := ⟨31, 24⟩
def F.LAY_INS_FENCE_STATUS_LAST_ISSUED_TAG : Bf := ⟨23, 16⟩
def F.LAY_INS_FENCE_STATUS_OUTSTANDING : Bf := ⟨11, 10⟩
def F.LAY_INS_FENCE_STATUS_HELD_SEEN : Bf := ⟨2, 2⟩
def F.LAY_INS_FENCE_STATUS_TIMEOUT_SEEN : Bf := ⟨1, 1⟩
def F.LAY_INS_FENCE_STATUS_DONE_SEEN : Bf := ⟨0, 0⟩
def F.LAY_RESOURCES_RX : Bf := ⟨29, 16⟩
def F.LAY_RESOURCES_TX : Bf := ⟨13, 0⟩
def F.LAY_CMD_VEC_V : Bf := ⟨5, 0⟩
def F.LAY_MBOX_VEC_V : Bf := ⟨5, 0⟩
def F.LAY_WIN_VIEW_EN : Bf := ⟨31, 31⟩
def F.LAY_WIN_VIEW_TABLE : Bf := ⟨23, 16⟩
def F.LAY_WIN_VIEW_SIZE : Bf := ⟨15, 0⟩
def F.LAY_MBOX_CTRL_SEND : Bf := ⟨31, 31⟩
def F.LAY_MBOX_CTRL_FROM_PF_PENDING : Bf := ⟨1, 1⟩
def F.LAY_MBOX_CTRL_TO_PF_PENDING : Bf := ⟨0, 0⟩

end Sys2Proof.Machine
end

