-- ==== Sys2Proof/Machine/RegNames.lean ====
section
/-!
DEFINITION. Machine/RegNames.lean: where every block and every register of the device lies (Tables 18-1 to 18-4 of
spec/18_register_map.md and the offset lines of each chapter). A register is named by its byte address in the
privileged view; the registers of instance i's own layout (Table 13-2) stand above it, at 2^32 + i × 2^20.
-/
namespace Sys2Proof.Machine

/-- Table 18-1: the package blocks. -/
def pkgBase : Nat := 0x0
def bootBase : Nat := 0x10000
def timBase : Nat := 0x20000
def fltBase : Nat := 0x30000
def chnBase : Nat := 0x40000
def pairBase : Nat := 0x50000
def obsBase : Nat := 0x60000
def hifBase : Nat := 0x100000
def xbarBase : Nat := 0x800000
def insBase (i : Nat) : Nat := 0x200000 + i * 0x1000
/-- Table 18-2: the F-die window and its die blocks. -/
def dieBase (d : Nat) : Nat := 0x4000000 + d * 0x3000000
def hbmBase (d : Nat) : Nat := dieBase d + 0x100000
def xepBase (d : Nat) : Nat := dieBase d + 0x200000
def tblBase (d : Nat) : Nat := dieBase d + 0x300000
/-- Table 18-3: the region window, region G being region g = G mod 2 of die G div 2. -/
def rgnBase (G : Nat) : Nat := dieBase (G / 2) + 0x800000 + (G % 2) * 0x1000000
def clsBase (C : Nat) : Nat := rgnBase (C / 4) + 0x800000 + (C % 4) * 0x100000
def prtBase (p : Nat) : Nat := rgnBase (p / 32) + 0xC00000 + (p % 32) * 0x1000
/-- Table 18-4: the L-die window. -/
def laneBase (n : Nat) : Nat := 0x1000000 + (n / 128) * 0x200000 + (n % 128) * 0x800
def macBase (p : Nat) : Nat := 0x1000000 + (p / 32) * 0x200000 + 0x100000 + (p % 32) * 0x1000
/-- The layout of instance i (Table 13-2), outside the privileged view. -/
def layBase (i : Nat) : Nat := 0x100000000 + i * 0x100000

/-! Registers of block PKG. -/
def R.PKG_ID : Nat := pkgBase + 0x0
def R.PKG_REV : Nat := pkgBase + 0x4
def R.PKG_STRAPS : Nat := pkgBase + 0x40
def R.PKG_LEVEL_CTRL : Nat := pkgBase + 0x200
def R.PKG_LEVEL_STATUS : Nat := pkgBase + 0x204
def R.PKG_RESET_CTRL : Nat := pkgBase + 0x300
/-! Registers of block BOOT. -/
def R.BOOT_STATUS : Nat := bootBase + 0x0
def R.BOOT_SECT_COUNT : Nat := bootBase + 0x4
def R.BOOT_FAIL_INFO : Nat := bootBase + 0x8
def R.BOOT_TIME_MS : Nat := bootBase + 0xC
def R.BOOT_IMAGE_ID (x : Nat) : Nat := bootBase + 0x10 + x * 0x4
def R.BOOT_IMAGE_SVN : Nat := bootBase + 0x20
def R.BOOT_IMAGE_DIGEST (x : Nat) : Nat := bootBase + 0x40 + x * 0x4
def R.BOOT_FUSE_STAGE (x : Nat) : Nat := bootBase + 0x80 + x * 0x4
def R.BOOT_FUSE_CTRL : Nat := bootBase + 0xB0
def R.BOOT_KEY_STATUS : Nat := bootBase + 0xB4
def R.BOOT_FUSE_SVN : Nat := bootBase + 0xB8
def R.BOOT_HOST_ADDR_LO : Nat := bootBase + 0x100
def R.BOOT_HOST_ADDR_HI : Nat := bootBase + 0x104
def R.BOOT_HOST_LEN : Nat := bootBase + 0x108
def R.BOOT_HOST_CTRL : Nat := bootBase + 0x10C
/-! Registers of block TIM. -/
def R.TIM_BASE_CTRL (x : Nat) : Nat := timBase + 0x0 + x * 0x100
def R.TIM_BASE_STATUS (x : Nat) : Nat := timBase + 0x4 + x * 0x100
def R.TIM_STEP_MODE (x : Nat) : Nat := timBase + 0x8 + x * 0x100
def R.TIM_STEP_NS (x : Nat) : Nat := timBase + 0xC + x * 0x100
def R.TIM_STEP_S_LO (x : Nat) : Nat := timBase + 0x10 + x * 0x100
def R.TIM_STEP_S_HI (x : Nat) : Nat := timBase + 0x14 + x * 0x100
def R.TIM_RATE_LO (x : Nat) : Nat := timBase + 0x18 + x * 0x100
def R.TIM_RATE_HI (x : Nat) : Nat := timBase + 0x1C + x * 0x100
def R.TIM_TIME_NS (x : Nat) : Nat := timBase + 0x20 + x * 0x100
def R.TIM_TIME_S_LO (x : Nat) : Nat := timBase + 0x24 + x * 0x100
def R.TIM_TIME_S_HI (x : Nat) : Nat := timBase + 0x28 + x * 0x100
def R.TIM_ACTIVE : Nat := timBase + 0x200
def R.TIM_ACTIVE_STATUS : Nat := timBase + 0x204
def R.TIM_CAPTURE : Nat := timBase + 0x210
def R.TIM_CAP_NS (x : Nat) : Nat := timBase + 0x220 + x * 0x10
def R.TIM_CAP_S_LO (x : Nat) : Nat := timBase + 0x224 + x * 0x10
def R.TIM_CAP_S_HI (x : Nat) : Nat := timBase + 0x228 + x * 0x10
def R.TIM_CAP_REF_LO : Nat := timBase + 0x240
def R.TIM_CAP_REF_HI : Nat := timBase + 0x244
def R.TIM_REF_STATUS : Nat := timBase + 0x250
/-! Registers of block FLT. -/
def R.FLT_STATUS : Nat := fltBase + 0x0
def R.FLT_CFG : Nat := fltBase + 0x4
def R.FLT_ESC_CFG : Nat := fltBase + 0x8
def R.FLT_ESC_ACK : Nat := fltBase + 0xC
def R.FLT_RESET_CAUSE : Nat := fltBase + 0x10
def R.FLT_ESC_COUNT : Nat := fltBase + 0x14
def R.FLT_HEAD_MSG_LO : Nat := fltBase + 0x20
def R.FLT_HEAD_MSG_HI : Nat := fltBase + 0x24
def R.FLT_HEAD_SEQ : Nat := fltBase + 0x28
def R.FLT_HEAD_TS_NS : Nat := fltBase + 0x2C
def R.FLT_HEAD_TS_S_LO : Nat := fltBase + 0x30
def R.FLT_HEAD_TS_S_HI : Nat := fltBase + 0x34
def R.FLT_POP : Nat := fltBase + 0x38
def R.FLT_INJECT_LO : Nat := fltBase + 0x40
def R.FLT_INJECT_HI : Nat := fltBase + 0x44
def R.FLT_FAULT_N_CTRL : Nat := fltBase + 0x50
def R.FLT_FIRST_MSG_LO : Nat := fltBase + 0x60
def R.FLT_FIRST_MSG_HI : Nat := fltBase + 0x64
def R.FLT_FIRST_SEQ : Nat := fltBase + 0x68
def R.FLT_FIRST_REQ : Nat := fltBase + 0x6C
def R.FLT_FIRST_TS_NS : Nat := fltBase + 0x70
def R.FLT_FIRST_TS_S_LO : Nat := fltBase + 0x74
def R.FLT_FIRST_TS_S_HI : Nat := fltBase + 0x78
def R.FLT_FIRST_CLR : Nat := fltBase + 0x7C
def R.FLT_FIRST_REF_LO : Nat := fltBase + 0x80
def R.FLT_FIRST_REF_HI : Nat := fltBase + 0x84
def R.FLT_COUNT (x : Nat) : Nat := fltBase + 0x100 + x * 0x8
def R.FLT_LOST : Nat := fltBase + 0x120
def R.FLT_SEV (x y : Nat) : Nat := fltBase + 0x1000 + x * 0x40 + y * 0x4
/-! Registers of block CHN. -/
def R.CHN_ADDR : Nat := chnBase + 0x0
def R.CHN_STATUS : Nat := chnBase + 0x4
def R.CHN_RING_HOLD : Nat := chnBase + 0x8
def R.CHN_CMD_EN : Nat := chnBase + 0xC
def R.CHN_TALLY_GROUP : Nat := chnBase + 0x10
def R.CHN_SNAP_ID : Nat := chnBase + 0x14
def R.CHN_SWEEP_STATUS : Nat := chnBase + 0x18
def R.CHN_TALLY (x : Nat) : Nat := chnBase + 0x100 + x * 0x8
def R.CHN_TALLY_LEARNED : Nat := chnBase + 0x1A0
def R.CHN_HEAD_CTRL : Nat := chnBase + 0x200
def R.CHN_HEAD_STATUS : Nat := chnBase + 0x204
def R.CHN_TX_HDR0 : Nat := chnBase + 0x208
def R.CHN_TX_HDR1 : Nat := chnBase + 0x20C
def R.CHN_TX_DATA (x : Nat) : Nat := chnBase + 0x240 + x * 0x4
def R.CHN_RX_HDR0 : Nat := chnBase + 0x280
def R.CHN_RX_HDR1 : Nat := chnBase + 0x284
def R.CHN_RX_POP : Nat := chnBase + 0x288
def R.CHN_RX_DATA (x : Nat) : Nat := chnBase + 0x2C0 + x * 0x4
def R.CHN_CRC_ERR : Nat := chnBase + 0x300
def R.CHN_BAD_FRAMES : Nat := chnBase + 0x308
def R.CHN_SNAP_REFUSED : Nat := chnBase + 0x310
def R.CHN_RX_OVERFLOW : Nat := chnBase + 0x318
/-! Registers of block PAIR. -/
def R.PAIR_CFG : Nat := pairBase + 0x0
def R.PAIR_TIMING : Nat := pairBase + 0x4
def R.PAIR_CTRL : Nat := pairBase + 0x8
def R.PAIR_STATUS : Nat := pairBase + 0xC
def R.PAIR_EPOCH : Nat := pairBase + 0x10
def R.PAIR_NEXT_SEQ : Nat := pairBase + 0x18
def R.PAIR_APPLIED_SEQ : Nat := pairBase + 0x20
def R.PAIR_REMOTE_NH_BASE : Nat := pairBase + 0x30
def R.PAIR_CKPT_ADDR_LO : Nat := pairBase + 0x40
def R.PAIR_CKPT_ADDR_HI : Nat := pairBase + 0x44
def R.PAIR_CKPT_STATUS : Nat := pairBase + 0x48
def R.PAIR_PEER_TALLY (x : Nat) : Nat := pairBase + 0x100 + x * 0x8
def R.PAIR_TALLY_EQ : Nat := pairBase + 0x1A0
def R.PAIR_PEER_TIME (x : Nat) : Nat := pairBase + 0x200 + x * 0x4
def R.PAIR_MSG_ERR : Nat := pairBase + 0x300
def R.PAIR_CMD_MIRRORED : Nat := pairBase + 0x308
def R.PAIR_GLEAN_RX : Nat := pairBase + 0x310
def R.PAIR_FRAG_DROP : Nat := pairBase + 0x318
/-! Registers of block OBS. -/
def R.OBS_SNAP_CTRL : Nat := obsBase + 0x0
def R.OBS_SNAP_AT_NS : Nat := obsBase + 0x4
def R.OBS_SNAP_AT_S_LO : Nat := obsBase + 0x8
def R.OBS_SNAP_AT_S_HI : Nat := obsBase + 0xC
def R.OBS_SNAP_TAG : Nat := obsBase + 0x10
def R.OBS_SNAP_STATUS : Nat := obsBase + 0x14
def R.OBS_SNAP_TIME_NS : Nat := obsBase + 0x18
def R.OBS_SNAP_TIME_S_LO : Nat := obsBase + 0x1C
def R.OBS_SNAP_TIME_S_HI : Nat := obsBase + 0x20
def R.OBS_SNAP_REF_LO : Nat := obsBase + 0x24
def R.OBS_SNAP_REF_HI : Nat := obsBase + 0x28
def R.OBS_SNAP_ADDR : Nat := obsBase + 0x40
def R.OBS_SNAP_DATA_LO : Nat := obsBase + 0x44
def R.OBS_SNAP_DATA_HI : Nat := obsBase + 0x48
def R.OBS_TRC_FILTER (x : Nat) : Nat := obsBase + 0x100 + x * 0x4
def R.OBS_TRC_HEAD (x : Nat) : Nat := obsBase + 0x140 + x * 0x20
def R.OBS_TRC_SEQ (x : Nat) : Nat := obsBase + 0x148 + x * 0x20
def R.OBS_TRC_STATUS (x : Nat) : Nat := obsBase + 0x14C + x * 0x20
def R.OBS_TRC_DROP (x : Nat) : Nat := obsBase + 0x150 + x * 0x20
def R.OBS_TRC_CTRL : Nat := obsBase + 0x1C0
def R.OBS_TRC_RD_ADDR : Nat := obsBase + 0x1C4
def R.OBS_TRC_RD_STATUS : Nat := obsBase + 0x1C8
def R.OBS_TRC_RD_DATA (x : Nat) : Nat := obsBase + 0x1D0 + x * 0x4
def R.OBS_PORT_CFG : Nat := obsBase + 0x200
def R.OBS_PMC_GLOBAL : Nat := obsBase + 0x300
def R.OBS_PMC_CTRL : Nat := obsBase + 0x1000
def R.OBS_PMC_REF : Nat := obsBase + 0x1008
def R.OBS_PMC_SEL (x : Nat) : Nat := obsBase + 0x1010 + x * 0x4
def R.OBS_PMC_CNT (x : Nat) : Nat := obsBase + 0x1040 + x * 0x8
/-! Registers of block HIF. -/
def R.HIF_LINK_STATUS : Nat := hifBase + 0x0
def R.HIF_VF_VECTORS : Nat := hifBase + 0x4
def R.HIF_INT0_CAUSE : Nat := hifBase + 0x100
def R.HIF_INT0_MASK : Nat := hifBase + 0x104
def R.HIF_INT0_ACK : Nat := hifBase + 0x108
def R.HIF_INT0_VEC (x : Nat) : Nat := hifBase + 0x140 + x * 0x4
def R.HIF_SUM_LINK (x : Nat) : Nat := hifBase + 0x180 + x * 0x4
def R.HIF_SUM_GATE (x : Nat) : Nat := hifBase + 0x1A0 + x * 0x4
def R.HIF_SUM_INSRESET (x : Nat) : Nat := hifBase + 0x1C0 + x * 0x4
def R.HIF_SUM_MBOX (x : Nat) : Nat := hifBase + 0x1E0 + x * 0x4
def R.HIF_POOL_WAIT : Nat := hifBase + 0x200
def R.HIF_TX_INJECT_LIMIT : Nat := hifBase + 0x204
def R.HIF_STG_FREE : Nat := hifBase + 0x208
def R.HIF_RX_MAP (x y : Nat) : Nat := hifBase + 0x1000 + x * 0x400 + y * 0x4
def R.HIF_GLN_BASE_LO (x : Nat) : Nat := hifBase + 0x2000 + x * 0x20
def R.HIF_GLN_BASE_HI (x : Nat) : Nat := hifBase + 0x2004 + x * 0x20
def R.HIF_GLN_CFG (x : Nat) : Nat := hifBase + 0x2008 + x * 0x20
def R.HIF_GLN_TAIL (x : Nat) : Nat := hifBase + 0x200C + x * 0x20
def R.HIF_GLN_HEAD (x : Nat) : Nat := hifBase + 0x2010 + x * 0x20
def R.HIF_RX_UNMAPPED : Nat := hifBase + 0x4000
def R.HIF_STG_FULL_DROP : Nat := hifBase + 0x4008
def R.HIF_RING_DISABLED_DROP : Nat := hifBase + 0x4010
def R.HIF_DMA_ERR : Nat := hifBase + 0x4018
def R.HIF_PMC_CTRL : Nat := hifBase + 0x6000
def R.HIF_PMC_REF : Nat := hifBase + 0x6008
def R.HIF_PMC_SEL (x : Nat) : Nat := hifBase + 0x6010 + x * 0x4
def R.HIF_PMC_CNT (x : Nat) : Nat := hifBase + 0x6040 + x * 0x8
def R.HIF_RXR_BASE_LO (x : Nat) : Nat := hifBase + 0x20000 + x * 0x10
def R.HIF_RXR_BASE_HI (x : Nat) : Nat := hifBase + 0x20004 + x * 0x10
def R.HIF_RXR_CFG (x : Nat) : Nat := hifBase + 0x20008 + x * 0x10
def R.HIF_RXR_STATUS (x : Nat) : Nat := hifBase + 0x2000C + x * 0x10
def R.HIF_TXR_BASE_LO (x : Nat) : Nat := hifBase + 0x40000 + x * 0x10
def R.HIF_TXR_BASE_HI (x : Nat) : Nat := hifBase + 0x40004 + x * 0x10
def R.HIF_TXR_CFG (x : Nat) : Nat := hifBase + 0x40008 + x * 0x10
def R.HIF_TXR_STATUS (x : Nat) : Nat := hifBase + 0x4000C + x * 0x10
/-! Registers of block INS. -/
def R.INS_INS_CTRL (i : Nat) : Nat := insBase i + 0x0
def R.INS_INS_RESET_CFG (i : Nat) : Nat := insBase i + 0x4
def R.INS_INS_STATUS (i : Nat) : Nat := insBase i + 0x8
def R.INS_RX_RANGE (i : Nat) : Nat := insBase i + 0x10
def R.INS_TX_RANGE (i : Nat) : Nat := insBase i + 0x14
def R.INS_PORT_MASK (i x : Nat) : Nat := insBase i + 0x20 + x * 0x4
def R.INS_CQ_RANGE (i : Nat) : Nat := insBase i + 0x40
def R.INS_CODE_RANGE (i : Nat) : Nat := insBase i + 0x44
def R.INS_TMPL_MASK_LO (i : Nat) : Nat := insBase i + 0x48
def R.INS_TMPL_MASK_HI (i : Nat) : Nat := insBase i + 0x4C
def R.INS_DIE_MASK (i : Nat) : Nat := insBase i + 0x50
def R.INS_ENG_MAX (i : Nat) : Nat := insBase i + 0x54
def R.INS_WIN_CFG (i x : Nat) : Nat := insBase i + 0x80 + x * 0x10
def R.INS_WIN_BASE (i x : Nat) : Nat := insBase i + 0x84 + x * 0x10
def R.INS_WIN_SIZE (i x : Nat) : Nat := insBase i + 0x88 + x * 0x10
def R.INS_POOL_BASE_LO (i x : Nat) : Nat := insBase i + 0x200 + x * 0x10
def R.INS_POOL_BASE_HI (i x : Nat) : Nat := insBase i + 0x204 + x * 0x10
def R.INS_POOL_CFG (i x : Nat) : Nat := insBase i + 0x208 + x * 0x10
def R.INS_POOL_STATUS (i x : Nat) : Nat := insBase i + 0x20C + x * 0x10
def R.INS_MBOX_TO_VF (i x : Nat) : Nat := insBase i + 0x300 + x * 0x4
def R.INS_MBOX_FROM_VF (i x : Nat) : Nat := insBase i + 0x340 + x * 0x4
def R.INS_MBOX_CTRL (i : Nat) : Nat := insBase i + 0x380
def R.INS_DIRTY_CFG (i : Nat) : Nat := insBase i + 0x400
def R.INS_DIRTY_MAP0_LO (i : Nat) : Nat := insBase i + 0x404
def R.INS_DIRTY_MAP0_HI (i : Nat) : Nat := insBase i + 0x408
def R.INS_DIRTY_MAP1_LO (i : Nat) : Nat := insBase i + 0x40C
def R.INS_DIRTY_MAP1_HI (i : Nat) : Nat := insBase i + 0x410
def R.INS_DIRTY_START_LO (i : Nat) : Nat := insBase i + 0x414
def R.INS_DIRTY_START_HI (i : Nat) : Nat := insBase i + 0x418
def R.INS_DIRTY_PAGES (i : Nat) : Nat := insBase i + 0x41C
def R.INS_RX_FRAMES (i : Nat) : Nat := insBase i + 0x800
def R.INS_RX_BYTES (i : Nat) : Nat := insBase i + 0x808
def R.INS_RX_POOL_DROP (i : Nat) : Nat := insBase i + 0x810
def R.INS_RX_RING_DROP (i : Nat) : Nat := insBase i + 0x818
def R.INS_RX_DISCARD (i : Nat) : Nat := insBase i + 0x820
def R.INS_RX_RESET_DROP (i : Nat) : Nat := insBase i + 0x828
def R.INS_TX_FRAMES (i : Nat) : Nat := insBase i + 0x830
def R.INS_TX_BYTES (i : Nat) : Nat := insBase i + 0x838
def R.INS_TX_DENIED (i : Nat) : Nat := insBase i + 0x840
def R.INS_TX_HELD (i : Nat) : Nat := insBase i + 0x848
def R.INS_TX_INJECT_TIMEOUT (i : Nat) : Nat := insBase i + 0x850
def R.INS_TX_DMA_ERR (i : Nat) : Nat := insBase i + 0x858
def R.INS_POOL_EMPTY (i x : Nat) : Nat := insBase i + 0x860 + x * 0x8
def R.INS_SQUASH_DROP (i : Nat) : Nat := insBase i + 0x880
def R.INS_DIRTY_OUT_RANGE (i : Nat) : Nat := insBase i + 0x888
/-! Registers of block XBAR. -/
def R.XBAR_CASC_CFG : Nat := xbarBase + 0x400
def R.XBAR_CASC_HELD (x : Nat) : Nat := xbarBase + 0x410 + x * 0x8
/-! Registers of block LANE. -/
def R.LANE_CFG (n : Nat) : Nat := laneBase n + 0x0
def R.LANE_TXEQ (n : Nat) : Nat := laneBase n + 0x4
def R.LANE_STATUS (n : Nat) : Nat := laneBase n + 0x10
/-! Registers of block MAC. -/
def R.MAC_PORT_CFG (p : Nat) : Nat := macBase p + 0x0
def R.MAC_PORT_STATE (p : Nat) : Nat := macBase p + 0x4
def R.MAC_LINK_STATUS (p : Nat) : Nat := macBase p + 0x14
def R.MAC_LINK_EVENTS (p : Nat) : Nat := macBase p + 0x18
def R.MAC_PAUSE_CFG (p : Nat) : Nat := macBase p + 0x100
def R.MAC_PAUSE_TX_CFG (p : Nat) : Nat := macBase p + 0x104
def R.MAC_PAUSE_STATUS (p : Nat) : Nat := macBase p + 0x108
def R.MAC_CTRL_SA_LO (p : Nat) : Nat := macBase p + 0x110
def R.MAC_CTRL_SA_HI (p : Nat) : Nat := macBase p + 0x114
def R.MAC_PREEMPT_CFG (p : Nat) : Nat := macBase p + 0x200
def R.MAC_PREEMPT_STATUS (p : Nat) : Nat := macBase p + 0x204
def R.MAC_TS_CFG (p : Nat) : Nat := macBase p + 0x300
def R.MAC_RX_FRAMES_OK (p : Nat) : Nat := macBase p + 0x400
def R.MAC_RX_BYTES_OK (p : Nat) : Nat := macBase p + 0x408
def R.MAC_RX_FCS_ERR (p : Nat) : Nat := macBase p + 0x410
def R.MAC_RX_RUNT (p : Nat) : Nat := macBase p + 0x418
def R.MAC_RX_OVERSIZE (p : Nat) : Nat := macBase p + 0x420
def R.MAC_RX_CW_BAD_FRAMES (p : Nat) : Nat := macBase p + 0x428
def R.MAC_RX_BAD_AFTER_HEAD (p : Nat) : Nat := macBase p + 0x430
def R.MAC_RX_LINKDOWN_TRUNC (p : Nat) : Nat := macBase p + 0x438
def R.MAC_RX_PAUSE_FRAMES (p : Nat) : Nat := macBase p + 0x440
def R.MAC_RX_PFC_FRAMES (p : Nat) : Nat := macBase p + 0x448
def R.MAC_RX_CTRL_DISCARD (p : Nat) : Nat := macBase p + 0x450
def R.MAC_RX_ASSEMBLY_ERR (p : Nat) : Nat := macBase p + 0x458
def R.MAC_TX_FRAMES_OK (p : Nat) : Nat := macBase p + 0x480
def R.MAC_TX_BYTES_OK (p : Nat) : Nat := macBase p + 0x488
def R.MAC_TX_STOMP_UNDERRUN (p : Nat) : Nat := macBase p + 0x490
def R.MAC_TX_STOMP_BAD (p : Nat) : Nat := macBase p + 0x498
def R.MAC_TX_BAD_DROP (p : Nat) : Nat := macBase p + 0x4A0
def R.MAC_TX_PAUSE_FRAMES (p : Nat) : Nat := macBase p + 0x4A8
def R.MAC_TX_PFC_FRAMES (p : Nat) : Nat := macBase p + 0x4B0
def R.MAC_TX_LINKDOWN_DROP (p : Nat) : Nat := macBase p + 0x4B8
def R.MAC_TX_FRAGMENTS (p : Nat) : Nat := macBase p + 0x4C0
def R.MAC_FEC_CW_CORRECTED (p : Nat) : Nat := macBase p + 0x500
def R.MAC_FEC_CW_UNCORRECTED (p : Nat) : Nat := macBase p + 0x508
def R.MAC_FEC_SYM_CORRECTED (p : Nat) : Nat := macBase p + 0x510
def R.MAC_LINK_DOWN_EVENTS (p : Nat) : Nat := macBase p + 0x518
def R.MAC_STG_CFG (p : Nat) : Nat := macBase p + 0x600
def R.MAC_STG_DROP_FRAMES (p : Nat) : Nat := macBase p + 0x610
def R.MAC_STG_DROP_BYTES (p : Nat) : Nat := macBase p + 0x618
def R.MAC_STG_XOFF_EVENTS (p : Nat) : Nat := macBase p + 0x620
def R.MAC_BW_CFG (p : Nat) : Nat := macBase p + 0x700
def R.MAC_BW_STATUS (p : Nat) : Nat := macBase p + 0x704
def R.MAC_BW_RX_BYTES (p : Nat) : Nat := macBase p + 0x708
def R.MAC_BW_TX_BYTES (p : Nat) : Nat := macBase p + 0x710
def R.MAC_BW_RX_MAX (p : Nat) : Nat := macBase p + 0x718
def R.MAC_BW_TX_MAX (p : Nat) : Nat := macBase p + 0x720
def R.MAC_PMC_CTRL (p : Nat) : Nat := macBase p + 0xF00
def R.MAC_PMC_REF (p : Nat) : Nat := macBase p + 0xF08
def R.MAC_PMC_SEL (p x : Nat) : Nat := macBase p + 0xF10 + x * 0x4
def R.MAC_PMC_CNT (p x : Nat) : Nat := macBase p + 0xF40 + x * 0x8
/-! Registers of block DIE. -/
def R.DIE_HOLD_CTRL (d : Nat) : Nat := dieBase d + 0x1000
def R.DIE_HOLD_CFG (d : Nat) : Nat := dieBase d + 0x1004
def R.DIE_HOLD_STATUS (d : Nat) : Nat := dieBase d + 0x1008
def R.DIE_HOLD_DROP (d : Nat) : Nat := dieBase d + 0x1010
def R.DIE_FWD_RESET_DROP (d : Nat) : Nat := dieBase d + 0x1018
def R.DIE_SENT_CFG (d : Nat) : Nat := dieBase d + 0x2000
def R.DIE_SENT_FLOOR (d x : Nat) : Nat := dieBase d + 0x2010 + x * 0x4
def R.DIE_AVS_STATUS (d : Nat) : Nat := dieBase d + 0x2020
def R.DIE_AVS_CFG (d : Nat) : Nat := dieBase d + 0x2024
def R.DIE_SAG_CFG (d : Nat) : Nat := dieBase d + 0x2040
def R.DIE_SAG_STATUS (d : Nat) : Nat := dieBase d + 0x2044
def R.DIE_HELD_TICKS (d : Nat) : Nat := dieBase d + 0x3000
def R.DIE_FLT_STATUS (d : Nat) : Nat := dieBase d + 0x4000
def R.DIE_ESC_CFG (d : Nat) : Nat := dieBase d + 0x4008
def R.DIE_ESC_ACK (d : Nat) : Nat := dieBase d + 0x400C
def R.DIE_ESC_COUNT (d : Nat) : Nat := dieBase d + 0x4014
def R.DIE_FIRST_MSG_LO (d : Nat) : Nat := dieBase d + 0x4060
def R.DIE_FIRST_MSG_HI (d : Nat) : Nat := dieBase d + 0x4064
def R.DIE_FIRST_SEQ (d : Nat) : Nat := dieBase d + 0x4068
def R.DIE_FIRST_REQ (d : Nat) : Nat := dieBase d + 0x406C
def R.DIE_FIRST_TS_NS (d : Nat) : Nat := dieBase d + 0x4070
def R.DIE_FIRST_TS_S_LO (d : Nat) : Nat := dieBase d + 0x4074
def R.DIE_FIRST_TS_S_HI (d : Nat) : Nat := dieBase d + 0x4078
def R.DIE_FIRST_CLR (d : Nat) : Nat := dieBase d + 0x407C
def R.DIE_FIRST_REF_LO (d : Nat) : Nat := dieBase d + 0x4080
def R.DIE_FIRST_REF_HI (d : Nat) : Nat := dieBase d + 0x4084
def R.DIE_FLT_LOST (d : Nat) : Nat := dieBase d + 0x4120
def R.DIE_PMC_CTRL (d : Nat) : Nat := dieBase d + 0x5000
def R.DIE_PMC_REF (d : Nat) : Nat := dieBase d + 0x5008
def R.DIE_PMC_SEL (d x : Nat) : Nat := dieBase d + 0x5010 + x * 0x4
def R.DIE_PMC_CNT (d x : Nat) : Nat := dieBase d + 0x5040 + x * 0x8
/-! Registers of block HBM. -/
def R.HBM_CTRL_CFG (d : Nat) : Nat := hbmBase d + 0x0
def R.HBM_SILO_GRANTED (d : Nat) : Nat := hbmBase d + 0x10
def R.HBM_SILO_VOID (d : Nat) : Nat := hbmBase d + 0x14
def R.HBM_SR_STATUS (d : Nat) : Nat := hbmBase d + 0x18
def R.HBM_ECC_CE (d : Nat) : Nat := hbmBase d + 0x100
def R.HBM_ECC_UE (d : Nat) : Nat := hbmBase d + 0x108
def R.HBM_SILO_ECC_DROP (d : Nat) : Nat := hbmBase d + 0x110
def R.HBM_LINK_FALLBACK (d : Nat) : Nat := hbmBase d + 0x118
def R.HBM_SILO_LEAK (d : Nat) : Nat := hbmBase d + 0x120
def R.HBM_TRAIN_CFG (d : Nat) : Nat := hbmBase d + 0x1000
def R.HBM_TRAIN_STATUS (d : Nat) : Nat := hbmBase d + 0x1004
def R.HBM_TRAIN (d x y : Nat) : Nat := hbmBase d + 0x2000 + x * 0x400 + y * 0x4
def R.HBM_PMC_CTRL (d : Nat) : Nat := hbmBase d + 0x3000
def R.HBM_PMC_REF (d : Nat) : Nat := hbmBase d + 0x3008
def R.HBM_PMC_SEL (d x : Nat) : Nat := hbmBase d + 0x3010 + x * 0x4
def R.HBM_PMC_CNT (d x : Nat) : Nat := hbmBase d + 0x3040 + x * 0x8
/-! Registers of block XEP. -/
def R.XEP_XB_LL (d x : Nat) : Nat := xepBase d + 0x0 + x * 0x4
def R.XEP_OVER_DROP (d x : Nat) : Nat := xepBase d + 0x100 + x * 0x8
def R.XEP_LL_WAIT (d x : Nat) : Nat := xepBase d + 0x140 + x * 0x8
def R.XEP_HELD_FLUSH (d : Nat) : Nat := xepBase d + 0x180
def R.XEP_LINK_REPLAY (d x : Nat) : Nat := xepBase d + 0x190 + x * 0x8
def R.XEP_LINK_LOSS (d : Nat) : Nat := xepBase d + 0x1A8
def R.XEP_LINK_STATUS (d : Nat) : Nat := xepBase d + 0x1B0
def R.XEP_PMC_CTRL (d : Nat) : Nat := xepBase d + 0x1000
def R.XEP_PMC_REF (d : Nat) : Nat := xepBase d + 0x1008
def R.XEP_PMC_SEL (d x : Nat) : Nat := xepBase d + 0x1010 + x * 0x4
def R.XEP_PMC_CNT (d x : Nat) : Nat := xepBase d + 0x1040 + x * 0x8
/-! Registers of block TBL. -/
def R.TBL_CMD (d : Nat) : Nat := tblBase d + 0x0
def R.TBL_CMD_INDEX (d : Nat) : Nat := tblBase d + 0x4
def R.TBL_CMD_STATUS (d : Nat) : Nat := tblBase d + 0x8
def R.TBL_CMD_RESULT (d : Nat) : Nat := tblBase d + 0xC
def R.TBL_CMD_DATA (d x : Nat) : Nat := tblBase d + 0x40 + x * 0x4
def R.TBL_EM_CFG (d : Nat) : Nat := tblBase d + 0x100
def R.TBL_EM_SEED (d x : Nat) : Nat := tblBase d + 0x110 + x * 0x4
def R.TBL_EM_LIMIT (d x : Nat) : Nat := tblBase d + 0x124 + x * 0x4
def R.TBL_EM_USED (d x : Nat) : Nat := tblBase d + 0x134 + x * 0x4
def R.TBL_EM_INSERTS (d : Nat) : Nat := tblBase d + 0x180
def R.TBL_EM_MOVES (d : Nat) : Nat := tblBase d + 0x188
def R.TBL_EM_FULL_FAILS (d : Nat) : Nat := tblBase d + 0x190
def R.TBL_EM_LIMIT_FAILS (d : Nat) : Nat := tblBase d + 0x198
def R.TBL_FENCE (d : Nat) : Nat := tblBase d + 0x200
def R.TBL_FENCE_STATUS (d : Nat) : Nat := tblBase d + 0x204
def R.TBL_FENCE_CFG (d : Nat) : Nat := tblBase d + 0x208
def R.TBL_FENCE_LEFT (d : Nat) : Nat := tblBase d + 0x20C
def R.TBL_FENCES_ISSUED (d : Nat) : Nat := tblBase d + 0x210
def R.TBL_FENCE_TIMEOUTS (d : Nat) : Nat := tblBase d + 0x218
def R.TBL_GLN_CFG (d : Nat) : Nat := tblBase d + 0x400
def R.TBL_GLN_AGE_CFG (d : Nat) : Nat := tblBase d + 0x404
def R.TBL_GLN_QUANTUM (d : Nat) : Nat := tblBase d + 0x408
def R.TBL_GLN_STATUS (d : Nat) : Nat := tblBase d + 0x40C
def R.TBL_GLN_LEARNS (d : Nat) : Nat := tblBase d + 0x480
def R.TBL_GLN_MOVES (d : Nat) : Nat := tblBase d + 0x488
def R.TBL_GLN_AGED (d : Nat) : Nat := tblBase d + 0x490
def R.TBL_GLN_AGE_SAVED (d : Nat) : Nat := tblBase d + 0x498
def R.TBL_GLN_CAND_DROP (d : Nat) : Nat := tblBase d + 0x4A0
def R.TBL_GLN_EVENT_DROP (d : Nat) : Nat := tblBase d + 0x4A8
def R.TBL_GLN_LEARN_FAIL (d : Nat) : Nat := tblBase d + 0x4B0
def R.TBL_WIN_CFG (d : Nat) : Nat := tblBase d + 0x600
def R.TBL_WIN_RECHECK (d : Nat) : Nat := tblBase d + 0x604
def R.TBL_WIN_SHADOW_LO (d : Nat) : Nat := tblBase d + 0x608
def R.TBL_WIN_SHADOW_HI (d : Nat) : Nat := tblBase d + 0x60C
def R.TBL_WIN_COUNT (d : Nat) : Nat := tblBase d + 0x610
def R.TBL_WIN_LOG_LO (d : Nat) : Nat := tblBase d + 0x614
def R.TBL_WIN_LOG_HI (d : Nat) : Nat := tblBase d + 0x618
def R.TBL_WIN_LOG_SIZE (d : Nat) : Nat := tblBase d + 0x61C
def R.TBL_WIN_LOG_HEAD (d : Nat) : Nat := tblBase d + 0x620
def R.TBL_WIN_CTRL (d : Nat) : Nat := tblBase d + 0x624
def R.TBL_WIN_STATUS (d : Nat) : Nat := tblBase d + 0x628
def R.TBL_WIN_PASSES (d : Nat) : Nat := tblBase d + 0x640
def R.TBL_WIN_MISMATCHES (d : Nat) : Nat := tblBase d + 0x648
def R.TBL_EM_TMPL_STAGE (d x : Nat) : Nat := tblBase d + 0x700 + x * 0x4
def R.TBL_EM_TMPL_CTRL (d : Nat) : Nat := tblBase d + 0x740
def R.TBL_EM_TMPL (d x y : Nat) : Nat := tblBase d + 0x1000 + x * 0x40 + y * 0x4
def R.TBL_LPM_BSEL (d x : Nat) : Nat := tblBase d + 0x2000 + x * 0x4
def R.TBL_LPM_BSEL_CFG (d : Nat) : Nat := tblBase d + 0x2400
def R.TBL_PMC_CTRL (d : Nat) : Nat := tblBase d + 0x3000
def R.TBL_PMC_REF (d : Nat) : Nat := tblBase d + 0x3008
def R.TBL_PMC_SEL (d x : Nat) : Nat := tblBase d + 0x3010 + x * 0x4
def R.TBL_PMC_CNT (d x : Nat) : Nat := tblBase d + 0x3040 + x * 0x8
/-! Registers of block RGN. -/
def R.RGN_BUF_CFG (G : Nat) : Nat := rgnBase G + 0x0
def R.RGN_LL_CFG (G : Nat) : Nat := rgnBase G + 0x4
def R.RGN_LL_HDRM (G : Nat) : Nat := rgnBase G + 0x8
def R.RGN_BUF_SHARED (G : Nat) : Nat := rgnBase G + 0x40
def R.RGN_BUF_RESERVED (G : Nat) : Nat := rgnBase G + 0x44
def R.RGN_BUF_HDRM (G : Nat) : Nat := rgnBase G + 0x48
def R.RGN_BUF_BORROWED (G : Nat) : Nat := rgnBase G + 0x4C
def R.RGN_BUF_TAIL (G : Nat) : Nat := rgnBase G + 0x50
def R.RGN_PTR_USED (G : Nat) : Nat := rgnBase G + 0x54
def R.RGN_ADMIT_DROP (G : Nat) : Nat := rgnBase G + 0x100
def R.RGN_PO_EVICT (G : Nat) : Nat := rgnBase G + 0x108
def R.RGN_PO_VOID (G : Nat) : Nat := rgnBase G + 0x110
def R.RGN_PTR_DROP (G : Nat) : Nat := rgnBase G + 0x118
def R.RGN_SILO_DROP_LIMIT (G : Nat) : Nat := rgnBase G + 0x120
def R.RGN_SILO_DROP_FULL (G : Nat) : Nat := rgnBase G + 0x128
def R.RGN_SILO_DROP_BW (G : Nat) : Nat := rgnBase G + 0x130
def R.RGN_BRK (G x : Nat) : Nat := rgnBase G + 0x140 + x * 0x8
def R.RGN_QCFG (G x : Nat) : Nat := rgnBase G + 0x10000 + x * 0x4
def R.RGN_QSPILL (G x : Nat) : Nat := rgnBase G + 0x20000 + x * 0x4
def R.RGN_QLIM (G x : Nat) : Nat := rgnBase G + 0x30000 + x * 0x4
def R.RGN_QSTAT (G x y : Nat) : Nat := rgnBase G + 0x40000 + x * 0x8 + y * 0x4
def R.RGN_LL_STAT (G x y : Nat) : Nat := rgnBase G + 0x50000 + x * 0x20 + y * 0x4
def R.RGN_MISS_CFG (G : Nat) : Nat := rgnBase G + 0x60000
def R.RGN_EKW_SEL (G x : Nat) : Nat := rgnBase G + 0x60100 + x * 0x4
def R.RGN_MISS_TUNNEL (G : Nat) : Nat := rgnBase G + 0x60200
def R.RGN_MISS_LABEL (G : Nat) : Nat := rgnBase G + 0x60208
def R.RGN_MISS_L2 (G : Nat) : Nat := rgnBase G + 0x60210
def R.RGN_MISS_L3 (G : Nat) : Nat := rgnBase G + 0x60218
def R.RGN_ACT_DROP (G : Nat) : Nat := rgnBase G + 0x60220
def R.RGN_NO_DEST_DROP (G : Nat) : Nat := rgnBase G + 0x60228
def R.RGN_HELD_DROP (G x : Nat) : Nat := rgnBase G + 0x60240 + x * 0x8
def R.RGN_EACL_DROP (G : Nat) : Nat := rgnBase G + 0x60260
def R.RGN_EM_BANK_WAIT (G : Nat) : Nat := rgnBase G + 0x60280
def R.RGN_LPM_SEARCH (G x : Nat) : Nat := rgnBase G + 0x61000 + x * 0x10
def R.RGN_LPM_WAIT (G x : Nat) : Nat := rgnBase G + 0x61008 + x * 0x10
def R.RGN_ECMP_HASH (G : Nat) : Nat := rgnBase G + 0x62000
def R.RGN_ECMP_SEED (G : Nat) : Nat := rgnBase G + 0x62004
def R.RGN_RW_CFG (G : Nat) : Nat := rgnBase G + 0x62010
def R.RGN_TTL_HOSTLIM (G : Nat) : Nat := rgnBase G + 0x62014
def R.RGN_MC_CFG (G : Nat) : Nat := rgnBase G + 0x62020
def R.RGN_RW_INVALID_DROP (G : Nat) : Nat := rgnBase G + 0x62100
def R.RGN_RW_ERR_DROP (G : Nat) : Nat := rgnBase G + 0x62108
def R.RGN_RW_OVERSIZE_DROP (G : Nat) : Nat := rgnBase G + 0x62110
def R.RGN_RW_TTL_EXPIRED (G : Nat) : Nat := rgnBase G + 0x62118
def R.RGN_RW_TTL_HOSTLIM_DROP (G : Nat) : Nat := rgnBase G + 0x62120
def R.RGN_RW_ECN_DROP (G : Nat) : Nat := rgnBase G + 0x62128
def R.RGN_RW_CSUM_WAIT (G : Nat) : Nat := rgnBase G + 0x62130
def R.RGN_MC_COPIES (G : Nat) : Nat := rgnBase G + 0x62138
def R.RGN_MC_POINTERS (G : Nat) : Nat := rgnBase G + 0x62140
def R.RGN_MC_MEMBER_ERR (G : Nat) : Nat := rgnBase G + 0x62148
def R.RGN_MC_PRUNED (G : Nat) : Nat := rgnBase G + 0x62150
def R.RGN_MC_ENQ_DROP (G : Nat) : Nat := rgnBase G + 0x62158
def R.RGN_SAMPLE_TAKEN (G : Nat) : Nat := rgnBase G + 0x62160
def R.RGN_SAMP_CFG (G : Nat) : Nat := rgnBase G + 0x63000
def R.RGN_POL_GREEN (G : Nat) : Nat := rgnBase G + 0x63100
def R.RGN_POL_YELLOW (G : Nat) : Nat := rgnBase G + 0x63108
def R.RGN_POL_RED (G : Nat) : Nat := rgnBase G + 0x63110
def R.RGN_POL_DROP (G : Nat) : Nat := rgnBase G + 0x63118
def R.RGN_POL_INVALID (G : Nat) : Nat := rgnBase G + 0x63120
def R.RGN_SENT_TEMPO (G : Nat) : Nat := rgnBase G + 0x70000
def R.RGN_SENT_MARGIN (G : Nat) : Nat := rgnBase G + 0x70004
def R.RGN_SENT_CLR (G : Nat) : Nat := rgnBase G + 0x70008
def R.RGN_PMC_CTRL (G : Nat) : Nat := rgnBase G + 0x71000
def R.RGN_PMC_REF (G : Nat) : Nat := rgnBase G + 0x71008
def R.RGN_PMC_SEL (G x : Nat) : Nat := rgnBase G + 0x71010 + x * 0x4
def R.RGN_PMC_CNT (G x : Nat) : Nat := rgnBase G + 0x71040 + x * 0x8
def R.RGN_QSCHED (G x : Nat) : Nat := rgnBase G + 0x80000 + x * 0x4
def R.RGN_GSCHED (G x : Nat) : Nat := rgnBase G + 0x88000 + x * 0x4
def R.RGN_GSHP_MIN (G x : Nat) : Nat := rgnBase G + 0x90000 + x * 0x10
def R.RGN_GSHP_MAX (G x : Nat) : Nat := rgnBase G + 0x90004 + x * 0x10
def R.RGN_GSHP_BURST (G x : Nat) : Nat := rgnBase G + 0x90008 + x * 0x10
def R.RGN_GSHP_CTRL (G x : Nat) : Nat := rgnBase G + 0x9000C + x * 0x10
def R.RGN_QADMIT_DROP (G x : Nat) : Nat := rgnBase G + 0x100000 + x * 0x80
def R.RGN_QPO_VICTIM (G x : Nat) : Nat := rgnBase G + 0x100008 + x * 0x80
def R.RGN_QSILO_FRAMES (G x : Nat) : Nat := rgnBase G + 0x100010 + x * 0x80
def R.RGN_QSILO_DROP (G x : Nat) : Nat := rgnBase G + 0x100018 + x * 0x80
def R.RGN_QBRK (G x y : Nat) : Nat := rgnBase G + 0x100020 + x * 0x80 + y * 0x8
def R.RGN_QSHP_MIN (G x : Nat) : Nat := rgnBase G + 0x200000 + x * 0x10
def R.RGN_QSHP_MAX (G x : Nat) : Nat := rgnBase G + 0x200004 + x * 0x10
def R.RGN_QSHP_BURST (G x : Nat) : Nat := rgnBase G + 0x200008 + x * 0x10
def R.RGN_QSHP_CTRL (G x : Nat) : Nat := rgnBase G + 0x20000C + x * 0x10
def R.RGN_QSAMP_DEPTH (G x : Nat) : Nat := rgnBase G + 0x240000 + x * 0x10
def R.RGN_QSAMP_DELAY (G x : Nat) : Nat := rgnBase G + 0x240004 + x * 0x10
def R.RGN_QSAMP_DEPTH_MAX (G x : Nat) : Nat := rgnBase G + 0x240008 + x * 0x10
def R.RGN_QSAMP_DELAY_MAX (G x : Nat) : Nat := rgnBase G + 0x24000C + x * 0x10
/-! Registers of block CLS. -/
def R.CLS_SIEVE_CFG (C : Nat) : Nat := clsBase C + 0x0
def R.CLS_UDP_PORTS0 (C : Nat) : Nat := clsBase C + 0x4
def R.CLS_UDP_PORTS1 (C : Nat) : Nat := clsBase C + 0x8
def R.CLS_HANDOFF (C x : Nat) : Nat := clsBase C + 0x40 + x * 0x4
def R.CLS_ETYPE_HANDOFF (C x : Nat) : Nat := clsBase C + 0x80 + x * 0x4
def R.CLS_UDP_HANDOFF (C x : Nat) : Nat := clsBase C + 0x90 + x * 0x4
def R.CLS_FRAG_CFG (C : Nat) : Nat := clsBase C + 0x100
def R.CLS_FRAG_STATUS (C : Nat) : Nat := clsBase C + 0x104
def R.CLS_FRAG_CREATED (C : Nat) : Nat := clsBase C + 0x110
def R.CLS_FRAG_HIT (C : Nat) : Nat := clsBase C + 0x118
def R.CLS_FRAG_MISS (C : Nat) : Nat := clsBase C + 0x120
def R.CLS_FRAG_PENDING (C : Nat) : Nat := clsBase C + 0x128
def R.CLS_FRAG_SET_FULL (C : Nat) : Nat := clsBase C + 0x130
def R.CLS_FRAG_EXPIRED (C : Nat) : Nat := clsBase C + 0x138
def R.CLS_MAL_ACTION (C : Nat) : Nat := clsBase C + 0x200
def R.CLS_MAL_HOSTLIM (C : Nat) : Nat := clsBase C + 0x204
def R.CLS_MAL_HOSTLIM_DROP (C : Nat) : Nat := clsBase C + 0x208
def R.CLS_MAL_CNT (C x : Nat) : Nat := clsBase C + 0x300 + x * 0x8
def R.CLS_ME_CFG (C : Nat) : Nat := clsBase C + 0x800
def R.CLS_ME_CTRL (C : Nat) : Nat := clsBase C + 0x804
def R.CLS_ME_STATUS (C : Nat) : Nat := clsBase C + 0x808
def R.CLS_CS_STATUS (C : Nat) : Nat := clsBase C + 0x810
def R.CLS_CS_CTRL (C : Nat) : Nat := clsBase C + 0x814
def R.CLS_CS_RD_ADDR (C : Nat) : Nat := clsBase C + 0x820
def R.CLS_CS_RD_DATA (C x : Nat) : Nat := clsBase C + 0x824 + x * 0x4
def R.CLS_CS_DIGEST_LOAD (C : Nat) : Nat := clsBase C + 0x840
def R.CLS_CS_DIGEST_NOW (C : Nat) : Nat := clsBase C + 0x848
def R.CLS_ME_STARTS (C : Nat) : Nat := clsBase C + 0x900
def R.CLS_ME_HANDSHAKES (C : Nat) : Nat := clsBase C + 0x908
def R.CLS_ME_END (C : Nat) : Nat := clsBase C + 0x910
def R.CLS_ME_FAIL (C : Nat) : Nat := clsBase C + 0x918
def R.CLS_ME_ILLEGAL (C : Nat) : Nat := clsBase C + 0x920
def R.CLS_ME_LIMIT (C : Nat) : Nat := clsBase C + 0x928
def R.CLS_ME_ABORT (C : Nat) : Nat := clsBase C + 0x930
def R.CLS_ACL_SET (C x : Nat) : Nat := clsBase C + 0xA00 + x * 0x4
def R.CLS_ACL_GROUP (C x : Nat) : Nat := clsBase C + 0xB00 + x * 0x4
def R.CLS_ACL_KEY (C x y : Nat) : Nat := clsBase C + 0xC00 + x * 0x40 + y * 0x4
def R.CLS_PMC_CTRL (C : Nat) : Nat := clsBase C + 0x8000
def R.CLS_PMC_REF (C : Nat) : Nat := clsBase C + 0x8008
def R.CLS_PMC_SEL (C x : Nat) : Nat := clsBase C + 0x8010 + x * 0x4
def R.CLS_PMC_CNT (C x : Nat) : Nat := clsBase C + 0x8040 + x * 0x8
/-! Registers of block PRT. -/
def R.PRT_PAUSE_WDOG (p : Nat) : Nat := prtBase p + 0x100
def R.PRT_PAUSE_WDOG_STATUS (p : Nat) : Nat := prtBase p + 0x104
def R.PRT_PAUSE_WDOG_BREAKS (p : Nat) : Nat := prtBase p + 0x108
def R.PRT_CT_CFG (p : Nat) : Nat := prtBase p + 0x120
def R.PRT_CT_STATUS (p : Nat) : Nat := prtBase p + 0x124
def R.PRT_CT_STEPS (p : Nat) : Nat := prtBase p + 0x128
def R.PRT_LOOKUP_CFG (p : Nat) : Nat := prtBase p + 0x200
def R.PRT_LEARN_CFG (p : Nat) : Nat := prtBase p + 0x210
def R.PRT_STALL_TEMPO (p : Nat) : Nat := prtBase p + 0x300
def R.PRT_STALL_CONTEXT (p : Nat) : Nat := prtBase p + 0x308
def R.PRT_STALL_BANK (p : Nat) : Nat := prtBase p + 0x310
def R.PRT_HOSTLIM (p x : Nat) : Nat := prtBase p + 0x400 + x * 0x4
def R.PRT_HOSTLIM_DROP (p x : Nat) : Nat := prtBase p + 0x500 + x * 0x8
def R.PRT_HOSTLIM_PASS (p x : Nat) : Nat := prtBase p + 0x580 + x * 0x8
def R.PRT_HOST_ORIG_DROP (p : Nat) : Nat := prtBase p + 0x600
def R.PRT_GATE_CFG (p : Nat) : Nat := prtBase p + 0x800
def R.PRT_GATE_ADMIN_CYCLE (p : Nat) : Nat := prtBase p + 0x804
def R.PRT_GATE_ADMIN_COUNT (p : Nat) : Nat := prtBase p + 0x808
def R.PRT_GATE_ADMIN_BASE_NS (p : Nat) : Nat := prtBase p + 0x80C
def R.PRT_GATE_ADMIN_BASE_S_LO (p : Nat) : Nat := prtBase p + 0x810
def R.PRT_GATE_ADMIN_BASE_S_HI (p : Nat) : Nat := prtBase p + 0x814
def R.PRT_GATE_CTRL (p : Nat) : Nat := prtBase p + 0x818
def R.PRT_GATE_STATUS (p : Nat) : Nat := prtBase p + 0x81C
def R.PRT_GCL_ADDR (p : Nat) : Nat := prtBase p + 0x820
def R.PRT_GCL_DATA0 (p : Nat) : Nat := prtBase p + 0x824
def R.PRT_GCL_DATA1 (p : Nat) : Nat := prtBase p + 0x828
def R.PRT_GATE_OPER_CYCLE (p : Nat) : Nat := prtBase p + 0x830
def R.PRT_GATE_OPER_COUNT (p : Nat) : Nat := prtBase p + 0x834
def R.PRT_GATE_OPER_BASE_NS (p : Nat) : Nat := prtBase p + 0x838
def R.PRT_GATE_OPER_BASE_S_LO (p : Nat) : Nat := prtBase p + 0x83C
def R.PRT_GATE_OPER_BASE_S_HI (p : Nat) : Nat := prtBase p + 0x840
def R.PRT_GATE_SDU (p x : Nat) : Nat := prtBase p + 0x850 + x * 0x4
def R.PRT_GATE_SDU_DROP (p : Nat) : Nat := prtBase p + 0x880
def R.PRT_PTP_CFG (p : Nat) : Nat := prtBase p + 0x900
def R.PRT_PTP_LINK_DELAY (p : Nat) : Nat := prtBase p + 0x904
def R.PRT_PTP_CORRECTED (p : Nat) : Nat := prtBase p + 0x910
def R.PRT_PTP_SKIPPED (p : Nat) : Nat := prtBase p + 0x918
def R.PRT_PTP_INSERTED (p : Nat) : Nat := prtBase p + 0x920
def R.PRT_PMC_CTRL (p : Nat) : Nat := prtBase p + 0xF00
def R.PRT_PMC_REF (p : Nat) : Nat := prtBase p + 0xF08
def R.PRT_PMC_SEL (p x : Nat) : Nat := prtBase p + 0xF10 + x * 0x4
def R.PRT_PMC_CNT (p x : Nat) : Nat := prtBase p + 0xF40 + x * 0x8
/-! Registers of the layout of instance i. -/
def R.LAY_RXDB (i x : Nat) : Nat := layBase i + 0x0 + x * 0x10
def R.LAY_RXHW (i x : Nat) : Nat := layBase i + 0x4 + x * 0x10
def R.LAY_RXINT (i x : Nat) : Nat := layBase i + 0x8 + x * 0x10
def R.LAY_TXDB (i x : Nat) : Nat := layBase i + 0x20000 + x * 0x10
def R.LAY_TXHW (i x : Nat) : Nat := layBase i + 0x20004 + x * 0x10
def R.LAY_TXINT (i x : Nat) : Nat := layBase i + 0x20008 + x * 0x10
def R.LAY_POOL_TAIL (i x : Nat) : Nat := layBase i + 0x7F000 + x * 0x10
def R.LAY_POOL_HEAD (i x : Nat) : Nat := layBase i + 0x7F004 + x * 0x10
def R.LAY_INS_CMD (i : Nat) : Nat := layBase i + 0x80000
def R.LAY_INS_CMD_INDEX (i : Nat) : Nat := layBase i + 0x80004
def R.LAY_INS_CMD_STATUS (i : Nat) : Nat := layBase i + 0x80008
def R.LAY_INS_CMD_RESULT (i : Nat) : Nat := layBase i + 0x8000C
def R.LAY_INS_CMD_DATA (i x : Nat) : Nat := layBase i + 0x80040 + x * 0x4
def R.LAY_INS_FENCE_STATUS (i x : Nat) : Nat := layBase i + 0x80080 + x * 0x4
def R.LAY_RX_FRAMES (i : Nat) : Nat := layBase i + 0x90000
def R.LAY_RX_BYTES (i : Nat) : Nat := layBase i + 0x90008
def R.LAY_RX_POOL_DROP (i : Nat) : Nat := layBase i + 0x90010
def R.LAY_RX_RING_DROP (i : Nat) : Nat := layBase i + 0x90018
def R.LAY_RX_DISCARD (i : Nat) : Nat := layBase i + 0x90020
def R.LAY_RX_RESET_DROP (i : Nat) : Nat := layBase i + 0x90028
def R.LAY_TX_FRAMES (i : Nat) : Nat := layBase i + 0x90030
def R.LAY_TX_BYTES (i : Nat) : Nat := layBase i + 0x90038
def R.LAY_TX_DENIED (i : Nat) : Nat := layBase i + 0x90040
def R.LAY_TX_HELD (i : Nat) : Nat := layBase i + 0x90048
def R.LAY_TX_INJECT_TIMEOUT (i : Nat) : Nat := layBase i + 0x90050
def R.LAY_TX_DMA_ERR (i : Nat) : Nat := layBase i + 0x90058
def R.LAY_POOL_EMPTY (i x : Nat) : Nat := layBase i + 0x90060 + x * 0x8
def R.LAY_SQUASH_DROP (i : Nat) : Nat := layBase i + 0x90080
def R.LAY_DIRTY_OUT_RANGE (i : Nat) : Nat := layBase i + 0x90088
def R.LAY_INS_STATUS (i : Nat) : Nat := layBase i + 0xA0000
def R.LAY_RESOURCES (i : Nat) : Nat := layBase i + 0xA0004
def R.LAY_CMD_VEC (i : Nat) : Nat := layBase i + 0xA0008
def R.LAY_MBOX_VEC (i : Nat) : Nat := layBase i + 0xA000C
def R.LAY_WIN_VIEW (i x : Nat) : Nat := layBase i + 0xA0010 + x * 0x4
def R.LAY_MBOX_FROM_PF (i x : Nat) : Nat := layBase i + 0xA0040 + x * 0x4
def R.LAY_MBOX_TO_PF (i x : Nat) : Nat := layBase i + 0xA0080 + x * 0x4
def R.LAY_MBOX_CTRL (i : Nat) : Nat := layBase i + 0xA00C0

end Sys2Proof.Machine
end

