-- ==== Sys2Proof/Machine/RegMap.lean ====
section
/-!
DEFINITION. Machine/RegMap.lean: the field maps of every register (the tables Bits | Field | Access | Reset of
spec/02 to spec/18, and the register lists with Offset | Access | Reset), the decoding of an address into block,
instance and offset (R518), and the reset value of every register.
-/
namespace Sys2Proof.Machine

/-- The access codes of Table 0-3. -/
inductive Acc where
  | ro | rw | w1c | rc | wo | rwl
deriving DecidableEq, Repr

/-- One field: bits hi to lo, its access code and its reset value. -/
structure Fld where
  hi : Nat
  lo : Nat
  acc : Acc
  rst : Nat
deriving DecidableEq, Repr

/-- One register definition: offset in its block, up to two array dimensions (count, stride), whether it is a 64-bit
register (two words, low first, R14), and the fields of a 32-bit register. -/
structure RegDesc where
  off : Nat
  n1 : Nat
  s1 : Nat
  n2 : Nat
  s2 : Nat
  wide : Bool
  flds : List Fld
deriving DecidableEq, Repr

/-- The block types of Table 18-10, and the per-instance layout. -/
inductive Blk where
  | pkg | boot | tim | flt | chn | pair | obs | hif | ins | xbar | lane | mac | die | hbm | xep | tbl | rgn | cls | prt
  | lay
deriving DecidableEq, Repr

/-- A register that stands alone, a run of them, and a run of runs. -/
def reg1 (off : Nat) (flds : List Fld) : RegDesc := ⟨off, 1, 4, 1, 4, false, flds⟩
def regN (off n s : Nat) (flds : List Fld) : RegDesc := ⟨off, n, s, 1, 4, false, flds⟩
def regNM (off n s m t : Nat) (flds : List Fld) : RegDesc := ⟨off, n, s, m, t, false, flds⟩
/-- 64-bit registers; every one resets to 0 and is RO. -/
def ctr1 (off : Nat) : RegDesc := ⟨off, 1, 8, 1, 8, true, []⟩
def ctrN (off n s : Nat) : RegDesc := ⟨off, n, s, 1, 8, true, []⟩
def ctrNM (off n s m t : Nat) : RegDesc := ⟨off, n, s, m, t, true, []⟩

/-- Registers of PKG. -/
def pkgRegs : List RegDesc := [
  reg1 0x0 [⟨31, 16, .ro, 2652⟩, ⟨15, 0, .ro, 8264⟩],  -- ID
  reg1 0x4 [⟨15, 8, .ro, 3⟩, ⟨7, 0, .ro, 176⟩],  -- REV
  reg1 0x40 [⟨6, 6, .ro, 0⟩, ⟨5, 5, .ro, 0⟩, ⟨4, 3, .ro, 0⟩, ⟨2, 2, .ro, 0⟩, ⟨1, 0, .ro, 0⟩],  -- STRAPS
  reg1 0x200 [⟨17, 8, .rw, 20⟩, ⟨1, 0, .rw, 2⟩],  -- LEVEL_CTRL
  reg1 0x204 [⟨9, 8, .ro, 2⟩, ⟨5, 5, .w1c, 0⟩, ⟨4, 4, .ro, 0⟩, ⟨3, 0, .ro, 15⟩],  -- LEVEL_STATUS
  reg1 0x300 [⟨31, 24, .wo, 0⟩, ⟨8, 8, .wo, 0⟩, ⟨7, 4, .wo, 0⟩, ⟨3, 0, .wo, 0⟩]  -- RESET_CTRL
  ]

/-- Registers of BOOT. -/
def bootRegs : List RegDesc := [
  reg1 0x0 [⟨31, 31, .ro, 0⟩, ⟨30, 30, .ro, 0⟩, ⟨29, 29, .ro, 0⟩, ⟨28, 27, .ro, 0⟩, ⟨26, 26, .ro, 0⟩, ⟨23, 20, .ro, 0⟩, ⟨15, 8, .ro, 0⟩],  -- STATUS
  reg1 0x4 [⟨31, 16, .ro, 0⟩, ⟨15, 0, .ro, 0⟩],  -- SECT_COUNT
  reg1 0x8 [⟨31, 24, .ro, 0⟩, ⟨23, 22, .ro, 0⟩, ⟨15, 0, .ro, 0⟩],  -- FAIL_INFO
  reg1 0xC [⟨31, 0, .ro, 0⟩],  -- TIME_MS
  regN 0x10 4 0x4 [⟨31, 0, .ro, 0⟩],  -- IMAGE_ID
  reg1 0x20 [⟨5, 0, .ro, 0⟩],  -- IMAGE_SVN
  regN 0x40 12 0x4 [⟨31, 0, .ro, 0⟩],  -- IMAGE_DIGEST
  regN 0x80 12 0x4 [⟨31, 0, .rw, 0⟩],  -- FUSE_STAGE
  reg1 0xB0 [⟨31, 24, .wo, 0⟩, ⟨23, 23, .ro, 0⟩, ⟨22, 22, .w1c, 0⟩, ⟨9, 8, .wo, 0⟩, ⟨1, 0, .wo, 0⟩],  -- FUSE_CTRL
  reg1 0xB4 [⟨16, 16, .ro, 0⟩, ⟨13, 12, .ro, 0⟩, ⟨11, 8, .ro, 0⟩, ⟨3, 0, .ro, 0⟩],  -- KEY_STATUS
  reg1 0xB8 [⟨5, 0, .ro, 0⟩],  -- FUSE_SVN
  reg1 0x100 [⟨31, 0, .rw, 0⟩],  -- HOST_ADDR_LO
  reg1 0x104 [⟨31, 0, .rw, 0⟩],  -- HOST_ADDR_HI
  reg1 0x108 [⟨20, 0, .rw, 0⟩],  -- HOST_LEN
  reg1 0x10C [⟨31, 31, .wo, 0⟩]  -- HOST_CTRL
  ]

/-- Registers of TIM. -/
def timRegs : List RegDesc := [
  regN 0x0 2 0x100 [⟨31, 31, .wo, 0⟩, ⟨30, 30, .wo, 0⟩],  -- BASE_CTRL
  regN 0x4 2 0x100 [⟨31, 30, .ro, 0⟩, ⟨2, 2, .w1c, 0⟩, ⟨1, 1, .w1c, 0⟩, ⟨0, 0, .w1c, 0⟩],  -- BASE_STATUS
  regN 0x8 2 0x100 [⟨0, 0, .rw, 0⟩],  -- STEP_MODE
  regN 0xC 2 0x100 [⟨29, 0, .rw, 0⟩],  -- STEP_NS
  regN 0x10 2 0x100 [⟨31, 0, .rw, 0⟩],  -- STEP_S_LO
  regN 0x14 2 0x100 [⟨15, 0, .rw, 0⟩],  -- STEP_S_HI
  regN 0x18 2 0x100 [⟨31, 0, .rw, 0⟩],  -- RATE_LO
  regN 0x1C 2 0x100 [⟨7, 0, .rw, 0⟩],  -- RATE_HI
  regN 0x20 2 0x100 [⟨29, 0, .ro, 0⟩],  -- TIME_NS
  regN 0x24 2 0x100 [⟨31, 0, .ro, 0⟩],  -- TIME_S_LO
  regN 0x28 2 0x100 [⟨15, 0, .ro, 0⟩],  -- TIME_S_HI
  reg1 0x200 [⟨31, 31, .wo, 0⟩],  -- ACTIVE
  reg1 0x204 [⟨9, 9, .w1c, 0⟩, ⟨8, 8, .ro, 0⟩, ⟨4, 4, .ro, 0⟩, ⟨0, 0, .ro, 0⟩],  -- ACTIVE_STATUS
  reg1 0x210 [⟨0, 0, .wo, 0⟩],  -- CAPTURE
  regN 0x220 2 0x10 [⟨31, 0, .ro, 0⟩],  -- CAP_NS
  regN 0x224 2 0x10 [⟨31, 0, .ro, 0⟩],  -- CAP_S_LO
  regN 0x228 2 0x10 [⟨15, 0, .ro, 0⟩],  -- CAP_S_HI
  reg1 0x240 [⟨31, 0, .ro, 0⟩],  -- CAP_REF_LO
  reg1 0x244 [⟨31, 0, .ro, 0⟩],  -- CAP_REF_HI
  reg1 0x250 [⟨1, 1, .w1c, 0⟩, ⟨0, 0, .ro, 0⟩]  -- REF_STATUS
  ]

/-- Registers of FLT. -/
def fltRegs0 : List RegDesc := [
  reg1 0x0 [⟨31, 31, .w1c, 0⟩, ⟨30, 30, .ro, 0⟩, ⟨29, 29, .ro, 0⟩, ⟨28, 28, .w1c, 0⟩, ⟨27, 27, .w1c, 0⟩, ⟨26, 26, .w1c, 0⟩, ⟨10, 0, .ro, 0⟩],  -- STATUS
  reg1 0x4 [⟨31, 30, .rw, 2⟩, ⟨29, 28, .rw, 1⟩],  -- CFG
  reg1 0x8 [⟨31, 30, .rw, 0⟩, ⟨27, 24, .rw, 15⟩, ⟨19, 0, .rw, 1000⟩],  -- ESC_CFG
  reg1 0xC [⟨15, 0, .wo, 0⟩],  -- ESC_ACK
  reg1 0x10 [⟨31, 31, .ro, 1⟩, ⟨30, 30, .ro, 0⟩, ⟨29, 29, .ro, 0⟩, ⟨28, 28, .ro, 0⟩, ⟨27, 27, .ro, 0⟩, ⟨26, 26, .ro, 0⟩, ⟨25, 25, .ro, 0⟩, ⟨19, 16, .ro, 0⟩, ⟨15, 0, .ro, 0⟩],  -- RESET_CAUSE
  reg1 0x14 [⟨31, 16, .ro, 0⟩, ⟨15, 0, .ro, 0⟩],  -- ESC_COUNT
  reg1 0x20 [⟨31, 0, .ro, 0⟩],  -- HEAD_MSG_LO
  reg1 0x24 [⟨31, 0, .ro, 0⟩],  -- HEAD_MSG_HI
  reg1 0x28 [⟨31, 0, .ro, 0⟩],  -- HEAD_SEQ
  reg1 0x2C [⟨31, 0, .ro, 0⟩],  -- HEAD_TS_NS
  reg1 0x30 [⟨31, 0, .ro, 0⟩],  -- HEAD_TS_S_LO
  reg1 0x34 [⟨15, 0, .ro, 0⟩],  -- HEAD_TS_S_HI
  reg1 0x38 [⟨0, 0, .wo, 0⟩],  -- POP
  reg1 0x40 [⟨31, 0, .rw, 0⟩],  -- INJECT_LO
  reg1 0x44 [⟨31, 0, .rw, 0⟩],  -- INJECT_HI
  reg1 0x50 [⟨31, 31, .rw, 0⟩, ⟨30, 30, .wo, 0⟩, ⟨29, 29, .rw, 0⟩, ⟨28, 28, .ro, 0⟩, ⟨9, 0, .rw, 10⟩],  -- FAULT_N_CTRL
  reg1 0x60 [⟨31, 0, .ro, 0⟩],  -- FIRST_MSG_LO
  reg1 0x64 [⟨31, 0, .ro, 0⟩],  -- FIRST_MSG_HI
  reg1 0x68 [⟨31, 0, .ro, 0⟩],  -- FIRST_SEQ
  reg1 0x6C [⟨24, 16, .ro, 0⟩, ⟨2, 0, .ro, 0⟩],  -- FIRST_REQ
  reg1 0x70 [⟨31, 0, .ro, 0⟩],  -- FIRST_TS_NS
  reg1 0x74 [⟨31, 0, .ro, 0⟩],  -- FIRST_TS_S_LO
  reg1 0x78 [⟨15, 0, .ro, 0⟩],  -- FIRST_TS_S_HI
  reg1 0x7C [⟨0, 0, .wo, 0⟩],  -- FIRST_CLR
  reg1 0x80 [⟨31, 0, .ro, 0⟩]  -- FIRST_REF_LO
  ]

/-- Registers of FLT. -/
def fltRegs1 : List RegDesc := [
  reg1 0x84 [⟨31, 0, .ro, 0⟩],  -- FIRST_REF_HI
  ctrN 0x100 4 0x8,  -- COUNT
  ctr1 0x120,  -- LOST
  regNM 0x1000 14 0x40 16 0x4 [⟨31, 30, .rw, 0⟩, ⟨29, 28, .rw, 0⟩, ⟨27, 26, .rw, 0⟩, ⟨25, 24, .rw, 0⟩, ⟨23, 22, .rw, 0⟩, ⟨21, 20, .rw, 0⟩, ⟨19, 18, .rw, 0⟩, ⟨17, 16, .rw, 0⟩, ⟨15, 14, .rw, 0⟩, ⟨13, 12, .rw, 0⟩, ⟨11, 10, .rw, 0⟩, ⟨9, 8, .rw, 0⟩, ⟨7, 6, .rw, 0⟩, ⟨5, 4, .rw, 0⟩, ⟨3, 2, .rw, 0⟩, ⟨1, 0, .rw, 0⟩]  -- SEV
  ]

def fltRegs : List RegDesc := fltRegs0 ++ fltRegs1

/-- Registers of CHN. -/
def chnRegs : List RegDesc := [
  reg1 0x0 [⟨31, 31, .ro, 0⟩, ⟨30, 30, .ro, 0⟩, ⟨14, 0, .ro, 0⟩],  -- ADDR
  reg1 0x4 [⟨31, 31, .ro, 0⟩, ⟨30, 30, .ro, 0⟩, ⟨29, 29, .ro, 0⟩, ⟨28, 28, .w1c, 0⟩, ⟨27, 27, .w1c, 0⟩],  -- STATUS
  reg1 0x8 [⟨3, 0, .ro, 0⟩],  -- RING_HOLD
  reg1 0xC [⟨3, 3, .rwl, 1⟩, ⟨2, 2, .rwl, 1⟩, ⟨1, 1, .rwl, 1⟩, ⟨0, 0, .rwl, 1⟩],  -- CMD_EN
  reg1 0x10 [⟨7, 0, .rw, 0⟩],  -- TALLY_GROUP
  reg1 0x14 [⟨31, 0, .ro, 0⟩],  -- SNAP_ID
  reg1 0x18 [⟨31, 24, .ro, 0⟩, ⟨23, 23, .ro, 0⟩, ⟨22, 22, .ro, 0⟩, ⟨19, 0, .ro, 0⟩],  -- SWEEP_STATUS
  ctrN 0x100 20 0x8,  -- TALLY
  ctr1 0x1A0,  -- TALLY_LEARNED
  reg1 0x200 [⟨31, 31, .wo, 0⟩, ⟨30, 30, .wo, 0⟩],  -- HEAD_CTRL
  reg1 0x204 [⟨31, 31, .ro, 0⟩, ⟨30, 30, .ro, 0⟩, ⟨15, 0, .ro, 0⟩],  -- HEAD_STATUS
  reg1 0x208 [⟨31, 0, .rw, 0⟩],  -- TX_HDR0
  reg1 0x20C [⟨6, 0, .rw, 0⟩],  -- TX_HDR1
  regN 0x240 16 0x4 [⟨31, 0, .rw, 0⟩],  -- TX_DATA
  reg1 0x280 [⟨31, 0, .ro, 0⟩],  -- RX_HDR0
  reg1 0x284 [⟨31, 31, .ro, 0⟩, ⟨30, 30, .ro, 0⟩, ⟨6, 0, .ro, 0⟩],  -- RX_HDR1
  reg1 0x288 [⟨0, 0, .wo, 0⟩],  -- RX_POP
  regN 0x2C0 16 0x4 [⟨31, 0, .ro, 0⟩],  -- RX_DATA
  ctr1 0x300,  -- CRC_ERR
  ctr1 0x308,  -- BAD_FRAMES
  ctr1 0x310,  -- SNAP_REFUSED
  ctr1 0x318  -- RX_OVERFLOW
  ]

/-- Registers of PAIR. -/
def pairRegs : List RegDesc := [
  reg1 0x0 [⟨31, 30, .rwl, 0⟩, ⟨29, 28, .rw, 0⟩, ⟨15, 0, .rw, 64⟩],  -- CFG
  reg1 0x4 [⟨31, 16, .rw, 30⟩, ⟨15, 0, .rw, 1000⟩],  -- TIMING
  reg1 0x8 [⟨31, 31, .wo, 0⟩, ⟨30, 30, .wo, 0⟩, ⟨29, 29, .wo, 0⟩, ⟨28, 28, .wo, 0⟩],  -- CTRL
  reg1 0xC [⟨31, 30, .ro, 0⟩, ⟨29, 29, .ro, 0⟩, ⟨28, 28, .ro, 0⟩, ⟨27, 27, .ro, 0⟩, ⟨26, 26, .ro, 0⟩, ⟨25, 25, .ro, 0⟩, ⟨24, 24, .ro, 0⟩, ⟨23, 23, .w1c, 0⟩, ⟨22, 22, .w1c, 0⟩, ⟨15, 0, .ro, 0⟩],  -- STATUS
  reg1 0x10 [⟨31, 0, .ro, 0⟩],  -- EPOCH
  ctr1 0x18,  -- NEXT_SEQ
  ctr1 0x20,  -- APPLIED_SEQ
  reg1 0x30 [⟨17, 0, .rw, 0⟩],  -- REMOTE_NH_BASE
  reg1 0x40 [⟨31, 0, .rw, 0⟩],  -- CKPT_ADDR_LO
  reg1 0x44 [⟨31, 0, .rw, 0⟩],  -- CKPT_ADDR_HI
  reg1 0x48 [⟨31, 31, .ro, 0⟩, ⟨30, 30, .ro, 0⟩, ⟨15, 0, .ro, 0⟩],  -- CKPT_STATUS
  ctrN 0x100 20 0x8,  -- PEER_TALLY
  reg1 0x1A0 [⟨19, 0, .ro, 0⟩],  -- TALLY_EQ
  regN 0x200 9 0x4 [⟨31, 0, .ro, 0⟩],  -- PEER_TIME
  ctr1 0x300,  -- MSG_ERR
  ctr1 0x308,  -- CMD_MIRRORED
  ctr1 0x310,  -- GLEAN_RX
  ctr1 0x318  -- FRAG_DROP
  ]

/-- Registers of OBS. -/
def obsRegs0 : List RegDesc := [
  reg1 0x0 [⟨31, 31, .wo, 0⟩, ⟨30, 30, .wo, 0⟩, ⟨29, 29, .wo, 0⟩],  -- SNAP_CTRL
  reg1 0x4 [⟨31, 31, .rw, 0⟩, ⟨29, 0, .rw, 0⟩],  -- SNAP_AT_NS
  reg1 0x8 [⟨31, 0, .rw, 0⟩],  -- SNAP_AT_S_LO
  reg1 0xC [⟨15, 0, .rw, 0⟩],  -- SNAP_AT_S_HI
  reg1 0x10 [⟨31, 0, .rw, 0⟩],  -- SNAP_TAG
  reg1 0x14 [⟨31, 31, .ro, 0⟩, ⟨29, 29, .w1c, 0⟩, ⟨15, 0, .ro, 0⟩],  -- SNAP_STATUS
  reg1 0x18 [⟨31, 0, .ro, 0⟩],  -- SNAP_TIME_NS
  reg1 0x1C [⟨31, 0, .ro, 0⟩],  -- SNAP_TIME_S_LO
  reg1 0x20 [⟨15, 0, .ro, 0⟩],  -- SNAP_TIME_S_HI
  reg1 0x24 [⟨31, 0, .ro, 0⟩],  -- SNAP_REF_LO
  reg1 0x28 [⟨31, 0, .ro, 0⟩],  -- SNAP_REF_HI
  reg1 0x40 [⟨27, 2, .rw, 0⟩],  -- SNAP_ADDR
  reg1 0x44 [⟨31, 0, .ro, 0⟩],  -- SNAP_DATA_LO
  reg1 0x48 [⟨31, 0, .ro, 0⟩],  -- SNAP_DATA_HI
  regN 0x100 8 0x4 [⟨31, 0, .rwl, 0⟩],  -- TRC_FILTER
  ctrN 0x140 4 0x20,  -- TRC_HEAD
  regN 0x148 4 0x20 [⟨31, 0, .ro, 0⟩],  -- TRC_SEQ
  regN 0x14C 4 0x20 [⟨31, 31, .ro, 0⟩, ⟨30, 30, .ro, 0⟩, ⟨15, 0, .ro, 0⟩],  -- TRC_STATUS
  ctrN 0x150 4 0x20,  -- TRC_DROP
  reg1 0x1C0 [⟨31, 31, .wo, 0⟩, ⟨30, 30, .wo, 0⟩],  -- TRC_CTRL
  reg1 0x1C4 [⟨31, 30, .rw, 0⟩, ⟨25, 0, .rw, 0⟩],  -- TRC_RD_ADDR
  reg1 0x1C8 [⟨31, 31, .ro, 0⟩, ⟨30, 30, .ro, 0⟩],  -- TRC_RD_STATUS
  regN 0x1D0 8 0x4 [⟨31, 0, .ro, 0⟩],  -- TRC_RD_DATA
  reg1 0x200 [⟨0, 0, .rwl, 0⟩],  -- PORT_CFG
  reg1 0x300 [⟨1, 1, .rw, 0⟩, ⟨0, 0, .wo, 0⟩]  -- PMC_GLOBAL
  ]

/-- Registers of OBS. -/
def obsRegs1 : List RegDesc := [
  reg1 0x1000 [⟨1, 1, .rw, 0⟩, ⟨0, 0, .wo, 0⟩],  -- PMC_CTRL
  ctr1 0x1008,  -- PMC_REF
  regN 0x1010 8 0x4 [⟨31, 31, .rw, 0⟩, ⟨27, 16, .rw, 0⟩, ⟨7, 0, .rw, 0⟩],  -- PMC_SEL
  ctrN 0x1040 8 0x8  -- PMC_CNT
  ]

def obsRegs : List RegDesc := obsRegs0 ++ obsRegs1

/-- Registers of HIF. -/
def hifRegs0 : List RegDesc := [
  reg1 0x0 [⟨31, 31, .ro, 0⟩, ⟨20, 16, .ro, 0⟩, ⟨3, 0, .ro, 0⟩],  -- LINK_STATUS
  reg1 0x4 [⟨6, 0, .rwl, 7⟩],  -- VF_VECTORS
  reg1 0x100 [⟨9, 0, .ro, 0⟩],  -- INT0_CAUSE
  reg1 0x104 [⟨9, 0, .rw, 0⟩],  -- INT0_MASK
  reg1 0x108 [⟨9, 0, .wo, 0⟩],  -- INT0_ACK
  regN 0x140 10 0x4 [⟨6, 0, .rw, 0⟩],  -- INT0_VEC
  regN 0x180 8 0x4 [⟨31, 0, .ro, 0⟩],  -- SUM_LINK
  regN 0x1A0 8 0x4 [⟨31, 0, .ro, 0⟩],  -- SUM_GATE
  regN 0x1C0 8 0x4 [⟨31, 0, .ro, 0⟩],  -- SUM_INSRESET
  regN 0x1E0 8 0x4 [⟨31, 0, .ro, 0⟩],  -- SUM_MBOX
  reg1 0x200 [⟨15, 0, .rw, 50⟩],  -- POOL_WAIT
  reg1 0x204 [⟨15, 0, .rw, 1000⟩],  -- TX_INJECT_LIMIT
  reg1 0x208 [⟨15, 0, .ro, 32768⟩],  -- STG_FREE
  regNM 0x1000 4 0x400 256 0x4 [⟨31, 31, .rw, 0⟩, ⟨18, 16, .rw, 0⟩, ⟨12, 0, .rw, 0⟩],  -- RX_MAP
  regN 0x2000 4 0x20 [⟨31, 0, .rw, 0⟩],  -- GLN_BASE_LO
  regN 0x2004 4 0x20 [⟨31, 0, .rw, 0⟩],  -- GLN_BASE_HI
  regN 0x2008 4 0x20 [⟨31, 31, .rw, 0⟩, ⟨27, 24, .rw, 0⟩],  -- GLN_CFG
  regN 0x200C 4 0x20 [⟨31, 0, .ro, 0⟩],  -- GLN_TAIL
  regN 0x2010 4 0x20 [⟨31, 0, .rw, 0⟩],  -- GLN_HEAD
  ctr1 0x4000,  -- RX_UNMAPPED
  ctr1 0x4008,  -- STG_FULL_DROP
  ctr1 0x4010,  -- RING_DISABLED_DROP
  ctr1 0x4018,  -- DMA_ERR
  reg1 0x6000 [⟨1, 1, .rw, 0⟩, ⟨0, 0, .wo, 0⟩],  -- PMC_CTRL
  ctr1 0x6008  -- PMC_REF
  ]

/-- Registers of HIF. -/
def hifRegs1 : List RegDesc := [
  regN 0x6010 8 0x4 [⟨31, 31, .rw, 0⟩, ⟨27, 16, .rw, 0⟩, ⟨7, 0, .rw, 0⟩],  -- PMC_SEL
  ctrN 0x6040 8 0x8,  -- PMC_CNT
  regN 0x20000 8192 0x10 [⟨31, 0, .rw, 0⟩],  -- RXR_BASE_LO
  regN 0x20004 8192 0x10 [⟨31, 0, .rw, 0⟩],  -- RXR_BASE_HI
  regN 0x20008 8192 0x10 [⟨31, 31, .rw, 0⟩, ⟨27, 24, .rw, 0⟩],  -- RXR_CFG
  regN 0x2000C 8192 0x10 [⟨31, 31, .ro, 1⟩, ⟨30, 30, .ro, 0⟩, ⟨23, 16, .ro, 0⟩, ⟨15, 0, .ro, 0⟩],  -- RXR_STATUS
  regN 0x40000 8192 0x10 [⟨31, 0, .rw, 0⟩],  -- TXR_BASE_LO
  regN 0x40004 8192 0x10 [⟨31, 0, .rw, 0⟩],  -- TXR_BASE_HI
  regN 0x40008 8192 0x10 [⟨31, 31, .rw, 0⟩, ⟨27, 24, .rw, 0⟩],  -- TXR_CFG
  regN 0x4000C 8192 0x10 [⟨31, 31, .ro, 1⟩, ⟨30, 30, .ro, 0⟩, ⟨23, 16, .ro, 0⟩, ⟨15, 0, .ro, 0⟩]  -- TXR_STATUS
  ]

def hifRegs : List RegDesc := hifRegs0 ++ hifRegs1

/-- Registers of INS. -/
def insRegs0 : List RegDesc := [
  reg1 0x0 [⟨31, 31, .rw, 0⟩, ⟨30, 30, .wo, 0⟩],  -- INS_CTRL
  reg1 0x4 [⟨31, 31, .rw, 0⟩, ⟨15, 0, .rw, 100⟩],  -- INS_RESET_CFG
  reg1 0x8 [⟨31, 31, .ro, 0⟩, ⟨30, 30, .w1c, 0⟩, ⟨29, 29, .ro, 1⟩, ⟨28, 28, .ro, 0⟩, ⟨25, 24, .ro, 0⟩, ⟨23, 16, .ro, 0⟩],  -- INS_STATUS
  reg1 0x10 [⟨29, 16, .rw, 0⟩, ⟨12, 0, .rw, 0⟩],  -- RX_RANGE
  reg1 0x14 [⟨29, 16, .rw, 0⟩, ⟨12, 0, .rw, 0⟩],  -- TX_RANGE
  regN 0x20 8 0x4 [⟨31, 0, .rw, 0⟩],  -- PORT_MASK
  reg1 0x40 [⟨15, 8, .rw, 0⟩, ⟨7, 0, .rw, 0⟩],  -- CQ_RANGE
  reg1 0x44 [⟨15, 8, .rw, 0⟩, ⟨7, 0, .rw, 0⟩],  -- CODE_RANGE
  reg1 0x48 [⟨31, 0, .rw, 0⟩],  -- TMPL_MASK_LO
  reg1 0x4C [⟨31, 0, .rw, 0⟩],  -- TMPL_MASK_HI
  reg1 0x50 [⟨3, 0, .rw, 0⟩],  -- DIE_MASK
  reg1 0x54 [⟨4, 0, .rw, 4⟩],  -- ENG_MAX
  regN 0x80 8 0x10 [⟨31, 31, .rw, 0⟩, ⟨23, 16, .rw, 0⟩, ⟨15, 8, .rw, 0⟩],  -- WIN_CFG
  regN 0x84 8 0x10 [⟨19, 0, .rw, 0⟩],  -- WIN_BASE
  regN 0x88 8 0x10 [⟨20, 0, .rw, 0⟩],  -- WIN_SIZE
  regN 0x200 4 0x10 [⟨31, 0, .rw, 0⟩],  -- POOL_BASE_LO
  regN 0x204 4 0x10 [⟨31, 0, .rw, 0⟩],  -- POOL_BASE_HI
  regN 0x208 4 0x10 [⟨31, 31, .rw, 0⟩, ⟨27, 24, .rw, 0⟩],  -- POOL_CFG
  regN 0x20C 4 0x10 [⟨22, 16, .ro, 0⟩, ⟨15, 0, .ro, 0⟩],  -- POOL_STATUS
  regN 0x300 16 0x4 [⟨31, 0, .rw, 0⟩],  -- MBOX_TO_VF
  regN 0x340 16 0x4 [⟨31, 0, .ro, 0⟩],  -- MBOX_FROM_VF
  reg1 0x380 [⟨31, 31, .wo, 0⟩, ⟨1, 1, .w1c, 0⟩, ⟨0, 0, .ro, 0⟩],  -- MBOX_CTRL
  reg1 0x400 [⟨31, 31, .rw, 0⟩, ⟨30, 30, .wo, 0⟩, ⟨29, 29, .ro, 0⟩, ⟨28, 28, .ro, 0⟩, ⟨27, 27, .w1c, 0⟩],  -- DIRTY_CFG
  reg1 0x404 [⟨31, 0, .rw, 0⟩],  -- DIRTY_MAP0_LO
  reg1 0x408 [⟨31, 0, .rw, 0⟩]  -- DIRTY_MAP0_HI
  ]

/-- Registers of INS. -/
def insRegs1 : List RegDesc := [
  reg1 0x40C [⟨31, 0, .rw, 0⟩],  -- DIRTY_MAP1_LO
  reg1 0x410 [⟨31, 0, .rw, 0⟩],  -- DIRTY_MAP1_HI
  reg1 0x414 [⟨31, 0, .rw, 0⟩],  -- DIRTY_START_LO
  reg1 0x418 [⟨31, 0, .rw, 0⟩],  -- DIRTY_START_HI
  reg1 0x41C [⟨27, 0, .rw, 0⟩],  -- DIRTY_PAGES
  ctr1 0x800,  -- RX_FRAMES
  ctr1 0x808,  -- RX_BYTES
  ctr1 0x810,  -- RX_POOL_DROP
  ctr1 0x818,  -- RX_RING_DROP
  ctr1 0x820,  -- RX_DISCARD
  ctr1 0x828,  -- RX_RESET_DROP
  ctr1 0x830,  -- TX_FRAMES
  ctr1 0x838,  -- TX_BYTES
  ctr1 0x840,  -- TX_DENIED
  ctr1 0x848,  -- TX_HELD
  ctr1 0x850,  -- TX_INJECT_TIMEOUT
  ctr1 0x858,  -- TX_DMA_ERR
  ctrN 0x860 4 0x8,  -- POOL_EMPTY
  ctr1 0x880,  -- SQUASH_DROP
  ctr1 0x888  -- DIRTY_OUT_RANGE
  ]

def insRegs : List RegDesc := insRegs0 ++ insRegs1

/-- Registers of XBAR. -/
def xbarRegs : List RegDesc := [
  reg1 0x400 [⟨3, 2, .rwl, 0⟩, ⟨1, 0, .rwl, 0⟩],  -- CASC_CFG
  ctrN 0x410 4 0x8  -- CASC_HELD
  ]

/-- Registers of LANE. -/
def laneRegs : List RegDesc := [
  reg1 0x0 [⟨1, 1, .rw, 0⟩, ⟨0, 0, .rw, 0⟩],  -- CFG
  reg1 0x4 [⟨31, 26, .rw, 0⟩, ⟨25, 20, .rw, 0⟩, ⟨19, 14, .rw, 60⟩, ⟨13, 8, .rw, 0⟩, ⟨7, 0, .rw, 124⟩],  -- TXEQ
  reg1 0x10 [⟨31, 31, .ro, 0⟩, ⟨30, 30, .ro, 0⟩, ⟨29, 29, .ro, 0⟩, ⟨15, 0, .ro, 0⟩]  -- STATUS
  ]

/-- Registers of MAC. -/
def macRegs0 : List RegDesc := [
  reg1 0x0 [⟨31, 31, .rw, 0⟩, ⟨30, 29, .rw, 0⟩, ⟨28, 27, .rw, 0⟩, ⟨26, 26, .rw, 1⟩, ⟨25, 25, .rw, 1⟩, ⟨24, 24, .rw, 0⟩, ⟨15, 0, .rw, 16360⟩],  -- PORT_CFG
  reg1 0x4 [⟨3, 2, .rw, 0⟩, ⟨1, 0, .rw, 0⟩],  -- PORT_STATE
  reg1 0x14 [⟨15, 15, .ro, 0⟩, ⟨14, 14, .ro, 0⟩, ⟨13, 13, .ro, 0⟩, ⟨12, 12, .ro, 0⟩, ⟨11, 11, .ro, 0⟩, ⟨10, 10, .ro, 0⟩, ⟨9, 9, .ro, 0⟩, ⟨3, 0, .ro, 0⟩],  -- LINK_STATUS
  reg1 0x18 [⟨2, 2, .w1c, 0⟩, ⟨1, 1, .w1c, 0⟩, ⟨0, 0, .w1c, 0⟩],  -- LINK_EVENTS
  reg1 0x100 [⟨23, 16, .rw, 0⟩, ⟨15, 8, .rw, 0⟩, ⟨3, 2, .rw, 0⟩, ⟨1, 0, .rw, 0⟩],  -- PAUSE_CFG
  reg1 0x104 [⟨31, 16, .rw, 65535⟩, ⟨15, 0, .rw, 32768⟩],  -- PAUSE_TX_CFG
  reg1 0x108 [⟨23, 16, .ro, 0⟩, ⟨15, 8, .ro, 0⟩],  -- PAUSE_STATUS
  reg1 0x110 [⟨31, 0, .rw, 0⟩],  -- CTRL_SA_LO
  reg1 0x114 [⟨15, 0, .rw, 0⟩],  -- CTRL_SA_HI
  reg1 0x200 [⟨31, 31, .rw, 0⟩, ⟨30, 30, .rw, 1⟩, ⟨23, 16, .rw, 10⟩, ⟨15, 8, .rw, 0⟩, ⟨1, 0, .rw, 0⟩],  -- PREEMPT_CFG
  reg1 0x204 [⟨3, 3, .ro, 0⟩, ⟨2, 2, .w1c, 0⟩, ⟨1, 0, .ro, 0⟩],  -- PREEMPT_STATUS
  reg1 0x300 [⟨31, 16, .rw, 0⟩, ⟨15, 0, .rw, 0⟩],  -- TS_CFG
  ctr1 0x400,  -- RX_FRAMES_OK
  ctr1 0x408,  -- RX_BYTES_OK
  ctr1 0x410,  -- RX_FCS_ERR
  ctr1 0x418,  -- RX_RUNT
  ctr1 0x420,  -- RX_OVERSIZE
  ctr1 0x428,  -- RX_CW_BAD_FRAMES
  ctr1 0x430,  -- RX_BAD_AFTER_HEAD
  ctr1 0x438,  -- RX_LINKDOWN_TRUNC
  ctr1 0x440,  -- RX_PAUSE_FRAMES
  ctr1 0x448,  -- RX_PFC_FRAMES
  ctr1 0x450,  -- RX_CTRL_DISCARD
  ctr1 0x458,  -- RX_ASSEMBLY_ERR
  ctr1 0x480  -- TX_FRAMES_OK
  ]

/-- Registers of MAC. -/
def macRegs1 : List RegDesc := [
  ctr1 0x488,  -- TX_BYTES_OK
  ctr1 0x490,  -- TX_STOMP_UNDERRUN
  ctr1 0x498,  -- TX_STOMP_BAD
  ctr1 0x4A0,  -- TX_BAD_DROP
  ctr1 0x4A8,  -- TX_PAUSE_FRAMES
  ctr1 0x4B0,  -- TX_PFC_FRAMES
  ctr1 0x4B8,  -- TX_LINKDOWN_DROP
  ctr1 0x4C0,  -- TX_FRAGMENTS
  ctr1 0x500,  -- FEC_CW_CORRECTED
  ctr1 0x508,  -- FEC_CW_UNCORRECTED
  ctr1 0x510,  -- FEC_SYM_CORRECTED
  ctr1 0x518,  -- LINK_DOWN_EVENTS
  reg1 0x600 [⟨31, 24, .rw, 255⟩, ⟨23, 16, .rw, 64⟩, ⟨15, 8, .rw, 32⟩, ⟨1, 0, .rw, 0⟩],  -- STG_CFG
  ctr1 0x610,  -- STG_DROP_FRAMES
  ctr1 0x618,  -- STG_DROP_BYTES
  ctr1 0x620,  -- STG_XOFF_EVENTS
  reg1 0x700 [⟨31, 31, .wo, 0⟩, ⟨19, 0, .rw, 1000⟩],  -- BW_CFG
  reg1 0x704 [⟨31, 31, .ro, 0⟩, ⟨23, 0, .ro, 0⟩],  -- BW_STATUS
  ctr1 0x708,  -- BW_RX_BYTES
  ctr1 0x710,  -- BW_TX_BYTES
  ctr1 0x718,  -- BW_RX_MAX
  ctr1 0x720,  -- BW_TX_MAX
  reg1 0xF00 [⟨1, 1, .rw, 0⟩, ⟨0, 0, .wo, 0⟩],  -- PMC_CTRL
  ctr1 0xF08,  -- PMC_REF
  regN 0xF10 8 0x4 [⟨31, 31, .rw, 0⟩, ⟨27, 16, .rw, 0⟩, ⟨7, 0, .rw, 0⟩]  -- PMC_SEL
  ]

/-- Registers of MAC. -/
def macRegs2 : List RegDesc := [
  ctrN 0xF40 8 0x8  -- PMC_CNT
  ]

def macRegs : List RegDesc := macRegs0 ++ macRegs1 ++ macRegs2

/-- Registers of DIE. -/
def dieRegs0 : List RegDesc := [
  reg1 0x1000 [⟨31, 31, .wo, 0⟩, ⟨30, 30, .wo, 0⟩],  -- HOLD_CTRL
  reg1 0x1004 [⟨4, 4, .rwl, 0⟩, ⟨2, 2, .rw, 1⟩, ⟨1, 1, .rw, 0⟩, ⟨0, 0, .rw, 1⟩],  -- HOLD_CFG
  reg1 0x1008 [⟨31, 31, .ro, 0⟩, ⟨30, 30, .ro, 0⟩, ⟨29, 29, .ro, 0⟩, ⟨28, 28, .ro, 0⟩, ⟨27, 27, .ro, 0⟩, ⟨26, 26, .ro, 0⟩, ⟨25, 25, .w1c, 0⟩, ⟨15, 0, .ro, 0⟩],  -- HOLD_STATUS
  ctr1 0x1010,  -- HOLD_DROP
  ctr1 0x1018,  -- FWD_RESET_DROP
  reg1 0x2000 [⟨31, 31, .rw, 1⟩, ⟨23, 20, .rw, 4⟩, ⟨19, 16, .rw, 6⟩, ⟨15, 8, .rw, 20⟩, ⟨7, 0, .rw, 30⟩],  -- SENT_CFG
  regN 0x2010 4 0x4 [⟨10, 0, .rw, 0⟩],  -- SENT_FLOOR
  reg1 0x2020 [⟨25, 16, .ro, 765⟩, ⟨11, 8, .ro, 0⟩, ⟨4, 4, .ro, 0⟩, ⟨3, 3, .w1c, 0⟩, ⟨2, 2, .w1c, 0⟩, ⟨0, 0, .ro, 0⟩],  -- AVS_STATUS
  reg1 0x2024 [⟨1, 0, .rwl, 2⟩],  -- AVS_CFG
  reg1 0x2040 [⟨31, 24, .rw, 186⟩, ⟨23, 16, .rw, 174⟩, ⟨15, 8, .rw, 10⟩, ⟨7, 0, .rw, 20⟩],  -- SAG_CFG
  reg1 0x2044 [⟨25, 16, .ro, 1023⟩, ⟨2, 2, .wo, 0⟩, ⟨1, 1, .ro, 0⟩, ⟨0, 0, .w1c, 0⟩],  -- SAG_STATUS
  ctr1 0x3000,  -- HELD_TICKS
  reg1 0x4000 [⟨30, 30, .ro, 0⟩, ⟨29, 29, .ro, 0⟩, ⟨27, 27, .w1c, 0⟩, ⟨26, 26, .w1c, 0⟩, ⟨6, 0, .ro, 0⟩],  -- FLT_STATUS
  reg1 0x4008 [⟨31, 30, .rw, 0⟩, ⟨19, 0, .rw, 1000⟩],  -- ESC_CFG
  reg1 0x400C [⟨15, 0, .wo, 0⟩],  -- ESC_ACK
  reg1 0x4014 [⟨31, 16, .ro, 0⟩, ⟨15, 0, .ro, 0⟩],  -- ESC_COUNT
  reg1 0x4060 [⟨31, 0, .ro, 0⟩],  -- FIRST_MSG_LO
  reg1 0x4064 [⟨31, 0, .ro, 0⟩],  -- FIRST_MSG_HI
  reg1 0x4068 [⟨31, 0, .ro, 0⟩],  -- FIRST_SEQ
  reg1 0x406C [⟨24, 16, .ro, 0⟩, ⟨2, 0, .ro, 0⟩],  -- FIRST_REQ
  reg1 0x4070 [⟨31, 0, .ro, 0⟩],  -- FIRST_TS_NS
  reg1 0x4074 [⟨31, 0, .ro, 0⟩],  -- FIRST_TS_S_LO
  reg1 0x4078 [⟨15, 0, .ro, 0⟩],  -- FIRST_TS_S_HI
  reg1 0x407C [⟨0, 0, .wo, 0⟩],  -- FIRST_CLR
  reg1 0x4080 [⟨31, 0, .ro, 0⟩]  -- FIRST_REF_LO
  ]

/-- Registers of DIE. -/
def dieRegs1 : List RegDesc := [
  reg1 0x4084 [⟨31, 0, .ro, 0⟩],  -- FIRST_REF_HI
  ctr1 0x4120,  -- FLT_LOST
  reg1 0x5000 [⟨1, 1, .rw, 0⟩, ⟨0, 0, .wo, 0⟩],  -- PMC_CTRL
  ctr1 0x5008,  -- PMC_REF
  regN 0x5010 8 0x4 [⟨31, 31, .rw, 0⟩, ⟨27, 16, .rw, 0⟩, ⟨7, 0, .rw, 0⟩],  -- PMC_SEL
  ctrN 0x5040 8 0x8  -- PMC_CNT
  ]

def dieRegs : List RegDesc := dieRegs0 ++ dieRegs1

/-- Registers of HBM. -/
def hbmRegs : List RegDesc := [
  reg1 0x0 [⟨31, 16, .rw, 10⟩, ⟨15, 8, .rw, 32⟩, ⟨7, 4, .rw, 4⟩],  -- CTRL_CFG
  reg1 0x10 [⟨27, 0, .ro, 0⟩],  -- SILO_GRANTED
  reg1 0x14 [⟨22, 0, .ro, 0⟩],  -- SILO_VOID
  reg1 0x18 [⟨1, 0, .ro, 0⟩],  -- SR_STATUS
  ctr1 0x100,  -- ECC_CE
  ctr1 0x108,  -- ECC_UE
  ctr1 0x110,  -- SILO_ECC_DROP
  ctr1 0x118,  -- LINK_FALLBACK
  ctr1 0x120,  -- SILO_LEAK
  reg1 0x1000 [⟨6, 0, .rwl, 20⟩],  -- TRAIN_CFG
  reg1 0x1004 [⟨31, 31, .ro, 0⟩, ⟨25, 16, .ro, 0⟩, ⟨1, 0, .ro, 0⟩],  -- TRAIN_STATUS
  regNM 0x2000 2 0x400 256 0x4 [⟨31, 31, .ro, 0⟩, ⟨30, 24, .ro, 0⟩, ⟨23, 16, .ro, 0⟩, ⟨15, 15, .ro, 0⟩, ⟨14, 8, .ro, 0⟩, ⟨7, 0, .ro, 0⟩],  -- TRAIN
  reg1 0x3000 [⟨1, 1, .rw, 0⟩, ⟨0, 0, .wo, 0⟩],  -- PMC_CTRL
  ctr1 0x3008,  -- PMC_REF
  regN 0x3010 8 0x4 [⟨31, 31, .rw, 0⟩, ⟨27, 16, .rw, 0⟩, ⟨7, 0, .rw, 0⟩],  -- PMC_SEL
  ctrN 0x3040 8 0x8  -- PMC_CNT
  ]

/-- Registers of XEP. -/
def xepRegs : List RegDesc := [
  regN 0x0 8 0x4 [⟨31, 0, .rw, 0⟩],  -- XB_LL
  ctrN 0x100 8 0x8,  -- OVER_DROP
  ctrN 0x140 8 0x8,  -- LL_WAIT
  ctr1 0x180,  -- HELD_FLUSH
  ctrN 0x190 3 0x8,  -- LINK_REPLAY
  ctr1 0x1A8,  -- LINK_LOSS
  reg1 0x1B0 [⟨2, 0, .ro, 0⟩],  -- LINK_STATUS
  reg1 0x1000 [⟨1, 1, .rw, 0⟩, ⟨0, 0, .wo, 0⟩],  -- PMC_CTRL
  ctr1 0x1008,  -- PMC_REF
  regN 0x1010 8 0x4 [⟨31, 31, .rw, 0⟩, ⟨27, 16, .rw, 0⟩, ⟨7, 0, .rw, 0⟩],  -- PMC_SEL
  ctrN 0x1040 8 0x8  -- PMC_CNT
  ]

/-- Registers of TBL. -/
def tblRegs0 : List RegDesc := [
  reg1 0x0 [⟨31, 28, .wo, 0⟩, ⟨27, 20, .wo, 0⟩, ⟨19, 12, .wo, 0⟩, ⟨7, 0, .wo, 0⟩],  -- CMD
  reg1 0x4 [⟨19, 0, .rw, 0⟩],  -- CMD_INDEX
  reg1 0x8 [⟨31, 31, .ro, 0⟩, ⟨7, 4, .ro, 0⟩, ⟨0, 0, .w1c, 0⟩],  -- CMD_STATUS
  reg1 0xC [⟨31, 24, .ro, 0⟩, ⟨19, 0, .ro, 0⟩],  -- CMD_RESULT
  regN 0x40 16 0x4 [⟨31, 0, .rw, 0⟩],  -- CMD_DATA
  reg1 0x100 [⟨3, 0, .rw, 8⟩],  -- EM_CFG
  regN 0x110 4 0x4 [⟨31, 0, .rwl, 0⟩],  -- EM_SEED
  regN 0x124 3 0x4 [⟨20, 0, .rw, 0x100000⟩],  -- EM_LIMIT
  regN 0x134 3 0x4 [⟨20, 0, .ro, 0⟩],  -- EM_USED
  ctr1 0x180,  -- EM_INSERTS
  ctr1 0x188,  -- EM_MOVES
  ctr1 0x190,  -- EM_FULL_FAILS
  ctr1 0x198,  -- EM_LIMIT_FAILS
  reg1 0x200 [⟨31, 31, .wo, 0⟩, ⟨7, 0, .wo, 0⟩],  -- FENCE
  reg1 0x204 [⟨31, 24, .ro, 0⟩, ⟨23, 16, .ro, 0⟩, ⟨11, 10, .ro, 0⟩, ⟨2, 2, .w1c, 0⟩, ⟨1, 1, .w1c, 0⟩, ⟨0, 0, .w1c, 0⟩],  -- FENCE_STATUS
  reg1 0x208 [⟨15, 0, .rw, 1000⟩],  -- FENCE_CFG
  reg1 0x20C [⟨31, 0, .ro, 0⟩],  -- FENCE_LEFT
  ctr1 0x210,  -- FENCES_ISSUED
  ctr1 0x218,  -- FENCE_TIMEOUTS
  reg1 0x400 [⟨23, 18, .rw, 0⟩, ⟨17, 0, .rw, 0⟩],  -- GLN_CFG
  reg1 0x404 [⟨31, 31, .rw, 1⟩, ⟨30, 30, .rw, 0⟩, ⟨29, 29, .rw, 0⟩, ⟨14, 0, .rw, 300⟩],  -- GLN_AGE_CFG
  reg1 0x408 [⟨15, 0, .rw, 1000⟩],  -- GLN_QUANTUM
  reg1 0x40C [⟨28, 16, .ro, 0⟩, ⟨15, 0, .ro, 0⟩],  -- GLN_STATUS
  ctr1 0x480,  -- GLN_LEARNS
  ctr1 0x488  -- GLN_MOVES
  ]

/-- Registers of TBL. -/
def tblRegs1 : List RegDesc := [
  ctr1 0x490,  -- GLN_AGED
  ctr1 0x498,  -- GLN_AGE_SAVED
  ctr1 0x4A0,  -- GLN_CAND_DROP
  ctr1 0x4A8,  -- GLN_EVENT_DROP
  ctr1 0x4B0,  -- GLN_LEARN_FAIL
  reg1 0x600 [⟨31, 24, .rw, 0⟩, ⟨23, 16, .rw, 255⟩, ⟨15, 0, .rw, 1000⟩],  -- WIN_CFG
  reg1 0x604 [⟨15, 0, .rw, 100⟩],  -- WIN_RECHECK
  reg1 0x608 [⟨31, 0, .rw, 0⟩],  -- WIN_SHADOW_LO
  reg1 0x60C [⟨31, 0, .rw, 0⟩],  -- WIN_SHADOW_HI
  reg1 0x610 [⟨20, 0, .rw, 0⟩],  -- WIN_COUNT
  reg1 0x614 [⟨31, 0, .rw, 0⟩],  -- WIN_LOG_LO
  reg1 0x618 [⟨31, 0, .rw, 0⟩],  -- WIN_LOG_HI
  reg1 0x61C [⟨15, 0, .rw, 0⟩],  -- WIN_LOG_SIZE
  reg1 0x620 [⟨31, 0, .ro, 0⟩],  -- WIN_LOG_HEAD
  reg1 0x624 [⟨31, 31, .wo, 0⟩, ⟨30, 30, .wo, 0⟩, ⟨29, 29, .rw, 0⟩],  -- WIN_CTRL
  reg1 0x628 [⟨31, 31, .ro, 0⟩, ⟨30, 30, .w1c, 0⟩, ⟨29, 29, .w1c, 0⟩, ⟨20, 0, .ro, 0⟩],  -- WIN_STATUS
  ctr1 0x640,  -- WIN_PASSES
  ctr1 0x648,  -- WIN_MISMATCHES
  regN 0x700 9 0x4 [⟨31, 0, .rw, 0⟩],  -- EM_TMPL_STAGE
  reg1 0x740 [⟨31, 31, .wo, 0⟩, ⟨30, 30, .ro, 0⟩, ⟨5, 0, .wo, 0⟩],  -- EM_TMPL_CTRL
  regNM 0x1000 64 0x40 9 0x4 [⟨31, 0, .ro, 0⟩],  -- EM_TMPL
  regN 0x2000 256 0x4 [⟨31, 31, .rw, 0⟩, ⟨13, 8, .rw, 0⟩, ⟨5, 0, .rw, 0⟩],  -- LPM_BSEL
  reg1 0x2400 [⟨2, 0, .rw, 0⟩],  -- LPM_BSEL_CFG
  reg1 0x3000 [⟨1, 1, .rw, 0⟩, ⟨0, 0, .wo, 0⟩],  -- PMC_CTRL
  ctr1 0x3008  -- PMC_REF
  ]

/-- Registers of TBL. -/
def tblRegs2 : List RegDesc := [
  regN 0x3010 8 0x4 [⟨31, 31, .rw, 0⟩, ⟨27, 16, .rw, 0⟩, ⟨7, 0, .rw, 0⟩],  -- PMC_SEL
  ctrN 0x3040 8 0x8  -- PMC_CNT
  ]

def tblRegs : List RegDesc := tblRegs0 ++ tblRegs1 ++ tblRegs2

/-- Registers of RGN. -/
def rgnRegs0 : List RegDesc := [
  reg1 0x0 [⟨31, 31, .rw, 0⟩, ⟨17, 0, .rw, 16384⟩],  -- BUF_CFG
  reg1 0x4 [⟨31, 16, .rw, 4096⟩, ⟨15, 0, .rw, 3584⟩],  -- LL_CFG
  reg1 0x8 [⟨13, 0, .rw, 3072⟩],  -- LL_HDRM
  reg1 0x40 [⟨17, 0, .ro, 0⟩],  -- BUF_SHARED
  reg1 0x44 [⟨17, 0, .ro, 0⟩],  -- BUF_RESERVED
  reg1 0x48 [⟨17, 0, .ro, 0⟩],  -- BUF_HDRM
  reg1 0x4C [⟨17, 0, .ro, 0⟩],  -- BUF_BORROWED
  reg1 0x50 [⟨14, 0, .ro, 0⟩],  -- BUF_TAIL
  reg1 0x54 [⟨18, 0, .ro, 0⟩],  -- PTR_USED
  ctr1 0x100,  -- ADMIT_DROP
  ctr1 0x108,  -- PO_EVICT
  ctr1 0x110,  -- PO_VOID
  ctr1 0x118,  -- PTR_DROP
  ctr1 0x120,  -- SILO_DROP_LIMIT
  ctr1 0x128,  -- SILO_DROP_FULL
  ctr1 0x130,  -- SILO_DROP_BW
  ctrN 0x140 5 0x8,  -- BRK
  regN 0x10000 8192 0x4 [⟨31, 31, .rw, 0⟩, ⟨30, 28, .rw, 0⟩, ⟨27, 25, .rw, 0⟩, ⟨24, 24, .rw, 0⟩, ⟨23, 20, .rw, 8⟩, ⟨15, 0, .rw, 2⟩],  -- QCFG
  regN 0x20000 8192 0x4 [⟨31, 16, .rw, 4096⟩, ⟨15, 0, .rw, 1024⟩],  -- QSPILL
  regN 0x30000 8192 0x4 [⟨15, 0, .rw, 256⟩],  -- QLIM
  regNM 0x40000 8192 0x8 2 0x4 [⟨31, 0, .ro, 0⟩],  -- QSTAT
  regNM 0x50000 256 0x20 8 0x4 [⟨31, 0, .ro, 0⟩],  -- LL_STAT
  reg1 0x60000 [⟨31, 30, .rw, 0⟩, ⟨29, 28, .rw, 1⟩, ⟨27, 26, .rw, 0⟩, ⟨25, 24, .rw, 1⟩, ⟨0, 0, .rw, 0⟩],  -- MISS_CFG
  regN 0x60100 16 0x4 [⟨31, 31, .rw, 0⟩, ⟨29, 24, .rw, 0⟩, ⟨23, 23, .rw, 0⟩, ⟨21, 16, .rw, 0⟩, ⟨15, 15, .rw, 0⟩, ⟨13, 8, .rw, 0⟩, ⟨7, 7, .rw, 0⟩, ⟨5, 0, .rw, 0⟩],  -- EKW_SEL
  ctr1 0x60200  -- MISS_TUNNEL
  ]

/-- Registers of RGN. -/
def rgnRegs1 : List RegDesc := [
  ctr1 0x60208,  -- MISS_LABEL
  ctr1 0x60210,  -- MISS_L2
  ctr1 0x60218,  -- MISS_L3
  ctr1 0x60220,  -- ACT_DROP
  ctr1 0x60228,  -- NO_DEST_DROP
  ctrN 0x60240 4 0x8,  -- HELD_DROP
  ctr1 0x60260,  -- EACL_DROP
  ctr1 0x60280,  -- EM_BANK_WAIT
  ctrN 0x61000 64 0x10,  -- LPM_SEARCH
  ctrN 0x61008 64 0x10,  -- LPM_WAIT
  reg1 0x62000 [⟨13, 13, .rw, 1⟩, ⟨12, 0, .rw, 992⟩],  -- ECMP_HASH
  reg1 0x62004 [⟨31, 0, .rw, 0x51c30b7d⟩],  -- ECMP_SEED
  reg1 0x62010 [⟨9, 9, .rw, 0⟩, ⟨8, 8, .rw, 1⟩, ⟨7, 0, .rw, 240⟩],  -- RW_CFG
  reg1 0x62014 [⟨31, 16, .rw, 10⟩, ⟨15, 0, .rw, 64⟩],  -- TTL_HOSTLIM
  reg1 0x62020 [⟨15, 0, .rw, 8192⟩],  -- MC_CFG
  ctr1 0x62100,  -- RW_INVALID_DROP
  ctr1 0x62108,  -- RW_ERR_DROP
  ctr1 0x62110,  -- RW_OVERSIZE_DROP
  ctr1 0x62118,  -- RW_TTL_EXPIRED
  ctr1 0x62120,  -- RW_TTL_HOSTLIM_DROP
  ctr1 0x62128,  -- RW_ECN_DROP
  ctr1 0x62130,  -- RW_CSUM_WAIT
  ctr1 0x62138,  -- MC_COPIES
  ctr1 0x62140,  -- MC_POINTERS
  ctr1 0x62148  -- MC_MEMBER_ERR
  ]

/-- Registers of RGN. -/
def rgnRegs2 : List RegDesc := [
  ctr1 0x62150,  -- MC_PRUNED
  ctr1 0x62158,  -- MC_ENQ_DROP
  ctr1 0x62160,  -- SAMPLE_TAKEN
  reg1 0x63000 [⟨31, 31, .wo, 0⟩, ⟨23, 0, .rw, 0⟩],  -- SAMP_CFG
  ctr1 0x63100,  -- POL_GREEN
  ctr1 0x63108,  -- POL_YELLOW
  ctr1 0x63110,  -- POL_RED
  ctr1 0x63118,  -- POL_DROP
  ctr1 0x63120,  -- POL_INVALID
  reg1 0x70000 [⟨27, 16, .ro, 4095⟩, ⟨11, 0, .ro, 0⟩],  -- SENT_TEMPO
  reg1 0x70004 [⟨26, 16, .ro, 2047⟩, ⟨10, 0, .ro, 0⟩],  -- SENT_MARGIN
  reg1 0x70008 [⟨0, 0, .wo, 0⟩],  -- SENT_CLR
  reg1 0x71000 [⟨1, 1, .rw, 0⟩, ⟨0, 0, .wo, 0⟩],  -- PMC_CTRL
  ctr1 0x71008,  -- PMC_REF
  regN 0x71010 8 0x4 [⟨31, 31, .rw, 0⟩, ⟨27, 16, .rw, 0⟩, ⟨7, 0, .rw, 0⟩],  -- PMC_SEL
  ctrN 0x71040 8 0x8,  -- PMC_CNT
  regN 0x80000 8192 0x4 [⟨31, 27, .rw, 0⟩, ⟨26, 24, .rw, 0⟩, ⟨23, 16, .rw, 1⟩, ⟨15, 13, .rw, 0⟩, ⟨12, 10, .rw, 0⟩],  -- QSCHED
  regN 0x88000 1024 0x4 [⟨26, 24, .rw, 0⟩, ⟨23, 16, .rw, 1⟩],  -- GSCHED
  regN 0x90000 1024 0x10 [⟨31, 12, .rw, 0⟩],  -- GSHP_MIN
  regN 0x90004 1024 0x10 [⟨31, 12, .rw, 0⟩],  -- GSHP_MAX
  regN 0x90008 1024 0x10 [⟨31, 16, .rw, 256⟩, ⟨15, 0, .rw, 256⟩],  -- GSHP_BURST
  regN 0x9000C 1024 0x10 [⟨31, 31, .rw, 0⟩, ⟨30, 30, .rw, 0⟩, ⟨0, 0, .ro, 0⟩],  -- GSHP_CTRL
  ctrN 0x100000 8192 0x80,  -- QADMIT_DROP
  ctrN 0x100008 8192 0x80,  -- QPO_VICTIM
  ctrN 0x100010 8192 0x80  -- QSILO_FRAMES
  ]

/-- Registers of RGN. -/
def rgnRegs3 : List RegDesc := [
  ctrN 0x100018 8192 0x80,  -- QSILO_DROP
  ctrNM 0x100020 8192 0x80 5 0x8,  -- QBRK
  regN 0x200000 8192 0x10 [⟨31, 12, .rw, 0⟩],  -- QSHP_MIN
  regN 0x200004 8192 0x10 [⟨31, 12, .rw, 0⟩],  -- QSHP_MAX
  regN 0x200008 8192 0x10 [⟨31, 16, .rw, 256⟩, ⟨15, 0, .rw, 256⟩],  -- QSHP_BURST
  regN 0x20000C 8192 0x10 [⟨31, 31, .rw, 0⟩, ⟨30, 30, .rw, 0⟩, ⟨0, 0, .ro, 0⟩],  -- QSHP_CTRL
  regN 0x240000 8192 0x10 [⟨28, 0, .ro, 0⟩],  -- QSAMP_DEPTH
  regN 0x240004 8192 0x10 [⟨31, 0, .ro, 0⟩],  -- QSAMP_DELAY
  regN 0x240008 8192 0x10 [⟨28, 0, .ro, 0⟩],  -- QSAMP_DEPTH_MAX
  regN 0x24000C 8192 0x10 [⟨31, 0, .ro, 0⟩]  -- QSAMP_DELAY_MAX
  ]

def rgnRegs : List RegDesc := rgnRegs0 ++ rgnRegs1 ++ rgnRegs2 ++ rgnRegs3

/-- Registers of CLS. -/
def clsRegs0 : List RegDesc := [
  reg1 0x0 [⟨31, 16, .rw, 37120⟩],  -- SIEVE_CFG
  reg1 0x4 [⟨31, 16, .rw, 4789⟩, ⟨15, 0, .rw, 6081⟩],  -- UDP_PORTS0
  reg1 0x8 [⟨31, 16, .rw, 4791⟩],  -- UDP_PORTS1
  regN 0x40 16 0x4 [⟨31, 31, .rw, 0⟩, ⟨30, 30, .rw, 0⟩, ⟨11, 0, .rw, 0⟩],  -- HANDOFF
  regN 0x80 4 0x4 [⟨31, 31, .rw, 0⟩, ⟨15, 0, .rw, 0⟩],  -- ETYPE_HANDOFF
  regN 0x90 4 0x4 [⟨31, 31, .rw, 0⟩, ⟨15, 0, .rw, 0⟩],  -- UDP_HANDOFF
  reg1 0x100 [⟨31, 31, .rw, 1⟩, ⟨30, 30, .wo, 0⟩, ⟨15, 0, .rw, 2000⟩],  -- FRAG_CFG
  reg1 0x104 [⟨16, 16, .ro, 0⟩, ⟨13, 0, .ro, 0⟩],  -- FRAG_STATUS
  ctr1 0x110,  -- FRAG_CREATED
  ctr1 0x118,  -- FRAG_HIT
  ctr1 0x120,  -- FRAG_MISS
  ctr1 0x128,  -- FRAG_PENDING
  ctr1 0x130,  -- FRAG_SET_FULL
  ctr1 0x138,  -- FRAG_EXPIRED
  reg1 0x200 [⟨19, 0, .rw, 8192⟩],  -- MAL_ACTION
  reg1 0x204 [⟨31, 16, .rw, 10⟩, ⟨15, 0, .rw, 64⟩],  -- MAL_HOSTLIM
  ctr1 0x208,  -- MAL_HOSTLIM_DROP
  ctrN 0x300 10 0x8,  -- MAL_CNT
  reg1 0x800 [⟨11, 0, .rw, 256⟩],  -- ME_CFG
  reg1 0x804 [⟨0, 0, .wo, 0⟩],  -- ME_CTRL
  reg1 0x808 [⟨25, 16, .ro, 0⟩, ⟨6, 0, .ro, 0⟩],  -- ME_STATUS
  reg1 0x810 [⟨31, 31, .ro, 0⟩, ⟨30, 30, .ro, 0⟩, ⟨29, 29, .ro, 0⟩, ⟨23, 16, .ro, 0⟩, ⟨11, 0, .ro, 0⟩],  -- CS_STATUS
  reg1 0x814 [⟨0, 0, .wo, 0⟩],  -- CS_CTRL
  reg1 0x820 [⟨11, 0, .rw, 0⟩],  -- CS_RD_ADDR
  regN 0x824 6 0x4 [⟨31, 0, .ro, 0⟩]  -- CS_RD_DATA
  ]

/-- Registers of CLS. -/
def clsRegs1 : List RegDesc := [
  ctr1 0x840,  -- CS_DIGEST_LOAD
  ctr1 0x848,  -- CS_DIGEST_NOW
  ctr1 0x900,  -- ME_STARTS
  ctr1 0x908,  -- ME_HANDSHAKES
  ctr1 0x910,  -- ME_END
  ctr1 0x918,  -- ME_FAIL
  ctr1 0x920,  -- ME_ILLEGAL
  ctr1 0x928,  -- ME_LIMIT
  ctr1 0x930,  -- ME_ABORT
  regN 0xA00 16 0x4 [⟨19, 19, .rw, 0⟩, ⟨18, 15, .rw, 0⟩, ⟨14, 14, .rw, 0⟩, ⟨13, 10, .rw, 0⟩, ⟨9, 9, .rw, 0⟩, ⟨8, 5, .rw, 0⟩, ⟨4, 4, .rw, 0⟩, ⟨3, 0, .rw, 0⟩],  -- ACL_SET
  regN 0xB00 4 0x4 [⟨31, 31, .rw, 0⟩, ⟨19, 16, .rw, 0⟩, ⟨15, 0, .rw, 0⟩],  -- ACL_GROUP
  regNM 0xC00 16 0x40 10 0x4 [⟨31, 30, .rw, 0⟩, ⟨5, 0, .rw, 0⟩],  -- ACL_KEY
  reg1 0x8000 [⟨1, 1, .rw, 0⟩, ⟨0, 0, .wo, 0⟩],  -- PMC_CTRL
  ctr1 0x8008,  -- PMC_REF
  regN 0x8010 8 0x4 [⟨31, 31, .rw, 0⟩, ⟨27, 16, .rw, 0⟩, ⟨7, 0, .rw, 0⟩],  -- PMC_SEL
  ctrN 0x8040 8 0x8  -- PMC_CNT
  ]

def clsRegs : List RegDesc := clsRegs0 ++ clsRegs1

/-- Registers of PRT. -/
def prtRegs0 : List RegDesc := [
  reg1 0x100 [⟨31, 24, .rw, 255⟩, ⟨23, 0, .rw, 0x186a0⟩],  -- PAUSE_WDOG
  reg1 0x104 [⟨15, 8, .ro, 0⟩, ⟨7, 0, .w1c, 0⟩],  -- PAUSE_WDOG_STATUS
  ctr1 0x108,  -- PAUSE_WDOG_BREAKS
  reg1 0x120 [⟨31, 31, .rw, 1⟩, ⟨30, 30, .rw, 1⟩, ⟨5, 0, .rw, 4⟩],  -- CT_CFG
  reg1 0x124 [⟨1, 1, .ro, 0⟩, ⟨0, 0, .w1c, 0⟩],  -- CT_STATUS
  ctr1 0x128,  -- CT_STEPS
  reg1 0x200 [⟨31, 31, .rw, 0⟩, ⟨30, 30, .rw, 0⟩, ⟨11, 0, .rw, 1⟩],  -- LOOKUP_CFG
  reg1 0x210 [⟨31, 31, .rw, 0⟩, ⟨30, 30, .rw, 1⟩],  -- LEARN_CFG
  ctr1 0x300,  -- STALL_TEMPO
  ctr1 0x308,  -- STALL_CONTEXT
  ctr1 0x310,  -- STALL_BANK
  regN 0x400 16 0x4 [⟨31, 16, .rw, 10⟩, ⟨15, 0, .rw, 64⟩],  -- HOSTLIM
  ctrN 0x500 16 0x8,  -- HOSTLIM_DROP
  ctrN 0x580 16 0x8,  -- HOSTLIM_PASS
  ctr1 0x600,  -- HOST_ORIG_DROP
  reg1 0x800 [⟨31, 31, .rw, 0⟩, ⟨15, 8, .rw, 255⟩],  -- GATE_CFG
  reg1 0x804 [⟨29, 0, .rw, 0xf4240⟩],  -- GATE_ADMIN_CYCLE
  reg1 0x808 [⟨10, 0, .rw, 1⟩],  -- GATE_ADMIN_COUNT
  reg1 0x80C [⟨29, 0, .rw, 0⟩],  -- GATE_ADMIN_BASE_NS
  reg1 0x810 [⟨31, 0, .rw, 0⟩],  -- GATE_ADMIN_BASE_S_LO
  reg1 0x814 [⟨15, 0, .rw, 0⟩],  -- GATE_ADMIN_BASE_S_HI
  reg1 0x818 [⟨31, 31, .wo, 0⟩, ⟨30, 30, .wo, 0⟩],  -- GATE_CTRL
  reg1 0x81C [⟨31, 31, .ro, 0⟩, ⟨30, 30, .ro, 0⟩, ⟨29, 29, .ro, 0⟩, ⟨28, 28, .ro, 0⟩, ⟨26, 26, .w1c, 0⟩, ⟨25, 25, .w1c, 0⟩, ⟨9, 0, .ro, 0⟩],  -- GATE_STATUS
  reg1 0x820 [⟨10, 10, .rw, 0⟩, ⟨9, 0, .rw, 0⟩],  -- GCL_ADDR
  reg1 0x824 [⟨7, 0, .rw, 0⟩]  -- GCL_DATA0
  ]

/-- Registers of PRT. -/
def prtRegs1 : List RegDesc := [
  reg1 0x828 [⟨29, 0, .rw, 0⟩],  -- GCL_DATA1
  reg1 0x830 [⟨29, 0, .ro, 0xf4240⟩],  -- GATE_OPER_CYCLE
  reg1 0x834 [⟨10, 0, .ro, 1⟩],  -- GATE_OPER_COUNT
  reg1 0x838 [⟨29, 0, .ro, 0⟩],  -- GATE_OPER_BASE_NS
  reg1 0x83C [⟨31, 0, .ro, 0⟩],  -- GATE_OPER_BASE_S_LO
  reg1 0x840 [⟨15, 0, .ro, 0⟩],  -- GATE_OPER_BASE_S_HI
  regN 0x850 8 0x4 [⟨13, 0, .rw, 16360⟩],  -- GATE_SDU
  ctr1 0x880,  -- GATE_SDU_DROP
  reg1 0x900 [⟨1, 0, .rw, 0⟩],  -- PTP_CFG
  reg1 0x904 [⟨31, 0, .rw, 0⟩],  -- PTP_LINK_DELAY
  ctr1 0x910,  -- PTP_CORRECTED
  ctr1 0x918,  -- PTP_SKIPPED
  ctr1 0x920,  -- PTP_INSERTED
  reg1 0xF00 [⟨1, 1, .rw, 0⟩, ⟨0, 0, .wo, 0⟩],  -- PMC_CTRL
  ctr1 0xF08,  -- PMC_REF
  regN 0xF10 8 0x4 [⟨31, 31, .rw, 0⟩, ⟨27, 16, .rw, 0⟩, ⟨7, 0, .rw, 0⟩],  -- PMC_SEL
  ctrN 0xF40 8 0x8  -- PMC_CNT
  ]

def prtRegs : List RegDesc := prtRegs0 ++ prtRegs1

/-- Registers of the per-instance layout. -/
def layRegs0 : List RegDesc := [
  regN 0x0 8192 0x10 [⟨15, 0, .wo, 0⟩],  -- RXDB
  regN 0x4 8192 0x10 [⟨15, 0, .ro, 0⟩],  -- RXHW
  regN 0x8 8192 0x10 [⟨31, 31, .rw, 0⟩, ⟨30, 30, .rw, 0⟩, ⟨21, 16, .rw, 0⟩, ⟨15, 8, .rw, 0⟩, ⟨7, 0, .rw, 0⟩],  -- RXINT
  regN 0x20000 8192 0x10 [⟨15, 0, .wo, 0⟩],  -- TXDB
  regN 0x20004 8192 0x10 [⟨15, 0, .ro, 0⟩],  -- TXHW
  regN 0x20008 8192 0x10 [⟨31, 31, .rw, 0⟩, ⟨30, 30, .rw, 0⟩, ⟨21, 16, .rw, 0⟩, ⟨15, 8, .rw, 0⟩, ⟨7, 0, .rw, 0⟩],  -- TXINT
  regN 0x7F000 4 0x10 [⟨15, 0, .wo, 0⟩],  -- POOL_TAIL
  regN 0x7F004 4 0x10 [⟨15, 0, .ro, 0⟩],  -- POOL_HEAD
  reg1 0x80000 [⟨31, 28, .wo, 0⟩, ⟨27, 20, .wo, 0⟩, ⟨19, 12, .wo, 0⟩, ⟨9, 8, .wo, 0⟩, ⟨7, 0, .wo, 0⟩],  -- INS_CMD
  reg1 0x80004 [⟨19, 0, .rw, 0⟩],  -- INS_CMD_INDEX
  reg1 0x80008 [⟨31, 31, .ro, 0⟩, ⟨12, 8, .ro, 0⟩, ⟨0, 0, .w1c, 0⟩],  -- INS_CMD_STATUS
  reg1 0x8000C [⟨31, 0, .ro, 0⟩],  -- INS_CMD_RESULT
  regN 0x80040 16 0x4 [⟨31, 0, .rw, 0⟩],  -- INS_CMD_DATA
  regN 0x80080 4 0x4 [⟨31, 24, .ro, 0⟩, ⟨23, 16, .ro, 0⟩, ⟨11, 10, .ro, 0⟩, ⟨2, 2, .w1c, 0⟩, ⟨1, 1, .w1c, 0⟩, ⟨0, 0, .w1c, 0⟩],  -- INS_FENCE_STATUS
  ctr1 0x90000,  -- RX_FRAMES
  ctr1 0x90008,  -- RX_BYTES
  ctr1 0x90010,  -- RX_POOL_DROP
  ctr1 0x90018,  -- RX_RING_DROP
  ctr1 0x90020,  -- RX_DISCARD
  ctr1 0x90028,  -- RX_RESET_DROP
  ctr1 0x90030,  -- TX_FRAMES
  ctr1 0x90038,  -- TX_BYTES
  ctr1 0x90040,  -- TX_DENIED
  ctr1 0x90048,  -- TX_HELD
  ctr1 0x90050  -- TX_INJECT_TIMEOUT
  ]

/-- Registers of the per-instance layout. -/
def layRegs1 : List RegDesc := [
  ctr1 0x90058,  -- TX_DMA_ERR
  ctrN 0x90060 4 0x8,  -- POOL_EMPTY
  ctr1 0x90080,  -- SQUASH_DROP
  ctr1 0x90088,  -- DIRTY_OUT_RANGE
  reg1 0xA0000 [⟨31, 0, .ro, 0⟩],  -- INS_STATUS
  reg1 0xA0004 [⟨29, 16, .ro, 0⟩, ⟨13, 0, .ro, 0⟩],  -- RESOURCES
  reg1 0xA0008 [⟨5, 0, .rw, 0⟩],  -- CMD_VEC
  reg1 0xA000C [⟨5, 0, .rw, 0⟩],  -- MBOX_VEC
  regN 0xA0010 8 0x4 [⟨31, 31, .ro, 0⟩, ⟨23, 16, .ro, 0⟩, ⟨15, 0, .ro, 0⟩],  -- WIN_VIEW
  regN 0xA0040 16 0x4 [⟨31, 0, .ro, 0⟩],  -- MBOX_FROM_PF
  regN 0xA0080 16 0x4 [⟨31, 0, .rw, 0⟩],  -- MBOX_TO_PF
  reg1 0xA00C0 [⟨31, 31, .wo, 0⟩, ⟨1, 1, .w1c, 0⟩, ⟨0, 0, .ro, 0⟩]  -- MBOX_CTRL
  ]

def layRegs : List RegDesc := layRegs0 ++ layRegs1


/-- The register list of a block type (Table 18-10). -/
def blkRegs : Blk → List RegDesc
  | .pkg => pkgRegs
  | .boot => bootRegs
  | .tim => timRegs
  | .flt => fltRegs
  | .chn => chnRegs
  | .pair => pairRegs
  | .obs => obsRegs
  | .hif => hifRegs
  | .ins => insRegs
  | .xbar => xbarRegs
  | .lane => laneRegs
  | .mac => macRegs
  | .die => dieRegs
  | .hbm => hbmRegs
  | .xep => xepRegs
  | .tbl => tblRegs
  | .rgn => rgnRegs
  | .cls => clsRegs
  | .prt => prtRegs
  | .lay => layRegs

/-- R518: the pseudocode of spec/18_register_map.md, for an aligned offset of the privileged view; layout addresses
stand above 2^32. The answer is the block type, its instance, and the offset inside the block. -/
def decodeAddr (a : Nat) : Option (Blk × Nat × Nat) :=
  if a ≥ 0x100000000 then
    let r := a - 0x100000000
    if r / 0x100000 < 256 then some (.lay, r / 0x100000, r % 0x100000) else none
  else if a ≥ 0x10000000 then none
  else if a ≥ 0x4000000 then
    let d := (a - 0x4000000) / 0x3000000
    let o := (a - 0x4000000) % 0x3000000
    if o < 0x400000 then
      match o / 0x100000 with
      | 0 => some (.die, d, o % 0x100000)
      | 1 => some (.hbm, d, o % 0x100000)
      | 2 => some (.xep, d, o % 0x100000)
      | _ => some (.tbl, d, o % 0x100000)
    else if o < 0x800000 || o ≥ 0x2800000 then none
    else
      let G := d * 2 + (o - 0x800000) / 0x1000000
      let r := (o - 0x800000) % 0x1000000
      if r < 0x800000 then some (.rgn, G, r)
      else if r < 0xC00000 then some (.cls, G * 4 + (r - 0x800000) / 0x100000, (r - 0x800000) % 0x100000)
      else if r < 0xC20000 then some (.prt, G * 32 + (r - 0xC00000) / 0x1000, (r - 0xC00000) % 0x1000)
      else none
  else if a ≥ 0x2000000 then none
  else if a ≥ 0x1000000 then
    let l := (a - 0x1000000) / 0x200000
    let o := (a - 0x1000000) % 0x200000
    if o < 0x40000 then some (.lane, l * 128 + o / 0x800, o % 0x800)
    else if o ≥ 0x100000 && o < 0x120000 then some (.mac, l * 32 + (o - 0x100000) / 0x1000, (o - 0x100000) % 0x1000)
    else none
  else if a < 0x10000 then some (.pkg, 0, a)
  else if a < 0x20000 then some (.boot, 0, a - 0x10000)
  else if a < 0x30000 then some (.tim, 0, a - 0x20000)
  else if a < 0x40000 then some (.flt, 0, a - 0x30000)
  else if a < 0x50000 then some (.chn, 0, a - 0x40000)
  else if a < 0x60000 then some (.pair, 0, a - 0x50000)
  else if a < 0x70000 then some (.obs, 0, a - 0x60000)
  else if a < 0x100000 then none
  else if a < 0x200000 then some (.hif, 0, a - 0x100000)
  else if a < 0x300000 then some (.ins, (a - 0x200000) / 0x1000, (a - 0x200000) % 0x1000)
  else if a < 0x800000 then none
  else if a < 0x810000 then some (.xbar, 0, a - 0x800000)
  else none

/-- The indices of offset o in register d, with the word of a 64-bit register (0 low, 1 high); none: d does not hold o. -/
def RegDesc.locate (d : RegDesc) (o : Nat) : Option (Nat × Nat × Nat) :=
  if o < d.off then none else
    let r := o - d.off
    let i := r / d.s1
    let j := (r % d.s1) / d.s2
    let w := r % d.s1 % d.s2
    if i < d.n1 && j < d.n2 && (w == 0 || (d.wide && w == 4)) then some (i, j, w / 4) else none

/-- A register found at an address: its description, block, instance, offset and indices. -/
structure RegHit where
  blk : Blk
  inst : Nat
  off : Nat
  desc : RegDesc
  i : Nat
  j : Nat
  word : Nat
deriving DecidableEq, Repr

def findIn (b : Blk) (inst off : Nat) : List RegDesc → Option RegHit
  | [] => none
  | d :: ds =>
    match d.locate off with
    | some (i, j, w) => some ⟨b, inst, off, d, i, j, w⟩
    | none => findIn b inst off ds

/-- The register at an aligned address; none where no chapter defines one (R12, R518). -/
def findReg (a : Nat) : Option RegHit :=
  match decodeAddr a with
  | some (b, inst, off) => findIn b inst off (blkRegs b)
  | none => none

/-- The default severity of each fault kind (Tables 2-16, 3-22, 4-20, 5-15, R198, 7-25, R282, 10-13, 11-17, 12-7, 13-16,
14-19, 15-17, 16-14; codes of Table 16-3); 0 for a code that names no kind (Table 16-5). -/
def defaultSev (k : Nat) : Nat :=
  if k ∈ [0x01, 0x02, 0x06, 0x07, 0x11, 0x13, 0x19, 0x1A, 0x1C, 0x29, 0x30, 0x33, 0x35, 0x38, 0x40, 0x49, 0x51,
          0x58, 0x59, 0x61, 0x62, 0x63, 0x64, 0x68, 0x69, 0x6D] then 1
  else if k ∈ [0x12, 0x28, 0x2A, 0x34, 0x41, 0x43, 0x44, 0x53, 0x6A, 0x6B, 0x6C] then 2
  else if k = 0x03 then 3 else 0

def sevWord (w : Nat) : Nat :=
  (List.range 16).foldl (fun acc j => acc + defaultSev (16 * w + j) * 4 ^ j) 0

def fldsReset (fs : List Fld) : Nat := fs.foldl (fun acc f => acc + f.rst * 2 ^ f.lo) 0

/-- The reset values that depend on the index: Tables 2-1, 4-5, 7 (EM_SEED), 8-13, 11-1, 13-3, 16-5 and 17-9. -/
def resetOfHit (h : RegHit) : Nat :=
  match h.blk with
  | .die => if 0x2010 ≤ h.off && h.off < 0x2020 then
      (match h.i with | 0 => 1008 | 1 => 1118 | 2 => 1218 | _ => 1328) else fldsReset h.desc.flds
  | .cls =>
    if 0x40 ≤ h.off && h.off < 0x80 then
      (if h.i == 4 || h.i == 5 || h.i == 9 || h.i == 11 || h.i == 14 then 0x40000000 else 0)
    else if 0xB00 ≤ h.off && h.off < 0xB10 then 0xF * 16 ^ h.i
    else fldsReset h.desc.flds
  | .rgn => if 0x80000 ≤ h.off && h.off < 0x88000 then 0x10000 + (h.i % 8) * 0x2000 + (h.i % 8) * 0x400
            else fldsReset h.desc.flds
  | .tbl => if 0x110 ≤ h.off && h.off < 0x120 then
      (match h.i with | 0 => 0x2F6B1A03 | 1 => 0x5C0E7D91 | 2 => 0x93A44E27 | _ => 0xE11DB856) else fldsReset h.desc.flds
  | .flt => if 0x1000 ≤ h.off then sevWord h.j else fldsReset h.desc.flds
  | .obs => if 0x100 ≤ h.off && h.off < 0x120 then
      (match h.i with | 0 => 0x022E013A | 1 => 0x0000FFFF | 2 => 0x000100FF | _ => 0) else fldsReset h.desc.flds
  | .ins => if (h.off == 0x10 || h.off == 0x14) && h.inst == 0 then 0x20000000
            else if h.off == 8 then (if h.inst == 0 then 0x20800000 else 0x20070000)
            else fldsReset h.desc.flds
  | .lay => if h.off == 0xA0000 then (if h.inst == 0 then 0x20800000 else 0x20070000) else fldsReset h.desc.flds
  | _ => fldsReset h.desc.flds

/-- The reset value of the 32-bit register at address a (0 where there is none). -/
def resetWord (a : Nat) : Nat :=
  match findReg a with
  | some h => if h.desc.wide then 0 else resetOfHit h % 2 ^ 32
  | none => 0

end Sys2Proof.Machine
end

