-- ==== Sys2Proof/Machine/State.lean ====
section
/-!
DEFINITION. Machine/State.lean: the state of the block as plain data, the machine right after reset, and the ways a step could
stop. Registers are held sparsely, by address, as what differs from their reset values (RegMap.lean); everything that no
register shows is held in the fields of Block and of the structures of Parts.lean, sparsely too (Map.lean).
-/
namespace Sys2Proof.Machine
open Sys2Proof

/-- The block: everything of the state but the queue of commands. -/
structure Block where
  /-- The 32-bit registers, by address, where they differ from their reset values (R11, R518). -/
  regs : SMap Word := []
  /-- The 64-bit registers, by the address of their low word (R14). -/
  ctrs : SMap (BitVec 64) := []
  /-- The words latched for each requester: the high word of a counter (R14), the seconds of a time (R369), SNAP_ADDR (R510). -/
  latch : SMap Nat := []
  /-- Reference ticks since reset (R369). -/
  ticks : Nat := 0
  /-- TIME_REFCLK is lost (R355). -/
  refLost : Bool := false
  /-- The two time bases (R352). -/
  baseA : TimeBase := {}
  baseB : TimeBase := {}
  /-- The tick of the last switch request (R360). -/
  switchTick : Nat := 0
  /-- What each die, port, cluster, region and table engine holds beside its registers. -/
  dies : SMap Die := []
  ports : SMap Port := []
  clusters : SMap Cluster := []
  regions : SMap Region := []
  engines : SMap Engine := []
  /-- The trace ring of each die (R511). -/
  rings : SMap TraceRing := []
  /-- The source FIFOs, at ingress die × 8 + region (R284), and the host link's frames by region (R389). -/
  fifos : SMap (List Transit) := []
  hostLinks : SMap (List Transit) := []
  /-- The links between dies (R287). -/
  links : SMap Link := []
  /-- The pseudo-channels of the HBM stacks, at stack (2 × die + stack) × 2^16 + pseudo-channel (R315). -/
  hbms : SMap HbmChan := []
  /-- Slow-path staging (R392). -/
  slow : List HostFrame := []
  /-- Transmit and receive rings, buffer pools, ring interrupts and instances (R385, R395, R399). -/
  txRings : SMap TxRing := []
  rxRings : SMap RxRing := []
  pools : SMap Pool := []
  ringInts : SMap RingInt := []
  insts : SMap Inst := []
  /-- VF Enable and NumVFs of the SR-IOV capability (R374, R375, R378). -/
  vfEnable : Bool := false
  numVfs : Nat := 0
  /-- The instance whose transmit rings were served last (R390). -/
  txLast : Nat := 255
  /-- DMA jobs waiting, oldest first; the jobs on the 16 engines; the jobs so far; the instance served last (R401). -/
  jobs : List Job := []
  dmaEng : SMap Job := []
  jobCount : Nat := 0
  dmaLast : Nat := 255
  /-- The frames on the ingress side by number, in order of arrival, and the next number. -/
  frames : SMap Frame := []
  nextFrame : Nat := 1
  /-- The package collector, the fault messages on their way to a collector, and for each kind that its source sends at most once
  per ms the tick of the last (R473, R477). -/
  flt : Collector := {}
  inflight : List Msg := []
  lastMsg : SMap Nat := []
  /-- Trace records that no ring has taken yet (R511). -/
  records : List TraceRec := []
  /-- The RWL fields are locked (R16). -/
  locked : Bool := false
  pair : PairState := {}
  chain : Chain := {}
  boot : Boot := {}
  /-- A package reset that lasts until its cause ends, and whether RESET_N is low (R488). -/
  pkgHold : PkgHold := .none
  pinLow : Bool := true
  /-- HOLD_REL_N has been low for 20 ns (R494). -/
  relPin : Bool := false
  /-- The strap pins as they stood at the last command that told (R414). -/
  strapPins : Nat := 0
  fuses : Fuses := {}
  faultN : FaultPin := {}
  /-- The snapshot copies of the counters, and a pending instant (R508, R509). -/
  snap : SMap (BitVec 64) := []
  pendSnap : Option PendSnap := none
  /-- The model's own: accesses refused so far, by which a REGWRITE record knows its write was refused (R428). -/
  refusals : Nat := 0
  /-- The model's own: what has left the block, oldest first. -/
  out : List Output := []
  /-- The model's own: how many free values have been drawn (assumption 1). -/
  fresh : Nat := 0
deriving DecidableEq, Repr

/-- The state: the block, and the commands that wait, first in, first out. -/
structure State where
  blk : Block := {}
  pending : List Instr := []
deriving DecidableEq, Repr

/-- Why a step faults. No command of the block stops it: whatever the spec gives no effect leaves the block as it is, and a refused
access is itself an effect (R11, R12). The type has no constructor. -/
inductive Fault where
deriving DecidableEq, Repr

/-- Why a command is refused. -/
inductive Refusal where
  /-- A row of the table without a meaning yet, by its mnemonic; raised by an arm of exec; safe. No arm raises it now. -/
  | notModelled (mnemonic : String)
deriving DecidableEq, Repr

/-- The machine right after power is applied: RESET_N is low, every register holds its reset value, every memory, queue and timer is
empty, and no command waits (R413, Table 14-2; assumptions 4 to 7). -/
def State.reset : State := { blk := {}, pending := [] }

/-- A command has effect f on the block, whatever it may be, and the machine goes on. -/
def State.doing (s : State) (f : Block → Block) : Host.Outcome State Fault Refusal := .next { s with blk := f s.blk }

end Sys2Proof.Machine
end

