-- ==== Sys2Proof/Machine/Ops.lean ====
section
/-!
DEFINITION. Machine/Ops.lean: the named operations over the block's state that every meaning is built from: reading and
writing register fields, counters and counter units, free values, outputs, the time of day, fault messages, interrupts
of instance 0, trace records, and access faults.
-/
namespace Sys2Proof.Machine
open Sys2Proof

/-! ## Fields of a word -/

/-- Bits hi to lo of w. -/
def Bf.of (f : Bf) (w : Nat) : Nat := w / 2 ^ f.lo % 2 ^ (f.hi + 1 - f.lo)
/-- w with bits hi to lo replaced by v (its low bits, as wide as the field). -/
def Bf.put (f : Bf) (w v : Nat) : Nat :=
  w - f.of w * 2 ^ f.lo + v % 2 ^ (f.hi + 1 - f.lo) * 2 ^ f.lo
/-- Bit i of w. -/
def bitOf (w i : Nat) : Bool := w / 2 ^ i % 2 == 1
def b2n (c : Bool) : Nat := if c then 1 else 0
/-- A two's-complement number of n bits. -/
def signed (n w : Nat) : Int := if w % 2 ^ n < 2 ^ (n - 1) then (w % 2 ^ n : Nat) else ((w % 2 ^ n : Nat) : Int) - (2 ^ n : Nat)
/-- An integer in n bits of two's complement. -/
def unsigned (n : Nat) (x : Int) : Nat := (x % ((2 ^ n : Nat) : Int)).toNat
/-- v saturated at m. -/
def sat (m v : Nat) : Nat := if v > m then m else v

/-! ## Registers (R11 to R15) -/

/-- The 32-bit register at address a: what was last written, or its reset value. -/
def Block.word (b : Block) (a : Nat) : Nat :=
  match SMap.find b.regs a with
  | some v => v.toNat
  | none => resetWord a

def Block.setWord (b : Block) (a v : Nat) : Block :=
  { b with regs := SMap.set (BitVec.ofNat 32 (resetWord a)) b.regs a (BitVec.ofNat 32 v) }

/-- A field of the register at address a. -/
def Block.fld (b : Block) (a : Nat) (f : Bf) : Nat := f.of (b.word a)
def Block.setFld (b : Block) (a : Nat) (f : Bf) (v : Nat) : Block := b.setWord a (f.put (b.word a) v)
/-- A one-bit field. -/
def Block.flag (b : Block) (a : Nat) (f : Bf) : Bool := b.fld a f == 1
def Block.raise (b : Block) (a : Nat) (f : Bf) : Block := b.setFld a f 1
def Block.lower (b : Block) (a : Nat) (f : Bf) : Block := b.setFld a f 0
/-- Sets bits of a bit-mask field. -/
def Block.orFld (b : Block) (a : Nat) (f : Bf) (m : Nat) : Block := b.setFld a f (b.fld a f ||| m)
/-- Clears bits of a bit-mask field. -/
def Block.andNotFld (b : Block) (a : Nat) (f : Bf) (m : Nat) : Block :=
  b.setFld a f (b.fld a f &&& (2 ^ (f.hi + 1 - f.lo) - 1 - m % 2 ^ (f.hi + 1 - f.lo)))

/-- The 64-bit register whose low word lies at address a (R14). -/
def Block.ctr (b : Block) (a : Nat) : Nat := (SMap.get 0 b.ctrs a).toNat
def Block.setCtr (b : Block) (a v : Nat) : Block := { b with ctrs := SMap.set 0 b.ctrs a (BitVec.ofNat 64 v) }

/-! ## The elements -/

def Block.die (b : Block) (d : Nat) : Die := SMap.get {} b.dies d
def Block.modDie (b : Block) (d : Nat) (f : Die → Die) : Block := { b with dies := SMap.mod {} b.dies d f }
def Block.port (b : Block) (p : Nat) : Port := SMap.get {} b.ports p
def Block.modPort (b : Block) (p : Nat) (f : Port → Port) : Block := { b with ports := SMap.mod {} b.ports p f }

def Block.cluster (b : Block) (c : Nat) : Cluster := SMap.get {} b.clusters c
def Block.modCluster (b : Block) (c : Nat) (f : Cluster → Cluster) : Block :=
  { b with clusters := SMap.mod {} b.clusters c f }

/-! ## Hold and the counters (R43, R503) -/

/-- Whether the boot sequencer has completed: before it no die enters Hold and no port runs (R417). -/
def Block.started (b : Block) : Bool := b.flag R.BOOT_STATUS F.BOOT_STATUS_DONE

/-- Whether die d is past Hold entry and not yet released: its counters and counter units stand still. -/
def Block.frozen (b : Block) (d : Nat) : Bool :=
  match (b.die d).phase with
  | .parking | .held | .exiting => true
  | .idle | .window => false

/-- The die whose Hold freezes the counter at address a; none: no Hold freezes it (package, HIF, INS and the DIE block's
own counters). -/
def freezer (a : Nat) : Option Nat :=
  if a ≥ 0x10000000 then none
  else if a ≥ 0x4000000 then
    if (a - 0x4000000) % 0x3000000 < 0x100000 then none else some ((a - 0x4000000) / 0x3000000)
  else if a ≥ 0x1000000 ∧ a < 0x2000000 then some ((a - 0x1000000) / 0x400000)
  else none

def Block.stopped (b : Block) (a : Nat) : Bool :=
  match freezer a with
  | some d => b.frozen d
  | none => false

/-- Counts n at the counter at address a, which wraps at 2^64 and stands still while its die is held. -/
def Block.count (b : Block) (a n : Nat) : Block := if b.stopped a then b else b.setCtr a (b.ctr a + n)

/-! ## Counter units (R501 to R504) -/

/-- Table 17-1: the base of each counter unit. -/
inductive PUnit where
  | pkg | hif | die (d : Nat) | tbl (d : Nat) | hbm (d : Nat) | xep (d : Nat) | rgn (g : Nat) | cls (c : Nat)
  | prt (p : Nat) | mac (p : Nat)
deriving DecidableEq, Repr

def PUnit.base : PUnit → Nat
  | .pkg => 0x61000
  | .hif => hifBase + 0x6000
  | .die d => dieBase d + 0x5000
  | .tbl d => tblBase d + 0x3000
  | .hbm d => hbmBase d + 0x3000
  | .xep d => xepBase d + 0x1000
  | .rgn g => rgnBase g + 0x71000
  | .cls c => clsBase c + 0x8000
  | .prt p => prtBase p + 0xF00
  | .mac p => macBase p + 0xF00

/-- The die whose Hold stops the unit (R503). -/
def PUnit.die? : PUnit → Option Nat
  | .pkg | .hif => none
  | .die d | .tbl d | .hbm d | .xep d => some d
  | .rgn g => some (g / 2)
  | .cls c => some (c / 8)
  | .prt p | .mac p => some (p / 64)

/-- Counts event `ev` of the unit with qualifier `qual` by n, in every programmable counter that selects it. -/
def Block.pmc (b : Block) (u : PUnit) (ev qual n : Nat) : Block :=
  let stop := match u.die? with | some d => b.frozen d | none => false
  if stop || bitOf (b.word u.base) 1 then b
  else (List.range 8).foldl (fun b k =>
    let sel := b.word (u.base + 0x10 + 4 * k)
    if bitOf sel 31 && sel % 256 == ev && (sel / 65536 % 4096 == 0xFFF || sel / 65536 % 4096 == qual) then
      b.setCtr (u.base + 0x40 + 8 * k) (b.ctr (u.base + 0x40 + 8 * k) + n)
    else b) b

/-! ## Outputs and free values -/

def Block.emit (b : Block) (o : Output) : Block := { b with out := b.out ++ [o] }

/-- Draws the next free value of w bits: nothing constrains it (assumption 1). -/
def Block.free (b : Block) (w : Nat) : Nat × Block :=
  ((Config.freeValue w b.fresh).toNat, { b with fresh := b.fresh + 1 })

/-- n free bytes. -/
def Block.freeBytes (b : Block) : Nat → List Byte × Block
  | 0 => ([], b)
  | n + 1 =>
    let r := b.free 8
    let t := r.2.freeBytes n
    (BitVec.ofNat 8 r.1 :: t.1, t.2)

/-! ## Time of day (R352, R368, R479) -/

def Block.tbase (b : Block) (i : Nat) : TimeBase := if i == 0 then b.baseA else b.baseB
def Block.modBase (b : Block) (i : Nat) (f : TimeBase → TimeBase) : Block :=
  if i == 0 then { b with baseA := f b.baseA } else { b with baseB := f b.baseB }
/-- The active base (R360). -/
def Block.active (b : Block) : Nat := b.fld R.TIM_ACTIVE_STATUS F.TIM_ACTIVE_STATUS_ACTIVE
/-- The base that port p's gates, stamps and corrections use (R361). -/
def Block.portBase (b : Block) (p : Nat) : Nat :=
  if (b.port p).onTarget then b.fld R.TIM_ACTIVE_STATUS F.TIM_ACTIVE_STATUS_TARGET else b.active
/-- The instant that base i shows. -/
def Block.stampOf (b : Block) (i : Nat) : Stamp :=
  let t := b.tbase i
  ⟨i, t.state == .stepped, t.s, t.ns⟩
def Block.stampNow (b : Block) : Stamp := b.stampOf b.active
/-- A stamp's nanosecond word: BASE, STEPPED, nanoseconds (Table 16-7). -/
def Stamp.word (t : Stamp) : Nat := t.base * 2 ^ 31 + b2n t.stepped * 2 ^ 30 + t.ns % 2 ^ 30

/-! ## Fault messages (R473, R474, R500) -/

/-- A block sends a fault message; it travels until a collector takes it (FAULT_MESSAGE). -/
def Block.sendAs (b : Block) (typ idx kind addr requester access : Nat) : Block :=
  { b with inflight := b.inflight ++ [{ typ := typ, idx := idx, kind := kind, addr := addr % 2 ^ 36,
                                        ref := b.ticks, requester := requester, access := access }] }
/-- The fault arose in hardware (requester 0x1FF, access 0, Table 16-6). -/
def Block.send (b : Block) (typ idx kind addr : Nat) : Block := b.sendAs typ idx kind addr 0x1FF 0

/-- One ms of reference ticks: the interval of every "at most once per ms". -/
def oneMs : Nat := 1000000

/-- Sends a message at most once per ms for the given key. -/
def Block.sendLimited (b : Block) (key typ idx kind addr requester access : Nat) : Block :=
  let last := SMap.get 0 b.lastMsg key
  if last != 0 && b.ticks < last - 1 + oneMs then b
  else { b.sendAs typ idx kind addr requester access with lastMsg := SMap.set 0 b.lastMsg key (b.ticks + 1) }

/-- The limit's key of a kind at a source, with a part of its own. -/
def limitKey (kind typ idx part : Nat) : Nat := ((kind * 16 + typ) * 4096 + idx) * 4096 + part

/-- A kind that its source sends at most once per ms. -/
def Block.sendOncePerMs (b : Block) (typ idx kind addr : Nat) : Block :=
  b.sendLimited (limitKey kind typ idx 0) typ idx kind addr 0x1FF 0

/-! ## Access faults (R11, R12, R475, Table 16-6) -/

/-- Requester codes of Table 16-6. -/
def reqObs : Nat := 0x100
def reqChain : Nat := 0x101
def reqBoot : Nat := 0x102
def reqGleaner : Nat := 0x103
def reqWinnow : Nat := 0x104

/-- The SOURCE of an access fault: the instance, OBS, the Sheaf chain or BOOT (R475). -/
def faultSource (req : Nat) : Nat × Nat :=
  if req < 256 then (4, req) else if req == reqObs then (0, 3) else if req == reqChain then (2, 0) else (0, 1)

/-- Reports an access fault: `acc` is 0 read, 1 write, 2 wrong size or alignment (ADDR[35:34]), of a write or a read;
`off` is the byte offset in the requester's view. At most once per requester per ms (Table 16-14). -/
def Block.accessFault (b : Block) (req acc : Nat) (isWrite : Bool) (off : Nat) : Block :=
  let s := faultSource req
  let b := b.sendLimited (limitKey 1 s.1 s.2 0) s.1 s.2 0x01 (acc * 2 ^ 34 + off % 2 ^ 28) req (1 + b2n isWrite)
  { b with refusals := b.refusals + 1 }

/-- The requester code of a writer (Table 16-6). -/
def writerCode : Writer → Nat
  | .host => 0
  | .boot => reqBoot
  | .inst i => i.val
/-- Requester codes of a reader (Table 16-6). -/
def readerCode : Reader → Nat
  | .host => 0
  | .obs => reqObs
  | .inst i => i.val

/-- The offset of the register at address a in the view it is reached through (R475). -/
def viewOff (a : Nat) : Nat := if a < 2 ^ 32 then a else (a - 2 ^ 32) % 2 ^ 20

/-- A write refused by a field rule: discarded and reported as an access fault (R11). -/
def Block.refuse (b : Block) (w : Writer) (a : Nat) : Block := b.accessFault (writerCode w) 1 true (viewOff a)

/-! ## Latched words (R14, R369) -/

/-- The word latched for requester `req` at register a. -/
def Block.latched (b : Block) (req a : Nat) : Nat := SMap.get 0 b.latch (a * 512 + req)
def Block.setLatch (b : Block) (req a v : Nat) : Block := { b with latch := SMap.set 0 b.latch (a * 512 + req) v }
/-- Words answered to a read. -/
def Block.answer (b : Block) (req : Nat) (l : List Nat) : Block := b.emit (.readData req l)

/-! ## Register writes by access code (R15, R521, R522) -/

/-- What a write of v leaves in one field, and whether it broke the lock of an RWL field. -/
def Fld.write (f : Fld) (unlocked : Bool) (old v : Nat) : Nat × Bool :=
  let bf : Bf := ⟨f.hi, f.lo⟩
  match f.acc with
  | .rw => (bf.put old (bf.of v), false)
  | .rwl => if unlocked then (bf.put old (bf.of v), false) else (old, bf.of v != bf.of old)
  | .w1c => (bf.put old (bf.of old &&& (2 ^ (f.hi + 1 - f.lo) - 1 - bf.of v)), false)
  | .ro | .rc | .wo => (old, false)

def writeFields (unlocked : Bool) (v : Nat) : List Fld → Nat → Nat × Bool
  | [], old => (old, false)
  | f :: fs, old =>
    let r := f.write unlocked old v
    let t := writeFields unlocked v fs r.1
    (t.1, r.2 || t.2)

/-- Writes v to the register at address a, field by field. RWL fields are open to the boot sequencer, and to everyone
until the lock (R16); after it, a write that gives one another value is an access fault (R522). -/
def Block.storeReg (b : Block) (w : Writer) (a v : Nat) : Block :=
  match findReg a with
  | some h =>
    if h.desc.wide then b
    else
      let r := writeFields (w == .boot || !b.locked) v h.desc.flds (b.word a)
      let b1 := b.setWord a r.1
      if r.2 then b1.refuse w a else b1
  | none => b.refuse w a

/-! ## Interrupts of instance 0 (R400, Table 13-8) -/

/-- Whether any register entry that is listed and satisfies `p` holds one of the bits of m. -/
def Block.anySet (b : Block) (p : Nat → Bool) (m : Nat) : Bool := b.regs.any (fun e => p e.1 && e.2.toNat &&& m != 0)

/-- a is register number `off` of a MAC, PRT or INS block. -/
def isMacReg (off a : Nat) : Bool :=
  0x1000000 ≤ a && a < 0x2000000 && (a - 0x1000000) % 0x200000 ≥ 0x100000 && (a - 0x1000000) % 0x1000 == off
def isPrtReg (off a : Nat) : Bool :=
  match decodeAddr a with
  | some (.prt, _, o) => o == off
  | _ => false
def isInsReg (off a : Nat) : Bool := 0x200000 ≤ a && a < 0x300000 && a % 0x1000 == off

/-- Whether a source of cause n is set (Table 13-8). -/
def Block.causeSet (b : Block) (n : Nat) : Bool :=
  match n with
  | 0 => (List.range 4).any fun d => b.flag (R.TBL_CMD_STATUS d) F.TBL_CMD_STATUS_DONE
  | 1 => (List.range 4).any fun d => b.flag (R.TBL_FENCE_STATUS d) F.TBL_FENCE_STATUS_DONE_SEEN
  | 2 => b.anySet (isMacReg 0x18) 7
  | 3 => (List.range 4).any fun d => b.flag (R.DIE_SAG_STATUS d) F.DIE_SAG_STATUS_WARN_SEEN
  | 4 => b.anySet (isPrtReg 0x81C) (2 ^ 25)
  | 5 => b.flag (R.TIM_BASE_STATUS 0) F.TIM_BASE_STATUS_STEPPED_SEEN
      || b.flag (R.TIM_BASE_STATUS 1) F.TIM_BASE_STATUS_STEPPED_SEEN
  | 6 => b.flag R.FLT_STATUS F.FLT_STATUS_INT_PENDING
  | 7 => (List.range 4).any fun d => b.word (R.HIF_GLN_TAIL d) != b.word (R.HIF_GLN_HEAD d)
  | 8 => b.anySet (isInsReg 0x380) 2
  | 9 => b.anySet (isInsReg 8) (2 ^ 30)
  | _ => false

/-- A cause is pending while one of its sources is set and its mask bit is 1. -/
def Block.causePending (b : Block) (n : Nat) : Bool :=
  bitOf (b.word R.HIF_INT0_MASK) n && b.causeSet n

def Block.inst (b : Block) (i : Nat) : Inst := SMap.get {} b.insts i
def Block.modInst (b : Block) (i : Nat) (f : Inst → Inst) : Block := { b with insts := SMap.mod {} b.insts i f }

/-- Vector Control of a vector in the MSI-X table of instance i. -/
def vectorCtl (i vec : Nat) : Nat := layBase i + 0xC0000 + 16 * vec + 12
/-- Whether Vector Control masks a vector: as PCIe has it, until software unmasks it. The word is held inverted in bit 0. -/
def Block.vecMasked (b : Block) (i vec : Nat) : Bool := !bitOf (SMap.get 0 b.regs (vectorCtl i vec)).toNat 0
/-- Whether a message of a vector may go out now (R374, R399): its function's MSI-X is enabled and neither it nor the vector is masked. -/
def Block.msixOpen (b : Block) (i vec : Nat) : Bool :=
  (b.inst i).msixEn && !(b.inst i).msixMask && !(b.inst i).d3hot && !b.vecMasked i vec

/-- Sends an MSI-X message of a function (R399, R400), which PMC event HIF 0x05 counts; one that is masked stays pending, and with MSI-X
disabled there is none (PCIe, assumption 26). -/
def Block.msix (b : Block) (i vec : Nat) : Block :=
  if b.msixOpen i vec then (b.emit (.msix i vec)).pmc .hif 0x05 i 1
  else if (b.inst i).msixEn then b.modInst i fun x => { x with msixPend := x.msixPend ||| 2 ^ vec }
  else b

/-- The messages of function i that are pending and masked no longer go out. -/
def Block.msixFlush (b : Block) (i : Nat) : Block :=
  ((List.range 128).filter fun v => bitOf (b.inst i).msixPend v && b.msixOpen i v).foldl (fun b v =>
    (b.modInst i fun x => { x with msixPend := x.msixPend - 2 ^ v }).msix i v) b

def Block.sendCause (b : Block) (n : Nat) : Block :=
  b.msix 0 (b.fld (R.HIF_INT0_VEC n) F.HIF_INT0_VEC_V)

/-- Carries out a change that can set a source of cause n, and sends the cause's message when it becomes pending. -/
def Block.raising (b : Block) (n : Nat) (f : Block → Block) : Block :=
  let b1 := f b
  if !b.causePending n && b1.causePending n then b1.sendCause n else b1

/-! ## Trace records (R511) -/

/-- The n little-endian bytes of v (R8). -/
def leBytes : Nat → Nat → List Byte
  | 0, _ => []
  | n + 1, v => BitVec.ofNat 8 v :: leBytes n (v / 256)
/-- The number that little-endian bytes hold. -/
def leVal : List Byte → Nat
  | [] => 0
  | x :: xs => x.toNat + 256 * leVal xs
/-- The n big-endian bytes of v, as a protocol header carries them (R9). -/
def beBytes (n v : Nat) : List Byte := (leBytes n v).reverse
def beVal (l : List Byte) : Nat := leVal l.reverse
def zeros (n : Nat) : List Byte := List.replicate n 0

/-- A source hands a record to the trace; TRACE_RECORD_WRITE filters and writes it. -/
def Block.trace (b : Block) (r : TraceRec) : Block :=
  { b with records := b.records ++ [{ r with stamp := b.stampNow }] }

/-- A LEVEL record (Table 17-8): event, level, die (0xFF package), rail voltage, margin. -/
def Block.traceLevel (b : Block) (event level die mv margin : Nat) : Block :=
  b.trace { typ := 3, die := if die == 0xFF then 0 else die,
            body := leBytes 1 event ++ leBytes 1 level ++ leBytes 1 die ++ zeros 1 ++ leBytes 2 mv ++ leBytes 2 margin
                    ++ zeros 8 }

/-! ## The Shaix link -/

def Block.pairRole (b : Block) : Nat := b.fld R.PAIR_STATUS F.PAIR_STATUS_ROLE
def Block.mirroring (b : Block) : Bool := b.flag R.PAIR_STATUS F.PAIR_STATUS_MIRRORING

/-- Sends a message on the Shaix link (R464, R465): none with role none or while the link is down. -/
def Block.shaix (b : Block) (typ : Nat) (body : List Byte) : Block :=
  if b.pairRole == 0 || !b.flag R.PAIR_STATUS F.PAIR_STATUS_LINK_UP then b
  else (b.emit (.shaix typ (beBytes 1 typ ++ zeros 1 ++ beBytes 2 body.length ++ body))).pmc .pkg 0x03 typ 1

/-! ## Identifiers (R17, Table 0-4) -/

def dieOfPort (p : Nat) : Nat := p / 64
def rgnOfPort (p : Nat) : Nat := p / 32
def clsOfPort (p : Nat) : Nat := p / 8
def localPort (p : Nat) : Nat := p % 32

/-- The frames of a queue that are in Silo alone: neither void nor in the course of being copied on-die. -/
def Queue.inSilo (q : Queue) : List SiloFrame :=
  (if q.copying.isSome then q.silo.drop 1 else q.silo).filter fun s => !s.void

/-- Runs f over 0 … n-1 in order. -/
def Block.each (b : Block) (n : Nat) (f : Block → Nat → Block) : Block := (List.range n).foldl f b

end Sys2Proof.Machine
end

