-- ==== Sys2Proof/Machine/Aes.lean ====
section
/-!
DEFINITION. Machine/Aes.lean: the decryption that R426 names: AES-256-GCM (assumption 2). The substitution table and the round constants
are computed as the standard defines them.
-/
namespace Sys2Proof.Machine
open Sys2Proof

/-! ## The field of 256 elements, and the substitution -/

/-- An element times x, modulo x^8 + x^4 + x^3 + x + 1. -/
def byteDouble (a : Nat) : Nat := if a < 128 then 2 * a else (2 * a - 256) ^^^ 0x1B
/-- The product of a and b, by the n low bits of b. -/
def byteTimes (a b : Nat) : Nat → Nat
  | 0 => 0
  | n + 1 => (if b % 2 == 1 then a else 0) ^^^ byteTimes (byteDouble a) (b / 2) n
/-- a to the power 2^n - 2: its inverse for n = 8, and 0 for 0. -/
def byteInverse (a : Nat) : Nat → Nat
  | 0 => 1
  | 1 => 1
  | n + 2 => let r := byteTimes (byteInverse a (n + 1)) a 8; byteTimes r r 8

/-- The substitution of one byte: the inverse, and the bit-wise map of the standard. -/
def aesSub (a : Nat) : Nat :=
  let i := byteInverse a 8
  (List.range 5).foldl (fun v k => v ^^^ (i * 2 ^ k % 256 + i * 2 ^ k / 256)) 0x63

/-- The substitution of every byte. -/
def aesBox : List Nat := (List.range 256).map aesSub

/-! ## AES-256 -/

/-- The next word of the key schedule: words are lists of four bytes, newest first; `rest` more are to come; `rcon` is the next round
constant. -/
def aesSchedule : Nat → Nat → List (List Nat) → List (List Nat)
  | 0, _, ws => ws.reverse
  | rest + 1, rcon, ws =>
    let last := ws.getD 0 []
    let turn := ws.length % 8 == 0
    let sub := last.map fun a => aesBox.getD a 0
    let w := if turn then List.zipWith (· ^^^ ·) (sub.drop 1 ++ sub.take 1) [rcon, 0, 0, 0]
      else if ws.length % 8 == 4 then sub else last
    aesSchedule rest (if turn then byteDouble rcon else rcon) (List.zipWith (· ^^^ ·) (ws.getD 7 []) w :: ws)

/-- The round keys of a key of 32 bytes: 15 of 16 bytes, one after another. -/
def aesKeys (key : List Byte) : List Nat :=
  let k := key.map fun x => x.toNat
  (aesSchedule 52 1 ((List.range 8).map fun i => (k.drop (4 * i)).take 4).reverse).flatten

/-- One column of the state through the mixing of columns. -/
def aesMix (c : List Nat) : List Nat :=
  (List.range 4).map fun i =>
    let a (k : Nat) := c.getD ((i + k) % 4) 0
    byteDouble (a 0) ^^^ (byteDouble (a 1) ^^^ a 1) ^^^ a 2 ^^^ a 3

/-- Round r of 14 with the round keys ks: the bytes are substituted and the rows shifted, in all rounds but the last the columns mixed,
and the round key added. -/
def aesRound (ks : List Nat) (s : List Nat) (r : Nat) : List Nat :=
  let t := (List.range 16).map fun i => aesBox.getD (s.getD ((i + 4 * (i % 4)) % 16) 0) 0
  let m := if r == 14 then t else (List.range 4).flatMap fun c => aesMix ((t.drop (4 * c)).take 4)
  List.zipWith (· ^^^ ·) m (ks.drop (16 * r))

/-- A block of 16 bytes, encrypted with the round keys ks. -/
def aesBlock (ks : List Nat) (x : List Byte) : List Byte :=
  let s := List.zipWith (· ^^^ ·) (x.map fun a => a.toNat) ks
  (((List.range 14).map (· + 1)).foldl (aesRound ks) s).map fun a => BitVec.ofNat 8 a

/-! ## Galois/Counter mode -/

/-- The product of two blocks as elements of the field of 2^128, the first bit of a block its coefficient of 1; by the n last bits of x,
whose first one comes first. -/
def blockTimes (x v : Nat) : Nat → Nat
  | 0 => 0
  | n + 1 => (if x / 2 ^ n % 2 == 1 then v else 0) ^^^ blockTimes x (if v % 2 == 1 then (v / 2) ^^^ (0xE1 * 2 ^ 120) else v / 2) n

/-- Bytes filled up with zeros to whole blocks, as numbers. -/
def blocksOf (l : List Byte) : List Nat := (List.range ((l.length + 15) / 16)).map fun i =>
  let x := (l.drop (16 * i)).take 16
  beVal (x ++ zeros (16 - x.length))

/-- The hash of blocks under the hash key h. -/
def blockHash (h : Nat) (xs : List Nat) : Nat := xs.foldl (fun y x => blockTimes (y ^^^ x) h 128) 0

/-- AES-256-GCM decryption under a key of 32 bytes and a nonce of 12, with the additional authenticated data: the plaintext, or none where
the tag of 16 bytes does not check (R426). -/
def aesGcmOpen (key nonce aad text tag : List Byte) : Option (List Byte) :=
  let ks := aesKeys key
  let pad (n : Nat) : List Byte := aesBlock ks (nonce ++ beBytes 4 (n + 1))
  let h := beVal (aesBlock ks (zeros 16))
  let sum := blockHash h (blocksOf aad ++ blocksOf text ++ [8 * aad.length * 2 ^ 64 + 8 * text.length])
  if beBytes 16 (sum ^^^ beVal (pad 0)) != tag then none
  else some (List.zipWith (· ^^^ ·) text ((List.range ((text.length + 15) / 16)).flatMap fun i => pad (i + 1)))

end Sys2Proof.Machine
end

