-- ==== Sys2Proof/Machine/Operands.lean ====
section
/-!
DEFINITION. Machine/Operands.lean: the operand forms the commands read: bytes and fields of frames, check sums and
CRCs, words of vectors, and the arithmetic of token buckets.
-/
namespace Sys2Proof.Machine
open Sys2Proof

/-! ## Bytes of a frame (R9) -/

/-- Byte i of a frame; 0 past its end. -/
def byteAt (l : List Byte) (i : Nat) : Nat := (l.getD i 0).toNat
/-- The k bytes from position i as a number, first byte most significant. -/
def beAt (l : List Byte) (i : Nat) : Nat → Nat
  | 0 => 0
  | k + 1 => byteAt l i * 256 ^ k + beAt l (i + 1) k
/-- The bytes i … j-1. -/
def slice (l : List Byte) (i j : Nat) : List Byte := (l.drop i).take (j - i)
/-- l with the bytes x written from position i on. -/
def patch (l : List Byte) (i : Nat) (x : List Byte) : List Byte := l.take i ++ x ++ l.drop (i + x.length)

/-! ## Check sums -/

/-- One step of a reflected CRC of width n with polynomial `poly`. -/
def crcBit (poly c : Nat) : Nat := if c % 2 == 1 then (c / 2) ^^^ poly else c / 2
def crcByte (poly c : Nat) (x : Byte) : Nat :=
  let c0 := c ^^^ x.toNat
  crcBit poly (crcBit poly (crcBit poly (crcBit poly (crcBit poly (crcBit poly (crcBit poly (crcBit poly c0)))))))
def crcRun (poly : Nat) : List Byte → Nat → Nat
  | [], c => c
  | x :: xs, c => crcRun poly xs (crcByte poly c x)
/-- CRC-32 with the IEEE 802.3 FCS polynomial. -/
def crc32 (l : List Byte) : Nat := crcRun 0xEDB88320 l 0xFFFFFFFF ^^^ 0xFFFFFFFF
/-- The four FCS bytes of a frame, in the order they go on the wire. -/
def fcsOf (l : List Byte) : List Byte := leBytes 4 (crc32 l)
/-- The stomped FCS: the bitwise inverse of the correct one (R108). -/
def stompOf (l : List Byte) : List Byte := leBytes 4 (crc32 l ^^^ 0xFFFFFFFF)
/-- Whether the last four bytes are the FCS of the rest. -/
def fcsOk (l : List Byte) : Bool := l.drop (l.length - 4) == fcsOf (l.take (l.length - 4))

/-- The 16-bit words of a byte string added up, an odd last byte padded with zero. -/
def sum16 : List Byte → Nat
  | [] => 0
  | [x] => x.toNat * 256
  | x :: y :: r => x.toNat * 256 + y.toNat + sum16 r
/-- End-around carry into 16 bits. -/
def fold16 (n : Nat) : Nat := if n == 0 then 0 else let r := n % 65535; if r == 0 then 65535 else r
/-- The one's-complement sum of a byte string. -/
def csum16 (l : List Byte) : Nat := fold16 (sum16 l)
/-- One's-complement negation. -/
def inv16 (n : Nat) : Nat := 65535 - n % 65536

/-! ## Words of vectors and records -/

/-- A vector of 32-bit words by index (header vector, carry, descriptor, key words). -/
abbrev Vec := SMap Nat
def Vec.w (v : Vec) (i : Nat) : Nat := SMap.get 0 v i
def Vec.f (v : Vec) (i : Nat) (f : Bf) : Nat := f.of (v.w i)
def Vec.set (v : Vec) (i x : Nat) : Vec := SMap.set 0 v i (x % 2 ^ 32)
def Vec.put (v : Vec) (i : Nat) (f : Bf) (x : Nat) : Vec := v.set i (f.put (v.w i) x)
/-- Writes the big-endian words of a byte string from word i on. -/
def Vec.putBytes (v : Vec) (i : Nat) (l : List Byte) (n : Nat) : Vec :=
  (List.range n).foldl (fun v k => v.set (i + k) (beAt l (4 * k) 4)) v
/-- Words 0 … n-1 as a list. -/
def Vec.toList (v : Vec) (n : Nat) : List Nat := (List.range n).map v.w
/-- The first n words as bytes, little-endian (R8). -/
def vecBytes (v : Vec) (n : Nat) : List Byte := (v.toList n).flatMap (leBytes 4)
/-- A list of words as a vector. -/
def Vec.ofList (l : List Nat) : Vec := ((List.range l.length).map fun i => (i, l.getD i 0 % 2 ^ 32)).filter fun e => e.2 != 0

/-! ## Token buckets of the host limiters (R139) -/

/-- The bucket at `now` µs with RATE × 1,000 tokens per second. -/
def Bucket.refill (k : Bucket) (rate now : Nat) : Bucket := ⟨k.missing - rate * (now - k.at_), now⟩
/-- A frame passes when at least one token is there, and takes it; none: the bucket is empty. -/
def Bucket.take (k : Bucket) (rate burst now : Nat) : Option Bucket :=
  let r := k.refill rate now
  if r.missing + 1000 ≤ burst * 1000 then some ⟨r.missing + 1000, now⟩ else none

def xorAll (l : List Nat) : Nat := l.foldl (· ^^^ ·) 0

end Sys2Proof.Machine
end

