-- ==== Sys2Proof/Machine/Microword.lean ====
section
/-!
DEFINITION. Machine/Microword.lean: the control-store word, its fields, its encoding and its decoding (Table 5-2), the
instruction it stands for (Tables 5-3, 5-4), and the load rule (R164).
-/
namespace Sys2Proof.Machine
open Sys2Proof

/-- The fields of a control-store word (Table 5-2), highest bits first. -/
structure Micro where
  cls : BitVec 4
  op : BitVec 4
  rel : BitVec 1
  offset : BitVec 9
  bitoff : BitVec 3
  width : BitVec 5
  value : BitVec 32
  mask : BitVec 32
  t0 : BitVec 12
  t1 : BitVec 12
  hvwEn : BitVec 1
  hvwWord : BitVec 6
  hvwLsb : BitVec 5
  hvwLen : BitVec 5
  hvwSrc : BitVec 2
  dst : BitVec 3
  aux : BitVec 8
  rsv : BitVec 48
deriving DecidableEq, Repr

/-- Reads the fields of a 192-bit word. -/
def Micro.decode (w : BitVec 192) : Micro where
  cls := w.extractLsb' 188 4
  op := w.extractLsb' 184 4
  rel := w.extractLsb' 183 1
  offset := w.extractLsb' 174 9
  bitoff := w.extractLsb' 171 3
  width := w.extractLsb' 166 5
  value := w.extractLsb' 134 32
  mask := w.extractLsb' 102 32
  t0 := w.extractLsb' 90 12
  t1 := w.extractLsb' 78 12
  hvwEn := w.extractLsb' 77 1
  hvwWord := w.extractLsb' 71 6
  hvwLsb := w.extractLsb' 66 5
  hvwLen := w.extractLsb' 61 5
  hvwSrc := w.extractLsb' 59 2
  dst := w.extractLsb' 56 3
  aux := w.extractLsb' 48 8
  rsv := w.extractLsb' 0 48

/-- Lays the fields out in a 192-bit word. -/
def Micro.encode (m : Micro) : BitVec 192 :=
  m.cls ++ m.op ++ m.rel ++ m.offset ++ m.bitoff ++ m.width ++ m.value ++ m.mask ++ m.t0 ++ m.t1 ++ m.hvwEn
    ++ m.hvwWord ++ m.hvwLsb ++ m.hvwLen ++ m.hvwSrc ++ m.dst ++ m.aux ++ m.rsv

/-- The instructions of Table 5-4, one for each class and variant, and the illegal word. -/
inductive MicroOp where
  | extEq | extLt | add | sub | and | or | xor | shl | shr | move | adv | dispatch
  | branch | branchOvr | branchEq | branchLt | csum | csumContinue | check | end_ | endMal | fail | failWindow | illegal
deriving DecidableEq, Repr

/-- The instruction of a word: a CLASS or OP that Table 5-4 does not list, or an illegal DST or AUX, is an illegal word. -/
def Micro.kind (m : Micro) : MicroOp :=
  let dstOk := m.dst.toNat ≤ 3
  let alu (o : MicroOp) : MicroOp := if dstOk && m.aux.toNat % 8 ≤ 3 then o else .illegal
  match m.cls.toNat, m.op.toNat with
  | 1, 0 => if dstOk then .extEq else .illegal
  | 1, 1 => if dstOk then .extLt else .illegal
  | 2, 0 => alu .add
  | 2, 1 => alu .sub
  | 2, 2 => alu .and
  | 2, 3 => alu .or
  | 2, 4 => alu .xor
  | 2, 5 => alu .shl
  | 2, 6 => alu .shr
  | 2, 7 => alu .move
  | 3, 0 => .adv
  | 4, 0 => .dispatch
  | 5, 0 => .branch
  | 5, 1 => .branchOvr
  | 5, 2 => .branchEq
  | 5, 3 => .branchLt
  | 6, 0 => .csum
  | 6, 1 => .csumContinue
  | 7, 0 => .check
  | 8, 0 => .end_
  | 8, 1 => if 1 ≤ m.aux.toNat % 16 && m.aux.toNat % 16 ≤ 10 then .endMal else .illegal
  | 9, 0 => .fail
  | 9, 1 => .failWindow
  | _, _ => .illegal

/-! ## The load rule (R164) -/

/-- The words a word can go on to; none for CHECK's own safe point is handled by the rule. -/
def Micro.targets (m : Micro) : List Nat :=
  match m.kind with
  | .extEq | .extLt | .add | .sub | .and | .or | .xor | .shl | .shr | .move | .adv | .branchOvr | .branchEq | .branchLt
  | .csum | .csumContinue => [m.t0.toNat, m.t1.toNat]
  | .branch | .check => [m.t0.toNat]
  | .dispatch => (List.range 16).map fun i => (m.t0.toNat + i) % 4096
  | .end_ | .endMal | .fail | .failWindow | .illegal => []

/-- Whether a path of executed words passes this word without meeting a safe point or ending. -/
def Micro.plain (m : Micro) : Bool :=
  match m.kind with
  | .check | .end_ | .endMal | .fail | .failWindow | .illegal => false
  | _ => true

/-- The addresses from which a path of n plain words exists: n = 0 gives all. -/
def longPaths (word : Nat → Micro) (addrs : List Nat) : Nat → List Nat
  | 0 => addrs
  | n + 1 =>
    let prev := longPaths word addrs n
    addrs.filter fun a => (word a).plain && (n == 0 || (word a).targets.any fun t => prev.contains t)

/-- R164: the first word of a path of 64 executed words with no CHECK, END or FAIL; none: the store is accepted. Only
the listed words can be plain, since the fill word is illegal. -/
def loadRule (store : SMap Nat) : Option Nat :=
  let word (a : Nat) : Micro := Micro.decode (BitVec.ofNat 192 (SMap.get 0 store a))
  (longPaths word (store.map (·.1)) 64).head?

end Sys2Proof.Machine
end

