-- ==== Sys2Proof/Machine/HostPath.lean ====
section
/-!
DEFINITION. Machine/HostPath.lean: the way of a frame into slow-path staging (spec/13, R392 to R394), shared by the
parse stage, the lookup stages, the egress stages and the sampler.
-/
namespace Sys2Proof.Machine
open Sys2Proof

/-- The instance that owns a global receive ring (R381): the one whose RX_RANGE holds it; instance 0 gives way to the
virtual functions. -/
def inRange (v ring : Nat) : Bool := v % 2 ^ 13 ≤ ring && ring < v % 2 ^ 13 + v / 2 ^ 16 % 2 ^ 14
def ownerIn (b : Block) (range : Nat → Nat) (ring : Nat) : List Nat → Option Nat
  | [] => none
  | i :: is => if inRange (b.word (range i)) ring then some i else ownerIn b range ring is
def Block.rxOwner (b : Block) (ring : Nat) : Option Nat :=
  ownerIn b R.INS_RX_RANGE ring ((List.range 255).map (· + 1) ++ [0])
def Block.txOwner (b : Block) (ring : Nat) : Option Nat :=
  ownerIn b R.INS_TX_RANGE ring ((List.range 255).map (· + 1) ++ [0])

def Block.resetting (b : Block) (i : Nat) : Bool := b.flag (R.INS_INS_STATUS i) F.INS_INS_STATUS_RESETTING

/-- 256-byte cells that n bytes take in staging. -/
def hostCells (n : Nat) : Nat := (n + 255) / 256
/-- The free cells of slow-path staging, of 32,768 (HIF.STG_FREE). -/
def Block.stgFree (b : Block) : Nat := 32768 - (b.slow.map fun h => hostCells h.bytes.length).sum

/-- A frame with its ring known: dropped where the ring is disabled, has no owner (R385) or its instance is resetting (R392), or where too
few cells are free (R394); else it enters staging. -/
def Block.stageHost (b : Block) (h : HostFrame) : Block :=
  let resetting := match b.rxOwner h.ring with | some i => b.resetting i | none => false
  if resetting then
    match b.rxOwner h.ring with
    | some i => b.count (R.INS_RX_RESET_DROP i) 1
    | none => b
  else if !b.flag (R.HIF_RXR_CFG h.ring) F.HIF_RXR_CFG_ENABLE || (b.rxOwner h.ring).isNone then b.count R.HIF_RING_DISABLED_DROP 1
  else if hostCells h.bytes.length > b.stgFree then (b.count R.HIF_STG_FULL_DROP 1).sendOncePerMs 4 0xFFF 0x5B 0
  else { b with slow := b.slow ++ [h] }.pmc .hif 0x07 0xFFF (hostCells h.bytes.length)

/-- A frame bound for the host by source kind and code (Table 13-9): its ring is RX_MAP[kind][code].RING + (IN_PORT mod
2^SPREAD). -/
def Block.toHost (b : Block) (h : HostFrame) : Block :=
  let m := R.HIF_RX_MAP h.kind h.code
  let ring := b.fld m F.HIF_RX_MAP_RING + h.inPort % 2 ^ b.fld m F.HIF_RX_MAP_SPREAD
  if !b.flag m F.HIF_RX_MAP_EN || ring > 8191 then b.count R.HIF_RX_UNMAPPED 1
  else b.stageHost { h with ring := ring }

end Sys2Proof.Machine
end

