-- ==== Sys2Proof/Machine/Ports.lean ====
section
/-!
DEFINITION. Machine/Ports.lean: reception into staging, pause and PFC in both directions, the pause watchdog, bring-up,
maintenance states and preemption verification (spec/03, R79 to R121; staging R67 to R70).
-/
namespace Sys2Proof.Machine
open Sys2Proof

/-! ## Frames by place -/

def Block.frame (b : Block) (i : Nat) : Frame := SMap.get {} b.frames i
def Block.modFrame (b : Block) (i : Nat) (f : Frame → Frame) : Block :=
  { b with frames := SMap.mod {} b.frames i f }
def Block.dropFrame (b : Block) (i : Nat) : Block := { b with frames := SMap.del b.frames i }
def Block.addFrame (b : Block) (f : Frame) : Block :=
  { b with frames := SMap.put b.frames b.nextFrame f, nextFrame := b.nextFrame + 1 }
/-- The frames that satisfy p, oldest first, with their numbers. -/
def Block.framesOf (b : Block) (p : Frame → Bool) : List (Nat × Frame) := b.frames.filter fun e => p e.2

/-- The frames of port p at a place, oldest first. -/
def Block.at_ (b : Block) (p : Nat) (l : Loc) : List (Nat × Frame) := b.framesOf fun f => f.port == p && f.loc == l
/-- The fill of port p's staging FIFO in bytes (R67, R68): it holds whole frames. -/
def Block.stgFill (b : Block) (p : Nat) : Nat := ((b.at_ p .staging).map fun e => e.2.bytes.length).sum

/-! ## Staging XOFF (R67) -/

def Block.macFld (b : Block) (p : Nat) (a : Nat → Nat) (f : Bf) : Nat := b.fld (a p) f

/-- The priorities that staging requests XOFF for: those of PFC_PRI in PFC mode, all in 802.3x mode; 0 where the mode is
drop or the pause type is disabled on the port (R67, R101). -/
def Block.stgMask (b : Block) (p : Nat) : Nat :=
  let tx := b.fld (R.MAC_PAUSE_CFG p) F.MAC_PAUSE_CFG_TX_MODE
  match b.fld (R.MAC_STG_CFG p) F.MAC_STG_CFG_MODE with
  | 1 => if tx == 1 then 0xFF else 0
  | 2 => if tx == 2 then
      b.fld (R.MAC_STG_CFG p) F.MAC_STG_CFG_PFC_PRI &&& b.fld (R.MAC_PAUSE_CFG p) F.MAC_PAUSE_CFG_PFC_TX_EN
    else 0
  | _ => 0

/-- After a change of the fill from `before`: a crossing of XOFF counts and requests XOFF; below XON the request ends
(R67). DESIGN CHOICE (assumption 113): a write of STG_CFG that moves a threshold across the fill acts at the next change of the fill. -/
def Block.stgWatch (b : Block) (p before : Nat) : Block :=
  let fill := b.stgFill p
  let xoff := b.fld (R.MAC_STG_CFG p) F.MAC_STG_CFG_XOFF * 1024
  let xon := b.fld (R.MAC_STG_CFG p) F.MAC_STG_CFG_XON * 1024
  let b := if before < xoff ∧ fill ≥ xoff then
      (b.count (R.MAC_STG_XOFF_EVENTS p) 1).modPort p fun x => { x with stgHigh := true }
    else b
  if fill < xon then b.modPort p fun x => { x with stgHigh := false } else b

/-! ## Received pause (R97, R104) -/

/-- A quantum is 512 bit times: 0.64, 1.28 or 2.56 ns by SPEED; in hundredths of a ns. -/
def Block.quantum (b : Block) (p : Nat) : Nat :=
  match b.fld (R.MAC_PORT_CFG p) F.MAC_PORT_CFG_SPEED with
  | 0 => 64 | 1 => 128 | _ => 256

def Block.paused (b : Block) (p pri : Nat) : Bool := bitOf (b.fld (R.MAC_PAUSE_STATUS p) F.MAC_PAUSE_STATUS_RX_PAUSED) pri
def Block.broken (b : Block) (p pri : Nat) : Bool := bitOf (b.fld (R.PRT_PAUSE_WDOG_STATUS p) F.PRT_PAUSE_WDOG_STATUS_BROKEN) pri

/-- A priority's timer is set to 0: it is unpaused. -/
def Block.unpause (b : Block) (p pri : Nat) : Block :=
  (b.andNotFld (R.MAC_PAUSE_STATUS p) F.MAC_PAUSE_STATUS_RX_PAUSED (2 ^ pri)).modPort p fun x =>
    { x with quanta := SMap.del x.quanta pri, loadedAt := SMap.del x.loadedAt pri, since := SMap.del x.since pri }

/-- One priority takes a pause time of q quanta. Broken: not acted on; a time of 0 releases it (R104). Otherwise 0
resumes, and a time loads the timer; the watchdog measures from the passage to paused (R103). -/
def Block.loadPause (b : Block) (p q pri : Nat) : Block :=
  let load (x : Port) : Port :=
    { x with quanta := SMap.set 0 x.quanta pri q, loadedAt := SMap.put x.loadedAt pri b.ticks }
  if b.broken p pri then
    if q == 0 then
      (b.andNotFld (R.PRT_PAUSE_WDOG_STATUS p) F.PRT_PAUSE_WDOG_STATUS_BROKEN (2 ^ pri)).unpause p pri
    else b.modPort p load
  else if q == 0 then (if b.paused p pri then b.unpause p pri else b)
  else
    let was := b.paused p pri
    let b := b.orFld (R.MAC_PAUSE_STATUS p) F.MAC_PAUSE_STATUS_RX_PAUSED (2 ^ pri)
    b.modPort p fun x => let y := load x; if was then y else { y with since := SMap.put y.since pri b.ticks }

/-- Whether the receive MAC of port p works: its link is up and its die not held (R91). -/
def Block.receives (b : Block) (p : Nat) : Bool :=
  b.flag (R.MAC_LINK_STATUS p) F.MAC_LINK_STATUS_LINK_UP && !b.frozen (dieOfPort p)

/-- In near-end loopback the receive lands are ignored (R116). -/
def Block.landsOff (b : Block) (p : Nat) : Bool := b.fld (R.MAC_PORT_STATE p) F.MAC_PORT_STATE_LB_MODE == 1

/-- PAUSE_FRAME_RECEIVE (R94, R97): an error-free 802.3x pause frame with time q; discarded where RX_MODE is not 802.3x. -/
def Block.pauseReceive (p q : Nat) (b : Block) : Block :=
  if !b.receives p then b
  else if b.fld (R.MAC_PAUSE_CFG p) F.MAC_PAUSE_CFG_RX_MODE == 1 then
    (b.count (R.MAC_RX_PAUSE_FRAMES p) 1).each 8 fun b pri => b.loadPause p q pri
  else b.count (R.MAC_RX_CTRL_DISCARD p) 1

/-- PFC_FRAME_RECEIVE (R97): the priorities whose bit is set in the frame's vector and in PFC_RX_EN take their times. -/
def Block.pfcReceive (p vec : Nat) (times : List Nat) (b : Block) : Block :=
  if !b.receives p then b
  else if b.fld (R.MAC_PAUSE_CFG p) F.MAC_PAUSE_CFG_RX_MODE == 2 then
    let en := vec &&& b.fld (R.MAC_PAUSE_CFG p) F.MAC_PAUSE_CFG_PFC_RX_EN
    (b.count (R.MAC_RX_PFC_FRAMES p) 1).each 8 fun b pri =>
      if bitOf en pri then b.loadPause p (times.getD pri 0) pri else b
  else b.count (R.MAC_RX_CTRL_DISCARD p) 1

/-- Whether the timer of a priority, loaded with its quanta, has run down to 0 at the port's speed. -/
def Block.timerOut (b : Block) (p pri : Nat) : Bool :=
  match SMap.find (b.port p).quanta pri, SMap.find (b.port p).loadedAt pri with
  | some q, some t => q * b.quantum p ≤ (b.ticks - t) * 100
  | _, _ => false

/-- PAUSE_TIMER_EXPIRE (R97, R104): the timer reaches 0; the priority is unpaused, and a broken one whose partner has
sent no pause for longer than its last time is no longer broken. -/
def Block.pauseTimerExpire (p pri : Nat) (b : Block) : Block :=
  if !b.timerOut p pri then b
  else (b.andNotFld (R.PRT_PAUSE_WDOG_STATUS p) F.PRT_PAUSE_WDOG_STATUS_BROKEN (2 ^ pri)).unpause p pri

/-! ## Pause watchdog (R103 to R105) -/

/-- Breaks the priorities of the mask: BROKEN and BREAK_SEEN, the count, the message; they are unpaused, and their
timers run on only to see the partner's release. DESIGN CHOICE (assumption 115): a break of all eight priorities together counts
PAUSE_WDOG_BREAKS once. -/
def Block.breakPause (b : Block) (p mask : Nat) : Block :=
  let b := b.orFld (R.PRT_PAUSE_WDOG_STATUS p) F.PRT_PAUSE_WDOG_STATUS_BROKEN mask
  let b := b.orFld (R.PRT_PAUSE_WDOG_STATUS p) F.PRT_PAUSE_WDOG_STATUS_BREAK_SEEN mask
  let b := b.andNotFld (R.MAC_PAUSE_STATUS p) F.MAC_PAUSE_STATUS_RX_PAUSED mask
  let b := b.modPort p fun x => { x with since := x.since.filter fun e => !bitOf mask e.1 }
  (b.count (R.PRT_PAUSE_WDOG_BREAKS p) 1).send 0xC p 0x1A 0

/-- Whether priority pri has been paused for at least TIME µs, with its watchdog active. Under 802.3x the watchdog uses
bit 0 of EN. -/
def Block.wdogDue (b : Block) (p pri : Nat) : Bool :=
  let time := b.fld (R.PRT_PAUSE_WDOG p) F.PRT_PAUSE_WDOG_TIME
  let x3 := b.fld (R.MAC_PAUSE_CFG p) F.MAC_PAUSE_CFG_RX_MODE == 1
  let en := bitOf (b.fld (R.PRT_PAUSE_WDOG p) F.PRT_PAUSE_WDOG_EN) (if x3 then 0 else pri)
  match SMap.find (b.port p).since pri with
  | some t => en && time != 0 && b.paused p pri && b.ticks - t ≥ time * 1000
  | none => false

/-- PAUSE_WDOG (R103): the watchdog reaches TIME for a paused priority; under 802.3x all eight break together. A timer that has run
down by this instant is a release, which goes first (R105). -/
def Block.pauseWdog (p pri : Nat) (b : Block) : Block :=
  let b := b.each 8 fun b k => b.pauseTimerExpire p k
  if !b.wdogDue p pri then b
  else b.breakPause p (if b.fld (R.MAC_PAUSE_CFG p) F.MAC_PAUSE_CFG_RX_MODE == 1 then 0xFF else 2 ^ pri)

/-- PAUSE_WDOG_WRITE (R105): the new TIME is compared with the time already elapsed. -/
def Block.pauseWdogWrite (w : Writer) (p v : Nat) (b : Block) : Block :=
  (b.storeReg w (R.PRT_PAUSE_WDOG p) v).each 8 fun b pri => b.pauseWdog p pri

/-! ## Sending pause (R100, R101) -/

/-- The priorities that some source requests XOFF for, as the port's TX_MODE lets them count. -/
def Block.xoffWanted (b : Block) (p : Nat) : Nat :=
  let x := b.port p
  let req := (if x.stgHigh then b.stgMask p else 0) ||| x.bufReq
  match b.fld (R.MAC_PAUSE_CFG p) F.MAC_PAUSE_CFG_TX_MODE with
  | 1 => if req == 0 then 0 else 0xFF
  | 2 => req &&& b.fld (R.MAC_PAUSE_CFG p) F.MAC_PAUSE_CFG_PFC_TX_EN
  | _ => 0

def Block.xoffNow (b : Block) (p : Nat) : Nat := b.fld (R.MAC_PAUSE_STATUS p) F.MAC_PAUSE_STATUS_TX_XOFF

/-- The source address of generated frames (Tables 3-11, 3-12). -/
def Block.ctrlSa (b : Block) (p : Nat) : List Byte :=
  beBytes 2 (b.fld (R.MAC_CTRL_SA_HI p) F.MAC_CTRL_SA_HI_SA_HI) ++ beBytes 4 (b.word (R.MAC_CTRL_SA_LO p))

/-- A generated pause or PFC frame with time q for the priorities of `on`, and 0 for those of `off`, padded to 64 bytes with its
FCS (R92, R100). -/
def Block.pauseFrame (b : Block) (p on off q : Nat) : List Byte :=
  let x3 := b.fld (R.MAC_PAUSE_CFG p) F.MAC_PAUSE_CFG_TX_MODE == 1
  let pay := if x3 then beBytes 2 0x0001 ++ beBytes 2 (if on == 0 then 0 else q)
    else beBytes 2 0x0101 ++ beBytes 2 (on ||| off) ++
      ((List.range 8).flatMap fun i => beBytes 2 (if bitOf on i then q else 0))
  let head := beBytes 6 0x0180C2000001 ++ b.ctrlSa p ++ beBytes 2 0x8808 ++ pay
  let body := head ++ zeros (60 - head.length)
  body ++ fcsOf body

/-- The priorities in XOFF whose last frame was queued REFRESH quanta ago (R100). -/
def Block.refreshDue (b : Block) (p : Nat) : Nat :=
  let now := b.xoffNow p
  let n := b.fld (R.MAC_PAUSE_TX_CFG p) F.MAC_PAUSE_TX_CFG_REFRESH * b.quantum p
  (List.range 8).foldl (fun m k =>
    if bitOf now k && n ≤ (b.ticks - SMap.get 0 (b.port p).toldAt k) * 100 then m + 2 ^ k else m) 0

/-- One frame for every priority that changes at this instant or is due for refresh (R100). -/
def Block.tellPause (b : Block) (p : Nat) : Block :=
  let now := b.xoffNow p
  let want := b.xoffWanted p
  let on := (want &&& (255 - now)) ||| (want &&& b.refreshDue p)
  let off := now &&& (255 - want)
  let f := b.pauseFrame p on off (b.fld (R.MAC_PAUSE_TX_CFG p) F.MAC_PAUSE_TX_CFG_QUANTA)
  let told (m : SMap Nat) : SMap Nat := (List.range 8).foldl (fun m k =>
    if bitOf on k then SMap.set 0 m k b.ticks else if bitOf off k then SMap.del m k else m) m
  (b.setFld (R.MAC_PAUSE_STATUS p) F.MAC_PAUSE_STATUS_TX_XOFF want).modPort p fun x =>
    { x with ctrl := x.ctrl ++ [f], toldAt := told x.toldAt }

/-- PAUSE_XOFF (R100): priorities newly requested enter XOFF, and a frame with QUANTA is queued for them. -/
def Block.pauseXoff (p : Nat) (b : Block) : Block :=
  if b.xoffWanted p &&& (255 - b.xoffNow p) == 0 then b else b.tellPause p

/-- PAUSE_REFRESH (R100): REFRESH quanta have passed while XOFF lasts. -/
def Block.pauseRefresh (p : Nat) (b : Block) : Block :=
  if b.xoffWanted p &&& b.refreshDue p == 0 then b else b.tellPause p

/-- PAUSE_XON (R100): the last request for a priority has ended, and a time of 0 is queued for it. -/
def Block.pauseXon (p : Nat) (b : Block) : Block :=
  if b.xoffNow p &&& (255 - b.xoffWanted p) == 0 then b else b.tellPause p

/-- Bytes that cross the lands count in the bandwidth window in progress (R507). -/
def Block.bwCount (b : Block) (p rx tx : Nat) : Block :=
  b.modPort p fun x => if b.ticks < x.bwFrom then x else { x with bwRx := x.bwRx + rx, bwTx := x.bwTx + tx }

/-! ## Reception (R93 to R95, R68) -/

/-- A frame's error, if any: runt, oversize, codeword, FCS (R93), or failed reassembly (R119). -/
def Block.rxError (b : Block) (p : Nat) (bytes : List Byte) (q : RxQuality) : Option RxErr :=
  if q == .assembly then some .assembly
  else if bytes.length < 64 then some .runt
  else if bytes.length > b.fld (R.MAC_PORT_CFG p) F.MAC_PORT_CFG_MAX_FRAME then some .oversize
  else if q == .codeword then some .codeword
  else if !fcsOk bytes then some .fcs
  else none

def rxErrCounter (p : Nat) : RxErr → Nat
  | .runt => R.MAC_RX_RUNT p
  | .oversize => R.MAC_RX_OVERSIZE p
  | .codeword => R.MAC_RX_CW_BAD_FRAMES p
  | .fcs => R.MAC_RX_FCS_ERR p
  | .assembly => R.MAC_RX_ASSEMBLY_ERR p

/-- The receive stamp of port p (R112, R368): the port's base, with RX_ADJ picoseconds added. -/
def Block.rxStamp (b : Block) (p : Nat) : Stamp :=
  let s := b.stampOf (b.portBase p)
  let t := b.tbase (b.portBase p)
  let adj := signed 16 (b.fld (R.MAC_TS_CFG p) F.MAC_TS_CFG_RX_ADJ)
  let total : Int := ((t.s * 1000000000 + t.ns : Nat) : Int) + (t.frac * 1000 / 2 ^ 48 + adj) / 1000
  let n := total.toNat
  { s with s := n / 1000000000 % 2 ^ 48, ns := n % 1000000000 }

/-- A MAC control frame (R94): acted on, or discarded and counted. -/
def Block.ctrlReceive (b : Block) (p : Nat) (bytes : List Byte) (err : Option RxErr) : Block :=
  if err.isSome || beAt bytes 0 6 != 0x0180C2000001 then b.count (R.MAC_RX_CTRL_DISCARD p) 1
  else match beAt bytes 14 2 with
    | 0x0001 => b.pauseReceive p (beAt bytes 16 2)
    | 0x0101 => b.pfcReceive p (beAt bytes 16 2) ((List.range 8).map fun i => beAt bytes (18 + 2 * i) 2)
    | _ => b.count (R.MAC_RX_CTRL_DISCARD p) 1

/-- A frame, FCS included, arrives at the receive MAC of port p (R93). The port must be up and its die not held. DESIGN CHOICE
(assumption 117): a reassembly that fails after the head has left is one of the errors of R111. -/
def Block.arrive (p : Nat) (raw : List Byte) (i : RxInfo) (b : Block) : Block :=
  if !b.receives p then b
  else
    let b := b.count (R.MAC_FEC_CW_CORRECTED p) i.fecCorrected.toNat
    let b := b.count (R.MAC_FEC_SYM_CORRECTED p) i.fecSymbols.toNat
    let b := b.count (R.MAC_FEC_CW_UNCORRECTED p) i.fecBad.toNat
    let b := b.pmc (.mac p) 0x07 i.fecLane i.fecCorrected.toNat
    let err := b.rxError p raw i.quality
    let bytes := raw.take (b.fld (R.MAC_PORT_CFG p) F.MAC_PORT_CFG_MAX_FRAME)
    let b := b.bwCount p bytes.length 0
    let ctrl := raw.length ≥ 14 && beAt raw 12 2 == 0x8808
    let late := i.late && bytes.length > 256 && err.isSome && !ctrl
    let b := match err with
      | some e => if late then b else b.count (rxErrCounter p e) 1
      | none => if ctrl then b
        else ((((b.count (R.MAC_RX_FRAMES_OK p) 1).count (R.MAC_RX_BYTES_OK p) raw.length).pmc (.mac p) 0x01 0xFFF 1).pmc
              (.mac p) 0x02 0xFFF raw.length)
    if ctrl then b.ctrlReceive p raw err
    else if b.stgFill p + 16384 > 131072 then
      (b.count (R.MAC_STG_DROP_FRAMES p) 1).count (R.MAC_STG_DROP_BYTES p) raw.length
    else if err.isSome && !late then b
    else
      let before := b.stgFill p
      let st := b.rxStamp p
      let b := match err with
        | some e => b.modPort p fun x => { x with late := x.late ++ [(b.nextFrame, e)] }
        | none => b
      (b.addFrame { port := p, bytes := bytes, late := if late then err else none, stamp := st,
                    advA := b.baseA.advance, advB := b.baseB.advance }).stgWatch p before

/-- FRAME_RECEIVE: a frame arrives on the lanes of port p, which near-end loopback ignores; far-end loopback sends what it received
back, and the receive MAC works as ever (R116). -/
def Block.frameReceive (p : Nat) (raw : List Byte) (i : RxInfo) (b : Block) : Block :=
  if b.landsOff p then b
  else
    let far := b.receives p && b.fld (R.MAC_PORT_STATE p) F.MAC_PORT_STATE_LB_MODE == 2
    (if far then b.emit (.wire p raw) else b).arrive p raw i

/-- PAUSE_FRAME_RECEIVE and PFC_FRAME_RECEIVE come on the lanes too. -/
def Block.pauseLands (p q : Nat) (b : Block) : Block := if b.landsOff p then b else b.pauseReceive p q
def Block.pfcLands (p vec : Nat) (times : List Nat) (b : Block) : Block :=
  if b.landsOff p then b else b.pfcReceive p vec times

/-! ## Bring-up (R81 to R83, R89, R90) -/

def Block.mediaC2m (b : Block) (p : Nat) : Bool := b.fld (R.MAC_PORT_CFG p) F.MAC_PORT_CFG_MEDIA == 2
/-- The lanes in use by SPEED, as a mask (R85). -/
def Block.lanesUsed (b : Block) (p : Nat) : Nat :=
  match b.fld (R.MAC_PORT_CFG p) F.MAC_PORT_CFG_SPEED with
  | 0 => 15 | 1 => 3 | _ => 1

/-- Whether port p negotiates, and whether it trains, in its bring-up (R81 to R83). -/
def Block.negotiates (b : Block) (p : Nat) : Bool := b.flag (R.MAC_PORT_CFG p) F.MAC_PORT_CFG_AN_EN && !b.mediaC2m p
def Block.trains (b : Block) (p : Nat) : Bool := b.flag (R.MAC_PORT_CFG p) F.MAC_PORT_CFG_LT_EN && !b.mediaC2m p

/-- A local fault of port p begins or ends; while it lasts a port that runs sends remote fault to its partner (R90). -/
def Block.localFault (b : Block) (p : Nat) (on : Bool) : Block :=
  let a := R.MAC_LINK_STATUS p
  let tell := b.flag a F.MAC_LINK_STATUS_LOCAL_FAULT != on && b.flag (R.MAC_PORT_CFG p) F.MAC_PORT_CFG_ENABLE
    && !b.frozen (dieOfPort p)
  let b := b.setFld a F.MAC_LINK_STATUS_LOCAL_FAULT (b2n on)
  if tell then b.emit (.remoteFault p on) else b

/-- The receivers of the lanes of mask m see no signal: no detection, no lock, no training (R85, R90). -/
def Block.darkLanes (b : Block) (p m : Nat) : Block :=
  let b := b.each 4 fun b k => if bitOf m k then
      ((b.lower (R.LANE_STATUS (4 * p + k)) F.LANE_STATUS_SIGNAL_DETECT).lower (R.LANE_STATUS (4 * p + k))
        F.LANE_STATUS_CDR_LOCK).lower (R.LANE_STATUS (4 * p + k)) F.LANE_STATUS_LT_ACTIVE
    else b
  b.andNotFld (R.MAC_LINK_STATUS p) F.MAC_LINK_STATUS_LANE_LOCK m

/-- Training runs on the lanes in use, or on none (Table 3-4). -/
def Block.ltActive (b : Block) (p : Nat) (on : Bool) : Block :=
  b.each 4 fun b k => b.setFld (R.LANE_STATUS (4 * p + k)) F.LANE_STATUS_LT_ACTIVE (b2n (on && bitOf (b.lanesUsed p) k))

/-- Link training starts on every lane in use, or the receiver adapts alone (R82). -/
def Block.startTraining (b : Block) (p : Nat) : Block :=
  let lt := b.trains p
  ((b.setFld (R.MAC_LINK_STATUS p) F.MAC_LINK_STATUS_LT_DONE (b2n !lt)).ltActive p lt).modPort p fun x =>
    { x with bring := if lt then .training else .adapting }

/-- Negotiation starts: the unit advertises the PHY type of SPEED and MEDIA, and nothing else (R81). -/
def Block.startNegotiation (b : Block) (p : Nat) : Block :=
  let a := R.MAC_PORT_CFG p
  (b.emit (.negotiate p (b.fld a F.MAC_PORT_CFG_SPEED) (b.fld a F.MAC_PORT_CFG_MEDIA))).modPort p fun x =>
    { x with bring := .negotiating }

/-- AN_DONE and LT_DONE before negotiation and training: 1 where they are not enabled (Table 3-6). -/
def Block.negStatus (b : Block) (p : Nat) : Block :=
  let a := R.MAC_LINK_STATUS p
  (b.setFld a F.MAC_LINK_STATUS_AN_DONE (b2n !b.negotiates p)).setFld a F.MAC_LINK_STATUS_LT_DONE (b2n !b.trains p)

/-- Starts bring-up from negotiation, or from receiver adaptation under C2M (R81, R83, R89): until the PCS aligns there is a local
fault (R90). A disabled port, one of a held die, or any before the boot completes (R417) stays down. DESIGN CHOICE (assumption 114):
AN_NO_COMMON is cleared at the start of every bring-up. -/
def Block.bringUp (b : Block) (p : Nat) : Block :=
  let a := R.MAC_LINK_STATUS p
  let b := ((b.negStatus p).ltActive p false).lower a F.MAC_LINK_STATUS_AN_NO_COMMON
  if !b.flag (R.MAC_PORT_CFG p) F.MAC_PORT_CFG_ENABLE || b.frozen (dieOfPort p) || !b.started then
    b.modPort p fun x => { x with bring := .down }
  else
    let b := (b.lower a F.MAC_LINK_STATUS_ALIGN_LOCK).localFault p true
    if b.negotiates p then b.startNegotiation p else b.startTraining p

/-- AN_DONE (R81): the partner's pages have come, with the PHY types (SPEED, MEDIA) that it advertises: negotiation completes with the
unit's own among them, or finds no matching ability and restarts. -/
def Block.anDone (p : Nat) (partner : List (Nat × Nat)) (b : Block) : Block :=
  let own := (b.fld (R.MAC_PORT_CFG p) F.MAC_PORT_CFG_SPEED, b.fld (R.MAC_PORT_CFG p) F.MAC_PORT_CFG_MEDIA)
  if (b.port p).bring != .negotiating then b
  else if partner.contains own then
    ((b.raise (R.MAC_LINK_STATUS p) F.MAC_LINK_STATUS_AN_DONE).lower (R.MAC_LINK_STATUS p)
      F.MAC_LINK_STATUS_AN_NO_COMMON).startTraining p
  else (b.raise (R.MAC_LINK_STATUS p) F.MAC_LINK_STATUS_AN_NO_COMMON).startNegotiation p

/-- R87: |PRE3| + |PRE2| + |PRE1| + MAIN + |POST1| is at most 128. -/
def txeqOk (v : Nat) : Bool :=
  (signed 6 (F.LANE_TXEQ_PRE3.of v)).natAbs + (signed 6 (F.LANE_TXEQ_PRE2.of v)).natAbs
    + (signed 6 (F.LANE_TXEQ_PRE1.of v)).natAbs + F.LANE_TXEQ_MAIN.of v + (signed 6 (F.LANE_TXEQ_POST1.of v)).natAbs ≤ 128

/-- A coefficient update of the partner for lane k of port p, as the TXEQ word it asks for: honoured on a lane in use and within the
limits of TXEQ, which it overwrites (R82, R87). -/
def Block.tapUpdate (b : Block) (p k v : Nat) : Block :=
  if bitOf (b.lanesUsed p) k && txeqOk v then b.setWord (R.LANE_TXEQ (4 * p + k)) v else b

/-- LT_DONE (R82): coefficient updates that the partner has asked for, in order, and whether training completes with them on every
lane in use. -/
def Block.ltDone (p : Nat) (updates : List (Nat × Nat)) (done : Bool) (b : Block) : Block :=
  if (b.port p).bring != .training then b
  else
    let b := updates.foldl (fun b u => b.tapUpdate p u.1 u.2) b
    if !done then b
    else ((b.raise (R.MAC_LINK_STATUS p) F.MAC_LINK_STATUS_LT_DONE).ltActive p false).modPort p fun x =>
      { x with bring := .adapting }

/-- LT_FAIL (R82): training does not complete in time; negotiation starts again. -/
def Block.ltFail (p : Nat) (b : Block) : Block :=
  if (b.port p).bring != .training then b
  else
    let b := b.raising 2 fun b => b.raise (R.MAC_LINK_EVENTS p) F.MAC_LINK_EVENTS_LT_FAIL
    (b.send 0xD p 0x19 0).bringUp p

/-- LINK_UP (R90): every condition holds; the lanes lock with the SNR estimates given. -/
def Block.linkUp (p : Nat) (snr : List Nat) (b : Block) : Block :=
  if (b.port p).bring != .adapting || b.frozen (dieOfPort p) then b
  else
    let b := b.each 4 fun b k => if bitOf (b.lanesUsed p) k then
        ((b.raise (R.LANE_STATUS (4 * p + k)) F.LANE_STATUS_SIGNAL_DETECT).raise (R.LANE_STATUS (4 * p + k))
          F.LANE_STATUS_CDR_LOCK).setFld (R.LANE_STATUS (4 * p + k)) F.LANE_STATUS_SNR (snr.getD k 0)
      else b
    let a := R.MAC_LINK_STATUS p
    let b := (((b.raise a F.MAC_LINK_STATUS_ALIGN_LOCK).localFault p false).lower a F.MAC_LINK_STATUS_REMOTE_FAULT).setFld a
      F.MAC_LINK_STATUS_LANE_LOCK (b.lanesUsed p)
    let b := (b.raise a F.MAC_LINK_STATUS_LINK_UP).modPort p fun x => { x with bring := .up }
    (b.raising 2 fun b => b.raise (R.MAC_LINK_EVENTS p) F.MAC_LINK_EVENTS_LINK_UP_SEEN).send 0xD p 0x18 0

/-- Clears every received pause state and watchdog state of port p (R90, R91). -/
def Block.clearPause (b : Block) (p : Nat) : Block :=
  let b := b.setFld (R.MAC_PAUSE_STATUS p) F.MAC_PAUSE_STATUS_RX_PAUSED 0
  let b := b.setFld (R.PRT_PAUSE_WDOG_STATUS p) F.PRT_PAUSE_WDOG_STATUS_BROKEN 0
  b.modPort p fun x => { x with quanta := [], loadedAt := [], since := [] }

/-! ## Maintenance states and preemption (R116 to R119) -/

/-- Whether preemption may be in effect: a maintenance state and PREEMPT_EN (R117). -/
def Block.mayPreempt (b : Block) (p : Nat) : Bool :=
  b.fld (R.MAC_PORT_STATE p) F.MAC_PORT_STATE_STATE != 0 && b.flag (R.MAC_PREEMPT_CFG p) F.MAC_PREEMPT_CFG_PREEMPT_EN

/-- Whether a frame of port p is preempted, or its last fragment still on the wire (R119). -/
def Block.cutOpen (b : Block) (p : Nat) : Bool :=
  (b.port p).tx.any fun c => c.stage == .preempted || (c.stage == .sending && c.sent != 0)

/-- Preemption is not in effect, but for a frame that is preempted: it keeps ACTIVE until its last fragment has been sent (R119). -/
def Block.preemptOff (b : Block) (p : Nat) : Block :=
  if b.cutOpen p then b else b.lower (R.MAC_PREEMPT_STATUS p) F.MAC_PREEMPT_STATUS_ACTIVE

/-- A verification attempt: a verify request goes to the partner, and VERIFY_TIME begins (R117). -/
def Block.verifyTry (b : Block) (p n : Nat) : Block :=
  (b.emit (.verify p false)).modPort p fun x => { x with verifyTries := n, verifyAt := b.ticks }

/-- Starts, keeps or ends preemption after a write of PORT_STATE or PREEMPT_CFG (R117, R119). DESIGN CHOICE (assumption 116):
VERIFY_STATE is idle wherever nothing is to be verified, in SERVICE, with PREEMPT_EN 0 and with VERIFY_EN 0, and the next write that
asks for verification verifies anew; a result stands as long as it is asked for. -/
def Block.preemptCheck (b : Block) (p : Nat) : Block :=
  let a := R.MAC_PREEMPT_STATUS p
  if !b.mayPreempt p then (b.setFld a F.MAC_PREEMPT_STATUS_VERIFY_STATE 0).preemptOff p
  else if !b.flag (R.MAC_PREEMPT_CFG p) F.MAC_PREEMPT_CFG_VERIFY_EN then
    (b.setFld a F.MAC_PREEMPT_STATUS_VERIFY_STATE 0).raise a F.MAC_PREEMPT_STATUS_ACTIVE
  else match b.fld a F.MAC_PREEMPT_STATUS_VERIFY_STATE with
    | 0 => ((b.setFld a F.MAC_PREEMPT_STATUS_VERIFY_STATE 1).verifyTry p 0).preemptOff p
    | 2 => b.raise a F.MAC_PREEMPT_STATUS_ACTIVE
    | _ => b.preemptOff p

/-- At a frame's end: preemption that is no longer allowed ends with its last fragment (R119). -/
def Block.preemptEnd (b : Block) (p : Nat) : Block :=
  let a := R.MAC_PREEMPT_STATUS p
  let on := b.mayPreempt p && (!b.flag (R.MAC_PREEMPT_CFG p) F.MAC_PREEMPT_CFG_VERIFY_EN
    || b.fld a F.MAC_PREEMPT_STATUS_VERIFY_STATE == 2)
  if on then b else b.preemptOff p

/-- PREEMPT_VERIFY (R117, R119): a verification attempt is answered, or times out after VERIFY_TIME and is tried again; the third
failure sets VERIFY_FAIL, sends PREEMPT_VERIFY and leaves preemption inactive. A request of the partner is answered in every state. -/
def Block.preemptVerify (p : Nat) (e : VerifyEvent) (b : Block) : Block :=
  let a := R.MAC_PREEMPT_STATUS p
  let verifying := b.fld a F.MAC_PREEMPT_STATUS_VERIFY_STATE == 1
  match e with
  | .request => if b.receives p then b.emit (.verify p true) else b
  | .answered =>
    if !verifying then b else (b.setFld a F.MAC_PREEMPT_STATUS_VERIFY_STATE 2).raise a F.MAC_PREEMPT_STATUS_ACTIVE
  | .timeout =>
    let n := (b.port p).verifyTries + 1
    let time := b.fld (R.MAC_PREEMPT_CFG p) F.MAC_PREEMPT_CFG_VERIFY_TIME * oneMs
    if !verifying || b.ticks < (b.port p).verifyAt + time then b
    else if n < 3 then b.verifyTry p n
    else ((b.setFld a F.MAC_PREEMPT_STATUS_VERIFY_STATE 3).raise a F.MAC_PREEMPT_STATUS_VERIFY_FAIL).send 0xD p 0x1C 0

/-! ## Field rules of the port registers -/

/-- R70. -/
def stgCfgOk (v : Nat) : Bool :=
  let xoff := F.MAC_STG_CFG_XOFF.of v
  16 ≤ xoff && xoff ≤ 112 && F.MAC_STG_CFG_XON.of v < xoff
/-- R96. -/
def pauseCfgOk (v : Nat) : Bool := F.MAC_PAUSE_CFG_RX_MODE.of v != 3 && F.MAC_PAUSE_CFG_TX_MODE.of v != 3
/-- R102. -/
def pauseTxCfgOk (v : Nat) : Bool :=
  F.MAC_PAUSE_TX_CFG_REFRESH.of v != 0 && F.MAC_PAUSE_TX_CFG_REFRESH.of v < F.MAC_PAUSE_TX_CFG_QUANTA.of v
/-- R110. -/
def ctCfgOk (v : Nat) : Bool := 1 ≤ F.PRT_CT_CFG_THRESH.of v && F.PRT_CT_CFG_THRESH.of v ≤ 32
/-- R120. -/
def preemptCfgOk (v : Nat) : Bool := 1 ≤ F.MAC_PREEMPT_CFG_VERIFY_TIME.of v && F.MAC_PREEMPT_CFG_VERIFY_TIME.of v ≤ 128
/-- R116. -/
def portStateOk (v : Nat) : Bool :=
  F.MAC_PORT_STATE_LB_MODE.of v != 3 && (F.MAC_PORT_STATE_LB_MODE.of v == 0 || F.MAC_PORT_STATE_STATE.of v == 2)
/-- R88. -/
def portCfgOk (old v : Nat) : Bool :=
  let sp := F.MAC_PORT_CFG_SPEED
  let me := F.MAC_PORT_CFG_MEDIA
  let mf := F.MAC_PORT_CFG_MAX_FRAME.of v
  let moves := sp.of v != sp.of old || me.of v != me.of old
  sp.of v != 3 && me.of v != 3 && 64 ≤ mf && mf ≤ 16360
    && !(moves && (F.MAC_PORT_CFG_ENABLE.of old == 1 || F.MAC_PORT_CFG_ENABLE.of v == 1))

end Sys2Proof.Machine
end

