-- ==== Sys2Proof/Machine/SieveParse.lean ====
section
/-!
DEFINITION. Machine/SieveParse.lean: the Sieve as a function from a frame's bytes and the cluster's settings to its
header vector (spec/04, R122 to R133). One step per header; a header either parses, hands off, is malformed, or does
not lie inside the window.
-/
namespace Sys2Proof.Machine
open Sys2Proof

/-- The settings of a cluster that the Sieve reads (Tables 4-2 to 4-8). -/
structure SieveCfg where
  tpidAlt : Nat
  vxlan : Nat
  geneve : Nat
  roce : Nat
  etypes : List Nat
  udps : List Nat
deriving DecidableEq, Repr

/-- The headers of Table 4-1. -/
inductive Hdr where
  | eth | mpls | arp | ipv4 | ipv6 | udp | tcp | icmp | icmpv6 | vxlan | geneve | gre | bth | ptp
deriving DecidableEq, Repr

/-- What a header knows of the IP header below it: version, addresses, end of its payload, and whether it is a
fragment. -/
structure IpCtx where
  v6 : Bool := false
  src : List Byte := []
  dst : List Byte := []
  payEnd : Nat := 0
  frag : Bool := false
deriving DecidableEq, Repr

/-- The parse so far: the frame, its header vector, the class, the hand-off reason, the failure, OFF_END, the fragment
key of R141, and the IP context. -/
structure Sv where
  bytes : List Byte
  len : Nat
  hv : Vec := []
  mal : Nat := 0
  stop : Nat := 0
  fail : Nat := 0
  offEnd : Nat := 0
  frag : Bool := false
  fragV6 : Bool := false
  fragKey : List Byte := []
  ptpOver : Nat := 1
  ip : IpCtx := {}
deriving DecidableEq, Repr

/-- The next header to parse, where it starts, and whether it lies inside a tunnel; none: parsing has ended. -/
abbrev SvNext := Sv × Option (Hdr × Nat × Bool)

namespace Sv

def at_ (v : Sv) (o k : Nat) : Nat := beAt v.bytes o k
def by_ (v : Sv) (o : Nat) : Nat := byteAt v.bytes o
def put (v : Sv) (i hi lo x : Nat) : Sv := { v with hv := v.hv.put i ⟨hi, lo⟩ x }
def set (v : Sv) (i x : Nat) : Sv := { v with hv := v.hv.set i x }
/-- Sets a presence bit of HV1 (Table 4-10). -/
def present (v : Sv) (outer innr : Nat) (inner : Bool) : Sv := v.put 1 (if inner then innr else outer) (if inner then innr else outer) 1

/-- R126: every byte up to e lies inside the window and before the FCS. -/
def inside (v : Sv) (e : Nat) : Bool := e ≤ min 256 (v.len - 4)

/-- R126: a header at o that is not inside the window, by the frame's length alone: a frame of at most 256 bytes is malformed, TRUNC or a
lower class that the header's bytes inside the window show; a longer one is parse failure WINDOW. -/
def cut (v : Sv) (o : Nat) (classes : List Nat) : SvNext :=
  let cs := if v.len ≤ 256 then classes ++ [8] else []
  match cs.min? with
  | some m => ({ v with offEnd := o, mal := if v.mal == 0 then m else v.mal }, none)
  | none => ({ v with offEnd := o, fail := 1 }, none)

/-- R133: the classes found in a header at o. The first malformation in header order counts, the lowest class within a
header; parsing stops there except for the check-sum classes 5 and 7. DESIGN CHOICE (assumption 121): it stops too at a header of class 5
that also shows class 9 or 10. -/
def judge (v : Sv) (o : Nat) (classes : List Nat) (k : Sv → SvNext) : SvNext :=
  match classes.min? with
  | none => k v
  | some m =>
    let v1 := { v with mal := if v.mal == 0 then m else v.mal }
    if classes.all fun c => c == 5 || c == 7 then k v1 else ({ v1 with offEnd := o }, none)

/-- R129: a hand-off of reason r; o is the first byte of the header that is not parsed. -/
def hand (v : Sv) (r o : Nat) : SvNext := ({ v with stop := r, offEnd := o }, none)
def done (v : Sv) (o : Nat) : SvNext := ({ v with offEnd := o }, none)
def when (c : Bool) (m : Nat) : List Nat := if c then [m] else []

/-- A header that stopped the parse by a malformation or by the window leaves the vector as it was before it (R132). -/
def undo (v : Sv) (r : SvNext) : SvNext :=
  if r.2.isNone && r.1.stop == 0 then ({ r.1 with hv := v.hv }, none) else r

/-! ### Ethernet and its tags -/

/-- The 2-bit TPID code of Table 4-9; 0: no TPID of the Sieve's. -/
def tpid (c : SieveCfg) (t : Nat) : Nat :=
  if t == 0x8100 then 1 else if t == 0x88A8 then 2 else if t == c.tpidAlt then 3 else 0

/-- Reads the type field at `pos` and the tags that follow, `n` tags read so far, within `fuel` more type fields. DESIGN CHOICE
(assumption 124): the tags are part of their Ethernet header, so that a tag outside the window takes that whole header back. -/
def ethType (c : SieveCfg) (o : Nat) (inner : Bool) (cls : List Nat) : Nat → Nat → Nat → Sv → SvNext
  | 0, _, _, v => (v, none)
  | fuel + 1, pos, n, v =>
    let t := v.at_ pos 2
    let v1 := if inner then v.put 47 15 0 t else v.put 4 31 16 t
    if t ≥ 0x600 && c.etypes.contains t then v1.judge o cls fun v => v.hand 3 (pos + 2)
    else if tpid c t != 0 then
      if n == (if inner then 1 else 3) then v1.judge o cls fun v => v.hand (if inner then 14 else 4) pos
      else if !v1.inside (pos + 6) then v1.cut o cls
      else
        let tci := v1.at_ (pos + 2) 2
        let v2 := if inner then v1.put 47 31 16 tci
          else ((v1.put (8 + n / 2) (31 - 16 * (n % 2)) (16 - 16 * (n % 2)) tci).put 9 (15 - 2 * n) (14 - 2 * n)
                (tpid c t)).put 4 15 14 (n + 1)
        ethType c o inner cls fuel (pos + 4) (n + 1) (v2.present 2 19 inner)
    else
      let nxt := pos + 2
      let l2len := t < 0x600 && (t > 1500 || nxt + t > v1.len - 4)
      v1.judge o (cls ++ when l2len 1) fun v =>
        if inner then
          if t == 0x0800 then (v, some (.ipv4, nxt, true))
          else if t == 0x86DD then (v, some (.ipv6, nxt, true))
          else v.hand 13 nxt
        else if t < 0x600 then (v.present 1 1 false).hand 2 nxt
        else match t with
          | 0x0800 => (v, some (.ipv4, nxt, false))
          | 0x86DD => (v, some (.ipv6, nxt, false))
          | 0x8847 | 0x8848 => (v, some (.mpls, nxt, false))
          | 0x0806 => (v, some (.arp, nxt, false))
          | 0x88F7 => ({ v with ptpOver := 1 }, some (.ptp, nxt, false))
          | _ => v.hand 1 nxt

def eth (c : SieveCfg) (o : Nat) (inner : Bool) (v : Sv) : SvNext :=
  if !v.inside (o + 14) then v.cut o []
  else
    let w := if inner then 44 else 5
    let v1 := (((v.set w (v.at_ o 4)).set (w + 1) (v.at_ (o + 4) 4)).set (w + 2) (v.at_ (o + 8) 4)).present 0 18 inner
    let v2 := if inner then v1.put 2 7 0 o else v1
    v.undo (ethType c o inner (when (v.by_ (o + 6) % 2 == 1) 2) 5 (o + 12) 0 v2)

/-! ### MPLS and ARP -/

def mplsEntry (o : Nat) : Nat → Nat → Sv → SvNext
  | 0, k, v => v.hand 5 (o + 4 * k)
  | fuel + 1, k, v =>
    let pos := o + 4 * k
    if !v.inside (pos + 4) then v.cut o []
    else
      let lse := v.at_ pos 4
      let v1 := ((v.set (10 + k) lse).put 4 13 11 (k + 1)).present 3 3 false
      if lse / 256 % 2 == 0 then mplsEntry o fuel (k + 1) v1
      else if !v1.inside (pos + 5) then v1.cut (pos + 4) []
      else match v1.by_ (pos + 4) / 16 with
        | 4 => (v1, some (.ipv4, pos + 4, false))
        | 6 => (v1, some (.ipv6, pos + 4, false))
        | _ => v1.hand 6 (pos + 4)

def arp (o : Nat) (v : Sv) : SvNext :=
  if !v.inside (o + 8) then v.cut o []
  else
    let hw := v.at_ o 2
    let bad := hw == 1 && (v.by_ (o + 4) != 6 || v.by_ (o + 5) != 4)
    v.judge o (when bad 9) fun v =>
      if hw != 1 || v.at_ (o + 2) 2 != 0x0800 then ((v.put 2 31 24 o).present 6 6 false).done (o + 8)
      else if !v.inside (o + 28) then v.cut o []
      else
        let v := ((v.put 2 31 24 o).set 16 (v.at_ (o + 14) 4)).set 20 (v.at_ (o + 24) 4)
        let v := (v.set 30 (v.at_ (o + 8) 4)).set 31 (v.at_ (o + 12) 2 * 65536 + v.at_ (o + 6) 2)
        (v.present 6 6 false).done (o + 28)

/-! ### IP -/

/-- The fixed part of an L4 header, in bytes (R133 class 9, R126). -/
def l4Fixed (proto : Nat) : Nat :=
  match proto with
  | 17 | 1 | 58 => 8
  | 6 => 20
  | _ => 0

/-- The fragment cases of class 9. -/
def fragBad (fo pay l4pay proto : Nat) : Bool :=
  fo * 8 + pay > 65535 || (proto == 6 && fo == 1) || (fo == 0 && l4pay < l4Fixed proto)

/-- What follows an IP header whose protocol is `proto` (R124). -/
def l4Next (v : Sv) (proto o : Nat) (inner : Bool) : SvNext :=
  match proto with
  | 17 => (v, some (.udp, o, inner))
  | 6 => (v, some (.tcp, o, inner))
  | 1 => (v, some (.icmp, o, inner))
  | 58 => (v, some (.icmpv6, o, inner))
  | 47 => if inner then v.hand 7 o else (v, some (.gre, o, false))
  | _ => v.hand 7 o

/-- Marks a fragment (R125, R141): an inner one ends the inner stack; an outer one sets FRAG, and FRAG_FIRST at offset
0. -/
def markFrag (v : Sv) (inner : Bool) (fo : Nat) (v6 : Bool) (key : List Byte) : Sv :=
  if inner then v.put 1 26 26 1
  else { (v.put 0 29 29 1).put 0 28 28 (if fo == 0 then 1 else 0) with frag := true, fragV6 := v6, fragKey := key }

def isLoop4 (l : List Byte) : Bool := byteAt l 0 == 127
def isLoop6 (l : List Byte) : Bool := beAt l 0 16 == 1

def ipv4 (o : Nat) (inner : Bool) (v : Sv) : SvNext :=
  if !v.inside (o + 20) then v.cut o []
  else
    let ihl := v.by_ o % 16
    if v.by_ o / 16 != 4 || ihl < 5 then v.judge o [3] fun v => (v, none)
    else
      let hl := 4 * ihl
      let total := v.at_ (o + 2) 2
      let ipLen := when (total < hl || o + total > v.len - 4) 4
      if !v.inside (o + hl) then v.cut o ipLen else
      let src := slice v.bytes (o + 12) (o + 16)
      let dst := slice v.bytes (o + 16) (o + 20)
      let fl := v.at_ (o + 6) 2
      let fo := fl % 8192
      let mf := fl / 8192 % 2
      let proto := v.by_ (o + 9)
      let isFrag := mf == 1 || fo != 0
      let s0 := byteAt src 0
      let cls := ipLen ++ when (csum16 (slice v.bytes o (o + hl)) != 0xFFFF) 5
        ++ when (isFrag && fragBad fo (total - hl) (total - hl) proto) 9
        ++ when ((224 ≤ s0 && s0 < 240) || beAt src 0 4 == 0xFFFFFFFF || isLoop4 src || isLoop4 dst) 10
      v.judge o cls fun v =>
        let l3 := proto * 2 ^ 24 + v.by_ (o + 8) * 65536 + v.by_ (o + 1) * 256 + fl / 16384 % 2 * 128 + mf * 64
        let v := if inner then ((v.set 48 (beAt src 0 4)).set 52 (beAt dst 0 4)).set 56 l3
          else ((((v.set 16 (beAt src 0 4)).set 20 (beAt dst 0 4)).set 24 l3).set 25 (total * 65536 + fo)).set 26
                 (v.at_ (o + 4) 2)
        let v := if !inner && ihl > 5 then v.put 1 17 17 1 else v
        let v := (v.present 4 20 inner).put (if inner then 3 else 2) 31 24 o
        let v := { v with ip := ⟨false, src, dst, o + total, isFrag⟩ }
        if !isFrag then v.l4Next proto (o + hl) inner
        else
          let v := v.markFrag inner fo false (src ++ dst ++ [BitVec.ofNat 8 proto] ++ slice v.bytes (o + 4) (o + 6))
          if inner || fo != 0 then v.done (o + hl) else v.l4Next proto (o + hl) inner

/-- An IPv6 fragment header met in the extensions: offset, MF, identification, the protocol after it, its place. -/
structure V6Frag where
  fo : Nat
  mf : Nat
  id : Nat
  next : Nat
  pos : Nat
deriving DecidableEq, Repr

/-- An IPv6 fragment header that has been parsed makes its packet a fragment, whatever follows it (R131, R141). -/
def takeFrag (v : Sv) (inner : Bool) (src dst : List Byte) (f : V6Frag) : Sv :=
  let w := if inner then v.put 56 6 6 f.mf else ((v.put 24 6 6 f.mf).put 25 12 0 f.fo).set 26 f.id
  w.markFrag inner f.fo true (src ++ dst ++ [BitVec.ofNat 8 f.next] ++ slice v.bytes (f.pos + 4) (f.pos + 8))

/-- A fragment header that turns out malformed leaves nothing behind (R132). -/
def dropFrag (v : Sv) (inner : Bool) : Sv :=
  if inner then (v.put 56 6 6 0).put 1 26 26 0
  else { ((((v.put 24 6 6 0).put 25 12 0 0).set 26 0).put 0 29 29 0).put 0 28 28 0 with frag := false, fragV6 := false, fragKey := [] }

/-- Walks the extension headers from `pos`, whose kind is `nh`, `n` of them read so far (R124, R141). `fin` continues
after the last one. -/
def v6Ext (plenEnd : Nat) (inner : Bool) (src dst : List Byte) (fin : Nat → Nat → Option V6Frag → Sv → SvNext) :
    Nat → Nat → Nat → Nat → Option V6Frag → Sv → SvNext
  | 0, _, _, _, _, v => (v, none)
  | fuel + 1, n, nh, pos, fr, v =>
    let v := if inner then (v.put 56 31 24 nh).put 4 7 5 n else (v.put 24 31 24 nh).put 4 10 8 n
    let later := match fr with | some f => f.fo != 0 | none => false
    if later || !(nh == 0 || nh == 43 || nh == 44 || nh == 60) || n ≥ 4 then fin nh pos fr v
    else
      let seq := when (nh == 0 && n > 0) 9
      let past (hl : Nat) : List Nat := seq ++ when (pos + hl > plenEnd) 4
      if !v.inside (pos + 8) then v.cut pos (past 8)
      else
        let hl := if nh == 44 then 8 else (v.by_ (pos + 1) + 1) * 8
        let cls := past hl
        if !v.inside (pos + hl) then v.cut pos cls
        else
          if nh != 44 then
            v.judge pos cls fun v => v6Ext plenEnd inner src dst fin fuel (n + 1) (v.by_ pos) (pos + hl) fr v
          else
            let f : V6Frag := ⟨v.at_ (pos + 2) 2 / 8, v.by_ (pos + 3) % 2, v.at_ (pos + 4) 4, v.by_ pos, pos⟩
            let big := f.fo * 8 + (plenEnd - pos - 8) > 65535 || (f.next == 6 && f.fo == 1)
            v.judge pos (cls ++ when big 9) fun v =>
              v6Ext plenEnd inner src dst fin fuel (n + 1) f.next (pos + 8) (some f) (v.takeFrag inner src dst f)

def ipv6 (o : Nat) (inner : Bool) (v : Sv) : SvNext :=
  if !v.inside (o + 40) then v.cut o []
  else if v.by_ o / 16 != 6 then v.judge o [3] fun v => (v, none)
  else
    let plen := v.at_ (o + 4) 2
    let pe := o + 40 + plen
    let src := slice v.bytes (o + 8) (o + 24)
    let dst := slice v.bytes (o + 24) (o + 40)
    let cls := when (pe > v.len - 4) 4 ++ when (byteAt src 0 == 255 || isLoop6 src || isLoop6 dst) 10
    v.judge o cls fun v =>
      let w0 := v.at_ o 4
      let l3 := v.by_ (o + 6) * 2 ^ 24 + v.by_ (o + 7) * 65536 + w0 / 2 ^ 20 % 256 * 256
      let v := if inner then { v with hv := ((v.hv.putBytes 48 src 4).putBytes 52 dst 4).set 56 l3 }
        else
          let hv := ((v.hv.putBytes 16 src 4).putBytes 20 dst 4).set 24 l3
          { v with hv := (hv.set 25 (plen * 65536)).set 27 (w0 % 2 ^ 20 * 4096) }
      let v := (v.present 5 21 inner).put (if inner then 3 else 2) 31 24 o
      v6Ext pe inner src dst (fun nh pos fr v =>
        let v := { v with ip := ⟨true, src, dst, pe, fr.isSome⟩ }
        let go (v : Sv) : SvNext :=
          if nh == 0 || nh == 43 || nh == 44 || nh == 60 then v.hand (if inner then 14 else 9) pos
          else if nh == 51 || nh == 135 || nh == 139 || nh == 140 then v.hand 8 pos
          else if nh == 59 then v.done pos
          else v.l4Next nh pos inner
        match fr with
        | none => go v
        | some f =>
          if f.fo == 0 && pe - pos < l4Fixed nh then (v.dropFrag inner).judge f.pos [9] fun v => (v, none)
          else if inner || f.fo != 0 then v.done pos
          else go v)
        6 0 (v.by_ (o + 6)) (o + 40) none v

/-! ### L4 -/

/-- The one's-complement check of an L4 header from o to e with its pseudo header (class 7). -/
def l4SumOk (v : Sv) (o e proto : Nat) : Bool :=
  let seg := slice v.bytes o e
  let ph := if proto == 1 then []
    else if v.ip.v6 then v.ip.src ++ v.ip.dst ++ beBytes 4 seg.length ++ [0, 0, 0, BitVec.ofNat 8 proto]
    else v.ip.src ++ v.ip.dst ++ [0, BitVec.ofNat 8 proto] ++ beBytes 2 seg.length
  csum16 (ph ++ seg) == 0xFFFF

/-- Class 7 is judged only in frames of at most 256 bytes that are not fragments. -/
def sumJudged (v : Sv) : Bool := v.len ≤ 256 && !v.frag && !v.ip.frag

def l4Put (v : Sv) (o : Nat) (inner : Bool) (outerBit innerBit ports flags : Nat) : Sv :=
  let v := if inner then (v.set 57 ports).set 58 flags else (v.set 28 ports).set 29 flags
  (v.present outerBit innerBit inner).put (if inner then 3 else 2) 23 16 o

def udp (c : SieveCfg) (o : Nat) (inner : Bool) (v : Sv) : SvNext :=
  if !v.inside (o + 8) then v.cut o []
  else
    let dp := v.at_ (o + 2) 2
    let ln := v.at_ (o + 4) 2
    let ck := v.at_ (o + 6) 2
    let l4len := ln < 8 || (!v.frag && !v.ip.frag && o + ln > v.ip.payEnd)
    let sum := v.sumJudged && (ck != 0 || v.ip.v6) && !v.l4SumOk o (o + ln) 17
    v.judge o (if l4len then [6] else when sum 7) fun v =>
      let v := v.l4Put o inner 7 22 (v.at_ o 4) 0
      let nxt := o + 8
      if inner then v.done nxt
      else if c.udps.contains dp then v.hand 10 nxt
      else
        let v := { v with ptpOver := if v.ip.v6 then 3 else 2 }
        if c.vxlan != 0 && dp == c.vxlan then (v, some (.vxlan, nxt, false))
        else if c.geneve != 0 && dp == c.geneve then (v, some (.geneve, nxt, false))
        else if c.roce != 0 && dp == c.roce then (v, some (.bth, nxt, false))
        else if dp == 319 || dp == 320 then (v, some (.ptp, nxt, false))
        else v.done nxt

def tcp (o : Nat) (inner : Bool) (v : Sv) : SvNext :=
  if !v.inside (o + 20) then v.cut o []
  else
    let sum := v.sumJudged && !v.l4SumOk o v.ip.payEnd 6
    v.judge o (if v.by_ (o + 12) / 16 < 5 then [6] else when sum 7) fun v =>
      (v.l4Put o inner 8 23 (v.at_ o 4) (v.by_ (o + 13) * 2 ^ 24)).done (o + 20)

def icmp (o : Nat) (inner : Bool) (v : Sv) : SvNext :=
  if !v.inside (o + 8) then v.cut o []
  else
    v.judge o (when (v.sumJudged && !v.l4SumOk o v.ip.payEnd 1) 7) fun v =>
      let t := v.by_ o
      let ports := if t == 0 || t == 8 then v.at_ (o + 4) 2 * 65536 else 0
      (v.l4Put o inner 9 24 ports (t * 65536 + v.by_ (o + 1) * 256)).done (o + 8)

def icmpv6 (o : Nat) (inner : Bool) (v : Sv) : SvNext :=
  let t := v.by_ o
  let nd := !inner && 133 ≤ t && t ≤ 137
  let target := nd && 135 ≤ t
  if !v.inside (o + 8) || (target && !v.inside (o + 24)) then v.cut o []
  else
    v.judge o (when (v.sumJudged && !v.l4SumOk o v.ip.payEnd 58) 7) fun v =>
      let ports := if t == 128 || t == 129 then v.at_ (o + 4) 2 * 65536 else 0
      let v := v.l4Put o inner 10 25 ports (t * 65536 + v.by_ (o + 1) * 256)
      let v := if nd then v.present 11 11 false else v
      let w : Sv := { v with hv := v.hv.putBytes 30 (slice v.bytes (o + 8) (o + 24)) 4 }
      if target then w.done (o + 24) else v.done (o + 8)

/-! ### Tunnels, BTH and PTP -/

/-- What a GENEVE or GRE protocol type leads to. DESIGN CHOICE (assumption 123): it is not an EtherType that the Sieve compares with
ETYPE_HANDOFF. -/
def tunNext (v : Sv) (proto nxt : Nat) : SvNext :=
  match proto with
  | 0x6558 => (v, some (.eth, nxt, true))
  | 0x0800 => (v.put 47 15 0 proto, some (.ipv4, nxt, true))
  | 0x86DD => (v.put 47 15 0 proto, some (.ipv6, nxt, true))
  | _ => v.hand 12 nxt

def vxlan (o : Nat) (v : Sv) : SvNext :=
  if !v.inside (o + 8) then v.cut o []
  else
    v.judge o (when (v.by_ o / 8 % 2 == 0) 9) fun v =>
      let v := (v.set 34 (v.at_ (o + 4) 3 * 256)).set 35 (0x6558 * 65536 + 0x80 + 1)
      ((v.present 12 12 false).put 2 15 8 o, some (.eth, o + 8, true))

def geneve (o : Nat) (v : Sv) : SvNext :=
  if !v.inside (o + 8) then v.cut o []
  else
    let ow := v.by_ o % 64
    if ow > 8 then v.hand 11 o
    else
      let nxt := o + 8 + 4 * ow
      if !v.inside nxt then v.cut o []
      else
        let proto := v.at_ (o + 2) 2
        let v := (v.set 34 (v.at_ (o + 4) 3 * 256)).set 35 (proto * 65536 + ow * 256 + 2)
        let v := { v with hv := v.hv.putBytes 36 (slice v.bytes (o + 8) nxt) ow }
        ((v.present 13 13 false).put 2 15 8 o).tunNext proto nxt

def gre (o : Nat) (v : Sv) : SvNext :=
  if !v.inside (o + 4) then v.cut o []
  else
    let f := v.at_ o 2
    if f % 8 != 0 then v.hand 12 o
    else
      let c := f / 2 ^ 15 % 2
      let k := f / 2 ^ 13 % 2
      let s := f / 2 ^ 12 % 2
      let nxt := o + 4 + 4 * (c + k + s)
      if !v.inside nxt then v.cut o []
      else
        let proto := v.at_ (o + 2) 2
        let v := (v.set 34 (if k == 1 then v.at_ (o + 4 + 4 * c) 4 else 0)).set 35
          (proto * 65536 + c * 128 + k * 64 + s * 32 + 3)
        ((v.present 14 14 false).put 2 15 8 o).tunNext proto nxt

def bth (o : Nat) (v : Sv) : SvNext :=
  if !v.inside (o + 12) then v.cut o []
  else
    let v := (v.set 59 (v.by_ o * 2 ^ 24 + v.at_ (o + 5) 3)).set 60 (v.by_ (o + 8) / 128 * 2 ^ 31 + v.at_ (o + 9) 3)
    (v.present 15 15 false).done (o + 12)

def ptp (o : Nat) (v : Sv) : SvNext :=
  if !v.inside (o + 34) then v.cut o []
  else
    let m := v.by_ o % 16
    let v := v.set 61 (m * 2 ^ 28 + v.ptpOver * 2 ^ 24 + v.by_ (o + 4) * 65536 + o * 256)
    let v := if m ≤ 3 then v.put 0 30 30 1 else v
    (v.present 16 16 false).done (o + 34)

/-- Parses one header. -/
def step (c : SieveCfg) (h : Hdr) (o : Nat) (inner : Bool) (v : Sv) : SvNext :=
  match h with
  | .eth => v.eth c o inner
  | .mpls => v.undo (mplsEntry o 6 0 v)
  | .arp => v.arp o
  | .ipv4 => v.ipv4 o inner
  | .ipv6 => v.ipv6 o inner
  | .udp => v.udp c o inner
  | .tcp => v.tcp o inner
  | .icmp => v.icmp o inner
  | .icmpv6 => v.icmpv6 o inner
  | .vxlan => v.vxlan o
  | .geneve => v.geneve o
  | .gre => v.gre o
  | .bth => v.bth o
  | .ptp => v.ptp o

/-- Parses header after header; a stack holds at most 9 (Ethernet, MPLS, IP, L4, tunnel, Ethernet, IP, L4). -/
def run (c : SieveCfg) : Nat → Hdr × Nat × Bool → Sv → Sv
  | 0, _, v => v
  | fuel + 1, (h, o, inner), v =>
    match step c h o inner v with
    | (v1, some n) => run c fuel n v1
    | (v1, none) => v1

end Sv

/-- The header vector of a frame, FCS included in `bytes` (R131). HV0 gets STOP, FAIL, MAL and WIN_LEN; a malformed
frame is never a parse failure (R25). -/
def sieve (c : SieveCfg) (bytes : List Byte) : Sv :=
  let v := Sv.run c 12 (.eth, 0, false) { bytes := bytes.take 256, len := bytes.length }
  let v := { v with fail := if v.mal != 0 then 0 else v.fail }
  ((((v.put 0 27 24 v.stop).put 0 23 20 v.fail).put 0 19 16 v.mal).put 0 8 0 (min 256 v.len)).put 3 8 0 v.offEnd
    |>.put 1 0 0 1

end Sys2Proof.Machine
end

