-- ==== Sys2Proof/Machine/Parse.lean ====
section
/-!
DEFINITION. Machine/Parse.lean: the parse stage of a unit: taking a frame's head, the hand-off, the malformed-frame
classifier, the two host limiters and the fragment tables (spec/04, R122 to R151).
-/
namespace Sys2Proof.Machine
open Sys2Proof

/-! ## Toward the host -/

/-- ACT_FWD of a receive descriptor: ACT, FWD_KIND and COLOUR as merged (Table 13-7). -/
def actFwd (rec_ : Vec) : Nat :=
  rec_.f 0 ⟨31, 29⟩ * 32 + rec_.f 0 ⟨28, 27⟩ * 8 + rec_.f 1 ⟨13, 12⟩ * 2

/-- What the receive descriptors of a frame will carry (R391, R393): it is delivered as received, without its FCS. -/
def Frame.forHost (f : Frame) (kind code sub : Nat) : HostFrame :=
  { kind := kind, code := code, sub := sub, inPort := f.port, egPort := Vec.f f.rec_ 0 ⟨15, 8⟩,
    frameLen := f.bytes.length, actFwd := actFwd f.rec_, fwdIdx := Vec.f f.rec_ 1 ⟨31, 14⟩, stamp := f.stamp,
    bytes := f.bytes.take (f.bytes.length - 4) }

/-- Microseconds of reference ticks: the granularity of the host limiters (R139). -/
def Block.usNow (b : Block) : Nat := b.ticks / 1000

/-- The unit limiter of port p for reason r (R139); a frame that the host sent is dropped instead (R140). -/
def Block.unitLimit (b : Block) (f : Frame) (r sub : Nat) : Block :=
  let p := f.port
  if f.host.isSome then b.count (R.PRT_HOST_ORIG_DROP p) 1
  else
    let k := SMap.get {} (b.port p).lims r
    let rate := b.fld (R.PRT_HOSTLIM p r) F.PRT_HOSTLIM_RATE
    let burst := b.fld (R.PRT_HOSTLIM p r) F.PRT_HOSTLIM_BURST
    match k.take rate burst b.usNow with
    | some k1 =>
      let b := b.modPort p fun x => { x with lims := SMap.set {} x.lims r k1 }
      ((b.count (R.PRT_HOSTLIM_PASS p r) 1).pmc (.prt p) 0x03 r 1).toHost (f.forHost 0 r sub)
    | none => (b.count (R.PRT_HOSTLIM_DROP p r) 1).sendOncePerMs 0xC p 0x22 r

/-- The malformed limiter of a cluster (R135). -/
def Block.malLimit (b : Block) (f : Frame) (m : Nat) : Block :=
  let C := clsOfPort f.port
  if f.host.isSome then b.count (R.PRT_HOST_ORIG_DROP f.port) 1
  else
    let rate := b.fld (R.CLS_MAL_HOSTLIM C) F.CLS_MAL_HOSTLIM_RATE
    let burst := b.fld (R.CLS_MAL_HOSTLIM C) F.CLS_MAL_HOSTLIM_BURST
    match (b.cluster C).malLim.take rate burst b.usNow with
    | some k1 => (b.modCluster C fun x => { x with malLim := k1 }).toHost (f.forHost 1 m 0)
    | none => b.count (R.CLS_MAL_HOSTLIM_DROP C) 1

/-- HOSTLIM_WRITE (R139): a write of a HOSTLIM register fills its bucket to the new BURST. -/
def Block.hostlimWrite (w : Writer) (p r v : Nat) (b : Block) : Block :=
  (b.storeReg w (R.PRT_HOSTLIM p r) v).modPort p fun x => { x with lims := SMap.set {} x.lims r ⟨0, b.usNow⟩ }

/-! ## The classifier (R133, R134, R136) -/

/-- Frame i has been parsed, by the Sieve and by any routine: its malformed class decides its path, or its parse failure
does, or it waits to enter S0. -/
def Block.classify (b : Block) (i sub : Nat) : Block :=
  let f := b.frame i
  let C := clsOfPort f.port
  let mal := Vec.f f.hv 0 ⟨19, 16⟩
  let fail := Vec.f f.hv 0 ⟨23, 20⟩
  let b := b.modFrame i fun f => { f with me := match f.me with | .none => .none | _ => .ended }
  if mal != 0 then
    let b := ((b.count (R.CLS_MAL_CNT C (mal - 1)) 1).pmc (.cls C) 0x05 mal 1).sendOncePerMs 0xB C 0x21 mal
    match b.word (R.CLS_MAL_ACTION C) / 4 ^ (mal - 1) % 4 with
    | 0 => b.dropFrame i
    | 1 => (b.dropFrame i).malLimit f mal
    | _ => b
  else if fail != 0 then (b.dropFrame i).unitLimit f fail sub
  else b

/-! ## Fragment tables (R141 to R149) -/

def Block.fragLife (b : Block) (C : Nat) : Nat := b.fld (R.CLS_FRAG_CFG C) F.CLS_FRAG_CFG_FRAG_LIFE
/-- The age of an entry in µs (R145). -/
def Block.fragAge (b : Block) (e : FragEntry) : Nat := (b.ticks - e.born) / 1000

/-- A live entry as READ returns it (Table 4-19). -/
def Block.fragImage (b : Block) (e : FragEntry) : Vec :=
  let n := if e.v6 then 16 else 4
  let word (i : Nat) : Nat := beAt e.key i 4
  let addr (i : Nat) : List Nat :=
    if e.v6 then [word (i + 12), word (i + 8), word (i + 4), word i] else [word i, 0, 0, 0]
  let proto := byteAt e.key (2 * n)
  let id := if e.v6 then word (2 * n + 1) else beAt e.key (2 * n + 1) 2
  Vec.ofList ([2 ^ 31 + b2n e.pending * 2 ^ 30 + b2n e.v6 * 2 ^ 29 + b.fragAge e % 65536, proto * 2 ^ 24, id] ++ addr 0 ++ addr n
    ++ (List.range 5).map (Vec.w e.result))

/-- FRAG_EXPIRE (R145): every entry of cluster C whose age has reached FRAG_LIFE is freed and counted. -/
def Block.fragExpire (C : Nat) (b : Block) : Block :=
  let old := (b.cluster C).frags.filter fun e => b.fragAge e.2 ≥ b.fragLife C
  if old.isEmpty then b
  else
    let b1 := b.modCluster C fun x => { x with frags := x.frags.filter fun e => !(b.fragAge e.2 ≥ b.fragLife C) }
    b1.count (R.CLS_FRAG_EXPIRED C) old.length

/-- The slots of a key's set, in way order. -/
def fragSlots (key : List Byte) : List Nat := (List.range 8).map fun w => crc32 key % 1024 * 8 + w
/-- The slot of the key's live entry. -/
def Block.fragFind (b : Block) (C : Nat) (v6 : Bool) (key : List Byte) : Option Nat :=
  (fragSlots key).find? fun s =>
    match SMap.find (b.cluster C).frags s with
    | some e => e.v6 == v6 && e.key == key
    | none => false

def Block.setFrag (b : Block) (C s : Nat) (e : FragEntry) : Block :=
  b.modCluster C fun x => { x with frags := SMap.put x.frags s e }

/-- The Sieve takes first fragment i (R142, R144): its entry is created or rewritten, PENDING with age 0. -/
def Block.fragFirst (b : Block) (i C : Nat) (v6 : Bool) (key : List Byte) : Block :=
  let b := b.fragExpire C
  let e : FragEntry := { v6 := v6, key := key, born := b.ticks, owner := i }
  let slot := match b.fragFind C v6 key with
    | some s => some s
    | none => (fragSlots key).find? fun s => (SMap.find (b.cluster C).frags s).isNone
  match slot with
  | some s => ((b.setFrag C s e).count (R.CLS_FRAG_CREATED C) 1).modFrame i fun f => { f with fragSlot := some s }
  | none => (b.count (R.CLS_FRAG_SET_FULL C) 1).sendOncePerMs 0xB C 0x20 0

/-- FRAG_FLUSH, a write of FRAG_CFG (R146, R147): a FLUSH of 1 frees every entry of the cluster. A FRAG_LIFE of 0 is
refused. -/
def Block.fragFlush (w : Writer) (C v : Nat) (b : Block) : Block :=
  if F.CLS_FRAG_CFG_FRAG_LIFE.of v == 0 then b.refuse w (R.CLS_FRAG_CFG C)
  else
    let b := (b.fragExpire C).storeReg w (R.CLS_FRAG_CFG C) v
    if F.CLS_FRAG_CFG_FLUSH.of v == 1 then
      (b.modCluster C fun x => { x with frags := [] }).raise (R.CLS_FRAG_STATUS C) F.CLS_FRAG_STATUS_FLUSH_BUSY
    else b

/-- FRAG_FLUSH_DONE (R146). -/
def Block.fragFlushDone (C : Nat) (b : Block) : Block := b.lower (R.CLS_FRAG_STATUS C) F.CLS_FRAG_STATUS_FLUSH_BUSY

/-! ## The parse of a frame (R122 to R131) -/

/-- The Sieve's settings in cluster C. -/
def Block.sieveCfg (b : Block) (C : Nat) : SieveCfg where
  tpidAlt := b.fld (R.CLS_SIEVE_CFG C) F.CLS_SIEVE_CFG_TPID_ALT
  vxlan := b.fld (R.CLS_UDP_PORTS0 C) F.CLS_UDP_PORTS0_VXLAN_PORT
  geneve := b.fld (R.CLS_UDP_PORTS0 C) F.CLS_UDP_PORTS0_GENEVE_PORT
  roce := b.fld (R.CLS_UDP_PORTS1 C) F.CLS_UDP_PORTS1_ROCE_PORT
  etypes := (List.range 4).filterMap fun i =>
    if b.flag (R.CLS_ETYPE_HANDOFF C i) F.CLS_ETYPE_HANDOFF_EN then
      some (b.fld (R.CLS_ETYPE_HANDOFF C i) F.CLS_ETYPE_HANDOFF_ETYPE) else none
  udps := (List.range 4).filterMap fun i =>
    if b.flag (R.CLS_UDP_HANDOFF C i) F.CLS_UDP_HANDOFF_EN then
      some (b.fld (R.CLS_UDP_HANDOFF C i) F.CLS_UDP_HANDOFF_PORT) else none

/-- The Sieve takes frame i of the pipe: its vector, its fragment entry, its hand-off (R129). -/
def Block.parseFrame (b : Block) (i : Nat) : Block :=
  let f := b.frame i
  let C := clsOfPort f.port
  let v := sieve (b.sieveCfg C) f.bytes
  let en := b.flag (R.CLS_FRAG_CFG C) F.CLS_FRAG_CFG_EN && f.host.isNone
  let first := Vec.f v.hv 0 ⟨28, 28⟩ == 1
  let b := b.pmc (.cls C) 0x01 (f.port % 8) 1
  let b := b.modFrame i fun f =>
    { f with loc := .pipe, stage := 0, hv := v.hv, fragKey := v.fragKey, fragV6 := v.fragV6,
             fragUse := v.frag && en && !first }
  let b := if v.frag && en && first then b.fragFirst i C v.fragV6 v.fragKey else b
  if v.stop == 0 then b.classify i 0
  else
    let b := b.pmc (.cls C) 0x02 v.stop 1
    let h := R.CLS_HANDOFF C v.stop
    if b.flag h F.CLS_HANDOFF_ROUTINE_EN then
      b.modFrame i fun f => { f with me := .waiting (b.fld h F.CLS_HANDOFF_ENTRY) }
    else if b.flag h F.CLS_HANDOFF_NOROUTINE && v.mal == 0 then
      (b.modFrame i fun f => { f with hv := Vec.put f.hv 0 ⟨23, 20⟩ 2 }).classify i 0
    else b.classify i 0

/-- Frames of port p in its order buffer (R130). -/
def Block.orderBuf (b : Block) (p : Nat) : List (Nat × Frame) := (b.at_ p .pipe).filter fun e => e.2.stage == 0

/-- Whether the pipe of port p may take a frame: the boot sequencer has admitted frames, the die is not held, and one of
the 96 slots is free (R130, R417, R496). -/
def Block.mayTake (b : Block) (p : Nat) : Bool :=
  b.locked && !b.frozen (dieOfPort p) && (b.orderBuf p).length < 96

/-- PIPE_TAKE_HEAD (R93, R123): the pipe of port p takes the oldest frame of its staging FIFO. -/
def Block.pipeTakeHead (p : Nat) (b : Block) : Block :=
  if !b.mayTake p then b
  else match b.at_ p .staging with
    | (i, _) :: _ =>
      let before := b.stgFill p
      ((b.modFrame i fun f => { f with loc := .pipe }).stgWatch p before).parseFrame i
    | [] => b

end Sys2Proof.Machine
end

