-- ==== Sys2Proof/Machine/Sha.lean ====
section
/-!
DEFINITION. Machine/Sha.lean: SHA-384 (the standard that R420, R423 and R458 name) and the Tally hash H of R458. The constants are
computed as the standard defines them, and the eight working variables of a round are held as the last four values of two sequences.
-/
namespace Sys2Proof.Machine
open Sys2Proof

/-- The largest x of n bits whose k-th power is at most v, bit by bit; `x` holds the bits above. -/
def rootBits (k v : Nat) : Nat → Nat → Nat
  | 0, x => x
  | n + 1, x => rootBits k v n (if (x + 2 ^ n) ^ k ≤ v then x + 2 ^ n else x)

/-- The first 64 bits of the fraction of the k-th root of p. -/
def rootFraction (k p : Nat) : Nat := rootBits k (p * 2 ^ (64 * k)) 70 0 % 2 ^ 64

/-- The first 80 primes: the numbers below 21² that no smaller one up to 20 divides. -/
def shaPrimes : List Nat := (List.range 410).filter fun n => n ≥ 2 && (List.range 21).all fun d => d < 2 || n ≤ d || n % d != 0

/-- The constant of each round: from the cube roots of the first 80 primes. -/
def sha384Rounds : List Nat := shaPrimes.map (rootFraction 3)
/-- The initial chaining value: from the square roots of the 9th to 16th primes. -/
def sha384Start : List Nat := ((shaPrimes.drop 8).take 8).map (rootFraction 2)

/-- x to the right by n places in a word of 64 bits, with what leaves it coming in at the top. -/
def turnRight (x n : Nat) : Nat := x >>> n ||| x <<< (64 - n) % 0x10000000000000000

/-- The exclusive or of three turns of x. -/
def turns (i j k x : Nat) : Nat := turnRight x i ^^^ turnRight x j ^^^ turnRight x k

/-- The next word of the message schedule after these, which stand newest first. -/
def shaWord : List Nat → Nat
  | _ :: y :: _ :: _ :: _ :: _ :: z :: _ :: _ :: _ :: _ :: _ :: _ :: _ :: u :: t :: _ =>
    (t + (turnRight u 1 ^^^ turnRight u 8 ^^^ u >>> 7) + z + (turnRight y 19 ^^^ turnRight y 61 ^^^ y >>> 6)) % 0x10000000000000000
  | _ => 0

/-- The schedule, oldest first, that n more words make of what is there of it, newest first. -/
def shaWords : Nat → List Nat → List Nat
  | 0, l => l.reverse
  | n + 1, l => shaWords n (shaWord l :: l)

/-- One round, with its constant and its word: each of the two sequences, of which the last four values are held, newest first, gains
one. -/
def shaRound (s : List Nat × List Nat) (x : Nat × Nat) : List Nat × List Nat :=
  match s with
  | (a0 :: a1 :: a2 :: a3 :: _, e0 :: e1 :: e2 :: e3 :: _) =>
    let t := e3 + turns 14 18 41 e0 + (e2 ^^^ (e0 &&& (e1 ^^^ e2))) + x.1 + x.2
    ([(t + turns 28 34 39 a0 + ((a0 &&& a1) ||| (a2 &&& (a0 ||| a1)))) % 0x10000000000000000, a0, a1, a2],
      [(t + a3) % 0x10000000000000000, e0, e1, e2])
  | _ => s

/-- The first n words of 64 bits of a message. -/
def shaIn : Nat → List Byte → List Nat
  | 0, _ => []
  | n + 1, l => beVal (l.take 8) :: shaIn n (l.drop 8)

/-- The chaining value after the first block, of 128 bytes, of l. -/
def shaFold (v : List Nat) (l : List Byte) : List Nat :=
  let s := (sha384Rounds.zip (shaWords 64 (shaIn 16 l).reverse)).foldl shaRound (v.take 4, v.drop 4)
  List.zipWith (fun x y => (x + y) % 0x10000000000000000) v (s.1 ++ s.2)

/-- The chaining value after the first n blocks of l. -/
def shaBlocks : Nat → List Byte → List Nat → List Nat
  | 0, _, v => v
  | n + 1, l, v => shaBlocks n (l.drop 128) (shaFold v l)

/-- The message with a 1 bit, zeros, and its length in bits in 16 bytes: a whole number of blocks. -/
def shaPad (m : List Byte) : List Byte :=
  m ++ [0x80] ++ zeros ((239 - m.length % 128) % 128) ++ beBytes 16 (8 * m.length)

/-- The 48 bytes of SHA-384. -/
def sha384 (m : List Byte) : List Byte :=
  let p := shaPad m
  ((shaBlocks (p.length / 128) p sha384Start).take 6).flatMap fun x => beBytes 8 x

/-- The Tally hash H (R458): bytes 0 to 7 of SHA-384 as a little-endian number. -/
def tallyHash (m : List Byte) : Nat := leVal ((sha384 m).take 8)

end Sys2Proof.Machine
end

