-- ==== Sys2Proof/Machine/Micro.lean ====
section
/-!
DEFINITION. Machine/Micro.lean: the microengine contexts, the microwords, safe points and requests, and the store's
maintenance port (spec/05, R152 to R174).
-/
namespace Sys2Proof.Machine
open Sys2Proof

def Block.ctx (b : Block) (C k : Nat) : Ctx := SMap.get {} (b.cluster C).ctxs k
def Block.setCtx (b : Block) (C k : Nat) (x : Ctx) : Block := b.modCluster C fun c => { c with ctxs := SMap.set {} c.ctxs k x }

/-- The word at address a of cluster C's store; every word that the boot sequencer did not write holds the fill word. -/
def Block.microAt (b : Block) (C a : Nat) : Micro := Micro.decode (BitVec.ofNat 192 (SMap.get 0 (b.cluster C).store a))

/-- The frame of port p that waits longest for a context, and its ENTRY (R22). -/
def Block.waitingAt (b : Block) (p : Nat) : Option (Nat × Nat) :=
  (b.orderBuf p).findSome? fun e => match e.2.me with | .waiting entry => some (e.1, entry) | _ => none

/-- CONTEXT_START (R22, R153): a free context of cluster C takes a waiting frame, units in rotating order. -/
def Block.contextStart (C : Nat) (b : Block) : Block :=
  let free := (List.range 64).find? fun k => (b.ctx C k).frame.isNone
  let units := (List.range 8).map fun n => ((b.cluster C).lastUnit + 1 + n) % 8
  let next := units.findSome? fun u => (b.waitingAt (8 * C + u)).map fun e => (u, e)
  if b.frozen (C / 8) then b
  else match free, next with
    | some k, some (u, i, entry) =>
      let f := b.frame i
      let x : Ctx := { frame := some i, pc := entry, cur := Vec.f f.hv 3 ⟨8, 0⟩, steps := 1, vec := f.hv }
      let b := (b.setCtx C k x).modCluster C fun c => { c with lastUnit := u }
      let b := b.modFrame i fun f => { f with me := .running }
      ((b.count (R.CLS_ME_STARTS C) 1).count (R.CLS_ME_HANDSHAKES C) 1).pmc (.cls C) 0x03 0xFFF 1
    | _, _ => b

/-! ## The window and the vector -/

/-- An extract (R156): the field, and whether it touched a byte at or beyond WIN_LEN. -/
def extract (bytes : List Byte) (winLen from_ bitoff n : Nat) : Nat × Bool :=
  let w := bytes.take winLen
  (beAt w from_ 5 / 2 ^ (40 - bitoff - n) % 2 ^ n, decide ((8 * from_ + bitoff + n - 1) / 8 ≥ winLen))

/-- A write of CUR, clamped at 256 (R158). -/
def Ctx.putCur (x : Ctx) (v : Nat) : Ctx := if v > 256 then { x with cur := 256, ovr := true } else { x with cur := v }

/-- A write of the result through DST (Table 5-2). -/
def Ctx.putDst (x : Ctx) (dst v : Nat) : Ctx :=
  match dst with
  | 1 => { x with x := v }
  | 2 => { x with y := v }
  | 3 => x.putCur v
  | _ => x

/-- The header-vector write of R157. `old` is the context as the word found it. -/
def Ctx.hvWrite (x old : Ctx) (m : Micro) (result : Nat) : Ctx :=
  if m.hvwEn == 0 || m.hvwWord == 0 then x
  else
    let src := match m.hvwSrc.toNat with | 0 => result | 1 => old.x | 2 => old.y | _ => m.value.toNat
    let lsb := m.hvwLsb.toNat
    let hi := min 31 (lsb + m.hvwLen.toNat)
    { x with vec := Vec.put x.vec m.hvwWord.toNat ⟨hi, lsb⟩ src }

/-- The frame's window as the context reads it. -/
def Block.winOf (b : Block) (x : Ctx) : List Byte × Nat :=
  match x.frame with
  | some i => ((b.frame i).bytes, min 256 (b.frame i).bytes.length)
  | none => ([], 0)

def Micro.byteOff (m : Micro) (x : Ctx) : Nat := m.offset.toNat + (if m.rel == 1 then x.cur else 0)

/-! ## One word (Table 5-4) -/

/-- Counts a word's handshakes. -/
def Block.hands (b : Block) (C n : Nat) : Block := (b.count (R.CLS_ME_HANDSHAKES C) n).pmc (.cls C) 0x03 0xFFF n
def Ctx.stepBy (x : Ctx) (n : Nat) : Ctx := { x with steps := min 4095 (x.steps + n) }

/-- The word ran and the routine goes on at `pc`. -/
def Block.goOn (b : Block) (C k : Nat) (x : Ctx) (n pc : Nat) : Block :=
  (b.setCtx C k { x.stepBy n with pc := pc }).hands C n

/-- Runs f on context k of cluster C when the word at its PC is an `op`. -/
def Block.word_ (b : Block) (C k : Nat) (op : MicroOp) (f : Ctx → Micro → Block → Block) : Block :=
  let x := b.ctx C k
  let m := b.microAt C x.pc
  if x.frame.isSome && m.kind == op then f x m b else b

/-- EXT: extracts, and branches by `test field mask value`. -/
def Block.ext (op : MicroOp) (test : Nat → Nat → Bool) (C k : Nat) (b : Block) : Block :=
  b.word_ C k op fun x m b =>
    let w := b.winOf x
    let e := extract w.1 w.2 (m.byteOff x) m.bitoff.toNat (m.width.toNat + 1)
    let x1 := ({ x with ovr := x.ovr || e.2 }.putDst m.dst.toNat e.1).hvWrite x m e.1
    let msk := m.mask.toNat
    b.goOn C k x1 1 (if test (e.1 &&& msk) (m.value.toNat &&& msk) then m.t0.toNat else m.t1.toNat)

def Block.extEq (C k : Nat) (b : Block) : Block := b.ext .extEq (fun u v => u == v) C k
def Block.extLt (C k : Nat) (b : Block) : Block := b.ext .extLt (fun u v => u < v) C k

/-- ALU: result = A op B modulo 2^32. -/
def Block.alu (op : MicroOp) (f : Nat → Nat → Nat) (C k : Nat) (b : Block) : Block :=
  b.word_ C k op fun x m b =>
    let a := match m.aux.toNat % 8 with | 1 => x.x | 2 => x.y | 3 => x.cur | _ => 0
    let r := f a m.value.toNat % 2 ^ 32
    let x1 := (x.putDst m.dst.toNat r).hvWrite x m r
    b.goOn C k x1 1 (if r &&& m.mask.toNat == 0 then m.t0.toNat else m.t1.toNat)

def Block.aluAdd (C k : Nat) (b : Block) : Block := b.alu .add (· + ·) C k
def Block.aluSub (C k : Nat) (b : Block) : Block := b.alu .sub (fun a v => a + 2 ^ 32 - v) C k
def Block.aluAnd (C k : Nat) (b : Block) : Block := b.alu .and (fun a v => a &&& v) C k
def Block.aluOr (C k : Nat) (b : Block) : Block := b.alu .or (fun a v => a ||| v) C k
def Block.aluXor (C k : Nat) (b : Block) : Block := b.alu .xor (fun a v => a ^^^ v) C k
def Block.aluShl (C k : Nat) (b : Block) : Block := b.alu .shl (fun a v => a * 2 ^ (v % 32)) C k
def Block.aluShr (C k : Nat) (b : Block) : Block := b.alu .shr (fun a v => a / 2 ^ (v % 32)) C k
def Block.aluMove (C k : Nat) (b : Block) : Block := b.alu .move (fun _ v => v) C k

/-- ADV: advances CUR. -/
def Block.adv (C k : Nat) (b : Block) : Block :=
  b.word_ C k .adv fun x m b =>
    let w := b.winOf x
    let e := extract w.1 w.2 (m.byteOff x) m.bitoff.toNat (m.width.toNat + 1)
    let x1 := { x with ovr := x.ovr || e.2 }.putCur (x.cur + e.1 * 2 ^ (m.aux.toNat % 8) + m.value.toNat % 512)
    let x2 := x1.hvWrite x m x1.cur
    b.goOn C k x2 1 (if x1.cur < w.2 then m.t0.toNat else m.t1.toNat)

/-- DISPATCH: a jump to T0 plus a masked field, modulo 4,096. -/
def Block.dispatch (C k : Nat) (b : Block) : Block :=
  b.word_ C k .dispatch fun x m b =>
    let w := b.winOf x
    let e := extract w.1 w.2 (m.byteOff x) m.bitoff.toNat (m.width.toNat + 1)
    b.goOn C k { x with ovr := x.ovr || e.2 } 1 ((m.t0.toNat + (e.1 &&& (m.mask.toNat % 16))) % 4096)

/-- BRANCH: to T0 where the condition holds. -/
def Block.br (op : MicroOp) (c : Ctx → Bool) (C k : Nat) (b : Block) : Block :=
  b.word_ C k op fun x m b => b.goOn C k x 1 (if c x then m.t0.toNat else m.t1.toNat)
def Block.branch (C k : Nat) (b : Block) : Block := b.br .branch (fun _ => true) C k
def Block.branchOvr (C k : Nat) (b : Block) : Block := b.br .branchOvr (fun x => x.ovr) C k
def Block.branchEq (C k : Nat) (b : Block) : Block := b.br .branchEq (fun x => x.x == x.y) C k
def Block.branchLt (C k : Nat) (b : Block) : Block := b.br .branchLt (fun x => x.x < x.y) C k

/-- CSUM: a one's-complement sum over L bytes of the window. -/
def Block.sum (op : MicroOp) (start : Ctx → Nat) (C k : Nat) (b : Block) : Block :=
  b.word_ C k op fun x m b =>
    let w := b.winOf x
    let l := if m.value.toNat % 512 == 0 then 256 else m.value.toNat % 512
    let from_ := m.byteOff x
    let bytes := slice (w.1.take w.2 ++ zeros 1024) from_ (from_ + l)
    let r := fold16 (sum16 bytes + start x)
    let x1 := { x with x := r, ovr := x.ovr || decide (from_ + l > w.2) }
    b.goOn C k (x1.hvWrite x m r) ((l + 31) / 32) (if r == 0xFFFF then m.t0.toNat else m.t1.toNat)
def Block.csum (C k : Nat) (b : Block) : Block := b.sum .csum (fun _ => 0) C k
def Block.csumContinue (C k : Nat) (b : Block) : Block := b.sum .csumContinue (fun x => x.x % 65536) C k

/-! ## Safe points (R160 to R163) -/

/-- Whether HOLD is pending for the contexts of cluster C (Table 5-5). -/
def Block.holdPending (b : Block) (C : Nat) : Bool := (b.die (C / 8)).phase == .parking

/-- A frame lost to Hold (R46). -/
def Block.holdLost (b : Block) (d n : Nat) : Block :=
  (b.count (R.DIE_HOLD_DROP d) n).modDie d fun x => { x with dropped := x.dropped + n }

/-- HOLD acts: the context discards the frame and parks. -/
def Block.park (b : Block) (C k i : Nat) : Block := ((b.setCtx C k {}).dropFrame i).holdLost (C / 8) 1

/-- The routine ends with parse failure `r` and nothing written back (LIMIT, ABORT, an illegal word). -/
def Block.fault_ (b : Block) (C k i : Nat) : Block :=
  let b := (b.setCtx C k {}).modFrame i fun f => { f with hv := Vec.put f.hv 0 ⟨23, 20⟩ 4 }
  b.classify i 0

/-- The routine ends and its vector is written back with HV0 changed by g (END, FAIL). -/
def Block.finish (b : Block) (C k i sub : Nat) (g : Vec → Vec) : Block :=
  let x := b.ctx C k
  let b := (b.setCtx C k {}).modFrame i fun f => { f with hv := g x.vec }
  b.classify i sub

/-- CHECK (R160): the first pending request in the order HOLD, LIMIT, ABORT acts. -/
def Block.check (C k : Nat) (b : Block) : Block :=
  b.word_ C k .check fun x m b =>
    let i := x.frame.getD 0
    let x1 := x.stepBy 1
    let b := b.hands C 1
    if b.holdPending C then b.park C k i
    else if x1.steps ≥ b.fld (R.CLS_ME_CFG C) F.CLS_ME_CFG_STEP_LIMIT then
      ((b.count (R.CLS_ME_LIMIT C) 1).sendOncePerMs 0xB C 0x29 0).fault_ C k i
    else if x1.abort then (b.count (R.CLS_ME_ABORT C) 1).fault_ C k i
    else b.setCtx C k { x1 with pc := m.t0.toNat }

/-- An END or FAIL word: HOLD acts, or the routine ends. -/
def Block.ending (op : MicroOp) (cnt : Nat → Nat) (sub : Micro → Nat) (g : Micro → Vec → Vec) (C k : Nat) (b : Block) : Block :=
  b.word_ C k op fun x m b =>
    let i := x.frame.getD 0
    let b := b.hands C 1
    if b.holdPending C then b.park C k i
    else (b.count (cnt C) 1).finish C k i (sub m) (g m)

/-- END OP 0: HV0.ME ← 1. -/
def Block.endPlain (C k : Nat) (b : Block) : Block :=
  b.ending .end_ R.CLS_ME_END (fun _ => 0) (fun _ v => v.put 0 ⟨31, 31⟩ 1) C k
/-- END OP 1: and HV0.MAL ← AUX[3:0]. DESIGN CHOICE (assumption 122): also over a class 5 or 7 that the Sieve found. -/
def Block.endMal (C k : Nat) (b : Block) : Block :=
  b.ending .endMal R.CLS_ME_END (fun _ => 0) (fun m v => (v.put 0 ⟨31, 31⟩ 1).put 0 ⟨19, 16⟩ (m.aux.toNat % 16)) C k
/-- FAIL OP 0: parse failure UCODE_FAIL with subcode AUX. -/
def Block.failPlain (C k : Nat) (b : Block) : Block :=
  b.ending .fail R.CLS_ME_FAIL (fun m => m.aux.toNat) (fun _ v => v.put 0 ⟨23, 20⟩ 3) C k
/-- FAIL OP 1: parse failure WINDOW. -/
def Block.failWindow (C k : Nat) (b : Block) : Block :=
  b.ending .failWindow R.CLS_ME_FAIL (fun _ => 0) (fun _ v => v.put 0 ⟨23, 20⟩ 1) C k

/-- ILLEGAL_WORD (R161): the context stops at once. -/
def Block.illegalWord (C k : Nat) (b : Block) : Block :=
  b.word_ C k .illegal fun x _ b =>
    let i := x.frame.getD 0
    if b.holdPending C then b.park C k i
    else ((b.count (R.CLS_ME_ILLEGAL C) 1).sendOncePerMs 0xB C 0x28 x.pc).fault_ C k i

/-- ABORT, a write of ME_CTRL (R163): raises ABORT for every running context of cluster C. -/
def Block.abort (C v : Nat) (b : Block) : Block :=
  if F.CLS_ME_CTRL_ABORT.of v == 1 then
    b.modCluster C fun c => { c with ctxs := c.ctxs.map fun e => (e.1, { e.2 with abort := true }) }
  else b

/-! ## The maintenance port (R169, R173) -/

/-- The digest of a store: H over its 4,096 words in address order, bits [31:0] first (R458). -/
def Block.storeDigest (b : Block) (C : Nat) : Nat :=
  tallyHash ((List.range 4096).flatMap fun a => leBytes 24 (SMap.get 0 (b.cluster C).store a))

/-- REDIGEST, a write of CS_CTRL (R169): ignored while DIGEST_BUSY is 1. -/
def Block.redigest (C v : Nat) (b : Block) : Block :=
  if F.CLS_CS_CTRL_REDIGEST.of v == 1 then b.raise (R.CLS_CS_STATUS C) F.CLS_CS_STATUS_DIGEST_BUSY else b

/-- REDIGEST_DONE. -/
def Block.redigestDone (C : Nat) (b : Block) : Block :=
  if b.flag (R.CLS_CS_STATUS C) F.CLS_CS_STATUS_DIGEST_BUSY then
    (b.setCtr (R.CLS_CS_DIGEST_NOW C) (b.storeDigest C)).lower (R.CLS_CS_STATUS C) F.CLS_CS_STATUS_DIGEST_BUSY
  else b

/-- CS_RD_ADDR (R173): a write latches the addressed word into CS_RD_DATA. -/
def Block.csRdAddr (w : Writer) (C v : Nat) (b : Block) : Block :=
  let b := b.storeReg w (R.CLS_CS_RD_ADDR C) v
  let x := SMap.get 0 (b.cluster C).store (F.CLS_CS_RD_ADDR_ADDR.of v)
  b.each 6 fun b j => b.setWord (R.CLS_CS_RD_DATA C j) (x / 2 ^ (32 * j) % 2 ^ 32)

end Sys2Proof.Machine
end

