-- ==== Sys2Proof/Machine/Tables.lean ====
section
/-!
DEFINITION. Machine/Tables.lean: the tables of a die as searches read them: direct entries, the exact-match store with its
hashed places, the associative memories with their parts, action templates, and the merge of action records (spec/06,
R178 to R187; spec/07, R199 to R204; spec/08, R232 to R256).
-/
namespace Sys2Proof.Machine
open Sys2Proof

def Block.engine (b : Block) (d : Nat) : Engine := SMap.get {} b.engines d
def Block.modEngine (b : Block) (d : Nat) (f : Engine → Engine) : Block :=
  { b with engines := SMap.mod {} b.engines d f }
def Block.region (b : Block) (G : Nat) : Region := SMap.get {} b.regions G
def Block.modRegion (b : Block) (G : Nat) (f : Region → Region) : Block :=
  { b with regions := SMap.mod {} b.regions G f }

/-- The candidates in the Gleaner queue. -/
def Engine.candidates (e : Engine) : Nat := (e.glQueue.filter fun | .cand _ _ => true | .removal _ _ _ => false).length

/-! ## Table identifiers (Table 6-3) -/

def T.portVlan : Nat := 0x0
def T.tunnel : Nat := 0x1
def T.l2 : Nat := 0x2
def T.host : Nat := 0x3
def T.lpm : Nat := 0x4
def T.aclIn : Nat := 0x5
def T.nexthop : Nat := 0x6
def T.ecmp : Nat := 0x7
def T.mcast : Nat := 0x8
def T.rewrite : Nat := 0x9
def T.policer : Nat := 0xA
def T.counter : Nat := 0xB
def T.aclOut : Nat := 0xC
def T.frag : Nat := 0xD
def T.queueMap : Nat := 0xE
def T.sampler : Nat := 0xF

/-- Entry i of a direct table of die d. -/
def Block.entry (b : Block) (d t i : Nat) : Vec := SMap.get [] (b.engine d).direct (t * 2 ^ 20 + i)
def Block.setEntry (b : Block) (d t i : Nat) (v : Vec) : Block :=
  b.modEngine d fun e => { e with direct := SMap.set [] e.direct (t * 2 ^ 20 + i) v }

/-! ## The exact-match store (R199 to R203) -/

/-- CRC-32C (RFC 3720). -/
def crc32c (l : List Byte) : Nat := crcRun 0x82F63B78 l 0xFFFFFFFF ^^^ 0xFFFFFFFF

/-- Table 7-2: the table of an entry kind; 0 for the second-slot mark. -/
def kindTable : Nat → Nat
  | 0 | 1 | 2 => 2
  | 3 | 4 => 1
  | 5 | 6 => 3
  | _ => 0
def kindTwo (k : Nat) : Bool := k == 4 || k == 6

/-- The candidate place of a key in way w: its (first) slot index (R200). -/
def Block.emPlace (b : Block) (d t : Nat) (two : Bool) (key w : Nat) : Nat :=
  let h := crc32c (beBytes 4 (b.word (R.TBL_EM_SEED d w)) ++ beBytes 1 t ++ beBytes (if two then 24 else 12) key)
  let bank := w * 128 + h % 128
  if two then bank * 2048 + h / 256 % 1024 * 2 else bank * 2048 + h / 128 % 2048

/-- The four candidate places of a key (R200). -/
def Block.emPlaces (b : Block) (d t : Nat) (two : Bool) (key : Nat) : List Nat := (List.range 4).map (b.emPlace d t two key)

/-- The entry that holds slot s, with its first slot. -/
def Engine.emAt (e : Engine) (s : Nat) : Option (Nat × EmEntry) :=
  match SMap.find e.em s with
  | some x => some (s, x)
  | none =>
    if s % 2 == 1 then
      match SMap.find e.em (s - 1) with
      | some x => if kindTwo x.kind then some (s - 1, x) else none
      | none => none
    else none

/-- Searches table t of die d for a key of the given form (R203): its slot and its entry. -/
def Block.emFind (b : Block) (d t : Nat) (two : Bool) (key : Nat) : Option (Nat × EmEntry) :=
  (List.range 4).findSome? fun w =>
    let s := b.emPlace d t two key w
    match SMap.find (b.engine d).em s with
    | some x => if kindTable x.kind == t && kindTwo x.kind == two && x.key == key then some (s, x) else none
    | none => none

/-- A hit in region g of die d stamps the entry with the age clock (R221). -/
def Block.emStamp (b : Block) (d g s : Nat) : Block :=
  b.modEngine d fun e => { e with em := e.em.map fun x =>
    if x.1 == s then (x.1, if g == 0 then { x.2 with stamp0 := e.clock % 65536 } else { x.2 with stamp1 := e.clock % 65536 })
    else x }

/-! ## Action records and the merge (R182, R184, Table 6-6) -/

/-- An action record: D0 to D4, the override mask, and the values for carry USER0 and USER1. -/
structure Rec where
  w : Vec := []
  ovr : Nat := 0
  user0 : Nat := 0
  user1 : Nat := 0
deriving DecidableEq, Repr

/-- The descriptor fields of an override group. -/
def groupFields : Nat → List (Nat × Bf)
  | 0 => [(0, ⟨31, 29⟩), (0, ⟨23, 16⟩)]
  | 1 => [(0, ⟨28, 27⟩), (1, ⟨31, 14⟩)]
  | 2 => [(0, ⟨7, 0⟩)]
  | 3 => [(1, ⟨13, 12⟩)]
  | 4 => [(1, ⟨11, 5⟩)]
  | 5 => [(1, ⟨4, 1⟩)]
  | 6 => [(0, ⟨24, 24⟩)]
  | 7 => [(3, ⟨31, 14⟩)]
  | 8 => [(4, ⟨31, 13⟩), (3, ⟨13, 13⟩)]
  | 9 => [(1, ⟨0, 0⟩), (2, ⟨13, 11⟩)]
  | 12 => [(0, ⟨25, 25⟩), (2, ⟨10, 3⟩)]
  | 13 => [(2, ⟨31, 14⟩)]
  | _ => []

/-- The merged record takes the fields of every group that the record names, among the groups allowed. -/
def mergeRec (allowed : List Nat) (m : Vec) (r : Rec) : Vec :=
  allowed.foldl (fun m g =>
    if bitOf r.ovr g then (groupFields g).foldl (fun m x => m.put x.1 x.2 (r.w.f x.1 x.2)) m else m) m

/-- Groups 10 and 11: the carry's USER0 and USER1. -/
def mergeUser (c : Vec) (r : Rec) : Vec :=
  let c := if bitOf r.ovr 10 then c.set 1 r.user0 else c
  if bitOf r.ovr 11 then c.put 0 ⟨23, 0⟩ r.user1 else c

def ingressGroups : List Nat := [0, 1, 2, 3, 4, 5, 6, 7, 8, 9]

/-- Template t of die d with the destination of an entry (R204). -/
def Block.template (b : Block) (d t : Nat) (fwdKind fwdIdx : Nat) : Rec × Vec :=
  let tw := Vec.ofList ((List.range 9).map fun j => b.word (R.TBL_EM_TMPL d t j))
  ({ w := (tw.put 0 ⟨28, 27⟩ fwdKind).put 1 ⟨31, 14⟩ fwdIdx, ovr := tw.f 5 ⟨31, 16⟩,
     user0 := tw.w 6, user1 := tw.f 7 ⟨31, 8⟩ }, tw)

/-! ## Associative memories (R232 to R236) -/

def Assoc.isEmpty (a : Assoc) : Bool := !a.valid && a.key.isEmpty && a.mask.isEmpty && a.action.isEmpty

/-- The 128-bit address of an LPM key part. -/
def lpmAddr (k : Vec) : Nat := k.w 0 + 2 ^ 32 * k.w 1 + 2 ^ 64 * k.w 2 + 2 ^ 96 * k.w 3

/-- Whether an LPM entry matches (family, VRF, address) (Table 8-3). -/
def Assoc.lpmMatch (a : Assoc) (fam vrf addr : Nat) : Bool :=
  let plen := Vec.f a.key 4 ⟨7, 0⟩
  a.valid && Vec.f a.key 4 ⟨30, 30⟩ == fam && Vec.f a.key 4 ⟨29, 18⟩ == vrf
    && lpmAddr a.key / 2 ^ (128 - plen) == addr / 2 ^ (128 - plen)

/-- The partition index of an LPM key (R247). -/
def lpmPart (vrfBits fam vrf addr : Nat) : Nat :=
  fam * 128 + vrf % 2 ^ vrfBits * 2 ^ (7 - vrfBits) + addr / 2 ^ (121 + vrfBits)

/-- The banks of an LPM search on die d: first and count; none: the partition is not searched. -/
def Block.lpmBanks (b : Block) (d fam vrf addr : Nat) : Option (Nat × Nat) :=
  let a := R.TBL_LPM_BSEL d (lpmPart (b.fld (R.TBL_LPM_BSEL_CFG d) F.TBL_LPM_BSEL_CFG_VRF_BITS) fam vrf addr)
  if b.flag a F.TBL_LPM_BSEL_EN then some (b.fld a F.TBL_LPM_BSEL_FIRST, b.fld a F.TBL_LPM_BSEL_COUNT_M1 + 1) else none

/-- The first match on die d through its own map. -/
def Block.lpmFind (b : Block) (d fam vrf addr : Nat) : Option (Nat × Assoc) :=
  match b.lpmBanks d fam vrf addr with
  | some (first, n) =>
    (b.engine d).lpm.find? fun e => first ≤ e.1 / 4096 && e.1 / 4096 < first + n && e.2.lpmMatch fam vrf addr
  | none => none

/-- Whether an ACL entry matches a 320-bit key in ten words. -/
def Assoc.aclMatch (a : Assoc) (key : List Nat) : Bool :=
  a.valid && (List.range 10).all fun j => key.getD j 0 &&& Vec.w a.mask j == Vec.w a.key j &&& Vec.w a.mask j

/-- An ACL ACTION part as a record (Table 8-5). -/
def Assoc.aclRec (a : Assoc) : Rec :=
  { w := a.action.filter fun e => e.1 < 5, ovr := Vec.f a.action 5 ⟨31, 16⟩, user0 := Vec.w a.action 6,
    user1 := Vec.f a.action 7 ⟨31, 8⟩ }

/-- The ACL_IN entries of cluster c of a die, with their positions. -/
def Engine.aclInOf (e : Engine) (c : Nat) : List (Nat × Assoc) :=
  (e.aclIn.filter fun x => x.1 / 32768 == c).map fun x => (x.1 % 32768, x.2)

/-- The first match among the banks of a mask. -/
def Engine.aclFind (e : Engine) (c banks : Nat) (key : List Nat) : Option (Nat × Assoc) :=
  (e.aclInOf c).find? fun x => bitOf banks (x.1 / 2048) && x.2.aclMatch key

/-! ## Cascades (R252 to R256) -/

/-- The dies of die d's cascade set, ascending: 0 none, 2 pairs, 3 four. -/
def cascade (mode d : Nat) : List Nat :=
  match mode with
  | 2 => [d / 2 * 2, d / 2 * 2 + 1]
  | 3 => [0, 1, 2, 3]
  | _ => [d]

/-- A search by die d on die e: a held other die has no match, and CASC_HELD[e] counts it (R256). -/
def Block.cascSearch {α : Type} (b : Block) (d e : Nat) (f : Block → Option α) : Option α × Block :=
  if e != d && b.frozen e then (none, b.count (R.XBAR_CASC_HELD e) 1) else (f b, b)

/-- The result of the lowest die that matched. -/
def Block.cascFind {α : Type} (d : Nat) (f : Nat → Block → Option α) : List Nat → Block → Option α × Block
  | [], b => (none, b)
  | e :: es, b =>
    let r := b.cascSearch d e (f e)
    let t := Block.cascFind d f es r.2
    (match r.1 with | some x => some x | none => t.1, t.2)

end Sys2Proof.Machine
end

