-- ==== Sys2Proof/Machine/Lookup.lean ====
section
/-!
DEFINITION. Machine/Lookup.lean: the eight ingress stages S0 to S7 and the wait for a lossless source FIFO (spec/06, R175
to R188; spec/07, R217, R218; spec/08, R249 to R256; spec/09, R259 to R264, R280, R281; spec/10, R284, R286; spec/11,
R334 to R338; spec/17, R505).
-/
namespace Sys2Proof.Machine
open Sys2Proof

/-! ## Fields of the descriptor (Table 6-13) and of the carry word (Table 6-5), with their words -/

def D.act : Bf := ⟨31, 29⟩
def D.fwdKind : Bf := ⟨28, 27⟩
def D.resolved : Bf := ⟨26, 26⟩
def D.term : Bf := ⟨25, 25⟩
def D.ttlDec : Bf := ⟨24, 24⟩
def D.hostCode : Bf := ⟨23, 16⟩
def D.egPort : Bf := ⟨15, 8⟩
def D.class_ : Bf := ⟨7, 0⟩
def D.fwdIdx : Bf := ⟨31, 14⟩
def D.colour : Bf := ⟨13, 12⟩
def D.sampleEn : Bf := ⟨0, 0⟩
def D.rewriteIdx : Bf := ⟨31, 14⟩
def D.sampleProf : Bf := ⟨13, 11⟩
def D.decapOff : Bf := ⟨10, 3⟩
def D.policerIdx : Bf := ⟨31, 15⟩
def D.policeEn : Bf := ⟨14, 14⟩
def D.countEn : Bf := ⟨13, 13⟩
def D.counterIdx : Bf := ⟨31, 13⟩
def D.inPort : Bf := ⟨31, 24⟩
def D.cq : Bf := ⟨23, 16⟩
def D.len : Bf := ⟨15, 2⟩

def Cy.vrf : Bf := ⟨31, 20⟩
def Cy.bd : Bf := ⟨19, 6⟩
def Cy.route : Bf := ⟨5, 5⟩
def Cy.aclSet : Bf := ⟨3, 0⟩
def Cy.portClass : Bf := ⟨31, 24⟩
def Cy.l2Class : Bf := ⟨23, 16⟩
def Cy.l3Class : Bf := ⟨15, 8⟩
def Cy.tunClass : Bf := ⟨7, 0⟩

/-- HV1 bit n (Table 4-10). -/
def present (hv : Vec) (n : Nat) : Bool := bitOf (hv.w 1) n

/-- Stage n hit, or searched (carry HITS). -/
def setHit (c : Vec) (n : Nat) : Vec := c.put 0 ⟨24 + n, 24 + n⟩ 1

/-! ## The frame a stage takes -/

/-- The oldest frame of port p at stage n of its pipe; at S0 its parse must be complete (R130, R175). -/
def Block.atStage (b : Block) (p n : Nat) : Option (Nat × Frame) :=
  match (b.at_ p .pipe).find? fun e => e.2.stage == n with
  | some (i, f) => if f.me == .none || f.me == .ended then some (i, f) else none
  | none => none

/-- Runs stage n of port p's pipe, which passes the frame on to stage n + 1. -/
def Block.stage (b : Block) (p n : Nat) (g : Nat → Frame → Block → Block) : Block :=
  if b.frozen (dieOfPort p) then b
  else match b.atStage p n with
    | some (i, f) => g i f (b.modFrame i fun f => { f with stage := n + 1 })
    | none => b

/-! ## Search ports of banks (R201, R249, R254) -/

/-- Whether two reads are of one bank. -/
def Ask.same : Ask → Ask → Bool
  | .em s, .em t => s / 2048 == t / 2048
  | x, y => x == y
/-- The reads that a bank serves in a handshake (R201, Table 8-1, R254). -/
def Ask.ports : Ask → Nat
  | .em _ => 8
  | .lpm _ _ => 2
  | .acl _ _ _ _ => 1
/-- Whether it is a bank of an associative memory. -/
def Ask.assoc : Ask → Bool
  | .em _ => false
  | .lpm _ _ | .acl _ _ _ _ => true
/-- The number of a bank that serves in rotating order, within its region. -/
def Ask.key : Ask → Nat
  | .em _ => 0
  | .lpm _ k => k
  | .acl _ c u k => 64 + ((c * 8 + u) * 16 + k)
/-- The region whose bank serves a read for a frame of port p. -/
def Ask.region (p : Nat) : Ask → Nat
  | .em _ => rgnOfPort p
  | .lpm e _ => 2 * e + rgnOfPort p % 2
  | .acl e c _ _ => 2 * e + c / 4

/-- What the banks of region G have served in this handshake. -/
def Block.servedNow (b : Block) (G : Nat) : List Ask :=
  let c := (b.region G).cycle
  if c.at_ == b.ticks then c.served else []

/-- Whether the read of frame j, of port p', comes before that of a frame of port p at a bank that served port `last` - 1 last: in
rotating order of pipes at an associative bank; at the exact-match store a read that has waited goes before one that comes. -/
def Ask.before (a : Ask) (waited : Bool) (last p p' : Nat) : Bool :=
  if a.assoc then decide ((p' + 256 - last) % 256 < (p + 256 - last) % 256) else !waited

/-- The other reads that wait for the bank of `a` and come before frame i's. -/
def Block.asksAhead (b : Block) (i p : Nat) (a : Ask) : Nat :=
  let G := a.region p
  let last := SMap.get 0 (b.region G).bankTurn a.key
  let waited := (b.frame i).asks.isSome
  ((b.frames.filter fun e => e.1 != i && a.before waited last p e.2.port).map fun e =>
    ((e.2.asks.getD []).filter fun x => x.same a && x.region e.2.port == G).length).sum

/-- A bank serves a read of frame i of port p, which counts where it is an LPM search; reads of one place combine (R201). -/
def Block.serveAsk (b : Block) (p : Nat) (a : Ask) : Block :=
  let G := a.region p
  let l := b.servedNow G
  let b := b.modRegion G fun g => { g with cycle := ⟨b.ticks, l ++ [a]⟩,
                                           bankTurn := if a.assoc then SMap.set 0 g.bankTurn a.key (p + 1) else g.bankTurn }
  match a with
  | .lpm _ k => (b.count (R.RGN_LPM_SEARCH G k) 1).pmc (.rgn G) 0x07 k 1
  | .em _ | .acl _ _ _ _ => b

/-- A read of frame i finds a port of its bank free and is served, or has to wait. -/
def Block.askOne (b : Block) (i p : Nat) (a : Ask) : Bool × Block :=
  let l := b.servedNow (a.region p)
  if !a.assoc && l.contains a then (true, b)
  else if (l.filter a.same).length + b.asksAhead i p a < a.ports then (true, b.serveAsk p a)
  else (false, b)

/-- The reads of frame i's search, as far as its banks serve them now: whether all have been served. -/
def Block.askAll (b : Block) (i : Nat) (l : List Ask) : Bool × Block :=
  let p := (b.frame i).port
  let r := ((b.frame i).asks.getD l).foldl (fun (acc : List Ask × Block) a =>
    let o := acc.2.askOne i p a
    (if o.1 then acc.1 else acc.1 ++ [a], o.2)) ([], b)
  if r.1.isEmpty then (true, if (b.frame i).asks.isNone then r.2 else r.2.modFrame i fun f => { f with asks := none })
  else (false, r.2.modFrame i fun f => { f with asks := some r.1 })

/-- Runs stage n of port p's pipe once the banks have served the reads of its search: a frame that waits for one stays where it is
(R201, R249). -/
def Block.searchStage (b : Block) (p n : Nat) (reads : Frame → List Ask) (g : Nat → Frame → Block → Block) : Block :=
  if b.frozen (dieOfPort p) then b
  else match b.atStage p n with
    | some (i, f) =>
      let r := b.askAll i (reads f)
      if r.1 then g i f (r.2.modFrame i fun f => { f with stage := n + 1 }) else r.2
    | none => b

/-- The reads of a search of the exact-match store. -/
def Block.emAsks (b : Block) (d t : Nat) (two : Bool) (key : Nat) : List Ask := (b.emPlaces d t two key).map .em

/-- Whether classification has ended: a drop, a way to the host, or a unit reason (R183). -/
def Frame.over (f : Frame) : Bool := Vec.f f.rec_ 0 D.act == 1 || Vec.f f.rec_ 0 D.act == 2 || f.reason != 0

def Block.setRec (b : Block) (i : Nat) (r : Vec) : Block := b.modFrame i fun f => { f with rec_ := r }
def Block.setCarry (b : Block) (i : Nat) (c : Vec) : Block := b.modFrame i fun f => { f with carry := c }

/-- The action of a miss (R186): continue, drop, or to the host for `reason`. -/
def Block.missAct (b : Block) (i m reason : Nat) : Block :=
  match m with
  | 1 => b.modFrame i fun f => { f with rec_ := Vec.put f.rec_ 0 D.act 1 }
  | 2 => b.modFrame i fun f => { f with reason := reason }
  | _ => b

/-- Counts at a counter of the ingress region of frame f. -/
def Block.rcount (b : Block) (f : Frame) (a : Nat → Nat) : Block := b.count (a (rgnOfPort f.port)) 1

/-! ## S0 -/

/-- A PORT_VLAN entry: its record, and its carry fields C3 and PORT_CLASS (the layout is assumption 10). -/
def portVlanRec (e : Vec) : Rec :=
  { w := e.filter fun x => x.1 < 5, ovr := e.f 5 ⟨31, 16⟩, user0 := e.w 6, user1 := e.f 7 ⟨31, 8⟩ }

/-- The VID that S0 keys on (Table 6-4). -/
def Block.s0Vid (b : Block) (f : Frame) : Nat :=
  let vid := if present f.hv 2 then Vec.f f.hv 8 ⟨27, 16⟩ else 0
  if vid == 0 then b.fld (R.PRT_LOOKUP_CFG f.port) F.PRT_LOOKUP_CFG_PVID else vid

/-- LOOKUP_S0: PORT_VLAN (R176), under the die's fence epoch (R194). -/
def Block.lookupS0 (p : Nat) (b : Block) : Block :=
  b.stage p 0 fun i f b =>
    let d := dieOfPort p
    let b := (b.pmc (.prt p) 0x01 0xFFF 1).pmc (.prt p) 0x02 0xFFF 1
    let e := b.entry d T.portVlan (localPort p * 4096 + b.s0Vid f)
    let r := portVlanRec e
    let c := (((Vec.put [] 3 Cy.vrf (e.f 8 Cy.vrf)).put 3 Cy.bd (e.f 8 Cy.bd)).put 3 Cy.aclSet (e.f 8 Cy.aclSet)).put 2
      Cy.portClass (e.f 9 Cy.portClass)
    b.modFrame i fun f => { f with rec_ := mergeRec ingressGroups [] r, carry := mergeUser (setHit c 0) r,
                                   epoch := (b.engine d).epoch }

/-! ## S1 -/

/-- The key of S1 (Table 6-4): the label key where both conditions hold; two slots for IPv6. -/
def Block.s1Key (b : Block) (f : Frame) : Option (Bool × Bool × Nat) :=
  let a := R.PRT_LOOKUP_CFG f.port
  let hv : Vec := f.hv
  let c : Vec := f.carry
  let tun := present hv 12 || present hv 13 || present hv 14
  if present hv 3 && b.flag a F.PRT_LOOKUP_CFG_MPLS_EN then
    some (true, false, (3 * 2 ^ 8 + c.f 2 Cy.portClass) * 2 ^ 20 + hv.f 10 ⟨31, 12⟩)
  else if tun && b.flag a F.PRT_LOOKUP_CFG_TUN_EN then
    let tail := hv.f 35 ⟨3, 0⟩ * 2 ^ 32 + hv.w 34
    if present hv 5 then
      let da := ((hv.w 20 * 2 ^ 32 + hv.w 21) * 2 ^ 32 + hv.w 22) * 2 ^ 32 + hv.w 23
      some (false, true, ((2 * 2 ^ 12 + c.f 3 Cy.vrf) * 2 ^ 128 + da) * 2 ^ 36 + tail)
    else some (false, false, ((1 * 2 ^ 12 + c.f 3 Cy.vrf) * 2 ^ 32 + hv.w 20) * 2 ^ 36 + tail)
  else none

/-- DECAP_OFF of a terminating record, from the header vector (R204). -/
def decapOff (label : Bool) (hv : Vec) : Nat :=
  if label then hv.f 2 ⟨31, 24⟩ else if present hv 18 then hv.f 2 ⟨7, 0⟩ else hv.f 3 ⟨31, 24⟩

/-- An S1 hit (R204). -/
def Block.s1Hit (b : Block) (i s : Nat) (x : EmEntry) (label : Bool) : Block :=
  let f := b.frame i
  let d := dieOfPort f.port
  let t := b.template d x.tmpl x.fwdKind x.fwdIdx
  let m := mergeRec (ingressGroups ++ [12]) f.rec_ t.1
  let m := if bitOf t.1.ovr 12 && t.1.w.f 0 D.term == 1 then m.put 2 D.decapOff (decapOff label f.hv) else m
  let c := (setHit f.carry 1).put 2 Cy.tunClass (t.2.f 5 ⟨15, 8⟩)
  let c := if t.2.f 5 ⟨6, 6⟩ == 1 then c.put 3 Cy.vrf (t.2.f 8 ⟨31, 20⟩) else c
  let c := if t.2.f 5 ⟨5, 5⟩ == 1 then c.put 3 Cy.aclSet (t.2.f 5 ⟨3, 0⟩) else c
  ((b.setRec i m).setCarry i (mergeUser c t.1)).emStamp d (rgnOfPort f.port % 2) s

/-- The reads of S1. -/
def Block.s1Asks (b : Block) (f : Frame) : List Ask :=
  if f.over then [] else match b.s1Key f with
    | some (_, two, key) => b.emAsks (dieOfPort f.port) T.tunnel two key
    | none => []

/-- LOOKUP_S1: TUNNEL_TERM (R176). -/
def Block.lookupS1 (p : Nat) (b : Block) : Block :=
  b.searchStage p 1 b.s1Asks fun i f b =>
    if f.over then b
    else match b.s1Key f with
      | none => b
      | some (label, two, key) =>
        let b := b.modFrame i fun f => { f with label := label }
        let cfg := R.RGN_MISS_CFG (rgnOfPort p)
        match b.emFind (dieOfPort p) T.tunnel two key with
        | some (s, x) => b.s1Hit i s x label
        | none =>
          if label then (b.rcount f R.RGN_MISS_LABEL).missAct i (b.fld cfg F.RGN_MISS_CFG_LABEL) 13
          else (b.rcount f R.RGN_MISS_TUNNEL).missAct i (b.fld cfg F.RGN_MISS_CFG_TUNNEL) 10

/-! ## S2 and the Gleaner's offers (R217, R218) -/

/-- An offer to the Gleaner of die d. -/
def Block.glOffer (b : Block) (d key port : Nat) : Block :=
  let q := (b.engine d).glQueue
  let mine : GlItem → Bool | .cand k _ => k == key | .removal _ _ _ => false
  if q.any mine then
    b.modEngine d fun e => { e with glQueue := e.glQueue.map fun c => if mine c then .cand key port else c }
  else if q.length ≥ 4096 then
    (b.count (R.TBL_GLN_CAND_DROP d) 1).sendLimited (limitKey 0x32 7 d 0) 7 d 0x32 (2 * 2 ^ 28) reqGleaner 0
  else b.modEngine d fun e => { e with glQueue := e.glQueue ++ [.cand key port] }

/-- What the source search of frame f asks of the Gleaner (R217). -/
def Block.sourceResult (b : Block) (f : Frame) (key : Nat) : Block :=
  let p := f.port
  let d := dieOfPort p
  let hit := b.emFind d T.l2 false key
  let b := match hit with | some (s, _) => b.emStamp d (rgnOfPort p % 2) s | none => b
  let home := b.fld (R.TBL_GLN_CFG d) F.TBL_GLN_CFG_NH_BASE + p
  let move := b.flag (R.PRT_LEARN_CFG p) F.PRT_LEARN_CFG_MOVE_EN
  if !b.flag (R.PRT_LEARN_CFG p) F.PRT_LEARN_CFG_LEARN_EN || f.host.isSome then b
  else match hit with
    | none => b.glOffer d key p
    | some (_, x) =>
      if x.kind == 2 && x.fwdIdx != home && move then b.glOffer d key p
      else if x.kind == 0 && move then b.glOffer d key p
      else b

/-- The destination and the source key of S2 (Table 6-4). -/
def Frame.s2Keys (f : Frame) : Nat × Nat :=
  let hv : Vec := f.hv
  let inner := Vec.f f.rec_ 0 D.term == 1 && !f.label && present hv 18
  let o := if inner then 44 else 5
  let bd := Vec.f f.carry 3 Cy.bd
  (bd * 2 ^ 48 + hv.w o * 2 ^ 16 + hv.f (o + 1) ⟨31, 16⟩, bd * 2 ^ 48 + hv.f (o + 1) ⟨15, 0⟩ * 2 ^ 32 + hv.w (o + 2))

/-- The reads of S2. -/
def Block.s2Asks (b : Block) (f : Frame) : List Ask :=
  let d := dieOfPort f.port
  if f.over then [] else b.emAsks d T.l2 false f.s2Keys.1 ++ b.emAsks d T.l2 false f.s2Keys.2

/-- LOOKUP_S2: the destination and the source search of L2 (R176). -/
def Block.lookupS2 (p : Nat) (b : Block) : Block :=
  b.searchStage p 2 b.s2Asks fun i f b =>
    if f.over then b
    else
      let d := dieOfPort p
      let dst := f.s2Keys.1
      let src := f.s2Keys.2
      let b := match b.emFind d T.l2 false dst with
        | some (_, x) =>
          let t := b.template d x.tmpl x.fwdKind x.fwdIdx
          let c := ((setHit f.carry 2).put 2 Cy.l2Class (t.2.f 5 ⟨15, 8⟩)).put 3 Cy.route (t.2.f 5 ⟨7, 7⟩)
          (b.setRec i (mergeRec ingressGroups f.rec_ t.1)).setCarry i (mergeUser c t.1)
        | none =>
          (b.rcount f R.RGN_MISS_L2).missAct i (b.fld (R.RGN_MISS_CFG (rgnOfPort p)) F.RGN_MISS_CFG_L2) 11
      b.sourceResult f src

/-! ## S3 -/

/-- Family and address that S3 keys on: the inner header when TERM is 1 (R176, Table 6-4). -/
def s3Addr (term : Bool) (hv : Vec) : Option (Nat × Nat) :=
  let six := if term then 21 else 5
  let four := if term then 20 else 4
  let w := if term then 52 else 20
  if present hv six then some (1, ((hv.w w * 2 ^ 32 + hv.w (w + 1)) * 2 ^ 32 + hv.w (w + 2)) * 2 ^ 32 + hv.w (w + 3))
  else if present hv four then some (0, hv.w w)
  else none

/-- The keys of S3, where it searches: family, VRF, the HOST key and the LPM address. -/
def Frame.s3Keys (f : Frame) : Option (Nat × Nat × Nat × Nat) :=
  if f.over || Vec.f f.carry 3 Cy.route == 0 then none
  else (s3Addr (Vec.f f.rec_ 0 D.term == 1) f.hv).map fun (fam, da) =>
    let vrf := Vec.f f.carry 3 Cy.vrf
    (fam, vrf, if fam == 1 then (2 ^ 12 + vrf) * 2 ^ 128 + da else vrf * 2 ^ 32 + da, if fam == 1 then da else da * 2 ^ 96)

/-- The dies whose LPM copies serve a search of die d. -/
def Block.lpmSet (b : Block) (d : Nat) : List Nat := cascade (b.fld R.XBAR_CASC_CFG F.XBAR_CASC_CFG_LPM_MODE) d

/-- The LPM result of a frame of die d: the die that matched and its entry (R252, R253). -/
def Block.lpmSearch (b : Block) (d fam vrf addr : Nat) : Option (Nat × Assoc) × Block :=
  Block.cascFind d (fun e b => (b.lpmFind e fam vrf addr).map fun x => (e, x.2)) (b.lpmSet d) b

/-- The reads of an LPM search of die d on die e: every bank of the partition serves it (R247, R249); a held other die takes none
(R256). -/
def Block.lpmAsks (b : Block) (d fam vrf addr e : Nat) : List Ask :=
  if e != d && b.frozen e then []
  else match b.lpmBanks e fam vrf addr with
    | some (first, n) => (List.range n).map fun k => .lpm e (first + k)
    | none => []

/-- The reads of S3. -/
def Block.s3Asks (b : Block) (f : Frame) : List Ask :=
  let d := dieOfPort f.port
  match f.s3Keys with
  | some (fam, vrf, key, addr) => b.emAsks d T.host (fam == 1) key ++ (b.lpmSet d).flatMap (b.lpmAsks d fam vrf addr)
  | none => []

/-- LOOKUP_S3: HOST and LPM (R176, R184). -/
def Block.lookupS3 (p : Nat) (b : Block) : Block :=
  b.searchStage p 3 b.s3Asks fun i f b =>
    let d := dieOfPort p
    let g := rgnOfPort p % 2
    match f.s3Keys with
    | none => b
    | some (fam, vrf, key, addr) =>
        let host := b.emFind d T.host (fam == 1) key
        let l := b.lpmSearch d fam vrf addr
        let b := l.2
        let take := fun (b : Block) (e tmpl fk fi : Nat) =>
          let t := b.template e tmpl fk fi
          let c := (setHit f.carry 3).put 2 Cy.l3Class (t.2.f 5 ⟨15, 8⟩)
          (b.setRec i (mergeRec ingressGroups f.rec_ t.1)).setCarry i (mergeUser c t.1)
        match host, l.1 with
        | some (s, x), _ => ((take b d x.tmpl x.fwdKind x.fwdIdx).emStamp d g s).pmc (.prt p) 0x04 0xFFF 1
        | none, some (e, x) =>
          (take b e (Vec.f x.action 0 ⟨31, 26⟩) (Vec.f x.action 0 ⟨25, 24⟩) (Vec.f x.action 0 ⟨23, 6⟩)).pmc (.prt p) 0x05
            0xFFF 1
        | none, none => (b.rcount f R.RGN_MISS_L3).missAct i (b.fld (R.RGN_MISS_CFG (rgnOfPort p)) F.RGN_MISS_CFG_L3) 12

/-! ## S4 -/

/-- One segment of an ACL_IN key (R180). -/
def Block.aclSeg (b : Block) (f : Frame) (C k j : Nat) : Nat :=
  let a := R.CLS_ACL_KEY C k j
  let w := b.fld a F.CLS_ACL_KEY_WORD
  match b.fld a F.CLS_ACL_KEY_SRC with
  | 0 => 0
  | 1 => Vec.w f.hv w
  | 2 => Vec.w f.carry w
  | _ => match w with
    | 0 => f.port * 2 ^ 24 + f.bytes.length * 2 ^ 10
    | 1 => Vec.w f.rec_ 0
    | _ => Vec.w f.rec_ 1
def Block.aclKey (b : Block) (f : Frame) (C k : Nat) : List Nat := (List.range 10).map (b.aclSeg f C k)

def Block.aclBanks (b : Block) (C n : Nat) : Nat := b.fld (R.CLS_ACL_GROUP C n) F.CLS_ACL_GROUP_BANKS
def Block.aclWide (b : Block) (C n : Nat) : Bool := b.flag (R.CLS_ACL_GROUP C n) F.CLS_ACL_GROUP_WIDE

/-- The first match of group n in cluster c of die e. -/
def Block.aclOn (b : Block) (e c n : Nat) (key : List Nat) : Option (Nat × Assoc) :=
  (b.engine e).aclFind c (b.aclBanks (8 * e + c) n) key

/-- A wide search (R255): the lowest position valid and matching on both dies, with the lower die's action. -/
def Block.aclWideFind (b : Block) (d c n : Nat) (low high : List Nat) : Option Assoc :=
  let lo := d / 2 * 2
  let hi := lo + 1
  if b.aclWide (8 * lo + c) n && b.aclWide (8 * hi + c) n then
    let other := ((b.engine hi).aclInOf c).filter fun x =>
      bitOf (b.aclBanks (8 * hi + c) n) (x.1 / 2048) && x.2.aclMatch high
    (((b.engine lo).aclInOf c).find? fun x =>
      bitOf (b.aclBanks (8 * lo + c) n) (x.1 / 2048) && x.2.aclMatch low && other.any fun y => y.1 == x.1).map (·.2)
  else none

/-- The result of rule group n for a frame of cluster C (R251 to R256). -/
def Block.aclGroup (b : Block) (f : Frame) (C n prof : Nat) : Option Assoc × Block :=
  let d := C / 8
  let c := C % 8
  let mode := b.fld R.XBAR_CASC_CFG F.XBAR_CASC_CFG_ACLIN_MODE
  let key := b.aclKey f C prof
  if mode == 1 && b.aclWide C n then
    let mate := if d % 2 == 0 then d + 1 else d - 1
    let high := b.aclKey f C (b.fld (R.CLS_ACL_GROUP C n) F.CLS_ACL_GROUP_WIDE_PROF)
    b.cascSearch d mate fun b => b.aclWideFind d c n key high
  else Block.cascFind d (fun e b => (b.aclOn e c n key).map (·.2)) (cascade (if mode == 1 then 0 else mode) d) b

/-- ACL_SET's enable and profile of group n (Table 6-8). -/
def aclEn (v n : Nat) : Bool := bitOf v (5 * n + 4)
def aclProf (v n : Nat) : Nat := v / 2 ^ (5 * n) % 16

/-- The reads of one rule group in cascade mode `mode`: the ports of the frame's unit on the group's banks of each die that its search
runs on. Outside a cascade every unit has a port of its own, and nothing waits (Table 8-1, R254). -/
def Block.groupAsks (b : Block) (p mode n : Nat) : List Ask :=
  let d := dieOfPort p
  let c := clsOfPort p % 8
  let set := if mode == 1 then (if b.aclWide (8 * d + c) n then [d / 2 * 2, d / 2 * 2 + 1] else []) else cascade mode d
  (set.filter fun e => e == d || !b.frozen e).flatMap fun e =>
    ((List.range 16).filter (bitOf (b.aclBanks (8 * e + c) n))).map fun k => .acl e c (p % 8) k

/-- The reads of S4. -/
def Block.s4Asks (b : Block) (f : Frame) : List Ask :=
  let mode := b.fld R.XBAR_CASC_CFG F.XBAR_CASC_CFG_ACLIN_MODE
  let v := b.word (R.CLS_ACL_SET (clsOfPort f.port) (Vec.f f.carry 3 Cy.aclSet))
  if f.over || mode == 0 then []
  else ((List.range 4).filter (aclEn v)).flatMap (b.groupAsks f.port mode)

/-- LOOKUP_S4: ACL_IN (R176); for each field group the lowest hit group that names it wins (R184). -/
def Block.lookupS4 (p : Nat) (b : Block) : Block :=
  b.searchStage p 4 b.s4Asks fun i f b =>
    if f.over then b
    else
      let C := clsOfPort p
      let v := b.word (R.CLS_ACL_SET C (Vec.f f.carry 3 Cy.aclSet))
      [3, 2, 1, 0].foldl (fun b n =>
        if !aclEn v n then b
        else
          let b := b.pmc (.cls C) 0x06 n 1
          let r := b.aclGroup f C n (aclProf v n)
          match r.1 with
          | none => r.2
          | some a =>
            let m := b.frame i
            let b := r.2.pmc (.cls C) 0x07 n 1
            (b.setRec i (mergeRec ingressGroups m.rec_ a.aclRec)).setCarry i (mergeUser (setHit m.carry 4) a.aclRec)) b

/-! ## S5 (R185, R259 to R264) -/

/-- The bytes that ECMP hashes (Table 9-3). -/
def ecmpBytes (cfg port : Nat) (hv : Vec) (term : Bool) : List Byte :=
  let inner := F.RGN_ECMP_HASH_INNER.of cfg == 1 && term
  let a := if inner then 48 else 16
  let l3 := if inner then 56 else 24
  let l4 := if inner then 57 else 28
  let frag := hv.f 0 ⟨29, 29⟩ == 1
  let addr (w : Nat) : List Byte := beBytes 4 (hv.w w) ++ beBytes 4 (hv.w (w + 1)) ++ beBytes 4 (hv.w (w + 2))
    ++ beBytes 4 (hv.w (w + 3))
  let on (n : Nat) (l : List Byte) : List Byte := if bitOf cfg n then l else []
  on 0 (beBytes 1 port) ++ on 1 (beBytes 2 (hv.f 6 ⟨15, 0⟩) ++ beBytes 4 (hv.w 7))
    ++ on 2 (beBytes 4 (hv.w 5) ++ beBytes 2 (hv.f 6 ⟨31, 16⟩)) ++ on 3 (beBytes 2 (hv.f 4 ⟨31, 16⟩))
    ++ on 4 (beBytes 2 (hv.f 8 ⟨27, 16⟩)) ++ on 5 (addr a) ++ on 6 (addr (a + 4)) ++ on 7 (beBytes 1 (hv.f l3 ⟨31, 24⟩))
    ++ on 8 (beBytes 2 (if frag then 0 else hv.f l4 ⟨31, 16⟩)) ++ on 9 (beBytes 2 (if frag then 0 else hv.f l4 ⟨15, 0⟩))
    ++ on 10 (beBytes 3 (if inner then 0 else hv.f 27 ⟨31, 12⟩)) ++ on 11 (beBytes 4 (hv.w 34))
    ++ on 12 (beBytes 3 (hv.f 59 ⟨23, 0⟩))

/-- The fold of a CRC-32C to 16 bits (R261). -/
def h16 (l : List Byte) : Nat := let c := crc32c l; (c / 65536) ^^^ (c % 65536)

/-- S5 drops the frame under R185; NO_DEST_DROP counts it. -/
def Block.noDest (b : Block) (i : Nat) : Block :=
  b.modFrame i fun f => { f with rec_ := Vec.put f.rec_ 0 D.act 1, dropBy := 1 }

/-- A next hop resolves the frame (R259). -/
def Block.nextHop (b : Block) (i nh : Nat) : Block :=
  let f := b.frame i
  let e := b.entry (dieOfPort f.port) T.nexthop nh
  if e.f 0 ⟨31, 31⟩ == 0 then b.noDest i
  else match e.f 0 ⟨30, 29⟩ with
    | 0 => b.setRec i ((Vec.put f.rec_ 0 D.egPort (e.f 0 ⟨25, 18⟩)).put 2 D.rewriteIdx (e.f 0 ⟨17, 0⟩))
    | 1 => b.setRec i (Vec.put f.rec_ 0 D.act 1)
    | _ => b.setRec i ((Vec.put f.rec_ 0 D.act 2).put 0 D.hostCode (e.f 1 ⟨31, 24⟩))

/-- ECMP picks a member (R261). -/
def Block.ecmp (b : Block) (i : Nat) : Block :=
  let f := b.frame i
  let d := dieOfPort f.port
  let G := rgnOfPort f.port
  let e := b.entry d T.ecmp (Vec.f f.rec_ 1 D.fwdIdx)
  if e.f 0 ⟨31, 31⟩ == 0 then b.noDest i
  else
    let h := h16 (beBytes 4 (b.word (R.RGN_ECMP_SEED G))
      ++ ecmpBytes (b.word (R.RGN_ECMP_HASH G)) f.port f.hv (Vec.f f.rec_ 0 D.term == 1))
    let m := e.f 0 ⟨17, 0⟩ + h * (e.f 0 ⟨26, 18⟩ + 1) / 65536
    b.nextHop i (Vec.f (b.entry d T.ecmp (2 ^ 19 + m)) 0 ⟨17, 0⟩)

/-- COUNT of region G in a multicast group entry (Table 9-6). -/
def mcCount (g : Vec) (G : Nat) : Nat := if G % 2 == 0 then g.f (1 + G / 2) ⟨9, 0⟩ else g.f (1 + G / 2) ⟨25, 16⟩

/-- MCAST reads its group, which travels with the frame (R264). -/
def Block.mcast (b : Block) (i : Nat) : Block :=
  let f := b.frame i
  let e := b.entry (dieOfPort f.port) T.mcast (Vec.f f.rec_ 1 D.fwdIdx)
  if e.f 0 ⟨31, 31⟩ == 0 || (List.range 8).all fun G => mcCount e G == 0 then b.noDest i
  else b.modFrame i fun f => { f with group := e }

/-- The resolution of FWD_KIND (R185). -/
def Block.resolve (b : Block) (i : Nat) : Block :=
  let f := b.frame i
  let act := Vec.f f.rec_ 0 D.act
  if f.over then b
  else if Vec.f f.rec_ 0 D.fwdKind == 3 then (if act == 0 then b.noDest i else b)
  else
    let b := b.modFrame i fun f => { f with rec_ := Vec.put f.rec_ 0 D.resolved 1, carry := setHit f.carry 5 }
    match Vec.f f.rec_ 0 D.fwdKind with
    | 0 => b.nextHop i (Vec.f f.rec_ 1 D.fwdIdx)
    | 1 => b.ecmp i
    | _ => b.mcast i

/-- The first five words of a vector. -/
def actionWords (v : Vec) : Vec := v.filter fun x => x.1 < 5

/-- Frame i leaves S5: a first fragment completes its entry (R142); a later one takes the stored result (R143). -/
def Block.fragAtS5 (b : Block) (i : Nat) : Block :=
  let f := b.frame i
  let C := clsOfPort f.port
  match f.fragSlot with
  | some s =>
    let b := b.fragExpire C
    match SMap.find (b.cluster C).frags s with
    | some e =>
      if e.owner == i && e.pending then
        let e := { e with pending := false, result := actionWords f.rec_ }
        (b.setFrag C s e).shaix 5 (beBytes 1 C ++ vecBytes (b.fragImage e) 16)
      else b
    | none => b
  | none =>
    if !f.fragUse then b
    else
      let b := b.fragExpire C
      match (b.fragFind C f.fragV6 f.fragKey).bind fun s => SMap.find (b.cluster C).frags s with
      | none => (b.count (R.CLS_FRAG_MISS C) 1).modFrame i fun f => { f with reason := 8 }
      | some e =>
        if e.pending then (b.count (R.CLS_FRAG_PENDING C) 1).modFrame i fun f => { f with reason := 9 }
        else
          let b := (b.count (R.CLS_FRAG_HIT C) 1).modFrame i fun f =>
            { f with rec_ := e.result, reason := 0, dropBy := 0, fragRes := true, group := [] }
          let act := Vec.f e.result 0 D.act
          if (act == 0 || act == 3) && Vec.f e.result 0 D.resolved == 1 && Vec.f e.result 0 D.fwdKind == 2 then b.mcast i
          else b

/-- LOOKUP_S5: NEXTHOP, ECMP, MCAST and the fragment table (R176, R185). -/
def Block.lookupS5 (p : Nat) (b : Block) : Block := b.stage p 5 fun i _ b => (b.resolve i).fragAtS5 i

/-! ## S6 (R334 to R337, R505) -/

/-- The bucket of rate `rate` Mb/s and burst `burst` bytes after `dt` ns, in thousandths of a bit: 1 Mb/s adds one
thousandth of a bit in a nanosecond. -/
def bucketFill (tok rate burst dt : Nat) : Nat := min (burst * 8000) (tok + rate * dt)

/-- Table 11-8: the colour (0 green, 1 yellow, 2 red) and the buckets after a frame of `need` thousandths of a bit. -/
def meter (mode colour c p need : Nat) : Nat × Nat × Nat :=
  if mode == 0 then
    if colour == 2 || p < need then (2, c, p)
    else if colour == 1 || c < need then (1, c, p - need)
    else (0, c - need, p - need)
  else if colour == 0 && c ≥ need then (0, c - need, p)
  else if colour < 2 && p ≥ need then (1, c, p - need)
  else (2, c, p)

/-- The token counts of policer x in region G, brought up to date (R334). -/
def Block.polNow (b : Block) (G x : Nat) : PolTok :=
  let e := b.entry (G / 2) T.policer x
  let t := SMap.get {} (b.region G).pol x
  { c := bucketFill t.c (e.f 1 ⟨31, 12⟩) (e.f 3 ⟨31, 8⟩) (b.ticks - t.at_),
    p := bucketFill t.p (e.f 2 ⟨31, 12⟩) (e.f 4 ⟨31, 8⟩) (b.ticks - t.at_), at_ := b.ticks }

/-- S6 meters frame i. -/
def Block.police (b : Block) (i : Nat) : Block :=
  let f := b.frame i
  let G := rgnOfPort f.port
  let x := Vec.f f.rec_ 3 D.policerIdx
  let e := b.entry (G / 2) T.policer x
  if e.f 0 ⟨31, 31⟩ == 0 then b.count (R.RGN_POL_INVALID G) 1
  else
    let bytes := ((f.bytes.length : Int) + signed 8 (e.f 0 ⟨23, 16⟩)).toNat
    let need := max 1 bytes * 8000
    let inCol := if e.f 0 ⟨29, 29⟩ == 0 then 0 else min 2 (Vec.f f.rec_ 1 D.colour)
    let t := b.polNow G x
    let r := meter (e.f 0 ⟨30, 30⟩) inCol t.c t.p need
    let b := b.modRegion G fun g => { g with pol := SMap.set {} g.pol x { t with c := r.2.1, p := r.2.2 } }
    let b := b.modFrame i fun f => { f with rec_ := Vec.put f.rec_ 1 D.colour r.1 }
    let b := b.count (match r.1 with | 0 => R.RGN_POL_GREEN G | 1 => R.RGN_POL_YELLOW G | _ => R.RGN_POL_RED G) 1
    let b := b.pmc (.rgn G) 0x09 r.1 1
    let drop := (r.1 == 2 && e.f 0 ⟨28, 28⟩ == 1) || (r.1 == 1 && e.f 0 ⟨27, 27⟩ == 1)
    if drop && (Vec.f f.rec_ 0 D.act != 1 || f.reason != 0) then
      (b.count (R.RGN_POL_DROP G) 1).modFrame i fun f =>
        { f with rec_ := Vec.put f.rec_ 0 D.act 1, reason := 0, dropBy := 2 }
    else b

/-- Adds a packet of n bytes to counter pair x of region G; both fields wrap at 2^64 (R505). -/
def Block.countPair (b : Block) (G x n : Nat) : Block :=
  b.modRegion G fun g => { g with pairs := SMap.mod {} g.pairs x fun c =>
    { c with packets := (c.packets + 1) % 2 ^ 64, bytes := (c.bytes + n) % 2 ^ 64 } }

/-- LOOKUP_S6: POLICER and COUNTER (R176). -/
def Block.lookupS6 (p : Nat) (b : Block) : Block :=
  b.stage p 6 fun i f b =>
    let pol := Vec.f f.rec_ 3 D.policeEn == 1
    let cnt := Vec.f f.rec_ 3 D.countEn == 1
    let b := if pol || cnt then b.setCarry i (setHit f.carry 6) else b
    let b := if pol then b.police i else b
    if cnt then b.countPair (rgnOfPort p) (Vec.f f.rec_ 4 D.counterIdx) f.bytes.length else b

/-! ## S7: the sampler (R280, R281) -/

/-- COUNT after a reload of a sampler entry: N, or a value from 1 to 2N - 1 (a free value, assumption 1). -/
def Block.reload (b : Block) (e : Vec) : Nat × Block :=
  let n := e.f 0 ⟨23, 0⟩ + 1
  if e.f 0 ⟨30, 30⟩ == 1 then
    let r := b.free 26
    (1 + r.1 % (2 * n - 1), r.2)
  else (n, b)

/-- The sample of frame f: its window as received, to the entry's ring, and the SAMPLE trace record (Table 17-8). -/
def Block.takeSample (b : Block) (f : Frame) (x : Nat) (e : Vec) : Block :=
  let G := rgnOfPort f.port
  let h := f.forHost 4 0 0
  let wl := Vec.f f.hv 0 ⟨8, 0⟩
  let n := min wl (f.bytes.length - 4)
  let idx := G * 256 + x
  let win := f.bytes.take wl
  let b := b.count (R.RGN_SAMPLE_TAKEN G) 1
  let b := b.stageHost { h with ring := e.f 1 ⟨12, 0⟩, sampleIdx := idx, bytes := f.bytes.take n,
                                trunc := decide (n < f.bytes.length - 4) }
  let body := leBytes 1 f.port ++ leBytes 1 h.egPort ++ leBytes 1 h.actFwd ++ zeros 1 ++ leBytes 2 f.bytes.length
    ++ leBytes 2 wl ++ leBytes 4 h.fwdIdx ++ leBytes 2 idx ++ zeros 2 ++ win ++ zeros (256 - win.length)
  b.trace { typ := 6, die := G / 2, region := G, body := body }

/-- S7 offers frame i to its sampler entry. -/
def Block.sampleOffer (b : Block) (i : Nat) : Block :=
  let f := b.frame i
  let G := rgnOfPort f.port
  let x := localPort f.port * 8 + Vec.f f.rec_ 2 D.sampleProf
  let e := b.entry (G / 2) T.sampler x
  if Vec.f f.rec_ 1 D.sampleEn == 0 || f.host.isSome || e.f 0 ⟨31, 31⟩ == 0 then b
  else
    let c := SMap.get 0 (b.region G).sampler x - 1
    if c != 0 then b.modRegion G fun g => { g with sampler := SMap.set 0 g.sampler x c }
    else
      let r := b.reload e
      (r.2.modRegion G fun g => { g with sampler := SMap.set 0 g.sampler x r.1 }).takeSample f x e

/-! ## S7: the descriptor (R187, R188) -/

/-- EKW n under EKW_SEL value v. -/
def ekw (v : Nat) (hv : Vec) (n : Nat) : Nat := if bitOf v (8 * n + 7) then hv.w (v / 2 ^ (8 * n) % 64) else 0

/-- The descriptor of frame f (Table 6-13), with class queue cq. -/
def Block.descriptor (b : Block) (f : Frame) (cq : Nat) : Vec :=
  let hv : Vec := f.hv
  let c : Vec := f.carry
  let v := b.word (R.RGN_EKW_SEL (rgnOfPort f.port) (c.f 3 Cy.aclSet))
  let d15 := hv.f 0 ⟨30, 30⟩ * 2 ^ 31 + b2n f.host.isSome * 2 ^ 30 + b2n f.fragRes * 2 ^ 29
    + b2n (present hv 19) * 2 ^ 26 + hv.f 4 ⟨15, 14⟩ * 2 ^ 24 + hv.f 2 ⟨31, 24⟩ * 2 ^ 16 + hv.f 2 ⟨23, 16⟩ * 2 ^ 8
    + hv.f 61 ⟨15, 8⟩
  Vec.ofList ([Vec.w f.rec_ 0, Vec.w f.rec_ 1, Vec.w f.rec_ 2, Vec.w f.rec_ 3, Vec.w f.rec_ 4, c.w 3, c.w 2, c.w 1, c.w 0]
    ++ (List.range 4).map (ekw v hv)
    ++ [f.port * 2 ^ 24 + cq * 2 ^ 16 + f.bytes.length * 4 + f.epoch % 4, f.stamp.ns % 2 ^ 30, d15])

/-- Frame i as it leaves S7. -/
def Block.pktOf (b : Block) (i cq : Nat) : Pkt :=
  let f := b.frame i
  { id := i, bytes := f.bytes, desc := b.descriptor f cq, group := f.group, stamp := f.stamp, advA := f.advA,
    advB := f.advB, late := f.late, bad := f.bad, die := dieOfPort f.port, epoch := f.epoch, host := f.host,
    innerEth := present f.hv 18 && !f.label && Vec.f f.rec_ 2 D.decapOff == Vec.f f.hv 2 ⟨7, 0⟩,
    proto := Vec.f f.hv 24 ⟨31, 24⟩ }

/-! ## S7: the source FIFOs (R284, R286) -/

def Block.fifo (b : Block) (d G : Nat) : List Transit := SMap.get [] b.fifos (8 * d + G)
def Block.setFifo (b : Block) (d G : Nat) (l : List Transit) : Block := { b with fifos := SMap.set [] b.fifos (8 * d + G) l }
/-- Free bytes of the 256 KiB source FIFO of die d toward region G. -/
def Block.fifoFree (b : Block) (d G : Nat) : Nat := 262144 - ((b.fifo d G).map fun t => t.pkt.bytes.length).sum

/-- Whether the CLASS of a packet is one that waits (XB_LL). -/
def Block.xbLossless (b : Block) (d cl : Nat) : Bool := bitOf (b.word (R.XEP_XB_LL d (cl / 32))) (cl % 32)

/-- One destination of a packet: it enters the FIFO, is dropped there, or must wait (true). -/
def Block.offerFifo (b : Block) (d G : Nat) (k : Pkt) : Bool × Block :=
  let enter := b.setFifo d G (b.fifo d G ++ [{ pkt := k }])
  let free := b.fifoFree d G
  if free ≥ 32768 then (false, enter)
  else if b.xbLossless d (Vec.f k.desc 0 D.class_) then
    if free ≥ 16384 then (false, enter) else (true, b)
  else (false, (b.count (R.XEP_OVER_DROP d G) 1).pmc (.xep d) 0x05 G 1)

/-- Frame i is offered to each destination region in turn; with one it must wait for, it stays in its pipe. -/
def Block.sendTo (b : Block) (i : Nat) (k : Pkt) (dests : List Nat) : Block :=
  let d := k.die
  let r := dests.foldl (fun (acc : List Nat × Block) G =>
    let o := acc.2.offerFifo d G k
    (if o.1 then acc.1 ++ [G] else acc.1, o.2)) ([], b)
  if r.1.isEmpty then r.2.dropFrame i
  else r.2.modFrame i fun f => { f with loc := .llWait, desc := k.desc, dests := r.1 }

/-- Forwards frame i to the regions given; those of held dies are out of reach (R47). -/
def Block.forward (b : Block) (i cq : Nat) (dests : List Nat) : Block :=
  let f := b.frame i
  let live := dests.filter fun G => !b.frozen (G / 2)
  if live.isEmpty then
    ((List.range 4).foldl (fun b d => if dests.any fun G => G / 2 == d then
        b.count (R.RGN_HELD_DROP (rgnOfPort f.port) d) 1 else b) b).dropFrame i
  else b.sendTo i (b.pktOf i cq) live

/-- LOOKUP_S7: the final disposition (R185). A frame that waits in its pipe holds the stage back (R286). -/
def Block.lookupS7 (p : Nat) (b : Block) : Block :=
  if !(b.at_ p .llWait).isEmpty then b
  else b.stage p 7 fun i _ b =>
    let G := rgnOfPort p
    let b := b.modFrame i fun f => { f with carry := setHit f.carry 7 }
    let b := b.sampleOffer i
    let f := b.frame i
    let act := Vec.f f.rec_ 0 D.act
    let kind := Vec.f f.rec_ 0 D.fwdKind
    if f.reason != 0 then (b.unitLimit f f.reason 0).dropFrame i
    else if act == 1 then
      (match f.dropBy with
        | 0 => b.count (R.RGN_ACT_DROP G) 1
        | 1 => b.count (R.RGN_NO_DEST_DROP G) 1
        | _ => b).dropFrame i
    else
      let b := if act == 2 || act == 3 then b.toHost (f.forHost 2 (Vec.f f.rec_ 0 D.hostCode) 0) else b
      if act == 2 || Vec.f f.rec_ 0 D.resolved == 0 then b.dropFrame i
      else if kind == 2 then b.forward i 0 ((List.range 8).filter fun R' => mcCount f.group R' != 0)
      else
        let eg := Vec.f f.rec_ 0 D.egPort
        let cq := Vec.f (b.entry (dieOfPort p) T.queueMap (eg * 256 + Vec.f f.rec_ 0 D.class_)) 0 ⟨7, 0⟩
        b.forward i cq [eg / 32]

/-- LL_WAIT_END (R286): each FIFO that the waiting frame of port p needs and that has 16 KiB free takes it. -/
def Block.llWaitEnd (p : Nat) (b : Block) : Block :=
  match b.at_ p .llWait with
  | (i, f) :: _ =>
    if b.frozen (dieOfPort p) then b
    else b.sendTo i { b.pktOf i (Vec.f f.desc 13 D.cq) with desc := f.desc } f.dests
  | [] => b

end Sys2Proof.Machine
end

