-- ==== Sys2Proof/Machine/Gates.lean ====
section
/-!
DEFINITION. Machine/Gates.lean: the queues of a region as the scheduler and the gates see them, the gate control list of a
port, and the breaks of guarantees (spec/11, R339 to R348; spec/10, R289, R301, R313; spec/03, R113, R115).
-/
namespace Sys2Proof.Machine
open Sys2Proof

/-! ## Queues and stored frames -/

def Region.queue (g : Region) (q : Nat) : Queue := SMap.get {} g.queues q
def Region.frame (g : Region) (sid : Nat) : Stored := SMap.get {} g.stored sid
def Block.modQueue (b : Block) (G q : Nat) (f : Queue → Queue) : Block :=
  b.modRegion G fun g => { g with queues := SMap.mod {} g.queues q f }
def Block.modStored (b : Block) (G sid : Nat) (f : Stored → Stored) : Block :=
  b.modRegion G fun g => { g with stored := SMap.mod {} g.stored sid f }
/-- Cells of a frame of n bytes (R289). -/
def cellsOf (n : Nat) : Nat := (n + 255) / 256
/-- The on-die cells of a queue: those charged to its own account and to its lossless groups. -/
def Queue.onDie (q : Queue) : Nat := q.use + q.grp
/-- The cells of a queue's Silo part; voided frames have left it (R305). -/
def Queue.siloCells (q : Queue) : Nat := ((q.silo.filter fun s => !s.void).map fun s => s.charge).sum
/-- The port of queue q of region G. -/
def portOfQueue (G q : Nat) : Nat := G * 32 + q / 256

/-- The head frame of queue q that may leave (R301): whole, or cut through with at least THRESH × 64 bytes of it written. -/
def Block.headOf (b : Block) (G q : Nat) : Option (Ptr × Stored) :=
  match ((b.region G).queue q).ptrs with
  | x :: _ =>
    let s := (b.region G).frame x.sid
    let th := b.fld (R.PRT_CT_CFG (portOfQueue G q)) F.PRT_CT_CFG_THRESH
    if s.whole || (x.ct && s.got ≥ th * 64) then some (x, s) else none
  | [] => none

/-- Of the head frames of port p's queues that still arrive, or are still being read back, `got` bytes have been written by now. -/
def Block.seen (b : Block) (p got : Nat) : Block :=
  let G := rgnOfPort p
  let lo := localPort p * 256
  (((b.region G).queues.filter fun e => lo ≤ e.1 && e.1 < lo + 256).filterMap fun e => e.2.ptrs.head?).foldl (fun b x =>
    let s := (b.region G).frame x.sid
    if s.whole || got ≤ s.got then b else b.modStored G x.sid fun s => { s with got := min got s.pkt.bytes.length }) b

/-- Counts a break of guarantee t on queue q of region G, and reports it (R313). -/
def Block.breakOf (b : Block) (G q t : Nat) : Block :=
  ((b.count (R.RGN_QBRK G q (t - 1)) 1).count (R.RGN_BRK G (t - 1)) 1).sendOncePerMs 0xA G 0x40 (q * 2 ^ 16 + t)

/-! ## The list (R340, R343) -/

def Block.gateOn (b : Block) (p : Nat) : Bool := b.flag (R.PRT_GATE_CFG p) F.PRT_GATE_CFG_EN
def Block.operBank (b : Block) (p : Nat) : Nat := b.fld (R.PRT_GATE_STATUS p) F.PRT_GATE_STATUS_OPER_BANK
/-- An instant of 48-bit seconds and nanoseconds, in ns. -/
def instant (hi lo ns : Nat) : Nat := (hi * 2 ^ 32 + lo) * 1000000000 + ns
def Block.operBase (b : Block) (p : Nat) : Nat :=
  instant (b.word (R.PRT_GATE_OPER_BASE_S_HI p) % 65536) (b.word (R.PRT_GATE_OPER_BASE_S_LO p))
    (b.word (R.PRT_GATE_OPER_BASE_NS p) % 2 ^ 30)
def Block.adminBase (b : Block) (p : Nat) : Nat :=
  instant (b.word (R.PRT_GATE_ADMIN_BASE_S_HI p) % 65536) (b.word (R.PRT_GATE_ADMIN_BASE_S_LO p))
    (b.word (R.PRT_GATE_ADMIN_BASE_NS p) % 2 ^ 30)
def Block.gateEntry (b : Block) (p bank i : Nat) : GateEntry := SMap.get {} (b.port p).gate.banks (bank * 1024 + i)

/-- A stretch of a list in which no state changes: its entry, its start, its end and its states. -/
structure GateSeg where
  entry : Nat
  start : Nat
  stop : Nat
  states : Nat
deriving DecidableEq, Repr

/-- The stretch that holds instant v, in a cycle from c0 to c1, from entry i on, which starts at t; n entries are left
(R340). -/
def segIn (ent : Nat → GateEntry) (c1 v : Nat) : Nat → Nat → Nat → GateSeg
  | 0, i, t => ⟨i - 1, t, c1, (ent (i - 1)).states⟩
  | n + 1, i, t =>
    let e := if n == 0 then c1 else min c1 (t + (ent i).interval)
    if v < e || n == 0 then ⟨i, t, e, (ent i).states⟩ else segIn ent c1 v n (i + 1) e

/-- A list with its bank, cycle, entries and base time. -/
structure GateList where
  bank : Nat
  cycle : Nat
  count : Nat
  base : Nat
deriving DecidableEq, Repr

def Block.operList (b : Block) (p : Nat) : GateList :=
  ⟨b.operBank p, b.word (R.PRT_GATE_OPER_CYCLE p), b.word (R.PRT_GATE_OPER_COUNT p), b.operBase p⟩
def Block.adminList (b : Block) (p : Nat) : GateList :=
  ⟨1 - b.operBank p, b.word (R.PRT_GATE_ADMIN_CYCLE p), b.word (R.PRT_GATE_ADMIN_COUNT p), b.adminBase p⟩

/-- The start of the cycle of list l that holds instant v; a list whose base time is still to come runs backwards from it. -/
def GateList.cycleOf (l : GateList) (v : Nat) : Nat :=
  if v ≥ l.base then v - (v - l.base) % l.cycle else v - (l.cycle - (l.base - v) % l.cycle) % l.cycle

/-- The stretch of list l of port p that holds instant v. -/
def Block.listSeg (b : Block) (p : Nat) (l : GateList) (v : Nat) : GateSeg :=
  let c := l.cycleOf v
  segIn (b.gateEntry p l.bank) (c + l.cycle) v l.count 0 c

/-- The stretch of the operating list that holds instant v; after a switch of bases the last entry of the old cycle runs on
until the list starts (R361). -/
def Block.operSeg (b : Block) (p v : Nat) : GateSeg :=
  match (b.port p).gate.holdTill with
  | some h =>
    if v < h then { b.listSeg p (b.operList p) (h - 1) with start := v, stop := h } else b.listSeg p (b.operList p) v
  | none => b.listSeg p (b.operList p) v

/-- The stretch that holds instant v on the list as it will run: a change time cuts the cycle (R343). -/
def Block.gateSeg (b : Block) (p v : Nat) : GateSeg :=
  match (b.port p).gate.changeAt with
  | some c =>
    if v ≥ c then b.listSeg p (b.adminList p) v
    else let s := b.operSeg p v; { s with stop := min s.stop c }
  | none => b.operSeg p v

/-! ## What a gate admits (R339, R341, R345) -/

/-- The ns that port p's base shows. -/
def Block.portNs (b : Block) (p : Nat) : Nat := let t := b.tbase (b.portBase p); t.s * 1000000000 + t.ns
/-- Hundredths of a ns that a byte takes at the speed of port p. -/
def Block.byteTime (b : Block) (p : Nat) : Nat :=
  match b.fld (R.MAC_PORT_CFG p) F.MAC_PORT_CFG_SPEED with
  | 0 => 1 | 1 => 2 | _ => 4
/-- The list runs on a stepped base. -/
def Block.gateRuns (b : Block) (p : Nat) : Bool :=
  (b.tbase (b.portBase p)).state == .stepped && (b.port p).gate.run
/-- Whether class t of port p is in an open gate window (R303, R339, R345). -/
def Block.inWindow (b : Block) (p t : Nat) : Bool :=
  b.gateOn p && b.gateRuns p && bitOf (b.gateSeg p (b.port p).gate.entryAt).states t
/-- The guard band of class t in hundredths of a ns. -/
def Block.guardBand (b : Block) (p t : Nat) : Nat := (b.fld (R.PRT_GATE_SDU p t) F.PRT_GATE_SDU_V + 20) * b.byteTime p

/-- Whether class t stays open from the stretch at v until the instant `lim`, in hundredths of a ns. -/
def Block.openUntil (b : Block) (p t lim : Nat) : Nat → Nat → Bool
  | 0, _ => true
  | n + 1, v =>
    let s := b.gateSeg p v
    bitOf s.states t && (s.stop * 100 ≥ lim || b.openUntil p t lim n s.stop)

/-- Whether the gate of class t admits a frame whose projected start lies `lead` hundredths of a ns from now (R341); a gate
in fallback has no guard band (R345). The longest guard band is under 656 ns, and a stretch lasts 1 ns at least. -/
def Block.gateAdmits (b : Block) (p t lead : Nat) : Bool :=
  if !b.gateOn p then true
  else if !b.gateRuns p then bitOf (b.fld (R.PRT_GATE_CFG p) F.PRT_GATE_CFG_FALLBACK) t
  else
    let v := b.portNs p * 100 + lead
    b.openUntil p t (v + b.guardBand p t) 700 (v / 100)

/-! ## Opens and closes (R115, R331) -/

def Block.classOf (b : Block) (G q : Nat) : Nat := b.fld (R.RGN_QSCHED G q) F.RGN_QSCHED_GATE_TC
/-- The charge of a frame of n bytes (R324). -/
def chargeOf (n : Nat) : Nat := max 64 n + 20

/-- Class changes of port p from states `old` to `new`: a close of a queue that could have met its minimum breaks guarantee 4
(R331); an open that a generated control frame delays breaks guarantee 3 for a queue that holds a frame, one picked and yet to start
included (R115). -/
def Block.gateEdge (b : Block) (p old new : Nat) : Block :=
  if !b.gateOn p then b
  else
    let G := rgnOfPort p
    let lo := localPort p * 256
    let late := match (b.port p).ctrlAt with
      | some t => decide ((b.ticks - t) * 100 < 84 * b.byteTime p)
      | none => false
    let ahead := ((b.port p).tx.filter fun c => c.stage != .sending && c.stage != .preempted).map fun c => c.q
    let queues := ((b.region G).queues.map (·.1)).filter fun q => lo ≤ q && q < lo + 256
    (queues ++ (ahead.filter fun q => !queues.contains q).dedup).foldl (fun b q =>
      let t := b.classOf G q
      let holds := !((b.region G).queue q).ptrs.isEmpty || ahead.contains q
      let b := if late && bitOf new t && !bitOf old t && holds then b.breakOf G q 3 else b
      if bitOf old t && !bitOf new t then
        match b.headOf G q with
        | some (_, s) =>
          let h := SMap.get {} (b.region G).shapers q
          if h.cfg.minEn && h.minTok ≥ (chargeOf (Vec.f s.pkt.desc 13 D.len) : Int) * 4096 then b.breakOf G q 4 else b
        | none => b
      else b) b

/-- The states of port p's gates now: those of the list's stretch where it runs, `states`; else the fallback states (R345). -/
def Block.gateShown (b : Block) (p states : Nat) : Nat :=
  if (b.port p).gate.run then states else b.fld (R.PRT_GATE_CFG p) F.PRT_GATE_CFG_FALLBACK

/-- The list of port p moves on to the stretch at instant v. -/
def Block.gateMove (b : Block) (p v : Nat) : Block :=
  let old := b.gateSeg p (b.port p).gate.entryAt
  let new := b.gateSeg p v
  let b := b.gateEdge p (b.gateShown p old.states) new.states
  (b.modPort p fun x => { x with gate := { x.gate with entryAt := new.start, run := true, resumeAt := none, holdTill := none } }).setFld
    (R.PRT_GATE_STATUS p) F.PRT_GATE_STATUS_ENTRY new.entry

/-- GATE_ENTRY_END (R340): the entry in force has run its interval; the next one of the cycle takes effect. `got` bytes are there of a
frame still arriving at the head of a queue of the port (R331). -/
def Block.gateEntryEnd (p got : Nat) (b : Block) : Block :=
  let b := b.seen p got
  let s := b.gateSeg p (b.port p).gate.entryAt
  let cut := (b.port p).gate.changeAt == some s.stop
  if b.gateRuns p && b.portNs p ≥ s.stop && (b.operList p).cycleOf s.stop != s.stop && !cut then b.gateMove p s.stop else b

/-- GATE_CYCLE_START (R340, R345): the cycle in progress has ended, or the list resumes after a step, with entry 0. -/
def Block.gateCycleStart (p got : Nat) (b : Block) : Block :=
  let b := b.seen p got
  let g := (b.port p).gate
  if (b.tbase (b.portBase p)).state != .stepped then b
  else if g.run then
    let s := b.gateSeg p g.entryAt
    if b.portNs p ≥ s.stop && (b.operList p).cycleOf s.stop == s.stop && g.changeAt != some s.stop then b.gateMove p s.stop
    else b
  else match g.resumeAt with
    | some v => if b.portNs p ≥ v then b.gateMove p v else b
    | none => b

/-! ## Changing the list (R343 to R345) -/

/-- The first instant base + N × cycle at or after v, N ≥ 0. -/
def firstFrom (base cycle v : Nat) : Nat := if base ≥ v then base else base + (v - base + cycle - 1) / cycle * cycle

/-- A switch of the active base is pending (R360). -/
def Block.switching (b : Block) : Bool := b.flag R.TIM_ACTIVE_STATUS F.TIM_ACTIVE_STATUS_PENDING

/-- The end of the cycle that port p's list runs: a change time cuts it (R343). -/
def Block.cycleEnd (b : Block) (p : Nat) : Nat :=
  let l := b.operList p
  let g := (b.port p).gate
  let e := match g.holdTill with
    | some h => h
    | none => l.cycleOf g.entryAt + l.cycle
  match g.changeAt with | some c => min c e | none => e

/-- A port that has yet to switch bases at the end of its cycle switches at that end as it now stands (R360). -/
def Block.replan (b : Block) (p : Nat) : Block :=
  let x := b.port p
  if b.switching && !x.onTarget && x.switchAt.isSome then b.modPort p fun x => { x with switchAt := some (b.cycleEnd p) } else b

/-- The change time, where the base runs; a pending change waits for the step otherwise. -/
def Block.planChange (b : Block) (p : Nat) : Block :=
  if (b.tbase (b.portBase p)).state == .stepped then
    let c := firstFrom (b.adminBase p) (b.word (R.PRT_GATE_ADMIN_CYCLE p)) (b.portNs p + 2000)
    (b.modPort p fun x => { x with gate := { x.gate with changeAt := some c } }).replan p
  else b

/-- Whether the administrative list is refused (R344). -/
def Block.badChange (b : Block) (p : Nat) : Bool :=
  let n := b.word (R.PRT_GATE_ADMIN_COUNT p)
  let c := b.word (R.PRT_GATE_ADMIN_CYCLE p)
  b.flag (R.PRT_GATE_STATUS p) F.PRT_GATE_STATUS_PENDING || n < 1 || n > 1024 || c < 1000 || c > 1000000000
    || b.word (R.PRT_GATE_ADMIN_BASE_NS p) > 999999999
    || (List.range (min n 1024)).any fun i => (b.gateEntry p (1 - b.operBank p) i).interval == 0

/-- GATE_CHANGE_REQUEST, a write of GATE_CTRL with CHANGE at 1 (R343, R344). -/
def Block.gateRequest (w : Writer) (p v : Nat) (b : Block) : Block :=
  if F.PRT_GATE_CTRL_CHANGE.of v == 0 then b
  else if b.badChange p then
    (b.raise (R.PRT_GATE_STATUS p) F.PRT_GATE_STATUS_CHANGE_ERR).refuse w (R.PRT_GATE_CTRL p)
  else (b.raise (R.PRT_GATE_STATUS p) F.PRT_GATE_STATUS_PENDING).planChange p

/-- GATE_CANCEL, a write of GATE_CTRL with CANCEL at 1 (R344). -/
def Block.gateCancel (_w : Writer) (p v : Nat) (b : Block) : Block :=
  if F.PRT_GATE_CTRL_CANCEL.of v == 0 then b
  else ((b.lower (R.PRT_GATE_STATUS p) F.PRT_GATE_STATUS_PENDING).modPort p fun x =>
    { x with gate := { x.gate with changeAt := none } }).replan p

/-- GATE_CHANGE (R343): the change time has come. -/
def Block.gateChange (p got : Nat) (b : Block) : Block :=
  let b := b.seen p got
  match (b.port p).gate.changeAt with
  | some c =>
    if (b.tbase (b.portBase p)).state != .stepped || b.portNs p < c then b
    else
      let old := b.gateSeg p (b.port p).gate.entryAt
      let new := b.gateSeg p c
      let b := b.gateEdge p (b.gateShown p old.states) new.states
      let st := R.PRT_GATE_STATUS p
      let b := b.setFld st F.PRT_GATE_STATUS_OPER_BANK (1 - b.operBank p)
      let b := b.setWord (R.PRT_GATE_OPER_CYCLE p) (b.word (R.PRT_GATE_ADMIN_CYCLE p))
      let b := b.setWord (R.PRT_GATE_OPER_COUNT p) (b.word (R.PRT_GATE_ADMIN_COUNT p))
      let b := b.setWord (R.PRT_GATE_OPER_BASE_NS p) (b.word (R.PRT_GATE_ADMIN_BASE_NS p))
      let b := b.setWord (R.PRT_GATE_OPER_BASE_S_LO p) (b.word (R.PRT_GATE_ADMIN_BASE_S_LO p))
      let b := b.setWord (R.PRT_GATE_OPER_BASE_S_HI p) (b.word (R.PRT_GATE_ADMIN_BASE_S_HI p))
      let b := b.modPort p fun x =>
        { x with gate := { x.gate with changeAt := none, resumeAt := none, holdTill := none, run := true, entryAt := c } }
      let b := (b.setFld st F.PRT_GATE_STATUS_ENTRY 0).lower st F.PRT_GATE_STATUS_PENDING
      (b.raising 4 fun b => b.raise st F.PRT_GATE_STATUS_CHANGED).send 0xC p 0x48 0
  | none => b

/-- GATE_FALLBACK at most once per port per ms, where port p holds its fallback states (R345, Table 11-17). -/
def Block.gateFallback (b : Block) (p : Nat) : Block :=
  if b.gateOn p && !b.gateRuns p then b.sendOncePerMs 0xC p 0x49 0 else b

/-- The gates of port p go from the list's stretch to their fallback states (R345): a class that closes by it is judged (R331); what it
opens is no window. -/
def Block.gateFalls (b : Block) (p : Nat) : Block :=
  if !(b.port p).gate.run then b
  else
    let old := (b.gateSeg p (b.port p).gate.entryAt).states
    b.gateEdge p old (old &&& b.fld (R.PRT_GATE_CFG p) F.PRT_GATE_CFG_FALLBACK)

/-- The base of port p is armed again: its list stops (R345). -/
def Block.gateStop (b : Block) (p : Nat) : Block :=
  ((b.gateFalls p).modPort p fun x =>
    { x with gate := { x.gate with run := false, changeAt := none, resumeAt := none, holdTill := none } }).gateFallback p

/-- The base of port p is stepped: its list resumes at the first cycle start at least 2 µs on; a pending change time is
computed again (R345). -/
def Block.gateResume (b : Block) (p : Nat) : Block :=
  let l := b.operList p
  let v := b.portNs p + 2000
  let r := if l.cycleOf v == v then v else l.cycleOf v + l.cycle
  let b := (b.gateFalls p).modPort p fun x =>
    { x with gate := { x.gate with run := false, changeAt := none, resumeAt := some r, holdTill := none } }
  (if b.flag (R.PRT_GATE_STATUS p) F.PRT_GATE_STATUS_PENDING then b.planChange p else b).gateFallback p

/-- A write of GATE_CFG: a port whose base already runs joins its list where it stands (R339). -/
def Block.gateCfgWrite (w : Writer) (p v : Nat) (b : Block) : Block :=
  let was := b.gateOn p
  let b := b.storeReg w (R.PRT_GATE_CFG p) v
  if was || !b.gateOn p then b
  else if (b.port p).gate.run && (b.tbase (b.portBase p)).state == .stepped then
    let s := b.gateSeg p (b.portNs p)
    (b.modPort p fun x => { x with gate := { x.gate with entryAt := s.start } }).setFld (R.PRT_GATE_STATUS p)
      F.PRT_GATE_STATUS_ENTRY s.entry
  else b.gateFallback p

/-! ## The entries (R348) -/

/-- GCL_ADDR (R348): a write latches the named entry. -/
def Block.gclAddr (w : Writer) (p v : Nat) (b : Block) : Block :=
  let b := b.storeReg w (R.PRT_GCL_ADDR p) v
  let e := b.gateEntry p (b.fld (R.PRT_GCL_ADDR p) F.PRT_GCL_ADDR_BANK) (b.fld (R.PRT_GCL_ADDR p) F.PRT_GCL_ADDR_ENTRY)
  (b.setWord (R.PRT_GCL_DATA0 p) e.states).setWord (R.PRT_GCL_DATA1 p) e.interval

/-- GCL_WRITE, a write of GCL_DATA1 (R348). -/
def Block.gclWrite (w : Writer) (p v : Nat) (b : Block) : Block :=
  let bank := b.fld (R.PRT_GCL_ADDR p) F.PRT_GCL_ADDR_BANK
  if bank == b.operBank p || b.flag (R.PRT_GATE_STATUS p) F.PRT_GATE_STATUS_PENDING then b.refuse w (R.PRT_GCL_DATA1 p)
  else
    let b := b.storeReg w (R.PRT_GCL_DATA1 p) v
    let e : GateEntry := ⟨b.word (R.PRT_GCL_DATA0 p) % 256, b.word (R.PRT_GCL_DATA1 p) % 2 ^ 30⟩
    let i := bank * 1024 + b.fld (R.PRT_GCL_ADDR p) F.PRT_GCL_ADDR_ENTRY
    b.modPort p fun x => { x with gate := { x.gate with banks := SMap.set {} x.gate.banks i e } }

/-! ## Derived status (Table 11-13) -/

/-- The stretches of one cycle of list l, as (length, states). -/
def Block.segsOf (b : Block) (p : Nat) (l : GateList) : Nat → Nat → List (Nat × Nat)
  | 0, _ => []
  | n + 1, v =>
    let s := b.listSeg p l v
    (s.stop - v, s.states) :: (if s.stop ≥ l.base + l.cycle then [] else b.segsOf p l n s.stop)

/-- Whether some run of stretches with class t open is shorter than `need`; `run` is the length of the run in progress. -/
def shortRun (t need : Nat) : List (Nat × Nat) → Nat → Bool
  | [], run => run != 0 && run * 100 < need
  | (len, st) :: r, run =>
    if bitOf st t then shortRun t need r (run + len) else (run != 0 && run * 100 < need) || shortRun t need r 0

/-- SHORT_WIN (R341): an open window of the operating list, taken around the cycle, is shorter than its guard band. -/
def Block.shortWin (b : Block) (p : Nat) : Bool :=
  let l := b.operList p
  let segs := b.segsOf p l l.count l.base
  (List.range 8).any fun t =>
    let head := segs.takeWhile fun s => bitOf s.2 t
    let rest := segs.dropWhile fun s => bitOf s.2 t
    !rest.isEmpty && shortRun t (b.guardBand p t) (rest ++ head) 0

end Sys2Proof.Machine
end

