-- ==== Sys2Proof/Machine/Hbm.lean ====
section
/-!
DEFINITION. Machine/Hbm.lean: the HBM controller of a die: the requests of each pseudo-channel, their order, and the rows (spec/10, R315,
R316; assumption 129).
-/
namespace Sys2Proof.Machine
open Sys2Proof

/-! ## Addresses -/

/-- Silo is interleaved over the two stacks in 4 KiB units (R306): the stack of cell c, and its 256-byte unit there. -/
def siloStack (c : Nat) : Nat := c / 16 % 2
def siloUnit (c : Nat) : Nat := c / 32 * 16 + c % 16
/-- The trace ring lies in the last GiB of each stack, interleaved in the same way (R511, assumption 129): the stack and the 256-byte unit
of its 32-byte unit u. -/
def traceStack (u : Nat) : Nat := u / 128 % 2
def traceUnit (u : Nat) : Nat := 23 * 2 ^ 22 + u / 256 * 16 + u / 8 % 16

/-! ## Requests (R315) -/

def hbmKey (d s c : Nat) : Nat := (2 * d + s) * 2 ^ 16 + c

/-- A request to 256-byte unit u of stack s of die d. -/
def Block.hbmAsk (b : Block) (d s u : Nat) (write : Bool) (tag : Nat) : Block :=
  let r : HbmReq := { write := write, bank := Config.hbmBank u, row := Config.hbmRow u, at_ := b.ticks, tag := tag }
  { b with hbms := SMap.mod {} b.hbms (hbmKey d s (Config.hbmChannel u).toNat) fun x => { x with waiting := x.waiting ++ [r] } }

/-- Requests to n Silo cells of die d from cell c on. -/
def Block.siloAsk (b : Block) (d c n : Nat) (write : Bool) (tag : Nat) : Block :=
  b.each n fun b k => b.hbmAsk d (siloStack (c + k)) (siloUnit (c + k)) write tag

/-- The link record of the frame whose first cell is c is written to both stacks (R306). -/
def Block.linkWrite (b : Block) (d c : Nat) : Block :=
  (b.hbmAsk d 0 (siloUnit c) true 0).hbmAsk d 1 (siloUnit c) true 0

/-- The requests that a pseudo-channel holds. -/
def HbmChan.reqs (x : HbmChan) : List HbmReq := x.waiting ++ x.banks.flatMap fun e => e.2.reqs

/-- Whether a read of tag t still waits at a stack of die d. -/
def Block.hbmOwes (b : Block) (d t : Nat) : Bool :=
  b.hbms.any fun e => e.1 / 2 ^ 17 == d && e.2.reqs.any fun r => !r.write && r.tag == t

/-! ## Service (R315, R316) -/

/-- Requests enter the queues of their banks, of depth 8, each bank's in arrival order; what does not fit waits on. -/
def hbmPlace : List HbmReq → List Nat → SMap HbmBank → List HbmReq × SMap HbmBank
  | [], _, m => ([], m)
  | r :: rs, full, m =>
    let q := SMap.get {} m r.bank
    if full.contains r.bank || q.reqs.length ≥ 8 then
      let t := hbmPlace rs (r.bank :: full) m
      (r :: t.1, t.2)
    else hbmPlace rs full (SMap.set {} m r.bank { q with reqs := q.reqs ++ [r] })

/-- The request that a bank gives when its turn comes, of reads or of writes: the oldest; but one that hits the open row goes ahead of an
older one that needs an activate, at most `hits` in a row (R315). With it, whether it went ahead. -/
def HbmBank.next (q : HbmBank) (write : Bool) (hits : Nat) : Option (HbmReq × Bool) :=
  let l := q.reqs.filter fun r => r.write == write
  match l with
  | [] => none
  | r :: _ =>
    if q.row == some r.row || q.run ≥ hits then some (r, false)
    else match l.find? fun x => q.row == some x.row with
      | some x => some (x, true)
      | none => some (r, false)

/-- Takes the first request equal to r off a list. -/
def dropReq (r : HbmReq) : List HbmReq → List HbmReq
  | [] => []
  | x :: l => if x == r then l else x :: dropReq r l

/-- A row stays open for PAGE_IDLE ns after its last access, and is then precharged (R316); one just opened waits for its access. -/
def HbmBank.precharge (q : HbmBank) (now idle : Nat) : HbmBank :=
  if !q.fresh && now ≥ q.last + idle then { q with row := none } else q

/-- Whether a pseudo-channel drains writes at tick `now` (R316): from 24 waiting writes on, until 8 remain or a read has waited 1 µs. -/
def HbmChan.drains (x : HbmChan) (now : Nat) : Bool :=
  let writes := (x.reqs.filter fun r => r.write).length
  if x.drain then !(writes ≤ 8 || x.reqs.any fun r => !r.write && now ≥ r.at_ + 1000) else writes ≥ 24

/-- The first bank at or after turn t, around the end, that gives a request. -/
def hbmTurn (t : Nat) (l : List (Nat × HbmReq × Bool)) : Option (Nat × HbmReq × Bool) :=
  match l.find? fun e => e.1 ≥ t with
  | some e => some e
  | none => l.head?

/-- What a command of a pseudo-channel was, for the counts. -/
inductive HbmCmd where
  | none | activate | access (r : HbmReq) (hit : Bool)
deriving DecidableEq, Repr

/-- One turn of a pseudo-channel: its banks in rotating order, one command: the activate of a row that a request needs, or the access
itself. Reads go ahead of writes while it does not drain (R316). -/
def HbmChan.serve (x : HbmChan) (now hits idle : Nat) : HbmCmd × HbmChan :=
  let p := hbmPlace x.waiting [] x.banks
  let banks := (p.2.map fun e => (e.1, e.2.precharge now idle)).filter fun e => e.2 != {}
  let y : HbmChan := { x with waiting := p.1, banks := banks }
  let drain := y.drains now
  let write := drain || !(y.reqs.any fun r => !r.write)
  let y := { y with drain := drain }
  match hbmTurn y.turn (y.banks.filterMap fun e => (e.2.next write hits).map fun r => (e.1, r)) with
  | none => (.none, y)
  | some (k, r, ahead) =>
    let q := SMap.get {} y.banks k
    if q.row == some r.row then
      let hit := !q.fresh
      let q := { q with reqs := dropReq r q.reqs, run := if ahead then q.run + 1 else 0, fresh := false, last := now,
                        row := if idle == 0 then none else q.row }
      (.access r hit, { y with turn := k + 1, banks := SMap.set {} y.banks k q })
    else (.activate, { y with turn := k + 1, banks := SMap.set {} y.banks k { q with row := some r.row, fresh := true } })

/-- The events of the HBM units (Table 17-3). -/
def Block.hbmCount (b : Block) (d s : Nat) (c : HbmCmd) : Block :=
  match c with
  | .none => b
  | .activate => b.pmc (.hbm d) 0x03 s 1
  | .access r hit =>
    let b := b.pmc (.hbm d) (if r.write then 0x02 else 0x01) s 1
    if hit then b.pmc (.hbm d) 0x04 s 1 else b

/-- Every pseudo-channel takes one turn. -/
def Block.tickHbm (b : Block) : Block :=
  b.hbms.foldl (fun b e =>
    let d := e.1 / 2 ^ 17
    let a := R.HBM_CTRL_CFG d
    let r := e.2.serve b.ticks (b.fld a F.HBM_CTRL_CFG_HIT_RUN) (b.fld a F.HBM_CTRL_CFG_PAGE_IDLE)
    { b.hbmCount d (e.1 / 2 ^ 16 % 2) r.1 with hbms := SMap.set {} b.hbms e.1 r.2 }) b

end Sys2Proof.Machine
end

