-- ==== Sys2Proof/Machine/Buffer.lean ====
section
/-!
DEFINITION. Machine/Buffer.lean: the links between dies, admission to a region's output buffer, multicast pointers,
push-out, Silo and its read-back, the HBM (spec/10, R283 to R319; spec/09, R265 to R268).
-/
namespace Sys2Proof.Machine
open Sys2Proof

/-! ## Links (R287) -/

/-- The e-th other die of die d, in ascending order. -/
def otherDie (d e : Nat) : Nat := if e < d then e else e + 1
def linkKey (d e : Nat) : Nat := 4 * min d e + max d e
def Block.link (b : Block) (d e : Nat) : Link := SMap.get {} b.links (linkKey d e)
def Block.setLink (b : Block) (d e : Nat) (l : Link) : Block := { b with links := SMap.set {} b.links (linkKey d e) l }
/-- Whether die d reaches die e: trained, and neither end held (R288); a die always reaches itself. -/
def Block.linkUpTo (b : Block) (d e : Nat) : Bool :=
  !b.frozen d && (d == e || (!b.frozen e && (b.link d e).trained))
/-- XEP[d].LINK_STATUS (Table 10-2). -/
def Block.linkStatus (b : Block) (d : Nat) : Nat :=
  (List.range 3).foldl (fun v e => v + b2n (b.linkUpTo d (otherDie d e)) * 2 ^ e) 0

/-- The transfers that have failed in a row at die d of its link to die o. -/
def Block.linkFails (b : Block) (d o : Nat) : Nat := if d < o then (b.link d o).failsLow else (b.link d o).failsHigh
def Block.setFails (b : Block) (d o n : Nat) : Block :=
  b.setLink d o (if d < o then { b.link d o with failsLow := n } else { b.link d o with failsHigh := n })

/-- LINK_REPLAY (R287): a transfer that die d receives on its link to its e-th other die fails its CRC. -/
def Block.linkReplay (d e : Nat) (b : Block) : Block :=
  let o := otherDie d e
  if !b.linkUpTo d o then b
  else ((b.count (R.XEP_LINK_REPLAY d e) 1).pmc (.xep d) 0x03 e 1).setFails d o (b.linkFails d o + 1)

/-! ## Accounts of a region (R293) -/

def Block.qcfg (b : Block) (G q : Nat) (f : Bf) : Nat := b.fld (R.RGN_QCFG G q) f
def Block.minOf (b : Block) (G q : Nat) : Nat := b.qcfg G q F.RGN_QCFG_MIN
def Block.lossless (b : Block) (G q : Nat) : Bool := b.qcfg G q F.RGN_QCFG_LOSSLESS == 1
/-- ΣMIN of region G: 2 for every queue whose QCFG stands at its reset value. -/
def Block.sumMin (b : Block) (G : Nat) : Nat :=
  let lo := R.RGN_QCFG G 0
  let set := b.regs.filter fun e => lo ≤ e.1 && e.1 < lo + 32768
  (set.map fun e => e.2.toNat % 65536).sum + 2 * (8192 - set.length)
def Block.hdrmPool (b : Block) (G : Nat) : Nat := b.fld (R.RGN_BUF_CFG G) F.RGN_BUF_CFG_HDRM_POOL
/-- Shared cells in use (BUF_SHARED): the shared parts of the queues, of the lossless groups, and multicast copies. -/
def Block.sharedUsed (b : Block) (G : Nat) : Nat :=
  let g := b.region G
  (g.queues.map fun x => x.2.use - b.minOf G x.1).sum + (g.groups.map fun x => x.2.shared).sum
    + ((g.stored.filter fun x => x.2.mc).map fun x => x.2.own).sum
/-- Reserved cells in use (BUF_RESERVED). -/
def Block.reservedUsed (b : Block) (G : Nat) : Nat :=
  ((b.region G).queues.map fun x => min x.2.use (b.minOf G x.1)).sum
/-- Headroom cells in use (BUF_HDRM), and reserved cells borrowed (BUF_BORROWED). -/
def Region.hdrmUsed (g : Region) : Nat := (g.groups.map fun x => x.2.hdrm - x.2.borrowed).sum
def Region.borrowed (g : Region) : Nat := (g.groups.map fun x => x.2.borrowed).sum
/-- Tail-reserve cells (BUF_TAIL) and pointers (PTR_USED) in use; an admitted unicast frame holds its pointer while it waits its turn
(R267, R291). -/
def Region.tailUsed (g : Region) : Nat := (g.stored.map fun x => x.2.tail).sum
def Region.ptrUsed (g : Region) : Nat := (g.stored.map fun x => x.2.refs).sum + (g.mcPend.filter fun m => m.uni).length
/-- F: the free cells of the shared pool; 0 while more are in use than it holds. -/
def Block.freeShared (b : Block) (G : Nat) : Nat := 180224 - b.sumMin G - b.hdrmPool G - b.sharedUsed G
/-- Reserved cells that no queue uses and no group has borrowed (R298). -/
def Block.freeReserved (b : Block) (G : Nat) : Nat := b.sumMin G - b.reservedUsed G - (b.region G).borrowed

/-! ## Lossless groups (R296 to R298) -/

def groupKey (port pri : Nat) : Nat := port * 8 + pri
def Region.group (g : Region) (k : Nat) : LlGroup := SMap.get {} g.groups k
def Block.setGroup (b : Block) (G k : Nat) (x : LlGroup) : Block :=
  b.modRegion G fun g => { g with groups := SMap.set {} g.groups k x }

/-- The regions' requests for port p and priority n reach its pause generator (R297). -/
def Block.askXoff (b : Block) (p n : Nat) : Block :=
  let on := (List.range 8).any fun G => ((b.region G).group (groupKey p n)).xoff
  b.modPort p fun x => { x with bufReq := Bf.put ⟨n, n⟩ x.bufReq (b2n on) }

def Block.setGroupOf (b : Block) (G p n : Nat) (x : LlGroup) : Block := (b.setGroup G (groupKey p n) x).askXoff p n

/-- Group (p, n) now holds x; it leaves XOFF where it may (R297). -/
def Block.settleGroup (b : Block) (G p n : Nat) (x : LlGroup) : Block :=
  let calm := x.hdrm == 0 && x.shared ≤ b.fld (R.RGN_LL_CFG G) F.RGN_LL_CFG_LL_XON
  b.setGroupOf G p n { x with xoff := x.xoff && !calm }

/-- A write of LL_CFG: the groups in XOFF are judged by the new LL_XON (R297). -/
def Block.llCfgWrite (w : Writer) (G v : Nat) (b : Block) : Block :=
  if F.RGN_LL_CFG_LL_XON.of v ≥ F.RGN_LL_CFG_LL_XOFF.of v then b.refuse w (R.RGN_LL_CFG G)
  else
    let b := b.storeReg w (R.RGN_LL_CFG G) v
    ((b.region G).groups.filter fun e => e.2.xoff).foldl (fun b e => b.settleGroup G (e.1 / 8) (e.1 % 8) e.2) b

/-- The account that takes one cell of group x (R296, R298). -/
inductive LlWay where
  | shared | hdrm | borrow | none
deriving DecidableEq, Repr

def Block.llWay (b : Block) (G : Nat) (x : LlGroup) : LlWay :=
  let room := x.hdrm < b.fld (R.RGN_LL_HDRM G) F.RGN_LL_HDRM_HDRM_MAX
  if b.freeShared G > 0 && x.shared < b.fld (R.RGN_LL_CFG G) F.RGN_LL_CFG_LL_XOFF then .shared
  else if room && (b.region G).hdrmUsed < b.hdrmPool G then .hdrm
  else if room && b.flag (R.RGN_BUF_CFG G) F.RGN_BUF_CFG_BORROW_EN && b.freeReserved G > 0 then .borrow
  else .none

/-- One cell freed of group x (R298). -/
def LlGroup.freeCell (x : LlGroup) : LlGroup :=
  if x.borrowed > 0 then { x with borrowed := x.borrowed - 1, hdrm := x.hdrm - 1 }
  else if x.hdrm > 0 then { x with hdrm := x.hdrm - 1 }
  else { x with shared := x.shared - 1 }

def LlGroup.freeCells (x : LlGroup) : Nat → LlGroup
  | 0 => x
  | n + 1 => x.freeCell.freeCells n

/-! ## Charging and freeing cells (R289, R290) -/

/-- Whether a unicast frame of queue q counts as lossless: a host frame sent direct to queue belongs to no group (R296). -/
def Block.llFrame (b : Block) (G q : Nat) (k : Pkt) : Bool := b.lossless G q && k.id != 0

/-- The group of a packet on queue q: its ingress port and priority. -/
def Block.groupOf (b : Block) (G q : Nat) (k : Pkt) : Nat × Nat := (Vec.f k.desc 13 D.inPort, b.qcfg G q F.RGN_QCFG_LL_PRI)

/-- Charges one cell of stored frame sid; a cell that its accounts cannot take goes to the tail reserve. -/
def Block.chargeCell (b : Block) (G sid : Nat) : Block :=
  let s := (b.region G).frame sid
  let q := s.q
  let own := (b.modStored G sid fun s => { s with own := s.own + 1 })
  let tail := b.modStored G sid fun s => { s with tail := s.tail + 1 }
  let b := if s.mc then (if b.freeShared G > 0 then own else tail)
    else
      let use := ((b.region G).queue q).onDie
      let mine := own.modQueue G q fun x => { x with use := x.use + 1 }
      if use < b.minOf G q then (if b.freeReserved G > 0 then mine else tail)
      else if b.llFrame G q s.pkt then
        let (p, n) := b.groupOf G q s.pkt
        let x := (b.region G).group (groupKey p n)
        let grp := (b.modStored G sid fun s => { s with grp := s.grp + 1 }).modQueue G q fun x => { x with grp := x.grp + 1 }
        match b.llWay G x with
        | .shared => grp.setGroupOf G p n { x with shared := x.shared + 1 }
        | .hdrm => grp.setGroupOf G p n { x with hdrm := x.hdrm + 1, xoff := true }
        | .borrow => grp.setGroupOf G p n { x with hdrm := x.hdrm + 1, borrowed := x.borrowed + 1, xoff := true }
        | .none => tail
      else if b.freeShared G > 0 then mine else tail
  b.pmc (.rgn G) 0x01 (q / 256) 1

/-- Up to n group cells of lossless queue q become its own, while it has fewer of its own than its MIN: its reserved part is min(use, MIN)
at every moment (R293). The oldest stored frame gives them up first (assumption 130). -/
def Block.toReserve (b : Block) (G q : Nat) : Nat → Block
  | 0 => b
  | n + 1 =>
    if ((b.region G).queue q).use ≥ b.minOf G q then b
    else match (b.region G).stored.find? fun e => e.2.q == q && e.2.grp > 0 with
      | none => b
      | some (sid, s) =>
        let (p, m) := b.groupOf G q s.pkt
        let b := b.modStored G sid fun s => { s with own := s.own + 1, grp := s.grp - 1 }
        let b := b.modQueue G q fun x => { x with use := x.use + 1, grp := x.grp - 1 }
        (b.settleGroup G p m ((b.region G).group (groupKey p m)).freeCell).toReserve G q n

/-- Up to n own cells of lossless queue q above its MIN go to the shared use of their groups (R293), those of the newest stored frame first
(assumption 130). -/
def Block.toGroups (b : Block) (G q : Nat) : Nat → Block
  | 0 => b
  | n + 1 =>
    if ((b.region G).queue q).use ≤ b.minOf G q then b
    else match (b.region G).stored.reverse.find? fun e => !e.2.mc && e.2.q == q && e.2.own > 0 && e.2.pkt.id != 0 with
      | none => b
      | some (sid, s) =>
        let (p, m) := b.groupOf G q s.pkt
        let x := (b.region G).group (groupKey p m)
        let b := b.modStored G sid fun s => { s with own := s.own - 1, grp := s.grp + 1 }
        let b := b.modQueue G q fun x => { x with use := x.use - 1, grp := x.grp + 1 }
        (b.setGroupOf G p m { x with shared := x.shared + 1 }).toGroups G q n

/-- The split of lossless queue q into its reserved part and the rest is brought up to date (R293). -/
def Block.resplit (b : Block) (G q : Nat) : Block :=
  if !b.lossless G q then b
  else
    let x := (b.region G).queue q
    (b.toReserve G q x.grp).toGroups G q x.use

/-- The cells of stored frame sid return to their accounts, and it is gone. -/
def Block.freeStored (b : Block) (G sid : Nat) : Block :=
  let s := (b.region G).frame sid
  let b := b.modRegion G fun g => { g with stored := SMap.del g.stored sid, mcPend := g.mcPend.filter fun m => m.sid != sid }
  if s.mc then b
  else
    let b := b.modQueue G s.q fun x => { x with use := x.use - s.own, grp := x.grp - s.grp }
    let (p, n) := b.groupOf G s.q s.pkt
    (if s.grp == 0 then b else b.settleGroup G p n (((b.region G).group (groupKey p n)).freeCells s.grp)).resplit G s.q

/-- Whether a stored copy still waits for pointers. -/
def Region.owes (g : Region) (sid : Nat) : Bool := g.mcPend.any fun m => m.sid == sid

/-- A pointer of stored frame sid has been sent or dropped (R265): with the last one gone, and the frame whole, its cells
return. -/
def Block.releasePtr (b : Block) (G sid : Nat) : Block :=
  let b := b.modStored G sid fun s => { s with refs := s.refs - 1 }
  let g := b.region G
  if (g.frame sid).refs == 0 && !g.owes sid then b.freeStored G sid else b

/-! ## Refusals and push-out (R295, R303, R304, R313) -/

/-- A refused arrival of queue q: ADMIT_DROP and QADMIT_DROP, and a break of guarantee 1 where it is lossless. -/
def Block.refuseArrival (b : Block) (G q : Nat) (ll : Bool) : Block :=
  let b := ((b.count (R.RGN_ADMIT_DROP G) 1).count (R.RGN_QADMIT_DROP G q) 1).pmc (.rgn G) 0x03 (q / 256) 1
  if ll then b.breakOf G q 1 else b

/-- The newest frame of queue v that may be evicted (R303), among its pointers, newest first. -/
def Block.victimIn (b : Block) (G v : Nat) : List Ptr → Option Ptr
  | [] => none
  | x :: r =>
    let s := (b.region G).frame x.sid
    let cells := s.own + s.tail
    let fits := ((b.region G).queue v).use ≥ b.minOf G v + cells
    let lone := !s.mc || (s.refs == 1 && !(b.region G).owes x.sid)
    if s.whole && fits && lone then some x else b.victimIn G v r

/-- The eligible victim of lossy queue v, if any. -/
def Block.victimOf (b : Block) (G v : Nat) : Option Ptr :=
  let h := SMap.get {} (b.region G).shapers v
  if b.lossless G v || b.inWindow (portOfQueue G v) (b.classOf G v) || (h.cfg.minEn && h.minTok > 0) then none
  else b.victimIn G v ((b.region G).queue v).ptrs.reverse

/-- Orders victims: lowest PO_CLASS, most on-die cells, lowest queue (R304). -/
def betterVictim (x y : Nat × Nat × Nat × Ptr) : Bool :=
  x.1 < y.1 || (x.1 == y.1 && (x.2.1 > y.2.1 || (x.2.1 == y.2.1 && x.2.2.1 < y.2.2.1)))
def bestVictim : List (Nat × Nat × Nat × Ptr) → Option (Nat × Nat × Nat × Ptr)
  | [] => none
  | x :: r => match bestVictim r with
    | some y => if betterVictim x y then some x else some y
    | none => some x

/-- A pointer leaves its queue without being sent. -/
def Block.dropPtr (b : Block) (G q : Nat) (x : Ptr) : Block :=
  (b.modQueue G q fun y => { y with ptrs := y.ptrs.filter fun z => z != x }).releasePtr G x.sid

/-- The region tries to evict one frame for an arrival of queue q (R303, R304). -/
def Block.pushOut (b : Block) (G q : Nat) : Bool × Block :=
  let po := b.qcfg G q F.RGN_QCFG_PO_CLASS
  let lower := (b.region G).queues.filter fun x =>
    b.qcfg G x.1 F.RGN_QCFG_PO_CLASS < po && (!x.2.ptrs.isEmpty || !x.2.silo.isEmpty)
  let cands := lower.filterMap fun x =>
    (b.victimOf G x.1).map fun y => (b.qcfg G x.1 F.RGN_QCFG_PO_CLASS, x.2.onDie, x.1, y)
  match bestVictim cands with
  | some (_, _, v, x) =>
    (true, (((b.dropPtr G v x).count (R.RGN_PO_EVICT G) 1).count (R.RGN_QPO_VICTIM G v) 1).pmc (.rgn G) 0x04 0xFFF 1)
  | none => (false, if lower.isEmpty then b else b.breakOf G q 5)

/-! ## Silo (R305 to R308) -/

/-- The die's granted Silo (SILO_GRANTED): the charges of both regions, and cells lost to failed link records. -/
def Block.siloGranted (b : Block) (d : Nat) : Nat :=
  ([2 * d, 2 * d + 1].map fun G => ((b.region G).queues.map fun x => x.2.siloCells).sum + (b.region G).leaked).sum
/-- Voided cells not yet drained (SILO_VOID). -/
def Block.siloVoid (b : Block) (d : Nat) : Nat :=
  ([2 * d, 2 * d + 1].map fun G => ((b.region G).queues.map fun x =>
    ((x.2.silo.filter fun s => s.void).map fun s => s.charge).sum).sum).sum

/-- Marks void the last frame of arrival number n that is not void yet. -/
def voidAt (n : Nat) : List SiloFrame → List SiloFrame
  | [] => []
  | s :: r =>
    if s.arr == n && !s.void && !(r.any fun x => x.arr == n && !x.void) then { s with void := true } :: r else s :: voidAt n r

/-- The arrival number of the newest Silo frame that may be voided. -/
def Queue.newestSilo (x : Queue) : Option Nat := (x.inSilo.map fun s => s.arr).max?

/-- R305: voids the newest frame in Silo of a spilled, lossy queue of lower PO_CLASS, whose read-back has not been issued. -/
def Block.voidFor (b : Block) (G q : Nat) : Option Block :=
  let po := b.qcfg G q F.RGN_QCFG_PO_CLASS
  let cands := ((b.region G).queues.filter fun x =>
    x.2.spilled && !b.lossless G x.1 && b.qcfg G x.1 F.RGN_QCFG_PO_CLASS < po).filterMap fun x =>
      x.2.newestSilo.map fun n => (x.1, n)
  let top := (cands.map (·.2)).foldl max 0
  match cands.find? fun c => c.2 == top with
  | some (v, n) =>
    if b.siloVoid (G / 2) > 4194304 then none
    else some ((((b.modQueue G v fun x => { x with silo := voidAt n x.silo }).count (R.RGN_PO_VOID G) 1).count
      (R.RGN_QPO_VICTIM G v) 1).pmc (.rgn G) 0x04 0xFFF 1)
  | none => none

/-- A refused Silo arrival (R308). -/
def Block.siloRefuse (b : Block) (G q a : Nat) : Block :=
  (((b.count a 1).count (R.RGN_QSILO_DROP G q) 1).count (R.RGN_ADMIT_DROP G) 1).pmc (.rgn G) 0x03 (q / 256) 1

/-- A frame takes its place in a Silo part, in arrival order at the region (R267, R307). -/
def siloInsert (f : SiloFrame) : List SiloFrame → List SiloFrame
  | [] => [f]
  | s :: r => if f.arr < s.arr then f :: s :: r else s :: siloInsert f r

/-- Both link records of each frame name the next frame's first cell (R306). -/
def relink : List SiloFrame → List SiloFrame
  | [] => []
  | [s] => [{ s with link0 := none, link1 := none }]
  | s :: t :: r => { s with link0 := some t.pos, link1 := some t.pos } :: relink (t :: r)

/-- The cells of a die's Silo, the 1 GiB of voided frames included (R306). -/
def siloCellsOfDie : Nat := 192937984

/-- A frame is written to the Silo part of queue q, into the cells given out next (assumption 131): its cells, and the link record of the
frame that it follows, on both stacks. -/
def Block.siloTake (b : Block) (G q : Nat) (f : SiloFrame) : Block :=
  let d := G / 2
  let n := cellsOf f.pkt.bytes.length
  let pos := (b.die d).siloNext
  let f := { f with pos := pos }
  let l := relink (siloInsert f ((b.region G).queue q).silo)
  let b := (b.modDie d fun x => { x with siloNext := (pos + n) % siloCellsOfDie }).modQueue G q fun x => { x with silo := l }
  let b := b.siloAsk d pos n true 0
  let b := (l.filter fun s => s.link0 == some pos || (s.pos == pos && s.link0.isSome)).foldl (fun b s => b.linkWrite d s.pos) b
  (b.count (R.RGN_QSILO_FRAMES G q) 1).pmc (.rgn G) 0x05 (q / 256) 1

/-- A frame bound for the Silo part of queue q, which is spilled from now on (R307, R308): whether it was taken. `room`: the region's Silo
write FIFO has at least 16 KiB free. -/
def Block.toSilo (b : Block) (G q : Nat) (f : SiloFrame) (room : Bool) : Bool × Block :=
  let lim := b.fld (R.RGN_QLIM G q) F.RGN_QLIM_SILO_MAX * 4096
  let b := b.modQueue G q fun x => { x with spilled := true }
  let take := fun (b : Block) => b.siloTake G q f
  if ((b.region G).queue q).siloCells + 64 > lim then (false, b.siloRefuse G q (R.RGN_SILO_DROP_LIMIT G))
  else if !room then (false, b.siloRefuse G q (R.RGN_SILO_DROP_BW G))
  else if b.siloGranted (G / 2) + 64 > 188743680 then
    match b.voidFor G q with
    | some b => (true, take b)
    | none => (false, b.siloRefuse G q (R.RGN_SILO_DROP_FULL G))
  else (true, take b)

/-- Whether lossy queue q may spill: not while a stack of its die has failed training (R438). -/
def Block.maySpill (b : Block) (G q : Nat) : Bool :=
  b.qcfg G q F.RGN_QCFG_SPILL_EN == 1 && b.fld (R.HBM_TRAIN_STATUS (G / 2)) F.HBM_TRAIN_STATUS_FAILED == 0
    && !b.lossless G q && b.fld (R.RGN_QLIM G q) F.RGN_QLIM_SILO_MAX != 0

/-! ## Admission (R290 to R299) -/

/-- What admission says of an arrival. -/
inductive Verdict where
  | onDie | silo | refuse
deriving DecidableEq, Repr

/-- R295: the shared part of a lossy queue, with `extra` cells added, lies below α × F. -/
def Block.alphaOk (b : Block) (G q extra : Nat) : Bool :=
  let free := b.freeShared G
  free > 0 && (((b.region G).queue q).use - b.minOf G q + extra) * 256 < free * 2 ^ b.qcfg G q F.RGN_QCFG_ALPHA

/-- The decision on a unicast arrival of queue q, its counts taken. -/
def Block.judge (b : Block) (G q : Nat) (k : Pkt) : Verdict × Block :=
  let ll := b.llFrame G q k
  let x := (b.region G).queue q
  let spill := b.maySpill G q
  if !b.lossless G q && (x.spilled || (spill && x.onDie ≥ b.fld (R.RGN_QSPILL G q) F.RGN_QSPILL_SPILL_TH)) then (.silo, b)
  else if (b.region G).ptrUsed ≥ 262144 then
    let b := b.count (R.RGN_PTR_DROP G) 1
    (.refuse, (if x.onDie < b.minOf G q then b.breakOf G q 2 else b).refuseArrival G q ll)
  else if x.onDie < b.minOf G q then
    if b.freeReserved G > 0 then (.onDie, b) else (.refuse, (b.breakOf G q 2).refuseArrival G q ll)
  else if ll then
    let (p, n) := b.groupOf G q k
    let g := (b.region G).group (groupKey p n)
    if b.llWay G g == .none then (.refuse, b.refuseArrival G q true) else (.onDie, b)
  else if b.alphaOk G q 0 then (.onDie, b)
  else if spill then (.silo, b)
  else if b.qcfg G q F.RGN_QCFG_PO_CLASS > 0 && !b.lossless G q then
    let r := b.pushOut G q
    if r.1 then (.onDie, r.2) else (.refuse, r.2.refuseArrival G q ll)
  else (.refuse, b.refuseArrival G q ll)

/-- The next number of an arrival at region G. -/
def Block.takeNumber (b : Block) (G : Nat) : Nat × Block :=
  ((b.region G).next, b.modRegion G fun g => { g with next := g.next + 1 })

/-- A frame enters the region's cells: its number, and its first cell charged. -/
def Block.store (b : Block) (G : Nat) (s : Stored) : Nat × Block :=
  let sid := (b.region G).next
  let s := { s with got := min 256 s.pkt.bytes.length }
  (sid, (b.modRegion G fun g => { g with stored := SMap.put g.stored sid s, next := sid + 1 }).chargeCell G sid)

/-- R106: what of a cut-through frame does not depend on its bytes. -/
def Block.cutsThrough (b : Block) (G q : Nat) (k : Pkt) : Bool :=
  let x := (b.region G).queue q
  let p := portOfQueue G q
  let inP := Vec.f k.desc 13 D.inPort
  b.flag (R.PRT_CT_CFG p) F.PRT_CT_CFG_CT_EN && x.ptrs.isEmpty && !x.spilled && k.host.isNone && k.id != 0
    && b.fld (R.MAC_PORT_CFG inP) F.MAC_PORT_CFG_SPEED ≤ b.fld (R.MAC_PORT_CFG p) F.MAC_PORT_CFG_SPEED

/-- A pointer of stored frame sid joins queue q (R291, R301). -/
def Block.enqueue (b : Block) (G q sid eg rw : Nat) : Block :=
  let s := (b.region G).frame sid
  let x : Ptr := { sid := sid, eg := eg, rw := rw, enq := b.ticks, ct := b.cutsThrough G q s.pkt }
  (b.modStored G sid fun s => { s with refs := s.refs + 1 }).modQueue G q fun y => { y with ptrs := y.ptrs ++ [x] }

/-- The class queue of a unicast packet in its region. -/
def Pkt.queue (k : Pkt) : Nat := Vec.f k.desc 0 D.egPort % 32 * 256 + Vec.f k.desc 13 D.cq

/-- A unicast arrival: its state as a transit, and the block. -/
def Block.admitUni (b : Block) (G : Nat) (k : Pkt) (room : Bool) : CellState × Block :=
  let q := k.queue
  let eg := Vec.f k.desc 0 D.egPort
  let rw := Vec.f k.desc 2 D.rewriteIdx
  let r := b.judge G q k
  match r.1 with
  | .refuse => (.refused, r.2)
  | .silo =>
    let a := r.2.takeNumber G
    let t := a.2.toSilo G q { pkt := k, arr := a.1, eg := eg, rw := rw, enq := b.ticks } room
    if t.1 then (.siloing q, t.2) else (.refused, t.2)
  | .onDie =>
    let t := r.2.store G { pkt := k, q := q }
    let b := t.2.pmc (.rgn G) 0x02 (q / 256) 1
    if (b.region G).mcPend.isEmpty then (.writing t.1, b.enqueue G q t.1 eg rw)
    else (.writing t.1, b.modRegion G fun g => { g with mcPend := g.mcPend ++ [⟨t.1, 0, 1, true⟩] })

/-- The first pool entry of region G's segment (R263). -/
def mcStart (g : Vec) (G : Nat) : Nat := g.f 0 ⟨16, 0⟩ + ((List.range G).map (mcCount g)).sum

/-- A multicast copy's arrival (R265, R267). -/
def Block.admitMc (b : Block) (G : Nat) (k : Pkt) : CellState × Block :=
  let waiting := ((b.region G).mcPend.map fun m => m.left).sum
  if waiting > b.fld (R.RGN_MC_CFG G) F.RGN_MC_CFG_PEND_LIMIT then
    (.refused, (b.count (R.RGN_MC_ENQ_DROP G) 1).count (R.RGN_ADMIT_DROP G) 1)
  else
    let t := b.store G { pkt := k, mc := true }
    let m : McPend := { sid := t.1, next := mcStart k.group G, left := mcCount k.group G }
    (.writing t.1, (t.2.count (R.RGN_MC_COPIES G) 1).modRegion G fun g => { g with mcPend := g.mcPend ++ [m] })

/-! ## The write port (R285) -/

/-- The frames at input i of region G: the source FIFO of die i, or the host link (4). -/
def Block.input (b : Block) (G i : Nat) : List Transit :=
  if i < 4 then b.fifo i G else SMap.get [] b.hostLinks G
def Block.setInput (b : Block) (G i : Nat) (l : List Transit) : Block :=
  if i < 4 then b.setFifo i G l else { b with hostLinks := SMap.set [] b.hostLinks G l }

def CellState.isOpen : CellState → Bool
  | .waiting => false
  | _ => true

/-- The ingress port of a transit; frames of the host link share one opening (R290). -/
def Transit.port (t : Transit) : Nat := Vec.f t.pkt.desc 13 D.inPort

/-- The first frame of an input whose first cell may come: none of its pipe is open (R290). -/
def nextWaiting (host : Bool) : List Transit → List Transit → Option Nat
  | _, [] => none
  | seen, t :: r =>
    let busy := seen.any fun x => host || x.port == t.port
    if !t.st.isOpen && !busy then some seen.length else nextWaiting host (seen ++ [t]) r

def setNth {α : Type} (l : List α) (n : Nat) (x : α) : List α := l.take n ++ [x] ++ l.drop (n + 1)
def delNth {α : Type} (l : List α) (n : Nat) : List α := l.take n ++ l.drop (n + 1)

/-- Cells that cross from input i to region G. -/
def Block.crossed (b : Block) (G i n : Nat) : Block :=
  if i < 4 then (b.pmc (.xep i) 0x01 G n).pmc (.xep (G / 2)) 0x02 i n else b

/-- Whether cells may pass from input i to region G. -/
def Block.inputUp (b : Block) (G i : Nat) : Bool := if i < 4 then b.linkUpTo i (G / 2) else !b.frozen (G / 2)

/-- A frame lost to a forwarding reset of die d (R490). -/
def Block.fwdLost (b : Block) (d n : Nat) : Block :=
  (b.count (R.DIE_FWD_RESET_DROP d) n).modDie d fun x => { x with dropped := x.dropped + n }

/-- Whether input i of region G holds the first cell of a frame, and no cell of a frame already open goes before it. -/
def Block.offers (b : Block) (G i : Nat) : Bool :=
  b.inputUp G i && (b.input G i).any (fun t => t.st == .waiting) && (b.input G i).all fun t => t.st == .waiting

/-- Whether the write port's turn may be input i's (R285): no input that comes before it in the rotation holds the first cell of a frame.
The later cells of open frames take their turns between the commands (assumption 132). -/
def Block.inTurn (b : Block) (G i : Nat) : Bool :=
  let t := (b.region G).inTurn
  (List.range ((i + 5 - t) % 5)).all fun k => !b.offers G ((t + k) % 5)

/-- Input i of region G has had its turn; a good transfer on its link ends a run of failures there (R285, R287). -/
def Block.tookTurn (b : Block) (G i : Nat) : Block :=
  let b := b.modRegion G fun g => { g with inTurn := (i + 1) % 5 }
  if i < 4 && i != G / 2 then b.setFails (G / 2) i 0 else b

/-- FRAME_ADMIT (R285, R290 to R299, R307, R308): the first cell of input i's next frame reaches region G, in its turn. `room`: the region's
Silo write FIFO has at least 16 KiB free. While the die refuses after a forwarding reset, the frame is lost (R490). -/
def Block.frameAdmit (G i : Nat) (room : Bool) (b : Block) : Block :=
  if !b.inputUp G i || !b.inTurn G i then b
  else match nextWaiting (i == 4) [] (b.input G i) with
    | none => b
    | some n =>
      let k := ((b.input G i).getD n {}).pkt
      let b := (b.crossed G i 1).tookTurn G i
      let mc := Vec.f k.desc 0 D.fwdKind == 2 && k.id != 0
      let r := if (b.die (G / 2)).refusing then (CellState.refused, b.fwdLost (G / 2) 1)
        else if mc then b.admitMc G k else b.admitUni G k room
      r.2.setInput G i (setNth (r.2.input G i) n { pkt := k, st := r.1 })

/-! ## Multicast pointers (R265, R267, R299) -/

/-- A member's pointer on queue q, for stored copy sid: enqueued, written to Silo as a copy of its own, or dropped. -/
def Block.admitMember (b : Block) (G sid eg rw q : Nat) (room : Bool) : Block :=
  let s := (b.region G).frame sid
  let x := (b.region G).queue q
  let ll := b.lossless G q
  let enter := fun (b : Block) =>
    ((b.enqueue G q sid eg rw).count (R.RGN_MC_POINTERS G) 1).pmc (.rgn G) 0x06 0xFFF 1
  let silo := fun (b : Block) =>
    (b.toSilo G q { pkt := s.pkt, arr := sid, eg := eg, rw := rw, mc := true, enq := b.ticks, whole := s.whole,
                    charge := if s.whole then cellsOf s.pkt.bytes.length else 64 } room).2
  let spill := b.maySpill G q
  if !ll && (x.spilled || (spill && x.onDie ≥ b.fld (R.RGN_QSPILL G q) F.RGN_QSPILL_SPILL_TH)) then silo b
  else if (b.region G).ptrUsed ≥ 262144 then (b.count (R.RGN_PTR_DROP G) 1).refuseArrival G q ll
  else if ll then
    let (p, n) := b.groupOf G q s.pkt
    let g := (b.region G).group (groupKey p n)
    if b.freeShared G > 0 && g.shared < b.fld (R.RGN_LL_CFG G) F.RGN_LL_CFG_LL_XOFF then enter b
    else b.refuseArrival G q true
  else if b.alphaOk G q (cellsOf s.pkt.bytes.length) then enter b
  else if spill then silo b
  else b.refuseArrival G q false

/-- What pool entry m of region G says for a multicast frame: no member, one outside the region, one pruned, or a member with its
egress port and REWRITE entry (R265). -/
inductive McMember where
  | none | outside | pruned | at_ (eg rw : Nat)
deriving DecidableEq, Repr

def Block.memberAt (b : Block) (G m : Nat) (k : Pkt) : McMember :=
  let e := b.entry (G / 2) T.mcast (2 ^ 19 + m)
  let eg := e.f 0 ⟨25, 18⟩
  if e.f 0 ⟨31, 31⟩ == 0 then .none
  else if eg / 32 != G then .outside
  else if Vec.f k.group 0 ⟨30, 30⟩ == 1 && eg == Vec.f k.desc 13 D.inPort then .pruned
  else .at_ eg (e.f 0 ⟨17, 0⟩)

/-- One member of the list (R265). -/
def Block.member (b : Block) (G sid m : Nat) (room : Bool) : Block :=
  let k := ((b.region G).frame sid).pkt
  match b.memberAt G m k with
  | .none => b
  | .outside => (b.count (R.RGN_MC_MEMBER_ERR G) 1).sendOncePerMs 0xA G 0x38 m
  | .pruned => b.count (R.RGN_MC_PRUNED G) 1
  | .at_ eg rw =>
    let cq := Vec.f (b.entry (G / 2) T.queueMap (eg * 256 + Vec.f k.desc 0 D.class_)) 0 ⟨7, 0⟩
    b.admitMember G sid eg rw (eg % 32 * 256 + cq) room

/-- The unicast frames at the front of the waiting list take their turn. -/
def Block.enqueueUni (b : Block) (G : Nat) : Nat → Block
  | 0 => b
  | n + 1 =>
    match (b.region G).mcPend with
    | m :: r =>
      if m.uni then
        let b := b.modRegion G fun g => { g with mcPend := r }
        let k := ((b.region G).frame m.sid).pkt
        (b.enqueue G k.queue m.sid (Vec.f k.desc 0 D.egPort) (Vec.f k.desc 2 D.rewriteIdx)).enqueueUni G n
      else b
    | [] => b

/-- MC_ENQUEUE (R267): region G enqueues up to 32 pointers of the copy at the front; unicast frames behind it follow. -/
def Block.mcEnqueue (G : Nat) (room : Bool) (b : Block) : Block :=
  if b.frozen (G / 2) then b
  else match (b.region G).mcPend with
    | [] => b
    | m :: r =>
      if m.uni then b.enqueueUni G (b.region G).mcPend.length
      else
        let n := min 32 m.left
        let b := (List.range n).foldl (fun b j => b.member G m.sid (m.next + j) room) b
        if m.left > n then
          b.modRegion G fun g => { g with mcPend := { m with next := m.next + n, left := m.left - n } :: r }
        else
          let b := b.modRegion G fun g => { g with mcPend := r }
          let b := if ((b.region G).frame m.sid).refs == 0 then b.freeStored G m.sid else b
          b.enqueueUni G (b.region G).mcPend.length

/-! ## The last cell (R290, R301, R302) -/

def Pkt.markBad (k : Pkt) : Pkt := { k with late := none, bad := true }

/-- The egress ports of the copies of stored frame sid that still wait for their pointers (R267). -/
def Block.owedPorts (b : Block) (G sid : Nat) : List Nat :=
  let k := ((b.region G).frame sid).pkt
  ((b.region G).mcPend.filter fun m => m.sid == sid).flatMap fun m =>
    if m.uni then [Vec.f k.desc 0 D.egPort]
    else (List.range m.left).filterMap fun j => match b.memberAt G (m.next + j) k with
      | .at_ eg _ => some eg
      | .none | .outside | .pruned => none

/-- A stored frame's tail has arrived marked bad: the copies not yet started are dropped, those that wait for their pointers
included (R302); a started one is stomped (R111). -/
def Block.badStored (b : Block) (G sid : Nat) : Block :=
  let b := (b.owedPorts G sid).foldl (fun b p => b.count (R.MAC_TX_BAD_DROP p) 1) b
  let b := b.modStored G sid fun s => { s with pkt := s.pkt.markBad }
  let b := b.modRegion G fun g => { g with mcPend := g.mcPend.filter fun m => m.sid != sid }
  let held := (b.region G).queues.flatMap fun x => (x.2.ptrs.filter fun y => y.sid == sid).map fun y => (x.1, y)
  let b := held.foldl (fun b x => (b.dropPtr G x.1 x.2).count (R.MAC_TX_BAD_DROP x.2.eg) 1) b
  if (SMap.find (b.region G).stored sid).isSome && ((b.region G).frame sid).refs == 0 then b.freeStored G sid else b

/-- Stored frame sid is whole: the rest of its cells are charged, and a bad tail takes effect. -/
def Block.wholeStored (b : Block) (G sid : Nat) (bad : Bool) : Block :=
  if (SMap.find (b.region G).stored sid).isNone then b
  else
    let n := cellsOf ((b.region G).frame sid).pkt.bytes.length
    let b := (List.range (n - 1)).foldl (fun b _ => b.chargeCell G sid) b
    let b := b.modStored G sid fun s => { s with whole := true, got := s.pkt.bytes.length }
    if bad then b.badStored G sid else b

/-- The tail of a Silo-bound frame: its unused charge returns, and it carries its bad mark (R302, R308). -/
def tailSilo (id : Nat) (bad : Bool) : List SiloFrame → List SiloFrame
  | [] => []
  | s :: r =>
    if !s.whole && s.pkt.id == id then
      { s with whole := true, charge := cellsOf s.pkt.bytes.length, pkt := if bad then s.pkt.markBad else s.pkt }
        :: tailSilo id bad r
    else s :: tailSilo id bad r

/-- The tail of a transit frame reaches region G. -/
def Block.endTransit (b : Block) (G : Nat) (t : Transit) (bad : Bool) : Block :=
  match t.st with
  | .writing sid =>
    let b := b.wholeStored G sid bad
    b.modRegion G fun g => { g with queues := g.queues.map fun x => (x.1, { x.2 with silo := tailSilo t.pkt.id bad x.2.silo }) }
  | .siloing q => b.modQueue G q fun x => { x with silo := tailSilo t.pkt.id bad x.silo }
  | .waiting | .refused => b

/-- FRAME_TAIL_WRITTEN (R289, R290, R301): the last cell of the n-th open frame of input i is written to region G. -/
def Block.tailWritten (G i n : Nat) (b : Block) : Block :=
  if !b.inputUp G i then b
  else
    let l := b.input G i
    match (List.range l.length).filter fun j => (l.getD j {}).st.isOpen with
    | js =>
      match js[n]? with
      | none => b
      | some j =>
        let t := l.getD j {}
        let n := cellsOf t.pkt.bytes.length - 1
        if t.pkt.late.isSome then b
        else
          let b := if n == 0 then b else (b.crossed G i n).tookTurn G i
          (b.setInput G i (delNth l j)).endTransit G t t.pkt.bad

/-! ## Link retraining (R287, R288) -/

/-- The open frames of a FIFO lose their cells: each is completed as a frame whose tail is marked bad; the number of them. -/
def Block.loseOpen (b : Block) (G i : Nat) : Nat × Block :=
  let l := b.input G i
  let lost := l.filter fun t => t.st.isOpen
  (lost.length, lost.foldl (fun b t => b.endTransit G t true) (b.setInput G i (l.filter fun t => !t.st.isOpen)))

/-- LINK_RETRAIN (R287): after 16 failures in a row the link of die d to its e-th other die retrains; the frames of both
directions whose cells were on it are lost. -/
def Block.linkRetrain (d e : Nat) (b : Block) : Block :=
  let o := otherDie d e
  if !b.linkUpTo d o || (b.linkFails d o < 16 && b.linkFails o d < 16) then b
  else
    let b := b.setLink d o {}
    let r := [(d, 2 * o), (d, 2 * o + 1), (o, 2 * d), (o, 2 * d + 1)].foldl (fun (x : Nat × Block) y =>
      let t := x.2.loseOpen y.2 y.1
      (x.1 + t.1, if t.1 == 0 then t.2 else t.2.count (R.XEP_LINK_LOSS y.1) t.1)) (0, b)
    if r.1 == 0 then r.2 else r.2.send 9 d 0x41 0

/-- LINK_RETRAIN_DONE (R287). -/
def Block.linkRetrainDone (d e : Nat) (b : Block) : Block := b.setLink d (otherDie d e) { trained := true }

/-! ## Silo read-back (R309, R310, R317) -/

/-- Void frames at the front of a queue's Silo part drain once their tails are written (R305); a queue whose last Silo frame goes is no
longer spilled (R310). -/
def Queue.drain (x : Queue) : Queue :=
  let s := x.silo.dropWhile fun s => s.void && s.whole
  { x with silo := s, spilled := x.spilled && (!s.isEmpty || x.silo.isEmpty) }

/-- The front Silo frame of queue q leaves Silo. -/
def Block.popSilo (b : Block) (G q : Nat) : Block :=
  b.modQueue G q fun x =>
    let y := ({ x with silo := x.silo.drop 1, copying := none }).drain
    { y with spilled := x.spilled && !y.silo.isEmpty }

/-- The frame that the read-back engine would copy for queue q of region G (R309): the front one that is not void, once its tail is written,
while the on-die part holds fewer than REFILL cells and the shared pool has room for it; and no earlier arrival still waits for its
pointers (R267). -/
def Block.readable (b : Block) (G q : Nat) : Option SiloFrame :=
  let x := ((b.region G).queue q).drain
  match x.silo with
  | [] => none
  | f :: _ =>
    let room := b.freeShared G ≥ cellsOf f.pkt.bytes.length && (b.region G).ptrUsed < 262144
    if f.whole && x.onDie < b.fld (R.RGN_QSPILL G q) F.RGN_QSPILL_REFILL && room && (b.region G).mcPend.all (fun m => m.sid > f.arr)
    then some f else none

/-- Whether the engine of die d is copying a frame. -/
def Block.siloBusy (b : Block) (d : Nat) : Bool :=
  [2 * d, 2 * d + 1].any fun G => (b.region G).queues.any fun x => x.2.copying.isSome

/-- Whether it is the turn of queue q of region G (R309): the queues of both regions that can be read take turns, one frame each. -/
def Block.siloTurn (b : Block) (G q : Nat) : Bool :=
  let d := G / 2
  let last := (b.die d).siloTurn
  let all := [2 * d, 2 * d + 1].flatMap fun G =>
    (((b.region G).queues.map (·.1)).filter fun q => (b.readable G q).isSome).map fun q => G % 2 * 8192 + q
  (match all.find? fun k => k ≥ last with
    | some k => some k
    | none => all.head?) == some (G % 2 * 8192 + q)

/-- The mark of the HBM reads of stored frame sid of region G. -/
def siloTag (G sid : Nat) : Nat := 2 * sid + G % 2 + 1

/-- The engine begins to copy Silo frame f, the front one of queue q, on-die (R309): its cells are taken, which count in the queue, its
pointer joins the queue, cut through where CT_EN of its port says so, and its cells are read. -/
def Block.copyBack (b : Block) (G q : Nat) (f : SiloFrame) : Block :=
  let n := cellsOf f.pkt.bytes.length
  let sid := (b.region G).next
  let ct := b.flag (R.PRT_CT_CFG (portOfQueue G q)) F.PRT_CT_CFG_CT_EN
  let s : Stored := { pkt := f.pkt, refs := 1, q := q, own := n }
  let b := b.modRegion G fun g => { g with stored := SMap.put g.stored sid s, next := sid + 1 }
  let b := b.modQueue G q fun x =>
    { x with use := x.use + n, copying := some sid, ptrs := x.ptrs ++ [{ sid := sid, eg := f.eg, rw := f.rw, enq := f.enq, ct := ct }] }
  (b.siloAsk (G / 2) f.pos n false (siloTag G sid)).pmc (.rgn G) 0x01 (q / 256) n

/-- The last cell of stored frame sid, copied from Silo, is on-die. -/
def Block.copyEnd (b : Block) (G q sid : Nat) : Block :=
  (if (SMap.find (b.region G).stored sid).isSome then
    b.modStored G sid fun s => { s with whole := true, got := s.pkt.bytes.length } else b).popSilo G q

/-- The data of stored frame sid could not be read (R317): the engine drops it; a copy that has left its queue ends as one whose tail is
marked bad (R111). -/
def Block.copyLost (b : Block) (G q sid : Nat) : Block :=
  let b := match ((b.region G).queue q).ptrs.find? fun x => x.sid == sid with
    | some x => b.dropPtr G q x
    | none => if (SMap.find (b.region G).stored sid).isSome then
        b.modStored G sid fun s => { s with whole := true, pkt := s.pkt.markBad } else b
  b.popSilo G q

/-- Counts an uncorrectable read and reports its stack address (R317). -/
def Block.hbmUe (b : Block) (d addr : Nat) : Block := (b.count (R.HBM_ECC_UE d) 1).send 8 d 0x43 addr
/-- Counts a corrected read of stack s (R317). -/
def Block.hbmCe (b : Block) (d s : Nat) : Block :=
  ((b.count (R.HBM_ECC_CE d) 1).pmc (.hbm d) 0x06 s 1).sendOncePerMs 8 d 0x42 0

/-- The queue's remaining Silo frames are lost with their link records (R317): their cells stay out until a forwarding reset. -/
def Block.siloLost (b : Block) (G q : Nat) : Block :=
  let d := G / 2
  let lost := ((b.region G).queue q).siloCells
  let b := (b.modQueue G q fun x => { x with silo := [], spilled := false }).modRegion G fun g => { g with leaked := g.leaked + lost }
  (b.count (R.HBM_SILO_LEAK d) lost).send 8 d 0x44 0

/-- The engine turns to queue q of region G, with the outcome r of the read of the front frame's link record on stack s: the copy begins,
and a frame marked bad is dropped there (R302). -/
def Block.siloBegin (b : Block) (G q s : Nat) (r : SiloRead) : Block :=
  let d := G / 2
  match b.readable G q with
  | none => b
  | some f =>
    let b := (b.modQueue G q Queue.drain).modDie d fun x => { x with siloTurn := G % 2 * 8192 + q + 1 }
    let b := b.hbmAsk d s (siloUnit f.pos) false 0
    let go := fun (b : Block) =>
      if f.pkt.bad then (b.popSilo G q).count (R.MAC_TX_BAD_DROP f.eg) 1 else b.copyBack G q f
    match r with
    | .good => go b
    | .corrected => go (b.hbmCe d s)
    | .fallback a => go (((b.hbmUe d a.toNat).count (R.HBM_LINK_FALLBACK d) 1).hbmAsk d (1 - s) (siloUnit f.pos) false 0)
    | .lost a => (((b.hbmUe d a.toNat).hbmAsk d (1 - s) (siloUnit f.pos) false 0).hbmUe d a.toNat).siloLost G q
    | .bad _ => b

/-- The reads of stored frame sid's data have been served, with the outcome r; the others are outcomes of a link record. -/
def Block.siloFinish (b : Block) (G q sid s : Nat) (r : SiloRead) : Block :=
  let d := G / 2
  if b.hbmOwes d (siloTag G sid) then b
  else match r with
    | .good => b.copyEnd G q sid
    | .corrected => (b.hbmCe d s).copyEnd G q sid
    | .bad a => ((b.hbmUe d a.toNat).copyLost G q sid).count (R.HBM_SILO_ECC_DROP d) 1
    | .fallback _ | .lost _ => b

/-- SILO_READBACK (R309, R310, R317): the read-back engine reads for queue q of region G, one frame at a time: the link record of the front
frame, with which its copy begins, or the data of the frame that it is copying. -/
def Block.siloReadback (G q s : Nat) (r : SiloRead) (b : Block) : Block :=
  let d := G / 2
  if b.frozen d then b
  else match ((b.region G).queue q).copying with
    | some sid => b.siloFinish G q sid s r
    | none =>
      if b.siloBusy d then b
      else if b.siloTurn G q then b.siloBegin G q s r
      else b.modQueue G q Queue.drain

/-! ## The stacks (R316, R318) -/

/-- HBM_REFRESH (R316): in service, the controller of die d refreshes stack s. -/
def Block.hbmRefresh (d s : Nat) (b : Block) : Block := if b.frozen d then b else b.pmc (.hbm d) 0x05 s 1

/-- SELF_REFRESH_ENTRY (R318): in Hold, stack s has been idle for SR_IDLE µs. -/
def Block.selfRefresh (d s : Nat) (b : Block) : Block :=
  let idle := b.fld (R.HBM_CTRL_CFG d) F.HBM_CTRL_CFG_SR_IDLE * 1000
  if b.frozen d && b.ticks - SMap.get 0 (b.die d).srAt s ≥ idle then b.orFld (R.HBM_SR_STATUS d) F.HBM_SR_STATUS_V (2 ^ s)
  else b

/-! ## Field rules -/

/-- R293: a write of v to BUF_CFG. -/
def Block.bufCfgOk (b : Block) (G v : Nat) : Bool := b.sumMin G + F.RGN_BUF_CFG_HDRM_POOL.of v ≤ 180224
/-- R293, R300: a write of v to QCFG[q]. -/
def Block.qcfgOk (b : Block) (G q v : Nat) : Bool :=
  let old := b.word (R.RGN_QCFG G q)
  let x := (b.region G).queue q
  let moves := F.RGN_QCFG_LOSSLESS.of v != F.RGN_QCFG_LOSSLESS.of old || F.RGN_QCFG_LL_PRI.of v != F.RGN_QCFG_LL_PRI.of old
  b.sumMin G - old % 65536 + v % 65536 + b.hdrmPool G ≤ 180224 && !(moves && (x.onDie != 0 || x.spilled))
/-- A write of QCFG: a change of MIN moves cells between the reserved part and the rest (R293). -/
def Block.qcfgWrite (w : Writer) (G q v : Nat) (b : Block) : Block :=
  if b.qcfgOk G q v then (b.storeReg w (R.RGN_QCFG G q) v).resplit G q else b.refuse w (R.RGN_QCFG G q)
/-- Table 10-7. -/
def qspillOk (v : Nat) : Bool :=
  let t := F.RGN_QSPILL_SPILL_TH.of v
  let r := F.RGN_QSPILL_REFILL.of v
  64 ≤ t && 64 ≤ r && r ≤ t
/-- Table 10-8. -/
def qlimOk (v : Nat) : Bool := F.RGN_QLIM_SILO_MAX.of v ≤ 46080
/-- Table 9-7. -/
def mcCfgOk (v : Nat) : Bool := 512 ≤ F.RGN_MC_CFG_PEND_LIMIT.of v && F.RGN_MC_CFG_PEND_LIMIT.of v ≤ 32768
/-- Table 10-11. -/
def ctrlCfgOk (v : Nat) : Bool := F.HBM_CTRL_CFG_SR_IDLE.of v != 0 && F.HBM_CTRL_CFG_HIT_RUN.of v != 0

end Sys2Proof.Machine
end

