-- ==== Sys2Proof/Machine/Rewrite.lean ====
section
/-!
DEFINITION. Machine/Rewrite.lean: what E1 does to the bytes of a copy, and the PTP edits of the transmit island (spec/09,
R269 to R278, R551; spec/12, R363 to R367). Offsets count from the copy's first byte; the copy stands without its FCS.
-/
namespace Sys2Proof.Machine
open Sys2Proof

/-! ## Parts of a copy -/

/-- Why E1 ends a copy: an invalid entry, an operation that cannot apply, RFC 6040, expiry, length (R271 to R278). -/
inductive E1Stop where
  | invalid | err | ecn | expired | oversize
deriving DecidableEq, Repr

/-- The copy as a step leaves it: its bytes and the count of its outer tags (R551). -/
structure Edit where
  buf : List Byte
  tags : Nat
deriving DecidableEq, Repr

/-- R271: a header of n bytes at pos lies wholly within the copy's first 256 bytes and its bytes before the FCS. -/
def need (buf : List Byte) (pos n : Nat) : Bool := pos + n ≤ min buf.length 256

def isTpid (t : Nat) : Bool := t == 0x8100 || t == 0x88A8 || t == 0x9100
/-- The tags of a frame that was not parsed: up to 3 (R551). -/
def countTags (buf : List Byte) : Nat → Nat → Nat
  | 0, n => n
  | k + 1, n => if isTpid (beAt buf (12 + 4 * n) 2) then countTags buf k (n + 1) else n

def nibble (buf : List Byte) (pos : Nat) : Nat := byteAt buf pos / 16
/-- What follows the EtherType of a copy (R551): where the EtherType stands, whether it announces labels, the labels that lie within
reach, where the first IP header starts, and whether the headers that lead to it end beyond reach (R271). -/
structure Stack where
  ep : Nat
  mpls : Bool := false
  n : Nat := 0
  ip : Option Nat := none
  lost : Bool := false
deriving DecidableEq, Repr

/-- The IP header at pos, if its version is one of vs; its first byte may lie beyond reach. -/
def Stack.ipAt (s : Stack) (buf : List Byte) (pos : Nat) (vs : List Nat) : Stack :=
  if !need buf pos 1 then { s with lost := true } else if vs.contains (nibble buf pos) then { s with ip := some pos } else s

/-- Walks a label stack from pos, n labels seen. -/
def Stack.labels (s : Stack) (buf : List Byte) : Nat → Nat → Nat → Stack
  | 0, _, n => { s with n := n, lost := true }
  | k + 1, pos, n =>
    if !need buf pos 4 then { s with n := n, lost := true }
    else if byteAt buf (pos + 2) % 2 == 1 then ({ s with n := n + 1 } : Stack).ipAt buf (pos + 4) [4, 6]
    else s.labels buf k (pos + 4) (n + 1)

def stackOf (e : Edit) : Stack :=
  let ep := 12 + 4 * e.tags
  let et := beAt e.buf ep 2
  let s : Stack := { ep := ep }
  if et == 0x8847 || et == 0x8848 then ({ s with mpls := true } : Stack).labels e.buf 64 (ep + 2) 0
  else if et == 0x0800 then s.ipAt e.buf (ep + 2) [4]
  else if et == 0x86DD then s.ipAt e.buf (ep + 2) [6]
  else s

def isV4 (buf : List Byte) (ip : Nat) : Bool := nibble buf ip == 4
/-- The bytes of the fixed IP header. -/
def ipLen (buf : List Byte) (ip : Nat) : Nat := if isV4 buf ip then 20 else 40

/-- The header checksum of the IPv4 header at ip after a change from `old`: HC' = ~(~HC + ~m + m') (R277). -/
def fix4 (old new : List Byte) (ip : Nat) : List Byte :=
  if !isV4 old ip then new
  else
    let sum (b : List Byte) : Nat := sum16 (slice b ip (ip + 10)) + sum16 (slice b (ip + 12) (ip + 20))
    let hc := inv16 (fold16 (inv16 (beAt old (ip + 10) 2) + inv16 (fold16 (sum old)) + sum new))
    patch new (ip + 10) (beBytes 2 hc)

/-- The traffic class of the IP header at ip, and how it is set. -/
def tcOf (buf : List Byte) (ip : Nat) : Nat :=
  if isV4 buf ip then byteAt buf (ip + 1) else byteAt buf ip % 16 * 16 + byteAt buf (ip + 1) / 16
def setTc (buf : List Byte) (ip tc : Nat) : List Byte :=
  let new := if isV4 buf ip then patch buf (ip + 1) (beBytes 1 tc)
    else patch buf ip [BitVec.ofNat 8 (0x60 + tc / 16), BitVec.ofNat 8 (tc % 16 * 16 + byteAt buf (ip + 1) % 16)]
  fix4 buf new ip
def ttlPos (buf : List Byte) (ip : Nat) : Nat := ip + if isV4 buf ip then 8 else 7
def setTtl (buf : List Byte) (ip v : Nat) : List Byte := fix4 buf (patch buf (ttlPos buf ip) (beBytes 1 v)) ip

/-- DMAC and SMAC of an edit entry (Table 9-8). -/
def macsOf (w : Vec) : List Byte := beBytes 4 (w.w 1) ++ beBytes 4 (w.w 2) ++ beBytes 4 (w.w 3)
def pushTpid (w : Vec) : Nat := match w.f 0 ⟨25, 24⟩ with | 0 => 0x8100 | 1 => 0x88A8 | _ => 0x9100

/-! ## Step 1: decapsulation (R273) -/

/-- RFC 6040, normal mode: the inner ECN under an outer one; none: the copy is dropped unless software forwards it. -/
def ecnOf (outer inner : Nat) : Option Nat :=
  if outer == 3 && (inner == 1 || inner == 2) then some 3
  else if outer == 1 && inner == 2 then some 1
  else if outer == 3 && inner == 0 then none
  else some inner

/-- Byte 0 always starts an Ethernet header, so that DECAP_OFF 0 removes nothing. -/
def decap (k : Pkt) (d w : Vec) (notEct : Bool) (buf : List Byte) : Except E1Stop Edit :=
  let off := d.f 2 D.decapOff
  if off == 0 then .ok ⟨buf, d.f 15 ⟨25, 24⟩⟩ else
  let inner := buf.drop off
  let l3 := d.f 15 ⟨23, 16⟩
  let e : Edit := if k.innerEth then ⟨inner, d.f 15 ⟨26, 26⟩⟩
    else ⟨macsOf w ++ beBytes 2 (if isV4 inner 0 then 0x0800 else 0x86DD) ++ inner, 0⟩
  if !k.innerEth && w.f 0 ⟨28, 28⟩ == 0 then .error .err
  else if l3 == 0 || l3 ≥ off then .ok e
  else match (stackOf e).ip with
    | none => if (stackOf e).lost then .error .err else .ok e
    | some ip =>
      if !need buf l3 (ipLen buf l3) || !need e.buf ip (ipLen e.buf ip) then .error .err
      else
        let tc := tcOf e.buf ip
        match ecnOf (tcOf buf l3 % 4) (tc % 4) with
        | some n => .ok (if n == tc % 4 then e else { e with buf := setTc e.buf ip (tc / 4 * 4 + n) })
        | none => if notEct then .ok e else .error .ecn

/-! ## Step 2: TTL and DSCP (R274) -/

def ttlStep (d : Vec) (e : Edit) : Except E1Stop Edit :=
  let s := stackOf e
  if d.f 0 D.ttlDec == 0 then .ok e
  else if s.mpls then
    if !need e.buf (s.ep + 2) 4 then .error .err
    else if byteAt e.buf (s.ep + 5) ≤ 1 then .error .expired
    else .ok { e with buf := patch e.buf (s.ep + 5) (beBytes 1 (byteAt e.buf (s.ep + 5) - 1)) }
  else match s.ip with
    | none => if s.lost then .error .err else .ok e
    | some ip =>
      if !need e.buf ip (ipLen e.buf ip) then .error .err
      else
        let t := byteAt e.buf (ttlPos e.buf ip)
        if t ≤ 1 then .error .expired else .ok { e with buf := setTtl e.buf ip (t - 1) }

def dscpStep (d w : Vec) (e : Edit) : Except E1Stop Edit :=
  let v := if d.f 1 ⟨5, 5⟩ == 1 then some (d.f 1 ⟨11, 6⟩) else if w.f 0 ⟨18, 18⟩ == 1 then some (w.f 0 ⟨17, 12⟩) else none
  match (stackOf e).ip, v with
  | some ip, some x =>
    if !need e.buf ip (ipLen e.buf ip) then .error .err
    else .ok { e with buf := setTc e.buf ip (x * 4 + tcOf e.buf ip % 4) }
  | none, some _ => if (stackOf e).lost then .error .err else .ok e
  | _, none => .ok e

/-! ## Step 3: MPLS (R275) -/

def mplsSwap (w : Vec) (e : Edit) (s : Stack) : Except E1Stop Edit :=
  let top := s.ep + 2
  if s.n == 0 || !need e.buf top 4 then .error .err
  else
    let lse := w.w 5 / 512 * 512 + beAt e.buf top 4 % 512
    .ok { e with buf := patch e.buf top (beBytes 4 lse) }

/-- The TTL of pushed labels. -/
def pushTtl (w : Vec) (e : Edit) (s : Stack) : Option Nat :=
  if w.f 0 ⟨19, 19⟩ == 1 then some (w.f 4 ⟨15, 8⟩)
  else if s.mpls then (if need e.buf (s.ep + 2) 4 then some (byteAt e.buf (s.ep + 5)) else none)
  else match s.ip with
    | some ip => if need e.buf ip (ipLen e.buf ip) then some (byteAt e.buf (ttlPos e.buf ip)) else none
    | none => none

def mplsPush (w : Vec) (e : Edit) (s : Stack) : Except E1Stop Edit :=
  let et := beAt e.buf s.ep 2
  if et != 0x0800 && et != 0x86DD && et != 0x8847 && et != 0x8848 then .error .err
  else match pushTtl w e s with
    | none => .error .err
    | some ttl =>
      let k := w.f 0 ⟨21, 20⟩ + 1
      let new := (List.range k).flatMap fun i =>
        beBytes 4 (w.w (5 + i) / 512 * 512 + b2n (i + 1 == k && !s.mpls) * 256 + ttl)
      let head := if !s.mpls then e.buf.take s.ep ++ beBytes 2 0x8847 else e.buf.take (s.ep + 2)
      .ok { e with buf := head ++ new ++ e.buf.drop (s.ep + 2) }

def mplsPop (w : Vec) (e : Edit) (s : Stack) : Except E1Stop Edit :=
  let top := s.ep + 2
  if s.n == 0 || !need e.buf top 4 then .error .err
  else
    let last := byteAt e.buf (top + 2) % 2 == 1
    let ttl := byteAt e.buf (top + 3)
    let nib := nibble e.buf (top + 4)
    if last && (!need e.buf (top + 4) (ipLen e.buf (top + 4)) || (nib != 4 && nib != 6)) then .error .err
    else
      let buf := e.buf.take top ++ e.buf.drop (top + 4)
      let uniform := w.f 0 ⟨19, 19⟩ == 0
      if uniform && !last && !need e.buf (top + 4) 4 then .error .err
      else
        let buf := if !uniform then buf else if last then setTtl buf top ttl else patch buf (top + 3) (beBytes 1 ttl)
        .ok { e with buf := if last then patch buf s.ep (beBytes 2 (if nib == 4 then 0x0800 else 0x86DD)) else buf }

def mplsStep (w : Vec) (e : Edit) : Except E1Stop Edit :=
  let s := stackOf e
  match w.f 0 ⟨23, 22⟩ with
  | 0 => .ok e
  | 1 => mplsSwap w e s
  | 2 => mplsPush w e s
  | _ => mplsPop w e s

/-! ## Step 4 without encapsulation (R276) -/

def l2Step (w : Vec) (e : Edit) : Except E1Stop Edit :=
  let buf := if w.f 0 ⟨28, 28⟩ == 1 then patch e.buf 0 (macsOf w) else e.buf
  let tci := w.f 4 ⟨31, 16⟩
  let push : Edit := ⟨buf.take 12 ++ beBytes 2 (pushTpid w) ++ beBytes 2 tci ++ buf.drop 12, e.tags + 1⟩
  match w.f 0 ⟨27, 26⟩ with
  | 0 => .ok ⟨buf, e.tags⟩
  | 1 =>
    if e.tags == 0 then .ok push
    else if !need buf 12 4 then .error .err
    else .ok ⟨patch buf 14 (beBytes 2 (beAt buf 14 2 / 4096 * 4096 + tci % 4096)), e.tags⟩
  | 2 => .ok push
  | _ =>
    if e.tags == 0 then .ok ⟨buf, e.tags⟩
    else if !need buf 12 4 then .error .err
    else .ok ⟨buf.take 12 ++ buf.drop 16, e.tags - 1⟩

/-- PCP of the outermost tag of the outermost Ethernet header (R276). -/
def pcpStep (d : Vec) (e : Edit) : Except E1Stop Edit :=
  if d.f 1 ⟨1, 1⟩ == 0 || e.tags == 0 then .ok e
  else if !need e.buf 12 4 then .error .err
  else .ok { e with buf := patch e.buf 14 (beBytes 1 (byteAt e.buf 14 % 32 + d.f 1 ⟨4, 2⟩ * 32)) }

/-! ## Step 4 with encapsulation, and the outer checksum (R276, R277) -/

/-- Where the IP header at D15.OFF_L3 of a packet as received starts; 0 where none stands there, as with ARP (Table 4-9). -/
def hashL3 (k : Pkt) : Nat :=
  let d : Vec := k.desc
  let l3 := d.f 15 ⟨23, 16⟩
  let arp := beAt k.bytes (12 + 4 * d.f 15 ⟨25, 24⟩) 2 == 0x0806
  if !arp && (nibble k.bytes l3 == 4 || nibble k.bytes l3 == 6) then l3 else 0

/-- The flow hash of a copy, over its headers as received (R276). The fields of an IP header that is not there count as 0 (assumption
126). -/
def flowHash (seed : Nat) (k : Pkt) : Nat :=
  let d : Vec := k.desc
  let l3 := hashL3 k
  let l4 := d.f 15 ⟨15, 8⟩
  let v4 := isV4 k.bytes l3
  let sa := if l3 == 0 then zeros 16 else if v4 then slice k.bytes (l3 + 12) (l3 + 16) ++ zeros 12
    else slice k.bytes (l3 + 8) (l3 + 24)
  let da := if l3 == 0 then zeros 16 else if v4 then slice k.bytes (l3 + 16) (l3 + 20) ++ zeros 12
    else slice k.bytes (l3 + 24) (l3 + 40)
  h16 (beBytes 4 seed ++ sa ++ da ++ beBytes 1 (if l3 == 0 then 0 else k.proto)
    ++ (if l4 == 0 then zeros 4 else slice k.bytes l4 (l4 + 4)))

/-- The L4 header that the IPv6 extension headers from `nh` at pos lead to: its position, protocol, whether a fragment. -/
def ext6 (buf : List Byte) : Nat → Nat → Nat → Bool → Nat × Nat × Bool
  | 0, pos, nh, fr => (pos, nh, fr)
  | k + 1, pos, nh, fr =>
    if nh == 44 then ext6 buf k (pos + 8) (byteAt buf pos) true
    else if nh == 0 || nh == 43 || nh == 60 then ext6 buf k (pos + (byteAt buf (pos + 1) + 1) * 8) (byteAt buf pos) fr
    else (pos, nh, fr)

/-- The sum of a payload that R277 derives from its inner L4 checksum; none: the whole-frame sum applies. `n0` is the length of
the copy as received. -/
def derived (pay : List Byte) (ip : Option Nat) (n0 : Nat) : Option Nat :=
  match ip with
  | none => none
  | some o =>
    let v4 := isV4 pay o
    let l := if v4 then (o + byteAt pay o % 16 * 4, byteAt pay (o + 9), beAt pay (o + 6) 2 % 16384 != 0)
      else ext6 pay 4 (o + 40) (byteAt pay (o + 6)) false
    let stop := if v4 then o + beAt pay (o + 2) 2 else o + 40 + beAt pay (o + 4) 2
    let l4 := l.1
    let pr := l.2.1
    let hl := if pr == 6 then 20 else 8
    let addrs := if v4 then slice pay (o + 12) (o + 20) else slice pay (o + 8) (o + 40)
    let n := stop - l4
    if l.2.2 || (pr != 6 && pr != 17) || l4 + hl + n0 > 256 + pay.length || l4 + hl > pay.length || stop > pay.length
        || (pr == 17 && beAt pay (l4 + 6) 2 == 0) || (stop < pay.length && n0 > 256) then none
    else
      let seg := inv16 (fold16 (sum16 addrs + n / 65536 + n % 65536 + pr))
      some (fold16 (sum16 (pay.take l4) + seg + sum16 (zeros (stop % 2) ++ pay.drop stop)))

/-- What encapsulation makes of a copy: the new copy, whether E1 must wait for the whole frame, and whether the port's IPv4
identification counter was used. -/
structure Encap where
  e : Edit
  wait : Bool
  usedId : Bool
deriving DecidableEq, Repr

def encap (k : Pkt) (w t : Vec) (seed ident : Nat) (e : Edit) : Except E1Stop Encap :=
  let ip := (stackOf e).ip
  let innerIp := t.f 0 ⟨9, 9⟩ == 1
  let reach := match ip with | some o => need e.buf o (ipLen e.buf o) | none => !(stackOf e).lost
  if w.f 0 ⟨28, 28⟩ == 0 || (innerIp && ip.isNone) || !reach then .error .err
  else
    let typ := t.f 0 ⟨28, 27⟩
    let v6 := t.f 0 ⟨30, 29⟩ == 2
    let pay := if innerIp then e.buf.drop (ip.getD 0) else e.buf
    let pip := if innerIp then some 0 else ip
    let tc := match pip with | some o => tcOf pay o | none => 0
    let dscp := if t.f 0 ⟨25, 25⟩ == 1 && pip.isSome then tc / 4 else t.f 0 ⟨24, 19⟩
    let otc := dscp * 4 + tc % 4
    let inner := if innerIp then (if isV4 pay 0 then 0x0800 else 0x86DD) else 0x6558
    let h := flowHash seed k
    let vni := beBytes 3 (t.f 2 ⟨31, 8⟩) ++ zeros 1
    let key := t.f 0 ⟨8, 8⟩ == 1
    let tun := match typ with
      | 0 => beBytes 4 0x08000000 ++ vni
      | 1 => zeros 2 ++ beBytes 2 inner ++ vni
      | _ => beBytes 2 (if key then 0x2000 else 0) ++ beBytes 2 inner ++ (if key then beBytes 4 (t.w 2) else [])
    let sport := if t.f 0 ⟨7, 7⟩ == 1 then 0xC000 + h % 16384 else t.f 1 ⟨15, 0⟩
    let udpLen := 8 + tun.length + pay.length
    let udp := beBytes 2 sport ++ beBytes 2 (t.f 1 ⟨31, 16⟩) ++ beBytes 2 udpLen ++ zeros 2
    let isUdp := typ == 0 || typ == 1
    let len := if isUdp then udpLen else tun.length + pay.length
    let pr := if isUdp then 17 else 47
    let ttl := t.f 0 ⟨17, 10⟩
    let sa := beBytes 4 (t.w 3) ++ (if v6 then beBytes 4 (t.w 4) ++ beBytes 4 (t.w 5) ++ beBytes 4 (t.w 6) else [])
    let da := beBytes 4 (t.w 7) ++ (if v6 then beBytes 4 (t.w 8) ++ beBytes 4 (t.w 9) ++ beBytes 4 (t.w 10) else [])
    let df := t.f 0 ⟨18, 18⟩ == 1
    let flow := if t.f 0 ⟨6, 6⟩ == 1 then h % 65536 else 0
    let iph := if v6 then
        beBytes 4 (6 * 2 ^ 28 + otc * 2 ^ 20 + flow) ++ beBytes 2 len ++ beBytes 1 pr ++ beBytes 1 ttl ++ sa ++ da
      else
        let a := beBytes 1 0x45 ++ beBytes 1 otc ++ beBytes 2 (20 + len) ++ beBytes 2 (if df then 0 else ident)
          ++ beBytes 2 (b2n df * 2 ^ 14) ++ beBytes 1 ttl ++ beBytes 1 pr
        a ++ beBytes 2 (inv16 (csum16 (a ++ sa ++ da))) ++ sa ++ da
    let push := w.f 0 ⟨27, 26⟩ == 2
    let eth := macsOf w ++ (if push then beBytes 2 (pushTpid w) ++ beBytes 2 (w.f 4 ⟨31, 16⟩) else [])
      ++ beBytes 2 (if v6 then 0x86DD else 0x0800)
    let sum := t.f 0 ⟨26, 26⟩ == 1 && isUdp
    let der := derived pay pip (k.bytes.length - 4)
    let body := der.getD (csum16 pay)
    let c := inv16 (fold16 (sum16 sa + sum16 da + 17 + len + sum16 udp + sum16 tun + body))
    let udp := if sum then patch udp 6 (beBytes 2 (if c == 0 then 0xFFFF else c)) else udp
    .ok { e := ⟨eth ++ iph ++ (if isUdp then udp else []) ++ tun ++ pay, b2n push⟩, wait := sum && der.isNone,
          usedId := !v6 && !df }

/-! ## The steps in order (R272) -/

/-- What E1 gives: the bytes, whether it waits for the whole frame, whether it used the identification counter. -/
structure E1Out where
  bytes : List Byte
  wait : Bool := false
  usedId : Bool := false
deriving DecidableEq, Repr

/-- Steps 1 to 6 with edit entry w and tunnel entry t, on packet k with descriptor d. -/
def rewrite (k : Pkt) (d w : Vec) (t : Option Vec) (notEct : Bool) (seed ident : Nat) : Except E1Stop E1Out := do
  let raw := k.bytes.take (k.bytes.length - 4)
  let e0 : Edit := ⟨raw, if k.id == 0 then countTags raw 3 0 else d.f 15 ⟨25, 24⟩⟩
  let e1 ← if d.f 0 D.term == 1 then decap k d w notEct raw else .ok e0
  let e2 ← ttlStep d e1
  let e3 ← dscpStep d w e2
  let e4 ← mplsStep w e3
  let out ← match t with
    | none => (l2Step w e4).map fun e => ({ e := e, wait := false, usedId := false } : Encap)
    | some t => encap k w t seed ident e4
  let e6 ← pcpStep d out.e
  if e6.buf.length + 4 > 16360 then .error .oversize
  else .ok { bytes := e6.buf, wait := out.wait, usedId := out.usedId }

/-! ## PTP edits of the transmit island (R365, R367) -/

/-- How a PTP header at `off` is carried: 0 over Ethernet, 4 over UDP and IPv4, 6 over UDP and IPv6. -/
def ptpOver (e : Edit) (off : Nat) : Nat :=
  match (stackOf e).ip with
  | some ip =>
    if isV4 e.buf ip then (if byteAt e.buf (ip + 9) == 17 && ip + byteAt e.buf ip % 16 * 4 + 8 ≤ off then 4 else 0)
    else
      let l := ext6 e.buf 4 (ip + 40) (byteAt e.buf (ip + 6)) false
      if l.2.1 == 17 && l.1 + 8 ≤ off then 6 else 0
  | none => 0

/-- The UDP payload holds messageLength + 2 bytes at least. -/
def ptpRoom (buf : List Byte) (off : Nat) : Bool := beAt buf (off - 4) 2 ≥ 8 + beAt buf (off + 2) 2 + 2

/-- Writes `new` at position pos of the PTP message at `off`, and keeps the checksum as the transport asks. -/
def ptpWrite (buf : List Byte) (carrier off pos : Nat) (new : List Byte) : List Byte :=
  let out := patch buf pos new
  match carrier with
  | 4 => patch out (off - 2) (zeros 2)
  | 6 =>
    let u := off - 8
    let len := beAt buf (u + 4) 2
    let old := csum16 (slice buf u (u + len))
    let cut := patch out (u + len - 2) (zeros 2)
    let x := fold16 (old + inv16 (csum16 (slice cut u (u + len))))
    let tail := beBytes 2 x
    patch cut (u + len - 2) (if len % 2 == 0 then tail else tail.reverse)
  | _ => out

/-- correctionField after adding x units of 2^-16 ns, saturated (R365). -/
def addCorrection (field : Nat) (x : Int) : Nat :=
  let v := signed 64 field + x
  if field == 0x7FFFFFFFFFFFFFFF || v > 0x7FFFFFFFFFFFFFFF then 0x7FFFFFFFFFFFFFFF else unsigned 64 v

end Sys2Proof.Machine
end

