-- ==== Sys2Proof/Machine/Egress.lean ====
section
/-!
DEFINITION. Machine/Egress.lean: shapers, the scheduler of a port, the egress stages E0 to E3, the transmit island and the
queue sampler (spec/11, R320 to R331, R342, R349, R350; spec/06, R177, R188; spec/03, R106 to R111, R118; spec/12, R363 to
R367).
-/
namespace Sys2Proof.Machine
open Sys2Proof

/-! ## Shapers (R328 to R330) -/

def Block.shaper (b : Block) (G n : Nat) : Shaper := SMap.get {} (b.region G).shapers n
def Block.setShaper (b : Block) (G n : Nat) (x : Shaper) : Block :=
  b.modRegion G fun g => { g with shapers := SMap.set {} g.shapers n x }

/-- The registers of shaper n of region G, queues at n, groups at 8,192 + n. -/
def shpMin (G n : Nat) : Nat := if n < 8192 then R.RGN_QSHP_MIN G n else R.RGN_GSHP_MIN G (n - 8192)
def shpMax (G n : Nat) : Nat := if n < 8192 then R.RGN_QSHP_MAX G n else R.RGN_GSHP_MAX G (n - 8192)
def shpBurst (G n : Nat) : Nat := if n < 8192 then R.RGN_QSHP_BURST G n else R.RGN_GSHP_BURST G (n - 8192)
def shpCtrl (G n : Nat) : Nat := if n < 8192 then R.RGN_QSHP_CTRL G n else R.RGN_GSHP_CTRL G (n - 8192)

/-- A burst of x 64-byte units in 1/4,096 byte. -/
def burstTok (x : Nat) : Int := (x * 64 * 4096 : Nat)

/-- The settings that a write of v to a CTRL register commits. -/
def Block.shStaged (b : Block) (G n v : Nat) : ShCfg :=
  { minEn := bitOf v 31, maxEn := bitOf v 30, minRate := b.fld (shpMin G n) F.RGN_QSHP_MIN_RATE,
    maxRate := b.fld (shpMax G n) F.RGN_QSHP_MAX_RATE, minBurst := b.fld (shpBurst G n) F.RGN_QSHP_BURST_MINB,
    maxBurst := b.fld (shpBurst G n) F.RGN_QSHP_BURST_MAXB }

/-- R330: an enabled bucket has a rate, and a burst that holds one refill; the minimum rate is not above the maximum. -/
def ShCfg.ok (c : ShCfg) : Bool :=
  let fits (en : Bool) (rate burst : Nat) : Bool := !en || (rate != 0 && burst * 64 * 1000 ≥ rate * 16)
  fits c.minEn c.minRate c.minBurst && fits c.maxEn c.maxRate c.maxBurst && !(c.minEn && c.maxEn && c.minRate > c.maxRate)

/-- SHAPER_COMMIT (R329, R330): a write of shaper n's CTRL register. -/
def Block.shaperCommit (w : Writer) (G n v : Nat) (b : Block) : Block :=
  let c := b.shStaged G n v
  if !c.ok then b.refuse w (shpCtrl G n)
  else (b.storeReg w (shpCtrl G n) v).setShaper G n { b.shaper G n with pend := some c }

/-- A commit applies (R329). -/
def Shaper.commit (s : Shaper) : Shaper :=
  match s.pend with
  | none => s
  | some c =>
    let tok (en was : Bool) (burst : Nat) (t : Int) : Int :=
      if en then (if was then min t (burstTok burst) else burstTok burst) else t
    { cfg := c, minTok := tok c.minEn s.cfg.minEn c.minBurst s.minTok, maxTok := tok c.maxEn s.cfg.maxEn c.maxBurst s.maxTok,
      pend := none }

/-- What one refill adds at `rate` Mb/s in 1/4,096 byte: RATE × 65.536. The spec does not say how the part below 1/4,096
byte is rounded: one free bit (assumption 1). -/
def Block.refillOf (b : Block) (rate : Nat) : Nat × Block :=
  let n := rate * 65536
  if n % 1000 == 0 then (n / 1000, b)
  else
    let r := b.free 1
    (n / 1000 + r.1, r.2)

/-- The refill of shaper n. -/
def Block.refill (b : Block) (G n : Nat) : Block :=
  let s := (b.shaper G n).commit
  let lo := if s.cfg.minEn then b.refillOf s.cfg.minRate else (0, b)
  let hi := if s.cfg.maxEn then lo.2.refillOf s.cfg.maxRate else (0, lo.2)
  let s := if s.cfg.minEn then { s with minTok := min (s.minTok + lo.1) (burstTok s.cfg.minBurst) } else s
  let s := if s.cfg.maxEn then { s with maxTok := min (s.maxTok + hi.1) (burstTok s.cfg.maxBurst) } else s
  hi.2.setShaper G n s

/-- SHAPER_REFILL (R328): 128 ns of die d's reference ticks have passed. Refill stops while the die is held. -/
def Block.shaperRefill (d : Nat) (b : Block) : Block :=
  if b.frozen d then b
  else [2 * d, 2 * d + 1].foldl (fun b G => ((b.region G).shapers.map (·.1)).foldl (fun b n => b.refill G n) b) b

/-- Charges n bytes to the enabled buckets of a shaper; none falls below -16,384 bytes (R328). -/
def Shaper.charge (s : Shaper) (n : Nat) : Shaper :=
  let take (en : Bool) (t : Int) : Int := if en then max (t - n * 4096) (-16384 * 4096) else t
  { s with minTok := take s.cfg.minEn s.minTok, maxTok := take s.cfg.maxEn s.maxTok }

/-- At release every enabled bucket starts full (R328). -/
def Shaper.fill (s : Shaper) : Shaper :=
  { s with minTok := if s.cfg.minEn then burstTok s.cfg.minBurst else s.minTok,
           maxTok := if s.cfg.maxEn then burstTok s.cfg.maxBurst else s.maxTok }

/-! ## Choosing (R320 to R323) -/

/-- A child of a node at a pick: a class queue or a group, whether it is eligible, holds a frame, its minimum shaper holds
tokens, its level and weight, and LEN of its head. -/
structure Child where
  id : Nat
  elig : Bool
  holds : Bool
  minOk : Bool
  level : Nat
  weight : Nat
  len : Nat
deriving DecidableEq, Repr

/-- The first child at or after t in number order, around the end. -/
def fromTurn (cs : List Child) (t : Nat) : Option Child :=
  match cs.find? fun c => c.id ≥ t with
  | some c => some c
  | none => cs.head?

/-- The turn of one level (R323); `off` is where the deficits of these children start. -/
def dwrr (off k : Nat) (cs : List Child) : Nat → Sched → Option Nat × Sched
  | 0, s => (none, s)
  | n + 1, s =>
    match fromTurn cs (SMap.get 0 s.turn k) with
    | none => (none, s)
    | some c =>
      let i := off + c.id
      let next (s : Sched) : Sched := { s with opened := SMap.set false s.opened i false, turn := SMap.set 0 s.turn k (c.id + 1) }
      if !c.elig then
        dwrr off k cs n (next (if c.holds then s else { s with deficit := SMap.set 0 s.deficit i 0 }))
      else
        let s := if SMap.get false s.opened i then s
          else { s with deficit := SMap.set 0 s.deficit i (SMap.get 0 s.deficit i + (c.weight * 256 : Nat)),
                        opened := SMap.set false s.opened i true }
        if (c.len + 20 : Nat) ≤ SMap.get 0 s.deficit i then (some c.id, { s with turn := SMap.set 0 s.turn k c.id })
        else dwrr off k cs n (next s)

def minLevel (cs : List Child) : Nat := (cs.map fun c => c.level).foldl min 7

/-- A node's choice by both passes (R322): the child, whether the normal pass chose it. -/
def choose (node off : Nat) (cs : List Child) (s : Sched) : Option (Nat × Bool) × Sched :=
  let mins := cs.filter fun c => c.elig && c.minOk
  if !mins.isEmpty then
    let l := minLevel mins
    let k := node * 8 + l
    match fromTurn (mins.filter fun c => c.level == l) (SMap.get 0 s.rot k) with
    | some c => (some (c.id, false), { s with rot := SMap.set 0 s.rot k (c.id + 1) })
    | none => (none, s)
  else
    let el := cs.filter fun c => c.elig
    if el.isEmpty then (none, s)
    else
      let l := minLevel el
      let r := dwrr off (node * 8 + l) (cs.filter fun c => c.level == l) 20000 s
      (r.1.map fun c => (c, true), r.2)

/-! ## The children of a port (R321) -/

/-- Hundredths of a ns that copy c still takes on the wire of port p: what it has sent, and what has passed of the fragment on the
wire, taken off. -/
def Block.wireLeft (b : Block) (p : Nat) (c : TxCopy) : Nat :=
  let n := (chargeOf (c.bytes.length + 4) - c.sent) * b.byteTime p
  if c.stage == .sending then n - (b.ticks - c.startAt) * 100 else n

/-- Hundredths of a ns that the generated frames of port p still take: 84 bytes of wire time each (R115). -/
def Block.ctrlLeft (b : Block) (p : Nat) : Nat :=
  let x := b.port p
  let one := 84 * b.byteTime p
  x.ctrl.length * one + (match x.ctrlAt with | some t => one - (b.ticks - t) * 100 | none => 0)

/-- Hundredths of a ns until a frame picked now could start: what the frames picked ahead and the generated frames still take
(R115, R325). -/
def Block.leadOf (b : Block) (p : Nat) : Nat := ((b.port p).tx.map (b.wireLeft p)).sum + b.ctrlLeft p

/-- DOWN_ACTION flush of a link-down port (R326). -/
def Block.flushing (b : Block) (p : Nat) : Bool :=
  !b.flag (R.MAC_LINK_STATUS p) F.MAC_LINK_STATUS_LINK_UP && !b.flag (R.MAC_PORT_CFG p) F.MAC_PORT_CFG_DOWN_ACTION

def Block.qsched (b : Block) (G q : Nat) (f : Bf) : Nat := b.fld (R.RGN_QSCHED G q) f

/-- Class queue q of region G as a child of its group. -/
def Block.queueChild (b : Block) (G q : Nat) (flush : Bool) : Child :=
  let p := portOfQueue G q
  let h := b.headOf G q
  let s := b.shaper G q
  let free := flush || (!b.paused p (b.qsched G q F.RGN_QSCHED_FC_PRI) && b.gateAdmits p (b.classOf G q) (b.leadOf p)
    && (!s.cfg.maxEn || s.maxTok > 0))
  { id := q % 256, elig := h.isSome && free, holds := !((b.region G).queue q).ptrs.isEmpty,
    minOk := !flush && s.cfg.minEn && s.minTok > 0, level := b.qsched G q F.RGN_QSCHED_SP_LEVEL,
    weight := b.qsched G q F.RGN_QSCHED_WEIGHT,
    len := match h with | some (_, x) => Vec.f x.pkt.desc 13 D.len | none => 0 }

/-- The class queues of port p that matter to a pick: those with frames, and those whose deficit or turn stands. -/
def Block.queuesOf (b : Block) (p : Nat) : List Nat :=
  let lo := localPort p * 256
  let s := (b.port p).sched
  (List.range 256).filter fun c =>
    !((b.region (rgnOfPort p)).queue (lo + c)).ptrs.isEmpty || SMap.get 0 s.deficit c != 0 || SMap.get false s.opened c

/-- The children of group n of port p. -/
def Block.groupKids (b : Block) (p n : Nat) (flush : Bool) : List Child :=
  let G := rgnOfPort p
  let lo := localPort p * 256
  ((b.queuesOf p).filter fun c => b.qsched G (lo + c) F.RGN_QSCHED_GROUP == n).map fun c => b.queueChild G (lo + c) flush

/-- Group n of port p as a child of the port: its head is what its own node would pick (R323). -/
def Block.groupChild (b : Block) (p n : Nat) (flush : Bool) : Child :=
  let G := rgnOfPort p
  let i := localPort p * 32 + n
  let kids := b.groupKids p n flush
  let s := b.shaper G (8192 + i)
  let head := ((choose n 0 kids (b.port p).sched).1.bind fun c => kids.find? fun k => k.id == c.1).map fun k => k.len
  { id := n, elig := kids.any (fun k => k.elig) && (flush || !s.cfg.maxEn || s.maxTok > 0),
    holds := kids.any (fun k => k.holds), minOk := !flush && s.cfg.minEn && s.minTok > 0,
    level := b.fld (R.RGN_GSCHED G i) F.RGN_GSCHED_SP_LEVEL, weight := b.fld (R.RGN_GSCHED G i) F.RGN_GSCHED_WEIGHT,
    len := head.getD 0 }

/-- The pick of port p: class queue, whether the normal pass chose it in its group and its group at the port, and the
scheduler after it. -/
def Block.pick (b : Block) (p : Nat) (flush : Bool) : Option (Nat × Bool × Bool) × Sched :=
  let s := (b.port p).sched
  let groups := (List.range 32).map fun n => b.groupChild p n flush
  let in_ (c : Child) : Bool :=
    c.elig || c.holds || SMap.get 0 s.deficit (256 + c.id) != 0 || SMap.get false s.opened (256 + c.id)
  let r := choose 32 256 (groups.filter in_) s
  match r.1 with
  | none => (none, r.2)
  | some (n, gN) =>
    let t := choose n 0 (b.groupKids p n flush) r.2
    (t.1.map fun c => (c.1, c.2, gN), t.2)

/-! ## Picking (R325, R326) -/

def TxStage.waits : TxStage → Bool
  | .sending | .preempted => false
  | _ => true

def Block.modTx (b : Block) (p : Nat) (f : List TxCopy → List TxCopy) : Block := b.modPort p fun x => { x with tx := f x.tx }

/-- SCHEDULER_PICK (R322, R325, R326): the transmit path of port p has room (assumption 120); `got` is how many bytes are there of a
head frame that is still arriving. -/
def Block.schedulerPick (p got : Nat) (b : Block) : Block :=
  let b := b.seen p got
  let up := b.flag (R.MAC_LINK_STATUS p) F.MAC_LINK_STATUS_LINK_UP
  let flush := b.flushing p
  let G := rgnOfPort p
  if b.frozen (dieOfPort p) || !(up || flush) then b
  else
    let r := b.pick p flush
    match r.1 with
    | none => b
    | some (c, qN, gN) =>
      let q := localPort p * 256 + c
      match b.headOf G q with
      | none => b
      | some (x, s) =>
        let b := (b.modPort p fun y => { y with sched := r.2 }).modQueue G q fun y => { y with ptrs := y.ptrs.drop 1 }
        let b := b.pmc (.prt p) 0x06 c 1
        if flush then (b.count (R.MAC_TX_LINKDOWN_DROP p) 1).releasePtr G x.sid
        else
          let d := ((Vec.put s.pkt.desc 0 D.egPort x.eg).put 2 D.rewriteIdx x.rw).put 13 D.cq c
          let pri := b.qsched G q F.RGN_QSCHED_FC_PRI
          let ex := b.flag (R.MAC_PREEMPT_STATUS p) F.MAC_PREEMPT_STATUS_ACTIVE
            && (d.f 15 ⟨31, 31⟩ == 1 || bitOf (b.fld (R.MAC_PREEMPT_CFG p) F.MAC_PREEMPT_CFG_EXPRESS_PRI) pri)
          let raw := s.pkt.bytes.take (s.pkt.bytes.length - 4)
          let c : TxCopy := { sid := x.sid, q := q, eg := x.eg, rw := x.rw, bytes := raw, desc := d, express := ex,
                              qAdj := qN, gAdj := gN }
          b.modTx p fun l => l ++ [c]

/-! ## Copies in the transmit path -/

/-- The oldest copy of port p at stage st. -/
def Block.txAt (b : Block) (p : Nat) (st : TxStage) : Option TxCopy := (b.port p).tx.find? fun c => c.stage == st
/-- Changes the oldest copy of port p at stage st. -/
def modFirst (st : TxStage) (f : TxCopy → TxCopy) : List TxCopy → List TxCopy
  | [] => []
  | c :: r => if c.stage == st then f c :: r else c :: modFirst st f r
def delFirst (st : TxStage) : List TxCopy → List TxCopy
  | [] => []
  | c :: r => if c.stage == st then r else c :: delFirst st r
def Block.modTxAt (b : Block) (p : Nat) (st : TxStage) (f : TxCopy → TxCopy) : Block := b.modTx p (modFirst st f)
/-- The oldest copy at stage st leaves the transmit path, and its pointer is released. -/
def Block.endTx (b : Block) (p : Nat) (st : TxStage) : Block :=
  match b.txAt p st with
  | some c => (b.modTx p (delFirst st)).releasePtr (rgnOfPort p) c.sid
  | none => b
def Block.txPkt (b : Block) (p : Nat) (c : TxCopy) : Pkt := ((b.region (rgnOfPort p)).frame c.sid).pkt

/-- A copy that egress sends to the host: the bytes as received, kind 3 (R177, R393). -/
def Block.copyToHost (b : Block) (p : Nat) (c : TxCopy) (code : Nat) : Block :=
  let k := b.txPkt p c
  b.toHost { kind := 3, code := code, inPort := Vec.f c.desc 13 D.inPort, egPort := p, frameLen := k.bytes.length,
             actFwd := actFwd c.desc, fwdIdx := Vec.f c.desc 1 D.fwdIdx, stamp := k.stamp,
             bytes := k.bytes.take (k.bytes.length - 4) }

/-! ## E0 (R177, R188) -/

/-- The key of ACL_OUT, words 0 to 9 (R188). -/
def eaclKey (d : Vec) (eg : Nat) : List Nat :=
  [d.w 8, d.w 7, d.w 6, d.w 5, d.w 12, d.w 11, d.w 10, d.w 9, d.w 2,
   eg * 2 ^ 24 + d.f 13 D.inPort * 2 ^ 16 + d.f 0 D.class_ * 2 ^ 8 + d.f 1 D.colour * 2 ^ 6
     + b2n (d.f 0 D.fwdKind == 2) * 2 ^ 5]

/-- The groups that E0 merges into the copy's action fields; group 8 names the egress counter (Table 6-6). -/
def egressGroups : List Nat := [0, 4, 5, 13]

/-- EGRESS_E0. A copy of a frame that the host sent direct to queue carries no epoch: no fence covers it (R194). -/
def Block.egressE0 (p : Nat) (b : Block) : Block :=
  match b.txAt p .e0 with
  | none => b
  | some c =>
    let G := rgnOfPort p
    let d := G / 2
    let ep := if (b.txPkt p c).id == 0 then none else some (b.engine d).epoch
    let pass := fun (c : TxCopy) (b : Block) => b.modTxAt p .e0 fun _ => { c with stage := .e1, epoch := ep }
    if !b.flag (R.RGN_MISS_CFG G) F.RGN_MISS_CFG_EACL_EN then pass c b
    else match (b.engine d).aclOut.find? fun x => x.2.aclMatch (eaclKey c.desc p) with
      | none => pass c b
      | some (_, a) =>
        let r := a.aclRec
        let m := mergeRec egressGroups c.desc r
        let c1 : TxCopy := { c with desc := m, rw := Vec.f m 2 D.rewriteIdx }
        let c2 := if bitOf r.ovr 8 then
            { c1 with counter := r.w.f 4 D.counterIdx, countEn := r.w.f 3 D.countEn == 1, cntOver := true } else c1
        let code := Vec.f m 0 D.hostCode
        if !bitOf r.ovr 0 then pass c2 b
        else match Vec.f m 0 D.act with
          | 1 => (b.count (R.RGN_EACL_DROP G) 1).endTx p .e0
          | 2 => (b.copyToHost p c2 code).endTx p .e0
          | 3 => pass c2 (b.copyToHost p c2 code)
          | _ => pass c2 b

/-! ## E1 (R271, R274, R278, R324, R342) -/

/-- The REWRITE entries of a copy: the edit entry, and the tunnel entry with ENCAP; none: invalid (R271). -/
def Block.rwEntries (b : Block) (d rw : Nat) : Option (Vec × Option Vec) :=
  let w := b.entry d T.rewrite rw
  let t := b.entry d T.rewrite (w.f 9 ⟨31, 14⟩)
  if w.f 0 ⟨31, 31⟩ == 0 || w.f 0 ⟨30, 29⟩ != 0 then none
  else if w.f 0 ⟨11, 11⟩ == 0 then some (w, none)
  else if t.f 0 ⟨31, 31⟩ == 0 || (t.f 0 ⟨30, 29⟩ != 1 && t.f 0 ⟨30, 29⟩ != 2) then none
  else some (w, some t)

/-- An expired copy (R274). -/
def Block.expire (b : Block) (p : Nat) (c : TxCopy) : Block :=
  let G := rgnOfPort p
  let b := b.count (R.RGN_RW_TTL_EXPIRED G) 1
  if !b.flag (R.RGN_RW_CFG G) F.RGN_RW_CFG_TTL_ACT then b.endTx p .e1
  else
    let a := R.RGN_TTL_HOSTLIM G
    match (b.region G).ttlLim.take (b.fld a F.RGN_TTL_HOSTLIM_RATE) (b.fld a F.RGN_TTL_HOSTLIM_BURST) b.usNow with
    | none => (b.count (R.RGN_RW_TTL_HOSTLIM_DROP G) 1).endTx p .e1
    | some k =>
      let b := b.modRegion G fun g => { g with ttlLim := k }
      (b.copyToHost p c (b.fld (R.RGN_RW_CFG G) F.RGN_RW_CFG_TTL_CODE)).endTx p .e1

/-- E1 passes the copy at stage `st` on (R324, R342): a copy longer than its gate class allows is discarded; else its
charge applies to the deficits and shapers of its queue and group. -/
def Block.passE1 (b : Block) (p : Nat) (st : TxStage) (c : TxCopy) : Block :=
  let G := rgnOfPort p
  let t := b.classOf G c.q
  let final := max 64 (c.bytes.length + 4)
  if b.gateOn p && final > b.fld (R.PRT_GATE_SDU p t) F.PRT_GATE_SDU_V then
    (b.count (R.PRT_GATE_SDU_DROP p) 1).endTx p st
  else
    let n := chargeOf final
    let g := b.qsched G c.q F.RGN_QSCHED_GROUP
    let cq := c.q % 256
    let gi := 8192 + localPort p * 32 + g
    let b := b.modPort p fun x =>
      let take (s : Sched) (on : Bool) (i : Nat) : Sched :=
        if on then { s with deficit := SMap.set 0 s.deficit i (SMap.get 0 s.deficit i - n) } else s
      { x with sched := take (take x.sched c.qAdj cq) c.gAdj (256 + g) }
    let b := b.setShaper G c.q ((b.shaper G c.q).charge n)
    let b := b.setShaper G gi ((b.shaper G gi).charge n)
    (b.pmc (.prt p) 0x07 cq n).modTxAt p st fun _ => { c with stage := .e2 }

/-- EGRESS_E1 (R272). While E1 holds a copy for its sum, the next one waits (R277). -/
def Block.egressE1 (p : Nat) (b : Block) : Block :=
  match b.txAt p .e1 with
  | none => b
  | some c =>
    if (b.txAt p .csum).isSome then b else
    let G := rgnOfPort p
    let k := b.txPkt p c
    let act := Vec.f c.desc 0 D.act
    let idle := match k.host with | some h => h.noRw | none => false
    if (act != 0 && act != 3) || idle then b.passE1 p .e1 c
    else match b.rwEntries (G / 2) c.rw with
      | none => (b.count (R.RGN_RW_INVALID_DROP G) 1).endTx p .e1
      | some (w, t) =>
        let c := if c.cntOver then c else { c with counter := w.f 10 ⟨31, 13⟩, countEn := w.f 10 ⟨12, 12⟩ == 1 }
        match rewrite k c.desc w t (b.flag (R.RGN_RW_CFG G) F.RGN_RW_CFG_NOTECT_FWD) (b.word (R.RGN_ECMP_SEED G))
            (b.port p).ipId with
        | .error .expired => b.expire p c
        | .error .ecn => (b.count (R.RGN_RW_ECN_DROP G) 1).endTx p .e1
        | .error .oversize => (b.count (R.RGN_RW_OVERSIZE_DROP G) 1).endTx p .e1
        | .error _ => (b.count (R.RGN_RW_ERR_DROP G) 1).endTx p .e1
        | .ok o =>
          let b := if o.usedId then b.modPort p fun x => { x with ipId := (x.ipId + 1) % 65536 } else b
          let c : TxCopy := { c with bytes := o.bytes, shift := (o.bytes.length : Int) - (c.bytes.length : Int) }
          if o.wait then b.modTxAt p .e1 fun _ => { c with stage := .csum } else b.passE1 p .e1 c

/-- RW_CSUM_WAIT (R277): the whole frame of the copy that E1 holds is in the region buffer; one marked bad is dropped. -/
def Block.rwCsumWait (p : Nat) (b : Block) : Block :=
  match b.txAt p .csum with
  | none => b
  | some c =>
    let G := rgnOfPort p
    let s := (b.region G).frame c.sid
    if !s.whole then b
    else if s.pkt.bad then (b.count (R.MAC_TX_BAD_DROP p) 1).endTx p .csum
    else (b.count (R.RGN_RW_CSUM_WAIT G) 1).passE1 p .csum c

/-! ## E2 and E3 (R279, R363 to R367) -/

/-- What E2 asks of the transmit island for a received copy; 0 where it does not correct it. -/
def ptpAsk (mode : Nat) (c : TxCopy) (off : Nat) : Nat :=
  let typ := byteAt c.bytes off % 16
  let carrier := ptpOver ⟨c.bytes, Vec.f c.desc 15 ⟨25, 24⟩⟩ off
  if c.shift != 0 || c.bytes.length < off + 16 || (carrier == 6 && !ptpRoom c.bytes off) then 0
  else match mode with
    | 1 => if typ ≤ 3 then 1 else 0
    | 2 => if typ == 0 then 2 else 0
    | _ => 0

/-- Whether E2 can do what the host asks of a copy: its frame holds the field, and over UDP and IPv6 there is the room of R365. Where it
cannot, it skips the copy as R365 has it (DESIGN CHOICE, assumption 127). -/
def hostPtpOk (k : Pkt) (c : TxCopy) (h : HostTx) : Bool :=
  let tags := if k.id == 0 then countTags c.bytes 3 0 else Vec.f c.desc 15 ⟨25, 24⟩
  let field := if h.op == 1 then 44 else 16
  h.offPtp + field ≤ c.bytes.length && (ptpOver ⟨c.bytes, tags⟩ h.offPtp != 6 || ptpRoom c.bytes h.offPtp)

/-- EGRESS_E2. -/
def Block.egressE2 (p : Nat) (b : Block) : Block :=
  match b.txAt p .e2 with
  | none => b
  | some c =>
    let k := b.txPkt p c
    let pass (b : Block) (n : Nat) : Block := b.modTxAt p .e2 fun _ => { c with stage := .e3, ptp := n }
    match k.host with
    | some h =>
      if h.op != 1 && h.op != 2 then pass b 0
      else if hostPtpOk k c h then pass (b.count (R.PRT_PTP_INSERTED p) 1) (h.op + 2)
      else pass (b.count (R.PRT_PTP_SKIPPED p) 1) 0
    | none =>
      if Vec.f c.desc 15 ⟨31, 31⟩ == 0 then pass b 0
      else
        let n := ptpAsk (b.fld (R.PRT_PTP_CFG p) F.PRT_PTP_CFG_MODE) c (Vec.f c.desc 15 ⟨7, 0⟩)
        pass (b.count (if n == 0 then R.PRT_PTP_SKIPPED p else R.PRT_PTP_CORRECTED p) 1) n

/-- EGRESS_E3 (R279): the copy is counted with the length it leaves with. -/
def Block.egressE3 (p : Nat) (b : Block) : Block :=
  match b.txAt p .e3 with
  | none => b
  | some c =>
    let b := if c.countEn then b.countPair (rgnOfPort p) c.counter (max 64 (c.bytes.length + 4)) else b
    b.modTxAt p .e3 fun c => { c with stage := .fifo }

/-! ## The transmit island (R107, R108, R111, R112, R118) -/

/-- The instant of port p's base at the transmit lands, with TX_ADJ, in units of 2^-16 ns. -/
def Block.txInstant (b : Block) (p : Nat) : Int :=
  let t := b.tbase (b.portBase p)
  let adj := signed 16 (b.fld (R.MAC_TS_CFG p) F.MAC_TS_CFG_TX_ADJ)
  ((t.s * 1000000000 + t.ns) * 65536 + t.frac / 2 ^ 32 : Nat) + adj * 65536 / 1000

/-- The bytes of copy c with what E2 asked written at the present instant. -/
def Block.ptpBytes (b : Block) (p : Nat) (c : TxCopy) : List Byte :=
  let k := b.txPkt p c
  let off := match k.host with | some h => h.offPtp | none => Vec.f c.desc 15 ⟨7, 0⟩
  let tags := if k.id == 0 then countTags c.bytes 3 0 else Vec.f c.desc 15 ⟨25, 24⟩
  let carrier := ptpOver ⟨c.bytes, tags⟩ off
  let now := b.tbase (b.portBase p)
  let adv := if b.portBase p == 0 then k.advA else k.advB
  let res : Int := (now.advance - adv + 2 ^ 31) / 2 ^ 32
  let correct (x : Int) : List Byte :=
    ptpWrite c.bytes carrier off (off + 8) (beBytes 8 (addCorrection (beAt c.bytes (off + 8) 8) x))
  match c.ptp with
  | 1 => correct res
  | 2 => correct (res + b.word (R.PRT_PTP_LINK_DELAY (Vec.f c.desc 13 D.inPort)))
  | 3 =>
    let ns := ((b.txInstant p + 32768) / 65536).toNat
    ptpWrite c.bytes carrier off (off + 34) (beBytes 6 (ns / 1000000000) ++ beBytes 4 (ns % 1000000000))
  | 4 => match k.host with
    | some h => correct (b.txInstant p - ((h.refS * 1000000000 + h.refNs) * 65536 : Nat))
    | none => c.bytes
  | _ => c.bytes

/-- Whether copy c may not start because its priority has been paused for 600 ns or more: until then a copy that was picked before the
pause may still start (R99, assumption 119). -/
def Block.pausedOut (b : Block) (p : Nat) (c : TxCopy) : Bool :=
  let pri := b.qsched (rgnOfPort p) c.q F.RGN_QSCHED_FC_PRI
  match SMap.find (b.port p).since pri with
  | some t => b.paused p pri && b.ticks ≥ t + 600
  | none => false

/-- The copy that starts next of those that may: an express one first. -/
def Block.nextStart (b : Block) (p : Nat) : Option TxCopy :=
  let l := (b.port p).tx.filter fun c => c.stage == .fifo && !b.pausedOut p c
  match l.find? fun c => c.express with
  | some c => some c
  | none => l.head?

/-- IEEE 802.3br (assumption 118): a fragment that is not the last, with its check sum, holds at least 64 × (1 + ADD_FRAG_SIZE) bytes, and
what is left of the frame, with its FCS, at least 64. -/
def Block.mayCut (b : Block) (p : Nat) (x : TxCopy) (cut : Nat) : Bool :=
  x.sent + 64 * (1 + b.fld (R.MAC_PREEMPT_CFG p) F.MAC_PREEMPT_CFG_ADD_FRAG_SIZE) ≤ cut + 4
    && cut + 64 ≤ max 64 (x.bytes.length + 4)

/-- Whether an express frame of port p may go on the wire now: nothing is on it, or a preemptable frame that may be cut at `cut`
(R117, R118). -/
def Block.mayEnter (b : Block) (p cut : Nat) : Bool :=
  match b.txAt p .sending with
  | none => true
  | some x => !x.express && b.mayPreempt p && b.flag (R.MAC_PREEMPT_STATUS p) F.MAC_PREEMPT_STATUS_ACTIVE && b.mayCut p x cut

/-- The frame on the wire of port p, if any, is preempted after `cut` bytes. -/
def Block.cutAt (b : Block) (p cut : Nat) : Block :=
  if (b.txAt p .sending).isSome then
    (b.count (R.MAC_TX_FRAGMENTS p) 1).modTxAt p .sending fun x => { x with stage := .preempted, sent := cut }
  else b

/-- A preempted frame resumes once nothing is on the wire and no express frame goes first: while preemption is allowed, a generated
frame or an express copy; in SERVICE none does (R119). -/
def Block.resumeTx (b : Block) (p : Nat) : Block :=
  let express := b.mayPreempt p
    && (!(b.port p).ctrl.isEmpty || (b.port p).tx.any fun c => c.stage == .fifo && c.express && !b.pausedOut p c)
  if (b.txAt p .sending).isSome || express then b
  else b.modTxAt p .preempted fun c => { c with stage := .sending, startAt := b.ticks }

/-- The copy c comes to stand with `got` bytes of it in the transmit FIFO, which holds 4 KiB (R107). -/
def TxCopy.fill (c : TxCopy) (got : Nat) : TxCopy := { c with filled := max c.filled (min (min got 4096) c.bytes.length) }

def dropCopy (c : TxCopy) : List TxCopy → List TxCopy
  | [] => []
  | x :: r => if x == c then r else x :: dropCopy c r

/-- Puts copy c, now c', in its place. -/
def putCopy (c c' : TxCopy) : List TxCopy → List TxCopy
  | [] => []
  | x :: r => if x == c then c' :: r else x :: putCopy c c' r

/-- FRAME_START (R107, R118): `got` bytes of the frame have come to the transmit FIFO; it starts once THRESH × 64 of them, or the whole
frame, are there. A generated frame that waits goes first (R101), and while E1 holds a copy for its sum nothing starts (R277). While
another frame is on the wire, only an express copy starts, over a preemptable one that has sent `cut` bytes; while one is preempted, only
an express copy. In far-end loopback the frame is discarded (R116). -/
def Block.frameStart (p got cut : Nat) (b : Block) : Block :=
  match b.nextStart p with
  | none => b
  | some c0 =>
    let G := rgnOfPort p
    let s := (b.region G).frame c0.sid
    let c := c0.fill got
    let b := b.modTx p (putCopy c0 c)
    let ready := c.filled ≥ min (b.fld (R.PRT_CT_CFG p) F.PRT_CT_CFG_THRESH * 64) c.bytes.length
    let may := if (b.txAt p .sending).isSome then c.express && b.mayEnter p cut
      else (b.txAt p .preempted).isNone || (c.express && b.mayPreempt p)
    if !ready || !may || !(b.port p).ctrl.isEmpty || (b.txAt p .csum).isSome || b.frozen (dieOfPort p)
      || !b.flag (R.MAC_LINK_STATUS p) F.MAC_LINK_STATUS_LINK_UP then b
    else if s.pkt.bad then
      ((b.count (R.MAC_TX_BAD_DROP p) 1).modTx p (dropCopy c)).releasePtr G c.sid
    else if b.fld (R.MAC_PORT_STATE p) F.MAC_PORT_STATE_LB_MODE == 2 then
      ((b.count (R.MAC_TX_LINKDOWN_DROP p) 1).modTx p (dropCopy c)).releasePtr G c.sid
    else
      let b := b.cutAt p cut
      let b := if s.whole then b else b.pmc (.prt p) 0x08 0xFFF 1
      b.modTx p (putCopy c { c with stage := .sending, bytes := b.ptpBytes p c, startAt := b.ticks })

/-- What the MAC sends of a copy: padded to 60 bytes before the FCS (R92). -/
def padded (l : List Byte) : List Byte := l ++ zeros (60 - l.length)

/-- After a frame's end, a preempted frame resumes; preemption that is no longer allowed ends (R119). -/
def Block.afterTx (b : Block) (p : Nat) : Block := (b.resumeTx p).preemptEnd p

/-- Bytes that port p has sent go on the wire; in near-end loopback its receive MAC gets them too (R116). -/
def Block.wireOut (b : Block) (p : Nat) (l : List Byte) : Block :=
  let b := (b.emit (.wire p l)).bwCount p 0 l.length
  if b.landsOff p then b.arrive p l {} else b

/-- TX_UNDERRUN (R108): the transmit FIFO empties after `sent` bytes of a frame not yet whole. -/
def Block.txUnderrun (p sent : Nat) (b : Block) : Block :=
  match b.txAt p .sending with
  | none => b
  | some c =>
    if ((b.region (rgnOfPort p)).frame c.sid).whole then b
    else
      let out := c.bytes.take sent
      let b := b.wireOut p (out ++ stompOf out)
      let b := (b.count (R.MAC_TX_STOMP_UNDERRUN p) 1).sendOncePerMs 0xD p 0x1B 0
      let a := R.PRT_CT_CFG p
      let th := b.fld a F.PRT_CT_CFG_THRESH
      let b := if b.flag a F.PRT_CT_CFG_STEP_EN && th < 32 then
          let b := (b.setFld a F.PRT_CT_CFG_THRESH (th + 1)).raise (R.PRT_CT_STATUS p) F.PRT_CT_STATUS_STEPPED
          (b.setFld (R.PRT_CT_STATUS p) F.PRT_CT_STATUS_AT_MAX (b2n (th + 1 == 32))).count (R.PRT_CT_STEPS p) 1
        else b
      (b.endTx p .sending).afterTx p

/-- FRAME_TX_END (R289, R111): the last byte of the frame on the wire leaves, with its FCS, or stomped where its tail was
marked bad after its start; its cells return. -/
def Block.frameTxEnd (p : Nat) (b : Block) : Block :=
  match b.txAt p .sending with
  | none => b
  | some c =>
    let s := (b.region (rgnOfPort p)).frame c.sid
    if !s.whole then b
    else
      let out := padded c.bytes
      let n := out.length + 4
      let b := if s.pkt.bad then (b.wireOut p (out ++ stompOf out)).count (R.MAC_TX_STOMP_BAD p) 1
        else
          let b := ((b.wireOut p (out ++ fcsOf out)).count (R.MAC_TX_FRAMES_OK p) 1).count (R.MAC_TX_BYTES_OK p) n
          (b.pmc (.mac p) 0x03 0xFFF 1).pmc (.mac p) 0x04 0xFFF n
      (b.endTx p .sending).afterTx p

/-! ## Queue samples (R349, R350) -/

/-- QUEUE_SAMPLE: the sampler of region G visits queue q. -/
def Block.queueSample (G q : Nat) (b : Block) : Block :=
  if b.frozen (G / 2) then b
  else
    let x := (b.region G).queue q
    let depth := x.onDie + x.siloCells
    let since := match x.ptrs, x.inSilo with
      | y :: _, _ => some y.enq
      | [], s :: _ => some s.enq
      | [], [] => none
    let delay := match since with | some t => b.ticks - t | none => 0
    let d32 := sat 0xFFFFFFFF delay
    let b := (b.setWord (R.RGN_QSAMP_DEPTH G q) depth).setWord (R.RGN_QSAMP_DELAY G q) d32
    let b := b.setWord (R.RGN_QSAMP_DEPTH_MAX G q) (max depth (b.word (R.RGN_QSAMP_DEPTH_MAX G q)))
    let b := b.setWord (R.RGN_QSAMP_DELAY_MAX G q) (max d32 (b.word (R.RGN_QSAMP_DELAY_MAX G q)))
    let al := b.fld (R.RGN_SAMP_CFG G) F.RGN_SAMP_CFG_DELAY_ALARM
    if al != 0 && delay > al * 1000 then b.sendOncePerMs 0xA G 0x4A q else b

/-- SAMP_CLR_MAX, a write of SAMP_CFG (R350). -/
def Block.sampClrMax (w : Writer) (G v : Nat) (b : Block) : Block :=
  let b := b.storeReg w (R.RGN_SAMP_CFG G) v
  if F.RGN_SAMP_CFG_CLR_MAX.of v == 0 then b
  else
    let lo := R.RGN_QSAMP_DEPTH G 0
    { b with regs := b.regs.filter fun e => !(lo ≤ e.1 && e.1 < lo + 0x20000 && (e.1 - lo) % 16 ≥ 8) }

/-! ## Field rules -/

/-- R327. -/
def qschedOk (v : Nat) : Bool := F.RGN_QSCHED_WEIGHT.of v != 0
/-- The child at i of a port's scheduler starts afresh: its deficit is 0 and its turn is not open (R327). -/
def Sched.forget (s : Sched) (i : Nat) : Sched :=
  { s with deficit := SMap.set 0 s.deficit i 0, opened := SMap.set false s.opened i false }
/-- R327: a change of GROUP or SP_LEVEL sets the queue's deficit to 0. -/
def Block.qschedWrite (w : Writer) (G q v : Nat) (b : Block) : Block :=
  if !qschedOk v then b.refuse w (R.RGN_QSCHED G q)
  else
    let old := b.word (R.RGN_QSCHED G q)
    let b := b.storeReg w (R.RGN_QSCHED G q) v
    if old / 2 ^ 24 == v / 2 ^ 24 then b
    else b.modPort (portOfQueue G q) fun x =>
      { x with sched := x.sched.forget (q % 256) }
/-- R327 for a group. -/
def Block.gschedWrite (w : Writer) (G n v : Nat) (b : Block) : Block :=
  if !qschedOk v then b.refuse w (R.RGN_GSCHED G n)
  else
    let old := b.fld (R.RGN_GSCHED G n) F.RGN_GSCHED_SP_LEVEL
    let b := b.storeReg w (R.RGN_GSCHED G n) v
    if old == b.fld (R.RGN_GSCHED G n) F.RGN_GSCHED_SP_LEVEL then b
    else b.modPort (G * 32 + n / 32) fun x =>
      { x with sched := x.sched.forget (256 + n % 32) }

end Sys2Proof.Machine
end

