-- ==== Sys2Proof/Machine/Dma.lean ====
section
/-!
DEFINITION. Machine/Dma.lean: the 16 DMA engines, dirty logging and ring interrupts (spec/13, R376, R399, R401, R405, R406). A
read of host memory takes an engine and brings its data with the command that it is for; a write takes effect when its engine
completes it.
-/
namespace Sys2Proof.Machine
open Sys2Proof

/-! ## Rings -/

/-- The key of a ring: transmit rings 0 to 8,191, receive rings from 8,192. -/
def ringKey (tx : Bool) (r : Nat) : Nat := if tx then r else 8192 + r
def JobKind.key : JobKind → Option Nat
  | .txDone r _ | .txRead r => some r
  | .rxBuf r | .rxDesc r _ => some (8192 + r)
  | .dirty _ _ _ | .poolRead _ | .winRead _ => none
  | .gleaner d => some (16384 + d)
  | .winnow => some 16388
  | .ckpt _ => some 16389
/-- A read of host memory that a command brings the data of. -/
def JobKind.isRead : JobKind → Bool
  | .txRead _ | .poolRead _ | .winRead _ => true
  | _ => false
/-- Jobs that must complete in the order they came in: the writes of one ring, and the bitmap updates of one instance. -/
def Job.sameOrder (x y : Job) : Bool :=
  !x.kind.isRead && !y.kind.isRead && match x.kind.key, y.kind.key with
  | some a, some c => a == c
  | none, none => x.inst == y.inst
  | _, _ => false

def Block.txRing (b : Block) (r : Nat) : TxRing := SMap.get {} b.txRings r
def Block.modTxRing (b : Block) (r : Nat) (f : TxRing → TxRing) : Block := { b with txRings := SMap.mod {} b.txRings r f }
def Block.rxRing (b : Block) (r : Nat) : RxRing := SMap.get {} b.rxRings r
def Block.modRxRing (b : Block) (r : Nat) (f : RxRing → RxRing) : Block := { b with rxRings := SMap.mod {} b.rxRings r f }

def Block.txSize (b : Block) (r : Nat) : Nat := 2 ^ b.fld (R.HIF_TXR_CFG r) F.HIF_TXR_CFG_SIZE_LOG2
def Block.rxSize (b : Block) (r : Nat) : Nat := 2 ^ b.fld (R.HIF_RXR_CFG r) F.HIF_RXR_CFG_SIZE_LOG2
/-- The address of slot a of a ring; slots are counted on over the passes. -/
def Block.txSlot (b : Block) (r a : Nat) : Nat :=
  b.word (R.HIF_TXR_BASE_HI r) * 2 ^ 32 + b.word (R.HIF_TXR_BASE_LO r) + a % b.txSize r * 64
def Block.rxSlot (b : Block) (r a : Nat) : Nat :=
  b.word (R.HIF_RXR_BASE_HI r) * 2 ^ 32 + b.word (R.HIF_RXR_BASE_LO r) + a % b.rxSize r * 64
/-- PHASE of slot a: 1 on even passes (R385). -/
def phaseOf (size a : Nat) : Nat := b2n (a / size % 2 == 0)

/-- The global ring of local ring j of instance i (R381). -/
def Block.ringOf (b : Block) (tx : Bool) (i j : Nat) : Option Nat :=
  let v := b.word (if tx then R.INS_TX_RANGE i else R.INS_RX_RANGE i)
  if j < v / 2 ^ 16 % 2 ^ 14 then some (v % 2 ^ 13 + j) else none
/-- The local number of global ring r of instance i. -/
def Block.localRing (b : Block) (tx : Bool) (i r : Nat) : Nat :=
  r - b.word (if tx then R.INS_TX_RANGE i else R.INS_RX_RANGE i) % 2 ^ 13

/-! ## Ring interrupts (R399) -/

/-- The vectors of instance i's MSI-X table (R378). -/
def Block.vectors (b : Block) (i : Nat) : Nat := if i == 0 then 128 else b.fld R.HIF_VF_VECTORS F.HIF_VF_VECTORS_V

def Block.ringInt (b : Block) (tx : Bool) (r : Nat) : RingInt := SMap.get {} b.ringInts (ringKey tx r)
def Block.modRingInt (b : Block) (tx : Bool) (r : Nat) (f : RingInt → RingInt) : Block :=
  { b with ringInts := SMap.mod {} b.ringInts (ringKey tx r) f }
def RingInt.arm (x : RingInt) : Bool := F.LAY_RXINT_ARM.of x.reg == 1

/-- Whether the message of a ring is due at tick `now`: COUNT frames have completed since ARM was set, or TIMER µs have passed since the
first of them. -/
def RingInt.due (x : RingInt) (now : Nat) : Bool :=
  let late := match x.first with
    | some t => now ≥ t + F.LAY_RXINT_TIMER.of x.reg * 1000
    | none => false
  x.done > 0 && (x.done ≥ F.LAY_RXINT_COUNT.of x.reg || late)

/-- Sends the message of ring r of instance i where it is enabled, armed and due. -/
def Block.ringTry (b : Block) (tx : Bool) (i r : Nat) : Block :=
  let x := b.ringInt tx r
  let v := F.LAY_RXINT_VECTOR.of x.reg
  if x.arm && F.LAY_RXINT_EN.of x.reg == 1 && v < b.vectors i && x.due b.ticks then
    (b.modRingInt tx r fun x => { reg := F.LAY_RXINT_ARM.put x.reg 0 }).msix i v
  else b

/-- A frame of a ring has completed. -/
def Block.ringDone (b : Block) (tx : Bool) (i r : Nat) : Block :=
  if !(b.ringInt tx r).arm then b
  else
    (b.modRingInt tx r fun x => { x with done := x.done + 1, first := x.first.or (some b.ticks) }).ringTry tx i r

/-! ## Dirty logging (R405, R406) -/

/-- The bitmap that marks go to. -/
def Block.dirtyMap (b : Block) (i : Nat) : Nat :=
  (b.fld (R.INS_DIRTY_CFG i) F.INS_DIRTY_CFG_ACTIVE + b.fld (R.INS_DIRTY_CFG i) F.INS_DIRTY_CFG_SWAP_BUSY) % 2

/-- Adds a bit to the update of a bitmap word that no engine has taken yet. -/
def addDirty (n i m w bits : Nat) : List Job → List Job
  | [] => [{ n := n, inst := i, kind := .dirty m w bits }]
  | j :: r =>
    match j.kind with
    | .dirty m1 w1 b1 =>
      if j.inst == i && m1 == m && w1 == w then { j with kind := .dirty m w (b1 ||| bits) } :: r else j :: addDirty n i m w bits r
    | _ => j :: addDirty n i m w bits r

/-- Marks the pages of a device write of `len` bytes at `addr` for instance i. -/
def Block.mark (b : Block) (i addr len : Nat) : Block :=
  if !b.flag (R.INS_DIRTY_CFG i) F.INS_DIRTY_CFG_EN || len == 0 then b
  else
    let start := (b.word (R.INS_DIRTY_START_HI i) * 2 ^ 32 + b.word (R.INS_DIRTY_START_LO i)) / 4096
    let n := b.fld (R.INS_DIRTY_PAGES i) F.INS_DIRTY_PAGES_V
    let p0 := addr / 4096
    let pages := (List.range ((addr + len - 1) / 4096 + 1 - p0)).map (· + p0)
    let inside := pages.filter fun p => start ≤ p && p < start + n
    let b := inside.foldl (fun b p =>
      { b with jobs := addDirty b.jobCount i (b.dirtyMap i) ((p - start) / 64) (2 ^ ((p - start) % 64)) b.jobs,
               jobCount := b.jobCount + 1 }) b
    if inside.length == pages.length then b
    else (b.raise (R.INS_DIRTY_CFG i) F.INS_DIRTY_CFG_OUT_OF_RANGE).count (R.INS_DIRTY_OUT_RANGE i) 1

/-- Whether the writes of a job are logged. -/
def JobKind.logged : JobKind → Bool
  | .txDone _ _ | .rxBuf _ | .rxDesc _ _ => true
  | _ => false

/-! ## The engines (R401) -/

/-- TotalVFs (R378). -/
def Block.totalVfs (b : Block) : Nat := min 255 (1920 / b.fld R.HIF_VF_VECTORS F.HIF_VF_VECTORS_V)
/-- Whether the function of instance i is there (R375, R378): the physical function always, a virtual one while VF Enable is set and it is
among the NumVFs. -/
def Block.fnLive (b : Block) (i : Nat) : Bool := i == 0 || (b.vfEnable && i ≤ min b.numVfs b.totalVfs)
/-- Whether the function of instance i may issue DMA and take doorbells (R374). -/
def Block.fnOn (b : Block) (i : Nat) : Bool := b.fnLive i && !(b.inst i).d3hot

/-- Engines that instance i holds. -/
def Block.engHeld (b : Block) (i : Nat) : Nat := (b.dmaEng.filter fun x => x.2.inst == i).length
/-- An instance's place in the rotation after the one served last. -/
def Block.dmaTurn (b : Block) (i : Nat) : Nat := (i + 255 - b.dmaLast % 256) % 256
/-- The job that a free engine takes next: the oldest of the instance whose turn it is, of those below their ENG_MAX and able to
issue DMA. -/
def Block.nextJob (b : Block) : Option Job :=
  (b.jobs.filter fun j => b.fnOn j.inst && b.engHeld j.inst < b.fld (R.INS_ENG_MAX j.inst) F.INS_ENG_MAX_V).foldl (fun best j =>
    match best with
    | none => some j
    | some k => if b.dmaTurn j.inst < b.dmaTurn k.inst then some j else best) none

/-- Free engines take waiting jobs; a write is marked as it enters its engine (R406). -/
def Block.dispatchDma (b : Block) : Nat → Block
  | 0 => b
  | fuel + 1 =>
    match (List.range 16).find? fun e => (SMap.find b.dmaEng e).isNone with
    | none => b
    | some e =>
      match b.nextJob with
      | none => b
      | some j =>
        let b := { b with jobs := b.jobs.filter (fun x => x.n != j.n), dmaEng := SMap.put b.dmaEng e j, dmaLast := j.inst }
        let b := if j.kind.logged then j.writes.foldl (fun b w => b.mark j.inst w.1 w.2.length) b else b
        b.dispatchDma fuel

/-- A job joins the jobs that wait. -/
def Block.pushJob (b : Block) (i : Nat) (k : JobKind) (writes : List (Nat × List Byte)) : Block :=
  let j : Job := { n := b.jobCount, inst := i, kind := k, writes := writes }
  let b : Block := { b with jobs := b.jobs ++ [j], jobCount := b.jobCount + 1 }
  b.dispatchDma 17

/-- Whether a job is the read k of instance i. -/
def Job.isRead (i : Nat) (k : JobKind) (j : Job) : Bool := j.inst == i && j.kind == k
/-- The read k of instance i is among the jobs. -/
def Block.askRead (b : Block) (i : Nat) (k : JobKind) : Block :=
  if b.jobs.any (Job.isRead i k) || b.dmaEng.any (fun e => Job.isRead i k e.2) then b else b.pushJob i k []
/-- The block once an engine has made the read k of instance i, and is free again; none: the read still waits for one. -/
def Block.readGot (b : Block) (i : Nat) (k : JobKind) : Option Block :=
  let b := b.askRead i k
  (b.dmaEng.find? fun e => Job.isRead i k e.2).map fun e => { b with dmaEng := SMap.del b.dmaEng e.1 }
/-- A read of host memory for instance i goes on an engine as a job: it waits with the other jobs until one is free for it, and once it has
one, f takes its data (R401, assumption 133). -/
def Block.withRead (b : Block) (i : Nat) (k : JobKind) (f : Block → Block) : Block :=
  match b.readGot i k with
  | some b => (f b).dispatchDma 17
  | none => b.askRead i k

/-- A DMA engine has read n bytes of host memory for instance i. -/
def Block.dmaRead (b : Block) (i n : Nat) : Block := (b.pmc .hif 0x01 i 1).pmc .hif 0x02 i n

/-- A DMA engine writes bytes to host memory for instance i. -/
def Block.dmaWrite (b : Block) (i addr : Nat) (bytes : List Byte) : Block :=
  (b.emit (.dma i addr bytes)).pmc .hif 0x03 i bytes.length

/-- What the completion of a job does; `raw`: the 8 bytes of the bitmap word as read. -/
def Block.jobEffect (b : Block) (j : Job) (raw : List Byte) : Block :=
  let b := j.writes.foldl (fun b w => b.dmaWrite j.inst w.1 w.2) b
  match j.kind with
  | .txDone r n =>
    let b := b.modTxRing r fun x => { x with hw := x.hw + n }
    b.ringDone true j.inst r
  | .rxDesc r n =>
    let b := b.modRxRing r fun x => { x with hw := x.hw + n }
    b.ringDone false j.inst r
  | .gleaner d =>
    let size := 2 ^ b.fld (R.HIF_GLN_CFG d) F.HIF_GLN_CFG_SIZE_LOG2
    b.raising 7 fun b => b.setWord (R.HIF_GLN_TAIL d) ((b.word (R.HIF_GLN_TAIL d) + 1) % size)
  | .dirty m w bits =>
    let base := if m == 0 then b.word (R.INS_DIRTY_MAP0_HI j.inst) * 2 ^ 32 + b.word (R.INS_DIRTY_MAP0_LO j.inst)
      else b.word (R.INS_DIRTY_MAP1_HI j.inst) * 2 ^ 32 + b.word (R.INS_DIRTY_MAP1_LO j.inst)
    (b.pmc .hif 0x02 j.inst 8).dmaWrite j.inst (base + w * 8) (leBytes 8 (leVal (raw.take 8) ||| bits))
  | .ckpt (some (half, id)) =>
    b.setWord R.PAIR_CKPT_STATUS (F.PAIR_CKPT_STATUS_VALID.put (F.PAIR_CKPT_STATUS_HALF.put (id % 2 ^ 16) half) 1)
  | .rxBuf _ | .winnow | .ckpt none | .txRead _ | .poolRead _ | .winRead _ => b

/-- DMA_JOB_DONE (R401): engine e completes a write, after the earlier ones of the same ring, and takes the next job; a read that ends here
brings data that nobody takes any more. -/
def Block.dmaJobDone (e : Nat) (raw : List Byte) (b : Block) : Block :=
  match SMap.find b.dmaEng e with
  | none => b
  | some j =>
    if b.dmaEng.any fun x => x.2.sameOrder j && x.2.n < j.n then b
    else
      let b : Block := { b with dmaEng := SMap.del b.dmaEng e }
      ((b.pmc .hif 0x01 j.inst 1).jobEffect j raw).dispatchDma 17

/-- Whether a ring has a job (QUIESCED, R385). -/
def Block.ringBusy (b : Block) (key : Nat) : Bool :=
  b.jobs.any (fun j => j.kind.key == some key) || b.dmaEng.any fun x => x.2.kind.key == some key
/-- Whether instance i has a job. -/
def Block.instBusy (b : Block) (i : Nat) : Bool :=
  b.jobs.any (fun j => j.inst == i) || b.dmaEng.any fun x => x.2.inst == i

/-- A DMA read of instance i fails (R376). -/
def Block.dmaFailed (b : Block) (i : Nat) : Block :=
  (b.count R.HIF_DMA_ERR 1).sendLimited (limitKey 0x59 4 0xFFF i) 4 0xFFF 0x59 i i 4

/-- RING_INT_TIMER (R399): TIMER µs have passed since the first completion of a ring. -/
def Block.ringIntTimer (tx : Bool) (r : Nat) (b : Block) : Block :=
  match if tx then b.txOwner r else b.rxOwner r with
  | some i => b.ringTry tx i r
  | none => b

end Sys2Proof.Machine
end

