-- ==== Sys2Proof/Machine/Engine.lean ====
section
/-!
DEFINITION. Machine/Engine.lean: what one table operation does at its completion point (spec/06, R178, R182; spec/07, R199
to R216; spec/08, R234 to R244; spec/09, R258 to R270; spec/11, R332, R333, R338; spec/15, R458; spec/17, R506; the fragment
table's READ, spec/04, R149).
-/
namespace Sys2Proof.Machine
open Sys2Proof

/-! ## Results (Table 7-11) -/

def S.ok : Nat := 0
def S.notFound : Nat := 1
def S.full : Nat := 2
def S.limit : Nat := 3
def S.badTable : Nat := 4
def S.badOp : Nat := 5
def S.badIndex : Nat := 6
def S.badEntry : Nat := 7
def S.badMask : Nat := 8
def S.fenceFull : Nat := 9
def S.kept : Nat := 10

/-- What an operation answers: its status, the index found, placed or read, the entries it moved, its result words, and
the block it leaves. -/
structure TblRes where
  status : Nat
  res : Nat := 0
  moves : Nat := 0
  out : Option Vec := none
  blk : Block

def Block.fails (b : Block) (status : Nat) : TblRes := { status := status, blk := b }

/-! ## Images of exact-match entries (Tables 7-1, 7-2) -/

/-- The 192-bit key field of an image. -/
def imgKey (v : Vec) : Nat :=
  v.w 0 + 2 ^ 32 * v.w 1 + 2 ^ 64 * v.w 2 + 2 ^ 96 * v.w 4 + 2 ^ 128 * v.w 5 + 2 ^ 160 * v.w 6
def imgKind (v : Vec) : Nat := v.f 3 ⟨30, 28⟩

/-- Whether kind and key of an image fit table t: the key's form, and a tunnel key's own kind (R207, R212). -/
def keyOk (t kind key : Nat) : Bool :=
  kindTable kind == t &&
    (match kind with
      | 3 => key / 2 ^ 80 == 1 || key / 2 ^ 28 == 3
      | 4 => key / 2 ^ 176 == 2
      | 5 => key < 2 ^ 45
      | 6 => key < 2 ^ 141
      | _ => key < 2 ^ 62)

/-- Whether an INSERT image keeps Tables 7-1 and 7-2 (R208, BAD_ENTRY). -/
def insertOk (t : Nat) (v : Vec) : Bool :=
  v.f 3 ⟨31, 31⟩ == 1 && v.f 3 ⟨1, 0⟩ == 0 && keyOk t (imgKind v) (imgKey v) && v.f 8 ⟨15, 0⟩ == 0
    && v.w 7 == (if kindTwo (imgKind v) then 0xF0000000 else 0)

/-- The age of an entry in quanta (R221), saturating at 32,768. -/
def Engine.age (e : Engine) (x : EmEntry) : Nat :=
  let a (s : Nat) : Nat := (e.clock % 65536 + 65536 - s) % 65536
  min 32768 (min (a x.stamp0) (a x.stamp1))

/-- DATA0 to DATA7 of an entry. -/
def EmEntry.image (x : EmEntry) : Vec :=
  let w (n : Nat) : Nat := x.key / 2 ^ (32 * n) % 2 ^ 32
  Vec.ofList [w 0, w 1, w 2, 2 ^ 31 + x.kind * 2 ^ 28 + x.tmpl * 2 ^ 22 + x.fwdKind * 2 ^ 20 + x.fwdIdx * 4, w 3, w 4, w 5,
    if kindTwo x.kind then 0xF0000000 else 0]
/-- DATA0 to DATA8 of an entry as READ and SEARCH return it. -/
def Engine.imageAge (e : Engine) (x : EmEntry) : Vec := x.image.set 8 (e.age x * 65536)

/-- An entry from an INSERT image, with its stamps at age clock `now` (R211). -/
def newEntry (now : Nat) (v : Vec) : EmEntry :=
  { kind := imgKind v, tmpl := v.f 3 ⟨27, 22⟩, fwdKind := v.f 3 ⟨21, 20⟩, fwdIdx := v.f 3 ⟨19, 2⟩, key := imgKey v,
    stamp0 := now % 65536, stamp1 := now % 65536 }

/-- The age clock that an entry placed now takes its stamps from: an entry loaded by the boot sequencer has stamps of 0 (R222). -/
def Block.stampClock (b : Block) (d : Nat) : Nat :=
  if b.flag R.BOOT_STATUS F.BOOT_STATUS_DONE then (b.engine d).clock else 0

def EmEntry.slots (x : EmEntry) : Nat := if kindTwo x.kind then 2 else 1
/-- EM_USED[t]: the slots that table t uses. -/
def Engine.emUsed (e : Engine) (t : Nat) : Nat :=
  ((e.em.filter fun x => kindTable x.2.kind == t).map fun x => x.2.slots).sum

/-- The requester of an operation (R191): an instance, or the mirror's stream. -/
def OpVia.requester : OpVia → Nat
  | .reg | .commit => 0
  | .inst i => i
  | .mirror _ _ => 256

/-! ## Displacement (R213) -/

/-- A move of the entry at its first slot to another. -/
abbrev Move : Type := Nat × Nat

/-- The slots of the place that begins at s. -/
def placeSlots (two : Bool) (s : Nat) : List Nat := if two then [s, s + 1] else [s]

/-- The entries that hold a place, each with its first slot. -/
def Engine.occupants (e : Engine) (two : Bool) (s : Nat) : List (Nat × EmEntry) :=
  ((placeSlots two s).filterMap e.emAt).eraseDups

/-- The sets of moves that free a place with chains of at most `depth` moves, each with the slots it visits: every occupant
goes to another of its own candidate places, which is freed in the same way. -/
def Block.freeSets (b : Block) (d : Nat) : Nat → Bool → Nat → List Nat → List (List Move × List Nat)
  | depth, two, s, visited =>
    let e := b.engine d
    let occ := e.occupants two s
    let start := visited ++ placeSlots two s ++ occ.flatMap fun o => placeSlots (kindTwo o.2.kind) o.1
    match depth with
    | 0 => if occ.isEmpty then [([], start)] else []
    | n + 1 =>
      occ.foldl (fun sets o =>
        sets.flatMap fun set =>
          let t := kindTwo o.2.kind
          (List.range 4).flatMap fun w =>
            let dst := b.emPlace d (kindTable o.2.kind) t o.2.key w
            if (placeSlots t dst).any fun x => set.2.contains x then []
            else (Block.freeSets b d n t dst set.2).map fun r => (set.1 ++ r.1 ++ [(o.1, dst)], r.2)) [([], start)]

/-- Insertion sort of the slots that a set reaches. -/
def insertSorted (x : Nat) : List Nat → List Nat
  | [] => [x]
  | y :: ys => if x ≤ y then x :: y :: ys else y :: insertSorted x ys
def sortNat (l : List Nat) : List Nat := l.foldr insertSorted []
def lexLt : List Nat → List Nat → Bool
  | [], [] => false
  | [], _ => true
  | _, [] => false
  | x :: xs, y :: ys => x < y || (x == y && lexLt xs ys)

/-- The order of R213: fewest moves, the lowest freed way, the lowest slots reached. -/
def setBefore (a c : Nat × Nat × List Move) : Bool :=
  let dest (l : List Move) : List Nat := sortNat (l.map (·.2))
  a.2.2.length < c.2.2.length || (a.2.2.length == c.2.2.length &&
    (a.1 < c.1 || (a.1 == c.1 && lexLt (dest a.2.2) (dest c.2.2))))

/-- The set that the engine takes for a new key: way, freed slot, moves; none: no set within the limits. -/
def Block.bestSet (b : Block) (d t : Nat) (two : Bool) (key : Nat) : Option (Nat × Nat × List Move) :=
  let max := b.fld (R.TBL_EM_CFG d) F.TBL_EM_CFG_MAX_MOVES
  let all := (List.range 4).flatMap fun w =>
    let s := b.emPlace d t two key w
    ((b.freeSets d 4 two s []).filter fun r => r.1.length ≤ max).map fun r => (w, s, r.1)
  all.foldl (fun best x => match best with
    | none => some x
    | some y => if setBefore x y then some x else best) none

/-- Carries out a move: the entry keeps its stamps (R214). -/
def Engine.doMove (e : Engine) (m : Move) : Engine :=
  match SMap.find e.em m.1 with
  | some x => { e with em := SMap.put (SMap.del e.em m.1) m.2 x }
  | none => e

/-- Places a new entry in slot s after the moves. -/
def Block.placeEntry (b : Block) (d s : Nat) (moves : List Move) (x : EmEntry) : Block :=
  let b := b.modEngine d fun e =>
    let e := moves.foldl Engine.doMove e
    { e with em := SMap.put e.em s x }
  ((b.count (R.TBL_EM_INSERTS d) 1).count (R.TBL_EM_MOVES d) moves.length).pmc (.tbl d) 0x03 0xFFF moves.length

/-- An INSERT of an image that has been checked (R212 to R215), for requester req (Table 16-6). -/
def Block.insert (b : Block) (d t req : Nat) (v : Vec) : TblRes :=
  let e := b.engine d
  let x := newEntry (b.stampClock d) v
  let two := kindTwo x.kind
  match b.emFind d t two x.key with
  | some (s, old) =>
    if x.kind == 0 && old.kind == 2 && t == T.l2 then { status := S.kept, res := s, blk := b }
    else { status := S.ok, res := s, blk := b.placeEntry d s [] x }
  | none =>
    if e.emUsed t + x.slots > b.fld (R.TBL_EM_LIMIT d (t - 1)) F.TBL_EM_LIMIT_L then
      (b.count (R.TBL_EM_LIMIT_FAILS d) 1).fails S.limit
    else
      match (b.emPlaces d t two x.key).find? fun s => (e.occupants two s).isEmpty with
      | some s => { status := S.ok, res := s, blk := b.placeEntry d s [] x }
      | none => match b.bestSet d t two x.key with
        | some (_, s, moves) => { status := S.ok, res := s, moves := moves.length, blk := b.placeEntry d s moves x }
        | none => ((b.count (R.TBL_EM_FULL_FAILS d) 1).sendLimited (limitKey 0x31 7 d 0) 7 d 0x31 (t * 2 ^ 28) req 3).fails S.full

/-- An operation on tables 0x01 to 0x03 (Table 7-10). -/
def Block.runEm (b : Block) (d : Nat) (o : TblOp) : TblRes :=
  let e := b.engine d
  let v : Vec := o.data
  let byKey (f : Nat → EmEntry → TblRes) : TblRes :=
    if !keyOk o.table (imgKind v) (imgKey v) then b.fails S.badEntry
    else match b.emFind d o.table (kindTwo (imgKind v)) (imgKey v) with
      | some (s, x) => f s x
      | none => b.fails S.notFound
  match o.op with
  | 0 => match e.emAt o.index with
    | some (s, x) => if kindTable x.kind == o.table then { status := S.ok, res := s, out := some (e.imageAge x), blk := b }
                     else { status := S.notFound, out := some [], blk := b }
    | none => { status := S.notFound, out := some [], blk := b }
  | 2 => if insertOk o.table v then b.insert d o.table o.via.requester v else b.fails S.badEntry
  | 3 => byKey fun s _ => { status := S.ok, res := s, blk := b.modEngine d fun e => { e with em := SMap.del e.em s } }
  | 4 => byKey fun s x => { status := S.ok, res := s, out := some (e.imageAge x), blk := b }
  | _ => b.fails S.badOp

/-! ## Associative tables (R234 to R244) -/

/-- The copies that a command writes: the clusters of its mask, or the one copy of LPM and ACL_OUT. -/
def assocCopies (o : TblOp) : List Nat :=
  if o.table == T.aclIn then (List.range 8).filter (bitOf o.cmask) else [0]

def assocSize (t : Nat) : Nat := if t == T.lpm then 262144 else if t == T.aclIn then 32768 else 16384
def assocBank (t : Nat) : Nat := if t == T.lpm then 4096 else if t == T.aclIn then 2048 else 1024

def Engine.assoc (e : Engine) (t c pos : Nat) : Assoc :=
  if t == T.lpm then SMap.get {} e.lpm pos
  else if t == T.aclIn then SMap.get {} e.aclIn (c * 32768 + pos)
  else SMap.get {} e.aclOut pos
def Engine.setAssoc (e : Engine) (t c pos : Nat) (a : Assoc) : Engine :=
  if t == T.lpm then { e with lpm := SMap.set {} e.lpm pos a }
  else if t == T.aclIn then { e with aclIn := SMap.set {} e.aclIn (c * 32768 + pos) a }
  else { e with aclOut := SMap.set {} e.aclOut pos a }

/-- Changes position pos in every copy that the command names. -/
def Block.modAssoc (b : Block) (d : Nat) (o : TblOp) (pos : Nat) (f : Assoc → Assoc) : Block :=
  b.modEngine d fun e => (assocCopies o).foldl (fun e c => e.setAssoc o.table c pos (f (e.assoc o.table c pos))) e

/-- The first n words of an image. -/
def firstWords (n : Nat) (v : Vec) : Vec := v.filter fun x => x.1 < n

/-- A part of an entry as READ returns it (Table 8-2). -/
def Assoc.part (a : Assoc) (part : Nat) : Vec :=
  match part with
  | 0 => a.key
  | 1 => a.mask
  | 2 => a.action
  | _ => Vec.ofList [b2n a.valid * 2 ^ 31]

/-- Whether an LPM KEY part keeps R236. -/
def lpmKeyOk (v : Vec) : Bool :=
  let plen := v.f 4 ⟨7, 0⟩
  let four := v.f 4 ⟨30, 30⟩ == 0
  plen ≤ 128 && !(four && plen > 32) && !(four && (v.w 0 != 0 || v.w 1 != 0 || v.w 2 != 0))
    && lpmAddr v % 2 ^ (128 - plen) == 0 && v.f 4 ⟨31, 31⟩ == 0 && v.f 4 ⟨17, 8⟩ == 0

/-- Whether the action words D0 to D4 hold no reserved bit and an ACT below 4 (R182, Table 6-13). -/
def actionOk (v : Vec) : Bool :=
  v.f 0 D.act < 4 && v.f 2 ⟨2, 0⟩ == 0 && v.f 3 ⟨12, 0⟩ == 0 && v.f 4 ⟨12, 0⟩ == 0

def partOk (t part : Nat) (v : Vec) : Bool :=
  match part with
  | 0 => t != T.lpm || lpmKeyOk v
  | 2 => if t == T.lpm then v.f 0 ⟨5, 0⟩ == 0 else actionOk v && v.f 5 ⟨15, 0⟩ == 0 && v.f 7 ⟨7, 0⟩ == 0
  | _ => true

/-- Whether an ACL entry may be validated: no value bit outside its mask (R236). -/
def Assoc.maskOk (a : Assoc) : Bool := (List.range 10).all fun j => Vec.w a.key j &&& Vec.w a.mask j == Vec.w a.key j

/-- Writes a part. -/
def Assoc.write (a : Assoc) (t part : Nat) (v : Vec) : Assoc :=
  match part with
  | 0 => { a with key := firstWords (if t == T.lpm then 5 else 10) v }
  | 1 => { a with mask := firstWords 10 v }
  | 2 => { a with action := firstWords (if t == T.lpm then 1 else 8) v }
  | _ => { a with valid := v.f 0 ⟨31, 31⟩ == 1 }

def Block.writeAssoc (b : Block) (d : Nat) (o : TblOp) (part pos : Nat) : TblRes :=
  let e := b.engine d
  let cs := assocCopies o
  let v : Vec := o.data
  if part == 1 && o.table == T.lpm then b.fails S.badOp
  else if part < 2 && cs.any fun c => (e.assoc o.table c pos).valid then b.fails S.badOp
  else if !partOk o.table part v then b.fails S.badEntry
  else if part == 3 && v.f 0 ⟨31, 31⟩ == 1 && o.table != T.lpm && cs.any fun c => !(e.assoc o.table c pos).maskOk then
    b.fails S.badEntry
  else { status := S.ok, res := o.index, blk := b.modAssoc d o pos fun a => a.write o.table part v }

/-- One step of a block move: position src is copied over position dst (R243). -/
def Block.moveStep (b : Block) (d : Nat) (o : TblOp) (src dst : Nat) : Block :=
  (b.modEngine d fun e => (assocCopies o).foldl (fun e c => e.setAssoc o.table c dst (e.assoc o.table c src)) e).pmc (.tbl d)
    0x04 o.table 1

/-- MOVE_BLOCK (R242, R243): down from the bottom up, up from the top down. -/
def Block.moveBlock (b : Block) (d : Nat) (o : TblOp) (part start : Nat) : TblRes :=
  let v : Vec := o.data
  let end_ := v.f 0 ⟨17, 0⟩
  let up := o.arg % 2 == 1
  let size := assocSize o.table
  let target := if up then start - 1 else end_ + 1
  if part != 0 || v.f 0 ⟨31, 18⟩ != 0 || o.arg / 2 != 0 then b.fails S.badOp
  else if end_ < start || start ≥ size || end_ ≥ size || (up && start == 0) || target ≥ size
      || (assocCopies o).any fun c => ((b.engine d).assoc o.table c target).valid then b.fails S.badIndex
  else
    let n := end_ - start + 1
    let b := b.each n fun b k =>
      if up then b.moveStep d o (start + k) (start + k - 1) else b.moveStep d o (end_ - k) (end_ - k + 1)
    { status := S.ok, res := o.index, blk := b }

/-- The first match of a SEARCH on this die (Table 8-6). -/
def Block.assocSearch (b : Block) (d : Nat) (o : TblOp) : Option Nat :=
  let v : Vec := o.data
  let e := b.engine d
  if o.table == T.lpm then
    (b.lpmFind d (v.f 4 ⟨30, 30⟩) (v.f 4 ⟨29, 18⟩) (lpmAddr v)).map (·.1)
  else if o.table == T.aclIn then
    match assocCopies o with
    | c :: _ => (e.aclFind c 0xFFFF (v.toList 10)).map (·.1)
    | [] => none
  else (e.aclOut.find? fun x => x.2.aclMatch (v.toList 10)).map (·.1)

/-- Whether exactly one bit of the mask is set. -/
def oneCluster (m : Nat) : Bool := ((List.range 8).filter (bitOf m)).length == 1

/-! ## Digests (R458) -/

/-- An entry record (R458). -/
def entryRecord (table part index : Nat) (image : List Byte) : List Byte :=
  leBytes 1 table ++ leBytes 1 part ++ zeros 2 ++ leBytes 4 index ++ image

def assocImage (a : Assoc) : List Byte := (List.range 4).flatMap fun q => vecBytes (a.part q) 16

/-- The XOR over the valid positions of an associative copy. -/
def assocDigest (table : Nat) (l : List (Nat × Assoc)) : Nat :=
  xorAll ((l.filter fun x => x.2.valid).map fun x => tallyHash (entryRecord table 0xFF x.1 (assocImage x.2)))

/-- The XOR over the template records of die d in the digest of an exact-match table. -/
def Block.templateDigest (b : Block) (d table : Nat) : Nat :=
  xorAll ((List.range 64).map fun t =>
    let w := (List.range 9).map fun j => b.word (R.TBL_EM_TMPL d t j)
    if w.all (· == 0) then 0 else tallyHash (entryRecord table 0xFE t (w.flatMap (leBytes 4) ++ zeros 28)))

def emDigest (table : Nat) (l : List (Nat × EmEntry)) : Nat :=
  xorAll (l.map fun x => tallyHash (entryRecord table 0xFF 0xFFFFFFFF (vecBytes x.2.image 16)))

/-- Whether an entry is software-owned: in L2, static alone (R207). -/
def EmEntry.owned (x : EmEntry) : Bool := kindTable x.kind != T.l2 || x.kind == 1

/-- The learned digest of die d: the remote and learned entries of L2. -/
def Block.learnedDigest (b : Block) (d : Nat) : Nat :=
  emDigest T.l2 ((b.engine d).em.filter fun x => kindTable x.2.kind == T.l2 && !x.2.owned)

/-- The entries of a direct table, by index. -/
def Engine.directOf (e : Engine) (t : Nat) : List (Nat × Vec) :=
  (e.direct.filter fun x => x.1 / 2 ^ 20 == t).map fun x => (x.1 % 2 ^ 20, x.2)

/-- The value of one cluster's ACL_IN. -/
def Block.clusterDigest (b : Block) (d c : Nat) : Nat := assocDigest T.aclIn ((b.engine d).aclInOf c)

/-- The die table value of table t (R458). -/
def Block.dieValue (b : Block) (d t : Nat) : Nat :=
  let e := b.engine d
  if 1 ≤ t && t ≤ 3 then
    emDigest t (e.em.filter fun x => kindTable x.2.kind == t && x.2.owned) ^^^ b.templateDigest d t
  else if t == T.lpm then assocDigest t e.lpm
  else if t == T.aclOut then assocDigest t e.aclOut
  else if t == T.aclIn then tallyHash (leBytes 1 5 ++ (List.range 8).flatMap fun c => leBytes 8 (b.clusterDigest d c))
  else xorAll ((e.directOf t).map fun x => tallyHash (entryRecord t 0xFF x.1 (vecBytes x.2 16)))

/-- A 64-bit digest in DATA0 and DATA1, with a second one in DATA2 and DATA3. -/
def digestWords (x y : Nat) : Vec := Vec.ofList [x % 2 ^ 32, x / 2 ^ 32, y % 2 ^ 32, y / 2 ^ 32]

/-- An operation on LPM, ACL_IN or ACL_OUT (Table 8-6; R23 for the cluster mask). -/
def Block.runAssoc (b : Block) (d : Nat) (o : TblOp) : TblRes :=
  let acl := o.table == T.aclIn
  let part := o.index / 2 ^ 18
  let pos := o.index % 2 ^ 18
  let beyond := pos ≥ assocSize o.table
  let none_ := acl && o.cmask == 0
  match o.op with
  | 0 => if acl && !oneCluster o.cmask then b.fails S.badMask
         else if beyond then b.fails S.badIndex
         else match assocCopies o with
           | c :: _ => { status := S.ok, res := o.index, out := some (((b.engine d).assoc o.table c pos).part part), blk := b }
           | [] => b.fails S.badMask
  | 1 => if none_ then b.fails S.ok else if beyond then b.fails S.badIndex else b.writeAssoc d o part pos
  | 3 => if none_ then b.fails S.ok
         else if part != 0 then b.fails S.badOp
         else if beyond then b.fails S.badIndex
         else if (assocCopies o).all fun c => !((b.engine d).assoc o.table c pos).valid then b.fails S.notFound
         else { status := S.ok, res := o.index, blk := b.modAssoc d o pos fun a => { a with valid := false } }
  | 4 => if none_ then b.fails S.badMask
         else match b.assocSearch d o with
           | some p => { status := S.ok, res := p, blk := b }
           | none => b.fails S.notFound
  | 5 => if none_ then b.fails S.ok else b.moveBlock d o part pos
  | 7 => if acl then
           (if !oneCluster o.cmask then b.fails S.badMask
            else match assocCopies o with
              | c :: _ => { status := S.ok, out := some (digestWords (b.clusterDigest d c) 0), blk := b }
              | [] => b.fails S.badMask)
         else { status := S.ok, out := some (digestWords (b.dieValue d o.table) 0), blk := b }
  | _ => b.fails S.badOp

/-! ## Direct tables (R258, R332, R338, R506) -/

/-- Whether the table has entry i (Tables 6-3, 9-2, 9-6). -/
def directHas (t i : Nat) : Bool :=
  if t == T.portVlan then i < 131072
  else if t == T.nexthop || t == T.rewrite then i < 262144
  else if t == T.ecmp then i < 16384 || (2 ^ 19 ≤ i && i < 2 ^ 19 + 262144)
  else if t == T.mcast then i < 65536 || (2 ^ 19 ≤ i && i < 2 ^ 19 + 131072)
  else if t == T.policer then i < 131072
  else if t == T.counter then i < 524288
  else if t == T.queueMap then i < 65536
  else i < 256

/-- The bits that an entry's layout lists, word by word; every other bit is reserved (R258). -/
def directBits (t i : Nat) (v : Vec) : List Nat :=
  if t == T.portVlan then [2 ^ 32 - 1, 2 ^ 32 - 1, 2 ^ 32 - 8, 0xFFFFE000, 0xFFFFE000, 0xFFFF0000, 2 ^ 32 - 1, 0xFFFFFF00,
    0xFFFFFFCF, 0xFF000000]
  else if t == T.nexthop then [0xE3FFFFFF, 0xFF000000]
  else if t == T.ecmp then (if i < 2 ^ 19 then [0x87FFFFFF] else [0x3FFFF])
  else if t == T.mcast then (if i < 2 ^ 19 then [0xC001FFFF, 0x03FF03FF, 0x03FF03FF, 0x03FF03FF, 0x03FF03FF] else [0x83FFFFFF])
  else if t == T.rewrite then
    (if v.f 0 ⟨30, 29⟩ == 0 then [0xFFFFF800, 2 ^ 32 - 1, 2 ^ 32 - 1, 2 ^ 32 - 1, 0xFFFFFF00, 0xFFFFFE00, 0xFFFFFE00, 0xFFFFFE00,
       0xFFFFFE00, 0xFFFFC000, 0xFFFFF000]
     else [0xFFFFFFC0, 2 ^ 32 - 1, 2 ^ 32 - 1, 2 ^ 32 - 1, 2 ^ 32 - 1, 2 ^ 32 - 1, 2 ^ 32 - 1, 2 ^ 32 - 1, 2 ^ 32 - 1, 2 ^ 32 - 1,
       2 ^ 32 - 1])
  else if t == T.policer then [0xF8FF0000, 0xFFFFF000, 0xFFFFF000, 0xFFFFFF00, 0xFFFFFF00, 2 ^ 32 - 1, 2 ^ 32 - 1, 0x80000000]
  else if t == T.counter then [2 ^ 32 - 1, 2 ^ 32 - 1, 2 ^ 32 - 1, 2 ^ 32 - 1]
  else if t == T.queueMap then [0xFF]
  else [0xC0FFFFFF, 0x1FFF, 0x01FFFFFF]

/-- The limits of R270 on a REWRITE entry. -/
def rewriteOk (v : Vec) : Bool :=
  let kind := v.f 0 ⟨30, 29⟩
  if kind == 3 then false
  else if kind == 0 then
    let encap := v.f 0 ⟨11, 11⟩ == 1
    let vop := v.f 0 ⟨27, 26⟩
    let mop := v.f 0 ⟨23, 22⟩
    v.f 0 ⟨25, 24⟩ != 3 && !(v.f 0 ⟨21, 20⟩ != 0 && mop != 2) && !(mop != 0 && encap) && !((vop == 1 || vop == 3) && encap)
  else
    let typ := v.f 0 ⟨28, 27⟩
    typ != 3 && !(v.f 0 ⟨9, 9⟩ == 1 && typ == 0) && !(v.f 0 ⟨8, 8⟩ == 1 && typ != 2)
      && !(kind == 1 && [4, 5, 6, 8, 9, 10].any fun j => v.w j != 0)

/-- The limits that a field of a direct entry must keep. -/
def fieldsOk (t i : Nat) (v : Vec) : Bool :=
  if t == T.portVlan then actionOk v
  else if t == T.nexthop then v.f 0 ⟨30, 29⟩ != 3
  else if t == T.ecmp then i ≥ 2 ^ 19 || v.f 0 ⟨17, 0⟩ + v.f 0 ⟨26, 18⟩ ≤ 262143
  else if t == T.mcast then
    i ≥ 2 ^ 19 || (((List.range 8).all fun G => mcCount v G ≤ 512)
      && v.f 0 ⟨16, 0⟩ + ((List.range 8).map (mcCount v)).sum ≤ 131072)
  else if t == T.rewrite then rewriteOk v
  else if t == T.policer then v.f 0 ⟨30, 30⟩ == 1 || v.f 2 ⟨31, 12⟩ ≥ v.f 1 ⟨31, 12⟩
  else true

/-- Whether a WRITE image keeps its layout and its limits. -/
def directOk (t i : Nat) (v : Vec) : Bool :=
  let m := directBits t i v
  ((List.range 16).all fun j => v.w j &&& m.getD j 0 == v.w j) && fieldsOk t i v

/-- Loads the tokens of policer x of die d after its entry was written (R333). -/
def Block.loadPolicer (b : Block) (d x : Nat) (load : Bool) (before : Nat → PolTok) : Block :=
  let e := b.entry d T.policer x
  let c := e.f 3 ⟨31, 8⟩ * 8000
  let p := e.f 4 ⟨31, 8⟩ * 8000
  [2 * d, 2 * d + 1].foldl (fun b G =>
    let o := before G
    let k : PolTok := if load then ⟨c, p, b.ticks⟩ else ⟨min c o.c, min p o.p, b.ticks⟩
    b.modRegion G fun g => { g with pol := SMap.set {} g.pol x k }) b

/-- Loads COUNT of sampler entry x in both regions (R280). -/
def Block.loadSampler (b : Block) (d x : Nat) (v : Vec) : Block :=
  [2 * d, 2 * d + 1].foldl (fun b G =>
    let r := b.reload v
    r.2.modRegion G fun g => { g with sampler := SMap.set 0 g.sampler x r.1 }) b

/-- Sets pair x of both regions (R506). -/
def Block.setPairs (b : Block) (d x : Nat) (v : Vec) : Block :=
  let put (c : Pair) : Pair := { c with packets := v.w 0 + 2 ^ 32 * v.w 1, bytes := v.w 2 + 2 ^ 32 * v.w 3 }
  [2 * d, 2 * d + 1].foldl (fun b G => b.modRegion G fun g => { g with pairs := SMap.mod {} g.pairs x put }) b

/-- Writes a whole entry of a direct table in both regions; `load` is POLICER's LOAD. -/
def Block.writeDirect (b : Block) (d t i : Nat) (v : Vec) : Block :=
  if t == T.counter then b.setPairs d i v
  else if t == T.policer then
    let before (G : Nat) : PolTok := b.polNow G i
    (b.setEntry d t i (firstWords 5 v)).loadPolicer d i (v.f 7 ⟨31, 31⟩ == 1) before
  else if t == T.sampler then (b.setEntry d t i (firstWords 2 v)).loadSampler d i v
  else b.setEntry d t i v

/-- A direct table's entry as READ returns it; `g` is the region that ARG names. -/
def Block.readDirect (b : Block) (d t i g : Nat) : Vec :=
  let e := b.entry d t i
  let G := 2 * d + g
  if t == T.policer then
    let k := b.polNow G i
    (e.set 5 (k.c / 8000)).set 6 (k.p / 8000)
  else if t == T.sampler then e.set 2 (SMap.get 0 (b.region G).sampler i)
  else e

/-- A READ of COUNTER (R506): live or snapshot, and cleared in the same operation where CLEAR is set. -/
def Block.readPair (b : Block) (d : Nat) (o : TblOp) : TblRes :=
  let G := 2 * d + o.arg / 4 % 2
  let c := SMap.get {} (b.region G).pairs o.index
  let snap := o.arg % 2 == 1
  let x := if snap then (c.snapPackets, c.snapBytes) else (c.packets, c.bytes)
  let z : Pair := { c with packets := 0, bytes := 0 }
  let b := if o.arg / 2 % 2 == 1 then b.modRegion G fun g => { g with pairs := SMap.set {} g.pairs o.index z } else b
  { status := S.ok, res := o.index, out := some (digestWords x.1 x.2), blk := b }

/-- An operation on a direct table (R258, R332, R338, R506). -/
def Block.runDirect (b : Block) (d : Nat) (o : TblOp) : TblRes :=
  let has := directHas o.table o.index
  let ctr := o.table == T.counter
  let argBad := ctr && (o.arg / 8 != 0 || o.arg % 4 == 3 || (o.op != 0 && o.arg != 0))
  if argBad then b.fails S.badOp
  else match o.op with
    | 0 => if !has then b.fails S.badIndex
           else if ctr then b.readPair d o
           else { status := S.ok, res := o.index, out := some (b.readDirect d o.table o.index (o.arg / 4 % 2)), blk := b }
    | 1 => if !has then b.fails S.badIndex
           else if !directOk o.table o.index o.data then b.fails S.badEntry
           else { status := S.ok, res := o.index, blk := b.writeDirect d o.table o.index o.data }
    | 3 => if !has then b.fails S.badIndex
           else
             let b1 := b.writeDirect d o.table o.index []
             let b2 := if o.table == T.sampler then [2 * d, 2 * d + 1].foldl (fun b G => b.modRegion G fun g =>
                 { g with sampler := SMap.del g.sampler o.index }) b1 else b1
             { status := S.ok, res := o.index, blk := b2 }
    | 7 => if ctr then b.fails S.badOp
           else { status := S.ok, out := some (digestWords (b.dieValue d o.table) 0), blk := b }
    | _ => b.fails S.badOp

/-! ## The fragment table (R149) -/

def Block.runFrag (b : Block) (d : Nat) (o : TblOp) : TblRes :=
  if o.op != 0 then b.fails S.badOp
  else if !oneCluster o.cmask then b.fails S.badMask
  else if o.index ≥ 8192 then b.fails S.badIndex
  else
    let C := 8 * d + ((List.range 8).find? (bitOf o.cmask)).getD 0
    let b := b.fragExpire C
    match SMap.find (b.cluster C).frags o.index with
    | some e => { status := S.ok, res := o.index, out := some (b.fragImage e), blk := b }
    | none => { status := S.ok, res := o.index, out := some [], blk := b }

/-! ## Every operation but FENCE and the template commit -/

/-- The DIGEST of an exact-match table (Table 7-10). -/
def Block.runEmDigest (b : Block) (d : Nat) (o : TblOp) : TblRes :=
  { status := S.ok, blk := b,
    out := some (digestWords (b.dieValue d o.table) (if o.table == T.l2 then b.learnedDigest d else 0)) }

/-- What operation o does on die d at its completion point (R207, R208). -/
def Block.runTable (b : Block) (d : Nat) (o : TblOp) : TblRes :=
  if o.table ≥ 16 then b.fails S.badTable
  else if o.op ≥ 8 then b.fails S.badOp
  else if 1 ≤ o.table && o.table ≤ 3 then (if o.op == 7 then b.runEmDigest d o else b.runEm d o)
  else if o.table == T.lpm || o.table == T.aclIn || o.table == T.aclOut then b.runAssoc d o
  else if o.table == T.frag then b.runFrag d o
  else b.runDirect d o

end Sys2Proof.Machine
end

