-- ==== Sys2Proof/Machine/Commands.lean ====
section
/-!
DEFINITION. Machine/Commands.lean: the command engine of a die: accepting and completing table operations, mirroring, fences,
the Gleaner and Winnow (spec/06, R191, R194 to R198; spec/07, R205 to R230; spec/09, R266; spec/15, R467, R468).
-/
namespace Sys2Proof.Machine
open Sys2Proof

/-! ## Frames that a fence or a member write waits for (R194, R266) -/

/-- Whether a packet took its S0 handshake on die d in an epoch up to e. -/
def Pkt.coveredBy (k : Pkt) (d e : Nat) : Bool := k.id != 0 && k.die == d && k.epoch ≤ e

/-- Pointers that a stored copy still owes or holds. -/
def Region.copiesOf (g : Region) (sid : Nat) (s : Stored) : Nat :=
  max 1 (s.refs + ((g.mcPend.filter fun m => m.sid == sid).map fun m => m.left).sum)

/-- The frames and copies that a fence of die d over epochs up to e still covers (FENCE_LEFT): a copy marked void in Silo counts as
dropped, and frames that the host sent direct to queue carry no epoch (R194). -/
def Block.fenceLeft (b : Block) (d e : Nat) : Nat :=
  let inPipe := (b.framesOf fun f => dieOfPort f.port == d && f.stage ≥ 1 && (f.loc == .pipe || f.loc == .llWait)
    && f.epoch ≤ e).length
  let cells (l : List Transit) : Nat := (l.filter fun t => t.pkt.coveredBy d e && t.st == .waiting).length
  let crossing := (b.fifos.map fun x => cells x.2).sum + (b.hostLinks.map fun x => cells x.2).sum
  let inRegion (g : Region) : Nat :=
    ((g.stored.filter fun s => s.2.pkt.coveredBy d e).map fun s => g.copiesOf s.1 s.2).sum
      + (g.queues.map fun q => (q.2.inSilo.filter fun s => s.pkt.coveredBy d e).length).sum
  let sending (x : Nat × Port) : Nat :=
    let G := rgnOfPort x.1
    if G / 2 != d then 0
    else (x.2.tx.filter fun c =>
      !(SMap.get {} (b.region G).stored c.sid).pkt.coveredBy d e
        && (match c.epoch with | some n => decide (n ≤ e) | none => false)).length
  inPipe + crossing + (b.regions.map fun x => inRegion x.2).sum + (b.ports.map sending).sum

/-- Whether a packet is a multicast copy bound for a region of die d. -/
def Pkt.mcFor (k : Pkt) (d : Nat) : Bool :=
  Vec.f k.desc 0 D.fwdKind == 2 && (mcCount k.group (2 * d) != 0 || mcCount k.group (2 * d + 1) != 0)

/-- The frames past S5 with multicast copies for die d whose pointers are not all enqueued (R266). -/
def Block.mcWaiting (b : Block) (d : Nat) : List Nat :=
  let pipe := (b.framesOf fun f => f.stage ≥ 6 && (f.loc == .pipe || f.loc == .llWait)
    && Vec.f f.rec_ 0 D.fwdKind == 2 && (mcCount f.group (2 * d) != 0 || mcCount f.group (2 * d + 1) != 0)).map (·.1)
  let fifo := b.fifos.flatMap fun x =>
    if x.1 % 8 / 2 == d then (x.2.filter fun t => t.pkt.mcFor d && t.st == .waiting).map fun t => t.pkt.id else []
  let pend := [2 * d, 2 * d + 1].flatMap fun G =>
    ((b.region G).mcPend.filter fun m => !m.uni).map fun m => (SMap.get {} (b.region G).stored m.sid).pkt.id
  pipe ++ fifo ++ pend

/-! ## Fences (R194 to R197) -/

/-- Completes the oldest fence of die d (R195); `held` at Hold entry (R196), `late` by timeout (R197). -/
def Block.fenceEnd (b : Block) (d : Nat) (late held : Bool) : Block :=
  match (b.engine d).fences with
  | [] => b
  | f :: rest =>
    let b := b.modEngine d fun e => { e with fences := rest }
    let mark (a : Nat) (b : Block) : Block :=
      let b := b.setFld a F.TBL_FENCE_STATUS_LAST_DONE_TAG f.tag
      let b := if late then b.raise a F.TBL_FENCE_STATUS_TIMEOUT_SEEN else b
      let b := if held then b.raise a F.TBL_FENCE_STATUS_HELD_SEEN else b
      b.raise a F.TBL_FENCE_STATUS_DONE_SEEN
    let b := b.raising 1 (mark (R.TBL_FENCE_STATUS d))
    if f.inst != 0 then mark (R.LAY_INS_FENCE_STATUS f.inst d) b else b

/-- Issues a fence on die d: the status of the command, and the block. On a held die it completes at once (R196). -/
def Block.fenceIssue (b : Block) (d tag inst : Nat) : Nat × Block :=
  if (b.engine d).fences.length ≥ 3 then (S.fenceFull, b)
  else
    let b := b.modEngine d fun e => { e with fences := e.fences ++ [⟨tag, b.ticks, e.epoch, inst⟩], epoch := e.epoch + 1 }
    let b := (b.setFld (R.TBL_FENCE_STATUS d) F.TBL_FENCE_STATUS_LAST_ISSUED_TAG tag).count (R.TBL_FENCES_ISSUED d) 1
    let b := if inst != 0 then
        b.setFld (R.LAY_INS_FENCE_STATUS inst d) F.LAY_INS_FENCE_STATUS_LAST_ISSUED_TAG tag else b
    (S.ok, if b.frozen d then b.fenceEnd d false false else b)

/-- FENCE_ISSUE, a write of TBL[d].FENCE (R195). -/
def Block.fenceWrite (w : Writer) (d v : Nat) (b : Block) : Block :=
  if F.TBL_FENCE_ISSUE.of v == 0 then b
  else
    let r := b.fenceIssue d (F.TBL_FENCE_TAG.of v) 0
    if r.1 == S.ok then r.2 else b.refuse w (R.TBL_FENCE d)

/-- FENCE_DONE: nothing of the oldest fence is left (R194). -/
def Block.fenceDone (d : Nat) (b : Block) : Block :=
  match (b.engine d).fences with
  | f :: _ => if b.fenceLeft d f.epoch == 0 then b.fenceEnd d false false else b
  | [] => b

/-- FENCE_TIMEOUT (R197): the oldest fence has been outstanding for LIMIT ms. -/
def Block.fenceTimeout (d : Nat) (b : Block) : Block :=
  let limit := b.fld (R.TBL_FENCE_CFG d) F.TBL_FENCE_CFG_LIMIT
  match (b.engine d).fences with
  | f :: _ =>
    if limit != 0 && b.ticks - f.at_ ≥ limit * oneMs then
      let left := sat (2 ^ 28 - 1) (b.fenceLeft d f.epoch)
      (((b.count (R.TBL_FENCE_TIMEOUTS d) 1).send 7 d 0x30 (f.tag * 2 ^ 28 + left))).fenceEnd d true false
    else b
  | [] => b

/-- FENCE_CFG_WRITE (R197): a new LIMIT applies at once to every outstanding fence, oldest first. -/
def Block.fenceCfg (w : Writer) (d v : Nat) (b : Block) : Block :=
  (b.storeReg w (R.TBL_FENCE_CFG d) v).each 3 fun b _ => b.fenceTimeout d

/-! ## Acceptance -/

/-- Whether an opcode writes tables (R467). -/
def writesTable (op : Nat) : Bool := op == 1 || op == 2 || op == 3 || op == 5

def OpVia.fromHost : OpVia → Bool
  | .mirror _ _ => false
  | _ => true
/-- Whether an operation is a template commit. -/
def OpVia.isCommit : OpVia → Bool
  | .commit | .mirror _ true => true
  | _ => false

/-- The CMD word of an operation (Table 7-6). -/
def TblOp.word (o : TblOp) : Nat := o.op * 2 ^ 28 + o.table * 2 ^ 20 + o.cmask * 2 ^ 12 + o.arg

/-- The body of a CMD message (Table 15-10). -/
def TblOp.message (o : TblOp) (seq d : Nat) : List Byte :=
  let commit := o.via == .commit
  beBytes 8 seq ++ beBytes 1 (b2n commit) ++ beBytes 1 d ++ beBytes 4 (if commit then 0 else o.word) ++ beBytes 4 o.index
    ++ vecBytes o.data 16

/-- The engine of die d accepts an operation: a mirrored one takes its SEQ and is sent to the standby (R467); a fence with
nothing of its requester ahead takes its fence point (R194); a member write notes the copies it waits for (R266). -/
def Block.accept (b : Block) (d : Nat) (o : TblOp) : Block :=
  let commit := o.via == .commit
  let mirrored := b.pairRole == 1 && b.mirroring && o.via.fromHost && (commit || writesTable o.op) && !b.pair.handing
  let member := o.table == T.mcast && o.index ≥ 2 ^ 19 && (o.op == 1 || o.op == 3) && !commit
  let o := if member then { o with after := b.mcWaiting d } else o
  if mirrored then
    let s := b.ctr R.PAIR_NEXT_SEQ
    let b := (b.setCtr R.PAIR_NEXT_SEQ (s + 1)).count R.PAIR_CMD_MIRRORED 1
    let p : PairState := { b.pair with lag := b.pair.lag ++ [⟨s, none, none⟩] }
    let b := { b with pair := p }
    (b.shaix 2 (o.message s d)).modEngine d fun e => { e with ops := e.ops ++ [{ o with seq := some s }] }
  else if o.op == 6 && !commit && !(b.engine d).ops.any (fun x => x.via.requester == o.via.requester) then
    let r := b.fenceIssue d o.arg o.via.requester
    r.2.modEngine d fun e => { e with ops := e.ops ++ [{ o with done := true, status := r.1 }] }
  else b.modEngine d fun e => { e with ops := e.ops ++ [o] }

/-- Whether a standby refuses a host's writing command (R467). -/
def Block.standbyRefuses (b : Block) : Bool := b.pairRole == 2 && b.mirroring

/-- A write of TBL[d].CMD with opcode `op` (R206). -/
def Block.cmdWrite (w : Writer) (d op v : Nat) (b : Block) : Block :=
  if b.flag (R.TBL_CMD_STATUS d) F.TBL_CMD_STATUS_BUSY || (writesTable op && b.standbyRefuses) then b.refuse w (R.TBL_CMD d)
  else
    let o : TblOp := { op := op, table := F.TBL_CMD_TABLE.of v, cmask := F.TBL_CMD_CLUSTER_MASK.of v,
                       arg := F.TBL_CMD_ARG.of v, index := b.fld (R.TBL_CMD_INDEX d) F.TBL_CMD_INDEX_INDEX,
                       data := Vec.ofList ((List.range 16).map fun j => b.word (R.TBL_CMD_DATA d j)) }
    (b.raise (R.TBL_CMD_STATUS d) F.TBL_CMD_STATUS_BUSY).accept d o

def Block.tblRead (w : Writer) (d v : Nat) (b : Block) : Block := b.cmdWrite w d 0 v
def Block.tblWrite (w : Writer) (d v : Nat) (b : Block) : Block := b.cmdWrite w d 1 v
def Block.tblInsert (w : Writer) (d v : Nat) (b : Block) : Block := b.cmdWrite w d 2 v
def Block.tblDelete (w : Writer) (d v : Nat) (b : Block) : Block := b.cmdWrite w d 3 v
def Block.tblSearch (w : Writer) (d v : Nat) (b : Block) : Block := b.cmdWrite w d 4 v
def Block.tblMove (w : Writer) (d v : Nat) (b : Block) : Block := b.cmdWrite w d 5 v
def Block.tblFence (w : Writer) (d v : Nat) (b : Block) : Block := b.cmdWrite w d 6 v
def Block.tblDigest (w : Writer) (d v : Nat) (b : Block) : Block := b.cmdWrite w d 7 v
/-- TBL_BAD_OP: an opcode of 8 to 15. -/
def Block.tblBadOp (w : Writer) (d v : Nat) (b : Block) : Block := b.cmdWrite w d (8 + F.TBL_CMD_OPCODE.of v % 8) v

/-- EM_TMPL_COMMIT, a write of EM_TMPL_CTRL (R205). -/
def Block.tmplCommit (w : Writer) (d v : Nat) (b : Block) : Block :=
  let a := R.TBL_EM_TMPL_CTRL d
  let words := (List.range 9).map fun j => b.word (R.TBL_EM_TMPL_STAGE d j)
  if F.TBL_EM_TMPL_CTRL_COMMIT.of v == 0 then b
  else if b.flag a F.TBL_EM_TMPL_CTRL_BUSY || words.getD 0 0 / 2 ^ 29 ≥ 4 || b.standbyRefuses then b.refuse w a
  else (b.raise a F.TBL_EM_TMPL_CTRL_BUSY).accept d
    { via := .commit, op := 2, index := F.TBL_EM_TMPL_CTRL_INDEX.of v, data := Vec.ofList words }

/-! ## Completion (R191, R206, R210, R245, R468) -/

/-- The slots of the exact-match store that an operation reads or writes (R210): those of a slot's pair; of its key's four places;
for an INSERT that displaces, those of its moves too. -/
def Block.emSlots (b : Block) (d : Nat) (o : TblOp) : List Nat :=
  let v : Vec := o.data
  let two := kindTwo (imgKind v)
  let mine := (b.emPlaces d o.table two (imgKey v)).flatMap (placeSlots two)
  match o.op with
  | 0 => placeSlots true (o.index / 2 * 2)
  | 2 =>
    if (b.emFind d o.table two (imgKey v)).isSome
      || (b.emPlaces d o.table two (imgKey v)).any fun s => ((b.engine d).occupants two s).isEmpty then mine
    else match b.bestSet d o.table two (imgKey v) with
      | some r => mine ++ r.2.2.flatMap fun m => placeSlots true (m.1 / 2 * 2) ++ placeSlots true (m.2 / 2 * 2)
      | none => mine
  | _ => mine

/-- Whether two exact-match operations or template commits share a slot, an entry or a template: DIGEST reads them all. -/
def Block.emConflict (b : Block) (d : Nat) (x y : TblOp) : Bool :=
  if x.via.isCommit && y.via.isCommit then x.index == y.index
  else if x.via.isCommit then y.op == 7
  else if y.via.isCommit then x.op == 7
  else if x.op == 7 || y.op == 7 then true
  else (b.emSlots d x).any fun s => (b.emSlots d y).contains s

/-- The one position that an associative command reads or writes. -/
def TblOp.position (o : TblOp) : Option Nat := if o.op == 0 || o.op == 1 || o.op == 3 then some (o.index % 2 ^ 18) else none

/-- The banks of its table that an associative command reads or writes (R237, R242). -/
def Block.assocBanks (b : Block) (d : Nat) (o : TblOp) : List Nat :=
  let k := assocBank o.table
  let p := o.index % 2 ^ 18
  let all := List.range (assocSize o.table / k)
  let v : Vec := o.data
  match o.op with
  | 4 =>
    if o.table == T.lpm then
      match b.lpmBanks d (v.f 4 ⟨30, 30⟩) (v.f 4 ⟨29, 18⟩) (lpmAddr v) with
      | some (first, n) => (List.range n).map (· + first)
      | none => []
    else all
  | 5 => all.filter fun n => (p - o.arg % 2) / k ≤ n && n ≤ (v.f 0 ⟨17, 0⟩ + (1 - o.arg % 2)) / k
  | 7 => all
  | _ => [p / k]

/-- The clusters whose copies an associative command reads or writes; LPM and ACL_OUT have one. -/
def TblOp.copies (o : TblOp) : List Nat := if o.op == 4 then (assocCopies o).take 1 else assocCopies o

/-- Whether two associative operations on one table share a position; one that touches a whole bank shares it with all of that bank
(R210, R245). -/
def Block.assocConflict (b : Block) (d : Nat) (x y : TblOp) : Bool :=
  x.copies.any y.copies.contains &&
    match x.position, y.position with
    | some p, some q => p == q
    | _, _ => (b.assocBanks d x).any (b.assocBanks d y).contains

/-- Whether two operations must run one after the other: they share a slot, an entry, a position or a template, or one of them moves
a block in a bank that the other touches (R210, R245). -/
def Block.conflicts (b : Block) (d : Nat) (x y : TblOp) : Bool :=
  let em (o : TblOp) : Bool := o.via.isCommit || (1 ≤ o.table && o.table ≤ 3)
  if em x || em y then em x && em y && b.emConflict d x y
  else if x.table != y.table then false
  else if x.table == T.lpm || x.table == T.aclIn || x.table == T.aclOut then b.assocConflict d x y
  else x.index == y.index || x.op == 7 || y.op == 7

/-- The mirrored commands that still wait for their CMD_ACK (PAIR.STATUS.LAG). -/
def PairState.waiting (p : PairState) : List LagCmd := p.lag.filter fun c => c.ack.isNone

/-- Whether nothing but the Gleaner's turn keeps operation number n of die d from its completion point: it is one of the 32 that the
engine carries (R210), no earlier one of its requester or of what it touches is left (R191, R210, R245), and what it waits for has come
(R266, R467, R468, R470). -/
def Block.opReady (b : Block) (d n : Nat) (o : TblOp) : Bool :=
  let ahead := (b.engine d).ops.take n
  let lagged := match o.seq with
    | some s => b.pair.mode == 2 &&
        (b.pair.waiting.filter fun c => c.seq < s).length ≥ b.fld R.PAIR_CFG F.PAIR_CFG_LAG_LIMIT
    | none => b.pair.handing && o.via.fromHost
  n < 32 && ahead.all (fun x => x.via.requester != o.via.requester && (x.done || !b.conflicts d x o))
    && !lagged && !(b.pair.promoting && o.via.fromHost) && !(b.mcWaiting d).any fun i => o.after.contains i

/-- Whether the Gleaner has work for the engine of die d: its queue stands still while the die is held (R225). -/
def Block.glWork (b : Block) (d : Nat) : Bool := !(b.engine d).glQueue.isEmpty && !b.frozen d
/-- Whether a command of die d could reach its completion point. -/
def Block.cmdWork (b : Block) (d : Nat) : Bool :=
  (List.range (b.engine d).ops.length).any fun n => match (b.engine d).ops[n]? with
    | some o => !o.done && b.opReady d n o
    | none => false

/-- Whether it is the commands' turn: the engine serves the two queues alternately while both hold work (R33). -/
def Block.cmdTurn (b : Block) (d : Nat) : Bool := (b.engine d).lastGl || !b.glWork d
/-- Whether it is the Gleaner's turn (R33). -/
def Block.glTurn (b : Block) (d : Nat) : Bool := !b.frozen d && (!(b.engine d).lastGl || !b.cmdWork d)

/-- Whether operation number n of die d may reach its completion point now. -/
def Block.mayRun (b : Block) (d n : Nat) (o : TblOp) : Bool := b.opReady d n o && b.cmdTurn d

/-- The engine of die d has served one of the queues. -/
def Block.served (b : Block) (d : Nat) (gl : Bool) : Block := b.modEngine d fun e => { e with lastGl := gl }

/-- The template commit (R205). -/
def Block.runCommit (b : Block) (d : Nat) (o : TblOp) : TblRes :=
  { status := S.ok, res := o.index, blk := b.each 9 fun b j => b.setWord (R.TBL_EM_TMPL d o.index j) (Vec.w o.data j) }

/-- What an operation does, whatever its kind. -/
def Block.runOp (b : Block) (d : Nat) (o : TblOp) : TblRes :=
  if o.via.isCommit then b.runCommit d o
  else if o.op == 6 then
    let r := b.fenceIssue d o.arg o.via.requester
    { status := r.1, blk := r.2 }
  else b.runTable d o

/-- The TBLCMD trace record of a completed command (Table 17-8). -/
def Block.traceCmd (b : Block) (d : Nat) (o : TblOp) : Block :=
  let results := o.op == 0 || o.op == 4 || o.op == 7
  b.trace { typ := 2, die := d, opcode := o.op, table := o.table, requester := o.via.requester % 256,
            failed := o.status != S.ok && o.status != S.kept,
            body := leBytes 4 o.word ++ leBytes 4 o.index ++ leBytes 1 o.status ++ zeros 1 ++ leBytes 2 (o.via.requester % 256)
              ++ leBytes 4 (o.moves * 2 ^ 24 + o.res) ++ vecBytes (if results then o.out.getD [] else o.data) 16 }

/-- Results of the command register of die d (R206): an operation without result words leaves CMD_DATA as it is (R237). -/
def Block.publishReg (b : Block) (d : Nat) (o : TblOp) : Block :=
  let st := R.TBL_CMD_STATUS d
  let b := (b.lower st F.TBL_CMD_STATUS_BUSY).setFld st F.TBL_CMD_STATUS_STATUS o.status
  let b := b.setFld (R.TBL_CMD_RESULT d) F.TBL_CMD_RESULT_INDEX o.res
  let b := if o.op == 2 then b.setFld (R.TBL_CMD_RESULT d) F.TBL_CMD_RESULT_MOVES o.moves else b
  let b := match o.out with
    | some v => b.each 16 fun b j => b.setWord (R.TBL_CMD_DATA d j) (Vec.w v j)
    | none => b
  b.raising 0 fun b => b.raise st F.TBL_CMD_STATUS_DONE

/-- The message of vector field at address a of instance i's layout. -/
def Block.insVector (b : Block) (i a : Nat) : Block :=
  if b.word a % 64 < b.vectors i then b.msix i (b.word a % 64) else b

/-- Results of an instance's command register, its index relative to its window (R402). -/
def Block.publishInst (b : Block) (i : Nat) (o : TblOp) : Block :=
  let st := R.LAY_INS_CMD_STATUS i
  let was := b.flag st F.LAY_INS_CMD_STATUS_DONE
  let b := (b.lower st F.LAY_INS_CMD_STATUS_BUSY).setFld st F.LAY_INS_CMD_STATUS_STATUS o.status
  let b := b.setWord (R.LAY_INS_CMD_RESULT i) (o.res - o.base)
  let b := if o.op == 0 && o.status == S.ok then
      b.each 16 fun b j => b.setWord (R.LAY_INS_CMD_DATA i j) (Vec.w (o.out.getD []) j) else b
  let b := (b.raise st F.LAY_INS_CMD_STATUS_DONE).raise (R.INS_INS_STATUS i) F.INS_INS_STATUS_CMD_IDLE
  if was then b else b.insVector i (R.LAY_CMD_VEC i)

/-- An operation that has run completes toward its requester. -/
def Block.publish (b : Block) (d : Nat) (o : TblOp) : Block :=
  match o.via with
  | .reg => ((b.pmc (.tbl d) 0x01 o.op 1).publishReg d o).traceCmd d o
  | .inst i => ((b.pmc (.tbl d) 0x01 o.op 1).publishInst i o).traceCmd d o
  | .commit => b.lower (R.TBL_EM_TMPL_CTRL d) F.TBL_EM_TMPL_CTRL_BUSY
  | .mirror s c =>
    let b := if c then b else (b.pmc (.tbl d) 0x01 o.op 1).traceCmd d o
    (b.setCtr R.PAIR_APPLIED_SEQ s).shaix 3 (beBytes 8 s ++ beBytes 1 o.status ++ beBytes 4 o.res)

/-- Removes operation number n of die d. -/
def Block.dropOp (b : Block) (d n : Nat) : Block := b.modEngine d fun e => { e with ops := e.ops.eraseIdx n }

/-- A result differs from the standby's (R468). -/
def Block.diverge (b : Block) (c : LagCmd) : Block :=
  match c.own, c.ack with
  | some x, some y =>
    if x == y then b else (b.raise R.PAIR_STATUS F.PAIR_STATUS_DIVERGE).sendOncePerMs 3 0 0x6D 0
  | _, _ => b

/-- The primary's own result of SEQ s: true where the CMD_ACK has already arrived. -/
def Block.ownResult (b : Block) (s status res : Nat) : Bool × Block :=
  match b.pair.lag.find? fun c => c.seq == s with
  | none => (true, b)
  | some c =>
    let c := { c with own := some (status, res) }
    if c.ack.isSome then
      (true, { b.diverge c with pair := { b.pair with lag := b.pair.lag.filter fun x => x.seq != s } })
    else (false, { b with pair := { b.pair with lag := b.pair.lag.map fun x => if x.seq == s then c else x } })

/-- CMD_COMPLETE: operation number n in flight on die d reaches its completion point. Where it may not yet, nothing
happens. -/
def Block.cmdComplete (d n : Nat) (b : Block) : Block :=
  match (b.engine d).ops[n]? with
  | none => b
  | some o =>
    if o.done then (if o.seq.isNone then (b.dropOp d n).publish d o else b)
    else if !b.mayRun d n o then b
    else
      let r := (b.served d false).runOp d o
      let o := { o with done := true, status := r.status, res := r.res, moves := r.moves, out := r.out }
      match o.seq with
      | none => (r.blk.dropOp d n).publish d o
      | some s =>
        let w := r.blk.ownResult s o.status o.res
        if w.1 || b.pair.mode != 1 then (w.2.dropOp d n).publish d o
        else w.2.modEngine d fun e => { e with ops := e.ops.set n o }

/-! ## The Gleaner (R217 to R225) -/

/-- Writes an event record (Table 7-15) into die d's ring, or drops it (R220, R398); the message names the entry (R230). -/
def Block.glRecord (b : Block) (d table idx : Nat) (r : List Byte) : Block :=
  let size := 2 ^ b.fld (R.HIF_GLN_CFG d) F.HIF_GLN_CFG_SIZE_LOG2
  let mine (j : Job) : Bool := j.kind == .gleaner d
  let tail := (b.word (R.HIF_GLN_TAIL d) + (b.jobs.filter mine).length + (b.dmaEng.filter fun x => mine x.2).length) % size
  if b.flag (R.HIF_GLN_CFG d) F.HIF_GLN_CFG_EN && (tail + 1) % size != b.word (R.HIF_GLN_HEAD d) then
    let base := b.word (R.HIF_GLN_BASE_HI d) * 2 ^ 32 + b.word (R.HIF_GLN_BASE_LO d)
    b.pushJob 0 (.gleaner d) [(base + tail * 64, r ++ zeros 16)]
  else (b.count (R.TBL_GLN_EVENT_DROP d) 1).sendLimited (limitKey 0x32 7 d 0) 7 d 0x32 (table * 2 ^ 28 + idx % 2 ^ 28) reqGleaner 0

/-- An event: 1 LEARN, 2 MOVE, 3 AGE, 4 LEARN_FAIL; a pair sends the first three to the partner (R469). -/
def Block.glEvent (b : Block) (d ev table old port idx : Nat) (image : Vec) : Block :=
  let seq := (b.engine d).seq
  let t := b.stampNow
  let r := leBytes 1 table ++ leBytes 1 old ++ leBytes 1 port ++ leBytes 1 (ev * 16 + d * 4)
    ++ leBytes 4 (seq % 4096 * 2 ^ 20 + idx) ++ leBytes 4 t.ns ++ leBytes 4 t.s ++ vecBytes image 8
  let b := (b.modEngine d fun e => { e with seq := (seq + 1) % 4096 }).glRecord d table idx r
  if ev == 4 then b else b.shaix 4 r

/-- The image of a learned entry (R219). -/
def Block.learnImage (b : Block) (d key port : Nat) : Vec :=
  EmEntry.image { kind := 2, tmpl := b.fld (R.TBL_GLN_CFG d) F.TBL_GLN_CFG_TMPL, fwdKind := 0,
                  fwdIdx := b.fld (R.TBL_GLN_CFG d) F.TBL_GLN_CFG_NH_BASE + port, key := key }

/-- OLD_PORT of a move: the port of a learned entry's next hop. For a next hop outside NH_BASE to NH_BASE + 255 the spec
states none (a free value, assumption 1). -/
def Block.oldPort (b : Block) (d : Nat) (x : EmEntry) : Nat × Block :=
  let base := b.fld (R.TBL_GLN_CFG d) F.TBL_GLN_CFG_NH_BASE
  if x.kind == 0 then (0xFE, b)
  else if base ≤ x.fwdIdx && x.fwdIdx < base + 256 then (x.fwdIdx - base, b)
  else b.free 8

/-- The Gleaner's entry of a key becomes a learn, a move or nothing, as the key now stands (R219). -/
def Block.learn (b : Block) (d key port : Nat) : Block :=
  let img := b.learnImage d key port
  match b.emFind d T.l2 false key with
  | some (s, x) =>
    if x.kind == 1 || (x.kind == 2 && x.fwdIdx == img.f 3 ⟨19, 2⟩) then b
    else
      let old := b.oldPort d x
      let b := old.2.modEngine d fun e => { e with em := SMap.put e.em s (newEntry (old.2.stampClock d) img) }
      ((b.count (R.TBL_GLN_MOVES d) 1).pmc (.tbl d) 0x05 2 1).glEvent d 2 T.l2 old.1 port s img
  | none =>
    let r := b.insert d T.l2 reqGleaner img
    if r.status == S.ok then
      ((r.blk.count (R.TBL_GLN_LEARNS d) 1).pmc (.tbl d) 0x05 1 1).glEvent d 1 T.l2 0xFF port r.res img
    else (r.blk.count (R.TBL_GLN_LEARN_FAIL d) 1).glEvent d 4 T.l2 0xFF port 0 img

/-- The engine takes the oldest item of the Gleaner queue of die d. -/
def Block.glTake (b : Block) (d : Nat) : Block :=
  (b.served d true).modEngine d fun e => { e with glQueue := e.glQueue.tail }

/-- GLEANER_COMMIT (R218, R219): the oldest item of the Gleaner queue is a candidate, and it is the Gleaner's turn. -/
def Block.gleanerCommit (d : Nat) (b : Block) : Block :=
  match (b.engine d).glQueue with
  | .cand key port :: _ => if b.glTurn d then (b.glTake d).learn d key port else b
  | .removal _ _ _ :: _ | [] => b

/-- Whether an entry's kind is aged (Table 7-2). -/
def Block.aged (b : Block) (d kind : Nat) : Bool :=
  let a := R.TBL_GLN_AGE_CFG d
  match kind with
  | 2 => b.flag a F.TBL_GLN_AGE_CFG_L2_EN
  | 3 | 4 => b.flag a F.TBL_GLN_AGE_CFG_TUN_EN
  | 5 | 6 => b.flag a F.TBL_GLN_AGE_CFG_HOST_EN
  | _ => false

/-- AGE_QUANTUM (R222, R223): the age clock advances, and a sweep pass starts or is due. -/
def Block.ageQuantum (d : Nat) (b : Block) : Block :=
  let e := b.engine d
  if b.frozen d || e.quantumTicks < e.quantum * oneMs then b
  else
    let q := b.fld (R.TBL_GLN_QUANTUM d) F.TBL_GLN_QUANTUM_QUANTUM
    b.modEngine d fun e => { e with clock := e.clock + 1, quantumTicks := e.quantumTicks - e.quantum * oneMs, quantum := q,
                                    sweepDue := e.sweeping, sweeping := true }

/-- What the sweep does with an entry: an age of 32,768 or more is set to exactly that. -/
def Engine.sweepStamp (e : Engine) (x : EmEntry) : EmEntry :=
  if e.age x < 32768 then x
  else { x with stamp0 := (e.clock + 32768) % 65536, stamp1 := (e.clock + 32768) % 65536 }

/-- SWEEP_PASS_END (R223): the pass has read every slot; old entries of an aged kind are queued for removal, once each, in the Gleaner
queue. DESIGN CHOICE (assumption 48): a removal that finds the queue's 4,096 places taken is left to the next pass and counts nowhere. -/
def Block.sweepEnd (d : Nat) (b : Block) : Block :=
  let e := b.engine d
  if b.frozen d || !e.sweeping then b
  else
    let limit := b.fld (R.TBL_GLN_AGE_CFG d) F.TBL_GLN_AGE_CFG_LIMIT
    let old := (e.em.filter fun x => b.aged d x.2.kind && e.age x.2 ≥ limit).map fun x =>
      GlItem.removal (kindTable x.2.kind) (kindTwo x.2.kind) x.2.key
    let new := (old.filter fun r => !e.glQueue.contains r).take (4096 - e.glQueue.length)
    b.modEngine d fun e => { e with em := e.em.map fun x => (x.1, e.sweepStamp x.2), glQueue := e.glQueue ++ new,
                                    sweeping := e.sweepDue, sweepDue := false }

/-- The removal of a key (R224): its age is read again in the same operation; one that a hit has brought below LIMIT is saved. -/
def Block.remove (b : Block) (d table : Nat) (two : Bool) (key : Nat) : Block :=
  match b.emFind d table two key with
  | none => b
  | some (s, x) =>
    if (b.engine d).age x < b.fld (R.TBL_GLN_AGE_CFG d) F.TBL_GLN_AGE_CFG_LIMIT then b.count (R.TBL_GLN_AGE_SAVED d) 1
    else
      let b := b.modEngine d fun e => { e with em := SMap.del e.em s }
      ((b.count (R.TBL_GLN_AGED d) 1).pmc (.tbl d) 0x05 3 1).glEvent d 3 table 0xFF 0xFF s x.image

/-- GLEANER_REMOVAL (R224): the oldest item of the Gleaner queue is a removal, and it is the Gleaner's turn. -/
def Block.gleanerRemoval (d : Nat) (b : Block) : Block :=
  match (b.engine d).glQueue with
  | .removal table two key :: _ => if b.glTurn d then (b.glTake d).remove d table two key else b
  | .cand _ _ :: _ | [] => b

/-! ## Winnow (R226 to R229, R238) -/

/-- The table that Winnow compares, its shadow entries and the entry it stands at. -/
def Block.winTable (b : Block) (d : Nat) : Nat := b.fld (R.TBL_WIN_CFG d) F.TBL_WIN_CFG_TABLE
def Block.winCount (b : Block) (d : Nat) : Nat := b.fld (R.TBL_WIN_COUNT d) F.TBL_WIN_COUNT_V
def Block.winPos (b : Block) (d : Nat) : Nat := b.fld (R.TBL_WIN_STATUS d) F.TBL_WIN_STATUS_POSITION

/-- A disagreement (Table 7-24): its table, cause, copy, index, position and the two images. -/
structure WinDiff where
  table : Nat
  cause : Nat
  copy : Nat := 0
  index : Nat := 0
  pos : Nat
  device : Vec
  shadow : Vec

/-- Takes the fields that hardware updates out of an image of table t. -/
def winMask (t : Nat) (v : Vec) : Vec :=
  if t == T.policer then (v.set 5 0).set 6 0 else if t == T.sampler then v.set 2 0 else v

/-- The device index that shadow entry i of a direct table stands for (R258). -/
def winIndex (t i : Nat) : Nat :=
  if t == T.ecmp then (if i < 16384 then i else 2 ^ 19 + (i - 16384))
  else if t == T.mcast then (if i < 65536 then i else 2 ^ 19 + (i - 65536))
  else i

/-- The disagreements of shadow entry i by index, over the clusters of `mask`. -/
def Block.winByIndex (b : Block) (d t mask i : Nat) (sh : Vec) : List WinDiff :=
  let e := b.engine d
  if t == T.lpm || t == T.aclOut || t == T.aclIn then
    let p := i / 4
    let part (c : Nat) : Vec := (e.assoc t c p).part (i % 4)
    let cs := if t == T.aclIn then (List.range 8).filter (bitOf mask) else [0]
    match cs with
    | [] => []
    | c :: rest =>
      (if part c == sh then [] else [{ table := t, cause := 1, index := p, pos := i, device := part c, shadow := sh }])
        ++ (rest.filter fun x => part x != part c).map fun x =>
          { table := t, cause := 4, copy := x, index := p, pos := i, device := part x, shadow := part c }
  else
    let k := winIndex t i
    let dev := winMask t (e.direct.find? (fun x => x.1 == t * 2 ^ 20 + k) |>.map (·.2) |>.getD [])
    if dev == winMask t sh then [] else [{ table := t, cause := 1, index := k, pos := i, device := dev, shadow := sh }]

/-- The disagreement of shadow entry i of an exact-match table. -/
def Block.winByKey (b : Block) (d t i : Nat) (sh : Vec) : List WinDiff :=
  match b.emFind d t (kindTwo (imgKind sh)) (imgKey sh) with
  | some (s, x) =>
    if x.image == firstWords 8 sh then []
    else [{ table := t, cause := 1, index := s, pos := i, device := x.image, shadow := sh }]
  | none => [{ table := t, cause := 2, pos := i, device := [], shadow := sh }]

/-- The number of software-owned entries of table t on die d, against a count of n. -/
def Block.winCounts (b : Block) (d t n : Nat) : List WinDiff :=
  let have_ := ((b.engine d).em.filter fun x => kindTable x.2.kind == t && x.2.owned).length
  if !(1 ≤ t && t ≤ 3) || have_ == n then []
  else [{ table := t, cause := 3, index := have_, pos := n, device := [], shadow := [] }]

/-- The disagreements of shadow entry i of table t. -/
def Block.winDiffs (b : Block) (d t mask i : Nat) (sh : Vec) : List WinDiff :=
  if 1 ≤ t && t ≤ 3 then b.winByKey d t i sh else b.winByIndex d t mask i sh

/-- The clusters that Winnow compares. -/
def Block.winClusters (b : Block) (d : Nat) : Nat := b.fld (R.TBL_WIN_CFG d) F.TBL_WIN_CFG_CLUSTER_MASK

/-- Notes each disagreement, to be looked at again (R227). -/
def Block.winNote (b : Block) (d : Nat) (ds : List WinDiff) : Block :=
  if ds.isEmpty then b
  else b.modEngine d fun e => { e with rechecks := e.rechecks ++ ds.map fun x =>
    ⟨x.table, b.winClusters d, x.pos, x.cause, x.copy, b.ticks⟩ }

/-- Of the second reading, what is still there of a disagreement: the same cause, of the same copy of the same table (R227). -/
def Block.winAgain (b : Block) (d : Nat) (r : Recheck) (sh : Vec) : List WinDiff :=
  if r.cause == 3 then b.winCounts d r.table r.pos
  else (b.winDiffs d r.table r.mask r.pos sh).filter fun x => x.cause == r.cause && x.copy == r.copy

/-- A pass has compared its last shadow entry (R226, R229). -/
def Block.winPassEnd (b : Block) (d : Nat) : Block :=
  let b := (b.winNote d (b.winCounts d (b.winTable d) (b.winCount d))).count (R.TBL_WIN_PASSES d) 1
  if b.flag (R.TBL_WIN_CTRL d) F.TBL_WIN_CTRL_CONTINUOUS then b.setFld (R.TBL_WIN_STATUS d) F.TBL_WIN_STATUS_POSITION 0
  else b.lower (R.TBL_WIN_STATUS d) F.TBL_WIN_STATUS_BUSY

def Block.winBusy (b : Block) (d : Nat) : Bool := b.flag (R.TBL_WIN_STATUS d) F.TBL_WIN_STATUS_BUSY

/-- WINNOW_STOP, a write of WIN_CTRL (R229): the pass ends at its present entry. -/
def Block.winnowStop (w : Writer) (d v : Nat) (b : Block) : Block :=
  let b := b.storeReg w (R.TBL_WIN_CTRL d) v
  if F.TBL_WIN_CTRL_STOP.of v == 1 then b.lower (R.TBL_WIN_STATUS d) F.TBL_WIN_STATUS_BUSY else b

/-- WINNOW_START, a write of WIN_CTRL (R229). -/
def Block.winnowStart (w : Writer) (d v : Nat) (b : Block) : Block :=
  let t := b.winTable d
  if F.TBL_WIN_CTRL_START.of v == 0 then b.winnowStop w d v
  else if b.winBusy d || t == T.counter || t == T.frag || t ≥ 16 then b.refuse w (R.TBL_WIN_CTRL d)
  else
    let b := (b.setFld (R.TBL_WIN_STATUS d) F.TBL_WIN_STATUS_POSITION 0).raise (R.TBL_WIN_STATUS d) F.TBL_WIN_STATUS_BUSY
    (b.setWord (R.TBL_WIN_LOG_HEAD d) 0).winnowStop w d v

/-- WINNOW_COMPARE (R226): the shadow entry at POSITION has been read, 64 bytes. -/
def Block.winnowCompare (d : Nat) (raw : List Byte) (b : Block) : Block :=
  if !b.winBusy d then b
  else
    let i := b.winPos d
    if i ≥ b.winCount d then b.winPassEnd d
    else
      let sh := Vec.ofList ((List.range 16).map fun j => leVal (slice raw (4 * j) (4 * j + 4)))
      b.withRead 0 (.winRead d) fun b =>
      let b := ((b.dmaRead 0 64).winNote d (b.winDiffs d (b.winTable d) (b.winClusters d) i sh)).pmc (.tbl d) 0x06 0xFFF 1
      let b := b.setFld (R.TBL_WIN_STATUS d) F.TBL_WIN_STATUS_POSITION (i + 1)
      if i + 1 ≥ b.winCount d then b.winPassEnd d else b

/-- The log record of a disagreement (Table 7-24). -/
def Block.winRecord (b : Block) (d : Nat) (x : WinDiff) : List Byte :=
  let t := b.stampNow
  leBytes 1 x.table ++ leBytes 1 x.cause ++ leBytes 1 x.copy ++ zeros 1 ++ leBytes 4 x.index ++ leBytes 4 x.pos
    ++ leBytes 4 (b.engine d).winSeq ++ leBytes 4 t.ns ++ leBytes 4 t.s ++ zeros 8 ++ vecBytes x.device 16 ++ vecBytes x.shadow 16

/-- Reports a disagreement that persists (R228). -/
def Block.winReport (b : Block) (d : Nat) (x : WinDiff) : Block :=
  let size := b.fld (R.TBL_WIN_LOG_SIZE d) F.TBL_WIN_LOG_SIZE_V
  let head := b.word (R.TBL_WIN_LOG_HEAD d)
  let log := b.word (R.TBL_WIN_LOG_HI d) * 2 ^ 32 + b.word (R.TBL_WIN_LOG_LO d)
  let b := (b.pushJob 0 .winnow [(log + head % size * 160, b.winRecord d x)]).setWord (R.TBL_WIN_LOG_HEAD d) (head + 1)
  let b := if head + 1 > size then b.raise (R.TBL_WIN_STATUS d) F.TBL_WIN_STATUS_LOG_WRAP else b
  let b := (b.count (R.TBL_WIN_MISMATCHES d) 1).modEngine d fun e => { e with winSeq := e.winSeq + 1 }
  let recent := (b.engine d).winMsgs.filter fun t => b.ticks - t < 1000 * oneMs
  if recent.length ≥ 1000 then b
  else (b.sendAs 7 d (if x.cause == 4 then 0x34 else 0x33) (x.table * 2 ^ 28 + x.index) reqWinnow 0).modEngine d fun e =>
    { e with winMsgs := recent ++ [b.ticks] }

/-- Whether WIN_RECHECK µs have passed since a disagreement was noted. -/
def Block.recheckDue (b : Block) (d : Nat) (r : Recheck) : Bool :=
  b.fld (R.TBL_WIN_RECHECK d) F.TBL_WIN_RECHECK_V * 1000 ≤ b.ticks - r.at_

/-- WINNOW_RECHECK (R227, R228): WIN_RECHECK µs after a disagreement both are read again, and what persists is reported. -/
def Block.winnowRecheck (d : Nat) (raw : List Byte) (b : Block) : Block :=
  match (b.engine d).rechecks with
  | [] => b
  | r :: rest =>
    if !b.recheckDue d r then b
    else
      let sh := Vec.ofList ((List.range 16).map fun j => leVal (slice raw (4 * j) (4 * j + 4)))
      b.withRead 0 (.winRead d) fun b =>
      let b := (b.modEngine d fun e => { e with rechecks := rest }).dmaRead 0 64
      (b.winAgain d r sh).foldl (fun b x => b.winReport d x) b

/-- A shadow read of table t at position i has failed (R228). -/
def Block.winFailed (b : Block) (d t i : Nat) : Block :=
  let b := (b.lower (R.TBL_WIN_STATUS d) F.TBL_WIN_STATUS_BUSY).raise (R.TBL_WIN_STATUS d) F.TBL_WIN_STATUS_DMA_ERR
  (b.dmaFailed 0).sendAs 7 d 0x35 (t * 2 ^ 28 + i) reqWinnow 4

/-- WINNOW_DMA (R228): a shadow read fails: the pass's, which it ends; with no pass running, that of the oldest disagreement that is
due, which is looked at no longer (assumption 112). -/
def Block.winnowDma (d : Nat) (b : Block) : Block :=
  if b.winBusy d then b.withRead 0 (.winRead d) fun b => b.winFailed d (b.winTable d) (b.winPos d)
  else match (b.engine d).rechecks with
    | [] => b
    | r :: rest =>
      if b.recheckDue d r then
        b.withRead 0 (.winRead d) fun b => (b.modEngine d fun e => { e with rechecks := rest }).winFailed d r.table r.pos
      else b

end Sys2Proof.Machine
end

