-- ==== Sys2Proof/Machine/Link.lean ====
section
/-!
DEFINITION. Machine/Link.lean: errors found after a frame's head has left, generated control frames on the wire, link loss,
enabling and disabling a port, and the maintenance states (spec/03, R88 to R91, R93, R101, R111, R116 to R119).
-/
namespace Sys2Proof.Machine
open Sys2Proof

/-! ## Bad frames after the head has left (R93, R111) -/

def Transit.markBad (i : Nat) (t : Transit) : Transit := if t.pkt.id == i then { t with pkt := t.pkt.markBad } else t

/-- Marks the tail of frame i bad wherever it has come. -/
def Block.markBad (b : Block) (i : Nat) : Block :=
  let b := { b with fifos := b.fifos.map fun x => (x.1, x.2.map (Transit.markBad i)) }
  if (SMap.find b.frames i).isNone then b
  else b.modFrame i fun f => { f with late := none, bad := true }

/-- The MAC of port p finds the error of frame i, which counts at `own` too; a frame still in staging is dropped there
(R93). -/
def Block.foundBad (b : Block) (p i own : Nat) : Block :=
  let b := b.modPort p fun x => { x with late := x.late.filter fun e => e.1 != i }
  let b := b.count own 1
  let f := b.frame i
  if (SMap.find b.frames i).isSome && f.loc == .staging then
    let before := b.stgFill p
    (b.dropFrame i).stgWatch p before
  else (b.count (R.MAC_RX_BAD_AFTER_HEAD p) 1).markBad i

/-- RX_BAD_AFTER_HEAD (R111). -/
def Block.rxBadAfterHead (p : Nat) (b : Block) : Block :=
  match (b.port p).late with
  | (i, e) :: _ => b.foundBad p i (rxErrCounter p e)
  | [] => b

/-! ## Generated frames (R101) -/

/-- PAUSE_FRAME_SEND: at a frame boundary of port p, or over a preemptable frame that has sent `cut` bytes (R118), the MAC sends the
next generated frame. While a frame is preempted in SERVICE it waits for that one's end (R119). -/
def Block.pauseFrameSend (p cut : Nat) (b : Block) : Block :=
  let may := b.mayEnter p cut && ((b.txAt p .preempted).isNone || b.mayPreempt p)
  match (b.port p).ctrl with
  | f :: r =>
    if !may || !b.receives p then b
    else
      let b := (b.cutAt p cut).modPort p fun x => { x with ctrl := r, ctrlAt := some b.ticks }
      let b := (b.wireOut p f).count (if beAt f 14 2 == 1 then R.MAC_TX_PAUSE_FRAMES p else R.MAC_TX_PFC_FRAMES p) 1
      b.afterTx p
  | [] => b

/-! ## Link loss (R90) -/

/-- The frame on the wire, and one preempted, end at once; they are gone. -/
def Block.cutTx (b : Block) (p : Nat) : Block := ((b.endTx p .sending).endTx p .preempted)

/-- With flush, the copies already picked are discarded (R90, R326). -/
def Block.flushTx (b : Block) (p : Nat) : Block :=
  let G := rgnOfPort p
  let l := (b.port p).tx.filter fun c => c.stage.waits
  let b := b.modTx p fun t => t.filter fun c => !c.stage.waits
  l.foldl (fun b c => (b.count (R.MAC_TX_LINKDOWN_DROP p) 1).releasePtr G c.sid) b

/-- A frame in reception is cut off: one whose head has left is bad, and counts as truncated. -/
def Block.cutRx (b : Block) (p : Nat) (cut : Bool) : Block :=
  if !cut then b
  else match (b.port p).late with
    | (i, _) :: _ => b.foundBad p i (R.MAC_RX_LINKDOWN_TRUNC p)
    | [] => b.count (R.MAC_RX_LINKDOWN_TRUNC p) 1

/-- Whether port p is receiving a frame whose head has left staging: of others the commands bring whole frames only. -/
def Block.receiving (b : Block) (p : Nat) : Bool := !(b.port p).late.isEmpty

/-- The link of port p goes down; `now`: the frame in transmission ends at once (a disabled port finishes it, R89). -/
def Block.linkLoss (b : Block) (p : Nat) (now cut : Bool) : Block :=
  if !b.flag (R.MAC_LINK_STATUS p) F.MAC_LINK_STATUS_LINK_UP then b
  else
    let b := b.lower (R.MAC_LINK_STATUS p) F.MAC_LINK_STATUS_LINK_UP
    let b := b.raising 2 fun b => b.raise (R.MAC_LINK_EVENTS p) F.MAC_LINK_EVENTS_LINK_DOWN_SEEN
    let b := (b.count (R.MAC_LINK_DOWN_EVENTS p) 1).send 0xD p 0x18 0
    let b := b.cutRx p cut
    let b := if now then b.cutTx p else b
    let b := b.clearPause p
    if b.flushing p then b.flushTx p else b

/-- What the cause of a link loss leaves in the status of the port and its lanes. -/
def Block.downStatus (b : Block) (p : Nat) (c : DownCause) : Block :=
  let a := R.MAC_LINK_STATUS p
  match c with
  | .lanes m => ((b.darkLanes p (m.toNat &&& b.lanesUsed p)).lower a F.MAC_LINK_STATUS_ALIGN_LOCK).localFault p true
  | .align => (b.lower a F.MAC_LINK_STATUS_ALIGN_LOCK).localFault p true
  | .pcsFault => b.localFault p true
  | .remote => b.raise a F.MAC_LINK_STATUS_REMOTE_FAULT

/-- After a loss of the link: CR and KR restart bring-up from negotiation (R90); a C2M receiver goes on adapting (R83). -/
def Block.restart (b : Block) (p : Nat) : Block :=
  if b.mediaC2m p then b.modPort p fun x => { x with bring := .adapting } else b.bringUp p

/-- LINK_DOWN (R90): one of the four conditions stops holding; `cut`: a frame was in reception. -/
def Block.linkDownRow (p : Nat) (c : DownCause) (cut : Bool) (b : Block) : Block :=
  if !b.flag (R.MAC_LINK_STATUS p) F.MAC_LINK_STATUS_LINK_UP then b
  else ((b.downStatus p c).linkLoss p true cut).restart p

/-! ## PORT_CFG and PORT_STATE (R88, R89, R116, R119) -/

/-- The unit's lanes that SPEED does not use ignore their inputs (R85), and what is not enabled counts as complete (Table 3-6). -/
def Block.portIdle (b : Block) (p : Nat) : Block := (b.darkLanes p (15 - b.lanesUsed p)).negStatus p

/-- The receivers and transmitters of port p stop: no lane has a signal, and the PCS no lock. -/
def Block.portDark (b : Block) (p : Nat) : Block :=
  let s := R.MAC_LINK_STATUS p
  (((b.darkLanes p 15).lower s F.MAC_LINK_STATUS_ALIGN_LOCK).raise s F.MAC_LINK_STATUS_LOCAL_FAULT).modPort p fun x =>
    { x with bring := .down }

/-- A write of PORT_CFG, whichever way it takes ENABLE. -/
def Block.portCfgWrite (w : Writer) (p v : Nat) (b : Block) : Block :=
  let a := R.MAC_PORT_CFG p
  if !portCfgOk (b.word a) v then b.refuse w a
  else
    let was := b.flag a F.MAC_PORT_CFG_ENABLE
    let b := b.storeReg w a v
    let is := b.flag a F.MAC_PORT_CFG_ENABLE
    if is && !was then b.bringUp p
    else if was && !is then ((b.linkLoss p false (b.receiving p)).portDark p).portIdle p
    else if !is then
      let b := b.portIdle p
      if b.flushing p then b.flushTx p else b
    else b

/-- PORT_ENABLE (R89): a write of PORT_CFG that sets ENABLE. -/
def Block.portEnable (w : Writer) (p v : Nat) (b : Block) : Block := b.portCfgWrite w p (F.MAC_PORT_CFG_ENABLE.put v 1)

/-- PORT_DISABLE (R89): a write of PORT_CFG that clears ENABLE. -/
def Block.portDisable (w : Writer) (p v : Nat) (b : Block) : Block := b.portCfgWrite w p (F.MAC_PORT_CFG_ENABLE.put v 0)

/-- PORT_STATE_WRITE (R116, R117, R119). -/
def Block.portStateWrite (w : Writer) (p v : Nat) (b : Block) : Block :=
  let a := R.MAC_PORT_STATE p
  if !portStateOk v then b.refuse w a
  else
    let lb := b.fld a F.MAC_PORT_STATE_LB_MODE
    let b := b.storeReg w a v
    let b := if b.fld a F.MAC_PORT_STATE_LB_MODE != lb then (b.linkLoss p true (b.receiving p)).bringUp p else b
    b.preemptCheck p

end Sys2Proof.Machine
end

