-- ==== Sys2Proof/Machine/Time.lean ====
section
/-!
DEFINITION. Machine/Time.lean: the two time bases: arming, steps, rates, the loss of their clock, switching the active base,
and reading the time (spec/12).
-/
namespace Sys2Proof.Machine
open Sys2Proof

/-! ## Switching a port (R360 to R362) -/

/-- The first cycle start of the operating list of port p at or after instant v. -/
def Block.cycleFrom (b : Block) (p v : Nat) : Nat :=
  let l := b.operList p
  if l.cycleOf v == v then v else l.cycleOf v + l.cycle

/-- Port p has come to another base at its switch point: its list starts at the first cycle start on that base; until then the
last entry runs on, or the fallback where the list did not run (R361). A change that waits takes its change time there. -/
def Block.rebaseGate (b : Block) (p : Nat) : Block :=
  let v := b.portNs p
  let h := b.cycleFrom p v
  let stepped := (b.tbase (b.portBase p)).state == .stepped
  let b := b.modPort p fun x =>
    if !stepped then
      { x with gate := { x.gate with run := false, changeAt := none, resumeAt := none, holdTill := none } }
    else if x.gate.run then
      { x with gate := { x.gate with entryAt := min v (h - 1), changeAt := none, resumeAt := none, holdTill := some h } }
    else { x with gate := { x.gate with changeAt := none, resumeAt := some h, holdTill := none } }
  if b.flag (R.PRT_GATE_STATUS p) F.PRT_GATE_STATUS_PENDING then b.planChange p else b

/-- Every port has switched: the target becomes the active base (R360). -/
def Block.switchEnd (b : Block) : Block :=
  if (List.range 256).all fun p => (b.port p).onTarget then
    let a := R.TIM_ACTIVE_STATUS
    let t := b.fld a F.TIM_ACTIVE_STATUS_TARGET
    let b := b.each 256 fun b p => b.modPort p fun x => { x with onTarget := false, switchAt := none }
    ((b.setFld a F.TIM_ACTIVE_STATUS_ACTIVE t).lower a F.TIM_ACTIVE_STATUS_PENDING).send 1 0xFFF 0x52 0
  else b

/-- PORT_SWITCH (R360, R361): at the end of the cycle in progress as counted on the old base where port p's list ran, else
2 µs after the request. -/
def Block.portSwitch (p : Nat) (b : Block) : Block :=
  let ready := match (b.port p).switchAt with
    | some e => if b.gateRuns p then decide (b.portNs p ≥ e) else decide (b.ticks ≥ b.switchTick + 2000)
    | none => decide (b.ticks ≥ b.switchTick + 2000)
  if !b.switching || (b.port p).onTarget || !ready then b
  else ((b.modPort p fun x => { x with onTarget := true }).rebaseGate p).switchEnd

/-- BASE_SWITCH_REQUEST, a write of TIM.ACTIVE (R360). -/
def Block.switchRequest (w : Writer) (v : Nat) (b : Block) : Block :=
  let t := 1 - b.active
  if F.TIM_ACTIVE_SWITCH.of v == 0 then b
  else if b.switching || (b.tbase t).state != .stepped then b.refuse w R.TIM_ACTIVE
  else
    let b := (b.setFld R.TIM_ACTIVE_STATUS F.TIM_ACTIVE_STATUS_TARGET t).raise R.TIM_ACTIVE_STATUS
      F.TIM_ACTIVE_STATUS_PENDING
    let b := { b with switchTick := b.ticks }
    b.each 256 fun b p =>
      if b.gateOn p && b.gateRuns p then b.modPort p fun x => { x with switchAt := some (b.cycleEnd p) } else b

/-- A pending switch is cancelled: the ports that have switched return to the old base at once (R362). -/
def Block.switchCancel (b : Block) : Block :=
  let a := R.TIM_ACTIVE_STATUS
  let b := b.each 256 fun b p =>
    let moved := (b.port p).onTarget
    let b := b.modPort p fun x => { x with onTarget := false, switchAt := none }
    if moved then b.rebaseGate p else b
  (b.lower a F.TIM_ACTIVE_STATUS_PENDING).raise a F.TIM_ACTIVE_STATUS_CANCELLED

/-- The old base is armed again while a switch is pending: the ports still on it switch at once, and their lists start at a
cycle start at least 2 µs on (R362). -/
def Block.switchHurry (b : Block) : Block :=
  (b.each 256 fun b p =>
    if (b.port p).onTarget then b
    else
      let b := b.modPort p fun x => { x with onTarget := true }
      let h := b.cycleFrom p (b.portNs p + 2000)
      let b := b.modPort p fun x =>
        { x with gate := { x.gate with run := false, changeAt := none, resumeAt := some h, holdTill := none } }
      (if b.flag (R.PRT_GATE_STATUS p) F.PRT_GATE_STATUS_PENDING then b.planChange p else b).gateFallback p).switchEnd

/-! ## Arming and steps (R356, R357, R359) -/

/-- The ports on base i. -/
def Block.eachPortOn (b : Block) (i : Nat) (f : Block → Nat → Block) : Block :=
  b.each 256 fun c p => if b.portBase p == i then f c p else c

/-- A base that ran is ARMED, or has lost its time: a pending switch that it takes part in is settled, and the gates on it
stop (R345, R359, R362). -/
def Block.baseStops (b : Block) (i : Nat) : Block :=
  if b.switching then
    if i == b.fld R.TIM_ACTIVE_STATUS F.TIM_ACTIVE_STATUS_TARGET then b.switchCancel else b.switchHurry
  else b.eachPortOn i fun b p => b.gateStop p

/-- An ARM (R356) takes effect at its write; while a switch is pending it does so whatever the base's state was (R362). -/
def Block.arm (b : Block) (i : Nat) : Block :=
  let was := (b.tbase i).state
  let b := b.modBase i fun t => { t with state := .armed }
  if was == .stepped || b.switching then b.baseStops i else b

/-- A STEP's values as they stand at its write, and its step instant (R357). -/
def Block.planStep (b : Block) (i : Nat) : Block :=
  let s := b.word (R.TIM_STEP_S_HI i) % 65536 * 2 ^ 32 + b.word (R.TIM_STEP_S_LO i)
  b.modBase i fun t => { t with steps := t.steps ++
    [⟨b.ticks + 100, b.flag (R.TIM_STEP_MODE i) F.TIM_STEP_MODE_M, s, b.fld (R.TIM_STEP_NS i) F.TIM_STEP_NS_V⟩] }

/-- A write of BASE_CTRL[i], whose two bits act together (R356). -/
def Block.baseCtrl (i v : Nat) (b : Block) : Block :=
  let b := if F.TIM_BASE_CTRL_ARM.of v == 1 then b.arm i else b
  if F.TIM_BASE_CTRL_STEP.of v == 1 then b.planStep i else b

/-- TIME_ARM. -/
def Block.timeArm (i v : Nat) (b : Block) : Block := if F.TIM_BASE_CTRL_ARM.of v == 0 then b else b.baseCtrl i v

/-- TIME_STEP_REQUEST. -/
def Block.timeStepRequest (i v : Nat) (b : Block) : Block := if F.TIM_BASE_CTRL_STEP.of v == 0 then b else b.baseCtrl i v

/-- The value a step gives: seconds, nanoseconds and fraction; none: it is refused (R357). -/
def TimeBase.stepTo (t : TimeBase) (x : PendStep) : Option (Nat × Nat × Nat) :=
  if x.ns > 999999999 then none
  else if x.add then
    let n : Int := (t.s * 1000000000 + t.ns : Nat) + signed 48 x.s * 1000000000 + x.ns
    if n < 0 || n ≥ (2 ^ 48 * 1000000000 : Nat) then none
    else some (n.toNat / 1000000000, n.toNat % 1000000000, t.frac)
  else some (x.s, x.ns, 0)

/-- A step of base i is refused (R356, R357). -/
def Block.stepRefused (b : Block) (i : Nat) (f : Bf) : Block := (b.raise (R.TIM_BASE_STATUS i) f).send 1 i 0x51 0

/-- TIME_STEP (R356, R357): the oldest step of base i has come to its step instant. -/
def Block.timeStep (i : Nat) (b : Block) : Block :=
  match (b.tbase i).steps with
  | [] => b
  | x :: rest =>
    if b.ticks < x.at_ then b
    else
      let b := b.modBase i fun t => { t with steps := rest }
      if (b.tbase i).state != .armed then b.stepRefused i F.TIM_BASE_STATUS_STEP_REFUSED
      else match (b.tbase i).stepTo x with
        | none => b.stepRefused i F.TIM_BASE_STATUS_STEP_ERR
        | some (s, ns, fr) =>
          let b := b.modBase i fun t => { t with s := s, ns := ns, frac := fr, state := .stepped }
          let b := b.raising 5 fun b => b.raise (R.TIM_BASE_STATUS i) F.TIM_BASE_STATUS_STEPPED_SEEN
          (b.send 1 i 0x50 0).eachPortOn i fun b p => b.gateResume p

/-- RATE_WRITE, a write of RATE_HI (R353, R358): commits the 40-bit rate. -/
def Block.rateWrite (w : Writer) (i v : Nat) (b : Block) : Block :=
  let b := b.storeReg w (R.TIM_RATE_HI i) v
  let r := signed 40 (b.fld (R.TIM_RATE_HI i) F.TIM_RATE_HI_V * 2 ^ 32 + b.word (R.TIM_RATE_LO i))
  b.modBase i fun t => { t with rateNext := some r }

/-! ## One reference tick (R352, R353, R358) -/

/-- The base's advance at a tick, in 2^-48 ns. -/
def TimeBase.forward (t : TimeBase) : TimeBase :=
  let adv := ((2 ^ 48 : Nat) + t.rate).toNat
  let fr := t.frac + adv
  let ns := t.ns + fr / 2 ^ 48
  { t with frac := fr % 2 ^ 48, ns := ns % 1000000000, s := (t.s + ns / 1000000000) % 2 ^ 48, advance := t.advance + adv }

/-- Whether a step takes effect at tick number `now`: it is due, the base is ARMED, and its value is not refused (R357). -/
def TimeBase.stepsAt (t : TimeBase) (now : Nat) : Bool :=
  t.state == .armed && t.steps.any fun x => x.at_ == now && (t.forward.stepTo x).isSome

/-- Tick number `now` of a base: a committed rate counts from it, or, where a step takes effect at it too, from the next one. -/
def TimeBase.tick (t : TimeBase) (now : Nat) : TimeBase :=
  match t.rateNext with
  | none => t.forward
  | some r =>
    if t.stepsAt now then { t.forward with rate := r, rateNext := none }
    else { t with rate := r, rateNext := none }.forward

/-! ## The clock (R355, R370) -/

/-- TIME_REFCLK: 100 ns have passed without an edge. -/
def Block.refclkLost (b : Block) : Block :=
  if b.refLost then b
  else
    let b := { b with refLost := true }
    ((b.raise R.TIM_REF_STATUS F.TIM_REF_STATUS_REFCLK_LOST).lower R.TIM_REF_STATUS F.TIM_REF_STATUS_REFCLK_OK).send 1 0xFFF
      0x53 0

/-- TIME_REFCLK_RELOCK: the clock is back and the islands have relocked; both bases are UNARMED at 0. -/
def Block.refclkRelock (b : Block) : Block :=
  if !b.refLost then b
  else
    let b := { b with refLost := false }
    let b := b.raise R.TIM_REF_STATUS F.TIM_REF_STATUS_REFCLK_OK
    let b := b.each 2 fun b i => b.modBase i fun t => { t with s := 0, ns := 0, frac := 0, state := .unarmed }
    let b := if b.switching then b.switchCancel else b
    b.each 256 fun b p => b.gateStop p

/-! ## Capture (R369) -/

def BaseState.code : BaseState → Nat
  | .unarmed => 0 | .armed => 1 | .stepped => 2

/-- TIME_CAPTURE, a write of TIM.CAPTURE. -/
def Block.timeCapture (v : Nat) (b : Block) : Block :=
  if F.TIM_CAPTURE_CAPTURE.of v == 0 then b
  else
    let b := b.each 2 fun b i =>
      let t := b.tbase i
      ((b.setWord (R.TIM_CAP_NS i) (t.state.code * 2 ^ 30 + t.ns)).setWord (R.TIM_CAP_S_LO i) (t.s % 2 ^ 32)).setWord
        (R.TIM_CAP_S_HI i) (t.s / 2 ^ 32)
    (b.setWord R.TIM_CAP_REF_LO (b.ticks % 2 ^ 32)).setWord R.TIM_CAP_REF_HI (b.ticks / 2 ^ 32)

end Sys2Proof.Machine
end

