-- ==== Sys2Proof/Machine/Host.lean ====
section
/-!
DEFINITION. Machine/Host.lean: rings, transmit and receive frames, buffer pools, interrupts and mailboxes (spec/13, R380, R381,
R385 to R400).
-/
namespace Sys2Proof.Machine
open Sys2Proof

/-! ## Writes to an instance's layout (R379) -/

/-- A write that instance i makes to its layout: discarded while it resets. -/
def Block.layWrite (b : Block) (i : Nat) (f : Block → Block) : Block := if b.resetting i then b else f b

/-- A write to a ring, pool or vector that is not instance i's, at layout address a (R379). -/
def Block.notMine (b : Block) (i a : Nat) : Block := b.accessFault i 1 true (viewOff a)

/-! ## Transmit (R386 to R390) -/

/-- Table 13-6. -/
def txOk : Nat := 0
def txHeld : Nat := 1
def txDenied : Nat := 2
def txBadDesc : Nat := 3
def txTimeout : Nat := 4
def txDmaErr : Nat := 5

def Block.txEnabled (b : Block) (r : Nat) : Bool := b.flag (R.HIF_TXR_CFG r) F.HIF_TXR_CFG_ENABLE
def Block.rxEnabled (b : Block) (r : Nat) : Bool := b.flag (R.HIF_RXR_CFG r) F.HIF_RXR_CFG_ENABLE

/-- Descriptors of ring r that are available and not fetched. -/
def Block.txAvail (b : Block) (r : Nat) : Nat :=
  let n := b.txSize r
  ((b.txRing r).db + n - (b.txRing r).fetch % n) % n

/-- The bytes that the device writes over a transmit descriptor: STATUS and PHASE (Table 13-5). -/
def txDoneBytes (status phase : Nat) : List Byte := leBytes 1 status ++ leBytes 1 (phase * 128) ++ zeros 14

/-- The counter of a transmit status. -/
def txCounter (i status : Nat) : Nat :=
  if status == txHeld then R.INS_TX_HELD i
  else if status == txTimeout then R.INS_TX_INJECT_TIMEOUT i
  else if status == txDmaErr then R.INS_TX_DMA_ERR i
  else R.INS_TX_DENIED i

/-- The frame in progress on ring r completes: a job writes its descriptors (R386), and the ring is free for its next frame. -/
def Block.txComplete (b : Block) (r status : Nat) : Block :=
  match (b.txRing r).frame, b.txOwner r with
  | some f, some i =>
    let b := if status == txOk then (b.count (R.INS_TX_FRAMES i) 1).count (R.INS_TX_BYTES i) f.bytes.length
      else b.count (txCounter i status) 1
    let b := b.modTxRing r fun x => { x with frame := none, since := b.ticks }
    b.pushJob i (.txDone r f.slots) ((List.range f.slots).map fun k =>
      (b.txSlot r (f.first + k) + 48, txDoneBytes status (phaseOf (b.txSize r) (f.first + k))))
  | _, _ => b

/-- The frames of port p in its injection buffer, and the bytes they take. -/
def Block.injected (b : Block) (p : Nat) : List (Nat × Frame) := b.at_ p .injected
def Block.injectFill (b : Block) (p : Nat) : Nat := ((b.injected p).map fun e => e.2.bytes.length).sum

/-- A host frame as its pipe takes it: padded and with its FCS, as the MAC would have received it. -/
def wholeFrame (l : List Byte) : List Byte := let x := padded l; x ++ fcsOf x

/-- The frame in progress on ring r enters the injection buffer of its port where there is room (R388). -/
def Block.injectTry (b : Block) (r : Nat) : Block :=
  match (b.txRing r).frame with
  | some f =>
    let w := wholeFrame f.bytes
    if f.direct || f.id.isSome || b.injectFill f.port + w.length > 32768 then b
    else
      let i := b.nextFrame
      let b := b.addFrame { port := f.port, bytes := w, loc := .injected, stamp := b.rxStamp f.port,
                            advA := b.baseA.advance, advB := b.baseB.advance, host := some f.host }
      b.modTxRing r fun x => { x with frame := some { f with id := some i } }
  | none => b

/-- Room has come in the injection buffer of port p: the rings that wait for it, in the order they began to. -/
def Block.injectRefill (b : Block) (p : Nat) : Block :=
  let waits := b.txRings.filter fun x => match x.2.frame with
    | some f => f.port == p && !f.direct && f.id.isNone
    | none => false
  let order := waits.foldr (fun x l => l.takeWhile (fun y => y.2.since < x.2.since) ++ [x]
    ++ l.dropWhile (fun y => y.2.since < x.2.since)) []
  order.foldl (fun b x => b.injectTry x.1) b

/-- Removes the frame in progress on ring r from the injection buffer, and completes it. -/
def Block.txRefuse (b : Block) (r status : Nat) : Block :=
  match (b.txRing r).frame with
  | some f =>
    let b := match f.id with
      | some i => b.dropFrame i
      | none => b
    (b.txComplete r status).injectRefill f.port
  | none => b

/-- TX_DOORBELL (R386): instance i writes TXDB of its ring j. A function in D3hot discards it (R374). -/
def Block.txDoorbell (i j v : Nat) (b : Block) : Block :=
  let a := R.LAY_TXDB i j
  match b.ringOf true i j with
  | none => b.notMine i a
  | some r => b.layWrite i fun b =>
    if (b.inst i).d3hot then b
    else if v % 65536 ≥ b.txSize r then b.notMine i a
    else
      let empty := b.txAvail r == 0 && (b.txRing r).frame.isNone
      let b := (b.modTxRing r fun x => { x with db := v % 65536 }).pmc .hif 0x04 i 1
      if empty then b.modTxRing r fun x => { x with since := b.ticks } else b

/-- Byte k of a descriptor, and its little-endian numbers. -/
def leAt (d : List Byte) (k n : Nat) : Nat := leVal (slice d k (k + n))
def descFirst (d : List Byte) : Bool := bitOf (leAt d 10 1) 7
def descLast (d : List Byte) : Bool := bitOf (leAt d 10 1) 6

/-- How many of the descriptors read make up the first frame: up to LAST, or to the next FIRST, or 8; none: its LAST is not
there yet. -/
def frameSlots : Nat → List (List Byte) → Option Nat
  | 8, _ => some 8
  | _, [] => none
  | k, d :: r => if k > 0 && descFirst d then some k else if descLast d then some (k + 1) else frameSlots (k + 1) r

/-- BAD_DESC (Table 13-6) over the descriptors of a frame. -/
def badDesc (ds : List (List Byte)) : Bool :=
  let f := ds.headD []
  let len := fun d => leAt d 8 2
  let total := (ds.map len).sum
  let flags := leAt f 10 1
  !descFirst f || !(ds.getLast?.map descLast).getD false || flags % 16 != 0
    || (ds.any fun d => len d == 0 || len d > 16356) || total < 14 || total > 16356
    || leAt f 14 1 ≥ 3 || leAt f 26 2 != 0 || leAt f 32 16 != 0 || leAt f 28 4 / 2 ^ 18 != 0
    || (bitOf flags 4 && !bitOf flags 5)
    || (ds.drop 1).any fun d => leAt d 10 1 % 64 != 0 || leAt d 11 37 != 0

/-- The enabled window of instance i on table t (R383): its number. -/
def Block.windowOf (b : Block) (i t : Nat) : Option Nat :=
  (List.range 8).find? fun w => b.flag (R.INS_WIN_CFG i w) F.INS_WIN_CFG_EN
    && b.fld (R.INS_WIN_CFG i w) F.INS_WIN_CFG_TABLE == t
def Block.winBase (b : Block) (i w : Nat) : Nat := b.fld (R.INS_WIN_BASE i w) F.INS_WIN_BASE_V
def Block.winSize (b : Block) (i w : Nat) : Nat := b.fld (R.INS_WIN_SIZE i w) F.INS_WIN_SIZE_V
/-- Whether index x of table t lies in instance i's window on it. -/
def Block.inWin (b : Block) (i t x : Nat) : Bool :=
  match b.windowOf i t with
  | some w => b.winBase i w ≤ x && x < b.winBase i w + b.winSize i w
  | none => false
def Block.portPermitted (b : Block) (i p : Nat) : Bool := bitOf (b.word (R.INS_PORT_MASK i (p / 32))) (p % 32)

/-- DENIED (Table 13-6, R382): instance 0 may do everything. -/
def Block.txDenies (b : Block) (i : Nat) (f : List Byte) : Bool :=
  let direct := bitOf (leAt f 10 1) 5
  let cq := leAt f 12 1
  i != 0 && (!b.portPermitted i (leAt f 11 1)
    || (direct && (cq < b.fld (R.INS_CQ_RANGE i) F.INS_CQ_RANGE_LO || cq > b.fld (R.INS_CQ_RANGE i) F.INS_CQ_RANGE_HI))
    || (bitOf (leAt f 10 1) 4 && !b.inWin i T.rewrite (leAt f 28 4 % 2 ^ 18)))

/-- The descriptor that the region builds for a direct frame of n bytes with FCS (R389). -/
def directDesc (f : List Byte) (n : Nat) : Vec :=
  let v : Vec := []
  ((((((((v.put 0 D.fwdKind 3).put 0 D.resolved 1).put 0 D.egPort (leAt f 11 1)).put 0 D.class_ (leAt f 13 1)).put 13
    D.inPort 0xFF).put 13 D.cq (leAt f 12 1)).put 13 D.len n).put 15 ⟨30, 30⟩ 1).put 2 D.rewriteIdx
    (if bitOf (leAt f 10 1) 4 then leAt f 28 4 else 0)

/-- A frame whose descriptors passed the checks; `data`: the bytes of its segments. -/
def txFrameOf (i r first : Nat) (ds : List (List Byte)) (data : List Byte) : TxFrame :=
  let f := ds.headD []
  let bytes := data.take ((ds.map fun d => leAt d 8 2).sum)
  { first := first, slots := ds.length, port := leAt f 11 1, direct := bitOf (leAt f 10 1) 5, bytes := bytes,
    desc := directDesc f (bytes.length + 4),
    host := { inst := i, ring := r, slot := first, op := leAt f 14 1 % 4, offPtp := leAt f 15 1, refS := leAt f 20 6,
              refNs := leAt f 16 4, noRw := bitOf (leAt f 10 1) 5 && !bitOf (leAt f 10 1) 4 } }

/-- The enabled transmit rings, whose CFG registers are listed since ENABLE resets to 0. -/
def Block.txRingsOn (b : Block) : List Nat :=
  b.regs.filterMap fun e =>
    if R.HIF_TXR_CFG 0 ≤ e.1 && e.1 < R.HIF_TXR_CFG 8192 && (e.1 - R.HIF_TXR_CFG 0) % 16 == 0 && bitOf e.2.toNat 31 then
      some ((e.1 - R.HIF_TXR_CFG 0) / 16)
    else none

/-- The transmit rings that hold a frame to fetch, as (instance, ring) (R385, R390, R408). -/
def Block.txReady (b : Block) : List (Nat × Nat) :=
  b.txRingsOn.filterMap fun r =>
    if (b.txRing r).frame.isSome then none
    else match b.txOwner r with
      | some i =>
        if b.txAvail r == 0 || b.fld (R.INS_INS_STATUS i) F.INS_INS_STATUS_PHASE == 2 || !b.fnOn i then none else some (i, r)
      | none => none

/-- The first of a list of numbers in rotation after `last`, of n in all. -/
def turnAfter (n last : Nat) (l : List Nat) : Option Nat :=
  l.foldl (fun best x => match best with
    | none => some x
    | some y => if (x + 2 * n - 1 - last) % n < (y + 2 * n - 1 - last) % n then some x else best) none

/-- The ring that a DMA job has to do with where it reads a transmit frame. -/
def Job.txReads (j : Job) : Option (Nat × Nat) := match j.kind with | .txRead r => some (j.inst, r) | _ => none

/-- The ring whose turn it is: one whose read an engine carries; else, of those with no read that waits, among the instances, then among
that instance's rings (R390, R401). -/
def Block.txTurn (b : Block) : Option (Nat × Nat) :=
  match b.dmaEng.findSome? fun e => e.2.txReads with
  | some x => some x
  | none =>
    let l := b.txReady.filter fun x => b.jobs.all fun j => j.txReads != some x
    match turnAfter 256 b.txLast (l.map (·.1)) with
    | none => none
    | some i => (turnAfter 8192 (b.inst i).lastRing ((l.filter fun x => x.1 == i).map (·.2))).map fun r => (i, r)

/-- Cuts bytes into descriptors of 64. -/
def descsOf (n : Nat) (raw : List Byte) : List (List Byte) := (List.range n).map fun k => slice raw (64 * k) (64 * k + 64)

/-- The ring whose turn it was has had it; the frame in progress takes its slots. -/
def Block.txBegin (b : Block) (i r : Nat) (f : TxFrame) : Block :=
  let b := ({ b with txLast := i }).modInst i fun x => { x with lastRing := r }
  b.modTxRing r fun x => { x with fetch := x.fetch + f.slots, frame := some f }

/-- The next frame of ring r of instance i, whose descriptors have been read as `raw` (R386, R387); `go` is what follows where its
segments are read. -/
def Block.txDescs (b : Block) (i r : Nat) (raw data : List Byte) (go : List (List Byte) → Block → Block) : Block :=
  let all := descsOf (min 8 (b.txAvail r)) raw
  match frameSlots 0 all with
  | none => b
  | some n =>
    let ds := all.take n
    let f := txFrameOf i r (b.txRing r).fetch ds data
    let b := (b.dmaRead i (64 * n)).txBegin i r f
    if badDesc ds then b.txComplete r txBadDesc
    else if b.txDenies i (ds.headD []) then b.txComplete r txDenied
    else if b.frozen (dieOfPort f.port) then b.txComplete r txHeld
    else go ds b

/-- TX_FETCH (R386 to R390): the ring whose turn it is fetches its next frame: `raw` holds its descriptors as read, `data` the
bytes of its segments, each of them a read of its own. -/
def Block.txFetch (raw data : List Byte) (b : Block) : Block :=
  match b.txTurn with
  | none => b
  | some (i, r) => b.withRead i (.txRead r) fun b =>
    b.txDescs i r raw data fun ds b => (ds.foldl (fun b d => b.dmaRead i (leAt d 8 2)) b).injectTry r

/-- INJECT (R388): the pipe of port p takes the oldest frame of its injection buffer, at a handshake at which staging is empty;
the frame completes OK. It takes its number here, as a frame received at this instant would: frames that the pipe took before it stay
before it (R22, R41, R130). -/
def Block.inject (p : Nat) (b : Block) : Block :=
  if !b.mayTake p || !(b.at_ p .staging).isEmpty then b
  else match b.injected p with
    | (i, f) :: _ =>
      let n := b.nextFrame
      let b := (b.dropFrame i).addFrame { f with loc := .pipe }
      let b := match f.host with
        | some h => if ((b.txRing h.ring).frame.bind fun t => t.id) == some i then b.txComplete h.ring txOk else b
        | none => b
      (b.injectRefill p).parseFrame n
    | [] => b

/-- INJECT_TIMEOUT (R388): the frame in progress on ring r has stood at the ring's head for TX_INJECT_LIMIT µs. -/
def Block.injectTimeout (r : Nat) (b : Block) : Block :=
  match (b.txRing r).frame with
  | some f =>
    if f.direct || b.ticks < (b.txRing r).since + b.fld R.HIF_TX_INJECT_LIMIT F.HIF_TX_INJECT_LIMIT_V * 1000 then b
    else b.txRefuse r txTimeout
  | none => b

/-- TX_DIRECT_HANDOFF (R389): the first cell of ring r's direct frame enters the host link; on a held die it completes with
DIE_HELD (Table 1-6). -/
def Block.txHandoff (r : Nat) (b : Block) : Block :=
  match (b.txRing r).frame with
  | some f =>
    if !f.direct then b
    else if b.frozen (dieOfPort f.port) then b.txComplete r txHeld
    else
      let G := rgnOfPort f.port
      let l := SMap.get [] b.hostLinks G
      let k : Pkt := { bytes := f.bytes ++ fcsOf f.bytes, desc := f.desc, stamp := b.rxStamp f.port, advA := b.baseA.advance,
                       advB := b.baseB.advance, die := dieOfPort f.port, host := some f.host }
      let b : Block := { b with hostLinks := SMap.set [] b.hostLinks G (l ++ [{ pkt := k }]) }
      b.txComplete r txOk
  | none => b

/-- At Hold entry of die d its host frames complete with DIE_HELD (R388, Table 1-6). -/
def Block.holdTx (b : Block) (d : Nat) : Block :=
  b.txRings.foldl (fun b x => match x.2.frame with
    | some f => if dieOfPort f.port == d then b.txRefuse x.1 txHeld else b
    | none => b) b

/-! ## Pools (R395) -/

/-- Buffer bytes of pool k. -/
def poolBytes : Nat → Nat
  | 0 => 512 | 1 => 2048 | 2 => 10240 | _ => 16384
def Block.pool (b : Block) (i k : Nat) : Pool := SMap.get {} b.pools (i * 4 + k)
def Block.modPool (b : Block) (i k : Nat) (f : Pool → Pool) : Block := { b with pools := SMap.mod {} b.pools (i * 4 + k) f }
def Block.poolOn (b : Block) (i k : Nat) : Bool := b.flag (R.INS_POOL_CFG i k) F.INS_POOL_CFG_EN
/-- Entries of pool k's free ring. -/
def Block.poolEntries (b : Block) (i k : Nat) : Nat :=
  let n := 2 ^ b.fld (R.INS_POOL_CFG i k) F.INS_POOL_CFG_SIZE_LOG2
  (b.word (R.LAY_POOL_TAIL i k) + n - (b.pool i k).head % n) % n
/-- Whether pool k has buffers (R395); after a failed read of its free ring it counts as empty until the next doorbell (R376). -/
def Block.poolHas (b : Block) (i k : Nat) : Bool :=
  b.poolOn i k && !(b.pool i k).failed && (!(b.pool i k).cache.isEmpty || b.poolEntries i k > 0)

/-- The pool of a frame of n bytes (R395), and the smallest that fits it. -/
def Block.choosePool (b : Block) (i n : Nat) : Nat × Option Nat :=
  let fit := ((List.range 4).find? fun k => n ≤ poolBytes k).getD 3
  let order := fit :: ((List.range fit).reverse ++ (List.range (3 - fit)).map (· + fit + 1))
  (fit, order.find? (b.poolHas i))

/-! ## Receive (R391 to R397) -/

/-- Number of the oldest staged frame of ring r, in staging order (R394). -/
def Block.slowOf (b : Block) (r : Nat) : Option Nat :=
  ((List.range b.slow.length).find? fun n => match b.slow[n]? with | some h => h.ring == r | none => false)
def Block.modSlow (b : Block) (n : Nat) (f : HostFrame → HostFrame) : Block :=
  { b with slow := match b.slow[n]? with | some h => b.slow.set n (f h) | none => b.slow }
def Block.dropSlow (b : Block) (n : Nat) : Block := { b with slow := b.slow.eraseIdx n }

/-- Buffers that a frame uses in pool k. -/
def buffersOf (n k : Nat) : Nat := if n ≤ poolBytes k then 1 else (n + poolBytes k - 1) / poolBytes k

/-- Free slots of receive ring r (R391). -/
def Block.rxFree (b : Block) (r : Nat) : Nat :=
  let n := b.rxSize r
  ((b.rxRing r).db + n - 1 + n - (b.rxRing r).alloc % n) % n

/-- A receive descriptor (Table 13-7). -/
def rxDescriptor (h : HostFrame) (k n pool phase : Nat) (buf : Nat × Nat) (discard : Bool) : List Byte :=
  let flags := phase * 128 + b2n (k == 0) * 64 + b2n (k + 1 == n) * 32 + b2n discard * 16 + pool * 4 + b2n h.trunc * 2
    + b2n h.stamp.stepped
  let head := leBytes 8 buf.1 ++ leBytes 2 buf.2 ++ leBytes 1 flags
  if k != 0 then head ++ zeros 53
  else head ++ leBytes 1 (h.kind * 16 + h.stamp.base * 8) ++ leBytes 1 h.code ++ leBytes 1 h.inPort ++ leBytes 1 h.egPort
    ++ leBytes 1 h.sub ++ leBytes 2 h.frameLen ++ leBytes 1 h.actFwd ++ zeros 1 ++ leBytes 4 h.fwdIdx
    ++ leBytes 4 h.stamp.ns ++ leBytes 6 h.stamp.s ++ leBytes 2 h.sampleIdx ++ zeros 28

/-- Staged frame number n completes with the buffers written: its descriptors, its counters (R391, R396). -/
def Block.rxFinish (b : Block) (n i : Nat) (h : HostFrame) (discard : Bool) : Block :=
  let r := h.ring
  let m := h.written.length
  let a := (b.rxRing r).alloc
  let b := (b.dropSlow n).modRxRing r fun x => { x with alloc := a + m }
  let b := if discard then b.count (R.INS_RX_DISCARD i) 1
    else (b.count (R.INS_RX_FRAMES i) 1).count (R.INS_RX_BYTES i) h.bytes.length
  b.pushJob i (.rxDesc r m) ((List.range m).map fun k =>
    (b.rxSlot r (a + k), rxDescriptor h k m (h.pool.getD 0) (phaseOf (b.rxSize r) (a + k)) (h.written.getD k (0, 0)) discard))

/-- The cached buffers of the frame's pool are filled one after the other. -/
def Block.rxFill (b : Block) (i k need : Nat) : Nat → HostFrame → HostFrame × Block
  | 0, h => (h, b)
  | fuel + 1, h =>
    if h.written.length ≥ need then (h, b)
    else match (if b.poolHas i k then (b.pool i k).cache else []) with
      | [] => (h, b)
      | a :: rest =>
        let from_ := h.written.length * poolBytes k
        let part := slice h.bytes from_ (min h.bytes.length (from_ + poolBytes k))
        let b := b.modPool i k fun x => { x with cache := rest }
        (b.pushJob i (.rxBuf h.ring) [(a, part)]).rxFill i k need fuel { h with written := h.written ++ [(a, part.length)] }

/-- The frame's pool, chosen once; POOL_EMPTY counts a frame that finds the pool it fits empty, once. -/
def Block.rxPool (b : Block) (i : Nat) (h : HostFrame) : HostFrame × Block :=
  match h.pool with
  | some _ => (h, b)
  | none =>
    let c := b.choosePool i h.bytes.length
    let b1 := if !h.counted && !b.poolHas i c.1 then b.count (R.INS_POOL_EMPTY i c.1) 1 else b
    ({ h with pool := c.2, counted := true }, b1)

/-- RX_DELIVER (R394 to R397): the oldest staged frame of ring r goes on as far as its pool and its ring let it. -/
def Block.rxDeliver (r : Nat) (b : Block) : Block :=
  match b.slowOf r, b.rxOwner r with
  | some n, some i =>
    match b.slow[n]? with
    | none => b
    | some h =>
      if !b.rxEnabled r || b.fld (R.INS_INS_STATUS i) F.INS_INS_STATUS_PHASE == 2 then b
      else
        let x := b.rxPool i h
        let b := x.2
        let wait (h : HostFrame) : HostFrame := { h with waitFrom := h.waitFrom.or (some b.ticks) }
        match x.1.pool with
        | none => b.modSlow n fun _ => wait x.1
        | some k =>
          let need := buffersOf h.bytes.length k
          if x.1.written.isEmpty && b.rxFree r < need then b.modSlow n fun _ => wait x.1
          else
            let y := b.rxFill i k need 33 x.1
            if y.1.written.length ≥ need then y.2.rxFinish n i y.1 false
            else y.2.modSlow n fun _ => if y.2.poolHas i k then y.1 else wait y.1
  | _, _ => b

/-- POOL_WAIT_EXPIRE (R396): the oldest staged frame of ring r has waited POOL_WAIT µs; one with no buffer written is counted
under what it lacks at that moment, slots of its ring (R397) or a buffer. -/
def Block.poolWaitExpire (r : Nat) (b : Block) : Block :=
  match b.slowOf r, b.rxOwner r with
  | some n, some i =>
    match b.slow[n]? with
    | none => b
    | some h =>
      match h.waitFrom with
      | none => b
      | some t =>
        if b.ticks < t + b.fld R.HIF_POOL_WAIT F.HIF_POOL_WAIT_V * 1000 then b
        else if h.written.isEmpty then
          let full := match h.pool with
            | some k => decide (b.rxFree r < buffersOf h.bytes.length k)
            | none => false
          (b.dropSlow n).count (if full then R.INS_RX_RING_DROP i else R.INS_RX_POOL_DROP i) 1
        else b.rxFinish n i h true
  | _, _ => b

/-- RX_DOORBELL (R391): instance i writes RXDB of its ring j. -/
def Block.rxDoorbell (i j v : Nat) (b : Block) : Block :=
  let a := R.LAY_RXDB i j
  match b.ringOf false i j with
  | none => b.notMine i a
  | some r => b.layWrite i fun b =>
    if (b.inst i).d3hot then b else (b.modRxRing r fun x => { x with db := v % 65536 }).pmc .hif 0x04 i 1

/-- POOL_TAIL (R395): instance i writes POOL_TAIL of pool k. -/
def Block.poolTail (i k v : Nat) (b : Block) : Block :=
  b.layWrite i fun b => if (b.inst i).d3hot then b else
    ((b.setWord (R.LAY_POOL_TAIL i k) (v % 65536)).pmc .hif 0x04 i 1).modPool i k fun x => { x with failed := false }

/-- The rings of instance i whose oldest staged frame waits. -/
def Block.waitingRings (b : Block) (i : Nat) : List Nat :=
  ((b.slow.filter fun h => h.waitFrom.isSome && b.rxOwner h.ring == some i).map fun h => h.ring).dedup

/-- POOL_FETCH (R395, R396): a free-ring read fills the cache of pool k of instance i; a frame that waits uses the buffers at
once. -/
def Block.poolFetch (i k : Nat) (raw : List Byte) (b : Block) : Block :=
  let x := b.pool i k
  let n := min (64 - x.cache.length) (b.poolEntries i k)
  if !b.poolOn i k || b.resetting i || x.failed || x.cache.length ≥ 32 || n == 0 then b
  else b.withRead i (.poolRead k) fun b =>
    let new := (List.range n).map fun j => leVal (slice raw (8 * j) (8 * j + 8))
    let size := 2 ^ b.fld (R.INS_POOL_CFG i k) F.INS_POOL_CFG_SIZE_LOG2
    let b := (b.dmaRead i (8 * n)).modPool i k fun x => { x with cache := x.cache ++ new, head := (x.head + n) % size }
    (b.waitingRings i).foldl (fun b r => b.rxDeliver r) b

/-- Whether a size and address may be enabled (R385); SIZE_LOG2 is a field of 4 bits. -/
def sizeOk (log2 : Nat) : Bool := 6 ≤ log2

/-- A write of POOL_CFG (R385, R395). -/
def Block.poolCfgWrite (w : Writer) (i k v : Nat) (b : Block) : Block :=
  let a := R.INS_POOL_CFG i k
  if F.INS_POOL_CFG_EN.of v == 1 then
    if !sizeOk (F.INS_POOL_CFG_SIZE_LOG2.of v) || b.word (R.INS_POOL_BASE_LO i k) % 64 != 0 then b.refuse w a
    else ((b.storeReg w a v).setWord (R.LAY_POOL_TAIL i k) 0).modPool i k fun _ => {}
  else (b.storeReg w a v).modPool i k fun x => { x with cache := [] }

/-! ## Enabling and disabling rings (R385) -/

/-- Both of a ring's indices go to 0, and no completion counts toward its next message. -/
def Block.ringClear (b : Block) (tx : Bool) (r : Nat) : Block :=
  let b := b.modRingInt tx r fun x => { reg := x.reg }
  if tx then b.modTxRing r fun _ => {} else b.modRxRing r fun _ => {}

def Block.ringCfgReg (tx : Bool) (r : Nat) : Nat := if tx then R.HIF_TXR_CFG r else R.HIF_RXR_CFG r

/-- RING_ENABLE (R385): a write of a ring's CFG with ENABLE at 1. -/
def Block.ringEnable (w : Writer) (tx : Bool) (r v : Nat) (b : Block) : Block :=
  let a := Block.ringCfgReg tx r
  let lo := b.word (if tx then R.HIF_TXR_BASE_LO r else R.HIF_RXR_BASE_LO r)
  let v := F.HIF_TXR_CFG_ENABLE.put v 1
  if !sizeOk (F.HIF_TXR_CFG_SIZE_LOG2.of v) || lo % 4096 != 0 then b.refuse w a
  else (b.storeReg w a v).ringClear tx r

/-- The staged frames of a receive ring that stops (R385). -/
def Block.stopStaged (b : Block) (r : Nat) : Nat → Block
  | 0 => b
  | fuel + 1 =>
    match b.slowOf r with
    | none => b
    | some n =>
      match b.slow[n]?, b.rxOwner r with
      | some h, some i =>
        let b := if h.written.isEmpty then (b.dropSlow n).count R.HIF_RING_DISABLED_DROP 1 else b.rxFinish n i h true
        b.stopStaged r fuel
      | _, _ => b

/-- RING_DISABLE (R385): a write of a ring's CFG with ENABLE at 0. -/
def Block.ringDisable (w : Writer) (tx : Bool) (r v : Nat) (b : Block) : Block :=
  let b := b.storeReg w (Block.ringCfgReg tx r) (F.HIF_TXR_CFG_ENABLE.put v 0)
  if tx then { b with jobs := b.jobs.filter fun j => j.kind != .txRead r } else b.stopStaged r b.slow.length

/-- QUIESCED of a ring (R385); a ring that no instance owns behaves as a disabled one. -/
def Block.quiesced (b : Block) (tx : Bool) (r : Nat) : Bool :=
  let on := if tx then b.txEnabled r && (b.txOwner r).isSome else b.rxEnabled r && (b.rxOwner r).isSome
  !on && !b.ringBusy (ringKey tx r) && (!tx || (b.txRing r).frame.isNone)

/-- A read of host memory for instance 0 to 255 that ends in error (R376). -/
def Block.dmaErr (f : DmaFail) (b : Block) : Block :=
  match f with
  | .txDesc n =>
    match b.txTurn with
    | none => b
    | some (i, r) => b.withRead i (.txRead r) fun b =>
      let f : TxFrame := { first := (b.txRing r).fetch, slots := min (n.val + 1) (b.txAvail r) }
      ((b.dmaFailed i).txBegin i r f).txComplete r txDmaErr
  | .txData raw =>
    match b.txTurn with
    | none => b
    | some (i, r) => b.withRead i (.txRead r) fun b =>
      b.txDescs i r raw [] fun _ b => (b.dmaFailed i).txComplete r txDmaErr
  | .pool i k =>
    let x := b.pool i.val k.val
    if !b.poolOn i.val k.val || b.resetting i.val || x.failed || x.cache.length ≥ 32 || b.poolEntries i.val k.val == 0 then b
    else b.withRead i.val (.poolRead k.val) fun b => (b.dmaFailed i.val).modPool i.val k.val fun x => { x with failed := true }

/-! ## Interrupts and mailboxes (R380, R399, R400) -/

/-- RING_INT_ARM (R399): instance i writes RXINT or TXINT of its ring j. A 1 sets ARM, and completions count from then on. -/
def Block.ringIntArm (tx : Bool) (i j v : Nat) (b : Block) : Block :=
  let a := if tx then R.LAY_TXINT i j else R.LAY_RXINT i j
  match b.ringOf tx i j with
  | none => b.notMine i a
  | some r => b.layWrite i fun b =>
    let w := F.LAY_RXINT_EN.of v * 2 ^ 30 + F.LAY_RXINT_VECTOR.of v * 2 ^ 16 + v % 2 ^ 16
    let set := F.LAY_RXINT_ARM.of v == 1
    let b := b.modRingInt tx r fun x =>
      if x.arm then { x with reg := 2 ^ 31 + w } else { reg := b2n set * 2 ^ 31 + w }
    let b := if F.LAY_RXINT_VECTOR.of v ≥ b.vectors i then b.notMine i a else b
    b.ringTry tx i r

/-- INT0_ACK (R400): a cause that is still pending sends its message again. -/
def Block.int0Ack (v : Nat) (b : Block) : Block :=
  b.each 10 fun b n => if bitOf v n && b.causePending n then b.sendCause n else b

/-- A write of INS[i].MBOX_CTRL: W1C of TO_PF_PENDING, and SEND (R380). -/
def Block.mboxCtrl (w : Writer) (i v : Nat) (b : Block) : Block :=
  let b := b.storeReg w (R.INS_MBOX_CTRL i) v
  let l := R.LAY_MBOX_CTRL i
  if F.INS_MBOX_CTRL_SEND.of v == 0 then b
  else if b.flag l F.LAY_MBOX_CTRL_FROM_PF_PENDING then b.refuse w (R.INS_MBOX_CTRL i)
  else
    let b := b.each 16 fun b k => b.setWord (R.LAY_MBOX_FROM_PF i k) (b.word (R.INS_MBOX_TO_VF i k))
    (b.raise l F.LAY_MBOX_CTRL_FROM_PF_PENDING).insVector i (R.LAY_MBOX_VEC i)

/-- MBOX_SEND_TO_VF. -/
def Block.mboxToVf (w : Writer) (i v : Nat) (b : Block) : Block :=
  if F.INS_MBOX_CTRL_SEND.of v == 0 then b else b.mboxCtrl w i v

/-- A write of MBOX_CTRL in instance i's layout: W1C of FROM_PF_PENDING, and SEND (R380). -/
def Block.layMboxCtrl (i v : Nat) (b : Block) : Block :=
  b.layWrite i fun b =>
    let l := R.LAY_MBOX_CTRL i
    let b := b.storeReg (.inst (Fin.ofNat 256 i)) l v
    if F.LAY_MBOX_CTRL_SEND.of v == 0 then b
    else if b.flag (R.INS_MBOX_CTRL i) F.INS_MBOX_CTRL_TO_PF_PENDING then b.notMine i l
    else
      let b := b.each 16 fun b k => b.setWord (R.INS_MBOX_FROM_VF i k) (b.word (R.LAY_MBOX_TO_PF i k))
      b.raising 8 fun b => b.raise (R.INS_MBOX_CTRL i) F.INS_MBOX_CTRL_TO_PF_PENDING

/-- MBOX_SEND_TO_PF. -/
def Block.mboxToPf (i v : Nat) (b : Block) : Block :=
  if F.LAY_MBOX_CTRL_SEND.of v == 0 then b else b.layMboxCtrl i v

end Sys2Proof.Machine
end

