-- ==== Sys2Proof/Machine/Instance.lean ====
section
/-!
DEFINITION. Machine/Instance.lean: the resources of an instance, its table commands, dirty logging, instance reset and the PCIe
link (spec/13, R375, R378, R381 to R384, R402 to R410; spec/14, R418).
-/
namespace Sys2Proof.Machine
open Sys2Proof

/-! ## Resources (R381 to R384) -/

/-- Whether two runs of rings overlap. -/
def runsMeet (x y : Nat) : Bool :=
  let bx := x % 2 ^ 13
  let cx := x / 2 ^ 16 % 2 ^ 14
  let by_ := y % 2 ^ 13
  let cy := y / 2 ^ 16 % 2 ^ 14
  cx != 0 && cy != 0 && bx < by_ + cy && by_ < bx + cx

/-- Whether a write of RX_RANGE or TX_RANGE of instance i is accepted (R381). -/
def Block.rangeOk (b : Block) (tx : Bool) (i v : Nat) : Bool :=
  let reg := if tx then R.INS_TX_RANGE else R.INS_RX_RANGE
  let old := b.word (reg i)
  let moved := (List.range 8192).filter fun r => inRange v r != inRange old r
  v % 2 ^ 13 + v / 2 ^ 16 % 2 ^ 14 ≤ 8192
    && (List.range 256).all (fun k => k == i || !runsMeet v (b.word (reg k)))
    && moved.all fun r => b.quiesced tx r

/-- The entries of a table that a window may name; none: no window may (R383). -/
def winTableSize (t : Nat) : Option Nat :=
  if t == T.lpm || t == T.nexthop || t == T.rewrite then some 262144
  else if t == T.aclIn then some 32768
  else if t == T.aclOut then some 16384
  else if t == T.policer then some 131072
  else if t == T.counter then some 524288
  else none

/-- Whether instance i's window w may stand enabled with the registers given (R383). -/
def Block.windowOk (b : Block) (i w cfg base size : Nat) : Bool :=
  let t := F.INS_WIN_CFG_TABLE.of cfg
  let cm := F.INS_WIN_CFG_CLUSTER_MASK.of cfg
  let on (k x : Nat) : Bool := b.flag (R.INS_WIN_CFG k x) F.INS_WIN_CFG_EN && b.fld (R.INS_WIN_CFG k x) F.INS_WIN_CFG_TABLE == t
  match winTableSize t with
  | none => false
  | some n =>
    base + size ≤ n && (List.range 8).all (fun x => x == w || !on i x)
      && (List.range 256).all fun k => k == i || (List.range 8).all fun x =>
        !on k x || (t == T.aclIn && cm &&& b.fld (R.INS_WIN_CFG k x) F.INS_WIN_CFG_CLUSTER_MASK == 0)
          || base ≥ b.winBase k x + b.winSize k x || b.winBase k x ≥ base + size

/-- Whether a write of WIN, DIE_MASK or TMPL_MASK of instance i may come now (R384). -/
def Block.winOpen (b : Block) (i : Nat) : Bool :=
  b.flag (R.INS_INS_CTRL i) F.INS_INS_CTRL_WIN_HOLD && b.flag (R.INS_INS_STATUS i) F.INS_INS_STATUS_CMD_IDLE

/-- A write of register `part` (0 CFG, 1 BASE, 2 SIZE) of window w of instance i (R383, R384). -/
def Block.winWrite (wr : Writer) (i w part v : Nat) (b : Block) : Block :=
  let a := if part == 0 then R.INS_WIN_CFG i w else if part == 1 then R.INS_WIN_BASE i w else R.INS_WIN_SIZE i w
  let c := b.storeReg wr a v
  let cfg := c.word (R.INS_WIN_CFG i w)
  if !b.winOpen i || (bitOf cfg 31 && !b.windowOk i w cfg (c.winBase i w) (c.winSize i w)) then b.refuse wr a else c

/-! ## Table commands of an instance (R402 to R404) -/

/-- Table 13-13. -/
def S.notPermitted : Nat := 16
def S.outOfWindow : Nat := 17
def S.badRef : Nat := 18
def S.cancelled : Nat := 19

def isAssoc (t : Nat) : Bool := t == T.lpm || t == T.aclIn || t == T.aclOut

/-- Whether a destination of an entry is instance i's to name: a next hop in its window, or none. -/
def Block.fwdRef (b : Block) (i kind idx : Nat) : Bool := kind == 3 || (kind == 0 && b.inWin i T.nexthop idx)
def Block.codeRef (b : Block) (i c : Nat) : Bool :=
  b.fld (R.INS_CODE_RANGE i) F.INS_CODE_RANGE_LO ≤ c && c ≤ b.fld (R.INS_CODE_RANGE i) F.INS_CODE_RANGE_HI
def Block.tmplRef (b : Block) (i t : Nat) : Bool :=
  bitOf (if t < 32 then b.word (R.INS_TMPL_MASK_LO i) else b.word (R.INS_TMPL_MASK_HI i)) (t % 32)

/-- Whether the image of a WRITE names only resources of instance i (Table 13-14): of an ACL entry, the destination where OVR names its
group, and the four other references always, as the table has it. -/
def Block.refsOk (b : Block) (i t part : Nat) (v : Vec) : Bool :=
  if t == T.nexthop then
    b.portPermitted i (v.f 0 ⟨25, 18⟩) && b.inWin i T.rewrite (v.f 0 ⟨17, 0⟩)
      && (v.f 0 ⟨30, 29⟩ != 2 || b.codeRef i (v.f 1 ⟨31, 24⟩))
  else if t == T.lpm && part == 2 then b.tmplRef i (v.f 0 ⟨31, 26⟩) && b.fwdRef i (v.f 0 ⟨25, 24⟩) (v.f 0 ⟨23, 6⟩)
  else if (t == T.aclIn || t == T.aclOut) && part == 2 then
    let ovr := v.f 5 ⟨31, 16⟩
    (!bitOf ovr 1 || b.fwdRef i (v.f 0 D.fwdKind) (v.f 1 D.fwdIdx))
      && b.codeRef i (v.f 0 D.hostCode) && b.inWin i T.policer (v.f 3 D.policerIdx)
      && b.inWin i T.counter (v.f 4 D.counterIdx) && b.inWin i T.rewrite (v.f 2 D.rewriteIdx)
  else if t == T.rewrite && v.f 0 ⟨30, 29⟩ == 0 then
    (v.f 0 ⟨11, 11⟩ == 0 || b.inWin i T.rewrite (v.f 9 ⟨31, 14⟩))
      && (v.f 10 ⟨12, 12⟩ == 0 || b.inWin i T.counter (v.f 10 ⟨31, 13⟩))
  else true

/-- The operation that a command word of instance i stands for, with its indices through the window, or the status that
refuses it (R402, R403). -/
def Block.insOp (b : Block) (i v : Nat) : Except Nat TblOp :=
  let op := F.LAY_INS_CMD_OPCODE.of v
  let t := F.LAY_INS_CMD_TABLE.of v
  let cm := F.LAY_INS_CMD_CM.of v
  let d := F.LAY_INS_CMD_DIE.of v
  let arg := F.LAY_INS_CMD_ARG.of v
  let data := Vec.ofList ((List.range 16).map fun j => b.word (R.LAY_INS_CMD_DATA i j))
  let x := b.word (R.LAY_INS_CMD_INDEX i) % 2 ^ 20
  let rel := if isAssoc t then x % 2 ^ 18 else x
  let part := if isAssoc t then x / 2 ^ 18 else 0
  let o : TblOp := { via := .inst i, op := op, table := t, cmask := cm, arg := arg, data := data }
  if i == 0 || (writesTable op && b.standbyRefuses) || !([0, 1, 3, 6].contains op || (op == 5 && isAssoc t))
      || !bitOf (b.word (R.INS_DIE_MASK i)) d then
    .error S.notPermitted
  else if op == 6 then .ok o
  else match b.windowOf i t with
    | none => .error S.notPermitted
    | some w =>
      let base := b.winBase i w
      let size := b.winSize i w
      let wm := b.fld (R.INS_WIN_CFG i w) F.INS_WIN_CFG_CLUSTER_MASK
      let stop := Vec.f data 0 ⟨17, 0⟩
      if t == T.aclIn && (cm == 0 || cm &&& wm != cm) then .error S.notPermitted
      else if rel ≥ size || (op == 5 && (stop ≥ size || (if arg % 2 == 1 then rel == 0 else stop + 1 ≥ size))) then
        .error S.outOfWindow
      else if op == 1 && !b.refsOk i t part data then .error S.badRef
      else .ok { o with index := part * 2 ^ 18 + (base + rel), base := base,
                        data := if op == 5 then Vec.put data 0 ⟨17, 0⟩ (base + stop) else data }

/-- The engine of the named die starts the command of instance i, or it completes with an instance status. -/
def Block.insStart (b : Block) (i v : Nat) : Block :=
  let d := F.LAY_INS_CMD_DIE.of v
  match b.insOp i v with
  | .error s => b.publishInst i { via := .inst i, op := F.LAY_INS_CMD_OPCODE.of v, status := s }
  | .ok o => (b.lower (R.INS_INS_STATUS i) F.INS_INS_STATUS_CMD_IDLE).accept d o

/-- A write of INS_CMD of instance i: refused while BUSY (R206), held back under WIN_HOLD (R384). -/
def Block.insCmd (i v : Nat) (b : Block) : Block :=
  let st := R.LAY_INS_CMD_STATUS i
  b.layWrite i fun b =>
    if b.flag st F.LAY_INS_CMD_STATUS_BUSY then b.notMine i (R.LAY_INS_CMD i)
    else
      let b := b.raise st F.LAY_INS_CMD_STATUS_BUSY
      if b.flag (R.INS_INS_CTRL i) F.INS_INS_CTRL_WIN_HOLD && i != 0 then b.modInst i fun x => { x with held := some v }
      else b.insStart i v

/-- A command word with opcode `op`. -/
def withOp (op v : Nat) : Nat := F.LAY_INS_CMD_OPCODE.put v op
/-- INS_CMD_READ. -/
def Block.insRead (i v : Nat) (b : Block) : Block := b.insCmd i (withOp 0 v)
/-- INS_CMD_WRITE. -/
def Block.insWrite (i v : Nat) (b : Block) : Block := b.insCmd i (withOp 1 v)
/-- INS_CMD_DELETE. -/
def Block.insDelete (i v : Nat) (b : Block) : Block := b.insCmd i (withOp 3 v)
/-- INS_CMD_FENCE. -/
def Block.insFence (i v : Nat) (b : Block) : Block := b.insCmd i (withOp 6 v)
/-- INS_CMD_MOVE_BLOCK. -/
def Block.insMove (i v : Nat) (b : Block) : Block := b.insCmd i (withOp 5 v)
/-- INS_CMD_NOT_PERMITTED: any opcode that Table 13-13 does not permit, or any command of instance 0. -/
def Block.insOther (i v : Nat) (b : Block) : Block :=
  let op := F.LAY_INS_CMD_OPCODE.of v
  let known := [0, 1, 3, 6].contains op || (op == 5 && isAssoc (F.LAY_INS_CMD_TABLE.of v))
  if i == 0 || !known || (writesTable op && b.standbyRefuses) then b.insCmd i v else b

/-! ## Dirty logging (R406) -/

/-- A write of DIRTY_CFG of instance i. -/
def Block.dirtyCfg (w : Writer) (i v : Nat) (b : Block) : Block :=
  let a := R.INS_DIRTY_CFG i
  let busy := b.flag a F.INS_DIRTY_CFG_SWAP_BUSY
  if F.INS_DIRTY_CFG_SWAP.of v == 1 && busy then b.refuse w a
  else
    let b := b.storeReg w a v
    if F.INS_DIRTY_CFG_SWAP.of v == 1 then b.raise a F.INS_DIRTY_CFG_SWAP_BUSY else b

/-- DIRTY_SWAP. -/
def Block.dirtySwap (w : Writer) (i v : Nat) (b : Block) : Block :=
  if F.INS_DIRTY_CFG_SWAP.of v == 0 then b else b.dirtyCfg w i v

/-- Whether an update of bitmap m of instance i is still to be merged. -/
def Block.dirtyLeft (b : Block) (i m : Nat) : Bool :=
  let mine (j : Job) : Bool := j.inst == i && (match j.kind with | .dirty k _ _ => k == m | _ => false)
  b.jobs.any mine || b.dmaEng.any fun x => mine x.2

/-- DIRTY_SWAP_DONE. -/
def Block.dirtySwapDone (i : Nat) (b : Block) : Block :=
  let a := R.INS_DIRTY_CFG i
  let old := b.fld a F.INS_DIRTY_CFG_ACTIVE
  if !b.flag a F.INS_DIRTY_CFG_SWAP_BUSY || b.dirtyLeft i old then b
  else (b.lower a F.INS_DIRTY_CFG_SWAP_BUSY).setFld a F.INS_DIRTY_CFG_ACTIVE (1 - old)

/-! ## Instance reset (R407 to R410) -/

/-- The squash phase of instance i (R408, step 3). -/
def Block.squash (b : Block) (i : Nat) : Block :=
  let b := b.setFld (R.INS_INS_STATUS i) F.INS_INS_STATUS_PHASE 2
  let b : Block := { b with jobs := b.jobs.filter (fun j => j.inst != i), dmaEng := b.dmaEng.filter (fun x => x.2.inst != i) }
  let mine := b.slow.filter fun h => b.rxOwner h.ring == some i
  let rest := b.slow.filter fun h => b.rxOwner h.ring != some i
  let b := b.count (R.INS_SQUASH_DROP i) mine.length
  let b := b.txRings.foldl (fun b x =>
    if b.txOwner x.1 == some i then b.modTxRing x.1 fun t => { t with frame := none } else b) { b with slow := rest }
  b.dispatchDma 17

/-- A reset of instance i starts (R408, step 1); one already running takes it in (R407). -/
def Block.startReset (b : Block) (i : Nat) (squash : Bool) (limit : Nat) : Block :=
  if b.resetting i then b
  else
    let b := (b.raise (R.INS_INS_STATUS i) F.INS_INS_STATUS_RESETTING).modInst i fun x =>
      { x with resetAt := b.ticks, limit := limit }
    let mine (j : Job) : Bool := j.inst == i && (match j.kind with | .poolRead _ => true | _ => false)
    let b : Block := { b with jobs := b.jobs.filter (fun j => !mine j), dmaEng := b.dmaEng.filter (fun x => !mine x.2) }
    if squash then b.squash i else b.setFld (R.INS_INS_STATUS i) F.INS_INS_STATUS_PHASE 1

/-- What a reset of instance 0 does beyond R408 (R410): the Gleaner rings stop, and any Winnow pass ends. -/
def Block.resetZero (b : Block) : Block :=
  b.each 4 fun b d =>
    let b := b.lower (R.HIF_GLN_CFG d) F.HIF_GLN_CFG_EN
    if b.winBusy d then
      (b.lower (R.TBL_WIN_STATUS d) F.TBL_WIN_STATUS_BUSY).raise (R.TBL_WIN_STATUS d) F.TBL_WIN_STATUS_DMA_ERR
    else b

/-- The configuration space and the MSI-X table of function i return to their reset values, as PCIe has them (R375, assumption 75). -/
def Block.configReset (b : Block) (i : Nat) : Block :=
  let lo := layBase i + 0xC0000
  { b.modInst i (fun x => { x with d3hot := false, msixEn := false, msixMask := false, msixPend := 0 }) with
    regs := b.regs.filter fun e => !(lo ≤ e.1 && e.1 < lo + 0x10000) }

/-- VF Enable clears (R375, R410): the virtual functions are there no longer. -/
def Block.vfOff (b : Block) : Block :=
  if !b.vfEnable then b else { b with vfEnable := false }.each 255 fun b k => b.configReset (k + 1)

/-- The mode and the drain limit of instance i's resets. -/
def Block.squashMode (b : Block) (i : Nat) : Bool := b.flag (R.INS_INS_RESET_CFG i) F.INS_INS_RESET_CFG_MODE
def Block.drainLimit (b : Block) (i : Nat) : Nat := b.fld (R.INS_INS_RESET_CFG i) F.INS_INS_RESET_CFG_DRAIN_LIMIT

/-- A Function Level Reset of instance i (R407, R410). -/
def Block.flr (b : Block) (i : Nat) : Block :=
  if i == 0 then
    (((b.each 256 fun b k => b.startReset k (b.squashMode k) (min (b.drainLimit k) 90)).vfOff).configReset 0).resetZero
  else (b.configReset i).startReset i (b.squashMode i) (min (b.drainLimit i) 90)

/-- A write of INS_CTRL (R384, R407): RESET, and WIN_HOLD, whose return to 0 lets a held command start. -/
def Block.insCtrl (w : Writer) (i v : Nat) (b : Block) : Block :=
  let b := b.storeReg w (R.INS_INS_CTRL i) v
  let b := if F.INS_INS_CTRL_RESET.of v == 1 then b.startReset i (b.squashMode i) (b.drainLimit i) else b
  if b.flag (R.INS_INS_CTRL i) F.INS_INS_CTRL_WIN_HOLD || b.resetting i then b
  else match (b.inst i).held with
    | some c => (b.modInst i fun x => { x with held := none }).insStart i c
    | none => b

/-- WIN_HOLD_CLEAR (R384). -/
def Block.winHoldClear (w : Writer) (i v : Nat) (b : Block) : Block := b.insCtrl w i (F.INS_INS_CTRL_WIN_HOLD.put v 0)

/-- INSTANCE_RESET (R407). -/
def Block.instanceReset (i : Nat) (by_ : ResetBy) (b : Block) : Block :=
  match by_ with
  | .flr => b.flr i
  | .reg w v => if F.INS_INS_CTRL_RESET.of v.toNat == 0 then b else b.insCtrl w i v.toNat

/-- Whether something of instance i is still to be handed off, delivered or written (R408, step 2). -/
def Block.draining (b : Block) (i : Nat) : Bool :=
  b.instBusy i || (b.slow.any fun h => b.rxOwner h.ring == some i)
    || (b.txRings.any fun x => x.2.frame.isSome && b.txOwner x.1 == some i) || b.txReady.any fun x => x.1 == i

/-- DRAIN_END (R408): the drain is done, or DRAIN_LIMIT has expired. -/
def Block.drainEnd (i : Nat) (b : Block) : Block :=
  if b.fld (R.INS_INS_STATUS i) F.INS_INS_STATUS_PHASE != 1 then b
  else if b.draining i && b.ticks < (b.inst i).resetAt + (b.inst i).limit * oneMs then b
  else b.squash i

/-- Disables the rings of a run, and sets their indices to 0. -/
def Block.ringsOff (b : Block) (tx : Bool) (v : Nat) : Block :=
  let reg := Block.ringCfgReg tx
  let mine := b.regs.filterMap fun e =>
    if reg 0 ≤ e.1 && e.1 < reg 8192 && (e.1 - reg 0) % 16 == 0 && inRange v ((e.1 - reg 0) / 16) then
      some ((e.1 - reg 0) / 16) else none
  mine.foldl (fun b r => (b.lower (reg r) F.HIF_TXR_CFG_ENABLE).ringClear tx r) b

/-- INS_RESET (R408, steps 4 and 5): instance i's reset completes, once the engines are through with its command. -/
def Block.insReset (i : Nat) (b : Block) : Block :=
  let st := R.INS_INS_STATUS i
  if b.fld st F.INS_INS_STATUS_PHASE != 2 || !b.flag st F.INS_INS_STATUS_CMD_IDLE then b
  else
    let b := match (b.inst i).held with
      | some c => (b.modInst i fun x => { x with held := none }).publishInst i
          { via := .inst i, op := F.LAY_INS_CMD_OPCODE.of c, status := S.cancelled }
      | none => b
    let b := (b.ringsOff true (b.word (R.INS_TX_RANGE i))).ringsOff false (b.word (R.INS_RX_RANGE i))
    let b := b.each 4 fun b k =>
      ((b.lower (R.INS_POOL_CFG i k) F.INS_POOL_CFG_EN).setWord (R.LAY_POOL_TAIL i k) 0).modPool i k fun _ => {}
    let b := (b.lower (R.INS_DIRTY_CFG i) F.INS_DIRTY_CFG_EN).lower (R.INS_DIRTY_CFG i) F.INS_DIRTY_CFG_SWAP_BUSY
    let b := b.each 16 fun b k =>
      (((b.setWord (R.INS_MBOX_TO_VF i k) 0).setWord (R.INS_MBOX_FROM_VF i k) 0).setWord (R.LAY_MBOX_FROM_PF i k) 0).setWord
        (R.LAY_MBOX_TO_PF i k) 0
    let b := (b.setWord (R.INS_MBOX_CTRL i) 0).setWord (R.LAY_MBOX_CTRL i) 0
    let b := b.each 4 fun b d => b.setWord (R.LAY_INS_FENCE_STATUS i d) 0
    let b := b.raising 9 fun b => b.raise st F.INS_INS_STATUS_RESET_DONE
    ((b.lower st F.INS_INS_STATUS_RESETTING).setFld st F.INS_INS_STATUS_PHASE 0).send 4 i 0x5A 0

/-! ## The PCIe link (R375, R418) -/

/-- PCIE_LINK_DOWN (R375): a link-down, a hot reset or a conventional reset. -/
def Block.pcieDown (e : PcieEvent) (b : Block) : Block :=
  let b := match e with
    | .linkDown => if b.flag R.HIF_LINK_STATUS F.HIF_LINK_STATUS_UP then (b.setWord R.HIF_LINK_STATUS 0).send 4 0xFFF 0x58 0 else b
    | _ => b
  (({ b.vfOff with numVfs := 0 }).each 256 fun b i => (b.configReset i).startReset i true 0).resetZero

/-- PCIE_LINK_UP (R374, R418): the endpoint has trained to a width and a rate; one that cannot train to x4 stays down. -/
def Block.pcieUp (width rate : Nat) (b : Block) : Block :=
  if !([4, 8, 16].contains width && 1 ≤ rate && rate ≤ 6) then b
  else ((b.raise R.HIF_LINK_STATUS F.HIF_LINK_STATUS_UP).setFld R.HIF_LINK_STATUS F.HIF_LINK_STATUS_WIDTH width).setFld
    R.HIF_LINK_STATUS F.HIF_LINK_STATUS_RATE rate

/-! ## Configuration space (R374, R375, R378, R399, R418) -/

/-- What the configuration register r of function i reads; only what the spec names of it is held (assumption 75). -/
def Block.configRead (b : Block) (i : Nat) (r : ConfigReg) : Nat :=
  match r with
  | .vfEnable => if i == 0 then b2n b.vfEnable else 0
  | .numVfs => if i == 0 then b.numVfs else 0
  | .totalVfs => if i == 0 then b.totalVfs else 0
  | .firstVfOffset | .vfStride => if i == 0 then 1 else 0
  | .powerState => if (b.inst i).d3hot then 3 else 0
  | .msixControl => b2n (b.inst i).msixEn * 2 ^ 15 + b2n (b.inst i).msixMask * 2 ^ 14 + (b.vectors i - 1)

/-- The host writes v to configuration register r of function i. VF Enable cannot be set before DONE (R418). -/
def Block.configWrite (i : Nat) (r : ConfigReg) (v : Nat) (b : Block) : Block :=
  match r with
  | .vfEnable =>
    if i != 0 then b
    else if v % 2 == 0 then b.vfOff
    else if b.started then { b with vfEnable := true } else b
  | .numVfs => if i != 0 || b.vfEnable then b else { b with numVfs := v % 65536 }
  | .totalVfs | .firstVfOffset | .vfStride => b
  | .powerState =>
    let p := v % 4
    if p != 0 && p != 3 then b else ((b.modInst i fun x => { x with d3hot := p == 3 }).msixFlush i).dispatchDma 17
  | .msixControl => (b.modInst i fun x => { x with msixEn := bitOf v 15, msixMask := bitOf v 14 }).msixFlush i

end Sys2Proof.Machine
end

