-- ==== Sys2Proof/Machine/RegRead.lean ====
section
/-!
DEFINITION. Machine/RegRead.lean: reading a register: what the read-only registers show of the state behind them, the 64-bit
counters and their latches, the Tally digests, and what each requester reaches (R11 to R15, R379, R418, R458, R459, R524,
R527, R528).
-/
namespace Sys2Proof.Machine
open Sys2Proof

/-! ## Tally digests (R458, R459) -/

/-- A register record: the class, the offset and the covered part of the value. -/
def regRecord (k a v : Nat) : List Byte := leBytes 1 k ++ zeros 3 ++ leBytes 4 a ++ leBytes 4 v
def regHash (k a v : Nat) : Nat := tallyHash (regRecord k a v)
/-- The XOR over the records of registers reg 0 … reg (n-1), of the bits in `mask`. -/
def Block.regSet (b : Block) (k n mask : Nat) (reg : Nat → Nat) : Nat :=
  xorAll ((List.range n).map fun i => regHash k (reg i) (b.word (reg i) &&& mask))
def allBits : Nat := 2 ^ 32 - 1
/-- The same over a list of registers of each of n elements. -/
def Block.regSets (b : Block) (k n : Nat) (regs : List (Nat → Nat)) : Nat := xorAll (regs.map (b.regSet k n allBits))

def macPortSet : List (Nat → Nat) := [R.MAC_PORT_CFG, R.MAC_PORT_STATE, R.MAC_PAUSE_CFG, R.MAC_PAUSE_TX_CFG, R.MAC_CTRL_SA_LO,
  R.MAC_CTRL_SA_HI, R.MAC_TS_CFG, R.MAC_PREEMPT_CFG, R.MAC_STG_CFG]
def prtPortSet : List (Nat → Nat) := [R.PRT_PAUSE_WDOG, R.PRT_LOOKUP_CFG, R.PRT_LEARN_CFG, R.PRT_PTP_CFG, R.PRT_PTP_LINK_DELAY]
def clsPortSet : List (Nat → Nat) := [R.CLS_SIEVE_CFG, R.CLS_UDP_PORTS0, R.CLS_UDP_PORTS1, R.CLS_MAL_ACTION, R.CLS_MAL_HOSTLIM,
  R.CLS_ME_CFG]
def rgnQueueSet : List (Nat → Nat) := [R.RGN_BUF_CFG, R.RGN_LL_CFG, R.RGN_LL_HDRM, R.RGN_MISS_CFG, R.RGN_ECMP_HASH,
  R.RGN_ECMP_SEED, R.RGN_MC_CFG, R.RGN_RW_CFG, R.RGN_TTL_HOSTLIM]
def tblQueueSet : List (Nat → Nat) := [R.TBL_EM_CFG, R.TBL_GLN_CFG, R.TBL_GLN_AGE_CFG, R.TBL_GLN_QUANTUM, R.TBL_LPM_BSEL_CFG,
  R.TBL_FENCE_CFG]

/-- Class 2, PORT. -/
def Block.portDigest (b : Block) : Nat :=
  xorAll [b.regSet 2 1024 allBits R.LANE_CFG, b.regSets 2 256 macPortSet, b.regSets 2 256 prtPortSet,
    b.regSet 2 256 0xC0000000 R.PRT_CT_CFG, b.regSets 2 32 clsPortSet, b.regSet 2 32 0x8000FFFF R.CLS_FRAG_CFG,
    b.regSet 2 4096 allBits fun i => R.PRT_HOSTLIM (i / 16) (i % 16),
    b.regSet 2 512 allBits fun i => R.CLS_HANDOFF (i / 16) (i % 16),
    b.regSet 2 128 allBits fun i => R.CLS_ETYPE_HANDOFF (i / 4) (i % 4),
    b.regSet 2 128 allBits fun i => R.CLS_UDP_HANDOFF (i / 4) (i % 4),
    b.regSet 2 512 allBits fun i => R.CLS_ACL_SET (i / 16) (i % 16),
    b.regSet 2 5120 allBits fun i => R.CLS_ACL_KEY (i / 160) (i / 10 % 16) (i % 10),
    b.regSet 2 128 allBits fun i => R.CLS_ACL_GROUP (i / 4) (i % 4)]

/-- The four words of a shaper in force (R329), without PENDING. -/
def Block.shaperHash (b : Block) (G n : Nat) : Nat :=
  let c := (b.shaper G n).cfg
  xorAll [regHash 3 (shpMin G n) (c.minRate * 2 ^ 12), regHash 3 (shpMax G n) (c.maxRate * 2 ^ 12),
    regHash 3 (shpBurst G n) (c.minBurst * 2 ^ 16 + c.maxBurst),
    regHash 3 (shpCtrl G n) (b2n c.minEn * 2 ^ 31 + b2n c.maxEn * 2 ^ 30)]

/-- The gates of a port: GATE_CFG, GATE_SDU, what is in force of its list, and every entry of its operating bank, by the words that
GCL_DATA shows of it. -/
def Block.gateHash (b : Block) (p : Nat) : Nat :=
  let entry (i : Nat) : Nat :=
    let e := b.gateEntry p (b.operBank p) i
    xorAll [regHash 3 (R.PRT_GCL_DATA0 p) e.states, regHash 3 (R.PRT_GCL_DATA1 p) e.interval]
  xorAll [b.regSet 3 1 allBits fun _ => R.PRT_GATE_CFG p, b.regSet 3 8 allBits (R.PRT_GATE_SDU p),
    b.regSets 3 1 [fun _ => R.PRT_GATE_OPER_CYCLE p, fun _ => R.PRT_GATE_OPER_COUNT p, fun _ => R.PRT_GATE_OPER_BASE_NS p,
      fun _ => R.PRT_GATE_OPER_BASE_S_LO p, fun _ => R.PRT_GATE_OPER_BASE_S_HI p],
    xorAll ((List.range 1024).map entry)]

/-- Class 3, QUEUE. -/
def Block.queueDigest (b : Block) : Nat :=
  xorAll [b.regSets 3 8 rgnQueueSet, b.regSet 3 8 0xFFFFFF R.RGN_SAMP_CFG,
    b.regSet 3 65536 allBits fun i => R.RGN_QCFG (i / 8192) (i % 8192),
    b.regSet 3 65536 allBits fun i => R.RGN_QSPILL (i / 8192) (i % 8192),
    b.regSet 3 65536 allBits fun i => R.RGN_QLIM (i / 8192) (i % 8192),
    b.regSet 3 65536 allBits fun i => R.RGN_QSCHED (i / 8192) (i % 8192),
    b.regSet 3 8192 allBits fun i => R.RGN_GSCHED (i / 1024) (i % 1024),
    b.regSet 3 128 allBits fun i => R.RGN_EKW_SEL (i / 16) (i % 16),
    xorAll ((List.range (8 * 9216)).map fun i => b.shaperHash (i / 9216) (i % 9216)),
    xorAll ((List.range 256).map b.gateHash),
    b.regSet 3 32 allBits fun i => R.XEP_XB_LL (i / 8) (i % 8),
    b.regSet 3 16 allBits fun i => R.TBL_EM_SEED (i / 4) (i % 4),
    b.regSet 3 12 allBits fun i => R.TBL_EM_LIMIT (i / 3) (i % 3), b.regSets 3 4 tblQueueSet,
    b.regSet 3 1024 allBits fun i => R.TBL_LPM_BSEL (i / 256) (i % 256),
    b.regSet 3 4 allBits R.DIE_SENT_CFG, b.regSet 3 16 allBits fun i => R.DIE_SENT_FLOOR (i / 4) (i % 4),
    b.regSet 3 4 allBits R.DIE_SAG_CFG, b.regSet 3 1 allBits fun _ => R.XBAR_CASC_CFG,
    b.regSet 3 1 3 fun _ => R.PKG_LEVEL_CTRL]

/-- CHN.TALLY[k] (Table 15-5). -/
def Block.tally (b : Block) (k : Nat) : Nat :=
  match k with
  | 0 => b.word (R.BOOT_IMAGE_DIGEST 0) + 2 ^ 32 * b.word (R.BOOT_IMAGE_DIGEST 1)
  | 1 => tallyHash (leBytes 1 1 ++ (List.range 32).flatMap fun C => leBytes 8 (b.ctr (R.CLS_CS_DIGEST_LOAD C)))
  | 2 => b.portDigest
  | 3 => b.queueDigest
  | 15 | 17 => 0
  | k =>
    if k < 20 then tallyHash (leBytes 1 k ++ (List.range 4).flatMap fun d => leBytes 8 (b.dieValue d (k - 4))) else 0
/-- CHN.TALLY_LEARNED. -/
def Block.tallyLearned (b : Block) : Nat := xorAll ((List.range 4).map b.learnedDigest)

/-! ## Registers that show other state -/

/-- A message of a collector as 64 bits (Table 16-1). -/
def Msg.word (m : Msg) : Nat :=
  (m.typ * 2 ^ 12 + m.idx) * 2 ^ 48 + m.kind * 2 ^ 40 + m.sev * 2 ^ 38 + b2n m.lost * 2 ^ 37 + b2n m.injected * 2 ^ 36 + m.addr

/-- TIM registers (R352, R356). -/
def Block.timShown (b : Block) (a i w : Nat) : Nat :=
  if a == R.TIM_BASE_STATUS i then F.TIM_BASE_STATUS_STATE.put w (b.tbase i).state.code
  else if a == R.TIM_TIME_NS i then (b.tbase i).ns
  else w

/-- The head of the package queue (R479). -/
def Block.fltShown (b : Block) (a w : Nat) : Nat :=
  let m := b.flt.held.headD { typ := 0, idx := 0, kind := 0 }
  let some_ := !b.flt.held.isEmpty
  if a == R.FLT_STATUS then F.FLT_STATUS_STORED.put w b.flt.held.length
  else if a == R.FLT_HEAD_MSG_LO then (if some_ then m.word % 2 ^ 32 else 0)
  else if a == R.FLT_HEAD_MSG_HI then (if some_ then m.word / 2 ^ 32 else 0)
  else if a == R.FLT_HEAD_SEQ then (if some_ then m.seq else 0)
  else if a == R.FLT_HEAD_TS_NS then (if some_ then m.stamp.word else 0)
  else if a == R.FLT_HEAD_TS_S_LO then (if some_ then m.stamp.s % 2 ^ 32 else 0)
  else if a == R.FLT_HEAD_TS_S_HI then (if some_ then m.stamp.s / 2 ^ 32 else 0)
  else if a == R.FLT_FAULT_N_CTRL then
    F.FLT_FAULT_N_CTRL_LOW.put w (b2n (b.faultN.till.isSome || b.faultN.latched || F.FLT_FAULT_N_CTRL_FORCE.of w == 1))
  else w

/-- BOOT registers that read the fuses (Table 14-18). -/
def Block.bootShown (b : Block) (a w : Nat) : Nat :=
  if a == R.BOOT_KEY_STATUS then
    F.BOOT_KEY_STATUS_OPEN.put (F.BOOT_KEY_STATUS_REVOKED.put (F.BOOT_KEY_STATUS_PROGRAMMED.put w b.fuses.programmed)
      b.fuses.revoked) (b2n (b.fuses.programmed == 0))
  else if a == R.BOOT_FUSE_SVN then b.fuses.svn
  else w

/-- Word j of a frame's payload, byte 4j in [7:0]. -/
def payloadWord (l : List Byte) (j : Nat) : Nat := leVal (slice l (4 * j) (4 * j + 4))

/-- CHN registers (Tables 15-7, 15-9). -/
def Block.chnShown (b : Block) (a j w : Nat) : Nat :=
  let f := b.chain.rx.headD {}
  if a == R.CHN_STATUS then
    F.CHN_STATUS_IN_LOCK.put (F.CHN_STATUS_IN_LOST.put (F.CHN_STATUS_HEAD.put w
      (b.fld R.PKG_STRAPS F.PKG_STRAPS_RING_HEAD)) (b2n b.chain.lost)) (b2n b.chain.locked)
  else if a == R.CHN_HEAD_STATUS then F.CHN_HEAD_STATUS_ENUM_BUSY.put w (b2n b.chain.enumBusy)
  else if b.chain.rx.isEmpty then w
  else if a == R.CHN_RX_HDR0 then f.tag * 2 ^ 24 + f.kind * 2 ^ 16 + f.dest
  else if a == R.CHN_RX_HDR1 then 2 ^ 31 + b2n f.crcBad * 2 ^ 30 + f.len % 128
  else if a == R.CHN_RX_DATA j then payloadWord f.payload j
  else w

/-- PAIR.STATUS.LAG and TALLY_EQ (Tables 15-15, 15-16). -/
def Block.pairShown (b : Block) (a w : Nat) : Nat :=
  if a == R.PAIR_STATUS then F.PAIR_STATUS_LAG.put w (sat 65535 b.pair.waiting.length)
  else if a == R.PAIR_TALLY_EQ then
    (List.range 20).foldl (fun v k => v + b2n (b.ctr (R.PAIR_PEER_TALLY k) == b.tally k) * 2 ^ k) 0
  else w

/-- The 32 summary bits of word k: whether instance or port 32k + j has a bit of m set in its register. -/
def Block.summary (b : Block) (reg : Nat → Nat) (m k : Nat) : Nat :=
  (List.range 32).foldl (fun v j => v + b2n (b.word (reg (32 * k + j)) &&& m != 0) * 2 ^ j) 0

/-- RXR_STATUS, TXR_STATUS (R385). -/
def Block.ringStatus (b : Block) (tx : Bool) (r : Nat) : Nat :=
  let owner := if tx then b.txOwner r else b.rxOwner r
  let hw := if tx then (b.txRing r).hw % b.txSize r else (b.rxRing r).hw % b.rxSize r
  b2n (b.quiesced tx r) * 2 ^ 31 + b2n owner.isSome * 2 ^ 30 + owner.getD 0 * 2 ^ 16 + hw

def Block.hifShown (b : Block) (a i w : Nat) : Nat :=
  if a == R.HIF_INT0_CAUSE then (List.range 10).foldl (fun v n => v + b2n (b.causePending n) * 2 ^ n) 0
  else if a == R.HIF_SUM_LINK i then b.summary R.MAC_LINK_EVENTS 7 i
  else if a == R.HIF_SUM_GATE i then b.summary R.PRT_GATE_STATUS (2 ^ 25) i
  else if a == R.HIF_SUM_INSRESET i then b.summary R.INS_INS_STATUS (2 ^ 30) i
  else if a == R.HIF_SUM_MBOX i then b.summary R.INS_MBOX_CTRL 2 i
  else if a == R.HIF_STG_FREE then b.stgFree
  else if a == R.HIF_RXR_STATUS i then b.ringStatus false i
  else if a == R.HIF_TXR_STATUS i then b.ringStatus true i
  else w

/-- Entries of a pool's cache, and its place in the free ring (POOL_STATUS). -/
def Block.poolStatus (b : Block) (i k : Nat) : Nat :=
  let x := b.pool i k
  sat 127 x.cache.length * 2 ^ 16 + x.head % 2 ^ 16
def Block.insStatus (b : Block) (i : Nat) : Nat :=
  F.INS_INS_STATUS_VECTORS.put (F.INS_INS_STATUS_VF_ENABLED.put (b.word (R.INS_INS_STATUS i)) (b2n (i != 0 && b.fnLive i))) (b.vectors i)

def Block.insShown (b : Block) (a i k w : Nat) : Nat :=
  if a == R.INS_INS_STATUS i then b.insStatus i
  else if a == R.INS_POOL_STATUS i k then b.poolStatus i k
  else if a == R.INS_MBOX_CTRL i then
    F.INS_MBOX_CTRL_TO_VF_PENDING.put w (b.fld (R.LAY_MBOX_CTRL i) F.LAY_MBOX_CTRL_FROM_PF_PENDING)
  else w

/-- The layout of instance i (Table 18-9): item k, word w. -/
def Block.layShown (b : Block) (a i k w : Nat) : Nat :=
  let hw (tx : Bool) : Nat := match b.ringOf tx i k with
    | some r => if tx then (b.txRing r).hw % b.txSize r else (b.rxRing r).hw % b.rxSize r
    | none => 0
  let ring (tx : Bool) (f : Nat → Nat) : Nat := match b.ringOf tx i k with | some r => f r | none => 0
  if a == R.LAY_RXHW i k then hw false
  else if a == R.LAY_TXHW i k then hw true
  else if a == R.LAY_RXDB i k then ring false fun r => (b.rxRing r).db
  else if a == R.LAY_TXDB i k then ring true fun r => (b.txRing r).db
  else if a == R.LAY_RXINT i k then ring false fun r => (b.ringInt false r).reg
  else if a == R.LAY_TXINT i k then ring true fun r => (b.ringInt true r).reg
  else if a == R.LAY_POOL_HEAD i k then (b.pool i k).head % 2 ^ 16
  else if a == R.LAY_INS_STATUS i then b.insStatus i
  else if a == R.LAY_RESOURCES i then
    F.INS_RX_RANGE_COUNT.of (b.word (R.INS_RX_RANGE i)) * 2 ^ 16 + F.INS_TX_RANGE_COUNT.of (b.word (R.INS_TX_RANGE i))
  else if a == R.LAY_WIN_VIEW i k then
    let c := b.word (R.INS_WIN_CFG i k)
    F.INS_WIN_CFG_EN.of c * 2 ^ 31 + F.INS_WIN_CFG_TABLE.of c * 2 ^ 16 + sat 65535 (b.winSize i k)
  else if a == R.LAY_MBOX_CTRL i then
    F.LAY_MBOX_CTRL_TO_PF_PENDING.put w (b.fld (R.INS_MBOX_CTRL i) F.INS_MBOX_CTRL_TO_PF_PENDING)
  else w

def Block.dieShown (b : Block) (a d w : Nat) : Nat :=
  if a == R.DIE_HOLD_STATUS d then
    F.DIE_HOLD_STATUS_RING.put w (b2n (bitOf (b.word R.CHN_RING_HOLD) d))
  else if a == R.DIE_FLT_STATUS d then F.DIE_FLT_STATUS_BUFFERED.put w (b.die d).col.held.length
  else w

def Block.hbmShown (b : Block) (a d w : Nat) : Nat :=
  if a == R.HBM_SILO_GRANTED d then b.siloGranted d
  else if a == R.HBM_SILO_VOID d then b.siloVoid d
  else w

def Block.tblShown (b : Block) (a d i w : Nat) : Nat :=
  if a == R.TBL_EM_USED d i then (b.engine d).emUsed (i + 1)
  else if a == R.TBL_FENCE_STATUS d then F.TBL_FENCE_STATUS_OUTSTANDING.put w (b.engine d).fences.length
  else if a == R.TBL_FENCE_LEFT d then
    (match (b.engine d).fences with | f :: _ => b.fenceLeft d f.epoch | [] => 0)
  else if a == R.TBL_GLN_STATUS d then (b.engine d).candidates * 2 ^ 16 + (b.engine d).clock % 2 ^ 16
  else w

def Block.rgnShown (b : Block) (a G i j w : Nat) : Nat :=
  let g := b.region G
  if a == R.RGN_BUF_SHARED G then b.sharedUsed G
  else if a == R.RGN_BUF_RESERVED G then b.reservedUsed G
  else if a == R.RGN_BUF_HDRM G then g.hdrmUsed
  else if a == R.RGN_BUF_BORROWED G then g.borrowed
  else if a == R.RGN_BUF_TAIL G then g.tailUsed
  else if a == R.RGN_PTR_USED G then g.ptrUsed
  else if a == R.RGN_QSTAT G i j then
    let q := g.queue i
    if j == 0 then b2n q.spilled * 2 ^ 31 + q.onDie % 2 ^ 18 else q.siloCells % 2 ^ 28
  else if a == R.RGN_LL_STAT G i j then
    let x := g.group (groupKey i j)
    b2n x.xoff * 2 ^ 31 + sat 16383 x.hdrm * 2 ^ 16 + sat 65535 x.shared
  else if a == R.RGN_QSHP_CTRL G i then b2n (b.shaper G i).pend.isSome + w / 2 * 2
  else if a == R.RGN_GSHP_CTRL G i then b2n (b.shaper G (8192 + i)).pend.isSome + w / 2 * 2
  else w

def Block.clsShown (b : Block) (a C w : Nat) : Nat :=
  let live := ((b.cluster C).frags.filter fun e => b.fragAge e.2 < b.fragLife C).length
  if a == R.CLS_FRAG_STATUS C then F.CLS_FRAG_STATUS_LIVE.put w live
  else if a == R.CLS_ME_STATUS C then
    let waiting := b.framesOf fun f => clsOfPort f.port == C && f.loc == .pipe && (match f.me with | .waiting _ => true | _ => false)
    waiting.length * 2 ^ 16 + ((b.cluster C).ctxs.filter fun x => x.2.frame.isSome).length
  else w

/-- GATE_STATUS (Table 11-12) and CT_STATUS. -/
def Block.prtShown (b : Block) (a p w : Nat) : Nat :=
  if a == R.PRT_GATE_STATUS p then
    let w := F.PRT_GATE_STATUS_RUNNING.put w (b2n (b.gateRuns p))
    let w := F.PRT_GATE_STATUS_SHORT_WIN.put w (b2n (b.shortWin p))
    F.PRT_GATE_STATUS_ENTRY.put w (if b.gateRuns p then (b.operSeg p (b.portNs p)).entry else 0)
  else w

/-- The size of die d's trace ring in MiB (R511): none before training or with both stacks failed. -/
def Block.traceMiB (b : Block) (d : Nat) : Nat :=
  if !b.flag (R.HBM_TRAIN_STATUS d) F.HBM_TRAIN_STATUS_DONE then 0
  else match b.fld (R.HBM_TRAIN_STATUS d) F.HBM_TRAIN_STATUS_FAILED with
    | 0 => 2048
    | 3 => 0
    | _ => 1024

def Block.obsShown (b : Block) (a i w : Nat) : Nat :=
  if a == R.OBS_TRC_STATUS i then F.OBS_TRC_STATUS_SIZE.put w (b.traceMiB i)
  else if a == R.OBS_SNAP_STATUS then F.OBS_SNAP_STATUS_PENDING.put w (b2n b.pendSnap.isSome)
  else w

/-- The 32-bit register found at address a, as a read shows it. -/
def Block.shown (b : Block) (a : Nat) (h : RegHit) : Nat :=
  let w := b.word a
  match h.blk with
  | .tim => b.timShown a h.i w
  | .flt => b.fltShown a w
  | .chn => b.chnShown a h.i w
  | .pair => b.pairShown a w
  | .hif => b.hifShown a h.i w
  | .ins => b.insShown a h.inst h.i w
  | .lay => b.layShown a h.inst h.i w
  | .die => b.dieShown a h.inst w
  | .hbm => b.hbmShown a h.inst w
  | .xep => if a == R.XEP_LINK_STATUS h.inst then b.linkStatus h.inst else w
  | .tbl => b.tblShown a h.inst h.i w
  | .rgn => b.rgnShown a h.inst h.i h.j w
  | .cls => b.clsShown a h.inst w
  | .prt => b.prtShown a h.inst w
  | .obs => b.obsShown a h.i w
  | .boot => b.bootShown a w
  | .pkg | .xbar | .lane | .mac => w

/-- Fields that a read does not return: write-only ones (Table 0-3). -/
def RegDesc.readable (r : RegDesc) (v : Nat) : Nat :=
  r.flds.foldl (fun acc f => if f.acc == .wo then acc else acc + (Bf.of ⟨f.hi, f.lo⟩ v) * 2 ^ f.lo) 0

/-! ## 64-bit registers (R14, R501) -/

/-- Where a unit's reference counter lies. -/
def isPmcRef (h : RegHit) : Bool :=
  match h.blk with
  | .obs => h.off / 8 == 0x1008 / 8
  | .hif => h.off / 8 == 0x6008 / 8
  | .die => h.off / 8 == 0x5008 / 8
  | .tbl | .hbm => h.off / 8 == 0x3008 / 8
  | .xep => h.off / 8 == 0x1008 / 8
  | .rgn => h.off / 8 == 0x71008 / 8
  | .cls => h.off / 8 == 0x8008 / 8
  | .prt | .mac => h.off / 8 == 0xF08 / 8
  | _ => false

/-- The privileged address of a 64-bit register (R528: an instance's counters are those of its INS block), low word. -/
def ctrHome (a : Nat) (h : RegHit) : Nat :=
  if h.blk == .lay then insBase h.inst + 0x800 + (h.off - 4 * h.word - 0x90000) else a - 4 * h.word

/-- The 64-bit register found at address a. -/
def Block.ctrShown (b : Block) (a : Nat) (h : RegHit) : Nat :=
  let c := ctrHome a h
  if isPmcRef h then b.ticks % 2 ^ 64
  else if h.blk == .chn && 0x100 ≤ h.off && h.off < 0x1A0 then b.tally h.i
  else if h.blk == .chn && h.off / 8 == 0x1A0 / 8 then b.tallyLearned
  else b.ctr c

/-! ## Snapshot copies (R508 to R510) -/

/-- Whether the register is one that the manual defines as a counter: the 64-bit registers but for digests, sequence numbers,
TRC_HEAD and the published bandwidth windows; and the 32-bit ESC_COUNT, which R503 names as one (DEDUCED, assumption 27). -/
def isCounter (h : RegHit) : Bool :=
  if h.desc.wide then
    match h.blk with
    | .chn => h.off ≥ 0x300
    | .pair => h.off ≥ 0x300
    | .obs => h.off ≥ 0x1000 || h.off % 0x20 ≥ 0x10
    | .cls => h.off / 0x10 != 0x84
    | .mac => h.off / 0x100 != 7
    | _ => true
  else (h.blk == .flt && h.off == 0x14) || (h.blk == .die && h.off == 0x4014)

/-- The key of a counter's copy: the reference counters of all units show one value (R501), and share one copy. -/
def snapKey (a : Nat) (h : RegHit) : Nat := if h.desc.wide && isPmcRef h then R.OBS_PMC_REF else a

/-- The copy of the counter at privileged offset a; none where a names no counter. -/
def Block.snapAt (b : Block) (a : Nat) : Option Nat :=
  match findReg a with
  | some h => if isCounter h && h.word == 0 && h.blk != .lay then some (SMap.get 0 b.snap (snapKey a h)).toNat else none
  | none => none

/-! ## Who reaches what (R379, R418, R527) -/

/-- The latch that the low word of a 64-bit register fills: one per requester (R14). -/
def ctrLatch : Nat := 0

/-- Whether register h of a layout exists for instance i: its ring, pool and vector must be its own (R379). -/
def Block.layHas (b : Block) (i : Nat) (h : RegHit) : Bool :=
  if h.off < 0x20000 then (b.ringOf false i h.i).isSome
  else if h.off < 0x7F000 then (b.ringOf true i h.i).isSome
  else true

/-- Before DONE a requester of the host reaches the PKG, BOOT, FLT and HIF blocks (R418). -/
def Blk.early : Blk → Bool
  | .pkg | .boot | .flt | .hif => true
  | _ => false
/-- Whether an access of the host at address a reads 0 or is discarded with no fault: before DONE, outside those blocks (R418). -/
def Block.quiet (b : Block) (a : Nat) : Bool :=
  !b.locked && !(match decodeAddr a with | some (k, _, _) => k.early | none => false)

/-- Whether an offset of instance i's layout lies in its MSI-X table (16 bytes a vector) or its PBA (R378). What the words
mean is PCIe's (assumption 26). -/
def Block.msixTable (b : Block) (i off : Nat) : Bool := 0xC0000 ≤ off && off < 0xC0000 + 16 * b.vectors i
def Block.msixPba (b : Block) (i off : Nat) : Bool := 0xD0000 ≤ off && off < 0xD0000 + (b.vectors i + 63) / 64 * 8
/-- The instance and offset that a layout address names. -/
def layPlace (a : Nat) : Nat × Nat := ((a - 2 ^ 32) / 2 ^ 20, viewOff a)
def Block.isMsix (b : Block) (a : Nat) : Bool :=
  a ≥ 2 ^ 32 && (b.msixTable (layPlace a).1 (layPlace a).2 || b.msixPba (layPlace a).1 (layPlace a).2)

/-- A word of an MSI-X table as software sees it: bit 0 of Vector Control is held inverted. -/
def flipMask (off v : Nat) : Nat := if off % 16 == 12 then v ^^^ 1 else v
/-- A word of the MSI-X table or the PBA of a layout: the PBA shows the pending messages. -/
def Block.msixWord (b : Block) (a : Nat) : Nat :=
  let p := layPlace a
  if b.msixTable p.1 p.2 then flipMask p.2 (SMap.get 0 b.regs a).toNat
  else (b.inst p.1).msixPend / 2 ^ (8 * (p.2 - 0xD0000)) % 2 ^ 32
/-- A write to a word of the MSI-X table: a vector that it unmasks sends what is pending. The PBA is read-only. -/
def Block.msixWrite (b : Block) (a v : Nat) : Block :=
  let p := layPlace a
  if b.msixTable p.1 p.2 then
    { b with regs := SMap.set 0 b.regs a (BitVec.ofNat 32 (flipMask p.2 v)) }.msixFlush p.1
  else b

/-- The address a requester's offset means: an instance's offsets lie in its layout. -/
def readerAddr (r : Reader) (a : Nat) : Nat :=
  match r with | .inst i => layBase i + a % 2 ^ 20 | _ => a

/-- A read of the aligned 32-bit register at offset a of the requester's view: the word, with the latches it fills, and the RC
fields it clears where `clear`. -/
def Block.readReg (b : Block) (req : Nat) (host clear : Bool) (a : Nat) : Nat × Block :=
  let bad := (0, b.accessFault req 0 false (viewOff a))
  if host && b.quiet a then (0, b)
  else if a % 4 != 0 then (0, b.accessFault req 2 false (viewOff a))
  else match findReg a with
  | none => if b.isMsix a then (b.msixWord a, b) else bad
  | some h =>
    if h.blk == .lay && !b.layHas h.inst h then bad
    else if h.desc.wide then
      if h.word == 0 then
        let v := b.ctrShown a h
        (v % 2 ^ 32, b.setLatch req ctrLatch (v / 2 ^ 32 % 2 ^ 32))
      else (b.latched req ctrLatch, b)
    else if a == R.TIM_TIME_NS h.i then
      let t := b.tbase h.i
      (t.ns, (b.setLatch req (R.TIM_TIME_S_LO h.i) (t.s % 2 ^ 32)).setLatch req (R.TIM_TIME_S_HI h.i) (t.s / 2 ^ 32))
    else if a == R.TIM_TIME_S_LO h.i || a == R.TIM_TIME_S_HI h.i then (b.latched req a, b)
    else if a == R.OBS_SNAP_ADDR then (b.latched req a, b)
    else if a == R.OBS_SNAP_DATA_LO || a == R.OBS_SNAP_DATA_HI then
      match b.snapAt (b.latched req R.OBS_SNAP_ADDR) with
      | some v => (if a == R.OBS_SNAP_DATA_LO then v % 2 ^ 32 else v / 2 ^ 32, b)
      | none => bad
    else
      let v := h.desc.readable (b.shown a h)
      let rest := h.desc.flds.foldl (fun w f => if f.acc == .rc then Bf.put ⟨f.hi, f.lo⟩ w 0 else w) (b.word a)
      (v, if clear then b.setWord a rest else b)

/-! ## The reads -/

/-- Whether the function that a reader reads through is there (R375); a virtual function that is not answers nothing. -/
def Block.readerLive (b : Block) (r : Reader) : Bool := match r with | .inst i => b.fnLive i.val | _ => true

/-- A read of size `size` at offset a of the reader's view (R11): other than an aligned 32-bit access (or an aligned 64-bit one
of the MSI-X table, R520) it reads 0 and is reported. A read of configuration space names its register. -/
def Block.readAt (r : Reader) (a : Nat) (size : AccessSize) (b : Block) : Block :=
  let q := readerCode r
  let x := readerAddr r a
  let host := r != .obs
  let bad := if host && b.quiet x then b else b.accessFault q 2 false (viewOff x)
  if !b.readerLive r then b
  else match size with
  | .config c => match r with
    | .host => b.answer q [b.configRead 0 c]
    | .inst i => b.answer q [b.configRead i.val c]
    | .obs => b
  | .dword => let v := b.readReg q host host x; v.2.answer q [v.1]
  | .qword =>
    if b.isMsix x && x % 8 == 0 then
      let v := b.readReg q host host x
      let u := v.2.readReg q host host (x + 4)
      u.2.answer q [v.1, u.1]
    else bad.answer q [0]
  | .other => bad.answer q [0]

/-- COUNTER_LOW_READ (R14). -/
def Block.counterRead (r : Reader) (a : Nat) (size : AccessSize) (b : Block) : Block := b.readAt r a size
/-- READ_CLEAR (R15), and every other register read. -/
def Block.readClear (r : Reader) (a : Nat) (size : AccessSize) (b : Block) : Block := b.readAt r a size
/-- TIME_READ (R369): a read of TIME_NS[i] by instance 0 or the OBS port; no other reader reaches it. -/
def Block.timeRead (r : Reader) (i : Nat) (b : Block) : Block :=
  match r with
  | .host | .obs => b.readAt r (R.TIM_TIME_NS i) .dword
  | .inst _ => b

end Sys2Proof.Machine
end

