-- ==== Sys2Proof/Machine/Observe.lean ====
section
/-!
DEFINITION. Machine/Observe.lean: counter units, bandwidth windows, snapshots, the trace rings and the OBS port (spec/17,
R501 to R517; R456).
-/
namespace Sys2Proof.Machine
open Sys2Proof

/-! ## Counter units (R501 to R504) -/

def unitOf : CounterUnit → PUnit
  | .pkg => .pkg | .hif => .hif | .die d => .die d.val | .tbl d => .tbl d.val | .hbm d => .hbm d.val | .xep d => .xep d.val
  | .rgn g => .rgn g.val | .cls c => .cls c.val | .prt p => .prt p.val | .mac p => .mac p.val

/-- Every counter unit (Table 17-1). -/
def allUnits : List PUnit :=
  [.pkg, .hif] ++ (List.range 4).flatMap (fun d => [.die d, .tbl d, .hbm d, .xep d]) ++ (List.range 8).map .rgn
    ++ (List.range 32).map .cls ++ (List.range 256).map .prt ++ (List.range 256).map .mac

/-- Table 17-3: for an event that the unit's type defines, the range of its qualifier; (1, 0), an empty range, where the column
has none. -/
def PUnit.event (u : PUnit) (ev : Nat) : Option (Nat × Nat) :=
  match u, ev with
  | .pkg, 1 => some (0, 0xFF)
  | .pkg, 2 | .pkg, 3 => some (1, 9)
  | .pkg, 4 => some (0, 3)
  | .pkg, 5 | .pkg, 6 => some (1, 6)
  | .hif, 1 | .hif, 2 | .hif, 3 | .hif, 4 | .hif, 5 => some (0, 255)
  | .hif, 6 | .hif, 7 => some (1, 0)
  | .die _, 1 => some (0, 1)
  | .die _, 2 | .die _, 3 | .die _, 4 => some (1, 0)
  | .die _, 5 => some (0, 3)
  | .tbl _, 1 => some (0, 15)
  | .tbl _, 2 | .tbl _, 3 | .tbl _, 6 => some (1, 0)
  | .tbl _, 4 => some (0, 15)
  | .tbl _, 5 => some (1, 3)
  | .hbm _, 1 | .hbm _, 2 | .hbm _, 3 | .hbm _, 4 | .hbm _, 5 | .hbm _, 6 => some (0, 1)
  | .xep _, 1 | .xep _, 4 | .xep _, 5 => some (0, 7)
  | .xep _, 2 => some (0, 3)
  | .xep _, 3 => some (0, 2)
  | .rgn _, 1 | .rgn _, 2 | .rgn _, 3 | .rgn _, 5 => some (0, 31)
  | .rgn _, 4 | .rgn _, 6 | .rgn _, 8 | .rgn _, 10 => some (1, 0)
  | .rgn _, 7 => some (0, 63)
  | .rgn _, 9 => some (0, 2)
  | .cls _, 1 => some (0, 7)
  | .cls _, 2 => some (1, 14)
  | .cls _, 3 | .cls _, 4 => some (1, 0)
  | .cls _, 5 => some (1, 10)
  | .cls _, 6 | .cls _, 7 => some (0, 3)
  | .prt _, 3 => some (0, 15)
  | .prt _, 1 | .prt _, 2 | .prt _, 4 | .prt _, 5 | .prt _, 8 => some (1, 0)
  | .prt _, 6 | .prt _, 7 => some (0, 255)
  | .mac _, 1 | .mac _, 2 | .mac _, 3 | .mac _, 4 => some (1, 0)
  | .mac _, 5 | .mac _, 6 => some (0, 7)
  | .mac _, 7 => some (0, 3)
  | _, _ => none

/-- Whether a write of v to PMC_SEL is taken (R502); the qualifier of an event that is not defined has no range. -/
def PUnit.selOk (u : PUnit) (v : Nat) : Bool :=
  let q := F.OBS_PMC_SEL_QUAL.of v
  match u.event (F.OBS_PMC_SEL_EVENT.of v) with
  | none => F.OBS_PMC_SEL_EN.of v == 0
  | some (lo, hi) => q == 0xFFF || (lo ≤ q && q ≤ hi)

def Block.clearUnit (b : Block) (u : PUnit) : Block := b.each 8 fun b k => b.setCtr (u.base + 0x40 + 8 * k) 0

/-- A write of PMC_SEL[k] of a unit: it sets the counter to 0. -/
def Block.pmcSelWrite (w : Writer) (u : PUnit) (k v : Nat) (b : Block) : Block :=
  let a := u.base + 0x10 + 4 * k
  if u.selOk v then (b.storeReg w a v).setCtr (u.base + 0x40 + 8 * k) 0 else b.refuse w a
/-- A write of PMC_CTRL of a unit. -/
def Block.pmcCtrl (w : Writer) (u : PUnit) (v : Nat) (b : Block) : Block :=
  let b := if F.OBS_PMC_CTRL_CLR.of v == 1 then b.clearUnit u else b
  b.storeReg w u.base v
/-- A write of PMC_GLOBAL (R503). -/
def Block.pmcGlobal (w : Writer) (v : Nat) (b : Block) : Block :=
  let b := if F.OBS_PMC_GLOBAL_CLEAR_ALL.of v == 1 then allUnits.foldl Block.clearUnit b else b
  let b := b.storeReg w R.OBS_PMC_GLOBAL v
  allUnits.foldl (fun b u => b.setFld u.base F.OBS_PMC_CTRL_FREEZE (F.OBS_PMC_GLOBAL_FREEZE_ALL.of v)) b

/-- PMC_SEL (R502). -/
def Block.pmcSel (w : Writer) (u : CounterUnit) (k v : Nat) (b : Block) : Block := b.pmcSelWrite w (unitOf u) k v
/-- PMC_CLR (R501). -/
def Block.pmcClr (w : Writer) (u : CounterUnit) (v : Nat) (b : Block) : Block :=
  if F.OBS_PMC_CTRL_CLR.of v == 0 then b else b.pmcCtrl w (unitOf u) v
/-- PMC_FREEZE (R501). -/
def Block.pmcFreeze (w : Writer) (u : CounterUnit) (v : Nat) (b : Block) : Block := b.pmcCtrl w (unitOf u) v
/-- FREEZE_ALL (R503). -/
def Block.freezeAll (w : Writer) (v : Nat) (b : Block) : Block := b.pmcGlobal w v
/-- CLEAR_ALL (R503). -/
def Block.clearAll (w : Writer) (v : Nat) (b : Block) : Block :=
  if F.OBS_PMC_GLOBAL_CLEAR_ALL.of v == 0 then b else b.pmcGlobal w v

/-! ## Bandwidth windows (R507) -/

def Block.bwLen (b : Block) (p : Nat) : Nat := b.fld (R.MAC_BW_CFG p) F.MAC_BW_CFG_WINDOW * 1000

/-- BW_WINDOW: the window of port p that started at the tick `bwFrom` has ended. -/
def Block.bwWindow (p : Nat) (b : Block) : Block :=
  let x := b.port p
  let n := b.bwLen p
  if b.ticks < x.bwFrom + n then b
  else
    let b := (b.setCtr (R.MAC_BW_RX_BYTES p) x.bwRx).setCtr (R.MAC_BW_TX_BYTES p) x.bwTx
    let b := b.setCtr (R.MAC_BW_RX_MAX p) (max x.bwRx (b.ctr (R.MAC_BW_RX_MAX p)))
    let b := b.setCtr (R.MAC_BW_TX_MAX p) (max x.bwTx (b.ctr (R.MAC_BW_TX_MAX p)))
    let b := (b.raise (R.MAC_BW_STATUS p) F.MAC_BW_STATUS_VALID).setFld (R.MAC_BW_STATUS p) F.MAC_BW_STATUS_NUM (x.bwFrom / n)
    b.modPort p fun x => { x with bwRx := 0, bwTx := 0, bwFrom := x.bwFrom + n }

/-- BW_CFG_WRITE: the maxima are cleared on CLR_MAX; the window in progress is discarded and measurement restarts at the next
multiple of the new WINDOW. -/
def Block.bwCfgWrite (w : Writer) (p v : Nat) (b : Block) : Block :=
  let n := F.MAC_BW_CFG_WINDOW.of v
  if n == 0 || n > 1000000 then b.refuse w (R.MAC_BW_CFG p)
  else
    let b := if F.MAC_BW_CFG_CLR_MAX.of v == 1 then (b.setCtr (R.MAC_BW_RX_MAX p) 0).setCtr (R.MAC_BW_TX_MAX p) 0 else b
    let b := (b.storeReg w (R.MAC_BW_CFG p) v).lower (R.MAC_BW_STATUS p) F.MAC_BW_STATUS_VALID
    b.modPort p fun x => { x with bwRx := 0, bwTx := 0, bwFrom := (b.ticks + n * 1000 - 1) / (n * 1000) * (n * 1000) }

/-! ## Snapshots (R456, R508 to R510) -/

/-- The copies of every counter as it stands. -/
def Block.copies (b : Block) : SMap (BitVec 64) :=
  let keep (a : Nat) : Bool := match findReg a with | some h => isCounter h && !(h.desc.wide && isPmcRef h) | none => false
  let wide := b.ctrs.filter fun e => keep e.1
  let esc := [R.FLT_ESC_COUNT] ++ (List.range 4).map R.DIE_ESC_COUNT
  let m := esc.foldl (fun (m : SMap (BitVec 64)) a => SMap.set 0 m a (BitVec.ofNat 64 (b.word a))) wide
  SMap.set 0 m R.OBS_PMC_REF (BitVec.ofNat 64 b.ticks)

/-- Latches every counter, with the instant t and a tag (R509). -/
def Block.latchAll (b : Block) (t : Stamp) (tag : Nat) : Block :=
  let pair (x : Pair) : Pair := { x with snapPackets := x.packets, snapBytes := x.bytes }
  let region (g : Region) : Region := { g with pairs := g.pairs.map fun (e : Nat × Pair) => (e.1, pair e.2) }
  let b := { b with snap := b.copies, regions := b.regions.map fun (e : Nat × Region) => (e.1, region e.2) }
  let b := b.setFld R.OBS_SNAP_STATUS F.OBS_SNAP_STATUS_SEQ (b.fld R.OBS_SNAP_STATUS F.OBS_SNAP_STATUS_SEQ + 1)
  let b := ((b.setWord R.OBS_SNAP_TIME_NS t.word).setWord R.OBS_SNAP_TIME_S_LO (t.s % 2 ^ 32)).setWord R.OBS_SNAP_TIME_S_HI
    (t.s / 2 ^ 32)
  ((b.setWord R.OBS_SNAP_REF_LO (b.ticks % 2 ^ 32)).setWord R.OBS_SNAP_REF_HI (b.ticks / 2 ^ 32)).setWord R.CHN_SNAP_ID tag

/-- The block one reference tick on, as far as the time bases and ticks go. -/
def Block.nextTick (b : Block) : Block :=
  if b.refLost then b
  else { b with ticks := b.ticks + 1, baseA := b.baseA.tick (b.ticks + 1), baseB := b.baseB.tick (b.ticks + 1) }

/-- Whether base i has reached an instant. -/
def Block.reached (b : Block) (x : PendSnap) : Bool :=
  let t := b.tbase x.base
  x.s * 1000000000 + x.ns ≤ t.s * 1000000000 + t.ns

/-- Sets a pending instant (R456): false where the base is not STEPPED, which refuses it; one already passed latches at once
and sets SNAP_LATE. -/
def Block.setSnap (b : Block) (x : PendSnap) : Bool × Block :=
  if (b.tbase x.base).state != .stepped then (false, b.count R.CHN_SNAP_REFUSED 1)
  else if b.reached x then
    let b := ({ b with pendSnap := none }).latchAll (b.stampOf x.base) x.tag
    (true, b.raise R.CHN_STATUS F.CHN_STATUS_SNAP_LATE)
  else (true, { b with pendSnap := some x })

/-- SNAPSHOT_LATCH (R508): the named base has reached the pending instant. -/
def Block.snapshotLatch (b : Block) : Block :=
  match b.pendSnap with
  | some x => if b.reached x then ({ b with pendSnap := none }).latchAll (b.stampOf x.base) x.tag else b
  | none => b

/-- A write of SNAP_CTRL (R509). NOW latches at the next tick, and takes SNAP_TAG as its tag (assumption 28). -/
def Block.snapCtrl (w : Writer) (v : Nat) (b : Block) : Block :=
  let at_ := b.word R.OBS_SNAP_AT_NS
  let ns := F.OBS_SNAP_AT_NS_NS.of at_
  let arm := F.OBS_SNAP_CTRL_ARM.of v == 1
  if arm && ns > 999999999 then b.refuse w R.OBS_SNAP_CTRL
  else
    let tag := b.word R.OBS_SNAP_TAG
    let b := if F.OBS_SNAP_CTRL_CANCEL.of v == 1 then { b with pendSnap := none } else b
    let b := if arm then
        let r := b.setSnap { base := F.OBS_SNAP_AT_NS_BASE.of at_,
                             s := b.word R.OBS_SNAP_AT_S_LO + 2 ^ 32 * b.word R.OBS_SNAP_AT_S_HI, ns := ns, tag := tag }
        if r.1 then r.2 else r.2.raise R.OBS_SNAP_STATUS F.OBS_SNAP_STATUS_REFUSED
      else b
    if F.OBS_SNAP_CTRL_NOW.of v == 1 then
      let n := b.nextTick
      let c := n.latchAll n.stampNow tag
      { c with ticks := b.ticks, baseA := b.baseA, baseB := b.baseB }
    else b

/-- SNAP_NOW. -/
def Block.snapNow (w : Writer) (v : Nat) (b : Block) : Block := if F.OBS_SNAP_CTRL_NOW.of v == 0 then b else b.snapCtrl w v
/-- SNAP_ARM. -/
def Block.snapArm (w : Writer) (v : Nat) (b : Block) : Block := if F.OBS_SNAP_CTRL_ARM.of v == 0 then b else b.snapCtrl w v
/-- SNAP_CANCEL. -/
def Block.snapCancel (w : Writer) (v : Nat) (b : Block) : Block :=
  if F.OBS_SNAP_CTRL_CANCEL.of v == 0 then b else b.snapCtrl w v
/-- SNAP_ADDR (R510): the offset is kept per requester. -/
def Block.snapAddr (w : Writer) (v : Nat) (b : Block) : Block :=
  b.setLatch (writerCode w) R.OBS_SNAP_ADDR (F.OBS_SNAP_ADDR_A.of v * 4)

/-! ## The trace (R511 to R514) -/

def Block.ring (b : Block) (d : Nat) : TraceRing := SMap.get {} b.rings d
def Block.modRing (b : Block) (d : Nat) (f : TraceRing → TraceRing) : Block := { b with rings := SMap.mod {} b.rings d f }

/-- Byte i of the filters (Table 17-9). -/
def Block.filterByte (b : Block) (i : Nat) : Nat := b.word (R.OBS_TRC_FILTER (i / 4)) / 2 ^ (8 * (i % 4)) % 256
def Block.filterHalf (b : Block) (i : Nat) : Nat := b.filterByte i + 256 * b.filterByte (i + 1)

/-- Whether the filters keep a record (R513); a sample is also counted against SAMPLE_DIV of its region. -/
def Block.keeps (b : Block) (r : TraceRec) : Bool × Block :=
  if !bitOf (b.filterByte 0) r.typ then (false, b)
  else match r.typ with
    | 1 => (r.sev ≥ b.filterByte 1, b)
    | 2 =>
      let q := b.filterHalf 6
      (r.opcode < 8 && bitOf (b.filterByte 2) r.opcode && (!bitOf (b.filterByte 3) 2 || r.failed)
        && r.table < 16 && bitOf (b.filterHalf 4) r.table && (!bitOf q 15 || q % 512 == r.requester), b)
    | 6 =>
      if !bitOf (b.filterByte 8) r.region then (false, b)
      else
        let n := (b.region r.region).sampleDiv
        (n == 0, b.modRegion r.region fun g => { g with sampleDiv := (n + 1) % max 1 (b.filterHalf 10) })
    | _ => (true, b)

/-- Units of 32 bytes of a record (Table 17-8). -/
def recUnits : Nat → Nat
  | 2 => 3 | 4 => 2 | 6 => 9 | _ => 1

/-- The bytes of a record: its header (Table 17-7) and its body. -/
def TraceRec.bytes (r : TraceRec) (lost : Bool) (seq : Nat) : List Byte :=
  let n := recUnits r.typ * 32 - 16
  leBytes 1 r.typ ++ leBytes 1 (recUnits r.typ) ++ leBytes 1 (b2n lost * 128 + r.die)
    ++ leBytes 1 (b2n r.stamp.stepped * 2 + r.stamp.base) ++ leBytes 4 seq ++ leBytes 4 r.stamp.ns ++ leBytes 4 r.stamp.s
    ++ (r.body ++ zeros (n - r.body.length)).take n

def padUnit : List Byte := leBytes 1 0 ++ leBytes 1 1 ++ zeros 30

/-- Writes units from unit position u of a ring of n units. -/
def TraceRing.write (t : TraceRing) (n u : Nat) (bytes : List Byte) : TraceRing :=
  let put (m : SMap (List Byte)) (k : Nat) : SMap (List Byte) :=
    SMap.set [] m ((u + k) % n) (slice bytes (32 * k) (32 * k + 32))
  { t with units := (List.range (bytes.length / 32)).foldl put t.units }

/-- An access to stack s of die d: one in self-refresh leaves it (R318). -/
def Block.wakeStack (b : Block) (d s : Nat) : Block :=
  (b.andNotFld (R.HBM_SR_STATUS d) F.HBM_SR_STATUS_V (2 ^ s)).modDie d fun x => { x with srAt := SMap.set 0 x.srAt s b.ticks }
/-- Both stacks: the ring is interleaved over them. -/
def Block.wakeStacks (b : Block) (d : Nat) : Block := (b.wakeStack d 0).wakeStack d 1

/-- A record that the ring does not take: it consumes a SEQ and is counted (R511). -/
def Block.dropRec (b : Block) (d typ : Nat) : Block :=
  let b := (b.setWord (R.OBS_TRC_SEQ d) (b.word (R.OBS_TRC_SEQ d) + 1)).count (R.OBS_TRC_DROP d) 1
  (b.modRing d fun t => { t with lost := true }).pmc .pkg 0x06 typ 1

/-- Writes record r into die d's ring, padding a block that it does not fit (R514). -/
def Block.writeRec (b : Block) (d : Nat) (r : TraceRec) : Block :=
  let n := b.traceMiB d * 32768
  let t := b.ring d
  let head := b.ctr (R.OBS_TRC_HEAD d)
  let u := head / 32 % n
  let len := recUnits r.typ
  let pad := if 128 - u % 128 < len then 128 - u % 128 else 0
  let stop := bitOf (b.filterByte 3) 0
  if stop && t.since + 32 * (pad + len) > 32 * n then
    (b.raise (R.OBS_TRC_STATUS d) F.OBS_TRC_STATUS_STOPPED).dropRec d r.typ
  else
    let seq := b.word (R.OBS_TRC_SEQ d)
    let bytes := (List.replicate pad padUnit).flatten ++ r.bytes t.lost seq
    let used := t.since + 32 * (pad + len)
    let written := t.write n u bytes
    let b := b.modRing d fun _ => { written with lost := false, since := used }
    let b := (b.setCtr (R.OBS_TRC_HEAD d) (head + 32 * (pad + len))).setWord (R.OBS_TRC_SEQ d) (seq + 1)
    let b := (b.wakeStacks d).pmc .pkg 0x05 r.typ 1
    let b := b.each (pad + len) fun b k => b.hbmAsk d (traceStack ((u + k) % n)) (traceUnit ((u + k) % n)) true 0
    if stop && (b.ring d).since ≥ 32 * n then b.raise (R.OBS_TRC_STATUS d) F.OBS_TRC_STATUS_STOPPED else b

/-- Freezes the four rings where MODE says so (R512). -/
def Block.freezeRings (b : Block) : Block :=
  if bitOf (b.filterByte 3) 1 then b.each 4 fun b d => b.raise (R.OBS_TRC_STATUS d) F.OBS_TRC_STATUS_FROZEN else b

/-- The oldest record that waits for die d's ring. -/
def popRec (d : Nat) : List TraceRec → Option (TraceRec × List TraceRec)
  | [] => none
  | r :: rs => if r.die == d then some (r, rs) else (popRec d rs).map fun x => (x.1, r :: x.2)

/-- TRACE_RECORD_WRITE: the oldest record of die d is filtered and written, or dropped; `room`: the write FIFO has room for it.
Until the stacks are trained nothing is written. -/
def Block.traceWrite (d : Nat) (room : Bool) (b : Block) : Block :=
  match popRec d b.records with
  | none => b
  | some (r, rest) =>
    if !b.flag (R.HBM_TRAIN_STATUS d) F.HBM_TRAIN_STATUS_DONE then b
    else
      let k := ({ b with records := rest }).keeps r
      let st := b.word (R.OBS_TRC_STATUS d)
      let b := if !k.1 then k.2
        else if !room || b.traceMiB d == 0 || F.OBS_TRC_STATUS_STOPPED.of st == 1 || F.OBS_TRC_STATUS_FROZEN.of st == 1 then
          k.2.dropRec d r.typ
        else k.2.writeRec d r
      if r.freeze then b.freezeRings else b

/-- A write of TRC_CTRL (R512): UNFREEZE ends a freeze; RESTART starts a stopped ring again. -/
def Block.trcCtrl (v : Nat) (b : Block) : Block :=
  let b := if F.OBS_TRC_CTRL_UNFREEZE.of v == 1 then
      b.each 4 fun b d => b.lower (R.OBS_TRC_STATUS d) F.OBS_TRC_STATUS_FROZEN else b
  if F.OBS_TRC_CTRL_RESTART.of v == 1 then
    b.each 4 fun b d => (b.lower (R.OBS_TRC_STATUS d) F.OBS_TRC_STATUS_STOPPED).modRing d fun t => { t with since := 0 }
  else b
/-- TRC_UNFREEZE. -/
def Block.trcUnfreeze (v : Nat) (b : Block) : Block := if F.OBS_TRC_CTRL_UNFREEZE.of v == 0 then b else b.trcCtrl v
/-- TRC_RESTART. -/
def Block.trcRestart (v : Nat) (b : Block) : Block := if F.OBS_TRC_CTRL_RESTART.of v == 0 then b else b.trcCtrl v

/-- A read of a unit: its 32 bytes (0 where nothing has been written, assumption 29), whether it exists, and whether the
controller could correct it (R317). -/
def Block.readUnit (b : Block) (d u : Nat) (r : TraceRead) : List Byte × Bool × Bool × Block :=
  if u ≥ b.traceMiB d * 32768 then (zeros 32, false, false, b)
  else
    let bytes := match SMap.find (b.ring d).units u with | some l => l | none => zeros 32
    match r with
    | .good s => (bytes, true, false, (b.wakeStack d s.val).hbmAsk d s.val (traceUnit u) false 0)
    | .corrected s => (bytes, true, false, ((b.wakeStack d s.val).hbmAsk d s.val (traceUnit u) false 0).hbmCe d s.val)
    | .bad s a => (bytes, true, true, ((b.wakeStack d s.val).hbmAsk d s.val (traceUnit u) false 0).hbmUe d a.toNat)

/-- TRC_RD_ADDR (R514): the unit named is latched into TRC_RD_DATA. -/
def Block.trcRdAddr (w : Writer) (v : Nat) (r : TraceRead) (b : Block) : Block :=
  let x := b.readUnit (F.OBS_TRC_RD_ADDR_DIE.of v) (F.OBS_TRC_RD_ADDR_UNIT.of v) r
  let b := x.2.2.2.storeReg w R.OBS_TRC_RD_ADDR v
  let b := b.setWord R.OBS_TRC_RD_STATUS (b2n x.2.1 * 2 ^ 31 + b2n x.2.2.1 * 2 ^ 30)
  b.each 8 fun b k => b.setWord (R.OBS_TRC_RD_DATA k) (payloadWord x.1 k)

/-! ## The OBS port (R515 to R517) -/

/-- Whether the port serves: from step 2 of Table 14-3, and not disabled; else the status it answers, if it answers. -/
def Block.obsServes (b : Block) (f : Block → Block) : Block :=
  if b.boot.phase == .off then b
  else if b.flag R.OBS_PORT_CFG F.OBS_PORT_CFG_DISABLE then b.emit (.obs 1 [])
  else f b

/-- Reads `n` times from offset a, `step` apart, with `f`. -/
def obsRun (f : Block → Nat → List Nat × Block) (step : Nat) : Nat → Nat → Block → List Nat × Block
  | 0, _, b => ([], b)
  | n + 1, a, b =>
    let x := f b a
    let y := obsRun f step n ((a + step) % 2 ^ 32) x.2
    (x.1 ++ y.1, y.2)

/-- OBS_REG: `n` words from offset a upward. -/
def Block.obsReg (a n : Nat) (b : Block) : Block :=
  b.obsServes fun b =>
    let x := obsRun (fun b a => let v := b.readReg reqObs false false a; ([v.1], v.2)) 4 n a b
    x.2.emit (.obs 0 x.1)

/-- OBS_SNAP: n copies from offset a upward, each as its low and its high word. -/
def Block.obsSnap (a n : Nat) (b : Block) : Block :=
  b.obsServes fun b =>
    let one (b : Block) (a : Nat) : List Nat × Block :=
      match b.snapAt a with
      | some v => ([v % 2 ^ 32, v / 2 ^ 32], b)
      | none => ([0, 0], b.accessFault reqObs 0 false (viewOff a))
    let x := obsRun one 8 n a b
    x.2.emit (.obs 0 x.1)

/-- OBS_TRACE: the units from `u` of die d upward, with the outcome of each read; each answers with its own status. -/
def Block.obsTrace (d u : Nat) (rs : List TraceRead) (b : Block) : Block :=
  b.obsServes fun b =>
    let b := b.emit (.obs 0 [])
    (rs.foldl (fun (x : Nat × Block) r =>
      let y := x.2.readUnit d x.1 r
      (x.1 + 1, y.2.2.2.emit (.obs (if y.2.2.1 then 3 else 0) ((List.range 8).map (payloadWord y.1))))) (u, b)).2

end Sys2Proof.Machine
end

