-- ==== Sys2Proof/Machine/Hold.lean ====
section
/-!
DEFINITION. Machine/Hold.lean: Hold of an F-die: its sources and release sources, the entry window, what is lost at entry,
the end of entry, the exit, and what a die reset clears (spec/16, R491 to R499; spec/01, R46, R47; spec/10, R288).
-/
namespace Sys2Proof.Machine
open Sys2Proof

def Block.latchH (b : Block) (d : Nat) : Bool := b.flag (R.DIE_HOLD_STATUS d) F.DIE_HOLD_STATUS_LATCH
/-- Whether a source of R493, or a die reset (R489), requests that die d be held. -/
def Block.wanted (b : Block) (d : Nat) : Bool :=
  b.latchH d || bitOf (b.word R.CHN_RING_HOLD) d || (b.die d).resetting

def holdByReg : Nat := 1
def holdByFault : Nat := 2
def holdByRing : Nat := 4
def holdByReset : Nat := 8

/-! ## Trace (Table 17-8) -/

/-- A HOLD record of die d: 1 entry, 2 exit, 3 die reset, 4 forwarding reset. -/
def Block.traceHold (b : Block) (d event cause dropped : Nat) : Block :=
  b.trace { typ := 5, die := d, body := leBytes 1 event ++ leBytes 1 cause ++ zeros 2 ++ leBytes 4 dropped
                                          ++ leBytes 8 (b.ctr (R.DIE_HELD_TICKS d)) }

/-! ## What a Hold entry loses (R46, R288, Table 16-13) -/

/-- The regions of die d. -/
def regionsOf (d : Nat) : List Nat := [2 * d, 2 * d + 1]

/-- Frames and copies in the cells and Silo of region G that are not void. -/
def Block.copiesIn (b : Block) (G : Nat) : Nat :=
  let g := b.region G
  (g.stored.map fun s => g.copiesOf s.1 s.2).sum + (g.queues.map fun q => q.2.inSilo.length).sum

/-- Region G is empty: its cells, queues, groups, pointers waiting and Silo; the XOFF requests it made are withdrawn, and
the transmit paths of its ports hold nothing of it. -/
def Block.emptyRegion (b : Block) (G : Nat) : Block :=
  let keys := ((b.region G).groups.filter fun x => x.2.xoff).map (·.1)
  let b := b.modRegion G fun g => { g with stored := [], queues := [], groups := [], mcPend := [] }
  keys.foldl (fun b k => b.askXoff (k / 8) (k % 8)) b

/-- The transmit paths of region G's ports are empty. -/
def Block.emptyTx (b : Block) (G : Nat) : Block :=
  b.each 32 fun b k => if (b.port (32 * G + k)).tx.isEmpty then b else b.modPort (32 * G + k) fun x => { x with tx := [] }

/-- The source FIFO of die i toward region G of held die d, or the host link toward G (i = 4): it is emptied, and what has not
yet reached the region counts: in HOLD_DROP for the die itself and the host link, in HELD_FLUSH for another die. -/
def Block.flushToward (b : Block) (d G i : Nat) : Block :=
  let n := ((b.input G i).filter fun t => t.st == .waiting).length
  let b := b.setInput G i []
  if n == 0 then b
  else if i == d || i == 4 then b.holdLost d n
  else b.count (R.XEP_HELD_FLUSH i) n

/-- The source FIFO of held die d toward region G of another die: what it holds is lost, and counts once; a frame partly sent
becomes one whose tail is marked bad. -/
def Block.flushAway (b : Block) (d G : Nat) : Block :=
  let n := ((b.fifo d G).filter fun t => t.st != .refused).length
  let b := (b.loseOpen G d).2.setFifo d G []
  if n == 0 then b else b.holdLost d n

/-- The regions that a frame had as its destinations after lookup. -/
def Frame.allDests (f : Frame) : List Nat :=
  if Vec.f f.desc 0 D.fwdKind == 2 then (List.range 8).filter fun G => mcCount f.group G != 0
  else [Vec.f f.desc 0 D.egPort / 32]

/-- Frame i of another die, which waits for room toward held die d, waits for it no longer (R288). -/
def Block.stopWaiting (b : Block) (d i : Nat) : Block :=
  let f := b.frame i
  let left := f.dests.filter fun G => G / 2 != d
  if left.length == f.dests.length then b
  else
    let b := if f.allDests.all fun G => G / 2 == d then b.count (R.RGN_HELD_DROP (rgnOfPort f.port) d) 1 else b
    if left.isEmpty then b.dropFrame i else b.modFrame i fun f => { f with dests := left }

/-- The frames on the ingress side of die d are lost, but for those a context runs: it parks with its frame (R162). -/
def Block.loseFrames (b : Block) (d : Nat) : Block :=
  let l := b.framesOf fun f => dieOfPort f.port == d && f.me != MeWait.running
  let b := { b with frames := b.frames.filter fun e => !(dieOfPort e.2.port == d && e.2.me != MeWait.running) }
  b.holdLost d l.length

/-- The ports of die d lose their links, and their pause, staging and watchdog state is cleared (R91). -/
def Block.dropPort (b : Block) (p : Nat) : Block :=
  let b := b.modPort p fun x => { x with late := [], tx := [], ctrl := [], ctrlAt := none, toldAt := [], stgHigh := false }
  let b := (b.linkLoss p true false).clearPause p
  let b := if b.flag (R.MAC_PORT_CFG p) F.MAC_PORT_CFG_ENABLE then b.portDark p else b
  b.setFld (R.MAC_PAUSE_STATUS p) F.MAC_PAUSE_STATUS_TX_XOFF 0

/-- The Gleaner of die d discards its queue, and counts each candidate of it (R225). -/
def Block.emptyGleaner (b : Block) (d : Nat) : Block :=
  let n := (b.engine d).candidates
  let b := b.modEngine d fun e => { e with glQueue := [] }
  if n == 0 then b
  else (b.count (R.TBL_GLN_CAND_DROP d) n).sendLimited (limitKey 0x32 7 d 0) 7 d
    0x32 (2 * 2 ^ 28) reqGleaner 0

/-- Every fence outstanding on die d completes with HELD_SEEN (R196). -/
def Block.fencesHeld (b : Block) (d : Nat) : Block := b.each (b.engine d).fences.length fun b _ => b.fenceEnd d false true

/-- The fragment tables of die d are freed (R148). -/
def Block.freeFrags (b : Block) (d : Nat) : Block := b.each 8 fun b k => b.modCluster (8 * d + k) fun c => { c with frags := [] }

/-- Hold entry of die d (Table 16-15, step 2). Its counters stand still once it is over. -/
def Block.holdEntry (b : Block) (d : Nat) : Block :=
  let b := (b.modDie d fun x => { x with dropped := 0 }).holdTx d
  let b := (b.loseFrames d).fencesHeld d
  let b := (b.framesOf fun f => f.loc == .llWait).foldl (fun b e => b.stopWaiting d e.1) b
  let b := (regionsOf d).foldl (fun b G => (List.range 5).foldl (fun b i => b.flushToward d G i) b) b
  let b := ((List.range 8).filter fun G => G / 2 != d).foldl (fun b G => b.flushAway d G) b
  let b := (regionsOf d).foldl (fun b G => ((b.holdLost d (b.copiesIn G)).emptyTx G).emptyRegion G) b
  let b := (b.each 64 fun b k => b.dropPort (64 * d + k)).emptyGleaner d
  let b := b.freeFrags d
  let s := R.DIE_HOLD_STATUS d
  let n := b.fld s F.DIE_HOLD_STATUS_ENTRIES
  (b.setFld s F.DIE_HOLD_STATUS_ENTRIES (sat 65535 (n + 1))).modDie d fun x =>
    { x with phase := .parking, srAt := SMap.set 0 (SMap.set 0 x.srAt 0 b.ticks) 1 b.ticks }

/-! ## What a die reset clears (R489, Table 16-13) -/

/-- Whether the register at address a belongs to an L-die or F-die block of die d whose status a die reset clears: not the DIE
block, not the command engine (it keeps working), not HBM training results, not the control stores. -/
def dieResets (d a : Nat) : Bool :=
  match decodeAddr a with
  | some (.lane, l, _) => l / 256 == d
  | some (.mac, p, _) | some (.prt, p, _) => p / 64 == d
  | some (.rgn, G, _) => G / 2 == d
  | some (.xep, e, _) => e == d
  | some (.hbm, e, o) => e == d && o == 0x18
  | some (.cls, C, o) => C / 8 == d && o != 0x810
  | _ => false

/-- Fields of the gate list in operation stand with the port's configuration. -/
def gateOper (a : Nat) : Bool :=
  match decodeAddr a with
  | some (.prt, _, o) => o == 0x81C || (0x830 ≤ o && o ≤ 0x840)
  | _ => false

/-- A register after a die reset: its status and W1C fields at their reset values, its configuration kept. -/
def resetStatus (l : List Fld) (keepRo : Bool) (w : Nat) : Nat :=
  l.foldl (fun w f =>
    let bf : Bf := ⟨f.hi, f.lo⟩
    match f.acc with
    | .ro => if keepRo then w else bf.put w f.rst
    | .w1c | .rc => bf.put w f.rst
    | .rw | .rwl | .wo => w) w

def Block.clearStatus (b : Block) (d : Nat) : Block :=
  (b.regs.filter fun e => dieResets d e.1).foldl (fun b e =>
    match findReg e.1 with
    | some h => b.setWord e.1 (resetStatus h.desc.flds (gateOper e.1) e.2.toNat)
    | none => b) b

/-- Whether the 64-bit counter at address a, or its snapshot copy, returns to 0 with the blocks of die d: digests stay. -/
def dieCounter (d a : Nat) : Bool :=
  freezer a == some d && !(match decodeAddr a with
    | some (.cls, C, _) => a == R.CLS_CS_DIGEST_LOAD C || a == R.CLS_CS_DIGEST_NOW C
    | _ => false)

/-- The dynamic state of a port that a die reset clears: the gate list and the base it runs on stay. -/
def Port.afterReset (x : Port) : Port := { gate := x.gate, onTarget := x.onTarget, switchAt := x.switchAt }
/-- Of a region: shapers, policer tokens, counter pairs and sampler counts stay, and Silo cells lost to failed link records (R317). -/
def Region.afterReset (g : Region) : Region :=
  { shapers := g.shapers, pol := g.pol, pairs := g.pairs, sampler := g.sampler, next := g.next,
    leaked := g.leaked }

/-- The dynamic state of die d returns to its reset values. -/
def Block.dieState (b : Block) (d : Nat) : Block :=
  let b := b.clearStatus d
  let b := { b with ctrs := b.ctrs.filter (fun e => !dieCounter d e.1), snap := b.snap.filter (fun e => !dieCounter d e.1) }
  let b := (regionsOf d).foldl (fun b G => b.modRegion G Region.afterReset) b
  let b := b.each 64 fun b k => b.modPort (64 * d + k) Port.afterReset
  b.each 8 fun b k => b.modCluster (8 * d + k) fun c => { store := c.store }

/-! ## Requests, the end of entry, and exit (R493 to R498) -/

/-- A request by `cause` opens the entry window of a die that stands outside Hold (R496); a die reset has none (R489). -/
def Block.startEntry (b : Block) (d cause : Nat) : Block :=
  if !b.started && cause != holdByReset then b
  else match (b.die d).phase with
    | .idle =>
      let b := (b.modDie d fun x => { x with phase := .window, holdAt := b.ticks, release := false, cause := cause }).raise
        (R.DIE_HOLD_STATUS d) F.DIE_HOLD_STATUS_ENTERING
      if cause == holdByReset then b.holdEntry d else b
    | .window => if cause == holdByReset then b.holdEntry d else b
    | .parking | .held | .exiting => b

/-- Release starts (R498). -/
def Block.startExit (b : Block) (d : Nat) : Block :=
  (b.modDie d fun x => { x with phase := .exiting, release := false }).raise (R.DIE_HOLD_STATUS d) F.DIE_HOLD_STATUS_EXITING

/-- A held die that nothing requests any longer leaves Hold. -/
def Block.recheck (b : Block) (d : Nat) : Block :=
  if (b.die d).phase == .held && !b.wanted d then b.startExit d else b

def Block.clearH (b : Block) (d : Nat) : Block := b.lower (R.DIE_HOLD_STATUS d) F.DIE_HOLD_STATUS_LATCH

/-- A pulse-type release of die d fires (R494, R499). -/
def Block.pulse (b : Block) (d : Nat) : Block :=
  if !b.latchH d then b
  else match (b.die d).phase with
    | .window => b.raise (R.DIE_HOLD_STATUS d) F.DIE_HOLD_STATUS_REL_LOST
    | .parking => b.modDie d fun x => { x with release := true }
    | .idle | .held | .exiting => (b.clearH d).recheck d

/-- A level-type release of die d has fired (R494, R499). -/
def Block.level (b : Block) (d : Nat) : Block :=
  if !b.latchH d then b
  else match (b.die d).phase with
    | .window | .parking => b.modDie d fun x => { x with release := true }
    | .idle | .held | .exiting => (b.clearH d).recheck d

/-- Whether HOLD_REL_N releases die d by its level now. -/
def Block.pinLevel (b : Block) (d : Nat) : Bool :=
  let c := R.DIE_HOLD_CFG d
  b.relPin && b.flag c F.DIE_HOLD_CFG_PIN_MODE && b.flag c F.DIE_HOLD_CFG_REL_PIN_EN
def Block.pinCheck (b : Block) (d : Nat) : Block := if b.pinLevel d then b.level d else b

/-- The Hold latch H is set: by a register (R493), or by a fatal action (R484), which changes nothing but ESCALATED on a die
already held. A level-type release that stands fires at the request (R494). -/
def Block.holdRequest (d : Nat) (fatal : Bool) (b : Block) : Block :=
  let s := R.DIE_HOLD_STATUS d
  let b := b.setFld s F.DIE_HOLD_STATUS_ESCALATED (b2n fatal)
  if fatal && (b.die d).phase == .held then b
  else ((b.raise s F.DIE_HOLD_STATUS_LATCH).startEntry d (if fatal then holdByFault else holdByReg)).pinCheck d

/-- HOLD_REQUEST, a write of HOLD_CTRL.HOLD. -/
def Block.holdCtrl (w : Writer) (d v : Nat) (b : Block) : Block :=
  let h := F.DIE_HOLD_CTRL_HOLD.of v
  let r := F.DIE_HOLD_CTRL_RELEASE.of v
  if h == 1 && r == 1 then b.refuse w (R.DIE_HOLD_CTRL d)
  else if h == 1 then b.holdRequest d false
  else if r == 1 && b.flag (R.DIE_HOLD_CFG d) F.DIE_HOLD_CFG_REL_REG_EN then b.pulse d
  else b
def Block.holdWrite (w : Writer) (d v : Nat) (b : Block) : Block :=
  if F.DIE_HOLD_CTRL_HOLD.of v == 0 then b else b.holdCtrl w d v
/-- HOLD_RELEASE, a write of HOLD_CTRL.RELEASE. -/
def Block.releaseWrite (w : Writer) (d v : Nat) (b : Block) : Block :=
  if F.DIE_HOLD_CTRL_RELEASE.of v == 0 then b else b.holdCtrl w d v

/-- A write of HOLD_CFG: a level source that it enables acts at once. -/
def Block.holdCfg (w : Writer) (d v : Nat) (b : Block) : Block := (b.storeReg w (R.DIE_HOLD_CFG d) v).pinCheck d

/-- HOLD_REL_N: the pin has been low for 20 ns without a break (`low`), or rises. -/
def Block.holdRelN (low : Bool) (b : Block) : Block :=
  let fell := low && !b.relPin
  let b := { b with relPin := low }
  if !fell then b
  else b.each 4 fun b d =>
    let c := R.DIE_HOLD_CFG d
    if !b.flag c F.DIE_HOLD_CFG_REL_PIN_EN then b
    else if b.flag c F.DIE_HOLD_CFG_PIN_MODE then b.level d
    else b.pulse d

/-- HOLD_ENTRY (R496, R499): the 16 ns of the entry window are over. -/
def Block.holdEntryRow (d : Nat) (b : Block) : Block :=
  if (b.die d).phase == .window && b.ticks ≥ (b.die d).holdAt + 16 then (b.pinCheck d).holdEntry d else b

/-- Whether every context of die d is idle or parked. -/
def Block.allParked (b : Block) (d : Nat) : Bool :=
  (List.range 8).all fun k => (b.cluster (8 * d + k)).ctxs.all fun x => x.2.frame.isNone

/-- HOLD_ENTER (Table 16-15, step 4; R499). -/
def Block.holdEnter (d : Nat) (b : Block) : Block :=
  if (b.die d).phase != .parking || !b.allParked d then b
  else
    let s := R.DIE_HOLD_STATUS d
    let x := b.die d
    let b := (b.raise s F.DIE_HOLD_STATUS_HELD).lower s F.DIE_HOLD_STATUS_ENTERING
    let b := ((b.modDie d fun x => { x with phase := .held }).send 6 d 0x04 x.cause).traceHold d 1 x.cause x.dropped
    let b := if x.resetting then b.dieState d else b
    let b := if x.release || b.pinLevel d then b.clearH d else b
    (b.modDie d fun x => { x with release := false }).recheck d

/-- What the exit of die d restores (R498). -/
def Block.resume (b : Block) (d : Nat) : Block :=
  let s := R.DIE_HOLD_STATUS d
  let b := (b.lower s F.DIE_HOLD_STATUS_HELD).lower s F.DIE_HOLD_STATUS_EXITING
  let b := (b.setWord (R.HBM_SR_STATUS d) 0).modDie d fun x => { x with phase := .idle, srAt := [], release := false }
  let b := (regionsOf d).foldl (fun b G => b.modRegion G fun g => { g with shapers := g.shapers.map fun x => (x.1, x.2.fill) }) b
  let b := b.each 3 fun b e => b.setLink d (otherDie d e) { trained := true }
  let b := (b.send 6 d 0x05 0).traceHold d 2 0 0
  b.each 64 fun b k => b.bringUp (64 * d + k)

/-- A die that is requested again after its exit starts a new entry (R495). -/
def Block.enterAgain (b : Block) (d : Nat) : Block :=
  if (b.die d).resetting then b.startEntry d holdByReset
  else if b.latchH d then
    (b.startEntry d (if b.flag (R.DIE_HOLD_STATUS d) F.DIE_HOLD_STATUS_ESCALATED then holdByFault else holdByReg)).pinCheck d
  else if b.wanted d then b.startEntry d holdByRing
  else b

/-- HOLD_EXIT (R498): release is complete. -/
def Block.holdExit (d : Nat) (b : Block) : Block :=
  if (b.die d).phase != .exiting then b else (b.resume d).enterAgain d

end Sys2Proof.Machine
end

