-- ==== Sys2Proof/Machine/Tempo.lean ====
section
/-!
DEFINITION. Machine/Tempo.lean: operating levels, sentinels and AVS regulation, supply sag warnings (spec/02, R50 to R78).
-/
namespace Sys2Proof.Machine
open Sys2Proof

/-- Table 2-1: the level voltage in mV. -/
def levelMv : Nat → Nat
  | 0 => 675 | 1 => 720 | 2 => 765 | _ => 810

def Block.curLevel (b : Block) : Nat := b.fld R.PKG_LEVEL_STATUS F.PKG_LEVEL_STATUS_CURRENT
def Block.tgtLevel (b : Block) : Nat := b.fld R.PKG_LEVEL_CTRL F.PKG_LEVEL_CTRL_LEVEL

/-- The ceiling of the current level for die d (Table 2-1, Table 2-5). -/
def Block.ceiling (b : Block) (d : Nat) : Nat :=
  min 810 (levelMv b.curLevel + 5 * sat 6 (b.fld (R.DIE_SENT_CFG d) F.DIE_SENT_CFG_CEIL_STEPS))

/-- Sends a voltage write on AVSBus d; the rail is on its way to mv, and is there when the regulator answers (R65). -/
def Block.writeRail (b : Block) (d mv : Nat) : Block :=
  (b.modDie d fun x => { x with cmdMv := mv, writing := true }).emit (.avs d mv)

/-- The package runs at L2 again after a reset (R52): each rail that stands elsewhere is written the voltage of L2. -/
def Block.railsToL2 (b : Block) : Block :=
  b.each 4 fun b d => if (b.die d).cmdMv == levelMv 2 && !(b.die d).writing then b else b.writeRail d (levelMv 2)

/-- All rails have stopped walking (R57 to R59): BUSY clears; where every rail is at its target, CURRENT takes the new
level and sentinel stepping resumes (LEVEL_REACHED). DESIGN CHOICE (assumption 109): after a walk that RAMP_ERR ended, stepping resumes
at once, against the floor and ceiling of the old level that CURRENT keeps, on the rails that reached the new one too. -/
def Block.walkEnd (b : Block) : Block :=
  if (List.range 4).any fun d => (b.die d).walking then b
  else if !b.flag R.PKG_LEVEL_STATUS F.PKG_LEVEL_STATUS_BUSY then b
  else
    let b1 := b.lower R.PKG_LEVEL_STATUS F.PKG_LEVEL_STATUS_BUSY
    if b.fld R.PKG_LEVEL_STATUS F.PKG_LEVEL_STATUS_RAIL_AT_TARGET == 15 then
      (b1.setFld R.PKG_LEVEL_STATUS F.PKG_LEVEL_STATUS_CURRENT b.tgtLevel).traceLevel 2 b.tgtLevel 0xFF 0 0
    else b1

/-- LEVEL_CHANGE, a write of PKG.LEVEL_CTRL (R57, R58): clears the sentinel offsets, suspends stepping, and starts each
rail walking from its present voltage to the level voltage. The reference of each sag monitor drops at the write where the new level
lies lower (R75). DESIGN CHOICE (assumption 109): a rail whose BUS_ERR is still set walks like the others. -/
def Block.levelChange (w : Writer) (v : Nat) (b : Block) : Block :=
  let b := b.storeReg w R.PKG_LEVEL_CTRL v
  let t := levelMv b.tgtLevel
  let b := b.traceLevel 1 b.tgtLevel 0xFF 0 0
  let b := b.raise R.PKG_LEVEL_STATUS F.PKG_LEVEL_STATUS_BUSY
  let b := b.each 4 fun b d =>
    let x := b.die d
    let go := x.cmdMv != t || x.writing
    let b := b.setFld (R.DIE_AVS_STATUS d) F.DIE_AVS_STATUS_OFFSET_STEPS 0
    let b := b.modDie d fun x =>
      { x with walking := go, target := t, stepAt := if x.walking then x.stepAt else b.ticks, below := 0, above := 0,
               settling := false, sagMv := if go then min x.sagMv t else t }
    b.setFld R.PKG_LEVEL_STATUS ⟨d, d⟩ (b2n !go)
  b.walkEnd

/-- The time between the steps of a walk, in ns: values 0 to 4 act as 5 µs (Table 2-3). -/
def Block.rampNs (b : Block) : Nat := max 5 (b.fld R.PKG_LEVEL_CTRL F.PKG_LEVEL_CTRL_RAMP_INTERVAL) * 1000

/-- The next voltage of a rail that walks from `mv` to `t`: 5 mV nearer. -/
def towards (mv t : Nat) : Nat := if mv < t then min t (mv + 5) else max t (mv - 5)

/-- Whether die d's rail takes a step of its walk now: its last write is confirmed, and RAMP_INTERVAL has passed since its last
step, or since the write that started the walk. -/
def Block.rampDue (b : Block) (d : Nat) : Bool :=
  let x := b.die d
  x.walking && !x.writing && x.cmdMv != x.target && b.ticks ≥ x.stepAt + b.rampNs

/-- RAMP_STEP (R57): each walking rail whose interval has passed moves 5 mV toward its target. It is there when the regulator confirms
the write (`railConfirmed`). -/
def Block.rampStep (b : Block) : Block :=
  b.each 4 fun b d =>
    if b.rampDue d then
      (b.writeRail d (towards (b.die d).cmdMv (b.die d).target)).modDie d fun x => { x with stepAt := b.ticks }
    else b

/-- SETTLE of die d in ns: 0 acts as 1 µs (Table 2-5). -/
def Block.settleNs (b : Block) (d : Nat) : Nat := max 1 (b.fld (R.DIE_SENT_CFG d) F.DIE_SENT_CFG_SETTLE) * 1000

/-- The regulator has answered a voltage write of die d: the rail stands there. SETTLE runs from here (the worked example of R66). A
walking rail that has arrived is at its target, and the reference of its sag monitor is the new level's voltage (R57, R75). -/
def Block.railConfirmed (b : Block) (d : Nat) : Block :=
  let x := b.die d
  let there := x.cmdMv == x.target
  let b := b.modDie d fun x =>
    { x with writing := false, confMv := x.cmdMv, settleAt := b.ticks + b.settleNs d, walking := x.walking && !there,
             sagMv := if there then x.target else x.sagMv }
  if x.walking && there then (b.setFld R.PKG_LEVEL_STATUS ⟨d, d⟩ 1).walkEnd else b

/-- R60: MARGIN = TEMPO × 1,000 div 1,190. -/
def marginOf (tempo : Nat) : Nat := tempo * 1000 / 1190

/-- A sentinel of region G reports a window (R60). MARGIN is a field of 11 bits: the spec states no value for a margin
above 2,047, which reads as a free value (assumption 11). -/
def Block.sentinelReport (b : Block) (G tempo : Nat) : Block :=
  let m := marginOf tempo
  let b := b.setFld (R.RGN_SENT_TEMPO G) F.RGN_SENT_TEMPO_TEMPO tempo
  let b := b.setFld (R.RGN_SENT_TEMPO G) F.RGN_SENT_TEMPO_TEMPO_MIN
    (min tempo (b.fld (R.RGN_SENT_TEMPO G) F.RGN_SENT_TEMPO_TEMPO_MIN))
  let r := if m < 2048 then (m, b) else b.free 11
  let b := r.2.setFld (R.RGN_SENT_MARGIN G) F.RGN_SENT_MARGIN_MARGIN r.1
  b.setFld (R.RGN_SENT_MARGIN G) F.RGN_SENT_MARGIN_MARGIN_MIN
    (min m (b.fld (R.RGN_SENT_MARGIN G) F.RGN_SENT_MARGIN_MARGIN_MIN))

def Block.floorOf (b : Block) (d : Nat) : Nat := b.fld (R.DIE_SENT_FLOOR d b.curLevel) F.DIE_SENT_FLOOR_FLOOR

/-- The margin stays below the floor for CONSEC windows (R61, R62): a step up, or at the ceiling AT_CEILING with
TEMPO_CEILING at most once per ms. DESIGN CHOICE (assumption 109): the limit of one message a ms holds on where the condition ends and
begins again within it. -/
def Block.stepUp (b : Block) (d margin : Nat) : Block :=
  let mv := (b.die d).cmdMv
  if mv < b.ceiling d then
    let b := b.writeRail d (min (b.ceiling d) (mv + 5))
    let b := b.modDie d fun x => { x with settling := true, below := 0, above := 0 }
    ((b.pmc (.die d) 0x02 0xFFF 1).send 6 d 0x10 0).traceLevel 3 b.curLevel d (min (b.ceiling d) (mv + 5)) margin
  else (b.raise (R.DIE_AVS_STATUS d) F.DIE_AVS_STATUS_AT_CEILING).sendOncePerMs 6 d 0x11 0

/-- The margin has stood above floor + HYST for 1,000 windows (R63): a step down, never below the level voltage. -/
def Block.stepDown (b : Block) (d margin : Nat) : Block :=
  let mv := (b.die d).cmdMv
  let lo := levelMv b.curLevel
  if mv > lo then
    let b := b.writeRail d (max lo (mv - 5))
    let b := b.modDie d fun x => { x with settling := true, below := 0, above := 0 }
    (b.pmc (.die d) 0x03 0xFFF 1).traceLevel 4 b.curLevel d (max lo (mv - 5)) margin
  else b

/-- Whether die d's master counts windows: not while a level change walks, while it settles, or after a bus error. -/
def Block.stepping (b : Block) (d : Nat) : Bool :=
  !b.flag R.PKG_LEVEL_STATUS F.PKG_LEVEL_STATUS_BUSY && !(b.die d).settling && !(b.die d).writing
    && !b.flag (R.DIE_AVS_STATUS d) F.DIE_AVS_STATUS_BUS_ERR

/-- SENTINEL_WINDOW (R60 to R63): a window of 1,000 ticks ends on die d with tempos t0, t1 of its two regions. -/
def Block.sentinelWindow (d t0 t1 : Nat) (b : Block) : Block :=
  let b := (b.sentinelReport (2 * d) t0).sentinelReport (2 * d + 1) t1
  let m := min (marginOf t0) (marginOf t1)
  let fl := b.floorOf d
  let b := if marginOf t0 < fl then b.pmc (.die d) 0x01 0 1 else b
  let b := if marginOf t1 < fl then b.pmc (.die d) 0x01 1 1 else b
  let b := b.setFld (R.DIE_AVS_STATUS d) F.DIE_AVS_STATUS_BELOW_FLOOR (b2n (m < fl))
  let b := if m < fl ∧ (b.die d).cmdMv ≥ b.ceiling d then b
           else b.lower (R.DIE_AVS_STATUS d) F.DIE_AVS_STATUS_AT_CEILING
  if !b.stepping d then b
  else
    let c := b.fld (R.DIE_SENT_CFG d) F.DIE_SENT_CFG_CONSEC
    let hy := b.fld (R.DIE_SENT_CFG d) F.DIE_SENT_CFG_HYST
    let b := b.modDie d fun x =>
      { x with below := if m < fl then x.below + 1 else 0, above := if m ≥ fl + hy then x.above + 1 else 0 }
    if (b.die d).below ≥ max 1 c then b.stepUp d m
    else if b.flag (R.DIE_SENT_CFG d) F.DIE_SENT_CFG_STEP_DOWN_EN && (b.die d).above ≥ 1000 then b.stepDown d m
    else b

/-- A read-back of mv confirms the rail of die d (Table 2-7). -/
def Block.readBack (b : Block) (d mv : Nat) : Block :=
  let b := b.setFld (R.DIE_AVS_STATUS d) F.DIE_AVS_STATUS_RAIL_MV mv
  let want := (b.die d).cmdMv
  if mv > want + 10 ∨ want > mv + 10 then
    (b.raise (R.DIE_AVS_STATUS d) F.DIE_AVS_STATUS_READBACK_ERR).send 6 d 0x12 0
  else b

/-- Whether SETTLE µs have passed since die d's last step was confirmed. -/
def Block.settled (b : Block) (d : Nat) : Bool :=
  (b.die d).settling && !(b.die d).writing && b.ticks ≥ (b.die d).settleAt

/-- SETTLE_END (R61, R63): SETTLE µs after a step the master reads the rail back and counts windows again. -/
def Block.settleEnd (d mv : Nat) (b : Block) : Block :=
  if !b.settled d then b
  else
    let b := b.modDie d fun x => { x with settling := false, below := 0, above := 0 }
    (b.readBack d mv).setFld (R.DIE_AVS_STATUS d) F.DIE_AVS_STATUS_OFFSET_STEPS
      (((b.die d).cmdMv - levelMv b.curLevel) / 5)

/-- A rail stops short of its target because of a bus error (R59): it holds its last confirmed voltage. -/
def Block.rampErr (b : Block) (d : Nat) : Block :=
  if !(b.die d).walking then b
  else
    let b := b.modDie d fun x => { x with walking := false }
    ((b.raise R.PKG_LEVEL_STATUS F.PKG_LEVEL_STATUS_RAMP_ERR).traceLevel 5 b.tgtLevel d (b.die d).confMv 0).walkEnd

/-- The third failure of a transaction (R66): the rail keeps its last confirmed voltage, and stepping stops. -/
def Block.busErr (b : Block) (d : Nat) : Block :=
  let b := b.modDie d fun x =>
    { x with avsFails := 0, settling := false, writing := false, cmdMv := x.confMv, below := 0, above := 0 }
  ((b.rampErr d).raise (R.DIE_AVS_STATUS d) F.DIE_AVS_STATUS_BUS_ERR).send 6 d 0x12 0

/-- The transaction in progress has failed for the first or second time: the master makes it again (R66). A retried voltage write
goes out again; the reads show nothing outside. -/
def Block.avsRetry (b : Block) (d : Nat) : Block :=
  let b := b.modDie d fun x => { x with avsFails := x.avsFails + 1 }
  if (b.die d).writing then b.emit (.avs d (b.die d).cmdMv) else b

/-- A transaction of die d has had its response. -/
def Block.avsAnswered (b : Block) (d : Nat) : Block := b.modDie d fun x => { x with avsFails := 0 }

/-- AVS_TRANSACTION_DONE (R65, R66): a response, a voltage read, a status alert, or none. -/
def Block.avsDone (d : Nat) (r : AvsResult) (b : Block) : Block :=
  match r with
  | .ok => if (b.die d).writing then (b.avsAnswered d).railConfirmed d else b.avsAnswered d
  | .voltage mv => (b.avsAnswered d).readBack d mv.toNat
  | .alert => (b.avsAnswered d).send 6 d 0x12 0
  | .noResponse | .crcError => if (b.die d).avsFails < 2 then b.avsRetry d else b.busErr d

/-- AVS_BUS_ERR_CLEAR (R66): a write of AVS_STATUS that clears BUS_ERR; stepping resumes with new counts. -/
def Block.avsBusErrClear (w : Writer) (d v : Nat) (b : Block) : Block :=
  let was := b.flag (R.DIE_AVS_STATUS d) F.DIE_AVS_STATUS_BUS_ERR
  let b := b.storeReg w (R.DIE_AVS_STATUS d) v
  if was && !b.flag (R.DIE_AVS_STATUS d) F.DIE_AVS_STATUS_BUS_ERR then
    b.modDie d fun x => { x with below := 0, above := 0 }
  else b

/-- SENT_CLR (Table 2-11): CLR_MIN resets TEMPO_MIN and MARGIN_MIN of region G. -/
def Block.sentClr (G v : Nat) (b : Block) : Block :=
  if bitOf v 0 then
    (b.setFld (R.RGN_SENT_TEMPO G) F.RGN_SENT_TEMPO_TEMPO_MIN 0xFFF).setFld (R.RGN_SENT_MARGIN G)
      F.RGN_SENT_MARGIN_MARGIN_MIN 0x7FF
  else b

/-! ## Supply sag (R73 to R76) -/

/-- The reference of die d's monitor (R75): it drops at the write of a lower level and rises when the rail arrives. -/
def Block.sagRef (b : Block) (d : Nat) : Nat := (b.die d).sagMv

/-- mv lies below pct × 0.5 % of the reference. -/
def Block.belowPct (b : Block) (d mv pct : Nat) : Bool := mv * 200 < pct * b.sagRef d

def Block.seeMv (b : Block) (d mv : Nat) : Block :=
  b.setFld (R.DIE_SAG_STATUS d) F.DIE_SAG_STATUS_MIN_MV (min mv (b.fld (R.DIE_SAG_STATUS d) F.DIE_SAG_STATUS_MIN_MV))

/-- SAG_WARN (R73): die d's rail has stood at mv, below WARN_PCT, for WARN_TIME. A rail seen above its threshold warns no longer
(WARN_ACTIVE, Table 2-15); the pin waits for SAG_WARN_RELEASE. -/
def Block.sagWarn (d mv : Nat) (b : Block) : Block :=
  let b := b.seeMv d mv
  if !b.belowPct d mv (b.fld (R.DIE_SAG_CFG d) F.DIE_SAG_CFG_WARN_PCT) then
    b.lower (R.DIE_SAG_STATUS d) F.DIE_SAG_STATUS_WARN_ACTIVE
  else
    let b := b.raising 3 fun b => b.raise (R.DIE_SAG_STATUS d) F.DIE_SAG_STATUS_WARN_SEEN
    ((b.raise (R.DIE_SAG_STATUS d) F.DIE_SAG_STATUS_WARN_ACTIVE).emit (.pin "SAG_WARN_N" true)).send 6 d 0x13 0

/-- SAG_WARN_RELEASE (R73): every rail has been above its warning threshold for 1 µs. Through a sag reset the pin stays low
(R74). -/
def Block.sagWarnRelease (b : Block) : Block :=
  if b.pkgHold == .sag then b
  else (b.each 4 fun b d => b.lower (R.DIE_SAG_STATUS d) F.DIE_SAG_STATUS_WARN_ACTIVE).emit (.pin "SAG_WARN_N" false)

/-- SAG_CLR_MIN, a write of SAG_STATUS (Table 2-15): CLR_MIN sets MIN_MV to 0x3FF; WARN_SEEN clears on a 1. -/
def Block.sagClrMin (w : Writer) (d v : Nat) (b : Block) : Block :=
  let b := b.storeReg w (R.DIE_SAG_STATUS d) v
  if bitOf v 2 then b.setFld (R.DIE_SAG_STATUS d) F.DIE_SAG_STATUS_MIN_MV 0x3FF else b

/-- R76: the ranges of a write of SAG_CFG. -/
def sagCfgOk (v : Nat) : Bool :=
  let w := F.DIE_SAG_CFG_WARN_PCT.of v
  let r := F.DIE_SAG_CFG_RESET_PCT.of v
  let wt := F.DIE_SAG_CFG_WARN_TIME.of v
  let rt := F.DIE_SAG_CFG_RESET_TIME.of v
  170 ≤ w && w ≤ 196 && 160 ≤ r && r ≤ 190 && 1 ≤ wt && 5 ≤ rt && rt ≤ 100 && r < w

end Sys2Proof.Machine
end

