-- ==== Sys2Proof/Machine/Resets.lean ====
section
/-!
DEFINITION. Machine/Resets.lean: package resets, what survives them and the start of the boot that follows; die and forwarding
resets (spec/16, R486 to R491, Tables 16-11 to 16-13; spec/14, R413 to R416; spec/19, R540).
-/
namespace Sys2Proof.Machine
open Sys2Proof

/-! ## The boot sequencer starts (R413 to R416) -/

/-- Whether the package is held in reset: RESET_N is low, or the cause of a sag or power-on reset has not ended. -/
def Block.inReset (b : Block) : Bool := b.pinLow || b.pkgHold != .none

def Block.bootStep (b : Block) (n : Nat) : Block := b.setFld R.BOOT_STATUS F.BOOT_STATUS_STEP n

/-- The xSPI bus is driven, or floated (R420). -/
def Block.nvmDrive (on : Bool) (b : Block) : Block :=
  if b.boot.bus == on then b else ({ b with boot := { b.boot with bus := on } }).emit (.nvmBus on)

/-- Step 2: the straps as the pins stand, the reference running, the fuses read, the chain interface and the fault collectors on. -/
def Block.bootStart (b : Block) : Block :=
  let b := (b.setWord R.PKG_STRAPS b.strapPins).railsToL2
  let b := if b.refLost then b else b.raise R.TIM_REF_STATUS F.TIM_REF_STATUS_REFCLK_OK
  let b : Block := { b with boot := { phase := .fuses, start := b.ticks }, chain := { b.chain with on := true } }
  b.bootStep 2

/-- Step 3 (R419): NVM_RESET_N is pulsed, and SFDP read. -/
def Block.flashOpen (b : Block) : Block :=
  let b := (({ b with boot := { b.boot with phase := .flash } }).bootStep 3).nvmDrive true
  ((b.emit (.nvm .pulseReset)).emit (.nvm .softReset)).emit (.nvm .readSfdp)

/-- Step 8: training begins, with an image, or on the way to the host wait (R434). -/
def Block.trainStart (phase : BootPhase) (b : Block) : Block :=
  (({ b with boot := { b.boot with phase := phase } }).each 4 fun b d => b.setWord (R.HBM_TRAIN_STATUS d) 0).bootStep 8

/-- The sequencer goes on from step 2, with STRAP_HOST_WAIT to the host wait (R434), else to the flash; and from step 3. -/
def Block.bootMove (b : Block) : Block :=
  match b.boot.phase with
  | .fuses => if b.flag R.PKG_STRAPS F.PKG_STRAPS_HOST_WAIT then b.trainStart .trainingIdle else b.flashOpen
  | .flash => ({ b with boot := { b.boot with phase := .header } }).bootStep 4
  | _ => b

/-! ## What a package reset keeps (Table 16-13) -/

/-- The package resets of Table 16-11, with what RESET_CAUSE records of them. -/
inductive PkgReset where
  | powerOn | sag (d : Nat) | pin | ring | soft | escalation
deriving DecidableEq, Repr

/-- Whether the reset keeps what only power-on and sag lose. -/
def PkgReset.warm : PkgReset → Bool
  | .powerOn | .sag _ => false
  | .pin | .ring | .soft | .escalation => true

/-- The bits of RESET_CAUSE that the reset sets (Table 16-12). -/
def PkgReset.bits : PkgReset → Nat
  | .powerOn => 2 ^ 31
  | .sag d => 2 ^ 30 + 2 ^ (16 + d)
  | .pin => 2 ^ 29
  | .ring => 2 ^ 28
  | .soft => 2 ^ 27
  | .escalation => 2 ^ 26

/-- RESET_CAUSE after the reset: a power-on reset writes it anew; a cause that arrives while another reset runs is added to it
(R487); any other writes bits [31:16] anew and counts. -/
def Block.causeAfter (b : Block) (k : PkgReset) : Nat :=
  let old := b.word R.FLT_RESET_CAUSE
  if k == .powerOn then 2 ^ 31
  else if b.inReset then old ||| k.bits
  else k.bits + b2n b.started * 2 ^ 25 + sat 65535 (old % 65536 + 1)

/-- The package first-error capture, which every reset but power-on keeps. -/
def captureReg (a : Nat) : Bool := R.FLT_FIRST_MSG_LO ≤ a && a ≤ R.FLT_FIRST_REF_HI && a != R.FLT_FIRST_CLR

/-- Registers that pin, ring and package soft resets keep: FAULT_N_CTRL, the ring address and Hold level, the rates and the
active base, the state of the reference, PAIR.EPOCH, the places of the trace rings. -/
def warmReg (a : Nat) : Bool :=
  a == R.FLT_FAULT_N_CTRL || a == R.CHN_ADDR || a == R.CHN_RING_HOLD || a == R.TIM_ACTIVE_STATUS || a == R.TIM_REF_STATUS
  || a == R.PAIR_EPOCH
  || (List.range 2).any (fun i => a == R.TIM_RATE_LO i || a == R.TIM_RATE_HI i)
  || (List.range 4).any (fun d => a == R.OBS_TRC_SEQ d || a == R.OBS_TRC_STATUS d)

/-- 64-bit registers that they keep. -/
def warmCtr (a : Nat) : Bool := (List.range 4).any fun d => a == R.DIE_HELD_TICKS d || a == R.OBS_TRC_HEAD d

/-- What a reset but a power-on leaves of a die: its rail stands where it is, and is walked to L2 when boot starts (R52). The
reference of its sag monitor stays the lower one until it is there (assumption 110). -/
def Die.afterReset (x : Die) : Die := { cmdMv := x.cmdMv, writing := x.writing, confMv := x.confMv, sagMv := min 765 x.sagMv }

/-- The block after a reset, boot not started: fuses, pins, the clock and what it has sent are no part of any reset. -/
def Block.afterReset (b : Block) (warm power : Bool) : Block :=
  let regs := b.regs.filter fun e => (!power && captureReg e.1) || (warm && warmReg e.1)
  let captured := !power && b.flag R.FLT_STATUS F.FLT_STATUS_CAPTURED
  let pulse := if power then none else b.faultN.till.map fun t => if warm then t else t - b.ticks
  let n : Block := { fuses := b.fuses, refLost := b.refLost, strapPins := b.strapPins, pinLow := b.pinLow, relPin := b.relPin,
                     pkgHold := b.pkgHold, out := b.out, fresh := b.fresh, regs := regs,
                     faultN := { till := pulse, latched := warm && b.faultN.latched } }
  let n : Block := if power then n else
    { n with dies := (b.dies.map fun e => (e.1, e.2.afterReset)).filter fun e => e.2 != {} }
  let n : Block := if !warm then n else
    { n with ticks := b.ticks, baseA := b.baseA, baseB := b.baseB, switchTick := b.switchTick, rings := b.rings,
             records := b.records, ctrs := b.ctrs.filter (fun e => warmCtr e.1),
             snap := b.snap.filter (fun e => warmCtr e.1 || e.1 == R.OBS_PMC_REF),
             chain := { on := b.chain.on, locked := b.chain.locked, lost := b.chain.lost, breakAt := b.chain.breakAt },
             ports := (b.ports.map fun e =>
               let x : Port := { onTarget := e.2.onTarget, switchAt := e.2.switchAt }
               (e.1, x)).filter fun e => e.2 != {} }
  if captured then n.raise R.FLT_STATUS F.FLT_STATUS_CAPTURED else n

/-- A package reset (R486, R487): the block is reset and its cause recorded. -/
def Block.resetBy (b : Block) (k : PkgReset) : Block :=
  ((b.nvmDrive false).afterReset k.warm (k == .powerOn)).setWord R.FLT_RESET_CAUSE (b.causeAfter k)

/-- A reset whose end lies with the reset logic itself: boot restarts at once, unless another reset still holds the package. -/
def Block.warmReset (b : Block) (k : PkgReset) (straps : Nat) : Block :=
  let b := { b.resetBy k with strapPins := straps }
  if b.inReset then b else b.bootStart

/-- POWER_ON_RESET (R540): a rail below its monitor's threshold for 2 µs, or VDD_CORE below 0.500 V. SAG_WARN_N is released (Table
19-11). -/
def Block.powerOnReset (b : Block) : Block := { (b.resetBy .powerOn).emit (.pin "SAG_WARN_N" false) with pkgHold := .powerOn }

/-- The cause of a reset that held the package has ended: straps as the pins stand; boot restarts where RESET_N is high. -/
def Block.holdOver (b : Block) (straps : Nat) : Block :=
  let b := { b with pkgHold := .none, strapPins := straps }
  if b.inReset then b else b.bootStart

/-- POWER_ON_RESET_END (R540): every rail, and SYS_REFCLK, has been in range for 1 ms. -/
def Block.powerOnEnd (straps : Nat) (b : Block) : Block := if b.pkgHold == .powerOn then b.holdOver straps else b

/-- SAG_RESET (R74): die d's rail has stood at mv, below RESET_PCT, for RESET_TIME. SAG_WARN_N is low through the reset (Table 19-11). -/
def Block.sagReset (d mv : Nat) (b : Block) : Block :=
  if !b.belowPct d mv (b.fld (R.DIE_SAG_CFG d) F.DIE_SAG_CFG_RESET_PCT) then b.seeMv d mv
  else
    let b := (b.resetBy (.sag d)).emit (.pin "SAG_WARN_N" true)
    if b.pkgHold == .none then { b with pkgHold := .sag } else b

/-- SAG_RESET_END (R488): every VDD_CORE rail has been above its warning threshold for 100 µs; SAG_WARN_N is released. -/
def Block.sagResetEnd (straps : Nat) (b : Block) : Block :=
  if b.pkgHold == .sag then (b.emit (.pin "SAG_WARN_N" false)).holdOver straps else b

/-- PIN_RESET: RESET_N has been low for 1 µs (R546). -/
def Block.pinReset (b : Block) : Block := if b.pinLow then b else { b.resetBy .pin with pinLow := true }

/-- RESET_RELEASE (R413): RESET_N rises. -/
def Block.resetRelease (straps : Nat) (b : Block) : Block :=
  if !b.pinLow then b
  else
    let b := { b with pinLow := false, strapPins := straps }
    if b.inReset then b else b.bootStart

/-! ## Die reset (R489) -/

def Block.dieReset (b : Block) (d : Nat) : Block :=
  if (b.die d).resetting then b
  else
    let b := b.modDie d fun x => { x with resetting := true }
    match (b.die d).phase with
    | .idle | .window => b.startEntry d holdByReset
    | .held => b.dieState d
    | .parking | .exiting => b

/-- DIE_RESET_DONE: the die leaves the internal Hold, and stays held where a source of R493 holds it. -/
def Block.dieResetDone (d : Nat) (b : Block) : Block :=
  if !(b.die d).resetting || (b.die d).phase != .held then b
  else
    let n := (b.die d).dropped
    let b := b.modDie d fun x => { x with resetting := false }
    let b := if b.wanted d then b else b.resume d
    (b.send 6 d 0x07 0).traceHold d 3 holdByReset n

/-! ## Forwarding reset (R490) -/

/-- Region G is emptied by a forwarding reset, Silo cells lost to failed link records included: the copies that its ports are
transmitting run on, and a frame of theirs whose tail has not come stays without it. -/
def Block.fwdEmpty (b : Block) (G : Nat) : Block :=
  let sids := (List.range 32).flatMap fun k => (b.port (32 * G + k)).tx.map (·.sid)
  let kept := ((b.region G).stored.filter fun s => sids.contains s.1).map fun s =>
    (s.1, { s.2 with refs := sids.count s.1, own := 0, grp := 0 })
  let b := b.each 4 fun b i => b.setFifo i G []
  let b := b.setInput G 4 ((b.input G 4).filter fun t => t.st == .waiting)
  (b.emptyRegion G).modRegion G fun g => { g with stored := kept, leaked := 0 }

/-- A forwarding reset of die d. -/
def Block.fwdReset (b : Block) (d : Nat) : Block :=
  let b := b.modDie d fun x => { x with refusing := true, dropped := 0 }
  (regionsOf d).foldl (fun b G =>
    let sending := ((List.range 32).map fun k => (b.port (32 * G + k)).tx.length).sum
    let fifo := ((List.range 4).map fun i => ((b.fifo i G).filter fun t => t.st == .waiting).length).sum
    (b.fwdLost d (b.copiesIn G - sending + fifo)).fwdEmpty G) b

/-- FWD_RESET: the refusal period is over. -/
def Block.fwdResetEnd (d : Nat) (b : Block) : Block :=
  if !(b.die d).refusing then b
  else
    let n := (b.die d).dropped
    ((b.modDie d fun x => { x with refusing := false }).send 6 d 0x08 0).traceHold d 4 0 n

/-! ## PKG.RESET_CTRL (Table 16-12a) -/

/-- A write of RESET_CTRL. -/
def Block.resetCtrl (w : Writer) (v straps : Nat) (b : Block) : Block :=
  if F.PKG_RESET_CTRL_KEY.of v != 0x5A then b.refuse w R.PKG_RESET_CTRL
  else if F.PKG_RESET_CTRL_SOFT.of v == 1 then b.warmReset .soft straps
  else b.each 4 fun b d =>
    if bitOf (F.PKG_RESET_CTRL_DIE_MASK.of v) d then b.dieReset d
    else if bitOf (F.PKG_RESET_CTRL_FWD_MASK.of v) d then b.fwdReset d
    else b

/-- PACKAGE_SOFT_RESET: a write that sets SOFT, with the strap pins as they stand at the reset's end. -/
def Block.softReset (w : Writer) (v straps : Nat) (b : Block) : Block :=
  if F.PKG_RESET_CTRL_SOFT.of v == 0 then b else b.resetCtrl w v straps
/-- DIE_RESET: a write that sets bits of DIE_MASK. -/
def Block.dieResetWrite (w : Writer) (v : Nat) (b : Block) : Block :=
  if F.PKG_RESET_CTRL_DIE_MASK.of v == 0 then b else b.resetCtrl w v b.strapPins
/-- FORWARDING_RESET: a write that sets bits of FWD_MASK. -/
def Block.fwdResetWrite (w : Writer) (v : Nat) (b : Block) : Block :=
  if F.PKG_RESET_CTRL_FWD_MASK.of v == 0 then b else b.resetCtrl w v b.strapPins

end Sys2Proof.Machine
end

