-- ==== Sys2Proof/Machine/Fault.lean ====
section
/-!
DEFINITION. Machine/Fault.lean: the fault collectors: severity, capture, escalation, fatal actions, the package queue, FAULT_N
and injection (spec/16, R473 to R485).
-/
namespace Sys2Proof.Machine
open Sys2Proof

/-! ## Collectors: 0 to 3 those of the dies, 4 that of the package -/

/-- The die whose collector takes messages of a source (R474); none: the package collector. -/
def sourceDie (typ idx : Nat) : Option Nat :=
  match typ with
  | 6 | 7 | 8 | 9 => some idx
  | 10 => some (idx / 2)
  | 11 => some (idx / 8)
  | 12 | 13 => some (idx / 64)
  | _ => none

/-- Whether a source exists (Table 16-2, R481). -/
def sourceOk (typ idx : Nat) : Bool :=
  match typ with
  | 0 => idx < 4
  | 1 => idx < 2 || idx == 0xFFF
  | 2 | 3 | 5 => idx == 0
  | 4 => idx < 256 || idx == 0xFFF
  | 6 | 7 | 8 | 9 => idx < 4
  | 10 => idx < 8
  | 11 => idx < 32
  | 12 | 13 => idx < 256
  | _ => false

def Block.col (b : Block) (c : Nat) : Collector := if c < 4 then (b.die c).col else b.flt
def Block.modCol (b : Block) (c : Nat) (f : Collector → Collector) : Block :=
  if c < 4 then b.modDie c fun x => { x with col := f x.col } else { b with flt := f b.flt }

/-- The registers that both kinds of collector have: STATUS, ESC_CFG, ESC_ACK, ESC_COUNT, the capture. -/
def colReg (c o : Nat) : Nat := if c < 4 then R.DIE_FLT_STATUS c + o else R.FLT_STATUS + o
def colStatus (c : Nat) : Nat := colReg c 0x0
def colEscCfg (c : Nat) : Nat := colReg c 0x8
def colEscAck (c : Nat) : Nat := colReg c 0xC
def colEscCount (c : Nat) : Nat := colReg c 0x14
def colFirst (c o : Nat) : Nat := colReg c (0x60 + o)

/-! ## FAULT_N (R485) -/

def Block.faultLow (b : Block) : Bool :=
  b.faultN.till.isSome || b.faultN.latched || b.flag R.FLT_FAULT_N_CTRL F.FLT_FAULT_N_CTRL_FORCE

/-- Carries out a change, and drives or releases FAULT_N where it changes the level. -/
def Block.pinning (b : Block) (f : Block → Block) : Block :=
  let n := f b
  if n.faultLow == b.faultLow then n else n.emit (.pin "FAULT_N" n.faultLow)

/-- A fatal action pulses FAULT_N, or extends its pulse. -/
def Block.pulseFaultN (b : Block) : Block :=
  b.pinning fun b =>
    let t := b.ticks + b.fld R.FLT_FAULT_N_CTRL F.FLT_FAULT_N_CTRL_PULSE * 1000
    { b with faultN := { b.faultN with till := some t } }

/-- FAULT_N_PULSE_END: the pulse is over; under LATCH the low stays. -/
def Block.pulseEnd (b : Block) : Block :=
  match b.faultN.till with
  | some t =>
    if b.ticks < t then b
    else b.pinning fun b =>
      let l := b.faultN.latched || b.flag R.FLT_FAULT_N_CTRL F.FLT_FAULT_N_CTRL_LATCH
      { b with faultN := { till := none, latched := l } }
  | none => b

/-- A write of FAULT_N_CTRL (Table 16-10). -/
def Block.faultNCtrl (w : Writer) (v : Nat) (b : Block) : Block :=
  let n := F.FLT_FAULT_N_CTRL_PULSE.of v
  if n < 10 || n > 1000 then b.refuse w R.FLT_FAULT_N_CTRL
  else b.pinning fun b =>
    let b := b.storeReg w R.FLT_FAULT_N_CTRL v
    if F.FLT_FAULT_N_CTRL_CLEAR.of v == 1 then { b with faultN := { b.faultN with latched := false } } else b
/-- FAULT_N_CLEAR. -/
def Block.faultNClear (w : Writer) (v : Nat) (b : Block) : Block :=
  if F.FLT_FAULT_N_CTRL_CLEAR.of v == 0 then b else b.faultNCtrl w v

/-! ## Taking a message (R476 to R480) -/

/-- The severity that FLT.SEV gives a kind of a source type; ESCALATE always carries 3. -/
def Block.severity (b : Block) (typ kind : Nat) : Nat :=
  if kind == 3 then 3 else b.word (R.FLT_SEV typ (kind / 16)) / 4 ^ (kind % 16) % 4

/-- The first-error capture of collector c (R480). -/
def Block.capture (b : Block) (c seq : Nat) (m : Msg) : Block :=
  if b.flag (colStatus c) F.FLT_STATUS_CAPTURED || m.sev < b.fld R.FLT_CFG F.FLT_CFG_CAPTURE_SEV then b
  else
    let b := (b.setWord (colFirst c 0x0) (m.word % 2 ^ 32)).setWord (colFirst c 0x4) (m.word / 2 ^ 32)
    let b := (b.setWord (colFirst c 0x8) (if c < 4 then 0 else seq)).setWord (colFirst c 0xC) (m.requester * 2 ^ 16 + m.access)
    let b := ((b.setWord (colFirst c 0x10) m.stamp.word).setWord (colFirst c 0x14) (m.stamp.s % 2 ^ 32)).setWord
      (colFirst c 0x18) (m.stamp.s / 2 ^ 32)
    let b := (b.setWord (colFirst c 0x20) (m.ref % 2 ^ 32)).setWord (colFirst c 0x24) (m.ref / 2 ^ 32)
    b.raise (colStatus c) F.FLT_STATUS_CAPTURED

/-- ESC_RUNNING: the timer runs while RECEIVED differs from ACKED and TIME is not 0. -/
def Block.escShow (b : Block) (c : Nat) : Block :=
  let n := b.word (colEscCount c)
  let on := F.FLT_ESC_COUNT_ACKED.of n != F.FLT_ESC_COUNT_RECEIVED.of n && b.fld (colEscCfg c) F.FLT_ESC_CFG_TIME != 0
  b.setFld (colStatus c) F.FLT_STATUS_ESC_RUNNING (b2n on)

/-- A serious message counts and starts the timer (R482). -/
def Block.serious (b : Block) (c : Nat) : Block :=
  let a := colEscCount c
  let b := b.setFld a F.FLT_ESC_COUNT_RECEIVED (b.fld a F.FLT_ESC_COUNT_RECEIVED + 1)
  (b.modCol c fun x => { x with arrivals := (b.ticks :: x.arrivals).take 64 }).escShow c

/-- A message that collector c cannot store (R478). -/
def Block.dropMsg (b : Block) (c : Nat) : Block :=
  let b := (b.modCol c fun x => { x with dropped := true, lostSince := x.lostSince + 1 }).raise (colStatus c) F.FLT_STATUS_LOST_SEEN
  b.count (if c < 4 then R.DIE_FLT_LOST c else R.FLT_LOST) 1

/-- Whether collector c has room for a message of this severity (R478). -/
def Block.hasRoom (b : Block) (c sev : Nat) : Bool :=
  let n := (b.col c).held.length
  if c < 4 then (if sev ≥ 2 then n < 64 else n < 48) else (if sev ≥ 2 then n < 1024 else n < 960)

/-- Collector c stores a message, or drops it. -/
def Block.storeMsg (b : Block) (c : Nat) (m : Msg) : Block :=
  if !b.hasRoom c m.sev then b.dropMsg c
  else
    let lost := m.lost || (b.col c).dropped
    let keep := fun (b : Block) => b.modCol c fun x =>
      { x with held := x.held ++ [{ m with lost := lost, seq := x.seq }], dropped := false, seq := (x.seq + 1) % 2 ^ 32 }
    if c < 4 then keep b
    else
      let b := (keep b).pmc .pkg 0x04 m.sev 1
      if m.sev ≥ b.fld R.FLT_CFG F.FLT_CFG_INT_SEV then
        b.raising 6 fun b => b.raise R.FLT_STATUS F.FLT_STATUS_INT_PENDING
      else b

/-- The trace record of a message (Table 17-8), in the ring of its die. -/
def Block.traceFault (b : Block) (d : Nat) (m : Msg) : Block :=
  b.trace { typ := 1, die := d, body := leBytes 8 m.word ++ zeros 8, sev := m.sev, freeze := m.sev == 3 }

/-- The first collector, c, takes message m: severity, stamp, count, trace, capture, escalation (R477 to R482). The capture of a
message that the package queue will drop has no SEQ of its own: that value is free (assumption 1). -/
def Block.takeFirst (b : Block) (c : Nat) (m : Msg) : Msg × Block :=
  let m := { m with sev := b.severity m.typ m.kind, stamp := b.stampNow, ref := b.ticks }
  let b := (b.count (R.FLT_COUNT m.sev) 1).traceFault (if c < 4 then c else 0) m
  let b := if c < 4 then b.pmc (.die c) 0x05 m.sev 1 else b
  let b := if m.sev == 3 then b.raise R.FLT_STATUS F.FLT_STATUS_FATAL_SEEN else b
  (m, if m.sev == 2 then b.serious c else b)

/-- The package collector captures and stores m. -/
def Block.intoPackage (b : Block) (m : Msg) : Block :=
  let s : Nat × Block := if b.hasRoom 4 m.sev then (b.flt.seq, b) else b.free 32
  let b := s.2.capture 4 s.1 { m with lost := m.lost || b.flt.dropped }
  b.storeMsg 4 m

/-- Collector c takes m from its source, its fatal action apart. -/
def Block.takeQuiet (b : Block) (c : Nat) (m : Msg) : Msg × Block :=
  let r := b.takeFirst c m
  if c < 4 then (r.1, (r.2.capture c 0 { r.1 with lost := (r.2.col c).dropped }).storeMsg c r.1)
  else (r.1, r.2.intoPackage r.1)

/-- Messages in flight to collector c; the next it takes is the one sent first, of one tick that of the lowest SOURCE (R477). -/
def Msg.col (m : Msg) : Nat := (sourceDie m.typ m.idx).getD 4
def Msg.source (m : Msg) : Nat := m.typ * 4096 + m.idx
def lowest : List Msg → Option Msg
  | [] => none
  | m :: l => match lowest l with
    | some k => if k.source < m.source then some k else some m
    | none => some m
def Block.nextMsg (b : Block) (c : Nat) : Option Msg :=
  let l := b.inflight.filter fun m => m.col == c
  match l with
  | [] => none
  | m :: _ => lowest (l.filter fun k => k.ref == m.ref)

/-- The package collector takes the oldest message of die collector d. -/
def Block.passOn (b : Block) (d : Nat) : Block :=
  match (b.die d).col.held with
  | m :: r => (b.modCol d fun x => { x with held := r }).intoPackage m
  | [] => b

/-! ## Fatal action (R484) -/

/-- Messages reach the package collector before a package reset by escalation takes effect (R487, R480). -/
def Block.drainMsgs (b : Block) : Block :=
  let l := b.inflight
  let b := l.foldl (fun b m => (b.takeQuiet m.col m).2) { b with inflight := [] }
  (List.range 4).foldl (fun b d => (List.range 64).foldl (fun b _ => b.passOn d) b) b

/-- The fatal action of collector c (Table 16-9); FAULT_N is pulsed at every one. `straps`: the strap pins, sampled at the end of a
package reset (R414). -/
def Block.fatal (b : Block) (c straps : Nat) : Block :=
  let b := b.pulseFaultN
  let act := b.fld (colEscCfg c) F.FLT_ESC_CFG_ACTION
  let reset := fun (b : Block) => b.drainMsgs.warmReset .escalation straps
  if c < 4 then
    match act with
    | 0 => b.holdRequest c true
    | 1 => b.dieReset c
    | _ => reset b
  else if act == 0 then
    let m := b.fld R.FLT_ESC_CFG F.FLT_ESC_CFG_HOLD_MASK
    b.each 4 fun b d => if bitOf m d then b.holdRequest d true else b
  else reset b

/-- Collector c takes the next message in flight to it. ESCALATE takes no further action. -/
def Block.take (b : Block) (c straps : Nat) : Block :=
  match b.nextMsg c with
  | none => b
  | some m =>
    let r := ({ b with inflight := b.inflight.erase m }).takeQuiet c m
    if r.1.sev == 3 && m.kind != 3 then r.2.fatal c straps else r.2

/-- FAULT_MESSAGE (R477): a collector takes a message from a source, or the package collector one from a die collector. -/
def Block.faultMessage (h : FaultHop) (straps : Nat) (b : Block) : Block :=
  match h with
  | .die d => b.take d.val straps
  | .pkg => b.take 4 straps
  | .fromDie d => b.passOn d.val

/-! ## Escalation (R482 to R484) -/

/-- The arrival that collector c's timer measures from: that of message ACKED + 1 where it is among the last 64, else that of the
oldest of them. -/
def Block.escFrom (b : Block) (c : Nat) : Nat :=
  let n := b.word (colEscCount c)
  let left := (F.FLT_ESC_COUNT_RECEIVED.of n + 65536 - F.FLT_ESC_COUNT_ACKED.of n) % 65536
  (b.col c).arrivals.getD (min left 64 - 1) b.ticks

/-- Whether collector c's timer has expired. -/
def Block.escDue (b : Block) (c : Nat) : Bool :=
  b.flag (colStatus c) F.FLT_STATUS_ESC_RUNNING && b.ticks - b.escFrom c ≥ b.fld (colEscCfg c) F.FLT_ESC_CFG_TIME * 1000

/-- ESCALATE: the timer of collector c expires. -/
def Block.escalate (c straps : Nat) (b : Block) : Block :=
  if !b.escDue c then b
  else
    let a := colEscCount c
    let n := b.fld a F.FLT_ESC_COUNT_RECEIVED
    let b := ((b.setFld a F.FLT_ESC_COUNT_ACKED n).raise (colStatus c) F.FLT_STATUS_ESC_FIRED).escShow c
    let b := if c < 4 then b.send 6 c 0x03 n else b.send 0 2 0x03 n
    b.fatal c straps

/-- ESC_ACK, a write of collector c's register. -/
def Block.escAck (w : Writer) (c v : Nat) (b : Block) : Block :=
  let a := colEscCount c
  let acked := b.fld a F.FLT_ESC_COUNT_ACKED
  let count := F.FLT_ESC_ACK_COUNT.of v
  if (count + 65536 - acked) % 65536 > (b.fld a F.FLT_ESC_COUNT_RECEIVED + 65536 - acked) % 65536 then b.refuse w (colEscAck c)
  else (b.setFld a F.FLT_ESC_COUNT_ACKED count).escShow c

/-- A write of ESC_CFG (Table 16-9): a new TIME applies at once (R483). -/
def Block.escCfg (w : Writer) (c v : Nat) (b : Block) : Block :=
  if F.FLT_ESC_CFG_ACTION.of v > (if c < 4 then 2 else 1) then b.refuse w (colEscCfg c)
  else ((b.storeReg w (colEscCfg c) v).escShow c).escalate c b.strapPins

/-- A write of FLT.SEV[t][k] (Table 16-5): ESCALATE stays at 3. -/
def Block.sevWrite (w : Writer) (t k v : Nat) (b : Block) : Block :=
  b.storeReg w (R.FLT_SEV t k) (if k == 0 then Bf.put ⟨7, 6⟩ v 3 else v)

/-! ## The queue (R478 to R481) -/

/-- FAULT_POP, a write of FLT.POP: the head is removed; when the queue falls below 512 after drops, FLT_LOST is sent. -/
def Block.faultPop (v : Nat) (b : Block) : Block :=
  if F.FLT_POP_POP.of v == 0 then b
  else match b.flt.held with
    | [] => b
    | _ :: r =>
      let n := b.flt.lostSince
      let b : Block := { b with flt := { b.flt with held := r } }
      if n != 0 && r.length < 512 then
        let b : Block := { b with flt := { b.flt with lostSince := 0 } }
        b.send 0 2 0x02 (n % 2 ^ 32)
      else b

/-- FAULT_INJECT, a write of FLT.INJECT_HI (R481). -/
def Block.faultInject (w : Writer) (v : Nat) (b : Block) : Block :=
  let typ := v / 2 ^ 28 % 16
  let idx := v / 2 ^ 16 % 2 ^ 12
  if !sourceOk typ idx then b.refuse w R.FLT_INJECT_HI
  else
    let b := b.storeReg w R.FLT_INJECT_HI v
    let m : Msg := { typ := typ, idx := idx, kind := v / 2 ^ 8 % 256, injected := true, ref := b.ticks, requester := 0x1FF,
                     addr := v % 16 * 2 ^ 32 + b.word R.FLT_INJECT_LO }
    { b with inflight := b.inflight ++ [m] }

/-- FIRST_CLR, a write of collector c's register. -/
def Block.firstClr (c v : Nat) (b : Block) : Block :=
  if F.FLT_FIRST_CLR_CLR.of v == 0 then b else b.lower (colStatus c) F.FLT_STATUS_CAPTURED

end Sys2Proof.Machine
end

