-- ==== Sys2Proof/Machine/Chain.lean ====
section
/-!
DEFINITION. Machine/Chain.lean: the Sheaf chain: frames in and out, enumeration, breaks, the commands of the head, the Tally
sweep, and the head's own registers (spec/15, R443 to R461).
-/
namespace Sys2Proof.Machine
open Sys2Proof

def Block.isHead (b : Block) : Bool := b.flag R.PKG_STRAPS F.PKG_STRAPS_RING_HEAD
def Block.ringAddr (b : Block) : Nat := b.fld R.CHN_ADDR F.CHN_ADDR_ADDR
def Block.hasAddr (b : Block) : Bool := b.flag R.CHN_ADDR F.CHN_ADDR_VALID

/-! ## Frames (R446 to R448) -/

/-- The bytes of a frame from DEST to its last payload byte. -/
def ChainFrame.body (f : ChainFrame) : List Byte :=
  beBytes 2 f.dest ++ beBytes 1 f.kind ++ beBytes 1 f.len ++ beBytes 1 f.tag ++ f.payload

/-- A frame leaves: with its CRC, or with the inverse of it where `crcBad`. -/
def Block.chainSend (b : Block) (f : ChainFrame) : Block :=
  let c := crc32 f.body
  b.emit (.chain (f.body ++ beBytes 4 (if f.crcBad then c ^^^ 0xFFFFFFFF else c)))

/-- A response of the package, to the command that carried `tag`. -/
def Block.respond (b : Block) (kind tag : Nat) (payload : List Byte) : Block :=
  b.chainSend { dest := 2 ^ 15 + b.ringAddr, kind := kind, len := payload.length, tag := tag, payload := payload }
def Block.ack (b : Block) (f : ChainFrame) (status : Nat) : Block :=
  b.respond 0x81 f.tag (beBytes 1 f.kind ++ beBytes 1 status)

/-- Kinds of Table 15-2. -/
def kindDefined (k : Nat) : Bool := (1 ≤ k && k ≤ 8) || (0x81 ≤ k && k ≤ 0x83)

/-- Whether a frame has a defined kind, a LEN that its kind allows, and, of a TALLY_LOAD, its classes in range (Table 15-2, R461). -/
def ChainFrame.ok (f : ChainFrame) : Bool :=
  let n := byteAt f.payload 3
  match f.kind with
  | 1 | 0x81 => f.len == 2
  | 2 => f.len == 1
  | 3 | 4 | 0x83 => f.len == 0
  | 5 => f.len == 15
  | 6 => 1 ≤ n && n ≤ 7 && f.len == 8 + 8 * n && byteAt f.payload 2 ≤ 19 && byteAt f.payload 2 + n ≤ 20
  | 7 => f.len == 48
  | 8 => f.len == 5
  | 0x82 => f.len == 4 + 4 * byteAt f.payload 1
  | _ => false

/-! ## What the commands do (R449, R454 to R457, R461) -/

/-- Statuses of Table 15-3. -/
def ackOk : Nat := 0
def ackDisabled : Nat := 1
def ackDenied : Nat := 2
def ackBad : Nat := 3
def ackRefused : Nat := 4

def Block.takeAddr (b : Block) (v : Nat) : Block := b.setWord R.CHN_ADDR v

/-- ENUMERATE (R449): the address taken, and the COUNT sent on. -/
def Block.enumerate (b : Block) (count : Nat) : Nat × Block :=
  if count == 0 then (0, b)
  else if count ≤ 32766 then (count + 1, b.takeAddr (2 ^ 31 + count))
  else (0xFFFF, b.takeAddr (2 ^ 30))

/-- The ring Hold level becomes m (R454): newly requested dies enter Hold, the others are no longer requested by it. -/
def Block.ringHold (b : Block) (m : Nat) : Block :=
  let old := b.word R.CHN_RING_HOLD
  let b := b.setWord R.CHN_RING_HOLD (m % 16)
  b.each 4 fun b d =>
    if bitOf m d && !bitOf old d then b.startEntry d holdByRing else b.recheck d

/-- A ring RELEASE: the level is 0, and the source fires on every die that enables it (R494). -/
def Block.ringRelease (b : Block) : Block :=
  (b.ringHold 0).each 4 fun b d =>
    if b.flag (R.DIE_HOLD_CFG d) F.DIE_HOLD_CFG_REL_RING_EN then b.level d else b

/-- SNAPSHOT_AT (R456): its status. -/
def Block.snapFrame (b : Block) (l : List Byte) : Nat × Block :=
  let base := byteAt l 0
  let ns := beAt l 11 4
  if base > 1 || ns > 999999999 then (ackBad, b)
  else
    let r := b.setSnap { base := base, tag := beAt l 1 4, s := beAt l 5 6, ns := ns }
    (if r.1 then ackOk else ackRefused, r.2)

/-- Whether the package takes part in a sweep of a group (R461). -/
def Block.inSweep (b : Block) (group : Nat) : Bool :=
  b.hasAddr && (group == 0xFF || group == b.fld R.CHN_TALLY_GROUP F.CHN_TALLY_GROUP_V)

/-- TALLY_LOAD (R461). -/
def Block.tallyLoad (b : Block) (l : List Byte) : Block :=
  if !b.inSweep (byteAt l 1) then b
  else
    let id := byteAt l 0
    let c := if b.chain.sweep == id then b.chain else { b.chain with sweep := id, expected := [] }
    let e := (List.range (byteAt l 3)).foldl (fun m i =>
      let k := byteAt l 2 + i
      if k == 15 || k == 17 then m else SMap.put m k (beAt l (8 + 8 * i) 8)) c.expected
    { b with chain := { c with expected := e } }

/-- The classes that a sweep compares. -/
def sweepClasses (mask : Nat) : List Nat := (List.range 20).filter fun k => k != 15 && k != 17 && bitOf mask k

/-- A payload with one added to the 16-bit count at position i. -/
def bumpAt (l : List Byte) (i : Nat) : List Byte := patch l i (beBytes 2 ((beAt l i 2 + 1) % 65536))

/-- TALLY_SUM (R461): the payload as the package sends it on. -/
def Block.tallySum (b : Block) (l : List Byte) : List Byte × Block :=
  if !b.inSweep (byteAt l 1) then (bumpAt l 12, b)
  else
    let ks := sweepClasses (beAt l 4 4)
    let want (k : Nat) : Option Nat := if b.chain.sweep == byteAt l 0 then SMap.find b.chain.expected k else none
    let bad := ks.filter fun k => want k != some (b.tally k)
    let lacks := ks.any fun k => (want k).isNone
    let mask := (bad.map fun k => 2 ^ k).sum
    let st := byteAt l 0 * 2 ^ 24 + b2n bad.isEmpty * 2 ^ 23 + b2n lacks * 2 ^ 22 + mask
    let b := b.setWord R.CHN_SWEEP_STATUS st
    if bad.isEmpty then (bumpAt l 8, b)
    else
      let n := beAt l 10 2
      let l1 := if n < 16 then patch l (16 + 2 * n) (beBytes 2 b.ringAddr) else l
      (bumpAt l1 10, b.send 2 0 0x69 0)

/-- The readable set of Table 15-4. -/
def ringReadable (a : Nat) : Bool :=
  match decodeAddr a with
  | some (.pkg, _, o) => o == 0 || o == 4 || o == 0x40 || o == 0x204
  | some (.boot, _, o) => o ≤ 0x20 || (0x40 ≤ o && o < 0x70) || o == 0xB4 || o == 0xB8
  | some (.chn, _, o) => o == 0 || o == 4 || o == 8 || o == 0x10 || o == 0x14 || o == 0x18
  | some (.die, _, o) => o == 0x2020 || o == 0x2044
  | some (.hbm, _, o) => o == 0x1004
  | some (.tim, _, o) => o == 4 || o == 0x104 || o == 0x204 || o == 0x250
  | some (.pair, _, o) => o == 0xC || o == 0x10 || o == 0x1A0
  | some (.flt, _, o) => o ≤ 0x84
  | _ => false

/-- The 32-bit register at a, read without side effect; none: no such register. -/
def Block.peek (b : Block) (a : Nat) : Option Nat :=
  match findReg a with
  | some h => if h.desc.wide then none else some (h.desc.readable (b.shown a h))
  | none => none

/-- READ (R457): the payload of the READ_RESP, and whether it was acted on. -/
def Block.ringRead (b : Block) (l : List Byte) : Nat × List Byte :=
  let a := beAt l 0 4
  let n := byteAt l 4
  let as := (List.range n).map fun i => a + 4 * i
  let no (s : Nat) : Nat × List Byte := (s, beBytes 1 s ++ zeros 3)
  if !b.flag R.CHN_CMD_EN F.CHN_CMD_EN_READ_EN then no ackDisabled
  else if a % 4 != 0 || n == 0 || n > 15 then no ackBad
  else if as.all fun x => ringReadable x && (b.peek x).isSome then
    (ackOk, beBytes 1 0 ++ beBytes 1 n ++ zeros 2 ++ as.flatMap fun x => beBytes 4 ((b.peek x).getD 0))
  else no ackDenied

/-- What an answered command does, RESET apart, which acts after the answer: its status. -/
def Block.chainAct (b : Block) (f : ChainFrame) : Nat × Block :=
  let en (e : Bf) (r : Nat × Block) : Nat × Block := if b.flag R.CHN_CMD_EN e then r else (ackDisabled, b)
  match f.kind with
  | 2 =>
    en F.CHN_CMD_EN_HOLD_EN (if byteAt f.payload 0 ≥ 16 then (ackBad, b) else (ackOk, b.ringHold (byteAt f.payload 0)))
  | 3 => en F.CHN_CMD_EN_HOLD_EN (ackOk, b.ringRelease)
  | 4 => en F.CHN_CMD_EN_RESET_EN (ackOk, b)
  | 5 => en F.CHN_CMD_EN_SNAP_EN (b.snapFrame f.payload)
  | _ => (ackOk, b)

/-- A command that acts on the package: its status, what the frame becomes, and the block; ENUMERATE and the Tally frames change it
in flight. -/
def Block.chainApply (b : Block) (f : ChainFrame) : Nat × ChainFrame × Block :=
  match f.kind with
  | 1 =>
    let r := b.enumerate (beAt f.payload 0 2)
    (ackOk, { f with payload := beBytes 2 r.1 }, r.2)
  | 6 => (ackOk, f, b.tallyLoad f.payload)
  | 7 =>
    let r := b.tallySum f.payload
    (ackOk, { f with payload := r.1 }, r.2)
  | _ =>
    let r := b.chainAct f
    (r.1, f, r.2)

/-- A ring RESET takes effect once the frame or its ACK has left (R455). -/
def Block.ringReset (b : Block) (f : ChainFrame) (status straps : Nat) : Block :=
  if f.kind == 4 && status == ackOk then b.warmReset .ring straps else b

/-! ## A frame arrives (R444, R447, R448, R453) -/

/-- Kinds that act only as broadcasts, and READ, which acts only when addressed. -/
def ChainFrame.broadcast (f : ChainFrame) : Bool := f.dest == 0x7FFF

/-- The head removes every frame from the ring and keeps it in its FIFO of 64. -/
def Block.headTakes (b : Block) (f : ChainFrame) : Block :=
  let b := if f.crcBad || f.ok then b else b.count R.CHN_BAD_FRAMES 1
  let back := !f.crcBad && f.ok && f.kind == 1
  let count := beAt f.payload 0 2
  let n : Nat × Block := if count == 0xFFFF then b.free 16 else (count - 1, b)
  let b := if back then n.2.setFld R.CHN_HEAD_STATUS F.CHN_HEAD_STATUS_COUNT n.1 else b
  let b := if back then { b with chain := { b.chain with enumBusy := false } } else b
  if b.chain.rx.length ≥ 64 then b.count R.CHN_RX_OVERFLOW 1
  else { b with chain := { b.chain with rx := b.chain.rx ++ [f] } }

/-- A command frame with a good CRC, at the package that receives it, or at the head that sends it (`own`), which sends on what a member
would not (R447, R453): a member does not forward a command addressed to it that it has acted on. -/
def Block.command (b : Block) (f : ChainFrame) (own : Bool) (straps : Nat) : Block :=
  let mine := b.hasAddr && f.dest == b.ringAddr
  let pass (b : Block) (status : Nat) : Block := if status == ackOk && !own then b else b.chainSend f
  if !f.ok then (if mine && kindDefined f.kind then (b.chainSend f).ack f ackBad else b.chainSend f)
  else if f.kind ≥ 0x81 || f.dest ≥ 2 ^ 15 then b.chainSend f
  else if f.broadcast then
    if f.kind == 8 then b.chainSend f
    else
      let r := b.chainApply f
      (r.2.2.chainSend r.2.1).ringReset f r.1 straps
  else if !mine || f.kind == 1 || f.kind == 6 || f.kind == 7 then b.chainSend f
  else if f.kind == 8 then
    let r := b.ringRead f.payload
    (pass b r.1).respond 0x82 f.tag r.2
  else
    let r := b.chainAct f
    ((pass r.2 r.1).ack f r.1).ringReset f r.1 straps

/-- A member handles a frame with a good CRC. -/
def Block.memberTakes (b : Block) (f : ChainFrame) (straps : Nat) : Block :=
  (if f.ok then b else b.count R.CHN_BAD_FRAMES 1).command f false straps

/-- A frame whose CRC fails acts on nothing and leaves with an inverted CRC. A broadcast has already been changed in flight (R447,
R448). -/
def Block.passBad (b : Block) (f : ChainFrame) : Block :=
  b.chainSend (if f.ok && f.broadcast && f.kind < 0x81 then { (b.chainApply f).2.1 with crcBad := true } else f)

/-- A frame of a kind arrives at the chain input. -/
def Block.chainIn (kind dest tag : Nat) (payload : List Byte) (crcOk : Bool) (straps : Nat) (b : Block) : Block :=
  let l := payload.take 255
  let f : ChainFrame := { dest := dest, kind := kind, len := l.length, tag := tag, payload := l, crcBad := !crcOk }
  if !b.chain.on || b.chain.lost then b
  else
    let b := if crcOk then b.pmc .pkg 0x01 kind 1 else b.count R.CHN_CRC_ERR 1
    if b.isHead then b.headTakes f
    else if crcOk then b.memberTakes f straps
    else b.passBad f

/-- BAD_FRAMES (R448): a frame of an undefined kind, or of a LEN that its kind does not allow. -/
def Block.badFrame (kind dest tag : Nat) (payload : List Byte) (b : Block) : Block :=
  let l := payload.take 255
  if (ChainFrame.ok { dest := dest, kind := kind, len := l.length, tag := tag, payload := l }) then b
  else b.chainIn kind dest tag payload true b.strapPins

/-! ## Breaks (R450, R452) -/

/-- A BREAK frame with the package's own address. -/
def Block.sendBreak (b : Block) : Block := ({ b with chain := { b.chain with breakAt := b.ticks } }).respond 0x83 0 []

/-- A frame that a member is forwarding when its input is lost ends with an inverted CRC (R452). Frames come whole with their commands,
so that the bytes it has sent of one, from DEST, are free ones, up to 255 of them, and none where it forwards no frame (assumption 1). -/
def Block.chainCut (b : Block) : Block :=
  if b.isHead then b
  else
    let n := b.free 8
    let x := n.2.freeBytes n.1
    if x.1.isEmpty then x.2 else x.2.emit (.chain (x.1 ++ beBytes 4 (crc32 x.1 ^^^ 0xFFFFFFFF)))

/-- CHAIN_BREAK: the chain input is lost. -/
def Block.chainBreak (b : Block) : Block :=
  if !b.chain.on || b.chain.lost then b
  else
    let b := b.chainCut
    let b := { b with chain := { b.chain with lost := true, locked := false } }
    ((b.raise R.CHN_STATUS F.CHN_STATUS_IN_LOST_SEEN).send 2 0 0x68 0).sendBreak

/-- BREAK_REPEAT: 1 ms after the last BREAK, while the loss lasts. -/
def Block.breakRepeat (b : Block) : Block :=
  if b.chain.on && b.chain.lost && b.ticks ≥ b.chain.breakAt + oneMs then b.sendBreak else b

/-- A package head sends ENUMERATE: it takes address 1 and sends COUNT 2 (R449, R450). -/
def Block.sendEnum (b : Block) : Block :=
  if !b.isHead || !b.chain.on then b
  else
    let b := { b with chain := { b.chain with enumBusy := true } }
    (b.takeAddr (2 ^ 31 + 1)).chainSend { dest := 0x7FFF, kind := 1, len := 2, payload := beBytes 2 2 }

/-- CHAIN_INPUT_REGAINED: the input is aligned; after a loss a package head enumerates. -/
def Block.chainRegained (b : Block) : Block :=
  if !b.chain.on then b
  else
    let was := b.chain.lost
    let b := { b with chain := { b.chain with lost := false, locked := true } }
    if was then b.sendEnum else b

/-! ## The head's registers (Table 15-9) -/

/-- The frame in TX_HDR0, TX_HDR1 and TX_DATA. -/
def Block.txFrame (b : Block) : ChainFrame :=
  let h := b.word R.CHN_TX_HDR0
  let n := min 64 (b.fld R.CHN_TX_HDR1 F.CHN_TX_HDR1_LEN)
  { dest := h % 65536, kind := h / 2 ^ 16 % 256, tag := h / 2 ^ 24, len := n,
    payload := ((List.range 16).flatMap fun k => leBytes 4 (b.word (R.CHN_TX_DATA k))).take n }

/-- The head sends its frame and applies it to itself (R453). -/
def Block.headSend (b : Block) (straps : Nat) : Block :=
  let f := b.txFrame
  (if f.kind == 1 && f.ok then { b with chain := { b.chain with enumBusy := true } } else b).command f true straps

/-- A write of HEAD_CTRL. -/
def Block.headCtrl (w : Writer) (v straps : Nat) (b : Block) : Block :=
  if !b.isHead then b.refuse w R.CHN_HEAD_CTRL
  else
    let b := if F.CHN_HEAD_CTRL_ENUM.of v == 1 then b.sendEnum else b
    if F.CHN_HEAD_CTRL_SEND.of v == 1 && b.chain.on then b.headSend straps else b
/-- HEAD_ENUM. -/
def Block.headEnum (w : Writer) (v : Nat) (b : Block) : Block :=
  if F.CHN_HEAD_CTRL_ENUM.of v == 0 then b else b.headCtrl w v b.strapPins
/-- HEAD_SEND. -/
def Block.headSendWrite (w : Writer) (v straps : Nat) (b : Block) : Block :=
  if F.CHN_HEAD_CTRL_SEND.of v == 0 then b else b.headCtrl w v straps

/-- RX_POP: the oldest returned frame is discarded. -/
def Block.rxPop (v : Nat) (b : Block) : Block :=
  if F.CHN_RX_POP_POP.of v == 0 then b else { b with chain := { b.chain with rx := b.chain.rx.drop 1 } }

end Sys2Proof.Machine
end

