-- ==== Sys2Proof/Machine/Signature.lean ====
section
/-!
DEFINITION. Machine/Signature.lean: the two signature checks that R425 names: ECDSA on P-384 with SHA-384, and ML-DSA-65 with the
extendable hashes it rests on (assumption 2).
-/
namespace Sys2Proof.Machine
open Sys2Proof

/-! ## ECDSA on P-384 -/

/-- The field, the order of the group, the coefficient b (a is -3), and the base point. -/
def curveP : Nat := 2 ^ 384 - 2 ^ 128 - 2 ^ 96 + 2 ^ 32 - 1
def curveN : Nat := 0xFFFFFFFFFFFFFFFFFFFFFFFFFFFFFFFFFFFFFFFFFFFFFFFFC7634D81F4372DDF581A0DB248B0A77AECEC196ACCC52973
def curveB : Nat := 0xB3312FA7E23EE7E4988E056BE3F82D19181D9C6EFE8141120314088F5013875AC656398D8A2ED19D2A85C8EDD3EC2AEF
def baseX : Nat := 0xAA87CA22BE8B05378EB1C71EF320AD746E1D3B628BA79B9859F741E082542A385502F25DBF55296C3A545E3872760AB7
def baseY : Nat := 0x3617DE4A96262C6F5D9E98BF9292DC29F8F41DBD289A147CE9DA3113B5F0B8C00A60B1CE1D7E819D7A431D7C90EA0E5F

/-- b to the power e modulo m, for e of at most n bits. -/
def powMod (m b e : Nat) : Nat → Nat
  | 0 => 1
  | n + 1 => (if e % 2 == 1 then b else 1) * powMod m (b * b % m) (e / 2) n % m

/-- The inverse of x modulo a prime m of at most 384 bits. -/
def invMod (m x : Nat) : Nat := powMod m x (m - 2) 384

/-- A point (X / Z², Y / Z³) of the curve; Z is 0 at infinity. -/
structure CurvePoint where
  x : Nat
  y : Nat
  z : Nat
deriving DecidableEq, Repr

def curveInfinity : CurvePoint := ⟨1, 1, 0⟩
def curveBase : CurvePoint := ⟨baseX, baseY, 1⟩

/-- The difference a - b in the field, of elements below its size. -/
def fieldSub (a b : Nat) : Nat := (a + (curveP - b)) % curveP

/-- Twice a point. -/
def CurvePoint.double (u : CurvePoint) : CurvePoint :=
  let yy := u.y * u.y % curveP
  let zz := u.z * u.z % curveP
  let slope := 3 * fieldSub u.x zz * (u.x + zz) % curveP
  let c := 4 * u.x * yy % curveP
  let x := fieldSub (slope * slope % curveP) (2 * c % curveP)
  ⟨x, fieldSub (slope * fieldSub c x % curveP) (8 * yy * yy % curveP), 2 * u.y * u.z % curveP⟩

/-- The sum of two points. -/
def CurvePoint.add (u v : CurvePoint) : CurvePoint :=
  if u.z == 0 then v
  else if v.z == 0 then u
  else
    let uu := u.z * u.z % curveP
    let vv := v.z * v.z % curveP
    let a := u.x * vv % curveP
    let c := u.y * vv * v.z % curveP
    let run := fieldSub (v.x * uu % curveP) a
    let rise := fieldSub (v.y * uu * u.z % curveP) c
    if run == 0 then (if rise == 0 then u.double else curveInfinity)
    else
      let rr := run * run % curveP
      let cube := rr * run % curveP
      let x := fieldSub (rise * rise % curveP) ((cube + 2 * a * rr) % curveP)
      ⟨x, fieldSub (rise * fieldSub (a * rr % curveP) x % curveP) (c * cube % curveP), u.z * v.z * run % curveP⟩

/-- k times a point, for k of at most n bits. -/
def CurvePoint.times (u : CurvePoint) (k : Nat) : Nat → CurvePoint
  | 0 => curveInfinity
  | n + 1 =>
    let h := (u.times (k / 2) n).double
    if k % 2 == 1 then h.add u else h

/-- Whether the ECDSA signature (r, then s) over a message, hashed by SHA-384, verifies under the public key (x, then y), which must be a
point of the curve (R425). -/
def ecdsaVerify (key msg sig : List Byte) : Bool :=
  let x := beAt key 0 48
  let y := beAt key 48 48
  let r := beAt sig 0 48
  let s := beAt sig 48 48
  let w := invMod curveN s
  let e := beVal (sha384 msg)
  let t := (curveBase.times (e * w % curveN) 384).add ((CurvePoint.mk x y 1).times (r * w % curveN) 384)
  x < curveP && y < curveP && y * y % curveP == fieldSub ((x * x * x + curveB) % curveP) (3 * x % curveP)
    && 0 < r && r < curveN && 0 < s && s < curveN
    && t.z != 0 && t.x * invMod curveP (t.z * t.z % curveP) % curveP % curveN == r

/-! ## SHAKE -/

/-- A state of five rows of five lanes of 64 bits. -/
abbrev Lanes := List (List Nat)

/-- The entry at column x of row y, both taken modulo 5. -/
def Lanes.at (s : Lanes) (x y : Nat) : Nat := (s.getD (y % 5) []).getD (x % 5) 0

/-- The lanes in the order in which the standard's walk meets them, from column x and row y on. -/
def laneWalk : Nat → Nat → Nat → List (Nat × Nat)
  | 0, _, _ => []
  | n + 1, x, y => (x, y) :: laneWalk n y ((2 * x + 3 * y) % 5)

/-- How far a lane turns to the left: the triangular number of its place in the walk; the lane (0, 0) stays. -/
def laneTurn (x y : Nat) : Nat :=
  if x == 0 && y == 0 then 0 else let t := (laneWalk 24 1 0).idxOf (x, y); (t + 1) * (t + 2) / 2 % 64
def laneTurns : Lanes := (List.range 5).map fun y => (List.range 5).map fun x => laneTurn x y

/-- The register that gives the bits of the round constants, after t steps. -/
def roundBits : Nat → Nat
  | 0 => 1
  | t + 1 => let r := 2 * roundBits t; if r < 256 then r else r ^^^ 0x171
/-- The constant of round i. -/
def laneConst (i : Nat) : Nat := ((List.range 7).map fun j => roundBits (j + 7 * i) % 2 * 2 ^ (2 ^ j - 1)).sum
def laneConsts : List Nat := (List.range 24).map laneConst

/-- A lane turned left by n places. -/
def turnLeft (a n : Nat) : Nat := a * 2 ^ n % 2 ^ 64 + a / 2 ^ (64 - n)

/-- One round of the permutation with its constant. -/
def laneRound (s : Lanes) (k : Nat) : Lanes :=
  let col := s.foldl (List.zipWith (· ^^^ ·)) [0, 0, 0, 0, 0]
  let mix := (List.range 5).map fun x => col.getD ((x + 4) % 5) 0 ^^^ turnLeft (col.getD ((x + 1) % 5) 0) 1
  let s := List.zipWith (fun row n => List.zipWith (fun a m => turnLeft (a ^^^ m.1) m.2) row (mix.zip n)) s laneTurns
  let s := (List.range 5).map fun y => (List.range 5).map fun x => Lanes.at s (x + 3 * y) x
  let s := s.map fun row => (List.range 5).map fun x =>
    row.getD x 0 ^^^ ((2 ^ 64 - 1 - row.getD ((x + 1) % 5) 0) &&& row.getD ((x + 2) % 5) 0)
  match s with
  | (a :: row) :: rows => ((a ^^^ k) :: row) :: rows
  | _ => s

def lanePermute (s : Lanes) : Lanes := laneConsts.foldl laneRound s

/-- The 200 bytes of a state, and the state of 200 bytes. -/
def laneBytes (s : Lanes) : List Byte := s.flatMap fun row => row.flatMap fun a => leBytes 8 a
def bytesLanes (l : List Byte) : Lanes :=
  (List.range 5).map fun y => (List.range 5).map fun x => leVal (slice l (8 * (5 * y + x)) (8 * (5 * y + x) + 8))

/-- n blocks of `rate` bytes squeezed from a state. -/
def squeeze (rate : Nat) : Nat → Lanes → List Byte
  | 0, _ => []
  | n + 1, s => (laneBytes s).take rate ++ squeeze rate n (lanePermute s)

/-- A message filled up to whole blocks of `rate` bytes, with the bits that mark SHAKE. -/
def shakePad (rate : Nat) (m : List Byte) : List Byte :=
  let n := rate - m.length % rate
  if n == 1 then m ++ [0x9F] else m ++ [0x1F] ++ zeros (n - 2) ++ [0x80]

/-- The first n blocks of SHAKE with blocks of `rate` bytes: 168 for SHAKE128, 136 for SHAKE256. -/
def shake (rate : Nat) (m : List Byte) (n : Nat) : List Byte :=
  let p := shakePad rate m
  let s := (List.range (p.length / rate)).foldl (fun s i =>
    let x := bytesLanes (slice p (rate * i) (rate * i + rate) ++ zeros (200 - rate))
    lanePermute (List.zipWith (List.zipWith (· ^^^ ·)) s x)) (bytesLanes (zeros 200))
  squeeze rate n s
/-- The first n bytes of SHAKE256, n at most 136. -/
def shake256 (m : List Byte) (n : Nat) : List Byte := (shake 136 m 1).take n

/-! ## ML-DSA-65 -/

/-- The modulus q, and the powers of the 512th root of unity modulo q. -/
def dsaQ : Nat := 8380417
def dsaRoot (e : Nat) : Nat := 1753 ^ (e % 512) % dsaQ

/-- The values of a polynomial of degree below 2^n modulo X^(2^n) - root^e, by splitting it into its two halves. -/
def polyValues : Nat → Nat → List Nat → List Nat
  | 0, _, f => f
  | n + 1, e, f =>
    let low := f.take (2 ^ n)
    let high := (f.drop (2 ^ n)).map fun a => a * dsaRoot (e / 2) % dsaQ
    polyValues n (e / 2) (List.zipWith (fun a b => (a + b) % dsaQ) low high)
      ++ polyValues n (e / 2 + 256) (List.zipWith (fun a b => (a + (dsaQ - b)) % dsaQ) low high)
/-- The polynomial with given values, the inverse of that. -/
def polyOf : Nat → Nat → List Nat → List Nat
  | 0, _, v => v
  | n + 1, e, v =>
    let l := polyOf n (e / 2) (v.take (2 ^ n))
    let r := polyOf n (e / 2 + 256) (v.drop (2 ^ n))
    let half := (dsaQ + 1) / 2
    List.zipWith (fun a b => (a + b) * half % dsaQ) l r
      ++ List.zipWith (fun a b => (a + (dsaQ - b)) * half % dsaQ * dsaRoot (512 - e / 2) % dsaQ) l r

/-- The values of a product, and the sum and difference of values. -/
def dsaMul (a b : List Nat) : List Nat := List.zipWith (fun x y => x * y % dsaQ) a b
def dsaAdd (a b : List Nat) : List Nat := List.zipWith (fun x y => (x + y) % dsaQ) a b
def dsaSub (a b : List Nat) : List Nat := List.zipWith (fun x y => (x + (dsaQ - y)) % dsaQ) a b

/-- n numbers of w bits each, packed from the least significant bit on. -/
def unpackBits (w n : Nat) (l : List Byte) : List Nat := let v := leVal l; (List.range n).map fun k => v / 2 ^ (w * k) % 2 ^ w

/-- The elements below q that the 3-byte groups of a stream give. -/
def uniform : List Byte → List Nat
  | a :: b :: c :: l =>
    let v := a.toNat + 256 * b.toNat + 65536 * (c.toNat % 128)
    if v < dsaQ then v :: uniform l else uniform l
  | _ => []
/-- The values of the entry in row r and column s of the matrix that seed rho expands to, from the first 336 groups of its stream (zeros
where they do not give enough). -/
def dsaMatrix (rho : List Byte) (r s : Nat) : List Nat :=
  (uniform (shake 168 (rho ++ [BitVec.ofNat 8 s, BitVec.ofNat 8 r]) 6) ++ List.replicate 256 0).take 256

/-- The challenge: coefficients i … 255 take their places as the stream says, with the signs of the bits of `signs`. -/
def challengeFrom : List Byte → Nat → Nat → List Nat → List Nat
  | [], _, _, c => c
  | j :: l, i, signs, c =>
    if i ≥ 256 then c
    else if j.toNat > i then challengeFrom l i signs c
    else challengeFrom l (i + 1) (signs / 2) ((c.set i (c.getD j.toNat 0)).set j.toNat (if signs % 2 == 1 then dsaQ - 1 else 1))
/-- The polynomial of 49 coefficients 1 or -1 that a seed gives. -/
def challenge (seed : List Byte) : List Nat :=
  let x := shake 136 seed 2
  challengeFrom (x.drop 8) 207 (leVal (x.take 8)) (List.replicate 256 0)

/-- Whether the 61 bytes of a hint are as the standard encodes one: the ends of the rows ascend to at most 55, the positions ascend in each
row, and the rest is zero. -/
def hintOk (h : List Byte) : Bool :=
  let end_ (i : Nat) : Nat := if i == 0 then 0 else (h.getD (54 + i) 0).toNat
  (List.range 6).all (fun i => end_ i ≤ end_ (i + 1) && end_ (i + 1) ≤ 55
    && (List.range (end_ (i + 1) - end_ i - 1)).all fun k => (h.getD (end_ i + k) 0).toNat < (h.getD (end_ i + k + 1) 0).toNat)
    && (List.range (55 - end_ 6)).all fun k => h.getD (end_ 6 + k) 0 == 0
/-- The positions that the hint marks in row i. -/
def hintRow (h : List Byte) (i : Nat) : List Nat :=
  let start := if i == 0 then 0 else (h.getD (54 + i) 0).toNat
  (slice h start (h.getD (55 + i) 0).toNat).map fun x => x.toNat

/-- The high part of r, corrected where the hint is set: parts of 523,776, each from above its lower half to its upper, and the 16th
part is the first. -/
def useHint (hint : Bool) (r : Nat) : Nat :=
  let a := 523776
  let high := (if r % a > a / 2 then r / a + 1 else r / a) % 16
  if !hint then high
  else if 0 < r % a && r % a ≤ a / 2 then (high + 1) % 16
  else (high + 15) % 16

/-- FIPS 204 ML-DSA.Verify of ML-DSA-65 over a message with an empty context string: key of 1,952 bytes, signature of 3,309 (R425). -/
def mlDsaVerify (key msg sig : List Byte) : Bool :=
  let seed := sig.take 48
  let zRaw := (List.range 5).map fun j => unpackBits 20 256 (slice sig (48 + 640 * j) (688 + 640 * j))
  let hint := sig.drop 3248
  let z := zRaw.map fun l => polyValues 8 256 (l.map fun v => (dsaQ + 524288 - v) % dsaQ)
  let c := polyValues 8 256 (challenge seed)
  let mu := shake256 (shake256 key 64 ++ [0, 0] ++ msg) 64
  let row (i : Nat) : List Nat :=
    let t := polyValues 8 256 ((unpackBits 10 256 (slice key (32 + 320 * i) (352 + 320 * i))).map fun v => v * 8192 % dsaQ)
    let az := (List.range 5).foldl (fun s j => dsaAdd s (dsaMul (dsaMatrix (key.take 32) i j) (z.getD j []))) (List.replicate 256 0)
    let w := polyOf 8 256 (dsaSub az (dsaMul c t))
    let marks := hintRow hint i
    (List.range 256).map fun k => useHint (marks.contains k) (w.getD k 0)
  let packed := (List.range 6).flatMap fun i => leBytes 128 ((row i).foldr (fun v s => v + 16 * s) 0)
  hintOk hint && zRaw.all (fun l => l.all fun v => 196 < v && v < 1048380)
    && shake256 (mu ++ packed) 48 == seed

end Sys2Proof.Machine
end

