-- ==== Sys2Proof/Machine/BootCtl.lean ====
section
/-!
DEFINITION. Machine/BootCtl.lean: the boot sequencer but for the sections: the header and its checks, rejection and the next
source, the host wait and the host load, HBM training, completion; the fuses (spec/14, R417 to R438).
-/
namespace Sys2Proof.Machine
open Sys2Proof

/-! ## Bytes of an image (little-endian, R421) -/

/-- The n bytes at offset k; what an image does not hold reads 0. -/
def imgBytes (l : List Byte) (k n : Nat) : List Byte := let x := slice l k (k + n); x ++ zeros (n - x.length)
def imgNum (l : List Byte) (k n : Nat) : Nat := leVal (imgBytes l k n)

/-- The package's revision code. -/
def Block.revision (b : Block) : Nat := b.fld R.PKG_REV F.PKG_REV_REV

/-- The codes of Table 14-10. -/
def failNvm : Nat := 1
def failMagic : Nat := 2
def failLayout : Nat := 3
def failRevision : Nat := 4
def failKey : Nat := 5
def failSignature : Nat := 6
def failRollback : Nat := 7
def failDigest : Nat := 8
def failDecrypt : Nat := 9
def failApply : Nat := 10
def failUnknown : Nat := 11

/-- Bytes of a signature block (Table 14-8). -/
def sigLen : Nat := 3416

def hdrLen (h : List Byte) : Nat := imgNum h 8 4
def hdrCount (h : List Byte) : Nat := imgNum h 12 2
def hdrSlot (h : List Byte) : Nat := imgNum h 14 1
def hdrSvn (h : List Byte) : Nat := imgNum h 32 4
/-- OFFSET, LENGTH and DIGEST of directory entry k (Table 14-5). -/
def dirOffset (h : List Byte) (k : Nat) : Nat := imgNum h (4160 + 64 * k) 8
def dirLength (h : List Byte) (k : Nat) : Nat := imgNum h (4168 + 64 * k) 8
def dirDigest (h : List Byte) (k : Nat) : List Byte := imgBytes h (4176 + 64 * k) 48
/-- The key pairs of the header: the owner's, the vendor's. -/
def ownerKeys (h : List Byte) : List Byte := imgBytes h 64 2048
def vendorKeys (h : List Byte) : List Byte := imgBytes h 2112 2048

/-- A signature block: its MAGIC and FORMAT, its SIGNER and reserved bytes, and its two signatures. -/
def sigMagicOk (s : List Byte) : Bool := imgNum s 0 4 == 0x53494733 && imgNum s 4 2 == 1
def sigLayoutOk (s : List Byte) (signer : Nat) : Bool := imgNum s 6 1 == signer && imgNum s 7 1 == 0 && imgNum s 3413 3 == 0
def sigPair (s : List Byte) : List Byte := imgBytes s 8 3405
/-- Whether both signatures verify over M, each under its half of the signer's key pair (R425). -/
def signaturesOk (keys m sigs : List Byte) : Bool :=
  ecdsaVerify (imgBytes keys 0 96) m (imgBytes sigs 0 96) && mlDsaVerify (imgBytes keys 96 1952) m (imgBytes sigs 96 3309)

/-- The directory's offsets ascend, and its sections do not overlap (R422); `from_` is where the next may start. -/
def dirOk (h : List Byte) (n k from_ : Nat) : Bool :=
  match n with
  | 0 => true
  | n + 1 =>
    let o := dirOffset h k
    o % 4096 == 0 && o ≥ from_ && dirLength h k ≥ 64 + sigLen && dirOk h n (k + 1) (o + dirLength h k)

/-- The end of the last section. -/
def imageEnd (h : List Byte) : Nat := let k := hdrCount h - 1; dirOffset h k + dirLength h k

/-- Lengths, counts, alignment, overlap and reserved bytes of a header (R421, R422). -/
def headerLayoutOk (h : List Byte) (base : Nat) : Bool :=
  let n := hdrCount h
  let len := imgNum h 40 8
  1 ≤ n && n ≤ 1024 && hdrLen h == 4160 + 64 * n && hdrSlot h ≤ 3 && hdrSvn h ≤ 63 && imgNum h 6 2 == 0 && imgNum h 15 1 == 0
    && imgNum h 56 8 == 0 && len ≤ 2 ^ 32 && base + len ≤ 2 ^ 32 && dirOk h n 0 (hdrLen h + sigLen) && len == imageEnd h

/-- Whether the owner key pair is one the fuses accept (R427). -/
def Block.ownerKeyOk (b : Block) (h : List Byte) : Bool :=
  let s := hdrSlot h
  b.fuses.programmed == 0
    || (bitOf b.fuses.programmed s && !bitOf b.fuses.revoked s && SMap.get [] b.fuses.hashes s == sha384 (ownerKeys h))

/-- The flash address of an image source: slot 0 at 0, slot 1 where the strap says. -/
def Block.sourceBase (b : Block) : Nat :=
  if b.fld R.BOOT_STATUS F.BOOT_STATUS_SOURCE != 1 then 0
  else match b.fld R.PKG_STRAPS F.PKG_STRAPS_SLOT1 with
    | 1 => 2 ^ 28 | 2 => 2 ^ 30 | _ => 2 ^ 31

/-- The failure of a header, as its checks find it (Table 14-10). -/
def Block.headerFail (b : Block) (raw : List Byte) : Option Nat :=
  let n := hdrLen raw
  let s := imgBytes raw n sigLen
  if imgNum raw 0 4 != 0x4E514933 || imgNum raw 4 2 != 3 then some failMagic
  else if !headerLayoutOk raw b.sourceBase then some failLayout
  else if !sigMagicOk s then some failMagic
  else if !sigLayoutOk s 0 then some failLayout
  else if imgNum raw 36 2 > b.revision || b.revision > imgNum raw 38 2 then some failRevision
  else if !b.ownerKeyOk raw then some failKey
  else if !signaturesOk (ownerKeys raw) (sha384 (imgBytes raw 0 n)) (sigPair s) then some failSignature
  else if hdrSvn raw < b.fuses.svn then some failRollback
  else none

/-! ## Rejection (R433, R434) -/

/-- FAIL_INFO (Table 14-16). -/
def Block.failInfo (b : Block) (code sect : Nat) : Block :=
  b.setWord R.BOOT_FAIL_INFO (code * 2 ^ 24 + b.fld R.BOOT_STATUS F.BOOT_STATUS_SOURCE * 2 ^ 22 + sect)

/-- Registers that a rejection keeps beside those of a package soft reset: the BOOT block, the straps, RESET_CAUSE, and the PCIe
link's status, since PCIe does not depend on the boot (R418). -/
def rejectKeeps (a : Nat) : Bool :=
  (0x10000 ≤ a && a < 0x20000) || a == R.PKG_STRAPS || a == R.FLT_RESET_CAUSE || a == R.HIF_LINK_STATUS

/-- Every block returns to its reset state, as a package soft reset leaves it. -/
def Block.rejectReset (b : Block) : Block :=
  let l := b.regs.filter fun e => rejectKeeps e.1
  let n := (b.afterReset true false).railsToL2
  let n := if b.refLost then n else n.raise R.TIM_REF_STATUS F.TIM_REF_STATUS_REFCLK_OK
  l.foldl (fun n e => n.setWord e.1 e.2.toNat) n

/-- The sequencer reads the header of a source: of slot 1 from step 3, of a host image from step 4 (R433, R435). -/
def Block.readSource (b : Block) (s : Nat) : Block :=
  let b : Block := { b with boot := { phase := .header, start := b.boot.start, bus := b.boot.bus } }
  let b := b.setFld R.BOOT_STATUS F.BOOT_STATUS_SOURCE s
  if s == 2 then b.bootStep 4 else b.flashOpen

/-- An image is rejected for `code` at a section (0xFFFF: the header): the next source is slot 1 where it is strapped, else the
host wait. -/
def Block.reject (b : Block) (code sect : Nat) : Block :=
  let src := b.fld R.BOOT_STATUS F.BOOT_STATUS_SOURCE
  let slot1 := src == 0 && b.fld R.PKG_STRAPS F.PKG_STRAPS_SLOT1 != 0
  let b := if slot1 then b else b.nvmDrive false
  let boot : Boot := { start := b.boot.start, bus := b.boot.bus }
  let b := b.failInfo code sect
  let b := b.setFld R.BOOT_STATUS F.BOOT_STATUS_REJECTS (sat 255 (b.fld R.BOOT_STATUS F.BOOT_STATUS_REJECTS + 1))
  let b := (b.setWord R.BOOT_SECT_COUNT 0).rejectReset
  let b := ({ b with boot := boot }).send 0 1 0x61 0
  if slot1 then b.readSource 1 else b.trainStart .trainingIdle

/-- The mode and the clock of flash reads (Table 14-1, R419): 1S-1S-1S at 50 MHz, or 8D-8D-8D at the strapped clock. -/
def Block.nvmRead (addr : Nat) (b : Block) : Block :=
  let slow := b.flag R.BOOT_STATUS F.BOOT_STATUS_NVM_SLOW
  let fast := [50, 100, 166, 200].getD (b.fld R.PKG_STRAPS F.PKG_STRAPS_NVM_SPEED) 50
  if b.fld R.BOOT_STATUS F.BOOT_STATUS_SOURCE == 2 then b else b.emit (.nvm (.read (!slow) (if slow then 50 else fast) addr))

/-- The end of step 3: `slow`, SFDP did not read correctly or offers no 8D-8D-8D mode; STRAP_NVM_SDR keeps the bus single. -/
def Block.nvmMode (slow : Bool) (b : Block) : Block :=
  let slow := slow || b.flag R.PKG_STRAPS F.PKG_STRAPS_NVM_SDR
  let b := b.setFld R.BOOT_STATUS F.BOOT_STATUS_NVM_SLOW (b2n slow)
  if slow then b else b.emit (.nvm .enterOctal)

/-- The read of section k begins; after the last, the last byte is read and the bus released (Table 14-3, step 6). -/
def Block.sectionRead (k : Nat) (b : Block) : Block :=
  let h := b.boot.header
  if k < hdrCount h then b.nvmRead (b.sourceBase + dirOffset h k) else (b.bootStep 6).nvmDrive false

/-- HEADER_CHECK (R421, R425, R427): the header and its signature block, as read from the source; `timeout`: a read ran out of
time; `slow`: the flash is read in 1S-1S-1S mode for what its SFDP says (R419). -/
def Block.headerCheck (raw : List Byte) (timeout slow : Bool) (b : Block) : Block :=
  let b := b.bootMove.bootMove
  if b.boot.phase != .header then b
  else
    let b := if b.fld R.BOOT_STATUS F.BOOT_STATUS_SOURCE != 2 then b.nvmMode slow else b
    let b := b.nvmRead b.sourceBase
    if timeout then b.reject failNvm 0xFFFF
    else match b.headerFail raw with
      | some c => b.reject c 0xFFFF
      | none =>
        let b : Block := { b with boot := { b.boot with phase := .sections, header := imgBytes raw 0 (hdrLen raw), section_ := 0 } }
        ((b.setFld R.BOOT_KEY_STATUS F.BOOT_KEY_STATUS_SLOT (hdrSlot raw)).bootStep 5).sectionRead 0

/-- HOST_LOAD, a write of HOST_CTRL.GO during the host wait (R435). -/
def Block.hostLoad (w : Writer) (v : Nat) (b : Block) : Block :=
  if F.BOOT_HOST_CTRL_GO.of v == 0 then b
  else if !b.flag R.BOOT_STATUS F.BOOT_STATUS_HOST_WAIT then b.refuse w R.BOOT_HOST_CTRL
  else (b.lower R.BOOT_STATUS F.BOOT_STATUS_HOST_WAIT).readSource 2

/-! ## HBM training (R437, R438) -/

/-- The lengths of the runs of passing taps from tap k on: entry j is the run that begins at tap j. -/
def runsFrom (sweep : BitVec 128) : Nat → List Nat
  | 0 => []
  | n + 1 =>
    let r := runsFrom sweep n
    (if sweep.getLsbD (127 - n) then r.headD 0 + 1 else 0) :: r

/-- The widest run of passing taps, and its centre: of several, and at half a tap, the one the free choice takes. -/
def widestRun (sweep : BitVec 128) : Nat × Nat :=
  let runs := runsFrom sweep 128
  let w := runs.foldl max 0
  let starts := (List.range 128).filter fun j => runs.getD j 0 == w
  let centres := if w == 0 then List.range 128 else starts.flatMap fun j => if w % 2 == 1 then [j + w / 2] else [j + w / 2 - 1, j + w / 2]
  (w, centres.getD (Config.runPick sweep % centres.length) 0)

/-- A lane's result (R437): a width below MIN_EYE is repaired where there is a spare; otherwise the lane fails. -/
def Block.laneResult (b : Block) (d : Nat) (x : LaneSweep) : Nat :=
  let eye := b.fld (R.HBM_TRAIN_CFG d) F.HBM_TRAIN_CFG_MIN_EYE
  let rd := widestRun x.rd
  let wr := widestRun x.wr
  let low := rd.1 < eye || wr.1 < eye
  let v := F.HBM_TRAIN_REPAIRED.put (F.HBM_TRAIN_FAIL.put 0 (b2n (low && !x.spare))) (b2n (low && x.spare))
  let v := F.HBM_TRAIN_RD_CENTRE.put (F.HBM_TRAIN_RD_WIDTH.put v rd.1) rd.2
  F.HBM_TRAIN_WR_CENTRE.put (F.HBM_TRAIN_WR_WIDTH.put v wr.1) wr.2

def Block.trained (b : Block) (d : Nat) : Bool := b.flag (R.HBM_TRAIN_STATUS d) F.HBM_TRAIN_STATUS_DONE
def Block.allTrained (b : Block) : Bool := (List.range 4).all b.trained

/-- The host wait begins (R434). -/
def Block.hostWait (b : Block) : Block :=
  let b : Block := { b with boot := { b.boot with phase := .hostWait } }
  let b := (b.raise R.BOOT_STATUS F.BOOT_STATUS_NO_IMAGE).raise R.BOOT_STATUS F.BOOT_STATUS_HOST_WAIT
  (b.send 0 1 0x63 0).sendEnum

/-- The sequencer is training. -/
def Block.isTraining (b : Block) : Bool :=
  match b.boot.phase with
  | .training | .trainingIdle => true
  | _ => false

/-- HBM_TRAIN: the training of die d's stacks is over; `lanes`: what the sweeps found on stack 0, then stack 1. -/
def Block.hbmTrain (d : Nat) (lanes : List LaneSweep) (b : Block) : Block :=
  let b := if b.flag R.PKG_STRAPS F.PKG_STRAPS_HOST_WAIT then b.bootMove else b
  if !b.isTraining || b.trained d then b
  else
    let res := (List.range 512).map fun k => b.laneResult d (lanes.getD k {})
    let b := (List.range 512).foldl (fun b k => b.setWord (R.HBM_TRAIN d (k / 256) (k % 256)) (res.getD k 0)) b
    let bad (l : List Nat) : Bool := l.any fun v => F.HBM_TRAIN_FAIL.of v == 1
    let failed := b2n (bad (res.take 256)) + 2 * b2n (bad (res.drop 256))
    let rep := (res.filter fun v => F.HBM_TRAIN_REPAIRED.of v == 1).length
    let b := b.setWord (R.HBM_TRAIN_STATUS d) (2 ^ 31 + rep * 2 ^ 16 + failed)
    let b := b.each 2 fun b s => if bitOf failed s then b.send 8 d 0x64 0 else b
    if b.boot.phase == .trainingIdle && b.allTrained then b.hostWait else b

/-! ## Completion (R417) -/

/-- BOOT_DONE: training is over, and the sequencer completes. -/
def Block.bootDone (b : Block) : Block :=
  if b.boot.phase != .training || !b.allTrained then b
  else
    let h := b.boot.header
    let src := b.fld R.BOOT_STATUS F.BOOT_STATUS_SOURCE
    let b := b.each 4 fun b k => b.setWord (R.BOOT_IMAGE_ID k) (imgNum h (16 + 4 * k) 4)
    let dg := sha384 h
    let b := b.each 12 fun b k => b.setWord (R.BOOT_IMAGE_DIGEST k) (imgNum dg (4 * k) 4)
    let b := (b.setWord R.BOOT_IMAGE_SVN (hdrSvn h)).setWord R.BOOT_TIME_MS ((b.ticks - b.boot.start) / 1000000)
    let b := ((b.raise R.BOOT_STATUS F.BOOT_STATUS_DONE).lower R.BOOT_STATUS F.BOOT_STATUS_NO_IMAGE).bootStep 9
    let b : Block := { b with locked := true, boot := { b.boot with phase := .done } }
    let b := b.setFld R.PAIR_STATUS F.PAIR_STATUS_ROLE (b.fld R.PAIR_CFG F.PAIR_CFG_ROLE)
    let b := b.each 4 fun b d => b.each 3 fun b e => b.setLink d (otherDie d e) { trained := true }
    let b := b.each 256 fun b p => b.bringUp p
    let b := b.send 0 1 0x60 src
    let cause := b.word R.FLT_RESET_CAUSE
    let b := if bitOf cause 31 then b else b.send 0 0 0x06 cause
    (b.each 4 fun b d => b.enterAgain d).sendEnum

/-! ## The fuses (R427, R436, Table 14-17) -/

/-- A write of FUSE_CTRL: refused before DONE, while BUSY, with OP 0, and with OP 1 for a programmed slot. -/
def Block.fuseCtrl (w : Writer) (v : Nat) (b : Block) : Block :=
  let a := R.BOOT_FUSE_CTRL
  let op := F.BOOT_FUSE_CTRL_OP.of v
  let slot := F.BOOT_FUSE_CTRL_SLOT.of v
  if F.BOOT_FUSE_CTRL_KEY.of v != 0xC3 || !b.started || b.flag a F.BOOT_FUSE_CTRL_BUSY || op == 0
    || (op == 1 && bitOf b.fuses.programmed slot) then b.refuse w a
  else
    let stage := (List.range 12).flatMap fun k => leBytes 4 (b.word (R.BOOT_FUSE_STAGE k))
    let b := (b.storeReg w a v).raise a F.BOOT_FUSE_CTRL_BUSY
    { b with fuses := { b.fuses with op := op, slot := slot, stage := stage } }

/-- FUSE_PROGRAM. -/
def Block.fuseProgram (w : Writer) (v : Nat) (b : Block) : Block := if F.BOOT_FUSE_CTRL_OP.of v == 1 then b.fuseCtrl w v else b
/-- FUSE_REVOKE. -/
def Block.fuseRevoke (w : Writer) (v : Nat) (b : Block) : Block := if F.BOOT_FUSE_CTRL_OP.of v == 2 then b.fuseCtrl w v else b
/-- SVN_COMMIT. -/
def Block.svnCommit (w : Writer) (v : Nat) (b : Block) : Block := if F.BOOT_FUSE_CTRL_OP.of v == 3 then b.fuseCtrl w v else b

def orBit (m i : Nat) : Nat := if bitOf m i then m else m + 2 ^ i

/-- The operation has verified. -/
def Fuses.apply (f : Fuses) (svn : Nat) : Fuses :=
  match f.op with
  | 1 => { f with programmed := orBit f.programmed f.slot, hashes := SMap.put f.hashes f.slot f.stage }
  | 2 => { f with revoked := orBit f.revoked f.slot }
  | _ => { f with svn := max f.svn svn }

/-- An operation that fails to verify leaves its fuses at values that the spec does not give (assumption 1). -/
def Block.fuseFail (b : Block) : Block :=
  let f := b.fuses
  let one := b.free 1
  match f.op with
  | 1 =>
    let h := one.2.freeBytes 48
    let p := if one.1 == 1 then orBit f.programmed f.slot else f.programmed
    { h.2 with fuses := { f with programmed := p, hashes := SMap.put f.hashes f.slot h.1 } }
  | 2 => { one.2 with fuses := { f with revoked := if one.1 == 1 then orBit f.revoked f.slot else f.revoked } }
  | _ =>
    let s := b.free 6
    { s.2 with fuses := { f with svn := s.1 } }

/-- FUSE_DONE: BUSY clears; ERR sets where the operation failed to verify. -/
def Block.fuseDone (ok : Bool) (b : Block) : Block :=
  let a := R.BOOT_FUSE_CTRL
  if !b.flag a F.BOOT_FUSE_CTRL_BUSY then b
  else
    let b := b.lower a F.BOOT_FUSE_CTRL_BUSY
    if ok then { b with fuses := b.fuses.apply (b.fld R.BOOT_IMAGE_SVN F.BOOT_IMAGE_SVN_V) }
    else (b.raise a F.BOOT_FUSE_CTRL_ERR).fuseFail

end Sys2Proof.Machine
end

