-- ==== Sys2Proof/Machine/Pair.lean ====
section
/-!
DEFINITION. Machine/Pair.lean: the redundancy pair: the messages of the Shaix link, roles, mirroring and promotion (spec/15, R463 to
R471).
-/
namespace Sys2Proof.Machine
open Sys2Proof

def roleNone : Nat := 0
def rolePrimary : Nat := 1
def roleStandby : Nat := 2

def Block.modPair (b : Block) (f : PairState → PairState) : Block := { b with pair := f b.pair }
def Block.shaixLinked (b : Block) : Bool := b.flag R.PAIR_STATUS F.PAIR_STATUS_LINK_UP
def Block.peerSeen (b : Block) : Bool := b.flag R.PAIR_STATUS F.PAIR_STATUS_PEER_SEEN
/-- Ticks of µs. -/
def micros (n : Nat) : Nat := n * 1000
def Block.hbInterval (b : Block) : Nat := micros (b.fld R.PAIR_TIMING F.PAIR_TIMING_HB_INTERVAL)
/-- Whether n ticks have passed since an earlier instant; true where there was none. -/
def Block.since (b : Block) (t : Option Nat) (n : Nat) : Bool :=
  match t with
  | some t => b.ticks - t ≥ n
  | none => true

/-! ## Mirroring and roles (R466, R470) -/

/-- Commands that wait for the standby complete with the primary's own result (R470); the lag is empty afterwards. -/
def Block.settleDie (b : Block) (d : Nat) : Nat → Block
  | 0 => b
  | fuel + 1 =>
    match (b.engine d).ops.findIdx? fun o => o.done && o.seq.isSome with
    | none => b
    | some n =>
      match (b.engine d).ops[n]? with
      | some o => ((b.dropOp d n).publish d o).settleDie d fuel
      | none => b
def Block.settle (b : Block) : Block :=
  (b.each 4 fun b d => b.settleDie d (b.engine d).ops.length).modPair fun p => { p with lag := [] }

/-- Mirroring ends: a standby starts no more commands. -/
def Block.mirrorOff (b : Block) : Block :=
  (b.lower R.PAIR_STATUS F.PAIR_STATUS_MIRRORING).modPair fun p => { p with mode := 0, expect := none, early := [] }

/-- Both packages are primary (R470, Table 15-11). -/
def Block.bothPrimary (b : Block) : Bool := b.pairRole == rolePrimary && b.peerSeen && b.pair.peerRole == rolePrimary
/-- A change of a role, this package's or the partner's: PAIR_CONFLICT when both have become primary. -/
def Block.roleChange (b : Block) (f : Block → Block) : Block :=
  let b := f b
  let was := b.flag R.PAIR_STATUS F.PAIR_STATUS_CONFLICT
  if !b.bothPrimary then b.lower R.PAIR_STATUS F.PAIR_STATUS_CONFLICT
  else if was then b
  else (b.settle.mirrorOff.raise R.PAIR_STATUS F.PAIR_STATUS_CONFLICT).send 3 0 0x6C 0

def Block.setRole (b : Block) (r : Nat) : Block := b.roleChange fun b => (b.setFld R.PAIR_STATUS F.PAIR_STATUS_ROLE r).mirrorOff

/-- Whether a mirrored command is in a die's engine. -/
def Block.mirrorsLeft (b : Block) : Bool :=
  (List.range 4).any fun d => (b.engine d).ops.any fun o => match o.via with | .mirror _ _ => true | _ => false
/-- Whether every CMD up to the SEQ of a HANDOVER has come. -/
def PairState.reached (p : PairState) : Bool :=
  match p.upTo, p.expect with
  | some s, some e => e > s
  | _, _ => true

/-- PAIR_PROMOTE (R470): once every received CMD is applied the standby becomes primary. -/
def Block.pairPromote (b : Block) : Block :=
  if !b.pair.promoting || b.mirrorsLeft || !b.pair.reached then b
  else
    let b := (b.modPair fun p => { p with promoting := false, upTo := none }).lower R.PAIR_STATUS F.PAIR_STATUS_DRAINING
    let b := (b.setWord R.PAIR_EPOCH (b.word R.PAIR_EPOCH + 1)).raise R.PAIR_STATUS F.PAIR_STATUS_PROMOTED_SEEN
    (b.send 3 0 0x6A 0).setRole rolePrimary

/-- A standby promotes: at once where no received CMD is left to apply. -/
def Block.promoteStart (b : Block) (upTo : Option Nat) : Block :=
  ((b.modPair fun p => { p with promoting := true, upTo := upTo }).raise R.PAIR_STATUS F.PAIR_STATUS_DRAINING).pairPromote

/-- The primary becomes standby with mirroring off. -/
def Block.demoteNow (b : Block) : Block := (b.settle.modPair fun p => { p with handing := false }).setRole roleStandby

/-! ## Messages that arrive -/

/-- A message of a type arrives (R464, R465): taken with a role and with the link up; its partner is seen, and a primary is
no longer solo. -/
def Block.arrival (b : Block) (typ : Nat) (f : Block → Block) : Block :=
  if b.pairRole == roleNone || !b.shaixLinked then b
  else
    let b := (b.raise R.PAIR_STATUS F.PAIR_STATUS_PEER_SEEN).lower R.PAIR_STATUS F.PAIR_STATUS_SOLO
    f ((b.modPair fun p => { p with seenAt := some b.ticks }).pmc .pkg 0x02 typ 1)

/-- HEARTBEAT (R465, R466, R470): the partner's role and, from a primary, the mode of mirroring. -/
def Block.heartbeat (role mode epoch next applied : Nat) (b : Block) : Block :=
  let _ := (epoch, next, applied)
  b.arrival 1 fun b =>
    let b := b.roleChange fun b => b.modPair fun p => { p with peerRole := role }
    if b.pairRole != roleStandby then b
    else if role == rolePrimary && mode != 0 then
      (b.raise R.PAIR_STATUS F.PAIR_STATUS_MIRRORING).modPair fun p => { p with mode := mode }
    else b.mirrorOff

/-- The operation of a CMD message (Table 15-10). -/
def cmdOf (seq : Nat) (commit : Bool) (word index : Nat) (data : List Nat) : TblOp :=
  { via := .mirror seq commit, op := if commit then 2 else word / 2 ^ 28 % 16, table := word / 2 ^ 20 % 256,
    cmask := word / 2 ^ 12 % 256, arg := word % 4096, index := index, data := Vec.ofList data }

/-- The commands that have come and whose turn it is go to their engines (R467). -/
def Block.applyCmds (b : Block) : Nat → Block
  | 0 => b
  | fuel + 1 =>
    let p := b.pair
    match p.early.find? fun x => p.expect.all fun e => x.1 == e with
    | none => b
    | some x =>
      let b := b.modPair fun p => { p with expect := some (x.1 + 1), early := p.early.filter fun y => y.1 != x.1 }
      (b.accept x.2.1 x.2.2).applyCmds fuel

/-- CMD (R467): a standby applies the commands in SEQ order. -/
def Block.cmdMessage (seq d : Nat) (commit : Bool) (word index : Nat) (data : List Nat) (b : Block) : Block :=
  b.arrival 2 fun b =>
    if b.pairRole != roleStandby then b
    else
      let b := b.modPair fun p => { p with early := p.early ++ [(seq, d, cmdOf seq commit word index data)] }
      b.applyCmds b.pair.early.length

/-- The command of SEQ s completes on the primary, where it waits for the CMD_ACK alone (R468). -/
def Block.completeSeq (b : Block) (s : Nat) : Block :=
  b.each 4 fun b d =>
    match (b.engine d).ops.findIdx? fun o => o.done && o.seq == some s with
    | none => b
    | some n => match (b.engine d).ops[n]? with
      | some o => (b.dropOp d n).publish d o
      | none => b

/-- CMD_ACK (R468). -/
def Block.cmdAck (seq status index : Nat) (b : Block) : Block :=
  b.arrival 3 fun b =>
    match b.pair.lag.find? fun c => c.seq == seq with
    | none => b
    | some c =>
      let c := { c with ack := some (status, index) }
      let b := b.setCtr R.PAIR_APPLIED_SEQ seq
      if c.own.isSome then
        ((b.diverge c).modPair fun p => { p with lag := p.lag.filter fun x => x.seq != seq }).completeSeq seq
      else b.modPair fun p => { p with lag := p.lag.map fun x => if x.seq == seq then c else x }

/-- GLEAN (R469): a record of Table 7-15 becomes a remote entry or takes one away. -/
def Block.gleanMessage (raw : List Byte) (b : Block) : Block :=
  b.arrival 4 fun b =>
    let b := b.count R.PAIR_GLEAN_RX 1
    let ev := byteAt raw 3 / 16
    let d := byteAt raw 3 / 4 % 4
    let img := Vec.ofList ((List.range 8).map fun j => leVal (slice raw (16 + 4 * j) (20 + 4 * j)))
    let nh := b.fld R.PAIR_REMOTE_NH_BASE F.PAIR_REMOTE_NH_BASE_V + byteAt raw 2
    if ev == 1 || ev == 2 then
      (b.insert d T.l2 reqGleaner (((img.put 3 ⟨30, 28⟩ 0).put 3 ⟨21, 20⟩ 0).put 3 ⟨19, 2⟩ nh)).blk
    else if ev == 3 && byteAt raw 0 == T.l2 then
      match b.emFind d T.l2 false (imgKey img) with
      | some (s, x) => if x.kind == 0 then b.modEngine d fun e => { e with em := SMap.del e.em s } else b
      | none => b
    else b

/-- The fragment entry of a FRAG message (Table 4-19), RESOLVED and of the same age. -/
def Block.fragOf (b : Block) (w : List Nat) : FragEntry :=
  let x (i : Nat) : Nat := w.getD i 0
  let v6 := bitOf (x 0) 29
  let addr (i : Nat) : List Byte :=
    if v6 then beBytes 4 (x (i + 3)) ++ beBytes 4 (x (i + 2)) ++ beBytes 4 (x (i + 1)) ++ beBytes 4 (x i) else beBytes 4 (x i)
  { v6 := v6, key := addr 3 ++ addr 7 ++ beBytes 1 (x 1 / 2 ^ 24) ++ beBytes (if v6 then 4 else 2) (x 2), pending := false,
    born := b.ticks - micros (x 0 % 65536),
    result := ((List.range 5).map fun i => (i, x (11 + i) % 2 ^ 32)).filter fun e => e.2 != 0 }

/-- FRAG (R469). -/
def Block.fragMessage (C : Nat) (w : List Nat) (b : Block) : Block :=
  b.arrival 5 fun b =>
    let b := b.fragExpire C
    let e := b.fragOf w
    match (fragSlots e.key).find? fun s => (SMap.find (b.cluster C).frags s).isNone with
    | some s => b.setFrag C s e
    | none => b.count R.PAIR_FRAG_DROP 1

/-- TIME (R469, Table 15-16): the body of 33 bytes. -/
def Block.timeMessage (body : List Byte) (b : Block) : Block :=
  b.arrival 6 fun b =>
    b.each 9 fun b j => b.setWord (R.PAIR_PEER_TIME j) (leVal (slice (body.take 33) (4 * j) (4 * j + 4)))

/-- TALLY (R469): the partner's digests; TALLY_EQ compares them as it is read. -/
def Block.tallyMessage (ds : List Nat) (b : Block) : Block :=
  b.arrival 7 fun b => b.each 20 fun b k => b.setCtr (R.PAIR_PEER_TALLY k) (ds.getD k 0)

/-- Counter pairs of a region, and of a checkpoint. -/
def pairsPerRegion : Nat := 524288
def pairsPerCkpt : Nat := 8 * pairsPerRegion

/-- CKPT (R469, Table 15-16): a standby writes the pairs into the half of the buffer whose turn it is. -/
def Block.ckptMessage (id G first : Nat) (raw : List Byte) (b : Block) : Block :=
  b.arrival 8 fun b =>
    let base := b.word R.PAIR_CKPT_ADDR_HI * 2 ^ 32 + b.word R.PAIR_CKPT_ADDR_LO
    let p := b.pair
    if b.pairRole != roleStandby || base == 0 then b
    else
      let seen := (if p.ckptId == id then p.ckptSeen else 0) + raw.length / 16
      let whole := seen ≥ pairsPerCkpt
      let at_ := base + p.ckptHalf * 2 ^ 26 + (G * pairsPerRegion + first) * 16
      let b := b.modPair fun p =>
        { p with ckptId := id, ckptSeen := if whole then 0 else seen, ckptHalf := if whole then 1 - p.ckptHalf else p.ckptHalf }
      b.pushJob 0 (.ckpt (if whole then some (p.ckptHalf, id) else none)) [(at_, raw)]

/-- HANDOVER (R470): the standby applies every CMD up to the SEQ and promotes; the sender has become standby with it. -/
def Block.handoverMessage (seq : Nat) (b : Block) : Block :=
  b.arrival 9 fun b =>
    if b.pairRole != roleStandby then b
    else
      let b := b.modPair fun p => { p with peerRole := roleStandby }
      if b.pair.promoting then b else b.promoteStart (some seq)

/-- MSG_ERR (R464): a message with a bad FCS or an undefined TYPE. -/
def Block.msgErr (b : Block) : Block :=
  if b.pairRole == roleNone || !b.shaixLinked then b else b.count R.PAIR_MSG_ERR 1

/-! ## Messages that are sent -/

/-- HEARTBEAT_SEND (R465): every HB_INTERVAL. -/
def Block.heartbeatSend (b : Block) : Block :=
  if b.pairRole == roleNone || !b.since b.pair.beatAt b.hbInterval then b
  else
    let b := b.modPair fun p => { p with beatAt := some b.ticks }
    b.shaix 1 (beBytes 1 b.pairRole ++ beBytes 1 (if b.mirroring then b.pair.mode else 0) ++ beBytes 4 (b.word R.PAIR_EPOCH)
      ++ beBytes 8 (b.ctr R.PAIR_NEXT_SEQ) ++ beBytes 8 (b.ctr R.PAIR_APPLIED_SEQ))

/-- The state of a base in a TIME message (Table 15-10). -/
def Block.timeBody (b : Block) (i : Nat) : List Byte :=
  let t := b.tbase i
  beBytes 1 t.state.code ++ beBytes 5 (unsigned 40 t.rate) ++ beBytes 6 t.s ++ beBytes 4 t.ns

/-- The bytes of n counter pairs from pair `first` on (Table 17-4). -/
def Region.pairBytes (g : Region) (first n : Nat) : List Byte :=
  (List.range n).flatMap fun i =>
    let c := SMap.get {} g.pairs (first + i)
    leBytes 8 c.packets ++ leBytes 8 c.bytes

/-- A complete checkpoint: 64 pairs a message (R469). -/
def Block.sendCkpt (b : Block) : Block :=
  let id := b.pair.ckptOut
  let b := b.modPair fun p => { p with ckptOut := (p.ckptOut + 1) % 2 ^ 32 }
  b.each (pairsPerCkpt / 64) fun b k =>
    let G := k / (pairsPerRegion / 64)
    let first := k % (pairsPerRegion / 64) * 64
    b.shaix 8 (beBytes 4 id ++ beBytes 1 G ++ beBytes 4 first ++ beBytes 2 64 ++ (b.region G).pairBytes first 64)

/-- PAIR_PERIODIC_SEND (R469): every 10 ms while mirroring, the primary sends TIME, TALLY and a complete CKPT. -/
def Block.periodicSend (b : Block) : Block :=
  if b.pairRole != rolePrimary || !b.mirroring || !b.since b.pair.sentAt (10 * oneMs) then b
  else
    let b := b.modPair fun p => { p with sentAt := some b.ticks }
    let b := b.shaix 6 (b.timeBody 0 ++ b.timeBody 1 ++ beBytes 1 b.active)
    (b.shaix 7 ((List.range 20).flatMap fun k => beBytes 8 (b.tally k))).sendCkpt

/-- PAIR_HANDOVER_SEND (R470): every CMD is acknowledged. -/
def Block.handoverSend (b : Block) : Block :=
  if b.pairRole != rolePrimary || !b.pair.handing || !b.pair.waiting.isEmpty then b
  else (b.shaix 9 (beBytes 8 (b.ctr R.PAIR_NEXT_SEQ + 2 ^ 64 - 1))).demoteNow

/-- PEER_TIMEOUT (R470): no message for HB_TIMEOUT. -/
def Block.peerTimeout (b : Block) : Block :=
  if b.pairRole == roleNone || !b.peerSeen
      || !b.since b.pair.seenAt (b.fld R.PAIR_TIMING F.PAIR_TIMING_HB_TIMEOUT * oneMs) then b
  else
    let b := b.roleChange fun b => b.lower R.PAIR_STATUS F.PAIR_STATUS_PEER_SEEN
    if b.pairRole == rolePrimary then
      ((b.settle.mirrorOff.modPair fun p => { p with handing := false }).raise R.PAIR_STATUS F.PAIR_STATUS_SOLO).send 3 0 0x6B 0
    else if b.pair.promoting then (b.modPair fun p => { p with upTo := none }).pairPromote
    else b.promoteStart none

/-! ## Writes of PAIR.CTRL, PAIR.CFG and PAIR.TIMING -/

/-- PAIR_START (R466): mirroring starts in the mode of CFG.MIRROR, or ends with MIRROR at 0. -/
def Block.pairStart (v : Nat) (b : Block) : Block :=
  let mode := b.fld R.PAIR_CFG F.PAIR_CFG_MIRROR
  if F.PAIR_CTRL_START.of v == 0 || b.pairRole != rolePrimary then b
  else if mode == 0 then b.settle.mirrorOff
  else if b.peerSeen && b.pair.peerRole == roleStandby then
    (b.raise R.PAIR_STATUS F.PAIR_STATUS_MIRRORING).modPair fun p => { p with mode := mode }
  else b

/-- PAIR_HANDOVER (R470): the primary starts no new command. -/
def Block.pairHandover (v : Nat) (b : Block) : Block :=
  if F.PAIR_CTRL_HANDOVER.of v == 0 || b.pairRole != rolePrimary then b
  else b.modPair fun p => { p with handing := true }

/-- PROMOTE (R470): accepted on a standby that no message has reached for 3 × HB_INTERVAL. -/
def Block.promoteWrite (w : Writer) (v : Nat) (b : Block) : Block :=
  if F.PAIR_CTRL_PROMOTE.of v == 0 || b.pairRole != roleStandby then b
  else if !b.since b.pair.seenAt (3 * b.hbInterval) then b.refuse w R.PAIR_CTRL
  else if b.pair.promoting then (b.modPair fun p => { p with upTo := none }).pairPromote
  else b.promoteStart none

/-- DEMOTE (R470). -/
def Block.demoteWrite (v : Nat) (b : Block) : Block :=
  if F.PAIR_CTRL_DEMOTE.of v == 0 || b.pairRole != rolePrimary then b else b.demoteNow

/-- A write of PAIR.CTRL, its bits in the order of the register. -/
def Block.pairCtrl (w : Writer) (v : Nat) (b : Block) : Block := ((b.pairStart v).pairHandover v |>.promoteWrite w v).demoteWrite v

/-- Whether a value of PAIR.CFG keeps its field rules. -/
def pairCfgOk (v : Nat) : Bool :=
  F.PAIR_CFG_ROLE.of v != 3 && F.PAIR_CFG_MIRROR.of v != 3 && F.PAIR_CFG_LAG_LIMIT.of v != 0
/-- Whether a value of PAIR.TIMING does. -/
def pairTimingOk (v : Nat) : Bool :=
  let t := F.PAIR_TIMING_HB_TIMEOUT.of v
  let i := F.PAIR_TIMING_HB_INTERVAL.of v
  t ≥ 2 && i ≥ 100 && t * 1000 ≥ 3 * i

/-! ## The link (R463, R544) -/

def Block.shaixUp (b : Block) : Block := b.raise R.PAIR_STATUS F.PAIR_STATUS_LINK_UP
def Block.shaixDown (b : Block) : Block := b.lower R.PAIR_STATUS F.PAIR_STATUS_LINK_UP
/-- SHAIX_REFCLK_LOST (R544): the link goes down, and the pair rules follow. -/
def Block.shaixClockLost (b : Block) : Block := b.shaixDown

end Sys2Proof.Machine
end

