-- ==== Sys2Proof/Machine/RegWrite.lean ====
section
/-!
DEFINITION. Machine/RegWrite.lean: writing a register: who reaches what, and the one place that sends a write at any address
to what its register does (R11, R12, R15, R379, R418, R520 to R522, R527), with the field rules of every chapter.
-/
namespace Sys2Proof.Machine
open Sys2Proof

/-! ## Who reaches what -/

/-- The boot sequencer applies sections. -/
def Block.loading (b : Block) : Bool :=
  match b.boot.phase with
  | .sections | .polling | .delaying => true
  | _ => false

/-- Whether a write by w reaches the registers of block type k (R379, R418, R428, R527): the boot sequencer reaches every register
but its own, while it applies sections; instance 0's driver the privileged view, before DONE only what R418 opens; an instance its own
layout, while its function is there. No one of the host does while the package is in reset. -/
def Block.reaches (b : Block) (w : Writer) (k : Blk) : Bool :=
  match w with
  | .boot => b.loading && k != .boot
  | .host => !b.inReset && (b.locked || k.early)
  | .inst i => !b.inReset && b.locked && b.fnLive i.val && k == .lay

/-- A command that is a write of a register of block type k: it has its effect where the write reaches the register. -/
def Block.byWrite (b : Block) (w : Writer) (k : Blk) (f : Block → Block) : Block := if b.reaches w k then f b else b
/-- The same for a command of instance i on its own layout. -/
def Block.byInst (b : Block) (i : Nat) (f : Block → Block) : Block := b.byWrite (.inst (Fin.ofNat 256 i)) .lay f

/-! ## Writes with a condition -/

/-- A write that its field rule refuses unless `ok`. -/
def Block.writeIf (b : Block) (w : Writer) (a v : Nat) (ok : Bool) : Block := if ok then b.storeReg w a v else b.refuse w a

/-- The counter unit that a register belongs to, where it is its PMC_CTRL or one of its PMC_SEL (Table 17-1). -/
def RegHit.unit (h : RegHit) : Option PUnit :=
  match h.blk with
  | .obs => some .pkg
  | .hif => some .hif
  | .die => some (.die h.inst)
  | .tbl => some (.tbl h.inst)
  | .hbm => some (.hbm h.inst)
  | .xep => some (.xep h.inst)
  | .rgn => some (.rgn h.inst)
  | .cls => some (.cls h.inst)
  | .prt => some (.prt h.inst)
  | .mac => some (.mac h.inst)
  | _ => none

/-- The write of a PMC_CTRL or PMC_SEL register; none for any other register. -/
def Block.writePmc (b : Block) (w : Writer) (a v : Nat) (h : RegHit) : Option Block :=
  match h.unit with
  | some u =>
    if a == u.base then some (b.pmcCtrl w u v)
    else if u.base + 0x10 ≤ a && a < u.base + 0x30 then some (b.pmcSelWrite w u h.i v)
    else none
  | none => none

/-! ## Package blocks -/

def Block.writePkg (b : Block) (w : Writer) (a v : Nat) : Block :=
  if a == R.PKG_LEVEL_CTRL then b.levelChange w v
  else if a == R.PKG_RESET_CTRL then b.resetCtrl w v b.strapPins
  else b.storeReg w a v

def Block.writeBoot (b : Block) (w : Writer) (a v : Nat) : Block :=
  if a == R.BOOT_FUSE_CTRL then b.fuseCtrl w v
  else if a == R.BOOT_HOST_CTRL then b.hostLoad w v
  else b.storeReg w a v

def Block.writeTim (b : Block) (w : Writer) (a v i : Nat) : Block :=
  if a == R.TIM_BASE_CTRL i then b.baseCtrl i v
  else if a == R.TIM_RATE_HI i then b.rateWrite w i v
  else if a == R.TIM_ACTIVE then b.switchRequest w v
  else if a == R.TIM_CAPTURE then b.timeCapture v
  else b.storeReg w a v

def Block.writeFlt (b : Block) (w : Writer) (a v i j : Nat) : Block :=
  if a == R.FLT_ESC_CFG then b.escCfg w 4 v
  else if a == R.FLT_ESC_ACK then b.escAck w 4 v
  else if a == R.FLT_POP then b.faultPop v
  else if a == R.FLT_INJECT_HI then b.faultInject w v
  else if a == R.FLT_FAULT_N_CTRL then b.faultNCtrl w v
  else if a == R.FLT_FIRST_CLR then b.firstClr 4 v
  else if a ≥ R.FLT_SEV 0 0 then b.sevWrite w i j v
  else b.storeReg w a v

def Block.writeChn (b : Block) (w : Writer) (a v : Nat) : Block :=
  if a == R.CHN_HEAD_CTRL then b.headCtrl w v b.strapPins
  else if a == R.CHN_RX_POP then b.rxPop v
  else b.storeReg w a v

/-- The largest base of 256 next hops. -/
def maxNhBase : Nat := 261888

def Block.writePair (b : Block) (w : Writer) (a v : Nat) : Block :=
  if a == R.PAIR_CFG then b.writeIf w a v (pairCfgOk v)
  else if a == R.PAIR_TIMING then b.writeIf w a v (pairTimingOk v)
  else if a == R.PAIR_CTRL then b.pairCtrl w v
  else if a == R.PAIR_REMOTE_NH_BASE then b.writeIf w a v (F.PAIR_REMOTE_NH_BASE_V.of v ≤ maxNhBase)
  else b.storeReg w a v

def Block.writeObs (b : Block) (w : Writer) (a v : Nat) : Block :=
  if a == R.OBS_SNAP_CTRL then b.snapCtrl w v
  else if a == R.OBS_SNAP_ADDR then b.snapAddr w v
  else if a == R.OBS_TRC_CTRL then b.trcCtrl v
  else if a == R.OBS_TRC_RD_ADDR then b.trcRdAddr w v (.good 0)
  else if a == R.OBS_PMC_GLOBAL then b.pmcGlobal w v
  else b.storeReg w a v

/-! ## HIF and the instances' registers -/

/-- A write of INT0_MASK (R400): a cause that it lets become pending sends its message. -/
def Block.int0Mask (b : Block) (w : Writer) (v : Nat) : Block :=
  let was := b.word R.HIF_INT0_MASK
  (b.storeReg w R.HIF_INT0_MASK v).each 10 fun b n => if !bitOf was n && b.causePending n then b.sendCause n else b

/-- RXR_CFG and TXR_CFG (R385). -/
def Block.ringCfg (b : Block) (w : Writer) (tx : Bool) (r v : Nat) : Block :=
  if F.HIF_TXR_CFG_ENABLE.of v == 1 then b.ringEnable w tx r v else b.ringDisable w tx r v

def Block.writeHif (b : Block) (w : Writer) (a v i : Nat) : Block :=
  if a == R.HIF_VF_VECTORS then b.writeIf w a v (1 ≤ F.HIF_VF_VECTORS_V.of v && F.HIF_VF_VECTORS_V.of v ≤ 64)
  else if a == R.HIF_INT0_MASK then b.int0Mask w v
  else if a == R.HIF_INT0_ACK then b.int0Ack v
  else if a == R.HIF_POOL_WAIT then b.writeIf w a v (1 ≤ F.HIF_POOL_WAIT_V.of v && F.HIF_POOL_WAIT_V.of v ≤ 1000)
  else if a == R.HIF_TX_INJECT_LIMIT then b.writeIf w a v (1 ≤ F.HIF_TX_INJECT_LIMIT_V.of v)
  else if R.HIF_RX_MAP 0 0 ≤ a && a < R.HIF_RX_MAP 4 0 then b.writeIf w a v (F.HIF_RX_MAP_SPREAD.of v ≤ 5)
  else if a == R.HIF_GLN_HEAD i then b.raising 7 fun b => b.storeReg w a v
  else if a == R.HIF_RXR_CFG i then b.ringCfg w false i v
  else if a == R.HIF_TXR_CFG i then b.ringCfg w true i v
  else b.storeReg w a v

def Block.writeIns (b : Block) (w : Writer) (a v i x : Nat) : Block :=
  if a == R.INS_INS_CTRL i then b.insCtrl w i v
  else if a == R.INS_INS_RESET_CFG i then b.writeIf w a v (F.INS_INS_RESET_CFG_DRAIN_LIMIT.of v != 0)
  else if a == R.INS_RX_RANGE i then b.writeIf w a v (b.rangeOk false i v)
  else if a == R.INS_TX_RANGE i then b.writeIf w a v (b.rangeOk true i v)
  else if a == R.INS_TMPL_MASK_LO i || a == R.INS_TMPL_MASK_HI i || a == R.INS_DIE_MASK i then b.writeIf w a v (b.winOpen i)
  else if a == R.INS_ENG_MAX i then b.writeIf w a v (1 ≤ F.INS_ENG_MAX_V.of v && F.INS_ENG_MAX_V.of v ≤ 16)
  else if a == R.INS_WIN_CFG i x then b.winWrite w i x 0 v
  else if a == R.INS_WIN_BASE i x then b.winWrite w i x 1 v
  else if a == R.INS_WIN_SIZE i x then b.winWrite w i x 2 v
  else if a == R.INS_POOL_CFG i x then b.poolCfgWrite w i x v
  else if a == R.INS_MBOX_CTRL i then b.mboxCtrl w i v
  else if a == R.INS_DIRTY_CFG i then b.dirtyCfg w i v
  else if R.INS_DIRTY_MAP0_LO i ≤ a && a ≤ R.INS_DIRTY_PAGES i then
    b.writeIf w a v (!b.flag (R.INS_DIRTY_CFG i) F.INS_DIRTY_CFG_EN)
  else b.storeReg w a v

/-- A write of instance i's layout (Table 13-2): item k of the register. -/
def Block.writeLay (b : Block) (a v i k : Nat) : Block :=
  if a == R.LAY_RXDB i k then b.rxDoorbell i k v
  else if a == R.LAY_TXDB i k then b.txDoorbell i k v
  else if a == R.LAY_RXINT i k then b.ringIntArm false i k v
  else if a == R.LAY_TXINT i k then b.ringIntArm true i k v
  else if a == R.LAY_POOL_TAIL i k then b.poolTail i k v
  else if a == R.LAY_INS_CMD i then b.insCmd i v
  else if a == R.LAY_MBOX_CTRL i then b.layMboxCtrl i v
  else b.layWrite i fun b =>
    let held := a == R.LAY_INS_CMD_INDEX i || a == R.LAY_INS_CMD_DATA i k
    if held && b.flag (R.LAY_INS_CMD_STATUS i) F.LAY_INS_CMD_STATUS_BUSY then b.notMine i a
    else b.storeReg (.inst (Fin.ofNat 256 i)) a v

/-! ## Ports -/

/-- R87: during link training a write of TXEQ is discarded without a fault. -/
def Block.writeLane (b : Block) (w : Writer) (a v n : Nat) : Block :=
  if a == R.LANE_TXEQ n then
    if b.flag (R.LANE_STATUS n) F.LANE_STATUS_LT_ACTIVE then b else b.writeIf w a v (txeqOk v)
  else b.storeReg w a v

def Block.writeMac (b : Block) (w : Writer) (a v p : Nat) : Block :=
  if a == R.MAC_PORT_CFG p then b.portCfgWrite w p v
  else if a == R.MAC_PORT_STATE p then b.portStateWrite w p v
  else if a == R.MAC_PAUSE_CFG p then b.writeIf w a v (pauseCfgOk v)
  else if a == R.MAC_PAUSE_TX_CFG p then b.writeIf w a v (pauseTxCfgOk v)
  else if a == R.MAC_PREEMPT_CFG p then
    if preemptCfgOk v then (b.storeReg w a v).preemptCheck p else b.refuse w a
  else if a == R.MAC_STG_CFG p then b.writeIf w a v (stgCfgOk v)
  else if a == R.MAC_BW_CFG p then b.bwCfgWrite w p v
  else b.storeReg w a v

/-- A write of CT_CFG (R110): AT_MAX follows THRESH. -/
def Block.ctCfgWrite (b : Block) (w : Writer) (p v : Nat) : Block :=
  if ctCfgOk v then
    (b.storeReg w (R.PRT_CT_CFG p) v).setFld (R.PRT_CT_STATUS p) F.PRT_CT_STATUS_AT_MAX (b2n (F.PRT_CT_CFG_THRESH.of v == 32))
  else b.refuse w (R.PRT_CT_CFG p)

def Block.writePrt (b : Block) (w : Writer) (a v p i : Nat) : Block :=
  if a == R.PRT_PAUSE_WDOG p then b.pauseWdogWrite w p v
  else if a == R.PRT_CT_CFG p then b.ctCfgWrite w p v
  else if a == R.PRT_HOSTLIM p i then b.hostlimWrite w p i v
  else if a == R.PRT_GATE_CFG p then b.gateCfgWrite w p v
  else if R.PRT_GATE_ADMIN_CYCLE p ≤ a && a ≤ R.PRT_GATE_ADMIN_BASE_S_HI p then
    b.writeIf w a v (!b.flag (R.PRT_GATE_STATUS p) F.PRT_GATE_STATUS_PENDING)
  else if a == R.PRT_GATE_CTRL p then (b.gateCancel w p v).gateRequest w p v
  else if a == R.PRT_GCL_ADDR p then b.gclAddr w p v
  else if a == R.PRT_GCL_DATA1 p then b.gclWrite w p v
  else if a == R.PRT_GATE_SDU p i then b.writeIf w a v (64 ≤ F.PRT_GATE_SDU_V.of v && F.PRT_GATE_SDU_V.of v ≤ 16360)
  else if a == R.PRT_PTP_CFG p then b.writeIf w a v (F.PRT_PTP_CFG_MODE.of v != 3)
  else b.storeReg w a v

/-! ## Dies -/

def Block.writeDie (b : Block) (w : Writer) (a v d : Nat) : Block :=
  if a == R.DIE_HOLD_CTRL d then b.holdCtrl w d v
  else if a == R.DIE_HOLD_CFG d then b.holdCfg w d v
  else if a == R.DIE_AVS_STATUS d then b.avsBusErrClear w d v
  else if a == R.DIE_SAG_CFG d then b.writeIf w a v (sagCfgOk v)
  else if a == R.DIE_SAG_STATUS d then b.sagClrMin w d v
  else if a == R.DIE_ESC_CFG d then b.escCfg w d v
  else if a == R.DIE_ESC_ACK d then b.escAck w d v
  else if a == R.DIE_FIRST_CLR d then b.firstClr d v
  else b.storeReg w a v

def Block.writeHbm (b : Block) (w : Writer) (a v d : Nat) : Block :=
  if a == R.HBM_CTRL_CFG d then b.writeIf w a v (ctrlCfgOk v)
  else if a == R.HBM_TRAIN_CFG d then
    b.writeIf w a v (8 ≤ F.HBM_TRAIN_CFG_MIN_EYE.of v && F.HBM_TRAIN_CFG_MIN_EYE.of v ≤ 64)
  else b.storeReg w a v

/-- The Winnow registers, which stand still during a pass (R229). -/
def Block.writeWinnow (b : Block) (w : Writer) (a v d : Nat) : Block :=
  let ok :=
    if a == R.TBL_WIN_CFG d then F.TBL_WIN_CFG_RATE.of v != 0
    else if a == R.TBL_WIN_RECHECK d then F.TBL_WIN_RECHECK_V.of v != 0
    else if a == R.TBL_WIN_LOG_SIZE d then F.TBL_WIN_LOG_SIZE_V.of v != 0
    else if a == R.TBL_WIN_SHADOW_LO d || a == R.TBL_WIN_LOG_LO d then v % 64 == 0
    else true
  b.writeIf w a v (!b.winBusy d && ok)

/-- TBL registers other than Winnow's. -/
def Block.writeTbl0 (b : Block) (w : Writer) (a v d i : Nat) : Block :=
  if a == R.TBL_CMD d then b.cmdWrite w d (F.TBL_CMD_OPCODE.of v) v
  else if a == R.TBL_CMD_INDEX d || a == R.TBL_CMD_DATA d i then
    b.writeIf w a v (!b.flag (R.TBL_CMD_STATUS d) F.TBL_CMD_STATUS_BUSY)
  else if a == R.TBL_EM_CFG d then b.writeIf w a v (1 ≤ F.TBL_EM_CFG_MAX_MOVES.of v && F.TBL_EM_CFG_MAX_MOVES.of v ≤ 8)
  else if a == R.TBL_EM_LIMIT d i then b.writeIf w a v (F.TBL_EM_LIMIT_L.of v ≤ 1048576)
  else if a == R.TBL_FENCE d then b.fenceWrite w d v
  else if a == R.TBL_FENCE_CFG d then b.fenceCfg w d v
  else if a == R.TBL_GLN_CFG d then b.writeIf w a v (F.TBL_GLN_CFG_NH_BASE.of v ≤ maxNhBase)
  else if a == R.TBL_GLN_AGE_CFG d then b.writeIf w a v (F.TBL_GLN_AGE_CFG_LIMIT.of v != 0)
  else if a == R.TBL_GLN_QUANTUM d then b.writeIf w a v (F.TBL_GLN_QUANTUM_QUANTUM.of v != 0)
  else if a == R.TBL_EM_TMPL_CTRL d then b.tmplCommit w d v
  else if a == R.TBL_LPM_BSEL d i then b.writeIf w a v (F.TBL_LPM_BSEL_FIRST.of v + F.TBL_LPM_BSEL_COUNT_M1.of v ≤ 63)
  else b.storeReg w a v

def Block.writeTbl (b : Block) (w : Writer) (a v d i : Nat) : Block :=
  if a == R.TBL_WIN_CTRL d then b.winnowStart w d v
  else if R.TBL_WIN_CFG d ≤ a && a ≤ R.TBL_WIN_LOG_SIZE d then b.writeWinnow w a v d
  else b.writeTbl0 w a v d i

/-! ## Regions -/

/-- A write of MISS_CFG: no field of two bits holds 3. -/
def missCfgOk (v : Nat) : Bool :=
  F.RGN_MISS_CFG_TUNNEL.of v != 3 && F.RGN_MISS_CFG_LABEL.of v != 3 && F.RGN_MISS_CFG_L2.of v != 3 && F.RGN_MISS_CFG_L3.of v != 3

/-- A write of TTL_HOSTLIM fills its bucket to the new BURST (R139). -/
def Block.ttlHostlimWrite (b : Block) (w : Writer) (a v G : Nat) : Block :=
  (b.storeReg w a v).modRegion G fun x => { x with ttlLim := ⟨0, b.usNow⟩ }

/-- The registers of queue or group i of region G. -/
def Block.writeQueue (b : Block) (w : Writer) (a v G i : Nat) : Block :=
  if a == R.RGN_QCFG G i then b.qcfgWrite w G i v
  else if a == R.RGN_QSPILL G i then b.writeIf w a v (qspillOk v)
  else if a == R.RGN_QLIM G i then b.writeIf w a v (qlimOk v)
  else if a == R.RGN_QSCHED G i then b.qschedWrite w G i v
  else if a == R.RGN_GSCHED G i then b.gschedWrite w G i v
  else if a == R.RGN_QSHP_CTRL G i then b.shaperCommit w G i v
  else if a == R.RGN_GSHP_CTRL G i then b.shaperCommit w G (8192 + i) v
  else b.storeReg w a v

def Block.writeRgn (b : Block) (w : Writer) (a v G i : Nat) : Block :=
  if a == R.RGN_BUF_CFG G then b.writeIf w a v (b.bufCfgOk G v)
  else if a == R.RGN_LL_CFG G then b.llCfgWrite w G v
  else if a == R.RGN_MISS_CFG G then b.writeIf w a v (missCfgOk v)
  else if a == R.RGN_TTL_HOSTLIM G then b.ttlHostlimWrite w a v G
  else if a == R.RGN_MC_CFG G then b.writeIf w a v (mcCfgOk v)
  else if a == R.RGN_SAMP_CFG G then b.sampClrMax w G v
  else if a == R.RGN_SENT_CLR G then b.sentClr G v
  else b.writeQueue w a v G i

/-! ## Clusters -/

/-- R127: the ports of VXLAN, Geneve and RoCE after the write. -/
def udpPortsOk (vxlan geneve roce : Nat) : Bool :=
  let clash (x y : Nat) : Bool := x != 0 && x == y
  !clash vxlan geneve && !clash vxlan roce && !clash geneve roce
    && [vxlan, geneve, roce].all fun x => x != 319 && x != 320

def Block.udpPortsWrite (b : Block) (w : Writer) (a v C : Nat) : Block :=
  let p0 := if a == R.CLS_UDP_PORTS0 C then v else b.word (R.CLS_UDP_PORTS0 C)
  let p1 := if a == R.CLS_UDP_PORTS1 C then v else b.word (R.CLS_UDP_PORTS1 C)
  b.writeIf w a v (udpPortsOk (F.CLS_UDP_PORTS0_VXLAN_PORT.of p0) (F.CLS_UDP_PORTS0_GENEVE_PORT.of p0)
    (F.CLS_UDP_PORTS1_ROCE_PORT.of p1))

/-- A write of HANDOFF[r] (R165, R174): ROUTINE_EN stays 0 while the store is rejected or not loaded; [0] and [15] are fixed.
The boot sequencer may write it before the load rule. -/
def Block.handoffWrite (b : Block) (w : Writer) (a v C r : Nat) : Block :=
  if r == 0 || r == 15 then b
  else
    let st := R.CLS_CS_STATUS C
    let barred := b.flag st F.CLS_CS_STATUS_REJECTED || !b.flag st F.CLS_CS_STATUS_LOADED
    b.writeIf w a v (w == .boot || !barred || F.CLS_HANDOFF_ROUTINE_EN.of v == 0)

/-- MAL_ACTION: no class holds 3. -/
def malActionOk (v : Nat) : Bool := (List.range 10).all fun k => v / 4 ^ k % 4 != 3

/-- A write of MAL_HOSTLIM fills its bucket to the new BURST (R139). -/
def Block.malHostlimWrite (b : Block) (w : Writer) (a v C : Nat) : Block :=
  (b.storeReg w a v).modCluster C fun x => { x with malLim := ⟨0, b.usNow⟩ }

/-- ACL_KEY: WORD lies in the range of its SRC. -/
def aclKeyOk (v : Nat) : Bool :=
  let n := F.CLS_ACL_KEY_WORD.of v
  match F.CLS_ACL_KEY_SRC.of v with
  | 0 => n == 0
  | 1 => true
  | 2 => n ≤ 3
  | _ => n ≤ 2

/-- ACL_GROUP[n]: no bank stands in two groups. -/
def Block.aclGroupOk (b : Block) (C n v : Nat) : Bool :=
  (List.range 4).all fun k =>
    k == n || F.CLS_ACL_GROUP_BANKS.of v &&& b.fld (R.CLS_ACL_GROUP C k) F.CLS_ACL_GROUP_BANKS == 0

def Block.writeCls (b : Block) (w : Writer) (a v C i j : Nat) : Block :=
  if a == R.CLS_UDP_PORTS0 C || a == R.CLS_UDP_PORTS1 C then b.udpPortsWrite w a v C
  else if a == R.CLS_HANDOFF C i then b.handoffWrite w a v C i
  else if a == R.CLS_FRAG_CFG C then b.fragFlush w C v
  else if a == R.CLS_MAL_ACTION C then b.writeIf w a v (malActionOk v)
  else if a == R.CLS_MAL_HOSTLIM C then b.malHostlimWrite w a v C
  else if a == R.CLS_ME_CFG C then b.writeIf w a v (16 ≤ F.CLS_ME_CFG_STEP_LIMIT.of v)
  else if a == R.CLS_ME_CTRL C then b.abort C v
  else if a == R.CLS_CS_CTRL C then b.redigest C v
  else if a == R.CLS_CS_RD_ADDR C then b.csRdAddr w C v
  else if a == R.CLS_ACL_GROUP C i then b.writeIf w a v (b.aclGroupOk C i v)
  else if a == R.CLS_ACL_KEY C i j then b.writeIf w a v (aclKeyOk v)
  else b.storeReg w a v

/-! ## Any register -/

/-- The write of v to the 32-bit register found at address a. -/
def Block.writeHit (b : Block) (w : Writer) (a v : Nat) (h : RegHit) : Block :=
  match b.writePmc w a v h with
  | some b => b
  | none =>
    match h.blk with
    | .pkg => b.writePkg w a v
    | .boot => b.writeBoot w a v
    | .tim => b.writeTim w a v h.i
    | .flt => b.writeFlt w a v h.i h.j
    | .chn => b.writeChn w a v
    | .pair => b.writePair w a v
    | .obs => b.writeObs w a v
    | .hif => b.writeHif w a v h.i
    | .ins => b.writeIns w a v h.inst h.i
    | .xbar => b.writeIf w a v (a != R.XBAR_CASC_CFG || F.XBAR_CASC_CFG_LPM_MODE.of v != 1)
    | .lane => b.writeLane w a v h.inst
    | .mac => b.writeMac w a v h.inst
    | .die => b.writeDie w a v h.inst
    | .hbm => b.writeHbm w a v h.inst
    | .xep => b.storeReg w a v
    | .tbl => b.writeTbl w a v h.inst h.i
    | .rgn => b.writeRgn w a v h.inst h.i
    | .cls => b.writeCls w a v h.inst h.i h.j
    | .prt => b.writePrt w a v h.inst h.i
    | .lay => b.writeLay a v h.inst h.i

/-- A write of the aligned word at address a: discarded where a holds no register (R12) or one that the requester does not own
(R379), in silence before DONE outside the blocks of R418, and at a read-only 64-bit register (R521). -/
def Block.writeReg (w : Writer) (a v : Nat) (b : Block) : Block :=
  match findReg a with
  | none =>
    if b.isMsix a then (if b.reaches w .lay then b.msixWrite a v else b)
    else if w != .boot && b.quiet a then b
    else b.refuse w a
  | some h =>
    if !b.reaches w h.blk then b
    else if h.blk == .lay && !b.layHas h.inst h then b.refuse w a
    else if h.desc.wide then b
    else b.writeHit w a v h

/-- Whether the function that a writer writes through is there (R375); one that is not takes no write. -/
def Block.writerLive (b : Block) (w : Writer) : Bool := match w with | .inst i => b.fnLive i.val | _ => true

/-- The address that a writer's offset means: an instance's offsets lie in its layout. -/
def writerAddr (w : Writer) (a : Nat) : Nat := match w with | .inst i => layBase i + a % 2 ^ 20 | _ => a

/-- REGISTER_WRITE (R11, R15): a write of `size` at offset a of the writer's view, of v. Other than an aligned 32-bit access (or
an aligned 64-bit one of the MSI-X table, R520) it is discarded and reported. -/
def Block.registerWrite (w : Writer) (a v : Nat) (size : AccessSize) (b : Block) : Block :=
  let x := writerAddr w a
  let bad := if w != .boot && b.quiet x then b else b.accessFault (writerCode w) 2 true (viewOff x)
  if b.inReset || !b.writerLive w then b
  else match size with
    | .config r => match w with
      | .host => b.configWrite 0 r (v % 2 ^ 32)
      | .inst i => b.configWrite i.val r (v % 2 ^ 32)
      | .boot => b
    | .dword => if x % 4 == 0 then b.writeReg w x (v % 2 ^ 32) else bad
    | .qword =>
      if b.isMsix x && x % 8 == 0 then (b.writeReg w x (v % 2 ^ 32)).writeReg w (x + 4) (v / 2 ^ 32 % 2 ^ 32) else bad
    | .other => bad

end Sys2Proof.Machine
end

