-- ==== Sys2Proof/Machine/BootLoad.lean ====
section
/-!
DEFINITION. Machine/BootLoad.lean: the sections of a boot image: their checks, their outcomes, and what each type of section
applies (R421 to R433, R164, R165, R170 to R172, R513).
-/
namespace Sys2Proof.Machine
open Sys2Proof

/-! ## The end of the load (R430, R437) -/

/-- ROUTINE_EN goes to 0 in all hand-offs of cluster C. -/
def Block.noRoutines (b : Block) (C : Nat) : Block := b.each 16 fun b r => b.lower (R.CLS_HANDOFF C r) F.CLS_HANDOFF_ROUTINE_EN

/-- The load rule on cluster C (R164, R165), the clusters not loaded (R172), and the two digests (R169). -/
def Block.closeStore (b : Block) (C : Nat) : Block :=
  let st := R.CLS_CS_STATUS C
  let b := match loadRule (b.cluster C).store with
    | some a => (((b.raise st F.CLS_CS_STATUS_REJECTED).setFld st F.CLS_CS_STATUS_REJECT_ADDR a).noRoutines C).sendOncePerMs 0xB C 0x2A 0
    | none => b
  let b := if b.flag st F.CLS_CS_STATUS_LOADED then b else b.noRoutines C
  (b.setCtr (R.CLS_CS_DIGEST_LOAD C) (b.storeDigest C)).setCtr (R.CLS_CS_DIGEST_NOW C) (b.storeDigest C)

/-- The section in progress is over: the next one, or, after the last, the load rule and HBM training. -/
def Block.nextSection (b : Block) : Block :=
  let k := b.boot.section_ + 1
  let b : Block := { b with boot := { b.boot with phase := .sections, section_ := k, records := [] } }
  if k < hdrCount b.boot.header then b
  else
    let b := (b.bootStep 7).each 32 Block.closeStore
    b.trainStart .training

/-- One more section applied, or skipped (SECT_COUNT). -/
def Block.sectionApplied (b : Block) : Block :=
  (b.setFld R.BOOT_SECT_COUNT F.BOOT_SECT_COUNT_APPLIED (sat 65535 (b.fld R.BOOT_SECT_COUNT F.BOOT_SECT_COUNT_APPLIED + 1))).nextSection
def Block.sectionSkipped (b : Block) : Block :=
  (b.setFld R.BOOT_SECT_COUNT F.BOOT_SECT_COUNT_SKIPPED (sat 65535 (b.fld R.BOOT_SECT_COUNT F.BOOT_SECT_COUNT_SKIPPED + 1))).nextSection

/-- The section in progress fails for `code` (R432): BAD_LAYOUT and NVM, and any failure of a required section, reject the
source; else the section is skipped, with its fault. -/
def Block.sectionFailed (b : Block) (code : Nat) : Block :=
  let k := b.boot.section_
  if b.boot.required || code == failLayout || code == failNvm then b.reject code k
  else ((b.failInfo code k).send 0 1 0x62 0).sectionSkipped

/-! ## REGWRITE (R428) -/

/-- Addresses that a record must not name: the BOOT block, and TBL offsets 0x0000 to 0x007F. -/
def recordBarred (a : Nat) : Bool :=
  (0x10000 ≤ a && a < 0x20000) || (List.range 4).any fun d => tblBase d ≤ a && a < tblBase d + 0x80

/-- Applies records in order, up to a poll or a delay, which the sequencer waits for. -/
def Block.applyRecords (b : Block) : List (Nat × Nat) → Block
  | [] => b.sectionApplied
  | (x, v) :: rest =>
    let a := x - x % 4
    if x % 4 == 3 || recordBarred a || (x % 4 == 2 && v > 1000000) then b.sectionFailed failApply
    else match x % 4 with
      | 0 =>
        let c := b.writeReg .boot a v
        -- a record that resets the package abandons the boot (R415)
        if !c.loading then c else if c.refusals > b.refusals then c.sectionFailed failApply else c.applyRecords rest
      | 1 =>
        { b with boot := { b.boot with phase := .polling, records := rest, poll := a, mask := v, till := b.ticks + 100 * oneMs } }
      | _ => { b with boot := { b.boot with phase := .delaying, records := rest, till := b.ticks + v * 1000 } }

/-- REGWRITE_POLL: the sequencer reads the polled register; its bits are clear, or 100 ms have passed, or it reads again. -/
def Block.regPoll (b : Block) : Block :=
  if b.boot.phase != .polling then b
  else
    let r := b.readReg reqBoot false true b.boot.poll
    let b := r.2
    if r.1 &&& b.boot.mask == 0 then b.applyRecords b.boot.records
    else if b.ticks ≥ b.boot.till then b.sectionFailed failApply
    else b

/-- REGWRITE_DELAY. -/
def Block.regDelay (b : Block) : Block :=
  if b.boot.phase == .delaying && b.ticks ≥ b.boot.till then b.applyRecords b.boot.records else b

/-- The records of a REGWRITE payload. -/
def regRecords : Nat → List Byte → List (Nat × Nat)
  | 0, _ => []
  | n + 1, l => (leVal (l.take 4), leVal (slice l 4 8)) :: regRecords n (l.drop 8)

def Block.applyRegwrite (b : Block) (p : List Byte) : Block :=
  if p.length % 8 != 0 then b.sectionFailed failApply else b.applyRecords (regRecords (p.length / 8) p)

/-! ## TABLE (R429) -/

/-- The command of one record on die d, as instance 0 would issue it: its status, and the block. -/
def Block.tableCmd (b : Block) (o : TblOp) (d : Nat) : Nat × Block :=
  let r := b.runTable d o
  let o := { o with done := true, status := r.status, res := r.res, moves := r.moves, out := r.out.getD [] }
  (r.status, (r.blk.pmc (.tbl d) 0x01 o.op 1).traceCmd d o)

/-- One record on every die of the mask: whether every status is OK or KEPT. -/
def Block.tableRecord (b : Block) (o : TblOp) (mask : Nat) : Bool × Block :=
  (List.range 4).foldl (fun x d =>
    if bitOf mask d then
      let r := x.2.tableCmd o d
      (x.1 && (r.1 == S.ok || r.1 == S.kept), r.2)
    else x) (true, b)

/-- The entry records, in order; the first that fails ends the section. -/
def Block.tableRecords (b : Block) (o : TblOp) (mask : Nat) : Nat → List Byte → Block
  | 0, _ => b.sectionApplied
  | n + 1, l =>
    let index := leVal (l.take 4)
    if leVal (slice l 4 8) != 0 || (o.op == 2 && index != 0) || index ≥ 2 ^ 20 then b.sectionFailed failApply
    else
      let words := (List.range 16).map fun j => leVal (slice l (8 + 4 * j) (12 + 4 * j))
      let r := b.tableRecord { o with index := index, data := Vec.ofList words } mask
      if r.1 then r.2.tableRecords o mask n (l.drop 72) else r.2.sectionFailed failApply

def Block.applyTable (b : Block) (p : List Byte) : Block :=
  let table := imgNum p 0 1
  let op := imgNum p 1 1
  let mask := imgNum p 2 1
  let cmask := imgNum p 3 1
  let count := imgNum p 4 4
  if p.length != 16 + 72 * count || table == T.frag || table > 15 || !(op == 1 || op == 2) || mask == 0 || mask > 15
      || (table != T.aclIn && cmask != 0) || imgNum p 8 8 != 0 then b.sectionFailed failApply
  else b.tableRecords { op := op, table := table, cmask := cmask } mask count (p.drop 16)

/-! ## Microcode (R170 to R172) -/

/-- A microcode record: its word entries and its hand-off entries. -/
def ucWords (p : List Byte) : List (Nat × Nat) :=
  (List.range (imgNum p 20 2)).map fun n => (imgNum p (32 + 32 * n) 2, imgNum p (40 + 32 * n) 24)
def ucHandoffs (p : List Byte) : List (Nat × Nat) :=
  let base := 32 + 32 * imgNum p 20 2
  (List.range (imgNum p 22 2)).map fun n => (imgNum p (base + 8 * n) 1, imgNum p (base + 8 * n + 4) 4)

/-- Reserved bytes of the header and of the entries are 0. -/
def ucReservedOk (p : List Byte) : Bool :=
  let base := 32 + 32 * imgNum p 20 2
  imgNum p 28 4 == 0 && (List.range (imgNum p 20 2)).all (fun n => imgNum p (34 + 32 * n) 6 == 0)
    && (List.range (imgNum p 22 2)).all fun n => imgNum p (base + 8 * n + 1) 3 == 0

def distinct (l : List Nat) : Bool := decide l.Nodup

/-- Whether a record of KIND `kind` is one that the sequencer applies (R171). -/
def Block.ucodeOk (b : Block) (kind : Nat) (p : List Byte) : Bool :=
  let n := imgNum p 20 2
  let h := imgNum p 22 2
  let needs := imgNum p 12 4
  imgNum p 0 4 == 0x55434D4E && imgNum p 4 2 == 1 && imgNum p 6 2 == kind && (imgNum p 8 4 == 0) == (kind == 1)
    && n ≤ 4096 && h ≤ 64 && p.length == 32 + 32 * n + 8 * h && ucReservedOk p
    && (ucWords p).all (fun e => e.1 < 4096) && distinct ((ucWords p).map (·.1))
    && (ucHandoffs p).all (fun e => 1 ≤ e.1 && e.1 ≤ 14) && distinct ((ucHandoffs p).map (·.1))
    && imgNum p 16 2 ≤ b.revision && b.revision ≤ imgNum p 18 2 && (needs == 0 || b.boot.patches.contains needs)

/-- A record's words and hand-offs go into cluster C. -/
def Block.ucodeInto (b : Block) (p : List Byte) (C : Nat) : Block :=
  let b := b.modCluster C fun x => { x with store := (ucWords p).foldl (fun m e => SMap.set 0 m e.1 e.2) x.store }
  (ucHandoffs p).foldl (fun b e => b.storeReg .boot (R.CLS_HANDOFF C e.1) e.2) b

def Block.loaded (b : Block) (C : Nat) : Bool := b.flag (R.CLS_CS_STATUS C) F.CLS_CS_STATUS_LOADED

def Block.applyBase (b : Block) (p : List Byte) : Block :=
  if !b.ucodeOk 1 p then b.sectionFailed failApply
  else
    let mask := imgNum p 24 4
    (b.each 32 fun b C =>
      if bitOf mask C then (b.ucodeInto p C).raise (R.CLS_CS_STATUS C) F.CLS_CS_STATUS_LOADED else b).sectionApplied

/-- UCODE_PATCH: a patch record was not applied (R172). -/
def Block.patchSkipped (b : Block) : Block := b.sendOncePerMs 0 1 0x2B 0

def Block.applyPatch (b : Block) (p : List Byte) : Block :=
  let mask := imgNum p 24 4
  let hit := (List.range 32).filter fun C => bitOf mask C && b.loaded C
  if !b.ucodeOk 2 p || hit.isEmpty then b.patchSkipped.sectionFailed failApply
  else
    let b := hit.foldl (fun b C =>
      let st := R.CLS_CS_STATUS C
      (b.ucodeInto p C).setFld st F.CLS_CS_STATUS_PATCHES (sat 255 (b.fld st F.CLS_CS_STATUS_PATCHES + 1))) b
    ({ b with boot := { b.boot with patches := imgNum p 8 4 :: b.boot.patches } }).sectionApplied

/-! ## TRACE_FILTER (R513) -/

def traceFilterOk (p : List Byte) : Bool :=
  p.length == 32 && imgNum p 0 1 &&& 0x81 == 0 && imgNum p 1 1 ≤ 3 && imgNum p 9 1 == 0 && imgNum p 10 2 != 0
    && (p.drop 12).all fun x => x == 0

def Block.applyFilter (b : Block) (p : List Byte) : Block :=
  if traceFilterOk p then (b.each 8 fun b k => b.setWord (R.OBS_TRC_FILTER k) (imgNum p (4 * k) 4)).sectionApplied
  else b.sectionFailed failApply

/-! ## The checks of a section (R423 to R426, R431) -/

def sectType (s : List Byte) : Nat := imgNum s 4 2
def sectEncrypted (s : List Byte) : Bool := bitOf (imgNum s 6 1) 0
def sectRequired (s : List Byte) : Bool := bitOf (imgNum s 6 1) 1
def sectVendor (s : List Byte) : Bool := bitOf (imgNum s 6 1) 2
/-- The payload as stored, with its padding. -/
def sectStored (s : List Byte) : Nat := imgNum s 16 8
def sectPadded (s : List Byte) : Nat := (sectStored s + 7) / 8 * 8

/-- FLAGS, lengths and reserved fields of a section of a known type (R423, R424, R426); `base`: a UCODE_BASE has been seen. -/
def sectLayoutOk (s : List Byte) (length : Nat) (base : Bool) : Bool :=
  let t := sectType s
  let enc := sectEncrypted s
  let plain := imgNum s 24 8
  let ucode := t == 3 || t == 4
  imgNum s 6 1 < 8 && enc == ucode && (!ucode || sectVendor s) && imgNum s 7 1 == 0 && imgNum s 12 4 == 0
    && (imgBytes s 44 20).all (fun x => x == 0) && plain ≤ 201326592
    && sectStored s == plain + (if enc then 16 else 0) && length == 64 + sectPadded s + sigLen
    && (imgNum s 32 12 == 0) == !enc && !(t == 3 && base)
    && (imgBytes s (64 + sectStored s) (sectPadded s - sectStored s)).all fun x => x == 0

/-- The first check of R431 that fails, in order: the section's header, its revision range (none: it is skipped), its digest, its
key and signatures. -/
inductive SectCheck where
  | pass | skip | fail (code : Nat)
deriving DecidableEq, Repr

def Block.sectCheck (b : Block) (s : List Byte) : SectCheck :=
  let h := b.boot.header
  let k := b.boot.section_
  let n := 64 + sectPadded s
  let sig := imgBytes s n sigLen
  let dg := sha384 (imgBytes s 0 n)
  let keys := if sectVendor s then vendorKeys h else ownerKeys h
  if imgNum s 0 4 != 0x53454333 then .fail failMagic
  else if sectType s == 0 || sectType s > 6 then (if sectRequired s then .fail failUnknown else .skip)
  else if !sectLayoutOk s (dirLength h k) b.boot.base then .fail failLayout
  else if imgNum s 8 2 > b.revision || b.revision > imgNum s 10 2 then .skip
  else if dg != dirDigest h k then .fail failDigest
  else if !sigMagicOk sig then .fail failMagic
  else if !sigLayoutOk sig (b2n (sectVendor s)) then .fail failLayout
  else if sectVendor s && sha384 keys != b.fuses.vendorHash then .fail failKey
  else if !signaturesOk keys dg (sigPair sig) then .fail failSignature
  else .pass

/-- The payload after decryption under the family key; none: its tag does not verify (R426). -/
def Block.sectPlain (b : Block) (s : List Byte) : Option (List Byte) :=
  let p := imgBytes s 64 (sectStored s)
  let n := sectStored s - 16
  if sectEncrypted s then aesGcmOpen b.fuses.familyKey (imgBytes s 32 12) (imgBytes s 0 64) (p.take n) (p.drop n) else some p

/-- What a section that has passed every check does, by type (Table 14-7). -/
def Block.applySection (b : Block) (t : Nat) (p : List Byte) : Block :=
  match t with
  | 1 => b.applyRegwrite p
  | 2 => b.applyTable p
  | 3 => b.applyBase p
  | 4 => b.applyPatch p
  | 5 => b.applyFilter p
  | _ => b.nextSection

/-- SECTION_APPLY: the section in progress, as read from the source; `timeout`: a read ran out of time. -/
def Block.sectionApply (raw : List Byte) (timeout : Bool) (b : Block) : Block :=
  if b.boot.phase != .sections then b
  else if timeout then b.sectionFailed failNvm
  else
    let b := b.sectionRead (b.boot.section_ + 1)
    let c := b.sectCheck raw
    let t := sectType raw
    let b : Block := { b with boot := { b.boot with required := sectRequired raw, base := b.boot.base || t == 3 } }
    -- a patch section that fails leaves its record not applied
    let failed (code : Nat) : Block := (if t == 4 then b.patchSkipped else b).sectionFailed code
    match c with
    | .skip => b.sectionSkipped
    | .fail code => failed code
    | .pass =>
      match b.sectPlain raw with
      | none => failed failDecrypt
      | some p => b.applySection t p

end Sys2Proof.Machine
end

