-- ==== Sys2Proof/Machine/Power.lean ====
section
/-!
DEFINITION. Machine/Power.lean: the loss of a reference clock and the thermal trip (R544, R548).
-/
namespace Sys2Proof.Machine
open Sys2Proof

/-- THERMTRIP (R548): the pin goes low; the device takes no other action. -/
def Block.thermtrip (b : Block) : Block := b.emit (.pin "THERMTRIP_N" true)

/-- SYS_REFCLK_LOST (Table 19-9): a power-on reset, held until the clock has run for 1 ms. -/
def Block.sysClockLost (b : Block) : Block := b.powerOnReset

/-- Port p loses its SerDes clock: it goes down with a local fault, and its bring-up stops; `cut`: a frame was in reception. -/
def Block.portClockLost (b : Block) (p : Nat) (cut : Bool) : Block :=
  ((b.linkLoss p true cut).downStatus p .pcsFault).modPort p fun x => { x with bring := .down }

/-- SERDES_REFCLK_LOST (Table 19-9): every port of L-die l; bit n of `cuts`: a frame was in reception at its port n. -/
def Block.serdesLost (l cuts : Nat) (b : Block) : Block := b.each 32 fun b n => b.portClockLost (32 * l + n) (bitOf cuts n)

/-- SERDES_REFCLK_RETURN: bring-up of every enabled port of L-die l restarts. -/
def Block.serdesBack (l : Nat) (b : Block) : Block := b.each 32 fun b n => b.bringUp (32 * l + n)

end Sys2Proof.Machine
end

