-- ==== Sys2Proof/Machine/Enter.lean ====
section
/-!
DEFINITION. Machine/Enter.lean: the conditions under which a command reaches the block at all: who may write, who may read, and
what a package in reset takes (R379, R418, R488, R527).
-/
namespace Sys2Proof.Machine
open Sys2Proof

/-- The block type of collector c's registers: DIE for the four dies, FLT for the package. -/
def colBlk (c : Nat) : Blk := if c < 4 then .die else .flt

/-- The block type of a counter unit's registers (Table 17-1). -/
def unitBlk : CounterUnit → Blk
  | .pkg => .obs
  | .hif => .hif
  | .die _ => .die
  | .tbl _ => .tbl
  | .hbm _ => .hbm
  | .xep _ => .xep
  | .rgn _ => .rgn
  | .cls _ => .cls
  | .prt _ => .prt
  | .mac _ => .mac

/-- A write of a TBL command register: the boot sequencer may not make it (R428). -/
def Block.byCommand (b : Block) (w : Writer) (f : Block → Block) : Block := if w == .boot then b else b.byWrite w .tbl f

/-- An event of a link that trains only out of reset (R418, R463). -/
def Block.outOfReset (b : Block) (f : Block → Block) : Block := if b.inReset then b else f b

/-- A reset of an instance: a Function Level Reset, or a write of INS_CTRL (R407). -/
def Block.byReset (b : Block) (how : ResetBy) (f : Block → Block) : Block :=
  match how with
  | .flr => b.outOfReset f
  | .reg w _ => b.byWrite w .ins f

/-- A read: the OBS port's while it serves, the host's out of reset (R418, R515). -/
def Block.byRead (b : Block) (r : Reader) (f : Block → Block) : Block :=
  match r with
  | .obs => b.obsServes f
  | .host | .inst _ => b.outOfReset f

end Sys2Proof.Machine
end

