-- ==== Sys2Proof/Machine/DoBoot.lean ====
section
/-!
DEFINITION. Machine/DoBoot.lean: the meanings of the commands of start-up (spec/14): for each command
what exec answers. What the command does to the block is said once, in the operation that each of them calls.
-/
namespace Sys2Proof.Machine
open Sys2Proof

/-- HEADER_CHECK (R421). -/
def execHeaderCheck (raw : List Byte) (timeout : Bool) (slow : Bool) (s : State) : Host.Outcome State Fault Refusal :=
  s.doing (Block.headerCheck raw timeout slow)

/-- SECTION_APPLY (R431). -/
def execSectionApply (raw : List Byte) (timeout : Bool) (s : State) : Host.Outcome State Fault Refusal :=
  s.doing (Block.sectionApply raw timeout)

/-- REGWRITE_POLL (R428). -/
def execRegwritePoll (s : State) : Host.Outcome State Fault Refusal :=
  s.doing Block.regPoll

/-- REGWRITE_DELAY (R428). -/
def execRegwriteDelay (s : State) : Host.Outcome State Fault Refusal :=
  s.doing Block.regDelay

/-- HOST_LOAD (R435). -/
def execHostLoad (w : Writer) (v : BitVec 32) (s : State) : Host.Outcome State Fault Refusal :=
  s.doing (fun b => b.byWrite w .boot (Block.hostLoad w v.toNat))

/-- HBM_TRAIN (R437). -/
def execHbmTrain (d : Fin 4) (lanes : List LaneSweep) (s : State) : Host.Outcome State Fault Refusal :=
  s.doing (Block.hbmTrain d.val lanes)

/-- BOOT_DONE (R417). -/
def execBootDone (s : State) : Host.Outcome State Fault Refusal :=
  s.doing Block.bootDone

/-- FUSE_PROGRAM (R427). -/
def execFuseProgram (w : Writer) (v : BitVec 32) (s : State) : Host.Outcome State Fault Refusal :=
  s.doing (fun b => b.byWrite w .boot (Block.fuseProgram w v.toNat))

/-- FUSE_REVOKE (R427). -/
def execFuseRevoke (w : Writer) (v : BitVec 32) (s : State) : Host.Outcome State Fault Refusal :=
  s.doing (fun b => b.byWrite w .boot (Block.fuseRevoke w v.toNat))

/-- SVN_COMMIT (R436). -/
def execSvnCommit (w : Writer) (v : BitVec 32) (s : State) : Host.Outcome State Fault Refusal :=
  s.doing (fun b => b.byWrite w .boot (Block.svnCommit w v.toNat))

/-- FUSE_DONE (R436). -/
def execFuseDone (ok : Bool) (s : State) : Host.Outcome State Fault Refusal :=
  s.doing (Block.fuseDone ok)

end Sys2Proof.Machine
end

