-- ==== Sys2Proof/Machine/DoBuffer.lean ====
section
/-!
DEFINITION. Machine/DoBuffer.lean: the meanings of the commands of crossbar, buffer and Silo (spec/10): for each command
what exec answers. What the command does to the block is said once, in the operation that each of them calls.
-/
namespace Sys2Proof.Machine
open Sys2Proof

/-- LINK_REPLAY (R287). -/
def execLinkReplay (d : Fin 4) (e : Fin 3) (s : State) : Host.Outcome State Fault Refusal :=
  s.doing (Block.linkReplay d.val e.val)

/-- LINK_RETRAIN (R287). -/
def execLinkRetrain (d : Fin 4) (e : Fin 3) (s : State) : Host.Outcome State Fault Refusal :=
  s.doing (Block.linkRetrain d.val e.val)

/-- LINK_RETRAIN_DONE (R287). -/
def execLinkRetrainDone (d : Fin 4) (e : Fin 3) (s : State) : Host.Outcome State Fault Refusal :=
  s.doing (Block.linkRetrainDone d.val e.val)

/-- FRAME_ADMIT (R290). -/
def execFrameAdmit (G : Fin 8) (i : Fin 5) (room : Bool) (s : State) : Host.Outcome State Fault Refusal :=
  s.doing (Block.frameAdmit G.val i.val room)

/-- MC_ENQUEUE (R267). -/
def execMcEnqueue (G : Fin 8) (room : Bool) (s : State) : Host.Outcome State Fault Refusal :=
  s.doing (Block.mcEnqueue G.val room)

/-- FRAME_TAIL_WRITTEN (R301). -/
def execFrameTailWritten (G : Fin 8) (i : Fin 5) (n : Nat) (s : State) : Host.Outcome State Fault Refusal :=
  s.doing (Block.tailWritten G.val i.val n)

/-- SILO_READBACK (R309). -/
def execSiloReadback (G : Fin 8) (q : BitVec 13) (k : Fin 2) (r : SiloRead) (s : State) :
    Host.Outcome State Fault Refusal :=
  s.doing (Block.siloReadback G.val q.toNat k.val r)

/-- HBM_REFRESH (R316). -/
def execHbmRefresh (d : Fin 4) (k : Fin 2) (s : State) : Host.Outcome State Fault Refusal :=
  s.doing (Block.hbmRefresh d.val k.val)

/-- SELF_REFRESH_ENTRY (R318). -/
def execSelfRefreshEntry (d : Fin 4) (k : Fin 2) (s : State) : Host.Outcome State Fault Refusal :=
  s.doing (Block.selfRefresh d.val k.val)

end Sys2Proof.Machine
end

