-- ==== Sys2Proof/Machine/DoChain.lean ====
section
/-!
DEFINITION. Machine/DoChain.lean: the meanings of the commands of the Sheaf chain (spec/15): for each command
what exec answers. What the command does to the block is said once, in the operation that each of them calls.
-/
namespace Sys2Proof.Machine
open Sys2Proof

/-- ENUMERATE (R449). -/
def execEnumerate (dest : BitVec 16) (tag : BitVec 8) (payload : List Byte) (crcOk : Bool) (s : State) :
    Host.Outcome State Fault Refusal :=
  s.doing (fun b => b.chainIn 0x01 dest.toNat tag.toNat payload crcOk b.strapPins)

/-- RING_HOLD (R454). -/
def execRingHold (dest : BitVec 16) (tag : BitVec 8) (payload : List Byte) (crcOk : Bool) (s : State) :
    Host.Outcome State Fault Refusal :=
  s.doing (fun b => b.chainIn 0x02 dest.toNat tag.toNat payload crcOk b.strapPins)

/-- RING_RELEASE (R454). -/
def execRingRelease (dest : BitVec 16) (tag : BitVec 8) (payload : List Byte) (crcOk : Bool) (s : State) :
    Host.Outcome State Fault Refusal :=
  s.doing (fun b => b.chainIn 0x03 dest.toNat tag.toNat payload crcOk b.strapPins)

/-- RING_RESET (R455). -/
def execRingReset (dest : BitVec 16) (tag : BitVec 8) (payload : List Byte) (crcOk : Bool) (straps : BitVec 7) (s : State) :
    Host.Outcome State Fault Refusal :=
  s.doing (fun b => b.chainIn 0x04 dest.toNat tag.toNat payload crcOk straps.toNat)

/-- SNAPSHOT_AT (R456). -/
def execSnapshotAt (dest : BitVec 16) (tag : BitVec 8) (payload : List Byte) (crcOk : Bool) (s : State) :
    Host.Outcome State Fault Refusal :=
  s.doing (fun b => b.chainIn 0x05 dest.toNat tag.toNat payload crcOk b.strapPins)

/-- TALLY_LOAD (R461). -/
def execTallyLoad (dest : BitVec 16) (tag : BitVec 8) (payload : List Byte) (crcOk : Bool) (s : State) :
    Host.Outcome State Fault Refusal :=
  s.doing (fun b => b.chainIn 0x06 dest.toNat tag.toNat payload crcOk b.strapPins)

/-- TALLY_SUM (R461). -/
def execTallySum (dest : BitVec 16) (tag : BitVec 8) (payload : List Byte) (crcOk : Bool) (s : State) :
    Host.Outcome State Fault Refusal :=
  s.doing (fun b => b.chainIn 0x07 dest.toNat tag.toNat payload crcOk b.strapPins)

/-- RING_READ (R457). -/
def execRingRead (dest : BitVec 16) (tag : BitVec 8) (payload : List Byte) (crcOk : Bool) (s : State) :
    Host.Outcome State Fault Refusal :=
  s.doing (fun b => b.chainIn 0x08 dest.toNat tag.toNat payload crcOk b.strapPins)

/-- ACK (R453). -/
def execAck (dest : BitVec 16) (tag : BitVec 8) (payload : List Byte) (crcOk : Bool) (s : State) :
    Host.Outcome State Fault Refusal :=
  s.doing (fun b => b.chainIn 0x81 dest.toNat tag.toNat payload crcOk b.strapPins)

/-- READ_RESP (R457). -/
def execReadResp (dest : BitVec 16) (tag : BitVec 8) (payload : List Byte) (crcOk : Bool) (s : State) :
    Host.Outcome State Fault Refusal :=
  s.doing (fun b => b.chainIn 0x82 dest.toNat tag.toNat payload crcOk b.strapPins)

/-- BREAK (R452). -/
def execBreakFrame (dest : BitVec 16) (tag : BitVec 8) (payload : List Byte) (crcOk : Bool) (s : State) :
    Host.Outcome State Fault Refusal :=
  s.doing (fun b => b.chainIn 0x83 dest.toNat tag.toNat payload crcOk b.strapPins)

/-- CHAIN_BREAK (R452). -/
def execChainBreak (s : State) : Host.Outcome State Fault Refusal :=
  s.doing Block.chainBreak

/-- BREAK_REPEAT (R452). -/
def execBreakRepeat (s : State) : Host.Outcome State Fault Refusal :=
  s.doing Block.breakRepeat

/-- CHAIN_INPUT_REGAINED (R450). -/
def execChainInputRegained (s : State) : Host.Outcome State Fault Refusal :=
  s.doing Block.chainRegained

/-- HEAD_ENUM (R450). -/
def execHeadEnum (w : Writer) (v : BitVec 32) (s : State) : Host.Outcome State Fault Refusal :=
  s.doing (fun b => b.byWrite w .chn (Block.headEnum w v.toNat))

/-- HEAD_SEND (R453). -/
def execHeadSend (w : Writer) (v : BitVec 32) (straps : BitVec 7) (s : State) : Host.Outcome State Fault Refusal :=
  s.doing (fun b => b.byWrite w .chn (Block.headSendWrite w v.toNat straps.toNat))

/-- RX_POP (R453). -/
def execRxPop (v : BitVec 32) (s : State) : Host.Outcome State Fault Refusal :=
  s.doing (fun b => b.byWrite .host .chn (Block.rxPop v.toNat))

/-- BAD_FRAMES (R448). -/
def execBadFrames (kind : BitVec 8) (dest : BitVec 16) (tag : BitVec 8) (payload : List Byte) (s : State) :
    Host.Outcome State Fault Refusal :=
  s.doing (Block.badFrame kind.toNat dest.toNat tag.toNat payload)

end Sys2Proof.Machine
end

