-- ==== Sys2Proof/Machine/DoEgress.lean ====
section
/-!
DEFINITION. Machine/DoEgress.lean: the meanings of the commands of scheduling and egress (spec/09, spec/11): for each command
what exec answers. What the command does to the block is said once, in the operation that each of them calls.
-/
namespace Sys2Proof.Machine
open Sys2Proof

/-- SCHEDULER_PICK (R322). -/
def execSchedulerPick (p : Fin 256) (got : Nat) (s : State) : Host.Outcome State Fault Refusal :=
  s.doing (Block.schedulerPick p.val got)

/-- EGRESS_E0 (R177). -/
def execEgressE0 (p : Fin 256) (s : State) : Host.Outcome State Fault Refusal :=
  s.doing (Block.egressE0 p.val)

/-- EGRESS_E1 (R272). -/
def execEgressE1 (p : Fin 256) (s : State) : Host.Outcome State Fault Refusal :=
  s.doing (Block.egressE1 p.val)

/-- RW_CSUM_WAIT (R277). -/
def execRwCsumWait (p : Fin 256) (s : State) : Host.Outcome State Fault Refusal :=
  s.doing (Block.rwCsumWait p.val)

/-- EGRESS_E2 (R363). -/
def execEgressE2 (p : Fin 256) (s : State) : Host.Outcome State Fault Refusal :=
  s.doing (Block.egressE2 p.val)

/-- EGRESS_E3 (R279). -/
def execEgressE3 (p : Fin 256) (s : State) : Host.Outcome State Fault Refusal :=
  s.doing (Block.egressE3 p.val)

/-- FRAME_START (R107). -/
def execFrameStart (p : Fin 256) (got : Nat) (cut : Nat) (s : State) : Host.Outcome State Fault Refusal :=
  s.doing (Block.frameStart p.val got cut)

/-- TX_UNDERRUN (R108). -/
def execTxUnderrun (p : Fin 256) (sent : Nat) (s : State) : Host.Outcome State Fault Refusal :=
  s.doing (Block.txUnderrun p.val sent)

/-- FRAME_TX_END (R289). -/
def execFrameTxEnd (p : Fin 256) (s : State) : Host.Outcome State Fault Refusal :=
  s.doing (Block.frameTxEnd p.val)

/-- SHAPER_REFILL (R328). -/
def execShaperRefill (d : Fin 4) (s : State) : Host.Outcome State Fault Refusal :=
  s.doing (Block.shaperRefill d.val)

/-- SHAPER_COMMIT (R329). -/
def execShaperCommit (w : Writer) (G : Fin 8) (n : Fin 9216) (v : BitVec 32) (s : State) :
    Host.Outcome State Fault Refusal :=
  s.doing (fun b => b.byWrite w .rgn (Block.shaperCommit w G.val n.val v.toNat))

/-- QUEUE_SAMPLE (R349). -/
def execQueueSample (G : Fin 8) (q : BitVec 13) (s : State) : Host.Outcome State Fault Refusal :=
  s.doing (Block.queueSample G.val q.toNat)

/-- SAMP_CLR_MAX (R350). -/
def execSampClrMax (w : Writer) (G : Fin 8) (v : BitVec 32) (s : State) : Host.Outcome State Fault Refusal :=
  s.doing (fun b => b.byWrite w .rgn (Block.sampClrMax w G.val v.toNat))

end Sys2Proof.Machine
end

