-- ==== Sys2Proof/Machine/DoFault.lean ====
section
/-!
DEFINITION. Machine/DoFault.lean: the meanings of the commands of fault collection (spec/16): for each command
what exec answers. What the command does to the block is said once, in the operation that each of them calls.
-/
namespace Sys2Proof.Machine
open Sys2Proof

/-- FAULT_MESSAGE (R477). -/
def execFaultMessage (h : HopStraps) (s : State) : Host.Outcome State Fault Refusal :=
  s.doing (Block.faultMessage h.hop h.straps.toNat)

/-- FAULT_POP (R479). -/
def execFaultPop (v : BitVec 32) (s : State) : Host.Outcome State Fault Refusal :=
  s.doing (fun b => b.byWrite .host .flt (Block.faultPop v.toNat))

/-- FAULT_INJECT (R481). -/
def execFaultInject (w : Writer) (v : BitVec 32) (s : State) : Host.Outcome State Fault Refusal :=
  s.doing (fun b => b.byWrite w .flt (Block.faultInject w v.toNat))

/-- FIRST_CLR (R480). -/
def execFirstClr (c : Fin 5) (v : BitVec 32) (s : State) : Host.Outcome State Fault Refusal :=
  s.doing (fun b => b.byWrite .host (colBlk c.val) (Block.firstClr c.val v.toNat))

/-- ESC_ACK (R482). -/
def execEscAck (w : Writer) (c : Fin 5) (v : BitVec 32) (s : State) : Host.Outcome State Fault Refusal :=
  s.doing (fun b => b.byWrite w (colBlk c.val) (Block.escAck w c.val v.toNat))

/-- ESCALATE (R484). -/
def execEscalate (c : CollectorStraps) (s : State) : Host.Outcome State Fault Refusal :=
  s.doing (Block.escalate c.c.val c.straps.toNat)

/-- FAULT_N_PULSE_END (R485). -/
def execFaultNPulseEnd (s : State) : Host.Outcome State Fault Refusal :=
  s.doing Block.pulseEnd

/-- FAULT_N_CLEAR (R485). -/
def execFaultNClear (w : Writer) (v : BitVec 32) (s : State) : Host.Outcome State Fault Refusal :=
  s.doing (fun b => b.byWrite w .flt (Block.faultNClear w v.toNat))

end Sys2Proof.Machine
end

