-- ==== Sys2Proof/Machine/DoGates.lean ====
section
/-!
DEFINITION. Machine/DoGates.lean: the meanings of the commands of the gate lists (spec/11): for each command
what exec answers. What the command does to the block is said once, in the operation that each of them calls.
-/
namespace Sys2Proof.Machine
open Sys2Proof

/-- GATE_ENTRY_END (R340). -/
def execGateEntryEnd (p : PortBytes) (s : State) : Host.Outcome State Fault Refusal :=
  s.doing (Block.gateEntryEnd p.port.val p.n)

/-- GATE_CYCLE_START (R340). -/
def execGateCycleStart (p : PortBytes) (s : State) : Host.Outcome State Fault Refusal :=
  s.doing (Block.gateCycleStart p.port.val p.n)

/-- GATE_CHANGE_REQUEST (R343). -/
def execGateChangeRequest (w : Writer) (p : Fin 256) (v : BitVec 32) (s : State) : Host.Outcome State Fault Refusal :=
  s.doing (fun b => b.byWrite w .prt (Block.gateRequest w p.val v.toNat))

/-- GATE_CANCEL (R344). -/
def execGateCancel (w : Writer) (p : Fin 256) (v : BitVec 32) (s : State) : Host.Outcome State Fault Refusal :=
  s.doing (fun b => b.byWrite w .prt (Block.gateCancel w p.val v.toNat))

/-- GATE_CHANGE (R343). -/
def execGateChange (p : PortBytes) (s : State) : Host.Outcome State Fault Refusal :=
  s.doing (Block.gateChange p.port.val p.n)

/-- GCL_ADDR (R348). -/
def execGclAddr (w : Writer) (p : Fin 256) (v : BitVec 32) (s : State) : Host.Outcome State Fault Refusal :=
  s.doing (fun b => b.byWrite w .prt (Block.gclAddr w p.val v.toNat))

/-- GCL_WRITE (R348). -/
def execGclWrite (w : Writer) (p : Fin 256) (v : BitVec 32) (s : State) : Host.Outcome State Fault Refusal :=
  s.doing (fun b => b.byWrite w .prt (Block.gclWrite w p.val v.toNat))

end Sys2Proof.Machine
end

