-- ==== Sys2Proof/Machine/DoHold.lean ====
section
/-!
DEFINITION. Machine/DoHold.lean: the meanings of the commands of Hold and resets (spec/16): for each command
what exec answers. What the command does to the block is said once, in the operation that each of them calls.
-/
namespace Sys2Proof.Machine
open Sys2Proof

/-- SAG_RESET (R74). -/
def execSagReset (d : Fin 4) (mv : BitVec 10) (s : State) : Host.Outcome State Fault Refusal :=
  s.doing (Block.sagReset d.val mv.toNat)

/-- SAG_RESET_END (R488). -/
def execSagResetEnd (straps : BitVec 7) (s : State) : Host.Outcome State Fault Refusal :=
  s.doing (Block.sagResetEnd straps.toNat)

/-- RESET_RELEASE (R413). -/
def execResetRelease (straps : BitVec 7) (s : State) : Host.Outcome State Fault Refusal :=
  s.doing (Block.resetRelease straps.toNat)

/-- POWER_ON_RESET (R540). -/
def execPowerOnReset (s : State) : Host.Outcome State Fault Refusal :=
  s.doing Block.powerOnReset

/-- PIN_RESET (R486). -/
def execPinReset (s : State) : Host.Outcome State Fault Refusal :=
  s.doing Block.pinReset

/-- PACKAGE_SOFT_RESET (R486). -/
def execPackageSoftReset (w : Writer) (v : BitVec 32) (straps : BitVec 7) (s : State) :
    Host.Outcome State Fault Refusal :=
  s.doing (fun b => b.byWrite w .pkg (Block.softReset w v.toNat straps.toNat))

/-- DIE_RESET (R489). -/
def execDieReset (w : Writer) (v : BitVec 32) (s : State) : Host.Outcome State Fault Refusal :=
  s.doing (fun b => b.byWrite w .pkg (Block.dieResetWrite w v.toNat))

/-- DIE_RESET_DONE (R489). -/
def execDieResetDone (d : Fin 4) (s : State) : Host.Outcome State Fault Refusal :=
  s.doing (Block.dieResetDone d.val)

/-- FORWARDING_RESET (R490). -/
def execForwardingReset (w : Writer) (v : BitVec 32) (s : State) : Host.Outcome State Fault Refusal :=
  s.doing (fun b => b.byWrite w .pkg (Block.fwdResetWrite w v.toNat))

/-- FWD_RESET (R490). -/
def execFwdReset (d : Fin 4) (s : State) : Host.Outcome State Fault Refusal :=
  s.doing (Block.fwdResetEnd d.val)

/-- HOLD_REQUEST (R493). -/
def execHoldRequest (w : Writer) (d : Fin 4) (v : BitVec 32) (s : State) : Host.Outcome State Fault Refusal :=
  s.doing (fun b => b.byWrite w .die (Block.holdWrite w d.val v.toNat))

/-- HOLD_RELEASE (R494). -/
def execHoldRelease (w : Writer) (d : Fin 4) (v : BitVec 32) (s : State) : Host.Outcome State Fault Refusal :=
  s.doing (fun b => b.byWrite w .die (Block.releaseWrite w d.val v.toNat))

/-- HOLD_REL_N (R494). -/
def execHoldRelN (low : Bool) (s : State) : Host.Outcome State Fault Refusal :=
  s.doing (Block.holdRelN low)

/-- HOLD_ENTRY (R496). -/
def execHoldEntry (d : Fin 4) (s : State) : Host.Outcome State Fault Refusal :=
  s.doing (Block.holdEntryRow d.val)

/-- HOLD_ENTER (R496). -/
def execHoldEnter (d : Fin 4) (s : State) : Host.Outcome State Fault Refusal :=
  s.doing (Block.holdEnter d.val)

/-- HOLD_EXIT (R498). -/
def execHoldExit (d : Fin 4) (s : State) : Host.Outcome State Fault Refusal :=
  s.doing (Block.holdExit d.val)

/-- POWER_ON_RESET_END (R540). -/
def execPowerOnResetEnd (straps : BitVec 7) (s : State) : Host.Outcome State Fault Refusal :=
  s.doing (Block.powerOnEnd straps.toNat)

end Sys2Proof.Machine
end

