-- ==== Sys2Proof/Machine/DoHost.lean ====
section
/-!
DEFINITION. Machine/DoHost.lean: the meanings of the commands of rings, pools, DMA and interrupts (spec/13): for each command
what exec answers. What the command does to the block is said once, in the operation that each of them calls.
-/
namespace Sys2Proof.Machine
open Sys2Proof

/-- DMA_ERR (R376). -/
def execDmaErr (f : DmaFail) (s : State) : Host.Outcome State Fault Refusal :=
  s.doing (Block.dmaErr f)

/-- DMA_JOB_DONE (R401). -/
def execDmaJobDone (e : Fin 16) (raw : List Byte) (s : State) : Host.Outcome State Fault Refusal :=
  s.doing (Block.dmaJobDone e.val raw)

/-- MBOX_SEND_TO_VF (R380). -/
def execMboxSendToVf (w : Writer) (i : Fin 256) (v : BitVec 32) (s : State) : Host.Outcome State Fault Refusal :=
  s.doing (fun b => b.byWrite w .ins (Block.mboxToVf w i.val v.toNat))

/-- MBOX_SEND_TO_PF (R380). -/
def execMboxSendToPf (i : Fin 256) (v : BitVec 32) (s : State) : Host.Outcome State Fault Refusal :=
  s.doing (fun b => b.byInst i.val (Block.mboxToPf i.val v.toNat))

/-- RING_ENABLE (R385). -/
def execRingEnable (w : Writer) (tx : Bool) (r : BitVec 13) (v : BitVec 32) (s : State) :
    Host.Outcome State Fault Refusal :=
  s.doing (fun b => b.byWrite w .hif (Block.ringEnable w tx r.toNat v.toNat))

/-- RING_DISABLE (R385). -/
def execRingDisable (w : Writer) (tx : Bool) (r : BitVec 13) (v : BitVec 32) (s : State) :
    Host.Outcome State Fault Refusal :=
  s.doing (fun b => b.byWrite w .hif (Block.ringDisable w tx r.toNat v.toNat))

/-- TX_DOORBELL (R386). -/
def execTxDoorbell (i : Fin 256) (j : BitVec 13) (v : BitVec 32) (s : State) : Host.Outcome State Fault Refusal :=
  s.doing (fun b => b.byInst i.val (Block.txDoorbell i.val j.toNat v.toNat))

/-- TX_FETCH (R390). -/
def execTxFetch (raw : List Byte) (data : List Byte) (s : State) : Host.Outcome State Fault Refusal :=
  s.doing (Block.txFetch raw data)

/-- INJECT (R388). -/
def execInject (p : Fin 256) (s : State) : Host.Outcome State Fault Refusal :=
  s.doing (Block.inject p.val)

/-- INJECT_TIMEOUT (R388). -/
def execInjectTimeout (r : BitVec 13) (s : State) : Host.Outcome State Fault Refusal :=
  s.doing (Block.injectTimeout r.toNat)

/-- TX_DIRECT_HANDOFF (R389). -/
def execTxDirectHandoff (r : BitVec 13) (s : State) : Host.Outcome State Fault Refusal :=
  s.doing (Block.txHandoff r.toNat)

/-- RX_DELIVER (R395). -/
def execRxDeliver (r : BitVec 13) (s : State) : Host.Outcome State Fault Refusal :=
  s.doing (Block.rxDeliver r.toNat)

/-- RX_DOORBELL (R391). -/
def execRxDoorbell (i : Fin 256) (j : BitVec 13) (v : BitVec 32) (s : State) : Host.Outcome State Fault Refusal :=
  s.doing (fun b => b.byInst i.val (Block.rxDoorbell i.val j.toNat v.toNat))

/-- POOL_TAIL (R395). -/
def execPoolTail (i : Fin 256) (k : Fin 4) (v : BitVec 32) (s : State) : Host.Outcome State Fault Refusal :=
  s.doing (fun b => b.byInst i.val (Block.poolTail i.val k.val v.toNat))

/-- POOL_FETCH (R395). -/
def execPoolFetch (i : Fin 256) (k : Fin 4) (raw : List Byte) (s : State) : Host.Outcome State Fault Refusal :=
  s.doing (Block.poolFetch i.val k.val raw)

/-- POOL_WAIT_EXPIRE (R396). -/
def execPoolWaitExpire (r : BitVec 13) (s : State) : Host.Outcome State Fault Refusal :=
  s.doing (Block.poolWaitExpire r.toNat)

/-- RING_INT_ARM (R399). -/
def execRingIntArm (tx : Bool) (i : Fin 256) (j : BitVec 13) (v : BitVec 32) (s : State) :
    Host.Outcome State Fault Refusal :=
  s.doing (fun b => b.byInst i.val (Block.ringIntArm tx i.val j.toNat v.toNat))

/-- RING_INT_TIMER (R399). -/
def execRingIntTimer (tx : Bool) (r : BitVec 13) (s : State) : Host.Outcome State Fault Refusal :=
  s.doing (Block.ringIntTimer tx r.toNat)

/-- INT0_ACK (R400). -/
def execInt0Ack (v : BitVec 32) (s : State) : Host.Outcome State Fault Refusal :=
  s.doing (fun b => b.byWrite .host .hif (Block.int0Ack v.toNat))

end Sys2Proof.Machine
end

