-- ==== Sys2Proof/Machine/DoInstance.lean ====
section
/-!
DEFINITION. Machine/DoInstance.lean: the meanings of the commands of PCIe and the instances (spec/13): for each command
what exec answers. What the command does to the block is said once, in the operation that each of them calls.
-/
namespace Sys2Proof.Machine
open Sys2Proof

/-- PCIE_LINK_DOWN (R375). -/
def execPcieLinkDown (e : PcieEvent) (s : State) : Host.Outcome State Fault Refusal :=
  s.doing (Block.pcieDown e)

/-- INS_CMD_READ (R402). -/
def execInsCmdRead (i : Fin 256) (v : BitVec 32) (s : State) : Host.Outcome State Fault Refusal :=
  s.doing (fun b => b.byInst i.val (Block.insRead i.val v.toNat))

/-- INS_CMD_WRITE (R403). -/
def execInsCmdWrite (i : Fin 256) (v : BitVec 32) (s : State) : Host.Outcome State Fault Refusal :=
  s.doing (fun b => b.byInst i.val (Block.insWrite i.val v.toNat))

/-- INS_CMD_DELETE (R402). -/
def execInsCmdDelete (i : Fin 256) (v : BitVec 32) (s : State) : Host.Outcome State Fault Refusal :=
  s.doing (fun b => b.byInst i.val (Block.insDelete i.val v.toNat))

/-- INS_CMD_FENCE (R404). -/
def execInsCmdFence (i : Fin 256) (v : BitVec 32) (s : State) : Host.Outcome State Fault Refusal :=
  s.doing (fun b => b.byInst i.val (Block.insFence i.val v.toNat))

/-- INS_CMD_MOVE_BLOCK (R402). -/
def execInsCmdMoveBlock (i : Fin 256) (v : BitVec 32) (s : State) : Host.Outcome State Fault Refusal :=
  s.doing (fun b => b.byInst i.val (Block.insMove i.val v.toNat))

/-- INS_CMD_NOT_PERMITTED (R403). -/
def execInsCmdNotPermitted (i : Fin 256) (v : BitVec 32) (s : State) : Host.Outcome State Fault Refusal :=
  s.doing (fun b => b.byInst i.val (Block.insOther i.val v.toNat))

/-- WIN_HOLD_CLEAR (R384). -/
def execWinHoldClear (w : Writer) (i : Fin 256) (v : BitVec 32) (s : State) : Host.Outcome State Fault Refusal :=
  s.doing (fun b => b.byWrite w .ins (Block.winHoldClear w i.val v.toNat))

/-- DIRTY_SWAP (R406). -/
def execDirtySwap (w : Writer) (i : Fin 256) (v : BitVec 32) (s : State) : Host.Outcome State Fault Refusal :=
  s.doing (fun b => b.byWrite w .ins (Block.dirtySwap w i.val v.toNat))

/-- DIRTY_SWAP_DONE (R406). -/
def execDirtySwapDone (i : Fin 256) (s : State) : Host.Outcome State Fault Refusal :=
  s.doing (Block.dirtySwapDone i.val)

/-- INSTANCE_RESET (R407). -/
def execInstanceReset (i : Fin 256) (how : ResetBy) (s : State) : Host.Outcome State Fault Refusal :=
  s.doing (fun b => b.byReset how (Block.instanceReset i.val how))

/-- DRAIN_END (R408). -/
def execDrainEnd (i : Fin 256) (s : State) : Host.Outcome State Fault Refusal :=
  s.doing (Block.drainEnd i.val)

/-- INS_RESET (R408). -/
def execInsReset (i : Fin 256) (s : State) : Host.Outcome State Fault Refusal :=
  s.doing (Block.insReset i.val)

/-- PCIE_LINK_UP (R418). -/
def execPcieLinkUp (width : BitVec 5) (rate : Fin 16) (s : State) : Host.Outcome State Fault Refusal :=
  s.doing (fun b => b.outOfReset (Block.pcieUp width.toNat rate.val))

end Sys2Proof.Machine
end

