-- ==== Sys2Proof/Machine/DoLookup.lean ====
section
/-!
DEFINITION. Machine/DoLookup.lean: the meanings of the commands of the lookup sequence (spec/06): for each command
what exec answers. What the command does to the block is said once, in the operation that each of them calls.
-/
namespace Sys2Proof.Machine
open Sys2Proof

/-- LOOKUP_S0 (R176). -/
def execLookupS0 (p : Fin 256) (s : State) : Host.Outcome State Fault Refusal :=
  s.doing (Block.lookupS0 p.val)

/-- LOOKUP_S1 (R176). -/
def execLookupS1 (p : Fin 256) (s : State) : Host.Outcome State Fault Refusal :=
  s.doing (Block.lookupS1 p.val)

/-- LOOKUP_S2 (R176). -/
def execLookupS2 (p : Fin 256) (s : State) : Host.Outcome State Fault Refusal :=
  s.doing (Block.lookupS2 p.val)

/-- LOOKUP_S3 (R176). -/
def execLookupS3 (p : Fin 256) (s : State) : Host.Outcome State Fault Refusal :=
  s.doing (Block.lookupS3 p.val)

/-- LOOKUP_S4 (R176). -/
def execLookupS4 (p : Fin 256) (s : State) : Host.Outcome State Fault Refusal :=
  s.doing (Block.lookupS4 p.val)

/-- LOOKUP_S5 (R185). -/
def execLookupS5 (p : Fin 256) (s : State) : Host.Outcome State Fault Refusal :=
  s.doing (Block.lookupS5 p.val)

/-- LOOKUP_S6 (R334). -/
def execLookupS6 (p : Fin 256) (s : State) : Host.Outcome State Fault Refusal :=
  s.doing (Block.lookupS6 p.val)

/-- LOOKUP_S7 (R185). -/
def execLookupS7 (p : Fin 256) (s : State) : Host.Outcome State Fault Refusal :=
  s.doing (Block.lookupS7 p.val)

/-- LL_WAIT_END (R286). -/
def execLlWaitEnd (p : Fin 256) (s : State) : Host.Outcome State Fault Refusal :=
  s.doing (Block.llWaitEnd p.val)

end Sys2Proof.Machine
end

