-- ==== Sys2Proof/Machine/DoMicro.lean ====
section
/-!
DEFINITION. Machine/DoMicro.lean: the meanings of the commands of the microengines (spec/05): for each command
what exec answers. What the command does to the block is said once, in the operation that each of them calls.
-/
namespace Sys2Proof.Machine
open Sys2Proof

/-- CONTEXT_START (R153). -/
def execContextStart (C : Fin 32) (s : State) : Host.Outcome State Fault Refusal :=
  s.doing (Block.contextStart C.val)

/-- EXT_EQ (R159). -/
def execExtEq (C : Fin 32) (k : Fin 64) (s : State) : Host.Outcome State Fault Refusal :=
  s.doing (Block.extEq C.val k.val)

/-- EXT_LT (R159). -/
def execExtLt (C : Fin 32) (k : Fin 64) (s : State) : Host.Outcome State Fault Refusal :=
  s.doing (Block.extLt C.val k.val)

/-- ALU_ADD (R159). -/
def execAluAdd (C : Fin 32) (k : Fin 64) (s : State) : Host.Outcome State Fault Refusal :=
  s.doing (Block.aluAdd C.val k.val)

/-- ALU_SUB (R159). -/
def execAluSub (C : Fin 32) (k : Fin 64) (s : State) : Host.Outcome State Fault Refusal :=
  s.doing (Block.aluSub C.val k.val)

/-- ALU_AND (R159). -/
def execAluAnd (C : Fin 32) (k : Fin 64) (s : State) : Host.Outcome State Fault Refusal :=
  s.doing (Block.aluAnd C.val k.val)

/-- ALU_OR (R159). -/
def execAluOr (C : Fin 32) (k : Fin 64) (s : State) : Host.Outcome State Fault Refusal :=
  s.doing (Block.aluOr C.val k.val)

/-- ALU_XOR (R159). -/
def execAluXor (C : Fin 32) (k : Fin 64) (s : State) : Host.Outcome State Fault Refusal :=
  s.doing (Block.aluXor C.val k.val)

/-- ALU_SHL (R159). -/
def execAluShl (C : Fin 32) (k : Fin 64) (s : State) : Host.Outcome State Fault Refusal :=
  s.doing (Block.aluShl C.val k.val)

/-- ALU_SHR (R159). -/
def execAluShr (C : Fin 32) (k : Fin 64) (s : State) : Host.Outcome State Fault Refusal :=
  s.doing (Block.aluShr C.val k.val)

/-- ALU_MOVE (R159). -/
def execAluMove (C : Fin 32) (k : Fin 64) (s : State) : Host.Outcome State Fault Refusal :=
  s.doing (Block.aluMove C.val k.val)

/-- ADV (R159). -/
def execAdv (C : Fin 32) (k : Fin 64) (s : State) : Host.Outcome State Fault Refusal :=
  s.doing (Block.adv C.val k.val)

/-- DISPATCH (R159). -/
def execDispatch (C : Fin 32) (k : Fin 64) (s : State) : Host.Outcome State Fault Refusal :=
  s.doing (Block.dispatch C.val k.val)

/-- BRANCH (R159). -/
def execBranch (C : Fin 32) (k : Fin 64) (s : State) : Host.Outcome State Fault Refusal :=
  s.doing (Block.branch C.val k.val)

/-- BRANCH_OVR (R159). -/
def execBranchOvr (C : Fin 32) (k : Fin 64) (s : State) : Host.Outcome State Fault Refusal :=
  s.doing (Block.branchOvr C.val k.val)

/-- BRANCH_EQ (R159). -/
def execBranchEq (C : Fin 32) (k : Fin 64) (s : State) : Host.Outcome State Fault Refusal :=
  s.doing (Block.branchEq C.val k.val)

/-- BRANCH_LT (R159). -/
def execBranchLt (C : Fin 32) (k : Fin 64) (s : State) : Host.Outcome State Fault Refusal :=
  s.doing (Block.branchLt C.val k.val)

/-- CSUM (R159). -/
def execCsum (C : Fin 32) (k : Fin 64) (s : State) : Host.Outcome State Fault Refusal :=
  s.doing (Block.csum C.val k.val)

/-- CSUM_CONTINUE (R159). -/
def execCsumContinue (C : Fin 32) (k : Fin 64) (s : State) : Host.Outcome State Fault Refusal :=
  s.doing (Block.csumContinue C.val k.val)

/-- CHECK (R160). -/
def execCheck (C : Fin 32) (k : Fin 64) (s : State) : Host.Outcome State Fault Refusal :=
  s.doing (Block.check C.val k.val)

/-- END (R159). -/
def execEndRoutine (C : Fin 32) (k : Fin 64) (s : State) : Host.Outcome State Fault Refusal :=
  s.doing (Block.endPlain C.val k.val)

/-- END_MAL (R159). -/
def execEndMal (C : Fin 32) (k : Fin 64) (s : State) : Host.Outcome State Fault Refusal :=
  s.doing (Block.endMal C.val k.val)

/-- FAIL (R159). -/
def execFailRoutine (C : Fin 32) (k : Fin 64) (s : State) : Host.Outcome State Fault Refusal :=
  s.doing (Block.failPlain C.val k.val)

/-- FAIL_WINDOW (R159). -/
def execFailWindow (C : Fin 32) (k : Fin 64) (s : State) : Host.Outcome State Fault Refusal :=
  s.doing (Block.failWindow C.val k.val)

/-- ILLEGAL_WORD (R161). -/
def execIllegalWord (C : Fin 32) (k : Fin 64) (s : State) : Host.Outcome State Fault Refusal :=
  s.doing (Block.illegalWord C.val k.val)

/-- ABORT (R163). -/
def execAbort (C : Fin 32) (v : BitVec 32) (s : State) : Host.Outcome State Fault Refusal :=
  s.doing (fun b => b.byWrite .host .cls (Block.abort C.val v.toNat))

/-- REDIGEST (R169). -/
def execRedigest (C : Fin 32) (v : BitVec 32) (s : State) : Host.Outcome State Fault Refusal :=
  s.doing (fun b => b.byWrite .host .cls (Block.redigest C.val v.toNat))

/-- REDIGEST_DONE (R169). -/
def execRedigestDone (C : Fin 32) (s : State) : Host.Outcome State Fault Refusal :=
  s.doing (Block.redigestDone C.val)

/-- CS_RD_ADDR (R173). -/
def execCsRdAddr (w : Writer) (C : Fin 32) (v : BitVec 32) (s : State) : Host.Outcome State Fault Refusal :=
  s.doing (fun b => b.byWrite w .cls (Block.csRdAddr w C.val v.toNat))

end Sys2Proof.Machine
end

