-- ==== Sys2Proof/Machine/DoObserve.lean ====
section
/-!
DEFINITION. Machine/DoObserve.lean: the meanings of the commands of counters, snapshots, trace and the OBS port (spec/17): for each command
what exec answers. What the command does to the block is said once, in the operation that each of them calls.
-/
namespace Sys2Proof.Machine
open Sys2Proof

/-- PMC_SEL (R502). -/
def execPmcSel (w : Writer) (u : CounterUnit) (k : Fin 8) (v : BitVec 32) (s : State) :
    Host.Outcome State Fault Refusal :=
  s.doing (fun b => b.byWrite w (unitBlk u) (Block.pmcSel w u k.val v.toNat))

/-- PMC_CLR (R501). -/
def execPmcClr (w : Writer) (u : CounterUnit) (v : BitVec 32) (s : State) : Host.Outcome State Fault Refusal :=
  s.doing (fun b => b.byWrite w (unitBlk u) (Block.pmcClr w u v.toNat))

/-- PMC_FREEZE (R501). -/
def execPmcFreeze (w : Writer) (u : CounterUnit) (v : BitVec 32) (s : State) : Host.Outcome State Fault Refusal :=
  s.doing (fun b => b.byWrite w (unitBlk u) (Block.pmcFreeze w u v.toNat))

/-- FREEZE_ALL (R503). -/
def execFreezeAll (w : Writer) (v : BitVec 32) (s : State) : Host.Outcome State Fault Refusal :=
  s.doing (fun b => b.byWrite w .obs (Block.freezeAll w v.toNat))

/-- CLEAR_ALL (R503). -/
def execClearAll (w : Writer) (v : BitVec 32) (s : State) : Host.Outcome State Fault Refusal :=
  s.doing (fun b => b.byWrite w .obs (Block.clearAll w v.toNat))

/-- BW_WINDOW (R507). -/
def execBwWindow (p : Fin 256) (s : State) : Host.Outcome State Fault Refusal :=
  s.doing (Block.bwWindow p.val)

/-- BW_CFG_WRITE (R507). -/
def execBwCfgWrite (w : Writer) (p : Fin 256) (v : BitVec 32) (s : State) : Host.Outcome State Fault Refusal :=
  s.doing (fun b => b.byWrite w .mac (Block.bwCfgWrite w p.val v.toNat))

/-- SNAP_NOW (R509). -/
def execSnapNow (w : Writer) (v : BitVec 32) (s : State) : Host.Outcome State Fault Refusal :=
  s.doing (fun b => b.byWrite w .obs (Block.snapNow w v.toNat))

/-- SNAP_ARM (R509). -/
def execSnapArm (w : Writer) (v : BitVec 32) (s : State) : Host.Outcome State Fault Refusal :=
  s.doing (fun b => b.byWrite w .obs (Block.snapArm w v.toNat))

/-- SNAP_CANCEL (R509). -/
def execSnapCancel (w : Writer) (v : BitVec 32) (s : State) : Host.Outcome State Fault Refusal :=
  s.doing (fun b => b.byWrite w .obs (Block.snapCancel w v.toNat))

/-- SNAPSHOT_LATCH (R508). -/
def execSnapshotLatch (s : State) : Host.Outcome State Fault Refusal :=
  s.doing Block.snapshotLatch

/-- SNAP_ADDR (R510). -/
def execSnapAddr (w : Writer) (v : BitVec 32) (s : State) : Host.Outcome State Fault Refusal :=
  s.doing (fun b => b.byWrite w .obs (Block.snapAddr w v.toNat))

/-- TRACE_RECORD_WRITE (R511). -/
def execTraceRecordWrite (d : Fin 4) (room : Bool) (s : State) : Host.Outcome State Fault Refusal :=
  s.doing (Block.traceWrite d.val room)

/-- TRC_UNFREEZE (R512). -/
def execTrcUnfreeze (v : BitVec 32) (s : State) : Host.Outcome State Fault Refusal :=
  s.doing (fun b => b.byWrite .host .obs (Block.trcUnfreeze v.toNat))

/-- TRC_RESTART (R512). -/
def execTrcRestart (v : BitVec 32) (s : State) : Host.Outcome State Fault Refusal :=
  s.doing (fun b => b.byWrite .host .obs (Block.trcRestart v.toNat))

/-- TRC_RD_ADDR (R514). -/
def execTrcRdAddr (w : Writer) (v : BitVec 32) (r : TraceRead) (s : State) : Host.Outcome State Fault Refusal :=
  s.doing (fun b => b.byWrite w .obs (Block.trcRdAddr w v.toNat r))

/-- OBS_REG (R516). -/
def execObsReg (a : BitVec 32) (n : BitVec 8) (s : State) : Host.Outcome State Fault Refusal :=
  s.doing (Block.obsReg a.toNat n.toNat)

/-- OBS_SNAP (R516). -/
def execObsSnap (a : BitVec 32) (n : BitVec 8) (s : State) : Host.Outcome State Fault Refusal :=
  s.doing (Block.obsSnap a.toNat n.toNat)

/-- OBS_TRACE (R516). -/
def execObsTrace (d : Fin 4) (u : BitVec 26) (rs : List TraceRead) (s : State) : Host.Outcome State Fault Refusal :=
  s.doing (Block.obsTrace d.val u.toNat rs)

end Sys2Proof.Machine
end

