-- ==== Sys2Proof/Machine/DoPair.lean ====
section
/-!
DEFINITION. Machine/DoPair.lean: the meanings of the commands of the redundancy pair (spec/15): for each command
what exec answers. What the command does to the block is said once, in the operation that each of them calls.
-/
namespace Sys2Proof.Machine
open Sys2Proof

/-- HEARTBEAT_SEND (R465). -/
def execHeartbeatSend (s : State) : Host.Outcome State Fault Refusal :=
  s.doing Block.heartbeatSend

/-- HEARTBEAT (R465). -/
def execHeartbeat (role : BitVec 8) (mode : BitVec 8) (epoch : BitVec 32) (next : BitVec 64) (applied : BitVec 64) (s : State) :
    Host.Outcome State Fault Refusal :=
  s.doing (Block.heartbeat role.toNat mode.toNat epoch.toNat next.toNat applied.toNat)

/-- CMD (R467). -/
def execCmd (seq : BitVec 64) (d : Fin 4) (commit : Bool) (word : BitVec 32) (index : BitVec 32) (data : List (BitVec 32)) (s : State) :
    Host.Outcome State Fault Refusal :=
  s.doing (Block.cmdMessage seq.toNat d.val commit word.toNat index.toNat (data.map BitVec.toNat))

/-- CMD_ACK (R468). -/
def execCmdAck (seq : BitVec 64) (status : BitVec 8) (index : BitVec 32) (s : State) :
    Host.Outcome State Fault Refusal :=
  s.doing (Block.cmdAck seq.toNat status.toNat index.toNat)

/-- GLEAN (R469). -/
def execGlean (raw : List Byte) (s : State) : Host.Outcome State Fault Refusal :=
  s.doing (Block.gleanMessage raw)

/-- FRAG (R469). -/
def execFrag (c : Fin 32) (entry : List (BitVec 32)) (s : State) : Host.Outcome State Fault Refusal :=
  s.doing (Block.fragMessage c.val (entry.map BitVec.toNat))

/-- TIME (R469). -/
def execTime (body : List Byte) (s : State) : Host.Outcome State Fault Refusal :=
  s.doing (Block.timeMessage body)

/-- TALLY (R469). -/
def execTally (digests : List (BitVec 64)) (s : State) : Host.Outcome State Fault Refusal :=
  s.doing (Block.tallyMessage (digests.map BitVec.toNat))

/-- CKPT (R469). -/
def execCkpt (id : BitVec 32) (g : Fin 8) (first : BitVec 19) (raw : List Byte) (s : State) :
    Host.Outcome State Fault Refusal :=
  s.doing (Block.ckptMessage id.toNat g.val first.toNat raw)

/-- HANDOVER (R470). -/
def execHandover (seq : BitVec 64) (s : State) : Host.Outcome State Fault Refusal :=
  s.doing (Block.handoverMessage seq.toNat)

/-- PAIR_PERIODIC_SEND (R469). -/
def execPairPeriodicSend (s : State) : Host.Outcome State Fault Refusal :=
  s.doing Block.periodicSend

/-- PEER_TIMEOUT (R470). -/
def execPeerTimeout (s : State) : Host.Outcome State Fault Refusal :=
  s.doing Block.peerTimeout

/-- PAIR_PROMOTE (R470). -/
def execPairPromote (s : State) : Host.Outcome State Fault Refusal :=
  s.doing Block.pairPromote

/-- PAIR_START (R466). -/
def execPairStart (v : BitVec 32) (s : State) : Host.Outcome State Fault Refusal :=
  s.doing (fun b => b.byWrite .host .pair (Block.pairStart v.toNat))

/-- PAIR_HANDOVER (R470). -/
def execPairHandover (v : BitVec 32) (s : State) : Host.Outcome State Fault Refusal :=
  s.doing (fun b => b.byWrite .host .pair (Block.pairHandover v.toNat))

/-- PAIR_HANDOVER_SEND (R470). -/
def execPairHandoverSend (s : State) : Host.Outcome State Fault Refusal :=
  s.doing Block.handoverSend

/-- PROMOTE (R470). -/
def execPromote (w : Writer) (v : BitVec 32) (s : State) : Host.Outcome State Fault Refusal :=
  s.doing (fun b => b.byWrite w .pair (Block.promoteWrite w v.toNat))

/-- DEMOTE (R470). -/
def execDemote (v : BitVec 32) (s : State) : Host.Outcome State Fault Refusal :=
  s.doing (fun b => b.byWrite .host .pair (Block.demoteWrite v.toNat))

/-- SHAIX_REFCLK_LOST (R544). -/
def execShaixRefclkLost (s : State) : Host.Outcome State Fault Refusal :=
  s.doing Block.shaixClockLost

/-- SHAIX_LINK_UP (R463). -/
def execShaixLinkUp (s : State) : Host.Outcome State Fault Refusal :=
  s.doing (fun b => b.outOfReset (Block.shaixUp))

/-- SHAIX_LINK_DOWN (R463). -/
def execShaixLinkDown (s : State) : Host.Outcome State Fault Refusal :=
  s.doing Block.shaixDown

/-- MSG_ERR (R464). -/
def execMsgErr (s : State) : Host.Outcome State Fault Refusal :=
  s.doing Block.msgErr

end Sys2Proof.Machine
end

