-- ==== Sys2Proof/Machine/DoParse.lean ====
section
/-!
DEFINITION. Machine/DoParse.lean: the meanings of the commands of parsing (spec/04): for each command
what exec answers. What the command does to the block is said once, in the operation that each of them calls.
-/
namespace Sys2Proof.Machine
open Sys2Proof

/-- PIPE_TAKE_HEAD (R93). -/
def execPipeTakeHead (p : Fin 256) (s : State) : Host.Outcome State Fault Refusal :=
  s.doing (Block.pipeTakeHead p.val)

/-- HOSTLIM_WRITE (R139). -/
def execHostlimWrite (w : Writer) (p : Fin 256) (r : Fin 16) (v : BitVec 32) (s : State) :
    Host.Outcome State Fault Refusal :=
  s.doing (fun b => b.byWrite w .prt (Block.hostlimWrite w p.val r.val v.toNat))

/-- FRAG_EXPIRE (R145). -/
def execFragExpire (C : Fin 32) (s : State) : Host.Outcome State Fault Refusal :=
  s.doing (Block.fragExpire C.val)

/-- FRAG_FLUSH (R146). -/
def execFragFlush (w : Writer) (C : Fin 32) (v : BitVec 32) (s : State) : Host.Outcome State Fault Refusal :=
  s.doing (fun b => b.byWrite w .cls (Block.fragFlush w C.val v.toNat))

/-- FRAG_FLUSH_DONE (R146). -/
def execFragFlushDone (C : Fin 32) (s : State) : Host.Outcome State Fault Refusal :=
  s.doing (Block.fragFlushDone C.val)

end Sys2Proof.Machine
end

