-- ==== Sys2Proof/Machine/DoPorts.lean ====
section
/-!
DEFINITION. Machine/DoPorts.lean: the meanings of the commands of ports and MACs (spec/03): for each command
what exec answers. What the command does to the block is said once, in the operation that each of them calls.
-/
namespace Sys2Proof.Machine
open Sys2Proof

/-- FRAME_RECEIVE (R93). -/
def execFrameReceive (p : Fin 256) (bytes : List Byte) (i : RxInfo) (s : State) : Host.Outcome State Fault Refusal :=
  s.doing (Block.frameReceive p.val bytes i)

/-- RX_BAD_AFTER_HEAD (R111). -/
def execRxBadAfterHead (p : Fin 256) (s : State) : Host.Outcome State Fault Refusal :=
  s.doing (Block.rxBadAfterHead p.val)

/-- PAUSE_FRAME_RECEIVE (R97). -/
def execPauseFrameReceive (p : Fin 256) (q : BitVec 16) (s : State) : Host.Outcome State Fault Refusal :=
  s.doing (Block.pauseLands p.val q.toNat)

/-- PFC_FRAME_RECEIVE (R97). -/
def execPfcFrameReceive (p : Fin 256) (vec : BitVec 8) (times : List (BitVec 16)) (s : State) :
    Host.Outcome State Fault Refusal :=
  s.doing (Block.pfcLands p.val vec.toNat (times.map BitVec.toNat))

/-- PAUSE_TIMER_EXPIRE (R97). -/
def execPauseTimerExpire (p : Fin 256) (pri : Fin 8) (s : State) : Host.Outcome State Fault Refusal :=
  s.doing (Block.pauseTimerExpire p.val pri.val)

/-- PAUSE_WDOG (R103). -/
def execPauseWdog (p : Fin 256) (pri : Fin 8) (s : State) : Host.Outcome State Fault Refusal :=
  s.doing (Block.pauseWdog p.val pri.val)

/-- PAUSE_WDOG_WRITE (R105). -/
def execPauseWdogWrite (w : Writer) (p : Fin 256) (v : BitVec 32) (s : State) : Host.Outcome State Fault Refusal :=
  s.doing (fun b => b.byWrite w .prt (Block.pauseWdogWrite w p.val v.toNat))

/-- PAUSE_XOFF (R100). -/
def execPauseXoff (p : Fin 256) (s : State) : Host.Outcome State Fault Refusal :=
  s.doing (Block.pauseXoff p.val)

/-- PAUSE_REFRESH (R100). -/
def execPauseRefresh (p : Fin 256) (s : State) : Host.Outcome State Fault Refusal :=
  s.doing (Block.pauseRefresh p.val)

/-- PAUSE_XON (R100). -/
def execPauseXon (p : Fin 256) (s : State) : Host.Outcome State Fault Refusal :=
  s.doing (Block.pauseXon p.val)

/-- PAUSE_FRAME_SEND (R101). -/
def execPauseFrameSend (p : PortBytes) (s : State) : Host.Outcome State Fault Refusal :=
  s.doing (Block.pauseFrameSend p.port.val p.n)

/-- PORT_ENABLE (R89). -/
def execPortEnable (w : Writer) (p : Fin 256) (v : BitVec 32) (s : State) : Host.Outcome State Fault Refusal :=
  s.doing (fun b => b.byWrite w .mac (Block.portEnable w p.val v.toNat))

/-- PORT_DISABLE (R89). -/
def execPortDisable (w : Writer) (p : Fin 256) (v : BitVec 32) (s : State) : Host.Outcome State Fault Refusal :=
  s.doing (fun b => b.byWrite w .mac (Block.portDisable w p.val v.toNat))

/-- AN_DONE (R81). -/
def execAnDone (p : Fin 256) (partner : List (BitVec 2 × BitVec 2)) (s : State) : Host.Outcome State Fault Refusal :=
  s.doing (Block.anDone p.val (partner.map fun x => (x.1.toNat, x.2.toNat)))

/-- LT_DONE (R82). -/
def execLtDone (p : Fin 256) (x : Training) (s : State) : Host.Outcome State Fault Refusal :=
  s.doing (Block.ltDone p.val (x.updates.map fun u => (u.1.val, u.2.toNat)) x.done)

/-- LT_FAIL (R82). -/
def execLtFail (p : Fin 256) (s : State) : Host.Outcome State Fault Refusal :=
  s.doing (Block.ltFail p.val)

/-- LINK_UP (R90). -/
def execLinkUp (p : Fin 256) (snr : List (BitVec 16)) (s : State) : Host.Outcome State Fault Refusal :=
  s.doing (Block.linkUp p.val (snr.map BitVec.toNat))

/-- LINK_DOWN (R90). -/
def execLinkDown (p : Fin 256) (c : DownCause) (cut : Bool) (s : State) : Host.Outcome State Fault Refusal :=
  s.doing (Block.linkDownRow p.val c cut)

/-- PORT_STATE_WRITE (R116). -/
def execPortStateWrite (w : Writer) (p : Fin 256) (v : BitVec 32) (s : State) : Host.Outcome State Fault Refusal :=
  s.doing (fun b => b.byWrite w .mac (Block.portStateWrite w p.val v.toNat))

/-- PREEMPT_VERIFY (R117). -/
def execPreemptVerify (p : Fin 256) (e : VerifyEvent) (s : State) : Host.Outcome State Fault Refusal :=
  s.doing (Block.preemptVerify p.val e)

end Sys2Proof.Machine
end

