-- ==== Sys2Proof/Machine/DoPower.lean ====
section
/-!
DEFINITION. Machine/DoPower.lean: the meanings of the commands of clocks and thermal trip (spec/19): for each command
what exec answers. What the command does to the block is said once, in the operation that each of them calls.
-/
namespace Sys2Proof.Machine
open Sys2Proof

/-- THERMTRIP (R548). -/
def execThermtrip (s : State) : Host.Outcome State Fault Refusal :=
  s.doing Block.thermtrip

/-- SYS_REFCLK_LOST (R544). -/
def execSysRefclkLost (s : State) : Host.Outcome State Fault Refusal :=
  s.doing Block.sysClockLost

/-- SERDES_REFCLK_LOST (R544). -/
def execSerdesRefclkLost (l : Fin 8) (cuts : BitVec 32) (s : State) : Host.Outcome State Fault Refusal :=
  s.doing (Block.serdesLost l.val cuts.toNat)

/-- SERDES_REFCLK_RETURN (R544). -/
def execSerdesRefclkReturn (l : Fin 8) (s : State) : Host.Outcome State Fault Refusal :=
  s.doing (Block.serdesBack l.val)

end Sys2Proof.Machine
end

