-- ==== Sys2Proof/Machine/DoRegs.lean ====
section
/-!
DEFINITION. Machine/DoRegs.lean: the meanings of the commands of register reads and writes (spec/00, spec/18): for each command
what exec answers. What the command does to the block is said once, in the operation that each of them calls.
-/
namespace Sys2Proof.Machine
open Sys2Proof

/-- REGISTER_WRITE (R521). -/
def execRegisterWrite (w : Writer) (a : BitVec 28) (v : BitVec 64) (size : AccessSize) (s : State) :
    Host.Outcome State Fault Refusal :=
  s.doing (Block.registerWrite w a.toNat v.toNat size)

/-- COUNTER_LOW_READ (R14). -/
def execCounterLowRead (r : Reader) (a : BitVec 28) (size : AccessSize) (s : State) :
    Host.Outcome State Fault Refusal :=
  s.doing (fun b => b.byRead r (Block.counterRead r a.toNat size))

/-- READ_CLEAR (R15). -/
def execReadClear (r : Reader) (a : BitVec 28) (size : AccessSize) (s : State) : Host.Outcome State Fault Refusal :=
  s.doing (fun b => b.byRead r (Block.readClear r a.toNat size))

/-- TIME_READ (R369). -/
def execTimeRead (r : Reader) (i : Fin 2) (s : State) : Host.Outcome State Fault Refusal :=
  s.doing (fun b => b.byRead r (Block.timeRead r i.val))

end Sys2Proof.Machine
end

