-- ==== Sys2Proof/Machine/DoTables.lean ====
section
/-!
DEFINITION. Machine/DoTables.lean: the meanings of the commands of the command engine, the Gleaner and the Winnow (spec/06 to spec/08): for each command
what exec answers. What the command does to the block is said once, in the operation that each of them calls.
-/
namespace Sys2Proof.Machine
open Sys2Proof

/-- TBL_READ (R207). -/
def execTblRead (w : Writer) (d : Fin 4) (v : BitVec 32) (s : State) : Host.Outcome State Fault Refusal :=
  s.doing (fun b => b.byCommand w (Block.tblRead w d.val v.toNat))

/-- TBL_WRITE (R258). -/
def execTblWrite (w : Writer) (d : Fin 4) (v : BitVec 32) (s : State) : Host.Outcome State Fault Refusal :=
  s.doing (fun b => b.byCommand w (Block.tblWrite w d.val v.toNat))

/-- TBL_INSERT (R212). -/
def execTblInsert (w : Writer) (d : Fin 4) (v : BitVec 32) (s : State) : Host.Outcome State Fault Refusal :=
  s.doing (fun b => b.byCommand w (Block.tblInsert w d.val v.toNat))

/-- TBL_DELETE (R207). -/
def execTblDelete (w : Writer) (d : Fin 4) (v : BitVec 32) (s : State) : Host.Outcome State Fault Refusal :=
  s.doing (fun b => b.byCommand w (Block.tblDelete w d.val v.toNat))

/-- TBL_SEARCH (R207). -/
def execTblSearch (w : Writer) (d : Fin 4) (v : BitVec 32) (s : State) : Host.Outcome State Fault Refusal :=
  s.doing (fun b => b.byCommand w (Block.tblSearch w d.val v.toNat))

/-- MOVE_BLOCK (R243). -/
def execMoveBlock (w : Writer) (d : Fin 4) (v : BitVec 32) (s : State) : Host.Outcome State Fault Refusal :=
  s.doing (fun b => b.byCommand w (Block.tblMove w d.val v.toNat))

/-- TBL_FENCE (R194). -/
def execTblFence (w : Writer) (d : Fin 4) (v : BitVec 32) (s : State) : Host.Outcome State Fault Refusal :=
  s.doing (fun b => b.byCommand w (Block.tblFence w d.val v.toNat))

/-- TBL_DIGEST (R207). -/
def execTblDigest (w : Writer) (d : Fin 4) (v : BitVec 32) (s : State) : Host.Outcome State Fault Refusal :=
  s.doing (fun b => b.byCommand w (Block.tblDigest w d.val v.toNat))

/-- TBL_BAD_OP (R207). -/
def execTblBadOp (w : Writer) (d : Fin 4) (v : BitVec 32) (s : State) : Host.Outcome State Fault Refusal :=
  s.doing (fun b => b.byCommand w (Block.tblBadOp w d.val v.toNat))

/-- EM_TMPL_COMMIT (R205). -/
def execEmTmplCommit (w : Writer) (d : Fin 4) (v : BitVec 32) (s : State) : Host.Outcome State Fault Refusal :=
  s.doing (fun b => b.byWrite w .tbl (Block.tmplCommit w d.val v.toNat))

/-- CMD_COMPLETE (R206). -/
def execCmdComplete (d : Fin 4) (n : Nat) (s : State) : Host.Outcome State Fault Refusal :=
  s.doing (Block.cmdComplete d.val n)

/-- FENCE_ISSUE (R195). -/
def execFenceIssue (w : Writer) (d : Fin 4) (v : BitVec 32) (s : State) : Host.Outcome State Fault Refusal :=
  s.doing (fun b => b.byWrite w .tbl (Block.fenceWrite w d.val v.toNat))

/-- FENCE_DONE (R194). -/
def execFenceDone (d : Fin 4) (s : State) : Host.Outcome State Fault Refusal :=
  s.doing (Block.fenceDone d.val)

/-- FENCE_TIMEOUT (R197). -/
def execFenceTimeout (d : Fin 4) (s : State) : Host.Outcome State Fault Refusal :=
  s.doing (Block.fenceTimeout d.val)

/-- FENCE_CFG_WRITE (R197). -/
def execFenceCfgWrite (w : Writer) (d : Fin 4) (v : BitVec 32) (s : State) : Host.Outcome State Fault Refusal :=
  s.doing (fun b => b.byWrite w .tbl (Block.fenceCfg w d.val v.toNat))

/-- GLEANER_COMMIT (R219). -/
def execGleanerCommit (d : Fin 4) (s : State) : Host.Outcome State Fault Refusal :=
  s.doing (Block.gleanerCommit d.val)

/-- AGE_QUANTUM (R222). -/
def execAgeQuantum (d : Fin 4) (s : State) : Host.Outcome State Fault Refusal :=
  s.doing (Block.ageQuantum d.val)

/-- SWEEP_PASS_END (R223). -/
def execSweepPassEnd (d : Fin 4) (s : State) : Host.Outcome State Fault Refusal :=
  s.doing (Block.sweepEnd d.val)

/-- GLEANER_REMOVAL (R224). -/
def execGleanerRemoval (d : Fin 4) (s : State) : Host.Outcome State Fault Refusal :=
  s.doing (Block.gleanerRemoval d.val)

/-- WINNOW_START (R229). -/
def execWinnowStart (w : Writer) (d : Fin 4) (v : BitVec 32) (s : State) : Host.Outcome State Fault Refusal :=
  s.doing (fun b => b.byWrite w .tbl (Block.winnowStart w d.val v.toNat))

/-- WINNOW_STOP (R229). -/
def execWinnowStop (w : Writer) (d : Fin 4) (v : BitVec 32) (s : State) : Host.Outcome State Fault Refusal :=
  s.doing (fun b => b.byWrite w .tbl (Block.winnowStop w d.val v.toNat))

/-- WINNOW_COMPARE (R226). -/
def execWinnowCompare (d : Fin 4) (raw : List Byte) (s : State) : Host.Outcome State Fault Refusal :=
  s.doing (Block.winnowCompare d.val raw)

/-- WINNOW_RECHECK (R227). -/
def execWinnowRecheck (d : Fin 4) (raw : List Byte) (s : State) : Host.Outcome State Fault Refusal :=
  s.doing (Block.winnowRecheck d.val raw)

/-- WINNOW_DMA (R228). -/
def execWinnowDma (d : Fin 4) (s : State) : Host.Outcome State Fault Refusal :=
  s.doing (Block.winnowDma d.val)

end Sys2Proof.Machine
end

