-- ==== Sys2Proof/Machine/DoTempo.lean ====
section
/-!
DEFINITION. Machine/DoTempo.lean: the meanings of the commands of tempo, operating levels and supply sag (spec/02): for each command
what exec answers. What the command does to the block is said once, in the operation that each of them calls.
-/
namespace Sys2Proof.Machine
open Sys2Proof

/-- LEVEL_CHANGE (R57). -/
def execLevelChange (w : Writer) (v : BitVec 32) (s : State) : Host.Outcome State Fault Refusal :=
  s.doing (fun b => b.byWrite w .pkg (Block.levelChange w v.toNat))

/-- RAMP_STEP (R57). -/
def execRampStep (s : State) : Host.Outcome State Fault Refusal :=
  s.doing Block.rampStep

/-- SENTINEL_WINDOW (R60). -/
def execSentinelWindow (d : Fin 4) (t0 : BitVec 12) (t1 : BitVec 12) (s : State) : Host.Outcome State Fault Refusal :=
  s.doing (Block.sentinelWindow d.val t0.toNat t1.toNat)

/-- SETTLE_END (R61). -/
def execSettleEnd (d : Fin 4) (mv : BitVec 10) (s : State) : Host.Outcome State Fault Refusal :=
  s.doing (Block.settleEnd d.val mv.toNat)

/-- AVS_TRANSACTION_DONE (R66). -/
def execAvsTransactionDone (d : Fin 4) (r : AvsResult) (s : State) : Host.Outcome State Fault Refusal :=
  s.doing (Block.avsDone d.val r)

/-- AVS_BUS_ERR_CLEAR (R66). -/
def execAvsBusErrClear (w : Writer) (d : Fin 4) (v : BitVec 32) (s : State) : Host.Outcome State Fault Refusal :=
  s.doing (fun b => b.byWrite w .die (Block.avsBusErrClear w d.val v.toNat))

/-- SENT_CLR (R60). -/
def execSentClr (G : Fin 8) (v : BitVec 32) (s : State) : Host.Outcome State Fault Refusal :=
  s.doing (fun b => b.byWrite .host .rgn (Block.sentClr G.val v.toNat))

/-- SAG_WARN (R73). -/
def execSagWarn (d : Fin 4) (mv : BitVec 10) (s : State) : Host.Outcome State Fault Refusal :=
  s.doing (Block.sagWarn d.val mv.toNat)

/-- SAG_WARN_RELEASE (R73). -/
def execSagWarnRelease (s : State) : Host.Outcome State Fault Refusal :=
  s.doing Block.sagWarnRelease

/-- SAG_CLR_MIN (R73). -/
def execSagClrMin (w : Writer) (d : Fin 4) (v : BitVec 32) (s : State) : Host.Outcome State Fault Refusal :=
  s.doing (fun b => b.byWrite w .die (Block.sagClrMin w d.val v.toNat))

end Sys2Proof.Machine
end

