-- ==== Sys2Proof/Machine/DoTime.lean ====
section
/-!
DEFINITION. Machine/DoTime.lean: the meanings of the commands of time (spec/12): for each command
what exec answers. What the command does to the block is said once, in the operation that each of them calls.
-/
namespace Sys2Proof.Machine
open Sys2Proof

/-- TIME_ARM (R356). -/
def execTimeArm (i : Fin 2) (v : BitVec 32) (s : State) : Host.Outcome State Fault Refusal :=
  s.doing (fun b => b.byWrite .host .tim (Block.timeArm i.val v.toNat))

/-- TIME_STEP_REQUEST (R357). -/
def execTimeStepRequest (i : Fin 2) (v : BitVec 32) (s : State) : Host.Outcome State Fault Refusal :=
  s.doing (fun b => b.byWrite .host .tim (Block.timeStepRequest i.val v.toNat))

/-- TIME_STEP (R357). -/
def execTimeStep (i : Fin 2) (s : State) : Host.Outcome State Fault Refusal :=
  s.doing (Block.timeStep i.val)

/-- RATE_WRITE (R358). -/
def execRateWrite (w : Writer) (i : Fin 2) (v : BitVec 32) (s : State) : Host.Outcome State Fault Refusal :=
  s.doing (fun b => b.byWrite w .tim (Block.rateWrite w i.val v.toNat))

/-- TIME_REFCLK (R355). -/
def execTimeRefclk (s : State) : Host.Outcome State Fault Refusal :=
  s.doing Block.refclkLost

/-- TIME_REFCLK_RELOCK (R355). -/
def execTimeRefclkRelock (s : State) : Host.Outcome State Fault Refusal :=
  s.doing Block.refclkRelock

/-- BASE_SWITCH_REQUEST (R360). -/
def execBaseSwitchRequest (w : Writer) (v : BitVec 32) (s : State) : Host.Outcome State Fault Refusal :=
  s.doing (fun b => b.byWrite w .tim (Block.switchRequest w v.toNat))

/-- PORT_SWITCH (R361). -/
def execPortSwitch (p : Fin 256) (s : State) : Host.Outcome State Fault Refusal :=
  s.doing (Block.portSwitch p.val)

/-- TIME_CAPTURE (R369). -/
def execTimeCapture (v : BitVec 32) (s : State) : Host.Outcome State Fault Refusal :=
  s.doing (fun b => b.byWrite .host .tim (Block.timeCapture v.toNat))

end Sys2Proof.Machine
end

