-- ==== Sys2Proof/Machine/Dispatch.lean ====
section
/-! DEFINITION. Machine/Dispatch.lean: exec, one arm for each constructor of Instr. -/
namespace Sys2Proof.Machine
open Sys2Proof

def exec (i : Instr) (s : State) : Host.Outcome State Fault Refusal :=
  match i with
  | .registerWrite w a v size => Sys2Proof.Machine.execRegisterWrite w a v size s
  | .counterLowRead r a size => Sys2Proof.Machine.execCounterLowRead r a size s
  | .readClear r a size => Sys2Proof.Machine.execReadClear r a size s
  | .frameReceive p bytes j0 => Sys2Proof.Machine.execFrameReceive p bytes j0 s
  | .rxBadAfterHead p => Sys2Proof.Machine.execRxBadAfterHead p s
  | .pauseFrameReceive p q => Sys2Proof.Machine.execPauseFrameReceive p q s
  | .pfcFrameReceive p vec times => Sys2Proof.Machine.execPfcFrameReceive p vec times s
  | .pauseTimerExpire p pri => Sys2Proof.Machine.execPauseTimerExpire p pri s
  | .pauseWdog p pri => Sys2Proof.Machine.execPauseWdog p pri s
  | .pauseWdogWrite w p v => Sys2Proof.Machine.execPauseWdogWrite w p v s
  | .pauseXoff p => Sys2Proof.Machine.execPauseXoff p s
  | .pauseRefresh p => Sys2Proof.Machine.execPauseRefresh p s
  | .pauseXon p => Sys2Proof.Machine.execPauseXon p s
  | .pauseFrameSend p => Sys2Proof.Machine.execPauseFrameSend p s
  | .portEnable w p v => Sys2Proof.Machine.execPortEnable w p v s
  | .portDisable w p v => Sys2Proof.Machine.execPortDisable w p v s
  | .anDone p partner => Sys2Proof.Machine.execAnDone p partner s
  | .ltDone p x => Sys2Proof.Machine.execLtDone p x s
  | .ltFail p => Sys2Proof.Machine.execLtFail p s
  | .linkUp p snr => Sys2Proof.Machine.execLinkUp p snr s
  | .linkDown p c cut => Sys2Proof.Machine.execLinkDown p c cut s
  | .portStateWrite w p v => Sys2Proof.Machine.execPortStateWrite w p v s
  | .preemptVerify p e => Sys2Proof.Machine.execPreemptVerify p e s
  | .pipeTakeHead p => Sys2Proof.Machine.execPipeTakeHead p s
  | .contextStart C => Sys2Proof.Machine.execContextStart C s
  | .extEq C k => Sys2Proof.Machine.execExtEq C k s
  | .extLt C k => Sys2Proof.Machine.execExtLt C k s
  | .aluAdd C k => Sys2Proof.Machine.execAluAdd C k s
  | .aluSub C k => Sys2Proof.Machine.execAluSub C k s
  | .aluAnd C k => Sys2Proof.Machine.execAluAnd C k s
  | .aluOr C k => Sys2Proof.Machine.execAluOr C k s
  | .aluXor C k => Sys2Proof.Machine.execAluXor C k s
  | .aluShl C k => Sys2Proof.Machine.execAluShl C k s
  | .aluShr C k => Sys2Proof.Machine.execAluShr C k s
  | .aluMove C k => Sys2Proof.Machine.execAluMove C k s
  | .adv C k => Sys2Proof.Machine.execAdv C k s
  | .dispatch C k => Sys2Proof.Machine.execDispatch C k s
  | .branch C k => Sys2Proof.Machine.execBranch C k s
  | .branchOvr C k => Sys2Proof.Machine.execBranchOvr C k s
  | .branchEq C k => Sys2Proof.Machine.execBranchEq C k s
  | .branchLt C k => Sys2Proof.Machine.execBranchLt C k s
  | .csum C k => Sys2Proof.Machine.execCsum C k s
  | .csumContinue C k => Sys2Proof.Machine.execCsumContinue C k s
  | .check C k => Sys2Proof.Machine.execCheck C k s
  | .endRoutine C k => Sys2Proof.Machine.execEndRoutine C k s
  | .endMal C k => Sys2Proof.Machine.execEndMal C k s
  | .failRoutine C k => Sys2Proof.Machine.execFailRoutine C k s
  | .failWindow C k => Sys2Proof.Machine.execFailWindow C k s
  | .illegalWord C k => Sys2Proof.Machine.execIllegalWord C k s
  | .abort C v => Sys2Proof.Machine.execAbort C v s
  | .redigest C v => Sys2Proof.Machine.execRedigest C v s
  | .redigestDone C => Sys2Proof.Machine.execRedigestDone C s
  | .csRdAddr w C v => Sys2Proof.Machine.execCsRdAddr w C v s
  | .hostlimWrite w p r v => Sys2Proof.Machine.execHostlimWrite w p r v s
  | .fragExpire C => Sys2Proof.Machine.execFragExpire C s
  | .fragFlush w C v => Sys2Proof.Machine.execFragFlush w C v s
  | .fragFlushDone C => Sys2Proof.Machine.execFragFlushDone C s
  | .lookupS0 p => Sys2Proof.Machine.execLookupS0 p s
  | .lookupS1 p => Sys2Proof.Machine.execLookupS1 p s
  | .lookupS2 p => Sys2Proof.Machine.execLookupS2 p s
  | .lookupS3 p => Sys2Proof.Machine.execLookupS3 p s
  | .lookupS4 p => Sys2Proof.Machine.execLookupS4 p s
  | .lookupS5 p => Sys2Proof.Machine.execLookupS5 p s
  | .lookupS6 p => Sys2Proof.Machine.execLookupS6 p s
  | .lookupS7 p => Sys2Proof.Machine.execLookupS7 p s
  | .llWaitEnd p => Sys2Proof.Machine.execLlWaitEnd p s
  | .linkReplay d e => Sys2Proof.Machine.execLinkReplay d e s
  | .linkRetrain d e => Sys2Proof.Machine.execLinkRetrain d e s
  | .linkRetrainDone d e => Sys2Proof.Machine.execLinkRetrainDone d e s
  | .frameAdmit G j0 room => Sys2Proof.Machine.execFrameAdmit G j0 room s
  | .mcEnqueue G room => Sys2Proof.Machine.execMcEnqueue G room s
  | .frameTailWritten G j0 n => Sys2Proof.Machine.execFrameTailWritten G j0 n s
  | .siloReadback G q k r => Sys2Proof.Machine.execSiloReadback G q k r s
  | .hbmRefresh d k => Sys2Proof.Machine.execHbmRefresh d k s
  | .selfRefreshEntry d k => Sys2Proof.Machine.execSelfRefreshEntry d k s
  | .schedulerPick p got => Sys2Proof.Machine.execSchedulerPick p got s
  | .egressE0 p => Sys2Proof.Machine.execEgressE0 p s
  | .egressE1 p => Sys2Proof.Machine.execEgressE1 p s
  | .rwCsumWait p => Sys2Proof.Machine.execRwCsumWait p s
  | .egressE2 p => Sys2Proof.Machine.execEgressE2 p s
  | .egressE3 p => Sys2Proof.Machine.execEgressE3 p s
  | .frameStart p got cut => Sys2Proof.Machine.execFrameStart p got cut s
  | .txUnderrun p sent => Sys2Proof.Machine.execTxUnderrun p sent s
  | .frameTxEnd p => Sys2Proof.Machine.execFrameTxEnd p s
  | .shaperRefill d => Sys2Proof.Machine.execShaperRefill d s
  | .shaperCommit w G n v => Sys2Proof.Machine.execShaperCommit w G n v s
  | .gateEntryEnd p => Sys2Proof.Machine.execGateEntryEnd p s
  | .gateCycleStart p => Sys2Proof.Machine.execGateCycleStart p s
  | .gateChangeRequest w p v => Sys2Proof.Machine.execGateChangeRequest w p v s
  | .gateCancel w p v => Sys2Proof.Machine.execGateCancel w p v s
  | .gateChange p => Sys2Proof.Machine.execGateChange p s
  | .gclAddr w p v => Sys2Proof.Machine.execGclAddr w p v s
  | .gclWrite w p v => Sys2Proof.Machine.execGclWrite w p v s
  | .queueSample G q => Sys2Proof.Machine.execQueueSample G q s
  | .sampClrMax w G v => Sys2Proof.Machine.execSampClrMax w G v s
  | .levelChange w v => Sys2Proof.Machine.execLevelChange w v s
  | .rampStep => Sys2Proof.Machine.execRampStep s
  | .sentinelWindow d t0 t1 => Sys2Proof.Machine.execSentinelWindow d t0 t1 s
  | .settleEnd d mv => Sys2Proof.Machine.execSettleEnd d mv s
  | .avsTransactionDone d r => Sys2Proof.Machine.execAvsTransactionDone d r s
  | .avsBusErrClear w d v => Sys2Proof.Machine.execAvsBusErrClear w d v s
  | .sentClr G v => Sys2Proof.Machine.execSentClr G v s
  | .sagWarn d mv => Sys2Proof.Machine.execSagWarn d mv s
  | .sagWarnRelease => Sys2Proof.Machine.execSagWarnRelease s
  | .sagReset d mv => Sys2Proof.Machine.execSagReset d mv s
  | .sagResetEnd straps => Sys2Proof.Machine.execSagResetEnd straps s
  | .sagClrMin w d v => Sys2Proof.Machine.execSagClrMin w d v s
  | .tblRead w d v => Sys2Proof.Machine.execTblRead w d v s
  | .tblWrite w d v => Sys2Proof.Machine.execTblWrite w d v s
  | .tblInsert w d v => Sys2Proof.Machine.execTblInsert w d v s
  | .tblDelete w d v => Sys2Proof.Machine.execTblDelete w d v s
  | .tblSearch w d v => Sys2Proof.Machine.execTblSearch w d v s
  | .moveBlock w d v => Sys2Proof.Machine.execMoveBlock w d v s
  | .tblFence w d v => Sys2Proof.Machine.execTblFence w d v s
  | .tblDigest w d v => Sys2Proof.Machine.execTblDigest w d v s
  | .tblBadOp w d v => Sys2Proof.Machine.execTblBadOp w d v s
  | .emTmplCommit w d v => Sys2Proof.Machine.execEmTmplCommit w d v s
  | .cmdComplete d n => Sys2Proof.Machine.execCmdComplete d n s
  | .fenceIssue w d v => Sys2Proof.Machine.execFenceIssue w d v s
  | .fenceDone d => Sys2Proof.Machine.execFenceDone d s
  | .fenceTimeout d => Sys2Proof.Machine.execFenceTimeout d s
  | .fenceCfgWrite w d v => Sys2Proof.Machine.execFenceCfgWrite w d v s
  | .gleanerCommit d => Sys2Proof.Machine.execGleanerCommit d s
  | .ageQuantum d => Sys2Proof.Machine.execAgeQuantum d s
  | .sweepPassEnd d => Sys2Proof.Machine.execSweepPassEnd d s
  | .gleanerRemoval d => Sys2Proof.Machine.execGleanerRemoval d s
  | .winnowStart w d v => Sys2Proof.Machine.execWinnowStart w d v s
  | .winnowStop w d v => Sys2Proof.Machine.execWinnowStop w d v s
  | .winnowCompare d raw => Sys2Proof.Machine.execWinnowCompare d raw s
  | .winnowRecheck d raw => Sys2Proof.Machine.execWinnowRecheck d raw s
  | .winnowDma d => Sys2Proof.Machine.execWinnowDma d s
  | .timeArm j0 v => Sys2Proof.Machine.execTimeArm j0 v s
  | .timeStepRequest j0 v => Sys2Proof.Machine.execTimeStepRequest j0 v s
  | .timeStep j0 => Sys2Proof.Machine.execTimeStep j0 s
  | .rateWrite w j0 v => Sys2Proof.Machine.execRateWrite w j0 v s
  | .timeRefclk => Sys2Proof.Machine.execTimeRefclk s
  | .timeRefclkRelock => Sys2Proof.Machine.execTimeRefclkRelock s
  | .baseSwitchRequest w v => Sys2Proof.Machine.execBaseSwitchRequest w v s
  | .portSwitch p => Sys2Proof.Machine.execPortSwitch p s
  | .timeRead r j0 => Sys2Proof.Machine.execTimeRead r j0 s
  | .timeCapture v => Sys2Proof.Machine.execTimeCapture v s
  | .pcieLinkDown e => Sys2Proof.Machine.execPcieLinkDown e s
  | .dmaErr f => Sys2Proof.Machine.execDmaErr f s
  | .dmaJobDone e raw => Sys2Proof.Machine.execDmaJobDone e raw s
  | .mboxSendToVf w j0 v => Sys2Proof.Machine.execMboxSendToVf w j0 v s
  | .mboxSendToPf j0 v => Sys2Proof.Machine.execMboxSendToPf j0 v s
  | .ringEnable w tx r v => Sys2Proof.Machine.execRingEnable w tx r v s
  | .ringDisable w tx r v => Sys2Proof.Machine.execRingDisable w tx r v s
  | .txDoorbell j0 j v => Sys2Proof.Machine.execTxDoorbell j0 j v s
  | .txFetch raw data => Sys2Proof.Machine.execTxFetch raw data s
  | .inject p => Sys2Proof.Machine.execInject p s
  | .injectTimeout r => Sys2Proof.Machine.execInjectTimeout r s
  | .txDirectHandoff r => Sys2Proof.Machine.execTxDirectHandoff r s
  | .rxDeliver r => Sys2Proof.Machine.execRxDeliver r s
  | .rxDoorbell j0 j v => Sys2Proof.Machine.execRxDoorbell j0 j v s
  | .poolTail j0 k v => Sys2Proof.Machine.execPoolTail j0 k v s
  | .poolFetch j0 k raw => Sys2Proof.Machine.execPoolFetch j0 k raw s
  | .poolWaitExpire r => Sys2Proof.Machine.execPoolWaitExpire r s
  | .ringIntArm tx j0 j v => Sys2Proof.Machine.execRingIntArm tx j0 j v s
  | .ringIntTimer tx r => Sys2Proof.Machine.execRingIntTimer tx r s
  | .int0Ack v => Sys2Proof.Machine.execInt0Ack v s
  | .insCmdRead j0 v => Sys2Proof.Machine.execInsCmdRead j0 v s
  | .insCmdWrite j0 v => Sys2Proof.Machine.execInsCmdWrite j0 v s
  | .insCmdDelete j0 v => Sys2Proof.Machine.execInsCmdDelete j0 v s
  | .insCmdFence j0 v => Sys2Proof.Machine.execInsCmdFence j0 v s
  | .insCmdMoveBlock j0 v => Sys2Proof.Machine.execInsCmdMoveBlock j0 v s
  | .insCmdNotPermitted j0 v => Sys2Proof.Machine.execInsCmdNotPermitted j0 v s
  | .winHoldClear w j0 v => Sys2Proof.Machine.execWinHoldClear w j0 v s
  | .dirtySwap w j0 v => Sys2Proof.Machine.execDirtySwap w j0 v s
  | .dirtySwapDone j0 => Sys2Proof.Machine.execDirtySwapDone j0 s
  | .instanceReset j0 how => Sys2Proof.Machine.execInstanceReset j0 how s
  | .drainEnd j0 => Sys2Proof.Machine.execDrainEnd j0 s
  | .insReset j0 => Sys2Proof.Machine.execInsReset j0 s
  | .resetRelease straps => Sys2Proof.Machine.execResetRelease straps s
  | .headerCheck raw timeout slow => Sys2Proof.Machine.execHeaderCheck raw timeout slow s
  | .sectionApply raw timeout => Sys2Proof.Machine.execSectionApply raw timeout s
  | .regwritePoll => Sys2Proof.Machine.execRegwritePoll s
  | .regwriteDelay => Sys2Proof.Machine.execRegwriteDelay s
  | .hostLoad w v => Sys2Proof.Machine.execHostLoad w v s
  | .hbmTrain d lanes => Sys2Proof.Machine.execHbmTrain d lanes s
  | .bootDone => Sys2Proof.Machine.execBootDone s
  | .fuseProgram w v => Sys2Proof.Machine.execFuseProgram w v s
  | .fuseRevoke w v => Sys2Proof.Machine.execFuseRevoke w v s
  | .svnCommit w v => Sys2Proof.Machine.execSvnCommit w v s
  | .fuseDone ok => Sys2Proof.Machine.execFuseDone ok s
  | .enumerate dest tag payload crcOk => Sys2Proof.Machine.execEnumerate dest tag payload crcOk s
  | .ringHold dest tag payload crcOk => Sys2Proof.Machine.execRingHold dest tag payload crcOk s
  | .ringRelease dest tag payload crcOk => Sys2Proof.Machine.execRingRelease dest tag payload crcOk s
  | .ringReset dest tag payload crcOk straps => Sys2Proof.Machine.execRingReset dest tag payload crcOk straps s
  | .snapshotAt dest tag payload crcOk => Sys2Proof.Machine.execSnapshotAt dest tag payload crcOk s
  | .tallyLoad dest tag payload crcOk => Sys2Proof.Machine.execTallyLoad dest tag payload crcOk s
  | .tallySum dest tag payload crcOk => Sys2Proof.Machine.execTallySum dest tag payload crcOk s
  | .ringRead dest tag payload crcOk => Sys2Proof.Machine.execRingRead dest tag payload crcOk s
  | .ack dest tag payload crcOk => Sys2Proof.Machine.execAck dest tag payload crcOk s
  | .readResp dest tag payload crcOk => Sys2Proof.Machine.execReadResp dest tag payload crcOk s
  | .breakFrame dest tag payload crcOk => Sys2Proof.Machine.execBreakFrame dest tag payload crcOk s
  | .chainBreak => Sys2Proof.Machine.execChainBreak s
  | .breakRepeat => Sys2Proof.Machine.execBreakRepeat s
  | .chainInputRegained => Sys2Proof.Machine.execChainInputRegained s
  | .headEnum w v => Sys2Proof.Machine.execHeadEnum w v s
  | .headSend w v straps => Sys2Proof.Machine.execHeadSend w v straps s
  | .rxPop v => Sys2Proof.Machine.execRxPop v s
  | .heartbeatSend => Sys2Proof.Machine.execHeartbeatSend s
  | .heartbeat role mode epoch next applied => Sys2Proof.Machine.execHeartbeat role mode epoch next applied s
  | .cmd seq d commit word index data => Sys2Proof.Machine.execCmd seq d commit word index data s
  | .cmdAck seq status index => Sys2Proof.Machine.execCmdAck seq status index s
  | .glean raw => Sys2Proof.Machine.execGlean raw s
  | .frag c entry => Sys2Proof.Machine.execFrag c entry s
  | .time body => Sys2Proof.Machine.execTime body s
  | .tally digests => Sys2Proof.Machine.execTally digests s
  | .ckpt id g first raw => Sys2Proof.Machine.execCkpt id g first raw s
  | .handover seq => Sys2Proof.Machine.execHandover seq s
  | .pairPeriodicSend => Sys2Proof.Machine.execPairPeriodicSend s
  | .peerTimeout => Sys2Proof.Machine.execPeerTimeout s
  | .pairPromote => Sys2Proof.Machine.execPairPromote s
  | .pairStart v => Sys2Proof.Machine.execPairStart v s
  | .pairHandover v => Sys2Proof.Machine.execPairHandover v s
  | .pairHandoverSend => Sys2Proof.Machine.execPairHandoverSend s
  | .promote w v => Sys2Proof.Machine.execPromote w v s
  | .demote v => Sys2Proof.Machine.execDemote v s
  | .faultMessage h => Sys2Proof.Machine.execFaultMessage h s
  | .faultPop v => Sys2Proof.Machine.execFaultPop v s
  | .faultInject w v => Sys2Proof.Machine.execFaultInject w v s
  | .firstClr c v => Sys2Proof.Machine.execFirstClr c v s
  | .escAck w c v => Sys2Proof.Machine.execEscAck w c v s
  | .escalate c => Sys2Proof.Machine.execEscalate c s
  | .faultNPulseEnd => Sys2Proof.Machine.execFaultNPulseEnd s
  | .faultNClear w v => Sys2Proof.Machine.execFaultNClear w v s
  | .powerOnReset => Sys2Proof.Machine.execPowerOnReset s
  | .pinReset => Sys2Proof.Machine.execPinReset s
  | .packageSoftReset w v straps => Sys2Proof.Machine.execPackageSoftReset w v straps s
  | .dieReset w v => Sys2Proof.Machine.execDieReset w v s
  | .dieResetDone d => Sys2Proof.Machine.execDieResetDone d s
  | .forwardingReset w v => Sys2Proof.Machine.execForwardingReset w v s
  | .fwdReset d => Sys2Proof.Machine.execFwdReset d s
  | .holdRequest w d v => Sys2Proof.Machine.execHoldRequest w d v s
  | .holdRelease w d v => Sys2Proof.Machine.execHoldRelease w d v s
  | .holdRelN low => Sys2Proof.Machine.execHoldRelN low s
  | .holdEntry d => Sys2Proof.Machine.execHoldEntry d s
  | .holdEnter d => Sys2Proof.Machine.execHoldEnter d s
  | .holdExit d => Sys2Proof.Machine.execHoldExit d s
  | .pmcSel w u k v => Sys2Proof.Machine.execPmcSel w u k v s
  | .pmcClr w u v => Sys2Proof.Machine.execPmcClr w u v s
  | .pmcFreeze w u v => Sys2Proof.Machine.execPmcFreeze w u v s
  | .freezeAll w v => Sys2Proof.Machine.execFreezeAll w v s
  | .clearAll w v => Sys2Proof.Machine.execClearAll w v s
  | .bwWindow p => Sys2Proof.Machine.execBwWindow p s
  | .bwCfgWrite w p v => Sys2Proof.Machine.execBwCfgWrite w p v s
  | .snapNow w v => Sys2Proof.Machine.execSnapNow w v s
  | .snapArm w v => Sys2Proof.Machine.execSnapArm w v s
  | .snapCancel w v => Sys2Proof.Machine.execSnapCancel w v s
  | .snapshotLatch => Sys2Proof.Machine.execSnapshotLatch s
  | .snapAddr w v => Sys2Proof.Machine.execSnapAddr w v s
  | .traceRecordWrite d room => Sys2Proof.Machine.execTraceRecordWrite d room s
  | .trcUnfreeze v => Sys2Proof.Machine.execTrcUnfreeze v s
  | .trcRestart v => Sys2Proof.Machine.execTrcRestart v s
  | .trcRdAddr w v r => Sys2Proof.Machine.execTrcRdAddr w v r s
  | .obsReg a n => Sys2Proof.Machine.execObsReg a n s
  | .obsSnap a n => Sys2Proof.Machine.execObsSnap a n s
  | .obsTrace d u rs => Sys2Proof.Machine.execObsTrace d u rs s
  | .thermtrip => Sys2Proof.Machine.execThermtrip s
  | .sysRefclkLost => Sys2Proof.Machine.execSysRefclkLost s
  | .serdesRefclkLost l cuts => Sys2Proof.Machine.execSerdesRefclkLost l cuts s
  | .shaixRefclkLost => Sys2Proof.Machine.execShaixRefclkLost s
  | .powerOnResetEnd straps => Sys2Proof.Machine.execPowerOnResetEnd straps s
  | .serdesRefclkReturn l => Sys2Proof.Machine.execSerdesRefclkReturn l s
  | .pcieLinkUp width rate => Sys2Proof.Machine.execPcieLinkUp width rate s
  | .shaixLinkUp => Sys2Proof.Machine.execShaixLinkUp s
  | .shaixLinkDown => Sys2Proof.Machine.execShaixLinkDown s
  | .badFrames kind dest tag payload => Sys2Proof.Machine.execBadFrames kind dest tag payload s
  | .msgErr => Sys2Proof.Machine.execMsgErr s

end Sys2Proof.Machine
end

