-- ==== Sys2Proof/Machine/Tick.lean ====
section
/-!
DEFINITION. Machine/Tick.lean: one reference tick of 1 ns: what passes by time alone, with no command (R69, R286, R315, R352,
R371, and the events of Table 17-2 that count ns). A step on an empty queue is one tick (assumption 8).
-/
namespace Sys2Proof.Machine
open Sys2Proof

/-- HELD_TICKS of each held die (R371). -/
def Block.tickHeld (b : Block) : Block :=
  b.each 4 fun b d => if b.frozen d then b.setCtr (R.DIE_HELD_TICKS d) (b.ctr (R.DIE_HELD_TICKS d) + 1) else b

/-- Why port p's pipe holds its first stage back (R69): a frame of it waits for a context, or a search of it for an associative bank, or
any other cause. -/
def Block.stallCounter (b : Block) (p : Nat) : Nat :=
  let mine := b.frames.filter fun e => e.2.port == p
  if mine.any fun e => (match e.2.me with | .waiting _ => true | _ => false) then R.PRT_STALL_CONTEXT p
  else if mine.any fun e => (e.2.asks.getD []).any Ask.assoc then R.PRT_STALL_BANK p
  else R.PRT_STALL_TEMPO p

/-- A stall counter of each port whose staging fill is at or above XOFF (R69). -/
def Block.tickStalls (b : Block) : Block :=
  ((b.frames.map fun e => e.2.port).dedup).foldl (fun b p =>
    if b.stgFill p ≥ b.fld (R.MAC_STG_CFG p) F.MAC_STG_CFG_XOFF * 1024 then b.count (b.stallCounter p) 1 else b) b

/-- A read has waited one handshake for a port of its bank (R201, R249). -/
def Block.askWaits (b : Block) (p : Nat) (a : Ask) : Block :=
  let G := a.region p
  match a with
  | .em _ => (b.count (R.RGN_EM_BANK_WAIT G) 1).pmc (.rgn G) 0x08 0xFFF 1
  | .lpm _ k => b.count (R.RGN_LPM_WAIT G k) 1
  | .acl _ _ _ _ => b

/-- The waits for banks (R201, R249). -/
def Block.tickBanks (b : Block) : Block :=
  b.frames.foldl (fun b e => (e.2.asks.getD []).foldl (fun b a => b.askWaits e.2.port a) b) b

/-- LL_WAIT of each region that a frame waits for in its pipe (R286). -/
def Block.tickWaits (b : Block) : Block :=
  b.frames.foldl (fun b e =>
    if e.2.loc == .llWait then e.2.dests.foldl (fun b G => b.count (R.XEP_LL_WAIT (dieOfPort e.2.port) G) 1) b else b) b

/-- The age clocks count on (R222). -/
def Block.tickAges (b : Block) : Block :=
  b.each 4 fun b d => if b.frozen d then b else b.modEngine d fun e => { e with quantumTicks := e.quantumTicks + 1 }

/-- The events that count ns, of the dies and the host interface (Table 17-2). -/
def Block.tickDies (b : Block) : Block :=
  let b := if b.dmaEng.length == 16 then b.pmc .hif 0x06 0xFFF 1 else b
  let b := b.each 4 fun b d =>
    let b := if b.flag (R.DIE_SAG_STATUS d) F.DIE_SAG_STATUS_WARN_ACTIVE then b.pmc (.die d) 0x04 0xFFF 1 else b
    if b.flag (R.TBL_CMD_STATUS d) F.TBL_CMD_STATUS_BUSY then b.pmc (.tbl d) 0x02 0xFFF 1 else b
  let b := b.fifos.foldl (fun b e => if b.fifoFree (e.1 / 8) (e.1 % 8) < 32768 then b.pmc (.xep (e.1 / 8)) 0x04 (e.1 % 8) 1 else b) b
  let b := b.each 8 fun b G => if b.freeShared G == 0 then b.pmc (.rgn G) 0x0A 0xFFF 1 else b
  b.clusters.foldl (fun b e =>
    if (e.2.ctxs.filter fun x => x.2.frame.isSome).length == 64 then b.pmc (.cls e.1) 0x04 0xFFF 1 else b) b

/-- The pause events of the ports, by priority: bits [23:16] of PAUSE_STATUS are the priorities paused, [15:8] those in XOFF. -/
def Block.tickPause (b : Block) : Block :=
  (b.regs.filter fun e => isMacReg 0x108 e.1).foldl (fun b e =>
    let p := (e.1 - macBase 0) / 0x200000 * 32 + (e.1 - macBase 0) % 0x200000 / 0x1000
    b.each 8 fun b k =>
      let b := if bitOf e.2.toNat (16 + k) then b.pmc (.mac p) 0x05 k 1 else b
      if bitOf e.2.toNat (8 + k) then b.pmc (.mac p) 0x06 k 1 else b) b

/-- The boot sequencer goes on, and one reference tick passes. While TIME_REFCLK is lost there is none (R355). -/
def Block.tick (b : Block) : Block :=
  let b := b.bootMove
  if b.refLost then b else b.nextTick.tickHeld.tickStalls.tickBanks.tickWaits.tickAges.tickDies.tickPause.tickHbm

end Sys2Proof.Machine
end

