-- ==== Sys2Proof/Safety.lean ====
section
/-!
DEFINITION. Safety.lean: what a safe run is, in the terms the statements use. No command stops the block, so a run is safe where
every command takes the block where the spec says: the statements say for each command to which block, and for the whole which
invariants every step keeps.
-/
namespace Sys2Proof.Machine
open Sys2Proof

/-- Command c takes the block b to the block t: exec answers the next state, whatever commands wait behind it, and leaves those
waiting as they are. -/
abbrev Takes (c : Instr) (b t : Block) : Prop := ∀ q : List Instr, exec c ⟨b, q⟩ = .next ⟨t, q⟩

/-- Command c takes the block b to a block of which P holds. -/
abbrev TakesTo (c : Instr) (b : Block) (P : Block → Prop) : Prop := ∃ t, Takes c b t ∧ P t

/-- The operation that a write of v to die d's CMD with opcode `op` stands for (R206): table, cluster mask and argument from v, index
and data from CMD_INDEX and CMD_DATA; a member write of MCAST notes the copies it waits for (R266). -/
def Block.commandOf (b : Block) (d op v : Nat) : TblOp :=
  let o : TblOp := { op := op, table := F.TBL_CMD_TABLE.of v, cmask := F.TBL_CMD_CLUSTER_MASK.of v, arg := F.TBL_CMD_ARG.of v,
                     index := b.fld (R.TBL_CMD_INDEX d) F.TBL_CMD_INDEX_INDEX,
                     data := Vec.ofList ((List.range 16).map fun j => b.word (R.TBL_CMD_DATA d j)) }
  if o.table = T.mcast ∧ 2 ^ 19 ≤ o.index ∧ (op = 1 ∨ op = 3) then { o with after := b.mcWaiting d } else o

/-- The canonical form of the register and counter tables: keys strictly rising, and no entry equal to what an unlisted one reads
as, so that equal contents are equal data. -/
def Block.tablesWf (b : Block) : Bool :=
  b.regs.all (fun e => e.2 != BitVec.ofNat 32 (resetWord e.1)) && decide (b.regs.Pairwise fun x y => x.1 < y.1)
    && SMap.wf 0 b.ctrs

end Sys2Proof.Machine
end

