-- ==== Sys2Proof/Certificates/Slice0/Obligations.lean ====
section
/-!
DEFINITION. Certificates/Slice0/Obligations.lean: the statements about the block, chapter by chapter of the spec. A statement about
a command names the block it takes the block to, or what that block holds and what of it is as before; `Takes c b t` says that exec
answers the next state with block t and the queue as it was.
-/
open Sys2Proof Sys2Proof.Machine

/-! ## Tempo, operating levels and supply sag (spec/02) -/

/-- LEVEL_CHANGE and RAMP_STEP (R57 to R59, R75). A write of LEVEL_CTRL that reaches the register starts every rail that does not
stand at the level voltage, or is still to be confirmed there, walking towards it and clears the sentinel offsets; the reference of
its sag monitor drops at the write where the new level lies lower; BUSY stands while a rail walks; with none to walk CURRENT takes
the level at once. RAMP_INTERVAL µs (at least 5) after its last step, a walking rail whose last write is confirmed moves 5 mV
towards its target, never past it, and the regulator is told. SENTINEL_WINDOW (R60 to R63): each of the die's two regions shows its
tempo, the least tempo so far, its margin (TEMPO × 1,000 div 1,190, where the 11-bit field holds it) and the least margin;
BELOW_FLOOR says whether the smaller margin is below the floor. When it has been below for CONSEC windows, with stepping allowed
and the rail below its ceiling, the rail goes up by 5 mV, never above the ceiling, and settles; at the ceiling AT_CEILING is set
instead. LEVEL_CHANGE completes on every block that its writer reaches, RAMP_STEP and SENTINEL_WINDOW on every block. -/
def Obligations.RailsWalkToTheLevelAndTheSentinelSteps : Prop :=
  ((∀ (b : Block) (w : Writer) (v : BitVec 32), b.reaches w .pkg →
    TakesTo (.levelChange w v) b fun t =>
      let l := F.PKG_LEVEL_CTRL_LEVEL.of v.toNat
      let walks (d : Nat) : Bool := (b.die d).cmdMv != levelMv l || (b.die d).writing
      t.fld R.PKG_LEVEL_CTRL F.PKG_LEVEL_CTRL_LEVEL = l ∧
      (∀ d : Fin 4, t.die d = { b.die d with
            walking := walks d, target := levelMv l, stepAt := if (b.die d).walking then (b.die d).stepAt else b.ticks,
            below := 0, above := 0, settling := false,
            sagMv := if walks d then min (b.die d).sagMv (levelMv l) else levelMv l } ∧
        t.fld (R.DIE_AVS_STATUS d) F.DIE_AVS_STATUS_OFFSET_STEPS = 0 ∧
        t.fld R.PKG_LEVEL_STATUS ⟨d, d⟩ = b2n (!walks d)) ∧
      t.flag R.PKG_LEVEL_STATUS F.PKG_LEVEL_STATUS_BUSY = (walks 0 || walks 1 || walks 2 || walks 3) ∧
      t.curLevel = (if walks 0 || walks 1 || walks 2 || walks 3 then b.curLevel else l) ∧
      t.ctrs = b.ctrs ∧ t.ports = b.ports ∧ t.regions = b.regions ∧ t.frames = b.frames ∧ t.out = b.out) ∧
  (∀ b : Block,
    let due (d : Nat) : Bool :=
      (b.die d).walking && !(b.die d).writing && (b.die d).cmdMv != (b.die d).target &&
        decide ((b.die d).stepAt + max 5 (b.fld R.PKG_LEVEL_CTRL F.PKG_LEVEL_CTRL_RAMP_INTERVAL) * 1000 ≤ b.ticks)
    TakesTo .rampStep b fun t =>
      (∀ d : Fin 4,
        let x := b.die d
        let mv := if x.cmdMv < x.target then min x.target (x.cmdMv + 5) else max x.target (x.cmdMv - 5)
        t.die d = if due d then { x with cmdMv := mv, writing := true, stepAt := b.ticks } else x) ∧
      t.out = b.out ++ ((List.range 4).filter due).map (fun d => .avs d (t.die d).cmdMv) ∧
      t.ctrs = b.ctrs ∧ t.ports = b.ports ∧ t.regions = b.regions ∧ t.frames = b.frames)) ∧
  (∀ (b : Block) (d : Fin 4) (t0 t1 : BitVec 12),
    let m (t : BitVec 12) : Nat := t.toNat * 1000 / 1190
    let worst := min (m t0) (m t1)
    let floor := b.floorOf d
    let shows (t : Block) (G : Nat) (x : BitVec 12) : Prop :=
      t.fld (R.RGN_SENT_TEMPO G) F.RGN_SENT_TEMPO_TEMPO = x.toNat ∧
      t.fld (R.RGN_SENT_TEMPO G) F.RGN_SENT_TEMPO_TEMPO_MIN =
        min x.toNat (b.fld (R.RGN_SENT_TEMPO G) F.RGN_SENT_TEMPO_TEMPO_MIN) ∧
      (m x < 2048 → t.fld (R.RGN_SENT_MARGIN G) F.RGN_SENT_MARGIN_MARGIN = m x) ∧
      t.fld (R.RGN_SENT_MARGIN G) F.RGN_SENT_MARGIN_MARGIN_MIN =
        min (m x) (b.fld (R.RGN_SENT_MARGIN G) F.RGN_SENT_MARGIN_MARGIN_MIN)
    let due := b.stepping d = true ∧ worst < floor ∧ max 1 (b.fld (R.DIE_SENT_CFG d) F.DIE_SENT_CFG_CONSEC) ≤ (b.die d).below + 1
    TakesTo (.sentinelWindow d t0 t1) b fun t =>
      shows t (2 * d) t0 ∧ shows t (2 * d + 1) t1 ∧
      t.flag (R.DIE_AVS_STATUS d) F.DIE_AVS_STATUS_BELOW_FLOOR = decide (worst < floor) ∧
      (due → (b.die d).cmdMv < b.ceiling d →
        (t.die d).cmdMv = min (b.ceiling d) ((b.die d).cmdMv + 5) ∧ (t.die d).settling = true ∧ (t.die d).writing = true ∧
        t.out = b.out ++ [.avs d (min (b.ceiling d) ((b.die d).cmdMv + 5))]) ∧
      (due → b.ceiling d ≤ (b.die d).cmdMv →
        t.flag (R.DIE_AVS_STATUS d) F.DIE_AVS_STATUS_AT_CEILING = true ∧ (t.die d).cmdMv = (b.die d).cmdMv ∧ t.out = b.out) ∧
      (b.stepping d = false → t.die d = b.die d ∧ t.out = b.out))

/-- SETTLE_END, AVS_TRANSACTION_DONE and AVS_BUS_ERR_CLEAR (R57, R61, R65, R66, R75). Once SETTLE has passed since a step was
confirmed, the master reads the rail back and counts anew; a read-back that differs from the voltage commanded by more than 10 mV
sets READBACK_ERR and sends AVS. A transaction that ends well clears the count of failures, and confirms the voltage write in
progress: a rail that has walked to its target is there, and with the last of them CURRENT takes the level. The first and second
failure make the transaction again; the third in a row sets BUS_ERR, sends AVS and leaves the rail at its last confirmed voltage. A
write of 1 to BUS_ERR clears it, and the counts start anew. SENT_CLR, SAG_WARN, SAG_WARN_RELEASE and SAG_CLR_MIN (R60, R73 to R75):
the minima go back to all ones on a write; a rail that stood at mv below WARN_PCT × 0.5 % of its reference sets both warning bits,
drives SAG_WARN_N low and sends SAG_WARN, and one above it warns no longer; when every rail has recovered the pin is released, but
for a sag reset, and no die shows a warning in progress. Each of the seven completes under the hypotheses on the block and the
operands alone. -/
def Obligations.AvsReadBackAndSagWarnings : Prop :=
  ((∀ (b : Block) (d : Fin 4) (mv : BitVec 10),
    (b.die d).settling = true → (b.die d).writing = false → (b.die d).settleAt ≤ b.ticks →
    TakesTo (.settleEnd d mv) b fun t =>
      let far := (b.die d).cmdMv + 10 < mv.toNat ∨ mv.toNat + 10 < (b.die d).cmdMv
      t.die d = { b.die d with settling := false, below := 0, above := 0 } ∧
      t.fld (R.DIE_AVS_STATUS d) F.DIE_AVS_STATUS_RAIL_MV = mv.toNat ∧
      t.fld (R.DIE_AVS_STATUS d) F.DIE_AVS_STATUS_OFFSET_STEPS = ((b.die d).cmdMv - levelMv b.curLevel) / 5 % 16 ∧
      (far → t.flag (R.DIE_AVS_STATUS d) F.DIE_AVS_STATUS_READBACK_ERR = true ∧ t.inflight = (b.send 6 d 0x12 0).inflight) ∧
      (¬far → t.inflight = b.inflight) ∧ t.out = b.out ∧ t.ctrs = b.ctrs) ∧
  (∀ (b : Block) (d : Fin 4), (b.die d).writing = false →
    Takes (.avsTransactionDone d .ok) b (b.modDie d fun x => { x with avsFails := 0 })) ∧
  (∀ (b : Block) (d : Fin 4), (b.die d).writing = true →
    let x := b.die d
    TakesTo (.avsTransactionDone d .ok) b fun t =>
      t.die d = { x with
        avsFails := 0, writing := false, confMv := x.cmdMv, walking := x.walking && x.cmdMv != x.target,
        settleAt := b.ticks + max 1 (b.fld (R.DIE_SENT_CFG d) F.DIE_SENT_CFG_SETTLE) * 1000,
        sagMv := if x.cmdMv = x.target then x.target else x.sagMv } ∧
      (∀ e : Fin 4, e ≠ d → t.die e = b.die e) ∧ t.out = b.out ∧
      (x.walking = true → x.cmdMv = x.target →
        t.fld R.PKG_LEVEL_STATUS ⟨d, d⟩ = 1 ∧
        ((∀ e : Fin 4, e ≠ d → (b.die e).walking = false ∧ b.fld R.PKG_LEVEL_STATUS ⟨e, e⟩ = 1) →
          b.flag R.PKG_LEVEL_STATUS F.PKG_LEVEL_STATUS_BUSY = true →
          t.flag R.PKG_LEVEL_STATUS F.PKG_LEVEL_STATUS_BUSY = false ∧ t.curLevel = b.tgtLevel))) ∧
  (∀ (b : Block) (d : Fin 4), Takes (.avsTransactionDone d .alert) b ((b.modDie d fun x => { x with avsFails := 0 }).send 6 d 0x12 0)) ∧
  (∀ (b : Block) (d : Fin 4) (mv : BitVec 10),
    TakesTo (.avsTransactionDone d (.voltage mv)) b fun t =>
      (t.die d).avsFails = 0 ∧ t.fld (R.DIE_AVS_STATUS d) F.DIE_AVS_STATUS_RAIL_MV = mv.toNat) ∧
  (∀ (b : Block) (d : Fin 4) (r : AvsResult), r = .noResponse ∨ r = .crcError →
    ((b.die d).avsFails < 2 →
      let c := b.modDie d fun x => { x with avsFails := x.avsFails + 1 }
      Takes (.avsTransactionDone d r) b (if (b.die d).writing then c.emit (.avs d (b.die d).cmdMv) else c)) ∧
    (2 ≤ (b.die d).avsFails →
      TakesTo (.avsTransactionDone d r) b fun t =>
        t.flag (R.DIE_AVS_STATUS d) F.DIE_AVS_STATUS_BUS_ERR = true ∧ (t.die d).avsFails = 0 ∧ (t.die d).settling = false ∧
        (t.die d).walking = false ∧ (t.die d).writing = false ∧ (t.die d).cmdMv = (b.die d).confMv ∧ t.inflight = (b.send 6 d 0x12 0).inflight)) ∧
  (∀ (b : Block) (w : Writer) (d : Fin 4) (v : BitVec 32), b.reaches w .die →
    b.flag (R.DIE_AVS_STATUS d) F.DIE_AVS_STATUS_BUS_ERR = true → F.DIE_AVS_STATUS_BUS_ERR.of v.toNat = 1 →
    TakesTo (.avsBusErrClear w d v) b fun t =>
      t.flag (R.DIE_AVS_STATUS d) F.DIE_AVS_STATUS_BUS_ERR = false ∧ t.die d = { b.die d with below := 0, above := 0 } ∧
      ∀ a, a ≠ R.DIE_AVS_STATUS d → t.word a = b.word a)) ∧
  ((∀ (b : Block) (G : Fin 8) (v : BitVec 32), b.reaches .host .rgn →
    TakesTo (.sentClr G v) b fun t =>
      (bitOf v.toNat 0 = true → t.fld (R.RGN_SENT_TEMPO G) F.RGN_SENT_TEMPO_TEMPO_MIN = 0xFFF ∧
        t.fld (R.RGN_SENT_MARGIN G) F.RGN_SENT_MARGIN_MARGIN_MIN = 0x7FF) ∧
      (bitOf v.toNat 0 = false → t = b) ∧
      (∀ a, a ≠ R.RGN_SENT_TEMPO G → a ≠ R.RGN_SENT_MARGIN G → t.word a = b.word a) ∧ t = { b with regs := t.regs }) ∧
  (∀ (b : Block) (d : Fin 4) (mv : BitVec 10),
    let warns := mv.toNat * 200 < b.fld (R.DIE_SAG_CFG d) F.DIE_SAG_CFG_WARN_PCT * b.sagRef d
    TakesTo (.sagWarn d mv) b fun t =>
      t.fld (R.DIE_SAG_STATUS d) F.DIE_SAG_STATUS_MIN_MV = min mv.toNat (b.fld (R.DIE_SAG_STATUS d) F.DIE_SAG_STATUS_MIN_MV) ∧
      (warns → t.flag (R.DIE_SAG_STATUS d) F.DIE_SAG_STATUS_WARN_SEEN = true ∧
        t.flag (R.DIE_SAG_STATUS d) F.DIE_SAG_STATUS_WARN_ACTIVE = true ∧
        (∃ l, t.out = b.out ++ l ++ [.pin "SAG_WARN_N" true]) ∧ t.inflight = (b.send 6 d 0x13 0).inflight) ∧
      (¬warns → t.flag (R.DIE_SAG_STATUS d) F.DIE_SAG_STATUS_WARN_ACTIVE = false ∧ t.out = b.out ∧ t.inflight = b.inflight) ∧
      ∀ a, a ≠ R.DIE_SAG_STATUS d → t.word a = b.word a) ∧
  (∀ b : Block, b.pkgHold = .sag → Takes .sagWarnRelease b b) ∧
  (∀ b : Block, b.pkgHold ≠ .sag →
    TakesTo .sagWarnRelease b fun t =>
      (∀ d : Fin 4, t.flag (R.DIE_SAG_STATUS d) F.DIE_SAG_STATUS_WARN_ACTIVE = false) ∧
      t = { b with regs := t.regs, out := b.out ++ [.pin "SAG_WARN_N" false] } ∧
      ∀ a, (∀ d : Fin 4, a ≠ R.DIE_SAG_STATUS d) → t.word a = b.word a) ∧
  (∀ (b : Block) (w : Writer) (d : Fin 4) (v : BitVec 32), b.reaches w .die → bitOf v.toNat 2 = true →
    TakesTo (.sagClrMin w d v) b fun t =>
      t.fld (R.DIE_SAG_STATUS d) F.DIE_SAG_STATUS_MIN_MV = 0x3FF ∧
      (F.DIE_SAG_STATUS_WARN_SEEN.of v.toNat = 1 → t.flag (R.DIE_SAG_STATUS d) F.DIE_SAG_STATUS_WARN_SEEN = false) ∧
      ∀ a, a ≠ R.DIE_SAG_STATUS d → t.word a = b.word a))

/-! ## Ports (spec/03) -/

/-- FRAME_RECEIVE and RX_BAD_AFTER_HEAD (R93, R111). On a port that is up, of a die that is not held: a frame that is no MAC
control frame, has no error and finds room enters staging, as received and with the port's stamp, and counts; one whose error the
MAC finds in time (runt, oversize, bad codeword, FCS, in that order) counts under its error and goes no further. An error found
after the head has left counts under its error; the frame is dropped if it still stands in staging, else its tail is marked bad.
Near-end loopback ignores the lands, and far-end loopback sends back what it receives (R116). Both complete under the hypotheses on
the block and the operands alone. -/
def Obligations.ReceivedFramesEnterStagingOrCountTheirError : Prop :=
  (∀ (b : Block) (p : Fin 256) (bytes : List Byte),
    b.flag (R.MAC_LINK_STATUS p) F.MAC_LINK_STATUS_LINK_UP → b.frozen (dieOfPort p) = false →
    b.fld (R.MAC_PORT_STATE p) F.MAC_PORT_STATE_LB_MODE ≠ 1 →
    64 ≤ bytes.length → bytes.length ≤ b.fld (R.MAC_PORT_CFG p) F.MAC_PORT_CFG_MAX_FRAME → fcsOk bytes →
    beAt bytes 12 2 ≠ 0x8808 → b.stgFill p + 16384 ≤ 131072 →
    TakesTo (.frameReceive p bytes {}) b fun t =>
      t.frames = SMap.put b.frames b.nextFrame
        { port := p, bytes := bytes, stamp := b.rxStamp p, advA := b.baseA.advance, advB := b.baseB.advance } ∧
      t.nextFrame = b.nextFrame + 1 ∧
      t.ctr (R.MAC_RX_FRAMES_OK p) = (b.ctr (R.MAC_RX_FRAMES_OK p) + 1) % 2 ^ 64 ∧
      t.ctr (R.MAC_RX_BYTES_OK p) = (b.ctr (R.MAC_RX_BYTES_OK p) + bytes.length) % 2 ^ 64 ∧
      t.out = (if b.fld (R.MAC_PORT_STATE p) F.MAC_PORT_STATE_LB_MODE = 2 then b.out ++ [.wire p bytes] else b.out) ∧
      t = { b with ctrs := t.ctrs, ports := t.ports, frames := t.frames, nextFrame := t.nextFrame, out := t.out }) ∧
  (∀ (b : Block) (p : Fin 256) (bytes : List Byte) (i : RxInfo),
    b.fld (R.MAC_PORT_STATE p) F.MAC_PORT_STATE_LB_MODE = 1 → Takes (.frameReceive p bytes i) b b) ∧
  (∀ (b : Block) (p : Fin 256) (bytes : List Byte) (i : RxInfo) (e : RxErr),
    b.flag (R.MAC_LINK_STATUS p) F.MAC_LINK_STATUS_LINK_UP → b.frozen (dieOfPort p) = false →
    b.fld (R.MAC_PORT_STATE p) F.MAC_PORT_STATE_LB_MODE = 0 →
    i.late = false → b.rxError p bytes i.quality = some e → ¬(14 ≤ bytes.length ∧ beAt bytes 12 2 = 0x8808) →
    b.stgFill p + 16384 ≤ 131072 →
    TakesTo (.frameReceive p bytes i) b fun t =>
      t.ctr (rxErrCounter p e) = (b.ctr (rxErrCounter p e) + 1) % 2 ^ 64 ∧
      t = { b with ctrs := t.ctrs, ports := t.ports }) ∧
  (∀ (b : Block) (p : Fin 256) (i : Nat) (e : RxErr) (r : List (Nat × RxErr)) (f : Frame),
    (b.port p).late = (i, e) :: r → SMap.find b.frames i = some f → f.loc ≠ .staging → b.frozen (dieOfPort p) = false →
    TakesTo (.rxBadAfterHead p) b fun t =>
      t.ctr (rxErrCounter p e) = (b.ctr (rxErrCounter p e) + 1) % 2 ^ 64 ∧
      t.ctr (R.MAC_RX_BAD_AFTER_HEAD p) = (b.ctr (R.MAC_RX_BAD_AFTER_HEAD p) + 1) % 2 ^ 64 ∧
      t.frame i = { b.frame i with late := none, bad := true } ∧ (∀ j, j ≠ i → t.frame j = b.frame j) ∧
      (t.port p).late = r.filter (fun x => x.1 != i) ∧
      t = { b with ctrs := t.ctrs, ports := t.ports, frames := t.frames, fifos := t.fifos }) ∧
  (∀ (b : Block) (p : Fin 256) (i : Nat) (e : RxErr) (r : List (Nat × RxErr)) (f : Frame),
    (b.port p).late = (i, e) :: r → SMap.find b.frames i = some f → f.loc = .staging → b.frozen (dieOfPort p) = false →
    TakesTo (.rxBadAfterHead p) b fun t =>
      t.ctr (rxErrCounter p e) = (b.ctr (rxErrCounter p e) + 1) % 2 ^ 64 ∧ t.frames = SMap.del b.frames i ∧
      t = { b with ctrs := t.ctrs, ports := t.ports, frames := t.frames })

/-- PAUSE_FRAME_RECEIVE, PFC_FRAME_RECEIVE and PAUSE_TIMER_EXPIRE (R97, R104), by priority. In the port's receive mode a time other
than 0 loads the timer of each priority it is for and pauses it, a time of 0 releases it; a priority the frame does not name stays
as it is. In another mode the frame counts as discarded; a port that is down, or in near-end loopback, does nothing. A timer that
has run down releases its priority, broken or not. Each of the three completes under the hypotheses on the block and the operands
alone. -/
def Obligations.PauseFramesLoadAndReleaseTheTimers : Prop :=
  (∀ (b : Block) (p : Fin 256) (q : BitVec 16), b.receives p = true → b.landsOff p = false →
    b.fld (R.MAC_PAUSE_CFG p) F.MAC_PAUSE_CFG_RX_MODE = 1 → (∀ pri : Fin 8, b.broken p pri = false) →
    TakesTo (.pauseFrameReceive p q) b fun t =>
      (∀ pri : Fin 8, t.paused p pri = decide (q ≠ 0)) ∧
      (q ≠ 0 → ∀ pri : Fin 8, SMap.find (t.port p).quanta pri = some q.toNat ∧ SMap.find (t.port p).loadedAt pri = some b.ticks) ∧
      (∀ a, a ≠ R.MAC_PAUSE_STATUS p → t.word a = b.word a) ∧ t = { b with regs := t.regs, ctrs := t.ctrs, ports := t.ports }) ∧
  (∀ (b : Block) (p : Fin 256) (q : BitVec 16), b.receives p = true → b.landsOff p = false →
    b.fld (R.MAC_PAUSE_CFG p) F.MAC_PAUSE_CFG_RX_MODE ≠ 1 → Takes (.pauseFrameReceive p q) b (b.count (R.MAC_RX_CTRL_DISCARD p) 1)) ∧
  (∀ (b : Block) (p : Fin 256) (q : BitVec 16) (vec : BitVec 8) (times : List (BitVec 16)),
    b.flag (R.MAC_LINK_STATUS p) F.MAC_LINK_STATUS_LINK_UP = false ∨ b.frozen (dieOfPort p) = true ∨
      b.fld (R.MAC_PORT_STATE p) F.MAC_PORT_STATE_LB_MODE = 1 →
    Takes (.pauseFrameReceive p q) b b ∧ Takes (.pfcFrameReceive p vec times) b b) ∧
  (∀ (b : Block) (p : Fin 256) (vec : BitVec 8) (times : List (BitVec 16)), b.receives p = true → b.landsOff p = false →
    b.fld (R.MAC_PAUSE_CFG p) F.MAC_PAUSE_CFG_RX_MODE = 2 → (∀ pri : Fin 8, b.broken p pri = false) →
    TakesTo (.pfcFrameReceive p vec times) b fun t =>
      (∀ pri : Fin 8,
        let q := (times.getD pri 0).toNat
        if bitOf (vec.toNat &&& b.fld (R.MAC_PAUSE_CFG p) F.MAC_PAUSE_CFG_PFC_RX_EN) pri then
          t.paused p pri = decide (q ≠ 0) ∧
          (q ≠ 0 → SMap.find (t.port p).quanta pri = some q ∧ SMap.find (t.port p).loadedAt pri = some b.ticks)
        else t.paused p pri = b.paused p pri ∧ SMap.find (t.port p).quanta pri = SMap.find (b.port p).quanta pri) ∧
      (∀ a, a ≠ R.MAC_PAUSE_STATUS p → t.word a = b.word a) ∧ t = { b with regs := t.regs, ctrs := t.ctrs, ports := t.ports }) ∧
  (∀ (b : Block) (p : Fin 256) (vec : BitVec 8) (times : List (BitVec 16)), b.receives p = true → b.landsOff p = false →
    b.fld (R.MAC_PAUSE_CFG p) F.MAC_PAUSE_CFG_RX_MODE ≠ 2 → Takes (.pfcFrameReceive p vec times) b (b.count (R.MAC_RX_CTRL_DISCARD p) 1)) ∧
  (∀ (b : Block) (p : Fin 256) (pri : Fin 8) (q at_ : Nat),
    SMap.find (b.port p).quanta pri = some q → SMap.find (b.port p).loadedAt pri = some at_ →
    q * b.quantum p ≤ (b.ticks - at_) * 100 →
    TakesTo (.pauseTimerExpire p pri) b fun t =>
      t.paused p pri = false ∧ t.broken p pri = false ∧ SMap.find (t.port p).quanta pri = none ∧
      (∀ n : Fin 8, n ≠ pri → t.paused p n = b.paused p n ∧ t.broken p n = b.broken p n) ∧
      t = { b with regs := t.regs, ports := t.ports })

/-- PAUSE_WDOG and PAUSE_WDOG_WRITE (R103, R105). A priority whose watchdog is active and which has been paused for TIME µs is
broken: alone, or under 802.3x with all the others. Breaking sets BROKEN and BREAK_SEEN, unpauses, counts one break and sends
PAUSE_WDOG. A timer that has run down by then releases its priority first. A write of the watchdog's register compares the new TIME
at once, for each priority. PAUSE_XOFF, PAUSE_REFRESH, PAUSE_XON and PAUSE_FRAME_SEND (R100, R101). Where a priority is newly
requested, due for refresh, or no longer requested, TX_XOFF becomes what is requested and one frame is queued for all of them:
QUANTA for those in XOFF, 0 for those that leave it. At a frame boundary of a port that is up the oldest queued frame goes on the
wire and counts, and so it does over a frame that it may preempt. Each of the six completes under the hypotheses on the block and
the operands alone. -/
def Obligations.PausesAreSentAndLongOnesBroken : Prop :=
  ((∀ (b : Block) (p : Fin 256) (pri : Fin 8), (∀ n : Fin 8, b.timerOut p n = false) → b.wdogDue p pri = true →
    let mask := if b.fld (R.MAC_PAUSE_CFG p) F.MAC_PAUSE_CFG_RX_MODE = 1 then 0xFF else 2 ^ pri.val
    TakesTo (.pauseWdog p pri) b fun t =>
      (∀ n : Fin 8, bitOf mask n = true → t.broken p n = true ∧ t.paused p n = false) ∧
      (∀ n : Fin 8, bitOf mask n = false → t.broken p n = b.broken p n ∧ t.paused p n = b.paused p n) ∧
      t.inflight = (b.send 0xC p 0x1A 0).inflight ∧ t.ctrs = (b.count (R.PRT_PAUSE_WDOG_BREAKS p) 1).ctrs ∧
      t = { b with regs := t.regs, ctrs := t.ctrs, ports := t.ports, inflight := t.inflight }) ∧
  (∀ (b : Block) (p : Fin 256) (pri : Fin 8), (∀ n : Fin 8, b.timerOut p n = false) → b.wdogDue p pri = false →
    Takes (.pauseWdog p pri) b b) ∧
  (∀ (b : Block) (p : Fin 256) (pri : Fin 8), b.timerOut p pri = true →
    TakesTo (.pauseWdog p pri) b fun t => t.paused p pri = false ∧ t.broken p pri = false ∧
      t = { b with regs := t.regs, ports := t.ports }) ∧
  (∀ (b : Block) (w : Writer) (p : Fin 256) (v : BitVec 32), b.reaches w .prt → (∀ n : Fin 8, b.timerOut p n = false) →
    let b1 := b.storeReg w (R.PRT_PAUSE_WDOG p) v.toNat
    TakesTo (.pauseWdogWrite w p v) b fun t =>
      (∀ n : Fin 8, b1.wdogDue p n = true → t.broken p n = true ∧ t.paused p n = false) ∧
      ((∀ n : Fin 8, b1.wdogDue p n = false) → t = b1))) ∧
  ((∀ (b : Block) (p : Fin 256),
    let want := b.xoffWanted p
    let now := b.xoffNow p
    let on := (want &&& (255 - now)) ||| (want &&& b.refreshDue p)
    let off := now &&& (255 - want)
    let tells (t : Block) : Prop :=
      t.xoffNow p = want % 256 ∧
      (t.port p).ctrl = (b.port p).ctrl ++ [b.pauseFrame p on off (b.fld (R.MAC_PAUSE_TX_CFG p) F.MAC_PAUSE_TX_CFG_QUANTA)] ∧
      (∀ k : Fin 8, bitOf on k = true → SMap.get 0 (t.port p).toldAt k = b.ticks) ∧
      (∀ a, a ≠ R.MAC_PAUSE_STATUS p → t.word a = b.word a) ∧ (∀ j, j ≠ p.val → t.port j = b.port j) ∧
      t = { b with regs := t.regs, ports := t.ports }
    (want &&& (255 - now) ≠ 0 → TakesTo (.pauseXoff p) b tells) ∧ (want &&& (255 - now) = 0 → Takes (.pauseXoff p) b b) ∧
    (want &&& b.refreshDue p ≠ 0 → TakesTo (.pauseRefresh p) b tells) ∧ (want &&& b.refreshDue p = 0 → Takes (.pauseRefresh p) b b) ∧
    (off ≠ 0 → TakesTo (.pauseXon p) b tells) ∧ (off = 0 → Takes (.pauseXon p) b b)) ∧
  (∀ (b : Block) (p : Fin 256) (cut : Nat) (f : List Byte) (r : List (List Byte)),
    (b.port p).ctrl = f :: r → b.receives p = true → b.landsOff p = false → b.txAt p .preempted = none →
    (b.txAt p .sending = none →
      TakesTo (.pauseFrameSend ⟨p, cut⟩) b fun t =>
        t.out = b.out ++ [.wire p f] ∧ (t.port p).ctrl = r ∧ (t.port p).ctrlAt = some b.ticks ∧
        t.ctrs = (b.count (if beAt f 14 2 = 1 then R.MAC_TX_PAUSE_FRAMES p else R.MAC_TX_PFC_FRAMES p) 1).ctrs ∧
        (∀ a, a ≠ R.MAC_PREEMPT_STATUS p → t.word a = b.word a) ∧ (∀ j, j ≠ p.val → t.port j = b.port j) ∧
        t = { b with out := t.out, ports := t.ports, ctrs := t.ctrs, regs := t.regs }) ∧
    ((b.txAt p .sending).isSome = true → b.mayEnter p cut = false → Takes (.pauseFrameSend ⟨p, cut⟩) b b) ∧
    (∀ c, b.txAt p .sending = some c → b.mayEnter p cut = true →
      TakesTo (.pauseFrameSend ⟨p, cut⟩) b fun t =>
        t.out = b.out ++ [.wire p f] ∧ (t.port p).ctrl = r ∧
        t.ctr (R.MAC_TX_FRAGMENTS p) = (b.ctr (R.MAC_TX_FRAGMENTS p) + 1) % 2 ^ 64)))

/-- PORT_ENABLE and PORT_DISABLE (R88, R89). A write of PORT_CFG within the field rules stores it; setting ENABLE starts bring-up,
at negotiation where AN_EN asks for it; clearing it takes the port down, with LINK_UP and the alignment lost and a local fault
shown. A write against the rules is refused. PORT_STATE_WRITE and PREEMPT_VERIFY (R116, R117). A state that the rule does not allow
is refused; with the loopback mode unchanged a write is stored and preemption follows it: verification begins where VERIFY_EN asks
for it, and out of a maintenance state nothing is preempted. An answered verification makes preemption active; one that VERIFY_TIME
passes without an answer is tried again, and the third shows VERIFY_FAIL and is sent; a request of the partner is answered. Each of
the four completes under the hypotheses on the block and the operands alone. -/
def Obligations.PortsAreEnabledAndMaintained : Prop :=
  ((∀ (b : Block) (w : Writer) (p : Fin 256) (v : BitVec 32), b.reaches w .mac →
    let x := F.MAC_PORT_CFG_ENABLE.put v.toNat 1
    (portCfgOk (b.word (R.MAC_PORT_CFG p)) x = false → Takes (.portEnable w p v) b (b.refuse w (R.MAC_PORT_CFG p))) ∧
    (portCfgOk (b.word (R.MAC_PORT_CFG p)) x = true → b.flag (R.MAC_PORT_CFG p) F.MAC_PORT_CFG_ENABLE = false →
      Takes (.portEnable w p v) b ((b.storeReg w (R.MAC_PORT_CFG p) x).bringUp p) ∧
      (b.frozen (dieOfPort p) = false → b.started = true → F.MAC_PORT_CFG_AN_EN.of x = 1 → F.MAC_PORT_CFG_MEDIA.of x ≠ 2 →
        TakesTo (.portEnable w p v) b fun t => (t.port p).bring = .negotiating ∧
          t.flag (R.MAC_PORT_CFG p) F.MAC_PORT_CFG_ENABLE = true)) ∧
    (portCfgOk (b.word (R.MAC_PORT_CFG p)) x = true → b.flag (R.MAC_PORT_CFG p) F.MAC_PORT_CFG_ENABLE = true →
      Takes (.portEnable w p v) b (b.storeReg w (R.MAC_PORT_CFG p) x))) ∧
  (∀ (b : Block) (w : Writer) (p : Fin 256) (v : BitVec 32), b.reaches w .mac →
    let x := F.MAC_PORT_CFG_ENABLE.put v.toNat 0
    portCfgOk (b.word (R.MAC_PORT_CFG p)) x = true → b.flag (R.MAC_PORT_CFG p) F.MAC_PORT_CFG_ENABLE = true →
    TakesTo (.portDisable w p v) b fun t =>
      t.flag (R.MAC_PORT_CFG p) F.MAC_PORT_CFG_ENABLE = false ∧ t.flag (R.MAC_LINK_STATUS p) F.MAC_LINK_STATUS_LINK_UP = false ∧
      t.flag (R.MAC_LINK_STATUS p) F.MAC_LINK_STATUS_ALIGN_LOCK = false ∧
      t.fld (R.MAC_LINK_STATUS p) F.MAC_LINK_STATUS_LANE_LOCK = 0 ∧ (t.port p).bring = .down)) ∧
  ((∀ (b : Block) (w : Writer) (p : Fin 256) (v : BitVec 32), b.reaches w .mac → portStateOk v.toNat = false →
    Takes (.portStateWrite w p v) b (b.refuse w (R.MAC_PORT_STATE p))) ∧
  (∀ (b : Block) (w : Writer) (p : Fin 256) (v : BitVec 32), b.reaches w .mac → portStateOk v.toNat = true →
    F.MAC_PORT_STATE_LB_MODE.of v.toNat = b.fld (R.MAC_PORT_STATE p) F.MAC_PORT_STATE_LB_MODE →
    TakesTo (.portStateWrite w p v) b fun t =>
      t.fld (R.MAC_PORT_STATE p) F.MAC_PORT_STATE_STATE = F.MAC_PORT_STATE_STATE.of v.toNat ∧
      (F.MAC_PORT_STATE_STATE.of v.toNat = 0 → (b.port p).tx = [] →
        t.flag (R.MAC_PREEMPT_STATUS p) F.MAC_PREEMPT_STATUS_ACTIVE = false ∧
        t.fld (R.MAC_PREEMPT_STATUS p) F.MAC_PREEMPT_STATUS_VERIFY_STATE = 0) ∧
      (F.MAC_PORT_STATE_STATE.of v.toNat ≠ 0 → b.flag (R.MAC_PREEMPT_CFG p) F.MAC_PREEMPT_CFG_PREEMPT_EN = true →
        b.flag (R.MAC_PREEMPT_CFG p) F.MAC_PREEMPT_CFG_VERIFY_EN = false →
        t.flag (R.MAC_PREEMPT_STATUS p) F.MAC_PREEMPT_STATUS_ACTIVE = true)) ∧
  (∀ (b : Block) (p : Fin 256), b.fld (R.MAC_PREEMPT_STATUS p) F.MAC_PREEMPT_STATUS_VERIFY_STATE = 1 →
    Takes (.preemptVerify p .answered) b
      ((b.setFld (R.MAC_PREEMPT_STATUS p) F.MAC_PREEMPT_STATUS_VERIFY_STATE 2).raise (R.MAC_PREEMPT_STATUS p) F.MAC_PREEMPT_STATUS_ACTIVE) ∧
    let out_ : Nat := (b.port p).verifyAt + b.fld (R.MAC_PREEMPT_CFG p) F.MAC_PREEMPT_CFG_VERIFY_TIME * oneMs
    (b.ticks < out_ → Takes (.preemptVerify p .timeout) b b) ∧
    (out_ ≤ b.ticks → (b.port p).verifyTries < 2 →
      TakesTo (.preemptVerify p .timeout) b fun t =>
        t.out = b.out ++ [.verify p false] ∧
        t.port p = { b.port p with verifyTries := (b.port p).verifyTries + 1, verifyAt := b.ticks } ∧
        (∀ j, j ≠ p.val → t.port j = b.port j) ∧ t = { b with out := t.out, ports := t.ports }) ∧
    (out_ ≤ b.ticks → 2 ≤ (b.port p).verifyTries →
      TakesTo (.preemptVerify p .timeout) b fun t =>
        t.fld (R.MAC_PREEMPT_STATUS p) F.MAC_PREEMPT_STATUS_VERIFY_STATE = 3 ∧
        t.flag (R.MAC_PREEMPT_STATUS p) F.MAC_PREEMPT_STATUS_VERIFY_FAIL = true ∧
        t.flag (R.MAC_PREEMPT_STATUS p) F.MAC_PREEMPT_STATUS_ACTIVE = b.flag (R.MAC_PREEMPT_STATUS p) F.MAC_PREEMPT_STATUS_ACTIVE ∧
        t.inflight = (b.send 0xD p 0x1C 0).inflight)) ∧
  (∀ (b : Block) (p : Fin 256) (e : VerifyEvent), e ≠ .request →
    b.fld (R.MAC_PREEMPT_STATUS p) F.MAC_PREEMPT_STATUS_VERIFY_STATE ≠ 1 → Takes (.preemptVerify p e) b b) ∧
  (∀ (b : Block) (p : Fin 256), Takes (.preemptVerify p .request) b (if b.receives p then b.emit (.verify p true) else b)))

/-- AN_DONE, LT_DONE and LT_FAIL (R81, R82, R87). Negotiation in which the partner advertises the unit's own PHY type goes on to
training (or straight to adaptation); without it it sets AN_NO_COMMON and goes on. A coefficient update within TXEQ's limits on a
lane in use overwrites the lane's taps, any other changes nothing; training done goes on to adaptation; training that fails shows
LT_FAIL, sends LINK_TRAIN and starts the bring-up again. Out of their phase they change nothing. LINK_UP and LINK_DOWN (R90). When
every condition holds, the lanes in use are locked, the faults clear, LINK_UP rises and LINK is sent. When one stops holding,
LINK_UP falls, LINK_DOWN_SEEN and the count record it, LINK is sent, every received pause ends, and bring-up starts again. Each of
the five completes under the hypotheses on the block and the operands alone. -/
def Obligations.LinksNegotiateTrainComeUpAndGoDown : Prop :=
  ((∀ (b : Block) (p : Fin 256) (partner : List (BitVec 2 × BitVec 2)), (b.port p).bring = .negotiating →
    let speed := b.fld (R.MAC_PORT_CFG p) F.MAC_PORT_CFG_SPEED
    let media := b.fld (R.MAC_PORT_CFG p) F.MAC_PORT_CFG_MEDIA
    ((∃ x ∈ partner, x.1.toNat = speed ∧ x.2.toNat = media) →
      TakesTo (.anDone p partner) b fun t =>
        t.flag (R.MAC_LINK_STATUS p) F.MAC_LINK_STATUS_AN_DONE = true ∧
        t.flag (R.MAC_LINK_STATUS p) F.MAC_LINK_STATUS_AN_NO_COMMON = false ∧
        (t.port p).bring = (if b.flag (R.MAC_PORT_CFG p) F.MAC_PORT_CFG_LT_EN && !b.mediaC2m p then .training else .adapting) ∧
        t = { b with regs := t.regs, ports := t.ports }) ∧
    ((∀ x ∈ partner, ¬(x.1.toNat = speed ∧ x.2.toNat = media)) →
      TakesTo (.anDone p partner) b fun t =>
        t.regs = (b.raise (R.MAC_LINK_STATUS p) F.MAC_LINK_STATUS_AN_NO_COMMON).regs ∧
        t.out = b.out ++ [.negotiate p speed media] ∧ (t.port p).bring = .negotiating ∧
        t = { b with regs := t.regs, out := t.out, ports := t.ports })) ∧
  (∀ (b : Block) (p : Fin 256) (partner : List (BitVec 2 × BitVec 2)), (b.port p).bring ≠ .negotiating →
    Takes (.anDone p partner) b b) ∧
  (∀ (b : Block) (p : Fin 256) (k : Fin 4) (v : BitVec 32), (b.port p).bring = .training →
    TakesTo (.ltDone p ⟨[(k, v)], false⟩) b fun t =>
      t.word (R.LANE_TXEQ (4 * p + k)) = (if bitOf (b.lanesUsed p) k && txeqOk v.toNat then v.toNat else b.word (R.LANE_TXEQ (4 * p + k))) ∧
      (∀ a, a ≠ R.LANE_TXEQ (4 * p + k) → t.word a = b.word a) ∧ t = { b with regs := t.regs }) ∧
  (∀ (b : Block) (p : Fin 256) (updates : List (Fin 4 × BitVec 32)), (b.port p).bring = .training →
    TakesTo (.ltDone p ⟨updates, true⟩) b fun t =>
      (∀ k : Fin 4, t.flag (R.LANE_STATUS (4 * p + k)) F.LANE_STATUS_LT_ACTIVE = false) ∧
      (∀ k : Fin 4, (∀ u ∈ updates, u.1 ≠ k) → t.word (R.LANE_TXEQ (4 * p + k)) = b.word (R.LANE_TXEQ (4 * p + k))) ∧
      t.flag (R.MAC_LINK_STATUS p) F.MAC_LINK_STATUS_LT_DONE = true ∧ (t.port p).bring = .adapting ∧
      t = { b with regs := t.regs, ports := t.ports }) ∧
  (∀ (b : Block) (p : Fin 256), (b.port p).bring = .training →
    let an : Bool := b.flag (R.MAC_PORT_CFG p) F.MAC_PORT_CFG_AN_EN && !b.mediaC2m p
    let lt : Bool := b.flag (R.MAC_PORT_CFG p) F.MAC_PORT_CFG_LT_EN && !b.mediaC2m p
    TakesTo (.ltFail p) b fun t =>
      t.flag (R.MAC_LINK_EVENTS p) F.MAC_LINK_EVENTS_LT_FAIL = true ∧ t.inflight = (b.send 0xD p 0x19 0).inflight ∧
      t.flag (R.MAC_LINK_STATUS p) F.MAC_LINK_STATUS_LT_DONE = !lt ∧
      (t.port p).bring = (if b.flag (R.MAC_PORT_CFG p) F.MAC_PORT_CFG_ENABLE && !b.frozen (dieOfPort p) && b.started then
        (if an then .negotiating else if lt then .training else .adapting) else .down)) ∧
  (∀ (b : Block) (p : Fin 256) (updates : List (Fin 4 × BitVec 32)) (done : Bool), (b.port p).bring ≠ .training →
    Takes (.ltDone p ⟨updates, done⟩) b b ∧ Takes (.ltFail p) b b)) ∧
  ((∀ (b : Block) (p : Fin 256) (snr : List (BitVec 16)), (b.port p).bring = .adapting → b.frozen (dieOfPort p) = false →
    TakesTo (.linkUp p snr) b fun t =>
      t.flag (R.MAC_LINK_STATUS p) F.MAC_LINK_STATUS_LINK_UP = true ∧ t.flag (R.MAC_LINK_STATUS p) F.MAC_LINK_STATUS_ALIGN_LOCK = true ∧
      t.flag (R.MAC_LINK_STATUS p) F.MAC_LINK_STATUS_LOCAL_FAULT = false ∧
      t.flag (R.MAC_LINK_STATUS p) F.MAC_LINK_STATUS_REMOTE_FAULT = false ∧
      t.fld (R.MAC_LINK_STATUS p) F.MAC_LINK_STATUS_LANE_LOCK = b.lanesUsed p ∧
      t.flag (R.MAC_LINK_EVENTS p) F.MAC_LINK_EVENTS_LINK_UP_SEEN = true ∧ (t.port p).bring = .up ∧
      t.inflight = (b.send 0xD p 0x18 0).inflight ∧
      t = { b with regs := t.regs, ports := t.ports, inflight := t.inflight, out := t.out, ctrs := t.ctrs, insts := t.insts }) ∧
  (∀ (b : Block) (p : Fin 256) (snr : List (BitVec 16)), (b.port p).bring ≠ .adapting → Takes (.linkUp p snr) b b) ∧
  (∀ (b : Block) (p : Fin 256) (c : DownCause) (cut : Bool), b.flag (R.MAC_LINK_STATUS p) F.MAC_LINK_STATUS_LINK_UP = false →
    Takes (.linkDown p c cut) b b) ∧
  (∀ (b : Block) (p : Fin 256) (c : DownCause), b.flag (R.MAC_LINK_STATUS p) F.MAC_LINK_STATUS_LINK_UP = true →
    (b.port p).tx = [] →
    TakesTo (.linkDown p c false) b fun t =>
      t.flag (R.MAC_LINK_STATUS p) F.MAC_LINK_STATUS_LINK_UP = false ∧
      t.flag (R.MAC_LINK_EVENTS p) F.MAC_LINK_EVENTS_LINK_DOWN_SEEN = true ∧
      t.fld (R.MAC_PAUSE_STATUS p) F.MAC_PAUSE_STATUS_RX_PAUSED = 0 ∧ (t.port p).quanta = [] ∧
      t.inflight = (b.send 0xD p 0x18 0).inflight ∧ t.frames = b.frames ∧ (t.port p).bring ≠ .up))

/-! ## Parsing and fragments (spec/04) -/

/-- PIPE_TAKE_HEAD (R93, R123, R129, R133). Once the sequencer has admitted frames, on a die that is not held, with a slot free in
the order buffer, the pipe takes the oldest frame of staging, and the Sieve gives it its header vector. One that the Sieve parses
to the end with no malformed class and no failure is ready for S0; one that it hands off waits for a context at the entry of its
stop code; one of a malformed class whose action is 0 is counted and dropped. HOSTLIM_WRITE, FRAG_EXPIRE, FRAG_FLUSH and
FRAG_FLUSH_DONE (R139, R145 to R147). A write of a limiter fills its bucket; an entry whose age has reached FRAG_LIFE is freed and
counted, a younger one stays; a write of FRAG_CFG with a life of 0 is refused, one with FLUSH frees every entry of the cluster and
sets FLUSH_BUSY until the flush is done. Each of the five completes under the hypotheses on the block and the operands alone. -/
def Obligations.HeadsAreParsedAndFragmentsExpire : Prop :=
  (∀ (b : Block) (p : Fin 256) (i : Nat) (f : Frame) (r : List (Nat × Frame)),
    b.mayTake p = true → b.at_ p .staging = (i, f) :: r → b.frame i = f → f.me = .none →
    let C := clsOfPort p
    let v := sieve (b.sieveCfg C) f.bytes
    let mal := Vec.f v.hv 0 ⟨19, 16⟩
    (v.stop = 0 → mal = 0 → Vec.f v.hv 0 ⟨23, 20⟩ = 0 →
      TakesTo (.pipeTakeHead p) b fun t =>
        (t.frame i).loc = .pipe ∧ (t.frame i).stage = 0 ∧ (t.frame i).hv = v.hv ∧ (t.frame i).me = .none ∧
        (t.frame i).bytes = f.bytes ∧ (∀ j, j ≠ i → t.frame j = b.frame j)) ∧
    (v.stop ≠ 0 → b.flag (R.CLS_HANDOFF C v.stop) F.CLS_HANDOFF_ROUTINE_EN = true →
      TakesTo (.pipeTakeHead p) b fun t =>
        (t.frame i).loc = .pipe ∧ (t.frame i).hv = v.hv ∧
        (t.frame i).me = .waiting (b.fld (R.CLS_HANDOFF C v.stop) F.CLS_HANDOFF_ENTRY) ∧
        (∀ j, j ≠ i → t.frame j = b.frame j)) ∧
    (v.stop = 0 → mal ≠ 0 → b.word (R.CLS_MAL_ACTION C) / 4 ^ (mal - 1) % 4 = 0 →
      TakesTo (.pipeTakeHead p) b fun t =>
        SMap.find t.frames i = none ∧ (∀ j, j ≠ i → t.frame j = b.frame j) ∧ t.slow = b.slow)) ∧
  ((∀ (b : Block) (w : Writer) (p : Fin 256) (r : Fin 16) (v : BitVec 32), b.reaches w .prt →
    TakesTo (.hostlimWrite w p r v) b fun t =>
      SMap.get {} (t.port p).lims r = { missing := 0, at_ := b.usNow } ∧
      (∀ n, n ≠ r.val → SMap.get {} (t.port p).lims n = SMap.get {} (b.port p).lims n) ∧
      (∀ a, a ≠ R.PRT_HOSTLIM p r → t.word a = b.word a)) ∧
  (∀ (b : Block) (C : Fin 32),
    let old (e : Nat × FragEntry) : Bool := b.fragLife C ≤ (b.ticks - e.2.born) / 1000
    TakesTo (.fragExpire C) b fun t =>
      (t.cluster C).frags = (b.cluster C).frags.filter (fun e => !old e) ∧
      t.ctrs = (if (b.cluster C).frags.any old then
        (b.count (R.CLS_FRAG_EXPIRED C) ((b.cluster C).frags.filter old).length).ctrs else b.ctrs) ∧
      (∀ c, c ≠ C.val → t.cluster c = b.cluster c) ∧ t = { b with clusters := t.clusters, ctrs := t.ctrs }) ∧
  (∀ (b : Block) (w : Writer) (C : Fin 32) (v : BitVec 32), b.reaches w .cls →
    (F.CLS_FRAG_CFG_FRAG_LIFE.of v.toNat = 0 → Takes (.fragFlush w C v) b (b.refuse w (R.CLS_FRAG_CFG C))) ∧
    (F.CLS_FRAG_CFG_FRAG_LIFE.of v.toNat ≠ 0 → F.CLS_FRAG_CFG_FLUSH.of v.toNat = 1 →
      TakesTo (.fragFlush w C v) b fun t =>
        (t.cluster C).frags = [] ∧ t.flag (R.CLS_FRAG_STATUS C) F.CLS_FRAG_STATUS_FLUSH_BUSY = true ∧
        t.fld (R.CLS_FRAG_CFG C) F.CLS_FRAG_CFG_FRAG_LIFE = F.CLS_FRAG_CFG_FRAG_LIFE.of v.toNat ∧
        (∀ c, c ≠ C.val → t.cluster c = b.cluster c)) ∧
    (F.CLS_FRAG_CFG_FRAG_LIFE.of v.toNat ≠ 0 → F.CLS_FRAG_CFG_FLUSH.of v.toNat = 0 →
      Takes (.fragFlush w C v) b ((b.fragExpire C).storeReg w (R.CLS_FRAG_CFG C) v.toNat))) ∧
  (∀ (b : Block) (C : Fin 32),
    TakesTo (.fragFlushDone C) b fun t =>
      t.flag (R.CLS_FRAG_STATUS C) F.CLS_FRAG_STATUS_FLUSH_BUSY = false ∧ t = { b with regs := t.regs } ∧
      ∀ a, a ≠ R.CLS_FRAG_STATUS C → t.word a = b.word a))

/-! ## Parse microcode (spec/05) -/

/-- The layout of Table 5-2 loses nothing: a word's fields are read back as they were laid out, and laying out the fields that a
word reads as gives the word. -/
def Obligations.MicrowordsDecodeAsEncoded : Prop :=
  (∀ m : Micro, Micro.decode m.encode = m) ∧ ∀ w : BitVec 192, (Micro.decode w).encode = w

/-- The ALU words of Table 5-4: result = A op B modulo 2^32, with A as AUX[2:0] selects it and B the word's VALUE; shifts by
VALUE[4:0]. The result goes through DST and the header-vector write, the step count takes one, and the routine goes on at T0 where
the result and MASK have no bit in common, else at T1. Nothing else changes but the handshakes counted. Each of the eight completes
under the hypotheses on the block and the operands alone. -/
def Obligations.AluWordsComputeModuloTwoTo32 : Prop :=
  ∀ (b : Block) (C : Fin 32) (k : Fin 64) (x : Ctx) (m : Micro),
    b.ctx C k = x → x.frame.isSome → b.microAt C x.pc = m →
    let a : Nat := if m.aux.toNat % 8 = 1 then x.x else if m.aux.toNat % 8 = 2 then x.y else if m.aux.toNat % 8 = 3 then x.cur else 0
    let s : Nat := m.value.toNat % 32
    let after (r : BitVec 32) : Block :=
      (b.setCtx C k { ((x.putDst m.dst.toNat r.toNat).hvWrite x m r.toNat).stepBy 1 with
        pc := if r &&& m.mask = 0 then m.t0.toNat else m.t1.toNat }).hands C 1
    (m.kind = .add → Takes (.aluAdd C k) b (after (BitVec.ofNat 32 a + m.value))) ∧
    (m.kind = .sub → Takes (.aluSub C k) b (after (BitVec.ofNat 32 a - m.value))) ∧
    (m.kind = .and → Takes (.aluAnd C k) b (after (BitVec.ofNat 32 a &&& m.value))) ∧
    (m.kind = .or → Takes (.aluOr C k) b (after (BitVec.ofNat 32 a ||| m.value))) ∧
    (m.kind = .xor → Takes (.aluXor C k) b (after (BitVec.ofNat 32 a ^^^ m.value))) ∧
    (m.kind = .shl → Takes (.aluShl C k) b (after (BitVec.ofNat 32 a <<< s))) ∧
    (m.kind = .shr → Takes (.aluShr C k) b (after (BitVec.ofNat 32 (a >>> s)))) ∧
    (m.kind = .move → Takes (.aluMove C k) b (after m.value))

/-- The words that read the window: EXT compares the extracted field with VALUE under MASK, ADV moves CUR on by the field shifted
left by AUX[2:0] and VALUE[8:0], clamped at 256, and goes on at T0 while CUR lies inside the window, DISPATCH jumps to T0 plus the
field's low bits under MASK[3:0], modulo 4,096. A field that touches a byte at or beyond the window's end sets OVR. The BRANCH
words go to T0 where their condition holds (always; OVR is set; X = Y; X < Y), else to T1, and change nothing else of the context;
the CSUM words put into X the one's-complement sum of L bytes of the window, read as zero beyond its end, which sets OVR, alone or
onto X[15:0], and cost a step for each 32 bytes begun. Each of the ten completes under the hypotheses on the block and the operands
alone. -/
def Obligations.WindowBranchAndChecksumWordsGoOn : Prop :=
  (∀ (b : Block) (C : Fin 32) (k : Fin 64) (x : Ctx) (m : Micro) (i : Nat),
    b.ctx C k = x → x.frame = some i → b.microAt C x.pc = m →
    let bytes := (b.frame i).bytes
    let len := min 256 bytes.length
    let off := m.offset.toNat + (if m.rel = 1 then x.cur else 0)
    let n := m.width.toNat + 1
    let v := beAt (bytes.take len) off 5 / 2 ^ (40 - m.bitoff.toNat - n) % 2 ^ n
    let x1 : Ctx := { x with ovr := x.ovr || decide (len ≤ (8 * off + m.bitoff.toNat + n - 1) / 8) }
    let after (y : Ctx) (pc : Nat) : Block := (b.setCtx C k { y.stepBy 1 with pc := pc }).hands C 1
    (m.kind = .extEq → Takes (.extEq C k) b (after ((x1.putDst m.dst.toNat v).hvWrite x m v)
      (if v &&& m.mask.toNat = m.value.toNat &&& m.mask.toNat then m.t0.toNat else m.t1.toNat))) ∧
    (m.kind = .extLt → Takes (.extLt C k) b (after ((x1.putDst m.dst.toNat v).hvWrite x m v)
      (if v &&& m.mask.toNat < m.value.toNat &&& m.mask.toNat then m.t0.toNat else m.t1.toNat))) ∧
    (m.kind = .adv →
      let cur := x.cur + v * 2 ^ (m.aux.toNat % 8) + m.value.toNat % 512
      let y : Ctx := { x1 with cur := min 256 cur, ovr := x1.ovr || decide (256 < cur) }
      Takes (.adv C k) b (after (y.hvWrite x m y.cur) (if y.cur < len then m.t0.toNat else m.t1.toNat))) ∧
    (m.kind = .dispatch →
      Takes (.dispatch C k) b (after x1 ((m.t0.toNat + (v &&& m.mask.toNat % 16)) % 4096)))) ∧
  (∀ (b : Block) (C : Fin 32) (k : Fin 64) (x : Ctx) (m : Micro) (i : Nat),
    b.ctx C k = x → x.frame = some i → b.microAt C x.pc = m →
    let bytes := (b.frame i).bytes
    let len := min 256 bytes.length
    let off := m.offset.toNat + (if m.rel = 1 then x.cur else 0)
    let branch (c : Bool) : Block :=
      (b.setCtx C k { x.stepBy 1 with pc := if c then m.t0.toNat else m.t1.toNat }).hands C 1
    let l := if m.value.toNat % 512 = 0 then 256 else m.value.toNat % 512
    let summed (start : Nat) : Block :=
      let r := fold16 (sum16 (((bytes.take len ++ zeros 1024).drop off).take l) + start)
      let y : Ctx := ({ x with x := r, ovr := x.ovr || decide (len < off + l) }).hvWrite x m r
      (b.setCtx C k { y.stepBy ((l + 31) / 32) with pc := if r = 0xFFFF then m.t0.toNat else m.t1.toNat }).hands C ((l + 31) / 32)
    (m.kind = .branch → Takes (.branch C k) b (branch true)) ∧
    (m.kind = .branchOvr → Takes (.branchOvr C k) b (branch x.ovr)) ∧
    (m.kind = .branchEq → Takes (.branchEq C k) b (branch (x.x = x.y))) ∧
    (m.kind = .branchLt → Takes (.branchLt C k) b (branch (x.x < x.y))) ∧
    (m.kind = .csum → Takes (.csum C k) b (summed 0)) ∧
    (m.kind = .csumContinue → Takes (.csumContinue C k) b (summed (x.x % 65536))))

/-- CHECK (R160): the first pending request in the order HOLD, LIMIT, ABORT acts; with none the routine goes on at T0. HOLD
discards the frame and parks the context, LIMIT and ABORT end the routine with parse failure 4 and count. It completes under the
hypotheses on the block and the operands alone. -/
def Obligations.CheckActsOnTheFirstRequest : Prop :=
  ∀ (b : Block) (C : Fin 32) (k : Fin 64) (x : Ctx) (m : Micro) (i : Nat),
    b.ctx C k = x → x.frame = some i → b.microAt C x.pc = m → m.kind = .check →
    let b1 := b.hands C 1
    let limit := b.fld (R.CLS_ME_CFG C) F.CLS_ME_CFG_STEP_LIMIT
    let fails (b2 : Block) : Block :=
      ((b2.setCtx C k {}).modFrame i fun f => { f with hv := Vec.put f.hv 0 ⟨23, 20⟩ 4 }).classify i 0
    Takes (.check C k) b
      (if b.holdPending C then
        (((b1.setCtx C k {}).dropFrame i).count (R.DIE_HOLD_DROP (C / 8)) 1).modDie (C / 8) fun y => { y with dropped := y.dropped + 1 }
      else if limit ≤ min 4095 (x.steps + 1) then fails ((b1.count (R.CLS_ME_LIMIT C) 1).sendOncePerMs 0xB C 0x29 0)
      else if x.abort then fails (b1.count (R.CLS_ME_ABORT C) 1)
      else b1.setCtx C k { x.stepBy 1 with pc := m.t0.toNat })

/-- END, FAIL and the illegal word (R159 to R161): HOLD acts first where it is pending; else END writes the vector back with HV0.ME
set, END OP 1 with HV0.MAL too, FAIL with parse failure 3 (1 for OP 1), and an illegal word ends the routine with parse failure 4,
nothing written back, its address in UCODE_ILLEGAL's ADDR. CONTEXT_START (R22, R153): while the die is not held, the lowest free
context k takes the frame i that waits at unit u, the first unit after the one served last at which one waits, with PC at its
entry, CUR from HV3[8:0], one step and the frame's vector; ABORT (R163) raises the request for every context of the cluster;
REDIGEST sets DIGEST_BUSY, and its end puts the store's digest into CS_DIGEST_NOW and clears it; a write of CS_RD_ADDR latches the
addressed word, 32 bits at a time (R169, R173). Each of the ten completes under the hypotheses on the block and the operands alone.
-/
def Obligations.RoutinesStartAndEndAsTheirWordsSay : Prop :=
  (∀ (b : Block) (C : Fin 32) (k : Fin 64) (x : Ctx) (m : Micro) (i : Nat),
    b.ctx C k = x → x.frame = some i → b.microAt C x.pc = m →
    let b1 := b.hands C 1
    let parked (b2 : Block) : Block :=
      (((b2.setCtx C k {}).dropFrame i).count (R.DIE_HOLD_DROP (C / 8)) 1).modDie (C / 8) fun y => { y with dropped := y.dropped + 1 }
    let ends (cnt sub : Nat) (hv : Vec) : Block :=
      if b.holdPending C then parked b1
      else (((b1.count cnt 1).setCtx C k {}).modFrame i fun f => { f with hv := hv }).classify i sub
    let me : Vec := Vec.put x.vec 0 ⟨31, 31⟩ 1
    (m.kind = .end_ → Takes (.endRoutine C k) b (ends (R.CLS_ME_END C) 0 me)) ∧
    (m.kind = .endMal → Takes (.endMal C k) b (ends (R.CLS_ME_END C) 0 (Vec.put me 0 ⟨19, 16⟩ (m.aux.toNat % 16)))) ∧
    (m.kind = .fail → Takes (.failRoutine C k) b (ends (R.CLS_ME_FAIL C) m.aux.toNat (Vec.put x.vec 0 ⟨23, 20⟩ 3))) ∧
    (m.kind = .failWindow → Takes (.failWindow C k) b (ends (R.CLS_ME_FAIL C) 0 (Vec.put x.vec 0 ⟨23, 20⟩ 1))) ∧
    (m.kind = .illegal → Takes (.illegalWord C k) b
      (if b.holdPending C then parked b
       else ((((b.count (R.CLS_ME_ILLEGAL C) 1).sendOncePerMs 0xB C 0x28 x.pc).setCtx C k {}).modFrame i fun f =>
         { f with hv := Vec.put f.hv 0 ⟨23, 20⟩ 4 }).classify i 0))) ∧
  ((∀ (b : Block) (C : Fin 32) (k u i entry : Nat),
    b.frozen (C / 8) = false →
    (List.range 64).find? (fun n => (b.ctx C n).frame.isNone) = some k →
    ((List.range 8).map fun n => ((b.cluster C).lastUnit + 1 + n) % 8).findSome?
      (fun v => (b.waitingAt (8 * C + v)).map fun e => (v, e)) = some (u, i, entry) →
    Takes (.contextStart C) b
      (((((b.setCtx C k { frame := some i, pc := entry, cur := Vec.f (b.frame i).hv 3 ⟨8, 0⟩, steps := 1, vec := (b.frame i).hv
          }).modCluster C fun c => { c with lastUnit := u }).modFrame i fun f => { f with me := .running }).count
        (R.CLS_ME_STARTS C) 1).count (R.CLS_ME_HANDSHAKES C) 1 |>.pmc (.cls C) 0x03 0xFFF 1)) ∧
  (∀ (b : Block) (C : Fin 32) (v : BitVec 32), b.reaches .host .cls →
    TakesTo (.abort C v) b fun t =>
      (F.CLS_ME_CTRL_ABORT.of v.toNat = 1 → ∀ e ∈ (t.cluster C).ctxs, e.2.abort = true) ∧
      (F.CLS_ME_CTRL_ABORT.of v.toNat = 0 → t = b) ∧
      (t.cluster C).ctxs.map (fun e => (e.1, { e.2 with abort := true })) =
        (b.cluster C).ctxs.map (fun e => (e.1, { e.2 with abort := true })) ∧ t = { b with clusters := t.clusters }) ∧
  (∀ (b : Block) (C : Fin 32) (v : BitVec 32), b.reaches .host .cls → F.CLS_CS_CTRL_REDIGEST.of v.toNat = 1 →
    TakesTo (.redigest C v) b fun t =>
      t.flag (R.CLS_CS_STATUS C) F.CLS_CS_STATUS_DIGEST_BUSY = true ∧ t = { b with regs := t.regs } ∧
      ∀ a, a ≠ R.CLS_CS_STATUS C → t.word a = b.word a) ∧
  (∀ (b : Block) (C : Fin 32), b.flag (R.CLS_CS_STATUS C) F.CLS_CS_STATUS_DIGEST_BUSY →
    TakesTo (.redigestDone C) b fun t =>
      t.flag (R.CLS_CS_STATUS C) F.CLS_CS_STATUS_DIGEST_BUSY = false ∧
      t.ctr (R.CLS_CS_DIGEST_NOW C) = b.storeDigest C % 2 ^ 64 ∧ t = { b with regs := t.regs, ctrs := t.ctrs } ∧
      (∀ a, a ≠ R.CLS_CS_STATUS C → t.word a = b.word a) ∧ ∀ a, a ≠ R.CLS_CS_DIGEST_NOW C → t.ctr a = b.ctr a) ∧
  (∀ (b : Block) (w : Writer) (C : Fin 32) (v : BitVec 32), b.reaches w .cls →
    TakesTo (.csRdAddr w C v) b fun t =>
      (∀ j : Fin 6, t.word (R.CLS_CS_RD_DATA C j) =
        SMap.get 0 (b.cluster C).store (F.CLS_CS_RD_ADDR_ADDR.of v.toNat) / 2 ^ (32 * j.val) % 2 ^ 32) ∧ t.clusters = b.clusters))

/-! ## The lookup sequence (spec/06) -/

/-- LOOKUP_S0 to LOOKUP_S6 (R175). A stage of a pipe takes the oldest frame that waits for it, runs, and passes that frame on to
the next stage, with its bytes as they are; every other frame, every register, the source FIFOs and what waits for the host stay.
On a held die, and with no frame waiting, it does nothing. At S1 to S4 the banks must have served every read of the frame's search
(R201, R249): while one has yet to, the frame stays at its stage with its record as it was, and the reads served are no longer
waiting. Each of the seven completes on every block. -/
def Obligations.StagesPassFramesOnInOrder : Prop :=
  ∀ (b : Block) (p : Fin 256) (x : Nat × Instr × (Frame → List Ask)),
    x ∈ [(0, .lookupS0 p, fun _ => []), (1, .lookupS1 p, b.s1Asks), (2, .lookupS2 p, b.s2Asks), (3, .lookupS3 p, b.s3Asks),
         (4, .lookupS4 p, b.s4Asks), (5, .lookupS5 p, fun _ => []), (6, Instr.lookupS6 p, fun _ => [])] →
    (b.frozen (dieOfPort p) = true ∨ b.atStage p x.1 = none → Takes x.2.1 b b) ∧
    (∀ (i : Nat) (f : Frame), b.frozen (dieOfPort p) = false → b.atStage p x.1 = some (i, f) → b.frame i = f →
      (x.1 ∈ [1, 2, 3, 4] → (b.askAll i (x.2.2 f)).1 = false →
        TakesTo x.2.1 b fun t =>
          t.frame i = { f with asks := (t.frame i).asks } ∧ (t.frame i).asks ≠ none ∧ (∀ j, j ≠ i → t.frame j = b.frame j) ∧
          t.regs = b.regs ∧ t.slow = b.slow ∧ t.fifos = b.fifos ∧ t.engines = b.engines) ∧
      (x.1 ∈ [0, 5, 6] ∨ (b.askAll i (x.2.2 f)).1 = true → TakesTo x.2.1 b fun t =>
        (t.frame i).stage = x.1 + 1 ∧ (t.frame i).bytes = f.bytes ∧ (t.frame i).hv = f.hv ∧ (t.frame i).loc = f.loc ∧
        (∀ j, j ≠ i → t.frame j = b.frame j) ∧ t.regs = b.regs ∧ t.slow = b.slow ∧ t.fifos = b.fifos))

/-- What S0 to S4 find (R176, R183, R184, R186). S0 merges the PORT_VLAN entry of the frame's port and VID; a hit of S1, S2 or S3
merges its template with the entry's destination into the record, sets the stage's hit bit, and a HOST hit wins over the LPM; a
miss counts and drops the frame, sends it to the host, or leaves it, as MISS_CFG says; S4 merges the hit of a rule group, a lower
group's after a higher one's, so that the lower wins. A frame whose classification has ended passes S1 to S4 unchanged. (The stage
runs when the banks have served the reads of the search.) Each of LOOKUP_S0 to LOOKUP_S4 completes under the hypotheses on the
block alone. -/
def Obligations.SearchStagesMergeWhatTheyFind : Prop :=
  ∀ (b : Block) (p : Fin 256) (i : Nat) (f : Frame),
    b.frozen (dieOfPort p) = false → b.frame i = f → f.port = p.val →
    let d := dieOfPort p
    let G := rgnOfPort p
    let passes (n : Nat) : Block := b.modFrame i fun x => { x with stage := n + 1 }
    let served (l : List Ask) : Prop := (b.askAll i l).1 = true
    let misses (n m reason : Nat) (x : Frame) (t : Block) : Prop :=
      t.frame i = (match m with
        | 1 => { x with stage := n + 1, rec_ := Vec.put f.rec_ 0 D.act 1, asks := none }
        | 2 => { x with stage := n + 1, reason := reason, asks := none }
        | _ => { x with stage := n + 1, asks := none })
    (b.atStage p 0 = some (i, f) →
      let e := b.entry d T.portVlan (localPort p * 4096 + b.s0Vid f)
      TakesTo (.lookupS0 p) b fun t =>
        (t.frame i).rec_ = mergeRec ingressGroups [] (portVlanRec e) ∧ (t.frame i).epoch = (b.engine d).epoch ∧
        Vec.f (t.frame i).carry 0 ⟨24, 24⟩ = 1 ∧ Vec.f (t.frame i).carry 3 Cy.vrf = Vec.f e 8 Cy.vrf ∧
        Vec.f (t.frame i).carry 3 Cy.bd = Vec.f e 8 Cy.bd ∧ Vec.f (t.frame i).carry 3 Cy.aclSet = Vec.f e 8 Cy.aclSet) ∧
    (b.atStage p 1 = some (i, f) →
      (f.over = true ∨ b.s1Key f = none → f.asks = none → Takes (.lookupS1 p) b (passes 1)) ∧
      ∀ label two key, f.over = false → b.s1Key f = some (label, two, key) → served (b.s1Asks f) →
        (∀ s x, b.emFind d T.tunnel two key = some (s, x) →
          TakesTo (.lookupS1 p) b fun t =>
            let m := b.template d x.tmpl x.fwdKind x.fwdIdx
            (t.frame i).rec_ = (let r := mergeRec (ingressGroups ++ [12]) f.rec_ m.1
              if bitOf m.1.ovr 12 && m.1.w.f 0 D.term == 1 then r.put 2 D.decapOff (decapOff label f.hv) else r) ∧
            (t.frame i).label = label ∧ Vec.f (t.frame i).carry 0 ⟨25, 25⟩ = 1 ∧
            (t.frame i).reason = f.reason) ∧
        (b.emFind d T.tunnel two key = none →
          TakesTo (.lookupS1 p) b fun t =>
            (if label then t.ctrs = (b.count (R.RGN_MISS_LABEL G) 1).ctrs ∧
                misses 1 (b.fld (R.RGN_MISS_CFG G) F.RGN_MISS_CFG_LABEL) 13 { f with label := label } t
              else t.ctrs = (b.count (R.RGN_MISS_TUNNEL G) 1).ctrs ∧
                misses 1 (b.fld (R.RGN_MISS_CFG G) F.RGN_MISS_CFG_TUNNEL) 10 { f with label := label } t) ∧
            t.engines = b.engines)) ∧
    (b.atStage p 2 = some (i, f) →
      (f.over = true → f.asks = none → Takes (.lookupS2 p) b (passes 2)) ∧
      (f.over = false → served (b.s2Asks f) →
        let o := if Vec.f f.rec_ 0 D.term == 1 && !f.label && present f.hv 18 then 44 else 5
        let bd := Vec.f f.carry 3 Cy.bd
        let dst := bd * 2 ^ 48 + Vec.w f.hv o * 2 ^ 16 + Vec.f f.hv (o + 1) ⟨31, 16⟩
        let src := bd * 2 ^ 48 + Vec.f f.hv (o + 1) ⟨15, 0⟩ * 2 ^ 32 + Vec.w f.hv (o + 2)
        (∀ s x, b.emFind d T.l2 false dst = some (s, x) →
          TakesTo (.lookupS2 p) b fun t =>
            let m := b.template d x.tmpl x.fwdKind x.fwdIdx
            (t.frame i).rec_ = mergeRec ingressGroups f.rec_ m.1 ∧ (t.frame i).reason = f.reason ∧
            Vec.f (t.frame i).carry 0 ⟨26, 26⟩ = 1 ∧ Vec.f (t.frame i).carry 3 Cy.route = Vec.f m.2 5 ⟨7, 7⟩) ∧
        (b.emFind d T.l2 false dst = none →
          TakesTo (.lookupS2 p) b fun t => misses 2 (b.fld (R.RGN_MISS_CFG G) F.RGN_MISS_CFG_L2) 11 f t) ∧
        (b.emFind d T.l2 false src = none → b.flag (R.PRT_LEARN_CFG p) F.PRT_LEARN_CFG_LEARN_EN = true → f.host = none →
          (∀ q, .cand src q ∉ (b.engine d).glQueue) → (b.engine d).glQueue.length < 4096 →
          TakesTo (.lookupS2 p) b fun t =>
            t.engine d = { b.engine d with glQueue := (b.engine d).glQueue ++ [.cand src p] } ∧
            ∀ e, e ≠ d → t.engine e = b.engine e))) ∧
    (b.atStage p 3 = some (i, f) →
      (f.over = true ∨ Vec.f f.carry 3 Cy.route = 0 ∨ s3Addr (Vec.f f.rec_ 0 D.term == 1) f.hv = none →
        f.asks = none → Takes (.lookupS3 p) b (passes 3)) ∧
      ∀ fam da, f.over = false → Vec.f f.carry 3 Cy.route ≠ 0 → s3Addr (Vec.f f.rec_ 0 D.term == 1) f.hv = some (fam, da) →
        served (b.s3Asks f) →
        let vrf := Vec.f f.carry 3 Cy.vrf
        let host := b.emFind d T.host (fam == 1) (if fam = 1 then (2 ^ 12 + vrf) * 2 ^ 128 + da else vrf * 2 ^ 32 + da)
        let lpm := (b.lpmSearch d fam vrf (if fam = 1 then da else da * 2 ^ 96)).1
        (∀ s x, host = some (s, x) →
          TakesTo (.lookupS3 p) b fun t =>
            (t.frame i).rec_ = mergeRec ingressGroups f.rec_ (b.template d x.tmpl x.fwdKind x.fwdIdx).1 ∧
            Vec.f (t.frame i).carry 0 ⟨27, 27⟩ = 1 ∧ (t.frame i).reason = f.reason) ∧
        (∀ e x, host = none → lpm = some (e, x) →
          TakesTo (.lookupS3 p) b fun t =>
            (t.frame i).rec_ = mergeRec ingressGroups f.rec_
              (b.template e (Vec.f x.action 0 ⟨31, 26⟩) (Vec.f x.action 0 ⟨25, 24⟩) (Vec.f x.action 0 ⟨23, 6⟩)).1 ∧
            Vec.f (t.frame i).carry 0 ⟨27, 27⟩ = 1 ∧ t.engines = b.engines) ∧
        (host = none → lpm = none →
          TakesTo (.lookupS3 p) b fun t =>
            misses 3 (b.fld (R.RGN_MISS_CFG G) F.RGN_MISS_CFG_L3) 12 f t ∧ t.engines = b.engines)) ∧
    (b.atStage p 4 = some (i, f) →
      let C := clsOfPort p
      let v := b.word (R.CLS_ACL_SET C (Vec.f f.carry 3 Cy.aclSet))
      (f.over = true ∨ (∀ n, n < 4 → aclEn v n = false) → f.asks = none → Takes (.lookupS4 p) b (passes 4)) ∧
      (∀ n a, f.over = false → served (b.s4Asks f) → n < 4 → (∀ k, k < 4 → (aclEn v k = true ↔ k = n)) →
        (b.aclGroup f C n (aclProf v n)).1 = some a →
        TakesTo (.lookupS4 p) b fun t =>
          (t.frame i).rec_ = mergeRec ingressGroups f.rec_ a.aclRec ∧ Vec.f (t.frame i).carry 0 ⟨28, 28⟩ = 1) ∧
      (∀ n, f.over = false → served (b.s4Asks f) → n < 4 → (∀ k, k < 4 → (aclEn v k = true ↔ k = n)) →
        (b.aclGroup f C n (aclProf v n)).1 = none →
        TakesTo (.lookupS4 p) b fun t => t.frame i = { f with stage := 5, asks := none }) ∧
      (∀ n m a c, f.over = false → served (b.s4Asks f) → n < m → m < 4 → (∀ k, k < 4 → (aclEn v k = true ↔ k = n ∨ k = m)) →
        (b.aclGroup f C n (aclProf v n)).1 = some a → (b.aclGroup f C m (aclProf v m)).1 = some c →
        TakesTo (.lookupS4 p) b fun t =>
          (t.frame i).rec_ = mergeRec ingressGroups (mergeRec ingressGroups f.rec_ c.aclRec) a.aclRec))

/-- What S5 and S6 do to a frame (R185, R259 to R264, R142, R143, R334 to R337, R505). A NEXTHOP entry gives the egress port and
the rewrite index, drops the frame, or sends it to the host; one that is not valid drops it; ECMP takes the member that the hash
picks; MCAST takes the group with the frame; a frame with no destination drops. A later fragment takes the stored result of its
entry, or goes to the host where there is none yet. S6 colours the frame by its policer's buckets, may drop it, and counts it. Both
complete under the hypotheses on the block alone. -/
def Obligations.ResolutionAndMetering : Prop :=
  ∀ (b : Block) (p : Fin 256) (i : Nat) (f : Frame),
    b.frozen (dieOfPort p) = false → b.frame i = f → f.port = p.val →
    let d := dieOfPort p
    let G := rgnOfPort p
    let kind := Vec.f f.rec_ 0 D.fwdKind
    let x := Vec.f f.rec_ 1 D.fwdIdx
    let r := Vec.put f.rec_ 0 D.resolved 1
    let on : Frame := { f with stage := 6, rec_ := r, carry := setHit f.carry 5 }
    let gone (y : Frame) : Frame := { y with rec_ := Vec.put y.rec_ 0 D.act 1, dropBy := 1 }
    let hops (e : Vec) : Frame :=
      if Vec.f e 0 ⟨31, 31⟩ = 0 then gone on
      else match Vec.f e 0 ⟨30, 29⟩ with
        | 0 => { on with rec_ := (Vec.put r 0 D.egPort (Vec.f e 0 ⟨25, 18⟩)).put 2 D.rewriteIdx (Vec.f e 0 ⟨17, 0⟩) }
        | 1 => { on with rec_ := Vec.put r 0 D.act 1 }
        | _ => { on with rec_ := (Vec.put r 0 D.act 2).put 0 D.hostCode (Vec.f e 1 ⟨31, 24⟩) }
    (b.atStage p 5 = some (i, f) → f.fragSlot = none → f.fragUse = false →
      (f.over = true → Takes (.lookupS5 p) b (b.modFrame i fun y => { y with stage := 6 })) ∧
      (f.over = false → kind = 3 →
        TakesTo (.lookupS5 p) b fun t =>
          t.frame i = if Vec.f f.rec_ 0 D.act = 0 then gone { f with stage := 6 } else { f with stage := 6 }) ∧
      (f.over = false → kind = 0 →
        TakesTo (.lookupS5 p) b fun t => t.frame i = hops (b.entry d T.nexthop x) ∧ t = { b with frames := t.frames }) ∧
      (f.over = false → kind = 1 →
        let e := b.entry d T.ecmp x
        let h := h16 (beBytes 4 (b.word (R.RGN_ECMP_SEED G)) ++ ecmpBytes (b.word (R.RGN_ECMP_HASH G)) p f.hv (Vec.f f.rec_ 0 D.term == 1))
        let m := Vec.f e 0 ⟨17, 0⟩ + h * (Vec.f e 0 ⟨26, 18⟩ + 1) / 65536
        TakesTo (.lookupS5 p) b fun t =>
          t.frame i = (if Vec.f e 0 ⟨31, 31⟩ = 0 then gone on
            else hops (b.entry d T.nexthop (Vec.f (b.entry d T.ecmp (2 ^ 19 + m)) 0 ⟨17, 0⟩))) ∧ t = { b with frames := t.frames }) ∧
      (f.over = false → kind = 2 →
        let e := b.entry d T.mcast x
        TakesTo (.lookupS5 p) b fun t =>
          t.frame i = (if Vec.f e 0 ⟨31, 31⟩ = 0 ∨ (List.range 8).all (fun g => mcCount e g == 0) = true then gone on else { on with group := e }) ∧
          t = { b with frames := t.frames })) ∧
    (b.atStage p 5 = some (i, f) → f.fragSlot = none → f.fragUse = true → f.over = true →
      (∀ e ∈ (b.cluster (clsOfPort p)).frags, (b.ticks - e.2.born) / 1000 < b.fragLife (clsOfPort p)) →
      let found := (b.fragFind (clsOfPort p) f.fragV6 f.fragKey).bind fun s => SMap.find (b.cluster (clsOfPort p)).frags s
      (found = none → TakesTo (.lookupS5 p) b fun t =>
        (t.frame i).reason = 8 ∧ t.ctrs = (b.count (R.CLS_FRAG_MISS (clsOfPort p)) 1).ctrs) ∧
      (∀ e, found = some e → e.pending = true → TakesTo (.lookupS5 p) b fun t =>
        (t.frame i).reason = 9 ∧ t.ctrs = (b.count (R.CLS_FRAG_PENDING (clsOfPort p)) 1).ctrs) ∧
      (∀ e, found = some e → e.pending = false → Vec.f e.result 0 D.fwdKind ≠ 2 → TakesTo (.lookupS5 p) b fun t =>
        t.frame i = { f with stage := 6, rec_ := e.result, reason := 0, dropBy := 0, fragRes := true, group := [] } ∧
        t.ctrs = (b.count (R.CLS_FRAG_HIT (clsOfPort p)) 1).ctrs)) ∧
    (b.atStage p 6 = some (i, f) →
      (Vec.f f.rec_ 3 D.policeEn = 0 → Vec.f f.rec_ 3 D.countEn = 0 →
        Takes (.lookupS6 p) b (b.modFrame i fun y => { y with stage := 7 })) ∧
      (Vec.f f.rec_ 3 D.policeEn = 0 → Vec.f f.rec_ 3 D.countEn = 1 →
        let c := SMap.get {} (b.region G).pairs (Vec.f f.rec_ 4 D.counterIdx)
        TakesTo (.lookupS6 p) b fun t =>
          SMap.get {} (t.region G).pairs (Vec.f f.rec_ 4 D.counterIdx)
            = { c with packets := (c.packets + 1) % 2 ^ 64, bytes := (c.bytes + f.bytes.length) % 2 ^ 64 } ∧
          t.frame i = { f with stage := 7, carry := setHit f.carry 6 } ∧ t.ctrs = b.ctrs) ∧
      (Vec.f f.rec_ 3 D.policeEn = 1 → Vec.f f.rec_ 3 D.countEn = 0 →
        let y := Vec.f f.rec_ 3 D.policerIdx
        let e := b.entry (G / 2) T.policer y
        let k := b.polNow G y
        let need := max 1 ((f.bytes.length : Int) + signed 8 (Vec.f e 0 ⟨23, 16⟩)).toNat * 8000
        let col := meter (Vec.f e 0 ⟨30, 30⟩) (if Vec.f e 0 ⟨29, 29⟩ = 0 then 0 else min 2 (Vec.f f.rec_ 1 D.colour)) k.c k.p need
        TakesTo (.lookupS6 p) b fun t =>
          (Vec.f e 0 ⟨31, 31⟩ = 0 →
            t.frame i = { f with stage := 7, carry := setHit f.carry 6 } ∧ t.ctrs = (b.count (R.RGN_POL_INVALID G) 1).ctrs ∧
            t.regions = b.regions) ∧
          (Vec.f e 0 ⟨31, 31⟩ = 1 →
            SMap.get {} (t.region G).pol y = { k with c := col.2.1, p := col.2.2 } ∧
            Vec.f (t.frame i).rec_ 1 D.colour = col.1 ∧
            ((col.1 = 2 ∧ Vec.f e 0 ⟨28, 28⟩ = 1) ∨ (col.1 = 1 ∧ Vec.f e 0 ⟨27, 27⟩ = 1) → Vec.f f.rec_ 0 D.act ≠ 1 →
              (t.frame i).dropBy = 2 ∧ (t.frame i).reason = 0 ∧ Vec.f (t.frame i).rec_ 0 D.act = 1) ∧
            (¬ ((col.1 = 2 ∧ Vec.f e 0 ⟨28, 28⟩ = 1) ∨ (col.1 = 1 ∧ Vec.f e 0 ⟨27, 27⟩ = 1)) →
              (t.frame i).dropBy = f.dropBy ∧ (t.frame i).reason = f.reason ∧
              Vec.f (t.frame i).rec_ 0 D.act = Vec.f f.rec_ 0 D.act))))

/-- LOOKUP_S7 and LL_WAIT_END (R185, R284, R286, R47). A frame for a held die alone is dropped and counted; one for a live region
enters the source FIFO toward it, as its descriptor stands, while that FIFO has 32 KiB free; with less, a frame of a lossless CLASS
needs 16 KiB and else waits in its pipe, and any other is dropped and counted. A frame whose ACT is DROP is dropped and counted
once. While a frame of the port waits, S7 takes none; the wait ends when the FIFO has the room. Both complete under the hypotheses
on the block alone. -/
def Obligations.FramesEnterTheSourceFifosOrWait : Prop :=
  ∀ (b : Block) (p : Fin 256) (i : Nat) (f : Frame),
    b.frozen (dieOfPort p) = false → b.frame i = f → f.port = p.val →
    let d := dieOfPort p
    let G := rgnOfPort p
    let gone (t : Block) : Prop := SMap.find t.frames i = none ∧ ∀ j, j ≠ i → t.frame j = b.frame j
    (∀ r, b.at_ p .llWait = r :: (b.at_ p .llWait).tail → Takes (.lookupS7 p) b b) ∧
    (b.at_ p .llWait = [] → b.atStage p 7 = some (i, f) → f.bytes.length < 2 ^ 14 → Vec.f f.rec_ 1 D.sampleEn = 0 → f.reason = 0 →
      (Vec.f f.rec_ 0 D.act = 1 →
        TakesTo (.lookupS7 p) b fun t => gone t ∧ t.fifos = b.fifos ∧
          (f.dropBy = 0 → t.ctrs = (b.count (R.RGN_ACT_DROP G) 1).ctrs) ∧
          (f.dropBy = 1 → t.ctrs = (b.count (R.RGN_NO_DEST_DROP G) 1).ctrs) ∧ (2 ≤ f.dropBy → t.ctrs = b.ctrs)) ∧
      (Vec.f f.rec_ 0 D.act = 0 → Vec.f f.rec_ 0 D.resolved = 1 → Vec.f f.rec_ 0 D.fwdKind ≠ 2 →
        let eg := Vec.f f.rec_ 0 D.egPort
        let cq := Vec.f (b.entry d T.queueMap (eg * 256 + Vec.f f.rec_ 0 D.class_)) 0 ⟨7, 0⟩
        let H := eg / 32
        let lossless := b.xbLossless d (Vec.f f.rec_ 0 D.class_)
        (b.frozen (H / 2) = true →
          TakesTo (.lookupS7 p) b fun t => gone t ∧ t.fifos = b.fifos ∧ t.ctrs = (b.count (R.RGN_HELD_DROP G (H / 2)) 1).ctrs) ∧
        (b.frozen (H / 2) = false → 32768 ≤ b.fifoFree d H ∨ (16384 ≤ b.fifoFree d H ∧ lossless = true) →
          TakesTo (.lookupS7 p) b fun t => gone t ∧ t.ctrs = b.ctrs ∧
            (∃ k : Pkt, t.fifo d H = b.fifo d H ++ [{ pkt := k }] ∧ k.bytes = f.bytes ∧ k.epoch = f.epoch ∧
              Vec.w k.desc 0 = Vec.w f.rec_ 0 % 2 ^ 32 ∧ Vec.f k.desc 13 D.cq = cq) ∧
            (∀ g, g ≠ H → g < 8 → t.fifo d g = b.fifo d g)) ∧
        (b.frozen (H / 2) = false → b.fifoFree d H < 16384 → lossless = true →
          TakesTo (.lookupS7 p) b fun t => (t.frame i).loc = .llWait ∧ (t.frame i).dests = [H] ∧
            (t.frame i).bytes = f.bytes ∧ t.fifos = b.fifos ∧ ∀ j, j ≠ i → t.frame j = b.frame j) ∧
        (b.frozen (H / 2) = false → b.fifoFree d H < 32768 → lossless = false →
          TakesTo (.lookupS7 p) b fun t => gone t ∧ t.fifos = b.fifos ∧
            t.ctr (R.XEP_OVER_DROP d H) = (b.ctr (R.XEP_OVER_DROP d H) + 1) % 2 ^ 64))) ∧
    (∀ r H, b.at_ p .llWait = (i, f) :: r → f.dests = [H] → H < 8 →
      (32768 ≤ b.fifoFree d H ∨ (16384 ≤ b.fifoFree d H ∧ b.xbLossless d (Vec.f f.desc 0 D.class_) = true) →
        TakesTo (.llWaitEnd p) b fun t => gone t ∧ t.ctrs = b.ctrs ∧
          ∃ k : Pkt, t.fifo d H = b.fifo d H ++ [{ pkt := k }] ∧ k.bytes = f.bytes ∧ k.desc = f.desc) ∧
      (b.fifoFree d H < 16384 → b.xbLossless d (Vec.f f.desc 0 D.class_) = true →
        TakesTo (.llWaitEnd p) b fun t =>
          (t.frame i).loc = .llWait ∧ (t.frame i).dests = [H] ∧ t.fifos = b.fifos)) ∧
    (b.at_ p .llWait = [] → Takes (.llWaitEnd p) b b)

/-! ## Tables and their engine (spec/06 to spec/09) -/

/-- The nine commands of the table engine, TBL_READ to TBL_BAD_OP (R206, R207): each completes on every block that its writer
reaches. While BUSY is set, each is refused. Else, with no pair mirroring, each sets BUSY and joins the operations in flight, last;
nothing else changes. (FENCE, which may take its fence point at once, has a statement of its own for that; here it has an operation
of its requester ahead.) -/
def Obligations.TableCommandsAreAcceptedInOrder : Prop :=
  ∀ (b : Block) (w : Writer) (d : Fin 4) (v : BitVec 32), w ≠ .boot → b.reaches w .tbl →
    (b.flag (R.TBL_CMD_STATUS d) F.TBL_CMD_STATUS_BUSY = true →
      let no := b.refuse w (R.TBL_CMD d)
      Takes (.tblRead w d v) b no ∧ Takes (.tblWrite w d v) b no ∧ Takes (.tblInsert w d v) b no ∧ Takes (.tblDelete w d v) b no ∧
      Takes (.tblSearch w d v) b no ∧ Takes (.moveBlock w d v) b no ∧ Takes (.tblFence w d v) b no ∧ Takes (.tblDigest w d v) b no ∧
      Takes (.tblBadOp w d v) b no) ∧
    (b.flag (R.TBL_CMD_STATUS d) F.TBL_CMD_STATUS_BUSY = false → b.mirroring = false →
      let joins (op : Nat) : Block :=
        (b.raise (R.TBL_CMD_STATUS d) F.TBL_CMD_STATUS_BUSY).modEngine d fun e => { e with ops := e.ops ++ [b.commandOf d op v.toNat] }
      Takes (.tblRead w d v) b (joins 0) ∧ Takes (.tblWrite w d v) b (joins 1) ∧ Takes (.tblInsert w d v) b (joins 2) ∧
      Takes (.tblDelete w d v) b (joins 3) ∧ Takes (.tblSearch w d v) b (joins 4) ∧ Takes (.moveBlock w d v) b (joins 5) ∧
      ((b.engine d).ops.any (fun x => x.via.requester == 0) = true → Takes (.tblFence w d v) b (joins 6)) ∧
      Takes (.tblDigest w d v) b (joins 7) ∧ Takes (.tblBadOp w d v) b (joins (8 + F.TBL_CMD_OPCODE.of v.toNat % 8)))

/-- CMD_COMPLETE (R206, R208, R258, R33). The one operation in flight of die d's command register, which nothing holds back and
whose turn it is beside the Gleaner's, runs and answers: BUSY falls, DONE rises, STATUS tells how it went. A READ of an entry of a
plain direct table answers its words in CMD_DATA and changes no table; a WRITE within the entry's layout and limits stores the
image, and no other entry changes; an index the table does not have, or an image against its layout, changes no table and says so.
It completes under the hypotheses on the block alone. -/
def Obligations.CompletedCommandsReadAndWriteDirectTables : Prop :=
  ∀ (b : Block) (d : Fin 4) (o : TblOp),
    (b.engine d).ops = [o] → o.via = .reg → o.seq = none → o.done = false → o.after = [] →
    b.pair.handing = false → b.pair.promoting = false → b.cmdTurn d = true →
    o.table = T.portVlan ∨ o.table = T.nexthop ∨ o.table = T.ecmp ∨ o.table = T.mcast ∨ o.table = T.rewrite ∨ o.table = T.queueMap →
    let answers (status : Nat) (t : Block) : Prop :=
      t.flag (R.TBL_CMD_STATUS d) F.TBL_CMD_STATUS_BUSY = false ∧ t.flag (R.TBL_CMD_STATUS d) F.TBL_CMD_STATUS_DONE = true ∧
      t.fld (R.TBL_CMD_STATUS d) F.TBL_CMD_STATUS_STATUS = status ∧ (t.engine d).ops = [] ∧ t.regions = b.regions ∧ t.frames = b.frames
    (o.op = 0 → directHas o.table o.index = true →
      TakesTo (.cmdComplete d 0) b fun t =>
        answers S.ok t ∧ (∀ j : Fin 16, t.word (R.TBL_CMD_DATA d j) = Vec.w (b.entry d o.table o.index) j % 2 ^ 32) ∧
        t.engine d = { b.engine d with ops := [], lastGl := false }) ∧
    (o.op = 1 → directHas o.table o.index = true → directOk o.table o.index o.data = true → o.index < 2 ^ 20 →
      TakesTo (.cmdComplete d 0) b fun t =>
        answers S.ok t ∧ t.entry d o.table o.index = o.data ∧
        ∀ k i, k < 16 → i < 2 ^ 20 → (k, i) ≠ (o.table, o.index) → t.entry d k i = b.entry d k i) ∧
    (o.op = 0 ∨ o.op = 1 → directHas o.table o.index = false →
      TakesTo (.cmdComplete d 0) b fun t => answers S.badIndex t ∧ t.engine d = { b.engine d with ops := [], lastGl := false }) ∧
    (o.op = 1 → directHas o.table o.index = true → directOk o.table o.index o.data = false →
      TakesTo (.cmdComplete d 0) b fun t => answers S.badEntry t ∧ t.engine d = { b.engine d with ops := [], lastGl := false })

/-- An INSERT that answers OK without moving an entry (R212, R215) leaves its entry where a search for its key finds it, at the
slot that it answers: kind, template, destination and key as the image gives them, with the age clock in both its stamps (0 for an
entry that the boot sequencer loads, R222). -/
def Obligations.InsertedEntriesAreFoundByTheirKey : Prop :=
  ∀ (b : Block) (d t req : Nat) (v : Vec), 1 ≤ t → t ≤ 3 → insertOk t v = true →
    let r := b.insert d t req v
    r.status = S.ok → r.moves = 0 →
    r.blk.emFind d t (kindTwo (imgKind v)) (imgKey v) = some (r.res, newEntry (b.stampClock d) v)

/-- A DELETE by key (R207) takes the entry off: a completed DELETE of a key that is found frees its slot, and no other slot
changes. The command completes under the hypotheses on the block alone. -/
def Obligations.DeletesByKeyFreeTheSlot : Prop :=
  ∀ (b : Block) (d : Fin 4) (o : TblOp) (s : Nat) (x : EmEntry),
    (b.engine d).ops = [o] → o.via = .reg → o.seq = none → o.done = false → o.after = [] →
    b.pair.handing = false → b.pair.promoting = false → b.cmdTurn d = true → o.op = 3 → 1 ≤ o.table → o.table ≤ 3 →
    keyOk o.table (imgKind o.data) (imgKey o.data) = true →
    b.emFind d o.table (kindTwo (imgKind o.data)) (imgKey o.data) = some (s, x) →
    TakesTo (.cmdComplete d 0) b fun t =>
      t.fld (R.TBL_CMD_STATUS d) F.TBL_CMD_STATUS_STATUS = S.ok ∧
      t.engine d = { b.engine d with em := SMap.del (b.engine d).em s, ops := [], lastGl := false } ∧
      SMap.find (t.engine d).em s = none ∧ ∀ n, n ≠ s → SMap.find (t.engine d).em n = SMap.find (b.engine d).em n

/-- An LPM search answers the first match (R232, R247): a position in the banks of the key's partition whose valid entry matches
family, VRF and the address under its prefix length, with no match at a lower position of those banks. The positions stand in order
in every state that a run reaches (EveryStepKeepsTheTablesInOrder). -/
def Obligations.LpmSearchesAnswerTheFirstMatch : Prop :=
  ∀ (b : Block) (d fam vrf addr first n p : Nat) (a : Assoc),
    SMap.wf {} (b.engine d).lpm = true → b.lpmBanks d fam vrf addr = some (first, n) →
    b.lpmFind d fam vrf addr = some (p, a) →
    let inBanks (x : Nat) : Prop := first * 4096 ≤ x ∧ x < (first + n) * 4096
    SMap.find (b.engine d).lpm p = some a ∧ inBanks p ∧ a.valid = true ∧
    Vec.f a.key 4 ⟨30, 30⟩ = fam ∧ Vec.f a.key 4 ⟨29, 18⟩ = vrf ∧
    lpmAddr a.key / 2 ^ (128 - Vec.f a.key 4 ⟨7, 0⟩) = addr / 2 ^ (128 - Vec.f a.key 4 ⟨7, 0⟩) ∧
    ∀ x c, x < p → inBanks x → SMap.find (b.engine d).lpm x = some c → c.lpmMatch fam vrf addr = false

/-- MOVE_BLOCK downwards (R243): every position from start to end is copied one up, the bottom one first, so that afterwards
position x + 1 holds what x held, and every position outside start + 1 to end + 1 is as it was. -/
def Obligations.BlockMovesShiftEveryEntryByOne : Prop :=
  ∀ (b : Block) (d : Nat) (o : TblOp) (start end_ : Nat),
    o.table = T.lpm ∨ o.table = T.aclOut → o.arg = 0 → Vec.f o.data 0 ⟨17, 0⟩ = end_ → Vec.f o.data 0 ⟨31, 18⟩ = 0 →
    start ≤ end_ → end_ + 1 < assocSize o.table → ((b.engine d).assoc o.table 0 (end_ + 1)).valid = false →
    let r := b.moveBlock d o 0 start
    r.status = S.ok ∧
    (∀ x, start ≤ x → x ≤ end_ → (r.blk.engine d).assoc o.table 0 (x + 1) = (b.engine d).assoc o.table 0 x) ∧
    ∀ x, ¬(start + 1 ≤ x ∧ x ≤ end_ + 1) → (r.blk.engine d).assoc o.table 0 x = (b.engine d).assoc o.table 0 x

/-- EM_TMPL_COMMIT (R205). A commit while one is in progress, or with an ACT that does not exist, is refused; else BUSY rises and
the commit joins the operations in flight with the nine staged words; when it completes, the template named holds them and BUSY
falls. Fences (R194 to R197). A fence issued on a die that is not held, with fewer than three outstanding, is outstanding with the
present epoch, which ends; a fourth is refused; on a held die with none outstanding it completes at once. It completes when nothing
it covers is left, or after LIMIT ms, with TIMEOUT_SEEN and its tag and what is left in the message. Each of the five completes
under the hypotheses on the block and the operands alone. -/
def Obligations.CommitsCopyTheStagedWordsAndFencesEnd : Prop :=
  ((∀ (b : Block) (w : Writer) (d : Fin 4) (v : BitVec 32), b.reaches w .tbl → F.TBL_EM_TMPL_CTRL_COMMIT.of v.toNat = 1 →
    (b.flag (R.TBL_EM_TMPL_CTRL d) F.TBL_EM_TMPL_CTRL_BUSY = true ∨ 4 ≤ b.word (R.TBL_EM_TMPL_STAGE d 0) / 2 ^ 29 →
      Takes (.emTmplCommit w d v) b (b.refuse w (R.TBL_EM_TMPL_CTRL d))) ∧
    (b.flag (R.TBL_EM_TMPL_CTRL d) F.TBL_EM_TMPL_CTRL_BUSY = false → b.word (R.TBL_EM_TMPL_STAGE d 0) / 2 ^ 29 < 4 →
      b.mirroring = false →
      Takes (.emTmplCommit w d v) b ((b.raise (R.TBL_EM_TMPL_CTRL d) F.TBL_EM_TMPL_CTRL_BUSY).modEngine d fun e =>
        { e with ops := e.ops ++ [{ via := .commit, op := 2, index := F.TBL_EM_TMPL_CTRL_INDEX.of v.toNat,
                                    data := Vec.ofList ((List.range 9).map fun j => b.word (R.TBL_EM_TMPL_STAGE d j)) }] }))) ∧
  (∀ (b : Block) (d : Fin 4) (o : TblOp), (b.engine d).ops = [o] → o.via = .commit → o.seq = none → o.done = false → o.after = [] →
    b.pair.handing = false → b.pair.promoting = false → b.cmdTurn d = true → o.index < 64 →
    TakesTo (.cmdComplete d 0) b fun t =>
      (∀ j : Fin 9, t.word (R.TBL_EM_TMPL d o.index j) = Vec.w o.data j % 2 ^ 32) ∧
      t.flag (R.TBL_EM_TMPL_CTRL d) F.TBL_EM_TMPL_CTRL_BUSY = false ∧ t.engine d = { b.engine d with ops := [], lastGl := false })) ∧
  ((∀ (b : Block) (w : Writer) (d : Fin 4) (v : BitVec 32), b.reaches w .tbl → F.TBL_FENCE_ISSUE.of v.toNat = 1 →
    (3 ≤ (b.engine d).fences.length → Takes (.fenceIssue w d v) b (b.refuse w (R.TBL_FENCE d))) ∧
    ((b.engine d).fences.length < 3 → b.frozen d = false →
      TakesTo (.fenceIssue w d v) b fun t =>
        t.engine d = { b.engine d with
          fences := (b.engine d).fences ++ [⟨F.TBL_FENCE_TAG.of v.toNat, b.ticks, (b.engine d).epoch, 0⟩], epoch := (b.engine d).epoch + 1 } ∧
        t.fld (R.TBL_FENCE_STATUS d) F.TBL_FENCE_STATUS_LAST_ISSUED_TAG = F.TBL_FENCE_TAG.of v.toNat ∧
        t.ctr (R.TBL_FENCES_ISSUED d) = (b.ctr (R.TBL_FENCES_ISSUED d) + 1) % 2 ^ 64 ∧
        (∀ a, a ≠ R.TBL_FENCE_STATUS d → t.word a = b.word a)) ∧
    ((b.engine d).fences = [] → b.frozen d = true →
      TakesTo (.fenceIssue w d v) b fun t =>
        t.engine d = { b.engine d with epoch := (b.engine d).epoch + 1 } ∧
        t.fld (R.TBL_FENCE_STATUS d) F.TBL_FENCE_STATUS_LAST_DONE_TAG = F.TBL_FENCE_TAG.of v.toNat ∧
        t.flag (R.TBL_FENCE_STATUS d) F.TBL_FENCE_STATUS_DONE_SEEN = true)) ∧
  (∀ (b : Block) (d : Fin 4) (f : Fence) (r : List Fence), (b.engine d).fences = f :: r → f.inst = 0 → f.tag < 256 →
    let ends (t : Block) : Prop :=
      t.engine d = { b.engine d with fences := r } ∧ t.fld (R.TBL_FENCE_STATUS d) F.TBL_FENCE_STATUS_LAST_DONE_TAG = f.tag ∧
      t.flag (R.TBL_FENCE_STATUS d) F.TBL_FENCE_STATUS_DONE_SEEN = true ∧ ∀ a, a ≠ R.TBL_FENCE_STATUS d → t.word a = b.word a
    let limit := b.fld (R.TBL_FENCE_CFG d) F.TBL_FENCE_CFG_LIMIT
    (b.fenceLeft d f.epoch = 0 → TakesTo (.fenceDone d) b fun t => ends t ∧ t.inflight = b.inflight) ∧
    (b.fenceLeft d f.epoch ≠ 0 → Takes (.fenceDone d) b b) ∧
    (limit ≠ 0 → limit * 1000000 ≤ b.ticks - f.at_ →
      TakesTo (.fenceTimeout d) b fun t =>
        ends t ∧ t.flag (R.TBL_FENCE_STATUS d) F.TBL_FENCE_STATUS_TIMEOUT_SEEN = true ∧
        t.inflight = (b.send 7 d 0x30 (f.tag * 2 ^ 28 + min (2 ^ 28 - 1) (b.fenceLeft d f.epoch))).inflight) ∧
    (limit = 0 ∨ b.ticks - f.at_ < limit * 1000000 → Takes (.fenceTimeout d) b b)) ∧
  (∀ (b : Block) (w : Writer) (d : Fin 4) (v : BitVec 32), b.reaches w .tbl →
    let b1 := b.storeReg w (R.TBL_FENCE_CFG d) v.toNat
    (F.TBL_FENCE_CFG_LIMIT.of v.toNat = 0 → Takes (.fenceCfgWrite w d v) b b1) ∧
    (F.TBL_FENCE_CFG_LIMIT.of v.toNat ≠ 0 → ∀ f, (b.engine d).fences = [f] →
      F.TBL_FENCE_CFG_LIMIT.of v.toNat * 1000000 ≤ b.ticks - f.at_ →
      TakesTo (.fenceCfgWrite w d v) b fun t =>
        (t.engine d).fences = [] ∧ t.flag (R.TBL_FENCE_STATUS d) F.TBL_FENCE_STATUS_TIMEOUT_SEEN = true)) ∧
  (∀ (b : Block) (w : Writer) (d : Fin 4) (v : BitVec 32), w ≠ .boot → b.reaches w .tbl →
    b.flag (R.TBL_CMD_STATUS d) F.TBL_CMD_STATUS_BUSY = false → b.mirroring = false → b.frozen d = false → (b.engine d).ops = [] →
    (b.engine d).fences.length < 3 →
    TakesTo (.tblFence w d v) b fun t =>
      (t.engine d).fences = (b.engine d).fences ++ [⟨F.TBL_CMD_ARG.of v.toNat, b.ticks, (b.engine d).epoch, 0⟩] ∧
      (t.engine d).ops.map (fun x => (x.op, x.done, x.status)) = [(6, true, S.ok)] ∧
      t.flag (R.TBL_CMD_STATUS d) F.TBL_CMD_STATUS_BUSY = true))

/-- GLEANER_COMMIT (R218, R219) takes a candidate at the front of the Gleaner queue of a die that is not held, when it is the
Gleaner's turn: while the engine's commands have work too, the two are served alternately (R33); else it changes nothing. A key
that a static entry holds, or a learned entry with this next hop, changes nothing else; one that a remote entry holds, or a learned
one with another next hop, moves to the new port, in its slot, and counts as a move; one that no entry holds is inserted, and
counts as learned where the insertion answers OK. AGE_QUANTUM, SWEEP_PASS_END and GLEANER_REMOVAL (R222 to R224). When a quantum
has passed the age clock goes on by one, and a sweep pass starts, or is due where one runs; a pass that ends queues every entry of
an aged kind at or past LIMIT in the Gleaner queue, behind what waits there, as far as its 4,096 places go; a queued entry that is
still there and still old is removed and counted, one that has been used since is saved. Each of the four completes under the
hypotheses on the block alone. -/
def Obligations.TheGleanerLearnsMovesAndAges : Prop :=
  (∀ (b : Block) (d : Fin 4), b.glTurn d = false → Takes (.gleanerCommit d) b b ∧ Takes (.gleanerRemoval d) b b) ∧
  (∀ (b : Block) (d : Fin 4) (key port : Nat) (r : List GlItem), (b.engine d).glQueue = .cand key port :: r → b.glTurn d = true →
    let b1 := b.modEngine d fun e => { e with glQueue := r, lastGl := true }
    let img := b.learnImage d key port
    Takes (.gleanerRemoval d) b b ∧
    (∀ s x, b.emFind d T.l2 false key = some (s, x) → x.kind = 1 ∨ (x.kind = 2 ∧ x.fwdIdx = Vec.f img 3 ⟨19, 2⟩) →
      Takes (.gleanerCommit d) b b1) ∧
    (∀ s x, b.emFind d T.l2 false key = some (s, x) → x.kind = 0 ∨ (x.kind = 2 ∧ x.fwdIdx ≠ Vec.f img 3 ⟨19, 2⟩) →
      TakesTo (.gleanerCommit d) b fun t =>
        (t.engine d).em = SMap.put (b.engine d).em s (newEntry (b.stampClock d) img) ∧ (t.engine d).glQueue = r ∧
        (t.engine d).seq = ((b.engine d).seq + 1) % 4096 ∧
        t.ctr (R.TBL_GLN_MOVES d) = (b.ctr (R.TBL_GLN_MOVES d) + 1) % 2 ^ 64) ∧
    (b.emFind d T.l2 false key = none → (b1.insert d T.l2 reqGleaner img).status = S.ok →
      TakesTo (.gleanerCommit d) b fun t =>
        (t.engine d).em = ((b1.insert d T.l2 reqGleaner img).blk.engine d).em ∧ (t.engine d).glQueue = r ∧
        t.ctr (R.TBL_GLN_LEARNS d) = (b.ctr (R.TBL_GLN_LEARNS d) + 1) % 2 ^ 64)) ∧
  ((∀ (b : Block) (d : Fin 4), b.frozen d = false → (b.engine d).quantum * 1000000 ≤ (b.engine d).quantumTicks →
    Takes (.ageQuantum d) b (b.modEngine d fun e =>
      { e with clock := e.clock + 1, quantumTicks := e.quantumTicks - e.quantum * 1000000,
               quantum := b.fld (R.TBL_GLN_QUANTUM d) F.TBL_GLN_QUANTUM_QUANTUM, sweepDue := e.sweeping, sweeping := true })) ∧
  (∀ (b : Block) (d : Fin 4), b.frozen d = false → (b.engine d).sweeping = true →
    TakesTo (.sweepPassEnd d) b fun t =>
      let limit := b.fld (R.TBL_GLN_AGE_CFG d) F.TBL_GLN_AGE_CFG_LIMIT
      (t.engine d).sweeping = (b.engine d).sweepDue ∧ (t.engine d).sweepDue = false ∧
      (∃ l, (t.engine d).glQueue = (b.engine d).glQueue ++ l) ∧
      ((t.engine d).glQueue.length < 4096 → ∀ e ∈ (b.engine d).em, b.aged d e.2.kind = true → limit ≤ (b.engine d).age e.2 →
        .removal (kindTable e.2.kind) (kindTwo e.2.kind) e.2.key ∈ (t.engine d).glQueue) ∧
      (t.engine d).em.map (fun e => (e.1, e.2.kind, e.2.key)) = (b.engine d).em.map (fun e => (e.1, e.2.kind, e.2.key)) ∧
      t = { b with engines := t.engines }) ∧
  (∀ (b : Block) (d : Fin 4) (table key : Nat) (two : Bool) (rest : List GlItem),
    (b.engine d).glQueue = .removal table two key :: rest → b.glTurn d = true →
    let b1 := b.modEngine d fun e => { e with glQueue := rest, lastGl := true }
    Takes (.gleanerCommit d) b b ∧
    (b.emFind d table two key = none → Takes (.gleanerRemoval d) b b1) ∧
    (∀ s x, b.emFind d table two key = some (s, x) →
      ((b.engine d).age x < b.fld (R.TBL_GLN_AGE_CFG d) F.TBL_GLN_AGE_CFG_LIMIT →
        Takes (.gleanerRemoval d) b (b1.count (R.TBL_GLN_AGE_SAVED d) 1)) ∧
      (b.fld (R.TBL_GLN_AGE_CFG d) F.TBL_GLN_AGE_CFG_LIMIT ≤ (b.engine d).age x →
        TakesTo (.gleanerRemoval d) b fun t =>
          (t.engine d).em = SMap.del (b.engine d).em s ∧ (t.engine d).glQueue = rest ∧
          t.ctr (R.TBL_GLN_AGED d) = (b.ctr (R.TBL_GLN_AGED d) + 1) % 2 ^ 64))))

/-- Winnow (R226 to R229, R401). START of a table that it can compare begins a pass at position 0 with an empty log; STOP ends it.
Its reads of host memory take a DMA engine: while none is free for one, it waits among the jobs. Each shadow entry that a pass
reads moves it one on, the last ends it; a disagreement is looked at again after WIN_RECHECK µs, and is only then reported, where
the same one is still there; a shadow read that fails ends the pass with DMA_ERR. Each of the five completes under the hypotheses
on the block and the operands alone. -/
def Obligations.WinnowComparesStopsAndRechecks : Prop :=
  (∀ (b : Block) (w : Writer) (d : Fin 4) (v : BitVec 32), b.reaches w .tbl →
    let t := b.winTable d
    (F.TBL_WIN_CTRL_START.of v.toNat = 1 → b.winBusy d = true ∨ t = T.counter ∨ t = T.frag ∨ 16 ≤ t →
      Takes (.winnowStart w d v) b (b.refuse w (R.TBL_WIN_CTRL d))) ∧
    (F.TBL_WIN_CTRL_START.of v.toNat = 1 → F.TBL_WIN_CTRL_STOP.of v.toNat = 0 → b.winBusy d = false → t ≠ T.counter → t ≠ T.frag → t < 16 →
      TakesTo (.winnowStart w d v) b fun t =>
        t.winBusy d = true ∧ t.winPos d = 0 ∧ t.word (R.TBL_WIN_LOG_HEAD d) = 0 ∧ t.engines = b.engines) ∧
    (F.TBL_WIN_CTRL_STOP.of v.toNat = 1 →
      TakesTo (.winnowStop w d v) b fun t => t.winBusy d = false ∧ t.engines = b.engines)) ∧
  (∀ (b : Block) (d : Fin 4) (raw : List Byte), raw.length = 64 →
    let sh := Vec.ofList ((List.range 16).map fun j => leVal ((raw.drop (4 * j)).take 4))
    let got := b.readGot 0 (.winRead d)
    (b.winBusy d = true → b.winPos d + 1 < b.winCount d →
      let ds := b.winDiffs d (b.winTable d) (b.winClusters d) (b.winPos d) sh
      (got = none → Takes (.winnowCompare d raw) b (b.askRead 0 (.winRead d))) ∧
      (∀ b1, got = some b1 →
        TakesTo (.winnowCompare d raw) b fun t =>
          t.winPos d = b.winPos d + 1 ∧ t.winBusy d = true ∧
          (ds = [] → t.engine d = b.engine d) ∧
          (ds ≠ [] → t.engine d = { b.engine d with
            rechecks := (b.engine d).rechecks ++ ds.map fun x => ⟨x.table, b.winClusters d, x.pos, x.cause, x.copy, b.ticks⟩ }))) ∧
    (∀ (r : Recheck) (rest : List Recheck), (b.engine d).rechecks = r :: rest →
      let due := b.fld (R.TBL_WIN_RECHECK d) F.TBL_WIN_RECHECK_V * 1000 ≤ b.ticks - r.at_
      (¬due → Takes (.winnowRecheck d raw) b b) ∧
      (due → got = none → Takes (.winnowRecheck d raw) b (b.askRead 0 (.winRead d))) ∧
      (∀ b1, due → got = some b1 → b.winAgain d r sh = [] →
        TakesTo (.winnowRecheck d raw) b fun t =>
          t.engine d = { b.engine d with rechecks := rest } ∧ t.inflight = b.inflight ∧
          t.ctr (R.TBL_WIN_MISMATCHES d) = b.ctr (R.TBL_WIN_MISMATCHES d)) ∧
      (∀ b1 x, due → got = some b1 → b.winAgain d r sh = [x] → b.frozen d = false →
        TakesTo (.winnowRecheck d raw) b fun t =>
          (t.engine d).rechecks = rest ∧ (t.engine d).winSeq = (b.engine d).winSeq + 1 ∧
          t.ctr (R.TBL_WIN_MISMATCHES d) = (b.ctr (R.TBL_WIN_MISMATCHES d) + 1) % 2 ^ 64))) ∧
  (∀ (b : Block) (d : Fin 4),
    (b.winBusy d = true → ∀ b1, b.readGot 0 (.winRead d) = some b1 →
      TakesTo (.winnowDma d) b fun t =>
        t.winBusy d = false ∧ t.flag (R.TBL_WIN_STATUS d) F.TBL_WIN_STATUS_DMA_ERR = true ∧ t.engines = b.engines) ∧
    (b.winBusy d = false → (b.engine d).rechecks = [] → Takes (.winnowDma d) b b))

/-! ## Links, the output buffer, Silo and the HBM (spec/10; multicast: spec/09) -/

/-- LINK_REPLAY, LINK_RETRAIN, LINK_RETRAIN_DONE, HBM_REFRESH and SELF_REFRESH_ENTRY (R287, R316, R318). A transfer that fails its
CRC on a link that is up is replayed and counted, by the die that receives; after 16 in a row at either end the link retrains, the
frames with cells on it leave both directions' FIFOs, and fault kind XBAR_LINK goes out where there were any; it comes back
trained. A held die's stack that was idle long enough enters self-refresh. SILO_READBACK (R302, R305, R309, R310, R317). The engine
of a die copies one frame at a time. For a queue whose turn it is, whose on-die part has fallen below REFILL, and for whose front
Silo frame the region has room, it reads that frame's link record and the copy begins: the frame takes its cells on-die and its
pointer goes after those there; one marked bad is dropped; the loss of the link record loses the queue's whole Silo part, whose
cells stay out of use. When the reads of the frame's data have been served it is whole on-die and leaves Silo, and the queue is
spilled until its last Silo frame has left; a read that fails for good loses the frame. Each of the six completes on every block.
-/
def Obligations.LinksReplayAndSiloFramesComeBackInOrder : Prop :=
  ((∀ (b : Block) (d : Fin 4) (e : Fin 3),
    let o := otherDie d e
    (b.linkUpTo d o = false → Takes (.linkReplay d e) b b) ∧
    (b.linkUpTo d o = true →
      TakesTo (.linkReplay d e) b fun t =>
        t.linkFails d o = b.linkFails d o + 1 ∧ t.linkFails o d = b.linkFails o d ∧ (t.link d o).trained = (b.link d o).trained ∧
        t.ctr (R.XEP_LINK_REPLAY d e) = (b.ctr (R.XEP_LINK_REPLAY d e) + 1) % 2 ^ 64 ∧
        t = { b with links := t.links, ctrs := t.ctrs }) ∧
    (b.linkUpTo d o = false ∨ (b.linkFails d o < 16 ∧ b.linkFails o d < 16) → Takes (.linkRetrain d e) b b) ∧
    (b.linkUpTo d o = true → 16 ≤ b.linkFails d o ∨ 16 ≤ b.linkFails o d →
      let inputs : List (Nat × Nat) := [(d.val, 2 * o), (d.val, 2 * o + 1), (o, 2 * d.val), (o, 2 * d.val + 1)]
      let lost := inputs.any fun x => (b.fifo x.1 x.2).any fun y => y.st.isOpen
      TakesTo (.linkRetrain d e) b fun t =>
        t.link d o = {} ∧ t.inflight = (if lost then (b.send 9 d 0x41 0).inflight else b.inflight) ∧
        (∀ x ∈ inputs, t.fifo x.1 x.2 = (b.fifo x.1 x.2).filter fun y => !y.st.isOpen) ∧
        t.regs = b.regs ∧ t.frames = b.frames) ∧
    TakesTo (.linkRetrainDone d e) b fun t =>
      t.link d o = { trained := true } ∧ t = { b with links := t.links } ∧
      ∀ m n, linkKey m n ≠ linkKey d o → t.link m n = b.link m n) ∧
  (∀ (b : Block) (d : Fin 4) (k : Fin 2),
    let idle := b.ticks - SMap.get 0 (b.die d).srAt k
    Takes (.hbmRefresh d k) b (if b.frozen d then b else b.pmc (.hbm d) 0x05 k 1) ∧
    (b.frozen d = true → b.fld (R.HBM_CTRL_CFG d) F.HBM_CTRL_CFG_SR_IDLE * 1000 ≤ idle →
      TakesTo (.selfRefreshEntry d k) b fun t =>
        t.fld (R.HBM_SR_STATUS d) F.HBM_SR_STATUS_V = b.fld (R.HBM_SR_STATUS d) F.HBM_SR_STATUS_V ||| 2 ^ k.val ∧
        t = { b with regs := t.regs } ∧ ∀ a, a ≠ R.HBM_SR_STATUS d → t.word a = b.word a) ∧
    (b.frozen d = false ∨ idle < b.fld (R.HBM_CTRL_CFG d) F.HBM_CTRL_CFG_SR_IDLE * 1000 → Takes (.selfRefreshEntry d k) b b))) ∧
  (∀ (b : Block) (G : Fin 8) (q : BitVec 13) (k : Fin 2),
    let d := G.val / 2
    let Q := q.toNat
    let x := (b.region G).queue Q
    let ue (a : BitVec 36) : Block := b.send 8 d 0x43 a.toNat
    (b.frozen d = true → ∀ r, Takes (.siloReadback G q k r) b b) ∧
    (∀ (f : SiloFrame) (rest : List SiloFrame), b.frozen d = false → x.silo = f :: rest → f.void = false →
      let left := rest.dropWhile fun s => s.void && s.whole
      let gone (y : Queue) : Queue := { y with silo := left, spilled := x.spilled && !left.isEmpty, copying := none }
      (x.copying = none →
        let ready := f.whole = true ∧ x.onDie < b.fld (R.RGN_QSPILL G Q) F.RGN_QSPILL_REFILL ∧
          cellsOf f.pkt.bytes.length ≤ b.freeShared G ∧ (b.region G).ptrUsed < 262144 ∧ ∀ m ∈ (b.region G).mcPend, f.arr < m.sid
        let sid := (b.region G).next
        let begins (t : Block) : Prop :=
          (t.region G).queue Q = { x with
            use := x.use + cellsOf f.pkt.bytes.length, copying := some sid,
            ptrs := x.ptrs ++ [{ sid := sid, eg := f.eg, rw := f.rw, enq := f.enq,
                                 ct := b.flag (R.PRT_CT_CFG (portOfQueue G Q)) F.PRT_CT_CFG_CT_EN }] } ∧
          (t.region G).frame sid = { pkt := f.pkt, refs := 1, q := Q, own := cellsOf f.pkt.bytes.length }
        (¬ready ∨ b.siloBusy d = true ∨ b.siloTurn G Q = false → ∀ r, TakesTo (.siloReadback G q k r) b fun t =>
          (t.region G).queue Q = x ∧ t.ctrs = b.ctrs ∧ t.hbms = b.hbms) ∧
        (ready → b.siloBusy d = false → b.siloTurn G Q = true →
          (f.pkt.bad = false →
            TakesTo (.siloReadback G q k .good) b (fun t => begins t ∧ t.inflight = b.inflight) ∧
            TakesTo (.siloReadback G q k .corrected) b (fun t => begins t ∧
              t.ctr (R.HBM_ECC_CE d) = (b.ctr (R.HBM_ECC_CE d) + 1) % 2 ^ 64) ∧
            ∀ a, TakesTo (.siloReadback G q k (.fallback a)) b (fun t => begins t ∧ t.inflight = (ue a).inflight ∧
              t.ctr (R.HBM_ECC_UE d) = (b.ctr (R.HBM_ECC_UE d) + 1) % 2 ^ 64 ∧
              t.ctr (R.HBM_LINK_FALLBACK d) = (b.ctr (R.HBM_LINK_FALLBACK d) + 1) % 2 ^ 64)) ∧
          (f.pkt.bad = true → TakesTo (.siloReadback G q k .good) b fun t => (t.region G).queue Q = gone x) ∧
          ∀ a, TakesTo (.siloReadback G q k (.lost a)) b (fun t =>
            (t.region G).queue Q = { x with silo := [], spilled := false } ∧
            (t.region G).leaked = (b.region G).leaked + x.siloCells ∧
            t.inflight = (((ue a).send 8 d 0x43 a.toNat).send 8 d 0x44 0).inflight))) ∧
      (∀ sid p, x.copying = some sid →
        (b.hbmOwes d (siloTag G sid) = true → ∀ r, Takes (.siloReadback G q k r) b b) ∧
        (b.hbmOwes d (siloTag G sid) = false → SMap.find (b.region G).stored sid = some p →
          let comesBack (t : Block) : Prop := (t.region G).queue Q = gone x ∧
            (t.region G).frame sid = { p with whole := true, got := p.pkt.bytes.length }
          TakesTo (.siloReadback G q k .good) b (fun t => comesBack t ∧ t.inflight = b.inflight ∧ t.ctrs = b.ctrs) ∧
          TakesTo (.siloReadback G q k .corrected) b (fun t => comesBack t ∧
            t.ctr (R.HBM_ECC_CE d) = (b.ctr (R.HBM_ECC_CE d) + 1) % 2 ^ 64)) ∧
        (b.hbmOwes d (siloTag G sid) = false → ∀ y a, x.ptrs.find? (fun z => z.sid == sid) = some y →
          TakesTo (.siloReadback G q k (.bad a)) b fun t =>
            ((t.region G).queue Q).ptrs = x.ptrs.filter (fun z => z != y) ∧ ((t.region G).queue Q).silo = left ∧
            ((t.region G).queue Q).copying = none ∧ t.inflight = (ue a).inflight ∧
            t.ctr (R.HBM_SILO_ECC_DROP d) = (b.ctr (R.HBM_SILO_ECC_DROP d) + 1) % 2 ^ 64))))

/-- FRAME_ADMIT, FRAME_TAIL_WRITTEN and MC_ENQUEUE (R265, R267, R285, R289 to R299, R307, R490). When the write port's turn is an
input's, the first cell of its next frame is admitted: the frame is stored in one cell and its pointer joins its queue, or waits
behind those of an earlier multicast copy, or it goes to Silo, in arrival order there, or it is refused and counted; a multicast
copy is stored, and its pointers wait, unless too many do. The last cell charges the rest of its cells and makes it whole. Waiting
pointers join their queues, 32 at a time. Each of the three completes on every block. -/
def Obligations.FramesAreAdmittedStoredAndEnqueued : Prop :=
  (∀ (b : Block) (G : Fin 8) (i : Fin 5) (room : Bool),
    (b.inputUp G i = false ∨ b.inTurn G i = false ∨ nextWaiting (i.val == 4) [] (b.input G i) = none →
      Takes (.frameAdmit G i room) b b) ∧
    ∀ (n : Nat) (k : Pkt), b.inputUp G i = true → b.inTurn G i = true → nextWaiting (i.val == 4) [] (b.input G i) = some n →
      ((b.input G i).getD n {}).pkt = k →
      let q := k.queue
      let goes (st : CellState) (t : Block) : Prop :=
        t.input G i = setNth (b.input G i) n { pkt := k, st := st } ∧ (t.region G).inTurn = (i.val + 1) % 5
      let turned (t : Block) : Prop :=
        ∀ g : Nat, t.region g = if g = G.val then { b.region G with inTurn := (i.val + 1) % 5 } else b.region g
      let sid := (b.region G).next
      let stored (t : Block) : Prop := (t.region G).next = sid + 1 ∧
        (let s := (t.region G).frame sid
         s.pkt = k ∧ s.whole = false ∧ s.q = q ∧ s.own + s.grp + s.tail = 1) ∧
        ((t.region G).queue q).silo = ((b.region G).queue q).silo
      ((b.die (G.val / 2)).refusing = true →
        TakesTo (.frameAdmit G i room) b fun t => goes .refused t ∧ turned t ∧
          (t.die (G.val / 2)).dropped = (b.die (G.val / 2)).dropped + 1) ∧
      ((b.die (G.val / 2)).refusing = false → Vec.f k.desc 0 D.fwdKind ≠ 2 ∨ k.id = 0 → b.qcfg G q F.RGN_QCFG_PO_CLASS = 0 →
        ((b.judge G q k).1 = .onDie → (b.region G).mcPend = [] →
          TakesTo (.frameAdmit G i room) b fun t => goes (.writing sid) t ∧ stored t ∧ ((t.region G).frame sid).refs = 1 ∧
            ((t.region G).queue q).ptrs = ((b.region G).queue q).ptrs ++
              [{ sid := sid, eg := Vec.f k.desc 0 D.egPort, rw := Vec.f k.desc 2 D.rewriteIdx, enq := b.ticks, ct := b.cutsThrough G q k }]) ∧
        ((b.judge G q k).1 = .onDie → (b.region G).mcPend ≠ [] →
          TakesTo (.frameAdmit G i room) b fun t => goes (.writing sid) t ∧ stored t ∧
            (t.region G).mcPend = (b.region G).mcPend ++ [{ sid := sid, next := 0, left := 1, uni := true }] ∧
            ((t.region G).queue q).ptrs = ((b.region G).queue q).ptrs) ∧
        ((b.judge G q k).1 = .refuse →
          TakesTo (.frameAdmit G i room) b fun t => goes .refused t ∧ turned t ∧
            t.ctr (R.RGN_ADMIT_DROP G) = (b.ctr (R.RGN_ADMIT_DROP G) + 1) % 2 ^ 64) ∧
        ((b.judge G q k).1 = .silo →
          let x := (b.region G).queue q
          let open_ := x.siloCells + 64 ≤ b.fld (R.RGN_QLIM G q) F.RGN_QLIM_SILO_MAX * 4096 ∧ room = true ∧
            b.siloGranted (G.val / 2) + 64 ≤ 188743680
          (open_ → TakesTo (.frameAdmit G i room) b fun t => goes (.siloing q) t ∧
            (t.region G).queue q = { x with
              spilled := true,
              silo := relink (siloInsert { pkt := k, arr := sid, eg := Vec.f k.desc 0 D.egPort, rw := Vec.f k.desc 2 D.rewriteIdx,
                                           enq := b.ticks, pos := (b.die (G.val / 2)).siloNext } x.silo) }) ∧
          (room = false → TakesTo (.frameAdmit G i room) b fun t => goes .refused t ∧
            (t.region G).queue q = { x with spilled := true }))) ∧
      ((b.die (G.val / 2)).refusing = false → Vec.f k.desc 0 D.fwdKind = 2 → k.id ≠ 0 →
        let waiting := ((b.region G).mcPend.map fun m => m.left).sum
        (b.fld (R.RGN_MC_CFG G) F.RGN_MC_CFG_PEND_LIMIT < waiting →
          TakesTo (.frameAdmit G i room) b fun t => goes .refused t ∧ turned t ∧
            t.ctr (R.RGN_MC_ENQ_DROP G) = (b.ctr (R.RGN_MC_ENQ_DROP G) + 1) % 2 ^ 64) ∧
        (waiting ≤ b.fld (R.RGN_MC_CFG G) F.RGN_MC_CFG_PEND_LIMIT →
          TakesTo (.frameAdmit G i room) b fun t => goes (.writing sid) t ∧
            (t.region G).mcPend = (b.region G).mcPend ++ [{ sid := sid, next := mcStart k.group G, left := mcCount k.group G }] ∧
            (let s := (t.region G).frame sid
             s.pkt = k ∧ s.mc = true ∧ s.refs = 0 ∧ s.own + s.tail = 1 ∧ s.grp = 0) ∧
            (t.region G).queues = (b.region G).queues))) ∧
  (∀ (b : Block) (G : Fin 8) (i : Fin 5) (n : Nat),
    let l := b.input G i
    let at_ := ((List.range l.length).filter fun j => (l.getD j {}).st.isOpen)[n]?
    (b.inputUp G i = false ∨ at_ = none → Takes (.frameTailWritten G i n) b b) ∧
    ∀ j y, b.inputUp G i = true → at_ = some j → l.getD j {} = y →
      (y.pkt.late ≠ none → Takes (.frameTailWritten G i n) b b) ∧
      (y.pkt.late = none → y.st = .refused →
        TakesTo (.frameTailWritten G i n) b fun t => t.input G i = delNth l j ∧ t.frames = b.frames ∧
          ∀ g : Nat, { t.region g with inTurn := 0 } = { b.region g with inTurn := 0 }) ∧
      (∀ sid s, y.pkt.late = none → y.pkt.bad = false → y.st = .writing sid → SMap.find (b.region G).stored sid = some s →
        TakesTo (.frameTailWritten G i n) b fun t => t.input G i = delNth l j ∧
          (let u := (t.region G).frame sid
           u.whole = true ∧ u.pkt = s.pkt ∧ u.refs = s.refs ∧ u.q = s.q ∧
           u.own + u.grp + u.tail = s.own + s.grp + s.tail + (cellsOf s.pkt.bytes.length - 1)) ∧
          (∀ k, k ≠ sid → (t.region G).frame k = (b.region G).frame k) ∧
          ∀ q, ((t.region G).queue q).ptrs = ((b.region G).queue q).ptrs)) ∧
  (∀ (b : Block) (G : Fin 8) (room : Bool),
    (b.frozen (G.val / 2) = true ∨ (b.region G).mcPend = [] → Takes (.mcEnqueue G room) b b) ∧
    (∀ m, b.frozen (G.val / 2) = false → (b.region G).mcPend = [m] → m.uni = true →
      let k := ((b.region G).frame m.sid).pkt
      TakesTo (.mcEnqueue G room) b fun t => (t.region G).mcPend = [] ∧
        ((t.region G).queue k.queue).ptrs = ((b.region G).queue k.queue).ptrs ++
          [{ sid := m.sid, eg := Vec.f k.desc 0 D.egPort, rw := Vec.f k.desc 2 D.rewriteIdx, enq := b.ticks,
             ct := b.cutsThrough G k.queue k }] ∧ t.ctrs = b.ctrs) ∧
    (∀ m r, b.frozen (G.val / 2) = false → (b.region G).mcPend = m :: r → m.uni = false → 32 < m.left →
      TakesTo (.mcEnqueue G room) b fun t => (t.region G).mcPend = { m with next := m.next + 32, left := m.left - 32 } :: r) ∧
    (∀ m, b.frozen (G.val / 2) = false → (b.region G).mcPend = [m] → m.uni = false → m.left = 1 →
      let k := ((b.region G).frame m.sid).pkt
      let e := b.entry (G.val / 2) T.mcast (2 ^ 19 + m.next)
      let eg := Vec.f e 0 ⟨25, 18⟩
      let q := eg % 32 * 256 + Vec.f (b.entry (G.val / 2) T.queueMap (eg * 256 + Vec.f k.desc 0 D.class_)) 0 ⟨7, 0⟩
      Vec.f e 0 ⟨31, 31⟩ = 1 → eg / 32 = G → Vec.f k.group 0 ⟨30, 30⟩ = 0 → b.lossless G q = false →
      ((b.region G).queue q).spilled = false → b.maySpill G q = false → (b.region G).ptrUsed < 262144 →
      b.alphaOk G q (cellsOf k.bytes.length) = true →
      TakesTo (.mcEnqueue G room) b fun t => (t.region G).mcPend = [] ∧
        ((t.region G).frame m.sid).refs = ((b.region G).frame m.sid).refs + 1 ∧
        ((t.region G).queue q).ptrs = ((b.region G).queue q).ptrs ++
          [{ sid := m.sid, eg := eg, rw := Vec.f e 0 ⟨17, 0⟩, enq := b.ticks, ct := b.cutsThrough G q k }]))

/-! ## Scheduling and egress (spec/09, spec/11; the transmit island: spec/03) -/

/-- SCHEDULER_PICK, EGRESS_E0 to EGRESS_E3 and RW_CSUM_WAIT (R177, R194, R271 to R279, R301, R321 to R326, R363, R365). The
scheduler picks only a class queue that is eligible; the pointer at its head leaves it, and the copy enters the transmit path. A
copy passes E0, E1, E2 and E3 in order: with no egress rule it passes E0 as it is, under the die's epoch unless the host sent the
frame direct to queue; a rule may drop it; E1 edits its bytes by its REWRITE entry, charges the shapers and the deficits of its
queue and group with its length on the wire, and drops it where the entry is invalid or the gate class does not take its length; a
copy whose checksum needs the whole frame waits for it, and holds E1 up meanwhile; E2 asks the transmit island for the correction
that a PTP copy needs, or skips it; E3 counts it. Each of the six completes under the hypotheses on the block alone. -/
def Obligations.CopiesArePickedAndPassTheEgressStages : Prop :=
  (∀ (b : Block) (p c : Nat) (flush qN gN : Bool),
    (b.pick p flush).1 = some (c, qN, gN) →
    (b.queueChild (rgnOfPort p) (localPort p * 256 + c) flush).elig = true ∧ c < 256) ∧
  ∀ (b : Block) (p : Fin 256),
    let G := rgnOfPort p
    let tx := (b.port p).tx
    (∀ got c qN gN x y, b.frozen (dieOfPort p) = false →
      let b1 := b.seen p got
      let q := localPort p * 256 + c
      b1.headOf G q = some (x, y) →
      (b.flag (R.MAC_LINK_STATUS p) F.MAC_LINK_STATUS_LINK_UP = true → (b1.pick p false).1 = some (c, qN, gN) →
        TakesTo (.schedulerPick p got) b fun t =>
          ((t.region G).queue q).ptrs = ((b.region G).queue q).ptrs.drop 1 ∧ (t.port p).sched = (b1.pick p false).2 ∧
          (∃ z : TxCopy, (t.port p).tx = tx ++ [z] ∧ z.sid = x.sid ∧ z.q = q ∧ z.eg = x.eg ∧ z.rw = x.rw ∧ z.stage = .e0 ∧
            z.bytes = y.pkt.bytes.take (y.pkt.bytes.length - 4) ∧ z.qAdj = qN ∧ z.gAdj = gN ∧
            Vec.f z.desc 2 D.rewriteIdx = x.rw % 2 ^ 18 ∧ Vec.f z.desc 13 D.cq = c % 256) ∧
          (t.region G).stored = (b1.region G).stored) ∧
      (b.flushing p = true → (b1.pick p true).1 = some (c, qN, gN) →
        TakesTo (.schedulerPick p got) b fun t =>
          ((t.region G).queue q).ptrs = ((b.region G).queue q).ptrs.drop 1 ∧ (t.port p).tx = tx ∧
          t.ctr (R.MAC_TX_LINKDOWN_DROP p) = (b.ctr (R.MAC_TX_LINKDOWN_DROP p) + 1) % 2 ^ 64)) ∧
    (∀ got, b.frozen (dieOfPort p) = true ∨
      (b.flag (R.MAC_LINK_STATUS p) F.MAC_LINK_STATUS_LINK_UP = false ∧ b.flushing p = false) →
      Takes (.schedulerPick p got) b (b.seen p got)) ∧
    (∀ (c : TxCopy) (r : List TxCopy), tx = c :: r →
      let k := b.txPkt p c
      let charged (final : Nat) (t : Block) : Prop :=
        let g := b.qsched G c.q F.RGN_QSCHED_GROUP
        let gi := 8192 + localPort p * 32 + g
        t.shaper G c.q = (b.shaper G c.q).charge (chargeOf final) ∧ t.shaper G gi = (b.shaper G gi).charge (chargeOf final) ∧
        SMap.get 0 (t.port p).sched.deficit (256 + g) =
          SMap.get 0 (b.port p).sched.deficit (256 + g) - (if c.gAdj then chargeOf final else 0 : Nat)
      (c.stage = .e0 →
        let ep := if k.id = 0 then none else some (b.engine (G / 2)).epoch
        (b.flag (R.RGN_MISS_CFG G) F.RGN_MISS_CFG_EACL_EN = false →
          TakesTo (.egressE0 p) b fun t =>
            (t.port p).tx = { c with stage := .e1, epoch := ep } :: r ∧ t = { b with ports := t.ports }) ∧
        (∀ s a, b.flag (R.RGN_MISS_CFG G) F.RGN_MISS_CFG_EACL_EN = true →
          (b.engine (G / 2)).aclOut.find? (fun e => e.2.aclMatch (eaclKey c.desc p)) = some (s, a) →
          (bitOf a.aclRec.ovr 0 = true → Vec.f (mergeRec egressGroups c.desc a.aclRec) 0 D.act = 1 →
            TakesTo (.egressE0 p) b fun t => (t.port p).tx = r ∧ t.slow = b.slow ∧
              (b.frozen (G / 2) = false → t.ctr (R.RGN_EACL_DROP G) = (b.ctr (R.RGN_EACL_DROP G) + 1) % 2 ^ 64)) ∧
          (bitOf a.aclRec.ovr 0 = false → bitOf a.aclRec.ovr 8 = false →
            TakesTo (.egressE0 p) b fun t =>
              let m := mergeRec egressGroups c.desc a.aclRec
              (t.port p).tx = { c with stage := .e1, epoch := ep, desc := m,
                                       rw := Vec.f m 2 D.rewriteIdx } :: r ∧ t = { b with ports := t.ports }))) ∧
      (c.stage = .e1 → b.txAt p .csum ≠ none → Takes (.egressE1 p) b b) ∧
      (c.stage = .e1 → b.txAt p .csum = none → c.q < 8192 →
        (k.host = none → Vec.f c.desc 0 D.act = 0 → b.rwEntries (G / 2) c.rw = none →
          TakesTo (.egressE1 p) b fun t => (t.port p).tx = r ∧
            (b.frozen (G / 2) = false → t.ctr (R.RGN_RW_INVALID_DROP G) = (b.ctr (R.RGN_RW_INVALID_DROP G) + 1) % 2 ^ 64)) ∧
        (∀ w v o, k.host = none → Vec.f c.desc 0 D.act = 0 → b.rwEntries (G / 2) c.rw = some (w, v) →
          rewrite k c.desc w v (b.flag (R.RGN_RW_CFG G) F.RGN_RW_CFG_NOTECT_FWD) (b.word (R.RGN_ECMP_SEED G)) (b.port p).ipId
            = .ok o → c.cntOver = true →
          let z : TxCopy := { c with bytes := o.bytes, shift := (o.bytes.length : Int) - (c.bytes.length : Int) }
          let final := max 64 (o.bytes.length + 4)
          (o.wait = true → TakesTo (.egressE1 p) b fun t => (t.port p).tx = { z with stage := .csum } :: r ∧
            (t.port p).sched = (b.port p).sched) ∧
          (o.wait = false → b.gateOn p = false →
            TakesTo (.egressE1 p) b fun t => (t.port p).tx = { z with stage := .e2 } :: r ∧ charged final t) ∧
          (o.wait = false → b.gateOn p = true → b.fld (R.PRT_GATE_SDU p (b.classOf G c.q)) F.PRT_GATE_SDU_V < final →
            TakesTo (.egressE1 p) b fun t => (t.port p).tx = r ∧ (t.port p).sched = (b.port p).sched))) ∧
      (c.stage = .csum → c.q < 8192 → b.gateOn p = false →
        let s := (b.region G).frame c.sid
        (s.whole = false → Takes (.rwCsumWait p) b b) ∧
        (s.whole = true → s.pkt.bad = false →
          TakesTo (.rwCsumWait p) b fun t => (t.port p).tx = { c with stage := .e2 } :: r ∧
            charged (max 64 (c.bytes.length + 4)) t) ∧
        (s.whole = true → s.pkt.bad = true → TakesTo (.rwCsumWait p) b fun t => (t.port p).tx = r)) ∧
      (c.stage = .e2 →
        (k.host = none → Vec.f c.desc 15 ⟨31, 31⟩ = 0 →
          TakesTo (.egressE2 p) b fun t => (t.port p).tx = { c with stage := .e3, ptp := 0 } :: r ∧ t = { b with ports := t.ports }) ∧
        (k.host = none → Vec.f c.desc 15 ⟨31, 31⟩ = 1 →
          let n := ptpAsk (b.fld (R.PRT_PTP_CFG p) F.PRT_PTP_CFG_MODE) c (Vec.f c.desc 15 ⟨7, 0⟩)
          TakesTo (.egressE2 p) b fun t => (t.port p).tx = { c with stage := .e3, ptp := n } :: r ∧
            t.ctrs = (b.count (if n = 0 then R.PRT_PTP_SKIPPED p else R.PRT_PTP_CORRECTED p) 1).ctrs) ∧
        (∀ h, k.host = some h → h.op = 1 ∨ h.op = 2 →
          (hostPtpOk k c h = true →
            TakesTo (.egressE2 p) b fun t => (t.port p).tx = { c with stage := .e3, ptp := h.op + 2 } :: r ∧
              t.ctrs = (b.count (R.PRT_PTP_INSERTED p) 1).ctrs) ∧
          (hostPtpOk k c h = false →
            TakesTo (.egressE2 p) b fun t => (t.port p).tx = { c with stage := .e3, ptp := 0 } :: r ∧
              t.ctrs = (b.count (R.PRT_PTP_SKIPPED p) 1).ctrs)) ∧
        (∀ h, k.host = some h → h.op ≠ 1 → h.op ≠ 2 →
          TakesTo (.egressE2 p) b fun t => (t.port p).tx = { c with stage := .e3, ptp := 0 } :: r ∧ t.ctrs = b.ctrs)) ∧
      (c.stage = .e3 →
        TakesTo (.egressE3 p) b fun t => (t.port p).tx = { c with stage := .fifo } :: r ∧ t.ctrs = b.ctrs ∧
          let u := SMap.get {} (b.region G).pairs c.counter
          SMap.get {} (t.region G).pairs c.counter =
            if c.countEn then { u with packets := (u.packets + 1) % 2 ^ 64, bytes := (u.bytes + max 64 (c.bytes.length + 4)) % 2 ^ 64 }
            else u))

/-- FRAME_START, TX_UNDERRUN and FRAME_TX_END (R92, R99, R101, R107, R108, R111, R116, R118, R119, R289). A copy starts when its
whole frame or its threshold of bytes has come to the transmit FIFO, on a link that is up, with nothing on the wire, or an express
copy over a preemptable one that may be cut there; until then it waits with the bytes that have come. A copy of a priority that has
been paused for 600 ns does not start, nor does one while the port's generated frame waits. A frame marked bad before it starts is
dropped. It ends with its FCS, padded to the least length, and with its last pointer its cells are free, and a preempted frame
resumes behind it where no express one goes first; a frame that the buffer does not feed in time ends stomped, and the port's
threshold may step up. In near-end loopback what is sent comes back to the receiver too. Each of the three completes under the
hypotheses on the block alone. -/
def Obligations.FramesStartAndEndOnTheWire : Prop :=
  ∀ (b : Block) (p : Fin 256) (c : TxCopy),
    let G := rgnOfPort p
    let s := (b.region G).frame c.sid
    let up := b.flag (R.MAC_LINK_STATUS p) F.MAC_LINK_STATUS_LINK_UP
    let freed (t : Block) : Prop := s.refs = 1 → (b.region G).owes c.sid = false → SMap.find (t.region G).stored c.sid = none
    ((b.port p).tx = [c] → c.stage = .fifo →
      ∀ got cut,
        let z := c.fill got
        let ready := min (b.fld (R.PRT_CT_CFG p) F.PRT_CT_CFG_THRESH * 64) c.bytes.length ≤ z.filled
        let may := b.frozen (dieOfPort p) = false ∧ up = true ∧ (b.port p).ctrl = []
        (b.pausedOut p c = true → Takes (.frameStart p got cut) b b) ∧
        (b.pausedOut p c = false →
          (¬ready ∨ ¬may → TakesTo (.frameStart p got cut) b fun t => (t.port p).tx = [z] ∧ t = { b with ports := t.ports }) ∧
          (ready → may → s.pkt.bad = true →
            TakesTo (.frameStart p got cut) b fun t => (t.port p).tx = [] ∧ freed t ∧ t.out = b.out ∧
              t.ctr (R.MAC_TX_BAD_DROP p) = (b.ctr (R.MAC_TX_BAD_DROP p) + 1) % 2 ^ 64) ∧
          (ready → may → s.pkt.bad = false → b.fld (R.MAC_PORT_STATE p) F.MAC_PORT_STATE_LB_MODE = 2 →
            TakesTo (.frameStart p got cut) b fun t => (t.port p).tx = [] ∧ freed t ∧ t.out = b.out) ∧
          (ready → may → s.pkt.bad = false → b.fld (R.MAC_PORT_STATE p) F.MAC_PORT_STATE_LB_MODE ≠ 2 →
            TakesTo (.frameStart p got cut) b fun t =>
              (t.port p).tx = [{ z with stage := .sending, bytes := b.ptpBytes p z, startAt := b.ticks }] ∧ t.out = b.out ∧
              t.regions = b.regions))) ∧
    (∀ d got cut, (b.port p).tx = [d, c] → d.stage = .sending → d.express = false → c.stage = .fifo → c.express = true →
      b.frozen (dieOfPort p) = false → up = true → (b.port p).ctrl = [] → b.pausedOut p c = false →
      b.mayPreempt p = true → b.flag (R.MAC_PREEMPT_STATUS p) F.MAC_PREEMPT_STATUS_ACTIVE = true → b.mayCut p d cut = true →
      c.bytes.length ≤ got → c.bytes.length ≤ 4096 → s.pkt.bad = false → b.fld (R.MAC_PORT_STATE p) F.MAC_PORT_STATE_LB_MODE ≠ 2 →
      TakesTo (.frameStart p got cut) b fun t =>
        ∃ l, (t.port p).tx = [{ d with stage := .preempted, sent := cut },
                              { c.fill got with stage := .sending, bytes := l, startAt := b.ticks }]) ∧
    ((b.port p).tx = [c] → c.stage = .sending → s.whole = true →
      let out := padded c.bytes
      (s.pkt.bad = false →
        TakesTo (.frameTxEnd p) b fun t => (t.port p).tx = [] ∧ freed t ∧
          (b.landsOff p = false → t.out = b.out ++ [.wire p (out ++ fcsOf out)] ∧
            (b.frozen (dieOfPort p) = false → t.ctr (R.MAC_TX_FRAMES_OK p) = (b.ctr (R.MAC_TX_FRAMES_OK p) + 1) % 2 ^ 64))) ∧
      (s.pkt.bad = true →
        TakesTo (.frameTxEnd p) b fun t => (t.port p).tx = [] ∧ freed t ∧
          (b.landsOff p = false → t.out = b.out ++ [.wire p (out ++ stompOf out)])) ∧
      ∀ n, Takes (.txUnderrun p n) b b) ∧
    (∀ d, (b.port p).tx = [c, d] → c.stage = .sending → d.stage = .preempted → s.whole = true → b.landsOff p = false →
      (b.port p).ctrl = [] ∨ b.mayPreempt p = false →
      TakesTo (.frameTxEnd p) b fun t => (t.port p).tx = [{ d with stage := .sending, startAt := b.ticks }]) ∧
    (∀ n, (b.port p).tx = [c] → c.stage = .sending → s.whole = false →
      let out := c.bytes.take n
      let th := b.fld (R.PRT_CT_CFG p) F.PRT_CT_CFG_THRESH
      Takes (.frameTxEnd p) b b ∧
      TakesTo (.txUnderrun p n) b fun t => (t.port p).tx = [] ∧ freed t ∧
        (b.landsOff p = false → t.out = b.out ++ [.wire p (out ++ stompOf out)]) ∧
        t.fld (R.PRT_CT_CFG p) F.PRT_CT_CFG_THRESH =
          (if b.flag (R.PRT_CT_CFG p) F.PRT_CT_CFG_STEP_EN = true ∧ th < 32 then th + 1 else th))

/-- SHAPER_REFILL, SHAPER_COMMIT, QUEUE_SAMPLE and SAMP_CLR_MAX (R328 to R330, R349, R350). A write of a shaper's CTRL checks the
staged settings, and the next refill of its die puts them in force; a bucket that is enabled afresh starts full, and a refill never
takes one beyond its burst. A visit of the sampler writes the queue's depth and delay and keeps their greatest values, until
CLR_MAX. Each of the four completes under the hypotheses on the block alone. -/
def Obligations.ShapersRefillAndQueuesAreSampled : Prop :=
  (∀ (b : Block) (w : Writer) (G : Fin 8) (n : Fin 9216) (v : BitVec 32), b.reaches w .rgn →
    let c := b.shStaged G n v.toNat
    (c.ok = false → Takes (.shaperCommit w G n v) b (b.refuse w (shpCtrl G n))) ∧
    (c.ok = true →
      TakesTo (.shaperCommit w G n v) b fun t => t.shaper G n = { b.shaper G n with pend := some c } ∧
        (∀ m, m ≠ n.val → t.shaper G m = b.shaper G m) ∧ ∀ a, a ≠ shpCtrl G n → t.word a = b.word a)) ∧
  (∀ (b : Block) (d : Fin 4), b.frozen d = true → Takes (.shaperRefill d) b b) ∧
  (∀ (b : Block) (d : Fin 4) (G n : Nat) (s : Shaper),
    b.frozen d = false → G / 2 = d → (b.region G).shapers = [(n, s)] →
    TakesTo (.shaperRefill d) b fun t =>
      let u := t.shaper G n
      let e := s.commit
      u.cfg = e.cfg ∧ u.pend = none ∧
      (e.cfg.minEn = true → e.minTok ≤ burstTok e.cfg.minBurst →
        e.minTok + (e.cfg.minRate * 65536 / 1000 : Nat) ≤ burstTok e.cfg.minBurst →
        e.minTok + (e.cfg.minRate * 65536 / 1000 : Nat) ≤ u.minTok ∧ u.minTok ≤ e.minTok + (e.cfg.minRate * 65536 / 1000 + 1 : Nat)) ∧
      (e.cfg.minEn = true → u.minTok ≤ burstTok e.cfg.minBurst) ∧ (e.cfg.maxEn = true → u.maxTok ≤ burstTok e.cfg.maxBurst) ∧
      (e.cfg.minEn = false → u.minTok = e.minTok) ∧ (e.cfg.maxEn = false → u.maxTok = e.maxTok) ∧
      (∀ H, H / 2 ≠ d.val → t.region H = b.region H) ∧ t.regs = b.regs) ∧
  (∀ (b : Block) (G : Fin 8) (q : BitVec 13),
    let x := (b.region G).queue q.toNat
    let depth := x.onDie + x.siloCells
    (b.frozen (G.val / 2) = true → Takes (.queueSample G q) b b) ∧
    (b.frozen (G.val / 2) = false → depth < 2 ^ 32 →
      (∀ y r, x.ptrs = y :: r →
        TakesTo (.queueSample G q) b fun t =>
          let delay := sat 0xFFFFFFFF (b.ticks - y.enq)
          t.word (R.RGN_QSAMP_DEPTH G q.toNat) = depth ∧ t.word (R.RGN_QSAMP_DELAY G q.toNat) = delay ∧
          t.word (R.RGN_QSAMP_DEPTH_MAX G q.toNat) = max depth (b.word (R.RGN_QSAMP_DEPTH_MAX G q.toNat)) ∧
          t.word (R.RGN_QSAMP_DELAY_MAX G q.toNat) = max delay (b.word (R.RGN_QSAMP_DELAY_MAX G q.toNat)) ∧
          t.regions = b.regions ∧ t.ctrs = b.ctrs) ∧
      (x.ptrs = [] → x.silo = [] →
        TakesTo (.queueSample G q) b fun t =>
          t.word (R.RGN_QSAMP_DELAY G q.toNat) = 0 ∧ t.inflight = b.inflight ∧ t.regions = b.regions))) ∧
  (∀ (b : Block) (w : Writer) (G : Fin 8) (v : BitVec 32), b.reaches w .rgn →
    (F.RGN_SAMP_CFG_CLR_MAX.of v.toNat = 0 → Takes (.sampClrMax w G v) b (b.storeReg w (R.RGN_SAMP_CFG G) v.toNat)) ∧
    (F.RGN_SAMP_CFG_CLR_MAX.of v.toNat = 1 →
      TakesTo (.sampClrMax w G v) b fun t =>
        ∀ q, q < 8192 → t.word (R.RGN_QSAMP_DEPTH_MAX G q) = 0 ∧ t.word (R.RGN_QSAMP_DELAY_MAX G q) = 0 ∧
          t.word (R.RGN_QSAMP_DEPTH G q) = b.word (R.RGN_QSAMP_DEPTH G q) ∧
          t.word (R.RGN_QSAMP_DELAY G q) = b.word (R.RGN_QSAMP_DELAY G q)))

/-! ## Gate lists (spec/11) and time (spec/12) -/

/-- GATE_ENTRY_END and GATE_CYCLE_START (R340, R343, R345). The stretch of a list that holds an instant starts at or before it,
ends after it, and shows the states of its entry, which the list has. When the stretch in force has run, the one at its end takes
effect, within a cycle by GATE_ENTRY_END and at a cycle's start by GATE_CYCLE_START; before that, and at a change time, neither
acts on the list. A list that was stopped resumes at its resume time. (Both commands also bring how much has come of the port's
head frames that are still arriving: `Block.seen`.) Both complete on every block. -/
def Obligations.GateListsRunEntryByEntry : Prop :=
  (∀ (b : Block) (p v : Nat) (l : GateList),
    1 ≤ l.count → 1 ≤ l.cycle → l.base ≤ v → (∀ i, i < l.count → 1 ≤ (b.gateEntry p l.bank i).interval) →
    let s := b.listSeg p l v
    s.start ≤ v ∧ v < s.stop ∧ s.entry < l.count ∧ s.states = (b.gateEntry p l.bank s.entry).states ∧
    (l.cycleOf v ≤ v ∧ v < l.cycleOf v + l.cycle ∧ (l.cycleOf v - l.base) % l.cycle = 0)) ∧
  ∀ (b : Block) (p : Fin 256) (got : Nat),
    let g := (b.port p).gate
    let s := b.gateSeg p g.entryAt
    let still (c : Instr) : Prop := Takes c b (b.seen p got)
    let starts := (b.operList p).cycleOf s.stop = s.stop
    let moves (v : Nat) (t : Block) : Prop :=
      let n := b.gateSeg p v
      (t.port p).gate = { g with entryAt := n.start, run := true, resumeAt := none, holdTill := none } ∧
      t.fld (R.PRT_GATE_STATUS p) F.PRT_GATE_STATUS_ENTRY = n.entry % 2 ^ 10 ∧
      (∀ a, a ≠ R.PRT_GATE_STATUS p → t.word a = b.word a) ∧ ∀ q, q ≠ p.val → t.port q = b.port q
    (b.gateRuns p = true → s.stop ≤ b.portNs p → g.changeAt ≠ some s.stop →
      (¬ starts → TakesTo (.gateEntryEnd ⟨p, got⟩) b (moves s.stop) ∧ still (.gateCycleStart ⟨p, got⟩)) ∧
      (starts → TakesTo (.gateCycleStart ⟨p, got⟩) b (moves s.stop) ∧ still (.gateEntryEnd ⟨p, got⟩))) ∧
    (b.gateRuns p = true → b.portNs p < s.stop ∨ g.changeAt = some s.stop →
      still (.gateEntryEnd ⟨p, got⟩) ∧ still (.gateCycleStart ⟨p, got⟩)) ∧
    (∀ v, (b.tbase (b.portBase p)).state = .stepped → g.run = false → g.resumeAt = some v →
      (v ≤ b.portNs p → TakesTo (.gateCycleStart ⟨p, got⟩) b (moves v)) ∧ (b.portNs p < v → still (.gateCycleStart ⟨p, got⟩))) ∧
    ((b.tbase (b.portBase p)).state ≠ .stepped → still (.gateEntryEnd ⟨p, got⟩) ∧ still (.gateCycleStart ⟨p, got⟩))

/-- GATE_CHANGE_REQUEST, GATE_CANCEL, GATE_CHANGE, GCL_ADDR and GCL_WRITE (R343, R344, R348). A request for a list that is out of
bounds, or while one is pending, sets CHANGE_ERR and is refused; else it is pending, and its change time is the first cycle start
of the new list at least 2 µs on. At the change time the administrative list becomes the operating one, with entry 0. Entries of
the bank that does not operate are written through GCL_ADDR and GCL_DATA. Each of the five completes on every block that its writer
reaches. -/
def Obligations.GateListsChangeAtTheirChangeTime : Prop :=
  (∀ (b : Block) (w : Writer) (p : Fin 256) (v : BitVec 32), b.reaches w .prt →
    let st := R.PRT_GATE_STATUS p
    let g := (b.port p).gate
    (F.PRT_GATE_CTRL_CHANGE.of v.toNat = 0 → Takes (.gateChangeRequest w p v) b b) ∧
    (F.PRT_GATE_CTRL_CHANGE.of v.toNat = 1 → b.badChange p = true →
      Takes (.gateChangeRequest w p v) b ((b.raise st F.PRT_GATE_STATUS_CHANGE_ERR).refuse w (R.PRT_GATE_CTRL p))) ∧
    (F.PRT_GATE_CTRL_CHANGE.of v.toNat = 1 → b.badChange p = false → (b.tbase (b.portBase p)).state = .stepped →
      TakesTo (.gateChangeRequest w p v) b fun t =>
        t.flag st F.PRT_GATE_STATUS_PENDING = true ∧
        ∃ n c, (t.port p).gate = { g with changeAt := some c } ∧ c = b.adminBase p + n * b.word (R.PRT_GATE_ADMIN_CYCLE p) ∧
          b.portNs p + 2000 ≤ c ∧ (n ≠ 0 → c < b.portNs p + 2000 + b.word (R.PRT_GATE_ADMIN_CYCLE p))) ∧
    (F.PRT_GATE_CTRL_CHANGE.of v.toNat = 1 → b.badChange p = false → (b.tbase (b.portBase p)).state ≠ .stepped →
      Takes (.gateChangeRequest w p v) b (b.raise st F.PRT_GATE_STATUS_PENDING)) ∧
    (F.PRT_GATE_CTRL_CANCEL.of v.toNat = 0 → Takes (.gateCancel w p v) b b) ∧
    (F.PRT_GATE_CTRL_CANCEL.of v.toNat = 1 →
      TakesTo (.gateCancel w p v) b fun t => t.flag st F.PRT_GATE_STATUS_PENDING = false ∧
        (t.port p).gate = { g with changeAt := none } ∧ (∀ a, a ≠ st → t.word a = b.word a) ∧
        ∀ q, q ≠ p.val → t.port q = b.port q) ∧
    (TakesTo (.gclAddr w p v) b fun t =>
      t.word (R.PRT_GCL_ADDR p) = (b.storeReg w (R.PRT_GCL_ADDR p) v.toNat).word (R.PRT_GCL_ADDR p) ∧
      (let e := b.gateEntry p (t.fld (R.PRT_GCL_ADDR p) F.PRT_GCL_ADDR_BANK) (t.fld (R.PRT_GCL_ADDR p) F.PRT_GCL_ADDR_ENTRY)
       t.word (R.PRT_GCL_DATA0 p) = e.states % 2 ^ 32 ∧ t.word (R.PRT_GCL_DATA1 p) = e.interval % 2 ^ 32) ∧ t.ports = b.ports) ∧
    (let bank := b.fld (R.PRT_GCL_ADDR p) F.PRT_GCL_ADDR_BANK
     let i := b.fld (R.PRT_GCL_ADDR p) F.PRT_GCL_ADDR_ENTRY
     (bank = b.operBank p ∨ b.flag st F.PRT_GATE_STATUS_PENDING = true →
       Takes (.gclWrite w p v) b (b.refuse w (R.PRT_GCL_DATA1 p))) ∧
     (bank ≠ b.operBank p → b.flag st F.PRT_GATE_STATUS_PENDING = false →
       TakesTo (.gclWrite w p v) b fun t =>
         t.gateEntry p bank i = ⟨b.word (R.PRT_GCL_DATA0 p) % 256, t.word (R.PRT_GCL_DATA1 p) % 2 ^ 30⟩ ∧
         ∀ k j, j < 1024 → (k, j) ≠ (bank, i) → t.gateEntry p k j = b.gateEntry p k j))) ∧
  ∀ (b : Block) (p : Fin 256) (got : Nat),
    let st := R.PRT_GATE_STATUS p
    let g := (b.port p).gate
    (g.changeAt = none → Takes (.gateChange ⟨p, got⟩) b (b.seen p got)) ∧
    ∀ c, g.changeAt = some c →
      ((b.tbase (b.portBase p)).state ≠ .stepped ∨ b.portNs p < c → Takes (.gateChange ⟨p, got⟩) b (b.seen p got)) ∧
      ((b.tbase (b.portBase p)).state = .stepped → c ≤ b.portNs p →
        TakesTo (.gateChange ⟨p, got⟩) b fun t =>
          t.operBank p = 1 - b.operBank p ∧ t.flag st F.PRT_GATE_STATUS_PENDING = false ∧
          t.flag st F.PRT_GATE_STATUS_CHANGED = true ∧ t.fld st F.PRT_GATE_STATUS_ENTRY = 0 ∧
          t.word (R.PRT_GATE_OPER_CYCLE p) = b.word (R.PRT_GATE_ADMIN_CYCLE p) ∧
          t.word (R.PRT_GATE_OPER_COUNT p) = b.word (R.PRT_GATE_ADMIN_COUNT p) ∧
          t.word (R.PRT_GATE_OPER_BASE_NS p) = b.word (R.PRT_GATE_ADMIN_BASE_NS p) ∧
          t.word (R.PRT_GATE_OPER_BASE_S_LO p) = b.word (R.PRT_GATE_ADMIN_BASE_S_LO p) ∧
          t.word (R.PRT_GATE_OPER_BASE_S_HI p) = b.word (R.PRT_GATE_ADMIN_BASE_S_HI p) ∧
          (t.port p).gate = { g with changeAt := none, resumeAt := none, holdTill := none, run := true, entryAt := c })

/-- TIME_ARM, TIME_STEP_REQUEST, TIME_STEP, RATE_WRITE and TIME_CAPTURE (R345, R353, R356 to R358, R362, R369). ARM takes effect at
its write, and the lists on a base that ran stop; while a switch is pending, arming the target cancels it, and arming the old base
ends it, with every port switched at once. A STEP takes the values written before it, and 100 ns later sets an armed base, or adds
to it; a base that is not armed, or a value out of range, refuses it and says so. A rate is committed by its high half. CAPTURE
latches both bases and the reference count of one instant. TIME_REFCLK, TIME_REFCLK_RELOCK, BASE_SWITCH_REQUEST and PORT_SWITCH
(R355, R360, R361, R370). The loss of the clock is told once; at relock both bases stand UNARMED at 0 and every list stops. A
switch needs a stepped target and none pending; each port switches at its cycle's end, or 2 µs after the request where its list
does not run; with the last one the target is the active base. Each of the nine completes on every block that its writer reaches.
-/
def Obligations.BasesAreSteppedCapturedAndSwitched : Prop :=
  ((∀ (b : Block) (i : Fin 2) (v : BitVec 32), b.reaches .host .tim →
    let x := b.tbase i
    (F.TIM_BASE_CTRL_ARM.of v.toNat = 0 → Takes (.timeArm i v) b b) ∧
    (F.TIM_BASE_CTRL_STEP.of v.toNat = 0 → Takes (.timeStepRequest i v) b b) ∧
    (F.TIM_BASE_CTRL_ARM.of v.toNat = 1 → F.TIM_BASE_CTRL_STEP.of v.toNat = 0 →
      (b.switching = true → TakesTo (.timeArm i v) b fun t => t.tbase i = { x with state := .armed } ∧
        t.tbase (1 - i.val) = b.tbase (1 - i.val) ∧ t.switching = false ∧ (∀ p, p < 256 → (t.port p).onTarget = false) ∧
        (b.fld R.TIM_ACTIVE_STATUS F.TIM_ACTIVE_STATUS_TARGET = i → t.active = b.active ∧
          t.flag R.TIM_ACTIVE_STATUS F.TIM_ACTIVE_STATUS_CANCELLED = true) ∧
        (b.fld R.TIM_ACTIVE_STATUS F.TIM_ACTIVE_STATUS_TARGET ≠ i →
          t.active = b.fld R.TIM_ACTIVE_STATUS F.TIM_ACTIVE_STATUS_TARGET)) ∧
      (x.state ≠ .stepped → b.switching = false → TakesTo (.timeArm i v) b fun t => t.tbase i = { x with state := .armed } ∧
        t.tbase (1 - i.val) = b.tbase (1 - i.val) ∧ t.ports = b.ports ∧ t.regs = b.regs) ∧
      (x.state = .stepped → b.switching = false → TakesTo (.timeArm i v) b fun t => t.tbase i = { x with state := .armed } ∧
        t.tbase (1 - i.val) = b.tbase (1 - i.val) ∧ t.regs = b.regs ∧
        (∀ p, p < 256 → b.portBase p = i.val → (t.port p).gate.run = false ∧ (t.port p).gate.changeAt = none) ∧
        ∀ p, p < 256 → b.portBase p ≠ i.val → t.port p = b.port p)) ∧
    (F.TIM_BASE_CTRL_ARM.of v.toNat = 0 → F.TIM_BASE_CTRL_STEP.of v.toNat = 1 →
      TakesTo (.timeStepRequest i v) b fun t => t.tbase i = { x with steps := x.steps ++
          [⟨b.ticks + 100, b.flag (R.TIM_STEP_MODE i) F.TIM_STEP_MODE_M,
            b.word (R.TIM_STEP_S_HI i) % 65536 * 2 ^ 32 + b.word (R.TIM_STEP_S_LO i), b.fld (R.TIM_STEP_NS i) F.TIM_STEP_NS_V⟩] } ∧
        t.tbase (1 - i.val) = b.tbase (1 - i.val) ∧ t.regs = b.regs ∧ t.ports = b.ports)) ∧
  (∀ (b : Block) (i : Fin 2),
    let x := b.tbase i
    (x.steps = [] → Takes (.timeStep i) b b) ∧
    ∀ y rest, x.steps = y :: rest →
      (b.ticks < y.at_ → Takes (.timeStep i) b b) ∧
      (y.at_ ≤ b.ticks → x.state ≠ .armed → TakesTo (.timeStep i) b fun t =>
        t.tbase i = { x with steps := rest } ∧ t.flag (R.TIM_BASE_STATUS i) F.TIM_BASE_STATUS_STEP_REFUSED = true ∧
        t.inflight = (b.send 1 i 0x51 0).inflight ∧ t.ports = b.ports) ∧
      (y.at_ ≤ b.ticks → x.state = .armed → x.stepTo y = none → TakesTo (.timeStep i) b fun t =>
        t.tbase i = { x with steps := rest } ∧ t.flag (R.TIM_BASE_STATUS i) F.TIM_BASE_STATUS_STEP_ERR = true ∧
        t.inflight = (b.send 1 i 0x51 0).inflight ∧ t.ports = b.ports) ∧
      (∀ s ns fr, y.at_ ≤ b.ticks → x.state = .armed → x.stepTo y = some (s, ns, fr) → TakesTo (.timeStep i) b fun t =>
        t.tbase i = { x with steps := rest, s := s, ns := ns, frac := fr, state := .stepped } ∧
        t.tbase (1 - i.val) = b.tbase (1 - i.val) ∧
        t.flag (R.TIM_BASE_STATUS i) F.TIM_BASE_STATUS_STEPPED_SEEN = true ∧
        (∃ l, t.inflight = (b.send 1 i 0x50 0).inflight ++ l) ∧
        (∀ p, p < 256 → b.portBase p = i.val → (t.port p).gate.run = false ∧ (t.port p).gate.resumeAt ≠ none) ∧
        ∀ p, p < 256 → b.portBase p ≠ i.val → t.port p = b.port p) ∧
      (y.ns ≤ 999999999 → y.add = false → x.stepTo y = some (y.s, y.ns, 0)) ∧ (999999999 < y.ns → x.stepTo y = none)) ∧
  (∀ (b : Block) (w : Writer) (i : Fin 2) (v : BitVec 32), b.reaches w .tim →
    TakesTo (.rateWrite w i v) b fun t =>
      t.tbase i = { b.tbase i with
        rateNext := some (signed 40 (t.fld (R.TIM_RATE_HI i) F.TIM_RATE_HI_V * 2 ^ 32 + b.word (R.TIM_RATE_LO i))) } ∧
      t.word (R.TIM_RATE_HI i) = (b.storeReg w (R.TIM_RATE_HI i) v.toNat).word (R.TIM_RATE_HI i) ∧
      ∀ a, a ≠ R.TIM_RATE_HI i → t.word a = b.word a) ∧
  (∀ (b : Block) (v : BitVec 32), b.reaches .host .tim →
    (F.TIM_CAPTURE_CAPTURE.of v.toNat = 0 → Takes (.timeCapture v) b b) ∧
    (F.TIM_CAPTURE_CAPTURE.of v.toNat = 1 → b.ticks < 2 ^ 64 → TakesTo (.timeCapture v) b fun t =>
      t = { b with regs := t.regs } ∧ t.word R.TIM_CAP_REF_LO = b.ticks % 2 ^ 32 ∧ t.word R.TIM_CAP_REF_HI = b.ticks / 2 ^ 32 ∧
      ∀ i, i < 2 → (b.tbase i).ns < 2 ^ 30 → (b.tbase i).s < 2 ^ 48 →
        t.word (R.TIM_CAP_NS i) = (b.tbase i).state.code * 2 ^ 30 + (b.tbase i).ns ∧
        t.word (R.TIM_CAP_S_LO i) = (b.tbase i).s % 2 ^ 32 ∧ t.word (R.TIM_CAP_S_HI i) = (b.tbase i).s / 2 ^ 32))) ∧
  ((∀ b : Block,
    (b.refLost = true → Takes .timeRefclk b b) ∧
    (b.refLost = false → TakesTo .timeRefclk b fun t =>
      t.refLost = true ∧ t.flag R.TIM_REF_STATUS F.TIM_REF_STATUS_REFCLK_LOST = true ∧
      t.flag R.TIM_REF_STATUS F.TIM_REF_STATUS_REFCLK_OK = false ∧ t.inflight = (b.send 1 0xFFF 0x53 0).inflight ∧
      t.baseA = b.baseA ∧ t.baseB = b.baseB ∧ t.ports = b.ports) ∧
    (b.refLost = false → Takes .timeRefclkRelock b b) ∧
    (b.refLost = true → b.switching = false → TakesTo .timeRefclkRelock b fun t =>
      t.refLost = false ∧ t.flag R.TIM_REF_STATUS F.TIM_REF_STATUS_REFCLK_OK = true ∧
      t.baseA = { b.baseA with s := 0, ns := 0, frac := 0, state := .unarmed } ∧
      t.baseB = { b.baseB with s := 0, ns := 0, frac := 0, state := .unarmed } ∧
      ∀ p, p < 256 → (t.port p).gate.run = false ∧ (t.port p).gate.changeAt = none ∧ (t.port p).gate.resumeAt = none)) ∧
  (∀ (b : Block) (w : Writer) (v : BitVec 32), b.reaches w .tim →
    let x := 1 - b.active
    (F.TIM_ACTIVE_SWITCH.of v.toNat = 0 → Takes (.baseSwitchRequest w v) b b) ∧
    (F.TIM_ACTIVE_SWITCH.of v.toNat = 1 → b.switching = true ∨ (b.tbase x).state ≠ .stepped →
      Takes (.baseSwitchRequest w v) b (b.refuse w R.TIM_ACTIVE)) ∧
    (F.TIM_ACTIVE_SWITCH.of v.toNat = 1 → b.switching = false → (b.tbase x).state = .stepped →
      TakesTo (.baseSwitchRequest w v) b fun t =>
        t.switching = true ∧ t.fld R.TIM_ACTIVE_STATUS F.TIM_ACTIVE_STATUS_TARGET = x ∧ t.active = b.active ∧
        t.switchTick = b.ticks ∧
        (∀ p, p < 256 → b.gateOn p = true → (b.port p).onTarget = false → b.gateRuns p = true → (b.port p).gate.changeAt = none →
          (b.port p).gate.holdTill = none →
          (t.port p).switchAt = some ((b.operList p).cycleOf (b.port p).gate.entryAt + (b.operList p).cycle)) ∧
        (∀ p, p < 256 → b.gateOn p = false → t.port p = b.port p) ∧ ∀ p, (t.port p).onTarget = (b.port p).onTarget)) ∧
  ∀ (b : Block) (p : Fin 256),
    let due := match (b.port p).switchAt with
      | some e => if b.gateRuns p then e ≤ b.portNs p else b.switchTick + 2000 ≤ b.ticks
      | none => b.switchTick + 2000 ≤ b.ticks
    (b.switching = false ∨ (b.port p).onTarget = true ∨ ¬ due → Takes (.portSwitch p) b b) ∧
    (b.switching = true → (b.port p).onTarget = false → due →
      (∀ q, q < 256 → q ≠ p.val → (b.port q).onTarget = false → TakesTo (.portSwitch p) b fun t =>
        (t.port p).onTarget = true ∧ t.switching = true ∧ t.active = b.active ∧ ∀ k, k ≠ p.val → t.port k = b.port k) ∧
      ((∀ q, q < 256 → q ≠ p.val → (b.port q).onTarget = true) → TakesTo (.portSwitch p) b fun t =>
        t.switching = false ∧ t.active = b.fld R.TIM_ACTIVE_STATUS F.TIM_ACTIVE_STATUS_TARGET ∧
        (∀ q, q < 256 → (t.port q).onTarget = false) ∧ t.inflight = (b.send 1 0xFFF 0x52 0).inflight)))

/-! ## The host interface (spec/13) -/

/-- TX_DOORBELL, RX_DOORBELL, POOL_TAIL, RING_ENABLE, RING_DISABLE (R379, R385, R386, R391, R392, R395). An instance's write to a
ring that it does not own is an access fault; while it resets, its writes are discarded, and a function in D3hot has its doorbells
discarded (R374). A transmit doorbell at or above the ring's size is refused; else the doorbell holds what was written. Enabling a
ring needs a size of at least 64 entries and an aligned base, and sets both its indices to 0; a receive ring that is disabled drops
the frames staged for it, and a transmit ring the read that still waits for an engine. Each of the six completes under the
hypotheses on the block and the operands alone. -/
def Obligations.DoorbellsAndRingEnables : Prop :=
  (∀ (b : Block) (i : Fin 256) (j : BitVec 13) (k : Fin 4) (v : BitVec 32), b.reaches (.inst i) .lay →
    let n := v.toNat % 65536
    (b.ringOf true i j.toNat = none → Takes (.txDoorbell i j v) b (b.accessFault i 1 true (viewOff (R.LAY_TXDB i j.toNat)))) ∧
    (b.ringOf false i j.toNat = none → Takes (.rxDoorbell i j v) b (b.accessFault i 1 true (viewOff (R.LAY_RXDB i j.toNat)))) ∧
    let deaf := b.resetting i = true ∨ (b.inst i).d3hot = true
    (∀ r, b.ringOf true i j.toNat = some r → deaf → Takes (.txDoorbell i j v) b b) ∧
    (∀ r, b.ringOf false i j.toNat = some r → deaf → Takes (.rxDoorbell i j v) b b) ∧
    (∀ r, b.ringOf true i j.toNat = some r → ¬ deaf →
      (b.txSize r ≤ n → Takes (.txDoorbell i j v) b (b.accessFault i 1 true (viewOff (R.LAY_TXDB i j.toNat)))) ∧
      (n < b.txSize r → TakesTo (.txDoorbell i j v) b fun t =>
        t.txRing r = { b.txRing r with
          db := n, since := if b.txAvail r = 0 ∧ (b.txRing r).frame = none then b.ticks else (b.txRing r).since } ∧
        (∀ q, q ≠ r → t.txRing q = b.txRing q) ∧ t = { b with ctrs := t.ctrs, txRings := t.txRings })) ∧
    (∀ r, b.ringOf false i j.toNat = some r → ¬ deaf → TakesTo (.rxDoorbell i j v) b fun t =>
      t.rxRing r = { b.rxRing r with db := n } ∧ (∀ q, q ≠ r → t.rxRing q = b.rxRing q) ∧
      t = { b with ctrs := t.ctrs, rxRings := t.rxRings }) ∧
    (deaf → Takes (.poolTail i k v) b b) ∧
    (¬ deaf → TakesTo (.poolTail i k v) b fun t =>
      t.word (R.LAY_POOL_TAIL i k) = n ∧ (∀ a, a ≠ R.LAY_POOL_TAIL i k → t.word a = b.word a) ∧
      t.pool i k = { b.pool i k with failed := false } ∧ t = { b with regs := t.regs, ctrs := t.ctrs, pools := t.pools })) ∧
  ∀ (b : Block) (w : Writer) (r : BitVec 13) (v : BitVec 32), b.reaches w .hif →
    let on := F.HIF_TXR_CFG_ENABLE.put v.toNat 1
    let off := F.HIF_TXR_CFG_ENABLE.put v.toNat 0
    let R_ := r.toNat
    let small := F.HIF_TXR_CFG_SIZE_LOG2.of v.toNat < 6
    (small ∨ b.word (R.HIF_TXR_BASE_LO R_) % 4096 ≠ 0 → Takes (.ringEnable w true r v) b (b.refuse w (R.HIF_TXR_CFG R_))) ∧
    (small ∨ b.word (R.HIF_RXR_BASE_LO R_) % 4096 ≠ 0 → Takes (.ringEnable w false r v) b (b.refuse w (R.HIF_RXR_CFG R_))) ∧
    (¬ small → b.word (R.HIF_TXR_BASE_LO R_) % 4096 = 0 → TakesTo (.ringEnable w true r v) b fun t =>
      t.txRing R_ = {} ∧ t.ringInt true R_ = { reg := (b.ringInt true R_).reg } ∧
      t.word (R.HIF_TXR_CFG R_) = (b.storeReg w (R.HIF_TXR_CFG R_) on).word (R.HIF_TXR_CFG R_) ∧
      ∀ q, q ≠ R_ → t.txRing q = b.txRing q) ∧
    (¬ small → b.word (R.HIF_RXR_BASE_LO R_) % 4096 = 0 → TakesTo (.ringEnable w false r v) b fun t =>
      t.rxRing R_ = {} ∧ t.ringInt false R_ = { reg := (b.ringInt false R_).reg } ∧
      t.word (R.HIF_RXR_CFG R_) = (b.storeReg w (R.HIF_RXR_CFG R_) on).word (R.HIF_RXR_CFG R_) ∧
      ∀ q, q ≠ R_ → t.rxRing q = b.rxRing q) ∧
    (let c := b.storeReg w (R.HIF_TXR_CFG R_) off
     Takes (.ringDisable w true r v) b { c with jobs := c.jobs.filter fun j => j.kind != .txRead R_ }) ∧
    (∀ i, b.rxOwner R_ = some i → (∀ h ∈ b.slow, h.ring = R_ → h.written = []) →
      TakesTo (.ringDisable w false r v) b fun t =>
        t.slow = b.slow.filter (fun h => h.ring != R_) ∧
        t.ctr R.HIF_RING_DISABLED_DROP = (b.ctr R.HIF_RING_DISABLED_DROP + (b.slow.filter fun h => h.ring == R_).length) % 2 ^ 64 ∧
        t.regs = (b.storeReg w (R.HIF_RXR_CFG R_) off).regs)

/-- RING_INT_ARM, RING_INT_TIMER, INT0_ACK, MBOX_SEND_TO_VF and MBOX_SEND_TO_PF (R380, R399, R400). A write of a ring's interrupt
register stores its fields; a 1 in ARM arms it, and completions count from then on. An armed interrupt that is enabled is sent once
COUNT completions have come, or TIMER µs after the first of them, and disarms; a vector beyond the instance's table is an access
fault. A message goes out where MSI-X is enabled and the vector not masked, and stays pending where it is masked (assumption 26,
the model's reading of PCIe). INT0_ACK has a cause that is still pending sent again; a mailbox message is copied and raises the
other side's pending bit, and is refused while that is set. Each of the five completes under the hypotheses on the block and the
operands alone. -/
def Obligations.InterruptsAndMailboxes : Prop :=
  (∀ (b : Block) (tx : Bool) (i : Fin 256) (j : BitVec 13) (v : BitVec 32), b.reaches (.inst i) .lay →
    let a := if tx then R.LAY_TXINT i j.toNat else R.LAY_RXINT i j.toNat
    let vec := F.LAY_RXINT_VECTOR.of v.toNat
    let rest := F.LAY_RXINT_EN.of v.toNat * 2 ^ 30 + vec * 2 ^ 16 + F.LAY_RXINT_COUNT.of v.toNat * 2 ^ 8 + F.LAY_RXINT_TIMER.of v.toNat
    (b.ringOf tx i j.toNat = none → Takes (.ringIntArm tx i j v) b (b.accessFault i 1 true (viewOff a))) ∧
    (∀ r, b.ringOf tx i j.toNat = some r → b.resetting i = true → Takes (.ringIntArm tx i j v) b b) ∧
    (∀ r, b.ringOf tx i j.toNat = some r → b.resetting i = false →
      let x := b.ringInt tx r
      let y : RingInt := if x.arm then { x with reg := 2 ^ 31 + rest } else { reg := F.LAY_RXINT_ARM.of v.toNat * 2 ^ 31 + rest }
      let sends := y.arm = true ∧ F.LAY_RXINT_EN.of v.toNat = 1 ∧ y.due b.ticks = true
      (vec < b.vectors i → ¬ sends → TakesTo (.ringIntArm tx i j v) b fun t =>
        t.ringInt tx r = y ∧ t = { b with ringInts := t.ringInts } ∧ ∀ k, k ≠ ringKey tx r → SMap.get {} t.ringInts k = SMap.get {} b.ringInts k) ∧
      (vec < b.vectors i → sends → TakesTo (.ringIntArm tx i j v) b fun t =>
        t.ringInt tx r = { reg := rest } ∧ t.out = (b.msix i vec).out ∧ t.insts = (b.msix i vec).insts ∧ t.regs = b.regs) ∧
      (b.vectors i ≤ vec → TakesTo (.ringIntArm tx i j v) b fun t =>
        t.ringInt tx r = y ∧ t = { b.accessFault i 1 true (viewOff a) with ringInts := t.ringInts }))) ∧
  (∀ (b : Block) (i vec : Nat),
    let t := b.msix i vec
    t.out = b.out ++ (if b.msixOpen i vec then [.msix i vec] else []) ∧
    (b.msixOpen i vec = true ∨ (b.inst i).msixEn = false → t.insts = b.insts) ∧
    (b.msixOpen i vec = false → (b.inst i).msixEn = true →
      t.inst i = { b.inst i with msixPend := (b.inst i).msixPend ||| 2 ^ vec } ∧ ∀ k, k ≠ i → t.inst k = b.inst k) ∧
    t = { b with out := t.out, ctrs := t.ctrs, insts := t.insts }) ∧
  (∀ (b : Block) (tx : Bool) (r : BitVec 13),
    let owner := if tx then b.txOwner r.toNat else b.rxOwner r.toNat
    (owner = none → Takes (.ringIntTimer tx r) b b) ∧
    ∀ i, owner = some i →
      let x := b.ringInt tx r.toNat
      let vec := F.LAY_RXINT_VECTOR.of x.reg
      let due := 0 < x.done ∧ (F.LAY_RXINT_COUNT.of x.reg ≤ x.done ∨
        ∃ f, x.first = some f ∧ f + F.LAY_RXINT_TIMER.of x.reg * 1000 ≤ b.ticks)
      let on := x.arm = true ∧ F.LAY_RXINT_EN.of x.reg = 1 ∧ vec < b.vectors i
      (¬ (due ∧ on) → Takes (.ringIntTimer tx r) b b) ∧
      (due ∧ on → TakesTo (.ringIntTimer tx r) b fun t =>
        t.ringInt tx r.toNat = { reg := F.LAY_RXINT_ARM.put x.reg 0 } ∧ t.out = (b.msix i vec).out ∧
        t.insts = (b.msix i vec).insts ∧ t.regs = b.regs)) ∧
  (∀ (b : Block) (v : BitVec 32), b.reaches .host .hif →
    ((∀ n, n < 10 → bitOf v.toNat n = true → b.causePending n = false) → Takes (.int0Ack v) b b) ∧
    (∀ n, n < 10 → b.causePending n = true → v.toNat = 2 ^ n →
      Takes (.int0Ack v) b (b.msix 0 (b.fld (R.HIF_INT0_VEC n) F.HIF_INT0_VEC_V)))) ∧
  (∀ (b : Block) (w : Writer) (i : Fin 256) (v : BitVec 32), b.reaches w .ins →
    let c := R.INS_MBOX_CTRL i
    (F.INS_MBOX_CTRL_SEND.of v.toNat = 0 → Takes (.mboxSendToVf w i v) b b) ∧
    (F.INS_MBOX_CTRL_SEND.of v.toNat = 1 → b.flag (R.LAY_MBOX_CTRL i) F.LAY_MBOX_CTRL_FROM_PF_PENDING = true →
      Takes (.mboxSendToVf w i v) b ((b.storeReg w c v.toNat).refuse w c)) ∧
    (F.INS_MBOX_CTRL_SEND.of v.toNat = 1 → b.flag (R.LAY_MBOX_CTRL i) F.LAY_MBOX_CTRL_FROM_PF_PENDING = false →
      TakesTo (.mboxSendToVf w i v) b fun t =>
        t.flag (R.LAY_MBOX_CTRL i) F.LAY_MBOX_CTRL_FROM_PF_PENDING = true ∧
        (∀ k, k < 16 → t.word (R.LAY_MBOX_FROM_PF i k) = b.word (R.INS_MBOX_TO_VF i k)) ∧
        (let vec := b.word (R.LAY_MBOX_VEC i) % 64
         t.out = if vec < b.vectors i then (b.msix i vec).out else b.out))) ∧
  ∀ (b : Block) (i : Fin 256) (v : BitVec 32), b.reaches (.inst i) .lay →
    let l := R.LAY_MBOX_CTRL i
    (F.LAY_MBOX_CTRL_SEND.of v.toNat = 0 ∨ b.resetting i = true → Takes (.mboxSendToPf i v) b b) ∧
    (F.LAY_MBOX_CTRL_SEND.of v.toNat = 1 → b.resetting i = false →
      (b.flag (R.INS_MBOX_CTRL i) F.INS_MBOX_CTRL_TO_PF_PENDING = true →
        Takes (.mboxSendToPf i v) b ((b.storeReg (.inst i) l v.toNat).accessFault i 1 true (viewOff l))) ∧
      (b.flag (R.INS_MBOX_CTRL i) F.INS_MBOX_CTRL_TO_PF_PENDING = false →
        TakesTo (.mboxSendToPf i v) b fun t =>
          t.flag (R.INS_MBOX_CTRL i) F.INS_MBOX_CTRL_TO_PF_PENDING = true ∧
          (∀ k, k < 16 → t.word (R.INS_MBOX_FROM_VF i k) = b.word (R.LAY_MBOX_TO_PF i k)) ∧
          (b.causePending 8 = false → bitOf (b.word R.HIF_INT0_MASK) 8 = true →
            t.out = (b.msix 0 (b.fld (R.HIF_INT0_VEC 8) F.HIF_INT0_VEC_V)).out)))

/-- TX_FETCH, INJECT, INJECT_TIMEOUT, TX_DIRECT_HANDOFF, DMA_ERR and DMA_JOB_DONE (R376, R386 to R390, R401). A read of host memory
takes an engine: while it waits for one it is among the jobs, and nothing else happens; once it has one, the ring whose turn it is
gives its next frame: one with a bad descriptor, or beyond what its instance may send, completes with its status at once; a direct
one goes to the host link of its region, any other through the injection buffer of its port to the pipe, which takes it with a
number of that moment, and a frame whose port's die is held, or that stands too long, completes with the status of that. A job's
writes reach host memory when its engine completes it, after the earlier ones of its ring. Each of the six completes under the
hypotheses on the block and the operands alone. -/
def Obligations.TransmitRingsFetchInjectAndComplete : Prop :=
  (∀ (b : Block) (raw data : List Byte),
    (b.txTurn = none → Takes (.txFetch raw data) b b ∧ Takes (.dmaErr (.txData raw)) b b) ∧
    ∀ i r, b.txTurn = some (i, r) → b.txOwner r = some i →
      (b.readGot i (.txRead r) = none →
        Takes (.txFetch raw data) b (b.askRead i (.txRead r)) ∧ Takes (.dmaErr (.txData raw)) b (b.askRead i (.txRead r))) ∧
      ∀ c, b.readGot i (.txRead r) = some c →
      let all := descsOf (min 8 (b.txAvail r)) raw
      (frameSlots 0 all = none → Takes (.txFetch raw data) b (c.dispatchDma 17)) ∧
      ∀ n, frameSlots 0 all = some n →
        let ds := all.take n
        let f := txFrameOf i r (b.txRing r).fetch ds data
        let ends (counter : Nat) (t : Block) : Prop :=
          (t.txRing r).frame = none ∧ (t.txRing r).fetch = (b.txRing r).fetch + n ∧ t.txLast = i ∧ t.frames = b.frames ∧
          t.ctr counter = (b.ctr counter + 1) % 2 ^ 64
        let passes := badDesc ds = false ∧ b.txDenies i (ds.headD []) = false
        (badDesc ds = true ∨ b.txDenies i (ds.headD []) = true →
          TakesTo (.txFetch raw data) b (ends (R.INS_TX_DENIED i)) ∧ TakesTo (.dmaErr (.txData raw)) b (ends (R.INS_TX_DENIED i))) ∧
        (passes → b.frozen (dieOfPort f.port) = true → TakesTo (.txFetch raw data) b (ends (R.INS_TX_HELD i))) ∧
        (passes → b.frozen (dieOfPort f.port) = false → f.direct = true → TakesTo (.txFetch raw data) b fun t =>
          (t.txRing r).frame = some f ∧ (t.txRing r).fetch = (b.txRing r).fetch + n ∧ t.txLast = i ∧ t.frames = b.frames) ∧
        (passes → b.frozen (dieOfPort f.port) = false → f.direct = false →
          let u := wholeFrame f.bytes
          (b.injectFill f.port + u.length ≤ 32768 → TakesTo (.txFetch raw data) b fun t =>
            (t.txRing r).frame = some { f with id := some b.nextFrame } ∧ (t.frame b.nextFrame).bytes = u ∧
            (t.frame b.nextFrame).loc = .injected ∧ (t.frame b.nextFrame).host = some f.host ∧
            ∀ k, k ≠ b.nextFrame → t.frame k = b.frame k) ∧
          (32768 < b.injectFill f.port + u.length → TakesTo (.txFetch raw data) b fun t =>
            (t.txRing r).frame = some f ∧ t.frames = b.frames)) ∧
        (passes → b.frozen (dieOfPort f.port) = false → TakesTo (.dmaErr (.txData raw)) b (ends (R.INS_TX_DMA_ERR i)))) ∧
  (∀ (b : Block) (i : Fin 256) (k : Fin 4),
    let x := b.pool i k
    let idle := b.poolOn i k = false ∨ b.resetting i = true ∨ x.failed = true ∨ 32 ≤ x.cache.length ∨ b.poolEntries i k = 0
    (idle → Takes (.dmaErr (.pool i k)) b b) ∧
    (¬ idle → b.readGot i (.poolRead k) = none → Takes (.dmaErr (.pool i k)) b (b.askRead i (.poolRead k))) ∧
    (¬ idle → (b.readGot i (.poolRead k)).isSome = true →
      TakesTo (.dmaErr (.pool i k)) b fun t => t.pool i k = { x with failed := true } ∧
        (∀ q, q ≠ i.val * 4 + k.val → SMap.get {} t.pools q = SMap.get {} b.pools q) ∧
        t.ctr R.HIF_DMA_ERR = (b.ctr R.HIF_DMA_ERR + 1) % 2 ^ 64 ∧ t.txRings = b.txRings)) ∧
  (∀ (b : Block) (n : Fin 8) (i r : Nat), b.txTurn = some (i, r) → b.txOwner r = some i →
    (b.readGot i (.txRead r) = none → Takes (.dmaErr (.txDesc n)) b (b.askRead i (.txRead r))) ∧
    ((b.readGot i (.txRead r)).isSome = true → TakesTo (.dmaErr (.txDesc n)) b fun t =>
      (t.txRing r).frame = none ∧ (t.txRing r).fetch = (b.txRing r).fetch + min (n.val + 1) (b.txAvail r) ∧
      t.ctr (R.INS_TX_DMA_ERR i) = (b.ctr (R.INS_TX_DMA_ERR i) + 1) % 2 ^ 64)) ∧
  (∀ (b : Block) (p : Fin 256),
    (b.mayTake p = false ∨ b.at_ p .staging ≠ [] ∨ b.injected p = [] → Takes (.inject p) b b) ∧
    ∀ i f rest h x, b.mayTake p = true → b.at_ p .staging = [] → b.injected p = (i, f) :: rest → b.frame i = f → i < b.nextFrame →
      f.host = some h → (b.txRing h.ring).frame = some x → x.id = some i → b.txOwner h.ring ≠ none →
      TakesTo (.inject p) b fun t => (t.txRing h.ring).frame = none ∧ SMap.find t.frames i = none ∧
        (SMap.find t.frames b.nextFrame = none ∨
          ((t.frame b.nextFrame).loc = .pipe ∧ (t.frame b.nextFrame).bytes = f.bytes))) ∧
  (∀ (b : Block) (r : BitVec 13),
    ((b.txRing r.toNat).frame = none → Takes (.injectTimeout r) b b ∧ Takes (.txDirectHandoff r) b b) ∧
    ∀ f i, (b.txRing r.toNat).frame = some f → b.txOwner r.toNat = some i →
      let late := (b.txRing r.toNat).since + b.fld R.HIF_TX_INJECT_LIMIT F.HIF_TX_INJECT_LIMIT_V * 1000 ≤ b.ticks
      (f.direct = true ∨ ¬ late → Takes (.injectTimeout r) b b) ∧
      (f.direct = false → late → TakesTo (.injectTimeout r) b fun t => (t.txRing r.toNat).frame = none ∧
        (∀ k, f.id = some k → k < b.nextFrame → SMap.find t.frames k = none) ∧
        t.ctr (R.INS_TX_INJECT_TIMEOUT i) = (b.ctr (R.INS_TX_INJECT_TIMEOUT i) + 1) % 2 ^ 64) ∧
      (f.direct = false → Takes (.txDirectHandoff r) b b) ∧
      (f.direct = true → b.frozen (dieOfPort f.port) = true → TakesTo (.txDirectHandoff r) b fun t =>
        (t.txRing r.toNat).frame = none ∧ t.hostLinks = b.hostLinks ∧
        t.ctr (R.INS_TX_HELD i) = (b.ctr (R.INS_TX_HELD i) + 1) % 2 ^ 64) ∧
      (f.direct = true → b.frozen (dieOfPort f.port) = false → TakesTo (.txDirectHandoff r) b fun t =>
        (t.txRing r.toNat).frame = none ∧ t.ctr (R.INS_TX_FRAMES i) = (b.ctr (R.INS_TX_FRAMES i) + 1) % 2 ^ 64 ∧
        ∃ k : Pkt, SMap.get [] t.hostLinks (rgnOfPort f.port) = SMap.get [] b.hostLinks (rgnOfPort f.port) ++ [{ pkt := k }] ∧
          k.bytes = f.bytes ++ fcsOf f.bytes ∧ k.desc = f.desc)) ∧
  (∀ (b : Block) (e : Fin 16) (raw : List Byte),
    (SMap.find b.dmaEng e = none → Takes (.dmaJobDone e raw) b b) ∧
    ∀ j, SMap.find b.dmaEng e = some j →
      (b.dmaEng.any (fun x => x.2.sameOrder j && x.2.n < j.n) = true → Takes (.dmaJobDone e raw) b b) ∧
      (b.dmaEng.any (fun x => x.2.sameOrder j && x.2.n < j.n) = false → b.jobs = [] →
        (∀ r n, j.kind = .txDone r n ∨ j.kind = .rxDesc r n → TakesTo (.dmaJobDone e raw) b fun t =>
          (∃ l, t.out = b.out ++ j.writes.map (fun x => .dma j.inst x.1 x.2) ++ l) ∧ t.dmaEng = SMap.del b.dmaEng e ∧
          (if j.kind = .txDone r n then (t.txRing r).hw = (b.txRing r).hw + n else (t.rxRing r).hw = (b.rxRing r).hw + n)) ∧
        (∀ r, j.kind = .rxBuf r ∨ j.kind = .winnow ∨ j.kind.isRead = true → TakesTo (.dmaJobDone e raw) b fun t =>
          t.out = b.out ++ j.writes.map (fun x => .dma j.inst x.1 x.2) ∧ t.dmaEng = SMap.del b.dmaEng e ∧ t.regs = b.regs)))

/-- RX_DELIVER, POOL_FETCH and POOL_WAIT_EXPIRE (R376, R391, R394 to R397, R401). The frame staged for a ring takes buffers of its
pool and slots of its ring; where the pool has none, or the ring is full, it waits in staging, and after POOL_WAIT it is dropped
and counted. A read of a free ring, once an engine has made it, fills the pool's cache. Each of the three completes under the
hypotheses on the block and the operands alone. -/
def Obligations.StagedFramesReachTheHostOrExpire : Prop :=
  (∀ (b : Block) (r : BitVec 13) (i : Nat) (h : HostFrame),
    b.slow = [h] → h.ring = r.toNat → b.rxOwner r.toNat = some i → h.written = [] → h.pool = none →
    let on := b.rxEnabled r.toNat = true ∧ b.fld (R.INS_INS_STATUS i) F.INS_INS_STATUS_PHASE ≠ 2
    let c := b.choosePool i h.bytes.length
    let waits (x : HostFrame) (t : Block) : Prop :=
      ∃ y : HostFrame, t.slow = [y] ∧ y.waitFrom = h.waitFrom.or (some b.ticks) ∧ y.bytes = h.bytes ∧ y.written = [] ∧ y.pool = x.pool
    (¬ on → Takes (.rxDeliver r) b b) ∧
    (on → c.2 = none → TakesTo (.rxDeliver r) b fun t => waits { h with pool := none } t ∧ t.rxRings = b.rxRings) ∧
    (∀ k, on → c.2 = some k → b.rxFree r.toNat < buffersOf h.bytes.length k →
      TakesTo (.rxDeliver r) b fun t => waits { h with pool := some k } t ∧ t.rxRings = b.rxRings) ∧
    (∀ k, on → c.2 = some k → buffersOf h.bytes.length k ≤ b.rxFree r.toNat →
      buffersOf h.bytes.length k ≤ (b.pool i k).cache.length → buffersOf h.bytes.length k ≤ 33 →
      TakesTo (.rxDeliver r) b fun t =>
        t.slow = [] ∧ (t.rxRing r.toNat).alloc = (b.rxRing r.toNat).alloc + buffersOf h.bytes.length k ∧
        (t.pool i k).cache = (b.pool i k).cache.drop (buffersOf h.bytes.length k) ∧
        t.ctr (R.INS_RX_FRAMES i) = (b.ctr (R.INS_RX_FRAMES i) + 1) % 2 ^ 64) ∧
    (h.waitFrom = none → Takes (.poolWaitExpire r) b b) ∧
    ∀ n, h.waitFrom = some n →
      (b.ticks < n + b.fld R.HIF_POOL_WAIT F.HIF_POOL_WAIT_V * 1000 → Takes (.poolWaitExpire r) b b) ∧
      (n + b.fld R.HIF_POOL_WAIT F.HIF_POOL_WAIT_V * 1000 ≤ b.ticks → TakesTo (.poolWaitExpire r) b fun t =>
        t.slow = [] ∧ t.ctrs = (b.count (R.INS_RX_POOL_DROP i) 1).ctrs ∧ t.regs = b.regs)) ∧
  (∀ (b : Block) (r : BitVec 13), b.slowOf r.toNat = none → Takes (.rxDeliver r) b b ∧ Takes (.poolWaitExpire r) b b) ∧
  ∀ (b : Block) (i : Fin 256) (k : Fin 4) (raw : List Byte),
    let x := b.pool i k
    let n := min (64 - x.cache.length) (b.poolEntries i k)
    let idle := b.poolOn i k = false ∨ b.resetting i = true ∨ x.failed = true ∨ 32 ≤ x.cache.length ∨ n = 0
    (idle → Takes (.poolFetch i k raw) b b) ∧
    (¬ idle → b.readGot i (.poolRead k) = none → Takes (.poolFetch i k raw) b (b.askRead i (.poolRead k))) ∧
    (¬ idle → b.slow = [] → (b.readGot i (.poolRead k)).isSome = true → TakesTo (.poolFetch i k raw) b fun t =>
      t.pool i k = { x with
        cache := x.cache ++ (List.range n).map (fun j => leVal (slice raw (8 * j) (8 * j + 8))),
        head := (x.head + n) % 2 ^ b.fld (R.INS_POOL_CFG i k) F.INS_POOL_CFG_SIZE_LOG2 } ∧
      (∀ q, q ≠ i.val * 4 + k.val → SMap.get {} t.pools q = SMap.get {} b.pools q) ∧ t.slow = [] ∧ t.rxRings = b.rxRings)

/-! ## PCIe and the instances (spec/13) -/

/-- INS_CMD_READ, INS_CMD_WRITE, INS_CMD_DELETE, INS_CMD_MOVE_BLOCK, INS_CMD_FENCE, INS_CMD_NOT_PERMITTED and WIN_HOLD_CLEAR (R384,
R402 to R404). A table command of an instance is refused while its last one is BUSY, held back under WIN_HOLD, answered at once
with the status that refuses it, or joins the operations of its die's engine, last, with its indices through the window; an opcode
that no instance may use, and any command of instance 0, is answered NOT_PERMITTED. When WIN_HOLD clears, a held command starts.
DIRTY_SWAP, DIRTY_SWAP_DONE, INSTANCE_RESET, DRAIN_END, INS_RESET, PCIE_LINK_DOWN and PCIE_LINK_UP (R374, R375, R406 to R410,
R418). A swap of the dirty bitmaps is done when the old one's updates are merged. A reset of an instance drains, unless its mode is
squash; when the drain is done, or its limit has passed, what the instance still has in the block is squashed; with its command
through, its rings and pools are disabled, its mailboxes and fence status are zero, and RESET_DONE is set. A Function Level Reset
and the PCIe link going down return the function's configuration and MSI-X table to reset values as well (assumption 75, the
model's reading of PCIe); the link going down clears VF Enable and resets every instance, at once. Each of the fourteen completes
under the hypotheses on the block and the operands alone. -/
def Obligations.InstancesCommandTablesAndReset : Prop :=
  (∀ (b : Block) (i : Fin 256) (v : BitVec 32), b.reaches (.inst i) .lay →
    let st := R.LAY_INS_CMD_STATUS i
    let busy := b.flag st F.LAY_INS_CMD_STATUS_BUSY
    let hold := b.flag (R.INS_INS_CTRL i) F.INS_INS_CTRL_WIN_HOLD
    let turnedAway (status : Nat) (t : Block) : Prop :=
      t.flag st F.LAY_INS_CMD_STATUS_BUSY = false ∧ t.flag st F.LAY_INS_CMD_STATUS_DONE = true ∧
      t.fld st F.LAY_INS_CMD_STATUS_STATUS = status ∧ t.flag (R.INS_INS_STATUS i) F.INS_INS_STATUS_CMD_IDLE = true ∧
      t.engines = b.engines
    let joins (o : TblOp) (d : Nat) (t : Block) : Prop :=
      t.flag st F.LAY_INS_CMD_STATUS_BUSY = true ∧ t.flag (R.INS_INS_STATUS i) F.INS_INS_STATUS_CMD_IDLE = false ∧
      (∃ x : TblOp, (t.engine d).ops = (b.engine d).ops ++ [x] ∧ x.op = o.op ∧ x.table = o.table ∧ x.index = o.index ∧
        x.data = o.data ∧ x.via = o.via ∧ x.cmask = o.cmask ∧ x.done = false) ∧
      ∀ e, e ≠ d → t.engine e = b.engine e
    (∀ x ∈ [(0, .insCmdRead i v), (1, .insCmdWrite i v), (3, .insCmdDelete i v), (5, .insCmdMoveBlock i v),
            (6, Instr.insCmdFence i v)],
      let word := withOp x.1 v.toNat
      (b.resetting i = true → Takes x.2 b b) ∧
      (b.resetting i = false → busy = true → Takes x.2 b (b.accessFault i 1 true (viewOff (R.LAY_INS_CMD i)))) ∧
      (b.resetting i = false → busy = false → hold = true → i ≠ 0 → TakesTo x.2 b fun t =>
        t.inst i = { b.inst i with held := some word } ∧ t.flag st F.LAY_INS_CMD_STATUS_BUSY = true ∧ t.engines = b.engines) ∧
      (∀ s, b.resetting i = false → busy = false → hold = false → b.insOp i word = .error s → s < 32 →
        TakesTo x.2 b (turnedAway s)) ∧
      (∀ o, b.resetting i = false → busy = false → hold = false → b.insOp i word = .ok o → b.mirroring = false →
        (x.1 = 6 → (b.engine (F.LAY_INS_CMD_DIE.of v.toNat)).ops.any (fun y => y.via.requester == o.via.requester) = true) →
        TakesTo x.2 b (joins o (F.LAY_INS_CMD_DIE.of v.toNat)))) ∧
    (let op := F.LAY_INS_CMD_OPCODE.of v.toNat
     let known := op = 0 ∨ op = 1 ∨ op = 3 ∨ op = 6 ∨ (op = 5 ∧ isAssoc (F.LAY_INS_CMD_TABLE.of v.toNat) = true)
     (i ≠ 0 → known → b.standbyRefuses = false → Takes (.insCmdNotPermitted i v) b b) ∧
     (i = 0 ∨ ¬ known → b.resetting i = false → busy = false → hold = false →
       TakesTo (.insCmdNotPermitted i v) b (turnedAway 16))) ∧
    ∀ w : Writer, b.reaches w .ins → F.INS_INS_CTRL_RESET.of v.toNat = 0 →
      let c := b.storeReg w (R.INS_INS_CTRL i) (F.INS_INS_CTRL_WIN_HOLD.put v.toNat 0)
      ((b.inst i).held = none ∨ b.resetting i = true → Takes (.winHoldClear w i v) b c) ∧
      (∀ word s, (b.inst i).held = some word → b.resetting i = false → b.insOp i word = .error s → s < 32 →
        TakesTo (.winHoldClear w i v) b fun t => turnedAway s t ∧ (t.inst i).held = none) ∧
      (∀ word o, (b.inst i).held = some word → b.resetting i = false → b.insOp i word = .ok o → b.mirroring = false →
        (F.LAY_INS_CMD_OPCODE.of word = 6 →
          (b.engine (F.LAY_INS_CMD_DIE.of word)).ops.any (fun y => y.via.requester == o.via.requester) = true) →
        b.flag st F.LAY_INS_CMD_STATUS_BUSY = true →
        TakesTo (.winHoldClear w i v) b fun t => joins o (F.LAY_INS_CMD_DIE.of word) t ∧ (t.inst i).held = none)) ∧
  ((∀ (b : Block) (w : Writer) (i : Fin 256) (v : BitVec 32), b.reaches w .ins →
    let a := R.INS_DIRTY_CFG i
    (F.INS_DIRTY_CFG_SWAP.of v.toNat = 0 → Takes (.dirtySwap w i v) b b) ∧
    (F.INS_DIRTY_CFG_SWAP.of v.toNat = 1 → b.flag a F.INS_DIRTY_CFG_SWAP_BUSY = true → Takes (.dirtySwap w i v) b (b.refuse w a)) ∧
    (F.INS_DIRTY_CFG_SWAP.of v.toNat = 1 → b.flag a F.INS_DIRTY_CFG_SWAP_BUSY = false → TakesTo (.dirtySwap w i v) b fun t =>
      t.flag a F.INS_DIRTY_CFG_SWAP_BUSY = true ∧ (∀ c, c ≠ a → t.word c = b.word c) ∧ t.jobs = b.jobs)) ∧
  (∀ (b : Block) (i : Fin 256),
    let a := R.INS_DIRTY_CFG i
    let old := b.fld a F.INS_DIRTY_CFG_ACTIVE
    let ready := b.flag a F.INS_DIRTY_CFG_SWAP_BUSY = true ∧ b.dirtyLeft i old = false
    (¬ ready → Takes (.dirtySwapDone i) b b) ∧
    (ready → TakesTo (.dirtySwapDone i) b fun t =>
      t.fld a F.INS_DIRTY_CFG_ACTIVE = 1 - old ∧ t.flag a F.INS_DIRTY_CFG_SWAP_BUSY = false ∧ t = { b with regs := t.regs } ∧
      ∀ c, c ≠ a → t.word c = b.word c)) ∧
  (∀ (b : Block) (i : Fin 256),
    let st := R.INS_INS_STATUS i
    (b.inReset = true → Takes (.instanceReset i .flr) b b) ∧
    (b.inReset = false → i ≠ 0 → b.resetting i = true → Takes (.instanceReset i .flr) b b) ∧
    (b.inReset = false → i ≠ 0 → b.resetting i = false →
      (b.squashMode i = false → TakesTo (.instanceReset i .flr) b fun t =>
        t.resetting i = true ∧ t.fld st F.INS_INS_STATUS_PHASE = 1 ∧
        t.inst i = { b.inst i with
          resetAt := b.ticks, limit := min (b.drainLimit i) 90, d3hot := false, msixEn := false, msixMask := false, msixPend := 0 } ∧
        t.slow = b.slow ∧ t.jobs = b.jobs.filter (fun j => j.inst != i.val || (match j.kind with | .poolRead _ => false | _ => true)) ∧
        ∀ a, a ≠ st → a < layBase i + 0xC0000 ∨ layBase i + 0xD0000 ≤ a → t.word a = b.word a) ∧
      (b.squashMode i = true → TakesTo (.instanceReset i .flr) b fun t =>
        t.resetting i = true ∧ t.fld st F.INS_INS_STATUS_PHASE = 2 ∧ t.slow = b.slow.filter fun h => b.rxOwner h.ring != some i.val)) ∧
    (b.inReset = false → TakesTo (.instanceReset 0 .flr) b fun t => ∀ k, k < 256 → t.resetting k = true) ∧
    (∀ (w : Writer) (v : BitVec 32), b.reaches w .ins →
      (F.INS_INS_CTRL_RESET.of v.toNat = 0 → Takes (.instanceReset i (.reg w v)) b b) ∧
      (F.INS_INS_CTRL_RESET.of v.toNat = 1 → b.resetting i = false → b.squashMode i = false →
        TakesTo (.instanceReset i (.reg w v)) b fun t => t.resetting i = true ∧ t.fld st F.INS_INS_STATUS_PHASE = 1 ∧
          t.inst i = { b.inst i with resetAt := b.ticks, limit := b.drainLimit i })) ∧
    (let ends := b.draining i = false ∨ (b.inst i).resetAt + (b.inst i).limit * oneMs ≤ b.ticks
     (b.fld st F.INS_INS_STATUS_PHASE ≠ 1 ∨ ¬ ends → Takes (.drainEnd i) b b) ∧
     (b.fld st F.INS_INS_STATUS_PHASE = 1 → ends → TakesTo (.drainEnd i) b fun t =>
       t.fld st F.INS_INS_STATUS_PHASE = 2 ∧ (∀ j ∈ t.jobs, j.inst ≠ i.val) ∧ (∀ e ∈ t.dmaEng, e.2.inst ≠ i.val) ∧
       t.slow = b.slow.filter (fun h => b.rxOwner h.ring != some i.val) ∧
       t.ctr (R.INS_SQUASH_DROP i) =
         (b.ctr (R.INS_SQUASH_DROP i) + (b.slow.filter fun h => b.rxOwner h.ring == some i.val).length) % 2 ^ 64)) ∧
    (let ready := b.fld st F.INS_INS_STATUS_PHASE = 2 ∧ b.flag st F.INS_INS_STATUS_CMD_IDLE = true
     (¬ ready → Takes (.insReset i) b b) ∧
     (ready → TakesTo (.insReset i) b fun t =>
       t.resetting i = false ∧ t.fld st F.INS_INS_STATUS_PHASE = 0 ∧ t.flag st F.INS_INS_STATUS_RESET_DONE = true ∧
       (t.inst i).held = none ∧ t.inflight = (b.send 4 i 0x5A 0).inflight ∧
       (∀ k, k < 4 → t.pool i k = {} ∧ t.poolOn i k = false) ∧
       (∀ k, k < 16 → t.word (R.LAY_MBOX_FROM_PF i k) = 0 ∧ t.word (R.INS_MBOX_FROM_VF i k) = 0) ∧
       (∀ d, d < 4 → t.word (R.LAY_INS_FENCE_STATUS i d) = 0) ∧
       t.flag (R.INS_DIRTY_CFG i) F.INS_DIRTY_CFG_EN = false ∧
       (∀ r, r < 8192 → inRange (b.word (R.INS_TX_RANGE i)) r = true → (SMap.find b.regs (R.HIF_TXR_CFG r)).isSome = true →
         t.txEnabled r = false) ∧
       (∀ r, r < 8192 → inRange (b.word (R.INS_RX_RANGE i)) r = true → (SMap.find b.regs (R.HIF_RXR_CFG r)).isSome = true →
         t.rxEnabled r = false)))) ∧
  ∀ b : Block,
    (∀ e : PcieEvent, TakesTo (.pcieLinkDown e) b fun t =>
      (∀ k, k < 256 → t.resetting k = true ∧ (t.inst k).d3hot = false ∧ (t.inst k).msixEn = false) ∧
      t.vfEnable = false ∧ t.numVfs = 0 ∧
      (e = .linkDown → b.flag R.HIF_LINK_STATUS F.HIF_LINK_STATUS_UP = true → t.word R.HIF_LINK_STATUS = 0 ∧
        ∃ l, t.inflight = (b.send 4 0xFFF 0x58 0).inflight ++ l)) ∧
    ∀ (width : BitVec 5) (rate : Fin 16),
      let trains := (width.toNat = 4 ∨ width.toNat = 8 ∨ width.toNat = 16) ∧ 1 ≤ rate.val ∧ rate.val ≤ 6
      (b.inReset = true ∨ ¬ trains → Takes (.pcieLinkUp width rate) b b) ∧
      (b.inReset = false → trains → TakesTo (.pcieLinkUp width rate) b fun t =>
        t.flag R.HIF_LINK_STATUS F.HIF_LINK_STATUS_UP = true ∧ t.fld R.HIF_LINK_STATUS F.HIF_LINK_STATUS_WIDTH = width.toNat ∧
        t.fld R.HIF_LINK_STATUS F.HIF_LINK_STATUS_RATE = rate.val ∧ ∀ a, a ≠ R.HIF_LINK_STATUS → t.word a = b.word a))

/-! ## Start-up (spec/14) -/

/-- HEADER_CHECK, SECTION_APPLY, REGWRITE_POLL, REGWRITE_DELAY and HOST_LOAD (R416, R419, R421, R425, R428, R431 to R435). The
sequencer opens the flash and reads the header, as the bus mode has it; a header that passes its checks opens the sections; one
that fails rejects its source, and the next one is slot 1, or the host wait. A section is applied, skipped, or fails: a failure of
a required section rejects the source, any other is skipped with its fault; after the last, training begins. A polled register
whose bits are clear, and a delay that has passed, let the records go on; a poll that lasts 100 ms fails. GO in the host wait reads
the host's image. HBM_TRAIN, BOOT_DONE, FUSE_PROGRAM, FUSE_REVOKE, SVN_COMMIT and FUSE_DONE (R417, R427, R434, R436 to R438).
Training writes a result for every lane, repaired where there is a spare, and marks the stacks that failed, with a fault for each;
on the way to the host wait the last die's begins it. With every stack trained, a boot that has loaded an image completes: its
registers are locked, and BOOT_DONE goes out. A fuse operation needs its key, DONE, and no other in progress; it is applied where
it verified. That steps 2 to 4 follow one another when the header is checked, if they have not before, is the model's choice
(assumption 136). Each of the eleven completes under the hypotheses on the block and the operands alone. -/
def Obligations.ImagesAreAppliedTrainingEndsAndBootIsDone : Prop :=
  (∀ b : Block,
    let next := b.boot.section_ + 1 < hdrCount b.boot.header
    let rejected (t : Block) : Prop :=
      (∃ l m, t.inflight = l ++ [m] ∧ m.kind = 0x61) ∧ t.frames = [] ∧ t.fifos = [] ∧ t.engines = [] ∧ t.locked = false ∧
      (b.fld R.BOOT_STATUS F.BOOT_STATUS_SOURCE ≠ 0 → t.boot.phase = .trainingIdle) ∧
      ((t.boot.phase = .trainingIdle ∧ t.boot.bus = false) ∨ (t.boot.phase = .flash ∧ t.boot.bus = true ∧
        t.fld R.BOOT_STATUS F.BOOT_STATUS_SOURCE = 1 ∧ t.fld R.PKG_STRAPS F.PKG_STRAPS_SLOT1 ≠ 0))
    let u := b.bootMove.bootMove
    let applied (u t : Block) : Prop :=
      t.boot.section_ = b.boot.section_ + 1 ∧ t.boot.phase = .sections ∧
      t.fld R.BOOT_SECT_COUNT F.BOOT_SECT_COUNT_APPLIED = sat 65535 (u.fld R.BOOT_SECT_COUNT F.BOOT_SECT_COUNT_APPLIED + 1)
    (b.boot.phase = .fuses → b.flag R.PKG_STRAPS F.PKG_STRAPS_HOST_WAIT = false →
      u.boot = { b.boot with phase := .header, bus := true } ∧ u.fld R.BOOT_STATUS F.BOOT_STATUS_STEP = 4) ∧
    (b.boot.phase = .flash → u.boot = { b.boot with phase := .header } ∧ u.fld R.BOOT_STATUS F.BOOT_STATUS_STEP = 4) ∧
    (b.boot.phase ≠ .fuses → b.boot.phase ≠ .flash → u = b) ∧
    (∀ raw timeout slow, u.boot.phase ≠ .header → Takes (.headerCheck raw timeout slow) b u) ∧
    (∀ raw slow, u.boot.phase = .header →
      let single := slow || b.flag R.PKG_STRAPS F.PKG_STRAPS_NVM_SDR
      let clock := if single then 50 else [50, 100, 166, 200].getD (b.fld R.PKG_STRAPS F.PKG_STRAPS_NVM_SPEED) 50
      let h := imgBytes raw 0 (hdrLen raw)
      TakesTo (.headerCheck raw true slow) b rejected ∧
      (∀ c, u.headerFail raw = some c → TakesTo (.headerCheck raw false slow) b rejected) ∧
      (u.headerFail raw = none → TakesTo (.headerCheck raw false slow) b fun t =>
        t.boot = { u.boot with phase := .sections, header := h, section_ := 0 } ∧
        t.fld R.BOOT_KEY_STATUS F.BOOT_KEY_STATUS_SLOT = hdrSlot raw ∧ t.fld R.BOOT_STATUS F.BOOT_STATUS_STEP = 5 ∧
        (b.fld R.BOOT_STATUS F.BOOT_STATUS_SOURCE = 2 → t.out = u.out) ∧
        (b.fld R.BOOT_STATUS F.BOOT_STATUS_SOURCE ≠ 2 → t.flag R.BOOT_STATUS F.BOOT_STATUS_NVM_SLOW = single ∧
          t.out = u.out ++ (if single then [] else [.nvm .enterOctal]) ++
            [.nvm (.read (!single) clock b.sourceBase), .nvm (.read (!single) clock (b.sourceBase + dirOffset h 0))]) ∧
        t = { u with regs := t.regs, boot := t.boot, out := t.out })) ∧
    (∀ raw timeout, b.boot.phase ≠ .sections → Takes (.sectionApply raw timeout) b b) ∧
    (∀ raw, b.boot.phase = .sections →
      TakesTo (.sectionApply raw true) b rejected ∧
      (b.sectCheck raw = .skip → next → TakesTo (.sectionApply raw false) b fun t =>
        t.boot.section_ = b.boot.section_ + 1 ∧ t.boot.phase = .sections ∧ t.inflight = b.inflight ∧
        t.fld R.BOOT_SECT_COUNT F.BOOT_SECT_COUNT_SKIPPED = sat 65535 (b.fld R.BOOT_SECT_COUNT F.BOOT_SECT_COUNT_SKIPPED + 1) ∧
        ∀ a, a ≠ R.BOOT_SECT_COUNT → t.word a = b.word a) ∧
      (b.sectCheck raw = .skip → ¬ next → TakesTo (.sectionApply raw false) b fun t =>
        t.boot.phase = .training ∧ t.boot.bus = false ∧ t.fld R.BOOT_STATUS F.BOOT_STATUS_STEP = 8 ∧ t.allTrained = false) ∧
      (∀ c, b.sectCheck raw = .fail c → sectType raw ≠ 4 → sectRequired raw = true ∨ c = failLayout ∨ c = failNvm →
        TakesTo (.sectionApply raw false) b rejected) ∧
      (∀ c, b.sectCheck raw = .fail c → sectType raw ≠ 4 → sectRequired raw = false → c ≠ failLayout → c ≠ failNvm → next →
        TakesTo (.sectionApply raw false) b fun t =>
          t.boot.section_ = b.boot.section_ + 1 ∧ t.boot.phase = .sections ∧ t.inflight = (b.send 0 1 0x62 0).inflight ∧
          t.fld R.BOOT_SECT_COUNT F.BOOT_SECT_COUNT_SKIPPED = sat 65535 (b.fld R.BOOT_SECT_COUNT F.BOOT_SECT_COUNT_SKIPPED + 1)) ∧
      (∀ p, b.sectCheck raw = .pass → b.sectPlain raw = some p → next →
        (sectType raw = 5 → traceFilterOk p = true → TakesTo (.sectionApply raw false) b fun t =>
          applied b t ∧ ∀ k, k < 8 → t.word (R.OBS_TRC_FILTER k) = imgNum p (4 * k) 4 % 2 ^ 32) ∧
        (sectType raw = 3 → b.ucodeOk 1 p = true → TakesTo (.sectionApply raw false) b fun t =>
          t.boot.section_ = b.boot.section_ + 1 ∧ t.boot.base = true ∧
          ∀ C, C < 32 → bitOf (imgNum p 24 4) C = true →
            t.loaded C = true ∧ ∀ e ∈ ucWords p, SMap.get 0 (t.cluster C).store e.1 = e.2) ∧
        (sectType raw = 1 → p = [] → TakesTo (.sectionApply raw false) b (applied b)) ∧
        (∀ x v, sectType raw = 1 → p.length = 8 → leVal (p.take 4) = x → leVal (slice p 4 8) = v →
          (x % 4 = 3 ∨ recordBarred (x - x % 4) = true ∨ (x % 4 = 2 ∧ 1000000 < v) → sectRequired raw = true →
            TakesTo (.sectionApply raw false) b rejected) ∧
          (x % 4 = 2 → recordBarred (x - 2) = false → v ≤ 1000000 → TakesTo (.sectionApply raw false) b fun t =>
            t.boot.phase = .delaying ∧ t.boot.till = b.ticks + v * 1000 ∧ t.boot.records = [] ∧ t.regs = b.regs) ∧
          (x % 4 = 1 → recordBarred (x - 1) = false → TakesTo (.sectionApply raw false) b fun t =>
            t.boot.phase = .polling ∧ t.boot.poll = x - 1 ∧ t.boot.mask = v ∧ t.boot.till = b.ticks + 100 * oneMs ∧ t.regs = b.regs)))) ∧
    (b.boot.phase ≠ .polling → Takes .regwritePoll b b) ∧
    (b.boot.phase = .polling →
      let r := b.readReg reqBoot false true b.boot.poll
      (r.1 &&& r.2.boot.mask = 0 → Takes .regwritePoll b (r.2.applyRecords r.2.boot.records)) ∧
      (r.1 &&& r.2.boot.mask ≠ 0 → r.2.ticks < r.2.boot.till → Takes .regwritePoll b r.2) ∧
      (r.1 &&& r.2.boot.mask ≠ 0 → r.2.boot.till ≤ r.2.ticks → Takes .regwritePoll b (r.2.sectionFailed failApply))) ∧
    (b.boot.phase ≠ .delaying ∨ b.ticks < b.boot.till → Takes .regwriteDelay b b) ∧
    (b.boot.phase = .delaying → b.boot.till ≤ b.ticks → b.boot.records = [] → next → TakesTo .regwriteDelay b (applied b)) ∧
    ∀ (w : Writer) (v : BitVec 32), b.reaches w .boot →
      (F.BOOT_HOST_CTRL_GO.of v.toNat = 0 → Takes (.hostLoad w v) b b) ∧
      (F.BOOT_HOST_CTRL_GO.of v.toNat = 1 → b.flag R.BOOT_STATUS F.BOOT_STATUS_HOST_WAIT = false →
        Takes (.hostLoad w v) b (b.refuse w R.BOOT_HOST_CTRL)) ∧
      (F.BOOT_HOST_CTRL_GO.of v.toNat = 1 → b.flag R.BOOT_STATUS F.BOOT_STATUS_HOST_WAIT = true →
        TakesTo (.hostLoad w v) b fun t => t.boot = { phase := .header, start := b.boot.start, bus := b.boot.bus } ∧
          t.fld R.BOOT_STATUS F.BOOT_STATUS_SOURCE = 2 ∧ t.flag R.BOOT_STATUS F.BOOT_STATUS_HOST_WAIT = false ∧
          t.fld R.BOOT_STATUS F.BOOT_STATUS_STEP = 4 ∧ t = { b with regs := t.regs, boot := t.boot })) ∧
  ((∀ (b : Block) (d : Fin 4) (lanes : List LaneSweep),
    let u := if b.flag R.PKG_STRAPS F.PKG_STRAPS_HOST_WAIT then b.bootMove else b
    let sweep (k : Nat) : LaneSweep := lanes.getD k {}
    let res (k : Nat) : Nat := u.laneResult d (sweep k)
    let eye := b.fld (R.HBM_TRAIN_CFG d) F.HBM_TRAIN_CFG_MIN_EYE
    let low (k : Nat) : Bool := (widestRun (sweep k).rd).1 < eye || (widestRun (sweep k).wr).1 < eye
    let failed (s : Nat) : Bool := (List.range 256).any fun k => low (256 * s + k) && !(sweep (256 * s + k)).spare
    (u.isTraining = false ∨ u.trained d = true → Takes (.hbmTrain d lanes) b u) ∧
    (u.isTraining = true → u.trained d = false → TakesTo (.hbmTrain d lanes) b fun t =>
      t.trained d = true ∧ (∀ k, k < 512 → t.word (R.HBM_TRAIN d (k / 256) (k % 256)) = res k % 2 ^ 32) ∧
      (∀ k, k < 512 → F.HBM_TRAIN_FAIL.of (res k) = b2n (low k && !(sweep k).spare) ∧
        F.HBM_TRAIN_REPAIRED.of (res k) = b2n (low k && (sweep k).spare)) ∧
      t.fld (R.HBM_TRAIN_STATUS d) F.HBM_TRAIN_STATUS_FAILED = b2n (failed 0) + 2 * b2n (failed 1) ∧
      (u.boot.phase = .training → t.boot = u.boot ∧
        t.inflight.length = u.inflight.length + b2n (failed 0) + b2n (failed 1)) ∧
      (u.boot.phase = .trainingIdle → (∀ e, e < 4 → e ≠ d.val → u.trained e = true) →
        t.boot.phase = .hostWait ∧ t.flag R.BOOT_STATUS F.BOOT_STATUS_HOST_WAIT = true ∧
        t.flag R.BOOT_STATUS F.BOOT_STATUS_NO_IMAGE = true))) ∧
  (∀ b : Block,
    (b.boot.phase ≠ .training ∨ b.allTrained = false → Takes .bootDone b b) ∧
    (b.boot.phase = .training → b.allTrained = true → TakesTo .bootDone b fun t =>
      t.locked = true ∧ t.boot.phase = .done ∧ t.started = true ∧ t.flag R.BOOT_STATUS F.BOOT_STATUS_NO_IMAGE = false ∧
      t.pairRole = b.fld R.PAIR_CFG F.PAIR_CFG_ROLE ∧ t.fld R.BOOT_IMAGE_SVN F.BOOT_IMAGE_SVN_V = hdrSvn b.boot.header % 64 ∧
      (∀ k, k < 4 → t.word (R.BOOT_IMAGE_ID k) = imgNum b.boot.header (16 + 4 * k) 4 % 2 ^ 32) ∧
      ∃ l m r, t.inflight = l ++ m :: r ∧ m.kind = 0x60)) ∧
  ∀ b : Block,
    let a := R.BOOT_FUSE_CTRL
    (∀ (w : Writer) (v : BitVec 32), b.reaches w .boot →
      let op := F.BOOT_FUSE_CTRL_OP.of v.toNat
      let slot := F.BOOT_FUSE_CTRL_SLOT.of v.toNat
      let open_ := F.BOOT_FUSE_CTRL_KEY.of v.toNat = 0xC3 ∧ b.started = true ∧ b.flag a F.BOOT_FUSE_CTRL_BUSY = false
      let runs (t : Block) : Prop :=
        t.flag a F.BOOT_FUSE_CTRL_BUSY = true ∧ t.fuses = { b.fuses with
          op := op, slot := slot, stage := (List.range 12).flatMap fun k => leBytes 4 (b.word (R.BOOT_FUSE_STAGE k)) }
      (op ≠ 1 → Takes (.fuseProgram w v) b b) ∧ (op ≠ 2 → Takes (.fuseRevoke w v) b b) ∧ (op ≠ 3 → Takes (.svnCommit w v) b b) ∧
      (op = 1 → ¬ open_ ∨ bitOf b.fuses.programmed slot = true → Takes (.fuseProgram w v) b (b.refuse w a)) ∧
      (op = 2 → ¬ open_ → Takes (.fuseRevoke w v) b (b.refuse w a)) ∧ (op = 3 → ¬ open_ → Takes (.svnCommit w v) b (b.refuse w a)) ∧
      (op = 1 → open_ → bitOf b.fuses.programmed slot = false → TakesTo (.fuseProgram w v) b runs) ∧
      (op = 2 → open_ → TakesTo (.fuseRevoke w v) b runs) ∧ (op = 3 → open_ → TakesTo (.svnCommit w v) b runs)) ∧
    (∀ ok, b.flag a F.BOOT_FUSE_CTRL_BUSY = false → Takes (.fuseDone ok) b b) ∧
    (b.flag a F.BOOT_FUSE_CTRL_BUSY = true →
      let f := b.fuses
      (TakesTo (.fuseDone true) b fun t => t.flag a F.BOOT_FUSE_CTRL_BUSY = false ∧
        t.flag a F.BOOT_FUSE_CTRL_ERR = b.flag a F.BOOT_FUSE_CTRL_ERR ∧ t.locked = b.locked ∧
        (f.op = 1 → bitOf t.fuses.programmed f.slot = true ∧ SMap.get [] t.fuses.hashes f.slot = f.stage ∧
          t.fuses.revoked = f.revoked ∧ t.fuses.svn = f.svn) ∧
        (f.op = 2 → bitOf t.fuses.revoked f.slot = true ∧ t.fuses.programmed = f.programmed ∧ t.fuses.svn = f.svn) ∧
        (f.op = 3 → t.fuses = { f with svn := max f.svn (b.fld R.BOOT_IMAGE_SVN F.BOOT_IMAGE_SVN_V) })) ∧
      (TakesTo (.fuseDone false) b fun t => t.flag a F.BOOT_FUSE_CTRL_BUSY = false ∧ t.flag a F.BOOT_FUSE_CTRL_ERR = true ∧
        (f.op = 1 → t.fuses.revoked = f.revoked ∧ t.fuses.svn = f.svn ∧
          ∀ s, s ≠ f.slot → SMap.get [] t.fuses.hashes s = SMap.get [] f.hashes s) ∧
        (f.op = 2 → t.fuses.programmed = f.programmed ∧ t.fuses.hashes = f.hashes ∧ t.fuses.svn = f.svn) ∧
        (f.op = 3 → t.fuses.programmed = f.programmed ∧ t.fuses.hashes = f.hashes ∧ t.fuses.revoked = f.revoked))))

/-! ## The Sheaf chain (spec/15) -/

/-- The frames of the chain at a package (R444, R446 to R448, R453): ENUMERATE, RING_HOLD, RING_RELEASE, RING_RESET, SNAPSHOT_AT,
TALLY_LOAD, TALLY_SUM, RING_READ, ACK, READ_RESP, BREAK, and BAD_FRAMES. A package that is not on the chain, or whose input is
lost, takes none. One with a bad CRC is counted, acts on nothing and goes on with a bad CRC, with what a broadcast ENUMERATE or
TALLY_SUM changes in flight changed (assumption 139, the model's choice); the head takes every frame off the ring and keeps it,
while its FIFO has room; a member passes on responses, and what is meant for others, unchanged; a frame of an undefined kind, or of
a LEN that its kind does not allow, is counted, goes on, and is answered BAD where it was meant for the package. CHAIN_BREAK,
BREAK_REPEAT, CHAIN_INPUT_REGAINED, HEAD_ENUM, HEAD_SEND and RX_POP (R449, R450, R452, R453). A package that loses its input says
so once, ends the frame that it forwards with an inverted CRC, and sends BREAK at once and each ms while the loss lasts; a head
whose input comes back enumerates the ring. The head's registers send the frame that they hold, which acts on the head as on a
member, and is sent on before its response (assumption 139), start an enumeration, and give up the oldest frame that came back.
Each of the eighteen completes under the hypotheses on the block and the operands alone. -/
def Obligations.ChainFramesArePassedAndBreaksAreTold : Prop :=
  (∀ (b : Block) (dest : BitVec 16) (tag : BitVec 8) (payload : List Byte) (crcOk : Bool) (straps : BitVec 7) (x : Nat × Instr),
    x ∈ [(1, .enumerate dest tag payload crcOk), (2, .ringHold dest tag payload crcOk), (3, .ringRelease dest tag payload crcOk),
         (4, .ringReset dest tag payload crcOk straps), (5, .snapshotAt dest tag payload crcOk), (6, .tallyLoad dest tag payload crcOk),
         (7, .tallySum dest tag payload crcOk), (8, .ringRead dest tag payload crcOk), (0x81, .ack dest tag payload crcOk),
         (0x82, .readResp dest tag payload crcOk), (0x83, Instr.breakFrame dest tag payload crcOk)] →
    let l := payload.take 255
    let f : ChainFrame := { dest := dest.toNat, kind := x.1, len := l.length, tag := tag.toNat, payload := l, crcBad := !crcOk }
    let good := f.body ++ beBytes 4 (crc32 f.body)
    let mine := b.hasAddr = true ∧ dest.toNat = b.ringAddr
    (b.chain.on = false ∨ b.chain.lost = true → Takes x.2 b b) ∧
    (b.chain.on = true → b.chain.lost = false →
      (crcOk = false → b.isHead = false → TakesTo x.2 b fun t =>
        (∃ g : ChainFrame, t.out = b.out ++ [.chain (g.body ++ beBytes 4 (crc32 g.body ^^^ 0xFFFFFFFF))] ∧
          g.dest = f.dest ∧ g.kind = f.kind ∧ g.tag = f.tag ∧ (x.1 ≠ 1 ∧ x.1 ≠ 7 ∨ dest.toNat ≠ 0x7FFF ∨ f.ok = false → g = f)) ∧
        t.ctr R.CHN_CRC_ERR = (b.ctr R.CHN_CRC_ERR + 1) % 2 ^ 64 ∧ t = { b with out := t.out, ctrs := t.ctrs }) ∧
      (b.isHead = true → b.chain.rx.length < 64 → TakesTo x.2 b fun t =>
        t.chain.rx = b.chain.rx ++ [f] ∧ t.out = b.out ∧ t.dies = b.dies ∧ t.boot = b.boot) ∧
      (b.isHead = true → 64 ≤ b.chain.rx.length → TakesTo x.2 b fun t =>
        t.chain.rx = b.chain.rx ∧ t.ctr R.CHN_RX_OVERFLOW = (b.ctr R.CHN_RX_OVERFLOW + 1) % 2 ^ 64 ∧ t.out = b.out) ∧
      (crcOk = true → b.isHead = false → f.ok = true →
        0x81 ≤ x.1 ∨ 2 ^ 15 ≤ dest.toNat ∨ (dest.toNat ≠ 0x7FFF ∧ ¬ mine) ∨
          (dest.toNat ≠ 0x7FFF ∧ (x.1 = 1 ∨ x.1 = 6 ∨ x.1 = 7)) ∨ (dest.toNat = 0x7FFF ∧ x.1 = 8) →
        TakesTo x.2 b fun t => t.out = b.out ++ [.chain good] ∧ t = { b with out := t.out, ctrs := t.ctrs }) ∧
      (crcOk = true → b.isHead = false → f.ok = false → TakesTo x.2 b fun t =>
        t.ctr R.CHN_BAD_FRAMES = (b.ctr R.CHN_BAD_FRAMES + 1) % 2 ^ 64 ∧ t = { b with out := t.out, ctrs := t.ctrs } ∧
        (¬ mine → t.out = b.out ++ [.chain good]) ∧
        (mine → ∃ r, t.out = b.out ++ [.chain good, .chain r] ∧ r.take 7 =
          beBytes 2 (2 ^ 15 + b.ringAddr) ++ beBytes 1 0x81 ++ beBytes 1 2 ++ beBytes 1 tag.toNat ++ beBytes 1 x.1 ++ beBytes 1 3))) ∧
    ∀ kind : BitVec 8,
      let g : ChainFrame := { dest := dest.toNat, kind := kind.toNat, len := l.length, tag := tag.toNat, payload := l }
      (g.ok = true ∨ b.chain.on = false ∨ b.chain.lost = true → Takes (.badFrames kind dest tag payload) b b) ∧
      (kindDefined kind.toNat = false ∨ ¬ mine → g.ok = false → b.chain.on = true → b.chain.lost = false → b.isHead = false →
        TakesTo (.badFrames kind dest tag payload) b fun t =>
          t.ctr R.CHN_BAD_FRAMES = (b.ctr R.CHN_BAD_FRAMES + 1) % 2 ^ 64 ∧ t = { b with out := t.out, ctrs := t.ctrs } ∧
          t.out = b.out ++ [.chain (g.body ++ beBytes 4 (crc32 g.body))])) ∧
  (∀ b : Block,
    let brk : ChainFrame := { dest := 2 ^ 15 + b.ringAddr, kind := 0x83, len := 0, tag := 0, payload := [] }
    let wire (r : ChainFrame) : Output := .chain (r.body ++ beBytes 4 (crc32 r.body))
    let enum_ : ChainFrame := { dest := 0x7FFF, kind := 1, len := 2, payload := beBytes 2 2 }
    (b.chain.on = false ∨ b.chain.lost = true → Takes .chainBreak b b) ∧
    (b.chain.on = true → b.chain.lost = false → TakesTo .chainBreak b fun t =>
      t.chain = { b.chain with lost := true, locked := false, breakAt := b.ticks } ∧
      t.flag R.CHN_STATUS F.CHN_STATUS_IN_LOST_SEEN = true ∧ t.inflight = (b.send 2 0 0x68 0).inflight ∧
      ∃ cut, t.out = b.out ++ (if cut = [] then [] else [.chain (cut ++ beBytes 4 (crc32 cut ^^^ 0xFFFFFFFF))]) ++ [wire brk] ∧
        (b.isHead = true → cut = [])) ∧
    (b.chain.on = false ∨ b.chain.lost = false ∨ b.ticks < b.chain.breakAt + oneMs → Takes .breakRepeat b b) ∧
    (b.chain.on = true → b.chain.lost = true → b.chain.breakAt + oneMs ≤ b.ticks → TakesTo .breakRepeat b fun t =>
      t.chain = { b.chain with breakAt := b.ticks } ∧ t.out = b.out ++ [wire brk] ∧ t.regs = b.regs) ∧
    (b.chain.on = false → Takes .chainInputRegained b b) ∧
    (b.chain.on = true → b.chain.lost = false ∨ b.isHead = false →
      Takes .chainInputRegained b { b with chain := { b.chain with lost := false, locked := true } }) ∧
    (b.chain.on = true → b.chain.lost = true → b.isHead = true → TakesTo .chainInputRegained b fun t =>
      t.chain = { b.chain with lost := false, locked := true, enumBusy := true } ∧ t.word R.CHN_ADDR = 2 ^ 31 + 1 ∧
      t.out = b.out ++ [wire enum_]) ∧
    (∀ (w : Writer) (v : BitVec 32) (straps : BitVec 7), b.reaches w .chn →
      (F.CHN_HEAD_CTRL_ENUM.of v.toNat = 0 → Takes (.headEnum w v) b b) ∧
      (F.CHN_HEAD_CTRL_SEND.of v.toNat = 0 → Takes (.headSend w v straps) b b) ∧
      (b.isHead = false → (F.CHN_HEAD_CTRL_ENUM.of v.toNat = 1 → Takes (.headEnum w v) b (b.refuse w R.CHN_HEAD_CTRL)) ∧
        (F.CHN_HEAD_CTRL_SEND.of v.toNat = 1 → Takes (.headSend w v straps) b (b.refuse w R.CHN_HEAD_CTRL))) ∧
      (b.isHead = true → b.chain.on = true → F.CHN_HEAD_CTRL_ENUM.of v.toNat = 1 → F.CHN_HEAD_CTRL_SEND.of v.toNat = 0 →
        TakesTo (.headEnum w v) b fun t => t.chain = { b.chain with enumBusy := true } ∧ t.word R.CHN_ADDR = 2 ^ 31 + 1 ∧
          t.out = b.out ++ [wire enum_]) ∧
      (b.isHead = true → b.chain.on = true → F.CHN_HEAD_CTRL_ENUM.of v.toNat = 0 → F.CHN_HEAD_CTRL_SEND.of v.toNat = 1 →
        let f := b.txFrame
        (f.ok = true → f.kind ≠ 1 → f.dest ≠ 0x7FFF → ¬ (b.hasAddr = true ∧ f.dest = b.ringAddr) →
          TakesTo (.headSend w v straps) b fun t => t.out = b.out ++ [wire f] ∧ t = { b with out := t.out }) ∧
        (f.ok = true → f.kind = 2 → f.dest = 0x7FFF → b.flag R.CHN_CMD_EN F.CHN_CMD_EN_HOLD_EN = true → byteAt f.payload 0 < 16 →
          TakesTo (.headSend w v straps) b fun t => t.word R.CHN_RING_HOLD = byteAt f.payload 0) ∧
        (f.ok = true → b.hasAddr = true → f.dest = b.ringAddr → f.dest < 0x7FFF →
          let answer (k : Nat) (l : List Byte) : ChainFrame := { dest := 2 ^ 15 + b.ringAddr, kind := k, len := l.length, tag := f.tag, payload := l }
          (f.kind = 8 → TakesTo (.headSend w v straps) b fun t =>
            t.out = b.out ++ [wire f, wire (answer 0x82 (b.ringRead f.payload).2)] ∧ t = { b with out := t.out }) ∧
          (f.kind = 2 → b.flag R.CHN_CMD_EN F.CHN_CMD_EN_HOLD_EN = false → TakesTo (.headSend w v straps) b fun t =>
            t.out = b.out ++ [wire f, wire (answer 0x81 (beBytes 1 2 ++ beBytes 1 1))] ∧ t = { b with out := t.out })))) ∧
    ∀ v : BitVec 32, b.reaches .host .chn →
      (F.CHN_RX_POP_POP.of v.toNat = 0 → Takes (.rxPop v) b b) ∧
      (F.CHN_RX_POP_POP.of v.toNat = 1 → Takes (.rxPop v) b { b with chain := { b.chain with rx := b.chain.rx.drop 1 } }))

/-- What the chain's commands do at a member (R449, R453 to R457, R461). ENUMERATE gives the package its address and goes on with
the next; HOLD and RELEASE set the ring Hold level, RESET resets the package, SNAPSHOT_AT sets a snapshot, each where CHN.CMD_EN
allows it, and an addressed one is answered; TALLY_LOAD keeps the expected values, and TALLY_SUM counts the package among those
that match, or adds it to those that do not; READ answers with registers of the readable set. Each of the eight completes under the
hypotheses on the block and the operands alone. -/
def Obligations.ChainCommandsActAtTheMembers : Prop :=
  ∀ (b : Block) (dest : BitVec 16) (tag : BitVec 8) (l : List Byte) (straps : BitVec 7),
    b.chain.on = true → b.chain.lost = false → b.isHead = false → l.length ≤ 255 →
    let all := dest.toNat = 0x7FFF
    let mine := b.hasAddr = true ∧ dest.toNat = b.ringAddr ∧ dest.toNat ≠ 0x7FFF ∧ dest.toNat < 2 ^ 15
    let f (k : Nat) : ChainFrame := { dest := dest.toNat, kind := k, len := l.length, tag := tag.toNat, payload := l }
    let answers (k status : Nat) (y : List Byte) : Prop := ∃ r : ChainFrame,
      y = r.body ++ beBytes 4 (crc32 r.body) ∧ r.dest = 2 ^ 15 + b.ringAddr ∧ r.kind = 0x81 ∧ r.tag = tag.toNat ∧
      r.payload = beBytes 1 k ++ beBytes 1 status
    let on (k : Nat) : Block := b.pmc .pkg 0x01 k 1
    (all → l.length = 2 → 1 ≤ beAt l 0 2 → beAt l 0 2 ≤ 32766 → TakesTo (.enumerate dest tag l true) b fun t =>
      t.ringAddr = beAt l 0 2 ∧ t.hasAddr = true ∧
      ∃ r : ChainFrame, t.out = b.out ++ [.chain (r.body ++ beBytes 4 (crc32 r.body))] ∧ r.payload = beBytes 2 (beAt l 0 2 + 1)) ∧
    (all ∨ mine → l.length = 1 → byteAt l 0 < 16 → b.flag R.CHN_CMD_EN F.CHN_CMD_EN_HOLD_EN = true →
      TakesTo (.ringHold dest tag l true) b fun t => t.word R.CHN_RING_HOLD = byteAt l 0) ∧
    (mine → l.length = 1 → b.flag R.CHN_CMD_EN F.CHN_CMD_EN_HOLD_EN = false →
      TakesTo (.ringHold dest tag l true) b fun t => t.word R.CHN_RING_HOLD = b.word R.CHN_RING_HOLD ∧ t.dies = b.dies ∧
        ∃ y, t.out = b.out ++ [.chain ((f 2).body ++ beBytes 4 (crc32 (f 2).body)), .chain y] ∧ answers 2 1 y) ∧
    (all ∨ mine → l = [] → b.flag R.CHN_CMD_EN F.CHN_CMD_EN_HOLD_EN = true →
      TakesTo (.ringRelease dest tag l true) b fun t => t.word R.CHN_RING_HOLD = 0) ∧
    (all ∨ mine → l = [] → b.flag R.CHN_CMD_EN F.CHN_CMD_EN_RESET_EN = true →
      TakesTo (.ringReset dest tag l true straps) b fun t => bitOf (t.word R.FLT_RESET_CAUSE) 28 = true ∧ t.frames = [] ∧
        t.locked = false ∧ t.strapPins = straps.toNat ∧ ∃ y r, t.out = b.out ++ .chain y :: r) ∧
    (l.length = 15 → byteAt l 0 ≤ 1 → beAt l 11 4 ≤ 999999999 → b.flag R.CHN_CMD_EN F.CHN_CMD_EN_SNAP_EN = true →
      let s := (on 5).setSnap { base := byteAt l 0, tag := beAt l 1 4, s := beAt l 5 6, ns := beAt l 11 4 }
      (all → Takes (.snapshotAt dest tag l true) b (s.2.chainSend (f 5))) ∧
      (mine → s.1 = true → Takes (.snapshotAt dest tag l true) b (s.2.ack (f 5) 0)) ∧
      (mine → s.1 = false → Takes (.snapshotAt dest tag l true) b ((s.2.chainSend (f 5)).ack (f 5) 4))) ∧
    (all → (f 6).ok = true → b.inSweep (byteAt l 1) = true → TakesTo (.tallyLoad dest tag l true) b fun t =>
      t.chain.sweep = byteAt l 0 ∧
      (∀ i, i < byteAt l 3 → byteAt l 2 + i ≠ 15 → byteAt l 2 + i ≠ 17 →
        SMap.find t.chain.expected (byteAt l 2 + i) = some (beAt l (8 + 8 * i) 8)) ∧ ∃ y, t.out = b.out ++ [.chain y]) ∧
    (all → l.length = 48 → b.inSweep (byteAt l 1) = false → TakesTo (.tallySum dest tag l true) b fun t =>
      (∃ r : ChainFrame, t.out = b.out ++ [.chain (r.body ++ beBytes 4 (crc32 r.body))] ∧ r.payload = bumpAt l 12) ∧
      t.regs = b.regs) ∧
    (all → l.length = 48 → b.inSweep (byteAt l 1) = true → b.chain.sweep = byteAt l 0 →
      let matches_ := ∀ k ∈ sweepClasses (beAt l 4 4), SMap.find b.chain.expected k = some (b.tally k)
      (matches_ → TakesTo (.tallySum dest tag l true) b fun t =>
        (∃ r : ChainFrame, t.out = b.out ++ [.chain (r.body ++ beBytes 4 (crc32 r.body))] ∧ r.payload = bumpAt l 8) ∧
        t.inflight = b.inflight) ∧
      (¬ matches_ → TakesTo (.tallySum dest tag l true) b fun t => t.inflight = (b.send 2 0 0x69 0).inflight ∧
        ∃ r : ChainFrame, t.out = b.out ++ [.chain (r.body ++ beBytes 4 (crc32 r.body))] ∧
          (beAt l 10 2 < 16 → r.payload = bumpAt (patch l (16 + 2 * beAt l 10 2) (beBytes 2 b.ringAddr)) 10) ∧
          (16 ≤ beAt l 10 2 → r.payload = bumpAt l 10))) ∧
    (mine → l.length = 5 → b.flag R.CHN_CMD_EN F.CHN_CMD_EN_READ_EN = true → beAt l 0 4 % 4 = 0 → 1 ≤ byteAt l 4 → byteAt l 4 ≤ 15 →
      (∀ i, i < byteAt l 4 → ringReadable (beAt l 0 4 + 4 * i) = true ∧ b.peek (beAt l 0 4 + 4 * i) ≠ none) →
      TakesTo (.ringRead dest tag l true) b fun t => t = { b with out := t.out, ctrs := t.ctrs } ∧
        ∃ r : ChainFrame, t.out = b.out ++ [.chain (r.body ++ beBytes 4 (crc32 r.body))] ∧ r.kind = 0x82 ∧ r.tag = tag.toNat ∧
          r.payload = beBytes 1 0 ++ beBytes 1 (byteAt l 4) ++ zeros 2 ++
            (List.range (byteAt l 4)).flatMap fun i => beBytes 4 (((on 8).peek (beAt l 0 4 + 4 * i)).getD 0))

/-! ## The redundancy pair (spec/15) -/

/-- HEARTBEAT, CMD, CMD_ACK, GLEAN, FRAG, TIME, TALLY, CKPT, HANDOVER and MSG_ERR (R464 to R470). With role none, or the link down,
none is taken. Each that is taken marks its partner as seen. A standby learns from a primary's heartbeat whether mirroring runs;
two primaries are in conflict. A standby gives its engines the commands in SEQ order; an acknowledgement completes its command and
shows where the results differ; learned addresses become remote entries, and an age takes only remote entries away; a fragment is
installed in the lowest free way or counted; time and digests are shown as received; counter pairs go to the checkpoint buffer; a
handover promotes the standby. -/
def Obligations.PairMessagesAreTaken : Prop :=
  ∀ (b : Block) (role mode status : BitVec 8) (epoch word index id : BitVec 32) (next applied seq : BitVec 64) (d : Fin 4)
    (commit : Bool) (data : List (BitVec 32)) (raw body : List Byte) (C : Fin 32) (entry : List (BitVec 32))
    (digests : List (BitVec 64)) (g : Fin 8) (first : BitVec 19),
    let S := R.PAIR_STATUS
    let idle := b.pairRole = roleNone ∨ b.shaixLinked = false
    let sees (t : Block) : Prop :=
      t.flag S F.PAIR_STATUS_PEER_SEEN = true ∧ t.flag S F.PAIR_STATUS_SOLO = false ∧ t.pair.seenAt = some b.ticks
    let bump (t : Block) (a : Nat) : Prop := t.ctr a = (b.ctr a + 1) % 2 ^ 64
    (idle → ∀ c ∈ [Instr.heartbeat role mode epoch next applied, .cmd seq d commit word index data, .cmdAck seq status index, .glean raw,
      .frag C entry, .time body, .tally digests, .ckpt id g first raw, .handover seq, .msgErr], Takes c b b) ∧
    (¬ idle →
      (b.pairRole = roleStandby → role.toNat = rolePrimary → mode ≠ 0 → TakesTo (.heartbeat role mode epoch next applied) b fun t =>
        sees t ∧ t.mirroring = true ∧ t.pair.mode = mode.toNat ∧ t.pairRole = roleStandby ∧
        (∀ a, a ≠ S → t.word a = b.word a) ∧ t = { b with regs := t.regs, ctrs := t.ctrs, pair := t.pair }) ∧
      (b.pairRole = roleStandby → role.toNat ≠ rolePrimary ∨ mode = 0 → TakesTo (.heartbeat role mode epoch next applied) b fun t =>
        sees t ∧ t.mirroring = false ∧ t.pair.early = [] ∧ t.pairRole = roleStandby ∧
        t = { b with regs := t.regs, ctrs := t.ctrs, pair := t.pair }) ∧
      (b.pairRole = rolePrimary → role.toNat = rolePrimary → b.flag S F.PAIR_STATUS_CONFLICT = false →
        TakesTo (.heartbeat role mode epoch next applied) b fun t => sees t ∧ t.flag S F.PAIR_STATUS_CONFLICT = true ∧
          t.mirroring = false ∧ t.inflight = (b.send 3 0 0x6C 0).inflight) ∧
      (b.pairRole = rolePrimary → role.toNat ≠ rolePrimary → TakesTo (.heartbeat role mode epoch next applied) b fun t =>
        sees t ∧ t.flag S F.PAIR_STATUS_CONFLICT = false ∧ t.inflight = b.inflight ∧ t.engines = b.engines) ∧
      (b.pairRole = roleStandby → b.pair.early = [] → b.pair.expect = none ∨ b.pair.expect = some seq.toNat →
        commit = true ∨ word.toNat / 2 ^ 28 ≠ 6 → TakesTo (.cmd seq d commit word index data) b fun t =>
          sees t ∧ t.pair.expect = some (seq.toNat + 1) ∧ t.pair.early = [] ∧ (∀ k, k ≠ d.val → t.engine k = b.engine k) ∧
          ∃ o, (t.engine d).ops = (b.engine d).ops ++ [o] ∧ o.via = .mirror seq.toNat commit ∧ o.index = index.toNat ∧
            o.table = word.toNat / 2 ^ 20 % 256 ∧ o.done = false ∧ (commit = false → o.op = word.toNat / 2 ^ 28)) ∧
      (∀ e, b.pairRole = roleStandby → b.pair.early = [] → b.pair.expect = some e → e ≠ seq.toNat →
        TakesTo (.cmd seq d commit word index data) b fun t =>
          sees t ∧ t.engines = b.engines ∧ t.pair.expect = some e ∧ ∃ o, t.pair.early = [(seq.toNat, d.val, o)]) ∧
      (b.pairRole = rolePrimary → TakesTo (.cmd seq d commit word index data) b fun t => sees t ∧ t.engines = b.engines) ∧
      (b.pair.lag.find? (fun c => c.seq == seq.toNat) = none → TakesTo (.cmdAck seq status index) b fun t =>
        sees t ∧ t.engines = b.engines ∧ t.pair.lag = b.pair.lag ∧ t.ctr R.PAIR_APPLIED_SEQ = b.ctr R.PAIR_APPLIED_SEQ) ∧
      (∀ c, b.pair.lag.find? (fun c => c.seq == seq.toNat) = some c → c.own = none → TakesTo (.cmdAck seq status index) b fun t =>
        sees t ∧ t.engines = b.engines ∧ t.ctr R.PAIR_APPLIED_SEQ = seq.toNat ∧
        t.pair.lag = b.pair.lag.map fun x => if x.seq == seq.toNat then { c with ack := some (status.toNat, index.toNat) } else x) ∧
      (∀ c r, b.pair.lag.find? (fun c => c.seq == seq.toNat) = some c → c.own = some r → TakesTo (.cmdAck seq status index) b fun t =>
        sees t ∧ t.pair.lag = b.pair.lag.filter (fun x => x.seq != seq.toNat) ∧
        t.flag S F.PAIR_STATUS_DIVERGE = (b.flag S F.PAIR_STATUS_DIVERGE || r != (status.toNat, index.toNat))) ∧
      TakesTo (.glean raw) b (fun t =>
        let ev := byteAt raw 3 / 16
        let D := byteAt raw 3 / 4 % 4
        let img := Vec.ofList ((List.range 8).map fun j => leVal (slice raw (16 + 4 * j) (20 + 4 * j)))
        sees t ∧ bump t R.PAIR_GLEAN_RX ∧
        (ev = 0 ∨ 3 < ev → t.engines = b.engines) ∧
        (ev = 3 → byteAt raw 0 = T.l2 →
          (b.emFind D T.l2 false (imgKey img) = none → t.engines = b.engines) ∧
          ∀ s x, b.emFind D T.l2 false (imgKey img) = some (s, x) →
            (x.kind ≠ 0 → t.engines = b.engines) ∧ (x.kind = 0 → (t.engine D).em = SMap.del (b.engine D).em s))) ∧
      TakesTo (.frag C entry) b (fun t =>
        let e := b.fragOf (entry.map BitVec.toNat)
        let free := (fragSlots e.key).find? fun s => (SMap.find ((b.fragExpire C).cluster C).frags s).isNone
        sees t ∧ (∀ s, free = some s → (t.cluster C).frags = SMap.put ((b.fragExpire C).cluster C).frags s e) ∧
        (free = none → bump t R.PAIR_FRAG_DROP)) ∧
      TakesTo (.time body) b (fun t => sees t ∧ ∀ j, j < 9 → t.word (R.PAIR_PEER_TIME j) =
        leVal (slice (body.take 33) (4 * j) (4 * j + 4))) ∧
      TakesTo (.tally digests) b (fun t => sees t ∧ ∀ k, k < 20 → t.ctr (R.PAIR_PEER_TALLY k) = (digests.getD k 0).toNat) ∧
      (let base := b.word R.PAIR_CKPT_ADDR_HI * 2 ^ 32 + b.word R.PAIR_CKPT_ADDR_LO
       (b.pairRole ≠ roleStandby ∨ base = 0 → TakesTo (.ckpt id g first raw) b fun t => sees t ∧ t.jobs = b.jobs ∧ t.dmaEng = b.dmaEng) ∧
       (b.pairRole = roleStandby → base ≠ 0 → (∀ e, e < 16 → (SMap.find b.dmaEng e).isSome) → b.pair.ckptId = id.toNat →
         b.pair.ckptSeen + raw.length / 16 < pairsPerCkpt → TakesTo (.ckpt id g first raw) b fun t =>
           sees t ∧ t.pair.ckptSeen = b.pair.ckptSeen + raw.length / 16 ∧ t.pair.ckptHalf = b.pair.ckptHalf ∧
           t.jobs = b.jobs ++ [⟨b.jobCount, 0, .ckpt none,
             [(base + b.pair.ckptHalf * 2 ^ 26 + (g.val * 524288 + first.toNat) * 16, raw)]⟩])) ∧
      (b.pairRole = rolePrimary → TakesTo (.handover seq) b fun t => sees t ∧ t.pairRole = rolePrimary ∧ t.inflight = b.inflight) ∧
      (b.pairRole = roleStandby → b.pair.promoting = false → b.mirrorsLeft = false → (∀ e, b.pair.expect = some e → seq.toNat < e) →
        TakesTo (.handover seq) b fun t => sees t ∧ t.pairRole = rolePrimary ∧ t.flag S F.PAIR_STATUS_DRAINING = false ∧
          t.flag S F.PAIR_STATUS_CONFLICT = false ∧ t.flag S F.PAIR_STATUS_PROMOTED_SEEN = true ∧
          t.word R.PAIR_EPOCH = (b.word R.PAIR_EPOCH + 1) % 2 ^ 32 ∧ t.inflight = (b.send 3 0 0x6A 0).inflight) ∧
      (b.pairRole = roleStandby → b.pair.promoting = false → b.mirrorsLeft = true → TakesTo (.handover seq) b fun t =>
        sees t ∧ t.pairRole = roleStandby ∧ t.flag S F.PAIR_STATUS_DRAINING = true ∧ t.pair.promoting = true ∧
        t.pair.upTo = some seq.toNat ∧ t.inflight = b.inflight) ∧
      TakesTo .msgErr b (fun t => bump t R.PAIR_MSG_ERR ∧ t = { b with ctrs := t.ctrs }))

/-- HEARTBEAT_SEND, PAIR_PERIODIC_SEND, PAIR_HANDOVER_SEND, PEER_TIMEOUT, PAIR_PROMOTE, PAIR_START, PAIR_HANDOVER, PROMOTE, DEMOTE,
SHAIX_LINK_UP, SHAIX_LINK_DOWN and SHAIX_REFCLK_LOST (R463, R465, R466, R469, R470, R544). Each of the twelve completes under the
hypotheses on the block and the operands alone. -/
def Obligations.RolesChangeAsTheTableSays : Prop :=
  ∀ b : Block,
    let S := R.PAIR_STATUS
    let up := b.flag S F.PAIR_STATUS_LINK_UP = true
    let beatDue := b.since b.pair.beatAt (b.fld R.PAIR_TIMING F.PAIR_TIMING_HB_INTERVAL * 1000) = true
    let silent (n : Nat) : Prop := b.since b.pair.seenAt n = true
    let tooLong := silent (b.fld R.PAIR_TIMING F.PAIR_TIMING_HB_TIMEOUT * 1000000)
    let primary (t : Block) : Prop := t.pairRole = rolePrimary ∧ t.flag S F.PAIR_STATUS_DRAINING = false ∧ t.mirroring = false ∧
      t.flag S F.PAIR_STATUS_PROMOTED_SEEN = true ∧ t.word R.PAIR_EPOCH = (b.word R.PAIR_EPOCH + 1) % 2 ^ 32 ∧
      ∃ l, t.inflight = (b.send 3 0 0x6A 0).inflight ++ l
    let draining (t : Block) : Prop := t.pairRole = roleStandby ∧ t.flag S F.PAIR_STATUS_DRAINING = true ∧ t.pair.promoting = true ∧
      t.inflight = b.inflight
    let shows := b.pair.promoting = true → b.flag S F.PAIR_STATUS_DRAINING = true
    let standby (t : Block) : Prop := t.pairRole = roleStandby ∧ t.mirroring = false ∧ t.pair.handing = false ∧
      t.pair.lag = [] ∧ t.inflight = b.inflight
    (b.pairRole = roleNone ∨ ¬ beatDue → Takes .heartbeatSend b b) ∧
    (b.pairRole ≠ roleNone → beatDue → up → b.mirroring = false → TakesTo .heartbeatSend b fun t =>
      t.pair = { b.pair with beatAt := some b.ticks } ∧ t = { b with out := t.out, ctrs := t.ctrs, pair := t.pair } ∧
      t.out = b.out ++ [.shaix 1 ([1, 0, 0, 22] ++ beBytes 1 b.pairRole ++ [0] ++ beBytes 4 (b.word R.PAIR_EPOCH) ++
        beBytes 8 (b.ctr R.PAIR_NEXT_SEQ) ++ beBytes 8 (b.ctr R.PAIR_APPLIED_SEQ))]) ∧
    (b.pairRole ≠ rolePrimary ∨ b.mirroring = false ∨ ¬ b.since b.pair.sentAt 10000000 = true → Takes .pairPeriodicSend b b) ∧
    (b.pairRole = rolePrimary → b.mirroring = true → b.since b.pair.sentAt 10000000 = true → up → TakesTo .pairPeriodicSend b fun t =>
      t.pair.sentAt = some b.ticks ∧ t.regs = b.regs ∧ t.engines = b.engines ∧
      t.out.length = b.out.length + 2 + 65536 ∧ (∃ l, t.out = b.out ++ l ∧
        ∃ x y, l.take 2 = [.shaix 6 x, .shaix 7 y] ∧ x.length = 4 + 33 ∧ y.length = 4 + 160)) ∧
    (b.pairRole ≠ rolePrimary ∨ b.pair.handing = false ∨ b.pair.waiting ≠ [] → Takes .pairHandoverSend b b) ∧
    (b.pairRole = rolePrimary → b.pair.handing = true → b.pair.waiting = [] → up → (∀ d : Fin 4, (b.engine d).ops = []) →
      TakesTo .pairHandoverSend b fun t => standby t ∧
        t.out = b.out ++ [.shaix 9 ([9, 0, 0, 8] ++ beBytes 8 (b.ctr R.PAIR_NEXT_SEQ + 2 ^ 64 - 1))]) ∧
    (b.pairRole = roleNone ∨ b.flag S F.PAIR_STATUS_PEER_SEEN = false ∨ ¬ tooLong → Takes .peerTimeout b b) ∧
    (b.flag S F.PAIR_STATUS_PEER_SEEN = true → tooLong →
      (b.pairRole = rolePrimary → TakesTo .peerTimeout b fun t => t.flag S F.PAIR_STATUS_PEER_SEEN = false ∧ t.mirroring = false ∧
        t.flag S F.PAIR_STATUS_SOLO = true ∧ t.pairRole = rolePrimary ∧ t.pair.lag = [] ∧ t.inflight = (b.send 3 0 0x6B 0).inflight) ∧
      (b.pairRole = roleStandby → b.mirrorsLeft = false → TakesTo .peerTimeout b primary) ∧
      (b.pairRole = roleStandby → b.mirrorsLeft = true → shows → TakesTo .peerTimeout b draining)) ∧
    (b.pair.promoting = false ∨ b.mirrorsLeft = true ∨ b.pair.reached = false → Takes .pairPromote b b) ∧
    (b.pair.promoting = true → b.mirrorsLeft = false → b.pair.reached = true → TakesTo .pairPromote b primary) ∧
    TakesTo .shaixLinkDown b (fun t => t.flag S F.PAIR_STATUS_LINK_UP = false ∧ t = { b with regs := t.regs }) ∧
    TakesTo .shaixRefclkLost b (fun t => t.flag S F.PAIR_STATUS_LINK_UP = false ∧ t = { b with regs := t.regs }) ∧
    (b.inReset = true → Takes .shaixLinkUp b b) ∧
    (b.inReset = false → TakesTo .shaixLinkUp b fun t => t.flag S F.PAIR_STATUS_LINK_UP = true ∧ t = { b with regs := t.regs }) ∧
    ∀ v : BitVec 32,
      (b.reaches .host .pair →
        (F.PAIR_CTRL_START.of v.toNat = 0 ∨ b.pairRole ≠ rolePrimary → Takes (.pairStart v) b b) ∧
        (F.PAIR_CTRL_START.of v.toNat = 1 → b.pairRole = rolePrimary →
          (b.fld R.PAIR_CFG F.PAIR_CFG_MIRROR = 0 → TakesTo (.pairStart v) b fun t => t.mirroring = false ∧ t.pair.lag = [] ∧
            t.inflight = b.inflight) ∧
          (b.fld R.PAIR_CFG F.PAIR_CFG_MIRROR ≠ 0 →
            (b.peerSeen = true → b.pair.peerRole = roleStandby → TakesTo (.pairStart v) b fun t =>
              t.mirroring = true ∧ t.pair = { b.pair with mode := b.fld R.PAIR_CFG F.PAIR_CFG_MIRROR } ∧
              t = { b with regs := t.regs, pair := t.pair }) ∧
            (b.peerSeen = false ∨ b.pair.peerRole ≠ roleStandby → Takes (.pairStart v) b b))) ∧
        (F.PAIR_CTRL_HANDOVER.of v.toNat = 0 ∨ b.pairRole ≠ rolePrimary → Takes (.pairHandover v) b b) ∧
        (F.PAIR_CTRL_HANDOVER.of v.toNat = 1 → b.pairRole = rolePrimary →
          Takes (.pairHandover v) b { b with pair := { b.pair with handing := true } }) ∧
        (F.PAIR_CTRL_DEMOTE.of v.toNat = 0 ∨ b.pairRole ≠ rolePrimary → Takes (.demote v) b b) ∧
        (F.PAIR_CTRL_DEMOTE.of v.toNat = 1 → b.pairRole = rolePrimary → TakesTo (.demote v) b standby)) ∧
      ∀ w : Writer, b.reaches w .pair →
        (F.PAIR_CTRL_PROMOTE.of v.toNat = 0 ∨ b.pairRole ≠ roleStandby → Takes (.promote w v) b b) ∧
        (F.PAIR_CTRL_PROMOTE.of v.toNat = 1 → b.pairRole = roleStandby →
          let quiet := silent (3 * (b.fld R.PAIR_TIMING F.PAIR_TIMING_HB_INTERVAL * 1000))
          (¬ quiet → Takes (.promote w v) b (b.refuse w R.PAIR_CTRL)) ∧
          (quiet → b.mirrorsLeft = false → TakesTo (.promote w v) b primary) ∧
          (quiet → b.mirrorsLeft = true → shows → TakesTo (.promote w v) b draining))

/-! ## Faults (spec/16) -/

/-- FAULT_MESSAGE, FAULT_POP, FAULT_INJECT and FIRST_CLR (R473, R477 to R481). A collector takes the message in flight that is
next: it gets the severity that FLT.SEV gives its kind and the stamp of that instant, and counts; a collector stores it behind
those that it holds, or, with no room for its severity, drops and counts it; the first one that is serious enough is captured. A
die collector passes its oldest message on to the package queue, whose head is removed by POP. INJECT sends a message as a source
would. Each of the four completes under the hypotheses on the block and the operands alone. -/
def Obligations.MessagesAreCollectedAndPopped : Prop :=
  ∀ (b : Block) (d : Fin 4) (straps : BitVec 7),
    let kept (x : Collector) (m : Msg) (sev : Nat) : Msg :=
      { m with sev := sev, stamp := b.stampNow, ref := b.ticks, lost := m.lost || x.dropped, seq := x.seq }
    let bump (t : Block) (a : Nat) : Prop := t.ctr a = (b.ctr a + 1) % 2 ^ 64
    let takes (c : Nat) (h : FaultHop) : Prop :=
      (b.nextMsg c = none → Takes (.faultMessage ⟨h, straps⟩) b b) ∧
      ∀ m, b.nextMsg c = some m →
        let sev := b.severity m.typ m.kind
        let room := (b.col c).held.length < (if c < 4 then (if 2 ≤ sev then 64 else 48) else if 2 ≤ sev then 1024 else 960)
        sev < 3 ∨ m.kind = 3 → TakesTo (.faultMessage ⟨h, straps⟩) b fun t =>
          t.inflight = b.inflight.erase m ∧ bump t (R.FLT_COUNT sev) ∧
          (∃ r, t.records = b.records ++ [r] ∧ r.typ = 1 ∧ r.sev = sev) ∧
          (room → (t.col c).held = (b.col c).held ++ [kept (b.col c) m sev] ∧ (t.col c).dropped = false) ∧
          (¬ room → (t.col c).held = (b.col c).held ∧ (t.col c).dropped = true ∧ t.flag (colStatus c) F.FLT_STATUS_LOST_SEEN = true ∧
            bump t (if c < 4 then R.DIE_FLT_LOST c else R.FLT_LOST)) ∧
          (b.flag (colStatus c) F.FLT_STATUS_CAPTURED = false → b.fld R.FLT_CFG F.FLT_CFG_CAPTURE_SEV ≤ sev →
            t.flag (colStatus c) F.FLT_STATUS_CAPTURED = true ∧ ((b.col c).dropped = false → m.lost = false →
              t.word (colFirst c 4) = ({ m with sev := sev } : Msg).word / 2 ^ 32 % 2 ^ 32)) ∧
          (b.flag (colStatus c) F.FLT_STATUS_CAPTURED = true ∨ sev < b.fld R.FLT_CFG F.FLT_CFG_CAPTURE_SEV →
            t.word (colFirst c 0) = b.word (colFirst c 0) ∧ t.word (colFirst c 4) = b.word (colFirst c 4)) ∧
          (sev = 2 → t.fld (colEscCount c) F.FLT_ESC_COUNT_RECEIVED =
            (b.fld (colEscCount c) F.FLT_ESC_COUNT_RECEIVED + 1) % 65536) ∧
          t.frames = b.frames ∧ t.regions = b.regions ∧ t.ports = b.ports
    takes d (.die d) ∧ takes 4 .pkg ∧
    ((b.die d).col.held = [] → Takes (.faultMessage ⟨.fromDie d, straps⟩) b b) ∧
    (∀ m r, (b.die d).col.held = m :: r → TakesTo (.faultMessage ⟨.fromDie d, straps⟩) b fun t =>
      (t.die d).col.held = r ∧ t.inflight = b.inflight ∧
      (b.flt.held.length < (if 2 ≤ m.sev then 1024 else 960) →
        t.flt.held = b.flt.held ++ [{ m with lost := m.lost || b.flt.dropped, seq := b.flt.seq }]) ∧
      ((if 2 ≤ m.sev then 1024 else 960) ≤ b.flt.held.length → t.flt.held = b.flt.held ∧ bump t R.FLT_LOST)) ∧
    (∀ v : BitVec 32, b.reaches .host .flt →
      (F.FLT_POP_POP.of v.toNat = 0 ∨ b.flt.held = [] → Takes (.faultPop v) b b) ∧
      (∀ m r, F.FLT_POP_POP.of v.toNat = 1 → b.flt.held = m :: r →
        (b.flt.lostSince = 0 ∨ 512 ≤ r.length → Takes (.faultPop v) b { b with flt := { b.flt with held := r } }) ∧
        (b.flt.lostSince ≠ 0 → r.length < 512 →
          Takes (.faultPop v) b (({ b with flt := { b.flt with held := r, lostSince := 0 } } : Block).send 0 2 0x02
            (b.flt.lostSince % 2 ^ 32))))) ∧
    (∀ (w : Writer) (v : BitVec 32), b.reaches w .flt →
      let typ := v.toNat / 2 ^ 28
      let idx := v.toNat / 2 ^ 16 % 4096
      let m : Msg := { typ := typ, idx := idx, kind := v.toNat / 256 % 256, injected := true, ref := b.ticks, requester := 0x1FF,
                       addr := v.toNat % 16 * 2 ^ 32 + b.word R.FLT_INJECT_LO }
      (sourceOk typ idx = false → Takes (.faultInject w v) b (b.refuse w R.FLT_INJECT_HI)) ∧
      (sourceOk typ idx = true → TakesTo (.faultInject w v) b fun t =>
        t.inflight = b.inflight ++ [m] ∧ t = { b with regs := t.regs, inflight := t.inflight })) ∧
    ∀ (c : Fin 5) (v : BitVec 32), b.reaches .host (colBlk c) →
      (F.FLT_FIRST_CLR_CLR.of v.toNat = 0 → Takes (.firstClr c v) b b) ∧
      (F.FLT_FIRST_CLR_CLR.of v.toNat = 1 → TakesTo (.firstClr c v) b fun t =>
        t.flag (colStatus c) F.FLT_STATUS_CAPTURED = false ∧ (∀ a, a ≠ colStatus c → t.word a = b.word a) ∧
        t = { b with regs := t.regs })

/-- ESC_ACK, ESCALATE, FAULT_N_PULSE_END and FAULT_N_CLEAR, and a fatal FAULT_MESSAGE at a die (R482 to R485). ESC_ACK says how
many serious messages are answered, and is refused beyond those received. A timer that has expired answers all of them, sends
ESCALATE and takes the fatal action: with ACTION 0 a die collector has its die held, the package collector the dies of HOLD_MASK;
with another one the package collector resets the package, with the straps as the pins stand at the reset's end; a level-type
release by HOLD_REL_N that stands ends such a Hold. Every fatal action drives FAULT_N low; its pulse ends in time, under LATCH the
low stays until CLEAR. Each of the four completes under the hypotheses on the block and the operands alone. -/
def Obligations.EscalationTakesTheFatalAction : Prop :=
  ∀ (b : Block) (straps : BitVec 7),
    let held (t : Block) (d : Nat) : Prop := t.flag (R.DIE_HOLD_STATUS d) F.DIE_HOLD_STATUS_ESCALATED = true ∧
      ((b.die d).phase ≠ .held →
        b.pinLevel d = false ∨ (b.die d).phase = .window ∨ (b.die d).phase = .parking ∨ ((b.die d).phase = .idle ∧ b.started = true) →
          t.flag (R.DIE_HOLD_STATUS d) F.DIE_HOLD_STATUS_LATCH = true)
    let pin (t : Block) : Prop := t.out = b.out ++ (if t.faultLow = b.faultLow then [] else [.pin "FAULT_N" t.faultLow])
    let n (c : Nat) := b.fld (colEscCount c) F.FLT_ESC_COUNT_RECEIVED
    let answered (t : Block) (c : Nat) : Prop :=
      t.fld (colEscCount c) F.FLT_ESC_COUNT_ACKED = n c ∧ t.flag (colStatus c) F.FLT_STATUS_ESC_RUNNING = false ∧
      t.flag (colStatus c) F.FLT_STATUS_ESC_FIRED = true
    (∀ (w : Writer) (c : Fin 5) (v : BitVec 32), b.reaches w (colBlk c) →
      let acked := b.fld (colEscCount c) F.FLT_ESC_COUNT_ACKED
      let beyond := (n c + 65536 - acked) % 65536 < (v.toNat % 65536 + 65536 - acked) % 65536
      (beyond → Takes (.escAck w c v) b (b.refuse w (colEscAck c))) ∧
      (¬ beyond → TakesTo (.escAck w c v) b fun t =>
        t.fld (colEscCount c) F.FLT_ESC_COUNT_ACKED = v.toNat % 65536 ∧ t.fld (colEscCount c) F.FLT_ESC_COUNT_RECEIVED = n c ∧
        t.flag (colStatus c) F.FLT_STATUS_ESC_RUNNING =
          (v.toNat % 65536 != n c && b.fld (colEscCfg c) F.FLT_ESC_CFG_TIME != 0) ∧ t = { b with regs := t.regs })) ∧
    (∀ c : Fin 5, b.escDue c = false → Takes (.escalate ⟨c, straps⟩) b b) ∧
    (∀ d : Fin 4, b.escDue d = true → b.fld (colEscCfg d) F.FLT_ESC_CFG_ACTION = 0 → TakesTo (.escalate ⟨d.castSucc, straps⟩) b fun t =>
      answered t d ∧ t.inflight = (b.send 6 d 0x03 (n d)).inflight ∧ t.faultLow = true ∧ pin t ∧ held t d ∧ t.frames = b.frames) ∧
    (b.escDue 4 = true → b.fld (colEscCfg 4) F.FLT_ESC_CFG_ACTION = 0 → TakesTo (.escalate ⟨4, straps⟩) b fun t =>
      answered t 4 ∧ t.inflight = (b.send 0 2 0x03 (n 4)).inflight ∧ t.faultLow = true ∧ pin t ∧
      (∀ d : Fin 4, bitOf (b.fld R.FLT_ESC_CFG F.FLT_ESC_CFG_HOLD_MASK) d = true → held t d) ∧ t.frames = b.frames) ∧
    (b.escDue 4 = true → b.fld (colEscCfg 4) F.FLT_ESC_CFG_ACTION ≠ 0 → TakesTo (.escalate ⟨4, straps⟩) b fun t =>
      bitOf (t.word R.FLT_RESET_CAUSE) 26 = true ∧ t.faultLow = true ∧ t.frames = [] ∧ t.inflight = [] ∧ t.locked = false ∧
      t.strapPins = straps.toNat) ∧
    (∀ (d : Fin 4) (m : Msg), b.nextMsg d = some m → b.severity m.typ m.kind = 3 → m.kind ≠ 3 →
      b.fld (colEscCfg d) F.FLT_ESC_CFG_ACTION = 0 → TakesTo (.faultMessage ⟨.die d, straps⟩) b fun t =>
        t.inflight = b.inflight.erase m ∧ t.faultLow = true ∧ pin t ∧ held t d ∧ t.flag R.FLT_STATUS F.FLT_STATUS_FATAL_SEEN = true) ∧
    (b.faultN.till = none → Takes .faultNPulseEnd b b) ∧
    (∀ e, b.faultN.till = some e →
      (b.ticks < e → Takes .faultNPulseEnd b b) ∧
      (e ≤ b.ticks → TakesTo .faultNPulseEnd b fun t => pin t ∧ t = { b with out := t.out, faultN := t.faultN } ∧
        t.faultN = { till := none, latched := b.faultN.latched || b.flag R.FLT_FAULT_N_CTRL F.FLT_FAULT_N_CTRL_LATCH })) ∧
    ∀ (w : Writer) (v : BitVec 32), b.reaches w .flt →
      let us := F.FLT_FAULT_N_CTRL_PULSE.of v.toNat
      (F.FLT_FAULT_N_CTRL_CLEAR.of v.toNat = 0 → Takes (.faultNClear w v) b b) ∧
      (F.FLT_FAULT_N_CTRL_CLEAR.of v.toNat = 1 → us < 10 ∨ 1000 < us →
        Takes (.faultNClear w v) b (b.refuse w R.FLT_FAULT_N_CTRL)) ∧
      (F.FLT_FAULT_N_CTRL_CLEAR.of v.toNat = 1 → 10 ≤ us → us ≤ 1000 → TakesTo (.faultNClear w v) b fun t => pin t ∧
        t.faultN = { b.faultN with latched := false } ∧ t.fld R.FLT_FAULT_N_CTRL F.FLT_FAULT_N_CTRL_PULSE = us ∧
        t = { b with regs := t.regs, out := t.out, faultN := t.faultN })

/-! ## Resets and Hold (spec/16) -/

/-- POWER_ON_RESET, POWER_ON_RESET_END, SAG_RESET, SAG_RESET_END, PIN_RESET, RESET_RELEASE and PACKAGE_SOFT_RESET (R74, R413, R416,
R486 to R488, R540). A package reset returns the block to its reset state and records its cause; but for the fuses, a power-on
reset keeps nothing; every other one keeps the captured first error; pin, ring and soft resets keep the time bases, the ticks and
what goes with them; the rails stand where they are. When the last cause has ended the boot sequencer starts with step 2: straps
are taken, and each rail that stands elsewhere is sent the voltage of L2 (R52, assumption 110). SAG_WARN_N is low through a sag
reset. DIE_RESET, DIE_RESET_DONE, FORWARDING_RESET and FWD_RESET (R489, R490). A reset die goes through an internal Hold without an
entry window, and when it is done leaves it unless another source holds it. A forwarding reset empties the die's regions and the
FIFOs toward them, but for the copies that are being transmitted, which run on (assumption 138), and refuses frames until its
period is over. Each of the eleven completes under the hypotheses on the block and the operands alone. -/
def Obligations.ResetsKeepWhatTheTableSays : Prop :=
  (∀ (b : Block) (straps : BitVec 7),
    let C := R.FLT_RESET_CAUSE
    let cleared (t : Block) : Prop := t.frames = [] ∧ t.fifos = [] ∧ t.engines = [] ∧ t.regions = [] ∧ t.inflight = [] ∧
      t.pools = [] ∧ t.slow = [] ∧ t.jobs = [] ∧ t.dmaEng = [] ∧ t.locked = false ∧ t.boot.bus = false ∧ t.fuses = b.fuses ∧
      t.refLost = b.refLost ∧
      ∀ d, ∃ cmd conf mv wr, t.die d = { cmdMv := cmd, confMv := conf, sagMv := mv, writing := wr }
    let rails (t : Block) : Prop := (b.dies.map (·.1)).Nodup → ∀ d, (t.die d).cmdMv = (b.die d).cmdMv ∧
      (t.die d).writing = (b.die d).writing ∧ (t.die d).sagMv = min 765 (b.die d).sagMv
    let bus : List Output := if b.boot.bus then [.nvmBus false] else []
    let keepsCapture (t : Block) : Prop := ∀ a, captureReg a = true → t.word a = b.word a
    let warm (t : Block) : Prop := keepsCapture t ∧ t.ticks = b.ticks ∧ t.baseA = b.baseA ∧ t.baseB = b.baseB ∧
      t.rings = b.rings ∧ t.records = b.records ∧ t.word R.FLT_FAULT_N_CTRL = b.word R.FLT_FAULT_N_CTRL ∧
      t.word R.CHN_ADDR = b.word R.CHN_ADDR ∧ t.word R.CHN_RING_HOLD = b.word R.CHN_RING_HOLD ∧
      t.word R.PAIR_EPOCH = b.word R.PAIR_EPOCH
    let boots (t : Block) (p : Nat) : Prop := t.boot.start = t.ticks ∧ t.chain.on = true ∧ t.word R.PKG_STRAPS = p ∧
      t.pinLow = false ∧ t.pkgHold = .none ∧ t.boot.phase = .fuses ∧ t.fld R.BOOT_STATUS F.BOOT_STATUS_STEP = 2 ∧
      ∀ d, d < 4 → (t.die d).cmdMv = 765
    TakesTo .powerOnReset b (fun t => cleared t ∧ t.pkgHold = .powerOn ∧ t.word C = 2 ^ 31 ∧ t.ticks = 0 ∧ t.ctrs = [] ∧
      t.records = [] ∧ t.boot.phase = .off ∧ t.dies = [] ∧ t.out = b.out ++ bus ++ [.pin "SAG_WARN_N" false] ∧
      ∀ a, a ≠ C → t.word a = resetWord a) ∧
    (b.pkgHold ≠ .powerOn → Takes (.powerOnResetEnd straps) b b) ∧
    (b.pkgHold = .powerOn → b.pinLow = true →
      Takes (.powerOnResetEnd straps) b { b with pkgHold := .none, strapPins := straps.toNat }) ∧
    (b.pkgHold = .powerOn → b.pinLow = false → TakesTo (.powerOnResetEnd straps) b fun t =>
      boots t straps.toNat ∧ t.ticks = b.ticks ∧ t.frames = b.frames ∧ t.ctrs = b.ctrs) ∧
    (∀ (d : Fin 4) (mv : BitVec 10),
      let low := mv.toNat * 200 < b.fld (R.DIE_SAG_CFG d) F.DIE_SAG_CFG_RESET_PCT * b.sagRef d
      (¬ low → TakesTo (.sagReset d mv) b fun t => t = { b with regs := t.regs } ∧
        t.fld (R.DIE_SAG_STATUS d) F.DIE_SAG_STATUS_MIN_MV = min mv.toNat (b.fld (R.DIE_SAG_STATUS d) F.DIE_SAG_STATUS_MIN_MV)) ∧
      (low → TakesTo (.sagReset d mv) b fun t => cleared t ∧ keepsCapture t ∧ rails t ∧ t.ticks = 0 ∧ t.ctrs = [] ∧
        t.out = b.out ++ bus ++ [.pin "SAG_WARN_N" true] ∧
        t.pkgHold = (if b.pkgHold = .none then .sag else b.pkgHold) ∧ bitOf (t.word C) 30 = true ∧ bitOf (t.word C) (16 + d) = true)) ∧
    (b.pkgHold ≠ .sag → Takes (.sagResetEnd straps) b b) ∧
    (b.pkgHold = .sag → b.pinLow = false → TakesTo (.sagResetEnd straps) b fun t =>
      boots t straps.toNat ∧ ∃ l, t.out = b.out ++ .pin "SAG_WARN_N" false :: l) ∧
    (b.pinLow = true → Takes .pinReset b b) ∧
    (b.pinLow = false → TakesTo .pinReset b fun t => cleared t ∧ warm t ∧ rails t ∧ t.pinLow = true ∧ t.boot.phase = .off ∧
      t.out = b.out ++ bus ∧
      bitOf (t.word C) 29 = true ∧ (b.inReset = false → t.word C % 65536 = min 65535 (b.word C % 65536 + 1))) ∧
    (b.pinLow = false → Takes (.resetRelease straps) b b) ∧
    (b.pinLow = true → b.pkgHold ≠ .none → Takes (.resetRelease straps) b { b with pinLow := false, strapPins := straps.toNat }) ∧
    (b.pinLow = true → b.pkgHold = .none → TakesTo (.resetRelease straps) b fun t => boots t straps.toNat ∧ t.ticks = b.ticks) ∧
    ∀ (w : Writer) (v : BitVec 32), b.reaches w .pkg →
      (F.PKG_RESET_CTRL_SOFT.of v.toNat = 0 → Takes (.packageSoftReset w v straps) b b) ∧
      (F.PKG_RESET_CTRL_SOFT.of v.toNat = 1 → F.PKG_RESET_CTRL_KEY.of v.toNat ≠ 0x5A →
        Takes (.packageSoftReset w v straps) b (b.refuse w R.PKG_RESET_CTRL)) ∧
      (F.PKG_RESET_CTRL_SOFT.of v.toNat = 1 → F.PKG_RESET_CTRL_KEY.of v.toNat = 0x5A → b.inReset = false →
        TakesTo (.packageSoftReset w v straps) b fun t => cleared t ∧ warm t ∧ boots t straps.toNat ∧ bitOf (t.word C) 27 = true ∧
          bitOf (t.word C) 25 = b.started)) ∧
  (∀ (b : Block) (d : Fin 4),
    let S := R.DIE_HOLD_STATUS d
    (∀ (w : Writer) (v : BitVec 32), b.reaches w .pkg →
      let key := F.PKG_RESET_CTRL_KEY.of v.toNat = 0x5A
      let dies := F.PKG_RESET_CTRL_DIE_MASK.of v.toNat
      let fwds := F.PKG_RESET_CTRL_FWD_MASK.of v.toNat
      (dies = 0 → Takes (.dieReset w v) b b) ∧ (fwds = 0 → Takes (.forwardingReset w v) b b) ∧
      (dies ≠ 0 → ¬ key → Takes (.dieReset w v) b (b.refuse w R.PKG_RESET_CTRL)) ∧
      (fwds ≠ 0 → ¬ key → Takes (.forwardingReset w v) b (b.refuse w R.PKG_RESET_CTRL)) ∧
      (key → F.PKG_RESET_CTRL_SOFT.of v.toNat = 0 →
        (dies = 2 ^ d.val → fwds = 0 →
          ((b.die d).resetting = true → Takes (.dieReset w v) b b) ∧
          ((b.die d).resetting = false → (b.die d).phase = .idle ∨ (b.die d).phase = .window → TakesTo (.dieReset w v) b fun t =>
            (t.die d).resetting = true ∧ (t.die d).phase = .parking ∧
            ((b.die d).phase = .idle → t.flag S F.DIE_HOLD_STATUS_ENTERING = true) ∧
            (t.region (2 * d)).stored = [] ∧ (t.region (2 * d)).queues = [] ∧
            (t.region (2 * d + 1)).stored = [] ∧ (t.region (2 * d + 1)).queues = []) ∧
          ((b.die d).resetting = false → (b.die d).phase = .parking ∨ (b.die d).phase = .exiting →
            Takes (.dieReset w v) b (b.modDie d fun x => { x with resetting := true })) ∧
          ((b.die d).resetting = false → (b.die d).phase = .held → TakesTo (.dieReset w v) b fun t =>
            (t.die d).resetting = true ∧ (t.die d).phase = .held ∧ (t.region (2 * d)).stored = [] ∧ t.frames = b.frames)) ∧
        (dies = 0 → fwds = 2 ^ d.val → TakesTo (.forwardingReset w v) b fun t =>
          (t.die d).refusing = true ∧ (t.die d).phase = (b.die d).phase ∧ t.frames = b.frames ∧ t.inflight = b.inflight ∧
          (∀ p, (t.port p).tx = (b.port p).tx) ∧
          ∀ G, G = 2 * d.val ∨ G = 2 * d.val + 1 →
            (∀ e ∈ (t.region G).stored, ∃ k, k < 32 ∧ ∃ c ∈ (b.port (32 * G + k)).tx, c.sid = e.1) ∧ (t.region G).queues = [] ∧
            (t.region G).groups = [] ∧ ∀ i, i < 4 → t.fifo i G = []))) ∧
    ((b.die d).resetting = false ∨ (b.die d).phase ≠ .held → Takes (.dieResetDone d) b b) ∧
    ((b.die d).resetting = true → (b.die d).phase = .held → b.latchH d = true ∨ bitOf (b.word R.CHN_RING_HOLD) d = true →
      TakesTo (.dieResetDone d) b fun t => t.die d = { b.die d with resetting := false } ∧
        t.inflight = (b.send 6 d 0x07 0).inflight ∧ t.regs = b.regs ∧ ∃ r, t.records = b.records ++ [r] ∧ r.typ = 5) ∧
    ((b.die d).resetting = true → (b.die d).phase = .held → b.latchH d = false → bitOf (b.word R.CHN_RING_HOLD) d = false →
      TakesTo (.dieResetDone d) b fun t => (t.die d).phase = .idle ∧ (t.die d).resetting = false ∧
        t.flag S F.DIE_HOLD_STATUS_HELD = false) ∧
    ((b.die d).refusing = false → Takes (.fwdReset d) b b) ∧
    ((b.die d).refusing = true → TakesTo (.fwdReset d) b fun t => t.die d = { b.die d with refusing := false } ∧
      t.inflight = (b.send 6 d 0x08 0).inflight ∧ t = { b with dies := t.dies, inflight := t.inflight, records := t.records }))

/-- HOLD_REQUEST, HOLD_RELEASE, HOLD_REL_N, HOLD_ENTRY, HOLD_ENTER and HOLD_EXIT (R491 to R499). A request of the register opens
the entry window of a die; when its 16 ns are over the die loses what it holds and its contexts park; with all parked it is held. A
release is lost in the window, waits while contexts park, and takes the latch away from a held die, which leaves Hold when nothing
else requests it; after its exit a die that is requested again starts a new entry. A level-type release by HOLD_REL_N that stands
ends the request (R494). Each of the six completes under the hypotheses on the block and the operands alone. -/
def Obligations.DiesAreHeldAndReleased : Prop :=
  ∀ (b : Block) (d : Fin 4),
    let S := R.DIE_HOLD_STATUS d
    let cfg (f : Bf) : Bool := b.flag (R.DIE_HOLD_CFG d) f
    let x := b.die d
    let byPin := b.relPin = true ∧ cfg F.DIE_HOLD_CFG_PIN_MODE = true ∧ cfg F.DIE_HOLD_CFG_REL_PIN_EN = true
    let others := bitOf (b.word R.CHN_RING_HOLD) d = true ∨ x.resetting = true
    let leaves (t : Block) : Prop := t.die d = { x with phase := .exiting, release := false } ∧
      t.flag S F.DIE_HOLD_STATUS_LATCH = false ∧ t.flag S F.DIE_HOLD_STATUS_EXITING = true ∧ t.frames = b.frames
    (∀ (w : Writer) (v : BitVec 32), b.reaches w .die →
      let h := F.DIE_HOLD_CTRL_HOLD.of v.toNat
      let r := F.DIE_HOLD_CTRL_RELEASE.of v.toNat
      (h = 0 → Takes (.holdRequest w d v) b b) ∧ (r = 0 → Takes (.holdRelease w d v) b b) ∧
      (h = 1 → r = 1 → Takes (.holdRequest w d v) b (b.refuse w (R.DIE_HOLD_CTRL d)) ∧
        Takes (.holdRelease w d v) b (b.refuse w (R.DIE_HOLD_CTRL d))) ∧
      (h = 1 → r = 0 → ¬ byPin →
        (b.started = true → x.phase = .idle → TakesTo (.holdRequest w d v) b fun t =>
          t.die d = { x with phase := .window, holdAt := b.ticks, release := false, cause := 1 } ∧
          t.flag S F.DIE_HOLD_STATUS_LATCH = true ∧ t.flag S F.DIE_HOLD_STATUS_ENTERING = true ∧
          t.flag S F.DIE_HOLD_STATUS_ESCALATED = false ∧ t = { b with regs := t.regs, dies := t.dies }) ∧
        (b.started = false ∨ x.phase ≠ .idle → TakesTo (.holdRequest w d v) b fun t =>
          t.flag S F.DIE_HOLD_STATUS_LATCH = true ∧ t.flag S F.DIE_HOLD_STATUS_ESCALATED = false ∧ t = { b with regs := t.regs })) ∧
      (h = 1 → r = 0 → byPin →
        (b.started = true → x.phase = .idle → TakesTo (.holdRequest w d v) b fun t =>
          t.die d = { x with phase := .window, holdAt := b.ticks, release := true, cause := 1 } ∧
          t.flag S F.DIE_HOLD_STATUS_LATCH = true ∧ t = { b with regs := t.regs, dies := t.dies }) ∧
        (x.phase = .window ∨ x.phase = .parking → TakesTo (.holdRequest w d v) b fun t =>
          t.die d = { x with release := true } ∧ t.flag S F.DIE_HOLD_STATUS_LATCH = true ∧ t = { b with regs := t.regs, dies := t.dies }) ∧
        (x.phase = .held → ¬ others → TakesTo (.holdRequest w d v) b leaves)) ∧
      (h = 0 → r = 1 →
        (cfg F.DIE_HOLD_CFG_REL_REG_EN = false ∨ b.latchH d = false → Takes (.holdRelease w d v) b b) ∧
        (cfg F.DIE_HOLD_CFG_REL_REG_EN = true → b.latchH d = true →
          (x.phase = .window → TakesTo (.holdRelease w d v) b fun t => t.flag S F.DIE_HOLD_STATUS_REL_LOST = true ∧
            t.flag S F.DIE_HOLD_STATUS_LATCH = true ∧ t = { b with regs := t.regs }) ∧
          (x.phase = .parking → Takes (.holdRelease w d v) b (b.modDie d fun x => { x with release := true })) ∧
          (x.phase = .held → ¬ others → TakesTo (.holdRelease w d v) b leaves) ∧
          (x.phase = .held → others → TakesTo (.holdRelease w d v) b fun t =>
            t.flag S F.DIE_HOLD_STATUS_LATCH = false ∧ t = { b with regs := t.regs })))) ∧
    Takes (.holdRelN false) b { b with relPin := false } ∧
    (b.relPin = true → Takes (.holdRelN true) b b) ∧
    (b.relPin = false →
      ((∀ e : Fin 4, b.flag (R.DIE_HOLD_CFG e) F.DIE_HOLD_CFG_REL_PIN_EN = false) →
        Takes (.holdRelN true) b { b with relPin := true }) ∧
      (cfg F.DIE_HOLD_CFG_REL_PIN_EN = true → b.latchH d = true →
        (x.phase = .held → ¬ others → TakesTo (.holdRelN true) b leaves) ∧
        (x.phase = .window → cfg F.DIE_HOLD_CFG_PIN_MODE = false → TakesTo (.holdRelN true) b fun t =>
          t.flag S F.DIE_HOLD_STATUS_REL_LOST = true ∧ t.die d = x) ∧
        (x.phase = .window → cfg F.DIE_HOLD_CFG_PIN_MODE = true → TakesTo (.holdRelN true) b fun t =>
          t.die d = { x with release := true }))) ∧
    (x.phase ≠ .window ∨ b.ticks < x.holdAt + 16 → Takes (.holdEntry d) b b) ∧
    (x.phase = .window → x.holdAt + 16 ≤ b.ticks → TakesTo (.holdEntry d) b fun t =>
      (t.die d).phase = .parking ∧
      t.fld S F.DIE_HOLD_STATUS_ENTRIES = min 65535 (b.fld S F.DIE_HOLD_STATUS_ENTRIES + 1) ∧
      (∀ k, k < 8 → (t.cluster (8 * d + k)).frags = []) ∧ (t.engine d).glQueue = [] ∧
      ∀ G, G = 2 * d.val ∨ G = 2 * d.val + 1 → (t.region G).stored = [] ∧ (t.region G).queues = [] ∧ (t.region G).groups = [] ∧
        ∀ i, i < 4 → t.fifo i G = []) ∧
    (x.phase ≠ .parking ∨ b.allParked d = false → Takes (.holdEnter d) b b) ∧
    (x.phase = .parking → b.allParked d = true → x.resetting = false →
      (x.release = false → ¬ byPin → b.latchH d = true ∨ others → TakesTo (.holdEnter d) b fun t =>
        t.die d = { x with phase := .held } ∧ t.flag S F.DIE_HOLD_STATUS_HELD = true ∧ t.flag S F.DIE_HOLD_STATUS_ENTERING = false ∧
        t.inflight = (b.send 6 d 0x04 x.cause).inflight ∧ t.frames = b.frames ∧
        ∃ r, t.records = b.records ++ [r] ∧ r.typ = 5 ∧ r.die = d.val) ∧
      (x.release = true ∨ byPin → ¬ others → TakesTo (.holdEnter d) b fun t => leaves t ∧
        t.flag S F.DIE_HOLD_STATUS_HELD = true ∧ t.inflight = (b.send 6 d 0x04 x.cause).inflight)) ∧
    (x.phase ≠ .exiting → Takes (.holdExit d) b b) ∧
    (x.phase = .exiting → b.latchH d = false → ¬ others → TakesTo (.holdExit d) b fun t => (t.die d).phase = .idle ∧
      t.flag S F.DIE_HOLD_STATUS_HELD = false ∧ t.flag S F.DIE_HOLD_STATUS_EXITING = false ∧ t.word (R.HBM_SR_STATUS d) = 0) ∧
    (x.phase = .exiting → b.latchH d = true → x.resetting = false → b.started = true → TakesTo (.holdExit d) b fun t =>
      (t.die d).phase = .window ∧ (t.die d).holdAt = b.ticks ∧ t.flag S F.DIE_HOLD_STATUS_HELD = false ∧
      t.flag S F.DIE_HOLD_STATUS_ENTERING = true)

/-! ## Observation (spec/17) -/

/-- PMC_SEL, PMC_CLR, PMC_FREEZE, FREEZE_ALL, CLEAR_ALL, BW_WINDOW and BW_CFG_WRITE (R501 to R503, R507). A selection that its unit
defines is stored and its counter starts at 0; another is refused. CLR clears the eight counters of a unit, CLEAR_ALL those of
every unit; a frozen unit counts nothing. A bandwidth window that has ended publishes its bytes and the largest so far, and the
next one starts; a write of its length starts afresh at the next multiple of it. SNAP_NOW, SNAP_ARM, SNAP_CANCEL, SNAPSHOT_LATCH
and SNAP_ADDR (R508 to R510). A snapshot copies every counter at one instant and counts its SEQ; nothing else changes. An armed
instant waits, or latches at once where it has passed; a base that is not stepped refuses it; CANCEL takes it back. Each of the
twelve completes under the hypotheses on the block and the operands alone. -/
def Obligations.CounterUnitsWindowsAndSnapshots : Prop :=
  ((∀ (b : Block) (w : Writer) (u : CounterUnit) (v : BitVec 32), b.reaches w (unitBlk u) →
    let B := (unitOf u).base
    let others (t : Block) : Prop := ∀ a, (∀ k, k < 8 → a ≠ B + 0x40 + 8 * k) → t.ctr a = b.ctr a
    let frozen (t : Block) : Prop := F.OBS_PMC_CTRL_FREEZE.of v.toNat = 1 → ∀ ev q n, t.pmc (unitOf u) ev q n = t
    (∀ k : Fin 8,
      let a := B + 0x10 + 4 * k.val
      ((unitOf u).selOk v.toNat = false → Takes (.pmcSel w u k v) b (b.refuse w a)) ∧
      ((unitOf u).selOk v.toNat = true → TakesTo (.pmcSel w u k v) b fun t =>
        t.ctr (B + 0x40 + 8 * k) = 0 ∧ (∀ j, j ≠ B + 0x40 + 8 * k.val → t.ctr j = b.ctr j) ∧
        t.fld a F.OBS_PMC_SEL_EN = F.OBS_PMC_SEL_EN.of v.toNat ∧ t.fld a F.OBS_PMC_SEL_EVENT = F.OBS_PMC_SEL_EVENT.of v.toNat ∧
        t.fld a F.OBS_PMC_SEL_QUAL = F.OBS_PMC_SEL_QUAL.of v.toNat ∧ t = { b with regs := t.regs, ctrs := t.ctrs })) ∧
    (F.OBS_PMC_CTRL_CLR.of v.toNat = 0 → Takes (.pmcClr w u v) b b) ∧
    (F.OBS_PMC_CTRL_CLR.of v.toNat = 1 → TakesTo (.pmcClr w u v) b fun t =>
      (∀ k, k < 8 → t.ctr (B + 0x40 + 8 * k) = 0) ∧ others t ∧ frozen t ∧ t = { b with regs := t.regs, ctrs := t.ctrs }) ∧
    TakesTo (.pmcFreeze w u v) b (fun t => t.fld B F.OBS_PMC_CTRL_FREEZE = F.OBS_PMC_CTRL_FREEZE.of v.toNat ∧ others t ∧ frozen t ∧
      (F.OBS_PMC_CTRL_CLR.of v.toNat = 0 → t.ctrs = b.ctrs))) ∧
  (∀ (b : Block) (w : Writer) (v : BitVec 32), b.reaches w .obs →
    let freezes (t : Block) : Prop := ∀ u ∈ allUnits, t.fld u.base F.OBS_PMC_CTRL_FREEZE = F.OBS_PMC_GLOBAL_FREEZE_ALL.of v.toNat
    (F.OBS_PMC_GLOBAL_CLEAR_ALL.of v.toNat = 0 → Takes (.clearAll w v) b b) ∧
    (F.OBS_PMC_GLOBAL_CLEAR_ALL.of v.toNat = 1 → TakesTo (.clearAll w v) b fun t =>
      (∀ u ∈ allUnits, ∀ k, k < 8 → t.ctr (u.base + 0x40 + 8 * k) = 0) ∧ freezes t ∧
      (∀ a, (∀ u ∈ allUnits, ∀ k, k < 8 → a ≠ u.base + 0x40 + 8 * k) → t.ctr a = b.ctr a) ∧
      t = { b with regs := t.regs, ctrs := t.ctrs }) ∧
    (F.OBS_PMC_GLOBAL_CLEAR_ALL.of v.toNat = 0 → TakesTo (.freezeAll w v) b fun t => freezes t ∧ t = { b with regs := t.regs })) ∧
  (∀ (b : Block) (p : Fin 256),
    let n := b.fld (R.MAC_BW_CFG p) F.MAC_BW_CFG_WINDOW * 1000
    let x := b.port p
    (b.ticks < x.bwFrom + n → Takes (.bwWindow p) b b) ∧
    (x.bwFrom + n ≤ b.ticks → TakesTo (.bwWindow p) b fun t =>
      t.ctr (R.MAC_BW_RX_BYTES p) = x.bwRx % 2 ^ 64 ∧ t.ctr (R.MAC_BW_TX_BYTES p) = x.bwTx % 2 ^ 64 ∧
      t.ctr (R.MAC_BW_RX_MAX p) = max x.bwRx (b.ctr (R.MAC_BW_RX_MAX p)) % 2 ^ 64 ∧
      t.ctr (R.MAC_BW_TX_MAX p) = max x.bwTx (b.ctr (R.MAC_BW_TX_MAX p)) % 2 ^ 64 ∧
      t.flag (R.MAC_BW_STATUS p) F.MAC_BW_STATUS_VALID = true ∧
      t.fld (R.MAC_BW_STATUS p) F.MAC_BW_STATUS_NUM = x.bwFrom / n % 2 ^ 24 ∧
      t.port p = { x with bwRx := 0, bwTx := 0, bwFrom := x.bwFrom + n } ∧
      t = { b with regs := t.regs, ctrs := t.ctrs, ports := t.ports })) ∧
  ∀ (b : Block) (w : Writer) (p : Fin 256) (v : BitVec 32), b.reaches w .mac →
    let n := F.MAC_BW_CFG_WINDOW.of v.toNat
    (n = 0 ∨ 1000000 < n → Takes (.bwCfgWrite w p v) b (b.refuse w (R.MAC_BW_CFG p))) ∧
    (1 ≤ n → n ≤ 1000000 → TakesTo (.bwCfgWrite w p v) b fun t =>
      t.fld (R.MAC_BW_CFG p) F.MAC_BW_CFG_WINDOW = n ∧ t.flag (R.MAC_BW_STATUS p) F.MAC_BW_STATUS_VALID = false ∧
      (t.port p).bwRx = 0 ∧ (t.port p).bwTx = 0 ∧ (t.port p).bwFrom % (n * 1000) = 0 ∧ b.ticks ≤ (t.port p).bwFrom ∧
      (t.port p).bwFrom < b.ticks + n * 1000 ∧
      (F.MAC_BW_CFG_CLR_MAX.of v.toNat = 1 → t.ctr (R.MAC_BW_RX_MAX p) = 0 ∧ t.ctr (R.MAC_BW_TX_MAX p) = 0) ∧
      (F.MAC_BW_CFG_CLR_MAX.of v.toNat = 0 → t.ctrs = b.ctrs))) ∧
  (∀ b : Block,
    let latched (t : Block) (tag : Nat) : Prop :=
      (∀ a h, findReg a = some h → isCounter h = true → h.desc.wide = true → isPmcRef h = false →
        SMap.get 0 t.snap a = SMap.get 0 b.ctrs a) ∧
      t.fld R.OBS_SNAP_STATUS F.OBS_SNAP_STATUS_SEQ = (b.fld R.OBS_SNAP_STATUS F.OBS_SNAP_STATUS_SEQ + 1) % 65536 ∧
      t.word R.CHN_SNAP_ID = tag % 2 ^ 32 ∧ t.ticks = b.ticks ∧ t.frames = b.frames ∧ t.ports = b.ports
    (b.pendSnap = none → Takes .snapshotLatch b b) ∧
    (∀ x, b.pendSnap = some x → b.reached x = false → Takes .snapshotLatch b b) ∧
    (∀ x, b.pendSnap = some x → b.reached x = true → TakesTo .snapshotLatch b fun t =>
      latched t x.tag ∧ t.pendSnap = none ∧ t.ctrs = b.ctrs) ∧
    ∀ (w : Writer) (v : BitVec 32), b.reaches w .obs →
      let now := F.OBS_SNAP_CTRL_NOW.of v.toNat
      let arm := F.OBS_SNAP_CTRL_ARM.of v.toNat
      let cancel := F.OBS_SNAP_CTRL_CANCEL.of v.toNat
      let ns := F.OBS_SNAP_AT_NS_NS.of (b.word R.OBS_SNAP_AT_NS)
      let x : PendSnap := { base := F.OBS_SNAP_AT_NS_BASE.of (b.word R.OBS_SNAP_AT_NS), ns := ns, tag := b.word R.OBS_SNAP_TAG,
                            s := b.word R.OBS_SNAP_AT_S_LO + 2 ^ 32 * b.word R.OBS_SNAP_AT_S_HI }
      (now = 0 → Takes (.snapNow w v) b b) ∧ (arm = 0 → Takes (.snapArm w v) b b) ∧ (cancel = 0 → Takes (.snapCancel w v) b b) ∧
      (now = 1 → arm = 0 → cancel = 0 → TakesTo (.snapNow w v) b fun t =>
        latched t (b.word R.OBS_SNAP_TAG) ∧ t.pendSnap = b.pendSnap ∧ t.ctrs = b.ctrs) ∧
      (cancel = 1 → arm = 0 → now = 0 → Takes (.snapCancel w v) b { b with pendSnap := none }) ∧
      (arm = 1 → 999999999 < ns → Takes (.snapArm w v) b (b.refuse w R.OBS_SNAP_CTRL)) ∧
      (arm = 1 → now = 0 → cancel = 0 → ns ≤ 999999999 →
        ((b.tbase x.base).state ≠ .stepped → TakesTo (.snapArm w v) b fun t =>
          t.flag R.OBS_SNAP_STATUS F.OBS_SNAP_STATUS_REFUSED = true ∧ t.pendSnap = b.pendSnap ∧ t.snap = b.snap ∧
          t.ctr R.CHN_SNAP_REFUSED = (b.ctr R.CHN_SNAP_REFUSED + 1) % 2 ^ 64) ∧
        ((b.tbase x.base).state = .stepped → b.reached x = false → Takes (.snapArm w v) b { b with pendSnap := some x }) ∧
        ((b.tbase x.base).state = .stepped → b.reached x = true → TakesTo (.snapArm w v) b fun t =>
          latched t x.tag ∧ t.pendSnap = none ∧ t.flag R.CHN_STATUS F.CHN_STATUS_SNAP_LATE = true)) ∧
      Takes (.snapAddr w v) b (b.setLatch (writerCode w) R.OBS_SNAP_ADDR (F.OBS_SNAP_ADDR_A.of v.toNat * 4)))

/-- TRACE_RECORD_WRITE, TRC_UNFREEZE, TRC_RESTART, TRC_RD_ADDR, OBS_REG, OBS_SNAP and OBS_TRACE (R511 to R517). The oldest record
of a die waits until its stacks are trained; one that the filters keep is written into the ring at HEAD with the next SEQ, none
across a block of 4 KiB; without room, or with the ring stopped or frozen, it is dropped, counted, and takes a SEQ. A unit that is
read shows the bytes written. The OBS port answers while it serves, and DENIED while it is disabled. Each of the seven completes
under the hypotheses on the block and the operands alone. -/
def Obligations.TraceRingsAndTheObservationPort : Prop :=
  ∀ (b : Block) (d : Fin 4),
    let off (v : BitVec 32) (t : Block) : Prop := t = { b with regs := t.regs, rings := t.rings } ∧ t.ctrs = b.ctrs ∧
      (F.OBS_TRC_CTRL_UNFREEZE.of v.toNat = 1 → ∀ e : Fin 4, t.flag (R.OBS_TRC_STATUS e) F.OBS_TRC_STATUS_FROZEN = false) ∧
      (F.OBS_TRC_CTRL_RESTART.of v.toNat = 1 → ∀ e : Fin 4,
        t.flag (R.OBS_TRC_STATUS e) F.OBS_TRC_STATUS_STOPPED = false ∧ t.ring e = { b.ring e with since := 0 }) ∧
      (F.OBS_TRC_CTRL_RESTART.of v.toNat = 0 → t.rings = b.rings)
    let st := R.OBS_TRC_STATUS d
    let shut := b.flag st F.OBS_TRC_STATUS_STOPPED = true ∨ b.flag st F.OBS_TRC_STATUS_FROZEN = true
    (∀ room, popRec d b.records = none → Takes (.traceRecordWrite d room) b b) ∧
    (∀ room, b.flag (R.HBM_TRAIN_STATUS d) F.HBM_TRAIN_STATUS_DONE = false → Takes (.traceRecordWrite d room) b b) ∧
    (∀ room r rest, popRec d b.records = some (r, rest) → b.flag (R.HBM_TRAIN_STATUS d) F.HBM_TRAIN_STATUS_DONE = true →
      let kept := (({ b with records := rest } : Block).keeps r).1 = true
      let n := b.traceMiB d * 32768
      let head := b.ctr (R.OBS_TRC_HEAD d)
      let u := head / 32 % n
      let pad := if 128 - u % 128 < recUnits r.typ then 128 - u % 128 else 0
      (¬ kept → TakesTo (.traceRecordWrite d room) b fun t => t.records = rest ∧ t.rings = b.rings ∧ t.ctrs = b.ctrs) ∧
      (kept → room = false ∨ n = 0 ∨ shut → TakesTo (.traceRecordWrite d room) b fun t =>
        t.records = rest ∧ t.ring d = { b.ring d with lost := true } ∧ t.ctr (R.OBS_TRC_HEAD d) = head ∧
        t.word (R.OBS_TRC_SEQ d) = (b.word (R.OBS_TRC_SEQ d) + 1) % 2 ^ 32 ∧
        t.ctr (R.OBS_TRC_DROP d) = (b.ctr (R.OBS_TRC_DROP d) + 1) % 2 ^ 64) ∧
      (kept → room = true → n ≠ 0 → ¬ shut → bitOf (b.filterByte 3) 0 = false → TakesTo (.traceRecordWrite d room) b fun t =>
        t.records = rest ∧ (t.ring d).lost = false ∧ t.word (R.OBS_TRC_SEQ d) = (b.word (R.OBS_TRC_SEQ d) + 1) % 2 ^ 32 ∧
        t.ctr (R.OBS_TRC_HEAD d) = (head + 32 * (pad + recUnits r.typ)) % 2 ^ 64 ∧
        SMap.find (t.ring d).units ((u + pad) % n) = some ((r.bytes (b.ring d).lost (b.word (R.OBS_TRC_SEQ d))).take 32) ∧
        ∀ e : Fin 4, e ≠ d → t.ring e = b.ring e)) ∧
    (∀ v : BitVec 32, b.reaches .host .obs →
      (F.OBS_TRC_CTRL_UNFREEZE.of v.toNat = 0 → Takes (.trcUnfreeze v) b b) ∧
      (F.OBS_TRC_CTRL_RESTART.of v.toNat = 0 → Takes (.trcRestart v) b b) ∧
      (F.OBS_TRC_CTRL_UNFREEZE.of v.toNat = 1 → TakesTo (.trcUnfreeze v) b (off v)) ∧
      (F.OBS_TRC_CTRL_RESTART.of v.toNat = 1 → TakesTo (.trcRestart v) b (off v))) ∧
    (∀ (w : Writer) (v : BitVec 32) (s : Fin 2), b.reaches w .obs →
      let D := F.OBS_TRC_RD_ADDR_DIE.of v.toNat
      let U := F.OBS_TRC_RD_ADDR_UNIT.of v.toNat
      (b.traceMiB D * 32768 ≤ U → TakesTo (.trcRdAddr w v (.good s)) b fun t =>
        t.word R.OBS_TRC_RD_STATUS = 0 ∧ ∀ k, k < 8 → t.word (R.OBS_TRC_RD_DATA k) = 0) ∧
      (∀ l, U < b.traceMiB D * 32768 → SMap.find (b.ring D).units U = some l →
        (TakesTo (.trcRdAddr w v (.good s)) b fun t => t.word R.OBS_TRC_RD_STATUS = 2 ^ 31 ∧ t.rings = b.rings ∧
          ∀ k, k < 8 → t.word (R.OBS_TRC_RD_DATA k) = leVal (slice l (4 * k) (4 * k + 4))) ∧
        ∀ a, TakesTo (.trcRdAddr w v (.bad s a)) b fun t => t.word R.OBS_TRC_RD_STATUS = 2 ^ 31 + 2 ^ 30)) ∧
    (∀ (a : BitVec 32) (n : BitVec 8) (u : BitVec 26) (rs : List TraceRead),
      let denied := ({ b with out := b.out ++ [.obs 1 []] } : Block)
      (b.boot.phase = .off → Takes (.obsReg a n) b b ∧ Takes (.obsSnap a n) b b ∧ Takes (.obsTrace d u rs) b b) ∧
      (b.boot.phase ≠ .off → b.flag R.OBS_PORT_CFG F.OBS_PORT_CFG_DISABLE = true →
        Takes (.obsReg a n) b denied ∧ Takes (.obsSnap a n) b denied ∧ Takes (.obsTrace d u rs) b denied) ∧
      (b.boot.phase ≠ .off → b.flag R.OBS_PORT_CFG F.OBS_PORT_CFG_DISABLE = false →
        (let r := b.readReg reqObs false false a.toNat
         Takes (.obsReg a 1) b { r.2 with out := r.2.out ++ [.obs 0 [r.1]] }) ∧
        (∀ x, b.snapAt a.toNat = some x →
          Takes (.obsSnap a 1) b { b with out := b.out ++ [.obs 0 [x % 2 ^ 32, x / 2 ^ 32]] }) ∧
        (b.snapAt a.toNat = none → TakesTo (.obsSnap a 1) b fun t => t.out = b.out ++ [.obs 0 [0, 0]] ∧
          t.inflight = (b.accessFault reqObs 0 false (viewOff a.toNat)).inflight) ∧
        (∀ l s, u.toNat < b.traceMiB d * 32768 → SMap.find (b.ring d).units u.toNat = some l →
          TakesTo (.obsTrace d u [.good s]) b fun t =>
            t.out = b.out ++ [.obs 0 [], .obs 0 ((List.range 8).map fun k => leVal (slice l (4 * k) (4 * k + 4)))])))

/-! ## Power and registers (spec/19, spec/18, spec/00) -/

/-- THERMTRIP, SYS_REFCLK_LOST, SERDES_REFCLK_LOST and SERDES_REFCLK_RETURN (R544, R548). The thermal trip drives its pin and does
nothing else; the loss of SYS_REFCLK is a power-on reset; that of a SerDes clock takes every port of its L-die down, and brings its
bring-up to a stop, which starts again when the clock is back. Each of the four completes from every state. -/
def Obligations.ClocksAndTheThermalTrip : Prop :=
  ∀ b : Block,
    Takes .thermtrip b { b with out := b.out ++ [.pin "THERMTRIP_N" true] } ∧
    TakesTo .sysRefclkLost b (fun t => t.pkgHold = .powerOn ∧ t.word R.FLT_RESET_CAUSE = 2 ^ 31 ∧ t.ticks = 0 ∧ t.ctrs = [] ∧
      t.frames = [] ∧ t.regions = [] ∧ t.fuses = b.fuses) ∧
    ∀ (l : Fin 8) (p : Fin 256),
      (∀ cuts, TakesTo (.serdesRefclkLost l cuts) b fun t =>
        (p.val / 32 = l.val → t.flag (R.MAC_LINK_STATUS p) F.MAC_LINK_STATUS_LINK_UP = false ∧
          t.flag (R.MAC_LINK_STATUS p) F.MAC_LINK_STATUS_LOCAL_FAULT = true ∧ (t.port p).bring = .down) ∧
        (p.val / 32 ≠ l.val → t.word (R.MAC_LINK_STATUS p) = b.word (R.MAC_LINK_STATUS p) ∧ (t.port p).bring = (b.port p).bring)) ∧
      TakesTo (.serdesRefclkReturn l) b (fun t =>
        (p.val / 32 ≠ l.val → t.port p = b.port p) ∧
        (p.val / 32 = l.val →
          (b.flag (R.MAC_PORT_CFG p) F.MAC_PORT_CFG_ENABLE = false ∨ b.frozen (dieOfPort p) = true ∨ b.started = false →
            (t.port p).bring = .down) ∧
          (b.flag (R.MAC_PORT_CFG p) F.MAC_PORT_CFG_ENABLE = true → b.frozen (dieOfPort p) = false → b.started = true →
            b.flag (R.MAC_PORT_CFG p) F.MAC_PORT_CFG_AN_EN = true → b.mediaC2m p = false → (t.port p).bring = .negotiating)))

/-- REGISTER_WRITE, and READ_CLEAR of what is no register (R11, R12, R15, R374, R375, R378, R379, R418, R520 to R522). In reset, or
where the register or the function is not the writer's, a write is discarded; of the wrong size or alignment (but for a 64-bit
access of the MSI-X table), or where no register is, it is discarded and an access fault, and such a read answers 0 and is one too;
before DONE an access of the host outside the blocks of R418 is discarded, or answers 0, with no fault. A write of a register
without a rule of its own stores its RW fields, its RWL fields while they are open, clears the W1C bits written as 1, and leaves
every other field and every other register. A write of configuration space sets VF Enable (after DONE), NumVFs (while VF Enable is
0), the power state, and MSI-X's enable and function mask: while MSI-X is off or masked none of its messages goes out. What else the
registers of configuration space do is the model's reading of PCIe (assumptions 26 and 75). Each of the two completes under the
hypotheses on the block and the operands alone. -/
def Obligations.RegisterWritesFollowTheAccessCodes : Prop :=
  ∀ (b : Block) (w : Writer) (a : BitVec 28) (v : BitVec 64),
    let x := writerAddr w a.toNat
    let silent := w ≠ .boot ∧ b.quiet x = true
    let bad := b.accessFault (writerCode w) 2 true (viewOff x)
    let V := v.toNat % 2 ^ 32
    (∀ size, b.inReset = true ∨ b.writerLive w = false → Takes (.registerWrite w a v size) b b) ∧
    (b.inReset = false → b.writerLive w = true →
      (silent → Takes (.registerWrite w a v .other) b b) ∧
      (silent → x % 4 ≠ 0 → Takes (.registerWrite w a v .dword) b b) ∧
      (¬ silent → Takes (.registerWrite w a v .other) b bad) ∧
      (¬ silent → x % 4 ≠ 0 → Takes (.registerWrite w a v .dword) b bad) ∧
      (¬ silent → b.isMsix x = false → Takes (.registerWrite w a v .qword) b bad) ∧
      (x % 4 = 0 → findReg x = none → b.isMsix x = false →
        (silent → Takes (.registerWrite w a v .dword) b b) ∧ (¬ silent → Takes (.registerWrite w a v .dword) b (b.refuse w x))) ∧
      (∀ i : Fin 256, let y := layBase i + a.toNat % 2 ^ 20
        let q := i.val
        let zero (acc : Nat) : Block := (if b.quiet y then b else b.accessFault q acc false (viewOff y)).answer q [0]
        b.fnLive i = true →
        Takes (.readClear (.inst i) a .other) b (zero 2) ∧
        (y % 4 ≠ 0 → Takes (.readClear (.inst i) a .dword) b (zero 2)) ∧
        (b.isMsix y = false → Takes (.readClear (.inst i) a .qword) b (zero 2)) ∧
        (y % 4 = 0 → findReg y = none → b.isMsix y = false → Takes (.readClear (.inst i) a .dword) b (zero 0))) ∧
      (let y := a.toNat
       let zero (acc : Nat) : Block := (if b.quiet y then b else b.accessFault 0 acc false (viewOff y)).answer 0 [0]
       Takes (.readClear .host a .other) b (zero 2) ∧ Takes (.readClear .host a .qword) b (zero 2) ∧
       (y % 4 ≠ 0 → Takes (.readClear .host a .dword) b (zero 2)) ∧
       (y % 4 = 0 → findReg y = none → Takes (.readClear .host a .dword) b (zero 0))) ∧
      (w = .host →
        let config (r : ConfigReg) : Instr := .registerWrite w a v (.config r)
        Takes (config .totalVfs) b b ∧ Takes (config .firstVfOffset) b b ∧ Takes (config .vfStride) b b ∧
        (V % 2 = 1 → b.started = false → Takes (config .vfEnable) b b) ∧
        (V % 2 = 1 → b.started = true → Takes (config .vfEnable) b { b with vfEnable := true }) ∧
        (V % 2 = 0 → TakesTo (config .vfEnable) b fun t =>
          t.vfEnable = false ∧ t.numVfs = b.numVfs ∧ t.frames = b.frames ∧ ∀ k, k < 256 → t.resetting k = b.resetting k) ∧
        (b.vfEnable = true → Takes (config .numVfs) b b) ∧
        (b.vfEnable = false → Takes (config .numVfs) b { b with numVfs := V % 2 ^ 16 }) ∧
        (V % 4 = 1 ∨ V % 4 = 2 → Takes (config .powerState) b b) ∧
        (V % 4 = 3 → TakesTo (config .powerState) b fun t => (t.inst 0).d3hot = true ∧ t.out = b.out) ∧
        (V % 4 = 0 → TakesTo (config .powerState) b fun t => (t.inst 0).d3hot = false) ∧
        TakesTo (config .msixControl) b fun t =>
          (t.inst 0).msixEn = bitOf V 15 ∧ (t.inst 0).msixMask = bitOf V 14 ∧ (∀ k, k ≠ 0 → t.inst k = b.inst k) ∧
          (bitOf V 15 = false ∨ bitOf V 14 = true → t.out = b.out)) ∧
      (∀ i : Fin 256, i ≠ 0 → w = .inst i → ∀ r, r = .vfEnable ∨ r = .numVfs ∨ r = .totalVfs ∨ r = .firstVfOffset ∨ r = .vfStride →
        Takes (.registerWrite w a v (.config r)) b b) ∧
      ∀ h, x % 4 = 0 → findReg x = some h →
        (b.reaches w h.blk = false → Takes (.registerWrite w a v .dword) b b) ∧
        (b.reaches w h.blk = true → h.blk = .lay → b.layHas h.inst h = false →
          Takes (.registerWrite w a v .dword) b (b.refuse w x)) ∧
        (b.reaches w h.blk = true → h.blk ≠ .lay → h.desc.wide = true → Takes (.registerWrite w a v .dword) b b) ∧
        (b.reaches w h.blk = true → h.blk ≠ .lay → h.desc.wide = false → b.writeHit w x V h = b.storeReg w x V →
          TakesTo (.registerWrite w a v .dword) b fun t =>
            (∀ y, y ≠ x → t.word y = b.word y) ∧ t.ctrs = b.ctrs ∧ t.frames = b.frames ∧ t.dies = b.dies ∧
            ∀ f ∈ h.desc.flds,
              let F : Bf := ⟨f.hi, f.lo⟩
              let old := b.fld x F
              let new := t.fld x F
              let open_ := w = .boot ∨ b.locked = false
              (f.acc = .rw → new = F.of V) ∧ (f.acc = .rwl → open_ → new = F.of V) ∧ (f.acc = .rwl → ¬ open_ → new = old) ∧
              (f.acc = .rwl → ¬ open_ → F.of V ≠ old → t.refusals = b.refusals + 1) ∧
              ((∀ g ∈ h.desc.flds, g.acc = .rwl → open_ ∨ Bf.of ⟨g.hi, g.lo⟩ V = b.fld x ⟨g.hi, g.lo⟩) →
                t.refusals = b.refusals ∧ t.inflight = b.inflight) ∧
              (f.acc = .w1c → ∀ i, i ≤ f.hi - f.lo → bitOf new i = (bitOf old i && !bitOf (F.of V) i)) ∧
              (f.acc = .ro ∨ f.acc = .rc ∨ f.acc = .wo → new = old)))

/-- COUNTER_LOW_READ, READ_CLEAR and TIME_READ (R11, R14, R15, R369, R378). A read of the low word of a counter answers it and
latches the high word for that requester, and a read of the high word answers what is latched; a read of a register answers its
readable fields and, as the register map holds no RC field, changes none; a read of TIME_NS latches the seconds. A read of
configuration space answers VF Enable, NumVFs, TotalVFs, First VF Offset, VF Stride, the power state and MSI-X's enable, function
mask and table size; a virtual function that is not there answers nothing (assumptions 26 and 75). Each of the three completes
under the hypotheses on the block and the operands alone. -/
def Obligations.ReadsAnswerAndLatch : Prop :=
  ∀ (b : Block) (a : BitVec 28) (r : Reader),
    let x := readerAddr r a.toNat
    let q := readerCode r
    (b.inReset = true → r ≠ .obs → ∀ size, Takes (.counterLowRead r a size) b b ∧ Takes (.readClear r a size) b b) ∧
    (∀ i : Fin 256, r = .inst i → b.fnLive i = false → ∀ size,
      Takes (.counterLowRead r a size) b b ∧ Takes (.readClear r a size) b b) ∧
    (b.inReset = false → r = .host →
      let shows (c : ConfigReg) (n : Nat) : Prop := Takes (.readClear r a (.config c)) b { b with out := b.out ++ [.readData 0 [n]] }
      shows .vfEnable (b2n b.vfEnable) ∧ shows .numVfs b.numVfs ∧ shows .powerState (if (b.inst 0).d3hot then 3 else 0) ∧
      shows .totalVfs (min 255 (1920 / b.fld R.HIF_VF_VECTORS F.HIF_VF_VECTORS_V)) ∧ shows .firstVfOffset 1 ∧ shows .vfStride 1 ∧
      shows .msixControl (b2n (b.inst 0).msixEn * 2 ^ 15 + b2n (b.inst 0).msixMask * 2 ^ 14 + 127)) ∧
    (b.inReset = false → b.locked = true → b.readerLive r = true → r ≠ .obs ∨ b.boot.phase ≠ .off →
      r ≠ .obs ∨ b.flag R.OBS_PORT_CFG F.OBS_PORT_CFG_DISABLE = false →
      Takes (.readClear r a .other) b ((b.accessFault q 2 false (viewOff x)).answer q [0]) ∧
      Takes (.counterLowRead r a .other) b ((b.accessFault q 2 false (viewOff x)).answer q [0]) ∧
      ∀ h, x % 4 = 0 → findReg x = some h → h.blk ≠ .lay →
        (h.desc.wide = true → h.word = 0 → isPmcRef h = false → h.blk ≠ .chn → TakesTo (.counterLowRead r a .dword) b fun t =>
          t.out = b.out ++ [.readData q [b.ctr x % 2 ^ 32]] ∧ t.latched q ctrLatch = b.ctr x / 2 ^ 32 ∧
          t = { b with out := t.out, latch := t.latch }) ∧
        (h.desc.wide = true → h.word = 1 → Takes (.counterLowRead r a .dword) b
          { b with out := b.out ++ [.readData q [b.latched q ctrLatch]] }) ∧
        (h.desc.wide = false → h.blk ≠ .tim → h.blk ≠ .obs → TakesTo (.readClear r a .dword) b fun t =>
          t.out = b.out ++ [.readData q [h.desc.readable (b.shown x h)]] ∧ (∀ y, t.word y = b.word y) ∧
          t = { b with out := t.out, regs := t.regs })) ∧
    ∀ i : Fin 2,
      (∀ n, Takes (.timeRead (.inst n) i) b b) ∧
      (b.inReset = false → b.locked = true → TakesTo (.timeRead .host i) b fun t =>
        t.out = b.out ++ [.readData 0 [(b.tbase i).ns]] ∧ t.latched 0 (R.TIM_TIME_S_LO i) = (b.tbase i).s % 2 ^ 32 ∧
        t.latched 0 (R.TIM_TIME_S_HI i) = (b.tbase i).s / 2 ^ 32 ∧ t = { b with out := t.out, latch := t.latch })

/-- R518: an address decodes to the block that owns it and to its offset there (Tables 18-1 to 18-4; the instances' layouts stand
in a view of their own, here above 2^32); an address that decodes lies in the window of the block it decodes to; and an offset
outside every window is reserved: it holds no register. -/
def Obligations.AddressesDecodeToTheirBlocks : Prop :=
  let count (k : Blk) : Nat := match k with
    | .pkg | .boot | .tim | .flt | .chn | .pair | .obs | .hif | .xbar => 1
    | .ins | .mac | .prt | .lay => 256
    | .lane => 1024
    | .die | .hbm | .xep | .tbl => 4
    | .rgn => 8
    | .cls => 32
  let size (k : Blk) : Nat := match k with
    | .pkg | .boot | .tim | .flt | .chn | .pair | .obs | .xbar => 0x10000
    | .hif | .die | .hbm | .xep | .tbl | .cls | .lay => 0x100000
    | .ins | .mac | .prt => 0x1000
    | .lane => 0x800
    | .rgn => 0x800000
  let region (G : Nat) : Nat := 0x4000000 + G / 2 * 0x3000000 + 0x800000 + G % 2 * 0x1000000
  let base (k : Blk) (i : Nat) : Nat := match k with
    | .pkg => 0 | .boot => 0x10000 | .tim => 0x20000 | .flt => 0x30000 | .chn => 0x40000 | .pair => 0x50000 | .obs => 0x60000
    | .hif => 0x100000 | .xbar => 0x800000
    | .ins => 0x200000 + i * 0x1000
    | .lane => 0x1000000 + i / 128 * 0x200000 + i % 128 * 0x800
    | .mac => 0x1000000 + i / 32 * 0x200000 + 0x100000 + i % 32 * 0x1000
    | .die => 0x4000000 + i * 0x3000000
    | .hbm => 0x4000000 + i * 0x3000000 + 0x100000
    | .xep => 0x4000000 + i * 0x3000000 + 0x200000
    | .tbl => 0x4000000 + i * 0x3000000 + 0x300000
    | .rgn => region i
    | .cls => region (i / 4) + 0x800000 + i % 4 * 0x100000
    | .prt => region (i / 32) + 0xC00000 + i % 32 * 0x1000
    | .lay => 2 ^ 32 + i * 0x100000
  (∀ k i o, i < count k → o < size k → decodeAddr (base k i + o) = some (k, i, o)) ∧
  (∀ a k i o, decodeAddr a = some (k, i, o) → i < count k ∧ o < size k ∧ a = base k i + o) ∧
  ∀ a, (∀ k i o, i < count k → o < size k → a ≠ base k i + o) → decodeAddr a = none ∧ findReg a = none

/-! ## The machine as a whole -/

/-- A step runs the command at the front of the queue: exec of it on the block, with the queue's rest. -/
def Obligations.AStepRunsTheFrontCommand : Prop :=
  ∀ (c : Instr) (b : Block) (q : List Instr), step ⟨b, c :: q⟩ = exec c ⟨b, q⟩

/-- Every command completes: from every state, whatever its operands, exec answers a next state, and it leaves the queue as it was.
No command stops the block (the model's rule for a command whose condition does not hold is assumption 3: it changes nothing). -/
def Obligations.EveryCommandCompletes : Prop :=
  ∀ (c : Instr) (s : State), ∃ t : Block, exec c s = .next { s with blk := t }

/-- With no command waiting a step is one reference tick of 1 ns (the model's choice, assumption 8): the boot sequencer goes on
from steps 2 and 3 (assumption 136); while TIME_REFCLK is lost nothing else happens; else the ticks and both time bases go on by
one (R352, R369), HELD_TICKS of each held die counts it (R371; said where no frame waits in its pipe), and nothing changes but
them, the counters, the age clocks and the pseudo-channels of the stacks. -/
def Obligations.AStepOnAnEmptyQueueIsOneTick : Prop :=
  ∀ b : Block,
    let u := b.bootMove
    (b.boot.phase ≠ .fuses → b.boot.phase ≠ .flash → u = b) ∧
    u = { b with regs := u.regs, boot := u.boot, out := u.out } ∧
    (b.refLost = true → step ⟨b, []⟩ = .next ⟨u, []⟩) ∧
    (b.refLost = false → ∃ t : Block, step ⟨b, []⟩ = .next ⟨t, []⟩ ∧ t.ticks = b.ticks + 1 ∧
      t.baseA = b.baseA.tick (b.ticks + 1) ∧ t.baseB = b.baseB.tick (b.ticks + 1) ∧
      t = { u with ticks := t.ticks, baseA := t.baseA, baseB := t.baseB, ctrs := t.ctrs, engines := t.engines, hbms := t.hbms } ∧
      (b.hbms = [] → t.hbms = []) ∧
      ((∀ e ∈ b.frames, e.2.loc ≠ .llWait ∧ e.2.asks.getD [] = []) → ∀ d : Fin 4, t.ctr (R.DIE_HELD_TICKS d) =
        if b.frozen d then (b.ctr (R.DIE_HELD_TICKS d) + 1) % 2 ^ 64 else b.ctr (R.DIE_HELD_TICKS d)))

/-- The reset values that the spec states for some registers of each kind (Tables 3-6, 13-3, 15-13, 15-14, 16-10, 16-18), and that
nothing waits in a block after reset: no frame, no message, no command. That power is applied and RESET_N low is the model's choice
(assumptions 4 to 7). -/
def Obligations.ResetLeavesTheStatedValues : Prop :=
  let b := State.reset.blk
  State.reset.pending = [] ∧ b.frames = [] ∧ b.inflight = [] ∧ b.ctrs = [] ∧ b.locked = false ∧ b.ticks = 0 ∧
  b.fld R.PAIR_TIMING F.PAIR_TIMING_HB_TIMEOUT = 30 ∧ b.fld R.PAIR_TIMING F.PAIR_TIMING_HB_INTERVAL = 1000 ∧
  b.fld R.PAIR_CFG F.PAIR_CFG_LAG_LIMIT = 64 ∧ b.pairRole = roleNone ∧
  b.fld R.FLT_FAULT_N_CTRL F.FLT_FAULT_N_CTRL_PULSE = 10 ∧ b.word (R.DIE_HOLD_STATUS 0) = 0 ∧
  b.fld (R.INS_ENG_MAX 7) F.INS_ENG_MAX_V = 4 ∧ b.word (R.MAC_LINK_STATUS 255) = 0

/-- Every step keeps the tables of the block in their canonical form: the registers and the 64-bit registers (addresses strictly
rising, none listed that reads as it does unlisted, so that equal contents are equal data), and the positions of each die's
longest-prefix memory in order. -/
def Obligations.EveryStepKeepsTheTablesInOrder : Prop :=
  ∀ (s t : State), (s.blk.tablesWf = true ∧ ∀ d, SMap.wf {} (s.blk.engine d).lpm = true) → step s = .next t →
    t.blk.tablesWf = true ∧ ∀ d, SMap.wf {} (t.blk.engine d).lpm = true

/-- The tables are in their canonical form at reset. -/
def Obligations.TheTablesAreInOrderAtReset : Prop :=
  State.reset.blk.tablesWf = true ∧ ∀ d, SMap.wf {} (State.reset.blk.engine d).lpm = true
end

