-- ==== Sys2Proof/Laws/Map.lean ====
section
/-!
SUPPORT. Laws/Map.lean: what reading a sparse table gives after each of its operations, and that every operation keeps the canonical
form.
-/
namespace Sys2Proof.Machine.SMap

variable {α : Type}

@[simp] theorem get_nil (dflt : α) (i : Nat) : SMap.get dflt [] i = dflt := rfl
@[simp] theorem find_nil (i : Nat) : SMap.find ([] : SMap α) i = none := rfl

/-! ## Reading -/

theorem get_put_same (dflt : α) (m : SMap α) (i : Nat) (v : α) : (m.put i v).get dflt i = v := by
  induction m with
  | nil => simp [put, get]
  | cons e m ih =>
    obtain ⟨k, w⟩ := e
    simp only [put]
    split
    · simp [get]
    · split
      · simp [get]
      · rename_i h1 h2
        simp [get, Ne.symm h2, ih]

theorem get_put_other (dflt : α) (m : SMap α) {i j : Nat} (v : α) (h : j ≠ i) : (m.put i v).get dflt j = m.get dflt j := by
  induction m with
  | nil => simp [put, get, Ne.symm h]
  | cons e m ih =>
    obtain ⟨k, w⟩ := e
    simp only [put]
    split
    · simp [get, Ne.symm h]
    · split
      · rename_i h1 h2
        subst h2
        simp [get, Ne.symm h]
      · simp [get, ih]

theorem get_del_same (dflt : α) (m : SMap α) (i : Nat) : (m.del i).get dflt i = dflt := by
  induction m with
  | nil => rfl
  | cons e m ih =>
    obtain ⟨k, w⟩ := e
    by_cases h : k = i
    · subst h; simpa [del] using ih
    · simpa [del, h, get] using ih

theorem get_del_other (dflt : α) (m : SMap α) {i j : Nat} (h : j ≠ i) : (m.del i).get dflt j = m.get dflt j := by
  induction m with
  | nil => rfl
  | cons e m ih =>
    obtain ⟨k, w⟩ := e
    by_cases hk : k = i
    · subst hk; simpa [del, get, Ne.symm h] using ih
    · have := ih
      simp only [del, List.filter_cons, bne_iff_ne, ne_eq, hk, not_false_eq_true, if_true, get] at *
      split
      · rfl
      · exact this

theorem get_set_same [DecidableEq α] (dflt : α) (m : SMap α) (i : Nat) (v : α) : (SMap.set dflt m i v).get dflt i = v := by
  unfold SMap.set
  split
  · rename_i h; subst h; exact get_del_same _ _ _
  · exact get_put_same _ _ _ _

theorem get_set_other [DecidableEq α] (dflt : α) (m : SMap α) {i j : Nat} (v : α) (h : j ≠ i) :
    (SMap.set dflt m i v).get dflt j = m.get dflt j := by
  unfold SMap.set
  split
  · exact get_del_other _ _ h
  · exact get_put_other _ _ _ h

/-- What a table reads as after one of its keys is set. -/
theorem get_set [DecidableEq α] (dflt : α) (m : SMap α) (i j : Nat) (v : α) :
    (SMap.set dflt m i v).get dflt j = if j = i then v else m.get dflt j := by
  split
  · subst_vars; exact get_set_same _ _ _ _
  · exact get_set_other _ _ _ ‹_›

theorem get_mod [DecidableEq α] (dflt : α) (m : SMap α) (i j : Nat) (f : α → α) :
    (SMap.mod dflt m i f).get dflt j = if j = i then f (m.get dflt i) else m.get dflt j := get_set _ _ _ _ _

theorem find_put_same (m : SMap α) (i : Nat) (v : α) : (m.put i v).find i = some v := by
  induction m with
  | nil => simp [put, find]
  | cons e m ih =>
    obtain ⟨k, w⟩ := e
    simp only [put]
    split
    · simp [find]
    · split
      · simp [find]
      · rename_i h1 h2; simp [find, Ne.symm h2, ih]

theorem find_put_other (m : SMap α) {i j : Nat} (v : α) (h : j ≠ i) : (m.put i v).find j = m.find j := by
  induction m with
  | nil => simp [put, find, Ne.symm h]
  | cons e m ih =>
    obtain ⟨k, w⟩ := e
    simp only [put]
    split
    · simp [find, Ne.symm h]
    · split
      · rename_i h1 h2; subst h2; simp [find, Ne.symm h]
      · simp [find, ih]

theorem find_del_same (m : SMap α) (i : Nat) : (m.del i).find i = none := by
  induction m with
  | nil => rfl
  | cons e m ih =>
    obtain ⟨k, w⟩ := e
    by_cases h : k = i
    · subst h; simpa [del] using ih
    · simpa [del, h, find] using ih

theorem find_del_other (m : SMap α) {i j : Nat} (h : j ≠ i) : (m.del i).find j = m.find j := by
  induction m with
  | nil => rfl
  | cons e m ih =>
    obtain ⟨k, w⟩ := e
    by_cases hk : k = i
    · subst hk; simpa [del, find, Ne.symm h] using ih
    · have := ih
      simp only [del, List.filter_cons, bne_iff_ne, ne_eq, hk, not_false_eq_true, if_true, find] at *
      split
      · rfl
      · exact this

/-- The entry found after a key is set: none where the value is the one an unlisted key reads as. -/
theorem find_set [DecidableEq α] (dflt : α) (m : SMap α) (i j : Nat) (v : α) :
    (SMap.set dflt m i v).find j = if j = i then (if v = dflt then none else some v) else m.find j := by
  unfold SMap.set
  by_cases h : j = i
  · subst h
    by_cases hv : v = dflt
    · simp [hv, find_del_same]
    · simp [hv, find_put_same]
  · by_cases hv : v = dflt
    · simp [h, hv, find_del_other m h]
    · simp [h, hv, find_put_other m v h]

/-! ## The canonical form -/

/-- The canonical form, as a statement: keys strictly rising, and no value equal to the default. -/
theorem wf_iff [DecidableEq α] (dflt : α) (m : SMap α) :
    m.wf dflt = true ↔ m.Pairwise (fun x y => x.1 < y.1) ∧ ∀ e ∈ m, e.2 ≠ dflt := by
  induction m with
  | nil => simp [wf]
  | cons e m ih =>
    obtain ⟨k, v⟩ := e
    simp only [wf, Bool.and_eq_true, decide_eq_true_eq, List.all_eq_true, ih, List.pairwise_cons, List.mem_cons, forall_eq_or_imp]
    constructor
    · rintro ⟨⟨h1, h2⟩, h3, h4⟩; exact ⟨⟨h2, h3⟩, h1, h4⟩
    · rintro ⟨⟨h2, h3⟩, h1, h4⟩; exact ⟨⟨h1, h2⟩, h3, h4⟩

/-- Leaving entries out keeps the form. -/
theorem wf_filter [DecidableEq α] (dflt : α) (m : SMap α) (p : Nat × α → Bool) (h : m.wf dflt = true) :
    SMap.wf dflt (m.filter p) = true := by
  rw [wf_iff] at *
  exact ⟨h.1.filter p, fun e he => h.2 e (List.mem_of_mem_filter he)⟩

theorem wf_del [DecidableEq α] (dflt : α) (m : SMap α) (i : Nat) (h : m.wf dflt = true) : SMap.wf dflt (m.del i) = true :=
  wf_filter _ _ _ h

theorem wf_drop [DecidableEq α] (dflt : α) (m : SMap α) (p : Nat → Bool) (h : m.wf dflt = true) :
    SMap.wf dflt (m.drop p) = true := wf_filter _ _ _ h

theorem mem_put {m : SMap α} {i : Nat} {v : α} {e : Nat × α} (h : e ∈ m.put i v) : e = (i, v) ∨ e ∈ m := by
  induction m with
  | nil => simpa [put] using h
  | cons x m ih =>
    obtain ⟨k, w⟩ := x
    simp only [put] at h
    split at h
    · simpa using h
    · split at h
      · rcases List.mem_cons.1 h with h | h
        · exact .inl h
        · exact .inr (List.mem_cons_of_mem _ h)
      · rcases List.mem_cons.1 h with h | h
        · exact .inr (by simp [h])
        · rcases ih h with h | h
          · exact .inl h
          · exact .inr (List.mem_cons_of_mem _ h)

/-- Listing a value that is not the default keeps the form. -/
theorem wf_put [DecidableEq α] (dflt : α) (m : SMap α) (i : Nat) (v : α) (hv : v ≠ dflt) (h : m.wf dflt = true) :
    SMap.wf dflt (m.put i v) = true := by
  induction m with
  | nil => simp [put, wf, hv]
  | cons e m ih =>
    obtain ⟨k, w⟩ := e
    have h' := (wf_iff _ _).1 h
    have hm : SMap.wf dflt m = true := by simp only [wf, Bool.and_eq_true] at h; exact h.2
    simp only [List.pairwise_cons, List.mem_cons, forall_eq_or_imp] at h'
    simp only [put]
    split
    · rename_i hik
      refine (wf_iff _ _).2 ⟨?_, ?_⟩
      · simp only [List.pairwise_cons, List.mem_cons, forall_eq_or_imp]
        exact ⟨⟨hik, fun a ha => Nat.lt_trans hik (h'.1.1 a ha)⟩, h'.1.1, h'.1.2⟩
      · simp only [List.mem_cons, forall_eq_or_imp]; exact ⟨hv, h'.2.1, h'.2.2⟩
    · split
      · rename_i _ hik
        subst hik
        refine (wf_iff _ _).2 ⟨?_, ?_⟩
        · simp only [List.pairwise_cons]; exact h'.1
        · simp only [List.mem_cons, forall_eq_or_imp]; exact ⟨hv, h'.2.2⟩
      · rename_i h1 h2
        have := (wf_iff _ _).1 (ih hm)
        refine (wf_iff _ _).2 ⟨?_, ?_⟩
        · simp only [List.pairwise_cons]
          refine ⟨fun a ha => ?_, this.1⟩
          rcases mem_put ha with ha | ha
          · subst ha; simp only; omega
          · exact h'.1.1 a ha
        · simp only [List.mem_cons, forall_eq_or_imp]; exact ⟨h'.2.1, this.2⟩

/-- Setting a key keeps the form. -/
theorem wf_set [DecidableEq α] (dflt : α) (m : SMap α) (i : Nat) (v : α) (h : m.wf dflt = true) :
    SMap.wf dflt (SMap.set dflt m i v) = true := by
  unfold SMap.set
  split
  · exact wf_del _ _ _ h
  · exact wf_put _ _ _ _ ‹_› h

theorem wf_mod [DecidableEq α] (dflt : α) (m : SMap α) (i : Nat) (f : α → α) (h : m.wf dflt = true) :
    SMap.wf dflt (SMap.mod dflt m i f) = true := wf_set _ _ _ _ h

end Sys2Proof.Machine.SMap
end

