-- ==== Sys2Proof/Laws/State.lean ====
section
/-!
SUPPORT. Laws/State.lean: for each of the plain updates of the block, what every field and every named reading of it is afterwards:
the updates of one field leave all others as they were.
-/
namespace Sys2Proof.Machine
open Sys2Proof

variable (b : Block)

/-! ## setWord -/

@[simp] theorem Block.setWord_ctrs (a v : Nat) : (b.setWord a v).ctrs = b.ctrs := rfl
@[simp] theorem Block.setWord_latch (a v : Nat) : (b.setWord a v).latch = b.latch := rfl
@[simp] theorem Block.setWord_ticks (a v : Nat) : (b.setWord a v).ticks = b.ticks := rfl
@[simp] theorem Block.setWord_refLost (a v : Nat) : (b.setWord a v).refLost = b.refLost := rfl
@[simp] theorem Block.setWord_baseA (a v : Nat) : (b.setWord a v).baseA = b.baseA := rfl
@[simp] theorem Block.setWord_baseB (a v : Nat) : (b.setWord a v).baseB = b.baseB := rfl
@[simp] theorem Block.setWord_switchTick (a v : Nat) : (b.setWord a v).switchTick = b.switchTick := rfl
@[simp] theorem Block.setWord_dies (a v : Nat) : (b.setWord a v).dies = b.dies := rfl
@[simp] theorem Block.setWord_ports (a v : Nat) : (b.setWord a v).ports = b.ports := rfl
@[simp] theorem Block.setWord_clusters (a v : Nat) : (b.setWord a v).clusters = b.clusters := rfl
@[simp] theorem Block.setWord_regions (a v : Nat) : (b.setWord a v).regions = b.regions := rfl
@[simp] theorem Block.setWord_engines (a v : Nat) : (b.setWord a v).engines = b.engines := rfl
@[simp] theorem Block.setWord_rings (a v : Nat) : (b.setWord a v).rings = b.rings := rfl
@[simp] theorem Block.setWord_fifos (a v : Nat) : (b.setWord a v).fifos = b.fifos := rfl
@[simp] theorem Block.setWord_hostLinks (a v : Nat) : (b.setWord a v).hostLinks = b.hostLinks := rfl
@[simp] theorem Block.setWord_links (a v : Nat) : (b.setWord a v).links = b.links := rfl
@[simp] theorem Block.setWord_hbms (a v : Nat) : (b.setWord a v).hbms = b.hbms := rfl
@[simp] theorem Block.setWord_slow (a v : Nat) : (b.setWord a v).slow = b.slow := rfl
@[simp] theorem Block.setWord_txRings (a v : Nat) : (b.setWord a v).txRings = b.txRings := rfl
@[simp] theorem Block.setWord_rxRings (a v : Nat) : (b.setWord a v).rxRings = b.rxRings := rfl
@[simp] theorem Block.setWord_pools (a v : Nat) : (b.setWord a v).pools = b.pools := rfl
@[simp] theorem Block.setWord_ringInts (a v : Nat) : (b.setWord a v).ringInts = b.ringInts := rfl
@[simp] theorem Block.setWord_insts (a v : Nat) : (b.setWord a v).insts = b.insts := rfl
@[simp] theorem Block.setWord_vfEnable (a v : Nat) : (b.setWord a v).vfEnable = b.vfEnable := rfl
@[simp] theorem Block.setWord_numVfs (a v : Nat) : (b.setWord a v).numVfs = b.numVfs := rfl
@[simp] theorem Block.setWord_txLast (a v : Nat) : (b.setWord a v).txLast = b.txLast := rfl
@[simp] theorem Block.setWord_jobs (a v : Nat) : (b.setWord a v).jobs = b.jobs := rfl
@[simp] theorem Block.setWord_dmaEng (a v : Nat) : (b.setWord a v).dmaEng = b.dmaEng := rfl
@[simp] theorem Block.setWord_jobCount (a v : Nat) : (b.setWord a v).jobCount = b.jobCount := rfl
@[simp] theorem Block.setWord_dmaLast (a v : Nat) : (b.setWord a v).dmaLast = b.dmaLast := rfl
@[simp] theorem Block.setWord_frames (a v : Nat) : (b.setWord a v).frames = b.frames := rfl
@[simp] theorem Block.setWord_nextFrame (a v : Nat) : (b.setWord a v).nextFrame = b.nextFrame := rfl
@[simp] theorem Block.setWord_flt (a v : Nat) : (b.setWord a v).flt = b.flt := rfl
@[simp] theorem Block.setWord_inflight (a v : Nat) : (b.setWord a v).inflight = b.inflight := rfl
@[simp] theorem Block.setWord_lastMsg (a v : Nat) : (b.setWord a v).lastMsg = b.lastMsg := rfl
@[simp] theorem Block.setWord_records (a v : Nat) : (b.setWord a v).records = b.records := rfl
@[simp] theorem Block.setWord_locked (a v : Nat) : (b.setWord a v).locked = b.locked := rfl
@[simp] theorem Block.setWord_pair (a v : Nat) : (b.setWord a v).pair = b.pair := rfl
@[simp] theorem Block.setWord_chain (a v : Nat) : (b.setWord a v).chain = b.chain := rfl
@[simp] theorem Block.setWord_boot (a v : Nat) : (b.setWord a v).boot = b.boot := rfl
@[simp] theorem Block.setWord_pkgHold (a v : Nat) : (b.setWord a v).pkgHold = b.pkgHold := rfl
@[simp] theorem Block.setWord_pinLow (a v : Nat) : (b.setWord a v).pinLow = b.pinLow := rfl
@[simp] theorem Block.setWord_relPin (a v : Nat) : (b.setWord a v).relPin = b.relPin := rfl
@[simp] theorem Block.setWord_strapPins (a v : Nat) : (b.setWord a v).strapPins = b.strapPins := rfl
@[simp] theorem Block.setWord_fuses (a v : Nat) : (b.setWord a v).fuses = b.fuses := rfl
@[simp] theorem Block.setWord_faultN (a v : Nat) : (b.setWord a v).faultN = b.faultN := rfl
@[simp] theorem Block.setWord_snap (a v : Nat) : (b.setWord a v).snap = b.snap := rfl
@[simp] theorem Block.setWord_pendSnap (a v : Nat) : (b.setWord a v).pendSnap = b.pendSnap := rfl
@[simp] theorem Block.setWord_refusals (a v : Nat) : (b.setWord a v).refusals = b.refusals := rfl
@[simp] theorem Block.setWord_out (a v : Nat) : (b.setWord a v).out = b.out := rfl
@[simp] theorem Block.setWord_fresh (a v : Nat) : (b.setWord a v).fresh = b.fresh := rfl
@[simp] theorem Block.setWord_ctr (a v : Nat) (y0 : Nat) : (b.setWord a v).ctr y0 = b.ctr y0 := rfl
@[simp] theorem Block.setWord_die (a v : Nat) (y0 : Nat) : (b.setWord a v).die y0 = b.die y0 := rfl
@[simp] theorem Block.setWord_port (a v : Nat) (y0 : Nat) : (b.setWord a v).port y0 = b.port y0 := rfl
@[simp] theorem Block.setWord_cluster (a v : Nat) (y0 : Nat) : (b.setWord a v).cluster y0 = b.cluster y0 := rfl
@[simp] theorem Block.setWord_region (a v : Nat) (y0 : Nat) : (b.setWord a v).region y0 = b.region y0 := rfl
@[simp] theorem Block.setWord_engine (a v : Nat) (y0 : Nat) : (b.setWord a v).engine y0 = b.engine y0 := rfl
@[simp] theorem Block.setWord_frame (a v : Nat) (y0 : Nat) : (b.setWord a v).frame y0 = b.frame y0 := rfl
@[simp] theorem Block.setWord_latched (a v : Nat) (y0 z0 : Nat) : (b.setWord a v).latched y0 z0 = b.latched y0 z0 := rfl
@[simp] theorem Block.setWord_inst (a v : Nat) (y0 : Nat) : (b.setWord a v).inst y0 = b.inst y0 := rfl
@[simp] theorem Block.setWord_txRing (a v : Nat) (y0 : Nat) : (b.setWord a v).txRing y0 = b.txRing y0 := rfl
@[simp] theorem Block.setWord_rxRing (a v : Nat) (y0 : Nat) : (b.setWord a v).rxRing y0 = b.rxRing y0 := rfl
@[simp] theorem Block.setWord_pool (a v : Nat) (y0 z0 : Nat) : (b.setWord a v).pool y0 z0 = b.pool y0 z0 := rfl
@[simp] theorem Block.setWord_ring (a v : Nat) (y0 : Nat) : (b.setWord a v).ring y0 = b.ring y0 := rfl
@[simp] theorem Block.setWord_link (a v : Nat) (y0 z0 : Nat) : (b.setWord a v).link y0 z0 = b.link y0 z0 := rfl
@[simp] theorem Block.setWord_fifo (a v : Nat) (y0 z0 : Nat) : (b.setWord a v).fifo y0 z0 = b.fifo y0 z0 := rfl
@[simp] theorem Block.setWord_frozen (a v : Nat) (y0 : Nat) : (b.setWord a v).frozen y0 = b.frozen y0 := rfl
@[simp] theorem Block.setWord_stopped (a v : Nat) (y0 : Nat) : (b.setWord a v).stopped y0 = b.stopped y0 := rfl
@[simp] theorem Block.setWord_ctx (a v : Nat) (y0 z0 : Nat) : (b.setWord a v).ctx y0 z0 = b.ctx y0 z0 := rfl
@[simp] theorem Block.setWord_at_ (a v : Nat) (y0 : Nat) (z0 : Loc) : (b.setWord a v).at_ y0 z0 = b.at_ y0 z0 := rfl
@[simp] theorem Block.setWord_stgFill (a v : Nat) (y0 : Nat) : (b.setWord a v).stgFill y0 = b.stgFill y0 := rfl
@[simp] theorem Block.setWord_txAt (a v : Nat) (y0 : Nat) (z0 : TxStage) : (b.setWord a v).txAt y0 z0 = b.txAt y0 z0 := rfl

/-! ## setFld -/

@[simp] theorem Block.setFld_ctrs (a : Nat) (f : Bf) (v : Nat) : (b.setFld a f v).ctrs = b.ctrs := rfl
@[simp] theorem Block.setFld_latch (a : Nat) (f : Bf) (v : Nat) : (b.setFld a f v).latch = b.latch := rfl
@[simp] theorem Block.setFld_ticks (a : Nat) (f : Bf) (v : Nat) : (b.setFld a f v).ticks = b.ticks := rfl
@[simp] theorem Block.setFld_refLost (a : Nat) (f : Bf) (v : Nat) : (b.setFld a f v).refLost = b.refLost := rfl
@[simp] theorem Block.setFld_baseA (a : Nat) (f : Bf) (v : Nat) : (b.setFld a f v).baseA = b.baseA := rfl
@[simp] theorem Block.setFld_baseB (a : Nat) (f : Bf) (v : Nat) : (b.setFld a f v).baseB = b.baseB := rfl
@[simp] theorem Block.setFld_switchTick (a : Nat) (f : Bf) (v : Nat) : (b.setFld a f v).switchTick = b.switchTick := rfl
@[simp] theorem Block.setFld_dies (a : Nat) (f : Bf) (v : Nat) : (b.setFld a f v).dies = b.dies := rfl
@[simp] theorem Block.setFld_ports (a : Nat) (f : Bf) (v : Nat) : (b.setFld a f v).ports = b.ports := rfl
@[simp] theorem Block.setFld_clusters (a : Nat) (f : Bf) (v : Nat) : (b.setFld a f v).clusters = b.clusters := rfl
@[simp] theorem Block.setFld_regions (a : Nat) (f : Bf) (v : Nat) : (b.setFld a f v).regions = b.regions := rfl
@[simp] theorem Block.setFld_engines (a : Nat) (f : Bf) (v : Nat) : (b.setFld a f v).engines = b.engines := rfl
@[simp] theorem Block.setFld_rings (a : Nat) (f : Bf) (v : Nat) : (b.setFld a f v).rings = b.rings := rfl
@[simp] theorem Block.setFld_fifos (a : Nat) (f : Bf) (v : Nat) : (b.setFld a f v).fifos = b.fifos := rfl
@[simp] theorem Block.setFld_hostLinks (a : Nat) (f : Bf) (v : Nat) : (b.setFld a f v).hostLinks = b.hostLinks := rfl
@[simp] theorem Block.setFld_links (a : Nat) (f : Bf) (v : Nat) : (b.setFld a f v).links = b.links := rfl
@[simp] theorem Block.setFld_hbms (a : Nat) (f : Bf) (v : Nat) : (b.setFld a f v).hbms = b.hbms := rfl
@[simp] theorem Block.setFld_slow (a : Nat) (f : Bf) (v : Nat) : (b.setFld a f v).slow = b.slow := rfl
@[simp] theorem Block.setFld_txRings (a : Nat) (f : Bf) (v : Nat) : (b.setFld a f v).txRings = b.txRings := rfl
@[simp] theorem Block.setFld_rxRings (a : Nat) (f : Bf) (v : Nat) : (b.setFld a f v).rxRings = b.rxRings := rfl
@[simp] theorem Block.setFld_pools (a : Nat) (f : Bf) (v : Nat) : (b.setFld a f v).pools = b.pools := rfl
@[simp] theorem Block.setFld_ringInts (a : Nat) (f : Bf) (v : Nat) : (b.setFld a f v).ringInts = b.ringInts := rfl
@[simp] theorem Block.setFld_insts (a : Nat) (f : Bf) (v : Nat) : (b.setFld a f v).insts = b.insts := rfl
@[simp] theorem Block.setFld_vfEnable (a : Nat) (f : Bf) (v : Nat) : (b.setFld a f v).vfEnable = b.vfEnable := rfl
@[simp] theorem Block.setFld_numVfs (a : Nat) (f : Bf) (v : Nat) : (b.setFld a f v).numVfs = b.numVfs := rfl
@[simp] theorem Block.setFld_txLast (a : Nat) (f : Bf) (v : Nat) : (b.setFld a f v).txLast = b.txLast := rfl
@[simp] theorem Block.setFld_jobs (a : Nat) (f : Bf) (v : Nat) : (b.setFld a f v).jobs = b.jobs := rfl
@[simp] theorem Block.setFld_dmaEng (a : Nat) (f : Bf) (v : Nat) : (b.setFld a f v).dmaEng = b.dmaEng := rfl
@[simp] theorem Block.setFld_jobCount (a : Nat) (f : Bf) (v : Nat) : (b.setFld a f v).jobCount = b.jobCount := rfl
@[simp] theorem Block.setFld_dmaLast (a : Nat) (f : Bf) (v : Nat) : (b.setFld a f v).dmaLast = b.dmaLast := rfl
@[simp] theorem Block.setFld_frames (a : Nat) (f : Bf) (v : Nat) : (b.setFld a f v).frames = b.frames := rfl
@[simp] theorem Block.setFld_nextFrame (a : Nat) (f : Bf) (v : Nat) : (b.setFld a f v).nextFrame = b.nextFrame := rfl
@[simp] theorem Block.setFld_flt (a : Nat) (f : Bf) (v : Nat) : (b.setFld a f v).flt = b.flt := rfl
@[simp] theorem Block.setFld_inflight (a : Nat) (f : Bf) (v : Nat) : (b.setFld a f v).inflight = b.inflight := rfl
@[simp] theorem Block.setFld_lastMsg (a : Nat) (f : Bf) (v : Nat) : (b.setFld a f v).lastMsg = b.lastMsg := rfl
@[simp] theorem Block.setFld_records (a : Nat) (f : Bf) (v : Nat) : (b.setFld a f v).records = b.records := rfl
@[simp] theorem Block.setFld_locked (a : Nat) (f : Bf) (v : Nat) : (b.setFld a f v).locked = b.locked := rfl
@[simp] theorem Block.setFld_pair (a : Nat) (f : Bf) (v : Nat) : (b.setFld a f v).pair = b.pair := rfl
@[simp] theorem Block.setFld_chain (a : Nat) (f : Bf) (v : Nat) : (b.setFld a f v).chain = b.chain := rfl
@[simp] theorem Block.setFld_boot (a : Nat) (f : Bf) (v : Nat) : (b.setFld a f v).boot = b.boot := rfl
@[simp] theorem Block.setFld_pkgHold (a : Nat) (f : Bf) (v : Nat) : (b.setFld a f v).pkgHold = b.pkgHold := rfl
@[simp] theorem Block.setFld_pinLow (a : Nat) (f : Bf) (v : Nat) : (b.setFld a f v).pinLow = b.pinLow := rfl
@[simp] theorem Block.setFld_relPin (a : Nat) (f : Bf) (v : Nat) : (b.setFld a f v).relPin = b.relPin := rfl
@[simp] theorem Block.setFld_strapPins (a : Nat) (f : Bf) (v : Nat) : (b.setFld a f v).strapPins = b.strapPins := rfl
@[simp] theorem Block.setFld_fuses (a : Nat) (f : Bf) (v : Nat) : (b.setFld a f v).fuses = b.fuses := rfl
@[simp] theorem Block.setFld_faultN (a : Nat) (f : Bf) (v : Nat) : (b.setFld a f v).faultN = b.faultN := rfl
@[simp] theorem Block.setFld_snap (a : Nat) (f : Bf) (v : Nat) : (b.setFld a f v).snap = b.snap := rfl
@[simp] theorem Block.setFld_pendSnap (a : Nat) (f : Bf) (v : Nat) : (b.setFld a f v).pendSnap = b.pendSnap := rfl
@[simp] theorem Block.setFld_refusals (a : Nat) (f : Bf) (v : Nat) : (b.setFld a f v).refusals = b.refusals := rfl
@[simp] theorem Block.setFld_out (a : Nat) (f : Bf) (v : Nat) : (b.setFld a f v).out = b.out := rfl
@[simp] theorem Block.setFld_fresh (a : Nat) (f : Bf) (v : Nat) : (b.setFld a f v).fresh = b.fresh := rfl
@[simp] theorem Block.setFld_ctr (a : Nat) (f : Bf) (v : Nat) (y0 : Nat) : (b.setFld a f v).ctr y0 = b.ctr y0 := rfl
@[simp] theorem Block.setFld_die (a : Nat) (f : Bf) (v : Nat) (y0 : Nat) : (b.setFld a f v).die y0 = b.die y0 := rfl
@[simp] theorem Block.setFld_port (a : Nat) (f : Bf) (v : Nat) (y0 : Nat) : (b.setFld a f v).port y0 = b.port y0 := rfl
@[simp] theorem Block.setFld_cluster (a : Nat) (f : Bf) (v : Nat) (y0 : Nat) : (b.setFld a f v).cluster y0 = b.cluster y0 := rfl
@[simp] theorem Block.setFld_region (a : Nat) (f : Bf) (v : Nat) (y0 : Nat) : (b.setFld a f v).region y0 = b.region y0 := rfl
@[simp] theorem Block.setFld_engine (a : Nat) (f : Bf) (v : Nat) (y0 : Nat) : (b.setFld a f v).engine y0 = b.engine y0 := rfl
@[simp] theorem Block.setFld_frame (a : Nat) (f : Bf) (v : Nat) (y0 : Nat) : (b.setFld a f v).frame y0 = b.frame y0 := rfl
@[simp] theorem Block.setFld_latched (a : Nat) (f : Bf) (v : Nat) (y0 z0 : Nat) : (b.setFld a f v).latched y0 z0 = b.latched y0 z0 := rfl
@[simp] theorem Block.setFld_inst (a : Nat) (f : Bf) (v : Nat) (y0 : Nat) : (b.setFld a f v).inst y0 = b.inst y0 := rfl
@[simp] theorem Block.setFld_txRing (a : Nat) (f : Bf) (v : Nat) (y0 : Nat) : (b.setFld a f v).txRing y0 = b.txRing y0 := rfl
@[simp] theorem Block.setFld_rxRing (a : Nat) (f : Bf) (v : Nat) (y0 : Nat) : (b.setFld a f v).rxRing y0 = b.rxRing y0 := rfl
@[simp] theorem Block.setFld_pool (a : Nat) (f : Bf) (v : Nat) (y0 z0 : Nat) : (b.setFld a f v).pool y0 z0 = b.pool y0 z0 := rfl
@[simp] theorem Block.setFld_ring (a : Nat) (f : Bf) (v : Nat) (y0 : Nat) : (b.setFld a f v).ring y0 = b.ring y0 := rfl
@[simp] theorem Block.setFld_link (a : Nat) (f : Bf) (v : Nat) (y0 z0 : Nat) : (b.setFld a f v).link y0 z0 = b.link y0 z0 := rfl
@[simp] theorem Block.setFld_fifo (a : Nat) (f : Bf) (v : Nat) (y0 z0 : Nat) : (b.setFld a f v).fifo y0 z0 = b.fifo y0 z0 := rfl
@[simp] theorem Block.setFld_frozen (a : Nat) (f : Bf) (v : Nat) (y0 : Nat) : (b.setFld a f v).frozen y0 = b.frozen y0 := rfl
@[simp] theorem Block.setFld_stopped (a : Nat) (f : Bf) (v : Nat) (y0 : Nat) : (b.setFld a f v).stopped y0 = b.stopped y0 := rfl
@[simp] theorem Block.setFld_ctx (a : Nat) (f : Bf) (v : Nat) (y0 z0 : Nat) : (b.setFld a f v).ctx y0 z0 = b.ctx y0 z0 := rfl
@[simp] theorem Block.setFld_at_ (a : Nat) (f : Bf) (v : Nat) (y0 : Nat) (z0 : Loc) : (b.setFld a f v).at_ y0 z0 = b.at_ y0 z0 := rfl
@[simp] theorem Block.setFld_stgFill (a : Nat) (f : Bf) (v : Nat) (y0 : Nat) : (b.setFld a f v).stgFill y0 = b.stgFill y0 := rfl
@[simp] theorem Block.setFld_txAt (a : Nat) (f : Bf) (v : Nat) (y0 : Nat) (z0 : TxStage) : (b.setFld a f v).txAt y0 z0 = b.txAt y0 z0 := rfl

/-! ## raise -/

@[simp] theorem Block.raise_ctrs (a : Nat) (f : Bf) : (b.raise a f).ctrs = b.ctrs := rfl
@[simp] theorem Block.raise_latch (a : Nat) (f : Bf) : (b.raise a f).latch = b.latch := rfl
@[simp] theorem Block.raise_ticks (a : Nat) (f : Bf) : (b.raise a f).ticks = b.ticks := rfl
@[simp] theorem Block.raise_refLost (a : Nat) (f : Bf) : (b.raise a f).refLost = b.refLost := rfl
@[simp] theorem Block.raise_baseA (a : Nat) (f : Bf) : (b.raise a f).baseA = b.baseA := rfl
@[simp] theorem Block.raise_baseB (a : Nat) (f : Bf) : (b.raise a f).baseB = b.baseB := rfl
@[simp] theorem Block.raise_switchTick (a : Nat) (f : Bf) : (b.raise a f).switchTick = b.switchTick := rfl
@[simp] theorem Block.raise_dies (a : Nat) (f : Bf) : (b.raise a f).dies = b.dies := rfl
@[simp] theorem Block.raise_ports (a : Nat) (f : Bf) : (b.raise a f).ports = b.ports := rfl
@[simp] theorem Block.raise_clusters (a : Nat) (f : Bf) : (b.raise a f).clusters = b.clusters := rfl
@[simp] theorem Block.raise_regions (a : Nat) (f : Bf) : (b.raise a f).regions = b.regions := rfl
@[simp] theorem Block.raise_engines (a : Nat) (f : Bf) : (b.raise a f).engines = b.engines := rfl
@[simp] theorem Block.raise_rings (a : Nat) (f : Bf) : (b.raise a f).rings = b.rings := rfl
@[simp] theorem Block.raise_fifos (a : Nat) (f : Bf) : (b.raise a f).fifos = b.fifos := rfl
@[simp] theorem Block.raise_hostLinks (a : Nat) (f : Bf) : (b.raise a f).hostLinks = b.hostLinks := rfl
@[simp] theorem Block.raise_links (a : Nat) (f : Bf) : (b.raise a f).links = b.links := rfl
@[simp] theorem Block.raise_hbms (a : Nat) (f : Bf) : (b.raise a f).hbms = b.hbms := rfl
@[simp] theorem Block.raise_slow (a : Nat) (f : Bf) : (b.raise a f).slow = b.slow := rfl
@[simp] theorem Block.raise_txRings (a : Nat) (f : Bf) : (b.raise a f).txRings = b.txRings := rfl
@[simp] theorem Block.raise_rxRings (a : Nat) (f : Bf) : (b.raise a f).rxRings = b.rxRings := rfl
@[simp] theorem Block.raise_pools (a : Nat) (f : Bf) : (b.raise a f).pools = b.pools := rfl
@[simp] theorem Block.raise_ringInts (a : Nat) (f : Bf) : (b.raise a f).ringInts = b.ringInts := rfl
@[simp] theorem Block.raise_insts (a : Nat) (f : Bf) : (b.raise a f).insts = b.insts := rfl
@[simp] theorem Block.raise_vfEnable (a : Nat) (f : Bf) : (b.raise a f).vfEnable = b.vfEnable := rfl
@[simp] theorem Block.raise_numVfs (a : Nat) (f : Bf) : (b.raise a f).numVfs = b.numVfs := rfl
@[simp] theorem Block.raise_txLast (a : Nat) (f : Bf) : (b.raise a f).txLast = b.txLast := rfl
@[simp] theorem Block.raise_jobs (a : Nat) (f : Bf) : (b.raise a f).jobs = b.jobs := rfl
@[simp] theorem Block.raise_dmaEng (a : Nat) (f : Bf) : (b.raise a f).dmaEng = b.dmaEng := rfl
@[simp] theorem Block.raise_jobCount (a : Nat) (f : Bf) : (b.raise a f).jobCount = b.jobCount := rfl
@[simp] theorem Block.raise_dmaLast (a : Nat) (f : Bf) : (b.raise a f).dmaLast = b.dmaLast := rfl
@[simp] theorem Block.raise_frames (a : Nat) (f : Bf) : (b.raise a f).frames = b.frames := rfl
@[simp] theorem Block.raise_nextFrame (a : Nat) (f : Bf) : (b.raise a f).nextFrame = b.nextFrame := rfl
@[simp] theorem Block.raise_flt (a : Nat) (f : Bf) : (b.raise a f).flt = b.flt := rfl
@[simp] theorem Block.raise_inflight (a : Nat) (f : Bf) : (b.raise a f).inflight = b.inflight := rfl
@[simp] theorem Block.raise_lastMsg (a : Nat) (f : Bf) : (b.raise a f).lastMsg = b.lastMsg := rfl
@[simp] theorem Block.raise_records (a : Nat) (f : Bf) : (b.raise a f).records = b.records := rfl
@[simp] theorem Block.raise_locked (a : Nat) (f : Bf) : (b.raise a f).locked = b.locked := rfl
@[simp] theorem Block.raise_pair (a : Nat) (f : Bf) : (b.raise a f).pair = b.pair := rfl
@[simp] theorem Block.raise_chain (a : Nat) (f : Bf) : (b.raise a f).chain = b.chain := rfl
@[simp] theorem Block.raise_boot (a : Nat) (f : Bf) : (b.raise a f).boot = b.boot := rfl
@[simp] theorem Block.raise_pkgHold (a : Nat) (f : Bf) : (b.raise a f).pkgHold = b.pkgHold := rfl
@[simp] theorem Block.raise_pinLow (a : Nat) (f : Bf) : (b.raise a f).pinLow = b.pinLow := rfl
@[simp] theorem Block.raise_relPin (a : Nat) (f : Bf) : (b.raise a f).relPin = b.relPin := rfl
@[simp] theorem Block.raise_strapPins (a : Nat) (f : Bf) : (b.raise a f).strapPins = b.strapPins := rfl
@[simp] theorem Block.raise_fuses (a : Nat) (f : Bf) : (b.raise a f).fuses = b.fuses := rfl
@[simp] theorem Block.raise_faultN (a : Nat) (f : Bf) : (b.raise a f).faultN = b.faultN := rfl
@[simp] theorem Block.raise_snap (a : Nat) (f : Bf) : (b.raise a f).snap = b.snap := rfl
@[simp] theorem Block.raise_pendSnap (a : Nat) (f : Bf) : (b.raise a f).pendSnap = b.pendSnap := rfl
@[simp] theorem Block.raise_refusals (a : Nat) (f : Bf) : (b.raise a f).refusals = b.refusals := rfl
@[simp] theorem Block.raise_out (a : Nat) (f : Bf) : (b.raise a f).out = b.out := rfl
@[simp] theorem Block.raise_fresh (a : Nat) (f : Bf) : (b.raise a f).fresh = b.fresh := rfl
@[simp] theorem Block.raise_ctr (a : Nat) (f : Bf) (y0 : Nat) : (b.raise a f).ctr y0 = b.ctr y0 := rfl
@[simp] theorem Block.raise_die (a : Nat) (f : Bf) (y0 : Nat) : (b.raise a f).die y0 = b.die y0 := rfl
@[simp] theorem Block.raise_port (a : Nat) (f : Bf) (y0 : Nat) : (b.raise a f).port y0 = b.port y0 := rfl
@[simp] theorem Block.raise_cluster (a : Nat) (f : Bf) (y0 : Nat) : (b.raise a f).cluster y0 = b.cluster y0 := rfl
@[simp] theorem Block.raise_region (a : Nat) (f : Bf) (y0 : Nat) : (b.raise a f).region y0 = b.region y0 := rfl
@[simp] theorem Block.raise_engine (a : Nat) (f : Bf) (y0 : Nat) : (b.raise a f).engine y0 = b.engine y0 := rfl
@[simp] theorem Block.raise_frame (a : Nat) (f : Bf) (y0 : Nat) : (b.raise a f).frame y0 = b.frame y0 := rfl
@[simp] theorem Block.raise_latched (a : Nat) (f : Bf) (y0 z0 : Nat) : (b.raise a f).latched y0 z0 = b.latched y0 z0 := rfl
@[simp] theorem Block.raise_inst (a : Nat) (f : Bf) (y0 : Nat) : (b.raise a f).inst y0 = b.inst y0 := rfl
@[simp] theorem Block.raise_txRing (a : Nat) (f : Bf) (y0 : Nat) : (b.raise a f).txRing y0 = b.txRing y0 := rfl
@[simp] theorem Block.raise_rxRing (a : Nat) (f : Bf) (y0 : Nat) : (b.raise a f).rxRing y0 = b.rxRing y0 := rfl
@[simp] theorem Block.raise_pool (a : Nat) (f : Bf) (y0 z0 : Nat) : (b.raise a f).pool y0 z0 = b.pool y0 z0 := rfl
@[simp] theorem Block.raise_ring (a : Nat) (f : Bf) (y0 : Nat) : (b.raise a f).ring y0 = b.ring y0 := rfl
@[simp] theorem Block.raise_link (a : Nat) (f : Bf) (y0 z0 : Nat) : (b.raise a f).link y0 z0 = b.link y0 z0 := rfl
@[simp] theorem Block.raise_fifo (a : Nat) (f : Bf) (y0 z0 : Nat) : (b.raise a f).fifo y0 z0 = b.fifo y0 z0 := rfl
@[simp] theorem Block.raise_frozen (a : Nat) (f : Bf) (y0 : Nat) : (b.raise a f).frozen y0 = b.frozen y0 := rfl
@[simp] theorem Block.raise_stopped (a : Nat) (f : Bf) (y0 : Nat) : (b.raise a f).stopped y0 = b.stopped y0 := rfl
@[simp] theorem Block.raise_ctx (a : Nat) (f : Bf) (y0 z0 : Nat) : (b.raise a f).ctx y0 z0 = b.ctx y0 z0 := rfl
@[simp] theorem Block.raise_at_ (a : Nat) (f : Bf) (y0 : Nat) (z0 : Loc) : (b.raise a f).at_ y0 z0 = b.at_ y0 z0 := rfl
@[simp] theorem Block.raise_stgFill (a : Nat) (f : Bf) (y0 : Nat) : (b.raise a f).stgFill y0 = b.stgFill y0 := rfl
@[simp] theorem Block.raise_txAt (a : Nat) (f : Bf) (y0 : Nat) (z0 : TxStage) : (b.raise a f).txAt y0 z0 = b.txAt y0 z0 := rfl

/-! ## lower -/

@[simp] theorem Block.lower_ctrs (a : Nat) (f : Bf) : (b.lower a f).ctrs = b.ctrs := rfl
@[simp] theorem Block.lower_latch (a : Nat) (f : Bf) : (b.lower a f).latch = b.latch := rfl
@[simp] theorem Block.lower_ticks (a : Nat) (f : Bf) : (b.lower a f).ticks = b.ticks := rfl
@[simp] theorem Block.lower_refLost (a : Nat) (f : Bf) : (b.lower a f).refLost = b.refLost := rfl
@[simp] theorem Block.lower_baseA (a : Nat) (f : Bf) : (b.lower a f).baseA = b.baseA := rfl
@[simp] theorem Block.lower_baseB (a : Nat) (f : Bf) : (b.lower a f).baseB = b.baseB := rfl
@[simp] theorem Block.lower_switchTick (a : Nat) (f : Bf) : (b.lower a f).switchTick = b.switchTick := rfl
@[simp] theorem Block.lower_dies (a : Nat) (f : Bf) : (b.lower a f).dies = b.dies := rfl
@[simp] theorem Block.lower_ports (a : Nat) (f : Bf) : (b.lower a f).ports = b.ports := rfl
@[simp] theorem Block.lower_clusters (a : Nat) (f : Bf) : (b.lower a f).clusters = b.clusters := rfl
@[simp] theorem Block.lower_regions (a : Nat) (f : Bf) : (b.lower a f).regions = b.regions := rfl
@[simp] theorem Block.lower_engines (a : Nat) (f : Bf) : (b.lower a f).engines = b.engines := rfl
@[simp] theorem Block.lower_rings (a : Nat) (f : Bf) : (b.lower a f).rings = b.rings := rfl
@[simp] theorem Block.lower_fifos (a : Nat) (f : Bf) : (b.lower a f).fifos = b.fifos := rfl
@[simp] theorem Block.lower_hostLinks (a : Nat) (f : Bf) : (b.lower a f).hostLinks = b.hostLinks := rfl
@[simp] theorem Block.lower_links (a : Nat) (f : Bf) : (b.lower a f).links = b.links := rfl
@[simp] theorem Block.lower_hbms (a : Nat) (f : Bf) : (b.lower a f).hbms = b.hbms := rfl
@[simp] theorem Block.lower_slow (a : Nat) (f : Bf) : (b.lower a f).slow = b.slow := rfl
@[simp] theorem Block.lower_txRings (a : Nat) (f : Bf) : (b.lower a f).txRings = b.txRings := rfl
@[simp] theorem Block.lower_rxRings (a : Nat) (f : Bf) : (b.lower a f).rxRings = b.rxRings := rfl
@[simp] theorem Block.lower_pools (a : Nat) (f : Bf) : (b.lower a f).pools = b.pools := rfl
@[simp] theorem Block.lower_ringInts (a : Nat) (f : Bf) : (b.lower a f).ringInts = b.ringInts := rfl
@[simp] theorem Block.lower_insts (a : Nat) (f : Bf) : (b.lower a f).insts = b.insts := rfl
@[simp] theorem Block.lower_vfEnable (a : Nat) (f : Bf) : (b.lower a f).vfEnable = b.vfEnable := rfl
@[simp] theorem Block.lower_numVfs (a : Nat) (f : Bf) : (b.lower a f).numVfs = b.numVfs := rfl
@[simp] theorem Block.lower_txLast (a : Nat) (f : Bf) : (b.lower a f).txLast = b.txLast := rfl
@[simp] theorem Block.lower_jobs (a : Nat) (f : Bf) : (b.lower a f).jobs = b.jobs := rfl
@[simp] theorem Block.lower_dmaEng (a : Nat) (f : Bf) : (b.lower a f).dmaEng = b.dmaEng := rfl
@[simp] theorem Block.lower_jobCount (a : Nat) (f : Bf) : (b.lower a f).jobCount = b.jobCount := rfl
@[simp] theorem Block.lower_dmaLast (a : Nat) (f : Bf) : (b.lower a f).dmaLast = b.dmaLast := rfl
@[simp] theorem Block.lower_frames (a : Nat) (f : Bf) : (b.lower a f).frames = b.frames := rfl
@[simp] theorem Block.lower_nextFrame (a : Nat) (f : Bf) : (b.lower a f).nextFrame = b.nextFrame := rfl
@[simp] theorem Block.lower_flt (a : Nat) (f : Bf) : (b.lower a f).flt = b.flt := rfl
@[simp] theorem Block.lower_inflight (a : Nat) (f : Bf) : (b.lower a f).inflight = b.inflight := rfl
@[simp] theorem Block.lower_lastMsg (a : Nat) (f : Bf) : (b.lower a f).lastMsg = b.lastMsg := rfl
@[simp] theorem Block.lower_records (a : Nat) (f : Bf) : (b.lower a f).records = b.records := rfl
@[simp] theorem Block.lower_locked (a : Nat) (f : Bf) : (b.lower a f).locked = b.locked := rfl
@[simp] theorem Block.lower_pair (a : Nat) (f : Bf) : (b.lower a f).pair = b.pair := rfl
@[simp] theorem Block.lower_chain (a : Nat) (f : Bf) : (b.lower a f).chain = b.chain := rfl
@[simp] theorem Block.lower_boot (a : Nat) (f : Bf) : (b.lower a f).boot = b.boot := rfl
@[simp] theorem Block.lower_pkgHold (a : Nat) (f : Bf) : (b.lower a f).pkgHold = b.pkgHold := rfl
@[simp] theorem Block.lower_pinLow (a : Nat) (f : Bf) : (b.lower a f).pinLow = b.pinLow := rfl
@[simp] theorem Block.lower_relPin (a : Nat) (f : Bf) : (b.lower a f).relPin = b.relPin := rfl
@[simp] theorem Block.lower_strapPins (a : Nat) (f : Bf) : (b.lower a f).strapPins = b.strapPins := rfl
@[simp] theorem Block.lower_fuses (a : Nat) (f : Bf) : (b.lower a f).fuses = b.fuses := rfl
@[simp] theorem Block.lower_faultN (a : Nat) (f : Bf) : (b.lower a f).faultN = b.faultN := rfl
@[simp] theorem Block.lower_snap (a : Nat) (f : Bf) : (b.lower a f).snap = b.snap := rfl
@[simp] theorem Block.lower_pendSnap (a : Nat) (f : Bf) : (b.lower a f).pendSnap = b.pendSnap := rfl
@[simp] theorem Block.lower_refusals (a : Nat) (f : Bf) : (b.lower a f).refusals = b.refusals := rfl
@[simp] theorem Block.lower_out (a : Nat) (f : Bf) : (b.lower a f).out = b.out := rfl
@[simp] theorem Block.lower_fresh (a : Nat) (f : Bf) : (b.lower a f).fresh = b.fresh := rfl
@[simp] theorem Block.lower_ctr (a : Nat) (f : Bf) (y0 : Nat) : (b.lower a f).ctr y0 = b.ctr y0 := rfl
@[simp] theorem Block.lower_die (a : Nat) (f : Bf) (y0 : Nat) : (b.lower a f).die y0 = b.die y0 := rfl
@[simp] theorem Block.lower_port (a : Nat) (f : Bf) (y0 : Nat) : (b.lower a f).port y0 = b.port y0 := rfl
@[simp] theorem Block.lower_cluster (a : Nat) (f : Bf) (y0 : Nat) : (b.lower a f).cluster y0 = b.cluster y0 := rfl
@[simp] theorem Block.lower_region (a : Nat) (f : Bf) (y0 : Nat) : (b.lower a f).region y0 = b.region y0 := rfl
@[simp] theorem Block.lower_engine (a : Nat) (f : Bf) (y0 : Nat) : (b.lower a f).engine y0 = b.engine y0 := rfl
@[simp] theorem Block.lower_frame (a : Nat) (f : Bf) (y0 : Nat) : (b.lower a f).frame y0 = b.frame y0 := rfl
@[simp] theorem Block.lower_latched (a : Nat) (f : Bf) (y0 z0 : Nat) : (b.lower a f).latched y0 z0 = b.latched y0 z0 := rfl
@[simp] theorem Block.lower_inst (a : Nat) (f : Bf) (y0 : Nat) : (b.lower a f).inst y0 = b.inst y0 := rfl
@[simp] theorem Block.lower_txRing (a : Nat) (f : Bf) (y0 : Nat) : (b.lower a f).txRing y0 = b.txRing y0 := rfl
@[simp] theorem Block.lower_rxRing (a : Nat) (f : Bf) (y0 : Nat) : (b.lower a f).rxRing y0 = b.rxRing y0 := rfl
@[simp] theorem Block.lower_pool (a : Nat) (f : Bf) (y0 z0 : Nat) : (b.lower a f).pool y0 z0 = b.pool y0 z0 := rfl
@[simp] theorem Block.lower_ring (a : Nat) (f : Bf) (y0 : Nat) : (b.lower a f).ring y0 = b.ring y0 := rfl
@[simp] theorem Block.lower_link (a : Nat) (f : Bf) (y0 z0 : Nat) : (b.lower a f).link y0 z0 = b.link y0 z0 := rfl
@[simp] theorem Block.lower_fifo (a : Nat) (f : Bf) (y0 z0 : Nat) : (b.lower a f).fifo y0 z0 = b.fifo y0 z0 := rfl
@[simp] theorem Block.lower_frozen (a : Nat) (f : Bf) (y0 : Nat) : (b.lower a f).frozen y0 = b.frozen y0 := rfl
@[simp] theorem Block.lower_stopped (a : Nat) (f : Bf) (y0 : Nat) : (b.lower a f).stopped y0 = b.stopped y0 := rfl
@[simp] theorem Block.lower_ctx (a : Nat) (f : Bf) (y0 z0 : Nat) : (b.lower a f).ctx y0 z0 = b.ctx y0 z0 := rfl
@[simp] theorem Block.lower_at_ (a : Nat) (f : Bf) (y0 : Nat) (z0 : Loc) : (b.lower a f).at_ y0 z0 = b.at_ y0 z0 := rfl
@[simp] theorem Block.lower_stgFill (a : Nat) (f : Bf) (y0 : Nat) : (b.lower a f).stgFill y0 = b.stgFill y0 := rfl
@[simp] theorem Block.lower_txAt (a : Nat) (f : Bf) (y0 : Nat) (z0 : TxStage) : (b.lower a f).txAt y0 z0 = b.txAt y0 z0 := rfl

/-! ## orFld -/

@[simp] theorem Block.orFld_ctrs (a : Nat) (f : Bf) (m : Nat) : (b.orFld a f m).ctrs = b.ctrs := rfl
@[simp] theorem Block.orFld_latch (a : Nat) (f : Bf) (m : Nat) : (b.orFld a f m).latch = b.latch := rfl
@[simp] theorem Block.orFld_ticks (a : Nat) (f : Bf) (m : Nat) : (b.orFld a f m).ticks = b.ticks := rfl
@[simp] theorem Block.orFld_refLost (a : Nat) (f : Bf) (m : Nat) : (b.orFld a f m).refLost = b.refLost := rfl
@[simp] theorem Block.orFld_baseA (a : Nat) (f : Bf) (m : Nat) : (b.orFld a f m).baseA = b.baseA := rfl
@[simp] theorem Block.orFld_baseB (a : Nat) (f : Bf) (m : Nat) : (b.orFld a f m).baseB = b.baseB := rfl
@[simp] theorem Block.orFld_switchTick (a : Nat) (f : Bf) (m : Nat) : (b.orFld a f m).switchTick = b.switchTick := rfl
@[simp] theorem Block.orFld_dies (a : Nat) (f : Bf) (m : Nat) : (b.orFld a f m).dies = b.dies := rfl
@[simp] theorem Block.orFld_ports (a : Nat) (f : Bf) (m : Nat) : (b.orFld a f m).ports = b.ports := rfl
@[simp] theorem Block.orFld_clusters (a : Nat) (f : Bf) (m : Nat) : (b.orFld a f m).clusters = b.clusters := rfl
@[simp] theorem Block.orFld_regions (a : Nat) (f : Bf) (m : Nat) : (b.orFld a f m).regions = b.regions := rfl
@[simp] theorem Block.orFld_engines (a : Nat) (f : Bf) (m : Nat) : (b.orFld a f m).engines = b.engines := rfl
@[simp] theorem Block.orFld_rings (a : Nat) (f : Bf) (m : Nat) : (b.orFld a f m).rings = b.rings := rfl
@[simp] theorem Block.orFld_fifos (a : Nat) (f : Bf) (m : Nat) : (b.orFld a f m).fifos = b.fifos := rfl
@[simp] theorem Block.orFld_hostLinks (a : Nat) (f : Bf) (m : Nat) : (b.orFld a f m).hostLinks = b.hostLinks := rfl
@[simp] theorem Block.orFld_links (a : Nat) (f : Bf) (m : Nat) : (b.orFld a f m).links = b.links := rfl
@[simp] theorem Block.orFld_hbms (a : Nat) (f : Bf) (m : Nat) : (b.orFld a f m).hbms = b.hbms := rfl
@[simp] theorem Block.orFld_slow (a : Nat) (f : Bf) (m : Nat) : (b.orFld a f m).slow = b.slow := rfl
@[simp] theorem Block.orFld_txRings (a : Nat) (f : Bf) (m : Nat) : (b.orFld a f m).txRings = b.txRings := rfl
@[simp] theorem Block.orFld_rxRings (a : Nat) (f : Bf) (m : Nat) : (b.orFld a f m).rxRings = b.rxRings := rfl
@[simp] theorem Block.orFld_pools (a : Nat) (f : Bf) (m : Nat) : (b.orFld a f m).pools = b.pools := rfl
@[simp] theorem Block.orFld_ringInts (a : Nat) (f : Bf) (m : Nat) : (b.orFld a f m).ringInts = b.ringInts := rfl
@[simp] theorem Block.orFld_insts (a : Nat) (f : Bf) (m : Nat) : (b.orFld a f m).insts = b.insts := rfl
@[simp] theorem Block.orFld_vfEnable (a : Nat) (f : Bf) (m : Nat) : (b.orFld a f m).vfEnable = b.vfEnable := rfl
@[simp] theorem Block.orFld_numVfs (a : Nat) (f : Bf) (m : Nat) : (b.orFld a f m).numVfs = b.numVfs := rfl
@[simp] theorem Block.orFld_txLast (a : Nat) (f : Bf) (m : Nat) : (b.orFld a f m).txLast = b.txLast := rfl
@[simp] theorem Block.orFld_jobs (a : Nat) (f : Bf) (m : Nat) : (b.orFld a f m).jobs = b.jobs := rfl
@[simp] theorem Block.orFld_dmaEng (a : Nat) (f : Bf) (m : Nat) : (b.orFld a f m).dmaEng = b.dmaEng := rfl
@[simp] theorem Block.orFld_jobCount (a : Nat) (f : Bf) (m : Nat) : (b.orFld a f m).jobCount = b.jobCount := rfl
@[simp] theorem Block.orFld_dmaLast (a : Nat) (f : Bf) (m : Nat) : (b.orFld a f m).dmaLast = b.dmaLast := rfl
@[simp] theorem Block.orFld_frames (a : Nat) (f : Bf) (m : Nat) : (b.orFld a f m).frames = b.frames := rfl
@[simp] theorem Block.orFld_nextFrame (a : Nat) (f : Bf) (m : Nat) : (b.orFld a f m).nextFrame = b.nextFrame := rfl
@[simp] theorem Block.orFld_flt (a : Nat) (f : Bf) (m : Nat) : (b.orFld a f m).flt = b.flt := rfl
@[simp] theorem Block.orFld_inflight (a : Nat) (f : Bf) (m : Nat) : (b.orFld a f m).inflight = b.inflight := rfl
@[simp] theorem Block.orFld_lastMsg (a : Nat) (f : Bf) (m : Nat) : (b.orFld a f m).lastMsg = b.lastMsg := rfl
@[simp] theorem Block.orFld_records (a : Nat) (f : Bf) (m : Nat) : (b.orFld a f m).records = b.records := rfl
@[simp] theorem Block.orFld_locked (a : Nat) (f : Bf) (m : Nat) : (b.orFld a f m).locked = b.locked := rfl
@[simp] theorem Block.orFld_pair (a : Nat) (f : Bf) (m : Nat) : (b.orFld a f m).pair = b.pair := rfl
@[simp] theorem Block.orFld_chain (a : Nat) (f : Bf) (m : Nat) : (b.orFld a f m).chain = b.chain := rfl
@[simp] theorem Block.orFld_boot (a : Nat) (f : Bf) (m : Nat) : (b.orFld a f m).boot = b.boot := rfl
@[simp] theorem Block.orFld_pkgHold (a : Nat) (f : Bf) (m : Nat) : (b.orFld a f m).pkgHold = b.pkgHold := rfl
@[simp] theorem Block.orFld_pinLow (a : Nat) (f : Bf) (m : Nat) : (b.orFld a f m).pinLow = b.pinLow := rfl
@[simp] theorem Block.orFld_relPin (a : Nat) (f : Bf) (m : Nat) : (b.orFld a f m).relPin = b.relPin := rfl
@[simp] theorem Block.orFld_strapPins (a : Nat) (f : Bf) (m : Nat) : (b.orFld a f m).strapPins = b.strapPins := rfl
@[simp] theorem Block.orFld_fuses (a : Nat) (f : Bf) (m : Nat) : (b.orFld a f m).fuses = b.fuses := rfl
@[simp] theorem Block.orFld_faultN (a : Nat) (f : Bf) (m : Nat) : (b.orFld a f m).faultN = b.faultN := rfl
@[simp] theorem Block.orFld_snap (a : Nat) (f : Bf) (m : Nat) : (b.orFld a f m).snap = b.snap := rfl
@[simp] theorem Block.orFld_pendSnap (a : Nat) (f : Bf) (m : Nat) : (b.orFld a f m).pendSnap = b.pendSnap := rfl
@[simp] theorem Block.orFld_refusals (a : Nat) (f : Bf) (m : Nat) : (b.orFld a f m).refusals = b.refusals := rfl
@[simp] theorem Block.orFld_out (a : Nat) (f : Bf) (m : Nat) : (b.orFld a f m).out = b.out := rfl
@[simp] theorem Block.orFld_fresh (a : Nat) (f : Bf) (m : Nat) : (b.orFld a f m).fresh = b.fresh := rfl
@[simp] theorem Block.orFld_ctr (a : Nat) (f : Bf) (m : Nat) (y0 : Nat) : (b.orFld a f m).ctr y0 = b.ctr y0 := rfl
@[simp] theorem Block.orFld_die (a : Nat) (f : Bf) (m : Nat) (y0 : Nat) : (b.orFld a f m).die y0 = b.die y0 := rfl
@[simp] theorem Block.orFld_port (a : Nat) (f : Bf) (m : Nat) (y0 : Nat) : (b.orFld a f m).port y0 = b.port y0 := rfl
@[simp] theorem Block.orFld_cluster (a : Nat) (f : Bf) (m : Nat) (y0 : Nat) : (b.orFld a f m).cluster y0 = b.cluster y0 := rfl
@[simp] theorem Block.orFld_region (a : Nat) (f : Bf) (m : Nat) (y0 : Nat) : (b.orFld a f m).region y0 = b.region y0 := rfl
@[simp] theorem Block.orFld_engine (a : Nat) (f : Bf) (m : Nat) (y0 : Nat) : (b.orFld a f m).engine y0 = b.engine y0 := rfl
@[simp] theorem Block.orFld_frame (a : Nat) (f : Bf) (m : Nat) (y0 : Nat) : (b.orFld a f m).frame y0 = b.frame y0 := rfl
@[simp] theorem Block.orFld_latched (a : Nat) (f : Bf) (m : Nat) (y0 z0 : Nat) : (b.orFld a f m).latched y0 z0 = b.latched y0 z0 := rfl
@[simp] theorem Block.orFld_inst (a : Nat) (f : Bf) (m : Nat) (y0 : Nat) : (b.orFld a f m).inst y0 = b.inst y0 := rfl
@[simp] theorem Block.orFld_txRing (a : Nat) (f : Bf) (m : Nat) (y0 : Nat) : (b.orFld a f m).txRing y0 = b.txRing y0 := rfl
@[simp] theorem Block.orFld_rxRing (a : Nat) (f : Bf) (m : Nat) (y0 : Nat) : (b.orFld a f m).rxRing y0 = b.rxRing y0 := rfl
@[simp] theorem Block.orFld_pool (a : Nat) (f : Bf) (m : Nat) (y0 z0 : Nat) : (b.orFld a f m).pool y0 z0 = b.pool y0 z0 := rfl
@[simp] theorem Block.orFld_ring (a : Nat) (f : Bf) (m : Nat) (y0 : Nat) : (b.orFld a f m).ring y0 = b.ring y0 := rfl
@[simp] theorem Block.orFld_link (a : Nat) (f : Bf) (m : Nat) (y0 z0 : Nat) : (b.orFld a f m).link y0 z0 = b.link y0 z0 := rfl
@[simp] theorem Block.orFld_fifo (a : Nat) (f : Bf) (m : Nat) (y0 z0 : Nat) : (b.orFld a f m).fifo y0 z0 = b.fifo y0 z0 := rfl
@[simp] theorem Block.orFld_frozen (a : Nat) (f : Bf) (m : Nat) (y0 : Nat) : (b.orFld a f m).frozen y0 = b.frozen y0 := rfl
@[simp] theorem Block.orFld_stopped (a : Nat) (f : Bf) (m : Nat) (y0 : Nat) : (b.orFld a f m).stopped y0 = b.stopped y0 := rfl
@[simp] theorem Block.orFld_ctx (a : Nat) (f : Bf) (m : Nat) (y0 z0 : Nat) : (b.orFld a f m).ctx y0 z0 = b.ctx y0 z0 := rfl
@[simp] theorem Block.orFld_at_ (a : Nat) (f : Bf) (m : Nat) (y0 : Nat) (z0 : Loc) : (b.orFld a f m).at_ y0 z0 = b.at_ y0 z0 := rfl
@[simp] theorem Block.orFld_stgFill (a : Nat) (f : Bf) (m : Nat) (y0 : Nat) : (b.orFld a f m).stgFill y0 = b.stgFill y0 := rfl
@[simp] theorem Block.orFld_txAt (a : Nat) (f : Bf) (m : Nat) (y0 : Nat) (z0 : TxStage) : (b.orFld a f m).txAt y0 z0 = b.txAt y0 z0 := rfl

/-! ## andNotFld -/

@[simp] theorem Block.andNotFld_ctrs (a : Nat) (f : Bf) (m : Nat) : (b.andNotFld a f m).ctrs = b.ctrs := rfl
@[simp] theorem Block.andNotFld_latch (a : Nat) (f : Bf) (m : Nat) : (b.andNotFld a f m).latch = b.latch := rfl
@[simp] theorem Block.andNotFld_ticks (a : Nat) (f : Bf) (m : Nat) : (b.andNotFld a f m).ticks = b.ticks := rfl
@[simp] theorem Block.andNotFld_refLost (a : Nat) (f : Bf) (m : Nat) : (b.andNotFld a f m).refLost = b.refLost := rfl
@[simp] theorem Block.andNotFld_baseA (a : Nat) (f : Bf) (m : Nat) : (b.andNotFld a f m).baseA = b.baseA := rfl
@[simp] theorem Block.andNotFld_baseB (a : Nat) (f : Bf) (m : Nat) : (b.andNotFld a f m).baseB = b.baseB := rfl
@[simp] theorem Block.andNotFld_switchTick (a : Nat) (f : Bf) (m : Nat) : (b.andNotFld a f m).switchTick = b.switchTick := rfl
@[simp] theorem Block.andNotFld_dies (a : Nat) (f : Bf) (m : Nat) : (b.andNotFld a f m).dies = b.dies := rfl
@[simp] theorem Block.andNotFld_ports (a : Nat) (f : Bf) (m : Nat) : (b.andNotFld a f m).ports = b.ports := rfl
@[simp] theorem Block.andNotFld_clusters (a : Nat) (f : Bf) (m : Nat) : (b.andNotFld a f m).clusters = b.clusters := rfl
@[simp] theorem Block.andNotFld_regions (a : Nat) (f : Bf) (m : Nat) : (b.andNotFld a f m).regions = b.regions := rfl
@[simp] theorem Block.andNotFld_engines (a : Nat) (f : Bf) (m : Nat) : (b.andNotFld a f m).engines = b.engines := rfl
@[simp] theorem Block.andNotFld_rings (a : Nat) (f : Bf) (m : Nat) : (b.andNotFld a f m).rings = b.rings := rfl
@[simp] theorem Block.andNotFld_fifos (a : Nat) (f : Bf) (m : Nat) : (b.andNotFld a f m).fifos = b.fifos := rfl
@[simp] theorem Block.andNotFld_hostLinks (a : Nat) (f : Bf) (m : Nat) : (b.andNotFld a f m).hostLinks = b.hostLinks := rfl
@[simp] theorem Block.andNotFld_links (a : Nat) (f : Bf) (m : Nat) : (b.andNotFld a f m).links = b.links := rfl
@[simp] theorem Block.andNotFld_hbms (a : Nat) (f : Bf) (m : Nat) : (b.andNotFld a f m).hbms = b.hbms := rfl
@[simp] theorem Block.andNotFld_slow (a : Nat) (f : Bf) (m : Nat) : (b.andNotFld a f m).slow = b.slow := rfl
@[simp] theorem Block.andNotFld_txRings (a : Nat) (f : Bf) (m : Nat) : (b.andNotFld a f m).txRings = b.txRings := rfl
@[simp] theorem Block.andNotFld_rxRings (a : Nat) (f : Bf) (m : Nat) : (b.andNotFld a f m).rxRings = b.rxRings := rfl
@[simp] theorem Block.andNotFld_pools (a : Nat) (f : Bf) (m : Nat) : (b.andNotFld a f m).pools = b.pools := rfl
@[simp] theorem Block.andNotFld_ringInts (a : Nat) (f : Bf) (m : Nat) : (b.andNotFld a f m).ringInts = b.ringInts := rfl
@[simp] theorem Block.andNotFld_insts (a : Nat) (f : Bf) (m : Nat) : (b.andNotFld a f m).insts = b.insts := rfl
@[simp] theorem Block.andNotFld_vfEnable (a : Nat) (f : Bf) (m : Nat) : (b.andNotFld a f m).vfEnable = b.vfEnable := rfl
@[simp] theorem Block.andNotFld_numVfs (a : Nat) (f : Bf) (m : Nat) : (b.andNotFld a f m).numVfs = b.numVfs := rfl
@[simp] theorem Block.andNotFld_txLast (a : Nat) (f : Bf) (m : Nat) : (b.andNotFld a f m).txLast = b.txLast := rfl
@[simp] theorem Block.andNotFld_jobs (a : Nat) (f : Bf) (m : Nat) : (b.andNotFld a f m).jobs = b.jobs := rfl
@[simp] theorem Block.andNotFld_dmaEng (a : Nat) (f : Bf) (m : Nat) : (b.andNotFld a f m).dmaEng = b.dmaEng := rfl
@[simp] theorem Block.andNotFld_jobCount (a : Nat) (f : Bf) (m : Nat) : (b.andNotFld a f m).jobCount = b.jobCount := rfl
@[simp] theorem Block.andNotFld_dmaLast (a : Nat) (f : Bf) (m : Nat) : (b.andNotFld a f m).dmaLast = b.dmaLast := rfl
@[simp] theorem Block.andNotFld_frames (a : Nat) (f : Bf) (m : Nat) : (b.andNotFld a f m).frames = b.frames := rfl
@[simp] theorem Block.andNotFld_nextFrame (a : Nat) (f : Bf) (m : Nat) : (b.andNotFld a f m).nextFrame = b.nextFrame := rfl
@[simp] theorem Block.andNotFld_flt (a : Nat) (f : Bf) (m : Nat) : (b.andNotFld a f m).flt = b.flt := rfl
@[simp] theorem Block.andNotFld_inflight (a : Nat) (f : Bf) (m : Nat) : (b.andNotFld a f m).inflight = b.inflight := rfl
@[simp] theorem Block.andNotFld_lastMsg (a : Nat) (f : Bf) (m : Nat) : (b.andNotFld a f m).lastMsg = b.lastMsg := rfl
@[simp] theorem Block.andNotFld_records (a : Nat) (f : Bf) (m : Nat) : (b.andNotFld a f m).records = b.records := rfl
@[simp] theorem Block.andNotFld_locked (a : Nat) (f : Bf) (m : Nat) : (b.andNotFld a f m).locked = b.locked := rfl
@[simp] theorem Block.andNotFld_pair (a : Nat) (f : Bf) (m : Nat) : (b.andNotFld a f m).pair = b.pair := rfl
@[simp] theorem Block.andNotFld_chain (a : Nat) (f : Bf) (m : Nat) : (b.andNotFld a f m).chain = b.chain := rfl
@[simp] theorem Block.andNotFld_boot (a : Nat) (f : Bf) (m : Nat) : (b.andNotFld a f m).boot = b.boot := rfl
@[simp] theorem Block.andNotFld_pkgHold (a : Nat) (f : Bf) (m : Nat) : (b.andNotFld a f m).pkgHold = b.pkgHold := rfl
@[simp] theorem Block.andNotFld_pinLow (a : Nat) (f : Bf) (m : Nat) : (b.andNotFld a f m).pinLow = b.pinLow := rfl
@[simp] theorem Block.andNotFld_relPin (a : Nat) (f : Bf) (m : Nat) : (b.andNotFld a f m).relPin = b.relPin := rfl
@[simp] theorem Block.andNotFld_strapPins (a : Nat) (f : Bf) (m : Nat) : (b.andNotFld a f m).strapPins = b.strapPins := rfl
@[simp] theorem Block.andNotFld_fuses (a : Nat) (f : Bf) (m : Nat) : (b.andNotFld a f m).fuses = b.fuses := rfl
@[simp] theorem Block.andNotFld_faultN (a : Nat) (f : Bf) (m : Nat) : (b.andNotFld a f m).faultN = b.faultN := rfl
@[simp] theorem Block.andNotFld_snap (a : Nat) (f : Bf) (m : Nat) : (b.andNotFld a f m).snap = b.snap := rfl
@[simp] theorem Block.andNotFld_pendSnap (a : Nat) (f : Bf) (m : Nat) : (b.andNotFld a f m).pendSnap = b.pendSnap := rfl
@[simp] theorem Block.andNotFld_refusals (a : Nat) (f : Bf) (m : Nat) : (b.andNotFld a f m).refusals = b.refusals := rfl
@[simp] theorem Block.andNotFld_out (a : Nat) (f : Bf) (m : Nat) : (b.andNotFld a f m).out = b.out := rfl
@[simp] theorem Block.andNotFld_fresh (a : Nat) (f : Bf) (m : Nat) : (b.andNotFld a f m).fresh = b.fresh := rfl
@[simp] theorem Block.andNotFld_ctr (a : Nat) (f : Bf) (m : Nat) (y0 : Nat) : (b.andNotFld a f m).ctr y0 = b.ctr y0 := rfl
@[simp] theorem Block.andNotFld_die (a : Nat) (f : Bf) (m : Nat) (y0 : Nat) : (b.andNotFld a f m).die y0 = b.die y0 := rfl
@[simp] theorem Block.andNotFld_port (a : Nat) (f : Bf) (m : Nat) (y0 : Nat) : (b.andNotFld a f m).port y0 = b.port y0 := rfl
@[simp] theorem Block.andNotFld_cluster (a : Nat) (f : Bf) (m : Nat) (y0 : Nat) : (b.andNotFld a f m).cluster y0 = b.cluster y0 := rfl
@[simp] theorem Block.andNotFld_region (a : Nat) (f : Bf) (m : Nat) (y0 : Nat) : (b.andNotFld a f m).region y0 = b.region y0 := rfl
@[simp] theorem Block.andNotFld_engine (a : Nat) (f : Bf) (m : Nat) (y0 : Nat) : (b.andNotFld a f m).engine y0 = b.engine y0 := rfl
@[simp] theorem Block.andNotFld_frame (a : Nat) (f : Bf) (m : Nat) (y0 : Nat) : (b.andNotFld a f m).frame y0 = b.frame y0 := rfl
@[simp] theorem Block.andNotFld_latched (a : Nat) (f : Bf) (m : Nat) (y0 z0 : Nat) : (b.andNotFld a f m).latched y0 z0 = b.latched y0 z0 := rfl
@[simp] theorem Block.andNotFld_inst (a : Nat) (f : Bf) (m : Nat) (y0 : Nat) : (b.andNotFld a f m).inst y0 = b.inst y0 := rfl
@[simp] theorem Block.andNotFld_txRing (a : Nat) (f : Bf) (m : Nat) (y0 : Nat) : (b.andNotFld a f m).txRing y0 = b.txRing y0 := rfl
@[simp] theorem Block.andNotFld_rxRing (a : Nat) (f : Bf) (m : Nat) (y0 : Nat) : (b.andNotFld a f m).rxRing y0 = b.rxRing y0 := rfl
@[simp] theorem Block.andNotFld_pool (a : Nat) (f : Bf) (m : Nat) (y0 z0 : Nat) : (b.andNotFld a f m).pool y0 z0 = b.pool y0 z0 := rfl
@[simp] theorem Block.andNotFld_ring (a : Nat) (f : Bf) (m : Nat) (y0 : Nat) : (b.andNotFld a f m).ring y0 = b.ring y0 := rfl
@[simp] theorem Block.andNotFld_link (a : Nat) (f : Bf) (m : Nat) (y0 z0 : Nat) : (b.andNotFld a f m).link y0 z0 = b.link y0 z0 := rfl
@[simp] theorem Block.andNotFld_fifo (a : Nat) (f : Bf) (m : Nat) (y0 z0 : Nat) : (b.andNotFld a f m).fifo y0 z0 = b.fifo y0 z0 := rfl
@[simp] theorem Block.andNotFld_frozen (a : Nat) (f : Bf) (m : Nat) (y0 : Nat) : (b.andNotFld a f m).frozen y0 = b.frozen y0 := rfl
@[simp] theorem Block.andNotFld_stopped (a : Nat) (f : Bf) (m : Nat) (y0 : Nat) : (b.andNotFld a f m).stopped y0 = b.stopped y0 := rfl
@[simp] theorem Block.andNotFld_ctx (a : Nat) (f : Bf) (m : Nat) (y0 z0 : Nat) : (b.andNotFld a f m).ctx y0 z0 = b.ctx y0 z0 := rfl
@[simp] theorem Block.andNotFld_at_ (a : Nat) (f : Bf) (m : Nat) (y0 : Nat) (z0 : Loc) : (b.andNotFld a f m).at_ y0 z0 = b.at_ y0 z0 := rfl
@[simp] theorem Block.andNotFld_stgFill (a : Nat) (f : Bf) (m : Nat) (y0 : Nat) : (b.andNotFld a f m).stgFill y0 = b.stgFill y0 := rfl
@[simp] theorem Block.andNotFld_txAt (a : Nat) (f : Bf) (m : Nat) (y0 : Nat) (z0 : TxStage) : (b.andNotFld a f m).txAt y0 z0 = b.txAt y0 z0 := rfl

/-! ## setCtr -/

@[simp] theorem Block.setCtr_regs (a v : Nat) : (b.setCtr a v).regs = b.regs := rfl
@[simp] theorem Block.setCtr_latch (a v : Nat) : (b.setCtr a v).latch = b.latch := rfl
@[simp] theorem Block.setCtr_ticks (a v : Nat) : (b.setCtr a v).ticks = b.ticks := rfl
@[simp] theorem Block.setCtr_refLost (a v : Nat) : (b.setCtr a v).refLost = b.refLost := rfl
@[simp] theorem Block.setCtr_baseA (a v : Nat) : (b.setCtr a v).baseA = b.baseA := rfl
@[simp] theorem Block.setCtr_baseB (a v : Nat) : (b.setCtr a v).baseB = b.baseB := rfl
@[simp] theorem Block.setCtr_switchTick (a v : Nat) : (b.setCtr a v).switchTick = b.switchTick := rfl
@[simp] theorem Block.setCtr_dies (a v : Nat) : (b.setCtr a v).dies = b.dies := rfl
@[simp] theorem Block.setCtr_ports (a v : Nat) : (b.setCtr a v).ports = b.ports := rfl
@[simp] theorem Block.setCtr_clusters (a v : Nat) : (b.setCtr a v).clusters = b.clusters := rfl
@[simp] theorem Block.setCtr_regions (a v : Nat) : (b.setCtr a v).regions = b.regions := rfl
@[simp] theorem Block.setCtr_engines (a v : Nat) : (b.setCtr a v).engines = b.engines := rfl
@[simp] theorem Block.setCtr_rings (a v : Nat) : (b.setCtr a v).rings = b.rings := rfl
@[simp] theorem Block.setCtr_fifos (a v : Nat) : (b.setCtr a v).fifos = b.fifos := rfl
@[simp] theorem Block.setCtr_hostLinks (a v : Nat) : (b.setCtr a v).hostLinks = b.hostLinks := rfl
@[simp] theorem Block.setCtr_links (a v : Nat) : (b.setCtr a v).links = b.links := rfl
@[simp] theorem Block.setCtr_hbms (a v : Nat) : (b.setCtr a v).hbms = b.hbms := rfl
@[simp] theorem Block.setCtr_slow (a v : Nat) : (b.setCtr a v).slow = b.slow := rfl
@[simp] theorem Block.setCtr_txRings (a v : Nat) : (b.setCtr a v).txRings = b.txRings := rfl
@[simp] theorem Block.setCtr_rxRings (a v : Nat) : (b.setCtr a v).rxRings = b.rxRings := rfl
@[simp] theorem Block.setCtr_pools (a v : Nat) : (b.setCtr a v).pools = b.pools := rfl
@[simp] theorem Block.setCtr_ringInts (a v : Nat) : (b.setCtr a v).ringInts = b.ringInts := rfl
@[simp] theorem Block.setCtr_insts (a v : Nat) : (b.setCtr a v).insts = b.insts := rfl
@[simp] theorem Block.setCtr_vfEnable (a v : Nat) : (b.setCtr a v).vfEnable = b.vfEnable := rfl
@[simp] theorem Block.setCtr_numVfs (a v : Nat) : (b.setCtr a v).numVfs = b.numVfs := rfl
@[simp] theorem Block.setCtr_txLast (a v : Nat) : (b.setCtr a v).txLast = b.txLast := rfl
@[simp] theorem Block.setCtr_jobs (a v : Nat) : (b.setCtr a v).jobs = b.jobs := rfl
@[simp] theorem Block.setCtr_dmaEng (a v : Nat) : (b.setCtr a v).dmaEng = b.dmaEng := rfl
@[simp] theorem Block.setCtr_jobCount (a v : Nat) : (b.setCtr a v).jobCount = b.jobCount := rfl
@[simp] theorem Block.setCtr_dmaLast (a v : Nat) : (b.setCtr a v).dmaLast = b.dmaLast := rfl
@[simp] theorem Block.setCtr_frames (a v : Nat) : (b.setCtr a v).frames = b.frames := rfl
@[simp] theorem Block.setCtr_nextFrame (a v : Nat) : (b.setCtr a v).nextFrame = b.nextFrame := rfl
@[simp] theorem Block.setCtr_flt (a v : Nat) : (b.setCtr a v).flt = b.flt := rfl
@[simp] theorem Block.setCtr_inflight (a v : Nat) : (b.setCtr a v).inflight = b.inflight := rfl
@[simp] theorem Block.setCtr_lastMsg (a v : Nat) : (b.setCtr a v).lastMsg = b.lastMsg := rfl
@[simp] theorem Block.setCtr_records (a v : Nat) : (b.setCtr a v).records = b.records := rfl
@[simp] theorem Block.setCtr_locked (a v : Nat) : (b.setCtr a v).locked = b.locked := rfl
@[simp] theorem Block.setCtr_pair (a v : Nat) : (b.setCtr a v).pair = b.pair := rfl
@[simp] theorem Block.setCtr_chain (a v : Nat) : (b.setCtr a v).chain = b.chain := rfl
@[simp] theorem Block.setCtr_boot (a v : Nat) : (b.setCtr a v).boot = b.boot := rfl
@[simp] theorem Block.setCtr_pkgHold (a v : Nat) : (b.setCtr a v).pkgHold = b.pkgHold := rfl
@[simp] theorem Block.setCtr_pinLow (a v : Nat) : (b.setCtr a v).pinLow = b.pinLow := rfl
@[simp] theorem Block.setCtr_relPin (a v : Nat) : (b.setCtr a v).relPin = b.relPin := rfl
@[simp] theorem Block.setCtr_strapPins (a v : Nat) : (b.setCtr a v).strapPins = b.strapPins := rfl
@[simp] theorem Block.setCtr_fuses (a v : Nat) : (b.setCtr a v).fuses = b.fuses := rfl
@[simp] theorem Block.setCtr_faultN (a v : Nat) : (b.setCtr a v).faultN = b.faultN := rfl
@[simp] theorem Block.setCtr_snap (a v : Nat) : (b.setCtr a v).snap = b.snap := rfl
@[simp] theorem Block.setCtr_pendSnap (a v : Nat) : (b.setCtr a v).pendSnap = b.pendSnap := rfl
@[simp] theorem Block.setCtr_refusals (a v : Nat) : (b.setCtr a v).refusals = b.refusals := rfl
@[simp] theorem Block.setCtr_out (a v : Nat) : (b.setCtr a v).out = b.out := rfl
@[simp] theorem Block.setCtr_fresh (a v : Nat) : (b.setCtr a v).fresh = b.fresh := rfl
@[simp] theorem Block.setCtr_word (a v : Nat) (y0 : Nat) : (b.setCtr a v).word y0 = b.word y0 := rfl
@[simp] theorem Block.setCtr_fld (a v : Nat) (y0 : Nat) (z0 : Bf) : (b.setCtr a v).fld y0 z0 = b.fld y0 z0 := rfl
@[simp] theorem Block.setCtr_flag (a v : Nat) (y0 : Nat) (z0 : Bf) : (b.setCtr a v).flag y0 z0 = b.flag y0 z0 := rfl
@[simp] theorem Block.setCtr_die (a v : Nat) (y0 : Nat) : (b.setCtr a v).die y0 = b.die y0 := rfl
@[simp] theorem Block.setCtr_port (a v : Nat) (y0 : Nat) : (b.setCtr a v).port y0 = b.port y0 := rfl
@[simp] theorem Block.setCtr_cluster (a v : Nat) (y0 : Nat) : (b.setCtr a v).cluster y0 = b.cluster y0 := rfl
@[simp] theorem Block.setCtr_region (a v : Nat) (y0 : Nat) : (b.setCtr a v).region y0 = b.region y0 := rfl
@[simp] theorem Block.setCtr_engine (a v : Nat) (y0 : Nat) : (b.setCtr a v).engine y0 = b.engine y0 := rfl
@[simp] theorem Block.setCtr_frame (a v : Nat) (y0 : Nat) : (b.setCtr a v).frame y0 = b.frame y0 := rfl
@[simp] theorem Block.setCtr_latched (a v : Nat) (y0 z0 : Nat) : (b.setCtr a v).latched y0 z0 = b.latched y0 z0 := rfl
@[simp] theorem Block.setCtr_inst (a v : Nat) (y0 : Nat) : (b.setCtr a v).inst y0 = b.inst y0 := rfl
@[simp] theorem Block.setCtr_txRing (a v : Nat) (y0 : Nat) : (b.setCtr a v).txRing y0 = b.txRing y0 := rfl
@[simp] theorem Block.setCtr_rxRing (a v : Nat) (y0 : Nat) : (b.setCtr a v).rxRing y0 = b.rxRing y0 := rfl
@[simp] theorem Block.setCtr_pool (a v : Nat) (y0 z0 : Nat) : (b.setCtr a v).pool y0 z0 = b.pool y0 z0 := rfl
@[simp] theorem Block.setCtr_ring (a v : Nat) (y0 : Nat) : (b.setCtr a v).ring y0 = b.ring y0 := rfl
@[simp] theorem Block.setCtr_link (a v : Nat) (y0 z0 : Nat) : (b.setCtr a v).link y0 z0 = b.link y0 z0 := rfl
@[simp] theorem Block.setCtr_fifo (a v : Nat) (y0 z0 : Nat) : (b.setCtr a v).fifo y0 z0 = b.fifo y0 z0 := rfl
@[simp] theorem Block.setCtr_frozen (a v : Nat) (y0 : Nat) : (b.setCtr a v).frozen y0 = b.frozen y0 := rfl
@[simp] theorem Block.setCtr_stopped (a v : Nat) (y0 : Nat) : (b.setCtr a v).stopped y0 = b.stopped y0 := rfl
@[simp] theorem Block.setCtr_ctx (a v : Nat) (y0 z0 : Nat) : (b.setCtr a v).ctx y0 z0 = b.ctx y0 z0 := rfl
@[simp] theorem Block.setCtr_at_ (a v : Nat) (y0 : Nat) (z0 : Loc) : (b.setCtr a v).at_ y0 z0 = b.at_ y0 z0 := rfl
@[simp] theorem Block.setCtr_stgFill (a v : Nat) (y0 : Nat) : (b.setCtr a v).stgFill y0 = b.stgFill y0 := rfl
@[simp] theorem Block.setCtr_txAt (a v : Nat) (y0 : Nat) (z0 : TxStage) : (b.setCtr a v).txAt y0 z0 = b.txAt y0 z0 := rfl

/-! ## modDie -/

@[simp] theorem Block.modDie_regs (d : Nat) (f : Die → Die) : (b.modDie d f).regs = b.regs := rfl
@[simp] theorem Block.modDie_ctrs (d : Nat) (f : Die → Die) : (b.modDie d f).ctrs = b.ctrs := rfl
@[simp] theorem Block.modDie_latch (d : Nat) (f : Die → Die) : (b.modDie d f).latch = b.latch := rfl
@[simp] theorem Block.modDie_ticks (d : Nat) (f : Die → Die) : (b.modDie d f).ticks = b.ticks := rfl
@[simp] theorem Block.modDie_refLost (d : Nat) (f : Die → Die) : (b.modDie d f).refLost = b.refLost := rfl
@[simp] theorem Block.modDie_baseA (d : Nat) (f : Die → Die) : (b.modDie d f).baseA = b.baseA := rfl
@[simp] theorem Block.modDie_baseB (d : Nat) (f : Die → Die) : (b.modDie d f).baseB = b.baseB := rfl
@[simp] theorem Block.modDie_switchTick (d : Nat) (f : Die → Die) : (b.modDie d f).switchTick = b.switchTick := rfl
@[simp] theorem Block.modDie_ports (d : Nat) (f : Die → Die) : (b.modDie d f).ports = b.ports := rfl
@[simp] theorem Block.modDie_clusters (d : Nat) (f : Die → Die) : (b.modDie d f).clusters = b.clusters := rfl
@[simp] theorem Block.modDie_regions (d : Nat) (f : Die → Die) : (b.modDie d f).regions = b.regions := rfl
@[simp] theorem Block.modDie_engines (d : Nat) (f : Die → Die) : (b.modDie d f).engines = b.engines := rfl
@[simp] theorem Block.modDie_rings (d : Nat) (f : Die → Die) : (b.modDie d f).rings = b.rings := rfl
@[simp] theorem Block.modDie_fifos (d : Nat) (f : Die → Die) : (b.modDie d f).fifos = b.fifos := rfl
@[simp] theorem Block.modDie_hostLinks (d : Nat) (f : Die → Die) : (b.modDie d f).hostLinks = b.hostLinks := rfl
@[simp] theorem Block.modDie_links (d : Nat) (f : Die → Die) : (b.modDie d f).links = b.links := rfl
@[simp] theorem Block.modDie_hbms (d : Nat) (f : Die → Die) : (b.modDie d f).hbms = b.hbms := rfl
@[simp] theorem Block.modDie_slow (d : Nat) (f : Die → Die) : (b.modDie d f).slow = b.slow := rfl
@[simp] theorem Block.modDie_txRings (d : Nat) (f : Die → Die) : (b.modDie d f).txRings = b.txRings := rfl
@[simp] theorem Block.modDie_rxRings (d : Nat) (f : Die → Die) : (b.modDie d f).rxRings = b.rxRings := rfl
@[simp] theorem Block.modDie_pools (d : Nat) (f : Die → Die) : (b.modDie d f).pools = b.pools := rfl
@[simp] theorem Block.modDie_ringInts (d : Nat) (f : Die → Die) : (b.modDie d f).ringInts = b.ringInts := rfl
@[simp] theorem Block.modDie_insts (d : Nat) (f : Die → Die) : (b.modDie d f).insts = b.insts := rfl
@[simp] theorem Block.modDie_vfEnable (d : Nat) (f : Die → Die) : (b.modDie d f).vfEnable = b.vfEnable := rfl
@[simp] theorem Block.modDie_numVfs (d : Nat) (f : Die → Die) : (b.modDie d f).numVfs = b.numVfs := rfl
@[simp] theorem Block.modDie_txLast (d : Nat) (f : Die → Die) : (b.modDie d f).txLast = b.txLast := rfl
@[simp] theorem Block.modDie_jobs (d : Nat) (f : Die → Die) : (b.modDie d f).jobs = b.jobs := rfl
@[simp] theorem Block.modDie_dmaEng (d : Nat) (f : Die → Die) : (b.modDie d f).dmaEng = b.dmaEng := rfl
@[simp] theorem Block.modDie_jobCount (d : Nat) (f : Die → Die) : (b.modDie d f).jobCount = b.jobCount := rfl
@[simp] theorem Block.modDie_dmaLast (d : Nat) (f : Die → Die) : (b.modDie d f).dmaLast = b.dmaLast := rfl
@[simp] theorem Block.modDie_frames (d : Nat) (f : Die → Die) : (b.modDie d f).frames = b.frames := rfl
@[simp] theorem Block.modDie_nextFrame (d : Nat) (f : Die → Die) : (b.modDie d f).nextFrame = b.nextFrame := rfl
@[simp] theorem Block.modDie_flt (d : Nat) (f : Die → Die) : (b.modDie d f).flt = b.flt := rfl
@[simp] theorem Block.modDie_inflight (d : Nat) (f : Die → Die) : (b.modDie d f).inflight = b.inflight := rfl
@[simp] theorem Block.modDie_lastMsg (d : Nat) (f : Die → Die) : (b.modDie d f).lastMsg = b.lastMsg := rfl
@[simp] theorem Block.modDie_records (d : Nat) (f : Die → Die) : (b.modDie d f).records = b.records := rfl
@[simp] theorem Block.modDie_locked (d : Nat) (f : Die → Die) : (b.modDie d f).locked = b.locked := rfl
@[simp] theorem Block.modDie_pair (d : Nat) (f : Die → Die) : (b.modDie d f).pair = b.pair := rfl
@[simp] theorem Block.modDie_chain (d : Nat) (f : Die → Die) : (b.modDie d f).chain = b.chain := rfl
@[simp] theorem Block.modDie_boot (d : Nat) (f : Die → Die) : (b.modDie d f).boot = b.boot := rfl
@[simp] theorem Block.modDie_pkgHold (d : Nat) (f : Die → Die) : (b.modDie d f).pkgHold = b.pkgHold := rfl
@[simp] theorem Block.modDie_pinLow (d : Nat) (f : Die → Die) : (b.modDie d f).pinLow = b.pinLow := rfl
@[simp] theorem Block.modDie_relPin (d : Nat) (f : Die → Die) : (b.modDie d f).relPin = b.relPin := rfl
@[simp] theorem Block.modDie_strapPins (d : Nat) (f : Die → Die) : (b.modDie d f).strapPins = b.strapPins := rfl
@[simp] theorem Block.modDie_fuses (d : Nat) (f : Die → Die) : (b.modDie d f).fuses = b.fuses := rfl
@[simp] theorem Block.modDie_faultN (d : Nat) (f : Die → Die) : (b.modDie d f).faultN = b.faultN := rfl
@[simp] theorem Block.modDie_snap (d : Nat) (f : Die → Die) : (b.modDie d f).snap = b.snap := rfl
@[simp] theorem Block.modDie_pendSnap (d : Nat) (f : Die → Die) : (b.modDie d f).pendSnap = b.pendSnap := rfl
@[simp] theorem Block.modDie_refusals (d : Nat) (f : Die → Die) : (b.modDie d f).refusals = b.refusals := rfl
@[simp] theorem Block.modDie_out (d : Nat) (f : Die → Die) : (b.modDie d f).out = b.out := rfl
@[simp] theorem Block.modDie_fresh (d : Nat) (f : Die → Die) : (b.modDie d f).fresh = b.fresh := rfl
@[simp] theorem Block.modDie_word (d : Nat) (f : Die → Die) (y0 : Nat) : (b.modDie d f).word y0 = b.word y0 := rfl
@[simp] theorem Block.modDie_fld (d : Nat) (f : Die → Die) (y0 : Nat) (z0 : Bf) : (b.modDie d f).fld y0 z0 = b.fld y0 z0 := rfl
@[simp] theorem Block.modDie_flag (d : Nat) (f : Die → Die) (y0 : Nat) (z0 : Bf) : (b.modDie d f).flag y0 z0 = b.flag y0 z0 := rfl
@[simp] theorem Block.modDie_ctr (d : Nat) (f : Die → Die) (y0 : Nat) : (b.modDie d f).ctr y0 = b.ctr y0 := rfl
@[simp] theorem Block.modDie_port (d : Nat) (f : Die → Die) (y0 : Nat) : (b.modDie d f).port y0 = b.port y0 := rfl
@[simp] theorem Block.modDie_cluster (d : Nat) (f : Die → Die) (y0 : Nat) : (b.modDie d f).cluster y0 = b.cluster y0 := rfl
@[simp] theorem Block.modDie_region (d : Nat) (f : Die → Die) (y0 : Nat) : (b.modDie d f).region y0 = b.region y0 := rfl
@[simp] theorem Block.modDie_engine (d : Nat) (f : Die → Die) (y0 : Nat) : (b.modDie d f).engine y0 = b.engine y0 := rfl
@[simp] theorem Block.modDie_frame (d : Nat) (f : Die → Die) (y0 : Nat) : (b.modDie d f).frame y0 = b.frame y0 := rfl
@[simp] theorem Block.modDie_latched (d : Nat) (f : Die → Die) (y0 z0 : Nat) : (b.modDie d f).latched y0 z0 = b.latched y0 z0 := rfl
@[simp] theorem Block.modDie_inst (d : Nat) (f : Die → Die) (y0 : Nat) : (b.modDie d f).inst y0 = b.inst y0 := rfl
@[simp] theorem Block.modDie_txRing (d : Nat) (f : Die → Die) (y0 : Nat) : (b.modDie d f).txRing y0 = b.txRing y0 := rfl
@[simp] theorem Block.modDie_rxRing (d : Nat) (f : Die → Die) (y0 : Nat) : (b.modDie d f).rxRing y0 = b.rxRing y0 := rfl
@[simp] theorem Block.modDie_pool (d : Nat) (f : Die → Die) (y0 z0 : Nat) : (b.modDie d f).pool y0 z0 = b.pool y0 z0 := rfl
@[simp] theorem Block.modDie_ring (d : Nat) (f : Die → Die) (y0 : Nat) : (b.modDie d f).ring y0 = b.ring y0 := rfl
@[simp] theorem Block.modDie_link (d : Nat) (f : Die → Die) (y0 z0 : Nat) : (b.modDie d f).link y0 z0 = b.link y0 z0 := rfl
@[simp] theorem Block.modDie_fifo (d : Nat) (f : Die → Die) (y0 z0 : Nat) : (b.modDie d f).fifo y0 z0 = b.fifo y0 z0 := rfl
@[simp] theorem Block.modDie_ctx (d : Nat) (f : Die → Die) (y0 z0 : Nat) : (b.modDie d f).ctx y0 z0 = b.ctx y0 z0 := rfl
@[simp] theorem Block.modDie_at_ (d : Nat) (f : Die → Die) (y0 : Nat) (z0 : Loc) : (b.modDie d f).at_ y0 z0 = b.at_ y0 z0 := rfl
@[simp] theorem Block.modDie_stgFill (d : Nat) (f : Die → Die) (y0 : Nat) : (b.modDie d f).stgFill y0 = b.stgFill y0 := rfl
@[simp] theorem Block.modDie_txAt (d : Nat) (f : Die → Die) (y0 : Nat) (z0 : TxStage) : (b.modDie d f).txAt y0 z0 = b.txAt y0 z0 := rfl

/-! ## modPort -/

@[simp] theorem Block.modPort_regs (p : Nat) (f : Port → Port) : (b.modPort p f).regs = b.regs := rfl
@[simp] theorem Block.modPort_ctrs (p : Nat) (f : Port → Port) : (b.modPort p f).ctrs = b.ctrs := rfl
@[simp] theorem Block.modPort_latch (p : Nat) (f : Port → Port) : (b.modPort p f).latch = b.latch := rfl
@[simp] theorem Block.modPort_ticks (p : Nat) (f : Port → Port) : (b.modPort p f).ticks = b.ticks := rfl
@[simp] theorem Block.modPort_refLost (p : Nat) (f : Port → Port) : (b.modPort p f).refLost = b.refLost := rfl
@[simp] theorem Block.modPort_baseA (p : Nat) (f : Port → Port) : (b.modPort p f).baseA = b.baseA := rfl
@[simp] theorem Block.modPort_baseB (p : Nat) (f : Port → Port) : (b.modPort p f).baseB = b.baseB := rfl
@[simp] theorem Block.modPort_switchTick (p : Nat) (f : Port → Port) : (b.modPort p f).switchTick = b.switchTick := rfl
@[simp] theorem Block.modPort_dies (p : Nat) (f : Port → Port) : (b.modPort p f).dies = b.dies := rfl
@[simp] theorem Block.modPort_clusters (p : Nat) (f : Port → Port) : (b.modPort p f).clusters = b.clusters := rfl
@[simp] theorem Block.modPort_regions (p : Nat) (f : Port → Port) : (b.modPort p f).regions = b.regions := rfl
@[simp] theorem Block.modPort_engines (p : Nat) (f : Port → Port) : (b.modPort p f).engines = b.engines := rfl
@[simp] theorem Block.modPort_rings (p : Nat) (f : Port → Port) : (b.modPort p f).rings = b.rings := rfl
@[simp] theorem Block.modPort_fifos (p : Nat) (f : Port → Port) : (b.modPort p f).fifos = b.fifos := rfl
@[simp] theorem Block.modPort_hostLinks (p : Nat) (f : Port → Port) : (b.modPort p f).hostLinks = b.hostLinks := rfl
@[simp] theorem Block.modPort_links (p : Nat) (f : Port → Port) : (b.modPort p f).links = b.links := rfl
@[simp] theorem Block.modPort_hbms (p : Nat) (f : Port → Port) : (b.modPort p f).hbms = b.hbms := rfl
@[simp] theorem Block.modPort_slow (p : Nat) (f : Port → Port) : (b.modPort p f).slow = b.slow := rfl
@[simp] theorem Block.modPort_txRings (p : Nat) (f : Port → Port) : (b.modPort p f).txRings = b.txRings := rfl
@[simp] theorem Block.modPort_rxRings (p : Nat) (f : Port → Port) : (b.modPort p f).rxRings = b.rxRings := rfl
@[simp] theorem Block.modPort_pools (p : Nat) (f : Port → Port) : (b.modPort p f).pools = b.pools := rfl
@[simp] theorem Block.modPort_ringInts (p : Nat) (f : Port → Port) : (b.modPort p f).ringInts = b.ringInts := rfl
@[simp] theorem Block.modPort_insts (p : Nat) (f : Port → Port) : (b.modPort p f).insts = b.insts := rfl
@[simp] theorem Block.modPort_vfEnable (p : Nat) (f : Port → Port) : (b.modPort p f).vfEnable = b.vfEnable := rfl
@[simp] theorem Block.modPort_numVfs (p : Nat) (f : Port → Port) : (b.modPort p f).numVfs = b.numVfs := rfl
@[simp] theorem Block.modPort_txLast (p : Nat) (f : Port → Port) : (b.modPort p f).txLast = b.txLast := rfl
@[simp] theorem Block.modPort_jobs (p : Nat) (f : Port → Port) : (b.modPort p f).jobs = b.jobs := rfl
@[simp] theorem Block.modPort_dmaEng (p : Nat) (f : Port → Port) : (b.modPort p f).dmaEng = b.dmaEng := rfl
@[simp] theorem Block.modPort_jobCount (p : Nat) (f : Port → Port) : (b.modPort p f).jobCount = b.jobCount := rfl
@[simp] theorem Block.modPort_dmaLast (p : Nat) (f : Port → Port) : (b.modPort p f).dmaLast = b.dmaLast := rfl
@[simp] theorem Block.modPort_frames (p : Nat) (f : Port → Port) : (b.modPort p f).frames = b.frames := rfl
@[simp] theorem Block.modPort_nextFrame (p : Nat) (f : Port → Port) : (b.modPort p f).nextFrame = b.nextFrame := rfl
@[simp] theorem Block.modPort_flt (p : Nat) (f : Port → Port) : (b.modPort p f).flt = b.flt := rfl
@[simp] theorem Block.modPort_inflight (p : Nat) (f : Port → Port) : (b.modPort p f).inflight = b.inflight := rfl
@[simp] theorem Block.modPort_lastMsg (p : Nat) (f : Port → Port) : (b.modPort p f).lastMsg = b.lastMsg := rfl
@[simp] theorem Block.modPort_records (p : Nat) (f : Port → Port) : (b.modPort p f).records = b.records := rfl
@[simp] theorem Block.modPort_locked (p : Nat) (f : Port → Port) : (b.modPort p f).locked = b.locked := rfl
@[simp] theorem Block.modPort_pair (p : Nat) (f : Port → Port) : (b.modPort p f).pair = b.pair := rfl
@[simp] theorem Block.modPort_chain (p : Nat) (f : Port → Port) : (b.modPort p f).chain = b.chain := rfl
@[simp] theorem Block.modPort_boot (p : Nat) (f : Port → Port) : (b.modPort p f).boot = b.boot := rfl
@[simp] theorem Block.modPort_pkgHold (p : Nat) (f : Port → Port) : (b.modPort p f).pkgHold = b.pkgHold := rfl
@[simp] theorem Block.modPort_pinLow (p : Nat) (f : Port → Port) : (b.modPort p f).pinLow = b.pinLow := rfl
@[simp] theorem Block.modPort_relPin (p : Nat) (f : Port → Port) : (b.modPort p f).relPin = b.relPin := rfl
@[simp] theorem Block.modPort_strapPins (p : Nat) (f : Port → Port) : (b.modPort p f).strapPins = b.strapPins := rfl
@[simp] theorem Block.modPort_fuses (p : Nat) (f : Port → Port) : (b.modPort p f).fuses = b.fuses := rfl
@[simp] theorem Block.modPort_faultN (p : Nat) (f : Port → Port) : (b.modPort p f).faultN = b.faultN := rfl
@[simp] theorem Block.modPort_snap (p : Nat) (f : Port → Port) : (b.modPort p f).snap = b.snap := rfl
@[simp] theorem Block.modPort_pendSnap (p : Nat) (f : Port → Port) : (b.modPort p f).pendSnap = b.pendSnap := rfl
@[simp] theorem Block.modPort_refusals (p : Nat) (f : Port → Port) : (b.modPort p f).refusals = b.refusals := rfl
@[simp] theorem Block.modPort_out (p : Nat) (f : Port → Port) : (b.modPort p f).out = b.out := rfl
@[simp] theorem Block.modPort_fresh (p : Nat) (f : Port → Port) : (b.modPort p f).fresh = b.fresh := rfl
@[simp] theorem Block.modPort_word (p : Nat) (f : Port → Port) (y0 : Nat) : (b.modPort p f).word y0 = b.word y0 := rfl
@[simp] theorem Block.modPort_fld (p : Nat) (f : Port → Port) (y0 : Nat) (z0 : Bf) : (b.modPort p f).fld y0 z0 = b.fld y0 z0 := rfl
@[simp] theorem Block.modPort_flag (p : Nat) (f : Port → Port) (y0 : Nat) (z0 : Bf) : (b.modPort p f).flag y0 z0 = b.flag y0 z0 := rfl
@[simp] theorem Block.modPort_ctr (p : Nat) (f : Port → Port) (y0 : Nat) : (b.modPort p f).ctr y0 = b.ctr y0 := rfl
@[simp] theorem Block.modPort_die (p : Nat) (f : Port → Port) (y0 : Nat) : (b.modPort p f).die y0 = b.die y0 := rfl
@[simp] theorem Block.modPort_cluster (p : Nat) (f : Port → Port) (y0 : Nat) : (b.modPort p f).cluster y0 = b.cluster y0 := rfl
@[simp] theorem Block.modPort_region (p : Nat) (f : Port → Port) (y0 : Nat) : (b.modPort p f).region y0 = b.region y0 := rfl
@[simp] theorem Block.modPort_engine (p : Nat) (f : Port → Port) (y0 : Nat) : (b.modPort p f).engine y0 = b.engine y0 := rfl
@[simp] theorem Block.modPort_frame (p : Nat) (f : Port → Port) (y0 : Nat) : (b.modPort p f).frame y0 = b.frame y0 := rfl
@[simp] theorem Block.modPort_latched (p : Nat) (f : Port → Port) (y0 z0 : Nat) : (b.modPort p f).latched y0 z0 = b.latched y0 z0 := rfl
@[simp] theorem Block.modPort_inst (p : Nat) (f : Port → Port) (y0 : Nat) : (b.modPort p f).inst y0 = b.inst y0 := rfl
@[simp] theorem Block.modPort_txRing (p : Nat) (f : Port → Port) (y0 : Nat) : (b.modPort p f).txRing y0 = b.txRing y0 := rfl
@[simp] theorem Block.modPort_rxRing (p : Nat) (f : Port → Port) (y0 : Nat) : (b.modPort p f).rxRing y0 = b.rxRing y0 := rfl
@[simp] theorem Block.modPort_pool (p : Nat) (f : Port → Port) (y0 z0 : Nat) : (b.modPort p f).pool y0 z0 = b.pool y0 z0 := rfl
@[simp] theorem Block.modPort_ring (p : Nat) (f : Port → Port) (y0 : Nat) : (b.modPort p f).ring y0 = b.ring y0 := rfl
@[simp] theorem Block.modPort_link (p : Nat) (f : Port → Port) (y0 z0 : Nat) : (b.modPort p f).link y0 z0 = b.link y0 z0 := rfl
@[simp] theorem Block.modPort_fifo (p : Nat) (f : Port → Port) (y0 z0 : Nat) : (b.modPort p f).fifo y0 z0 = b.fifo y0 z0 := rfl
@[simp] theorem Block.modPort_frozen (p : Nat) (f : Port → Port) (y0 : Nat) : (b.modPort p f).frozen y0 = b.frozen y0 := rfl
@[simp] theorem Block.modPort_stopped (p : Nat) (f : Port → Port) (y0 : Nat) : (b.modPort p f).stopped y0 = b.stopped y0 := rfl
@[simp] theorem Block.modPort_ctx (p : Nat) (f : Port → Port) (y0 z0 : Nat) : (b.modPort p f).ctx y0 z0 = b.ctx y0 z0 := rfl
@[simp] theorem Block.modPort_at_ (p : Nat) (f : Port → Port) (y0 : Nat) (z0 : Loc) : (b.modPort p f).at_ y0 z0 = b.at_ y0 z0 := rfl
@[simp] theorem Block.modPort_stgFill (p : Nat) (f : Port → Port) (y0 : Nat) : (b.modPort p f).stgFill y0 = b.stgFill y0 := rfl

/-! ## modCluster -/

@[simp] theorem Block.modCluster_regs (C : Nat) (f : Cluster → Cluster) : (b.modCluster C f).regs = b.regs := rfl
@[simp] theorem Block.modCluster_ctrs (C : Nat) (f : Cluster → Cluster) : (b.modCluster C f).ctrs = b.ctrs := rfl
@[simp] theorem Block.modCluster_latch (C : Nat) (f : Cluster → Cluster) : (b.modCluster C f).latch = b.latch := rfl
@[simp] theorem Block.modCluster_ticks (C : Nat) (f : Cluster → Cluster) : (b.modCluster C f).ticks = b.ticks := rfl
@[simp] theorem Block.modCluster_refLost (C : Nat) (f : Cluster → Cluster) : (b.modCluster C f).refLost = b.refLost := rfl
@[simp] theorem Block.modCluster_baseA (C : Nat) (f : Cluster → Cluster) : (b.modCluster C f).baseA = b.baseA := rfl
@[simp] theorem Block.modCluster_baseB (C : Nat) (f : Cluster → Cluster) : (b.modCluster C f).baseB = b.baseB := rfl
@[simp] theorem Block.modCluster_switchTick (C : Nat) (f : Cluster → Cluster) : (b.modCluster C f).switchTick = b.switchTick := rfl
@[simp] theorem Block.modCluster_dies (C : Nat) (f : Cluster → Cluster) : (b.modCluster C f).dies = b.dies := rfl
@[simp] theorem Block.modCluster_ports (C : Nat) (f : Cluster → Cluster) : (b.modCluster C f).ports = b.ports := rfl
@[simp] theorem Block.modCluster_regions (C : Nat) (f : Cluster → Cluster) : (b.modCluster C f).regions = b.regions := rfl
@[simp] theorem Block.modCluster_engines (C : Nat) (f : Cluster → Cluster) : (b.modCluster C f).engines = b.engines := rfl
@[simp] theorem Block.modCluster_rings (C : Nat) (f : Cluster → Cluster) : (b.modCluster C f).rings = b.rings := rfl
@[simp] theorem Block.modCluster_fifos (C : Nat) (f : Cluster → Cluster) : (b.modCluster C f).fifos = b.fifos := rfl
@[simp] theorem Block.modCluster_hostLinks (C : Nat) (f : Cluster → Cluster) : (b.modCluster C f).hostLinks = b.hostLinks := rfl
@[simp] theorem Block.modCluster_links (C : Nat) (f : Cluster → Cluster) : (b.modCluster C f).links = b.links := rfl
@[simp] theorem Block.modCluster_hbms (C : Nat) (f : Cluster → Cluster) : (b.modCluster C f).hbms = b.hbms := rfl
@[simp] theorem Block.modCluster_slow (C : Nat) (f : Cluster → Cluster) : (b.modCluster C f).slow = b.slow := rfl
@[simp] theorem Block.modCluster_txRings (C : Nat) (f : Cluster → Cluster) : (b.modCluster C f).txRings = b.txRings := rfl
@[simp] theorem Block.modCluster_rxRings (C : Nat) (f : Cluster → Cluster) : (b.modCluster C f).rxRings = b.rxRings := rfl
@[simp] theorem Block.modCluster_pools (C : Nat) (f : Cluster → Cluster) : (b.modCluster C f).pools = b.pools := rfl
@[simp] theorem Block.modCluster_ringInts (C : Nat) (f : Cluster → Cluster) : (b.modCluster C f).ringInts = b.ringInts := rfl
@[simp] theorem Block.modCluster_insts (C : Nat) (f : Cluster → Cluster) : (b.modCluster C f).insts = b.insts := rfl
@[simp] theorem Block.modCluster_vfEnable (C : Nat) (f : Cluster → Cluster) : (b.modCluster C f).vfEnable = b.vfEnable := rfl
@[simp] theorem Block.modCluster_numVfs (C : Nat) (f : Cluster → Cluster) : (b.modCluster C f).numVfs = b.numVfs := rfl
@[simp] theorem Block.modCluster_txLast (C : Nat) (f : Cluster → Cluster) : (b.modCluster C f).txLast = b.txLast := rfl
@[simp] theorem Block.modCluster_jobs (C : Nat) (f : Cluster → Cluster) : (b.modCluster C f).jobs = b.jobs := rfl
@[simp] theorem Block.modCluster_dmaEng (C : Nat) (f : Cluster → Cluster) : (b.modCluster C f).dmaEng = b.dmaEng := rfl
@[simp] theorem Block.modCluster_jobCount (C : Nat) (f : Cluster → Cluster) : (b.modCluster C f).jobCount = b.jobCount := rfl
@[simp] theorem Block.modCluster_dmaLast (C : Nat) (f : Cluster → Cluster) : (b.modCluster C f).dmaLast = b.dmaLast := rfl
@[simp] theorem Block.modCluster_frames (C : Nat) (f : Cluster → Cluster) : (b.modCluster C f).frames = b.frames := rfl
@[simp] theorem Block.modCluster_nextFrame (C : Nat) (f : Cluster → Cluster) : (b.modCluster C f).nextFrame = b.nextFrame := rfl
@[simp] theorem Block.modCluster_flt (C : Nat) (f : Cluster → Cluster) : (b.modCluster C f).flt = b.flt := rfl
@[simp] theorem Block.modCluster_inflight (C : Nat) (f : Cluster → Cluster) : (b.modCluster C f).inflight = b.inflight := rfl
@[simp] theorem Block.modCluster_lastMsg (C : Nat) (f : Cluster → Cluster) : (b.modCluster C f).lastMsg = b.lastMsg := rfl
@[simp] theorem Block.modCluster_records (C : Nat) (f : Cluster → Cluster) : (b.modCluster C f).records = b.records := rfl
@[simp] theorem Block.modCluster_locked (C : Nat) (f : Cluster → Cluster) : (b.modCluster C f).locked = b.locked := rfl
@[simp] theorem Block.modCluster_pair (C : Nat) (f : Cluster → Cluster) : (b.modCluster C f).pair = b.pair := rfl
@[simp] theorem Block.modCluster_chain (C : Nat) (f : Cluster → Cluster) : (b.modCluster C f).chain = b.chain := rfl
@[simp] theorem Block.modCluster_boot (C : Nat) (f : Cluster → Cluster) : (b.modCluster C f).boot = b.boot := rfl
@[simp] theorem Block.modCluster_pkgHold (C : Nat) (f : Cluster → Cluster) : (b.modCluster C f).pkgHold = b.pkgHold := rfl
@[simp] theorem Block.modCluster_pinLow (C : Nat) (f : Cluster → Cluster) : (b.modCluster C f).pinLow = b.pinLow := rfl
@[simp] theorem Block.modCluster_relPin (C : Nat) (f : Cluster → Cluster) : (b.modCluster C f).relPin = b.relPin := rfl
@[simp] theorem Block.modCluster_strapPins (C : Nat) (f : Cluster → Cluster) : (b.modCluster C f).strapPins = b.strapPins := rfl
@[simp] theorem Block.modCluster_fuses (C : Nat) (f : Cluster → Cluster) : (b.modCluster C f).fuses = b.fuses := rfl
@[simp] theorem Block.modCluster_faultN (C : Nat) (f : Cluster → Cluster) : (b.modCluster C f).faultN = b.faultN := rfl
@[simp] theorem Block.modCluster_snap (C : Nat) (f : Cluster → Cluster) : (b.modCluster C f).snap = b.snap := rfl
@[simp] theorem Block.modCluster_pendSnap (C : Nat) (f : Cluster → Cluster) : (b.modCluster C f).pendSnap = b.pendSnap := rfl
@[simp] theorem Block.modCluster_refusals (C : Nat) (f : Cluster → Cluster) : (b.modCluster C f).refusals = b.refusals := rfl
@[simp] theorem Block.modCluster_out (C : Nat) (f : Cluster → Cluster) : (b.modCluster C f).out = b.out := rfl
@[simp] theorem Block.modCluster_fresh (C : Nat) (f : Cluster → Cluster) : (b.modCluster C f).fresh = b.fresh := rfl
@[simp] theorem Block.modCluster_word (C : Nat) (f : Cluster → Cluster) (y0 : Nat) : (b.modCluster C f).word y0 = b.word y0 := rfl
@[simp] theorem Block.modCluster_fld (C : Nat) (f : Cluster → Cluster) (y0 : Nat) (z0 : Bf) : (b.modCluster C f).fld y0 z0 = b.fld y0 z0 := rfl
@[simp] theorem Block.modCluster_flag (C : Nat) (f : Cluster → Cluster) (y0 : Nat) (z0 : Bf) : (b.modCluster C f).flag y0 z0 = b.flag y0 z0 := rfl
@[simp] theorem Block.modCluster_ctr (C : Nat) (f : Cluster → Cluster) (y0 : Nat) : (b.modCluster C f).ctr y0 = b.ctr y0 := rfl
@[simp] theorem Block.modCluster_die (C : Nat) (f : Cluster → Cluster) (y0 : Nat) : (b.modCluster C f).die y0 = b.die y0 := rfl
@[simp] theorem Block.modCluster_port (C : Nat) (f : Cluster → Cluster) (y0 : Nat) : (b.modCluster C f).port y0 = b.port y0 := rfl
@[simp] theorem Block.modCluster_region (C : Nat) (f : Cluster → Cluster) (y0 : Nat) : (b.modCluster C f).region y0 = b.region y0 := rfl
@[simp] theorem Block.modCluster_engine (C : Nat) (f : Cluster → Cluster) (y0 : Nat) : (b.modCluster C f).engine y0 = b.engine y0 := rfl
@[simp] theorem Block.modCluster_frame (C : Nat) (f : Cluster → Cluster) (y0 : Nat) : (b.modCluster C f).frame y0 = b.frame y0 := rfl
@[simp] theorem Block.modCluster_latched (C : Nat) (f : Cluster → Cluster) (y0 z0 : Nat) : (b.modCluster C f).latched y0 z0 = b.latched y0 z0 := rfl
@[simp] theorem Block.modCluster_inst (C : Nat) (f : Cluster → Cluster) (y0 : Nat) : (b.modCluster C f).inst y0 = b.inst y0 := rfl
@[simp] theorem Block.modCluster_txRing (C : Nat) (f : Cluster → Cluster) (y0 : Nat) : (b.modCluster C f).txRing y0 = b.txRing y0 := rfl
@[simp] theorem Block.modCluster_rxRing (C : Nat) (f : Cluster → Cluster) (y0 : Nat) : (b.modCluster C f).rxRing y0 = b.rxRing y0 := rfl
@[simp] theorem Block.modCluster_pool (C : Nat) (f : Cluster → Cluster) (y0 z0 : Nat) : (b.modCluster C f).pool y0 z0 = b.pool y0 z0 := rfl
@[simp] theorem Block.modCluster_ring (C : Nat) (f : Cluster → Cluster) (y0 : Nat) : (b.modCluster C f).ring y0 = b.ring y0 := rfl
@[simp] theorem Block.modCluster_link (C : Nat) (f : Cluster → Cluster) (y0 z0 : Nat) : (b.modCluster C f).link y0 z0 = b.link y0 z0 := rfl
@[simp] theorem Block.modCluster_fifo (C : Nat) (f : Cluster → Cluster) (y0 z0 : Nat) : (b.modCluster C f).fifo y0 z0 = b.fifo y0 z0 := rfl
@[simp] theorem Block.modCluster_frozen (C : Nat) (f : Cluster → Cluster) (y0 : Nat) : (b.modCluster C f).frozen y0 = b.frozen y0 := rfl
@[simp] theorem Block.modCluster_stopped (C : Nat) (f : Cluster → Cluster) (y0 : Nat) : (b.modCluster C f).stopped y0 = b.stopped y0 := rfl
@[simp] theorem Block.modCluster_at_ (C : Nat) (f : Cluster → Cluster) (y0 : Nat) (z0 : Loc) : (b.modCluster C f).at_ y0 z0 = b.at_ y0 z0 := rfl
@[simp] theorem Block.modCluster_stgFill (C : Nat) (f : Cluster → Cluster) (y0 : Nat) : (b.modCluster C f).stgFill y0 = b.stgFill y0 := rfl
@[simp] theorem Block.modCluster_txAt (C : Nat) (f : Cluster → Cluster) (y0 : Nat) (z0 : TxStage) : (b.modCluster C f).txAt y0 z0 = b.txAt y0 z0 := rfl

/-! ## modRegion -/

@[simp] theorem Block.modRegion_regs (G : Nat) (f : Region → Region) : (b.modRegion G f).regs = b.regs := rfl
@[simp] theorem Block.modRegion_ctrs (G : Nat) (f : Region → Region) : (b.modRegion G f).ctrs = b.ctrs := rfl
@[simp] theorem Block.modRegion_latch (G : Nat) (f : Region → Region) : (b.modRegion G f).latch = b.latch := rfl
@[simp] theorem Block.modRegion_ticks (G : Nat) (f : Region → Region) : (b.modRegion G f).ticks = b.ticks := rfl
@[simp] theorem Block.modRegion_refLost (G : Nat) (f : Region → Region) : (b.modRegion G f).refLost = b.refLost := rfl
@[simp] theorem Block.modRegion_baseA (G : Nat) (f : Region → Region) : (b.modRegion G f).baseA = b.baseA := rfl
@[simp] theorem Block.modRegion_baseB (G : Nat) (f : Region → Region) : (b.modRegion G f).baseB = b.baseB := rfl
@[simp] theorem Block.modRegion_switchTick (G : Nat) (f : Region → Region) : (b.modRegion G f).switchTick = b.switchTick := rfl
@[simp] theorem Block.modRegion_dies (G : Nat) (f : Region → Region) : (b.modRegion G f).dies = b.dies := rfl
@[simp] theorem Block.modRegion_ports (G : Nat) (f : Region → Region) : (b.modRegion G f).ports = b.ports := rfl
@[simp] theorem Block.modRegion_clusters (G : Nat) (f : Region → Region) : (b.modRegion G f).clusters = b.clusters := rfl
@[simp] theorem Block.modRegion_engines (G : Nat) (f : Region → Region) : (b.modRegion G f).engines = b.engines := rfl
@[simp] theorem Block.modRegion_rings (G : Nat) (f : Region → Region) : (b.modRegion G f).rings = b.rings := rfl
@[simp] theorem Block.modRegion_fifos (G : Nat) (f : Region → Region) : (b.modRegion G f).fifos = b.fifos := rfl
@[simp] theorem Block.modRegion_hostLinks (G : Nat) (f : Region → Region) : (b.modRegion G f).hostLinks = b.hostLinks := rfl
@[simp] theorem Block.modRegion_links (G : Nat) (f : Region → Region) : (b.modRegion G f).links = b.links := rfl
@[simp] theorem Block.modRegion_hbms (G : Nat) (f : Region → Region) : (b.modRegion G f).hbms = b.hbms := rfl
@[simp] theorem Block.modRegion_slow (G : Nat) (f : Region → Region) : (b.modRegion G f).slow = b.slow := rfl
@[simp] theorem Block.modRegion_txRings (G : Nat) (f : Region → Region) : (b.modRegion G f).txRings = b.txRings := rfl
@[simp] theorem Block.modRegion_rxRings (G : Nat) (f : Region → Region) : (b.modRegion G f).rxRings = b.rxRings := rfl
@[simp] theorem Block.modRegion_pools (G : Nat) (f : Region → Region) : (b.modRegion G f).pools = b.pools := rfl
@[simp] theorem Block.modRegion_ringInts (G : Nat) (f : Region → Region) : (b.modRegion G f).ringInts = b.ringInts := rfl
@[simp] theorem Block.modRegion_insts (G : Nat) (f : Region → Region) : (b.modRegion G f).insts = b.insts := rfl
@[simp] theorem Block.modRegion_vfEnable (G : Nat) (f : Region → Region) : (b.modRegion G f).vfEnable = b.vfEnable := rfl
@[simp] theorem Block.modRegion_numVfs (G : Nat) (f : Region → Region) : (b.modRegion G f).numVfs = b.numVfs := rfl
@[simp] theorem Block.modRegion_txLast (G : Nat) (f : Region → Region) : (b.modRegion G f).txLast = b.txLast := rfl
@[simp] theorem Block.modRegion_jobs (G : Nat) (f : Region → Region) : (b.modRegion G f).jobs = b.jobs := rfl
@[simp] theorem Block.modRegion_dmaEng (G : Nat) (f : Region → Region) : (b.modRegion G f).dmaEng = b.dmaEng := rfl
@[simp] theorem Block.modRegion_jobCount (G : Nat) (f : Region → Region) : (b.modRegion G f).jobCount = b.jobCount := rfl
@[simp] theorem Block.modRegion_dmaLast (G : Nat) (f : Region → Region) : (b.modRegion G f).dmaLast = b.dmaLast := rfl
@[simp] theorem Block.modRegion_frames (G : Nat) (f : Region → Region) : (b.modRegion G f).frames = b.frames := rfl
@[simp] theorem Block.modRegion_nextFrame (G : Nat) (f : Region → Region) : (b.modRegion G f).nextFrame = b.nextFrame := rfl
@[simp] theorem Block.modRegion_flt (G : Nat) (f : Region → Region) : (b.modRegion G f).flt = b.flt := rfl
@[simp] theorem Block.modRegion_inflight (G : Nat) (f : Region → Region) : (b.modRegion G f).inflight = b.inflight := rfl
@[simp] theorem Block.modRegion_lastMsg (G : Nat) (f : Region → Region) : (b.modRegion G f).lastMsg = b.lastMsg := rfl
@[simp] theorem Block.modRegion_records (G : Nat) (f : Region → Region) : (b.modRegion G f).records = b.records := rfl
@[simp] theorem Block.modRegion_locked (G : Nat) (f : Region → Region) : (b.modRegion G f).locked = b.locked := rfl
@[simp] theorem Block.modRegion_pair (G : Nat) (f : Region → Region) : (b.modRegion G f).pair = b.pair := rfl
@[simp] theorem Block.modRegion_chain (G : Nat) (f : Region → Region) : (b.modRegion G f).chain = b.chain := rfl
@[simp] theorem Block.modRegion_boot (G : Nat) (f : Region → Region) : (b.modRegion G f).boot = b.boot := rfl
@[simp] theorem Block.modRegion_pkgHold (G : Nat) (f : Region → Region) : (b.modRegion G f).pkgHold = b.pkgHold := rfl
@[simp] theorem Block.modRegion_pinLow (G : Nat) (f : Region → Region) : (b.modRegion G f).pinLow = b.pinLow := rfl
@[simp] theorem Block.modRegion_relPin (G : Nat) (f : Region → Region) : (b.modRegion G f).relPin = b.relPin := rfl
@[simp] theorem Block.modRegion_strapPins (G : Nat) (f : Region → Region) : (b.modRegion G f).strapPins = b.strapPins := rfl
@[simp] theorem Block.modRegion_fuses (G : Nat) (f : Region → Region) : (b.modRegion G f).fuses = b.fuses := rfl
@[simp] theorem Block.modRegion_faultN (G : Nat) (f : Region → Region) : (b.modRegion G f).faultN = b.faultN := rfl
@[simp] theorem Block.modRegion_snap (G : Nat) (f : Region → Region) : (b.modRegion G f).snap = b.snap := rfl
@[simp] theorem Block.modRegion_pendSnap (G : Nat) (f : Region → Region) : (b.modRegion G f).pendSnap = b.pendSnap := rfl
@[simp] theorem Block.modRegion_refusals (G : Nat) (f : Region → Region) : (b.modRegion G f).refusals = b.refusals := rfl
@[simp] theorem Block.modRegion_out (G : Nat) (f : Region → Region) : (b.modRegion G f).out = b.out := rfl
@[simp] theorem Block.modRegion_fresh (G : Nat) (f : Region → Region) : (b.modRegion G f).fresh = b.fresh := rfl
@[simp] theorem Block.modRegion_word (G : Nat) (f : Region → Region) (y0 : Nat) : (b.modRegion G f).word y0 = b.word y0 := rfl
@[simp] theorem Block.modRegion_fld (G : Nat) (f : Region → Region) (y0 : Nat) (z0 : Bf) : (b.modRegion G f).fld y0 z0 = b.fld y0 z0 := rfl
@[simp] theorem Block.modRegion_flag (G : Nat) (f : Region → Region) (y0 : Nat) (z0 : Bf) : (b.modRegion G f).flag y0 z0 = b.flag y0 z0 := rfl
@[simp] theorem Block.modRegion_ctr (G : Nat) (f : Region → Region) (y0 : Nat) : (b.modRegion G f).ctr y0 = b.ctr y0 := rfl
@[simp] theorem Block.modRegion_die (G : Nat) (f : Region → Region) (y0 : Nat) : (b.modRegion G f).die y0 = b.die y0 := rfl
@[simp] theorem Block.modRegion_port (G : Nat) (f : Region → Region) (y0 : Nat) : (b.modRegion G f).port y0 = b.port y0 := rfl
@[simp] theorem Block.modRegion_cluster (G : Nat) (f : Region → Region) (y0 : Nat) : (b.modRegion G f).cluster y0 = b.cluster y0 := rfl
@[simp] theorem Block.modRegion_engine (G : Nat) (f : Region → Region) (y0 : Nat) : (b.modRegion G f).engine y0 = b.engine y0 := rfl
@[simp] theorem Block.modRegion_frame (G : Nat) (f : Region → Region) (y0 : Nat) : (b.modRegion G f).frame y0 = b.frame y0 := rfl
@[simp] theorem Block.modRegion_latched (G : Nat) (f : Region → Region) (y0 z0 : Nat) : (b.modRegion G f).latched y0 z0 = b.latched y0 z0 := rfl
@[simp] theorem Block.modRegion_inst (G : Nat) (f : Region → Region) (y0 : Nat) : (b.modRegion G f).inst y0 = b.inst y0 := rfl
@[simp] theorem Block.modRegion_txRing (G : Nat) (f : Region → Region) (y0 : Nat) : (b.modRegion G f).txRing y0 = b.txRing y0 := rfl
@[simp] theorem Block.modRegion_rxRing (G : Nat) (f : Region → Region) (y0 : Nat) : (b.modRegion G f).rxRing y0 = b.rxRing y0 := rfl
@[simp] theorem Block.modRegion_pool (G : Nat) (f : Region → Region) (y0 z0 : Nat) : (b.modRegion G f).pool y0 z0 = b.pool y0 z0 := rfl
@[simp] theorem Block.modRegion_ring (G : Nat) (f : Region → Region) (y0 : Nat) : (b.modRegion G f).ring y0 = b.ring y0 := rfl
@[simp] theorem Block.modRegion_link (G : Nat) (f : Region → Region) (y0 z0 : Nat) : (b.modRegion G f).link y0 z0 = b.link y0 z0 := rfl
@[simp] theorem Block.modRegion_fifo (G : Nat) (f : Region → Region) (y0 z0 : Nat) : (b.modRegion G f).fifo y0 z0 = b.fifo y0 z0 := rfl
@[simp] theorem Block.modRegion_frozen (G : Nat) (f : Region → Region) (y0 : Nat) : (b.modRegion G f).frozen y0 = b.frozen y0 := rfl
@[simp] theorem Block.modRegion_stopped (G : Nat) (f : Region → Region) (y0 : Nat) : (b.modRegion G f).stopped y0 = b.stopped y0 := rfl
@[simp] theorem Block.modRegion_ctx (G : Nat) (f : Region → Region) (y0 z0 : Nat) : (b.modRegion G f).ctx y0 z0 = b.ctx y0 z0 := rfl
@[simp] theorem Block.modRegion_at_ (G : Nat) (f : Region → Region) (y0 : Nat) (z0 : Loc) : (b.modRegion G f).at_ y0 z0 = b.at_ y0 z0 := rfl
@[simp] theorem Block.modRegion_stgFill (G : Nat) (f : Region → Region) (y0 : Nat) : (b.modRegion G f).stgFill y0 = b.stgFill y0 := rfl
@[simp] theorem Block.modRegion_txAt (G : Nat) (f : Region → Region) (y0 : Nat) (z0 : TxStage) : (b.modRegion G f).txAt y0 z0 = b.txAt y0 z0 := rfl

/-! ## modEngine -/

@[simp] theorem Block.modEngine_regs (d : Nat) (f : Engine → Engine) : (b.modEngine d f).regs = b.regs := rfl
@[simp] theorem Block.modEngine_ctrs (d : Nat) (f : Engine → Engine) : (b.modEngine d f).ctrs = b.ctrs := rfl
@[simp] theorem Block.modEngine_latch (d : Nat) (f : Engine → Engine) : (b.modEngine d f).latch = b.latch := rfl
@[simp] theorem Block.modEngine_ticks (d : Nat) (f : Engine → Engine) : (b.modEngine d f).ticks = b.ticks := rfl
@[simp] theorem Block.modEngine_refLost (d : Nat) (f : Engine → Engine) : (b.modEngine d f).refLost = b.refLost := rfl
@[simp] theorem Block.modEngine_baseA (d : Nat) (f : Engine → Engine) : (b.modEngine d f).baseA = b.baseA := rfl
@[simp] theorem Block.modEngine_baseB (d : Nat) (f : Engine → Engine) : (b.modEngine d f).baseB = b.baseB := rfl
@[simp] theorem Block.modEngine_switchTick (d : Nat) (f : Engine → Engine) : (b.modEngine d f).switchTick = b.switchTick := rfl
@[simp] theorem Block.modEngine_dies (d : Nat) (f : Engine → Engine) : (b.modEngine d f).dies = b.dies := rfl
@[simp] theorem Block.modEngine_ports (d : Nat) (f : Engine → Engine) : (b.modEngine d f).ports = b.ports := rfl
@[simp] theorem Block.modEngine_clusters (d : Nat) (f : Engine → Engine) : (b.modEngine d f).clusters = b.clusters := rfl
@[simp] theorem Block.modEngine_regions (d : Nat) (f : Engine → Engine) : (b.modEngine d f).regions = b.regions := rfl
@[simp] theorem Block.modEngine_rings (d : Nat) (f : Engine → Engine) : (b.modEngine d f).rings = b.rings := rfl
@[simp] theorem Block.modEngine_fifos (d : Nat) (f : Engine → Engine) : (b.modEngine d f).fifos = b.fifos := rfl
@[simp] theorem Block.modEngine_hostLinks (d : Nat) (f : Engine → Engine) : (b.modEngine d f).hostLinks = b.hostLinks := rfl
@[simp] theorem Block.modEngine_links (d : Nat) (f : Engine → Engine) : (b.modEngine d f).links = b.links := rfl
@[simp] theorem Block.modEngine_hbms (d : Nat) (f : Engine → Engine) : (b.modEngine d f).hbms = b.hbms := rfl
@[simp] theorem Block.modEngine_slow (d : Nat) (f : Engine → Engine) : (b.modEngine d f).slow = b.slow := rfl
@[simp] theorem Block.modEngine_txRings (d : Nat) (f : Engine → Engine) : (b.modEngine d f).txRings = b.txRings := rfl
@[simp] theorem Block.modEngine_rxRings (d : Nat) (f : Engine → Engine) : (b.modEngine d f).rxRings = b.rxRings := rfl
@[simp] theorem Block.modEngine_pools (d : Nat) (f : Engine → Engine) : (b.modEngine d f).pools = b.pools := rfl
@[simp] theorem Block.modEngine_ringInts (d : Nat) (f : Engine → Engine) : (b.modEngine d f).ringInts = b.ringInts := rfl
@[simp] theorem Block.modEngine_insts (d : Nat) (f : Engine → Engine) : (b.modEngine d f).insts = b.insts := rfl
@[simp] theorem Block.modEngine_vfEnable (d : Nat) (f : Engine → Engine) : (b.modEngine d f).vfEnable = b.vfEnable := rfl
@[simp] theorem Block.modEngine_numVfs (d : Nat) (f : Engine → Engine) : (b.modEngine d f).numVfs = b.numVfs := rfl
@[simp] theorem Block.modEngine_txLast (d : Nat) (f : Engine → Engine) : (b.modEngine d f).txLast = b.txLast := rfl
@[simp] theorem Block.modEngine_jobs (d : Nat) (f : Engine → Engine) : (b.modEngine d f).jobs = b.jobs := rfl
@[simp] theorem Block.modEngine_dmaEng (d : Nat) (f : Engine → Engine) : (b.modEngine d f).dmaEng = b.dmaEng := rfl
@[simp] theorem Block.modEngine_jobCount (d : Nat) (f : Engine → Engine) : (b.modEngine d f).jobCount = b.jobCount := rfl
@[simp] theorem Block.modEngine_dmaLast (d : Nat) (f : Engine → Engine) : (b.modEngine d f).dmaLast = b.dmaLast := rfl
@[simp] theorem Block.modEngine_frames (d : Nat) (f : Engine → Engine) : (b.modEngine d f).frames = b.frames := rfl
@[simp] theorem Block.modEngine_nextFrame (d : Nat) (f : Engine → Engine) : (b.modEngine d f).nextFrame = b.nextFrame := rfl
@[simp] theorem Block.modEngine_flt (d : Nat) (f : Engine → Engine) : (b.modEngine d f).flt = b.flt := rfl
@[simp] theorem Block.modEngine_inflight (d : Nat) (f : Engine → Engine) : (b.modEngine d f).inflight = b.inflight := rfl
@[simp] theorem Block.modEngine_lastMsg (d : Nat) (f : Engine → Engine) : (b.modEngine d f).lastMsg = b.lastMsg := rfl
@[simp] theorem Block.modEngine_records (d : Nat) (f : Engine → Engine) : (b.modEngine d f).records = b.records := rfl
@[simp] theorem Block.modEngine_locked (d : Nat) (f : Engine → Engine) : (b.modEngine d f).locked = b.locked := rfl
@[simp] theorem Block.modEngine_pair (d : Nat) (f : Engine → Engine) : (b.modEngine d f).pair = b.pair := rfl
@[simp] theorem Block.modEngine_chain (d : Nat) (f : Engine → Engine) : (b.modEngine d f).chain = b.chain := rfl
@[simp] theorem Block.modEngine_boot (d : Nat) (f : Engine → Engine) : (b.modEngine d f).boot = b.boot := rfl
@[simp] theorem Block.modEngine_pkgHold (d : Nat) (f : Engine → Engine) : (b.modEngine d f).pkgHold = b.pkgHold := rfl
@[simp] theorem Block.modEngine_pinLow (d : Nat) (f : Engine → Engine) : (b.modEngine d f).pinLow = b.pinLow := rfl
@[simp] theorem Block.modEngine_relPin (d : Nat) (f : Engine → Engine) : (b.modEngine d f).relPin = b.relPin := rfl
@[simp] theorem Block.modEngine_strapPins (d : Nat) (f : Engine → Engine) : (b.modEngine d f).strapPins = b.strapPins := rfl
@[simp] theorem Block.modEngine_fuses (d : Nat) (f : Engine → Engine) : (b.modEngine d f).fuses = b.fuses := rfl
@[simp] theorem Block.modEngine_faultN (d : Nat) (f : Engine → Engine) : (b.modEngine d f).faultN = b.faultN := rfl
@[simp] theorem Block.modEngine_snap (d : Nat) (f : Engine → Engine) : (b.modEngine d f).snap = b.snap := rfl
@[simp] theorem Block.modEngine_pendSnap (d : Nat) (f : Engine → Engine) : (b.modEngine d f).pendSnap = b.pendSnap := rfl
@[simp] theorem Block.modEngine_refusals (d : Nat) (f : Engine → Engine) : (b.modEngine d f).refusals = b.refusals := rfl
@[simp] theorem Block.modEngine_out (d : Nat) (f : Engine → Engine) : (b.modEngine d f).out = b.out := rfl
@[simp] theorem Block.modEngine_fresh (d : Nat) (f : Engine → Engine) : (b.modEngine d f).fresh = b.fresh := rfl
@[simp] theorem Block.modEngine_word (d : Nat) (f : Engine → Engine) (y0 : Nat) : (b.modEngine d f).word y0 = b.word y0 := rfl
@[simp] theorem Block.modEngine_fld (d : Nat) (f : Engine → Engine) (y0 : Nat) (z0 : Bf) : (b.modEngine d f).fld y0 z0 = b.fld y0 z0 := rfl
@[simp] theorem Block.modEngine_flag (d : Nat) (f : Engine → Engine) (y0 : Nat) (z0 : Bf) : (b.modEngine d f).flag y0 z0 = b.flag y0 z0 := rfl
@[simp] theorem Block.modEngine_ctr (d : Nat) (f : Engine → Engine) (y0 : Nat) : (b.modEngine d f).ctr y0 = b.ctr y0 := rfl
@[simp] theorem Block.modEngine_die (d : Nat) (f : Engine → Engine) (y0 : Nat) : (b.modEngine d f).die y0 = b.die y0 := rfl
@[simp] theorem Block.modEngine_port (d : Nat) (f : Engine → Engine) (y0 : Nat) : (b.modEngine d f).port y0 = b.port y0 := rfl
@[simp] theorem Block.modEngine_cluster (d : Nat) (f : Engine → Engine) (y0 : Nat) : (b.modEngine d f).cluster y0 = b.cluster y0 := rfl
@[simp] theorem Block.modEngine_region (d : Nat) (f : Engine → Engine) (y0 : Nat) : (b.modEngine d f).region y0 = b.region y0 := rfl
@[simp] theorem Block.modEngine_frame (d : Nat) (f : Engine → Engine) (y0 : Nat) : (b.modEngine d f).frame y0 = b.frame y0 := rfl
@[simp] theorem Block.modEngine_latched (d : Nat) (f : Engine → Engine) (y0 z0 : Nat) : (b.modEngine d f).latched y0 z0 = b.latched y0 z0 := rfl
@[simp] theorem Block.modEngine_inst (d : Nat) (f : Engine → Engine) (y0 : Nat) : (b.modEngine d f).inst y0 = b.inst y0 := rfl
@[simp] theorem Block.modEngine_txRing (d : Nat) (f : Engine → Engine) (y0 : Nat) : (b.modEngine d f).txRing y0 = b.txRing y0 := rfl
@[simp] theorem Block.modEngine_rxRing (d : Nat) (f : Engine → Engine) (y0 : Nat) : (b.modEngine d f).rxRing y0 = b.rxRing y0 := rfl
@[simp] theorem Block.modEngine_pool (d : Nat) (f : Engine → Engine) (y0 z0 : Nat) : (b.modEngine d f).pool y0 z0 = b.pool y0 z0 := rfl
@[simp] theorem Block.modEngine_ring (d : Nat) (f : Engine → Engine) (y0 : Nat) : (b.modEngine d f).ring y0 = b.ring y0 := rfl
@[simp] theorem Block.modEngine_link (d : Nat) (f : Engine → Engine) (y0 z0 : Nat) : (b.modEngine d f).link y0 z0 = b.link y0 z0 := rfl
@[simp] theorem Block.modEngine_fifo (d : Nat) (f : Engine → Engine) (y0 z0 : Nat) : (b.modEngine d f).fifo y0 z0 = b.fifo y0 z0 := rfl
@[simp] theorem Block.modEngine_frozen (d : Nat) (f : Engine → Engine) (y0 : Nat) : (b.modEngine d f).frozen y0 = b.frozen y0 := rfl
@[simp] theorem Block.modEngine_stopped (d : Nat) (f : Engine → Engine) (y0 : Nat) : (b.modEngine d f).stopped y0 = b.stopped y0 := rfl
@[simp] theorem Block.modEngine_ctx (d : Nat) (f : Engine → Engine) (y0 z0 : Nat) : (b.modEngine d f).ctx y0 z0 = b.ctx y0 z0 := rfl
@[simp] theorem Block.modEngine_at_ (d : Nat) (f : Engine → Engine) (y0 : Nat) (z0 : Loc) : (b.modEngine d f).at_ y0 z0 = b.at_ y0 z0 := rfl
@[simp] theorem Block.modEngine_stgFill (d : Nat) (f : Engine → Engine) (y0 : Nat) : (b.modEngine d f).stgFill y0 = b.stgFill y0 := rfl
@[simp] theorem Block.modEngine_txAt (d : Nat) (f : Engine → Engine) (y0 : Nat) (z0 : TxStage) : (b.modEngine d f).txAt y0 z0 = b.txAt y0 z0 := rfl

/-! ## modFrame -/

@[simp] theorem Block.modFrame_regs (i : Nat) (f : Frame → Frame) : (b.modFrame i f).regs = b.regs := rfl
@[simp] theorem Block.modFrame_ctrs (i : Nat) (f : Frame → Frame) : (b.modFrame i f).ctrs = b.ctrs := rfl
@[simp] theorem Block.modFrame_latch (i : Nat) (f : Frame → Frame) : (b.modFrame i f).latch = b.latch := rfl
@[simp] theorem Block.modFrame_ticks (i : Nat) (f : Frame → Frame) : (b.modFrame i f).ticks = b.ticks := rfl
@[simp] theorem Block.modFrame_refLost (i : Nat) (f : Frame → Frame) : (b.modFrame i f).refLost = b.refLost := rfl
@[simp] theorem Block.modFrame_baseA (i : Nat) (f : Frame → Frame) : (b.modFrame i f).baseA = b.baseA := rfl
@[simp] theorem Block.modFrame_baseB (i : Nat) (f : Frame → Frame) : (b.modFrame i f).baseB = b.baseB := rfl
@[simp] theorem Block.modFrame_switchTick (i : Nat) (f : Frame → Frame) : (b.modFrame i f).switchTick = b.switchTick := rfl
@[simp] theorem Block.modFrame_dies (i : Nat) (f : Frame → Frame) : (b.modFrame i f).dies = b.dies := rfl
@[simp] theorem Block.modFrame_ports (i : Nat) (f : Frame → Frame) : (b.modFrame i f).ports = b.ports := rfl
@[simp] theorem Block.modFrame_clusters (i : Nat) (f : Frame → Frame) : (b.modFrame i f).clusters = b.clusters := rfl
@[simp] theorem Block.modFrame_regions (i : Nat) (f : Frame → Frame) : (b.modFrame i f).regions = b.regions := rfl
@[simp] theorem Block.modFrame_engines (i : Nat) (f : Frame → Frame) : (b.modFrame i f).engines = b.engines := rfl
@[simp] theorem Block.modFrame_rings (i : Nat) (f : Frame → Frame) : (b.modFrame i f).rings = b.rings := rfl
@[simp] theorem Block.modFrame_fifos (i : Nat) (f : Frame → Frame) : (b.modFrame i f).fifos = b.fifos := rfl
@[simp] theorem Block.modFrame_hostLinks (i : Nat) (f : Frame → Frame) : (b.modFrame i f).hostLinks = b.hostLinks := rfl
@[simp] theorem Block.modFrame_links (i : Nat) (f : Frame → Frame) : (b.modFrame i f).links = b.links := rfl
@[simp] theorem Block.modFrame_hbms (i : Nat) (f : Frame → Frame) : (b.modFrame i f).hbms = b.hbms := rfl
@[simp] theorem Block.modFrame_slow (i : Nat) (f : Frame → Frame) : (b.modFrame i f).slow = b.slow := rfl
@[simp] theorem Block.modFrame_txRings (i : Nat) (f : Frame → Frame) : (b.modFrame i f).txRings = b.txRings := rfl
@[simp] theorem Block.modFrame_rxRings (i : Nat) (f : Frame → Frame) : (b.modFrame i f).rxRings = b.rxRings := rfl
@[simp] theorem Block.modFrame_pools (i : Nat) (f : Frame → Frame) : (b.modFrame i f).pools = b.pools := rfl
@[simp] theorem Block.modFrame_ringInts (i : Nat) (f : Frame → Frame) : (b.modFrame i f).ringInts = b.ringInts := rfl
@[simp] theorem Block.modFrame_insts (i : Nat) (f : Frame → Frame) : (b.modFrame i f).insts = b.insts := rfl
@[simp] theorem Block.modFrame_vfEnable (i : Nat) (f : Frame → Frame) : (b.modFrame i f).vfEnable = b.vfEnable := rfl
@[simp] theorem Block.modFrame_numVfs (i : Nat) (f : Frame → Frame) : (b.modFrame i f).numVfs = b.numVfs := rfl
@[simp] theorem Block.modFrame_txLast (i : Nat) (f : Frame → Frame) : (b.modFrame i f).txLast = b.txLast := rfl
@[simp] theorem Block.modFrame_jobs (i : Nat) (f : Frame → Frame) : (b.modFrame i f).jobs = b.jobs := rfl
@[simp] theorem Block.modFrame_dmaEng (i : Nat) (f : Frame → Frame) : (b.modFrame i f).dmaEng = b.dmaEng := rfl
@[simp] theorem Block.modFrame_jobCount (i : Nat) (f : Frame → Frame) : (b.modFrame i f).jobCount = b.jobCount := rfl
@[simp] theorem Block.modFrame_dmaLast (i : Nat) (f : Frame → Frame) : (b.modFrame i f).dmaLast = b.dmaLast := rfl
@[simp] theorem Block.modFrame_nextFrame (i : Nat) (f : Frame → Frame) : (b.modFrame i f).nextFrame = b.nextFrame := rfl
@[simp] theorem Block.modFrame_flt (i : Nat) (f : Frame → Frame) : (b.modFrame i f).flt = b.flt := rfl
@[simp] theorem Block.modFrame_inflight (i : Nat) (f : Frame → Frame) : (b.modFrame i f).inflight = b.inflight := rfl
@[simp] theorem Block.modFrame_lastMsg (i : Nat) (f : Frame → Frame) : (b.modFrame i f).lastMsg = b.lastMsg := rfl
@[simp] theorem Block.modFrame_records (i : Nat) (f : Frame → Frame) : (b.modFrame i f).records = b.records := rfl
@[simp] theorem Block.modFrame_locked (i : Nat) (f : Frame → Frame) : (b.modFrame i f).locked = b.locked := rfl
@[simp] theorem Block.modFrame_pair (i : Nat) (f : Frame → Frame) : (b.modFrame i f).pair = b.pair := rfl
@[simp] theorem Block.modFrame_chain (i : Nat) (f : Frame → Frame) : (b.modFrame i f).chain = b.chain := rfl
@[simp] theorem Block.modFrame_boot (i : Nat) (f : Frame → Frame) : (b.modFrame i f).boot = b.boot := rfl
@[simp] theorem Block.modFrame_pkgHold (i : Nat) (f : Frame → Frame) : (b.modFrame i f).pkgHold = b.pkgHold := rfl
@[simp] theorem Block.modFrame_pinLow (i : Nat) (f : Frame → Frame) : (b.modFrame i f).pinLow = b.pinLow := rfl
@[simp] theorem Block.modFrame_relPin (i : Nat) (f : Frame → Frame) : (b.modFrame i f).relPin = b.relPin := rfl
@[simp] theorem Block.modFrame_strapPins (i : Nat) (f : Frame → Frame) : (b.modFrame i f).strapPins = b.strapPins := rfl
@[simp] theorem Block.modFrame_fuses (i : Nat) (f : Frame → Frame) : (b.modFrame i f).fuses = b.fuses := rfl
@[simp] theorem Block.modFrame_faultN (i : Nat) (f : Frame → Frame) : (b.modFrame i f).faultN = b.faultN := rfl
@[simp] theorem Block.modFrame_snap (i : Nat) (f : Frame → Frame) : (b.modFrame i f).snap = b.snap := rfl
@[simp] theorem Block.modFrame_pendSnap (i : Nat) (f : Frame → Frame) : (b.modFrame i f).pendSnap = b.pendSnap := rfl
@[simp] theorem Block.modFrame_refusals (i : Nat) (f : Frame → Frame) : (b.modFrame i f).refusals = b.refusals := rfl
@[simp] theorem Block.modFrame_out (i : Nat) (f : Frame → Frame) : (b.modFrame i f).out = b.out := rfl
@[simp] theorem Block.modFrame_fresh (i : Nat) (f : Frame → Frame) : (b.modFrame i f).fresh = b.fresh := rfl
@[simp] theorem Block.modFrame_word (i : Nat) (f : Frame → Frame) (y0 : Nat) : (b.modFrame i f).word y0 = b.word y0 := rfl
@[simp] theorem Block.modFrame_fld (i : Nat) (f : Frame → Frame) (y0 : Nat) (z0 : Bf) : (b.modFrame i f).fld y0 z0 = b.fld y0 z0 := rfl
@[simp] theorem Block.modFrame_flag (i : Nat) (f : Frame → Frame) (y0 : Nat) (z0 : Bf) : (b.modFrame i f).flag y0 z0 = b.flag y0 z0 := rfl
@[simp] theorem Block.modFrame_ctr (i : Nat) (f : Frame → Frame) (y0 : Nat) : (b.modFrame i f).ctr y0 = b.ctr y0 := rfl
@[simp] theorem Block.modFrame_die (i : Nat) (f : Frame → Frame) (y0 : Nat) : (b.modFrame i f).die y0 = b.die y0 := rfl
@[simp] theorem Block.modFrame_port (i : Nat) (f : Frame → Frame) (y0 : Nat) : (b.modFrame i f).port y0 = b.port y0 := rfl
@[simp] theorem Block.modFrame_cluster (i : Nat) (f : Frame → Frame) (y0 : Nat) : (b.modFrame i f).cluster y0 = b.cluster y0 := rfl
@[simp] theorem Block.modFrame_region (i : Nat) (f : Frame → Frame) (y0 : Nat) : (b.modFrame i f).region y0 = b.region y0 := rfl
@[simp] theorem Block.modFrame_engine (i : Nat) (f : Frame → Frame) (y0 : Nat) : (b.modFrame i f).engine y0 = b.engine y0 := rfl
@[simp] theorem Block.modFrame_latched (i : Nat) (f : Frame → Frame) (y0 z0 : Nat) : (b.modFrame i f).latched y0 z0 = b.latched y0 z0 := rfl
@[simp] theorem Block.modFrame_inst (i : Nat) (f : Frame → Frame) (y0 : Nat) : (b.modFrame i f).inst y0 = b.inst y0 := rfl
@[simp] theorem Block.modFrame_txRing (i : Nat) (f : Frame → Frame) (y0 : Nat) : (b.modFrame i f).txRing y0 = b.txRing y0 := rfl
@[simp] theorem Block.modFrame_rxRing (i : Nat) (f : Frame → Frame) (y0 : Nat) : (b.modFrame i f).rxRing y0 = b.rxRing y0 := rfl
@[simp] theorem Block.modFrame_pool (i : Nat) (f : Frame → Frame) (y0 z0 : Nat) : (b.modFrame i f).pool y0 z0 = b.pool y0 z0 := rfl
@[simp] theorem Block.modFrame_ring (i : Nat) (f : Frame → Frame) (y0 : Nat) : (b.modFrame i f).ring y0 = b.ring y0 := rfl
@[simp] theorem Block.modFrame_link (i : Nat) (f : Frame → Frame) (y0 z0 : Nat) : (b.modFrame i f).link y0 z0 = b.link y0 z0 := rfl
@[simp] theorem Block.modFrame_fifo (i : Nat) (f : Frame → Frame) (y0 z0 : Nat) : (b.modFrame i f).fifo y0 z0 = b.fifo y0 z0 := rfl
@[simp] theorem Block.modFrame_frozen (i : Nat) (f : Frame → Frame) (y0 : Nat) : (b.modFrame i f).frozen y0 = b.frozen y0 := rfl
@[simp] theorem Block.modFrame_stopped (i : Nat) (f : Frame → Frame) (y0 : Nat) : (b.modFrame i f).stopped y0 = b.stopped y0 := rfl
@[simp] theorem Block.modFrame_ctx (i : Nat) (f : Frame → Frame) (y0 z0 : Nat) : (b.modFrame i f).ctx y0 z0 = b.ctx y0 z0 := rfl
@[simp] theorem Block.modFrame_txAt (i : Nat) (f : Frame → Frame) (y0 : Nat) (z0 : TxStage) : (b.modFrame i f).txAt y0 z0 = b.txAt y0 z0 := rfl

/-! ## modInst -/

@[simp] theorem Block.modInst_regs (i : Nat) (f : Inst → Inst) : (b.modInst i f).regs = b.regs := rfl
@[simp] theorem Block.modInst_ctrs (i : Nat) (f : Inst → Inst) : (b.modInst i f).ctrs = b.ctrs := rfl
@[simp] theorem Block.modInst_latch (i : Nat) (f : Inst → Inst) : (b.modInst i f).latch = b.latch := rfl
@[simp] theorem Block.modInst_ticks (i : Nat) (f : Inst → Inst) : (b.modInst i f).ticks = b.ticks := rfl
@[simp] theorem Block.modInst_refLost (i : Nat) (f : Inst → Inst) : (b.modInst i f).refLost = b.refLost := rfl
@[simp] theorem Block.modInst_baseA (i : Nat) (f : Inst → Inst) : (b.modInst i f).baseA = b.baseA := rfl
@[simp] theorem Block.modInst_baseB (i : Nat) (f : Inst → Inst) : (b.modInst i f).baseB = b.baseB := rfl
@[simp] theorem Block.modInst_switchTick (i : Nat) (f : Inst → Inst) : (b.modInst i f).switchTick = b.switchTick := rfl
@[simp] theorem Block.modInst_dies (i : Nat) (f : Inst → Inst) : (b.modInst i f).dies = b.dies := rfl
@[simp] theorem Block.modInst_ports (i : Nat) (f : Inst → Inst) : (b.modInst i f).ports = b.ports := rfl
@[simp] theorem Block.modInst_clusters (i : Nat) (f : Inst → Inst) : (b.modInst i f).clusters = b.clusters := rfl
@[simp] theorem Block.modInst_regions (i : Nat) (f : Inst → Inst) : (b.modInst i f).regions = b.regions := rfl
@[simp] theorem Block.modInst_engines (i : Nat) (f : Inst → Inst) : (b.modInst i f).engines = b.engines := rfl
@[simp] theorem Block.modInst_rings (i : Nat) (f : Inst → Inst) : (b.modInst i f).rings = b.rings := rfl
@[simp] theorem Block.modInst_fifos (i : Nat) (f : Inst → Inst) : (b.modInst i f).fifos = b.fifos := rfl
@[simp] theorem Block.modInst_hostLinks (i : Nat) (f : Inst → Inst) : (b.modInst i f).hostLinks = b.hostLinks := rfl
@[simp] theorem Block.modInst_links (i : Nat) (f : Inst → Inst) : (b.modInst i f).links = b.links := rfl
@[simp] theorem Block.modInst_hbms (i : Nat) (f : Inst → Inst) : (b.modInst i f).hbms = b.hbms := rfl
@[simp] theorem Block.modInst_slow (i : Nat) (f : Inst → Inst) : (b.modInst i f).slow = b.slow := rfl
@[simp] theorem Block.modInst_txRings (i : Nat) (f : Inst → Inst) : (b.modInst i f).txRings = b.txRings := rfl
@[simp] theorem Block.modInst_rxRings (i : Nat) (f : Inst → Inst) : (b.modInst i f).rxRings = b.rxRings := rfl
@[simp] theorem Block.modInst_pools (i : Nat) (f : Inst → Inst) : (b.modInst i f).pools = b.pools := rfl
@[simp] theorem Block.modInst_ringInts (i : Nat) (f : Inst → Inst) : (b.modInst i f).ringInts = b.ringInts := rfl
@[simp] theorem Block.modInst_vfEnable (i : Nat) (f : Inst → Inst) : (b.modInst i f).vfEnable = b.vfEnable := rfl
@[simp] theorem Block.modInst_numVfs (i : Nat) (f : Inst → Inst) : (b.modInst i f).numVfs = b.numVfs := rfl
@[simp] theorem Block.modInst_txLast (i : Nat) (f : Inst → Inst) : (b.modInst i f).txLast = b.txLast := rfl
@[simp] theorem Block.modInst_jobs (i : Nat) (f : Inst → Inst) : (b.modInst i f).jobs = b.jobs := rfl
@[simp] theorem Block.modInst_dmaEng (i : Nat) (f : Inst → Inst) : (b.modInst i f).dmaEng = b.dmaEng := rfl
@[simp] theorem Block.modInst_jobCount (i : Nat) (f : Inst → Inst) : (b.modInst i f).jobCount = b.jobCount := rfl
@[simp] theorem Block.modInst_dmaLast (i : Nat) (f : Inst → Inst) : (b.modInst i f).dmaLast = b.dmaLast := rfl
@[simp] theorem Block.modInst_frames (i : Nat) (f : Inst → Inst) : (b.modInst i f).frames = b.frames := rfl
@[simp] theorem Block.modInst_nextFrame (i : Nat) (f : Inst → Inst) : (b.modInst i f).nextFrame = b.nextFrame := rfl
@[simp] theorem Block.modInst_flt (i : Nat) (f : Inst → Inst) : (b.modInst i f).flt = b.flt := rfl
@[simp] theorem Block.modInst_inflight (i : Nat) (f : Inst → Inst) : (b.modInst i f).inflight = b.inflight := rfl
@[simp] theorem Block.modInst_lastMsg (i : Nat) (f : Inst → Inst) : (b.modInst i f).lastMsg = b.lastMsg := rfl
@[simp] theorem Block.modInst_records (i : Nat) (f : Inst → Inst) : (b.modInst i f).records = b.records := rfl
@[simp] theorem Block.modInst_locked (i : Nat) (f : Inst → Inst) : (b.modInst i f).locked = b.locked := rfl
@[simp] theorem Block.modInst_pair (i : Nat) (f : Inst → Inst) : (b.modInst i f).pair = b.pair := rfl
@[simp] theorem Block.modInst_chain (i : Nat) (f : Inst → Inst) : (b.modInst i f).chain = b.chain := rfl
@[simp] theorem Block.modInst_boot (i : Nat) (f : Inst → Inst) : (b.modInst i f).boot = b.boot := rfl
@[simp] theorem Block.modInst_pkgHold (i : Nat) (f : Inst → Inst) : (b.modInst i f).pkgHold = b.pkgHold := rfl
@[simp] theorem Block.modInst_pinLow (i : Nat) (f : Inst → Inst) : (b.modInst i f).pinLow = b.pinLow := rfl
@[simp] theorem Block.modInst_relPin (i : Nat) (f : Inst → Inst) : (b.modInst i f).relPin = b.relPin := rfl
@[simp] theorem Block.modInst_strapPins (i : Nat) (f : Inst → Inst) : (b.modInst i f).strapPins = b.strapPins := rfl
@[simp] theorem Block.modInst_fuses (i : Nat) (f : Inst → Inst) : (b.modInst i f).fuses = b.fuses := rfl
@[simp] theorem Block.modInst_faultN (i : Nat) (f : Inst → Inst) : (b.modInst i f).faultN = b.faultN := rfl
@[simp] theorem Block.modInst_snap (i : Nat) (f : Inst → Inst) : (b.modInst i f).snap = b.snap := rfl
@[simp] theorem Block.modInst_pendSnap (i : Nat) (f : Inst → Inst) : (b.modInst i f).pendSnap = b.pendSnap := rfl
@[simp] theorem Block.modInst_refusals (i : Nat) (f : Inst → Inst) : (b.modInst i f).refusals = b.refusals := rfl
@[simp] theorem Block.modInst_out (i : Nat) (f : Inst → Inst) : (b.modInst i f).out = b.out := rfl
@[simp] theorem Block.modInst_fresh (i : Nat) (f : Inst → Inst) : (b.modInst i f).fresh = b.fresh := rfl
@[simp] theorem Block.modInst_word (i : Nat) (f : Inst → Inst) (y0 : Nat) : (b.modInst i f).word y0 = b.word y0 := rfl
@[simp] theorem Block.modInst_fld (i : Nat) (f : Inst → Inst) (y0 : Nat) (z0 : Bf) : (b.modInst i f).fld y0 z0 = b.fld y0 z0 := rfl
@[simp] theorem Block.modInst_flag (i : Nat) (f : Inst → Inst) (y0 : Nat) (z0 : Bf) : (b.modInst i f).flag y0 z0 = b.flag y0 z0 := rfl
@[simp] theorem Block.modInst_ctr (i : Nat) (f : Inst → Inst) (y0 : Nat) : (b.modInst i f).ctr y0 = b.ctr y0 := rfl
@[simp] theorem Block.modInst_die (i : Nat) (f : Inst → Inst) (y0 : Nat) : (b.modInst i f).die y0 = b.die y0 := rfl
@[simp] theorem Block.modInst_port (i : Nat) (f : Inst → Inst) (y0 : Nat) : (b.modInst i f).port y0 = b.port y0 := rfl
@[simp] theorem Block.modInst_cluster (i : Nat) (f : Inst → Inst) (y0 : Nat) : (b.modInst i f).cluster y0 = b.cluster y0 := rfl
@[simp] theorem Block.modInst_region (i : Nat) (f : Inst → Inst) (y0 : Nat) : (b.modInst i f).region y0 = b.region y0 := rfl
@[simp] theorem Block.modInst_engine (i : Nat) (f : Inst → Inst) (y0 : Nat) : (b.modInst i f).engine y0 = b.engine y0 := rfl
@[simp] theorem Block.modInst_frame (i : Nat) (f : Inst → Inst) (y0 : Nat) : (b.modInst i f).frame y0 = b.frame y0 := rfl
@[simp] theorem Block.modInst_latched (i : Nat) (f : Inst → Inst) (y0 z0 : Nat) : (b.modInst i f).latched y0 z0 = b.latched y0 z0 := rfl
@[simp] theorem Block.modInst_txRing (i : Nat) (f : Inst → Inst) (y0 : Nat) : (b.modInst i f).txRing y0 = b.txRing y0 := rfl
@[simp] theorem Block.modInst_rxRing (i : Nat) (f : Inst → Inst) (y0 : Nat) : (b.modInst i f).rxRing y0 = b.rxRing y0 := rfl
@[simp] theorem Block.modInst_pool (i : Nat) (f : Inst → Inst) (y0 z0 : Nat) : (b.modInst i f).pool y0 z0 = b.pool y0 z0 := rfl
@[simp] theorem Block.modInst_ring (i : Nat) (f : Inst → Inst) (y0 : Nat) : (b.modInst i f).ring y0 = b.ring y0 := rfl
@[simp] theorem Block.modInst_link (i : Nat) (f : Inst → Inst) (y0 z0 : Nat) : (b.modInst i f).link y0 z0 = b.link y0 z0 := rfl
@[simp] theorem Block.modInst_fifo (i : Nat) (f : Inst → Inst) (y0 z0 : Nat) : (b.modInst i f).fifo y0 z0 = b.fifo y0 z0 := rfl
@[simp] theorem Block.modInst_frozen (i : Nat) (f : Inst → Inst) (y0 : Nat) : (b.modInst i f).frozen y0 = b.frozen y0 := rfl
@[simp] theorem Block.modInst_stopped (i : Nat) (f : Inst → Inst) (y0 : Nat) : (b.modInst i f).stopped y0 = b.stopped y0 := rfl
@[simp] theorem Block.modInst_ctx (i : Nat) (f : Inst → Inst) (y0 z0 : Nat) : (b.modInst i f).ctx y0 z0 = b.ctx y0 z0 := rfl
@[simp] theorem Block.modInst_at_ (i : Nat) (f : Inst → Inst) (y0 : Nat) (z0 : Loc) : (b.modInst i f).at_ y0 z0 = b.at_ y0 z0 := rfl
@[simp] theorem Block.modInst_stgFill (i : Nat) (f : Inst → Inst) (y0 : Nat) : (b.modInst i f).stgFill y0 = b.stgFill y0 := rfl
@[simp] theorem Block.modInst_txAt (i : Nat) (f : Inst → Inst) (y0 : Nat) (z0 : TxStage) : (b.modInst i f).txAt y0 z0 = b.txAt y0 z0 := rfl

/-! ## modTxRing -/

@[simp] theorem Block.modTxRing_regs (r : Nat) (f : TxRing → TxRing) : (b.modTxRing r f).regs = b.regs := rfl
@[simp] theorem Block.modTxRing_ctrs (r : Nat) (f : TxRing → TxRing) : (b.modTxRing r f).ctrs = b.ctrs := rfl
@[simp] theorem Block.modTxRing_latch (r : Nat) (f : TxRing → TxRing) : (b.modTxRing r f).latch = b.latch := rfl
@[simp] theorem Block.modTxRing_ticks (r : Nat) (f : TxRing → TxRing) : (b.modTxRing r f).ticks = b.ticks := rfl
@[simp] theorem Block.modTxRing_refLost (r : Nat) (f : TxRing → TxRing) : (b.modTxRing r f).refLost = b.refLost := rfl
@[simp] theorem Block.modTxRing_baseA (r : Nat) (f : TxRing → TxRing) : (b.modTxRing r f).baseA = b.baseA := rfl
@[simp] theorem Block.modTxRing_baseB (r : Nat) (f : TxRing → TxRing) : (b.modTxRing r f).baseB = b.baseB := rfl
@[simp] theorem Block.modTxRing_switchTick (r : Nat) (f : TxRing → TxRing) : (b.modTxRing r f).switchTick = b.switchTick := rfl
@[simp] theorem Block.modTxRing_dies (r : Nat) (f : TxRing → TxRing) : (b.modTxRing r f).dies = b.dies := rfl
@[simp] theorem Block.modTxRing_ports (r : Nat) (f : TxRing → TxRing) : (b.modTxRing r f).ports = b.ports := rfl
@[simp] theorem Block.modTxRing_clusters (r : Nat) (f : TxRing → TxRing) : (b.modTxRing r f).clusters = b.clusters := rfl
@[simp] theorem Block.modTxRing_regions (r : Nat) (f : TxRing → TxRing) : (b.modTxRing r f).regions = b.regions := rfl
@[simp] theorem Block.modTxRing_engines (r : Nat) (f : TxRing → TxRing) : (b.modTxRing r f).engines = b.engines := rfl
@[simp] theorem Block.modTxRing_rings (r : Nat) (f : TxRing → TxRing) : (b.modTxRing r f).rings = b.rings := rfl
@[simp] theorem Block.modTxRing_fifos (r : Nat) (f : TxRing → TxRing) : (b.modTxRing r f).fifos = b.fifos := rfl
@[simp] theorem Block.modTxRing_hostLinks (r : Nat) (f : TxRing → TxRing) : (b.modTxRing r f).hostLinks = b.hostLinks := rfl
@[simp] theorem Block.modTxRing_links (r : Nat) (f : TxRing → TxRing) : (b.modTxRing r f).links = b.links := rfl
@[simp] theorem Block.modTxRing_hbms (r : Nat) (f : TxRing → TxRing) : (b.modTxRing r f).hbms = b.hbms := rfl
@[simp] theorem Block.modTxRing_slow (r : Nat) (f : TxRing → TxRing) : (b.modTxRing r f).slow = b.slow := rfl
@[simp] theorem Block.modTxRing_rxRings (r : Nat) (f : TxRing → TxRing) : (b.modTxRing r f).rxRings = b.rxRings := rfl
@[simp] theorem Block.modTxRing_pools (r : Nat) (f : TxRing → TxRing) : (b.modTxRing r f).pools = b.pools := rfl
@[simp] theorem Block.modTxRing_ringInts (r : Nat) (f : TxRing → TxRing) : (b.modTxRing r f).ringInts = b.ringInts := rfl
@[simp] theorem Block.modTxRing_insts (r : Nat) (f : TxRing → TxRing) : (b.modTxRing r f).insts = b.insts := rfl
@[simp] theorem Block.modTxRing_vfEnable (r : Nat) (f : TxRing → TxRing) : (b.modTxRing r f).vfEnable = b.vfEnable := rfl
@[simp] theorem Block.modTxRing_numVfs (r : Nat) (f : TxRing → TxRing) : (b.modTxRing r f).numVfs = b.numVfs := rfl
@[simp] theorem Block.modTxRing_txLast (r : Nat) (f : TxRing → TxRing) : (b.modTxRing r f).txLast = b.txLast := rfl
@[simp] theorem Block.modTxRing_jobs (r : Nat) (f : TxRing → TxRing) : (b.modTxRing r f).jobs = b.jobs := rfl
@[simp] theorem Block.modTxRing_dmaEng (r : Nat) (f : TxRing → TxRing) : (b.modTxRing r f).dmaEng = b.dmaEng := rfl
@[simp] theorem Block.modTxRing_jobCount (r : Nat) (f : TxRing → TxRing) : (b.modTxRing r f).jobCount = b.jobCount := rfl
@[simp] theorem Block.modTxRing_dmaLast (r : Nat) (f : TxRing → TxRing) : (b.modTxRing r f).dmaLast = b.dmaLast := rfl
@[simp] theorem Block.modTxRing_frames (r : Nat) (f : TxRing → TxRing) : (b.modTxRing r f).frames = b.frames := rfl
@[simp] theorem Block.modTxRing_nextFrame (r : Nat) (f : TxRing → TxRing) : (b.modTxRing r f).nextFrame = b.nextFrame := rfl
@[simp] theorem Block.modTxRing_flt (r : Nat) (f : TxRing → TxRing) : (b.modTxRing r f).flt = b.flt := rfl
@[simp] theorem Block.modTxRing_inflight (r : Nat) (f : TxRing → TxRing) : (b.modTxRing r f).inflight = b.inflight := rfl
@[simp] theorem Block.modTxRing_lastMsg (r : Nat) (f : TxRing → TxRing) : (b.modTxRing r f).lastMsg = b.lastMsg := rfl
@[simp] theorem Block.modTxRing_records (r : Nat) (f : TxRing → TxRing) : (b.modTxRing r f).records = b.records := rfl
@[simp] theorem Block.modTxRing_locked (r : Nat) (f : TxRing → TxRing) : (b.modTxRing r f).locked = b.locked := rfl
@[simp] theorem Block.modTxRing_pair (r : Nat) (f : TxRing → TxRing) : (b.modTxRing r f).pair = b.pair := rfl
@[simp] theorem Block.modTxRing_chain (r : Nat) (f : TxRing → TxRing) : (b.modTxRing r f).chain = b.chain := rfl
@[simp] theorem Block.modTxRing_boot (r : Nat) (f : TxRing → TxRing) : (b.modTxRing r f).boot = b.boot := rfl
@[simp] theorem Block.modTxRing_pkgHold (r : Nat) (f : TxRing → TxRing) : (b.modTxRing r f).pkgHold = b.pkgHold := rfl
@[simp] theorem Block.modTxRing_pinLow (r : Nat) (f : TxRing → TxRing) : (b.modTxRing r f).pinLow = b.pinLow := rfl
@[simp] theorem Block.modTxRing_relPin (r : Nat) (f : TxRing → TxRing) : (b.modTxRing r f).relPin = b.relPin := rfl
@[simp] theorem Block.modTxRing_strapPins (r : Nat) (f : TxRing → TxRing) : (b.modTxRing r f).strapPins = b.strapPins := rfl
@[simp] theorem Block.modTxRing_fuses (r : Nat) (f : TxRing → TxRing) : (b.modTxRing r f).fuses = b.fuses := rfl
@[simp] theorem Block.modTxRing_faultN (r : Nat) (f : TxRing → TxRing) : (b.modTxRing r f).faultN = b.faultN := rfl
@[simp] theorem Block.modTxRing_snap (r : Nat) (f : TxRing → TxRing) : (b.modTxRing r f).snap = b.snap := rfl
@[simp] theorem Block.modTxRing_pendSnap (r : Nat) (f : TxRing → TxRing) : (b.modTxRing r f).pendSnap = b.pendSnap := rfl
@[simp] theorem Block.modTxRing_refusals (r : Nat) (f : TxRing → TxRing) : (b.modTxRing r f).refusals = b.refusals := rfl
@[simp] theorem Block.modTxRing_out (r : Nat) (f : TxRing → TxRing) : (b.modTxRing r f).out = b.out := rfl
@[simp] theorem Block.modTxRing_fresh (r : Nat) (f : TxRing → TxRing) : (b.modTxRing r f).fresh = b.fresh := rfl
@[simp] theorem Block.modTxRing_word (r : Nat) (f : TxRing → TxRing) (y0 : Nat) : (b.modTxRing r f).word y0 = b.word y0 := rfl
@[simp] theorem Block.modTxRing_fld (r : Nat) (f : TxRing → TxRing) (y0 : Nat) (z0 : Bf) : (b.modTxRing r f).fld y0 z0 = b.fld y0 z0 := rfl
@[simp] theorem Block.modTxRing_flag (r : Nat) (f : TxRing → TxRing) (y0 : Nat) (z0 : Bf) : (b.modTxRing r f).flag y0 z0 = b.flag y0 z0 := rfl
@[simp] theorem Block.modTxRing_ctr (r : Nat) (f : TxRing → TxRing) (y0 : Nat) : (b.modTxRing r f).ctr y0 = b.ctr y0 := rfl
@[simp] theorem Block.modTxRing_die (r : Nat) (f : TxRing → TxRing) (y0 : Nat) : (b.modTxRing r f).die y0 = b.die y0 := rfl
@[simp] theorem Block.modTxRing_port (r : Nat) (f : TxRing → TxRing) (y0 : Nat) : (b.modTxRing r f).port y0 = b.port y0 := rfl
@[simp] theorem Block.modTxRing_cluster (r : Nat) (f : TxRing → TxRing) (y0 : Nat) : (b.modTxRing r f).cluster y0 = b.cluster y0 := rfl
@[simp] theorem Block.modTxRing_region (r : Nat) (f : TxRing → TxRing) (y0 : Nat) : (b.modTxRing r f).region y0 = b.region y0 := rfl
@[simp] theorem Block.modTxRing_engine (r : Nat) (f : TxRing → TxRing) (y0 : Nat) : (b.modTxRing r f).engine y0 = b.engine y0 := rfl
@[simp] theorem Block.modTxRing_frame (r : Nat) (f : TxRing → TxRing) (y0 : Nat) : (b.modTxRing r f).frame y0 = b.frame y0 := rfl
@[simp] theorem Block.modTxRing_latched (r : Nat) (f : TxRing → TxRing) (y0 z0 : Nat) : (b.modTxRing r f).latched y0 z0 = b.latched y0 z0 := rfl
@[simp] theorem Block.modTxRing_inst (r : Nat) (f : TxRing → TxRing) (y0 : Nat) : (b.modTxRing r f).inst y0 = b.inst y0 := rfl
@[simp] theorem Block.modTxRing_rxRing (r : Nat) (f : TxRing → TxRing) (y0 : Nat) : (b.modTxRing r f).rxRing y0 = b.rxRing y0 := rfl
@[simp] theorem Block.modTxRing_pool (r : Nat) (f : TxRing → TxRing) (y0 z0 : Nat) : (b.modTxRing r f).pool y0 z0 = b.pool y0 z0 := rfl
@[simp] theorem Block.modTxRing_ring (r : Nat) (f : TxRing → TxRing) (y0 : Nat) : (b.modTxRing r f).ring y0 = b.ring y0 := rfl
@[simp] theorem Block.modTxRing_link (r : Nat) (f : TxRing → TxRing) (y0 z0 : Nat) : (b.modTxRing r f).link y0 z0 = b.link y0 z0 := rfl
@[simp] theorem Block.modTxRing_fifo (r : Nat) (f : TxRing → TxRing) (y0 z0 : Nat) : (b.modTxRing r f).fifo y0 z0 = b.fifo y0 z0 := rfl
@[simp] theorem Block.modTxRing_frozen (r : Nat) (f : TxRing → TxRing) (y0 : Nat) : (b.modTxRing r f).frozen y0 = b.frozen y0 := rfl
@[simp] theorem Block.modTxRing_stopped (r : Nat) (f : TxRing → TxRing) (y0 : Nat) : (b.modTxRing r f).stopped y0 = b.stopped y0 := rfl
@[simp] theorem Block.modTxRing_ctx (r : Nat) (f : TxRing → TxRing) (y0 z0 : Nat) : (b.modTxRing r f).ctx y0 z0 = b.ctx y0 z0 := rfl
@[simp] theorem Block.modTxRing_at_ (r : Nat) (f : TxRing → TxRing) (y0 : Nat) (z0 : Loc) : (b.modTxRing r f).at_ y0 z0 = b.at_ y0 z0 := rfl
@[simp] theorem Block.modTxRing_stgFill (r : Nat) (f : TxRing → TxRing) (y0 : Nat) : (b.modTxRing r f).stgFill y0 = b.stgFill y0 := rfl
@[simp] theorem Block.modTxRing_txAt (r : Nat) (f : TxRing → TxRing) (y0 : Nat) (z0 : TxStage) : (b.modTxRing r f).txAt y0 z0 = b.txAt y0 z0 := rfl

/-! ## modRxRing -/

@[simp] theorem Block.modRxRing_regs (r : Nat) (f : RxRing → RxRing) : (b.modRxRing r f).regs = b.regs := rfl
@[simp] theorem Block.modRxRing_ctrs (r : Nat) (f : RxRing → RxRing) : (b.modRxRing r f).ctrs = b.ctrs := rfl
@[simp] theorem Block.modRxRing_latch (r : Nat) (f : RxRing → RxRing) : (b.modRxRing r f).latch = b.latch := rfl
@[simp] theorem Block.modRxRing_ticks (r : Nat) (f : RxRing → RxRing) : (b.modRxRing r f).ticks = b.ticks := rfl
@[simp] theorem Block.modRxRing_refLost (r : Nat) (f : RxRing → RxRing) : (b.modRxRing r f).refLost = b.refLost := rfl
@[simp] theorem Block.modRxRing_baseA (r : Nat) (f : RxRing → RxRing) : (b.modRxRing r f).baseA = b.baseA := rfl
@[simp] theorem Block.modRxRing_baseB (r : Nat) (f : RxRing → RxRing) : (b.modRxRing r f).baseB = b.baseB := rfl
@[simp] theorem Block.modRxRing_switchTick (r : Nat) (f : RxRing → RxRing) : (b.modRxRing r f).switchTick = b.switchTick := rfl
@[simp] theorem Block.modRxRing_dies (r : Nat) (f : RxRing → RxRing) : (b.modRxRing r f).dies = b.dies := rfl
@[simp] theorem Block.modRxRing_ports (r : Nat) (f : RxRing → RxRing) : (b.modRxRing r f).ports = b.ports := rfl
@[simp] theorem Block.modRxRing_clusters (r : Nat) (f : RxRing → RxRing) : (b.modRxRing r f).clusters = b.clusters := rfl
@[simp] theorem Block.modRxRing_regions (r : Nat) (f : RxRing → RxRing) : (b.modRxRing r f).regions = b.regions := rfl
@[simp] theorem Block.modRxRing_engines (r : Nat) (f : RxRing → RxRing) : (b.modRxRing r f).engines = b.engines := rfl
@[simp] theorem Block.modRxRing_rings (r : Nat) (f : RxRing → RxRing) : (b.modRxRing r f).rings = b.rings := rfl
@[simp] theorem Block.modRxRing_fifos (r : Nat) (f : RxRing → RxRing) : (b.modRxRing r f).fifos = b.fifos := rfl
@[simp] theorem Block.modRxRing_hostLinks (r : Nat) (f : RxRing → RxRing) : (b.modRxRing r f).hostLinks = b.hostLinks := rfl
@[simp] theorem Block.modRxRing_links (r : Nat) (f : RxRing → RxRing) : (b.modRxRing r f).links = b.links := rfl
@[simp] theorem Block.modRxRing_hbms (r : Nat) (f : RxRing → RxRing) : (b.modRxRing r f).hbms = b.hbms := rfl
@[simp] theorem Block.modRxRing_slow (r : Nat) (f : RxRing → RxRing) : (b.modRxRing r f).slow = b.slow := rfl
@[simp] theorem Block.modRxRing_txRings (r : Nat) (f : RxRing → RxRing) : (b.modRxRing r f).txRings = b.txRings := rfl
@[simp] theorem Block.modRxRing_pools (r : Nat) (f : RxRing → RxRing) : (b.modRxRing r f).pools = b.pools := rfl
@[simp] theorem Block.modRxRing_ringInts (r : Nat) (f : RxRing → RxRing) : (b.modRxRing r f).ringInts = b.ringInts := rfl
@[simp] theorem Block.modRxRing_insts (r : Nat) (f : RxRing → RxRing) : (b.modRxRing r f).insts = b.insts := rfl
@[simp] theorem Block.modRxRing_vfEnable (r : Nat) (f : RxRing → RxRing) : (b.modRxRing r f).vfEnable = b.vfEnable := rfl
@[simp] theorem Block.modRxRing_numVfs (r : Nat) (f : RxRing → RxRing) : (b.modRxRing r f).numVfs = b.numVfs := rfl
@[simp] theorem Block.modRxRing_txLast (r : Nat) (f : RxRing → RxRing) : (b.modRxRing r f).txLast = b.txLast := rfl
@[simp] theorem Block.modRxRing_jobs (r : Nat) (f : RxRing → RxRing) : (b.modRxRing r f).jobs = b.jobs := rfl
@[simp] theorem Block.modRxRing_dmaEng (r : Nat) (f : RxRing → RxRing) : (b.modRxRing r f).dmaEng = b.dmaEng := rfl
@[simp] theorem Block.modRxRing_jobCount (r : Nat) (f : RxRing → RxRing) : (b.modRxRing r f).jobCount = b.jobCount := rfl
@[simp] theorem Block.modRxRing_dmaLast (r : Nat) (f : RxRing → RxRing) : (b.modRxRing r f).dmaLast = b.dmaLast := rfl
@[simp] theorem Block.modRxRing_frames (r : Nat) (f : RxRing → RxRing) : (b.modRxRing r f).frames = b.frames := rfl
@[simp] theorem Block.modRxRing_nextFrame (r : Nat) (f : RxRing → RxRing) : (b.modRxRing r f).nextFrame = b.nextFrame := rfl
@[simp] theorem Block.modRxRing_flt (r : Nat) (f : RxRing → RxRing) : (b.modRxRing r f).flt = b.flt := rfl
@[simp] theorem Block.modRxRing_inflight (r : Nat) (f : RxRing → RxRing) : (b.modRxRing r f).inflight = b.inflight := rfl
@[simp] theorem Block.modRxRing_lastMsg (r : Nat) (f : RxRing → RxRing) : (b.modRxRing r f).lastMsg = b.lastMsg := rfl
@[simp] theorem Block.modRxRing_records (r : Nat) (f : RxRing → RxRing) : (b.modRxRing r f).records = b.records := rfl
@[simp] theorem Block.modRxRing_locked (r : Nat) (f : RxRing → RxRing) : (b.modRxRing r f).locked = b.locked := rfl
@[simp] theorem Block.modRxRing_pair (r : Nat) (f : RxRing → RxRing) : (b.modRxRing r f).pair = b.pair := rfl
@[simp] theorem Block.modRxRing_chain (r : Nat) (f : RxRing → RxRing) : (b.modRxRing r f).chain = b.chain := rfl
@[simp] theorem Block.modRxRing_boot (r : Nat) (f : RxRing → RxRing) : (b.modRxRing r f).boot = b.boot := rfl
@[simp] theorem Block.modRxRing_pkgHold (r : Nat) (f : RxRing → RxRing) : (b.modRxRing r f).pkgHold = b.pkgHold := rfl
@[simp] theorem Block.modRxRing_pinLow (r : Nat) (f : RxRing → RxRing) : (b.modRxRing r f).pinLow = b.pinLow := rfl
@[simp] theorem Block.modRxRing_relPin (r : Nat) (f : RxRing → RxRing) : (b.modRxRing r f).relPin = b.relPin := rfl
@[simp] theorem Block.modRxRing_strapPins (r : Nat) (f : RxRing → RxRing) : (b.modRxRing r f).strapPins = b.strapPins := rfl
@[simp] theorem Block.modRxRing_fuses (r : Nat) (f : RxRing → RxRing) : (b.modRxRing r f).fuses = b.fuses := rfl
@[simp] theorem Block.modRxRing_faultN (r : Nat) (f : RxRing → RxRing) : (b.modRxRing r f).faultN = b.faultN := rfl
@[simp] theorem Block.modRxRing_snap (r : Nat) (f : RxRing → RxRing) : (b.modRxRing r f).snap = b.snap := rfl
@[simp] theorem Block.modRxRing_pendSnap (r : Nat) (f : RxRing → RxRing) : (b.modRxRing r f).pendSnap = b.pendSnap := rfl
@[simp] theorem Block.modRxRing_refusals (r : Nat) (f : RxRing → RxRing) : (b.modRxRing r f).refusals = b.refusals := rfl
@[simp] theorem Block.modRxRing_out (r : Nat) (f : RxRing → RxRing) : (b.modRxRing r f).out = b.out := rfl
@[simp] theorem Block.modRxRing_fresh (r : Nat) (f : RxRing → RxRing) : (b.modRxRing r f).fresh = b.fresh := rfl
@[simp] theorem Block.modRxRing_word (r : Nat) (f : RxRing → RxRing) (y0 : Nat) : (b.modRxRing r f).word y0 = b.word y0 := rfl
@[simp] theorem Block.modRxRing_fld (r : Nat) (f : RxRing → RxRing) (y0 : Nat) (z0 : Bf) : (b.modRxRing r f).fld y0 z0 = b.fld y0 z0 := rfl
@[simp] theorem Block.modRxRing_flag (r : Nat) (f : RxRing → RxRing) (y0 : Nat) (z0 : Bf) : (b.modRxRing r f).flag y0 z0 = b.flag y0 z0 := rfl
@[simp] theorem Block.modRxRing_ctr (r : Nat) (f : RxRing → RxRing) (y0 : Nat) : (b.modRxRing r f).ctr y0 = b.ctr y0 := rfl
@[simp] theorem Block.modRxRing_die (r : Nat) (f : RxRing → RxRing) (y0 : Nat) : (b.modRxRing r f).die y0 = b.die y0 := rfl
@[simp] theorem Block.modRxRing_port (r : Nat) (f : RxRing → RxRing) (y0 : Nat) : (b.modRxRing r f).port y0 = b.port y0 := rfl
@[simp] theorem Block.modRxRing_cluster (r : Nat) (f : RxRing → RxRing) (y0 : Nat) : (b.modRxRing r f).cluster y0 = b.cluster y0 := rfl
@[simp] theorem Block.modRxRing_region (r : Nat) (f : RxRing → RxRing) (y0 : Nat) : (b.modRxRing r f).region y0 = b.region y0 := rfl
@[simp] theorem Block.modRxRing_engine (r : Nat) (f : RxRing → RxRing) (y0 : Nat) : (b.modRxRing r f).engine y0 = b.engine y0 := rfl
@[simp] theorem Block.modRxRing_frame (r : Nat) (f : RxRing → RxRing) (y0 : Nat) : (b.modRxRing r f).frame y0 = b.frame y0 := rfl
@[simp] theorem Block.modRxRing_latched (r : Nat) (f : RxRing → RxRing) (y0 z0 : Nat) : (b.modRxRing r f).latched y0 z0 = b.latched y0 z0 := rfl
@[simp] theorem Block.modRxRing_inst (r : Nat) (f : RxRing → RxRing) (y0 : Nat) : (b.modRxRing r f).inst y0 = b.inst y0 := rfl
@[simp] theorem Block.modRxRing_txRing (r : Nat) (f : RxRing → RxRing) (y0 : Nat) : (b.modRxRing r f).txRing y0 = b.txRing y0 := rfl
@[simp] theorem Block.modRxRing_pool (r : Nat) (f : RxRing → RxRing) (y0 z0 : Nat) : (b.modRxRing r f).pool y0 z0 = b.pool y0 z0 := rfl
@[simp] theorem Block.modRxRing_ring (r : Nat) (f : RxRing → RxRing) (y0 : Nat) : (b.modRxRing r f).ring y0 = b.ring y0 := rfl
@[simp] theorem Block.modRxRing_link (r : Nat) (f : RxRing → RxRing) (y0 z0 : Nat) : (b.modRxRing r f).link y0 z0 = b.link y0 z0 := rfl
@[simp] theorem Block.modRxRing_fifo (r : Nat) (f : RxRing → RxRing) (y0 z0 : Nat) : (b.modRxRing r f).fifo y0 z0 = b.fifo y0 z0 := rfl
@[simp] theorem Block.modRxRing_frozen (r : Nat) (f : RxRing → RxRing) (y0 : Nat) : (b.modRxRing r f).frozen y0 = b.frozen y0 := rfl
@[simp] theorem Block.modRxRing_stopped (r : Nat) (f : RxRing → RxRing) (y0 : Nat) : (b.modRxRing r f).stopped y0 = b.stopped y0 := rfl
@[simp] theorem Block.modRxRing_ctx (r : Nat) (f : RxRing → RxRing) (y0 z0 : Nat) : (b.modRxRing r f).ctx y0 z0 = b.ctx y0 z0 := rfl
@[simp] theorem Block.modRxRing_at_ (r : Nat) (f : RxRing → RxRing) (y0 : Nat) (z0 : Loc) : (b.modRxRing r f).at_ y0 z0 = b.at_ y0 z0 := rfl
@[simp] theorem Block.modRxRing_stgFill (r : Nat) (f : RxRing → RxRing) (y0 : Nat) : (b.modRxRing r f).stgFill y0 = b.stgFill y0 := rfl
@[simp] theorem Block.modRxRing_txAt (r : Nat) (f : RxRing → RxRing) (y0 : Nat) (z0 : TxStage) : (b.modRxRing r f).txAt y0 z0 = b.txAt y0 z0 := rfl

/-! ## modPool -/

@[simp] theorem Block.modPool_regs (i k : Nat) (f : Pool → Pool) : (b.modPool i k f).regs = b.regs := rfl
@[simp] theorem Block.modPool_ctrs (i k : Nat) (f : Pool → Pool) : (b.modPool i k f).ctrs = b.ctrs := rfl
@[simp] theorem Block.modPool_latch (i k : Nat) (f : Pool → Pool) : (b.modPool i k f).latch = b.latch := rfl
@[simp] theorem Block.modPool_ticks (i k : Nat) (f : Pool → Pool) : (b.modPool i k f).ticks = b.ticks := rfl
@[simp] theorem Block.modPool_refLost (i k : Nat) (f : Pool → Pool) : (b.modPool i k f).refLost = b.refLost := rfl
@[simp] theorem Block.modPool_baseA (i k : Nat) (f : Pool → Pool) : (b.modPool i k f).baseA = b.baseA := rfl
@[simp] theorem Block.modPool_baseB (i k : Nat) (f : Pool → Pool) : (b.modPool i k f).baseB = b.baseB := rfl
@[simp] theorem Block.modPool_switchTick (i k : Nat) (f : Pool → Pool) : (b.modPool i k f).switchTick = b.switchTick := rfl
@[simp] theorem Block.modPool_dies (i k : Nat) (f : Pool → Pool) : (b.modPool i k f).dies = b.dies := rfl
@[simp] theorem Block.modPool_ports (i k : Nat) (f : Pool → Pool) : (b.modPool i k f).ports = b.ports := rfl
@[simp] theorem Block.modPool_clusters (i k : Nat) (f : Pool → Pool) : (b.modPool i k f).clusters = b.clusters := rfl
@[simp] theorem Block.modPool_regions (i k : Nat) (f : Pool → Pool) : (b.modPool i k f).regions = b.regions := rfl
@[simp] theorem Block.modPool_engines (i k : Nat) (f : Pool → Pool) : (b.modPool i k f).engines = b.engines := rfl
@[simp] theorem Block.modPool_rings (i k : Nat) (f : Pool → Pool) : (b.modPool i k f).rings = b.rings := rfl
@[simp] theorem Block.modPool_fifos (i k : Nat) (f : Pool → Pool) : (b.modPool i k f).fifos = b.fifos := rfl
@[simp] theorem Block.modPool_hostLinks (i k : Nat) (f : Pool → Pool) : (b.modPool i k f).hostLinks = b.hostLinks := rfl
@[simp] theorem Block.modPool_links (i k : Nat) (f : Pool → Pool) : (b.modPool i k f).links = b.links := rfl
@[simp] theorem Block.modPool_hbms (i k : Nat) (f : Pool → Pool) : (b.modPool i k f).hbms = b.hbms := rfl
@[simp] theorem Block.modPool_slow (i k : Nat) (f : Pool → Pool) : (b.modPool i k f).slow = b.slow := rfl
@[simp] theorem Block.modPool_txRings (i k : Nat) (f : Pool → Pool) : (b.modPool i k f).txRings = b.txRings := rfl
@[simp] theorem Block.modPool_rxRings (i k : Nat) (f : Pool → Pool) : (b.modPool i k f).rxRings = b.rxRings := rfl
@[simp] theorem Block.modPool_ringInts (i k : Nat) (f : Pool → Pool) : (b.modPool i k f).ringInts = b.ringInts := rfl
@[simp] theorem Block.modPool_insts (i k : Nat) (f : Pool → Pool) : (b.modPool i k f).insts = b.insts := rfl
@[simp] theorem Block.modPool_vfEnable (i k : Nat) (f : Pool → Pool) : (b.modPool i k f).vfEnable = b.vfEnable := rfl
@[simp] theorem Block.modPool_numVfs (i k : Nat) (f : Pool → Pool) : (b.modPool i k f).numVfs = b.numVfs := rfl
@[simp] theorem Block.modPool_txLast (i k : Nat) (f : Pool → Pool) : (b.modPool i k f).txLast = b.txLast := rfl
@[simp] theorem Block.modPool_jobs (i k : Nat) (f : Pool → Pool) : (b.modPool i k f).jobs = b.jobs := rfl
@[simp] theorem Block.modPool_dmaEng (i k : Nat) (f : Pool → Pool) : (b.modPool i k f).dmaEng = b.dmaEng := rfl
@[simp] theorem Block.modPool_jobCount (i k : Nat) (f : Pool → Pool) : (b.modPool i k f).jobCount = b.jobCount := rfl
@[simp] theorem Block.modPool_dmaLast (i k : Nat) (f : Pool → Pool) : (b.modPool i k f).dmaLast = b.dmaLast := rfl
@[simp] theorem Block.modPool_frames (i k : Nat) (f : Pool → Pool) : (b.modPool i k f).frames = b.frames := rfl
@[simp] theorem Block.modPool_nextFrame (i k : Nat) (f : Pool → Pool) : (b.modPool i k f).nextFrame = b.nextFrame := rfl
@[simp] theorem Block.modPool_flt (i k : Nat) (f : Pool → Pool) : (b.modPool i k f).flt = b.flt := rfl
@[simp] theorem Block.modPool_inflight (i k : Nat) (f : Pool → Pool) : (b.modPool i k f).inflight = b.inflight := rfl
@[simp] theorem Block.modPool_lastMsg (i k : Nat) (f : Pool → Pool) : (b.modPool i k f).lastMsg = b.lastMsg := rfl
@[simp] theorem Block.modPool_records (i k : Nat) (f : Pool → Pool) : (b.modPool i k f).records = b.records := rfl
@[simp] theorem Block.modPool_locked (i k : Nat) (f : Pool → Pool) : (b.modPool i k f).locked = b.locked := rfl
@[simp] theorem Block.modPool_pair (i k : Nat) (f : Pool → Pool) : (b.modPool i k f).pair = b.pair := rfl
@[simp] theorem Block.modPool_chain (i k : Nat) (f : Pool → Pool) : (b.modPool i k f).chain = b.chain := rfl
@[simp] theorem Block.modPool_boot (i k : Nat) (f : Pool → Pool) : (b.modPool i k f).boot = b.boot := rfl
@[simp] theorem Block.modPool_pkgHold (i k : Nat) (f : Pool → Pool) : (b.modPool i k f).pkgHold = b.pkgHold := rfl
@[simp] theorem Block.modPool_pinLow (i k : Nat) (f : Pool → Pool) : (b.modPool i k f).pinLow = b.pinLow := rfl
@[simp] theorem Block.modPool_relPin (i k : Nat) (f : Pool → Pool) : (b.modPool i k f).relPin = b.relPin := rfl
@[simp] theorem Block.modPool_strapPins (i k : Nat) (f : Pool → Pool) : (b.modPool i k f).strapPins = b.strapPins := rfl
@[simp] theorem Block.modPool_fuses (i k : Nat) (f : Pool → Pool) : (b.modPool i k f).fuses = b.fuses := rfl
@[simp] theorem Block.modPool_faultN (i k : Nat) (f : Pool → Pool) : (b.modPool i k f).faultN = b.faultN := rfl
@[simp] theorem Block.modPool_snap (i k : Nat) (f : Pool → Pool) : (b.modPool i k f).snap = b.snap := rfl
@[simp] theorem Block.modPool_pendSnap (i k : Nat) (f : Pool → Pool) : (b.modPool i k f).pendSnap = b.pendSnap := rfl
@[simp] theorem Block.modPool_refusals (i k : Nat) (f : Pool → Pool) : (b.modPool i k f).refusals = b.refusals := rfl
@[simp] theorem Block.modPool_out (i k : Nat) (f : Pool → Pool) : (b.modPool i k f).out = b.out := rfl
@[simp] theorem Block.modPool_fresh (i k : Nat) (f : Pool → Pool) : (b.modPool i k f).fresh = b.fresh := rfl
@[simp] theorem Block.modPool_word (i k : Nat) (f : Pool → Pool) (y0 : Nat) : (b.modPool i k f).word y0 = b.word y0 := rfl
@[simp] theorem Block.modPool_fld (i k : Nat) (f : Pool → Pool) (y0 : Nat) (z0 : Bf) : (b.modPool i k f).fld y0 z0 = b.fld y0 z0 := rfl
@[simp] theorem Block.modPool_flag (i k : Nat) (f : Pool → Pool) (y0 : Nat) (z0 : Bf) : (b.modPool i k f).flag y0 z0 = b.flag y0 z0 := rfl
@[simp] theorem Block.modPool_ctr (i k : Nat) (f : Pool → Pool) (y0 : Nat) : (b.modPool i k f).ctr y0 = b.ctr y0 := rfl
@[simp] theorem Block.modPool_die (i k : Nat) (f : Pool → Pool) (y0 : Nat) : (b.modPool i k f).die y0 = b.die y0 := rfl
@[simp] theorem Block.modPool_port (i k : Nat) (f : Pool → Pool) (y0 : Nat) : (b.modPool i k f).port y0 = b.port y0 := rfl
@[simp] theorem Block.modPool_cluster (i k : Nat) (f : Pool → Pool) (y0 : Nat) : (b.modPool i k f).cluster y0 = b.cluster y0 := rfl
@[simp] theorem Block.modPool_region (i k : Nat) (f : Pool → Pool) (y0 : Nat) : (b.modPool i k f).region y0 = b.region y0 := rfl
@[simp] theorem Block.modPool_engine (i k : Nat) (f : Pool → Pool) (y0 : Nat) : (b.modPool i k f).engine y0 = b.engine y0 := rfl
@[simp] theorem Block.modPool_frame (i k : Nat) (f : Pool → Pool) (y0 : Nat) : (b.modPool i k f).frame y0 = b.frame y0 := rfl
@[simp] theorem Block.modPool_latched (i k : Nat) (f : Pool → Pool) (y0 z0 : Nat) : (b.modPool i k f).latched y0 z0 = b.latched y0 z0 := rfl
@[simp] theorem Block.modPool_inst (i k : Nat) (f : Pool → Pool) (y0 : Nat) : (b.modPool i k f).inst y0 = b.inst y0 := rfl
@[simp] theorem Block.modPool_txRing (i k : Nat) (f : Pool → Pool) (y0 : Nat) : (b.modPool i k f).txRing y0 = b.txRing y0 := rfl
@[simp] theorem Block.modPool_rxRing (i k : Nat) (f : Pool → Pool) (y0 : Nat) : (b.modPool i k f).rxRing y0 = b.rxRing y0 := rfl
@[simp] theorem Block.modPool_ring (i k : Nat) (f : Pool → Pool) (y0 : Nat) : (b.modPool i k f).ring y0 = b.ring y0 := rfl
@[simp] theorem Block.modPool_link (i k : Nat) (f : Pool → Pool) (y0 z0 : Nat) : (b.modPool i k f).link y0 z0 = b.link y0 z0 := rfl
@[simp] theorem Block.modPool_fifo (i k : Nat) (f : Pool → Pool) (y0 z0 : Nat) : (b.modPool i k f).fifo y0 z0 = b.fifo y0 z0 := rfl
@[simp] theorem Block.modPool_frozen (i k : Nat) (f : Pool → Pool) (y0 : Nat) : (b.modPool i k f).frozen y0 = b.frozen y0 := rfl
@[simp] theorem Block.modPool_stopped (i k : Nat) (f : Pool → Pool) (y0 : Nat) : (b.modPool i k f).stopped y0 = b.stopped y0 := rfl
@[simp] theorem Block.modPool_ctx (i k : Nat) (f : Pool → Pool) (y0 z0 : Nat) : (b.modPool i k f).ctx y0 z0 = b.ctx y0 z0 := rfl
@[simp] theorem Block.modPool_at_ (i k : Nat) (f : Pool → Pool) (y0 : Nat) (z0 : Loc) : (b.modPool i k f).at_ y0 z0 = b.at_ y0 z0 := rfl
@[simp] theorem Block.modPool_stgFill (i k : Nat) (f : Pool → Pool) (y0 : Nat) : (b.modPool i k f).stgFill y0 = b.stgFill y0 := rfl
@[simp] theorem Block.modPool_txAt (i k : Nat) (f : Pool → Pool) (y0 : Nat) (z0 : TxStage) : (b.modPool i k f).txAt y0 z0 = b.txAt y0 z0 := rfl

/-! ## modPair -/

@[simp] theorem Block.modPair_regs (f : PairState → PairState) : (b.modPair f).regs = b.regs := rfl
@[simp] theorem Block.modPair_ctrs (f : PairState → PairState) : (b.modPair f).ctrs = b.ctrs := rfl
@[simp] theorem Block.modPair_latch (f : PairState → PairState) : (b.modPair f).latch = b.latch := rfl
@[simp] theorem Block.modPair_ticks (f : PairState → PairState) : (b.modPair f).ticks = b.ticks := rfl
@[simp] theorem Block.modPair_refLost (f : PairState → PairState) : (b.modPair f).refLost = b.refLost := rfl
@[simp] theorem Block.modPair_baseA (f : PairState → PairState) : (b.modPair f).baseA = b.baseA := rfl
@[simp] theorem Block.modPair_baseB (f : PairState → PairState) : (b.modPair f).baseB = b.baseB := rfl
@[simp] theorem Block.modPair_switchTick (f : PairState → PairState) : (b.modPair f).switchTick = b.switchTick := rfl
@[simp] theorem Block.modPair_dies (f : PairState → PairState) : (b.modPair f).dies = b.dies := rfl
@[simp] theorem Block.modPair_ports (f : PairState → PairState) : (b.modPair f).ports = b.ports := rfl
@[simp] theorem Block.modPair_clusters (f : PairState → PairState) : (b.modPair f).clusters = b.clusters := rfl
@[simp] theorem Block.modPair_regions (f : PairState → PairState) : (b.modPair f).regions = b.regions := rfl
@[simp] theorem Block.modPair_engines (f : PairState → PairState) : (b.modPair f).engines = b.engines := rfl
@[simp] theorem Block.modPair_rings (f : PairState → PairState) : (b.modPair f).rings = b.rings := rfl
@[simp] theorem Block.modPair_fifos (f : PairState → PairState) : (b.modPair f).fifos = b.fifos := rfl
@[simp] theorem Block.modPair_hostLinks (f : PairState → PairState) : (b.modPair f).hostLinks = b.hostLinks := rfl
@[simp] theorem Block.modPair_links (f : PairState → PairState) : (b.modPair f).links = b.links := rfl
@[simp] theorem Block.modPair_hbms (f : PairState → PairState) : (b.modPair f).hbms = b.hbms := rfl
@[simp] theorem Block.modPair_slow (f : PairState → PairState) : (b.modPair f).slow = b.slow := rfl
@[simp] theorem Block.modPair_txRings (f : PairState → PairState) : (b.modPair f).txRings = b.txRings := rfl
@[simp] theorem Block.modPair_rxRings (f : PairState → PairState) : (b.modPair f).rxRings = b.rxRings := rfl
@[simp] theorem Block.modPair_pools (f : PairState → PairState) : (b.modPair f).pools = b.pools := rfl
@[simp] theorem Block.modPair_ringInts (f : PairState → PairState) : (b.modPair f).ringInts = b.ringInts := rfl
@[simp] theorem Block.modPair_insts (f : PairState → PairState) : (b.modPair f).insts = b.insts := rfl
@[simp] theorem Block.modPair_vfEnable (f : PairState → PairState) : (b.modPair f).vfEnable = b.vfEnable := rfl
@[simp] theorem Block.modPair_numVfs (f : PairState → PairState) : (b.modPair f).numVfs = b.numVfs := rfl
@[simp] theorem Block.modPair_txLast (f : PairState → PairState) : (b.modPair f).txLast = b.txLast := rfl
@[simp] theorem Block.modPair_jobs (f : PairState → PairState) : (b.modPair f).jobs = b.jobs := rfl
@[simp] theorem Block.modPair_dmaEng (f : PairState → PairState) : (b.modPair f).dmaEng = b.dmaEng := rfl
@[simp] theorem Block.modPair_jobCount (f : PairState → PairState) : (b.modPair f).jobCount = b.jobCount := rfl
@[simp] theorem Block.modPair_dmaLast (f : PairState → PairState) : (b.modPair f).dmaLast = b.dmaLast := rfl
@[simp] theorem Block.modPair_frames (f : PairState → PairState) : (b.modPair f).frames = b.frames := rfl
@[simp] theorem Block.modPair_nextFrame (f : PairState → PairState) : (b.modPair f).nextFrame = b.nextFrame := rfl
@[simp] theorem Block.modPair_flt (f : PairState → PairState) : (b.modPair f).flt = b.flt := rfl
@[simp] theorem Block.modPair_inflight (f : PairState → PairState) : (b.modPair f).inflight = b.inflight := rfl
@[simp] theorem Block.modPair_lastMsg (f : PairState → PairState) : (b.modPair f).lastMsg = b.lastMsg := rfl
@[simp] theorem Block.modPair_records (f : PairState → PairState) : (b.modPair f).records = b.records := rfl
@[simp] theorem Block.modPair_locked (f : PairState → PairState) : (b.modPair f).locked = b.locked := rfl
@[simp] theorem Block.modPair_chain (f : PairState → PairState) : (b.modPair f).chain = b.chain := rfl
@[simp] theorem Block.modPair_boot (f : PairState → PairState) : (b.modPair f).boot = b.boot := rfl
@[simp] theorem Block.modPair_pkgHold (f : PairState → PairState) : (b.modPair f).pkgHold = b.pkgHold := rfl
@[simp] theorem Block.modPair_pinLow (f : PairState → PairState) : (b.modPair f).pinLow = b.pinLow := rfl
@[simp] theorem Block.modPair_relPin (f : PairState → PairState) : (b.modPair f).relPin = b.relPin := rfl
@[simp] theorem Block.modPair_strapPins (f : PairState → PairState) : (b.modPair f).strapPins = b.strapPins := rfl
@[simp] theorem Block.modPair_fuses (f : PairState → PairState) : (b.modPair f).fuses = b.fuses := rfl
@[simp] theorem Block.modPair_faultN (f : PairState → PairState) : (b.modPair f).faultN = b.faultN := rfl
@[simp] theorem Block.modPair_snap (f : PairState → PairState) : (b.modPair f).snap = b.snap := rfl
@[simp] theorem Block.modPair_pendSnap (f : PairState → PairState) : (b.modPair f).pendSnap = b.pendSnap := rfl
@[simp] theorem Block.modPair_refusals (f : PairState → PairState) : (b.modPair f).refusals = b.refusals := rfl
@[simp] theorem Block.modPair_out (f : PairState → PairState) : (b.modPair f).out = b.out := rfl
@[simp] theorem Block.modPair_fresh (f : PairState → PairState) : (b.modPair f).fresh = b.fresh := rfl
@[simp] theorem Block.modPair_word (f : PairState → PairState) (y0 : Nat) : (b.modPair f).word y0 = b.word y0 := rfl
@[simp] theorem Block.modPair_fld (f : PairState → PairState) (y0 : Nat) (z0 : Bf) : (b.modPair f).fld y0 z0 = b.fld y0 z0 := rfl
@[simp] theorem Block.modPair_flag (f : PairState → PairState) (y0 : Nat) (z0 : Bf) : (b.modPair f).flag y0 z0 = b.flag y0 z0 := rfl
@[simp] theorem Block.modPair_ctr (f : PairState → PairState) (y0 : Nat) : (b.modPair f).ctr y0 = b.ctr y0 := rfl
@[simp] theorem Block.modPair_die (f : PairState → PairState) (y0 : Nat) : (b.modPair f).die y0 = b.die y0 := rfl
@[simp] theorem Block.modPair_port (f : PairState → PairState) (y0 : Nat) : (b.modPair f).port y0 = b.port y0 := rfl
@[simp] theorem Block.modPair_cluster (f : PairState → PairState) (y0 : Nat) : (b.modPair f).cluster y0 = b.cluster y0 := rfl
@[simp] theorem Block.modPair_region (f : PairState → PairState) (y0 : Nat) : (b.modPair f).region y0 = b.region y0 := rfl
@[simp] theorem Block.modPair_engine (f : PairState → PairState) (y0 : Nat) : (b.modPair f).engine y0 = b.engine y0 := rfl
@[simp] theorem Block.modPair_frame (f : PairState → PairState) (y0 : Nat) : (b.modPair f).frame y0 = b.frame y0 := rfl
@[simp] theorem Block.modPair_latched (f : PairState → PairState) (y0 z0 : Nat) : (b.modPair f).latched y0 z0 = b.latched y0 z0 := rfl
@[simp] theorem Block.modPair_inst (f : PairState → PairState) (y0 : Nat) : (b.modPair f).inst y0 = b.inst y0 := rfl
@[simp] theorem Block.modPair_txRing (f : PairState → PairState) (y0 : Nat) : (b.modPair f).txRing y0 = b.txRing y0 := rfl
@[simp] theorem Block.modPair_rxRing (f : PairState → PairState) (y0 : Nat) : (b.modPair f).rxRing y0 = b.rxRing y0 := rfl
@[simp] theorem Block.modPair_pool (f : PairState → PairState) (y0 z0 : Nat) : (b.modPair f).pool y0 z0 = b.pool y0 z0 := rfl
@[simp] theorem Block.modPair_ring (f : PairState → PairState) (y0 : Nat) : (b.modPair f).ring y0 = b.ring y0 := rfl
@[simp] theorem Block.modPair_link (f : PairState → PairState) (y0 z0 : Nat) : (b.modPair f).link y0 z0 = b.link y0 z0 := rfl
@[simp] theorem Block.modPair_fifo (f : PairState → PairState) (y0 z0 : Nat) : (b.modPair f).fifo y0 z0 = b.fifo y0 z0 := rfl
@[simp] theorem Block.modPair_frozen (f : PairState → PairState) (y0 : Nat) : (b.modPair f).frozen y0 = b.frozen y0 := rfl
@[simp] theorem Block.modPair_stopped (f : PairState → PairState) (y0 : Nat) : (b.modPair f).stopped y0 = b.stopped y0 := rfl
@[simp] theorem Block.modPair_ctx (f : PairState → PairState) (y0 z0 : Nat) : (b.modPair f).ctx y0 z0 = b.ctx y0 z0 := rfl
@[simp] theorem Block.modPair_at_ (f : PairState → PairState) (y0 : Nat) (z0 : Loc) : (b.modPair f).at_ y0 z0 = b.at_ y0 z0 := rfl
@[simp] theorem Block.modPair_stgFill (f : PairState → PairState) (y0 : Nat) : (b.modPair f).stgFill y0 = b.stgFill y0 := rfl
@[simp] theorem Block.modPair_txAt (f : PairState → PairState) (y0 : Nat) (z0 : TxStage) : (b.modPair f).txAt y0 z0 = b.txAt y0 z0 := rfl

/-! ## modRing -/

@[simp] theorem Block.modRing_regs (d : Nat) (f : TraceRing → TraceRing) : (b.modRing d f).regs = b.regs := rfl
@[simp] theorem Block.modRing_ctrs (d : Nat) (f : TraceRing → TraceRing) : (b.modRing d f).ctrs = b.ctrs := rfl
@[simp] theorem Block.modRing_latch (d : Nat) (f : TraceRing → TraceRing) : (b.modRing d f).latch = b.latch := rfl
@[simp] theorem Block.modRing_ticks (d : Nat) (f : TraceRing → TraceRing) : (b.modRing d f).ticks = b.ticks := rfl
@[simp] theorem Block.modRing_refLost (d : Nat) (f : TraceRing → TraceRing) : (b.modRing d f).refLost = b.refLost := rfl
@[simp] theorem Block.modRing_baseA (d : Nat) (f : TraceRing → TraceRing) : (b.modRing d f).baseA = b.baseA := rfl
@[simp] theorem Block.modRing_baseB (d : Nat) (f : TraceRing → TraceRing) : (b.modRing d f).baseB = b.baseB := rfl
@[simp] theorem Block.modRing_switchTick (d : Nat) (f : TraceRing → TraceRing) : (b.modRing d f).switchTick = b.switchTick := rfl
@[simp] theorem Block.modRing_dies (d : Nat) (f : TraceRing → TraceRing) : (b.modRing d f).dies = b.dies := rfl
@[simp] theorem Block.modRing_ports (d : Nat) (f : TraceRing → TraceRing) : (b.modRing d f).ports = b.ports := rfl
@[simp] theorem Block.modRing_clusters (d : Nat) (f : TraceRing → TraceRing) : (b.modRing d f).clusters = b.clusters := rfl
@[simp] theorem Block.modRing_regions (d : Nat) (f : TraceRing → TraceRing) : (b.modRing d f).regions = b.regions := rfl
@[simp] theorem Block.modRing_engines (d : Nat) (f : TraceRing → TraceRing) : (b.modRing d f).engines = b.engines := rfl
@[simp] theorem Block.modRing_fifos (d : Nat) (f : TraceRing → TraceRing) : (b.modRing d f).fifos = b.fifos := rfl
@[simp] theorem Block.modRing_hostLinks (d : Nat) (f : TraceRing → TraceRing) : (b.modRing d f).hostLinks = b.hostLinks := rfl
@[simp] theorem Block.modRing_links (d : Nat) (f : TraceRing → TraceRing) : (b.modRing d f).links = b.links := rfl
@[simp] theorem Block.modRing_hbms (d : Nat) (f : TraceRing → TraceRing) : (b.modRing d f).hbms = b.hbms := rfl
@[simp] theorem Block.modRing_slow (d : Nat) (f : TraceRing → TraceRing) : (b.modRing d f).slow = b.slow := rfl
@[simp] theorem Block.modRing_txRings (d : Nat) (f : TraceRing → TraceRing) : (b.modRing d f).txRings = b.txRings := rfl
@[simp] theorem Block.modRing_rxRings (d : Nat) (f : TraceRing → TraceRing) : (b.modRing d f).rxRings = b.rxRings := rfl
@[simp] theorem Block.modRing_pools (d : Nat) (f : TraceRing → TraceRing) : (b.modRing d f).pools = b.pools := rfl
@[simp] theorem Block.modRing_ringInts (d : Nat) (f : TraceRing → TraceRing) : (b.modRing d f).ringInts = b.ringInts := rfl
@[simp] theorem Block.modRing_insts (d : Nat) (f : TraceRing → TraceRing) : (b.modRing d f).insts = b.insts := rfl
@[simp] theorem Block.modRing_vfEnable (d : Nat) (f : TraceRing → TraceRing) : (b.modRing d f).vfEnable = b.vfEnable := rfl
@[simp] theorem Block.modRing_numVfs (d : Nat) (f : TraceRing → TraceRing) : (b.modRing d f).numVfs = b.numVfs := rfl
@[simp] theorem Block.modRing_txLast (d : Nat) (f : TraceRing → TraceRing) : (b.modRing d f).txLast = b.txLast := rfl
@[simp] theorem Block.modRing_jobs (d : Nat) (f : TraceRing → TraceRing) : (b.modRing d f).jobs = b.jobs := rfl
@[simp] theorem Block.modRing_dmaEng (d : Nat) (f : TraceRing → TraceRing) : (b.modRing d f).dmaEng = b.dmaEng := rfl
@[simp] theorem Block.modRing_jobCount (d : Nat) (f : TraceRing → TraceRing) : (b.modRing d f).jobCount = b.jobCount := rfl
@[simp] theorem Block.modRing_dmaLast (d : Nat) (f : TraceRing → TraceRing) : (b.modRing d f).dmaLast = b.dmaLast := rfl
@[simp] theorem Block.modRing_frames (d : Nat) (f : TraceRing → TraceRing) : (b.modRing d f).frames = b.frames := rfl
@[simp] theorem Block.modRing_nextFrame (d : Nat) (f : TraceRing → TraceRing) : (b.modRing d f).nextFrame = b.nextFrame := rfl
@[simp] theorem Block.modRing_flt (d : Nat) (f : TraceRing → TraceRing) : (b.modRing d f).flt = b.flt := rfl
@[simp] theorem Block.modRing_inflight (d : Nat) (f : TraceRing → TraceRing) : (b.modRing d f).inflight = b.inflight := rfl
@[simp] theorem Block.modRing_lastMsg (d : Nat) (f : TraceRing → TraceRing) : (b.modRing d f).lastMsg = b.lastMsg := rfl
@[simp] theorem Block.modRing_records (d : Nat) (f : TraceRing → TraceRing) : (b.modRing d f).records = b.records := rfl
@[simp] theorem Block.modRing_locked (d : Nat) (f : TraceRing → TraceRing) : (b.modRing d f).locked = b.locked := rfl
@[simp] theorem Block.modRing_pair (d : Nat) (f : TraceRing → TraceRing) : (b.modRing d f).pair = b.pair := rfl
@[simp] theorem Block.modRing_chain (d : Nat) (f : TraceRing → TraceRing) : (b.modRing d f).chain = b.chain := rfl
@[simp] theorem Block.modRing_boot (d : Nat) (f : TraceRing → TraceRing) : (b.modRing d f).boot = b.boot := rfl
@[simp] theorem Block.modRing_pkgHold (d : Nat) (f : TraceRing → TraceRing) : (b.modRing d f).pkgHold = b.pkgHold := rfl
@[simp] theorem Block.modRing_pinLow (d : Nat) (f : TraceRing → TraceRing) : (b.modRing d f).pinLow = b.pinLow := rfl
@[simp] theorem Block.modRing_relPin (d : Nat) (f : TraceRing → TraceRing) : (b.modRing d f).relPin = b.relPin := rfl
@[simp] theorem Block.modRing_strapPins (d : Nat) (f : TraceRing → TraceRing) : (b.modRing d f).strapPins = b.strapPins := rfl
@[simp] theorem Block.modRing_fuses (d : Nat) (f : TraceRing → TraceRing) : (b.modRing d f).fuses = b.fuses := rfl
@[simp] theorem Block.modRing_faultN (d : Nat) (f : TraceRing → TraceRing) : (b.modRing d f).faultN = b.faultN := rfl
@[simp] theorem Block.modRing_snap (d : Nat) (f : TraceRing → TraceRing) : (b.modRing d f).snap = b.snap := rfl
@[simp] theorem Block.modRing_pendSnap (d : Nat) (f : TraceRing → TraceRing) : (b.modRing d f).pendSnap = b.pendSnap := rfl
@[simp] theorem Block.modRing_refusals (d : Nat) (f : TraceRing → TraceRing) : (b.modRing d f).refusals = b.refusals := rfl
@[simp] theorem Block.modRing_out (d : Nat) (f : TraceRing → TraceRing) : (b.modRing d f).out = b.out := rfl
@[simp] theorem Block.modRing_fresh (d : Nat) (f : TraceRing → TraceRing) : (b.modRing d f).fresh = b.fresh := rfl
@[simp] theorem Block.modRing_word (d : Nat) (f : TraceRing → TraceRing) (y0 : Nat) : (b.modRing d f).word y0 = b.word y0 := rfl
@[simp] theorem Block.modRing_fld (d : Nat) (f : TraceRing → TraceRing) (y0 : Nat) (z0 : Bf) : (b.modRing d f).fld y0 z0 = b.fld y0 z0 := rfl
@[simp] theorem Block.modRing_flag (d : Nat) (f : TraceRing → TraceRing) (y0 : Nat) (z0 : Bf) : (b.modRing d f).flag y0 z0 = b.flag y0 z0 := rfl
@[simp] theorem Block.modRing_ctr (d : Nat) (f : TraceRing → TraceRing) (y0 : Nat) : (b.modRing d f).ctr y0 = b.ctr y0 := rfl
@[simp] theorem Block.modRing_die (d : Nat) (f : TraceRing → TraceRing) (y0 : Nat) : (b.modRing d f).die y0 = b.die y0 := rfl
@[simp] theorem Block.modRing_port (d : Nat) (f : TraceRing → TraceRing) (y0 : Nat) : (b.modRing d f).port y0 = b.port y0 := rfl
@[simp] theorem Block.modRing_cluster (d : Nat) (f : TraceRing → TraceRing) (y0 : Nat) : (b.modRing d f).cluster y0 = b.cluster y0 := rfl
@[simp] theorem Block.modRing_region (d : Nat) (f : TraceRing → TraceRing) (y0 : Nat) : (b.modRing d f).region y0 = b.region y0 := rfl
@[simp] theorem Block.modRing_engine (d : Nat) (f : TraceRing → TraceRing) (y0 : Nat) : (b.modRing d f).engine y0 = b.engine y0 := rfl
@[simp] theorem Block.modRing_frame (d : Nat) (f : TraceRing → TraceRing) (y0 : Nat) : (b.modRing d f).frame y0 = b.frame y0 := rfl
@[simp] theorem Block.modRing_latched (d : Nat) (f : TraceRing → TraceRing) (y0 z0 : Nat) : (b.modRing d f).latched y0 z0 = b.latched y0 z0 := rfl
@[simp] theorem Block.modRing_inst (d : Nat) (f : TraceRing → TraceRing) (y0 : Nat) : (b.modRing d f).inst y0 = b.inst y0 := rfl
@[simp] theorem Block.modRing_txRing (d : Nat) (f : TraceRing → TraceRing) (y0 : Nat) : (b.modRing d f).txRing y0 = b.txRing y0 := rfl
@[simp] theorem Block.modRing_rxRing (d : Nat) (f : TraceRing → TraceRing) (y0 : Nat) : (b.modRing d f).rxRing y0 = b.rxRing y0 := rfl
@[simp] theorem Block.modRing_pool (d : Nat) (f : TraceRing → TraceRing) (y0 z0 : Nat) : (b.modRing d f).pool y0 z0 = b.pool y0 z0 := rfl
@[simp] theorem Block.modRing_link (d : Nat) (f : TraceRing → TraceRing) (y0 z0 : Nat) : (b.modRing d f).link y0 z0 = b.link y0 z0 := rfl
@[simp] theorem Block.modRing_fifo (d : Nat) (f : TraceRing → TraceRing) (y0 z0 : Nat) : (b.modRing d f).fifo y0 z0 = b.fifo y0 z0 := rfl
@[simp] theorem Block.modRing_frozen (d : Nat) (f : TraceRing → TraceRing) (y0 : Nat) : (b.modRing d f).frozen y0 = b.frozen y0 := rfl
@[simp] theorem Block.modRing_stopped (d : Nat) (f : TraceRing → TraceRing) (y0 : Nat) : (b.modRing d f).stopped y0 = b.stopped y0 := rfl
@[simp] theorem Block.modRing_ctx (d : Nat) (f : TraceRing → TraceRing) (y0 z0 : Nat) : (b.modRing d f).ctx y0 z0 = b.ctx y0 z0 := rfl
@[simp] theorem Block.modRing_at_ (d : Nat) (f : TraceRing → TraceRing) (y0 : Nat) (z0 : Loc) : (b.modRing d f).at_ y0 z0 = b.at_ y0 z0 := rfl
@[simp] theorem Block.modRing_stgFill (d : Nat) (f : TraceRing → TraceRing) (y0 : Nat) : (b.modRing d f).stgFill y0 = b.stgFill y0 := rfl
@[simp] theorem Block.modRing_txAt (d : Nat) (f : TraceRing → TraceRing) (y0 : Nat) (z0 : TxStage) : (b.modRing d f).txAt y0 z0 = b.txAt y0 z0 := rfl

/-! ## setLink -/

@[simp] theorem Block.setLink_regs (d e : Nat) (l : Link) : (b.setLink d e l).regs = b.regs := rfl
@[simp] theorem Block.setLink_ctrs (d e : Nat) (l : Link) : (b.setLink d e l).ctrs = b.ctrs := rfl
@[simp] theorem Block.setLink_latch (d e : Nat) (l : Link) : (b.setLink d e l).latch = b.latch := rfl
@[simp] theorem Block.setLink_ticks (d e : Nat) (l : Link) : (b.setLink d e l).ticks = b.ticks := rfl
@[simp] theorem Block.setLink_refLost (d e : Nat) (l : Link) : (b.setLink d e l).refLost = b.refLost := rfl
@[simp] theorem Block.setLink_baseA (d e : Nat) (l : Link) : (b.setLink d e l).baseA = b.baseA := rfl
@[simp] theorem Block.setLink_baseB (d e : Nat) (l : Link) : (b.setLink d e l).baseB = b.baseB := rfl
@[simp] theorem Block.setLink_switchTick (d e : Nat) (l : Link) : (b.setLink d e l).switchTick = b.switchTick := rfl
@[simp] theorem Block.setLink_dies (d e : Nat) (l : Link) : (b.setLink d e l).dies = b.dies := rfl
@[simp] theorem Block.setLink_ports (d e : Nat) (l : Link) : (b.setLink d e l).ports = b.ports := rfl
@[simp] theorem Block.setLink_clusters (d e : Nat) (l : Link) : (b.setLink d e l).clusters = b.clusters := rfl
@[simp] theorem Block.setLink_regions (d e : Nat) (l : Link) : (b.setLink d e l).regions = b.regions := rfl
@[simp] theorem Block.setLink_engines (d e : Nat) (l : Link) : (b.setLink d e l).engines = b.engines := rfl
@[simp] theorem Block.setLink_rings (d e : Nat) (l : Link) : (b.setLink d e l).rings = b.rings := rfl
@[simp] theorem Block.setLink_fifos (d e : Nat) (l : Link) : (b.setLink d e l).fifos = b.fifos := rfl
@[simp] theorem Block.setLink_hostLinks (d e : Nat) (l : Link) : (b.setLink d e l).hostLinks = b.hostLinks := rfl
@[simp] theorem Block.setLink_hbms (d e : Nat) (l : Link) : (b.setLink d e l).hbms = b.hbms := rfl
@[simp] theorem Block.setLink_slow (d e : Nat) (l : Link) : (b.setLink d e l).slow = b.slow := rfl
@[simp] theorem Block.setLink_txRings (d e : Nat) (l : Link) : (b.setLink d e l).txRings = b.txRings := rfl
@[simp] theorem Block.setLink_rxRings (d e : Nat) (l : Link) : (b.setLink d e l).rxRings = b.rxRings := rfl
@[simp] theorem Block.setLink_pools (d e : Nat) (l : Link) : (b.setLink d e l).pools = b.pools := rfl
@[simp] theorem Block.setLink_ringInts (d e : Nat) (l : Link) : (b.setLink d e l).ringInts = b.ringInts := rfl
@[simp] theorem Block.setLink_insts (d e : Nat) (l : Link) : (b.setLink d e l).insts = b.insts := rfl
@[simp] theorem Block.setLink_vfEnable (d e : Nat) (l : Link) : (b.setLink d e l).vfEnable = b.vfEnable := rfl
@[simp] theorem Block.setLink_numVfs (d e : Nat) (l : Link) : (b.setLink d e l).numVfs = b.numVfs := rfl
@[simp] theorem Block.setLink_txLast (d e : Nat) (l : Link) : (b.setLink d e l).txLast = b.txLast := rfl
@[simp] theorem Block.setLink_jobs (d e : Nat) (l : Link) : (b.setLink d e l).jobs = b.jobs := rfl
@[simp] theorem Block.setLink_dmaEng (d e : Nat) (l : Link) : (b.setLink d e l).dmaEng = b.dmaEng := rfl
@[simp] theorem Block.setLink_jobCount (d e : Nat) (l : Link) : (b.setLink d e l).jobCount = b.jobCount := rfl
@[simp] theorem Block.setLink_dmaLast (d e : Nat) (l : Link) : (b.setLink d e l).dmaLast = b.dmaLast := rfl
@[simp] theorem Block.setLink_frames (d e : Nat) (l : Link) : (b.setLink d e l).frames = b.frames := rfl
@[simp] theorem Block.setLink_nextFrame (d e : Nat) (l : Link) : (b.setLink d e l).nextFrame = b.nextFrame := rfl
@[simp] theorem Block.setLink_flt (d e : Nat) (l : Link) : (b.setLink d e l).flt = b.flt := rfl
@[simp] theorem Block.setLink_inflight (d e : Nat) (l : Link) : (b.setLink d e l).inflight = b.inflight := rfl
@[simp] theorem Block.setLink_lastMsg (d e : Nat) (l : Link) : (b.setLink d e l).lastMsg = b.lastMsg := rfl
@[simp] theorem Block.setLink_records (d e : Nat) (l : Link) : (b.setLink d e l).records = b.records := rfl
@[simp] theorem Block.setLink_locked (d e : Nat) (l : Link) : (b.setLink d e l).locked = b.locked := rfl
@[simp] theorem Block.setLink_pair (d e : Nat) (l : Link) : (b.setLink d e l).pair = b.pair := rfl
@[simp] theorem Block.setLink_chain (d e : Nat) (l : Link) : (b.setLink d e l).chain = b.chain := rfl
@[simp] theorem Block.setLink_boot (d e : Nat) (l : Link) : (b.setLink d e l).boot = b.boot := rfl
@[simp] theorem Block.setLink_pkgHold (d e : Nat) (l : Link) : (b.setLink d e l).pkgHold = b.pkgHold := rfl
@[simp] theorem Block.setLink_pinLow (d e : Nat) (l : Link) : (b.setLink d e l).pinLow = b.pinLow := rfl
@[simp] theorem Block.setLink_relPin (d e : Nat) (l : Link) : (b.setLink d e l).relPin = b.relPin := rfl
@[simp] theorem Block.setLink_strapPins (d e : Nat) (l : Link) : (b.setLink d e l).strapPins = b.strapPins := rfl
@[simp] theorem Block.setLink_fuses (d e : Nat) (l : Link) : (b.setLink d e l).fuses = b.fuses := rfl
@[simp] theorem Block.setLink_faultN (d e : Nat) (l : Link) : (b.setLink d e l).faultN = b.faultN := rfl
@[simp] theorem Block.setLink_snap (d e : Nat) (l : Link) : (b.setLink d e l).snap = b.snap := rfl
@[simp] theorem Block.setLink_pendSnap (d e : Nat) (l : Link) : (b.setLink d e l).pendSnap = b.pendSnap := rfl
@[simp] theorem Block.setLink_refusals (d e : Nat) (l : Link) : (b.setLink d e l).refusals = b.refusals := rfl
@[simp] theorem Block.setLink_out (d e : Nat) (l : Link) : (b.setLink d e l).out = b.out := rfl
@[simp] theorem Block.setLink_fresh (d e : Nat) (l : Link) : (b.setLink d e l).fresh = b.fresh := rfl
@[simp] theorem Block.setLink_word (d e : Nat) (l : Link) (y0 : Nat) : (b.setLink d e l).word y0 = b.word y0 := rfl
@[simp] theorem Block.setLink_fld (d e : Nat) (l : Link) (y0 : Nat) (z0 : Bf) : (b.setLink d e l).fld y0 z0 = b.fld y0 z0 := rfl
@[simp] theorem Block.setLink_flag (d e : Nat) (l : Link) (y0 : Nat) (z0 : Bf) : (b.setLink d e l).flag y0 z0 = b.flag y0 z0 := rfl
@[simp] theorem Block.setLink_ctr (d e : Nat) (l : Link) (y0 : Nat) : (b.setLink d e l).ctr y0 = b.ctr y0 := rfl
@[simp] theorem Block.setLink_die (d e : Nat) (l : Link) (y0 : Nat) : (b.setLink d e l).die y0 = b.die y0 := rfl
@[simp] theorem Block.setLink_port (d e : Nat) (l : Link) (y0 : Nat) : (b.setLink d e l).port y0 = b.port y0 := rfl
@[simp] theorem Block.setLink_cluster (d e : Nat) (l : Link) (y0 : Nat) : (b.setLink d e l).cluster y0 = b.cluster y0 := rfl
@[simp] theorem Block.setLink_region (d e : Nat) (l : Link) (y0 : Nat) : (b.setLink d e l).region y0 = b.region y0 := rfl
@[simp] theorem Block.setLink_engine (d e : Nat) (l : Link) (y0 : Nat) : (b.setLink d e l).engine y0 = b.engine y0 := rfl
@[simp] theorem Block.setLink_frame (d e : Nat) (l : Link) (y0 : Nat) : (b.setLink d e l).frame y0 = b.frame y0 := rfl
@[simp] theorem Block.setLink_latched (d e : Nat) (l : Link) (y0 z0 : Nat) : (b.setLink d e l).latched y0 z0 = b.latched y0 z0 := rfl
@[simp] theorem Block.setLink_inst (d e : Nat) (l : Link) (y0 : Nat) : (b.setLink d e l).inst y0 = b.inst y0 := rfl
@[simp] theorem Block.setLink_txRing (d e : Nat) (l : Link) (y0 : Nat) : (b.setLink d e l).txRing y0 = b.txRing y0 := rfl
@[simp] theorem Block.setLink_rxRing (d e : Nat) (l : Link) (y0 : Nat) : (b.setLink d e l).rxRing y0 = b.rxRing y0 := rfl
@[simp] theorem Block.setLink_pool (d e : Nat) (l : Link) (y0 z0 : Nat) : (b.setLink d e l).pool y0 z0 = b.pool y0 z0 := rfl
@[simp] theorem Block.setLink_ring (d e : Nat) (l : Link) (y0 : Nat) : (b.setLink d e l).ring y0 = b.ring y0 := rfl
@[simp] theorem Block.setLink_fifo (d e : Nat) (l : Link) (y0 z0 : Nat) : (b.setLink d e l).fifo y0 z0 = b.fifo y0 z0 := rfl
@[simp] theorem Block.setLink_frozen (d e : Nat) (l : Link) (y0 : Nat) : (b.setLink d e l).frozen y0 = b.frozen y0 := rfl
@[simp] theorem Block.setLink_stopped (d e : Nat) (l : Link) (y0 : Nat) : (b.setLink d e l).stopped y0 = b.stopped y0 := rfl
@[simp] theorem Block.setLink_ctx (d e : Nat) (l : Link) (y0 z0 : Nat) : (b.setLink d e l).ctx y0 z0 = b.ctx y0 z0 := rfl
@[simp] theorem Block.setLink_at_ (d e : Nat) (l : Link) (y0 : Nat) (z0 : Loc) : (b.setLink d e l).at_ y0 z0 = b.at_ y0 z0 := rfl
@[simp] theorem Block.setLink_stgFill (d e : Nat) (l : Link) (y0 : Nat) : (b.setLink d e l).stgFill y0 = b.stgFill y0 := rfl
@[simp] theorem Block.setLink_txAt (d e : Nat) (l : Link) (y0 : Nat) (z0 : TxStage) : (b.setLink d e l).txAt y0 z0 = b.txAt y0 z0 := rfl

/-! ## emit -/

@[simp] theorem Block.emit_regs (o : Output) : (b.emit o).regs = b.regs := rfl
@[simp] theorem Block.emit_ctrs (o : Output) : (b.emit o).ctrs = b.ctrs := rfl
@[simp] theorem Block.emit_latch (o : Output) : (b.emit o).latch = b.latch := rfl
@[simp] theorem Block.emit_ticks (o : Output) : (b.emit o).ticks = b.ticks := rfl
@[simp] theorem Block.emit_refLost (o : Output) : (b.emit o).refLost = b.refLost := rfl
@[simp] theorem Block.emit_baseA (o : Output) : (b.emit o).baseA = b.baseA := rfl
@[simp] theorem Block.emit_baseB (o : Output) : (b.emit o).baseB = b.baseB := rfl
@[simp] theorem Block.emit_switchTick (o : Output) : (b.emit o).switchTick = b.switchTick := rfl
@[simp] theorem Block.emit_dies (o : Output) : (b.emit o).dies = b.dies := rfl
@[simp] theorem Block.emit_ports (o : Output) : (b.emit o).ports = b.ports := rfl
@[simp] theorem Block.emit_clusters (o : Output) : (b.emit o).clusters = b.clusters := rfl
@[simp] theorem Block.emit_regions (o : Output) : (b.emit o).regions = b.regions := rfl
@[simp] theorem Block.emit_engines (o : Output) : (b.emit o).engines = b.engines := rfl
@[simp] theorem Block.emit_rings (o : Output) : (b.emit o).rings = b.rings := rfl
@[simp] theorem Block.emit_fifos (o : Output) : (b.emit o).fifos = b.fifos := rfl
@[simp] theorem Block.emit_hostLinks (o : Output) : (b.emit o).hostLinks = b.hostLinks := rfl
@[simp] theorem Block.emit_links (o : Output) : (b.emit o).links = b.links := rfl
@[simp] theorem Block.emit_hbms (o : Output) : (b.emit o).hbms = b.hbms := rfl
@[simp] theorem Block.emit_slow (o : Output) : (b.emit o).slow = b.slow := rfl
@[simp] theorem Block.emit_txRings (o : Output) : (b.emit o).txRings = b.txRings := rfl
@[simp] theorem Block.emit_rxRings (o : Output) : (b.emit o).rxRings = b.rxRings := rfl
@[simp] theorem Block.emit_pools (o : Output) : (b.emit o).pools = b.pools := rfl
@[simp] theorem Block.emit_ringInts (o : Output) : (b.emit o).ringInts = b.ringInts := rfl
@[simp] theorem Block.emit_insts (o : Output) : (b.emit o).insts = b.insts := rfl
@[simp] theorem Block.emit_vfEnable (o : Output) : (b.emit o).vfEnable = b.vfEnable := rfl
@[simp] theorem Block.emit_numVfs (o : Output) : (b.emit o).numVfs = b.numVfs := rfl
@[simp] theorem Block.emit_txLast (o : Output) : (b.emit o).txLast = b.txLast := rfl
@[simp] theorem Block.emit_jobs (o : Output) : (b.emit o).jobs = b.jobs := rfl
@[simp] theorem Block.emit_dmaEng (o : Output) : (b.emit o).dmaEng = b.dmaEng := rfl
@[simp] theorem Block.emit_jobCount (o : Output) : (b.emit o).jobCount = b.jobCount := rfl
@[simp] theorem Block.emit_dmaLast (o : Output) : (b.emit o).dmaLast = b.dmaLast := rfl
@[simp] theorem Block.emit_frames (o : Output) : (b.emit o).frames = b.frames := rfl
@[simp] theorem Block.emit_nextFrame (o : Output) : (b.emit o).nextFrame = b.nextFrame := rfl
@[simp] theorem Block.emit_flt (o : Output) : (b.emit o).flt = b.flt := rfl
@[simp] theorem Block.emit_inflight (o : Output) : (b.emit o).inflight = b.inflight := rfl
@[simp] theorem Block.emit_lastMsg (o : Output) : (b.emit o).lastMsg = b.lastMsg := rfl
@[simp] theorem Block.emit_records (o : Output) : (b.emit o).records = b.records := rfl
@[simp] theorem Block.emit_locked (o : Output) : (b.emit o).locked = b.locked := rfl
@[simp] theorem Block.emit_pair (o : Output) : (b.emit o).pair = b.pair := rfl
@[simp] theorem Block.emit_chain (o : Output) : (b.emit o).chain = b.chain := rfl
@[simp] theorem Block.emit_boot (o : Output) : (b.emit o).boot = b.boot := rfl
@[simp] theorem Block.emit_pkgHold (o : Output) : (b.emit o).pkgHold = b.pkgHold := rfl
@[simp] theorem Block.emit_pinLow (o : Output) : (b.emit o).pinLow = b.pinLow := rfl
@[simp] theorem Block.emit_relPin (o : Output) : (b.emit o).relPin = b.relPin := rfl
@[simp] theorem Block.emit_strapPins (o : Output) : (b.emit o).strapPins = b.strapPins := rfl
@[simp] theorem Block.emit_fuses (o : Output) : (b.emit o).fuses = b.fuses := rfl
@[simp] theorem Block.emit_faultN (o : Output) : (b.emit o).faultN = b.faultN := rfl
@[simp] theorem Block.emit_snap (o : Output) : (b.emit o).snap = b.snap := rfl
@[simp] theorem Block.emit_pendSnap (o : Output) : (b.emit o).pendSnap = b.pendSnap := rfl
@[simp] theorem Block.emit_refusals (o : Output) : (b.emit o).refusals = b.refusals := rfl
@[simp] theorem Block.emit_fresh (o : Output) : (b.emit o).fresh = b.fresh := rfl
@[simp] theorem Block.emit_word (o : Output) (y0 : Nat) : (b.emit o).word y0 = b.word y0 := rfl
@[simp] theorem Block.emit_fld (o : Output) (y0 : Nat) (z0 : Bf) : (b.emit o).fld y0 z0 = b.fld y0 z0 := rfl
@[simp] theorem Block.emit_flag (o : Output) (y0 : Nat) (z0 : Bf) : (b.emit o).flag y0 z0 = b.flag y0 z0 := rfl
@[simp] theorem Block.emit_ctr (o : Output) (y0 : Nat) : (b.emit o).ctr y0 = b.ctr y0 := rfl
@[simp] theorem Block.emit_die (o : Output) (y0 : Nat) : (b.emit o).die y0 = b.die y0 := rfl
@[simp] theorem Block.emit_port (o : Output) (y0 : Nat) : (b.emit o).port y0 = b.port y0 := rfl
@[simp] theorem Block.emit_cluster (o : Output) (y0 : Nat) : (b.emit o).cluster y0 = b.cluster y0 := rfl
@[simp] theorem Block.emit_region (o : Output) (y0 : Nat) : (b.emit o).region y0 = b.region y0 := rfl
@[simp] theorem Block.emit_engine (o : Output) (y0 : Nat) : (b.emit o).engine y0 = b.engine y0 := rfl
@[simp] theorem Block.emit_frame (o : Output) (y0 : Nat) : (b.emit o).frame y0 = b.frame y0 := rfl
@[simp] theorem Block.emit_latched (o : Output) (y0 z0 : Nat) : (b.emit o).latched y0 z0 = b.latched y0 z0 := rfl
@[simp] theorem Block.emit_inst (o : Output) (y0 : Nat) : (b.emit o).inst y0 = b.inst y0 := rfl
@[simp] theorem Block.emit_txRing (o : Output) (y0 : Nat) : (b.emit o).txRing y0 = b.txRing y0 := rfl
@[simp] theorem Block.emit_rxRing (o : Output) (y0 : Nat) : (b.emit o).rxRing y0 = b.rxRing y0 := rfl
@[simp] theorem Block.emit_pool (o : Output) (y0 z0 : Nat) : (b.emit o).pool y0 z0 = b.pool y0 z0 := rfl
@[simp] theorem Block.emit_ring (o : Output) (y0 : Nat) : (b.emit o).ring y0 = b.ring y0 := rfl
@[simp] theorem Block.emit_link (o : Output) (y0 z0 : Nat) : (b.emit o).link y0 z0 = b.link y0 z0 := rfl
@[simp] theorem Block.emit_fifo (o : Output) (y0 z0 : Nat) : (b.emit o).fifo y0 z0 = b.fifo y0 z0 := rfl
@[simp] theorem Block.emit_frozen (o : Output) (y0 : Nat) : (b.emit o).frozen y0 = b.frozen y0 := rfl
@[simp] theorem Block.emit_stopped (o : Output) (y0 : Nat) : (b.emit o).stopped y0 = b.stopped y0 := rfl
@[simp] theorem Block.emit_ctx (o : Output) (y0 z0 : Nat) : (b.emit o).ctx y0 z0 = b.ctx y0 z0 := rfl
@[simp] theorem Block.emit_at_ (o : Output) (y0 : Nat) (z0 : Loc) : (b.emit o).at_ y0 z0 = b.at_ y0 z0 := rfl
@[simp] theorem Block.emit_stgFill (o : Output) (y0 : Nat) : (b.emit o).stgFill y0 = b.stgFill y0 := rfl
@[simp] theorem Block.emit_txAt (o : Output) (y0 : Nat) (z0 : TxStage) : (b.emit o).txAt y0 z0 = b.txAt y0 z0 := rfl

/-! ## sendAs -/

@[simp] theorem Block.sendAs_regs (t i k x r y : Nat) : (b.sendAs t i k x r y).regs = b.regs := rfl
@[simp] theorem Block.sendAs_ctrs (t i k x r y : Nat) : (b.sendAs t i k x r y).ctrs = b.ctrs := rfl
@[simp] theorem Block.sendAs_latch (t i k x r y : Nat) : (b.sendAs t i k x r y).latch = b.latch := rfl
@[simp] theorem Block.sendAs_ticks (t i k x r y : Nat) : (b.sendAs t i k x r y).ticks = b.ticks := rfl
@[simp] theorem Block.sendAs_refLost (t i k x r y : Nat) : (b.sendAs t i k x r y).refLost = b.refLost := rfl
@[simp] theorem Block.sendAs_baseA (t i k x r y : Nat) : (b.sendAs t i k x r y).baseA = b.baseA := rfl
@[simp] theorem Block.sendAs_baseB (t i k x r y : Nat) : (b.sendAs t i k x r y).baseB = b.baseB := rfl
@[simp] theorem Block.sendAs_switchTick (t i k x r y : Nat) : (b.sendAs t i k x r y).switchTick = b.switchTick := rfl
@[simp] theorem Block.sendAs_dies (t i k x r y : Nat) : (b.sendAs t i k x r y).dies = b.dies := rfl
@[simp] theorem Block.sendAs_ports (t i k x r y : Nat) : (b.sendAs t i k x r y).ports = b.ports := rfl
@[simp] theorem Block.sendAs_clusters (t i k x r y : Nat) : (b.sendAs t i k x r y).clusters = b.clusters := rfl
@[simp] theorem Block.sendAs_regions (t i k x r y : Nat) : (b.sendAs t i k x r y).regions = b.regions := rfl
@[simp] theorem Block.sendAs_engines (t i k x r y : Nat) : (b.sendAs t i k x r y).engines = b.engines := rfl
@[simp] theorem Block.sendAs_rings (t i k x r y : Nat) : (b.sendAs t i k x r y).rings = b.rings := rfl
@[simp] theorem Block.sendAs_fifos (t i k x r y : Nat) : (b.sendAs t i k x r y).fifos = b.fifos := rfl
@[simp] theorem Block.sendAs_hostLinks (t i k x r y : Nat) : (b.sendAs t i k x r y).hostLinks = b.hostLinks := rfl
@[simp] theorem Block.sendAs_links (t i k x r y : Nat) : (b.sendAs t i k x r y).links = b.links := rfl
@[simp] theorem Block.sendAs_hbms (t i k x r y : Nat) : (b.sendAs t i k x r y).hbms = b.hbms := rfl
@[simp] theorem Block.sendAs_slow (t i k x r y : Nat) : (b.sendAs t i k x r y).slow = b.slow := rfl
@[simp] theorem Block.sendAs_txRings (t i k x r y : Nat) : (b.sendAs t i k x r y).txRings = b.txRings := rfl
@[simp] theorem Block.sendAs_rxRings (t i k x r y : Nat) : (b.sendAs t i k x r y).rxRings = b.rxRings := rfl
@[simp] theorem Block.sendAs_pools (t i k x r y : Nat) : (b.sendAs t i k x r y).pools = b.pools := rfl
@[simp] theorem Block.sendAs_ringInts (t i k x r y : Nat) : (b.sendAs t i k x r y).ringInts = b.ringInts := rfl
@[simp] theorem Block.sendAs_insts (t i k x r y : Nat) : (b.sendAs t i k x r y).insts = b.insts := rfl
@[simp] theorem Block.sendAs_vfEnable (t i k x r y : Nat) : (b.sendAs t i k x r y).vfEnable = b.vfEnable := rfl
@[simp] theorem Block.sendAs_numVfs (t i k x r y : Nat) : (b.sendAs t i k x r y).numVfs = b.numVfs := rfl
@[simp] theorem Block.sendAs_txLast (t i k x r y : Nat) : (b.sendAs t i k x r y).txLast = b.txLast := rfl
@[simp] theorem Block.sendAs_jobs (t i k x r y : Nat) : (b.sendAs t i k x r y).jobs = b.jobs := rfl
@[simp] theorem Block.sendAs_dmaEng (t i k x r y : Nat) : (b.sendAs t i k x r y).dmaEng = b.dmaEng := rfl
@[simp] theorem Block.sendAs_jobCount (t i k x r y : Nat) : (b.sendAs t i k x r y).jobCount = b.jobCount := rfl
@[simp] theorem Block.sendAs_dmaLast (t i k x r y : Nat) : (b.sendAs t i k x r y).dmaLast = b.dmaLast := rfl
@[simp] theorem Block.sendAs_frames (t i k x r y : Nat) : (b.sendAs t i k x r y).frames = b.frames := rfl
@[simp] theorem Block.sendAs_nextFrame (t i k x r y : Nat) : (b.sendAs t i k x r y).nextFrame = b.nextFrame := rfl
@[simp] theorem Block.sendAs_flt (t i k x r y : Nat) : (b.sendAs t i k x r y).flt = b.flt := rfl
@[simp] theorem Block.sendAs_lastMsg (t i k x r y : Nat) : (b.sendAs t i k x r y).lastMsg = b.lastMsg := rfl
@[simp] theorem Block.sendAs_records (t i k x r y : Nat) : (b.sendAs t i k x r y).records = b.records := rfl
@[simp] theorem Block.sendAs_locked (t i k x r y : Nat) : (b.sendAs t i k x r y).locked = b.locked := rfl
@[simp] theorem Block.sendAs_pair (t i k x r y : Nat) : (b.sendAs t i k x r y).pair = b.pair := rfl
@[simp] theorem Block.sendAs_chain (t i k x r y : Nat) : (b.sendAs t i k x r y).chain = b.chain := rfl
@[simp] theorem Block.sendAs_boot (t i k x r y : Nat) : (b.sendAs t i k x r y).boot = b.boot := rfl
@[simp] theorem Block.sendAs_pkgHold (t i k x r y : Nat) : (b.sendAs t i k x r y).pkgHold = b.pkgHold := rfl
@[simp] theorem Block.sendAs_pinLow (t i k x r y : Nat) : (b.sendAs t i k x r y).pinLow = b.pinLow := rfl
@[simp] theorem Block.sendAs_relPin (t i k x r y : Nat) : (b.sendAs t i k x r y).relPin = b.relPin := rfl
@[simp] theorem Block.sendAs_strapPins (t i k x r y : Nat) : (b.sendAs t i k x r y).strapPins = b.strapPins := rfl
@[simp] theorem Block.sendAs_fuses (t i k x r y : Nat) : (b.sendAs t i k x r y).fuses = b.fuses := rfl
@[simp] theorem Block.sendAs_faultN (t i k x r y : Nat) : (b.sendAs t i k x r y).faultN = b.faultN := rfl
@[simp] theorem Block.sendAs_snap (t i k x r y : Nat) : (b.sendAs t i k x r y).snap = b.snap := rfl
@[simp] theorem Block.sendAs_pendSnap (t i k x r y : Nat) : (b.sendAs t i k x r y).pendSnap = b.pendSnap := rfl
@[simp] theorem Block.sendAs_refusals (t i k x r y : Nat) : (b.sendAs t i k x r y).refusals = b.refusals := rfl
@[simp] theorem Block.sendAs_out (t i k x r y : Nat) : (b.sendAs t i k x r y).out = b.out := rfl
@[simp] theorem Block.sendAs_fresh (t i k x r y : Nat) : (b.sendAs t i k x r y).fresh = b.fresh := rfl
@[simp] theorem Block.sendAs_word (t i k x r y : Nat) (y0 : Nat) : (b.sendAs t i k x r y).word y0 = b.word y0 := rfl
@[simp] theorem Block.sendAs_fld (t i k x r y : Nat) (y0 : Nat) (z0 : Bf) : (b.sendAs t i k x r y).fld y0 z0 = b.fld y0 z0 := rfl
@[simp] theorem Block.sendAs_flag (t i k x r y : Nat) (y0 : Nat) (z0 : Bf) : (b.sendAs t i k x r y).flag y0 z0 = b.flag y0 z0 := rfl
@[simp] theorem Block.sendAs_ctr (t i k x r y : Nat) (y0 : Nat) : (b.sendAs t i k x r y).ctr y0 = b.ctr y0 := rfl
@[simp] theorem Block.sendAs_die (t i k x r y : Nat) (y0 : Nat) : (b.sendAs t i k x r y).die y0 = b.die y0 := rfl
@[simp] theorem Block.sendAs_port (t i k x r y : Nat) (y0 : Nat) : (b.sendAs t i k x r y).port y0 = b.port y0 := rfl
@[simp] theorem Block.sendAs_cluster (t i k x r y : Nat) (y0 : Nat) : (b.sendAs t i k x r y).cluster y0 = b.cluster y0 := rfl
@[simp] theorem Block.sendAs_region (t i k x r y : Nat) (y0 : Nat) : (b.sendAs t i k x r y).region y0 = b.region y0 := rfl
@[simp] theorem Block.sendAs_engine (t i k x r y : Nat) (y0 : Nat) : (b.sendAs t i k x r y).engine y0 = b.engine y0 := rfl
@[simp] theorem Block.sendAs_frame (t i k x r y : Nat) (y0 : Nat) : (b.sendAs t i k x r y).frame y0 = b.frame y0 := rfl
@[simp] theorem Block.sendAs_latched (t i k x r y : Nat) (y0 z0 : Nat) : (b.sendAs t i k x r y).latched y0 z0 = b.latched y0 z0 := rfl
@[simp] theorem Block.sendAs_inst (t i k x r y : Nat) (y0 : Nat) : (b.sendAs t i k x r y).inst y0 = b.inst y0 := rfl
@[simp] theorem Block.sendAs_txRing (t i k x r y : Nat) (y0 : Nat) : (b.sendAs t i k x r y).txRing y0 = b.txRing y0 := rfl
@[simp] theorem Block.sendAs_rxRing (t i k x r y : Nat) (y0 : Nat) : (b.sendAs t i k x r y).rxRing y0 = b.rxRing y0 := rfl
@[simp] theorem Block.sendAs_pool (t i k x r y : Nat) (y0 z0 : Nat) : (b.sendAs t i k x r y).pool y0 z0 = b.pool y0 z0 := rfl
@[simp] theorem Block.sendAs_ring (t i k x r y : Nat) (y0 : Nat) : (b.sendAs t i k x r y).ring y0 = b.ring y0 := rfl
@[simp] theorem Block.sendAs_link (t i k x r y : Nat) (y0 z0 : Nat) : (b.sendAs t i k x r y).link y0 z0 = b.link y0 z0 := rfl
@[simp] theorem Block.sendAs_fifo (t i k x r y : Nat) (y0 z0 : Nat) : (b.sendAs t i k x r y).fifo y0 z0 = b.fifo y0 z0 := rfl
@[simp] theorem Block.sendAs_frozen (t i k x r y : Nat) (y0 : Nat) : (b.sendAs t i k x r y).frozen y0 = b.frozen y0 := rfl
@[simp] theorem Block.sendAs_stopped (t i k x r y : Nat) (y0 : Nat) : (b.sendAs t i k x r y).stopped y0 = b.stopped y0 := rfl
@[simp] theorem Block.sendAs_ctx (t i k x r y : Nat) (y0 z0 : Nat) : (b.sendAs t i k x r y).ctx y0 z0 = b.ctx y0 z0 := rfl
@[simp] theorem Block.sendAs_at_ (t i k x r y : Nat) (y0 : Nat) (z0 : Loc) : (b.sendAs t i k x r y).at_ y0 z0 = b.at_ y0 z0 := rfl
@[simp] theorem Block.sendAs_stgFill (t i k x r y : Nat) (y0 : Nat) : (b.sendAs t i k x r y).stgFill y0 = b.stgFill y0 := rfl
@[simp] theorem Block.sendAs_txAt (t i k x r y : Nat) (y0 : Nat) (z0 : TxStage) : (b.sendAs t i k x r y).txAt y0 z0 = b.txAt y0 z0 := rfl

/-! ## send -/

@[simp] theorem Block.send_regs (t i k x : Nat) : (b.send t i k x).regs = b.regs := rfl
@[simp] theorem Block.send_ctrs (t i k x : Nat) : (b.send t i k x).ctrs = b.ctrs := rfl
@[simp] theorem Block.send_latch (t i k x : Nat) : (b.send t i k x).latch = b.latch := rfl
@[simp] theorem Block.send_ticks (t i k x : Nat) : (b.send t i k x).ticks = b.ticks := rfl
@[simp] theorem Block.send_refLost (t i k x : Nat) : (b.send t i k x).refLost = b.refLost := rfl
@[simp] theorem Block.send_baseA (t i k x : Nat) : (b.send t i k x).baseA = b.baseA := rfl
@[simp] theorem Block.send_baseB (t i k x : Nat) : (b.send t i k x).baseB = b.baseB := rfl
@[simp] theorem Block.send_switchTick (t i k x : Nat) : (b.send t i k x).switchTick = b.switchTick := rfl
@[simp] theorem Block.send_dies (t i k x : Nat) : (b.send t i k x).dies = b.dies := rfl
@[simp] theorem Block.send_ports (t i k x : Nat) : (b.send t i k x).ports = b.ports := rfl
@[simp] theorem Block.send_clusters (t i k x : Nat) : (b.send t i k x).clusters = b.clusters := rfl
@[simp] theorem Block.send_regions (t i k x : Nat) : (b.send t i k x).regions = b.regions := rfl
@[simp] theorem Block.send_engines (t i k x : Nat) : (b.send t i k x).engines = b.engines := rfl
@[simp] theorem Block.send_rings (t i k x : Nat) : (b.send t i k x).rings = b.rings := rfl
@[simp] theorem Block.send_fifos (t i k x : Nat) : (b.send t i k x).fifos = b.fifos := rfl
@[simp] theorem Block.send_hostLinks (t i k x : Nat) : (b.send t i k x).hostLinks = b.hostLinks := rfl
@[simp] theorem Block.send_links (t i k x : Nat) : (b.send t i k x).links = b.links := rfl
@[simp] theorem Block.send_hbms (t i k x : Nat) : (b.send t i k x).hbms = b.hbms := rfl
@[simp] theorem Block.send_slow (t i k x : Nat) : (b.send t i k x).slow = b.slow := rfl
@[simp] theorem Block.send_txRings (t i k x : Nat) : (b.send t i k x).txRings = b.txRings := rfl
@[simp] theorem Block.send_rxRings (t i k x : Nat) : (b.send t i k x).rxRings = b.rxRings := rfl
@[simp] theorem Block.send_pools (t i k x : Nat) : (b.send t i k x).pools = b.pools := rfl
@[simp] theorem Block.send_ringInts (t i k x : Nat) : (b.send t i k x).ringInts = b.ringInts := rfl
@[simp] theorem Block.send_insts (t i k x : Nat) : (b.send t i k x).insts = b.insts := rfl
@[simp] theorem Block.send_vfEnable (t i k x : Nat) : (b.send t i k x).vfEnable = b.vfEnable := rfl
@[simp] theorem Block.send_numVfs (t i k x : Nat) : (b.send t i k x).numVfs = b.numVfs := rfl
@[simp] theorem Block.send_txLast (t i k x : Nat) : (b.send t i k x).txLast = b.txLast := rfl
@[simp] theorem Block.send_jobs (t i k x : Nat) : (b.send t i k x).jobs = b.jobs := rfl
@[simp] theorem Block.send_dmaEng (t i k x : Nat) : (b.send t i k x).dmaEng = b.dmaEng := rfl
@[simp] theorem Block.send_jobCount (t i k x : Nat) : (b.send t i k x).jobCount = b.jobCount := rfl
@[simp] theorem Block.send_dmaLast (t i k x : Nat) : (b.send t i k x).dmaLast = b.dmaLast := rfl
@[simp] theorem Block.send_frames (t i k x : Nat) : (b.send t i k x).frames = b.frames := rfl
@[simp] theorem Block.send_nextFrame (t i k x : Nat) : (b.send t i k x).nextFrame = b.nextFrame := rfl
@[simp] theorem Block.send_flt (t i k x : Nat) : (b.send t i k x).flt = b.flt := rfl
@[simp] theorem Block.send_lastMsg (t i k x : Nat) : (b.send t i k x).lastMsg = b.lastMsg := rfl
@[simp] theorem Block.send_records (t i k x : Nat) : (b.send t i k x).records = b.records := rfl
@[simp] theorem Block.send_locked (t i k x : Nat) : (b.send t i k x).locked = b.locked := rfl
@[simp] theorem Block.send_pair (t i k x : Nat) : (b.send t i k x).pair = b.pair := rfl
@[simp] theorem Block.send_chain (t i k x : Nat) : (b.send t i k x).chain = b.chain := rfl
@[simp] theorem Block.send_boot (t i k x : Nat) : (b.send t i k x).boot = b.boot := rfl
@[simp] theorem Block.send_pkgHold (t i k x : Nat) : (b.send t i k x).pkgHold = b.pkgHold := rfl
@[simp] theorem Block.send_pinLow (t i k x : Nat) : (b.send t i k x).pinLow = b.pinLow := rfl
@[simp] theorem Block.send_relPin (t i k x : Nat) : (b.send t i k x).relPin = b.relPin := rfl
@[simp] theorem Block.send_strapPins (t i k x : Nat) : (b.send t i k x).strapPins = b.strapPins := rfl
@[simp] theorem Block.send_fuses (t i k x : Nat) : (b.send t i k x).fuses = b.fuses := rfl
@[simp] theorem Block.send_faultN (t i k x : Nat) : (b.send t i k x).faultN = b.faultN := rfl
@[simp] theorem Block.send_snap (t i k x : Nat) : (b.send t i k x).snap = b.snap := rfl
@[simp] theorem Block.send_pendSnap (t i k x : Nat) : (b.send t i k x).pendSnap = b.pendSnap := rfl
@[simp] theorem Block.send_refusals (t i k x : Nat) : (b.send t i k x).refusals = b.refusals := rfl
@[simp] theorem Block.send_out (t i k x : Nat) : (b.send t i k x).out = b.out := rfl
@[simp] theorem Block.send_fresh (t i k x : Nat) : (b.send t i k x).fresh = b.fresh := rfl
@[simp] theorem Block.send_word (t i k x : Nat) (y0 : Nat) : (b.send t i k x).word y0 = b.word y0 := rfl
@[simp] theorem Block.send_fld (t i k x : Nat) (y0 : Nat) (z0 : Bf) : (b.send t i k x).fld y0 z0 = b.fld y0 z0 := rfl
@[simp] theorem Block.send_flag (t i k x : Nat) (y0 : Nat) (z0 : Bf) : (b.send t i k x).flag y0 z0 = b.flag y0 z0 := rfl
@[simp] theorem Block.send_ctr (t i k x : Nat) (y0 : Nat) : (b.send t i k x).ctr y0 = b.ctr y0 := rfl
@[simp] theorem Block.send_die (t i k x : Nat) (y0 : Nat) : (b.send t i k x).die y0 = b.die y0 := rfl
@[simp] theorem Block.send_port (t i k x : Nat) (y0 : Nat) : (b.send t i k x).port y0 = b.port y0 := rfl
@[simp] theorem Block.send_cluster (t i k x : Nat) (y0 : Nat) : (b.send t i k x).cluster y0 = b.cluster y0 := rfl
@[simp] theorem Block.send_region (t i k x : Nat) (y0 : Nat) : (b.send t i k x).region y0 = b.region y0 := rfl
@[simp] theorem Block.send_engine (t i k x : Nat) (y0 : Nat) : (b.send t i k x).engine y0 = b.engine y0 := rfl
@[simp] theorem Block.send_frame (t i k x : Nat) (y0 : Nat) : (b.send t i k x).frame y0 = b.frame y0 := rfl
@[simp] theorem Block.send_latched (t i k x : Nat) (y0 z0 : Nat) : (b.send t i k x).latched y0 z0 = b.latched y0 z0 := rfl
@[simp] theorem Block.send_inst (t i k x : Nat) (y0 : Nat) : (b.send t i k x).inst y0 = b.inst y0 := rfl
@[simp] theorem Block.send_txRing (t i k x : Nat) (y0 : Nat) : (b.send t i k x).txRing y0 = b.txRing y0 := rfl
@[simp] theorem Block.send_rxRing (t i k x : Nat) (y0 : Nat) : (b.send t i k x).rxRing y0 = b.rxRing y0 := rfl
@[simp] theorem Block.send_pool (t i k x : Nat) (y0 z0 : Nat) : (b.send t i k x).pool y0 z0 = b.pool y0 z0 := rfl
@[simp] theorem Block.send_ring (t i k x : Nat) (y0 : Nat) : (b.send t i k x).ring y0 = b.ring y0 := rfl
@[simp] theorem Block.send_link (t i k x : Nat) (y0 z0 : Nat) : (b.send t i k x).link y0 z0 = b.link y0 z0 := rfl
@[simp] theorem Block.send_fifo (t i k x : Nat) (y0 z0 : Nat) : (b.send t i k x).fifo y0 z0 = b.fifo y0 z0 := rfl
@[simp] theorem Block.send_frozen (t i k x : Nat) (y0 : Nat) : (b.send t i k x).frozen y0 = b.frozen y0 := rfl
@[simp] theorem Block.send_stopped (t i k x : Nat) (y0 : Nat) : (b.send t i k x).stopped y0 = b.stopped y0 := rfl
@[simp] theorem Block.send_ctx (t i k x : Nat) (y0 z0 : Nat) : (b.send t i k x).ctx y0 z0 = b.ctx y0 z0 := rfl
@[simp] theorem Block.send_at_ (t i k x : Nat) (y0 : Nat) (z0 : Loc) : (b.send t i k x).at_ y0 z0 = b.at_ y0 z0 := rfl
@[simp] theorem Block.send_stgFill (t i k x : Nat) (y0 : Nat) : (b.send t i k x).stgFill y0 = b.stgFill y0 := rfl
@[simp] theorem Block.send_txAt (t i k x : Nat) (y0 : Nat) (z0 : TxStage) : (b.send t i k x).txAt y0 z0 = b.txAt y0 z0 := rfl

/-! ## setLatch -/

@[simp] theorem Block.setLatch_regs (r a v : Nat) : (b.setLatch r a v).regs = b.regs := rfl
@[simp] theorem Block.setLatch_ctrs (r a v : Nat) : (b.setLatch r a v).ctrs = b.ctrs := rfl
@[simp] theorem Block.setLatch_ticks (r a v : Nat) : (b.setLatch r a v).ticks = b.ticks := rfl
@[simp] theorem Block.setLatch_refLost (r a v : Nat) : (b.setLatch r a v).refLost = b.refLost := rfl
@[simp] theorem Block.setLatch_baseA (r a v : Nat) : (b.setLatch r a v).baseA = b.baseA := rfl
@[simp] theorem Block.setLatch_baseB (r a v : Nat) : (b.setLatch r a v).baseB = b.baseB := rfl
@[simp] theorem Block.setLatch_switchTick (r a v : Nat) : (b.setLatch r a v).switchTick = b.switchTick := rfl
@[simp] theorem Block.setLatch_dies (r a v : Nat) : (b.setLatch r a v).dies = b.dies := rfl
@[simp] theorem Block.setLatch_ports (r a v : Nat) : (b.setLatch r a v).ports = b.ports := rfl
@[simp] theorem Block.setLatch_clusters (r a v : Nat) : (b.setLatch r a v).clusters = b.clusters := rfl
@[simp] theorem Block.setLatch_regions (r a v : Nat) : (b.setLatch r a v).regions = b.regions := rfl
@[simp] theorem Block.setLatch_engines (r a v : Nat) : (b.setLatch r a v).engines = b.engines := rfl
@[simp] theorem Block.setLatch_rings (r a v : Nat) : (b.setLatch r a v).rings = b.rings := rfl
@[simp] theorem Block.setLatch_fifos (r a v : Nat) : (b.setLatch r a v).fifos = b.fifos := rfl
@[simp] theorem Block.setLatch_hostLinks (r a v : Nat) : (b.setLatch r a v).hostLinks = b.hostLinks := rfl
@[simp] theorem Block.setLatch_links (r a v : Nat) : (b.setLatch r a v).links = b.links := rfl
@[simp] theorem Block.setLatch_hbms (r a v : Nat) : (b.setLatch r a v).hbms = b.hbms := rfl
@[simp] theorem Block.setLatch_slow (r a v : Nat) : (b.setLatch r a v).slow = b.slow := rfl
@[simp] theorem Block.setLatch_txRings (r a v : Nat) : (b.setLatch r a v).txRings = b.txRings := rfl
@[simp] theorem Block.setLatch_rxRings (r a v : Nat) : (b.setLatch r a v).rxRings = b.rxRings := rfl
@[simp] theorem Block.setLatch_pools (r a v : Nat) : (b.setLatch r a v).pools = b.pools := rfl
@[simp] theorem Block.setLatch_ringInts (r a v : Nat) : (b.setLatch r a v).ringInts = b.ringInts := rfl
@[simp] theorem Block.setLatch_insts (r a v : Nat) : (b.setLatch r a v).insts = b.insts := rfl
@[simp] theorem Block.setLatch_vfEnable (r a v : Nat) : (b.setLatch r a v).vfEnable = b.vfEnable := rfl
@[simp] theorem Block.setLatch_numVfs (r a v : Nat) : (b.setLatch r a v).numVfs = b.numVfs := rfl
@[simp] theorem Block.setLatch_txLast (r a v : Nat) : (b.setLatch r a v).txLast = b.txLast := rfl
@[simp] theorem Block.setLatch_jobs (r a v : Nat) : (b.setLatch r a v).jobs = b.jobs := rfl
@[simp] theorem Block.setLatch_dmaEng (r a v : Nat) : (b.setLatch r a v).dmaEng = b.dmaEng := rfl
@[simp] theorem Block.setLatch_jobCount (r a v : Nat) : (b.setLatch r a v).jobCount = b.jobCount := rfl
@[simp] theorem Block.setLatch_dmaLast (r a v : Nat) : (b.setLatch r a v).dmaLast = b.dmaLast := rfl
@[simp] theorem Block.setLatch_frames (r a v : Nat) : (b.setLatch r a v).frames = b.frames := rfl
@[simp] theorem Block.setLatch_nextFrame (r a v : Nat) : (b.setLatch r a v).nextFrame = b.nextFrame := rfl
@[simp] theorem Block.setLatch_flt (r a v : Nat) : (b.setLatch r a v).flt = b.flt := rfl
@[simp] theorem Block.setLatch_inflight (r a v : Nat) : (b.setLatch r a v).inflight = b.inflight := rfl
@[simp] theorem Block.setLatch_lastMsg (r a v : Nat) : (b.setLatch r a v).lastMsg = b.lastMsg := rfl
@[simp] theorem Block.setLatch_records (r a v : Nat) : (b.setLatch r a v).records = b.records := rfl
@[simp] theorem Block.setLatch_locked (r a v : Nat) : (b.setLatch r a v).locked = b.locked := rfl
@[simp] theorem Block.setLatch_pair (r a v : Nat) : (b.setLatch r a v).pair = b.pair := rfl
@[simp] theorem Block.setLatch_chain (r a v : Nat) : (b.setLatch r a v).chain = b.chain := rfl
@[simp] theorem Block.setLatch_boot (r a v : Nat) : (b.setLatch r a v).boot = b.boot := rfl
@[simp] theorem Block.setLatch_pkgHold (r a v : Nat) : (b.setLatch r a v).pkgHold = b.pkgHold := rfl
@[simp] theorem Block.setLatch_pinLow (r a v : Nat) : (b.setLatch r a v).pinLow = b.pinLow := rfl
@[simp] theorem Block.setLatch_relPin (r a v : Nat) : (b.setLatch r a v).relPin = b.relPin := rfl
@[simp] theorem Block.setLatch_strapPins (r a v : Nat) : (b.setLatch r a v).strapPins = b.strapPins := rfl
@[simp] theorem Block.setLatch_fuses (r a v : Nat) : (b.setLatch r a v).fuses = b.fuses := rfl
@[simp] theorem Block.setLatch_faultN (r a v : Nat) : (b.setLatch r a v).faultN = b.faultN := rfl
@[simp] theorem Block.setLatch_snap (r a v : Nat) : (b.setLatch r a v).snap = b.snap := rfl
@[simp] theorem Block.setLatch_pendSnap (r a v : Nat) : (b.setLatch r a v).pendSnap = b.pendSnap := rfl
@[simp] theorem Block.setLatch_refusals (r a v : Nat) : (b.setLatch r a v).refusals = b.refusals := rfl
@[simp] theorem Block.setLatch_out (r a v : Nat) : (b.setLatch r a v).out = b.out := rfl
@[simp] theorem Block.setLatch_fresh (r a v : Nat) : (b.setLatch r a v).fresh = b.fresh := rfl
@[simp] theorem Block.setLatch_word (r a v : Nat) (y0 : Nat) : (b.setLatch r a v).word y0 = b.word y0 := rfl
@[simp] theorem Block.setLatch_fld (r a v : Nat) (y0 : Nat) (z0 : Bf) : (b.setLatch r a v).fld y0 z0 = b.fld y0 z0 := rfl
@[simp] theorem Block.setLatch_flag (r a v : Nat) (y0 : Nat) (z0 : Bf) : (b.setLatch r a v).flag y0 z0 = b.flag y0 z0 := rfl
@[simp] theorem Block.setLatch_ctr (r a v : Nat) (y0 : Nat) : (b.setLatch r a v).ctr y0 = b.ctr y0 := rfl
@[simp] theorem Block.setLatch_die (r a v : Nat) (y0 : Nat) : (b.setLatch r a v).die y0 = b.die y0 := rfl
@[simp] theorem Block.setLatch_port (r a v : Nat) (y0 : Nat) : (b.setLatch r a v).port y0 = b.port y0 := rfl
@[simp] theorem Block.setLatch_cluster (r a v : Nat) (y0 : Nat) : (b.setLatch r a v).cluster y0 = b.cluster y0 := rfl
@[simp] theorem Block.setLatch_region (r a v : Nat) (y0 : Nat) : (b.setLatch r a v).region y0 = b.region y0 := rfl
@[simp] theorem Block.setLatch_engine (r a v : Nat) (y0 : Nat) : (b.setLatch r a v).engine y0 = b.engine y0 := rfl
@[simp] theorem Block.setLatch_frame (r a v : Nat) (y0 : Nat) : (b.setLatch r a v).frame y0 = b.frame y0 := rfl
@[simp] theorem Block.setLatch_inst (r a v : Nat) (y0 : Nat) : (b.setLatch r a v).inst y0 = b.inst y0 := rfl
@[simp] theorem Block.setLatch_txRing (r a v : Nat) (y0 : Nat) : (b.setLatch r a v).txRing y0 = b.txRing y0 := rfl
@[simp] theorem Block.setLatch_rxRing (r a v : Nat) (y0 : Nat) : (b.setLatch r a v).rxRing y0 = b.rxRing y0 := rfl
@[simp] theorem Block.setLatch_pool (r a v : Nat) (y0 z0 : Nat) : (b.setLatch r a v).pool y0 z0 = b.pool y0 z0 := rfl
@[simp] theorem Block.setLatch_ring (r a v : Nat) (y0 : Nat) : (b.setLatch r a v).ring y0 = b.ring y0 := rfl
@[simp] theorem Block.setLatch_link (r a v : Nat) (y0 z0 : Nat) : (b.setLatch r a v).link y0 z0 = b.link y0 z0 := rfl
@[simp] theorem Block.setLatch_fifo (r a v : Nat) (y0 z0 : Nat) : (b.setLatch r a v).fifo y0 z0 = b.fifo y0 z0 := rfl
@[simp] theorem Block.setLatch_frozen (r a v : Nat) (y0 : Nat) : (b.setLatch r a v).frozen y0 = b.frozen y0 := rfl
@[simp] theorem Block.setLatch_stopped (r a v : Nat) (y0 : Nat) : (b.setLatch r a v).stopped y0 = b.stopped y0 := rfl
@[simp] theorem Block.setLatch_ctx (r a v : Nat) (y0 z0 : Nat) : (b.setLatch r a v).ctx y0 z0 = b.ctx y0 z0 := rfl
@[simp] theorem Block.setLatch_at_ (r a v : Nat) (y0 : Nat) (z0 : Loc) : (b.setLatch r a v).at_ y0 z0 = b.at_ y0 z0 := rfl
@[simp] theorem Block.setLatch_stgFill (r a v : Nat) (y0 : Nat) : (b.setLatch r a v).stgFill y0 = b.stgFill y0 := rfl
@[simp] theorem Block.setLatch_txAt (r a v : Nat) (y0 : Nat) (z0 : TxStage) : (b.setLatch r a v).txAt y0 z0 = b.txAt y0 z0 := rfl

/-! ## trace -/

@[simp] theorem Block.trace_regs (r : TraceRec) : (b.trace r).regs = b.regs := rfl
@[simp] theorem Block.trace_ctrs (r : TraceRec) : (b.trace r).ctrs = b.ctrs := rfl
@[simp] theorem Block.trace_latch (r : TraceRec) : (b.trace r).latch = b.latch := rfl
@[simp] theorem Block.trace_ticks (r : TraceRec) : (b.trace r).ticks = b.ticks := rfl
@[simp] theorem Block.trace_refLost (r : TraceRec) : (b.trace r).refLost = b.refLost := rfl
@[simp] theorem Block.trace_baseA (r : TraceRec) : (b.trace r).baseA = b.baseA := rfl
@[simp] theorem Block.trace_baseB (r : TraceRec) : (b.trace r).baseB = b.baseB := rfl
@[simp] theorem Block.trace_switchTick (r : TraceRec) : (b.trace r).switchTick = b.switchTick := rfl
@[simp] theorem Block.trace_dies (r : TraceRec) : (b.trace r).dies = b.dies := rfl
@[simp] theorem Block.trace_ports (r : TraceRec) : (b.trace r).ports = b.ports := rfl
@[simp] theorem Block.trace_clusters (r : TraceRec) : (b.trace r).clusters = b.clusters := rfl
@[simp] theorem Block.trace_regions (r : TraceRec) : (b.trace r).regions = b.regions := rfl
@[simp] theorem Block.trace_engines (r : TraceRec) : (b.trace r).engines = b.engines := rfl
@[simp] theorem Block.trace_rings (r : TraceRec) : (b.trace r).rings = b.rings := rfl
@[simp] theorem Block.trace_fifos (r : TraceRec) : (b.trace r).fifos = b.fifos := rfl
@[simp] theorem Block.trace_hostLinks (r : TraceRec) : (b.trace r).hostLinks = b.hostLinks := rfl
@[simp] theorem Block.trace_links (r : TraceRec) : (b.trace r).links = b.links := rfl
@[simp] theorem Block.trace_hbms (r : TraceRec) : (b.trace r).hbms = b.hbms := rfl
@[simp] theorem Block.trace_slow (r : TraceRec) : (b.trace r).slow = b.slow := rfl
@[simp] theorem Block.trace_txRings (r : TraceRec) : (b.trace r).txRings = b.txRings := rfl
@[simp] theorem Block.trace_rxRings (r : TraceRec) : (b.trace r).rxRings = b.rxRings := rfl
@[simp] theorem Block.trace_pools (r : TraceRec) : (b.trace r).pools = b.pools := rfl
@[simp] theorem Block.trace_ringInts (r : TraceRec) : (b.trace r).ringInts = b.ringInts := rfl
@[simp] theorem Block.trace_insts (r : TraceRec) : (b.trace r).insts = b.insts := rfl
@[simp] theorem Block.trace_vfEnable (r : TraceRec) : (b.trace r).vfEnable = b.vfEnable := rfl
@[simp] theorem Block.trace_numVfs (r : TraceRec) : (b.trace r).numVfs = b.numVfs := rfl
@[simp] theorem Block.trace_txLast (r : TraceRec) : (b.trace r).txLast = b.txLast := rfl
@[simp] theorem Block.trace_jobs (r : TraceRec) : (b.trace r).jobs = b.jobs := rfl
@[simp] theorem Block.trace_dmaEng (r : TraceRec) : (b.trace r).dmaEng = b.dmaEng := rfl
@[simp] theorem Block.trace_jobCount (r : TraceRec) : (b.trace r).jobCount = b.jobCount := rfl
@[simp] theorem Block.trace_dmaLast (r : TraceRec) : (b.trace r).dmaLast = b.dmaLast := rfl
@[simp] theorem Block.trace_frames (r : TraceRec) : (b.trace r).frames = b.frames := rfl
@[simp] theorem Block.trace_nextFrame (r : TraceRec) : (b.trace r).nextFrame = b.nextFrame := rfl
@[simp] theorem Block.trace_flt (r : TraceRec) : (b.trace r).flt = b.flt := rfl
@[simp] theorem Block.trace_inflight (r : TraceRec) : (b.trace r).inflight = b.inflight := rfl
@[simp] theorem Block.trace_lastMsg (r : TraceRec) : (b.trace r).lastMsg = b.lastMsg := rfl
@[simp] theorem Block.trace_locked (r : TraceRec) : (b.trace r).locked = b.locked := rfl
@[simp] theorem Block.trace_pair (r : TraceRec) : (b.trace r).pair = b.pair := rfl
@[simp] theorem Block.trace_chain (r : TraceRec) : (b.trace r).chain = b.chain := rfl
@[simp] theorem Block.trace_boot (r : TraceRec) : (b.trace r).boot = b.boot := rfl
@[simp] theorem Block.trace_pkgHold (r : TraceRec) : (b.trace r).pkgHold = b.pkgHold := rfl
@[simp] theorem Block.trace_pinLow (r : TraceRec) : (b.trace r).pinLow = b.pinLow := rfl
@[simp] theorem Block.trace_relPin (r : TraceRec) : (b.trace r).relPin = b.relPin := rfl
@[simp] theorem Block.trace_strapPins (r : TraceRec) : (b.trace r).strapPins = b.strapPins := rfl
@[simp] theorem Block.trace_fuses (r : TraceRec) : (b.trace r).fuses = b.fuses := rfl
@[simp] theorem Block.trace_faultN (r : TraceRec) : (b.trace r).faultN = b.faultN := rfl
@[simp] theorem Block.trace_snap (r : TraceRec) : (b.trace r).snap = b.snap := rfl
@[simp] theorem Block.trace_pendSnap (r : TraceRec) : (b.trace r).pendSnap = b.pendSnap := rfl
@[simp] theorem Block.trace_refusals (r : TraceRec) : (b.trace r).refusals = b.refusals := rfl
@[simp] theorem Block.trace_out (r : TraceRec) : (b.trace r).out = b.out := rfl
@[simp] theorem Block.trace_fresh (r : TraceRec) : (b.trace r).fresh = b.fresh := rfl
@[simp] theorem Block.trace_word (r : TraceRec) (y0 : Nat) : (b.trace r).word y0 = b.word y0 := rfl
@[simp] theorem Block.trace_fld (r : TraceRec) (y0 : Nat) (z0 : Bf) : (b.trace r).fld y0 z0 = b.fld y0 z0 := rfl
@[simp] theorem Block.trace_flag (r : TraceRec) (y0 : Nat) (z0 : Bf) : (b.trace r).flag y0 z0 = b.flag y0 z0 := rfl
@[simp] theorem Block.trace_ctr (r : TraceRec) (y0 : Nat) : (b.trace r).ctr y0 = b.ctr y0 := rfl
@[simp] theorem Block.trace_die (r : TraceRec) (y0 : Nat) : (b.trace r).die y0 = b.die y0 := rfl
@[simp] theorem Block.trace_port (r : TraceRec) (y0 : Nat) : (b.trace r).port y0 = b.port y0 := rfl
@[simp] theorem Block.trace_cluster (r : TraceRec) (y0 : Nat) : (b.trace r).cluster y0 = b.cluster y0 := rfl
@[simp] theorem Block.trace_region (r : TraceRec) (y0 : Nat) : (b.trace r).region y0 = b.region y0 := rfl
@[simp] theorem Block.trace_engine (r : TraceRec) (y0 : Nat) : (b.trace r).engine y0 = b.engine y0 := rfl
@[simp] theorem Block.trace_frame (r : TraceRec) (y0 : Nat) : (b.trace r).frame y0 = b.frame y0 := rfl
@[simp] theorem Block.trace_latched (r : TraceRec) (y0 z0 : Nat) : (b.trace r).latched y0 z0 = b.latched y0 z0 := rfl
@[simp] theorem Block.trace_inst (r : TraceRec) (y0 : Nat) : (b.trace r).inst y0 = b.inst y0 := rfl
@[simp] theorem Block.trace_txRing (r : TraceRec) (y0 : Nat) : (b.trace r).txRing y0 = b.txRing y0 := rfl
@[simp] theorem Block.trace_rxRing (r : TraceRec) (y0 : Nat) : (b.trace r).rxRing y0 = b.rxRing y0 := rfl
@[simp] theorem Block.trace_pool (r : TraceRec) (y0 z0 : Nat) : (b.trace r).pool y0 z0 = b.pool y0 z0 := rfl
@[simp] theorem Block.trace_ring (r : TraceRec) (y0 : Nat) : (b.trace r).ring y0 = b.ring y0 := rfl
@[simp] theorem Block.trace_link (r : TraceRec) (y0 z0 : Nat) : (b.trace r).link y0 z0 = b.link y0 z0 := rfl
@[simp] theorem Block.trace_fifo (r : TraceRec) (y0 z0 : Nat) : (b.trace r).fifo y0 z0 = b.fifo y0 z0 := rfl
@[simp] theorem Block.trace_frozen (r : TraceRec) (y0 : Nat) : (b.trace r).frozen y0 = b.frozen y0 := rfl
@[simp] theorem Block.trace_stopped (r : TraceRec) (y0 : Nat) : (b.trace r).stopped y0 = b.stopped y0 := rfl
@[simp] theorem Block.trace_ctx (r : TraceRec) (y0 z0 : Nat) : (b.trace r).ctx y0 z0 = b.ctx y0 z0 := rfl
@[simp] theorem Block.trace_at_ (r : TraceRec) (y0 : Nat) (z0 : Loc) : (b.trace r).at_ y0 z0 = b.at_ y0 z0 := rfl
@[simp] theorem Block.trace_stgFill (r : TraceRec) (y0 : Nat) : (b.trace r).stgFill y0 = b.stgFill y0 := rfl
@[simp] theorem Block.trace_txAt (r : TraceRec) (y0 : Nat) (z0 : TxStage) : (b.trace r).txAt y0 z0 = b.txAt y0 z0 := rfl

/-! ## traceLevel -/

@[simp] theorem Block.traceLevel_regs (e l d m g : Nat) : (b.traceLevel e l d m g).regs = b.regs := rfl
@[simp] theorem Block.traceLevel_ctrs (e l d m g : Nat) : (b.traceLevel e l d m g).ctrs = b.ctrs := rfl
@[simp] theorem Block.traceLevel_latch (e l d m g : Nat) : (b.traceLevel e l d m g).latch = b.latch := rfl
@[simp] theorem Block.traceLevel_ticks (e l d m g : Nat) : (b.traceLevel e l d m g).ticks = b.ticks := rfl
@[simp] theorem Block.traceLevel_refLost (e l d m g : Nat) : (b.traceLevel e l d m g).refLost = b.refLost := rfl
@[simp] theorem Block.traceLevel_baseA (e l d m g : Nat) : (b.traceLevel e l d m g).baseA = b.baseA := rfl
@[simp] theorem Block.traceLevel_baseB (e l d m g : Nat) : (b.traceLevel e l d m g).baseB = b.baseB := rfl
@[simp] theorem Block.traceLevel_switchTick (e l d m g : Nat) : (b.traceLevel e l d m g).switchTick = b.switchTick := rfl
@[simp] theorem Block.traceLevel_dies (e l d m g : Nat) : (b.traceLevel e l d m g).dies = b.dies := rfl
@[simp] theorem Block.traceLevel_ports (e l d m g : Nat) : (b.traceLevel e l d m g).ports = b.ports := rfl
@[simp] theorem Block.traceLevel_clusters (e l d m g : Nat) : (b.traceLevel e l d m g).clusters = b.clusters := rfl
@[simp] theorem Block.traceLevel_regions (e l d m g : Nat) : (b.traceLevel e l d m g).regions = b.regions := rfl
@[simp] theorem Block.traceLevel_engines (e l d m g : Nat) : (b.traceLevel e l d m g).engines = b.engines := rfl
@[simp] theorem Block.traceLevel_rings (e l d m g : Nat) : (b.traceLevel e l d m g).rings = b.rings := rfl
@[simp] theorem Block.traceLevel_fifos (e l d m g : Nat) : (b.traceLevel e l d m g).fifos = b.fifos := rfl
@[simp] theorem Block.traceLevel_hostLinks (e l d m g : Nat) : (b.traceLevel e l d m g).hostLinks = b.hostLinks := rfl
@[simp] theorem Block.traceLevel_links (e l d m g : Nat) : (b.traceLevel e l d m g).links = b.links := rfl
@[simp] theorem Block.traceLevel_hbms (e l d m g : Nat) : (b.traceLevel e l d m g).hbms = b.hbms := rfl
@[simp] theorem Block.traceLevel_slow (e l d m g : Nat) : (b.traceLevel e l d m g).slow = b.slow := rfl
@[simp] theorem Block.traceLevel_txRings (e l d m g : Nat) : (b.traceLevel e l d m g).txRings = b.txRings := rfl
@[simp] theorem Block.traceLevel_rxRings (e l d m g : Nat) : (b.traceLevel e l d m g).rxRings = b.rxRings := rfl
@[simp] theorem Block.traceLevel_pools (e l d m g : Nat) : (b.traceLevel e l d m g).pools = b.pools := rfl
@[simp] theorem Block.traceLevel_ringInts (e l d m g : Nat) : (b.traceLevel e l d m g).ringInts = b.ringInts := rfl
@[simp] theorem Block.traceLevel_insts (e l d m g : Nat) : (b.traceLevel e l d m g).insts = b.insts := rfl
@[simp] theorem Block.traceLevel_vfEnable (e l d m g : Nat) : (b.traceLevel e l d m g).vfEnable = b.vfEnable := rfl
@[simp] theorem Block.traceLevel_numVfs (e l d m g : Nat) : (b.traceLevel e l d m g).numVfs = b.numVfs := rfl
@[simp] theorem Block.traceLevel_txLast (e l d m g : Nat) : (b.traceLevel e l d m g).txLast = b.txLast := rfl
@[simp] theorem Block.traceLevel_jobs (e l d m g : Nat) : (b.traceLevel e l d m g).jobs = b.jobs := rfl
@[simp] theorem Block.traceLevel_dmaEng (e l d m g : Nat) : (b.traceLevel e l d m g).dmaEng = b.dmaEng := rfl
@[simp] theorem Block.traceLevel_jobCount (e l d m g : Nat) : (b.traceLevel e l d m g).jobCount = b.jobCount := rfl
@[simp] theorem Block.traceLevel_dmaLast (e l d m g : Nat) : (b.traceLevel e l d m g).dmaLast = b.dmaLast := rfl
@[simp] theorem Block.traceLevel_frames (e l d m g : Nat) : (b.traceLevel e l d m g).frames = b.frames := rfl
@[simp] theorem Block.traceLevel_nextFrame (e l d m g : Nat) : (b.traceLevel e l d m g).nextFrame = b.nextFrame := rfl
@[simp] theorem Block.traceLevel_flt (e l d m g : Nat) : (b.traceLevel e l d m g).flt = b.flt := rfl
@[simp] theorem Block.traceLevel_inflight (e l d m g : Nat) : (b.traceLevel e l d m g).inflight = b.inflight := rfl
@[simp] theorem Block.traceLevel_lastMsg (e l d m g : Nat) : (b.traceLevel e l d m g).lastMsg = b.lastMsg := rfl
@[simp] theorem Block.traceLevel_locked (e l d m g : Nat) : (b.traceLevel e l d m g).locked = b.locked := rfl
@[simp] theorem Block.traceLevel_pair (e l d m g : Nat) : (b.traceLevel e l d m g).pair = b.pair := rfl
@[simp] theorem Block.traceLevel_chain (e l d m g : Nat) : (b.traceLevel e l d m g).chain = b.chain := rfl
@[simp] theorem Block.traceLevel_boot (e l d m g : Nat) : (b.traceLevel e l d m g).boot = b.boot := rfl
@[simp] theorem Block.traceLevel_pkgHold (e l d m g : Nat) : (b.traceLevel e l d m g).pkgHold = b.pkgHold := rfl
@[simp] theorem Block.traceLevel_pinLow (e l d m g : Nat) : (b.traceLevel e l d m g).pinLow = b.pinLow := rfl
@[simp] theorem Block.traceLevel_relPin (e l d m g : Nat) : (b.traceLevel e l d m g).relPin = b.relPin := rfl
@[simp] theorem Block.traceLevel_strapPins (e l d m g : Nat) : (b.traceLevel e l d m g).strapPins = b.strapPins := rfl
@[simp] theorem Block.traceLevel_fuses (e l d m g : Nat) : (b.traceLevel e l d m g).fuses = b.fuses := rfl
@[simp] theorem Block.traceLevel_faultN (e l d m g : Nat) : (b.traceLevel e l d m g).faultN = b.faultN := rfl
@[simp] theorem Block.traceLevel_snap (e l d m g : Nat) : (b.traceLevel e l d m g).snap = b.snap := rfl
@[simp] theorem Block.traceLevel_pendSnap (e l d m g : Nat) : (b.traceLevel e l d m g).pendSnap = b.pendSnap := rfl
@[simp] theorem Block.traceLevel_refusals (e l d m g : Nat) : (b.traceLevel e l d m g).refusals = b.refusals := rfl
@[simp] theorem Block.traceLevel_out (e l d m g : Nat) : (b.traceLevel e l d m g).out = b.out := rfl
@[simp] theorem Block.traceLevel_fresh (e l d m g : Nat) : (b.traceLevel e l d m g).fresh = b.fresh := rfl
@[simp] theorem Block.traceLevel_word (e l d m g : Nat) (y0 : Nat) : (b.traceLevel e l d m g).word y0 = b.word y0 := rfl
@[simp] theorem Block.traceLevel_fld (e l d m g : Nat) (y0 : Nat) (z0 : Bf) : (b.traceLevel e l d m g).fld y0 z0 = b.fld y0 z0 := rfl
@[simp] theorem Block.traceLevel_flag (e l d m g : Nat) (y0 : Nat) (z0 : Bf) : (b.traceLevel e l d m g).flag y0 z0 = b.flag y0 z0 := rfl
@[simp] theorem Block.traceLevel_ctr (e l d m g : Nat) (y0 : Nat) : (b.traceLevel e l d m g).ctr y0 = b.ctr y0 := rfl
@[simp] theorem Block.traceLevel_die (e l d m g : Nat) (y0 : Nat) : (b.traceLevel e l d m g).die y0 = b.die y0 := rfl
@[simp] theorem Block.traceLevel_port (e l d m g : Nat) (y0 : Nat) : (b.traceLevel e l d m g).port y0 = b.port y0 := rfl
@[simp] theorem Block.traceLevel_cluster (e l d m g : Nat) (y0 : Nat) : (b.traceLevel e l d m g).cluster y0 = b.cluster y0 := rfl
@[simp] theorem Block.traceLevel_region (e l d m g : Nat) (y0 : Nat) : (b.traceLevel e l d m g).region y0 = b.region y0 := rfl
@[simp] theorem Block.traceLevel_engine (e l d m g : Nat) (y0 : Nat) : (b.traceLevel e l d m g).engine y0 = b.engine y0 := rfl
@[simp] theorem Block.traceLevel_frame (e l d m g : Nat) (y0 : Nat) : (b.traceLevel e l d m g).frame y0 = b.frame y0 := rfl
@[simp] theorem Block.traceLevel_latched (e l d m g : Nat) (y0 z0 : Nat) : (b.traceLevel e l d m g).latched y0 z0 = b.latched y0 z0 := rfl
@[simp] theorem Block.traceLevel_inst (e l d m g : Nat) (y0 : Nat) : (b.traceLevel e l d m g).inst y0 = b.inst y0 := rfl
@[simp] theorem Block.traceLevel_txRing (e l d m g : Nat) (y0 : Nat) : (b.traceLevel e l d m g).txRing y0 = b.txRing y0 := rfl
@[simp] theorem Block.traceLevel_rxRing (e l d m g : Nat) (y0 : Nat) : (b.traceLevel e l d m g).rxRing y0 = b.rxRing y0 := rfl
@[simp] theorem Block.traceLevel_pool (e l d m g : Nat) (y0 z0 : Nat) : (b.traceLevel e l d m g).pool y0 z0 = b.pool y0 z0 := rfl
@[simp] theorem Block.traceLevel_ring (e l d m g : Nat) (y0 : Nat) : (b.traceLevel e l d m g).ring y0 = b.ring y0 := rfl
@[simp] theorem Block.traceLevel_link (e l d m g : Nat) (y0 z0 : Nat) : (b.traceLevel e l d m g).link y0 z0 = b.link y0 z0 := rfl
@[simp] theorem Block.traceLevel_fifo (e l d m g : Nat) (y0 z0 : Nat) : (b.traceLevel e l d m g).fifo y0 z0 = b.fifo y0 z0 := rfl
@[simp] theorem Block.traceLevel_frozen (e l d m g : Nat) (y0 : Nat) : (b.traceLevel e l d m g).frozen y0 = b.frozen y0 := rfl
@[simp] theorem Block.traceLevel_stopped (e l d m g : Nat) (y0 : Nat) : (b.traceLevel e l d m g).stopped y0 = b.stopped y0 := rfl
@[simp] theorem Block.traceLevel_ctx (e l d m g : Nat) (y0 z0 : Nat) : (b.traceLevel e l d m g).ctx y0 z0 = b.ctx y0 z0 := rfl
@[simp] theorem Block.traceLevel_at_ (e l d m g : Nat) (y0 : Nat) (z0 : Loc) : (b.traceLevel e l d m g).at_ y0 z0 = b.at_ y0 z0 := rfl
@[simp] theorem Block.traceLevel_stgFill (e l d m g : Nat) (y0 : Nat) : (b.traceLevel e l d m g).stgFill y0 = b.stgFill y0 := rfl
@[simp] theorem Block.traceLevel_txAt (e l d m g : Nat) (y0 : Nat) (z0 : TxStage) : (b.traceLevel e l d m g).txAt y0 z0 = b.txAt y0 z0 := rfl

/-! ## answer -/

@[simp] theorem Block.answer_regs (r : Nat) (l : List Nat) : (b.answer r l).regs = b.regs := rfl
@[simp] theorem Block.answer_ctrs (r : Nat) (l : List Nat) : (b.answer r l).ctrs = b.ctrs := rfl
@[simp] theorem Block.answer_latch (r : Nat) (l : List Nat) : (b.answer r l).latch = b.latch := rfl
@[simp] theorem Block.answer_ticks (r : Nat) (l : List Nat) : (b.answer r l).ticks = b.ticks := rfl
@[simp] theorem Block.answer_refLost (r : Nat) (l : List Nat) : (b.answer r l).refLost = b.refLost := rfl
@[simp] theorem Block.answer_baseA (r : Nat) (l : List Nat) : (b.answer r l).baseA = b.baseA := rfl
@[simp] theorem Block.answer_baseB (r : Nat) (l : List Nat) : (b.answer r l).baseB = b.baseB := rfl
@[simp] theorem Block.answer_switchTick (r : Nat) (l : List Nat) : (b.answer r l).switchTick = b.switchTick := rfl
@[simp] theorem Block.answer_dies (r : Nat) (l : List Nat) : (b.answer r l).dies = b.dies := rfl
@[simp] theorem Block.answer_ports (r : Nat) (l : List Nat) : (b.answer r l).ports = b.ports := rfl
@[simp] theorem Block.answer_clusters (r : Nat) (l : List Nat) : (b.answer r l).clusters = b.clusters := rfl
@[simp] theorem Block.answer_regions (r : Nat) (l : List Nat) : (b.answer r l).regions = b.regions := rfl
@[simp] theorem Block.answer_engines (r : Nat) (l : List Nat) : (b.answer r l).engines = b.engines := rfl
@[simp] theorem Block.answer_rings (r : Nat) (l : List Nat) : (b.answer r l).rings = b.rings := rfl
@[simp] theorem Block.answer_fifos (r : Nat) (l : List Nat) : (b.answer r l).fifos = b.fifos := rfl
@[simp] theorem Block.answer_hostLinks (r : Nat) (l : List Nat) : (b.answer r l).hostLinks = b.hostLinks := rfl
@[simp] theorem Block.answer_links (r : Nat) (l : List Nat) : (b.answer r l).links = b.links := rfl
@[simp] theorem Block.answer_hbms (r : Nat) (l : List Nat) : (b.answer r l).hbms = b.hbms := rfl
@[simp] theorem Block.answer_slow (r : Nat) (l : List Nat) : (b.answer r l).slow = b.slow := rfl
@[simp] theorem Block.answer_txRings (r : Nat) (l : List Nat) : (b.answer r l).txRings = b.txRings := rfl
@[simp] theorem Block.answer_rxRings (r : Nat) (l : List Nat) : (b.answer r l).rxRings = b.rxRings := rfl
@[simp] theorem Block.answer_pools (r : Nat) (l : List Nat) : (b.answer r l).pools = b.pools := rfl
@[simp] theorem Block.answer_ringInts (r : Nat) (l : List Nat) : (b.answer r l).ringInts = b.ringInts := rfl
@[simp] theorem Block.answer_insts (r : Nat) (l : List Nat) : (b.answer r l).insts = b.insts := rfl
@[simp] theorem Block.answer_vfEnable (r : Nat) (l : List Nat) : (b.answer r l).vfEnable = b.vfEnable := rfl
@[simp] theorem Block.answer_numVfs (r : Nat) (l : List Nat) : (b.answer r l).numVfs = b.numVfs := rfl
@[simp] theorem Block.answer_txLast (r : Nat) (l : List Nat) : (b.answer r l).txLast = b.txLast := rfl
@[simp] theorem Block.answer_jobs (r : Nat) (l : List Nat) : (b.answer r l).jobs = b.jobs := rfl
@[simp] theorem Block.answer_dmaEng (r : Nat) (l : List Nat) : (b.answer r l).dmaEng = b.dmaEng := rfl
@[simp] theorem Block.answer_jobCount (r : Nat) (l : List Nat) : (b.answer r l).jobCount = b.jobCount := rfl
@[simp] theorem Block.answer_dmaLast (r : Nat) (l : List Nat) : (b.answer r l).dmaLast = b.dmaLast := rfl
@[simp] theorem Block.answer_frames (r : Nat) (l : List Nat) : (b.answer r l).frames = b.frames := rfl
@[simp] theorem Block.answer_nextFrame (r : Nat) (l : List Nat) : (b.answer r l).nextFrame = b.nextFrame := rfl
@[simp] theorem Block.answer_flt (r : Nat) (l : List Nat) : (b.answer r l).flt = b.flt := rfl
@[simp] theorem Block.answer_inflight (r : Nat) (l : List Nat) : (b.answer r l).inflight = b.inflight := rfl
@[simp] theorem Block.answer_lastMsg (r : Nat) (l : List Nat) : (b.answer r l).lastMsg = b.lastMsg := rfl
@[simp] theorem Block.answer_records (r : Nat) (l : List Nat) : (b.answer r l).records = b.records := rfl
@[simp] theorem Block.answer_locked (r : Nat) (l : List Nat) : (b.answer r l).locked = b.locked := rfl
@[simp] theorem Block.answer_pair (r : Nat) (l : List Nat) : (b.answer r l).pair = b.pair := rfl
@[simp] theorem Block.answer_chain (r : Nat) (l : List Nat) : (b.answer r l).chain = b.chain := rfl
@[simp] theorem Block.answer_boot (r : Nat) (l : List Nat) : (b.answer r l).boot = b.boot := rfl
@[simp] theorem Block.answer_pkgHold (r : Nat) (l : List Nat) : (b.answer r l).pkgHold = b.pkgHold := rfl
@[simp] theorem Block.answer_pinLow (r : Nat) (l : List Nat) : (b.answer r l).pinLow = b.pinLow := rfl
@[simp] theorem Block.answer_relPin (r : Nat) (l : List Nat) : (b.answer r l).relPin = b.relPin := rfl
@[simp] theorem Block.answer_strapPins (r : Nat) (l : List Nat) : (b.answer r l).strapPins = b.strapPins := rfl
@[simp] theorem Block.answer_fuses (r : Nat) (l : List Nat) : (b.answer r l).fuses = b.fuses := rfl
@[simp] theorem Block.answer_faultN (r : Nat) (l : List Nat) : (b.answer r l).faultN = b.faultN := rfl
@[simp] theorem Block.answer_snap (r : Nat) (l : List Nat) : (b.answer r l).snap = b.snap := rfl
@[simp] theorem Block.answer_pendSnap (r : Nat) (l : List Nat) : (b.answer r l).pendSnap = b.pendSnap := rfl
@[simp] theorem Block.answer_refusals (r : Nat) (l : List Nat) : (b.answer r l).refusals = b.refusals := rfl
@[simp] theorem Block.answer_fresh (r : Nat) (l : List Nat) : (b.answer r l).fresh = b.fresh := rfl
@[simp] theorem Block.answer_word (r : Nat) (l : List Nat) (y0 : Nat) : (b.answer r l).word y0 = b.word y0 := rfl
@[simp] theorem Block.answer_fld (r : Nat) (l : List Nat) (y0 : Nat) (z0 : Bf) : (b.answer r l).fld y0 z0 = b.fld y0 z0 := rfl
@[simp] theorem Block.answer_flag (r : Nat) (l : List Nat) (y0 : Nat) (z0 : Bf) : (b.answer r l).flag y0 z0 = b.flag y0 z0 := rfl
@[simp] theorem Block.answer_ctr (r : Nat) (l : List Nat) (y0 : Nat) : (b.answer r l).ctr y0 = b.ctr y0 := rfl
@[simp] theorem Block.answer_die (r : Nat) (l : List Nat) (y0 : Nat) : (b.answer r l).die y0 = b.die y0 := rfl
@[simp] theorem Block.answer_port (r : Nat) (l : List Nat) (y0 : Nat) : (b.answer r l).port y0 = b.port y0 := rfl
@[simp] theorem Block.answer_cluster (r : Nat) (l : List Nat) (y0 : Nat) : (b.answer r l).cluster y0 = b.cluster y0 := rfl
@[simp] theorem Block.answer_region (r : Nat) (l : List Nat) (y0 : Nat) : (b.answer r l).region y0 = b.region y0 := rfl
@[simp] theorem Block.answer_engine (r : Nat) (l : List Nat) (y0 : Nat) : (b.answer r l).engine y0 = b.engine y0 := rfl
@[simp] theorem Block.answer_frame (r : Nat) (l : List Nat) (y0 : Nat) : (b.answer r l).frame y0 = b.frame y0 := rfl
@[simp] theorem Block.answer_latched (r : Nat) (l : List Nat) (y0 z0 : Nat) : (b.answer r l).latched y0 z0 = b.latched y0 z0 := rfl
@[simp] theorem Block.answer_inst (r : Nat) (l : List Nat) (y0 : Nat) : (b.answer r l).inst y0 = b.inst y0 := rfl
@[simp] theorem Block.answer_txRing (r : Nat) (l : List Nat) (y0 : Nat) : (b.answer r l).txRing y0 = b.txRing y0 := rfl
@[simp] theorem Block.answer_rxRing (r : Nat) (l : List Nat) (y0 : Nat) : (b.answer r l).rxRing y0 = b.rxRing y0 := rfl
@[simp] theorem Block.answer_pool (r : Nat) (l : List Nat) (y0 z0 : Nat) : (b.answer r l).pool y0 z0 = b.pool y0 z0 := rfl
@[simp] theorem Block.answer_ring (r : Nat) (l : List Nat) (y0 : Nat) : (b.answer r l).ring y0 = b.ring y0 := rfl
@[simp] theorem Block.answer_link (r : Nat) (l : List Nat) (y0 z0 : Nat) : (b.answer r l).link y0 z0 = b.link y0 z0 := rfl
@[simp] theorem Block.answer_fifo (r : Nat) (l : List Nat) (y0 z0 : Nat) : (b.answer r l).fifo y0 z0 = b.fifo y0 z0 := rfl
@[simp] theorem Block.answer_frozen (r : Nat) (l : List Nat) (y0 : Nat) : (b.answer r l).frozen y0 = b.frozen y0 := rfl
@[simp] theorem Block.answer_stopped (r : Nat) (l : List Nat) (y0 : Nat) : (b.answer r l).stopped y0 = b.stopped y0 := rfl
@[simp] theorem Block.answer_ctx (r : Nat) (l : List Nat) (y0 z0 : Nat) : (b.answer r l).ctx y0 z0 = b.ctx y0 z0 := rfl
@[simp] theorem Block.answer_at_ (r : Nat) (l : List Nat) (y0 : Nat) (z0 : Loc) : (b.answer r l).at_ y0 z0 = b.at_ y0 z0 := rfl
@[simp] theorem Block.answer_stgFill (r : Nat) (l : List Nat) (y0 : Nat) : (b.answer r l).stgFill y0 = b.stgFill y0 := rfl
@[simp] theorem Block.answer_txAt (r : Nat) (l : List Nat) (y0 : Nat) (z0 : TxStage) : (b.answer r l).txAt y0 z0 = b.txAt y0 z0 := rfl

end Sys2Proof.Machine
end

