-- ==== Sys2Proof/Laws/Ops.lean ====
section
/-!
SUPPORT. Laws/Ops.lean: for each shared operation of Machine/Ops.lean, once, everything it can do: what a field of a register reads
as after a write, and for each operation that decides something, the fields of the block that it may change at all.
-/
namespace Sys2Proof.Machine
open Sys2Proof

variable (b : Block)

/-! ## Fields of a word -/

theorem Bf.of_lt (f : Bf) (w : Nat) : f.of w < 2 ^ (f.hi + 1 - f.lo) := Nat.mod_lt _ (Nat.two_pow_pos _)

/-- A word apart: what lies above a field, the field, and what lies below it. -/
theorem Bf.split (f : Bf) (w : Nat) :
    w = w / 2 ^ f.lo / 2 ^ (f.hi + 1 - f.lo) * 2 ^ (f.hi + 1 - f.lo) * 2 ^ f.lo + f.of w * 2 ^ f.lo + w % 2 ^ f.lo := by
  unfold Bf.of
  rw [← Nat.add_mul, Nat.div_add_mod', Nat.div_add_mod']

/-- A word with a field replaced, apart in the same way. -/
theorem Bf.put_eq (f : Bf) (w v : Nat) :
    f.put w v = (w / 2 ^ f.lo / 2 ^ (f.hi + 1 - f.lo) * 2 ^ (f.hi + 1 - f.lo) + v % 2 ^ (f.hi + 1 - f.lo)) * 2 ^ f.lo
      + w % 2 ^ f.lo := by
  unfold Bf.put
  have h := Bf.split f w
  rw [Nat.add_mul]
  omega

/-- Reading the field that was put: the low bits of the value, as many as the field has. -/
theorem Bf.of_put_same (f : Bf) (w v : Nat) : f.of (f.put w v) = v % 2 ^ (f.hi + 1 - f.lo) := by
  rw [Bf.put_eq]
  unfold Bf.of
  rw [Nat.add_comm, Nat.add_mul_div_right _ _ (Nat.two_pow_pos _), Nat.div_eq_of_lt (Nat.mod_lt _ (Nat.two_pow_pos _)),
    Nat.zero_add, Nat.add_comm, Nat.add_mul_mod_self_right, Nat.mod_mod]

/-- Reading a field above the one that was put. -/
theorem Bf.of_put_above (f g : Bf) (w v : Nat) (h : f.hi < g.lo) (hf : f.lo ≤ f.hi) : g.of (f.put w v) = g.of w := by
  have key : ∀ x, x / 2 ^ g.lo = x / 2 ^ f.lo / 2 ^ (f.hi + 1 - f.lo) / 2 ^ (g.lo - (f.hi + 1)) := by
    intro x
    rw [Nat.div_div_eq_div_mul, Nat.div_div_eq_div_mul, ← Nat.pow_add, ← Nat.pow_add]
    congr 2
    omega
  unfold Bf.of
  rw [key (f.put w v), key w, Bf.put_eq]
  congr 2
  rw [Nat.add_comm _ (w % _), Nat.add_mul_div_right _ _ (Nat.two_pow_pos _),
    Nat.div_eq_of_lt (Nat.mod_lt w (Nat.two_pow_pos _)), Nat.zero_add, Nat.add_comm,
    Nat.add_mul_div_right _ _ (Nat.two_pow_pos _), Nat.div_eq_of_lt (Nat.mod_lt v (Nat.two_pow_pos _)), Nat.zero_add]

/-- Reading a field below the one that was put. -/
theorem Bf.of_put_below (f g : Bf) (w v : Nat) (h : g.hi < f.lo) (hg : g.lo ≤ g.hi) : g.of (f.put w v) = g.of w := by
  have key : ∀ x, x / 2 ^ g.lo % 2 ^ (g.hi + 1 - g.lo) = x % 2 ^ f.lo / 2 ^ g.lo % 2 ^ (g.hi + 1 - g.lo) := by
    intro x
    have e : 2 ^ f.lo = 2 ^ g.lo * (2 ^ (g.hi + 1 - g.lo) * 2 ^ (f.lo - (g.hi + 1))) := by
      rw [← Nat.pow_add, ← Nat.pow_add]; congr 1; omega
    rw [e, Nat.mod_mul_right_div_self, Nat.mod_mul_right_mod]
  unfold Bf.of
  rw [key (f.put w v), key w, Bf.put_eq, Nat.add_comm, Nat.add_mul_mod_self_right, Nat.mod_mod]

/-- A word of 32 bits stays one. -/
theorem Bf.put_lt (f : Bf) (w v n : Nat) (hw : w < 2 ^ n) (h : f.hi < n) (hf : f.lo ≤ f.hi) : f.put w v < 2 ^ n := by
  have e : 2 ^ n = 2 ^ (n - (f.hi + 1)) * 2 ^ (f.hi + 1 - f.lo) * 2 ^ f.lo := by
    rw [← Nat.pow_add, ← Nat.pow_add]; congr 1; omega
  have h1 : w / 2 ^ f.lo / 2 ^ (f.hi + 1 - f.lo) < 2 ^ (n - (f.hi + 1)) := by
    rw [Nat.div_div_eq_div_mul]
    apply Nat.div_lt_of_lt_mul
    rw [e] at hw
    calc w < _ := hw
      _ = _ := by ac_rfl
  have h2 := Nat.mod_lt v (Nat.two_pow_pos (f.hi + 1 - f.lo))
  have h3 := Nat.mod_lt w (Nat.two_pow_pos f.lo)
  rw [Bf.put_eq, e]
  generalize w / 2 ^ f.lo / 2 ^ (f.hi + 1 - f.lo) = A at *
  generalize v % 2 ^ (f.hi + 1 - f.lo) = B at *
  generalize 2 ^ (n - (f.hi + 1)) = P at *
  generalize 2 ^ (f.hi + 1 - f.lo) = Q at *
  generalize w % 2 ^ f.lo = C at *
  generalize 2 ^ f.lo = S at *
  have : A * Q + B + 1 ≤ P * Q := by
    calc A * Q + B + 1 ≤ A * Q + Q := by omega
      _ = (A + 1) * Q := by rw [Nat.add_mul, Nat.one_mul]
      _ ≤ P * Q := Nat.mul_le_mul_right _ h1
  calc (A * Q + B) * S + C < (A * Q + B) * S + S := by omega
    _ = (A * Q + B + 1) * S := by rw [Nat.add_mul _ 1, Nat.one_mul]
    _ ≤ P * Q * S := Nat.mul_le_mul_right _ this

/-! ## Registers -/

theorem resetWord_lt (a : Nat) : resetWord a < 2 ^ 32 := by
  unfold resetWord
  split
  · split
    · decide
    · exact Nat.mod_lt _ (by decide)
  · decide

theorem Block.word_lt (a : Nat) : b.word a < 2 ^ 32 := by
  unfold Block.word
  split
  · exact BitVec.isLt _
  · exact resetWord_lt a

/-- A register reads as what was last written to it, in 32 bits; every other one as before. -/
theorem Block.word_setWord (a v c : Nat) : (b.setWord a v).word c = if c = a then v % 2 ^ 32 else b.word c := by
  unfold Block.word Block.setWord
  simp only [SMap.find_set]
  split
  · rename_i x h
    split at h
    · split at h
      · cases h
      · cases h; subst_vars; simp
    · rename_i hne; simp [hne, h]
  · rename_i h
    split at h
    · split at h
      · rename_i hc hv
        have : v % 2 ^ 32 = resetWord a % 2 ^ 32 := by
          have := congrArg BitVec.toNat hv
          simpa using this
        subst hc
        rw [if_pos rfl, this, Nat.mod_eq_of_lt (resetWord_lt _)]
      · cases h
    · rename_i hne; simp [hne, h]

@[simp] theorem Block.word_setWord_same (a v : Nat) : (b.setWord a v).word a = v % 2 ^ 32 := by simp [Block.word_setWord]

theorem Block.word_setWord_other {a c : Nat} (v : Nat) (h : c ≠ a) : (b.setWord a v).word c = b.word c := by
  simp [Block.word_setWord, h]

/-- What a register reads as after a field of one was written. -/
theorem Block.word_setFld (a : Nat) (f : Bf) (v c : Nat) :
    (b.setFld a f v).word c = if c = a then f.put (b.word a) v % 2 ^ 32 else b.word c := Block.word_setWord _ _ _ _

/-- A field as wide as its register allows reads back what was written to it. -/
theorem Block.fld_setFld_same (a : Nat) (f : Bf) (v : Nat) (h : f.hi < 32) (hf : f.lo ≤ f.hi) :
    (b.setFld a f v).fld a f = v % 2 ^ (f.hi + 1 - f.lo) := by
  unfold Block.fld
  rw [Block.word_setFld, if_pos rfl, Nat.mod_eq_of_lt (Bf.put_lt _ _ _ _ (b.word_lt a) h hf), Bf.of_put_same]

/-- A field of the same register that does not overlap the one written reads as before. -/
theorem Block.fld_setFld_apart (a : Nat) (f g : Bf) (v : Nat) (h : f.hi < 32) (hf : f.lo ≤ f.hi) (hg : g.lo ≤ g.hi)
    (hd : f.hi < g.lo ∨ g.hi < f.lo) : (b.setFld a f v).fld a g = b.fld a g := by
  unfold Block.fld
  rw [Block.word_setFld, if_pos rfl, Nat.mod_eq_of_lt (Bf.put_lt _ _ _ _ (b.word_lt a) h hf)]
  rcases hd with hd | hd
  · exact Bf.of_put_above _ _ _ _ hd hf
  · exact Bf.of_put_below _ _ _ _ hd hg

/-- A field of another register reads as before. -/
theorem Block.fld_setFld_other {a c : Nat} (f g : Bf) (v : Nat) (h : c ≠ a) : (b.setFld a f v).fld c g = b.fld c g := by
  unfold Block.fld
  rw [Block.word_setFld, if_neg h]

theorem Block.flag_raise (a : Nat) (f : Bf) (h : f.hi < 32) (hf : f.lo ≤ f.hi) : (b.raise a f).flag a f = true := by
  unfold Block.flag Block.raise
  rw [Block.fld_setFld_same _ _ _ _ h hf, Nat.mod_eq_of_lt (Nat.one_lt_two_pow (by omega))]
  rfl

theorem Block.flag_lower (a : Nat) (f : Bf) (h : f.hi < 32) (hf : f.lo ≤ f.hi) : (b.lower a f).flag a f = false := by
  unfold Block.flag Block.lower
  rw [Block.fld_setFld_same _ _ _ _ h hf, Nat.zero_mod]
  rfl

/-- A 64-bit register reads as what was last put in it, in 64 bits; every other one as before. -/
theorem Block.ctr_setCtr (a v c : Nat) : (b.setCtr a v).ctr c = if c = a then v % 2 ^ 64 else b.ctr c := by
  unfold Block.ctr Block.setCtr
  simp only [SMap.get_set]
  split <;> simp

/-- Counting: the counter goes on by n, wrapping at 2^64, unless its die is held; no other changes (R43, R503). -/
theorem Block.ctr_count (a n c : Nat) :
    (b.count a n).ctr c = if c = a ∧ b.stopped a = false then (b.ctr a + n) % 2 ^ 64 else b.ctr c := by
  unfold Block.count
  cases h : b.stopped a
  · simp [Block.ctr_setCtr]
  · simp

/-! ## The elements -/

theorem Block.die_modDie (d : Nat) (f : Die → Die) (c : Nat) : (b.modDie d f).die c = if c = d then f (b.die d) else b.die c :=
  SMap.get_mod _ _ _ _ _
theorem Block.port_modPort (p : Nat) (f : Port → Port) (c : Nat) :
    (b.modPort p f).port c = if c = p then f (b.port p) else b.port c := SMap.get_mod _ _ _ _ _
theorem Block.cluster_modCluster (C : Nat) (f : Cluster → Cluster) (c : Nat) :
    (b.modCluster C f).cluster c = if c = C then f (b.cluster C) else b.cluster c := SMap.get_mod _ _ _ _ _
theorem Block.region_modRegion (G : Nat) (f : Region → Region) (c : Nat) :
    (b.modRegion G f).region c = if c = G then f (b.region G) else b.region c := SMap.get_mod _ _ _ _ _
theorem Block.engine_modEngine (d : Nat) (f : Engine → Engine) (c : Nat) :
    (b.modEngine d f).engine c = if c = d then f (b.engine d) else b.engine c := SMap.get_mod _ _ _ _ _
theorem Block.frame_modFrame (i : Nat) (f : Frame → Frame) (c : Nat) :
    (b.modFrame i f).frame c = if c = i then f (b.frame i) else b.frame c := SMap.get_mod _ _ _ _ _
theorem Block.inst_modInst (i : Nat) (f : Inst → Inst) (c : Nat) :
    (b.modInst i f).inst c = if c = i then f (b.inst i) else b.inst c := SMap.get_mod _ _ _ _ _
theorem Block.latched_setLatch (r a v : Nat) : (b.setLatch r a v).latched r a = v := SMap.get_set_same _ _ _ _

@[simp] theorem Block.emit_out (o : Output) : (b.emit o).out = b.out ++ [o] := rfl
@[simp] theorem Block.answer_out (r : Nat) (l : List Nat) : (b.answer r l).out = b.out ++ [.readData r l] := rfl
@[simp] theorem Block.send_inflight (t i k x : Nat) :
    (b.send t i k x).inflight = b.inflight ++ [{ typ := t, idx := i, kind := k, addr := x % 2 ^ 36, ref := b.ticks }] := rfl

/-! ## What the deciding operations may change -/

/-- A fold whose every step changes only counters changes only counters. -/
theorem Block.foldl_ctrs_only {α : Type} (f : Block → α → Block) (hf : ∀ b x, f b x = { b with ctrs := (f b x).ctrs })
    (l : List α) : ∀ b : Block, l.foldl f b = { b with ctrs := (l.foldl f b).ctrs } := by
  induction l with
  | nil => intro b; rfl
  | cons x l ih =>
    intro b
    simp only [List.foldl_cons]
    have h := ih (f b x)
    rw [hf b x] at h ⊢
    exact h

theorem Block.count_only (a n : Nat) : b.count a n = { b with ctrs := (b.count a n).ctrs } := by
  unfold Block.count
  split <;> rfl

theorem Block.pmc_only (u : PUnit) (e q n : Nat) : b.pmc u e q n = { b with ctrs := (b.pmc u e q n).ctrs } := by
  unfold Block.pmc
  extract_lets stop
  by_cases h : (stop || bitOf (b.word u.base) 1) = true
  · rw [if_pos h]
  · rw [if_neg h]
    refine Block.foldl_ctrs_only _ (fun b x => ?_) _ b
    extract_lets sel
    split <;> rfl

theorem Block.sendLimited_only (x t i k y r z : Nat) :
    b.sendLimited x t i k y r z =
      { b with inflight := (b.sendLimited x t i k y r z).inflight, lastMsg := (b.sendLimited x t i k y r z).lastMsg } := by
  unfold Block.sendLimited
  simp only []
  split <;> rfl

theorem Block.sendOncePerMs_only (t i k x : Nat) :
    b.sendOncePerMs t i k x =
      { b with inflight := (b.sendOncePerMs t i k x).inflight, lastMsg := (b.sendOncePerMs t i k x).lastMsg } :=
  b.sendLimited_only _ _ _ _ _ _ _

theorem Block.accessFault_only (r x : Nat) (w : Bool) (y : Nat) :
    b.accessFault r x w y =
      { b with inflight := (b.accessFault r x w y).inflight, lastMsg := (b.accessFault r x w y).lastMsg,
               refusals := (b.accessFault r x w y).refusals } := by
  unfold Block.accessFault
  simp only []
  rw [Block.sendLimited_only]

theorem Block.refuse_only (w : Writer) (a : Nat) :
    b.refuse w a =
      { b with inflight := (b.refuse w a).inflight, lastMsg := (b.refuse w a).lastMsg, refusals := (b.refuse w a).refusals } :=
  b.accessFault_only _ _ _ _

/-- A refused write counts as one refusal. -/
@[simp] theorem Block.refuse_refusals (w : Writer) (a : Nat) : (b.refuse w a).refusals = b.refusals + 1 := by
  unfold Block.refuse Block.accessFault
  simp only []
  rw [Block.sendLimited_only]

theorem Block.storeReg_only (w : Writer) (a v : Nat) :
    b.storeReg w a v =
      { b with regs := (b.storeReg w a v).regs, inflight := (b.storeReg w a v).inflight, lastMsg := (b.storeReg w a v).lastMsg,
               refusals := (b.storeReg w a v).refusals } := by
  unfold Block.storeReg
  split
  · split
    · rfl
    · simp only []
      split
      · rw [Block.refuse_only]; rfl
      · rfl
  · rw [Block.refuse_only]

/-- A write changes no register but the one at its address. -/
theorem Block.word_storeReg_other (w : Writer) {a c : Nat} (v : Nat) (h : c ≠ a) : (b.storeReg w a v).word c = b.word c := by
  unfold Block.storeReg
  split
  · split
    · rfl
    · simp only []
      split
      · rw [Block.refuse_only]; exact Block.word_setWord_other _ _ h
      · exact Block.word_setWord_other _ _ h
  · rw [Block.refuse_only]; rfl

theorem Block.msix_only (i v : Nat) :
    b.msix i v = { b with out := (b.msix i v).out, ctrs := (b.msix i v).ctrs, insts := (b.msix i v).insts } := by
  unfold Block.msix
  split
  · rw [Block.pmc_only]; rfl
  · split <;> rfl

/-- An MSI-X message leaves the block where nothing masks it; one that is masked stays pending, and without MSI-X there is none. -/
theorem Block.msix_out (i v : Nat) : (b.msix i v).out = b.out ++ if b.msixOpen i v then [.msix i v] else [] := by
  unfold Block.msix
  split
  · rw [Block.pmc_only]; rfl
  · split <;> simp

theorem Block.sendCause_only (n : Nat) :
    b.sendCause n = { b with out := (b.sendCause n).out, ctrs := (b.sendCause n).ctrs, insts := (b.sendCause n).insts } :=
  b.msix_only _ _

theorem Block.shaix_only (t : Nat) (l : List Byte) : b.shaix t l = { b with out := (b.shaix t l).out, ctrs := (b.shaix t l).ctrs } := by
  unfold Block.shaix
  split
  · rfl
  · rw [Block.pmc_only]; rfl

/-- A change that can set a source of a cause is carried out, and nothing beside it but the cause's message. -/
theorem Block.raising_only (n : Nat) (f : Block → Block) :
    b.raising n f =
      { f b with out := (b.raising n f).out, ctrs := (b.raising n f).ctrs, insts := (b.raising n f).insts } := by
  unfold Block.raising
  simp only []
  split
  · rw [Block.sendCause_only]
  · rfl

/-- Driving the xSPI bus changes only that, and shows it. -/
theorem Block.nvmDrive_only (o : Bool) : b.nvmDrive o = { b with out := (b.nvmDrive o).out, boot := (b.nvmDrive o).boot } := by
  unfold Block.nvmDrive
  split <;> rfl

/-- A fold whose every step changes only registers changes only registers. -/
theorem Block.foldl_regs_only {α : Type} (f : Block → α → Block) (hf : ∀ b x, f b x = { b with regs := (f b x).regs })
    (l : List α) : ∀ b : Block, l.foldl f b = { b with regs := (l.foldl f b).regs } := by
  induction l with
  | nil => intro b; rfl
  | cons x l ih =>
    intro b
    simp only [List.foldl_cons]
    have h := ih (f b x)
    rw [hf b x] at h ⊢
    exact h

theorem Block.setWord_only (a v : Nat) : b.setWord a v = { b with regs := (b.setWord a v).regs } := rfl

theorem Block.trainStart_only (p : BootPhase) :
    b.trainStart p = { b with boot := (b.trainStart p).boot, regs := (b.trainStart p).regs } := by
  have h (c : Block) (d v : Nat) :
      c.setWord (R.HBM_TRAIN_STATUS d) v = { c with regs := (c.setWord (R.HBM_TRAIN_STATUS d) v).regs } := Block.setWord_only _ _ _
  unfold Block.trainStart Block.each Block.bootStep Block.setFld
  rw [Block.setWord_only, Block.foldl_regs_only _ (fun c d => h c d 0)]

theorem Block.flashOpen_only :
    b.flashOpen = { b with out := b.flashOpen.out, boot := b.flashOpen.boot, regs := b.flashOpen.regs } := by
  unfold Block.flashOpen Block.bootStep Block.setFld Block.emit
  rw [Block.nvmDrive_only, Block.setWord_only]

/-- The sequencer's own moves change its registers, its state and the flash's pins. -/
theorem Block.bootMove_only :
    b.bootMove = { b with out := b.bootMove.out, boot := b.bootMove.boot, regs := b.bootMove.regs } := by
  unfold Block.bootMove
  split
  · split
    · rw [Block.trainStart_only]
    · rw [Block.flashOpen_only]
  · unfold Block.bootStep Block.setFld
    rw [Block.setWord_only]
  · rfl

/-! ## The DMA engines (R401, R406) -/

/-- What the engines and the dirty bitmaps may change. -/
theorem Block.mark_only (i addr len : Nat) :
    b.mark i addr len =
      { b with regs := (b.mark i addr len).regs, ctrs := (b.mark i addr len).ctrs, jobs := (b.mark i addr len).jobs,
               jobCount := (b.mark i addr len).jobCount } := by
  have fold : ∀ (g : Block → Nat → Block) (_ : ∀ c p, g c p = { c with jobs := (g c p).jobs, jobCount := (g c p).jobCount })
      (l : List Nat) (c : Block), l.foldl g c = { c with jobs := (l.foldl g c).jobs, jobCount := (l.foldl g c).jobCount } := by
    intro g hg l
    induction l with
    | nil => intro c; rfl
    | cons x l ih =>
      intro c
      simp only [List.foldl_cons]
      have h := ih (g c x)
      rw [hg c x] at h ⊢
      exact h
  unfold Block.mark
  split
  · rfl
  · extract_lets start n p0 pages inside b1
    have h1 : b1 = { b with jobs := b1.jobs, jobCount := b1.jobCount } := fold _ (fun _ _ => rfl) _ _
    rw [h1]
    split
    · rfl
    · unfold Block.raise Block.setFld
      rw [Block.count_only, Block.setWord_only]

theorem Block.dispatchDma_only (n : Nat) :
    b.dispatchDma n =
      { b with regs := (b.dispatchDma n).regs, ctrs := (b.dispatchDma n).ctrs, jobs := (b.dispatchDma n).jobs,
               jobCount := (b.dispatchDma n).jobCount, dmaEng := (b.dispatchDma n).dmaEng, dmaLast := (b.dispatchDma n).dmaLast } := by
  have marks : ∀ (i : Nat) (l : List (Nat × List Byte)) (c : Block),
      l.foldl (fun b w => b.mark i w.1 w.2.length) c =
        { c with regs := (l.foldl (fun b w => b.mark i w.1 w.2.length) c).regs,
                 ctrs := (l.foldl (fun b w => b.mark i w.1 w.2.length) c).ctrs,
                 jobs := (l.foldl (fun b w => b.mark i w.1 w.2.length) c).jobs,
                 jobCount := (l.foldl (fun b w => b.mark i w.1 w.2.length) c).jobCount } := by
    intro i l
    induction l with
    | nil => intro c; rfl
    | cons x l ih =>
      intro c
      simp only [List.foldl_cons]
      have h := ih (c.mark i x.1 x.2.length)
      rw [Block.mark_only] at h ⊢
      exact h
  induction n generalizing b with
  | zero => rfl
  | succ n ih =>
    unfold Block.dispatchDma
    split
    · rfl
    · split
      · rfl
      · rename_i e _ j _
        simp only []
        rw [ih]
        split
        · rw [marks]
        · rfl

/-- Asking for a read of host memory puts a job among the others, and lets the engines that are free take jobs; nothing else changes. -/
theorem Block.askRead_only (i : Nat) (k : JobKind) :
    b.askRead i k =
      { b with regs := (b.askRead i k).regs, ctrs := (b.askRead i k).ctrs, jobs := (b.askRead i k).jobs,
               jobCount := (b.askRead i k).jobCount, dmaEng := (b.askRead i k).dmaEng, dmaLast := (b.askRead i k).dmaLast } := by
  unfold Block.askRead
  split
  · rfl
  · unfold Block.pushJob
    simp only []
    rw [Block.dispatchDma_only]

/-- A read that an engine has made: the block is as after asking for it, with that engine free again. -/
theorem Block.readGot_eq {i : Nat} {k : JobKind} {c : Block} (h : b.readGot i k = some c) :
    ∃ e, c = { b.askRead i k with dmaEng := SMap.del (b.askRead i k).dmaEng e } := by
  unfold Block.readGot at h
  simp only [Option.map_eq_some_iff] at h
  obtain ⟨e, _, rfl⟩ := h
  exact ⟨_, rfl⟩

/-! ## count -/

@[simp] theorem Block.count_regs (a n : Nat) : (b.count a n).regs = b.regs := by rw [Block.count_only]
@[simp] theorem Block.count_latch (a n : Nat) : (b.count a n).latch = b.latch := by rw [Block.count_only]
@[simp] theorem Block.count_ticks (a n : Nat) : (b.count a n).ticks = b.ticks := by rw [Block.count_only]
@[simp] theorem Block.count_refLost (a n : Nat) : (b.count a n).refLost = b.refLost := by rw [Block.count_only]
@[simp] theorem Block.count_baseA (a n : Nat) : (b.count a n).baseA = b.baseA := by rw [Block.count_only]
@[simp] theorem Block.count_baseB (a n : Nat) : (b.count a n).baseB = b.baseB := by rw [Block.count_only]
@[simp] theorem Block.count_switchTick (a n : Nat) : (b.count a n).switchTick = b.switchTick := by rw [Block.count_only]
@[simp] theorem Block.count_dies (a n : Nat) : (b.count a n).dies = b.dies := by rw [Block.count_only]
@[simp] theorem Block.count_ports (a n : Nat) : (b.count a n).ports = b.ports := by rw [Block.count_only]
@[simp] theorem Block.count_clusters (a n : Nat) : (b.count a n).clusters = b.clusters := by rw [Block.count_only]
@[simp] theorem Block.count_regions (a n : Nat) : (b.count a n).regions = b.regions := by rw [Block.count_only]
@[simp] theorem Block.count_engines (a n : Nat) : (b.count a n).engines = b.engines := by rw [Block.count_only]
@[simp] theorem Block.count_rings (a n : Nat) : (b.count a n).rings = b.rings := by rw [Block.count_only]
@[simp] theorem Block.count_fifos (a n : Nat) : (b.count a n).fifos = b.fifos := by rw [Block.count_only]
@[simp] theorem Block.count_hostLinks (a n : Nat) : (b.count a n).hostLinks = b.hostLinks := by rw [Block.count_only]
@[simp] theorem Block.count_links (a n : Nat) : (b.count a n).links = b.links := by rw [Block.count_only]
@[simp] theorem Block.count_hbms (a n : Nat) : (b.count a n).hbms = b.hbms := by rw [Block.count_only]
@[simp] theorem Block.count_slow (a n : Nat) : (b.count a n).slow = b.slow := by rw [Block.count_only]
@[simp] theorem Block.count_txRings (a n : Nat) : (b.count a n).txRings = b.txRings := by rw [Block.count_only]
@[simp] theorem Block.count_rxRings (a n : Nat) : (b.count a n).rxRings = b.rxRings := by rw [Block.count_only]
@[simp] theorem Block.count_pools (a n : Nat) : (b.count a n).pools = b.pools := by rw [Block.count_only]
@[simp] theorem Block.count_ringInts (a n : Nat) : (b.count a n).ringInts = b.ringInts := by rw [Block.count_only]
@[simp] theorem Block.count_insts (a n : Nat) : (b.count a n).insts = b.insts := by rw [Block.count_only]
@[simp] theorem Block.count_vfEnable (a n : Nat) : (b.count a n).vfEnable = b.vfEnable := by rw [Block.count_only]
@[simp] theorem Block.count_numVfs (a n : Nat) : (b.count a n).numVfs = b.numVfs := by rw [Block.count_only]
@[simp] theorem Block.count_txLast (a n : Nat) : (b.count a n).txLast = b.txLast := by rw [Block.count_only]
@[simp] theorem Block.count_jobs (a n : Nat) : (b.count a n).jobs = b.jobs := by rw [Block.count_only]
@[simp] theorem Block.count_dmaEng (a n : Nat) : (b.count a n).dmaEng = b.dmaEng := by rw [Block.count_only]
@[simp] theorem Block.count_jobCount (a n : Nat) : (b.count a n).jobCount = b.jobCount := by rw [Block.count_only]
@[simp] theorem Block.count_dmaLast (a n : Nat) : (b.count a n).dmaLast = b.dmaLast := by rw [Block.count_only]
@[simp] theorem Block.count_frames (a n : Nat) : (b.count a n).frames = b.frames := by rw [Block.count_only]
@[simp] theorem Block.count_nextFrame (a n : Nat) : (b.count a n).nextFrame = b.nextFrame := by rw [Block.count_only]
@[simp] theorem Block.count_flt (a n : Nat) : (b.count a n).flt = b.flt := by rw [Block.count_only]
@[simp] theorem Block.count_inflight (a n : Nat) : (b.count a n).inflight = b.inflight := by rw [Block.count_only]
@[simp] theorem Block.count_lastMsg (a n : Nat) : (b.count a n).lastMsg = b.lastMsg := by rw [Block.count_only]
@[simp] theorem Block.count_records (a n : Nat) : (b.count a n).records = b.records := by rw [Block.count_only]
@[simp] theorem Block.count_locked (a n : Nat) : (b.count a n).locked = b.locked := by rw [Block.count_only]
@[simp] theorem Block.count_pair (a n : Nat) : (b.count a n).pair = b.pair := by rw [Block.count_only]
@[simp] theorem Block.count_chain (a n : Nat) : (b.count a n).chain = b.chain := by rw [Block.count_only]
@[simp] theorem Block.count_boot (a n : Nat) : (b.count a n).boot = b.boot := by rw [Block.count_only]
@[simp] theorem Block.count_pkgHold (a n : Nat) : (b.count a n).pkgHold = b.pkgHold := by rw [Block.count_only]
@[simp] theorem Block.count_pinLow (a n : Nat) : (b.count a n).pinLow = b.pinLow := by rw [Block.count_only]
@[simp] theorem Block.count_relPin (a n : Nat) : (b.count a n).relPin = b.relPin := by rw [Block.count_only]
@[simp] theorem Block.count_strapPins (a n : Nat) : (b.count a n).strapPins = b.strapPins := by rw [Block.count_only]
@[simp] theorem Block.count_fuses (a n : Nat) : (b.count a n).fuses = b.fuses := by rw [Block.count_only]
@[simp] theorem Block.count_faultN (a n : Nat) : (b.count a n).faultN = b.faultN := by rw [Block.count_only]
@[simp] theorem Block.count_snap (a n : Nat) : (b.count a n).snap = b.snap := by rw [Block.count_only]
@[simp] theorem Block.count_pendSnap (a n : Nat) : (b.count a n).pendSnap = b.pendSnap := by rw [Block.count_only]
@[simp] theorem Block.count_refusals (a n : Nat) : (b.count a n).refusals = b.refusals := by rw [Block.count_only]
@[simp] theorem Block.count_out (a n : Nat) : (b.count a n).out = b.out := by rw [Block.count_only]
@[simp] theorem Block.count_fresh (a n : Nat) : (b.count a n).fresh = b.fresh := by rw [Block.count_only]
@[simp] theorem Block.count_word (a n : Nat) (y0 : Nat) : (b.count a n).word y0 = b.word y0 := by rw [Block.count_only]; rfl
@[simp] theorem Block.count_fld (a n : Nat) (y0 : Nat) (z0 : Bf) : (b.count a n).fld y0 z0 = b.fld y0 z0 := by rw [Block.count_only]; rfl
@[simp] theorem Block.count_flag (a n : Nat) (y0 : Nat) (z0 : Bf) : (b.count a n).flag y0 z0 = b.flag y0 z0 := by rw [Block.count_only]; rfl
@[simp] theorem Block.count_die (a n : Nat) (y0 : Nat) : (b.count a n).die y0 = b.die y0 := by rw [Block.count_only]; rfl
@[simp] theorem Block.count_port (a n : Nat) (y0 : Nat) : (b.count a n).port y0 = b.port y0 := by rw [Block.count_only]; rfl
@[simp] theorem Block.count_cluster (a n : Nat) (y0 : Nat) : (b.count a n).cluster y0 = b.cluster y0 := by rw [Block.count_only]; rfl
@[simp] theorem Block.count_region (a n : Nat) (y0 : Nat) : (b.count a n).region y0 = b.region y0 := by rw [Block.count_only]; rfl
@[simp] theorem Block.count_engine (a n : Nat) (y0 : Nat) : (b.count a n).engine y0 = b.engine y0 := by rw [Block.count_only]; rfl
@[simp] theorem Block.count_frame (a n : Nat) (y0 : Nat) : (b.count a n).frame y0 = b.frame y0 := by rw [Block.count_only]; rfl
@[simp] theorem Block.count_latched (a n : Nat) (y0 z0 : Nat) : (b.count a n).latched y0 z0 = b.latched y0 z0 := by rw [Block.count_only]; rfl
@[simp] theorem Block.count_inst (a n : Nat) (y0 : Nat) : (b.count a n).inst y0 = b.inst y0 := by rw [Block.count_only]; rfl
@[simp] theorem Block.count_txRing (a n : Nat) (y0 : Nat) : (b.count a n).txRing y0 = b.txRing y0 := by rw [Block.count_only]; rfl
@[simp] theorem Block.count_rxRing (a n : Nat) (y0 : Nat) : (b.count a n).rxRing y0 = b.rxRing y0 := by rw [Block.count_only]; rfl
@[simp] theorem Block.count_pool (a n : Nat) (y0 z0 : Nat) : (b.count a n).pool y0 z0 = b.pool y0 z0 := by rw [Block.count_only]; rfl
@[simp] theorem Block.count_ring (a n : Nat) (y0 : Nat) : (b.count a n).ring y0 = b.ring y0 := by rw [Block.count_only]; rfl
@[simp] theorem Block.count_link (a n : Nat) (y0 z0 : Nat) : (b.count a n).link y0 z0 = b.link y0 z0 := by rw [Block.count_only]; rfl
@[simp] theorem Block.count_fifo (a n : Nat) (y0 z0 : Nat) : (b.count a n).fifo y0 z0 = b.fifo y0 z0 := by rw [Block.count_only]; rfl
@[simp] theorem Block.count_frozen (a n : Nat) (y0 : Nat) : (b.count a n).frozen y0 = b.frozen y0 := by rw [Block.count_only]; rfl
@[simp] theorem Block.count_stopped (a n : Nat) (y0 : Nat) : (b.count a n).stopped y0 = b.stopped y0 := by rw [Block.count_only]; rfl
@[simp] theorem Block.count_ctx (a n : Nat) (y0 z0 : Nat) : (b.count a n).ctx y0 z0 = b.ctx y0 z0 := by rw [Block.count_only]; rfl
@[simp] theorem Block.count_at_ (a n : Nat) (y0 : Nat) (z0 : Loc) : (b.count a n).at_ y0 z0 = b.at_ y0 z0 := by rw [Block.count_only]; rfl
@[simp] theorem Block.count_stgFill (a n : Nat) (y0 : Nat) : (b.count a n).stgFill y0 = b.stgFill y0 := by rw [Block.count_only]; rfl
@[simp] theorem Block.count_txAt (a n : Nat) (y0 : Nat) (z0 : TxStage) : (b.count a n).txAt y0 z0 = b.txAt y0 z0 := by rw [Block.count_only]; rfl

/-! ## pmc -/

@[simp] theorem Block.pmc_regs (u : PUnit) (e q n : Nat) : (b.pmc u e q n).regs = b.regs := by rw [Block.pmc_only]
@[simp] theorem Block.pmc_latch (u : PUnit) (e q n : Nat) : (b.pmc u e q n).latch = b.latch := by rw [Block.pmc_only]
@[simp] theorem Block.pmc_ticks (u : PUnit) (e q n : Nat) : (b.pmc u e q n).ticks = b.ticks := by rw [Block.pmc_only]
@[simp] theorem Block.pmc_refLost (u : PUnit) (e q n : Nat) : (b.pmc u e q n).refLost = b.refLost := by rw [Block.pmc_only]
@[simp] theorem Block.pmc_baseA (u : PUnit) (e q n : Nat) : (b.pmc u e q n).baseA = b.baseA := by rw [Block.pmc_only]
@[simp] theorem Block.pmc_baseB (u : PUnit) (e q n : Nat) : (b.pmc u e q n).baseB = b.baseB := by rw [Block.pmc_only]
@[simp] theorem Block.pmc_switchTick (u : PUnit) (e q n : Nat) : (b.pmc u e q n).switchTick = b.switchTick := by rw [Block.pmc_only]
@[simp] theorem Block.pmc_dies (u : PUnit) (e q n : Nat) : (b.pmc u e q n).dies = b.dies := by rw [Block.pmc_only]
@[simp] theorem Block.pmc_ports (u : PUnit) (e q n : Nat) : (b.pmc u e q n).ports = b.ports := by rw [Block.pmc_only]
@[simp] theorem Block.pmc_clusters (u : PUnit) (e q n : Nat) : (b.pmc u e q n).clusters = b.clusters := by rw [Block.pmc_only]
@[simp] theorem Block.pmc_regions (u : PUnit) (e q n : Nat) : (b.pmc u e q n).regions = b.regions := by rw [Block.pmc_only]
@[simp] theorem Block.pmc_engines (u : PUnit) (e q n : Nat) : (b.pmc u e q n).engines = b.engines := by rw [Block.pmc_only]
@[simp] theorem Block.pmc_rings (u : PUnit) (e q n : Nat) : (b.pmc u e q n).rings = b.rings := by rw [Block.pmc_only]
@[simp] theorem Block.pmc_fifos (u : PUnit) (e q n : Nat) : (b.pmc u e q n).fifos = b.fifos := by rw [Block.pmc_only]
@[simp] theorem Block.pmc_hostLinks (u : PUnit) (e q n : Nat) : (b.pmc u e q n).hostLinks = b.hostLinks := by rw [Block.pmc_only]
@[simp] theorem Block.pmc_links (u : PUnit) (e q n : Nat) : (b.pmc u e q n).links = b.links := by rw [Block.pmc_only]
@[simp] theorem Block.pmc_hbms (u : PUnit) (e q n : Nat) : (b.pmc u e q n).hbms = b.hbms := by rw [Block.pmc_only]
@[simp] theorem Block.pmc_slow (u : PUnit) (e q n : Nat) : (b.pmc u e q n).slow = b.slow := by rw [Block.pmc_only]
@[simp] theorem Block.pmc_txRings (u : PUnit) (e q n : Nat) : (b.pmc u e q n).txRings = b.txRings := by rw [Block.pmc_only]
@[simp] theorem Block.pmc_rxRings (u : PUnit) (e q n : Nat) : (b.pmc u e q n).rxRings = b.rxRings := by rw [Block.pmc_only]
@[simp] theorem Block.pmc_pools (u : PUnit) (e q n : Nat) : (b.pmc u e q n).pools = b.pools := by rw [Block.pmc_only]
@[simp] theorem Block.pmc_ringInts (u : PUnit) (e q n : Nat) : (b.pmc u e q n).ringInts = b.ringInts := by rw [Block.pmc_only]
@[simp] theorem Block.pmc_insts (u : PUnit) (e q n : Nat) : (b.pmc u e q n).insts = b.insts := by rw [Block.pmc_only]
@[simp] theorem Block.pmc_vfEnable (u : PUnit) (e q n : Nat) : (b.pmc u e q n).vfEnable = b.vfEnable := by rw [Block.pmc_only]
@[simp] theorem Block.pmc_numVfs (u : PUnit) (e q n : Nat) : (b.pmc u e q n).numVfs = b.numVfs := by rw [Block.pmc_only]
@[simp] theorem Block.pmc_txLast (u : PUnit) (e q n : Nat) : (b.pmc u e q n).txLast = b.txLast := by rw [Block.pmc_only]
@[simp] theorem Block.pmc_jobs (u : PUnit) (e q n : Nat) : (b.pmc u e q n).jobs = b.jobs := by rw [Block.pmc_only]
@[simp] theorem Block.pmc_dmaEng (u : PUnit) (e q n : Nat) : (b.pmc u e q n).dmaEng = b.dmaEng := by rw [Block.pmc_only]
@[simp] theorem Block.pmc_jobCount (u : PUnit) (e q n : Nat) : (b.pmc u e q n).jobCount = b.jobCount := by rw [Block.pmc_only]
@[simp] theorem Block.pmc_dmaLast (u : PUnit) (e q n : Nat) : (b.pmc u e q n).dmaLast = b.dmaLast := by rw [Block.pmc_only]
@[simp] theorem Block.pmc_frames (u : PUnit) (e q n : Nat) : (b.pmc u e q n).frames = b.frames := by rw [Block.pmc_only]
@[simp] theorem Block.pmc_nextFrame (u : PUnit) (e q n : Nat) : (b.pmc u e q n).nextFrame = b.nextFrame := by rw [Block.pmc_only]
@[simp] theorem Block.pmc_flt (u : PUnit) (e q n : Nat) : (b.pmc u e q n).flt = b.flt := by rw [Block.pmc_only]
@[simp] theorem Block.pmc_inflight (u : PUnit) (e q n : Nat) : (b.pmc u e q n).inflight = b.inflight := by rw [Block.pmc_only]
@[simp] theorem Block.pmc_lastMsg (u : PUnit) (e q n : Nat) : (b.pmc u e q n).lastMsg = b.lastMsg := by rw [Block.pmc_only]
@[simp] theorem Block.pmc_records (u : PUnit) (e q n : Nat) : (b.pmc u e q n).records = b.records := by rw [Block.pmc_only]
@[simp] theorem Block.pmc_locked (u : PUnit) (e q n : Nat) : (b.pmc u e q n).locked = b.locked := by rw [Block.pmc_only]
@[simp] theorem Block.pmc_pair (u : PUnit) (e q n : Nat) : (b.pmc u e q n).pair = b.pair := by rw [Block.pmc_only]
@[simp] theorem Block.pmc_chain (u : PUnit) (e q n : Nat) : (b.pmc u e q n).chain = b.chain := by rw [Block.pmc_only]
@[simp] theorem Block.pmc_boot (u : PUnit) (e q n : Nat) : (b.pmc u e q n).boot = b.boot := by rw [Block.pmc_only]
@[simp] theorem Block.pmc_pkgHold (u : PUnit) (e q n : Nat) : (b.pmc u e q n).pkgHold = b.pkgHold := by rw [Block.pmc_only]
@[simp] theorem Block.pmc_pinLow (u : PUnit) (e q n : Nat) : (b.pmc u e q n).pinLow = b.pinLow := by rw [Block.pmc_only]
@[simp] theorem Block.pmc_relPin (u : PUnit) (e q n : Nat) : (b.pmc u e q n).relPin = b.relPin := by rw [Block.pmc_only]
@[simp] theorem Block.pmc_strapPins (u : PUnit) (e q n : Nat) : (b.pmc u e q n).strapPins = b.strapPins := by rw [Block.pmc_only]
@[simp] theorem Block.pmc_fuses (u : PUnit) (e q n : Nat) : (b.pmc u e q n).fuses = b.fuses := by rw [Block.pmc_only]
@[simp] theorem Block.pmc_faultN (u : PUnit) (e q n : Nat) : (b.pmc u e q n).faultN = b.faultN := by rw [Block.pmc_only]
@[simp] theorem Block.pmc_snap (u : PUnit) (e q n : Nat) : (b.pmc u e q n).snap = b.snap := by rw [Block.pmc_only]
@[simp] theorem Block.pmc_pendSnap (u : PUnit) (e q n : Nat) : (b.pmc u e q n).pendSnap = b.pendSnap := by rw [Block.pmc_only]
@[simp] theorem Block.pmc_refusals (u : PUnit) (e q n : Nat) : (b.pmc u e q n).refusals = b.refusals := by rw [Block.pmc_only]
@[simp] theorem Block.pmc_out (u : PUnit) (e q n : Nat) : (b.pmc u e q n).out = b.out := by rw [Block.pmc_only]
@[simp] theorem Block.pmc_fresh (u : PUnit) (e q n : Nat) : (b.pmc u e q n).fresh = b.fresh := by rw [Block.pmc_only]
@[simp] theorem Block.pmc_word (u : PUnit) (e q n : Nat) (y0 : Nat) : (b.pmc u e q n).word y0 = b.word y0 := by rw [Block.pmc_only]; rfl
@[simp] theorem Block.pmc_fld (u : PUnit) (e q n : Nat) (y0 : Nat) (z0 : Bf) : (b.pmc u e q n).fld y0 z0 = b.fld y0 z0 := by rw [Block.pmc_only]; rfl
@[simp] theorem Block.pmc_flag (u : PUnit) (e q n : Nat) (y0 : Nat) (z0 : Bf) : (b.pmc u e q n).flag y0 z0 = b.flag y0 z0 := by rw [Block.pmc_only]; rfl
@[simp] theorem Block.pmc_die (u : PUnit) (e q n : Nat) (y0 : Nat) : (b.pmc u e q n).die y0 = b.die y0 := by rw [Block.pmc_only]; rfl
@[simp] theorem Block.pmc_port (u : PUnit) (e q n : Nat) (y0 : Nat) : (b.pmc u e q n).port y0 = b.port y0 := by rw [Block.pmc_only]; rfl
@[simp] theorem Block.pmc_cluster (u : PUnit) (e q n : Nat) (y0 : Nat) : (b.pmc u e q n).cluster y0 = b.cluster y0 := by rw [Block.pmc_only]; rfl
@[simp] theorem Block.pmc_region (u : PUnit) (e q n : Nat) (y0 : Nat) : (b.pmc u e q n).region y0 = b.region y0 := by rw [Block.pmc_only]; rfl
@[simp] theorem Block.pmc_engine (u : PUnit) (e q n : Nat) (y0 : Nat) : (b.pmc u e q n).engine y0 = b.engine y0 := by rw [Block.pmc_only]; rfl
@[simp] theorem Block.pmc_frame (u : PUnit) (e q n : Nat) (y0 : Nat) : (b.pmc u e q n).frame y0 = b.frame y0 := by rw [Block.pmc_only]; rfl
@[simp] theorem Block.pmc_latched (u : PUnit) (e q n : Nat) (y0 z0 : Nat) : (b.pmc u e q n).latched y0 z0 = b.latched y0 z0 := by rw [Block.pmc_only]; rfl
@[simp] theorem Block.pmc_inst (u : PUnit) (e q n : Nat) (y0 : Nat) : (b.pmc u e q n).inst y0 = b.inst y0 := by rw [Block.pmc_only]; rfl
@[simp] theorem Block.pmc_txRing (u : PUnit) (e q n : Nat) (y0 : Nat) : (b.pmc u e q n).txRing y0 = b.txRing y0 := by rw [Block.pmc_only]; rfl
@[simp] theorem Block.pmc_rxRing (u : PUnit) (e q n : Nat) (y0 : Nat) : (b.pmc u e q n).rxRing y0 = b.rxRing y0 := by rw [Block.pmc_only]; rfl
@[simp] theorem Block.pmc_pool (u : PUnit) (e q n : Nat) (y0 z0 : Nat) : (b.pmc u e q n).pool y0 z0 = b.pool y0 z0 := by rw [Block.pmc_only]; rfl
@[simp] theorem Block.pmc_ring (u : PUnit) (e q n : Nat) (y0 : Nat) : (b.pmc u e q n).ring y0 = b.ring y0 := by rw [Block.pmc_only]; rfl
@[simp] theorem Block.pmc_link (u : PUnit) (e q n : Nat) (y0 z0 : Nat) : (b.pmc u e q n).link y0 z0 = b.link y0 z0 := by rw [Block.pmc_only]; rfl
@[simp] theorem Block.pmc_fifo (u : PUnit) (e q n : Nat) (y0 z0 : Nat) : (b.pmc u e q n).fifo y0 z0 = b.fifo y0 z0 := by rw [Block.pmc_only]; rfl
@[simp] theorem Block.pmc_frozen (u : PUnit) (e q n : Nat) (y0 : Nat) : (b.pmc u e q n).frozen y0 = b.frozen y0 := by rw [Block.pmc_only]; rfl
@[simp] theorem Block.pmc_stopped (u : PUnit) (e q n : Nat) (y0 : Nat) : (b.pmc u e q n).stopped y0 = b.stopped y0 := by rw [Block.pmc_only]; rfl
@[simp] theorem Block.pmc_ctx (u : PUnit) (e q n : Nat) (y0 z0 : Nat) : (b.pmc u e q n).ctx y0 z0 = b.ctx y0 z0 := by rw [Block.pmc_only]; rfl
@[simp] theorem Block.pmc_at_ (u : PUnit) (e q n : Nat) (y0 : Nat) (z0 : Loc) : (b.pmc u e q n).at_ y0 z0 = b.at_ y0 z0 := by rw [Block.pmc_only]; rfl
@[simp] theorem Block.pmc_stgFill (u : PUnit) (e q n : Nat) (y0 : Nat) : (b.pmc u e q n).stgFill y0 = b.stgFill y0 := by rw [Block.pmc_only]; rfl
@[simp] theorem Block.pmc_txAt (u : PUnit) (e q n : Nat) (y0 : Nat) (z0 : TxStage) : (b.pmc u e q n).txAt y0 z0 = b.txAt y0 z0 := by rw [Block.pmc_only]; rfl

/-! ## sendLimited -/

@[simp] theorem Block.sendLimited_regs (x t i k y r z : Nat) : (b.sendLimited x t i k y r z).regs = b.regs := by rw [Block.sendLimited_only]
@[simp] theorem Block.sendLimited_ctrs (x t i k y r z : Nat) : (b.sendLimited x t i k y r z).ctrs = b.ctrs := by rw [Block.sendLimited_only]
@[simp] theorem Block.sendLimited_latch (x t i k y r z : Nat) : (b.sendLimited x t i k y r z).latch = b.latch := by rw [Block.sendLimited_only]
@[simp] theorem Block.sendLimited_ticks (x t i k y r z : Nat) : (b.sendLimited x t i k y r z).ticks = b.ticks := by rw [Block.sendLimited_only]
@[simp] theorem Block.sendLimited_refLost (x t i k y r z : Nat) : (b.sendLimited x t i k y r z).refLost = b.refLost := by rw [Block.sendLimited_only]
@[simp] theorem Block.sendLimited_baseA (x t i k y r z : Nat) : (b.sendLimited x t i k y r z).baseA = b.baseA := by rw [Block.sendLimited_only]
@[simp] theorem Block.sendLimited_baseB (x t i k y r z : Nat) : (b.sendLimited x t i k y r z).baseB = b.baseB := by rw [Block.sendLimited_only]
@[simp] theorem Block.sendLimited_switchTick (x t i k y r z : Nat) : (b.sendLimited x t i k y r z).switchTick = b.switchTick := by rw [Block.sendLimited_only]
@[simp] theorem Block.sendLimited_dies (x t i k y r z : Nat) : (b.sendLimited x t i k y r z).dies = b.dies := by rw [Block.sendLimited_only]
@[simp] theorem Block.sendLimited_ports (x t i k y r z : Nat) : (b.sendLimited x t i k y r z).ports = b.ports := by rw [Block.sendLimited_only]
@[simp] theorem Block.sendLimited_clusters (x t i k y r z : Nat) : (b.sendLimited x t i k y r z).clusters = b.clusters := by rw [Block.sendLimited_only]
@[simp] theorem Block.sendLimited_regions (x t i k y r z : Nat) : (b.sendLimited x t i k y r z).regions = b.regions := by rw [Block.sendLimited_only]
@[simp] theorem Block.sendLimited_engines (x t i k y r z : Nat) : (b.sendLimited x t i k y r z).engines = b.engines := by rw [Block.sendLimited_only]
@[simp] theorem Block.sendLimited_rings (x t i k y r z : Nat) : (b.sendLimited x t i k y r z).rings = b.rings := by rw [Block.sendLimited_only]
@[simp] theorem Block.sendLimited_fifos (x t i k y r z : Nat) : (b.sendLimited x t i k y r z).fifos = b.fifos := by rw [Block.sendLimited_only]
@[simp] theorem Block.sendLimited_hostLinks (x t i k y r z : Nat) : (b.sendLimited x t i k y r z).hostLinks = b.hostLinks := by rw [Block.sendLimited_only]
@[simp] theorem Block.sendLimited_links (x t i k y r z : Nat) : (b.sendLimited x t i k y r z).links = b.links := by rw [Block.sendLimited_only]
@[simp] theorem Block.sendLimited_hbms (x t i k y r z : Nat) : (b.sendLimited x t i k y r z).hbms = b.hbms := by rw [Block.sendLimited_only]
@[simp] theorem Block.sendLimited_slow (x t i k y r z : Nat) : (b.sendLimited x t i k y r z).slow = b.slow := by rw [Block.sendLimited_only]
@[simp] theorem Block.sendLimited_txRings (x t i k y r z : Nat) : (b.sendLimited x t i k y r z).txRings = b.txRings := by rw [Block.sendLimited_only]
@[simp] theorem Block.sendLimited_rxRings (x t i k y r z : Nat) : (b.sendLimited x t i k y r z).rxRings = b.rxRings := by rw [Block.sendLimited_only]
@[simp] theorem Block.sendLimited_pools (x t i k y r z : Nat) : (b.sendLimited x t i k y r z).pools = b.pools := by rw [Block.sendLimited_only]
@[simp] theorem Block.sendLimited_ringInts (x t i k y r z : Nat) : (b.sendLimited x t i k y r z).ringInts = b.ringInts := by rw [Block.sendLimited_only]
@[simp] theorem Block.sendLimited_insts (x t i k y r z : Nat) : (b.sendLimited x t i k y r z).insts = b.insts := by rw [Block.sendLimited_only]
@[simp] theorem Block.sendLimited_vfEnable (x t i k y r z : Nat) : (b.sendLimited x t i k y r z).vfEnable = b.vfEnable := by rw [Block.sendLimited_only]
@[simp] theorem Block.sendLimited_numVfs (x t i k y r z : Nat) : (b.sendLimited x t i k y r z).numVfs = b.numVfs := by rw [Block.sendLimited_only]
@[simp] theorem Block.sendLimited_txLast (x t i k y r z : Nat) : (b.sendLimited x t i k y r z).txLast = b.txLast := by rw [Block.sendLimited_only]
@[simp] theorem Block.sendLimited_jobs (x t i k y r z : Nat) : (b.sendLimited x t i k y r z).jobs = b.jobs := by rw [Block.sendLimited_only]
@[simp] theorem Block.sendLimited_dmaEng (x t i k y r z : Nat) : (b.sendLimited x t i k y r z).dmaEng = b.dmaEng := by rw [Block.sendLimited_only]
@[simp] theorem Block.sendLimited_jobCount (x t i k y r z : Nat) : (b.sendLimited x t i k y r z).jobCount = b.jobCount := by rw [Block.sendLimited_only]
@[simp] theorem Block.sendLimited_dmaLast (x t i k y r z : Nat) : (b.sendLimited x t i k y r z).dmaLast = b.dmaLast := by rw [Block.sendLimited_only]
@[simp] theorem Block.sendLimited_frames (x t i k y r z : Nat) : (b.sendLimited x t i k y r z).frames = b.frames := by rw [Block.sendLimited_only]
@[simp] theorem Block.sendLimited_nextFrame (x t i k y r z : Nat) : (b.sendLimited x t i k y r z).nextFrame = b.nextFrame := by rw [Block.sendLimited_only]
@[simp] theorem Block.sendLimited_flt (x t i k y r z : Nat) : (b.sendLimited x t i k y r z).flt = b.flt := by rw [Block.sendLimited_only]
@[simp] theorem Block.sendLimited_records (x t i k y r z : Nat) : (b.sendLimited x t i k y r z).records = b.records := by rw [Block.sendLimited_only]
@[simp] theorem Block.sendLimited_locked (x t i k y r z : Nat) : (b.sendLimited x t i k y r z).locked = b.locked := by rw [Block.sendLimited_only]
@[simp] theorem Block.sendLimited_pair (x t i k y r z : Nat) : (b.sendLimited x t i k y r z).pair = b.pair := by rw [Block.sendLimited_only]
@[simp] theorem Block.sendLimited_chain (x t i k y r z : Nat) : (b.sendLimited x t i k y r z).chain = b.chain := by rw [Block.sendLimited_only]
@[simp] theorem Block.sendLimited_boot (x t i k y r z : Nat) : (b.sendLimited x t i k y r z).boot = b.boot := by rw [Block.sendLimited_only]
@[simp] theorem Block.sendLimited_pkgHold (x t i k y r z : Nat) : (b.sendLimited x t i k y r z).pkgHold = b.pkgHold := by rw [Block.sendLimited_only]
@[simp] theorem Block.sendLimited_pinLow (x t i k y r z : Nat) : (b.sendLimited x t i k y r z).pinLow = b.pinLow := by rw [Block.sendLimited_only]
@[simp] theorem Block.sendLimited_relPin (x t i k y r z : Nat) : (b.sendLimited x t i k y r z).relPin = b.relPin := by rw [Block.sendLimited_only]
@[simp] theorem Block.sendLimited_strapPins (x t i k y r z : Nat) : (b.sendLimited x t i k y r z).strapPins = b.strapPins := by rw [Block.sendLimited_only]
@[simp] theorem Block.sendLimited_fuses (x t i k y r z : Nat) : (b.sendLimited x t i k y r z).fuses = b.fuses := by rw [Block.sendLimited_only]
@[simp] theorem Block.sendLimited_faultN (x t i k y r z : Nat) : (b.sendLimited x t i k y r z).faultN = b.faultN := by rw [Block.sendLimited_only]
@[simp] theorem Block.sendLimited_snap (x t i k y r z : Nat) : (b.sendLimited x t i k y r z).snap = b.snap := by rw [Block.sendLimited_only]
@[simp] theorem Block.sendLimited_pendSnap (x t i k y r z : Nat) : (b.sendLimited x t i k y r z).pendSnap = b.pendSnap := by rw [Block.sendLimited_only]
@[simp] theorem Block.sendLimited_refusals (x t i k y r z : Nat) : (b.sendLimited x t i k y r z).refusals = b.refusals := by rw [Block.sendLimited_only]
@[simp] theorem Block.sendLimited_out (x t i k y r z : Nat) : (b.sendLimited x t i k y r z).out = b.out := by rw [Block.sendLimited_only]
@[simp] theorem Block.sendLimited_fresh (x t i k y r z : Nat) : (b.sendLimited x t i k y r z).fresh = b.fresh := by rw [Block.sendLimited_only]
@[simp] theorem Block.sendLimited_word (x t i k y r z : Nat) (y0 : Nat) : (b.sendLimited x t i k y r z).word y0 = b.word y0 := by rw [Block.sendLimited_only]; rfl
@[simp] theorem Block.sendLimited_fld (x t i k y r z : Nat) (y0 : Nat) (z0 : Bf) : (b.sendLimited x t i k y r z).fld y0 z0 = b.fld y0 z0 := by rw [Block.sendLimited_only]; rfl
@[simp] theorem Block.sendLimited_flag (x t i k y r z : Nat) (y0 : Nat) (z0 : Bf) : (b.sendLimited x t i k y r z).flag y0 z0 = b.flag y0 z0 := by rw [Block.sendLimited_only]; rfl
@[simp] theorem Block.sendLimited_ctr (x t i k y r z : Nat) (y0 : Nat) : (b.sendLimited x t i k y r z).ctr y0 = b.ctr y0 := by rw [Block.sendLimited_only]; rfl
@[simp] theorem Block.sendLimited_die (x t i k y r z : Nat) (y0 : Nat) : (b.sendLimited x t i k y r z).die y0 = b.die y0 := by rw [Block.sendLimited_only]; rfl
@[simp] theorem Block.sendLimited_port (x t i k y r z : Nat) (y0 : Nat) : (b.sendLimited x t i k y r z).port y0 = b.port y0 := by rw [Block.sendLimited_only]; rfl
@[simp] theorem Block.sendLimited_cluster (x t i k y r z : Nat) (y0 : Nat) : (b.sendLimited x t i k y r z).cluster y0 = b.cluster y0 := by rw [Block.sendLimited_only]; rfl
@[simp] theorem Block.sendLimited_region (x t i k y r z : Nat) (y0 : Nat) : (b.sendLimited x t i k y r z).region y0 = b.region y0 := by rw [Block.sendLimited_only]; rfl
@[simp] theorem Block.sendLimited_engine (x t i k y r z : Nat) (y0 : Nat) : (b.sendLimited x t i k y r z).engine y0 = b.engine y0 := by rw [Block.sendLimited_only]; rfl
@[simp] theorem Block.sendLimited_frame (x t i k y r z : Nat) (y0 : Nat) : (b.sendLimited x t i k y r z).frame y0 = b.frame y0 := by rw [Block.sendLimited_only]; rfl
@[simp] theorem Block.sendLimited_latched (x t i k y r z : Nat) (y0 z0 : Nat) : (b.sendLimited x t i k y r z).latched y0 z0 = b.latched y0 z0 := by rw [Block.sendLimited_only]; rfl
@[simp] theorem Block.sendLimited_inst (x t i k y r z : Nat) (y0 : Nat) : (b.sendLimited x t i k y r z).inst y0 = b.inst y0 := by rw [Block.sendLimited_only]; rfl
@[simp] theorem Block.sendLimited_txRing (x t i k y r z : Nat) (y0 : Nat) : (b.sendLimited x t i k y r z).txRing y0 = b.txRing y0 := by rw [Block.sendLimited_only]; rfl
@[simp] theorem Block.sendLimited_rxRing (x t i k y r z : Nat) (y0 : Nat) : (b.sendLimited x t i k y r z).rxRing y0 = b.rxRing y0 := by rw [Block.sendLimited_only]; rfl
@[simp] theorem Block.sendLimited_pool (x t i k y r z : Nat) (y0 z0 : Nat) : (b.sendLimited x t i k y r z).pool y0 z0 = b.pool y0 z0 := by rw [Block.sendLimited_only]; rfl
@[simp] theorem Block.sendLimited_ring (x t i k y r z : Nat) (y0 : Nat) : (b.sendLimited x t i k y r z).ring y0 = b.ring y0 := by rw [Block.sendLimited_only]; rfl
@[simp] theorem Block.sendLimited_link (x t i k y r z : Nat) (y0 z0 : Nat) : (b.sendLimited x t i k y r z).link y0 z0 = b.link y0 z0 := by rw [Block.sendLimited_only]; rfl
@[simp] theorem Block.sendLimited_fifo (x t i k y r z : Nat) (y0 z0 : Nat) : (b.sendLimited x t i k y r z).fifo y0 z0 = b.fifo y0 z0 := by rw [Block.sendLimited_only]; rfl
@[simp] theorem Block.sendLimited_frozen (x t i k y r z : Nat) (y0 : Nat) : (b.sendLimited x t i k y r z).frozen y0 = b.frozen y0 := by rw [Block.sendLimited_only]; rfl
@[simp] theorem Block.sendLimited_stopped (x t i k y r z : Nat) (y0 : Nat) : (b.sendLimited x t i k y r z).stopped y0 = b.stopped y0 := by rw [Block.sendLimited_only]; rfl
@[simp] theorem Block.sendLimited_ctx (x t i k y r z : Nat) (y0 z0 : Nat) : (b.sendLimited x t i k y r z).ctx y0 z0 = b.ctx y0 z0 := by rw [Block.sendLimited_only]; rfl
@[simp] theorem Block.sendLimited_at_ (x t i k y r z : Nat) (y0 : Nat) (z0 : Loc) : (b.sendLimited x t i k y r z).at_ y0 z0 = b.at_ y0 z0 := by rw [Block.sendLimited_only]; rfl
@[simp] theorem Block.sendLimited_stgFill (x t i k y r z : Nat) (y0 : Nat) : (b.sendLimited x t i k y r z).stgFill y0 = b.stgFill y0 := by rw [Block.sendLimited_only]; rfl
@[simp] theorem Block.sendLimited_txAt (x t i k y r z : Nat) (y0 : Nat) (z0 : TxStage) : (b.sendLimited x t i k y r z).txAt y0 z0 = b.txAt y0 z0 := by rw [Block.sendLimited_only]; rfl

/-! ## sendOncePerMs -/

@[simp] theorem Block.sendOncePerMs_regs (t i k x : Nat) : (b.sendOncePerMs t i k x).regs = b.regs := by rw [Block.sendOncePerMs_only]
@[simp] theorem Block.sendOncePerMs_ctrs (t i k x : Nat) : (b.sendOncePerMs t i k x).ctrs = b.ctrs := by rw [Block.sendOncePerMs_only]
@[simp] theorem Block.sendOncePerMs_latch (t i k x : Nat) : (b.sendOncePerMs t i k x).latch = b.latch := by rw [Block.sendOncePerMs_only]
@[simp] theorem Block.sendOncePerMs_ticks (t i k x : Nat) : (b.sendOncePerMs t i k x).ticks = b.ticks := by rw [Block.sendOncePerMs_only]
@[simp] theorem Block.sendOncePerMs_refLost (t i k x : Nat) : (b.sendOncePerMs t i k x).refLost = b.refLost := by rw [Block.sendOncePerMs_only]
@[simp] theorem Block.sendOncePerMs_baseA (t i k x : Nat) : (b.sendOncePerMs t i k x).baseA = b.baseA := by rw [Block.sendOncePerMs_only]
@[simp] theorem Block.sendOncePerMs_baseB (t i k x : Nat) : (b.sendOncePerMs t i k x).baseB = b.baseB := by rw [Block.sendOncePerMs_only]
@[simp] theorem Block.sendOncePerMs_switchTick (t i k x : Nat) : (b.sendOncePerMs t i k x).switchTick = b.switchTick := by rw [Block.sendOncePerMs_only]
@[simp] theorem Block.sendOncePerMs_dies (t i k x : Nat) : (b.sendOncePerMs t i k x).dies = b.dies := by rw [Block.sendOncePerMs_only]
@[simp] theorem Block.sendOncePerMs_ports (t i k x : Nat) : (b.sendOncePerMs t i k x).ports = b.ports := by rw [Block.sendOncePerMs_only]
@[simp] theorem Block.sendOncePerMs_clusters (t i k x : Nat) : (b.sendOncePerMs t i k x).clusters = b.clusters := by rw [Block.sendOncePerMs_only]
@[simp] theorem Block.sendOncePerMs_regions (t i k x : Nat) : (b.sendOncePerMs t i k x).regions = b.regions := by rw [Block.sendOncePerMs_only]
@[simp] theorem Block.sendOncePerMs_engines (t i k x : Nat) : (b.sendOncePerMs t i k x).engines = b.engines := by rw [Block.sendOncePerMs_only]
@[simp] theorem Block.sendOncePerMs_rings (t i k x : Nat) : (b.sendOncePerMs t i k x).rings = b.rings := by rw [Block.sendOncePerMs_only]
@[simp] theorem Block.sendOncePerMs_fifos (t i k x : Nat) : (b.sendOncePerMs t i k x).fifos = b.fifos := by rw [Block.sendOncePerMs_only]
@[simp] theorem Block.sendOncePerMs_hostLinks (t i k x : Nat) : (b.sendOncePerMs t i k x).hostLinks = b.hostLinks := by rw [Block.sendOncePerMs_only]
@[simp] theorem Block.sendOncePerMs_links (t i k x : Nat) : (b.sendOncePerMs t i k x).links = b.links := by rw [Block.sendOncePerMs_only]
@[simp] theorem Block.sendOncePerMs_hbms (t i k x : Nat) : (b.sendOncePerMs t i k x).hbms = b.hbms := by rw [Block.sendOncePerMs_only]
@[simp] theorem Block.sendOncePerMs_slow (t i k x : Nat) : (b.sendOncePerMs t i k x).slow = b.slow := by rw [Block.sendOncePerMs_only]
@[simp] theorem Block.sendOncePerMs_txRings (t i k x : Nat) : (b.sendOncePerMs t i k x).txRings = b.txRings := by rw [Block.sendOncePerMs_only]
@[simp] theorem Block.sendOncePerMs_rxRings (t i k x : Nat) : (b.sendOncePerMs t i k x).rxRings = b.rxRings := by rw [Block.sendOncePerMs_only]
@[simp] theorem Block.sendOncePerMs_pools (t i k x : Nat) : (b.sendOncePerMs t i k x).pools = b.pools := by rw [Block.sendOncePerMs_only]
@[simp] theorem Block.sendOncePerMs_ringInts (t i k x : Nat) : (b.sendOncePerMs t i k x).ringInts = b.ringInts := by rw [Block.sendOncePerMs_only]
@[simp] theorem Block.sendOncePerMs_insts (t i k x : Nat) : (b.sendOncePerMs t i k x).insts = b.insts := by rw [Block.sendOncePerMs_only]
@[simp] theorem Block.sendOncePerMs_vfEnable (t i k x : Nat) : (b.sendOncePerMs t i k x).vfEnable = b.vfEnable := by rw [Block.sendOncePerMs_only]
@[simp] theorem Block.sendOncePerMs_numVfs (t i k x : Nat) : (b.sendOncePerMs t i k x).numVfs = b.numVfs := by rw [Block.sendOncePerMs_only]
@[simp] theorem Block.sendOncePerMs_txLast (t i k x : Nat) : (b.sendOncePerMs t i k x).txLast = b.txLast := by rw [Block.sendOncePerMs_only]
@[simp] theorem Block.sendOncePerMs_jobs (t i k x : Nat) : (b.sendOncePerMs t i k x).jobs = b.jobs := by rw [Block.sendOncePerMs_only]
@[simp] theorem Block.sendOncePerMs_dmaEng (t i k x : Nat) : (b.sendOncePerMs t i k x).dmaEng = b.dmaEng := by rw [Block.sendOncePerMs_only]
@[simp] theorem Block.sendOncePerMs_jobCount (t i k x : Nat) : (b.sendOncePerMs t i k x).jobCount = b.jobCount := by rw [Block.sendOncePerMs_only]
@[simp] theorem Block.sendOncePerMs_dmaLast (t i k x : Nat) : (b.sendOncePerMs t i k x).dmaLast = b.dmaLast := by rw [Block.sendOncePerMs_only]
@[simp] theorem Block.sendOncePerMs_frames (t i k x : Nat) : (b.sendOncePerMs t i k x).frames = b.frames := by rw [Block.sendOncePerMs_only]
@[simp] theorem Block.sendOncePerMs_nextFrame (t i k x : Nat) : (b.sendOncePerMs t i k x).nextFrame = b.nextFrame := by rw [Block.sendOncePerMs_only]
@[simp] theorem Block.sendOncePerMs_flt (t i k x : Nat) : (b.sendOncePerMs t i k x).flt = b.flt := by rw [Block.sendOncePerMs_only]
@[simp] theorem Block.sendOncePerMs_records (t i k x : Nat) : (b.sendOncePerMs t i k x).records = b.records := by rw [Block.sendOncePerMs_only]
@[simp] theorem Block.sendOncePerMs_locked (t i k x : Nat) : (b.sendOncePerMs t i k x).locked = b.locked := by rw [Block.sendOncePerMs_only]
@[simp] theorem Block.sendOncePerMs_pair (t i k x : Nat) : (b.sendOncePerMs t i k x).pair = b.pair := by rw [Block.sendOncePerMs_only]
@[simp] theorem Block.sendOncePerMs_chain (t i k x : Nat) : (b.sendOncePerMs t i k x).chain = b.chain := by rw [Block.sendOncePerMs_only]
@[simp] theorem Block.sendOncePerMs_boot (t i k x : Nat) : (b.sendOncePerMs t i k x).boot = b.boot := by rw [Block.sendOncePerMs_only]
@[simp] theorem Block.sendOncePerMs_pkgHold (t i k x : Nat) : (b.sendOncePerMs t i k x).pkgHold = b.pkgHold := by rw [Block.sendOncePerMs_only]
@[simp] theorem Block.sendOncePerMs_pinLow (t i k x : Nat) : (b.sendOncePerMs t i k x).pinLow = b.pinLow := by rw [Block.sendOncePerMs_only]
@[simp] theorem Block.sendOncePerMs_relPin (t i k x : Nat) : (b.sendOncePerMs t i k x).relPin = b.relPin := by rw [Block.sendOncePerMs_only]
@[simp] theorem Block.sendOncePerMs_strapPins (t i k x : Nat) : (b.sendOncePerMs t i k x).strapPins = b.strapPins := by rw [Block.sendOncePerMs_only]
@[simp] theorem Block.sendOncePerMs_fuses (t i k x : Nat) : (b.sendOncePerMs t i k x).fuses = b.fuses := by rw [Block.sendOncePerMs_only]
@[simp] theorem Block.sendOncePerMs_faultN (t i k x : Nat) : (b.sendOncePerMs t i k x).faultN = b.faultN := by rw [Block.sendOncePerMs_only]
@[simp] theorem Block.sendOncePerMs_snap (t i k x : Nat) : (b.sendOncePerMs t i k x).snap = b.snap := by rw [Block.sendOncePerMs_only]
@[simp] theorem Block.sendOncePerMs_pendSnap (t i k x : Nat) : (b.sendOncePerMs t i k x).pendSnap = b.pendSnap := by rw [Block.sendOncePerMs_only]
@[simp] theorem Block.sendOncePerMs_refusals (t i k x : Nat) : (b.sendOncePerMs t i k x).refusals = b.refusals := by rw [Block.sendOncePerMs_only]
@[simp] theorem Block.sendOncePerMs_out (t i k x : Nat) : (b.sendOncePerMs t i k x).out = b.out := by rw [Block.sendOncePerMs_only]
@[simp] theorem Block.sendOncePerMs_fresh (t i k x : Nat) : (b.sendOncePerMs t i k x).fresh = b.fresh := by rw [Block.sendOncePerMs_only]
@[simp] theorem Block.sendOncePerMs_word (t i k x : Nat) (y0 : Nat) : (b.sendOncePerMs t i k x).word y0 = b.word y0 := by rw [Block.sendOncePerMs_only]; rfl
@[simp] theorem Block.sendOncePerMs_fld (t i k x : Nat) (y0 : Nat) (z0 : Bf) : (b.sendOncePerMs t i k x).fld y0 z0 = b.fld y0 z0 := by rw [Block.sendOncePerMs_only]; rfl
@[simp] theorem Block.sendOncePerMs_flag (t i k x : Nat) (y0 : Nat) (z0 : Bf) : (b.sendOncePerMs t i k x).flag y0 z0 = b.flag y0 z0 := by rw [Block.sendOncePerMs_only]; rfl
@[simp] theorem Block.sendOncePerMs_ctr (t i k x : Nat) (y0 : Nat) : (b.sendOncePerMs t i k x).ctr y0 = b.ctr y0 := by rw [Block.sendOncePerMs_only]; rfl
@[simp] theorem Block.sendOncePerMs_die (t i k x : Nat) (y0 : Nat) : (b.sendOncePerMs t i k x).die y0 = b.die y0 := by rw [Block.sendOncePerMs_only]; rfl
@[simp] theorem Block.sendOncePerMs_port (t i k x : Nat) (y0 : Nat) : (b.sendOncePerMs t i k x).port y0 = b.port y0 := by rw [Block.sendOncePerMs_only]; rfl
@[simp] theorem Block.sendOncePerMs_cluster (t i k x : Nat) (y0 : Nat) : (b.sendOncePerMs t i k x).cluster y0 = b.cluster y0 := by rw [Block.sendOncePerMs_only]; rfl
@[simp] theorem Block.sendOncePerMs_region (t i k x : Nat) (y0 : Nat) : (b.sendOncePerMs t i k x).region y0 = b.region y0 := by rw [Block.sendOncePerMs_only]; rfl
@[simp] theorem Block.sendOncePerMs_engine (t i k x : Nat) (y0 : Nat) : (b.sendOncePerMs t i k x).engine y0 = b.engine y0 := by rw [Block.sendOncePerMs_only]; rfl
@[simp] theorem Block.sendOncePerMs_frame (t i k x : Nat) (y0 : Nat) : (b.sendOncePerMs t i k x).frame y0 = b.frame y0 := by rw [Block.sendOncePerMs_only]; rfl
@[simp] theorem Block.sendOncePerMs_latched (t i k x : Nat) (y0 z0 : Nat) : (b.sendOncePerMs t i k x).latched y0 z0 = b.latched y0 z0 := by rw [Block.sendOncePerMs_only]; rfl
@[simp] theorem Block.sendOncePerMs_inst (t i k x : Nat) (y0 : Nat) : (b.sendOncePerMs t i k x).inst y0 = b.inst y0 := by rw [Block.sendOncePerMs_only]; rfl
@[simp] theorem Block.sendOncePerMs_txRing (t i k x : Nat) (y0 : Nat) : (b.sendOncePerMs t i k x).txRing y0 = b.txRing y0 := by rw [Block.sendOncePerMs_only]; rfl
@[simp] theorem Block.sendOncePerMs_rxRing (t i k x : Nat) (y0 : Nat) : (b.sendOncePerMs t i k x).rxRing y0 = b.rxRing y0 := by rw [Block.sendOncePerMs_only]; rfl
@[simp] theorem Block.sendOncePerMs_pool (t i k x : Nat) (y0 z0 : Nat) : (b.sendOncePerMs t i k x).pool y0 z0 = b.pool y0 z0 := by rw [Block.sendOncePerMs_only]; rfl
@[simp] theorem Block.sendOncePerMs_ring (t i k x : Nat) (y0 : Nat) : (b.sendOncePerMs t i k x).ring y0 = b.ring y0 := by rw [Block.sendOncePerMs_only]; rfl
@[simp] theorem Block.sendOncePerMs_link (t i k x : Nat) (y0 z0 : Nat) : (b.sendOncePerMs t i k x).link y0 z0 = b.link y0 z0 := by rw [Block.sendOncePerMs_only]; rfl
@[simp] theorem Block.sendOncePerMs_fifo (t i k x : Nat) (y0 z0 : Nat) : (b.sendOncePerMs t i k x).fifo y0 z0 = b.fifo y0 z0 := by rw [Block.sendOncePerMs_only]; rfl
@[simp] theorem Block.sendOncePerMs_frozen (t i k x : Nat) (y0 : Nat) : (b.sendOncePerMs t i k x).frozen y0 = b.frozen y0 := by rw [Block.sendOncePerMs_only]; rfl
@[simp] theorem Block.sendOncePerMs_stopped (t i k x : Nat) (y0 : Nat) : (b.sendOncePerMs t i k x).stopped y0 = b.stopped y0 := by rw [Block.sendOncePerMs_only]; rfl
@[simp] theorem Block.sendOncePerMs_ctx (t i k x : Nat) (y0 z0 : Nat) : (b.sendOncePerMs t i k x).ctx y0 z0 = b.ctx y0 z0 := by rw [Block.sendOncePerMs_only]; rfl
@[simp] theorem Block.sendOncePerMs_at_ (t i k x : Nat) (y0 : Nat) (z0 : Loc) : (b.sendOncePerMs t i k x).at_ y0 z0 = b.at_ y0 z0 := by rw [Block.sendOncePerMs_only]; rfl
@[simp] theorem Block.sendOncePerMs_stgFill (t i k x : Nat) (y0 : Nat) : (b.sendOncePerMs t i k x).stgFill y0 = b.stgFill y0 := by rw [Block.sendOncePerMs_only]; rfl
@[simp] theorem Block.sendOncePerMs_txAt (t i k x : Nat) (y0 : Nat) (z0 : TxStage) : (b.sendOncePerMs t i k x).txAt y0 z0 = b.txAt y0 z0 := by rw [Block.sendOncePerMs_only]; rfl

/-! ## accessFault -/

@[simp] theorem Block.accessFault_regs (r x : Nat) (w : Bool) (y : Nat) : (b.accessFault r x w y).regs = b.regs := by rw [Block.accessFault_only]
@[simp] theorem Block.accessFault_ctrs (r x : Nat) (w : Bool) (y : Nat) : (b.accessFault r x w y).ctrs = b.ctrs := by rw [Block.accessFault_only]
@[simp] theorem Block.accessFault_latch (r x : Nat) (w : Bool) (y : Nat) : (b.accessFault r x w y).latch = b.latch := by rw [Block.accessFault_only]
@[simp] theorem Block.accessFault_ticks (r x : Nat) (w : Bool) (y : Nat) : (b.accessFault r x w y).ticks = b.ticks := by rw [Block.accessFault_only]
@[simp] theorem Block.accessFault_refLost (r x : Nat) (w : Bool) (y : Nat) : (b.accessFault r x w y).refLost = b.refLost := by rw [Block.accessFault_only]
@[simp] theorem Block.accessFault_baseA (r x : Nat) (w : Bool) (y : Nat) : (b.accessFault r x w y).baseA = b.baseA := by rw [Block.accessFault_only]
@[simp] theorem Block.accessFault_baseB (r x : Nat) (w : Bool) (y : Nat) : (b.accessFault r x w y).baseB = b.baseB := by rw [Block.accessFault_only]
@[simp] theorem Block.accessFault_switchTick (r x : Nat) (w : Bool) (y : Nat) : (b.accessFault r x w y).switchTick = b.switchTick := by rw [Block.accessFault_only]
@[simp] theorem Block.accessFault_dies (r x : Nat) (w : Bool) (y : Nat) : (b.accessFault r x w y).dies = b.dies := by rw [Block.accessFault_only]
@[simp] theorem Block.accessFault_ports (r x : Nat) (w : Bool) (y : Nat) : (b.accessFault r x w y).ports = b.ports := by rw [Block.accessFault_only]
@[simp] theorem Block.accessFault_clusters (r x : Nat) (w : Bool) (y : Nat) : (b.accessFault r x w y).clusters = b.clusters := by rw [Block.accessFault_only]
@[simp] theorem Block.accessFault_regions (r x : Nat) (w : Bool) (y : Nat) : (b.accessFault r x w y).regions = b.regions := by rw [Block.accessFault_only]
@[simp] theorem Block.accessFault_engines (r x : Nat) (w : Bool) (y : Nat) : (b.accessFault r x w y).engines = b.engines := by rw [Block.accessFault_only]
@[simp] theorem Block.accessFault_rings (r x : Nat) (w : Bool) (y : Nat) : (b.accessFault r x w y).rings = b.rings := by rw [Block.accessFault_only]
@[simp] theorem Block.accessFault_fifos (r x : Nat) (w : Bool) (y : Nat) : (b.accessFault r x w y).fifos = b.fifos := by rw [Block.accessFault_only]
@[simp] theorem Block.accessFault_hostLinks (r x : Nat) (w : Bool) (y : Nat) : (b.accessFault r x w y).hostLinks = b.hostLinks := by rw [Block.accessFault_only]
@[simp] theorem Block.accessFault_links (r x : Nat) (w : Bool) (y : Nat) : (b.accessFault r x w y).links = b.links := by rw [Block.accessFault_only]
@[simp] theorem Block.accessFault_hbms (r x : Nat) (w : Bool) (y : Nat) : (b.accessFault r x w y).hbms = b.hbms := by rw [Block.accessFault_only]
@[simp] theorem Block.accessFault_slow (r x : Nat) (w : Bool) (y : Nat) : (b.accessFault r x w y).slow = b.slow := by rw [Block.accessFault_only]
@[simp] theorem Block.accessFault_txRings (r x : Nat) (w : Bool) (y : Nat) : (b.accessFault r x w y).txRings = b.txRings := by rw [Block.accessFault_only]
@[simp] theorem Block.accessFault_rxRings (r x : Nat) (w : Bool) (y : Nat) : (b.accessFault r x w y).rxRings = b.rxRings := by rw [Block.accessFault_only]
@[simp] theorem Block.accessFault_pools (r x : Nat) (w : Bool) (y : Nat) : (b.accessFault r x w y).pools = b.pools := by rw [Block.accessFault_only]
@[simp] theorem Block.accessFault_ringInts (r x : Nat) (w : Bool) (y : Nat) : (b.accessFault r x w y).ringInts = b.ringInts := by rw [Block.accessFault_only]
@[simp] theorem Block.accessFault_insts (r x : Nat) (w : Bool) (y : Nat) : (b.accessFault r x w y).insts = b.insts := by rw [Block.accessFault_only]
@[simp] theorem Block.accessFault_vfEnable (r x : Nat) (w : Bool) (y : Nat) : (b.accessFault r x w y).vfEnable = b.vfEnable := by rw [Block.accessFault_only]
@[simp] theorem Block.accessFault_numVfs (r x : Nat) (w : Bool) (y : Nat) : (b.accessFault r x w y).numVfs = b.numVfs := by rw [Block.accessFault_only]
@[simp] theorem Block.accessFault_txLast (r x : Nat) (w : Bool) (y : Nat) : (b.accessFault r x w y).txLast = b.txLast := by rw [Block.accessFault_only]
@[simp] theorem Block.accessFault_jobs (r x : Nat) (w : Bool) (y : Nat) : (b.accessFault r x w y).jobs = b.jobs := by rw [Block.accessFault_only]
@[simp] theorem Block.accessFault_dmaEng (r x : Nat) (w : Bool) (y : Nat) : (b.accessFault r x w y).dmaEng = b.dmaEng := by rw [Block.accessFault_only]
@[simp] theorem Block.accessFault_jobCount (r x : Nat) (w : Bool) (y : Nat) : (b.accessFault r x w y).jobCount = b.jobCount := by rw [Block.accessFault_only]
@[simp] theorem Block.accessFault_dmaLast (r x : Nat) (w : Bool) (y : Nat) : (b.accessFault r x w y).dmaLast = b.dmaLast := by rw [Block.accessFault_only]
@[simp] theorem Block.accessFault_frames (r x : Nat) (w : Bool) (y : Nat) : (b.accessFault r x w y).frames = b.frames := by rw [Block.accessFault_only]
@[simp] theorem Block.accessFault_nextFrame (r x : Nat) (w : Bool) (y : Nat) : (b.accessFault r x w y).nextFrame = b.nextFrame := by rw [Block.accessFault_only]
@[simp] theorem Block.accessFault_flt (r x : Nat) (w : Bool) (y : Nat) : (b.accessFault r x w y).flt = b.flt := by rw [Block.accessFault_only]
@[simp] theorem Block.accessFault_records (r x : Nat) (w : Bool) (y : Nat) : (b.accessFault r x w y).records = b.records := by rw [Block.accessFault_only]
@[simp] theorem Block.accessFault_locked (r x : Nat) (w : Bool) (y : Nat) : (b.accessFault r x w y).locked = b.locked := by rw [Block.accessFault_only]
@[simp] theorem Block.accessFault_pair (r x : Nat) (w : Bool) (y : Nat) : (b.accessFault r x w y).pair = b.pair := by rw [Block.accessFault_only]
@[simp] theorem Block.accessFault_chain (r x : Nat) (w : Bool) (y : Nat) : (b.accessFault r x w y).chain = b.chain := by rw [Block.accessFault_only]
@[simp] theorem Block.accessFault_boot (r x : Nat) (w : Bool) (y : Nat) : (b.accessFault r x w y).boot = b.boot := by rw [Block.accessFault_only]
@[simp] theorem Block.accessFault_pkgHold (r x : Nat) (w : Bool) (y : Nat) : (b.accessFault r x w y).pkgHold = b.pkgHold := by rw [Block.accessFault_only]
@[simp] theorem Block.accessFault_pinLow (r x : Nat) (w : Bool) (y : Nat) : (b.accessFault r x w y).pinLow = b.pinLow := by rw [Block.accessFault_only]
@[simp] theorem Block.accessFault_relPin (r x : Nat) (w : Bool) (y : Nat) : (b.accessFault r x w y).relPin = b.relPin := by rw [Block.accessFault_only]
@[simp] theorem Block.accessFault_strapPins (r x : Nat) (w : Bool) (y : Nat) : (b.accessFault r x w y).strapPins = b.strapPins := by rw [Block.accessFault_only]
@[simp] theorem Block.accessFault_fuses (r x : Nat) (w : Bool) (y : Nat) : (b.accessFault r x w y).fuses = b.fuses := by rw [Block.accessFault_only]
@[simp] theorem Block.accessFault_faultN (r x : Nat) (w : Bool) (y : Nat) : (b.accessFault r x w y).faultN = b.faultN := by rw [Block.accessFault_only]
@[simp] theorem Block.accessFault_snap (r x : Nat) (w : Bool) (y : Nat) : (b.accessFault r x w y).snap = b.snap := by rw [Block.accessFault_only]
@[simp] theorem Block.accessFault_pendSnap (r x : Nat) (w : Bool) (y : Nat) : (b.accessFault r x w y).pendSnap = b.pendSnap := by rw [Block.accessFault_only]
@[simp] theorem Block.accessFault_out (r x : Nat) (w : Bool) (y : Nat) : (b.accessFault r x w y).out = b.out := by rw [Block.accessFault_only]
@[simp] theorem Block.accessFault_fresh (r x : Nat) (w : Bool) (y : Nat) : (b.accessFault r x w y).fresh = b.fresh := by rw [Block.accessFault_only]
@[simp] theorem Block.accessFault_word (r x : Nat) (w : Bool) (y : Nat) (y0 : Nat) : (b.accessFault r x w y).word y0 = b.word y0 := by rw [Block.accessFault_only]; rfl
@[simp] theorem Block.accessFault_fld (r x : Nat) (w : Bool) (y : Nat) (y0 : Nat) (z0 : Bf) : (b.accessFault r x w y).fld y0 z0 = b.fld y0 z0 := by rw [Block.accessFault_only]; rfl
@[simp] theorem Block.accessFault_flag (r x : Nat) (w : Bool) (y : Nat) (y0 : Nat) (z0 : Bf) : (b.accessFault r x w y).flag y0 z0 = b.flag y0 z0 := by rw [Block.accessFault_only]; rfl
@[simp] theorem Block.accessFault_ctr (r x : Nat) (w : Bool) (y : Nat) (y0 : Nat) : (b.accessFault r x w y).ctr y0 = b.ctr y0 := by rw [Block.accessFault_only]; rfl
@[simp] theorem Block.accessFault_die (r x : Nat) (w : Bool) (y : Nat) (y0 : Nat) : (b.accessFault r x w y).die y0 = b.die y0 := by rw [Block.accessFault_only]; rfl
@[simp] theorem Block.accessFault_port (r x : Nat) (w : Bool) (y : Nat) (y0 : Nat) : (b.accessFault r x w y).port y0 = b.port y0 := by rw [Block.accessFault_only]; rfl
@[simp] theorem Block.accessFault_cluster (r x : Nat) (w : Bool) (y : Nat) (y0 : Nat) : (b.accessFault r x w y).cluster y0 = b.cluster y0 := by rw [Block.accessFault_only]; rfl
@[simp] theorem Block.accessFault_region (r x : Nat) (w : Bool) (y : Nat) (y0 : Nat) : (b.accessFault r x w y).region y0 = b.region y0 := by rw [Block.accessFault_only]; rfl
@[simp] theorem Block.accessFault_engine (r x : Nat) (w : Bool) (y : Nat) (y0 : Nat) : (b.accessFault r x w y).engine y0 = b.engine y0 := by rw [Block.accessFault_only]; rfl
@[simp] theorem Block.accessFault_frame (r x : Nat) (w : Bool) (y : Nat) (y0 : Nat) : (b.accessFault r x w y).frame y0 = b.frame y0 := by rw [Block.accessFault_only]; rfl
@[simp] theorem Block.accessFault_latched (r x : Nat) (w : Bool) (y : Nat) (y0 z0 : Nat) : (b.accessFault r x w y).latched y0 z0 = b.latched y0 z0 := by rw [Block.accessFault_only]; rfl
@[simp] theorem Block.accessFault_inst (r x : Nat) (w : Bool) (y : Nat) (y0 : Nat) : (b.accessFault r x w y).inst y0 = b.inst y0 := by rw [Block.accessFault_only]; rfl
@[simp] theorem Block.accessFault_txRing (r x : Nat) (w : Bool) (y : Nat) (y0 : Nat) : (b.accessFault r x w y).txRing y0 = b.txRing y0 := by rw [Block.accessFault_only]; rfl
@[simp] theorem Block.accessFault_rxRing (r x : Nat) (w : Bool) (y : Nat) (y0 : Nat) : (b.accessFault r x w y).rxRing y0 = b.rxRing y0 := by rw [Block.accessFault_only]; rfl
@[simp] theorem Block.accessFault_pool (r x : Nat) (w : Bool) (y : Nat) (y0 z0 : Nat) : (b.accessFault r x w y).pool y0 z0 = b.pool y0 z0 := by rw [Block.accessFault_only]; rfl
@[simp] theorem Block.accessFault_ring (r x : Nat) (w : Bool) (y : Nat) (y0 : Nat) : (b.accessFault r x w y).ring y0 = b.ring y0 := by rw [Block.accessFault_only]; rfl
@[simp] theorem Block.accessFault_link (r x : Nat) (w : Bool) (y : Nat) (y0 z0 : Nat) : (b.accessFault r x w y).link y0 z0 = b.link y0 z0 := by rw [Block.accessFault_only]; rfl
@[simp] theorem Block.accessFault_fifo (r x : Nat) (w : Bool) (y : Nat) (y0 z0 : Nat) : (b.accessFault r x w y).fifo y0 z0 = b.fifo y0 z0 := by rw [Block.accessFault_only]; rfl
@[simp] theorem Block.accessFault_frozen (r x : Nat) (w : Bool) (y : Nat) (y0 : Nat) : (b.accessFault r x w y).frozen y0 = b.frozen y0 := by rw [Block.accessFault_only]; rfl
@[simp] theorem Block.accessFault_stopped (r x : Nat) (w : Bool) (y : Nat) (y0 : Nat) : (b.accessFault r x w y).stopped y0 = b.stopped y0 := by rw [Block.accessFault_only]; rfl
@[simp] theorem Block.accessFault_ctx (r x : Nat) (w : Bool) (y : Nat) (y0 z0 : Nat) : (b.accessFault r x w y).ctx y0 z0 = b.ctx y0 z0 := by rw [Block.accessFault_only]; rfl
@[simp] theorem Block.accessFault_at_ (r x : Nat) (w : Bool) (y : Nat) (y0 : Nat) (z0 : Loc) : (b.accessFault r x w y).at_ y0 z0 = b.at_ y0 z0 := by rw [Block.accessFault_only]; rfl
@[simp] theorem Block.accessFault_stgFill (r x : Nat) (w : Bool) (y : Nat) (y0 : Nat) : (b.accessFault r x w y).stgFill y0 = b.stgFill y0 := by rw [Block.accessFault_only]; rfl
@[simp] theorem Block.accessFault_txAt (r x : Nat) (w : Bool) (y : Nat) (y0 : Nat) (z0 : TxStage) : (b.accessFault r x w y).txAt y0 z0 = b.txAt y0 z0 := by rw [Block.accessFault_only]; rfl

/-! ## refuse -/

@[simp] theorem Block.refuse_regs (w : Writer) (a : Nat) : (b.refuse w a).regs = b.regs := by rw [Block.refuse_only]
@[simp] theorem Block.refuse_ctrs (w : Writer) (a : Nat) : (b.refuse w a).ctrs = b.ctrs := by rw [Block.refuse_only]
@[simp] theorem Block.refuse_latch (w : Writer) (a : Nat) : (b.refuse w a).latch = b.latch := by rw [Block.refuse_only]
@[simp] theorem Block.refuse_ticks (w : Writer) (a : Nat) : (b.refuse w a).ticks = b.ticks := by rw [Block.refuse_only]
@[simp] theorem Block.refuse_refLost (w : Writer) (a : Nat) : (b.refuse w a).refLost = b.refLost := by rw [Block.refuse_only]
@[simp] theorem Block.refuse_baseA (w : Writer) (a : Nat) : (b.refuse w a).baseA = b.baseA := by rw [Block.refuse_only]
@[simp] theorem Block.refuse_baseB (w : Writer) (a : Nat) : (b.refuse w a).baseB = b.baseB := by rw [Block.refuse_only]
@[simp] theorem Block.refuse_switchTick (w : Writer) (a : Nat) : (b.refuse w a).switchTick = b.switchTick := by rw [Block.refuse_only]
@[simp] theorem Block.refuse_dies (w : Writer) (a : Nat) : (b.refuse w a).dies = b.dies := by rw [Block.refuse_only]
@[simp] theorem Block.refuse_ports (w : Writer) (a : Nat) : (b.refuse w a).ports = b.ports := by rw [Block.refuse_only]
@[simp] theorem Block.refuse_clusters (w : Writer) (a : Nat) : (b.refuse w a).clusters = b.clusters := by rw [Block.refuse_only]
@[simp] theorem Block.refuse_regions (w : Writer) (a : Nat) : (b.refuse w a).regions = b.regions := by rw [Block.refuse_only]
@[simp] theorem Block.refuse_engines (w : Writer) (a : Nat) : (b.refuse w a).engines = b.engines := by rw [Block.refuse_only]
@[simp] theorem Block.refuse_rings (w : Writer) (a : Nat) : (b.refuse w a).rings = b.rings := by rw [Block.refuse_only]
@[simp] theorem Block.refuse_fifos (w : Writer) (a : Nat) : (b.refuse w a).fifos = b.fifos := by rw [Block.refuse_only]
@[simp] theorem Block.refuse_hostLinks (w : Writer) (a : Nat) : (b.refuse w a).hostLinks = b.hostLinks := by rw [Block.refuse_only]
@[simp] theorem Block.refuse_links (w : Writer) (a : Nat) : (b.refuse w a).links = b.links := by rw [Block.refuse_only]
@[simp] theorem Block.refuse_hbms (w : Writer) (a : Nat) : (b.refuse w a).hbms = b.hbms := by rw [Block.refuse_only]
@[simp] theorem Block.refuse_slow (w : Writer) (a : Nat) : (b.refuse w a).slow = b.slow := by rw [Block.refuse_only]
@[simp] theorem Block.refuse_txRings (w : Writer) (a : Nat) : (b.refuse w a).txRings = b.txRings := by rw [Block.refuse_only]
@[simp] theorem Block.refuse_rxRings (w : Writer) (a : Nat) : (b.refuse w a).rxRings = b.rxRings := by rw [Block.refuse_only]
@[simp] theorem Block.refuse_pools (w : Writer) (a : Nat) : (b.refuse w a).pools = b.pools := by rw [Block.refuse_only]
@[simp] theorem Block.refuse_ringInts (w : Writer) (a : Nat) : (b.refuse w a).ringInts = b.ringInts := by rw [Block.refuse_only]
@[simp] theorem Block.refuse_insts (w : Writer) (a : Nat) : (b.refuse w a).insts = b.insts := by rw [Block.refuse_only]
@[simp] theorem Block.refuse_vfEnable (w : Writer) (a : Nat) : (b.refuse w a).vfEnable = b.vfEnable := by rw [Block.refuse_only]
@[simp] theorem Block.refuse_numVfs (w : Writer) (a : Nat) : (b.refuse w a).numVfs = b.numVfs := by rw [Block.refuse_only]
@[simp] theorem Block.refuse_txLast (w : Writer) (a : Nat) : (b.refuse w a).txLast = b.txLast := by rw [Block.refuse_only]
@[simp] theorem Block.refuse_jobs (w : Writer) (a : Nat) : (b.refuse w a).jobs = b.jobs := by rw [Block.refuse_only]
@[simp] theorem Block.refuse_dmaEng (w : Writer) (a : Nat) : (b.refuse w a).dmaEng = b.dmaEng := by rw [Block.refuse_only]
@[simp] theorem Block.refuse_jobCount (w : Writer) (a : Nat) : (b.refuse w a).jobCount = b.jobCount := by rw [Block.refuse_only]
@[simp] theorem Block.refuse_dmaLast (w : Writer) (a : Nat) : (b.refuse w a).dmaLast = b.dmaLast := by rw [Block.refuse_only]
@[simp] theorem Block.refuse_frames (w : Writer) (a : Nat) : (b.refuse w a).frames = b.frames := by rw [Block.refuse_only]
@[simp] theorem Block.refuse_nextFrame (w : Writer) (a : Nat) : (b.refuse w a).nextFrame = b.nextFrame := by rw [Block.refuse_only]
@[simp] theorem Block.refuse_flt (w : Writer) (a : Nat) : (b.refuse w a).flt = b.flt := by rw [Block.refuse_only]
@[simp] theorem Block.refuse_records (w : Writer) (a : Nat) : (b.refuse w a).records = b.records := by rw [Block.refuse_only]
@[simp] theorem Block.refuse_locked (w : Writer) (a : Nat) : (b.refuse w a).locked = b.locked := by rw [Block.refuse_only]
@[simp] theorem Block.refuse_pair (w : Writer) (a : Nat) : (b.refuse w a).pair = b.pair := by rw [Block.refuse_only]
@[simp] theorem Block.refuse_chain (w : Writer) (a : Nat) : (b.refuse w a).chain = b.chain := by rw [Block.refuse_only]
@[simp] theorem Block.refuse_boot (w : Writer) (a : Nat) : (b.refuse w a).boot = b.boot := by rw [Block.refuse_only]
@[simp] theorem Block.refuse_pkgHold (w : Writer) (a : Nat) : (b.refuse w a).pkgHold = b.pkgHold := by rw [Block.refuse_only]
@[simp] theorem Block.refuse_pinLow (w : Writer) (a : Nat) : (b.refuse w a).pinLow = b.pinLow := by rw [Block.refuse_only]
@[simp] theorem Block.refuse_relPin (w : Writer) (a : Nat) : (b.refuse w a).relPin = b.relPin := by rw [Block.refuse_only]
@[simp] theorem Block.refuse_strapPins (w : Writer) (a : Nat) : (b.refuse w a).strapPins = b.strapPins := by rw [Block.refuse_only]
@[simp] theorem Block.refuse_fuses (w : Writer) (a : Nat) : (b.refuse w a).fuses = b.fuses := by rw [Block.refuse_only]
@[simp] theorem Block.refuse_faultN (w : Writer) (a : Nat) : (b.refuse w a).faultN = b.faultN := by rw [Block.refuse_only]
@[simp] theorem Block.refuse_snap (w : Writer) (a : Nat) : (b.refuse w a).snap = b.snap := by rw [Block.refuse_only]
@[simp] theorem Block.refuse_pendSnap (w : Writer) (a : Nat) : (b.refuse w a).pendSnap = b.pendSnap := by rw [Block.refuse_only]
@[simp] theorem Block.refuse_out (w : Writer) (a : Nat) : (b.refuse w a).out = b.out := by rw [Block.refuse_only]
@[simp] theorem Block.refuse_fresh (w : Writer) (a : Nat) : (b.refuse w a).fresh = b.fresh := by rw [Block.refuse_only]
@[simp] theorem Block.refuse_word (w : Writer) (a : Nat) (y0 : Nat) : (b.refuse w a).word y0 = b.word y0 := by rw [Block.refuse_only]; rfl
@[simp] theorem Block.refuse_fld (w : Writer) (a : Nat) (y0 : Nat) (z0 : Bf) : (b.refuse w a).fld y0 z0 = b.fld y0 z0 := by rw [Block.refuse_only]; rfl
@[simp] theorem Block.refuse_flag (w : Writer) (a : Nat) (y0 : Nat) (z0 : Bf) : (b.refuse w a).flag y0 z0 = b.flag y0 z0 := by rw [Block.refuse_only]; rfl
@[simp] theorem Block.refuse_ctr (w : Writer) (a : Nat) (y0 : Nat) : (b.refuse w a).ctr y0 = b.ctr y0 := by rw [Block.refuse_only]; rfl
@[simp] theorem Block.refuse_die (w : Writer) (a : Nat) (y0 : Nat) : (b.refuse w a).die y0 = b.die y0 := by rw [Block.refuse_only]; rfl
@[simp] theorem Block.refuse_port (w : Writer) (a : Nat) (y0 : Nat) : (b.refuse w a).port y0 = b.port y0 := by rw [Block.refuse_only]; rfl
@[simp] theorem Block.refuse_cluster (w : Writer) (a : Nat) (y0 : Nat) : (b.refuse w a).cluster y0 = b.cluster y0 := by rw [Block.refuse_only]; rfl
@[simp] theorem Block.refuse_region (w : Writer) (a : Nat) (y0 : Nat) : (b.refuse w a).region y0 = b.region y0 := by rw [Block.refuse_only]; rfl
@[simp] theorem Block.refuse_engine (w : Writer) (a : Nat) (y0 : Nat) : (b.refuse w a).engine y0 = b.engine y0 := by rw [Block.refuse_only]; rfl
@[simp] theorem Block.refuse_frame (w : Writer) (a : Nat) (y0 : Nat) : (b.refuse w a).frame y0 = b.frame y0 := by rw [Block.refuse_only]; rfl
@[simp] theorem Block.refuse_latched (w : Writer) (a : Nat) (y0 z0 : Nat) : (b.refuse w a).latched y0 z0 = b.latched y0 z0 := by rw [Block.refuse_only]; rfl
@[simp] theorem Block.refuse_inst (w : Writer) (a : Nat) (y0 : Nat) : (b.refuse w a).inst y0 = b.inst y0 := by rw [Block.refuse_only]; rfl
@[simp] theorem Block.refuse_txRing (w : Writer) (a : Nat) (y0 : Nat) : (b.refuse w a).txRing y0 = b.txRing y0 := by rw [Block.refuse_only]; rfl
@[simp] theorem Block.refuse_rxRing (w : Writer) (a : Nat) (y0 : Nat) : (b.refuse w a).rxRing y0 = b.rxRing y0 := by rw [Block.refuse_only]; rfl
@[simp] theorem Block.refuse_pool (w : Writer) (a : Nat) (y0 z0 : Nat) : (b.refuse w a).pool y0 z0 = b.pool y0 z0 := by rw [Block.refuse_only]; rfl
@[simp] theorem Block.refuse_ring (w : Writer) (a : Nat) (y0 : Nat) : (b.refuse w a).ring y0 = b.ring y0 := by rw [Block.refuse_only]; rfl
@[simp] theorem Block.refuse_link (w : Writer) (a : Nat) (y0 z0 : Nat) : (b.refuse w a).link y0 z0 = b.link y0 z0 := by rw [Block.refuse_only]; rfl
@[simp] theorem Block.refuse_fifo (w : Writer) (a : Nat) (y0 z0 : Nat) : (b.refuse w a).fifo y0 z0 = b.fifo y0 z0 := by rw [Block.refuse_only]; rfl
@[simp] theorem Block.refuse_frozen (w : Writer) (a : Nat) (y0 : Nat) : (b.refuse w a).frozen y0 = b.frozen y0 := by rw [Block.refuse_only]; rfl
@[simp] theorem Block.refuse_stopped (w : Writer) (a : Nat) (y0 : Nat) : (b.refuse w a).stopped y0 = b.stopped y0 := by rw [Block.refuse_only]; rfl
@[simp] theorem Block.refuse_ctx (w : Writer) (a : Nat) (y0 z0 : Nat) : (b.refuse w a).ctx y0 z0 = b.ctx y0 z0 := by rw [Block.refuse_only]; rfl
@[simp] theorem Block.refuse_at_ (w : Writer) (a : Nat) (y0 : Nat) (z0 : Loc) : (b.refuse w a).at_ y0 z0 = b.at_ y0 z0 := by rw [Block.refuse_only]; rfl
@[simp] theorem Block.refuse_stgFill (w : Writer) (a : Nat) (y0 : Nat) : (b.refuse w a).stgFill y0 = b.stgFill y0 := by rw [Block.refuse_only]; rfl
@[simp] theorem Block.refuse_txAt (w : Writer) (a : Nat) (y0 : Nat) (z0 : TxStage) : (b.refuse w a).txAt y0 z0 = b.txAt y0 z0 := by rw [Block.refuse_only]; rfl

/-! ## storeReg -/

@[simp] theorem Block.storeReg_ctrs (w : Writer) (a v : Nat) : (b.storeReg w a v).ctrs = b.ctrs := by rw [Block.storeReg_only]
@[simp] theorem Block.storeReg_latch (w : Writer) (a v : Nat) : (b.storeReg w a v).latch = b.latch := by rw [Block.storeReg_only]
@[simp] theorem Block.storeReg_ticks (w : Writer) (a v : Nat) : (b.storeReg w a v).ticks = b.ticks := by rw [Block.storeReg_only]
@[simp] theorem Block.storeReg_refLost (w : Writer) (a v : Nat) : (b.storeReg w a v).refLost = b.refLost := by rw [Block.storeReg_only]
@[simp] theorem Block.storeReg_baseA (w : Writer) (a v : Nat) : (b.storeReg w a v).baseA = b.baseA := by rw [Block.storeReg_only]
@[simp] theorem Block.storeReg_baseB (w : Writer) (a v : Nat) : (b.storeReg w a v).baseB = b.baseB := by rw [Block.storeReg_only]
@[simp] theorem Block.storeReg_switchTick (w : Writer) (a v : Nat) : (b.storeReg w a v).switchTick = b.switchTick := by rw [Block.storeReg_only]
@[simp] theorem Block.storeReg_dies (w : Writer) (a v : Nat) : (b.storeReg w a v).dies = b.dies := by rw [Block.storeReg_only]
@[simp] theorem Block.storeReg_ports (w : Writer) (a v : Nat) : (b.storeReg w a v).ports = b.ports := by rw [Block.storeReg_only]
@[simp] theorem Block.storeReg_clusters (w : Writer) (a v : Nat) : (b.storeReg w a v).clusters = b.clusters := by rw [Block.storeReg_only]
@[simp] theorem Block.storeReg_regions (w : Writer) (a v : Nat) : (b.storeReg w a v).regions = b.regions := by rw [Block.storeReg_only]
@[simp] theorem Block.storeReg_engines (w : Writer) (a v : Nat) : (b.storeReg w a v).engines = b.engines := by rw [Block.storeReg_only]
@[simp] theorem Block.storeReg_rings (w : Writer) (a v : Nat) : (b.storeReg w a v).rings = b.rings := by rw [Block.storeReg_only]
@[simp] theorem Block.storeReg_fifos (w : Writer) (a v : Nat) : (b.storeReg w a v).fifos = b.fifos := by rw [Block.storeReg_only]
@[simp] theorem Block.storeReg_hostLinks (w : Writer) (a v : Nat) : (b.storeReg w a v).hostLinks = b.hostLinks := by rw [Block.storeReg_only]
@[simp] theorem Block.storeReg_links (w : Writer) (a v : Nat) : (b.storeReg w a v).links = b.links := by rw [Block.storeReg_only]
@[simp] theorem Block.storeReg_hbms (w : Writer) (a v : Nat) : (b.storeReg w a v).hbms = b.hbms := by rw [Block.storeReg_only]
@[simp] theorem Block.storeReg_slow (w : Writer) (a v : Nat) : (b.storeReg w a v).slow = b.slow := by rw [Block.storeReg_only]
@[simp] theorem Block.storeReg_txRings (w : Writer) (a v : Nat) : (b.storeReg w a v).txRings = b.txRings := by rw [Block.storeReg_only]
@[simp] theorem Block.storeReg_rxRings (w : Writer) (a v : Nat) : (b.storeReg w a v).rxRings = b.rxRings := by rw [Block.storeReg_only]
@[simp] theorem Block.storeReg_pools (w : Writer) (a v : Nat) : (b.storeReg w a v).pools = b.pools := by rw [Block.storeReg_only]
@[simp] theorem Block.storeReg_ringInts (w : Writer) (a v : Nat) : (b.storeReg w a v).ringInts = b.ringInts := by rw [Block.storeReg_only]
@[simp] theorem Block.storeReg_insts (w : Writer) (a v : Nat) : (b.storeReg w a v).insts = b.insts := by rw [Block.storeReg_only]
@[simp] theorem Block.storeReg_vfEnable (w : Writer) (a v : Nat) : (b.storeReg w a v).vfEnable = b.vfEnable := by rw [Block.storeReg_only]
@[simp] theorem Block.storeReg_numVfs (w : Writer) (a v : Nat) : (b.storeReg w a v).numVfs = b.numVfs := by rw [Block.storeReg_only]
@[simp] theorem Block.storeReg_txLast (w : Writer) (a v : Nat) : (b.storeReg w a v).txLast = b.txLast := by rw [Block.storeReg_only]
@[simp] theorem Block.storeReg_jobs (w : Writer) (a v : Nat) : (b.storeReg w a v).jobs = b.jobs := by rw [Block.storeReg_only]
@[simp] theorem Block.storeReg_dmaEng (w : Writer) (a v : Nat) : (b.storeReg w a v).dmaEng = b.dmaEng := by rw [Block.storeReg_only]
@[simp] theorem Block.storeReg_jobCount (w : Writer) (a v : Nat) : (b.storeReg w a v).jobCount = b.jobCount := by rw [Block.storeReg_only]
@[simp] theorem Block.storeReg_dmaLast (w : Writer) (a v : Nat) : (b.storeReg w a v).dmaLast = b.dmaLast := by rw [Block.storeReg_only]
@[simp] theorem Block.storeReg_frames (w : Writer) (a v : Nat) : (b.storeReg w a v).frames = b.frames := by rw [Block.storeReg_only]
@[simp] theorem Block.storeReg_nextFrame (w : Writer) (a v : Nat) : (b.storeReg w a v).nextFrame = b.nextFrame := by rw [Block.storeReg_only]
@[simp] theorem Block.storeReg_flt (w : Writer) (a v : Nat) : (b.storeReg w a v).flt = b.flt := by rw [Block.storeReg_only]
@[simp] theorem Block.storeReg_records (w : Writer) (a v : Nat) : (b.storeReg w a v).records = b.records := by rw [Block.storeReg_only]
@[simp] theorem Block.storeReg_locked (w : Writer) (a v : Nat) : (b.storeReg w a v).locked = b.locked := by rw [Block.storeReg_only]
@[simp] theorem Block.storeReg_pair (w : Writer) (a v : Nat) : (b.storeReg w a v).pair = b.pair := by rw [Block.storeReg_only]
@[simp] theorem Block.storeReg_chain (w : Writer) (a v : Nat) : (b.storeReg w a v).chain = b.chain := by rw [Block.storeReg_only]
@[simp] theorem Block.storeReg_boot (w : Writer) (a v : Nat) : (b.storeReg w a v).boot = b.boot := by rw [Block.storeReg_only]
@[simp] theorem Block.storeReg_pkgHold (w : Writer) (a v : Nat) : (b.storeReg w a v).pkgHold = b.pkgHold := by rw [Block.storeReg_only]
@[simp] theorem Block.storeReg_pinLow (w : Writer) (a v : Nat) : (b.storeReg w a v).pinLow = b.pinLow := by rw [Block.storeReg_only]
@[simp] theorem Block.storeReg_relPin (w : Writer) (a v : Nat) : (b.storeReg w a v).relPin = b.relPin := by rw [Block.storeReg_only]
@[simp] theorem Block.storeReg_strapPins (w : Writer) (a v : Nat) : (b.storeReg w a v).strapPins = b.strapPins := by rw [Block.storeReg_only]
@[simp] theorem Block.storeReg_fuses (w : Writer) (a v : Nat) : (b.storeReg w a v).fuses = b.fuses := by rw [Block.storeReg_only]
@[simp] theorem Block.storeReg_faultN (w : Writer) (a v : Nat) : (b.storeReg w a v).faultN = b.faultN := by rw [Block.storeReg_only]
@[simp] theorem Block.storeReg_snap (w : Writer) (a v : Nat) : (b.storeReg w a v).snap = b.snap := by rw [Block.storeReg_only]
@[simp] theorem Block.storeReg_pendSnap (w : Writer) (a v : Nat) : (b.storeReg w a v).pendSnap = b.pendSnap := by rw [Block.storeReg_only]
@[simp] theorem Block.storeReg_out (w : Writer) (a v : Nat) : (b.storeReg w a v).out = b.out := by rw [Block.storeReg_only]
@[simp] theorem Block.storeReg_fresh (w : Writer) (a v : Nat) : (b.storeReg w a v).fresh = b.fresh := by rw [Block.storeReg_only]
@[simp] theorem Block.storeReg_ctr (w : Writer) (a v : Nat) (y0 : Nat) : (b.storeReg w a v).ctr y0 = b.ctr y0 := by rw [Block.storeReg_only]; rfl
@[simp] theorem Block.storeReg_die (w : Writer) (a v : Nat) (y0 : Nat) : (b.storeReg w a v).die y0 = b.die y0 := by rw [Block.storeReg_only]; rfl
@[simp] theorem Block.storeReg_port (w : Writer) (a v : Nat) (y0 : Nat) : (b.storeReg w a v).port y0 = b.port y0 := by rw [Block.storeReg_only]; rfl
@[simp] theorem Block.storeReg_cluster (w : Writer) (a v : Nat) (y0 : Nat) : (b.storeReg w a v).cluster y0 = b.cluster y0 := by rw [Block.storeReg_only]; rfl
@[simp] theorem Block.storeReg_region (w : Writer) (a v : Nat) (y0 : Nat) : (b.storeReg w a v).region y0 = b.region y0 := by rw [Block.storeReg_only]; rfl
@[simp] theorem Block.storeReg_engine (w : Writer) (a v : Nat) (y0 : Nat) : (b.storeReg w a v).engine y0 = b.engine y0 := by rw [Block.storeReg_only]; rfl
@[simp] theorem Block.storeReg_frame (w : Writer) (a v : Nat) (y0 : Nat) : (b.storeReg w a v).frame y0 = b.frame y0 := by rw [Block.storeReg_only]; rfl
@[simp] theorem Block.storeReg_latched (w : Writer) (a v : Nat) (y0 z0 : Nat) : (b.storeReg w a v).latched y0 z0 = b.latched y0 z0 := by rw [Block.storeReg_only]; rfl
@[simp] theorem Block.storeReg_inst (w : Writer) (a v : Nat) (y0 : Nat) : (b.storeReg w a v).inst y0 = b.inst y0 := by rw [Block.storeReg_only]; rfl
@[simp] theorem Block.storeReg_txRing (w : Writer) (a v : Nat) (y0 : Nat) : (b.storeReg w a v).txRing y0 = b.txRing y0 := by rw [Block.storeReg_only]; rfl
@[simp] theorem Block.storeReg_rxRing (w : Writer) (a v : Nat) (y0 : Nat) : (b.storeReg w a v).rxRing y0 = b.rxRing y0 := by rw [Block.storeReg_only]; rfl
@[simp] theorem Block.storeReg_pool (w : Writer) (a v : Nat) (y0 z0 : Nat) : (b.storeReg w a v).pool y0 z0 = b.pool y0 z0 := by rw [Block.storeReg_only]; rfl
@[simp] theorem Block.storeReg_ring (w : Writer) (a v : Nat) (y0 : Nat) : (b.storeReg w a v).ring y0 = b.ring y0 := by rw [Block.storeReg_only]; rfl
@[simp] theorem Block.storeReg_link (w : Writer) (a v : Nat) (y0 z0 : Nat) : (b.storeReg w a v).link y0 z0 = b.link y0 z0 := by rw [Block.storeReg_only]; rfl
@[simp] theorem Block.storeReg_fifo (w : Writer) (a v : Nat) (y0 z0 : Nat) : (b.storeReg w a v).fifo y0 z0 = b.fifo y0 z0 := by rw [Block.storeReg_only]; rfl
@[simp] theorem Block.storeReg_frozen (w : Writer) (a v : Nat) (y0 : Nat) : (b.storeReg w a v).frozen y0 = b.frozen y0 := by rw [Block.storeReg_only]; rfl
@[simp] theorem Block.storeReg_stopped (w : Writer) (a v : Nat) (y0 : Nat) : (b.storeReg w a v).stopped y0 = b.stopped y0 := by rw [Block.storeReg_only]; rfl
@[simp] theorem Block.storeReg_ctx (w : Writer) (a v : Nat) (y0 z0 : Nat) : (b.storeReg w a v).ctx y0 z0 = b.ctx y0 z0 := by rw [Block.storeReg_only]; rfl
@[simp] theorem Block.storeReg_at_ (w : Writer) (a v : Nat) (y0 : Nat) (z0 : Loc) : (b.storeReg w a v).at_ y0 z0 = b.at_ y0 z0 := by rw [Block.storeReg_only]; rfl
@[simp] theorem Block.storeReg_stgFill (w : Writer) (a v : Nat) (y0 : Nat) : (b.storeReg w a v).stgFill y0 = b.stgFill y0 := by rw [Block.storeReg_only]; rfl
@[simp] theorem Block.storeReg_txAt (w : Writer) (a v : Nat) (y0 : Nat) (z0 : TxStage) : (b.storeReg w a v).txAt y0 z0 = b.txAt y0 z0 := by rw [Block.storeReg_only]; rfl

/-! ## msix -/

@[simp] theorem Block.msix_regs (i v : Nat) : (b.msix i v).regs = b.regs := by rw [Block.msix_only]
@[simp] theorem Block.msix_latch (i v : Nat) : (b.msix i v).latch = b.latch := by rw [Block.msix_only]
@[simp] theorem Block.msix_ticks (i v : Nat) : (b.msix i v).ticks = b.ticks := by rw [Block.msix_only]
@[simp] theorem Block.msix_refLost (i v : Nat) : (b.msix i v).refLost = b.refLost := by rw [Block.msix_only]
@[simp] theorem Block.msix_baseA (i v : Nat) : (b.msix i v).baseA = b.baseA := by rw [Block.msix_only]
@[simp] theorem Block.msix_baseB (i v : Nat) : (b.msix i v).baseB = b.baseB := by rw [Block.msix_only]
@[simp] theorem Block.msix_switchTick (i v : Nat) : (b.msix i v).switchTick = b.switchTick := by rw [Block.msix_only]
@[simp] theorem Block.msix_dies (i v : Nat) : (b.msix i v).dies = b.dies := by rw [Block.msix_only]
@[simp] theorem Block.msix_ports (i v : Nat) : (b.msix i v).ports = b.ports := by rw [Block.msix_only]
@[simp] theorem Block.msix_clusters (i v : Nat) : (b.msix i v).clusters = b.clusters := by rw [Block.msix_only]
@[simp] theorem Block.msix_regions (i v : Nat) : (b.msix i v).regions = b.regions := by rw [Block.msix_only]
@[simp] theorem Block.msix_engines (i v : Nat) : (b.msix i v).engines = b.engines := by rw [Block.msix_only]
@[simp] theorem Block.msix_rings (i v : Nat) : (b.msix i v).rings = b.rings := by rw [Block.msix_only]
@[simp] theorem Block.msix_fifos (i v : Nat) : (b.msix i v).fifos = b.fifos := by rw [Block.msix_only]
@[simp] theorem Block.msix_hostLinks (i v : Nat) : (b.msix i v).hostLinks = b.hostLinks := by rw [Block.msix_only]
@[simp] theorem Block.msix_links (i v : Nat) : (b.msix i v).links = b.links := by rw [Block.msix_only]
@[simp] theorem Block.msix_hbms (i v : Nat) : (b.msix i v).hbms = b.hbms := by rw [Block.msix_only]
@[simp] theorem Block.msix_slow (i v : Nat) : (b.msix i v).slow = b.slow := by rw [Block.msix_only]
@[simp] theorem Block.msix_txRings (i v : Nat) : (b.msix i v).txRings = b.txRings := by rw [Block.msix_only]
@[simp] theorem Block.msix_rxRings (i v : Nat) : (b.msix i v).rxRings = b.rxRings := by rw [Block.msix_only]
@[simp] theorem Block.msix_pools (i v : Nat) : (b.msix i v).pools = b.pools := by rw [Block.msix_only]
@[simp] theorem Block.msix_ringInts (i v : Nat) : (b.msix i v).ringInts = b.ringInts := by rw [Block.msix_only]
@[simp] theorem Block.msix_vfEnable (i v : Nat) : (b.msix i v).vfEnable = b.vfEnable := by rw [Block.msix_only]
@[simp] theorem Block.msix_numVfs (i v : Nat) : (b.msix i v).numVfs = b.numVfs := by rw [Block.msix_only]
@[simp] theorem Block.msix_txLast (i v : Nat) : (b.msix i v).txLast = b.txLast := by rw [Block.msix_only]
@[simp] theorem Block.msix_jobs (i v : Nat) : (b.msix i v).jobs = b.jobs := by rw [Block.msix_only]
@[simp] theorem Block.msix_dmaEng (i v : Nat) : (b.msix i v).dmaEng = b.dmaEng := by rw [Block.msix_only]
@[simp] theorem Block.msix_jobCount (i v : Nat) : (b.msix i v).jobCount = b.jobCount := by rw [Block.msix_only]
@[simp] theorem Block.msix_dmaLast (i v : Nat) : (b.msix i v).dmaLast = b.dmaLast := by rw [Block.msix_only]
@[simp] theorem Block.msix_frames (i v : Nat) : (b.msix i v).frames = b.frames := by rw [Block.msix_only]
@[simp] theorem Block.msix_nextFrame (i v : Nat) : (b.msix i v).nextFrame = b.nextFrame := by rw [Block.msix_only]
@[simp] theorem Block.msix_flt (i v : Nat) : (b.msix i v).flt = b.flt := by rw [Block.msix_only]
@[simp] theorem Block.msix_inflight (i v : Nat) : (b.msix i v).inflight = b.inflight := by rw [Block.msix_only]
@[simp] theorem Block.msix_lastMsg (i v : Nat) : (b.msix i v).lastMsg = b.lastMsg := by rw [Block.msix_only]
@[simp] theorem Block.msix_records (i v : Nat) : (b.msix i v).records = b.records := by rw [Block.msix_only]
@[simp] theorem Block.msix_locked (i v : Nat) : (b.msix i v).locked = b.locked := by rw [Block.msix_only]
@[simp] theorem Block.msix_pair (i v : Nat) : (b.msix i v).pair = b.pair := by rw [Block.msix_only]
@[simp] theorem Block.msix_chain (i v : Nat) : (b.msix i v).chain = b.chain := by rw [Block.msix_only]
@[simp] theorem Block.msix_boot (i v : Nat) : (b.msix i v).boot = b.boot := by rw [Block.msix_only]
@[simp] theorem Block.msix_pkgHold (i v : Nat) : (b.msix i v).pkgHold = b.pkgHold := by rw [Block.msix_only]
@[simp] theorem Block.msix_pinLow (i v : Nat) : (b.msix i v).pinLow = b.pinLow := by rw [Block.msix_only]
@[simp] theorem Block.msix_relPin (i v : Nat) : (b.msix i v).relPin = b.relPin := by rw [Block.msix_only]
@[simp] theorem Block.msix_strapPins (i v : Nat) : (b.msix i v).strapPins = b.strapPins := by rw [Block.msix_only]
@[simp] theorem Block.msix_fuses (i v : Nat) : (b.msix i v).fuses = b.fuses := by rw [Block.msix_only]
@[simp] theorem Block.msix_faultN (i v : Nat) : (b.msix i v).faultN = b.faultN := by rw [Block.msix_only]
@[simp] theorem Block.msix_snap (i v : Nat) : (b.msix i v).snap = b.snap := by rw [Block.msix_only]
@[simp] theorem Block.msix_pendSnap (i v : Nat) : (b.msix i v).pendSnap = b.pendSnap := by rw [Block.msix_only]
@[simp] theorem Block.msix_refusals (i v : Nat) : (b.msix i v).refusals = b.refusals := by rw [Block.msix_only]
@[simp] theorem Block.msix_fresh (i v : Nat) : (b.msix i v).fresh = b.fresh := by rw [Block.msix_only]
@[simp] theorem Block.msix_word (i v : Nat) (y0 : Nat) : (b.msix i v).word y0 = b.word y0 := by rw [Block.msix_only]; rfl
@[simp] theorem Block.msix_fld (i v : Nat) (y0 : Nat) (z0 : Bf) : (b.msix i v).fld y0 z0 = b.fld y0 z0 := by rw [Block.msix_only]; rfl
@[simp] theorem Block.msix_flag (i v : Nat) (y0 : Nat) (z0 : Bf) : (b.msix i v).flag y0 z0 = b.flag y0 z0 := by rw [Block.msix_only]; rfl
@[simp] theorem Block.msix_die (i v : Nat) (y0 : Nat) : (b.msix i v).die y0 = b.die y0 := by rw [Block.msix_only]; rfl
@[simp] theorem Block.msix_port (i v : Nat) (y0 : Nat) : (b.msix i v).port y0 = b.port y0 := by rw [Block.msix_only]; rfl
@[simp] theorem Block.msix_cluster (i v : Nat) (y0 : Nat) : (b.msix i v).cluster y0 = b.cluster y0 := by rw [Block.msix_only]; rfl
@[simp] theorem Block.msix_region (i v : Nat) (y0 : Nat) : (b.msix i v).region y0 = b.region y0 := by rw [Block.msix_only]; rfl
@[simp] theorem Block.msix_engine (i v : Nat) (y0 : Nat) : (b.msix i v).engine y0 = b.engine y0 := by rw [Block.msix_only]; rfl
@[simp] theorem Block.msix_frame (i v : Nat) (y0 : Nat) : (b.msix i v).frame y0 = b.frame y0 := by rw [Block.msix_only]; rfl
@[simp] theorem Block.msix_latched (i v : Nat) (y0 z0 : Nat) : (b.msix i v).latched y0 z0 = b.latched y0 z0 := by rw [Block.msix_only]; rfl
@[simp] theorem Block.msix_txRing (i v : Nat) (y0 : Nat) : (b.msix i v).txRing y0 = b.txRing y0 := by rw [Block.msix_only]; rfl
@[simp] theorem Block.msix_rxRing (i v : Nat) (y0 : Nat) : (b.msix i v).rxRing y0 = b.rxRing y0 := by rw [Block.msix_only]; rfl
@[simp] theorem Block.msix_pool (i v : Nat) (y0 z0 : Nat) : (b.msix i v).pool y0 z0 = b.pool y0 z0 := by rw [Block.msix_only]; rfl
@[simp] theorem Block.msix_ring (i v : Nat) (y0 : Nat) : (b.msix i v).ring y0 = b.ring y0 := by rw [Block.msix_only]; rfl
@[simp] theorem Block.msix_link (i v : Nat) (y0 z0 : Nat) : (b.msix i v).link y0 z0 = b.link y0 z0 := by rw [Block.msix_only]; rfl
@[simp] theorem Block.msix_fifo (i v : Nat) (y0 z0 : Nat) : (b.msix i v).fifo y0 z0 = b.fifo y0 z0 := by rw [Block.msix_only]; rfl
@[simp] theorem Block.msix_frozen (i v : Nat) (y0 : Nat) : (b.msix i v).frozen y0 = b.frozen y0 := by rw [Block.msix_only]; rfl
@[simp] theorem Block.msix_stopped (i v : Nat) (y0 : Nat) : (b.msix i v).stopped y0 = b.stopped y0 := by rw [Block.msix_only]; rfl
@[simp] theorem Block.msix_ctx (i v : Nat) (y0 z0 : Nat) : (b.msix i v).ctx y0 z0 = b.ctx y0 z0 := by rw [Block.msix_only]; rfl
@[simp] theorem Block.msix_at_ (i v : Nat) (y0 : Nat) (z0 : Loc) : (b.msix i v).at_ y0 z0 = b.at_ y0 z0 := by rw [Block.msix_only]; rfl
@[simp] theorem Block.msix_stgFill (i v : Nat) (y0 : Nat) : (b.msix i v).stgFill y0 = b.stgFill y0 := by rw [Block.msix_only]; rfl
@[simp] theorem Block.msix_txAt (i v : Nat) (y0 : Nat) (z0 : TxStage) : (b.msix i v).txAt y0 z0 = b.txAt y0 z0 := by rw [Block.msix_only]; rfl

/-! ## sendCause -/

@[simp] theorem Block.sendCause_regs (n : Nat) : (b.sendCause n).regs = b.regs := by rw [Block.sendCause_only]
@[simp] theorem Block.sendCause_latch (n : Nat) : (b.sendCause n).latch = b.latch := by rw [Block.sendCause_only]
@[simp] theorem Block.sendCause_ticks (n : Nat) : (b.sendCause n).ticks = b.ticks := by rw [Block.sendCause_only]
@[simp] theorem Block.sendCause_refLost (n : Nat) : (b.sendCause n).refLost = b.refLost := by rw [Block.sendCause_only]
@[simp] theorem Block.sendCause_baseA (n : Nat) : (b.sendCause n).baseA = b.baseA := by rw [Block.sendCause_only]
@[simp] theorem Block.sendCause_baseB (n : Nat) : (b.sendCause n).baseB = b.baseB := by rw [Block.sendCause_only]
@[simp] theorem Block.sendCause_switchTick (n : Nat) : (b.sendCause n).switchTick = b.switchTick := by rw [Block.sendCause_only]
@[simp] theorem Block.sendCause_dies (n : Nat) : (b.sendCause n).dies = b.dies := by rw [Block.sendCause_only]
@[simp] theorem Block.sendCause_ports (n : Nat) : (b.sendCause n).ports = b.ports := by rw [Block.sendCause_only]
@[simp] theorem Block.sendCause_clusters (n : Nat) : (b.sendCause n).clusters = b.clusters := by rw [Block.sendCause_only]
@[simp] theorem Block.sendCause_regions (n : Nat) : (b.sendCause n).regions = b.regions := by rw [Block.sendCause_only]
@[simp] theorem Block.sendCause_engines (n : Nat) : (b.sendCause n).engines = b.engines := by rw [Block.sendCause_only]
@[simp] theorem Block.sendCause_rings (n : Nat) : (b.sendCause n).rings = b.rings := by rw [Block.sendCause_only]
@[simp] theorem Block.sendCause_fifos (n : Nat) : (b.sendCause n).fifos = b.fifos := by rw [Block.sendCause_only]
@[simp] theorem Block.sendCause_hostLinks (n : Nat) : (b.sendCause n).hostLinks = b.hostLinks := by rw [Block.sendCause_only]
@[simp] theorem Block.sendCause_links (n : Nat) : (b.sendCause n).links = b.links := by rw [Block.sendCause_only]
@[simp] theorem Block.sendCause_hbms (n : Nat) : (b.sendCause n).hbms = b.hbms := by rw [Block.sendCause_only]
@[simp] theorem Block.sendCause_slow (n : Nat) : (b.sendCause n).slow = b.slow := by rw [Block.sendCause_only]
@[simp] theorem Block.sendCause_txRings (n : Nat) : (b.sendCause n).txRings = b.txRings := by rw [Block.sendCause_only]
@[simp] theorem Block.sendCause_rxRings (n : Nat) : (b.sendCause n).rxRings = b.rxRings := by rw [Block.sendCause_only]
@[simp] theorem Block.sendCause_pools (n : Nat) : (b.sendCause n).pools = b.pools := by rw [Block.sendCause_only]
@[simp] theorem Block.sendCause_ringInts (n : Nat) : (b.sendCause n).ringInts = b.ringInts := by rw [Block.sendCause_only]
@[simp] theorem Block.sendCause_vfEnable (n : Nat) : (b.sendCause n).vfEnable = b.vfEnable := by rw [Block.sendCause_only]
@[simp] theorem Block.sendCause_numVfs (n : Nat) : (b.sendCause n).numVfs = b.numVfs := by rw [Block.sendCause_only]
@[simp] theorem Block.sendCause_txLast (n : Nat) : (b.sendCause n).txLast = b.txLast := by rw [Block.sendCause_only]
@[simp] theorem Block.sendCause_jobs (n : Nat) : (b.sendCause n).jobs = b.jobs := by rw [Block.sendCause_only]
@[simp] theorem Block.sendCause_dmaEng (n : Nat) : (b.sendCause n).dmaEng = b.dmaEng := by rw [Block.sendCause_only]
@[simp] theorem Block.sendCause_jobCount (n : Nat) : (b.sendCause n).jobCount = b.jobCount := by rw [Block.sendCause_only]
@[simp] theorem Block.sendCause_dmaLast (n : Nat) : (b.sendCause n).dmaLast = b.dmaLast := by rw [Block.sendCause_only]
@[simp] theorem Block.sendCause_frames (n : Nat) : (b.sendCause n).frames = b.frames := by rw [Block.sendCause_only]
@[simp] theorem Block.sendCause_nextFrame (n : Nat) : (b.sendCause n).nextFrame = b.nextFrame := by rw [Block.sendCause_only]
@[simp] theorem Block.sendCause_flt (n : Nat) : (b.sendCause n).flt = b.flt := by rw [Block.sendCause_only]
@[simp] theorem Block.sendCause_inflight (n : Nat) : (b.sendCause n).inflight = b.inflight := by rw [Block.sendCause_only]
@[simp] theorem Block.sendCause_lastMsg (n : Nat) : (b.sendCause n).lastMsg = b.lastMsg := by rw [Block.sendCause_only]
@[simp] theorem Block.sendCause_records (n : Nat) : (b.sendCause n).records = b.records := by rw [Block.sendCause_only]
@[simp] theorem Block.sendCause_locked (n : Nat) : (b.sendCause n).locked = b.locked := by rw [Block.sendCause_only]
@[simp] theorem Block.sendCause_pair (n : Nat) : (b.sendCause n).pair = b.pair := by rw [Block.sendCause_only]
@[simp] theorem Block.sendCause_chain (n : Nat) : (b.sendCause n).chain = b.chain := by rw [Block.sendCause_only]
@[simp] theorem Block.sendCause_boot (n : Nat) : (b.sendCause n).boot = b.boot := by rw [Block.sendCause_only]
@[simp] theorem Block.sendCause_pkgHold (n : Nat) : (b.sendCause n).pkgHold = b.pkgHold := by rw [Block.sendCause_only]
@[simp] theorem Block.sendCause_pinLow (n : Nat) : (b.sendCause n).pinLow = b.pinLow := by rw [Block.sendCause_only]
@[simp] theorem Block.sendCause_relPin (n : Nat) : (b.sendCause n).relPin = b.relPin := by rw [Block.sendCause_only]
@[simp] theorem Block.sendCause_strapPins (n : Nat) : (b.sendCause n).strapPins = b.strapPins := by rw [Block.sendCause_only]
@[simp] theorem Block.sendCause_fuses (n : Nat) : (b.sendCause n).fuses = b.fuses := by rw [Block.sendCause_only]
@[simp] theorem Block.sendCause_faultN (n : Nat) : (b.sendCause n).faultN = b.faultN := by rw [Block.sendCause_only]
@[simp] theorem Block.sendCause_snap (n : Nat) : (b.sendCause n).snap = b.snap := by rw [Block.sendCause_only]
@[simp] theorem Block.sendCause_pendSnap (n : Nat) : (b.sendCause n).pendSnap = b.pendSnap := by rw [Block.sendCause_only]
@[simp] theorem Block.sendCause_refusals (n : Nat) : (b.sendCause n).refusals = b.refusals := by rw [Block.sendCause_only]
@[simp] theorem Block.sendCause_fresh (n : Nat) : (b.sendCause n).fresh = b.fresh := by rw [Block.sendCause_only]
@[simp] theorem Block.sendCause_word (n : Nat) (y0 : Nat) : (b.sendCause n).word y0 = b.word y0 := by rw [Block.sendCause_only]; rfl
@[simp] theorem Block.sendCause_fld (n : Nat) (y0 : Nat) (z0 : Bf) : (b.sendCause n).fld y0 z0 = b.fld y0 z0 := by rw [Block.sendCause_only]; rfl
@[simp] theorem Block.sendCause_flag (n : Nat) (y0 : Nat) (z0 : Bf) : (b.sendCause n).flag y0 z0 = b.flag y0 z0 := by rw [Block.sendCause_only]; rfl
@[simp] theorem Block.sendCause_die (n : Nat) (y0 : Nat) : (b.sendCause n).die y0 = b.die y0 := by rw [Block.sendCause_only]; rfl
@[simp] theorem Block.sendCause_port (n : Nat) (y0 : Nat) : (b.sendCause n).port y0 = b.port y0 := by rw [Block.sendCause_only]; rfl
@[simp] theorem Block.sendCause_cluster (n : Nat) (y0 : Nat) : (b.sendCause n).cluster y0 = b.cluster y0 := by rw [Block.sendCause_only]; rfl
@[simp] theorem Block.sendCause_region (n : Nat) (y0 : Nat) : (b.sendCause n).region y0 = b.region y0 := by rw [Block.sendCause_only]; rfl
@[simp] theorem Block.sendCause_engine (n : Nat) (y0 : Nat) : (b.sendCause n).engine y0 = b.engine y0 := by rw [Block.sendCause_only]; rfl
@[simp] theorem Block.sendCause_frame (n : Nat) (y0 : Nat) : (b.sendCause n).frame y0 = b.frame y0 := by rw [Block.sendCause_only]; rfl
@[simp] theorem Block.sendCause_latched (n : Nat) (y0 z0 : Nat) : (b.sendCause n).latched y0 z0 = b.latched y0 z0 := by rw [Block.sendCause_only]; rfl
@[simp] theorem Block.sendCause_txRing (n : Nat) (y0 : Nat) : (b.sendCause n).txRing y0 = b.txRing y0 := by rw [Block.sendCause_only]; rfl
@[simp] theorem Block.sendCause_rxRing (n : Nat) (y0 : Nat) : (b.sendCause n).rxRing y0 = b.rxRing y0 := by rw [Block.sendCause_only]; rfl
@[simp] theorem Block.sendCause_pool (n : Nat) (y0 z0 : Nat) : (b.sendCause n).pool y0 z0 = b.pool y0 z0 := by rw [Block.sendCause_only]; rfl
@[simp] theorem Block.sendCause_ring (n : Nat) (y0 : Nat) : (b.sendCause n).ring y0 = b.ring y0 := by rw [Block.sendCause_only]; rfl
@[simp] theorem Block.sendCause_link (n : Nat) (y0 z0 : Nat) : (b.sendCause n).link y0 z0 = b.link y0 z0 := by rw [Block.sendCause_only]; rfl
@[simp] theorem Block.sendCause_fifo (n : Nat) (y0 z0 : Nat) : (b.sendCause n).fifo y0 z0 = b.fifo y0 z0 := by rw [Block.sendCause_only]; rfl
@[simp] theorem Block.sendCause_frozen (n : Nat) (y0 : Nat) : (b.sendCause n).frozen y0 = b.frozen y0 := by rw [Block.sendCause_only]; rfl
@[simp] theorem Block.sendCause_stopped (n : Nat) (y0 : Nat) : (b.sendCause n).stopped y0 = b.stopped y0 := by rw [Block.sendCause_only]; rfl
@[simp] theorem Block.sendCause_ctx (n : Nat) (y0 z0 : Nat) : (b.sendCause n).ctx y0 z0 = b.ctx y0 z0 := by rw [Block.sendCause_only]; rfl
@[simp] theorem Block.sendCause_at_ (n : Nat) (y0 : Nat) (z0 : Loc) : (b.sendCause n).at_ y0 z0 = b.at_ y0 z0 := by rw [Block.sendCause_only]; rfl
@[simp] theorem Block.sendCause_stgFill (n : Nat) (y0 : Nat) : (b.sendCause n).stgFill y0 = b.stgFill y0 := by rw [Block.sendCause_only]; rfl
@[simp] theorem Block.sendCause_txAt (n : Nat) (y0 : Nat) (z0 : TxStage) : (b.sendCause n).txAt y0 z0 = b.txAt y0 z0 := by rw [Block.sendCause_only]; rfl

/-! ## shaix -/

@[simp] theorem Block.shaix_regs (t : Nat) (l : List Byte) : (b.shaix t l).regs = b.regs := by rw [Block.shaix_only]
@[simp] theorem Block.shaix_latch (t : Nat) (l : List Byte) : (b.shaix t l).latch = b.latch := by rw [Block.shaix_only]
@[simp] theorem Block.shaix_ticks (t : Nat) (l : List Byte) : (b.shaix t l).ticks = b.ticks := by rw [Block.shaix_only]
@[simp] theorem Block.shaix_refLost (t : Nat) (l : List Byte) : (b.shaix t l).refLost = b.refLost := by rw [Block.shaix_only]
@[simp] theorem Block.shaix_baseA (t : Nat) (l : List Byte) : (b.shaix t l).baseA = b.baseA := by rw [Block.shaix_only]
@[simp] theorem Block.shaix_baseB (t : Nat) (l : List Byte) : (b.shaix t l).baseB = b.baseB := by rw [Block.shaix_only]
@[simp] theorem Block.shaix_switchTick (t : Nat) (l : List Byte) : (b.shaix t l).switchTick = b.switchTick := by rw [Block.shaix_only]
@[simp] theorem Block.shaix_dies (t : Nat) (l : List Byte) : (b.shaix t l).dies = b.dies := by rw [Block.shaix_only]
@[simp] theorem Block.shaix_ports (t : Nat) (l : List Byte) : (b.shaix t l).ports = b.ports := by rw [Block.shaix_only]
@[simp] theorem Block.shaix_clusters (t : Nat) (l : List Byte) : (b.shaix t l).clusters = b.clusters := by rw [Block.shaix_only]
@[simp] theorem Block.shaix_regions (t : Nat) (l : List Byte) : (b.shaix t l).regions = b.regions := by rw [Block.shaix_only]
@[simp] theorem Block.shaix_engines (t : Nat) (l : List Byte) : (b.shaix t l).engines = b.engines := by rw [Block.shaix_only]
@[simp] theorem Block.shaix_rings (t : Nat) (l : List Byte) : (b.shaix t l).rings = b.rings := by rw [Block.shaix_only]
@[simp] theorem Block.shaix_fifos (t : Nat) (l : List Byte) : (b.shaix t l).fifos = b.fifos := by rw [Block.shaix_only]
@[simp] theorem Block.shaix_hostLinks (t : Nat) (l : List Byte) : (b.shaix t l).hostLinks = b.hostLinks := by rw [Block.shaix_only]
@[simp] theorem Block.shaix_links (t : Nat) (l : List Byte) : (b.shaix t l).links = b.links := by rw [Block.shaix_only]
@[simp] theorem Block.shaix_hbms (t : Nat) (l : List Byte) : (b.shaix t l).hbms = b.hbms := by rw [Block.shaix_only]
@[simp] theorem Block.shaix_slow (t : Nat) (l : List Byte) : (b.shaix t l).slow = b.slow := by rw [Block.shaix_only]
@[simp] theorem Block.shaix_txRings (t : Nat) (l : List Byte) : (b.shaix t l).txRings = b.txRings := by rw [Block.shaix_only]
@[simp] theorem Block.shaix_rxRings (t : Nat) (l : List Byte) : (b.shaix t l).rxRings = b.rxRings := by rw [Block.shaix_only]
@[simp] theorem Block.shaix_pools (t : Nat) (l : List Byte) : (b.shaix t l).pools = b.pools := by rw [Block.shaix_only]
@[simp] theorem Block.shaix_ringInts (t : Nat) (l : List Byte) : (b.shaix t l).ringInts = b.ringInts := by rw [Block.shaix_only]
@[simp] theorem Block.shaix_insts (t : Nat) (l : List Byte) : (b.shaix t l).insts = b.insts := by rw [Block.shaix_only]
@[simp] theorem Block.shaix_vfEnable (t : Nat) (l : List Byte) : (b.shaix t l).vfEnable = b.vfEnable := by rw [Block.shaix_only]
@[simp] theorem Block.shaix_numVfs (t : Nat) (l : List Byte) : (b.shaix t l).numVfs = b.numVfs := by rw [Block.shaix_only]
@[simp] theorem Block.shaix_txLast (t : Nat) (l : List Byte) : (b.shaix t l).txLast = b.txLast := by rw [Block.shaix_only]
@[simp] theorem Block.shaix_jobs (t : Nat) (l : List Byte) : (b.shaix t l).jobs = b.jobs := by rw [Block.shaix_only]
@[simp] theorem Block.shaix_dmaEng (t : Nat) (l : List Byte) : (b.shaix t l).dmaEng = b.dmaEng := by rw [Block.shaix_only]
@[simp] theorem Block.shaix_jobCount (t : Nat) (l : List Byte) : (b.shaix t l).jobCount = b.jobCount := by rw [Block.shaix_only]
@[simp] theorem Block.shaix_dmaLast (t : Nat) (l : List Byte) : (b.shaix t l).dmaLast = b.dmaLast := by rw [Block.shaix_only]
@[simp] theorem Block.shaix_frames (t : Nat) (l : List Byte) : (b.shaix t l).frames = b.frames := by rw [Block.shaix_only]
@[simp] theorem Block.shaix_nextFrame (t : Nat) (l : List Byte) : (b.shaix t l).nextFrame = b.nextFrame := by rw [Block.shaix_only]
@[simp] theorem Block.shaix_flt (t : Nat) (l : List Byte) : (b.shaix t l).flt = b.flt := by rw [Block.shaix_only]
@[simp] theorem Block.shaix_inflight (t : Nat) (l : List Byte) : (b.shaix t l).inflight = b.inflight := by rw [Block.shaix_only]
@[simp] theorem Block.shaix_lastMsg (t : Nat) (l : List Byte) : (b.shaix t l).lastMsg = b.lastMsg := by rw [Block.shaix_only]
@[simp] theorem Block.shaix_records (t : Nat) (l : List Byte) : (b.shaix t l).records = b.records := by rw [Block.shaix_only]
@[simp] theorem Block.shaix_locked (t : Nat) (l : List Byte) : (b.shaix t l).locked = b.locked := by rw [Block.shaix_only]
@[simp] theorem Block.shaix_pair (t : Nat) (l : List Byte) : (b.shaix t l).pair = b.pair := by rw [Block.shaix_only]
@[simp] theorem Block.shaix_chain (t : Nat) (l : List Byte) : (b.shaix t l).chain = b.chain := by rw [Block.shaix_only]
@[simp] theorem Block.shaix_boot (t : Nat) (l : List Byte) : (b.shaix t l).boot = b.boot := by rw [Block.shaix_only]
@[simp] theorem Block.shaix_pkgHold (t : Nat) (l : List Byte) : (b.shaix t l).pkgHold = b.pkgHold := by rw [Block.shaix_only]
@[simp] theorem Block.shaix_pinLow (t : Nat) (l : List Byte) : (b.shaix t l).pinLow = b.pinLow := by rw [Block.shaix_only]
@[simp] theorem Block.shaix_relPin (t : Nat) (l : List Byte) : (b.shaix t l).relPin = b.relPin := by rw [Block.shaix_only]
@[simp] theorem Block.shaix_strapPins (t : Nat) (l : List Byte) : (b.shaix t l).strapPins = b.strapPins := by rw [Block.shaix_only]
@[simp] theorem Block.shaix_fuses (t : Nat) (l : List Byte) : (b.shaix t l).fuses = b.fuses := by rw [Block.shaix_only]
@[simp] theorem Block.shaix_faultN (t : Nat) (l : List Byte) : (b.shaix t l).faultN = b.faultN := by rw [Block.shaix_only]
@[simp] theorem Block.shaix_snap (t : Nat) (l : List Byte) : (b.shaix t l).snap = b.snap := by rw [Block.shaix_only]
@[simp] theorem Block.shaix_pendSnap (t : Nat) (l : List Byte) : (b.shaix t l).pendSnap = b.pendSnap := by rw [Block.shaix_only]
@[simp] theorem Block.shaix_refusals (t : Nat) (l : List Byte) : (b.shaix t l).refusals = b.refusals := by rw [Block.shaix_only]
@[simp] theorem Block.shaix_fresh (t : Nat) (l : List Byte) : (b.shaix t l).fresh = b.fresh := by rw [Block.shaix_only]
@[simp] theorem Block.shaix_word (t : Nat) (l : List Byte) (y0 : Nat) : (b.shaix t l).word y0 = b.word y0 := by rw [Block.shaix_only]; rfl
@[simp] theorem Block.shaix_fld (t : Nat) (l : List Byte) (y0 : Nat) (z0 : Bf) : (b.shaix t l).fld y0 z0 = b.fld y0 z0 := by rw [Block.shaix_only]; rfl
@[simp] theorem Block.shaix_flag (t : Nat) (l : List Byte) (y0 : Nat) (z0 : Bf) : (b.shaix t l).flag y0 z0 = b.flag y0 z0 := by rw [Block.shaix_only]; rfl
@[simp] theorem Block.shaix_die (t : Nat) (l : List Byte) (y0 : Nat) : (b.shaix t l).die y0 = b.die y0 := by rw [Block.shaix_only]; rfl
@[simp] theorem Block.shaix_port (t : Nat) (l : List Byte) (y0 : Nat) : (b.shaix t l).port y0 = b.port y0 := by rw [Block.shaix_only]; rfl
@[simp] theorem Block.shaix_cluster (t : Nat) (l : List Byte) (y0 : Nat) : (b.shaix t l).cluster y0 = b.cluster y0 := by rw [Block.shaix_only]; rfl
@[simp] theorem Block.shaix_region (t : Nat) (l : List Byte) (y0 : Nat) : (b.shaix t l).region y0 = b.region y0 := by rw [Block.shaix_only]; rfl
@[simp] theorem Block.shaix_engine (t : Nat) (l : List Byte) (y0 : Nat) : (b.shaix t l).engine y0 = b.engine y0 := by rw [Block.shaix_only]; rfl
@[simp] theorem Block.shaix_frame (t : Nat) (l : List Byte) (y0 : Nat) : (b.shaix t l).frame y0 = b.frame y0 := by rw [Block.shaix_only]; rfl
@[simp] theorem Block.shaix_latched (t : Nat) (l : List Byte) (y0 z0 : Nat) : (b.shaix t l).latched y0 z0 = b.latched y0 z0 := by rw [Block.shaix_only]; rfl
@[simp] theorem Block.shaix_inst (t : Nat) (l : List Byte) (y0 : Nat) : (b.shaix t l).inst y0 = b.inst y0 := by rw [Block.shaix_only]; rfl
@[simp] theorem Block.shaix_txRing (t : Nat) (l : List Byte) (y0 : Nat) : (b.shaix t l).txRing y0 = b.txRing y0 := by rw [Block.shaix_only]; rfl
@[simp] theorem Block.shaix_rxRing (t : Nat) (l : List Byte) (y0 : Nat) : (b.shaix t l).rxRing y0 = b.rxRing y0 := by rw [Block.shaix_only]; rfl
@[simp] theorem Block.shaix_pool (t : Nat) (l : List Byte) (y0 z0 : Nat) : (b.shaix t l).pool y0 z0 = b.pool y0 z0 := by rw [Block.shaix_only]; rfl
@[simp] theorem Block.shaix_ring (t : Nat) (l : List Byte) (y0 : Nat) : (b.shaix t l).ring y0 = b.ring y0 := by rw [Block.shaix_only]; rfl
@[simp] theorem Block.shaix_link (t : Nat) (l : List Byte) (y0 z0 : Nat) : (b.shaix t l).link y0 z0 = b.link y0 z0 := by rw [Block.shaix_only]; rfl
@[simp] theorem Block.shaix_fifo (t : Nat) (l : List Byte) (y0 z0 : Nat) : (b.shaix t l).fifo y0 z0 = b.fifo y0 z0 := by rw [Block.shaix_only]; rfl
@[simp] theorem Block.shaix_frozen (t : Nat) (l : List Byte) (y0 : Nat) : (b.shaix t l).frozen y0 = b.frozen y0 := by rw [Block.shaix_only]; rfl
@[simp] theorem Block.shaix_stopped (t : Nat) (l : List Byte) (y0 : Nat) : (b.shaix t l).stopped y0 = b.stopped y0 := by rw [Block.shaix_only]; rfl
@[simp] theorem Block.shaix_ctx (t : Nat) (l : List Byte) (y0 z0 : Nat) : (b.shaix t l).ctx y0 z0 = b.ctx y0 z0 := by rw [Block.shaix_only]; rfl
@[simp] theorem Block.shaix_at_ (t : Nat) (l : List Byte) (y0 : Nat) (z0 : Loc) : (b.shaix t l).at_ y0 z0 = b.at_ y0 z0 := by rw [Block.shaix_only]; rfl
@[simp] theorem Block.shaix_stgFill (t : Nat) (l : List Byte) (y0 : Nat) : (b.shaix t l).stgFill y0 = b.stgFill y0 := by rw [Block.shaix_only]; rfl
@[simp] theorem Block.shaix_txAt (t : Nat) (l : List Byte) (y0 : Nat) (z0 : TxStage) : (b.shaix t l).txAt y0 z0 = b.txAt y0 z0 := by rw [Block.shaix_only]; rfl

/-! ## nvmDrive -/

@[simp] theorem Block.nvmDrive_regs (o : Bool) : (b.nvmDrive o).regs = b.regs := by rw [Block.nvmDrive_only]
@[simp] theorem Block.nvmDrive_ctrs (o : Bool) : (b.nvmDrive o).ctrs = b.ctrs := by rw [Block.nvmDrive_only]
@[simp] theorem Block.nvmDrive_latch (o : Bool) : (b.nvmDrive o).latch = b.latch := by rw [Block.nvmDrive_only]
@[simp] theorem Block.nvmDrive_ticks (o : Bool) : (b.nvmDrive o).ticks = b.ticks := by rw [Block.nvmDrive_only]
@[simp] theorem Block.nvmDrive_refLost (o : Bool) : (b.nvmDrive o).refLost = b.refLost := by rw [Block.nvmDrive_only]
@[simp] theorem Block.nvmDrive_baseA (o : Bool) : (b.nvmDrive o).baseA = b.baseA := by rw [Block.nvmDrive_only]
@[simp] theorem Block.nvmDrive_baseB (o : Bool) : (b.nvmDrive o).baseB = b.baseB := by rw [Block.nvmDrive_only]
@[simp] theorem Block.nvmDrive_switchTick (o : Bool) : (b.nvmDrive o).switchTick = b.switchTick := by rw [Block.nvmDrive_only]
@[simp] theorem Block.nvmDrive_dies (o : Bool) : (b.nvmDrive o).dies = b.dies := by rw [Block.nvmDrive_only]
@[simp] theorem Block.nvmDrive_ports (o : Bool) : (b.nvmDrive o).ports = b.ports := by rw [Block.nvmDrive_only]
@[simp] theorem Block.nvmDrive_clusters (o : Bool) : (b.nvmDrive o).clusters = b.clusters := by rw [Block.nvmDrive_only]
@[simp] theorem Block.nvmDrive_regions (o : Bool) : (b.nvmDrive o).regions = b.regions := by rw [Block.nvmDrive_only]
@[simp] theorem Block.nvmDrive_engines (o : Bool) : (b.nvmDrive o).engines = b.engines := by rw [Block.nvmDrive_only]
@[simp] theorem Block.nvmDrive_rings (o : Bool) : (b.nvmDrive o).rings = b.rings := by rw [Block.nvmDrive_only]
@[simp] theorem Block.nvmDrive_fifos (o : Bool) : (b.nvmDrive o).fifos = b.fifos := by rw [Block.nvmDrive_only]
@[simp] theorem Block.nvmDrive_hostLinks (o : Bool) : (b.nvmDrive o).hostLinks = b.hostLinks := by rw [Block.nvmDrive_only]
@[simp] theorem Block.nvmDrive_links (o : Bool) : (b.nvmDrive o).links = b.links := by rw [Block.nvmDrive_only]
@[simp] theorem Block.nvmDrive_hbms (o : Bool) : (b.nvmDrive o).hbms = b.hbms := by rw [Block.nvmDrive_only]
@[simp] theorem Block.nvmDrive_slow (o : Bool) : (b.nvmDrive o).slow = b.slow := by rw [Block.nvmDrive_only]
@[simp] theorem Block.nvmDrive_txRings (o : Bool) : (b.nvmDrive o).txRings = b.txRings := by rw [Block.nvmDrive_only]
@[simp] theorem Block.nvmDrive_rxRings (o : Bool) : (b.nvmDrive o).rxRings = b.rxRings := by rw [Block.nvmDrive_only]
@[simp] theorem Block.nvmDrive_pools (o : Bool) : (b.nvmDrive o).pools = b.pools := by rw [Block.nvmDrive_only]
@[simp] theorem Block.nvmDrive_ringInts (o : Bool) : (b.nvmDrive o).ringInts = b.ringInts := by rw [Block.nvmDrive_only]
@[simp] theorem Block.nvmDrive_insts (o : Bool) : (b.nvmDrive o).insts = b.insts := by rw [Block.nvmDrive_only]
@[simp] theorem Block.nvmDrive_vfEnable (o : Bool) : (b.nvmDrive o).vfEnable = b.vfEnable := by rw [Block.nvmDrive_only]
@[simp] theorem Block.nvmDrive_numVfs (o : Bool) : (b.nvmDrive o).numVfs = b.numVfs := by rw [Block.nvmDrive_only]
@[simp] theorem Block.nvmDrive_txLast (o : Bool) : (b.nvmDrive o).txLast = b.txLast := by rw [Block.nvmDrive_only]
@[simp] theorem Block.nvmDrive_jobs (o : Bool) : (b.nvmDrive o).jobs = b.jobs := by rw [Block.nvmDrive_only]
@[simp] theorem Block.nvmDrive_dmaEng (o : Bool) : (b.nvmDrive o).dmaEng = b.dmaEng := by rw [Block.nvmDrive_only]
@[simp] theorem Block.nvmDrive_jobCount (o : Bool) : (b.nvmDrive o).jobCount = b.jobCount := by rw [Block.nvmDrive_only]
@[simp] theorem Block.nvmDrive_dmaLast (o : Bool) : (b.nvmDrive o).dmaLast = b.dmaLast := by rw [Block.nvmDrive_only]
@[simp] theorem Block.nvmDrive_frames (o : Bool) : (b.nvmDrive o).frames = b.frames := by rw [Block.nvmDrive_only]
@[simp] theorem Block.nvmDrive_nextFrame (o : Bool) : (b.nvmDrive o).nextFrame = b.nextFrame := by rw [Block.nvmDrive_only]
@[simp] theorem Block.nvmDrive_flt (o : Bool) : (b.nvmDrive o).flt = b.flt := by rw [Block.nvmDrive_only]
@[simp] theorem Block.nvmDrive_inflight (o : Bool) : (b.nvmDrive o).inflight = b.inflight := by rw [Block.nvmDrive_only]
@[simp] theorem Block.nvmDrive_lastMsg (o : Bool) : (b.nvmDrive o).lastMsg = b.lastMsg := by rw [Block.nvmDrive_only]
@[simp] theorem Block.nvmDrive_records (o : Bool) : (b.nvmDrive o).records = b.records := by rw [Block.nvmDrive_only]
@[simp] theorem Block.nvmDrive_locked (o : Bool) : (b.nvmDrive o).locked = b.locked := by rw [Block.nvmDrive_only]
@[simp] theorem Block.nvmDrive_pair (o : Bool) : (b.nvmDrive o).pair = b.pair := by rw [Block.nvmDrive_only]
@[simp] theorem Block.nvmDrive_chain (o : Bool) : (b.nvmDrive o).chain = b.chain := by rw [Block.nvmDrive_only]
@[simp] theorem Block.nvmDrive_pkgHold (o : Bool) : (b.nvmDrive o).pkgHold = b.pkgHold := by rw [Block.nvmDrive_only]
@[simp] theorem Block.nvmDrive_pinLow (o : Bool) : (b.nvmDrive o).pinLow = b.pinLow := by rw [Block.nvmDrive_only]
@[simp] theorem Block.nvmDrive_relPin (o : Bool) : (b.nvmDrive o).relPin = b.relPin := by rw [Block.nvmDrive_only]
@[simp] theorem Block.nvmDrive_strapPins (o : Bool) : (b.nvmDrive o).strapPins = b.strapPins := by rw [Block.nvmDrive_only]
@[simp] theorem Block.nvmDrive_fuses (o : Bool) : (b.nvmDrive o).fuses = b.fuses := by rw [Block.nvmDrive_only]
@[simp] theorem Block.nvmDrive_faultN (o : Bool) : (b.nvmDrive o).faultN = b.faultN := by rw [Block.nvmDrive_only]
@[simp] theorem Block.nvmDrive_snap (o : Bool) : (b.nvmDrive o).snap = b.snap := by rw [Block.nvmDrive_only]
@[simp] theorem Block.nvmDrive_pendSnap (o : Bool) : (b.nvmDrive o).pendSnap = b.pendSnap := by rw [Block.nvmDrive_only]
@[simp] theorem Block.nvmDrive_refusals (o : Bool) : (b.nvmDrive o).refusals = b.refusals := by rw [Block.nvmDrive_only]
@[simp] theorem Block.nvmDrive_fresh (o : Bool) : (b.nvmDrive o).fresh = b.fresh := by rw [Block.nvmDrive_only]
@[simp] theorem Block.nvmDrive_word (o : Bool) (y0 : Nat) : (b.nvmDrive o).word y0 = b.word y0 := by rw [Block.nvmDrive_only]; rfl
@[simp] theorem Block.nvmDrive_fld (o : Bool) (y0 : Nat) (z0 : Bf) : (b.nvmDrive o).fld y0 z0 = b.fld y0 z0 := by rw [Block.nvmDrive_only]; rfl
@[simp] theorem Block.nvmDrive_flag (o : Bool) (y0 : Nat) (z0 : Bf) : (b.nvmDrive o).flag y0 z0 = b.flag y0 z0 := by rw [Block.nvmDrive_only]; rfl
@[simp] theorem Block.nvmDrive_ctr (o : Bool) (y0 : Nat) : (b.nvmDrive o).ctr y0 = b.ctr y0 := by rw [Block.nvmDrive_only]; rfl
@[simp] theorem Block.nvmDrive_die (o : Bool) (y0 : Nat) : (b.nvmDrive o).die y0 = b.die y0 := by rw [Block.nvmDrive_only]; rfl
@[simp] theorem Block.nvmDrive_port (o : Bool) (y0 : Nat) : (b.nvmDrive o).port y0 = b.port y0 := by rw [Block.nvmDrive_only]; rfl
@[simp] theorem Block.nvmDrive_cluster (o : Bool) (y0 : Nat) : (b.nvmDrive o).cluster y0 = b.cluster y0 := by rw [Block.nvmDrive_only]; rfl
@[simp] theorem Block.nvmDrive_region (o : Bool) (y0 : Nat) : (b.nvmDrive o).region y0 = b.region y0 := by rw [Block.nvmDrive_only]; rfl
@[simp] theorem Block.nvmDrive_engine (o : Bool) (y0 : Nat) : (b.nvmDrive o).engine y0 = b.engine y0 := by rw [Block.nvmDrive_only]; rfl
@[simp] theorem Block.nvmDrive_frame (o : Bool) (y0 : Nat) : (b.nvmDrive o).frame y0 = b.frame y0 := by rw [Block.nvmDrive_only]; rfl
@[simp] theorem Block.nvmDrive_latched (o : Bool) (y0 z0 : Nat) : (b.nvmDrive o).latched y0 z0 = b.latched y0 z0 := by rw [Block.nvmDrive_only]; rfl
@[simp] theorem Block.nvmDrive_inst (o : Bool) (y0 : Nat) : (b.nvmDrive o).inst y0 = b.inst y0 := by rw [Block.nvmDrive_only]; rfl
@[simp] theorem Block.nvmDrive_txRing (o : Bool) (y0 : Nat) : (b.nvmDrive o).txRing y0 = b.txRing y0 := by rw [Block.nvmDrive_only]; rfl
@[simp] theorem Block.nvmDrive_rxRing (o : Bool) (y0 : Nat) : (b.nvmDrive o).rxRing y0 = b.rxRing y0 := by rw [Block.nvmDrive_only]; rfl
@[simp] theorem Block.nvmDrive_pool (o : Bool) (y0 z0 : Nat) : (b.nvmDrive o).pool y0 z0 = b.pool y0 z0 := by rw [Block.nvmDrive_only]; rfl
@[simp] theorem Block.nvmDrive_ring (o : Bool) (y0 : Nat) : (b.nvmDrive o).ring y0 = b.ring y0 := by rw [Block.nvmDrive_only]; rfl
@[simp] theorem Block.nvmDrive_link (o : Bool) (y0 z0 : Nat) : (b.nvmDrive o).link y0 z0 = b.link y0 z0 := by rw [Block.nvmDrive_only]; rfl
@[simp] theorem Block.nvmDrive_fifo (o : Bool) (y0 z0 : Nat) : (b.nvmDrive o).fifo y0 z0 = b.fifo y0 z0 := by rw [Block.nvmDrive_only]; rfl
@[simp] theorem Block.nvmDrive_frozen (o : Bool) (y0 : Nat) : (b.nvmDrive o).frozen y0 = b.frozen y0 := by rw [Block.nvmDrive_only]; rfl
@[simp] theorem Block.nvmDrive_stopped (o : Bool) (y0 : Nat) : (b.nvmDrive o).stopped y0 = b.stopped y0 := by rw [Block.nvmDrive_only]; rfl
@[simp] theorem Block.nvmDrive_ctx (o : Bool) (y0 z0 : Nat) : (b.nvmDrive o).ctx y0 z0 = b.ctx y0 z0 := by rw [Block.nvmDrive_only]; rfl
@[simp] theorem Block.nvmDrive_at_ (o : Bool) (y0 : Nat) (z0 : Loc) : (b.nvmDrive o).at_ y0 z0 = b.at_ y0 z0 := by rw [Block.nvmDrive_only]; rfl
@[simp] theorem Block.nvmDrive_stgFill (o : Bool) (y0 : Nat) : (b.nvmDrive o).stgFill y0 = b.stgFill y0 := by rw [Block.nvmDrive_only]; rfl
@[simp] theorem Block.nvmDrive_txAt (o : Bool) (y0 : Nat) (z0 : TxStage) : (b.nvmDrive o).txAt y0 z0 = b.txAt y0 z0 := by rw [Block.nvmDrive_only]; rfl

/-! ## bootMove -/

@[simp] theorem Block.bootMove_ctrs : b.bootMove.ctrs = b.ctrs := by rw [Block.bootMove_only]
@[simp] theorem Block.bootMove_latch : b.bootMove.latch = b.latch := by rw [Block.bootMove_only]
@[simp] theorem Block.bootMove_ticks : b.bootMove.ticks = b.ticks := by rw [Block.bootMove_only]
@[simp] theorem Block.bootMove_refLost : b.bootMove.refLost = b.refLost := by rw [Block.bootMove_only]
@[simp] theorem Block.bootMove_baseA : b.bootMove.baseA = b.baseA := by rw [Block.bootMove_only]
@[simp] theorem Block.bootMove_baseB : b.bootMove.baseB = b.baseB := by rw [Block.bootMove_only]
@[simp] theorem Block.bootMove_switchTick : b.bootMove.switchTick = b.switchTick := by rw [Block.bootMove_only]
@[simp] theorem Block.bootMove_dies : b.bootMove.dies = b.dies := by rw [Block.bootMove_only]
@[simp] theorem Block.bootMove_ports : b.bootMove.ports = b.ports := by rw [Block.bootMove_only]
@[simp] theorem Block.bootMove_clusters : b.bootMove.clusters = b.clusters := by rw [Block.bootMove_only]
@[simp] theorem Block.bootMove_regions : b.bootMove.regions = b.regions := by rw [Block.bootMove_only]
@[simp] theorem Block.bootMove_engines : b.bootMove.engines = b.engines := by rw [Block.bootMove_only]
@[simp] theorem Block.bootMove_rings : b.bootMove.rings = b.rings := by rw [Block.bootMove_only]
@[simp] theorem Block.bootMove_fifos : b.bootMove.fifos = b.fifos := by rw [Block.bootMove_only]
@[simp] theorem Block.bootMove_hostLinks : b.bootMove.hostLinks = b.hostLinks := by rw [Block.bootMove_only]
@[simp] theorem Block.bootMove_links : b.bootMove.links = b.links := by rw [Block.bootMove_only]
@[simp] theorem Block.bootMove_hbms : b.bootMove.hbms = b.hbms := by rw [Block.bootMove_only]
@[simp] theorem Block.bootMove_slow : b.bootMove.slow = b.slow := by rw [Block.bootMove_only]
@[simp] theorem Block.bootMove_txRings : b.bootMove.txRings = b.txRings := by rw [Block.bootMove_only]
@[simp] theorem Block.bootMove_rxRings : b.bootMove.rxRings = b.rxRings := by rw [Block.bootMove_only]
@[simp] theorem Block.bootMove_pools : b.bootMove.pools = b.pools := by rw [Block.bootMove_only]
@[simp] theorem Block.bootMove_ringInts : b.bootMove.ringInts = b.ringInts := by rw [Block.bootMove_only]
@[simp] theorem Block.bootMove_insts : b.bootMove.insts = b.insts := by rw [Block.bootMove_only]
@[simp] theorem Block.bootMove_vfEnable : b.bootMove.vfEnable = b.vfEnable := by rw [Block.bootMove_only]
@[simp] theorem Block.bootMove_numVfs : b.bootMove.numVfs = b.numVfs := by rw [Block.bootMove_only]
@[simp] theorem Block.bootMove_txLast : b.bootMove.txLast = b.txLast := by rw [Block.bootMove_only]
@[simp] theorem Block.bootMove_jobs : b.bootMove.jobs = b.jobs := by rw [Block.bootMove_only]
@[simp] theorem Block.bootMove_dmaEng : b.bootMove.dmaEng = b.dmaEng := by rw [Block.bootMove_only]
@[simp] theorem Block.bootMove_jobCount : b.bootMove.jobCount = b.jobCount := by rw [Block.bootMove_only]
@[simp] theorem Block.bootMove_dmaLast : b.bootMove.dmaLast = b.dmaLast := by rw [Block.bootMove_only]
@[simp] theorem Block.bootMove_frames : b.bootMove.frames = b.frames := by rw [Block.bootMove_only]
@[simp] theorem Block.bootMove_nextFrame : b.bootMove.nextFrame = b.nextFrame := by rw [Block.bootMove_only]
@[simp] theorem Block.bootMove_flt : b.bootMove.flt = b.flt := by rw [Block.bootMove_only]
@[simp] theorem Block.bootMove_inflight : b.bootMove.inflight = b.inflight := by rw [Block.bootMove_only]
@[simp] theorem Block.bootMove_lastMsg : b.bootMove.lastMsg = b.lastMsg := by rw [Block.bootMove_only]
@[simp] theorem Block.bootMove_records : b.bootMove.records = b.records := by rw [Block.bootMove_only]
@[simp] theorem Block.bootMove_locked : b.bootMove.locked = b.locked := by rw [Block.bootMove_only]
@[simp] theorem Block.bootMove_pair : b.bootMove.pair = b.pair := by rw [Block.bootMove_only]
@[simp] theorem Block.bootMove_chain : b.bootMove.chain = b.chain := by rw [Block.bootMove_only]
@[simp] theorem Block.bootMove_pkgHold : b.bootMove.pkgHold = b.pkgHold := by rw [Block.bootMove_only]
@[simp] theorem Block.bootMove_pinLow : b.bootMove.pinLow = b.pinLow := by rw [Block.bootMove_only]
@[simp] theorem Block.bootMove_relPin : b.bootMove.relPin = b.relPin := by rw [Block.bootMove_only]
@[simp] theorem Block.bootMove_strapPins : b.bootMove.strapPins = b.strapPins := by rw [Block.bootMove_only]
@[simp] theorem Block.bootMove_fuses : b.bootMove.fuses = b.fuses := by rw [Block.bootMove_only]
@[simp] theorem Block.bootMove_faultN : b.bootMove.faultN = b.faultN := by rw [Block.bootMove_only]
@[simp] theorem Block.bootMove_snap : b.bootMove.snap = b.snap := by rw [Block.bootMove_only]
@[simp] theorem Block.bootMove_pendSnap : b.bootMove.pendSnap = b.pendSnap := by rw [Block.bootMove_only]
@[simp] theorem Block.bootMove_refusals : b.bootMove.refusals = b.refusals := by rw [Block.bootMove_only]
@[simp] theorem Block.bootMove_fresh : b.bootMove.fresh = b.fresh := by rw [Block.bootMove_only]
@[simp] theorem Block.bootMove_ctr (y0 : Nat) : b.bootMove.ctr y0 = b.ctr y0 := by rw [Block.bootMove_only]; rfl
@[simp] theorem Block.bootMove_die (y0 : Nat) : b.bootMove.die y0 = b.die y0 := by rw [Block.bootMove_only]; rfl
@[simp] theorem Block.bootMove_port (y0 : Nat) : b.bootMove.port y0 = b.port y0 := by rw [Block.bootMove_only]; rfl
@[simp] theorem Block.bootMove_cluster (y0 : Nat) : b.bootMove.cluster y0 = b.cluster y0 := by rw [Block.bootMove_only]; rfl
@[simp] theorem Block.bootMove_region (y0 : Nat) : b.bootMove.region y0 = b.region y0 := by rw [Block.bootMove_only]; rfl
@[simp] theorem Block.bootMove_engine (y0 : Nat) : b.bootMove.engine y0 = b.engine y0 := by rw [Block.bootMove_only]; rfl
@[simp] theorem Block.bootMove_frame (y0 : Nat) : b.bootMove.frame y0 = b.frame y0 := by rw [Block.bootMove_only]; rfl
@[simp] theorem Block.bootMove_latched (y0 z0 : Nat) : b.bootMove.latched y0 z0 = b.latched y0 z0 := by rw [Block.bootMove_only]; rfl
@[simp] theorem Block.bootMove_inst (y0 : Nat) : b.bootMove.inst y0 = b.inst y0 := by rw [Block.bootMove_only]; rfl
@[simp] theorem Block.bootMove_txRing (y0 : Nat) : b.bootMove.txRing y0 = b.txRing y0 := by rw [Block.bootMove_only]; rfl
@[simp] theorem Block.bootMove_rxRing (y0 : Nat) : b.bootMove.rxRing y0 = b.rxRing y0 := by rw [Block.bootMove_only]; rfl
@[simp] theorem Block.bootMove_pool (y0 z0 : Nat) : b.bootMove.pool y0 z0 = b.pool y0 z0 := by rw [Block.bootMove_only]; rfl
@[simp] theorem Block.bootMove_ring (y0 : Nat) : b.bootMove.ring y0 = b.ring y0 := by rw [Block.bootMove_only]; rfl
@[simp] theorem Block.bootMove_link (y0 z0 : Nat) : b.bootMove.link y0 z0 = b.link y0 z0 := by rw [Block.bootMove_only]; rfl
@[simp] theorem Block.bootMove_fifo (y0 z0 : Nat) : b.bootMove.fifo y0 z0 = b.fifo y0 z0 := by rw [Block.bootMove_only]; rfl
@[simp] theorem Block.bootMove_frozen (y0 : Nat) : b.bootMove.frozen y0 = b.frozen y0 := by rw [Block.bootMove_only]; rfl
@[simp] theorem Block.bootMove_stopped (y0 : Nat) : b.bootMove.stopped y0 = b.stopped y0 := by rw [Block.bootMove_only]; rfl
@[simp] theorem Block.bootMove_ctx (y0 z0 : Nat) : b.bootMove.ctx y0 z0 = b.ctx y0 z0 := by rw [Block.bootMove_only]; rfl
@[simp] theorem Block.bootMove_at_ (y0 : Nat) (z0 : Loc) : b.bootMove.at_ y0 z0 = b.at_ y0 z0 := by rw [Block.bootMove_only]; rfl
@[simp] theorem Block.bootMove_stgFill (y0 : Nat) : b.bootMove.stgFill y0 = b.stgFill y0 := by rw [Block.bootMove_only]; rfl
@[simp] theorem Block.bootMove_txAt (y0 : Nat) (z0 : TxStage) : b.bootMove.txAt y0 z0 = b.txAt y0 z0 := by rw [Block.bootMove_only]; rfl

/-! ## askRead -/

@[simp] theorem Block.askRead_latch (i : Nat) (k : JobKind) : (b.askRead i k).latch = b.latch := by rw [Block.askRead_only]
@[simp] theorem Block.askRead_ticks (i : Nat) (k : JobKind) : (b.askRead i k).ticks = b.ticks := by rw [Block.askRead_only]
@[simp] theorem Block.askRead_refLost (i : Nat) (k : JobKind) : (b.askRead i k).refLost = b.refLost := by rw [Block.askRead_only]
@[simp] theorem Block.askRead_baseA (i : Nat) (k : JobKind) : (b.askRead i k).baseA = b.baseA := by rw [Block.askRead_only]
@[simp] theorem Block.askRead_baseB (i : Nat) (k : JobKind) : (b.askRead i k).baseB = b.baseB := by rw [Block.askRead_only]
@[simp] theorem Block.askRead_switchTick (i : Nat) (k : JobKind) : (b.askRead i k).switchTick = b.switchTick := by rw [Block.askRead_only]
@[simp] theorem Block.askRead_dies (i : Nat) (k : JobKind) : (b.askRead i k).dies = b.dies := by rw [Block.askRead_only]
@[simp] theorem Block.askRead_ports (i : Nat) (k : JobKind) : (b.askRead i k).ports = b.ports := by rw [Block.askRead_only]
@[simp] theorem Block.askRead_clusters (i : Nat) (k : JobKind) : (b.askRead i k).clusters = b.clusters := by rw [Block.askRead_only]
@[simp] theorem Block.askRead_regions (i : Nat) (k : JobKind) : (b.askRead i k).regions = b.regions := by rw [Block.askRead_only]
@[simp] theorem Block.askRead_engines (i : Nat) (k : JobKind) : (b.askRead i k).engines = b.engines := by rw [Block.askRead_only]
@[simp] theorem Block.askRead_rings (i : Nat) (k : JobKind) : (b.askRead i k).rings = b.rings := by rw [Block.askRead_only]
@[simp] theorem Block.askRead_fifos (i : Nat) (k : JobKind) : (b.askRead i k).fifos = b.fifos := by rw [Block.askRead_only]
@[simp] theorem Block.askRead_hostLinks (i : Nat) (k : JobKind) : (b.askRead i k).hostLinks = b.hostLinks := by rw [Block.askRead_only]
@[simp] theorem Block.askRead_links (i : Nat) (k : JobKind) : (b.askRead i k).links = b.links := by rw [Block.askRead_only]
@[simp] theorem Block.askRead_hbms (i : Nat) (k : JobKind) : (b.askRead i k).hbms = b.hbms := by rw [Block.askRead_only]
@[simp] theorem Block.askRead_slow (i : Nat) (k : JobKind) : (b.askRead i k).slow = b.slow := by rw [Block.askRead_only]
@[simp] theorem Block.askRead_txRings (i : Nat) (k : JobKind) : (b.askRead i k).txRings = b.txRings := by rw [Block.askRead_only]
@[simp] theorem Block.askRead_rxRings (i : Nat) (k : JobKind) : (b.askRead i k).rxRings = b.rxRings := by rw [Block.askRead_only]
@[simp] theorem Block.askRead_pools (i : Nat) (k : JobKind) : (b.askRead i k).pools = b.pools := by rw [Block.askRead_only]
@[simp] theorem Block.askRead_ringInts (i : Nat) (k : JobKind) : (b.askRead i k).ringInts = b.ringInts := by rw [Block.askRead_only]
@[simp] theorem Block.askRead_insts (i : Nat) (k : JobKind) : (b.askRead i k).insts = b.insts := by rw [Block.askRead_only]
@[simp] theorem Block.askRead_vfEnable (i : Nat) (k : JobKind) : (b.askRead i k).vfEnable = b.vfEnable := by rw [Block.askRead_only]
@[simp] theorem Block.askRead_numVfs (i : Nat) (k : JobKind) : (b.askRead i k).numVfs = b.numVfs := by rw [Block.askRead_only]
@[simp] theorem Block.askRead_txLast (i : Nat) (k : JobKind) : (b.askRead i k).txLast = b.txLast := by rw [Block.askRead_only]
@[simp] theorem Block.askRead_frames (i : Nat) (k : JobKind) : (b.askRead i k).frames = b.frames := by rw [Block.askRead_only]
@[simp] theorem Block.askRead_nextFrame (i : Nat) (k : JobKind) : (b.askRead i k).nextFrame = b.nextFrame := by rw [Block.askRead_only]
@[simp] theorem Block.askRead_flt (i : Nat) (k : JobKind) : (b.askRead i k).flt = b.flt := by rw [Block.askRead_only]
@[simp] theorem Block.askRead_inflight (i : Nat) (k : JobKind) : (b.askRead i k).inflight = b.inflight := by rw [Block.askRead_only]
@[simp] theorem Block.askRead_lastMsg (i : Nat) (k : JobKind) : (b.askRead i k).lastMsg = b.lastMsg := by rw [Block.askRead_only]
@[simp] theorem Block.askRead_records (i : Nat) (k : JobKind) : (b.askRead i k).records = b.records := by rw [Block.askRead_only]
@[simp] theorem Block.askRead_locked (i : Nat) (k : JobKind) : (b.askRead i k).locked = b.locked := by rw [Block.askRead_only]
@[simp] theorem Block.askRead_pair (i : Nat) (k : JobKind) : (b.askRead i k).pair = b.pair := by rw [Block.askRead_only]
@[simp] theorem Block.askRead_chain (i : Nat) (k : JobKind) : (b.askRead i k).chain = b.chain := by rw [Block.askRead_only]
@[simp] theorem Block.askRead_boot (i : Nat) (k : JobKind) : (b.askRead i k).boot = b.boot := by rw [Block.askRead_only]
@[simp] theorem Block.askRead_pkgHold (i : Nat) (k : JobKind) : (b.askRead i k).pkgHold = b.pkgHold := by rw [Block.askRead_only]
@[simp] theorem Block.askRead_pinLow (i : Nat) (k : JobKind) : (b.askRead i k).pinLow = b.pinLow := by rw [Block.askRead_only]
@[simp] theorem Block.askRead_relPin (i : Nat) (k : JobKind) : (b.askRead i k).relPin = b.relPin := by rw [Block.askRead_only]
@[simp] theorem Block.askRead_strapPins (i : Nat) (k : JobKind) : (b.askRead i k).strapPins = b.strapPins := by rw [Block.askRead_only]
@[simp] theorem Block.askRead_fuses (i : Nat) (k : JobKind) : (b.askRead i k).fuses = b.fuses := by rw [Block.askRead_only]
@[simp] theorem Block.askRead_faultN (i : Nat) (k : JobKind) : (b.askRead i k).faultN = b.faultN := by rw [Block.askRead_only]
@[simp] theorem Block.askRead_snap (i : Nat) (k : JobKind) : (b.askRead i k).snap = b.snap := by rw [Block.askRead_only]
@[simp] theorem Block.askRead_pendSnap (i : Nat) (k : JobKind) : (b.askRead i k).pendSnap = b.pendSnap := by rw [Block.askRead_only]
@[simp] theorem Block.askRead_refusals (i : Nat) (k : JobKind) : (b.askRead i k).refusals = b.refusals := by rw [Block.askRead_only]
@[simp] theorem Block.askRead_out (i : Nat) (k : JobKind) : (b.askRead i k).out = b.out := by rw [Block.askRead_only]
@[simp] theorem Block.askRead_fresh (i : Nat) (k : JobKind) : (b.askRead i k).fresh = b.fresh := by rw [Block.askRead_only]
@[simp] theorem Block.askRead_die (i : Nat) (k : JobKind) (y0 : Nat) : (b.askRead i k).die y0 = b.die y0 := by rw [Block.askRead_only]; rfl
@[simp] theorem Block.askRead_port (i : Nat) (k : JobKind) (y0 : Nat) : (b.askRead i k).port y0 = b.port y0 := by rw [Block.askRead_only]; rfl
@[simp] theorem Block.askRead_cluster (i : Nat) (k : JobKind) (y0 : Nat) : (b.askRead i k).cluster y0 = b.cluster y0 := by rw [Block.askRead_only]; rfl
@[simp] theorem Block.askRead_region (i : Nat) (k : JobKind) (y0 : Nat) : (b.askRead i k).region y0 = b.region y0 := by rw [Block.askRead_only]; rfl
@[simp] theorem Block.askRead_engine (i : Nat) (k : JobKind) (y0 : Nat) : (b.askRead i k).engine y0 = b.engine y0 := by rw [Block.askRead_only]; rfl
@[simp] theorem Block.askRead_frame (i : Nat) (k : JobKind) (y0 : Nat) : (b.askRead i k).frame y0 = b.frame y0 := by rw [Block.askRead_only]; rfl
@[simp] theorem Block.askRead_latched (i : Nat) (k : JobKind) (y0 z0 : Nat) : (b.askRead i k).latched y0 z0 = b.latched y0 z0 := by rw [Block.askRead_only]; rfl
@[simp] theorem Block.askRead_inst (i : Nat) (k : JobKind) (y0 : Nat) : (b.askRead i k).inst y0 = b.inst y0 := by rw [Block.askRead_only]; rfl
@[simp] theorem Block.askRead_txRing (i : Nat) (k : JobKind) (y0 : Nat) : (b.askRead i k).txRing y0 = b.txRing y0 := by rw [Block.askRead_only]; rfl
@[simp] theorem Block.askRead_rxRing (i : Nat) (k : JobKind) (y0 : Nat) : (b.askRead i k).rxRing y0 = b.rxRing y0 := by rw [Block.askRead_only]; rfl
@[simp] theorem Block.askRead_pool (i : Nat) (k : JobKind) (y0 z0 : Nat) : (b.askRead i k).pool y0 z0 = b.pool y0 z0 := by rw [Block.askRead_only]; rfl
@[simp] theorem Block.askRead_ring (i : Nat) (k : JobKind) (y0 : Nat) : (b.askRead i k).ring y0 = b.ring y0 := by rw [Block.askRead_only]; rfl
@[simp] theorem Block.askRead_link (i : Nat) (k : JobKind) (y0 z0 : Nat) : (b.askRead i k).link y0 z0 = b.link y0 z0 := by rw [Block.askRead_only]; rfl
@[simp] theorem Block.askRead_fifo (i : Nat) (k : JobKind) (y0 z0 : Nat) : (b.askRead i k).fifo y0 z0 = b.fifo y0 z0 := by rw [Block.askRead_only]; rfl
@[simp] theorem Block.askRead_frozen (i : Nat) (k : JobKind) (y0 : Nat) : (b.askRead i k).frozen y0 = b.frozen y0 := by rw [Block.askRead_only]; rfl
@[simp] theorem Block.askRead_stopped (i : Nat) (k : JobKind) (y0 : Nat) : (b.askRead i k).stopped y0 = b.stopped y0 := by rw [Block.askRead_only]; rfl
@[simp] theorem Block.askRead_ctx (i : Nat) (k : JobKind) (y0 z0 : Nat) : (b.askRead i k).ctx y0 z0 = b.ctx y0 z0 := by rw [Block.askRead_only]; rfl
@[simp] theorem Block.askRead_at_ (i : Nat) (k : JobKind) (y0 : Nat) (z0 : Loc) : (b.askRead i k).at_ y0 z0 = b.at_ y0 z0 := by rw [Block.askRead_only]; rfl
@[simp] theorem Block.askRead_stgFill (i : Nat) (k : JobKind) (y0 : Nat) : (b.askRead i k).stgFill y0 = b.stgFill y0 := by rw [Block.askRead_only]; rfl
@[simp] theorem Block.askRead_txAt (i : Nat) (k : JobKind) (y0 : Nat) (z0 : TxStage) : (b.askRead i k).txAt y0 z0 = b.txAt y0 z0 := by rw [Block.askRead_only]; rfl

end Sys2Proof.Machine
end

