-- ==== Sys2Proof/Laws/PerInstr.lean ====
section
/-!
SUPPORT. Laws/PerInstr.lean: for each command, that no word of the opcode table spells it: the table gives its rows no bits.
-/
namespace Sys2Proof.Laws.Unspelled

/-- No word spells command c. -/
def Statement (c : Instr) : Prop := ∀ nbits w, decodeTableWord nbits w ≠ some c

theorem any (c : Instr) : Statement c := fun _ _ h => by simp [decodeTableWord] at h

theorem registerWrite (w : Writer) (a : BitVec 28) (v : BitVec 64) (size : AccessSize) : Statement (.registerWrite w a v size) := any _
theorem counterLowRead (r : Reader) (a : BitVec 28) (size : AccessSize) : Statement (.counterLowRead r a size) := any _
theorem readClear (r : Reader) (a : BitVec 28) (size : AccessSize) : Statement (.readClear r a size) := any _
theorem frameReceive (p : Fin 256) (bytes : List Byte) (i : RxInfo) : Statement (.frameReceive p bytes i) := any _
theorem rxBadAfterHead (p : Fin 256) : Statement (.rxBadAfterHead p) := any _
theorem pauseFrameReceive (p : Fin 256) (q : BitVec 16) : Statement (.pauseFrameReceive p q) := any _
theorem pfcFrameReceive (p : Fin 256) (vec : BitVec 8) (times : List (BitVec 16)) : Statement (.pfcFrameReceive p vec times) := any _
theorem pauseTimerExpire (p : Fin 256) (pri : Fin 8) : Statement (.pauseTimerExpire p pri) := any _
theorem pauseWdog (p : Fin 256) (pri : Fin 8) : Statement (.pauseWdog p pri) := any _
theorem pauseWdogWrite (w : Writer) (p : Fin 256) (v : BitVec 32) : Statement (.pauseWdogWrite w p v) := any _
theorem pauseXoff (p : Fin 256) : Statement (.pauseXoff p) := any _
theorem pauseRefresh (p : Fin 256) : Statement (.pauseRefresh p) := any _
theorem pauseXon (p : Fin 256) : Statement (.pauseXon p) := any _
theorem pauseFrameSend (p : PortBytes) : Statement (.pauseFrameSend p) := any _
theorem portEnable (w : Writer) (p : Fin 256) (v : BitVec 32) : Statement (.portEnable w p v) := any _
theorem portDisable (w : Writer) (p : Fin 256) (v : BitVec 32) : Statement (.portDisable w p v) := any _
theorem anDone (p : Fin 256) (partner : List (BitVec 2 × BitVec 2)) : Statement (.anDone p partner) := any _
theorem ltDone (p : Fin 256) (x : Training) : Statement (.ltDone p x) := any _
theorem ltFail (p : Fin 256) : Statement (.ltFail p) := any _
theorem linkUp (p : Fin 256) (snr : List (BitVec 16)) : Statement (.linkUp p snr) := any _
theorem linkDown (p : Fin 256) (c : DownCause) (cut : Bool) : Statement (.linkDown p c cut) := any _
theorem portStateWrite (w : Writer) (p : Fin 256) (v : BitVec 32) : Statement (.portStateWrite w p v) := any _
theorem preemptVerify (p : Fin 256) (e : VerifyEvent) : Statement (.preemptVerify p e) := any _
theorem pipeTakeHead (p : Fin 256) : Statement (.pipeTakeHead p) := any _
theorem contextStart (C : Fin 32) : Statement (.contextStart C) := any _
theorem extEq (C : Fin 32) (k : Fin 64) : Statement (.extEq C k) := any _
theorem extLt (C : Fin 32) (k : Fin 64) : Statement (.extLt C k) := any _
theorem aluAdd (C : Fin 32) (k : Fin 64) : Statement (.aluAdd C k) := any _
theorem aluSub (C : Fin 32) (k : Fin 64) : Statement (.aluSub C k) := any _
theorem aluAnd (C : Fin 32) (k : Fin 64) : Statement (.aluAnd C k) := any _
theorem aluOr (C : Fin 32) (k : Fin 64) : Statement (.aluOr C k) := any _
theorem aluXor (C : Fin 32) (k : Fin 64) : Statement (.aluXor C k) := any _
theorem aluShl (C : Fin 32) (k : Fin 64) : Statement (.aluShl C k) := any _
theorem aluShr (C : Fin 32) (k : Fin 64) : Statement (.aluShr C k) := any _
theorem aluMove (C : Fin 32) (k : Fin 64) : Statement (.aluMove C k) := any _
theorem adv (C : Fin 32) (k : Fin 64) : Statement (.adv C k) := any _
theorem dispatch (C : Fin 32) (k : Fin 64) : Statement (.dispatch C k) := any _
theorem branch (C : Fin 32) (k : Fin 64) : Statement (.branch C k) := any _
theorem branchOvr (C : Fin 32) (k : Fin 64) : Statement (.branchOvr C k) := any _
theorem branchEq (C : Fin 32) (k : Fin 64) : Statement (.branchEq C k) := any _
theorem branchLt (C : Fin 32) (k : Fin 64) : Statement (.branchLt C k) := any _
theorem csum (C : Fin 32) (k : Fin 64) : Statement (.csum C k) := any _
theorem csumContinue (C : Fin 32) (k : Fin 64) : Statement (.csumContinue C k) := any _
theorem check (C : Fin 32) (k : Fin 64) : Statement (.check C k) := any _
theorem endRoutine (C : Fin 32) (k : Fin 64) : Statement (.endRoutine C k) := any _
theorem endMal (C : Fin 32) (k : Fin 64) : Statement (.endMal C k) := any _
theorem failRoutine (C : Fin 32) (k : Fin 64) : Statement (.failRoutine C k) := any _
theorem failWindow (C : Fin 32) (k : Fin 64) : Statement (.failWindow C k) := any _
theorem illegalWord (C : Fin 32) (k : Fin 64) : Statement (.illegalWord C k) := any _
theorem abort (C : Fin 32) (v : BitVec 32) : Statement (.abort C v) := any _
theorem redigest (C : Fin 32) (v : BitVec 32) : Statement (.redigest C v) := any _
theorem redigestDone (C : Fin 32) : Statement (.redigestDone C) := any _
theorem csRdAddr (w : Writer) (C : Fin 32) (v : BitVec 32) : Statement (.csRdAddr w C v) := any _
theorem hostlimWrite (w : Writer) (p : Fin 256) (r : Fin 16) (v : BitVec 32) : Statement (.hostlimWrite w p r v) := any _
theorem fragExpire (C : Fin 32) : Statement (.fragExpire C) := any _
theorem fragFlush (w : Writer) (C : Fin 32) (v : BitVec 32) : Statement (.fragFlush w C v) := any _
theorem fragFlushDone (C : Fin 32) : Statement (.fragFlushDone C) := any _
theorem lookupS0 (p : Fin 256) : Statement (.lookupS0 p) := any _
theorem lookupS1 (p : Fin 256) : Statement (.lookupS1 p) := any _
theorem lookupS2 (p : Fin 256) : Statement (.lookupS2 p) := any _
theorem lookupS3 (p : Fin 256) : Statement (.lookupS3 p) := any _
theorem lookupS4 (p : Fin 256) : Statement (.lookupS4 p) := any _
theorem lookupS5 (p : Fin 256) : Statement (.lookupS5 p) := any _
theorem lookupS6 (p : Fin 256) : Statement (.lookupS6 p) := any _
theorem lookupS7 (p : Fin 256) : Statement (.lookupS7 p) := any _
theorem llWaitEnd (p : Fin 256) : Statement (.llWaitEnd p) := any _
theorem linkReplay (d : Fin 4) (e : Fin 3) : Statement (.linkReplay d e) := any _
theorem linkRetrain (d : Fin 4) (e : Fin 3) : Statement (.linkRetrain d e) := any _
theorem linkRetrainDone (d : Fin 4) (e : Fin 3) : Statement (.linkRetrainDone d e) := any _
theorem frameAdmit (G : Fin 8) (i : Fin 5) (room : Bool) : Statement (.frameAdmit G i room) := any _
theorem mcEnqueue (G : Fin 8) (room : Bool) : Statement (.mcEnqueue G room) := any _
theorem frameTailWritten (G : Fin 8) (i : Fin 5) (n : Nat) : Statement (.frameTailWritten G i n) := any _
theorem siloReadback (G : Fin 8) (q : BitVec 13) (k : Fin 2) (r : SiloRead) : Statement (.siloReadback G q k r) := any _
theorem hbmRefresh (d : Fin 4) (k : Fin 2) : Statement (.hbmRefresh d k) := any _
theorem selfRefreshEntry (d : Fin 4) (k : Fin 2) : Statement (.selfRefreshEntry d k) := any _
theorem schedulerPick (p : Fin 256) (got : Nat) : Statement (.schedulerPick p got) := any _
theorem egressE0 (p : Fin 256) : Statement (.egressE0 p) := any _
theorem egressE1 (p : Fin 256) : Statement (.egressE1 p) := any _
theorem rwCsumWait (p : Fin 256) : Statement (.rwCsumWait p) := any _
theorem egressE2 (p : Fin 256) : Statement (.egressE2 p) := any _
theorem egressE3 (p : Fin 256) : Statement (.egressE3 p) := any _
theorem frameStart (p : Fin 256) (got : Nat) (cut : Nat) : Statement (.frameStart p got cut) := any _
theorem txUnderrun (p : Fin 256) (sent : Nat) : Statement (.txUnderrun p sent) := any _
theorem frameTxEnd (p : Fin 256) : Statement (.frameTxEnd p) := any _
theorem shaperRefill (d : Fin 4) : Statement (.shaperRefill d) := any _
theorem shaperCommit (w : Writer) (G : Fin 8) (n : Fin 9216) (v : BitVec 32) : Statement (.shaperCommit w G n v) := any _
theorem gateEntryEnd (p : PortBytes) : Statement (.gateEntryEnd p) := any _
theorem gateCycleStart (p : PortBytes) : Statement (.gateCycleStart p) := any _
theorem gateChangeRequest (w : Writer) (p : Fin 256) (v : BitVec 32) : Statement (.gateChangeRequest w p v) := any _
theorem gateCancel (w : Writer) (p : Fin 256) (v : BitVec 32) : Statement (.gateCancel w p v) := any _
theorem gateChange (p : PortBytes) : Statement (.gateChange p) := any _
theorem gclAddr (w : Writer) (p : Fin 256) (v : BitVec 32) : Statement (.gclAddr w p v) := any _
theorem gclWrite (w : Writer) (p : Fin 256) (v : BitVec 32) : Statement (.gclWrite w p v) := any _
theorem queueSample (G : Fin 8) (q : BitVec 13) : Statement (.queueSample G q) := any _
theorem sampClrMax (w : Writer) (G : Fin 8) (v : BitVec 32) : Statement (.sampClrMax w G v) := any _
theorem levelChange (w : Writer) (v : BitVec 32) : Statement (.levelChange w v) := any _
theorem rampStep : Statement (.rampStep) := any _
theorem sentinelWindow (d : Fin 4) (t0 : BitVec 12) (t1 : BitVec 12) : Statement (.sentinelWindow d t0 t1) := any _
theorem settleEnd (d : Fin 4) (mv : BitVec 10) : Statement (.settleEnd d mv) := any _
theorem avsTransactionDone (d : Fin 4) (r : AvsResult) : Statement (.avsTransactionDone d r) := any _
theorem avsBusErrClear (w : Writer) (d : Fin 4) (v : BitVec 32) : Statement (.avsBusErrClear w d v) := any _
theorem sentClr (G : Fin 8) (v : BitVec 32) : Statement (.sentClr G v) := any _
theorem sagWarn (d : Fin 4) (mv : BitVec 10) : Statement (.sagWarn d mv) := any _
theorem sagWarnRelease : Statement (.sagWarnRelease) := any _
theorem sagReset (d : Fin 4) (mv : BitVec 10) : Statement (.sagReset d mv) := any _
theorem sagResetEnd (straps : BitVec 7) : Statement (.sagResetEnd straps) := any _
theorem sagClrMin (w : Writer) (d : Fin 4) (v : BitVec 32) : Statement (.sagClrMin w d v) := any _
theorem tblRead (w : Writer) (d : Fin 4) (v : BitVec 32) : Statement (.tblRead w d v) := any _
theorem tblWrite (w : Writer) (d : Fin 4) (v : BitVec 32) : Statement (.tblWrite w d v) := any _
theorem tblInsert (w : Writer) (d : Fin 4) (v : BitVec 32) : Statement (.tblInsert w d v) := any _
theorem tblDelete (w : Writer) (d : Fin 4) (v : BitVec 32) : Statement (.tblDelete w d v) := any _
theorem tblSearch (w : Writer) (d : Fin 4) (v : BitVec 32) : Statement (.tblSearch w d v) := any _
theorem moveBlock (w : Writer) (d : Fin 4) (v : BitVec 32) : Statement (.moveBlock w d v) := any _
theorem tblFence (w : Writer) (d : Fin 4) (v : BitVec 32) : Statement (.tblFence w d v) := any _
theorem tblDigest (w : Writer) (d : Fin 4) (v : BitVec 32) : Statement (.tblDigest w d v) := any _
theorem tblBadOp (w : Writer) (d : Fin 4) (v : BitVec 32) : Statement (.tblBadOp w d v) := any _
theorem emTmplCommit (w : Writer) (d : Fin 4) (v : BitVec 32) : Statement (.emTmplCommit w d v) := any _
theorem cmdComplete (d : Fin 4) (n : Nat) : Statement (.cmdComplete d n) := any _
theorem fenceIssue (w : Writer) (d : Fin 4) (v : BitVec 32) : Statement (.fenceIssue w d v) := any _
theorem fenceDone (d : Fin 4) : Statement (.fenceDone d) := any _
theorem fenceTimeout (d : Fin 4) : Statement (.fenceTimeout d) := any _
theorem fenceCfgWrite (w : Writer) (d : Fin 4) (v : BitVec 32) : Statement (.fenceCfgWrite w d v) := any _
theorem gleanerCommit (d : Fin 4) : Statement (.gleanerCommit d) := any _
theorem ageQuantum (d : Fin 4) : Statement (.ageQuantum d) := any _
theorem sweepPassEnd (d : Fin 4) : Statement (.sweepPassEnd d) := any _
theorem gleanerRemoval (d : Fin 4) : Statement (.gleanerRemoval d) := any _
theorem winnowStart (w : Writer) (d : Fin 4) (v : BitVec 32) : Statement (.winnowStart w d v) := any _
theorem winnowStop (w : Writer) (d : Fin 4) (v : BitVec 32) : Statement (.winnowStop w d v) := any _
theorem winnowCompare (d : Fin 4) (raw : List Byte) : Statement (.winnowCompare d raw) := any _
theorem winnowRecheck (d : Fin 4) (raw : List Byte) : Statement (.winnowRecheck d raw) := any _
theorem winnowDma (d : Fin 4) : Statement (.winnowDma d) := any _
theorem timeArm (i : Fin 2) (v : BitVec 32) : Statement (.timeArm i v) := any _
theorem timeStepRequest (i : Fin 2) (v : BitVec 32) : Statement (.timeStepRequest i v) := any _
theorem timeStep (i : Fin 2) : Statement (.timeStep i) := any _
theorem rateWrite (w : Writer) (i : Fin 2) (v : BitVec 32) : Statement (.rateWrite w i v) := any _
theorem timeRefclk : Statement (.timeRefclk) := any _
theorem timeRefclkRelock : Statement (.timeRefclkRelock) := any _
theorem baseSwitchRequest (w : Writer) (v : BitVec 32) : Statement (.baseSwitchRequest w v) := any _
theorem portSwitch (p : Fin 256) : Statement (.portSwitch p) := any _
theorem timeRead (r : Reader) (i : Fin 2) : Statement (.timeRead r i) := any _
theorem timeCapture (v : BitVec 32) : Statement (.timeCapture v) := any _
theorem pcieLinkDown (e : PcieEvent) : Statement (.pcieLinkDown e) := any _
theorem dmaErr (f : DmaFail) : Statement (.dmaErr f) := any _
theorem dmaJobDone (e : Fin 16) (raw : List Byte) : Statement (.dmaJobDone e raw) := any _
theorem mboxSendToVf (w : Writer) (i : Fin 256) (v : BitVec 32) : Statement (.mboxSendToVf w i v) := any _
theorem mboxSendToPf (i : Fin 256) (v : BitVec 32) : Statement (.mboxSendToPf i v) := any _
theorem ringEnable (w : Writer) (tx : Bool) (r : BitVec 13) (v : BitVec 32) : Statement (.ringEnable w tx r v) := any _
theorem ringDisable (w : Writer) (tx : Bool) (r : BitVec 13) (v : BitVec 32) : Statement (.ringDisable w tx r v) := any _
theorem txDoorbell (i : Fin 256) (j : BitVec 13) (v : BitVec 32) : Statement (.txDoorbell i j v) := any _
theorem txFetch (raw : List Byte) (data : List Byte) : Statement (.txFetch raw data) := any _
theorem inject (p : Fin 256) : Statement (.inject p) := any _
theorem injectTimeout (r : BitVec 13) : Statement (.injectTimeout r) := any _
theorem txDirectHandoff (r : BitVec 13) : Statement (.txDirectHandoff r) := any _
theorem rxDeliver (r : BitVec 13) : Statement (.rxDeliver r) := any _
theorem rxDoorbell (i : Fin 256) (j : BitVec 13) (v : BitVec 32) : Statement (.rxDoorbell i j v) := any _
theorem poolTail (i : Fin 256) (k : Fin 4) (v : BitVec 32) : Statement (.poolTail i k v) := any _
theorem poolFetch (i : Fin 256) (k : Fin 4) (raw : List Byte) : Statement (.poolFetch i k raw) := any _
theorem poolWaitExpire (r : BitVec 13) : Statement (.poolWaitExpire r) := any _
theorem ringIntArm (tx : Bool) (i : Fin 256) (j : BitVec 13) (v : BitVec 32) : Statement (.ringIntArm tx i j v) := any _
theorem ringIntTimer (tx : Bool) (r : BitVec 13) : Statement (.ringIntTimer tx r) := any _
theorem int0Ack (v : BitVec 32) : Statement (.int0Ack v) := any _
theorem insCmdRead (i : Fin 256) (v : BitVec 32) : Statement (.insCmdRead i v) := any _
theorem insCmdWrite (i : Fin 256) (v : BitVec 32) : Statement (.insCmdWrite i v) := any _
theorem insCmdDelete (i : Fin 256) (v : BitVec 32) : Statement (.insCmdDelete i v) := any _
theorem insCmdFence (i : Fin 256) (v : BitVec 32) : Statement (.insCmdFence i v) := any _
theorem insCmdMoveBlock (i : Fin 256) (v : BitVec 32) : Statement (.insCmdMoveBlock i v) := any _
theorem insCmdNotPermitted (i : Fin 256) (v : BitVec 32) : Statement (.insCmdNotPermitted i v) := any _
theorem winHoldClear (w : Writer) (i : Fin 256) (v : BitVec 32) : Statement (.winHoldClear w i v) := any _
theorem dirtySwap (w : Writer) (i : Fin 256) (v : BitVec 32) : Statement (.dirtySwap w i v) := any _
theorem dirtySwapDone (i : Fin 256) : Statement (.dirtySwapDone i) := any _
theorem instanceReset (i : Fin 256) (how : ResetBy) : Statement (.instanceReset i how) := any _
theorem drainEnd (i : Fin 256) : Statement (.drainEnd i) := any _
theorem insReset (i : Fin 256) : Statement (.insReset i) := any _
theorem resetRelease (straps : BitVec 7) : Statement (.resetRelease straps) := any _
theorem headerCheck (raw : List Byte) (timeout : Bool) (slow : Bool) : Statement (.headerCheck raw timeout slow) := any _
theorem sectionApply (raw : List Byte) (timeout : Bool) : Statement (.sectionApply raw timeout) := any _
theorem regwritePoll : Statement (.regwritePoll) := any _
theorem regwriteDelay : Statement (.regwriteDelay) := any _
theorem hostLoad (w : Writer) (v : BitVec 32) : Statement (.hostLoad w v) := any _
theorem hbmTrain (d : Fin 4) (lanes : List LaneSweep) : Statement (.hbmTrain d lanes) := any _
theorem bootDone : Statement (.bootDone) := any _
theorem fuseProgram (w : Writer) (v : BitVec 32) : Statement (.fuseProgram w v) := any _
theorem fuseRevoke (w : Writer) (v : BitVec 32) : Statement (.fuseRevoke w v) := any _
theorem svnCommit (w : Writer) (v : BitVec 32) : Statement (.svnCommit w v) := any _
theorem fuseDone (ok : Bool) : Statement (.fuseDone ok) := any _
theorem enumerate (dest : BitVec 16) (tag : BitVec 8) (payload : List Byte) (crcOk : Bool) : Statement (.enumerate dest tag payload crcOk) := any _
theorem ringHold (dest : BitVec 16) (tag : BitVec 8) (payload : List Byte) (crcOk : Bool) : Statement (.ringHold dest tag payload crcOk) := any _
theorem ringRelease (dest : BitVec 16) (tag : BitVec 8) (payload : List Byte) (crcOk : Bool) : Statement (.ringRelease dest tag payload crcOk) := any _
theorem ringReset (dest : BitVec 16) (tag : BitVec 8) (payload : List Byte) (crcOk : Bool) (straps : BitVec 7) : Statement (.ringReset dest tag payload crcOk straps) := any _
theorem snapshotAt (dest : BitVec 16) (tag : BitVec 8) (payload : List Byte) (crcOk : Bool) : Statement (.snapshotAt dest tag payload crcOk) := any _
theorem tallyLoad (dest : BitVec 16) (tag : BitVec 8) (payload : List Byte) (crcOk : Bool) : Statement (.tallyLoad dest tag payload crcOk) := any _
theorem tallySum (dest : BitVec 16) (tag : BitVec 8) (payload : List Byte) (crcOk : Bool) : Statement (.tallySum dest tag payload crcOk) := any _
theorem ringRead (dest : BitVec 16) (tag : BitVec 8) (payload : List Byte) (crcOk : Bool) : Statement (.ringRead dest tag payload crcOk) := any _
theorem ack (dest : BitVec 16) (tag : BitVec 8) (payload : List Byte) (crcOk : Bool) : Statement (.ack dest tag payload crcOk) := any _
theorem readResp (dest : BitVec 16) (tag : BitVec 8) (payload : List Byte) (crcOk : Bool) : Statement (.readResp dest tag payload crcOk) := any _
theorem breakFrame (dest : BitVec 16) (tag : BitVec 8) (payload : List Byte) (crcOk : Bool) : Statement (.breakFrame dest tag payload crcOk) := any _
theorem chainBreak : Statement (.chainBreak) := any _
theorem breakRepeat : Statement (.breakRepeat) := any _
theorem chainInputRegained : Statement (.chainInputRegained) := any _
theorem headEnum (w : Writer) (v : BitVec 32) : Statement (.headEnum w v) := any _
theorem headSend (w : Writer) (v : BitVec 32) (straps : BitVec 7) : Statement (.headSend w v straps) := any _
theorem rxPop (v : BitVec 32) : Statement (.rxPop v) := any _
theorem heartbeatSend : Statement (.heartbeatSend) := any _
theorem heartbeat (role : BitVec 8) (mode : BitVec 8) (epoch : BitVec 32) (next : BitVec 64) (applied : BitVec 64) : Statement (.heartbeat role mode epoch next applied) := any _
theorem cmd (seq : BitVec 64) (d : Fin 4) (commit : Bool) (word : BitVec 32) (index : BitVec 32) (data : List (BitVec 32)) : Statement (.cmd seq d commit word index data) := any _
theorem cmdAck (seq : BitVec 64) (status : BitVec 8) (index : BitVec 32) : Statement (.cmdAck seq status index) := any _
theorem glean (raw : List Byte) : Statement (.glean raw) := any _
theorem frag (c : Fin 32) (entry : List (BitVec 32)) : Statement (.frag c entry) := any _
theorem time (body : List Byte) : Statement (.time body) := any _
theorem tally (digests : List (BitVec 64)) : Statement (.tally digests) := any _
theorem ckpt (id : BitVec 32) (g : Fin 8) (first : BitVec 19) (raw : List Byte) : Statement (.ckpt id g first raw) := any _
theorem handover (seq : BitVec 64) : Statement (.handover seq) := any _
theorem pairPeriodicSend : Statement (.pairPeriodicSend) := any _
theorem peerTimeout : Statement (.peerTimeout) := any _
theorem pairPromote : Statement (.pairPromote) := any _
theorem pairStart (v : BitVec 32) : Statement (.pairStart v) := any _
theorem pairHandover (v : BitVec 32) : Statement (.pairHandover v) := any _
theorem pairHandoverSend : Statement (.pairHandoverSend) := any _
theorem promote (w : Writer) (v : BitVec 32) : Statement (.promote w v) := any _
theorem demote (v : BitVec 32) : Statement (.demote v) := any _
theorem faultMessage (h : HopStraps) : Statement (.faultMessage h) := any _
theorem faultPop (v : BitVec 32) : Statement (.faultPop v) := any _
theorem faultInject (w : Writer) (v : BitVec 32) : Statement (.faultInject w v) := any _
theorem firstClr (c : Fin 5) (v : BitVec 32) : Statement (.firstClr c v) := any _
theorem escAck (w : Writer) (c : Fin 5) (v : BitVec 32) : Statement (.escAck w c v) := any _
theorem escalate (c : CollectorStraps) : Statement (.escalate c) := any _
theorem faultNPulseEnd : Statement (.faultNPulseEnd) := any _
theorem faultNClear (w : Writer) (v : BitVec 32) : Statement (.faultNClear w v) := any _
theorem powerOnReset : Statement (.powerOnReset) := any _
theorem pinReset : Statement (.pinReset) := any _
theorem packageSoftReset (w : Writer) (v : BitVec 32) (straps : BitVec 7) : Statement (.packageSoftReset w v straps) := any _
theorem dieReset (w : Writer) (v : BitVec 32) : Statement (.dieReset w v) := any _
theorem dieResetDone (d : Fin 4) : Statement (.dieResetDone d) := any _
theorem forwardingReset (w : Writer) (v : BitVec 32) : Statement (.forwardingReset w v) := any _
theorem fwdReset (d : Fin 4) : Statement (.fwdReset d) := any _
theorem holdRequest (w : Writer) (d : Fin 4) (v : BitVec 32) : Statement (.holdRequest w d v) := any _
theorem holdRelease (w : Writer) (d : Fin 4) (v : BitVec 32) : Statement (.holdRelease w d v) := any _
theorem holdRelN (low : Bool) : Statement (.holdRelN low) := any _
theorem holdEntry (d : Fin 4) : Statement (.holdEntry d) := any _
theorem holdEnter (d : Fin 4) : Statement (.holdEnter d) := any _
theorem holdExit (d : Fin 4) : Statement (.holdExit d) := any _
theorem pmcSel (w : Writer) (u : CounterUnit) (k : Fin 8) (v : BitVec 32) : Statement (.pmcSel w u k v) := any _
theorem pmcClr (w : Writer) (u : CounterUnit) (v : BitVec 32) : Statement (.pmcClr w u v) := any _
theorem pmcFreeze (w : Writer) (u : CounterUnit) (v : BitVec 32) : Statement (.pmcFreeze w u v) := any _
theorem freezeAll (w : Writer) (v : BitVec 32) : Statement (.freezeAll w v) := any _
theorem clearAll (w : Writer) (v : BitVec 32) : Statement (.clearAll w v) := any _
theorem bwWindow (p : Fin 256) : Statement (.bwWindow p) := any _
theorem bwCfgWrite (w : Writer) (p : Fin 256) (v : BitVec 32) : Statement (.bwCfgWrite w p v) := any _
theorem snapNow (w : Writer) (v : BitVec 32) : Statement (.snapNow w v) := any _
theorem snapArm (w : Writer) (v : BitVec 32) : Statement (.snapArm w v) := any _
theorem snapCancel (w : Writer) (v : BitVec 32) : Statement (.snapCancel w v) := any _
theorem snapshotLatch : Statement (.snapshotLatch) := any _
theorem snapAddr (w : Writer) (v : BitVec 32) : Statement (.snapAddr w v) := any _
theorem traceRecordWrite (d : Fin 4) (room : Bool) : Statement (.traceRecordWrite d room) := any _
theorem trcUnfreeze (v : BitVec 32) : Statement (.trcUnfreeze v) := any _
theorem trcRestart (v : BitVec 32) : Statement (.trcRestart v) := any _
theorem trcRdAddr (w : Writer) (v : BitVec 32) (r : TraceRead) : Statement (.trcRdAddr w v r) := any _
theorem obsReg (a : BitVec 32) (n : BitVec 8) : Statement (.obsReg a n) := any _
theorem obsSnap (a : BitVec 32) (n : BitVec 8) : Statement (.obsSnap a n) := any _
theorem obsTrace (d : Fin 4) (u : BitVec 26) (rs : List TraceRead) : Statement (.obsTrace d u rs) := any _
theorem thermtrip : Statement (.thermtrip) := any _
theorem sysRefclkLost : Statement (.sysRefclkLost) := any _
theorem serdesRefclkLost (l : Fin 8) (cuts : BitVec 32) : Statement (.serdesRefclkLost l cuts) := any _
theorem shaixRefclkLost : Statement (.shaixRefclkLost) := any _
theorem powerOnResetEnd (straps : BitVec 7) : Statement (.powerOnResetEnd straps) := any _
theorem serdesRefclkReturn (l : Fin 8) : Statement (.serdesRefclkReturn l) := any _
theorem pcieLinkUp (width : BitVec 5) (rate : Fin 16) : Statement (.pcieLinkUp width rate) := any _
theorem shaixLinkUp : Statement (.shaixLinkUp) := any _
theorem shaixLinkDown : Statement (.shaixLinkDown) := any _
theorem badFrames (kind : BitVec 8) (dest : BitVec 16) (tag : BitVec 8) (payload : List Byte) : Statement (.badFrames kind dest tag payload) := any _
theorem msgErr : Statement (.msgErr) := any _

end Sys2Proof.Laws.Unspelled
end

