-- ==== Sys2Proof/WellFormed.lean ====
section
/-!
DEFINITION. WellFormed.lean: which commands are well formed: the lengths that the operands of a command must have where its type
leaves them open. exec is total on every command; the rules of the spec speak of well-formed ones.
-/
namespace Sys2Proof

/-- The payload of a chain frame is its LEN bytes, and LEN has 8 bits (Table 15-1); a frame with LEN above 64 is a bad one (R448). -/
def chainPayloadOk (payload : List Byte) : Bool := payload.length ≤ 255

/-- The lengths of a command's operands. -/
def Instr.wellFormed : Instr → Bool
  -- a frame has at least a byte, and reads of descriptors bring whole ones of 64 bytes, at most 8 (R386)
  | .frameReceive _ bytes _ => bytes.length != 0
  | .txFetch raw _ => raw.length % 64 == 0 && raw.length ≤ 512
  | .dmaErr (.txData desc) => desc.length % 64 == 0 && desc.length ≤ 512
  -- eight pause times (R97); four lanes (R89); 512 byte lanes (R437)
  | .pfcFrameReceive _ _ times => times.length == 8
  | .linkUp _ snr => snr.length == 4
  | .hbmTrain _ lanes => lanes.length == 512
  -- entries of the free ring are 8 bytes (R395), shadow entries 64 (R226)
  | .poolFetch _ _ raw => raw.length % 8 == 0
  | .winnowCompare _ raw => raw.length == 64
  | .winnowRecheck _ raw => raw.length == 64
  -- messages of the pair (Table 15-10)
  | .cmd _ _ _ _ _ data => data.length == 16
  | .frag _ entry => entry.length == 16
  | .time body => body.length == 33
  | .tally digests => digests.length == 20
  | .ckpt _ _ _ raw => raw.length % 16 == 0
  -- chain frames
  | .enumerate _ _ payload _ => chainPayloadOk payload
  | .ringHold _ _ payload _ => chainPayloadOk payload
  | .ringRelease _ _ payload _ => chainPayloadOk payload
  | .ringReset _ _ payload _ _ => chainPayloadOk payload
  | .snapshotAt _ _ payload _ => chainPayloadOk payload
  | .tallyLoad _ _ payload _ => chainPayloadOk payload
  | .tallySum _ _ payload _ => chainPayloadOk payload
  | .ringRead _ _ payload _ => chainPayloadOk payload
  | .ack _ _ payload _ => chainPayloadOk payload
  | .readResp _ _ payload _ => chainPayloadOk payload
  | .breakFrame _ _ payload _ => chainPayloadOk payload
  | .badFrames _ _ _ payload => chainPayloadOk payload
  -- a width that PCIe has (Table 13-1)
  | .pcieLinkUp width rate => (width == 4 || width == 8 || width == 16) && 1 ≤ rate.val && rate.val ≤ 6
  -- an OBS transaction reads at least one word, copy or unit (R516)
  | .obsReg _ n => n != 0
  | .obsSnap _ n => n != 0
  | .obsTrace _ _ reads => reads.length != 0
  | _ => true

end Sys2Proof
end

