-- ==== Sys2Proof/Tests/Slice0.lean ====
section
/-!
SUPPORT. Tests/Slice0.lean: ill-formed commands that the check refuses; for each statement of Obligations.lean a witness of its
hypotheses, clause by clause; and a few results whose values the spec states.
-/
namespace Sys2Proof.Tests
open Sys2Proof Sys2Proof.Machine
-- the theorems one after another: each evaluates the model in the kernel
set_option Elab.async false

/-- A booted package, its RWL fields locked, its 255 Virtual Functions enabled. -/
def up : Block := { pinLow := false, locked := true, boot := { phase := .done }, vfEnable := true, numVfs := 255 }
/-- A package whose image is being applied. -/
def booting : Block := { pinLow := false, boot := { phase := .sections } }

/-! ## Witnesses of the statements' hypotheses: tempo (spec/02) -/

theorem witness_RailsWalkToTheLevelAndTheSentinelSteps :
    up.reaches .host .pkg = true ∧ booting.reaches .boot .pkg = true ∧
    -- a step is due: tempo 0 gives margin 0, below the floor of the level, for one window more than those counted
    (let b := (up.setFld (R.DIE_SENT_FLOOR 3 up.curLevel) F.DIE_SENT_FLOOR_FLOOR 1).modDie 3 fun x => { x with below := 15 }
     b.stepping 3 = true ∧ min (0 * 1000 / 1190) (4095 * 1000 / 1190) < b.floorOf 3 ∧
     max 1 (b.fld (R.DIE_SENT_CFG 3) F.DIE_SENT_CFG_CONSEC) ≤ (b.die 3).below + 1 ∧ (b.die 3).cmdMv < b.ceiling 3 ∧
     (let c := b.modDie 3 fun x => { x with cmdMv := 810 }
      c.stepping 3 = true ∧ max 1 (c.fld (R.DIE_SENT_CFG 3) F.DIE_SENT_CFG_CONSEC) ≤ (c.die 3).below + 1 ∧ c.ceiling 3 ≤ (c.die 3).cmdMv) ∧
     (b.raise R.PKG_LEVEL_STATUS F.PKG_LEVEL_STATUS_BUSY).stepping 3 = false) := by decide +kernel

theorem witness_AvsReadBackAndSagWarnings :
    (let b := up.modDie 3 fun x => { x with settling := true }
     (b.die 3).settling = true ∧ (b.die 3).writing = false ∧ (b.die 3).settleAt ≤ b.ticks) ∧
    -- the last rail of a level change to L1 is confirmed at its target
    (let b := (((up.modDie 3 fun x => { x with writing := true, walking := true, cmdMv := 720, target := 720 }).setFld R.PKG_LEVEL_CTRL
        F.PKG_LEVEL_CTRL_LEVEL 1).raise R.PKG_LEVEL_STATUS F.PKG_LEVEL_STATUS_BUSY).setFld R.PKG_LEVEL_STATUS ⟨2, 0⟩ 7
     (b.die 3).writing = true ∧ (b.die 3).walking = true ∧ (b.die 3).cmdMv = (b.die 3).target ∧
     (∀ e : Fin 4, e ≠ 3 → (b.die e).walking = false ∧ b.fld R.PKG_LEVEL_STATUS ⟨e, e⟩ = 1) ∧
     b.flag R.PKG_LEVEL_STATUS F.PKG_LEVEL_STATUS_BUSY = true) ∧
    up.pkgHold ≠ .sag ∧ ({ up with pkgHold := .sag } : Block).pkgHold = .sag ∧
    ¬((1023 : BitVec 10).toNat * 200 < up.fld (R.DIE_SAG_CFG 3) F.DIE_SAG_CFG_WARN_PCT * up.sagRef 3) ∧
    (up.die 0).cmdMv + 10 < 776 ∧ ¬((up.die 0).cmdMv + 10 < 775 ∨ 775 + 10 < (up.die 0).cmdMv) ∧
    (up.die 3).avsFails < 2 ∧ 2 ≤ ((up.modDie 3 fun x => { x with avsFails := 2 }).die 3).avsFails ∧
    (up.raise (R.DIE_AVS_STATUS 3) F.DIE_AVS_STATUS_BUS_ERR).reaches .host .die = true ∧
    (up.raise (R.DIE_AVS_STATUS 3) F.DIE_AVS_STATUS_BUS_ERR).flag (R.DIE_AVS_STATUS 3) F.DIE_AVS_STATUS_BUS_ERR = true ∧
    F.DIE_AVS_STATUS_BUS_ERR.of 0xFFFFFFFF = 1 ∧ up.reaches .host .rgn = true ∧ bitOf 1 0 = true ∧ bitOf 0xFFFFFFFE 0 = false ∧
    (0 * 200 < up.fld (R.DIE_SAG_CFG 3) F.DIE_SAG_CFG_WARN_PCT * up.sagRef 3) ∧ bitOf 4 2 = true ∧
    F.DIE_SAG_STATUS_WARN_SEEN.of 0xFFFFFFFF = 1 := by decide +kernel

/-! ## Ports (spec/03) -/

/-- A port whose link is up, in its largest speed, with frames of 9,216 bytes. -/
def linked (p : Nat) : Block :=
  (up.raise (R.MAC_LINK_STATUS p) F.MAC_LINK_STATUS_LINK_UP).setFld (R.MAC_PORT_CFG p) F.MAC_PORT_CFG_MAX_FRAME 9216
/-- A frame of the least length: 60 bytes of zero and their FCS. -/
def least : List Byte := List.replicate 60 0 ++ fcsOf (List.replicate 60 0)

theorem witness_ReceivedFramesEnterStagingOrCountTheirError :
    (linked 255).flag (R.MAC_LINK_STATUS 255) F.MAC_LINK_STATUS_LINK_UP = true ∧ (linked 255).frozen (dieOfPort 255) = false ∧
    least.length = 64 ∧ 64 ≤ (linked 255).fld (R.MAC_PORT_CFG 255) F.MAC_PORT_CFG_MAX_FRAME ∧ fcsOk least = true ∧
    beAt least 12 2 ≠ 0x8808 ∧ (linked 255).stgFill 255 + 16384 ≤ 131072 ∧
    (linked 255).fld (R.MAC_PORT_STATE 255) F.MAC_PORT_STATE_LB_MODE = 0 ∧
    ((linked 255).setFld (R.MAC_PORT_STATE 255) F.MAC_PORT_STATE_LB_MODE 1).fld (R.MAC_PORT_STATE 255) F.MAC_PORT_STATE_LB_MODE = 1 ∧
    (linked 255).rxError 255 (least.take 63) .good = some .runt ∧ (linked 255).rxError 255 (least.take 63 ++ [1]) .good = some .fcs ∧
    ¬(14 ≤ (least.take 63).length ∧ beAt (least.take 63) 12 2 = 0x8808) := by decide +kernel
theorem witness_RxBadAfterHead :
    (let b (l : Loc) : Block := { linked 255 with frames := [(1, { port := 255, bytes := least, loc := l })],
                                                  ports := [(255, { late := [(1, .fcs)] })] }
     ((b .staging).port 255).late = [(1, .fcs)] ∧ ((b .staging).frame 1).loc = .staging ∧ ((b .pipe).frame 1).loc ≠ .staging ∧
     (b .pipe).frozen (dieOfPort 255) = false) := by decide +kernel

theorem witness_PauseFramesLoadAndReleaseTheTimers :
    (let b (m : Nat) := (linked 255).setFld (R.MAC_PAUSE_CFG 255) F.MAC_PAUSE_CFG_RX_MODE m
     (∀ m, m < 3 → (b m).receives 255 = true ∧ (b m).landsOff 255 = false) ∧ (b 1).fld (R.MAC_PAUSE_CFG 255) F.MAC_PAUSE_CFG_RX_MODE = 1 ∧ (b 2).fld (R.MAC_PAUSE_CFG 255) F.MAC_PAUSE_CFG_RX_MODE = 2 ∧
     (∀ pri : Fin 8, (b 1).broken 255 pri = false) ∧ (b 0).fld (R.MAC_PAUSE_CFG 255) F.MAC_PAUSE_CFG_RX_MODE ≠ 1) ∧
    (let b : Block := { up with ports := [(255, { quanta := [(7, 1)], loadedAt := [(7, 0)] })], ticks := 10000 }
     SMap.find (b.port 255).quanta 7 = some 1 ∧ SMap.find (b.port 255).loadedAt 7 = some 0 ∧
     1 * b.quantum 255 ≤ (b.ticks - 0) * 100) := by decide +kernel

theorem witness_PausesAreSentAndLongOnesBroken :
    (let b : Block := (((({ up with ports := [(255, { since := [(7, 0)] })], ticks := 1000 }).setFld (R.PRT_PAUSE_WDOG 255)
        F.PRT_PAUSE_WDOG_TIME 1).setFld (R.PRT_PAUSE_WDOG 255) F.PRT_PAUSE_WDOG_EN 0xFF).setFld (R.MAC_PAUSE_STATUS 255)
        F.MAC_PAUSE_STATUS_RX_PAUSED 0x80)
     b.wdogDue 255 7 = true ∧ b.wdogDue 255 6 = false ∧ b.reaches .host .prt = true ∧ (∀ n : Fin 8, b.timerOut 255 n = false)) ∧
    ({ up with ports := [(255, { quanta := [(7, 1)], loadedAt := [(7, 0)] })], ticks := 10000 } : Block).timerOut 255 7 = true ∧
    (let b : Block := { up with ports := [(255, { bufReq := 0xFF })], ticks := 100000 }.setFld (R.MAC_PAUSE_CFG 255) F.MAC_PAUSE_CFG_TX_MODE 1
     b.xoffWanted 255 &&& (255 - b.xoffNow 255) ≠ 0 ∧
     (let c := b.setFld (R.MAC_PAUSE_STATUS 255) F.MAC_PAUSE_STATUS_TX_XOFF 0xFF
      c.xoffWanted 255 &&& (255 - c.xoffNow 255) = 0 ∧ c.xoffWanted 255 &&& c.refreshDue 255 ≠ 0 ∧
      up.xoffWanted 255 &&& up.refreshDue 255 = 0 ∧ c.xoffNow 255 &&& (255 - c.xoffWanted 255) = 0 ∧
      (let e := { c with ports := [] }; e.xoffNow 255 &&& (255 - e.xoffWanted 255) ≠ 0))) ∧
    (let b : Block := { linked 255 with ports := [(255, { ctrl := [least] })] }
     (b.port 255).ctrl = [least] ∧ b.receives 255 = true ∧ b.landsOff 255 = false ∧ b.txAt 255 .preempted = none ∧
     b.txAt 255 .sending = none ∧
     -- a preemptable frame of 1,000 bytes is on the wire, which the generated frame may cut after 60 bytes and not after 59
     (let x : TxCopy := { sid := 1, q := 7936, eg := 255, stage := .sending, bytes := zeros 1000 }
      let c := { b with ports := [(255, { ctrl := [least], tx := [x] })] }.raise (R.MAC_PREEMPT_STATUS 255) F.MAC_PREEMPT_STATUS_ACTIVE
        |>.raise (R.MAC_PREEMPT_CFG 255) F.MAC_PREEMPT_CFG_PREEMPT_EN
      let c := c.setFld (R.MAC_PORT_STATE 255) F.MAC_PORT_STATE_STATE 1
      c.txAt 255 .sending = some x ∧ c.mayEnter 255 60 = true ∧ c.mayEnter 255 59 = false)) := by decide +kernel

theorem witness_PortsAreEnabledAndMaintained :
    up.reaches .host .mac = true ∧
    portCfgOk (up.word (R.MAC_PORT_CFG 255)) (F.MAC_PORT_CFG_ENABLE.put 0 1) = false ∧
    (let v := F.MAC_PORT_CFG_AN_EN.put (F.MAC_PORT_CFG_ENABLE.put ((linked 255).word (R.MAC_PORT_CFG 255)) 1) 1
     portCfgOk ((linked 255).word (R.MAC_PORT_CFG 255)) v = true ∧ F.MAC_PORT_CFG_AN_EN.of v = 1 ∧ F.MAC_PORT_CFG_MEDIA.of v ≠ 2 ∧
     (linked 255).flag (R.MAC_PORT_CFG 255) F.MAC_PORT_CFG_ENABLE = false ∧
     (let b := (linked 255).setWord (R.MAC_PORT_CFG 255) v
      portCfgOk v v = true ∧ b.flag (R.MAC_PORT_CFG 255) F.MAC_PORT_CFG_ENABLE = true ∧
      portCfgOk v (F.MAC_PORT_CFG_ENABLE.put v 0) = true)) ∧
    portStateOk 0xFFFFFFFF = false ∧ portStateOk 0 = true ∧
    F.MAC_PORT_STATE_LB_MODE.of 0 = up.fld (R.MAC_PORT_STATE 255) F.MAC_PORT_STATE_LB_MODE ∧ (up.port 255).tx = [] ∧
    F.MAC_PORT_STATE_STATE.of (F.MAC_PORT_STATE_STATE.put 0 1) ≠ 0 ∧
    (let b := (up.raise (R.MAC_PREEMPT_CFG 255) F.MAC_PREEMPT_CFG_PREEMPT_EN).lower (R.MAC_PREEMPT_CFG 255) F.MAC_PREEMPT_CFG_VERIFY_EN
     b.flag (R.MAC_PREEMPT_CFG 255) F.MAC_PREEMPT_CFG_PREEMPT_EN = true ∧ b.flag (R.MAC_PREEMPT_CFG 255) F.MAC_PREEMPT_CFG_VERIFY_EN = false) ∧
    (let b := up.setFld (R.MAC_PREEMPT_STATUS 255) F.MAC_PREEMPT_STATUS_VERIFY_STATE 1
     b.fld (R.MAC_PREEMPT_STATUS 255) F.MAC_PREEMPT_STATUS_VERIFY_STATE = 1 ∧ (b.port 255).verifyTries < 2 ∧
     2 ≤ ((b.modPort 255 fun x => { x with verifyTries := 2 }).port 255).verifyTries) ∧
    up.fld (R.MAC_PREEMPT_STATUS 255) F.MAC_PREEMPT_STATUS_VERIFY_STATE ≠ 1 := by decide +kernel

theorem witness_LinksNegotiateTrainComeUpAndGoDown :
    (let b (x : BringUp) : Block := { up with ports := [(255, { bring := x })] }
     ((b .negotiating).port 255).bring = .negotiating ∧ ((b .training).port 255).bring = .training ∧
     ((b .training).port 255).bring ≠ .negotiating ∧ ((b .adapting).port 255).bring = .adapting ∧
     (b .adapting).frozen (dieOfPort 255) = false ∧ ((b .up).port 255).bring ≠ .training ∧ ((b .up).port 255).bring ≠ .adapting) ∧
    up.flag (R.MAC_LINK_STATUS 255) F.MAC_LINK_STATUS_LINK_UP = false ∧
    (linked 255).flag (R.MAC_LINK_STATUS 255) F.MAC_LINK_STATUS_LINK_UP = true ∧ ((linked 255).port 255).tx = [] ∧
    [(0 : BitVec 32), 0, 0, 0].length = 4 := by decide +kernel

/-! ## Parsing and microcode (spec/04, spec/05) -/

/-- A frame with an EtherType and a payload of zeros, and the block in whose staging it stands, on port 255. -/
def ethFrame (ty : List Byte) (first : Byte) : List Byte :=
  let l := [2, 0, 0, 0, 0, 1, 2, 0, 0, 0, 0, 2] ++ ty ++ [first] ++ List.replicate 45 0
  l ++ fcsOf l
def staged (bytes : List Byte) : Block := { up with frames := [(1, { port := 255, bytes := bytes })], nextFrame := 2 }
/-- An IPv4 packet of a protocol that the Sieve hands off. -/
def handedOff : List Byte :=
  let l := [2, 0, 0, 0, 0, 1, 2, 0, 0, 0, 0, 2, 8, 0, 0x45, 0, 0, 46, 0, 0, 0, 0, 64, 253, 0, 0, 10, 0, 0, 1, 10, 0, 0, 2] ++ List.replicate 26 0
  l ++ fcsOf l

theorem witness_PipeTakeHead :
    (staged least).mayTake 255 = true ∧ (staged least).at_ 255 .staging = [(1, (staged least).frame 1)] ∧
    ((staged least).frame 1).me = .none ∧
    (let v := sieve (up.sieveCfg 31) (ethFrame [8, 6] 0)
     v.stop = 0 ∧ Vec.f v.hv 0 ⟨19, 16⟩ = 0 ∧ Vec.f v.hv 0 ⟨23, 20⟩ = 0) ∧
    (let v := sieve (up.sieveCfg 31) (ethFrame [8, 0] 0)
     v.stop = 0 ∧ Vec.f v.hv 0 ⟨19, 16⟩ ≠ 0 ∧ up.word (R.CLS_MAL_ACTION 31) / 4 ^ (Vec.f v.hv 0 ⟨19, 16⟩ - 1) % 4 = 0) := by
  decide +kernel
theorem witness_HandedOff :
    (let b := up.raise (R.CLS_HANDOFF 31 7) F.CLS_HANDOFF_ROUTINE_EN
     (sieve (b.sieveCfg 31) handedOff).stop = 7 ∧ b.flag (R.CLS_HANDOFF 31 7) F.CLS_HANDOFF_ROUTINE_EN = true) := by decide +kernel
theorem witness_HeadsAreParsedAndFragmentsExpire :
    up.reaches .host .prt = true ∧ up.reaches .host .cls = true ∧ F.CLS_FRAG_CFG_FRAG_LIFE.of 0 = 0 ∧
    F.CLS_FRAG_CFG_FRAG_LIFE.of 0xFFFFFFFF ≠ 0 ∧ F.CLS_FRAG_CFG_FLUSH.of 0xFFFFFFFF = 1 ∧
    F.CLS_FRAG_CFG_FRAG_LIFE.of 1 ≠ 0 ∧ F.CLS_FRAG_CFG_FLUSH.of 1 = 0 := by decide

/-- Context 63 of cluster 31 runs for frame 1, at address 4,095, where the word m stands. -/
def running (m : Micro) : Block :=
  { staged least with clusters := [(31, { store := [(4095, m.encode.toNat)], ctxs := [(63, { frame := some 1, pc := 4095 })] })] }
/-- A word with class c and operation o, as Table 5-3 numbers them, and all else 0. -/
def micro (c o : Nat) : Micro :=
  { cls := BitVec.ofNat 4 c, op := BitVec.ofNat 4 o, rel := 0, offset := 0, bitoff := 0, width := 0, value := 0, mask := 0, t0 := 0,
    t1 := 0, hvwEn := 0, hvwWord := 0, hvwLsb := 0, hvwLen := 0, hvwSrc := 0, dst := 0, aux := 0, rsv := 0 }

theorem witness_AluWordsComputeModuloTwoTo32 :
    (let m := micro 2 0
     ((running m).ctx 31 63).frame.isSome = true ∧ (running m).microAt 31 4095 = m ∧ ((running m).ctx 31 63).pc = 4095) ∧
    [micro 2 0, micro 2 1, micro 2 2, micro 2 3, micro 2 4, micro 2 5, micro 2 6, micro 2 7].map Micro.kind =
      [.add, .sub, .and, .or, .xor, .shl, .shr, .move] := by decide +kernel
theorem witness_WindowBranchAndChecksumWordsGoOn :
    ((running (micro 1 0)).ctx 31 63).frame = some 1 ∧ (running (micro 6 1)).microAt 31 4095 = micro 6 1 ∧
    [micro 1 0, micro 1 1, micro 3 0, micro 4 0, micro 5 0, micro 5 1, micro 5 2, micro 5 3, micro 6 0, micro 6 1].map Micro.kind =
      [.extEq, .extLt, .adv, .dispatch, .branch, .branchOvr, .branchEq, .branchLt, .csum, .csumContinue] := by decide +kernel
theorem witness_CheckActsOnTheFirstRequest :
    (running (micro 7 0)).microAt 31 4095 = micro 7 0 ∧ (micro 7 0).kind = .check ∧
    ((running (micro 7 0)).modDie 3 fun x => { x with phase := .parking }).holdPending 31 = true ∧
    (running (micro 7 0)).holdPending 31 = false ∧
    ¬((running (micro 7 0)).fld (R.CLS_ME_CFG 31) F.CLS_ME_CFG_STEP_LIMIT ≤ min 4095 1) := by decide +kernel
theorem witness_RoutinesStartAndEndAsTheirWordsSay :
    [micro 8 0, { micro 8 1 with aux := 10 }, micro 9 0, micro 9 1, micro 0 0, micro 8 1].map Micro.kind =
      [.end_, .endMal, .fail, .failWindow, .illegal, .illegal] ∧
    (let b := { staged least with frames := [(1, { port := 255, bytes := least, loc := .pipe, me := .waiting 4095 })] }
     b.frozen 3 = false ∧ (List.range 64).find? (fun n => (b.ctx 31 n).frame.isNone) = some 0 ∧
     ((List.range 8).map fun n => ((b.cluster 31).lastUnit + 1 + n) % 8).findSome?
       (fun v => (b.waitingAt (8 * 31 + v)).map fun e => (v, e)) = some (7, 1, 4095)) ∧
    F.CLS_ME_CTRL_ABORT.of 0xFFFFFFFF = 1 ∧ F.CLS_ME_CTRL_ABORT.of 0 = 0 ∧ F.CLS_CS_CTRL_REDIGEST.of 0xFFFFFFFF = 1 ∧
    (up.raise (R.CLS_CS_STATUS 31) F.CLS_CS_STATUS_DIGEST_BUSY).flag (R.CLS_CS_STATUS 31) F.CLS_CS_STATUS_DIGEST_BUSY = true := by
  decide +kernel

/-- The layout of Table 5-2, bit by bit: CLASS 2, OP 1, REL 1, WIDTH 31, VALUE 5, T0 4,095, DST 1, AUX 2. -/
theorem test_microword :
    Micro.decode ((2 : BitVec 192) <<< 188 ||| (1 : BitVec 192) <<< 184 ||| (1 : BitVec 192) <<< 183 ||| (31 : BitVec 192) <<< 166 |||
      (5 : BitVec 192) <<< 134 ||| (4095 : BitVec 192) <<< 90 ||| (1 : BitVec 192) <<< 56 ||| (2 : BitVec 192) <<< 48) =
    { micro 2 1 with rel := 1, width := 31, value := 5, t0 := 4095, dst := 1, aux := 2 } := by decide +kernel
/-- SUB with A of zero wraps modulo 2^32 (Table 5-4): 0 - 5 goes to X. -/
theorem test_sub_wraps :
    ((Block.aluSub 31 63 (running { micro 2 1 with value := 5, dst := 1 })).ctx 31 63).x = 0xFFFFFFFB := by decide +kernel

/-! ## The lookup sequence (spec/06) -/

/-- Frame 1 of port 255, at stage n of its pipe, with header vector, record and carry word 3 as given. -/
def atPipe (n : Nat) (hv rec_ : Vec) (route : Nat) : Frame :=
  { port := 255, bytes := least, loc := .pipe, stage := n, hv := hv, rec_ := rec_, carry := Vec.put [] 3 Cy.route route }
def inPipe (f : Frame) : Block := { up with frames := [(1, f)] }
/-- An IPv4 packet for 0.0.0.1 after S2 asked for routing; one with a label. -/
def routed : Frame := atPipe 3 [(1, 2 ^ 4), (20, 1), (4, 1)] [] 1
def labelled : Frame := atPipe 1 [(1, 8)] [] 0

theorem witness_StagesPassFramesOnInOrder :
    (∀ n, n < 7 → (inPipe (atPipe n [] [] 0)).atStage 255 n = some (1, atPipe n [] [] 0)) ∧
    (inPipe (atPipe 0 [] [] 0)).frame 1 = atPipe 0 [] [] 0 ∧ (inPipe (atPipe 0 [] [] 0)).frozen (dieOfPort 255) = false ∧
    (inPipe (atPipe 0 [] [] 0)).atStage 255 1 = none := by decide +kernel

theorem witness_S1 :
    (atPipe 1 [] [] 0).over = false ∧ up.s1Key (atPipe 1 [] [] 0) = none ∧ (atPipe 1 [] (Vec.put [] 0 D.act 1) 0).over = true ∧
    (let b := (inPipe labelled).raise (R.PRT_LOOKUP_CFG 255) F.PRT_LOOKUP_CFG_MPLS_EN
     b.atStage 255 1 = some (1, labelled) ∧ labelled.over = false ∧ b.s1Key labelled = some (true, false, 3 * 2 ^ 28) ∧
     b.emFind 3 T.tunnel false (3 * 2 ^ 28) = none ∧ (b.askAll 1 (b.s1Asks labelled)).1 = true ∧
     (let c := { b with engines := [(3, { em := [(b.emPlace 3 T.tunnel false (3 * 2 ^ 28) 3, { kind := 3, key := 3 * 2 ^ 28 })] })] }
      (c.emFind 3 T.tunnel false (3 * 2 ^ 28)).isSome = true)) := by decide +kernel
theorem witness_S2 :
    (let b := (inPipe (atPipe 2 [] [] 0)).raise (R.PRT_LEARN_CFG 255) F.PRT_LEARN_CFG_LEARN_EN
     b.atStage 255 2 = some (1, atPipe 2 [] [] 0) ∧ (atPipe 2 [] [] 0).over = false ∧ b.emFind 3 T.l2 false 0 = none ∧
     b.flag (R.PRT_LEARN_CFG 255) F.PRT_LEARN_CFG_LEARN_EN = true ∧ (atPipe 2 [] [] 0).host = none ∧
     (∀ q, q < 256 → .cand 0 q ∉ (b.engine 3).glQueue) ∧ (b.engine 3).glQueue.length < 4096 ∧ (b.askAll 1 (b.s2Asks (atPipe 2 [] [] 0))).1 = true ∧
     (let c := { b with engines := [(3, { em := [(b.emPlace 3 T.l2 false 0 0, {})] })] }
      (c.emFind 3 T.l2 false 0).isSome = true)) := by decide +kernel
theorem witness_S3 :
    (let b := inPipe routed
     b.atStage 255 3 = some (1, routed) ∧ routed.over = false ∧ Vec.f routed.carry 3 Cy.route ≠ 0 ∧
     s3Addr (Vec.f routed.rec_ 0 D.term == 1) routed.hv = some (0, 1) ∧
     b.emFind 3 T.host false 1 = none ∧ (b.lpmSearch 3 0 0 (2 ^ 96)).1 = none ∧ (b.askAll 1 (b.s3Asks routed)).1 = true ∧
     (let c := { b with engines := [(3, { em := [(b.emPlace 3 T.host false 1 0, { kind := 5, key := 1 })] })] }
      (c.emFind 3 T.host false 1).isSome = true) ∧
     (let c := { b.raise (R.TBL_LPM_BSEL 3 0) F.TBL_LPM_BSEL_EN with engines := [(3, { lpm := [(0, { valid := true })] })] }
      (c.askAll 1 (c.s3Asks routed)).1 = true ∧ (c.lpmSearch 3 0 0 (2 ^ 96)).1 = some (3, { valid := true }))) ∧
    Vec.f (atPipe 3 [] [] 0).carry 3 Cy.route = 0 := by decide +kernel
theorem witness_S4 :
    (let g (v : Nat) : Block :=
       ((((inPipe (atPipe 4 [] [] 0)).setWord (R.CLS_ACL_SET 31 0) v).setFld (R.CLS_ACL_GROUP 31 0) F.CLS_ACL_GROUP_BANKS 1).setFld
         (R.CLS_ACL_GROUP 31 3) F.CLS_ACL_GROUP_BANKS 2).modEngine 3 fun e =>
           { e with aclIn := [(7 * 32768, { valid := true }), (7 * 32768 + 2048, { valid := true, action := [(0, 1)] })] }
     let f := atPipe 4 [] [] 0
     (∀ n, n < 4 → aclEn ((g 0).word (R.CLS_ACL_SET 31 0)) n = false) ∧
     (∀ k, k < 4 → (aclEn ((g 0x10).word (R.CLS_ACL_SET 31 0)) k = true ↔ k = 0)) ∧
     (∀ k, k < 4 → (aclEn ((g 0x80010).word (R.CLS_ACL_SET 31 0)) k = true ↔ k = 0 ∨ k = 3)) ∧
     ((g 0x10).askAll 1 ((g 0x10).s4Asks f)).1 = true ∧ ((g 0x80010).askAll 1 ((g 0x80010).s4Asks f)).1 = true ∧
     ((g 0x10).aclGroup f 31 0 0).1 = some { valid := true } ∧
     ((g 0x80010).aclGroup f 31 3 0).1 = some { valid := true, action := [(0, 1)] } ∧
     (((g 0x10).modEngine 3 fun _ => {}).aclGroup f 31 0 0).1 = none) := by decide +kernel

/-- Engine 3 with one entry of a direct table. -/
def withEntry (f : Frame) (t i : Nat) (v : Vec) : Block := { inPipe f with engines := [(3, { direct := [(t * 2 ^ 20 + i, v)] })] }

theorem witness_ResolutionAndMetering :
    (let f (k : Nat) : Frame := atPipe 5 [] (Vec.put [] 0 D.fwdKind k) 0
     (∀ k, k < 4 → (inPipe (f k)).atStage 255 5 = some (1, f k) ∧ Vec.f (f k).rec_ 0 D.fwdKind = k ∧ (f k).over = false) ∧
     (f 0).fragSlot = none ∧ (f 0).fragUse = false ∧
     Vec.f ((withEntry (f 0) T.nexthop 0 (Vec.put [] 0 ⟨31, 31⟩ 1)).entry 3 T.nexthop 0) 0 ⟨31, 31⟩ = 1) ∧
    (let y : Frame := { atPipe 5 [] [] 0 with fragUse := true, reason := 1, fragKey := [1] }
     let k := crc32 [1] % 1024 * 8
     let b (e : FragEntry) : Block := { inPipe y with clusters := [(31, { frags := [(k, e)] })] }
     y.over = true ∧ ((inPipe y).fragFind 31 false [1]) = none ∧ (b { key := [1] }).fragFind 31 false [1] = some k ∧
     SMap.find ((b { key := [1] }).cluster 31).frags k = some { key := [1] } ∧
     ((b { key := [1] }).ticks - 0) / 1000 < (b { key := [1] }).fragLife 31 ∧
     (b { key := [1], pending := false }).fragFind 31 false [1] = some k ∧
     Vec.f (FragEntry.result { key := [1], pending := false }) 0 D.fwdKind ≠ 2) ∧
    (let y (p c : Nat) : Frame := atPipe 6 [] ((Vec.put [] 3 D.policeEn p).put 3 D.countEn c) 0
     (inPipe (y 0 0)).atStage 255 6 = some (1, y 0 0) ∧ Vec.f (y 0 0).rec_ 3 D.policeEn = 0 ∧ Vec.f (y 0 0).rec_ 3 D.countEn = 0 ∧
     Vec.f (y 0 1).rec_ 3 D.countEn = 1 ∧ Vec.f (y 0 1).rec_ 3 D.policeEn = 0 ∧ Vec.f (y 1 0).rec_ 3 D.policeEn = 1 ∧
     Vec.f (y 1 0).rec_ 3 D.countEn = 0 ∧
     -- with an empty committed and an empty peak bucket the frame is red, and a policer with DROP_RED drops it
     (meter 0 0 0 0 512000).1 = 2) := by decide +kernel

theorem witness_FramesEnterTheSourceFifosOrWait :
    (let f (act : Nat) : Frame := atPipe 7 [] ((Vec.put [] 0 D.act act).put 0 D.resolved 1) 0
     (inPipe (f 0)).at_ 255 .llWait = [] ∧ (inPipe (f 0)).atStage 255 7 = some (1, f 0) ∧ (f 0).bytes.length < 2 ^ 14 ∧
     Vec.f (f 0).rec_ 1 D.sampleEn = 0 ∧ (f 0).reason = 0 ∧ Vec.f (f 1).rec_ 0 D.act = 1 ∧ Vec.f (f 0).rec_ 0 D.act = 0 ∧
     Vec.f (f 0).rec_ 0 D.resolved = 1 ∧ Vec.f (f 0).rec_ 0 D.fwdKind ≠ 2 ∧ (f 0).dropBy = 0 ∧
     (inPipe (f 0)).frozen 0 = false ∧ 32768 ≤ (inPipe (f 0)).fifoFree 3 0 ∧ (inPipe (f 0)).xbLossless 3 0 = false ∧
     ((inPipe (f 0)).modDie 0 fun x => { x with phase := .held }).frozen 0 = true ∧
     ((inPipe (f 0)).setWord (R.XEP_XB_LL 3 0) 1).xbLossless 3 0 = true) ∧
    (let g : Frame := { atPipe 7 [] [] 0 with loc := .llWait, dests := [7] }
     (inPipe g).at_ 255 .llWait = [(1, g)] ∧ g.dests = [7] ∧ 32768 ≤ (inPipe g).fifoFree 3 7) := by decide +kernel
/-- A source FIFO with any number of bytes free up to 256 KiB: 16,383, 16,384 and 32,768 among them. -/
theorem witness_FifoFull (n : Nat) :
    ({ up with fifos := [(24, [{ pkt := { bytes := List.replicate n 0 } }])] } : Block).fifoFree 3 0 = 262144 - n := by
  simp [Block.fifoFree, Block.fifo, SMap.get]

/-! ## Tables and their engine (spec/06 to spec/09) -/

/-- Die 3's engine as given. -/
def eng (e : Engine) : Block := { up with engines := [(3, e)] }

theorem witness_TableCommandsAreAcceptedInOrder :
    Writer.host ≠ .boot ∧ up.reaches .host .tbl = true ∧
    (up.raise (R.TBL_CMD_STATUS 3) F.TBL_CMD_STATUS_BUSY).flag (R.TBL_CMD_STATUS 3) F.TBL_CMD_STATUS_BUSY = true ∧
    up.flag (R.TBL_CMD_STATUS 3) F.TBL_CMD_STATUS_BUSY = false ∧ up.mirroring = false ∧
    ((eng { ops := [{ via := .commit }] }).engine 3).ops.any (fun x => x.via.requester == 0) = true := by decide

theorem witness_CompletedCommandsReadAndWriteDirectTables :
    (let o (op i : Nat) (v : Vec) : TblOp := { op := op, table := T.nexthop, index := i, data := v }
     ((eng { ops := [o 0 262143 []] }).engine 3).ops = [o 0 262143 []] ∧ (o 0 0 []).via = .reg ∧ (o 0 0 []).seq = none ∧
     (o 0 0 []).done = false ∧ (o 0 0 []).after = [] ∧ up.pair.handing = false ∧ up.pair.promoting = false ∧
     directHas T.nexthop 262143 = true ∧ directHas T.nexthop 262144 = false ∧ directOk T.nexthop 262143 [] = true ∧
     directOk T.nexthop 262143 [(15, 1)] = false) := by decide +kernel

/-- The INSERT image of an L2 entry with key 1 (Table 7-2). -/
def l2Image : Vec := [(0, 1), (3, 2 ^ 31)]
theorem witness_InsertedEntriesAreFoundByTheirKey :
    insertOk T.l2 l2Image = true ∧ (up.insert 3 T.l2 0 l2Image).status = S.ok ∧ (up.insert 3 T.l2 0 l2Image).moves = 0 := by
  decide +kernel
theorem witness_DeletesByKeyFreeTheSlot :
    keyOk T.l2 (imgKind l2Image) (imgKey l2Image) = true ∧ kindTwo (imgKind l2Image) = false ∧ imgKey l2Image = 1 ∧
    (let s := up.emPlace 3 T.l2 false 1 3
     (eng { em := [(s, { key := 1 })] }).emFind 3 T.l2 false 1 = some (s, { key := 1 })) := by decide +kernel
theorem witness_LpmSearchesAnswerTheFirstMatch :
    (let b := (eng { lpm := [(0, {}), (4095, { valid := true, action := [(0, 1)] })] }).raise (R.TBL_LPM_BSEL 3 0) F.TBL_LPM_BSEL_EN
     b.lpmBanks 3 0 0 0 = some (0, 1) ∧ b.lpmFind 3 0 0 0 = some (4095, { valid := true, action := [(0, 1)] })) ∧
    SMap.wf ({} : Assoc) [(4095, ({ valid := true } : Assoc))] = true := by decide +kernel
theorem witness_BlockMovesShiftEveryEntryByOne :
    (let o : TblOp := { table := T.aclOut, data := [(0, 16382)] }
     o.arg = 0 ∧ Vec.f o.data 0 ⟨17, 0⟩ = 16382 ∧ Vec.f o.data 0 ⟨31, 18⟩ = 0 ∧ 16382 + 1 < assocSize T.aclOut ∧
     ((up.engine 3).assoc T.aclOut 0 16383).valid = false) := by decide +kernel

theorem witness_CommitsCopyTheStagedWordsAndFencesEnd :
    F.TBL_EM_TMPL_CTRL_COMMIT.of 0xFFFFFFFF = 1 ∧ up.flag (R.TBL_EM_TMPL_CTRL 3) F.TBL_EM_TMPL_CTRL_BUSY = false ∧
    up.word (R.TBL_EM_TMPL_STAGE 3 0) / 2 ^ 29 < 4 ∧ 4 ≤ (up.setWord (R.TBL_EM_TMPL_STAGE 3 0) (2 ^ 31)).word (R.TBL_EM_TMPL_STAGE 3 0) / 2 ^ 29 ∧
    (let o : TblOp := { via := .commit, op := 2, index := 63 }
     ((eng { ops := [o] }).engine 3).ops = [o] ∧ o.seq = none ∧ o.done = false ∧ o.after = [] ∧ o.index < 64) ∧
    F.TBL_FENCE_ISSUE.of 0xFFFFFFFF = 1 ∧ 3 ≤ ((eng { fences := [⟨0, 0, 0, 0⟩, ⟨1, 0, 1, 0⟩, ⟨2, 0, 2, 0⟩] }).engine 3).fences.length ∧
    (up.engine 3).fences.length < 3 ∧ up.frozen 3 = false ∧ (up.engine 3).fences = [] ∧
    (up.modDie 3 fun x => { x with phase := .held }).frozen 3 = true ∧
    (let b : Block := { eng { fences := [⟨255, 0, 0, 0⟩], epoch := 1 } with ticks := 1000000 }
     b.fenceLeft 3 0 = 0 ∧
     (let c := { b.setFld (R.TBL_FENCE_CFG 3) F.TBL_FENCE_CFG_LIMIT 1 with frames := [(1, { atPipe 1 [] [] 0 with epoch := 0 })] }
      c.fenceLeft 3 0 ≠ 0 ∧ c.fld (R.TBL_FENCE_CFG 3) F.TBL_FENCE_CFG_LIMIT ≠ 0 ∧
      c.fld (R.TBL_FENCE_CFG 3) F.TBL_FENCE_CFG_LIMIT * 1000000 ≤ c.ticks - 0 ∧ F.TBL_FENCE_CFG_LIMIT.of 1 ≠ 0 ∧
      F.TBL_FENCE_CFG_LIMIT.of 1 * 1000000 ≤ c.ticks - 0) ∧
     (b.setFld (R.TBL_FENCE_CFG 3) F.TBL_FENCE_CFG_LIMIT 0).fld (R.TBL_FENCE_CFG 3) F.TBL_FENCE_CFG_LIMIT = 0) := by decide +kernel

theorem witness_TheGleanerLearnsMovesAndAges :
    (let b (em : SMap EmEntry) : Block := eng { em := em, glQueue := [.cand 1 255] }
     let s := up.emPlace 3 T.l2 false 1 0
     ((b []).engine 3).glQueue = [.cand 1 255] ∧ (b []).glTurn 3 = true ∧ up.glTurn 3 = true ∧
     ((b []).modDie 3 fun x => { x with phase := .held }).glTurn 3 = false ∧
     ((b []).modEngine 3 fun e => { e with lastGl := true, ops := [{}] }).glTurn 3 = false ∧
     (b [(s, { kind := 1, key := 1 })]).emFind 3 T.l2 false 1 = some (s, { kind := 1, key := 1 }) ∧
     (b [(s, { kind := 2, key := 1 })]).emFind 3 T.l2 false 1 = some (s, { kind := 2, key := 1 }) ∧
     0 ≠ Vec.f ((b []).learnImage 3 1 255) 3 ⟨19, 2⟩ ∧ (b []).emFind 3 T.l2 false 1 = none ∧
     ((eng {}).insert 3 T.l2 reqGleaner ((b []).learnImage 3 1 255)).status = S.ok) := by decide +kernel
theorem witness_Ageing :
    (let b : Block := eng { quantumTicks := 1000000000, sweeping := true, clock := 32768 }
     b.frozen 3 = false ∧ (b.engine 3).quantum * 1000000 ≤ (b.engine 3).quantumTicks ∧ (b.engine 3).sweeping = true) ∧
    (let s := up.emPlace 3 T.l2 false 1 0
     let b (clock : Nat) : Block := (eng { em := [(s, { kind := 2, key := 1 })], glQueue := [.removal T.l2 false 1], clock := clock }).raise
       (R.TBL_GLN_AGE_CFG 3) F.TBL_GLN_AGE_CFG_L2_EN
     ((b 0).engine 3).glQueue = [.removal T.l2 false 1] ∧ (b 0).glTurn 3 = true ∧
     (b 0).emFind 3 T.l2 false 1 = some (s, { kind := 2, key := 1 }) ∧ (b 0).aged 3 2 = true ∧
     ((b 0).engine 3).age { kind := 2, key := 1 } < (b 0).fld (R.TBL_GLN_AGE_CFG 3) F.TBL_GLN_AGE_CFG_LIMIT ∧
     (b 0).fld (R.TBL_GLN_AGE_CFG 3) F.TBL_GLN_AGE_CFG_LIMIT ≤ ((b 32768).engine 3).age { kind := 2, key := 1 } ∧
     ((b 0).modEngine 3 fun e => { e with em := [] }).emFind 3 T.l2 false 1 = none) := by decide +kernel

theorem witness_WinnowComparesStopsAndRechecks :
    (let b (t : Nat) := up.setFld (R.TBL_WIN_CFG 3) F.TBL_WIN_CFG_TABLE t
     F.TBL_WIN_CTRL_START.of (F.TBL_WIN_CTRL_START.put 0 1) = 1 ∧ F.TBL_WIN_CTRL_STOP.of (F.TBL_WIN_CTRL_START.put 0 1) = 0 ∧ F.TBL_WIN_CTRL_STOP.of 0xFFFFFFFF = 1 ∧
     (b T.counter).winTable 3 = T.counter ∧ (b T.portVlan).winBusy 3 = false ∧ (b T.portVlan).winTable 3 ≠ T.counter ∧
     (b T.portVlan).winTable 3 ≠ T.frag ∧ (b T.portVlan).winTable 3 < 16) ∧
    (let b := (up.raise (R.TBL_WIN_STATUS 3) F.TBL_WIN_STATUS_BUSY).setFld (R.TBL_WIN_COUNT 3) F.TBL_WIN_COUNT_V 2
     b.winBusy 3 = true ∧ b.winPos 3 + 1 < b.winCount 3 ∧ (List.replicate 64 (0 : Byte)).length = 64 ∧ b.winDiffs 3 T.portVlan 0 0 [] = [] ∧
     b.winDiffs 3 T.portVlan 0 0 (Vec.ofList [2 ^ 31]) ≠ []) ∧
    (let x : Recheck := ⟨T.portVlan, 0, 0, 0, 0, 0⟩
     let b (n : Nat) : Block := { eng { rechecks := [x] } with ticks := n }
     let r := up.fld (R.TBL_WIN_RECHECK 3) F.TBL_WIN_RECHECK_V
     ((b 0).engine 3).rechecks = [x] ∧ (b 0).winAgain 3 x [] = [] ∧
     ((b 0).winAgain 3 { x with cause := 1 } (Vec.ofList [2 ^ 31])).length = 1 ∧ (b (r * 1000 - 1)).ticks - 0 < r * 1000 ∧ r * 1000 ≤ (b (r * 1000)).ticks - 0) := by
  decide +kernel

/-! ## Links, buffer, Silo, HBM (spec/10) -/

theorem witness_LinksReplayAndSiloFramesComeBackInOrder :
    up.linkUpTo 3 (otherDie 3 2) = false ∧
    (let b (m n : Nat) : Block := { up with links := [(linkKey 3 2, { trained := true, failsLow := m, failsHigh := n })] }
     (b 0 0).linkUpTo 3 (otherDie 3 2) = true ∧ (b 15 15).linkFails 3 2 < 16 ∧ (b 15 15).linkFails 2 3 < 16 ∧
     16 ≤ (b 0 16).linkFails 3 2 ∧ 16 ≤ (b 16 0).linkFails 2 3) ∧
    (let b (n : Nat) : Block := { up.modDie 3 fun x => { x with phase := .held } with ticks := n }
     let idle := up.fld (R.HBM_CTRL_CFG 3) F.HBM_CTRL_CFG_SR_IDLE * 1000
     (b 0).frozen 3 = true ∧ idle ≤ (b idle).ticks - SMap.get 0 ((b 0).die 3).srAt 1) ∧
    (let f : SiloFrame := { pkt := { bytes := least }, whole := true }
     let bad : SiloFrame := { f with pkt := { bytes := least, bad := true } }
     -- the queue with one Silo frame, and the reads of frame 1, or of none, still owed by the HBM
     let b (f : SiloFrame) (c : Option Nat) (m : SMap HbmChan) : Block := { up.setFld (R.RGN_QSPILL 7 8191) F.RGN_QSPILL_REFILL 1 with
       hbms := m, regions := [(7, { queues := [(8191, { silo := [f], spilled := true, copying := c, ptrs := c.toList.map fun s => { sid := s } })],
                                    stored := [(1, { pkt := f.pkt, refs := 1, q := 8191, own := 1 })], next := 2 })] }
     let owed : SMap HbmChan := [(3 * 2 ^ 17, { waiting := [], banks := [(0, { reqs := [{ tag := siloTag 7 1 }] })] })]
     let c := b f none []
     c.frozen 3 = false ∧ ((c.region 7).queue 8191).silo = [f] ∧ f.void = false ∧ ((c.region 7).queue 8191).copying = none ∧
     (f.whole = true ∧ ((c.region 7).queue 8191).onDie < c.fld (R.RGN_QSPILL 7 8191) F.RGN_QSPILL_REFILL ∧
      cellsOf f.pkt.bytes.length ≤ c.freeShared 7 ∧ (c.region 7).ptrUsed < 262144 ∧ (c.region 7).mcPend = []) ∧
     c.siloBusy 3 = false ∧ c.siloTurn 7 8191 = true ∧ f.pkt.bad = false ∧ bad.pkt.bad = true ∧ bad.void = false ∧ bad.whole = true ∧
     (b bad none []).siloTurn 7 8191 = true ∧
     ¬(((c.region 7).queue 8191).onDie <
       (c.setFld (R.RGN_QSPILL 7 8191) F.RGN_QSPILL_REFILL 0).fld (R.RGN_QSPILL 7 8191) F.RGN_QSPILL_REFILL) ∧
     (b f (some 1) []).siloBusy 3 = true ∧ c.siloTurn 7 8190 = false ∧
     (let e := b f (some 1)
      ((e []).region 7 |>.queue 8191).copying = some 1 ∧ (e []).hbmOwes 3 (siloTag 7 1) = false ∧
      (SMap.find ((e []).region 7).stored 1).isSome = true ∧
      (((e []).region 7).queue 8191).ptrs.find? (fun z => z.sid == 1) = some { sid := 1 } ∧ (e owed).hbmOwes 3 (siloTag 7 1) = true)) := by
  decide +kernel

/-- A frame in the source FIFO of die 3 toward region 7. -/
def crossing (k : Pkt) (st : CellState) (g : Region) : Block :=
  { up with fifos := [(31, [{ pkt := k, st := st }])], regions := [(7, g)] }
theorem witness_FramesAreAdmittedStoredAndEnqueued :
    (let k : Pkt := { bytes := least }
     let b := crossing k .waiting {}
     b.inputUp 7 3 = true ∧ up.inputUp 7 0 = false ∧ nextWaiting false [] (b.input 7 3) = some 0 ∧
     ((b.input 7 3).getD 0 {}).pkt = k ∧ nextWaiting false [] (up.input 7 3) = none ∧
     ((b.modDie 3 fun x => { x with refusing := true }).die 3).refusing = true ∧ (b.die 3).refusing = false ∧
     Vec.f k.desc 0 D.fwdKind ≠ 2 ∧ b.qcfg 7 k.queue F.RGN_QCFG_PO_CLASS = 0 ∧ (b.judge 7 k.queue k).1 = .onDie ∧
     (b.region 7).mcPend = [] ∧
     ((b.setFld (R.RGN_QCFG 7 k.queue) F.RGN_QCFG_MIN 0).setFld (R.RGN_BUF_CFG 7) F.RGN_BUF_CFG_HDRM_POOL 262143 |>.judge 7 k.queue k).1
       = .refuse ∧
     (let c := (crossing k .waiting { queues := [(k.queue, { spilled := true })] }).setFld (R.RGN_QLIM 7 k.queue) F.RGN_QLIM_SILO_MAX 1
      (c.judge 7 k.queue k).1 = .silo ∧
      ((c.region 7).queue k.queue).siloCells + 64 ≤ c.fld (R.RGN_QLIM 7 k.queue) F.RGN_QLIM_SILO_MAX * 4096 ∧
      c.siloGranted 3 + 64 ≤ 188743680)) ∧
    (let k : Pkt := { id := 1, bytes := least, desc := Vec.put [] 0 D.fwdKind 2 }
     Vec.f k.desc 0 D.fwdKind = 2 ∧ k.id ≠ 0 ∧ 0 ≤ up.fld (R.RGN_MC_CFG 7) F.RGN_MC_CFG_PEND_LIMIT ∧
     (let b := (crossing k .waiting { mcPend := [⟨1, 0, 1, false⟩] }).setFld (R.RGN_MC_CFG 7) F.RGN_MC_CFG_PEND_LIMIT 0
      b.fld (R.RGN_MC_CFG 7) F.RGN_MC_CFG_PEND_LIMIT < (((b.region 7).mcPend.map fun m => m.left).sum))) := by decide +kernel
theorem witness_TailsAndPointers :
    (let b (k : Pkt) (st : CellState) := crossing k st { stored := [(1, { pkt := k, refs := 1, own := 1 })], next := 2 }
     let k : Pkt := { bytes := least }
     let at_ (x : Block) := ((List.range (x.input 7 3).length).filter fun j => ((x.input 7 3).getD j {}).st.isOpen)[0]?
     at_ (b k .waiting) = none ∧ at_ (b k .refused) = some 0 ∧ at_ (b k (.writing 1)) = some 0 ∧
     (((b k .refused).input 7 3).getD 0 {}).pkt.late = none ∧ (Pkt.late { k with late := some .fcs }) ≠ none ∧ k.bad = false ∧
     SMap.find ((b k (.writing 1)).region 7).stored 1 = some { pkt := k, refs := 1, own := 1 }) ∧
    (let b (m : McPend) : Block := { up with regions := [(7, { mcPend := [m], stored := [(1, { mc := true, own := 1 })], next := 2 })] }
     (b ⟨1, 0, 1, true⟩).frozen 3 = false ∧ ((b ⟨1, 0, 33, false⟩).region 7).mcPend = [⟨1, 0, 33, false⟩] ∧
     -- a member of region 7 joins class queue 0 of its port 255
     (let c := (b ⟨1, 0, 1, false⟩).modEngine 3 fun e => { e with direct := [(T.mcast * 2 ^ 20 + 2 ^ 19, [(0, 2 ^ 31 + 255 * 2 ^ 18)])] }
      let e := c.entry 3 T.mcast (2 ^ 19 + 0)
      Vec.f e 0 ⟨31, 31⟩ = 1 ∧ Vec.f e 0 ⟨25, 18⟩ = 255 ∧ Vec.f [] 0 ⟨30, 30⟩ = 0 ∧ c.lossless 7 7936 = false ∧
      ((c.region 7).queue 7936).spilled = false ∧ c.maySpill 7 7936 = false ∧ (c.region 7).ptrUsed < 262144 ∧
      c.alphaOk 7 7936 (cellsOf 64) = true)) := by decide +kernel

/-! ## Egress (spec/09, spec/11, spec/03) -/

/-- Region 7 holds a whole frame of port 255's class queue 0, its pointer waiting, with the link up. -/
def queued : Block :=
  { linked 255 with regions := [(7, { stored := [(1, { pkt := { id := 1, bytes := least }, whole := true, refs := 1, q := 7936, own := 1 })],
                                      queues := [(7936, { ptrs := [{ sid := 1, eg := 255 }], use := 1 })], next := 2 })] }
/-- The same frame's copy in the transmit path. -/
def sending (s : Stored) (l : List TxCopy) : Block :=
  { linked 255 with regions := [(7, { stored := [(1, s)], next := 2 })], ports := [(255, { tx := l })] }
def copy (st : TxStage) : TxCopy := { sid := 1, q := 7936, eg := 255, stage := st, bytes := least.take 60 }
def held (s : Bool) (bad : Bool) : Stored := { pkt := { id := 1, bytes := least, bad := bad }, whole := s, refs := 1, own := 1 }

theorem witness_SchedulerPick :
    queued.frozen (dieOfPort 255) = false ∧ ((queued.seen 255 0).headOf 7 7936).isSome = true ∧
    queued.flag (R.MAC_LINK_STATUS 255) F.MAC_LINK_STATUS_LINK_UP = true ∧ (((queued.seen 255 0).pick 255 false).1.map fun x => x.1) = some 0 ∧
    (let b := (queued.lower (R.MAC_LINK_STATUS 255) F.MAC_LINK_STATUS_LINK_UP).lower (R.MAC_PORT_CFG 255) F.MAC_PORT_CFG_DOWN_ACTION
     b.flushing 255 = true ∧ (((b.seen 255 0).pick 255 true).1.map fun x => x.1) = some 0) ∧
    (let b := (queued.lower (R.MAC_LINK_STATUS 255) F.MAC_LINK_STATUS_LINK_UP).raise (R.MAC_PORT_CFG 255) F.MAC_PORT_CFG_DOWN_ACTION
     b.flag (R.MAC_LINK_STATUS 255) F.MAC_LINK_STATUS_LINK_UP = false ∧ b.flushing 255 = false) := by decide +kernel
theorem witness_CopiesArePickedAndPassTheEgressStages :
    (let b := sending (held true false) [copy .e0]
     b.flag (R.RGN_MISS_CFG 7) F.RGN_MISS_CFG_EACL_EN = false ∧
     (let c (a : Vec) := ((sending (held true false) [copy .e0]).raise (R.RGN_MISS_CFG 7) F.RGN_MISS_CFG_EACL_EN).modEngine 3 fun e =>
        { e with aclOut := [(16383, { valid := true, action := a })] }
      (c []).flag (R.RGN_MISS_CFG 7) F.RGN_MISS_CFG_EACL_EN = true ∧
      ((c []).engine 3).aclOut.find? (fun e => e.2.aclMatch (eaclKey [] 255)) = some (16383, { valid := true }) ∧
      bitOf (Assoc.aclRec { valid := true }).ovr 0 = false ∧ bitOf (Assoc.aclRec { valid := true }).ovr 8 = false ∧
      (let a : Assoc := { valid := true, action := (Vec.put [] 0 D.act 1).put 5 ⟨31, 16⟩ 1 }
       bitOf a.aclRec.ovr 0 = true ∧ Vec.f (mergeRec egressGroups [] a.aclRec) 0 D.act = 1)) ∧
     b.rwEntries 3 0 = none ∧ (copy .e1).q < 8192 ∧ (b.txPkt 255 (copy .e1)).host = none ∧
     (let c := b.modEngine 3 fun e => { e with direct := [(T.rewrite * 2 ^ 20, [(0, 2 ^ 31)])] }
      c.rwEntries 3 0 = some ([(0, 2 ^ 31)], none) ∧
      (match rewrite (c.txPkt 255 (copy .e1)) [] [(0, 2 ^ 31)] none false 0 0 with | .ok o => !o.wait | .error _ => false) = true) ∧
     b.gateOn 255 = false ∧ (b.raise (R.PRT_GATE_CFG 255) F.PRT_GATE_CFG_EN).gateOn 255 = true ∧
     (b.setFld (R.PRT_GATE_SDU 255 0) F.PRT_GATE_SDU_V 63).fld (R.PRT_GATE_SDU 255 0) F.PRT_GATE_SDU_V < 64 ∧
     Vec.f (copy .e2).desc 15 ⟨31, 31⟩ = 0 ∧ Vec.f ({ copy .e2 with desc := [(15, 2 ^ 31)] } : TxCopy).desc 15 ⟨31, 31⟩ = 1) := by
  decide +kernel
theorem witness_FramesStartAndEndOnTheWire :
    (let b := sending (held true false) [copy .fifo]
     (b.port 255).tx = [copy .fifo] ∧ b.frozen (dieOfPort 255) = false ∧
     b.flag (R.MAC_LINK_STATUS 255) F.MAC_LINK_STATUS_LINK_UP = true ∧ ((b.region 7).frame 1).whole = true ∧
     ((b.region 7).frame 1).refs = 1 ∧ (b.region 7).owes 1 = false ∧ b.fld (R.MAC_PORT_STATE 255) F.MAC_PORT_STATE_LB_MODE ≠ 2 ∧
     0 < b.fld (R.PRT_CT_CFG 255) F.PRT_CT_CFG_THRESH * 64 ∧
     (((sending (held false true) [copy .fifo]).region 7).frame 1).pkt.bad = true ∧
     (b.setFld (R.MAC_PORT_STATE 255) F.MAC_PORT_STATE_LB_MODE 2).fld (R.MAC_PORT_STATE 255) F.MAC_PORT_STATE_LB_MODE = 2 ∧
     (b.raise (R.MAC_PREEMPT_STATUS 255) F.MAC_PREEMPT_STATUS_ACTIVE).flag (R.MAC_PREEMPT_STATUS 255) F.MAC_PREEMPT_STATUS_ACTIVE = true ∧
     ((sending (held true false) [copy .sending, { copy .fifo with express := true }]).port 255).tx =
       [copy .sending, { copy .fifo with express := true }]) := by decide +kernel
theorem witness_ShapersRefillAndQueuesAreSampled :
    (up.shStaged 7 9215 0).ok = true ∧ (up.shStaged 7 9215 (2 ^ 31)).ok = false ∧
    (up.modDie 3 fun x => { x with phase := .held }).frozen 3 = true ∧
    (let s : Shaper := { cfg := { minEn := true, minRate := 1000, minBurst := 1 } }
     s.commit.cfg.minEn = true ∧ s.commit.minTok ≤ burstTok s.commit.cfg.minBurst ∧
     s.commit.minTok + (s.commit.cfg.minRate * 65536 / 1000 : Nat) ≤ burstTok s.commit.cfg.minBurst) ∧
    (queued.region 7).queue 7936 = { ptrs := [{ sid := 1, eg := 255 }], use := 1 } ∧
    ((queued.region 7).queue 7936).onDie + ((queued.region 7).queue 7936).siloCells < 2 ^ 32 ∧
    ((queued.region 7).queue 0).ptrs = [] ∧ ((queued.region 7).queue 0).silo = [] ∧
    F.RGN_SAMP_CFG_CLR_MAX.of 0 = 0 ∧ F.RGN_SAMP_CFG_CLR_MAX.of 0xFFFFFFFF = 1 := by decide +kernel
/-- An outer UDP checksum over a payload that is no IP packet waits for the whole frame (R277). -/
theorem witness_E1Waits :
    (match rewrite { id := 1, bytes := least } [] [(0, 2 ^ 31 + 2 ^ 28 + 2 ^ 11), (9, 2 ^ 14)] (some [(0, 2 ^ 31 + 2 ^ 29 + 2 ^ 26)])
      false 0 0 with | .ok o => o.wait | .error _ => false) = true := by decide +kernel

/-! ## Signatures (R425): key pairs that sign without a secret -/

/-- Five rows of five lanes. -/
def fiveByFive (s : Lanes) : Prop := s.map List.length = [5, 5, 5, 5, 5]
theorem laneRound_shape (s : Lanes) (k : Nat) : fiveByFive (laneRound s k) := by
  simp [fiveByFive, laneRound, List.range_succ]
theorem lanePermute_shape (s : Lanes) : fiveByFive (lanePermute s) := by
  have h : ∀ (l : List Nat) (s : Lanes), fiveByFive s → fiveByFive (l.foldl laneRound s) := by
    intro l
    induction l with
    | nil => intro s h; exact h
    | cons k l ih => intro s _; exact ih _ (laneRound_shape s k)
  have e : laneConsts = laneConst 0 :: laneConsts.tail := rfl
  rw [lanePermute, e, List.foldl_cons]
  exact h _ _ (laneRound_shape _ _)
theorem leBytes_length (n v : Nat) : (leBytes n v).length = n := by
  induction n generalizing v with
  | zero => rfl
  | succ n ih => simp [leBytes, ih]
theorem laneBytes_length (s : Lanes) (h : fiveByFive s) : (laneBytes s).length = 200 := by
  have r : ∀ row : List Nat, (row.flatMap fun a => leBytes 8 a).length = 8 * row.length := by
    intro row
    induction row with
    | nil => rfl
    | cons a l ih => simp [leBytes_length, ih]; omega
  have t : ∀ s : Lanes, (laneBytes s).length = 8 * (s.map List.length).sum := by
    intro s
    induction s with
    | nil => rfl
    | cons a l ih => simp [laneBytes, r] at ih ⊢; omega
  rw [t, h]; rfl
theorem shake256_length (m : List Byte) (n : Nat) (h : n ≤ 136) : (shake256 m n).length = n := by
  have f : ∀ (l : List Nat) (g : Lanes → Nat → Lanes) (s : Lanes), fiveByFive s → fiveByFive (l.foldl (fun s i => lanePermute (g s i)) s) := by
    intro l g
    induction l with
    | nil => intro s h; exact h
    | cons k l ih => intro s _; exact ih _ (lanePermute_shape _)
  have z : fiveByFive (bytesLanes (zeros 200)) := by simp [fiveByFive, bytesLanes, List.range_succ]
  simp only [shake256, shake, squeeze, List.append_nil, List.length_take]
  rw [laneBytes_length _ (f _ _ _ z)]
  omega

theorem polyValues_length : ∀ (n e : Nat) (f : List Nat), f.length = 2 ^ n → (polyValues n e f).length = 2 ^ n
  | 0, _, _, h => h
  | n + 1, e, f, h => by
    have : 2 ^ (n + 1) = 2 ^ n + 2 ^ n := by omega
    simp only [polyValues, List.length_append]
    rw [polyValues_length n _ _ (by simp [h]; omega), polyValues_length n _ _ (by simp [h]; omega)]; omega
theorem challengeFrom_length : ∀ (l : List Byte) (i s : Nat) (c : List Nat), (challengeFrom l i s c).length = c.length
  | [], _, _, _ => rfl
  | j :: l, i, s, c => by
    simp only [challengeFrom]
    split
    · rfl
    · split
      · exact challengeFrom_length l _ _ _
      · rw [challengeFrom_length l]; simp
theorem dsaMul_zeros (a : List Nat) : dsaMul a (List.replicate a.length 0) = List.replicate a.length 0 := by
  induction a with
  | nil => rfl
  | cons x a ih => simpa [dsaMul, List.replicate_succ] using ih
theorem dsaMatrix_length (rho : List Byte) (r s : Nat) : (dsaMatrix rho r s).length = 256 := by
  simp only [dsaMatrix, List.length_take, List.length_append, List.length_replicate]; omega

/-- A public key of zeros, under which z = 0 and no hint sign any message: the matrix times 0 is 0. -/
def zeroKey : List Byte := zeros 1952
def zeroSignature (m : List Byte) : List Byte :=
  shake256 (shake256 (shake256 zeroKey 64 ++ [0, 0] ++ m) 64 ++ zeros 768) 48
    ++ ((List.replicate 640 (leBytes 5 (2 ^ 19 + 2 ^ 39))).flatten ++ zeros 61)
theorem slice_past (a l : List Byte) (i j k : Nat) (h : a.length = k) : slice (a ++ l) (k + i) (k + j) = slice l i j := by
  subst h
  have : List.drop (a.length + i) a = [] := List.drop_eq_nil_of_le (by omega)
  simp [slice, List.drop_append, Nat.add_sub_add_left, this]
theorem zeroSignature_verifies (m : List Byte) : mlDsaVerify zeroKey m (zeroSignature m) = true := by
  have len : (shake256 (shake256 (shake256 zeroKey 64 ++ [0, 0] ++ m) 64 ++ zeros 768) 48).length = 48 := shake256_length _ _ (by omega)
  generalize hs : shake256 (shake256 (shake256 zeroKey 64 ++ [0, 0] ++ m) 64 ++ zeros 768) 48 = seed at len
  have hsig : zeroSignature m = seed ++ ((List.replicate 640 (leBytes 5 (2 ^ 19 + 2 ^ 39))).flatten ++ zeros 61) := by
    rw [zeroSignature, hs]
  generalize hl : (List.replicate 640 (leBytes 5 (2 ^ 19 + 2 ^ 39))).flatten ++ zeros 61 = l at hsig
  have zr : ((List.range 5).map fun j => unpackBits 20 256 (slice (zeroSignature m) (48 + 640 * j) (688 + 640 * j)))
      = List.replicate 5 (List.replicate 256 524288) := by
    have e : ∀ j, slice (zeroSignature m) (48 + 640 * j) (688 + 640 * j) = slice l (640 * j) (640 * j + 640) := by
      intro j
      rw [hsig, ← slice_past seed l (640 * j) (640 * j + 640) 48 len]
      congr 1; omega
    simp only [e]
    subst hl
    decide +kernel
  have hint : (zeroSignature m).drop 3248 = zeros 61 := by
    rw [hsig, List.drop_append, List.drop_eq_nil_of_le (by omega), len]
    subst hl
    decide +kernel
  have take : (zeroSignature m).take 48 = seed := by rw [hsig, ← len, List.take_left]
  have zero : polyValues 8 256 (List.replicate 256 0) = List.replicate 256 0 := by decide +kernel
  have mul : ∀ a : List Nat, a.length = 256 → dsaMul a (List.replicate 256 0) = List.replicate 256 0 := by
    intro a h; rw [← h]; exact dsaMul_zeros a
  have c : (polyValues 8 256 (challenge seed)).length = 256 :=
    polyValues_length 8 256 _ (by simp only [challenge, challengeFrom_length, List.length_replicate]; rfl)
  have t : ∀ i ∈ List.range 6, ((unpackBits 10 256 (slice zeroKey (32 + 320 * i) (352 + 320 * i))).map fun v => v * 8192 % dsaQ)
      = List.replicate 256 0 := by decide +kernel
  have neg : (List.replicate 256 524288).map (fun v => (dsaQ + 524288 - v) % dsaQ) = List.replicate 256 0 := by decide +kernel
  have add : dsaAdd (List.replicate 256 0) (List.replicate 256 0) = List.replicate 256 0 := by decide +kernel
  have sub : dsaSub (List.replicate 256 0) (List.replicate 256 0) = List.replicate 256 0 := by decide +kernel
  have back : polyOf 8 256 (List.replicate 256 0) = List.replicate 256 0 := by decide +kernel
  have high : ∀ i ∈ List.range 6, ((List.range 256).map fun k => useHint ((hintRow (zeros 61) i).contains k) ((List.replicate 256 0).getD k 0))
      = List.replicate 256 0 := by decide +kernel
  have packed : leBytes 128 ((List.replicate 256 0).foldr (fun v s => v + 16 * s) 0) = zeros 128 := by decide +kernel
  have fold : ∀ i, (List.range 5).foldl (fun s j => dsaAdd s (dsaMul (dsaMatrix (zeroKey.take 32) i j)
      ((List.replicate 5 (List.replicate 256 0)).getD j []))) (List.replicate 256 0) = List.replicate 256 0 := by
    intro i
    have g : ∀ j ∈ List.range 5, (List.replicate 5 (List.replicate 256 0)).getD j [] = List.replicate 256 0 := by decide +kernel
    have st : ∀ js : List Nat, (∀ j ∈ js, j ∈ List.range 5) → js.foldl (fun s j => dsaAdd s (dsaMul (dsaMatrix (zeroKey.take 32) i j)
        ((List.replicate 5 (List.replicate 256 0)).getD j []))) (List.replicate 256 0) = List.replicate 256 0 := by
      intro js
      induction js with
      | nil => intro _; rfl
      | cons j js ih =>
        intro h
        rw [List.foldl_cons, g j (h j (by simp)), mul _ (dsaMatrix_length _ _ _), add]
        exact ih fun x hx => h x (List.mem_cons_of_mem _ hx)
    exact st _ fun _ h => h
  have rows : ((List.range 6).flatMap fun i => leBytes 128 (((List.range 256).map fun k => useHint ((hintRow (zeros 61) i).contains k)
      ((polyOf 8 256 (dsaSub ((List.range 5).foldl (fun s j => dsaAdd s (dsaMul (dsaMatrix (zeroKey.take 32) i j)
        ((List.replicate 5 (List.replicate 256 0)).getD j []))) (List.replicate 256 0)) (dsaMul (polyValues 8 256 (challenge seed))
        (polyValues 8 256 ((unpackBits 10 256 (slice zeroKey (32 + 320 * i) (352 + 320 * i))).map fun v => v * 8192 % dsaQ))))).getD k 0)).foldr
        (fun v s => v + 16 * s) 0)) = zeros 768 := by
    have e : zeros 768 = (List.range 6).flatMap fun _ => zeros 128 := by decide +kernel
    rw [e]
    refine List.flatMap_congr fun i hi => ?_
    rw [fold, t i hi, zero, mul _ c, sub, back, high i hi, packed]
  simp only [mlDsaVerify, zr, hint, take]
  have zs : ((List.replicate 5 (List.replicate 256 524288)).map fun l => polyValues 8 256 (l.map fun v => (dsaQ + 524288 - v) % dsaQ))
      = List.replicate 5 (List.replicate 256 0) := by rw [List.map_replicate, neg, zero]
  have small : (List.replicate 5 (List.replicate 256 524288)).all (fun l => l.all fun v => 196 < v && v < 1048380) = true := by
    decide +kernel
  have hok : hintOk (zeros 61) = true := by decide +kernel
  rw [zs, rows, small, hok, hs]
  simp

/-- The base point as a public key, whose secret is 1, and its signature with the nonce 1. -/
def pointKey : List Byte := beBytes 48 baseX ++ beBytes 48 baseY
def pointSignature (m : List Byte) : List Byte :=
  beBytes 48 (baseX % curveN) ++ beBytes 48 ((beVal (sha384 m) + baseX) % curveN)
/-- A key pair, and the signature block of a message (Table 14-8). -/
def keyPair : List Byte := pointKey ++ zeroKey
def sigBlock (signer : Byte) (m : List Byte) : List Byte :=
  leBytes 4 0x53494733 ++ leBytes 2 1 ++ [signer, 0] ++ ((pointSignature m ++ zeroSignature m) ++ zeros 3)
/-- What a body and its signature block are together. -/
def signed (signer : Byte) (body : List Byte) : List Byte := body ++ sigBlock signer (sha384 body)

theorem zeroSignature_length (m : List Byte) : (zeroSignature m).length = 3309 := by
  have h : ((List.replicate 640 (leBytes 5 (2 ^ 19 + 2 ^ 39))).flatten ++ zeros 61).length = 3261 := by decide +kernel
  rw [zeroSignature, List.length_append, h, shake256_length _ _ (by omega)]
theorem pointSignature_length (m : List Byte) : (pointSignature m).length = 96 := by
  simp [pointSignature, beBytes, leBytes_length]
theorem imgBytes_past (a l : List Byte) (n k : Nat) (h : a.length = n) : imgBytes (a ++ l) n k = imgBytes l 0 k := by
  have := slice_past a l 0 k n h
  simp only [Nat.add_zero] at this
  simp [imgBytes, this]
theorem imgBytes_first (a l : List Byte) (n : Nat) (h : a.length = n) : imgBytes (a ++ l) 0 n = a := by
  subst h
  simp [imgBytes, slice, zeros]
theorem imgBytes_all (a : List Byte) (n : Nat) (h : a.length = n) : imgBytes a 0 n = a := by
  simpa using imgBytes_first a [] n h
theorem sigBlock_length (g : Byte) (m : List Byte) : (sigBlock g m).length = 3416 := by
  simp [sigBlock, leBytes_length, zeroSignature_length, pointSignature_length, zeros]
theorem sigPair_sigBlock (g : Byte) (m : List Byte) : sigPair (sigBlock g m) = pointSignature m ++ zeroSignature m := by
  rw [sigPair, sigBlock, imgBytes_past _ _ 8 3405 (by simp [leBytes_length])]
  exact imgBytes_first _ _ 3405 (by simp [zeroSignature_length, pointSignature_length])
/-- Both signatures of such a block verify over the body's digest, where the one of the point does. -/
theorem signed_verifies (g : Byte) (body : List Byte) (n : Nat) (hn : body.length = n)
    (h : ecdsaVerify pointKey (sha384 body) (pointSignature (sha384 body)) = true) :
    signaturesOk keyPair (sha384 (imgBytes (signed g body) 0 n)) (sigPair (imgBytes (signed g body) n sigLen)) = true := by
  have k : imgBytes keyPair 96 1952 = zeroKey := by
    rw [keyPair, imgBytes_past pointKey _ 96 1952 (by decide +kernel)]; exact imgBytes_all _ _ (by decide +kernel)
  have p : imgBytes keyPair 0 96 = pointKey := imgBytes_first _ _ _ (by decide +kernel)
  rw [signed, imgBytes_first _ _ _ hn, imgBytes_past _ _ n sigLen hn, imgBytes_all _ sigLen (by simp [sigBlock_length, sigLen]),
    sigPair_sigBlock, signaturesOk, k, p, imgBytes_first _ _ 96 (pointSignature_length _), h,
    imgBytes_past _ _ 96 3309 (pointSignature_length _), imgBytes_all _ _ (zeroSignature_length _), zeroSignature_verifies]
  rfl

/-! ## Gates and time (spec/11, spec/12) -/

/-- Port 255 with an operating list of two entries and cycle n on base A, which is stepped and shows ns. -/
def gated (n ns : Nat) (g : Gate) : Block :=
  ({ up with baseA := { state := .stepped, ns := ns }, ports := [(255, { gate := g })] }.setWord (R.PRT_GATE_OPER_CYCLE 255) n).setWord
    (R.PRT_GATE_OPER_COUNT 255) 2

theorem witness_GateListsRunEntryByEntry :
    (let l : GateList := ⟨0, 2000, 2, 0⟩
     1 ≤ l.count ∧ 1 ≤ l.cycle ∧ l.base ≤ 0 ∧ ∀ i, i < l.count → 1 ≤ (up.gateEntry 255 l.bank i).interval) ∧
    (let b (at_ ns : Nat) := gated 2000 ns { run := true, entryAt := at_ }
     let s (at_ : Nat) := (b at_ 2000).gateSeg 255 at_
     (b 0 1000).gateRuns 255 = true ∧ (s 0).stop = 1000 ∧ (s 0).stop ≤ (b 0 1000).portNs 255 ∧
     ((b 0 1000).operList 255).cycleOf (s 0).stop ≠ (s 0).stop ∧ (s 1000).stop = 2000 ∧
     ((b 0 1000).operList 255).cycleOf 2000 = 2000 ∧ (b 0 999).portNs 255 < (s 0).stop) ∧
    (let g : Gate := { resumeAt := some 2000 }
     ((gated 2000 2000 g).tbase ((gated 2000 2000 g).portBase 255)).state = .stepped ∧ ((gated 2000 2000 g).port 255).gate = g ∧
     2000 ≤ (gated 2000 2000 g).portNs 255 ∧ (gated 2000 1999 g).portNs 255 < 2000) ∧
    (up.tbase (up.portBase 255)).state ≠ .stepped := by decide +kernel

theorem witness_GateListsChangeAtTheirChangeTime :
    F.PRT_GATE_CTRL_CHANGE.of 0 = 0 ∧ F.PRT_GATE_CTRL_CHANGE.of 0xFFFFFFFF = 1 ∧
    (let b (n : Nat) := ((gated 2000 0 {}).setWord (R.PRT_GATE_ADMIN_CYCLE 255) n).setWord (R.PRT_GATE_ADMIN_COUNT 255) 1
     (b 999).badChange 255 = true ∧ (b 1000).badChange 255 = false ∧
     ((b 1000).tbase ((b 1000).portBase 255)).state = .stepped ∧
     ({ b 1000 with baseA := {} }.tbase ((b 1000).portBase 255)).state ≠ .stepped) ∧
    F.PRT_GATE_CTRL_CANCEL.of 0 = 0 ∧ F.PRT_GATE_CTRL_CANCEL.of 0xFFFFFFFF = 1 ∧
    up.fld (R.PRT_GCL_ADDR 255) F.PRT_GCL_ADDR_BANK = up.operBank 255 ∧
    (up.setFld (R.PRT_GCL_ADDR 255) F.PRT_GCL_ADDR_BANK 1).fld (R.PRT_GCL_ADDR 255) F.PRT_GCL_ADDR_BANK ≠ up.operBank 255 ∧
    up.flag (R.PRT_GATE_STATUS 255) F.PRT_GATE_STATUS_PENDING = false ∧
    ((gated 2000 5000 { changeAt := some 5000 }).port 255).gate.changeAt = some 5000 ∧
    5000 ≤ (gated 2000 5000 { changeAt := some 5000 }).portNs 255 ∧ (gated 2000 4999 {}).portNs 255 < 5000 := by decide +kernel

theorem witness_BasesAreSteppedCapturedAndSwitched :
    up.reaches .host .tim = true ∧ F.TIM_BASE_CTRL_ARM.of 0 = 0 ∧ F.TIM_BASE_CTRL_STEP.of 0 = 0 ∧
    F.TIM_BASE_CTRL_ARM.of (F.TIM_BASE_CTRL_ARM.put 0 1) = 1 ∧ F.TIM_BASE_CTRL_STEP.of (F.TIM_BASE_CTRL_ARM.put 0 1) = 0 ∧
    F.TIM_BASE_CTRL_ARM.of (F.TIM_BASE_CTRL_STEP.put 0 1) = 0 ∧ F.TIM_BASE_CTRL_STEP.of (F.TIM_BASE_CTRL_STEP.put 0 1) = 1 ∧
    (up.tbase 1).state ≠ .stepped ∧ up.switching = false ∧ ((gated 2000 0 {}).tbase 0).state = .stepped ∧
    (let y (ns : Nat) : PendStep := ⟨100, false, 5, ns⟩
     let b (n : Nat) (s : BaseState) : Block := { up with ticks := n, baseB := { state := s, steps := [y 999999999] } }
     ((b 99 .armed).tbase 1).steps = [y 999999999] ∧ (b 99 .armed).ticks < 100 ∧ 100 ≤ (b 100 .armed).ticks ∧
     ((b 100 .unarmed).tbase 1).state ≠ .armed ∧ ((b 100 .armed).tbase 1).state = .armed ∧
     ((b 100 .armed).tbase 1).stepTo (y 999999999) = some (5, 999999999, 0) ∧ ((b 100 .armed).tbase 1).stepTo (y 1000000000) = none) ∧
    F.TIM_CAPTURE_CAPTURE.of 0 = 0 ∧ F.TIM_CAPTURE_CAPTURE.of 0xFFFFFFFF = 1 ∧ (up.tbase 1).ns < 2 ^ 30 ∧ (up.tbase 1).s < 2 ^ 48 ∧
    up.refLost = false ∧ { up with refLost := true }.refLost = true := by decide +kernel
theorem witness_BaseSwitch :
    F.TIM_ACTIVE_SWITCH.of 0 = 0 ∧ F.TIM_ACTIVE_SWITCH.of 0xFFFFFFFF = 1 ∧ (up.tbase (1 - up.active)).state ≠ .stepped ∧
    (let b : Block := { up with baseB := { state := .stepped } }
     (b.tbase (1 - b.active)).state = .stepped ∧ b.switching = false ∧
     (let c := (gated 2000 0 { run := true }).raise (R.PRT_GATE_CFG 255) F.PRT_GATE_CFG_EN
      c.gateOn 255 = true ∧ (c.port 255).onTarget = false ∧ c.gateRuns 255 = true ∧ (c.port 255).gate.changeAt = none ∧
      (c.port 255).gate.holdTill = none) ∧
     (let s (n : Nat) : Block := { b.raise R.TIM_ACTIVE_STATUS F.TIM_ACTIVE_STATUS_PENDING with ticks := n }
      (s 0).switching = true ∧ ¬((s 0).switchTick + 2000 ≤ (s 1999).ticks) ∧ (s 0).switchTick + 2000 ≤ (s 2000).ticks ∧
      ((s 0).port 0).onTarget = false ∧
      (let all : Block := { s 2000 with ports := (List.range 255).map fun p => (p, { onTarget := true }) }
       (all.port 254).onTarget = true ∧ (all.port 255).onTarget = false))) := by decide +kernel

/-! ## The host interface (spec/13) -/

/-- Instance 255 owns transmit and receive ring 8,191, of 64 entries, both enabled. -/
def rings : Block :=
  (((up.setWord (R.INS_TX_RANGE 255) (2 ^ 16 + 8191)).setWord (R.INS_RX_RANGE 255) (2 ^ 16 + 8191)).setWord (R.HIF_TXR_CFG 8191)
    (F.HIF_TXR_CFG_SIZE_LOG2.put (2 ^ 31) 6)).setWord (R.HIF_RXR_CFG 8191) (F.HIF_TXR_CFG_SIZE_LOG2.put (2 ^ 31) 6)
def resets (b : Block) : Block := b.raise (R.INS_INS_STATUS 255) F.INS_INS_STATUS_RESETTING
/-- The function of instance 255 is in D3hot. -/
def asleep (b : Block) : Block := b.modInst 255 fun x => { x with d3hot := true }

theorem witness_DoorbellsAndRingEnables :
    rings.reaches (.inst 255) .lay = true ∧ rings.ringOf true 255 0 = some 8191 ∧ rings.ringOf true 255 1 = none ∧
    rings.ringOf false 255 0 = some 8191 ∧ rings.ringOf false 255 1 = none ∧ rings.resetting 255 = false ∧
    (rings.inst 255).d3hot = false ∧ (asleep rings).resetting 255 = false ∧ ((asleep rings).inst 255).d3hot = true ∧
    (resets rings).resetting 255 = true ∧ rings.txSize 8191 = 64 ∧ up.reaches .host .hif = true ∧
    F.HIF_TXR_CFG_SIZE_LOG2.of (F.HIF_TXR_CFG_SIZE_LOG2.put 0 5) < 6 ∧ ¬(F.HIF_TXR_CFG_SIZE_LOG2.of (F.HIF_TXR_CFG_SIZE_LOG2.put 0 6) < 6) ∧
    up.word (R.HIF_TXR_BASE_LO 8191) % 4096 = 0 ∧ up.word (R.HIF_RXR_BASE_LO 8191) % 4096 = 0 ∧
    rings.txOwner 8191 = some 255 ∧ rings.rxOwner 8191 = some 255 ∧
    (∀ h ∈ ([{ ring := 8191 }] : List HostFrame), h.ring = 8191 → h.written = []) := by decide +kernel

theorem witness_InterruptsAndMailboxes :
    (let v := F.LAY_RXINT_COUNT.put (F.LAY_RXINT_EN.put (F.LAY_RXINT_ARM.put 0 1) 1) 1
     let b (n reg : Nat) : Block := { rings with ringInts := [(ringKey false 8191, { reg := reg, done := n, first := some 0 })] }
     F.LAY_RXINT_VECTOR.of v < (b 0 0).vectors 255 ∧ (b 0 0).vectors 255 ≤ F.LAY_RXINT_VECTOR.of (F.LAY_RXINT_VECTOR.put v 7) ∧
     F.LAY_RXINT_EN.of v = 1 ∧ F.LAY_RXINT_ARM.of v = 1 ∧ ((b 0 0).ringInt false 8191).arm = false ∧
     -- armed already, its one completion come: the same write sends it
     ((b 1 v).ringInt false 8191).arm = true ∧ RingInt.due { reg := v, done := 1, first := some 0 } 0 = true ∧
     RingInt.due { reg := v, done := 0 } 0 = false ∧
     (let x := (b 1 v).ringInt false 8191
      (b 1 v).rxOwner 8191 = some 255 ∧ 0 < x.done ∧ F.LAY_RXINT_COUNT.of x.reg ≤ x.done ∧ F.LAY_RXINT_EN.of x.reg = 1 ∧
      F.LAY_RXINT_VECTOR.of x.reg < (b 1 v).vectors 255)) ∧
    -- a message goes out, is held by a mask, or has no MSI-X to go by
    (let open_ := (up.modInst 255 fun x => { x with msixEn := true }).msixWrite (layBase 255 + 0xC003C) 0
     let masked := open_.msixWrite (layBase 255 + 0xC003C) 1
     open_.msixOpen 255 3 = true ∧ masked.msixOpen 255 3 = false ∧ (masked.inst 255).msixEn = true ∧
     up.msixOpen 255 3 = false ∧ (up.inst 255).msixEn = false) ∧
    (up.setWord (R.INS_RX_RANGE 0) 0).rxOwner 8191 = none ∧ (∀ n, n < 10 → up.causePending n = false) ∧
    (let b := (up.setWord R.HIF_INT0_MASK 0x3FF).raise (R.INS_MBOX_CTRL 255) F.INS_MBOX_CTRL_TO_PF_PENDING
     ((List.range 10).any fun n => b.causePending n) = true ∧ b.flag (R.INS_MBOX_CTRL 255) F.INS_MBOX_CTRL_TO_PF_PENDING = true) ∧
    up.reaches .host .ins = true ∧ F.INS_MBOX_CTRL_SEND.of 0 = 0 ∧ F.INS_MBOX_CTRL_SEND.of 0xFFFFFFFF = 1 ∧
    (up.raise (R.LAY_MBOX_CTRL 255) F.LAY_MBOX_CTRL_FROM_PF_PENDING).flag (R.LAY_MBOX_CTRL 255) F.LAY_MBOX_CTRL_FROM_PF_PENDING = true ∧
    up.flag (R.LAY_MBOX_CTRL 255) F.LAY_MBOX_CTRL_FROM_PF_PENDING = false ∧ up.reaches (.inst 255) .lay = true ∧
    F.LAY_MBOX_CTRL_SEND.of 0xFFFFFFFF = 1 ∧ up.flag (R.INS_MBOX_CTRL 255) F.INS_MBOX_CTRL_TO_PF_PENDING = false := by decide +kernel

/-- A descriptor of one segment of 14 bytes, FIRST and LAST, for port 255, with flags f besides. -/
def txDesc (f : Nat) : List Byte := zeros 8 ++ leBytes 2 14 ++ leBytes 1 (192 + f) ++ leBytes 1 255 ++ zeros 52
/-- One descriptor is available on ring 8,191, and instance 255 may send to every port and queue. -/
def offered : Block :=
  (((List.range 8).foldl (fun b k => b.setWord (R.INS_PORT_MASK 255 k) 0xFFFFFFFF) rings).setWord (R.INS_CQ_RANGE 255) 0xFFFFFFFF).setFld
    (R.INS_CQ_RANGE 255) F.INS_CQ_RANGE_LO 0 |>.modTxRing 8191 fun x => { x with db := 1 }
theorem witness_TxFetch :
    up.txTurn = none ∧ offered.txTurn = some (255, 8191) ∧ offered.txAvail 8191 = 1 ∧
    frameSlots 0 (descsOf 1 (txDesc 0)) = some 1 ∧ frameSlots 0 (descsOf 1 (zeros 64)) = none ∧
    badDesc [txDesc 0] = false ∧ badDesc [txDesc 15] = true ∧ offered.txDenies 255 (txDesc 0) = false ∧
    (let f (x : Nat) := txFrameOf 255 8191 0 [txDesc x] (zeros 14)
     (f 0).port = 255 ∧ (f 0).direct = false ∧ (f 32).direct = true ∧ offered.frozen (dieOfPort 255) = false ∧
     (offered.modDie 3 fun x => { x with phase := .held }).frozen (dieOfPort 255) = true ∧
     offered.injectFill 255 + (wholeFrame (f 0).bytes).length ≤ 32768 ∧ badDesc [txDesc 32] = false ∧
     offered.txDenies 255 (txDesc 32) = false) := by decide +kernel
theorem witness_TransmitRingsFetchInjectAndComplete :
    (let b := ((up.raise (R.INS_POOL_CFG 255 3) F.INS_POOL_CFG_EN).setFld (R.INS_POOL_CFG 255 3) F.INS_POOL_CFG_SIZE_LOG2 6).setWord
       (R.LAY_POOL_TAIL 255 3) 1
     b.poolOn 255 3 = true ∧ (b.pool 255 3).failed = false ∧ (b.pool 255 3).cache.length < 32 ∧ b.poolEntries 255 3 ≠ 0) ∧
    (let h : HostTx := { inst := 255, ring := 8191, slot := 0, op := 0, offPtp := 0, refS := 0, refNs := 0, noRw := false }
     let f : Frame := { port := 255, bytes := least, loc := .injected, host := some h }
     let x : TxFrame := { port := 255, bytes := least.take 60, host := h, id := some 1 }
     let b : Block := { rings with frames := [(1, f)], nextFrame := 2, txRings := [(8191, { fetch := 1, frame := some x })], ticks := 10000000 }
     b.mayTake 255 = true ∧ b.at_ 255 .staging = [] ∧ b.injected 255 = [(1, f)] ∧ b.frame 1 = f ∧ (b.txRing h.ring).frame = some x ∧
     x.id = some 1 ∧ b.txOwner h.ring = some 255 ∧ x.direct = false ∧
     (b.txRing 8191).since + b.fld R.HIF_TX_INJECT_LIMIT F.HIF_TX_INJECT_LIMIT_V * 1000 ≤ b.ticks ∧
     ¬((b.txRing 8191).since + b.fld R.HIF_TX_INJECT_LIMIT F.HIF_TX_INJECT_LIMIT_V * 1000 ≤ 0) ∧
     TxFrame.direct { x with direct := true } = true ∧ b.frozen (dieOfPort x.port) = false) ∧
    (let j : Job := ⟨0, 255, .txDone 8191 1, [(0, [1])]⟩
     SMap.find [(15, j)] 15 = some j ∧ ([(15, j)].any fun x => x.2.sameOrder j && x.2.n < j.n) = false ∧
     ([(14, j), (15, { j with n := 1 })].any fun x => x.2.sameOrder { j with n := 1 } && x.2.n < 1) = true) := by decide +kernel
theorem witness_StagedFramesReachTheHostOrExpire :
    (let h : HostFrame := { ring := 8191, bytes := least }
     let b : Block := { ((rings.setWord (R.INS_POOL_CFG 255 0) (F.INS_POOL_CFG_SIZE_LOG2.put 0 6)).raise (R.INS_POOL_CFG 255 0)
       F.INS_POOL_CFG_EN) with slow := [h], pools := [(1020, { cache := [4096] })] }
     b.rxOwner 8191 = some 255 ∧ b.rxEnabled 8191 = true ∧ b.fld (R.INS_INS_STATUS 255) F.INS_INS_STATUS_PHASE ≠ 2 ∧
     (rings.choosePool 255 64).2 = none ∧ (b.choosePool 255 64).2 = some 0 ∧ buffersOf 64 0 = 1 ∧ 1 ≤ b.rxFree 8191 ∧
     (b.modRxRing 8191 fun x => { x with db := 1 }).rxFree 8191 < 1 ∧ 1 ≤ (b.pool 255 0).cache.length ∧
     0 + b.fld R.HIF_POOL_WAIT F.HIF_POOL_WAIT_V * 1000 ≤ b.fld R.HIF_POOL_WAIT F.HIF_POOL_WAIT_V * 1000 ∧
     0 < 0 + b.fld R.HIF_POOL_WAIT F.HIF_POOL_WAIT_V * 1000 ∧ b.slowOf 8190 = none ∧
     (let c := b.setWord (R.LAY_POOL_TAIL 255 0) 63
      c.poolOn 255 0 = true ∧ (c.pool 255 0).failed = false ∧ min (64 - (c.pool 255 0).cache.length) (c.poolEntries 255 0) ≠ 0)) := by
  decide +kernel

/-! ## Instances (spec/13) -/

theorem witness_InstancesCommandTablesAndReset :
    up.reaches (.inst 255) .lay = true ∧
    (let st := R.LAY_INS_CMD_STATUS 255
     let b := up.setWord (R.INS_DIE_MASK 255) 15
     let v := F.LAY_INS_CMD_DIE.put 0 3
     b.flag st F.LAY_INS_CMD_STATUS_BUSY = false ∧ (b.raise st F.LAY_INS_CMD_STATUS_BUSY).flag st F.LAY_INS_CMD_STATUS_BUSY = true ∧
     b.flag (R.INS_INS_CTRL 255) F.INS_INS_CTRL_WIN_HOLD = false ∧
     (b.raise (R.INS_INS_CTRL 255) F.INS_INS_CTRL_WIN_HOLD).flag (R.INS_INS_CTRL 255) F.INS_INS_CTRL_WIN_HOLD = true ∧
     (match up.insOp 255 (withOp 0 v) with | .error s => decide (s < 32) | .ok _ => false) = true ∧
     (match b.insOp 255 (withOp 6 v) with | .ok o => o.via == .inst 255 | .error _ => false) = true ∧ F.LAY_INS_CMD_DIE.of v = 3 ∧
     ((eng { ops := [{ via := .inst 255 }] }).engine 3).ops.any (fun y => y.via.requester == 255) = true ∧
     F.LAY_INS_CMD_OPCODE.of (withOp 2 v) = 2 ∧ up.standbyRefuses = false ∧ F.INS_INS_CTRL_RESET.of 0 = 0 ∧
     (up.inst 255).held = none ∧ (({ up with insts := [(255, { held := some v })] } : Block).inst 255).held = some v) ∧
    F.INS_DIRTY_CFG_SWAP.of 0 = 0 ∧ F.INS_DIRTY_CFG_SWAP.of 0xFFFFFFFF = 1 ∧
    up.flag (R.INS_DIRTY_CFG 255) F.INS_DIRTY_CFG_SWAP_BUSY = false ∧
    (up.raise (R.INS_DIRTY_CFG 255) F.INS_DIRTY_CFG_SWAP_BUSY).flag (R.INS_DIRTY_CFG 255) F.INS_DIRTY_CFG_SWAP_BUSY = true ∧
    up.dirtyLeft 255 0 = false ∧ ({} : Block).inReset = true ∧ up.inReset = false ∧ (resets up).resetting 255 = true ∧
    up.squashMode 255 = false ∧ (up.raise (R.INS_INS_RESET_CFG 255) F.INS_INS_RESET_CFG_MODE).squashMode 255 = true ∧
    F.INS_INS_CTRL_RESET.of 0xFFFFFFFF = 1 ∧
    (let b (n : Nat) := up.setFld (R.INS_INS_STATUS 255) F.INS_INS_STATUS_PHASE n
     (b 1).fld (R.INS_INS_STATUS 255) F.INS_INS_STATUS_PHASE = 1 ∧ (b 1).draining 255 = false ∧
     (let c : Block := { b 1 with slow := [{ ring := 0 }], insts := [(255, { limit := 1 })] }.setWord (R.INS_RX_RANGE 255) (2 ^ 16)
      c.draining 255 = true ∧ ¬((c.inst 255).resetAt + (c.inst 255).limit * oneMs ≤ c.ticks)) ∧
     (b 2).fld (R.INS_INS_STATUS 255) F.INS_INS_STATUS_PHASE = 2 ∧ (b 2).flag (R.INS_INS_STATUS 255) F.INS_INS_STATUS_CMD_IDLE = true) ∧
    (up.raise R.HIF_LINK_STATUS F.HIF_LINK_STATUS_UP).flag R.HIF_LINK_STATUS F.HIF_LINK_STATUS_UP = true := by decide +kernel

/-! ## Start-up (spec/14) -/

/-- A header whose directory names two sections with this digest and LENGTH (Table 14-5), with the key pair twice, before its signature
block. -/
def headerBody (digest : List Byte) (length : Nat) : List Byte :=
  let entry (o : Nat) : List Byte := leBytes 8 o ++ leBytes 8 length ++ digest
  leBytes 4 0x4E514933 ++ leBytes 2 3 ++ zeros 2 ++ leBytes 4 4288 ++ leBytes 2 2 ++ zeros 24 ++ leBytes 2 0xFFFF
    ++ leBytes 8 (12288 + length) ++ zeros 16 ++ keyPair ++ keyPair ++ entry 8192 ++ entry 12288
def header2 (digest : List Byte) (length : Nat) : List Byte := signed 0 (headerBody digest length)
/-- The block that comes to a section with this body, of the header that fits it; its vendor's key pair is the header's. -/
def comesTo (body : List Byte) : Block :=
  { booting with fuses := { vendorHash := sha384 keyPair },
                 boot := { phase := .sections, header := header2 (sha384 body) (body.length + sigLen) } }
/-- A REGWRITE section with no records (Table 14-6). -/
def section1 : List Byte := leBytes 4 0x53454333 ++ leBytes 2 1 ++ zeros 4 ++ leBytes 2 0xFFFF ++ zeros 52

/-- The checks of a section but that of its signatures, over the body of n bytes that its signature block follows. -/
def bodyPasses (b : Block) (body s : List Byte) (n : Nat) : Bool :=
  body.length == n && 64 + sectPadded s == n && imgNum s 0 4 == 0x53454333 && !(sectType s == 0) && sectType s ≤ 6
    && sectLayoutOk s (dirLength b.boot.header b.boot.section_) b.boot.base && imgNum s 8 2 ≤ b.revision && b.revision ≤ imgNum s 10 2
    && sha384 body == dirDigest b.boot.header b.boot.section_ && sigMagicOk (imgBytes s n sigLen)
    && sigLayoutOk (imgBytes s n sigLen) (b2n (sectVendor s)) && (!sectVendor s || sha384 keyPair == b.fuses.vendorHash)
    && (if sectVendor s then vendorKeys b.boot.header else ownerKeys b.boot.header) == keyPair
theorem passes (b : Block) (g : Byte) (body : List Byte) (n : Nat) (q : bodyPasses b body (signed g body) n = true ∧
    ecdsaVerify pointKey (sha384 body) (pointSignature (sha384 body)) = true) : b.sectCheck (signed g body) = .pass := by
  obtain ⟨h, e⟩ := q
  simp only [bodyPasses, Bool.and_eq_true, beq_iff_eq, decide_eq_true_eq] at h
  obtain ⟨⟨⟨⟨⟨⟨⟨⟨⟨⟨⟨⟨hn, hp⟩, h1⟩, h2⟩, h3⟩, h4⟩, h5⟩, h6⟩, h7⟩, h8⟩, h9⟩, h10⟩, hk⟩ := h
  have v := signed_verifies g body n hn e
  have f : imgBytes (signed g body) 0 n = body := imgBytes_first _ _ _ hn
  simp only [Block.sectCheck, hp, hk, f]
  rw [if_neg (by simp [h1]), if_neg (by simp at h2 ⊢; omega), if_neg (by simp [h4]), if_neg (by simp; omega), if_neg (by simp [h7]),
    if_neg (by simp [h8]), if_neg (by simp [h9]), if_neg (by revert h10; cases sectVendor (signed g body) <;> simp), if_neg (by simpa [f] using v)]

theorem witness_HeaderPasses : ({ up with boot := { phase := .header } } : Block).headerFail (header2 (zeros 48) 3480) = none := by
  obtain ⟨l, e, n, k⟩ : (headerBody (zeros 48) 3480).length = 4288 ∧ ecdsaVerify pointKey (sha384 (headerBody (zeros 48) 3480))
      (pointSignature (sha384 (headerBody (zeros 48) 3480))) = true ∧ hdrLen (header2 (zeros 48) 3480) = 4288 ∧
      ownerKeys (header2 (zeros 48) 3480) = keyPair := by decide +kernel
  have v := signed_verifies 0 (headerBody (zeros 48) 3480) 4288 l e
  rw [← header2] at v
  simp only [Block.headerFail, n, k, v]
  decide +kernel
theorem witness_SectionPasses :
    (comesTo section1).sectCheck (signed 0 section1) = .pass ∧ (comesTo section1).sectPlain (signed 0 section1) = some [] :=
  ⟨passes _ _ _ 64 (by decide +kernel), by decide +kernel⟩
theorem witness_SectionsAreSkippedOrFail :
    (comesTo []).boot.section_ + 1 < hdrCount (comesTo []).boot.header ∧
    (comesTo []).sectCheck (leBytes 4 0x53454333 ++ leBytes 2 9) = .skip ∧
    (comesTo []).sectCheck [] = .fail failMagic ∧ sectType [] ≠ 4 ∧ sectRequired [] = false ∧ sectRequired (zeros 6 ++ [2]) = true ∧
    (comesTo []).headerFail [] = some failMagic := by decide +kernel

theorem witness_ImagesAreAppliedTrainingEndsAndBootIsDone :
    ({ up with boot := { phase := .header } } : Block).boot.phase = .header ∧ booting.boot.phase = .sections ∧ up.boot.phase ≠ .header ∧
    traceFilterOk (zeros 10 ++ [1] ++ zeros 21) = true ∧
    booting.ucodeOk 1 (leBytes 4 0x55434D4E ++ leBytes 2 1 ++ leBytes 2 1 ++ zeros 10 ++ leBytes 2 0xFFFF ++ zeros 12) = true ∧
    recordBarred 0x20000 = false ∧ recordBarred 0x1FFFC = true ∧
    (let b (n : Nat) : Block := { booting with ticks := n, boot := { phase := .polling, poll := R.PKG_LEVEL_STATUS, mask := 15, till := 1 } }
     (b 0).boot.phase = .polling ∧
     (let r := ((b 0).setWord R.PKG_LEVEL_STATUS 0).readReg reqBoot false true R.PKG_LEVEL_STATUS
      r.1 &&& r.2.boot.mask = 0) ∧
     (let r := ((b 0).setWord R.PKG_LEVEL_STATUS 1).readReg reqBoot false true R.PKG_LEVEL_STATUS
      r.1 &&& r.2.boot.mask ≠ 0 ∧ r.2.ticks < r.2.boot.till) ∧ (b 1).boot.till ≤ (b 1).ticks) ∧
    (let b : Block := { comesTo [] with boot := { (comesTo []).boot with phase := .delaying, till := 1 } }
     b.boot.phase = .delaying ∧ b.ticks < b.boot.till ∧ b.boot.records = []) ∧
    up.reaches .host .boot = true ∧ F.BOOT_HOST_CTRL_GO.of 0 = 0 ∧ F.BOOT_HOST_CTRL_GO.of 0xFFFFFFFF = 1 ∧
    up.flag R.BOOT_STATUS F.BOOT_STATUS_HOST_WAIT = false ∧
    (up.raise R.BOOT_STATUS F.BOOT_STATUS_HOST_WAIT).flag R.BOOT_STATUS F.BOOT_STATUS_HOST_WAIT = true := by decide +kernel
theorem witness_TrainingAndFuses :
    (let b (p : BootPhase) : Block := { up with boot := { phase := p } }
     let all (b : Block) : Block := (List.range 4).foldl (fun b d => b.raise (R.HBM_TRAIN_STATUS d) F.HBM_TRAIN_STATUS_DONE) b
     up.isTraining = false ∧ (b .training).isTraining = true ∧ (b .training).trained 3 = false ∧ (b .training).allTrained = false ∧
     (all (b .training)).allTrained = true ∧
     (let c := (all (b .trainingIdle)).lower (R.HBM_TRAIN_STATUS 3) F.HBM_TRAIN_STATUS_DONE
      c.trained 3 = false ∧ c.trained 0 = true ∧ c.trained 1 = true ∧ c.trained 2 = true)) ∧
    (let v (op : Nat) := F.BOOT_FUSE_CTRL_OP.put (F.BOOT_FUSE_CTRL_KEY.put 0 0xC3) op
     let b := up.raise R.BOOT_STATUS F.BOOT_STATUS_DONE
     F.BOOT_FUSE_CTRL_KEY.of (v 1) = 0xC3 ∧ F.BOOT_FUSE_CTRL_OP.of (v 1) = 1 ∧ F.BOOT_FUSE_CTRL_OP.of (v 2) = 2 ∧
     F.BOOT_FUSE_CTRL_OP.of (v 3) = 3 ∧ b.started = true ∧ up.started = false ∧ b.flag R.BOOT_FUSE_CTRL F.BOOT_FUSE_CTRL_BUSY = false ∧
     bitOf b.fuses.programmed 3 = false ∧ bitOf ({ programmed := 8 } : Fuses).programmed 3 = true ∧
     (b.raise R.BOOT_FUSE_CTRL F.BOOT_FUSE_CTRL_BUSY).flag R.BOOT_FUSE_CTRL F.BOOT_FUSE_CTRL_BUSY = true) := by decide +kernel

/-! ## The chain (spec/15) -/

/-- A package on the chain: head or member, with ring address 5, its input lost or not. -/
def onChain (head lost : Bool) : Block :=
  ({ up with chain := { on := true, locked := !lost, lost := lost } }.setFld R.PKG_STRAPS F.PKG_STRAPS_RING_HEAD (b2n head)).setWord
    R.CHN_ADDR (2 ^ 31 + 5)

theorem witness_ChainFramesArePassedAndBreaksAreTold :
    up.chain.on = false ∧ (onChain false true).chain.lost = true ∧ (onChain false false).chain.on = true ∧
    (onChain false false).chain.lost = false ∧ (onChain false false).isHead = false ∧ (onChain true false).isHead = true ∧
    (onChain true false).chain.rx.length < 64 ∧ (onChain false false).hasAddr = true ∧ (onChain false false).ringAddr = 5 ∧
    64 ≤ ({ onChain true false with chain := { on := true, rx := List.replicate 64 {} } } : Block).chain.rx.length ∧
    ({ kind := 4, len := 0 } : ChainFrame).ok = true ∧ ({ kind := 4, len := 1 } : ChainFrame).ok = false ∧ kindDefined 0 = false ∧
    (onChain false true).ticks < (onChain false true).chain.breakAt + oneMs ∧
    ({ onChain false true with ticks := oneMs } : Block).chain.breakAt + oneMs ≤ oneMs ∧
    up.reaches .host .chn = true ∧ F.CHN_HEAD_CTRL_ENUM.of 0 = 0 ∧ F.CHN_HEAD_CTRL_SEND.of 0 = 0 ∧
    F.CHN_HEAD_CTRL_ENUM.of (F.CHN_HEAD_CTRL_ENUM.put 0 1) = 1 ∧ F.CHN_HEAD_CTRL_SEND.of (F.CHN_HEAD_CTRL_ENUM.put 0 1) = 0 ∧
    F.CHN_HEAD_CTRL_SEND.of (F.CHN_HEAD_CTRL_SEND.put 0 1) = 1 ∧ F.CHN_HEAD_CTRL_ENUM.of (F.CHN_HEAD_CTRL_SEND.put 0 1) = 0 ∧
    (let b := (onChain true false).setWord R.CHN_TX_HDR0 (4 * 2 ^ 16 + 7)
     b.txFrame.ok = true ∧ b.txFrame.kind ≠ 1 ∧ b.txFrame.dest = 7) ∧
    (let b := ((((onChain true false).setWord R.CHN_TX_HDR0 (2 * 2 ^ 16 + 0x7FFF)).setWord R.CHN_TX_HDR1 1).setWord (R.CHN_TX_DATA 0) 15).raise
       R.CHN_CMD_EN F.CHN_CMD_EN_HOLD_EN
     b.txFrame.ok = true ∧ b.txFrame.kind = 2 ∧ b.txFrame.dest = 0x7FFF ∧ b.flag R.CHN_CMD_EN F.CHN_CMD_EN_HOLD_EN = true ∧
     byteAt b.txFrame.payload 0 = 15) ∧
    F.CHN_RX_POP_POP.of 0 = 0 ∧ F.CHN_RX_POP_POP.of 0xFFFFFFFF = 1 := by decide +kernel

theorem witness_ChainCommandsActAtTheMembers :
    (let b := onChain false false
     let en (f : Bf) := b.raise R.CHN_CMD_EN f
     (5 < 2 ^ 15 ∧ 5 ≠ 0x7FFF) ∧ beAt (beBytes 2 32766) 0 2 = 32766 ∧
     (en F.CHN_CMD_EN_HOLD_EN).flag R.CHN_CMD_EN F.CHN_CMD_EN_HOLD_EN = true ∧
     (b.lower R.CHN_CMD_EN F.CHN_CMD_EN_HOLD_EN).flag R.CHN_CMD_EN F.CHN_CMD_EN_HOLD_EN = false ∧
     (en F.CHN_CMD_EN_RESET_EN).flag R.CHN_CMD_EN F.CHN_CMD_EN_RESET_EN = true ∧
     (en F.CHN_CMD_EN_SNAP_EN).flag R.CHN_CMD_EN F.CHN_CMD_EN_SNAP_EN = true ∧
     (let l := zeros 11 ++ beBytes 4 999999999
      l.length = 15 ∧ byteAt l 0 ≤ 1 ∧ beAt l 11 4 ≤ 999999999 ∧ (b.setSnap { base := 0, tag := 0, s := 0, ns := 0 }).1 = false ∧
      ({ b with baseA := { state := .stepped } }.setSnap { base := 0, tag := 0, s := 0, ns := 0 }).1 = true) ∧
     (let l := [7, 0xFF, 19, 1] ++ zeros 12
      ({ kind := 6, len := 16, payload := l } : ChainFrame).ok = true ∧ b.inSweep (byteAt l 1) = true ∧ b.inSweep 0xFE = false) ∧
     (let l := [0, 0xFF] ++ zeros 46
      l.length = 48 ∧ b.chain.sweep = byteAt l 0 ∧ (∀ k ∈ sweepClasses (beAt l 4 4), SMap.find b.chain.expected k = some (b.tally k)) ∧
      ¬(∀ k ∈ sweepClasses 1, SMap.find b.chain.expected k = some (b.tally k))) ∧
     (let c := en F.CHN_CMD_EN_READ_EN
      let l := beBytes 4 R.CHN_ADDR ++ [1]
      l.length = 5 ∧ c.flag R.CHN_CMD_EN F.CHN_CMD_EN_READ_EN = true ∧ beAt l 0 4 % 4 = 0 ∧ byteAt l 4 = 1 ∧
      ringReadable (beAt l 0 4) = true ∧ (c.peek (beAt l 0 4)).isSome = true)) := by decide +kernel

/-! ## The pair (spec/15) -/

/-- A package in a role, its partner's link up, with pair state and tick as given. -/
def paired (role : Nat) (s : PairState) (n : Nat) : Block :=
  { (up.setFld R.PAIR_STATUS F.PAIR_STATUS_ROLE role).raise R.PAIR_STATUS F.PAIR_STATUS_LINK_UP with pair := s, ticks := n }

theorem witness_PairMessagesAreTaken :
    up.pairRole = roleNone ∧ up.shaixLinked = false ∧
    (paired rolePrimary {} 0).pairRole = rolePrimary ∧ (paired roleStandby {} 0).pairRole = roleStandby ∧
    (paired roleStandby {} 0).shaixLinked = true ∧ (paired rolePrimary {} 0).flag R.PAIR_STATUS F.PAIR_STATUS_CONFLICT = false ∧
    (paired roleStandby {} 0).pair.early = [] ∧ (paired roleStandby {} 0).pair.expect = none ∧
    (paired roleStandby { expect := some 5 } 0).pair.expect = some 5 ∧
    (let l : LagCmd := { seq := 2 ^ 64 - 1 }
     ([] : List LagCmd).find? (fun c => c.seq == 2 ^ 64 - 1) = none ∧ [l].find? (fun c => c.seq == 2 ^ 64 - 1) = some l ∧ l.own = none ∧
     [{ l with own := some (0, 0) }].find? (fun c => c.seq == 2 ^ 64 - 1) = some { l with own := some (0, 0) }) ∧
    (let raw : List Byte := [2, 0, 0, 0x3C] ++ zeros 12 ++ [1]
     byteAt raw 3 / 16 = 3 ∧ byteAt raw 3 / 4 % 4 = 3 ∧ byteAt raw 0 = T.l2 ∧
     (let img := Vec.ofList ((List.range 8).map fun j => leVal (slice raw (16 + 4 * j) (20 + 4 * j)))
      imgKey img = 1 ∧ up.emFind 3 T.l2 false 1 = none ∧
      (eng { em := [(up.emPlace 3 T.l2 false 1 0, { kind := 0, key := 1 })] }).emFind 3 T.l2 false 1 =
        some (up.emPlace 3 T.l2 false 1 0, { kind := 0, key := 1 }))) ∧
    (let b := { paired roleStandby {} 0 with dmaEng := (List.range 16).map fun k => (k, ⟨k, 0, .winnow, []⟩) }.setWord R.PAIR_CKPT_ADDR_LO 4096
     b.word R.PAIR_CKPT_ADDR_LO = 4096 ∧ (∀ e, e < 16 → (SMap.find b.dmaEng e).isSome) ∧ b.pair.ckptId = 0 ∧
     b.pair.ckptSeen + 16 / 16 < pairsPerCkpt) ∧
    (paired roleStandby {} 0).pair.promoting = false ∧ (paired roleStandby {} 0).mirrorsLeft = false ∧
    ({ paired roleStandby {} 0 with engines := [(3, { ops := [{ via := .mirror 0 false }] })] }).mirrorsLeft = true := by decide +kernel

theorem witness_RolesChangeAsTheTableSays :
    (let p (s : PairState) (n : Nat) := paired rolePrimary s n
     let q (s : PairState) (n : Nat) := paired roleStandby s n
     let beat := (p {} 0).fld R.PAIR_TIMING F.PAIR_TIMING_HB_INTERVAL * 1000
     let quiet := (p {} 0).fld R.PAIR_TIMING F.PAIR_TIMING_HB_TIMEOUT * 1000000
     let left (s : PairState) (n : Nat) : Block := { q s n with engines := [(3, { ops := [{ via := .mirror 0 false }] })] }
     (p { beatAt := some 0 } (beat - 1)).since (some 0) beat = false ∧ (p { beatAt := some 0 } beat).since (some 0) beat = true ∧
     (p {} 0).mirroring = false ∧ ((p {} 0).raise R.PAIR_STATUS F.PAIR_STATUS_MIRRORING).mirroring = true ∧
     (p { sentAt := some 0 } 10000000).since (some 0) 10000000 = true ∧ ¬(p { sentAt := some 0 } 9999999).since (some 0) 10000000 = true ∧
     (p { handing := true } 0).pair.handing = true ∧ (p { handing := true } 0).pair.waiting = [] ∧
     (∀ d : Fin 4, ((p {} 0).engine d).ops = []) ∧
     ((p {} 0).raise R.PAIR_STATUS F.PAIR_STATUS_PEER_SEEN).flag R.PAIR_STATUS F.PAIR_STATUS_PEER_SEEN = true ∧
     (q { seenAt := some 0 } quiet).since (some 0) quiet = true ∧ ¬(q { seenAt := some 0 } (quiet - 1)).since (some 0) quiet = true ∧
     (q {} 0).mirrorsLeft = false ∧ (left {} 0).mirrorsLeft = true ∧ (left {} 0).pair.promoting = false ∧
     (q { promoting := true } 0).pair.promoting = true ∧ (q { promoting := true } 0).pair.reached = true) ∧
    up.inReset = false ∧ ({} : Block).inReset = true ∧ up.reaches .host .pair = true ∧
    F.PAIR_CTRL_START.of 0 = 0 ∧ F.PAIR_CTRL_START.of 0xFFFFFFFF = 1 ∧ F.PAIR_CTRL_HANDOVER.of 0xFFFFFFFF = 1 ∧
    F.PAIR_CTRL_DEMOTE.of 0xFFFFFFFF = 1 ∧ F.PAIR_CTRL_PROMOTE.of 0xFFFFFFFF = 1 ∧ up.fld R.PAIR_CFG F.PAIR_CFG_MIRROR = 0 ∧
    (up.setFld R.PAIR_CFG F.PAIR_CFG_MIRROR 1).fld R.PAIR_CFG F.PAIR_CFG_MIRROR ≠ 0 ∧
    (let b := (paired rolePrimary { peerRole := roleStandby } 0).raise R.PAIR_STATUS F.PAIR_STATUS_PEER_SEEN
     b.peerSeen = true ∧ b.pair.peerRole = roleStandby) := by decide +kernel

/-! ## Faults, resets and Hold (spec/16) -/

/-- A message of die 3's serious kind (3), and one of the package. -/
def dieMsg : Msg := { typ := 6, idx := 3, kind := 1 }
def pkgMsg : Msg := { typ := 0, idx := 0, kind := 1 }

theorem witness_MessagesAreCollectedAndPopped :
    (∀ c, c < 5 → up.nextMsg c = none) ∧
    ({ up with inflight := [pkgMsg, dieMsg] }).nextMsg 3 = some dieMsg ∧ ({ up with inflight := [dieMsg, pkgMsg] }).nextMsg 4 = some pkgMsg ∧
    up.severity 6 1 < 3 ∧ up.severity 0 3 = 3 ∧
    (let full (n : Nat) : List Msg := List.replicate n dieMsg
     let b := up.setFld R.FLT_CFG F.FLT_CFG_CAPTURE_SEV 3
     ((b.raise (colStatus 3) F.FLT_STATUS_CAPTURED).flag (colStatus 3) F.FLT_STATUS_CAPTURED = true) ∧
     b.flag (colStatus 3) F.FLT_STATUS_CAPTURED = false ∧ b.severity 6 1 < b.fld R.FLT_CFG F.FLT_CFG_CAPTURE_SEV ∧
     up.flag (colStatus 3) F.FLT_STATUS_CAPTURED = false ∧ (up.setFld R.FLT_CFG F.FLT_CFG_CAPTURE_SEV 0).fld R.FLT_CFG F.FLT_CFG_CAPTURE_SEV = 0 ∧
     (((up.modCol 3 fun x => { x with held := full 47 }).col 3).held.length < 48) ∧
     ¬(((up.modCol 3 fun x => { x with held := full 64 }).col 3).held.length < 64) ∧
     ((up.modDie 3 fun x => { x with col := { held := full 64 } }).die 3).col.held = dieMsg :: full 63 ∧ (up.die 3).col.held = [] ∧
     ({ up with flt := { held := full 959 } } : Block).flt.held.length < 960 ∧
     960 ≤ ({ up with flt := { held := full 960 } } : Block).flt.held.length ∧
     (full 512).length < 513 ∧ 512 ≤ (full 512).length) ∧
    up.reaches .host .flt = true ∧ F.FLT_POP_POP.of 0 = 0 ∧ F.FLT_POP_POP.of 0xFFFFFFFF = 1 ∧ sourceOk 15 0 = false ∧
    sourceOk 13 255 = true ∧ (∀ c : Fin 5, up.reaches .host (colBlk c) = true) ∧ F.FLT_FIRST_CLR_CLR.of 0 = 0 ∧
    F.FLT_FIRST_CLR_CLR.of 0xFFFFFFFF = 1 := by decide +kernel

/-- Collector c has received a serious message at tick 0, its timer of one µs running, with an ACTION of ESC_CFG. -/
def escalating (c act n : Nat) : Block :=
  { (((((up.modCol c fun x => { x with arrivals := [0] }).setFld (colEscCount c) F.FLT_ESC_COUNT_RECEIVED 1).raise (colStatus c)
    F.FLT_STATUS_ESC_RUNNING).setFld (colEscCfg c) F.FLT_ESC_CFG_TIME 1).setFld (colEscCfg c) F.FLT_ESC_CFG_ACTION act) with ticks := n }

theorem witness_EscalationTakesTheFatalAction :
    (∀ c : Fin 5, up.reaches .host (colBlk c) = true ∧ up.escDue c = false) ∧
    (let n := (escalating 4 0 0).fld (colEscCount 4) F.FLT_ESC_COUNT_RECEIVED
     (n + 65536 - 0) % 65536 < ((2 : BitVec 32).toNat % 65536 + 65536 - 0) % 65536 ∧
     ¬((n + 65536 - 0) % 65536 < ((1 : BitVec 32).toNat % 65536 + 65536 - 0) % 65536)) ∧
    (∀ c : Fin 5, (escalating c 0 999).escDue c = false ∧ (escalating c 0 1000).escDue c = true ∧
      (escalating c 0 1000).fld (colEscCfg c) F.FLT_ESC_CFG_ACTION = 0) ∧
    (escalating 4 1 1000).escDue 4 = true ∧ (escalating 4 1 1000).fld (colEscCfg 4) F.FLT_ESC_CFG_ACTION ≠ 0 ∧
    bitOf (((escalating 4 0 1000).setFld R.FLT_ESC_CFG F.FLT_ESC_CFG_HOLD_MASK 15).fld R.FLT_ESC_CFG F.FLT_ESC_CFG_HOLD_MASK) 3 = true ∧
    (let b := { up.setFld (R.FLT_SEV 6 0) ⟨3, 2⟩ 3 with inflight := [dieMsg] }
     b.nextMsg 3 = some dieMsg ∧ b.severity dieMsg.typ dieMsg.kind = 3 ∧ dieMsg.kind ≠ 3 ∧
     b.fld (colEscCfg 3) F.FLT_ESC_CFG_ACTION = 0) ∧
    up.faultN.till = none ∧ ({ up with faultN := { till := some 10 } } : Block).faultN.till = some 10 ∧
    up.reaches .host .flt = true ∧ F.FLT_FAULT_N_CTRL_CLEAR.of 0 = 0 ∧
    (let v (n : Nat) := F.FLT_FAULT_N_CTRL_PULSE.put (F.FLT_FAULT_N_CTRL_CLEAR.put 0 1) n
     F.FLT_FAULT_N_CTRL_CLEAR.of (v 9) = 1 ∧ F.FLT_FAULT_N_CTRL_PULSE.of (v 9) < 10 ∧ 1000 < F.FLT_FAULT_N_CTRL_PULSE.of (v 1001) ∧
     10 ≤ F.FLT_FAULT_N_CTRL_PULSE.of (v 10) ∧ F.FLT_FAULT_N_CTRL_PULSE.of (v 1000) ≤ 1000) := by decide +kernel

theorem witness_ResetsKeepWhatTheTableSays :
    (let off : Block := State.reset.blk
     off.pkgHold ≠ .sag ∧ off.pinLow = true ∧ ({ up with pkgHold := .powerOn } : Block).pkgHold = .powerOn ∧ up.pkgHold ≠ .powerOn ∧
     up.pinLow = false ∧ up.pkgHold = .none ∧ up.inReset = false ∧ ({ up with pinLow := true } : Block).pkgHold = .none) ∧
    (let b := (up.setFld (R.DIE_SAG_CFG 3) F.DIE_SAG_CFG_RESET_PCT 160)
     (599 : BitVec 10).toNat * 200 < b.fld (R.DIE_SAG_CFG 3) F.DIE_SAG_CFG_RESET_PCT * 750 ∧
     ¬((600 : BitVec 10).toNat * 200 < b.fld (R.DIE_SAG_CFG 3) F.DIE_SAG_CFG_RESET_PCT * 750)) ∧
    (0 : BitVec 10).toNat * 200 < up.fld (R.DIE_SAG_CFG 3) F.DIE_SAG_CFG_RESET_PCT * up.sagRef 3 ∧
    ¬((1023 : BitVec 10).toNat * 200 < up.fld (R.DIE_SAG_CFG 3) F.DIE_SAG_CFG_RESET_PCT * up.sagRef 3) ∧
    F.PKG_STRAPS_HOST_WAIT.of 0 ≠ 1 ∧ F.PKG_STRAPS_HOST_WAIT.of 0x7F = 1 ∧
    up.reaches .host .pkg = true ∧ F.PKG_RESET_CTRL_SOFT.of 0 = 0 ∧ F.PKG_RESET_CTRL_SOFT.of 0xFFFFFFFF = 1 ∧
    F.PKG_RESET_CTRL_KEY.of 0xFFFFFFFF ≠ 0x5A ∧
    (let v := F.PKG_RESET_CTRL_KEY.put 0 0x5A
     F.PKG_RESET_CTRL_SOFT.of (F.PKG_RESET_CTRL_SOFT.put v 1) = 1 ∧ F.PKG_RESET_CTRL_KEY.of (F.PKG_RESET_CTRL_SOFT.put v 1) = 0x5A ∧
     F.PKG_RESET_CTRL_KEY.of (F.PKG_RESET_CTRL_DIE_MASK.put v 8) = 0x5A ∧ F.PKG_RESET_CTRL_DIE_MASK.of (F.PKG_RESET_CTRL_DIE_MASK.put v 8) = 2 ^ 3 ∧
     F.PKG_RESET_CTRL_FWD_MASK.of (F.PKG_RESET_CTRL_DIE_MASK.put v 8) = 0 ∧ F.PKG_RESET_CTRL_FWD_MASK.of (F.PKG_RESET_CTRL_FWD_MASK.put v 8) = 2 ^ 3 ∧
     F.PKG_RESET_CTRL_DIE_MASK.of (F.PKG_RESET_CTRL_FWD_MASK.put v 8) = 0 ∧ F.PKG_RESET_CTRL_SOFT.of (F.PKG_RESET_CTRL_FWD_MASK.put v 8) = 0) ∧
    F.PKG_RESET_CTRL_DIE_MASK.of 0xFFFFFFFF ≠ 0 ∧ F.PKG_RESET_CTRL_FWD_MASK.of 0xFFFFFFFF ≠ 0 ∧
    (let d (r : Bool) (p : HoldPhase) := up.modDie 3 fun x => { x with resetting := r, phase := p }
     (d true .held).die 3 = { resetting := true, phase := .held } ∧ (d false .window).die 3 = { phase := .window } ∧
     (d false .parking).die 3 = { phase := .parking } ∧ ((d true .held).raise (R.DIE_HOLD_STATUS 3) F.DIE_HOLD_STATUS_LATCH).latchH 3 = true ∧
     (d true .held).latchH 3 = false ∧ bitOf ((d true .held).word R.CHN_RING_HOLD) 3 = false) ∧
    ((up.modDie 3 fun x => { x with refusing := true }).die 3).refusing = true ∧ (up.die 3).refusing = false := by decide +kernel

/-- Die 3 in phase p, its latch as said, both releases allowed. -/
def holding (p : HoldPhase) (latch : Bool) : Block :=
  let b := ((up.modDie 3 fun x => { x with phase := p }).setFld (R.DIE_HOLD_CFG 3) F.DIE_HOLD_CFG_REL_REG_EN 1).setFld (R.DIE_HOLD_CFG 3)
    F.DIE_HOLD_CFG_REL_PIN_EN 1
  if latch then b.raise (R.DIE_HOLD_STATUS 3) F.DIE_HOLD_STATUS_LATCH else b

theorem witness_DiesAreHeldAndReleased :
    up.reaches .host .die = true ∧ (up.raise R.BOOT_STATUS F.BOOT_STATUS_DONE).started = true ∧ up.started = false ∧
    (let one := F.DIE_HOLD_CTRL_HOLD.put 0 1
     let rel := F.DIE_HOLD_CTRL_RELEASE.put 0 1
     F.DIE_HOLD_CTRL_HOLD.of one = 1 ∧ F.DIE_HOLD_CTRL_RELEASE.of one = 0 ∧ F.DIE_HOLD_CTRL_HOLD.of rel = 0 ∧ F.DIE_HOLD_CTRL_RELEASE.of rel = 1 ∧
     F.DIE_HOLD_CTRL_HOLD.of 0xFFFFFFFF = 1 ∧ F.DIE_HOLD_CTRL_RELEASE.of 0xFFFFFFFF = 1) ∧
    (∀ p ∈ [HoldPhase.idle, .window, .parking, .held, .exiting], (holding p true).latchH 3 = true ∧ (holding p false).latchH 3 = false ∧
      ((holding p true).die 3).phase = p ∧ (holding p true).relPin = false ∧
      (holding p true).flag (R.DIE_HOLD_CFG 3) F.DIE_HOLD_CFG_REL_REG_EN = true ∧
      (holding p true).flag (R.DIE_HOLD_CFG 3) F.DIE_HOLD_CFG_REL_PIN_EN = true ∧
      ((holding p true).setFld (R.DIE_HOLD_CFG 3) F.DIE_HOLD_CFG_REL_REG_EN 0).flag (R.DIE_HOLD_CFG 3) F.DIE_HOLD_CFG_REL_REG_EN = false ∧
      ((holding p true).setFld (R.DIE_HOLD_CFG 3) F.DIE_HOLD_CFG_PIN_MODE 1).flag (R.DIE_HOLD_CFG 3) F.DIE_HOLD_CFG_PIN_MODE = true ∧
      ((holding p true).setFld (R.DIE_HOLD_CFG 3) F.DIE_HOLD_CFG_PIN_MODE 0).flag (R.DIE_HOLD_CFG 3) F.DIE_HOLD_CFG_PIN_MODE = false ∧
      bitOf ((holding p true).word R.CHN_RING_HOLD) 3 = false ∧
      bitOf (((holding p true).setWord R.CHN_RING_HOLD 8).word R.CHN_RING_HOLD) 3 = true ∧
      ((holding p true).die 3).resetting = false ∧ ((holding p true).die 3).release = false ∧ (holding p true).allParked 3 = true) ∧
    (∀ e : Fin 4, (up.setFld (R.DIE_HOLD_CFG e) F.DIE_HOLD_CFG_REL_PIN_EN 0).flag (R.DIE_HOLD_CFG e) F.DIE_HOLD_CFG_REL_PIN_EN = false) ∧
    ({ up with relPin := true } : Block).relPin = true ∧
    ¬((16 : Nat) < ((holding .window true).die 3).holdAt + 16) ∧ (15 : Nat) < ((holding .window true).die 3).holdAt + 16 ∧
    ({ holding .parking true with clusters := [(31, { ctxs := [(1023, { frame := some 1 })] })] }).allParked 3 = false := by
  decide +kernel

/-! ## Observation (spec/17) -/

theorem witness_CounterUnitsWindowsAndSnapshots :
    (∀ u ∈ ([.pkg, .die 3, .rgn 7, .mac 255] : List CounterUnit), up.reaches .host (unitBlk u) = true) ∧
    (unitOf (.mac 255)).selOk (F.OBS_PMC_SEL_QUAL.put (F.OBS_PMC_SEL_EN.put 1 1) 0xFFF) = true ∧ (unitOf (.mac 255)).selOk 0xFFFFFFFF = false ∧
    F.OBS_PMC_CTRL_CLR.of 0 = 0 ∧ F.OBS_PMC_CTRL_CLR.of 0xFFFFFFFF = 1 ∧ F.OBS_PMC_CTRL_FREEZE.of 0xFFFFFFFF = 1 ∧
    up.reaches .host .obs = true ∧ F.OBS_PMC_GLOBAL_CLEAR_ALL.of 0 = 0 ∧ F.OBS_PMC_GLOBAL_CLEAR_ALL.of 0xFFFFFFFF = 1 ∧
    (let n := up.fld (R.MAC_BW_CFG 255) F.MAC_BW_CFG_WINDOW * 1000
     ({ up with ticks := n - 1 } : Block).ticks < (up.port 255).bwFrom + n ∧ (up.port 255).bwFrom + n ≤ ({ up with ticks := n } : Block).ticks) ∧
    up.reaches .host .mac = true ∧ F.MAC_BW_CFG_WINDOW.of 0 = 0 ∧
    (let v (n : Nat) := F.MAC_BW_CFG_WINDOW.put 0 n
     F.MAC_BW_CFG_WINDOW.of (v 1000001) = 1000001 ∧ F.MAC_BW_CFG_WINDOW.of (v 1) = 1 ∧ F.MAC_BW_CFG_WINDOW.of (v 1000000) = 1000000) ∧
    F.MAC_BW_CFG_CLR_MAX.of 0 = 0 ∧ F.MAC_BW_CFG_CLR_MAX.of 0xFFFFFFFF = 1 ∧ up.pendSnap = none ∧
    (let x : PendSnap := { s := 2 ^ 48 - 1, ns := 999999999 }
     let stepped (n : Nat) : Block := { up with baseA := { s := 2 ^ 48 - 1, ns := n, state := .stepped }, pendSnap := some x }
     (stepped 0).pendSnap = some x ∧ (stepped 999999998).reached x = false ∧ (stepped 999999999).reached x = true ∧
     ((stepped 0).tbase 0).state = .stepped ∧ (up.tbase 1).state ≠ .stepped) ∧
    (let v := F.OBS_SNAP_CTRL_NOW.put 0 1
     let w := F.OBS_SNAP_CTRL_ARM.put 0 1
     let c := F.OBS_SNAP_CTRL_CANCEL.put 0 1
     F.OBS_SNAP_CTRL_NOW.of v = 1 ∧ F.OBS_SNAP_CTRL_ARM.of v = 0 ∧ F.OBS_SNAP_CTRL_CANCEL.of v = 0 ∧ F.OBS_SNAP_CTRL_NOW.of w = 0 ∧
     F.OBS_SNAP_CTRL_ARM.of w = 1 ∧ F.OBS_SNAP_CTRL_CANCEL.of w = 0 ∧ F.OBS_SNAP_CTRL_NOW.of c = 0 ∧ F.OBS_SNAP_CTRL_ARM.of c = 0 ∧
     F.OBS_SNAP_CTRL_CANCEL.of c = 1) ∧
    999999999 < F.OBS_SNAP_AT_NS_NS.of ((up.setWord R.OBS_SNAP_AT_NS 1000000000).word R.OBS_SNAP_AT_NS) ∧
    F.OBS_SNAP_AT_NS_NS.of ((up.setWord R.OBS_SNAP_AT_NS 999999999).word R.OBS_SNAP_AT_NS) ≤ 999999999 := by decide +kernel

/-- A record of a state change waits for the ring of die 3, whose stacks are trained; every type is kept. -/
def traced : Block :=
  { (up.raise (R.HBM_TRAIN_STATUS 3) F.HBM_TRAIN_STATUS_DONE).setWord (R.OBS_TRC_FILTER 0) 0xFF with
    records := [{ typ := 5, die := 3, body := [] }], rings := [(3, { units := [(0, zeros 32)] })] }
theorem witness_TraceRingsAndTheObservationPort :
    popRec 3 up.records = none ∧ up.flag (R.HBM_TRAIN_STATUS 3) F.HBM_TRAIN_STATUS_DONE = false ∧
    popRec 3 traced.records = some ({ typ := 5, die := 3, body := [] }, []) ∧
    traced.flag (R.HBM_TRAIN_STATUS 3) F.HBM_TRAIN_STATUS_DONE = true ∧
    (({ traced with records := [] } : Block).keeps { typ := 5, die := 3, body := [] }).1 = true ∧
    ¬((({ traced with records := [] } : Block).setWord (R.OBS_TRC_FILTER 0) 0).keeps { typ := 5, die := 3, body := [] }).1 = true ∧
    traced.traceMiB 3 * 32768 = 67108864 ∧ bitOf (traced.filterByte 3) 0 = false ∧
    traced.flag (R.OBS_TRC_STATUS 3) F.OBS_TRC_STATUS_STOPPED = false ∧ traced.flag (R.OBS_TRC_STATUS 3) F.OBS_TRC_STATUS_FROZEN = false ∧
    (traced.raise (R.OBS_TRC_STATUS 3) F.OBS_TRC_STATUS_STOPPED).flag (R.OBS_TRC_STATUS 3) F.OBS_TRC_STATUS_STOPPED = true ∧
    up.reaches .host .obs = true ∧ F.OBS_TRC_CTRL_UNFREEZE.of 0 = 0 ∧ F.OBS_TRC_CTRL_UNFREEZE.of 0xFFFFFFFF = 1 ∧
    F.OBS_TRC_CTRL_RESTART.of 0 = 0 ∧ F.OBS_TRC_CTRL_RESTART.of 0xFFFFFFFF = 1 ∧
    (let v (u : Nat) := F.OBS_TRC_RD_ADDR_UNIT.put (F.OBS_TRC_RD_ADDR_DIE.put 0 3) u
     F.OBS_TRC_RD_ADDR_DIE.of (v 0) = 3 ∧ F.OBS_TRC_RD_ADDR_UNIT.of (v 0) < traced.traceMiB 3 * 32768 ∧
     SMap.find (traced.ring 3).units (F.OBS_TRC_RD_ADDR_UNIT.of (v 0)) = some (zeros 32) ∧
     up.traceMiB 3 * 32768 ≤ F.OBS_TRC_RD_ADDR_UNIT.of (v 0)) ∧
    ({} : Block).boot.phase = .off ∧ up.boot.phase ≠ .off ∧ up.flag R.OBS_PORT_CFG F.OBS_PORT_CFG_DISABLE = false ∧
    (up.raise R.OBS_PORT_CFG F.OBS_PORT_CFG_DISABLE).flag R.OBS_PORT_CFG F.OBS_PORT_CFG_DISABLE = true ∧
    up.snapAt (R.FLT_COUNT 3) = some 0 ∧ up.snapAt R.PKG_ID = none := by decide +kernel

/-! ## Clocks, register writes and reads, addresses (spec/19, spec/18, spec/00) -/

theorem witness_ClocksAndTheThermalTrip :
    (255 : Fin 256).val / 32 = (7 : Fin 8).val ∧ (223 : Fin 256).val / 32 ≠ (7 : Fin 8).val ∧
    up.flag (R.MAC_PORT_CFG 255) F.MAC_PORT_CFG_ENABLE = false ∧
    (let b := (up.setFld (R.MAC_PORT_CFG 255) F.MAC_PORT_CFG_ENABLE 1).setFld (R.MAC_PORT_CFG 255) F.MAC_PORT_CFG_AN_EN 1
     b.flag (R.MAC_PORT_CFG 255) F.MAC_PORT_CFG_ENABLE = true ∧ b.frozen (dieOfPort 255) = false ∧
     b.flag (R.MAC_PORT_CFG 255) F.MAC_PORT_CFG_AN_EN = true ∧ b.mediaC2m 255 = false ∧
     (b.modDie 3 fun x => { x with phase := .held }).frozen (dieOfPort 255) = true) := by decide +kernel

theorem witness_RegisterWritesFollowTheAccessCodes :
    ({} : Block).inReset = true ∧ up.inReset = false ∧ up.isMsix R.PKG_ID = false ∧ R.PKG_ID % 4 = 0 ∧ 0xFFFFFFF % 4 ≠ 0 ∧
    findReg 0xFFFFFFC = none ∧ up.isMsix 0xFFFFFFC = false ∧ up.locked = true ∧
    (let y := layBase 255 + 0xFFFFC
     y % 4 = 0 ∧ findReg y = none ∧ up.isMsix y = false) ∧ (layBase 255 + 1) % 4 ≠ 0 ∧
    (∀ h, findReg (R.MAC_PORT_CFG 255) = some h → up.reaches .host h.blk = true ∧ h.blk ≠ .lay ∧ h.desc.wide = false ∧
      up.reaches (.inst 0) h.blk = false) ∧
    (∀ h, findReg (R.PAIR_TIMING) = some h → up.reaches .host h.blk = true ∧ h.blk ≠ .lay ∧ h.desc.wide = false) ∧
    (findReg (R.MAC_BW_RX_BYTES 255)).any (fun h => h.desc.wide && h.blk == .mac) = true ∧
    (findReg (R.LAY_RXDB 255 0)).any (fun h => h.blk == .lay && !up.layHas h.inst h) = true := by decide +kernel

theorem witness_ReadsAnswerAndLatch :
    ({} : Block).inReset = true ∧ (Reader.host ≠ Reader.obs) ∧ up.inReset = false ∧ up.locked = true ∧ up.boot.phase ≠ .off ∧
    up.flag R.OBS_PORT_CFG F.OBS_PORT_CFG_DISABLE = false ∧
    (∀ h, findReg (R.MAC_BW_RX_BYTES 255) = some h → h.blk ≠ .lay ∧ h.desc.wide = true ∧ h.word = 0 ∧ isPmcRef h = false ∧ h.blk ≠ .chn) ∧
    (∀ h, findReg (R.MAC_BW_RX_BYTES 255 + 4) = some h → h.desc.wide = true ∧ h.word = 1) ∧
    (findReg (R.MAC_BW_RX_BYTES 255)).isSome ∧ (findReg (R.MAC_BW_RX_BYTES 255 + 4)).isSome ∧ (findReg R.PKG_ID).isSome ∧
    (∀ h, findReg R.PKG_ID = some h → h.desc.wide = false ∧ h.blk ≠ .tim ∧ h.blk ≠ .obs ∧ h.blk ≠ .lay) := by decide +kernel

/-- Boundaries of windows: the last offset of the last PRT window, the first of the CLS window of cluster 31, and an address that
lies in none. -/
theorem witness_AddressesDecodeToTheirBlocks :
    decodeAddr 0xF41FFFF = some (.prt, 255, 0xFFF) ∧ decodeAddr 0xF300000 = some (.cls, 31, 0) ∧ decodeAddr 0x80000 = none ∧
    findReg 0x80000 = none ∧ decodeAddr 0x2FF800 = some (.ins, 255, 0x800) := by decide +kernel

/-! ## The machine as a whole -/

/-- A command that completes and changes the block, and one of another family that leaves it as it is. -/
theorem test_commands_complete :
    exec .thermtrip ⟨up, []⟩ = .next ⟨{ up with out := [.pin "THERMTRIP_N" true] }, []⟩ ∧
    exec .faultNPulseEnd ⟨up, [.thermtrip]⟩ = .next ⟨up, [.thermtrip]⟩ := ⟨rfl, rfl⟩
theorem test_step_runs_the_front :
    step ⟨up, [.thermtrip, .pinReset]⟩ = .next ⟨{ up with out := [.pin "THERMTRIP_N" true] }, [.pinReset]⟩ := rfl
theorem witness_AStepOnAnEmptyQueueIsOneTick :
    up.refLost = false ∧ ({ up with refLost := true } : Block).refLost = true ∧ (∀ e ∈ up.frames, e.2.loc ≠ .llWait) := by
  decide +kernel

/-- Tables 3-6, 13-3, 15-13, 15-14 and 16-10: reset values that the spec states. -/
theorem test_reset_values :
    (let b := State.reset.blk
     b.fld R.PAIR_TIMING F.PAIR_TIMING_HB_TIMEOUT = 30 ∧ b.fld R.PAIR_CFG F.PAIR_CFG_LAG_LIMIT = 64 ∧
     b.fld R.FLT_FAULT_N_CTRL F.FLT_FAULT_N_CTRL_PULSE = 10 ∧ b.fld (R.INS_ENG_MAX 7) F.INS_ENG_MAX_V = 4 ∧
     b.word (R.MAC_LINK_STATUS 255) = 0) := by decide +kernel
theorem test_reset_tables_in_order : State.reset.blk.tablesWf = true ∧ SMap.wf {} (State.reset.blk.engine 3).lpm = true := by decide +kernel
theorem witness_EveryStepKeepsTheTablesInOrder : rings.tablesWf = true ∧ SMap.wf {} (rings.engine 3).lpm = true := by decide +kernel
theorem witness_a_step_of_rings :
    step ⟨rings, [.thermtrip]⟩ = .next ⟨{ rings with out := [.pin "THERMTRIP_N" true] }, []⟩ := rfl

/-- A tick counts a held die, and no other. -/
theorem test_tick_counts_held :
    (match step ⟨up.modDie 3 fun x => { x with phase := .held }, []⟩ with
     | .next t => decide (t.blk.ctr (R.DIE_HELD_TICKS 3) = 1 ∧ t.blk.ctr (R.DIE_HELD_TICKS 2) = 0 ∧ t.blk.ticks = 1)
     | _ => false) = true := by decide +kernel

/-! ## Words and ill-formed commands -/

/-- The table gives no row any bits: no word spells a command. -/
theorem test_no_word_spells_a_command : decodeTableWord 32 0xFFFFFFFF = none := rfl

theorem test_ill_formed_receive :
    Instr.wellFormed (.frameReceive 0 [] {}) = false ∧ Instr.wellFormed (.pfcFrameReceive 0 0 [1]) = false ∧
    Instr.wellFormed (.linkUp 0 [0, 0, 0]) = false ∧ Instr.wellFormed (.hbmTrain 0 []) = false := by decide +kernel
theorem test_ill_formed_host :
    Instr.wellFormed (.txFetch (zeros 63) []) = false ∧ Instr.wellFormed (.txFetch (zeros 576) []) = false ∧
    Instr.wellFormed (.dmaErr (.txData (zeros 1))) = false ∧ Instr.wellFormed (.dmaErr (.txData (zeros 576))) = false ∧
    Instr.wellFormed (.poolFetch 0 0 (zeros 7)) = false ∧ Instr.wellFormed (.winnowCompare 0 (zeros 63)) = false ∧
    Instr.wellFormed (.winnowRecheck 0 (zeros 65)) = false ∧ Instr.wellFormed (.pcieLinkUp 2 1) = false ∧
    Instr.wellFormed (.pcieLinkUp 16 0) = false ∧ Instr.wellFormed (.pcieLinkUp 16 7) = false := by decide +kernel
theorem test_ill_formed_pair :
    Instr.wellFormed (.cmd 0 0 false 0 0 []) = false ∧ Instr.wellFormed (.frag 0 []) = false ∧ Instr.wellFormed (.time []) = false ∧
    Instr.wellFormed (.tally []) = false ∧ Instr.wellFormed (.ckpt 0 0 0 (zeros 15)) = false := by decide +kernel
theorem test_ill_formed_chain :
    (let l := zeros 256
     Instr.wellFormed (.enumerate 0 0 l true) = false ∧ Instr.wellFormed (.ringHold 0 0 l true) = false ∧
     Instr.wellFormed (.ringRelease 0 0 l true) = false ∧ Instr.wellFormed (.ringReset 0 0 l true 0) = false ∧
     Instr.wellFormed (.snapshotAt 0 0 l true) = false ∧ Instr.wellFormed (.tallyLoad 0 0 l true) = false ∧
     Instr.wellFormed (.tallySum 0 0 l true) = false ∧ Instr.wellFormed (.ringRead 0 0 l true) = false ∧
     Instr.wellFormed (.ack 0 0 l true) = false ∧ Instr.wellFormed (.readResp 0 0 l true) = false ∧
     Instr.wellFormed (.breakFrame 0 0 l true) = false ∧ Instr.wellFormed (.badFrames 0 0 0 l) = false) := by decide +kernel
theorem test_ill_formed_observe :
    Instr.wellFormed (.obsReg 0 0) = false ∧ Instr.wellFormed (.obsSnap 0 0) = false ∧ Instr.wellFormed (.obsTrace 0 0 []) = false := by
  decide +kernel
theorem test_well_formed : Instr.wellFormed (.pcieLinkUp 16 6) = true ∧ Instr.wellFormed .thermtrip = true := by decide +kernel

/-! ## Further clauses of the statements above -/

/-- The sequencer has ended (R417), and port 255 may be brought up. -/
def done : Block := (linked 255).raise R.BOOT_STATUS F.BOOT_STATUS_DONE
/-- Every DMA engine has a job of instance 0. -/
def engaged (b : Block) : Block := { b with dmaEng := (List.range 16).map fun k => (k, ⟨k, 0, .winnow, []⟩) }

theorem witness_PortsStartAndVerify :
    done.started = true ∧ done.frozen (dieOfPort 255) = false ∧ up.started = false ∧
    (let b (n : Nat) : Block := ({ up with ports := [(255, { verifyAt := 0, verifyTries := 2 })], ticks := n }.setFld (R.MAC_PREEMPT_STATUS 255)
        F.MAC_PREEMPT_STATUS_VERIFY_STATE 1).setFld (R.MAC_PREEMPT_CFG 255) F.MAC_PREEMPT_CFG_VERIFY_TIME 1
     let till (n : Nat) := ((b n).port 255).verifyAt + (b n).fld (R.MAC_PREEMPT_CFG 255) F.MAC_PREEMPT_CFG_VERIFY_TIME * oneMs
     (b 999999).ticks < till 999999 ∧ till 1000000 ≤ (b 1000000).ticks ∧
     (b 0).fld (R.MAC_PREEMPT_STATUS 255) F.MAC_PREEMPT_STATUS_VERIFY_STATE = 1 ∧ 2 ≤ ((b 0).port 255).verifyTries) ∧
    up.flag (R.MAC_LINK_STATUS 255) F.MAC_LINK_STATUS_LINK_UP = false ∧
    (up.modDie 3 fun x => { x with phase := .held }).frozen (dieOfPort 255) = true ∧
    (∃ x ∈ ([(3, 2)] : List (BitVec 2 × BitVec 2)), x.1.toNat = 3 ∧ x.2.toNat = 2) ∧
    (∀ x ∈ ([(3, 1)] : List (BitVec 2 × BitVec 2)), ¬(x.1.toNat = 3 ∧ x.2.toNat = 2)) := by decide +kernel

/-- Eight other reads have gone to each bank in this handshake: a search of frame 1 waits (R201). -/
theorem witness_SearchesWait :
    (let b := inPipe (atPipe 2 [] [] 0)
     let more (a : Ask) : List Ask := match a with | .em s => (List.range 8).map fun k => .em (s / 2048 * 2048 + (s + 1 + k) % 2048) | x => [x]
     let busy : Block := { b with regions := [(7, { cycle := ⟨0, (b.s2Asks (atPipe 2 [] [] 0)).flatMap more⟩ })] }
     (b.askAll 1 (b.s2Asks (atPipe 2 [] [] 0))).1 = true ∧ (busy.askAll 1 (busy.s2Asks (atPipe 2 [] [] 0))).1 = false ∧
     busy.frame 1 = atPipe 2 [] [] 0 ∧ busy.atStage 255 2 = some (1, atPipe 2 [] [] 0)) := by decide +kernel
theorem witness_Policed :
    (let y : Frame := atPipe 6 [] (Vec.put [] 3 D.policeEn 1) 0
     let b := withEntry y T.policer 0 [(0, 2 ^ 31 + 2 ^ 28)]
     Vec.f (b.entry 3 T.policer 0) 0 ⟨31, 31⟩ = 1 ∧ Vec.f (b.entry 3 T.policer 0) 0 ⟨28, 28⟩ = 1 ∧
     Vec.f ((inPipe y).entry 3 T.policer 0) 0 ⟨31, 31⟩ = 0 ∧ (b.polNow 7 0).c = 0 ∧ (b.polNow 7 0).p = 0 ∧
     (meter 0 0 1000000 1000000 512000).1 = 0) := by decide +kernel
theorem witness_EngineTurns :
    (eng { ops := [{}] }).cmdTurn 3 = true ∧ (eng { ops := [{ via := .commit, op := 2 }] }).cmdTurn 3 = true ∧
    up.flag (R.TBL_CMD_STATUS 3) F.TBL_CMD_STATUS_BUSY = false ∧ (up.engine 3).ops = [] ∧ up.mirroring = false ∧
    (match (up.engine 3).fences with | [] => true | _ => false) = true ∧
    F.TBL_FENCE_CFG_LIMIT.of 1 * 1000000 ≤ ({ up with ticks := 1000000 } : Block).ticks - 0 := by decide +kernel
/-- A read of host memory that finds an engine, and one that waits for one (R401). -/
theorem witness_Reads :
    (up.readGot 0 (.winRead 3)).isSome = true ∧ (engaged up).readGot 0 (.winRead 3) = none ∧
    (offered.readGot 255 (.txRead 8191)).isSome = true ∧ (engaged offered).readGot 255 (.txRead 8191) = none ∧
    offered.txOwner 8191 = some 255 ∧ (engaged offered).txTurn = some (255, 8191) ∧
    (let b := ((up.raise (R.INS_POOL_CFG 255 3) F.INS_POOL_CFG_EN).setFld (R.INS_POOL_CFG 255 3) F.INS_POOL_CFG_SIZE_LOG2 6).setWord
       (R.LAY_POOL_TAIL 255 3) 1
     b.resetting 255 = false ∧ (b.readGot 255 (.poolRead 3)).isSome = true ∧ (engaged b).readGot 255 (.poolRead 3) = none ∧
     min (64 - (b.pool 255 3).cache.length) (b.poolEntries 255 3) ≠ 0 ∧ b.slow = []) ∧
    (let b := up.raise (R.TBL_WIN_STATUS 3) F.TBL_WIN_STATUS_BUSY
     b.winBusy 3 = true ∧ (b.readGot 0 (.winRead 3)).isSome = true ∧ (engaged b).readGot 0 (.winRead 3) = none) ∧
    up.winBusy 3 = false ∧ (up.engine 3).rechecks = [] ∧
    (let x : Recheck := ⟨T.portVlan, 0, 0, 1, 0, 0⟩
     let b : Block := { eng { rechecks := [x] } with ticks := 1000000000 }
     (b.readGot 0 (.winRead 3)).isSome = true ∧ b.frozen 3 = false ∧ (b.winAgain 3 x (Vec.ofList [2 ^ 31])).length = 1) ∧
    JobKind.isRead (.txRead 0) = true := by decide +kernel

theorem witness_WriteTurns :
    (let k : Pkt := { bytes := least }
     let b (g : Region) := crossing k .waiting g
     (b {}).inTurn 7 3 = true ∧
     -- the host's frame and die 3's frame: the turn is die 3's, then the host's
     (let c (t : Nat) : Block := { b { inTurn := t } with hostLinks := [(7, [{ pkt := k }])] }
      (c 3).inTurn 7 3 = true ∧ (c 3).inTurn 7 4 = false ∧ (c 4).inTurn 7 4 = true ∧ (c 4).inTurn 7 3 = false) ∧
     (let c := b { mcPend := [⟨1, 0, 1, false⟩], stored := [(1, { mc := true, own := 1 })], next := 2 }
      (c.judge 7 k.queue k).1 = .onDie ∧ (c.region 7).mcPend ≠ [] ∧ c.inputUp 7 3 = true ∧ c.inTurn 7 3 = true) ∧
     k.id = 0 ∧ up.frozen (7 / 2) = false ∧ (up.region 7).mcPend = [] ∧
     (up.modDie 3 fun x => { x with phase := .held }).frozen 3 = true) := by decide +kernel

theorem witness_E1AndE2 :
    (let c : TxCopy := { copy .e1 with cntOver := true }
     let b := (sending (held true false) [c]).modEngine 3 fun e => { e with direct := [(T.rewrite * 2 ^ 20, [(0, 2 ^ 31)])] }
     (b.port 255).tx = [c] ∧ c.stage = .e1 ∧ b.txAt 255 .csum = none ∧ c.q < 8192 ∧ (b.txPkt 255 c).host = none ∧
     Vec.f c.desc 0 D.act = 0 ∧ c.cntOver = true ∧ b.rwEntries 3 c.rw = some ([(0, 2 ^ 31)], none)) ∧
    (sending (held true false) [copy .e1, copy .csum]).txAt 255 .csum ≠ none ∧
    (let s (p : Stored) := sending p [copy .csum]
     (((s (held false false)).region 7).frame 1).whole = false ∧ (((s (held true true)).region 7).frame 1).pkt.bad = true ∧
     (s (held true false)).gateOn 255 = false) ∧
    (let h : HostTx := { inst := 255, ring := 8191, slot := 0, op := 1, offPtp := 14, refS := 0, refNs := 0, noRw := true }
     let b (h : HostTx) := sending { held true false with pkt := { id := 1, bytes := least, host := some h } } [copy .e2]
     ((b h).txPkt 255 (copy .e2)).host = some h ∧ h.op = 1 ∧ hostPtpOk ((b h).txPkt 255 (copy .e2)) (copy .e2) h = true ∧
     hostPtpOk ((b h).txPkt 255 (copy .e2)) (copy .e2) { h with offPtp := 17 } = false ∧
     HostTx.op { h with op := 3 } ≠ 1 ∧ HostTx.op { h with op := 3 } ≠ 2) ∧
    ((sending { held true false with pkt := { id := 0, bytes := least } } [copy .e0]).txPkt 255 (copy .e0)).id = 0 := by decide +kernel

theorem witness_StartsAndCuts :
    (let b (n : Nat) := ({ sending (held true false) [copy .fifo] with ticks := n }.setFld (R.MAC_PAUSE_STATUS 255)
        F.MAC_PAUSE_STATUS_RX_PAUSED 0xFF).modPort 255 fun x => { x with since := (List.range 8).map fun k => (k, 0) }
     (b 600).pausedOut 255 (copy .fifo) = true ∧ (b 599).pausedOut 255 (copy .fifo) = false ∧ ((b 600).port 255).tx = [copy .fifo]) ∧
    (let b := sending (held true false) [copy .fifo]
     let ready (got : Nat) : Bool := decide (min (b.fld (R.PRT_CT_CFG 255) F.PRT_CT_CFG_THRESH * 64) (copy .fifo).bytes.length ≤
       ((copy .fifo).fill got).filled)
     b.pausedOut 255 (copy .fifo) = false ∧ ready 60 = true ∧ ready 59 = false ∧ (b.port 255).ctrl = [] ∧
     ((b.modPort 255 fun x => { x with ctrl := [least] }).port 255).ctrl ≠ []) ∧
    (let d : TxCopy := { copy .sending with bytes := zeros 1000 }
     let e : TxCopy := { copy .fifo with express := true }
     let b := (((sending (held true false) [d, e]).raise (R.MAC_PREEMPT_STATUS 255) F.MAC_PREEMPT_STATUS_ACTIVE).raise
        (R.MAC_PREEMPT_CFG 255) F.MAC_PREEMPT_CFG_PREEMPT_EN).setFld (R.MAC_PORT_STATE 255) F.MAC_PORT_STATE_STATE 1
     (b.port 255).tx = [d, e] ∧ d.express = false ∧ e.express = true ∧ b.mayPreempt 255 = true ∧ b.mayCut 255 d 60 = true ∧
     b.mayCut 255 d 59 = false ∧ b.pausedOut 255 e = false ∧ e.bytes.length ≤ 4096 ∧ (b.port 255).ctrl = [] ∧
     b.frozen (dieOfPort 255) = false ∧ b.flag (R.MAC_LINK_STATUS 255) F.MAC_LINK_STATUS_LINK_UP = true) ∧
    (let d : TxCopy := { copy .preempted with sent := 60 }
     let b := sending (held true false) [copy .sending, d]
     (b.port 255).tx = [copy .sending, d] ∧ b.landsOff 255 = false ∧ ((b.region 7).frame 1).whole = true ∧ b.mayPreempt 255 = false) ∧
    ((sending (held false false) [copy .sending]).region 7 |>.frame 1).whole = false := by decide +kernel

/-- Window 0 of instance 255 opens 50 entries of the REWRITE table, and every die, to its commands (R403). -/
def windowed : Block :=
  (((up.setWord (R.INS_DIE_MASK 255) 15).setWord (R.INS_WIN_CFG 255 0) (F.INS_WIN_CFG_EN.put (F.INS_WIN_CFG_TABLE.put
    (F.INS_WIN_CFG_CLUSTER_MASK.put 0 255) T.rewrite) 1)).setWord (R.INS_WIN_BASE 255 0) 100).setWord (R.INS_WIN_SIZE 255 0) 50
theorem witness_InstanceCommandsJoin :
    (let v := F.LAY_INS_CMD_TABLE.put (F.LAY_INS_CMD_DIE.put 0 3) T.rewrite
     (match windowed.insOp 255 (withOp 0 v) with | .ok o => decide (o.index = 100 ∧ o.table = T.rewrite) | .error _ => false) = true ∧
     windowed.mirroring = false ∧ windowed.resetting 255 = false ∧
     windowed.flag (R.INS_INS_CTRL 255) F.INS_INS_CTRL_WIN_HOLD = false ∧
     -- the same command was held back, and WIN_HOLD clears
     (let b := { windowed with insts := [(255, { held := some (withOp 0 v) })] }.raise (R.LAY_INS_CMD_STATUS 255) F.LAY_INS_CMD_STATUS_BUSY
      (b.inst 255).held = some (withOp 0 v) ∧ b.resetting 255 = false ∧
      (match b.insOp 255 (withOp 0 v) with | .ok _ => true | .error _ => false) = true ∧
      b.flag (R.LAY_INS_CMD_STATUS 255) F.LAY_INS_CMD_STATUS_BUSY = true ∧ F.LAY_INS_CMD_OPCODE.of (withOp 0 v) ≠ 6 ∧
      (match ({ b with insts := [(255, { held := some (withOp 0 0) })] } : Block).insOp 255 (withOp 0 0) with
       | .ok _ => false | .error s => decide (s < 32)) = true)) ∧
    F.INS_INS_CTRL_RESET.of (F.INS_INS_CTRL_RESET.put 0 1) = 1 := by decide +kernel

/-- The sequencer in phase p, the reset over. -/
def booted (p : BootPhase) : Block := { pinLow := false, boot := { phase := p } }
theorem witness_BootSteps :
    (booted .fuses).flag R.PKG_STRAPS F.PKG_STRAPS_HOST_WAIT = false ∧ (booted .fuses).bootMove.bootMove.boot.phase = .header ∧
    (booted .flash).bootMove.bootMove.boot.phase = .header ∧ (booted .sections).bootMove.bootMove.boot.phase ≠ .header ∧
    (booted .flash).bootMove.bootMove.headerFail [] = some failMagic ∧
    (let b := (booted .fuses).raise R.PKG_STRAPS F.PKG_STRAPS_HOST_WAIT
     b.bootMove.isTraining = true ∧ b.bootMove.trained 3 = false) ∧
    (booted .header).isTraining = false := by decide +kernel
/-- The body of a section of type t, with flags f and payload p (Table 14-6). -/
def sectionOf (t f : Nat) (p : List Byte) : List Byte :=
  leBytes 4 0x53454333 ++ leBytes 2 t ++ leBytes 1 f ++ zeros 3 ++ leBytes 2 0xFFFF ++ zeros 4 ++ leBytes 8 p.length ++ leBytes 8 p.length
    ++ zeros 32 ++ p
/-- A required section of one register record with ADDRESS x and VALUE v. -/
def record (x v : Nat) : List Byte := sectionOf 1 2 (leBytes 4 x ++ leBytes 4 v)
/-- Records whose address is no register's, is barred, is a delay too long, a delay, and a poll. -/
def records : List (List Byte) := [record 0x20003 0, record 0x10000 0, record 0x20002 1000001, record 0x20002 1000000, record 0x20001 15]
theorem witness_RecordsPass :
    ∀ s ∈ records, (comesTo s).sectCheck (signed 0 s) = .pass ∧ (((comesTo s).sectPlain (signed 0 s)).getD []).length = 8 ∧
      sectType (signed 0 s) = 1 ∧ sectRequired (signed 0 s) = true ∧ (comesTo s).boot.section_ + 1 < hdrCount (comesTo s).boot.header := by
  have c : ∀ s ∈ records, (bodyPasses (comesTo s) s (signed 0 s) 72 = true ∧
      ecdsaVerify pointKey (sha384 s) (pointSignature (sha384 s)) = true) ∧
      (((comesTo s).sectPlain (signed 0 s)).getD []).length = 8 ∧ sectType (signed 0 s) = 1 ∧ sectRequired (signed 0 s) = true ∧
      (comesTo s).boot.section_ + 1 < hdrCount (comesTo s).boot.header := by decide +kernel
  exact fun s h => ⟨passes _ _ _ 72 (c s h).1, (c s h).2⟩
theorem witness_OtherSectionsPass :
    let p := zeros 10 ++ [1] ++ zeros 21
    let s := sectionOf 5 0 p
    (comesTo s).sectCheck (signed 0 s) = .pass ∧ (comesTo s).sectPlain (signed 0 s) = some p ∧ sectType (signed 0 s) = 5 ∧
      traceFilterOk p = true :=
  ⟨passes _ _ _ 96 (by decide +kernel), by decide +kernel⟩
/-- A microcode payload, and its section: of the vendor, encrypted under the family key of zeros with the nonce 1. -/
def microcode : List Byte := leBytes 4 0x55434D4E ++ leBytes 2 1 ++ leBytes 2 1 ++ zeros 10 ++ leBytes 2 0xFFFF ++ zeros 12
def microSection : List Byte :=
  let head := leBytes 4 0x53454333 ++ leBytes 2 3 ++ leBytes 1 7 ++ zeros 3 ++ leBytes 2 0xFFFF ++ zeros 4 ++ leBytes 8 48 ++ leBytes 8 32
    ++ leBytes 12 1 ++ zeros 20
  let ks := aesKeys (zeros 32)
  let pad (n : Nat) : List Byte := aesBlock ks (leBytes 12 1 ++ beBytes 4 (n + 1))
  let text := List.zipWith (· ^^^ ·) microcode (pad 1 ++ pad 2)
  head ++ text ++ beBytes 16 (blockHash (beVal (aesBlock ks (zeros 16))) (blocksOf head ++ blocksOf text ++ [512 * 2 ^ 64 + 256]) ^^^ beVal (pad 0))
theorem witness_MicrocodePasses :
    (comesTo microSection).sectCheck (signed 1 microSection) = .pass ∧ (comesTo microSection).sectPlain (signed 1 microSection) = some microcode ∧
      sectType (signed 1 microSection) = 3 ∧ (comesTo microSection).ucodeOk 1 microcode = true := by
  have c : (bodyPasses (comesTo microSection) microSection (signed 1 microSection) 112 = true ∧
      ecdsaVerify pointKey (sha384 microSection) (pointSignature (sha384 microSection)) = true) ∧
      (comesTo microSection).sectPlain (signed 1 microSection) = some microcode ∧ sectType (signed 1 microSection) = 3 ∧
      (comesTo microSection).ucodeOk 1 microcode = true := by decide +kernel
  exact ⟨passes _ _ _ 112 c.1, c.2⟩

theorem witness_ChainFramesAtTheHead :
    (let b := onChain true false
     b.hasAddr = true ∧ b.ringAddr = 5 ∧
     (let r := b.setWord R.CHN_TX_HDR0 (8 * 2 ^ 16 + 5)
      let c := (r.setWord R.CHN_TX_HDR1 5).setWord R.CHN_TX_HDR0 (8 * 2 ^ 16 + 5)
      c.txFrame.ok = true ∧ c.txFrame.kind = 8 ∧ c.txFrame.dest = 5 ∧ c.txFrame.dest = c.ringAddr) ∧
     (let c := ((b.setWord R.CHN_TX_HDR0 (2 * 2 ^ 16 + 5)).setWord R.CHN_TX_HDR1 1).lower R.CHN_CMD_EN F.CHN_CMD_EN_HOLD_EN
      c.txFrame.ok = true ∧ c.txFrame.kind = 2 ∧ c.txFrame.dest = c.ringAddr ∧ c.flag R.CHN_CMD_EN F.CHN_CMD_EN_HOLD_EN = false)) ∧
    (onChain true true).isHead = true ∧ (onChain true true).chain.lost = true ∧
    (let g : ChainFrame := { dest := 5, kind := 0, len := 0 }
     g.ok = false ∧ kindDefined g.kind = false) := by decide +kernel

theorem witness_SagResetEnds :
    ({ up with pkgHold := .sag } : Block).pinLow = false ∧ ({ up with pinLow := true, pkgHold := .sag } : Block).pkgHold ≠ .none ∧
    (up.dies.map (·.1)).Nodup := by decide
theorem witness_MessagesLost :
    (let b : Block := { up with flt := { held := List.replicate 512 dieMsg, lostSince := 3 } }
     b.flt.held = dieMsg :: List.replicate 511 dieMsg ∧ b.flt.lostSince ≠ 0 ∧ (List.replicate 511 dieMsg).length < 512) ∧
    (up.nextMsg 3 = none) := by decide +kernel

/-- HOLD_REL_N stands low, and die 3 takes it by level. -/
def pinned (p : HoldPhase) : Block := { (holding p true).setFld (R.DIE_HOLD_CFG 3) F.DIE_HOLD_CFG_PIN_MODE 1 with relPin := true }
theorem witness_HoldsByPin :
    (∀ p ∈ [HoldPhase.idle, .window, .parking, .held], (pinned p).relPin = true ∧
      (pinned p).flag (R.DIE_HOLD_CFG 3) F.DIE_HOLD_CFG_PIN_MODE = true ∧
      (pinned p).flag (R.DIE_HOLD_CFG 3) F.DIE_HOLD_CFG_REL_PIN_EN = true ∧ ((pinned p).die 3).phase = p) ∧
    ((pinned .idle).raise R.BOOT_STATUS F.BOOT_STATUS_DONE).started = true ∧
    ((holding .exiting true).raise R.BOOT_STATUS F.BOOT_STATUS_DONE).started = true ∧
    ((holding .exiting true).raise R.BOOT_STATUS F.BOOT_STATUS_DONE).latchH 3 = true ∧
    ((holding .parking true).modDie 3 fun x => { x with release := true }).allParked 3 = true ∧
    (((holding .parking true).modDie 3 fun x => { x with release := true }).die 3).release = true := by decide +kernel

theorem witness_ConfigurationSpace :
    up.fnLive 255 = true ∧ ({ up with vfEnable := false } : Block).fnLive 255 = false ∧ up.writerLive (.inst 255) = true ∧
    ({ up with vfEnable := false } : Block).writerLive (.inst 255) = false ∧ up.readerLive .host = true ∧ done.started = true ∧
    up.started = false ∧ up.vfEnable = true ∧ ({ up with vfEnable := false } : Block).vfEnable = false ∧
    -- before DONE the host's write of a block outside R418 is discarded in silence, one of BOOT is not
    (booting.quiet R.HIF_VF_VECTORS = false ∨ booting.quiet (R.MAC_PORT_CFG 255) = true) ∧ booting.quiet R.BOOT_STATUS = false ∧
    booting.quiet (R.MAC_PORT_CFG 255) = true ∧ booting.inReset = false ∧ up.quiet (R.MAC_PORT_CFG 255) = false ∧
    (∀ h, findReg (R.MAC_BW_CFG 255) = some h → h.desc.wide = false) ∧
    (∀ h, findReg R.PAIR_TIMING = some h → up.writeHit .host R.PAIR_TIMING 0x001E03E9 h = up.storeReg .host R.PAIR_TIMING 0x001E03E9) := by
  decide +kernel
theorem witness_TicksWithNoStack : up.hbms = [] ∧ (∀ e ∈ up.frames, e.2.loc ≠ .llWait ∧ e.2.asks.getD [] = []) ∧
    up.bootMove = up ∧ (booted .flash).bootMove ≠ booted .flash := by decide +kernel
theorem witness_Causes :
    (let b := (up.setWord R.HIF_INT0_MASK 0x3FF).raise (R.INS_MBOX_CTRL 255) F.INS_MBOX_CTRL_TO_PF_PENDING
     b.causePending 8 = true ∧ (256 : BitVec 32).toNat = 2 ^ 8) ∧
    (up.setWord R.HIF_INT0_MASK 0x3FF).causePending 8 = false ∧ bitOf ((up.setWord R.HIF_INT0_MASK 0x3FF).word R.HIF_INT0_MASK) 8 = true ∧
    (let o : TblOp := { via := .inst 255, op := 6 }
     (eng { ops := [{ via := .inst 255 }] }).engine 3 |>.ops.any fun y => y.via.requester == o.via.requester) = true := by decide +kernel

end Sys2Proof.Tests
end

section
/-!
PROOFS. The access codes (R11, R12, R15, R16, R521, R522): what a register write leaves in each field of the register, from one
field to the fields of a word to the store; the writes of configuration space; the accesses that are refused; and O52 from these.
-/
namespace Sys2Proof.Machine
open Sys2Proof

variable (b : Block)

/-! ## One field -/

/-- The bits of a field. -/
def Fld.bits (f : Fld) : Bf := ⟨f.hi, f.lo⟩

/-- The field lies in a 32-bit word. -/
def Fld.fits (f : Fld) : Bool := decide (f.lo ≤ f.hi ∧ f.hi < 32)

/-- Two fields share no bit. -/
def Fld.apart (f g : Fld) : Bool := decide (f.hi < g.lo ∨ g.hi < f.lo)

/-- What a field that holds x holds after y was written to it (Table 0-3). -/
def Fld.after (f : Fld) (unlocked : Bool) (x y : Nat) : Nat :=
  match f.acc with
  | .rw => y
  | .rwl => if unlocked then y else x
  | .w1c => x &&& (2 ^ (f.hi + 1 - f.lo) - 1 - y)
  | .ro | .rc | .wo => x

/-- Whether writing y to the field breaks the lock (R522). -/
def Fld.breaks (f : Fld) (unlocked : Bool) (x y : Nat) : Bool := f.acc == .rwl && !unlocked && y != x

theorem Fld.apart_comm (f g : Fld) : f.apart g = g.apart f := by simp only [Fld.apart, or_comm]

theorem Bf.of_put_of (f : Bf) (w v : Nat) : f.of (f.put w (f.of v)) = f.of v := by
  rw [Bf.of_put_same, Nat.mod_eq_of_lt (Bf.of_lt f v)]

/-- A write of a field leaves the word, or puts a value in the field. -/
theorem Fld.write_eq_or_put (f : Fld) (u : Bool) (old v : Nat) :
    (f.write u old v).1 = old ∨ ∃ x, (f.write u old v).1 = f.bits.put old x := by
  unfold Fld.write
  cases f.acc with
  | rw => exact .inr ⟨_, rfl⟩
  | rwl => cases u with
    | false => exact .inl rfl
    | true => exact .inr ⟨_, rfl⟩
  | w1c => exact .inr ⟨_, rfl⟩
  | ro | rc | wo => exact .inl rfl

theorem Fld.write_lt {f : Fld} (hf : f.fits = true) (u : Bool) {old : Nat} (v : Nat) (h : old < 2 ^ 32) :
    (f.write u old v).1 < 2 ^ 32 := by
  obtain ⟨hle, hlt⟩ := of_decide_eq_true hf
  rcases f.write_eq_or_put u old v with e | ⟨x, e⟩
  · rwa [e]
  · rw [e]; exact Bf.put_lt _ _ _ _ h hlt hle

/-- A write of a field leaves every field apart from it. -/
theorem Fld.of_write_apart {f g : Fld} (hf : f.fits = true) (hg : g.fits = true) (h : f.apart g = true) (u : Bool) (old v : Nat) :
    g.bits.of (f.write u old v).1 = g.bits.of old := by
  obtain ⟨hfle, -⟩ := of_decide_eq_true hf
  obtain ⟨hgle, -⟩ := of_decide_eq_true hg
  rcases f.write_eq_or_put u old v with e | ⟨x, e⟩
  · rw [e]
  · rw [e]
    rcases of_decide_eq_true h with hd | hd
    · exact Bf.of_put_above _ _ _ _ hd hfle
    · exact Bf.of_put_below _ _ _ _ hd hgle

theorem Fld.of_write_same (f : Fld) (u : Bool) (old v : Nat) :
    f.bits.of (f.write u old v).1 = f.after u (f.bits.of old) (f.bits.of v) := by
  unfold Fld.write Fld.after
  cases f.acc with
  | rw => exact Bf.of_put_of _ _ _
  | rwl => cases u with
    | false => rfl
    | true => exact Bf.of_put_of _ _ _
  | w1c =>
    have hlt := Nat.lt_of_le_of_lt (Nat.and_le_left (n := f.bits.of old) (m := 2 ^ (f.hi + 1 - f.lo) - 1 - f.bits.of v))
      (Bf.of_lt f.bits old)
    exact (Bf.of_put_same _ _ _).trans (Nat.mod_eq_of_lt hlt)
  | ro | rc | wo => rfl

theorem Fld.write_breaks (f : Fld) (u : Bool) (old v : Nat) : (f.write u old v).2 = f.breaks u (f.bits.of old) (f.bits.of v) := by
  unfold Fld.write Fld.breaks
  cases f.acc with
  | rwl => cases u <;> rfl
  | rw | w1c | ro | rc | wo => rfl

theorem bitOf_eq_testBit (w i : Nat) : bitOf w i = w.testBit i := by
  rw [Nat.testBit_eq_decide_div_mod_eq]; rfl

/-- Bit i of a W1C field after a write: it stays unless a 1 was written to it. -/
theorem bitOf_and_not {n y : Nat} (x : Nat) (hy : y < 2 ^ n) {i : Nat} (hi : i < n) :
    bitOf (x &&& (2 ^ n - 1 - y)) i = (bitOf x i && !bitOf y i) := by
  have e : 2 ^ n - 1 - y = 2 ^ n - (y + 1) := by omega
  simp only [bitOf_eq_testBit, Nat.testBit_and, e, Nat.testBit_two_pow_sub_succ hy, hi, decide_true, Bool.true_and]

theorem Fld.after_of_rw {f : Fld} (h : f.acc = .rw) (u : Bool) (x y : Nat) : f.after u x y = y := by simp [Fld.after, h]
theorem Fld.after_of_rwl_open {f : Fld} (h : f.acc = .rwl) (x y : Nat) : f.after true x y = y := by simp [Fld.after, h]
theorem Fld.after_of_rwl_locked {f : Fld} (h : f.acc = .rwl) (x y : Nat) : f.after false x y = x := by simp [Fld.after, h]
theorem Fld.after_of_readOnly {f : Fld} (h : f.acc = .ro ∨ f.acc = .rc ∨ f.acc = .wo) (u : Bool) (x y : Nat) :
    f.after u x y = x := by
  rcases h with h | h | h <;> simp [Fld.after, h]

/-- A bit of a W1C field that is written as 1 clears, and every other stays. -/
theorem Fld.bitOf_after_of_w1c {f : Fld} (h : f.acc = .w1c) (hf : f.fits = true) (u : Bool) (x v : Nat) {i : Nat}
    (hi : i ≤ f.hi - f.lo) : bitOf (f.after u x (f.bits.of v)) i = (bitOf x i && !bitOf (f.bits.of v) i) := by
  obtain ⟨hle, -⟩ := of_decide_eq_true hf
  have e : f.after u x (f.bits.of v) = x &&& (2 ^ (f.hi + 1 - f.lo) - 1 - f.bits.of v) := by simp [Fld.after, h]
  rw [e]
  exact bitOf_and_not (n := f.hi + 1 - f.lo) x (Bf.of_lt f.bits v) (by omega)

/-! ## The fields of a word -/

/-- The fields of a register lie in its word, and no two of them share a bit. -/
def fldsApart : List Fld → Bool
  | [] => true
  | f :: fs => f.fits && fs.all (fun g => g.fits && f.apart g) && fldsApart fs

theorem fldsApart_cons {f : Fld} {fs : List Fld} (h : fldsApart (f :: fs) = true) :
    f.fits = true ∧ (∀ g ∈ fs, g.fits = true ∧ f.apart g = true) ∧ fldsApart fs = true := by
  simp only [fldsApart, Bool.and_eq_true, List.all_eq_true] at h
  obtain ⟨⟨hf, hapart⟩, hrest⟩ := h
  exact ⟨hf, hapart, hrest⟩

theorem fits_of_fldsApart {fs : List Fld} (hfs : fldsApart fs = true) {f : Fld} (hf : f ∈ fs) : f.fits = true := by
  induction fs with
  | nil => cases hf
  | cons g fs ih =>
    obtain ⟨hg, hapart, hrest⟩ := fldsApart_cons hfs
    rcases List.mem_cons.mp hf with rfl | hmem
    · exact hg
    · exact ih hrest hmem

theorem writeFields_lt {fs : List Fld} (hfs : fldsApart fs = true) (u : Bool) (v : Nat) {old : Nat} (h : old < 2 ^ 32) :
    (writeFields u v fs old).1 < 2 ^ 32 := by
  induction fs generalizing old with
  | nil => exact h
  | cons f fs ih =>
    obtain ⟨hf, -, hrest⟩ := fldsApart_cons hfs
    exact ih hrest (Fld.write_lt hf u v h)

/-- Writing fields leaves a field apart from all of them. -/
theorem of_writeFields_apart {g : Fld} (hg : g.fits = true) {fs : List Fld} (hfs : ∀ f ∈ fs, f.fits = true ∧ f.apart g = true)
    (u : Bool) (v old : Nat) : g.bits.of (writeFields u v fs old).1 = g.bits.of old := by
  induction fs generalizing old with
  | nil => rfl
  | cons f fs ih =>
    obtain ⟨hf, hfg⟩ := hfs f (List.mem_cons_self ..)
    exact (ih (fun x hx => hfs x (List.mem_cons_of_mem _ hx)) _).trans (Fld.of_write_apart hf hg hfg u old v)

/-- Each field of a word takes its own part of what is written. -/
theorem of_writeFields {fs : List Fld} (hfs : fldsApart fs = true) (u : Bool) (v old : Nat) {f : Fld} (hf : f ∈ fs) :
    f.bits.of (writeFields u v fs old).1 = f.after u (f.bits.of old) (f.bits.of v) := by
  induction fs generalizing old with
  | nil => cases hf
  | cons g fs ih =>
    obtain ⟨hg, hapart, hrest⟩ := fldsApart_cons hfs
    rcases List.mem_cons.mp hf with rfl | hmem
    · have hlater : ∀ x ∈ fs, x.fits = true ∧ x.apart f = true := fun x hx =>
        ⟨(hapart x hx).1, (x.apart_comm f).trans (hapart x hx).2⟩
      exact (of_writeFields_apart hg hlater u v _).trans (f.of_write_same u old v)
    · obtain ⟨hfit, hgf⟩ := hapart f hmem
      have hkeep := Fld.of_write_apart hg hfit hgf u old v
      exact (ih hrest _ hmem).trans (by rw [hkeep])

/-- A write breaks the lock where one of its fields does. -/
theorem writeFields_breaks {fs : List Fld} (hfs : fldsApart fs = true) (u : Bool) (v old : Nat) :
    (writeFields u v fs old).2 = fs.any fun f => f.breaks u (f.bits.of old) (f.bits.of v) := by
  induction fs generalizing old with
  | nil => rfl
  | cons g fs ih =>
    obtain ⟨hg, hapart, hrest⟩ := fldsApart_cons hfs
    have htail : (fs.any fun f => f.breaks u (f.bits.of (g.write u old v).1) (f.bits.of v)) =
        fs.any fun f => f.breaks u (f.bits.of old) (f.bits.of v) := by
      rw [Bool.eq_iff_iff, List.any_eq_true, List.any_eq_true]
      refine exists_congr fun f => and_congr_right fun hf => ?_
      rw [Fld.of_write_apart hg (hapart f hf).1 (hapart f hf).2]
    calc (writeFields u v (g :: fs) old).2
        = ((g.write u old v).2 || (writeFields u v fs (g.write u old v).1).2) := rfl
      _ = ((g :: fs).any fun f => f.breaks u (f.bits.of old) (f.bits.of v)) := by
        rw [g.write_breaks, ih hrest, List.any_cons, htail]

/-! ## The registers of the map -/

theorem blkRegs_fldsApart (k : Blk) : (blkRegs k).all (fun d => fldsApart d.flds) = true := by
  cases k <;> decide +kernel

theorem findIn_desc_mem {k : Blk} {i o : Nat} {ds : List RegDesc} {h : RegHit} (hit : findIn k i o ds = some h) :
    h.desc ∈ ds := by
  induction ds with
  | nil => cases hit
  | cons d ds ih =>
    unfold findIn at hit
    split at hit
    · cases hit; exact List.mem_cons_self ..
    · exact List.mem_cons_of_mem _ (ih hit)

/-- The fields of every register that an address names lie in its word and share no bit. -/
theorem findReg_fldsApart {a : Nat} {h : RegHit} (hit : findReg a = some h) : fldsApart h.desc.flds = true := by
  unfold findReg at hit
  split at hit
  · exact List.all_eq_true.mp (blkRegs_fldsApart _) _ (findIn_desc_mem hit)
  · cases hit

/-! ## The store (R15, R16, R522) -/

/-- Whether the RWL fields are open to a writer (R16). -/
def Block.opens (b : Block) (w : Writer) : Bool := w == .boot || !b.locked

theorem Block.opens_iff (w : Writer) : b.opens w = true ↔ (w = .boot ∨ b.locked = false) := by simp [Block.opens]

/-- Whether a write of v to the register found at a breaks its lock (R522). -/
def Block.lockBroken (b : Block) (w : Writer) (a v : Nat) (h : RegHit) : Bool :=
  h.desc.flds.any fun f => f.breaks (b.opens w) (b.fld a f.bits) (f.bits.of v)

/-- A write that gives a locked RWL field another value breaks the lock. -/
theorem Block.lockBroken_of_field {w : Writer} {a v : Nat} {h : RegHit} {f : Fld} (hf : f ∈ h.desc.flds) (code : f.acc = .rwl)
    (shut : b.opens w = false) (other : f.bits.of v ≠ b.fld a f.bits) : b.lockBroken w a v h = true :=
  List.any_eq_true.mpr ⟨f, hf, by simp [Fld.breaks, code, shut, other]⟩

/-- A write that gives every locked RWL field the value it has breaks no lock. -/
theorem Block.lockKept_of_fields {w : Writer} {a v : Nat} {h : RegHit}
    (same : ∀ g ∈ h.desc.flds, g.acc = .rwl → b.opens w = true ∨ g.bits.of v = b.fld a g.bits) :
    b.lockBroken w a v h = false := by
  refine List.any_eq_false.mpr fun g hg hbroken => ?_
  simp only [Fld.breaks, Bool.and_eq_true, beq_iff_eq, bne_iff_ne, Bool.not_eq_true'] at hbroken
  obtain ⟨⟨code, shut⟩, other⟩ := hbroken
  rcases same g hg code with hopen | hsame
  · rw [shut] at hopen; cases hopen
  · exact other hsame

section
variable {b : Block} {a : Nat} {h : RegHit} (hit : findReg a = some h) (narrow : h.desc.wide = false) (w : Writer) (v : Nat)
include hit narrow

theorem Block.storeReg_found :
    b.storeReg w a v =
      let c := b.setWord a (writeFields (b.opens w) v h.desc.flds (b.word a)).1
      if b.lockBroken w a v h then c.refuse w a else c := by
  have hb : (writeFields (b.opens w) v h.desc.flds (b.word a)).2 = b.lockBroken w a v h :=
    writeFields_breaks (findReg_fldsApart hit) _ _ _
  rw [← hb]
  simp only [Block.storeReg, hit, narrow, Bool.false_eq_true, if_false, Block.opens]
  rfl

/-- A field of the register after a write of the whole register. -/
theorem Block.fld_storeReg {f : Fld} (hf : f ∈ h.desc.flds) :
    (b.storeReg w a v).fld a f.bits = f.after (b.opens w) (b.fld a f.bits) (f.bits.of v) := by
  have hok := findReg_fldsApart hit
  have hlt := writeFields_lt hok (b.opens w) v (b.word_lt a)
  have hword : (b.storeReg w a v).word a = (writeFields (b.opens w) v h.desc.flds (b.word a)).1 := by
    rw [Block.storeReg_found hit narrow]
    dsimp only
    split
    · rw [Block.refuse_word, Block.word_setWord_same, Nat.mod_eq_of_lt hlt]
    · rw [Block.word_setWord_same, Nat.mod_eq_of_lt hlt]
  unfold Block.fld
  rw [hword, of_writeFields hok _ _ _ hf]

/-- A write that breaks the lock of a field is refused for it. -/
theorem Block.storeReg_refusals_of_lockBroken (broken : b.lockBroken w a v h = true) :
    (b.storeReg w a v).refusals = b.refusals + 1 := by
  rw [Block.storeReg_found hit narrow]
  simp [broken]

/-- A write that breaks no lock is no access fault. -/
theorem Block.storeReg_of_lockKept (kept : b.lockBroken w a v h = false) :
    (b.storeReg w a v).refusals = b.refusals ∧ (b.storeReg w a v).inflight = b.inflight := by
  rw [Block.storeReg_found hit narrow]
  simp [kept]

end

/-! ## The messages of MSI-X (R374, R399) -/

/-- From b to c nothing of the instances changed but the pending messages of instance i. -/
def Block.PendsOnly (i : Nat) (b c : Block) : Prop :=
  (∀ k, k ≠ i → c.inst k = b.inst k) ∧ ∃ p, c.inst i = { b.inst i with msixPend := p }

theorem Block.PendsOnly.refl (i : Nat) : Block.PendsOnly i b b := ⟨fun _ _ => rfl, (b.inst i).msixPend, rfl⟩

theorem Block.PendsOnly.trans {i : Nat} {b c d : Block} (h1 : Block.PendsOnly i b c) (h2 : Block.PendsOnly i c d) :
    Block.PendsOnly i b d := by
  obtain ⟨hb, p, hp⟩ := h1
  obtain ⟨hc, q, hq⟩ := h2
  exact ⟨fun k hk => (hc k hk).trans (hb k hk), q, by rw [hq, hp]⟩

theorem Block.modInst_pendsOnly (i : Nat) (f : Nat → Nat) :
    Block.PendsOnly i b (b.modInst i fun x => { x with msixPend := f x.msixPend }) :=
  ⟨fun k hk => by rw [Block.inst_modInst, if_neg hk], f (b.inst i).msixPend, by rw [Block.inst_modInst, if_pos rfl]⟩

theorem Block.msix_pendsOnly (i v : Nat) : Block.PendsOnly i b (b.msix i v) := by
  unfold Block.msix
  split
  · rw [Block.pmc_only]; exact Block.PendsOnly.refl b i
  · split
    · exact b.modInst_pendsOnly i (· ||| 2 ^ v)
    · exact Block.PendsOnly.refl b i

/-- The pending messages that go out change no more of the instances than what is pending. -/
theorem Block.msixFlush_pendsOnly (i : Nat) : Block.PendsOnly i b (b.msixFlush i) := by
  unfold Block.msixFlush
  generalize (List.range 128).filter _ = vs
  induction vs generalizing b with
  | nil => exact Block.PendsOnly.refl b i
  | cons v vs ih => exact ((b.modInst_pendsOnly i (· - 2 ^ v)).trans (Block.msix_pendsOnly _ i v)).trans (ih _)

/-- With MSI-X disabled or masked, or the function asleep, no pending message goes out. -/
theorem Block.msixFlush_of_shut {i : Nat} (shut : ∀ v, b.msixOpen i v = false) : b.msixFlush i = b := by
  simp [Block.msixFlush, shut]

theorem Block.msixOpen_of_asleep {i : Nat} (h : (b.inst i).d3hot = true) (v : Nat) : b.msixOpen i v = false := by
  simp [Block.msixOpen, h]

theorem Block.msixOpen_of_disabled {i : Nat} (h : (b.inst i).msixEn = false ∨ (b.inst i).msixMask = true) (v : Nat) :
    b.msixOpen i v = false := by
  rcases h with h | h <;> simp [Block.msixOpen, h]

@[simp] theorem Block.dispatchDma_inst (n k : Nat) : (b.dispatchDma n).inst k = b.inst k := by rw [Block.dispatchDma_only]; rfl
@[simp] theorem Block.dispatchDma_out (n : Nat) : (b.dispatchDma n).out = b.out := by rw [Block.dispatchDma_only]

/-! ## VF Enable clears (R375, R410) -/

theorem SMap.find_filter {α : Type} (m : SMap α) (p : Nat → Bool) {i : Nat} (h : p i = true) :
    SMap.find (m.filter fun e => p e.1) i = SMap.find m i := by
  induction m with
  | nil => rfl
  | cons e m ih =>
    obtain ⟨k, v⟩ := e
    by_cases hk : k = i
    · subst hk; simp [h, SMap.find]
    · by_cases hp : p k = true <;> simp [hp, SMap.find, hk, ih]

/-- The MSI-X tables lie above the privileged view: the reset of configuration space leaves its registers. -/
theorem Block.word_configReset (i : Nat) {a : Nat} (ha : a < 2 ^ 32) : (b.configReset i).word a = b.word a := by
  have hout : (!(decide (layBase i + 0xC0000 ≤ a) && decide (a < layBase i + 0xC0000 + 0x10000))) = true := by
    have habove : 2 ^ 32 ≤ layBase i := by unfold layBase; omega
    simp only [Bool.not_eq_true', Bool.and_eq_false_iff, decide_eq_false_iff_not]
    omega
  unfold Block.word Block.configReset
  rw [SMap.find_filter b.regs (fun k => !(decide (layBase i + 0xC0000 ≤ k) && decide (k < layBase i + 0xC0000 + 0x10000))) hout]

/-- What the end of the virtual functions leaves: NumVFs, the frames, and the registers of the privileged view. -/
def Block.SameBesideVfs (b c : Block) : Prop :=
  c.numVfs = b.numVfs ∧ c.frames = b.frames ∧ ∀ a, a < 2 ^ 32 → c.word a = b.word a

theorem Block.each_configReset_keeps (n : Nat) :
    let c := b.each n fun b k => b.configReset (k + 1)
    c.vfEnable = b.vfEnable ∧ b.SameBesideVfs c := by
  unfold Block.each
  induction n with
  | zero => exact ⟨rfl, rfl, rfl, fun _ _ => rfl⟩
  | succ n ih =>
    obtain ⟨hvf, hnum, hframes, hword⟩ := ih
    rw [List.range_succ, List.foldl_append]
    exact ⟨hvf, hnum, hframes, fun a ha => (Block.word_configReset _ _ ha).trans (hword a ha)⟩

theorem Block.vfOff_keeps : b.vfOff.vfEnable = false ∧ b.SameBesideVfs b.vfOff := by
  unfold Block.vfOff
  cases hvf : b.vfEnable with
  | false => exact ⟨hvf, rfl, rfl, fun _ _ => rfl⟩
  | true => exact Block.each_configReset_keeps { b with vfEnable := false } 255

theorem Block.SameBesideVfs.resetting {b c : Block} (h : b.SameBesideVfs c) {k : Nat} (hk : k < 256) :
    c.resetting k = b.resetting k := by
  obtain ⟨-, -, hword⟩ := h
  have ha : R.INS_INS_STATUS k < 2 ^ 32 := by simp only [R.INS_INS_STATUS, insBase]; omega
  simp only [Block.resetting, Block.flag, Block.fld, hword _ ha]

/-! ## The writes of configuration space of instance 0 (R374, R375, R378, R399) -/

theorem Block.configWrite_vfEnable_clear {v : Nat} (hv : v % 2 = 0) : b.configWrite 0 .vfEnable v = b.vfOff := by
  simp [Block.configWrite, hv]

/-- VF Enable cannot be set before DONE (R418). -/
theorem Block.configWrite_vfEnable_set {v : Nat} (hv : v % 2 = 1) :
    b.configWrite 0 .vfEnable v = if b.started then { b with vfEnable := true } else b := by
  simp [Block.configWrite, hv]

/-- NumVFs stands while VF Enable is set. -/
theorem Block.configWrite_numVfs (v : Nat) :
    b.configWrite 0 .numVfs v = if b.vfEnable then b else { b with numVfs := v % 2 ^ 16 } := by
  simp [Block.configWrite]

/-- D0 and D3hot are the power states that there are; what is pending goes out where the write unmasks it. -/
theorem Block.configWrite_powerState (v : Nat) :
    b.configWrite 0 .powerState v =
      if v % 4 = 1 ∨ v % 4 = 2 then b
      else ((b.modInst 0 fun x => { x with d3hot := v % 4 == 3 }).msixFlush 0).dispatchDma 17 := by
  have hsplit : (v % 4 != 0 && v % 4 != 3) = decide (v % 4 = 1 ∨ v % 4 = 2) := by
    rw [Bool.eq_iff_iff, decide_eq_true_iff]
    simp only [Bool.and_eq_true, bne_iff_ne]
    omega
  simp only [Block.configWrite, hsplit, decide_eq_true_eq]

/-- The power state follows the write: asleep, the function sends nothing. -/
theorem Block.configWrite_sleep {v : Nat} (hv : v % 4 = 3) :
    ((b.configWrite 0 .powerState v).inst 0).d3hot = true ∧ (b.configWrite 0 .powerState v).out = b.out := by
  have hasleep : ((b.modInst 0 fun x => { x with d3hot := true }).inst 0).d3hot = true := by rw [Block.inst_modInst]; rfl
  have e : b.configWrite 0 .powerState v = (b.modInst 0 fun x => { x with d3hot := true }).dispatchDma 17 := by
    simp [Block.configWrite_powerState, hv, Block.msixFlush_of_shut _ (Block.msixOpen_of_asleep _ hasleep)]
  rw [e, Block.dispatchDma_inst, Block.dispatchDma_out]
  exact ⟨hasleep, rfl⟩

theorem Block.configWrite_wake {v : Nat} (hv : v % 4 = 0) : ((b.configWrite 0 .powerState v).inst 0).d3hot = false := by
  have e : b.configWrite 0 .powerState v = ((b.modInst 0 fun x => { x with d3hot := false }).msixFlush 0).dispatchDma 17 := by
    simp [Block.configWrite_powerState, hv]
  obtain ⟨-, p, hp⟩ := Block.msixFlush_pendsOnly (b.modInst 0 fun x => { x with d3hot := false }) 0
  rw [e, Block.dispatchDma_inst, hp, Block.inst_modInst]
  rfl

theorem Block.configWrite_msixControl (v : Nat) :
    let t := b.configWrite 0 .msixControl v
    (t.inst 0).msixEn = bitOf v 15 ∧ (t.inst 0).msixMask = bitOf v 14 ∧ (∀ k, k ≠ 0 → t.inst k = b.inst k) ∧
      (bitOf v 15 = false ∨ bitOf v 14 = true → t.out = b.out) := by
  have hset (k : Nat) : (b.modInst 0 fun x => { x with msixEn := bitOf v 15, msixMask := bitOf v 14 }).inst k =
      if k = 0 then { b.inst 0 with msixEn := bitOf v 15, msixMask := bitOf v 14 } else b.inst k := Block.inst_modInst _ _ _ _
  obtain ⟨hothers, p, hp⟩ :=
    Block.msixFlush_pendsOnly (b.modInst 0 fun x => { x with msixEn := bitOf v 15, msixMask := bitOf v 14 }) 0
  refine ⟨?_, ?_, fun k hk => ?_, fun hshut => ?_⟩
  · simp [Block.configWrite, hp, hset]
  · simp [Block.configWrite, hp, hset]
  · exact (hothers k hk).trans ((hset k).trans (if_neg hk))
  · have hclosed := Block.msixOpen_of_disabled (b.modInst 0 fun x => { x with msixEn := bitOf v 15, msixMask := bitOf v 14 })
      (i := 0) (by rw [hset]; exact hshut)
    simp [Block.configWrite, Block.msixFlush_of_shut _ hclosed]

/-- The function of a virtual instance holds no SR-IOV capability: a write of one of its registers there does nothing. -/
theorem Block.configWrite_of_vf {i : Nat} (hi : i ≠ 0) (v : Nat) {r : ConfigReg}
    (hr : r = .vfEnable ∨ r = .numVfs ∨ r = .totalVfs ∨ r = .firstVfOffset ∨ r = .vfStride) : b.configWrite i r v = b := by
  rcases hr with rfl | rfl | rfl | rfl | rfl <;> simp [Block.configWrite, hi]

/-! ## The writes as commands -/

/-- REGISTER_WRITE takes the block where the write of the register takes it. -/
theorem takes_registerWrite {b t : Block} {w : Writer} {a : BitVec 28} {v : BitVec 64} {size : AccessSize}
    (h : Block.registerWrite w a.toNat v.toNat size b = t) : Takes (.registerWrite w a v size) b t := fun _ => by
  rw [← h]; rfl

/-- What a discarded write leaves: an access fault, but before DONE outside the blocks of R418 for the host. -/
def Block.writeBad (b : Block) (w : Writer) (x : Nat) : Block :=
  if w ≠ .boot ∧ b.quiet x = true then b else b.accessFault (writerCode w) 2 true (viewOff x)

theorem Block.writeBad_of_silent {w : Writer} {x : Nat} (h : w ≠ .boot ∧ b.quiet x = true) : b.writeBad w x = b := if_pos h

theorem Block.writeBad_of_reported {w : Writer} {x : Nat} (h : ¬(w ≠ .boot ∧ b.quiet x = true)) :
    b.writeBad w x = b.accessFault (writerCode w) 2 true (viewOff x) := if_neg h

section
variable {b : Block} {w : Writer} (out : b.inReset = false) (live : b.writerLive w = true) (a v : Nat)
include out live

theorem Block.registerWrite_other : b.registerWrite w a v .other = b.writeBad w (writerAddr w a) := by
  simp [Block.registerWrite, Block.writeBad, out, live]

theorem Block.registerWrite_unaligned (h : writerAddr w a % 4 ≠ 0) :
    b.registerWrite w a v .dword = b.writeBad w (writerAddr w a) := by
  simp [Block.registerWrite, Block.writeBad, out, live, h]

theorem Block.registerWrite_qword (h : b.isMsix (writerAddr w a) = false) :
    b.registerWrite w a v .qword = b.writeBad w (writerAddr w a) := by
  simp [Block.registerWrite, Block.writeBad, out, live, h]

theorem Block.registerWrite_aligned (h : writerAddr w a % 4 = 0) :
    b.registerWrite w a v .dword = b.writeReg w (writerAddr w a) (v % 2 ^ 32) := by
  simp [Block.registerWrite, out, live, h]

end

section
variable {b : Block} (out : b.inReset = false) (a v : Nat) (r : ConfigReg)
include out

theorem Block.registerWrite_config_host : b.registerWrite .host a v (.config r) = b.configWrite 0 r (v % 2 ^ 32) := by
  simp [Block.registerWrite, Block.writerLive, out]

theorem Block.registerWrite_config_inst (i : Fin 256) (live : b.writerLive (.inst i) = true) :
    b.registerWrite (.inst i) a v (.config r) = b.configWrite i r (v % 2 ^ 32) := by
  simp [Block.registerWrite, live, out]

end

/-- Where no register is, a write is refused, but before DONE outside the blocks of R418 for the host (R12, R418). -/
theorem Block.writeReg_none (w : Writer) {x : Nat} (v : Nat) (h : findReg x = none) (hm : b.isMsix x = false) :
    b.writeReg w x v = if w ≠ .boot ∧ b.quiet x = true then b else b.refuse w x := by
  simp [Block.writeReg, h, hm]

section
variable {b : Block} {w : Writer} {x : Nat} {h : RegHit} (hit : findReg x = some h) (v : Nat)
include hit

/-- A register that the writer does not reach takes no write (R379, R418). -/
theorem Block.writeReg_unreached (hr : b.reaches w h.blk = false) : b.writeReg w x v = b := by
  simp [Block.writeReg, hit, hr]

variable (hr : b.reaches w h.blk = true)
include hr

/-- A register of a layout that is not the instance's own refuses the write (R379). -/
theorem Block.writeReg_notOwned (hlay : h.blk = .lay) (hhas : b.layHas h.inst h = false) : b.writeReg w x v = b.refuse w x := by
  rw [hlay] at hr
  simp [Block.writeReg, hit, hr, hlay, hhas]

/-- A 64-bit register takes no write (R521). -/
theorem Block.writeReg_wide (hlay : h.blk ≠ .lay) (wide : h.desc.wide = true) : b.writeReg w x v = b := by
  simp [Block.writeReg, hit, hr, hlay, wide]

theorem Block.writeReg_hit (hlay : h.blk ≠ .lay) (narrow : h.desc.wide = false) : b.writeReg w x v = b.writeHit w x v h := by
  simp [Block.writeReg, hit, hr, hlay, narrow]

end

/-! ## The reads of what is no register -/

/-- What a bad read leaves: an access fault, but before DONE outside the blocks of R418 for the host; it answers 0. -/
def Block.readBad (b : Block) (q acc x : Nat) : Block :=
  (if b.quiet x then b else b.accessFault q acc false (viewOff x)).answer q [0]

theorem Block.isMsix_of_privileged {x : Nat} (h : x < 2 ^ 32) : b.isMsix x = false := by
  have hlow : decide (x ≥ 2 ^ 32) = false := decide_eq_false (Nat.not_le.mpr h)
  rw [Block.isMsix, hlow, Bool.false_and]

section
variable {b : Block} {r : Reader} (host : r ≠ .obs) (live : b.readerLive r = true) (a : Nat)
include host live

theorem Block.readClear_other : b.readClear r a .other = b.readBad (readerCode r) 2 (readerAddr r a) := by
  simp [Block.readClear, Block.readAt, Block.readBad, host, live]

theorem Block.readClear_qword (h : b.isMsix (readerAddr r a) = false) :
    b.readClear r a .qword = b.readBad (readerCode r) 2 (readerAddr r a) := by
  simp [Block.readClear, Block.readAt, Block.readBad, host, live, h]

theorem Block.readClear_unaligned (h : readerAddr r a % 4 ≠ 0) :
    b.readClear r a .dword = b.readBad (readerCode r) 2 (readerAddr r a) := by
  by_cases hq : b.quiet (readerAddr r a) = true <;>
    simp [Block.readClear, Block.readAt, Block.readBad, Block.readReg, host, live, h, hq]

theorem Block.readClear_none (h : readerAddr r a % 4 = 0) (hn : findReg (readerAddr r a) = none)
    (hm : b.isMsix (readerAddr r a) = false) : b.readClear r a .dword = b.readBad (readerCode r) 0 (readerAddr r a) := by
  by_cases hq : b.quiet (readerAddr r a) = true <;>
    simp [Block.readClear, Block.readAt, Block.readBad, Block.readReg, host, live, h, hn, hm, hq]

end

/-- READ_CLEAR of the host takes the block, out of reset, where the read takes it. -/
theorem takes_readClear {b t : Block} (out : b.inReset = false) {r : Reader} (host : r ≠ .obs) {a : BitVec 28} {size : AccessSize}
    (h : Block.readClear r a.toNat size b = t) : Takes (.readClear r a size) b t := fun _ => by
  have hread : b.byRead r (Block.readClear r a.toNat size) = t := by
    cases r with
    | obs => exact absurd rfl host
    | host | inst i => rw [← h]; simp [Block.byRead, Block.outOfReset, out]
  rw [← hread]
  rfl

/-- Settles O52, from what a write leaves in each field (R15, R522), what a write of configuration space does, and what an access
that breaks the rules leaves. -/
theorem registerWritesFollowTheAccessCodes : Obligations.RegisterWritesFollowTheAccessCodes := by
  intro b w a v x silent bad V
  refine ⟨fun size h => takes_registerWrite ?_, fun out live => ⟨fun h => ?_, fun h hx => ?_, fun h => ?_, fun h hx => ?_,
    fun h hm => ?_, fun hx hn hm => ?_, fun i => ?_, ?_, fun hw => ?_, fun i hi hw r hr => ?_, fun h hx hit => ?_⟩⟩
  · rcases h with h | h <;> simp [Block.registerWrite, h]
  · exact takes_registerWrite ((Block.registerWrite_other out live _ _).trans (b.writeBad_of_silent h))
  · exact takes_registerWrite ((Block.registerWrite_unaligned out live _ _ hx).trans (b.writeBad_of_silent h))
  · exact takes_registerWrite ((Block.registerWrite_other out live _ _).trans (b.writeBad_of_reported h))
  · exact takes_registerWrite ((Block.registerWrite_unaligned out live _ _ hx).trans (b.writeBad_of_reported h))
  · exact takes_registerWrite ((Block.registerWrite_qword out live _ _ hm).trans (b.writeBad_of_reported h))
  · have hwrite := (Block.registerWrite_aligned out live _ v.toNat hx).trans (b.writeReg_none w _ hn hm)
    exact ⟨fun h => takes_registerWrite (hwrite.trans (if_pos h)), fun h => takes_registerWrite (hwrite.trans (if_neg h))⟩
  · intro y q zero hi
    have host : Reader.inst i ≠ .obs := nofun
    have hlive : b.readerLive (.inst i) = true := hi
    exact ⟨takes_readClear out host (Block.readClear_other host hlive _),
      fun hy => takes_readClear out host (Block.readClear_unaligned host hlive _ hy),
      fun hm => takes_readClear out host (Block.readClear_qword host hlive _ hm),
      fun hy hn hm => takes_readClear out host (Block.readClear_none host hlive _ hy hn hm)⟩
  · have host : Reader.host ≠ .obs := nofun
    have hlive : b.readerLive .host = true := rfl
    have hm : b.isMsix a.toNat = false := b.isMsix_of_privileged (Nat.lt_trans a.isLt (by decide))
    exact ⟨takes_readClear out host (Block.readClear_other host hlive _),
      takes_readClear out host (Block.readClear_qword host hlive _ hm),
      fun hy => takes_readClear out host (Block.readClear_unaligned host hlive _ hy),
      fun hy hn => takes_readClear out host (Block.readClear_none host hlive _ hy hn hm)⟩
  · subst hw
    have hconfig {r : ConfigReg} {t : Block} (h : b.configWrite 0 r V = t) : Takes (.registerWrite .host a v (.config r)) b t :=
      takes_registerWrite ((Block.registerWrite_config_host out _ _ r).trans h)
    refine ⟨hconfig rfl, hconfig rfl, hconfig rfl, fun hodd hearly => ?_, fun hodd hdone => ?_, fun heven => ?_, fun hon => ?_,
      fun hoff => ?_, fun hmid => ?_, fun hsleep => ?_, fun hwake => ?_, ?_⟩
    · exact hconfig (by rw [b.configWrite_vfEnable_set hodd, hearly]; rfl)
    · exact hconfig (by rw [b.configWrite_vfEnable_set hodd, hdone]; rfl)
    · obtain ⟨hvf, hkept⟩ := b.vfOff_keeps
      have ⟨hnum, hframes, _⟩ := hkept
      exact ⟨b.vfOff, hconfig (b.configWrite_vfEnable_clear heven), hvf, hnum, hframes, fun k hk => hkept.resetting hk⟩
    · exact hconfig (by rw [b.configWrite_numVfs, hon]; rfl)
    · exact hconfig (by rw [b.configWrite_numVfs, hoff]; rfl)
    · exact hconfig (by rw [b.configWrite_powerState, if_pos hmid])
    · exact ⟨_, hconfig rfl, b.configWrite_sleep hsleep⟩
    · exact ⟨_, hconfig rfl, b.configWrite_wake hwake⟩
    · exact ⟨_, hconfig rfl, b.configWrite_msixControl V⟩
  · subst hw
    have hne : i.val ≠ 0 := fun h => hi (Fin.ext h)
    exact takes_registerWrite ((Block.registerWrite_config_inst out _ _ r i live).trans (b.configWrite_of_vf hne _ hr))
  · have hwrite := Block.registerWrite_aligned out live _ v.toNat hx
    refine ⟨fun hr => ?_, fun hr hlay hhas => ?_, fun hr hlay wide => ?_, fun hr hlay narrow hstore => ?_⟩
    · exact takes_registerWrite (hwrite.trans (Block.writeReg_unreached hit V hr))
    · exact takes_registerWrite (hwrite.trans (Block.writeReg_notOwned hit V hr hlay hhas))
    · exact takes_registerWrite (hwrite.trans (Block.writeReg_wide hit V hr hlay wide))
    · refine ⟨b.storeReg w x V, takes_registerWrite (hwrite.trans ((Block.writeReg_hit hit V hr hlay narrow).trans hstore)),
        fun y hy => b.word_storeReg_other w V hy, ?_, ?_, ?_, fun f hf => ?_⟩
      · rw [Block.storeReg_only]
      · rw [Block.storeReg_only]
      · rw [Block.storeReg_only]
      intro F old new open_
      have hnew : new = f.after (b.opens w) old (F.of V) := Block.fld_storeReg hit narrow w V hf
      have hopen : b.opens w = true ↔ open_ := b.opens_iff w
      have hshut (h : ¬open_) : b.opens w = false := Bool.eq_false_iff.mpr (h ∘ hopen.mp)
      refine ⟨fun code => ?_, fun code h => ?_, fun code h => ?_, fun code h other => ?_, fun same => ?_, fun code i hi => ?_,
        fun code => ?_⟩
      · rw [hnew, Fld.after_of_rw code]
      · rw [hnew, hopen.mpr h, Fld.after_of_rwl_open code]
      · rw [hnew, hshut h, Fld.after_of_rwl_locked code]
      · exact Block.storeReg_refusals_of_lockBroken hit narrow w V (b.lockBroken_of_field hf code (hshut h) other)
      · exact Block.storeReg_of_lockKept hit narrow w V (b.lockKept_of_fields fun g hg code => (same g hg code).imp_left hopen.mpr)
      · rw [hnew]
        exact Fld.bitOf_after_of_w1c code (fits_of_fldsApart (findReg_fldsApart hit) hf) _ old V hi
      · rw [hnew, Fld.after_of_readOnly code]

end Sys2Proof.Machine
end

section
/-!
PROOFS. Operating levels and sentinels (R57 to R63, R75): what a level change does to each rail and when it is over, what a step of
the walk does, what a window shows and when the rail goes up; and O1 from these.
-/
namespace Sys2Proof.Machine
open Sys2Proof

variable (b : Block)

theorem Block.each_succ (n : Nat) (f : Block → Nat → Block) : b.each (n + 1) f = f (b.each n f) n := by
  simp [Block.each, List.range_succ]

/-- What holds below n, with n itself, holds below n + 1. -/
theorem ite_lt_succ {α : Type} (f g : Nat → α) (n d : Nat) :
    (if d = n then f n else if d < n then f d else g d) = if d < n + 1 then f d else g d := by
  rcases Nat.lt_trichotomy d n with hlt | rfl | hgt
  · simp [hlt.ne, hlt, Nat.lt_succ_of_lt hlt]
  · simp
  · simp [hgt.ne', Nat.not_lt.mpr hgt.le, Nat.not_lt.mpr hgt]

/-! ## A level change starts the rails (R57 to R59, R75) -/

/-- Whether die d's rail does not stand at mv, or is still to be confirmed there. -/
def Block.walksTo (b : Block) (mv d : Nat) : Bool := (b.die d).cmdMv != mv || (b.die d).writing

/-- Die d once a level change has sent its rail towards mv. -/
def Block.dieTowards (b : Block) (mv d : Nat) : Die :=
  { b.die d with
    walking := b.walksTo mv d, target := mv, stepAt := if (b.die d).walking then (b.die d).stepAt else b.ticks,
    below := 0, above := 0, settling := false,
    sagMv := if b.walksTo mv d then min (b.die d).sagMv mv else mv }

/-- A level change sends die d's rail towards mv. -/
def Block.startRail (mv : Nat) (b : Block) (d : Nat) : Block :=
  ((b.setFld (R.DIE_AVS_STATUS d) F.DIE_AVS_STATUS_OFFSET_STEPS 0).modDie d fun _ => b.dieTowards mv d).setFld
    R.PKG_LEVEL_STATUS ⟨d, d⟩ (b2n !b.walksTo mv d)

/-- LEVEL_CTRL is written and BUSY stands; no rail has started yet. -/
def Block.levelWritten (w : Writer) (v : Nat) (b : Block) : Block :=
  let c := b.storeReg w R.PKG_LEVEL_CTRL v
  (c.traceLevel 1 c.tgtLevel 0xFF 0 0).raise R.PKG_LEVEL_STATUS F.PKG_LEVEL_STATUS_BUSY

theorem avsStatus_ne_levelStatus (d : Nat) : R.DIE_AVS_STATUS d ≠ R.PKG_LEVEL_STATUS := by
  unfold R.DIE_AVS_STATUS R.PKG_LEVEL_STATUS dieBase pkgBase; omega

theorem avsStatus_ne_levelCtrl (d : Nat) : R.DIE_AVS_STATUS d ≠ R.PKG_LEVEL_CTRL := by
  unfold R.DIE_AVS_STATUS R.PKG_LEVEL_CTRL dieBase pkgBase; omega

theorem levelStatus_ne_levelCtrl : R.PKG_LEVEL_STATUS ≠ R.PKG_LEVEL_CTRL := by decide

theorem avsStatus_ne {d e : Nat} (h : d ≠ e) : R.DIE_AVS_STATUS d ≠ R.DIE_AVS_STATUS e := by
  simp only [R.DIE_AVS_STATUS, dieBase]; omega

theorem Block.dieTowards_congr {b c : Block} {d : Nat} (hdie : c.die d = b.die d) (hticks : c.ticks = b.ticks) (mv : Nat) :
    c.dieTowards mv d = b.dieTowards mv d := by
  unfold Block.dieTowards Block.walksTo
  rw [hdie, hticks]

/-- LEVEL has code RW: whoever reaches LEVEL_CTRL, the level is the one written. -/
theorem Block.tgtLevel_storeReg (w : Writer) (v : Nat) :
    (b.storeReg w R.PKG_LEVEL_CTRL v).tgtLevel = F.PKG_LEVEL_CTRL_LEVEL.of v := by
  have hit : findReg R.PKG_LEVEL_CTRL =
      some ⟨.pkg, 0, 0x200, reg1 0x200 [⟨17, 8, .rw, 20⟩, ⟨1, 0, .rw, 2⟩], 0, 0, 0⟩ := by decide
  exact Block.fld_storeReg hit rfl w v (f := ⟨1, 0, .rw, 2⟩) (by simp [reg1])

theorem Block.levelChange_eq (w : Writer) (v : Nat) :
    b.levelChange w v = ((b.levelWritten w v).each 4 (Block.startRail (levelMv (F.PKG_LEVEL_CTRL_LEVEL.of v)))).walkEnd := by
  rw [← b.tgtLevel_storeReg w v]
  rfl

theorem Block.tgtLevel_levelWritten (w : Writer) (v : Nat) : (b.levelWritten w v).tgtLevel = F.PKG_LEVEL_CTRL_LEVEL.of v :=
  (Block.fld_setFld_other _ _ _ _ levelStatus_ne_levelCtrl.symm).trans (b.tgtLevel_storeReg w v)

@[simp] theorem Block.levelWritten_die (w : Writer) (v d : Nat) : (b.levelWritten w v).die d = b.die d := b.storeReg_die _ _ _ d
@[simp] theorem Block.levelWritten_ticks (w : Writer) (v : Nat) : (b.levelWritten w v).ticks = b.ticks := b.storeReg_ticks _ _ _
@[simp] theorem Block.levelWritten_out (w : Writer) (v : Nat) : (b.levelWritten w v).out = b.out := b.storeReg_out _ _ _
@[simp] theorem Block.levelWritten_ctrs (w : Writer) (v : Nat) : (b.levelWritten w v).ctrs = b.ctrs := b.storeReg_ctrs _ _ _
@[simp] theorem Block.levelWritten_ports (w : Writer) (v : Nat) : (b.levelWritten w v).ports = b.ports := b.storeReg_ports _ _ _
@[simp] theorem Block.levelWritten_regions (w : Writer) (v : Nat) : (b.levelWritten w v).regions = b.regions :=
  b.storeReg_regions _ _ _
@[simp] theorem Block.levelWritten_frames (w : Writer) (v : Nat) : (b.levelWritten w v).frames = b.frames := b.storeReg_frames _ _ _

/-- What a level change towards mv leaves once the rails of the dies below n have started. -/
structure Block.RailsStarted (mv n : Nat) (b c : Block) : Prop where
  only : c = { b with regs := c.regs, dies := c.dies, records := c.records }
  die : ∀ d, c.die d = if d < n then b.dieTowards mv d else b.die d
  offset : ∀ d, d < n → c.fld (R.DIE_AVS_STATUS d) F.DIE_AVS_STATUS_OFFSET_STEPS = 0
  atTarget : ∀ d, d < n → c.fld R.PKG_LEVEL_STATUS ⟨d, d⟩ = b2n !b.walksTo mv d
  level : c.tgtLevel = b.tgtLevel

theorem Block.railsStarted_zero (mv : Nat) : b.RailsStarted mv 0 b where
  only := rfl
  die _ := rfl
  offset _ h := absurd h (Nat.not_lt_zero _)
  atTarget _ h := absurd h (Nat.not_lt_zero _)
  level := rfl

/-- A rail that starts leaves every field of LEVEL_STATUS but its own. -/
theorem Block.levelStatus_startRail_apart (mv : Nat) {d : Nat} (hd : d < 32) (g : Bf) (hg : g.lo ≤ g.hi)
    (hapart : d < g.lo ∨ g.hi < d) : (b.startRail mv d).fld R.PKG_LEVEL_STATUS g = b.fld R.PKG_LEVEL_STATUS g := by
  unfold Block.startRail
  rw [Block.fld_setFld_apart _ _ _ _ _ hd le_rfl hg hapart, Block.modDie_fld,
    Block.fld_setFld_other _ _ _ _ (avsStatus_ne_levelStatus d).symm]

theorem Block.RailsStarted.succ {mv n : Nat} {b c : Block} (h : b.RailsStarted mv n c) (hn : n < 4) :
    b.RailsStarted mv (n + 1) (c.startRail mv n) := by
  have hticks : c.ticks = b.ticks := by rw [h.only]
  have hold : c.die n = b.die n := by rw [h.die, if_neg (Nat.lt_irrefl n)]
  have hdie (d : Nat) : (c.startRail mv n).die d = if d = n then b.dieTowards mv n else c.die d := by
    rw [← Block.dieTowards_congr hold hticks]
    exact Block.die_modDie (c.setFld (R.DIE_AVS_STATUS n) F.DIE_AVS_STATUS_OFFSET_STEPS 0) n (fun _ => c.dieTowards mv n) d
  have hwalks : c.walksTo mv n = b.walksTo mv n := by simp only [Block.walksTo, hold]
  refine ⟨?_, fun d => ?_, fun d hd => ?_, fun d hd => ?_, ?_⟩
  · rw [h.only]; rfl
  · rw [hdie, h.die]
    exact ite_lt_succ _ _ n d
  · unfold Block.startRail
    rw [Block.fld_setFld_other _ _ _ _ (avsStatus_ne_levelStatus d), Block.modDie_fld]
    rcases Nat.lt_succ_iff_lt_or_eq.mp hd with hlt | rfl
    · rw [Block.fld_setFld_other _ _ _ _ (avsStatus_ne hlt.ne), h.offset d hlt]
    · rw [Block.fld_setFld_same _ _ _ _ (by decide) (by decide)]; rfl
  · rcases Nat.lt_succ_iff_lt_or_eq.mp hd with hlt | rfl
    · rw [c.levelStatus_startRail_apart mv (by omega) _ le_rfl (.inr hlt), h.atTarget d hlt]
    · rw [← hwalks]
      unfold Block.startRail
      rw [Block.fld_setFld_same _ _ _ _ (show d < 32 by omega) le_rfl]
      cases c.walksTo mv d <;> simp [b2n]
  · rw [← h.level]
    exact (Block.fld_setFld_other _ _ _ _ levelStatus_ne_levelCtrl.symm).trans
      (Block.fld_setFld_other _ _ _ _ (avsStatus_ne_levelCtrl n).symm)

theorem Block.each_startRail (mv : Nat) {n : Nat} (hn : n ≤ 4) : b.RailsStarted mv n (b.each n (Block.startRail mv)) := by
  induction n with
  | zero => exact b.railsStarted_zero mv
  | succ n ih => rw [Block.each_succ]; exact (ih (by omega)).succ hn

theorem Block.levelStatus_each_startRail (mv : Nat) {n : Nat} (hn : n ≤ 4) (g : Bf) (hlo : 4 ≤ g.lo) (hg : g.lo ≤ g.hi) :
    (b.each n (Block.startRail mv)).fld R.PKG_LEVEL_STATUS g = b.fld R.PKG_LEVEL_STATUS g := by
  induction n with
  | zero => rfl
  | succ n ih =>
    rw [Block.each_succ, Block.levelStatus_startRail_apart _ _ (by omega) _ hg (.inl (by omega)), ih (by omega)]

/-! ## The end of a walk -/

/-- Every rail stands at level l: BUSY clears and CURRENT takes the level. -/
def Block.levelTaken (b : Block) (l : Nat) : Block :=
  ((b.lower R.PKG_LEVEL_STATUS F.PKG_LEVEL_STATUS_BUSY).setFld R.PKG_LEVEL_STATUS F.PKG_LEVEL_STATUS_CURRENT l).traceLevel
    2 l 0xFF 0 0

theorem Block.walkEnd_of_walking (h : ((List.range 4).any fun d => (b.die d).walking) = true) : b.walkEnd = b := by
  simp only [Block.walkEnd, h, if_true]

theorem Block.walkEnd_of_arrived (h : ((List.range 4).any fun d => (b.die d).walking) = false)
    (busy : b.flag R.PKG_LEVEL_STATUS F.PKG_LEVEL_STATUS_BUSY = true)
    (there : ∀ d, d < 4 → b.fld R.PKG_LEVEL_STATUS ⟨d, d⟩ = 1) : b.walkEnd = b.levelTaken b.tgtLevel := by
  have hall : b.fld R.PKG_LEVEL_STATUS F.PKG_LEVEL_STATUS_RAIL_AT_TARGET = 15 := by
    have h0 := there 0 (by decide)
    have h1 := there 1 (by decide)
    have h2 := there 2 (by decide)
    have h3 := there 3 (by decide)
    simp only [Block.fld, Bf.of, F.PKG_LEVEL_STATUS_RAIL_AT_TARGET, Nat.reduceAdd, Nat.reduceSub, Nat.reducePow] at *
    omega
  simp [Block.walkEnd, Block.levelTaken, h, busy, hall]

theorem Block.levelStatus_levelTaken_rail (l : Nat) {d : Nat} (hd : d < 4) :
    (b.levelTaken l).fld R.PKG_LEVEL_STATUS ⟨d, d⟩ = b.fld R.PKG_LEVEL_STATUS ⟨d, d⟩ := by
  unfold Block.levelTaken Block.lower
  rw [Block.traceLevel_fld,
    Block.fld_setFld_apart _ _ _ _ _ (by decide) (by decide) le_rfl (.inr (Nat.lt_of_lt_of_le hd (by decide))),
    Block.fld_setFld_apart _ _ _ _ _ (by decide) (by decide) le_rfl (.inr hd)]

theorem Block.fld_levelTaken_other (l : Nat) {a : Nat} (g : Bf) (h : a ≠ R.PKG_LEVEL_STATUS) :
    (b.levelTaken l).fld a g = b.fld a g :=
  (Block.fld_setFld_other _ _ _ _ h).trans (Block.fld_setFld_other _ _ _ _ h)

theorem Block.levelTaken_busy (l : Nat) : (b.levelTaken l).flag R.PKG_LEVEL_STATUS F.PKG_LEVEL_STATUS_BUSY = false := by
  have hbusy := b.flag_lower R.PKG_LEVEL_STATUS F.PKG_LEVEL_STATUS_BUSY (by decide) (by decide)
  unfold Block.flag at hbusy ⊢
  rw [← hbusy]
  exact congrArg (· == 1) (Block.fld_setFld_apart _ _ _ _ _ (by decide) (by decide) (by decide) (by decide))

theorem Block.levelTaken_curLevel {l : Nat} (hl : l < 4) : (b.levelTaken l).curLevel = l :=
  (Block.fld_setFld_same _ _ _ _ (by decide) (by decide)).trans (Nat.mod_eq_of_lt hl)

theorem Block.RailsStarted.levelTaken {mv n : Nat} {b c : Block} (h : b.RailsStarted mv n c) (hn : n ≤ 4) (l : Nat) :
    b.RailsStarted mv n (c.levelTaken l) where
  only := by rw [h.only]; rfl
  die := h.die
  offset d hd := (c.fld_levelTaken_other l _ (avsStatus_ne_levelStatus d)).trans (h.offset d hd)
  atTarget d hd := (c.levelStatus_levelTaken_rail l (Nat.lt_of_lt_of_le hd hn)).trans (h.atTarget d hd)
  level := (c.fld_levelTaken_other l _ levelStatus_ne_levelCtrl.symm).trans h.level

/-- What LEVEL_CHANGE leaves: the rails have started, BUSY stands while one of them walks, and else CURRENT takes the level. -/
theorem Block.levelChange_starts (w : Writer) (v : Nat) :
    let l := F.PKG_LEVEL_CTRL_LEVEL.of v
    let t := b.levelChange w v
    let walk := (List.range 4).any (b.walksTo (levelMv l))
    (b.levelWritten w v).RailsStarted (levelMv l) 4 t ∧ t.flag R.PKG_LEVEL_STATUS F.PKG_LEVEL_STATUS_BUSY = walk ∧
      t.curLevel = if walk then b.curLevel else l := by
  intro l t walk
  have hl : l < 4 := Bf.of_lt _ _
  have hstart := (b.levelWritten w v).each_startRail (levelMv l) le_rfl
  have hstatus := (b.levelWritten w v).levelStatus_each_startRail (levelMv l) le_rfl
  rw [show t = ((b.levelWritten w v).each 4 (Block.startRail (levelMv l))).walkEnd from b.levelChange_eq w v]
  generalize (b.levelWritten w v).each 4 (Block.startRail (levelMv l)) = c at *
  have hwalks (d : Nat) : (b.levelWritten w v).walksTo (levelMv l) d = b.walksTo (levelMv l) d := by
    simp only [Block.walksTo, Block.levelWritten_die]
  have hbusy : c.flag R.PKG_LEVEL_STATUS F.PKG_LEVEL_STATUS_BUSY = true := by
    unfold Block.flag
    rw [hstatus _ (by decide) (by decide)]
    exact Block.flag_raise _ _ _ (by decide) (by decide)
  have hany : ((List.range 4).any fun d => (c.die d).walking) = walk := by
    simp [walk, List.range_succ, hstart.die, Block.dieTowards, hwalks]
  cases hwalk : walk with
  | true =>
    rw [c.walkEnd_of_walking (hany.trans hwalk)]
    refine ⟨hstart, hbusy, ?_⟩
    unfold Block.curLevel
    rw [hstatus _ (by decide) (by decide), if_pos rfl]
    exact (Block.fld_setFld_apart _ _ _ _ _ (by decide) (by decide) (by decide) (by decide)).trans
      (congrArg _ (b.word_storeReg_other w v levelStatus_ne_levelCtrl))
  | false =>
    have hnone (d : Nat) (hd : d < 4) : b.walksTo (levelMv l) d = false :=
      Bool.eq_false_iff.mpr fun h => by
        have := List.any_eq_true.mpr ⟨d, List.mem_range.mpr hd, h⟩
        exact absurd (this.symm.trans hwalk) (by decide)
    have hlevel : c.tgtLevel = l := hstart.level.trans (b.tgtLevel_levelWritten w v)
    rw [c.walkEnd_of_arrived (hany.trans hwalk) hbusy
      fun d hd => by rw [hstart.atTarget d hd, hwalks, hnone d hd]; rfl, hlevel]
    exact ⟨hstart.levelTaken le_rfl l, c.levelTaken_busy l, c.levelTaken_curLevel hl⟩

/-! ## A voltage write (R65) -/

theorem Block.writeRail_die (d mv e : Nat) :
    (b.writeRail d mv).die e = if e = d then { b.die d with cmdMv := mv, writing := true } else b.die e :=
  b.die_modDie d (fun x => { x with cmdMv := mv, writing := true }) e

theorem Block.writeRail_out (d mv : Nat) : (b.writeRail d mv).out = b.out ++ [.avs d mv] := rfl

/-! ## RAMP_STEP (R57) -/

/-- Die d's rail takes a step of its walk where one is due. -/
def Block.rampRail (b : Block) (d : Nat) : Block :=
  if b.rampDue d then
    (b.writeRail d (towards (b.die d).cmdMv (b.die d).target)).modDie d fun x => { x with stepAt := b.ticks }
  else b

/-- Die d after the step that is due, if one is. -/
def Block.rampedDie (b : Block) (d : Nat) : Die :=
  if b.rampDue d then
    { b.die d with cmdMv := towards (b.die d).cmdMv (b.die d).target, writing := true, stepAt := b.ticks }
  else b.die d

/-- What a step of the walk tells the regulator of die d. -/
def Block.rampTells (b : Block) (d : Nat) : Output := .avs d (towards (b.die d).cmdMv (b.die d).target)

theorem Block.rampStep_eq : b.rampStep = b.each 4 Block.rampRail := rfl

/-- What RAMP_STEP leaves once it has come to the dies below n. -/
structure Block.RailsRamped (n : Nat) (b c : Block) : Prop where
  only : c = { b with dies := c.dies, out := c.out }
  die : ∀ d, c.die d = if d < n then b.rampedDie d else b.die d
  out : c.out = b.out ++ ((List.range n).filter b.rampDue).map b.rampTells

theorem Block.railsRamped_zero : b.RailsRamped 0 b where
  only := rfl
  die _ := rfl
  out := by simp

theorem Block.rampRail_only (d : Nat) : b.rampRail d = { b with dies := (b.rampRail d).dies, out := (b.rampRail d).out } := by
  unfold Block.rampRail; split <;> rfl

theorem Block.rampRail_die (d e : Nat) : (b.rampRail d).die e = if e = d then b.rampedDie d else b.die e := by
  unfold Block.rampRail Block.rampedDie
  by_cases hdue : b.rampDue d = true
  · by_cases he : e = d <;> simp [hdue, he, Block.die_modDie, Block.writeRail_die]
  · by_cases he : e = d <;> simp [hdue, he]

theorem Block.rampRail_out (d : Nat) :
    (b.rampRail d).out = b.out ++ ([d].filter b.rampDue).map b.rampTells := by
  unfold Block.rampRail
  by_cases hdue : b.rampDue d = true <;> simp [hdue, Block.writeRail_out, Block.rampTells]

theorem Block.RailsRamped.succ {n : Nat} {b c : Block} (h : b.RailsRamped n c) : b.RailsRamped (n + 1) (c.rampRail n) := by
  have hold : c.die n = b.die n := by rw [h.die, if_neg (Nat.lt_irrefl n)]
  have hticks : c.ticks = b.ticks := by rw [h.only]
  have hns : c.rampNs = b.rampNs := by rw [h.only]; rfl
  have hdue : c.rampDue n = b.rampDue n := by simp only [Block.rampDue, hold, hticks, hns]
  refine ⟨?_, fun d => ?_, ?_⟩
  · rw [c.rampRail_only, h.only]
  · have hdie : c.rampedDie n = b.rampedDie n := by simp only [Block.rampedDie, hdue, hold, hticks]
    rw [c.rampRail_die, hdie, h.die]
    exact ite_lt_succ _ _ n d
  · have htells : c.rampTells n = b.rampTells n := by simp only [Block.rampTells, hold]
    rw [c.rampRail_out, h.out, List.range_succ, List.filter_append, List.map_append, List.append_assoc]
    simp only [List.filter_cons, hdue, List.filter_nil]
    split <;> simp [htells]

theorem Block.each_rampRail (n : Nat) : b.RailsRamped n (b.each n Block.rampRail) := by
  induction n with
  | zero => exact b.railsRamped_zero
  | succ n ih => rw [Block.each_succ]; exact ih.succ

theorem Block.rampStep_ramps : b.RailsRamped 4 b.rampStep := by
  rw [Block.rampStep_eq]
  exact b.each_rampRail 4

/-! ## A window of the sentinels is shown (R60) -/

/-- In t region G shows a window of tempo x that ended in b. -/
def Block.Shows (b t : Block) (G x : Nat) : Prop :=
  t.fld (R.RGN_SENT_TEMPO G) F.RGN_SENT_TEMPO_TEMPO = x ∧
  t.fld (R.RGN_SENT_TEMPO G) F.RGN_SENT_TEMPO_TEMPO_MIN = min x (b.fld (R.RGN_SENT_TEMPO G) F.RGN_SENT_TEMPO_TEMPO_MIN) ∧
  (marginOf x < 2048 → t.fld (R.RGN_SENT_MARGIN G) F.RGN_SENT_MARGIN_MARGIN = marginOf x) ∧
  t.fld (R.RGN_SENT_MARGIN G) F.RGN_SENT_MARGIN_MARGIN_MIN =
    min (marginOf x) (b.fld (R.RGN_SENT_MARGIN G) F.RGN_SENT_MARGIN_MARGIN_MIN)

/-- What region G shows depends on its two registers alone. -/
theorem Block.Shows.congr {b b' t t' : Block} {G x : Nat} (h : b.Shows t G x)
    (hb : ∀ a g, a = R.RGN_SENT_TEMPO G ∨ a = R.RGN_SENT_MARGIN G → b'.fld a g = b.fld a g)
    (ht : ∀ a g, a = R.RGN_SENT_TEMPO G ∨ a = R.RGN_SENT_MARGIN G → t'.fld a g = t.fld a g) : b'.Shows t' G x := by
  unfold Block.Shows
  rw [ht _ _ (.inl rfl), ht _ _ (.inl rfl), ht _ _ (.inr rfl), ht _ _ (.inr rfl), hb _ _ (.inl rfl), hb _ _ (.inr rfl)]
  exact h

theorem sentMargin_ne_sentTempo (G H : Nat) : R.RGN_SENT_MARGIN G ≠ R.RGN_SENT_TEMPO H := by
  unfold R.RGN_SENT_MARGIN R.RGN_SENT_TEMPO rgnBase dieBase; omega

/-- A field keeps the least of the values seen. -/
def Block.minFld (b : Block) (a : Nat) (f : Bf) (v : Nat) : Block := b.setFld a f (min v (b.fld a f))

/-- The tempo register of region G after a window of tempo x. -/
def Block.showTempo (b : Block) (G x : Nat) : Block :=
  (b.setFld (R.RGN_SENT_TEMPO G) F.RGN_SENT_TEMPO_TEMPO x).minFld (R.RGN_SENT_TEMPO G) F.RGN_SENT_TEMPO_TEMPO_MIN x

/-- The margin register of region G after a window of margin m, which shows it as y. -/
def Block.showMargin (b : Block) (G m y : Nat) : Block :=
  (b.setFld (R.RGN_SENT_MARGIN G) F.RGN_SENT_MARGIN_MARGIN y).minFld (R.RGN_SENT_MARGIN G) F.RGN_SENT_MARGIN_MARGIN_MIN m

/-- A report shows a free value where the margin does not fit its field (assumption 11). -/
theorem Block.sentinelReport_eq (G x : Nat) :
    b.sentinelReport G x =
      if marginOf x < 2048 then (b.showTempo G x).showMargin G (marginOf x) (marginOf x)
      else ((b.showTempo G x).free 11).2.showMargin G (marginOf x) ((b.showTempo G x).free 11).1 := by
  unfold Block.sentinelReport
  dsimp only
  split <;> rfl

@[simp] theorem Block.free_fld (n a : Nat) (g : Bf) : (b.free n).2.fld a g = b.fld a g := rfl

/-- From b to c nothing of the dies has changed and nothing was sent. -/
structure Block.SameRails (b c : Block) : Prop where
  die : ∀ d, c.die d = b.die d
  out : c.out = b.out

namespace Block.SameRails
variable {b c : Block}

theorem refl (b : Block) : Block.SameRails b b := ⟨fun _ => rfl, rfl⟩
theorem trans {e : Block} (h : Block.SameRails b c) (h' : Block.SameRails c e) : Block.SameRails b e :=
  ⟨fun d => (h'.die d).trans (h.die d), h'.out.trans h.out⟩
theorem setFld (h : Block.SameRails b c) (a : Nat) (f : Bf) (v : Nat) : Block.SameRails b (c.setFld a f v) :=
  ⟨h.die, h.out⟩
theorem free (h : Block.SameRails b c) (n : Nat) : Block.SameRails b (c.free n).2 := ⟨h.die, h.out⟩
theorem pmc (h : Block.SameRails b c) (u : PUnit) (ev q n : Nat) : Block.SameRails b (c.pmc u ev q n) :=
  h.trans ⟨c.pmc_die u ev q n, c.pmc_out u ev q n⟩

end Block.SameRails

theorem Block.showTempo_sameRails (G x : Nat) : b.SameRails (b.showTempo G x) :=
  ((SameRails.refl b).setFld _ _ _).setFld _ _ _

theorem Block.showMargin_sameRails (G m y : Nat) : b.SameRails (b.showMargin G m y) :=
  ((SameRails.refl b).setFld _ _ _).setFld _ _ _

theorem Block.sentinelReport_sameRails (G x : Nat) : b.SameRails (b.sentinelReport G x) := by
  rw [Block.sentinelReport_eq]
  split
  · exact (b.showTempo_sameRails G x).trans (Block.showMargin_sameRails _ _ _ _)
  · exact ((b.showTempo_sameRails G x).free 11).trans (Block.showMargin_sameRails _ _ _ _)

theorem Block.fld_minFld_other {a c : Nat} (f g : Bf) (v : Nat) (h : c ≠ a) : (b.minFld a f v).fld c g = b.fld c g :=
  b.fld_setFld_other f g _ h

theorem Block.fld_showTempo_other (G x : Nat) {a : Nat} (g : Bf) (h : a ≠ R.RGN_SENT_TEMPO G) :
    (b.showTempo G x).fld a g = b.fld a g :=
  (Block.fld_minFld_other _ _ _ _ h).trans (Block.fld_setFld_other _ _ _ _ h)

theorem Block.fld_showMargin_other (G m y : Nat) {a : Nat} (g : Bf) (h : a ≠ R.RGN_SENT_MARGIN G) :
    (b.showMargin G m y).fld a g = b.fld a g :=
  (Block.fld_minFld_other _ _ _ _ h).trans (Block.fld_setFld_other _ _ _ _ h)

theorem Block.fld_sentinelReport_other (G x : Nat) {a : Nat} (g : Bf) (ht : a ≠ R.RGN_SENT_TEMPO G)
    (hm : a ≠ R.RGN_SENT_MARGIN G) :
    (b.sentinelReport G x).fld a g = b.fld a g := by
  have htempo := b.fld_showTempo_other G x g ht
  rw [Block.sentinelReport_eq]
  split
  · exact (Block.fld_showMargin_other _ _ _ _ _ hm).trans htempo
  · exact (Block.fld_showMargin_other _ _ _ _ _ hm).trans ((Block.free_fld _ _ _ _).trans htempo)

/-- A field that keeps the least value reads as the least of what it held and the value seen. -/
theorem Block.fld_minFld_same (a : Nat) (f : Bf) (v : Nat) (h : f.hi < 32) (hf : f.lo ≤ f.hi) :
    (b.minFld a f v).fld a f = min v (b.fld a f) :=
  (b.fld_setFld_same a f _ h hf).trans
    (Nat.mod_eq_of_lt (Nat.lt_of_le_of_lt (Nat.min_le_right _ _) (Bf.of_lt f (b.word a))))

theorem Block.showTempo_shows (G : Nat) {x : Nat} (hx : x < 4096) :
    (b.showTempo G x).fld (R.RGN_SENT_TEMPO G) F.RGN_SENT_TEMPO_TEMPO = x ∧
      (b.showTempo G x).fld (R.RGN_SENT_TEMPO G) F.RGN_SENT_TEMPO_TEMPO_MIN =
        min x (b.fld (R.RGN_SENT_TEMPO G) F.RGN_SENT_TEMPO_TEMPO_MIN) := by
  constructor
  · refine (Block.fld_setFld_apart _ _ _ _ _ (by decide) (by decide) (by decide) (by decide)).trans ?_
    exact (Block.fld_setFld_same _ _ _ _ (by decide) (by decide)).trans (Nat.mod_eq_of_lt hx)
  · refine (Block.fld_minFld_same _ _ _ _ (by decide) (by decide)).trans (congrArg (min x) ?_)
    exact Block.fld_setFld_apart _ _ _ _ _ (by decide) (by decide) (by decide) (by decide)

theorem Block.showMargin_shows (G m y : Nat) :
    (b.showMargin G m y).fld (R.RGN_SENT_MARGIN G) F.RGN_SENT_MARGIN_MARGIN = y % 2048 ∧
      (b.showMargin G m y).fld (R.RGN_SENT_MARGIN G) F.RGN_SENT_MARGIN_MARGIN_MIN =
        min m (b.fld (R.RGN_SENT_MARGIN G) F.RGN_SENT_MARGIN_MARGIN_MIN) := by
  constructor
  · refine (Block.fld_setFld_apart _ _ _ _ _ (by decide) (by decide) (by decide) (by decide)).trans ?_
    exact Block.fld_setFld_same _ _ _ _ (by decide) (by decide)
  · refine (Block.fld_minFld_same _ _ _ _ (by decide) (by decide)).trans (congrArg (min m) ?_)
    exact Block.fld_setFld_apart _ _ _ _ _ (by decide) (by decide) (by decide) (by decide)

theorem Block.sentinelReport_shows (G : Nat) {x : Nat} (hx : x < 4096) : b.Shows (b.sentinelReport G x) G x := by
  have hne := sentMargin_ne_sentTempo G G
  obtain ⟨htempo, htempoMin⟩ := b.showTempo_shows G hx
  have hold (g : Bf) : (b.showTempo G x).fld (R.RGN_SENT_MARGIN G) g = b.fld (R.RGN_SENT_MARGIN G) g :=
    b.fld_showTempo_other G x g hne
  have hshown (c : Block) (y : Nat) (hc : ∀ a g, c.fld a g = (b.showTempo G x).fld a g)
      (hy : marginOf x < 2048 → y = marginOf x) : b.Shows (c.showMargin G (marginOf x) y) G x := by
    obtain ⟨hmargin, hmarginMin⟩ := c.showMargin_shows G (marginOf x) y
    have htkept (g : Bf) : (c.showMargin G (marginOf x) y).fld (R.RGN_SENT_TEMPO G) g =
        (b.showTempo G x).fld (R.RGN_SENT_TEMPO G) g :=
      (c.fld_showMargin_other G _ y g hne.symm).trans (hc _ _)
    refine ⟨(htkept _).trans htempo, (htkept _).trans htempoMin, fun hm => ?_, ?_⟩
    · rw [hmargin, hy hm, Nat.mod_eq_of_lt hm]
    · rw [hmarginMin, hc, hold]
  rw [Block.sentinelReport_eq]
  split
  · exact hshown _ _ (fun _ _ => rfl) fun _ => rfl
  · exact hshown _ _ (Block.free_fld _ _) fun h => absurd h ‹_›

/-- Both regions of die d report. -/
def Block.bothReport (b : Block) (d t0 t1 : Nat) : Block := (b.sentinelReport (2 * d) t0).sentinelReport (2 * d + 1) t1

/-- The registers of a sentinel lie in the first 8 bytes of a 64 KiB part of the map. -/
theorem ne_sentTempo_of_mod {a : Nat} (h : 8 ≤ a % 65536) (G : Nat) : a ≠ R.RGN_SENT_TEMPO G := by
  simp only [R.RGN_SENT_TEMPO, rgnBase, dieBase]; omega

theorem ne_sentMargin_of_mod {a : Nat} (h : 8 ≤ a % 65536) (G : Nat) : a ≠ R.RGN_SENT_MARGIN G := by
  simp only [R.RGN_SENT_MARGIN, rgnBase, dieBase]; omega

/-- Reports leave every register but those of the sentinels. -/
theorem Block.fld_bothReport_other (d t0 t1 : Nat) {a : Nat} (g : Bf) (h : 8 ≤ a % 65536) :
    (b.bothReport d t0 t1).fld a g = b.fld a g := by
  unfold Block.bothReport
  rw [Block.fld_sentinelReport_other _ _ _ _ (ne_sentTempo_of_mod h _) (ne_sentMargin_of_mod h _),
    Block.fld_sentinelReport_other _ _ _ _ (ne_sentTempo_of_mod h _) (ne_sentMargin_of_mod h _)]

theorem Block.bothReport_shows (d : Nat) {t0 t1 : Nat} (h0 : t0 < 4096) (h1 : t1 < 4096) :
    b.Shows (b.bothReport d t0 t1) (2 * d) t0 ∧ b.Shows (b.bothReport d t0 t1) (2 * d + 1) t1 := by
  have hapart {a G H : Nat} (h : G ≠ H) (ha : a = R.RGN_SENT_TEMPO G ∨ a = R.RGN_SENT_MARGIN G) :
      a ≠ R.RGN_SENT_TEMPO H ∧ a ≠ R.RGN_SENT_MARGIN H := by
    unfold R.RGN_SENT_TEMPO R.RGN_SENT_MARGIN rgnBase dieBase at *
    omega
  constructor
  · refine (b.sentinelReport_shows (2 * d) h0).congr (fun _ _ _ => rfl) fun a g ha => ?_
    obtain ⟨ht, hm⟩ := hapart (H := 2 * d + 1) (by omega) ha
    exact Block.fld_sentinelReport_other _ _ _ _ ht hm
  · refine ((b.sentinelReport (2 * d) t0).sentinelReport_shows (2 * d + 1) h1).congr (fun a g ha => ?_) fun _ _ _ => rfl
    obtain ⟨ht, hm⟩ := hapart (H := 2 * d) (by omega) ha
    exact (Block.fld_sentinelReport_other _ _ _ _ ht hm).symm

/-! ## A window of the sentinels is judged (R61, R62) -/

/-- The smaller margin of a window. -/
def worstOf (t0 t1 : Nat) : Nat := min (marginOf t0) (marginOf t1)

theorem Block.curLevel_lt : b.curLevel < 4 := Bf.of_lt _ _

/-- Region q of die d counts a window of tempo x below the floor fl. -/
def Block.countLow (b : Block) (d q x fl : Nat) : Block := if marginOf x < fl then b.pmc (.die d) 0x01 q 1 else b

/-- AT_CEILING clears unless a window below the floor finds the rail of die d at its ceiling. -/
def Block.clearCeiling (b : Block) (d m fl : Nat) : Block :=
  if m < fl ∧ (b.die d).cmdMv ≥ b.ceiling d then b else b.lower (R.DIE_AVS_STATUS d) F.DIE_AVS_STATUS_AT_CEILING

/-- A window is shown, and judged by the floor fl. -/
def Block.windowJudged (b : Block) (d t0 t1 fl : Nat) : Block :=
  ((((b.bothReport d t0 t1).countLow d 0 t0 fl).countLow d 1 t1 fl).setFld (R.DIE_AVS_STATUS d) F.DIE_AVS_STATUS_BELOW_FLOOR
    (b2n (worstOf t0 t1 < fl))).clearCeiling d (worstOf t0 t1) fl

/-- Die d's master counts a window of margin m against the floor fl. -/
def Block.windowCounted (b : Block) (d m fl : Nat) : Block :=
  b.modDie d fun x =>
    { x with below := if m < fl then x.below + 1 else 0,
             above := if m ≥ fl + b.fld (R.DIE_SENT_CFG d) F.DIE_SENT_CFG_HYST then x.above + 1 else 0 }

/-- Die d's rail goes up, or down, where the windows counted say so. -/
def Block.railStep (b : Block) (d m consec : Nat) : Block :=
  if (b.die d).below ≥ max 1 consec then b.stepUp d m
  else if b.flag (R.DIE_SENT_CFG d) F.DIE_SENT_CFG_STEP_DOWN_EN && (b.die d).above ≥ 1000 then b.stepDown d m
  else b

/-- From b to c nothing of the dies has changed and nothing was sent, and of the registers only those of the sentinels and die d's
AVS_STATUS, but not its BUS_ERR. -/
structure Block.JudgedFrom (d : Nat) (b c : Block) : Prop where
  rails : b.SameRails c
  fld : ∀ a g, 8 ≤ a % 65536 → a ≠ R.DIE_AVS_STATUS d → c.fld a g = b.fld a g
  busErr : c.fld (R.DIE_AVS_STATUS d) F.DIE_AVS_STATUS_BUS_ERR = b.fld (R.DIE_AVS_STATUS d) F.DIE_AVS_STATUS_BUS_ERR

theorem avsStatus_mod (d : Nat) : 8 ≤ R.DIE_AVS_STATUS d % 65536 := by unfold R.DIE_AVS_STATUS dieBase; omega

theorem Block.bothReport_judgedFrom (d t0 t1 : Nat) : b.JudgedFrom d (b.bothReport d t0 t1) where
  rails := (b.sentinelReport_sameRails _ _).trans (Block.sentinelReport_sameRails _ _ _)
  fld _ g h _ := b.fld_bothReport_other d t0 t1 g h
  busErr := b.fld_bothReport_other d t0 t1 _ (avsStatus_mod d)

namespace Block.JudgedFrom
variable {b c : Block} {d : Nat} (h : Block.JudgedFrom d b c)
include h

theorem countLow (q x fl : Nat) : Block.JudgedFrom d b (c.countLow d q x fl) := by
  unfold Block.countLow
  split
  · exact ⟨h.rails.pmc _ _ _ _, fun a g hm ha => (c.pmc_fld _ _ _ _ a g).trans (h.fld a g hm ha),
      (c.pmc_fld _ _ _ _ _ _).trans h.busErr⟩
  · exact h

/-- A write of a field of AVS_STATUS other than BUS_ERR. -/
theorem setAvs {f : Bf} (v : Nat) (h32 : f.hi < 32) (hf : f.lo ≤ f.hi) (hapart : f.hi < 3 ∨ 3 < f.lo) :
    Block.JudgedFrom d b (c.setFld (R.DIE_AVS_STATUS d) f v) where
  rails := h.rails.setFld _ _ _
  fld a g hm ha := (Block.fld_setFld_other _ _ _ _ ha).trans (h.fld a g hm ha)
  busErr := (c.fld_setFld_apart _ _ _ _ h32 hf (by decide) hapart).trans h.busErr

theorem clearCeiling (m fl : Nat) : Block.JudgedFrom d b (c.clearCeiling d m fl) := by
  unfold Block.clearCeiling
  split
  · exact h
  · exact h.setAvs 0 (by decide) (by decide) (by decide)

theorem curLevel : c.curLevel = b.curLevel := h.fld _ _ (by decide) (avsStatus_ne_levelStatus d).symm

theorem sentCfg (g : Bf) : c.fld (R.DIE_SENT_CFG d) g = b.fld (R.DIE_SENT_CFG d) g :=
  h.fld _ g (by unfold R.DIE_SENT_CFG dieBase; omega) (by unfold R.DIE_SENT_CFG R.DIE_AVS_STATUS; omega)

theorem ceiling : c.ceiling d = b.ceiling d := by unfold Block.ceiling; rw [h.curLevel, h.sentCfg]

theorem floorOf : c.floorOf d = b.floorOf d := by
  have hl := b.curLevel_lt
  unfold Block.floorOf
  rw [h.curLevel]
  exact h.fld _ _ (by unfold R.DIE_SENT_FLOOR dieBase; omega) (by unfold R.DIE_SENT_FLOOR R.DIE_AVS_STATUS; omega)

theorem stepping : c.stepping d = b.stepping d := by
  unfold Block.stepping Block.flag
  rw [h.rails.die, h.busErr, h.fld _ _ (by decide) (avsStatus_ne_levelStatus d).symm]

end Block.JudgedFrom

theorem Block.sentinelWindow_eq (d t0 t1 : Nat) :
    b.sentinelWindow d t0 t1 =
      let c := b.windowJudged d t0 t1 (b.floorOf d)
      if !c.stepping d then c
      else (c.windowCounted d (worstOf t0 t1) (b.floorOf d)).railStep d (worstOf t0 t1)
        (c.fld (R.DIE_SENT_CFG d) F.DIE_SENT_CFG_CONSEC) := by
  rw [← (b.bothReport_judgedFrom d t0 t1).floorOf]
  rfl

theorem Block.windowJudged_judgedFrom (d t0 t1 fl : Nat) : Block.JudgedFrom d b (b.windowJudged d t0 t1 fl) :=
  ((((b.bothReport_judgedFrom d t0 t1).countLow 0 t0 fl).countLow 1 t1 fl).setAvs _ (by decide) (by decide) (by decide)).clearCeiling
    _ _

theorem Block.countLow_fld (d q x fl a : Nat) (g : Bf) : (b.countLow d q x fl).fld a g = b.fld a g := by
  unfold Block.countLow; split <;> simp

/-- AT_CEILING is written: BELOW_FLOOR beside it and every other register stand. -/
theorem Block.fld_setCeiling {d a : Nat} {g : Bf} (v : Nat) (h : a ≠ R.DIE_AVS_STATUS d ∨ g = F.DIE_AVS_STATUS_BELOW_FLOOR) :
    (b.setFld (R.DIE_AVS_STATUS d) F.DIE_AVS_STATUS_AT_CEILING v).fld a g = b.fld a g := by
  by_cases ha : a = R.DIE_AVS_STATUS d
  · subst ha
    obtain rfl := h.resolve_left (fun h => h rfl)
    exact Block.fld_setFld_apart _ _ _ _ _ (by decide) (by decide) (by decide) (by decide)
  · exact Block.fld_setFld_other _ _ _ _ ha

theorem Block.fld_clearCeiling (d m fl : Nat) {a : Nat} {g : Bf}
    (h : a ≠ R.DIE_AVS_STATUS d ∨ g = F.DIE_AVS_STATUS_BELOW_FLOOR) :
    (b.clearCeiling d m fl).fld a g = b.fld a g := by
  unfold Block.clearCeiling
  split
  · rfl
  · exact b.fld_setCeiling 0 h

/-- The judging leaves what the sentinels show. -/
theorem Block.fld_windowJudged (d t0 t1 fl : Nat) {a : Nat} (g : Bf) (h : a ≠ R.DIE_AVS_STATUS d) :
    (b.windowJudged d t0 t1 fl).fld a g = (b.bothReport d t0 t1).fld a g := by
  unfold Block.windowJudged
  rw [Block.fld_clearCeiling _ _ _ _ (.inl h), Block.fld_setFld_other _ _ _ _ h, Block.countLow_fld, Block.countLow_fld]

theorem Block.belowFloor_windowJudged (d t0 t1 fl : Nat) :
    (b.windowJudged d t0 t1 fl).flag (R.DIE_AVS_STATUS d) F.DIE_AVS_STATUS_BELOW_FLOOR = decide (worstOf t0 t1 < fl) := by
  unfold Block.windowJudged Block.flag
  rw [Block.fld_clearCeiling _ _ _ _ (.inr rfl), Block.fld_setFld_same _ _ _ _ (by decide) (by decide)]
  cases decide (worstOf t0 t1 < fl) <;> rfl

/-! ## The rail goes up or down (R61 to R63) -/

/-- A rail with room below its ceiling goes up by 5 mV and settles. -/
theorem Block.stepUp_of_room {d : Nat} (m : Nat) (room : (b.die d).cmdMv < b.ceiling d) :
    let mv := min (b.ceiling d) ((b.die d).cmdMv + 5)
    ((b.stepUp d m).die d).cmdMv = mv ∧ ((b.stepUp d m).die d).settling = true ∧ ((b.stepUp d m).die d).writing = true ∧
      (b.stepUp d m).out = b.out ++ [.avs d mv] := by
  simp [Block.stepUp, room, Block.die_modDie, Block.writeRail_die, Block.writeRail_out]

/-- A rail at its ceiling stays there, and AT_CEILING shows it. -/
theorem Block.stepUp_of_ceiling {d : Nat} (m : Nat) (full : b.ceiling d ≤ (b.die d).cmdMv) :
    b.stepUp d m = (b.raise (R.DIE_AVS_STATUS d) F.DIE_AVS_STATUS_AT_CEILING).sendOncePerMs 6 d 0x11 0 :=
  if_neg (Nat.not_lt.mpr full)

/-- Of the registers a step of the rail changes AT_CEILING alone. -/
theorem Block.fld_railStep (d m consec : Nat) {a : Nat} {g : Bf}
    (h : a ≠ R.DIE_AVS_STATUS d ∨ g = F.DIE_AVS_STATUS_BELOW_FLOOR) :
    (b.railStep d m consec).fld a g = b.fld a g := by
  have hup : (b.stepUp d m).fld a g = b.fld a g := by
    by_cases room : (b.die d).cmdMv < b.ceiling d
    · simp [Block.stepUp, room, Block.writeRail]
    · rw [b.stepUp_of_ceiling m (Nat.le_of_not_lt room), Block.sendOncePerMs_fld]
      exact b.fld_setCeiling 1 h
  have hdown : (b.stepDown d m).fld a g = b.fld a g := by
    unfold Block.stepDown
    dsimp only
    split
    · simp [Block.writeRail]
    · rfl
  unfold Block.railStep
  split
  · exact hup
  · split
    · exact hdown
    · rfl

theorem Block.fld_sentinelWindow (d t0 t1 : Nat) {a : Nat} {g : Bf}
    (h : a ≠ R.DIE_AVS_STATUS d ∨ g = F.DIE_AVS_STATUS_BELOW_FLOOR) :
    (b.sentinelWindow d t0 t1).fld a g = (b.windowJudged d t0 t1 (b.floorOf d)).fld a g := by
  rw [Block.sentinelWindow_eq]
  dsimp only
  split
  · rfl
  · exact Block.fld_railStep _ _ _ _ h

theorem Block.sentinelWindow_shows (d : Nat) {t0 t1 : Nat} (h0 : t0 < 4096) (h1 : t1 < 4096) :
    b.Shows (b.sentinelWindow d t0 t1) (2 * d) t0 ∧ b.Shows (b.sentinelWindow d t0 t1) (2 * d + 1) t1 := by
  have hkept (a G : Nat) (g : Bf) (ha : a = R.RGN_SENT_TEMPO G ∨ a = R.RGN_SENT_MARGIN G) :
      (b.sentinelWindow d t0 t1).fld a g = (b.bothReport d t0 t1).fld a g := by
    have hne : a ≠ R.DIE_AVS_STATUS d := by
      rintro rfl
      exact ha.elim (ne_sentTempo_of_mod (avsStatus_mod d) G) (ne_sentMargin_of_mod (avsStatus_mod d) G)
    rw [b.fld_sentinelWindow d t0 t1 (.inl hne), b.fld_windowJudged d t0 t1 _ g hne]
  obtain ⟨hs0, hs1⟩ := b.bothReport_shows d h0 h1
  exact ⟨hs0.congr (fun _ _ _ => rfl) fun a g => hkept a _ g, hs1.congr (fun _ _ _ => rfl) fun a g => hkept a _ g⟩

/-- While stepping is suspended a window is shown and no more. -/
theorem Block.sentinelWindow_of_suspended {d : Nat} (t0 t1 : Nat) (h : b.stepping d = false) :
    (b.sentinelWindow d t0 t1).die d = b.die d ∧ (b.sentinelWindow d t0 t1).out = b.out := by
  have hj := b.windowJudged_judgedFrom d t0 t1 (b.floorOf d)
  have hw : b.sentinelWindow d t0 t1 = b.windowJudged d t0 t1 (b.floorOf d) := by
    rw [Block.sentinelWindow_eq]; simp [hj.stepping, h]
  rw [hw]
  exact ⟨hj.rails.die d, hj.rails.out⟩

/-- The window that was judged and counted leaves the rail and its ceiling, and nothing has been sent. -/
theorem Block.windowCounted_keeps (d t0 t1 : Nat) :
    let c := (b.windowJudged d t0 t1 (b.floorOf d)).windowCounted d (worstOf t0 t1) (b.floorOf d)
    (c.die d).cmdMv = (b.die d).cmdMv ∧ c.ceiling d = b.ceiling d ∧ c.out = b.out := by
  have hj := b.windowJudged_judgedFrom d t0 t1 (b.floorOf d)
  refine ⟨?_, hj.ceiling, hj.rails.out⟩
  unfold Block.windowCounted
  rw [Block.die_modDie, if_pos rfl, hj.rails.die]

section
variable {b : Block} {d t0 t1 : Nat} (h : b.stepping d = true) (low : worstOf t0 t1 < b.floorOf d)
  (consec : max 1 (b.fld (R.DIE_SENT_CFG d) F.DIE_SENT_CFG_CONSEC) ≤ (b.die d).below + 1)
include h low consec

/-- After CONSEC windows below the floor the rail is to go up. -/
theorem Block.sentinelWindow_of_due :
    b.sentinelWindow d t0 t1 =
      ((b.windowJudged d t0 t1 (b.floorOf d)).windowCounted d (worstOf t0 t1) (b.floorOf d)).stepUp d (worstOf t0 t1) := by
  have hj := b.windowJudged_judgedFrom d t0 t1 (b.floorOf d)
  have hbelow : (((b.windowJudged d t0 t1 (b.floorOf d)).windowCounted d (worstOf t0 t1) (b.floorOf d)).die d).below =
      (b.die d).below + 1 := by
    unfold Block.windowCounted
    rw [Block.die_modDie, if_pos rfl, hj.rails.die, if_pos low]
  rw [Block.sentinelWindow_eq]
  simp only [hj.stepping, h, Bool.not_true, Bool.false_eq_true, if_false]
  refine if_pos ?_
  rw [hbelow]
  exact (congrArg (max 1) (hj.sentCfg _)).le.trans consec

/-- Once CONSEC windows have been below the floor, a rail with room below its ceiling goes up by 5 mV and settles (R61). -/
theorem Block.sentinelWindow_of_room (room : (b.die d).cmdMv < b.ceiling d) :
    let t := b.sentinelWindow d t0 t1
    let mv := min (b.ceiling d) ((b.die d).cmdMv + 5)
    (t.die d).cmdMv = mv ∧ (t.die d).settling = true ∧ (t.die d).writing = true ∧ t.out = b.out ++ [.avs d mv] := by
  obtain ⟨hdie, hceil, hout⟩ := b.windowCounted_keeps d t0 t1
  dsimp only
  rw [Block.sentinelWindow_of_due h low consec, ← hdie, ← hceil, ← hout]
  exact Block.stepUp_of_room _ _ (by rwa [hdie, hceil])

/-- A rail that stands at its ceiling then stays there, and AT_CEILING shows it (R62). -/
theorem Block.sentinelWindow_of_ceiling (full : b.ceiling d ≤ (b.die d).cmdMv) :
    let t := b.sentinelWindow d t0 t1
    t.flag (R.DIE_AVS_STATUS d) F.DIE_AVS_STATUS_AT_CEILING = true ∧ (t.die d).cmdMv = (b.die d).cmdMv ∧ t.out = b.out := by
  obtain ⟨hdie, hceil, hout⟩ := b.windowCounted_keeps d t0 t1
  dsimp only
  rw [Block.sentinelWindow_of_due h low consec, ← hdie, ← hout, Block.stepUp_of_ceiling _ _ (by rwa [hdie, hceil])]
  exact ⟨(Block.sendOncePerMs_flag ..).trans (Block.flag_raise _ _ _ (by decide) (by decide)), by simp, by simp⟩

end

/-! ## The commands -/

theorem any_range_four (p : Nat → Bool) : (List.range 4).any p = (p 0 || p 1 || p 2 || p 3) := by
  simp [List.range_succ, Bool.or_assoc]

/-- LEVEL_CHANGE completes where its writer reaches PKG. -/
theorem takes_levelChange {b : Block} {w : Writer} (hr : b.reaches w .pkg = true) (v : BitVec 32) :
    Takes (.levelChange w v) b (b.levelChange w v.toNat) := fun q => by
  have h : b.byWrite w .pkg (Block.levelChange w v.toNat) = b.levelChange w v.toNat := if_pos hr
  rw [← h]
  rfl

/-- Settles O1, from what each rail is left with by a level change, by a step of its walk, and by a window. -/
theorem railsWalkToTheLevelAndTheSentinelSteps : Obligations.RailsWalkToTheLevelAndTheSentinelSteps := by
  refine ⟨⟨fun b w v hr => ?_, fun b => ?_⟩, fun b d t0 t1 => ?_⟩
  · obtain ⟨hstart, hbusy, hcur⟩ := b.levelChange_starts w v.toNat
    rw [any_range_four] at hbusy hcur
    refine ⟨_, takes_levelChange hr v, hstart.level.trans (b.tgtLevel_levelWritten w _), fun d => ⟨?_, ?_, ?_⟩, hbusy, hcur, ?_⟩
    · rw [hstart.die, if_pos d.isLt]
      exact Block.dieTowards_congr (b.levelWritten_die _ _ _) (b.levelWritten_ticks _ _) _
    · exact hstart.offset d d.isLt
    · rw [hstart.atTarget d d.isLt]
      simp only [Block.walksTo, Block.levelWritten_die]
    · rw [hstart.only]
      simp
  · intro due
    have h := b.rampStep_ramps
    have hdie (d : Nat) (hd : d < 4) : b.rampStep.die d = b.rampedDie d := by rw [h.die, if_pos hd]
    refine ⟨b.rampStep, fun _ => rfl, fun d => hdie d d.isLt, ?_, ?_⟩
    · refine h.out.trans (congrArg (b.out ++ ·) (List.map_congr_left fun d hd => ?_))
      obtain ⟨hd, hdue⟩ := List.mem_filter.mp hd
      rw [hdie d (List.mem_range.mp hd), Block.rampedDie, if_pos hdue]
      rfl
    · rw [h.only]
      exact ⟨rfl, rfl, rfl, rfl⟩
  · intro m worst floor shows due
    obtain ⟨hs0, hs1⟩ := b.sentinelWindow_shows d t0.isLt t1.isLt
    refine ⟨b.sentinelWindow d t0.toNat t1.toNat, fun _ => rfl, hs0, hs1, ?_, fun ⟨hstep, low, consec⟩ room => ?_,
      fun ⟨hstep, low, consec⟩ full => ?_, fun h => b.sentinelWindow_of_suspended _ _ h⟩
    · exact (congrArg (· == 1) (b.fld_sentinelWindow d _ _ (.inr rfl))).trans (b.belowFloor_windowJudged d _ _ _)
    · exact Block.sentinelWindow_of_room hstep low consec room
    · exact Block.sentinelWindow_of_ceiling hstep low consec full

end Sys2Proof.Machine
end

section
/-!
PROOFS. Start-up (R433): what a rejection keeps of the registers. It writes the registers that it keeps back in the order in
which the table lists them. So it keeps them where the table is canonical; where a table lists one twice, its last entry takes the
place of the first, which is the one that a read finds. O40 speaks of every block, and such a table refutes it.
-/
namespace Sys2Proof.Machine
open Sys2Proof

variable (b : Block)

/-! ## What a rejection keeps of a canonical table -/

/-- No key below all that a table lists is listed. -/
theorem SMap.find_of_below {α : Type} {m : SMap α} {i : Nat} (h : ∀ e ∈ m, i < e.1) : SMap.find m i = none := by
  induction m with
  | nil => rfl
  | cons e m ih =>
    obtain ⟨hi, hm⟩ := List.forall_mem_cons.mp h
    exact (if_neg hi.ne').trans (ih hm)

/-- A part of a table lists no key that the table does not list. -/
theorem SMap.find_filter_of_none {α : Type} {m : SMap α} {i : Nat} (h : SMap.find m i = none) (p : Nat × α → Bool) :
    SMap.find (m.filter p) i = none := by
  induction m with
  | nil => rfl
  | cons e m ih =>
    have hi : e.1 ≠ i := fun hi => by simp [SMap.find, hi] at h
    have hm : SMap.find m i = none := (if_neg hi).symm.trans h
    rw [List.filter_cons]
    split
    · exact (if_neg hi).trans (ih hm)
    · exact ih hm

theorem Block.word_eq_getD (a : Nat) : b.word a = ((SMap.find b.regs a).map BitVec.toNat).getD (resetWord a) := by
  unfold Block.word
  cases SMap.find b.regs a <;> rfl

/-- Written back from a table that lists each once, registers read as the table has them, and every other one as before. -/
theorem Block.word_foldl_setWord {l : SMap Word} (hl : l.Pairwise fun x y => x.1 < y.1) (a : Nat) :
    (l.foldl (fun n e => n.setWord e.1 e.2.toNat) b).word a = ((SMap.find l a).map BitVec.toNat).getD (b.word a) := by
  induction l generalizing b with
  | nil => rfl
  | cons e l ih =>
    obtain ⟨hbelow, hrest⟩ := List.pairwise_cons.mp hl
    rw [List.foldl_cons, ih _ hrest]
    by_cases ha : e.1 = a
    · subst ha
      rw [SMap.find_of_below hbelow, show SMap.find (e :: l) e.1 = some e.2 from if_pos rfl]
      exact (b.word_setWord_same _ _).trans (Nat.mod_eq_of_lt e.2.isLt)
    · rw [Block.word_setWord_other _ _ (Ne.symm ha), show SMap.find (e :: l) a = SMap.find l a from if_neg ha]

@[simp] theorem Block.writeRail_regs (d mv : Nat) : (b.writeRail d mv).regs = b.regs := rfl

@[simp] theorem Block.railsToL2_regs : b.railsToL2.regs = b.regs := by
  simp [Block.railsToL2, Block.each, List.range_succ, apply_ite Block.regs]

/-- A warm reset lists no register anew but FLT.STATUS. -/
theorem Block.word_afterReset {a : Nat} (h : SMap.find b.regs a = none) (ha : a ≠ R.FLT_STATUS) :
    (b.afterReset true false).word a = resetWord a := by
  have hpart (n : Block) (p : Nat × Word → Bool) (hn : n.regs = b.regs.filter p) : n.word a = resetWord a := by
    rw [n.word_eq_getD, hn, SMap.find_filter_of_none h]; rfl
  unfold Block.afterReset
  simp only [Bool.false_eq_true, if_false, if_true, Bool.not_true]
  split
  · exact (Block.word_setWord_other _ _ ha).trans (hpart _ _ rfl)
  · exact hpart _ _ rfl

/-- A rejection keeps the BOOT registers and the straps (R433) where the table of registers is canonical. -/
theorem Block.word_rejectReset (hb : b.tablesWf = true) {a : Nat} (ha : rejectKeeps a = true) :
    b.rejectReset.word a = b.word a := by
  simp only [Block.tablesWf, Bool.and_eq_true, decide_eq_true_eq] at hb
  obtain ⟨⟨-, hsorted⟩, -⟩ := hb
  have hstatus : a ≠ R.FLT_STATUS := by rintro rfl; revert ha; decide
  have href : a ≠ R.TIM_REF_STATUS := by rintro rfl; revert ha; decide
  have hrails (hnone : SMap.find b.regs a = none) : (b.afterReset true false).railsToL2.word a = resetWord a := by
    rw [← b.word_afterReset hnone hstatus, Block.word_eq_getD, Block.word_eq_getD, Block.railsToL2_regs]
  unfold Block.rejectReset
  generalize (b.afterReset true false).railsToL2 = n at hrails ⊢
  rw [Block.word_foldl_setWord _ (hsorted.filter _), SMap.find_filter _ _ ha, b.word_eq_getD]
  cases hfind : SMap.find b.regs a with
  | some v => rfl
  | none =>
    change (if b.refLost then n else n.raise _ _).word a = resetWord a
    split
    · exact hrails hfind
    · exact (Block.word_setWord_other _ _ href).trans (hrails hfind)

/-! ## A table that lists the straps twice -/

/-- The load of sections from slot 0, with STRAP_SLOT1 listed as 1, and again as 0. -/
def strapsListedTwice : Block :=
  { regs := [(R.PKG_STRAPS, F.PKG_STRAPS_SLOT1.put 0 1), (R.PKG_STRAPS, 0)], boot := { phase := .sections } }

/-- A read finds the first entry, and the table is not canonical. -/
theorem strapsListedTwice_slot1 :
    strapsListedTwice.fld R.PKG_STRAPS F.PKG_STRAPS_SLOT1 = 1 ∧ strapsListedTwice.tablesWf = false := by decide

/-- A read that runs out of time rejects slot 0; the boot turns to slot 1, and by then no strap names one. -/
theorem strapsListedTwice_rejected :
    (strapsListedTwice.sectionApply [] true).boot.phase = .flash ∧
      (strapsListedTwice.sectionApply [] true).fld R.PKG_STRAPS F.PKG_STRAPS_SLOT1 = 0 := by decide

/-- SECTION_APPLY takes the block to no other block than where the section takes it. -/
theorem eq_of_takes_sectionApply {b t : Block} {raw : List Byte} {timeout : Bool} (h : Takes (.sectionApply raw timeout) b t) :
    t = b.sectionApply raw timeout := by
  have hnext : (.next ⟨b.sectionApply raw timeout, []⟩ : Host.Outcome State Fault Refusal) = .next ⟨t, []⟩ := h []
  injection hnext with hstate
  exact (congrArg State.blk hstate).symm

/-- Refutes O40: a read of a section that runs out of time rejects slot 0 for slot 1, where STRAP_SLOT1 is then to name a slot 1.
The straps are kept for it in a canonical table (`Block.word_rejectReset`), and O40 does not ask for one: `strapsListedTwice`. -/
theorem not_imagesAreAppliedTrainingEndsAndBootIsDone : ¬ Obligations.ImagesAreAppliedTrainingEndsAndBootIsDone := by
  intro h
  obtain ⟨hload, -⟩ := h
  obtain ⟨-, -, -, -, -, -, hsections, -⟩ := hload strapsListedTwice
  obtain ⟨⟨t, ht, -, -, -, -, -, -, hsource⟩, -⟩ := hsections [] rfl
  rw [eq_of_takes_sectionApply ht] at hsource
  obtain ⟨hphase, hslot⟩ := strapsListedTwice_rejected
  rcases hsource with ⟨hidle, -⟩ | ⟨-, -, -, hnamed⟩
  · exact absurd (hphase.symm.trans hidle) (by decide)
  · exact hnamed hslot

end Sys2Proof.Machine
end

section
/-!
PROOFS. The layout of a control-store word (Table 5-2), and the rules that hold of the machine as a whole: what a step runs, that every
command completes, and what stands after reset.
-/
namespace Sys2Proof.Machine
open Sys2Proof

/-- Settles O9: the fields partition the 192 bits, so reading them back and laying them out again are inverse. -/
theorem microwordsDecodeAsEncoded : Obligations.MicrowordsDecodeAsEncoded := by
  refine ⟨fun m => ?_, fun w => ?_⟩
  · obtain ⟨⟩ := m
    simp (disch := omega) only [Micro.decode, Micro.encode, BitVec.extractLsb'_append_eq_of_add_le,
      BitVec.extractLsb'_append_eq_of_le, Nat.reduceSub, Nat.sub_self, BitVec.extractLsb'_eq_self]
  · simp (disch := omega) only [Micro.encode, Micro.decode, BitVec.extractLsb'_append_extractLsb'_eq_extractLsb']
    exact BitVec.extractLsb'_eq_self

/-- Settles O55: with a command waiting, a step is exec of it. -/
theorem aStepRunsTheFrontCommand : Obligations.AStepRunsTheFrontCommand := fun _ _ _ => rfl

/-- Settles O56: every arm of exec applies an effect to the block and goes on. -/
theorem everyCommandCompletes : Obligations.EveryCommandCompletes := by
  intro c s
  cases c <;> exact ⟨_, rfl⟩

/-- Settles O58, by evaluation of the reset state. -/
theorem resetLeavesTheStatedValues : Obligations.ResetLeavesTheStatedValues := by
  unfold Obligations.ResetLeavesTheStatedValues
  decide +kernel

/-- Settles O60: no table lists anything at reset. -/
theorem theTablesAreInOrderAtReset : Obligations.TheTablesAreInOrderAtReset :=
  ⟨rfl, fun _ => rfl⟩

end Sys2Proof.Machine
end

section
/-!
PROOFS. What the proofs of the chapters share: when two blocks are one, which block a command that is a register write takes the block to,
and what a change of one element leaves.
-/
namespace Sys2Proof.Machine
open Sys2Proof

variable (b : Block)

/-- Two blocks that agree in every field are one. -/
@[ext] theorem Block.ext_fields {b c : Block}
    (regs : b.regs = c.regs) (ctrs : b.ctrs = c.ctrs) (latch : b.latch = c.latch) (ticks : b.ticks = c.ticks)
    (refLost : b.refLost = c.refLost) (baseA : b.baseA = c.baseA) (baseB : b.baseB = c.baseB)
    (switchTick : b.switchTick = c.switchTick) (dies : b.dies = c.dies) (ports : b.ports = c.ports)
    (clusters : b.clusters = c.clusters) (regions : b.regions = c.regions) (engines : b.engines = c.engines)
    (rings : b.rings = c.rings) (fifos : b.fifos = c.fifos) (hostLinks : b.hostLinks = c.hostLinks) (links : b.links = c.links)
    (hbms : b.hbms = c.hbms) (slow : b.slow = c.slow) (txRings : b.txRings = c.txRings) (rxRings : b.rxRings = c.rxRings)
    (pools : b.pools = c.pools) (ringInts : b.ringInts = c.ringInts) (insts : b.insts = c.insts)
    (vfEnable : b.vfEnable = c.vfEnable) (numVfs : b.numVfs = c.numVfs) (txLast : b.txLast = c.txLast) (jobs : b.jobs = c.jobs)
    (dmaEng : b.dmaEng = c.dmaEng) (jobCount : b.jobCount = c.jobCount) (dmaLast : b.dmaLast = c.dmaLast)
    (frames : b.frames = c.frames) (nextFrame : b.nextFrame = c.nextFrame) (flt : b.flt = c.flt)
    (inflight : b.inflight = c.inflight) (lastMsg : b.lastMsg = c.lastMsg) (records : b.records = c.records)
    (locked : b.locked = c.locked) (pair : b.pair = c.pair) (chain : b.chain = c.chain) (boot : b.boot = c.boot)
    (pkgHold : b.pkgHold = c.pkgHold) (pinLow : b.pinLow = c.pinLow) (relPin : b.relPin = c.relPin)
    (strapPins : b.strapPins = c.strapPins) (fuses : b.fuses = c.fuses) (faultN : b.faultN = c.faultN) (snap : b.snap = c.snap)
    (pendSnap : b.pendSnap = c.pendSnap) (refusals : b.refusals = c.refusals) (out : b.out = c.out) (fresh : b.fresh = c.fresh) : b = c := by
  cases b; cases c
  simp only at *
  subst_vars
  rfl

/-- A command that is a register write takes the block where the write takes it, once it reaches the register. -/
theorem takes_of_write {b : Block} {c : Instr} {w : Writer} {k : Blk} {f : Block → Block} (hr : b.reaches w k = true)
    (h : ∀ q, exec c ⟨b, q⟩ = State.doing ⟨b, q⟩ fun b => b.byWrite w k f) : Takes c b (f b) := fun q => by
  rw [h q]
  exact congrArg (fun t => Host.Outcome.next (State.mk t q)) (if_pos hr)

/-- A command that takes the block to one that equals t takes it to t. -/
theorem takes_congr {b t u : Block} {c : Instr} (h : Takes c b u) (e : u = t) : Takes c b t := e ▸ h

theorem Block.die_modDie_same (d : Nat) (f : Die → Die) : (b.modDie d f).die d = f (b.die d) := by simp [Block.die_modDie]
theorem Block.die_modDie_other {d e : Nat} (f : Die → Die) (h : e ≠ d) : (b.modDie d f).die e = b.die e := by
  simp [Block.die_modDie, h]

/-- A W1C bit that is written as 1 clears (Table 0-3). -/
theorem Block.flag_storeReg_w1c {b : Block} {a : Nat} {h : RegHit} (hit : findReg a = some h) (narrow : h.desc.wide = false)
    (w : Writer) (v : Nat) {f : Fld} (hf : f ∈ h.desc.flds) (code : f.acc = .w1c) (bit : f.hi = f.lo)
    (one : f.bits.of v = 1) : (b.storeReg w a v).flag a f.bits = false := by
  rw [Block.flag, Block.fld_storeReg hit narrow w v hf, one]
  simp [Fld.after, code, bit]

end Sys2Proof.Machine
end

section
/-!
PROOFS. The address map (R518): which block owns an address, which register an offset of a block names, and O54 from these.
-/
namespace Sys2Proof.Machine
open Sys2Proof

/-- How many blocks of a type there are (Tables 18-1 to 18-4). -/
@[simp] def Blk.count : Blk → Nat
  | .pkg | .boot | .tim | .flt | .chn | .pair | .obs | .hif | .xbar => 1
  | .ins | .mac | .prt | .lay => 256
  | .lane => 1024
  | .die | .hbm | .xep | .tbl => 4
  | .rgn => 8
  | .cls => 32

/-- The bytes that a block of a type takes. -/
@[simp] def Blk.size : Blk → Nat
  | .pkg | .boot | .tim | .flt | .chn | .pair | .obs | .xbar => 0x10000
  | .hif | .die | .hbm | .xep | .tbl | .cls | .lay => 0x100000
  | .ins | .mac | .prt => 0x1000
  | .lane => 0x800
  | .rgn => 0x800000

/-- Where region G lies. -/
@[simp] def regionBase (G : Nat) : Nat := 0x4000000 + G / 2 * 0x3000000 + 0x800000 + G % 2 * 0x1000000

/-- Where block i of a type lies. -/
@[simp] def Blk.base (k : Blk) (i : Nat) : Nat :=
  match k with
  | .pkg => 0 | .boot => 0x10000 | .tim => 0x20000 | .flt => 0x30000 | .chn => 0x40000 | .pair => 0x50000 | .obs => 0x60000
  | .hif => 0x100000 | .xbar => 0x800000
  | .ins => 0x200000 + i * 0x1000
  | .lane => 0x1000000 + i / 128 * 0x200000 + i % 128 * 0x800
  | .mac => 0x1000000 + i / 32 * 0x200000 + 0x100000 + i % 32 * 0x1000
  | .die => 0x4000000 + i * 0x3000000
  | .hbm => 0x4000000 + i * 0x3000000 + 0x100000
  | .xep => 0x4000000 + i * 0x3000000 + 0x200000
  | .tbl => 0x4000000 + i * 0x3000000 + 0x300000
  | .rgn => regionBase i
  | .cls => regionBase (i / 4) + 0x800000 + i % 4 * 0x100000
  | .prt => regionBase (i / 32) + 0xC00000 + i % 32 * 0x1000
  | .lay => 2 ^ 32 + i * 0x100000

/-- An address in the window of a block decodes to the block and the offset there. -/
theorem decodeAddr_base {k : Blk} {i o : Nat} (hi : i < k.count) (ho : o < k.size) : decodeAddr (k.base i + o) = some (k, i, o) := by
  cases k <;> simp only [Blk.count, Blk.size, Blk.base, regionBase] at * <;> fun_cases decodeAddr <;>
    simp +zetaDelta only [Option.some.injEq, Prod.mk.injEq, true_and, reduceCtorEq, false_and, Bool.or_eq_true,
      Bool.and_eq_true, decide_eq_true_eq, imp_false] at * <;> omega

/-- An address that decodes lies in the window of the block it decodes to. -/
theorem base_of_decodeAddr {a : Nat} {k : Blk} {i o : Nat} (h : decodeAddr a = some (k, i, o)) :
    i < k.count ∧ o < k.size ∧ a = k.base i + o := by
  revert h
  fun_cases decodeAddr <;>
    simp +zetaDelta only [Option.some.injEq, Prod.mk.injEq, reduceCtorEq, false_imp_iff, Bool.or_eq_true,
      Bool.and_eq_true, decide_eq_true_eq, imp_false] at * <;>
    rintro ⟨rfl, hi, ho⟩ <;> simp only [Blk.count, Blk.size, Blk.base, regionBase] at * <;> omega

/-- The register that an offset names does not depend on the block's number. -/
theorem findIn_inst (k : Blk) (i o : Nat) (ds : List RegDesc) :
    findIn k i o ds = (findIn k 0 o ds).map fun h => { h with inst := i } := by
  induction ds with
  | nil => rfl
  | cons d ds ih =>
    unfold findIn
    cases d.locate o with
    | none => exact ih
    | some x => rfl

/-- The register at an offset of block i is the one at that offset of block 0. -/
theorem findReg_base {k : Blk} {a i o x y n : Nat} {ds : RegDesc} (ha : a = k.base i + o) (hi : i < k.count) (ho : o < k.size)
    (hit : findIn k 0 o (blkRegs k) = some ⟨k, 0, o, ds, x, y, n⟩) : findReg a = some ⟨k, i, o, ds, x, y, n⟩ := by
  unfold findReg
  simp only [ha, decodeAddr_base hi ho]
  rw [findIn_inst, hit]
  rfl

/-- Settles O54: decoding an address and laying out a block's window are inverse. -/
theorem addressesDecodeToTheirBlocks : Obligations.AddressesDecodeToTheirBlocks := by
  refine ⟨fun k i o hi ho => ?_, fun a k i o h => ?_, fun a hout => ?_⟩
  · have hbase := @decodeAddr_base k i o
    cases k <;> exact hbase hi ho
  · have hbase := base_of_decodeAddr h
    cases k <;> exact hbase
  · have hnone : decodeAddr a = none := by
      rw [Option.eq_none_iff_forall_ne_some]
      rintro ⟨k, i, o⟩ h
      obtain ⟨hi, ho, ha⟩ := base_of_decodeAddr h
      have hwindow := hout k i o
      cases k <;> exact hwindow hi ho ha
    exact ⟨hnone, by simp [findReg, hnone]⟩

end Sys2Proof.Machine
end

section
/-!
PROOFS. AVS transactions and supply sag (R57, R60, R61, R65, R66, R73 to R75): what the read-back, the answer of the regulator and its
failures leave, what a sag warning shows and when it is over; and O2 from these.
-/
namespace Sys2Proof.Machine
open Sys2Proof

variable (b : Block)

/-! ## The read-back (R61, Table 2-7) -/

/-- The read-back is further from the voltage commanded than 10 mV. -/
def Block.readFar (b : Block) (d mv : Nat) : Prop := (b.die d).cmdMv + 10 < mv ∨ mv + 10 < (b.die d).cmdMv

@[simp] theorem Block.readBack_die (d mv e : Nat) : (b.readBack d mv).die e = b.die e := by
  unfold Block.readBack; dsimp only; split <;> simp -implicitDefEqProofs
@[simp] theorem Block.readBack_out (d mv : Nat) : (b.readBack d mv).out = b.out := by
  unfold Block.readBack; dsimp only; split <;> simp -implicitDefEqProofs
@[simp] theorem Block.readBack_ctrs (d mv : Nat) : (b.readBack d mv).ctrs = b.ctrs := by
  unfold Block.readBack; dsimp only; split <;> simp -implicitDefEqProofs

theorem Block.readBack_rail (d : Nat) {mv : Nat} (h : mv < 1024) :
    (b.readBack d mv).fld (R.DIE_AVS_STATUS d) F.DIE_AVS_STATUS_RAIL_MV = mv := by
  have hmod : mv % 1024 = mv := Nat.mod_eq_of_lt h
  unfold Block.readBack
  dsimp only
  split
  · simp -implicitDefEqProofs [Block.raise, F.DIE_AVS_STATUS_RAIL_MV, F.DIE_AVS_STATUS_READBACK_ERR, Block.fld_setFld_same,
      Block.fld_setFld_apart, hmod]
  · simp -implicitDefEqProofs [F.DIE_AVS_STATUS_RAIL_MV, Block.fld_setFld_same, hmod]

theorem Block.readBack_of_far {d mv : Nat} (far : b.readFar d mv) :
    (b.readBack d mv).flag (R.DIE_AVS_STATUS d) F.DIE_AVS_STATUS_READBACK_ERR = true ∧
      (b.readBack d mv).inflight = (b.send 6 d 0x12 0).inflight := by
  have hfar : mv > (b.die d).cmdMv + 10 ∨ (b.die d).cmdMv > mv + 10 := far
  simp -implicitDefEqProofs only [Block.readBack, Block.setFld_die, hfar, if_true, Block.send_flag, Block.send_inflight,
    Block.raise_inflight, Block.setFld_inflight, Block.raise_ticks, Block.setFld_ticks, and_true]
  exact Block.flag_raise _ _ _ (by decide) (by decide)

theorem Block.readBack_of_near {d mv : Nat} (near : ¬b.readFar d mv) : (b.readBack d mv).inflight = b.inflight := by
  have hnear : ¬(mv > (b.die d).cmdMv + 10 ∨ (b.die d).cmdMv > mv + 10) := near
  simp -implicitDefEqProofs only [Block.readBack, Block.setFld_die, hnear, if_false, Block.setFld_inflight]

/-- Die d's master counts windows anew. -/
def Block.countsAnew (b : Block) (d : Nat) : Block := b.modDie d fun x => { x with settling := false, below := 0, above := 0 }

/-- SETTLE_END once SETTLE has passed: the counts start anew, and the rail is read back. -/
theorem Block.settleEnd_of_settled {d : Nat} (mv : Nat) (h : b.settled d = true) :
    b.settleEnd d mv =
      ((b.countsAnew d).readBack d mv).setFld (R.DIE_AVS_STATUS d) F.DIE_AVS_STATUS_OFFSET_STEPS
        ((((b.countsAnew d).die d).cmdMv - levelMv (b.countsAnew d).curLevel) / 5) := by
  simp only [Block.settleEnd, h, Bool.not_true, Bool.false_eq_true, if_false, Block.countsAnew]

/-- OFFSET_STEPS, written, leaves the other fields of AVS_STATUS. -/
theorem Block.fld_setOffset (d v : Nat) {g : Bf} (hg : g.lo ≤ g.hi) (h : 11 < g.lo ∨ g.hi < 8) :
    (b.setFld (R.DIE_AVS_STATUS d) F.DIE_AVS_STATUS_OFFSET_STEPS v).fld (R.DIE_AVS_STATUS d) g = b.fld (R.DIE_AVS_STATUS d) g :=
  Block.fld_setFld_apart _ _ _ _ _ (by decide) (by decide) hg h

/-! ## The answers of the regulator (R65, R66) -/

/-- The end of a walk touches neither the dies nor what has left the block. -/
theorem Block.walkEnd_only : b.walkEnd = { b with regs := b.walkEnd.regs, records := b.walkEnd.records } := by
  unfold Block.walkEnd
  split
  · rfl
  · split
    · rfl
    · dsimp only
      split <;> rfl

@[simp] theorem Block.walkEnd_die (d : Nat) : b.walkEnd.die d = b.die d := by rw [Block.walkEnd_only]; rfl
@[simp] theorem Block.walkEnd_inflight : b.walkEnd.inflight = b.inflight := by rw [Block.walkEnd_only]
@[simp] theorem Block.walkEnd_ticks : b.walkEnd.ticks = b.ticks := by rw [Block.walkEnd_only]
@[simp] theorem Block.walkEnd_out : b.walkEnd.out = b.out := by rw [Block.walkEnd_only]

/-- The end of a walk leaves RAIL_AT_TARGET of each die. -/
theorem Block.walkEnd_atTarget {d : Nat} (hd : d < 4) :
    b.walkEnd.fld R.PKG_LEVEL_STATUS ⟨d, d⟩ = b.fld R.PKG_LEVEL_STATUS ⟨d, d⟩ := by
  unfold Block.walkEnd
  split
  · rfl
  · split
    · rfl
    · dsimp only
      split
      · exact b.levelStatus_levelTaken_rail _ hd
      · exact Block.fld_setFld_apart _ _ _ _ _ (by decide) (by decide) le_rfl (.inr (by
          simp only [F.PKG_LEVEL_STATUS_BUSY]; omega))

/-- A rail of die d that has arrived where it walks to. -/
def Block.arrives (b : Block) (d : Nat) : Bool := (b.die d).walking && (b.die d).cmdMv == (b.die d).target

/-- The rail of die d stands where it was last sent. -/
def Block.railStands (b : Block) (d : Nat) : Block :=
  let there := (b.die d).cmdMv == (b.die d).target
  b.modDie d fun x =>
    { x with writing := false, confMv := x.cmdMv, settleAt := b.ticks + b.settleNs d, walking := x.walking && !there,
             sagMv := if there then x.target else x.sagMv }

theorem Block.railConfirmed_eq (d : Nat) :
    b.railConfirmed d =
      if b.arrives d then ((b.railStands d).setFld R.PKG_LEVEL_STATUS ⟨d, d⟩ 1).walkEnd else b.railStands d := rfl

theorem Block.railStands_die (d e : Nat) :
    (b.railStands d).die e =
      if e = d then
        { b.die d with writing := false, confMv := (b.die d).cmdMv, settleAt := b.ticks + b.settleNs d,
                       walking := (b.die d).walking && (b.die d).cmdMv != (b.die d).target,
                       sagMv := if (b.die d).cmdMv = (b.die d).target then (b.die d).target else (b.die d).sagMv }
      else b.die e := by
  simp [Block.railStands, Block.die_modDie, bne]

@[simp] theorem Block.railStands_out (d : Nat) : (b.railStands d).out = b.out := rfl
@[simp] theorem Block.railStands_fld (d a : Nat) (g : Bf) : (b.railStands d).fld a g = b.fld a g := rfl
@[simp] theorem Block.railStands_flag (d a : Nat) (g : Bf) : (b.railStands d).flag a g = b.flag a g := rfl

theorem Block.railConfirmed_die (d e : Nat) : (b.railConfirmed d).die e = (b.railStands d).die e := by
  rw [Block.railConfirmed_eq]; split <;> simp

theorem Block.railConfirmed_out (d : Nat) : (b.railConfirmed d).out = b.out := by
  rw [Block.railConfirmed_eq]; split <;> simp

/-- RAIL_AT_TARGET of die d, set, shows 1 and leaves every other field of LEVEL_STATUS. -/
theorem Block.fld_atTarget_same {d : Nat} (hd : d < 4) : (b.setFld R.PKG_LEVEL_STATUS ⟨d, d⟩ 1).fld R.PKG_LEVEL_STATUS ⟨d, d⟩ = 1 := by
  rw [Block.fld_setFld_same _ _ _ _ (by simp only; omega) le_rfl, Nat.add_sub_cancel_left]
  rfl

theorem Block.fld_atTarget_apart {d : Nat} (hd : d < 4) {g : Bf} (hg : g.lo ≤ g.hi) (h : d < g.lo ∨ g.hi < d) :
    (b.setFld R.PKG_LEVEL_STATUS ⟨d, d⟩ 1).fld R.PKG_LEVEL_STATUS g = b.fld R.PKG_LEVEL_STATUS g :=
  Block.fld_setFld_apart _ _ _ _ _ (by simp only; omega) le_rfl hg h

/-- A rail that has arrived shows RAIL_AT_TARGET. -/
theorem Block.railConfirmed_atTarget {d : Nat} (hd : d < 4) (h : b.arrives d = true) :
    (b.railConfirmed d).fld R.PKG_LEVEL_STATUS ⟨d, d⟩ = 1 := by
  rw [Block.railConfirmed_eq, if_pos h, Block.walkEnd_atTarget _ hd, Block.fld_atTarget_same _ hd]

/-- The last rail that arrives ends the level change: BUSY clears, and CURRENT takes the level (R57 to R59). -/
theorem Block.railConfirmed_last {d : Nat} (hd : d < 4) (h : b.arrives d = true)
    (others : ∀ e : Fin 4, e.val ≠ d → (b.die e).walking = false ∧ b.fld R.PKG_LEVEL_STATUS ⟨e, e⟩ = 1)
    (busy : b.flag R.PKG_LEVEL_STATUS F.PKG_LEVEL_STATUS_BUSY = true) :
    (b.railConfirmed d).flag R.PKG_LEVEL_STATUS F.PKG_LEVEL_STATUS_BUSY = false ∧ (b.railConfirmed d).curLevel = b.tgtLevel := by
  obtain ⟨-, hthere⟩ := Bool.and_eq_true_iff.mp h
  rw [Block.railConfirmed_eq, if_pos h, Block.walkEnd_of_arrived]
  · refine ⟨Block.levelTaken_busy _ _, (Block.levelTaken_curLevel _ (Bf.of_lt _ _)).trans ?_⟩
    exact Block.fld_setFld_other _ _ _ _ levelStatus_ne_levelCtrl.symm
  · rw [List.any_eq_false]
    intro e he
    rw [Block.setFld_die, Block.railStands_die]
    by_cases hed : e = d
    · simp [hed, beq_iff_eq.mp hthere]
    · simp [hed, (others ⟨e, List.mem_range.mp he⟩ hed).1]
  · rw [Block.flag, Block.fld_atTarget_apart _ hd (by decide) (.inl (by simp only [F.PKG_LEVEL_STATUS_BUSY]; omega))]
    exact busy
  · intro e he
    by_cases hed : e = d
    · rw [hed, Block.fld_atTarget_same _ hd]
    · rw [Block.fld_atTarget_apart _ hd le_rfl (by simp only; omega)]
      exact (others ⟨e, he⟩ hed).2

@[simp] theorem Block.rampErr_inflight (d : Nat) : (b.rampErr d).inflight = b.inflight := by
  unfold Block.rampErr; dsimp only; split <;> simp -implicitDefEqProofs
@[simp] theorem Block.rampErr_ticks (d : Nat) : (b.rampErr d).ticks = b.ticks := by
  unfold Block.rampErr; dsimp only; split <;> simp -implicitDefEqProofs

/-- A rail that a bus error stops walks no longer (R59). -/
theorem Block.rampErr_die (d : Nat) : (b.rampErr d).die d = { b.die d with walking := false } := by
  unfold Block.rampErr
  cases h : (b.die d).walking
  · rw [if_pos (by rfl), ← h]
  · simp -implicitDefEqProofs [Block.die_modDie]

/-- The third failure stops the rail at its last confirmed voltage, and tells so (R66). -/
theorem Block.busErr_tells (d : Nat) :
    (b.busErr d).flag (R.DIE_AVS_STATUS d) F.DIE_AVS_STATUS_BUS_ERR = true ∧
      (b.busErr d).die d = { b.die d with avsFails := 0, settling := false, writing := false, walking := false,
                                          cmdMv := (b.die d).confMv, below := 0, above := 0 } ∧
      (b.busErr d).inflight = (b.send 6 d 0x12 0).inflight := by
  unfold Block.busErr
  refine ⟨(Block.send_flag ..).trans (Block.flag_raise _ _ _ (by decide) (by decide)), ?_, ?_⟩
  · simp -implicitDefEqProofs [Block.rampErr_die, Block.die_modDie]
  · simp -implicitDefEqProofs

/-! ## Registers of a die -/

/-- AVS_STATUS of die d in the map (Table 2-8). -/
theorem findReg_avsStatus (d : Fin 4) :
    findReg (R.DIE_AVS_STATUS d) = some ⟨.die, d, 0x2020, reg1 0x2020 [⟨25, 16, .ro, 765⟩, ⟨11, 8, .ro, 0⟩, ⟨4, 4, .ro, 0⟩,
      ⟨3, 3, .w1c, 0⟩, ⟨2, 2, .w1c, 0⟩, ⟨0, 0, .ro, 0⟩], 0, 0, 0⟩ :=
  findReg_base rfl d.isLt (by decide) (by decide)

/-- SAG_STATUS of die d in the map (Table 2-15). -/
theorem findReg_sagStatus (d : Fin 4) :
    findReg (R.DIE_SAG_STATUS d) = some ⟨.die, d, 0x2044, reg1 0x2044 [⟨25, 16, .ro, 1023⟩, ⟨2, 2, .wo, 0⟩,
      ⟨1, 1, .ro, 0⟩, ⟨0, 0, .w1c, 0⟩], 0, 0, 0⟩ :=
  findReg_base rfl d.isLt (by decide) (by decide)

theorem sentTempo_ne_sentMargin (G : Nat) : R.RGN_SENT_TEMPO G ≠ R.RGN_SENT_MARGIN G := (sentMargin_ne_sentTempo G G).symm

/-- SENT_CLR takes both minima of a region back to all ones, and changes nothing else (Table 2-11). -/
theorem Block.sentClr_clears {G v : Nat} (h : bitOf v 0 = true) :
    (b.sentClr G v).fld (R.RGN_SENT_TEMPO G) F.RGN_SENT_TEMPO_TEMPO_MIN = 0xFFF ∧
      (b.sentClr G v).fld (R.RGN_SENT_MARGIN G) F.RGN_SENT_MARGIN_MARGIN_MIN = 0x7FF := by
  simp only [Block.sentClr, h, if_true]
  constructor
  · rw [Block.fld_setFld_other _ _ _ _ (sentTempo_ne_sentMargin G), Block.fld_setFld_same _ _ _ _ (by decide) (by decide)]
    decide
  · rw [Block.fld_setFld_same _ _ _ _ (by decide) (by decide)]
    decide

theorem Block.word_setFld_other {a c : Nat} (f : Bf) (v : Nat) (h : c ≠ a) : (b.setFld a f v).word c = b.word c :=
  b.word_setWord_other _ h

theorem Block.sentClr_only (G v : Nat) : b.sentClr G v = { b with regs := (b.sentClr G v).regs } := by
  unfold Block.sentClr
  split
  · ext1 <;> simp -implicitDefEqProofs
  · rfl

theorem Block.word_sentClr_other (G v : Nat) {a : Nat} (ht : a ≠ R.RGN_SENT_TEMPO G) (hm : a ≠ R.RGN_SENT_MARGIN G) :
    (b.sentClr G v).word a = b.word a := by
  unfold Block.sentClr
  split
  · rw [Block.word_setFld_other _ _ _ hm, Block.word_setFld_other _ _ _ ht]
  · rfl

/-! ## Sag warnings (R73 to R76) -/

/-- A source of cause 3 that rises changes its register, and sends a message at most. -/
theorem Block.raising_tells (n : Nat) (f : Block → Block) :
    (∀ a, (b.raising n f).word a = (f b).word a) ∧ (∃ l, (b.raising n f).out = (f b).out ++ l) ∧
      (b.raising n f).inflight = (f b).inflight ∧ (b.raising n f).ticks = (f b).ticks := by
  unfold Block.raising
  dsimp only
  split
  · refine ⟨fun a => ?_, ⟨_, Block.msix_out _ _ _⟩, ?_, ?_⟩ <;> simp [Block.sendCause]
  · exact ⟨fun _ => rfl, ⟨[], by simp⟩, rfl, rfl⟩

section
variable (d : Nat)

/-- A sighting of mv of die d leaves every register but SAG_STATUS of d. -/
theorem Block.word_seeMv_other (mv : Nat) {a : Nat} (h : a ≠ R.DIE_SAG_STATUS d) : (b.seeMv d mv).word a = b.word a :=
  b.word_setFld_other _ _ h

@[simp] theorem Block.seeMv_belowPct (mv v pct : Nat) : (b.seeMv d mv).belowPct d v pct = b.belowPct d v pct := by
  unfold Block.belowPct Block.sagRef
  rw [Block.seeMv, Block.setFld_die]

theorem sagCfg_ne_sagStatus : R.DIE_SAG_CFG d ≠ R.DIE_SAG_STATUS d := by
  simp only [R.DIE_SAG_CFG, R.DIE_SAG_STATUS, dieBase]; omega

/-- MIN_MV keeps the least voltage seen. -/
theorem Block.seeMv_min (mv : Nat) :
    (b.seeMv d mv).fld (R.DIE_SAG_STATUS d) F.DIE_SAG_STATUS_MIN_MV =
      min mv (b.fld (R.DIE_SAG_STATUS d) F.DIE_SAG_STATUS_MIN_MV) :=
  b.fld_minFld_same _ _ _ (by decide) (by decide)

/-- A rail above its threshold warns no longer, and nothing is sent (Table 2-15). -/
theorem Block.sagWarn_of_above {mv : Nat} (h : b.belowPct d mv (b.fld (R.DIE_SAG_CFG d) F.DIE_SAG_CFG_WARN_PCT) = false) :
    b.sagWarn d mv = (b.seeMv d mv).lower (R.DIE_SAG_STATUS d) F.DIE_SAG_STATUS_WARN_ACTIVE := by
  have hpct : (b.seeMv d mv).fld (R.DIE_SAG_CFG d) F.DIE_SAG_CFG_WARN_PCT = b.fld (R.DIE_SAG_CFG d) F.DIE_SAG_CFG_WARN_PCT :=
    Block.fld_setFld_other _ _ _ _ (sagCfg_ne_sagStatus d)
  simp only [Block.sagWarn, hpct, Block.seeMv_belowPct, h, Bool.not_false, if_true]

/-- What a rail below its threshold leaves before the pin falls and the message goes out. -/
def Block.sagSeen (b : Block) (d mv : Nat) : Block :=
  ((b.seeMv d mv).raising 3 fun b => b.raise (R.DIE_SAG_STATUS d) F.DIE_SAG_STATUS_WARN_SEEN).raise (R.DIE_SAG_STATUS d)
    F.DIE_SAG_STATUS_WARN_ACTIVE

theorem Block.sagWarn_of_below {mv : Nat} (h : b.belowPct d mv (b.fld (R.DIE_SAG_CFG d) F.DIE_SAG_CFG_WARN_PCT) = true) :
    b.sagWarn d mv = ((b.sagSeen d mv).emit (.pin "SAG_WARN_N" true)).send 6 d 0x13 0 := by
  have hpct : (b.seeMv d mv).fld (R.DIE_SAG_CFG d) F.DIE_SAG_CFG_WARN_PCT = b.fld (R.DIE_SAG_CFG d) F.DIE_SAG_CFG_WARN_PCT :=
    Block.fld_setFld_other _ _ _ _ (sagCfg_ne_sagStatus d)
  simp only [Block.sagWarn, hpct, Block.seeMv_belowPct, h, Bool.not_true, Bool.false_eq_true, if_false, Block.sagSeen]

theorem Block.fld_of_word {b c : Block} {a : Nat} (h : c.word a = b.word a) (g : Bf) : c.fld a g = b.fld a g :=
  congrArg g.of h

theorem Block.sagSeen_shows (mv : Nat) :
    (b.sagSeen d mv).fld (R.DIE_SAG_STATUS d) F.DIE_SAG_STATUS_MIN_MV =
        min mv (b.fld (R.DIE_SAG_STATUS d) F.DIE_SAG_STATUS_MIN_MV) ∧
      (b.sagSeen d mv).flag (R.DIE_SAG_STATUS d) F.DIE_SAG_STATUS_WARN_SEEN = true ∧
      (b.sagSeen d mv).flag (R.DIE_SAG_STATUS d) F.DIE_SAG_STATUS_WARN_ACTIVE = true ∧
      (∃ l, (b.sagSeen d mv).out = b.out ++ l) ∧ (b.sagSeen d mv).inflight = b.inflight ∧ (b.sagSeen d mv).ticks = b.ticks ∧
      ∀ a, a ≠ R.DIE_SAG_STATUS d → (b.sagSeen d mv).word a = b.word a := by
  obtain ⟨hword, ⟨l, hout⟩, hinf, hticks⟩ :=
    (b.seeMv d mv).raising_tells 3 fun b => b.raise (R.DIE_SAG_STATUS d) F.DIE_SAG_STATUS_WARN_SEEN
  unfold Block.sagSeen
  generalize (b.seeMv d mv).raising 3 _ = c at hword hout hinf hticks ⊢
  refine ⟨?_, ?_, Block.flag_raise _ _ _ (by decide) (by decide), ⟨l, ?_⟩, ?_, ?_, fun a ha => ?_⟩
  · rw [Block.raise, Block.fld_setFld_apart _ _ _ _ _ (by decide) (by decide) (by decide) (by decide),
      Block.fld_of_word (hword _), Block.raise, Block.fld_setFld_apart _ _ _ _ _ (by decide) (by decide) (by decide) (by decide),
      Block.seeMv_min]
  · rw [Block.flag, Block.raise, Block.fld_setFld_apart _ _ _ _ _ (by decide) (by decide) (by decide) (by decide),
      Block.fld_of_word (hword _)]
    exact Block.flag_raise _ _ _ (by decide) (by decide)
  · rw [Block.raise_out, hout, Block.raise_out, Block.seeMv, Block.setFld_out]
  · rw [Block.raise_inflight, hinf, Block.raise_inflight, Block.seeMv, Block.setFld_inflight]
  · rw [Block.raise_ticks, hticks, Block.raise_ticks, Block.seeMv, Block.setFld_ticks]
  · rw [Block.raise, Block.word_setFld_other _ _ _ ha, hword, Block.raise, Block.word_setFld_other _ _ _ ha,
      b.word_seeMv_other d mv ha]

end

/-- The warnings of the dies below n have ended. -/
def Block.warningsEnd (b : Block) (n : Nat) : Block :=
  b.each n fun b d => b.lower (R.DIE_SAG_STATUS d) F.DIE_SAG_STATUS_WARN_ACTIVE

theorem sagStatus_ne {d e : Nat} (h : d ≠ e) : R.DIE_SAG_STATUS d ≠ R.DIE_SAG_STATUS e := by
  simp only [R.DIE_SAG_STATUS, dieBase]; omega

theorem Block.lower_of_regs {b c : Block} (h : c = { b with regs := c.regs }) (a : Nat) (f : Bf) :
    c.lower a f = { b with regs := (c.lower a f).regs } := by
  generalize c.regs = r at h
  rw [h]
  rfl

theorem Block.warningsEnd_lowers (n : Nat) :
    (∀ d < n, (b.warningsEnd n).flag (R.DIE_SAG_STATUS d) F.DIE_SAG_STATUS_WARN_ACTIVE = false) ∧
      b.warningsEnd n = { b with regs := (b.warningsEnd n).regs } ∧
      ∀ a, (∀ d < n, a ≠ R.DIE_SAG_STATUS d) → (b.warningsEnd n).word a = b.word a := by
  induction n with
  | zero => exact ⟨fun _ h => absurd h (Nat.not_lt_zero _), rfl, fun _ _ => rfl⟩
  | succ n ih =>
    obtain ⟨hlow, honly, hword⟩ := ih
    have hstep : b.warningsEnd (n + 1) = (b.warningsEnd n).lower (R.DIE_SAG_STATUS n) F.DIE_SAG_STATUS_WARN_ACTIVE :=
      b.each_succ n _
    rw [hstep]
    refine ⟨fun d hd => ?_, ?_, fun a ha => ?_⟩
    · by_cases hdn : d = n
      · subst hdn
        exact Block.flag_lower _ _ _ (by decide) (by decide)
      · rw [Block.flag, Block.lower, Block.fld_setFld_other _ _ _ _ (sagStatus_ne hdn)]
        exact hlow d (by omega)
    · exact Block.lower_of_regs honly _ _
    · rw [Block.lower, Block.word_setFld_other _ _ _ (ha n (Nat.lt_succ_self n))]
      exact hword a fun d hd => ha d (Nat.lt_succ_of_lt hd)

/-- A change of the registers, told outside, changes nothing else. -/
theorem Block.emit_of_regs {b c : Block} (h : c = { b with regs := c.regs }) (o : Output) :
    c.emit o = { b with regs := (c.emit o).regs, out := b.out ++ [o] } := by
  generalize c.regs = r at h
  rw [h]
  rfl

theorem Block.sagWarnRelease_of_apart (h : b.pkgHold ≠ .sag) :
    b.sagWarnRelease = (b.warningsEnd 4).emit (.pin "SAG_WARN_N" false) := by
  have hne : (b.pkgHold == .sag) = false := by simpa using h
  simp only [Block.sagWarnRelease, hne, Bool.false_eq_true, if_false, Block.warningsEnd]

/-! ## The commands -/

/-- Settles O2, from what the read-back, the answers of the regulator, the sightings of the rail and the writes leave. -/
theorem avsReadBackAndSagWarnings : Obligations.AvsReadBackAndSagWarnings := by
  refine ⟨⟨fun b d mv hset hwr hat => ?_, fun b d hwr => ?_, fun b d hwr => ?_, fun b d => fun _ => rfl, fun b d mv => ?_,
    fun b d r hr => ⟨fun hfew => ?_, fun hmany => ?_⟩, fun b w d v hreach hbus hone => ?_⟩,
    fun b G v hreach => ?_, fun b d mv => ?_, fun b hsag => ?_, fun b hsag => ?_, fun b w d v hreach hclr => ?_⟩
  · have hs : b.settled d = true := by simp [Block.settled, hset, hwr, hat]
    refine ⟨_, takes_congr (fun _ => rfl) (b.settleEnd_of_settled _ hs), ?_⟩
    beta_reduce
    intro far
    have hdie : (b.countsAnew d).die d = { b.die d with settling := false, below := 0, above := 0 } := b.die_modDie_same _ _
    have hlevel : (b.countsAnew d).curLevel = b.curLevel := b.modDie_fld ..
    generalize hc : b.countsAnew d = c at hdie hlevel ⊢
    have hcmd : (c.die d).cmdMv = (b.die d).cmdMv := by rw [hdie]
    have hinf : c.inflight = b.inflight := by rw [← hc]; rfl
    have hticks : c.ticks = b.ticks := by rw [← hc]; rfl
    refine ⟨?_, ?_, ?_, fun hfar => ⟨?_, ?_⟩, fun hnear => ?_, ?_, ?_⟩
    · simpa only [Block.setFld_die, Block.readBack_die] using hdie
    · exact (Block.fld_setOffset _ _ _ (by decide) (by decide)).trans (c.readBack_rail d mv.isLt)
    · rw [hcmd, hlevel]
      exact Block.fld_setFld_same _ _ _ _ (by decide) (by decide)
    · have hfar' : c.readFar d mv.toNat := by rw [Block.readFar, hcmd]; exact hfar
      exact (congrArg (· == 1) (Block.fld_setOffset _ _ _ (by decide) (by decide))).trans (c.readBack_of_far hfar').1
    · have hfar' : c.readFar d mv.toNat := by rw [Block.readFar, hcmd]; exact hfar
      rw [Block.setFld_inflight, (c.readBack_of_far hfar').2, Block.send_inflight, Block.send_inflight, hinf, hticks]
    · have hnear' : ¬c.readFar d mv.toNat := by rw [Block.readFar, hcmd]; exact hnear
      rw [Block.setFld_inflight, c.readBack_of_near hnear', hinf]
    · rw [Block.setFld_out, Block.readBack_out, ← hc]; rfl
    · rw [Block.setFld_ctrs, Block.readBack_ctrs, ← hc]; rfl
  · have h : b.avsDone d .ok = b.avsAnswered d := by simp [Block.avsDone, hwr]
    exact takes_congr (fun _ => rfl) h
  · intro x
    have h : b.avsDone d .ok = (b.avsAnswered d).railConfirmed d := by simp [Block.avsDone, hwr]
    have hdie : (b.avsAnswered d).die d = { x with avsFails := 0 } := b.die_modDie_same _ _
    have hat : (b.avsAnswered d).arrives d = (x.walking && x.cmdMv == x.target) := by simp only [Block.arrives, hdie]
    refine ⟨_, takes_congr (fun _ => rfl) h, ?_, fun e he => ?_, ?_, fun hwalk hthere => ⟨?_, fun others busy => ?_⟩⟩
    · rw [Block.railConfirmed_die, Block.railStands_die, if_pos rfl, hdie]
      rfl
    · have hne : e.val ≠ d := fun h => he (Fin.ext h)
      rw [Block.railConfirmed_die, Block.railStands_die, if_neg hne]
      exact b.die_modDie_other _ hne
    · exact Block.railConfirmed_out _ _
    · exact Block.railConfirmed_atTarget _ d.isLt (by simp [hat, hwalk, hthere])
    · refine Block.railConfirmed_last _ d.isLt (by simp [hat, hwalk, hthere]) (fun e he => ?_) busy
      rw [Block.avsAnswered, b.die_modDie_other _ he]
      exact others e fun h => he (congrArg Fin.val h)
  · refine ⟨(b.avsAnswered d).readBack d mv.toNat, fun _ => rfl, ?_, Block.readBack_rail _ _ mv.isLt⟩
    rw [Block.readBack_die, Block.avsAnswered, Block.die_modDie_same]
  · have h : b.avsDone d r = b.avsRetry d := by rcases hr with rfl | rfl <;> simp [Block.avsDone, hfew]
    refine takes_congr (fun _ => rfl) (h.trans ?_)
    simp only [Block.avsRetry, Block.die_modDie_same]
  · have h : b.avsDone d r = b.busErr d := by
      rcases hr with rfl | rfl <;> simp [Block.avsDone, Nat.not_lt.mpr hmany]
    obtain ⟨hflag, hdie, hinf⟩ := b.busErr_tells d
    refine ⟨_, takes_congr (fun _ => rfl) h, hflag, ?_⟩
    rw [hdie]
    exact ⟨rfl, rfl, rfl, rfl, rfl, hinf⟩
  · have hflag : (b.storeReg w (R.DIE_AVS_STATUS d) v.toNat).flag (R.DIE_AVS_STATUS d) F.DIE_AVS_STATUS_BUS_ERR = false :=
      Block.flag_storeReg_w1c (findReg_avsStatus d) rfl w _ (f := ⟨3, 3, .w1c, 0⟩) (by simp [reg1]) rfl rfl hone
    have h : b.avsBusErrClear w d v.toNat =
        (b.storeReg w (R.DIE_AVS_STATUS d) v.toNat).modDie d fun x => { x with below := 0, above := 0 } := by
      simp only [Block.avsBusErrClear, hbus, hflag, Bool.not_false, Bool.and_true, if_true]
    refine ⟨_, takes_congr (takes_of_write hreach fun _ => rfl) h, ?_, ?_, fun a ha => ?_⟩
    · exact (Block.modDie_flag ..).trans hflag
    · rw [Block.die_modDie_same, Block.storeReg_die]
    · exact (Block.modDie_word ..).trans (b.word_storeReg_other w _ ha)
  · refine ⟨b.sentClr G v.toNat, takes_of_write hreach fun _ => rfl, fun h => b.sentClr_clears h, fun h => ?_, fun a ht hm => ?_, ?_⟩
    · simp only [Block.sentClr, h, Bool.false_eq_true, if_false]
    · exact b.word_sentClr_other G _ ht hm
    · exact b.sentClr_only G _
  · intro warns
    refine ⟨b.sagWarn d mv.toNat, fun _ => rfl, ?_⟩
    cases hp : b.belowPct d mv.toNat (b.fld (R.DIE_SAG_CFG d) F.DIE_SAG_CFG_WARN_PCT) with
    | true =>
      have hwarns : warns := of_decide_eq_true hp
      rw [b.sagWarn_of_below d hp]
      obtain ⟨hmin, hseen, hactive, ⟨l, hout⟩, hinf, hticks, hword⟩ := b.sagSeen_shows d mv.toNat
      refine ⟨hmin, fun _ => ⟨hseen, hactive, ⟨l, ?_⟩, ?_⟩, fun h => absurd hwarns h, hword⟩
      · rw [Block.send_out, Block.emit_out, hout]
      · rw [Block.send_inflight, Block.send_inflight, Block.emit_inflight, Block.emit_ticks, hinf, hticks]
    | false =>
      have hquiet : ¬warns := of_decide_eq_false hp
      rw [b.sagWarn_of_above d hp]
      refine ⟨?_, fun h => absurd h hquiet, fun _ => ⟨Block.flag_lower _ _ _ (by decide) (by decide), ?_, ?_⟩, fun a ha => ?_⟩
      · rw [Block.lower, Block.fld_setFld_apart _ _ _ _ _ (by decide) (by decide) (by decide) (by decide), Block.seeMv_min]
      · rw [Block.lower_out, Block.seeMv, Block.setFld_out]
      · rw [Block.lower_inflight, Block.seeMv, Block.setFld_inflight]
      · rw [Block.lower, Block.word_setFld_other _ _ _ ha, b.word_seeMv_other d _ ha]
  · have h : b.sagWarnRelease = b := by simp [Block.sagWarnRelease, hsag]
    exact takes_congr (fun _ => rfl) h
  · obtain ⟨hlow, honly, hword⟩ := b.warningsEnd_lowers 4
    refine ⟨_, takes_congr (fun _ => rfl) (b.sagWarnRelease_of_apart hsag), fun d => ?_, Block.emit_of_regs honly _, fun a ha => ?_⟩
    · rw [Block.emit_flag]
      exact hlow d d.isLt
    · rw [Block.emit_word]
      exact hword a fun d hd => ha ⟨d, hd⟩
  · have h : b.sagClrMin w d v.toNat =
        (b.storeReg w (R.DIE_SAG_STATUS d) v.toNat).setFld (R.DIE_SAG_STATUS d) F.DIE_SAG_STATUS_MIN_MV 0x3FF := by
      simp only [Block.sagClrMin, hclr, if_true]
    refine ⟨_, takes_congr (takes_of_write hreach fun _ => rfl) h, ?_, fun hone => ?_, fun a ha => ?_⟩
    · exact Block.fld_setFld_same _ _ _ _ (by decide) (by decide)
    · rw [Block.flag, Block.fld_setFld_apart _ _ _ _ _ (by decide) (by decide) (by decide) (by decide)]
      exact Block.flag_storeReg_w1c (findReg_sagStatus d) rfl w _ (f := ⟨0, 0, .w1c, 0⟩) (by simp [reg1]) rfl rfl hone
    · rw [Block.word_setFld_other _ _ _ ha]
      exact b.word_storeReg_other w _ ha

end Sys2Proof.Machine
end

section
/-!
PROOFS. Counters (R14, R503): what a counter reads after counting, which die's Hold stops a counter of a port, and that counting changes
nothing else.
-/
namespace Sys2Proof.Machine
open Sys2Proof

variable (b : Block)

/-- What is listed at a key is what the key reads as. -/
theorem SMap.get_of_find {α : Type} {dflt : α} {m : SMap α} {i : Nat} {v : α} (h : SMap.find m i = some v) : SMap.get dflt m i = v := by
  induction m with
  | nil => cases h
  | cons e m ih =>
    obtain ⟨k, w⟩ := e
    simp only [SMap.find, SMap.get] at h ⊢
    split
    · next hk => simpa [hk] using h
    · next hk => exact ih (by simpa [hk] using h)

theorem SMap.get_of_find_none {α : Type} {dflt : α} {m : SMap α} {i : Nat} (h : SMap.find m i = none) : SMap.get dflt m i = dflt := by
  induction m with
  | nil => rfl
  | cons e m ih =>
    obtain ⟨k, w⟩ := e
    simp only [SMap.find, SMap.get] at h ⊢
    split
    · next hk => simp [hk] at h
    · next hk => exact ih (by simpa [hk] using h)

theorem Block.frame_of_find {b : Block} {i : Nat} {f : Frame} (h : SMap.find b.frames i = some f) : b.frame i = f := SMap.get_of_find h

/-! ## Counting -/

theorem Block.ctr_count_same (a n : Nat) (h : b.stopped a = false) : (b.count a n).ctr a = (b.ctr a + n) % 2 ^ 64 := by
  simp [Block.ctr_count, h]

theorem Block.ctr_count_other {a c : Nat} (n : Nat) (h : c ≠ a) : (b.count a n).ctr c = b.ctr c := by
  simp [Block.ctr_count, h]

/-- A counter that is none of a unit's programmable ones stands as the unit counts. -/
theorem Block.ctr_pmc_other (u : PUnit) (ev q n : Nat) {c : Nat} (h : ∀ k, k < 8 → c ≠ u.base + 0x40 + 8 * k) :
    (b.pmc u ev q n).ctr c = b.ctr c := by
  have hfold (l : List Nat) (hl : ∀ k ∈ l, k < 8) (sel : Block → Nat → Bool) (x : Block) :
      (l.foldl (fun b k => if sel b k then b.setCtr (u.base + 0x40 + 8 * k) (b.ctr (u.base + 0x40 + 8 * k) + n) else b) x).ctr c =
        x.ctr c := by
    induction l generalizing x with
    | nil => rfl
    | cons k l ih =>
      rw [List.foldl_cons, ih (fun j hj => hl j (List.mem_cons_of_mem _ hj))]
      split
      · rw [Block.ctr_setCtr, if_neg (h k (hl k (List.mem_cons_self ..)))]
      · rfl
  have hsel := hfold (List.range 8) (fun k hk => List.mem_range.mp hk) (fun b k => bitOf (b.word (u.base + 0x10 + 4 * k)) 31 &&
      b.word (u.base + 0x10 + 4 * k) % 256 == ev && (b.word (u.base + 0x10 + 4 * k) / 65536 % 4096 == 0xFFF ||
        b.word (u.base + 0x10 + 4 * k) / 65536 % 4096 == q)) b
  unfold Block.pmc
  dsimp only
  cases u.die? with
  | none =>
    dsimp only
    split
    · rfl
    · exact hsel
  | some d =>
    dsimp only
    split
    · rfl
    · exact hsel

/-- From b to c nothing changed but the counters. -/
def Block.Counted (b c : Block) : Prop := ∃ cs, c = { b with ctrs := cs }

theorem Block.Counted.refl : b.Counted b := ⟨b.ctrs, rfl⟩
theorem Block.Counted.trans {b c d : Block} (h : b.Counted c) (h' : c.Counted d) : b.Counted d := by
  obtain ⟨cs, rfl⟩ := h
  obtain ⟨ds, rfl⟩ := h'
  exact ⟨ds, rfl⟩
theorem Block.Counted.count {b c : Block} (h : b.Counted c) (a n : Nat) : b.Counted (c.count a n) :=
  h.trans ⟨_, c.count_only a n⟩
theorem Block.Counted.pmc {b c : Block} (h : b.Counted c) (u : PUnit) (ev q n : Nat) : b.Counted (c.pmc u ev q n) :=
  h.trans ⟨_, c.pmc_only u ev q n⟩

/-! ## The counters of a port -/

/-- A counter in a region window stops with the Hold of the die it lies on. -/
theorem freezer_of_region {a : Nat} (h : 0x1000000 ≤ a ∧ a < 0x2000000) : freezer a = some ((a - 0x1000000) / 0x400000) := by
  rw [freezer, if_neg (by omega), if_neg (by omega), if_pos h]

theorem macBase_add_bounds {p o : Nat} (hp : p < 256) (ho : o < 0x1000) : 0x1000000 ≤ macBase p + o ∧ macBase p + o < 0x2000000 := by
  unfold macBase
  omega

theorem macBase_add_die {p o : Nat} (hp : p < 256) (ho : o < 0x1000) : (macBase p + o - 0x1000000) / 0x400000 = dieOfPort p := by
  unfold macBase dieOfPort
  omega

/-- A Hold of the port's die stops the counters of its MAC (R43). -/
theorem Block.stopped_mac {p o : Nat} (hp : p < 256) (ho : o < 0x1000) : b.stopped (macBase p + o) = b.frozen (dieOfPort p) := by
  rw [Block.stopped, freezer_of_region (macBase_add_bounds hp ho), macBase_add_die hp ho]

/-- The programmable counters of port p's MAC lie from offset 0xF40. -/
theorem Block.ctr_pmc_mac (p q ev n : Nat) {o : Nat} (ho : o < 0xF40) :
    (b.pmc (.mac p) ev q n).ctr (macBase p + o) = b.ctr (macBase p + o) :=
  b.ctr_pmc_other _ _ _ _ fun k _ h => by
    have h' : macBase p + o = macBase p + 0xF00 + 0x40 + 8 * k := h
    omega

end Sys2Proof.Machine
end

section
/-!
PROOFS. Reception (R93, R111, R116): what a frame that the MAC receives leaves, with and without an error, what an error found after the
head has left does; and O3 from these.
-/
namespace Sys2Proof.Machine
open Sys2Proof

variable (b : Block)

/-! ## The staging watch (R67) -/

/-- From b to c nothing changed but the counters and the ports. -/
def Block.OnPorts (b c : Block) : Prop := ∃ cs ps, c = { b with ctrs := cs, ports := ps }

theorem Block.OnPorts.refl : b.OnPorts b := ⟨b.ctrs, b.ports, rfl⟩
theorem Block.OnPorts.trans {b c d : Block} (h : b.OnPorts c) (h' : c.OnPorts d) : b.OnPorts d := by
  obtain ⟨cs, ps, rfl⟩ := h
  obtain ⟨ds, qs, rfl⟩ := h'
  exact ⟨ds, qs, rfl⟩
theorem Block.OnPorts.count {b c : Block} (h : b.OnPorts c) (a n : Nat) : b.OnPorts (c.count a n) :=
  h.trans ⟨_, c.ports, c.count_only a n⟩
theorem Block.OnPorts.pmc {b c : Block} (h : b.OnPorts c) (u : PUnit) (ev q n : Nat) : b.OnPorts (c.pmc u ev q n) :=
  h.trans ⟨_, c.ports, c.pmc_only u ev q n⟩
theorem Block.OnPorts.modPort {b c : Block} (h : b.OnPorts c) (p : Nat) (f : Port → Port) : b.OnPorts (c.modPort p f) :=
  h.trans ⟨c.ctrs, _, rfl⟩

theorem Block.OnPorts.eq {b c : Block} (h : b.OnPorts c) : c = { b with ctrs := c.ctrs, ports := c.ports } := by
  obtain ⟨cs, ps, rfl⟩ := h
  rfl

theorem Block.stgWatch_onPorts (p n : Nat) : b.OnPorts (b.stgWatch p n) := by
  have high : b.OnPorts ((b.count (R.MAC_STG_XOFF_EVENTS p) 1).modPort p fun x => { x with stgHigh := true }) :=
    ((Block.OnPorts.refl b).count _ _).modPort _ _
  unfold Block.stgWatch
  dsimp only
  split <;> split
  · exact high.modPort _ _
  · exact (Block.OnPorts.refl b).modPort _ _
  · exact high
  · exact Block.OnPorts.refl b

/-- The watch counts nothing but XOFF_EVENTS. -/
theorem Block.stgWatch_ctr (p n : Nat) {c : Nat} (h : c ≠ R.MAC_STG_XOFF_EVENTS p) : (b.stgWatch p n).ctr c = b.ctr c := by
  have high : ((b.count (R.MAC_STG_XOFF_EVENTS p) 1).modPort p fun x => { x with stgHigh := true }).ctr c = b.ctr c := by
    rw [Block.modPort_ctr, Block.ctr_count_other _ _ h]
  unfold Block.stgWatch
  dsimp only
  split <;> split
  · rw [Block.modPort_ctr, high]
  · rw [Block.modPort_ctr]
  · exact high
  · rfl

theorem Block.stgWatch_late (p n q : Nat) : ((b.stgWatch p n).port q).late = (b.port q).late := by
  unfold Block.stgWatch
  dsimp only
  split <;> split <;> simp [Block.port_modPort] <;> split <;> simp_all

/-! ## What every received frame counts -/

/-- The codewords of a received frame, counted. -/
def Block.fecNotes (b : Block) (p : Nat) (i : RxInfo) : Block :=
  (((b.count (R.MAC_FEC_CW_CORRECTED p) i.fecCorrected.toNat).count (R.MAC_FEC_SYM_CORRECTED p) i.fecSymbols.toNat).count
    (R.MAC_FEC_CW_UNCORRECTED p) i.fecBad.toNat).pmc (.mac p) 0x07 i.fecLane i.fecCorrected.toNat

theorem Block.fecNotes_counted (p : Nat) (i : RxInfo) : b.Counted (b.fecNotes p i) :=
  ((((Block.Counted.refl b).count _ _).count _ _).count _ _).pmc _ _ _ _

/-- The codewords of a received frame and its bytes on the lands, counted. -/
def Block.rxNotes (b : Block) (p : Nat) (raw : List Byte) (i : RxInfo) : Block :=
  (b.fecNotes p i).bwCount p (raw.take (b.fld (R.MAC_PORT_CFG p) F.MAC_PORT_CFG_MAX_FRAME)).length 0

theorem Block.rxNotes_onPorts (p : Nat) (raw : List Byte) (i : RxInfo) : b.OnPorts (b.rxNotes p raw i) :=
  (((((Block.OnPorts.refl b).count _ _).count _ _).count _ _).pmc _ _ _ _).modPort _ _

/-- The counters of frames received lie below those of the codewords. -/
theorem Block.rxNotes_ctr (p : Nat) (raw : List Byte) (i : RxInfo) {o : Nat} (h : o < 0x500) :
    (b.rxNotes p raw i).ctr (macBase p + o) = b.ctr (macBase p + o) := by
  have hpmc : o < 0xF40 := by omega
  unfold Block.rxNotes Block.fecNotes Block.bwCount
  rw [Block.modPort_ctr, Block.ctr_pmc_mac _ _ _ _ _ hpmc, Block.ctr_count_other, Block.ctr_count_other, Block.ctr_count_other]
  all_goals simp only [R.MAC_FEC_CW_CORRECTED, R.MAC_FEC_SYM_CORRECTED, R.MAC_FEC_CW_UNCORRECTED]; omega

theorem Block.OnPorts.stgFill {b c : Block} (h : b.OnPorts c) (q : Nat) : c.stgFill q = b.stgFill q := by
  obtain ⟨cs, ps, rfl⟩ := h; rfl
theorem Block.OnPorts.rxStamp {b c : Block} (h : b.OnPorts c) (q : Nat) (base : c.portBase q = b.portBase q) :
    c.rxStamp q = b.rxStamp q := by
  obtain ⟨cs, ps, rfl⟩ := h
  simp only [Block.rxStamp, base]
  rfl

@[simp] theorem Block.bwCount_stgFill (p r t q : Nat) : (b.bwCount p r t).stgFill q = b.stgFill q := rfl
@[simp] theorem Block.bwCount_baseA (p r t : Nat) : (b.bwCount p r t).baseA = b.baseA := rfl
@[simp] theorem Block.bwCount_baseB (p r t : Nat) : (b.bwCount p r t).baseB = b.baseB := rfl

/-- The bandwidth window leaves the base that the port is on. -/
theorem Block.bwCount_rxStamp (p r t q : Nat) : (b.bwCount p r t).rxStamp q = b.rxStamp q := by
  refine ((Block.OnPorts.refl b).modPort _ _).rxStamp q ?_
  have hbase : ((b.bwCount p r t).port q).onTarget = (b.port q).onTarget := by
    unfold Block.bwCount
    rw [Block.port_modPort]
    split
    · next h => subst h; split <;> rfl
    · rfl
  simp only [Block.portBase]
  rw [← hbase]
  rfl

theorem Block.count_rxStamp (a n q : Nat) : (b.count a n).rxStamp q = b.rxStamp q := by
  obtain ⟨cs, h⟩ := (Block.Counted.refl b).count a n
  rw [h]
  rfl
theorem Block.pmc_rxStamp (u : PUnit) (ev k n q : Nat) : (b.pmc u ev k n).rxStamp q = b.rxStamp q := by
  obtain ⟨cs, h⟩ := (Block.Counted.refl b).pmc u ev k n
  rw [h]
  rfl

/-- What the frame's error and its room are found by stands while its codewords are counted. -/
theorem Block.Counted.rx {b c : Block} (h : b.Counted c) (p : Nat) (raw : List Byte) (q : RxQuality) :
    c.rxError p raw q = b.rxError p raw q ∧ c.stgFill p = b.stgFill p ∧
      c.fld (R.MAC_PORT_CFG p) F.MAC_PORT_CFG_MAX_FRAME = b.fld (R.MAC_PORT_CFG p) F.MAC_PORT_CFG_MAX_FRAME ∧
      c.rxStamp p = b.rxStamp p ∧ c.baseA = b.baseA ∧ c.baseB = b.baseB := by
  obtain ⟨cs, rfl⟩ := h
  exact ⟨rfl, rfl, rfl, rfl, rfl, rfl⟩

section
variable {p : Nat} {raw : List Byte} {i : RxInfo} (up : b.receives p = true) (found : i.late = false)
    (data : ¬(14 ≤ raw.length ∧ beAt raw 12 2 = 0x8808)) (room : b.stgFill p + 16384 ≤ 131072)
include up found data room

/-- A frame whose error the MAC finds in time counts under its error, and goes no further. -/
theorem Block.arrive_of_bad {e : RxErr} (err : b.rxError p raw i.quality = some e) :
    b.arrive p raw i = (b.rxNotes p raw i).count (rxErrCounter p e) 1 := by
  have data' : (decide (raw.length ≥ 14) && beAt raw 12 2 == 0x8808) = false := by simpa using data
  have room' : ¬(b.stgFill p + 16384 > 131072) := by omega
  obtain ⟨herr, hfill, hmax, -, -, -⟩ := (b.fecNotes_counted p i).rx p raw i.quality
  rw [Block.arrive, up, Block.rxNotes]
  unfold Block.fecNotes at *
  dsimp only
  generalize ((((b.count (R.MAC_FEC_CW_CORRECTED p) i.fecCorrected.toNat).count (R.MAC_FEC_SYM_CORRECTED p) i.fecSymbols.toNat).count
    (R.MAC_FEC_CW_UNCORRECTED p) i.fecBad.toNat).pmc (.mac p) 0x07 i.fecLane i.fecCorrected.toNat) = c at *
  simp -implicitDefEqProofs only [herr, err, hmax, hfill, data', found, room', Block.count_stgFill, Block.bwCount_stgFill, Bool.not_true, Bool.false_eq_true, if_false,
    Bool.false_and, Option.isSome_some, Bool.not_false, Bool.and_true, if_true]

/-- A frame without error counts as received and enters staging. -/
theorem Block.arrive_of_good (err : b.rxError p raw i.quality = none) (short : raw.length ≤ b.fld (R.MAC_PORT_CFG p) F.MAC_PORT_CFG_MAX_FRAME) :
    b.arrive p raw i = ((((((b.rxNotes p raw i).count (R.MAC_RX_FRAMES_OK p) 1).count (R.MAC_RX_BYTES_OK p) raw.length).pmc (.mac p) 0x01
        0xFFF 1).pmc (.mac p) 0x02 0xFFF raw.length).addFrame
          { port := p, bytes := raw, stamp := b.rxStamp p, advA := b.baseA.advance, advB := b.baseB.advance }).stgWatch p (b.stgFill p) := by
  have data' : (decide (raw.length ≥ 14) && beAt raw 12 2 == 0x8808) = false := by simpa using data
  have room' : ¬(b.stgFill p + 16384 > 131072) := by omega
  obtain ⟨herr, hfill, hmax, hstamp, hA, hB⟩ := (b.fecNotes_counted p i).rx p raw i.quality
  rw [Block.arrive, up, Block.rxNotes]
  unfold Block.fecNotes at *
  dsimp only
  generalize ((((b.count (R.MAC_FEC_CW_CORRECTED p) i.fecCorrected.toNat).count (R.MAC_FEC_SYM_CORRECTED p) i.fecSymbols.toNat).count
    (R.MAC_FEC_CW_UNCORRECTED p) i.fecBad.toNat).pmc (.mac p) 0x07 i.fecLane i.fecCorrected.toNat) = c at *
  simp -implicitDefEqProofs only [herr, err, hmax, hfill, hstamp, hA, hB, data', found, room', Block.count_stgFill, Block.pmc_stgFill, Block.bwCount_stgFill,
    Block.count_rxStamp, Block.pmc_rxStamp, Block.bwCount_rxStamp, Block.count_baseA, Block.pmc_baseA, Block.bwCount_baseA,
    Block.count_baseB, Block.pmc_baseB, Block.bwCount_baseB, List.take_of_length_le short, Bool.not_true, Bool.false_eq_true, if_false,
    Bool.false_and, Option.isSome_none]

end

/-! ## The counters and the places of a received frame -/

theorem Block.OnPorts.frames {b c : Block} (h : b.OnPorts c) : c.frames = b.frames ∧ c.nextFrame = b.nextFrame ∧ c.out = b.out := by
  obtain ⟨cs, ps, rfl⟩ := h
  exact ⟨rfl, rfl, rfl⟩

theorem Block.OnPorts.stopped {b c : Block} (h : b.OnPorts c) (a : Nat) : c.stopped a = b.stopped a := by
  obtain ⟨cs, ps, rfl⟩ := h
  rfl

/-- What the entry of a frame into staging, with its counts, leaves. -/
theorem Block.entered_tells {b c : Block} (h : b.OnPorts c) (f : Frame) (p n : Nat) :
    let t := (c.addFrame f).stgWatch p n
    t.frames = SMap.put b.frames b.nextFrame f ∧ t.nextFrame = b.nextFrame + 1 ∧ t.out = b.out ∧
      t = { b with ctrs := t.ctrs, ports := t.ports, frames := t.frames, nextFrame := t.nextFrame } := by
  obtain ⟨cs, ps, rfl⟩ := h
  intro t
  obtain ⟨ds, qs, ht⟩ := Block.stgWatch_onPorts ({ b with ctrs := cs, ports := ps }.addFrame f) p n
  rw [show t = _ from ht]
  exact ⟨rfl, rfl, rfl, rfl⟩

theorem Block.addFrame_ctr (f : Frame) (a : Nat) : (b.addFrame f).ctr a = b.ctr a := rfl

section
variable {p : Nat} (hp : p < 256) (raw : List Byte) (i : RxInfo) (f : Frame) (n : Nat) (run : b.frozen (dieOfPort p) = false)
include hp run

/-- The counters of a port whose die runs count. -/
theorem Block.OnPorts.running {c : Block} (h : b.OnPorts c) {o : Nat} (ho : o < 0x1000) : c.stopped (macBase p + o) = false :=
  (h.stopped _).trans ((b.stopped_mac hp ho).trans run)

/-- The counters of a frame received without error count it and its bytes. -/
theorem Block.entered_frames :
    (((((((b.rxNotes p raw i).count (R.MAC_RX_FRAMES_OK p) 1).count (R.MAC_RX_BYTES_OK p) raw.length).pmc (.mac p) 0x01
        0xFFF 1).pmc (.mac p) 0x02 0xFFF raw.length).addFrame f).stgWatch p n).ctr (R.MAC_RX_FRAMES_OK p) =
      (b.ctr (R.MAC_RX_FRAMES_OK p) + 1) % 2 ^ 64 := by
  have hrun := (b.rxNotes_onPorts p raw i).running b hp run (o := 0x400) (by omega)
  rw [Block.stgWatch_ctr _ _ _ (by unfold R.MAC_RX_FRAMES_OK R.MAC_STG_XOFF_EVENTS; omega), Block.addFrame_ctr]
  unfold R.MAC_RX_FRAMES_OK
  rw [Block.ctr_pmc_mac _ _ _ _ _ (by omega), Block.ctr_pmc_mac _ _ _ _ _ (by omega),
    Block.ctr_count_other _ _ (by unfold R.MAC_RX_BYTES_OK; omega), Block.ctr_count_same _ _ _ hrun, Block.rxNotes_ctr _ _ _ _ (by omega)]

theorem Block.entered_bytes :
    (((((((b.rxNotes p raw i).count (R.MAC_RX_FRAMES_OK p) 1).count (R.MAC_RX_BYTES_OK p) raw.length).pmc (.mac p) 0x01
        0xFFF 1).pmc (.mac p) 0x02 0xFFF raw.length).addFrame f).stgWatch p n).ctr (R.MAC_RX_BYTES_OK p) =
      (b.ctr (R.MAC_RX_BYTES_OK p) + raw.length) % 2 ^ 64 := by
  have hrun := ((b.rxNotes_onPorts p raw i).count (R.MAC_RX_FRAMES_OK p) 1).running b hp run (o := 0x408) (by omega)
  rw [Block.stgWatch_ctr _ _ _ (by unfold R.MAC_RX_BYTES_OK R.MAC_STG_XOFF_EVENTS; omega), Block.addFrame_ctr]
  unfold R.MAC_RX_BYTES_OK
  rw [Block.ctr_pmc_mac _ _ _ _ _ (by omega), Block.ctr_pmc_mac _ _ _ _ _ (by omega), Block.ctr_count_same _ _ _ hrun,
    Block.ctr_count_other _ _ (by unfold R.MAC_RX_FRAMES_OK; omega), Block.rxNotes_ctr _ _ _ _ (by omega)]

end

/-- The counter of an error lies among those of the frames received. -/
theorem rxErrCounter_eq (p : Nat) (e : RxErr) : ∃ o, o < 0x500 ∧ rxErrCounter p e = macBase p + o ∧ o ≠ 0x430 := by
  cases e
  exacts [⟨0x418, by omega, rfl, by omega⟩, ⟨0x420, by omega, rfl, by omega⟩, ⟨0x428, by omega, rfl, by omega⟩,
    ⟨0x410, by omega, rfl, by omega⟩, ⟨0x458, by omega, rfl, by omega⟩]

/-- A count of an error at the port of a die that runs. -/
theorem Block.ctr_count_rxErr {c : Block} (h : b.OnPorts c) {p : Nat} (hp : p < 256) (run : b.frozen (dieOfPort p) = false) (e : RxErr) :
    (c.count (rxErrCounter p e) 1).ctr (rxErrCounter p e) = (c.ctr (rxErrCounter p e) + 1) % 2 ^ 64 := by
  obtain ⟨o, ho, he, -⟩ := rxErrCounter_eq p e
  rw [he, Block.ctr_count_same _ _ _ (h.running b hp run (by omega))]

/-! ## An error found after the head has left (R111) -/

/-- The MAC of port p knows of no error of frame i to come, and counts the one it found at `own`. -/
def Block.foundNotes (b : Block) (p i own : Nat) : Block :=
  (b.modPort p fun x => { x with late := x.late.filter fun e => e.1 != i }).count own 1

theorem Block.foundNotes_onPorts (p i own : Nat) : b.OnPorts (b.foundNotes p i own) :=
  ((Block.OnPorts.refl b).modPort _ _).count _ _

theorem Block.foundNotes_late (p i own : Nat) : ((b.foundNotes p i own).port p).late = (b.port p).late.filter fun e => e.1 != i := by
  simp only [Block.foundNotes, Block.count_port, Block.port_modPort, if_true]

theorem Block.foundNotes_ctr {p : Nat} (hp : p < 256) (run : b.frozen (dieOfPort p) = false) (i : Nat) (e : RxErr) :
    (b.foundNotes p i (rxErrCounter p e)).ctr (rxErrCounter p e) = (b.ctr (rxErrCounter p e) + 1) % 2 ^ 64 := by
  rw [Block.foundNotes, Block.ctr_count_rxErr b ((Block.OnPorts.refl b).modPort _ _) hp run, Block.modPort_ctr]

theorem Block.foundNotes_ctr_other (p i own : Nat) {c : Nat} (h : c ≠ own) : (b.foundNotes p i own).ctr c = b.ctr c := by
  unfold Block.foundNotes
  rw [Block.ctr_count_other _ _ h, Block.modPort_ctr]

/-- A frame that still stands in staging is dropped there. -/
theorem Block.foundBad_of_staged {i : Nat} {f : Frame} (at_ : SMap.find b.frames i = some f) (loc : f.loc = .staging) (p own : Nat) :
    b.foundBad p i own = ((b.foundNotes p i own).dropFrame i).stgWatch p ((b.foundNotes p i own).stgFill p) := by
  obtain ⟨hfr, -, -⟩ := (b.foundNotes_onPorts p i own).frames
  have hf : (b.foundNotes p i own).frame i = f := Block.frame_of_find (hfr ▸ at_)
  unfold Block.foundBad
  change (if (SMap.find (b.foundNotes p i own).frames i).isSome && ((b.foundNotes p i own).frame i).loc == .staging then _ else _) = _
  rw [hfr, at_, hf, if_pos (by simp [loc])]
  rfl

/-- The tail of a frame whose head has left is marked. -/
theorem Block.foundBad_of_left {i : Nat} {f : Frame} (at_ : SMap.find b.frames i = some f) (loc : f.loc ≠ .staging) (p own : Nat) :
    b.foundBad p i own = ((b.foundNotes p i own).count (R.MAC_RX_BAD_AFTER_HEAD p) 1).markBad i := by
  obtain ⟨hfr, -, -⟩ := (b.foundNotes_onPorts p i own).frames
  have hf : (b.foundNotes p i own).frame i = f := Block.frame_of_find (hfr ▸ at_)
  unfold Block.foundBad
  change (if (SMap.find (b.foundNotes p i own).frames i).isSome && ((b.foundNotes p i own).frame i).loc == .staging then _ else _) = _
  rw [hfr, at_, hf, if_neg (by simpa using loc)]
  rfl

/-- A frame that the block holds is marked bad; no other frame is touched. -/
theorem Block.markBad_of_find {i : Nat} {f : Frame} (at_ : SMap.find b.frames i = some f) :
    b.markBad i = { b.modFrame i fun f => { f with late := none, bad := true } with
      fifos := b.fifos.map fun x => (x.1, x.2.map (Transit.markBad i)) } := by
  unfold Block.markBad
  dsimp only
  rw [at_, if_neg (by simp)]
  rfl

/-! ## FRAME_RECEIVE on the lanes (R116) -/

/-- What far-end loopback sends back. -/
def Block.echoed (b : Block) (p : Nat) (raw : List Byte) : Block :=
  if b.receives p && b.fld (R.MAC_PORT_STATE p) F.MAC_PORT_STATE_LB_MODE == 2 then b.emit (.wire p raw) else b

theorem Block.echoed_eq (p : Nat) (raw : List Byte) : b.echoed p raw = { b with out := (b.echoed p raw).out } := by
  unfold Block.echoed; split <;> rfl

theorem Block.frameReceive_of_lands {p : Nat} (raw : List Byte) (i : RxInfo) (lands : b.fld (R.MAC_PORT_STATE p) F.MAC_PORT_STATE_LB_MODE ≠ 1) :
    b.frameReceive p raw i = (b.echoed p raw).arrive p raw i := by
  have hlands : b.landsOff p = false := by simpa [Block.landsOff] using lands
  unfold Block.frameReceive Block.echoed
  rw [hlands]
  rfl

theorem Block.frameReceive_of_lands_off {p : Nat} (raw : List Byte) (i : RxInfo) (lands : b.fld (R.MAC_PORT_STATE p) F.MAC_PORT_STATE_LB_MODE = 1) :
    b.frameReceive p raw i = b := by
  have hlands : b.landsOff p = true := by simpa [Block.landsOff] using lands
  unfold Block.frameReceive
  rw [hlands]
  rfl

theorem Block.receives_of {p : Nat} (up : b.flag (R.MAC_LINK_STATUS p) F.MAC_LINK_STATUS_LINK_UP) (run : b.frozen (dieOfPort p) = false) :
    b.receives p = true := by
  simp [Block.receives, up, run]

/-- What the reception of a frame without error leaves. -/
theorem Block.arrive_good_tells {p : Nat} (hp : p < 256) {raw : List Byte} (up : b.receives p = true) (run : b.frozen (dieOfPort p) = false)
    (err : b.rxError p raw .good = none) (short : raw.length ≤ b.fld (R.MAC_PORT_CFG p) F.MAC_PORT_CFG_MAX_FRAME)
    (data : beAt raw 12 2 ≠ 0x8808) (room : b.stgFill p + 16384 ≤ 131072) :
    let t := b.arrive p raw {}
    t.frames = SMap.put b.frames b.nextFrame
        { port := p, bytes := raw, stamp := b.rxStamp p, advA := b.baseA.advance, advB := b.baseB.advance } ∧
      t.nextFrame = b.nextFrame + 1 ∧
      t.ctr (R.MAC_RX_FRAMES_OK p) = (b.ctr (R.MAC_RX_FRAMES_OK p) + 1) % 2 ^ 64 ∧
      t.ctr (R.MAC_RX_BYTES_OK p) = (b.ctr (R.MAC_RX_BYTES_OK p) + raw.length) % 2 ^ 64 ∧ t.out = b.out ∧
      t = { b with ctrs := t.ctrs, ports := t.ports, frames := t.frames, nextFrame := t.nextFrame } := by
  rw [b.arrive_of_good (i := {}) up rfl (by simp [data]) room err short]
  have hnotes := ((((b.rxNotes_onPorts p raw {}).count (R.MAC_RX_FRAMES_OK p) 1).count (R.MAC_RX_BYTES_OK p) raw.length).pmc (.mac p)
    0x01 0xFFF 1).pmc (.mac p) 0x02 0xFFF raw.length
  obtain ⟨hfr, hnext, hout, hrest⟩ := Block.entered_tells hnotes
    { port := p, bytes := raw, stamp := b.rxStamp p, advA := b.baseA.advance, advB := b.baseB.advance } p (b.stgFill p)
  exact ⟨hfr, hnext, b.entered_frames hp raw {} _ _ run, b.entered_bytes hp raw {} _ _ run, hout, hrest⟩

/-- FRAME_RECEIVE of a frame without error. -/
theorem Block.frameReceive_of_good {p : Nat} (hp : p < 256) {raw : List Byte} (up : b.receives p = true) (run : b.frozen (dieOfPort p) = false)
    (lands : b.fld (R.MAC_PORT_STATE p) F.MAC_PORT_STATE_LB_MODE ≠ 1) (err : b.rxError p raw .good = none)
    (short : raw.length ≤ b.fld (R.MAC_PORT_CFG p) F.MAC_PORT_CFG_MAX_FRAME) (data : beAt raw 12 2 ≠ 0x8808)
    (room : b.stgFill p + 16384 ≤ 131072) :
    let t := b.frameReceive p raw {}
    t.frames = SMap.put b.frames b.nextFrame
        { port := p, bytes := raw, stamp := b.rxStamp p, advA := b.baseA.advance, advB := b.baseB.advance } ∧
      t.nextFrame = b.nextFrame + 1 ∧
      t.ctr (R.MAC_RX_FRAMES_OK p) = (b.ctr (R.MAC_RX_FRAMES_OK p) + 1) % 2 ^ 64 ∧
      t.ctr (R.MAC_RX_BYTES_OK p) = (b.ctr (R.MAC_RX_BYTES_OK p) + raw.length) % 2 ^ 64 ∧ t.out = (b.echoed p raw).out ∧
      t = { b with ctrs := t.ctrs, ports := t.ports, frames := t.frames, nextFrame := t.nextFrame, out := t.out } := by
  rw [b.frameReceive_of_lands raw {} lands]
  obtain ⟨o, ho⟩ : ∃ o, b.echoed p raw = { b with out := o } := ⟨_, b.echoed_eq p raw⟩
  rw [ho]
  obtain ⟨hfr, hnext, hframes, hbytes, hout, hrest⟩ := Block.arrive_good_tells { b with out := o } hp up run err short data room
  refine ⟨hfr, hnext, hframes, hbytes, hout, hrest.trans ?_⟩
  rw [hout]

/-- FRAME_RECEIVE of a frame whose error the MAC finds in time. -/
theorem Block.frameReceive_of_bad {p : Nat} (hp : p < 256) {raw : List Byte} {i : RxInfo} {e : RxErr} (up : b.receives p = true)
    (run : b.frozen (dieOfPort p) = false) (lands : b.fld (R.MAC_PORT_STATE p) F.MAC_PORT_STATE_LB_MODE = 0) (found : i.late = false)
    (err : b.rxError p raw i.quality = some e) (data : ¬(14 ≤ raw.length ∧ beAt raw 12 2 = 0x8808)) (room : b.stgFill p + 16384 ≤ 131072) :
    let t := b.frameReceive p raw i
    t.ctr (rxErrCounter p e) = (b.ctr (rxErrCounter p e) + 1) % 2 ^ 64 ∧ t = { b with ctrs := t.ctrs, ports := t.ports } := by
  have hecho : b.echoed p raw = b := by simp [Block.echoed, lands]
  rw [b.frameReceive_of_lands raw i (by omega), hecho, b.arrive_of_bad up found data room err]
  obtain ⟨o, ho, he, -⟩ := rxErrCounter_eq p e
  have hctr := b.rxNotes_ctr p raw i ho
  rw [← he] at hctr
  exact ⟨(b.ctr_count_rxErr (b.rxNotes_onPorts p raw i) hp run e).trans (by rw [hctr]),
    ((b.rxNotes_onPorts p raw i).count _ _).eq⟩

/-! ## RX_BAD_AFTER_HEAD (R111) -/

theorem Block.rxBadAfterHead_cons {p i : Nat} {e : RxErr} {r : List (Nat × RxErr)} (late : (b.port p).late = (i, e) :: r) :
    b.rxBadAfterHead p = b.foundBad p i (rxErrCounter p e) := by
  simp only [Block.rxBadAfterHead, late]

theorem Block.rxBadAfterHead_of_left {p i : Nat} (hp : p < 256) {e : RxErr} {r : List (Nat × RxErr)} {f : Frame}
    (late : (b.port p).late = (i, e) :: r) (at_ : SMap.find b.frames i = some f) (loc : f.loc ≠ .staging)
    (run : b.frozen (dieOfPort p) = false) :
    let t := b.rxBadAfterHead p
    t.ctr (rxErrCounter p e) = (b.ctr (rxErrCounter p e) + 1) % 2 ^ 64 ∧
      t.ctr (R.MAC_RX_BAD_AFTER_HEAD p) = (b.ctr (R.MAC_RX_BAD_AFTER_HEAD p) + 1) % 2 ^ 64 ∧
      t.frame i = { b.frame i with late := none, bad := true } ∧ (∀ j, j ≠ i → t.frame j = b.frame j) ∧
      (t.port p).late = r.filter (fun x => x.1 != i) ∧
      t = { b with ctrs := t.ctrs, ports := t.ports, frames := t.frames, fifos := t.fifos } := by
  obtain ⟨o, ho, he, hne⟩ := rxErrCounter_eq p e
  have hapart : rxErrCounter p e ≠ R.MAC_RX_BAD_AFTER_HEAD p := by unfold R.MAC_RX_BAD_AFTER_HEAD; omega
  rw [b.rxBadAfterHead_cons late, b.foundBad_of_left at_ loc]
  have hports := b.foundNotes_onPorts p i (rxErrCounter p e)
  have hown := ((b.foundNotes p i (rxErrCounter p e)).ctr_count_other 1 hapart).trans (b.foundNotes_ctr hp run i e)
  have hbad := ((b.foundNotes p i (rxErrCounter p e)).ctr_count_same (R.MAC_RX_BAD_AFTER_HEAD p) 1 (hports.running b hp run (by omega))).trans
    (by rw [b.foundNotes_ctr_other p i _ hapart.symm])
  have hlate : (((b.foundNotes p i (rxErrCounter p e)).count (R.MAC_RX_BAD_AFTER_HEAD p) 1).port p).late = r.filter fun x => x.1 != i := by
    rw [Block.count_port, b.foundNotes_late, late]
    simp
  obtain ⟨cs, ps, hc⟩ := hports.count (R.MAC_RX_BAD_AFTER_HEAD p) 1
  rw [hc] at hown hbad hlate ⊢
  have hmod := b.frame_modFrame i fun f => { f with late := none, bad := true }
  rw [Block.markBad_of_find { b with ctrs := cs, ports := ps } at_]
  refine ⟨hown, hbad, ?_, fun j hj => ?_, hlate, rfl⟩
  · exact (hmod i).trans (if_pos rfl)
  · exact (hmod j).trans (if_neg hj)

theorem Block.rxBadAfterHead_of_staged {p i : Nat} (hp : p < 256) {e : RxErr} {r : List (Nat × RxErr)} {f : Frame}
    (late : (b.port p).late = (i, e) :: r) (at_ : SMap.find b.frames i = some f) (loc : f.loc = .staging)
    (run : b.frozen (dieOfPort p) = false) :
    let t := b.rxBadAfterHead p
    t.ctr (rxErrCounter p e) = (b.ctr (rxErrCounter p e) + 1) % 2 ^ 64 ∧ t.frames = SMap.del b.frames i ∧
      t = { b with ctrs := t.ctrs, ports := t.ports, frames := t.frames } := by
  obtain ⟨o, ho, he, -⟩ := rxErrCounter_eq p e
  rw [b.rxBadAfterHead_cons late, b.foundBad_of_staged at_ loc]
  have hown := b.foundNotes_ctr hp run i e
  obtain ⟨cs, ps, hc⟩ := b.foundNotes_onPorts p i (rxErrCounter p e)
  rw [hc] at hown ⊢
  have hctr := Block.stgWatch_ctr (Block.dropFrame { b with ctrs := cs, ports := ps } i) p (Block.stgFill { b with ctrs := cs, ports := ps } p)
    (c := rxErrCounter p e) (by unfold R.MAC_STG_XOFF_EVENTS; omega)
  obtain ⟨ds, qs, ht⟩ := Block.stgWatch_onPorts (Block.dropFrame { b with ctrs := cs, ports := ps } i) p
    (Block.stgFill { b with ctrs := cs, ports := ps } p)
  rw [ht] at hctr ⊢
  exact ⟨hctr.trans hown, rfl, rfl⟩

/-- Settles O3: what the reception of a frame, and an error found after its head, leave (R93, R111, R116). -/
theorem receivedFramesEnterStagingOrCountTheirError : Obligations.ReceivedFramesEnterStagingOrCountTheirError := by
  unfold Obligations.ReceivedFramesEnterStagingOrCountTheirError
  refine ⟨?_, ?_, ?_, ?_, ?_⟩
  · intro b p bytes up run lands long short fcs data room
    have hup := b.receives_of up run
    have herr : b.rxError p bytes .good = none := by
      simp [Block.rxError, fcs, Nat.not_lt.mpr long, Nat.not_lt.mpr short]
    obtain ⟨hfr, hnext, hframes, hbytes, hout, hrest⟩ := b.frameReceive_of_good p.isLt hup run lands herr short data room
    refine ⟨b.frameReceive p bytes {}, fun _ => rfl, hfr, hnext, hframes, hbytes, hout.trans ?_, hrest⟩
    simp only [Block.echoed, hup, Bool.true_and, beq_iff_eq]
    split <;> rfl
  · intro b p bytes i lands
    exact takes_congr (fun _ => rfl) (b.frameReceive_of_lands_off bytes i lands)
  · intro b p bytes i e up run lands found err data room
    exact ⟨b.frameReceive p bytes i, fun _ => rfl,
      b.frameReceive_of_bad p.isLt (b.receives_of up run) run lands found err data room⟩
  · intro b p i e r f late at_ loc run
    exact ⟨b.rxBadAfterHead p, fun _ => rfl, b.rxBadAfterHead_of_left p.isLt late at_ loc run⟩
  · intro b p i e r f late at_ loc run
    exact ⟨b.rxBadAfterHead p, fun _ => rfl, b.rxBadAfterHead_of_staged p.isLt late at_ loc run⟩

end Sys2Proof.Machine
end

section
/-!
PROOFS. Received pause (R97, R104): the bits of the pause and watchdog status, what a pause time loaded or released leaves of a priority,
and that the priorities do not touch each other; and O4 from these.
-/
namespace Sys2Proof.Machine
open Sys2Proof

variable (b : Block)

/-! ## The bits of a mask field -/

theorem bitOf_mod {n k : Nat} (x : Nat) (hk : k < n) : bitOf (x % 2 ^ n) k = bitOf x k := by
  simp [bitOf_eq_testBit, Nat.testBit_mod_two_pow, hk]

theorem bitOf_or (x y k : Nat) : bitOf (x ||| y) k = (bitOf x k || bitOf y k) := by simp [bitOf_eq_testBit]
theorem bitOf_and (x y k : Nat) : bitOf (x &&& y) k = (bitOf x k && bitOf y k) := by simp [bitOf_eq_testBit]
theorem bitOf_two_pow (i k : Nat) : bitOf (2 ^ i) k = decide (i = k) := by simp [bitOf_eq_testBit, Nat.testBit_two_pow]

section
variable (a : Nat) {f : Bf} (m : Nat) {k : Nat} (wide : f.hi < 32) (order : f.lo ≤ f.hi) (hk : k < f.hi + 1 - f.lo)
include wide order hk

theorem Block.bitOf_orFld : bitOf ((b.orFld a f m).fld a f) k = (bitOf (b.fld a f) k || bitOf m k) := by
  rw [Block.orFld, Block.fld_setFld_same _ _ _ _ wide order, bitOf_mod _ hk, bitOf_or]

theorem Block.bitOf_andNotFld : bitOf ((b.andNotFld a f m).fld a f) k = (bitOf (b.fld a f) k && !bitOf m k) := by
  rw [Block.andNotFld, Block.fld_setFld_same _ _ _ _ wide order, bitOf_mod _ hk, bitOf_and_not _ (Nat.mod_lt _ (Nat.two_pow_pos _)) hk,
    bitOf_mod _ hk]

end

/-! ## A priority of a port -/

/-- From b to c nothing changed but the pause status of port p and the ports. -/
structure Block.OnPause (p : Nat) (b c : Block) : Prop where
  word : ∀ a, a ≠ R.MAC_PAUSE_STATUS p → c.word a = b.word a
  rest : ∃ rs ps, c = { b with regs := rs, ports := ps }

theorem Block.OnPause.refl (p : Nat) : b.OnPause p b := ⟨fun _ _ => rfl, b.regs, b.ports, rfl⟩
theorem Block.OnPause.trans {p : Nat} {b c d : Block} (h : b.OnPause p c) (h' : c.OnPause p d) : b.OnPause p d := by
  obtain ⟨hw, rs, ps, rfl⟩ := h
  obtain ⟨hw', rs', ps', rfl⟩ := h'
  exact ⟨fun a ha => (hw' a ha).trans (hw a ha), rs', ps', rfl⟩
theorem Block.OnPause.fld {p : Nat} {b c : Block} (h : b.OnPause p c) {a : Nat} (ha : a ≠ R.MAC_PAUSE_STATUS p) (f : Bf) :
    c.fld a f = b.fld a f := congrArg f.of (h.word a ha)
theorem Block.OnPause.ticks {p : Nat} {b c : Block} (h : b.OnPause p c) : c.ticks = b.ticks := by
  obtain ⟨-, rs, ps, rfl⟩ := h; rfl

theorem pauseStatus_ne (p : Nat) : R.PRT_PAUSE_WDOG_STATUS p ≠ R.MAC_PAUSE_STATUS p := by
  simp only [R.PRT_PAUSE_WDOG_STATUS, R.MAC_PAUSE_STATUS, prtBase, rgnBase, dieBase, macBase]; omega

theorem Block.OnPause.broken {p : Nat} {b c : Block} (h : b.OnPause p c) (n : Nat) : c.broken p n = b.broken p n := by
  rw [Block.broken, Block.broken, h.fld (pauseStatus_ne p)]

/-! ## One priority loads or releases its timer (R97) -/

theorem pausedBits : F.MAC_PAUSE_STATUS_RX_PAUSED.hi < 32 ∧ F.MAC_PAUSE_STATUS_RX_PAUSED.lo ≤ F.MAC_PAUSE_STATUS_RX_PAUSED.hi ∧
    F.MAC_PAUSE_STATUS_RX_PAUSED.hi + 1 - F.MAC_PAUSE_STATUS_RX_PAUSED.lo = 8 := by decide

theorem Block.bitOf_orPaused (p m : Nat) {n : Nat} (hn : n < 8) :
    (b.orFld (R.MAC_PAUSE_STATUS p) F.MAC_PAUSE_STATUS_RX_PAUSED m).paused p n = (b.paused p n || bitOf m n) := by
  obtain ⟨wide, order, width⟩ := pausedBits
  exact b.bitOf_orFld _ _ wide order (width ▸ hn)

theorem Block.bitOf_andNotPaused (p m : Nat) {n : Nat} (hn : n < 8) :
    (b.andNotFld (R.MAC_PAUSE_STATUS p) F.MAC_PAUSE_STATUS_RX_PAUSED m).paused p n = (b.paused p n && !bitOf m n) := by
  obtain ⟨wide, order, width⟩ := pausedBits
  exact b.bitOf_andNotFld _ _ wide order (width ▸ hn)

/-- A field of a word, written, and the ports changed. -/
theorem Block.OnPause.set (p : Nat) (f : Bf) (v q : Nat) (g : Port → Port) :
    b.OnPause p ((b.setFld (R.MAC_PAUSE_STATUS p) f v).modPort q g) := by
  refine ⟨fun a ha => ?_, (b.setFld (R.MAC_PAUSE_STATUS p) f v).regs, _, rfl⟩
  rw [Block.modPort_word, Block.word_setFld, if_neg ha]

theorem Block.unpause_onPause (p pri : Nat) : b.OnPause p (b.unpause p pri) := Block.OnPause.set ..

theorem Block.modPort_paused (q : Nat) (f : Port → Port) (p n : Nat) : (b.modPort q f).paused p n = b.paused p n := rfl

theorem Block.unpause_paused (p pri : Nat) {n : Nat} (hn : n < 8) :
    (b.unpause p pri).paused p n = (b.paused p n && decide (pri ≠ n)) := by
  unfold Block.unpause
  rw [Block.modPort_paused, b.bitOf_andNotPaused p (2 ^ pri) hn, bitOf_two_pow, decide_not]

theorem Block.unpause_port (p pri n : Nat) :
    let x := (b.unpause p pri).port p
    let y := b.port p
    SMap.find x.quanta n = (if n = pri then none else SMap.find y.quanta n) ∧
      SMap.find x.loadedAt n = (if n = pri then none else SMap.find y.loadedAt n) ∧
      SMap.find x.since n = (if n = pri then none else SMap.find y.since n) := by
  have hport : (b.unpause p pri).port p =
      { b.port p with quanta := SMap.del (b.port p).quanta pri, loadedAt := SMap.del (b.port p).loadedAt pri,
                      since := SMap.del (b.port p).since pri } := by
    rw [Block.unpause, Block.port_modPort, if_pos rfl, Block.andNotFld_port]
  rw [hport]
  split
  · next h => subst h; exact ⟨SMap.find_del_same _ _, SMap.find_del_same _ _, SMap.find_del_same _ _⟩
  · next h => exact ⟨SMap.find_del_other _ h, SMap.find_del_other _ h, SMap.find_del_other _ h⟩

section
variable {p q pri : Nat} (whole : b.broken p pri = false)
include whole

/-- A priority that is not broken takes a pause time: a time of 0 releases it, another loads its timer and pauses it. -/
theorem Block.loadPause_onPause : b.OnPause p (b.loadPause p q pri) := by
  unfold Block.loadPause
  rw [if_neg (by simp [whole])]
  split
  · split
    · exact b.unpause_onPause p pri
    · exact Block.OnPause.refl b p
  · exact Block.OnPause.set ..

theorem Block.loadPause_paused {n : Nat} (hn : n < 8) :
    (b.loadPause p q pri).paused p n = if n = pri then decide (q ≠ 0) else b.paused p n := by
  have hset := b.bitOf_orPaused p (2 ^ pri) hn
  have hclr := b.unpause_paused p pri hn
  rw [bitOf_two_pow] at hset
  unfold Block.loadPause
  rw [if_neg (by simp [whole])]
  by_cases hq : q = 0 <;> by_cases e : n = pri
  · rw [if_pos (by simp [hq]), if_pos e]
    split
    · rw [hclr, e]; simp [hq]
    · next h => rw [e]; simpa [hq] using h
  · rw [if_pos (by simp [hq]), if_neg e]
    split
    · rw [hclr, decide_eq_true (Ne.symm e), Bool.and_true]
    · rfl
  · rw [if_neg (by simp [hq]), if_pos e]
    rw [Block.modPort_paused, hset]; simp [hq, e]
  · rw [if_neg (by simp [hq]), if_neg e]
    rw [Block.modPort_paused, hset, decide_eq_false (Ne.symm e), Bool.or_false]

theorem Block.loadPause_timer (n : Nat) (h : n = pri → q ≠ 0) :
    SMap.find ((b.loadPause p q pri).port p).quanta n = (if n = pri then some q else SMap.find (b.port p).quanta n) ∧
      SMap.find ((b.loadPause p q pri).port p).loadedAt n = (if n = pri then some b.ticks else SMap.find (b.port p).loadedAt n) := by
  unfold Block.loadPause
  rw [if_neg (by simp [whole])]
  by_cases hq : q = 0
  · have hn : n ≠ pri := fun e => h e hq
    rw [if_pos (by simp [hq]), if_neg hn, if_neg hn]
    split
    · obtain ⟨hquanta, hloaded, -⟩ := b.unpause_port p pri n
      rw [hquanta, hloaded, if_neg hn, if_neg hn]
      exact ⟨rfl, rfl⟩
    · exact ⟨rfl, rfl⟩
  · rw [if_neg (by simp [hq]), Block.port_modPort, if_pos rfl, Block.orFld_port]
    constructor
    · split <;> simp [SMap.find_set, hq]
    · split <;> split <;> simp_all [SMap.find_put_same, SMap.find_put_other]

end

/-! ## The priorities one after another -/

/-- What the first n priorities took of the times q of a frame, those that `en` names; the others stand as they stood. -/
structure Block.TimesTaken (p : Nat) (en : Nat → Bool) (q : Nat → Nat) (n : Nat) (b c : Block) : Prop where
  status : b.OnPause p c
  paused : ∀ k, k < 8 → c.paused p k = if k < n ∧ en k then decide (q k ≠ 0) else b.paused p k
  quanta : ∀ k, (en k → q k ≠ 0) →
    SMap.find (c.port p).quanta k = (if k < n ∧ en k then some (q k) else SMap.find (b.port p).quanta k) ∧
      SMap.find (c.port p).loadedAt k = (if k < n ∧ en k then some b.ticks else SMap.find (b.port p).loadedAt k)
  unnamed : ∀ k, en k = false → SMap.find (c.port p).quanta k = SMap.find (b.port p).quanta k

theorem Block.timesTaken_each {p : Nat} (whole : ∀ k, k < 8 → b.broken p k = false) (en : Nat → Bool) (q : Nat → Nat) (n : Nat) (hn : n ≤ 8) :
    Block.TimesTaken p en q n b (b.each n fun b k => if en k then b.loadPause p (q k) k else b) := by
  induction n with
  | zero =>
    exact ⟨Block.OnPause.refl b p, fun k _ => by simp [Block.each], fun k _ => by simp [Block.each], fun k _ => rfl⟩
  | succ n ih =>
    rw [Block.each_succ]
    obtain ⟨hstatus, hpaused, hquanta, hunnamed⟩ := ih (by omega)
    generalize (b.each n fun b k => if en k then b.loadPause p (q k) k else b) = c at *
    have hstep (k : Nat) : (k < n + 1 ∧ en k = true) ↔ (k < n ∧ en k = true) ∨ (k = n ∧ en n = true) :=
      ⟨fun ⟨h, he⟩ => by rcases Nat.lt_succ_iff_lt_or_eq.mp h with h | rfl <;> simp [*], fun h => by
        rcases h with ⟨h, he⟩ | ⟨rfl, he⟩ <;> simp [he]; omega⟩
    cases hen : en n with
    | false =>
      refine ⟨hstatus, fun k hk => ?_, fun k hk => ?_, hunnamed⟩
      · simpa only [hstep, hen, Bool.false_eq_true, and_false, or_false, if_false] using hpaused k hk
      · simpa only [hstep, hen, Bool.false_eq_true, and_false, or_false, if_false] using hquanta k hk
    | true =>
      have hwhole : c.broken p n = false := (hstatus.broken n).trans (whole n (by omega))
      refine ⟨hstatus.trans (c.loadPause_onPause hwhole), fun k hk => ?_, fun k hk => ?_, fun k hk => ?_⟩
      · rw [if_pos rfl, c.loadPause_paused hwhole hk, hpaused k hk]
        by_cases e : k = n
        · simp [e, hen]
        · simp only [hstep, e, false_and, or_false, if_false]
      · obtain ⟨hq, hl⟩ := c.loadPause_timer hwhole (q := q n) k fun e => hk (e ▸ hen) |> (e ▸ ·)
        obtain ⟨hq', hl'⟩ := hquanta k hk
        rw [if_pos rfl, hq, hl, hq', hl', hstatus.ticks]
        by_cases e : k = n
        · simp [e, hen]
        · simp only [hstep, e, false_and, or_false, if_false, and_self]
      · have e : k ≠ n := by rintro rfl; simp [hen] at hk
        rw [if_pos rfl, (c.loadPause_timer hwhole (q := q n) k fun h => absurd h e).1, if_neg e, hunnamed k hk]

/-! ## A timer that has run down (R97, R104) -/

theorem brokenBits : F.PRT_PAUSE_WDOG_STATUS_BROKEN.hi < 32 ∧ F.PRT_PAUSE_WDOG_STATUS_BROKEN.lo ≤ F.PRT_PAUSE_WDOG_STATUS_BROKEN.hi ∧
    F.PRT_PAUSE_WDOG_STATUS_BROKEN.hi + 1 - F.PRT_PAUSE_WDOG_STATUS_BROKEN.lo = 8 := by decide

theorem Block.bitOf_andNotBroken (p m : Nat) {n : Nat} (hn : n < 8) :
    (b.andNotFld (R.PRT_PAUSE_WDOG_STATUS p) F.PRT_PAUSE_WDOG_STATUS_BROKEN m).broken p n = (b.broken p n && !bitOf m n) := by
  obtain ⟨wide, order, width⟩ := brokenBits
  exact b.bitOf_andNotFld _ _ wide order (width ▸ hn)

/-- The priority is released: neither broken nor paused, and its timer is off. -/
def Block.released (b : Block) (p pri : Nat) : Block :=
  (b.andNotFld (R.PRT_PAUSE_WDOG_STATUS p) F.PRT_PAUSE_WDOG_STATUS_BROKEN (2 ^ pri)).unpause p pri

theorem Block.released_only (p pri : Nat) : ∃ rs ps, b.released p pri = { b with regs := rs, ports := ps } := by
  obtain ⟨-, rs, ps, h⟩ := (b.andNotFld (R.PRT_PAUSE_WDOG_STATUS p) F.PRT_PAUSE_WDOG_STATUS_BROKEN (2 ^ pri)).unpause_onPause p pri
  exact ⟨rs, ps, h⟩

theorem Block.released_paused (p pri : Nat) {n : Nat} (hn : n < 8) :
    (b.released p pri).paused p n = (b.paused p n && decide (pri ≠ n)) := by
  rw [Block.released, Block.unpause_paused _ _ _ hn, Block.paused, Block.andNotFld,
    Block.fld_setFld_other _ _ _ _ (pauseStatus_ne p).symm, Block.paused]

theorem Block.released_broken (p pri : Nat) {n : Nat} (hn : n < 8) :
    (b.released p pri).broken p n = (b.broken p n && decide (pri ≠ n)) := by
  rw [Block.released, (Block.unpause_onPause _ p pri).broken, Block.bitOf_andNotBroken _ _ _ hn, bitOf_two_pow, decide_not]

theorem Block.released_port (p pri n : Nat) :
    let x := (b.released p pri).port p
    let y := b.port p
    SMap.find x.quanta n = (if n = pri then none else SMap.find y.quanta n) ∧
      SMap.find x.loadedAt n = (if n = pri then none else SMap.find y.loadedAt n) ∧
      SMap.find x.since n = (if n = pri then none else SMap.find y.since n) := by
  have h := (b.andNotFld (R.PRT_PAUSE_WDOG_STATUS p) F.PRT_PAUSE_WDOG_STATUS_BROKEN (2 ^ pri)).unpause_port p pri n
  rw [Block.andNotFld_port] at h
  exact h

theorem Block.pauseTimerExpire_of_out {p pri : Nat} (h : b.timerOut p pri = true) : b.pauseTimerExpire p pri = b.released p pri := by
  unfold Block.pauseTimerExpire
  rw [if_neg (by simp [h])]
  rfl
theorem Block.pauseTimerExpire_of_running {p pri : Nat} (h : b.timerOut p pri = false) : b.pauseTimerExpire p pri = b := by
  unfold Block.pauseTimerExpire
  rw [if_pos (by simp [h])]

/-! ## The frames -/

theorem Block.landsOff_or_down {p : Nat} (h : b.flag (R.MAC_LINK_STATUS p) F.MAC_LINK_STATUS_LINK_UP = false ∨ b.frozen (dieOfPort p) = true ∨
      b.fld (R.MAC_PORT_STATE p) F.MAC_PORT_STATE_LB_MODE = 1) : b.landsOff p = true ∨ b.receives p = false := by
  rcases h with h | h | h <;> simp [Block.landsOff, Block.receives, h]

section
variable {p : Nat} (up : b.receives p = true) (lands : b.landsOff p = false)
include up lands

theorem Block.pauseLands_of_mode (q : Nat) (mode : b.fld (R.MAC_PAUSE_CFG p) F.MAC_PAUSE_CFG_RX_MODE = 1) :
    b.pauseLands p q = (b.count (R.MAC_RX_PAUSE_FRAMES p) 1).each 8 fun b k => if true then b.loadPause p q k else b := by
  simp only [Block.pauseLands, Block.pauseReceive, lands, up, mode, Bool.not_true, Bool.false_eq_true, if_false, beq_self_eq_true, if_true]

theorem Block.pauseLands_of_other_mode (q : Nat) (mode : b.fld (R.MAC_PAUSE_CFG p) F.MAC_PAUSE_CFG_RX_MODE ≠ 1) :
    b.pauseLands p q = b.count (R.MAC_RX_CTRL_DISCARD p) 1 := by
  simp only [Block.pauseLands, Block.pauseReceive, lands, up, Bool.not_true, Bool.false_eq_true, if_false, beq_eq_false_iff_ne.mpr mode]

theorem Block.pfcLands_of_mode (vec : Nat) (times : List Nat) (mode : b.fld (R.MAC_PAUSE_CFG p) F.MAC_PAUSE_CFG_RX_MODE = 2) :
    b.pfcLands p vec times = (b.count (R.MAC_RX_PFC_FRAMES p) 1).each 8 fun b' k =>
      if bitOf (vec &&& b.fld (R.MAC_PAUSE_CFG p) F.MAC_PAUSE_CFG_PFC_RX_EN) k then b'.loadPause p (times.getD k 0) k else b' := by
  simp only [Block.pfcLands, Block.pfcReceive, lands, up, mode, Bool.not_true, Bool.false_eq_true, if_false, beq_self_eq_true, if_true]

theorem Block.pfcLands_of_other_mode (vec : Nat) (times : List Nat) (mode : b.fld (R.MAC_PAUSE_CFG p) F.MAC_PAUSE_CFG_RX_MODE ≠ 2) :
    b.pfcLands p vec times = b.count (R.MAC_RX_CTRL_DISCARD p) 1 := by
  simp only [Block.pfcLands, Block.pfcReceive, lands, up, Bool.not_true, Bool.false_eq_true, if_false, beq_eq_false_iff_ne.mpr mode]

end

theorem getD_map_toNat (l : List (BitVec 16)) (k : Nat) : (l.map BitVec.toNat).getD k 0 = (l.getD k 0).toNat := by
  simp only [List.getD_eq_getElem?_getD, List.getElem?_map]
  cases l[k]? <;> rfl

theorem toNat_ne_zero_iff (q : BitVec 16) : q.toNat ≠ 0 ↔ q ≠ 0 := by
  exact not_congr (BitVec.toNat_inj (y := 0))

/-- Settles O4: what received pause and PFC frames, and a timer that runs down, leave of each priority (R97, R104). -/
theorem pauseFramesLoadAndReleaseTheTimers : Obligations.PauseFramesLoadAndReleaseTheTimers := by
  unfold Obligations.PauseFramesLoadAndReleaseTheTimers
  refine ⟨?_, ?_, ?_, ?_, ?_, ?_⟩
  · intro b p q up lands mode whole
    obtain ⟨cs, hc⟩ : b.Counted (b.count (R.MAC_RX_PAUSE_FRAMES p) 1) := (Block.Counted.refl b).count _ _
    refine ⟨b.pauseLands p q.toNat, fun _ => rfl, ?_⟩
    rw [b.pauseLands_of_mode up lands q.toNat mode, hc]
    obtain ⟨hstatus, hpaused, hquanta, -⟩ := Block.timesTaken_each { b with ctrs := cs } (p := p) (fun k hk => whole ⟨k, hk⟩)
      (fun _ => true) (fun _ => q.toNat) 8 le_rfl
    obtain ⟨hword, rs, ps, hrest⟩ := hstatus
    refine ⟨fun pri => ?_, fun hq pri => ?_, hword, ?_⟩
    · rw [hpaused pri pri.isLt, if_pos ⟨pri.isLt, rfl⟩]
      simp only [toNat_ne_zero_iff]
    · obtain ⟨h1, h2⟩ := hquanta pri fun _ => (toNat_ne_zero_iff q).mpr hq
      exact ⟨h1.trans (if_pos ⟨pri.isLt, rfl⟩), h2.trans (if_pos ⟨pri.isLt, rfl⟩)⟩
    · rw [hrest]
  · intro b p q up lands mode
    exact takes_congr (fun _ => rfl) (b.pauseLands_of_other_mode up lands _ mode)
  · intro b p q vec times h
    have hq : b.pauseLands p q.toNat = b := by
      rcases b.landsOff_or_down h with h | h <;> simp [Block.pauseLands, Block.pauseReceive, h]
    have hv : b.pfcLands p vec.toNat (times.map BitVec.toNat) = b := by
      rcases b.landsOff_or_down h with h | h <;> simp [Block.pfcLands, Block.pfcReceive, h]
    exact ⟨takes_congr (fun _ => rfl) hq, takes_congr (fun _ => rfl) hv⟩
  · intro b p vec times up lands mode whole
    obtain ⟨cs, hc⟩ : b.Counted (b.count (R.MAC_RX_PFC_FRAMES p) 1) := (Block.Counted.refl b).count _ _
    refine ⟨b.pfcLands p vec.toNat (times.map BitVec.toNat), fun _ => rfl, ?_⟩
    rw [b.pfcLands_of_mode up lands _ _ mode, hc]
    simp -zeta only [getD_map_toNat]
    obtain ⟨hstatus, hpaused, hquanta, hunnamed⟩ := Block.timesTaken_each { b with ctrs := cs } (p := p) (fun k hk => whole ⟨k, hk⟩)
      (bitOf (vec.toNat &&& b.fld (R.MAC_PAUSE_CFG p) F.MAC_PAUSE_CFG_PFC_RX_EN)) (fun k => (times.getD k 0).toNat) 8 le_rfl
    obtain ⟨hword, rs, ps, hrest⟩ := hstatus
    refine ⟨fun pri => ?_, hword, ?_⟩
    · intro q
      split
      · next hen =>
        refine ⟨(hpaused pri pri.isLt).trans (if_pos ⟨pri.isLt, hen⟩), fun hq => ?_⟩
        obtain ⟨h1, h2⟩ := hquanta pri fun _ => hq
        exact ⟨h1.trans (if_pos ⟨pri.isLt, hen⟩), h2.trans (if_pos ⟨pri.isLt, hen⟩)⟩
      · next hen =>
        exact ⟨(hpaused pri pri.isLt).trans (if_neg fun h => hen h.2), hunnamed pri (by simpa using hen)⟩
    · rw [hrest]
  · intro b p vec times up lands mode
    exact takes_congr (fun _ => rfl) (b.pfcLands_of_other_mode up lands _ _ mode)
  · intro b p pri q at_ hq hat hout
    have out : b.timerOut p pri = true := by simp [Block.timerOut, hq, hat, hout]
    refine ⟨b.released p pri, takes_congr (fun _ => rfl) (b.pauseTimerExpire_of_out out), ?_, ?_, ?_, fun n hn => ?_, ?_⟩
    · rw [b.released_paused p pri pri.isLt]; simp
    · rw [b.released_broken p pri pri.isLt]; simp
    · exact (b.released_port p pri pri).1.trans (if_pos rfl)
    · have hne : (pri : Nat) ≠ n := fun e => hn (Fin.ext e.symm)
      rw [b.released_paused p pri n.isLt, b.released_broken p pri n.isLt]
      simp [hne]
    · obtain ⟨rs, ps, h⟩ := b.released_only p pri
      rw [h]

end Sys2Proof.Machine
end

section
/-!
PROOFS. The pause watchdog and the generation of pause frames (R100, R101, R103, R105): what a break leaves of each priority, what a
queued frame leaves, and what it does on the wire; and O5 from these.
-/
namespace Sys2Proof.Machine
open Sys2Proof

variable (b : Block)

theorem SMap.find_filter_key {α : Type} (m : SMap α) (f : Nat → Bool) (i : Nat) :
    SMap.find (m.filter fun e => f e.1) i = if f i then SMap.find m i else none := by
  induction m with
  | nil => simp [SMap.find]
  | cons e m ih =>
    obtain ⟨k, w⟩ := e
    by_cases hk : k = i
    · subst hk
      cases hf : f k <;> simp_all [SMap.find]
    · cases hf : f k <;> simp_all [SMap.find]

/-- The registers of a port's MAC lie below the dies' windows, where those of its egress side lie. -/
theorem mac_ne_prt {p o : Nat} (hp : p < 256) (ho : o < 0x1000) (o' : Nat) : macBase p + o ≠ prtBase p + o' := by
  have h := (macBase_add_bounds hp ho).2
  simp only [prtBase, rgnBase, dieBase]
  omega

/-- What a count makes of the counters depends on them and on the dies alone. -/
theorem Block.count_ctrs_congr {b c : Block} (ctrs : c.ctrs = b.ctrs) (dies : c.dies = b.dies) (a n : Nat) :
    (c.count a n).ctrs = (b.count a n).ctrs := by
  have hstop : c.stopped a = b.stopped a := by
    simp only [Block.stopped, Block.frozen, Block.die, dies]
  simp only [Block.count, hstop, Block.setCtr, Block.ctr]
  split <;> simp only [ctrs]

/-! ## The watchdog breaks priorities (R103) -/

theorem Block.bitOf_orBroken (p m : Nat) {n : Nat} (hn : n < 8) :
    (b.orFld (R.PRT_PAUSE_WDOG_STATUS p) F.PRT_PAUSE_WDOG_STATUS_BROKEN m).broken p n = (b.broken p n || bitOf m n) := by
  obtain ⟨wide, order, width⟩ := brokenBits
  exact b.bitOf_orFld _ _ wide order (width ▸ hn)

/-- BREAK_SEEN, set, leaves BROKEN. -/
theorem Block.broken_orSeen (p m n : Nat) :
    (b.orFld (R.PRT_PAUSE_WDOG_STATUS p) F.PRT_PAUSE_WDOG_STATUS_BREAK_SEEN m).broken p n = b.broken p n := by
  rw [Block.broken, Block.orFld, Block.fld_setFld_apart _ _ _ _ _ (by decide) (by decide) (by decide) (by decide), Block.broken]

theorem Block.broken_andNotPaused (p m n : Nat) :
    (b.andNotFld (R.MAC_PAUSE_STATUS p) F.MAC_PAUSE_STATUS_RX_PAUSED m).broken p n = b.broken p n := by
  rw [Block.broken, Block.andNotFld, Block.fld_setFld_other _ _ _ _ (pauseStatus_ne p), Block.broken]

theorem Block.paused_orWdog (p m n : Nat) (f : Bf) : (b.orFld (R.PRT_PAUSE_WDOG_STATUS p) f m).paused p n = b.paused p n := by
  rw [Block.paused, Block.orFld, Block.fld_setFld_other _ _ _ _ (pauseStatus_ne p).symm, Block.paused]

/-- The bits that a break of the priorities of the mask sets and clears. -/
def Block.breakBits (b : Block) (p mask : Nat) : Block :=
  ((b.orFld (R.PRT_PAUSE_WDOG_STATUS p) F.PRT_PAUSE_WDOG_STATUS_BROKEN mask).orFld (R.PRT_PAUSE_WDOG_STATUS p)
    F.PRT_PAUSE_WDOG_STATUS_BREAK_SEEN mask).andNotFld (R.MAC_PAUSE_STATUS p) F.MAC_PAUSE_STATUS_RX_PAUSED mask

theorem Block.breakBits_only (p mask : Nat) : ∃ rs, b.breakBits p mask = { b with regs := rs } := ⟨_, rfl⟩

theorem Block.breakBits_broken (p mask : Nat) {n : Nat} (hn : n < 8) :
    (b.breakBits p mask).broken p n = (b.broken p n || bitOf mask n) := by
  rw [Block.breakBits, Block.broken_andNotPaused, Block.broken_orSeen, Block.bitOf_orBroken _ _ _ hn]

theorem Block.breakBits_paused (p mask : Nat) {n : Nat} (hn : n < 8) :
    (b.breakBits p mask).paused p n = (b.paused p n && !bitOf mask n) := by
  rw [Block.breakBits, Block.bitOf_andNotPaused _ _ _ hn, Block.paused_orWdog, Block.paused_orWdog]

theorem Block.breakBits_fld (p mask : Nat) {a : Nat} (ha : a ≠ R.PRT_PAUSE_WDOG_STATUS p) (ha' : a ≠ R.MAC_PAUSE_STATUS p) (f : Bf) :
    (b.breakBits p mask).fld a f = b.fld a f := by
  rw [Block.breakBits, Block.andNotFld, Block.fld_setFld_other _ _ _ _ ha', Block.orFld, Block.fld_setFld_other _ _ _ _ ha, Block.orFld,
    Block.fld_setFld_other _ _ _ _ ha]

theorem Block.breakPause_eq (p mask : Nat) :
    b.breakPause p mask = (((b.breakBits p mask).modPort p fun x => { x with since := x.since.filter fun e => !bitOf mask e.1 }).count
      (R.PRT_PAUSE_WDOG_BREAKS p) 1).send 0xC p 0x1A 0 := rfl

/-- What a break takes from the block it is in: registers, counters, ports and the message. -/
theorem Block.breakPause_tells (p mask : Nat) :
    let t := b.breakPause p mask
    (∀ a f, t.fld a f = (b.breakBits p mask).fld a f) ∧ t.ticks = b.ticks ∧
      t.port p = { b.port p with since := (b.port p).since.filter fun e => !bitOf mask e.1 } ∧
      t.inflight = (b.send 0xC p 0x1A 0).inflight ∧ t.ctrs = (b.count (R.PRT_PAUSE_WDOG_BREAKS p) 1).ctrs ∧
      t = { b with regs := t.regs, ctrs := t.ctrs, ports := t.ports, inflight := t.inflight } := by
  rw [b.breakPause_eq]
  obtain ⟨rs, hbits⟩ := b.breakBits_only p mask
  obtain ⟨ps, hport⟩ : ∃ ps, ((b.breakBits p mask).modPort p fun x => { x with since := x.since.filter fun e => !bitOf mask e.1 }) =
      { b.breakBits p mask with ports := ps } := ⟨_, rfl⟩
  have hp := (b.breakBits p mask).port_modPort p (fun x => { x with since := x.since.filter fun e => !bitOf mask e.1 }) p
  rw [if_pos rfl, hport] at hp
  rw [hport]
  rw [hbits] at hp ⊢
  rw [Block.count_only, Block.count_ctrs_congr (b := b) (c := { b with regs := rs, ports := ps }) rfl rfl]
  obtain ⟨cs, hcs⟩ : ∃ cs, (b.count (R.PRT_PAUSE_WDOG_BREAKS p) 1).ctrs = cs := ⟨_, rfl⟩
  rw [hcs]
  exact ⟨fun _ _ => rfl, rfl, hp, rfl, rfl, rfl⟩

/-- What decides of the watchdog of priority n, and of its timer. -/
theorem Block.wdogDue_congr {b c : Block} {p n : Nat} (time : c.fld (R.PRT_PAUSE_WDOG p) F.PRT_PAUSE_WDOG_TIME = b.fld (R.PRT_PAUSE_WDOG p)
      F.PRT_PAUSE_WDOG_TIME) (en : c.fld (R.PRT_PAUSE_WDOG p) F.PRT_PAUSE_WDOG_EN = b.fld (R.PRT_PAUSE_WDOG p) F.PRT_PAUSE_WDOG_EN)
    (mode : c.fld (R.MAC_PAUSE_CFG p) F.MAC_PAUSE_CFG_RX_MODE = b.fld (R.MAC_PAUSE_CFG p) F.MAC_PAUSE_CFG_RX_MODE)
    (since : SMap.find (c.port p).since n = SMap.find (b.port p).since n) (paused : c.paused p n = b.paused p n) (ticks : c.ticks = b.ticks) :
    c.wdogDue p n = b.wdogDue p n := by
  simp only [Block.wdogDue, time, en, mode, since, paused, ticks]

theorem Block.timerOut_congr {b c : Block} {p n : Nat} (speed : c.fld (R.MAC_PORT_CFG p) F.MAC_PORT_CFG_SPEED = b.fld (R.MAC_PORT_CFG p)
      F.MAC_PORT_CFG_SPEED) (quanta : SMap.find (c.port p).quanta n = SMap.find (b.port p).quanta n)
    (loadedAt : SMap.find (c.port p).loadedAt n = SMap.find (b.port p).loadedAt n) (ticks : c.ticks = b.ticks) :
    c.timerOut p n = b.timerOut p n := by
  have hquantum : c.quantum p = b.quantum p := by simp only [Block.quantum, speed]
  simp only [Block.timerOut, hquantum, quanta, loadedAt, ticks]

theorem Block.not_wdogDue_of_unpaused {p n : Nat} (h : b.paused p n = false) : b.wdogDue p n = false := by
  unfold Block.wdogDue
  dsimp only
  split
  · simp [h]
  · rfl

theorem Block.each_id {n : Nat} {f : Block → Nat → Block} (h : ∀ k, k < n → f b k = b) : b.each n f = b := by
  induction n with
  | zero => rfl
  | succ n ih => rw [Block.each_succ, ih fun k hk => h k (by omega), h n (by omega)]

section
variable {p : Nat} (running : ∀ n, n < 8 → b.timerOut p n = false)
include running

theorem Block.expireAll_of_running : (b.each 8 fun b k => b.pauseTimerExpire p k) = b :=
  b.each_id fun k hk => b.pauseTimerExpire_of_running (running k hk)

theorem Block.pauseWdog_of_due {pri : Nat} (due : b.wdogDue p pri = true) :
    b.pauseWdog p pri = b.breakPause p (if b.fld (R.MAC_PAUSE_CFG p) F.MAC_PAUSE_CFG_RX_MODE = 1 then 0xFF else 2 ^ pri) := by
  unfold Block.pauseWdog
  rw [b.expireAll_of_running running]
  dsimp only
  rw [due, if_neg (by simp)]
  simp only [beq_iff_eq]

theorem Block.pauseWdog_of_not_due {pri : Nat} (due : b.wdogDue p pri = false) : b.pauseWdog p pri = b := by
  unfold Block.pauseWdog
  rw [b.expireAll_of_running running]
  dsimp only
  rw [due, if_pos (by simp)]

end

theorem Block.breakPause_broken (p mask : Nat) {n : Nat} (hn : n < 8) :
    (b.breakPause p mask).broken p n = (b.broken p n || bitOf mask n) := by
  rw [← b.breakBits_broken p mask hn, Block.broken, (b.breakPause_tells p mask).1, Block.broken]

theorem Block.breakPause_paused (p mask : Nat) {n : Nat} (hn : n < 8) :
    (b.breakPause p mask).paused p n = (b.paused p n && !bitOf mask n) := by
  rw [← b.breakBits_paused p mask hn, Block.paused, (b.breakPause_tells p mask).1, Block.paused]

/-- The registers that a port's watchdog and timers are set by are not among those a break changes. -/
theorem pauseRegs_ne {p : Nat} (hp : p < 256) :
    (R.PRT_PAUSE_WDOG p ≠ R.PRT_PAUSE_WDOG_STATUS p ∧ R.PRT_PAUSE_WDOG p ≠ R.MAC_PAUSE_STATUS p) ∧
      (R.MAC_PAUSE_CFG p ≠ R.PRT_PAUSE_WDOG_STATUS p ∧ R.MAC_PAUSE_CFG p ≠ R.MAC_PAUSE_STATUS p) ∧
      (R.MAC_PORT_CFG p ≠ R.PRT_PAUSE_WDOG_STATUS p ∧ R.MAC_PORT_CFG p ≠ R.MAC_PAUSE_STATUS p) ∧ R.MAC_PORT_CFG p ≠ R.PRT_PAUSE_WDOG p := by
  have hmac (o o' : Nat) (ho : o < 0x1000) : macBase p + o ≠ prtBase p + o' := mac_ne_prt hp ho o'
  unfold R.PRT_PAUSE_WDOG R.PRT_PAUSE_WDOG_STATUS R.MAC_PAUSE_STATUS R.MAC_PAUSE_CFG R.MAC_PORT_CFG
  exact ⟨⟨by omega, (hmac _ _ (by omega)).symm⟩, ⟨hmac _ _ (by omega), by omega⟩, ⟨hmac _ _ (by omega), by omega⟩, hmac _ _ (by omega)⟩

/-- A break of other priorities leaves the timers, and the watchdog of a priority it does not name. -/
theorem Block.breakPause_timerOut {p : Nat} (hp : p < 256) (mask n : Nat) : (b.breakPause p mask).timerOut p n = b.timerOut p n := by
  obtain ⟨hfld, hticks, hport, -⟩ := b.breakPause_tells p mask
  obtain ⟨-, -, ⟨hne, hne'⟩, -⟩ := pauseRegs_ne hp
  refine Block.timerOut_congr ?_ ?_ ?_ hticks
  · rw [hfld, b.breakBits_fld p mask hne hne']
  · rw [hport]
  · rw [hport]

theorem Block.breakPause_wdogDue {p : Nat} (hp : p < 256) (mask : Nat) {n : Nat} (hn : n < 8) (h : bitOf mask n = false) :
    (b.breakPause p mask).wdogDue p n = b.wdogDue p n := by
  obtain ⟨hfld, hticks, hport, -⟩ := b.breakPause_tells p mask
  obtain ⟨⟨hw, hw'⟩, ⟨hc, hc'⟩, -, -⟩ := pauseRegs_ne hp
  refine Block.wdogDue_congr ?_ ?_ ?_ ?_ ?_ hticks
  · rw [hfld, b.breakBits_fld p mask hw hw']
  · rw [hfld, b.breakBits_fld p mask hw hw']
  · rw [hfld, b.breakBits_fld p mask hc hc']
  · rw [hport]
    exact (SMap.find_filter_key _ (fun k => !bitOf mask k) n).trans (by simp [h])
  · rw [b.breakPause_paused p mask hn, h]; simp

/-! ## A timer that has run down goes first (R105) -/

theorem Block.released_timerOut {p : Nat} (hp : p < 256) {pri n : Nat} (h : n ≠ pri) : (b.released p pri).timerOut p n = b.timerOut p n := by
  obtain ⟨-, -, ⟨hne, hne'⟩, -⟩ := pauseRegs_ne hp
  obtain ⟨hq, hl, -⟩ := b.released_port p pri n
  obtain ⟨rs, ps, honly⟩ := b.released_only p pri
  refine Block.timerOut_congr ?_ (by rw [hq, if_neg h]) (by rw [hl, if_neg h]) (by rw [honly])
  rw [Block.released, Block.OnPause.fld (Block.unpause_onPause _ p pri) hne', Block.andNotFld, Block.fld_setFld_other _ _ _ _ hne]

/-- The timers of a port that have run down release their priorities, one after another. -/
theorem Block.expireAll_tells {p : Nat} (hp : p < 256) {pri : Nat} (hpri : pri < 8) (out : b.timerOut p pri = true) (n : Nat) (hn : n ≤ 8) :
    let c := b.each n fun b k => b.pauseTimerExpire p k
    (∃ rs ps, c = { b with regs := rs, ports := ps }) ∧
      (n ≤ pri → c.timerOut p pri = true) ∧ (pri < n → c.paused p pri = false ∧ c.broken p pri = false) := by
  induction n with
  | zero => exact ⟨⟨b.regs, b.ports, rfl⟩, fun _ => out, fun h => absurd h (by omega)⟩
  | succ n ih =>
    rw [Block.each_succ]
    obtain ⟨⟨rs, ps, honly⟩, hbefore, hafter⟩ := ih (by omega)
    obtain ⟨c, hc⟩ : ∃ c, (b.each n fun b k => b.pauseTimerExpire p k) = c := ⟨_, rfl⟩
    rw [hc] at honly hbefore hafter ⊢
    cases hout : c.timerOut p n with
    | false =>
      rw [c.pauseTimerExpire_of_running hout]
      refine ⟨⟨rs, ps, honly⟩, fun h => hbefore (by omega), fun h => hafter ?_⟩
      have hne : pri ≠ n := by rintro rfl; simp [hbefore le_rfl] at hout
      omega
    | true =>
      rw [c.pauseTimerExpire_of_out hout]
      refine ⟨?_, fun h => ?_, fun h => ?_⟩
      · obtain ⟨rs', ps', h⟩ := c.released_only p n
        exact ⟨rs', ps', by rw [h, honly]⟩
      · rw [c.released_timerOut hp (by omega)]
        exact hbefore (by omega)
      · rw [c.released_paused p n hpri, c.released_broken p n hpri]
        by_cases e : n = pri
        · simp [e]
        · obtain ⟨h1, h2⟩ := hafter (by omega)
          simp [h1, h2]

theorem Block.pauseWdog_of_out {p : Nat} (hp : p < 256) {pri : Nat} (hpri : pri < 8) (out : b.timerOut p pri = true) :
    let t := b.pauseWdog p pri
    t.paused p pri = false ∧ t.broken p pri = false ∧ t = { b with regs := t.regs, ports := t.ports } := by
  obtain ⟨⟨rs, ps, honly⟩, -, hafter⟩ := b.expireAll_tells hp hpri out 8 le_rfl
  obtain ⟨hpaused, hbroken⟩ := hafter hpri
  unfold Block.pauseWdog
  rw [honly] at hpaused hbroken ⊢
  dsimp only
  rw [Block.not_wdogDue_of_unpaused _ hpaused, if_pos (by simp)]
  exact ⟨hpaused, hbroken, rfl⟩

/-! ## A write of the watchdog's register (R105) -/

/-- After the first n priorities have been compared: no timer has run down, and each that was due is broken, or is still to be compared. -/
theorem Block.wdogAll_tells {p : Nat} (hp : p < 256) (running : ∀ n, n < 8 → b.timerOut p n = false) (n : Nat) (hn : n ≤ 8) :
    let c := b.each n fun b pri => b.pauseWdog p pri
    (∀ k, k < 8 → c.timerOut p k = false) ∧
      ∀ k, k < 8 → b.wdogDue p k = true → (c.broken p k = true ∧ c.paused p k = false) ∨ (n ≤ k ∧ c.wdogDue p k = true) := by
  induction n with
  | zero => exact ⟨running, fun k _ h => .inr ⟨Nat.zero_le _, h⟩⟩
  | succ n ih =>
    rw [Block.each_succ]
    obtain ⟨hrun, hdue⟩ := ih (by omega)
    obtain ⟨c, hc⟩ : ∃ c, (b.each n fun b pri => b.pauseWdog p pri) = c := ⟨_, rfl⟩
    rw [hc] at hrun hdue ⊢
    cases hn' : c.wdogDue p n with
    | false =>
      rw [c.pauseWdog_of_not_due hrun hn']
      refine ⟨hrun, fun k hk h => (hdue k hk h).imp_right fun ⟨hle, hk'⟩ => ⟨?_, hk'⟩⟩
      have hne : k ≠ n := by rintro rfl; simp [hk'] at hn'
      omega
    | true =>
      rw [c.pauseWdog_of_due hrun hn']
      obtain ⟨mask, hmask⟩ : ∃ mask, (if c.fld (R.MAC_PAUSE_CFG p) F.MAC_PAUSE_CFG_RX_MODE = 1 then 0xFF else 2 ^ n) = mask := ⟨_, rfl⟩
      have hbit : bitOf mask n = true := by
        rw [← hmask]
        split
        · have : ∀ k : Fin 8, bitOf 0xFF k = true := by decide
          exact this ⟨n, by omega⟩
        · rw [bitOf_two_pow, decide_eq_true rfl]
      rw [hmask]
      refine ⟨fun k hk => (c.breakPause_timerOut hp mask k).trans (hrun k hk), fun k hk h => ?_⟩
      rw [c.breakPause_broken p mask hk, c.breakPause_paused p mask hk]
      cases hm : bitOf mask k with
      | true => exact .inl ⟨by simp, by simp⟩
      | false =>
        rw [c.breakPause_wdogDue hp mask hk hm]
        rcases hdue k hk h with ⟨h1, h2⟩ | ⟨h1, h2⟩
        · exact .inl ⟨by simp [h1], by simp [h2]⟩
        · have hne : k ≠ n := by rintro rfl; simp [hbit] at hm
          exact .inr ⟨by omega, h2⟩

/-! ## Queued pause frames (R100) -/

/-- The instants at which the priorities of `on` were last told of XOFF; those of `off` are no longer told. -/
def toldAtAfter (on off now : Nat) (m : SMap Nat) : SMap Nat :=
  (List.range 8).foldl (fun m k => if bitOf on k then SMap.set 0 m k now else if bitOf off k then SMap.del m k else m) m

theorem toldAtAfter_get (on off now : Nat) (m : SMap Nat) {k : Nat} (hk : k < 8) (h : bitOf on k = true) :
    SMap.get 0 (toldAtAfter on off now m) k = now := by
  have hfold (l : List Nat) (m : SMap Nat) (hl : k ∈ l ∨ SMap.get 0 m k = now) :
      SMap.get 0 (l.foldl (fun m k => if bitOf on k then SMap.set 0 m k now else if bitOf off k then SMap.del m k else m) m) k = now := by
    induction l generalizing m with
    | nil => simpa using hl
    | cons j l ih =>
      rw [List.foldl_cons]
      refine ih _ ?_
      by_cases e : k = j
      · subst e
        rw [if_pos h]
        exact .inr (SMap.get_set_same _ _ _ _)
      · refine hl.imp (fun h => by simpa [e] using h) fun h => ?_
        split
        · rw [SMap.get_set_other _ _ _ e, h]
        · split
          · rw [SMap.get_del_other _ _ e, h]
          · exact h
  exact hfold _ m (.inl (List.mem_range.mpr hk))

/-- The priorities that change to XOFF or are due for refresh, and those that leave XOFF. -/
def Block.tellOn (b : Block) (p : Nat) : Nat :=
  (b.xoffWanted p &&& (255 - b.xoffNow p)) ||| (b.xoffWanted p &&& b.refreshDue p)
def Block.tellOff (b : Block) (p : Nat) : Nat := b.xoffNow p &&& (255 - b.xoffWanted p)

theorem Block.tellPause_eq (p : Nat) :
    b.tellPause p = (b.setFld (R.MAC_PAUSE_STATUS p) F.MAC_PAUSE_STATUS_TX_XOFF (b.xoffWanted p)).modPort p fun x =>
      { x with ctrl := x.ctrl ++ [b.pauseFrame p (b.tellOn p) (b.tellOff p) (b.fld (R.MAC_PAUSE_TX_CFG p) F.MAC_PAUSE_TX_CFG_QUANTA)],
               toldAt := toldAtAfter (b.tellOn p) (b.tellOff p) b.ticks x.toldAt } := rfl

theorem Block.tellPause_tells (p : Nat) :
    let t := b.tellPause p
    t.xoffNow p = b.xoffWanted p % 256 ∧
      (t.port p).ctrl = (b.port p).ctrl ++
        [b.pauseFrame p (b.tellOn p) (b.tellOff p) (b.fld (R.MAC_PAUSE_TX_CFG p) F.MAC_PAUSE_TX_CFG_QUANTA)] ∧
      (∀ k : Fin 8, bitOf (b.tellOn p) k = true → SMap.get 0 (t.port p).toldAt k = b.ticks) ∧
      (∀ a, a ≠ R.MAC_PAUSE_STATUS p → t.word a = b.word a) ∧ (∀ j, j ≠ p → t.port j = b.port j) ∧
      t = { b with regs := t.regs, ports := t.ports } := by
  obtain ⟨hword, rs, ps, honly⟩ : b.OnPause p (b.tellPause p) := Block.OnPause.set ..
  have hnow : (b.tellPause p).xoffNow p = b.xoffWanted p % 256 := by
    rw [b.tellPause_eq, Block.xoffNow, Block.modPort_fld, Block.fld_setFld_same _ _ _ _ (by decide) (by decide)]
    rfl
  have hport (j : Nat) := Block.port_modPort (b.setFld (R.MAC_PAUSE_STATUS p) F.MAC_PAUSE_STATUS_TX_XOFF (b.xoffWanted p)) p (fun x =>
      { x with ctrl := x.ctrl ++ [b.pauseFrame p (b.tellOn p) (b.tellOff p) (b.fld (R.MAC_PAUSE_TX_CFG p) F.MAC_PAUSE_TX_CFG_QUANTA)],
               toldAt := toldAtAfter (b.tellOn p) (b.tellOff p) b.ticks x.toldAt }) j
  simp only [← b.tellPause_eq, Block.setFld_port] at hport
  intro t
  refine ⟨hnow, ?_, fun k hk => ?_, hword, fun j hj => ?_, ?_⟩
  · rw [hport p, if_pos rfl]
  · rw [hport p, if_pos rfl]
    exact toldAtAfter_get _ _ _ _ k.isLt hk
  · rw [hport j, if_neg hj]
  · rw [show t = _ from honly]

/-! ## The oldest queued frame on the wire (R101) -/

/-- From b to c nothing changed but the copies of port p, its preemption status and counters. -/
structure Block.OnTx (p : Nat) (b c : Block) : Prop where
  only : ∃ rs cs ps, c = { b with regs := rs, ctrs := cs, ports := ps }
  word : ∀ a, a ≠ R.MAC_PREEMPT_STATUS p → c.word a = b.word a
  port : ∀ j, j ≠ p → c.port j = b.port j
  ctrl : (c.port p).ctrl = (b.port p).ctrl
  ctrlAt : (c.port p).ctrlAt = (b.port p).ctrlAt

theorem Block.OnTx.refl (p : Nat) : b.OnTx p b := ⟨⟨b.regs, b.ctrs, b.ports, rfl⟩, fun _ _ => rfl, fun _ _ => rfl, rfl, rfl⟩
theorem Block.OnTx.trans {p : Nat} {b c d : Block} (h : b.OnTx p c) (h' : c.OnTx p d) : b.OnTx p d := by
  obtain ⟨⟨rs, cs, ps, rfl⟩, hw, hp, hc, ha⟩ := h
  obtain ⟨⟨rs', cs', ps', rfl⟩, hw', hp', hc', ha'⟩ := h'
  exact ⟨⟨rs', cs', ps', rfl⟩, fun a h => (hw' a h).trans (hw a h), fun j h => (hp' j h).trans (hp j h), hc'.trans hc, ha'.trans ha⟩

theorem Block.OnTx.modTx (p : Nat) (f : List TxCopy → List TxCopy) : b.OnTx p (b.modTx p f) := by
  have hport := b.port_modPort p fun x => { x with tx := f x.tx }
  have hp : (b.modTx p f).port p = { b.port p with tx := f (b.port p).tx } := (hport p).trans (if_pos rfl)
  exact ⟨⟨b.regs, b.ctrs, _, rfl⟩, fun _ _ => rfl, fun j hj => (hport j).trans (if_neg hj), by rw [hp], by rw [hp]⟩

theorem Block.OnTx.count (p a n : Nat) : b.OnTx p (b.count a n) := by
  obtain ⟨cs, h⟩ := (Block.Counted.refl b).count a n
  rw [h]
  exact ⟨⟨b.regs, cs, b.ports, rfl⟩, fun _ _ => rfl, fun _ _ => rfl, rfl, rfl⟩

theorem Block.OnTx.setStatus (p : Nat) (f : Bf) (v : Nat) : b.OnTx p (b.setFld (R.MAC_PREEMPT_STATUS p) f v) :=
  ⟨⟨_, b.ctrs, b.ports, rfl⟩, fun a h => by rw [Block.word_setFld, if_neg h], fun _ _ => Block.setFld_port .., by rw [Block.setFld_port],
    by rw [Block.setFld_port]⟩

/-- The end of a frame of port p: the frame that resumes, and preemption that ends. -/
theorem Block.afterTx_onTx (p : Nat) : b.OnTx p (b.afterTx p) := by
  have hresume : b.OnTx p (b.resumeTx p) := by
    unfold Block.resumeTx
    dsimp only
    split
    · exact Block.OnTx.refl b p
    · exact Block.OnTx.modTx ..
  refine hresume.trans ?_
  unfold Block.afterTx Block.preemptEnd Block.preemptOff
  dsimp only
  split
  · exact Block.OnTx.refl _ p
  · split
    · exact Block.OnTx.refl _ p
    · exact Block.OnTx.setStatus ..

theorem Block.afterTx_ctrs (p : Nat) : (b.afterTx p).ctrs = b.ctrs := by
  unfold Block.afterTx Block.resumeTx Block.preemptEnd Block.preemptOff
  dsimp only
  split <;> split <;> (try split) <;> rfl

/-- The frame on the wire, cut. -/
theorem Block.cutAt_onTx (p cut : Nat) : b.OnTx p (b.cutAt p cut) := by
  unfold Block.cutAt
  split
  · exact (Block.OnTx.count b p _ _).trans (Block.OnTx.modTx ..)
  · exact Block.OnTx.refl b p

theorem Block.OnTx.ticks {p : Nat} {b c : Block} (h : b.OnTx p c) : c.ticks = b.ticks := by
  obtain ⟨rs, cs, ps, rfl⟩ := h.only; rfl
theorem Block.OnTx.dies {p : Nat} {b c : Block} (h : b.OnTx p c) : c.dies = b.dies := by
  obtain ⟨rs, cs, ps, rfl⟩ := h.only; rfl
theorem Block.OnTx.landsOff {p : Nat} {b c : Block} (h : b.OnTx p c) : c.landsOff p = b.landsOff p := by
  have hne : R.MAC_PORT_STATE p ≠ R.MAC_PREEMPT_STATUS p := by unfold R.MAC_PORT_STATE R.MAC_PREEMPT_STATUS; omega
  rw [Block.landsOff, Block.fld, h.word _ hne, Block.landsOff, Block.fld]

/-- The counter of a generated frame. -/
def ctrlCounter (p : Nat) (f : List Byte) : Nat := if beAt f 14 2 == 1 then R.MAC_TX_PAUSE_FRAMES p else R.MAC_TX_PFC_FRAMES p

/-- Frame f leaves the queue of port p, now r, for the wire. -/
def Block.ctrlOut (b : Block) (p : Nat) (f : List Byte) (r : List (List Byte)) : Block :=
  ((b.modPort p fun x => { x with ctrl := r, ctrlAt := some b.ticks }).emit (.wire p f)).bwCount p 0 f.length

theorem Block.ctrlOut_only (p : Nat) (f : List Byte) (r : List (List Byte)) :
    ∃ ps, b.ctrlOut p f r = { b with ports := ps, out := b.out ++ [.wire p f] } := ⟨_, rfl⟩

theorem Block.ctrlOut_port (p : Nat) (f : List Byte) (r : List (List Byte)) (j : Nat) :
    (j ≠ p → (b.ctrlOut p f r).port j = b.port j) ∧ ((b.ctrlOut p f r).port p).ctrl = r ∧ ((b.ctrlOut p f r).port p).ctrlAt = some b.ticks := by
  unfold Block.ctrlOut Block.bwCount
  simp only [Block.port_modPort, Block.emit_port, if_true]
  refine ⟨fun h => by rw [if_neg h, if_neg h], ?_, ?_⟩
  · split <;> rfl
  · split <;> rfl

/-- The queue's oldest frame goes on the wire, over the frame there if any, and counts. -/
theorem Block.pauseFrameSend_of_may {p cut : Nat} {f : List Byte} {r : List (List Byte)} (queued : (b.port p).ctrl = f :: r)
    (up : b.receives p = true) (lands : b.landsOff p = false) (whole : b.txAt p .preempted = none) (may : b.mayEnter p cut = true) :
    b.pauseFrameSend p cut = (((b.cutAt p cut).ctrlOut p f r).count (ctrlCounter p f) 1).afterTx p := by
  have hcut := b.cutAt_onTx p cut
  have hlands : ((b.cutAt p cut).ctrlOut p f r).landsOff p = false := by
    obtain ⟨ps, h⟩ := (b.cutAt p cut).ctrlOut_only p f r
    rw [h]
    exact hcut.landsOff.trans lands
  unfold Block.pauseFrameSend Block.wireOut
  dsimp only
  rw [queued]
  dsimp only
  rw [if_neg (by simp [may, whole, up])]
  rw [Block.ctrlOut, hcut.ticks] at hlands ⊢
  rw [if_neg (by rw [hlands]; simp)]
  rfl

theorem Block.pauseFrameSend_of_may_not {p cut : Nat} (may : b.mayEnter p cut = false) : b.pauseFrameSend p cut = b := by
  unfold Block.pauseFrameSend
  dsimp only
  split
  · rw [if_pos (by simp [may])]
  · rfl

/-- What the oldest queued frame leaves when it goes on the wire of a port whose frame, if any, was cut in c. -/
theorem Block.ctrlSent_tells (p : Nat) (f : List Byte) (r : List (List Byte)) :
    let t := ((b.ctrlOut p f r).count (ctrlCounter p f) 1).afterTx p
    t.out = b.out ++ [.wire p f] ∧ (t.port p).ctrl = r ∧ (t.port p).ctrlAt = some b.ticks ∧ t.ctrs = (b.count (ctrlCounter p f) 1).ctrs ∧
      (∀ a, a ≠ R.MAC_PREEMPT_STATUS p → t.word a = b.word a) ∧ (∀ j, j ≠ p → t.port j = b.port j) ∧
      t = { b with out := t.out, ports := t.ports, ctrs := t.ctrs, regs := t.regs } := by
  obtain ⟨ps, honly⟩ := b.ctrlOut_only p f r
  have hport := b.ctrlOut_port p f r
  have htx := (Block.OnTx.count (b.ctrlOut p f r) p (ctrlCounter p f) 1).trans (Block.afterTx_onTx _ p)
  have hctrs := (Block.afterTx_ctrs ((b.ctrlOut p f r).count (ctrlCounter p f) 1) p).trans
    (Block.count_ctrs_congr (b := b) (c := b.ctrlOut p f r) (by rw [honly]) (by rw [honly]) (ctrlCounter p f) 1)
  obtain ⟨⟨rs, cs, qs, ht⟩, hword, hports, hctrl, hctrlAt⟩ := htx
  intro t
  refine ⟨?_, hctrl.trans (hport 0).2.1, hctrlAt.trans (hport 0).2.2, hctrs, fun a ha => (hword a ha).trans ?_,
    fun j hj => (hports j hj).trans ((hport j).1 hj), ?_⟩
  · rw [show t = _ from ht, honly]
  · rw [honly]; rfl
  · rw [show t = _ from ht, honly]

theorem Block.cutAt_of_idle {p : Nat} (cut : Nat) (idle : b.txAt p .sending = none) : b.cutAt p cut = b := by
  unfold Block.cutAt
  rw [idle, if_neg (by simp)]

theorem Block.cutAt_fragments {p : Nat} (hp : p < 256) (cut : Nat) (run : b.frozen (dieOfPort p) = false) {c : TxCopy}
    (busy : b.txAt p .sending = some c) : (b.cutAt p cut).ctr (R.MAC_TX_FRAGMENTS p) = (b.ctr (R.MAC_TX_FRAGMENTS p) + 1) % 2 ^ 64 := by
  have hcount := b.ctr_count_same (macBase p + 0x4C0) 1 ((b.stopped_mac hp (by omega)).trans run)
  unfold Block.cutAt
  rw [busy, if_pos (by simp), Block.modTxAt, Block.modTx, Block.modPort_ctr]
  exact hcount

theorem fragments_ne_ctrl (p : Nat) (f : List Byte) : R.MAC_TX_FRAGMENTS p ≠ ctrlCounter p f := by
  unfold ctrlCounter R.MAC_TX_FRAGMENTS R.MAC_TX_PAUSE_FRAMES R.MAC_TX_PFC_FRAMES
  split <;> omega

theorem takes_pauseWdog (p : Fin 256) (pri : Fin 8) : Takes (.pauseWdog p pri) b (b.pauseWdog p pri) := fun _ => rfl

/-! The commands that queue a pause frame, where there is a priority to tell of. -/

theorem takes_pauseXoff (p : Fin 256) : Takes (.pauseXoff p) b (if b.xoffWanted p &&& (255 - b.xoffNow p) = 0 then b else b.tellPause p) :=
  takes_congr (u := b.pauseXoff p) (fun _ => rfl) (by simp only [Block.pauseXoff, beq_iff_eq])
theorem takes_pauseRefresh (p : Fin 256) : Takes (.pauseRefresh p) b (if b.xoffWanted p &&& b.refreshDue p = 0 then b else b.tellPause p) :=
  takes_congr (u := b.pauseRefresh p) (fun _ => rfl) (by simp only [Block.pauseRefresh, beq_iff_eq])
theorem takes_pauseXon (p : Fin 256) : Takes (.pauseXon p) b (if b.xoffNow p &&& (255 - b.xoffWanted p) = 0 then b else b.tellPause p) :=
  takes_congr (u := b.pauseXon p) (fun _ => rfl) (by simp only [Block.pauseXon, beq_iff_eq])

/-- A write of the watchdog's register leaves what the timers run by. -/
theorem Block.storeWdog_timerOut {p : Nat} (hp : p < 256) (w : Writer) (v n : Nat) :
    (b.storeReg w (R.PRT_PAUSE_WDOG p) v).timerOut p n = b.timerOut p n := by
  obtain ⟨-, -, -, hne⟩ := pauseRegs_ne hp
  refine Block.timerOut_congr ?_ (by rw [Block.storeReg_port]) (by rw [Block.storeReg_port]) (Block.storeReg_ticks ..)
  rw [Block.fld, Block.word_storeReg_other _ _ _ hne, Block.fld]

/-- Settles O5: the breaks of long pauses, and the pause frames that a port queues and sends (R100, R101, R103, R105). -/
theorem pausesAreSentAndLongOnesBroken : Obligations.PausesAreSentAndLongOnesBroken := by
  unfold Obligations.PausesAreSentAndLongOnesBroken
  refine ⟨⟨?_, ?_, ?_, ?_⟩, ?_, ?_⟩
  · intro b p pri running due mask
    have hbreak := b.pauseWdog_of_due (fun n hn => running ⟨n, hn⟩) due
    refine ⟨b.breakPause p mask, takes_congr (takes_pauseWdog b p pri) hbreak, fun n hn => ?_, fun n hn => ?_, ?_⟩
    · rw [b.breakPause_broken p mask n.isLt, b.breakPause_paused p mask n.isLt, hn]
      simp
    · rw [b.breakPause_broken p mask n.isLt, b.breakPause_paused p mask n.isLt, hn]
      simp
    · obtain ⟨-, -, -, hinflight, hctrs, honly⟩ := b.breakPause_tells p mask
      exact ⟨hinflight, hctrs, honly⟩
  · intro b p pri running due
    exact takes_congr (takes_pauseWdog b p pri) (b.pauseWdog_of_not_due (fun n hn => running ⟨n, hn⟩) due)
  · intro b p pri out
    exact ⟨b.pauseWdog p pri, fun _ => rfl, b.pauseWdog_of_out p.isLt pri.isLt out⟩
  · intro b w p v hreach running b1
    have running1 (n : Nat) (hn : n < 8) : b1.timerOut p n = false := (b.storeWdog_timerOut p.isLt w _ n).trans (running ⟨n, hn⟩)
    refine ⟨b.pauseWdogWrite w p v.toNat, takes_of_write hreach fun _ => rfl, fun n hn => ?_, fun h => ?_⟩
    · obtain ⟨-, hall⟩ := b1.wdogAll_tells p.isLt running1 8 le_rfl
      rcases hall n n.isLt hn with h | ⟨h, -⟩
      · exact h
      · exact absurd n.isLt (by omega)
    · exact b1.each_id fun k hk => b1.pauseWdog_of_not_due running1 (h ⟨k, hk⟩)
  · intro b p want now on off tells
    have htells : tells (b.tellPause p) := by
      have h := b.tellPause_tells p
      unfold Block.tellOn Block.tellOff at h
      exact h
    exact ⟨fun h => ⟨_, takes_congr (takes_pauseXoff b p) (if_neg h), htells⟩, fun h => takes_congr (takes_pauseXoff b p) (if_pos h),
      fun h => ⟨_, takes_congr (takes_pauseRefresh b p) (if_neg h), htells⟩, fun h => takes_congr (takes_pauseRefresh b p) (if_pos h),
      fun h => ⟨_, takes_congr (takes_pauseXon b p) (if_neg h), htells⟩, fun h => takes_congr (takes_pauseXon b p) (if_pos h)⟩
  · intro b p cut f r queued up lands whole
    refine ⟨fun idle => ?_, fun busy may => takes_congr (fun _ => rfl) (b.pauseFrameSend_of_may_not may), fun c busy may => ?_⟩
    · have may : b.mayEnter p cut = true := by rw [Block.mayEnter, idle]
      have hsend := b.pauseFrameSend_of_may queued up lands whole may
      rw [b.cutAt_of_idle cut idle] at hsend
      obtain ⟨hout, hctrl, hat, hctrs, hword, hport, honly⟩ := b.ctrlSent_tells p f r
      refine ⟨_, takes_congr (fun _ => rfl) hsend, hout, hctrl, hat, ?_, hword, hport, honly⟩
      rw [hctrs, ctrlCounter]
      simp only [beq_iff_eq]
    · have run : b.frozen (dieOfPort p) = false := by
        have h := up
        simp only [Block.receives, Bool.and_eq_true, Bool.not_eq_true'] at h
        exact h.2
      obtain ⟨hout, hctrl, -, hctrs, -, -, -⟩ := (b.cutAt p cut).ctrlSent_tells p f r
      obtain ⟨⟨rs, cs, ps, hcut⟩, -⟩ := b.cutAt_onTx p cut
      refine ⟨_, takes_congr (fun _ => rfl) (b.pauseFrameSend_of_may queued up lands whole may), hout.trans (by rw [hcut]), hctrl, ?_⟩
      rw [Block.ctr, hctrs]
      exact ((b.cutAt p cut).ctr_count_other 1 (fragments_ne_ctrl p f)).trans (b.cutAt_fragments p.isLt cut run busy)

end Sys2Proof.Machine
end

section
/-!
PROOFS. Which fields a change of the block sets, and the parts of a port's bring-up (R81 to R83, R85, R89, R90): what each of them leaves of
the port's status, of its lanes and of its phase.
-/
namespace Sys2Proof.Machine
open Sys2Proof

variable (b : Block)

/-! ## The fields that a change sets -/

/-- g is a field, and no bit of it lies in f. -/
def Bf.apart (f g : Bf) : Bool := g.lo ≤ g.hi && (f.hi < g.lo || g.hi < f.lo)

theorem Bf.apart_iff (f g : Bf) : f.apart g = true ↔ g.lo ≤ g.hi ∧ (f.hi < g.lo ∨ g.hi < f.lo) := by simp [Bf.apart]

/-- From b to c nothing changed but fields of L, the ports and what left the block. -/
structure Block.Sets (L : List (Nat × Bf)) (b c : Block) : Prop where
  fld : ∀ a g, (∀ x ∈ L, x.1 = a → x.2.apart g) → c.fld a g = b.fld a g
  only : ∃ rs ps o, c = { b with regs := rs, ports := ps, out := o }

namespace Block.Sets

theorem refl (L : List (Nat × Bf)) : b.Sets L b := ⟨fun _ _ _ => rfl, b.regs, b.ports, b.out, rfl⟩

variable {b c d : Block} {L M : List (Nat × Bf)}

theorem trans (h : b.Sets L c) (h' : c.Sets L d) : b.Sets L d := by
  obtain ⟨hf, rs, ps, o, rfl⟩ := h
  obtain ⟨hf', rs', ps', o', rfl⟩ := h'
  exact ⟨fun a g hg => (hf' a g hg).trans (hf a g hg), rs', ps', o', rfl⟩

theorem mono (h : b.Sets L c) (hLM : ∀ x ∈ L, x ∈ M) : b.Sets M c := ⟨fun a g hg => h.fld a g fun x hx => hg x (hLM x hx), h.only⟩

theorem setFld (h : b.Sets L c) {a : Nat} {f : Bf} (v : Nat) (hm : (a, f) ∈ L) (wide : f.hi < 32) (order : f.lo ≤ f.hi) :
    b.Sets L (c.setFld a f v) := by
  refine h.trans ⟨fun e g hg => ?_, (c.setFld a f v).regs, c.ports, c.out, rfl⟩
  by_cases he : e = a
  · subst he
    obtain ⟨horder, hapart⟩ := (Bf.apart_iff _ _).mp (hg _ hm rfl)
    exact Block.fld_setFld_apart _ _ _ _ _ wide order horder hapart
  · exact Block.fld_setFld_other _ _ _ _ he

theorem modPort (h : b.Sets L c) (p : Nat) (f : Port → Port) : b.Sets L (c.modPort p f) := h.trans ⟨fun _ _ _ => rfl, _, _, _, rfl⟩
theorem emit (h : b.Sets L c) (o : Output) : b.Sets L (c.emit o) := h.trans ⟨fun _ _ _ => rfl, _, _, _, rfl⟩

theorem each (n : Nat) (f : Block → Nat → Block) (hf : ∀ (c : Block) k, k < n → c.Sets L (f c k)) (b : Block) : b.Sets L (b.each n f) := by
  induction n with
  | zero => exact refl b L
  | succ n ih =>
    rw [Block.each_succ]
    exact (ih fun c k hk => hf c k (by omega)).trans (hf _ n (by omega))

theorem flag (h : b.Sets L c) {a : Nat} {g : Bf} (hg : ∀ x ∈ L, x.1 = a → x.2.apart g) : c.flag a g = b.flag a g := by
  rw [Block.flag, Block.flag, h.fld a g hg]

/-- A word none of whose fields is set. -/
theorem word (h : b.Sets L c) {a : Nat} (ha : ∀ x ∈ L, x.1 ≠ a) : c.word a = b.word a := by
  have hfld := h.fld a ⟨31, 0⟩ fun x hx e => absurd e (ha x hx)
  simp only [Block.fld, Bf.of, Nat.pow_zero, Nat.div_one] at hfld
  rwa [Nat.mod_eq_of_lt (c.word_lt a), Nat.mod_eq_of_lt (b.word_lt a)] at hfld

theorem frozen (h : b.Sets L c) (d : Nat) : c.frozen d = b.frozen d := by obtain ⟨rs, ps, o, rfl⟩ := h.only; rfl

end Block.Sets

/-! ## The registers of a port and its lanes -/

/-- Field f of LANE_STATUS of each lane of port p. -/
def laneFlds (p : Nat) (f : Bf) : List (Nat × Bf) := (List.range 4).map fun k => (R.LANE_STATUS (4 * p + k), f)

theorem mem_laneFlds {p k : Nat} (f : Bf) (hk : k < 4) : (R.LANE_STATUS (4 * p + k), f) ∈ laneFlds p f :=
  List.mem_map.mpr ⟨k, List.mem_range.mpr hk, rfl⟩

theorem laneStatus_ne_mac (n p : Nat) {o : Nat} (h : o % 0x800 ≠ 0x10) : R.LANE_STATUS n ≠ macBase p + o := by
  unfold R.LANE_STATUS laneBase macBase
  omega

theorem apart_laneFlds {p q o : Nat} {f g : Bf} (h : o % 0x800 ≠ 0x10) : ∀ x ∈ laneFlds p f, x.1 = macBase q + o → x.2.apart g := by
  intro x hx e
  obtain ⟨k, -, rfl⟩ := List.mem_map.mp hx
  exact absurd e (laneStatus_ne_mac _ _ h)

theorem apart_laneFlds_link (p : Nat) {f g : Bf} : ∀ x ∈ laneFlds p f, x.1 = R.MAC_LINK_STATUS p → x.2.apart g :=
  apart_laneFlds (by decide)

theorem laneStatus_ne_low (n : Nat) {a : Nat} (h : a < 0x1000000) : R.LANE_STATUS n ≠ a := by
  unfold R.LANE_STATUS laneBase
  omega

/-! ## The parts of a bring-up -/

/-- What the start of a bring-up sets: fields of LINK_STATUS, and LT_ACTIVE of the lanes. -/
def bringFlds (p : Nat) : List (Nat × Bf) :=
  [(R.MAC_LINK_STATUS p, F.MAC_LINK_STATUS_AN_DONE), (R.MAC_LINK_STATUS p, F.MAC_LINK_STATUS_LT_DONE),
   (R.MAC_LINK_STATUS p, F.MAC_LINK_STATUS_AN_NO_COMMON), (R.MAC_LINK_STATUS p, F.MAC_LINK_STATUS_ALIGN_LOCK),
   (R.MAC_LINK_STATUS p, F.MAC_LINK_STATUS_LOCAL_FAULT)] ++ laneFlds p F.LANE_STATUS_LT_ACTIVE

/-- What the receivers of dark lanes show. -/
def darkFlds (p : Nat) : List (Nat × Bf) :=
  (R.MAC_LINK_STATUS p, F.MAC_LINK_STATUS_LANE_LOCK) ::
    (laneFlds p F.LANE_STATUS_SIGNAL_DETECT ++ laneFlds p F.LANE_STATUS_CDR_LOCK ++ laneFlds p F.LANE_STATUS_LT_ACTIVE)

theorem Block.negStatus_sets (p : Nat) : b.Sets (bringFlds p) (b.negStatus p) := by
  refine ((Block.Sets.refl b _).setFld _ ?_ (by decide) (by decide)).setFld _ ?_ (by decide) (by decide) <;> simp [bringFlds]

theorem Block.ltActive_sets (p : Nat) (on : Bool) : b.Sets (laneFlds p F.LANE_STATUS_LT_ACTIVE) (b.ltActive p on) :=
  Block.Sets.each 4 _ (fun c _ hk => (Block.Sets.refl c _).setFld _ (mem_laneFlds _ hk) (by decide) (by decide)) b

theorem laneFlds_sub_bringFlds (p : Nat) : ∀ x ∈ laneFlds p F.LANE_STATUS_LT_ACTIVE, x ∈ bringFlds p :=
  fun _ hx => List.mem_append_right _ hx

theorem Block.localFault_sets (p : Nat) (on : Bool) :
    b.Sets [(R.MAC_LINK_STATUS p, F.MAC_LINK_STATUS_LOCAL_FAULT)] (b.localFault p on) := by
  have hset := (Block.Sets.refl b [(R.MAC_LINK_STATUS p, F.MAC_LINK_STATUS_LOCAL_FAULT)]).setFld (b2n on) (List.mem_singleton.mpr rfl)
    (by decide) (by decide)
  unfold Block.localFault
  dsimp only
  split
  · exact hset.emit _
  · exact hset

theorem Block.startTraining_sets (p : Nat) : b.Sets (bringFlds p) (b.startTraining p) := by
  refine Block.Sets.modPort (((Block.Sets.refl b _).setFld _ ?_ (by decide) (by decide)).trans
    ((Block.ltActive_sets _ p _).mono (laneFlds_sub_bringFlds p))) _ _
  simp [bringFlds]

theorem Block.startNegotiation_sets (p : Nat) (L : List (Nat × Bf)) : b.Sets L (b.startNegotiation p) :=
  ((Block.Sets.refl b L).emit _).modPort _ _

theorem Block.bringUp_sets (p : Nat) : b.Sets (bringFlds p) (b.bringUp p) := by
  have hneg : b.Sets (bringFlds p) (((b.negStatus p).ltActive p false).lower (R.MAC_LINK_STATUS p) F.MAC_LINK_STATUS_AN_NO_COMMON) :=
    ((b.negStatus_sets p).trans ((Block.ltActive_sets _ p _).mono (laneFlds_sub_bringFlds p))).setFld _ (by simp [bringFlds]) (by decide)
      (by decide)
  obtain ⟨c, hc⟩ : ∃ c, ((b.negStatus p).ltActive p false).lower (R.MAC_LINK_STATUS p) F.MAC_LINK_STATUS_AN_NO_COMMON = c := ⟨_, rfl⟩
  have hfault : b.Sets (bringFlds p) ((c.lower (R.MAC_LINK_STATUS p) F.MAC_LINK_STATUS_ALIGN_LOCK).localFault p true) :=
    ((hc ▸ hneg).setFld _ (by simp [bringFlds]) (by decide) (by decide)).trans
      ((Block.localFault_sets _ p _).mono (by simp [bringFlds]))
  unfold Block.bringUp
  dsimp only
  rw [hc] at hneg ⊢
  split
  · exact hneg.modPort _ _
  · split
    · exact hfault.trans (Block.startNegotiation_sets _ p _)
    · exact hfault.trans (Block.startTraining_sets _ p)

theorem Block.darkLanes_sets (p m : Nat) : b.Sets (darkFlds p) (b.darkLanes p m) := by
  have hlane (f : Bf) (hf : f = F.LANE_STATUS_SIGNAL_DETECT ∨ f = F.LANE_STATUS_CDR_LOCK ∨ f = F.LANE_STATUS_LT_ACTIVE) {k : Nat} (hk : k < 4) :
      (R.LANE_STATUS (4 * p + k), f) ∈ darkFlds p := by
    have h := mem_laneFlds (p := p) f hk
    rcases hf with rfl | rfl | rfl <;> simp [darkFlds, h]
  unfold Block.darkLanes
  dsimp only
  refine Block.Sets.setFld (Block.Sets.each 4 _ (fun c k hk => ?_) b) _ (by simp [darkFlds]) (by decide) (by decide)
  split
  · exact (((Block.Sets.refl c _).setFld _ (hlane _ (by simp) hk) (by decide) (by decide)).setFld _ (hlane _ (by simp) hk) (by decide)
      (by decide)).setFld _ (hlane _ (by simp) hk) (by decide) (by decide)
  · exact Block.Sets.refl c _

/-! ## What the parts of a bring-up leave -/

theorem bringFlds_ne {p a : Nat} (h : a ≠ R.MAC_LINK_STATUS p) (hl : ∀ n, R.LANE_STATUS n ≠ a) : ∀ x ∈ bringFlds p, x.1 ≠ a := by
  intro x hx
  rcases List.mem_append.mp hx with hx | hx
  · simp only [List.mem_cons, List.not_mem_nil, or_false] at hx
    rcases hx with rfl | rfl | rfl | rfl | rfl <;> exact h.symm
  · obtain ⟨k, -, rfl⟩ := List.mem_map.mp hx
    exact hl _

theorem darkFlds_ne {p a : Nat} (h : a ≠ R.MAC_LINK_STATUS p) (hl : ∀ n, R.LANE_STATUS n ≠ a) : ∀ x ∈ darkFlds p, x.1 ≠ a := by
  intro x hx
  simp only [darkFlds, List.mem_append, List.mem_cons] at hx
  rcases hx with rfl | (hx | hx) | hx
  · exact h.symm
  all_goals
    obtain ⟨k, -, rfl⟩ := List.mem_map.mp hx
    exact hl _

/-- A field of LINK_STATUS that a bring-up, or dark lanes, leave. -/
theorem bringFlds_apart {p : Nat} {g : Bf} (h : (F.MAC_LINK_STATUS_AN_DONE.apart g && F.MAC_LINK_STATUS_LT_DONE.apart g &&
      F.MAC_LINK_STATUS_AN_NO_COMMON.apart g && F.MAC_LINK_STATUS_ALIGN_LOCK.apart g && F.MAC_LINK_STATUS_LOCAL_FAULT.apart g) = true) :
    ∀ x ∈ bringFlds p, x.1 = R.MAC_LINK_STATUS p → x.2.apart g := by
  intro x hx e
  simp only [Bool.and_eq_true] at h
  obtain ⟨⟨⟨⟨h1, h2⟩, h3⟩, h4⟩, h5⟩ := h
  rcases List.mem_append.mp hx with hx | hx
  · simp only [List.mem_cons, List.not_mem_nil, or_false] at hx
    rcases hx with rfl | rfl | rfl | rfl | rfl <;> assumption
  · exact apart_laneFlds (by decide) x hx e

theorem darkFlds_apart {p : Nat} {g : Bf} (h : F.MAC_LINK_STATUS_LANE_LOCK.apart g = true) :
    ∀ x ∈ darkFlds p, x.1 = R.MAC_LINK_STATUS p → x.2.apart g := by
  intro x hx e
  simp only [darkFlds, List.mem_append, List.mem_cons] at hx
  rcases hx with rfl | (hx | hx) | hx
  · exact h
  all_goals exact apart_laneFlds (by decide) x hx e

theorem portCfg_ne_lane (p n : Nat) : R.LANE_STATUS n ≠ R.MAC_PORT_CFG p := laneStatus_ne_mac _ _ (by decide)
theorem bringFlds_ne_portCfg (p : Nat) : ∀ x ∈ bringFlds p, x.1 ≠ R.MAC_PORT_CFG p :=
  bringFlds_ne (by unfold R.MAC_PORT_CFG R.MAC_LINK_STATUS; omega) (portCfg_ne_lane p)
theorem bringFlds_ne_bootStatus (p : Nat) : ∀ x ∈ bringFlds p, x.1 ≠ R.BOOT_STATUS :=
  bringFlds_ne (by unfold R.BOOT_STATUS bootBase R.MAC_LINK_STATUS macBase; omega)
    fun n => laneStatus_ne_low n (by unfold R.BOOT_STATUS bootBase; omega)

/-- What a port's bring-up goes by stands in PORT_CFG. -/
theorem Block.portCfg_congr {b c : Block} {p : Nat} (h : c.word (R.MAC_PORT_CFG p) = b.word (R.MAC_PORT_CFG p)) :
    c.negotiates p = b.negotiates p ∧ c.trains p = b.trains p ∧ c.mediaC2m p = b.mediaC2m p ∧ c.lanesUsed p = b.lanesUsed p ∧
      ∀ g, c.fld (R.MAC_PORT_CFG p) g = b.fld (R.MAC_PORT_CFG p) g := by
  have hfld (g : Bf) : c.fld (R.MAC_PORT_CFG p) g = b.fld (R.MAC_PORT_CFG p) g := by rw [Block.fld, h, Block.fld]
  have hflag (g : Bf) : c.flag (R.MAC_PORT_CFG p) g = b.flag (R.MAC_PORT_CFG p) g := by rw [Block.flag, hfld, Block.flag]
  have hmedia : c.mediaC2m p = b.mediaC2m p := by rw [Block.mediaC2m, hfld, Block.mediaC2m]
  refine ⟨?_, ?_, hmedia, ?_, hfld⟩
  · rw [Block.negotiates, hflag, hmedia, Block.negotiates]
  · rw [Block.trains, hflag, hmedia, Block.trains]
  · simp only [Block.lanesUsed, hfld]

theorem Block.started_congr {b c : Block} (h : c.word R.BOOT_STATUS = b.word R.BOOT_STATUS) : c.started = b.started := by
  simp only [Block.started, Block.flag, Block.fld, h]

theorem Block.negStatus_flags (p : Nat) :
    (b.negStatus p).flag (R.MAC_LINK_STATUS p) F.MAC_LINK_STATUS_AN_DONE = !b.negotiates p ∧
      (b.negStatus p).flag (R.MAC_LINK_STATUS p) F.MAC_LINK_STATUS_LT_DONE = !b.trains p := by
  unfold Block.negStatus Block.flag
  dsimp only
  rw [Block.fld_setFld_apart _ _ _ _ _ (by decide) (by decide) (by decide) (by decide), Block.fld_setFld_same _ _ _ _ (by decide) (by decide),
    Block.fld_setFld_same _ _ _ _ (by decide) (by decide)]
  cases b.negotiates p <;> cases b.trains p <;> exact ⟨rfl, rfl⟩

/-! Nothing but registers changes. -/

theorem Block.each_regs {n : Nat} {f : Block → Nat → Block} (hf : ∀ (c : Block) k, ∃ rs, f c k = { c with regs := rs }) :
    ∃ rs, b.each n f = { b with regs := rs } := by
  induction n with
  | zero => exact ⟨b.regs, rfl⟩
  | succ n ih =>
    obtain ⟨rs, h⟩ := ih
    obtain ⟨rs', h'⟩ := hf (b.each n f) n
    exact ⟨rs', by rw [Block.each_succ, h', h]⟩

theorem Block.setFld_regs (a : Nat) (f : Bf) (v : Nat) : ∃ rs, b.setFld a f v = { b with regs := rs } := ⟨_, rfl⟩
theorem Block.andNotFld_regs (a : Nat) (f : Bf) (v : Nat) : ∃ rs, b.andNotFld a f v = { b with regs := rs } := ⟨_, rfl⟩

theorem Block.ltActive_regs (p : Nat) (on : Bool) : ∃ rs, b.ltActive p on = { b with regs := rs } :=
  b.each_regs fun c _ => c.setFld_regs _ _ _

theorem Block.darkLanes_regs (p m : Nat) : ∃ rs, b.darkLanes p m = { b with regs := rs } := by
  have hlower (c : Block) (n : Nat) (f g h : Bf) : ∃ rs, ((c.lower n f).lower n g).lower n h = { c with regs := rs } := ⟨_, rfl⟩
  obtain ⟨rs, h⟩ : ∃ rs, (b.each 4 fun b k => if bitOf m k then ((b.lower (R.LANE_STATUS (4 * p + k)) F.LANE_STATUS_SIGNAL_DETECT).lower
      (R.LANE_STATUS (4 * p + k)) F.LANE_STATUS_CDR_LOCK).lower (R.LANE_STATUS (4 * p + k)) F.LANE_STATUS_LT_ACTIVE else b) =
      { b with regs := rs } := b.each_regs fun c k => by split; exacts [hlower c _ _ _ _, ⟨c.regs, rfl⟩]
  obtain ⟨rs', h'⟩ := Block.andNotFld_regs { b with regs := rs } (R.MAC_LINK_STATUS p) F.MAC_LINK_STATUS_LANE_LOCK m
  unfold Block.darkLanes
  dsimp only
  rw [h, h']
  exact ⟨rs', rfl⟩

theorem Block.negStatus_regs (p : Nat) : ∃ rs, b.negStatus p = { b with regs := rs } := by
  have hset (f g : Bf) (v w : Nat) : ∃ rs, (b.setFld (R.MAC_LINK_STATUS p) f v).setFld (R.MAC_LINK_STATUS p) g w = { b with regs := rs } :=
    ⟨_, rfl⟩
  exact hset _ _ _ _

theorem Block.localFault_ports (p : Nat) (on : Bool) : (b.localFault p on).ports = b.ports := by
  unfold Block.localFault; dsimp only; split <;> rfl

theorem Block.startTraining_port (p q : Nat) :
    (b.startTraining p).port q =
      if q = p then { b.port p with bring := if b.trains p then .training else .adapting } else b.port q := by
  obtain ⟨rs, h⟩ := (b.setFld (R.MAC_LINK_STATUS p) F.MAC_LINK_STATUS_LT_DONE (b2n !b.trains p)).ltActive_regs p (b.trains p)
  unfold Block.startTraining
  dsimp only
  rw [h, Block.port_modPort]
  rfl

theorem Block.startNegotiation_port (p q : Nat) :
    (b.startNegotiation p).port q = if q = p then { b.port p with bring := .negotiating } else b.port q := by
  unfold Block.startNegotiation
  dsimp only
  rw [Block.port_modPort]
  rfl

/-- The phase that a bring-up of port p starts in (R81 to R83, R89). -/
def Block.bringNext (b : Block) (p : Nat) : BringUp :=
  if b.flag (R.MAC_PORT_CFG p) F.MAC_PORT_CFG_ENABLE && !b.frozen (dieOfPort p) && b.started then
    (if b.negotiates p then .negotiating else if b.trains p then .training else .adapting)
  else .down

/-- The block when a bring-up of port p has set what it sets in every case. -/
def Block.bringStart (b : Block) (p : Nat) : Block :=
  ((b.negStatus p).ltActive p false).lower (R.MAC_LINK_STATUS p) F.MAC_LINK_STATUS_AN_NO_COMMON

theorem Block.bringStart_sets (p : Nat) : b.Sets (bringFlds p) (b.bringStart p) :=
  ((b.negStatus_sets p).trans ((Block.ltActive_sets _ p _).mono (laneFlds_sub_bringFlds p))).setFld _ (by simp [bringFlds]) (by decide)
    (by decide)

theorem Block.bringStart_regs (p : Nat) : ∃ rs, b.bringStart p = { b with regs := rs } := by
  obtain ⟨rs, h⟩ := b.negStatus_regs p
  obtain ⟨rs', h'⟩ := (b.negStatus p).ltActive_regs p false
  obtain ⟨rs'', h''⟩ := ((b.negStatus p).ltActive p false).setFld_regs (R.MAC_LINK_STATUS p) F.MAC_LINK_STATUS_AN_NO_COMMON 0
  exact ⟨rs'', by rw [Block.bringStart, Block.lower, h'', h', h]⟩

theorem Block.bringStart_ltDone (p : Nat) : (b.bringStart p).flag (R.MAC_LINK_STATUS p) F.MAC_LINK_STATUS_LT_DONE = !b.trains p := by
  rw [Block.bringStart, Block.lower, Block.flag, Block.fld_setFld_apart _ _ _ _ _ (by decide) (by decide) (by decide) (by decide),
    (Block.ltActive_sets (b.negStatus p) p false).fld _ _ (apart_laneFlds_link p), ← Block.flag, (b.negStatus_flags p).2]

/-- Whether port p does not start: it is disabled, its die is held, or the boot has not completed. -/
def Block.staysDown (b : Block) (p : Nat) : Bool :=
  !b.flag (R.MAC_PORT_CFG p) F.MAC_PORT_CFG_ENABLE || b.frozen (dieOfPort p) || !b.started

/-- A bring-up, by whether the port starts, and where. -/
theorem Block.bringUp_eq (p : Nat) :
    b.bringUp p =
      let c := b.bringStart p
      if b.staysDown p then c.modPort p fun x => { x with bring := .down }
      else
        let e := (c.lower (R.MAC_LINK_STATUS p) F.MAC_LINK_STATUS_ALIGN_LOCK).localFault p true
        if b.negotiates p then e.startNegotiation p else e.startTraining p := by
  have hsets := b.bringStart_sets p
  obtain ⟨-, -, -, -, hcfg⟩ := Block.portCfg_congr (hsets.word (bringFlds_ne_portCfg p))
  have hstart := Block.started_congr (hsets.word (bringFlds_ne_bootStatus p))
  have hdown : (!(b.bringStart p).flag (R.MAC_PORT_CFG p) F.MAC_PORT_CFG_ENABLE || (b.bringStart p).frozen (dieOfPort p) ||
      !(b.bringStart p).started) = b.staysDown p := by
    rw [Block.flag, hcfg, hsets.frozen, hstart, Block.staysDown, Block.flag]
  have hneg : (((b.bringStart p).lower (R.MAC_LINK_STATUS p) F.MAC_LINK_STATUS_ALIGN_LOCK).localFault p true).negotiates p =
      b.negotiates p := by
    have h := (hsets.setFld (a := R.MAC_LINK_STATUS p) (f := F.MAC_LINK_STATUS_ALIGN_LOCK) 0 (by simp [bringFlds]) (by decide)
      (by decide)).trans ((Block.localFault_sets _ p true).mono (by simp [bringFlds]))
    exact (Block.portCfg_congr (h.word (bringFlds_ne_portCfg p))).1
  unfold Block.bringUp
  dsimp only
  rw [← Block.bringStart, hdown, hneg]

theorem Block.bringUp_port (p q : Nat) :
    (b.bringUp p).port q = if q = p then { b.port p with bring := b.bringNext p } else b.port q := by
  obtain ⟨rs, hstart⟩ := b.bringStart_regs p
  have hc (q : Nat) : (b.bringStart p).port q = b.port q := by rw [hstart]; rfl
  have he (q : Nat) : (((b.bringStart p).lower (R.MAC_LINK_STATUS p) F.MAC_LINK_STATUS_ALIGN_LOCK).localFault p true).port q = b.port q := by
    rw [Block.port, Block.localFault_ports, ← hc q, Block.lower, Block.setFld_ports, Block.port]
  have htrains : (((b.bringStart p).lower (R.MAC_LINK_STATUS p) F.MAC_LINK_STATUS_ALIGN_LOCK).localFault p true).trains p = b.trains p := by
    have h := ((b.bringStart_sets p).setFld (a := R.MAC_LINK_STATUS p) (f := F.MAC_LINK_STATUS_ALIGN_LOCK) 0 (by simp [bringFlds])
      (by decide) (by decide)).trans ((Block.localFault_sets _ p true).mono (by simp [bringFlds]))
    exact (Block.portCfg_congr (h.word (bringFlds_ne_portCfg p))).2.1
  have hnext : b.bringNext p = if b.staysDown p then .down else
      if b.negotiates p then .negotiating else if b.trains p then .training else .adapting := by
    unfold Block.bringNext Block.staysDown
    cases b.flag (R.MAC_PORT_CFG p) F.MAC_PORT_CFG_ENABLE <;> cases b.frozen (dieOfPort p) <;> cases b.started <;> rfl
  rw [b.bringUp_eq, hnext]
  dsimp only
  split
  · rw [Block.port_modPort, hc, hc]
  · split
    · rw [Block.startNegotiation_port, he, he]
    · rw [Block.startTraining_port, he, he, htrains]

/-- LT_DONE after the start of a bring-up: 1 where the port does not train (Table 3-6). -/
theorem Block.bringUp_ltDone (p : Nat) : (b.bringUp p).flag (R.MAC_LINK_STATUS p) F.MAC_LINK_STATUS_LT_DONE = !b.trains p := by
  have hkeep : (((b.bringStart p).lower (R.MAC_LINK_STATUS p) F.MAC_LINK_STATUS_ALIGN_LOCK).localFault p true).flag (R.MAC_LINK_STATUS p)
      F.MAC_LINK_STATUS_LT_DONE = !b.trains p := by
    rw [(Block.localFault_sets _ p true).flag (by simp [Bf.apart, F.MAC_LINK_STATUS_LOCAL_FAULT, F.MAC_LINK_STATUS_LT_DONE]), Block.lower,
      Block.flag, Block.fld_setFld_apart _ _ _ _ _ (by decide) (by decide) (by decide) (by decide), ← Block.flag, b.bringStart_ltDone]
  have htrains : (((b.bringStart p).lower (R.MAC_LINK_STATUS p) F.MAC_LINK_STATUS_ALIGN_LOCK).localFault p true).trains p = b.trains p := by
    have h := ((b.bringStart_sets p).setFld (a := R.MAC_LINK_STATUS p) (f := F.MAC_LINK_STATUS_ALIGN_LOCK) 0 (by simp [bringFlds])
      (by decide) (by decide)).trans ((Block.localFault_sets _ p true).mono (by simp [bringFlds]))
    exact (Block.portCfg_congr (h.word (bringFlds_ne_portCfg p))).2.1
  rw [b.bringUp_eq]
  dsimp only
  split
  · rw [Block.modPort_flag, b.bringStart_ltDone]
  · split
    · rw [(Block.startNegotiation_sets _ p []).flag (by simp), hkeep]
    · unfold Block.startTraining
      dsimp only
      rw [Block.modPort_flag, Block.flag, (Block.ltActive_sets _ p _).fld _ _ (apart_laneFlds_link p),
        Block.fld_setFld_same _ _ _ _ (by decide) (by decide), htrains]
      cases b.trains p <;> rfl

end Sys2Proof.Machine
end

section
/-!
PROOFS. What the accounts of the output buffer, the frames of a port and its links leave: the registers; and what a link loss, a disabled
port and the maintenance states do (R88 to R91, R116, R117); and O6 from these.
-/
namespace Sys2Proof.Machine
open Sys2Proof

variable (b : Block)

/-! ## The registers stand -/

@[simp] theorem Block.modQueue_regs (G q : Nat) (f : Queue → Queue) : (b.modQueue G q f).regs = b.regs := rfl
@[simp] theorem Block.modStored_regs (G sid : Nat) (f : Stored → Stored) : (b.modStored G sid f).regs = b.regs := rfl
@[simp] theorem Block.setGroupOf_regs (G p n : Nat) (x : LlGroup) : (b.setGroupOf G p n x).regs = b.regs := rfl
@[simp] theorem Block.settleGroup_regs (G p n : Nat) (x : LlGroup) : (b.settleGroup G p n x).regs = b.regs := rfl

@[simp] theorem Block.toReserve_regs (G q n : Nat) : (b.toReserve G q n).regs = b.regs := by
  induction n generalizing b with
  | zero => rfl
  | succ n ih =>
    unfold Block.toReserve
    split
    · rfl
    · split
      · rfl
      · rw [ih, Block.settleGroup_regs, Block.modQueue_regs, Block.modStored_regs]

@[simp] theorem Block.toGroups_regs (G q n : Nat) : (b.toGroups G q n).regs = b.regs := by
  induction n generalizing b with
  | zero => rfl
  | succ n ih =>
    unfold Block.toGroups
    split
    · rfl
    · split
      · rfl
      · rw [ih, Block.setGroupOf_regs, Block.modQueue_regs, Block.modStored_regs]

@[simp] theorem Block.resplit_regs (G q : Nat) : (b.resplit G q).regs = b.regs := by
  unfold Block.resplit
  split
  · rfl
  · dsimp only
    rw [Block.toGroups_regs, Block.toReserve_regs]

@[simp] theorem Block.freeStored_regs (G sid : Nat) : (b.freeStored G sid).regs = b.regs := by
  unfold Block.freeStored
  dsimp only
  split
  · rfl
  · rw [Block.resplit_regs]
    split
    · rw [Block.modQueue_regs, Block.modRegion_regs]
    · rw [Block.settleGroup_regs, Block.modQueue_regs, Block.modRegion_regs]

@[simp] theorem Block.releasePtr_regs (G sid : Nat) : (b.releasePtr G sid).regs = b.regs := by
  unfold Block.releasePtr
  dsimp only
  split
  · rw [Block.freeStored_regs, Block.modStored_regs]
  · rw [Block.modStored_regs]

@[simp] theorem Block.endTx_regs (p : Nat) (st : TxStage) : (b.endTx p st).regs = b.regs := by
  unfold Block.endTx
  split
  · rw [Block.releasePtr_regs, Block.modTx, Block.modPort_regs]
  · rfl

theorem Block.dropAll_regs (a G : Nat) (l : List TxCopy) :
    (l.foldl (fun b c => (b.count a 1).releasePtr G c.sid) b).regs = b.regs := by
  induction l generalizing b with
  | nil => rfl
  | cons c l ih => rw [List.foldl_cons, ih, Block.releasePtr_regs, Block.count_regs]

@[simp] theorem Block.flushTx_regs (p : Nat) : (b.flushTx p).regs = b.regs := by
  unfold Block.flushTx
  dsimp only
  rw [Block.dropAll_regs, Block.modTx, Block.modPort_regs]

@[simp] theorem Block.markBad_regs (i : Nat) : (b.markBad i).regs = b.regs := by
  unfold Block.markBad
  dsimp only
  split <;> rfl

@[simp] theorem Block.foundBad_regs (p i own : Nat) : (b.foundBad p i own).regs = b.regs := by
  obtain ⟨cs, ps, hnotes⟩ := b.foundNotes_onPorts p i own
  unfold Block.foundBad
  change (if (SMap.find (b.foundNotes p i own).frames i).isSome && ((b.foundNotes p i own).frame i).loc == .staging then
    ((b.foundNotes p i own).dropFrame i).stgWatch p ((b.foundNotes p i own).stgFill p)
    else ((b.foundNotes p i own).count (R.MAC_RX_BAD_AFTER_HEAD p) 1).markBad i).regs = _
  rw [hnotes]
  split
  · obtain ⟨ds, qs, h⟩ := Block.stgWatch_onPorts (Block.dropFrame { b with ctrs := cs, ports := ps } i) p
      (Block.stgFill { b with ctrs := cs, ports := ps } p)
    rw [h]
    rfl
  · rw [Block.markBad_regs, Block.count_regs]

@[simp] theorem Block.cutRx_regs (p : Nat) (cut : Bool) : (b.cutRx p cut).regs = b.regs := by
  unfold Block.cutRx
  split
  · rfl
  · split
    · rw [Block.foundBad_regs]
    · rw [Block.count_regs]

@[simp] theorem Block.cutTx_regs (p : Nat) : (b.cutTx p).regs = b.regs := by
  rw [Block.cutTx, Block.endTx_regs, Block.endTx_regs]

/-! ## A link loss (R90) -/

theorem Block.word_of_regs {b c : Block} (h : c.regs = b.regs) (a : Nat) : c.word a = b.word a := by rw [Block.word, h, Block.word]

/-- The counts, messages, frames and copies of a link loss; its fields are set. -/
def Block.lossStart (b : Block) (p : Nat) : Block :=
  ((b.lower (R.MAC_LINK_STATUS p) F.MAC_LINK_STATUS_LINK_UP).raising 2 fun b =>
    b.raise (R.MAC_LINK_EVENTS p) F.MAC_LINK_EVENTS_LINK_DOWN_SEEN)

theorem linkStatus_ne_events (p : Nat) : R.MAC_LINK_STATUS p ≠ R.MAC_LINK_EVENTS p := by
  unfold R.MAC_LINK_STATUS R.MAC_LINK_EVENTS; omega

theorem Block.lossStart_word (p a : Nat) :
    (b.lossStart p).word a = ((b.lower (R.MAC_LINK_STATUS p) F.MAC_LINK_STATUS_LINK_UP).raise (R.MAC_LINK_EVENTS p)
      F.MAC_LINK_EVENTS_LINK_DOWN_SEEN).word a :=
  (Block.raising_tells _ 2 _).1 a

/-- A word that a link loss does not set stands. -/
theorem Block.lossStart_word_other (p : Nat) {a : Nat} (h : a ≠ R.MAC_LINK_STATUS p) (h' : a ≠ R.MAC_LINK_EVENTS p) :
    (b.lossStart p).word a = b.word a := by
  rw [b.lossStart_word, Block.raise, Block.word_setFld, if_neg h', Block.lower, Block.word_setFld, if_neg h]

theorem Block.lossStart_linkUp (p : Nat) : (b.lossStart p).flag (R.MAC_LINK_STATUS p) F.MAC_LINK_STATUS_LINK_UP = false := by
  rw [Block.flag, Block.fld, b.lossStart_word, ← Block.fld, Block.raise, Block.fld_setFld_other _ _ _ _ (linkStatus_ne_events p), ← Block.flag]
  exact Block.flag_lower _ _ _ (by decide) (by decide)

theorem Block.lossStart_seen (p : Nat) : (b.lossStart p).flag (R.MAC_LINK_EVENTS p) F.MAC_LINK_EVENTS_LINK_DOWN_SEEN = true := by
  rw [Block.flag, Block.fld, b.lossStart_word, ← Block.fld, ← Block.flag]
  exact Block.flag_raise _ _ _ (by decide) (by decide)

/-- A link loss after its fields: what is cut and counted, the pauses that end, and the copies discarded. -/
def Block.lossEnd (b : Block) (p : Nat) (now cut : Bool) : Block :=
  let b := ((b.count (R.MAC_LINK_DOWN_EVENTS p) 1).send 0xD p 0x18 0).cutRx p cut
  let b := (if now then b.cutTx p else b).clearPause p
  if b.flushing p then b.flushTx p else b

theorem Block.linkLoss_of_up {p : Nat} (up : b.flag (R.MAC_LINK_STATUS p) F.MAC_LINK_STATUS_LINK_UP = true) (now cut : Bool) :
    b.linkLoss p now cut = (b.lossStart p).lossEnd p now cut := by
  unfold Block.linkLoss
  rw [if_neg (by simp [up])]
  rfl

theorem Block.linkLoss_of_down {p : Nat} (down : b.flag (R.MAC_LINK_STATUS p) F.MAC_LINK_STATUS_LINK_UP = false) (now cut : Bool) :
    b.linkLoss p now cut = b := by
  unfold Block.linkLoss
  rw [if_pos (by simp [down])]

theorem Block.clearPause_word (p : Nat) {a : Nat} (h : a ≠ R.MAC_PAUSE_STATUS p) (h' : a ≠ R.PRT_PAUSE_WDOG_STATUS p) :
    (b.clearPause p).word a = b.word a := by
  unfold Block.clearPause
  dsimp only
  rw [Block.modPort_word, Block.word_setFld, if_neg h', Block.word_setFld, if_neg h]

theorem Block.lossEnd_word (p : Nat) (now cut : Bool) {a : Nat} (h : a ≠ R.MAC_PAUSE_STATUS p) (h' : a ≠ R.PRT_PAUSE_WDOG_STATUS p) :
    (b.lossEnd p now cut).word a = b.word a := by
  have hcut : (((b.count (R.MAC_LINK_DOWN_EVENTS p) 1).send 0xD p 0x18 0).cutRx p cut).word a = b.word a := by
    refine Block.word_of_regs ?_ a
    rw [Block.cutRx_regs, Block.send_regs, Block.count_regs]
  obtain ⟨c, hc⟩ : ∃ c, ((b.count (R.MAC_LINK_DOWN_EVENTS p) 1).send 0xD p 0x18 0).cutRx p cut = c := ⟨_, rfl⟩
  unfold Block.lossEnd
  dsimp only
  rw [hc] at hcut ⊢
  have hpause : ((if now then c.cutTx p else c).clearPause p).word a = b.word a := by
    rw [Block.clearPause_word _ p h h', ← hcut]
    split
    · exact Block.word_of_regs (c.cutTx_regs p) a
    · rfl
  obtain ⟨d, hd⟩ : ∃ d, (if now then c.cutTx p else c).clearPause p = d := ⟨_, rfl⟩
  rw [hd] at hpause ⊢
  split
  · rw [Block.word_of_regs (d.flushTx_regs p), hpause]
  · exact hpause

theorem linkStatus_ne_pause {p : Nat} (hp : p < 256) : R.MAC_LINK_STATUS p ≠ R.MAC_PAUSE_STATUS p ∧ R.MAC_LINK_STATUS p ≠ R.PRT_PAUSE_WDOG_STATUS p :=
  ⟨by unfold R.MAC_LINK_STATUS R.MAC_PAUSE_STATUS; omega, mac_ne_prt hp (by omega) _⟩

theorem Block.linkLoss_word {p : Nat} (now cut : Bool) {a : Nat} (hs : a ≠ R.MAC_LINK_STATUS p) (he : a ≠ R.MAC_LINK_EVENTS p)
    (hq : a ≠ R.MAC_PAUSE_STATUS p) (hw : a ≠ R.PRT_PAUSE_WDOG_STATUS p) : (b.linkLoss p now cut).word a = b.word a := by
  cases up : b.flag (R.MAC_LINK_STATUS p) F.MAC_LINK_STATUS_LINK_UP with
  | false => rw [b.linkLoss_of_down up]
  | true => rw [b.linkLoss_of_up up, Block.lossEnd_word _ _ _ _ hq hw, b.lossStart_word_other p hs he]

/-- The link of a port is down after its loss. -/
theorem Block.linkLoss_linkUp {p : Nat} (hp : p < 256) (now cut : Bool) :
    (b.linkLoss p now cut).flag (R.MAC_LINK_STATUS p) F.MAC_LINK_STATUS_LINK_UP = false := by
  cases up : b.flag (R.MAC_LINK_STATUS p) F.MAC_LINK_STATUS_LINK_UP with
  | false => rw [b.linkLoss_of_down up, up]
  | true =>
    obtain ⟨h, h'⟩ := linkStatus_ne_pause hp
    rw [b.linkLoss_of_up up, Block.flag, Block.fld, Block.lossEnd_word _ _ _ _ h h', ← Block.fld, ← Block.flag, b.lossStart_linkUp]

/-! ## Dark lanes, and a disabled port (R85, R89) -/

/-- The lanes of mask m lose their lock. -/
theorem Block.darkLanes_laneLock (p m : Nat) :
    (b.darkLanes p m).fld (R.MAC_LINK_STATUS p) F.MAC_LINK_STATUS_LANE_LOCK =
      (b.fld (R.MAC_LINK_STATUS p) F.MAC_LINK_STATUS_LANE_LOCK &&& (15 - m % 16)) % 16 := by
  have hkeep : (b.each 4 fun b k => if bitOf m k then ((b.lower (R.LANE_STATUS (4 * p + k)) F.LANE_STATUS_SIGNAL_DETECT).lower
      (R.LANE_STATUS (4 * p + k)) F.LANE_STATUS_CDR_LOCK).lower (R.LANE_STATUS (4 * p + k)) F.LANE_STATUS_LT_ACTIVE else b).fld
        (R.MAC_LINK_STATUS p) F.MAC_LINK_STATUS_LANE_LOCK = b.fld (R.MAC_LINK_STATUS p) F.MAC_LINK_STATUS_LANE_LOCK := by
    have hne (n : Nat) : R.MAC_LINK_STATUS p ≠ R.LANE_STATUS n := (laneStatus_ne_mac n p (by decide)).symm
    have h (n : Nat) (c : Block) (hc : c.fld (R.MAC_LINK_STATUS p) F.MAC_LINK_STATUS_LANE_LOCK =
        b.fld (R.MAC_LINK_STATUS p) F.MAC_LINK_STATUS_LANE_LOCK) (f g h : Bf) :
        (((c.lower (R.LANE_STATUS n) f).lower (R.LANE_STATUS n) g).lower (R.LANE_STATUS n) h).fld (R.MAC_LINK_STATUS p)
          F.MAC_LINK_STATUS_LANE_LOCK = b.fld (R.MAC_LINK_STATUS p) F.MAC_LINK_STATUS_LANE_LOCK := by
      rw [Block.lower, Block.fld_setFld_other _ _ _ _ (hne n), Block.lower, Block.fld_setFld_other _ _ _ _ (hne n), Block.lower,
        Block.fld_setFld_other _ _ _ _ (hne n), hc]
    have hall (n : Nat) : (b.each n fun b k => if bitOf m k then ((b.lower (R.LANE_STATUS (4 * p + k)) F.LANE_STATUS_SIGNAL_DETECT).lower
      (R.LANE_STATUS (4 * p + k)) F.LANE_STATUS_CDR_LOCK).lower (R.LANE_STATUS (4 * p + k)) F.LANE_STATUS_LT_ACTIVE else b).fld
        (R.MAC_LINK_STATUS p) F.MAC_LINK_STATUS_LANE_LOCK = b.fld (R.MAC_LINK_STATUS p) F.MAC_LINK_STATUS_LANE_LOCK := by
      induction n with
      | zero => rfl
      | succ n ih =>
        rw [Block.each_succ]
        split
        · exact h _ _ ih _ _ _
        · exact ih
    exact hall 4
  unfold Block.darkLanes
  dsimp only
  rw [Block.andNotFld, Block.fld_setFld_same _ _ _ _ (by decide) (by decide), hkeep]
  rfl

/-- Dark lanes of a port none of whose lanes has lock. -/
theorem Block.darkLanes_laneLock_zero {p : Nat} (m : Nat) (h : b.fld (R.MAC_LINK_STATUS p) F.MAC_LINK_STATUS_LANE_LOCK = 0) :
    (b.darkLanes p m).fld (R.MAC_LINK_STATUS p) F.MAC_LINK_STATUS_LANE_LOCK = 0 := by
  rw [b.darkLanes_laneLock, h, Nat.zero_and]

/-- What a port whose receivers and transmitters have stopped shows, whatever it showed. -/
theorem Block.portDark_tells (p : Nat) :
    let t := b.portDark p
    t.fld (R.MAC_LINK_STATUS p) F.MAC_LINK_STATUS_LANE_LOCK = 0 ∧ t.flag (R.MAC_LINK_STATUS p) F.MAC_LINK_STATUS_ALIGN_LOCK = false ∧
      t.flag (R.MAC_LINK_STATUS p) F.MAC_LINK_STATUS_LINK_UP = b.flag (R.MAC_LINK_STATUS p) F.MAC_LINK_STATUS_LINK_UP ∧
      t.word (R.MAC_PORT_CFG p) = b.word (R.MAC_PORT_CFG p) ∧ (t.port p).bring = .down := by
  have hdark := b.darkLanes_sets p 15
  have hlock := b.darkLanes_laneLock p 15
  have hup := hdark.flag (darkFlds_apart (g := F.MAC_LINK_STATUS_LINK_UP) (by decide))
  have hcfg := hdark.word (darkFlds_ne (p := p) (a := R.MAC_PORT_CFG p) (by unfold R.MAC_PORT_CFG R.MAC_LINK_STATUS; omega) (portCfg_ne_lane p))
  have hne : R.MAC_PORT_CFG p ≠ R.MAC_LINK_STATUS p := by unfold R.MAC_PORT_CFG R.MAC_LINK_STATUS; omega
  obtain ⟨c, hc⟩ : ∃ c, b.darkLanes p 15 = c := ⟨_, rfl⟩
  rw [hc] at hlock hup hcfg
  have hport := Block.port_modPort ((c.lower (R.MAC_LINK_STATUS p) F.MAC_LINK_STATUS_ALIGN_LOCK).raise (R.MAC_LINK_STATUS p)
    F.MAC_LINK_STATUS_LOCAL_FAULT) p (fun x => { x with bring := .down }) p
  unfold Block.portDark
  dsimp only
  rw [hc]
  refine ⟨?_, ?_, ?_, ?_, ?_⟩
  · rw [Block.modPort_fld, Block.raise, Block.fld_setFld_apart _ _ _ _ _ (by decide) (by decide) (by decide) (by decide), Block.lower,
      Block.fld_setFld_apart _ _ _ _ _ (by decide) (by decide) (by decide) (by decide), hlock]
    simp
  · rw [Block.modPort_flag, Block.flag, Block.raise, Block.fld_setFld_apart _ _ _ _ _ (by decide) (by decide) (by decide) (by decide),
      ← Block.flag]
    exact Block.flag_lower _ _ _ (by decide) (by decide)
  · rw [Block.modPort_flag, Block.flag, Block.raise, Block.fld_setFld_apart _ _ _ _ _ (by decide) (by decide) (by decide) (by decide), Block.lower,
      Block.fld_setFld_apart _ _ _ _ _ (by decide) (by decide) (by decide) (by decide), ← Block.flag, hup]
  · rw [Block.modPort_word, Block.raise, Block.word_setFld, if_neg hne, Block.lower, Block.word_setFld, if_neg hne, hcfg]
  · rw [hport, if_pos rfl]

/-- What a port that idles keeps of it. -/
theorem Block.portIdle_tells (p : Nat) :
    let t := b.portIdle p
    (b.fld (R.MAC_LINK_STATUS p) F.MAC_LINK_STATUS_LANE_LOCK = 0 → t.fld (R.MAC_LINK_STATUS p) F.MAC_LINK_STATUS_LANE_LOCK = 0) ∧
      t.flag (R.MAC_LINK_STATUS p) F.MAC_LINK_STATUS_ALIGN_LOCK = b.flag (R.MAC_LINK_STATUS p) F.MAC_LINK_STATUS_ALIGN_LOCK ∧
      t.flag (R.MAC_LINK_STATUS p) F.MAC_LINK_STATUS_LINK_UP = b.flag (R.MAC_LINK_STATUS p) F.MAC_LINK_STATUS_LINK_UP ∧
      t.word (R.MAC_PORT_CFG p) = b.word (R.MAC_PORT_CFG p) ∧ t.ports = b.ports := by
  have hdark := b.darkLanes_sets p (15 - b.lanesUsed p)
  have hlock := b.darkLanes_laneLock_zero (p := p) (15 - b.lanesUsed p)
  have hup := hdark.flag (darkFlds_apart (g := F.MAC_LINK_STATUS_LINK_UP) (by decide))
  have halign := hdark.flag (darkFlds_apart (g := F.MAC_LINK_STATUS_ALIGN_LOCK) (by decide))
  have hcfg := hdark.word (darkFlds_ne (p := p) (a := R.MAC_PORT_CFG p) (by unfold R.MAC_PORT_CFG R.MAC_LINK_STATUS; omega) (portCfg_ne_lane p))
  obtain ⟨rs, hregs⟩ := b.darkLanes_regs p (15 - b.lanesUsed p)
  have hports : (b.darkLanes p (15 - b.lanesUsed p)).ports = b.ports := by rw [hregs]
  unfold Block.portIdle
  obtain ⟨c, hc⟩ : ∃ c, b.darkLanes p (15 - b.lanesUsed p) = c := ⟨_, rfl⟩
  rw [hc] at hlock hup halign hcfg hports ⊢
  have hneg := c.negStatus_sets p
  obtain ⟨rs', hregs'⟩ := c.negStatus_regs p
  have hkeep (g : Bf) (h1 : F.MAC_LINK_STATUS_AN_DONE.apart g = true) (h2 : F.MAC_LINK_STATUS_LT_DONE.apart g = true) :
      (c.negStatus p).fld (R.MAC_LINK_STATUS p) g = c.fld (R.MAC_LINK_STATUS p) g := by
    obtain ⟨ho, h1'⟩ := (Bf.apart_iff _ _).mp h1
    obtain ⟨-, h2'⟩ := (Bf.apart_iff _ _).mp h2
    unfold Block.negStatus
    dsimp only
    rw [Block.fld_setFld_apart _ _ _ _ _ (by decide) (by decide) ho h2', Block.fld_setFld_apart _ _ _ _ _ (by decide) (by decide) ho h1']
  refine ⟨fun h => ?_, ?_, ?_, ?_, ?_⟩
  · rw [hkeep _ (by decide) (by decide), hlock h]
  · rw [Block.flag, hkeep _ (by decide) (by decide), ← Block.flag, halign]
  · rw [Block.flag, hkeep _ (by decide) (by decide), ← Block.flag, hup]
  · rw [hneg.word (bringFlds_ne_portCfg p), hcfg]
  · rw [hregs', hports]

/-! ## Writes of PORT_CFG and PORT_STATE -/

theorem findReg_portCfg {p : Nat} (hp : p < 256) :
    findReg (R.MAC_PORT_CFG p) = some ⟨.mac, p, 0x0, reg1 0x0 [⟨31, 31, .rw, 0⟩, ⟨30, 29, .rw, 0⟩, ⟨28, 27, .rw, 0⟩, ⟨26, 26, .rw, 1⟩,
      ⟨25, 25, .rw, 1⟩, ⟨24, 24, .rw, 0⟩, ⟨15, 0, .rw, 16360⟩], 0, 0, 0⟩ :=
  findReg_base rfl hp (by decide) (by decide)

theorem findReg_portState {p : Nat} (hp : p < 256) :
    findReg (R.MAC_PORT_STATE p) = some ⟨.mac, p, 0x4, reg1 0x4 [⟨3, 2, .rw, 0⟩, ⟨1, 0, .rw, 0⟩], 0, 0, 0⟩ :=
  findReg_base rfl hp (by decide) (by decide)

/-- PORT_CFG holds what was written to it. -/
theorem Block.portCfg_stored {p : Nat} (hp : p < 256) (w : Writer) (v : Nat) :
    let c := b.storeReg w (R.MAC_PORT_CFG p) v
    c.fld (R.MAC_PORT_CFG p) F.MAC_PORT_CFG_ENABLE = F.MAC_PORT_CFG_ENABLE.of v ∧
      c.fld (R.MAC_PORT_CFG p) F.MAC_PORT_CFG_AN_EN = F.MAC_PORT_CFG_AN_EN.of v ∧
      c.fld (R.MAC_PORT_CFG p) F.MAC_PORT_CFG_MEDIA = F.MAC_PORT_CFG_MEDIA.of v :=
  ⟨Block.fld_storeReg (findReg_portCfg hp) rfl w v (f := ⟨31, 31, .rw, 0⟩) (by simp [reg1]),
    Block.fld_storeReg (findReg_portCfg hp) rfl w v (f := ⟨26, 26, .rw, 1⟩) (by simp [reg1]),
    Block.fld_storeReg (findReg_portCfg hp) rfl w v (f := ⟨28, 27, .rw, 0⟩) (by simp [reg1])⟩

theorem Block.portState_stored {p : Nat} (hp : p < 256) (w : Writer) (v : Nat) :
    let c := b.storeReg w (R.MAC_PORT_STATE p) v
    c.fld (R.MAC_PORT_STATE p) F.MAC_PORT_STATE_LB_MODE = F.MAC_PORT_STATE_LB_MODE.of v ∧
      c.fld (R.MAC_PORT_STATE p) F.MAC_PORT_STATE_STATE = F.MAC_PORT_STATE_STATE.of v :=
  ⟨Block.fld_storeReg (findReg_portState hp) rfl w v (f := ⟨3, 2, .rw, 0⟩) (by simp [reg1]),
    Block.fld_storeReg (findReg_portState hp) rfl w v (f := ⟨1, 0, .rw, 0⟩) (by simp [reg1])⟩

/-- An enabled port whose die runs negotiates where AN_EN asks for it and the medium is not C2M. -/
theorem Block.bringNext_of_stored {p : Nat} (hp : p < 256) (w : Writer) {v : Nat} (is : F.MAC_PORT_CFG_ENABLE.of v = 1)
    (an : F.MAC_PORT_CFG_AN_EN.of v = 1) (media : F.MAC_PORT_CFG_MEDIA.of v ≠ 2) (run : b.frozen (dieOfPort p) = false)
    (started : b.started = true) : (b.storeReg w (R.MAC_PORT_CFG p) v).bringNext p = .negotiating := by
  obtain ⟨henable, han, hmedia⟩ := b.portCfg_stored hp w v
  have hboot : R.BOOT_STATUS ≠ R.MAC_PORT_CFG p := by unfold R.BOOT_STATUS bootBase R.MAC_PORT_CFG macBase; omega
  have hstarted := Block.started_congr (b.word_storeReg_other w v hboot)
  have hrun := b.storeReg_frozen w (R.MAC_PORT_CFG p) v (dieOfPort p)
  unfold Block.bringNext Block.negotiates Block.mediaC2m
  rw [hstarted, started, hrun, run, Block.flag, henable, is, Block.flag, han, an, hmedia]
  simp [media]

theorem Block.portCfgWrite_refused {p : Nat} (w : Writer) {v : Nat} (bad : portCfgOk (b.word (R.MAC_PORT_CFG p)) v = false) :
    b.portCfgWrite w p v = b.refuse w (R.MAC_PORT_CFG p) := by
  unfold Block.portCfgWrite
  dsimp only
  rw [if_pos (by simp [bad])]

section
variable {p : Nat} (hp : p < 256) (w : Writer) {v : Nat} (ok : portCfgOk (b.word (R.MAC_PORT_CFG p)) v = true)
include hp ok

/-- A write of PORT_CFG within the rules, by ENABLE as it was and as it is written. -/
theorem Block.portCfgWrite_enables (was : b.flag (R.MAC_PORT_CFG p) F.MAC_PORT_CFG_ENABLE = false)
    (is : F.MAC_PORT_CFG_ENABLE.of v = 1) : b.portCfgWrite w p v = (b.storeReg w (R.MAC_PORT_CFG p) v).bringUp p := by
  have his : (b.storeReg w (R.MAC_PORT_CFG p) v).flag (R.MAC_PORT_CFG p) F.MAC_PORT_CFG_ENABLE = true := by
    rw [Block.flag, (b.portCfg_stored hp w v).1, is]; rfl
  unfold Block.portCfgWrite
  dsimp only
  rw [if_neg (by simp [ok]), his, was, if_pos (by simp)]

theorem Block.portCfgWrite_stays (was : b.flag (R.MAC_PORT_CFG p) F.MAC_PORT_CFG_ENABLE = true)
    (is : F.MAC_PORT_CFG_ENABLE.of v = 1) : b.portCfgWrite w p v = b.storeReg w (R.MAC_PORT_CFG p) v := by
  have his : (b.storeReg w (R.MAC_PORT_CFG p) v).flag (R.MAC_PORT_CFG p) F.MAC_PORT_CFG_ENABLE = true := by
    rw [Block.flag, (b.portCfg_stored hp w v).1, is]; rfl
  unfold Block.portCfgWrite
  dsimp only
  rw [if_neg (by simp [ok]), his, was, if_neg (by simp), if_neg (by simp), if_neg (by simp)]

theorem Block.portCfgWrite_disables (was : b.flag (R.MAC_PORT_CFG p) F.MAC_PORT_CFG_ENABLE = true) (is : F.MAC_PORT_CFG_ENABLE.of v = 0) :
    b.portCfgWrite w p v =
      let c := b.storeReg w (R.MAC_PORT_CFG p) v
      ((c.linkLoss p false (c.receiving p)).portDark p).portIdle p := by
  have his : (b.storeReg w (R.MAC_PORT_CFG p) v).flag (R.MAC_PORT_CFG p) F.MAC_PORT_CFG_ENABLE = false := by
    rw [Block.flag, (b.portCfg_stored hp w v).1, is]; rfl
  unfold Block.portCfgWrite
  dsimp only
  rw [if_neg (by simp [ok]), his, was, if_neg (by simp), if_pos (by simp)]

/-- What the port that is disabled shows. -/
theorem Block.portDisable_tells (was : b.flag (R.MAC_PORT_CFG p) F.MAC_PORT_CFG_ENABLE = true) (is : F.MAC_PORT_CFG_ENABLE.of v = 0) :
    let t := b.portCfgWrite w p v
    t.flag (R.MAC_PORT_CFG p) F.MAC_PORT_CFG_ENABLE = false ∧ t.flag (R.MAC_LINK_STATUS p) F.MAC_LINK_STATUS_LINK_UP = false ∧
      t.flag (R.MAC_LINK_STATUS p) F.MAC_LINK_STATUS_ALIGN_LOCK = false ∧
      t.fld (R.MAC_LINK_STATUS p) F.MAC_LINK_STATUS_LANE_LOCK = 0 ∧ (t.port p).bring = .down := by
  rw [b.portCfgWrite_disables hp w ok was is]
  obtain ⟨c, hc⟩ : ∃ c, b.storeReg w (R.MAC_PORT_CFG p) v = c := ⟨_, rfl⟩
  have henable : c.fld (R.MAC_PORT_CFG p) F.MAC_PORT_CFG_ENABLE = 0 := by rw [← hc, (b.portCfg_stored hp w v).1, is]
  rw [hc]
  dsimp only
  have hup := c.linkLoss_linkUp hp false (c.receiving p)
  have hcfg := c.linkLoss_word (p := p) false (c.receiving p) (a := R.MAC_PORT_CFG p) (by unfold R.MAC_PORT_CFG R.MAC_LINK_STATUS; omega)
    (by unfold R.MAC_PORT_CFG R.MAC_LINK_EVENTS; omega) (by unfold R.MAC_PORT_CFG R.MAC_PAUSE_STATUS; omega) (mac_ne_prt hp (by omega) _)
  obtain ⟨d, hd⟩ : ∃ d, c.linkLoss p false (c.receiving p) = d := ⟨_, rfl⟩
  rw [hd] at hup hcfg ⊢
  obtain ⟨hlock, halign, hup', hcfg', hbring⟩ := d.portDark_tells p
  obtain ⟨hlock', halign', hup'', hcfg'', hports⟩ := (d.portDark p).portIdle_tells p
  refine ⟨?_, hup''.trans (hup'.trans hup), halign'.trans halign, hlock' hlock, ?_⟩
  · rw [Block.flag, Block.fld, hcfg'', hcfg', hcfg, ← Block.fld, henable]; rfl
  · rw [Block.port, hports]; exact hbring

end

/-! ## Preemption (R116, R117, R119) -/

theorem Block.portStateWrite_refused {p : Nat} (w : Writer) {v : Nat} (bad : portStateOk v = false) :
    b.portStateWrite w p v = b.refuse w (R.MAC_PORT_STATE p) := by
  unfold Block.portStateWrite
  dsimp only
  rw [if_pos (by simp [bad])]

theorem Block.portStateWrite_stored {p : Nat} (hp : p < 256) (w : Writer) {v : Nat} (ok : portStateOk v = true)
    (same : F.MAC_PORT_STATE_LB_MODE.of v = b.fld (R.MAC_PORT_STATE p) F.MAC_PORT_STATE_LB_MODE) :
    b.portStateWrite w p v = (b.storeReg w (R.MAC_PORT_STATE p) v).preemptCheck p := by
  unfold Block.portStateWrite
  dsimp only
  rw [if_neg (by simp [ok]), (b.portState_stored hp w v).1, same, if_neg (by simp)]

/-- Preemption is checked in PREEMPT_STATUS, the out FIFO and the port alone. -/
theorem Block.preemptCheck_word (p : Nat) {a : Nat} (h : a ≠ R.MAC_PREEMPT_STATUS p) : (b.preemptCheck p).word a = b.word a := by
  have hset (c : Block) (f : Bf) (v : Nat) : (c.setFld (R.MAC_PREEMPT_STATUS p) f v).word a = c.word a := by rw [Block.word_setFld, if_neg h]
  have hoff (c : Block) : (c.preemptOff p).word a = c.word a := by
    unfold Block.preemptOff
    split
    · rfl
    · exact hset c _ _
  unfold Block.preemptCheck
  dsimp only
  split
  · rw [hoff, hset]
  · split
    · rw [Block.raise, hset, hset]
    · split
      · rw [hoff, Block.verifyTry, Block.modPort_word, Block.emit_word, hset]
      · exact hset b _ _
      · exact hoff b

/-- Out of a maintenance state nothing is preempted. -/
theorem Block.preemptCheck_of_service {p : Nat} (service : b.fld (R.MAC_PORT_STATE p) F.MAC_PORT_STATE_STATE = 0) (idle : (b.port p).tx = []) :
    (b.preemptCheck p).flag (R.MAC_PREEMPT_STATUS p) F.MAC_PREEMPT_STATUS_ACTIVE = false ∧
      (b.preemptCheck p).fld (R.MAC_PREEMPT_STATUS p) F.MAC_PREEMPT_STATUS_VERIFY_STATE = 0 := by
  have hmay : b.mayPreempt p = false := by simp [Block.mayPreempt, service]
  have hopen : (b.setFld (R.MAC_PREEMPT_STATUS p) F.MAC_PREEMPT_STATUS_VERIFY_STATE 0).cutOpen p = false := by
    rw [Block.cutOpen, Block.setFld_port, idle]; rfl
  unfold Block.preemptCheck Block.preemptOff
  dsimp only
  rw [if_pos (by simp [hmay]), if_neg (by simp [hopen])]
  refine ⟨Block.flag_lower _ _ _ (by decide) (by decide), ?_⟩
  rw [Block.lower, Block.fld_setFld_apart _ _ _ _ _ (by decide) (by decide) (by decide) (by decide),
    Block.fld_setFld_same _ _ _ _ (by decide) (by decide), Nat.zero_mod]

/-- In a maintenance state with preemption enabled and no verification asked for, preemption is active. -/
theorem Block.preemptCheck_of_unverified {p : Nat} (state : b.fld (R.MAC_PORT_STATE p) F.MAC_PORT_STATE_STATE ≠ 0)
    (en : b.flag (R.MAC_PREEMPT_CFG p) F.MAC_PREEMPT_CFG_PREEMPT_EN = true)
    (verify : b.flag (R.MAC_PREEMPT_CFG p) F.MAC_PREEMPT_CFG_VERIFY_EN = false) :
    (b.preemptCheck p).flag (R.MAC_PREEMPT_STATUS p) F.MAC_PREEMPT_STATUS_ACTIVE = true := by
  have hmay : b.mayPreempt p = true := by simp [Block.mayPreempt, state, en]
  unfold Block.preemptCheck
  dsimp only
  rw [if_neg (by simp [hmay]), if_pos (by simp [verify])]
  exact Block.flag_raise _ _ _ (by decide) (by decide)

theorem takes_preemptVerify (p : Fin 256) (e : VerifyEvent) : Takes (.preemptVerify p e) b (b.preemptVerify p e) := fun _ => rfl

theorem Block.preemptVerify_of_idle {p : Nat} {e : VerifyEvent} (h : e ≠ .request)
    (idle : b.fld (R.MAC_PREEMPT_STATUS p) F.MAC_PREEMPT_STATUS_VERIFY_STATE ≠ 1) : b.preemptVerify p e = b := by
  cases e with
  | request => exact absurd rfl h
  | answered => exact if_pos (by simpa using idle)
  | timeout => exact if_pos (by simp [idle])

theorem Block.preemptVerify_early {p : Nat} (early : b.ticks < (b.port p).verifyAt + b.fld (R.MAC_PREEMPT_CFG p) F.MAC_PREEMPT_CFG_VERIFY_TIME * oneMs) :
    b.preemptVerify p .timeout = b :=
  if_pos (by simp [early])

section
variable {p : Nat} (verifying : b.fld (R.MAC_PREEMPT_STATUS p) F.MAC_PREEMPT_STATUS_VERIFY_STATE = 1)
include verifying

theorem Block.preemptVerify_answered :
    b.preemptVerify p .answered =
      (b.setFld (R.MAC_PREEMPT_STATUS p) F.MAC_PREEMPT_STATUS_VERIFY_STATE 2).raise (R.MAC_PREEMPT_STATUS p) F.MAC_PREEMPT_STATUS_ACTIVE :=
  if_neg (by simp [verifying])

theorem Block.preemptVerify_again (late : (b.port p).verifyAt + b.fld (R.MAC_PREEMPT_CFG p) F.MAC_PREEMPT_CFG_VERIFY_TIME * oneMs ≤ b.ticks)
    (tries : (b.port p).verifyTries < 2) : b.preemptVerify p .timeout = b.verifyTry p ((b.port p).verifyTries + 1) := by
  unfold Block.preemptVerify
  dsimp only
  rw [if_neg (by simp [verifying, late]), if_pos (by omega)]

theorem Block.preemptVerify_fails (late : (b.port p).verifyAt + b.fld (R.MAC_PREEMPT_CFG p) F.MAC_PREEMPT_CFG_VERIFY_TIME * oneMs ≤ b.ticks)
    (tries : 2 ≤ (b.port p).verifyTries) : b.preemptVerify p .timeout =
      ((b.setFld (R.MAC_PREEMPT_STATUS p) F.MAC_PREEMPT_STATUS_VERIFY_STATE 3).raise (R.MAC_PREEMPT_STATUS p)
        F.MAC_PREEMPT_STATUS_VERIFY_FAIL).send 0xD p 0x1C 0 := by
  unfold Block.preemptVerify
  dsimp only
  rw [if_neg (by simp [verifying, late]), if_neg (by omega)]

end

/-- Settles O6: writes of PORT_CFG and PORT_STATE, and the verification of preemption (R88, R89, R116, R117). -/
theorem portsAreEnabledAndMaintained : Obligations.PortsAreEnabledAndMaintained := by
  unfold Obligations.PortsAreEnabledAndMaintained
  refine ⟨⟨?_, ?_⟩, ?_, ?_, ?_, ?_, ?_⟩
  · intro b w p v hreach x
    have is : F.MAC_PORT_CFG_ENABLE.of x = 1 := Bf.of_put_same _ _ _
    have htakes : Takes (.portEnable w p v) b (b.portCfgWrite w p x) := takes_of_write hreach fun _ => rfl
    refine ⟨fun bad => takes_congr htakes (b.portCfgWrite_refused w bad), fun ok was => ?_,
      fun ok was => takes_congr htakes (b.portCfgWrite_stays p.isLt w ok was is)⟩
    have hbring := takes_congr htakes (b.portCfgWrite_enables p.isLt w ok was is)
    refine ⟨hbring, fun run started an media => ⟨_, hbring, ?_, ?_⟩⟩
    · rw [Block.bringUp_port, if_pos rfl]
      exact b.bringNext_of_stored p.isLt w is an media run started
    · obtain ⟨-, -, -, -, hcfg⟩ := Block.portCfg_congr
        (((b.storeReg w (R.MAC_PORT_CFG p) x).bringUp_sets p).word (bringFlds_ne_portCfg p))
      rw [Block.flag, hcfg, (b.portCfg_stored p.isLt w x).1, is]
      rfl
  · intro b w p v hreach x ok was
    have is : F.MAC_PORT_CFG_ENABLE.of x = 0 := Bf.of_put_same _ _ _
    exact ⟨b.portCfgWrite w p x, takes_of_write hreach fun _ => rfl, b.portDisable_tells p.isLt w ok was is⟩
  · intro b w p v hreach bad
    exact takes_congr (u := b.portStateWrite w p v.toNat) (takes_of_write hreach fun _ => rfl) (b.portStateWrite_refused w bad)
  · intro b w p v hreach ok same
    have hstate := (b.portState_stored p.isLt w v.toNat).2
    have hne : R.MAC_PREEMPT_CFG p ≠ R.MAC_PORT_STATE p := by unfold R.MAC_PREEMPT_CFG R.MAC_PORT_STATE; omega
    have hcfg (g : Bf) : (b.storeReg w (R.MAC_PORT_STATE p) v.toNat).flag (R.MAC_PREEMPT_CFG p) g = b.flag (R.MAC_PREEMPT_CFG p) g := by
      rw [Block.flag, Block.fld, Block.word_storeReg_other _ _ _ hne, Block.flag, Block.fld]
    have hport := b.storeReg_port w (R.MAC_PORT_STATE p) v.toNat p
    refine ⟨_, takes_congr (u := b.portStateWrite w p v.toNat) (takes_of_write hreach fun _ => rfl)
      (b.portStateWrite_stored p.isLt w ok same), ?_, fun service idle => ?_, fun state en verify => ?_⟩
    · rw [Block.fld, Block.preemptCheck_word _ _ (by unfold R.MAC_PORT_STATE R.MAC_PREEMPT_STATUS; omega), ← Block.fld, hstate]
    · exact Block.preemptCheck_of_service _ (hstate.trans service) (by rw [hport, idle])
    · exact Block.preemptCheck_of_unverified _ (by rw [hstate]; exact state) (by rw [hcfg, en]) (by rw [hcfg, verify])
  · intro b p verifying
    refine ⟨takes_congr (takes_preemptVerify b p _) (b.preemptVerify_answered verifying), ?_⟩
    intro out_
    refine ⟨fun early => takes_congr (takes_preemptVerify b p _) (b.preemptVerify_early early), fun late tries => ?_,
      fun late tries => ?_⟩
    · have hport (j : Nat) := Block.port_modPort (b.emit (.verify p false)) p (fun x =>
        { x with verifyTries := (b.port p).verifyTries + 1, verifyAt := b.ticks }) j
      exact ⟨_, takes_congr (takes_preemptVerify b p _) (b.preemptVerify_again verifying late tries), rfl, (hport p).trans (if_pos rfl),
        fun j hj => (hport j).trans (if_neg hj), rfl⟩
    · refine ⟨_, takes_congr (takes_preemptVerify b p _) (b.preemptVerify_fails verifying late tries), ?_, ?_, ?_, ?_⟩
      · rw [Block.send_fld, Block.raise, Block.fld_setFld_apart _ _ _ _ _ (by decide) (by decide) (by decide) (by decide),
          Block.fld_setFld_same _ _ _ _ (by decide) (by decide)]
        rfl
      · rw [Block.send_flag]
        exact Block.flag_raise _ _ _ (by decide) (by decide)
      · rw [Block.send_flag, Block.flag, Block.raise, Block.fld_setFld_apart _ _ _ _ _ (by decide) (by decide) (by decide) (by decide),
          Block.fld_setFld_apart _ _ _ _ _ (by decide) (by decide) (by decide) (by decide), ← Block.flag]
      · rw [Block.send_inflight, Block.send_inflight, Block.raise_inflight, Block.raise_ticks, Block.setFld_inflight, Block.setFld_ticks]
  · intro b p e h idle
    exact takes_congr (takes_preemptVerify b p e) (b.preemptVerify_of_idle h idle)
  · intro b p
    exact takes_congr (takes_preemptVerify b p .request) rfl

end Sys2Proof.Machine
end

section
/-!
PROOFS. Negotiation, training, and links coming up and going down (R81, R82, R87, R90); and O7 from these.
-/
namespace Sys2Proof.Machine
open Sys2Proof

variable (b : Block)

/-! ## Negotiation (R81) -/

theorem Block.raise_portCfg (p : Nat) (f : Bf) (v : Nat) :
    (b.setFld (R.MAC_LINK_STATUS p) f v).word (R.MAC_PORT_CFG p) = b.word (R.MAC_PORT_CFG p) := by
  rw [Block.word_setFld, if_neg (by unfold R.MAC_PORT_CFG R.MAC_LINK_STATUS; omega)]

theorem Block.anDone_of_other {p : Nat} (h : (b.port p).bring ≠ .negotiating) (partner : List (Nat × Nat)) : b.anDone p partner = b := by
  unfold Block.anDone
  dsimp only
  rw [if_pos (by simpa using h)]

section
variable {p : Nat} {partner : List (Nat × Nat)} (h : (b.port p).bring = .negotiating)
include h

theorem Block.anDone_of_match
    (own : (b.fld (R.MAC_PORT_CFG p) F.MAC_PORT_CFG_SPEED, b.fld (R.MAC_PORT_CFG p) F.MAC_PORT_CFG_MEDIA) ∈ partner) :
    b.anDone p partner = ((b.raise (R.MAC_LINK_STATUS p) F.MAC_LINK_STATUS_AN_DONE).lower (R.MAC_LINK_STATUS p)
      F.MAC_LINK_STATUS_AN_NO_COMMON).startTraining p := by
  unfold Block.anDone
  dsimp only
  rw [if_neg (by simp [h]), if_pos (by simpa using own)]

theorem Block.anDone_of_none
    (own : (b.fld (R.MAC_PORT_CFG p) F.MAC_PORT_CFG_SPEED, b.fld (R.MAC_PORT_CFG p) F.MAC_PORT_CFG_MEDIA) ∉ partner) :
    b.anDone p partner = (b.raise (R.MAC_LINK_STATUS p) F.MAC_LINK_STATUS_AN_NO_COMMON).startNegotiation p := by
  unfold Block.anDone
  dsimp only
  rw [if_neg (by simp [h]), if_neg (by simpa using own)]

end

/-- Training, or adaptation, starts: what stands in LINK_STATUS but LT_DONE stays. -/
theorem Block.startTraining_linkStatus (p : Nat) {g : Bf} (hg : F.MAC_LINK_STATUS_LT_DONE.apart g = true) :
    (b.startTraining p).fld (R.MAC_LINK_STATUS p) g = b.fld (R.MAC_LINK_STATUS p) g := by
  obtain ⟨ho, hd⟩ := (Bf.apart_iff _ _).mp hg
  unfold Block.startTraining
  dsimp only
  rw [Block.modPort_fld, (Block.ltActive_sets _ p _).fld _ _ (apart_laneFlds_link p), Block.fld_setFld_apart _ _ _ _ _ (by decide) (by decide) ho hd]

theorem Block.startTraining_only (p : Nat) : ∃ rs ps, b.startTraining p = { b with regs := rs, ports := ps } := by
  obtain ⟨rs, h⟩ := (b.setFld (R.MAC_LINK_STATUS p) F.MAC_LINK_STATUS_LT_DONE (b2n !b.trains p)).ltActive_regs p (b.trains p)
  unfold Block.startTraining
  dsimp only
  rw [h]
  exact ⟨rs, _, rfl⟩

theorem Block.setFld_setFld_regs (a : Nat) (f g : Bf) (v w : Nat) : ∃ rs, (b.setFld a f v).setFld a g w = { b with regs := rs } := ⟨_, rfl⟩

theorem Block.anDone_match_tells (p : Nat) :
    let t := ((b.raise (R.MAC_LINK_STATUS p) F.MAC_LINK_STATUS_AN_DONE).lower (R.MAC_LINK_STATUS p)
      F.MAC_LINK_STATUS_AN_NO_COMMON).startTraining p
    t.flag (R.MAC_LINK_STATUS p) F.MAC_LINK_STATUS_AN_DONE = true ∧ t.flag (R.MAC_LINK_STATUS p) F.MAC_LINK_STATUS_AN_NO_COMMON = false ∧
      (t.port p).bring = (if b.trains p then .training else .adapting) ∧ t = { b with regs := t.regs, ports := t.ports } := by
  obtain ⟨c, hc⟩ : ∃ c, (b.raise (R.MAC_LINK_STATUS p) F.MAC_LINK_STATUS_AN_DONE).lower (R.MAC_LINK_STATUS p)
      F.MAC_LINK_STATUS_AN_NO_COMMON = c := ⟨_, rfl⟩
  have hdone : c.flag (R.MAC_LINK_STATUS p) F.MAC_LINK_STATUS_AN_DONE = true := by
    rw [← hc, Block.lower, Block.flag, Block.fld_setFld_apart _ _ _ _ _ (by decide) (by decide) (by decide) (by decide), ← Block.flag]
    exact Block.flag_raise _ _ _ (by decide) (by decide)
  have hnone : c.flag (R.MAC_LINK_STATUS p) F.MAC_LINK_STATUS_AN_NO_COMMON = false := by
    rw [← hc]
    exact Block.flag_lower _ _ _ (by decide) (by decide)
  have htrains : c.trains p = b.trains p := by
    refine (Block.portCfg_congr ?_).2.1
    rw [← hc, Block.lower, Block.raise_portCfg, Block.raise, Block.raise_portCfg]
  obtain ⟨rs, honly⟩ : ∃ rs, c = { b with regs := rs } := by
    rw [← hc]
    exact b.setFld_setFld_regs _ _ _ _ _
  obtain ⟨rs', ps', hst⟩ := c.startTraining_only p
  rw [hc]
  refine ⟨?_, ?_, ?_, ?_⟩
  · rw [Block.flag, c.startTraining_linkStatus p (by decide), ← Block.flag, hdone]
  · rw [Block.flag, c.startTraining_linkStatus p (by decide), ← Block.flag, hnone]
  · rw [c.startTraining_port, if_pos rfl, htrains]
  · rw [hst, honly]

/-! ## Training (R82, R87) -/

theorem Block.tapUpdate_regs (p k v : Nat) : ∃ rs, b.tapUpdate p k v = { b with regs := rs } := by
  unfold Block.tapUpdate
  split
  · exact ⟨_, rfl⟩
  · exact ⟨b.regs, rfl⟩

theorem Block.tapUpdate_word (p k v a : Nat) :
    (b.tapUpdate p k v).word a =
      if a = R.LANE_TXEQ (4 * p + k) ∧ (bitOf (b.lanesUsed p) k && txeqOk v) = true then v % 2 ^ 32 else b.word a := by
  unfold Block.tapUpdate
  split
  · next h => simp [Block.word_setWord, h]
  · next h => simp [h]

/-- Updates of the taps of lanes: the block but for its registers, and the words of no lane that is updated, stand. -/
theorem Block.tapUpdates_tells (p : Nat) (l : List (Nat × Nat)) :
    (∃ rs, l.foldl (fun b u => b.tapUpdate p u.1 u.2) b = { b with regs := rs }) ∧
      ∀ a, (∀ u ∈ l, a ≠ R.LANE_TXEQ (4 * p + u.1)) → (l.foldl (fun b u => b.tapUpdate p u.1 u.2) b).word a = b.word a := by
  induction l generalizing b with
  | nil => exact ⟨⟨b.regs, rfl⟩, fun _ _ => rfl⟩
  | cons u l ih =>
    obtain ⟨rs, h⟩ := b.tapUpdate_regs p u.1 u.2
    obtain ⟨⟨rs', h'⟩, hword⟩ := ih (b.tapUpdate p u.1 u.2)
    refine ⟨⟨rs', by rw [List.foldl_cons, h', h]⟩, fun a ha => ?_⟩
    rw [List.foldl_cons, hword a fun x hx => ha x (List.mem_cons_of_mem _ hx), b.tapUpdate_word,
      if_neg fun h => ha u (List.mem_cons_self ..) h.1]

theorem Block.ltDone_of_other {p : Nat} (h : (b.port p).bring ≠ .training) (l : List (Nat × Nat)) (done : Bool) : b.ltDone p l done = b := by
  unfold Block.ltDone
  rw [if_pos (by simpa using h)]

theorem Block.ltDone_of_running {p : Nat} (h : (b.port p).bring = .training) (l : List (Nat × Nat)) :
    b.ltDone p l false = l.foldl (fun b u => b.tapUpdate p u.1 u.2) b := by
  unfold Block.ltDone
  rw [if_neg (by simp [h])]
  rfl

theorem Block.ltDone_of_done {p : Nat} (h : (b.port p).bring = .training) (l : List (Nat × Nat)) :
    b.ltDone p l true = (((l.foldl (fun b u => b.tapUpdate p u.1 u.2) b).raise (R.MAC_LINK_STATUS p)
      F.MAC_LINK_STATUS_LT_DONE).ltActive p false).modPort p fun x => { x with bring := .adapting } := by
  unfold Block.ltDone
  rw [if_neg (by simp [h])]
  rfl

theorem laneStatus_inj {p j k : Nat} (hj : j < 4) (hk : k < 4) (h : R.LANE_STATUS (4 * p + j) = R.LANE_STATUS (4 * p + k)) : j = k := by
  unfold R.LANE_STATUS laneBase at h
  omega

theorem laneTxeq_ne_status (m n : Nat) : R.LANE_TXEQ m ≠ R.LANE_STATUS n := by
  unfold R.LANE_TXEQ R.LANE_STATUS laneBase
  omega
theorem laneTxeq_inj {p j k : Nat} (hj : j < 4) (hk : k < 4) (h : R.LANE_TXEQ (4 * p + j) = R.LANE_TXEQ (4 * p + k)) : j = k := by
  unfold R.LANE_TXEQ laneBase at h
  omega

/-- LT_ACTIVE of a lane, when it has been set on each lane of the port. -/
theorem Block.ltActive_off (p : Nat) {k : Nat} (hk : k < 4) :
    (b.ltActive p false).flag (R.LANE_STATUS (4 * p + k)) F.LANE_STATUS_LT_ACTIVE = false := by
  have hall (n : Nat) (hn : n ≤ 4) (hkn : k < n) : (b.each n fun b k => b.setFld (R.LANE_STATUS (4 * p + k)) F.LANE_STATUS_LT_ACTIVE
      (b2n (false && bitOf (b.lanesUsed p) k))).flag (R.LANE_STATUS (4 * p + k)) F.LANE_STATUS_LT_ACTIVE = false := by
    induction n with
    | zero => omega
    | succ n ih =>
      rw [Block.each_succ, Block.flag]
      by_cases e : k = n
      · subst e
        rw [Block.fld_setFld_same _ _ _ _ (by decide) (by decide)]
        rfl
      · rw [Block.fld_setFld_other _ _ _ _ fun h => e (laneStatus_inj hk (by omega) h), ← Block.flag, ih (by omega) (by omega)]
  exact hall 4 le_rfl hk

theorem Block.ltDone_done_tells {p : Nat} (l : List (Nat × Nat)) :
    let t := (((l.foldl (fun b u => b.tapUpdate p u.1 u.2) b).raise (R.MAC_LINK_STATUS p) F.MAC_LINK_STATUS_LT_DONE).ltActive p
      false).modPort p fun x => { x with bring := .adapting }
    (∀ k, k < 4 → t.flag (R.LANE_STATUS (4 * p + k)) F.LANE_STATUS_LT_ACTIVE = false) ∧
      (∀ k, k < 4 → (∀ u ∈ l, u.1 < 4 ∧ u.1 ≠ k) → t.word (R.LANE_TXEQ (4 * p + k)) = b.word (R.LANE_TXEQ (4 * p + k))) ∧
      t.flag (R.MAC_LINK_STATUS p) F.MAC_LINK_STATUS_LT_DONE = true ∧ (t.port p).bring = .adapting ∧
      t = { b with regs := t.regs, ports := t.ports } := by
  obtain ⟨⟨rs, hregs⟩, hword⟩ := b.tapUpdates_tells p l
  obtain ⟨c, hc⟩ : ∃ c, l.foldl (fun b u => b.tapUpdate p u.1 u.2) b = c := ⟨_, rfl⟩
  rw [hc] at hregs hword ⊢
  obtain ⟨d, hd⟩ : ∃ d, c.raise (R.MAC_LINK_STATUS p) F.MAC_LINK_STATUS_LT_DONE = d := ⟨_, rfl⟩
  obtain ⟨rs', hregs'⟩ := c.setFld_regs (R.MAC_LINK_STATUS p) F.MAC_LINK_STATUS_LT_DONE 1
  have hdone : d.flag (R.MAC_LINK_STATUS p) F.MAC_LINK_STATUS_LT_DONE = true := by
    rw [← hd]; exact Block.flag_raise _ _ _ (by decide) (by decide)
  have hlink (k : Nat) : R.LANE_TXEQ (4 * p + k) ≠ R.MAC_LINK_STATUS p := by
    unfold R.LANE_TXEQ laneBase R.MAC_LINK_STATUS macBase; omega
  have hoff {k : Nat} (hk : k < 4) := d.ltActive_off p hk
  have hsets := d.ltActive_sets p false
  obtain ⟨rs'', hregs''⟩ := d.ltActive_regs p false
  have hport := Block.port_modPort (d.ltActive p false) p (fun x => { x with bring := .adapting }) p
  rw [hd]
  refine ⟨fun k hk => ?_, fun k hk hl => ?_, ?_, ?_, ?_⟩
  · rw [Block.modPort_flag, hoff hk]
  · rw [Block.modPort_word, hsets.word, ← hd, Block.raise, Block.word_setFld, if_neg (hlink k), hword]
    · exact fun u hu h => (hl u hu).2 (laneTxeq_inj hk (hl u hu).1 h).symm
    · intro x hx
      obtain ⟨j, -, rfl⟩ := List.mem_map.mp hx
      exact (laneTxeq_ne_status _ _).symm
  · rw [Block.modPort_flag, Block.flag, hsets.fld _ _ (apart_laneFlds_link p), ← Block.flag, hdone]
  · rw [hport, if_pos rfl]
  · rw [hregs'', ← hd, Block.raise, hregs', hregs]
    rfl

/-! ## A bring-up that starts anew after a message -/

theorem linkEvents_ne (p : Nat) : R.MAC_LINK_EVENTS p ≠ R.MAC_LINK_STATUS p := (linkStatus_ne_events p).symm

theorem Block.bringUp_events (p : Nat) (g : Bf) : (b.bringUp p).flag (R.MAC_LINK_EVENTS p) g = b.flag (R.MAC_LINK_EVENTS p) g :=
  (b.bringUp_sets p).flag fun x hx e =>
    absurd e (bringFlds_ne (linkEvents_ne p) (fun n => laneStatus_ne_mac n p (by decide)) x hx)

/-- What a bring-up goes by, in a block that differs by fields of other registers. -/
theorem Block.bringNext_congr {b c : Block} {p : Nat} (cfg : c.word (R.MAC_PORT_CFG p) = b.word (R.MAC_PORT_CFG p))
    (boot : c.word R.BOOT_STATUS = b.word R.BOOT_STATUS) (held : c.frozen (dieOfPort p) = b.frozen (dieOfPort p)) :
    c.bringNext p = b.bringNext p := by
  obtain ⟨hneg, htrains, -, -, hcfg⟩ := Block.portCfg_congr cfg
  unfold Block.bringNext
  rw [Block.flag, hcfg, held, Block.started_congr boot, hneg, htrains, ← Block.flag]

theorem Block.raising_frozen (n : Nat) (f : Block → Block) (d : Nat) : (b.raising n f).frozen d = (f b).frozen d := by
  rw [Block.raising_only]; rfl
theorem Block.raising_port (n : Nat) (f : Block → Block) (p : Nat) : (b.raising n f).port p = (f b).port p := by
  rw [Block.raising_only]; rfl

/-- An event of port p, raised and told: its flag, the words that stand, and the message. -/
theorem Block.event_tells (p : Nat) {f : Bf} (hf : f.hi < 32) (ho : f.lo ≤ f.hi) (kind : Nat) :
    let t := (b.raising 2 fun b => b.raise (R.MAC_LINK_EVENTS p) f).send 0xD p kind 0
    t.flag (R.MAC_LINK_EVENTS p) f = true ∧ (∀ a, a ≠ R.MAC_LINK_EVENTS p → t.word a = b.word a) ∧
      t.inflight = (b.send 0xD p kind 0).inflight ∧ (∀ d, t.frozen d = b.frozen d) ∧ t.ports = b.ports ∧ t.frames = b.frames ∧
      t = { b with regs := t.regs, ports := t.ports, inflight := t.inflight, out := t.out, ctrs := t.ctrs, insts := t.insts } := by
  obtain ⟨hword, -, hinflight, hticks⟩ := b.raising_tells 2 fun b => b.raise (R.MAC_LINK_EVENTS p) f
  obtain ⟨o, cs, is, honly⟩ : ∃ o cs is, b.raising 2 (fun b => b.raise (R.MAC_LINK_EVENTS p) f) =
      { b.raise (R.MAC_LINK_EVENTS p) f with out := o, ctrs := cs, insts := is } := ⟨_, _, _, b.raising_only 2 _⟩
  obtain ⟨rs, hregs⟩ := b.setFld_regs (R.MAC_LINK_EVENTS p) f 1
  rw [Block.raise, hregs] at honly
  intro t
  refine ⟨?_, fun a ha => ?_, ?_, fun d => ?_, ?_, ?_, ?_⟩
  · rw [Block.send_flag, Block.flag, Block.fld, hword, ← Block.fld, ← Block.flag]
    exact Block.flag_raise _ _ _ hf ho
  · rw [Block.send_word, hword, Block.raise, Block.word_setFld, if_neg ha]
  · rw [Block.send_inflight, hinflight, hticks, Block.send_inflight, Block.raise_inflight, Block.raise_ticks]
  · rw [Block.send_frozen, honly]; rfl
  · rw [Block.send_ports, honly]
  · rw [Block.send_frames, honly]
  · rw [show t = Block.send _ _ _ _ _ from rfl, honly]
    rfl

theorem Block.ltFail_of_other {p : Nat} (h : (b.port p).bring ≠ .training) : b.ltFail p = b := by
  unfold Block.ltFail
  rw [if_pos (by simpa using h)]

theorem Block.ltFail_of_training {p : Nat} (h : (b.port p).bring = .training) :
    b.ltFail p = ((b.raising 2 fun b => b.raise (R.MAC_LINK_EVENTS p) F.MAC_LINK_EVENTS_LT_FAIL).send 0xD p 0x19 0).bringUp p := by
  unfold Block.ltFail
  rw [if_neg (by simp [h])]

theorem Block.Sets.inflight {L : List (Nat × Bf)} {b c : Block} (h : b.Sets L c) : c.inflight = b.inflight := by
  obtain ⟨rs, ps, o, rfl⟩ := h.only; rfl
theorem Block.Sets.frames {L : List (Nat × Bf)} {b c : Block} (h : b.Sets L c) : c.frames = b.frames := by
  obtain ⟨rs, ps, o, rfl⟩ := h.only; rfl

theorem Block.ltFail_tells {p : Nat} (h : (b.port p).bring = .training) :
    let t := b.ltFail p
    t.flag (R.MAC_LINK_EVENTS p) F.MAC_LINK_EVENTS_LT_FAIL = true ∧ t.inflight = (b.send 0xD p 0x19 0).inflight ∧
      t.flag (R.MAC_LINK_STATUS p) F.MAC_LINK_STATUS_LT_DONE = !b.trains p ∧ (t.port p).bring = b.bringNext p := by
  rw [b.ltFail_of_training h]
  obtain ⟨hflag, hword, hinflight, hfrozen, -⟩ := b.event_tells p (f := F.MAC_LINK_EVENTS_LT_FAIL) (by decide) (by decide) 0x19
  obtain ⟨c, hc⟩ : ∃ c, (b.raising 2 fun b => b.raise (R.MAC_LINK_EVENTS p) F.MAC_LINK_EVENTS_LT_FAIL).send 0xD p 0x19 0 = c := ⟨_, rfl⟩
  rw [hc] at hflag hword hinflight hfrozen ⊢
  have hcfg := hword (R.MAC_PORT_CFG p) (by unfold R.MAC_PORT_CFG R.MAC_LINK_EVENTS; omega)
  have hboot := hword R.BOOT_STATUS (by unfold R.BOOT_STATUS bootBase R.MAC_LINK_EVENTS macBase; omega)
  refine ⟨?_, ?_, ?_, ?_⟩
  · rw [c.bringUp_events, hflag]
  · rw [(c.bringUp_sets p).inflight, hinflight]
  · rw [c.bringUp_ltDone, (Block.portCfg_congr hcfg).2.1]
  · rw [c.bringUp_port, if_pos rfl, Block.bringNext_congr hcfg hboot (hfrozen _)]

/-! ## The link comes up (R90) -/

theorem Block.linkUp_of_not {p : Nat} (h : (b.port p).bring ≠ .adapting) (snr : List Nat) : b.linkUp p snr = b := by
  unfold Block.linkUp
  rw [if_pos (by simp [h])]

/-- The lanes in use lock with the estimates given. -/
def Block.lanesLock (b : Block) (p : Nat) (snr : List Nat) : Block :=
  b.each 4 fun b k => if bitOf (b.lanesUsed p) k then
      ((b.raise (R.LANE_STATUS (4 * p + k)) F.LANE_STATUS_SIGNAL_DETECT).raise (R.LANE_STATUS (4 * p + k))
        F.LANE_STATUS_CDR_LOCK).setFld (R.LANE_STATUS (4 * p + k)) F.LANE_STATUS_SNR (snr.getD k 0)
    else b

/-- Only words of lanes change as the lanes lock. -/
theorem Block.lanesLock_tells (p : Nat) (snr : List Nat) :
    (∃ rs, b.lanesLock p snr = { b with regs := rs }) ∧ ∀ a, (∀ n, R.LANE_STATUS n ≠ a) → (b.lanesLock p snr).word a = b.word a := by
  have hregs (c : Block) (n v : Nat) (f g h : Bf) : ∃ rs, ((c.raise n f).raise n g).setFld n h v = { c with regs := rs } := ⟨_, rfl⟩
  constructor
  · exact b.each_regs fun c k => by split; exacts [hregs c _ _ _ _ _, ⟨c.regs, rfl⟩]
  · intro a ha
    have hall (n : Nat) : (b.each n fun b k => if bitOf (b.lanesUsed p) k then
        ((b.raise (R.LANE_STATUS (4 * p + k)) F.LANE_STATUS_SIGNAL_DETECT).raise (R.LANE_STATUS (4 * p + k))
          F.LANE_STATUS_CDR_LOCK).setFld (R.LANE_STATUS (4 * p + k)) F.LANE_STATUS_SNR (snr.getD k 0) else b).word a = b.word a := by
      induction n with
      | zero => rfl
      | succ n ih =>
        rw [Block.each_succ]
        split
        · rw [Block.word_setFld, if_neg (ha _).symm, Block.raise, Block.word_setFld, if_neg (ha _).symm, Block.raise, Block.word_setFld,
            if_neg (ha _).symm, ih]
        · exact ih
    exact hall 4

/-- The fields of LINK_STATUS that say that the link is up, set (R90). -/
def Block.upStatus (b : Block) (p lanes : Nat) : Block :=
  let a := R.MAC_LINK_STATUS p
  ((((b.raise a F.MAC_LINK_STATUS_ALIGN_LOCK).localFault p false).lower a F.MAC_LINK_STATUS_REMOTE_FAULT).setFld a
    F.MAC_LINK_STATUS_LANE_LOCK lanes).raise a F.MAC_LINK_STATUS_LINK_UP

theorem Block.linkUp_of_adapting {p : Nat} (h : (b.port p).bring = .adapting) (run : b.frozen (dieOfPort p) = false) (snr : List Nat) :
    b.linkUp p snr = ((((b.lanesLock p snr).upStatus p (b.lanesUsed p)).modPort p fun x => { x with bring := .up }).raising 2 fun b =>
      b.raise (R.MAC_LINK_EVENTS p) F.MAC_LINK_EVENTS_LINK_UP_SEEN).send 0xD p 0x18 0 := by
  obtain ⟨-, hword⟩ := b.lanesLock_tells p snr
  have hused : (b.lanesLock p snr).lanesUsed p = b.lanesUsed p := (Block.portCfg_congr (hword _ (portCfg_ne_lane p))).2.2.2.1
  unfold Block.linkUp Block.upStatus
  rw [if_neg (by simp [h, run])]
  dsimp only
  rw [← Block.lanesLock, hused]

theorem Block.localFault_fault (p : Nat) (on : Bool) : (b.localFault p on).flag (R.MAC_LINK_STATUS p) F.MAC_LINK_STATUS_LOCAL_FAULT = on := by
  have hset : (b.setFld (R.MAC_LINK_STATUS p) F.MAC_LINK_STATUS_LOCAL_FAULT (b2n on)).flag (R.MAC_LINK_STATUS p)
      F.MAC_LINK_STATUS_LOCAL_FAULT = on := by
    rw [Block.flag, Block.fld_setFld_same _ _ _ _ (by decide) (by decide)]
    cases on <;> rfl
  unfold Block.localFault
  dsimp only
  split
  · rw [Block.emit_flag, hset]
  · exact hset

theorem Block.localFault_apart (p : Nat) (on : Bool) {g : Bf} (hg : F.MAC_LINK_STATUS_LOCAL_FAULT.apart g = true) :
    (b.localFault p on).fld (R.MAC_LINK_STATUS p) g = b.fld (R.MAC_LINK_STATUS p) g :=
  (b.localFault_sets p on).fld _ _ fun x hx _ => by rw [List.mem_singleton.mp hx]; exact hg

theorem Block.upStatus_tells (p : Nat) {lanes : Nat} (hlanes : lanes < 16) :
    let t := b.upStatus p lanes
    t.flag (R.MAC_LINK_STATUS p) F.MAC_LINK_STATUS_LINK_UP = true ∧ t.flag (R.MAC_LINK_STATUS p) F.MAC_LINK_STATUS_ALIGN_LOCK = true ∧
      t.flag (R.MAC_LINK_STATUS p) F.MAC_LINK_STATUS_LOCAL_FAULT = false ∧
      t.flag (R.MAC_LINK_STATUS p) F.MAC_LINK_STATUS_REMOTE_FAULT = false ∧
      t.fld (R.MAC_LINK_STATUS p) F.MAC_LINK_STATUS_LANE_LOCK = lanes ∧ t.ports = b.ports ∧
      ∃ rs o, t = { b with regs := rs, out := o } := by
  have hapart (c : Block) (f g : Bf) (v : Nat) (hf : f.hi < 32 ∧ f.lo ≤ f.hi) (h : f.apart g = true) :
      (c.setFld (R.MAC_LINK_STATUS p) f v).fld (R.MAC_LINK_STATUS p) g = c.fld (R.MAC_LINK_STATUS p) g := by
    obtain ⟨ho, hd⟩ := (Bf.apart_iff _ _).mp h
    exact Block.fld_setFld_apart _ _ _ _ _ hf.1 hf.2 ho hd
  obtain ⟨c, hc⟩ : ∃ c, b.raise (R.MAC_LINK_STATUS p) F.MAC_LINK_STATUS_ALIGN_LOCK = c := ⟨_, rfl⟩
  have halign : c.flag (R.MAC_LINK_STATUS p) F.MAC_LINK_STATUS_ALIGN_LOCK = true := by
    rw [← hc]; exact Block.flag_raise _ _ _ (by decide) (by decide)
  obtain ⟨rs, hregs⟩ := b.setFld_regs (R.MAC_LINK_STATUS p) F.MAC_LINK_STATUS_ALIGN_LOCK 1
  have hcports : c.ports = b.ports := by rw [← hc, Block.raise, hregs]
  obtain ⟨-, rs', ps', o', hfault⟩ := c.localFault_sets p false
  have hports : ps' = b.ports := by rw [← hcports, ← c.localFault_ports p false, hfault]
  have hset (d : Block) (f g h : Bf) (u v w : Nat) : ∃ rs, ((d.setFld (R.MAC_LINK_STATUS p) f u).setFld (R.MAC_LINK_STATUS p) g v).setFld
      (R.MAC_LINK_STATUS p) h w = { d with regs := rs } := ⟨_, rfl⟩
  unfold Block.upStatus
  dsimp only
  rw [hc]
  obtain ⟨rs'', hrest⟩ := hset (c.localFault p false) F.MAC_LINK_STATUS_REMOTE_FAULT F.MAC_LINK_STATUS_LANE_LOCK F.MAC_LINK_STATUS_LINK_UP
    0 lanes 1
  refine ⟨Block.flag_raise _ _ _ (by decide) (by decide), ?_, ?_, ?_, ?_, ?_, ?_⟩
  · rw [Block.flag, Block.raise, hapart _ _ _ _ (by decide) (by decide), hapart _ _ _ _ (by decide) (by decide), Block.lower,
      hapart _ _ _ _ (by decide) (by decide), Block.localFault_apart _ _ _ (by decide), ← Block.flag, halign]
  · rw [Block.flag, Block.raise, hapart _ _ _ _ (by decide) (by decide), hapart _ _ _ _ (by decide) (by decide), Block.lower,
      hapart _ _ _ _ (by decide) (by decide), ← Block.flag, Block.localFault_fault]
  · rw [Block.flag, Block.raise, hapart _ _ _ _ (by decide) (by decide), hapart _ _ _ _ (by decide) (by decide), ← Block.flag]
    exact Block.flag_lower _ _ _ (by decide) (by decide)
  · rw [Block.raise, hapart _ _ _ _ (by decide) (by decide), Block.fld_setFld_same _ _ _ _ (by decide) (by decide)]
    exact Nat.mod_eq_of_lt hlanes
  · rw [Block.raise, Block.lower, hrest, hfault, ← hports]
  · rw [Block.raise, Block.lower, hrest, hfault, hports, ← hc, Block.raise, hregs]
    exact ⟨rs'', o', rfl⟩

theorem Block.lanesUsed_lt (p : Nat) : b.lanesUsed p < 16 := by
  unfold Block.lanesUsed
  split <;> omega

theorem Block.linkUp_tells {p : Nat} (h : (b.port p).bring = .adapting) (run : b.frozen (dieOfPort p) = false) (snr : List Nat) :
    let t := b.linkUp p snr
    t.flag (R.MAC_LINK_STATUS p) F.MAC_LINK_STATUS_LINK_UP = true ∧ t.flag (R.MAC_LINK_STATUS p) F.MAC_LINK_STATUS_ALIGN_LOCK = true ∧
      t.flag (R.MAC_LINK_STATUS p) F.MAC_LINK_STATUS_LOCAL_FAULT = false ∧
      t.flag (R.MAC_LINK_STATUS p) F.MAC_LINK_STATUS_REMOTE_FAULT = false ∧
      t.fld (R.MAC_LINK_STATUS p) F.MAC_LINK_STATUS_LANE_LOCK = b.lanesUsed p ∧
      t.flag (R.MAC_LINK_EVENTS p) F.MAC_LINK_EVENTS_LINK_UP_SEEN = true ∧ (t.port p).bring = .up ∧
      t.inflight = (b.send 0xD p 0x18 0).inflight ∧
      t = { b with regs := t.regs, ports := t.ports, inflight := t.inflight, out := t.out, ctrs := t.ctrs, insts := t.insts } := by
  rw [b.linkUp_of_adapting h run snr]
  obtain ⟨⟨rs, hlanes⟩, -⟩ := b.lanesLock_tells p snr
  obtain ⟨hup, halign, hlocal, hremote, hlock, -, rs', o, honly⟩ := (b.lanesLock p snr).upStatus_tells p (b.lanesUsed_lt p)
  obtain ⟨c, hc⟩ : ∃ c, (b.lanesLock p snr).upStatus p (b.lanesUsed p) = c := ⟨_, rfl⟩
  rw [hc] at hup halign hlocal hremote hlock honly ⊢
  rw [hlanes] at honly
  obtain ⟨ps, hport⟩ : ∃ ps, c.modPort p (fun x => { x with bring := .up }) = { c with ports := ps } := ⟨_, rfl⟩
  have hbring := c.port_modPort p (fun x => { x with bring := .up }) p
  rw [hport] at hbring ⊢
  obtain ⟨hflag, hword, hinflight, -, hports, -, hrest⟩ := Block.event_tells { c with ports := ps } p (f := F.MAC_LINK_EVENTS_LINK_UP_SEEN)
    (by decide) (by decide) 0x18
  have hls := hword _ (linkStatus_ne_events p)
  obtain ⟨t, ht⟩ : ∃ t, (Block.raising { c with ports := ps } 2 fun b => b.raise (R.MAC_LINK_EVENTS p) F.MAC_LINK_EVENTS_LINK_UP_SEEN).send
    0xD p 0x18 0 = t := ⟨_, rfl⟩
  rw [ht] at hflag hls hinflight hports hrest ⊢
  have hfld (g : Bf) : t.fld (R.MAC_LINK_STATUS p) g = c.fld (R.MAC_LINK_STATUS p) g := congrArg g.of hls
  refine ⟨?_, ?_, ?_, ?_, ?_, hflag, ?_, ?_, ?_⟩
  · rw [Block.flag, hfld]; exact hup
  · rw [Block.flag, hfld]; exact halign
  · rw [Block.flag, hfld]; exact hlocal
  · rw [Block.flag, hfld]; exact hremote
  · rw [hfld]; exact hlock
  · rw [Block.port, hports]
    exact congrArg Port.bring (hbring.trans (if_pos rfl))
  · rw [hinflight, Block.send_inflight, Block.send_inflight, honly]
  · rw [hrest, honly]

/-! ## The link goes down (R90) -/

theorem Block.linkDownRow_of_down {p : Nat} (down : b.flag (R.MAC_LINK_STATUS p) F.MAC_LINK_STATUS_LINK_UP = false) (c : DownCause)
    (cut : Bool) : b.linkDownRow p c cut = b := by
  unfold Block.linkDownRow
  rw [if_pos (by simp [down])]

/-- What the cause of a link loss sets. -/
def causeFlds (p : Nat) : List (Nat × Bf) :=
  (R.MAC_LINK_STATUS p, F.MAC_LINK_STATUS_ALIGN_LOCK) :: (R.MAC_LINK_STATUS p, F.MAC_LINK_STATUS_LOCAL_FAULT) ::
    (R.MAC_LINK_STATUS p, F.MAC_LINK_STATUS_REMOTE_FAULT) :: darkFlds p

theorem Block.downStatus_tells (p : Nat) (c : DownCause) :
    b.Sets (causeFlds p) (b.downStatus p c) ∧ (b.downStatus p c).ports = b.ports := by
  have hlocal (d : Block) : d.Sets (causeFlds p) (d.localFault p true) := (d.localFault_sets p true).mono (by simp [causeFlds])
  have halign (d : Block) : d.Sets (causeFlds p) (d.lower (R.MAC_LINK_STATUS p) F.MAC_LINK_STATUS_ALIGN_LOCK) :=
    (Block.Sets.refl d _).setFld 0 (by simp [causeFlds]) (by decide) (by decide)
  have hports (d : Block) : (d.lower (R.MAC_LINK_STATUS p) F.MAC_LINK_STATUS_ALIGN_LOCK).ports = d.ports := by
    rw [Block.lower, Block.setFld_ports]
  cases c with
  | lanes m =>
    obtain ⟨rs, hregs⟩ := b.darkLanes_regs p (m.toNat &&& b.lanesUsed p)
    have hdark := (b.darkLanes_sets p (m.toNat &&& b.lanesUsed p)).mono (M := causeFlds p) fun x hx => by simp [causeFlds, hx]
    have hdports : (b.darkLanes p (m.toNat &&& b.lanesUsed p)).ports = b.ports := by rw [hregs]
    exact ⟨(hdark.trans (halign _)).trans (hlocal _), (Block.localFault_ports _ p true).trans ((hports _).trans hdports)⟩
  | align => exact ⟨(halign b).trans (hlocal _), (Block.localFault_ports _ p true).trans (hports b)⟩
  | pcsFault => exact ⟨hlocal b, Block.localFault_ports _ p true⟩
  | remote =>
    refine ⟨(Block.Sets.refl b _).setFld 1 (by simp [causeFlds]) (by decide) (by decide), ?_⟩
    change (b.setFld (R.MAC_LINK_STATUS p) F.MAC_LINK_STATUS_REMOTE_FAULT 1).ports = b.ports
    rw [Block.setFld_ports]

theorem Block.downStatus_linkUp (p : Nat) (c : DownCause) :
    (b.downStatus p c).flag (R.MAC_LINK_STATUS p) F.MAC_LINK_STATUS_LINK_UP = b.flag (R.MAC_LINK_STATUS p) F.MAC_LINK_STATUS_LINK_UP := by
  refine (b.downStatus_tells p c).1.flag fun x hx e => ?_
  simp only [causeFlds, List.mem_cons] at hx
  rcases hx with rfl | rfl | rfl | hx
  iterate 3 rfl
  · exact darkFlds_apart (by decide) x hx e

theorem Block.endTx_of_none {p : Nat} {st : TxStage} (idle : (b.port p).tx = []) : b.endTx p st = b := by
  unfold Block.endTx Block.txAt
  rw [idle]
  rfl

/-- The end of a link loss where no copy is in the transmit path. -/
theorem Block.lossEnd_of_idle {p : Nat} (idle : (b.port p).tx = []) :
    let t := b.lossEnd p true false
    t.fld (R.MAC_PAUSE_STATUS p) F.MAC_PAUSE_STATUS_RX_PAUSED = 0 ∧ (t.port p).quanta = [] ∧
      t.inflight = (b.send 0xD p 0x18 0).inflight ∧ t.frames = b.frames := by
  obtain ⟨cs, hcount⟩ := (Block.Counted.refl b).count (R.MAC_LINK_DOWN_EVENTS p) 1
  obtain ⟨c, hc⟩ : ∃ c, Block.send { b with ctrs := cs } 0xD p 0x18 0 = c := ⟨_, rfl⟩
  have hcut : c.cutTx p = c := by
    have hidle : (c.port p).tx = [] := by rw [← hc]; exact idle
    rw [Block.cutTx, c.endTx_of_none hidle, c.endTx_of_none hidle]
  have hsent : c.inflight = (b.send 0xD p 0x18 0).inflight ∧ c.frames = b.frames ∧ (c.port p).tx = [] := by
    rw [← hc]; exact ⟨rfl, rfl, idle⟩
  obtain ⟨hinflight, hframes, hidle⟩ := hsent
  have hset (f g : Bf) (a a' v w : Nat) : ∃ rs, (c.setFld a f v).setFld a' g w = { c with regs := rs } := ⟨_, rfl⟩
  have hpaused : (c.clearPause p).fld (R.MAC_PAUSE_STATUS p) F.MAC_PAUSE_STATUS_RX_PAUSED = 0 := by
    unfold Block.clearPause
    dsimp only
    rw [Block.modPort_fld, Block.fld_setFld_other _ _ _ _ (pauseStatus_ne p).symm, Block.fld_setFld_same _ _ _ _ (by decide) (by decide),
      Nat.zero_mod]
  have hclear : (c.clearPause p).port p = { c.port p with quanta := [], loadedAt := [], since := [] } ∧
      (c.clearPause p).inflight = c.inflight ∧ (c.clearPause p).frames = c.frames := by
    obtain ⟨rs, h⟩ := hset F.MAC_PAUSE_STATUS_RX_PAUSED F.PRT_PAUSE_WDOG_STATUS_BROKEN (R.MAC_PAUSE_STATUS p) (R.PRT_PAUSE_WDOG_STATUS p) 0 0
    unfold Block.clearPause
    dsimp only
    rw [h]
    exact ⟨(Block.port_modPort _ p _ p).trans (if_pos rfl), rfl, rfl⟩
  obtain ⟨d, hd⟩ : ∃ d, c.clearPause p = d := ⟨_, rfl⟩
  rw [hd] at hpaused hclear
  obtain ⟨hport, hinflight', hframes'⟩ := hclear
  have hflush : d.flushTx p = d.modTx p fun t => t.filter fun c => !c.stage.waits := by
    have hnone : (d.port p).tx = [] := by rw [hport, hidle]
    unfold Block.flushTx
    dsimp only
    rw [hnone]
    rfl
  have hquanta : ((d.modTx p fun t => t.filter fun c => !c.stage.waits).port p).quanta = (d.port p).quanta := by
    rw [Block.modTx, Block.port_modPort, if_pos rfl]
  have hend : b.lossEnd p true false = if d.flushing p then d.flushTx p else d := by
    have hrx : c.cutRx p false = c := if_pos rfl
    unfold Block.lossEnd
    dsimp only
    rw [hcount, hc, hrx, if_pos rfl, hcut, hd]
  rw [hend]
  split
  · rw [hflush]
    exact ⟨hpaused, hquanta.trans (by rw [hport]), hinflight'.trans hinflight, hframes'.trans hframes⟩
  · exact ⟨hpaused, by rw [hport], hinflight'.trans hinflight, hframes'.trans hframes⟩

/-- What the start of a link loss leaves, but for the fields it sets. -/
theorem Block.lossStart_only (p : Nat) : (b.lossStart p).ports = b.ports ∧ (b.lossStart p).inflight = b.inflight ∧
    (b.lossStart p).ticks = b.ticks ∧ (b.lossStart p).frames = b.frames := by
  obtain ⟨rs, hregs⟩ := b.setFld_regs (R.MAC_LINK_STATUS p) F.MAC_LINK_STATUS_LINK_UP 0
  obtain ⟨rs', hregs'⟩ := Block.setFld_regs { b with regs := rs } (R.MAC_LINK_EVENTS p) F.MAC_LINK_EVENTS_LINK_DOWN_SEEN 1
  have honly := Block.raising_only { b with regs := rs } 2 fun b => b.raise (R.MAC_LINK_EVENTS p) F.MAC_LINK_EVENTS_LINK_DOWN_SEEN
  obtain ⟨d, hd⟩ : ∃ d, Block.raising { b with regs := rs } 2 (fun b => b.raise (R.MAC_LINK_EVENTS p) F.MAC_LINK_EVENTS_LINK_DOWN_SEEN) = d :=
    ⟨_, rfl⟩
  rw [hd, Block.raise, hregs'] at honly
  unfold Block.lossStart
  rw [Block.lower, hregs, hd, honly]
  exact ⟨rfl, rfl, rfl, rfl⟩

/-- Bring-up starts again, whichever way: the port is not up, and nothing but what bring-up sets has changed. -/
theorem Block.restart_tells (p : Nat) :
    b.Sets (bringFlds p) (b.restart p) ∧ ((b.restart p).port p).quanta = (b.port p).quanta ∧ ((b.restart p).port p).bring ≠ .up := by
  unfold Block.restart
  split
  · have hport : (b.modPort p fun x => { x with bring := .adapting }).port p = { b.port p with bring := .adapting } :=
      (Block.port_modPort b p _ p).trans (if_pos rfl)
    exact ⟨(Block.Sets.refl b _).modPort _ _, by rw [hport], by rw [hport]; simp⟩
  · have hport := b.bringUp_port p p
    rw [if_pos rfl] at hport
    refine ⟨b.bringUp_sets p, by rw [hport], ?_⟩
    rw [hport]
    dsimp only [Block.bringNext]
    split
    · split
      · simp
      · split <;> simp
    · simp

/-- A link that is up goes down, with no copy in transmission and no frame in reception. -/
theorem Block.linkDownRow_tells {p : Nat} (hp : p < 256) (c : DownCause) (up : b.flag (R.MAC_LINK_STATUS p) F.MAC_LINK_STATUS_LINK_UP = true)
    (idle : (b.port p).tx = []) :
    let t := b.linkDownRow p c false
    t.flag (R.MAC_LINK_STATUS p) F.MAC_LINK_STATUS_LINK_UP = false ∧
      t.flag (R.MAC_LINK_EVENTS p) F.MAC_LINK_EVENTS_LINK_DOWN_SEEN = true ∧
      t.fld (R.MAC_PAUSE_STATUS p) F.MAC_PAUSE_STATUS_RX_PAUSED = 0 ∧ (t.port p).quanta = [] ∧
      t.inflight = (b.send 0xD p 0x18 0).inflight ∧ t.frames = b.frames ∧ (t.port p).bring ≠ .up := by
  have hrow : b.linkDownRow p c false = ((b.downStatus p c).linkLoss p true false).restart p := by
    unfold Block.linkDownRow
    rw [if_neg (by simp [up])]
  obtain ⟨hsets, hports⟩ := b.downStatus_tells p c
  have hup := (b.downStatus_linkUp p c).trans up
  have hticks : (b.downStatus p c).ticks = b.ticks := by obtain ⟨rs, ps, o, h⟩ := hsets.only; rw [h]
  have hinflight := hsets.inflight
  have hframes := hsets.frames
  obtain ⟨d, hd⟩ : ∃ d, b.downStatus p c = d := ⟨_, rfl⟩
  rw [hd] at hup hports hticks hinflight hframes hrow
  obtain ⟨hsports, hsinflight, hsticks, hsframes⟩ := d.lossStart_only p
  have hidle : ((d.lossStart p).port p).tx = [] := by rw [Block.port, hsports, hports]; exact idle
  obtain ⟨hpaused, hquanta, heinflight, heframes⟩ := (d.lossStart p).lossEnd_of_idle hidle
  have hlink := d.linkLoss_linkUp hp true false
  have hne : R.MAC_LINK_EVENTS p ≠ R.PRT_PAUSE_WDOG_STATUS p := mac_ne_prt hp (by omega) _
  have hseen : (d.linkLoss p true false).flag (R.MAC_LINK_EVENTS p) F.MAC_LINK_EVENTS_LINK_DOWN_SEEN = true := by
    rw [d.linkLoss_of_up hup, Block.flag, Block.fld, Block.lossEnd_word _ _ _ _ (by unfold R.MAC_LINK_EVENTS R.MAC_PAUSE_STATUS; omega) hne,
      ← Block.fld, ← Block.flag, d.lossStart_seen]
  rw [← d.linkLoss_of_up hup] at hpaused hquanta heinflight heframes
  obtain ⟨e, he⟩ : ∃ e, d.linkLoss p true false = e := ⟨_, rfl⟩
  rw [he] at hpaused hquanta heinflight heframes hlink hseen hrow
  obtain ⟨hrsets, hrquanta, hrbring⟩ := e.restart_tells p
  have hpause : ∀ x ∈ bringFlds p, x.1 ≠ R.MAC_PAUSE_STATUS p :=
    bringFlds_ne (by unfold R.MAC_PAUSE_STATUS R.MAC_LINK_STATUS; omega) fun n => laneStatus_ne_mac n p (by decide)
  have hevents : ∀ x ∈ bringFlds p, x.1 ≠ R.MAC_LINK_EVENTS p :=
    bringFlds_ne (linkEvents_ne p) fun n => laneStatus_ne_mac n p (by decide)
  rw [hrow]
  refine ⟨?_, ?_, ?_, ?_, ?_, ?_, hrbring⟩
  · rw [hrsets.flag (bringFlds_apart (by decide)), hlink]
  · rw [hrsets.flag fun x hx h => absurd h (hevents x hx), hseen]
  · rw [Block.fld, hrsets.word hpause, ← Block.fld, hpaused]
  · rw [hrquanta, hquanta]
  · rw [hrsets.inflight, heinflight, Block.send_inflight, Block.send_inflight, hsinflight, hinflight, hsticks, hticks]
  · rw [hrsets.frames, heframes, hsframes, hframes]

theorem takes_anDone (p : Fin 256) (partner : List (BitVec 2 × BitVec 2)) :
    Takes (.anDone p partner) b (b.anDone p (partner.map fun x => (x.1.toNat, x.2.toNat))) := fun _ => rfl
theorem takes_ltDone (p : Fin 256) (x : Training) :
    Takes (.ltDone p x) b (b.ltDone p (x.updates.map fun u => (u.1.val, u.2.toNat)) x.done) := fun _ => rfl
theorem takes_ltFail (p : Fin 256) : Takes (.ltFail p) b (b.ltFail p) := fun _ => rfl
theorem takes_linkUp (p : Fin 256) (snr : List (BitVec 16)) : Takes (.linkUp p snr) b (b.linkUp p (snr.map BitVec.toNat)) := fun _ => rfl
theorem takes_linkDown (p : Fin 256) (c : DownCause) (cut : Bool) : Takes (.linkDown p c cut) b (b.linkDownRow p c cut) := fun _ => rfl

/-- Settles O7: negotiation, training, and links coming up and going down (R81, R82, R87, R90). -/
theorem linksNegotiateTrainComeUpAndGoDown : Obligations.LinksNegotiateTrainComeUpAndGoDown := by
  unfold Obligations.LinksNegotiateTrainComeUpAndGoDown
  refine ⟨⟨?_, ?_, ?_, ?_, ?_, ?_⟩, ?_, ?_, ?_, ?_⟩
  · intro b p partner h speed media
    refine ⟨fun ⟨x, hx, hs, hm⟩ => ?_, fun hnone => ?_⟩
    · have own : (speed, media) ∈ partner.map fun x => (x.1.toNat, x.2.toNat) := List.mem_map.mpr ⟨x, hx, by rw [hs, hm]⟩
      exact ⟨_, takes_congr (takes_anDone b p partner) (b.anDone_of_match h own), b.anDone_match_tells p⟩
    · have own : (speed, media) ∉ partner.map fun x => (x.1.toNat, x.2.toNat) := by
        rintro hmem
        obtain ⟨x, hx, he⟩ := List.mem_map.mp hmem
        obtain ⟨hs, hm⟩ := Prod.mk.inj he
        exact hnone x hx ⟨hs, hm⟩
      refine ⟨_, takes_congr (takes_anDone b p partner) (b.anDone_of_none h own), ?_, ?_, ?_, ?_⟩
      · unfold Block.startNegotiation
        rw [Block.modPort_regs, Block.emit_regs]
      · obtain ⟨-, -, -, -, hcfg⟩ := Block.portCfg_congr (b.raise_portCfg p F.MAC_LINK_STATUS_AN_NO_COMMON 1)
        unfold Block.startNegotiation Block.raise
        dsimp only
        rw [Block.modPort_out, Block.emit_out, hcfg, hcfg, Block.setFld_out]
      · rw [Block.startNegotiation_port, if_pos rfl]
      · obtain ⟨rs, hregs⟩ := b.setFld_regs (R.MAC_LINK_STATUS p) F.MAC_LINK_STATUS_AN_NO_COMMON 1
        rw [Block.raise, hregs]
        rfl
  · intro b p partner h
    exact takes_congr (takes_anDone b p partner) (b.anDone_of_other h _)
  · intro b p k v h
    have hdone := b.ltDone_of_running h [(k.val, v.toNat)]
    refine ⟨b.tapUpdate p k v.toNat, takes_congr (takes_ltDone b p ⟨[(k, v)], false⟩) hdone, ?_, fun a ha => ?_, ?_⟩
    · rw [b.tapUpdate_word, Nat.mod_eq_of_lt v.isLt]
      simp
    · rw [b.tapUpdate_word, if_neg fun h => ha h.1]
    · obtain ⟨rs, hregs⟩ := b.tapUpdate_regs p k v.toNat
      rw [hregs]
  · intro b p updates h
    obtain ⟨hactive, htxeq, hdone, hbring, honly⟩ := b.ltDone_done_tells (p := p) (updates.map fun u => (u.1.val, u.2.toNat))
    refine ⟨_, takes_congr (takes_ltDone b p ⟨updates, true⟩) (b.ltDone_of_done h _), fun k => hactive k k.isLt, fun k hk => ?_, hdone, hbring, honly⟩
    refine htxeq k k.isLt fun u hu => ?_
    obtain ⟨x, hx, rfl⟩ := List.mem_map.mp hu
    exact ⟨x.1.isLt, fun e => hk x hx (Fin.ext e)⟩
  · intro b p h an lt
    exact ⟨_, takes_ltFail b p, b.ltFail_tells h⟩
  · intro b p updates done h
    exact ⟨takes_congr (takes_ltDone b p ⟨updates, done⟩) (b.ltDone_of_other h _ _), takes_congr (takes_ltFail b p) (b.ltFail_of_other h)⟩
  · intro b p snr h run
    exact ⟨_, takes_linkUp b p snr, b.linkUp_tells h run _⟩
  · intro b p snr h
    exact takes_congr (takes_linkUp b p snr) (b.linkUp_of_not h _)
  · intro b p c cut down
    exact takes_congr (takes_linkDown b p c cut) (b.linkDownRow_of_down down c cut)
  · intro b p c up idle
    exact ⟨_, takes_linkDown b p c false, b.linkDownRow_tells p.isLt c up idle⟩

end Sys2Proof.Machine
end

section
/-!
PROOFS. The microengine: what the words of Tables 5-3 and 5-4 do to their context, and how routines start and end (R152 to R174).
-/
namespace Sys2Proof.Machine
open Sys2Proof

section
variable {b : Block} {C k : Nat} {x : Ctx} {m : Micro} {op : MicroOp} {i : Nat}

/-- A word runs where the word at the context's PC is of its kind. -/
theorem Block.word_of_kind (hx : b.ctx C k = x) (hf : x.frame.isSome = true) (hm : b.microAt C x.pc = m) (hk : m.kind = op)
    (f : Ctx → Micro → Block → Block) : b.word_ C k op f = f x m b := by
  simp [Block.word_, hx, hm, hk, hf]

theorem Block.winOf_some (hi : x.frame = some i) : b.winOf x = ((b.frame i).bytes, min 256 (b.frame i).bytes.length) := by
  simp [Block.winOf, hi]

theorem Micro.byteOff_eq (m : Micro) (x : Ctx) : m.byteOff x = m.offset.toNat + (if m.rel = 1 then x.cur else 0) := by
  simp [Micro.byteOff]

theorem toNat_and_eq_zero (r s : BitVec 32) : (r.toNat &&& s.toNat = 0) ↔ (r &&& s = 0) := by
  rw [← BitVec.toNat_and, ← BitVec.toNat_inj]
  rfl

/-- What an ALU word leaves: its result through DST and the header-vector write, one step, and the branch by MASK. -/
def Block.aluAfter (b : Block) (C k : Nat) (x : Ctx) (m : Micro) (r : BitVec 32) : Block :=
  (b.setCtx C k { ((x.putDst m.dst.toNat r.toNat).hvWrite x m r.toNat).stepBy 1 with
    pc := if r &&& m.mask = 0 then m.t0.toNat else m.t1.toNat }).hands C 1

/-- The operand A of an ALU word. -/
def Ctx.aluA (x : Ctx) (m : Micro) : Nat :=
  if m.aux.toNat % 8 = 1 then x.x else if m.aux.toNat % 8 = 2 then x.y else if m.aux.toNat % 8 = 3 then x.cur else 0

theorem Block.alu_eq (hx : b.ctx C k = x) (hf : x.frame.isSome = true) (hm : b.microAt C x.pc = m) (hk : m.kind = op)
    {f : Nat → Nat → Nat} {r : BitVec 32} (hr : f (x.aluA m) m.value.toNat % 2 ^ 32 = r.toNat) :
    b.alu op f C k = b.aluAfter C k x m r := by
  unfold Block.alu
  rw [Block.word_of_kind hx hf hm hk]
  dsimp only
  unfold Ctx.aluA at hr
  have done : b.goOn C k ((x.putDst m.dst.toNat r.toNat).hvWrite x m r.toNat) 1
      (if (r.toNat &&& m.mask.toNat == 0) = true then m.t0.toNat else m.t1.toNat) = b.aluAfter C k x m r := by
    simp only [beq_iff_eq, toNat_and_eq_zero]
    rfl
  split <;> simp_all
end

/-! ## The ALU (Table 5-4) -/

theorem add_mod_toNat (a : Nat) (v : BitVec 32) : (a + v.toNat) % 2 ^ 32 = (BitVec.ofNat 32 a + v).toNat := by
  simp [BitVec.toNat_add]
theorem sub_mod_toNat (a : Nat) (v : BitVec 32) : (a + 2 ^ 32 - v.toNat) % 2 ^ 32 = (BitVec.ofNat 32 a - v).toNat := by
  have := v.isLt
  rw [BitVec.toNat_sub, BitVec.toNat_ofNat]
  omega
theorem and_mod_toNat (a : Nat) (v : BitVec 32) : (a &&& v.toNat) % 2 ^ 32 = (BitVec.ofNat 32 a &&& v).toNat := by
  rw [BitVec.toNat_and, BitVec.toNat_ofNat, Nat.and_mod_two_pow, Nat.mod_eq_of_lt v.isLt]
theorem or_mod_toNat (a : Nat) (v : BitVec 32) : (a ||| v.toNat) % 2 ^ 32 = (BitVec.ofNat 32 a ||| v).toNat := by
  rw [BitVec.toNat_or, BitVec.toNat_ofNat, Nat.or_mod_two_pow, Nat.mod_eq_of_lt v.isLt]
theorem xor_mod_toNat (a : Nat) (v : BitVec 32) : (a ^^^ v.toNat) % 2 ^ 32 = (BitVec.ofNat 32 a ^^^ v).toNat := by
  rw [BitVec.toNat_xor, BitVec.toNat_ofNat, Nat.xor_mod_two_pow, Nat.mod_eq_of_lt v.isLt]
theorem shl_mod_toNat (a s : Nat) : a * 2 ^ s % 2 ^ 32 = (BitVec.ofNat 32 a <<< s).toNat := by
  rw [BitVec.toNat_shiftLeft, BitVec.toNat_ofNat, Nat.shiftLeft_eq, Nat.mod_mul_mod]
theorem shr_mod_toNat (a s : Nat) : a / 2 ^ s % 2 ^ 32 = (BitVec.ofNat 32 (a >>> s)).toNat := by
  rw [BitVec.toNat_ofNat, Nat.shiftRight_eq_div_pow]

/-- Settles O10: each ALU word is `Block.alu` of its operator, whose value modulo 2^32 is that of the bit-vector operator. -/
theorem aluWordsComputeModuloTwoTo32 : Obligations.AluWordsComputeModuloTwoTo32 := by
  unfold Obligations.AluWordsComputeModuloTwoTo32
  intro b C k x m hx hf hm
  dsimp only
  refine ⟨fun hk => ?_, fun hk => ?_, fun hk => ?_, fun hk => ?_, fun hk => ?_, fun hk => ?_, fun hk => ?_, fun hk => ?_⟩
  · exact takes_congr (u := b.aluAdd C k) (fun _ => rfl) (Block.alu_eq hx hf hm hk (add_mod_toNat _ _))
  · exact takes_congr (u := b.aluSub C k) (fun _ => rfl) (Block.alu_eq hx hf hm hk (sub_mod_toNat _ _))
  · exact takes_congr (u := b.aluAnd C k) (fun _ => rfl) (Block.alu_eq hx hf hm hk (and_mod_toNat _ _))
  · exact takes_congr (u := b.aluOr C k) (fun _ => rfl) (Block.alu_eq hx hf hm hk (or_mod_toNat _ _))
  · exact takes_congr (u := b.aluXor C k) (fun _ => rfl) (Block.alu_eq hx hf hm hk (xor_mod_toNat _ _))
  · exact takes_congr (u := b.aluShl C k) (fun _ => rfl) (Block.alu_eq hx hf hm hk (shl_mod_toNat _ _))
  · exact takes_congr (u := b.aluShr C k) (fun _ => rfl) (Block.alu_eq hx hf hm hk (shr_mod_toNat _ _))
  · exact takes_congr (u := b.aluMove C k) (fun _ => rfl)
      (Block.alu_eq hx hf hm hk (Nat.mod_eq_of_lt m.value.isLt))

/-! ## The words that read the window -/

section
variable {b : Block} {C k : Nat} {x : Ctx} {m : Micro} {op : MicroOp} {i : Nat}

theorem Ctx.putCur_eq (x : Ctx) (v : Nat) : x.putCur v = { x with cur := min 256 v, ovr := x.ovr || decide (256 < v) } := by
  unfold Ctx.putCur
  by_cases h : v > 256
  · rw [if_pos h, Nat.min_eq_left (by omega), decide_eq_true h, Bool.or_true]
  · rw [if_neg h, Nat.min_eq_right (by omega), decide_eq_false h, Bool.or_false]

theorem slice_add (l : List Byte) (i n : Nat) : slice l i (i + n) = (l.drop i).take n := by
  rw [slice, Nat.add_sub_cancel_left]

/-- The byte that a word's OFFSET names in the window. -/
def Micro.at_ (m : Micro) (x : Ctx) : Nat := m.offset.toNat + (if m.rel = 1 then x.cur else 0)

/-- The field that a word extracts, and whether it touched a byte at or beyond the window's end (R156). -/
def Block.extracted (b : Block) (i : Nat) (x : Ctx) (m : Micro) : Nat × Bool :=
  (beAt ((b.frame i).bytes.take (min 256 (b.frame i).bytes.length)) (m.at_ x) 5 / 2 ^ (40 - m.bitoff.toNat - (m.width.toNat + 1))
      % 2 ^ (m.width.toNat + 1),
    decide (min 256 (b.frame i).bytes.length ≤ (8 * m.at_ x + m.bitoff.toNat + (m.width.toNat + 1) - 1) / 8))

theorem Block.extract_window (hi : x.frame = some i) : extract (b.winOf x).1 (b.winOf x).2 (m.byteOff x) m.bitoff.toNat (m.width.toNat + 1) =
    b.extracted i x m := by
  rw [Block.winOf_some hi, Micro.byteOff_eq]
  rfl

theorem Block.ext_eq (hx : b.ctx C k = x) (hi : x.frame = some i) (hm : b.microAt C x.pc = m) (hk : m.kind = op)
    (test : Nat → Nat → Bool) : b.ext op test C k =
      b.goOn C k (({ x with ovr := x.ovr || (b.extracted i x m).2 }.putDst m.dst.toNat (b.extracted i x m).1).hvWrite x m (b.extracted i x m).1) 1
        (if test ((b.extracted i x m).1 &&& m.mask.toNat) (m.value.toNat &&& m.mask.toNat) then m.t0.toNat else m.t1.toNat) := by
  unfold Block.ext
  rw [Block.word_of_kind hx (by rw [hi]; rfl) hm hk]
  dsimp only
  rw [Block.extract_window hi]

theorem Block.adv_eq (hx : b.ctx C k = x) (hi : x.frame = some i) (hm : b.microAt C x.pc = m) (hk : m.kind = .adv) {y : Ctx}
    (hy : { x with ovr := x.ovr || (b.extracted i x m).2 }.putCur
      (x.cur + (b.extracted i x m).1 * 2 ^ (m.aux.toNat % 8) + m.value.toNat % 512) = y) :
    b.adv C k = b.goOn C k (y.hvWrite x m y.cur) 1 (if y.cur < min 256 (b.frame i).bytes.length then m.t0.toNat else m.t1.toNat) := by
  unfold Block.adv
  rw [Block.word_of_kind hx (by rw [hi]; rfl) hm hk]
  dsimp only
  rw [Block.extract_window hi, hy, Block.winOf_some hi]

theorem Block.dispatch_eq (hx : b.ctx C k = x) (hi : x.frame = some i) (hm : b.microAt C x.pc = m) (hk : m.kind = .dispatch) :
    b.dispatch C k = b.goOn C k { x with ovr := x.ovr || (b.extracted i x m).2 } 1
      ((m.t0.toNat + ((b.extracted i x m).1 &&& m.mask.toNat % 16)) % 4096) := by
  unfold Block.dispatch
  rw [Block.word_of_kind hx (by rw [hi]; rfl) hm hk]
  dsimp only
  rw [Block.extract_window hi]

theorem Block.br_eq (hx : b.ctx C k = x) (hf : x.frame.isSome = true) (hm : b.microAt C x.pc = m) (hk : m.kind = op) (c : Ctx → Bool) :
    b.br op c C k = b.goOn C k x 1 (if c x then m.t0.toNat else m.t1.toNat) := by
  unfold Block.br
  rw [Block.word_of_kind hx hf hm hk]

/-- The bytes that a CSUM word sums. -/
def Micro.sumLen (m : Micro) : Nat := if m.value.toNat % 512 = 0 then 256 else m.value.toNat % 512

theorem Block.sum_eq (hx : b.ctx C k = x) (hi : x.frame = some i) (hm : b.microAt C x.pc = m) (hk : m.kind = op) {start : Ctx → Nat} {r : Nat}
    (hr : fold16 (sum16 ((((b.frame i).bytes.take (min 256 (b.frame i).bytes.length) ++ zeros 1024).drop (m.at_ x)).take m.sumLen) + start x) = r) :
    b.sum op start C k = b.goOn C k
      (({ x with x := r, ovr := x.ovr || decide (min 256 (b.frame i).bytes.length < m.at_ x + m.sumLen) } : Ctx).hvWrite x m r)
      ((m.sumLen + 31) / 32) (if r = 0xFFFF then m.t0.toNat else m.t1.toNat) := by
  have hlen : (if m.value.toNat % 512 == 0 then 256 else m.value.toNat % 512) = m.sumLen := by simp [Micro.sumLen]
  unfold Block.sum
  rw [Block.word_of_kind hx (by rw [hi]; rfl) hm hk]
  dsimp only
  rw [hlen, Micro.byteOff_eq, show m.offset.toNat + (if m.rel = 1 then x.cur else 0) = m.at_ x from rfl, slice_add, Block.winOf_some hi, hr]
  simp only [beq_iff_eq]
end

/-- Settles O11: each word is the word's operation at the extracted field, or at the sum, as R156 and R158 read the window. -/
theorem windowBranchAndChecksumWordsGoOn : Obligations.WindowBranchAndChecksumWordsGoOn := by
  unfold Obligations.WindowBranchAndChecksumWordsGoOn
  refine ⟨fun b C k x m i hx hi hm => ?_, fun b C k x m i hx hi hm => ?_⟩
  · dsimp only
    refine ⟨fun hk => ?_, fun hk => ?_, fun hk => ?_, fun hk => ?_⟩
    · refine takes_congr (u := b.extEq C k) (fun _ => rfl) ((Block.ext_eq hx hi hm hk _).trans ?_)
      simp only [beq_iff_eq]
      rfl
    · refine takes_congr (u := b.extLt C k) (fun _ => rfl) ((Block.ext_eq hx hi hm hk _).trans ?_)
      simp only [decide_eq_true_eq]
      rfl
    · exact takes_congr (u := b.adv C k) (fun _ => rfl) (Block.adv_eq hx hi hm hk (Ctx.putCur_eq _ _))
    · exact takes_congr (u := b.dispatch C k) (fun _ => rfl) (Block.dispatch_eq hx hi hm hk)
  · have hf : x.frame.isSome = true := by rw [hi]; rfl
    refine ⟨fun hk => ?_, fun hk => ?_, fun hk => ?_, fun hk => ?_, fun hk => ?_, fun hk => ?_⟩
    · exact takes_congr (u := b.branch C k) (fun _ => rfl) (Block.br_eq hx hf hm hk _)
    · exact takes_congr (u := b.branchOvr C k) (fun _ => rfl) (Block.br_eq hx hf hm hk _)
    · exact takes_congr (u := b.branchEq C k) (fun _ => rfl) (Block.br_eq hx hf hm hk _)
    · exact takes_congr (u := b.branchLt C k) (fun _ => rfl) (Block.br_eq hx hf hm hk _)
    · exact takes_congr (u := b.csum C k) (fun _ => rfl) (Block.sum_eq hx hi hm hk rfl)
    · exact takes_congr (u := b.csumContinue C k) (fun _ => rfl) (Block.sum_eq hx hi hm hk rfl)

/-! ## Safe points, and the ends of a routine -/

/-- Settles O12: CHECK is the word's operation, which reads the requests in their order. -/
theorem checkActsOnTheFirstRequest : Obligations.CheckActsOnTheFirstRequest := by
  unfold Obligations.CheckActsOnTheFirstRequest
  intro b C k x m i hx hi hm hk
  refine takes_congr (u := b.check C k) (fun _ => rfl) ?_
  have hf : x.frame.isSome = true := by rw [hi]; rfl
  have hpend : (b.hands C 1).holdPending C = b.holdPending C := by
    simp only [Block.hands, Block.holdPending, Block.pmc_die, Block.count_die]
  have hlimit : (b.hands C 1).fld (R.CLS_ME_CFG C) F.CLS_ME_CFG_STEP_LIMIT = b.fld (R.CLS_ME_CFG C) F.CLS_ME_CFG_STEP_LIMIT := by
    rw [Block.hands, Block.pmc_fld, Block.count_fld]
  unfold Block.check
  rw [Block.word_of_kind hx hf hm hk]
  dsimp only
  rw [hi, hpend, hlimit]
  rfl

section
variable {b : Block} {C k : Nat} {x : Ctx} {m : Micro} {op : MicroOp} {i : Nat}

theorem Block.hands_holdPending (C' n : Nat) : (b.hands C' n).holdPending C = b.holdPending C := by
  simp only [Block.hands, Block.holdPending, Block.pmc_die, Block.count_die]
theorem Block.hands_ctx (C' n : Nat) : (b.hands C' n).ctx C k = b.ctx C k := by
  rw [Block.hands, Block.pmc_ctx, Block.count_ctx]

/-- An END or FAIL word: HOLD acts, or the routine ends with the vector that the word writes back. -/
theorem Block.ending_eq (hx : b.ctx C k = x) (hi : x.frame = some i) (hm : b.microAt C x.pc = m) (hk : m.kind = op)
    (cnt : Nat → Nat) (sub : Micro → Nat) (g : Micro → Vec → Vec) :
    b.ending op cnt sub g C k = if b.holdPending C then (b.hands C 1).park C k i
      else ((((b.hands C 1).count (cnt C) 1).setCtx C k {}).modFrame i fun f => { f with hv := g m x.vec }).classify i (sub m) := by
  unfold Block.ending
  rw [Block.word_of_kind hx (by rw [hi]; rfl) hm hk]
  dsimp only
  unfold Block.finish
  rw [hi, Block.hands_holdPending, Block.count_ctx, Block.hands_ctx, hx]
  rfl

theorem Block.illegalWord_eq (hx : b.ctx C k = x) (hi : x.frame = some i) (hm : b.microAt C x.pc = m) (hk : m.kind = .illegal) :
    b.illegalWord C k = if b.holdPending C then b.park C k i
      else ((b.count (R.CLS_ME_ILLEGAL C) 1).sendOncePerMs 0xB C 0x28 x.pc).fault_ C k i := by
  unfold Block.illegalWord
  rw [Block.word_of_kind hx (by rw [hi]; rfl) hm hk, hi]
  rfl

theorem Block.contextStart_of_waiting {u entry : Nat} (run : b.frozen (C / 8) = false)
    (free : (List.range 64).find? (fun n => (b.ctx C n).frame.isNone) = some k)
    (next : ((List.range 8).map fun n => ((b.cluster C).lastUnit + 1 + n) % 8).findSome?
      (fun v => (b.waitingAt (8 * C + v)).map fun e => (v, e)) = some (u, i, entry)) :
    b.contextStart C =
      (((((b.setCtx C k { frame := some i, pc := entry, cur := Vec.f (b.frame i).hv 3 ⟨8, 0⟩, steps := 1, vec := (b.frame i).hv
          }).modCluster C fun c => { c with lastUnit := u }).modFrame i fun f => { f with me := .running }).count
        (R.CLS_ME_STARTS C) 1).count (R.CLS_ME_HANDSHAKES C) 1).pmc (.cls C) 0x03 0xFFF 1 := by
  unfold Block.contextStart
  dsimp only
  rw [run, free, next]
  exact if_neg Bool.false_ne_true
end

/-! ## ABORT and the control store's maintenance -/

section
variable (b : Block) (C : Nat)

theorem Block.abort_set {v : Nat} (h : F.CLS_ME_CTRL_ABORT.of v = 1) : b.abort C v =
    b.modCluster C fun c => { c with ctxs := c.ctxs.map fun e => (e.1, { e.2 with abort := true }) } := by
  simp [Block.abort, h]
theorem Block.abort_clear {v : Nat} (h : F.CLS_ME_CTRL_ABORT.of v = 0) : b.abort C v = b := by simp [Block.abort, h]

theorem Block.ctxs_modCluster_abort :
    ((b.modCluster C fun c => { c with ctxs := c.ctxs.map fun e => (e.1, { e.2 with abort := true }) }).cluster C).ctxs =
      (b.cluster C).ctxs.map fun e => (e.1, { e.2 with abort := true }) := by
  rw [Block.cluster_modCluster, if_pos rfl]

theorem Block.abort_tells (v : Nat) :
    (F.CLS_ME_CTRL_ABORT.of v = 1 → ∀ e ∈ ((b.abort C v).cluster C).ctxs, e.2.abort = true) ∧
    (F.CLS_ME_CTRL_ABORT.of v = 0 → b.abort C v = b) ∧
    ((b.abort C v).cluster C).ctxs.map (fun e => (e.1, { e.2 with abort := true })) =
      (b.cluster C).ctxs.map (fun e => (e.1, { e.2 with abort := true })) ∧
    b.abort C v = { b with clusters := (b.abort C v).clusters } := by
  have hbit : F.CLS_ME_CTRL_ABORT.of v < 2 := Bf.of_lt _ _
  rcases (by omega : F.CLS_ME_CTRL_ABORT.of v = 0 ∨ F.CLS_ME_CTRL_ABORT.of v = 1) with h | h
  · rw [b.abort_clear C h, h]
    exact ⟨by simp, fun _ => rfl, rfl, rfl⟩
  · rw [b.abort_set C h, h]
    refine ⟨fun _ e he => ?_, by simp, ?_, rfl⟩
    · rw [Block.ctxs_modCluster_abort] at he
      obtain ⟨y, -, rfl⟩ := List.mem_map.mp he
      rfl
    · rw [Block.ctxs_modCluster_abort, List.map_map]
      rfl

theorem Block.raise_only_regs (a : Nat) (f : Bf) : b.raise a f = { b with regs := (b.raise a f).regs } := by
  obtain ⟨rs, hregs⟩ := b.setFld_regs a f 1
  rw [Block.raise, hregs]

theorem Block.setCtr_lower_only (a v a' : Nat) (f : Bf) :
    (b.setCtr a v).lower a' f = { b with regs := ((b.setCtr a v).lower a' f).regs, ctrs := ((b.setCtr a v).lower a' f).ctrs } := by
  obtain ⟨rs, hregs⟩ := (b.setCtr a v).setFld_regs a' f 0
  rw [Block.lower, hregs]
  rfl

/-- The words that a write of CS_RD_ADDR latches: after n of the six. -/
theorem Block.csRdData_each (x n : Nat) :
    (∀ j, (b.each n fun b j => b.setWord (R.CLS_CS_RD_DATA C j) (x / 2 ^ (32 * j) % 2 ^ 32)).word (R.CLS_CS_RD_DATA C j) =
      if j < n then x / 2 ^ (32 * j) % 2 ^ 32 else b.word (R.CLS_CS_RD_DATA C j)) ∧
    (b.each n fun b j => b.setWord (R.CLS_CS_RD_DATA C j) (x / 2 ^ (32 * j) % 2 ^ 32)).clusters = b.clusters := by
  induction n with
  | zero => exact ⟨fun j => by rw [if_neg (by omega)]; rfl, rfl⟩
  | succ n ih =>
    rw [Block.each_succ]
    obtain ⟨words, clusters⟩ := ih
    refine ⟨fun j => ?_, by rw [Block.setWord_clusters, clusters]⟩
    by_cases h : j = n
    · rw [h, Block.word_setWord_same, if_pos (by omega), Nat.mod_mod]
    · have ne : R.CLS_CS_RD_DATA C j ≠ R.CLS_CS_RD_DATA C n := by unfold R.CLS_CS_RD_DATA; omega
      rw [Block.word_setWord_other _ _ ne, words]
      simp only [show j < n + 1 ↔ j < n by omega]
end

/-- Settles O13: an END, FAIL or illegal word is `Block.ending` or `Block.illegalWord`; the other commands are their operations. -/
theorem routinesStartAndEndAsTheirWordsSay : Obligations.RoutinesStartAndEndAsTheirWordsSay := by
  unfold Obligations.RoutinesStartAndEndAsTheirWordsSay
  refine ⟨fun b C k x m i hx hi hm => ⟨fun hk => ?_, fun hk => ?_, fun hk => ?_, fun hk => ?_, fun hk => ?_⟩,
    fun b C k u i entry run free next => ?_, fun b C v reach => ?_, fun b C v reach one => ?_, fun b C busy => ?_, fun b w C v reach => ?_⟩
  · exact takes_congr (u := b.endPlain C k) (fun _ => rfl) (Block.ending_eq hx hi hm hk _ _ _)
  · exact takes_congr (u := b.endMal C k) (fun _ => rfl) (Block.ending_eq hx hi hm hk _ _ _)
  · exact takes_congr (u := b.failPlain C k) (fun _ => rfl) (Block.ending_eq hx hi hm hk _ _ _)
  · exact takes_congr (u := b.failWindow C k) (fun _ => rfl) (Block.ending_eq hx hi hm hk _ _ _)
  · exact takes_congr (u := b.illegalWord C k) (fun _ => rfl) (Block.illegalWord_eq hx hi hm hk)
  · exact takes_congr (u := b.contextStart C) (fun _ => rfl) (Block.contextStart_of_waiting run free next)
  · exact ⟨b.abort C v.toNat, takes_of_write reach fun _ => rfl, b.abort_tells C v.toNat⟩
  · have hredigest : b.redigest C v.toNat = b.raise (R.CLS_CS_STATUS C) F.CLS_CS_STATUS_DIGEST_BUSY := by simp [Block.redigest, one]
    exact ⟨_, takes_congr (u := b.redigest C v.toNat) (takes_of_write reach fun _ => rfl) hredigest,
      b.flag_raise _ _ (by decide) (by decide), b.raise_only_regs _ _, fun a ha => b.word_setFld_other _ _ ha⟩
  · have hdone : b.redigestDone C = (b.setCtr (R.CLS_CS_DIGEST_NOW C) (b.storeDigest C)).lower (R.CLS_CS_STATUS C)
        F.CLS_CS_STATUS_DIGEST_BUSY := if_pos busy
    refine ⟨_, takes_congr (u := b.redigestDone C) (fun _ => rfl) hdone, Block.flag_lower _ _ _ (by decide) (by decide), ?_, ?_, fun a ha => ?_, fun a ha => ?_⟩
    · rw [Block.lower_ctr, Block.ctr_setCtr, if_pos rfl]
    · exact Block.setCtr_lower_only ..
    · rw [Block.lower, Block.word_setFld_other _ _ _ ha, Block.setCtr_word]
    · rw [Block.lower_ctr, Block.ctr_setCtr, if_neg ha]
  · obtain ⟨words, clusters⟩ := (b.storeReg w (R.CLS_CS_RD_ADDR C) v.toNat).csRdData_each C
      (SMap.get 0 (b.cluster C).store (F.CLS_CS_RD_ADDR_ADDR.of v.toNat)) 6
    refine ⟨b.csRdAddr w C v.toNat, takes_of_write reach fun _ => rfl, fun j => ?_, ?_⟩
    · unfold Block.csRdAddr
      dsimp only
      rw [Block.storeReg_cluster, words, if_pos j.isLt]
    · unfold Block.csRdAddr
      dsimp only
      rw [Block.storeReg_cluster, clusters, Block.storeReg_clusters]

end Sys2Proof.Machine
end

section
/-!
PROOFS. The tables of a die: what a search finds after an insertion, what an LPM search answers, what a block move leaves, and how the
engine accepts a command (R199 to R243).
-/
namespace Sys2Proof.Machine
open Sys2Proof

variable (b : Block)

/-! ## Exact-match searches (R203, R212) -/

/-- What a search for a key finds in way w. -/
def Block.emIn (b : Block) (d t : Nat) (two : Bool) (key w : Nat) : Option (Nat × EmEntry) :=
  match SMap.find (b.engine d).em (b.emPlace d t two key w) with
  | some x => if kindTable x.kind == t && kindTwo x.kind == two && x.key == key then some (b.emPlace d t two key w, x) else none
  | none => none

theorem Block.emFind_eq (d t : Nat) (two : Bool) (key : Nat) : b.emFind d t two key = (List.range 4).findSome? (b.emIn d t two key) := rfl

theorem Block.emIn_slot {d t : Nat} {two : Bool} {key w : Nat} {r : Nat × EmEntry} (h : b.emIn d t two key w = some r) :
    r.1 = b.emPlace d t two key w := by
  unfold Block.emIn at h
  split at h
  · split at h
    · obtain rfl := Option.some.inj h
      rfl
    · cases h
  · cases h

theorem Block.emPlace_congr {c : Block} (words : ∀ a, c.word a = b.word a) (d t : Nat) (two : Bool) (key w : Nat) :
    c.emPlace d t two key w = b.emPlace d t two key w := by
  unfold Block.emPlace
  rw [words]

/-- Once an entry of the key stands in slot s, a way finds it there, and elsewhere what it found before. -/
theorem Block.emIn_put {c : Block} {d t s : Nat} {x : EmEntry} (words : ∀ a, c.word a = b.word a)
    (em : (c.engine d).em = SMap.put (b.engine d).em s x) (table : kindTable x.kind = t) (w : Nat) :
    c.emIn d t (kindTwo x.kind) x.key w =
      if b.emPlace d t (kindTwo x.kind) x.key w = s then some (s, x) else b.emIn d t (kindTwo x.kind) x.key w := by
  unfold Block.emIn
  rw [Block.emPlace_congr b words, em]
  by_cases h : b.emPlace d t (kindTwo x.kind) x.key w = s
  · rw [if_pos h, h, SMap.find_put_same]
    simp [table]
  · rw [if_neg h, SMap.find_put_other _ _ h]

/-- A list of places is searched after one of them took the value y: y is found, where nothing was found before, or what was there. -/
theorem findSome_of_replaced {f f' : Nat → Option (Nat × EmEntry)} {place : Nat → Nat} {s : Nat} {y : Nat × EmEntry} {l : List Nat}
    (hf' : ∀ a, f' a = if place a = s then some y else f a) (hf : ∀ a r, f a = some r → r.1 = place a)
    (h : (l.findSome? f = none ∧ ∃ a ∈ l, place a = s) ∨ ∃ old, l.findSome? f = some (s, old)) : l.findSome? f' = some y := by
  induction l with
  | nil => simp at h
  | cons a l ih =>
    by_cases hs : place a = s
    · rw [List.findSome?_cons, hf', if_pos hs]
    · rw [List.findSome?_cons, hf', if_neg hs]
      rw [List.findSome?_cons] at h
      cases ha : f a with
      | none =>
        rw [ha] at h
        dsimp only at h ⊢
        refine ih (h.imp_left fun ⟨hn, w, hw, hp⟩ => ⟨hn, w, ?_, hp⟩)
        exact (List.mem_cons.mp hw).resolve_left fun e => hs (e ▸ hp)
      | some r =>
        rw [ha] at h
        dsimp only at h
        rcases h with ⟨h, -⟩ | ⟨old, h⟩
        · cases h
        · exact absurd (congrArg Prod.fst (Option.some.inj h)) (fun e => hs ((hf a r ha).symm.trans e))

theorem Block.emFind_put {c : Block} {d t s : Nat} {x : EmEntry} (words : ∀ a, c.word a = b.word a)
    (em : (c.engine d).em = SMap.put (b.engine d).em s x) (table : kindTable x.kind = t)
    (h : (b.emFind d t (kindTwo x.kind) x.key = none ∧ ∃ w < 4, b.emPlace d t (kindTwo x.kind) x.key w = s) ∨
      ∃ old, b.emFind d t (kindTwo x.kind) x.key = some (s, old)) :
    c.emFind d t (kindTwo x.kind) x.key = some (s, x) := by
  rw [Block.emFind_eq] at h ⊢
  refine findSome_of_replaced (b.emIn_put words em table) (fun w r hr => b.emIn_slot hr) (h.imp_left fun ⟨hn, w, hw, hp⟩ => ⟨hn, w, ?_, hp⟩)
  exact List.mem_range.mpr hw

theorem Block.placeEntry_word (d s : Nat) (moves : List Move) (x : EmEntry) (a : Nat) : (b.placeEntry d s moves x).word a = b.word a := by
  unfold Block.placeEntry
  dsimp only
  rw [Block.pmc_word, Block.count_word, Block.count_word, Block.modEngine_word]

theorem Block.placeEntry_em (d s : Nat) (x : EmEntry) : ((b.placeEntry d s [] x).engine d).em = SMap.put (b.engine d).em s x := by
  unfold Block.placeEntry
  dsimp only
  rw [Block.pmc_engine, Block.count_engine, Block.count_engine, Block.engine_modEngine, if_pos rfl]
  rfl

/-- The slot that the best set frees is one of the key's places. -/
theorem Block.bestSet_place {d t : Nat} {two : Bool} {key : Nat} {r : Nat × Nat × List Move} (h : b.bestSet d t two key = some r) :
    ∃ w < 4, b.emPlace d t two key w = r.2.1 := by
  have hfold (l : List (Nat × Nat × List Move)) (best : Option (Nat × Nat × List Move))
      (hb : l.foldl (fun best x => match best with | none => some x | some y => if setBefore x y then some x else best) best = some r) :
      r ∈ l ∨ best = some r := by
    induction l generalizing best with
    | nil => exact .inr hb
    | cons x l ih =>
      rw [List.foldl_cons] at hb
      rcases ih _ hb with hl | hx
      · exact .inl (List.mem_cons_of_mem _ hl)
      · cases best with
        | none => exact .inl (by obtain rfl := Option.some.inj hx; exact List.mem_cons_self ..)
        | some y =>
          dsimp only at hx
          split at hx
          · exact .inl (by obtain rfl := Option.some.inj hx; exact List.mem_cons_self ..)
          · exact .inr hx
  unfold Block.bestSet at h
  dsimp only at h
  have hmem := (hfold _ _ h).resolve_right (by simp)
  obtain ⟨w, hw, hr⟩ := List.mem_flatMap.mp hmem
  obtain ⟨q, -, rfl⟩ := List.mem_map.mp hr
  exact ⟨w, List.mem_range.mp hw, rfl⟩

theorem keyOk_table {t kind key : Nat} (h : keyOk t kind key = true) : kindTable kind = t := by
  unfold keyOk at h
  rw [Bool.and_eq_true] at h
  exact beq_iff_eq.mp h.1

theorem insertOk_table {t : Nat} {v : Vec} (h : insertOk t v = true) : kindTable (imgKind v) = t := by
  simp only [insertOk, Bool.and_eq_true] at h
  exact keyOk_table h.1.1.2

/-- An insertion that answers OK without a move placed its entry at the slot it answers: over the entry of its key, or at one of the
key's places. -/
theorem Block.insert_ok {d t req : Nat} {v : Vec} (ok : (b.insert d t req v).status = S.ok) (still : (b.insert d t req v).moves = 0) :
    (b.insert d t req v).blk = b.placeEntry d (b.insert d t req v).res [] (newEntry (b.stampClock d) v) ∧
    ((b.emFind d t (kindTwo (imgKind v)) (imgKey v) = none ∧
        ∃ w < 4, b.emPlace d t (kindTwo (imgKind v)) (imgKey v) w = (b.insert d t req v).res) ∨
      ∃ old, b.emFind d t (kindTwo (imgKind v)) (imgKey v) = some ((b.insert d t req v).res, old)) := by
  obtain ⟨r, hr⟩ : ∃ r, b.insert d t req v = r := ⟨_, rfl⟩
  rw [hr] at ok still ⊢
  unfold Block.insert at hr
  dsimp only at hr
  split at hr
  · next s old hs =>
    split at hr
    · subst hr; cases ok
    · subst hr
      exact ⟨by dsimp only, .inr ⟨old, hs⟩⟩
  · next hs =>
    split at hr
    · subst hr; cases ok
    · split at hr
      · next s hp =>
        subst hr
        obtain ⟨w, hw, hpl⟩ := List.mem_map.mp (List.mem_of_find?_eq_some hp)
        exact ⟨by dsimp only, .inl ⟨hs, w, List.mem_range.mp hw, hpl⟩⟩
      · split at hr
        · next w s moves hbest =>
          subst hr
          obtain rfl := List.length_eq_zero_iff.mp still
          exact ⟨by dsimp only, .inl ⟨hs, b.bestSet_place hbest⟩⟩
        · subst hr; cases ok

/-- Settles O20: the entry stands at one of its key's places, so the search that walks them finds it. -/
theorem insertedEntriesAreFoundByTheirKey : Obligations.InsertedEntriesAreFoundByTheirKey := by
  unfold Obligations.InsertedEntriesAreFoundByTheirKey
  intro b d t req v _ _ image
  dsimp only
  intro ok still
  obtain ⟨hblk, hplace⟩ := b.insert_ok ok still
  rw [hblk]
  exact b.emFind_put (x := newEntry (b.stampClock d) v) (b.placeEntry_word _ _ _ _) (b.placeEntry_em _ _ _) (insertOk_table image) hplace

/-! ## LPM searches (R232, R247) -/

theorem SMap.find_of_mem {α : Type} {m : SMap α} (sorted : m.Pairwise fun x y => x.1 < y.1) {e : Nat × α} (h : e ∈ m) :
    SMap.find m e.1 = some e.2 := by
  induction m with
  | nil => cases h
  | cons x m ih =>
    obtain ⟨k, v⟩ := x
    rw [List.pairwise_cons] at sorted
    rcases List.mem_cons.mp h with rfl | h
    · simp [SMap.find]
    · have lt := sorted.1 e h
      dsimp only at lt
      rw [SMap.find, if_neg (by omega), ih sorted.2 h]

theorem SMap.mem_of_find {α : Type} {m : SMap α} {i : Nat} {v : α} (h : SMap.find m i = some v) : (i, v) ∈ m := by
  induction m with
  | nil => cases h
  | cons x m ih =>
    obtain ⟨k, w⟩ := x
    rw [SMap.find] at h
    split at h
    · next e =>
      obtain rfl := Option.some.inj h
      rw [e]
      exact List.mem_cons_self ..
    · exact List.mem_cons_of_mem _ (ih h)

/-- The first match of a list in order has no match at a lower key. -/
theorem not_of_below_find {α : Type} {m : List (Nat × α)} (sorted : m.Pairwise fun x y => x.1 < y.1) {q : Nat × α → Bool} {e e' : Nat × α}
    (h : m.find? q = some e) (mem : e' ∈ m) (below : e'.1 < e.1) : q e' = false := by
  induction m with
  | nil => cases mem
  | cons x m ih =>
    rw [List.pairwise_cons] at sorted
    rw [List.find?_cons] at h
    split at h
    · obtain rfl := Option.some.inj h
      rcases List.mem_cons.mp mem with rfl | hm
      · omega
      · have := sorted.1 e' hm
        omega
    · next hx =>
      rcases List.mem_cons.mp mem with rfl | hm
      · simpa using hx
      · exact ih sorted.2 h hm

/-- Settles O22: a search walks the positions in order, and the first that matches is the one it answers. -/
theorem lpmSearchesAnswerTheFirstMatch : Obligations.LpmSearchesAnswerTheFirstMatch := by
  unfold Obligations.LpmSearchesAnswerTheFirstMatch
  intro b d fam vrf addr first n p a wf banks found
  obtain ⟨sorted, -⟩ := (SMap.wf_iff _ _).mp wf
  unfold Block.lpmFind at found
  rw [banks] at found
  dsimp only at found ⊢
  have hp := List.find?_some found
  simp only [Assoc.lpmMatch, Bool.and_eq_true, decide_eq_true_eq, beq_iff_eq] at hp
  obtain ⟨⟨low, high⟩, ⟨⟨valid, family⟩, forward⟩, address⟩ := hp
  refine ⟨SMap.find_of_mem sorted (List.mem_of_find?_eq_some found), ⟨by omega, by omega⟩, valid, family, forward, address, ?_⟩
  intro x c below inBanks at_
  have hx := not_of_below_find sorted found (SMap.mem_of_find at_) below
  have hlow : first ≤ x / 4096 := by omega
  have hhigh : x / 4096 < first + n := by omega
  simpa [hlow, hhigh] using hx

/-! ## Block moves (R243) -/

theorem Engine.assoc_setAssoc (e : Engine) {t : Nat} (ht : t = T.lpm ∨ t = T.aclOut) (p q : Nat) (a : Assoc) :
    (e.setAssoc t 0 p a).assoc t 0 q = if q = p then a else e.assoc t 0 q := by
  rcases ht with rfl | rfl
  · simp [Engine.setAssoc, Engine.assoc, SMap.get_set]
  · simp [Engine.setAssoc, Engine.assoc, SMap.get_set, T.lpm, T.aclIn, T.aclOut]

theorem assocCopies_one {o : TblOp} (ht : o.table = T.lpm ∨ o.table = T.aclOut) : assocCopies o = [0] := by
  rcases ht with h | h <;> simp [assocCopies, h, T.lpm, T.aclOut, T.aclIn]

theorem Block.moveStep_assoc (d : Nat) {o : TblOp} (ht : o.table = T.lpm ∨ o.table = T.aclOut) (src dst x : Nat) :
    ((b.moveStep d o src dst).engine d).assoc o.table 0 x =
      if x = dst then (b.engine d).assoc o.table 0 src else (b.engine d).assoc o.table 0 x := by
  unfold Block.moveStep
  rw [Block.pmc_engine, Block.engine_modEngine, if_pos rfl, assocCopies_one ht]
  exact Engine.assoc_setAssoc _ ht _ _ _

/-- After n steps of a move that ends at end_, the n positions up to end_ + 1 hold what the ones below them held. -/
theorem Block.moveSteps_assoc (d : Nat) {o : TblOp} (ht : o.table = T.lpm ∨ o.table = T.aclOut) (end_ n x : Nat) (hn : n ≤ end_ + 1) :
    ((b.each n fun b k => b.moveStep d o (end_ - k) (end_ - k + 1)).engine d).assoc o.table 0 x =
      if end_ + 1 - n < x ∧ x ≤ end_ + 1 then (b.engine d).assoc o.table 0 (x - 1) else (b.engine d).assoc o.table 0 x := by
  induction n generalizing x with
  | zero => rw [if_neg (by omega)]; rfl
  | succ n ih =>
    rw [Block.each_succ, Block.moveStep_assoc _ _ ht, ih _ (by omega), ih _ (by omega)]
    by_cases hx : x = end_ - n + 1
    · rw [if_pos hx, if_neg (by omega), if_pos (by omega), hx, Nat.add_sub_cancel]
    · rw [if_neg hx]
      simp only [show (end_ + 1 - (n + 1) < x ∧ x ≤ end_ + 1) ↔ (end_ + 1 - n < x ∧ x ≤ end_ + 1) by omega]

theorem Block.moveBlock_down {d start end_ : Nat} {o : TblOp} (ht : o.table = T.lpm ∨ o.table = T.aclOut) (down : o.arg = 0)
    (hend : Vec.f o.data 0 ⟨17, 0⟩ = end_) (rsv : Vec.f o.data 0 ⟨31, 18⟩ = 0) (le : start ≤ end_) (room : end_ + 1 < assocSize o.table)
    (free : ((b.engine d).assoc o.table 0 (end_ + 1)).valid = false) :
    b.moveBlock d o 0 start = { status := S.ok, res := o.index, blk := b.each (end_ - start + 1) (fun b k =>
      b.moveStep d o (end_ - k) (end_ - k + 1)) } := by
  have h1 : ¬ end_ < start := by omega
  have h2 : ¬ start ≥ assocSize o.table := by omega
  have h3 : ¬ end_ ≥ assocSize o.table := by omega
  have h4 : ¬ end_ + 1 ≥ assocSize o.table := by omega
  unfold Block.moveBlock
  simp [down, hend, rsv, assocCopies_one ht, free, h1, h2, h3, h4]

/-- Settles O23: the steps of the move, one after another, each over the position that the one before copied away. -/
theorem blockMovesShiftEveryEntryByOne : Obligations.BlockMovesShiftEveryEntryByOne := by
  unfold Obligations.BlockMovesShiftEveryEntryByOne
  intro b d o start end_ ht down hend rsv le room free
  dsimp only
  rw [b.moveBlock_down ht down hend rsv le room free]
  dsimp only
  refine ⟨rfl, fun x low high => ?_, fun x out => ?_⟩
  · rw [b.moveSteps_assoc d ht end_ (end_ - start + 1) (x + 1) (by omega), if_pos (by omega), Nat.add_sub_cancel]
  · rw [b.moveSteps_assoc d ht end_ (end_ - start + 1) x (by omega), if_neg (by omega)]

/-! ## Acceptance (R206, R207) -/

theorem takes_of_command {b : Block} {c : Instr} {w : Writer} {f : Block → Block} (host : w ≠ .boot) (hr : b.reaches w .tbl = true)
    (h : ∀ q, exec c ⟨b, q⟩ = State.doing ⟨b, q⟩ fun b => b.byCommand w f) : Takes c b (f b) := by
  refine takes_of_write (w := w) (k := .tbl) hr fun q => ?_
  rw [h q]
  have hboot : (w == .boot) = false := by simpa using host
  simp only [State.doing, Block.byCommand, hboot, Bool.false_eq_true, if_false]

section
variable {b} {w : Writer} {d op v : Nat}

theorem Block.cmdWrite_of_busy (busy : b.flag (R.TBL_CMD_STATUS d) F.TBL_CMD_STATUS_BUSY = true) :
    b.cmdWrite w d op v = b.refuse w (R.TBL_CMD d) := by
  simp [Block.cmdWrite, busy]

/-- The engine takes an operation that no pair mirrors and that does not take its fence point at once: it joins those in flight. -/
theorem Block.accept_of_single {o : TblOp} (single : b.mirroring = false)
    (later : o.op ≠ 6 ∨ o.via = .commit ∨ (b.engine d).ops.any (fun x => x.via.requester == o.via.requester) = true) :
    b.accept d o = b.modEngine d fun e => { e with ops := e.ops ++ [if o.table = T.mcast ∧ 2 ^ 19 ≤ o.index ∧ (o.op = 1 ∨ o.op = 3) ∧
      o.via ≠ .commit then { o with after := b.mcWaiting d } else o] } := by
  unfold Block.accept
  simp only [single, Bool.and_false, Bool.false_and, Bool.false_eq_true, if_false]
  have hmember : (o.table == T.mcast && decide (o.index ≥ 2 ^ 19) && (o.op == 1 || o.op == 3) && !(o.via == .commit)) =
      decide (o.table = T.mcast ∧ 2 ^ 19 ≤ o.index ∧ (o.op = 1 ∨ o.op = 3) ∧ o.via ≠ .commit) := by
    rw [Bool.eq_iff_iff]
    simp [and_assoc]
  rw [hmember]
  by_cases hm : o.table = T.mcast ∧ 2 ^ 19 ≤ o.index ∧ (o.op = 1 ∨ o.op = 3) ∧ o.via ≠ .commit
  · have h6 : o.op ≠ 6 := by omega
    rw [if_pos hm, decide_eq_true hm]
    simp [h6]
  · simp only [hm, decide_false, Bool.false_eq_true, if_false]
    rw [if_neg]
    rcases later with h | h | h <;> simp [h]

theorem Block.mcWaiting_congr {c : Block} (frames : c.frames = b.frames) (fifos : c.fifos = b.fifos) (regions : c.regions = b.regions) :
    c.mcWaiting d = b.mcWaiting d := by
  unfold Block.mcWaiting Block.framesOf Block.region
  rw [frames, fifos, regions]

theorem Block.mirroring_raise {a : Nat} (h : R.PAIR_STATUS ≠ a) (f : Bf) : (b.raise a f).mirroring = b.mirroring :=
  congrArg (· == 1) (Block.fld_setFld_other b f F.PAIR_STATUS_MIRRORING 1 h)

theorem Block.cmdWrite_of_idle (hd : d < 4) (idle : b.flag (R.TBL_CMD_STATUS d) F.TBL_CMD_STATUS_BUSY = false) (single : b.mirroring = false)
    (later : op ≠ 6 ∨ (b.engine d).ops.any (fun x => x.via.requester == 0) = true) :
    b.cmdWrite w d op v = (b.raise (R.TBL_CMD_STATUS d) F.TBL_CMD_STATUS_BUSY).modEngine d fun e =>
      { e with ops := e.ops ++ [b.commandOf d op v] } := by
  unfold Block.cmdWrite
  simp only [idle, Block.standbyRefuses, single, Bool.and_false, Bool.or_false, Bool.false_eq_true, if_false]
  rw [Block.accept_of_single]
  · unfold Block.commandOf
    rw [Block.mcWaiting_congr (Block.raise_frames ..) (Block.raise_fifos ..) (Block.raise_regions ..)]
    simp
  · rw [Block.mirroring_raise (by unfold R.PAIR_STATUS R.TBL_CMD_STATUS tblBase dieBase pairBase; omega), single]
  · refine later.imp_right fun h => .inr ?_
    rw [Block.raise_engine]
    exact h
end

/-- Settles O18: each command is the write of CMD with its opcode. -/
theorem tableCommandsAreAcceptedInOrder : Obligations.TableCommandsAreAcceptedInOrder := by
  unfold Obligations.TableCommandsAreAcceptedInOrder
  intro b w d v host reach
  have takes {c : Instr} {op : Nat} {t : Block} (e : b.cmdWrite w d op v.toNat = t)
      (h : ∀ q, exec c ⟨b, q⟩ = State.doing ⟨b, q⟩ fun b => b.byCommand w fun b => b.cmdWrite w d op v.toNat) : Takes c b t :=
    takes_congr (takes_of_command host reach h) e
  refine ⟨fun busy => ?_, fun idle single => ?_⟩
  · have no (op : Nat) : b.cmdWrite w d op v.toNat = b.refuse w (R.TBL_CMD d) := Block.cmdWrite_of_busy busy
    exact ⟨takes (no 0) fun _ => rfl, takes (no 1) fun _ => rfl, takes (no 2) fun _ => rfl, takes (no 3) fun _ => rfl,
      takes (no 4) fun _ => rfl, takes (no 5) fun _ => rfl, takes (no 6) fun _ => rfl, takes (no 7) fun _ => rfl, takes (no _) fun _ => rfl⟩
  · have joins {op : Nat} (h : op ≠ 6) := Block.cmdWrite_of_idle (w := w) (v := v.toNat) d.isLt idle single (.inl h)
    exact ⟨takes (joins (by decide)) fun _ => rfl, takes (joins (by decide)) fun _ => rfl, takes (joins (by decide)) fun _ => rfl,
      takes (joins (by decide)) fun _ => rfl, takes (joins (by decide)) fun _ => rfl, takes (joins (by decide)) fun _ => rfl,
      fun ahead => takes (Block.cmdWrite_of_idle d.isLt idle single (.inr ahead)) fun _ => rfl,
      takes (joins (by decide)) fun _ => rfl, takes (joins (by omega)) fun _ => rfl⟩

end Sys2Proof.Machine
end

section
/-!
PROOFS. Completion of the engine's operations: what the command register answers (R206), direct tables, deletes by key, template commits
and fences (R194 to R208, R258).
-/
namespace Sys2Proof.Machine
open Sys2Proof

variable (b : Block)

/-! ## What the command register shows of a result -/

/-- Words set one after another at addresses apart. -/
theorem Block.each_setWord (addr val : Nat → Nat) (apart : ∀ i j, addr i = addr j → i = j) (n : Nat) :
    (∃ rs, (b.each n fun b j => b.setWord (addr j) (val j)) = { b with regs := rs }) ∧
    (∀ j, j < n → (b.each n fun b j => b.setWord (addr j) (val j)).word (addr j) = val j % 2 ^ 32) ∧
    ∀ a, (∀ j, j < n → a ≠ addr j) → (b.each n fun b j => b.setWord (addr j) (val j)).word a = b.word a := by
  induction n with
  | zero => exact ⟨⟨b.regs, rfl⟩, fun j hj => absurd hj (by omega), fun _ _ => rfl⟩
  | succ n ih =>
    obtain ⟨⟨rs, only⟩, words, others⟩ := ih
    rw [Block.each_succ]
    refine ⟨?_, fun j hj => ?_, fun a ha => ?_⟩
    · rw [only]
      exact ⟨_, rfl⟩
    · by_cases h : j = n
      · rw [h, Block.word_setWord_same]
      · rw [Block.word_setWord_other _ _ fun e => h (apart _ _ e), words j (by omega)]
    · rw [Block.word_setWord_other _ _ (ha n (by omega)), others a fun j hj => ha j (by omega)]

/-- The registers that a result of the command register shows, but for DONE (R206). -/
def Block.cmdShown (b : Block) (d : Nat) (o : TblOp) : Block :=
  let st := R.TBL_CMD_STATUS d
  let b := (b.lower st F.TBL_CMD_STATUS_BUSY).setFld st F.TBL_CMD_STATUS_STATUS o.status
  let b := b.setFld (R.TBL_CMD_RESULT d) F.TBL_CMD_RESULT_INDEX o.res
  let b := if o.op == 2 then b.setFld (R.TBL_CMD_RESULT d) F.TBL_CMD_RESULT_MOVES o.moves else b
  match o.out with
  | some v => b.each 16 fun b j => b.setWord (R.TBL_CMD_DATA d j) (Vec.w v j)
  | none => b

theorem Block.publishReg_eq (d : Nat) (o : TblOp) :
    b.publishReg d o = (b.cmdShown d o).raising 0 fun b => b.raise (R.TBL_CMD_STATUS d) F.TBL_CMD_STATUS_DONE := rfl

theorem cmdData_apart (d i j : Nat) (h : R.TBL_CMD_DATA d i = R.TBL_CMD_DATA d j) : i = j := by
  unfold R.TBL_CMD_DATA at h
  omega
theorem cmdStatus_ne_data (d j : Nat) : R.TBL_CMD_STATUS d ≠ R.TBL_CMD_DATA d j := by unfold R.TBL_CMD_STATUS R.TBL_CMD_DATA; omega
theorem cmdStatus_ne_result (d : Nat) : R.TBL_CMD_STATUS d ≠ R.TBL_CMD_RESULT d := by unfold R.TBL_CMD_STATUS R.TBL_CMD_RESULT; omega

/-- The command register's result before its words: only registers changed, and STATUS shows how it went. -/
theorem Block.resulted_tells (d : Nat) (o : TblOp) :
    let st := R.TBL_CMD_STATUS d
    let c := ((b.lower st F.TBL_CMD_STATUS_BUSY).setFld st F.TBL_CMD_STATUS_STATUS o.status).setFld (R.TBL_CMD_RESULT d) F.TBL_CMD_RESULT_INDEX o.res
    let t := if o.op == 2 then c.setFld (R.TBL_CMD_RESULT d) F.TBL_CMD_RESULT_MOVES o.moves else c
    (∃ rs, t = { b with regs := rs }) ∧ t.flag st F.TBL_CMD_STATUS_BUSY = false ∧ t.fld st F.TBL_CMD_STATUS_STATUS = o.status % 16 := by
  dsimp only
  obtain ⟨c, hc⟩ : ∃ c, (b.lower (R.TBL_CMD_STATUS d) F.TBL_CMD_STATUS_BUSY).setFld (R.TBL_CMD_STATUS d) F.TBL_CMD_STATUS_STATUS o.status = c :=
    ⟨_, rfl⟩
  have only : ∃ rs, c = { b with regs := rs } := by
    obtain ⟨rs, h⟩ := b.setFld_regs (R.TBL_CMD_STATUS d) F.TBL_CMD_STATUS_BUSY 0
    obtain ⟨rs', h'⟩ := (b.lower (R.TBL_CMD_STATUS d) F.TBL_CMD_STATUS_BUSY).setFld_regs (R.TBL_CMD_STATUS d) F.TBL_CMD_STATUS_STATUS o.status
    exact ⟨rs', by rw [← hc, h', Block.lower, h]⟩
  have busy : c.flag (R.TBL_CMD_STATUS d) F.TBL_CMD_STATUS_BUSY = false := by
    rw [← hc, Block.flag, Block.fld_setFld_apart _ _ _ _ _ (by decide) (by decide) (by decide) (by decide)]
    exact Block.flag_lower _ _ _ (by decide) (by decide)
  have status : c.fld (R.TBL_CMD_STATUS d) F.TBL_CMD_STATUS_STATUS = o.status % 16 := by
    rw [← hc, Block.fld_setFld_same _ _ _ _ (by decide) (by decide)]
    rfl
  rw [hc]
  have index : ∀ g, (c.setFld (R.TBL_CMD_RESULT d) F.TBL_CMD_RESULT_INDEX o.res).fld (R.TBL_CMD_STATUS d) g = c.fld (R.TBL_CMD_STATUS d) g :=
    fun g => Block.fld_setFld_other _ _ _ _ (cmdStatus_ne_result d)
  obtain ⟨rs, rfl⟩ := only
  split
  · refine ⟨⟨_, rfl⟩, ?_, ?_⟩
    · rw [Block.flag, Block.fld_setFld_other _ _ _ _ (cmdStatus_ne_result d), index]
      exact busy
    · rw [Block.fld_setFld_other _ _ _ _ (cmdStatus_ne_result d), index, status]
  · exact ⟨⟨_, rfl⟩, by rw [Block.flag, index]; exact busy, by rw [index, status]⟩

theorem Block.cmdShown_tells (d : Nat) (o : TblOp) :
    (∃ rs, b.cmdShown d o = { b with regs := rs }) ∧ (b.cmdShown d o).flag (R.TBL_CMD_STATUS d) F.TBL_CMD_STATUS_BUSY = false ∧
    (b.cmdShown d o).fld (R.TBL_CMD_STATUS d) F.TBL_CMD_STATUS_STATUS = o.status % 16 ∧
    ∀ v, o.out = some v → ∀ j, j < 16 → (b.cmdShown d o).word (R.TBL_CMD_DATA d j) = Vec.w v j % 2 ^ 32 := by
  obtain ⟨⟨rs, only⟩, busy, status⟩ := b.resulted_tells d o
  unfold Block.cmdShown
  dsimp only at only busy status ⊢
  rw [only] at busy status ⊢
  cases o.out with
  | none => exact ⟨⟨rs, rfl⟩, busy, status, fun v h => nomatch h⟩
  | some v =>
    obtain ⟨⟨rs', only'⟩, words, others⟩ := Block.each_setWord { b with regs := rs } (R.TBL_CMD_DATA d) (Vec.w v) (cmdData_apart d) 16
    have st := others (R.TBL_CMD_STATUS d) fun j _ => cmdStatus_ne_data d j
    refine ⟨⟨rs', only'⟩, ?_, ?_, fun v' h j hj => ?_⟩
    · rw [Block.flag, Block.fld_of_word st]
      exact busy
    · rw [Block.fld_of_word st, status]
    · obtain rfl := Option.some.inj h
      exact words j hj

/-- What the register of die d answers: BUSY falls, DONE rises, STATUS tells how it went. -/
theorem Block.publish_reg_tells (d : Nat) {o : TblOp} (via : o.via = .reg) (hs : o.status < 16) :
    (b.publish d o).flag (R.TBL_CMD_STATUS d) F.TBL_CMD_STATUS_BUSY = false ∧
    (b.publish d o).flag (R.TBL_CMD_STATUS d) F.TBL_CMD_STATUS_DONE = true ∧
    (b.publish d o).fld (R.TBL_CMD_STATUS d) F.TBL_CMD_STATUS_STATUS = o.status ∧
    ((b.publish d o).engines = b.engines ∧ (b.publish d o).regions = b.regions ∧ (b.publish d o).frames = b.frames) ∧
    ∀ v, o.out = some v → ∀ j, j < 16 → (b.publish d o).word (R.TBL_CMD_DATA d j) = Vec.w v j % 2 ^ 32 := by
  obtain ⟨c, hc⟩ : ∃ c, b.pmc (.tbl d) 0x01 o.op 1 = c := ⟨_, rfl⟩
  have ce : c.engines = b.engines ∧ c.regions = b.regions ∧ c.frames = b.frames := by
    rw [← hc, Block.pmc_engines, Block.pmc_regions, Block.pmc_frames]
    exact ⟨rfl, rfl, rfl⟩
  have hpub : b.publish d o = (((c.cmdShown d o).raising 0 fun b => b.raise (R.TBL_CMD_STATUS d) F.TBL_CMD_STATUS_DONE).traceCmd d o) := by
    unfold Block.publish
    rw [via]
    dsimp only
    rw [hc, Block.publishReg_eq]
  obtain ⟨⟨rs, only⟩, busy, status, words⟩ := c.cmdShown_tells d o
  obtain ⟨e, he⟩ : ∃ e, c.cmdShown d o = e := ⟨_, rfl⟩
  rw [he] at hpub only busy status words
  obtain ⟨told, -, -, -⟩ := e.raising_tells 0 fun b => b.raise (R.TBL_CMD_STATUS d) F.TBL_CMD_STATUS_DONE
  have ronly := e.raising_only 0 fun b => b.raise (R.TBL_CMD_STATUS d) F.TBL_CMD_STATUS_DONE
  obtain ⟨g, hg⟩ : ∃ g, (e.raising 0 fun b => b.raise (R.TBL_CMD_STATUS d) F.TBL_CMD_STATUS_DONE) = g := ⟨_, rfl⟩
  rw [hg] at hpub told ronly
  have done : g.flag (R.TBL_CMD_STATUS d) F.TBL_CMD_STATUS_DONE = true := by
    rw [Block.flag, Block.fld_of_word (told _)]
    exact Block.flag_raise _ _ _ (by decide) (by decide)
  have same {f : Bf} (apart : f.hi < F.TBL_CMD_STATUS_DONE.lo ∨ F.TBL_CMD_STATUS_DONE.hi < f.lo) (hf : f.lo ≤ f.hi) :
      g.fld (R.TBL_CMD_STATUS d) f = e.fld (R.TBL_CMD_STATUS d) f := by
    rw [Block.fld_of_word (told _), Block.raise, Block.fld_setFld_apart _ _ _ _ _ (by decide) (by decide) hf apart.symm]
  have data (j : Nat) : g.word (R.TBL_CMD_DATA d j) = e.word (R.TBL_CMD_DATA d j) := by
    rw [told]
    exact Block.word_setFld_other _ _ _ (cmdStatus_ne_data d j).symm
  rw [hpub]
  refine ⟨?_, done, ?_, ?_, fun v hv j hj => ?_⟩
  · exact (congrArg (· == 1) (same (by decide) (by decide))).trans busy
  · exact (same (by decide) (by decide)).trans (status.trans (Nat.mod_eq_of_lt hs))
  · obtain ⟨he, hr, hf⟩ := ce
    rw [← he, ← hr, ← hf]
    obtain ⟨o', cs, is, rfl⟩ : ∃ o cs is, g = { e.raise (R.TBL_CMD_STATUS d) F.TBL_CMD_STATUS_DONE with out := o, ctrs := cs, insts := is } :=
      ⟨_, _, _, ronly⟩
    subst only
    exact ⟨rfl, rfl, rfl⟩
  · exact (data j).trans (words v hv j hj)

/-! ## The one operation in flight (R206, R210) -/

/-- Operation o is the only one in flight on die d, new, and nothing holds it back. -/
structure Block.Single (b : Block) (d : Nat) (o : TblOp) : Prop where
  ops : (b.engine d).ops = [o]
  seq : o.seq = none
  fresh : o.done = false
  after : o.after = []
  handing : b.pair.handing = false
  promoting : b.pair.promoting = false
  turn : b.cmdTurn d = true

section
variable {b} {d : Nat} {o : TblOp}

theorem Block.Single.mayRun (h : b.Single d o) : b.mayRun d 0 o = true := by
  simp [Block.mayRun, Block.opReady, h.seq, h.after, h.handing, h.promoting, h.turn]

/-- It runs and answers. -/
theorem Block.Single.cmdComplete (h : b.Single d o) :
    b.cmdComplete d 0 = (((b.served d false).runOp d o).blk.dropOp d 0).publish d
      { o with done := true, status := ((b.served d false).runOp d o).status, res := ((b.served d false).runOp d o).res,
               moves := ((b.served d false).runOp d o).moves, out := ((b.served d false).runOp d o).out } := by
  unfold Block.cmdComplete
  simp only [h.ops, h.fresh, h.mayRun, h.seq, List.getElem?_cons_zero, Bool.not_true, Bool.false_eq_true, if_false]

theorem Block.dropOp_engine (n : Nat) : (b.dropOp d n).engine d = { b.engine d with ops := (b.engine d).ops.eraseIdx n } := by
  rw [Block.dropOp, Block.engine_modEngine, if_pos rfl]

theorem Block.served_engine (gl : Bool) : (b.served d gl).engine d = { b.engine d with lastGl := gl } := by
  rw [Block.served, Block.engine_modEngine, if_pos rfl]

/-- What the command register answers for it, and what it leaves of the engine. -/
theorem Block.Single.answers (h : b.Single d o) (via : o.via = .reg) {r : TblRes} (hr : (b.served d false).runOp d o = r) (hs : r.status < 16) :
    (b.cmdComplete d 0).flag (R.TBL_CMD_STATUS d) F.TBL_CMD_STATUS_BUSY = false ∧
    (b.cmdComplete d 0).flag (R.TBL_CMD_STATUS d) F.TBL_CMD_STATUS_DONE = true ∧
    (b.cmdComplete d 0).fld (R.TBL_CMD_STATUS d) F.TBL_CMD_STATUS_STATUS = r.status ∧
    ((b.cmdComplete d 0).engine d = { r.blk.engine d with ops := (r.blk.engine d).ops.eraseIdx 0 } ∧
      (b.cmdComplete d 0).regions = r.blk.regions ∧ (b.cmdComplete d 0).frames = r.blk.frames) ∧
    ∀ v, r.out = some v → ∀ j, j < 16 → (b.cmdComplete d 0).word (R.TBL_CMD_DATA d j) = Vec.w v j % 2 ^ 32 := by
  rw [h.cmdComplete, hr]
  obtain ⟨busy, done, status, ⟨engines, regions, frames⟩, words⟩ := (r.blk.dropOp d 0).publish_reg_tells d
    (o := { o with done := true, status := r.status, res := r.res, moves := r.moves, out := r.out }) via hs
  refine ⟨busy, done, status, ⟨?_, regions, frames⟩, words⟩
  rw [← Block.dropOp_engine]
  exact congrArg (fun es => SMap.get {} es d) engines

/-- An operation that leaves the tables as they are. -/
theorem Block.Single.answers_same (h : b.Single d o) (via : o.via = .reg) {s res : Nat} {out : Option Vec}
    (hr : (b.served d false).runOp d o = { status := s, res := res, out := out, blk := b.served d false }) (hs : s < 16) :
    (b.cmdComplete d 0).flag (R.TBL_CMD_STATUS d) F.TBL_CMD_STATUS_BUSY = false ∧
    (b.cmdComplete d 0).flag (R.TBL_CMD_STATUS d) F.TBL_CMD_STATUS_DONE = true ∧
    (b.cmdComplete d 0).fld (R.TBL_CMD_STATUS d) F.TBL_CMD_STATUS_STATUS = s ∧
    ((b.cmdComplete d 0).engine d = { b.engine d with ops := [], lastGl := false } ∧
      (b.cmdComplete d 0).regions = b.regions ∧ (b.cmdComplete d 0).frames = b.frames) ∧
    ∀ v, out = some v → ∀ j, j < 16 → (b.cmdComplete d 0).word (R.TBL_CMD_DATA d j) = Vec.w v j % 2 ^ 32 := by
  obtain ⟨busy, done, status, ⟨engine, regions, frames⟩, words⟩ := h.answers via hr hs
  refine ⟨busy, done, status, ⟨?_, regions, frames⟩, words⟩
  rw [engine]
  dsimp only
  rw [Block.served_engine, h.ops]
  rfl
end

/-! ## Direct tables (R258) -/

/-- The tables that are direct and plain: an entry is its words, and nothing else goes with it. -/
def plainTable (t : Nat) : Prop := t = T.portVlan ∨ t = T.nexthop ∨ t = T.ecmp ∨ t = T.mcast ∨ t = T.rewrite ∨ t = T.queueMap

section
variable {b} {d : Nat} {o : TblOp}

theorem Block.runOp_plain (via : o.via = .reg) (plain : plainTable o.table) (op : o.op = 0 ∨ o.op = 1) : b.runOp d o = b.runDirect d o := by
  unfold Block.runOp Block.runTable
  simp only [plainTable, T.portVlan, T.nexthop, T.ecmp, T.mcast, T.rewrite, T.queueMap] at plain
  have h6 : o.op ≠ 6 := by omega
  have h8 : ¬ o.op ≥ 8 := by omega
  have h16 : ¬ o.table ≥ 16 := by omega
  have hem : ¬ (1 ≤ o.table ∧ o.table ≤ 3) := by omega
  have hassoc : o.table ≠ 4 ∧ o.table ≠ 5 ∧ o.table ≠ 12 := by omega
  have hfrag : o.table ≠ 13 := by omega
  simp [via, OpVia.isCommit, h6, h8, h16, hem, hassoc, hfrag, T.lpm, T.aclIn, T.aclOut, T.frag]

theorem not_special_of_plain (plain : plainTable o.table) : o.table ≠ T.counter ∧ o.table ≠ T.policer ∧ o.table ≠ T.sampler := by
  simp only [plainTable, T.portVlan, T.nexthop, T.ecmp, T.mcast, T.rewrite, T.queueMap] at plain
  simp only [T.counter, T.policer, T.sampler]
  omega

theorem Block.runDirect_read (plain : plainTable o.table) (op : o.op = 0) (has : directHas o.table o.index = true) :
    b.runDirect d o = { status := S.ok, res := o.index, out := some (b.entry d o.table o.index), blk := b } := by
  obtain ⟨hc, hp, hs⟩ := not_special_of_plain plain
  simp [Block.runDirect, Block.readDirect, hc, hp, hs, op, has]

theorem Block.runDirect_write (plain : plainTable o.table) (op : o.op = 1) (has : directHas o.table o.index = true)
    (ok : directOk o.table o.index o.data = true) :
    b.runDirect d o = { status := S.ok, res := o.index, blk := b.setEntry d o.table o.index o.data } := by
  obtain ⟨hc, hp, hs⟩ := not_special_of_plain plain
  simp [Block.runDirect, Block.writeDirect, hc, hp, hs, op, has, ok]

theorem Block.runDirect_none (plain : plainTable o.table) (op : o.op = 0 ∨ o.op = 1) (has : directHas o.table o.index = false) :
    b.runDirect d o = { status := S.badIndex, blk := b } := by
  obtain ⟨hc, hp, hs⟩ := not_special_of_plain plain
  rcases op with op | op <;> simp [Block.runDirect, Block.fails, hc, op, has]

theorem Block.runDirect_bad (plain : plainTable o.table) (op : o.op = 1) (has : directHas o.table o.index = true)
    (bad : directOk o.table o.index o.data = false) : b.runDirect d o = { status := S.badEntry, blk := b } := by
  obtain ⟨hc, hp, hs⟩ := not_special_of_plain plain
  simp [Block.runDirect, Block.fails, hc, op, has, bad]

theorem Block.entry_served (gl : Bool) (t i : Nat) : (b.served d gl).entry d t i = b.entry d t i := by
  rw [Block.entry, Block.served_engine]
  rfl

theorem Block.entry_of_engine {c : Block} {e : Engine} (h : c.engine d = e) (t i : Nat) : c.entry d t i = SMap.get [] e.direct (t * 2 ^ 20 + i) := by
  rw [Block.entry, h]
end

/-- Settles O19: the operation runs as `Block.runDirect` says, and the register answers its result. -/
theorem completedCommandsReadAndWriteDirectTables : Obligations.CompletedCommandsReadAndWriteDirectTables := by
  unfold Obligations.CompletedCommandsReadAndWriteDirectTables
  intro b d o ops via seq fresh after handing promoting turn plain
  have single : b.Single d o := ⟨ops, seq, fresh, after, handing, promoting, turn⟩
  have run (op : o.op = 0 ∨ o.op = 1) := Block.runOp_plain (b := b.served d false) (d := d) via plain op
  have takes : Takes (.cmdComplete d 0) b (b.cmdComplete d 0) := fun _ => rfl
  refine ⟨fun op has => ?_, fun op has ok small => ?_, fun op has => ?_, fun op has bad => ?_⟩
  · obtain ⟨busy, done, status, ⟨engine, regions, frames⟩, words⟩ :=
      single.answers_same via ((run (.inl op)).trans (Block.runDirect_read plain op has)) (by decide)
    refine ⟨_, takes, ⟨busy, done, status, ?_, regions, frames⟩, fun j => ?_, engine⟩
    · rw [engine]
    · rw [words _ rfl j j.isLt, Block.entry_served]
  · obtain ⟨busy, done, status, ⟨engine, regions, frames⟩, -⟩ :=
      single.answers via ((run (.inr op)).trans (Block.runDirect_write plain op has ok)) (show S.ok < 16 by decide)
    have written : (b.cmdComplete d 0).engine d = { b.engine d with
        ops := [], lastGl := false, direct := SMap.set [] (b.engine d).direct (o.table * 2 ^ 20 + o.index) o.data } := by
      rw [engine]
      dsimp only
      rw [Block.setEntry, Block.engine_modEngine, if_pos rfl, Block.served_engine]
      dsimp only
      rw [ops]
      rfl
    refine ⟨_, takes, ⟨busy, done, status, by rw [written], regions, frames⟩, ?_, fun k i hk hi ne => ?_⟩
    · rw [Block.entry_of_engine written]
      exact SMap.get_set_same _ _ _ _
    · rw [Block.entry_of_engine written]
      dsimp only
      rw [SMap.get_set_other]
      · rfl
      · intro e
        exact ne (by rw [Prod.mk.injEq]; omega)
  · obtain ⟨busy, done, status, ⟨engine, regions, frames⟩, -⟩ :=
      single.answers_same via ((run op).trans (Block.runDirect_none plain op has)) (by decide)
    exact ⟨_, takes, ⟨busy, done, status, by rw [engine], regions, frames⟩, engine⟩
  · obtain ⟨busy, done, status, ⟨engine, regions, frames⟩, -⟩ :=
      single.answers_same via ((run (.inr op)).trans (Block.runDirect_bad plain op has bad)) (by decide)
    exact ⟨_, takes, ⟨busy, done, status, by rw [engine], regions, frames⟩, engine⟩

/-! ## Deletes by key (R207) -/

theorem Block.emFind_congr {c : Block} {d : Nat} (words : ∀ a, c.word a = b.word a) (em : (c.engine d).em = (b.engine d).em) (t : Nat) (two : Bool)
    (key : Nat) : c.emFind d t two key = b.emFind d t two key := by
  rw [Block.emFind_eq, Block.emFind_eq]
  congr 1
  funext w
  unfold Block.emIn
  rw [Block.emPlace_congr b words, em]

section
variable {b} {d : Nat} {o : TblOp}

theorem Block.served_word (b : Block) (gl : Bool) (a : Nat) : (b.served d gl).word a = b.word a := rfl

theorem Block.runOp_delete (via : o.via = .reg) (op : o.op = 3) (low : 1 ≤ o.table) (high : o.table ≤ 3)
    (ok : keyOk o.table (imgKind o.data) (imgKey o.data) = true) {s : Nat} {x : EmEntry}
    (found : b.emFind d o.table (kindTwo (imgKind o.data)) (imgKey o.data) = some (s, x)) :
    b.runOp d o = { status := S.ok, res := s, blk := b.modEngine d fun e => { e with em := SMap.del e.em s } } := by
  have h16 : ¬ o.table ≥ 16 := by omega
  unfold Block.runOp Block.runTable Block.runEm
  simp [via, OpVia.isCommit, op, h16, low, high, ok, found]
end

/-- Settles O21: the search for the key finds the slot, and the operation takes its entry off. -/
theorem deletesByKeyFreeTheSlot : Obligations.DeletesByKeyFreeTheSlot := by
  unfold Obligations.DeletesByKeyFreeTheSlot
  intro b d o s x ops via seq fresh after handing promoting turn op low high ok found
  have single : b.Single d o := ⟨ops, seq, fresh, after, handing, promoting, turn⟩
  have found' : (b.served d false).emFind d o.table (kindTwo (imgKind o.data)) (imgKey o.data) = some (s, x) := by
    rw [b.emFind_congr (fun _ => b.served_word false _) (by rw [Block.served_engine]), found]
  obtain ⟨-, -, status, ⟨engine, -, -⟩, -⟩ := single.answers via (Block.runOp_delete via op low high ok found') (show S.ok < 16 by decide)
  have freed : (b.cmdComplete d 0).engine d = { b.engine d with em := SMap.del (b.engine d).em s, ops := [], lastGl := false } := by
    rw [engine]
    dsimp only
    rw [Block.engine_modEngine, if_pos rfl, Block.served_engine]
    dsimp only
    rw [ops]
    rfl
  refine ⟨b.cmdComplete d 0, fun _ => rfl, status, freed, ?_, fun n hn => ?_⟩
  · rw [freed]
    exact SMap.find_del_same _ _
  · rw [freed]
    exact SMap.find_del_other _ hn

end Sys2Proof.Machine
end

section
/-!
PROOFS. Template commits and fences (R194 to R197, R205).
-/
namespace Sys2Proof.Machine
open Sys2Proof

variable (b : Block)

/-- A counter of a die's window, beyond its first megabyte, stops with the Hold of its die (R43). -/
theorem Block.stopped_of_die {d o : Nat} (hd : d < 4) (low : 0x100000 ≤ o) (high : o < 0x3000000) :
    b.stopped (dieBase d + o) = b.frozen d := by
  have h : freezer (dieBase d + o) = some d := by
    unfold freezer dieBase
    rw [if_neg (by omega), if_pos (by omega), if_neg (by omega)]
    congr 1
    omega
  rw [Block.stopped, h]

theorem Block.stopped_tbl {d o : Nat} (hd : d < 4) (ho : o < 0x2D00000) : b.stopped (tblBase d + o) = b.frozen d := by
  rw [show tblBase d + o = dieBase d + (0x300000 + o) by unfold tblBase; omega]
  exact b.stopped_of_die hd (by omega) (by omega)

/-- From b to c nothing changed but registers. -/
def Block.OnRegs (b c : Block) : Prop := ∃ rs, c = { b with regs := rs }

theorem Block.OnRegs.refl : b.OnRegs b := ⟨b.regs, rfl⟩
theorem Block.OnRegs.trans {b c d : Block} (h : b.OnRegs c) (h' : c.OnRegs d) : b.OnRegs d := by
  obtain ⟨rs, rfl⟩ := h
  obtain ⟨rs', rfl⟩ := h'
  exact ⟨rs', rfl⟩
theorem Block.OnRegs.setWord {b c : Block} (h : b.OnRegs c) (a v : Nat) : b.OnRegs (c.setWord a v) := h.trans ⟨_, rfl⟩
theorem Block.OnRegs.setFld {b c : Block} (h : b.OnRegs c) (a : Nat) (f : Bf) (v : Nat) : b.OnRegs (c.setFld a f v) :=
  h.trans (c.setFld_regs a f v)
theorem Block.OnRegs.raise {b c : Block} (h : b.OnRegs c) (a : Nat) (f : Bf) : b.OnRegs (c.raise a f) := h.setFld a f 1
theorem Block.OnRegs.lower {b c : Block} (h : b.OnRegs c) (a : Nat) (f : Bf) : b.OnRegs (c.lower a f) := h.setFld a f 0
theorem Block.OnRegs.ite {b c e : Block} (h : b.OnRegs c) (h' : b.OnRegs e) (p : Bool) : b.OnRegs (if p then c else e) := by
  cases p
  · exact h'
  · exact h

/-! ## Template commits (R205) -/

section
variable {b} {w : Writer} {d v : Nat}

theorem Block.tmplCommit_refused (commit : F.TBL_EM_TMPL_CTRL_COMMIT.of v = 1) (no : b.flag (R.TBL_EM_TMPL_CTRL d) F.TBL_EM_TMPL_CTRL_BUSY = true ∨
    4 ≤ b.word (R.TBL_EM_TMPL_STAGE d 0) / 2 ^ 29) : b.tmplCommit w d v = b.refuse w (R.TBL_EM_TMPL_CTRL d) := by
  unfold Block.tmplCommit
  dsimp only
  rw [commit, if_neg (by decide), if_pos]
  rcases no with h | h
  · simp [h]
  · have h' : ((List.range 9).map fun j => b.word (R.TBL_EM_TMPL_STAGE d j)).getD 0 0 = b.word (R.TBL_EM_TMPL_STAGE d 0) := by simp
    rw [h', decide_eq_true h, Bool.or_true, Bool.true_or]

theorem Block.tmplCommit_accepted (hd : d < 4) (commit : F.TBL_EM_TMPL_CTRL_COMMIT.of v = 1)
    (idle : b.flag (R.TBL_EM_TMPL_CTRL d) F.TBL_EM_TMPL_CTRL_BUSY = false) (act : b.word (R.TBL_EM_TMPL_STAGE d 0) / 2 ^ 29 < 4)
    (single : b.mirroring = false) :
    b.tmplCommit w d v = (b.raise (R.TBL_EM_TMPL_CTRL d) F.TBL_EM_TMPL_CTRL_BUSY).modEngine d fun e =>
      { e with ops := e.ops ++ [{ via := .commit, op := 2, index := F.TBL_EM_TMPL_CTRL_INDEX.of v,
                                  data := Vec.ofList ((List.range 9).map fun j => b.word (R.TBL_EM_TMPL_STAGE d j)) }] } := by
  have h' : ((List.range 9).map fun j => b.word (R.TBL_EM_TMPL_STAGE d j)).getD 0 0 = b.word (R.TBL_EM_TMPL_STAGE d 0) := by simp
  have ne : R.PAIR_STATUS ≠ R.TBL_EM_TMPL_CTRL d := by unfold R.PAIR_STATUS R.TBL_EM_TMPL_CTRL tblBase dieBase pairBase; omega
  have act' : ¬ b.word (R.TBL_EM_TMPL_STAGE d 0) / 2 ^ 29 ≥ 4 := by omega
  unfold Block.tmplCommit
  dsimp only
  rw [commit, if_neg (by decide), if_neg]
  · rw [Block.accept_of_single]
    · simp
    · rw [Block.mirroring_raise ne, single]
    · exact .inr (.inl rfl)
  · rw [h', decide_eq_false act', idle, Block.standbyRefuses, single]
    simp

/-- A commit completes: the template holds the staged words, and BUSY falls. -/
theorem Block.Single.commits {o : TblOp} (h : b.Single d o) (via : o.via = .commit) :
    (∀ j, j < 9 → (b.cmdComplete d 0).word (R.TBL_EM_TMPL d o.index j) = Vec.w o.data j % 2 ^ 32) ∧
    (b.cmdComplete d 0).flag (R.TBL_EM_TMPL_CTRL d) F.TBL_EM_TMPL_CTRL_BUSY = false ∧
    (b.cmdComplete d 0).engine d = { b.engine d with ops := [], lastGl := false } := by
  have hse := b.served_engine (d := d) false
  have hrun := h.cmdComplete
  obtain ⟨s, hs⟩ : ∃ s, b.served d false = s := ⟨_, rfl⟩
  rw [hs] at hse hrun
  obtain ⟨⟨rs, only⟩, words, -⟩ := s.each_setWord (R.TBL_EM_TMPL d o.index) (Vec.w o.data)
    (fun i j h => by unfold R.TBL_EM_TMPL at h; omega) 9
  obtain ⟨t, ht⟩ : ∃ t : Block, t = { s with regs := rs } := ⟨_, rfl⟩
  rw [← ht] at only
  have hop : s.runOp d o = { status := S.ok, res := o.index, blk := t } := by
    rw [Block.runOp, via, if_pos (show OpVia.commit.isCommit = true from rfl), Block.runCommit, only]
  rw [only] at words
  have hte : t.engine d = { b.engine d with lastGl := false } := by rw [ht, ← hse]; rfl
  have hce : (t.dropOp d 0).engine d = { b.engine d with ops := [], lastGl := false } := by
    rw [Block.dropOp_engine, hte]
    dsimp only
    rw [h.ops]
    rfl
  have hcw (a : Nat) : (t.dropOp d 0).word a = t.word a := Block.modEngine_word ..
  rw [hrun, hop]
  dsimp only
  obtain ⟨c, hc⟩ : ∃ c, t.dropOp d 0 = c := ⟨_, rfl⟩
  rw [hc] at hce hcw ⊢
  unfold Block.publish
  simp only [via]
  refine ⟨fun j hj => ?_, Block.flag_lower _ _ _ (by decide) (by decide), ?_⟩
  · rw [Block.lower, Block.word_setFld_other, hcw, words j hj]
    unfold R.TBL_EM_TMPL R.TBL_EM_TMPL_CTRL
    omega
  · rw [Block.lower_engine, hce]
end

/-! ## Fences (R194 to R197) -/

/-- What a fence's end shows in a status register. -/
def Block.fenceMark (b : Block) (a tag : Nat) (late held : Bool) : Block :=
  let b := b.setFld a F.TBL_FENCE_STATUS_LAST_DONE_TAG tag
  let b := if late then b.raise a F.TBL_FENCE_STATUS_TIMEOUT_SEEN else b
  let b := if held then b.raise a F.TBL_FENCE_STATUS_HELD_SEEN else b
  b.raise a F.TBL_FENCE_STATUS_DONE_SEEN

theorem Block.fenceMark_regs (a tag : Nat) (late held : Bool) : b.OnRegs (b.fenceMark a tag late held) := by
  have tagged := (Block.OnRegs.refl b).setFld a F.TBL_FENCE_STATUS_LAST_DONE_TAG tag
  have timed := (tagged.raise a F.TBL_FENCE_STATUS_TIMEOUT_SEEN).ite tagged late
  exact ((timed.raise a F.TBL_FENCE_STATUS_HELD_SEEN).ite timed held).raise a F.TBL_FENCE_STATUS_DONE_SEEN

theorem Block.fenceMark_word {a a' : Nat} (h : a' ≠ a) (tag : Nat) (late held : Bool) : (b.fenceMark a tag late held).word a' = b.word a' := by
  unfold Block.fenceMark Block.raise
  cases late <;> cases held <;> simp [Block.word_setFld_other _ _ _ h]

/-- The tag, and the bits of how it ended. -/
theorem Block.fenceMark_shows (a tag : Nat) (late held : Bool) :
    (b.fenceMark a tag late held).fld a F.TBL_FENCE_STATUS_LAST_DONE_TAG = tag % 256 ∧
    (b.fenceMark a tag late held).flag a F.TBL_FENCE_STATUS_DONE_SEEN = true ∧
    (late = true → (b.fenceMark a tag late held).flag a F.TBL_FENCE_STATUS_TIMEOUT_SEEN = true) := by
  unfold Block.fenceMark
  dsimp only
  refine ⟨?_, Block.flag_raise _ _ _ (by decide) (by decide), fun hl => ?_⟩
  · have apart (c : Block) (f : Bf) (h : f.hi < 24) (hf : f.lo ≤ f.hi) : (c.raise a f).fld a F.TBL_FENCE_STATUS_LAST_DONE_TAG =
        c.fld a F.TBL_FENCE_STATUS_LAST_DONE_TAG :=
      c.fld_setFld_apart _ _ _ _ (by omega) hf (by decide) (.inl h)
    have tagged : (b.setFld a F.TBL_FENCE_STATUS_LAST_DONE_TAG tag).fld a F.TBL_FENCE_STATUS_LAST_DONE_TAG = tag % 256 := by
      rw [Block.fld_setFld_same _ _ _ _ (by decide) (by decide)]
      rfl
    rw [apart _ _ (by decide) (by decide)]
    cases late <;> cases held <;>
      simp only [Bool.false_eq_true, if_false, if_true, apart _ _ (by decide : F.TBL_FENCE_STATUS_HELD_SEEN.hi < 24) (by decide),
        apart _ _ (by decide : F.TBL_FENCE_STATUS_TIMEOUT_SEEN.hi < 24) (by decide), tagged]
  · rw [hl, if_pos rfl]
    have apart (c : Block) (f : Bf) (h : f.hi < 32) (hf : f.lo ≤ f.hi) (hd : f.hi < 1 ∨ 1 < f.lo) :
        (c.raise a f).flag a F.TBL_FENCE_STATUS_TIMEOUT_SEEN = c.flag a F.TBL_FENCE_STATUS_TIMEOUT_SEEN :=
      congrArg (· == 1) (c.fld_setFld_apart _ _ _ _ h hf (by decide) hd)
    rw [apart _ _ (by decide) (by decide) (by decide)]
    cases held
    · exact Block.flag_raise _ _ _ (by decide) (by decide)
    · rw [if_pos rfl, apart _ _ (by decide) (by decide) (by decide)]
      exact Block.flag_raise _ _ _ (by decide) (by decide)

section
variable {b} {d : Nat} {f : Fence} {r : List Fence}

/-- The oldest fence off the list, shown to the host. -/
def Block.fenceOff (b : Block) (d : Nat) (f : Fence) (r : List Fence) (late held : Bool) : Block :=
  (b.modEngine d fun e => { e with fences := r }).raising 1 fun b => b.fenceMark (R.TBL_FENCE_STATUS d) f.tag late held

theorem Block.fenceEnd_cons (h : (b.engine d).fences = f :: r) (late held : Bool) : b.fenceEnd d late held =
    if f.inst != 0 then (b.fenceOff d f r late held).fenceMark (R.LAY_INS_FENCE_STATUS f.inst d) f.tag late held
    else b.fenceOff d f r late held := by
  unfold Block.fenceEnd
  rw [h]
  rfl

theorem Block.fenceOff_tells (late held : Bool) :
    (b.fenceOff d f r late held).engine d = { b.engine d with fences := r } ∧
    (b.fenceOff d f r late held).fld (R.TBL_FENCE_STATUS d) F.TBL_FENCE_STATUS_LAST_DONE_TAG = f.tag % 256 ∧
    (b.fenceOff d f r late held).flag (R.TBL_FENCE_STATUS d) F.TBL_FENCE_STATUS_DONE_SEEN = true ∧
    (late = true → (b.fenceOff d f r late held).flag (R.TBL_FENCE_STATUS d) F.TBL_FENCE_STATUS_TIMEOUT_SEEN = true) ∧
    (b.fenceOff d f r late held).inflight = b.inflight ∧
    ∀ a, a ≠ R.TBL_FENCE_STATUS d → (b.fenceOff d f r late held).word a = b.word a := by
  obtain ⟨c, hc⟩ : ∃ c, b.modEngine d (fun e => { e with fences := r }) = c := ⟨_, rfl⟩
  have ce : c.engine d = { b.engine d with fences := r } := by rw [← hc, Block.engine_modEngine, if_pos rfl]
  have cw (a : Nat) : c.word a = b.word a := by rw [← hc, Block.modEngine_word]
  have ci : c.inflight = b.inflight := by rw [← hc, Block.modEngine_inflight]
  obtain ⟨told, -, infl, -⟩ := c.raising_tells 1 fun b => b.fenceMark (R.TBL_FENCE_STATUS d) f.tag late held
  have only := c.raising_only 1 fun b => b.fenceMark (R.TBL_FENCE_STATUS d) f.tag late held
  obtain ⟨rs, mark⟩ := c.fenceMark_regs (R.TBL_FENCE_STATUS d) f.tag late held
  obtain ⟨tag, done, timeout⟩ := c.fenceMark_shows (R.TBL_FENCE_STATUS d) f.tag late held
  have others {a : Nat} (h : a ≠ R.TBL_FENCE_STATUS d) := c.fenceMark_word h f.tag late held
  unfold Block.fenceOff
  rw [hc]
  obtain ⟨t, ht⟩ : ∃ t, (c.raising 1 fun b => b.fenceMark (R.TBL_FENCE_STATUS d) f.tag late held) = t := ⟨_, rfl⟩
  rw [ht] at told infl only ⊢
  refine ⟨?_, ?_, ?_, fun h => ?_, ?_, fun a ha => ?_⟩
  · rw [only, mark, ← ce]
    rfl
  · rw [Block.fld_of_word (told _), tag]
  · rw [Block.flag, Block.fld_of_word (told _)]
    exact done
  · rw [Block.flag, Block.fld_of_word (told _)]
    exact timeout h
  · rw [infl, mark, ← ci]
  · rw [told, others ha, cw]

theorem fenceStatus_ne_lay (hd : d < 4) (i : Nat) : R.TBL_FENCE_STATUS d ≠ R.LAY_INS_FENCE_STATUS i d := by
  unfold R.TBL_FENCE_STATUS R.LAY_INS_FENCE_STATUS tblBase dieBase layBase
  omega

/-- A fence that ends is off the list and its timeout is shown, whatever instance it belongs to. -/
theorem Block.fenceEnd_late (hd : d < 4) (h : (b.engine d).fences = f :: r) (held : Bool) :
    ((b.fenceEnd d true held).engine d).fences = r ∧
    (b.fenceEnd d true held).flag (R.TBL_FENCE_STATUS d) F.TBL_FENCE_STATUS_TIMEOUT_SEEN = true := by
  obtain ⟨engine, -, -, timeout, -, -⟩ := b.fenceOff_tells (d := d) (f := f) (r := r) true held
  rw [Block.fenceEnd_cons h]
  split
  · obtain ⟨rs, mark⟩ := (b.fenceOff d f r true held).fenceMark_regs (R.LAY_INS_FENCE_STATUS f.inst d) f.tag true held
    refine ⟨?_, ?_⟩
    · have same : Block.engine { b.fenceOff d f r true held with regs := rs } d = (b.fenceOff d f r true held).engine d := rfl
      rw [mark, same, engine]
    · rw [Block.flag, Block.fld_of_word (Block.fenceMark_word _ (fenceStatus_ne_lay hd _) _ _ _)]
      exact timeout rfl
  · exact ⟨by rw [engine], timeout rfl⟩
end

section
variable {b} {d tag : Nat}

/-- A fence added to those outstanding, with the present epoch, which ends (R195). -/
def Block.fenceIssued (b : Block) (d tag : Nat) : Block :=
  ((b.modEngine d fun e => { e with fences := e.fences ++ [⟨tag, b.ticks, e.epoch, 0⟩], epoch := e.epoch + 1 }).setFld
    (R.TBL_FENCE_STATUS d) F.TBL_FENCE_STATUS_LAST_ISSUED_TAG tag).count (R.TBL_FENCES_ISSUED d) 1

theorem Block.fenceIssue_full (full : 3 ≤ (b.engine d).fences.length) (inst : Nat) : b.fenceIssue d tag inst = (S.fenceFull, b) :=
  if_pos full

theorem Block.fenceIssue_room (room : (b.engine d).fences.length < 3) :
    b.fenceIssue d tag 0 = (S.ok, if b.frozen d then (b.fenceIssued d tag).fenceEnd d false false else b.fenceIssued d tag) := by
  have hfrozen : (b.fenceIssued d tag).frozen d = b.frozen d := by
    rw [Block.fenceIssued, Block.count_frozen, Block.setFld_frozen, Block.modEngine_frozen]
  rw [Block.fenceIssue, if_neg (by omega)]
  simp only [bne_self_eq_false, Bool.false_eq_true, if_false]
  rw [← hfrozen]
  rfl

theorem Block.fenceIssued_tells :
    (b.fenceIssued d tag).engine d = { b.engine d with
      fences := (b.engine d).fences ++ [⟨tag, b.ticks, (b.engine d).epoch, 0⟩], epoch := (b.engine d).epoch + 1 } ∧
    (b.fenceIssued d tag).fld (R.TBL_FENCE_STATUS d) F.TBL_FENCE_STATUS_LAST_ISSUED_TAG = tag % 256 ∧
    (b.stopped (R.TBL_FENCES_ISSUED d) = false →
      (b.fenceIssued d tag).ctr (R.TBL_FENCES_ISSUED d) = (b.ctr (R.TBL_FENCES_ISSUED d) + 1) % 2 ^ 64) ∧
    ∀ a, a ≠ R.TBL_FENCE_STATUS d → (b.fenceIssued d tag).word a = b.word a := by
  unfold Block.fenceIssued
  refine ⟨?_, ?_, fun h => ?_, fun a ha => ?_⟩
  · rw [Block.count_engine, Block.setFld_engine, Block.engine_modEngine, if_pos rfl]
  · rw [Block.count_fld, Block.fld_setFld_same _ _ _ _ (by decide) (by decide)]
    rfl
  · rw [Block.ctr_count_same, Block.setFld_ctr, Block.modEngine_ctr]
    rw [Block.setFld_stopped, Block.modEngine_stopped, h]
  · rw [Block.count_word, Block.word_setFld_other _ _ _ ha, Block.modEngine_word]

theorem Block.fenceWrite_eq {w : Writer} {v : Nat} (issue : F.TBL_FENCE_ISSUE.of v = 1) : b.fenceWrite w d v =
    if (b.fenceIssue d (F.TBL_FENCE_TAG.of v) 0).1 == S.ok then (b.fenceIssue d (F.TBL_FENCE_TAG.of v) 0).2 else b.refuse w (R.TBL_FENCE d) := by
  unfold Block.fenceWrite
  rw [issue]
  rfl

theorem fenceTag_lt (v : Nat) : F.TBL_FENCE_TAG.of v % 256 = F.TBL_FENCE_TAG.of v := Nat.mod_eq_of_lt (Bf.of_lt F.TBL_FENCE_TAG v)

theorem sat_eq_min (m n : Nat) : sat m n = min m n := by
  unfold sat
  split <;> omega

section
variable {f : Fence} {r : List Fence}

/-- A block that agrees with b in what a fence's end shows ends the fence as b does. -/
theorem Block.fenceEnd_tells {c : Block} (engine : c.engine d = b.engine d) (words : ∀ a, c.word a = b.word a)
    (h : (b.engine d).fences = f :: r) (host : f.inst = 0) (late : Bool) :
    (c.fenceEnd d late false).engine d = { b.engine d with fences := r } ∧
    (c.fenceEnd d late false).fld (R.TBL_FENCE_STATUS d) F.TBL_FENCE_STATUS_LAST_DONE_TAG = f.tag % 256 ∧
    (c.fenceEnd d late false).flag (R.TBL_FENCE_STATUS d) F.TBL_FENCE_STATUS_DONE_SEEN = true ∧
    (late = true → (c.fenceEnd d late false).flag (R.TBL_FENCE_STATUS d) F.TBL_FENCE_STATUS_TIMEOUT_SEEN = true) ∧
    (c.fenceEnd d late false).inflight = c.inflight ∧
    ∀ a, a ≠ R.TBL_FENCE_STATUS d → (c.fenceEnd d late false).word a = b.word a := by
  obtain ⟨he, htag, hdone, htime, hinf, hwords⟩ := c.fenceOff_tells (d := d) (f := f) (r := r) late false
  rw [Block.fenceEnd_cons (by rw [engine, h]), host, if_neg (by decide)]
  exact ⟨by rw [he, engine], htag, hdone, htime, hinf, fun a ha => (hwords a ha).trans (words a)⟩

theorem Block.fenceTimeout_early (h : (b.engine d).fences = f :: r) (early : b.fld (R.TBL_FENCE_CFG d) F.TBL_FENCE_CFG_LIMIT = 0 ∨
    b.ticks - f.at_ < b.fld (R.TBL_FENCE_CFG d) F.TBL_FENCE_CFG_LIMIT * 1000000) : b.fenceTimeout d = b := by
  unfold Block.fenceTimeout
  simp only [h]
  rw [if_neg]
  rcases early with e | e
  · simp [e]
  · simp [oneMs, e]

theorem Block.fenceTimeout_none (h : (b.engine d).fences = []) : b.fenceTimeout d = b := by
  unfold Block.fenceTimeout
  simp only [h]

theorem Block.fenceTimeout_zero (h : b.fld (R.TBL_FENCE_CFG d) F.TBL_FENCE_CFG_LIMIT = 0) : b.fenceTimeout d = b := by
  cases hf : (b.engine d).fences with
  | nil => exact Block.fenceTimeout_none hf
  | cons f r => exact Block.fenceTimeout_early hf (.inl h)

/-- What a fence's timeout sends, before the fence is taken off. -/
def Block.fenceLate (b : Block) (d : Nat) (f : Fence) : Block :=
  (b.count (R.TBL_FENCE_TIMEOUTS d) 1).send 7 d 0x30 (f.tag * 2 ^ 28 + sat (2 ^ 28 - 1) (b.fenceLeft d f.epoch))

theorem Block.fenceTimeout_late (h : (b.engine d).fences = f :: r) (on : b.fld (R.TBL_FENCE_CFG d) F.TBL_FENCE_CFG_LIMIT ≠ 0)
    (late : b.fld (R.TBL_FENCE_CFG d) F.TBL_FENCE_CFG_LIMIT * 1000000 ≤ b.ticks - f.at_) :
    b.fenceTimeout d = (b.fenceLate d f).fenceEnd d true false := by
  unfold Block.fenceTimeout
  simp only [h]
  rw [if_pos]
  · rfl
  · simp [on, oneMs, late]

theorem Block.fenceLate_tells :
    (b.fenceLate d f).engine d = b.engine d ∧ (∀ a, (b.fenceLate d f).word a = b.word a) ∧
    (b.fenceLate d f).inflight = (b.send 7 d 0x30 (f.tag * 2 ^ 28 + min (2 ^ 28 - 1) (b.fenceLeft d f.epoch))).inflight := by
  unfold Block.fenceLate
  refine ⟨by rw [Block.send_engine, Block.count_engine], fun a => by rw [Block.send_word, Block.count_word], ?_⟩
  obtain ⟨cs, hcount⟩ : ∃ cs, b.count (R.TBL_FENCE_TIMEOUTS d) 1 = { b with ctrs := cs } := ⟨_, b.count_only _ _⟩
  rw [hcount, sat_eq_min]
  rfl
end
end

theorem findReg_fenceCfg {d : Nat} (hd : d < 4) : findReg (R.TBL_FENCE_CFG d) = some ⟨.tbl, d, 0x208, reg1 0x208 [⟨15, 0, .rw, 1000⟩], 0, 0, 0⟩ :=
  findReg_base rfl hd (by decide) (by decide)

theorem Block.fenceLimit_stored {d : Nat} (hd : d < 4) (w : Writer) (v : Nat) :
    (b.storeReg w (R.TBL_FENCE_CFG d) v).fld (R.TBL_FENCE_CFG d) F.TBL_FENCE_CFG_LIMIT = F.TBL_FENCE_CFG_LIMIT.of v :=
  (Block.fld_storeReg (findReg_fenceCfg hd) rfl w v (f := ⟨15, 0, .rw, 1000⟩) (by simp [reg1])).trans rfl

/-- A new limit that a lone fence has passed ends it. -/
theorem Block.fenceCfg_ends {d : Nat} (hd : d < 4) (w : Writer) {v : Nat} (on : F.TBL_FENCE_CFG_LIMIT.of v ≠ 0) {f : Fence}
    (lone : (b.engine d).fences = [f]) (late : F.TBL_FENCE_CFG_LIMIT.of v * 1000000 ≤ b.ticks - f.at_) :
    ((b.fenceCfg w d v).engine d).fences = [] ∧ (b.fenceCfg w d v).flag (R.TBL_FENCE_STATUS d) F.TBL_FENCE_STATUS_TIMEOUT_SEEN = true := by
  have limit := b.fenceLimit_stored hd w v
  have fences : ((b.storeReg w (R.TBL_FENCE_CFG d) v).engine d).fences = [f] := by rw [Block.storeReg_engine, lone]
  have ticks := b.storeReg_ticks w (R.TBL_FENCE_CFG d) v
  unfold Block.fenceCfg
  obtain ⟨c, hc⟩ : ∃ c, b.storeReg w (R.TBL_FENCE_CFG d) v = c := ⟨_, rfl⟩
  rw [hc] at limit fences ticks ⊢
  obtain ⟨engine, -, -⟩ := c.fenceLate_tells (d := d) (f := f)
  obtain ⟨off, timeout⟩ := Block.fenceEnd_late (b := c.fenceLate d f) hd (by rw [engine, fences]) false
  have first : c.fenceTimeout d = (c.fenceLate d f).fenceEnd d true false :=
    Block.fenceTimeout_late fences (by rw [limit]; exact on) (by rw [limit, ticks]; exact late)
  rw [Block.each_succ, Block.each_succ, Block.each_succ, show c.each 0 (fun b _ => b.fenceTimeout d) = c from rfl, first,
    Block.fenceTimeout_none off, Block.fenceTimeout_none off]
  exact ⟨off, timeout⟩

theorem Block.accept_fence {c e : Block} {d : Nat} {o : TblOp} (op : o.op = 6) (via : o.via = .reg) (plain : c.mirroring = false)
    (ops : (c.engine d).ops = []) (issue : c.fenceIssue d o.arg 0 = (S.ok, e)) :
    c.accept d o = e.modEngine d fun x => { x with ops := x.ops ++ [{ o with done := true, status := S.ok }] } := by
  unfold Block.accept
  simp [op, via, plain, ops, OpVia.requester, issue]

/-- A fence command with nothing of its requester ahead takes its fence point at once (R194). -/
theorem Block.tblFence_at_once {w : Writer} {d v : Nat} (idle : b.flag (R.TBL_CMD_STATUS d) F.TBL_CMD_STATUS_BUSY = false) (hd : d < 4)
    (single : b.mirroring = false) (run : b.frozen d = false) (none_ : (b.engine d).ops = []) (room : (b.engine d).fences.length < 3) :
    ∃ o : TblOp, (o.op, o.done, o.status) = (6, true, S.ok) ∧
      b.tblFence w d v = ((b.raise (R.TBL_CMD_STATUS d) F.TBL_CMD_STATUS_BUSY).fenceIssued d (F.TBL_CMD_ARG.of v)).modEngine d fun e =>
        { e with ops := e.ops ++ [o] } := by
  have ne : R.PAIR_STATUS ≠ R.TBL_CMD_STATUS d := by unfold R.PAIR_STATUS R.TBL_CMD_STATUS tblBase dieBase pairBase; omega
  have issue := Block.fenceIssue_room (b := b.raise (R.TBL_CMD_STATUS d) F.TBL_CMD_STATUS_BUSY) (d := d) (tag := F.TBL_CMD_ARG.of v)
    (by rw [Block.raise_engine]; exact room)
  rw [Block.raise_frozen, run, if_neg Bool.false_ne_true] at issue
  have plain := Block.mirroring_raise (b := b) ne F.TBL_CMD_STATUS_BUSY
  rw [single] at plain
  have ops := congrArg Engine.ops (b.raise_engine (R.TBL_CMD_STATUS d) F.TBL_CMD_STATUS_BUSY d)
  rw [none_] at ops
  unfold Block.tblFence Block.cmdWrite
  dsimp only
  rw [idle, Bool.false_or, show writesTable 6 = false from rfl, Bool.false_and, if_neg Bool.false_ne_true]
  obtain ⟨c, hc⟩ : ∃ c, b.raise (R.TBL_CMD_STATUS d) F.TBL_CMD_STATUS_BUSY = c := ⟨_, rfl⟩
  rw [hc] at issue plain ops ⊢
  exact ⟨_, rfl, Block.accept_fence rfl rfl plain ops issue⟩

/-- Settles O24: the commit joins the operations and runs alone; a fence's issue, end and timeout are `Block.fenceIssued`,
`Block.fenceOff` and `Block.fenceLate`. -/
theorem commitsCopyTheStagedWordsAndFencesEnd : Obligations.CommitsCopyTheStagedWordsAndFencesEnd := by
  unfold Obligations.CommitsCopyTheStagedWordsAndFencesEnd
  refine ⟨⟨fun b w d v reach commit => ⟨fun no => ?_, fun idle act single => ?_⟩, fun b d o ops via seq fresh after handing promoting turn _ => ?_⟩,
    fun b w d v reach issue => ⟨fun full => ?_, fun room run => ?_, fun none_ held => ?_⟩, fun b d f r fences host small => ?_,
    fun b w d v reach => ⟨fun off => ?_, fun on f lone late => ?_⟩, fun b w d v host reach idle single run none_ room => ?_⟩
  · exact takes_congr (u := b.tmplCommit w d v.toNat) (takes_of_write reach fun _ => rfl) (Block.tmplCommit_refused commit no)
  · exact takes_congr (u := b.tmplCommit w d v.toNat) (takes_of_write reach fun _ => rfl)
      (Block.tmplCommit_accepted d.isLt commit idle act single)
  · obtain ⟨words, busy, engine⟩ := Block.Single.commits ⟨ops, seq, fresh, after, handing, promoting, turn⟩ via
    exact ⟨b.cmdComplete d 0, fun _ => rfl, fun j => words j j.isLt, busy, engine⟩
  · refine takes_congr (u := b.fenceWrite w d v.toNat) (takes_of_write reach fun _ => rfl) ?_
    rw [Block.fenceWrite_eq issue, Block.fenceIssue_full full]
    rfl
  · have written : b.fenceWrite w d v.toNat = b.fenceIssued d (F.TBL_FENCE_TAG.of v.toNat) := by
      rw [Block.fenceWrite_eq issue, Block.fenceIssue_room room, run]
      simp only [beq_self_eq_true, if_true, Bool.false_eq_true, if_false]
    obtain ⟨engine, tag, count, words⟩ := b.fenceIssued_tells (d := d) (tag := F.TBL_FENCE_TAG.of v.toNat)
    refine ⟨_, takes_congr (u := b.fenceWrite w d v.toNat) (takes_of_write reach fun _ => rfl) written, engine, tag.trans (fenceTag_lt _),
      count ?_, words⟩
    exact (b.stopped_tbl d.isLt (by decide)).trans run
  · have written : b.fenceWrite w d v.toNat = (b.fenceIssued d (F.TBL_FENCE_TAG.of v.toNat)).fenceEnd d false false := by
      rw [Block.fenceWrite_eq issue, Block.fenceIssue_room (by rw [none_]; decide), held]
      simp only [beq_self_eq_true, if_true]
    obtain ⟨engine, -, -, -⟩ := b.fenceIssued_tells (d := d) (tag := F.TBL_FENCE_TAG.of v.toNat)
    obtain ⟨after, tag, done, -⟩ := Block.fenceEnd_tells (b := b.fenceIssued d (F.TBL_FENCE_TAG.of v.toNat)) (d := d) rfl (fun _ => rfl)
      (by rw [engine, none_]; rfl) rfl false
    refine ⟨_, takes_congr (u := b.fenceWrite w d v.toNat) (takes_of_write reach fun _ => rfl) written, ?_, tag.trans (fenceTag_lt _), done⟩
    rw [after, engine]
    simp only [none_]
  · refine ⟨fun none_ => ?_, fun some_ => ?_, fun on late => ?_, fun early => ?_⟩
    · have done : b.fenceDone d = b.fenceEnd d false false := by
        unfold Block.fenceDone
        simp [fences, none_]
      obtain ⟨engine, tag, seen, -, infl, words⟩ := Block.fenceEnd_tells (b := b) (d := d) rfl (fun _ => rfl) fences host false
      exact ⟨_, takes_congr (u := b.fenceDone d) (fun _ => rfl) done, ⟨engine, tag.trans (Nat.mod_eq_of_lt small), seen, words⟩, infl⟩
    · refine takes_congr (u := b.fenceDone d) (fun _ => rfl) ?_
      unfold Block.fenceDone
      simp [fences, some_]
    · obtain ⟨engine, words, told⟩ := b.fenceLate_tells (d := d) (f := f)
      obtain ⟨after, tag, seen, timeout, infl, others⟩ := Block.fenceEnd_tells engine words fences host true
      exact ⟨_, takes_congr (u := b.fenceTimeout d) (fun _ => rfl) (Block.fenceTimeout_late fences on late),
        ⟨after, tag.trans (Nat.mod_eq_of_lt small), seen, others⟩, timeout rfl, infl.trans told⟩
    · exact takes_congr (u := b.fenceTimeout d) (fun _ => rfl) (Block.fenceTimeout_early fences early)
  · refine takes_congr (u := b.fenceCfg w d v.toNat) (takes_of_write reach fun _ => rfl) (Block.each_id _ fun _ _ => ?_)
    exact Block.fenceTimeout_zero ((b.fenceLimit_stored d.isLt w _).trans off)
  · exact ⟨b.fenceCfg w d v.toNat, takes_of_write reach fun _ => rfl, b.fenceCfg_ends d.isLt w on lone late⟩
  · obtain ⟨o, shown, accepted⟩ := b.tblFence_at_once (w := w) (v := v.toNat) idle d.isLt single run none_ room
    obtain ⟨engine, -, -, words⟩ := Block.fenceIssued_tells (b := b.raise (R.TBL_CMD_STATUS d) F.TBL_CMD_STATUS_BUSY) (d := d)
      (tag := F.TBL_CMD_ARG.of v.toNat)
    refine ⟨_, takes_congr (u := b.tblFence w d v.toNat) (takes_of_command host reach fun _ => rfl) accepted, ?_, ?_, ?_⟩
    · rw [Block.engine_modEngine, if_pos rfl, engine]
      dsimp only
      rw [Block.raise_engine, Block.raise_ticks]
    · rw [Block.engine_modEngine, if_pos rfl, engine, Block.raise_engine, none_]
      simp [shown]
    · rw [Block.modEngine_flag, Block.flag, Block.fld_of_word (words _ (by unfold R.TBL_CMD_STATUS R.TBL_FENCE_STATUS; omega))]
      exact Block.flag_raise _ _ _ (by decide) (by decide)

end Sys2Proof.Machine
end

section
/-!
PROOFS. What the DMA engines leave (R401, R406): marks for dirty logging change a register and a counter of an instance, which lie at
fixed offsets of its page.
-/
namespace Sys2Proof.Machine
open Sys2Proof

variable (b : Block)

/-- What every step of a fold keeps, the fold keeps. -/
theorem foldl_keeps {α β : Type} {f : Block → α → Block} {g : Block → β} (h : ∀ c x, g (f c x) = g c) (l : List α) : g (l.foldl f b) = g b := by
  induction l generalizing b with
  | nil => rfl
  | cons x l ih => rw [List.foldl_cons, ih, h]

/-- The mark of one page in the bitmap of instance i, whose region begins at page start. -/
def Block.markPage (i start : Nat) (b : Block) (p : Nat) : Block :=
  { b with jobs := addDirty b.jobCount i (b.dirtyMap i) ((p - start) / 64) (2 ^ ((p - start) % 64)) b.jobs, jobCount := b.jobCount + 1 }

theorem Block.mark_keeps (i addr len : Nat) :
    (∀ a, a % 0x1000 ≠ 0x400 → (b.mark i addr len).word a = b.word a) ∧ (∀ c, c % 0x1000 ≠ 0x888 → (b.mark i addr len).ctr c = b.ctr c) := by
  unfold Block.mark
  split
  · exact ⟨fun _ _ => rfl, fun _ _ => rfl⟩
  · extract_lets start n p0 pages inside b1
    have hword (a : Nat) : b1.word a = b.word a :=
      foldl_keeps b (f := Block.markPage i start) (g := fun c => c.word a) (fun _ _ => rfl) inside
    have hctr (c : Nat) : b1.ctr c = b.ctr c :=
      foldl_keeps b (f := Block.markPage i start) (g := fun e => e.ctr c) (fun _ _ => rfl) inside
    split
    · exact ⟨fun a _ => hword a, fun c _ => hctr c⟩
    · refine ⟨fun a ha => ?_, fun c hc => ?_⟩
      · rw [Block.count_word, Block.raise, Block.word_setFld_other, hword]
        intro e
        apply ha
        rw [e, R.INS_DIRTY_CFG, insBase]
        omega
      · rw [Block.ctr_count_other, Block.raise, Block.setFld_ctr, hctr]
        intro e
        apply hc
        rw [e, R.INS_DIRTY_OUT_RANGE, insBase]
        omega

theorem Block.dispatchDma_keeps (n : Nat) :
    (∀ a, a % 0x1000 ≠ 0x400 → (b.dispatchDma n).word a = b.word a) ∧ (∀ c, c % 0x1000 ≠ 0x888 → (b.dispatchDma n).ctr c = b.ctr c) := by
  induction n generalizing b with
  | zero => exact ⟨fun _ _ => rfl, fun _ _ => rfl⟩
  | succ n ih =>
    unfold Block.dispatchDma
    split
    · exact ⟨fun _ _ => rfl, fun _ _ => rfl⟩
    · split
      · exact ⟨fun _ _ => rfl, fun _ _ => rfl⟩
      · next e _ j _ =>
        extract_lets b1 b2
        have hword (a : Nat) (ha : a % 0x1000 ≠ 0x400) : b2.word a = b.word a := by
          show Block.word (if j.kind.logged then _ else b1) a = b.word a
          split
          · exact foldl_keeps b1 (g := fun c => c.word a) (fun c w => (c.mark_keeps j.inst w.1 w.2.length).1 a ha) j.writes
          · rfl
        have hctr (x : Nat) (hx : x % 0x1000 ≠ 0x888) : b2.ctr x = b.ctr x := by
          show Block.ctr (if j.kind.logged then _ else b1) x = b.ctr x
          split
          · exact foldl_keeps b1 (g := fun c => c.ctr x) (fun c w => (c.mark_keeps j.inst w.1 w.2.length).2 x hx) j.writes
          · rfl
        obtain ⟨words, ctrs⟩ := ih b2
        exact ⟨fun a ha => (words a ha).trans (hword a ha), fun x hx => (ctrs x hx).trans (hctr x hx)⟩

theorem Block.dispatchDma_word (n : Nat) {a : Nat} (h : a % 0x1000 ≠ 0x400) : (b.dispatchDma n).word a = b.word a :=
  (b.dispatchDma_keeps n).1 a h
theorem Block.dispatchDma_fld (n : Nat) {a : Nat} (h : a % 0x1000 ≠ 0x400) (f : Bf) : (b.dispatchDma n).fld a f = b.fld a f :=
  Block.fld_of_word (b.dispatchDma_word n h) f
theorem Block.dispatchDma_ctr (n : Nat) {c : Nat} (h : c % 0x1000 ≠ 0x888) : (b.dispatchDma n).ctr c = b.ctr c :=
  (b.dispatchDma_keeps n).2 c h

/-- From b to c nothing changed but what the DMA engines hold, registers and counters; of those, only what a mark changes. -/
structure Block.OnDma (b c : Block) : Prop where
  only : ∃ rs cs js n es l, c = { b with regs := rs, ctrs := cs, jobs := js, jobCount := n, dmaEng := es, dmaLast := l }
  word : ∀ a, a % 0x1000 ≠ 0x400 → c.word a = b.word a
  ctr : ∀ x, x % 0x1000 ≠ 0x888 → c.ctr x = b.ctr x

namespace Block.OnDma
variable {b}
theorem refl : b.OnDma b := ⟨⟨_, _, _, _, _, _, rfl⟩, fun _ _ => rfl, fun _ _ => rfl⟩
theorem trans {c d : Block} (h : b.OnDma c) (h' : c.OnDma d) : b.OnDma d := by
  refine ⟨?_, fun a ha => (h'.word a ha).trans (h.word a ha), fun x hx => (h'.ctr x hx).trans (h.ctr x hx)⟩
  obtain ⟨rs, cs, js, n, es, l, rfl⟩ := h.only
  obtain ⟨rs', cs', js', n', es', l', rfl⟩ := h'.only
  exact ⟨_, _, _, _, _, _, rfl⟩
theorem dispatchDma (n : Nat) : b.OnDma (b.dispatchDma n) :=
  ⟨⟨_, _, _, _, _, _, b.dispatchDma_only n⟩, (b.dispatchDma_keeps n).1, (b.dispatchDma_keeps n).2⟩
theorem pushJob (i : Nat) (k : JobKind) (w : List (Nat × List Byte)) : b.OnDma (b.pushJob i k w) :=
  (⟨⟨_, _, _, _, _, _, rfl⟩, fun _ _ => rfl, fun _ _ => rfl⟩ :
    b.OnDma { b with jobs := b.jobs ++ [{ n := b.jobCount, inst := i, kind := k, writes := w }], jobCount := b.jobCount + 1 }).trans
    (dispatchDma 17)
theorem askRead (i : Nat) (k : JobKind) : b.OnDma (b.askRead i k) := by
  unfold Block.askRead
  split
  · exact refl
  · exact pushJob i k []
theorem readGot {i : Nat} {k : JobKind} {c : Block} (h : b.readGot i k = some c) : b.OnDma c := by
  obtain ⟨e, rfl⟩ := Block.readGot_eq b h
  exact (askRead i k).trans ⟨⟨_, _, _, _, _, _, rfl⟩, fun _ _ => rfl, fun _ _ => rfl⟩

theorem engines {c : Block} (h : b.OnDma c) : c.engines = b.engines := by
  obtain ⟨rs, cs, js, n, es, l, rfl⟩ := h.only
  rfl
theorem engine {c : Block} (h : b.OnDma c) (d : Nat) : c.engine d = b.engine d := by
  obtain ⟨rs, cs, js, n, es, l, rfl⟩ := h.only
  rfl
theorem ticks {c : Block} (h : b.OnDma c) : c.ticks = b.ticks := by
  obtain ⟨rs, cs, js, n, es, l, rfl⟩ := h.only
  rfl
theorem inflight {c : Block} (h : b.OnDma c) : c.inflight = b.inflight := by
  obtain ⟨rs, cs, js, n, es, l, rfl⟩ := h.only
  rfl
theorem frozen {c : Block} (h : b.OnDma c) (d : Nat) : c.frozen d = b.frozen d := by
  obtain ⟨rs, cs, js, n, es, l, rfl⟩ := h.only
  rfl
theorem fld {c : Block} (h : b.OnDma c) {a : Nat} (ha : a % 0x1000 ≠ 0x400) (f : Bf) : c.fld a f = b.fld a f := Block.fld_of_word (h.word a ha) f
end Block.OnDma

theorem Block.withRead_none {i : Nat} {k : JobKind} (h : b.readGot i k = none) (f : Block → Block) : b.withRead i k f = b.askRead i k := by
  rw [Block.withRead, h]
theorem Block.withRead_some {i : Nat} {k : JobKind} {c : Block} (h : b.readGot i k = some c) (f : Block → Block) :
    b.withRead i k f = (f c).dispatchDma 17 := by
  rw [Block.withRead, h]

end Sys2Proof.Machine
end

section
/-!
PROOFS. The Gleaner (R217 to R225): its turn, what it learns, moves and ages.
-/
namespace Sys2Proof.Machine
open Sys2Proof

/-! ## One change of an element after another -/

theorem SMap.put_put {α : Type} (m : SMap α) (i : Nat) (v w : α) : (m.put i v).put i w = m.put i w := by
  induction m with
  | nil => simp [SMap.put]
  | cons e m ih =>
    obtain ⟨k, x⟩ := e
    simp only [SMap.put]
    by_cases h : i < k
    · rw [if_pos h, if_pos h, SMap.put, if_neg (Nat.lt_irrefl i), if_pos rfl]
    · by_cases h' : i = k
      · rw [if_neg h, if_pos h', if_neg h, if_pos h', SMap.put, if_neg (Nat.lt_irrefl i), if_pos rfl]
      · rw [if_neg h, if_neg h', if_neg h, if_neg h', SMap.put, if_neg h, if_neg h', ih]

theorem SMap.del_put {α : Type} (m : SMap α) (i : Nat) (v : α) : SMap.del (m.put i v) i = SMap.del m i := by
  induction m with
  | nil => simp [SMap.put, SMap.del]
  | cons e m ih =>
    obtain ⟨k, x⟩ := e
    simp only [SMap.put]
    by_cases h : i < k
    · rw [if_pos h]
      simp [SMap.del]
    · by_cases h' : i = k
      · rw [if_neg h, if_pos h']
        simp [SMap.del, h']
      · rw [if_neg h, if_neg h']
        simp only [SMap.del, List.filter_cons] at ih ⊢
        rw [ih]

theorem SMap.set_set {α : Type} [DecidableEq α] {dflt : α} (m : SMap α) (i : Nat) {v : α} (w : α) (h : v ≠ dflt) :
    SMap.set dflt (SMap.set dflt m i v) i w = SMap.set dflt m i w := by
  unfold SMap.set
  rw [if_neg h, SMap.put_put, SMap.del_put]

section
variable {b : Block} {d : Nat}

theorem Block.modEngine_congr {f g : Engine → Engine} (h : f (b.engine d) = g (b.engine d)) : b.modEngine d f = b.modEngine d g := by
  unfold Block.modEngine SMap.mod
  rw [show f (SMap.get {} b.engines d) = g (SMap.get {} b.engines d) from h]

/-- A change of an engine that is not the empty one, and another. -/
theorem Block.modEngine_modEngine {f : Engine → Engine} (g : Engine → Engine) (h : f (b.engine d) ≠ {}) :
    (b.modEngine d f).modEngine d g = b.modEngine d fun e => g (f e) := by
  have h' : f (SMap.get {} b.engines d) ≠ {} := h
  unfold Block.modEngine SMap.mod
  dsimp only
  rw [SMap.get_set_same, SMap.set_set _ _ _ h']

/-- The Gleaner's turn takes the item at the front of its queue. -/
theorem Block.glTake_eq {x : GlItem} {r : List GlItem} (h : (b.engine d).glQueue = x :: r) :
    b.glTake d = b.modEngine d fun e => { e with glQueue := r, lastGl := true } := by
  unfold Block.glTake Block.served
  rw [Block.modEngine_modEngine _ (by simp [Engine.mk.injEq])]
  exact Block.modEngine_congr (by simp only [h, List.tail_cons])

theorem Block.frozen_of_glTurn (h : b.glTurn d = true) : b.frozen d = false := by
  simp only [Block.glTurn, Bool.and_eq_true, Bool.not_eq_true'] at h
  exact h.1
end

/-! ## The event ring -/

section
variable (b : Block) {d : Nat}

theorem ctr_pmc_tbl (d ev q n : Nat) {o : Nat} (ho : o < 0x3000) : (b.pmc (.tbl d) ev q n).ctr (tblBase d + o) = b.ctr (tblBase d + o) :=
  b.ctr_pmc_other _ _ _ _ fun k _ h => by
    have h' : tblBase d + o = tblBase d + 0x3000 + 0x40 + 8 * k := h
    omega

theorem ctr_shaix (t : Nat) (l : List Byte) {c : Nat} (h : 0x62000 ≤ c) : (b.shaix t l).ctr c = b.ctr c := by
  unfold Block.shaix
  split
  · rfl
  · rw [Block.ctr_pmc_other, Block.emit_ctr]
    intro k hk e
    have e' : c = 0x61000 + 0x40 + 8 * k := e
    omega

/-- Counters of the table block but GLN_EVENT_DROP, which an event may count. -/
def eventKeeps (o : Nat) : Prop := o < 0x3000 ∧ o ≠ 0x4A8 ∧ o % 0x1000 ≠ 0x888

theorem Block.glRecord_keeps (table idx : Nat) (r : List Byte) :
    (b.glRecord d table idx r).engine d = b.engine d ∧ ∀ o, eventKeeps o → (b.glRecord d table idx r).ctr (tblBase d + o) = b.ctr (tblBase d + o) := by
  unfold Block.glRecord
  dsimp only
  split
  · have dma := Block.OnDma.pushJob (b := b) 0 (.gleaner d)
      [(b.word (R.HIF_GLN_BASE_HI d) * 2 ^ 32 + b.word (R.HIF_GLN_BASE_LO d) +
        (b.word (R.HIF_GLN_TAIL d) + (b.jobs.filter fun j => j.kind == .gleaner d).length + (b.dmaEng.filter fun x => x.2.kind == .gleaner d).length) %
          2 ^ b.fld (R.HIF_GLN_CFG d) F.HIF_GLN_CFG_SIZE_LOG2 * 64, r ++ zeros 16)]
    exact ⟨dma.engine d, fun o ho => dma.ctr _ (by obtain ⟨-, -, h⟩ := ho; unfold tblBase dieBase; omega)⟩
  · refine ⟨by rw [Block.sendLimited_engine, Block.count_engine], fun o ho => ?_⟩
    obtain ⟨-, h, -⟩ := ho
    rw [Block.sendLimited_ctr, Block.ctr_count_other]
    unfold R.TBL_GLN_EVENT_DROP
    omega

theorem Block.glEvent_keeps (ev table old port idx : Nat) (image : Vec) :
    (b.glEvent d ev table old port idx image).engine d = { b.engine d with seq := ((b.engine d).seq + 1) % 4096 } ∧
    ∀ o, eventKeeps o → (b.glEvent d ev table old port idx image).ctr (tblBase d + o) = b.ctr (tblBase d + o) := by
  unfold Block.glEvent
  extract_lets seq t r b1
  obtain ⟨engine, ctrs⟩ := (b.modEngine d fun e => { e with seq := (seq + 1) % 4096 }).glRecord_keeps (d := d) table idx r
  have he : b1.engine d = { b.engine d with seq := ((b.engine d).seq + 1) % 4096 } := by
    refine engine.trans ?_
    rw [Block.engine_modEngine, if_pos rfl]
  have hc (o : Nat) (ho : eventKeeps o) : b1.ctr (tblBase d + o) = b.ctr (tblBase d + o) := (ctrs o ho).trans (Block.modEngine_ctr ..)
  split
  · exact ⟨he, hc⟩
  · refine ⟨?_, fun o ho => ?_⟩
    · rw [Block.shaix_engine, he]
    · rw [ctr_shaix _ _ _ (by unfold tblBase dieBase; omega), hc o ho]
end

/-! ## Learning (R218, R219) -/

section
variable {b : Block} {d : Nat}

theorem Block.oldPort_only (x : EmEntry) : ∃ n, (b.oldPort d x).2 = { b with fresh := n } := by
  unfold Block.oldPort
  dsimp only
  split
  · exact ⟨b.fresh, rfl⟩
  · split
    · exact ⟨b.fresh, rfl⟩
    · exact ⟨_, rfl⟩

theorem Block.learn_known {key port s : Nat} {x : EmEntry} (found : b.emFind d T.l2 false key = some (s, x))
    (known : x.kind = 1 ∨ (x.kind = 2 ∧ x.fwdIdx = Vec.f (b.learnImage d key port) 3 ⟨19, 2⟩)) : b.learn d key port = b := by
  unfold Block.learn
  simp only [found]
  rw [if_pos]
  simpa using known

/-- A move: the entry in its slot with the new next hop, counted. -/
theorem Block.learn_moves {key port s : Nat} {x : EmEntry} (found : b.emFind d T.l2 false key = some (s, x))
    (moved : x.kind = 0 ∨ (x.kind = 2 ∧ x.fwdIdx ≠ Vec.f (b.learnImage d key port) 3 ⟨19, 2⟩)) (hd : d < 4) (run : b.frozen d = false) :
    (b.learn d key port).engine d = { b.engine d with
      em := SMap.put (b.engine d).em s (newEntry (b.stampClock d) (b.learnImage d key port)), seq := ((b.engine d).seq + 1) % 4096 } ∧
    (b.learn d key port).ctr (R.TBL_GLN_MOVES d) = (b.ctr (R.TBL_GLN_MOVES d) + 1) % 2 ^ 64 := by
  obtain ⟨n, hold⟩ := Block.oldPort_only (b := b) (d := d) x
  have hmoved : ¬ (x.kind == 1 || (x.kind == 2 && x.fwdIdx == Vec.f (b.learnImage d key port) 3 ⟨19, 2⟩)) = true := by
    rcases moved with h | ⟨h, h'⟩
    · simp [h]
    · simp [h, h']
  obtain ⟨c, hc⟩ : ∃ c, ({ b with fresh := n } : Block).modEngine d (fun e =>
      { e with em := SMap.put e.em s (newEntry (Block.stampClock { b with fresh := n } d) (b.learnImage d key port)) }) = c := ⟨_, rfl⟩
  have ce : c.engine d = { b.engine d with em := SMap.put (b.engine d).em s (newEntry (b.stampClock d) (b.learnImage d key port)) } := by
    rw [← hc, Block.engine_modEngine, if_pos rfl]
    rfl
  have cctr (a : Nat) : c.ctr a = b.ctr a := by rw [← hc]; rfl
  have crun : c.stopped (R.TBL_GLN_MOVES d) = false := by
    have hs : c.frozen d = false := by
      rw [← hc, Block.modEngine_frozen]
      exact run
    exact (c.stopped_tbl hd (by decide)).trans hs
  obtain ⟨engine, ctrs⟩ := ((c.count (R.TBL_GLN_MOVES d) 1).pmc (.tbl d) 0x05 2 1).glEvent_keeps (d := d) 2 T.l2 (b.oldPort d x).1 port s
    (b.learnImage d key port)
  have hl : b.learn d key port = ((c.count (R.TBL_GLN_MOVES d) 1).pmc (.tbl d) 0x05 2 1).glEvent d 2 T.l2 (b.oldPort d x).1 port s
      (b.learnImage d key port) := by
    unfold Block.learn
    simp only [found]
    rw [if_neg hmoved, hold, hc]
  rw [hl]
  refine ⟨?_, ?_⟩
  · rw [engine, Block.pmc_engine, Block.count_engine, ce]
  · refine (ctrs 0x488 ⟨by decide, by decide, by decide⟩).trans ?_
    rw [ctr_pmc_tbl _ _ _ _ _ (by decide)]
    exact (c.ctr_count_same _ _ crun).trans (by rw [cctr])

/-- An insertion that answers OK places its entry, whatever it moves. -/
theorem Block.insert_placed {t req : Nat} {v : Vec} (ok : (b.insert d t req v).status = S.ok) :
    ∃ s moves x, (b.insert d t req v).blk = b.placeEntry d s moves x := by
  obtain ⟨r, hr⟩ : ∃ r, b.insert d t req v = r := ⟨_, rfl⟩
  rw [hr] at ok ⊢
  unfold Block.insert at hr
  dsimp only at hr
  split at hr
  · split at hr
    · subst hr; cases ok
    · subst hr; dsimp only; exact ⟨_, _, _, rfl⟩
  · split at hr
    · subst hr; cases ok
    · split at hr
      · subst hr; dsimp only; exact ⟨_, _, _, rfl⟩
      · split at hr
        · subst hr; dsimp only; exact ⟨_, _, _, rfl⟩
        · subst hr; cases ok

theorem doMoves_only (moves : List Move) (e : Engine) : moves.foldl Engine.doMove e = { e with em := (moves.foldl Engine.doMove e).em } := by
  induction moves generalizing e with
  | nil => rfl
  | cons m l ih =>
    have h : e.doMove m = { e with em := (e.doMove m).em } := by
      unfold Engine.doMove
      split <;> rfl
    rw [List.foldl_cons, ih, h]

theorem Block.placeEntry_keeps (s : Nat) (moves : List Move) (x : EmEntry) :
    (b.placeEntry d s moves x).engine d = { b.engine d with em := ((b.placeEntry d s moves x).engine d).em } ∧
    (∀ o, 0x200 ≤ o → o < 0x3000 → (b.placeEntry d s moves x).ctr (tblBase d + o) = b.ctr (tblBase d + o)) ∧
    (b.placeEntry d s moves x).frozen d = b.frozen d := by
  unfold Block.placeEntry
  dsimp only
  refine ⟨?_, fun o low high => ?_, ?_⟩
  · rw [Block.pmc_engine, Block.count_engine, Block.count_engine, Block.engine_modEngine, if_pos rfl]
    dsimp only
    rw [doMoves_only]
  · rw [ctr_pmc_tbl _ _ _ _ _ high, Block.ctr_count_other, Block.ctr_count_other, Block.modEngine_ctr]
    · unfold R.TBL_EM_INSERTS; omega
    · unfold R.TBL_EM_MOVES; omega
  · rw [Block.pmc_frozen, Block.count_frozen, Block.count_frozen, Block.modEngine_frozen]

/-- A key that no entry holds is inserted, and counted where the insertion answers OK. -/
theorem Block.learn_inserts {key port : Nat} (missing : b.emFind d T.l2 false key = none)
    (ok : (b.insert d T.l2 reqGleaner (b.learnImage d key port)).status = S.ok) (hd : d < 4) (run : b.frozen d = false) :
    ((b.learn d key port).engine d).em = ((b.insert d T.l2 reqGleaner (b.learnImage d key port)).blk.engine d).em ∧
    ((b.learn d key port).engine d).glQueue = (b.engine d).glQueue ∧
    (b.learn d key port).ctr (R.TBL_GLN_LEARNS d) = (b.ctr (R.TBL_GLN_LEARNS d) + 1) % 2 ^ 64 := by
  obtain ⟨s, moves, x, hblk⟩ := Block.insert_placed ok
  obtain ⟨pe, pctr, prun⟩ := Block.placeEntry_keeps (b := b) (d := d) s moves x
  obtain ⟨r, hr⟩ : ∃ r, b.insert d T.l2 reqGleaner (b.learnImage d key port) = r := ⟨_, rfl⟩
  have hl : b.learn d key port = ((r.blk.count (R.TBL_GLN_LEARNS d) 1).pmc (.tbl d) 0x05 1 1).glEvent d 1 T.l2 0xFF port r.res
      (b.learnImage d key port) := by
    unfold Block.learn
    simp only [missing]
    rw [if_pos (by rw [ok]; rfl), hr]
  rw [hr] at hblk ⊢
  obtain ⟨engine, ctrs⟩ := ((r.blk.count (R.TBL_GLN_LEARNS d) 1).pmc (.tbl d) 0x05 1 1).glEvent_keeps (d := d) 1 T.l2 0xFF port r.res
    (b.learnImage d key port)
  rw [Block.pmc_engine, Block.count_engine] at engine
  rw [hl]
  refine ⟨by rw [engine], ?_, ?_⟩
  · rw [engine, hblk, pe]
  · refine (ctrs 0x480 ⟨by decide, by decide, by decide⟩).trans ?_
    rw [ctr_pmc_tbl _ _ _ _ _ (by decide)]
    have hs : r.blk.stopped (R.TBL_GLN_LEARNS d) = false := by
      rw [hblk]
      exact (Block.stopped_tbl _ hd (by decide)).trans (prun.trans run)
    exact (r.blk.ctr_count_same _ _ hs).trans (by rw [hblk, R.TBL_GLN_LEARNS, pctr _ (by decide) (by decide)])
end

/-! ## Ageing (R222 to R224) -/

section
variable {b : Block} {d : Nat}

theorem Block.ageQuantum_of_due (run : b.frozen d = false) (due : (b.engine d).quantum * 1000000 ≤ (b.engine d).quantumTicks) :
    b.ageQuantum d = b.modEngine d fun e => { e with
      clock := e.clock + 1, quantumTicks := e.quantumTicks - e.quantum * 1000000,
      quantum := b.fld (R.TBL_GLN_QUANTUM d) F.TBL_GLN_QUANTUM_QUANTUM, sweepDue := e.sweeping, sweeping := true } := by
  unfold Block.ageQuantum
  dsimp only
  rw [if_neg]
  · rfl
  · rw [run, oneMs]
    simpa using due

/-- The removals that a pass finds. -/
def Block.oldItems (b : Block) (d : Nat) : List GlItem :=
  ((b.engine d).em.filter fun x => b.aged d x.2.kind && (b.engine d).age x.2 ≥ b.fld (R.TBL_GLN_AGE_CFG d) F.TBL_GLN_AGE_CFG_LIMIT).map fun x =>
    GlItem.removal (kindTable x.2.kind) (kindTwo x.2.kind) x.2.key
/-- Those that the Gleaner queue takes: what it does not hold yet, as far as its places go. -/
def Block.newItems (b : Block) (d : Nat) : List GlItem :=
  ((b.oldItems d).filter fun r => !(b.engine d).glQueue.contains r).take (4096 - (b.engine d).glQueue.length)

theorem Block.sweepEnd_of_sweeping (run : b.frozen d = false) (sweeping : (b.engine d).sweeping = true) :
    b.sweepEnd d = b.modEngine d fun e => { e with
      em := e.em.map fun x => (x.1, (b.engine d).sweepStamp x.2), glQueue := e.glQueue ++ b.newItems d, sweeping := e.sweepDue, sweepDue := false } := by
  unfold Block.sweepEnd
  dsimp only
  rw [if_neg (by simp [run, sweeping])]
  exact Block.modEngine_congr rfl

/-- What a pass queues: with a place left over, every old item is there. -/
theorem Block.oldItem_mem (short : ((b.engine d).glQueue ++ b.newItems d).length < 4096) {r : GlItem} (h : r ∈ b.oldItems d) :
    r ∈ (b.engine d).glQueue ++ b.newItems d := by
  unfold Block.newItems at short ⊢
  rw [List.length_append, List.length_take] at short
  rw [List.mem_append]
  by_cases held : r ∈ (b.engine d).glQueue
  · exact .inl held
  · refine .inr ?_
    rw [List.take_of_length_le (by omega), List.mem_filter]
    exact ⟨h, by simpa using held⟩

theorem Engine.sweepStamp_same (e : Engine) (x : EmEntry) : (e.sweepStamp x).kind = x.kind ∧ (e.sweepStamp x).key = x.key := by
  unfold Engine.sweepStamp
  split <;> exact ⟨rfl, rfl⟩

theorem Block.sweepEnd_tells (run : b.frozen d = false) (sweeping : (b.engine d).sweeping = true) :
    ((b.sweepEnd d).engine d).sweeping = (b.engine d).sweepDue ∧ ((b.sweepEnd d).engine d).sweepDue = false ∧
    (∃ l, ((b.sweepEnd d).engine d).glQueue = (b.engine d).glQueue ++ l) ∧
    (((b.sweepEnd d).engine d).glQueue.length < 4096 → ∀ e ∈ (b.engine d).em, b.aged d e.2.kind = true →
      b.fld (R.TBL_GLN_AGE_CFG d) F.TBL_GLN_AGE_CFG_LIMIT ≤ (b.engine d).age e.2 →
      .removal (kindTable e.2.kind) (kindTwo e.2.kind) e.2.key ∈ ((b.sweepEnd d).engine d).glQueue) ∧
    ((b.sweepEnd d).engine d).em.map (fun e => (e.1, e.2.kind, e.2.key)) = (b.engine d).em.map (fun e => (e.1, e.2.kind, e.2.key)) ∧
    b.sweepEnd d = { b with engines := (b.sweepEnd d).engines } := by
  rw [Block.sweepEnd_of_sweeping run sweeping, Block.engine_modEngine, if_pos rfl]
  dsimp only
  refine ⟨rfl, rfl, ⟨_, rfl⟩, fun short e he aged old => ?_, ?_, rfl⟩
  · refine Block.oldItem_mem short (List.mem_map.mpr ⟨e, List.mem_filter.mpr ⟨he, ?_⟩, rfl⟩)
    simp [aged, old]
  · rw [List.map_map]
    refine List.map_congr_left fun e _ => ?_
    obtain ⟨kind, key⟩ := (b.engine d).sweepStamp_same e.2
    simp [kind, key]

theorem Block.remove_aged {table key s : Nat} {two : Bool} {x : EmEntry} (found : b.emFind d table two key = some (s, x))
    (old : b.fld (R.TBL_GLN_AGE_CFG d) F.TBL_GLN_AGE_CFG_LIMIT ≤ (b.engine d).age x) (hd : d < 4) (run : b.frozen d = false) :
    ((b.remove d table two key).engine d).em = SMap.del (b.engine d).em s ∧
    ((b.remove d table two key).engine d).glQueue = (b.engine d).glQueue ∧
    (b.remove d table two key).ctr (R.TBL_GLN_AGED d) = (b.ctr (R.TBL_GLN_AGED d) + 1) % 2 ^ 64 := by
  obtain ⟨c, hc⟩ : ∃ c, b.modEngine d (fun e => { e with em := SMap.del e.em s }) = c := ⟨_, rfl⟩
  have ce : c.engine d = { b.engine d with em := SMap.del (b.engine d).em s } := by rw [← hc, Block.engine_modEngine, if_pos rfl]
  have cctr (a : Nat) : c.ctr a = b.ctr a := by rw [← hc, Block.modEngine_ctr]
  have crun : c.frozen d = false := by rw [← hc, Block.modEngine_frozen, run]
  have hr : b.remove d table two key = ((c.count (R.TBL_GLN_AGED d) 1).pmc (.tbl d) 0x05 3 1).glEvent d 3 table 0xFF 0xFF s x.image := by
    unfold Block.remove
    simp only [found]
    rw [if_neg (by omega), hc]
  obtain ⟨engine, ctrs⟩ := ((c.count (R.TBL_GLN_AGED d) 1).pmc (.tbl d) 0x05 3 1).glEvent_keeps (d := d) 3 table 0xFF 0xFF s x.image
  rw [Block.pmc_engine, Block.count_engine, ce] at engine
  rw [hr]
  refine ⟨by rw [engine], by rw [engine], (ctrs 0x490 ⟨by decide, by decide, by decide⟩).trans ?_⟩
  rw [ctr_pmc_tbl _ _ _ _ _ (by decide)]
  exact (c.ctr_count_same _ _ ((c.stopped_tbl hd (by decide)).trans crun)).trans (by rw [cctr]; rfl)
end

/-! ## The two commands of the queue -/

section
variable {b : Block} {d : Nat}

theorem Block.gleanerCommit_of_cand {key port : Nat} {r : List GlItem} (h : (b.engine d).glQueue = .cand key port :: r)
    (turn : b.glTurn d = true) : b.gleanerCommit d = (b.modEngine d fun e => { e with glQueue := r, lastGl := true }).learn d key port := by
  unfold Block.gleanerCommit
  simp only [h]
  rw [if_pos turn, Block.glTake_eq h]

theorem Block.gleanerCommit_of_removal {table key : Nat} {two : Bool} {r : List GlItem}
    (h : (b.engine d).glQueue = .removal table two key :: r) : b.gleanerCommit d = b := by
  unfold Block.gleanerCommit
  simp only [h]

theorem Block.gleanerRemoval_of_removal {table key : Nat} {two : Bool} {r : List GlItem}
    (h : (b.engine d).glQueue = .removal table two key :: r) (turn : b.glTurn d = true) :
    b.gleanerRemoval d = (b.modEngine d fun e => { e with glQueue := r, lastGl := true }).remove d table two key := by
  unfold Block.gleanerRemoval
  simp only [h]
  rw [if_pos turn, Block.glTake_eq h]

theorem Block.gleanerRemoval_of_cand {key port : Nat} {r : List GlItem} (h : (b.engine d).glQueue = .cand key port :: r) :
    b.gleanerRemoval d = b := by
  unfold Block.gleanerRemoval
  simp only [h]

theorem Block.gleaner_off_turn (off : b.glTurn d = false) : b.gleanerCommit d = b ∧ b.gleanerRemoval d = b := by
  unfold Block.gleanerCommit Block.gleanerRemoval
  rw [off]
  exact ⟨by split <;> rfl, by split <;> rfl⟩

/-- Taking an item changes nothing that a search or a learn reads. -/
theorem Block.taken_tells (b : Block) (d : Nat) (r : List GlItem) :
    let b1 := b.modEngine d fun e => { e with glQueue := r, lastGl := true }
    b1.engine d = { b.engine d with glQueue := r, lastGl := true } ∧ (∀ t two key, b1.emFind d t two key = b.emFind d t two key) ∧
    (∀ key port, b1.learnImage d key port = b.learnImage d key port) ∧ b1.stampClock d = b.stampClock d ∧ b1.frozen d = b.frozen d ∧
    ∀ a, b1.ctr a = b.ctr a := by
  have he : (b.modEngine d fun e => { e with glQueue := r, lastGl := true }).engine d = { b.engine d with glQueue := r, lastGl := true } := by
    rw [Block.engine_modEngine, if_pos rfl]
  refine ⟨he, fun t two key => ?_, fun _ _ => rfl, ?_, Block.modEngine_frozen .., fun a => Block.modEngine_ctr ..⟩
  · exact Block.emFind_congr b (fun _ => Block.modEngine_word ..) (by rw [he]) _ _ _
  · unfold Block.stampClock
    rw [Block.modEngine_flag, he]
end

/-- Settles O25: each command is `Block.learn`, `Block.remove`, `Block.ageQuantum` or `Block.sweepEnd` on what the turn leaves. -/
theorem theGleanerLearnsMovesAndAges : Obligations.TheGleanerLearnsMovesAndAges := by
  unfold Obligations.TheGleanerLearnsMovesAndAges
  refine ⟨fun b d off => ?_, fun b d key port r queue turn => ?_, fun b d run due => ?_, fun b d run sweeping => ?_,
    fun b d table key two rest queue turn => ?_⟩
  · obtain ⟨commit, removal⟩ := Block.gleaner_off_turn off
    exact ⟨takes_congr (u := b.gleanerCommit d) (fun _ => rfl) commit, takes_congr (u := b.gleanerRemoval d) (fun _ => rfl) removal⟩
  · obtain ⟨engine, find, image, clock, frozen, ctr⟩ := b.taken_tells d r
    have run := (frozen.trans (Block.frozen_of_glTurn turn))
    have commit := Block.gleanerCommit_of_cand queue turn
    refine ⟨takes_congr (u := b.gleanerRemoval d) (fun _ => rfl) (Block.gleanerRemoval_of_cand queue), fun s x found known => ?_,
      fun s x found moved => ?_, fun missing ok => ?_⟩
    · refine takes_congr (u := b.gleanerCommit d) (fun _ => rfl) (commit.trans (Block.learn_known ((find _ _ _).trans found) ?_))
      rw [image]
      exact known
    · obtain ⟨learned, counted⟩ := Block.learn_moves (port := port) ((find _ _ _).trans found) (by rw [image]; exact moved) d.isLt run
      refine ⟨_, takes_congr (u := b.gleanerCommit d) (fun _ => rfl) commit, ?_, ?_, ?_, ?_⟩
      · rw [learned, engine, clock, image]
      · rw [learned, engine]
      · rw [learned, engine]
      · rw [counted, ctr]
    · rw [← image] at ok
      obtain ⟨em, left, counted⟩ := Block.learn_inserts ((find _ _ _).trans missing) ok d.isLt run
      refine ⟨_, takes_congr (u := b.gleanerCommit d) (fun _ => rfl) commit, ?_, ?_, ?_⟩
      · rw [em, image]
      · rw [left, engine]
      · rw [counted, ctr]
  · exact takes_congr (u := b.ageQuantum d) (fun _ => rfl) (Block.ageQuantum_of_due run due)
  · exact ⟨b.sweepEnd d, fun _ => rfl, Block.sweepEnd_tells run sweeping⟩
  · obtain ⟨engine, find, image, clock, frozen, ctr⟩ := b.taken_tells d rest
    have run := (frozen.trans (Block.frozen_of_glTurn turn))
    have removal := Block.gleanerRemoval_of_removal queue turn
    have age (x : EmEntry) : ((b.modEngine d fun e => { e with glQueue := rest, lastGl := true }).engine d).age x = (b.engine d).age x := by
      rw [engine]
      rfl
    have limit := b.modEngine_fld d (fun e => { e with glQueue := rest, lastGl := true }) (R.TBL_GLN_AGE_CFG d) F.TBL_GLN_AGE_CFG_LIMIT
    refine ⟨takes_congr (u := b.gleanerCommit d) (fun _ => rfl) (Block.gleanerCommit_of_removal queue), fun missing => ?_,
      fun s x found => ⟨fun young => ?_, fun old => ?_⟩⟩
    · refine takes_congr (u := b.gleanerRemoval d) (fun _ => rfl) (removal.trans ?_)
      unfold Block.remove
      rw [find, missing]
    · refine takes_congr (u := b.gleanerRemoval d) (fun _ => rfl) (removal.trans ?_)
      unfold Block.remove
      rw [find, found]
      exact if_pos (by rw [age, limit]; exact young)
    · obtain ⟨em, left, counted⟩ := Block.remove_aged ((find _ _ _).trans found) (by rw [age, limit]; exact old) d.isLt run
      refine ⟨_, takes_congr (u := b.gleanerRemoval d) (fun _ => rfl) removal, ?_, ?_, ?_⟩
      · rw [em, engine]
      · rw [left, engine]
      · rw [counted, ctr]

end Sys2Proof.Machine
end

section
/-!
PROOFS. Winnow (R226 to R229): its register's writes, its comparisons, its second readings and the failure of a shadow read.
-/
namespace Sys2Proof.Machine
open Sys2Proof

section
variable {b c : Block} {d : Nat}

/-- What a search reads: the seeds of the four ways and the store. -/
theorem Block.emFind_of_seeds (seeds : ∀ w, w < 4 → c.word (R.TBL_EM_SEED d w) = b.word (R.TBL_EM_SEED d w))
    (em : (c.engine d).em = (b.engine d).em) (t : Nat) (two : Bool) (key : Nat) : c.emFind d t two key = b.emFind d t two key := by
  have way (w : Nat) (hw : w < 4) : c.emIn d t two key w = b.emIn d t two key w := by
    unfold Block.emIn Block.emPlace
    rw [seeds w hw, em]
  rw [Block.emFind_eq, Block.emFind_eq]
  have hrange : List.range 4 = [0, 1, 2, 3] := by decide
  simp only [hrange, List.findSome?_cons, way 0 (by omega), way 1 (by omega), way 2 (by omega), way 3 (by omega), List.findSome?_nil]

/-- From b to c nothing changed that a comparison on die d reads. -/
structure Block.WinSame (b c : Block) (d : Nat) : Prop where
  direct : (c.engine d).direct = (b.engine d).direct
  em : (c.engine d).em = (b.engine d).em
  lpm : (c.engine d).lpm = (b.engine d).lpm
  aclOut : (c.engine d).aclOut = (b.engine d).aclOut
  aclIn : (c.engine d).aclIn = (b.engine d).aclIn
  word : ∀ o, o < 0x400 ∨ (0x600 ≤ o ∧ o < 0x700) → c.word (tblBase d + o) = b.word (tblBase d + o)
  ticks : c.ticks = b.ticks

namespace Block.WinSame

theorem trans {e : Block} (h : b.WinSame c d) (h' : c.WinSame e d) : b.WinSame e d :=
  ⟨h'.direct.trans h.direct, h'.em.trans h.em, h'.lpm.trans h.lpm, h'.aclOut.trans h.aclOut, h'.aclIn.trans h.aclIn,
    fun o ho => (h'.word o ho).trans (h.word o ho), h'.ticks.trans h.ticks⟩

theorem of_onDma (h : b.OnDma c) : b.WinSame c d :=
  have he := h.engine d
  ⟨by rw [he], by rw [he], by rw [he], by rw [he], by rw [he], fun o ho => h.word _ (by unfold tblBase dieBase; omega), h.ticks⟩

theorem of_counted (h : b.Counted c) : b.WinSame c d := by
  obtain ⟨cs, rfl⟩ := h
  exact ⟨rfl, rfl, rfl, rfl, rfl, fun _ _ => rfl, rfl⟩

theorem fld (h : b.WinSame c d) {o : Nat} (ho : o < 0x400 ∨ (0x600 ≤ o ∧ o < 0x700)) (f : Bf) : c.fld (tblBase d + o) f = b.fld (tblBase d + o) f :=
  Block.fld_of_word (h.word o ho) f

theorem winDiffs (h : b.WinSame c d) (t mask i : Nat) (sh : Vec) : c.winDiffs d t mask i sh = b.winDiffs d t mask i sh := by
  have assoc (t k p : Nat) : (c.engine d).assoc t k p = (b.engine d).assoc t k p := by
    unfold Engine.assoc
    rw [h.lpm, h.aclIn, h.aclOut]
  have find (t : Nat) (two : Bool) (key : Nat) : c.emFind d t two key = b.emFind d t two key :=
    Block.emFind_of_seeds (fun w hw => by have := h.word (0x110 + w * 4) (by omega); rwa [← Nat.add_assoc] at this) h.em t two key
  unfold Block.winDiffs Block.winByKey Block.winByIndex
  dsimp only
  rw [find, h.direct]
  simp only [assoc]

theorem winAgain (h : b.WinSame c d) (r : Recheck) (sh : Vec) : c.winAgain d r sh = b.winAgain d r sh := by
  unfold Block.winAgain Block.winCounts
  rw [h.winDiffs, h.em]

theorem winTable (h : b.WinSame c d) : c.winTable d = b.winTable d := h.fld (o := 0x600) (by omega) _
theorem winClusters (h : b.WinSame c d) : c.winClusters d = b.winClusters d := h.fld (o := 0x600) (by omega) _
theorem winCount (h : b.WinSame c d) : c.winCount d = b.winCount d := h.fld (o := 0x610) (by omega) _
theorem winPos (h : b.WinSame c d) : c.winPos d = b.winPos d := h.fld (o := 0x628) (by omega) _
theorem winBusy (h : b.WinSame c d) : c.winBusy d = b.winBusy d := congrArg (· == 1) (h.fld (o := 0x628) (by omega) _)
end Block.WinSame

/-! ## The control register (R229) -/

theorem Block.winnowStop_tells (w : Writer) {v : Nat} (stop : F.TBL_WIN_CTRL_STOP.of v = 1) :
    (b.winnowStop w d v).winBusy d = false ∧ (b.winnowStop w d v).engines = b.engines := by
  unfold Block.winnowStop
  dsimp only
  rw [stop, if_pos (by decide)]
  exact ⟨Block.flag_lower _ _ _ (by decide) (by decide), by rw [Block.lower_engines, Block.storeReg_engines]⟩

theorem Block.winnowStart_refused (w : Writer) {v : Nat} (start : F.TBL_WIN_CTRL_START.of v = 1)
    (no : b.winBusy d = true ∨ b.winTable d = T.counter ∨ b.winTable d = T.frag ∨ 16 ≤ b.winTable d) :
    b.winnowStart w d v = b.refuse w (R.TBL_WIN_CTRL d) := by
  unfold Block.winnowStart
  dsimp only
  rw [start, if_neg (by decide), if_pos]
  rcases no with h | h | h | h <;> simp [h]

theorem Block.winnowStart_starts (w : Writer) {v : Nat} (start : F.TBL_WIN_CTRL_START.of v = 1) (go : F.TBL_WIN_CTRL_STOP.of v = 0)
    (idle : b.winBusy d = false) (hc : b.winTable d ≠ T.counter) (hf : b.winTable d ≠ T.frag) (ht : b.winTable d < 16) :
    (b.winnowStart w d v).winBusy d = true ∧ (b.winnowStart w d v).winPos d = 0 ∧
    (b.winnowStart w d v).word (R.TBL_WIN_LOG_HEAD d) = 0 ∧ (b.winnowStart w d v).engines = b.engines := by
  have ht' : ¬ b.winTable d ≥ 16 := by omega
  obtain ⟨c, hcb⟩ : ∃ c, (b.setFld (R.TBL_WIN_STATUS d) F.TBL_WIN_STATUS_POSITION 0).raise (R.TBL_WIN_STATUS d) F.TBL_WIN_STATUS_BUSY = c :=
    ⟨_, rfl⟩
  have busy : c.winBusy d = true := by
    rw [← hcb]
    exact Block.flag_raise _ _ _ (by decide) (by decide)
  have pos : c.winPos d = 0 := by
    rw [← hcb, Block.winPos, Block.raise, Block.fld_setFld_apart _ _ _ _ _ (by decide) (by decide) (by decide) (by decide),
      Block.fld_setFld_same _ _ _ _ (by decide) (by decide), Nat.zero_mod]
  have engines : c.engines = b.engines := by rw [← hcb, Block.raise_engines, Block.setFld_engines]
  have hstart : b.winnowStart w d v = (c.setWord (R.TBL_WIN_LOG_HEAD d) 0).storeReg w (R.TBL_WIN_CTRL d) v := by
    unfold Block.winnowStart Block.winnowStop
    dsimp only
    rw [start, if_neg (by decide), if_neg (by simp [idle, hc, hf, ht']), go, if_neg (by decide), hcb]
  have status : ((c.setWord (R.TBL_WIN_LOG_HEAD d) 0).storeReg w (R.TBL_WIN_CTRL d) v).word (R.TBL_WIN_STATUS d) = c.word (R.TBL_WIN_STATUS d) := by
    rw [Block.word_storeReg_other, Block.word_setWord_other]
    · unfold R.TBL_WIN_STATUS R.TBL_WIN_LOG_HEAD; omega
    · unfold R.TBL_WIN_STATUS R.TBL_WIN_CTRL; omega
  rw [hstart]
  refine ⟨?_, ?_, ?_, ?_⟩
  · rw [Block.winBusy, Block.flag, Block.fld_of_word status]
    exact busy
  · rw [Block.winPos, Block.fld_of_word status]
    exact pos
  · rw [Block.word_storeReg_other, Block.word_setWord_same, Nat.zero_mod]
    unfold R.TBL_WIN_LOG_HEAD R.TBL_WIN_CTRL
    omega
  · rw [Block.storeReg_engines, Block.setWord_engines, engines]

/-! ## Comparisons (R226, R227) -/

theorem Block.dmaRead_counted (i n : Nat) : b.Counted (b.dmaRead i n) := ((Block.Counted.refl b).pmc _ _ _ _).pmc _ _ _ _

/-- Noting disagreements adds them to those that are to be looked at again. -/
theorem Block.winNote_tells (ds : List WinDiff) :
    b.WinSame (b.winNote d ds) d ∧ (ds = [] → b.winNote d ds = b) ∧ (ds ≠ [] → (b.winNote d ds).engine d = { b.engine d with
      rechecks := (b.engine d).rechecks ++ ds.map fun x => ⟨x.table, b.winClusters d, x.pos, x.cause, x.copy, b.ticks⟩ }) := by
  unfold Block.winNote
  cases ds with
  | nil => exact ⟨Block.WinSame.of_counted (Block.Counted.refl b), fun _ => rfl, fun h => absurd rfl h⟩
  | cons x l =>
    rw [if_neg (by simp)]
    have he := b.engine_modEngine d (fun e => { e with rechecks := e.rechecks ++ (x :: l).map fun x =>
      ⟨x.table, b.winClusters d, x.pos, x.cause, x.copy, b.ticks⟩ }) d
    rw [if_pos rfl] at he
    exact ⟨⟨by rw [he], by rw [he], by rw [he], by rw [he], by rw [he], fun _ _ => Block.modEngine_word .., Block.modEngine_ticks ..⟩,
      fun h => absurd h (List.cons_ne_nil _ _), fun _ => he⟩

/-- What a comparison leaves, once its read is there. -/
theorem Block.winnowCompare_goes {raw : List Byte} {sh : Vec} (hsh : Vec.ofList ((List.range 16).map fun j => leVal (slice raw (4 * j) (4 * j + 4))) = sh)
    (busy : b.winBusy d = true) (more : b.winPos d + 1 < b.winCount d) {b1 : Block} (got : b.readGot 0 (.winRead d) = some b1) :
    (b.winnowCompare d raw).winPos d = b.winPos d + 1 ∧ (b.winnowCompare d raw).winBusy d = true ∧
    (b.winDiffs d (b.winTable d) (b.winClusters d) (b.winPos d) sh = [] → (b.winnowCompare d raw).engine d = b.engine d) ∧
    (b.winDiffs d (b.winTable d) (b.winClusters d) (b.winPos d) sh ≠ [] → (b.winnowCompare d raw).engine d = { b.engine d with
      rechecks := (b.engine d).rechecks ++ (b.winDiffs d (b.winTable d) (b.winClusters d) (b.winPos d) sh).map fun x =>
        ⟨x.table, b.winClusters d, x.pos, x.cause, x.copy, b.ticks⟩ }) := by
  have dma := Block.OnDma.readGot got
  have s1 : b.WinSame b1 d := .of_onDma dma
  obtain ⟨c, hc⟩ : ∃ c, b1.dmaRead 0 64 = c := ⟨_, rfl⟩
  have counted : b1.Counted c := hc ▸ b1.dmaRead_counted 0 64
  have s2 : b.WinSame c d := s1.trans (.of_counted counted)
  have ce : c.engine d = b.engine d := by
    obtain ⟨cs, rfl⟩ := counted
    exact dma.engine d
  obtain ⟨noteSame, none_, some_⟩ := Block.winNote_tells (b := c) (d := d) (b.winDiffs d (b.winTable d) (b.winClusters d) (b.winPos d) sh)
  obtain ⟨n, hn⟩ : ∃ n, (c.winNote d (b.winDiffs d (b.winTable d) (b.winClusters d) (b.winPos d) sh)).pmc (.tbl d) 0x06 0xFFF 1 = n := ⟨_, rfl⟩
  have ncount : (c.winNote d (b.winDiffs d (b.winTable d) (b.winClusters d) (b.winPos d) sh)).Counted n := hn ▸ (Block.Counted.refl _).pmc _ _ _ _
  have s3 : b.WinSame n d := (s2.trans noteSame).trans (.of_counted ncount)
  have ne : n.engine d = (c.winNote d (b.winDiffs d (b.winTable d) (b.winClusters d) (b.winPos d) sh)).engine d := by
    obtain ⟨cs, rfl⟩ := ncount
    rfl
  obtain ⟨t, ht⟩ : ∃ t, n.setFld (R.TBL_WIN_STATUS d) F.TBL_WIN_STATUS_POSITION (b.winPos d + 1) = t := ⟨_, rfl⟩
  have count : t.winCount d = b.winCount d := by
    rw [← ht, Block.winCount, Block.fld_setFld_other]
    · exact s3.winCount
    · unfold R.TBL_WIN_COUNT R.TBL_WIN_STATUS; omega
  have hcmp : b.winnowCompare d raw = t.dispatchDma 17 := by
    unfold Block.winnowCompare
    rw [busy, Bool.not_true, if_neg Bool.false_ne_true]
    dsimp only
    rw [if_neg (by omega), hsh, b.withRead_some got, hc, s1.winDiffs, s1.winTable, s1.winClusters, hn, ht, if_neg (by rw [count]; omega)]
  have small : b.winPos d + 1 < 2 ^ 21 := lt_trans more (Bf.of_lt F.TBL_WIN_COUNT_V _)
  have status : R.TBL_WIN_STATUS d % 0x1000 ≠ 0x400 := by unfold R.TBL_WIN_STATUS tblBase dieBase; omega
  have engine : (b.winnowCompare d raw).engine d = n.engine d := by
    rw [hcmp, (Block.OnDma.dispatchDma 17).engine, ← ht, Block.setFld_engine]
  refine ⟨?_, ?_, fun h => ?_, fun h => ?_⟩
  · rw [hcmp, Block.winPos, Block.dispatchDma_fld _ _ status, ← ht, Block.fld_setFld_same _ _ _ _ (by decide) (by decide)]
    exact Nat.mod_eq_of_lt small
  · rw [hcmp, Block.winBusy, Block.flag, Block.dispatchDma_fld _ _ status, ← ht,
      Block.fld_setFld_apart _ _ _ _ _ (by decide) (by decide) (by decide) (by decide)]
    exact s3.winBusy.trans busy
  · rw [engine, ne, none_ h, ce]
  · rw [engine, ne, some_ h, ce, s2.winClusters, s2.ticks]

end

/-! ## Second readings (R227, R228) -/

section
variable {b : Block} {d : Nat}

theorem Block.winnowRecheck_early {raw : List Byte} {r : Recheck} {rest : List Recheck} (h : (b.engine d).rechecks = r :: rest)
    (early : b.recheckDue d r = false) : b.winnowRecheck d raw = b := by
  unfold Block.winnowRecheck
  simp only [h]
  rw [early]
  exact if_pos (by decide)

/-- The second reading of a disagreement that is due. -/
def Block.recheckAt (r : Recheck) (rest : List Recheck) (d : Nat) (sh : Vec) (b : Block) : Block :=
  let b := (b.modEngine d fun e => { e with rechecks := rest }).dmaRead 0 64
  (b.winAgain d r sh).foldl (fun b x => b.winReport d x) b

theorem Block.winnowRecheck_due {raw : List Byte} {sh : Vec}
    (hsh : Vec.ofList ((List.range 16).map fun j => leVal (slice raw (4 * j) (4 * j + 4))) = sh) {r : Recheck} {rest : List Recheck}
    (h : (b.engine d).rechecks = r :: rest) (due : b.recheckDue d r = true) :
    b.winnowRecheck d raw = b.withRead 0 (.winRead d) (Block.recheckAt r rest d sh) := by
  unfold Block.winnowRecheck
  simp only [h, due, hsh]
  exact if_neg (by decide)

/-- What the second reading starts from: the entry is off the list, and nothing that a comparison reads has changed. -/
theorem Block.recheck_start {b1 : Block} (got : b.readGot 0 (.winRead d) = some b1) (rest : List Recheck) :
    ∃ c, (b1.modEngine d fun e => { e with rechecks := rest }).dmaRead 0 64 = c ∧ b.WinSame c d ∧
      c.engine d = { b.engine d with rechecks := rest } ∧ c.inflight = b.inflight ∧ c.frozen d = b.frozen d ∧
      (∀ o, 0x600 ≤ o → o < 0x700 → c.ctr (tblBase d + o) = b.ctr (tblBase d + o)) := by
  have dma := Block.OnDma.readGot got
  obtain ⟨m, hm⟩ : ∃ m, b1.modEngine d (fun e => { e with rechecks := rest }) = m := ⟨_, rfl⟩
  have me : m.engine d = { b.engine d with rechecks := rest } := by rw [← hm, Block.engine_modEngine, if_pos rfl, dma.engine]
  have same : b.WinSame m d := (Block.WinSame.of_onDma dma).trans
    ⟨by rw [me, dma.engine], by rw [me, dma.engine], by rw [me, dma.engine], by rw [me, dma.engine], by rw [me, dma.engine],
      fun _ _ => by rw [← hm, Block.modEngine_word], by rw [← hm, Block.modEngine_ticks]⟩
  have inflight : m.inflight = b.inflight := by rw [← hm, Block.modEngine_inflight, dma.inflight]
  have frozen : m.frozen d = b.frozen d := by rw [← hm, Block.modEngine_frozen, dma.frozen]
  have ctrs (o : Nat) (low : 0x600 ≤ o) (high : o < 0x700) : (m.dmaRead 0 64).ctr (tblBase d + o) = b.ctr (tblBase d + o) := by
    have away (ev n : Nat) (e : Block) : (e.pmc .hif ev 0 n).ctr (tblBase d + o) = e.ctr (tblBase d + o) :=
      e.ctr_pmc_other _ _ _ _ fun k hk h => by
        have h' : tblBase d + o = hifBase + 0x6000 + 0x40 + 8 * k := h
        unfold tblBase dieBase hifBase at h'
        omega
    rw [Block.dmaRead, away, away, ← hm, Block.modEngine_ctr, dma.ctr]
    unfold tblBase dieBase
    omega
  have counted := m.dmaRead_counted 0 64
  rw [hm]
  refine ⟨m.dmaRead 0 64, rfl, same.trans (.of_counted counted), ?_, ?_, ?_, ctrs⟩
  · obtain ⟨cs, h⟩ := counted
    rw [h, ← me]
    rfl
  · obtain ⟨cs, h⟩ := counted
    rw [h, ← inflight]
  · obtain ⟨cs, h⟩ := counted
    rw [h, ← frozen]
    rfl

theorem Block.winnowRecheck_gone {raw : List Byte} {sh : Vec}
    (hsh : Vec.ofList ((List.range 16).map fun j => leVal (slice raw (4 * j) (4 * j + 4))) = sh) {r : Recheck} {rest : List Recheck}
    (h : (b.engine d).rechecks = r :: rest) (due : b.recheckDue d r = true) {b1 : Block} (got : b.readGot 0 (.winRead d) = some b1)
    (gone : b.winAgain d r sh = []) :
    (b.winnowRecheck d raw).engine d = { b.engine d with rechecks := rest } ∧ (b.winnowRecheck d raw).inflight = b.inflight ∧
    (b.winnowRecheck d raw).ctr (R.TBL_WIN_MISMATCHES d) = b.ctr (R.TBL_WIN_MISMATCHES d) := by
  obtain ⟨c, hc, same, engine, inflight, -, ctrs⟩ := Block.recheck_start got rest
  have hr : b.winnowRecheck d raw = c.dispatchDma 17 := by
    rw [Block.winnowRecheck_due hsh h due, b.withRead_some got, Block.recheckAt, hc, same.winAgain, gone]
    rfl
  have dma : c.OnDma (c.dispatchDma 17) := .dispatchDma 17
  rw [hr]
  refine ⟨by rw [dma.engine, engine], by rw [dma.inflight, inflight], ?_⟩
  rw [dma.ctr _ (by unfold R.TBL_WIN_MISMATCHES tblBase dieBase; omega)]
  exact ctrs 0x648 (by decide) (by decide)

theorem mismatches_apart : R.TBL_WIN_MISMATCHES d % 0x1000 ≠ 0x888 := by unfold R.TBL_WIN_MISMATCHES tblBase dieBase; omega

/-- A disagreement that persists is reported: counted, and the number of the next record goes on. -/
theorem Block.winReport_tells (hd : d < 4) (run : b.frozen d = false) (x : WinDiff) :
    ((b.winReport d x).engine d).rechecks = (b.engine d).rechecks ∧ ((b.winReport d x).engine d).winSeq = (b.engine d).winSeq + 1 ∧
    (b.winReport d x).ctr (R.TBL_WIN_MISMATCHES d) = (b.ctr (R.TBL_WIN_MISMATCHES d) + 1) % 2 ^ 64 := by
  unfold Block.winReport
  extract_lets size head log b1 b2 b3 recent
  have dma : b.OnDma (b.pushJob 0 .winnow [(log + head % size * 160, b.winRecord d x)]) := .pushJob _ _ _
  have e1 : b1.engine d = b.engine d := (Block.setWord_engine ..).trans (dma.engine d)
  have c1 : b1.ctr (R.TBL_WIN_MISMATCHES d) = b.ctr (R.TBL_WIN_MISMATCHES d) := (Block.setWord_ctr ..).trans (dma.ctr _ mismatches_apart)
  have f1 : b1.frozen d = false := (Block.setWord_frozen ..).trans ((dma.frozen d).trans run)
  have e2 : b2.engine d = b.engine d := by
    show Block.engine (if _ then _ else b1) d = _
    split
    · rw [Block.raise_engine, e1]
    · exact e1
  have c2 : b2.ctr (R.TBL_WIN_MISMATCHES d) = b.ctr (R.TBL_WIN_MISMATCHES d) := by
    show Block.ctr (if _ then _ else b1) _ = _
    split
    · rw [Block.raise_ctr, c1]
    · exact c1
  have f2 : b2.frozen d = false := by
    show Block.frozen (if _ then _ else b1) d = _
    split
    · rw [Block.raise_frozen, f1]
    · exact f1
  have e3 : b3.engine d = { b.engine d with winSeq := (b.engine d).winSeq + 1 } := by
    refine ((b2.count (R.TBL_WIN_MISMATCHES d) 1).engine_modEngine d _ d).trans ?_
    rw [if_pos rfl, Block.count_engine, e2]
  have c3 : b3.ctr (R.TBL_WIN_MISMATCHES d) = (b.ctr (R.TBL_WIN_MISMATCHES d) + 1) % 2 ^ 64 := by
    refine (Block.modEngine_ctr ..).trans ?_
    have hs : b2.stopped (R.TBL_WIN_MISMATCHES d) = false := (b2.stopped_tbl hd (by decide)).trans f2
    rw [Block.ctr_count_same _ _ _ hs, c2]
  split
  · exact ⟨by rw [e3], by rw [e3], c3⟩
  · refine ⟨?_, ?_, ?_⟩
    · rw [Block.engine_modEngine, if_pos rfl, Block.sendAs_engine, e3]
    · rw [Block.engine_modEngine, if_pos rfl, Block.sendAs_engine, e3]
    · rw [Block.modEngine_ctr, Block.sendAs_ctr, c3]

theorem Block.winnowRecheck_stays {raw : List Byte} {sh : Vec}
    (hsh : Vec.ofList ((List.range 16).map fun j => leVal (slice raw (4 * j) (4 * j + 4))) = sh) {r : Recheck} {rest : List Recheck}
    (h : (b.engine d).rechecks = r :: rest) (due : b.recheckDue d r = true) {b1 : Block} (got : b.readGot 0 (.winRead d) = some b1) {x : WinDiff}
    (stays : b.winAgain d r sh = [x]) (hd : d < 4) (run : b.frozen d = false) :
    ((b.winnowRecheck d raw).engine d).rechecks = rest ∧ ((b.winnowRecheck d raw).engine d).winSeq = (b.engine d).winSeq + 1 ∧
    (b.winnowRecheck d raw).ctr (R.TBL_WIN_MISMATCHES d) = (b.ctr (R.TBL_WIN_MISMATCHES d) + 1) % 2 ^ 64 := by
  obtain ⟨c, hc, same, engine, -, frozen, ctrs⟩ := Block.recheck_start got rest
  have hr : b.winnowRecheck d raw = (c.winReport d x).dispatchDma 17 := by
    rw [Block.winnowRecheck_due hsh h due, b.withRead_some got, Block.recheckAt, hc, same.winAgain, stays, List.foldl_cons, List.foldl_nil]
  obtain ⟨left, seq, counted⟩ := Block.winReport_tells hd (frozen.trans run) x
  have dma : (c.winReport d x).OnDma ((c.winReport d x).dispatchDma 17) := .dispatchDma 17
  rw [hr]
  refine ⟨by rw [dma.engine, left, engine], by rw [dma.engine, seq, engine], ?_⟩
  rw [dma.ctr _ mismatches_apart, counted]
  exact congrArg (fun n => (n + 1) % 2 ^ 64) (ctrs 0x648 (by decide) (by decide))

/-! ## A shadow read that fails (R228) -/

theorem Block.winFailed_tells (t i : Nat) :
    (b.winFailed d t i).winBusy d = false ∧ (b.winFailed d t i).flag (R.TBL_WIN_STATUS d) F.TBL_WIN_STATUS_DMA_ERR = true ∧
    (b.winFailed d t i).engines = b.engines := by
  unfold Block.winFailed
  dsimp only
  obtain ⟨c, hc⟩ : ∃ c, (b.lower (R.TBL_WIN_STATUS d) F.TBL_WIN_STATUS_BUSY).raise (R.TBL_WIN_STATUS d) F.TBL_WIN_STATUS_DMA_ERR = c := ⟨_, rfl⟩
  have busy : c.winBusy d = false := by
    rw [← hc, Block.winBusy, Block.flag, Block.raise, Block.fld_setFld_apart _ _ _ _ _ (by decide) (by decide) (by decide) (by decide)]
    exact Block.flag_lower _ _ _ (by decide) (by decide)
  have err : c.flag (R.TBL_WIN_STATUS d) F.TBL_WIN_STATUS_DMA_ERR = true := hc ▸ Block.flag_raise _ _ _ (by decide) (by decide)
  have engines : c.engines = b.engines := by rw [← hc, Block.raise_engines, Block.lower_engines]
  rw [hc, Block.dmaFailed]
  refine ⟨?_, ?_, ?_⟩
  · rw [Block.winBusy, Block.sendAs_flag, Block.sendLimited_flag, Block.count_flag]
    exact busy
  · rw [Block.sendAs_flag, Block.sendLimited_flag, Block.count_flag, err]
  · rw [Block.sendAs_engines, Block.sendLimited_engines, Block.count_engines, engines]

theorem Block.winnowDma_busy (busy : b.winBusy d = true) {b1 : Block} (got : b.readGot 0 (.winRead d) = some b1) :
    (b.winnowDma d).winBusy d = false ∧ (b.winnowDma d).flag (R.TBL_WIN_STATUS d) F.TBL_WIN_STATUS_DMA_ERR = true ∧
    (b.winnowDma d).engines = b.engines := by
  have hr : b.winnowDma d = (b1.winFailed d (b1.winTable d) (b1.winPos d)).dispatchDma 17 := by
    unfold Block.winnowDma
    rw [busy, if_pos rfl, b.withRead_some got]
  obtain ⟨idle, err, engines⟩ := Block.winFailed_tells (b := b1) (d := d) (b1.winTable d) (b1.winPos d)
  obtain ⟨c, hc⟩ : ∃ c, b1.winFailed d (b1.winTable d) (b1.winPos d) = c := ⟨_, rfl⟩
  rw [hc] at hr idle err engines
  have dma : c.OnDma (c.dispatchDma 17) := .dispatchDma 17
  have status : R.TBL_WIN_STATUS d % 0x1000 ≠ 0x400 := by unfold R.TBL_WIN_STATUS tblBase dieBase; omega
  rw [hr]
  refine ⟨?_, ?_, ?_⟩
  · rw [Block.winBusy, Block.flag, dma.fld status]
    exact idle
  · rw [Block.flag, dma.fld status]
    exact err
  · rw [dma.engines, engines, (Block.OnDma.readGot got).engines]

theorem Block.winnowDma_idle (idle : b.winBusy d = false) (none_ : (b.engine d).rechecks = []) : b.winnowDma d = b := by
  unfold Block.winnowDma
  rw [idle, if_neg Bool.false_ne_true]
  simp only [none_]
end

/-- Settles O26: each read is made where `Block.withRead` has an engine for it, and what it does then reads what b reads. -/
theorem winnowComparesStopsAndRechecks : Obligations.WinnowComparesStopsAndRechecks := by
  unfold Obligations.WinnowComparesStopsAndRechecks
  refine ⟨fun b w d v reach => ⟨fun start no => ?_, fun start go idle hc hf ht => ?_, fun stop => ?_⟩, fun b d raw _ => ⟨fun busy more => ?_,
    fun r rest queue => ?_⟩, fun b d => ⟨fun busy b1 got => ?_, fun idle none_ => ?_⟩⟩
  · exact takes_congr (u := b.winnowStart w d v.toNat) (takes_of_write reach fun _ => rfl) (Block.winnowStart_refused w start no)
  · exact ⟨b.winnowStart w d v.toNat, takes_of_write reach fun _ => rfl, Block.winnowStart_starts w start go idle hc hf ht⟩
  · exact ⟨b.winnowStop w d v.toNat, takes_of_write reach fun _ => rfl, Block.winnowStop_tells w stop⟩
  · have hsh : Vec.ofList ((List.range 16).map fun j => leVal (slice raw (4 * j) (4 * j + 4))) =
        Vec.ofList ((List.range 16).map fun j => leVal ((raw.drop (4 * j)).take 4)) := by simp only [slice_add]
    refine ⟨fun waits => ?_, fun b1 got => ?_⟩
    · refine takes_congr (u := b.winnowCompare d raw) (fun _ => rfl) ?_
      unfold Block.winnowCompare
      rw [busy, Bool.not_true, if_neg Bool.false_ne_true]
      dsimp only
      rw [if_neg (by omega), b.withRead_none waits]
    · exact ⟨b.winnowCompare d raw, fun _ => rfl, Block.winnowCompare_goes hsh busy more got⟩
  · have hsh : Vec.ofList ((List.range 16).map fun j => leVal (slice raw (4 * j) (4 * j + 4))) =
        Vec.ofList ((List.range 16).map fun j => leVal ((raw.drop (4 * j)).take 4)) := by simp only [slice_add]
    have is_due : b.recheckDue d r = decide (b.fld (R.TBL_WIN_RECHECK d) F.TBL_WIN_RECHECK_V * 1000 ≤ b.ticks - r.at_) := rfl
    refine ⟨fun early => ?_, fun due waits => ?_, fun b1 due got gone => ?_, fun b1 x due got stays run => ?_⟩
    · exact takes_congr (u := b.winnowRecheck d raw) (fun _ => rfl) (Block.winnowRecheck_early queue (is_due.trans (decide_eq_false early)))
    · exact takes_congr (u := b.winnowRecheck d raw) (fun _ => rfl)
        ((Block.winnowRecheck_due hsh queue (is_due.trans (decide_eq_true due))).trans (b.withRead_none waits _))
    · exact ⟨b.winnowRecheck d raw, fun _ => rfl, Block.winnowRecheck_gone hsh queue (is_due.trans (decide_eq_true due)) got gone⟩
    · exact ⟨b.winnowRecheck d raw, fun _ => rfl,
        Block.winnowRecheck_stays hsh queue (is_due.trans (decide_eq_true due)) got stays d.isLt run⟩
  · exact ⟨b.winnowDma d, fun _ => rfl, Block.winnowDma_busy busy got⟩
  · exact takes_congr (u := b.winnowDma d) (fun _ => rfl) (Block.winnowDma_idle idle none_)

end Sys2Proof.Machine
end

section
/-!
PROOFS. One reference tick (assumption 8): what passes by time alone changes the counters, the age clocks and the pseudo-channels.
-/
namespace Sys2Proof.Machine
open Sys2Proof

/-- The programmable counters of a unit lie from offset 0x40 of a page on. -/
theorem PUnit.base_page (u : PUnit) : u.base % 0x1000 = 0 ∨ u.base % 0x1000 = 0xF00 := by
  unfold PUnit.base hifBase tblBase hbmBase xepBase clsBase prtBase rgnBase macBase dieBase
  cases u <;> dsimp only <;> omega

theorem Block.ctr_pmc_page (b : Block) (u : PUnit) (ev q n : Nat) {a : Nat} (h : a % 0x1000 < 0x40) : (b.pmc u ev q n).ctr a = b.ctr a :=
  b.ctr_pmc_other u ev q n fun k hk e => by
    have := u.base_page
    omega

/-- From b to c time alone passed: only counters, age clocks and pseudo-channels changed, no stack came into use, and where H holds the
counters at the foot of a page stand. -/
structure Block.Passed (H : Prop) (b c : Block) : Prop where
  only : ∃ cs es hs, c = { b with ctrs := cs, engines := es, hbms := hs }
  noStack : b.hbms = [] → c.hbms = []
  ctr : H → ∀ a, a % 0x1000 < 0x40 → c.ctr a = b.ctr a

namespace Block.Passed
variable {H : Prop} {b c d : Block}

theorem refl (H : Prop) (b : Block) : b.Passed H b := ⟨⟨_, _, _, rfl⟩, fun h => h, fun _ _ _ => rfl⟩
theorem trans (h : b.Passed H c) (h' : c.Passed H d) : b.Passed H d := by
  refine ⟨?_, fun e => h'.noStack (h.noStack e), fun k a ha => (h'.ctr k a ha).trans (h.ctr k a ha)⟩
  obtain ⟨cs, es, hs, rfl⟩ := h.only
  obtain ⟨cs', es', hs', rfl⟩ := h'.only
  exact ⟨_, _, _, rfl⟩
theorem of_counted (h : b.Counted c) (ctr : H → ∀ a, a % 0x1000 < 0x40 → c.ctr a = b.ctr a) : b.Passed H c := by
  refine ⟨?_, fun e => ?_, ctr⟩
  · obtain ⟨cs, rfl⟩ := h
    exact ⟨_, _, _, rfl⟩
  · obtain ⟨cs, rfl⟩ := h
    exact e
theorem pmc (b : Block) (u : PUnit) (ev q n : Nat) : b.Passed H (b.pmc u ev q n) :=
  of_counted ((Block.Counted.refl b).pmc u ev q n) fun _ _ ha => b.ctr_pmc_page u ev q n ha
theorem count (b : Block) (x n : Nat) (apart : H → 0x40 ≤ x % 0x1000) : b.Passed H (b.count x n) :=
  of_counted ((Block.Counted.refl b).count x n) fun h a ha => b.ctr_count_other n fun e => by
    have := apart h
    omega
theorem modEngine (b : Block) (d : Nat) (f : Engine → Engine) : b.Passed H (b.modEngine d f) :=
  ⟨⟨_, _, _, rfl⟩, fun h => h, fun _ _ _ => rfl⟩
theorem ite (h : b.Passed H c) (h' : b.Passed H d) (p : Prop) [Decidable p] : b.Passed H (if p then c else d) := by
  split
  · exact h
  · exact h'
theorem foldl {α : Type} {f : Block → α → Block} {l : List α} (h : ∀ (c : Block) x, x ∈ l → c.Passed H (f c x)) : b.Passed H (l.foldl f b) := by
  induction l generalizing b with
  | nil => exact refl H b
  | cons x l ih =>
    rw [List.foldl_cons]
    exact (h b x (List.mem_cons_self ..)).trans (ih fun c y hy => h c y (List.mem_cons_of_mem _ hy))
theorem each {n : Nat} {f : Block → Nat → Block} (h : ∀ (c : Block) k, c.Passed H (f c k)) : b.Passed H (b.each n f) := foldl fun c k _ => h c k
end Block.Passed

section
variable {H : Prop} (b : Block)

theorem Block.tickStalls_passed : b.Passed H b.tickStalls := by
  refine Block.Passed.foldl fun c p _ => (Block.Passed.count c _ _ fun _ => ?_).ite (Block.Passed.refl H c) _
  have page : ∀ o, 0x40 ≤ o → o < 0x1000 → 0x40 ≤ (prtBase p + o) % 0x1000 := fun o low high => by
    unfold prtBase rgnBase dieBase
    omega
  unfold Block.stallCounter
  dsimp only
  split
  · exact page _ (by decide) (by decide)
  · split
    · exact page _ (by decide) (by decide)
    · exact page _ (by decide) (by decide)

/-- No frame waits in its pipe, for a bank or for room. -/
def Block.NoneWait (b : Block) : Prop := ∀ e ∈ b.frames, e.2.loc ≠ .llWait ∧ e.2.asks.getD [] = []

theorem Block.tickBanks_passed : b.Passed b.NoneWait b.tickBanks := by
  refine Block.Passed.foldl fun c e he => Block.Passed.foldl fun c' a ha => ?_
  have absurd_ : ¬ b.NoneWait := fun h => by
    rw [(h e he).2] at ha
    cases ha
  unfold Block.askWaits
  cases a with
  | em _ => exact (Block.Passed.count c' _ _ fun h => absurd h absurd_).trans (.pmc _ _ _ _ _)
  | lpm _ _ => exact Block.Passed.count c' _ _ fun h => absurd h absurd_
  | acl _ _ _ _ => exact .refl _ c'

theorem Block.tickWaits_passed : b.Passed b.NoneWait b.tickWaits := by
  refine Block.Passed.foldl fun c e he => ?_
  split
  · next wait =>
    refine Block.Passed.foldl fun c' G _ => Block.Passed.count c' _ _ fun h => ?_
    exact absurd (beq_iff_eq.mp wait) (h e he).1
  · exact .refl _ c

theorem Block.tickAges_passed : b.Passed H b.tickAges :=
  Block.Passed.each fun c _ => (Block.Passed.refl H c).ite (.modEngine c _ _) _

theorem Block.tickDies_passed : b.Passed H b.tickDies := by
  unfold Block.tickDies
  extract_lets b1 b2 b3 b4
  have h1 : b.Passed H b1 := (Block.Passed.pmc b _ _ _ _).ite (.refl H b) _
  have h2 : b1.Passed H b2 := Block.Passed.each fun c d => by
    extract_lets c1
    exact ((Block.Passed.pmc c _ _ _ _).ite (.refl H c) _).trans ((Block.Passed.pmc c1 _ _ _ _).ite (.refl H c1) _)
  have h3 : b2.Passed H b3 := Block.Passed.foldl fun c _ _ => (Block.Passed.pmc c _ _ _ _).ite (.refl H c) _
  have h4 : b3.Passed H b4 := Block.Passed.each fun c _ => (Block.Passed.pmc c _ _ _ _).ite (.refl H c) _
  exact (((h1.trans h2).trans h3).trans h4).trans (Block.Passed.foldl fun c _ _ => (Block.Passed.pmc c _ _ _ _).ite (.refl H c) _)

theorem Block.tickPause_passed : b.Passed H b.tickPause := by
  refine Block.Passed.foldl fun c e _ => Block.Passed.each fun c' k => ?_
  extract_lets c1
  exact ((Block.Passed.pmc c' _ _ _ _).ite (.refl H c') _).trans ((Block.Passed.pmc c1 _ _ _ _).ite (.refl H c1) _)

theorem Block.hbmCount_counted (d s : Nat) (x : HbmCmd) :
    b.Counted (b.hbmCount d s x) ∧ ∀ a, a % 0x1000 < 0x40 → (b.hbmCount d s x).ctr a = b.ctr a := by
  unfold Block.hbmCount
  cases x with
  | none => exact ⟨.refl b, fun _ _ => rfl⟩
  | activate => exact ⟨(Block.Counted.refl b).pmc _ _ _ _, fun a ha => b.ctr_pmc_page _ _ _ _ ha⟩
  | access r hit =>
    dsimp only
    split
    · exact ⟨((Block.Counted.refl b).pmc _ _ _ _).pmc _ _ _ _, fun a ha => by rw [Block.ctr_pmc_page _ _ _ _ _ ha, Block.ctr_pmc_page _ _ _ _ _ ha]⟩
    · exact ⟨(Block.Counted.refl b).pmc _ _ _ _, fun a ha => b.ctr_pmc_page _ _ _ _ ha⟩

/-- A pseudo-channel takes a turn. -/
def Block.hbmTurn (b : Block) (e : Nat × HbmChan) : Block :=
  let d := e.1 / 2 ^ 17
  let a := R.HBM_CTRL_CFG d
  let r := e.2.serve b.ticks (b.fld a F.HBM_CTRL_CFG_HIT_RUN) (b.fld a F.HBM_CTRL_CFG_PAGE_IDLE)
  { b.hbmCount d (e.1 / 2 ^ 16 % 2) r.1 with hbms := SMap.set {} b.hbms e.1 r.2 }

theorem Block.hbmTurn_tells (e : Nat × HbmChan) :
    (∃ cs hs, b.hbmTurn e = { b with ctrs := cs, hbms := hs }) ∧ ∀ a, a % 0x1000 < 0x40 → (b.hbmTurn e).ctr a = b.ctr a := by
  obtain ⟨⟨cs, only⟩, ctrs⟩ := b.hbmCount_counted (e.1 / 2 ^ 17) (e.1 / 2 ^ 16 % 2)
    (e.2.serve b.ticks (b.fld (R.HBM_CTRL_CFG (e.1 / 2 ^ 17)) F.HBM_CTRL_CFG_HIT_RUN)
      (b.fld (R.HBM_CTRL_CFG (e.1 / 2 ^ 17)) F.HBM_CTRL_CFG_PAGE_IDLE)).1
  unfold Block.hbmTurn
  dsimp only
  rw [only] at ctrs ⊢
  exact ⟨⟨_, _, rfl⟩, fun a ha => ctrs a ha⟩

theorem Block.hbmTurns_tell (l : List (Nat × HbmChan)) :
    (∃ cs hs, l.foldl Block.hbmTurn b = { b with ctrs := cs, hbms := hs }) ∧
    ∀ a, a % 0x1000 < 0x40 → (l.foldl Block.hbmTurn b).ctr a = b.ctr a := by
  induction l generalizing b with
  | nil => exact ⟨⟨_, _, rfl⟩, fun _ _ => rfl⟩
  | cons e l ih =>
    rw [List.foldl_cons]
    obtain ⟨⟨cs, hs, only⟩, ctrs⟩ := b.hbmTurn_tells e
    obtain ⟨⟨cs', hs', only'⟩, ctrs'⟩ := ih (b.hbmTurn e)
    exact ⟨⟨cs', hs', by rw [only', only]⟩, fun a ha => (ctrs' a ha).trans (ctrs a ha)⟩

theorem Block.tickHbm_passed : b.Passed H b.tickHbm := by
  obtain ⟨⟨cs, hs, only⟩, ctrs⟩ := b.hbmTurns_tell b.hbms
  refine ⟨⟨cs, b.engines, hs, only⟩, fun h => ?_, fun _ a ha => ctrs a ha⟩
  unfold Block.tickHbm
  rw [h]
  exact h

/-! ## HELD_TICKS (R371) -/

/-- The dies that are held count their ticks; after n of the four. -/
theorem Block.tickHeld_each (n : Nat) :
    b.Counted (b.each n fun b d => if b.frozen d then b.setCtr (R.DIE_HELD_TICKS d) (b.ctr (R.DIE_HELD_TICKS d) + 1) else b) ∧
    ∀ d, (b.each n fun b d => if b.frozen d then b.setCtr (R.DIE_HELD_TICKS d) (b.ctr (R.DIE_HELD_TICKS d) + 1) else b).ctr (R.DIE_HELD_TICKS d) =
      if d < n ∧ b.frozen d = true then (b.ctr (R.DIE_HELD_TICKS d) + 1) % 2 ^ 64 else b.ctr (R.DIE_HELD_TICKS d) := by
  induction n with
  | zero => exact ⟨.refl b, fun d => by rw [if_neg (by omega)]; rfl⟩
  | succ n ih =>
    rw [Block.each_succ]
    obtain ⟨counted, ctrs⟩ := ih
    obtain ⟨c, hc⟩ : ∃ c, (b.each n fun b d => if b.frozen d then b.setCtr (R.DIE_HELD_TICKS d) (b.ctr (R.DIE_HELD_TICKS d) + 1) else b) = c :=
      ⟨_, rfl⟩
    rw [hc] at counted ctrs ⊢
    have frozen : c.frozen n = b.frozen n := by
      obtain ⟨cs, rfl⟩ := counted
      rfl
    have other {d : Nat} (h : d ≠ n) : (if d < n + 1 ∧ b.frozen d = true then (b.ctr (R.DIE_HELD_TICKS d) + 1) % 2 ^ 64
        else b.ctr (R.DIE_HELD_TICKS d)) = c.ctr (R.DIE_HELD_TICKS d) := by
      rw [ctrs]
      simp only [show d < n + 1 ↔ d < n by omega]
    rw [frozen]
    split
    · next held =>
      refine ⟨counted.trans ⟨_, rfl⟩, fun d => ?_⟩
      rw [Block.ctr_setCtr]
      by_cases h : d = n
      · rw [h, if_pos rfl, if_pos ⟨by omega, held⟩, ctrs, if_neg (by omega)]
      · rw [if_neg (by unfold R.DIE_HELD_TICKS dieBase; omega), other h]
    · next run =>
      refine ⟨counted, fun d => ?_⟩
      by_cases h : d = n
      · rw [h, if_neg (fun e => run e.2), ctrs, if_neg (by omega)]
      · rw [other h]
end

/-- One tick of a block whose clock runs. -/
theorem Block.ticked (b : Block) : ∃ t, b.tickHeld.tickStalls.tickBanks.tickWaits.tickAges.tickDies.tickPause.tickHbm = t ∧
    (∃ cs es hs, t = { b with ctrs := cs, engines := es, hbms := hs }) ∧ (b.hbms = [] → t.hbms = []) ∧
    (b.NoneWait → ∀ d, d < 4 → t.ctr (R.DIE_HELD_TICKS d) =
      if b.frozen d then (b.ctr (R.DIE_HELD_TICKS d) + 1) % 2 ^ 64 else b.ctr (R.DIE_HELD_TICKS d)) := by
  obtain ⟨counted, held⟩ := b.tickHeld_each 4
  obtain ⟨c, hc⟩ : ∃ c, b.tickHeld = c := ⟨_, rfl⟩
  rw [show (b.each 4 fun b d => if b.frozen d then b.setCtr (R.DIE_HELD_TICKS d) (b.ctr (R.DIE_HELD_TICKS d) + 1) else b) = c from hc]
    at counted held
  have frames {e f : Block} {H : Prop} (h : e.Passed H f) : f.NoneWait ↔ e.NoneWait := by
    obtain ⟨cs, es, hs, rfl⟩ := h.only
    rfl
  have stalls := c.tickStalls_passed (H := c.NoneWait)
  obtain ⟨x, hx⟩ : ∃ x, c.tickStalls = x := ⟨_, rfl⟩
  rw [hx] at stalls
  have banks := x.tickBanks_passed
  obtain ⟨y, hy⟩ : ∃ y, x.tickBanks = y := ⟨_, rfl⟩
  rw [hy] at banks
  have waits := y.tickWaits_passed
  obtain ⟨z, hz⟩ : ∃ z, y.tickWaits = z := ⟨_, rfl⟩
  rw [hz] at waits
  rw [frames banks, frames stalls] at waits
  rw [frames stalls] at banks
  have ages := z.tickAges_passed (H := c.NoneWait)
  have dies := z.tickAges.tickDies_passed (H := c.NoneWait)
  have pause := z.tickAges.tickDies.tickPause_passed (H := c.NoneWait)
  have hbm := z.tickAges.tickDies.tickPause.tickHbm_passed (H := c.NoneWait)
  have all := (((((stalls.trans banks).trans waits).trans ages).trans dies).trans pause).trans hbm
  rw [hc, hx, hy, hz]
  obtain ⟨t, ht⟩ : ∃ t, z.tickAges.tickDies.tickPause.tickHbm = t := ⟨_, rfl⟩
  rw [ht] at all ⊢
  obtain ⟨cs, es, hs, only⟩ := all.only
  obtain ⟨cs', rfl⟩ := counted
  refine ⟨t, rfl, ⟨cs, es, hs, only⟩, all.noStack, fun none_ d hd => ?_⟩
  rw [all.ctr none_ _ (by unfold R.DIE_HELD_TICKS dieBase; omega), held]
  simp only [hd, true_and]

/-- Settles O57: the boot sequencer's move, then `Block.ticked`. -/
theorem aStepOnAnEmptyQueueIsOneTick : Obligations.AStepOnAnEmptyQueueIsOneTick := by
  unfold Obligations.AStepOnAnEmptyQueueIsOneTick
  intro b
  have moved := b.bootMove_only
  have still (h : b.boot.phase ≠ .fuses) (h' : b.boot.phase ≠ .flash) : b.bootMove = b := by
    unfold Block.bootMove
    split
    · next e => exact absurd e h
    · next e => exact absurd e h'
    · rfl
  dsimp only
  obtain ⟨u, hu⟩ : ∃ u, b.bootMove = u := ⟨_, rfl⟩
  rw [hu] at moved still ⊢
  refine ⟨still, moved, fun lost => ?_, fun run => ?_⟩
  · have hlost : u.refLost = true := by rw [moved, lost]
    simp only [step, Block.tick, hu, hlost, if_true]
  · have hrun : u.refLost = false := by rw [moved, run]
    obtain ⟨n, hn⟩ : ∃ n, u.nextTick = n := ⟨_, rfl⟩
    have next : n = { u with ticks := u.ticks + 1, baseA := u.baseA.tick (u.ticks + 1), baseB := u.baseB.tick (u.ticks + 1) } := by
      rw [← hn, Block.nextTick, hrun, if_neg Bool.false_ne_true]
    obtain ⟨t, ht, ⟨cs, es, hs, only⟩, noStack, held⟩ := n.ticked
    refine ⟨t, ?_, ?_, ?_, ?_, ?_, fun h => noStack ?_, fun waits d => ?_⟩
    · simp only [step, Block.tick, hu, hrun, Bool.false_eq_true, if_false, hn, ht]
    · rw [only, next, moved]
    · rw [only, next, moved]
    · rw [only, next, moved]
    · rw [only, next]
    · rw [next, moved, h]
    · have same : n.NoneWait := by
        rw [next, moved]
        exact waits
      have frozen : n.frozen d = b.frozen d := by
        rw [next, moved]
        rfl
      have ctr (a : Nat) : n.ctr a = b.ctr a := by
        rw [next, moved]
        rfl
      rw [held same d d.isLt, frozen, ctr]

end Sys2Proof.Machine
end

section
/-!
PROOFS. Reads (R11 to R15, R369): which register a read reaches, and what it answers and latches.
-/
namespace Sys2Proof.Machine
open Sys2Proof

/-! ## The register that a read reaches -/

/-- A register found is one that its block lists, at the place that its indices name. -/
theorem findIn_place {k : Blk} {i o : Nat} {ds : List RegDesc} {h : RegHit} (hit : findIn k i o ds = some h) :
    h.blk = k ∧ h.inst = i ∧ h.off = o ∧ h.desc ∈ ds ∧ h.desc.locate o = some (h.i, h.j, h.word) := by
  induction ds with
  | nil => cases hit
  | cons d ds ih =>
    unfold findIn at hit
    split at hit
    · rename_i x y n e
      cases hit
      exact ⟨rfl, rfl, rfl, List.mem_cons_self, e⟩
    · obtain ⟨hk, hi, ho, hd, hl⟩ := ih hit
      exact ⟨hk, hi, ho, List.mem_cons_of_mem _ hd, hl⟩

theorem findReg_place {a : Nat} {h : RegHit} (hit : findReg a = some h) :
    decodeAddr a = some (h.blk, h.inst, h.off) ∧ h.desc ∈ blkRegs h.blk ∧ h.desc.locate h.off = some (h.i, h.j, h.word) := by
  unfold findReg at hit
  split at hit
  · rename_i k i o e
    obtain ⟨rfl, rfl, rfl, hd, hl⟩ := findIn_place hit
    exact ⟨e, hd, hl⟩
  · cases hit

/-- Where a located offset lies. -/
theorem RegDesc.locate_some {d : RegDesc} {o i j n : Nat} (h : d.locate o = some (i, j, n)) :
    d.off ≤ o ∧ i = (o - d.off) / d.s1 ∧ i < d.n1 ∧ j = (o - d.off) % d.s1 / d.s2 ∧ j < d.n2 ∧
      (d.wide = false → (o - d.off) % d.s1 % d.s2 = 0) := by
  unfold RegDesc.locate at h
  split at h
  · cases h
  · dsimp only at h
    split at h
    · rename_i hlo hc
      cases h
      simp only [Bool.and_eq_true, Bool.or_eq_true, decide_eq_true_eq, beq_iff_eq] at hc
      obtain ⟨⟨hi, hj⟩, hn⟩ := hc
      refine ⟨by omega, rfl, hi, rfl, hj, fun hw => ?_⟩
      simpa [hw] using hn
    · cases h

/-- No block lists a register with more than 8,192 indices; below the L-dies only the host interface's rings, of 16 bytes each, have more
than 256. -/
theorem blkRegs_count (k : Blk) : ∀ d ∈ blkRegs k, d.n1 ≤ 8192 := by
  cases k <;> decide +kernel
theorem blkRegs_short (k : Blk) : k ∈ [Blk.hif, .rgn, .lay] ∨ ∀ d ∈ blkRegs k, d.n1 ≤ 256 := by
  cases k <;> decide +kernel
theorem hifRegs_rings : ∀ d ∈ blkRegs .hif, d.n1 ≤ 256 ∨
    (d.s1 = 16 ∧ d.s2 = 4 ∧ d.n2 = 1 ∧ d.wide = false ∧ (d.off / 16 = 0x2000 ∨ d.off / 16 = 0x4000)) := by
  decide +kernel
/-- The register map holds no field that a read clears. -/
theorem blkRegs_noRc (k : Blk) : ∀ d ∈ blkRegs k, ∀ f ∈ d.flds, f.acc ≠ .rc := by
  cases k <;> decide +kernel

/-- A register outside TIM is none of the time registers of the base that its index names. -/
theorem findReg_timeApart {a : Nat} {h : RegHit} (hit : findReg a = some h) (hk : h.blk ≠ .tim) {o : Nat} (ho : 0x20 ≤ o ∧ o ≤ 0x28) :
    a ≠ timBase + o + h.i * 0x100 := by
  obtain ⟨hdec, hd, hl⟩ := findReg_place hit
  obtain ⟨hlo, hi, hin, hj, hjn, hw⟩ := RegDesc.locate_some hl
  obtain ⟨hcount, hsize, hbase⟩ := base_of_decodeAddr hdec
  unfold timBase
  by_cases hring : h.blk = .hif
  · rw [hring] at hd hbase hsize
    dsimp only [Blk.base, Blk.size] at hbase hsize
    rcases hifRegs_rings _ hd with hn | ⟨hs, ht, hn, hwide, hoff⟩
    · omega
    · rw [hs, ht] at hj hw
      rw [hs] at hi
      rw [hn] at hjn
      have := hw hwide
      omega
  · have hmany := blkRegs_count _ _ hd
    have hfew : h.blk ∈ [Blk.hif, .rgn, .lay] ∨ h.desc.n1 ≤ 256 := (blkRegs_short h.blk).imp_right fun hs => hs _ hd
    generalize h.blk = k at *
    cases k <;> simp only [ne_eq, reduceCtorEq, not_true_eq_false, List.mem_cons, List.not_mem_nil, or_false, or_true, false_or, true_or,
      Blk.count, Blk.size, Blk.base, regionBase] at * <;> omega

/-! ## What a read of a register does -/

variable {b : Block}

/-- A read of a register leaves it as it was: the map has no field that a read clears. -/
theorem readClear_rest {a : Nat} {h : RegHit} (hit : findReg a = some h) (w : Nat) :
    h.desc.flds.foldl (fun w f => if f.acc = .rc then Bf.put ⟨f.hi, f.lo⟩ w 0 else w) w = w := by
  have hrc := blkRegs_noRc _ _ (findReg_place hit).2.1
  generalize h.desc.flds = l at *
  induction l generalizing w with
  | nil => rfl
  | cons f l ih =>
    rw [List.foldl_cons, if_neg (hrc f List.mem_cons_self)]
    exact ih w fun g hg => hrc g (List.mem_cons_of_mem _ hg)

theorem Block.word_setWord_self (b : Block) (a c : Nat) : (b.setWord a (b.word a)).word c = b.word c := by
  rw [Block.word_setWord]
  split
  · rename_i e
    rw [e, Nat.mod_eq_of_lt (b.word_lt a)]
  · rfl

theorem Block.quiet_locked (h : b.locked = true) (a : Nat) : b.quiet a = false := by simp [Block.quiet, h]

section
variable {a q : Nat} {host clear : Bool} {h : RegHit} (hlocked : b.locked = true) (ha : a % 4 = 0) (hit : findReg a = some h)
  (hlay : h.blk ≠ .lay)
include hlocked ha hit hlay

theorem readReg_wide (hw : h.desc.wide = true) : b.readReg q host clear a =
    if h.word == 0 then (b.ctrShown a h % 2 ^ 32, b.setLatch q ctrLatch (b.ctrShown a h / 2 ^ 32 % 2 ^ 32)) else (b.latched q ctrLatch, b) := by
  simp [Block.readReg, b.quiet_locked hlocked, ha, hit, hlay, hw]

theorem readReg_plain (hw : h.desc.wide = false) (htim : h.blk ≠ .tim) (hobs : h.blk ≠ .obs) : b.readReg q host clear a =
    (h.desc.readable (b.shown a h), if clear then b.setWord a (b.word a) else b) := by
  have hns : a ≠ R.TIM_TIME_NS h.i := findReg_timeApart hit htim (by decide)
  have hlo : a ≠ R.TIM_TIME_S_LO h.i := findReg_timeApart hit htim (by decide)
  have hhi : a ≠ R.TIM_TIME_S_HI h.i := findReg_timeApart hit htim (by decide)
  have snap (r : Nat) (hr : (findReg r).map (·.blk) = some .obs) : a ≠ r := by
    rintro rfl
    rw [hit] at hr
    exact hobs (Option.some.inj hr)
  have hsa := snap R.OBS_SNAP_ADDR (by decide +kernel)
  have hsl := snap R.OBS_SNAP_DATA_LO (by decide +kernel)
  have hsh := snap R.OBS_SNAP_DATA_HI (by decide +kernel)
  simp [Block.readReg, b.quiet_locked hlocked, ha, hit, hlay, hw, hns, hlo, hhi, hsa, hsl, hsh, readClear_rest hit]

end

/-- A read of a base's nanoseconds latches its seconds. -/
theorem readReg_timeNs (hlocked : b.locked = true) (q : Nat) (host clear : Bool) (i : Fin 2) : b.readReg q host clear (R.TIM_TIME_NS i) =
    ((b.tbase i).ns, (b.setLatch q (R.TIM_TIME_S_LO i) ((b.tbase i).s % 2 ^ 32)).setLatch q (R.TIM_TIME_S_HI i) ((b.tbase i).s / 2 ^ 32)) := by
  have ha : R.TIM_TIME_NS i % 4 = 0 := by unfold R.TIM_TIME_NS timBase; omega
  have hit : ∃ h, findReg (R.TIM_TIME_NS i) = some h ∧ h.blk = .tim ∧ h.desc.wide = false ∧ h.i = i := by
    revert i
    decide +kernel
  obtain ⟨h, hh, hblk, hw, hi⟩ := hit
  simp [Block.readReg, b.quiet_locked hlocked, ha, hh, hblk, hw, hi]

/-! ## The commands -/

/-- A read enters where the requester is served (R375, R418, R515). -/
theorem byRead_serves {r : Reader} (hreset : b.inReset = false) (hon : r ≠ .obs ∨ b.boot.phase ≠ .off)
    (hport : r ≠ .obs ∨ b.flag R.OBS_PORT_CFG F.OBS_PORT_CFG_DISABLE = false) (f : Block → Block) : b.byRead r f = f b := by
  cases r with
  | obs =>
    obtain hon := hon.resolve_left (· rfl)
    obtain hport := hport.resolve_left (· rfl)
    simp [Block.byRead, Block.obsServes, hon, hport]
  | host => simp [Block.byRead, Block.outOfReset, hreset]
  | inst i => simp [Block.byRead, Block.outOfReset, hreset]

/-- Settles O53: a read of a 64-bit register latches its high word, one of any other register changes nothing. -/
theorem readsAnswerAndLatch : Obligations.ReadsAnswerAndLatch := by
  intro b a r x q
  refine ⟨fun hreset hr size => ?_, fun i hr hlive size => ?_, fun hreset hr => ?_, fun hreset hlocked hlive hon hport => ?_, fun i => ⟨fun n => ?_, fun hreset hlocked => ?_⟩⟩
  · have hno (f : Block → Block) : b.byRead r f = b := by
      cases r with
      | obs => exact absurd rfl hr
      | host => simp [Block.byRead, Block.outOfReset, hreset]
      | inst i => simp [Block.byRead, Block.outOfReset, hreset]
    exact ⟨takes_congr (u := b.byRead r _) (fun _ => rfl) (hno _), takes_congr (u := b.byRead r _) (fun _ => rfl) (hno _)⟩
  · subst hr
    have hno : b.readAt (.inst i) a.toNat size = b := by simp [Block.readAt, Block.readerLive, hlive]
    have hin : b.byRead (.inst i) (Block.readAt (.inst i) a.toNat size) = b := by
      unfold Block.byRead Block.outOfReset
      dsimp only
      rw [hno, ite_self]
    exact ⟨takes_congr (fun _ => rfl) hin, takes_congr (fun _ => rfl) hin⟩
  · subst hr
    have hshow (c : ConfigReg) : Takes (.readClear .host a (.config c)) b { b with out := b.out ++ [.readData 0 [b.configRead 0 c]] } :=
      takes_congr (u := b.byRead .host (Block.readClear .host a.toNat (.config c))) (fun _ => rfl)
        (byRead_serves hreset (.inl (by decide)) (.inl (by decide)) _)
    exact ⟨hshow _, hshow _, hshow _, hshow _, hshow _, hshow _, hshow _⟩
  · have hread (f : Block → Block) : b.byRead r f = f b := byRead_serves hreset hon hport f
    have hother : b.readAt r a.toNat .other = (b.accessFault q 2 false (viewOff x)).answer q [0] := by
      simp [Block.readAt, hlive, b.quiet_locked hlocked, x, q]
    have hdword : b.readAt r a.toNat .dword = (b.readReg q (r != .obs) (r != .obs) x).2.answer q [(b.readReg q (r != .obs) (r != .obs) x).1] := by
      simp [Block.readAt, hlive, x, q]
    refine ⟨takes_congr (u := b.byRead r _) (fun _ => rfl) ((hread _).trans hother),
      takes_congr (u := b.byRead r _) (fun _ => rfl) ((hread _).trans hother), fun h ha hit hlay => ⟨fun hw hword hpmc hchn => ?_, fun hw hword => ?_, fun hw htim hobs => ?_⟩⟩
    · have hctr : b.ctrShown x h = b.ctr x := by simp [Block.ctrShown, ctrHome, hpmc, hchn, hlay, hword]
      refine ⟨_, takes_congr (u := b.byRead r _) (fun _ => rfl) ((hread _).trans hdword), ?_⟩
      rw [readReg_wide hlocked ha hit hlay hw, hword, hctr]
      refine ⟨rfl, ?_, rfl⟩
      have hsmall : b.ctr x / 2 ^ 32 % 2 ^ 32 = b.ctr x / 2 ^ 32 :=
        Nat.mod_eq_of_lt (Nat.div_lt_of_lt_mul (BitVec.isLt _))
      exact (b.latched_setLatch q ctrLatch _).trans hsmall
    · refine takes_congr (u := b.byRead r _) (fun _ => rfl) ((hread _).trans (hdword.trans ?_))
      rw [readReg_wide hlocked ha hit hlay hw, hword]
      rfl
    · refine ⟨_, takes_congr (u := b.byRead r _) (fun _ => rfl) ((hread _).trans hdword), ?_⟩
      rw [readReg_plain hlocked ha hit hlay hw htim hobs]
      cases r != .obs
      · exact ⟨rfl, fun _ => rfl, rfl⟩
      · exact ⟨rfl, b.word_setWord_self x, rfl⟩
  · exact takes_congr (u := b.byRead (.inst n) fun c => c) (fun _ => rfl) (by simp [Block.byRead, Block.outOfReset])
  · refine ⟨_, takes_congr (u := b.byRead .host (Block.timeRead .host i)) (fun _ => rfl)
      (byRead_serves hreset (.inl (by decide)) (.inl (by decide)) _), ?_⟩
    have hdword : b.timeRead .host i = (b.readReg 0 true true (R.TIM_TIME_NS i)).2.answer 0 [(b.readReg 0 true true (R.TIM_TIME_NS i)).1] := rfl
    rw [hdword, readReg_timeNs hlocked]
    refine ⟨rfl, ?_, Block.latched_setLatch _ _ _ _, rfl⟩
    refine (SMap.get_set_other _ _ _ ?_).trans (b.latched_setLatch _ _ _)
    unfold R.TIM_TIME_S_LO R.TIM_TIME_S_HI
    omega

end Sys2Proof.Machine
end

section
/-!
PROOFS. What the accounts of the output buffer change: the regions, and what the regions ask of the pause generators.
-/
namespace Sys2Proof.Machine
open Sys2Proof

variable {b c d : Block}

/-- From b to c only regions changed, and of the ports what the regions ask of the pause generators. -/
structure Block.OnAccounts (b c : Block) : Prop where
  only : ∃ rg ps, c = { b with regions := rg, ports := ps }
  port : ∀ p, c.port p = { b.port p with bufReq := (c.port p).bufReq }

namespace Block.OnAccounts

theorem refl (b : Block) : b.OnAccounts b := ⟨⟨_, _, rfl⟩, fun _ => rfl⟩
theorem trans (h : b.OnAccounts c) (h' : c.OnAccounts d) : b.OnAccounts d := by
  refine ⟨?_, fun p => ?_⟩
  · obtain ⟨rg, ps, rfl⟩ := h.only
    obtain ⟨rg', ps', rfl⟩ := h'.only
    exact ⟨_, _, rfl⟩
  · rw [h'.port p, h.port p]
theorem modRegion (h : b.OnAccounts c) (G : Nat) (f : Region → Region) : b.OnAccounts (c.modRegion G f) :=
  h.trans ⟨⟨_, _, rfl⟩, fun _ => rfl⟩
theorem modQueue (h : b.OnAccounts c) (G q : Nat) (f : Queue → Queue) : b.OnAccounts (c.modQueue G q f) := h.modRegion G _
theorem modStored (h : b.OnAccounts c) (G sid : Nat) (f : Stored → Stored) : b.OnAccounts (c.modStored G sid f) := h.modRegion G _
theorem askXoff (h : b.OnAccounts c) (p n : Nat) : b.OnAccounts (c.askXoff p n) := by
  refine h.trans ⟨⟨_, _, rfl⟩, fun q => ?_⟩
  unfold Block.askXoff
  dsimp only
  rw [Block.port_modPort]
  split
  · rename_i e
    rw [e]
  · rfl
theorem setGroupOf (h : b.OnAccounts c) (G p n : Nat) (x : LlGroup) : b.OnAccounts (c.setGroupOf G p n x) :=
  (h.modRegion G _).askXoff p n
theorem settleGroup (h : b.OnAccounts c) (G p n : Nat) (x : LlGroup) : b.OnAccounts (c.settleGroup G p n x) := h.setGroupOf G p n _

theorem toReserve (h : b.OnAccounts c) (G q n : Nat) : b.OnAccounts (c.toReserve G q n) := by
  induction n generalizing c with
  | zero => exact h
  | succ n ih =>
    unfold Block.toReserve
    split
    · exact h
    · split
      · exact h
      · exact ih (((h.modStored _ _ _).modQueue _ _ _).settleGroup _ _ _ _)

theorem toGroups (h : b.OnAccounts c) (G q n : Nat) : b.OnAccounts (c.toGroups G q n) := by
  induction n generalizing c with
  | zero => exact h
  | succ n ih =>
    unfold Block.toGroups
    split
    · exact h
    · split
      · exact h
      · exact ih (((h.modStored _ _ _).modQueue _ _ _).setGroupOf _ _ _ _)

theorem resplit (h : b.OnAccounts c) (G q : Nat) : b.OnAccounts (c.resplit G q) := by
  unfold Block.resplit
  split
  · exact h
  · exact (h.toReserve _ _ _).toGroups _ _ _

theorem freeStored (h : b.OnAccounts c) (G sid : Nat) : b.OnAccounts (c.freeStored G sid) := by
  unfold Block.freeStored
  dsimp only
  split
  · exact h.modRegion _ _
  · split
    · exact ((h.modRegion _ _).modQueue _ _ _).resplit _ _
    · exact (((h.modRegion _ _).modQueue _ _ _).settleGroup _ _ _ _).resplit _ _

theorem releasePtr (h : b.OnAccounts c) (G sid : Nat) : b.OnAccounts (c.releasePtr G sid) := by
  unfold Block.releasePtr
  dsimp only
  split
  · exact (h.modStored _ _ _).freeStored _ _
  · exact h.modStored _ _ _

end Block.OnAccounts

end Sys2Proof.Machine
end

section
/-!
PROOFS. The loss and the return of clocks (R544), the thermal trip (R548), and O51 from these.
-/
namespace Sys2Proof.Machine
open Sys2Proof

variable {b c d : Block}

/-- What one turn k of n establishes holds at the end, where the other turns keep it. -/
theorem Block.each_turn {n k : Nat} (hk : k < n) {f : Block → Nat → Block} {I P : Block → Prop} (start : I b)
    (before : ∀ c j, j < k → I c → I (f c j)) (turn : ∀ c, I c → P (f c k)) (after : ∀ c j, k < j → j < n → P c → P (f c j)) :
    P (b.each n f) := by
  have hbefore (m : Nat) (hm : m ≤ k) : I (b.each m f) := by
    induction m with
    | zero => exact start
    | succ m ih =>
      rw [Block.each_succ]
      exact before _ m (by omega) (ih (by omega))
  induction n with
  | zero => omega
  | succ n ih =>
    rw [Block.each_succ]
    by_cases e : n = k
    · rw [e]
      exact turn _ (hbefore k le_rfl)
    · exact after _ n (by omega) (by omega) (ih (by omega) fun c j hj hn => after c j hj (by omega))

/-- What every turn keeps holds at the end. -/
theorem Block.each_inv {n : Nat} {f : Block → Nat → Block} {P : Block → Prop} (start : P b) (turn : ∀ c j, j < n → P c → P (f c j)) :
    P (b.each n f) := by
  induction n with
  | zero => exact start
  | succ n ih =>
    rw [Block.each_succ]
    exact turn _ n (by omega) (ih fun c j hj => turn c j (by omega))

/-! ## The phases of the ports' bring-ups -/

/-- From b to c no port changed the phase of its bring-up. -/
def Block.SamePhases (b c : Block) : Prop := ∀ p, (c.port p).bring = (b.port p).bring

namespace Block.SamePhases

theorem refl (b : Block) : b.SamePhases b := fun _ => rfl
theorem trans (h : b.SamePhases c) (h' : c.SamePhases d) : b.SamePhases d := fun p => (h' p).trans (h p)
theorem of_ports (h : c.ports = b.ports) : b.SamePhases c := fun p => by rw [Block.port, h, Block.port]
theorem of_accounts (h : b.OnAccounts c) : b.SamePhases c := fun p => by rw [h.port p]
theorem modPort (h : b.SamePhases c) (p : Nat) {f : Port → Port} (hf : ∀ x : Port, (f x).bring = x.bring) :
    b.SamePhases (c.modPort p f) := by
  refine h.trans fun q => ?_
  rw [Block.port_modPort]
  split
  · rename_i e
    rw [hf, e]
  · rfl
theorem count (h : b.SamePhases c) (a n : Nat) : b.SamePhases (c.count a n) := h.trans (of_ports (c.count_ports a n))

theorem stgWatch (h : b.SamePhases c) (p n : Nat) : b.SamePhases (c.stgWatch p n) := by
  have high : b.SamePhases ((c.count (R.MAC_STG_XOFF_EVENTS p) 1).modPort p fun x => { x with stgHigh := true }) :=
    (h.count _ _).modPort p fun _ => rfl
  unfold Block.stgWatch
  dsimp only
  split <;> split
  · exact high.modPort p fun _ => rfl
  · exact h.modPort p fun _ => rfl
  · exact high
  · exact h

theorem markBad (h : b.SamePhases c) (i : Nat) : b.SamePhases (c.markBad i) := by
  unfold Block.markBad
  dsimp only
  split <;> exact h.trans (of_ports rfl)

theorem foundBad (h : b.SamePhases c) (p i own : Nat) : b.SamePhases (c.foundBad p i own) := by
  have hnotes : b.SamePhases (c.foundNotes p i own) := 
    (h.modPort (f := fun x => { x with late := x.late.filter fun e => e.1 != i }) p fun _ => rfl).count own 1
  unfold Block.foundBad
  dsimp only
  rw [← Block.foundNotes]
  split
  · exact (hnotes.trans (of_ports (c := (c.foundNotes p i own).dropFrame i) rfl)).stgWatch _ _
  · exact (hnotes.count _ _).markBad _

theorem cutRx (h : b.SamePhases c) (p : Nat) (cut : Bool) : b.SamePhases (c.cutRx p cut) := by
  unfold Block.cutRx
  split
  · exact h
  · split
    · exact h.foundBad _ _ _
    · exact h.count _ _

theorem releasePtr (h : b.SamePhases c) (G sid : Nat) : b.SamePhases (c.releasePtr G sid) :=
  h.trans (of_accounts ((Block.OnAccounts.refl c).releasePtr G sid))
theorem modTx (h : b.SamePhases c) (p : Nat) (f : List TxCopy → List TxCopy) : b.SamePhases (c.modTx p f) := h.modPort p fun _ => rfl

theorem endTx (h : b.SamePhases c) (p : Nat) (st : TxStage) : b.SamePhases (c.endTx p st) := by
  unfold Block.endTx
  split
  · exact (h.modTx _ _).releasePtr _ _
  · exact h

theorem flushTx (h : b.SamePhases c) (p : Nat) : b.SamePhases (c.flushTx p) := by
  unfold Block.flushTx
  dsimp only
  have hstart : b.SamePhases (c.modTx p fun t => t.filter fun c => !c.stage.waits) := h.modTx _ _
  generalize (c.port p).tx.filter (fun c => c.stage.waits) = l
  generalize c.modTx p (fun t => t.filter fun c => !c.stage.waits) = e at *
  induction l generalizing e with
  | nil => exact hstart
  | cons x l ih =>
    rw [List.foldl_cons]
    exact ih ((e.count (R.MAC_TX_LINKDOWN_DROP p) 1).releasePtr (rgnOfPort p) x.sid) ((hstart.count _ _).releasePtr _ _)

theorem clearPause (h : b.SamePhases c) (p : Nat) : b.SamePhases (c.clearPause p) := by
  unfold Block.clearPause
  dsimp only
  refine modPort (h.trans (of_ports ?_)) p fun _ => rfl
  rw [Block.setFld_ports, Block.setFld_ports]

theorem lossEnd (h : b.SamePhases c) (p : Nat) (now cut : Bool) : b.SamePhases (c.lossEnd p now cut) := by
  have hcut : b.SamePhases (((c.count (R.MAC_LINK_DOWN_EVENTS p) 1).send 0xD p 0x18 0).cutRx p cut) :=
    ((h.count _ _).trans (of_ports (Block.send_ports _ _ _ _ _))).cutRx _ _
  obtain ⟨e, he⟩ : ∃ e, ((c.count (R.MAC_LINK_DOWN_EVENTS p) 1).send 0xD p 0x18 0).cutRx p cut = e := ⟨_, rfl⟩
  rw [he] at hcut
  have hclear : b.SamePhases ((if now then e.cutTx p else e).clearPause p) := by
    refine clearPause ?_ p
    split
    · exact (hcut.endTx _ _).endTx _ _
    · exact hcut
  unfold Block.lossEnd
  dsimp only
  rw [he]
  obtain ⟨g, hg⟩ : ∃ g, (if now then e.cutTx p else e).clearPause p = g := ⟨_, rfl⟩
  rw [hg] at hclear ⊢
  split
  · exact hclear.flushTx _
  · exact hclear

theorem linkLoss (h : b.SamePhases c) (p : Nat) (now cut : Bool) : b.SamePhases (c.linkLoss p now cut) := by
  cases up : c.flag (R.MAC_LINK_STATUS p) F.MAC_LINK_STATUS_LINK_UP with
  | false => rwa [c.linkLoss_of_down up]
  | true =>
    rw [c.linkLoss_of_up up]
    refine lossEnd (h.trans fun q => ?_) p now cut
    rw [Block.lossStart, Block.raising_port, Block.raise, Block.setFld_port, Block.lower, Block.setFld_port]

end Block.SamePhases

/-! ## A port loses its clock -/

theorem Block.portClockLost_port (p q : Nat) (cut : Bool) :
    ((b.portClockLost p cut).port q).bring = if q = p then .down else (b.port q).bring := by
  have hphase : b.SamePhases ((b.linkLoss p true cut).downStatus p .pcsFault) :=
    ((Block.SamePhases.refl b).linkLoss p true cut).trans (.of_ports (Block.downStatus_tells _ p .pcsFault).2)
  unfold Block.portClockLost
  rw [Block.port_modPort]
  split
  · rfl
  · exact hphase q

/-- LINK_STATUS of a port that loses its clock. -/
theorem Block.portClockLost_status {p : Nat} (hp : p < 256) (cut : Bool) :
    (b.portClockLost p cut).flag (R.MAC_LINK_STATUS p) F.MAC_LINK_STATUS_LINK_UP = false ∧
      (b.portClockLost p cut).flag (R.MAC_LINK_STATUS p) F.MAC_LINK_STATUS_LOCAL_FAULT = true := by
  unfold Block.portClockLost
  rw [Block.modPort_flag, Block.modPort_flag, Block.downStatus_linkUp, Block.linkLoss_linkUp _ hp]
  refine ⟨rfl, ?_⟩
  generalize b.linkLoss p true cut = c
  have hset : (c.setFld (R.MAC_LINK_STATUS p) F.MAC_LINK_STATUS_LOCAL_FAULT (b2n true)).flag (R.MAC_LINK_STATUS p)
      F.MAC_LINK_STATUS_LOCAL_FAULT = true := Block.flag_raise _ _ _ (by decide) (by decide)
  unfold Block.downStatus Block.localFault
  dsimp only
  split
  · rw [Block.emit_flag]
    exact hset
  · exact hset

theorem linkStatus_ne {p q : Nat} (hp : p < 256) (hq : q < 256) (h : p ≠ q) :
    R.MAC_LINK_STATUS p ≠ R.MAC_LINK_STATUS q ∧ R.MAC_LINK_STATUS p ≠ R.MAC_LINK_EVENTS q ∧
      R.MAC_LINK_STATUS p ≠ R.MAC_PAUSE_STATUS q ∧ R.MAC_LINK_STATUS p ≠ R.PRT_PAUSE_WDOG_STATUS q := by
  have hbase : ∀ o o', o < 0x1000 → o' < 0x1000 → macBase p + o ≠ macBase q + o' := by
    unfold macBase
    omega
  have hprt (o : Nat) : R.MAC_LINK_STATUS p ≠ prtBase q + o := by
    unfold R.MAC_LINK_STATUS prtBase rgnBase dieBase
    unfold macBase
    omega
  exact ⟨hbase _ _ (by decide) (by decide), hbase _ _ (by decide) (by decide), hbase _ _ (by decide) (by decide), hprt _⟩

theorem Block.portClockLost_other {p q : Nat} (hp : p < 256) (hq : q < 256) (h : p ≠ q) (cut : Bool) :
    (b.portClockLost q cut).word (R.MAC_LINK_STATUS p) = b.word (R.MAC_LINK_STATUS p) := by
  obtain ⟨hs, he, hpause, hw⟩ := linkStatus_ne hp hq h
  unfold Block.portClockLost
  rw [Block.modPort_word, (Block.downStatus_tells _ q .pcsFault).1.word, b.linkLoss_word true cut hs he hpause hw]
  intro x hx e
  simp only [causeFlds, List.mem_cons] at hx
  rcases hx with rfl | rfl | rfl | hx
  iterate 3 exact hs e.symm
  · exact darkFlds_ne hs (fun n => laneStatus_ne_mac n p (by decide)) x hx e

/-! ## The clock of an L-die -/

/-- The bring-up of a port goes by its configuration, its die and the boot; bring-ups of other ports leave these. -/
theorem Block.bringUp_bringNext (p q : Nat) : (b.bringUp q).bringNext p = b.bringNext p := by
  have hsets := b.bringUp_sets q
  refine Block.bringNext_congr (hsets.word (bringFlds_ne ?_ (portCfg_ne_lane p))) (hsets.word (bringFlds_ne_bootStatus q)) (hsets.frozen _)
  unfold R.MAC_PORT_CFG R.MAC_LINK_STATUS macBase
  omega

section
variable {l : Nat} (hl : l < 8) {p : Nat} (hp : p < 256)
include hl hp

theorem serdesLost_own (hown : p / 32 = l) (cuts : Nat) :
    (b.serdesLost l cuts).flag (R.MAC_LINK_STATUS p) F.MAC_LINK_STATUS_LINK_UP = false ∧
      (b.serdesLost l cuts).flag (R.MAC_LINK_STATUS p) F.MAC_LINK_STATUS_LOCAL_FAULT = true ∧
      ((b.serdesLost l cuts).port p).bring = .down := by
  have hturn : 32 * l + p % 32 = p := by omega
  refine Block.each_turn (k := p % 32) (I := fun _ => True) (P := fun c => c.flag (R.MAC_LINK_STATUS p) F.MAC_LINK_STATUS_LINK_UP = false ∧
    c.flag (R.MAC_LINK_STATUS p) F.MAC_LINK_STATUS_LOCAL_FAULT = true ∧ (c.port p).bring = .down) (Nat.mod_lt _ (by decide)) trivial (fun _ _ _ _ => trivial) (fun c _ => ?_)
    fun c j hj hn h => ?_
  · rw [hturn]
    obtain ⟨hup, hfault⟩ := c.portClockLost_status hp (bitOf cuts (p % 32))
    exact ⟨hup, hfault, by rw [Block.portClockLost_port, if_pos rfl]⟩
  · have hne : p ≠ 32 * l + j := by omega
    have hword := c.portClockLost_other hp (by omega : 32 * l + j < 256) hne (bitOf cuts j)
    simp only [Block.flag, Block.fld] at h ⊢
    rw [hword, Block.portClockLost_port, if_neg hne]
    exact h

theorem serdesLost_other (hother : p / 32 ≠ l) (cuts : Nat) :
    (b.serdesLost l cuts).word (R.MAC_LINK_STATUS p) = b.word (R.MAC_LINK_STATUS p) ∧
      ((b.serdesLost l cuts).port p).bring = (b.port p).bring := by
  refine Block.each_inv (P := fun c => c.word (R.MAC_LINK_STATUS p) = b.word (R.MAC_LINK_STATUS p) ∧ (c.port p).bring = (b.port p).bring)
    ⟨rfl, rfl⟩ fun c j hj h => ?_
  have hne : p ≠ 32 * l + j := by omega
  rw [c.portClockLost_other hp (by omega) hne, Block.portClockLost_port, if_neg hne]
  exact h

end

theorem serdesBack_own {l p : Nat} (hown : p / 32 = l) : ((b.serdesBack l).port p).bring = b.bringNext p := by
  have hturn : 32 * l + p % 32 = p := by omega
  refine Block.each_turn (k := p % 32) (I := fun c => c.bringNext p = b.bringNext p) (P := fun c => (c.port p).bring = b.bringNext p)
    (Nat.mod_lt _ (by decide)) rfl (fun c j hj h => ?_) (fun c h => ?_) fun c j hj hn h => ?_
  · exact (c.bringUp_bringNext p _).trans h
  · rw [hturn, Block.bringUp_port, if_pos rfl]
    exact h
  · rw [Block.bringUp_port, if_neg (by omega)]
    exact h

theorem serdesBack_other {l p : Nat} (hother : p / 32 ≠ l) : (b.serdesBack l).port p = b.port p := by
  refine Block.each_inv (P := fun c => c.port p = b.port p) rfl fun c j hj h => ?_
  rw [Block.bringUp_port, if_neg (by omega)]
  exact h

/-! ## A power-on reset -/

/-- A power-on reset keeps nothing but the fuses, the pins and the clock. -/
theorem Block.afterReset_powerOn (b : Block) : ∃ f, b.afterReset false true =
    { fuses := b.fuses, refLost := b.refLost, strapPins := b.strapPins, pinLow := b.pinLow, relPin := b.relPin, pkgHold := b.pkgHold,
      out := b.out, fresh := b.fresh, faultN := f } := by
  unfold Block.afterReset
  simp

theorem Block.word_heldOn (e : Block) (o : Output) (a : Nat) : Block.word { e.emit o with pkgHold := .powerOn } a = e.word a := rfl

theorem Block.powerOnReset_tells (b : Block) : b.powerOnReset.pkgHold = .powerOn ∧ b.powerOnReset.word R.FLT_RESET_CAUSE = 2 ^ 31 ∧
    b.powerOnReset.ticks = 0 ∧ b.powerOnReset.ctrs = [] ∧ b.powerOnReset.frames = [] ∧ b.powerOnReset.regions = [] ∧
    b.powerOnReset.fuses = b.fuses := by
  obtain ⟨f, hf⟩ := (b.nvmDrive false).afterReset_powerOn
  have hcause : b.causeAfter .powerOn = 2 ^ 31 := by simp [Block.causeAfter]
  have hreset : b.resetBy .powerOn = ((b.nvmDrive false).afterReset false true).setWord R.FLT_RESET_CAUSE (2 ^ 31) := by
    unfold Block.resetBy
    rw [hcause, show PkgReset.powerOn.warm = false from rfl, show (PkgReset.powerOn == PkgReset.powerOn) = true from rfl]
  unfold Block.powerOnReset
  rw [hreset, hf]
  obtain ⟨e, he⟩ : ∃ e : Block, { fuses := (b.nvmDrive false).fuses, refLost := (b.nvmDrive false).refLost, strapPins := (b.nvmDrive false).strapPins, pinLow := (b.nvmDrive false).pinLow, relPin := (b.nvmDrive false).relPin, pkgHold := (b.nvmDrive false).pkgHold, out := (b.nvmDrive false).out, fresh := (b.nvmDrive false).fresh, faultN := f } = e := ⟨_, rfl⟩
  have hkept : e.ticks = 0 ∧ e.ctrs = [] ∧ e.frames = [] ∧ e.regions = [] ∧ e.fuses = b.fuses := by
    rw [← he]; exact ⟨rfl, rfl, rfl, rfl, b.nvmDrive_fuses false⟩
  rw [he]
  refine ⟨rfl, ?_, hkept⟩
  rw [Block.word_heldOn, Block.word_setWord_same, Nat.mod_eq_of_lt (by decide)]

theorem takes_sysRefclkLost (b : Block) : Takes .sysRefclkLost b b.powerOnReset := fun _ => rfl
theorem takes_serdesRefclkLost (b : Block) (l : Fin 8) (cuts : BitVec 32) :
    Takes (.serdesRefclkLost l cuts) b (b.serdesLost l cuts.toNat) := fun _ => rfl
theorem takes_serdesRefclkReturn (b : Block) (l : Fin 8) : Takes (.serdesRefclkReturn l) b (b.serdesBack l) := fun _ => rfl

/-- Settles O51: the loss of a clock takes its ports down one by one, its return starts their bring-ups. -/
theorem clocksAndTheThermalTrip : Obligations.ClocksAndTheThermalTrip := by
  intro b
  refine ⟨fun _ => rfl, ⟨_, takes_sysRefclkLost b, b.powerOnReset_tells⟩, fun l p => ⟨fun cuts => ⟨_, takes_serdesRefclkLost b l cuts, fun hown =>
    serdesLost_own l.isLt p.isLt hown _, fun hother => serdesLost_other l.isLt p.isLt hother _⟩, _, takes_serdesRefclkReturn b l, fun hother =>
    serdesBack_other hother, fun hown => ⟨fun hdown => ?_, fun hen hrun hstart han hmedia => ?_⟩⟩⟩
  · rw [serdesBack_own hown, Block.bringNext]
    rcases hdown with h | h | h <;> simp [h]
  · rw [serdesBack_own hown, Block.bringNext, Block.negotiates]
    simp [hen, hrun, hstart, han, hmedia]

end Sys2Proof.Machine
end

section
/-!
PROOFS. Shapers (R328 to R330) and the queue sampler (R349, R350): what a refill adds, what a visit writes; and O31 from these.
-/
namespace Sys2Proof.Machine
open Sys2Proof

variable {b c d : Block}

/-! ## Refills -/

theorem Block.shaper_setShaper (b : Block) (G n : Nat) (x : Shaper) (H m : Nat) :
    (b.setShaper G n x).shaper H m = if H = G ∧ m = n then x else b.shaper H m := by
  unfold Block.shaper Block.setShaper
  rw [Block.region_modRegion]
  by_cases hG : H = G
  · rw [if_pos hG, SMap.get_set]
    simp only [hG, true_and]
  · rw [if_neg hG, if_neg fun h => hG h.1]

theorem Shaper.commit_pend (s : Shaper) : s.commit.pend = none := by
  unfold Shaper.commit
  split
  · assumption
  · rfl

/-- What a refill adds is exact to one part in 4,096 of a byte, and takes at most a free bit. -/
theorem Block.refillOf_tells (b : Block) (rate : Nat) :
    (rate * 65536 / 1000 ≤ (b.refillOf rate).1 ∧ (b.refillOf rate).1 ≤ rate * 65536 / 1000 + 1) ∧
      ∃ n, (b.refillOf rate).2 = { b with fresh := n } := by
  unfold Block.refillOf
  dsimp only
  split
  · exact ⟨⟨le_rfl, Nat.le_succ _⟩, _, rfl⟩
  · have hbit : (b.free 1).1 < 2 := BitVec.isLt _
    exact ⟨⟨Nat.le_add_right _ _, by dsimp only; omega⟩, _, rfl⟩

/-- A bucket of a shaper after a refill of n. -/
def refilled (en : Bool) (tok : Int) (n burst : Nat) : Int := if en then min (tok + n) (burstTok burst) else tok

/-- A refill of shaper n: what it puts in force, how far each bucket rises, and what it leaves. -/
theorem Block.refill_tells (b : Block) (G n : Nat) {e : Shaper} (he : (b.shaper G n).commit = e) :
    ∃ lo hi fr, (e.cfg.minEn = true → e.cfg.minRate * 65536 / 1000 ≤ lo ∧ lo ≤ e.cfg.minRate * 65536 / 1000 + 1) ∧
      b.refill G n = Block.setShaper { b with fresh := fr } G n
        { e with minTok := refilled e.cfg.minEn e.minTok lo e.cfg.minBurst, maxTok := refilled e.cfg.maxEn e.maxTok hi e.cfg.maxBurst } := by
  have hpart (c : Block) (en : Bool) (rate : Nat) : ∃ x fr, (if en then c.refillOf rate else (0, c)) = (x, { c with fresh := fr }) ∧
      (en = true → rate * 65536 / 1000 ≤ x ∧ x ≤ rate * 65536 / 1000 + 1) := by
    obtain ⟨hx, fr, hfr⟩ := c.refillOf_tells rate
    cases en
    · exact ⟨0, c.fresh, rfl, by simp⟩
    · exact ⟨_, fr, Prod.ext rfl hfr, fun _ => hx⟩
  obtain ⟨lo, fr, hlo, hmin⟩ := hpart b e.cfg.minEn e.cfg.minRate
  obtain ⟨hi, fr', hhi, -⟩ := hpart { b with fresh := fr } e.cfg.maxEn e.cfg.maxRate
  refine ⟨lo, hi, fr', hmin, ?_⟩
  unfold Block.refill
  simp only [he, hlo, hhi, refilled]
  cases e.cfg.minEn <;> cases hM : e.cfg.maxEn <;> simp [hM]

/-- From b to c only free values were taken and shapers of region G changed. -/
structure Block.OnShapers (G : Nat) (b c : Block) : Prop where
  regs : c.regs = b.regs
  other : ∀ H, H ≠ G → c.region H = b.region H

theorem Block.refill_onShapers (b : Block) (G n : Nat) : b.OnShapers G (b.refill G n) := by
  obtain ⟨lo, hi, fr, -, h⟩ := b.refill_tells G n rfl
  rw [h]
  refine ⟨rfl, fun H hH => ?_⟩
  unfold Block.setShaper
  rw [Block.region_modRegion, if_neg hH]
  rfl

theorem Block.refills_onShapers (b : Block) (G : Nat) (l : List Nat) : b.OnShapers G (l.foldl (fun b n => b.refill G n) b) := by
  induction l generalizing b with
  | nil => exact ⟨rfl, fun _ _ => rfl⟩
  | cons n l ih =>
    obtain ⟨hregs, hother⟩ := b.refill_onShapers G n
    obtain ⟨hregs', hother'⟩ := ih (b.refill G n)
    exact ⟨hregs'.trans hregs, fun H hH => (hother' H hH).trans (hother H hH)⟩

/-- The refill of every shaper of region G. -/
def Block.refillRegion (b : Block) (G : Nat) : Block := ((b.region G).shapers.map (·.1)).foldl (fun b n => b.refill G n) b

theorem Block.shaperRefill_of_run {d : Nat} (run : b.frozen d = false) :
    b.shaperRefill d = (b.refillRegion (2 * d)).refillRegion (2 * d + 1) := by
  unfold Block.shaperRefill
  rw [run]
  rfl

/-- A refill of a die whose region G lists one shaper refills that one, and changes no other die's regions. -/
theorem Block.shaperRefill_single {d G n : Nat} {s : Shaper} (run : b.frozen d = false) (hG : G / 2 = d)
    (single : (b.region G).shapers = [(n, s)]) :
    (∃ e : Block, e.shaper G n = s ∧ (b.shaperRefill d).shaper G n = (e.refill G n).shaper G n) ∧
      (∀ H, H / 2 ≠ d → (b.shaperRefill d).region H = b.region H) ∧ (b.shaperRefill d).regs = b.regs := by
  rw [b.shaperRefill_of_run run]
  obtain ⟨c, hc⟩ : ∃ c, b.refillRegion (2 * d) = c := ⟨_, rfl⟩
  obtain ⟨hregs, hother⟩ : b.OnShapers (2 * d) c := hc ▸ b.refills_onShapers (2 * d) _
  obtain ⟨hregs', hother'⟩ := c.refills_onShapers (2 * d + 1) ((c.region (2 * d + 1)).shapers.map (·.1))
  have hs : b.shaper G n = s := by simp [Block.shaper, single, SMap.get]
  rw [hc]
  refine ⟨?_, fun H hH => (hother' H (by omega)).trans (hother H (by omega)), hregs'.trans hregs⟩
  by_cases h0 : G = 2 * d
  · have hone : c = b.refill G n := by rw [← hc, Block.refillRegion, ← h0, single]; rfl
    refine ⟨b, hs, ?_⟩
    rw [← hone, Block.shaper, Block.refillRegion, hother' G (by omega), Block.shaper]
  · have h1 : G = 2 * d + 1 := by omega
    have hshapers := hother G (by omega)
    refine ⟨c, by rw [Block.shaper, hshapers]; exact hs, ?_⟩
    rw [Block.refillRegion, ← h1, hshapers, single]
    rfl

/-! ## Samples -/

theorem fldsReset_zero {l : List Fld} (h : ∀ f ∈ l, f.rst = 0) : fldsReset l = 0 := by
  unfold fldsReset
  suffices hall : ∀ n, l.foldl (fun acc f => acc + f.rst * 2 ^ f.lo) n = n from hall 0
  induction l with
  | nil => exact fun _ => rfl
  | cons f l ih =>
    intro n
    rw [List.foldl_cons, h f List.mem_cons_self, Nat.zero_mul, Nat.add_zero, ih fun g hg => h g (List.mem_cons_of_mem _ hg)]

theorem rgnRegs_samples : ∀ d ∈ blkRegs .rgn, d.off + d.n1 * d.s1 ≤ 0x240000 ∨ 0x260000 ≤ d.off ∨ ∀ f ∈ d.flds, f.rst = 0 := by
  decide +kernel
theorem rgnRegs_stride : ∀ d ∈ blkRegs .rgn, 0 < d.s1 := by decide +kernel

theorem decodeAddr_rgn {G o : Nat} (hG : G < 8) (ho : o < 0x800000) : decodeAddr (rgnBase G + o) = some (.rgn, G, o) := by
  have h := decodeAddr_base (k := .rgn) (i := G) (o := o) (by simpa only [Blk.count] using hG) (by simpa only [Blk.size] using ho)
  rwa [show Blk.base .rgn G = rgnBase G by simp only [Blk.base, regionBase, rgnBase, dieBase]] at h

/-- The registers of a region between two offsets reset to 0, where every one listed there does. -/
theorem resetOfHit_samples {h : RegHit} (hblk : h.blk = .rgn) (ho : 0x240000 ≤ h.off ∧ h.off < 0x260000) (hd : h.desc ∈ blkRegs .rgn)
    (hl : h.desc.locate h.off = some (h.i, h.j, h.word)) : resetOfHit h = 0 := by
  obtain ⟨hlo, hi, hin, -⟩ := RegDesc.locate_some hl
  have hend : h.off < h.desc.off + h.desc.n1 * h.desc.s1 := by
    have := (Nat.div_lt_iff_lt_mul (rgnRegs_stride _ hd)).mp (hi ▸ hin)
    omega
  have hzero : ∀ f ∈ h.desc.flds, f.rst = 0 := (rgnRegs_samples _ hd).resolve_left (by omega) |>.resolve_left (by omega)
  unfold resetOfHit
  rw [hblk]
  dsimp only
  rw [if_neg (by simp; omega), fldsReset_zero hzero]

theorem resetWord_of_find {a : Nat} (h : ∀ h, findReg a = some h → resetOfHit h = 0) : resetWord a = 0 := by
  cases hit : findReg a with
  | none => simp only [resetWord, hit]
  | some x => simp only [resetWord, hit, h x hit, Nat.zero_mod, ite_self]

theorem resetWord_samples {G o : Nat} (hG : G < 8) (ho : 0x240000 ≤ o ∧ o < 0x260000) : resetWord (rgnBase G + o) = 0 := by
  refine resetWord_of_find fun h hit => ?_
  obtain ⟨hdec, hd, hl⟩ := findReg_place hit
  have hat := (decodeAddr_rgn hG (by omega : o < 0x800000)).symm.trans hdec
  simp only [Option.some.injEq, Prod.mk.injEq] at hat
  obtain ⟨hblk, -, hoff⟩ := hat
  rw [← hblk] at hd
  rw [hoff] at ho
  exact resetOfHit_samples hblk.symm ho hd hl
/-- A register of a table with some entries taken off. -/
theorem Block.word_filter (b : Block) (f : Nat → Bool) (a : Nat) :
    Block.word { b with regs := b.regs.filter fun e => f e.1 } a = if f a then b.word a else resetWord a := by
  simp only [Block.word, SMap.find_filter_key]
  cases f a <;> rfl

/-- The registers that a write of CLR_MAX leaves: all but the third and fourth of each queue's samples. -/
def keepsSample (lo a : Nat) : Bool := !(lo ≤ a && a < lo + 0x20000 && (a - lo) % 16 ≥ 8)

theorem keepsSample_at (lo : Nat) {o q : Nat} (ho : o < 16) (hq : q < 8192) : keepsSample lo (lo + (o + q * 16)) = decide (o < 8) := by
  have hin : lo + (o + q * 16) - lo = o + q * 16 := Nat.add_sub_cancel_left ..
  have hlt : lo + (o + q * 16) < lo + 0x20000 := by omega
  have hmod : (o + q * 16) % 16 = o := by omega
  simp only [keepsSample, hin, hmod, hlt, Nat.le_add_right, decide_true, Bool.true_and, ge_iff_le, ← decide_not, Nat.not_le]

theorem Block.sampClrMax_of_set {w : Writer} {G v : Nat} (h : F.RGN_SAMP_CFG_CLR_MAX.of v = 1) {lo : Nat} (hlo : R.RGN_QSAMP_DEPTH G 0 = lo) :
    b.sampClrMax w G v =
      { b.storeReg w (R.RGN_SAMP_CFG G) v with regs := (b.storeReg w (R.RGN_SAMP_CFG G) v).regs.filter fun e => keepsSample lo e.1 } := by
  unfold Block.sampClrMax keepsSample
  rw [h, hlo]
  dsimp only
  rw [if_neg (by decide)]

theorem Block.sampClrMax_word {w : Writer} {G v : Nat} (hset : F.RGN_SAMP_CFG_CLR_MAX.of v = 1) {lo : Nat}
    (hlo : R.RGN_QSAMP_DEPTH G 0 = lo) (a : Nat) :
    (b.sampClrMax w G v).word a = if keepsSample lo a then (b.storeReg w (R.RGN_SAMP_CFG G) v).word a else resetWord a := by
  rw [b.sampClrMax_of_set hset hlo, Block.word_filter]

theorem sampClrMax_tells {w : Writer} {G v q : Nat} (hG : G < 8) (hq : q < 8192) (hset : F.RGN_SAMP_CFG_CLR_MAX.of v = 1) :
    let t := b.sampClrMax w G v
    t.word (R.RGN_QSAMP_DEPTH_MAX G q) = 0 ∧ t.word (R.RGN_QSAMP_DELAY_MAX G q) = 0 ∧
      t.word (R.RGN_QSAMP_DEPTH G q) = b.word (R.RGN_QSAMP_DEPTH G q) ∧ t.word (R.RGN_QSAMP_DELAY G q) = b.word (R.RGN_QSAMP_DELAY G q) := by
  have hword {a : Nat} (o : Nat) (ho : o < 16) (e : a = R.RGN_QSAMP_DEPTH G 0 + (o + q * 0x10)) :
      (b.sampClrMax w G v).word a = if o < 8 then b.word a else 0 := by
    have hreset : resetWord a = 0 := by
      rw [e, show R.RGN_QSAMP_DEPTH G 0 + (o + q * 0x10) = rgnBase G + (0x240000 + (o + q * 0x10)) by unfold R.RGN_QSAMP_DEPTH; omega]
      exact resetWord_samples hG (by omega)
    have hne : a ≠ R.RGN_SAMP_CFG G := by unfold R.RGN_QSAMP_DEPTH at e; unfold R.RGN_SAMP_CFG; omega
    rw [b.sampClrMax_word hset rfl, hreset, Block.word_storeReg_other _ _ _ hne, e, keepsSample_at _ ho hq]
    simp only [decide_eq_true_eq]
  have h1 : R.RGN_QSAMP_DEPTH_MAX G q = R.RGN_QSAMP_DEPTH G 0 + (8 + q * 0x10) := by unfold R.RGN_QSAMP_DEPTH R.RGN_QSAMP_DEPTH_MAX; omega
  have h2 : R.RGN_QSAMP_DELAY_MAX G q = R.RGN_QSAMP_DEPTH G 0 + (12 + q * 0x10) := by unfold R.RGN_QSAMP_DEPTH R.RGN_QSAMP_DELAY_MAX; omega
  have h3 : R.RGN_QSAMP_DEPTH G q = R.RGN_QSAMP_DEPTH G 0 + (0 + q * 0x10) := by unfold R.RGN_QSAMP_DEPTH; omega
  have h4 : R.RGN_QSAMP_DELAY G q = R.RGN_QSAMP_DEPTH G 0 + (4 + q * 0x10) := by unfold R.RGN_QSAMP_DEPTH R.RGN_QSAMP_DELAY; omega
  exact ⟨hword 8 (by decide) h1, hword 12 (by decide) h2, hword 0 (by decide) h3, hword 4 (by decide) h4⟩

/-- The block with a depth and a delay of queue q written, and the greatest of each. -/
def Block.sampled (b : Block) (G q depth delay : Nat) : Block :=
  let b := (b.setWord (R.RGN_QSAMP_DEPTH G q) depth).setWord (R.RGN_QSAMP_DELAY G q) delay
  let b := b.setWord (R.RGN_QSAMP_DEPTH_MAX G q) (max depth (b.word (R.RGN_QSAMP_DEPTH_MAX G q)))
  b.setWord (R.RGN_QSAMP_DELAY_MAX G q) (max delay (b.word (R.RGN_QSAMP_DELAY_MAX G q)))

theorem Block.sampled_words (b : Block) (G q : Nat) {depth delay : Nat} (hdepth : depth < 2 ^ 32) (hdelay : delay < 2 ^ 32) :
    let t := b.sampled G q depth delay
    t.word (R.RGN_QSAMP_DEPTH G q) = depth ∧ t.word (R.RGN_QSAMP_DELAY G q) = delay ∧
      t.word (R.RGN_QSAMP_DEPTH_MAX G q) = max depth (b.word (R.RGN_QSAMP_DEPTH_MAX G q)) ∧
      t.word (R.RGN_QSAMP_DELAY_MAX G q) = max delay (b.word (R.RGN_QSAMP_DELAY_MAX G q)) := by
  have h1 : R.RGN_QSAMP_DEPTH G q + 4 = R.RGN_QSAMP_DELAY G q := by unfold R.RGN_QSAMP_DEPTH R.RGN_QSAMP_DELAY; omega
  have h2 : R.RGN_QSAMP_DEPTH G q + 8 = R.RGN_QSAMP_DEPTH_MAX G q := by unfold R.RGN_QSAMP_DEPTH R.RGN_QSAMP_DEPTH_MAX; omega
  have h3 : R.RGN_QSAMP_DEPTH G q + 12 = R.RGN_QSAMP_DELAY_MAX G q := by unfold R.RGN_QSAMP_DEPTH R.RGN_QSAMP_DELAY_MAX; omega
  have hm := b.word_lt (R.RGN_QSAMP_DEPTH_MAX G q)
  have hM := b.word_lt (R.RGN_QSAMP_DELAY_MAX G q)
  have hmax (x y : Nat) (hx : x < 2 ^ 32) (hy : y < 2 ^ 32) : max x y % 2 ^ 32 = max x y := Nat.mod_eq_of_lt (Nat.max_lt.mpr ⟨hx, hy⟩)
  unfold Block.sampled
  simp only [← h1, ← h2, ← h3] at hm hM ⊢
  generalize R.RGN_QSAMP_DEPTH G q = a at *
  simp [Block.word_setWord]
  omega

theorem Block.sampled_rest (b : Block) (G q depth delay : Nat) :
    (b.sampled G q depth delay).regions = b.regions ∧ (b.sampled G q depth delay).ctrs = b.ctrs ∧
      (b.sampled G q depth delay).inflight = b.inflight := by
  simp only [Block.sampled, Block.setWord_regions, Block.setWord_ctrs, Block.setWord_inflight, and_self]

section
variable {G q : Nat} (run : b.frozen (G / 2) = false)
include run

/-- A visit of the sampler to a queue of a die that runs, with a pointer at its head. -/
theorem Block.queueSample_of_head {y : Ptr} {r : List Ptr} (head : ((b.region G).queue q).ptrs = y :: r) :
    let c := b.sampled G q (((b.region G).queue q).onDie + ((b.region G).queue q).siloCells) (sat 0xFFFFFFFF (b.ticks - y.enq))
    b.queueSample G q = c ∨ b.queueSample G q = c.sendOncePerMs 0xA G 0x4A q := by
  intro c
  unfold Block.queueSample
  simp only [run, head]
  rw [if_neg Bool.false_ne_true]
  split
  · exact .inr rfl
  · exact .inl rfl

/-- A visit to a queue that holds nothing. -/
theorem Block.queueSample_of_empty (head : ((b.region G).queue q).ptrs = []) (silo : ((b.region G).queue q).silo = []) :
    b.queueSample G q = b.sampled G q (((b.region G).queue q).onDie + ((b.region G).queue q).siloCells) 0 := by
  have hin : ((b.region G).queue q).inSilo = [] := by simp [Queue.inSilo, silo]
  unfold Block.queueSample
  simp only [run, head, hin]
  rw [if_neg Bool.false_ne_true, if_neg (by simp)]
  rfl

end

/-! ## The commands -/

theorem takes_shaperRefill (b : Block) (d : Fin 4) : Takes (.shaperRefill d) b (b.shaperRefill d) := fun _ => rfl
theorem takes_queueSample (b : Block) (G : Fin 8) (q : BitVec 13) : Takes (.queueSample G q) b (b.queueSample G q.toNat) := fun _ => rfl

theorem refilled_le {en : Bool} (h : en = true) (tok : Int) (n burst : Nat) : refilled en tok n burst ≤ burstTok burst := by
  rw [h]
  exact min_le_right _ _

/-- What a shaper is after its refill. -/
theorem Block.refill_shaper (b : Block) (G n : Nat) :
    let u := (b.refill G n).shaper G n
    let e := (b.shaper G n).commit
    u.cfg = e.cfg ∧ u.pend = none ∧
      (e.cfg.minEn = true → e.minTok ≤ burstTok e.cfg.minBurst →
        e.minTok + (e.cfg.minRate * 65536 / 1000 : Nat) ≤ burstTok e.cfg.minBurst →
        e.minTok + (e.cfg.minRate * 65536 / 1000 : Nat) ≤ u.minTok ∧ u.minTok ≤ e.minTok + (e.cfg.minRate * 65536 / 1000 + 1 : Nat)) ∧
      (e.cfg.minEn = true → u.minTok ≤ burstTok e.cfg.minBurst) ∧ (e.cfg.maxEn = true → u.maxTok ≤ burstTok e.cfg.maxBurst) ∧
      (e.cfg.minEn = false → u.minTok = e.minTok) ∧ (e.cfg.maxEn = false → u.maxTok = e.maxTok) := by
  intro u e
  have hpend : e.pend = none := Shaper.commit_pend _
  obtain ⟨lo, hi, fr, hmin, hrefill⟩ := b.refill_tells G n (e := e) rfl
  have hu : u = { e with minTok := refilled e.cfg.minEn e.minTok lo e.cfg.minBurst, maxTok := refilled e.cfg.maxEn e.maxTok hi e.cfg.maxBurst } := by
    rw [show u = (b.refill G n).shaper G n from rfl, hrefill, Block.shaper_setShaper, if_pos ⟨rfl, rfl⟩]
  rw [hu]
  refine ⟨rfl, hpend, fun hen _ hfit => ?_, fun hen => refilled_le hen _ _ _, fun hen => refilled_le hen _ _ _, fun hen => ?_, fun hen => ?_⟩
  · obtain ⟨hlo, hhi⟩ := hmin hen
    simp only [refilled, hen, if_true]
    omega
  · simp only [refilled, hen, Bool.false_eq_true, if_false]
  · simp only [refilled, hen, Bool.false_eq_true, if_false]

/-- Settles O31: a refill takes each bucket up to its burst, a visit of the sampler writes depth and delay and keeps the greatest. -/
theorem shapersRefillAndQueuesAreSampled : Obligations.ShapersRefillAndQueuesAreSampled := by
  refine ⟨fun b w G n v hreach => ⟨fun hbad => ?_, fun hok => ?_⟩, fun b d held => ?_, fun b d G n s run hG single => ?_,
    fun b G q => ⟨fun held => ?_, fun run hdepth => ⟨fun y r head => ?_, fun head silo => ?_⟩⟩, fun b w G v hreach => ⟨fun hclr => ?_, fun hclr => ?_⟩⟩
  · refine takes_congr (takes_of_write (f := Block.shaperCommit w G n v.toNat) hreach fun _ => rfl) ?_
    simp only [Block.shaperCommit, hbad, Bool.not_false, if_true]
  · have hcommit : b.shaperCommit w G n v.toNat = (b.storeReg w (shpCtrl G n) v.toNat).setShaper G n { b.shaper G n with pend := some (b.shStaged G n v.toNat) } := by
      simp only [Block.shaperCommit, hok, Bool.not_true, Bool.false_eq_true, if_false]
    refine ⟨_, takes_of_write (f := Block.shaperCommit w G n v.toNat) hreach fun _ => rfl, ?_⟩
    rw [hcommit]
    have hsame (m : Nat) : (b.storeReg w (shpCtrl G n) v.toNat).shaper G m = b.shaper G m := by
      rw [Block.shaper, Block.storeReg_region, Block.shaper]
    refine ⟨?_, fun m hm => ?_, fun a ha => ?_⟩
    · rw [Block.shaper_setShaper, if_pos ⟨rfl, rfl⟩]
    · rw [Block.shaper_setShaper, if_neg fun h => hm h.2, hsame]
    · rw [Block.setShaper, Block.modRegion_word, Block.word_storeReg_other _ _ _ ha]
  · refine takes_congr (takes_shaperRefill b d) ?_
    simp only [Block.shaperRefill, held, if_true]
  · obtain ⟨⟨e, hs, he⟩, hother, hregs⟩ := Block.shaperRefill_single run hG single
    obtain ⟨hcfg, hpend, hrise, hmin, hmax, hoffMin, hoffMax⟩ := e.refill_shaper G n
    simp only [hs, ← he] at hcfg hpend hrise hmin hmax hoffMin hoffMax
    exact ⟨_, takes_shaperRefill b d, hcfg, hpend, hrise, hmin, hmax, hoffMin, hoffMax, hother, hregs⟩
  · refine takes_congr (takes_queueSample b G q) ?_
    simp only [Block.queueSample, held, if_true]
  · have hdelay : sat 0xFFFFFFFF (b.ticks - y.enq) < 2 ^ 32 := by rw [sat_eq_min]; omega
    obtain ⟨h1, h2, h3, h4⟩ := b.sampled_words G q.toNat hdepth hdelay
    refine ⟨_, takes_queueSample b G q, ?_⟩
    obtain ⟨hregions, hctrs, -⟩ := b.sampled_rest G q.toNat (((b.region G).queue q.toNat).onDie + ((b.region G).queue q.toNat).siloCells)
      (sat 0xFFFFFFFF (b.ticks - y.enq))
    obtain ⟨c, hc⟩ : ∃ c, b.sampled G q.toNat (((b.region G).queue q.toNat).onDie + ((b.region G).queue q.toNat).siloCells)
      (sat 0xFFFFFFFF (b.ticks - y.enq)) = c := ⟨_, rfl⟩
    have hsample := Block.queueSample_of_head run head
    rw [hc] at h1 h2 h3 h4 hsample hregions hctrs
    rcases hsample with h | h <;> rw [h]
    · exact ⟨h1, h2, h3, h4, hregions, hctrs⟩
    · simp only [Block.sendOncePerMs_word, Block.sendOncePerMs_regions, Block.sendOncePerMs_ctrs]
      exact ⟨h1, h2, h3, h4, hregions, hctrs⟩
  · refine ⟨_, takes_queueSample b G q, ?_⟩
    rw [Block.queueSample_of_empty run head silo]
    obtain ⟨-, hdelay, -⟩ := b.sampled_words G q.toNat hdepth (Nat.two_pow_pos 32)
    obtain ⟨hregions, -, hinflight⟩ := b.sampled_rest G q.toNat (((b.region G).queue q.toNat).onDie + ((b.region G).queue q.toNat).siloCells) 0
    exact ⟨hdelay, hinflight, hregions⟩
  · refine takes_congr (takes_of_write (f := Block.sampClrMax w G v.toNat) hreach fun _ => rfl) ?_
    simp only [Block.sampClrMax, hclr, beq_self_eq_true, if_true]
  · exact ⟨_, takes_of_write (f := Block.sampClrMax w G v.toNat) hreach fun _ => rfl, fun q hq => sampClrMax_tells G.isLt hq hclr⟩

end Sys2Proof.Machine
end

section
/-!
PROOFS. Gate lists: the stretches of a list, what a move of the list changes (R340 to R345), and O32 from these.
-/
namespace Sys2Proof.Machine
open Sys2Proof

variable {b c d : Block}

/-! ## The stretches of a list -/

/-- The stretch of a cycle that holds an instant: it is within the cycle, and its entry among those left. -/
theorem segIn_tells {ent : Nat → GateEntry} {c1 v n i t : Nat} (hn : 1 ≤ n) (ht : t ≤ v) (hv : v < c1) :
    (segIn ent c1 v n i t).start ≤ v ∧ v < (segIn ent c1 v n i t).stop ∧ (segIn ent c1 v n i t).entry < i + n ∧
      (segIn ent c1 v n i t).states = (ent (segIn ent c1 v n i t).entry).states := by
  induction n generalizing i t with
  | zero => omega
  | succ n ih =>
    unfold segIn
    dsimp only
    obtain ⟨e, he⟩ : ∃ e, (if n == 0 then c1 else min c1 (t + (ent i).interval)) = e := ⟨_, rfl⟩
    rw [he]
    split
    · rename_i hlast
      refine ⟨ht, ?_, by dsimp only; omega, rfl⟩
      simp only [Bool.or_eq_true, decide_eq_true_eq, beq_iff_eq] at hlast
      rcases hlast with h | h
      · exact h
      · rw [← he, h]
        exact hv
    · rename_i hmore
      simp only [Bool.or_eq_true, decide_eq_true_eq, beq_iff_eq, not_or, Nat.not_lt] at hmore
      obtain ⟨hstart, hstop, hentry, hstates⟩ := ih (i := i + 1) (t := e) (by omega) hmore.1
      exact ⟨hstart, hstop, by omega, hstates⟩

/-- The cycle that holds an instant from the base time on. -/
theorem GateList.cycleOf_tells {l : GateList} {v : Nat} (hcycle : 1 ≤ l.cycle) (hbase : l.base ≤ v) :
    l.cycleOf v ≤ v ∧ v < l.cycleOf v + l.cycle ∧ (l.cycleOf v - l.base) % l.cycle = 0 := by
  have hmod := Nat.mod_lt (v - l.base) (show l.cycle > 0 by omega)
  have hle := Nat.mod_le (v - l.base) l.cycle
  unfold GateList.cycleOf
  rw [if_pos hbase]
  refine ⟨by omega, by omega, ?_⟩
  rw [show v - (v - l.base) % l.cycle - l.base = v - l.base - (v - l.base) % l.cycle by omega]
  exact Nat.sub_mod_eq_zero_of_mod_eq (Nat.mod_mod _ _).symm

/-! ## What a list goes by -/

theorem Block.seen_only (b : Block) (p got : Nat) : ∃ rg, b.seen p got = { b with regions := rg } := by
  unfold Block.seen
  dsimp only
  generalize List.filterMap _ _ = l
  suffices hall : ∀ c : Block, ∃ rg, l.foldl (fun b x =>
      if (((b.region (rgnOfPort p)).frame x.sid).whole || decide (got ≤ ((b.region (rgnOfPort p)).frame x.sid).got)) = true then b
      else b.modStored (rgnOfPort p) x.sid fun s => { s with got := min got s.pkt.bytes.length }) c = { c with regions := rg } from hall b
  induction l with
  | nil => exact fun c => ⟨c.regions, rfl⟩
  | cons x l ih =>
    intro c
    rw [List.foldl_cons]
    split
    · exact ih c
    · obtain ⟨rg, h⟩ := ih (c.modStored (rgnOfPort p) x.sid fun s => { s with got := min got s.pkt.bytes.length })
      exact ⟨rg, by rw [h]; rfl⟩

/-- From b to c nothing changed but regions and counters, and messages were sent: what an edge of the gates, and its breaks, change. -/
structure Block.OnBreaks (b c : Block) : Prop where
  only : ∃ rg cs inf lm, c = { b with regions := rg, ctrs := cs, inflight := inf, lastMsg := lm }
  sent : ∃ l, c.inflight = b.inflight ++ l

theorem Block.sendOncePerMs_sent (b : Block) (t i k x : Nat) : ∃ l, (b.sendOncePerMs t i k x).inflight = b.inflight ++ l := by
  unfold Block.sendOncePerMs Block.sendLimited
  dsimp only
  split
  · exact ⟨[], (List.append_nil _).symm⟩
  · exact ⟨_, rfl⟩

namespace Block.OnBreaks

theorem refl (b : Block) : b.OnBreaks b := ⟨⟨_, _, _, _, rfl⟩, [], (List.append_nil _).symm⟩
theorem trans (h : b.OnBreaks c) (h' : c.OnBreaks d) : b.OnBreaks d := by
  obtain ⟨l, hl⟩ := h.sent
  obtain ⟨l', hl'⟩ := h'.sent
  refine ⟨?_, l ++ l', by rw [hl', hl, List.append_assoc]⟩
  obtain ⟨rg, cs, inf, lm, rfl⟩ := h.only
  obtain ⟨rg', cs', inf', lm', rfl⟩ := h'.only
  exact ⟨_, _, _, _, rfl⟩
theorem seen (h : b.OnBreaks c) (p got : Nat) : b.OnBreaks (c.seen p got) := by
  obtain ⟨rg, hs⟩ := c.seen_only p got
  exact h.trans ⟨⟨rg, c.ctrs, c.inflight, c.lastMsg, hs⟩, [], by rw [hs, List.append_nil]⟩
theorem count (h : b.OnBreaks c) (a n : Nat) : b.OnBreaks (c.count a n) :=
  h.trans ⟨⟨c.regions, (c.count a n).ctrs, c.inflight, c.lastMsg, c.count_only a n⟩, [], by rw [Block.count_inflight, List.append_nil]⟩
theorem sendOncePerMs (h : b.OnBreaks c) (t i k x : Nat) : b.OnBreaks (c.sendOncePerMs t i k x) :=
  h.trans ⟨⟨c.regions, c.ctrs, _, _, c.sendOncePerMs_only t i k x⟩, c.sendOncePerMs_sent t i k x⟩
theorem breakOf (h : b.OnBreaks c) (G q t : Nat) : b.OnBreaks (c.breakOf G q t) :=
  ((h.count _ _).count _ _).sendOncePerMs _ _ _ _
theorem foldl {α : Type} {f : Block → α → Block} (hf : ∀ (c : Block) x, c.OnBreaks (f c x)) (h : b.OnBreaks c) (l : List α) :
    b.OnBreaks (l.foldl f c) := by
  induction l generalizing c with
  | nil => exact h
  | cons x l ih => exact ih (h.trans (hf c x))

theorem gateEdge (h : b.OnBreaks c) (p old new : Nat) : b.OnBreaks (c.gateEdge p old new) := by
  unfold Block.gateEdge
  split
  · exact h
  · extract_lets G lo late ahead queues
    refine foldl (fun e q => ?_) h _
    extract_lets t holds x s
    have hx : e.OnBreaks x := by
      dsimp only [x]
      split
      · exact (refl e).breakOf _ _ _
      · exact refl e
    clear_value x
    split
    · split
      · split
        · exact hx.breakOf _ _ _
        · exact hx
      · exact hx
    · exact hx

theorem regs (h : b.OnBreaks c) : c.regs = b.regs := by obtain ⟨rg, cs, inf, lm, rfl⟩ := h.only; rfl
theorem word (h : b.OnBreaks c) (a : Nat) : c.word a = b.word a := Block.word_of_regs h.regs a
theorem port (h : b.OnBreaks c) (p : Nat) : c.port p = b.port p := by obtain ⟨rg, cs, inf, lm, rfl⟩ := h.only; rfl
theorem tbase (h : b.OnBreaks c) (i : Nat) : c.tbase i = b.tbase i := by obtain ⟨rg, cs, inf, lm, rfl⟩ := h.only; rfl
theorem portBase (h : b.OnBreaks c) (p : Nat) : c.portBase p = b.portBase p := by obtain ⟨rg, cs, inf, lm, rfl⟩ := h.only; rfl
theorem portNs (h : b.OnBreaks c) (p : Nat) : c.portNs p = b.portNs p := by obtain ⟨rg, cs, inf, lm, rfl⟩ := h.only; rfl
theorem gateSeg (h : b.OnBreaks c) (p v : Nat) : c.gateSeg p v = b.gateSeg p v := by obtain ⟨rg, cs, inf, lm, rfl⟩ := h.only; rfl
theorem gateRuns (h : b.OnBreaks c) (p : Nat) : c.gateRuns p = b.gateRuns p := by obtain ⟨rg, cs, inf, lm, rfl⟩ := h.only; rfl
theorem operList (h : b.OnBreaks c) (p : Nat) : c.operList p = b.operList p := by obtain ⟨rg, cs, inf, lm, rfl⟩ := h.only; rfl
theorem operBank (h : b.OnBreaks c) (p : Nat) : c.operBank p = b.operBank p := by obtain ⟨rg, cs, inf, lm, rfl⟩ := h.only; rfl

end Block.OnBreaks

/-! ## A move of the list -/

theorem gateStatus_page (p : Nat) : R.PRT_GATE_STATUS p = prtBase p + 0x81C := rfl

/-- What a move of port p's list to the stretch at v does. -/
theorem Block.gateMove_tells (h : b.OnBreaks c) (p v : Nat) :
    let t := c.gateMove p v
    let n := b.gateSeg p v
    (t.port p).gate = { (b.port p).gate with entryAt := n.start, run := true, resumeAt := none, holdTill := none } ∧
      t.fld (R.PRT_GATE_STATUS p) F.PRT_GATE_STATUS_ENTRY = n.entry % 2 ^ 10 ∧
      (∀ a, a ≠ R.PRT_GATE_STATUS p → t.word a = b.word a) ∧ ∀ q, q ≠ p → t.port q = b.port q := by
  intro t n
  obtain ⟨e, he⟩ : ∃ e, c.gateEdge p (c.gateShown p (c.gateSeg p (c.port p).gate.entryAt).states) (c.gateSeg p v).states = e := ⟨_, rfl⟩
  have hedge : b.OnBreaks e := he ▸ h.gateEdge _ _ _
  have ht : t = (e.modPort p fun x =>
      { x with gate := { x.gate with entryAt := n.start, run := true, resumeAt := none, holdTill := none } }).setFld (R.PRT_GATE_STATUS p)
        F.PRT_GATE_STATUS_ENTRY n.entry := by
    rw [show n = c.gateSeg p v from (h.gateSeg p v).symm, ← he]
    rfl
  rw [ht]
  refine ⟨?_, ?_, fun a ha => ?_, fun q hq => ?_⟩
  · rw [Block.setFld_port, Block.port_modPort, if_pos rfl, hedge.port]
  · rw [Block.fld_setFld_same _ _ _ _ (by decide) (by decide)]
    rfl
  · rw [Block.word_setFld, if_neg ha, Block.modPort_word, hedge.word]
  · rw [Block.setFld_port, Block.port_modPort, if_neg hq, hedge.port]

theorem takes_gateEntryEnd (b : Block) (p : Fin 256) (got : Nat) : Takes (.gateEntryEnd ⟨p, got⟩) b (b.gateEntryEnd p got) := fun _ => rfl
theorem takes_gateCycleStart (b : Block) (p : Fin 256) (got : Nat) : Takes (.gateCycleStart ⟨p, got⟩) b (b.gateCycleStart p got) :=
  fun _ => rfl

/-- GATE_ENTRY_END, by what holds of the block that it finds. -/
theorem Block.gateEntryEnd_eq (b : Block) (p got : Nat) {s : GateSeg} (hs : b.gateSeg p (b.port p).gate.entryAt = s) :
    b.gateEntryEnd p got =
      if b.gateRuns p = true ∧ s.stop ≤ b.portNs p ∧ (b.operList p).cycleOf s.stop ≠ s.stop ∧ (b.port p).gate.changeAt ≠ some s.stop then
        (b.seen p got).gateMove p s.stop
      else b.seen p got := by
  have h := (Block.OnBreaks.refl b).seen p got
  unfold Block.gateEntryEnd
  dsimp only
  rw [h.port, h.gateSeg, h.gateRuns, h.portNs, h.operList, hs]
  simp only [Bool.and_eq_true, decide_eq_true_eq, bne_iff_ne, Bool.not_eq_true', beq_eq_false_iff_ne, ge_iff_le, and_assoc]

section
variable (p got : Nat)

/-- GATE_CYCLE_START of a list that runs. -/
theorem Block.gateCycleStart_of_run {s : GateSeg} (hs : b.gateSeg p (b.port p).gate.entryAt = s) (hrun : b.gateRuns p = true) :
    b.gateCycleStart p got =
      if s.stop ≤ b.portNs p ∧ (b.operList p).cycleOf s.stop = s.stop ∧ (b.port p).gate.changeAt ≠ some s.stop then
        (b.seen p got).gateMove p s.stop
      else b.seen p got := by
  have h := (Block.OnBreaks.refl b).seen p got
  simp only [Block.gateRuns, Bool.and_eq_true, beq_iff_eq] at hrun
  obtain ⟨hstep, hrun⟩ := hrun
  unfold Block.gateCycleStart
  dsimp only
  rw [h.port, h.gateSeg, h.portNs, h.operList, h.portBase, h.tbase, hs, hstep, hrun, if_neg (by decide), if_pos rfl]
  simp only [Bool.and_eq_true, decide_eq_true_eq, bne_iff_ne, beq_iff_eq, ge_iff_le, and_assoc]

/-- GATE_CYCLE_START of a list that was stopped, on a base that is stepped. -/
theorem Block.gateCycleStart_of_stopped (hstep : (b.tbase (b.portBase p)).state = .stepped) (hrun : (b.port p).gate.run = false) {v : Nat}
    (hresume : (b.port p).gate.resumeAt = some v) :
    b.gateCycleStart p got = if v ≤ b.portNs p then (b.seen p got).gateMove p v else b.seen p got := by
  have h := (Block.OnBreaks.refl b).seen p got
  unfold Block.gateCycleStart
  dsimp only
  rw [h.port, h.portNs, h.portBase, h.tbase, hstep, hrun, hresume, if_neg (by decide), if_neg Bool.false_ne_true]

theorem Block.gateCycleStart_of_unstepped (hstep : (b.tbase (b.portBase p)).state ≠ .stepped) : b.gateCycleStart p got = b.seen p got := by
  have h := (Block.OnBreaks.refl b).seen p got
  unfold Block.gateCycleStart
  dsimp only
  rw [h.portBase, h.tbase, if_pos (by simpa using hstep)]

end

/-- Settles O32: the stretch at the end of the one in force takes effect, by the one command within a cycle, by the other at its start. -/
theorem gateListsRunEntryByEntry : Obligations.GateListsRunEntryByEntry := by
  refine ⟨fun b p v l hcount hcycle hbase _ => ?_, fun b p got => ?_⟩
  · obtain ⟨hle, hlt, hmod⟩ := GateList.cycleOf_tells hcycle hbase
    obtain ⟨hstart, hstop, hentry, hstates⟩ := segIn_tells (ent := b.gateEntry p l.bank) (i := 0) hcount hle hlt
    exact ⟨hstart, hstop, by rwa [Nat.zero_add] at hentry, hstates, hle, hlt, hmod⟩
  · intro g s still starts moves
    have hmoves (v : Nat) : moves v ((b.seen p got).gateMove p v) := Block.gateMove_tells ((Block.OnBreaks.refl b).seen p got) p v
    have hend := b.gateEntryEnd_eq p got (s := s) rfl
    have hcycle (run : b.gateRuns p = true) := Block.gateCycleStart_of_run p got (s := s) rfl run
    have htakeEnd := takes_gateEntryEnd b p got
    have htakeCycle := takes_gateCycleStart b p got
    refine ⟨fun run due uncut => ⟨fun hinside => ⟨?_, ?_⟩, fun hstart => ⟨?_, ?_⟩⟩, fun run hnot => ⟨?_, ?_⟩,
      fun v hstep hstop hresume => ⟨fun due => ?_, fun early => ?_⟩, fun hstep => ⟨?_, ?_⟩⟩
    · rw [if_pos ⟨run, due, hinside, uncut⟩] at hend
      exact ⟨_, takes_congr htakeEnd hend, hmoves _⟩
    · exact takes_congr htakeCycle ((hcycle run).trans (if_neg fun h => hinside h.2.1))
    · exact ⟨_, takes_congr htakeCycle ((hcycle run).trans (if_pos ⟨due, hstart, uncut⟩)), hmoves _⟩
    · exact takes_congr htakeEnd (hend.trans (if_neg fun h => h.2.2.1 hstart))
    · refine takes_congr htakeEnd (hend.trans (if_neg fun ⟨_, due, _, uncut⟩ => ?_))
      exact hnot.elim (fun h => absurd due (by omega)) uncut
    · refine takes_congr htakeCycle ((hcycle run).trans (if_neg fun ⟨due, _, uncut⟩ => ?_))
      exact hnot.elim (fun h => absurd due (by omega)) uncut
    · have h := Block.gateCycleStart_of_stopped p got hstep hstop hresume
      exact ⟨_, takes_congr htakeCycle (h.trans (if_pos due)), hmoves _⟩
    · have h := Block.gateCycleStart_of_stopped p got hstep hstop hresume
      exact takes_congr htakeCycle (h.trans (if_neg (by omega)))
    · refine takes_congr htakeEnd (hend.trans (if_neg fun h => hstep ?_))
      simpa using (Bool.and_eq_true_iff.mp h.1).1
    · exact takes_congr htakeCycle (Block.gateCycleStart_of_unstepped p got hstep)

end Sys2Proof.Machine
end

section
/-!
PROOFS. Changes of the gate lists (R343, R344, R348): requests, cancels, the change itself, the entries written; and O33 from these.
-/
namespace Sys2Proof.Machine
open Sys2Proof

variable {b c d : Block}

/-! ## Requests -/

theorem Block.replan_cases (b : Block) (p : Nat) :
    b.replan p = b ∨ b.replan p = b.modPort p fun x => { x with switchAt := some (b.cycleEnd p) } := by
  unfold Block.replan
  dsimp only
  split
  · exact .inr rfl
  · exact .inl rfl

/-- A plan of a switch changes neither a gate nor a register, nor another port. -/
theorem Block.replan_tells (b : Block) (p : Nat) :
    ((b.replan p).port p).gate = (b.port p).gate ∧ (∀ q, q ≠ p → (b.replan p).port q = b.port q) ∧ ∀ a, (b.replan p).word a = b.word a := by
  rcases b.replan_cases p with h | h <;> rw [h]
  · exact ⟨rfl, fun _ _ => rfl, fun _ => rfl⟩
  · exact ⟨by rw [Block.port_modPort, if_pos rfl], fun q hq => by rw [Block.port_modPort, if_neg hq], fun _ => rfl⟩

/-- The gate of port p with v for its change time, and its switch planned by that. -/
theorem Block.changeAt_tells (b : Block) (p : Nat) (v : Option Nat) :
    let t := (b.modPort p fun x => { x with gate := { x.gate with changeAt := v } }).replan p
    (t.port p).gate = { (b.port p).gate with changeAt := v } ∧ (∀ q, q ≠ p → t.port q = b.port q) ∧ ∀ a, t.word a = b.word a := by
  intro t
  obtain ⟨hgate, hport, hword⟩ := (b.modPort p fun x => { x with gate := { x.gate with changeAt := v } }).replan_tells p
  refine ⟨?_, fun q hq => ?_, fun a => ?_⟩
  · rw [hgate, Block.port_modPort, if_pos rfl]
  · rw [hport q hq, Block.port_modPort, if_neg hq]
  · rw [hword, Block.modPort_word]

/-- The first instant of a cycle at or after v: as many cycles on as it takes, and no more. -/
theorem firstFrom_tells (base v : Nat) {cycle : Nat} (hcycle : 1 ≤ cycle) :
    ∃ n, firstFrom base cycle v = base + n * cycle ∧ v ≤ firstFrom base cycle v ∧ (n ≠ 0 → firstFrom base cycle v < v + cycle) := by
  unfold firstFrom
  split
  · exact ⟨0, by omega, by omega, fun h => absurd rfl h⟩
  · refine ⟨(v - base + cycle - 1) / cycle, rfl, ?_, fun _ => ?_⟩
    all_goals
      have hdiv := Nat.div_add_mod (v - base + cycle - 1) cycle
      have hmod := Nat.mod_lt (v - base + cycle - 1) (show cycle > 0 by omega)
      rw [Nat.mul_comm] at hdiv
      omega

theorem gateStatus_ne_low (p : Nat) {a : Nat} (h : a < 0x4000000) : a ≠ R.PRT_GATE_STATUS p := by
  unfold R.PRT_GATE_STATUS prtBase rgnBase dieBase
  omega

theorem Block.raise_portNs (b : Block) (p : Nat) (f : Bf) (q : Nat) :
    (b.raise (R.PRT_GATE_STATUS p) f).portNs q = b.portNs q ∧ (b.raise (R.PRT_GATE_STATUS p) f).portBase q = b.portBase q ∧
      ∀ i, (b.raise (R.PRT_GATE_STATUS p) f).tbase i = b.tbase i := by
  have htbase (i : Nat) : (b.raise (R.PRT_GATE_STATUS p) f).tbase i = b.tbase i := by
    rw [Block.tbase, Block.raise_baseA, Block.raise_baseB, Block.tbase]
  have hactive (g : Bf) : (b.raise (R.PRT_GATE_STATUS p) f).fld R.TIM_ACTIVE_STATUS g = b.fld R.TIM_ACTIVE_STATUS g :=
    Block.fld_setFld_other _ _ _ _ (gateStatus_ne_low p (by decide))
  have hbase : (b.raise (R.PRT_GATE_STATUS p) f).portBase q = b.portBase q := by
    rw [Block.portBase, Block.active, hactive, hactive, Block.raise_port, Block.portBase, Block.active]
  exact ⟨by rw [Block.portNs, hbase, htbase, Block.portNs], hbase, htbase⟩

theorem Block.raise_adminWord (b : Block) (p : Nat) (f : Bf) {o : Nat} (ho : o < 0x81C) :
    (b.raise (R.PRT_GATE_STATUS p) f).word (prtBase p + o) = b.word (prtBase p + o) := by
  rw [Block.raise, Block.word_setFld, if_neg (by unfold R.PRT_GATE_STATUS; omega)]

theorem Block.badChange_cycle {p : Nat} (h : b.badChange p = false) : 1000 ≤ b.word (R.PRT_GATE_ADMIN_CYCLE p) := by
  unfold Block.badChange at h
  simp only [Bool.or_eq_false_iff, decide_eq_false_iff_not] at h
  obtain ⟨⟨⟨⟨⟨⟨-, -⟩, -⟩, hlow⟩, -⟩, -⟩, -⟩ := h
  omega

/-- A list that is requested on a base that runs gets its change time. -/
theorem Block.gateRequest_tells {w : Writer} {p v : Nat} (hset : F.PRT_GATE_CTRL_CHANGE.of v = 1) (hok : b.badChange p = false)
    (hstep : (b.tbase (b.portBase p)).state = .stepped) :
    let t := b.gateRequest w p v
    t.flag (R.PRT_GATE_STATUS p) F.PRT_GATE_STATUS_PENDING = true ∧
      ∃ n c, (t.port p).gate = { (b.port p).gate with changeAt := some c } ∧ c = b.adminBase p + n * b.word (R.PRT_GATE_ADMIN_CYCLE p) ∧
        b.portNs p + 2000 ≤ c ∧ (n ≠ 0 → c < b.portNs p + 2000 + b.word (R.PRT_GATE_ADMIN_CYCLE p)) := by
  intro t
  obtain ⟨hns, hbase, htbase⟩ := b.raise_portNs p F.PRT_GATE_STATUS_PENDING p
  have hword {o : Nat} (ho : o < 0x81C) := b.raise_adminWord p F.PRT_GATE_STATUS_PENDING ho
  have hadmin : (b.raise (R.PRT_GATE_STATUS p) F.PRT_GATE_STATUS_PENDING).adminBase p = b.adminBase p := by
    unfold Block.adminBase R.PRT_GATE_ADMIN_BASE_S_HI R.PRT_GATE_ADMIN_BASE_S_LO R.PRT_GATE_ADMIN_BASE_NS
    rw [hword (by decide), hword (by decide), hword (by decide)]
  have hcycle : (b.raise (R.PRT_GATE_STATUS p) F.PRT_GATE_STATUS_PENDING).word (R.PRT_GATE_ADMIN_CYCLE p) =
      b.word (R.PRT_GATE_ADMIN_CYCLE p) := hword (by decide)
  obtain ⟨n, hc, hle, hlt⟩ := firstFrom_tells (b.adminBase p) (b.portNs p + 2000) (cycle := b.word (R.PRT_GATE_ADMIN_CYCLE p))
    (by have := Block.badChange_cycle hok; omega)
  obtain ⟨hgate, -, hwords⟩ := (b.raise (R.PRT_GATE_STATUS p) F.PRT_GATE_STATUS_PENDING).changeAt_tells p
    (some (firstFrom (b.adminBase p) (b.word (R.PRT_GATE_ADMIN_CYCLE p)) (b.portNs p + 2000)))
  have ht : t = ((b.raise (R.PRT_GATE_STATUS p) F.PRT_GATE_STATUS_PENDING).modPort p fun x => { x with gate := { x.gate with
      changeAt := some (firstFrom (b.adminBase p) (b.word (R.PRT_GATE_ADMIN_CYCLE p)) (b.portNs p + 2000)) } }).replan p := by
    rw [show t = b.gateRequest w p v from rfl]
    unfold Block.gateRequest Block.planChange
    rw [hset, hok, if_neg (by decide), if_neg Bool.false_ne_true, hbase, htbase, hstep, if_pos (by decide)]
    dsimp only
    rw [hadmin, hcycle, hns]
  rw [ht]
  refine ⟨?_, n, _, ?_, hc, hle, hlt⟩
  · rw [Block.flag, Block.fld, hwords, ← Block.fld, ← Block.flag]
    exact Block.flag_raise _ _ _ (by decide) (by decide)
  · rw [hgate, Block.raise_port]

/-- A request that is cancelled is pending no longer. -/
theorem Block.gateCancel_tells {w : Writer} {p v : Nat} (hset : F.PRT_GATE_CTRL_CANCEL.of v = 1) :
    let t := b.gateCancel w p v
    t.flag (R.PRT_GATE_STATUS p) F.PRT_GATE_STATUS_PENDING = false ∧ (t.port p).gate = { (b.port p).gate with changeAt := none } ∧
      (∀ a, a ≠ R.PRT_GATE_STATUS p → t.word a = b.word a) ∧ ∀ q, q ≠ p → t.port q = b.port q := by
  intro t
  obtain ⟨hgate, hport, hword⟩ := (b.lower (R.PRT_GATE_STATUS p) F.PRT_GATE_STATUS_PENDING).changeAt_tells p none
  have ht : t = ((b.lower (R.PRT_GATE_STATUS p) F.PRT_GATE_STATUS_PENDING).modPort p fun x =>
      { x with gate := { x.gate with changeAt := none } }).replan p := by
    rw [show t = b.gateCancel w p v from rfl]
    unfold Block.gateCancel
    rw [hset, if_neg (by decide)]
  rw [ht]
  refine ⟨?_, ?_, fun a ha => ?_, fun q hq => ?_⟩
  · rw [Block.flag, Block.fld, hword, ← Block.fld, ← Block.flag]
    exact Block.flag_lower _ _ _ (by decide) (by decide)
  · rw [hgate, Block.lower_port]
  · rw [hword, Block.lower, Block.word_setFld, if_neg ha]
  · rw [hport q hq, Block.lower_port]

/-! ## Entries -/

theorem Block.gclAddr_tells (b : Block) (w : Writer) (p v : Nat) :
    let t := b.gclAddr w p v
    t.word (R.PRT_GCL_ADDR p) = (b.storeReg w (R.PRT_GCL_ADDR p) v).word (R.PRT_GCL_ADDR p) ∧
      (let e := b.gateEntry p (t.fld (R.PRT_GCL_ADDR p) F.PRT_GCL_ADDR_BANK) (t.fld (R.PRT_GCL_ADDR p) F.PRT_GCL_ADDR_ENTRY)
       t.word (R.PRT_GCL_DATA0 p) = e.states % 2 ^ 32 ∧ t.word (R.PRT_GCL_DATA1 p) = e.interval % 2 ^ 32) ∧ t.ports = b.ports := by
  intro t
  obtain ⟨c, hc⟩ : ∃ c, b.storeReg w (R.PRT_GCL_ADDR p) v = c := ⟨_, rfl⟩
  have hports : c.ports = b.ports := by rw [← hc, Block.storeReg_ports]
  have hentry (k i : Nat) : c.gateEntry p k i = b.gateEntry p k i := by rw [Block.gateEntry, Block.port, hports, Block.gateEntry, Block.port]
  obtain ⟨e, he⟩ : ∃ e, b.gateEntry p (c.fld (R.PRT_GCL_ADDR p) F.PRT_GCL_ADDR_BANK) (c.fld (R.PRT_GCL_ADDR p) F.PRT_GCL_ADDR_ENTRY) = e :=
    ⟨_, rfl⟩
  have ht : t = (c.setWord (R.PRT_GCL_DATA0 p) e.states).setWord (R.PRT_GCL_DATA1 p) e.interval := by
    rw [show t = b.gclAddr w p v from rfl]
    unfold Block.gclAddr
    dsimp only
    rw [hc, hentry, he]
  have hne : R.PRT_GCL_DATA0 p ≠ R.PRT_GCL_DATA1 p ∧ R.PRT_GCL_ADDR p ≠ R.PRT_GCL_DATA0 p ∧ R.PRT_GCL_ADDR p ≠ R.PRT_GCL_DATA1 p := by
    unfold R.PRT_GCL_DATA0 R.PRT_GCL_DATA1 R.PRT_GCL_ADDR
    omega
  obtain ⟨h01, h0, h1⟩ := hne
  have haddr : t.word (R.PRT_GCL_ADDR p) = c.word (R.PRT_GCL_ADDR p) := by
    rw [ht, Block.word_setWord_other _ _ h1, Block.word_setWord_other _ _ h0]
  rw [hc]
  refine ⟨haddr, ?_, by rw [ht, Block.setWord_ports, Block.setWord_ports, hports]⟩
  rw [Block.fld, Block.fld, haddr, ← Block.fld, ← Block.fld, he, ht]
  exact ⟨by rw [Block.word_setWord_other _ _ h01, Block.word_setWord_same], Block.word_setWord_same _ _ _⟩

theorem Block.gclWrite_tells {w : Writer} {p v bank i : Nat} (hbank : b.fld (R.PRT_GCL_ADDR p) F.PRT_GCL_ADDR_BANK = bank)
    (hi : b.fld (R.PRT_GCL_ADDR p) F.PRT_GCL_ADDR_ENTRY = i) (hother : bank ≠ b.operBank p)
    (hidle : b.flag (R.PRT_GATE_STATUS p) F.PRT_GATE_STATUS_PENDING = false) :
    let t := b.gclWrite w p v
    t.gateEntry p bank i = ⟨b.word (R.PRT_GCL_DATA0 p) % 256, t.word (R.PRT_GCL_DATA1 p) % 2 ^ 30⟩ ∧
      ∀ k j, j < 1024 → (k, j) ≠ (bank, i) → t.gateEntry p k j = b.gateEntry p k j := by
  intro t
  obtain ⟨c, hc⟩ : ∃ c, b.storeReg w (R.PRT_GCL_DATA1 p) v = c := ⟨_, rfl⟩
  have hport : c.port p = b.port p := by rw [← hc, Block.storeReg_port]
  have hdata : c.word (R.PRT_GCL_DATA0 p) = b.word (R.PRT_GCL_DATA0 p) := by
    rw [← hc, Block.word_storeReg_other _ _ _ (by unfold R.PRT_GCL_DATA0 R.PRT_GCL_DATA1; omega)]
  have haddr : c.word (R.PRT_GCL_ADDR p) = b.word (R.PRT_GCL_ADDR p) := by
    rw [← hc, Block.word_storeReg_other _ _ _ (by unfold R.PRT_GCL_ADDR R.PRT_GCL_DATA1; omega)]
  have hsmall : i < 1024 := hi ▸ Bf.of_lt F.PRT_GCL_ADDR_ENTRY _
  obtain ⟨e, he⟩ : ∃ e : GateEntry, ⟨b.word (R.PRT_GCL_DATA0 p) % 256, c.word (R.PRT_GCL_DATA1 p) % 2 ^ 30⟩ = e := ⟨_, rfl⟩
  have ht : t = c.modPort p fun x => { x with gate := { x.gate with banks := SMap.set {} x.gate.banks (bank * 1024 + i) e } } := by
    rw [show t = b.gclWrite w p v from rfl]
    unfold Block.gclWrite
    dsimp only
    rw [if_neg (by simp [hbank, hother, hidle]), hc, hdata, Block.fld, Block.fld, haddr, ← Block.fld, ← Block.fld, hbank, hi, he]
  have hentry (k j : Nat) : t.gateEntry p k j = if k * 1024 + j = bank * 1024 + i then e else b.gateEntry p k j := by
    rw [Block.gateEntry, ht, Block.port_modPort, if_pos rfl, SMap.get_set, hport, Block.gateEntry]
  refine ⟨?_, fun k j hj hne => ?_⟩
  · rw [hentry, if_pos rfl, ht, Block.modPort_word, he]
  · rw [hentry, if_neg]
    intro h
    exact hne (Prod.ext (by dsimp only; omega) (by dsimp only; omega))
/-! ## The change itself -/

/-- The administrative settings of port p become those of the operating list. -/
def Block.adminTaken (b : Block) (p : Nat) : Block :=
  let b := b.setWord (R.PRT_GATE_OPER_CYCLE p) (b.word (R.PRT_GATE_ADMIN_CYCLE p))
  let b := b.setWord (R.PRT_GATE_OPER_COUNT p) (b.word (R.PRT_GATE_ADMIN_COUNT p))
  let b := b.setWord (R.PRT_GATE_OPER_BASE_NS p) (b.word (R.PRT_GATE_ADMIN_BASE_NS p))
  let b := b.setWord (R.PRT_GATE_OPER_BASE_S_LO p) (b.word (R.PRT_GATE_ADMIN_BASE_S_LO p))
  b.setWord (R.PRT_GATE_OPER_BASE_S_HI p) (b.word (R.PRT_GATE_ADMIN_BASE_S_HI p))

theorem Block.adminTaken_words (b : Block) (p : Nat) :
    (b.adminTaken p).word (R.PRT_GATE_OPER_CYCLE p) = b.word (R.PRT_GATE_ADMIN_CYCLE p) ∧
      (b.adminTaken p).word (R.PRT_GATE_OPER_COUNT p) = b.word (R.PRT_GATE_ADMIN_COUNT p) ∧
      (b.adminTaken p).word (R.PRT_GATE_OPER_BASE_NS p) = b.word (R.PRT_GATE_ADMIN_BASE_NS p) ∧
      (b.adminTaken p).word (R.PRT_GATE_OPER_BASE_S_LO p) = b.word (R.PRT_GATE_ADMIN_BASE_S_LO p) ∧
      (b.adminTaken p).word (R.PRT_GATE_OPER_BASE_S_HI p) = b.word (R.PRT_GATE_ADMIN_BASE_S_HI p) ∧
      (b.adminTaken p).word (R.PRT_GATE_STATUS p) = b.word (R.PRT_GATE_STATUS p) := by
  have hmod (c : Block) (a : Nat) : c.word a % 2 ^ 32 = c.word a := Nat.mod_eq_of_lt (c.word_lt a)
  unfold Block.adminTaken R.PRT_GATE_OPER_BASE_S_HI R.PRT_GATE_OPER_BASE_S_LO R.PRT_GATE_OPER_BASE_NS R.PRT_GATE_OPER_COUNT
    R.PRT_GATE_OPER_CYCLE R.PRT_GATE_ADMIN_BASE_S_HI R.PRT_GATE_ADMIN_BASE_S_LO R.PRT_GATE_ADMIN_BASE_NS R.PRT_GATE_ADMIN_COUNT
    R.PRT_GATE_ADMIN_CYCLE R.PRT_GATE_STATUS
  simp only [Block.word_setWord, Nat.add_left_cancel_iff, Nat.reduceEqDiff, if_false, if_true, hmod, and_self]

theorem Block.adminTaken_ports (b : Block) (p : Nat) : (b.adminTaken p).ports = b.ports := by
  simp only [Block.adminTaken, Block.setWord_ports]

/-- The block at the change time of port p, c, with the edge of the gates judged. -/
def Block.listChanged (b : Block) (p c : Nat) : Block :=
  let st := R.PRT_GATE_STATUS p
  let b := ((b.setFld st F.PRT_GATE_STATUS_OPER_BANK (1 - b.operBank p)).adminTaken p).modPort p fun x =>
    { x with gate := { x.gate with changeAt := none, resumeAt := none, holdTill := none, run := true, entryAt := c } }
  let b := (b.setFld st F.PRT_GATE_STATUS_ENTRY 0).lower st F.PRT_GATE_STATUS_PENDING
  (b.raising 4 fun b => b.raise st F.PRT_GATE_STATUS_CHANGED).send 0xC p 0x48 0

theorem Block.gateChange_of_due {p got c : Nat} (hat : (b.port p).gate.changeAt = some c)
    (hstep : (b.tbase (b.portBase p)).state = .stepped) (hdue : c ≤ b.portNs p) :
    ∃ e, b.OnBreaks e ∧ b.gateChange p got = e.listChanged p c := by
  have h := (Block.OnBreaks.refl b).seen p got
  refine ⟨_, h.gateEdge p ((b.seen p got).gateShown p (b.gateSeg p (b.port p).gate.entryAt).states) (b.gateSeg p c).states, ?_⟩
  unfold Block.gateChange
  dsimp only
  rw [h.port, hat]
  dsimp only
  rw [h.portBase, h.tbase, h.portNs, hstep, if_neg (by simp [hdue]), h.gateSeg, h.gateSeg]
  rfl

theorem Block.gateChange_of_early {p got c : Nat} (hat : (b.port p).gate.changeAt = some c)
    (hnot : (b.tbase (b.portBase p)).state ≠ .stepped ∨ b.portNs p < c) : b.gateChange p got = b.seen p got := by
  have h := (Block.OnBreaks.refl b).seen p got
  unfold Block.gateChange
  dsimp only
  rw [h.port, hat]
  dsimp only
  rw [h.portBase, h.tbase, h.portNs, if_pos (by simpa using hnot)]

theorem Block.gateChange_of_none {p got : Nat} (hat : (b.port p).gate.changeAt = none) : b.gateChange p got = b.seen p got := by
  have h := (Block.OnBreaks.refl b).seen p got
  unfold Block.gateChange
  dsimp only
  rw [h.port, hat]

theorem Block.listChanged_tells (b : Block) (p c : Nat) :
    let t := b.listChanged p c
    let st := R.PRT_GATE_STATUS p
    t.operBank p = 1 - b.operBank p ∧ t.flag st F.PRT_GATE_STATUS_PENDING = false ∧
      t.flag st F.PRT_GATE_STATUS_CHANGED = true ∧ t.fld st F.PRT_GATE_STATUS_ENTRY = 0 ∧
      t.word (R.PRT_GATE_OPER_CYCLE p) = b.word (R.PRT_GATE_ADMIN_CYCLE p) ∧
      t.word (R.PRT_GATE_OPER_COUNT p) = b.word (R.PRT_GATE_ADMIN_COUNT p) ∧
      t.word (R.PRT_GATE_OPER_BASE_NS p) = b.word (R.PRT_GATE_ADMIN_BASE_NS p) ∧
      t.word (R.PRT_GATE_OPER_BASE_S_LO p) = b.word (R.PRT_GATE_ADMIN_BASE_S_LO p) ∧
      t.word (R.PRT_GATE_OPER_BASE_S_HI p) = b.word (R.PRT_GATE_ADMIN_BASE_S_HI p) ∧
      (t.port p).gate = { (b.port p).gate with changeAt := none, resumeAt := none, holdTill := none, run := true, entryAt := c } := by
  intro t st
  obtain ⟨e, he⟩ : ∃ e, (b.setFld st F.PRT_GATE_STATUS_OPER_BANK (1 - b.operBank p)).adminTaken p = e := ⟨_, rfl⟩
  obtain ⟨g, hg⟩ : ∃ g, (((e.modPort p fun x => { x with gate := { x.gate with changeAt := none, resumeAt := none, holdTill := none, run := true, entryAt := c } }).setFld st F.PRT_GATE_STATUS_ENTRY 0).lower st
    F.PRT_GATE_STATUS_PENDING) = g := ⟨_, rfl⟩
  have ht : t = (g.raising 4 fun b => b.raise st F.PRT_GATE_STATUS_CHANGED).send 0xC p 0x48 0 := by rw [← hg, ← he]; rfl
  have hword (a : Nat) : t.word a = (g.raise st F.PRT_GATE_STATUS_CHANGED).word a := by
    rw [ht, Block.send_word, (g.raising_tells 4 _).1]
  have hfld (f : Bf) : t.fld st f = (g.raise st F.PRT_GATE_STATUS_CHANGED).fld st f := congrArg f.of (hword st)
  have hrest {a : Nat} (ha : a ≠ st) : t.word a = e.word a := by
    rw [hword, Block.raise, Block.word_setFld, if_neg ha, ← hg, Block.lower, Block.word_setFld, if_neg ha, Block.word_setFld, if_neg ha,
      Block.modPort_word]
  obtain ⟨hcycle, hcount, hns, hlo, hhi, hstatus⟩ := (b.setFld st F.PRT_GATE_STATUS_OPER_BANK (1 - b.operBank p)).adminTaken_words p
  have hports := (b.setFld st F.PRT_GATE_STATUS_OPER_BANK (1 - b.operBank p)).adminTaken_ports p
  rw [he] at hcycle hcount hns hlo hhi hstatus hports
  have hbank : e.fld st F.PRT_GATE_STATUS_OPER_BANK = 1 - b.operBank p := by
    rw [Block.fld, hstatus, ← Block.fld, Block.fld_setFld_same _ _ _ _ (by decide) (by decide)]
    exact Nat.mod_eq_of_lt (by simp only [F.PRT_GATE_STATUS_OPER_BANK]; omega)
  have hadmin {a : Nat} (ha : a ≠ st) : (b.setFld st F.PRT_GATE_STATUS_OPER_BANK (1 - b.operBank p)).word a = b.word a := by
    rw [Block.word_setFld, if_neg ha]
  have hne {o : Nat} (ho : o ≠ 0x81C) : prtBase p + o ≠ st := by unfold st R.PRT_GATE_STATUS; omega
  refine ⟨?_, ?_, ?_, ?_, ?_, ?_, ?_, ?_, ?_, ?_⟩
  · rw [Block.operBank, hfld, Block.raise, Block.fld_setFld_apart _ _ _ _ _ (by decide) (by decide) (by decide) (by decide), ← hg, Block.lower,
      Block.fld_setFld_apart _ _ _ _ _ (by decide) (by decide) (by decide) (by decide),
      Block.fld_setFld_apart _ _ _ _ _ (by decide) (by decide) (by decide) (by decide), Block.modPort_fld, hbank]
  · rw [Block.flag, hfld, Block.raise, Block.fld_setFld_apart _ _ _ _ _ (by decide) (by decide) (by decide) (by decide), ← hg, ← Block.flag]
    exact Block.flag_lower _ _ _ (by decide) (by decide)
  · rw [Block.flag, hfld, ← Block.flag]
    exact Block.flag_raise _ _ _ (by decide) (by decide)
  · rw [hfld, Block.raise, Block.fld_setFld_apart _ _ _ _ _ (by decide) (by decide) (by decide) (by decide), ← hg, Block.lower,
      Block.fld_setFld_apart _ _ _ _ _ (by decide) (by decide) (by decide) (by decide), Block.fld_setFld_same _ _ _ _ (by decide) (by decide)]
    exact Nat.zero_mod _
  · exact (hrest (hne (by decide))).trans (hcycle.trans (hadmin (hne (by decide))))
  · exact (hrest (hne (by decide))).trans (hcount.trans (hadmin (hne (by decide))))
  · exact (hrest (hne (by decide))).trans (hns.trans (hadmin (hne (by decide))))
  · exact (hrest (hne (by decide))).trans (hlo.trans (hadmin (hne (by decide))))
  · exact (hrest (hne (by decide))).trans (hhi.trans (hadmin (hne (by decide))))
  · rw [ht, Block.send_port, Block.raising_port, Block.raise_port, ← hg, Block.lower_port, Block.setFld_port, Block.port_modPort, if_pos rfl,
      Block.port, hports, Block.setFld_ports, ← Block.port]

/-! ## The commands -/

theorem takes_gateChange (b : Block) (p : Fin 256) (got : Nat) : Takes (.gateChange ⟨p, got⟩) b (b.gateChange p got) := fun _ => rfl

section
variable {w : Writer} (p : Fin 256) (v : BitVec 32) (hreach : b.reaches w .prt = true)
include hreach

theorem takes_gateChangeRequest : Takes (.gateChangeRequest w p v) b (b.gateRequest w p v.toNat) :=
  takes_of_write (f := Block.gateRequest w p v.toNat) hreach fun _ => rfl
theorem takes_gateCancel : Takes (.gateCancel w p v) b (b.gateCancel w p v.toNat) :=
  takes_of_write (f := Block.gateCancel w p v.toNat) hreach fun _ => rfl
theorem takes_gclAddr : Takes (.gclAddr w p v) b (b.gclAddr w p v.toNat) :=
  takes_of_write (f := Block.gclAddr w p v.toNat) hreach fun _ => rfl
theorem takes_gclWrite : Takes (.gclWrite w p v) b (b.gclWrite w p v.toNat) :=
  takes_of_write (f := Block.gclWrite w p v.toNat) hreach fun _ => rfl

end

/-- Settles O33: a request plans its change time, and at that time the administrative list takes over. -/
theorem gateListsChangeAtTheirChangeTime : Obligations.GateListsChangeAtTheirChangeTime := by
  refine ⟨fun b w p v hreach => ?_, fun b p got => ⟨fun hnone => ?_, fun c hat => ⟨fun hnot => ?_, fun hstep hdue => ?_⟩⟩⟩
  · intro st g
    have hrequest := takes_gateChangeRequest p v hreach
    have hcancel := takes_gateCancel p v hreach
    refine ⟨fun hclear => takes_congr hrequest ?_, fun hset hbad => takes_congr hrequest ?_,
      fun hset hok hstep => ⟨_, hrequest, Block.gateRequest_tells hset hok hstep⟩, fun hset hok hstep => takes_congr hrequest ?_,
      fun hclear => takes_congr hcancel ?_, fun hset => ⟨_, hcancel, Block.gateCancel_tells hset⟩,
      ⟨_, takes_gclAddr p v hreach, b.gclAddr_tells w p v.toNat⟩, fun hshut => takes_congr (takes_gclWrite p v hreach) ?_,
      fun hother hidle => ⟨_, takes_gclWrite p v hreach, Block.gclWrite_tells rfl rfl hother hidle⟩⟩
    · simp only [Block.gateRequest, hclear, beq_self_eq_true, if_true]
    · unfold Block.gateRequest
      rw [hset, if_neg (by decide), if_pos hbad]
    · obtain ⟨-, hbase, htbase⟩ := b.raise_portNs p F.PRT_GATE_STATUS_PENDING p
      unfold Block.gateRequest Block.planChange
      rw [hset, hok, if_neg (by decide), if_neg Bool.false_ne_true, hbase, htbase, if_neg (by simpa using hstep)]
    · simp only [Block.gateCancel, hclear, beq_self_eq_true, if_true]
    · unfold Block.gclWrite
      dsimp only
      rw [if_pos (by simpa using hshut)]
  · exact takes_congr (takes_gateChange b p got) (Block.gateChange_of_none hnone)
  · exact takes_congr (takes_gateChange b p got) (Block.gateChange_of_early hat hnot)
  · obtain ⟨e, hedge, hchange⟩ := Block.gateChange_of_due (got := got) hat hstep hdue
    have htells := e.listChanged_tells p c
    simp only [hedge.operBank, hedge.word, hedge.port] at htells
    exact ⟨_, takes_congr (takes_gateChange b p got) hchange, htells⟩

end Sys2Proof.Machine
end

section
/-!
PROOFS. The time bases: arming, steps, switches of the active base, captures (R345, R353, R355 to R362, R369); and O34 from these.
-/
namespace Sys2Proof.Machine
open Sys2Proof

variable {b c d : Block}

/-! ## What the gates of a port change -/

/-- From b to c gates and planned switches of ports changed, with what their edges break and tell; registers, bases and the ports' own
bases stand. -/
structure Block.OnGates (b c : Block) : Prop where
  only : ∃ ps rg cs inf lm, c = { b with ports := ps, regions := rg, ctrs := cs, inflight := inf, lastMsg := lm }
  sent : ∃ l, c.inflight = b.inflight ++ l
  target : ∀ q, (c.port q).onTarget = (b.port q).onTarget

namespace Block.OnGates

theorem refl (b : Block) : b.OnGates b := ⟨⟨_, _, _, _, _, rfl⟩, ⟨[], (List.append_nil _).symm⟩, fun _ => rfl⟩
theorem trans (h : b.OnGates c) (h' : c.OnGates d) : b.OnGates d := by
  obtain ⟨l, hl⟩ := h.sent
  obtain ⟨l', hl'⟩ := h'.sent
  refine ⟨?_, ⟨l ++ l', by rw [hl', hl, List.append_assoc]⟩, fun q => (h'.target q).trans (h.target q)⟩
  obtain ⟨ps, rg, cs, inf, lm, rfl⟩ := h.only
  obtain ⟨ps', rg', cs', inf', lm', rfl⟩ := h'.only
  exact ⟨_, _, _, _, _, rfl⟩
theorem of_breaks (h : b.OnBreaks c) : b.OnGates c := by
  refine ⟨?_, h.sent, fun q => by rw [h.port]⟩
  obtain ⟨rg, cs, inf, lm, rfl⟩ := h.only
  exact ⟨_, _, _, _, _, rfl⟩
theorem modPort (h : b.OnGates c) (p : Nat) {f : Port → Port} (hf : ∀ x : Port, (f x).onTarget = x.onTarget) : b.OnGates (c.modPort p f) := by
  refine h.trans ⟨⟨_, _, _, _, _, rfl⟩, ⟨[], (List.append_nil _).symm⟩, fun q => ?_⟩
  rw [Block.port_modPort]
  split
  · rename_i e
    rw [hf, e]
  · rfl

theorem regs (h : b.OnGates c) : c.regs = b.regs := by obtain ⟨ps, rg, cs, inf, lm, rfl⟩ := h.only; rfl
theorem word (h : b.OnGates c) (a : Nat) : c.word a = b.word a := Block.word_of_regs h.regs a
theorem fld (h : b.OnGates c) (a : Nat) (f : Bf) : c.fld a f = b.fld a f := congrArg f.of (h.word a)
theorem flag (h : b.OnGates c) (a : Nat) (f : Bf) : c.flag a f = b.flag a f := by rw [Block.flag, h.fld, Block.flag]
theorem tbase (h : b.OnGates c) (i : Nat) : c.tbase i = b.tbase i := by obtain ⟨ps, rg, cs, inf, lm, rfl⟩ := h.only; rfl
theorem refLost (h : b.OnGates c) : c.refLost = b.refLost := by obtain ⟨ps, rg, cs, inf, lm, rfl⟩ := h.only; rfl
theorem portBase (h : b.OnGates c) (p : Nat) : c.portBase p = b.portBase p := by
  rw [Block.portBase, h.target, h.fld, Block.active, h.fld, Block.portBase, Block.active]

theorem replan (h : b.OnGates c) (p : Nat) : b.OnGates (c.replan p) := by
  rcases c.replan_cases p with e | e <;> rw [e]
  · exact h
  · exact h.modPort p fun _ => rfl
theorem planChange (h : b.OnGates c) (p : Nat) : b.OnGates (c.planChange p) := by
  unfold Block.planChange
  split
  · exact replan (modPort h p (by exact fun _ => rfl)) p
  · exact h
theorem gateFallback (h : b.OnGates c) (p : Nat) : b.OnGates (c.gateFallback p) := by
  unfold Block.gateFallback
  split
  · exact h.trans (of_breaks ((Block.OnBreaks.refl c).sendOncePerMs _ _ _ _))
  · exact h
theorem gateFalls (h : b.OnGates c) (p : Nat) : b.OnGates (c.gateFalls p) := by
  unfold Block.gateFalls
  split
  · exact h
  · exact h.trans (of_breaks ((Block.OnBreaks.refl c).gateEdge _ _ _))
theorem gateStop (h : b.OnGates c) (p : Nat) : b.OnGates (c.gateStop p) := by
  unfold Block.gateStop
  exact gateFallback (modPort (h.gateFalls p) p (by exact fun _ => rfl)) p

theorem gateResume (h : b.OnGates c) (p : Nat) : b.OnGates (c.gateResume p) := by
  unfold Block.gateResume
  extract_lets l v r e
  have he : b.OnGates e := (h.gateFalls p).modPort p fun _ => rfl
  clear_value e
  refine gateFallback ?_ p
  split
  · exact he.planChange p
  · exact he

theorem rebaseGate (h : b.OnGates c) (p : Nat) : b.OnGates (c.rebaseGate p) := by
  unfold Block.rebaseGate
  extract_lets v k stepped e
  have he : b.OnGates e := by
    refine h.modPort p fun x => ?_
    split
    · rfl
    · split <;> rfl
  clear_value e
  split
  · exact he.planChange p
  · exact he

end Block.OnGates

/-! ## The gate of one port -/

theorem Block.gateFalls_port (b : Block) (p q : Nat) : (b.gateFalls p).port q = b.port q := by
  unfold Block.gateFalls
  split
  · rfl
  · exact ((Block.OnBreaks.refl b).gateEdge _ _ _).port q

theorem Block.gateFallback_port (b : Block) (p q : Nat) : (b.gateFallback p).port q = b.port q := by
  unfold Block.gateFallback
  split
  · exact ((Block.OnBreaks.refl b).sendOncePerMs _ _ _ _).port q
  · rfl

theorem Block.gateStop_port (b : Block) (p q : Nat) : (b.gateStop p).port q =
    if q = p then { b.port p with gate := { (b.port p).gate with run := false, changeAt := none, resumeAt := none, holdTill := none } }
    else b.port q := by
  unfold Block.gateStop
  rw [Block.gateFallback_port, Block.port_modPort, Block.gateFalls_port, Block.gateFalls_port]

/-- A plan of a change keeps whether the list runs and where it resumes, and every other port. -/
theorem Block.planChange_gate (b : Block) (p : Nat) : ((b.planChange p).port p).gate.run = (b.port p).gate.run ∧
    ((b.planChange p).port p).gate.resumeAt = (b.port p).gate.resumeAt ∧ ∀ q, q ≠ p → (b.planChange p).port q = b.port q := by
  unfold Block.planChange
  split
  · obtain ⟨hgate, hport, -⟩ := b.changeAt_tells p (some (firstFrom (b.adminBase p) (b.word (R.PRT_GATE_ADMIN_CYCLE p)) (b.portNs p + 2000)))
    dsimp only
    rw [hgate]
    exact ⟨rfl, rfl, hport⟩
  · exact ⟨rfl, rfl, fun _ _ => rfl⟩

/-- A list that is to resume does not run until then. -/
theorem Block.gateResume_gate (b : Block) (p : Nat) : ((b.gateResume p).port p).gate.run = false ∧
    ((b.gateResume p).port p).gate.resumeAt ≠ none ∧ ∀ q, q ≠ p → (b.gateResume p).port q = b.port q := by
  unfold Block.gateResume
  extract_lets l v r e
  have he : (e.port p).gate.run = false ∧ (e.port p).gate.resumeAt ≠ none ∧ ∀ q, q ≠ p → e.port q = b.port q := by
    refine ⟨?_, ?_, fun q hq => ?_⟩
    · rw [Block.port_modPort, if_pos rfl]
    · rw [Block.port_modPort, if_pos rfl]
      exact Option.some_ne_none r
    · rw [Block.port_modPort, if_neg hq, Block.gateFalls_port]
  clear_value e
  simp only [Block.gateFallback_port]
  split
  · obtain ⟨hrun, hresume, hport⟩ := e.planChange_gate p
    rw [hrun, hresume]
    exact ⟨he.1, he.2.1, fun q hq => (hport q hq).trans (he.2.2 q hq)⟩
  · exact he

theorem Block.rebaseGate_other (b : Block) (p : Nat) {q : Nat} (hq : q ≠ p) : (b.rebaseGate p).port q = b.port q := by
  unfold Block.rebaseGate
  extract_lets v k stepped e
  have he : e.port q = b.port q := by rw [Block.port_modPort, if_neg hq]
  clear_value e
  split
  · exact ((e.planChange_gate p).2.2 q hq).trans he
  · exact he
/-! ## All ports in turn -/

/-- Each turn changes its own port at most: what holds of a port after its turn, holds at the end. -/
theorem Block.each_port {n p : Nat} (hp : p < n) {f : Block → Nat → Block} (hf : ∀ (c : Block) q, c.OnGates (f c q))
    (other : ∀ (c : Block) q, q ≠ p → (f c q).port p = c.port p) {P : Port → Prop}
    (turn : ∀ c, b.OnGates c → c.port p = b.port p → P ((f c p).port p)) : P ((b.each n f).port p) := by
  refine Block.each_turn hp (I := fun c => b.OnGates c ∧ c.port p = b.port p) (P := fun c => P (c.port p)) ⟨.refl b, rfl⟩ (fun c q hq h => ?_)
    (fun c h => turn c h.1 h.2) fun c q hq _ h => ?_
  · exact ⟨h.1.trans (hf c q), (other c q (by omega)).trans h.2⟩
  · rwa [other c q (by omega)]

theorem Block.OnGates.each {n : Nat} {f : Block → Nat → Block} (hf : ∀ (c : Block) q, c.OnGates (f c q)) (b : Block) : b.OnGates (b.each n f) :=
  Block.each_inv (P := fun c => b.OnGates c) (.refl b) fun c q _ h => h.trans (hf c q)

/-- A change of each port on base i: it holds of those, and the others stand. -/
theorem Block.eachPortOn_tells {f : Block → Nat → Block} (hf : ∀ (c : Block) q, c.OnGates (f c q))
    (other : ∀ (c : Block) q p, p ≠ q → (f c q).port p = c.port p) {P : Port → Prop} (own : ∀ (c : Block) p, P ((f c p).port p)) (b : Block)
    (i : Nat) : b.OnGates (b.eachPortOn i f) ∧ ∀ p, p < 256 →
      (b.portBase p = i → P ((b.eachPortOn i f).port p)) ∧ (b.portBase p ≠ i → (b.eachPortOn i f).port p = b.port p) := by
  have hstep (c : Block) (q : Nat) : c.OnGates (if b.portBase q == i then f c q else c) := by
    split
    · exact hf c q
    · exact .refl c
  have hother (c : Block) (q p : Nat) (hq : q ≠ p) : (if b.portBase q == i then f c q else c).port p = c.port p := by
    split
    · exact other c q p hq.symm
    · rfl
  unfold Block.eachPortOn
  refine ⟨.each hstep b, fun p hp => ⟨fun hon => ?_, fun hoff => ?_⟩⟩
  · refine Block.each_port hp hstep (fun c q hq => hother c q p hq) fun c _ _ => ?_
    rw [if_pos (by simpa using hon)]
    exact own c p
  · refine Block.each_port hp hstep (fun c q hq => hother c q p hq) (P := fun x => x = b.port p) fun c _ he => ?_
    rw [if_neg (by simpa using hoff), he]

/-- The lists on base i stop; the other ports stand. -/
theorem Block.eachPortOn_stops (b : Block) (i : Nat) :
    b.OnGates (b.eachPortOn i fun b p => b.gateStop p) ∧ ∀ p, p < 256 →
      (b.portBase p = i → ((b.eachPortOn i fun b p => b.gateStop p).port p).gate.run = false ∧
        ((b.eachPortOn i fun b p => b.gateStop p).port p).gate.changeAt = none) ∧
      (b.portBase p ≠ i → (b.eachPortOn i fun b p => b.gateStop p).port p = b.port p) :=
  Block.eachPortOn_tells (P := fun x => x.gate.run = false ∧ x.gate.changeAt = none) (fun c q => (Block.OnGates.refl c).gateStop q)
    (fun c q p hp => by rw [Block.gateStop_port, if_neg hp]) (fun c p => by rw [Block.gateStop_port, if_pos rfl]; exact ⟨rfl, rfl⟩) b i

/-- The lists on base i are to resume; the other ports stand. -/
theorem Block.eachPortOn_resumes (b : Block) (i : Nat) :
    b.OnGates (b.eachPortOn i fun b p => b.gateResume p) ∧ ∀ p, p < 256 →
      (b.portBase p = i → ((b.eachPortOn i fun b p => b.gateResume p).port p).gate.run = false ∧
        ((b.eachPortOn i fun b p => b.gateResume p).port p).gate.resumeAt ≠ none) ∧
      (b.portBase p ≠ i → (b.eachPortOn i fun b p => b.gateResume p).port p = b.port p) :=
  Block.eachPortOn_tells (P := fun x => x.gate.run = false ∧ x.gate.resumeAt ≠ none) (fun c q => (Block.OnGates.refl c).gateResume q)
    (fun c q p hp => (c.gateResume_gate q).2.2 p hp) (fun c p => ⟨(c.gateResume_gate p).1, (c.gateResume_gate p).2.1⟩) b i

/-! ## Switches of the active base -/

/-- From b to c nothing but ports, regions, counters, messages and ACTIVE_STATUS changed: what the end of a switch changes. -/
structure Block.OnSwitch (b c : Block) : Prop where
  only : ∃ rs ps rg cs inf lm, c = { b with regs := rs, ports := ps, regions := rg, ctrs := cs, inflight := inf, lastMsg := lm }
  word : ∀ a, a ≠ R.TIM_ACTIVE_STATUS → c.word a = b.word a

namespace Block.OnSwitch

theorem of_gates (h : b.OnGates c) : b.OnSwitch c := by
  refine ⟨?_, fun a _ => h.word a⟩
  obtain ⟨ps, rg, cs, inf, lm, rfl⟩ := h.only
  exact ⟨_, _, _, _, _, _, rfl⟩
theorem refl (b : Block) : b.OnSwitch b := of_gates (.refl b)
theorem trans (h : b.OnSwitch c) (h' : c.OnSwitch d) : b.OnSwitch d := by
  refine ⟨?_, fun a ha => (h'.word a ha).trans (h.word a ha)⟩
  obtain ⟨rs, ps, rg, cs, inf, lm, rfl⟩ := h.only
  obtain ⟨rs', ps', rg', cs', inf', lm', rfl⟩ := h'.only
  exact ⟨_, _, _, _, _, _, rfl⟩
theorem modPort (h : b.OnSwitch c) (p : Nat) (f : Port → Port) : b.OnSwitch (c.modPort p f) :=
  h.trans ⟨⟨_, _, _, _, _, _, rfl⟩, fun _ _ => rfl⟩
theorem status (h : b.OnSwitch c) (f : Bf) (v : Nat) : b.OnSwitch (c.setFld R.TIM_ACTIVE_STATUS f v) :=
  h.trans ⟨⟨_, _, _, _, _, _, rfl⟩, fun a ha => by rw [Block.word_setFld, if_neg ha]⟩
theorem send (h : b.OnSwitch c) (t i k x : Nat) : b.OnSwitch (c.send t i k x) :=
  h.trans ⟨⟨_, _, _, _, _, _, rfl⟩, fun _ _ => rfl⟩
theorem each {n : Nat} {f : Block → Nat → Block} (hf : ∀ (c : Block) q, c.OnSwitch (f c q)) (b : Block) : b.OnSwitch (b.each n f) :=
  Block.each_inv (P := fun c => b.OnSwitch c) (.refl b) fun c q _ h => h.trans (hf c q)
theorem tbase (h : b.OnSwitch c) (i : Nat) : c.tbase i = b.tbase i := by obtain ⟨rs, ps, rg, cs, inf, lm, rfl⟩ := h.only; rfl

end Block.OnSwitch

/-- A field of ACTIVE_STATUS after one apart from it was written. -/
theorem Block.status_apart (b : Block) {f g : Bf} (v : Nat) (h : (decide (f.hi < 32 ∧ f.lo ≤ f.hi ∧ g.lo ≤ g.hi) && decide (f.hi < g.lo ∨ g.hi < f.lo)) = true) :
    (b.setFld R.TIM_ACTIVE_STATUS f v).fld R.TIM_ACTIVE_STATUS g = b.fld R.TIM_ACTIVE_STATUS g := by
  simp only [Bool.and_eq_true, decide_eq_true_eq] at h
  obtain ⟨⟨hw, hf, hg⟩, hd⟩ := h
  exact Block.fld_setFld_apart _ _ _ _ _ hw hf hg hd

/-- Every port has switched: the target becomes the active base. -/
theorem Block.switchEnd_of_all (all : ∀ p, p < 256 → (b.port p).onTarget = true) :
    let t := b.switchEnd
    t.switching = false ∧ t.active = b.fld R.TIM_ACTIVE_STATUS F.TIM_ACTIVE_STATUS_TARGET ∧
      (∀ q, q < 256 → (t.port q).onTarget = false) ∧ t.inflight = (b.send 1 0xFFF 0x52 0).inflight ∧ b.OnSwitch t := by
  intro t
  obtain ⟨c, hc⟩ : ∃ c, (b.each 256 fun b p => b.modPort p fun x => { x with onTarget := false, switchAt := none }) = c := ⟨_, rfl⟩
  obtain ⟨n, hn⟩ : ∃ n, b.fld R.TIM_ACTIVE_STATUS F.TIM_ACTIVE_STATUS_TARGET = n := ⟨_, rfl⟩
  have ht : t = ((c.setFld R.TIM_ACTIVE_STATUS F.TIM_ACTIVE_STATUS_ACTIVE n).lower R.TIM_ACTIVE_STATUS F.TIM_ACTIVE_STATUS_PENDING).send 1
      0xFFF 0x52 0 := by
    rw [show t = b.switchEnd from rfl]
    unfold Block.switchEnd
    rw [if_pos (by simpa using all)]
    dsimp only
    rw [hc, hn]
  have hports : (∃ ps, c = { b with ports := ps }) ∧ ∀ q, q < 256 → (c.port q).onTarget = false := by
    rw [← hc]
    refine ⟨Block.each_inv (P := fun c => ∃ ps, c = { b with ports := ps }) ⟨_, rfl⟩ fun c q _ ⟨ps, h⟩ => ?_, fun q hq =>
      Block.each_turn hq (I := fun _ => True) (P := fun c => (c.port q).onTarget = false) trivial (fun _ _ _ _ => trivial) (fun c _ => ?_)
        fun c j _ _ h => ?_⟩
    · rw [h]
      exact ⟨_, rfl⟩
    · rw [Block.port_modPort, if_pos rfl]
    · rw [Block.port_modPort]
      split
      · rfl
      · exact h
  obtain ⟨⟨ps, hps⟩, hoff⟩ := hports
  have hone : n % 2 = n := by
    rw [← hn]
    exact Nat.mod_eq_of_lt (Bf.of_lt F.TIM_ACTIVE_STATUS_TARGET _)
  have hswitch : b.OnSwitch c := by
    rw [hps]
    exact ⟨⟨_, _, _, _, _, _, rfl⟩, fun _ _ => rfl⟩
  rw [ht]
  refine ⟨?_, ?_, fun q hq => ?_, ?_, ((hswitch.status _ _).status _ _).send _ _ _ _⟩
  · rw [Block.switching, Block.send_flag]
    exact Block.flag_lower _ _ _ (by decide) (by decide)
  · rw [Block.active, Block.send_fld, Block.lower, Block.status_apart _ _ (by decide), Block.fld_setFld_same _ _ _ _ (by decide) (by decide)]
    rw [hn]
    exact hone
  · rw [Block.send_port, Block.lower_port, Block.setFld_port, hoff q hq]
  · rw [Block.send_inflight, Block.send_inflight, Block.lower_inflight, Block.lower_ticks, Block.setFld_inflight, Block.setFld_ticks, hps]

theorem Block.switchEnd_of_some {q : Nat} (hq : q < 256) (h : (b.port q).onTarget = false) : b.switchEnd = b := by
  unfold Block.switchEnd
  rw [if_neg]
  simp only [List.all_eq_true, List.mem_range, not_forall]
  exact ⟨q, hq, by simp [h]⟩
/-! ## A pending switch is settled (R362) -/

/-- A switch that is cancelled: the ports are on the old base again. -/
theorem Block.switchCancel_tells (b : Block) :
    let t := b.switchCancel
    t.switching = false ∧ t.active = b.active ∧ t.flag R.TIM_ACTIVE_STATUS F.TIM_ACTIVE_STATUS_CANCELLED = true ∧
      (∀ p, p < 256 → (t.port p).onTarget = false) ∧ b.OnSwitch t := by
  intro t
  obtain ⟨c, hc⟩ : ∃ c, (b.each 256 fun b p =>
      let moved := (b.port p).onTarget
      let b := b.modPort p fun x => { x with onTarget := false, switchAt := none }
      if moved then b.rebaseGate p else b) = c := ⟨_, rfl⟩
  have ht : t = (c.lower R.TIM_ACTIVE_STATUS F.TIM_ACTIVE_STATUS_PENDING).raise R.TIM_ACTIVE_STATUS F.TIM_ACTIVE_STATUS_CANCELLED := by
    rw [← hc]; rfl
  have hturn (c : Block) (p : Nat) (x : Bool) :
      let d := c.modPort p fun x => { x with onTarget := false, switchAt := none }
      d.OnGates (if x then d.rebaseGate p else d) := by
    intro d
    split
    · exact (Block.OnGates.refl d).rebaseGate p
    · exact .refl d
  have hoff (p : Nat) (hp : p < 256) : (c.port p).onTarget = false := by
    rw [← hc]
    refine Block.each_turn hp (I := fun _ => True) (P := fun c => (c.port p).onTarget = false) trivial (fun _ _ _ _ => trivial) (fun c _ => ?_)
      fun c j _ _ h => ?_
    · rw [(hturn c p _).target, Block.port_modPort, if_pos rfl]
    · rw [(hturn c j _).target, Block.port_modPort]
      split
      · rfl
      · exact h
  have hregs : c.regs = b.regs := by
    rw [← hc]
    refine Block.each_inv (P := fun c => c.regs = b.regs) rfl fun c j _ h => ?_
    rw [(hturn c j _).regs, Block.modPort_regs, h]
  have hswitch : b.OnSwitch c := by
    rw [← hc]
    exact .each (fun c p => ((Block.OnSwitch.refl c).modPort p _).trans (.of_gates (hturn c p _))) b
  rw [ht]
  refine ⟨?_, ?_, Block.flag_raise _ _ _ (by decide) (by decide), fun p hp => ?_, (hswitch.status _ _).status _ _⟩
  · rw [Block.switching, Block.flag, Block.raise, Block.status_apart _ _ (by decide), ← Block.flag]
    exact Block.flag_lower _ _ _ (by decide) (by decide)
  · rw [Block.active, Block.raise, Block.status_apart _ _ (by decide), Block.lower, Block.status_apart _ _ (by decide), Block.fld,
      Block.word_of_regs hregs, Block.active, Block.fld]
  · rw [Block.raise_port, Block.lower_port, hoff p hp]

/-- One port that has yet to switch does so at once. -/
def Block.hurryPort (b : Block) (p : Nat) : Block :=
  if (b.port p).onTarget then b
  else
    let b := b.modPort p fun x => { x with onTarget := true }
    let h := b.cycleFrom p (b.portNs p + 2000)
    let b := b.modPort p fun x =>
      { x with gate := { x.gate with run := false, changeAt := none, resumeAt := some h, holdTill := none } }
    (if b.flag (R.PRT_GATE_STATUS p) F.PRT_GATE_STATUS_PENDING then b.planChange p else b).gateFallback p

theorem Block.hurryPort_tells (b : Block) (p : Nat) :
    b.OnSwitch (b.hurryPort p) ∧ (b.hurryPort p).regs = b.regs ∧ ((b.hurryPort p).port p).onTarget = true ∧
      ∀ q, q ≠ p → ((b.hurryPort p).port q).onTarget = (b.port q).onTarget := by
  unfold Block.hurryPort
  split
  · rename_i h
    exact ⟨.refl b, rfl, h, fun _ _ => rfl⟩
  · extract_lets c k e
    have hc : b.OnSwitch c ∧ c.regs = b.regs ∧ (c.port p).onTarget = true ∧ ∀ q, q ≠ p → (c.port q).onTarget = (b.port q).onTarget := by
      refine ⟨(Block.OnSwitch.refl b).modPort _ _, Block.modPort_regs _ _ _, ?_, fun q hq => ?_⟩
      · rw [Block.port_modPort, if_pos rfl]
      · rw [Block.port_modPort, if_neg hq]
    obtain ⟨hswitch, hregs, hon, hother⟩ := hc
    have hgates : c.OnGates ((if e.flag (R.PRT_GATE_STATUS p) F.PRT_GATE_STATUS_PENDING then e.planChange p else e).gateFallback p) := by
      have he : c.OnGates e := (Block.OnGates.refl c).modPort p fun _ => rfl
      clear_value e
      refine Block.OnGates.gateFallback ?_ p
      split
      · exact he.planChange p
      · exact he
    exact ⟨hswitch.trans (.of_gates hgates), hgates.regs.trans hregs, (hgates.target p).trans hon, fun q hq => (hgates.target q).trans (hother q hq)⟩

/-- The old base is armed again: every port switches at once, and the target is the active base. -/
theorem Block.switchHurry_tells (b : Block) :
    let t := b.switchHurry
    t.switching = false ∧ t.active = b.fld R.TIM_ACTIVE_STATUS F.TIM_ACTIVE_STATUS_TARGET ∧
      (∀ p, p < 256 → (t.port p).onTarget = false) ∧ b.OnSwitch t := by
  intro t
  obtain ⟨c, hc⟩ : ∃ c, b.each 256 Block.hurryPort = c := ⟨_, rfl⟩
  have ht : t = c.switchEnd := by rw [← hc]; rfl
  have hon (p : Nat) (hp : p < 256) : (c.port p).onTarget = true := by
    rw [← hc]
    refine Block.each_turn hp (I := fun _ => True) (P := fun c => (c.port p).onTarget = true) trivial (fun _ _ _ _ => trivial)
      (fun c _ => (c.hurryPort_tells p).2.2.1) fun c j hj _ h => ?_
    rw [(c.hurryPort_tells j).2.2.2 p (by omega), h]
  have hregs : c.regs = b.regs := by
    rw [← hc]
    exact Block.each_inv (P := fun c => c.regs = b.regs) rfl fun c j _ h => (c.hurryPort_tells j).2.1.trans h
  have hswitch : b.OnSwitch c := hc ▸ .each (fun c p => (c.hurryPort_tells p).1) b
  obtain ⟨hend, hactive, hoff, -, hswitch'⟩ := Block.switchEnd_of_all hon
  rw [ht]
  refine ⟨hend, ?_, hoff, hswitch.trans hswitch'⟩
  rw [hactive, Block.fld, Block.word_of_regs hregs, ← Block.fld]

end Sys2Proof.Machine
end

section
/-!
PROOFS. The time bases, command by command (R353 to R358, R360 to R362, R369); and O34 from these.
-/
namespace Sys2Proof.Machine
open Sys2Proof

variable {b c : Block}

/-! ## One base and the other -/

theorem Block.modBase_only (b : Block) (i : Nat) (f : TimeBase → TimeBase) : ∃ x y, b.modBase i f = { b with baseA := x, baseB := y } := by
  unfold Block.modBase
  split
  · exact ⟨_, _, rfl⟩
  · exact ⟨_, _, rfl⟩

theorem Block.tbase_modBase_same (b : Block) (i : Nat) (f : TimeBase → TimeBase) : (b.modBase i f).tbase i = f (b.tbase i) := by
  unfold Block.modBase Block.tbase
  split <;> rfl

theorem Block.tbase_modBase_partner (b : Block) (i : Fin 2) (f : TimeBase → TimeBase) :
    (b.modBase i f).tbase (1 - i.val) = b.tbase (1 - i.val) := by
  match i with
  | 0 => rfl
  | 1 => rfl

/-! ## ARM (R356, R362) -/

theorem takes_timeArm {i : Fin 2} {v : BitVec 32} (hreach : b.reaches .host .tim) :
    Takes (.timeArm i v) b (b.timeArm i.val v.toNat) := takes_of_write hreach fun _ => rfl

theorem takes_timeStepRequest {i : Fin 2} {v : BitVec 32} (hreach : b.reaches .host .tim) :
    Takes (.timeStepRequest i v) b (b.timeStepRequest i.val v.toNat) := takes_of_write hreach fun _ => rfl

theorem Block.timeArm_of_arm {i v : Nat} (harm : F.TIM_BASE_CTRL_ARM.of v = 1) (hstep : F.TIM_BASE_CTRL_STEP.of v = 0) :
    b.timeArm i v = b.arm i := by
  simp [Block.timeArm, Block.baseCtrl, harm, hstep]

theorem Block.timeStepRequest_of_step {i v : Nat} (harm : F.TIM_BASE_CTRL_ARM.of v = 0) (hstep : F.TIM_BASE_CTRL_STEP.of v = 1) :
    b.timeStepRequest i v = b.planStep i := by
  simp [Block.timeStepRequest, Block.baseCtrl, harm, hstep]

/-- A base that did not run, armed with no switch pending. -/
theorem Block.arm_of_idle {i : Nat} (hstate : (b.tbase i).state ≠ .stepped) (hswitch : b.switching = false) :
    b.arm i = b.modBase i fun t => { t with state := .armed } := by
  obtain ⟨x, y, e⟩ := b.modBase_only i fun t => { t with state := .armed }
  unfold Block.arm
  dsimp only
  rw [if_neg]
  rw [e]
  simp [hstate, show Block.switching { b with baseA := x, baseB := y } = false from hswitch]

theorem Block.switching_modBase (b : Block) (i : Nat) (f : TimeBase → TimeBase) : (b.modBase i f).switching = b.switching := by
  obtain ⟨x, y, e⟩ := b.modBase_only i f
  rw [e]
  rfl

theorem Block.fld_modBase (b : Block) (i : Nat) (f : TimeBase → TimeBase) (a : Nat) (g : Bf) : (b.modBase i f).fld a g = b.fld a g := by
  obtain ⟨x, y, e⟩ := b.modBase_only i f
  rw [e]
  rfl

theorem Block.port_modBase (b : Block) (i : Nat) (f : TimeBase → TimeBase) (p : Nat) : (b.modBase i f).port p = b.port p := by
  obtain ⟨x, y, e⟩ := b.modBase_only i f
  rw [e]
  rfl

theorem Block.portBase_modBase (b : Block) (i : Nat) (f : TimeBase → TimeBase) (p : Nat) : (b.modBase i f).portBase p = b.portBase p := by
  obtain ⟨x, y, e⟩ := b.modBase_only i f
  rw [e]
  rfl

/-- A base that ran is armed: the lists on it stop. -/
theorem Block.arm_of_stepped {i : Fin 2} (hstate : (b.tbase i).state = .stepped) (hswitch : b.switching = false) :
    (b.arm i).tbase i = { b.tbase i with state := .armed } ∧ (b.arm i).tbase (1 - i.val) = b.tbase (1 - i.val) ∧
      (b.arm i).regs = b.regs ∧ ∀ p, p < 256 →
        (b.portBase p = i.val → ((b.arm i).port p).gate.run = false ∧ ((b.arm i).port p).gate.changeAt = none) ∧
        (b.portBase p ≠ i.val → (b.arm i).port p = b.port p) := by
  obtain ⟨c, hc⟩ : ∃ c, (b.modBase i fun t => { t with state := .armed }) = c := ⟨_, rfl⟩
  have harm : b.arm i = c.eachPortOn i fun b p => b.gateStop p := by
    unfold Block.arm
    dsimp only
    rw [hc, if_pos (by simp [hstate]), Block.baseStops, if_neg]
    rw [← hc, Block.switching_modBase, hswitch]
    decide
  obtain ⟨hgates, hports⟩ := c.eachPortOn_stops i
  rw [harm, hgates.tbase, hgates.tbase, hgates.regs]
  refine ⟨?_, ?_, ?_, fun p hp => ?_⟩
  · rw [← hc, Block.tbase_modBase_same]
  · rw [← hc, Block.tbase_modBase_partner]
  · obtain ⟨x, y, e⟩ := b.modBase_only i fun t => { t with state := .armed }
    rw [← hc, e]
  · have h := hports p hp
    rw [show c.portBase p = b.portBase p by rw [← hc, Block.portBase_modBase], show c.port p = b.port p by rw [← hc, Block.port_modBase]] at h
    exact h

/-- ARM while a switch is pending: arming the target cancels it, arming the old base ends it. -/
theorem Block.arm_of_switching {i : Fin 2} (hswitch : b.switching = true) :
    let t := b.arm i
    t.tbase i = { b.tbase i with state := .armed } ∧ t.tbase (1 - i.val) = b.tbase (1 - i.val) ∧ t.switching = false ∧
      (∀ p, p < 256 → (t.port p).onTarget = false) ∧
      (b.fld R.TIM_ACTIVE_STATUS F.TIM_ACTIVE_STATUS_TARGET = i → t.active = b.active ∧
        t.flag R.TIM_ACTIVE_STATUS F.TIM_ACTIVE_STATUS_CANCELLED = true) ∧
      (b.fld R.TIM_ACTIVE_STATUS F.TIM_ACTIVE_STATUS_TARGET ≠ i →
        t.active = b.fld R.TIM_ACTIVE_STATUS F.TIM_ACTIVE_STATUS_TARGET) := by
  intro t
  obtain ⟨c, hc⟩ : ∃ c, (b.modBase i fun t => { t with state := .armed }) = c := ⟨_, rfl⟩
  have harm : t = c.baseStops i := by
    rw [show t = b.arm i from rfl, Block.arm]
    rw [hc, if_pos]
    rw [← hc, Block.switching_modBase, hswitch, Bool.or_true]
  have hpending : c.switching = true := by rw [← hc, Block.switching_modBase, hswitch]
  have htarget : c.fld R.TIM_ACTIVE_STATUS F.TIM_ACTIVE_STATUS_TARGET = b.fld R.TIM_ACTIVE_STATUS F.TIM_ACTIVE_STATUS_TARGET := by
    rw [← hc, Block.fld_modBase]
  have hactive : c.active = b.active := by rw [← hc, Block.active, Block.fld_modBase, Block.active]
  have hown : c.tbase i = { b.tbase i with state := .armed } := by rw [← hc, Block.tbase_modBase_same]
  have hpartner : c.tbase (1 - i.val) = b.tbase (1 - i.val) := by rw [← hc, Block.tbase_modBase_partner]
  rw [harm, Block.baseStops, if_pos hpending, htarget]
  by_cases hi : b.fld R.TIM_ACTIVE_STATUS F.TIM_ACTIVE_STATUS_TARGET = i
  · obtain ⟨hend, hact, hcancelled, hoff, hsw⟩ := c.switchCancel_tells
    rw [if_pos (by simp [hi]), hsw.tbase, hsw.tbase]
    exact ⟨hown, hpartner, hend, hoff, fun _ => ⟨hact.trans hactive, hcancelled⟩, fun h => absurd hi h⟩
  · obtain ⟨hend, hact, hoff, hsw⟩ := c.switchHurry_tells
    rw [if_neg (by simpa using fun h => hi (Eq.symm h)), hsw.tbase, hsw.tbase]
    exact ⟨hown, hpartner, hend, hoff, fun h => absurd h hi, fun _ => hact.trans htarget⟩

/-! ## Steps (R357) -/

theorem takes_timeStep (i : Fin 2) : Takes (.timeStep i) b (b.timeStep i.val) := fun _ => rfl

theorem Block.timeStep_of_none {i : Nat} (h : (b.tbase i).steps = []) : b.timeStep i = b := by
  simp only [Block.timeStep, h]

theorem Block.timeStep_of_early {i : Nat} {y : PendStep} {rest : List PendStep} (h : (b.tbase i).steps = y :: rest) (early : b.ticks < y.at_) :
    b.timeStep i = b := by
  simp only [Block.timeStep, h, if_pos early]

theorem Block.stepRefused_tells (b : Block) (i : Nat) (f : Bf) (h : (decide (f.lo = f.hi ∧ f.hi < 32)) = true) :
    (b.stepRefused i f).tbase i = b.tbase i ∧ (b.stepRefused i f).flag (R.TIM_BASE_STATUS i) f = true ∧
      (b.stepRefused i f).inflight = (b.send 1 i 0x51 0).inflight ∧ (b.stepRefused i f).ports = b.ports := by
  simp only [decide_eq_true_eq] at h
  obtain ⟨hf, hw⟩ := h
  refine ⟨rfl, ?_, ?_, rfl⟩
  · rw [Block.stepRefused, Block.send_flag]
    exact Block.flag_raise _ _ _ hw (by omega)
  · rw [Block.stepRefused, Block.send_inflight, Block.raise_inflight, Block.send_inflight, Block.raise_ticks]

/-- A step of a base that is not armed is refused. -/
theorem Block.timeStep_of_unarmed {i : Nat} {y : PendStep} {rest : List PendStep} (h : (b.tbase i).steps = y :: rest) (due : y.at_ ≤ b.ticks)
    (hstate : (b.tbase i).state ≠ .armed) :
    b.timeStep i = (b.modBase i fun t => { t with steps := rest }).stepRefused i F.TIM_BASE_STATUS_STEP_REFUSED := by
  simp only [Block.timeStep, h]
  rw [if_neg (by omega), if_pos]
  rw [Block.tbase_modBase_same]
  simpa using hstate

theorem Block.timeStep_of_bad {i : Nat} {y : PendStep} {rest : List PendStep} (h : (b.tbase i).steps = y :: rest) (due : y.at_ ≤ b.ticks)
    (hstate : (b.tbase i).state = .armed) (bad : (b.tbase i).stepTo y = none) :
    b.timeStep i = (b.modBase i fun t => { t with steps := rest }).stepRefused i F.TIM_BASE_STATUS_STEP_ERR := by
  simp only [Block.timeStep, h]
  have hto : TimeBase.stepTo { b.tbase i with steps := rest } y = none := bad
  rw [if_neg (by omega), if_neg (by rw [Block.tbase_modBase_same]; simp [hstate]), Block.tbase_modBase_same, hto]

/-- A step that is refused leaves the base its other steps, and is told. -/
theorem Block.modBase_stepRefused (b : Block) (i : Nat) (rest : List PendStep) {f : Bf} (hf : (decide (f.lo = f.hi ∧ f.hi < 32)) = true) :
    let t := (b.modBase i fun t => { t with steps := rest }).stepRefused i f
    t.tbase i = { b.tbase i with steps := rest } ∧ t.flag (R.TIM_BASE_STATUS i) f = true ∧
      t.inflight = (b.send 1 i 0x51 0).inflight ∧ t.ports = b.ports := by
  intro t
  obtain ⟨hbase, hflag, hsent, hports⟩ := (b.modBase i fun t => { t with steps := rest }).stepRefused_tells i f hf
  refine ⟨?_, hflag, ?_, ?_⟩
  · rw [hbase, Block.tbase_modBase_same]
  · obtain ⟨x, y, e⟩ := b.modBase_only i fun t => { t with steps := rest }
    rw [hsent, Block.send_inflight, Block.send_inflight, e]
  · obtain ⟨x, y, e⟩ := b.modBase_only i fun t => { t with steps := rest }
    rw [hports, e]

/-- A step that takes effect: the base is stepped, and the lists on it are to resume. -/
theorem Block.timeStep_of_good {i : Fin 2} {y : PendStep} {rest : List PendStep} {s ns fr : Nat} (h : (b.tbase i).steps = y :: rest)
    (due : y.at_ ≤ b.ticks) (hstate : (b.tbase i).state = .armed) (good : (b.tbase i).stepTo y = some (s, ns, fr)) :
    let t := b.timeStep i
    t.tbase i = { b.tbase i with steps := rest, s := s, ns := ns, frac := fr, state := .stepped } ∧
      t.tbase (1 - i.val) = b.tbase (1 - i.val) ∧ t.flag (R.TIM_BASE_STATUS i) F.TIM_BASE_STATUS_STEPPED_SEEN = true ∧
      (∃ l, t.inflight = (b.send 1 i 0x50 0).inflight ++ l) ∧
      (∀ p, p < 256 → b.portBase p = i.val → (t.port p).gate.run = false ∧ (t.port p).gate.resumeAt ≠ none) ∧
      ∀ p, p < 256 → b.portBase p ≠ i.val → t.port p = b.port p := by
  intro t
  obtain ⟨c, hc⟩ : ∃ c, ((b.modBase i fun t => { t with steps := rest }).modBase i fun t =>
    { t with s := s, ns := ns, frac := fr, state := .stepped }) = c := ⟨_, rfl⟩
  obtain ⟨d, hd⟩ : ∃ d, (c.raising 5 fun b => b.raise (R.TIM_BASE_STATUS i) F.TIM_BASE_STATUS_STEPPED_SEEN) = d := ⟨_, rfl⟩
  have ht : t = (d.send 1 i 0x50 0).eachPortOn i fun b p => b.gateResume p := by
    rw [show t = b.timeStep i from rfl]
    simp only [Block.timeStep, h]
    have hto : TimeBase.stepTo { b.tbase i with steps := rest } y = some (s, ns, fr) := good
    rw [if_neg (by omega), if_neg (by rw [Block.tbase_modBase_same]; simp [hstate]), Block.tbase_modBase_same, hto]
    dsimp only
    rw [hc, hd]
  have hcb : ∃ x y, c = { b with baseA := x, baseB := y } := by
    obtain ⟨x, y, e⟩ := b.modBase_only i fun t => { t with steps := rest }
    rw [← hc, e]
    exact Block.modBase_only _ _ _
  have hown : c.tbase i = { b.tbase i with steps := rest, s := s, ns := ns, frac := fr, state := .stepped } := by
    rw [← hc, Block.tbase_modBase_same, Block.tbase_modBase_same]
  have hpartner : c.tbase (1 - i.val) = b.tbase (1 - i.val) := by
    rw [← hc, Block.tbase_modBase_partner, Block.tbase_modBase_partner]
  obtain ⟨hword, -, hinflight, hticks⟩ := c.raising_tells 5 fun b => b.raise (R.TIM_BASE_STATUS i) F.TIM_BASE_STATUS_STEPPED_SEEN
  have honly := c.raising_only 5 fun b => b.raise (R.TIM_BASE_STATUS i) F.TIM_BASE_STATUS_STEPPED_SEEN
  rw [hd] at hword hinflight hticks honly
  have hdbase (k : Nat) : d.tbase k = c.tbase k := by rw [honly]; rfl
  have hdport (p : Nat) : d.port p = b.port p := by
    obtain ⟨x, y, e⟩ := hcb
    rw [honly, e]
    rfl
  have hstatus (a : Nat) (ha : a ≠ R.TIM_BASE_STATUS i) : d.word a = b.word a := by
    obtain ⟨x, y, e⟩ := hcb
    rw [hword, Block.raise, Block.word_setFld, if_neg ha, e]
    rfl
  have hportBase (p : Nat) : (d.send 1 i 0x50 0).portBase p = b.portBase p := by
    have ha : R.TIM_ACTIVE_STATUS ≠ R.TIM_BASE_STATUS i := by unfold R.TIM_ACTIVE_STATUS R.TIM_BASE_STATUS; omega
    rw [Block.portBase, Block.active, Block.send_port, Block.send_fld, Block.send_fld, hdport, Block.fld, Block.fld, hstatus _ ha,
      ← Block.fld, ← Block.fld, ← Block.active, ← Block.portBase]
  obtain ⟨hgates, hports⟩ := (d.send 1 i 0x50 0).eachPortOn_resumes i
  rw [ht, hgates.tbase, hgates.tbase, hgates.flag]
  refine ⟨?_, ?_, ?_, ?_, fun p hp hon => (hports p hp).1 ((hportBase p).trans hon), fun p hp hoff => ?_⟩
  · rw [show (d.send 1 i 0x50 0).tbase i = d.tbase i from rfl, hdbase, hown]
  · rw [show (d.send 1 i 0x50 0).tbase (1 - i.val) = d.tbase (1 - i.val) from rfl, hdbase, hpartner]
  · rw [Block.send_flag, Block.flag, Block.fld, hword, ← Block.fld, ← Block.flag]
    exact Block.flag_raise _ _ _ (by decide) (by decide)
  · obtain ⟨l, hl⟩ := hgates.sent
    obtain ⟨x, y, e⟩ := hcb
    refine ⟨l, ?_⟩
    rw [hl, Block.send_inflight, Block.send_inflight, hinflight, hticks, Block.raise_inflight, Block.raise_ticks, e]
  · rw [(hports p hp).2 (by rwa [hportBase]), Block.send_port, hdport]

/-! ## Rates and captures (R353, R369) -/

theorem takes_rateWrite {w : Writer} {i : Fin 2} {v : BitVec 32} (hreach : b.reaches w .tim) :
    Takes (.rateWrite w i v) b (b.rateWrite w i.val v.toNat) := takes_of_write hreach fun _ => rfl

theorem Block.word_modBase (b : Block) (i : Nat) (f : TimeBase → TimeBase) (a : Nat) : (b.modBase i f).word a = b.word a := by
  obtain ⟨x, y, e⟩ := b.modBase_only i f
  rw [e]
  rfl

theorem Block.rateWrite_tells (b : Block) (w : Writer) (i v : Nat) :
    let t := b.rateWrite w i v
    t.tbase i = { b.tbase i with
      rateNext := some (signed 40 (t.fld (R.TIM_RATE_HI i) F.TIM_RATE_HI_V * 2 ^ 32 + b.word (R.TIM_RATE_LO i))) } ∧
      t.word (R.TIM_RATE_HI i) = (b.storeReg w (R.TIM_RATE_HI i) v).word (R.TIM_RATE_HI i) ∧
      ∀ a, a ≠ R.TIM_RATE_HI i → t.word a = b.word a := by
  intro t
  obtain ⟨c, hc⟩ : ∃ c, b.storeReg w (R.TIM_RATE_HI i) v = c := ⟨_, rfl⟩
  have ht : t = c.modBase i fun t => { t with
      rateNext := some (signed 40 (c.fld (R.TIM_RATE_HI i) F.TIM_RATE_HI_V * 2 ^ 32 + c.word (R.TIM_RATE_LO i))) } := by rw [← hc]; rfl
  have hlo : R.TIM_RATE_LO i ≠ R.TIM_RATE_HI i := by unfold R.TIM_RATE_LO R.TIM_RATE_HI; omega
  have hbase : c.tbase i = b.tbase i := by rw [← hc, Block.storeReg_only]; rfl
  have hword (a : Nat) (ha : a ≠ R.TIM_RATE_HI i) : c.word a = b.word a := by rw [← hc, Block.word_storeReg_other _ _ _ ha]
  refine ⟨?_, ?_, fun a ha => ?_⟩
  · rw [ht, Block.tbase_modBase_same, Block.fld_modBase, hbase, hword _ hlo]
  · rw [ht, Block.word_modBase, hc]
  · rw [ht, Block.word_modBase, hword a ha]

theorem takes_timeCapture {v : BitVec 32} (hreach : b.reaches .host .tim) :
    Takes (.timeCapture v) b (b.timeCapture v.toNat) := takes_of_write hreach fun _ => rfl

/-- The capture of base i. -/
def Block.captureBase (b : Block) (i : Nat) : Block :=
  let t := b.tbase i
  ((b.setWord (R.TIM_CAP_NS i) (t.state.code * 2 ^ 30 + t.ns)).setWord (R.TIM_CAP_S_LO i) (t.s % 2 ^ 32)).setWord
    (R.TIM_CAP_S_HI i) (t.s / 2 ^ 32)

theorem Block.captureBase_tells (b : Block) (i : Nat) :
    (b.captureBase i).word (R.TIM_CAP_NS i) = ((b.tbase i).state.code * 2 ^ 30 + (b.tbase i).ns) % 2 ^ 32 ∧
      (b.captureBase i).word (R.TIM_CAP_S_LO i) = (b.tbase i).s % 2 ^ 32 ∧
      (b.captureBase i).word (R.TIM_CAP_S_HI i) = (b.tbase i).s / 2 ^ 32 % 2 ^ 32 ∧
      ∀ a, a < R.TIM_CAP_NS i ∨ R.TIM_CAP_NS i + 0x10 ≤ a → (b.captureBase i).word a = b.word a := by
  have hlo : R.TIM_CAP_S_LO i = R.TIM_CAP_NS i + 4 := by unfold R.TIM_CAP_S_LO R.TIM_CAP_NS; omega
  have hhi : R.TIM_CAP_S_HI i = R.TIM_CAP_NS i + 8 := by unfold R.TIM_CAP_S_HI R.TIM_CAP_NS; omega
  unfold Block.captureBase
  dsimp only
  refine ⟨?_, ?_, Block.word_setWord_same _ _ _, fun a ha => ?_⟩
  · rw [Block.word_setWord_other _ _ (by omega), Block.word_setWord_other _ _ (by omega), Block.word_setWord_same]
  · rw [Block.word_setWord_other _ _ (by omega), Block.word_setWord_same, Nat.mod_mod]
  · rw [Block.word_setWord_other _ _ (by omega), Block.word_setWord_other _ _ (by omega), Block.word_setWord_other _ _ (by omega)]

theorem BaseState.code_le (s : BaseState) : s.code ≤ 2 := by cases s <;> decide

/-- The capture changes registers alone. -/
theorem Block.captureBase_only (b : Block) (i : Nat) : ∃ rs, b.captureBase i = { b with regs := rs } := by
  have hset (c : Block) (a v : Nat) : ∃ rs, c.setWord a v = { c with regs := rs } := ⟨_, Block.setWord_only c a v⟩
  unfold Block.captureBase
  obtain ⟨r, e⟩ := hset b (R.TIM_CAP_NS i) ((b.tbase i).state.code * 2 ^ 30 + (b.tbase i).ns)
  dsimp only
  rw [e]
  obtain ⟨r', e'⟩ := hset { b with regs := r } (R.TIM_CAP_S_LO i) ((b.tbase i).s % 2 ^ 32)
  rw [e']
  exact hset _ _ _

theorem Block.each_two (b : Block) (f : Block → Nat → Block) : b.each 2 f = f (f b 0) 1 := rfl

theorem Block.timeCapture_of_capture {v : Nat} (h : F.TIM_CAPTURE_CAPTURE.of v = 1) :
    ∃ c, (b.captureBase 0).captureBase 1 = c ∧
      b.timeCapture v = (c.setWord R.TIM_CAP_REF_LO (c.ticks % 2 ^ 32)).setWord R.TIM_CAP_REF_HI (c.ticks / 2 ^ 32) := by
  refine ⟨_, rfl, ?_⟩
  unfold Block.timeCapture
  rw [if_neg (by simp [h]), Block.each_two, ← Block.captureBase, ← Block.captureBase]

theorem Block.timeCapture_tells {v : Nat} (h : F.TIM_CAPTURE_CAPTURE.of v = 1) (hticks : b.ticks < 2 ^ 64) :
    let t := b.timeCapture v
    t = { b with regs := t.regs } ∧ t.word R.TIM_CAP_REF_LO = b.ticks % 2 ^ 32 ∧ t.word R.TIM_CAP_REF_HI = b.ticks / 2 ^ 32 ∧
      ∀ i, i < 2 → (b.tbase i).ns < 2 ^ 30 → (b.tbase i).s < 2 ^ 48 →
        t.word (R.TIM_CAP_NS i) = (b.tbase i).state.code * 2 ^ 30 + (b.tbase i).ns ∧
        t.word (R.TIM_CAP_S_LO i) = (b.tbase i).s % 2 ^ 32 ∧ t.word (R.TIM_CAP_S_HI i) = (b.tbase i).s / 2 ^ 32 := by
  intro t
  obtain ⟨c, hc⟩ : ∃ c, b.captureBase 0 = c := ⟨_, rfl⟩
  obtain ⟨d, hd⟩ : ∃ d, c.captureBase 1 = d := ⟨_, rfl⟩
  have honly : ∃ rs, d = { b with regs := rs } := by
    obtain ⟨rs, e⟩ := b.captureBase_only 0
    rw [← hd, ← hc, e]
    exact Block.captureBase_only _ 1
  have ht : t = (d.setWord R.TIM_CAP_REF_LO (b.ticks % 2 ^ 32)).setWord R.TIM_CAP_REF_HI (b.ticks / 2 ^ 32) := by
    obtain ⟨d', hd', ht⟩ := Block.timeCapture_of_capture (b := b) h
    obtain rfl : d = d' := by rw [← hd', ← hd, ← hc]
    have hticks : d.ticks = b.ticks := by
      obtain ⟨rs, e⟩ := honly
      rw [e]
    rw [show t = b.timeCapture v from rfl, ht, hticks]
  have hcbase : c.tbase 1 = b.tbase 1 := by
    obtain ⟨rs, e⟩ := b.captureBase_only 0
    rw [← hc, e]
    rfl
  obtain ⟨hns0, hlo0, hhi0, -⟩ := b.captureBase_tells 0
  obtain ⟨hns1, hlo1, hhi1, hother⟩ := c.captureBase_tells 1
  rw [hc] at hns0 hlo0 hhi0
  rw [hd, hcbase] at hns1 hlo1 hhi1
  rw [hd] at hother
  have hlo (i : Nat) : R.TIM_CAP_S_LO i = R.TIM_CAP_NS i + 4 := by unfold R.TIM_CAP_S_LO R.TIM_CAP_NS; omega
  have hhi (i : Nat) : R.TIM_CAP_S_HI i = R.TIM_CAP_NS i + 8 := by unfold R.TIM_CAP_S_HI R.TIM_CAP_NS; omega
  have hnext : R.TIM_CAP_NS 1 = R.TIM_CAP_NS 0 + 16 := by unfold R.TIM_CAP_NS; omega
  have hfar (x k : Nat) : x + (544 + k) = x + 544 + 0 * 16 + k := by omega
  have href : R.TIM_CAP_REF_LO = R.TIM_CAP_NS 0 + 32 := hfar timBase 32
  have href' : R.TIM_CAP_REF_HI = R.TIM_CAP_NS 0 + 36 := hfar timBase 36
  have hlast (a : Nat) (ha : a < R.TIM_CAP_NS 0 + 32) : t.word a = d.word a := by
    rw [ht, Block.word_setWord_other _ _ (by omega), Block.word_setWord_other _ _ (by omega)]
  clear_value t
  refine ⟨?_, ?_, ?_, fun i hi hnano hsec => ?_⟩
  · obtain ⟨rs, e⟩ := honly
    rw [ht, e]
    rfl
  · rw [ht, Block.word_setWord_other _ _ (by omega), Block.word_setWord_same, Nat.mod_mod]
  · rw [ht, Block.word_setWord_same, Nat.mod_eq_of_lt (by omega)]
  · have hcode := (b.tbase i).state.code_le
    have hnanos : ((b.tbase i).state.code * 2 ^ 30 + (b.tbase i).ns) % 2 ^ 32 = (b.tbase i).state.code * 2 ^ 30 + (b.tbase i).ns :=
      Nat.mod_eq_of_lt (by omega)
    have hsecs : (b.tbase i).s / 2 ^ 32 % 2 ^ 32 = (b.tbase i).s / 2 ^ 32 := Nat.mod_eq_of_lt (by omega)
    have hlo := hlo i
    have hhi := hhi i
    obtain rfl | rfl : i = 0 ∨ i = 1 := by omega
    · rw [hlast (R.TIM_CAP_NS 0) (by omega), hlast (R.TIM_CAP_S_LO 0) (by omega), hlast (R.TIM_CAP_S_HI 0) (by omega),
        hother (R.TIM_CAP_NS 0) (by omega), hother (R.TIM_CAP_S_LO 0) (by omega), hother (R.TIM_CAP_S_HI 0) (by omega),
        hns0, hlo0, hhi0]
      exact ⟨hnanos, rfl, hsecs⟩
    · rw [hlast (R.TIM_CAP_NS 1) (by omega), hlast (R.TIM_CAP_S_LO 1) (by omega), hlast (R.TIM_CAP_S_HI 1) (by omega),
        hns1, hlo1, hhi1]
      exact ⟨hnanos, rfl, hsecs⟩

end Sys2Proof.Machine
end

section
/-!
PROOFS. The clock and the switch of the active base (R355, R360, R361, R370); and O34 from these.
-/
namespace Sys2Proof.Machine
open Sys2Proof

variable {b c : Block}

/-! ## The clock (R355, R370) -/

theorem takes_timeRefclk : Takes .timeRefclk b b.refclkLost := fun _ => rfl
theorem takes_timeRefclkRelock : Takes .timeRefclkRelock b b.refclkRelock := fun _ => rfl

theorem Block.refclkLost_of_lost (h : b.refLost = true) : b.refclkLost = b := by simp [Block.refclkLost, h]
theorem Block.refclkRelock_of_running (h : b.refLost = false) : b.refclkRelock = b := by simp [Block.refclkRelock, h]

theorem Block.refclkLost_tells (h : b.refLost = false) :
    let t := b.refclkLost
    t.refLost = true ∧ t.flag R.TIM_REF_STATUS F.TIM_REF_STATUS_REFCLK_LOST = true ∧
      t.flag R.TIM_REF_STATUS F.TIM_REF_STATUS_REFCLK_OK = false ∧ t.inflight = (b.send 1 0xFFF 0x53 0).inflight ∧
      t.baseA = b.baseA ∧ t.baseB = b.baseB ∧ t.ports = b.ports := by
  intro t
  obtain ⟨c, hc⟩ : ∃ c, ({ b with refLost := true } : Block) = c := ⟨_, rfl⟩
  have ht : t = ((c.raise R.TIM_REF_STATUS F.TIM_REF_STATUS_REFCLK_LOST).lower R.TIM_REF_STATUS F.TIM_REF_STATUS_REFCLK_OK).send 1 0xFFF
      0x53 0 := by
    rw [show t = b.refclkLost from rfl, Block.refclkLost, if_neg (by simp [h]), ← hc]
  rw [ht]
  refine ⟨?_, ?_, ?_, ?_, ?_, ?_, ?_⟩
  · rw [Block.send_refLost, Block.lower_refLost, Block.raise_refLost, ← hc]
  · rw [Block.send_flag, Block.flag, Block.lower, Block.fld_setFld_apart _ _ _ _ _ (by decide) (by decide) (by decide) (by decide), ← Block.flag]
    exact Block.flag_raise _ _ _ (by decide) (by decide)
  · rw [Block.send_flag]
    exact Block.flag_lower _ _ _ (by decide) (by decide)
  · rw [Block.send_inflight, Block.send_inflight, Block.lower_inflight, Block.lower_ticks, Block.raise_inflight, Block.raise_ticks, ← hc]
  · rw [Block.send_baseA, Block.lower_baseA, Block.raise_baseA, ← hc]
  · rw [Block.send_baseB, Block.lower_baseB, Block.raise_baseB, ← hc]
  · rw [Block.send_ports, Block.lower_ports, Block.raise_ports, ← hc]

/-- Every list stops. -/
theorem Block.each_gateStop (b : Block) :
    b.OnGates (b.each 256 fun b p => b.gateStop p) ∧ ∀ p, p < 256 →
      ((b.each 256 fun b p => b.gateStop p).port p).gate.run = false ∧
      ((b.each 256 fun b p => b.gateStop p).port p).gate.changeAt = none ∧
      ((b.each 256 fun b p => b.gateStop p).port p).gate.resumeAt = none := by
  have hstep (c : Block) (q : Nat) : c.OnGates (c.gateStop q) := (Block.OnGates.refl c).gateStop q
  refine ⟨.each hstep b, fun p hp => ?_⟩
  refine Block.each_port hp hstep (P := fun x => x.gate.run = false ∧ x.gate.changeAt = none ∧ x.gate.resumeAt = none)
    (fun c q hq => ?_) fun c _ _ => ?_
  · rw [Block.gateStop_port, if_neg (Ne.symm hq)]
  · rw [Block.gateStop_port, if_pos rfl]
    exact ⟨rfl, rfl, rfl⟩

/-- A base whose time is lost (R355). -/
def TimeBase.atZero (t : TimeBase) : TimeBase := { t with s := 0, ns := 0, frac := 0, state := .unarmed }

theorem Block.OnGates.baseA (h : b.OnGates c) : c.baseA = b.baseA := by obtain ⟨ps, rg, cs, inf, lm, rfl⟩ := h.only; rfl
theorem Block.OnGates.baseB (h : b.OnGates c) : c.baseB = b.baseB := by obtain ⟨ps, rg, cs, inf, lm, rfl⟩ := h.only; rfl

theorem Block.each_atZero (c : Block) :
    (c.each 2 fun b i => b.modBase i fun t => { t with s := 0, ns := 0, frac := 0, state := .unarmed }) =
      { c with baseA := c.baseA.atZero, baseB := c.baseB.atZero } := rfl

theorem Block.flag_of_regs (h : c.regs = b.regs) (a : Nat) (f : Bf) : c.flag a f = b.flag a f := by
  rw [Block.flag, Block.fld, Block.word_of_regs h, ← Block.fld, ← Block.flag]

theorem Block.refclkRelock_tells (h : b.refLost = true) (hswitch : b.switching = false) :
    let t := b.refclkRelock
    t.refLost = false ∧ t.flag R.TIM_REF_STATUS F.TIM_REF_STATUS_REFCLK_OK = true ∧
      t.baseA = { b.baseA with s := 0, ns := 0, frac := 0, state := .unarmed } ∧
      t.baseB = { b.baseB with s := 0, ns := 0, frac := 0, state := .unarmed } ∧
      ∀ p, p < 256 → (t.port p).gate.run = false ∧ (t.port p).gate.changeAt = none ∧ (t.port p).gate.resumeAt = none := by
  intro t
  obtain ⟨c, hc⟩ : ∃ c, ({ b with refLost := false } : Block).raise R.TIM_REF_STATUS F.TIM_REF_STATUS_REFCLK_OK = c := ⟨_, rfl⟩
  obtain ⟨d, hd⟩ : ∃ d, ({ c with baseA := c.baseA.atZero, baseB := c.baseB.atZero } : Block) = d := ⟨_, rfl⟩
  have hregs : d.regs = c.regs := by rw [← hd]
  have hpending : d.switching = false := by
    have hother : R.TIM_ACTIVE_STATUS ≠ R.TIM_REF_STATUS := by decide
    rw [Block.switching, Block.flag_of_regs hregs, ← hc, Block.flag, Block.raise, Block.fld, Block.word_setFld, if_neg hother,
      ← Block.fld, ← Block.flag]
    exact (Block.flag_of_regs rfl _ _).trans hswitch
  have ht : t = d.each 256 fun b p => b.gateStop p := by
    rw [show t = b.refclkRelock from rfl, Block.refclkRelock, if_neg (by simp [h])]
    dsimp only
    rw [hc, Block.each_atZero, hd, hpending, if_neg Bool.false_ne_true]
  obtain ⟨hgates, hports⟩ := d.each_gateStop
  have hc' : c.refLost = false ∧ c.baseA = b.baseA ∧ c.baseB = b.baseB := by
    rw [← hc, Block.raise_refLost, Block.raise_baseA, Block.raise_baseB]
    exact ⟨rfl, rfl, rfl⟩
  obtain ⟨hlost, hA, hB⟩ := hc'
  refine ⟨?_, ?_, ?_, ?_, fun p hp => by rw [ht]; exact hports p hp⟩
  · rw [ht, hgates.refLost, ← hd]
    exact hlost
  · rw [ht, hgates.flag, Block.flag_of_regs hregs, ← hc]
    exact Block.flag_raise _ _ _ (by decide) (by decide)
  · rw [ht, hgates.baseA, ← hd, ← hA]
    rfl
  · rw [ht, hgates.baseB, ← hd, ← hB]
    rfl

/-! ## A switch is asked for (R360) -/

theorem takes_baseSwitchRequest {w : Writer} {v : BitVec 32} (hreach : b.reaches w .tim) :
    Takes (.baseSwitchRequest w v) b (b.switchRequest w v.toNat) := takes_of_write hreach fun _ => rfl

/-- Where a register of port p lies, seen from the ports' window. -/
theorem portReg_ne_activeStatus (p o : Nat) : prtBase p + o ≠ R.TIM_ACTIVE_STATUS := by
  unfold prtBase rgnBase dieBase R.TIM_ACTIVE_STATUS timBase
  omega

/-- The list of a port reads registers of the port alone. -/
theorem Block.operList_of_words (h : ∀ a, a ≠ R.TIM_ACTIVE_STATUS → c.word a = b.word a) (p : Nat) : c.operList p = b.operList p := by
  have hword (o : Nat) : c.word (prtBase p + o) = b.word (prtBase p + o) := h _ (portReg_ne_activeStatus p o)
  have hbank : c.operBank p = b.operBank p := congrArg F.PRT_GATE_STATUS_OPER_BANK.of (hword 0x81C)
  have hcycle : c.word (R.PRT_GATE_OPER_CYCLE p) = b.word (R.PRT_GATE_OPER_CYCLE p) := hword 0x830
  have hcount : c.word (R.PRT_GATE_OPER_COUNT p) = b.word (R.PRT_GATE_OPER_COUNT p) := hword 0x834
  have hns : c.word (R.PRT_GATE_OPER_BASE_NS p) = b.word (R.PRT_GATE_OPER_BASE_NS p) := hword 0x838
  have hlo : c.word (R.PRT_GATE_OPER_BASE_S_LO p) = b.word (R.PRT_GATE_OPER_BASE_S_LO p) := hword 0x83C
  have hhi : c.word (R.PRT_GATE_OPER_BASE_S_HI p) = b.word (R.PRT_GATE_OPER_BASE_S_HI p) := hword 0x840
  rw [Block.operList, Block.operBase, hbank, hcycle, hcount, hns, hlo, hhi, Block.operList, Block.operBase]

theorem Block.gateOn_of_words (h : ∀ a, a ≠ R.TIM_ACTIVE_STATUS → c.word a = b.word a) (p : Nat) : c.gateOn p = b.gateOn p := by
  have hword : c.word (R.PRT_GATE_CFG p) = b.word (R.PRT_GATE_CFG p) := h _ (portReg_ne_activeStatus p 0x800)
  rw [Block.gateOn, Block.flag, Block.fld, hword, ← Block.fld, ← Block.flag, ← Block.gateOn]

/-- The switch of each port whose list runs is planned for the end of its cycle. -/
def Block.planSwitch (b : Block) (p : Nat) : Block :=
  if b.gateOn p && b.gateRuns p then b.modPort p fun x => { x with switchAt := some (b.cycleEnd p) } else b

theorem Block.planSwitch_gates (b : Block) (p : Nat) : b.OnGates (b.planSwitch p) := by
  unfold Block.planSwitch
  split
  · exact (Block.OnGates.refl b).modPort p fun _ => rfl
  · exact .refl b

theorem Block.planSwitch_other (b : Block) {p q : Nat} (h : p ≠ q) : (b.planSwitch q).port p = b.port p := by
  unfold Block.planSwitch
  split
  · rw [Block.port_modPort, if_neg h]
  · rfl

/-- The requested switch is pending, with the other base as its target. -/
theorem Block.switchRequest_of_good {w : Writer} {v : Nat} (h : F.TIM_ACTIVE_SWITCH.of v = 1) (hswitch : b.switching = false)
    (hstate : (b.tbase (1 - b.active)).state = .stepped) :
    let t := b.switchRequest w v
    t.switching = true ∧ t.fld R.TIM_ACTIVE_STATUS F.TIM_ACTIVE_STATUS_TARGET = 1 - b.active ∧ t.active = b.active ∧
      t.switchTick = b.ticks ∧
      (∀ p, p < 256 → b.gateOn p = true → (b.port p).onTarget = false → b.gateRuns p = true → (b.port p).gate.changeAt = none →
        (b.port p).gate.holdTill = none →
        (t.port p).switchAt = some ((b.operList p).cycleOf (b.port p).gate.entryAt + (b.operList p).cycle)) ∧
      (∀ p, p < 256 → b.gateOn p = false → t.port p = b.port p) ∧ ∀ p, (t.port p).onTarget = (b.port p).onTarget := by
  intro t
  obtain ⟨n, hn⟩ : ∃ n, 1 - b.active = n := ⟨_, rfl⟩
  obtain ⟨d, hd⟩ : ∃ d, (b.setFld R.TIM_ACTIVE_STATUS F.TIM_ACTIVE_STATUS_TARGET n).raise R.TIM_ACTIVE_STATUS F.TIM_ACTIVE_STATUS_PENDING = d :=
    ⟨_, rfl⟩
  obtain ⟨c, hc⟩ : ∃ c, ({ d with switchTick := d.ticks } : Block) = c := ⟨_, rfl⟩
  have ht : t = c.each 256 Block.planSwitch := by
    rw [show t = b.switchRequest w v from rfl, Block.switchRequest]
    dsimp only
    rw [if_neg (by simp [h]), if_neg (by simp [hswitch, hstate]), hn, hd, hc]
    rfl
  have hcd (a : Nat) : c.word a = d.word a := by rw [← hc]; rfl
  have hcfld (f : Bf) : c.fld R.TIM_ACTIVE_STATUS f = d.fld R.TIM_ACTIVE_STATUS f := congrArg f.of (hcd _)
  have hport (p : Nat) : c.port p = b.port p := by
    rw [← hc]
    rw [show Block.port { d with switchTick := d.ticks } p = d.port p from rfl, ← hd, Block.raise_port, Block.setFld_port]
  have hword (a : Nat) (ha : a ≠ R.TIM_ACTIVE_STATUS) : c.word a = b.word a := by
    rw [hcd, ← hd, Block.raise, Block.word_setFld, if_neg ha, Block.word_setFld, if_neg ha]
  have hactive : c.active = b.active := by
    rw [Block.active, hcfld, ← hd, Block.raise, Block.status_apart _ _ (by decide), Block.status_apart _ _ (by decide), ← Block.active]
  have hlt : n < 2 := by omega
  have htarget : c.fld R.TIM_ACTIVE_STATUS F.TIM_ACTIVE_STATUS_TARGET = n := by
    rw [hcfld, ← hd, Block.raise, Block.status_apart _ _ (by decide), Block.fld_setFld_same _ _ _ _ (by decide) (by decide)]
    exact Nat.mod_eq_of_lt hlt
  have hpending : c.switching = true := by
    rw [Block.switching, Block.flag, hcfld, ← hd, ← Block.flag]
    exact Block.flag_raise _ _ _ (by decide) (by decide)
  have hbase (i : Nat) : c.tbase i = b.tbase i := by
    rw [← hc]
    rw [show Block.tbase { d with switchTick := d.ticks } i = d.tbase i from rfl, ← hd, Block.tbase, Block.tbase, Block.raise_baseA, Block.raise_baseB,
      Block.setFld_baseA, Block.setFld_baseB]
  have htick : c.switchTick = b.ticks := by
    rw [← hc, ← hd]
    rw [show ∀ e : Block, ({ e with switchTick := e.ticks } : Block).switchTick = e.ticks from fun _ => rfl, Block.raise_ticks,
      Block.setFld_ticks]
  have hgates : c.OnGates t := ht ▸ .each Block.planSwitch_gates c
  refine ⟨?_, ?_, ?_, ?_, fun p hp hon hoff hruns hchange hhold => ?_, fun p hp hoff => ?_, fun p => ?_⟩
  · rw [Block.switching, hgates.flag, ← Block.switching, hpending]
  · rw [hgates.fld, htarget, hn]
  · rw [Block.active, hgates.fld, ← Block.active, hactive]
  · obtain ⟨ps, rg, cs, inf, lm, e⟩ := hgates.only
    rw [e]
    exact htick
  · rw [ht]
    refine Block.each_port hp Block.planSwitch_gates (fun e q hq => e.planSwitch_other hq.symm)
      (P := fun x => x.switchAt = some ((b.operList p).cycleOf (b.port p).gate.entryAt + (b.operList p).cycle)) fun e he hep => ?_
    have hport' : e.port p = b.port p := hep.trans (hport p)
    have hword' (a : Nat) (ha : a ≠ R.TIM_ACTIVE_STATUS) : e.word a = b.word a := (he.word a).trans (hword a ha)
    have hruns' : e.gateRuns p = b.gateRuns p := by
      rw [Block.gateRuns, he.portBase, he.tbase, Block.portBase, hport, hport', hoff, hactive, hbase, Block.gateRuns, Block.portBase, hoff]
      rfl
    have hend : e.cycleEnd p = (b.operList p).cycleOf (b.port p).gate.entryAt + (b.operList p).cycle := by
      simp only [Block.cycleEnd, hport', hchange, hhold, Block.operList_of_words hword']
    rw [Block.planSwitch, Block.gateOn_of_words hword', hruns', hon, hruns, Bool.and_self, if_pos rfl, Block.port_modPort, if_pos rfl, hend]
  · rw [ht]
    refine Block.each_port hp Block.planSwitch_gates (fun e q hq => e.planSwitch_other hq.symm) (P := fun x => x = b.port p) fun e he hep => ?_
    have hword' (a : Nat) (ha : a ≠ R.TIM_ACTIVE_STATUS) : e.word a = b.word a := (he.word a).trans (hword a ha)
    rw [Block.planSwitch, Block.gateOn_of_words hword', hoff, Bool.false_and, if_neg Bool.false_ne_true, hep, hport]
  · rw [hgates.target, hport]

/-! ## A port switches (R360, R361) -/

theorem takes_portSwitch (p : Fin 256) : Takes (.portSwitch p) b (b.portSwitch p.val) := fun _ => rfl

/-- Port p may switch now. -/
def Block.switchDue (b : Block) (p : Nat) : Prop :=
  match (b.port p).switchAt with
  | some e => if b.gateRuns p then e ≤ b.portNs p else b.switchTick + 2000 ≤ b.ticks
  | none => b.switchTick + 2000 ≤ b.ticks

/-- Port p is found ready exactly when it may switch. -/
theorem Block.switchDue_iff (b : Block) (p : Nat) : b.switchDue p ↔
    (match (b.port p).switchAt with
      | some e => if b.gateRuns p then decide (b.portNs p ≥ e) else decide (b.ticks ≥ b.switchTick + 2000)
      | none => decide (b.ticks ≥ b.switchTick + 2000)) = true := by
  cases he : (b.port p).switchAt with
  | some e =>
    cases hr : b.gateRuns p
    · simp only [Block.switchDue, he, hr]
      simp
    · simp only [Block.switchDue, he, hr]
      simp
  | none =>
    simp only [Block.switchDue, he]
    simp

theorem Block.portSwitch_of_wait {p : Nat} (h : b.switching = false ∨ (b.port p).onTarget = true ∨ ¬ b.switchDue p) : b.portSwitch p = b := by
  unfold Block.portSwitch
  extract_lets ready
  have hready : b.switchDue p ↔ ready = true := b.switchDue_iff p
  rw [if_pos]
  rcases h with h | h | h
  · simp [h]
  · simp [h]
  · simp [Bool.not_eq_true _ ▸ mt hready.mpr h]

theorem Block.portSwitch_of_due {p : Nat} (hswitch : b.switching = true) (hoff : (b.port p).onTarget = false) (due : b.switchDue p) :
    b.portSwitch p = ((b.modPort p fun x => { x with onTarget := true }).rebaseGate p).switchEnd := by
  unfold Block.portSwitch
  extract_lets ready
  have hready : ready = true := (b.switchDue_iff p).mp due
  rw [if_neg (by simp [hswitch, hoff, hready])]

theorem Block.planChange_inflight (b : Block) (p : Nat) : (b.planChange p).inflight = b.inflight ∧ (b.planChange p).ticks = b.ticks := by
  unfold Block.planChange
  split
  · dsimp only
    obtain ⟨c, hc⟩ : ∃ c, (b.modPort p fun x => { x with gate := { x.gate with
      changeAt := some (firstFrom (b.adminBase p) (b.word (R.PRT_GATE_ADMIN_CYCLE p)) (b.portNs p + 2000)) } }) = c := ⟨_, rfl⟩
    have hcb : c.inflight = b.inflight ∧ c.ticks = b.ticks := by rw [← hc]; exact ⟨rfl, rfl⟩
    rw [hc]
    rcases c.replan_cases p with e | e <;> rw [e]
    · exact hcb
    · exact hcb
  · exact ⟨rfl, rfl⟩

theorem Block.rebaseGate_inflight (b : Block) (p : Nat) : (b.rebaseGate p).inflight = b.inflight ∧ (b.rebaseGate p).ticks = b.ticks := by
  unfold Block.rebaseGate
  extract_lets v k stepped e
  have he : e.inflight = b.inflight ∧ e.ticks = b.ticks := ⟨rfl, rfl⟩
  clear_value e
  split
  · rw [(e.planChange_inflight p).1, (e.planChange_inflight p).2]
    exact he
  · exact he

/-- Port p has switched, before the end of the switch as a whole. -/
theorem Block.portSwitch_moved (b : Block) (p : Nat) :
    let c := (b.modPort p fun x => { x with onTarget := true }).rebaseGate p
    (c.port p).onTarget = true ∧ (∀ k, k ≠ p → c.port k = b.port k) ∧ c.regs = b.regs ∧ c.inflight = b.inflight ∧ c.ticks = b.ticks := by
  intro c
  obtain ⟨d, hd⟩ : ∃ d, (b.modPort p fun x => { x with onTarget := true }) = d := ⟨_, rfl⟩
  have hc : c = d.rebaseGate p := by rw [← hd]
  have hgates : d.OnGates c := hc ▸ (Block.OnGates.refl d).rebaseGate p
  refine ⟨?_, fun k hk => ?_, ?_, ?_, ?_⟩
  · rw [hgates.target, ← hd, Block.port_modPort, if_pos rfl]
  · rw [hc, Block.rebaseGate_other _ _ hk, ← hd, Block.port_modPort, if_neg hk]
  · rw [hgates.regs, ← hd, Block.modPort_regs]
  · rw [hc, (d.rebaseGate_inflight p).1, ← hd]
    rfl
  · rw [hc, (d.rebaseGate_inflight p).2, ← hd]
    rfl

/-- A port switches while another has yet to. -/
theorem Block.portSwitch_of_more {p q : Nat} (hswitch : b.switching = true) (hoff : (b.port p).onTarget = false) (due : b.switchDue p)
    (hq : q < 256) (hne : q ≠ p) (hlate : (b.port q).onTarget = false) :
    let t := b.portSwitch p
    (t.port p).onTarget = true ∧ t.switching = true ∧ t.active = b.active ∧ ∀ k, k ≠ p → t.port k = b.port k := by
  intro t
  obtain ⟨hon, hother, hregs, -, -⟩ := b.portSwitch_moved p
  have ht : t = (b.modPort p fun x => { x with onTarget := true }).rebaseGate p := by
    rw [show t = b.portSwitch p from rfl, Block.portSwitch_of_due hswitch hoff due]
    exact Block.switchEnd_of_some hq (by rw [hother q hne, hlate])
  rw [← ht] at hon hother hregs
  have hword := Block.word_of_regs hregs
  refine ⟨hon, ?_, ?_, hother⟩
  · rw [Block.switching, Block.flag, Block.fld, hword, ← Block.fld, ← Block.flag]
    exact hswitch
  · rw [Block.active, Block.fld, hword, ← Block.fld, ← Block.active]

/-- The last port switches: the target is the active base. -/
theorem Block.portSwitch_of_last {p : Nat} (hswitch : b.switching = true) (hoff : (b.port p).onTarget = false) (due : b.switchDue p)
    (all : ∀ q, q < 256 → q ≠ p → (b.port q).onTarget = true) :
    let t := b.portSwitch p
    t.switching = false ∧ t.active = b.fld R.TIM_ACTIVE_STATUS F.TIM_ACTIVE_STATUS_TARGET ∧
      (∀ q, q < 256 → (t.port q).onTarget = false) ∧ t.inflight = (b.send 1 0xFFF 0x52 0).inflight := by
  intro t
  obtain ⟨hon, hother, hregs, hsent, hticks⟩ := b.portSwitch_moved p
  obtain ⟨c, hc⟩ : ∃ c, (b.modPort p fun x => { x with onTarget := true }).rebaseGate p = c := ⟨_, rfl⟩
  have ht : t = c.switchEnd := by rw [← hc]; exact Block.portSwitch_of_due hswitch hoff due
  rw [hc] at hon hother hregs hsent hticks
  have hall (q : Nat) (hq : q < 256) : (c.port q).onTarget = true := by
    by_cases e : q = p
    · rw [e, hon]
    · rw [hother q e, all q hq e]
  obtain ⟨hend, hactive, hports, hmsg, -⟩ := Block.switchEnd_of_all hall
  rw [ht]
  refine ⟨hend, ?_, hports, ?_⟩
  · rw [hactive, Block.fld, Block.word_of_regs hregs, ← Block.fld]
  · rw [hmsg, Block.send_inflight, Block.send_inflight, hsent, hticks]
/-! ## The statement's parts -/

theorem Takes.to {x : Instr} {t : Block} {P : Block → Prop} (h : Takes x b t) (hp : P t) : TakesTo x b P := ⟨t, h, hp⟩

theorem bases_armed (b : Block) (i : Fin 2) (v : BitVec 32) (hreach : b.reaches .host .tim) :
    let x := b.tbase i
    (F.TIM_BASE_CTRL_ARM.of v.toNat = 0 → Takes (.timeArm i v) b b) ∧
    (F.TIM_BASE_CTRL_STEP.of v.toNat = 0 → Takes (.timeStepRequest i v) b b) ∧
    (F.TIM_BASE_CTRL_ARM.of v.toNat = 1 → F.TIM_BASE_CTRL_STEP.of v.toNat = 0 →
      (b.switching = true → TakesTo (.timeArm i v) b fun t => t.tbase i = { x with state := .armed } ∧
        t.tbase (1 - i.val) = b.tbase (1 - i.val) ∧ t.switching = false ∧ (∀ p, p < 256 → (t.port p).onTarget = false) ∧
        (b.fld R.TIM_ACTIVE_STATUS F.TIM_ACTIVE_STATUS_TARGET = i → t.active = b.active ∧
          t.flag R.TIM_ACTIVE_STATUS F.TIM_ACTIVE_STATUS_CANCELLED = true) ∧
        (b.fld R.TIM_ACTIVE_STATUS F.TIM_ACTIVE_STATUS_TARGET ≠ i →
          t.active = b.fld R.TIM_ACTIVE_STATUS F.TIM_ACTIVE_STATUS_TARGET)) ∧
      (x.state ≠ .stepped → b.switching = false → TakesTo (.timeArm i v) b fun t => t.tbase i = { x with state := .armed } ∧
        t.tbase (1 - i.val) = b.tbase (1 - i.val) ∧ t.ports = b.ports ∧ t.regs = b.regs) ∧
      (x.state = .stepped → b.switching = false → TakesTo (.timeArm i v) b fun t => t.tbase i = { x with state := .armed } ∧
        t.tbase (1 - i.val) = b.tbase (1 - i.val) ∧ t.regs = b.regs ∧
        (∀ p, p < 256 → b.portBase p = i.val → (t.port p).gate.run = false ∧ (t.port p).gate.changeAt = none) ∧
        ∀ p, p < 256 → b.portBase p ≠ i.val → t.port p = b.port p)) ∧
    (F.TIM_BASE_CTRL_ARM.of v.toNat = 0 → F.TIM_BASE_CTRL_STEP.of v.toNat = 1 →
      TakesTo (.timeStepRequest i v) b fun t => t.tbase i = { x with steps := x.steps ++
          [⟨b.ticks + 100, b.flag (R.TIM_STEP_MODE i) F.TIM_STEP_MODE_M,
            b.word (R.TIM_STEP_S_HI i) % 65536 * 2 ^ 32 + b.word (R.TIM_STEP_S_LO i), b.fld (R.TIM_STEP_NS i) F.TIM_STEP_NS_V⟩] } ∧
        t.tbase (1 - i.val) = b.tbase (1 - i.val) ∧ t.regs = b.regs ∧ t.ports = b.ports) := by
  intro x
  have harm : Takes (.timeArm i v) b (b.timeArm i.val v.toNat) := takes_timeArm hreach
  have hstep : Takes (.timeStepRequest i v) b (b.timeStepRequest i.val v.toNat) := takes_timeStepRequest hreach
  refine ⟨fun h => takes_congr harm (by simp [Block.timeArm, h]), fun h => takes_congr hstep (by simp [Block.timeStepRequest, h]),
    fun ha hs => ?_, fun ha hs => ?_⟩
  · rw [Block.timeArm_of_arm ha hs] at harm
    refine ⟨fun hswitch => harm.to (Block.arm_of_switching hswitch), fun hstate hswitch => ?_, fun hstate hswitch => harm.to ?_⟩
    · rw [Block.arm_of_idle hstate hswitch] at harm
      obtain ⟨y, z, e⟩ := b.modBase_only i.val fun t => { t with state := .armed }
      exact harm.to ⟨Block.tbase_modBase_same _ _ _, Block.tbase_modBase_partner _ _ _, by rw [e], by rw [e]⟩
    · obtain ⟨hown, hpartner, hregs, hports⟩ := Block.arm_of_stepped hstate hswitch
      exact ⟨hown, hpartner, hregs, fun p hp => (hports p hp).1, fun p hp => (hports p hp).2⟩
  · rw [Block.timeStepRequest_of_step ha hs, Block.planStep] at hstep
    obtain ⟨steps, hsteps⟩ : ∃ l, l = [(⟨b.ticks + 100, b.flag (R.TIM_STEP_MODE i) F.TIM_STEP_MODE_M,
      b.word (R.TIM_STEP_S_HI i) % 65536 * 2 ^ 32 + b.word (R.TIM_STEP_S_LO i), b.fld (R.TIM_STEP_NS i) F.TIM_STEP_NS_V⟩ : PendStep)] := ⟨_, rfl⟩
    rw [← hsteps] at hstep ⊢
    obtain ⟨y, z, e⟩ := b.modBase_only i.val fun t => { t with steps := t.steps ++ steps }
    exact hstep.to ⟨Block.tbase_modBase_same _ _ _, Block.tbase_modBase_partner _ _ _, by rw [e], by rw [e]⟩

theorem bases_stepped (b : Block) (i : Fin 2) :
    let x := b.tbase i
    (x.steps = [] → Takes (.timeStep i) b b) ∧
    ∀ y rest, x.steps = y :: rest →
      (b.ticks < y.at_ → Takes (.timeStep i) b b) ∧
      (y.at_ ≤ b.ticks → x.state ≠ .armed → TakesTo (.timeStep i) b fun t =>
        t.tbase i = { x with steps := rest } ∧ t.flag (R.TIM_BASE_STATUS i) F.TIM_BASE_STATUS_STEP_REFUSED = true ∧
        t.inflight = (b.send 1 i 0x51 0).inflight ∧ t.ports = b.ports) ∧
      (y.at_ ≤ b.ticks → x.state = .armed → x.stepTo y = none → TakesTo (.timeStep i) b fun t =>
        t.tbase i = { x with steps := rest } ∧ t.flag (R.TIM_BASE_STATUS i) F.TIM_BASE_STATUS_STEP_ERR = true ∧
        t.inflight = (b.send 1 i 0x51 0).inflight ∧ t.ports = b.ports) ∧
      (∀ s ns fr, y.at_ ≤ b.ticks → x.state = .armed → x.stepTo y = some (s, ns, fr) → TakesTo (.timeStep i) b fun t =>
        t.tbase i = { x with steps := rest, s := s, ns := ns, frac := fr, state := .stepped } ∧
        t.tbase (1 - i.val) = b.tbase (1 - i.val) ∧
        t.flag (R.TIM_BASE_STATUS i) F.TIM_BASE_STATUS_STEPPED_SEEN = true ∧
        (∃ l, t.inflight = (b.send 1 i 0x50 0).inflight ++ l) ∧
        (∀ p, p < 256 → b.portBase p = i.val → (t.port p).gate.run = false ∧ (t.port p).gate.resumeAt ≠ none) ∧
        ∀ p, p < 256 → b.portBase p ≠ i.val → t.port p = b.port p) ∧
      (y.ns ≤ 999999999 → y.add = false → x.stepTo y = some (y.s, y.ns, 0)) ∧ (999999999 < y.ns → x.stepTo y = none) := by
  intro x
  have h : Takes (.timeStep i) b (b.timeStep i.val) := takes_timeStep i
  refine ⟨fun hnone => takes_congr h (Block.timeStep_of_none hnone), fun y rest hx => ⟨fun early => takes_congr h (Block.timeStep_of_early hx early),
    fun due hstate => h.to ?_, fun due hstate bad => h.to ?_, fun s ns fr due hstate good => h.to (Block.timeStep_of_good hx due hstate good),
    fun hns hadd => ?_, fun hns => ?_⟩⟩
  · rw [Block.timeStep_of_unarmed hx due hstate]
    exact b.modBase_stepRefused i rest (by decide)
  · rw [Block.timeStep_of_bad hx due hstate bad]
    exact b.modBase_stepRefused i rest (by decide)
  · rw [TimeBase.stepTo, if_neg (by omega), if_neg (by simp [hadd])]
  · rw [TimeBase.stepTo, if_pos hns]

/-- Settles O34: ARM, STEP, captures, the clock, and the switch of the active base port by port. -/
theorem basesAreSteppedCapturedAndSwitched : Obligations.BasesAreSteppedCapturedAndSwitched := by
  unfold Obligations.BasesAreSteppedCapturedAndSwitched
  refine ⟨⟨fun b i v hreach => bases_armed b i v hreach, fun b i => bases_stepped b i,
    fun b w i v hreach => (takes_rateWrite hreach).to (b.rateWrite_tells w i.val v.toNat), fun b v hreach => ⟨fun h => ?_, fun h hticks => ?_⟩⟩,
    ⟨fun b => ⟨fun h => ?_, fun h => ?_, fun h => ?_, fun h hswitch => ?_⟩, fun b w v hreach => ?_, fun b p => ?_⟩⟩
  · exact takes_congr (takes_timeCapture hreach) (by simp [Block.timeCapture, h])
  · exact (takes_timeCapture hreach).to (Block.timeCapture_tells h hticks)
  · exact takes_congr takes_timeRefclk (Block.refclkLost_of_lost h)
  · exact takes_timeRefclk.to (Block.refclkLost_tells h)
  · exact takes_congr takes_timeRefclkRelock (Block.refclkRelock_of_running h)
  · exact takes_timeRefclkRelock.to (Block.refclkRelock_tells h hswitch)
  · have htakes := takes_baseSwitchRequest (v := v) hreach
    refine ⟨fun h => takes_congr htakes (by simp [Block.switchRequest, h]), fun h bad => takes_congr htakes ?_, fun h hswitch hstate =>
      htakes.to (Block.switchRequest_of_good h hswitch hstate)⟩
    unfold Block.switchRequest
    dsimp only
    rw [if_neg (by simp [h]), if_pos (by rcases bad with e | e <;> simp [e])]
  · refine ⟨fun h => takes_congr (takes_portSwitch p) (Block.portSwitch_of_wait h), fun hswitch hoff due => ⟨fun q hq hne hlate => ?_, fun all => ?_⟩⟩
    · exact (takes_portSwitch p).to (Block.portSwitch_of_more hswitch hoff due hq hne hlate)
    · exact (takes_portSwitch p).to (Block.portSwitch_of_last hswitch hoff due all)

end Sys2Proof.Machine
end

section
/-!
PROOFS. The fault collectors: what a message changes where it is taken, captured and stored (R477 to R481); and O45 from these.
-/
namespace Sys2Proof.Machine
open Sys2Proof

variable {b c d : Block}

/-! ## The counters of the collectors -/

/-- A counter between 0x100 and 0x13F of its page: no unit's programmable counter is one. -/
def midPage (a : Nat) : Prop := 0x100 ≤ a % 0x1000 ∧ a % 0x1000 < 0x140

theorem Block.ctr_pmc_mid (b : Block) (u : PUnit) (ev q n : Nat) {a : Nat} (h : midPage a) : (b.pmc u ev q n).ctr a = b.ctr a :=
  b.ctr_pmc_other u ev q n fun k hk e => by
    obtain ⟨hlo, hhi⟩ := h
    have := u.base_page
    omega

theorem Block.ctr_msix_mid (b : Block) (i v : Nat) {a : Nat} (h : midPage a) : (b.msix i v).ctr a = b.ctr a := by
  unfold Block.msix
  split
  · rw [Block.ctr_pmc_mid _ _ _ _ _ h]
    rfl
  · split <;> rfl

theorem Block.ctr_raising_mid (b : Block) (n : Nat) (f : Block → Block) {a : Nat} (h : midPage a) : (b.raising n f).ctr a = (f b).ctr a := by
  unfold Block.raising
  dsimp only
  split
  · exact Block.ctr_msix_mid _ _ _ h
  · rfl

theorem midPage_count {s : Nat} (h : s < 4) : midPage (R.FLT_COUNT s) := by
  unfold midPage R.FLT_COUNT fltBase
  omega

/-- Where collector c counts the messages that it cannot store. -/
def colLost (c : Nat) : Nat := if c < 4 then R.DIE_FLT_LOST c else R.FLT_LOST

theorem midPage_lost (c : Nat) : midPage (colLost c) := by
  unfold colLost
  split
  · unfold midPage R.DIE_FLT_LOST dieBase
    omega
  · unfold midPage
    decide

theorem count_ne_lost {s : Nat} (h : s < 4) (c : Nat) : R.FLT_COUNT s ≠ colLost c := by
  unfold colLost
  split
  · unfold R.FLT_COUNT fltBase R.DIE_FLT_LOST dieBase
    omega
  · unfold R.FLT_COUNT fltBase R.FLT_LOST fltBase
    omega

theorem Block.stopped_count (b : Block) {s : Nat} (h : s < 4) : b.stopped (R.FLT_COUNT s) = false := by
  have hf : freezer (R.FLT_COUNT s) = none := by
    unfold freezer R.FLT_COUNT fltBase
    rw [if_neg (by omega), if_neg (by omega), if_neg (by omega)]
  simp only [Block.stopped, hf]

theorem Block.stopped_lost (b : Block) {c : Nat} (h : c < 5) : b.stopped (colLost c) = false := by
  have hf : freezer (colLost c) = none := by
    unfold freezer colLost
    split
    · unfold R.DIE_FLT_LOST dieBase
      rw [if_neg (by omega), if_pos (by omega), if_pos (by omega)]
    · decide
  simp only [Block.stopped, hf]

/-! ## The registers of a collector -/

theorem colReg_eq (c o : Nat) : colReg c o = colStatus c + o := by
  unfold colStatus colReg
  split <;> omega

theorem colEscCount_eq (c : Nat) : colEscCount c = colStatus c + 0x14 := colReg_eq c 0x14
theorem colFirst_eq (c o : Nat) : colFirst c o = colStatus c + (0x60 + o) := colReg_eq c _

/-- The register at offset o of a collector is not STATUS of the package collector, but for that itself. -/
theorem colStatus_ne_fltStatus (c : Nat) {o : Nat} (ho : 0 < o) : colStatus c + o ≠ R.FLT_STATUS := by
  unfold colStatus colReg
  split
  · unfold R.DIE_FLT_STATUS dieBase R.FLT_STATUS fltBase
    omega
  · omega

/-- Another field of a register than the one written. -/
theorem Block.flag_setFld_apart (b : Block) (a : Nat) {f g : Bf} (v : Nat)
    (h : (decide (f.hi < 32 ∧ f.lo ≤ f.hi ∧ g.lo ≤ g.hi) && decide (f.hi < g.lo ∨ g.hi < f.lo)) = true) (x : Nat) :
    (b.setFld x f v).flag a g = b.flag a g := by
  simp only [Bool.and_eq_true, decide_eq_true_eq] at h
  obtain ⟨⟨hw, hf, hg⟩, hd⟩ := h
  rw [Block.flag, Block.flag]
  by_cases e : a = x
  · rw [e, Block.fld_setFld_apart _ _ _ _ _ hw hf hg hd]
  · rw [Block.fld, Block.word_setFld, if_neg e, ← Block.fld]

theorem Block.word_setFld_ne (b : Block) {a x : Nat} (f : Bf) (v : Nat) (h : a ≠ x) : (b.setFld x f v).word a = b.word a := by
  rw [Block.word_setFld, if_neg h]

/-! ## The collectors themselves -/

theorem Block.col_modCol_same (b : Block) (k : Nat) (f : Collector → Collector) : (b.modCol k f).col k = f (b.col k) := by
  unfold Block.col Block.modCol
  by_cases h : k < 4
  · rw [if_pos h, if_pos h, if_pos h, Block.die_modDie_same]
  · rw [if_neg h, if_neg h, if_neg h]

/-- Another collector stands. -/
theorem Block.col_modCol_other (b : Block) {k j : Nat} (f : Collector → Collector) (h : j ≠ k) (hj : j < 5) (hk : k < 5) :
    (b.modCol k f).col j = b.col j := by
  unfold Block.col Block.modCol
  by_cases h1 : k < 4
  · rw [if_pos h1]
    split
    · rw [Block.die_modDie_other _ _ h]
    · rfl
  · rw [if_neg h1, if_pos (by omega), if_pos (by omega)]
    rfl

theorem Block.col_of (hd : ∀ e, c.die e = b.die e) (hf : c.flt = b.flt) (k : Nat) : c.col k = b.col k := by
  rw [Block.col, hd, hf, Block.col]

/-- From b to c a collector took a message: nothing but registers, counters, collectors, trace records, interrupts and free values
changed. -/
def Block.OnTake (b c : Block) : Prop :=
  ∃ rs cs ds ft rc o is fr, c = { b with regs := rs, ctrs := cs, dies := ds, flt := ft, records := rc, out := o, insts := is, fresh := fr }

namespace Block.OnTake

theorem refl (b : Block) : b.OnTake b := ⟨_, _, _, _, _, _, _, _, rfl⟩
theorem trans (h : b.OnTake c) (h' : c.OnTake d) : b.OnTake d := by
  obtain ⟨rs, cs, ds, ft, rc, o, is, fr, rfl⟩ := h
  obtain ⟨rs', cs', ds', ft', rc', o', is', fr', rfl⟩ := h'
  exact ⟨_, _, _, _, _, _, _, _, rfl⟩
theorem setWord (h : b.OnTake c) (a v : Nat) : b.OnTake (c.setWord a v) := h.trans ⟨_, _, _, _, _, _, _, _, Block.setWord_only c a v⟩
theorem setFld (h : b.OnTake c) (a : Nat) (f : Bf) (v : Nat) : b.OnTake (c.setFld a f v) := h.setWord _ _
theorem count (h : b.OnTake c) (a n : Nat) : b.OnTake (c.count a n) := h.trans ⟨_, _, _, _, _, _, _, _, c.count_only a n⟩
theorem pmc (h : b.OnTake c) (u : PUnit) (e q n : Nat) : b.OnTake (c.pmc u e q n) := h.trans ⟨_, _, _, _, _, _, _, _, c.pmc_only u e q n⟩
theorem modDie (h : b.OnTake c) (e : Nat) (f : Die → Die) : b.OnTake (c.modDie e f) := h.trans ⟨_, _, _, _, _, _, _, _, rfl⟩
theorem modCol (h : b.OnTake c) (k : Nat) (f : Collector → Collector) : b.OnTake (c.modCol k f) := by
  refine h.trans ?_
  unfold Block.modCol
  split
  · exact (refl c).modDie _ _
  · exact ⟨_, _, _, _, _, _, _, _, rfl⟩
theorem trace (h : b.OnTake c) (r : TraceRec) : b.OnTake (c.trace r) := h.trans ⟨_, _, _, _, _, _, _, _, rfl⟩
theorem raising (h : b.OnTake c) (n a : Nat) (f : Bf) : b.OnTake (c.raising n fun b => b.raise a f) := by
  refine h.trans ?_
  rw [Block.raising_only]
  refine ((refl c).setFld a f 1).trans ?_
  exact ⟨_, _, _, _, _, _, _, _, rfl⟩

theorem inflight (h : b.OnTake c) : c.inflight = b.inflight := by obtain ⟨rs, cs, ds, ft, rc, o, is, fr, rfl⟩ := h; rfl
theorem frames (h : b.OnTake c) : c.frames = b.frames := by obtain ⟨rs, cs, ds, ft, rc, o, is, fr, rfl⟩ := h; rfl
theorem regions (h : b.OnTake c) : c.regions = b.regions := by obtain ⟨rs, cs, ds, ft, rc, o, is, fr, rfl⟩ := h; rfl
theorem ports (h : b.OnTake c) : c.ports = b.ports := by obtain ⟨rs, cs, ds, ft, rc, o, is, fr, rfl⟩ := h; rfl
theorem ticks (h : b.OnTake c) : c.ticks = b.ticks := by obtain ⟨rs, cs, ds, ft, rc, o, is, fr, rfl⟩ := h; rfl
theorem faultN (h : b.OnTake c) : c.faultN = b.faultN := by obtain ⟨rs, cs, ds, ft, rc, o, is, fr, rfl⟩ := h; rfl
theorem relPin (h : b.OnTake c) : c.relPin = b.relPin := by obtain ⟨rs, cs, ds, ft, rc, o, is, fr, rfl⟩ := h; rfl

end Block.OnTake

/-! ## A message is taken, first (R477, R482) -/

/-- Message m as its first collector has it. -/
def Block.stamped (b : Block) (m : Msg) : Msg := { m with sev := b.severity m.typ m.kind, stamp := b.stampNow, ref := b.ticks }

theorem Block.severity_lt (b : Block) (typ kind : Nat) : b.severity typ kind < 4 := by
  unfold Block.severity
  split
  · decide
  · exact Nat.mod_lt _ (by decide)

theorem Block.escShow_word (b : Block) (k : Nat) {a : Nat} (h : a ≠ colStatus k) : (b.escShow k).word a = b.word a := b.word_setFld_ne _ _ h

/-- A serious message counts and starts the timer. -/
theorem Block.serious_tells (b : Block) (k : Nat) :
    let t := b.serious k
    b.OnTake t ∧ t.ctrs = b.ctrs ∧ t.records = b.records ∧ (t.col k).held = (b.col k).held ∧ (t.col k).dropped = (b.col k).dropped ∧
      (t.col k).seq = (b.col k).seq ∧ (∀ a, a ≠ colEscCount k → a ≠ colStatus k → t.word a = b.word a) ∧
      t.flag (colStatus k) F.FLT_STATUS_CAPTURED = b.flag (colStatus k) F.FLT_STATUS_CAPTURED ∧
      t.fld (colEscCount k) F.FLT_ESC_COUNT_RECEIVED = (b.fld (colEscCount k) F.FLT_ESC_COUNT_RECEIVED + 1) % 65536 := by
  intro t
  obtain ⟨n, hn⟩ : ∃ n, b.fld (colEscCount k) F.FLT_ESC_COUNT_RECEIVED + 1 = n := ⟨_, rfl⟩
  obtain ⟨c, hc⟩ : ∃ c, b.setFld (colEscCount k) F.FLT_ESC_COUNT_RECEIVED n = c := ⟨_, rfl⟩
  obtain ⟨d, hd⟩ : ∃ d, (c.modCol k fun x => { x with arrivals := (c.ticks :: x.arrivals).take 64 }) = d := ⟨_, rfl⟩
  have ht : t = d.escShow k := by
    rw [show t = b.serious k from rfl, Block.serious]
    rw [hn, hc, hd]
  have hne : colStatus k ≠ colEscCount k := by rw [colEscCount_eq]; omega
  obtain ⟨v, hv⟩ : ∃ v, t = d.setFld (colStatus k) F.FLT_STATUS_ESC_RUNNING v := ⟨_, ht⟩
  have hcol : t.col k = { b.col k with arrivals := (c.ticks :: (b.col k).arrivals).take 64 } := by
    rw [Block.col_of (b := d) (fun e => by rw [hv, Block.setFld_die]) (by rw [hv, Block.setFld_flt]), ← hd, Block.col_modCol_same,
      Block.col_of (b := b) (c := c) (fun e => by rw [← hc, Block.setFld_die]) (by rw [← hc, Block.setFld_flt])]
  have hdword (a : Nat) : d.word a = c.word a := by
    rw [← hd]
    unfold Block.modCol
    split <;> rfl
  have hdother : d.ctrs = c.ctrs ∧ d.records = c.records := by
    rw [← hd]
    unfold Block.modCol
    split <;> exact ⟨rfl, rfl⟩
  refine ⟨?_, ?_, ?_, by rw [hcol], by rw [hcol], by rw [hcol], fun a ha hs => ?_, ?_, ?_⟩
  · rw [hv, ← hd, ← hc]
    exact (((Block.OnTake.refl b).setFld _ _ _).modCol _ _).setFld _ _ _
  · rw [hv, Block.setFld_ctrs, hdother.1, ← hc, Block.setFld_ctrs]
  · rw [hv, Block.setFld_records, hdother.2, ← hc, Block.setFld_records]
  · rw [hv, Block.word_setFld_ne _ _ _ hs, hdword, ← hc, Block.word_setFld_ne _ _ _ ha]
  · rw [hv, Block.flag_setFld_apart _ _ _ (by decide), Block.flag, Block.fld, hdword, ← hc, Block.word_setFld_ne _ _ _ hne, ← Block.fld, ← Block.flag]
  · rw [hv, Block.fld, Block.word_setFld_ne _ _ _ hne.symm, hdword, ← hc, ← Block.fld, Block.fld_setFld_same _ _ _ _ (by decide) (by decide), ← hn]
    rfl

/-- What the first collector k leaves of message m: the message as stamped, its count and record, and the collector's store as it was. -/
theorem Block.takeFirst_tells (b : Block) (k : Nat) (m : Msg) :
    let sev := b.severity m.typ m.kind
    let t := (b.takeFirst k m).2
    (b.takeFirst k m).1 = b.stamped m ∧ b.OnTake t ∧ t.ctr (R.FLT_COUNT sev) = (b.ctr (R.FLT_COUNT sev) + 1) % 2 ^ 64 ∧
      (∀ a, midPage a → a ≠ R.FLT_COUNT sev → t.ctr a = b.ctr a) ∧ (∃ r, t.records = b.records ++ [r] ∧ r.typ = 1 ∧ r.sev = sev) ∧
      (t.col k).held = (b.col k).held ∧ (t.col k).dropped = (b.col k).dropped ∧ (t.col k).seq = (b.col k).seq ∧
      (∀ a, a ≠ colEscCount k → a ≠ colStatus k → a ≠ R.FLT_STATUS → t.word a = b.word a) ∧
      t.flag (colStatus k) F.FLT_STATUS_CAPTURED = b.flag (colStatus k) F.FLT_STATUS_CAPTURED ∧
      (sev = 2 → t.fld (colEscCount k) F.FLT_ESC_COUNT_RECEIVED = (b.fld (colEscCount k) F.FLT_ESC_COUNT_RECEIVED + 1) % 65536) ∧
      (sev = 3 → t.flag R.FLT_STATUS F.FLT_STATUS_FATAL_SEEN = true ∧ t.dies = b.dies) := by
  intro sev t
  have hsev : sev < 4 := b.severity_lt _ _
  obtain ⟨c, hc⟩ : ∃ c, (b.count (R.FLT_COUNT sev) 1).traceFault (if k < 4 then k else 0) (b.stamped m) = c := ⟨_, rfl⟩
  obtain ⟨d, hd⟩ : ∃ d, (if k < 4 then c.pmc (.die k) 0x05 sev 1 else c) = d := ⟨_, rfl⟩
  obtain ⟨e, he⟩ : ∃ e, (if sev == 3 then d.raise R.FLT_STATUS F.FLT_STATUS_FATAL_SEEN else d) = e := ⟨_, rfl⟩
  have ht : t = if sev == 2 then e.serious k else e := by rw [← he, ← hd, ← hc]; rfl
  have hd' : ∃ q n, d = c ∨ d = c.pmc q 5 sev n := by
    rw [← hd]
    split
    · exact ⟨_, _, .inr rfl⟩
    · exact ⟨.pkg, 0, .inl rfl⟩
  have hdc : c.OnTake d ∧ (∀ a, midPage a → d.ctr a = c.ctr a) ∧ d.records = c.records ∧ d.regs = c.regs ∧ d.dies = c.dies ∧ d.flt = c.flt := by
    obtain ⟨q, n, h | h⟩ := hd'
    · rw [h]
      exact ⟨.refl c, fun _ _ => rfl, rfl, rfl, rfl, rfl⟩
    · rw [h]
      exact ⟨(Block.OnTake.refl c).pmc _ _ _ _, fun a ha => c.ctr_pmc_mid _ _ _ _ ha, Block.pmc_records .., Block.pmc_regs .., Block.pmc_dies ..,
        Block.pmc_flt ..⟩
  obtain ⟨htaken, hctr, hrec, hregs, hdies, hflt⟩ := hdc
  have hcb : b.OnTake c := hc ▸ ((Block.OnTake.refl b).count _ _).trace _
  have hed : c.OnTake e ∧ e.ctrs = d.ctrs ∧ e.records = d.records ∧ (∀ a, a ≠ R.FLT_STATUS → e.word a = d.word a) ∧
      e.flag (colStatus k) F.FLT_STATUS_CAPTURED = d.flag (colStatus k) F.FLT_STATUS_CAPTURED ∧ e.dies = d.dies ∧ e.flt = d.flt ∧
      (sev = 3 → e.flag R.FLT_STATUS F.FLT_STATUS_FATAL_SEEN = true) := by
    rw [← he]
    split
    · exact ⟨htaken.setFld _ _ _, Block.raise_ctrs .., Block.raise_records .., fun a ha => d.word_setFld_ne _ _ ha,
        d.flag_setFld_apart _ _ (by decide) _, Block.raise_dies .., Block.raise_flt .., fun _ => Block.flag_raise _ _ _ (by decide) (by decide)⟩
    · rename_i h
      exact ⟨htaken, rfl, rfl, fun _ _ => rfl, rfl, rfl, rfl, fun h3 => absurd h3 (by simpa using h)⟩
  obtain ⟨htaken', hctr', hrec', hword', hcapt', hdies', hflt', hfatal⟩ := hed
  have hcctr (a : Nat) : c.ctr a = (b.count (R.FLT_COUNT sev) 1).ctr a := by rw [← hc]; rfl
  have hcdies : c.dies = b.dies ∧ c.flt = b.flt := by rw [← hc]; exact ⟨Block.count_dies .., Block.count_flt ..⟩
  have hcword (a : Nat) : d.word a = b.word a := by
    rw [Block.word_of_regs hregs, ← hc, Block.traceFault, Block.trace_word, Block.count_word]
  have hectr (a : Nat) (ha : midPage a) : e.ctr a = (b.count (R.FLT_COUNT sev) 1).ctr a := by
    rw [Block.ctr, hctr', ← Block.ctr, hctr a ha, hcctr]
  have hcounted : e.ctr (R.FLT_COUNT sev) = (b.ctr (R.FLT_COUNT sev) + 1) % 2 ^ 64 := by
    rw [hectr _ (midPage_count hsev), Block.ctr_count_same _ _ _ (b.stopped_count hsev)]
  have hother (a : Nat) (ha : midPage a) (hne : a ≠ R.FLT_COUNT sev) : e.ctr a = b.ctr a := by
    rw [hectr a ha, Block.ctr_count_other _ _ hne]
  have hrecords : ∃ r, e.records = b.records ++ [r] ∧ r.typ = 1 ∧ r.sev = sev := by
    rw [hrec', hrec, ← hc]
    exact ⟨_, by rw [Block.traceFault, Block.trace, Block.count_records], rfl, rfl⟩
  have hecol : e.col k = b.col k :=
    Block.col_of (fun i => by rw [Block.die, hdies', hdies, hcdies.1, ← Block.die]) (by rw [hflt', hflt, hcdies.2]) k
  have hflag : e.flag (colStatus k) F.FLT_STATUS_CAPTURED = b.flag (colStatus k) F.FLT_STATUS_CAPTURED := by
    rw [hcapt', Block.flag, Block.fld, hcword, ← Block.fld, ← Block.flag]
  refine ⟨rfl, ?_⟩
  rw [ht]
  split
  · rename_i h
    have h2 : sev = 2 := by simpa using h
    obtain ⟨hst, hsctr, hsrec, hheld, hdrop, hseq, hsword, hscapt, hrecv⟩ := e.serious_tells k
    have hne : colEscCount k ≠ R.FLT_STATUS := by rw [colEscCount_eq]; exact colStatus_ne_fltStatus k (by decide)
    refine ⟨(hcb.trans htaken').trans hst, ?_, fun a ha hne => ?_, ?_, by rw [hheld, hecol], by rw [hdrop, hecol], by rw [hseq, hecol],
      fun a h1 h2 h3 => ?_, by rw [hscapt, hflag], fun _ => ?_, fun h3 => absurd (h2.symm.trans h3) (by decide)⟩
    · rw [Block.ctr, hsctr, ← Block.ctr, hcounted]
    · rw [Block.ctr, hsctr, ← Block.ctr, hother a ha hne]
    · rw [hsrec]
      exact hrecords
    · rw [hsword a h1 h2, hword' a h3, hcword]
    · rw [hrecv, Block.fld, hword' _ hne, hcword, ← Block.fld]
  · rename_i h
    exact ⟨hcb.trans htaken', hcounted, hother, hrecords, by rw [hecol], by rw [hecol], by rw [hecol], fun a _ _ h3 => by rw [hword' a h3, hcword], hflag,
      fun h2 => absurd h2 (by simpa using h), fun h3 => ⟨hfatal h3, by rw [hdies', hdies, hcdies.1]⟩⟩

end Sys2Proof.Machine
end

section
/-!
PROOFS. The fault collectors: the capture, the store and the package queue (R478 to R481); and O45 from these.
-/
namespace Sys2Proof.Machine
open Sys2Proof

variable {b c d : Block}

/-! ## The first-error capture (R480) -/

theorem Block.capture_of_not {k seq : Nat} {m : Msg}
    (h : b.flag (colStatus k) F.FLT_STATUS_CAPTURED = true ∨ m.sev < b.fld R.FLT_CFG F.FLT_CFG_CAPTURE_SEV) : b.capture k seq m = b := by
  unfold Block.capture
  rw [if_pos]
  rcases h with h | h <;> simp [h]

/-- The words of the capture of message m by collector k, in their order. -/
def captureWords (k seq : Nat) (m : Msg) : List (Nat × Nat) :=
  [(0x60, m.word % 2 ^ 32), (0x64, m.word / 2 ^ 32), (0x68, if k < 4 then 0 else seq), (0x6C, m.requester * 2 ^ 16 + m.access), (0x70, m.stamp.word),
    (0x74, m.stamp.s % 2 ^ 32), (0x78, m.stamp.s / 2 ^ 32), (0x80, m.ref % 2 ^ 32), (0x84, m.ref / 2 ^ 32)]

/-- A run of writes at offsets from x. -/
def Block.setWords (b : Block) (x : Nat) (l : List (Nat × Nat)) : Block := l.foldl (fun b e => b.setWord (x + e.1) e.2) b

theorem Block.setWords_taken (b : Block) (x : Nat) (l : List (Nat × Nat)) :
    b.OnTake (b.setWords x l) ∧ (b.setWords x l).ctrs = b.ctrs ∧ (b.setWords x l).records = b.records ∧ (b.setWords x l).dies = b.dies ∧
      (b.setWords x l).flt = b.flt := by
  induction l generalizing b with
  | nil => exact ⟨.refl b, rfl, rfl, rfl, rfl⟩
  | cons e l ih =>
    obtain ⟨htaken, hctrs, hrecords, hdies, hflt⟩ := ih (b.setWord (x + e.1) e.2)
    exact ⟨((Block.OnTake.refl b).setWord _ _).trans htaken, hctrs, hrecords, hdies, hflt⟩

theorem Block.setWords_word (b : Block) (x : Nat) {l : List (Nat × Nat)} {a : Nat} (h : ∀ e ∈ l, a ≠ x + e.1) : (b.setWords x l).word a = b.word a := by
  induction l generalizing b with
  | nil => rfl
  | cons e l ih =>
    rw [Block.setWords, List.foldl_cons, ← Block.setWords, ih _ fun e' he' => h e' (List.mem_cons_of_mem _ he'),
      Block.word_setWord_other _ _ (h e (List.mem_cons_self ..))]

theorem Block.capture_of_first {k seq : Nat} {m : Msg} (h : b.flag (colStatus k) F.FLT_STATUS_CAPTURED = false)
    (h' : b.fld R.FLT_CFG F.FLT_CFG_CAPTURE_SEV ≤ m.sev) :
    b.capture k seq m = (b.setWords (colStatus k) (captureWords k seq m)).raise (colStatus k) F.FLT_STATUS_CAPTURED := by
  unfold Block.capture
  rw [if_neg (by simp [h]; omega)]
  simp only [colFirst_eq]
  rfl

/-- A capture changes its own words and STATUS.CAPTURED alone. -/
theorem Block.capture_tells (b : Block) (k seq : Nat) (m : Msg) :
    let t := b.capture k seq m
    b.OnTake t ∧ t.ctrs = b.ctrs ∧ t.records = b.records ∧ t.dies = b.dies ∧ t.flt = b.flt ∧
      (∀ a, a ≠ colStatus k → a < colStatus k + 0x60 → t.word a = b.word a) ∧
      (b.flag (colStatus k) F.FLT_STATUS_CAPTURED = false → b.fld R.FLT_CFG F.FLT_CFG_CAPTURE_SEV ≤ m.sev →
        t.flag (colStatus k) F.FLT_STATUS_CAPTURED = true ∧ t.word (colFirst k 4) = m.word / 2 ^ 32 % 2 ^ 32) := by
  intro t
  by_cases h : b.flag (colStatus k) F.FLT_STATUS_CAPTURED = true ∨ m.sev < b.fld R.FLT_CFG F.FLT_CFG_CAPTURE_SEV
  · have ht : t = b := Block.capture_of_not h
    rw [ht]
    refine ⟨.refl b, rfl, rfl, rfl, rfl, fun _ _ _ => rfl, fun h1 h2 => ?_⟩
    rcases h with h | h
    · rw [h1] at h
      cases h
    · omega
  · obtain ⟨hfree, hsev⟩ : b.flag (colStatus k) F.FLT_STATUS_CAPTURED = false ∧ b.fld R.FLT_CFG F.FLT_CFG_CAPTURE_SEV ≤ m.sev := by
      rw [not_or, Bool.not_eq_true, not_lt] at h
      exact h
    have ht : t = (b.setWords (colStatus k) (captureWords k seq m)).raise (colStatus k) F.FLT_STATUS_CAPTURED := Block.capture_of_first hfree hsev
    obtain ⟨htaken, hctrs, hrecords, hdies, hflt⟩ := b.setWords_taken (colStatus k) (captureWords k seq m)
    have hoffsets : ∀ e ∈ captureWords k seq m, 0x60 ≤ e.1 := by
      simp only [captureWords, List.mem_cons, List.not_mem_nil, or_false, forall_eq_or_imp, forall_eq]
      decide
    rw [ht]
    refine ⟨htaken.setFld _ _ _, (Block.raise_ctrs ..).trans hctrs, (Block.raise_records ..).trans hrecords, (Block.raise_dies ..).trans hdies,
      (Block.raise_flt ..).trans hflt, fun a hs ha => ?_, fun _ _ => ⟨Block.flag_raise _ _ _ (by decide) (by decide), ?_⟩⟩
    · rw [Block.raise, Block.word_setFld_ne _ _ _ hs]
      refine b.setWords_word _ fun e he => ?_
      have := hoffsets e he
      omega
    · rw [colFirst_eq, Block.raise, Block.word_setFld_ne _ _ _ (by omega)]
      rw [show captureWords k seq m = [(0x60, m.word % 2 ^ 32), (0x64, m.word / 2 ^ 32)] ++ (captureWords k seq m).drop 2 from rfl,
        Block.setWords, List.foldl_append, ← Block.setWords]
      have hlater : ∀ e ∈ (captureWords k seq m).drop 2, colStatus k + (0x60 + 4) ≠ colStatus k + e.1 := by
        simp only [captureWords, List.drop_succ_cons, List.drop_zero, List.mem_cons, List.not_mem_nil, or_false, forall_eq_or_imp, forall_eq]
        omega
      rw [Block.setWords_word _ _ hlater, List.foldl_cons, List.foldl_cons, List.foldl_nil, Block.word_setWord_same]

/-! ## The store (R478) -/

/-- How many messages collector k stores, of a severity. -/
def colRoom (k sev : Nat) : Nat := if k < 4 then (if 2 ≤ sev then 64 else 48) else if 2 ≤ sev then 1024 else 960

theorem Block.hasRoom_iff (b : Block) (k sev : Nat) : b.hasRoom k sev = decide ((b.col k).held.length < colRoom k sev) := by
  unfold Block.hasRoom colRoom
  dsimp only
  split <;> split <;> rfl

/-- A message without room is dropped and counted. -/
theorem Block.dropMsg_tells (b : Block) {k : Nat} (hk : k < 5) :
    let t := b.dropMsg k
    b.OnTake t ∧ (∀ a, midPage a → a ≠ colLost k → t.ctr a = b.ctr a) ∧ t.ctr (colLost k) = (b.ctr (colLost k) + 1) % 2 ^ 64 ∧
      t.records = b.records ∧ (t.col k).held = (b.col k).held ∧ (t.col k).dropped = true ∧
      t.flag (colStatus k) F.FLT_STATUS_LOST_SEEN = true ∧ (∀ a, a ≠ colStatus k → t.word a = b.word a) ∧
      t.flag (colStatus k) F.FLT_STATUS_CAPTURED = b.flag (colStatus k) F.FLT_STATUS_CAPTURED := by
  intro t
  obtain ⟨c, hc⟩ : ∃ c, (b.modCol k fun x => { x with dropped := true, lostSince := x.lostSince + 1 }) = c := ⟨_, rfl⟩
  have ht : t = (c.raise (colStatus k) F.FLT_STATUS_LOST_SEEN).count (colLost k) 1 := by rw [← hc]; rfl
  have hc' : c.ctrs = b.ctrs ∧ c.records = b.records ∧ c.regs = b.regs := by
    rw [← hc]
    unfold Block.modCol
    split <;> exact ⟨rfl, rfl, rfl⟩
  obtain ⟨hctrs, hrecords, hregs⟩ := hc'
  have hstopped : (c.raise (colStatus k) F.FLT_STATUS_LOST_SEEN).stopped (colLost k) = false := Block.stopped_lost _ hk
  have hcol : t.col k = { b.col k with dropped := true, lostSince := (b.col k).lostSince + 1 } := by
    rw [Block.col_of (b := c) (fun e => by rw [ht, Block.count_die, Block.raise_die]) (by rw [ht, Block.count_flt, Block.raise_flt]), ← hc,
      Block.col_modCol_same]
  refine ⟨?_, fun a _ hne => ?_, ?_, ?_, by rw [hcol], by rw [hcol], ?_, fun a ha => ?_, ?_⟩
  · rw [ht, ← hc]
    exact (((Block.OnTake.refl b).modCol _ _).setFld _ _ _).count _ _
  · rw [ht, Block.ctr_count_other _ _ hne, Block.ctr, Block.raise_ctrs, hctrs, ← Block.ctr]
  · rw [ht, Block.ctr_count_same _ _ _ hstopped, Block.ctr, Block.raise_ctrs, hctrs, ← Block.ctr]
  · rw [ht, Block.count_records, Block.raise_records, hrecords]
  · rw [ht, Block.count_flag]
    exact Block.flag_raise _ _ _ (by decide) (by decide)
  · rw [ht, Block.count_word, Block.raise, Block.word_setFld_ne _ _ _ ha, Block.word_of_regs hregs]
  · rw [ht, Block.count_flag, Block.raise, Block.flag_setFld_apart _ _ _ (by decide), Block.flag_of_regs hregs]

/-- The message as the store of collector x keeps it. -/
def Collector.keeps (x : Collector) (m : Msg) : Msg := { m with lost := m.lost || x.dropped, seq := x.seq }

theorem Block.raising_holds (b : Block) (n a : Nat) (f : Bf) :
    (b.raising n fun b => b.raise a f).dies = b.dies ∧ (b.raising n fun b => b.raise a f).flt = b.flt ∧
      (b.raising n fun b => b.raise a f).records = b.records := by
  rw [Block.raising_only]
  exact ⟨b.raise_dies a f, b.raise_flt a f, b.raise_records a f⟩

/-- A message with room is stored behind those held. -/
theorem Block.storeMsg_of_room {k : Nat} {m : Msg} (room : (b.col k).held.length < colRoom k m.sev) :
    let t := b.storeMsg k m
    b.OnTake t ∧ (∀ a, midPage a → t.ctr a = b.ctr a) ∧ t.records = b.records ∧ (t.col k).held = (b.col k).held ++ [(b.col k).keeps m] ∧
      (t.col k).dropped = false ∧ (∀ a, a ≠ R.FLT_STATUS → t.word a = b.word a) ∧
      t.flag (colStatus k) F.FLT_STATUS_CAPTURED = b.flag (colStatus k) F.FLT_STATUS_CAPTURED ∧ (k < 4 → t.regs = b.regs) := by
  intro t
  obtain ⟨c, hc⟩ : ∃ c, (b.modCol k fun x => { x with
    held := x.held ++ [{ m with lost := m.lost || (b.col k).dropped, seq := x.seq }], dropped := false, seq := (x.seq + 1) % 2 ^ 32 }) = c := ⟨_, rfl⟩
  obtain ⟨d, hd⟩ : ∃ d, c.pmc .pkg 0x04 m.sev 1 = d := ⟨_, rfl⟩
  have hcol : (c.col k).held = (b.col k).held ++ [(b.col k).keeps m] ∧ (c.col k).dropped = false := by
    rw [← hc, Block.col_modCol_same]
    exact ⟨rfl, rfl⟩
  have hc' : c.ctrs = b.ctrs ∧ c.records = b.records ∧ c.regs = b.regs := by
    rw [← hc]
    unfold Block.modCol
    split <;> exact ⟨rfl, rfl, rfl⟩
  obtain ⟨hctrs, hrecords, hregs⟩ := hc'
  have htaken : b.OnTake c := hc ▸ (Block.OnTake.refl b).modCol _ _
  have hctr (a : Nat) : c.ctr a = b.ctr a := by rw [Block.ctr, hctrs, ← Block.ctr]
  have hflag : c.flag (colStatus k) F.FLT_STATUS_CAPTURED = b.flag (colStatus k) F.FLT_STATUS_CAPTURED := Block.flag_of_regs hregs _ _
  have hroom : b.hasRoom k m.sev = true := by rw [Block.hasRoom_iff]; exact decide_eq_true room
  have ht : t = if k < 4 then c else if m.sev ≥ d.fld R.FLT_CFG F.FLT_CFG_INT_SEV then
      d.raising 6 fun b => b.raise R.FLT_STATUS F.FLT_STATUS_INT_PENDING else d := by
    rw [show t = b.storeMsg k m from rfl, Block.storeMsg, if_neg (by simp [hroom]), ← hd, ← hc]
  have hdc : c.OnTake d ∧ (∀ a, midPage a → d.ctr a = c.ctr a) ∧ d.records = c.records ∧ d.regs = c.regs ∧ d.col k = c.col k := by
    rw [← hd]
    exact ⟨(Block.OnTake.refl c).pmc _ _ _ _, fun a ha => c.ctr_pmc_mid _ _ _ _ ha, Block.pmc_records .., Block.pmc_regs ..,
      Block.col_of (fun e => Block.pmc_die ..) (Block.pmc_flt ..) k⟩
  obtain ⟨htaken', hctr', hrecords', hregs', hcol'⟩ := hdc
  rw [ht]
  split
  · exact ⟨htaken, fun a _ => hctr a, hrecords, hcol.1, hcol.2, fun a _ => Block.word_of_regs hregs a, hflag, fun _ => hregs⟩
  · rename_i hk
    split
    · obtain ⟨hword, -, -, -⟩ := d.raising_tells 6 fun b => b.raise R.FLT_STATUS F.FLT_STATUS_INT_PENDING
      obtain ⟨hdies', hflt', hrecords''⟩ := d.raising_holds 6 R.FLT_STATUS F.FLT_STATUS_INT_PENDING
      have hcol'' : (d.raising 6 fun b => b.raise R.FLT_STATUS F.FLT_STATUS_INT_PENDING).col k = d.col k :=
        Block.col_of (fun e => by rw [Block.die, hdies', ← Block.die]) hflt' k
      refine ⟨htaken.trans (htaken'.raising 6 _ _), fun a ha => ?_, ?_, by rw [hcol'', hcol', hcol.1], by rw [hcol'', hcol', hcol.2], fun a ha => ?_, ?_,
        fun h => absurd h hk⟩
      · rw [Block.ctr_raising_mid _ _ _ ha, Block.raise_ctr, hctr' a ha, hctr]
      · exact hrecords''.trans (hrecords'.trans hrecords)
      · rw [hword, Block.raise, Block.word_setFld_ne _ _ _ ha, Block.word_of_regs hregs', Block.word_of_regs hregs]
      · rw [Block.flag, Block.fld, hword, ← Block.fld, ← Block.flag, Block.raise, Block.flag_setFld_apart _ _ _ (by decide), Block.flag_of_regs hregs',
          hflag]
    · exact ⟨htaken.trans htaken', fun a ha => (hctr' a ha).trans (hctr a), hrecords'.trans hrecords, by rw [hcol', hcol.1], by rw [hcol', hcol.2],
        fun a _ => by rw [Block.word_of_regs hregs', Block.word_of_regs hregs], by rw [Block.flag_of_regs hregs', hflag], fun h => absurd h hk⟩

/-- The package collector's store leaves the dies as they are. -/
theorem Block.storeMsg_package (b : Block) (m : Msg) : (b.storeMsg 4 m).dies = b.dies := by
  have hmod (f : Collector → Collector) : (b.modCol 4 f).dies = b.dies := rfl
  unfold Block.storeMsg
  split
  · unfold Block.dropMsg
    dsimp only
    rw [Block.count_dies, Block.raise_dies, hmod]
  · extract_lets lost keep d
    have hd : d.dies = b.dies := (Block.pmc_dies ..).trans (hmod _)
    clear_value d
    rw [if_neg (by decide)]
    split
    · rw [(d.raising_holds 6 _ _).1, hd]
    · exact hd

/-- Collector k stores message m, or drops it. -/
theorem Block.storeMsg_tells (b : Block) {k : Nat} (hk : k < 5) (m : Msg) :
    let t := b.storeMsg k m
    b.OnTake t ∧ (∀ a, midPage a → a ≠ colLost k → t.ctr a = b.ctr a) ∧ t.records = b.records ∧
      ((b.col k).held.length < colRoom k m.sev → (t.col k).held = (b.col k).held ++ [(b.col k).keeps m] ∧ (t.col k).dropped = false) ∧
      (¬ (b.col k).held.length < colRoom k m.sev → (t.col k).held = (b.col k).held ∧ (t.col k).dropped = true ∧
        t.flag (colStatus k) F.FLT_STATUS_LOST_SEEN = true ∧ t.ctr (colLost k) = (b.ctr (colLost k) + 1) % 2 ^ 64) ∧
      (∀ a, a ≠ colStatus k → a ≠ R.FLT_STATUS → t.word a = b.word a) ∧
      t.flag (colStatus k) F.FLT_STATUS_CAPTURED = b.flag (colStatus k) F.FLT_STATUS_CAPTURED := by
  intro t
  by_cases room : (b.col k).held.length < colRoom k m.sev
  · obtain ⟨htaken, hctr, hrecords, hheld, hdropped, hword, hflag, -⟩ := Block.storeMsg_of_room room
    exact ⟨htaken, fun a ha _ => hctr a ha, hrecords, fun _ => ⟨hheld, hdropped⟩, fun h => absurd room h, fun a _ ha => hword a ha, hflag⟩
  · have ht : t = b.dropMsg k := by
      rw [show t = b.storeMsg k m from rfl, Block.storeMsg, if_pos]
      rw [Block.hasRoom_iff, decide_eq_false room]
      rfl
    obtain ⟨htaken, hctr, hlost, hrecords, hheld, hdropped, hseen, hword, hflag⟩ := b.dropMsg_tells hk
    rw [ht]
    exact ⟨htaken, hctr, hrecords, fun h => absurd h room, fun _ => ⟨hheld, hdropped, hseen, hlost⟩, fun a ha _ => hword a ha, hflag⟩

end Sys2Proof.Machine
end

section
/-!
PROOFS. The fault collectors: a message from its source to the package queue (R477 to R481); O45.
-/
namespace Sys2Proof.Machine
open Sys2Proof

variable {b c d : Block}

/-! ## Captured and stored -/

/-- Collector k captures message m and stores it as n. -/
theorem Block.capture_storeMsg_tells (b : Block) {k : Nat} (hk : k < 5) (seq : Nat) (m n : Msg) :
    let t := (b.capture k seq m).storeMsg k n
    b.OnTake t ∧ (∀ a, midPage a → a ≠ colLost k → t.ctr a = b.ctr a) ∧ t.records = b.records ∧
      ((b.col k).held.length < colRoom k n.sev → (t.col k).held = (b.col k).held ++ [(b.col k).keeps n] ∧ (t.col k).dropped = false) ∧
      (¬ (b.col k).held.length < colRoom k n.sev → (t.col k).held = (b.col k).held ∧ (t.col k).dropped = true ∧
        t.flag (colStatus k) F.FLT_STATUS_LOST_SEEN = true ∧ t.ctr (colLost k) = (b.ctr (colLost k) + 1) % 2 ^ 64) ∧
      (∀ a, a ≠ colStatus k → a ≠ R.FLT_STATUS → a < colStatus k + 0x60 → t.word a = b.word a) ∧
      (b.flag (colStatus k) F.FLT_STATUS_CAPTURED = false → b.fld R.FLT_CFG F.FLT_CFG_CAPTURE_SEV ≤ m.sev →
        t.flag (colStatus k) F.FLT_STATUS_CAPTURED = true ∧ t.word (colFirst k 4) = m.word / 2 ^ 32 % 2 ^ 32) ∧
      (b.flag (colStatus k) F.FLT_STATUS_CAPTURED = true ∨ m.sev < b.fld R.FLT_CFG F.FLT_CFG_CAPTURE_SEV →
        ∀ a, a ≠ colStatus k → a ≠ R.FLT_STATUS → t.word a = b.word a) := by
  intro t
  obtain ⟨htaken, hctrs, hrecords, hdies, hflt, hword, hfirst⟩ := b.capture_tells k seq m
  obtain ⟨c, hc⟩ : ∃ c, b.capture k seq m = c := ⟨_, rfl⟩
  rw [hc] at htaken hctrs hrecords hdies hflt hword hfirst
  have ht : t = c.storeMsg k n := by rw [← hc]
  obtain ⟨htaken', hctr', hrecords', hroom, hfull, hword', hflag'⟩ := c.storeMsg_tells hk n
  rw [← ht] at htaken' hctr' hrecords' hroom hfull hword' hflag'
  have hctr (a : Nat) : c.ctr a = b.ctr a := by rw [Block.ctr, hctrs, ← Block.ctr]
  have hcol : c.col k = b.col k := Block.col_of (fun e => by rw [Block.die, hdies, ← Block.die]) hflt k
  rw [hcol] at hroom hfull
  have hne : colFirst k 4 ≠ colStatus k ∧ colFirst k 4 ≠ R.FLT_STATUS := by
    rw [colFirst_eq]
    exact ⟨by omega, colStatus_ne_fltStatus k (by decide)⟩
  refine ⟨htaken.trans htaken', fun a ha hl => (hctr' a ha hl).trans (hctr a), hrecords'.trans hrecords, hroom, fun h => ?_,
    fun a h1 h2 h3 => (hword' a h1 h2).trans (hword a h1 h3), fun h1 h2 => ?_, fun h a h1 h2 => ?_⟩
  · obtain ⟨hheld, hdropped, hseen, hlost⟩ := hfull h
    exact ⟨hheld, hdropped, hseen, by rw [hlost, hctr]⟩
  · obtain ⟨hcapt, hmsg⟩ := hfirst h1 h2
    exact ⟨hflag'.trans hcapt, by rw [hword' _ hne.1 hne.2, hmsg]⟩
  · rw [hword' a h1 h2, ← hc, Block.capture_of_not h]

/-- The package collector captures and stores m. -/
theorem Block.intoPackage_tells (b : Block) (m : Msg) :
    ∃ c seq, b.OnTake c ∧ c.regs = b.regs ∧ c.ctrs = b.ctrs ∧ c.records = b.records ∧ c.dies = b.dies ∧ c.flt = b.flt ∧
      b.intoPackage m = (c.capture 4 seq { m with lost := m.lost || b.flt.dropped }).storeMsg 4 m := by
  unfold Block.intoPackage
  dsimp only
  split
  · exact ⟨b, b.flt.seq, .refl b, rfl, rfl, rfl, rfl, rfl, rfl⟩
  · exact ⟨(b.free 32).2, (b.free 32).1, ⟨_, _, _, _, _, _, _, _, rfl⟩, rfl, rfl, rfl, rfl, rfl, rfl⟩

/-- A word of a message does not tell its stamp. -/
theorem Block.stamped_word (b : Block) {m : Msg} (h : m.lost = false) :
    ({ b.stamped m with lost := false } : Msg).word = ({ m with sev := b.severity m.typ m.kind } : Msg).word := by
  simp only [Msg.word, Block.stamped, h]

/-- Collector k takes message m of its source, its fatal action apart. -/
theorem Block.takeQuiet_tells (b : Block) {k : Nat} (hk : k < 5) (m : Msg) :
    let sev := b.severity m.typ m.kind
    let t := (b.takeQuiet k m).2
    (b.takeQuiet k m).1 = b.stamped m ∧ b.OnTake t ∧ t.ctr (R.FLT_COUNT sev) = (b.ctr (R.FLT_COUNT sev) + 1) % 2 ^ 64 ∧
      (∃ r, t.records = b.records ++ [r] ∧ r.typ = 1 ∧ r.sev = sev) ∧
      ((b.col k).held.length < colRoom k sev → (t.col k).held = (b.col k).held ++ [(b.col k).keeps (b.stamped m)] ∧ (t.col k).dropped = false) ∧
      (¬ (b.col k).held.length < colRoom k sev → (t.col k).held = (b.col k).held ∧ (t.col k).dropped = true ∧
        t.flag (colStatus k) F.FLT_STATUS_LOST_SEEN = true ∧ t.ctr (colLost k) = (b.ctr (colLost k) + 1) % 2 ^ 64) ∧
      (b.flag (colStatus k) F.FLT_STATUS_CAPTURED = false → b.fld R.FLT_CFG F.FLT_CFG_CAPTURE_SEV ≤ sev →
        t.flag (colStatus k) F.FLT_STATUS_CAPTURED = true ∧ ((b.col k).dropped = false → m.lost = false →
          t.word (colFirst k 4) = ({ m with sev := sev } : Msg).word / 2 ^ 32 % 2 ^ 32)) ∧
      (b.flag (colStatus k) F.FLT_STATUS_CAPTURED = true ∨ sev < b.fld R.FLT_CFG F.FLT_CFG_CAPTURE_SEV →
        t.word (colFirst k 0) = b.word (colFirst k 0) ∧ t.word (colFirst k 4) = b.word (colFirst k 4)) ∧
      (sev = 2 → t.fld (colEscCount k) F.FLT_ESC_COUNT_RECEIVED = (b.fld (colEscCount k) F.FLT_ESC_COUNT_RECEIVED + 1) % 65536) := by
  intro sev t
  obtain ⟨hfst, htaken, hcount, hctr, hrecords, hheld, hdropped, hseq, hword, hflag, hrecv, -⟩ := b.takeFirst_tells k m
  obtain ⟨c, hc⟩ : ∃ c, (b.takeFirst k m).2 = c := ⟨_, rfl⟩
  rw [hc] at htaken hcount hctr hrecords hheld hdropped hseq hword hflag hrecv
  have hsev : sev < 4 := b.severity_lt _ _
  have hstored : ∃ e seq lost, c.OnTake e ∧ e.regs = c.regs ∧ e.ctrs = c.ctrs ∧ e.records = c.records ∧ e.col k = c.col k ∧
      ((c.col k).dropped = false → m.lost = false → lost = false) ∧
      t = (e.capture k seq { b.stamped m with lost := lost }).storeMsg k (b.stamped m) := by
    by_cases h4 : k < 4
    · refine ⟨c, 0, (c.col k).dropped, .refl c, rfl, rfl, rfl, rfl, fun h _ => h, ?_⟩
      rw [show t = (b.takeQuiet k m).2 from rfl, Block.takeQuiet]
      dsimp only
      rw [if_pos h4, hfst, hc]
    · obtain rfl : k = 4 := by omega
      obtain ⟨e, seq, he, hregs, hctrs, hrecs, hdies, hflt, hinto⟩ := c.intoPackage_tells (b.stamped m)
      refine ⟨e, seq, (b.stamped m).lost || c.flt.dropped, he, hregs, hctrs, hrecs,
        Block.col_of (fun i => by rw [Block.die, hdies, ← Block.die]) hflt 4, fun h hm => ?_, ?_⟩
      · rw [show (b.stamped m).lost = m.lost from rfl, hm]
        exact h
      · rw [show t = (b.takeQuiet 4 m).2 from rfl, Block.takeQuiet]
        dsimp only
        rw [if_neg h4, hfst, hc, hinto]
  obtain ⟨e, seq, lost, he, heregs, hectrs, herecs, hecol, hlost, ht⟩ := hstored
  obtain ⟨htaken', hctr', hrecords', hroom, hfull, hword', hfirst, hkept⟩ :=
    e.capture_storeMsg_tells hk seq { b.stamped m with lost := lost } (b.stamped m)
  rw [← ht] at htaken' hctr' hrecords' hroom hfull hword' hfirst hkept
  have heword (a : Nat) : e.word a = c.word a := Block.word_of_regs heregs a
  have hectr (a : Nat) : e.ctr a = c.ctr a := by rw [Block.ctr, hectrs, ← Block.ctr]
  have heflag : e.flag (colStatus k) F.FLT_STATUS_CAPTURED = b.flag (colStatus k) F.FLT_STATUS_CAPTURED := by rw [Block.flag_of_regs heregs, hflag]
  have hcfg : e.fld R.FLT_CFG F.FLT_CFG_CAPTURE_SEV = b.fld R.FLT_CFG F.FLT_CFG_CAPTURE_SEV := by
    have hcfg1 : R.FLT_CFG ≠ colEscCount k ∧ R.FLT_CFG ≠ colStatus k := by
      rw [colEscCount_eq]
      unfold colStatus colReg
      split
      · unfold R.DIE_FLT_STATUS dieBase R.FLT_CFG fltBase
        omega
      · unfold R.FLT_STATUS R.FLT_CFG fltBase
        omega
    rw [Block.fld, heword, hword _ hcfg1.1 hcfg1.2 (by decide), ← Block.fld]
  have hcolKeeps : (c.col k).keeps (b.stamped m) = (b.col k).keeps (b.stamped m) := by rw [Collector.keeps, hdropped, hseq, Collector.keeps]
  have hcsev : (b.stamped m).sev = sev := rfl
  rw [hecol, hheld, hcsev] at hroom hfull
  rw [hcolKeeps] at hroom
  rw [heflag, hcfg] at hfirst hkept
  refine ⟨?_, (htaken.trans he).trans htaken', ?_, ?_, hroom, fun h => ?_, fun h1 h2 => ?_, fun h => ?_, fun h2 => ?_⟩
  · rw [Block.takeQuiet]
    dsimp only
    split
    · exact hfst
    · exact hfst
  · rw [hctr' _ (midPage_count hsev) (count_ne_lost hsev k), hectr, hcount]
  · rw [hrecords', herecs]
    exact hrecords
  · obtain ⟨h1, h2, h3, h4⟩ := hfull h
    exact ⟨h1, h2, h3, by rw [h4, hectr, hctr _ (midPage_lost k) (count_ne_lost hsev k).symm]⟩
  · obtain ⟨hcapt, hmsg⟩ := hfirst h1 h2
    refine ⟨hcapt, fun hd hm => ?_⟩
    have hl : lost = false := hlost (by rw [hdropped, hd]) hm
    rw [hmsg, hl, b.stamped_word hm]
  · have hkeep (o : Nat) : t.word (colFirst k o) = b.word (colFirst k o) := by
      have hs : colFirst k o ≠ colStatus k := by rw [colFirst_eq]; omega
      have hf : colFirst k o ≠ R.FLT_STATUS := by rw [colFirst_eq]; exact colStatus_ne_fltStatus k (by omega)
      have hn : colFirst k o ≠ colEscCount k := by rw [colFirst_eq, colEscCount_eq]; omega
      rw [hkept h _ hs hf, heword, hword _ hn hs hf]
    exact ⟨hkeep 0, hkeep 4⟩
  · have hs : colEscCount k ≠ colStatus k := by rw [colEscCount_eq]; omega
    have hf : colEscCount k ≠ R.FLT_STATUS := by rw [colEscCount_eq]; exact colStatus_ne_fltStatus k (by decide)
    rw [Block.fld, hword' _ hs hf (by rw [colEscCount_eq]; omega), heword, ← Block.fld, hrecv h2]

/-! ## FAULT_MESSAGE at a collector -/

theorem takes_faultMessage (x : HopStraps) : Takes (.faultMessage x) b (b.faultMessage x.hop x.straps.toNat) := fun _ => rfl

theorem Block.take_of_none {k s : Nat} (h : b.nextMsg k = none) : b.take k s = b := by
  unfold Block.take
  simp only [h]

theorem Block.take_of_quiet {k s : Nat} {m : Msg} (h : b.nextMsg k = some m) (hk : k < 5)
    (quiet : b.severity m.typ m.kind < 3 ∨ m.kind = 3) :
    b.take k s = (({ b with inflight := b.inflight.erase m } : Block).takeQuiet k m).2 := by
  obtain ⟨c, hc⟩ : ∃ c, ({ b with inflight := b.inflight.erase m } : Block) = c := ⟨_, rfl⟩
  have hsev : c.severity m.typ m.kind = b.severity m.typ m.kind := by rw [← hc]; rfl
  obtain ⟨hfst, -⟩ := c.takeQuiet_tells hk m
  unfold Block.take
  simp only [h]
  rw [hc, hfst, if_neg]
  have hs : (c.stamped m).sev = b.severity m.typ m.kind := hsev
  rw [hs]
  rcases quiet with q | q
  · simp only [Bool.and_eq_true, beq_iff_eq, not_and]
    omega
  · simp [q]

/-- The message in flight that collector k takes, as the statement has it. -/
theorem Block.take_tells {k s : Nat} {m : Msg} (h : b.nextMsg k = some m) (hk : k < 5) (quiet : b.severity m.typ m.kind < 3 ∨ m.kind = 3) :
    let sev := b.severity m.typ m.kind
    let t := b.take k s
    t.inflight = b.inflight.erase m ∧ t.ctr (R.FLT_COUNT sev) = (b.ctr (R.FLT_COUNT sev) + 1) % 2 ^ 64 ∧
      (∃ r, t.records = b.records ++ [r] ∧ r.typ = 1 ∧ r.sev = sev) ∧
      ((b.col k).held.length < colRoom k sev → (t.col k).held = (b.col k).held ++ [(b.col k).keeps (b.stamped m)] ∧ (t.col k).dropped = false) ∧
      (¬ (b.col k).held.length < colRoom k sev → (t.col k).held = (b.col k).held ∧ (t.col k).dropped = true ∧
        t.flag (colStatus k) F.FLT_STATUS_LOST_SEEN = true ∧ t.ctr (colLost k) = (b.ctr (colLost k) + 1) % 2 ^ 64) ∧
      (b.flag (colStatus k) F.FLT_STATUS_CAPTURED = false → b.fld R.FLT_CFG F.FLT_CFG_CAPTURE_SEV ≤ sev →
        t.flag (colStatus k) F.FLT_STATUS_CAPTURED = true ∧ ((b.col k).dropped = false → m.lost = false →
          t.word (colFirst k 4) = ({ m with sev := sev } : Msg).word / 2 ^ 32 % 2 ^ 32)) ∧
      (b.flag (colStatus k) F.FLT_STATUS_CAPTURED = true ∨ sev < b.fld R.FLT_CFG F.FLT_CFG_CAPTURE_SEV →
        t.word (colFirst k 0) = b.word (colFirst k 0) ∧ t.word (colFirst k 4) = b.word (colFirst k 4)) ∧
      (sev = 2 → t.fld (colEscCount k) F.FLT_ESC_COUNT_RECEIVED = (b.fld (colEscCount k) F.FLT_ESC_COUNT_RECEIVED + 1) % 65536) ∧
      t.frames = b.frames ∧ t.regions = b.regions ∧ t.ports = b.ports := by
  intro sev t
  obtain ⟨c, hc⟩ : ∃ c, ({ b with inflight := b.inflight.erase m } : Block) = c := ⟨_, rfl⟩
  have ht : t = (c.takeQuiet k m).2 := by rw [← hc]; exact Block.take_of_quiet h hk quiet
  obtain ⟨-, htaken, hcount, hrecords, hroom, hfull, hfirst, hkept, hrecv⟩ := c.takeQuiet_tells hk m
  rw [← ht] at htaken hcount hrecords hroom hfull hfirst hkept hrecv
  have hsev : c.severity m.typ m.kind = sev := by rw [← hc]; rfl
  have hcol : c.col k = b.col k := by rw [← hc]; rfl
  have hstamped : c.stamped m = b.stamped m := by rw [← hc]; rfl
  have hctr (a : Nat) : c.ctr a = b.ctr a := by rw [← hc]; rfl
  have hregs : c.regs = b.regs := by rw [← hc]
  have hfld (a : Nat) (f : Bf) : c.fld a f = b.fld a f := by rw [Block.fld, Block.word_of_regs hregs, ← Block.fld]
  have hrest : c.inflight = b.inflight.erase m ∧ c.records = b.records ∧ c.frames = b.frames ∧ c.regions = b.regions ∧ c.ports = b.ports := by
    rw [← hc]
    exact ⟨rfl, rfl, rfl, rfl, rfl⟩
  obtain ⟨hsent, hrecs, hframes, hregions, hports⟩ := hrest
  rw [hsev, hctr] at hcount
  rw [hsev, hrecs] at hrecords
  rw [hsev, hcol, hstamped] at hroom
  rw [hsev, hcol, hctr] at hfull
  rw [hsev, hcol, hfld, Block.flag_of_regs hregs] at hfirst
  rw [hsev, hfld, Block.flag_of_regs hregs, Block.word_of_regs hregs, Block.word_of_regs hregs] at hkept
  rw [hsev, hfld] at hrecv
  exact ⟨htaken.inflight.trans hsent, hcount, hrecords, hroom, hfull, hfirst, hkept, hrecv, htaken.frames.trans hframes,
    htaken.regions.trans hregions, htaken.ports.trans hports⟩

/-! ## From a die collector to the package queue -/

theorem Block.passOn_of_none {k : Nat} (h : (b.die k).col.held = []) : b.passOn k = b := by
  unfold Block.passOn
  simp only [h]

theorem Block.passOn_tells {k : Nat} (hk : k < 4) {m : Msg} {r : List Msg} (h : (b.die k).col.held = m :: r) :
    let t := b.passOn k
    (t.die k).col.held = r ∧ t.inflight = b.inflight ∧
      (b.flt.held.length < colRoom 4 m.sev → t.flt.held = b.flt.held ++ [b.flt.keeps m]) ∧
      (¬ b.flt.held.length < colRoom 4 m.sev → t.flt.held = b.flt.held ∧ t.ctr R.FLT_LOST = (b.ctr R.FLT_LOST + 1) % 2 ^ 64) := by
  intro t
  obtain ⟨c, hc⟩ : ∃ c, (b.modCol k fun x => { x with held := r }) = c := ⟨_, rfl⟩
  have ht : t = c.intoPackage m := by
    rw [show t = b.passOn k from rfl, Block.passOn]
    simp only [h]
    rw [hc]
  have hcdie : c = b.modDie k fun x => { x with col := { x.col with held := r } } := by rw [← hc, Block.modCol, if_pos hk]
  obtain ⟨e, seq, he, hregs, hctrs, hrecs, hdies, hflt, hinto⟩ := c.intoPackage_tells m
  have hcaptured := e.capture_tells 4 seq { m with lost := m.lost || c.flt.dropped }
  obtain ⟨f, hf⟩ : ∃ f, e.capture 4 seq { m with lost := m.lost || c.flt.dropped } = f := ⟨_, rfl⟩
  rw [hf] at hcaptured hinto
  obtain ⟨hftaken, hfctrs, hfrecs, hfdies, hfflt, -⟩ := hcaptured
  obtain ⟨htaken, hctr, -, hroom, hfull, -⟩ := f.storeMsg_tells (k := 4) (by decide) m
  rw [← hinto, ← ht] at htaken hctr hroom hfull
  have hcflt : c.flt = b.flt := by rw [hcdie]; rfl
  have hfcol : f.col 4 = b.flt := by rw [Block.col, if_neg (by decide), hfflt, hflt, hcflt]
  have htcol : t.col 4 = t.flt := rfl
  rw [hfcol, htcol] at hroom hfull
  have hlost : f.ctr (colLost 4) = b.ctr R.FLT_LOST := by
    rw [Block.ctr, hfctrs, hctrs, hcdie]
    rfl
  refine ⟨?_, ?_, fun h => (hroom h).1, fun h => ?_⟩
  · have hdie : (f.die k).col.held = r := by
      rw [Block.die, hfdies, hdies, ← Block.die, hcdie, Block.die_modDie_same]
    have hkeeps : (f.storeMsg 4 m).dies = f.dies := f.storeMsg_package m
    rw [ht, hinto, Block.die, hkeeps, ← Block.die, hdie]
  · rw [htaken.inflight, hftaken.inflight, he.inflight, hcdie]
    rfl
  · obtain ⟨hheld, -, -, hcount⟩ := hfull h
    exact ⟨hheld, by rw [show R.FLT_LOST = colLost 4 from rfl, hcount, hlost]; rfl⟩

end Sys2Proof.Machine
end

section
/-!
PROOFS. The fault messages' registers: POP, INJECT and FIRST_CLR (R478 to R481); and O45.
-/
namespace Sys2Proof.Machine
open Sys2Proof

variable {b c d : Block}

/-- A write of a register without RWL fields changes that register alone (R15). -/
theorem Block.storeReg_of_noRwl {a : Nat} {h : RegHit} (hit : findReg a = some h) (narrow : h.desc.wide = false)
    (noRwl : (h.desc.flds.all fun f => f.acc != .rwl) = true) (w : Writer) (v : Nat) :
    b.storeReg w a v = b.setWord a (writeFields (b.opens w) v h.desc.flds (b.word a)).1 := by
  have kept : b.lockBroken w a v h = false := b.lockKept_of_fields fun g hg hacc => by
    have := List.all_eq_true.mp noRwl g hg
    simp [hacc] at this
  rw [Block.storeReg_found hit narrow, kept]
  rfl

/-! ## POP, INJECT, FIRST_CLR -/

theorem takes_faultPop {v : BitVec 32} (hreach : b.reaches .host .flt) : Takes (.faultPop v) b (b.faultPop v.toNat) :=
  takes_of_write hreach fun _ => rfl

theorem takes_faultInject {w : Writer} {v : BitVec 32} (hreach : b.reaches w .flt) : Takes (.faultInject w v) b (b.faultInject w v.toNat) :=
  takes_of_write hreach fun _ => rfl

theorem takes_firstClr {k : Fin 5} {v : BitVec 32} (hreach : b.reaches .host (colBlk k)) : Takes (.firstClr k v) b (b.firstClr k.val v.toNat) :=
  takes_of_write hreach fun _ => rfl

theorem Block.faultPop_of_none {v : Nat} (h : F.FLT_POP_POP.of v = 0 ∨ b.flt.held = []) : b.faultPop v = b := by
  unfold Block.faultPop
  rcases h with h | h
  · rw [if_pos (by simp [h])]
  · simp only [h]
    split <;> rfl

theorem Block.faultPop_of_quiet {v : Nat} {m : Msg} {r : List Msg} (h : F.FLT_POP_POP.of v = 1) (hheld : b.flt.held = m :: r)
    (quiet : b.flt.lostSince = 0 ∨ 512 ≤ r.length) : b.faultPop v = { b with flt := { b.flt with held := r } } := by
  unfold Block.faultPop
  rw [if_neg (by simp [h])]
  simp only [hheld]
  rw [if_neg]
  rcases quiet with q | q
  · simp [q]
  · simp [q]

theorem Block.faultPop_of_lost {v : Nat} {m : Msg} {r : List Msg} (h : F.FLT_POP_POP.of v = 1) (hheld : b.flt.held = m :: r)
    (lost : b.flt.lostSince ≠ 0) (below : r.length < 512) :
    b.faultPop v = ({ b with flt := { b.flt with held := r, lostSince := 0 } } : Block).send 0 2 0x02 (b.flt.lostSince % 2 ^ 32) := by
  unfold Block.faultPop
  rw [if_neg (by simp [h])]
  simp only [hheld]
  rw [if_pos (by simp [lost, below])]

theorem findReg_injectHi : findReg R.FLT_INJECT_HI = some ⟨.flt, 0, 0x44, reg1 0x44 [⟨31, 0, .rw, 0⟩], 0, 0, 0⟩ :=
  findReg_base rfl (by decide) (by decide) (by decide)

/-- The message that a write of v to INJECT_HI sends. -/
def Block.injectedMsg (b : Block) (v : Nat) : Msg :=
  { typ := v / 2 ^ 28, idx := v / 2 ^ 16 % 4096, kind := v / 256 % 256, injected := true, ref := b.ticks, requester := 0x1FF,
    addr := v % 16 * 2 ^ 32 + b.word R.FLT_INJECT_LO }

theorem Block.faultInject_tells {w : Writer} {v : Nat} (hv : v < 2 ^ 32) :
    (sourceOk (v / 2 ^ 28) (v / 2 ^ 16 % 4096) = false → b.faultInject w v = b.refuse w R.FLT_INJECT_HI) ∧
    (sourceOk (v / 2 ^ 28) (v / 2 ^ 16 % 4096) = true → (b.faultInject w v).inflight = b.inflight ++ [b.injectedMsg v] ∧
      b.faultInject w v = { b with regs := (b.faultInject w v).regs, inflight := (b.faultInject w v).inflight }) := by
  have htyp : v / 2 ^ 28 % 16 = v / 2 ^ 28 := Nat.mod_eq_of_lt (by omega)
  refine ⟨fun bad => ?_, fun ok => ?_⟩
  · unfold Block.faultInject
    dsimp only
    rw [htyp, if_pos]
    rw [show (2 : Nat) ^ 12 = 4096 from rfl, bad]
    rfl
  · obtain ⟨u, hu⟩ : ∃ u, b.storeReg w R.FLT_INJECT_HI v = b.setWord R.FLT_INJECT_HI u := ⟨_, Block.storeReg_of_noRwl findReg_injectHi rfl (by decide) w v⟩
    obtain ⟨c, hc⟩ : ∃ c, b.setWord R.FLT_INJECT_HI u = c := ⟨_, rfl⟩
    have honly : c = { b with regs := c.regs } := by rw [← hc]; exact Block.setWord_only _ _ _
    have hword : c.word R.FLT_INJECT_LO = b.word R.FLT_INJECT_LO := by rw [← hc, Block.word_setWord_other _ _ (by decide)]
    have hticks : c.ticks = b.ticks := by rw [honly]
    have hinflight : c.inflight = b.inflight := by rw [honly]
    have he : b.faultInject w v = { c with inflight := c.inflight ++ [b.injectedMsg v] } := by
      unfold Block.faultInject
      dsimp only
      rw [htyp, if_neg (by rw [show (2 : Nat) ^ 12 = 4096 from rfl, ok]; decide), hu, hc, hticks, hword]
      rfl
    rw [he]
    refine ⟨by rw [hinflight], ?_⟩
    dsimp only
    rw [honly]

theorem Block.firstClr_tells {k v : Nat} (h : F.FLT_FIRST_CLR_CLR.of v = 1) :
    let t := b.firstClr k v
    t.flag (colStatus k) F.FLT_STATUS_CAPTURED = false ∧ (∀ a, a ≠ colStatus k → t.word a = b.word a) ∧ t = { b with regs := t.regs } := by
  intro t
  have ht : t = b.lower (colStatus k) F.FLT_STATUS_CAPTURED := by
    rw [show t = b.firstClr k v from rfl, Block.firstClr, if_neg (by simp [h])]
  rw [ht]
  exact ⟨Block.flag_lower _ _ _ (by decide) (by decide), fun a ha => b.word_setFld_ne _ _ ha, Block.setWord_only _ _ _⟩

/-! ## The statement's parts -/

/-- A collector's FAULT_MESSAGE, as the statement has it. -/
theorem faultMessage_taken (b : Block) (k : Nat) (x : HopStraps) (hx : b.faultMessage x.hop x.straps.toNat = b.take k x.straps.toNat) :
    (b.nextMsg k = none → Takes (.faultMessage x) b b) ∧
      ∀ m, b.nextMsg k = some m → b.severity m.typ m.kind < 3 ∨ m.kind = 3 →
        Takes (.faultMessage x) b (b.take k x.straps.toNat) := by
  have h : Takes (.faultMessage x) b (b.faultMessage x.hop x.straps.toNat) := takes_faultMessage x
  rw [hx] at h
  exact ⟨fun hnone => takes_congr h (Block.take_of_none hnone), fun m _ _ => h⟩

theorem colRoom_of_die {k : Nat} (h : k < 4) (sev : Nat) : colRoom k sev = if 2 ≤ sev then 64 else 48 := if_pos h

/-- Settles O45: a message is stamped, counted, captured and stored by its collector, passed on, popped; and injected. -/
theorem messagesAreCollectedAndPopped : Obligations.MessagesAreCollectedAndPopped := by
  unfold Obligations.MessagesAreCollectedAndPopped
  intro b d straps kept bump takes
  have htakes (k : Nat) (hk : k < 5) (h : FaultHop) (hx : b.faultMessage h straps.toNat = b.take k straps.toNat) : takes k h := by
    obtain ⟨hnone, hsome⟩ := faultMessage_taken b k ⟨h, straps⟩ hx
    exact ⟨hnone, fun m hm quiet => ⟨_, hsome m hm quiet, Block.take_tells hm hk quiet⟩⟩
  have hpass : Takes (.faultMessage ⟨.fromDie d, straps⟩) b (b.passOn d) := takes_faultMessage _
  refine ⟨htakes d (by omega) (.die d) rfl, htakes 4 (by decide) .pkg rfl, fun h => takes_congr hpass (Block.passOn_of_none h), fun m r h => ?_,
    fun v hreach => ⟨fun h => takes_congr (takes_faultPop hreach) (Block.faultPop_of_none h), fun m r h hheld => ⟨fun quiet => ?_, fun lost below => ?_⟩⟩,
    fun w v hreach => ?_, fun k v hreach => ⟨fun h => takes_congr (takes_firstClr hreach) ?_, fun h => ?_⟩⟩
  · obtain ⟨hheld, hsent, hroom, hfull⟩ := Block.passOn_tells d.isLt h
    exact hpass.to ⟨hheld, hsent, hroom, fun hf => hfull (not_lt.mpr hf)⟩
  · exact takes_congr (takes_faultPop hreach) (Block.faultPop_of_quiet h hheld quiet)
  · exact takes_congr (takes_faultPop hreach) (Block.faultPop_of_lost h hheld lost below)
  · obtain ⟨hbad, hok⟩ := Block.faultInject_tells (b := b) (w := w) v.isLt
    exact ⟨fun bad => takes_congr (takes_faultInject hreach) (hbad bad), fun ok => (takes_faultInject hreach).to (hok ok)⟩
  · simp [Block.firstClr, h]
  · exact (takes_firstClr hreach).to (Block.firstClr_tells h)

end Sys2Proof.Machine
end

section
/-!
PROOFS. Hold of a die: its latch, the entry window, releases and the exit's start, one rule each (R493 to R498).
-/
namespace Sys2Proof.Machine
open Sys2Proof

variable {b c d : Block} {e : Nat}

/-! ## The registers of Hold -/

theorem holdStatus_inj {d e : Nat} (h : R.DIE_HOLD_STATUS d = R.DIE_HOLD_STATUS e) : d = e := by
  unfold R.DIE_HOLD_STATUS dieBase at h
  omega

theorem holdCfg_ne_status (d e : Nat) : R.DIE_HOLD_CFG d ≠ R.DIE_HOLD_STATUS e := by
  unfold R.DIE_HOLD_CFG R.DIE_HOLD_STATUS dieBase
  omega

/-- From b to c Hold of die e moved: nothing but the die and its HOLD_STATUS changed. -/
structure Block.OnHold (e : Nat) (b c : Block) : Prop where
  only : ∃ rs ds, c = { b with regs := rs, dies := ds }
  word : ∀ a, a ≠ R.DIE_HOLD_STATUS e → c.word a = b.word a
  other : ∀ d, d ≠ e → c.die d = b.die d

namespace Block.OnHold

theorem refl (e : Nat) (b : Block) : b.OnHold e b := ⟨⟨_, _, rfl⟩, fun _ _ => rfl, fun _ _ => rfl⟩
theorem trans (h : b.OnHold e c) (h' : c.OnHold e d) : b.OnHold e d := by
  refine ⟨?_, fun a ha => (h'.word a ha).trans (h.word a ha), fun i hi => (h'.other i hi).trans (h.other i hi)⟩
  obtain ⟨rs, ds, rfl⟩ := h.only
  obtain ⟨rs', ds', rfl⟩ := h'.only
  exact ⟨_, _, rfl⟩
theorem setFld (h : b.OnHold e c) (f : Bf) (v : Nat) : b.OnHold e (c.setFld (R.DIE_HOLD_STATUS e) f v) :=
  h.trans ⟨⟨_, _, Block.setWord_only _ _ _⟩, fun _ ha => Block.word_setFld_ne _ _ _ ha, fun _ _ => Block.setFld_die ..⟩
theorem modDie (h : b.OnHold e c) (f : Die → Die) : b.OnHold e (c.modDie e f) :=
  h.trans ⟨⟨_, _, rfl⟩, fun _ _ => rfl, fun _ hd => Block.die_modDie_other _ _ hd⟩

theorem cfg (h : b.OnHold e c) (d : Nat) (f : Bf) : c.flag (R.DIE_HOLD_CFG d) f = b.flag (R.DIE_HOLD_CFG d) f := by
  rw [Block.flag, Block.fld, h.word _ (holdCfg_ne_status d e), ← Block.fld, ← Block.flag]
theorem relPin (h : b.OnHold e c) : c.relPin = b.relPin := by obtain ⟨rs, ds, rfl⟩ := h.only; rfl
theorem ticks (h : b.OnHold e c) : c.ticks = b.ticks := by obtain ⟨rs, ds, rfl⟩ := h.only; rfl
theorem frames (h : b.OnHold e c) : c.frames = b.frames := by obtain ⟨rs, ds, rfl⟩ := h.only; rfl
theorem inflight (h : b.OnHold e c) : c.inflight = b.inflight := by obtain ⟨rs, ds, rfl⟩ := h.only; rfl
theorem records (h : b.OnHold e c) : c.records = b.records := by obtain ⟨rs, ds, rfl⟩ := h.only; rfl
theorem out (h : b.OnHold e c) : c.out = b.out := by obtain ⟨rs, ds, rfl⟩ := h.only; rfl
theorem faultN (h : b.OnHold e c) : c.faultN = b.faultN := by obtain ⟨rs, ds, rfl⟩ := h.only; rfl
theorem pinLevel (h : b.OnHold e c) (d : Nat) : c.pinLevel d = b.pinLevel d := by
  rw [Block.pinLevel, h.cfg, h.cfg, h.relPin, Block.pinLevel]
theorem started (h : b.OnHold e c) : c.started = b.started := by
  refine Block.started_congr (h.word _ ?_)
  unfold R.BOOT_STATUS bootBase R.DIE_HOLD_STATUS dieBase
  omega
theorem ringHold (h : b.OnHold e c) : c.word R.CHN_RING_HOLD = b.word R.CHN_RING_HOLD := by
  refine h.word _ ?_
  unfold R.CHN_RING_HOLD chnBase R.DIE_HOLD_STATUS dieBase
  omega
/-- The HOLD_STATUS of another die stands. -/
theorem status_other (h : b.OnHold e c) {d : Nat} (hd : d ≠ e) (f : Bf) : c.flag (R.DIE_HOLD_STATUS d) f = b.flag (R.DIE_HOLD_STATUS d) f := by
  rw [Block.flag, Block.fld, h.word _ fun eq => hd (holdStatus_inj eq), ← Block.fld, ← Block.flag]

end Block.OnHold

/-- A field of HOLD_STATUS apart from the one written. -/
theorem Block.flag_apart (b : Block) (a x : Nat) {f g : Bf} (v : Nat)
    (h : (decide (f.hi < 32 ∧ f.lo ≤ f.hi ∧ g.lo ≤ g.hi) && decide (f.hi < g.lo ∨ g.hi < f.lo)) = true) :
    (b.setFld x f v).flag a g = b.flag a g := b.flag_setFld_apart a v h x

/-! ## Entry and exit begin -/

/-- Die d outside Hold is requested by `cause`: its entry window opens. -/
theorem Block.startEntry_of_idle {cause : Nat} (hstart : b.started = true) (hidle : (b.die e).phase = .idle) (hcause : cause ≠ holdByReset) :
    b.startEntry e cause = (b.modDie e fun x => { x with phase := .window, holdAt := b.ticks, release := false, cause := cause }).raise
      (R.DIE_HOLD_STATUS e) F.DIE_HOLD_STATUS_ENTERING := by
  unfold Block.startEntry
  rw [if_neg (by simp [hstart])]
  simp only [hidle]
  rw [if_neg (by simpa using hcause)]

theorem Block.startEntry_of_busy {cause : Nat} (h : b.started = false ∨ (b.die e).phase ≠ .idle) (hcause : cause ≠ holdByReset) :
    b.startEntry e cause = b := by
  unfold Block.startEntry
  have hc : (cause == holdByReset) = false := by simpa using hcause
  by_cases hs : b.started = true
  · rw [if_neg (by simp [hs])]
    cases hp : (b.die e).phase with
    | idle =>
      rw [hs, hp] at h
      simp at h
    | window =>
      dsimp only
      rw [hc]
      rfl
    | parking => rfl
    | held => rfl
    | exiting => rfl
  · rw [if_pos]
    simp [hs, hc, bne]

theorem Block.startEntry_hold {cause : Nat} (hcause : cause ≠ holdByReset) : b.OnHold e (b.startEntry e cause) := by
  by_cases h : b.started = false ∨ (b.die e).phase ≠ .idle
  · rw [Block.startEntry_of_busy h hcause]
    exact .refl e b
  · rw [not_or, Bool.not_eq_false, not_not] at h
    rw [Block.startEntry_of_idle h.1 h.2 hcause]
    exact ((Block.OnHold.refl e b).modDie _).setFld _ _

/-- The exit of die e starts. -/
theorem Block.startExit_tells (b : Block) (e : Nat) :
    (b.startExit e).die e = { b.die e with phase := .exiting, release := false } ∧
      (b.startExit e).flag (R.DIE_HOLD_STATUS e) F.DIE_HOLD_STATUS_EXITING = true ∧
      (b.startExit e).flag (R.DIE_HOLD_STATUS e) F.DIE_HOLD_STATUS_LATCH = b.flag (R.DIE_HOLD_STATUS e) F.DIE_HOLD_STATUS_LATCH ∧
      (b.startExit e).flag (R.DIE_HOLD_STATUS e) F.DIE_HOLD_STATUS_HELD = b.flag (R.DIE_HOLD_STATUS e) F.DIE_HOLD_STATUS_HELD ∧
      b.OnHold e (b.startExit e) := by
  unfold Block.startExit
  refine ⟨?_, Block.flag_raise _ _ _ (by decide) (by decide), ?_, ?_, ((Block.OnHold.refl e b).modDie _).setFld _ _⟩
  · rw [Block.raise_die, Block.die_modDie_same]
  · rw [Block.raise, Block.flag_apart _ _ _ _ (by decide)]
    rfl
  · rw [Block.raise, Block.flag_apart _ _ _ _ (by decide)]
    rfl

theorem Block.recheck_of_wanted (h : (b.die e).phase ≠ .held ∨ b.wanted e = true) : b.recheck e = b := by
  unfold Block.recheck
  rw [if_neg]
  rcases h with h | h <;> simp [h]

theorem Block.recheck_of_free (h : (b.die e).phase = .held) (h' : b.wanted e = false) : b.recheck e = b.startExit e := by
  unfold Block.recheck
  rw [if_pos (by simp [h, h'])]

theorem Block.recheck_hold (b : Block) (e : Nat) : b.OnHold e (b.recheck e) := by
  unfold Block.recheck
  split
  · exact (b.startExit_tells e).2.2.2.2
  · exact .refl e b

/-! ## The latch is taken away -/

theorem Block.clearH_tells (b : Block) (e : Nat) : b.OnHold e (b.clearH e) ∧ (b.clearH e).latchH e = false ∧ (b.clearH e).dies = b.dies :=
  ⟨(Block.OnHold.refl e b).setFld _ _, Block.flag_lower _ _ _ (by decide) (by decide), Block.lower_dies ..⟩

/-- Nothing else requests die e. -/
def Block.alone (b : Block) (e : Nat) : Bool := !bitOf (b.word R.CHN_RING_HOLD) e && !(b.die e).resetting

theorem Block.wanted_of_clear (h : b.latchH e = false) : b.wanted e = !b.alone e := by
  rw [Block.wanted, h, Block.alone]
  simp

/-- A held die whose latch goes leaves Hold where nothing else requests it. -/
theorem Block.clearH_recheck_of_alone (hheld : (b.die e).phase = .held) (halone : b.alone e = true) :
    let t := (b.clearH e).recheck e
    t.die e = { b.die e with phase := .exiting, release := false } ∧ t.flag (R.DIE_HOLD_STATUS e) F.DIE_HOLD_STATUS_LATCH = false ∧
      t.flag (R.DIE_HOLD_STATUS e) F.DIE_HOLD_STATUS_EXITING = true ∧
      t.flag (R.DIE_HOLD_STATUS e) F.DIE_HOLD_STATUS_HELD = b.flag (R.DIE_HOLD_STATUS e) F.DIE_HOLD_STATUS_HELD ∧ b.OnHold e t := by
  intro t
  obtain ⟨hhold, hlatch, hdies⟩ := b.clearH_tells e
  obtain ⟨c, hc⟩ : ∃ c, b.clearH e = c := ⟨_, rfl⟩
  have hkept : c.flag (R.DIE_HOLD_STATUS e) F.DIE_HOLD_STATUS_HELD = b.flag (R.DIE_HOLD_STATUS e) F.DIE_HOLD_STATUS_HELD := by
    rw [← hc]
    exact b.flag_apart _ _ _ (by decide)
  rw [hc] at hhold hlatch hdies
  have hdie : c.die e = b.die e := by rw [Block.die, hdies, ← Block.die]
  have ht : t = c.startExit e := by
    rw [show t = (b.clearH e).recheck e from rfl, hc]
    refine Block.recheck_of_free (by rw [hdie, hheld]) ?_
    rw [Block.wanted_of_clear hlatch, Block.alone, hhold.ringHold, hdie, ← Block.alone, halone]
    rfl
  obtain ⟨hnew, hexit, hl, hh, hold⟩ := c.startExit_tells e
  rw [ht]
  exact ⟨by rw [hnew, hdie], hl.trans hlatch, hexit, hh.trans hkept, hhold.trans hold⟩

theorem Block.clearH_recheck_of_wanted (h : (b.die e).phase ≠ .held ∨ b.alone e = false) : (b.clearH e).recheck e = b.clearH e := by
  obtain ⟨hhold, hlatch, hdies⟩ := b.clearH_tells e
  have hdie : (b.clearH e).die e = b.die e := by rw [Block.die, hdies, ← Block.die]
  refine Block.recheck_of_wanted ?_
  rcases h with h | h
  · exact .inl (by rwa [hdie])
  · refine .inr ?_
    rw [Block.wanted_of_clear hlatch, Block.alone, hhold.ringHold, hdie, ← Block.alone, h]
    rfl

/-! ## Releases (R494, R499) -/

theorem Block.pulse_of_free (h : b.latchH e = false) : b.pulse e = b := by simp [Block.pulse, h]
theorem Block.level_of_free (h : b.latchH e = false) : b.level e = b := by simp [Block.level, h]

theorem Block.pulse_of_window (h : b.latchH e = true) (hp : (b.die e).phase = .window) :
    b.pulse e = b.raise (R.DIE_HOLD_STATUS e) F.DIE_HOLD_STATUS_REL_LOST := by
  unfold Block.pulse
  rw [if_neg (by simp [h])]
  simp only [hp]

theorem Block.pulse_of_parking (h : b.latchH e = true) (hp : (b.die e).phase = .parking) :
    b.pulse e = b.modDie e fun x => { x with release := true } := by
  unfold Block.pulse
  rw [if_neg (by simp [h])]
  simp only [hp]

theorem Block.pulse_of_held (h : b.latchH e = true) (hp : (b.die e).phase = .held) : b.pulse e = (b.clearH e).recheck e := by
  unfold Block.pulse
  rw [if_neg (by simp [h])]
  simp only [hp]

theorem Block.level_of_entering (h : b.latchH e = true) (hp : (b.die e).phase = .window ∨ (b.die e).phase = .parking) :
    b.level e = b.modDie e fun x => { x with release := true } := by
  unfold Block.level
  rw [if_neg (by simp [h])]
  rcases hp with hp | hp <;> simp only [hp]

theorem Block.level_of_settled (h : b.latchH e = true) (hp : (b.die e).phase ≠ .window) (hp' : (b.die e).phase ≠ .parking) :
    b.level e = (b.clearH e).recheck e := by
  unfold Block.level
  rw [if_neg (by simp [h])]
  cases h : (b.die e).phase with
  | window => exact absurd h hp
  | parking => exact absurd h hp'
  | idle => rfl
  | held => rfl
  | exiting => rfl

theorem Block.pulse_hold (b : Block) (e : Nat) : b.OnHold e (b.pulse e) := by
  unfold Block.pulse
  split
  · exact .refl e b
  · split
    · exact (Block.OnHold.refl e b).setFld _ _
    · exact (Block.OnHold.refl e b).modDie _
    all_goals exact (b.clearH_tells e).1.trans (Block.recheck_hold _ e)

theorem Block.level_hold (b : Block) (e : Nat) : b.OnHold e (b.level e) := by
  unfold Block.level
  split
  · exact .refl e b
  · split
    · exact (Block.OnHold.refl e b).modDie _
    · exact (Block.OnHold.refl e b).modDie _
    all_goals exact (b.clearH_tells e).1.trans (Block.recheck_hold _ e)

theorem Block.pinCheck_of_off (h : b.pinLevel e = false) : b.pinCheck e = b := by simp [Block.pinCheck, h]
theorem Block.pinCheck_of_on (h : b.pinLevel e = true) : b.pinCheck e = b.level e := by simp [Block.pinCheck, h]

theorem Block.pinCheck_hold (b : Block) (e : Nat) : b.OnHold e (b.pinCheck e) := by
  unfold Block.pinCheck
  split
  · exact b.level_hold e
  · exact .refl e b

/-! ## A request sets the latch (R493, R484) -/

/-- The latch set, before the entry is begun. -/
def Block.latchOn (b : Block) (e : Nat) (fatal : Bool) : Block :=
  (b.setFld (R.DIE_HOLD_STATUS e) F.DIE_HOLD_STATUS_ESCALATED (b2n fatal)).raise (R.DIE_HOLD_STATUS e) F.DIE_HOLD_STATUS_LATCH

theorem Block.latchOn_tells (b : Block) (e : Nat) (fatal : Bool) :
    b.OnHold e (b.latchOn e fatal) ∧ (b.latchOn e fatal).dies = b.dies ∧ (b.latchOn e fatal).latchH e = true ∧
      (b.latchOn e fatal).flag (R.DIE_HOLD_STATUS e) F.DIE_HOLD_STATUS_ESCALATED = fatal ∧
      b.latchOn e fatal = { b with regs := (b.latchOn e fatal).regs } := by
  refine ⟨((Block.OnHold.refl e b).setFld _ _).setFld _ _, ?_, Block.flag_raise _ _ _ (by decide) (by decide), ?_, ?_⟩
  · rw [Block.latchOn, Block.raise_dies, Block.setFld_dies]
  · rw [Block.latchOn, Block.raise, Block.flag_apart _ _ _ _ (by decide), Block.flag, Block.fld_setFld_same _ _ _ _ (by decide) (by decide)]
    cases fatal <;> rfl
  · unfold Block.latchOn
    obtain ⟨rs, h⟩ := b.setFld_regs (R.DIE_HOLD_STATUS e) F.DIE_HOLD_STATUS_ESCALATED (b2n fatal)
    rw [h]
    exact Block.raise_only_regs _ _ _

theorem Block.holdRequest_of_latched {fatal : Bool} (h : (fatal && (b.die e).phase == .held) = false) :
    b.holdRequest e fatal = (((b.latchOn e fatal).startEntry e (if fatal then holdByFault else holdByReg)).pinCheck e) := by
  unfold Block.holdRequest
  dsimp only
  rw [Block.setFld_die, if_neg (by rw [h]; decide)]
  rfl

theorem Block.holdRequest_of_held {fatal : Bool} (h : (fatal && (b.die e).phase == .held) = true) :
    b.holdRequest e fatal = b.setFld (R.DIE_HOLD_STATUS e) F.DIE_HOLD_STATUS_ESCALATED (b2n fatal) := by
  unfold Block.holdRequest
  dsimp only
  rw [Block.setFld_die, if_pos h]

theorem holdCause_ne (fatal : Bool) : (if fatal then holdByFault else holdByReg) ≠ holdByReset := by cases fatal <;> decide

theorem Block.holdRequest_hold (b : Block) (e : Nat) (fatal : Bool) : b.OnHold e (b.holdRequest e fatal) := by
  cases h : (fatal && (b.die e).phase == .held)
  · rw [Block.holdRequest_of_latched h]
    exact ((b.latchOn_tells e fatal).1.trans (Block.startEntry_hold (holdCause_ne fatal))).trans (Block.pinCheck_hold _ e)
  · rw [Block.holdRequest_of_held h]
    exact (Block.OnHold.refl e b).setFld _ _

end Sys2Proof.Machine
end

section
/-!
PROOFS. Hold's commands at the register and at the pin, and the end of entry (R493 to R499).
-/
namespace Sys2Proof.Machine
open Sys2Proof

variable {b c : Block} {e : Nat}

/-! ## HOLD_REQUEST -/

theorem takes_holdRequest {w : Writer} {d : Fin 4} {v : BitVec 32} (hreach : b.reaches w .die) :
    Takes (.holdRequest w d v) b (b.holdWrite w d.val v.toNat) := takes_of_write hreach fun _ => rfl
theorem takes_holdRelease {w : Writer} {d : Fin 4} {v : BitVec 32} (hreach : b.reaches w .die) :
    Takes (.holdRelease w d v) b (b.releaseWrite w d.val v.toNat) := takes_of_write hreach fun _ => rfl

theorem Block.holdWrite_of_request {w : Writer} {v : Nat} (h : F.DIE_HOLD_CTRL_HOLD.of v = 1) (r : F.DIE_HOLD_CTRL_RELEASE.of v = 0) :
    b.holdWrite w e v = b.holdRequest e false := by
  simp [Block.holdWrite, Block.holdCtrl, h, r]

theorem Block.holdRequest_of_reg (b : Block) (e : Nat) :
    b.holdRequest e false = ((b.latchOn e false).startEntry e holdByReg).pinCheck e := Block.holdRequest_of_latched rfl

theorem Block.latchOn_die (b : Block) (e : Nat) (fatal : Bool) (d : Nat) : (b.latchOn e fatal).die d = b.die d := by
  rw [Block.die, (b.latchOn_tells e fatal).2.1, ← Block.die]

/-- A request of a die outside Hold opens its window. -/
theorem Block.latchOn_startEntry {fatal : Bool} {cause : Nat} (hstart : b.started = true) (hidle : (b.die e).phase = .idle)
    (hcause : cause ≠ holdByReset) :
    let t := (b.latchOn e fatal).startEntry e cause
    t.die e = { b.die e with phase := .window, holdAt := b.ticks, release := false, cause := cause } ∧
      t.latchH e = true ∧ t.flag (R.DIE_HOLD_STATUS e) F.DIE_HOLD_STATUS_ENTERING = true ∧
      t.flag (R.DIE_HOLD_STATUS e) F.DIE_HOLD_STATUS_ESCALATED = fatal := by
  intro t
  obtain ⟨hhold, hdies, hlatch, hesc, -⟩ := b.latchOn_tells e fatal
  obtain ⟨c, hc⟩ : ∃ c, b.latchOn e fatal = c := ⟨_, rfl⟩
  rw [hc] at hhold hdies hlatch hesc
  have hdie : c.die e = b.die e := by rw [Block.die, hdies, ← Block.die]
  have ht : t = (c.modDie e fun x => { x with phase := .window, holdAt := c.ticks, release := false, cause := cause }).raise
      (R.DIE_HOLD_STATUS e) F.DIE_HOLD_STATUS_ENTERING := by
    rw [show t = (b.latchOn e fatal).startEntry e cause from rfl, hc]
    exact Block.startEntry_of_idle (hhold.started.trans hstart) (by rw [hdie, hidle]) hcause
  rw [ht]
  refine ⟨?_, ?_, Block.flag_raise _ _ _ (by decide) (by decide), ?_⟩
  · rw [Block.raise_die, Block.die_modDie_same, hdie, hhold.ticks]
  · rw [Block.latchH, Block.raise, Block.flag_apart _ _ _ _ (by decide)]
    exact hlatch
  · rw [Block.raise, Block.flag_apart _ _ _ _ (by decide)]
    exact hesc

theorem Block.latchOn_startEntry_busy {fatal : Bool} {cause : Nat} (h : b.started = false ∨ (b.die e).phase ≠ .idle) (hcause : cause ≠ holdByReset) :
    (b.latchOn e fatal).startEntry e cause = b.latchOn e fatal :=
  Block.startEntry_of_busy (by rwa [(b.latchOn_tells e fatal).1.started, b.latchOn_die]) hcause

theorem Block.request_opens (hpin : b.pinLevel e = false) (hstart : b.started = true) (hidle : (b.die e).phase = .idle) :
    let t := b.holdRequest e false
    t.die e = { b.die e with phase := .window, holdAt := b.ticks, release := false, cause := 1 } ∧
      t.flag (R.DIE_HOLD_STATUS e) F.DIE_HOLD_STATUS_LATCH = true ∧ t.flag (R.DIE_HOLD_STATUS e) F.DIE_HOLD_STATUS_ENTERING = true ∧
      t.flag (R.DIE_HOLD_STATUS e) F.DIE_HOLD_STATUS_ESCALATED = false ∧ t = { b with regs := t.regs, dies := t.dies } := by
  intro t
  have hlatched := (b.latchOn_tells e false).1
  have hentry : (b.latchOn e false).OnHold e ((b.latchOn e false).startEntry e holdByReg) := Block.startEntry_hold (holdCause_ne false)
  have ht : t = (b.latchOn e false).startEntry e holdByReg := by
    rw [show t = b.holdRequest e false from rfl, Block.holdRequest_of_reg]
    exact Block.pinCheck_of_off (by rw [hentry.pinLevel, hlatched.pinLevel, hpin])
  obtain ⟨hdie, hlatch, henter, hesc⟩ := Block.latchOn_startEntry (fatal := false) hstart hidle (holdCause_ne false)
  obtain ⟨rs, ds, honly⟩ := (hlatched.trans hentry).only
  rw [ht]
  exact ⟨hdie, hlatch, henter, hesc, by rw [honly]⟩

theorem Block.request_waits (hpin : b.pinLevel e = false) (h : b.started = false ∨ (b.die e).phase ≠ .idle) :
    let t := b.holdRequest e false
    t.flag (R.DIE_HOLD_STATUS e) F.DIE_HOLD_STATUS_LATCH = true ∧ t.flag (R.DIE_HOLD_STATUS e) F.DIE_HOLD_STATUS_ESCALATED = false ∧
      t = { b with regs := t.regs } := by
  intro t
  obtain ⟨hhold, -, hlatch, hesc, honly⟩ := b.latchOn_tells e false
  have ht : t = b.latchOn e false := by
    rw [show t = b.holdRequest e false from rfl, Block.holdRequest_of_reg, Block.latchOn_startEntry_busy h (by decide)]
    exact Block.pinCheck_of_off (by rw [hhold.pinLevel, hpin])
  rw [ht]
  exact ⟨hlatch, hesc, honly⟩

/-- A release by the pin's level that stands ends the request (R494). -/
theorem Block.request_released (hpin : b.pinLevel e = true) (hstart : b.started = true) (hidle : (b.die e).phase = .idle) :
    let t := b.holdRequest e false
    t.die e = { b.die e with phase := .window, holdAt := b.ticks, release := true, cause := 1 } ∧
      t.flag (R.DIE_HOLD_STATUS e) F.DIE_HOLD_STATUS_LATCH = true ∧ t = { b with regs := t.regs, dies := t.dies } := by
  intro t
  have hlatched := (b.latchOn_tells e false).1
  have hentry : (b.latchOn e false).OnHold e ((b.latchOn e false).startEntry e holdByReg) := Block.startEntry_hold (holdCause_ne false)
  obtain ⟨hdie, hlatch, -, -⟩ := Block.latchOn_startEntry (fatal := false) (cause := holdByReg) hstart hidle (holdCause_ne false)
  obtain ⟨c, hc⟩ : ∃ c, (b.latchOn e false).startEntry e holdByReg = c := ⟨_, rfl⟩
  rw [hc] at hentry hdie hlatch
  have ht : t = c.modDie e fun x => { x with release := true } := by
    rw [show t = b.holdRequest e false from rfl, Block.holdRequest_of_reg, hc,
      Block.pinCheck_of_on (by rw [hentry.pinLevel, hlatched.pinLevel, hpin])]
    exact Block.level_of_entering hlatch (.inl (by rw [hdie]))
  obtain ⟨rs, ds, honly⟩ := ((hlatched.trans hentry).modDie fun x => { x with release := true }).only
  rw [ht]
  refine ⟨?_, hlatch, ?_⟩
  · rw [Block.die_modDie_same, hdie]
    rfl
  · rw [honly]

theorem Block.request_released_entering (hpin : b.pinLevel e = true) (h : (b.die e).phase = .window ∨ (b.die e).phase = .parking) :
    let t := b.holdRequest e false
    t.die e = { b.die e with release := true } ∧ t.flag (R.DIE_HOLD_STATUS e) F.DIE_HOLD_STATUS_LATCH = true ∧
      t = { b with regs := t.regs, dies := t.dies } := by
  intro t
  obtain ⟨hhold, -, hlatch, -, -⟩ := b.latchOn_tells e false
  have hdie := b.latchOn_die e false e
  obtain ⟨c, hc⟩ : ∃ c, b.latchOn e false = c := ⟨_, rfl⟩
  have hbusy : (b.die e).phase ≠ .idle := by rcases h with h | h <;> simp [h]
  have ht : t = c.modDie e fun x => { x with release := true } := by
    rw [show t = b.holdRequest e false from rfl, Block.holdRequest_of_reg, Block.latchOn_startEntry_busy (.inr hbusy) (by decide), hc,
      Block.pinCheck_of_on (by rw [← hc, hhold.pinLevel, hpin])]
    exact Block.level_of_entering (hc ▸ hlatch) (by rwa [← hc, hdie])
  rw [hc] at hhold hlatch hdie
  obtain ⟨rs, ds, honly⟩ := (hhold.modDie fun x => { x with release := true }).only
  rw [ht]
  refine ⟨?_, hlatch, ?_⟩
  · rw [Block.die_modDie_same, hdie]
  · rw [honly]

/-- What a held die is after its release, nothing else requesting it. -/
def Block.Leaves (e : Nat) (b t : Block) : Prop :=
  t.die e = { b.die e with phase := .exiting, release := false } ∧ t.flag (R.DIE_HOLD_STATUS e) F.DIE_HOLD_STATUS_LATCH = false ∧
    t.flag (R.DIE_HOLD_STATUS e) F.DIE_HOLD_STATUS_EXITING = true ∧ t.frames = b.frames

theorem Block.clearH_leaves (hheld : (b.die e).phase = .held) (halone : b.alone e = true) : b.Leaves e ((b.clearH e).recheck e) := by
  obtain ⟨hdie, hlatch, hexit, -, hhold⟩ := Block.clearH_recheck_of_alone hheld halone
  exact ⟨hdie, hlatch, hexit, hhold.frames⟩

theorem Block.request_released_held (hpin : b.pinLevel e = true) (hheld : (b.die e).phase = .held) (halone : b.alone e = true) :
    b.Leaves e (b.holdRequest e false) := by
  obtain ⟨hhold, -, hlatch, -, -⟩ := b.latchOn_tells e false
  have hdie := b.latchOn_die e false e
  obtain ⟨c, hc⟩ : ∃ c, b.latchOn e false = c := ⟨_, rfl⟩
  rw [hc] at hhold hlatch hdie
  have ht : b.holdRequest e false = (c.clearH e).recheck e := by
    rw [Block.holdRequest_of_reg, Block.latchOn_startEntry_busy (.inr (by simp [hheld])) (by decide), hc,
      Block.pinCheck_of_on (by rw [hhold.pinLevel, hpin])]
    exact Block.level_of_settled hlatch (by simp [hdie, hheld]) (by simp [hdie, hheld])
  have halone' : c.alone e = true := by rw [Block.alone, hhold.ringHold, hdie, ← Block.alone, halone]
  obtain ⟨h1, h2, h3, h4⟩ := Block.clearH_leaves (by rw [hdie, hheld]) halone'
  rw [ht]
  exact ⟨by rw [h1, hdie], h2, h3, h4.trans hhold.frames⟩

/-! ## HOLD_RELEASE -/

theorem Block.releaseWrite_of_release {w : Writer} {v : Nat} (h : F.DIE_HOLD_CTRL_HOLD.of v = 0) (r : F.DIE_HOLD_CTRL_RELEASE.of v = 1) :
    b.releaseWrite w e v = if b.flag (R.DIE_HOLD_CFG e) F.DIE_HOLD_CFG_REL_REG_EN then b.pulse e else b := by
  simp [Block.releaseWrite, Block.holdCtrl, h, r]

theorem Block.pulse_lost (hlatch : b.latchH e = true) (hp : (b.die e).phase = .window) :
    (b.pulse e).flag (R.DIE_HOLD_STATUS e) F.DIE_HOLD_STATUS_REL_LOST = true ∧ (b.pulse e).flag (R.DIE_HOLD_STATUS e) F.DIE_HOLD_STATUS_LATCH = true ∧
      b.pulse e = { b with regs := (b.pulse e).regs } := by
  rw [Block.pulse_of_window hlatch hp]
  refine ⟨Block.flag_raise _ _ _ (by decide) (by decide), ?_, b.raise_only_regs _ _⟩
  rw [Block.raise, Block.flag_apart _ _ _ _ (by decide)]
  exact hlatch

theorem Block.clearH_wanted (hothers : b.alone e = false) :
    ((b.clearH e).recheck e).flag (R.DIE_HOLD_STATUS e) F.DIE_HOLD_STATUS_LATCH = false ∧
      (b.clearH e).recheck e = { b with regs := ((b.clearH e).recheck e).regs } := by
  rw [Block.clearH_recheck_of_wanted (.inr hothers)]
  exact ⟨(b.clearH_tells e).2.1, by unfold Block.clearH; exact Block.setWord_only _ _ _⟩

/-! ## HOLD_REL_N -/

theorem takes_holdRelN (low : Bool) : Takes (.holdRelN low) b (b.holdRelN low) := fun _ => rfl

/-- What the fall of the pin does at die e. -/
def Block.pinRelease (b : Block) (e : Nat) : Block :=
  if !b.flag (R.DIE_HOLD_CFG e) F.DIE_HOLD_CFG_REL_PIN_EN then b
  else if b.flag (R.DIE_HOLD_CFG e) F.DIE_HOLD_CFG_PIN_MODE then b.level e
  else b.pulse e

theorem Block.pinRelease_hold (b : Block) (e : Nat) : b.OnHold e (b.pinRelease e) := by
  unfold Block.pinRelease
  split
  · exact .refl e b
  · split
    · exact b.level_hold e
    · exact b.pulse_hold e

theorem Block.holdRelN_of_low (h : b.relPin = true) : b.holdRelN true = b := by
  unfold Block.holdRelN
  simp only [h]
  rw [if_pos (by decide)]
  rw [← h]

theorem Block.holdRelN_of_fall (h : b.relPin = false) : b.holdRelN true = ({ b with relPin := true } : Block).each 4 Block.pinRelease := by
  unfold Block.holdRelN
  simp only [h]
  rw [if_neg (by decide)]
  rfl

theorem Block.each_id_of {n : Nat} {f : Block → Nat → Block} (h : ∀ k, k < n → f b k = b) : b.each n f = b := by
  refine Block.each_inv (P := fun c => c = b) rfl fun c k hk hc => ?_
  rw [hc, h k hk]

/-- Die e sees its own turn on the block as it was, and the turns of the others leave what it became. -/
theorem Block.each_pinRelease (he : e < 4) (b : Block) : ∃ c : Block, c.die e = b.die e ∧ c.latchH e = b.latchH e ∧ c.alone e = b.alone e ∧
    c.frames = b.frames ∧ (∀ f, c.flag (R.DIE_HOLD_CFG e) f = b.flag (R.DIE_HOLD_CFG e) f) ∧
    ((b.each 4 Block.pinRelease).die e = (c.pinRelease e).die e ∧ (b.each 4 Block.pinRelease).frames = b.frames ∧
      ∀ f, (b.each 4 Block.pinRelease).flag (R.DIE_HOLD_STATUS e) f = (c.pinRelease e).flag (R.DIE_HOLD_STATUS e) f) := by
  refine Block.each_turn he (f := Block.pinRelease)
    (I := fun (c : Block) => c.die e = b.die e ∧ c.latchH e = b.latchH e ∧ c.word R.CHN_RING_HOLD = b.word R.CHN_RING_HOLD ∧ c.frames = b.frames ∧
      ∀ f, c.flag (R.DIE_HOLD_CFG e) f = b.flag (R.DIE_HOLD_CFG e) f)
    (P := fun (t : Block) => ∃ c : Block, c.die e = b.die e ∧ c.latchH e = b.latchH e ∧ c.alone e = b.alone e ∧ c.frames = b.frames ∧
      (∀ f, c.flag (R.DIE_HOLD_CFG e) f = b.flag (R.DIE_HOLD_CFG e) f) ∧
      (t.die e = (c.pinRelease e).die e ∧ t.frames = b.frames ∧ ∀ f, t.flag (R.DIE_HOLD_STATUS e) f = (c.pinRelease e).flag (R.DIE_HOLD_STATUS e) f))
    ⟨rfl, rfl, rfl, rfl, fun _ => rfl⟩ (fun c j hj h => ?_) (fun c h => ?_) fun t j hj _ h => ?_
  · obtain ⟨h1, h2, h3, h4, h5⟩ := h
    have hh := c.pinRelease_hold j
    have hne : e ≠ j := by omega
    exact ⟨(hh.other e hne).trans h1, (hh.status_other hne _).trans h2, hh.ringHold.trans h3, hh.frames.trans h4, fun f => (hh.cfg e f).trans (h5 f)⟩
  · obtain ⟨h1, h2, h3, h4, h5⟩ := h
    refine ⟨c, h1, h2, by rw [Block.alone, h3, h1, ← Block.alone], h4, h5, rfl, (c.pinRelease_hold e).frames.trans h4, fun _ => rfl⟩
  · obtain ⟨c, h1, h2, h3, h4, h5, h6, h7, h8⟩ := h
    have hh := t.pinRelease_hold j
    have hne : e ≠ j := by omega
    exact ⟨c, h1, h2, h3, h4, h5, (hh.other e hne).trans h6, hh.frames.trans h7, fun f => (hh.status_other hne f).trans (h8 f)⟩

/-- The pin falls on die e, released by it. -/
theorem Block.holdRelN_tells (he : e < 4) (hpin : b.relPin = false) (hen : b.flag (R.DIE_HOLD_CFG e) F.DIE_HOLD_CFG_REL_PIN_EN = true)
    (hlatch : b.latchH e = true) :
    ((b.die e).phase = .held → b.alone e = true → b.Leaves e (b.holdRelN true)) ∧
    ((b.die e).phase = .window → b.flag (R.DIE_HOLD_CFG e) F.DIE_HOLD_CFG_PIN_MODE = false →
      (b.holdRelN true).flag (R.DIE_HOLD_STATUS e) F.DIE_HOLD_STATUS_REL_LOST = true ∧ (b.holdRelN true).die e = b.die e) ∧
    ((b.die e).phase = .window → b.flag (R.DIE_HOLD_CFG e) F.DIE_HOLD_CFG_PIN_MODE = true →
      (b.holdRelN true).die e = { b.die e with release := true }) := by
  obtain ⟨c, hdie, hl, halone, hframes, hcfg, htdie, htframes, htflag⟩ := Block.each_pinRelease he { b with relPin := true }
  rw [← Block.holdRelN_of_fall hpin] at htdie htframes htflag
  have hdie' : c.die e = b.die e := hdie
  have hlatch' : c.latchH e = true := hl.trans hlatch
  have hturn : c.pinRelease e = if b.flag (R.DIE_HOLD_CFG e) F.DIE_HOLD_CFG_PIN_MODE then c.level e else c.pulse e := by
    have hen' : c.flag (R.DIE_HOLD_CFG e) F.DIE_HOLD_CFG_REL_PIN_EN = true := (hcfg _).trans hen
    have hmode : c.flag (R.DIE_HOLD_CFG e) F.DIE_HOLD_CFG_PIN_MODE = b.flag (R.DIE_HOLD_CFG e) F.DIE_HOLD_CFG_PIN_MODE := hcfg _
    rw [Block.pinRelease, hen', hmode]
    rfl
  refine ⟨fun hheld ha => ?_, fun hw hm => ?_, fun hw hm => ?_⟩
  · have hc : c.pinRelease e = (c.clearH e).recheck e := by
      rw [hturn]
      split
      · exact Block.level_of_settled hlatch' (by simp [hdie', hheld]) (by simp [hdie', hheld])
      · exact Block.pulse_of_held hlatch' (by simp [hdie', hheld])
    have ha' : c.alone e = true := halone.trans ha
    obtain ⟨h1, h2, h3, -⟩ := Block.clearH_leaves (by rw [hdie', hheld]) ha'
    exact ⟨by rw [htdie, hc, h1, hdie'], by rw [htflag, hc, h2], by rw [htflag, hc, h3], htframes⟩
  · have hc : c.pinRelease e = c.raise (R.DIE_HOLD_STATUS e) F.DIE_HOLD_STATUS_REL_LOST := by
      rw [hturn, hm]
      exact Block.pulse_of_window hlatch' (by rw [hdie', hw])
    exact ⟨by rw [htflag, hc]; exact Block.flag_raise _ _ _ (by decide) (by decide), by rw [htdie, hc, Block.raise_die, hdie']⟩
  · have hc : c.pinRelease e = c.modDie e fun x => { x with release := true } := by
      rw [hturn, hm]
      exact Block.level_of_entering hlatch' (.inl (by rw [hdie', hw]))
    rw [htdie, hc, Block.die_modDie_same, hdie']

/-! ## HOLD_ENTER (R496, R499) -/

theorem takes_holdEnter (d : Fin 4) : Takes (.holdEnter d) b (b.holdEnter d.val) := fun _ => rfl

theorem Block.holdEnter_of_not (h : (b.die e).phase ≠ .parking ∨ b.allParked e = false) : b.holdEnter e = b := by
  unfold Block.holdEnter
  rw [if_pos]
  rcases h with h | h <;> simp [h]

/-- The die that is held, before its release is looked at. -/
def Block.heldNow (b : Block) (e : Nat) : Block :=
  ((((b.raise (R.DIE_HOLD_STATUS e) F.DIE_HOLD_STATUS_HELD).lower (R.DIE_HOLD_STATUS e) F.DIE_HOLD_STATUS_ENTERING).modDie e fun x =>
    { x with phase := .held }).send 6 e 0x04 (b.die e).cause).traceHold e 1 (b.die e).cause (b.die e).dropped

theorem Block.traceHold_records (b : Block) (d event cause dropped : Nat) :
    ∃ r, (b.traceHold d event cause dropped).records = b.records ++ [r] ∧ r.typ = 5 ∧ r.die = d := ⟨_, rfl, rfl, rfl⟩

theorem Block.heldNow_tells (b : Block) (e : Nat) :
    (b.heldNow e).die e = { b.die e with phase := .held } ∧ (b.heldNow e).flag (R.DIE_HOLD_STATUS e) F.DIE_HOLD_STATUS_HELD = true ∧
      (b.heldNow e).flag (R.DIE_HOLD_STATUS e) F.DIE_HOLD_STATUS_ENTERING = false ∧ (b.heldNow e).latchH e = b.latchH e ∧
      (b.heldNow e).word R.CHN_RING_HOLD = b.word R.CHN_RING_HOLD ∧ (b.heldNow e).pinLevel e = b.pinLevel e ∧
      (b.heldNow e).inflight = (b.send 6 e 0x04 (b.die e).cause).inflight ∧ (b.heldNow e).frames = b.frames ∧
      ∃ r, (b.heldNow e).records = b.records ++ [r] ∧ r.typ = 5 ∧ r.die = e := by
  obtain ⟨c, hc⟩ : ∃ c, (b.raise (R.DIE_HOLD_STATUS e) F.DIE_HOLD_STATUS_HELD).lower (R.DIE_HOLD_STATUS e) F.DIE_HOLD_STATUS_ENTERING = c := ⟨_, rfl⟩
  have hhold : b.OnHold e c := hc ▸ ((Block.OnHold.refl e b).setFld _ _).setFld _ _
  have hdie : c.die e = b.die e := by rw [← hc, Block.lower_die, Block.raise_die]
  have hentered : b.heldNow e = ((c.modDie e fun x => { x with phase := .held }).send 6 e 0x04 (b.die e).cause).traceHold e 1 (b.die e).cause
      (b.die e).dropped := by rw [Block.heldNow, hc]
  have hword (a : Nat) : (b.heldNow e).word a = c.word a := by
    rw [hentered, Block.traceHold, Block.trace_word, Block.send_word]
    rfl
  have hflag (a : Nat) (f : Bf) : (b.heldNow e).flag a f = c.flag a f := by
    rw [Block.flag, Block.fld, hword, ← Block.fld, ← Block.flag]
  have hpin : (b.heldNow e).relPin = c.relPin := by
    rw [hentered, Block.traceHold, Block.trace_relPin, Block.send_relPin]
    rfl
  refine ⟨?_, ?_, ?_, ?_, ?_, ?_, ?_, ?_, ?_⟩
  · rw [hentered, Block.traceHold, Block.trace_die, Block.send_die, Block.die_modDie_same, hdie]
  · rw [hflag, ← hc, Block.lower, Block.flag_apart _ _ _ _ (by decide)]
    exact Block.flag_raise _ _ _ (by decide) (by decide)
  · rw [hflag, ← hc]
    exact Block.flag_lower _ _ _ (by decide) (by decide)
  · rw [Block.latchH, hflag, ← hc, Block.lower, Block.flag_apart _ _ _ _ (by decide), Block.raise, Block.flag_apart _ _ _ _ (by decide), ← Block.latchH]
  · rw [hword]
    exact hhold.ringHold
  · rw [Block.pinLevel, hflag, hflag, hpin, hhold.cfg, hhold.cfg, hhold.relPin, Block.pinLevel]
  · rw [hentered, Block.traceHold, Block.trace_inflight, Block.send_inflight, Block.send_inflight]
    rw [show ∀ (f : Die → Die), (c.modDie e f).inflight = c.inflight from fun _ => rfl, show ∀ (f : Die → Die), (c.modDie e f).ticks = c.ticks from fun _ => rfl,
      hhold.inflight, hhold.ticks]
  · rw [hentered, Block.traceHold, Block.trace_frames, Block.send_frames]
    exact hhold.frames
  · obtain ⟨r, hr, htyp, hdie'⟩ := ((c.modDie e fun x => { x with phase := .held }).send 6 e 0x04 (b.die e).cause).traceHold_records e 1
      (b.die e).cause (b.die e).dropped
    refine ⟨r, ?_, htyp, hdie'⟩
    rw [hentered, hr, Block.send_records]
    exact congrArg (· ++ [r]) hhold.records

theorem Block.holdEnter_of_parked (hp : (b.die e).phase = .parking) (hall : b.allParked e = true) (hr : (b.die e).resetting = false) :
    b.holdEnter e = (((if (b.die e).release || (b.heldNow e).pinLevel e then (b.heldNow e).clearH e else b.heldNow e).modDie e fun x =>
      { x with release := false }).recheck e) := by
  unfold Block.holdEnter
  rw [if_neg (by simp [hp, hall])]
  dsimp only
  rw [hr, if_neg Bool.false_ne_true]
  rfl

end Sys2Proof.Machine
end

section
/-!
PROOFS. What a Hold entry leaves of the die's own registers, and what it empties (Table 16-15, step 2; R46, R288).
-/
namespace Sys2Proof.Machine
open Sys2Proof

variable {b c d : Block}

/-! ## Every member of a list has its turn -/

/-- A fold whose turn at x brings Q x, and which keeps every Q, brings all of them. -/
theorem foldl_all {α : Type} {f : Block → α → Block} {Q : α → Block → Prop} (brings : ∀ c x, Q x (f c x)) (keeps : ∀ c x y, Q y c → Q y (f c x))
    (l : List α) {b : Block} {y : α} (h : y ∈ l ∨ Q y b) : Q y (l.foldl f b) := by
  induction l generalizing b with
  | nil => exact h.resolve_left List.not_mem_nil
  | cons x l ih =>
    rw [List.foldl_cons]
    refine ih ?_
    rcases h with h | h
    · rcases List.mem_cons.mp h with rfl | h
      · exact .inr (brings b _)
      · exact .inl h
    · exact .inr (keeps b x y h)

/-- A property kept by every turn of a fold is kept by it. -/
theorem foldl_inv {α : Type} {f : Block → α → Block} {P : Block → Prop} (l : List α) {b : Block} (start : P b) (turn : ∀ c, ∀ x ∈ l, P c → P (f c x)) :
    P (l.foldl f b) := by
  induction l generalizing b with
  | nil => exact start
  | cons x l ih => exact ih (turn b x List.mem_cons_self start) fun c y hy => turn c y (List.mem_cons_of_mem _ hy)

/-! ## The cells of a region -/

/-- From b to c nothing changed but regions, the ports' requests and counters. -/
def Block.OnStore (b c : Block) : Prop := ∃ rg ps cs, c = { b with regions := rg, ports := ps, ctrs := cs }

namespace Block.OnStore

theorem refl (b : Block) : b.OnStore b := ⟨_, _, _, rfl⟩
theorem trans (h : b.OnStore c) (h' : c.OnStore d) : b.OnStore d := by
  obtain ⟨rg, ps, cs, rfl⟩ := h
  obtain ⟨rg', ps', cs', rfl⟩ := h'
  exact ⟨_, _, _, rfl⟩
theorem accounts (h : b.OnAccounts c) : b.OnStore c := by
  obtain ⟨rg, ps, h⟩ := h.only
  exact ⟨rg, ps, b.ctrs, h⟩
theorem count (h : b.OnStore c) (a n : Nat) : b.OnStore (c.count a n) := by
  refine h.trans ?_
  unfold Block.count
  split
  · exact refl c
  · exact ⟨_, _, _, rfl⟩
theorem pmc (h : b.OnStore c) (u : PUnit) (e p n : Nat) : b.OnStore (c.pmc u e p n) := by
  obtain ⟨cs, hc⟩ := (Block.Counted.refl c).pmc u e p n
  exact h.trans ⟨_, _, cs, hc⟩
theorem modRegion (h : b.OnStore c) (G : Nat) (f : Region → Region) : b.OnStore (c.modRegion G f) := h.trans ⟨_, _, _, rfl⟩
theorem foldl {α : Type} {f : Block → α → Block} (h : b.OnStore c) (l : List α) (turn : ∀ (c : Block) x, c.OnStore (f c x)) :
    b.OnStore (l.foldl f c) :=
  foldl_inv (P := b.OnStore) l h fun c x _ hc => hc.trans (turn c x)

theorem chargeCell (h : b.OnStore c) (G sid : Nat) : b.OnStore (c.chargeCell G sid) := by
  have hown (c : Block) (f : Stored → Stored) : c.OnAccounts (c.modStored G sid f) := (Block.OnAccounts.refl c).modStored G sid f
  have hmine (c : Block) (f : Stored → Stored) (q : Nat) (g : Queue → Queue) : c.OnAccounts ((c.modStored G sid f).modQueue G q g) :=
    (hown c f).modQueue G q g
  refine h.trans ?_
  unfold Block.chargeCell
  dsimp only
  refine pmc ?_ _ _ _ _
  split
  · split <;> exact accounts (hown c _)
  · split
    · split
      · exact accounts (hmine c _ _ _)
      · exact accounts (hown c _)
    · split
      · split
        iterate 3 exact accounts ((hmine c _ _ _).setGroupOf _ _ _ _)
        exact accounts (hown c _)
      · split
        · exact accounts (hmine c _ _ _)
        · exact accounts (hown c _)

theorem dropPtr (h : b.OnStore c) (G q : Nat) (x : Ptr) : b.OnStore (c.dropPtr G q x) :=
  h.trans (accounts (((Block.OnAccounts.refl c).modQueue _ _ _).releasePtr _ _))

theorem badStored (h : b.OnStore c) (G sid : Nat) : b.OnStore (c.badStored G sid) := by
  have hports : c.OnStore ((c.owedPorts G sid).foldl (fun b p => b.count (R.MAC_TX_BAD_DROP p) 1) c) :=
    (refl c).foldl _ fun c p => (refl c).count _ _
  have hdrops (l : List (Nat × Ptr)) (c : Block) :
      c.OnStore (l.foldl (fun b x => (b.dropPtr G x.1 x.2).count (R.MAC_TX_BAD_DROP x.2.eg) 1) c) :=
    (refl c).foldl _ fun c x => ((refl c).dropPtr _ _ _).count _ _
  refine h.trans ?_
  unfold Block.badStored
  dsimp only
  have hheld (f : Stored → Stored) (g : Region → Region) (l : List (Nat × Ptr)) :=
    ((hports.trans (accounts ((Block.OnAccounts.refl _).modStored G sid f))).modRegion G g).trans (hdrops l _)
  split
  · exact (hheld _ _ _).trans (accounts ((Block.OnAccounts.refl _).freeStored _ _))
  · exact hheld _ _ _

theorem wholeStored (h : b.OnStore c) (G sid : Nat) (bad : Bool) : b.OnStore (c.wholeStored G sid bad) := by
  refine h.trans ?_
  unfold Block.wholeStored
  split
  · exact refl c
  · dsimp only
    have hcells (n : Nat) : c.OnStore ((List.range n).foldl (fun b _ => b.chargeCell G sid) c) := (refl c).foldl _ fun c _ => (refl c).chargeCell _ _
    have hwhole := (hcells (cellsOf ((c.region G).frame sid).pkt.bytes.length - 1)).trans
      (accounts ((Block.OnAccounts.refl _).modStored G sid fun s => { s with whole := true, got := s.pkt.bytes.length }))
    split
    · exact hwhole.badStored _ _
    · exact hwhole

theorem endTransit (h : b.OnStore c) (G : Nat) (t : Transit) (bad : Bool) : b.OnStore (c.endTransit G t bad) := by
  refine h.trans ?_
  unfold Block.endTransit
  split
  · exact ((refl c).wholeStored _ _ _).modRegion _ _
  · exact (refl c).modRegion _ _
  all_goals exact refl c

end Block.OnStore

/-! ## The registers that an entry leaves -/

/-- From b to c the words at offset 8 of their page stand: HOLD_STATUS among them. -/
def Block.SameStatus (b c : Block) : Prop := ∀ a, a % 0x1000 = 8 → c.word a = b.word a

theorem holdStatus_page (e : Nat) : R.DIE_HOLD_STATUS e % 0x1000 = 8 := by unfold R.DIE_HOLD_STATUS dieBase; omega

namespace Block.SameStatus

theorem refl (b : Block) : b.SameStatus b := fun _ _ => rfl
theorem trans (h : b.SameStatus c) (h' : c.SameStatus d) : b.SameStatus d := fun a ha => (h' a ha).trans (h a ha)
theorem of_regs (h : c.regs = b.regs) : b.SameStatus c := fun a _ => Block.word_of_regs h a
theorem setFld (h : b.SameStatus c) {a : Nat} (ha : a % 0x1000 ≠ 8) (f : Bf) (v : Nat) : b.SameStatus (c.setFld a f v) :=
  fun x hx => (Block.word_setFld_ne _ _ _ (by rintro rfl; exact ha hx)).trans (h x hx)
theorem sets {L : List (Nat × Bf)} (h : b.Sets L c) (hL : ∀ x ∈ L, x.1 % 0x1000 ≠ 8) : b.SameStatus c :=
  fun _ ha => h.word fun x hx e => hL x hx (e ▸ ha)
theorem of_dma (h : b.OnDma c) : b.SameStatus c := fun a ha => h.word a (by omega)
theorem raising (h : b.SameStatus c) (n : Nat) {f : Block → Block} (hf : ∀ c : Block, c.SameStatus (f c)) : b.SameStatus (c.raising n f) :=
  fun a ha => ((c.raising_tells n f).1 a).trans ((hf c a ha).trans (h a ha))
theorem count (h : b.SameStatus c) (a n : Nat) : b.SameStatus (c.count a n) := h.trans (of_regs (Block.count_regs ..))
theorem foldl {α : Type} {f : Block → α → Block} (h : b.SameStatus c) (l : List α) (turn : ∀ (c : Block), ∀ x ∈ l, c.SameStatus (f c x)) :
    b.SameStatus (l.foldl f c) :=
  foldl_inv (P := b.SameStatus) l h fun c x hx hc => hc.trans (turn c x hx)
theorem each {f : Block → Nat → Block} (h : b.SameStatus c) (n : Nat) (turn : ∀ (c : Block) k, c.SameStatus (f c k)) : b.SameStatus (c.each n f) :=
  Block.each_inv (P := b.SameStatus) h fun c k _ hc => hc.trans (turn c k)
theorem fld (h : b.SameStatus c) (e : Nat) (f : Bf) : c.fld (R.DIE_HOLD_STATUS e) f = b.fld (R.DIE_HOLD_STATUS e) f :=
  Block.fld_of_word (h _ (holdStatus_page e)) f

end Block.SameStatus

/-! ## Frames, fences and the transmit rings -/

theorem Block.holdLost_regs (b : Block) (e n : Nat) : (b.holdLost e n).regs = b.regs := by
  rw [Block.holdLost, Block.modDie_regs, Block.count_regs]

theorem Block.injectTry_regs (b : Block) (r : Nat) : (b.injectTry r).regs = b.regs := by
  unfold Block.injectTry
  split
  · dsimp only
    split <;> rfl
  · rfl

theorem Block.injectRefill_regs (b : Block) (p : Nat) : (b.injectRefill p).regs = b.regs := by
  unfold Block.injectRefill
  exact foldl_keeps b (g := Block.regs) (fun c (x : Nat × TxRing) => c.injectTry_regs x.1) _

theorem Block.txComplete_status (b : Block) (r status : Nat) : b.SameStatus (b.txComplete r status) := by
  unfold Block.txComplete
  split
  · rename_i f i _ _
    dsimp only
    refine .trans ?_ (.of_dma (.pushJob i _ _))
    refine .trans ?_ (.of_regs (Block.modTxRing_regs ..))
    split
    · exact ((Block.SameStatus.refl b).count _ _).count _ _
    · exact (Block.SameStatus.refl b).count _ _
  · exact .refl b

theorem Block.txRefuse_status (b : Block) (r status : Nat) : b.SameStatus (b.txRefuse r status) := by
  unfold Block.txRefuse
  split
  · rename_i f _
    dsimp only
    refine .trans ?_ (.of_regs (Block.injectRefill_regs _ _))
    cases f.id with
    | some i => exact (Block.SameStatus.of_regs (c := b.dropFrame i) rfl).trans (Block.txComplete_status _ r status)
    | none => exact b.txComplete_status r status
  · exact .refl b

theorem Block.holdTx_status (b : Block) (e : Nat) : b.SameStatus (b.holdTx e) := by
  refine (Block.SameStatus.refl b).foldl _ fun c x _ => ?_
  split
  · split
    · exact c.txRefuse_status _ _
    · exact .refl c
  · exact .refl c

theorem Block.fenceMark_status {a : Nat} (ha : a % 0x1000 ≠ 8) (b : Block) (tag : Nat) (late held : Bool) : b.SameStatus (b.fenceMark a tag late held) :=
  fun x hx => Block.fenceMark_word b (by rintro rfl; exact ha hx) tag late held

theorem Block.fenceEnd_status {e : Nat} (he : e < 4) (b : Block) (late held : Bool) : b.SameStatus (b.fenceEnd e late held) := by
  cases h : (b.engine e).fences with
  | nil =>
    unfold Block.fenceEnd
    rw [h]
    exact .refl b
  | cons f r =>
    obtain ⟨-, -, -, -, -, hword⟩ := b.fenceOff_tells (d := e) (f := f) (r := r) late held
    have hoff : b.SameStatus (b.fenceOff e f r late held) := fun a ha => hword a (by unfold R.TBL_FENCE_STATUS tblBase dieBase; omega)
    rw [Block.fenceEnd_cons h]
    split
    · exact hoff.trans (Block.fenceMark_status (by unfold R.LAY_INS_FENCE_STATUS layBase; omega) _ _ _ _)
    · exact hoff

theorem Block.stopWaiting_status (b : Block) (e i : Nat) : b.SameStatus (b.stopWaiting e i) := by
  unfold Block.stopWaiting
  dsimp only
  have hdrop (c : Block) : c.SameStatus (c.dropFrame i) := .of_regs rfl
  split
  · exact .refl b
  · generalize b.frame i = f
    have hcount : b.SameStatus (if f.allDests.all fun G => G / 2 == e then b.count (R.RGN_HELD_DROP (rgnOfPort f.port) e) 1 else b) := by
      split
      · exact (Block.SameStatus.refl b).count _ _
      · exact .refl b
    split
    · exact hcount.trans (hdrop _)
    · exact hcount.trans (.of_regs rfl)

/-! ## The source FIFOs -/

theorem Block.fifo_setFifo (b : Block) (i G j H : Nat) (l : List Transit) :
    (b.setFifo i G l).fifo j H = if 8 * j + H = 8 * i + G then l else b.fifo j H := SMap.get_set _ _ _ _ _

theorem Block.fifo_setInput_nil {i G j H : Nat} {l : List Transit} (h : b.fifo j H = []) (hl : b.input G i = [] → l = []) :
    (b.setInput G i l).fifo j H = [] := by
  unfold Block.setInput
  split
  · rename_i hi
    rw [Block.fifo_setFifo]
    split
    · rename_i e
      refine hl ?_
      rw [Block.input, if_pos hi, Block.fifo, ← e]
      exact h
    · exact h
  · exact h

theorem Block.setInput_regs (b : Block) (G i : Nat) (l : List Transit) : (b.setInput G i l).regs = b.regs := by
  unfold Block.setInput
  split <;> rfl

theorem Block.holdLost_fifos (b : Block) (e n : Nat) : (b.holdLost e n).fifos = b.fifos := by
  rw [Block.holdLost, Block.modDie_fifos, Block.count_fifos]

theorem Block.fifo_of_fifos (h : c.fifos = b.fifos) (j H : Nat) : c.fifo j H = b.fifo j H := by rw [Block.fifo, h, ← Block.fifo]

theorem Block.flushToward_tells (b : Block) (e G i : Nat) :
    (b.flushToward e G i).fifos = (b.setInput G i []).fifos ∧ (b.flushToward e G i).regs = b.regs := by
  unfold Block.flushToward
  dsimp only
  split
  · exact ⟨rfl, b.setInput_regs ..⟩
  · split
    · exact ⟨Block.holdLost_fifos .., (Block.holdLost_regs ..).trans (b.setInput_regs ..)⟩
    · exact ⟨Block.count_fifos .., (Block.count_regs ..).trans (b.setInput_regs ..)⟩

theorem Block.flushToward_empties {i : Nat} (hi : i < 4) (b : Block) (e G : Nat) : (b.flushToward e G i).fifo i G = [] := by
  rw [Block.fifo_of_fifos (b.flushToward_tells e G i).1, Block.setInput, if_pos hi, Block.fifo_setFifo, if_pos rfl]

theorem Block.flushToward_keeps {j H : Nat} (h : b.fifo j H = []) (e G i : Nat) : (b.flushToward e G i).fifo j H = [] := by
  rw [Block.fifo_of_fifos (b.flushToward_tells e G i).1]
  exact Block.fifo_setInput_nil h fun _ => rfl

/-- The five inputs toward a region are emptied. -/
theorem Block.flushRegion_empties {i : Nat} (hi : i < 4) (b : Block) (e G : Nat) :
    ((List.range 5).foldl (fun b i => b.flushToward e G i) b).fifo i G = [] :=
  foldl_all (f := fun b i => b.flushToward e G i) (Q := fun i c => i < 4 → c.fifo i G = []) (fun c i hi => c.flushToward_empties hi e G)
    (fun _ i _ h hj => Block.flushToward_keeps (h hj) e G i) _ (.inl (List.mem_range.mpr (by omega))) hi

theorem Block.flushRegion_keeps {j H : Nat} (h : b.fifo j H = []) (e G : Nat) :
    ((List.range 5).foldl (fun b i => b.flushToward e G i) b).fifo j H = [] :=
  foldl_inv (P := fun c => c.fifo j H = []) _ h fun _ i _ hc => Block.flushToward_keeps hc e G i

theorem Block.endTransit_tells (b : Block) (G : Nat) (t : Transit) (bad : Bool) :
    (b.endTransit G t bad).regs = b.regs ∧ (b.endTransit G t bad).fifos = b.fifos := by
  obtain ⟨rg, ps, cs, h⟩ := (Block.OnStore.refl b).endTransit G t bad
  rw [h]
  exact ⟨rfl, rfl⟩

theorem Block.flushAway_tells (b : Block) (e G : Nat) :
    (b.flushAway e G).regs = b.regs ∧ ∀ j H, b.fifo j H = [] → (b.flushAway e G).fifo j H = [] := by
  have hends (l : List Transit) (c : Block) : (l.foldl (fun b t => b.endTransit G t true) c).regs = c.regs ∧
      (l.foldl (fun b t => b.endTransit G t true) c).fifos = c.fifos :=
    ⟨foldl_keeps c (g := Block.regs) (fun c t => (c.endTransit_tells G t true).1) l,
      foldl_keeps c (g := Block.fifos) (fun c t => (c.endTransit_tells G t true).2) l⟩
  have hopen : (b.loseOpen G e).2.regs = b.regs ∧ ∀ j H, b.fifo j H = [] → (b.loseOpen G e).2.fifo j H = [] := by
    refine ⟨(hends _ _).1.trans (b.setInput_regs ..), fun j H h => ?_⟩
    rw [Block.loseOpen, Block.fifo_of_fifos (hends _ _).2]
    exact Block.fifo_setInput_nil h fun hl => by rw [hl]; rfl
  obtain ⟨c, hc⟩ : ∃ c, (b.loseOpen G e).2 = c := ⟨_, rfl⟩
  have hset (j H : Nat) (h : c.fifo j H = []) : (c.setFifo e G []).fifo j H = [] := by
    rw [Block.fifo_setFifo]
    split
    · rfl
    · exact h
  unfold Block.flushAway
  dsimp only
  rw [hc] at hopen ⊢
  split
  · exact ⟨hopen.1, fun j H h => hset j H (hopen.2 j H h)⟩
  · exact ⟨(Block.holdLost_regs ..).trans hopen.1, fun j H h => by
      rw [Block.fifo_of_fifos (Block.holdLost_fifos ..)]
      exact hset j H (hopen.2 j H h)⟩

end Sys2Proof.Machine
end

section
/-!
PROOFS. A Hold entry as a whole (Table 16-15, step 2), its end, and the exit (R495, R496, R498, R499).
-/
namespace Sys2Proof.Machine
open Sys2Proof

variable {b c : Block}

/-! ## The regions of the die -/

/-- The cells of region G hold nothing. -/
def Block.hollow (b : Block) (G : Nat) : Prop :=
  (b.region G).stored = [] ∧ (b.region G).queues = [] ∧ (b.region G).groups = []

theorem Block.emptyTx_tells (b : Block) (G : Nat) :
    (b.emptyTx G).regs = b.regs ∧ (b.emptyTx G).regions = b.regions ∧ (b.emptyTx G).fifos = b.fifos ∧ (b.emptyTx G).dies = b.dies := by
  refine Block.each_inv (P := fun c => c.regs = b.regs ∧ c.regions = b.regions ∧ c.fifos = b.fifos ∧ c.dies = b.dies) ⟨rfl, rfl, rfl, rfl⟩ fun c k _ h => ?_
  split
  · exact h
  · exact h

theorem Block.emptyRegion_tells (b : Block) (G : Nat) :
    (b.emptyRegion G).regs = b.regs ∧ (b.emptyRegion G).fifos = b.fifos ∧ (b.emptyRegion G).dies = b.dies ∧
      (b.emptyRegion G).regions = (b.modRegion G fun g => { g with stored := [], queues := [], groups := [], mcPend := [] }).regions := by
  have hasks (l : List Nat) (c : Block) : (l.foldl (fun b k => b.askXoff (k / 8) (k % 8)) c).regs = c.regs ∧
      (l.foldl (fun b k => b.askXoff (k / 8) (k % 8)) c).fifos = c.fifos ∧
      (l.foldl (fun b k => b.askXoff (k / 8) (k % 8)) c).dies = c.dies ∧ (l.foldl (fun b k => b.askXoff (k / 8) (k % 8)) c).regions = c.regions :=
    by
    refine ⟨?_, ?_, ?_, ?_⟩
    · exact foldl_keeps c (g := Block.regs) (fun _ _ => by exact rfl) l
    · exact foldl_keeps c (g := Block.fifos) (fun _ _ => by exact rfl) l
    · exact foldl_keeps c (g := Block.dies) (fun _ _ => by exact rfl) l
    · exact foldl_keeps c (g := Block.regions) (fun _ _ => by exact rfl) l
  unfold Block.emptyRegion
  dsimp only
  exact hasks (((b.region G).groups.filter fun x => x.2.xoff).map (·.1))
    (b.modRegion G fun g => { g with stored := [], queues := [], groups := [], mcPend := [] })

theorem Block.region_of_regions (h : c.regions = b.regions) (G : Nat) : c.region G = b.region G := by rw [Block.region, h, ← Block.region]

/-- The cells of region G are emptied, what they held counting as lost by die e. -/
def Block.voidRegion (b : Block) (e G : Nat) : Block := ((b.holdLost e (b.copiesIn G)).emptyTx G).emptyRegion G

theorem Block.voidRegion_tells (b : Block) (e G : Nat) :
    (b.voidRegion e G).regs = b.regs ∧ (b.voidRegion e G).fifos = b.fifos ∧ (b.voidRegion e G).hollow G ∧
      ∀ H, b.hollow H → (b.voidRegion e G).hollow H := by
  obtain ⟨hregs, hregions, hfifos, -⟩ := (b.holdLost e (b.copiesIn G)).emptyTx_tells G
  obtain ⟨c, hc⟩ : ∃ c, (b.holdLost e (b.copiesIn G)).emptyTx G = c := ⟨_, rfl⟩
  obtain ⟨hregs', hfifos', -, hregions'⟩ := c.emptyRegion_tells G
  have hrgn : c.regions = b.regions := by
    rw [← hc, hregions, Block.holdLost, Block.modDie_regions, Block.count_regions]
  have hregion (H : Nat) : (b.voidRegion e G).region H =
      if H = G then { c.region G with stored := [], queues := [], groups := [], mcPend := [] } else b.region H := by
    rw [Block.voidRegion, hc, Block.region_of_regions hregions', Block.region_modRegion, Block.region_of_regions hrgn H]
  refine ⟨?_, ?_, ?_, fun H h => ?_⟩
  · rw [Block.voidRegion, hc, hregs', ← hc, hregs, Block.holdLost_regs]
  · rw [Block.voidRegion, hc, hfifos', ← hc, hfifos, Block.holdLost_fifos]
  · rw [Block.hollow, hregion, if_pos rfl]
    exact ⟨rfl, rfl, rfl⟩
  · rw [Block.hollow, hregion]
    split
    · exact ⟨rfl, rfl, rfl⟩
    · exact h

/-! ## The ports of the die -/

theorem Block.clearPause_only (b : Block) (p : Nat) : ∃ rs ps, b.clearPause p = { b with regs := rs, ports := ps } := by
  unfold Block.clearPause
  dsimp only
  obtain ⟨rs, h⟩ := b.setFld_regs (R.MAC_PAUSE_STATUS p) F.MAC_PAUSE_STATUS_RX_PAUSED 0
  rw [h]
  obtain ⟨rs', h'⟩ := Block.setFld_regs { b with regs := rs } (R.PRT_PAUSE_WDOG_STATUS p) F.PRT_PAUSE_WDOG_STATUS_BROKEN 0
  rw [h']
  exact ⟨_, _, rfl⟩

theorem Block.clearPause_tx (b : Block) (p : Nat) : ((b.clearPause p).port p).tx = (b.port p).tx := by
  unfold Block.clearPause
  dsimp only
  rw [Block.port_modPort, if_pos rfl, Block.setFld_port, Block.setFld_port]

theorem Block.flushTx_of_idle {p : Nat} (idle : (b.port p).tx = []) : ∃ ps, b.flushTx p = { b with ports := ps } := by
  unfold Block.flushTx
  dsimp only
  rw [idle]
  exact ⟨_, rfl⟩

/-- The loss of a link whose port transmits nothing leaves the regions and the FIFOs. -/
theorem Block.lossEnd_idle_only {p : Nat} (idle : (b.port p).tx = []) :
    (b.lossEnd p true false).regions = b.regions ∧ (b.lossEnd p true false).fifos = b.fifos ∧ (b.lossEnd p true false).dies = b.dies := by
  obtain ⟨cs, hcount⟩ := (Block.Counted.refl b).count (R.MAC_LINK_DOWN_EVENTS p) 1
  obtain ⟨c, hc⟩ : ∃ c, Block.send { b with ctrs := cs } 0xD p 0x18 0 = c := ⟨_, rfl⟩
  have hsame : c.regions = b.regions ∧ c.fifos = b.fifos ∧ c.dies = b.dies ∧ (c.port p).tx = [] := by
    rw [← hc]
    exact ⟨rfl, rfl, rfl, idle⟩
  obtain ⟨hregions, hfifos, hdies, hidle⟩ := hsame
  have hcut : c.cutTx p = c := by rw [Block.cutTx, c.endTx_of_none hidle, c.endTx_of_none hidle]
  have hrx : c.cutRx p false = c := if_pos rfl
  obtain ⟨rs, ps, hclear⟩ := c.clearPause_only p
  obtain ⟨ps', hflush⟩ := Block.flushTx_of_idle (b := c.clearPause p) (by rw [c.clearPause_tx, hidle])
  obtain ⟨e, he⟩ : ∃ e, c.clearPause p = e := ⟨_, rfl⟩
  rw [he] at hclear hflush
  have hend : b.lossEnd p true false = if e.flushing p then e.flushTx p else e := by
    unfold Block.lossEnd
    dsimp only
    rw [hcount, hc, hrx, if_pos rfl, hcut, he]
  rw [hend]
  split
  · rw [hflush, hclear]
    exact ⟨hregions, hfifos, hdies⟩
  · rw [hclear]
    exact ⟨hregions, hfifos, hdies⟩

theorem Block.lossStart_regions (b : Block) (p : Nat) : (b.lossStart p).regions = b.regions ∧ (b.lossStart p).fifos = b.fifos ∧
    (b.lossStart p).dies = b.dies := by
  unfold Block.lossStart
  obtain ⟨rs, h⟩ := b.setFld_regs (R.MAC_LINK_STATUS p) F.MAC_LINK_STATUS_LINK_UP 0
  rw [Block.lower, h]
  rw [Block.raising_only, Block.raise]
  obtain ⟨rs', h'⟩ := Block.setFld_regs { b with regs := rs } (R.MAC_LINK_EVENTS p) F.MAC_LINK_EVENTS_LINK_DOWN_SEEN 1
  rw [h']
  exact ⟨rfl, rfl, rfl⟩

theorem Block.linkLoss_idle_only {p : Nat} (idle : (b.port p).tx = []) :
    (b.linkLoss p true false).regions = b.regions ∧ (b.linkLoss p true false).fifos = b.fifos ∧ (b.linkLoss p true false).dies = b.dies := by
  cases up : b.flag (R.MAC_LINK_STATUS p) F.MAC_LINK_STATUS_LINK_UP with
  | false =>
    rw [b.linkLoss_of_down up]
    exact ⟨rfl, rfl, rfl⟩
  | true =>
    rw [b.linkLoss_of_up up]
    have hidle : ((b.lossStart p).port p).tx = [] := by rw [Block.port, (b.lossStart_only p).1, ← Block.port, idle]
    obtain ⟨h, h', h''⟩ := Block.lossEnd_idle_only hidle
    obtain ⟨k, k', k''⟩ := b.lossStart_regions p
    exact ⟨h.trans k, h'.trans k', h''.trans k''⟩

theorem Block.linkLoss_status (b : Block) (p : Nat) (now cut : Bool) : b.SameStatus (b.linkLoss p now cut) := fun a ha =>
  b.linkLoss_word now cut (by unfold R.MAC_LINK_STATUS macBase; omega) (by unfold R.MAC_LINK_EVENTS macBase; omega)
    (by unfold R.MAC_PAUSE_STATUS macBase; omega) (by unfold R.PRT_PAUSE_WDOG_STATUS prtBase rgnBase dieBase; omega)

theorem Block.clearPause_status (b : Block) (p : Nat) : b.SameStatus (b.clearPause p) := fun a ha =>
  b.clearPause_word p (by unfold R.MAC_PAUSE_STATUS macBase; omega) (by unfold R.PRT_PAUSE_WDOG_STATUS prtBase rgnBase dieBase; omega)

theorem laneFlds_page (p : Nat) (f : Bf) (x : Nat × Bf) (hx : x ∈ laneFlds p f) : x.1 % 0x1000 ≠ 8 := by
  obtain ⟨k, -, rfl⟩ := List.mem_map.mp hx
  simp only [R.LANE_STATUS, laneBase]
  omega

theorem darkFlds_page (p : Nat) (x : Nat × Bf) (hx : x ∈ darkFlds p) : x.1 % 0x1000 ≠ 8 := by
  simp only [darkFlds, List.mem_cons, List.mem_append] at hx
  rcases hx with rfl | (hx | hx) | hx
  · simp only [R.MAC_LINK_STATUS, macBase]
    omega
  all_goals exact laneFlds_page p _ x hx

theorem bringFlds_page (p : Nat) (x : Nat × Bf) (hx : x ∈ bringFlds p) : x.1 % 0x1000 ≠ 8 := by
  simp only [bringFlds, List.mem_cons, List.mem_append, List.not_mem_nil, or_false] at hx
  rcases hx with (rfl | rfl | rfl | rfl | rfl) | hx
  iterate 5
    · simp only [R.MAC_LINK_STATUS, macBase]
      omega
  · exact laneFlds_page p _ x hx

theorem linkStatus_page (p : Nat) : R.MAC_LINK_STATUS p % 0x1000 ≠ 8 := by unfold R.MAC_LINK_STATUS macBase; omega

theorem Block.portDark_keeps (b : Block) (p : Nat) :
    b.SameStatus (b.portDark p) ∧ (b.portDark p).regions = b.regions ∧ (b.portDark p).fifos = b.fifos ∧ (b.portDark p).dies = b.dies := by
  have hdark : b.SameStatus (b.darkLanes p 15) := .sets (b.darkLanes_sets p 15) (darkFlds_page p)
  obtain ⟨rs, ps, o, honly⟩ := (b.darkLanes_sets p 15).only
  refine ⟨((hdark.setFld (linkStatus_page p) _ _).setFld (linkStatus_page p) _ _).trans (.of_regs (Block.modPort_regs ..)), ?_, ?_, ?_⟩
  · rw [Block.portDark, Block.modPort_regions, Block.raise_regions, Block.lower_regions, honly]
  · rw [Block.portDark, Block.modPort_fifos, Block.raise_fifos, Block.lower_fifos, honly]
  · rw [Block.portDark, Block.modPort_dies, Block.raise_dies, Block.lower_dies, honly]

theorem Block.dropPort_keeps (b : Block) (p : Nat) :
    b.SameStatus (b.dropPort p) ∧ (b.dropPort p).regions = b.regions ∧ (b.dropPort p).fifos = b.fifos ∧ (b.dropPort p).dies = b.dies := by
  obtain ⟨c, hc⟩ : ∃ c, b.modPort p (fun x => { x with late := [], tx := [], ctrl := [], ctrlAt := none, toldAt := [], stgHigh := false }) = c := ⟨_, rfl⟩
  have hstart : b.SameStatus c ∧ c.regions = b.regions ∧ c.fifos = b.fifos ∧ c.dies = b.dies := by
    rw [← hc]
    exact ⟨.of_regs rfl, rfl, rfl, rfl⟩
  have hidle : (c.port p).tx = [] := by rw [← hc, Block.port_modPort, if_pos rfl]
  obtain ⟨hregions, hfifos, hdies⟩ := Block.linkLoss_idle_only hidle
  obtain ⟨e, he⟩ : ∃ e, (c.linkLoss p true false).clearPause p = e := ⟨_, rfl⟩
  have hcleared : b.SameStatus e ∧ e.regions = b.regions ∧ e.fifos = b.fifos ∧ e.dies = b.dies := by
    obtain ⟨rs, ps, hclear⟩ := (c.linkLoss p true false).clearPause_only p
    refine ⟨?_, ?_, ?_, ?_⟩
    · rw [← he]
      exact (hstart.1.trans (c.linkLoss_status p true false)).trans (Block.clearPause_status _ p)
    · rw [← he, hclear]
      exact hregions.trans hstart.2.1
    · rw [← he, hclear]
      exact hfifos.trans hstart.2.2.1
    · rw [← he, hclear]
      exact hdies.trans hstart.2.2.2
  have hdark : b.SameStatus (if e.flag (R.MAC_PORT_CFG p) F.MAC_PORT_CFG_ENABLE then e.portDark p else e) ∧
      (if e.flag (R.MAC_PORT_CFG p) F.MAC_PORT_CFG_ENABLE then e.portDark p else e).regions = b.regions ∧
      (if e.flag (R.MAC_PORT_CFG p) F.MAC_PORT_CFG_ENABLE then e.portDark p else e).fifos = b.fifos ∧
      (if e.flag (R.MAC_PORT_CFG p) F.MAC_PORT_CFG_ENABLE then e.portDark p else e).dies = b.dies := by
    split
    · obtain ⟨h, h', h'', h'''⟩ := e.portDark_keeps p
      exact ⟨hcleared.1.trans h, h'.trans hcleared.2.1, h''.trans hcleared.2.2.1, h'''.trans hcleared.2.2.2⟩
    · exact hcleared
  unfold Block.dropPort
  dsimp only
  rw [hc, he]
  refine ⟨hdark.1.setFld (by unfold R.MAC_PAUSE_STATUS macBase; omega) _ _, ?_, ?_, ?_⟩
  · rw [Block.setFld_regions, hdark.2.1]
  · rw [Block.setFld_fifos, hdark.2.2.1]
  · rw [Block.setFld_dies, hdark.2.2.2]

/-! ## The Gleaner and the fragment tables -/

theorem Block.emptyGleaner_tells (b : Block) (e : Nat) : (b.emptyGleaner e).regs = b.regs ∧ (b.emptyGleaner e).regions = b.regions ∧
    (b.emptyGleaner e).fifos = b.fifos ∧ ((b.emptyGleaner e).engine e).glQueue = [] ∧ (b.emptyGleaner e).dies = b.dies := by
  have hq : ((b.modEngine e fun x => { x with glQueue := [] }).engine e).glQueue = [] := by rw [Block.engine_modEngine, if_pos rfl]
  unfold Block.emptyGleaner
  dsimp only
  split
  · exact ⟨rfl, rfl, rfl, hq, rfl⟩
  · refine ⟨?_, ?_, ?_, ?_, ?_⟩
    · rw [Block.sendLimited_regs, Block.count_regs, Block.modEngine_regs]
    · rw [Block.sendLimited_regions, Block.count_regions, Block.modEngine_regions]
    · rw [Block.sendLimited_fifos, Block.count_fifos, Block.modEngine_fifos]
    · rw [Block.sendLimited_engine, Block.count_engine, hq]
    · rw [Block.sendLimited_dies, Block.count_dies, Block.modEngine_dies]

theorem Block.freeFrags_tells (b : Block) (e : Nat) : (∃ cl, b.freeFrags e = { b with clusters := cl }) ∧
    ∀ k, k < 8 → ((b.freeFrags e).cluster (8 * e + k)).frags = [] := by
  refine ⟨Block.each_inv (P := fun c => ∃ cl, c = { b with clusters := cl }) ⟨_, rfl⟩ fun c k _ h => ?_, fun k hk => ?_⟩
  · obtain ⟨cl, rfl⟩ := h
    exact ⟨_, rfl⟩
  refine Block.each_turn hk (I := fun _ => True) (P := fun c => (c.cluster (8 * e + k)).frags = []) trivial (fun _ _ _ _ => trivial)
    (fun c _ => ?_) fun c j _ _ h => ?_
  · rw [Block.cluster_modCluster, if_pos rfl]
  · rw [Block.cluster_modCluster]
    split
    · rfl
    · exact h

end Sys2Proof.Machine
end

section
/-!
PROOFS. A Hold entry as a whole, the end of entry and the exit (R495, R496, R498, R499).
-/
namespace Sys2Proof.Machine
open Sys2Proof

variable {b c : Block} {e : Nat}

/-! ## HOLD_ENTRY -/

/-- The frames, fences and transmit rings of die e are lost. -/
def Block.loseDie (b : Block) (e : Nat) : Block :=
  let b := ((((b.modDie e fun x => { x with dropped := 0 }).holdTx e).loseFrames e).fencesHeld e)
  (b.framesOf fun f => f.loc == .llWait).foldl (fun b x => b.stopWaiting e x.1) b

theorem Block.loseFrames_status (b : Block) (e : Nat) : b.SameStatus (b.loseFrames e) := by
  unfold Block.loseFrames
  exact .of_regs (Block.holdLost_regs ..)

theorem Block.loseDie_status (he : e < 4) (b : Block) : b.SameStatus (b.loseDie e) := by
  have hfences (c : Block) : c.SameStatus (c.fencesHeld e) := (Block.SameStatus.refl c).each _ fun c _ => c.fenceEnd_status he _ _
  have hstart : b.SameStatus (b.modDie e fun x => { x with dropped := 0 }) := .of_regs rfl
  unfold Block.loseDie
  exact (((hstart.trans (Block.holdTx_status _ e)).trans (Block.loseFrames_status _ e)).trans (hfences _)).foldl _ fun c x _ => c.stopWaiting_status e x.1

/-- The source FIFOs toward die e, and its own, are emptied. -/
def Block.flushDie (b : Block) (e : Nat) : Block :=
  ((List.range 8).filter fun G => G / 2 != e).foldl (fun b G => b.flushAway e G)
    ((regionsOf e).foldl (fun b G => (List.range 5).foldl (fun b i => b.flushToward e G i) b) b)

theorem Block.flushDie_regs (b : Block) (e : Nat) : (b.flushDie e).regs = b.regs := by
  have htoward (c : Block) (G : Nat) : ((List.range 5).foldl (fun b i => b.flushToward e G i) c).regs = c.regs :=
    foldl_keeps c (g := Block.regs) (fun c i => (c.flushToward_tells e G i).2) _
  exact (foldl_keeps _ (g := Block.regs) (fun c G => (c.flushAway_tells e G).1) _).trans (foldl_keeps b (g := Block.regs) htoward _)

theorem mem_regionsOf {G : Nat} : G ∈ regionsOf e ↔ G = 2 * e ∨ G = 2 * e + 1 := by simp [regionsOf]

theorem Block.flushDie_empties {i G : Nat} (hi : i < 4) (hG : G ∈ regionsOf e) : (b.flushDie e).fifo i G = [] := by
  refine foldl_inv (P := fun c => c.fifo i G = []) _ ?_ fun c H _ h => (c.flushAway_tells e H).2 i G h
  exact foldl_all (f := fun b G => (List.range 5).foldl (fun b i => b.flushToward e G i) b) (Q := fun G c => c.fifo i G = [])
    (fun c G => Block.flushRegion_empties hi c e G) (fun c G H h => Block.flushRegion_keeps h e G) _ (.inl hG)

/-- The regions of die e are emptied. -/
def Block.voidDie (b : Block) (e : Nat) : Block := (regionsOf e).foldl (fun b G => b.voidRegion e G) b

/-- From b to c the source FIFOs stand, and the words at HOLD_STATUS. -/
def Block.SameFifos (b c : Block) : Prop := b.SameStatus c ∧ c.fifos = b.fifos

theorem Block.voidRegion_sameFifos (b : Block) (e G : Nat) : b.SameFifos (b.voidRegion e G) :=
  ⟨.of_regs (b.voidRegion_tells e G).1, (b.voidRegion_tells e G).2.1⟩
theorem Block.SameFifos.trans {b c d : Block} (h : b.SameFifos c) (h' : c.SameFifos d) : b.SameFifos d := ⟨h.1.trans h'.1, h'.2.trans h.2⟩

theorem Block.voidDie_sameFifos (b : Block) (e : Nat) : b.SameFifos (b.voidDie e) :=
  foldl_inv (f := fun b G => b.voidRegion e G) (P := b.SameFifos) _ ⟨.refl b, rfl⟩ fun c G _ h => h.trans (c.voidRegion_sameFifos e G)
theorem Block.voidDie_hollow (b : Block) {G : Nat} (hG : G ∈ regionsOf e) : (b.voidDie e).hollow G :=
  foldl_all (f := fun b G => b.voidRegion e G) (Q := fun G c => c.hollow G) (fun c G => (c.voidRegion_tells e G).2.2.1)
    (fun c G H h => (c.voidRegion_tells e G).2.2.2 H h) _ (.inl hG)

theorem Block.dropPorts_keeps (b : Block) (e : Nat) :
    b.SameStatus (b.each 64 fun b k => b.dropPort (64 * e + k)) ∧ (b.each 64 fun b k => b.dropPort (64 * e + k)).regions = b.regions ∧
      (b.each 64 fun b k => b.dropPort (64 * e + k)).fifos = b.fifos := by
  refine Block.each_inv (P := fun c => b.SameStatus c ∧ c.regions = b.regions ∧ c.fifos = b.fifos) ⟨.refl b, rfl, rfl⟩ fun c k _ h => ?_
  obtain ⟨h1, h2, h3⟩ := h
  obtain ⟨k1, k2, k3, -⟩ := c.dropPort_keeps (64 * e + k)
  exact ⟨h1.trans k1, k2.trans h2, k3.trans h3⟩

/-- All that an entry empties, before it shows. -/
def Block.emptyDie (b : Block) (e : Nat) : Block :=
  ((((((b.loseDie e).flushDie e).voidDie e).each 64 fun b k => b.dropPort (64 * e + k)).emptyGleaner e).freeFrags e)

theorem Block.emptyDie_tells (he : e < 4) (b : Block) : b.SameStatus (b.emptyDie e) ∧ (∀ k, k < 8 → ((b.emptyDie e).cluster (8 * e + k)).frags = []) ∧
    ((b.emptyDie e).engine e).glQueue = [] ∧
    ∀ G, G ∈ regionsOf e → (b.emptyDie e).hollow G ∧ ∀ i, i < 4 → (b.emptyDie e).fifo i G = [] := by
  obtain ⟨hvstatus, hvfifos⟩ := ((b.loseDie e).flushDie e).voidDie_sameFifos e
  have hvoid (G : Nat) (hG : G ∈ regionsOf e) := ((b.loseDie e).flushDie e).voidDie_hollow hG
  have hstatus := ((Block.loseDie_status he b).trans (.of_regs ((b.loseDie e).flushDie_regs e))).trans hvstatus
  have hfifo (i G : Nat) (hi : i < 4) (hG : G ∈ regionsOf e) : (((b.loseDie e).flushDie e).voidDie e).fifo i G = [] := by
    rw [Block.fifo_of_fifos hvfifos]
    exact Block.flushDie_empties hi hG
  obtain ⟨c, hc⟩ : ∃ c, ((b.loseDie e).flushDie e).voidDie e = c := ⟨_, rfl⟩
  rw [hc] at hstatus hfifo hvoid
  obtain ⟨hpstatus, hpregions, hpfifos⟩ := c.dropPorts_keeps e
  obtain ⟨f, hf⟩ : ∃ f, (c.each 64 fun b k => b.dropPort (64 * e + k)) = f := ⟨_, rfl⟩
  rw [hf] at hpstatus hpregions hpfifos
  obtain ⟨hgregs, hgregions, hgfifos, hgleaner, -⟩ := f.emptyGleaner_tells e
  obtain ⟨g, hg⟩ : ∃ g, f.emptyGleaner e = g := ⟨_, rfl⟩
  rw [hg] at hgregs hgregions hgfifos hgleaner
  obtain ⟨⟨cl, honly⟩, hfrags⟩ := g.freeFrags_tells e
  have ht : b.emptyDie e = g.freeFrags e := by rw [Block.emptyDie, hc, hf, hg]
  rw [ht]
  refine ⟨((hstatus.trans hpstatus).trans (.of_regs hgregs)).trans (.of_regs (by rw [honly])), hfrags, by rw [honly]; exact hgleaner, fun G hG => ⟨?_, fun i hi => ?_⟩⟩
  · have hregion : (g.freeFrags e).region G = c.region G := Block.region_of_regions (by rw [honly]; exact hgregions.trans hpregions) G
    rw [Block.hollow, hregion]
    exact hvoid G hG
  · rw [Block.fifo_of_fifos (b := c) (by rw [honly]; exact hgfifos.trans hpfifos)]
    exact hfifo i G hi hG

theorem Block.holdEntry_eq (b : Block) (e : Nat) : b.holdEntry e =
    ((b.emptyDie e).setFld (R.DIE_HOLD_STATUS e) F.DIE_HOLD_STATUS_ENTRIES (sat 65535 ((b.emptyDie e).fld (R.DIE_HOLD_STATUS e) F.DIE_HOLD_STATUS_ENTRIES + 1))).modDie e
      fun x => { x with phase := .parking, srAt := SMap.set 0 (SMap.set 0 x.srAt 0 (b.emptyDie e).ticks) 1 (b.emptyDie e).ticks } := by
  unfold Block.holdEntry
  rfl

end Sys2Proof.Machine
end

section
/-!
PROOFS. HOLD_ENTRY, HOLD_ENTER and HOLD_EXIT, and Hold as a whole (R491 to R499).
-/
namespace Sys2Proof.Machine
open Sys2Proof

variable {b c : Block} {e : Nat}

/-! ## HOLD_ENTRY -/

/-- What an entry leaves of die e. -/
def Block.Emptied (n e : Nat) (t : Block) : Prop :=
  (t.die e).phase = .parking ∧ t.fld (R.DIE_HOLD_STATUS e) F.DIE_HOLD_STATUS_ENTRIES = min 65535 (n + 1) ∧
    (∀ k, k < 8 → (t.cluster (8 * e + k)).frags = []) ∧ (t.engine e).glQueue = [] ∧
    ∀ G, G = 2 * e ∨ G = 2 * e + 1 → (t.region G).stored = [] ∧ (t.region G).queues = [] ∧ (t.region G).groups = [] ∧
      ∀ i, i < 4 → t.fifo i G = []

theorem Block.holdEntry_tells (he : e < 4) (b : Block) :
    Block.Emptied (b.fld (R.DIE_HOLD_STATUS e) F.DIE_HOLD_STATUS_ENTRIES) e (b.holdEntry e) := by
  obtain ⟨hstatus, hfrags, hgleaner, hregions⟩ := Block.emptyDie_tells he b
  have hentries := hstatus.fld e F.DIE_HOLD_STATUS_ENTRIES
  rw [Block.holdEntry_eq]
  obtain ⟨c, hc⟩ : ∃ c, b.emptyDie e = c := ⟨_, rfl⟩
  rw [hc] at hentries hfrags hgleaner hregions ⊢
  obtain ⟨rs, hset⟩ := c.setFld_regs (R.DIE_HOLD_STATUS e) F.DIE_HOLD_STATUS_ENTRIES (sat 65535 (c.fld (R.DIE_HOLD_STATUS e) F.DIE_HOLD_STATUS_ENTRIES + 1))
  refine ⟨?_, ?_, ?_⟩
  · rw [Block.die_modDie_same]
  · rw [Block.modDie_fld, Block.fld_setFld_same _ _ _ _ (by decide) (by decide), hentries, sat_eq_min]
    exact Nat.mod_eq_of_lt (lt_of_le_of_lt (min_le_left _ _) (by decide))
  · rw [hset]
    refine ⟨hfrags, hgleaner, fun G hG => ?_⟩
    obtain ⟨⟨h, h', h''⟩, hfifo⟩ := hregions G (mem_regionsOf.mpr hG)
    exact ⟨h, h', h'', hfifo⟩

theorem takes_holdEntry (d : Fin 4) : Takes (.holdEntry d) b (b.holdEntryRow d.val) := fun _ => rfl

theorem Block.holdEntryRow_of_not (h : (b.die e).phase ≠ .window ∨ b.ticks < (b.die e).holdAt + 16) : b.holdEntryRow e = b := by
  unfold Block.holdEntryRow
  rw [if_neg]
  rcases h with h | h
  · simp [h]
  · simp [Nat.not_le.mpr h]

theorem Block.pinCheck_of_window (hp : (b.die e).phase = .window) :
    b.pinCheck e = b ∨ b.pinCheck e = b.modDie e fun x => { x with release := true } := by
  cases hpin : b.pinLevel e
  · exact .inl (Block.pinCheck_of_off hpin)
  · rw [Block.pinCheck_of_on hpin]
    cases hl : b.latchH e
    · exact .inl (Block.level_of_free hl)
    · exact .inr (Block.level_of_entering hl (.inl hp))

theorem Block.holdEntryRow_tells (he : e < 4) (hp : (b.die e).phase = .window) (hnow : (b.die e).holdAt + 16 ≤ b.ticks) :
    Block.Emptied (b.fld (R.DIE_HOLD_STATUS e) F.DIE_HOLD_STATUS_ENTRIES) e (b.holdEntryRow e) := by
  have hrow : b.holdEntryRow e = (b.pinCheck e).holdEntry e := by
    unfold Block.holdEntryRow
    rw [if_pos (by simp [hp, hnow])]
  rw [hrow]
  rcases Block.pinCheck_of_window hp with h | h
  · rw [h]
    exact Block.holdEntry_tells he b
  · have hentry := Block.holdEntry_tells he (b.modDie e fun x => { x with release := true })
    rw [Block.modDie_fld] at hentry
    rwa [h]

/-! ## HOLD_ENTER -/

theorem Block.modDie_hold (b : Block) (e : Nat) (f : Die → Die) : b.OnHold e (b.modDie e f) := (Block.OnHold.refl e b).modDie f

/-- The die is held: the request stands. -/
theorem Block.holdEnter_stays (hp : (b.die e).phase = .parking) (hall : b.allParked e = true) (hr : (b.die e).resetting = false)
    (hrel : (b.die e).release = false) (hpin : b.pinLevel e = false) (hwanted : b.latchH e = true ∨ b.alone e = false) :
    let t := b.holdEnter e
    t.die e = { b.die e with phase := .held } ∧ t.flag (R.DIE_HOLD_STATUS e) F.DIE_HOLD_STATUS_HELD = true ∧
      t.flag (R.DIE_HOLD_STATUS e) F.DIE_HOLD_STATUS_ENTERING = false ∧ t.inflight = (b.send 6 e 0x04 (b.die e).cause).inflight ∧
      t.frames = b.frames ∧ ∃ r, t.records = b.records ++ [r] ∧ r.typ = 5 ∧ r.die = e := by
  intro t
  obtain ⟨hdie, hheld, henter, hlatch, hring, hpin', hsent, hframes, hrec⟩ := b.heldNow_tells e
  obtain ⟨c, hc⟩ : ∃ c, b.heldNow e = c := ⟨_, rfl⟩
  rw [hc] at hdie hheld henter hlatch hring hpin' hsent hframes hrec
  have hsame : c.die e = { b.die e with phase := .held, release := false } := by rw [hdie, ← hrel]
  have hmod : (c.modDie e fun x => { x with release := false }).die e = c.die e := by rw [Block.die_modDie_same, hsame]
  have ht : t = c.modDie e fun x => { x with release := false } := by
    rw [show t = b.holdEnter e from rfl, Block.holdEnter_of_parked hp hall hr, hc, hpin', hpin, hrel, if_neg (by decide)]
    refine Block.recheck_of_wanted (.inr ?_)
    rw [Block.wanted, Block.latchH, Block.modDie_flag, Block.modDie_word, hmod, ← Block.latchH, hlatch, hring, hdie]
    rcases hwanted with h | h
    · simp [h]
    · rw [Block.alone, hr] at h
      simp only [Bool.not_false, Bool.and_true, Bool.not_eq_false'] at h
      simp [h]
  rw [ht]
  exact ⟨hmod.trans hdie, hheld, henter, hsent, hframes, hrec⟩

/-- A release that came while the contexts parked takes effect. -/
theorem Block.holdEnter_leaves (hp : (b.die e).phase = .parking) (hall : b.allParked e = true) (hr : (b.die e).resetting = false)
    (hrel : (b.die e).release = true ∨ b.pinLevel e = true) (halone : b.alone e = true) :
    b.Leaves e (b.holdEnter e) ∧ (b.holdEnter e).flag (R.DIE_HOLD_STATUS e) F.DIE_HOLD_STATUS_HELD = true ∧
      (b.holdEnter e).inflight = (b.send 6 e 0x04 (b.die e).cause).inflight := by
  obtain ⟨hdie, hheld, -, hlatch, hring, hpin', hsent, hframes, -⟩ := b.heldNow_tells e
  obtain ⟨c, hc⟩ : ∃ c, b.heldNow e = c := ⟨_, rfl⟩
  rw [hc] at hdie hheld hlatch hring hpin' hsent hframes
  obtain ⟨hclear, hfree, hdies⟩ := c.clearH_tells e
  have hkept : (c.clearH e).flag (R.DIE_HOLD_STATUS e) F.DIE_HOLD_STATUS_HELD = true := by
    rw [Block.clearH, Block.lower, Block.flag_apart _ _ _ _ (by decide), hheld]
  have hcdie : (c.clearH e).die e = { b.die e with phase := .held } := by rw [Block.die, hdies, ← Block.die, hdie]
  obtain ⟨f, hf⟩ : ∃ f, c.clearH e = f := ⟨_, rfl⟩
  rw [hf] at hclear hfree hkept hcdie
  obtain ⟨g, hg⟩ : ∃ g, f.modDie e (fun x => { x with release := false }) = g := ⟨_, rfl⟩
  have hgdie : g.die e = { b.die e with phase := .held, release := false } := by rw [← hg, Block.die_modDie_same, hcdie]
  have hghold : c.OnHold e g := hg ▸ hclear.modDie _
  have hgflag (x : Bf) : g.flag (R.DIE_HOLD_STATUS e) x = f.flag (R.DIE_HOLD_STATUS e) x := by rw [← hg]; rfl
  have ht : b.holdEnter e = g.startExit e := by
    rw [Block.holdEnter_of_parked hp hall hr, hc, hpin', if_pos (by rcases hrel with h | h <;> simp [h]), hf, hg]
    refine Block.recheck_of_free (by rw [hgdie]) ?_
    rw [Block.wanted_of_clear (by rw [Block.latchH, hgflag]; exact hfree), Block.alone, hghold.ringHold, hring, hgdie]
    exact congrArg (!·) halone
  obtain ⟨hnew, hexit, hl, hh, hold⟩ := g.startExit_tells e
  rw [ht]
  refine ⟨⟨by rw [hnew, hgdie], hl.trans ((hgflag _).trans hfree), hexit, (hghold.trans hold).frames.trans hframes⟩, hh.trans ((hgflag _).trans hkept),
    (hghold.trans hold).inflight.trans hsent⟩

/-! ## HOLD_EXIT -/

theorem takes_holdExit (d : Fin 4) : Takes (.holdExit d) b (b.holdExit d.val) := fun _ => rfl

/-- What the exit restores, before the ports come up. -/
def Block.restored (b : Block) (e : Nat) : Block :=
  let s := R.DIE_HOLD_STATUS e
  let b := (b.lower s F.DIE_HOLD_STATUS_HELD).lower s F.DIE_HOLD_STATUS_EXITING
  let b := (b.setWord (R.HBM_SR_STATUS e) 0).modDie e fun x => { x with phase := .idle, srAt := [], release := false }
  let b := (regionsOf e).foldl (fun b G => b.modRegion G fun g => { g with shapers := g.shapers.map fun x => (x.1, x.2.fill) }) b
  let b := b.each 3 fun b i => b.setLink e (otherDie e i) { trained := true }
  (b.send 6 e 0x05 0).traceHold e 2 0 0

theorem Block.resume_eq (b : Block) (e : Nat) : b.resume e = (b.restored e).each 64 fun b k => b.bringUp (64 * e + k) := by
  unfold Block.resume
  rfl

theorem Block.refilled (b : Block) (e : Nat) :
    ∃ rg, (regionsOf e).foldl (fun b G => b.modRegion G fun g => { g with shapers := g.shapers.map fun x => (x.1, x.2.fill) }) b = { b with regions := rg } :=
  foldl_inv (P := fun c => ∃ rg, c = { b with regions := rg }) _ ⟨_, rfl⟩ fun c G _ h => by
    obtain ⟨rg, rfl⟩ := h
    exact ⟨_, rfl⟩

theorem Block.reopened (b : Block) (e : Nat) :
    ∃ ls, b.each 3 (fun b i => b.setLink e (otherDie e i) { trained := true }) = { b with links := ls } :=
  Block.each_inv (P := fun c => ∃ ls, c = { b with links := ls }) ⟨_, rfl⟩ fun c k _ h => by
    obtain ⟨ls, rfl⟩ := h
    exact ⟨_, rfl⟩

theorem Block.restored_tells (b : Block) (e : Nat) :
    (b.restored e).die e = { b.die e with phase := .idle, srAt := [], release := false } ∧ (b.restored e).ticks = b.ticks ∧
      (b.restored e).flag (R.DIE_HOLD_STATUS e) F.DIE_HOLD_STATUS_HELD = false ∧
      (b.restored e).flag (R.DIE_HOLD_STATUS e) F.DIE_HOLD_STATUS_EXITING = false ∧ (b.restored e).latchH e = b.latchH e ∧
      (b.restored e).word (R.HBM_SR_STATUS e) = 0 ∧
      ∀ a, a ≠ R.DIE_HOLD_STATUS e → a ≠ R.HBM_SR_STATUS e → (b.restored e).word a = b.word a := by
  obtain ⟨c, hc⟩ : ∃ c, (b.lower (R.DIE_HOLD_STATUS e) F.DIE_HOLD_STATUS_HELD).lower (R.DIE_HOLD_STATUS e) F.DIE_HOLD_STATUS_EXITING = c := ⟨_, rfl⟩
  have hhold : b.OnHold e c := hc ▸ ((Block.OnHold.refl e b).setFld _ _).setFld _ _
  have hcdie : c.die e = b.die e := by rw [← hc, Block.lower_die, Block.lower_die]
  have hheld : c.flag (R.DIE_HOLD_STATUS e) F.DIE_HOLD_STATUS_HELD = false := by
    rw [← hc, Block.lower, Block.flag_apart _ _ _ _ (by decide)]
    exact Block.flag_lower _ _ _ (by decide) (by decide)
  have hexit : c.flag (R.DIE_HOLD_STATUS e) F.DIE_HOLD_STATUS_EXITING = false := by
    rw [← hc]
    exact Block.flag_lower _ _ _ (by decide) (by decide)
  have hlatch : c.latchH e = b.latchH e := by
    rw [Block.latchH, ← hc, Block.lower, Block.flag_apart _ _ _ _ (by decide), Block.lower, Block.flag_apart _ _ _ _ (by decide), ← Block.latchH]
  obtain ⟨g, hg⟩ : ∃ g, (c.setWord (R.HBM_SR_STATUS e) 0).modDie e (fun x => { x with phase := .idle, srAt := [], release := false }) = g := ⟨_, rfl⟩
  have hgdie : g.die e = { b.die e with phase := .idle, srAt := [], release := false } := by
    rw [← hg, Block.die_modDie_same, Block.setWord_die, hcdie]
  have hgword (a : Nat) : g.word a = if a = R.HBM_SR_STATUS e then 0 else c.word a := by
    rw [← hg, Block.modDie_word, Block.word_setWord]
    rfl
  have hgticks : g.ticks = b.ticks := by
    rw [← hg, Block.modDie_ticks, Block.setWord_ticks, hhold.ticks]
  have hne : R.DIE_HOLD_STATUS e ≠ R.HBM_SR_STATUS e := by unfold R.DIE_HOLD_STATUS R.HBM_SR_STATUS hbmBase dieBase; omega
  obtain ⟨rg, hrefill⟩ := g.refilled e
  obtain ⟨ls, hlinks⟩ := Block.reopened { g with regions := rg } e
  have ht : b.restored e = (({ g with regions := rg, links := ls } : Block).send 6 e 0x05 0).traceHold e 2 0 0 := by
    rw [Block.restored, hc, hg, hrefill, hlinks]
  obtain ⟨k, hk⟩ : ∃ k : Block, { g with regions := rg, links := ls } = k := ⟨_, rfl⟩
  have hkg : k.die e = g.die e ∧ k.ticks = g.ticks ∧ ∀ a, k.word a = g.word a := by
    rw [← hk]
    exact ⟨rfl, rfl, fun _ => rfl⟩
  obtain ⟨hkdie, hkticks, hkword⟩ := hkg
  have htword (a : Nat) : (b.restored e).word a = if a = R.HBM_SR_STATUS e then 0 else c.word a := by
    rw [ht, hk, Block.traceHold, Block.trace_word, Block.send_word, hkword, hgword]
  have htflag (f : Bf) : (b.restored e).flag (R.DIE_HOLD_STATUS e) f = c.flag (R.DIE_HOLD_STATUS e) f := by
    rw [Block.flag, Block.fld, htword, if_neg hne, ← Block.fld, ← Block.flag]
  refine ⟨?_, ?_, (htflag _).trans hheld, (htflag _).trans hexit, (htflag _).trans hlatch, ?_, fun a ha ha' => ?_⟩
  · rw [ht, hk, Block.traceHold, Block.trace_die, Block.send_die, hkdie, hgdie]
  · rw [ht, hk, Block.traceHold, Block.trace_ticks, Block.send_ticks, hkticks, hgticks]
  · rw [htword, if_pos rfl]
  · rw [htword, if_neg ha', hhold.word a ha]

/-- From b to c only what a bring-up sets has changed. -/
structure Block.OnBring (b c : Block) : Prop where
  only : ∃ rs ps o, c = { b with regs := rs, ports := ps, out := o }
  word : ∀ a, a % 0x1000 ≠ 0x14 → a % 0x800 ≠ 0x10 → c.word a = b.word a

theorem Block.OnBring.of_bringUp (b : Block) (p : Nat) : b.OnBring (b.bringUp p) :=
  ⟨(b.bringUp_sets p).only, fun a ha ha' => (b.bringUp_sets p).word (bringFlds_ne (by unfold R.MAC_LINK_STATUS macBase; omega)
    fun n => by unfold R.LANE_STATUS laneBase; omega)⟩
theorem Block.OnBring.trans {b c d : Block} (h : b.OnBring c) (h' : c.OnBring d) : b.OnBring d := by
  refine ⟨?_, fun a ha ha' => (h'.word a ha ha').trans (h.word a ha ha')⟩
  obtain ⟨rs, ps, o, rfl⟩ := h.only
  obtain ⟨rs', ps', o', rfl⟩ := h'.only
  exact ⟨_, _, _, rfl⟩

theorem Block.bringUps_tells (b : Block) (n m : Nat) : b.OnBring (b.each n fun b k => b.bringUp (m + k)) :=
  Block.each_inv (P := b.OnBring) ⟨⟨_, _, _, rfl⟩, fun _ _ _ => rfl⟩ fun c _ _ h => h.trans (.of_bringUp c _)

theorem Block.resume_tells (b : Block) (e : Nat) :
    let t := b.resume e
    t.die e = { b.die e with phase := .idle, srAt := [], release := false } ∧ t.ticks = b.ticks ∧
      t.flag (R.DIE_HOLD_STATUS e) F.DIE_HOLD_STATUS_HELD = false ∧ t.flag (R.DIE_HOLD_STATUS e) F.DIE_HOLD_STATUS_EXITING = false ∧
      t.latchH e = b.latchH e ∧ t.word (R.HBM_SR_STATUS e) = 0 ∧ t.word R.CHN_RING_HOLD = b.word R.CHN_RING_HOLD ∧ t.started = b.started := by
  intro t
  obtain ⟨hdie, hticks, hheld, hexit, hlatch, hsr, hword⟩ := b.restored_tells e
  obtain ⟨c, hc⟩ : ∃ c, b.restored e = c := ⟨_, rfl⟩
  have ht : t = c.each 64 fun b k => b.bringUp (64 * e + k) := by rw [show t = b.resume e from rfl, b.resume_eq, hc]
  rw [hc] at hdie hticks hheld hexit hlatch hsr hword
  have hbring := c.bringUps_tells 64 (64 * e)
  rw [← ht] at hbring
  obtain ⟨rs, ps, o, honly⟩ := hbring.only
  have hs : t.word (R.DIE_HOLD_STATUS e) = c.word (R.DIE_HOLD_STATUS e) :=
    hbring.word _ (by unfold R.DIE_HOLD_STATUS dieBase; omega) (by unfold R.DIE_HOLD_STATUS dieBase; omega)
  have hflag (f : Bf) : t.flag (R.DIE_HOLD_STATUS e) f = c.flag (R.DIE_HOLD_STATUS e) f := by
    rw [Block.flag, Block.fld_of_word hs, ← Block.flag]
  refine ⟨?_, ?_, (hflag _).trans hheld, (hflag _).trans hexit, (hflag _).trans hlatch, ?_, ?_, ?_⟩
  · rw [honly]
    exact hdie
  · rw [honly]
    exact hticks
  · exact (hbring.word _ (by unfold R.HBM_SR_STATUS hbmBase dieBase; omega) (by unfold R.HBM_SR_STATUS hbmBase dieBase; omega)).trans hsr
  · exact (hbring.word _ (by decide) (by decide)).trans (hword _ (by unfold R.CHN_RING_HOLD chnBase R.DIE_HOLD_STATUS dieBase; omega)
      (by unfold R.CHN_RING_HOLD chnBase R.HBM_SR_STATUS hbmBase dieBase; omega))
  · exact Block.started_congr ((hbring.word _ (by decide) (by decide)).trans (hword _ (by unfold R.BOOT_STATUS bootBase R.DIE_HOLD_STATUS dieBase; omega)
      (by unfold R.BOOT_STATUS bootBase R.HBM_SR_STATUS hbmBase dieBase; omega)))

theorem Block.holdExit_of_not (h : (b.die e).phase ≠ .exiting) : b.holdExit e = b := by
  unfold Block.holdExit
  rw [if_pos (by simpa using h)]

theorem Block.holdExit_of_exiting (h : (b.die e).phase = .exiting) : b.holdExit e = (b.resume e).enterAgain e := by
  unfold Block.holdExit
  rw [if_neg (by simp [h])]

/-- A die that nothing requests stands outside Hold. -/
theorem Block.holdExit_frees (h : (b.die e).phase = .exiting) (hl : b.latchH e = false) (halone : b.alone e = true) :
    let t := b.holdExit e
    (t.die e).phase = .idle ∧ t.flag (R.DIE_HOLD_STATUS e) F.DIE_HOLD_STATUS_HELD = false ∧
      t.flag (R.DIE_HOLD_STATUS e) F.DIE_HOLD_STATUS_EXITING = false ∧ t.word (R.HBM_SR_STATUS e) = 0 := by
  intro t
  obtain ⟨hdie, -, hheld, hexit, hlatch, hsr, hring, -⟩ := b.resume_tells e
  obtain ⟨c, hc⟩ : ∃ c, b.resume e = c := ⟨_, rfl⟩
  rw [hc] at hdie hheld hexit hlatch hsr hring
  have hfree : c.latchH e = false := hlatch.trans hl
  have hr : (c.die e).resetting = false := by
    rw [Block.alone] at halone
    rw [hdie]
    simp_all
  have hwanted : c.wanted e = false := by
    rw [Block.wanted_of_clear hfree, Block.alone, hring, hdie]
    exact congrArg (!·) halone
  have ht : t = c := by
    rw [show t = b.holdExit e from rfl, Block.holdExit_of_exiting h, hc, Block.enterAgain, hr, hfree, hwanted]
    rfl
  rw [ht]
  exact ⟨by rw [hdie], hheld, hexit, hsr⟩

/-- A die that is still requested enters anew. -/
theorem Block.holdExit_enters (h : (b.die e).phase = .exiting) (hl : b.latchH e = true) (hr : (b.die e).resetting = false) (hstart : b.started = true) :
    let t := b.holdExit e
    (t.die e).phase = .window ∧ (t.die e).holdAt = b.ticks ∧ t.flag (R.DIE_HOLD_STATUS e) F.DIE_HOLD_STATUS_HELD = false ∧
      t.flag (R.DIE_HOLD_STATUS e) F.DIE_HOLD_STATUS_ENTERING = true := by
  intro t
  obtain ⟨hdie, hticks, hheld, -, hlatch, -, -, hstarted⟩ := b.resume_tells e
  obtain ⟨c, hc⟩ : ∃ c, b.resume e = c := ⟨_, rfl⟩
  rw [hc] at hdie hticks hheld hlatch hstarted
  have hr' : (c.die e).resetting = false := by rw [hdie, hr]
  have hcause : (if c.flag (R.DIE_HOLD_STATUS e) F.DIE_HOLD_STATUS_ESCALATED then holdByFault else holdByReg) ≠ holdByReset := holdCause_ne _
  obtain ⟨m, hm⟩ : ∃ m, (if c.flag (R.DIE_HOLD_STATUS e) F.DIE_HOLD_STATUS_ESCALATED then holdByFault else holdByReg) = m := ⟨_, rfl⟩
  rw [hm] at hcause
  have hentry := Block.startEntry_of_idle (hstarted.trans hstart) (by rw [hdie]) hcause
  obtain ⟨g, hg⟩ : ∃ g, c.startEntry e m = g := ⟨_, rfl⟩
  rw [hg] at hentry
  have hgdie : (g.die e).phase = .window ∧ (g.die e).holdAt = b.ticks := by
    rw [hentry, Block.raise_die, Block.die_modDie_same, ← hticks]
    exact ⟨rfl, rfl⟩
  have hgheld : g.flag (R.DIE_HOLD_STATUS e) F.DIE_HOLD_STATUS_HELD = false := by
    rw [hentry, Block.raise, Block.flag_apart _ _ _ _ (by decide)]
    exact hheld
  have hgenter : g.flag (R.DIE_HOLD_STATUS e) F.DIE_HOLD_STATUS_ENTERING = true := by
    rw [hentry]
    exact Block.flag_raise _ _ _ (by decide) (by decide)
  have ht : t = g.pinCheck e := by
    rw [show t = b.holdExit e from rfl, Block.holdExit_of_exiting h, hc, Block.enterAgain, hr', if_neg Bool.false_ne_true, if_pos (hlatch.trans hl), hm, hg]
  rw [ht]
  rcases Block.pinCheck_of_window hgdie.1 with hpin | hpin
  · rw [hpin]
    exact ⟨hgdie.1, hgdie.2, hgheld, hgenter⟩
  · rw [hpin, Block.die_modDie_same]
    exact ⟨hgdie.1, hgdie.2, hgheld, hgenter⟩

end Sys2Proof.Machine
end

section
/-!
PROOFS. Hold requests, releases, entry and exit: the obligation (R491 to R499).
-/
namespace Sys2Proof.Machine
open Sys2Proof

variable {b : Block}

/-- A level-type release by the pin stands for die e. -/
theorem Block.pinLevel_iff {e : Nat} : b.pinLevel e = true ↔
    b.relPin = true ∧ b.flag (R.DIE_HOLD_CFG e) F.DIE_HOLD_CFG_PIN_MODE = true ∧ b.flag (R.DIE_HOLD_CFG e) F.DIE_HOLD_CFG_REL_PIN_EN = true := by
  simp [Block.pinLevel, and_assoc]

theorem Block.alone_iff {e : Nat} : b.alone e = true ↔ ¬ (bitOf (b.word R.CHN_RING_HOLD) e = true ∨ (b.die e).resetting = true) := by
  simp [Block.alone]

theorem Block.holdWrite_of_none {w : Writer} {e v : Nat} (h : F.DIE_HOLD_CTRL_HOLD.of v = 0) : b.holdWrite w e v = b := by simp [Block.holdWrite, h]
theorem Block.releaseWrite_of_none {w : Writer} {e v : Nat} (h : F.DIE_HOLD_CTRL_RELEASE.of v = 0) : b.releaseWrite w e v = b := by
  simp [Block.releaseWrite, h]
theorem Block.holdCtrl_of_both {w : Writer} {e v : Nat} (h : F.DIE_HOLD_CTRL_HOLD.of v = 1) (r : F.DIE_HOLD_CTRL_RELEASE.of v = 1) :
    b.holdWrite w e v = b.refuse w (R.DIE_HOLD_CTRL e) ∧ b.releaseWrite w e v = b.refuse w (R.DIE_HOLD_CTRL e) := by
  simp [Block.holdWrite, Block.releaseWrite, Block.holdCtrl, h, r]

/-- Where no die is released by the pin its fall is only seen. -/
theorem Block.holdRelN_of_disabled (hpin : b.relPin = false) (hoff : ∀ e : Fin 4, b.flag (R.DIE_HOLD_CFG e) F.DIE_HOLD_CFG_REL_PIN_EN = false) :
    b.holdRelN true = { b with relPin := true } := by
  rw [Block.holdRelN_of_fall hpin]
  refine Block.each_id_of fun e he => ?_
  have h : ({ b with relPin := true } : Block).flag (R.DIE_HOLD_CFG e) F.DIE_HOLD_CFG_REL_PIN_EN = false := hoff ⟨e, he⟩
  rw [Block.pinRelease, h]
  rfl

/-- A write of RELEASE, its source enabled, as the phase of the die has it. -/
theorem Block.pulse_wanted {e : Nat} (hlatch : b.latchH e = true) (hheld : (b.die e).phase = .held) (h : b.alone e = false) :
    (b.pulse e).flag (R.DIE_HOLD_STATUS e) F.DIE_HOLD_STATUS_LATCH = false ∧ b.pulse e = { b with regs := (b.pulse e).regs } := by
  rw [Block.pulse_of_held hlatch hheld]
  exact Block.clearH_wanted h

/-- Settles O48: a request opens the window, a release is lost, waits or frees the die, and entry and exit follow (`holdEntry_tells`,
`holdEnter_stays`, `holdExit_enters`). -/
theorem diesAreHeldAndReleased : Obligations.DiesAreHeldAndReleased := by
  unfold Obligations.DiesAreHeldAndReleased
  intro b d S cfg x byPin others leaves
  have hpin : b.pinLevel d = true ↔ byPin := Block.pinLevel_iff
  have halone : b.alone d = true ↔ ¬ others := Block.alone_iff
  have hoff (h : ¬ byPin) : b.pinLevel d = false := Bool.eq_false_iff.mpr fun h' => h (hpin.mp h')
  have hnot (h : others) : b.alone d = false := Bool.eq_false_iff.mpr fun h' => halone.mp h' h
  refine ⟨fun w v hreach => ?_, takes_holdRelN false, fun h => ?_, fun h => ⟨fun hdis => ?_, fun hen hlatch => ?_⟩, fun h => ?_, fun hp hnow => ?_, fun h => ?_,
    fun hp hall hr => ⟨fun hrel hnp hw => ?_, fun hrel hno => ?_⟩, fun h => ?_, fun hp hl hno => ?_, fun hp hl hr hs => ?_⟩
  · intro hold rel
    refine ⟨fun h => ?_, fun h => ?_, fun h r => ?_, fun h r hnp => ⟨fun hs hi => ?_, fun hb => ?_⟩, fun h r hbp => ⟨fun hs hi => ?_, fun hp => ?_, fun hp hno => ?_⟩,
      fun h r => ⟨fun hno => ?_, fun hen hl => ⟨fun hp => ?_, fun hp => ?_, fun hp hno => ?_, fun hp ho => ?_⟩⟩⟩
    · exact takes_congr (takes_holdRequest hreach) (Block.holdWrite_of_none h)
    · exact takes_congr (takes_holdRelease hreach) (Block.releaseWrite_of_none h)
    · obtain ⟨hq, hr⟩ := Block.holdCtrl_of_both (b := b) (w := w) (e := d) h r
      exact ⟨takes_congr (takes_holdRequest hreach) hq, takes_congr (takes_holdRelease hreach) hr⟩
    · exact (takes_congr (takes_holdRequest hreach) (Block.holdWrite_of_request h r)).to (Block.request_opens (hoff hnp) hs hi)
    · exact (takes_congr (takes_holdRequest hreach) (Block.holdWrite_of_request h r)).to (Block.request_waits (hoff hnp) hb)
    · exact (takes_congr (takes_holdRequest hreach) (Block.holdWrite_of_request h r)).to (Block.request_released (hpin.mpr hbp) hs hi)
    · exact (takes_congr (takes_holdRequest hreach) (Block.holdWrite_of_request h r)).to (Block.request_released_entering (hpin.mpr hbp) hp)
    · exact (takes_congr (takes_holdRequest hreach) (Block.holdWrite_of_request h r)).to (Block.request_released_held (hpin.mpr hbp) hp (halone.mpr hno))
    · refine takes_congr (takes_holdRelease hreach) ((Block.releaseWrite_of_release h r).trans ?_)
      rcases hno with hno | hno
      · exact if_neg (ne_true_of_eq_false hno)
      · rw [Block.pulse_of_free hno, ite_self]
    all_goals have hrelease : b.releaseWrite w d v.toNat = b.pulse d := (Block.releaseWrite_of_release h r).trans (if_pos hen)
    · exact (takes_congr (takes_holdRelease hreach) hrelease).to (Block.pulse_lost hl hp)
    · exact takes_congr (takes_holdRelease hreach) (hrelease.trans (Block.pulse_of_parking hl hp))
    · exact (takes_congr (takes_holdRelease hreach) (hrelease.trans (Block.pulse_of_held hl hp))).to (Block.clearH_leaves hp (halone.mpr hno))
    · exact (takes_congr (takes_holdRelease hreach) hrelease).to (Block.pulse_wanted hl hp (hnot ho))
  · exact takes_congr (takes_holdRelN true) (Block.holdRelN_of_low h)
  · exact takes_congr (takes_holdRelN true) (Block.holdRelN_of_disabled h hdis)
  · obtain ⟨hheld, hlost, hlevel⟩ := Block.holdRelN_tells d.isLt h hen hlatch
    exact ⟨fun hp hno => (takes_holdRelN true).to (hheld hp (halone.mpr hno)), fun hp hm => (takes_holdRelN true).to (hlost hp hm),
      fun hp hm => (takes_holdRelN true).to (hlevel hp hm)⟩
  · exact takes_congr (takes_holdEntry d) (Block.holdEntryRow_of_not h)
  · exact (takes_holdEntry d).to (Block.holdEntryRow_tells d.isLt hp hnow)
  · exact takes_congr (takes_holdEnter d) (Block.holdEnter_of_not h)
  · exact (takes_holdEnter d).to (Block.holdEnter_stays hp hall hr hrel (hoff hnp) (hw.imp id hnot))
  · exact (takes_holdEnter d).to (Block.holdEnter_leaves hp hall hr (hrel.imp id hpin.mpr) (halone.mpr hno))
  · exact takes_congr (takes_holdExit d) (Block.holdExit_of_not h)
  · exact (takes_holdExit d).to (Block.holdExit_frees hp hl (halone.mpr hno))
  · exact (takes_holdExit d).to (Block.holdExit_enters hp hl hr hs)

end Sys2Proof.Machine
end

section
/-!
PROOFS. FAULT_N, a fatal action that holds dies, and ESC_ACK (R482 to R485).
-/
namespace Sys2Proof.Machine
open Sys2Proof

variable {b c : Block} {e : Nat}

/-! ## FAULT_N (R485) -/

/-- What FAULT_N is told where its level changes to that of c. -/
def Block.pinTold (b c : Block) : List Output := if c.faultLow = b.faultLow then [] else [.pin "FAULT_N" c.faultLow]

/-- A change that sends nothing itself tells the pin's level where it changes it. -/
theorem Block.pinning_eq (f : Block → Block) (h : (f b).out = b.out) :
    b.pinning f = { f b with out := b.out ++ b.pinTold (f b) } := by
  unfold Block.pinning Block.pinTold
  obtain ⟨c, hc⟩ : ∃ c, f b = c := ⟨_, rfl⟩
  rw [hc] at h ⊢
  dsimp only
  by_cases hl : c.faultLow = b.faultLow
  · rw [if_pos (by simp [hl]), if_pos hl, List.append_nil, ← h]
  · rw [if_neg (by simp [hl]), if_neg hl, ← h]
    rfl

theorem Block.faultLow_congr (hn : c.faultN = b.faultN) (hw : c.word R.FLT_FAULT_N_CTRL = b.word R.FLT_FAULT_N_CTRL) : c.faultLow = b.faultLow := by
  rw [Block.faultLow, hn, Block.flag, Block.fld_of_word hw, ← Block.flag, ← Block.faultLow]

theorem Block.pulseFaultN_tells (b : Block) : ∃ o n, b.pulseFaultN = { b with out := o, faultN := n } ∧ b.pulseFaultN.faultLow = true ∧
    b.pulseFaultN.out = b.out ++ b.pinTold b.pulseFaultN := by
  obtain ⟨t, ht⟩ : ∃ t, b.ticks + b.fld R.FLT_FAULT_N_CTRL F.FLT_FAULT_N_CTRL_PULSE * 1000 = t := ⟨_, rfl⟩
  have h : b.pulseFaultN = { b with out := b.out ++ b.pinTold { b with faultN := { b.faultN with till := some t } }, faultN := { b.faultN with till := some t } } := by
    unfold Block.pulseFaultN
    rw [Block.pinning_eq _ (by exact rfl), ht]
  rw [h]
  exact ⟨_, _, rfl, rfl, rfl⟩

/-! ## A fatal action holds a die (R484) -/

/-- ESCALATED stands through a release. -/
theorem Block.level_escalated (b : Block) (e : Nat) :
    (b.level e).flag (R.DIE_HOLD_STATUS e) F.DIE_HOLD_STATUS_ESCALATED = b.flag (R.DIE_HOLD_STATUS e) F.DIE_HOLD_STATUS_ESCALATED := by
  have hclear : (b.clearH e).flag (R.DIE_HOLD_STATUS e) F.DIE_HOLD_STATUS_ESCALATED = b.flag (R.DIE_HOLD_STATUS e) F.DIE_HOLD_STATUS_ESCALATED :=
    b.flag_apart _ _ _ (by decide)
  have hexit : ((b.clearH e).recheck e).flag (R.DIE_HOLD_STATUS e) F.DIE_HOLD_STATUS_ESCALATED =
      (b.clearH e).flag (R.DIE_HOLD_STATUS e) F.DIE_HOLD_STATUS_ESCALATED := by
    unfold Block.recheck
    split
    · rw [Block.startExit, Block.raise, Block.flag_apart _ _ _ _ (by decide), Block.modDie_flag]
    · rfl
  unfold Block.level
  split
  · rfl
  · split
    · rfl
    · rfl
    all_goals exact hexit.trans hclear

/-- Die e is held by a fatal action. -/
def Block.HeldBy (e : Nat) (b t : Block) : Prop := t.flag (R.DIE_HOLD_STATUS e) F.DIE_HOLD_STATUS_ESCALATED = true ∧
  ((b.die e).phase ≠ .held →
    b.pinLevel e = false ∨ (b.die e).phase = .window ∨ (b.die e).phase = .parking ∨ ((b.die e).phase = .idle ∧ b.started = true) →
      t.flag (R.DIE_HOLD_STATUS e) F.DIE_HOLD_STATUS_LATCH = true)

theorem Block.holdRequest_fatal (b : Block) (e : Nat) : b.HeldBy e (b.holdRequest e true) := by
  by_cases hheld : (b.die e).phase = .held
  · rw [Block.holdRequest_of_held (by simp [hheld])]
    refine ⟨?_, fun h => absurd hheld h⟩
    rw [Block.flag, Block.fld_setFld_same _ _ _ _ (by decide) (by decide)]
    rfl
  · rw [Block.holdRequest_of_latched (by simpa using hheld)]
    obtain ⟨hhold, -, hlatch, hesc, -⟩ := b.latchOn_tells e true
    have hdie := b.latchOn_die e true e
    obtain ⟨c, hc⟩ : ∃ c, (b.latchOn e true).startEntry e holdByFault = c := ⟨_, rfl⟩
    have hentry : b.OnHold e c := hc ▸ hhold.trans (Block.startEntry_hold (by decide))
    have hstarted : c.latchH e = true ∧ c.flag (R.DIE_HOLD_STATUS e) F.DIE_HOLD_STATUS_ESCALATED = true ∧
        ((c.die e).phase = .window ∧ (b.die e).phase = .idle ∧ b.started = true ∨ c.die e = b.die e) := by
      by_cases hidle : b.started = true ∧ (b.die e).phase = .idle
      · obtain ⟨hd, hl, -, hesc⟩ := Block.latchOn_startEntry (b := b) (e := e) (fatal := true) (cause := holdByFault) hidle.1 hidle.2 (by decide)
        rw [hc] at hd hl hesc
        exact ⟨hl, hesc, .inl ⟨by rw [hd], hidle.2, hidle.1⟩⟩
      · rw [← hc, Block.latchOn_startEntry_busy (by by_contra hcon; simp only [not_or, not_not, Bool.not_eq_false] at hcon; exact hidle hcon) (by decide)]
        exact ⟨hlatch, hesc, .inr hdie⟩
    obtain ⟨hl, hesc', hphase⟩ := hstarted
    show b.HeldBy e (((b.latchOn e true).startEntry e holdByFault).pinCheck e)
    rw [hc]
    cases hpin : c.pinLevel e with
    | false =>
      rw [Block.pinCheck_of_off hpin]
      exact ⟨hesc', fun _ _ => hl⟩
    | true =>
      rw [Block.pinCheck_of_on hpin]
      refine ⟨(c.level_escalated e).trans hesc', fun _ hor => ?_⟩
      have henter : (c.die e).phase = .window ∨ (c.die e).phase = .parking := by
        rcases hphase with ⟨hw, -, -⟩ | hsame
        · exact .inl hw
        · rw [hsame]
          rcases hor with h | h | h | ⟨hi, hs⟩
          · rw [hentry.pinLevel, h] at hpin
            exact absurd hpin (by decide)
          · exact .inl h
          · exact .inr h
          · have hopen := (Block.latchOn_startEntry (b := b) (e := e) (fatal := true) (cause := holdByFault) hs hi (by decide)).1
            rw [hc, hsame] at hopen
            rw [hopen]
            exact .inl rfl
      rw [Block.level_of_entering hl henter]
      exact hl

/-! ## The escalation registers -/

theorem takes_escAck {w : Writer} {k : Fin 5} {v : BitVec 32} (hreach : b.reaches w (colBlk k)) : Takes (.escAck w k v) b (b.escAck w k.val v.toNat) :=
  takes_of_write hreach fun _ => rfl
theorem takes_escalate (x : CollectorStraps) : Takes (.escalate x) b (b.escalate x.c.val x.straps.toNat) := fun _ => rfl
theorem takes_faultNPulseEnd : Takes .faultNPulseEnd b b.pulseEnd := fun _ => rfl
theorem takes_faultNClear {w : Writer} {v : BitVec 32} (hreach : b.reaches w .flt) : Takes (.faultNClear w v) b (b.faultNClear w v.toNat) :=
  takes_of_write hreach fun _ => rfl

theorem colStatus_ne_escCount (k : Nat) : colStatus k ≠ colEscCount k := by rw [colEscCount_eq]; omega

theorem Block.escShow_tells (b : Block) (k : Nat) :
    (b.escShow k).flag (colStatus k) F.FLT_STATUS_ESC_RUNNING = (b.fld (colEscCount k) F.FLT_ESC_COUNT_ACKED !=
      b.fld (colEscCount k) F.FLT_ESC_COUNT_RECEIVED && b.fld (colEscCfg k) F.FLT_ESC_CFG_TIME != 0) ∧
    (b.escShow k).flag (colStatus k) F.FLT_STATUS_ESC_FIRED = b.flag (colStatus k) F.FLT_STATUS_ESC_FIRED ∧
      ∃ rs, b.escShow k = { b with regs := rs } := by
  obtain ⟨v, hv⟩ : ∃ v, (b.fld (colEscCount k) F.FLT_ESC_COUNT_ACKED != b.fld (colEscCount k) F.FLT_ESC_COUNT_RECEIVED &&
    b.fld (colEscCfg k) F.FLT_ESC_CFG_TIME != 0) = v := ⟨_, rfl⟩
  have ht : b.escShow k = b.setFld (colStatus k) F.FLT_STATUS_ESC_RUNNING (b2n v) := by
    rw [← hv]
    rfl
  rw [hv, ht]
  refine ⟨?_, b.flag_apart _ _ _ (by decide), b.setFld_regs _ _ _⟩
  rw [Block.flag, Block.fld_setFld_same _ _ _ _ (by decide) (by decide)]
  cases v <;> rfl

/-- The messages up to number n are acknowledged at collector k. -/
theorem Block.acked_tells (b : Block) (k n : Nat) :
    let t := b.setFld (colEscCount k) F.FLT_ESC_COUNT_ACKED n
    t.fld (colEscCount k) F.FLT_ESC_COUNT_ACKED = n % 65536 ∧
      t.fld (colEscCount k) F.FLT_ESC_COUNT_RECEIVED = b.fld (colEscCount k) F.FLT_ESC_COUNT_RECEIVED ∧
      t.fld (colEscCfg k) F.FLT_ESC_CFG_TIME = b.fld (colEscCfg k) F.FLT_ESC_CFG_TIME := by
  refine ⟨?_, ?_, Block.fld_of_word (Block.word_setFld_ne _ _ _ ?_) _⟩
  · rw [Block.fld_setFld_same _ _ _ _ (by decide) (by decide)]
    rfl
  · rw [Block.fld_setFld_apart _ _ _ _ _ (by decide) (by decide) (by decide) (by decide)]
  · rw [colEscCount_eq, colEscCfg, colReg_eq]
    omega

/-- ESC_ACK says how many messages are answered. -/
theorem Block.escAck_tells {w : Writer} {k v : Nat} :
    let acked := b.fld (colEscCount k) F.FLT_ESC_COUNT_ACKED
    let n := b.fld (colEscCount k) F.FLT_ESC_COUNT_RECEIVED
    let beyond := (n + 65536 - acked) % 65536 < (v % 65536 + 65536 - acked) % 65536
    (beyond → b.escAck w k v = b.refuse w (colEscAck k)) ∧ (¬ beyond →
      (b.escAck w k v).fld (colEscCount k) F.FLT_ESC_COUNT_ACKED = v % 65536 ∧ (b.escAck w k v).fld (colEscCount k) F.FLT_ESC_COUNT_RECEIVED = n ∧
      (b.escAck w k v).flag (colStatus k) F.FLT_STATUS_ESC_RUNNING = (v % 65536 != n && b.fld (colEscCfg k) F.FLT_ESC_CFG_TIME != 0) ∧
      b.escAck w k v = { b with regs := (b.escAck w k v).regs }) := by
  intro acked n beyond
  have hcount : F.FLT_ESC_ACK_COUNT.of v = v % 65536 := by
    rw [show F.FLT_ESC_ACK_COUNT = ⟨15, 0⟩ from rfl, Bf.of]
    norm_num
  refine ⟨fun h => ?_, fun h => ?_⟩
  · unfold Block.escAck
    dsimp only
    rw [hcount, if_pos h]
  · have hack : b.escAck w k v = (b.setFld (colEscCount k) F.FLT_ESC_COUNT_ACKED (v % 65536)).escShow k := by
      unfold Block.escAck
      dsimp only
      rw [hcount, if_neg h]
    obtain ⟨h1, h2, h3⟩ := b.acked_tells k (v % 65536)
    rw [hack]
    obtain ⟨c, hc⟩ : ∃ c, b.setFld (colEscCount k) F.FLT_ESC_COUNT_ACKED (v % 65536) = c := ⟨_, rfl⟩
    rw [hc] at h1 h2 h3 ⊢
    obtain ⟨hrun, -, rs, honly⟩ := c.escShow_tells k
    have hother (f : Bf) : (c.escShow k).fld (colEscCount k) f = c.fld (colEscCount k) f :=
      Block.fld_of_word (c.escShow_word k (colStatus_ne_escCount k).symm) f
    have hcregs : c = { b with regs := c.regs } := by
      rw [← hc]
      exact Block.setWord_only _ _ _
    refine ⟨?_, (hother _).trans h2, ?_, ?_⟩
    · rw [hother, h1, Nat.mod_mod]
    · rw [hrun, h1, h2, h3, Nat.mod_mod]
    · rw [honly, hcregs]

/-! ## FAULT_N_CLEAR and the end of the pulse -/

theorem Block.pulseEnd_of_none (h : b.faultN.till = none) : b.pulseEnd = b := by
  unfold Block.pulseEnd
  rw [h]

theorem Block.pulseEnd_of_early {t : Nat} (h : b.faultN.till = some t) (early : b.ticks < t) : b.pulseEnd = b := by
  unfold Block.pulseEnd
  rw [h]
  exact if_pos early

theorem Block.pulseEnd_tells {t : Nat} (h : b.faultN.till = some t) (late : t ≤ b.ticks) :
    b.pulseEnd.out = b.out ++ b.pinTold b.pulseEnd ∧ b.pulseEnd = { b with out := b.pulseEnd.out, faultN := b.pulseEnd.faultN } ∧
      b.pulseEnd.faultN = { till := none, latched := b.faultN.latched || b.flag R.FLT_FAULT_N_CTRL F.FLT_FAULT_N_CTRL_LATCH } := by
  obtain ⟨l, hl⟩ : ∃ l, (b.faultN.latched || b.flag R.FLT_FAULT_N_CTRL F.FLT_FAULT_N_CTRL_LATCH) = l := ⟨_, rfl⟩
  have hend : b.pulseEnd = { b with out := b.out ++ b.pinTold { b with faultN := { till := none, latched := l } }, faultN := { till := none, latched := l } } := by
    unfold Block.pulseEnd
    rw [h]
    dsimp only
    rw [if_neg (Nat.not_lt.mpr late), Block.pinning_eq _ (by exact rfl), hl]
  rw [hend, hl]
  exact ⟨rfl, rfl, rfl⟩

theorem findReg_faultNCtrl : findReg R.FLT_FAULT_N_CTRL = some ⟨.flt, 0, 0x50,
    reg1 0x50 [⟨31, 31, .rw, 0⟩, ⟨30, 30, .wo, 0⟩, ⟨29, 29, .rw, 0⟩, ⟨28, 28, .ro, 0⟩, ⟨9, 0, .rw, 10⟩], 0, 0, 0⟩ :=
  findReg_base rfl (by decide) (by decide) (by decide)

theorem Block.faultNClear_of_none {w : Writer} {v : Nat} (h : F.FLT_FAULT_N_CTRL_CLEAR.of v = 0) : b.faultNClear w v = b := by
  simp [Block.faultNClear, h]

theorem Block.faultNClear_of_bad {w : Writer} {v : Nat} (h : F.FLT_FAULT_N_CTRL_CLEAR.of v = 1)
    (bad : F.FLT_FAULT_N_CTRL_PULSE.of v < 10 ∨ 1000 < F.FLT_FAULT_N_CTRL_PULSE.of v) : b.faultNClear w v = b.refuse w R.FLT_FAULT_N_CTRL := by
  unfold Block.faultNClear Block.faultNCtrl
  rw [if_neg (by simp [h])]
  dsimp only
  rw [if_pos (by simpa using bad)]

theorem Block.faultNClear_tells {w : Writer} {v : Nat} (h : F.FLT_FAULT_N_CTRL_CLEAR.of v = 1)
    (lo : 10 ≤ F.FLT_FAULT_N_CTRL_PULSE.of v) (hi : F.FLT_FAULT_N_CTRL_PULSE.of v ≤ 1000) :
    let t := b.faultNClear w v
    t.out = b.out ++ b.pinTold t ∧ t.faultN = { b.faultN with latched := false } ∧
      t.fld R.FLT_FAULT_N_CTRL F.FLT_FAULT_N_CTRL_PULSE = F.FLT_FAULT_N_CTRL_PULSE.of v ∧ t = { b with regs := t.regs, out := t.out, faultN := t.faultN } := by
  intro t
  have hpulse : (b.storeReg w R.FLT_FAULT_N_CTRL v).fld R.FLT_FAULT_N_CTRL F.FLT_FAULT_N_CTRL_PULSE = F.FLT_FAULT_N_CTRL_PULSE.of v :=
    Block.fld_storeReg findReg_faultNCtrl rfl w v (f := ⟨9, 0, .rw, 10⟩) (by simp [reg1])
  obtain ⟨c, hc⟩ : ∃ c, b.storeReg w R.FLT_FAULT_N_CTRL v = c := ⟨_, rfl⟩
  have honly : c = { b with regs := c.regs } := by
    rw [← hc, Block.storeReg_of_noRwl findReg_faultNCtrl rfl (by decide)]
    exact Block.setWord_only _ _ _
  rw [hc] at hpulse
  have hout : c.out = b.out := by rw [honly]
  have hn : c.faultN = b.faultN := by rw [honly]
  obtain ⟨d, hd⟩ : ∃ d : Block, { c with faultN := { c.faultN with latched := false } } = d := ⟨_, rfl⟩
  have hdo : d.out = b.out ∧ d.faultN = { b.faultN with latched := false } ∧ d.regs = c.regs ∧ d = { b with regs := d.regs, faultN := d.faultN } := by
    rw [← hd]
    exact ⟨hout, by rw [hn], rfl, by rw [honly]⟩
  obtain ⟨hdout, hdn, hdregs, hdonly⟩ := hdo
  have hctrl : t = b.pinning fun b =>
      if F.FLT_FAULT_N_CTRL_CLEAR.of v == 1 then { (b.storeReg w R.FLT_FAULT_N_CTRL v) with faultN := { (b.storeReg w R.FLT_FAULT_N_CTRL v).faultN with latched := false } }
      else b.storeReg w R.FLT_FAULT_N_CTRL v := by
    show b.faultNClear w v = _
    unfold Block.faultNClear Block.faultNCtrl
    rw [if_neg (by simp [h])]
    dsimp only
    rw [if_neg (by simp; omega)]
  have ht : t = { d with out := b.out ++ b.pinTold d } := by
    rw [hctrl, Block.pinning_eq]
    · rw [hc, if_pos (by simp [h]), hd]
    · rw [hc, if_pos (by simp [h]), hd, hdout]
  rw [ht]
  refine ⟨rfl, hdn, ?_, ?_⟩
  · exact (Block.fld_of_word (Block.word_of_regs hdregs _) _).trans hpulse
  · rw [hdonly]

end Sys2Proof.Machine
end

section
/-!
PROOFS. Package resets: what is kept, what RESET_CAUSE records, and the start of the boot that follows (R413, R486 to R488).
-/
namespace Sys2Proof.Machine
open Sys2Proof

variable {b c : Block}

/-! ## What is kept (Table 16-13) -/

/-- Whether a reset keeps the register at address a. -/
def keepsReg (warm power : Bool) (a : Nat) : Bool := (!power && captureReg a) || (warm && warmReg a)

/-- The dies after a reset. -/
def Block.diesAfter (b : Block) (power : Bool) : SMap Die :=
  if power then [] else (b.dies.map fun e => (e.1, e.2.afterReset)).filter fun e => e.2 != {}

/-- The block after a reset, its registers apart. -/
def Block.resetBase (b : Block) (warm power : Bool) : Block :=
  let kept : Block := { fuses := b.fuses, refLost := b.refLost, strapPins := b.strapPins, pinLow := b.pinLow, relPin := b.relPin,
                        pkgHold := b.pkgHold, out := b.out, fresh := b.fresh, dies := b.diesAfter power,
                        faultN := { till := if power then none else b.faultN.till.map fun t => if warm then t else t - b.ticks,
                                    latched := warm && b.faultN.latched } }
  if warm then
    { kept with ticks := b.ticks, baseA := b.baseA, baseB := b.baseB, switchTick := b.switchTick, rings := b.rings,
                records := b.records, ctrs := b.ctrs.filter (fun e => warmCtr e.1),
                snap := b.snap.filter (fun e => warmCtr e.1 || e.1 == R.OBS_PMC_REF),
                chain := { on := b.chain.on, locked := b.chain.locked, lost := b.chain.lost, breakAt := b.chain.breakAt },
                ports := (b.ports.map fun e =>
                  let x : Port := { onTarget := e.2.onTarget, switchAt := e.2.switchAt }
                  (e.1, x)).filter fun e => e.2 != {} }
  else kept

theorem Block.afterReset_eq (b : Block) (warm power : Bool) :
    b.afterReset warm power =
      let n : Block := { b.resetBase warm power with regs := b.regs.filter fun e => keepsReg warm power e.1 }
      if !power && b.flag R.FLT_STATUS F.FLT_STATUS_CAPTURED then n.raise R.FLT_STATUS F.FLT_STATUS_CAPTURED else n := by
  unfold Block.afterReset
  cases warm <;> cases power <;> rfl

theorem Block.afterReset_tells (b : Block) (warm power : Bool) :
    (∃ rs, b.afterReset warm power = { b.resetBase warm power with regs := rs }) ∧
      (power = true → (b.afterReset warm power).word R.FLT_STATUS = if keepsReg warm power R.FLT_STATUS then b.word R.FLT_STATUS else resetWord R.FLT_STATUS) ∧
      ∀ a, a ≠ R.FLT_STATUS → (b.afterReset warm power).word a = if keepsReg warm power a then b.word a else resetWord a := by
  obtain ⟨n, hn⟩ : ∃ n : Block, { b.resetBase warm power with regs := b.regs.filter fun e => keepsReg warm power e.1 } = n := ⟨_, rfl⟩
  have hword (a : Nat) : n.word a = if keepsReg warm power a then b.word a else resetWord a := by
    rw [← hn]
    exact Block.word_filter b (keepsReg warm power) a
  have hbase : n = { b.resetBase warm power with regs := n.regs } := by rw [← hn]
  rw [b.afterReset_eq]
  dsimp only
  rw [hn]
  refine ⟨?_, fun h => ?_, fun a ha => ?_⟩
  · split
    · obtain ⟨rs, h⟩ := n.setFld_regs R.FLT_STATUS F.FLT_STATUS_CAPTURED 1
      exact ⟨rs, by rw [Block.raise, h, hbase]⟩
    · exact ⟨_, hbase⟩
  · subst h
    rw [if_neg (by simp), hword]
  · split
    · rw [Block.raise, Block.word_setFld_ne _ _ _ ha, hword]
    · exact hword a

/-- The bus is floated. -/
theorem Block.nvmDrive_off (b : Block) : ∃ bt, b.nvmDrive false = { b with boot := bt, out := b.out ++ if b.boot.bus then [.nvmBus false] else [] } := by
  unfold Block.nvmDrive
  cases h : b.boot.bus
  · refine ⟨b.boot, (if_pos rfl).trans ?_⟩
    rw [if_neg (by decide), List.append_nil]
  · exact ⟨_, rfl⟩

/-- What a reset tells of the bus. -/
def Block.busTold (b : Block) : List Output := if b.boot.bus then [.nvmBus false] else []

/-- A package reset, its cause recorded. -/
theorem Block.resetBy_tells (b : Block) (k : PkgReset) :
    (∃ rs, b.resetBy k = { b.resetBase k.warm (k == .powerOn) with regs := rs, out := b.out ++ b.busTold }) ∧
      (b.resetBy k).word R.FLT_RESET_CAUSE = b.causeAfter k % 2 ^ 32 ∧
      (k = .powerOn → (b.resetBy k).word R.FLT_STATUS = resetWord R.FLT_STATUS) ∧
      ∀ a, a ≠ R.FLT_RESET_CAUSE → a ≠ R.FLT_STATUS →
        (b.resetBy k).word a = if keepsReg k.warm (k == .powerOn) a then b.word a else resetWord a := by
  obtain ⟨bt, hoff⟩ := b.nvmDrive_off
  obtain ⟨c, hc⟩ : ∃ c, b.nvmDrive false = c := ⟨_, rfl⟩
  have hcword (a : Nat) : c.word a = b.word a := by
    rw [← hc, hoff]
    rfl
  have hbase (w p : Bool) : c.resetBase w p = { b.resetBase w p with out := b.out ++ b.busTold } := by
    rw [← hc, hoff]
    cases w <;> cases p <;> rfl
  obtain ⟨⟨rs, honly⟩, hstatus, hword⟩ := c.afterReset_tells k.warm (k == .powerOn)
  have ht : b.resetBy k = (c.afterReset k.warm (k == .powerOn)).setWord R.FLT_RESET_CAUSE (b.causeAfter k) := by
    rw [Block.resetBy, hc]
  rw [ht]
  refine ⟨?_, Block.word_setWord_same _ _ _, fun hk => ?_, fun a ha hs => ?_⟩
  · rw [Block.setWord_only, honly, hbase]
    exact ⟨_, rfl⟩
  · rw [Block.word_setWord_other _ _ (by decide), hstatus (by simp [hk]), hk]
    exact if_neg (by decide)
  · rw [Block.word_setWord_other _ _ ha, hword a hs, hcword]

/-! ## The causes (Table 16-12) -/

theorem Block.causeAfter_powerOn (b : Block) : b.causeAfter .powerOn = 2 ^ 31 := by simp [Block.causeAfter]

theorem Block.causeAfter_first {k : PkgReset} (hk : k ≠ .powerOn) (h : b.inReset = false) :
    b.causeAfter k = k.bits + b2n b.started * 2 ^ 25 + sat 65535 (b.word R.FLT_RESET_CAUSE % 65536 + 1) := by
  simp [Block.causeAfter, hk, h]

theorem Block.causeAfter_later {k : PkgReset} (hk : k ≠ .powerOn) (h : b.inReset = true) :
    b.causeAfter k = b.word R.FLT_RESET_CAUSE ||| k.bits := by
  simp [Block.causeAfter, hk, h]

/-! ## The boot sequencer starts (R413, R414, R52) -/

theorem Block.railsToL2_tells (b : Block) : (∃ ds o, b.railsToL2 = { b with dies := ds, out := b.out ++ o }) ∧
    (∀ d, b.railsToL2.die d = b.die d ∨ b.railsToL2.die d = { b.die d with cmdMv := 765, writing := true }) ∧ ∀ d, d < 4 → (b.railsToL2.die d).cmdMv = 765 := by
  have hturn (c : Block) (d : Nat) : (∃ ds o, (if (c.die d).cmdMv == levelMv 2 && !(c.die d).writing then c else c.writeRail d (levelMv 2)) =
      { c with dies := ds, out := c.out ++ o }) := by
    split
    · exact ⟨_, [], by rw [List.append_nil]⟩
    · exact ⟨_, _, rfl⟩
  have hsame (c : Block) (d e : Nat) : (if (c.die d).cmdMv == levelMv 2 && !(c.die d).writing then c else c.writeRail d (levelMv 2)).die e = c.die e ∨
      (if (c.die d).cmdMv == levelMv 2 && !(c.die d).writing then c else c.writeRail d (levelMv 2)).die e = { c.die e with cmdMv := 765, writing := true } := by
    split
    · exact .inl rfl
    · rw [Block.writeRail_die]
      split
      · rename_i he
        rw [he]
        exact .inr rfl
      · exact .inl rfl
  refine ⟨?_, fun d => ?_, fun d hd => ?_⟩
  · refine Block.each_inv (P := fun c => ∃ ds o, c = { b with dies := ds, out := b.out ++ o }) ⟨_, [], by rw [List.append_nil]⟩ fun c k _ h => ?_
    obtain ⟨ds, o, h⟩ := h
    obtain ⟨ds', o', h'⟩ := hturn c k
    refine ⟨ds', o ++ o', ?_⟩
    rw [h', h]
    simp only [List.append_assoc]
  · refine Block.each_inv (P := fun c => c.die d = b.die d ∨ c.die d = { b.die d with cmdMv := 765, writing := true }) (.inl rfl) fun c k _ h => ?_
    rcases h with h | h <;> rcases hsame c k d with h' | h'
    · exact .inl (h'.trans h)
    · exact .inr (h'.trans (by rw [h]))
    · exact .inr (h'.trans h)
    · exact .inr (h'.trans (by rw [h]))
  · refine Block.each_turn hd (I := fun _ => True) (P := fun c => (c.die d).cmdMv = 765) trivial (fun _ _ _ _ => trivial) (fun c _ => ?_) fun c j _ _ h => ?_
    · split
      · rename_i hl
        simp only [Bool.and_eq_true, beq_iff_eq] at hl
        exact hl.1
      · rw [Block.writeRail_die, if_pos rfl]
        rfl
    · rcases hsame c j d with h' | h'
      · rw [h', h]
      · rw [h']

/-- Step 2 of the boot: the straps taken, the rails on their way to L2. -/
theorem Block.bootStart_tells (b : Block) :
    (∃ rs ds o, b.bootStart = { b with regs := rs, dies := ds, out := b.out ++ o, boot := { phase := .fuses, start := b.ticks }, chain := { b.chain with on := true } }) ∧
      b.bootStart.word R.PKG_STRAPS = b.strapPins % 2 ^ 32 ∧ b.bootStart.fld R.BOOT_STATUS F.BOOT_STATUS_STEP = 2 ∧
      (∀ a, a ≠ R.PKG_STRAPS → a ≠ R.TIM_REF_STATUS → a ≠ R.BOOT_STATUS → b.bootStart.word a = b.word a) ∧
      (∀ d, b.bootStart.die d = b.die d ∨ b.bootStart.die d = { b.die d with cmdMv := 765, writing := true }) ∧
      ∀ d, d < 4 → (b.bootStart.die d).cmdMv = 765 := by
  obtain ⟨c, hc⟩ : ∃ c, b.setWord R.PKG_STRAPS b.strapPins = c := ⟨_, rfl⟩
  have hconly : c = { b with regs := c.regs } := by rw [← hc]; exact Block.setWord_only _ _ _
  have hcdie (d : Nat) : c.die d = b.die d := by rw [hconly]; rfl
  have hstraps : c.word R.PKG_STRAPS = b.strapPins % 2 ^ 32 := by rw [← hc]; exact Block.word_setWord_same _ _ _
  have hcword (a : Nat) (ha : a ≠ R.PKG_STRAPS) : c.word a = b.word a := by rw [← hc]; exact Block.word_setWord_other _ _ ha
  obtain ⟨⟨ds, o, hrails⟩, hdies, hall⟩ := c.railsToL2_tells
  obtain ⟨e, he⟩ : ∃ e, c.railsToL2 = e := ⟨_, rfl⟩
  rw [he] at hrails hdies hall
  have heword (a : Nat) : e.word a = c.word a := by rw [hrails]; rfl
  obtain ⟨f, hf⟩ : ∃ f, (if e.refLost then e else e.raise R.TIM_REF_STATUS F.TIM_REF_STATUS_REFCLK_OK) = f := ⟨_, rfl⟩
  have hfe : (∃ rs, f = { e with regs := rs }) ∧ ∀ a, a ≠ R.TIM_REF_STATUS → f.word a = e.word a := by
    rw [← hf]
    split
    · exact ⟨⟨_, rfl⟩, fun _ _ => rfl⟩
    · exact ⟨e.setFld_regs _ _ _, fun a ha => Block.word_setFld_ne _ _ _ ha⟩
  obtain ⟨⟨rs, hfonly⟩, hfword⟩ := hfe
  obtain ⟨g, hg⟩ : ∃ g : Block, { f with boot := { phase := .fuses, start := f.ticks }, chain := { f.chain with on := true } } = g := ⟨_, rfl⟩
  have hgword (a : Nat) : g.word a = f.word a := by rw [← hg]; rfl
  have hgdie (d : Nat) : g.die d = e.die d := by rw [← hg, hfonly]; rfl
  have ht : b.bootStart = g.setFld R.BOOT_STATUS F.BOOT_STATUS_STEP 2 := by
    unfold Block.bootStart
    rw [hc, he]
    dsimp only
    rw [hf, hg]
    rfl
  rw [ht]
  refine ⟨?_, ?_, ?_, fun a h1 h2 h3 => ?_, fun d => ?_, fun d hd => ?_⟩
  · obtain ⟨rs', hset⟩ := g.setFld_regs R.BOOT_STATUS F.BOOT_STATUS_STEP 2
    refine ⟨rs', ds, o, ?_⟩
    rw [hset, ← hg, hfonly, hrails, hconly]
  · rw [Block.word_setFld_ne _ _ _ (by decide), hgword, hfword _ (by decide), heword, hstraps]
  · rw [Block.fld_setFld_same _ _ _ _ (by decide) (by decide)]
    rfl
  · rw [Block.word_setFld_ne _ _ _ h3, hgword, hfword a h2, heword, hcword a h1]
  · rw [Block.setFld_die, hgdie, ← hcdie]
    exact hdies d
  · rw [Block.setFld_die, hgdie]
    exact hall d hd

end Sys2Proof.Machine
end

section
/-!
PROOFS. ESCALATE and a fatal message at a die: what the action finds and leaves (R482 to R485, R487).
-/
namespace Sys2Proof.Machine
open Sys2Proof

variable {b c : Block}

/-! ## What a die's collector leaves of a fatal message -/

theorem Block.modCol_out (b : Block) (k : Nat) (f : Collector → Collector) : (b.modCol k f).out = b.out := by
  unfold Block.modCol
  split <;> rfl

theorem Block.serious_out (b : Block) (k : Nat) : (b.serious k).out = b.out := by
  rw [Block.serious, Block.escShow, Block.setFld_out, Block.modCol_out, Block.setFld_out]

theorem Block.takeFirst_out (b : Block) (k : Nat) (m : Msg) : (b.takeFirst k m).2.out = b.out := by
  obtain ⟨s, hs⟩ : ∃ s, b.severity m.typ m.kind = s := ⟨_, rfl⟩
  obtain ⟨c, hc⟩ : ∃ c, (b.count (R.FLT_COUNT s) 1).traceFault (if k < 4 then k else 0) (b.stamped m) = c := ⟨_, rfl⟩
  obtain ⟨d, hd⟩ : ∃ d, (if k < 4 then c.pmc (.die k) 0x05 s 1 else c) = d := ⟨_, rfl⟩
  obtain ⟨e, he⟩ : ∃ e, (if s == 3 then d.raise R.FLT_STATUS F.FLT_STATUS_FATAL_SEEN else d) = e := ⟨_, rfl⟩
  have ht : (b.takeFirst k m).2 = if s == 2 then e.serious k else e := by
    rw [← he, ← hd, ← hc, ← hs]
    rfl
  have hout : e.out = b.out := by
    rw [← he, apply_ite Block.out, Block.raise_out, ite_self, ← hd, apply_ite Block.out, Block.pmc_out, ite_self, ← hc, Block.traceFault, Block.trace_out,
      Block.count_out]
  rw [ht, apply_ite Block.out, Block.serious_out, ite_self, hout]

theorem Block.capture_out (b : Block) (k seq : Nat) (m : Msg) : (b.capture k seq m).out = b.out := by
  unfold Block.capture
  split
  · rfl
  · dsimp only
    rw [Block.raise_out, Block.setWord_out, Block.setWord_out, Block.setWord_out, Block.setWord_out, Block.setWord_out, Block.setWord_out,
      Block.setWord_out, Block.setWord_out, Block.setWord_out]

/-- A die's collector stores a message or drops it: nothing is told, and the die stands but for the collector. -/
theorem Block.storeMsg_die {k : Nat} (hk : k < 4) (b : Block) (m : Msg) :
    (b.storeMsg k m).out = b.out ∧ (∀ a, a ≠ colStatus k → (b.storeMsg k m).word a = b.word a) ∧
      ∀ e, ∃ col, (b.storeMsg k m).die e = { b.die e with col := col } := by
  have hcol (f : Collector → Collector) (e : Nat) : ∃ col, (b.modCol k f).die e = { b.die e with col := col } := by
    rw [Block.modCol, if_pos hk]
    by_cases he : e = k
    · rw [he, Block.die_modDie_same]
      exact ⟨_, rfl⟩
    · rw [Block.die_modDie_other _ _ he]
      exact ⟨_, rfl⟩
  have hword (f : Collector → Collector) (a : Nat) : (b.modCol k f).word a = b.word a := by
    rw [Block.modCol, if_pos hk]
    rfl
  unfold Block.storeMsg
  dsimp only
  by_cases hroom : (!b.hasRoom k m.sev) = true
  · rw [if_pos hroom]
    unfold Block.dropMsg
    refine ⟨?_, fun a ha => ?_, fun e => ?_⟩
    · rw [Block.count_out, Block.raise_out, Block.modCol_out]
    · rw [Block.count_word, Block.raise, Block.word_setFld_ne _ _ _ ha, hword]
    · rw [Block.count_die, Block.raise_die]
      exact hcol _ e
  · rw [if_neg hroom, if_pos hk]
    exact ⟨b.modCol_out k _, fun a _ => hword _ a, fun e => hcol _ e⟩

/-- Collector k of a die has taken the fatal message m. -/
theorem Block.takeQuiet_fatal {k : Nat} (hk : k < 4) (b : Block) (m : Msg) (hsev : b.severity m.typ m.kind = 3) :
    let t := (b.takeQuiet k m).2
    (b.takeQuiet k m).1.sev = 3 ∧ t.out = b.out ∧ t.flag R.FLT_STATUS F.FLT_STATUS_FATAL_SEEN = true ∧ b.OnTake t ∧
      (∀ e, ∃ col, t.die e = { b.die e with col := col }) ∧
      ∀ a, a ≠ colEscCount k → a ≠ colStatus k → a ≠ R.FLT_STATUS → a < colStatus k + 0x60 → t.word a = b.word a := by
  intro t
  obtain ⟨hfst, htaken, -, -, -, -, -, -, hword, -, -, hfatal⟩ := b.takeFirst_tells k m
  obtain ⟨hseen, hdies⟩ := hfatal hsev
  have hout := b.takeFirst_out k m
  obtain ⟨c, hc⟩ : ∃ c, (b.takeFirst k m).2 = c := ⟨_, rfl⟩
  rw [hc] at htaken hword hseen hdies hout
  obtain ⟨htaken', -, -, hdies', -, hword', -⟩ := c.capture_tells k 0 { b.stamped m with lost := (c.col k).dropped }
  have hout' := c.capture_out k 0 { b.stamped m with lost := (c.col k).dropped }
  obtain ⟨d, hd⟩ : ∃ d, c.capture k 0 { b.stamped m with lost := (c.col k).dropped } = d := ⟨_, rfl⟩
  rw [hd] at htaken' hdies' hword' hout'
  obtain ⟨hout'', hword'', hdie⟩ := Block.storeMsg_die hk d (b.stamped m)
  have ht : t = d.storeMsg k (b.stamped m) := by
    rw [show t = (b.takeQuiet k m).2 from rfl, Block.takeQuiet]
    dsimp only
    rw [if_pos hk, hfst, hc, hd]
  have hfar : R.FLT_STATUS ≠ colStatus k ∧ R.FLT_STATUS < colStatus k + 0x60 := by
    unfold colStatus colReg
    rw [if_pos hk]
    unfold R.DIE_FLT_STATUS dieBase R.FLT_STATUS fltBase
    omega
  obtain ⟨htaken'', -⟩ := d.storeMsg_tells (by omega : k < 5) (b.stamped m)
  rw [ht]
  refine ⟨?_, by rw [hout'', hout', hout], ?_, (htaken.trans htaken').trans htaken'', fun e => ?_, fun a h1 h2 h3 h4 => ?_⟩
  · rw [Block.takeQuiet]
    dsimp only
    rw [if_pos hk, hfst]
    exact hsev
  · rw [Block.flag, Block.fld_of_word ((hword'' _ hfar.1).trans (hword' _ hfar.1 hfar.2)), ← Block.flag, hseen]
  · obtain ⟨col, h⟩ := hdie e
    exact ⟨col, by rw [h, Block.die, hdies', hdies, ← Block.die]⟩
  · rw [hword'' a h2, hword' a h2 h4, hword a h1 h2 h3]

/-! ## A fatal action that holds dies -/

theorem Block.HeldBy.congr {e : Nat} {b c t : Block} (h : c.HeldBy e t) (phase : (c.die e).phase = (b.die e).phase) (pin : c.pinLevel e = b.pinLevel e)
    (started : c.started = b.started) : b.HeldBy e t :=
  ⟨h.1, fun hp hor => h.2 (by rwa [phase]) (by rwa [phase, pin, started])⟩

/-- A register apart from those of Hold. -/
theorem faultNCtrl_ne_holdStatus (e : Nat) : R.FLT_FAULT_N_CTRL ≠ R.DIE_HOLD_STATUS e := by
  unfold R.FLT_FAULT_N_CTRL fltBase R.DIE_HOLD_STATUS dieBase
  omega

theorem Block.OnHold.faultLow {e : Nat} (h : b.OnHold e c) : c.faultLow = b.faultLow := Block.faultLow_congr h.faultN (h.word _ (faultNCtrl_ne_holdStatus e))

/-- From b to c nothing that a fatal action goes by has changed, but for FAULT_N. -/
structure Block.SameHold (b c : Block) : Prop where
  phase : ∀ e, (c.die e).phase = (b.die e).phase
  word : ∀ e f, c.flag (R.DIE_HOLD_CFG e) f = b.flag (R.DIE_HOLD_CFG e) f
  relPin : c.relPin = b.relPin
  started : c.started = b.started

theorem Block.SameHold.pinLevel (h : b.SameHold c) (e : Nat) : c.pinLevel e = b.pinLevel e := by
  rw [Block.pinLevel, h.word, h.word, h.relPin, Block.pinLevel]

theorem Block.pulseFaultN_sameHold (b : Block) : b.SameHold b.pulseFaultN := by
  obtain ⟨o, n, h, -⟩ := b.pulseFaultN_tells
  rw [h]
  exact ⟨fun _ => rfl, fun _ _ => rfl, rfl, rfl⟩

/-- The dies of a mask are held, in turn. -/
def Block.holdMask (b : Block) (m : Nat) : Block := b.each 4 fun b d => if bitOf m d then b.holdRequest d true else b

theorem Block.holdMask_turn (b : Block) (m k : Nat) : b.OnHold k (if bitOf m k then b.holdRequest k true else b) := by
  split
  · exact b.holdRequest_hold k true
  · exact .refl k b

theorem Block.holdMask_held {m e : Nat} (he : e < 4) (hm : bitOf m e = true) (b : Block) : b.HeldBy e (b.holdMask m) := by
  refine Block.each_turn he (f := fun b d => if bitOf m d then b.holdRequest d true else b) (I := fun c => (c.die e).phase = (b.die e).phase ∧
      c.pinLevel e = b.pinLevel e ∧ c.started = b.started) (P := fun t => b.HeldBy e t) ⟨rfl, rfl, rfl⟩ (fun c j hj h => ?_) (fun c h => ?_) fun t j hj _ h => ?_
  · obtain ⟨h1, h2, h3⟩ := h
    have hh := c.holdMask_turn m j
    have hne : e ≠ j := by omega
    have hpin : (if bitOf m j then c.holdRequest j true else c).pinLevel e = c.pinLevel e := by
      rw [Block.pinLevel, hh.cfg, hh.cfg, hh.relPin, Block.pinLevel]
    exact ⟨by rw [hh.other e hne, h1], hpin.trans h2, hh.started.trans h3⟩
  · obtain ⟨h1, h2, h3⟩ := h
    rw [if_pos hm]
    exact (c.holdRequest_fatal e).congr h1 h2 h3
  · have hh := t.holdMask_turn m j
    have hne : e ≠ j := by omega
    exact ⟨(hh.status_other hne _).trans h.1, fun hp hor => (hh.status_other hne _).trans (h.2 hp hor)⟩

/-- What holding dies leaves. -/
structure Block.OnHolds (b c : Block) : Prop where
  only : ∃ rs ds, c = { b with regs := rs, dies := ds }
  word : ∀ a, (∀ e, a ≠ R.DIE_HOLD_STATUS e) → c.word a = b.word a

theorem Block.OnHold.holds {e : Nat} (h : b.OnHold e c) : b.OnHolds c := ⟨h.only, fun a ha => h.word a (ha e)⟩

theorem Block.OnHolds.trans {b c d : Block} (h : b.OnHolds c) (h' : c.OnHolds d) : b.OnHolds d := by
  refine ⟨?_, fun a ha => (h'.word a ha).trans (h.word a ha)⟩
  obtain ⟨rs, ds, rfl⟩ := h.only
  obtain ⟨rs', ds', rfl⟩ := h'.only
  exact ⟨_, _, rfl⟩

theorem Block.holdMask_holds (b : Block) (m : Nat) : b.OnHolds (b.holdMask m) :=
  Block.each_inv (P := b.OnHolds) ⟨⟨_, _, rfl⟩, fun _ _ => rfl⟩ fun c k _ h => h.trans (c.holdMask_turn m k).holds

theorem Block.OnHolds.faultLow (h : b.OnHolds c) : c.faultLow = b.faultLow := by
  refine Block.faultLow_congr ?_ (h.word _ faultNCtrl_ne_holdStatus)
  obtain ⟨rs, ds, rfl⟩ := h.only
  rfl

/-- The block c after FAULT_N was pulsed and dies were held. -/
theorem Block.fatal_tells {b c : Block} (h : b.pulseFaultN.OnHolds c) :
    c.faultLow = true ∧ c.out = b.out ++ b.pinTold c ∧ c.inflight = b.inflight ∧ c.frames = b.frames ∧
      ∀ a, (∀ e, a ≠ R.DIE_HOLD_STATUS e) → c.word a = b.word a := by
  obtain ⟨o, n, hpulse, hlow, hout⟩ := b.pulseFaultN_tells
  have hlow' := h.faultLow
  have hword (a : Nat) : b.pulseFaultN.word a = b.word a := by rw [hpulse]; rfl
  have hsame : b.pulseFaultN.inflight = b.inflight ∧ b.pulseFaultN.frames = b.frames := by rw [hpulse]; exact ⟨rfl, rfl⟩
  obtain ⟨p, hp⟩ : ∃ p, b.pulseFaultN = p := ⟨_, rfl⟩
  rw [hp] at h hlow hout hlow' hword hsame
  have hrest : c.out = p.out ∧ c.inflight = p.inflight ∧ c.frames = p.frames := by
    obtain ⟨rs, ds, rfl⟩ := h.only
    exact ⟨rfl, rfl, rfl⟩
  refine ⟨hlow'.trans hlow, ?_, hrest.2.1.trans hsame.1, hrest.2.2.trans hsame.2, fun a ha => (h.word a ha).trans (hword a)⟩
  rw [hrest.1, hout, Block.pinTold, Block.pinTold, hlow']

end Sys2Proof.Machine
end

section
/-!
PROOFS. ESCALATE, a fatal message and a package reset by escalation; O46 (R482 to R485, R487).
-/
namespace Sys2Proof.Machine
open Sys2Proof

variable {b c : Block}

/-! ## The package reset -/

/-- A reset whose end lies with the reset logic: what it leaves of its own reset's block. -/
theorem Block.warmReset_tells (b : Block) {k : PkgReset} (hk : k ≠ .powerOn) (straps : Nat) :
    let t := b.warmReset k straps
    t.word R.FLT_RESET_CAUSE = b.causeAfter k % 2 ^ 32 ∧ t.faultN = (b.resetBase k.warm false).faultN ∧ t.frames = [] ∧ t.inflight = [] ∧
      t.locked = false ∧ t.strapPins = straps := by
  intro t
  obtain ⟨⟨rs, honly⟩, hcause, -⟩ := b.resetBy_tells k
  have hp : (k == .powerOn) = false := by simpa using hk
  rw [hp] at honly
  obtain ⟨c, hc⟩ : ∃ c : Block, { b.resetBy k with strapPins := straps } = c := ⟨_, rfl⟩
  have hbase (p : Bool) : (b.resetBase p false).frames = [] ∧ (b.resetBase p false).inflight = [] ∧ (b.resetBase p false).locked = false := by
    cases p <;> exact ⟨rfl, rfl, rfl⟩
  have hccause : c.word R.FLT_RESET_CAUSE = b.causeAfter k % 2 ^ 32 := by
    rw [← hc]
    exact hcause
  have hcrest : c.faultN = (b.resetBase k.warm false).faultN ∧ c.frames = [] ∧ c.inflight = [] ∧ c.locked = false ∧ c.strapPins = straps := by
    rw [← hc, honly]
    exact ⟨rfl, (hbase _).1, (hbase _).2.1, (hbase _).2.2, rfl⟩
  have ht : t = if c.inReset then c else c.bootStart := by
    rw [show t = b.warmReset k straps from rfl, Block.warmReset, hc]
  rw [ht]
  split
  · exact ⟨hccause, hcrest⟩
  · obtain ⟨⟨rs', ds, o, hboot⟩, -, -, hword, -⟩ := c.bootStart_tells
    refine ⟨by rw [hword _ (by decide) (by decide) (by decide), hccause], ?_⟩
    rw [hboot]
    exact hcrest

/-- A pulse runs on through a warm reset. -/
theorem Block.resetBase_till (b : Block) : (b.resetBase true false).faultN.till = b.faultN.till := by
  unfold Block.resetBase
  dsimp only
  cases b.faultN.till <;> rfl

theorem Block.causeAfter_bit (b : Block) {k : PkgReset} (hk : k ≠ .powerOn) {i : Nat} (hi : i < 32)
    (hfirst : ∀ s n : Nat, s ≤ 1 → n ≤ 65535 → bitOf (k.bits + s * 2 ^ 25 + n) i = true) (hlater : bitOf k.bits i = true) :
    bitOf (b.causeAfter k % 2 ^ 32) i = true := by
  rw [bitOf_mod _ hi]
  cases h : b.inReset with
  | true => rw [Block.causeAfter_later hk h, bitOf_or, hlater, Bool.or_true]
  | false =>
    rw [Block.causeAfter_first hk h]
    refine hfirst _ _ ?_ ?_
    · cases b.started <;> decide
    · rw [sat_eq_min]
      exact Nat.min_le_left _ _

theorem Block.passOn_taken (b : Block) (d : Nat) : b.OnTake (b.passOn d) := by
  unfold Block.passOn
  split
  · rename_i m r _
    obtain ⟨e, seq, he, -, -, -, -, -, hinto⟩ := (b.modCol d fun x => { x with held := r }).intoPackage_tells m
    rw [hinto]
    exact (((Block.OnTake.refl b).modCol _ _).trans he).trans (e.capture_storeMsg_tells (by decide : 4 < 5) _ _ _).1
  · exact .refl b

theorem Block.takeQuiet_taken (b : Block) (k : Nat) (m : Msg) : b.OnTake (b.takeQuiet k m).2 := by
  have hfirst := (b.takeFirst_tells k m).2.1
  unfold Block.takeQuiet
  dsimp only
  split
  · exact hfirst.trans (Block.capture_storeMsg_tells _ (by omega) _ _ _).1
  · obtain ⟨e, seq, he, -, -, -, -, -, hinto⟩ := (b.takeFirst k m).2.intoPackage_tells (b.takeFirst k m).1
    rw [hinto]
    exact (hfirst.trans he).trans (e.capture_storeMsg_tells (by decide : 4 < 5) _ _ _).1

theorem Block.drainMsgs_faultN (b : Block) : b.drainMsgs.faultN = b.faultN := by
  have hmsgs (l : List Msg) (c : Block) : c.OnTake (l.foldl (fun b m => (b.takeQuiet m.col m).2) c) :=
    foldl_inv (P := c.OnTake) l (.refl c) fun d m _ h => h.trans (d.takeQuiet_taken _ m)
  have hone (d n : Nat) (c : Block) : c.OnTake ((List.range n).foldl (fun b _ => b.passOn d) c) :=
    foldl_inv (P := c.OnTake) _ (.refl c) fun e _ _ h => h.trans (e.passOn_taken d)
  have hall (c : Block) : c.OnTake ((List.range 4).foldl (fun b d => (List.range 64).foldl (fun b _ => b.passOn d) b) c) :=
    foldl_inv (P := c.OnTake) _ (.refl c) fun e d _ h => h.trans (hone d 64 e)
  have h := (hmsgs b.inflight { b with inflight := [] }).trans (hall _)
  exact h.faultN

/-- A package reset by escalation. -/
theorem Block.escalationReset_tells (hpulse : b.faultN.till.isSome = true) (straps : Nat) :
    let t := b.drainMsgs.warmReset .escalation straps
    bitOf (t.word R.FLT_RESET_CAUSE) 26 = true ∧ t.faultLow = true ∧ t.frames = [] ∧ t.inflight = [] ∧ t.locked = false ∧ t.strapPins = straps := by
  intro t
  obtain ⟨hcause, hn, hframes, hinflight, hlocked, hstraps⟩ := b.drainMsgs.warmReset_tells (k := .escalation) (by decide) straps
  refine ⟨?_, ?_, hframes, hinflight, hlocked, hstraps⟩
  · refine (congrArg (bitOf · 26) hcause).trans (Block.causeAfter_bit _ (by decide) (by decide) (fun s n hs hn => ?_) (by decide))
    simp only [bitOf, PkgReset.bits, beq_iff_eq]
    omega
  · have htill : t.faultN.till = b.faultN.till := by
      rw [hn, show PkgReset.escalation.warm = true from rfl, Block.resetBase_till, b.drainMsgs_faultN]
    rw [Block.faultLow, htill, hpulse]
    rfl

/-! ## ESCALATE -/

theorem Block.escalate_of_not {k s : Nat} (h : b.escDue k = false) : b.escalate k s = b := by
  unfold Block.escalate
  rw [if_pos (by simp [h])]

/-- Collector k has answered all and told it. -/
def Block.answering (b : Block) (k : Nat) : Block :=
  let n := b.fld (colEscCount k) F.FLT_ESC_COUNT_RECEIVED
  let c := ((b.setFld (colEscCount k) F.FLT_ESC_COUNT_ACKED n).raise (colStatus k) F.FLT_STATUS_ESC_FIRED).escShow k
  if k < 4 then c.send 6 k 0x03 n else c.send 0 2 0x03 n

theorem Block.escalate_of_due {k s : Nat} (h : b.escDue k = true) : b.escalate k s = (b.answering k).fatal k s := by
  unfold Block.escalate
  rw [if_neg (by simp [h])]
  rfl

/-- The message of an escalation. -/
def Block.escTold (b : Block) (k : Nat) : Block :=
  let n := b.fld (colEscCount k) F.FLT_ESC_COUNT_RECEIVED
  if k < 4 then b.send 6 k 0x03 n else b.send 0 2 0x03 n

theorem Block.answering_tells (b : Block) (k : Nat) :
    let t := b.answering k
    t.fld (colEscCount k) F.FLT_ESC_COUNT_ACKED = b.fld (colEscCount k) F.FLT_ESC_COUNT_RECEIVED ∧
      t.flag (colStatus k) F.FLT_STATUS_ESC_RUNNING = false ∧ t.flag (colStatus k) F.FLT_STATUS_ESC_FIRED = true ∧
      t.inflight = (b.escTold k).inflight ∧ (∃ rs is, t = { b with regs := rs, inflight := is }) ∧
      ∀ a, a ≠ colEscCount k → a ≠ colStatus k → t.word a = b.word a := by
  intro t
  obtain ⟨n, hn⟩ : ∃ n, b.fld (colEscCount k) F.FLT_ESC_COUNT_RECEIVED = n := ⟨_, rfl⟩
  obtain ⟨hacked, hrecv, -⟩ := b.acked_tells k n
  have hlt : n < 65536 := by rw [← hn]; exact Nat.mod_lt _ (by decide)
  obtain ⟨c, hc⟩ : ∃ c, b.setFld (colEscCount k) F.FLT_ESC_COUNT_ACKED n = c := ⟨_, rfl⟩
  rw [hc] at hacked hrecv
  have hconly : ∃ rs, c = { b with regs := rs } := by rw [← hc]; exact b.setFld_regs _ _ _
  have hcword (a : Nat) (ha : a ≠ colEscCount k) : c.word a = b.word a := by rw [← hc]; exact Block.word_setFld_ne _ _ _ ha
  obtain ⟨d, hd⟩ : ∃ d, c.raise (colStatus k) F.FLT_STATUS_ESC_FIRED = d := ⟨_, rfl⟩
  have hdword (a : Nat) (ha : a ≠ colStatus k) : d.word a = c.word a := by rw [← hd]; exact Block.word_setFld_ne _ _ _ ha
  have hdfld (f : Bf) : d.fld (colEscCount k) f = c.fld (colEscCount k) f := Block.fld_of_word (hdword _ (colStatus_ne_escCount k).symm) f
  have hfired : d.flag (colStatus k) F.FLT_STATUS_ESC_FIRED = true := by rw [← hd]; exact Block.flag_raise _ _ _ (by decide) (by decide)
  have hdonly : ∃ rs, d = { c with regs := rs } := by rw [← hd]; exact c.setFld_regs _ _ _
  obtain ⟨hrun, hfired', hshow⟩ := d.escShow_tells k
  obtain ⟨e, he⟩ : ∃ e, d.escShow k = e := ⟨_, rfl⟩
  have heword (a : Nat) (ha : a ≠ colStatus k) : e.word a = d.word a := by rw [← he]; exact d.escShow_word k ha
  rw [he] at hrun hfired' hshow
  have heonly : ∃ rs, e = { b with regs := rs } := by
    obtain ⟨rs, h⟩ := hshow
    obtain ⟨rs', h'⟩ := hdonly
    obtain ⟨rs'', h''⟩ := hconly
    exact ⟨rs, by rw [h, h', h'']⟩
  have ht : t = if k < 4 then e.send 6 k 0x03 n else e.send 0 2 0x03 n := by
    rw [show t = b.answering k from rfl, Block.answering, hn, hc, hd, he]
  have hte : (∃ is, t = { e with inflight := is }) ∧ t.inflight = (b.escTold k).inflight := by
    obtain ⟨rs, heb⟩ := heonly
    rw [ht, Block.escTold, hn]
    split
    · exact ⟨⟨_, rfl⟩, by rw [heb]; rfl⟩
    · exact ⟨⟨_, rfl⟩, by rw [heb]; rfl⟩
  obtain ⟨⟨is, hte⟩, hsent⟩ := hte
  have htword (a : Nat) : t.word a = e.word a := by rw [hte]; rfl
  have hcount (f : Bf) : t.fld (colEscCount k) f = c.fld (colEscCount k) f :=
    (Block.fld_of_word ((htword _).trans (heword _ (colStatus_ne_escCount k).symm)) f).trans (hdfld f)
  have hflag (f : Bf) : t.flag (colStatus k) f = e.flag (colStatus k) f := by rw [Block.flag, Block.fld_of_word (htword _), ← Block.flag]
  refine ⟨?_, ?_, (hflag _).trans (hfired'.trans hfired), hsent, ?_, fun a h1 h2 => ?_⟩
  · rw [hcount, hacked, hn, Nat.mod_eq_of_lt hlt]
  · rw [hflag, hrun, hdfld, hdfld, hacked, hrecv, hn, Nat.mod_eq_of_lt hlt]
    simp
  · obtain ⟨rs, heb⟩ := heonly
    exact ⟨rs, is, by rw [hte, heb]⟩
  · rw [htword, heword a h2, hdword a h2, hcword a h1]

end Sys2Proof.Machine
end

section
/-!
PROOFS. Escalation's fatal action at each collector; O46 (R482 to R485).
-/
namespace Sys2Proof.Machine
open Sys2Proof

variable {b c : Block}

/-! ## The fatal action of a collector (Table 16-9) -/

theorem Block.pulseFaultN_fld (b : Block) (a : Nat) (f : Bf) : b.pulseFaultN.fld a f = b.fld a f := by
  obtain ⟨o, n, h, -⟩ := b.pulseFaultN_tells
  rw [h]
  rfl

theorem Block.fatal_of_die {k s : Nat} (hk : k < 4) (h : b.fld (colEscCfg k) F.FLT_ESC_CFG_ACTION = 0) :
    b.fatal k s = b.pulseFaultN.holdRequest k true := by
  unfold Block.fatal
  dsimp only
  rw [if_pos hk, b.pulseFaultN_fld, h]
  rfl

theorem Block.fatal_of_package {s : Nat} (h : b.fld (colEscCfg 4) F.FLT_ESC_CFG_ACTION = 0) :
    b.fatal 4 s = b.pulseFaultN.holdMask (b.fld R.FLT_ESC_CFG F.FLT_ESC_CFG_HOLD_MASK) := by
  unfold Block.fatal
  dsimp only
  rw [if_neg (by decide), b.pulseFaultN_fld, h, if_pos (by decide), b.pulseFaultN_fld]
  rfl

theorem Block.fatal_of_reset {s : Nat} (h : b.fld (colEscCfg 4) F.FLT_ESC_CFG_ACTION ≠ 0) :
    b.fatal 4 s = b.pulseFaultN.drainMsgs.warmReset .escalation s := by
  unfold Block.fatal
  dsimp only
  rw [if_neg (by decide), b.pulseFaultN_fld, if_neg (by simpa using h)]

/-- A collector's registers are not those of Hold. -/
theorem colReg_ne_holdStatus (k e : Nat) {o : Nat} (ho : o < 0x1000) : colReg k o ≠ R.DIE_HOLD_STATUS e := by
  unfold colReg R.DIE_HOLD_STATUS dieBase
  split
  · unfold R.DIE_FLT_STATUS dieBase
    omega
  · unfold R.FLT_STATUS fltBase
    omega

theorem colReg_ne_holdCfg (k e : Nat) {o : Nat} (ho : o < 0x1000) : R.DIE_HOLD_CFG e ≠ colReg k o := by
  unfold colReg R.DIE_HOLD_CFG dieBase
  split
  · unfold R.DIE_FLT_STATUS dieBase
    omega
  · unfold R.FLT_STATUS fltBase
    omega

/-- A register of the boot, or FAULT_N_CTRL, is none of those a taken message writes. -/
theorem low_ne_col {k a : Nat} (hk : k < 4 ∨ a ≠ R.FLT_STATUS ∧ a ≠ R.FLT_STATUS + 0x14) (ha : a < 0x1000000) :
    a ≠ colEscCount k ∧ a ≠ colStatus k := by
  unfold colEscCount colStatus colReg
  split
  · unfold R.DIE_FLT_STATUS dieBase
    omega
  · rename_i h
    obtain ⟨h1, h2⟩ := hk.resolve_left h
    exact ⟨h2, h1⟩

theorem Block.answering_sameHold (b : Block) (k : Nat) : b.SameHold (b.answering k) ∧
    (b.answering k).faultLow = b.faultLow ∧ (b.answering k).out = b.out ∧ (b.answering k).frames = b.frames := by
  obtain ⟨-, -, -, -, ⟨rs, is, honly⟩, hword⟩ := b.answering_tells k
  obtain ⟨t, ht⟩ : ∃ t, b.answering k = t := ⟨_, rfl⟩
  rw [ht] at honly hword ⊢
  have hboot : R.BOOT_STATUS ≠ colEscCount k ∧ R.BOOT_STATUS ≠ colStatus k := low_ne_col (.inr ⟨by decide, by decide⟩) (by decide)
  have hctrl : R.FLT_FAULT_N_CTRL ≠ colEscCount k ∧ R.FLT_FAULT_N_CTRL ≠ colStatus k := low_ne_col (.inr ⟨by decide, by decide⟩) (by decide)
  refine ⟨⟨fun e => by rw [honly]; rfl, fun e f => ?_, by rw [honly], Block.started_congr (hword _ hboot.1 hboot.2)⟩,
    Block.faultLow_congr (by rw [honly]) (hword _ hctrl.1 hctrl.2), by rw [honly], by rw [honly]⟩
  rw [Block.flag, Block.fld_of_word (hword _ (colReg_ne_holdCfg k e (by decide)) (colReg_ne_holdCfg k e (by decide))), ← Block.flag]

theorem Block.SameHold.trans {b c d : Block} (h : b.SameHold c) (h' : c.SameHold d) : b.SameHold d :=
  ⟨fun e => (h'.phase e).trans (h.phase e), fun e f => (h'.word e f).trans (h.word e f), h'.relPin.trans h.relPin, h'.started.trans h.started⟩

theorem Block.HeldBy.same {e : Nat} {t : Block} (h : c.HeldBy e t) (same : b.SameHold c) : b.HeldBy e t :=
  h.congr (same.phase e) (same.pinLevel e) same.started

theorem Block.pinTold_congr {t : Block} (h : c.faultLow = b.faultLow) : c.pinTold t = b.pinTold t := by rw [Block.pinTold, h, ← Block.pinTold]

/-- The collector's answer as the action leaves it. -/
def Block.Answered (k n : Nat) (t : Block) : Prop :=
  t.fld (colEscCount k) F.FLT_ESC_COUNT_ACKED = n ∧ t.flag (colStatus k) F.FLT_STATUS_ESC_RUNNING = false ∧
    t.flag (colStatus k) F.FLT_STATUS_ESC_FIRED = true

/-- An escalation whose action holds dies, t being what it comes to. -/
theorem Block.escalated_tells {k : Nat} {t : Block} (h : (b.answering k).pulseFaultN.OnHolds t) :
    Block.Answered k (b.fld (colEscCount k) F.FLT_ESC_COUNT_RECEIVED) t ∧ t.inflight = (b.escTold k).inflight ∧ t.faultLow = true ∧
      t.out = b.out ++ b.pinTold t ∧ t.frames = b.frames := by
  obtain ⟨hacked, hrun, hfired, hsent, -, -⟩ := b.answering_tells k
  obtain ⟨-, hlow, hout, hframes⟩ := b.answering_sameHold k
  obtain ⟨hlow', hout', hinflight, hframes', hword⟩ := Block.fatal_tells h
  have hcount : t.word (colEscCount k) = (b.answering k).word (colEscCount k) := hword _ fun e => colReg_ne_holdStatus k e (by decide)
  have hstatus : t.word (colStatus k) = (b.answering k).word (colStatus k) := hword _ fun e => colReg_ne_holdStatus k e (by decide)
  refine ⟨⟨(Block.fld_of_word hcount _).trans hacked, ?_, ?_⟩, hinflight.trans hsent, hlow', by rw [hout', hout, Block.pinTold_congr hlow], hframes'.trans hframes⟩
  · rw [Block.flag, Block.fld_of_word hstatus, ← Block.flag, hrun]
  · rw [Block.flag, Block.fld_of_word hstatus, ← Block.flag, hfired]

theorem Block.answering_cfg (b : Block) (k : Nat) (f : Bf) : (b.answering k).fld (colEscCfg k) f = b.fld (colEscCfg k) f := by
  obtain ⟨-, -, -, -, -, hword⟩ := b.answering_tells k
  refine Block.fld_of_word (hword _ ?_ ?_) f
  · rw [colEscCount_eq, colEscCfg, colReg_eq]
    omega
  · rw [colEscCfg, colReg_eq]
    omega

theorem Block.escalate_holds_die {k s : Nat} (hk : k < 4) (due : b.escDue k = true) (act : b.fld (colEscCfg k) F.FLT_ESC_CFG_ACTION = 0) :
    let t := b.escalate k s
    Block.Answered k (b.fld (colEscCount k) F.FLT_ESC_COUNT_RECEIVED) t ∧
      t.inflight = (b.send 6 k 0x03 (b.fld (colEscCount k) F.FLT_ESC_COUNT_RECEIVED)).inflight ∧ t.faultLow = true ∧
      t.out = b.out ++ b.pinTold t ∧ b.HeldBy k t ∧ t.frames = b.frames := by
  intro t
  have ht : t = (b.answering k).pulseFaultN.holdRequest k true := by
    rw [show t = b.escalate k s from rfl, Block.escalate_of_due due, Block.fatal_of_die hk (by rw [Block.answering_cfg, act])]
  obtain ⟨h1, h2, h3, h4, h5⟩ := Block.escalated_tells (Block.holdRequest_hold (b.answering k).pulseFaultN k true).holds
  rw [ht]
  refine ⟨h1, h2.trans ?_, h3, h4, ((b.answering k).pulseFaultN.holdRequest_fatal k).same ((b.answering_sameHold k).1.trans (b.answering k).pulseFaultN_sameHold), h5⟩
  rw [Block.escTold, if_pos hk]

theorem Block.escalate_holds_mask {s : Nat} (due : b.escDue 4 = true) (act : b.fld (colEscCfg 4) F.FLT_ESC_CFG_ACTION = 0) :
    let t := b.escalate 4 s
    Block.Answered 4 (b.fld (colEscCount 4) F.FLT_ESC_COUNT_RECEIVED) t ∧
      t.inflight = (b.send 0 2 0x03 (b.fld (colEscCount 4) F.FLT_ESC_COUNT_RECEIVED)).inflight ∧ t.faultLow = true ∧
      t.out = b.out ++ b.pinTold t ∧ (∀ d, d < 4 → bitOf (b.fld R.FLT_ESC_CFG F.FLT_ESC_CFG_HOLD_MASK) d = true → b.HeldBy d t) ∧ t.frames = b.frames := by
  intro t
  have ht : t = (b.answering 4).pulseFaultN.holdMask (b.fld R.FLT_ESC_CFG F.FLT_ESC_CFG_HOLD_MASK) := by
    rw [show t = b.escalate 4 s from rfl, Block.escalate_of_due due, Block.fatal_of_package (by rw [Block.answering_cfg, act]),
      show R.FLT_ESC_CFG = colEscCfg 4 from rfl, Block.answering_cfg]
  obtain ⟨h1, h2, h3, h4, h5⟩ := Block.escalated_tells ((b.answering 4).pulseFaultN.holdMask_holds (b.fld R.FLT_ESC_CFG F.FLT_ESC_CFG_HOLD_MASK))
  rw [ht]
  exact ⟨h1, h2.trans (by rw [Block.escTold, if_neg (by decide)]), h3, h4, fun d hd hm =>
    (Block.holdMask_held hd hm (b.answering 4).pulseFaultN).same ((b.answering_sameHold 4).1.trans (b.answering 4).pulseFaultN_sameHold), h5⟩

theorem Block.pulseFaultN_till (b : Block) : b.pulseFaultN.faultN.till.isSome = true := by
  unfold Block.pulseFaultN
  rw [Block.pinning_eq _ (by exact rfl)]
  rfl

theorem Block.escalate_resets {s : Nat} (due : b.escDue 4 = true) (act : b.fld (colEscCfg 4) F.FLT_ESC_CFG_ACTION ≠ 0) :
    let t := b.escalate 4 s
    bitOf (t.word R.FLT_RESET_CAUSE) 26 = true ∧ t.faultLow = true ∧ t.frames = [] ∧ t.inflight = [] ∧ t.locked = false ∧ t.strapPins = s := by
  intro t
  have ht : t = (b.answering 4).pulseFaultN.drainMsgs.warmReset .escalation s := by
    rw [show t = b.escalate 4 s from rfl, Block.escalate_of_due due, Block.fatal_of_reset (by rwa [Block.answering_cfg])]
  rw [ht]
  exact Block.escalationReset_tells (b.answering 4).pulseFaultN_till s

/-! ## A fatal message at a die -/

theorem Block.take_of_fatal {k s : Nat} {m : Msg} (hk : k < 4) (h : b.nextMsg k = some m) (hsev : b.severity m.typ m.kind = 3) (hkind : m.kind ≠ 3) :
    b.take k s = (({ b with inflight := b.inflight.erase m } : Block).takeQuiet k m).2.fatal k s := by
  obtain ⟨c, hc⟩ : ∃ c, ({ b with inflight := b.inflight.erase m } : Block) = c := ⟨_, rfl⟩
  have hsev' : c.severity m.typ m.kind = 3 := by rw [← hc]; exact hsev
  obtain ⟨hfst, -⟩ := Block.takeQuiet_fatal hk c m hsev'
  unfold Block.take
  simp only [h]
  rw [hc, if_pos]
  simp [hfst, hkind]

theorem Block.take_fatal_tells {k s : Nat} {m : Msg} (hk : k < 4) (h : b.nextMsg k = some m) (hsev : b.severity m.typ m.kind = 3) (hkind : m.kind ≠ 3)
    (act : b.fld (colEscCfg k) F.FLT_ESC_CFG_ACTION = 0) :
    let t := b.take k s
    t.inflight = b.inflight.erase m ∧ t.faultLow = true ∧ t.out = b.out ++ b.pinTold t ∧ b.HeldBy k t ∧
      t.flag R.FLT_STATUS F.FLT_STATUS_FATAL_SEEN = true := by
  intro t
  obtain ⟨c, hc⟩ : ∃ c, ({ b with inflight := b.inflight.erase m } : Block) = c := ⟨_, rfl⟩
  have hsev' : c.severity m.typ m.kind = 3 := by rw [← hc]; exact hsev
  obtain ⟨-, hout, hseen, htaken, hdie, hword⟩ := Block.takeQuiet_fatal hk c m hsev'
  have ht : t = (c.takeQuiet k m).2.fatal k s := by rw [← hc]; exact Block.take_of_fatal hk h hsev hkind
  have hcb : c.out = b.out ∧ c.inflight = b.inflight.erase m ∧ c.faultN = b.faultN ∧ c.relPin = b.relPin := by
    rw [← hc]
    exact ⟨rfl, rfl, rfl, rfl⟩
  obtain ⟨hcout, hcinflight, hcn, hcpin⟩ := hcb
  have hcword (a : Nat) : c.word a = b.word a := by rw [← hc]; rfl
  have hcdie (e : Nat) : c.die e = b.die e := by rw [← hc]; rfl
  obtain ⟨q, hq⟩ : ∃ q, (c.takeQuiet k m).2 = q := ⟨_, rfl⟩
  rw [hq] at hout hseen htaken hdie hword ht
  have hlow {a : Nat} (ha : a < 0x1000000) (hs : a ≠ R.FLT_STATUS) : q.word a = b.word a := by
    obtain ⟨h1, h2⟩ := low_ne_col (k := k) (.inl hk) ha
    refine (hword a h1 h2 hs ?_).trans (hcword a)
    unfold colStatus colReg R.DIE_FLT_STATUS dieBase
    rw [if_pos hk]
    omega
  have hcfgWord : q.word (colEscCfg k) = b.word (colEscCfg k) := by
    refine (hword _ ?_ ?_ ?_ ?_).trans (hcword _)
    · rw [colEscCount_eq, colEscCfg, colReg_eq]
      omega
    · rw [colEscCfg, colReg_eq]
      omega
    · rw [colEscCfg, colReg_eq]
      exact colStatus_ne_fltStatus k (by decide)
    · rw [colEscCfg, colReg_eq]
      omega
  have hholdCfg : q.word (R.DIE_HOLD_CFG k) = b.word (R.DIE_HOLD_CFG k) := by
    refine (hword _ (colReg_ne_holdCfg k k (by decide)) (colReg_ne_holdCfg k k (by decide)) ?_ ?_).trans (hcword _)
    · unfold R.DIE_HOLD_CFG dieBase R.FLT_STATUS fltBase
      omega
    · unfold colStatus colReg R.DIE_FLT_STATUS R.DIE_HOLD_CFG dieBase
      rw [if_pos hk]
      omega
  have hqlow : q.faultLow = b.faultLow := Block.faultLow_congr (htaken.faultN.trans hcn) (hlow (by decide) (by decide))
  have hpin : q.pinLevel k = b.pinLevel k := by
    rw [Block.pinLevel, Block.flag, Block.fld_of_word hholdCfg, Block.flag, Block.fld_of_word hholdCfg, htaken.relPin, hcpin]
    rfl
  have hphase : (q.die k).phase = (b.die k).phase := by
    obtain ⟨col, hd⟩ := hdie k
    rw [hd, hcdie]
  have hfatal : t = q.pulseFaultN.holdRequest k true := by
    rw [ht, Block.fatal_of_die hk (by rw [Block.fld_of_word hcfgWord, act])]
  obtain ⟨h1, h2, h3, -, h5⟩ := Block.fatal_tells (q.pulseFaultN.holdRequest_hold k true).holds
  rw [hfatal]
  refine ⟨h3.trans (htaken.inflight.trans hcinflight), h1, by rw [h2, hout, hcout, Block.pinTold_congr hqlow], ?_, ?_⟩
  · exact ((q.pulseFaultN.holdRequest_fatal k).same q.pulseFaultN_sameHold).congr hphase hpin (Block.started_congr (hlow (by decide) (by decide)))
  · have hne (e : Nat) : R.FLT_STATUS ≠ R.DIE_HOLD_STATUS e := colReg_ne_holdStatus 4 e (o := 0) (by decide)
    rw [Block.flag, Block.fld_of_word (h5 _ hne), ← Block.flag, hseen]

/-- Settles O46: what is answered and shown (`escShow_tells`), and the action at each collector (`escalate_holds_die`, `escalate_resets`). -/
theorem escalationTakesTheFatalAction : Obligations.EscalationTakesTheFatalAction := by
  unfold Obligations.EscalationTakesTheFatalAction
  intro b straps held pin n answered
  refine ⟨fun w k v hreach => ?_, fun k hno => ?_, fun d due act => ?_, fun due act => ?_, fun due act => ?_, fun d m hnext hsev hkind act => ?_, fun hnone => ?_,
    fun e he => ⟨fun early => ?_, fun late => ?_⟩, fun w v hreach => ⟨fun h => ?_, fun h bad => ?_, fun h lo hi => ?_⟩⟩
  · obtain ⟨hbeyond, hack⟩ := Block.escAck_tells (b := b) (w := w) (k := k.val) (v := v.toNat)
    exact ⟨fun h => takes_congr (takes_escAck hreach) (hbeyond h), fun h => (takes_escAck hreach).to (hack h)⟩
  · exact takes_congr (takes_escalate ⟨k, straps⟩) (Block.escalate_of_not hno)
  · obtain ⟨h1, h2, h3, h4, h5, h6⟩ := Block.escalate_holds_die (s := straps.toNat) d.isLt due act
    exact (takes_escalate ⟨d.castSucc, straps⟩).to ⟨h1, h2, h3, h4, h5, h6⟩
  · obtain ⟨h1, h2, h3, h4, h5, h6⟩ := Block.escalate_holds_mask (s := straps.toNat) due act
    exact (takes_escalate ⟨4, straps⟩).to ⟨h1, h2, h3, h4, fun d hm => h5 d.val d.isLt hm, h6⟩
  · exact (takes_escalate ⟨4, straps⟩).to (Block.escalate_resets due act)
  · exact (takes_faultMessage ⟨.die d, straps⟩).to (Block.take_fatal_tells d.isLt hnext hsev hkind act)
  · exact takes_congr takes_faultNPulseEnd (Block.pulseEnd_of_none hnone)
  · exact takes_congr takes_faultNPulseEnd (Block.pulseEnd_of_early he early)
  · exact takes_faultNPulseEnd.to (Block.pulseEnd_tells he late)
  · exact takes_congr (takes_faultNClear hreach) (Block.faultNClear_of_none h)
  · exact takes_congr (takes_faultNClear hreach) (Block.faultNClear_of_bad h bad)
  · exact (takes_faultNClear hreach).to (Block.faultNClear_tells h lo hi)

end Sys2Proof.Machine
end

section
/-!
PROOFS. What package resets leave of the block, of its dies and of the registers (R74, R413, R486 to R488, R540).
-/
namespace Sys2Proof.Machine
open Sys2Proof

variable {b c : Block}

/-! ## The rails -/

/-- A die of which only the rail is left. -/
def Die.Railed (x : Die) : Prop := ∃ cmd conf mv wr, x = { cmdMv := cmd, confMv := conf, sagMv := mv, writing := wr }

theorem Die.afterReset_railed (x : Die) : x.afterReset.Railed := ⟨_, _, _, _, rfl⟩
theorem Die.railed_default : ({} : Die).Railed := ⟨_, _, _, _, rfl⟩

/-- The rails of a list of dies after a reset. -/
def railsAfter (l : SMap Die) : SMap Die := (l.map fun e => (e.1, e.2.afterReset)).filter fun e => e.2 != {}

theorem railsAfter_cons (e : Nat × Die) (l : SMap Die) :
    railsAfter (e :: l) = if e.2.afterReset = {} then railsAfter l else (e.1, e.2.afterReset) :: railsAfter l := by
  unfold railsAfter
  rw [List.map_cons, List.filter_cons]
  by_cases h : e.2.afterReset = {}
  · rw [if_neg (by simp [h]), if_pos h]
  · rw [if_pos (by simp [h]), if_neg h]

theorem get_railsAfter_railed (l : SMap Die) (d : Nat) : (SMap.get {} (railsAfter l) d).Railed := by
  induction l with
  | nil => exact Die.railed_default
  | cons e l ih =>
    rw [railsAfter_cons]
    split
    · exact ih
    · unfold SMap.get
      split
      · exact e.2.afterReset_railed
      · exact ih

theorem get_railsAfter_of_not_mem {l : SMap Die} {d : Nat} (h : d ∉ l.map (·.1)) : SMap.get {} (railsAfter l) d = {} := by
  induction l with
  | nil => rfl
  | cons e l ih =>
    rw [List.map_cons, List.mem_cons, not_or] at h
    rw [railsAfter_cons]
    split
    · exact ih h.2
    · unfold SMap.get
      rw [if_neg fun e' => h.1 e'.symm]
      exact ih h.2

/-- Each die's rail stands where it is. -/
theorem get_railsAfter {l : SMap Die} (nodup : (l.map (·.1)).Nodup) (d : Nat) : SMap.get {} (railsAfter l) d = (SMap.get {} l d).afterReset := by
  induction l with
  | nil => rfl
  | cons e l ih =>
    rw [List.map_cons, List.nodup_cons] at nodup
    obtain ⟨hnot, hrest⟩ := nodup
    have hget : SMap.get {} (e :: l) d = if e.1 = d then e.2 else SMap.get {} l d := rfl
    rw [railsAfter_cons, hget]
    by_cases hd : e.1 = d
    · rw [if_pos hd]
      split
      · rename_i hdef
        rw [get_railsAfter_of_not_mem (hd ▸ hnot), hdef]
      · exact if_pos hd
    · rw [if_neg hd]
      split
      · exact ih hrest
      · exact (if_neg hd).trans (ih hrest)

theorem Block.diesAfter_railed (b : Block) (power : Bool) (d : Nat) : (SMap.get {} (b.diesAfter power) d).Railed := by
  cases power
  · exact get_railsAfter_railed b.dies d
  · exact Die.railed_default

/-! ## The block after a reset -/

/-- All that every reset clears, in t. -/
def Block.Cleared (b t : Block) : Prop := t.frames = [] ∧ t.fifos = [] ∧ t.engines = [] ∧ t.regions = [] ∧ t.inflight = [] ∧
  t.pools = [] ∧ t.slow = [] ∧ t.jobs = [] ∧ t.dmaEng = [] ∧ t.locked = false ∧ t.boot.bus = false ∧ t.fuses = b.fuses ∧
  t.refLost = b.refLost ∧ ∀ d, (t.die d).Railed

/-- The rails stand where they are, in t. -/
def Block.RailsStand (b t : Block) : Prop := (b.dies.map (·.1)).Nodup → ∀ d, (t.die d).cmdMv = (b.die d).cmdMv ∧
  (t.die d).writing = (b.die d).writing ∧ (t.die d).sagMv = min 765 (b.die d).sagMv

theorem Block.resetBase_cleared (b : Block) (warm power : Bool) : b.Cleared (b.resetBase warm power) := by
  have hdie (d : Nat) : ((b.resetBase warm power).die d).Railed := by
    have h := b.diesAfter_railed power d
    cases warm <;> exact h
  cases warm <;> exact ⟨rfl, rfl, rfl, rfl, rfl, rfl, rfl, rfl, rfl, rfl, rfl, rfl, rfl, hdie⟩

theorem Block.resetBase_rails (b : Block) (warm : Bool) : b.RailsStand (b.resetBase warm false) := by
  intro nodup d
  have hdie : (b.resetBase warm false).die d = (b.die d).afterReset := by
    have h := get_railsAfter nodup d
    cases warm <;> exact h
  rw [hdie]
  exact ⟨rfl, rfl, rfl⟩

theorem Block.Cleared.of_same {t u : Block} (h : b.Cleared t) (hu : ∃ rs o, u = { t with regs := rs, out := o }) : b.Cleared u := by
  obtain ⟨rs, o, rfl⟩ := hu
  exact h

/-- What a warm reset keeps, in t. -/
def Block.KeptWarm (b t : Block) : Prop := t.ticks = b.ticks ∧ t.baseA = b.baseA ∧ t.baseB = b.baseB ∧ t.rings = b.rings ∧ t.records = b.records

theorem Block.resetBy_cleared (b : Block) (k : PkgReset) : b.Cleared (b.resetBy k) := by
  obtain ⟨⟨rs, h⟩, -⟩ := b.resetBy_tells k
  rw [h]
  exact (b.resetBase_cleared k.warm (k == .powerOn)).of_same ⟨rs, _, rfl⟩

theorem Block.resetBy_rails (b : Block) {k : PkgReset} (hk : k ≠ .powerOn) : b.RailsStand (b.resetBy k) := by
  obtain ⟨⟨rs, h⟩, -⟩ := b.resetBy_tells k
  rw [show (k == .powerOn) = false by simpa using hk] at h
  rw [h]
  exact b.resetBase_rails k.warm

/-- Outputs, pins and the pins' latches of the reset block. -/
theorem Block.resetBy_pins (b : Block) (k : PkgReset) : (b.resetBy k).out = b.out ++ b.busTold ∧ (b.resetBy k).pinLow = b.pinLow ∧
    (b.resetBy k).pkgHold = b.pkgHold ∧ (b.resetBy k).boot = {} ∧ (b.resetBy k).inReset = b.inReset := by
  obtain ⟨⟨rs, h⟩, -⟩ := b.resetBy_tells k
  have hbase : (b.resetBase k.warm (k == .powerOn)).pinLow = b.pinLow ∧ (b.resetBase k.warm (k == .powerOn)).pkgHold = b.pkgHold ∧
      (b.resetBase k.warm (k == .powerOn)).boot = {} := by
    cases k.warm <;> exact ⟨rfl, rfl, rfl⟩
  obtain ⟨h1, h2, h3⟩ := hbase
  rw [h]
  refine ⟨rfl, h1, h2, h3, ?_⟩
  unfold Block.inReset
  dsimp only
  rw [h1, h2]

theorem Block.resetBy_warm (b : Block) {k : PkgReset} (hk : k.warm = true) : b.KeptWarm (b.resetBy k) := by
  obtain ⟨⟨rs, h⟩, -⟩ := b.resetBy_tells k
  rw [h, hk]
  exact ⟨rfl, rfl, rfl, rfl, rfl⟩

theorem Block.resetBy_cold (b : Block) {k : PkgReset} (hk : k.warm = false) : (b.resetBy k).ticks = 0 ∧ (b.resetBy k).ctrs = [] ∧ (b.resetBy k).records = [] := by
  obtain ⟨⟨rs, h⟩, -⟩ := b.resetBy_tells k
  rw [h, hk]
  exact ⟨rfl, rfl, rfl⟩

/-- A register that a reset keeps. -/
theorem Block.resetBy_word (b : Block) {k : PkgReset} (hk : k ≠ .powerOn) {a : Nat} (ha : captureReg a = true ∨ k.warm = true ∧ warmReg a = true)
    (hc : a ≠ R.FLT_RESET_CAUSE) (hs : a ≠ R.FLT_STATUS) : (b.resetBy k).word a = b.word a := by
  obtain ⟨-, -, -, hword⟩ := b.resetBy_tells k
  rw [hword a hc hs, if_pos]
  rw [show (k == .powerOn) = false by simpa using hk, keepsReg]
  rcases ha with ha | ⟨hw, ha⟩
  · simp [ha]
  · simp [hw, ha]

theorem captureReg_apart {a : Nat} (h : captureReg a = true) : R.FLT_FIRST_MSG_LO ≤ a ∧ a ≤ R.FLT_FIRST_REF_HI := by
  simp only [captureReg, Bool.and_eq_true, decide_eq_true_eq] at h
  exact h.1

theorem Block.resetBy_capture (b : Block) {k : PkgReset} (hk : k ≠ .powerOn) {a : Nat} (ha : captureReg a = true) : (b.resetBy k).word a = b.word a := by
  obtain ⟨hlo, hhi⟩ := captureReg_apart ha
  refine b.resetBy_word hk (.inl ha) ?_ ?_
  · rintro rfl
    exact absurd hlo (by decide)
  · rintro rfl
    exact absurd hlo (by decide)

/-- The registers of the table of warm resets, in t. -/
def Block.KeptRegs (b t : Block) : Prop := t.word R.FLT_FAULT_N_CTRL = b.word R.FLT_FAULT_N_CTRL ∧ t.word R.CHN_ADDR = b.word R.CHN_ADDR ∧
  t.word R.CHN_RING_HOLD = b.word R.CHN_RING_HOLD ∧ t.word R.PAIR_EPOCH = b.word R.PAIR_EPOCH

theorem Block.resetBy_kept (b : Block) {k : PkgReset} (hw : k.warm = true) : b.KeptRegs (b.resetBy k) := by
  have hk : k ≠ .powerOn := by
    rintro rfl
    exact absurd hw (by decide)
  refine ⟨?_, ?_, ?_, ?_⟩
  all_goals exact b.resetBy_word hk (.inr ⟨hw, by decide⟩) (by decide) (by decide)

/-! ## The boot that follows -/

/-- The sequencer stands at step 2 with straps p, in t. -/
def Block.Boots (p : Nat) (t : Block) : Prop := t.boot.start = t.ticks ∧ t.chain.on = true ∧ t.word R.PKG_STRAPS = p ∧
  t.pinLow = false ∧ t.pkgHold = .none ∧ t.boot.phase = .fuses ∧ t.fld R.BOOT_STATUS F.BOOT_STATUS_STEP = 2 ∧
  ∀ d, d < 4 → (t.die d).cmdMv = 765

theorem Block.inReset_eq_false : b.inReset = false ↔ b.pinLow = false ∧ b.pkgHold = .none := by
  simp [Block.inReset]

theorem Block.bootStart_boots {p : Nat} (h : b.inReset = false) (hp : b.strapPins = p) (hlt : p < 2 ^ 7) : Block.Boots p b.bootStart := by
  obtain ⟨⟨rs, ds, o, honly⟩, hstraps, hstep, -, -, hall⟩ := b.bootStart_tells
  obtain ⟨hpin, hhold⟩ := Block.inReset_eq_false.mp h
  have hrest : b.bootStart.boot.start = b.bootStart.ticks ∧ b.bootStart.chain.on = true ∧ b.bootStart.pinLow = b.pinLow ∧
      b.bootStart.pkgHold = b.pkgHold ∧ b.bootStart.boot.phase = .fuses := by
    rw [honly]
    exact ⟨rfl, rfl, rfl, rfl, rfl⟩
  obtain ⟨h1, h2, h3, h4, h5⟩ := hrest
  exact ⟨h1, h2, by rw [hstraps, hp, Nat.mod_eq_of_lt (lt_trans hlt (by decide))], h3.trans hpin, h4.trans hhold, h5, hstep, hall⟩

theorem Block.bootStart_cleared (h : b.Cleared c) : b.Cleared c.bootStart := by
  obtain ⟨⟨rs, ds, o, honly⟩, -, -, -, hdies, -⟩ := c.bootStart_tells
  obtain ⟨h1, h2, h3, h4, h5, h6, h7, h8, h9, h10, -, h12, h13, h14⟩ := h
  have hrail (d : Nat) : (c.bootStart.die d).Railed := by
    obtain ⟨cmd, conf, mv, wr, hd⟩ := h14 d
    rcases hdies d with e | e
    · rw [e]
      exact h14 d
    · rw [e, hd]
      exact ⟨_, _, _, _, rfl⟩
  obtain ⟨t, ht⟩ : ∃ t, c.bootStart = t := ⟨_, rfl⟩
  rw [ht] at honly hrail ⊢
  refine ⟨?_, ?_, ?_, ?_, ?_, ?_, ?_, ?_, ?_, ?_, ?_, ?_, ?_, hrail⟩
  all_goals rw [honly]
  all_goals assumption

theorem Block.bootStart_keptWarm (h : b.KeptWarm c) : b.KeptWarm c.bootStart := by
  obtain ⟨⟨rs, ds, o, honly⟩, -⟩ := c.bootStart_tells
  rw [honly]
  exact h

end Sys2Proof.Machine
end

section
/-!
PROOFS. The package resets as commands: power-on, sag, pin, soft (R74, R413, R486 to R488, R540).
-/
namespace Sys2Proof.Machine
open Sys2Proof

variable {b c : Block}

theorem takes_powerOnReset : Takes .powerOnReset b b.powerOnReset := fun _ => rfl
theorem takes_powerOnResetEnd (s : BitVec 7) : Takes (.powerOnResetEnd s) b (b.powerOnEnd s.toNat) := fun _ => rfl
theorem takes_sagReset (d : Fin 4) (mv : BitVec 10) : Takes (.sagReset d mv) b (b.sagReset d.val mv.toNat) := fun _ => rfl
theorem takes_sagResetEnd (s : BitVec 7) : Takes (.sagResetEnd s) b (b.sagResetEnd s.toNat) := fun _ => rfl
theorem takes_pinReset : Takes .pinReset b b.pinReset := fun _ => rfl
theorem takes_resetRelease (s : BitVec 7) : Takes (.resetRelease s) b (b.resetRelease s.toNat) := fun _ => rfl
theorem takes_packageSoftReset {w : Writer} {v : BitVec 32} (s : BitVec 7) (hreach : b.reaches w .pkg) :
    Takes (.packageSoftReset w v s) b (b.softReset w v.toNat s.toNat) := takes_of_write hreach fun _ => rfl

/-! ## Power-on -/

/-- The rails cleared too, the block after a power-on reset. -/
theorem Block.powerOnReset_leaves (b : Block) :
    let t := b.powerOnReset
    b.Cleared t ∧ t.pkgHold = .powerOn ∧ t.word R.FLT_RESET_CAUSE = 2 ^ 31 ∧ t.ticks = 0 ∧ t.ctrs = [] ∧ t.records = [] ∧ t.boot.phase = .off ∧
      t.dies = [] ∧ t.out = b.out ++ b.busTold ++ [.pin "SAG_WARN_N" false] ∧ ∀ a, a ≠ R.FLT_RESET_CAUSE → t.word a = resetWord a := by
  intro t
  obtain ⟨⟨rs, honly⟩, hcause, hstatus, hword⟩ := b.resetBy_tells .powerOn
  have hcleared := b.resetBy_cleared .powerOn
  obtain ⟨hout, -, -, hboot, -⟩ := b.resetBy_pins .powerOn
  obtain ⟨hticks, hctrs, hrecords⟩ := b.resetBy_cold (k := .powerOn) rfl
  have hdies : (b.resetBy .powerOn).dies = [] := by rw [honly]; rfl
  obtain ⟨c, hc⟩ : ∃ c, b.resetBy .powerOn = c := ⟨_, rfl⟩
  rw [hc] at hcause hstatus hword hcleared hout hboot hticks hctrs hrecords hdies
  have ht : t = { c.emit (.pin "SAG_WARN_N" false) with pkgHold := .powerOn } := by
    rw [show t = b.powerOnReset from rfl, Block.powerOnReset, hc]
  have htword (a : Nat) : t.word a = c.word a := by rw [ht]; rfl
  have hkeeps (a : Nat) : keepsReg PkgReset.powerOn.warm (PkgReset.powerOn == .powerOn) a = false := by simp [keepsReg, PkgReset.warm]
  have hrest : t.pkgHold = .powerOn ∧ t.ticks = c.ticks ∧ t.ctrs = c.ctrs ∧ t.records = c.records ∧ t.boot = c.boot ∧ t.dies = c.dies ∧
      t.out = c.out ++ [.pin "SAG_WARN_N" false] ∧ b.Cleared t := by
    rw [ht]
    exact ⟨rfl, rfl, rfl, rfl, rfl, rfl, rfl, hcleared⟩
  obtain ⟨h1, h2, h3, h4, h5, h6, h7, h8⟩ := hrest
  refine ⟨h8, h1, ?_, h2.trans hticks, h3.trans hctrs, h4.trans hrecords, by rw [h5, hboot], h6.trans hdies, by rw [h7, hout], fun a ha => ?_⟩
  · rw [htword, hcause, b.causeAfter_powerOn]
    exact Nat.mod_eq_of_lt (by decide)
  · rw [htword]
    by_cases hs : a = R.FLT_STATUS
    · rw [hs]
      exact hstatus rfl
    · rw [hword a ha hs, hkeeps]
      rfl

theorem Block.powerOnEnd_of_not {s : Nat} (h : b.pkgHold ≠ .powerOn) : b.powerOnEnd s = b := by
  unfold Block.powerOnEnd
  rw [if_neg (by simpa using h)]

theorem Block.powerOnEnd_of (s : Nat) (h : b.pkgHold = .powerOn) : b.powerOnEnd s = b.holdOver s := by
  unfold Block.powerOnEnd
  rw [if_pos (by simp [h])]

/-- The block whose cause of a reset has ended, RESET_N apart. -/
def Block.overed (b : Block) (s : Nat) : Block := { b with pkgHold := .none, strapPins := s }

theorem Block.holdOver_of_low {s : Nat} (h : b.pinLow = true) : b.holdOver s = b.overed s := by
  unfold Block.holdOver
  dsimp only
  rw [if_pos (by simp [Block.inReset, h])]
  rfl

theorem Block.overed_inReset {s : Nat} (h : b.pinLow = false) : (b.overed s).inReset = false := Block.inReset_eq_false.mpr ⟨h, rfl⟩

theorem Block.holdOver_of_high {s : Nat} (h : b.pinLow = false) : b.holdOver s = (b.overed s).bootStart := by
  have hno : (b.overed s).inReset = false := Block.overed_inReset h
  unfold Block.holdOver
  dsimp only
  rw [show ({ b with pkgHold := .none, strapPins := s } : Block) = b.overed s from rfl, hno]
  rfl

theorem Block.holdOver_boots {s : Nat} (hs : s < 2 ^ 7) (h : b.pinLow = false) : Block.Boots s (b.holdOver s) := by
  rw [Block.holdOver_of_high h]
  exact Block.bootStart_boots (Block.overed_inReset h) rfl hs

theorem Block.bootStart_rest (b : Block) : b.bootStart.ticks = b.ticks ∧ b.bootStart.frames = b.frames ∧ b.bootStart.ctrs = b.ctrs ∧
    ∃ l, b.bootStart.out = b.out ++ l := by
  obtain ⟨⟨rs, ds, o, h⟩, -⟩ := b.bootStart_tells
  rw [h]
  exact ⟨rfl, rfl, rfl, o, rfl⟩

/-! ## Sag -/

theorem Block.sagReset_above {d mv : Nat} (h : ¬ mv * 200 < b.fld (R.DIE_SAG_CFG d) F.DIE_SAG_CFG_RESET_PCT * b.sagRef d) :
    (b.sagReset d mv) = { b with regs := (b.sagReset d mv).regs } ∧
      (b.sagReset d mv).fld (R.DIE_SAG_STATUS d) F.DIE_SAG_STATUS_MIN_MV = min mv (b.fld (R.DIE_SAG_STATUS d) F.DIE_SAG_STATUS_MIN_MV) := by
  have ht : b.sagReset d mv = b.seeMv d mv := by
    unfold Block.sagReset
    rw [if_pos (by simp [Block.belowPct, Nat.not_lt.mp h])]
  rw [ht]
  exact ⟨Block.setWord_only _ _ _, b.seeMv_min d mv⟩

theorem Block.sagReset_below {d mv : Nat} (hd : d < 4) (h : mv * 200 < b.fld (R.DIE_SAG_CFG d) F.DIE_SAG_CFG_RESET_PCT * b.sagRef d) :
    let t := b.sagReset d mv
    b.Cleared t ∧ (∀ a, captureReg a = true → t.word a = b.word a) ∧ b.RailsStand t ∧ t.ticks = 0 ∧ t.ctrs = [] ∧
      t.out = b.out ++ b.busTold ++ [.pin "SAG_WARN_N" true] ∧ t.pkgHold = (if b.pkgHold = .none then .sag else b.pkgHold) ∧
      bitOf (t.word R.FLT_RESET_CAUSE) 30 = true ∧ bitOf (t.word R.FLT_RESET_CAUSE) (16 + d) = true := by
  intro t
  have hk : PkgReset.sag d ≠ .powerOn := by simp
  obtain ⟨-, hcause, -, -⟩ := b.resetBy_tells (.sag d)
  have hcleared := b.resetBy_cleared (.sag d)
  have hrails := b.resetBy_rails hk
  have hcapture (a : Nat) (ha : captureReg a = true) := b.resetBy_capture hk ha
  obtain ⟨hout, -, hhold, -, -⟩ := b.resetBy_pins (.sag d)
  obtain ⟨hticks, hctrs, -⟩ := b.resetBy_cold (k := .sag d) rfl
  obtain ⟨c, hc⟩ : ∃ c, b.resetBy (.sag d) = c := ⟨_, rfl⟩
  rw [hc] at hcause hcleared hrails hcapture hout hhold hticks hctrs
  have ht : t = { c.emit (.pin "SAG_WARN_N" true) with pkgHold := if b.pkgHold = .none then .sag else b.pkgHold } := by
    rw [show t = b.sagReset d mv from rfl, Block.sagReset, if_neg (by simp [Block.belowPct, h]), hc]
    dsimp only
    rw [show (c.emit (.pin "SAG_WARN_N" true)).pkgHold = b.pkgHold from hhold]
    by_cases hnone : b.pkgHold = .none
    · rw [if_pos (by simp [hnone]), if_pos hnone]
    · rw [if_neg (by simp [hnone]), if_neg hnone, ← hhold]
      rfl
  have htword (a : Nat) : t.word a = c.word a := by rw [ht]; rfl
  have hrest : t.ticks = c.ticks ∧ t.ctrs = c.ctrs ∧ t.out = c.out ++ [.pin "SAG_WARN_N" true] ∧ t.pkgHold = (if b.pkgHold = .none then .sag else b.pkgHold) ∧
      b.Cleared t ∧ b.RailsStand t := by
    rw [ht]
    exact ⟨rfl, rfl, rfl, rfl, hcleared, hrails⟩
  obtain ⟨h1, h2, h3, h4, h5, h6⟩ := hrest
  have hbit {i : Nat} (hi : i < 32) (hfirst : ∀ s n : Nat, s ≤ 1 → n ≤ 65535 → bitOf ((PkgReset.sag d).bits + s * 2 ^ 25 + n) i = true)
      (hlater : bitOf (PkgReset.sag d).bits i = true) : bitOf (t.word R.FLT_RESET_CAUSE) i = true :=
    (congrArg (bitOf · i) ((htword _).trans hcause)).trans (b.causeAfter_bit hk hi hfirst hlater)
  refine ⟨h5, fun a ha => (htword a).trans (hcapture a ha), h6, h1.trans hticks, h2.trans hctrs, by rw [h3, hout], h4, ?_, ?_⟩
  · refine hbit (by decide) (fun s n hs hn => ?_) ?_
    all_goals
      rcases (by omega : d = 0 ∨ d = 1 ∨ d = 2 ∨ d = 3) with rfl | rfl | rfl | rfl <;> simp only [bitOf, PkgReset.bits, beq_iff_eq] <;> omega
  · refine hbit (by omega) (fun s n hs hn => ?_) ?_
    all_goals
      rcases (by omega : d = 0 ∨ d = 1 ∨ d = 2 ∨ d = 3) with rfl | rfl | rfl | rfl <;> simp only [bitOf, PkgReset.bits, beq_iff_eq] <;> omega

theorem Block.sagResetEnd_of_not {s : Nat} (h : b.pkgHold ≠ .sag) : b.sagResetEnd s = b := by
  unfold Block.sagResetEnd
  rw [if_neg (by simpa using h)]

theorem Block.sagResetEnd_boots {s : Nat} (hs : s < 2 ^ 7) (h : b.pkgHold = .sag) (hpin : b.pinLow = false) :
    Block.Boots s (b.sagResetEnd s) ∧ ∃ l, (b.sagResetEnd s).out = b.out ++ .pin "SAG_WARN_N" false :: l := by
  have ht : b.sagResetEnd s = (b.emit (.pin "SAG_WARN_N" false)).holdOver s := by
    unfold Block.sagResetEnd
    rw [if_pos (by simp [h])]
  have hlow : (b.emit (.pin "SAG_WARN_N" false)).pinLow = false := hpin
  rw [ht]
  refine ⟨Block.holdOver_boots hs hlow, ?_⟩
  rw [Block.holdOver_of_high hlow]
  obtain ⟨-, -, -, l, hl⟩ := ((b.emit (.pin "SAG_WARN_N" false)).overed s).bootStart_rest
  refine ⟨l, hl.trans ?_⟩
  show (b.out ++ [.pin "SAG_WARN_N" false]) ++ l = _
  rw [List.append_assoc]
  rfl

/-! ## The pin -/

/-- What a warm reset keeps of registers and of the rest, in t. -/
def Block.Warm (b t : Block) : Prop := (∀ a, captureReg a = true → t.word a = b.word a) ∧ t.ticks = b.ticks ∧ t.baseA = b.baseA ∧ t.baseB = b.baseB ∧
  t.rings = b.rings ∧ t.records = b.records ∧ b.KeptRegs t

theorem Block.resetBy_isWarm (b : Block) {k : PkgReset} (hw : k.warm = true) : b.Warm (b.resetBy k) := by
  have hk : k ≠ .powerOn := by
    rintro rfl
    exact absurd hw (by decide)
  obtain ⟨h1, h2, h3, h4, h5⟩ := b.resetBy_warm hw
  exact ⟨fun a ha => b.resetBy_capture hk ha, h1, h2, h3, h4, h5, b.resetBy_kept hw⟩

theorem Block.pinReset_of_low (h : b.pinLow = true) : b.pinReset = b := by
  unfold Block.pinReset
  rw [if_pos h]

theorem Block.pinReset_tells (h : b.pinLow = false) :
    let t := b.pinReset
    b.Cleared t ∧ b.Warm t ∧ b.RailsStand t ∧ t.pinLow = true ∧ t.boot.phase = .off ∧ t.out = b.out ++ b.busTold ∧
      bitOf (t.word R.FLT_RESET_CAUSE) 29 = true ∧
      (b.inReset = false → t.word R.FLT_RESET_CAUSE % 65536 = min 65535 (b.word R.FLT_RESET_CAUSE % 65536 + 1)) := by
  intro t
  obtain ⟨-, hcause, -, -⟩ := b.resetBy_tells .pin
  have hcleared := b.resetBy_cleared .pin
  have hrails := b.resetBy_rails (k := .pin) (by decide)
  have hwarm := b.resetBy_isWarm (k := .pin) rfl
  obtain ⟨hout, -, -, hboot, -⟩ := b.resetBy_pins .pin
  obtain ⟨c, hc⟩ : ∃ c, b.resetBy .pin = c := ⟨_, rfl⟩
  rw [hc] at hcause hcleared hrails hwarm hout hboot
  have ht : t = { c with pinLow := true } := by
    rw [show t = b.pinReset from rfl, Block.pinReset, if_neg (by simp [h]), hc]
  have hrest : b.Cleared t ∧ b.Warm t ∧ b.RailsStand t ∧ t.pinLow = true ∧ t.boot = c.boot ∧ t.out = c.out ∧
      t.word R.FLT_RESET_CAUSE = c.word R.FLT_RESET_CAUSE := by
    rw [ht]
    exact ⟨hcleared, hwarm, hrails, rfl, rfl, rfl, rfl⟩
  obtain ⟨h1, h2, h3, h4, h5, h6, h7⟩ := hrest
  refine ⟨h1, h2, h3, h4, by rw [h5, hboot], h6.trans hout, ?_, fun hno => ?_⟩
  · refine (congrArg (bitOf · 29) (h7.trans hcause)).trans (b.causeAfter_bit (by decide) (by decide) (fun s n hs hn => ?_) (by decide))
    simp only [bitOf, PkgReset.bits, beq_iff_eq]
    omega
  · have hs : b2n b.started ≤ 1 := by cases b.started <;> decide
    rw [h7, hcause, b.causeAfter_first (by decide) hno, sat_eq_min]
    simp only [PkgReset.bits]
    have hm := Nat.min_le_left 65535 (b.word R.FLT_RESET_CAUSE % 65536 + 1)
    omega

/-- RESET_N stands high again. -/
def Block.raised (b : Block) (s : Nat) : Block := { b with pinLow := false, strapPins := s }

theorem Block.resetRelease_of_high {s : Nat} (h : b.pinLow = false) : b.resetRelease s = b := by
  unfold Block.resetRelease
  rw [if_pos (by simp [h])]

theorem Block.resetRelease_of_held {s : Nat} (h : b.pinLow = true) (hold : b.pkgHold ≠ .none) : b.resetRelease s = b.raised s := by
  unfold Block.resetRelease
  rw [if_neg (by simp [h])]
  dsimp only
  rw [if_pos (by simpa [Block.inReset] using hold)]
  rfl

theorem Block.resetRelease_boots {s : Nat} (hs : s < 2 ^ 7) (h : b.pinLow = true) (hold : b.pkgHold = .none) :
    Block.Boots s (b.resetRelease s) ∧ (b.resetRelease s).ticks = b.ticks := by
  have hno : (b.raised s).inReset = false := Block.inReset_eq_false.mpr ⟨rfl, hold⟩
  have ht : b.resetRelease s = (b.raised s).bootStart := by
    unfold Block.resetRelease
    rw [if_neg (by simp [h])]
    dsimp only
    rw [show ({ b with pinLow := false, strapPins := s } : Block) = b.raised s from rfl, hno]
    rfl
  rw [ht]
  exact ⟨Block.bootStart_boots hno rfl hs, (b.raised s).bootStart_rest.1⟩

/-! ## The package soft reset -/

theorem Block.softReset_of_none {w : Writer} {v s : Nat} (h : F.PKG_RESET_CTRL_SOFT.of v = 0) : b.softReset w v s = b := by simp [Block.softReset, h]

theorem Block.softReset_of_bad {w : Writer} {v s : Nat} (h : F.PKG_RESET_CTRL_SOFT.of v = 1) (bad : F.PKG_RESET_CTRL_KEY.of v ≠ 0x5A) :
    b.softReset w v s = b.refuse w R.PKG_RESET_CTRL := by simp [Block.softReset, Block.resetCtrl, h, bad]

theorem Block.Warm.bootStart (h : b.Warm c) : b.Warm c.bootStart := by
  obtain ⟨hcapture, h1, h2, h3, h4, h5, k1, k2, k3, k4⟩ := h
  obtain ⟨-, -, -, hword, -⟩ := c.bootStart_tells
  obtain ⟨h1', h2', h3', h4', h5'⟩ := Block.bootStart_keptWarm (b := b) (c := c) ⟨h1, h2, h3, h4, h5⟩
  have hkept {a : Nat} (ha : a ≠ R.PKG_STRAPS) (ht : a ≠ R.TIM_REF_STATUS) (hs : a ≠ R.BOOT_STATUS) (h : c.word a = b.word a) :
      c.bootStart.word a = b.word a := (hword a ha ht hs).trans h
  refine ⟨fun a ha => ?_, h1', h2', h3', h4', h5', hkept (by decide) (by decide) (by decide) k1, hkept (by decide) (by decide) (by decide) k2,
    hkept (by decide) (by decide) (by decide) k3, hkept (by decide) (by decide) (by decide) k4⟩
  obtain ⟨hlo, hhi⟩ := captureReg_apart ha
  refine hkept ?_ ?_ ?_ (hcapture a ha)
  all_goals
    rintro rfl
    exact absurd (And.intro hlo hhi) (by decide)

theorem Block.softReset_tells {w : Writer} {v s : Nat} (hs : s < 2 ^ 7) (h : F.PKG_RESET_CTRL_SOFT.of v = 1) (key : F.PKG_RESET_CTRL_KEY.of v = 0x5A)
    (hno : b.inReset = false) :
    let t := b.softReset w v s
    b.Cleared t ∧ b.Warm t ∧ Block.Boots s t ∧ bitOf (t.word R.FLT_RESET_CAUSE) 27 = true ∧ bitOf (t.word R.FLT_RESET_CAUSE) 25 = b.started := by
  intro t
  obtain ⟨-, hcause, -, -⟩ := b.resetBy_tells .soft
  have hcleared := b.resetBy_cleared .soft
  have hwarm := b.resetBy_isWarm (k := .soft) rfl
  obtain ⟨-, -, -, -, hreset⟩ := b.resetBy_pins .soft
  obtain ⟨c, hc⟩ : ∃ c : Block, { b.resetBy .soft with strapPins := s } = c := ⟨_, rfl⟩
  have hcs : c.word R.FLT_RESET_CAUSE = b.causeAfter .soft % 2 ^ 32 ∧ b.Cleared c ∧ b.Warm c ∧ c.inReset = false ∧ c.strapPins = s := by
    rw [← hc]
    exact ⟨hcause, hcleared, hwarm, hreset.trans hno, rfl⟩
  obtain ⟨hcause', hcleared', hwarm', hno', hstraps⟩ := hcs
  have ht : t = c.bootStart := by
    rw [show t = b.softReset w v s from rfl, Block.softReset, if_neg (by simp [h]), Block.resetCtrl, if_neg (by simp [key]), if_pos (by simp [h]),
      Block.warmReset, hc, hno']
    rfl
  obtain ⟨-, -, -, hword, -⟩ := c.bootStart_tells
  have hcword : t.word R.FLT_RESET_CAUSE = b.causeAfter .soft % 2 ^ 32 := by
    rw [ht, hword _ (by decide) (by decide) (by decide), hcause']
  refine ⟨by rw [ht]; exact Block.bootStart_cleared hcleared', by rw [ht]; exact hwarm'.bootStart, by rw [ht]; exact Block.bootStart_boots hno' hstraps hs, ?_, ?_⟩
  · refine (congrArg (bitOf · 27) hcword).trans (b.causeAfter_bit (by decide) (by decide) (fun s n hs hn => ?_) (by decide))
    simp only [bitOf, PkgReset.bits, beq_iff_eq]
    omega
  · have hm := Nat.min_le_left 65535 (b.word R.FLT_RESET_CAUSE % 65536 + 1)
    rw [hcword, bitOf_mod _ (by decide), b.causeAfter_first (by decide) hno, sat_eq_min]
    have hdiv (x m : Nat) (hx : x ≤ 1) (hm : m ≤ 65535) : (PkgReset.soft.bits + x * 2 ^ 25 + m) / 2 ^ 25 % 2 = x := by
      simp only [PkgReset.bits]
      omega
    rw [bitOf]
    cases b.started
    · rw [hdiv _ _ (by decide) hm]
      rfl
    · rw [hdiv _ _ (by decide) hm]
      rfl

end Sys2Proof.Machine
end

section
/-!
PROOFS. Die resets: what a Hold entry leaves of the reset's own mark, and the reset's start and end (R489).
-/
namespace Sys2Proof.Machine
open Sys2Proof

variable {b c d : Block} {e : Nat}

/-! ## A reset's mark stands through an entry -/

/-- From b to c no die begins or ends its reset. -/
def Block.SameResetting (b c : Block) : Prop := ∀ i, (c.die i).resetting = (b.die i).resetting

namespace Block.SameResetting

theorem refl (b : Block) : b.SameResetting b := fun _ => rfl
theorem trans (h : b.SameResetting c) (h' : c.SameResetting d) : b.SameResetting d := fun i => (h' i).trans (h i)
theorem of_dies (h : c.dies = b.dies) : b.SameResetting c := fun i => by rw [Block.die, h, ← Block.die]
theorem modDie (h : b.SameResetting c) (i : Nat) {f : Die → Die} (hf : ∀ x, (f x).resetting = x.resetting) : b.SameResetting (c.modDie i f) := by
  refine h.trans fun j => ?_
  by_cases hj : j = i
  · rw [hj, Block.die_modDie_same, hf]
  · rw [Block.die_modDie_other _ _ hj]
theorem foldl {α : Type} {f : Block → α → Block} (h : b.SameResetting c) (l : List α) (turn : ∀ (c : Block) x, c.SameResetting (f c x)) :
    b.SameResetting (l.foldl f c) :=
  foldl_inv (P := b.SameResetting) l h fun c x _ hc => hc.trans (turn c x)
theorem each {f : Block → Nat → Block} (h : b.SameResetting c) (n : Nat) (turn : ∀ (c : Block) k, c.SameResetting (f c k)) :
    b.SameResetting (c.each n f) :=
  Block.each_inv (P := b.SameResetting) h fun c k _ hc => hc.trans (turn c k)

theorem holdLost (h : b.SameResetting c) (i n : Nat) : b.SameResetting (c.holdLost i n) :=
  (h.trans (of_dies (Block.count_dies ..))).modDie i fun _ => rfl
theorem injectTry (h : b.SameResetting c) (r : Nat) : b.SameResetting (c.injectTry r) := by
  refine h.trans (of_dies ?_)
  unfold Block.injectTry
  split
  · dsimp only
    split <;> rfl
  · rfl
theorem injectRefill (h : b.SameResetting c) (p : Nat) : b.SameResetting (c.injectRefill p) := by
  unfold Block.injectRefill
  exact h.foldl _ fun c x => (refl c).injectTry x.1
theorem of_dma (h : b.OnDma c) : b.SameResetting c := by
  obtain ⟨rs, cs, js, n, es, l, rfl⟩ := h.only
  exact refl b
theorem txComplete (h : b.SameResetting c) (r status : Nat) : b.SameResetting (c.txComplete r status) := by
  refine h.trans ?_
  unfold Block.txComplete
  split
  · rename_i f i _ _
    dsimp only
    refine .trans (of_dies ?_) (of_dma (.pushJob i _ _))
    rw [Block.modTxRing_dies]
    split
    · rw [Block.count_dies, Block.count_dies]
    · rw [Block.count_dies]
  · exact refl c
theorem txRefuse (h : b.SameResetting c) (r status : Nat) : b.SameResetting (c.txRefuse r status) := by
  have hdrop (c : Block) (i : Nat) : c.SameResetting (c.dropFrame i) := of_dies rfl
  refine h.trans ?_
  unfold Block.txRefuse
  split
  · rename_i f _
    dsimp only
    refine injectRefill (txComplete ?_ r status) f.port
    cases f.id with
    | some i => exact hdrop c i
    | none => exact refl c
  · exact refl c
theorem holdTx (h : b.SameResetting c) (i : Nat) : b.SameResetting (c.holdTx i) := by
  unfold Block.holdTx
  refine h.foldl _ fun c x => ?_
  split
  · split
    · exact (refl c).txRefuse _ _
    · exact refl c
  · exact refl c
theorem fenceMark (h : b.SameResetting c) (a tag : Nat) (late held : Bool) : b.SameResetting (c.fenceMark a tag late held) := by
  obtain ⟨rs, hrs⟩ := c.fenceMark_regs a tag late held
  refine h.trans (of_dies ?_)
  rw [hrs]
theorem fenceOff (h : b.SameResetting c) (i : Nat) (f : Fence) (r : List Fence) (late held : Bool) : b.SameResetting (c.fenceOff i f r late held) := by
  refine h.trans (of_dies ?_)
  obtain ⟨m, hm⟩ : ∃ m, c.modEngine i (fun e => { e with fences := r }) = m := ⟨_, rfl⟩
  obtain ⟨rs, hrs⟩ := m.fenceMark_regs (R.TBL_FENCE_STATUS i) f.tag late held
  have honly := m.raising_only 1 fun b => b.fenceMark (R.TBL_FENCE_STATUS i) f.tag late held
  obtain ⟨t, ht⟩ : ∃ t, (m.raising 1 fun b => b.fenceMark (R.TBL_FENCE_STATUS i) f.tag late held) = t := ⟨_, rfl⟩
  have hdies : m.dies = c.dies := by rw [← hm]; rfl
  unfold Block.fenceOff
  rw [hm, ht]
  rw [ht, hrs] at honly
  rw [honly]
  exact hdies
theorem fenceEnd (h : b.SameResetting c) (i : Nat) (late held : Bool) : b.SameResetting (c.fenceEnd i late held) := by
  refine h.trans ?_
  cases hf : (c.engine i).fences with
  | nil =>
    unfold Block.fenceEnd
    rw [hf]
    exact refl c
  | cons f r =>
    rw [Block.fenceEnd_cons hf]
    split
    · exact ((refl c).fenceOff i f r late held).fenceMark _ _ _ _
    · exact (refl c).fenceOff i f r late held
theorem loseFrames (h : b.SameResetting c) (i : Nat) : b.SameResetting (c.loseFrames i) := by
  have hleft (l : SMap Frame) : c.SameResetting { c with frames := l } := of_dies rfl
  unfold Block.loseFrames
  exact (h.trans (hleft _)).holdLost _ _
theorem stopWaiting (h : b.SameResetting c) (i j : Nat) : b.SameResetting (c.stopWaiting i j) := by
  refine h.trans (of_dies ?_)
  unfold Block.stopWaiting
  dsimp only
  generalize c.frame j = f
  have hcount : (if f.allDests.all fun G => G / 2 == i then c.count (R.RGN_HELD_DROP (rgnOfPort f.port) i) 1 else c).dies = c.dies := by
    split
    · rw [Block.count_dies]
    · rfl
  split
  · rfl
  · split
    · exact hcount
    · exact hcount
theorem loseDie (h : b.SameResetting c) (i : Nat) : b.SameResetting (c.loseDie i) := by
  have hstart := h.modDie i (f := fun x => { x with dropped := 0 }) fun _ => rfl
  unfold Block.loseDie Block.fencesHeld
  exact ((((hstart.holdTx i).loseFrames i).each _ fun c _ => (refl c).fenceEnd i false true).foldl _ fun c x => (refl c).stopWaiting i x.1)
theorem setInput (h : b.SameResetting c) (G i : Nat) (l : List Transit) : b.SameResetting (c.setInput G i l) := by
  refine h.trans (of_dies ?_)
  unfold Block.setInput
  split <;> rfl
theorem flushToward (h : b.SameResetting c) (i G j : Nat) : b.SameResetting (c.flushToward i G j) := by
  have hset := h.setInput G j []
  unfold Block.flushToward
  dsimp only
  split
  · exact hset
  · split
    · exact hset.holdLost _ _
    · exact hset.trans (of_dies (Block.count_dies ..))
theorem flushAway (h : b.SameResetting c) (i G : Nat) : b.SameResetting (c.flushAway i G) := by
  have hends (l : List Transit) (c : Block) : c.SameResetting (l.foldl (fun b t => b.endTransit G t true) c) := (refl c).foldl _ fun c t => by
    obtain ⟨rg, ps, cs, hc⟩ := (Block.OnStore.refl c).endTransit G t true
    exact of_dies (by rw [hc])
  have hopen : b.SameResetting (c.loseOpen G i).2 := (h.setInput G i _).trans (hends _ _)
  obtain ⟨m, hm⟩ : ∃ m, (c.loseOpen G i).2 = m := ⟨_, rfl⟩
  rw [hm] at hopen
  have hset : b.SameResetting (m.setFifo i G []) := hopen.trans (of_dies rfl)
  unfold Block.flushAway
  dsimp only
  rw [hm]
  split
  · exact hset
  · exact hset.holdLost _ _
theorem flushDie (h : b.SameResetting c) (i : Nat) : b.SameResetting (c.flushDie i) := by
  unfold Block.flushDie
  exact (h.foldl _ fun c G => (refl c).foldl _ fun c j => (refl c).flushToward i G j).foldl _ fun c G => (refl c).flushAway i G
theorem voidRegion (h : b.SameResetting c) (i G : Nat) : b.SameResetting (c.voidRegion i G) := by
  have hlost := h.holdLost i (c.copiesIn G)
  unfold Block.voidRegion
  refine (hlost.trans (of_dies ((c.holdLost i (c.copiesIn G)).emptyTx_tells G).2.2.2)).trans (of_dies ?_)
  exact (((c.holdLost i (c.copiesIn G)).emptyTx G).emptyRegion_tells G).2.2.1
theorem emptyDie (h : b.SameResetting c) (i : Nat) : b.SameResetting (c.emptyDie i) := by
  have hvoid : b.SameResetting (((c.loseDie i).flushDie i).voidDie i) := by
    unfold Block.voidDie
    exact ((h.loseDie i).flushDie i).foldl _ fun c G => (refl c).voidRegion i G
  have hports := hvoid.each 64 (f := fun b k => b.dropPort (64 * i + k)) fun c k => of_dies (c.dropPort_keeps (64 * i + k)).2.2.2
  have hgleaner := hports.trans (of_dies (Block.emptyGleaner_tells _ i).2.2.2.2)
  obtain ⟨m, hm⟩ : ∃ m, (((((c.loseDie i).flushDie i).voidDie i).each 64 fun b k => b.dropPort (64 * i + k)).emptyGleaner i) = m := ⟨_, rfl⟩
  rw [hm] at hgleaner
  obtain ⟨⟨cl, honly⟩, -⟩ := m.freeFrags_tells i
  unfold Block.emptyDie
  rw [hm]
  exact hgleaner.trans (of_dies (by rw [honly]))
theorem holdEntry (h : b.SameResetting c) (i : Nat) : b.SameResetting (c.holdEntry i) := by
  rw [Block.holdEntry_eq]
  exact ((h.emptyDie i).trans (of_dies (Block.setFld_dies ..))).modDie i fun _ => rfl

end Block.SameResetting

/-- A flag of HOLD_STATUS beside ENTRIES stands through an entry. -/
theorem Block.holdEntry_flag (he : e < 4) (b : Block) {f : Bf} (hf : (decide (F.DIE_HOLD_STATUS_ENTRIES.hi < 32 ∧
      F.DIE_HOLD_STATUS_ENTRIES.lo ≤ F.DIE_HOLD_STATUS_ENTRIES.hi ∧ f.lo ≤ f.hi) &&
      decide (F.DIE_HOLD_STATUS_ENTRIES.hi < f.lo ∨ f.hi < F.DIE_HOLD_STATUS_ENTRIES.lo)) = true) :
    (b.holdEntry e).flag (R.DIE_HOLD_STATUS e) f = b.flag (R.DIE_HOLD_STATUS e) f := by
  rw [Block.holdEntry_eq, Block.modDie_flag, Block.flag_apart _ _ _ _ hf, Block.flag, (Block.emptyDie_tells he b).1.fld, ← Block.flag]

end Sys2Proof.Machine
end

section
/-!
PROOFS. Die and forwarding resets as commands; O47 (R489, R490).
-/
namespace Sys2Proof.Machine
open Sys2Proof

variable {b c : Block} {e : Nat}

theorem takes_dieReset {w : Writer} {v : BitVec 32} (hreach : b.reaches w .pkg) : Takes (.dieReset w v) b (b.dieResetWrite w v.toNat) :=
  takes_of_write hreach fun _ => rfl
theorem takes_forwardingReset {w : Writer} {v : BitVec 32} (hreach : b.reaches w .pkg) : Takes (.forwardingReset w v) b (b.fwdResetWrite w v.toNat) :=
  takes_of_write hreach fun _ => rfl
theorem takes_dieResetDone (d : Fin 4) : Takes (.dieResetDone d) b (b.dieResetDone d.val) := fun _ => rfl
theorem takes_fwdReset (d : Fin 4) : Takes (.fwdReset d) b (b.fwdResetEnd d.val) := fun _ => rfl

/-! ## RESET_CTRL -/

/-- Of four turns only that of die e acts. -/
theorem Block.each_single {f : Block → Nat → Block} (he : e < 4) (rest : ∀ c k, k ≠ e → f c k = c) : b.each 4 f = f b e :=
  Block.each_turn he (I := fun c => c = b) (P := fun t => t = f b e) rfl (fun c j hj h => (rest c j (by omega)).trans h) (fun c h => by rw [h])
    fun t j hj _ h => (rest t j (by omega)).trans h

/-- What a write of the masks does at die i. -/
def Block.resetTurn (dies fwds : Nat) (b : Block) (i : Nat) : Block := if bitOf dies i then b.dieReset i else if bitOf fwds i then b.fwdReset i else b

theorem Block.resetCtrl_of_masks {w : Writer} {v s : Nat} (key : F.PKG_RESET_CTRL_KEY.of v = 0x5A) (soft : F.PKG_RESET_CTRL_SOFT.of v = 0) :
    b.resetCtrl w v s = b.each 4 (Block.resetTurn (F.PKG_RESET_CTRL_DIE_MASK.of v) (F.PKG_RESET_CTRL_FWD_MASK.of v)) := by
  unfold Block.resetCtrl
  rw [if_neg (by simp [key]), if_neg (by simp [soft])]
  rfl

theorem bitOf_zero (i : Nat) : bitOf 0 i = false := by simp [bitOf]

theorem Block.resetMasks_die (he : e < 4) : b.each 4 (Block.resetTurn (2 ^ e) 0) = b.dieReset e := by
  rw [Block.each_single he fun c k hk => ?_]
  · rw [Block.resetTurn, bitOf_two_pow, if_pos (by simp)]
  · rw [Block.resetTurn, bitOf_two_pow, if_neg (by simpa using hk.symm), bitOf_zero]
    rfl

theorem Block.resetMasks_fwd (he : e < 4) : b.each 4 (Block.resetTurn 0 (2 ^ e)) = b.fwdReset e := by
  rw [Block.each_single he fun c k hk => ?_]
  · rw [Block.resetTurn, bitOf_zero, if_neg (by decide), bitOf_two_pow, if_pos (by simp)]
  · rw [Block.resetTurn, bitOf_zero, if_neg (by decide), bitOf_two_pow, if_neg (by simpa using hk.symm)]

theorem Block.dieResetWrite_of_die {w : Writer} {v : Nat} (he : e < 4) (key : F.PKG_RESET_CTRL_KEY.of v = 0x5A) (soft : F.PKG_RESET_CTRL_SOFT.of v = 0)
    (dies : F.PKG_RESET_CTRL_DIE_MASK.of v = 2 ^ e) (fwds : F.PKG_RESET_CTRL_FWD_MASK.of v = 0) : b.dieResetWrite w v = b.dieReset e := by
  have hpos : 2 ^ e ≠ 0 := Nat.pos_iff_ne_zero.mp (Nat.two_pow_pos e)
  unfold Block.dieResetWrite
  rw [if_neg (by simp [dies]), Block.resetCtrl_of_masks key soft, dies, fwds, Block.resetMasks_die he]

theorem Block.fwdResetWrite_of_die {w : Writer} {v : Nat} (he : e < 4) (key : F.PKG_RESET_CTRL_KEY.of v = 0x5A) (soft : F.PKG_RESET_CTRL_SOFT.of v = 0)
    (dies : F.PKG_RESET_CTRL_DIE_MASK.of v = 0) (fwds : F.PKG_RESET_CTRL_FWD_MASK.of v = 2 ^ e) : b.fwdResetWrite w v = b.fwdReset e := by
  unfold Block.fwdResetWrite
  rw [if_neg (by simp [fwds]), Block.resetCtrl_of_masks key soft, dies, fwds, Block.resetMasks_fwd he]

theorem Block.dieResetWrite_of_none {w : Writer} {v : Nat} (h : F.PKG_RESET_CTRL_DIE_MASK.of v = 0) : b.dieResetWrite w v = b := by
  simp [Block.dieResetWrite, h]
theorem Block.fwdResetWrite_of_none {w : Writer} {v : Nat} (h : F.PKG_RESET_CTRL_FWD_MASK.of v = 0) : b.fwdResetWrite w v = b := by
  simp [Block.fwdResetWrite, h]
theorem Block.dieResetWrite_of_bad {w : Writer} {v : Nat} (h : F.PKG_RESET_CTRL_DIE_MASK.of v ≠ 0) (bad : ¬ F.PKG_RESET_CTRL_KEY.of v = 0x5A) :
    b.dieResetWrite w v = b.refuse w R.PKG_RESET_CTRL := by simp [Block.dieResetWrite, Block.resetCtrl, h, bad]
theorem Block.fwdResetWrite_of_bad {w : Writer} {v : Nat} (h : F.PKG_RESET_CTRL_FWD_MASK.of v ≠ 0) (bad : ¬ F.PKG_RESET_CTRL_KEY.of v = 0x5A) :
    b.fwdResetWrite w v = b.refuse w R.PKG_RESET_CTRL := by simp [Block.fwdResetWrite, Block.resetCtrl, h, bad]

/-! ## DIE_RESET -/

/-- The die with the mark of its reset. -/
def Block.marked (b : Block) (e : Nat) : Block := b.modDie e fun x => { x with resetting := true }

theorem Block.marked_die (b : Block) (e : Nat) : (b.marked e).die e = { b.die e with resetting := true } := Block.die_modDie_same b e _

theorem Block.dieReset_of_resetting (h : (b.die e).resetting = true) : b.dieReset e = b := by
  unfold Block.dieReset
  rw [if_pos h]

theorem Block.dieReset_of_moving (h : (b.die e).resetting = false) (hp : (b.die e).phase = .parking ∨ (b.die e).phase = .exiting) :
    b.dieReset e = b.marked e := by
  have hphase : ((b.marked e).die e).phase = (b.die e).phase := by rw [b.marked_die]
  unfold Block.dieReset
  rw [if_neg (by simp [h])]
  rw [show b.modDie e (fun x => { x with resetting := true }) = b.marked e from rfl]
  rcases hp with hp | hp <;> simp only [hphase, hp]

theorem Block.dieReset_of_held (h : (b.die e).resetting = false) (hp : (b.die e).phase = .held) : b.dieReset e = (b.marked e).dieState e := by
  have hphase : ((b.marked e).die e).phase = .held := by rw [b.marked_die]; exact hp
  unfold Block.dieReset
  rw [if_neg (by simp [h])]
  rw [show b.modDie e (fun x => { x with resetting := true }) = b.marked e from rfl]
  simp only [hphase]

/-- The die's window, opened by a reset. -/
def Block.opened (b : Block) (e : Nat) : Block :=
  (b.modDie e fun x => { x with phase := .window, holdAt := b.ticks, release := false, cause := holdByReset }).raise (R.DIE_HOLD_STATUS e)
    F.DIE_HOLD_STATUS_ENTERING

theorem Block.startEntry_by_reset (hp : (b.die e).phase = .idle ∨ (b.die e).phase = .window) :
    b.startEntry e holdByReset = (if (b.die e).phase = .idle then b.opened e else b).holdEntry e := by
  unfold Block.startEntry
  rw [if_neg (by simp)]
  rcases hp with hp | hp
  · simp only [hp]
    rfl
  · simp only [hp]
    rfl

theorem Block.dieReset_of_free (h : (b.die e).resetting = false) (hp : (b.die e).phase = .idle ∨ (b.die e).phase = .window) :
    b.dieReset e = (if (b.die e).phase = .idle then (b.marked e).opened e else b.marked e).holdEntry e := by
  have hphase : ((b.marked e).die e).phase = (b.die e).phase := by rw [b.marked_die]
  have hstart := Block.startEntry_by_reset (b := b.marked e) (e := e) (by rwa [hphase])
  rw [hphase] at hstart
  rw [← hstart]
  unfold Block.dieReset
  rw [if_neg (by simp [h])]
  rw [show b.modDie e (fun x => { x with resetting := true }) = b.marked e from rfl]
  rcases hp with hp | hp <;> simp only [hphase, hp]

theorem Block.dieReset_enters (he : e < 4) (h : (b.die e).resetting = false) (hp : (b.die e).phase = .idle ∨ (b.die e).phase = .window) :
    let t := b.dieReset e
    (t.die e).resetting = true ∧ (t.die e).phase = .parking ∧
      ((b.die e).phase = .idle → t.flag (R.DIE_HOLD_STATUS e) F.DIE_HOLD_STATUS_ENTERING = true) ∧
      (t.region (2 * e)).stored = [] ∧ (t.region (2 * e)).queues = [] ∧ (t.region (2 * e + 1)).stored = [] ∧ (t.region (2 * e + 1)).queues = [] := by
  intro t
  obtain ⟨c, hc⟩ : ∃ c, (if (b.die e).phase = .idle then (b.marked e).opened e else b.marked e) = c := ⟨_, rfl⟩
  have ht : t = c.holdEntry e := by rw [show t = b.dieReset e from rfl, Block.dieReset_of_free h hp, hc]
  have hmarked : (c.die e).resetting = true := by
    rw [← hc]
    split
    · rw [Block.opened, Block.raise_die, Block.die_modDie_same, b.marked_die]
    · rw [b.marked_die]
  have hentering : (b.die e).phase = .idle → c.flag (R.DIE_HOLD_STATUS e) F.DIE_HOLD_STATUS_ENTERING = true := fun hi => by
    rw [← hc, if_pos hi]
    exact Block.flag_raise _ _ _ (by decide) (by decide)
  obtain ⟨hphase, -, -, -, hregions⟩ := Block.holdEntry_tells he c
  obtain ⟨s0, q0, -, -⟩ := hregions (2 * e) (.inl rfl)
  obtain ⟨s1, q1, -, -⟩ := hregions (2 * e + 1) (.inr rfl)
  rw [ht]
  exact ⟨((Block.SameResetting.refl c).holdEntry e e).trans hmarked, hphase, fun hi => (Block.holdEntry_flag he c (by decide)).trans (hentering hi), s0, q0, s1, q1⟩

/-! ## The state of a reset die -/

theorem Block.clearStatus_only (b : Block) (e : Nat) : ∃ rs, b.clearStatus e = { b with regs := rs } := by
  unfold Block.clearStatus
  refine foldl_inv (P := fun c => ∃ rs, c = { b with regs := rs }) _ ⟨_, rfl⟩ fun c x _ h => ?_
  obtain ⟨rs, rfl⟩ := h
  split
  · exact ⟨_, Block.setWord_only _ _ _⟩
  · exact ⟨_, rfl⟩

theorem Block.dieState_tells (b : Block) (e : Nat) : (b.dieState e).dies = b.dies ∧ (b.dieState e).frames = b.frames ∧
    ((b.dieState e).region (2 * e)).stored = [] := by
  obtain ⟨rs, hclear⟩ := b.clearStatus_only e
  obtain ⟨c, hc⟩ : ∃ c : Block, { b.clearStatus e with ctrs := (b.clearStatus e).ctrs.filter (fun x => !dieCounter e x.1), snap := (b.clearStatus e).snap.filter (fun x => !dieCounter e x.1) } = c := ⟨_, rfl⟩
  have hcb : c.dies = b.dies ∧ c.frames = b.frames := by
    rw [← hc, hclear]
    exact ⟨rfl, rfl⟩
  obtain ⟨g, hg⟩ : ∃ g, (c.modRegion (2 * e) Region.afterReset).modRegion (2 * e + 1) Region.afterReset = g := ⟨_, rfl⟩
  have hgc : g.dies = c.dies ∧ g.frames = c.frames ∧ (g.region (2 * e)).stored = [] := by
    rw [← hg]
    refine ⟨rfl, rfl, ?_⟩
    rw [Block.region_modRegion, if_neg (by omega), Block.region_modRegion, if_pos rfl]
    rfl
  have hports : (g.each 64 fun b k => b.modPort (64 * e + k) Port.afterReset).dies = g.dies ∧
      (g.each 64 fun b k => b.modPort (64 * e + k) Port.afterReset).frames = g.frames ∧
      (g.each 64 fun b k => b.modPort (64 * e + k) Port.afterReset).regions = g.regions :=
    Block.each_inv (P := fun t => t.dies = g.dies ∧ t.frames = g.frames ∧ t.regions = g.regions) ⟨rfl, rfl, rfl⟩ fun _ _ _ h => h
  obtain ⟨p, hp⟩ : ∃ p, (g.each 64 fun b k => b.modPort (64 * e + k) Port.afterReset) = p := ⟨_, rfl⟩
  rw [hp] at hports
  have hclusters : (p.each 8 fun b k => b.modCluster (8 * e + k) fun c => { store := c.store }).dies = p.dies ∧
      (p.each 8 fun b k => b.modCluster (8 * e + k) fun c => { store := c.store }).frames = p.frames ∧
      (p.each 8 fun b k => b.modCluster (8 * e + k) fun c => { store := c.store }).regions = p.regions :=
    Block.each_inv (P := fun t => t.dies = p.dies ∧ t.frames = p.frames ∧ t.regions = p.regions) ⟨rfl, rfl, rfl⟩ fun _ _ _ h => h
  have ht : b.dieState e = p.each 8 fun b k => b.modCluster (8 * e + k) fun c => { store := c.store } := by
    rw [← hp, ← hg, ← hc]
    rfl
  obtain ⟨t, htt⟩ : ∃ t, (p.each 8 fun b k => b.modCluster (8 * e + k) fun c => { store := c.store }) = t := ⟨_, rfl⟩
  rw [htt] at hclusters ht
  rw [ht]
  exact ⟨hclusters.1.trans (hports.1.trans (hgc.1.trans hcb.1)), hclusters.2.1.trans (hports.2.1.trans (hgc.2.1.trans hcb.2)), by
    rw [Block.region_of_regions (hclusters.2.2.trans hports.2.2)]
    exact hgc.2.2⟩

theorem Block.dieReset_held_tells (h : (b.die e).resetting = false) (hp : (b.die e).phase = .held) :
    let t := b.dieReset e
    (t.die e).resetting = true ∧ (t.die e).phase = .held ∧ (t.region (2 * e)).stored = [] ∧ t.frames = b.frames := by
  intro t
  obtain ⟨hdies, hframes, hstored⟩ := (b.marked e).dieState_tells e
  have ht : t = (b.marked e).dieState e := Block.dieReset_of_held h hp
  have hdie : t.die e = { b.die e with resetting := true } := by rw [ht, Block.die, hdies, ← Block.die, b.marked_die]
  exact ⟨by rw [hdie], by rw [hdie]; exact hp, by rw [ht]; exact hstored, by rw [ht]; exact hframes⟩

/-! ## DIE_RESET_DONE -/

theorem Block.dieResetDone_of_not (h : (b.die e).resetting = false ∨ (b.die e).phase ≠ .held) : b.dieResetDone e = b := by
  unfold Block.dieResetDone
  rw [if_pos]
  rcases h with h | h <;> simp [h]

/-- The die whose reset has ended, Hold apart. -/
def Block.unmarked (b : Block) (e : Nat) : Block := b.modDie e fun x => { x with resetting := false }

theorem Block.unmarked_die (b : Block) (e : Nat) : (b.unmarked e).die e = { b.die e with resetting := false } := Block.die_modDie_same b e _

theorem Block.dieResetDone_of (hr : (b.die e).resetting = true) (hp : (b.die e).phase = .held) :
    b.dieResetDone e = ((if (b.unmarked e).wanted e then b.unmarked e else (b.unmarked e).resume e).send 6 e 0x07 0).traceHold e 3 holdByReset (b.die e).dropped := by
  unfold Block.dieResetDone
  rw [if_neg (by simp [hr, hp])]
  rfl

theorem Block.unmarked_wanted (b : Block) (e : Nat) : (b.unmarked e).wanted e = (b.latchH e || bitOf (b.word R.CHN_RING_HOLD) e) := by
  rw [Block.wanted, b.unmarked_die]
  exact Bool.or_false _

theorem Block.dieResetDone_stays (hr : (b.die e).resetting = true) (hp : (b.die e).phase = .held)
    (hw : b.latchH e = true ∨ bitOf (b.word R.CHN_RING_HOLD) e = true) :
    let t := b.dieResetDone e
    t.die e = { b.die e with resetting := false } ∧ t.inflight = (b.send 6 e 0x07 0).inflight ∧ t.regs = b.regs ∧ ∃ r, t.records = b.records ++ [r] ∧ r.typ = 5 := by
  intro t
  have hwanted : (b.unmarked e).wanted e = true := by
    rw [b.unmarked_wanted]
    rcases hw with h | h <;> simp [h]
  have ht : t = ((b.unmarked e).send 6 e 0x07 0).traceHold e 3 holdByReset (b.die e).dropped := by
    rw [show t = b.dieResetDone e from rfl, Block.dieResetDone_of hr hp, if_pos hwanted]
  obtain ⟨r, hrec, htyp, -⟩ := ((b.unmarked e).send 6 e 0x07 0).traceHold_records e 3 holdByReset (b.die e).dropped
  rw [ht]
  exact ⟨b.unmarked_die e, rfl, rfl, r, hrec, htyp⟩

theorem Block.dieResetDone_leaves (hr : (b.die e).resetting = true) (hp : (b.die e).phase = .held) (hl : b.latchH e = false)
    (hring : bitOf (b.word R.CHN_RING_HOLD) e = false) :
    let t := b.dieResetDone e
    (t.die e).phase = .idle ∧ (t.die e).resetting = false ∧ t.flag (R.DIE_HOLD_STATUS e) F.DIE_HOLD_STATUS_HELD = false := by
  intro t
  have hwanted : (b.unmarked e).wanted e = false := by rw [b.unmarked_wanted, hl, hring]; rfl
  obtain ⟨hdie, -, hheld, -⟩ := (b.unmarked e).resume_tells e
  obtain ⟨c, hc⟩ : ∃ c, (b.unmarked e).resume e = c := ⟨_, rfl⟩
  rw [hc] at hdie hheld
  have ht : t = (c.send 6 e 0x07 0).traceHold e 3 holdByReset (b.die e).dropped := by
    rw [show t = b.dieResetDone e from rfl, Block.dieResetDone_of hr hp, if_neg (by simp [hwanted]), hc]
  have htdie : t.die e = c.die e := by rw [ht]; rfl
  have htflag (f : Bf) : t.flag (R.DIE_HOLD_STATUS e) f = c.flag (R.DIE_HOLD_STATUS e) f := by
    rw [ht, Block.traceHold, Block.trace_flag, Block.send_flag]
  rw [htdie, hdie, b.unmarked_die]
  exact ⟨rfl, rfl, (htflag _).trans hheld⟩

end Sys2Proof.Machine
end

section
/-!
PROOFS. Forwarding resets, and resets as a whole: O47 (R486 to R490).
-/
namespace Sys2Proof.Machine
open Sys2Proof

variable {b c d : Block} {e : Nat}

/-! ## FORWARDING_RESET -/

/-- From b to c a forwarding reset went on: what it leaves. -/
structure Block.OnForward (b c : Block) : Prop where
  phase : ∀ i, (c.die i).phase = (b.die i).phase ∧ (c.die i).refusing = (b.die i).refusing
  frames : c.frames = b.frames
  inflight : c.inflight = b.inflight
  tx : ∀ p, (c.port p).tx = (b.port p).tx
  fifo : ∀ j H, b.fifo j H = [] → c.fifo j H = []

namespace Block.OnForward

theorem refl (b : Block) : b.OnForward b := ⟨fun _ => ⟨rfl, rfl⟩, rfl, rfl, fun _ => rfl, fun _ _ h => h⟩
theorem trans (h : b.OnForward c) (h' : c.OnForward d) : b.OnForward d :=
  ⟨fun i => ⟨(h'.phase i).1.trans (h.phase i).1, (h'.phase i).2.trans (h.phase i).2⟩, h'.frames.trans h.frames, h'.inflight.trans h.inflight,
    fun p => (h'.tx p).trans (h.tx p), fun j H hf => h'.fifo j H (h.fifo j H hf)⟩
theorem modRegion (h : b.OnForward c) (G : Nat) (f : Region → Region) : b.OnForward (c.modRegion G f) :=
  h.trans ⟨fun _ => ⟨rfl, rfl⟩, rfl, rfl, fun _ => rfl, fun _ _ h => h⟩
theorem askXoff (h : b.OnForward c) (p n : Nat) : b.OnForward (c.askXoff p n) := by
  have hports := ((Block.OnAccounts.refl c).askXoff p n).port
  exact h.trans ⟨fun _ => ⟨rfl, rfl⟩, rfl, rfl, fun q => by rw [hports q], fun _ _ h => h⟩
theorem setInput_nil (h : b.OnForward c) (G j : Nat) {l : List Transit} (hl : c.input G j = [] → l = []) : b.OnForward (c.setInput G j l) := by
  refine h.trans ⟨fun i => ?_, ?_, ?_, fun p => ?_, fun k H hk => Block.fifo_setInput_nil hk hl⟩
  all_goals unfold Block.setInput
  · split <;> exact ⟨rfl, rfl⟩
  all_goals split <;> rfl
theorem fwdLost (h : b.OnForward c) (i n : Nat) : b.OnForward (c.fwdLost i n) := by
  refine h.trans ⟨fun j => ?_, ?_, ?_, fun p => ?_, fun j H hj => ?_⟩
  · unfold Block.fwdLost
    by_cases hj : j = i
    · rw [hj, Block.die_modDie_same, Block.count_die]
      exact ⟨rfl, rfl⟩
    · rw [Block.die_modDie_other _ _ hj, Block.count_die]
      exact ⟨rfl, rfl⟩
  · rw [Block.fwdLost, Block.modDie_frames, Block.count_frames]
  · rw [Block.fwdLost, Block.modDie_inflight, Block.count_inflight]
  · rw [Block.fwdLost, Block.modDie_port, Block.count_port]
  · rw [Block.fifo_of_fifos (b := c) (by rw [Block.fwdLost, Block.modDie_fifos, Block.count_fifos])]
    exact hj

end Block.OnForward

theorem Block.emptyRegion_forward (b : Block) (G : Nat) : b.OnForward (b.emptyRegion G) := by
  unfold Block.emptyRegion
  exact foldl_inv (P := b.OnForward) _ ((Block.OnForward.refl b).modRegion G _) fun c k _ h => h.askXoff _ _

/-- The numbers of the copies that the ports of region G transmit. -/
def Block.sentSids (b : Block) (G : Nat) : List Nat := (List.range 32).flatMap fun k => (b.port (32 * G + k)).tx.map (·.sid)

theorem Block.mem_sentSids {G s : Nat} : s ∈ b.sentSids G ↔ ∃ k, k < 32 ∧ ∃ c ∈ (b.port (32 * G + k)).tx, c.sid = s := by
  simp [Block.sentSids]

/-- Region G after a forwarding reset: only copies in transmission have cells. -/
def Block.Forwarded (b : Block) (G : Nat) (t : Block) : Prop :=
  (∀ x ∈ (t.region G).stored, ∃ k, k < 32 ∧ ∃ c ∈ (b.port (32 * G + k)).tx, c.sid = x.1) ∧ (t.region G).queues = [] ∧ (t.region G).groups = []

/-- The FIFOs toward region G, and its host link, as a forwarding reset leaves them. -/
def Block.fwdFlush (b : Block) (G : Nat) : Block :=
  let c := b.each 4 fun b i => b.setFifo i G []
  c.setInput G 4 ((c.input G 4).filter fun t => t.st == .waiting)

theorem Block.fwdFlush_tells (b : Block) (G : Nat) : b.OnForward (b.fwdFlush G) ∧ (b.fwdFlush G).regions = b.regions ∧
    ∀ i, i < 4 → (b.fwdFlush G).fifo i G = [] := by
  have hset (c : Block) (i : Nat) : c.OnForward (c.setFifo i G []) := by
    refine ⟨fun _ => ⟨rfl, rfl⟩, rfl, rfl, fun _ => rfl, fun j H h => ?_⟩
    rw [Block.fifo_setFifo]
    split
    · rfl
    · exact h
  have hfour : b.OnForward (b.each 4 fun b i => b.setFifo i G []) ∧ (b.each 4 fun b i => b.setFifo i G []).regions = b.regions :=
    Block.each_inv (P := fun c => b.OnForward c ∧ c.regions = b.regions) ⟨.refl b, rfl⟩ fun c i _ h => ⟨h.1.trans (hset c i), h.2⟩
  have hempty (i : Nat) (hi : i < 4) : (b.each 4 fun b i => b.setFifo i G []).fifo i G = [] := by
    refine Block.each_turn hi (I := fun _ => True) (P := fun c => c.fifo i G = []) trivial (fun _ _ _ _ => trivial) (fun c _ => ?_) fun c j _ _ h =>
      (hset c j).fifo i G h
    rw [Block.fifo_setFifo, if_pos rfl]
  obtain ⟨c, hc⟩ : ∃ c, (b.each 4 fun b i => b.setFifo i G []) = c := ⟨_, rfl⟩
  rw [hc] at hfour hempty
  have hin : c.OnForward (c.setInput G 4 ((c.input G 4).filter fun t => t.st == .waiting)) :=
    (Block.OnForward.refl c).setInput_nil G 4 fun h => by rw [h]; rfl
  unfold Block.fwdFlush
  rw [hc]
  exact ⟨hfour.1.trans hin, hfour.2, fun i hi => hin.fifo i G (hempty i hi)⟩

theorem Block.fwdEmpty_tells (b : Block) (G : Nat) : b.OnForward (b.fwdEmpty G) ∧ b.Forwarded G (b.fwdEmpty G) ∧
    (∀ i, i < 4 → (b.fwdEmpty G).fifo i G = []) ∧ ∀ H, H ≠ G → (b.fwdEmpty G).region H = b.region H := by
  obtain ⟨hforward, hregions, hempty⟩ := b.fwdFlush_tells G
  obtain ⟨c, hc⟩ : ∃ c, b.fwdFlush G = c := ⟨_, rfl⟩
  rw [hc] at hforward hregions hempty
  obtain ⟨kept, hkept⟩ : ∃ kept, (((b.region G).stored.filter fun s => (b.sentSids G).contains s.1).map fun s =>
    (s.1, { s.2 with refs := (b.sentSids G).count s.1, own := 0, grp := 0 })) = kept := ⟨_, rfl⟩
  have hmem (x : Nat × Stored) (hx : x ∈ kept) : x.1 ∈ b.sentSids G := by
    rw [← hkept] at hx
    obtain ⟨s, hs, rfl⟩ := List.mem_map.mp hx
    simpa using (List.mem_filter.mp hs).2
  have ht : b.fwdEmpty G = (c.emptyRegion G).modRegion G fun g => { g with stored := kept, leaked := 0 } := by
    rw [← hkept, ← hc]
    rfl
  obtain ⟨-, -, -, hergn⟩ := c.emptyRegion_tells G
  have hregion (H : Nat) : (c.emptyRegion G).region H =
      if H = G then { c.region G with stored := [], queues := [], groups := [], mcPend := [] } else b.region H := by
    rw [Block.region_of_regions hergn, Block.region_modRegion, Block.region_of_regions hregions H]
  rw [ht]
  have hout := (hforward.trans (c.emptyRegion_forward G)).modRegion G fun g => { g with stored := kept, leaked := 0 }
  have hfifo := (c.emptyRegion_forward G).modRegion G fun g => { g with stored := kept, leaked := 0 }
  refine ⟨hout, ⟨fun x hx => ?_, ?_, ?_⟩, fun i hi => hfifo.fifo i G (hempty i hi), fun H hH => ?_⟩
  · rw [Block.region_modRegion, if_pos rfl] at hx
    exact Block.mem_sentSids.mp (hmem x hx)
  · rw [Block.region_modRegion, if_pos rfl, hregion, if_pos rfl]
  · rw [Block.region_modRegion, if_pos rfl, hregion, if_pos rfl]
  · rw [Block.region_modRegion, if_neg hH, hregion, if_neg hH]

/-- What region G loses to a forwarding reset, and its emptying. -/
def Block.fwdTurn (e : Nat) (b : Block) (G : Nat) : Block :=
  let sending := ((List.range 32).map fun k => (b.port (32 * G + k)).tx.length).sum
  let fifo := ((List.range 4).map fun i => ((b.fifo i G).filter fun t => t.st == .waiting).length).sum
  (b.fwdLost e (b.copiesIn G - sending + fifo)).fwdEmpty G

theorem Block.Forwarded.tx {G : Nat} {t : Block} (h : c.Forwarded G t) (tx : ∀ p, (c.port p).tx = (b.port p).tx) : b.Forwarded G t := by
  refine ⟨fun x hx => ?_, h.2⟩
  obtain ⟨k, hk, y, hy, hs⟩ := h.1 x hx
  exact ⟨k, hk, y, by rw [← tx]; exact hy, hs⟩

theorem Block.fwdTurn_tells (b : Block) (e G : Nat) : b.OnForward (b.fwdTurn e G) ∧ b.Forwarded G (b.fwdTurn e G) ∧
    (∀ i, i < 4 → (b.fwdTurn e G).fifo i G = []) ∧ ∀ H, H ≠ G → (b.fwdTurn e G).region H = b.region H := by
  obtain ⟨n, hn⟩ : ∃ n, b.copiesIn G - ((List.range 32).map fun k => (b.port (32 * G + k)).tx.length).sum +
    ((List.range 4).map fun i => ((b.fifo i G).filter fun t => t.st == .waiting).length).sum = n := ⟨_, rfl⟩
  have ht : b.fwdTurn e G = (b.fwdLost e n).fwdEmpty G := by rw [← hn]; rfl
  have hlost := (Block.OnForward.refl b).fwdLost e n
  have hregion (H : Nat) : (b.fwdLost e n).region H = b.region H := by
    rw [Block.fwdLost, Block.modDie_region, Block.count_region]
  obtain ⟨h1, h2, h3, h4⟩ := (b.fwdLost e n).fwdEmpty_tells G
  rw [ht]
  exact ⟨hlost.trans h1, h2.tx hlost.tx, h3, fun H hH => (h4 H hH).trans (hregion H)⟩

theorem Block.fwdReset_tells (b : Block) (e : Nat) :
    let t := b.fwdReset e
    (t.die e).refusing = true ∧ (t.die e).phase = (b.die e).phase ∧ t.frames = b.frames ∧ t.inflight = b.inflight ∧ (∀ p, (t.port p).tx = (b.port p).tx) ∧
      ∀ G, G = 2 * e ∨ G = 2 * e + 1 →
        (∀ x ∈ (t.region G).stored, ∃ k, k < 32 ∧ ∃ c ∈ (b.port (32 * G + k)).tx, c.sid = x.1) ∧ (t.region G).queues = [] ∧ (t.region G).groups = [] ∧
          ∀ i, i < 4 → t.fifo i G = [] := by
  intro t
  obtain ⟨c, hc⟩ : ∃ c, b.modDie e (fun x => { x with refusing := true, dropped := 0 }) = c := ⟨_, rfl⟩
  have hcb : (c.die e).refusing = true ∧ (c.die e).phase = (b.die e).phase ∧ c.frames = b.frames ∧ c.inflight = b.inflight ∧
      ∀ p, (c.port p).tx = (b.port p).tx := by
    rw [← hc, Block.die_modDie_same]
    exact ⟨rfl, rfl, rfl, rfl, fun _ => rfl⟩
  obtain ⟨hr, hp, hframes, hinflight, htx⟩ := hcb
  have ht : t = (c.fwdTurn e (2 * e)).fwdTurn e (2 * e + 1) := by rw [← hc]; rfl
  obtain ⟨h1, k1, l1, -⟩ := c.fwdTurn_tells e (2 * e)
  obtain ⟨g, hg⟩ : ∃ g, c.fwdTurn e (2 * e) = g := ⟨_, rfl⟩
  rw [hg] at h1 k1 l1 ht
  obtain ⟨h2, k2, l2, m2⟩ := g.fwdTurn_tells e (2 * e + 1)
  rw [← ht] at h2 k2 l2 m2
  have h := h1.trans h2
  refine ⟨(h.phase e).2.trans hr, (h.phase e).1.trans hp, h.frames.trans hframes, h.inflight.trans hinflight, fun p => (h.tx p).trans (htx p), fun G hG => ?_⟩
  rcases hG with rfl | rfl
  · obtain ⟨s, q, gr⟩ := k1.tx htx
    rw [m2 (2 * e) (by omega)]
    exact ⟨s, q, gr, fun i hi => h2.fifo i _ (l1 i hi)⟩
  · obtain ⟨s, q, gr⟩ := k2.tx fun p => (h1.tx p).trans (htx p)
    exact ⟨s, q, gr, l2⟩

/-! ## FWD_RESET -/

theorem Block.fwdResetEnd_of_not (h : (b.die e).refusing = false) : b.fwdResetEnd e = b := by
  unfold Block.fwdResetEnd
  rw [if_pos (by simp [h])]

theorem Block.fwdResetEnd_tells (h : (b.die e).refusing = true) :
    let t := b.fwdResetEnd e
    t.die e = { b.die e with refusing := false } ∧ t.inflight = (b.send 6 e 0x08 0).inflight ∧
      t = { b with dies := t.dies, inflight := t.inflight, records := t.records } := by
  intro t
  obtain ⟨c, hc⟩ : ∃ c, b.modDie e (fun x => { x with refusing := false }) = c := ⟨_, rfl⟩
  have hcdie : c.die e = { b.die e with refusing := false } := by rw [← hc, Block.die_modDie_same]
  have hconly : ∃ ds, c = { b with dies := ds } := by rw [← hc]; exact ⟨_, rfl⟩
  have ht : t = (c.send 6 e 0x08 0).traceHold e 4 0 (b.die e).dropped := by
    rw [show t = b.fwdResetEnd e from rfl, Block.fwdResetEnd, if_neg (by simp [h]), ← hc]
  have htdie : t.die e = c.die e := by rw [ht]; rfl
  obtain ⟨ds, hds⟩ := hconly
  refine ⟨htdie.trans hcdie, ?_, ?_⟩
  · rw [ht, hds]
    rfl
  · rw [ht, hds]
    rfl

/-- Settles O47: what a reset keeps (`resetBy_tells`), how boot starts (`bootStart_tells`), and die and forwarding resets. -/
theorem resetsKeepWhatTheTableSays : Obligations.ResetsKeepWhatTheTableSays := by
  unfold Obligations.ResetsKeepWhatTheTableSays
  refine ⟨fun b straps => ?_, fun b d => ?_⟩
  · intro C cleared rails bus keepsCapture warm boots
    have hs : straps.toNat < 2 ^ 7 := straps.isLt
    refine ⟨takes_powerOnReset.to b.powerOnReset_leaves, fun h => ?_, fun h hp => ?_, fun h hp => ?_, fun d mv => ⟨fun hno => ?_, fun hlow => ?_⟩, fun h => ?_,
      fun h hp => ?_, fun h => ?_, fun h => ?_, fun h => ?_, fun h hold => ?_, fun h hold => ?_, fun w v hreach => ⟨fun h => ?_, fun h bad => ?_, fun h key hno => ?_⟩⟩
    · exact takes_congr (takes_powerOnResetEnd straps) (Block.powerOnEnd_of_not h)
    · exact takes_congr (takes_powerOnResetEnd straps) ((Block.powerOnEnd_of _ h).trans (Block.holdOver_of_low hp))
    · refine (takes_congr (takes_powerOnResetEnd straps) (Block.powerOnEnd_of _ h)).to ⟨Block.holdOver_boots hs hp, ?_⟩
      rw [Block.holdOver_of_high hp]
      obtain ⟨h1, h2, h3, -⟩ := (b.overed straps.toNat).bootStart_rest
      exact ⟨h1, h2, h3⟩
    · exact (takes_sagReset d mv).to (Block.sagReset_above hno)
    · exact (takes_sagReset d mv).to (Block.sagReset_below d.isLt hlow)
    · exact takes_congr (takes_sagResetEnd straps) (Block.sagResetEnd_of_not h)
    · exact (takes_sagResetEnd straps).to (Block.sagResetEnd_boots hs h hp)
    · exact takes_congr takes_pinReset (Block.pinReset_of_low h)
    · exact takes_pinReset.to (Block.pinReset_tells h)
    · exact takes_congr (takes_resetRelease straps) (Block.resetRelease_of_high h)
    · exact takes_congr (takes_resetRelease straps) (Block.resetRelease_of_held h hold)
    · exact (takes_resetRelease straps).to (Block.resetRelease_boots hs h hold)
    · exact takes_congr (takes_packageSoftReset straps hreach) (Block.softReset_of_none h)
    · exact takes_congr (takes_packageSoftReset straps hreach) (Block.softReset_of_bad h bad)
    · exact (takes_packageSoftReset straps hreach).to (Block.softReset_tells hs h key hno)
  · intro S
    refine ⟨fun w v hreach => ?_, fun h => ?_, fun hr hp hw => ?_, fun hr hp hl hring => ?_, fun h => ?_, fun h => ?_⟩
    · intro key dies fwds
      refine ⟨fun h => ?_, fun h => ?_, fun h bad => ?_, fun h bad => ?_, fun hkey soft => ⟨fun hd hf => ?_, fun hd hf => ?_⟩⟩
      · exact takes_congr (takes_dieReset hreach) (Block.dieResetWrite_of_none h)
      · exact takes_congr (takes_forwardingReset hreach) (Block.fwdResetWrite_of_none h)
      · exact takes_congr (takes_dieReset hreach) (Block.dieResetWrite_of_bad h bad)
      · exact takes_congr (takes_forwardingReset hreach) (Block.fwdResetWrite_of_bad h bad)
      · have htakes := takes_congr (takes_dieReset (b := b) hreach) (Block.dieResetWrite_of_die d.isLt hkey soft hd hf)
        exact ⟨fun hr => takes_congr htakes (Block.dieReset_of_resetting hr), fun hr hp => htakes.to (Block.dieReset_enters d.isLt hr hp),
          fun hr hp => takes_congr htakes (Block.dieReset_of_moving hr hp), fun hr hp => htakes.to (Block.dieReset_held_tells hr hp)⟩
      · exact (takes_congr (takes_forwardingReset (b := b) hreach) (Block.fwdResetWrite_of_die d.isLt hkey soft hd hf)).to (b.fwdReset_tells d)
    · exact takes_congr (takes_dieResetDone d) (Block.dieResetDone_of_not h)
    · exact (takes_dieResetDone d).to (Block.dieResetDone_stays hr hp hw)
    · exact (takes_dieResetDone d).to (Block.dieResetDone_leaves hr hp hl hring)
    · exact takes_congr (takes_fwdReset d) (Block.fwdResetEnd_of_not h)
    · exact (takes_fwdReset d).to (Block.fwdResetEnd_tells h)

end Sys2Proof.Machine
end

section
/-!
PROOFS. The counter units and the bandwidth windows (R501 to R503, R507).
-/
namespace Sys2Proof.Machine
open Sys2Proof

variable {b c d : Block}

theorem Block.OnRegs.only (h : b.OnRegs c) : c = { b with regs := c.regs } := by
  obtain ⟨rs, rfl⟩ := h
  rfl

theorem Block.OnRegs.ctr (h : b.OnRegs c) (a : Nat) : c.ctr a = b.ctr a := by
  obtain ⟨rs, rfl⟩ := h
  rfl

theorem Block.Counted.only (h : b.Counted c) : c = { b with ctrs := c.ctrs } := by
  obtain ⟨cs, rfl⟩ := h
  rfl

theorem Block.Counted.setCtr (h : b.Counted c) (a v : Nat) : b.Counted (c.setCtr a v) := h.trans ⟨_, rfl⟩

/-! ## The registers of a unit -/

/-- Which block of its type a unit belongs to. -/
def unitInst : CounterUnit → Nat
  | .pkg | .hif => 0
  | .die d | .tbl d | .hbm d | .xep d => d.val
  | .rgn g => g.val | .cls c => c.val | .prt p => p.val | .mac p => p.val

/-- The block types that hold a counter unit, each with where its registers lie there. -/
def unitPlaces : List (Blk × Nat) :=
  [(.obs, 0x1000), (.hif, 0x6000), (.die, 0x5000), (.tbl, 0x3000), (.hbm, 0x3000), (.xep, 0x1000), (.rgn, 0x71000), (.cls, 0x8000),
   (.prt, 0xF00), (.mac, 0xF00)]

/-- A unit's registers lie at one of these places. -/
theorem unitOf_place (u : CounterUnit) :
    ∃ o, (unitBlk u, o) ∈ unitPlaces ∧ (unitOf u).base = (unitBlk u).base (unitInst u) + o ∧ unitInst u < (unitBlk u).count := by
  have fits : unitInst u < (unitBlk u).count := by cases u <;> simp [unitInst, unitBlk]
  cases u with
  | pkg => exact ⟨0x1000, by decide, rfl, fits⟩
  | hif => exact ⟨0x6000, by decide, rfl, fits⟩
  | die d => exact ⟨0x5000, by decide +revert, rfl, fits⟩
  | tbl d => exact ⟨0x3000, by decide +revert, rfl, fits⟩
  | hbm d => exact ⟨0x3000, by decide +revert, rfl, fits⟩
  | xep d => exact ⟨0x1000, by decide +revert, rfl, fits⟩
  | rgn g => exact ⟨0x71000, by decide +revert, rfl, fits⟩
  | cls c => exact ⟨0x8000, by simp [unitBlk, unitPlaces], rfl, fits⟩
  | prt p => exact ⟨0xF00, by simp [unitBlk, unitPlaces], rfl, fits⟩
  | mac p => exact ⟨0xF00, by simp [unitBlk, unitPlaces], rfl, fits⟩

/-- The fields of PMC_CTRL and of PMC_SEL. -/
def ctrlFlds : List Fld := [⟨1, 1, .rw, 0⟩, ⟨0, 0, .wo, 0⟩]
def selFlds : List Fld := [⟨31, 31, .rw, 0⟩, ⟨27, 16, .rw, 0⟩, ⟨7, 0, .rw, 0⟩]

theorem findIn_ctrl : ∀ p ∈ unitPlaces, p.2 < p.1.size ∧ findIn p.1 0 p.2 (blkRegs p.1) = some ⟨p.1, 0, p.2, reg1 p.2 ctrlFlds, 0, 0, 0⟩ := by
  decide

theorem findIn_sel : ∀ p ∈ unitPlaces, ∀ k : Fin 8, p.2 + 0x10 + 4 * k.val < p.1.size ∧
    findIn p.1 0 (p.2 + 0x10 + 4 * k.val) (blkRegs p.1) =
      some ⟨p.1, 0, p.2 + 0x10 + 4 * k.val, regN (p.2 + 0x10) 8 4 selFlds, k.val, 0, 0⟩ := by
  decide

theorem findReg_pmcCtrl (u : CounterUnit) : ∃ h : RegHit, findReg (unitOf u).base = some h ∧ h.desc.wide = false ∧ h.desc.flds = ctrlFlds := by
  obtain ⟨o, hmem, hbase, hinst⟩ := unitOf_place u
  obtain ⟨hsize, hit⟩ := findIn_ctrl _ hmem
  exact ⟨_, findReg_base hbase hinst hsize hit, rfl, rfl⟩

theorem findReg_pmcSel (u : CounterUnit) (k : Fin 8) :
    ∃ h : RegHit, findReg ((unitOf u).base + 0x10 + 4 * k.val) = some h ∧ h.desc.wide = false ∧ h.desc.flds = selFlds := by
  obtain ⟨o, hmem, hbase, hinst⟩ := unitOf_place u
  obtain ⟨hsize, hit⟩ := findIn_sel _ hmem k
  exact ⟨_, findReg_base (by rw [hbase]; omega) hinst hsize hit, rfl, rfl⟩
/-! ## The units' counters -/

theorem Block.fld_freeze_stored (b : Block) (u : CounterUnit) (w : Writer) (v : Nat) :
    (b.storeReg w (unitOf u).base v).fld (unitOf u).base F.OBS_PMC_CTRL_FREEZE = F.OBS_PMC_CTRL_FREEZE.of v := by
  obtain ⟨h, hit, narrow, flds⟩ := findReg_pmcCtrl u
  exact Block.fld_storeReg hit narrow w v (f := ⟨1, 1, .rw, 0⟩) (by simp [flds, ctrlFlds])

theorem Block.storeReg_pmcCtrl (b : Block) (u : CounterUnit) (w : Writer) (v : Nat) :
    b.storeReg w (unitOf u).base v = { b with regs := (b.storeReg w (unitOf u).base v).regs } := by
  obtain ⟨h, hit, narrow, flds⟩ := findReg_pmcCtrl u
  rw [Block.storeReg_of_noRwl hit narrow (by rw [flds]; decide)]
  exact Block.setWord_only _ _ _

/-- A unit whose FREEZE is set counts nothing. -/
theorem Block.pmc_of_freeze {u : PUnit} (h : b.fld u.base F.OBS_PMC_CTRL_FREEZE = 1) (ev q n : Nat) : b.pmc u ev q n = b := by
  have hbit : bitOf (b.word u.base) 1 = true := by
    rw [bitOf, beq_iff_eq]
    exact h
  unfold Block.pmc
  dsimp only
  rw [hbit, Bool.or_true, if_pos rfl]

theorem Block.ctr_setCtr_other (a v : Nat) {x : Nat} (h : x ≠ a) : (b.setCtr a v).ctr x = b.ctr x := by
  rw [Block.ctr_setCtr, if_neg h]

theorem Block.ctr_setCtr_zero (a : Nat) : (b.setCtr a 0).ctr a = 0 := by
  rw [Block.ctr_setCtr, if_pos rfl]
  rfl

/-- Clearing a unit sets its eight counters to 0, and changes nothing else. -/
theorem Block.clearUnit_tells (b : Block) (u : PUnit) :
    (∀ k, k < 8 → (b.clearUnit u).ctr (u.base + 0x40 + 8 * k) = 0) ∧
    (∀ a, (∀ k, k < 8 → a ≠ u.base + 0x40 + 8 * k) → (b.clearUnit u).ctr a = b.ctr a) ∧
    b.Counted (b.clearUnit u) := by
  refine ⟨fun k hk => ?_, fun a apart => ?_, ?_⟩
  · refine foldl_all (Q := fun k c => c.ctr (u.base + 0x40 + 8 * k) = 0) (fun c k => c.ctr_setCtr_zero _) (fun c x y h => ?_) _
      (.inl (List.mem_range.mpr hk))
    rw [Block.ctr_setCtr, h]
    split <;> rfl
  · refine foldl_inv (P := fun c => c.ctr a = b.ctr a) _ rfl fun c k hk h => ?_
    rw [c.ctr_setCtr_other _ _ (apart k (List.mem_range.mp hk)), h]
  · exact foldl_inv (P := b.Counted) _ (.refl b) fun c k _ h => h.setCtr _ _

/-- A write of a unit's PMC_CTRL. -/
theorem Block.pmcCtrl_tells (b : Block) (w : Writer) (u : CounterUnit) (v : Nat) :
    let B := (unitOf u).base
    let t := b.pmcCtrl w (unitOf u) v
    t.fld B F.OBS_PMC_CTRL_FREEZE = F.OBS_PMC_CTRL_FREEZE.of v ∧
    (∀ a, (∀ k, k < 8 → a ≠ B + 0x40 + 8 * k) → t.ctr a = b.ctr a) ∧
    (F.OBS_PMC_CTRL_FREEZE.of v = 1 → ∀ ev q n, t.pmc (unitOf u) ev q n = t) ∧
    (F.OBS_PMC_CTRL_CLR.of v = 1 → ∀ k, k < 8 → t.ctr (B + 0x40 + 8 * k) = 0) ∧
    (F.OBS_PMC_CTRL_CLR.of v = 0 → t.ctrs = b.ctrs) ∧
    t = { b with regs := t.regs, ctrs := t.ctrs } := by
  intro B t
  obtain ⟨hzero, hother, hcounted⟩ := b.clearUnit_tells (unitOf u)
  obtain ⟨c, hc⟩ : ∃ c, (if F.OBS_PMC_CTRL_CLR.of v == 1 then b.clearUnit (unitOf u) else b) = c := ⟨_, rfl⟩
  have ht : t = c.storeReg w B v := by rw [← hc]; rfl
  have hfreeze : t.fld B F.OBS_PMC_CTRL_FREEZE = F.OBS_PMC_CTRL_FREEZE.of v := ht ▸ c.fld_freeze_stored u w v
  have hctr (a : Nat) : t.ctr a = c.ctr a := by rw [ht, Block.storeReg_ctr]
  have honly : t = { c with regs := t.regs } := ht ▸ c.storeReg_pmcCtrl u w v
  refine ⟨hfreeze, fun a apart => ?_, fun frozen ev q n => Block.pmc_of_freeze (hfreeze.trans frozen) ev q n, fun clr k hk => ?_, fun clr => ?_, ?_⟩
  · rw [hctr, ← hc]
    by_cases h : (F.OBS_PMC_CTRL_CLR.of v == 1) = true
    · rw [if_pos h]
      exact hother a apart
    · rw [if_neg h]
  · rw [hctr, ← hc, if_pos (by simp [clr])]
    exact hzero k hk
  · rw [honly, ← hc, if_neg (by simp [clr])]
  · have : b.Counted c := by
      rw [← hc]
      by_cases h : (F.OBS_PMC_CTRL_CLR.of v == 1) = true
      · rw [if_pos h]
        exact hcounted
      · rw [if_neg h]
        exact .refl b
    obtain ⟨cs, hcs⟩ := this
    rw [honly, hcs]

/-- A selection that the unit defines. -/
theorem Block.pmcSelWrite_tells (b : Block) (w : Writer) (u : CounterUnit) (k : Fin 8) (v : Nat) (ok : (unitOf u).selOk v = true) :
    let B := (unitOf u).base
    let a := B + 0x10 + 4 * k.val
    let t := b.pmcSelWrite w (unitOf u) k v
    t.ctr (B + 0x40 + 8 * k) = 0 ∧ (∀ j, j ≠ B + 0x40 + 8 * k.val → t.ctr j = b.ctr j) ∧
    t.fld a F.OBS_PMC_SEL_EN = F.OBS_PMC_SEL_EN.of v ∧ t.fld a F.OBS_PMC_SEL_EVENT = F.OBS_PMC_SEL_EVENT.of v ∧
    t.fld a F.OBS_PMC_SEL_QUAL = F.OBS_PMC_SEL_QUAL.of v ∧ t = { b with regs := t.regs, ctrs := t.ctrs } := by
  intro B a t
  obtain ⟨h, hit, narrow, flds⟩ := findReg_pmcSel u k
  obtain ⟨c, hc⟩ : ∃ c, b.storeReg w a v = c := ⟨_, rfl⟩
  have ht : t = c.setCtr (B + 0x40 + 8 * k) 0 := by
    rw [← hc]
    exact if_pos ok
  have hfld (f : Fld) (hf : f ∈ selFlds) : t.fld a f.bits = f.after (b.opens w) (b.fld a f.bits) (f.bits.of v) := by
    rw [ht, Block.setCtr_fld, ← hc]
    exact Block.fld_storeReg hit narrow w v (flds ▸ hf)
  have honly : c = { b with regs := c.regs } := by
    rw [← hc, Block.storeReg_of_noRwl hit narrow (by rw [flds]; decide)]
    exact Block.setWord_only _ _ _
  refine ⟨by rw [ht, Block.ctr_setCtr_zero], fun j hj => ?_, hfld ⟨31, 31, .rw, 0⟩ (by simp [selFlds]), hfld ⟨7, 0, .rw, 0⟩ (by simp [selFlds]),
    hfld ⟨27, 16, .rw, 0⟩ (by simp [selFlds]), ?_⟩
  · rw [ht, Block.ctr_setCtr_other _ _ hj, ← hc, Block.storeReg_ctr]
  · rw [ht, honly]
    rfl

/-! ## All units at once (R503) -/

theorem Block.pmcGlobal_eq (b : Block) (w : Writer) (v : Nat) : b.pmcGlobal w v =
    allUnits.foldl (fun b u => b.setFld u.base F.OBS_PMC_CTRL_FREEZE (F.OBS_PMC_GLOBAL_FREEZE_ALL.of v))
      ((if F.OBS_PMC_GLOBAL_CLEAR_ALL.of v == 1 then allUnits.foldl Block.clearUnit b else b).storeReg w R.OBS_PMC_GLOBAL v) := by
  rw [Block.pmcGlobal]

/-- A write of PMC_GLOBAL sets every unit's FREEZE to FREEZE_ALL; CLEAR_ALL clears every counter of theirs, and no other. -/
theorem Block.pmcGlobal_tells (b : Block) (w : Writer) (v : Nat) :
    let t := b.pmcGlobal w v
    (∀ u ∈ allUnits, t.fld u.base F.OBS_PMC_CTRL_FREEZE = F.OBS_PMC_GLOBAL_FREEZE_ALL.of v) ∧
    (F.OBS_PMC_GLOBAL_CLEAR_ALL.of v = 1 → (∀ u ∈ allUnits, ∀ k, k < 8 → t.ctr (u.base + 0x40 + 8 * k) = 0) ∧
      (∀ a, (∀ u ∈ allUnits, ∀ k, k < 8 → a ≠ u.base + 0x40 + 8 * k) → t.ctr a = b.ctr a) ∧ t = { b with regs := t.regs, ctrs := t.ctrs }) ∧
    (F.OBS_PMC_GLOBAL_CLEAR_ALL.of v = 0 → t = { b with regs := t.regs }) := by
  intro t
  obtain ⟨c, hc⟩ : ∃ c, (if F.OBS_PMC_GLOBAL_CLEAR_ALL.of v == 1 then allUnits.foldl Block.clearUnit b else b) = c := ⟨_, rfl⟩
  obtain ⟨d, hd⟩ : ∃ d, c.storeReg w R.OBS_PMC_GLOBAL v = d := ⟨_, rfl⟩
  have hit : findReg R.OBS_PMC_GLOBAL = some ⟨.obs, 0, 0x300, reg1 0x300 [⟨1, 1, .rw, 0⟩, ⟨0, 0, .wo, 0⟩], 0, 0, 0⟩ :=
    findReg_base rfl (by decide) (by decide) (by decide)
  have ht : t = allUnits.foldl (fun b u => b.setFld u.base F.OBS_PMC_CTRL_FREEZE (F.OBS_PMC_GLOBAL_FREEZE_ALL.of v)) d := by
    rw [← hd, ← hc]
    exact b.pmcGlobal_eq w v
  clear_value t
  have hregs : c.OnRegs t := by
    rw [ht]
    refine foldl_inv (P := c.OnRegs) _ ?_ fun e u _ h => h.setFld _ _ _
    rw [← hd, Block.storeReg_of_noRwl hit rfl (by decide)]
    exact (Block.OnRegs.refl _).setWord _ _
  have honly : t = { c with regs := t.regs } := hregs.only
  have hctr := hregs.ctr
  have fits : F.OBS_PMC_GLOBAL_FREEZE_ALL.of v < 2 := F.OBS_PMC_GLOBAL_FREEZE_ALL.of_lt v
  refine ⟨fun u hu => ?_, fun clr => ?_, fun clr => ?_⟩
  · rw [ht]
    refine foldl_all (Q := fun (u : PUnit) c => c.fld u.base F.OBS_PMC_CTRL_FREEZE = F.OBS_PMC_GLOBAL_FREEZE_ALL.of v) (fun e u => ?_)
      (fun e x y h => ?_) _ (.inl hu)
    · exact (Block.fld_setFld_same _ _ _ _ (by decide) (by decide)).trans (Nat.mod_eq_of_lt fits)
    · by_cases same : y.base = x.base
      · rw [same]
        exact (Block.fld_setFld_same _ _ _ _ (by decide) (by decide)).trans (Nat.mod_eq_of_lt fits)
      · rw [Block.fld_of_word (Block.word_setFld_ne _ _ _ same), h]
  · have hcc : allUnits.foldl Block.clearUnit b = c := by rw [← hc, if_pos (by simp [clr])]
    refine ⟨fun u hu k hk => ?_, fun a apart => ?_, ?_⟩
    · rw [hctr, ← hcc]
      refine foldl_all (Q := fun (u : PUnit) c => ∀ k, k < 8 → c.ctr (u.base + 0x40 + 8 * k) = 0) (fun e u => (e.clearUnit_tells u).1)
        (fun e x y h k hk => ?_) _ (.inl hu) k hk
      obtain ⟨hzero, hother, -⟩ := e.clearUnit_tells x
      by_cases hit : ∃ j, j < 8 ∧ y.base + 0x40 + 8 * k = x.base + 0x40 + 8 * j
      · obtain ⟨j, hj, same⟩ := hit
        rw [same]
        exact hzero j hj
      · rw [hother _ fun j hj e => hit ⟨j, hj, e⟩]
        exact h k hk
    · rw [hctr, ← hcc]
      refine foldl_inv (P := fun c => c.ctr a = b.ctr a) _ rfl fun e u hu h => ?_
      rw [(e.clearUnit_tells u).2.1 a (apart u hu), h]
    · have : b.Counted c := by
        rw [← hcc]
        exact foldl_inv (P := b.Counted) _ (.refl b) fun e u _ h => h.trans (e.clearUnit_tells u).2.2
      obtain ⟨cs, hcs⟩ := this
      rw [honly, hcs]
  · rw [show b = c by rw [← hc, if_neg (by simp [clr])]]
    exact honly

/-! ## Bandwidth windows (R507) -/

theorem Block.bwWindow_tells (b : Block) (p : Nat) :
    let n := b.fld (R.MAC_BW_CFG p) F.MAC_BW_CFG_WINDOW * 1000
    let x := b.port p
    let t := b.bwWindow p
    (b.ticks < x.bwFrom + n → t = b) ∧
    (x.bwFrom + n ≤ b.ticks →
      t.ctr (R.MAC_BW_RX_BYTES p) = x.bwRx % 2 ^ 64 ∧ t.ctr (R.MAC_BW_TX_BYTES p) = x.bwTx % 2 ^ 64 ∧
      t.ctr (R.MAC_BW_RX_MAX p) = max x.bwRx (b.ctr (R.MAC_BW_RX_MAX p)) % 2 ^ 64 ∧
      t.ctr (R.MAC_BW_TX_MAX p) = max x.bwTx (b.ctr (R.MAC_BW_TX_MAX p)) % 2 ^ 64 ∧
      t.flag (R.MAC_BW_STATUS p) F.MAC_BW_STATUS_VALID = true ∧
      t.fld (R.MAC_BW_STATUS p) F.MAC_BW_STATUS_NUM = x.bwFrom / n % 2 ^ 24 ∧
      t.port p = { x with bwRx := 0, bwTx := 0, bwFrom := x.bwFrom + n } ∧
      t = { b with regs := t.regs, ctrs := t.ctrs, ports := t.ports }) := by
  intro n x t
  refine ⟨fun early => if_pos early, fun ended => ?_⟩
  obtain ⟨c1, h1⟩ : ∃ c1, (b.setCtr (R.MAC_BW_RX_BYTES p) x.bwRx).setCtr (R.MAC_BW_TX_BYTES p) x.bwTx = c1 := ⟨_, rfl⟩
  obtain ⟨c2, h2⟩ : ∃ c2, c1.setCtr (R.MAC_BW_RX_MAX p) (max x.bwRx (c1.ctr (R.MAC_BW_RX_MAX p))) = c2 := ⟨_, rfl⟩
  obtain ⟨c3, h3⟩ : ∃ c3, c2.setCtr (R.MAC_BW_TX_MAX p) (max x.bwTx (c2.ctr (R.MAC_BW_TX_MAX p))) = c3 := ⟨_, rfl⟩
  obtain ⟨c4, h4⟩ : ∃ c4, (c3.raise (R.MAC_BW_STATUS p) F.MAC_BW_STATUS_VALID).setFld (R.MAC_BW_STATUS p) F.MAC_BW_STATUS_NUM (x.bwFrom / n) = c4 :=
    ⟨_, rfl⟩
  have ht : t = c4.modPort p fun x => { x with bwRx := 0, bwTx := 0, bwFrom := x.bwFrom + n } := by
    rw [← h4, ← h3, ← h2, ← h1]
    exact if_neg (not_lt.mpr ended)
  clear_value t
  have regs : c3.OnRegs c4 := by
    rw [← h4]
    exact ((Block.OnRegs.refl c3).raise _ _).setFld _ _ _
  have counted : b.Counted c3 := by
    rw [← h3, ← h2, ← h1]
    exact ((((Block.Counted.refl b).setCtr _ _).setCtr _ _).setCtr _ _).setCtr _ _
  have hctr (a : Nat) : t.ctr a = c3.ctr a := by rw [ht, Block.modPort_ctr, regs.ctr]
  have hrx : c1.ctr (R.MAC_BW_RX_MAX p) = b.ctr (R.MAC_BW_RX_MAX p) := by
    rw [← h1, Block.ctr_setCtr_other _ _ (by unfold R.MAC_BW_RX_MAX R.MAC_BW_TX_BYTES; omega),
      Block.ctr_setCtr_other _ _ (by unfold R.MAC_BW_RX_MAX R.MAC_BW_RX_BYTES; omega)]
  have htx : c2.ctr (R.MAC_BW_TX_MAX p) = b.ctr (R.MAC_BW_TX_MAX p) := by
    rw [← h2, ← h1, Block.ctr_setCtr_other _ _ (by unfold R.MAC_BW_TX_MAX R.MAC_BW_RX_MAX; omega),
      Block.ctr_setCtr_other _ _ (by unfold R.MAC_BW_TX_MAX R.MAC_BW_TX_BYTES; omega),
      Block.ctr_setCtr_other _ _ (by unfold R.MAC_BW_TX_MAX R.MAC_BW_RX_BYTES; omega)]
  refine ⟨?_, ?_, ?_, ?_, ?_, ?_, ?_, ?_⟩
  · rw [hctr, ← h3, ← h2, ← h1, Block.ctr_setCtr_other _ _ (by unfold R.MAC_BW_TX_MAX R.MAC_BW_RX_BYTES; omega),
      Block.ctr_setCtr_other _ _ (by unfold R.MAC_BW_RX_MAX R.MAC_BW_RX_BYTES; omega),
      Block.ctr_setCtr_other _ _ (by unfold R.MAC_BW_TX_BYTES R.MAC_BW_RX_BYTES; omega), Block.ctr_setCtr, if_pos rfl]
  · rw [hctr, ← h3, ← h2, ← h1, Block.ctr_setCtr_other _ _ (by unfold R.MAC_BW_TX_MAX R.MAC_BW_TX_BYTES; omega),
      Block.ctr_setCtr_other _ _ (by unfold R.MAC_BW_RX_MAX R.MAC_BW_TX_BYTES; omega), Block.ctr_setCtr, if_pos rfl]
  · rw [hctr, ← h3, Block.ctr_setCtr_other _ _ (by unfold R.MAC_BW_TX_MAX R.MAC_BW_RX_MAX; omega), ← h2, Block.ctr_setCtr, if_pos rfl, hrx]
  · rw [hctr, ← h3, Block.ctr_setCtr, if_pos rfl, htx]
  · rw [ht, Block.modPort_flag, ← h4, Block.flag_setFld_apart _ _ _ (by decide)]
    exact Block.flag_raise _ _ _ (by decide) (by decide)
  · rw [ht, Block.modPort_fld, ← h4]
    exact Block.fld_setFld_same _ _ _ _ (by decide) (by decide)
  · rw [ht, Block.port_modPort, if_pos rfl, regs.only, counted.only]
    rfl
  · rw [ht, regs.only, counted.only]
    rfl

/-- A length from 1 to 1,000,000 is taken: measurement starts afresh at its next multiple. -/
theorem Block.bwCfgWrite_tells (b : Block) (w : Writer) {p : Nat} (hp : p < 256) (v : Nat) :
    let n := F.MAC_BW_CFG_WINDOW.of v
    let t := b.bwCfgWrite w p v
    (n = 0 ∨ 1000000 < n → t = b.refuse w (R.MAC_BW_CFG p)) ∧
    (1 ≤ n → n ≤ 1000000 →
      t.fld (R.MAC_BW_CFG p) F.MAC_BW_CFG_WINDOW = n ∧ t.flag (R.MAC_BW_STATUS p) F.MAC_BW_STATUS_VALID = false ∧
      (t.port p).bwRx = 0 ∧ (t.port p).bwTx = 0 ∧ (t.port p).bwFrom % (n * 1000) = 0 ∧ b.ticks ≤ (t.port p).bwFrom ∧
      (t.port p).bwFrom < b.ticks + n * 1000 ∧
      (F.MAC_BW_CFG_CLR_MAX.of v = 1 → t.ctr (R.MAC_BW_RX_MAX p) = 0 ∧ t.ctr (R.MAC_BW_TX_MAX p) = 0) ∧
      (F.MAC_BW_CFG_CLR_MAX.of v = 0 → t.ctrs = b.ctrs)) := by
  intro n t
  refine ⟨fun bad => if_pos (by simp; omega), fun low high => ?_⟩
  obtain ⟨c1, h1⟩ : ∃ c1, (if F.MAC_BW_CFG_CLR_MAX.of v == 1 then (b.setCtr (R.MAC_BW_RX_MAX p) 0).setCtr (R.MAC_BW_TX_MAX p) 0 else b) = c1 :=
    ⟨_, rfl⟩
  obtain ⟨c2, h2⟩ : ∃ c2, c1.storeReg w (R.MAC_BW_CFG p) v = c2 := ⟨_, rfl⟩
  obtain ⟨c3, h3⟩ : ∃ c3, c2.lower (R.MAC_BW_STATUS p) F.MAC_BW_STATUS_VALID = c3 := ⟨_, rfl⟩
  have ht : t = c3.modPort p fun x => { x with bwRx := 0, bwTx := 0, bwFrom := (c3.ticks + n * 1000 - 1) / (n * 1000) * (n * 1000) } := by
    rw [← h3, ← h2, ← h1]
    exact if_neg (by simp; omega)
  clear_value t
  have hit : findReg (R.MAC_BW_CFG p) = some ⟨.mac, p, 0x700, reg1 0x700 [⟨31, 31, .wo, 0⟩, ⟨19, 0, .rw, 1000⟩], 0, 0, 0⟩ :=
    findReg_base rfl hp (by decide) (by decide)
  have regs : c1.OnRegs c3 := by
    rw [← h3, ← h2, Block.storeReg_of_noRwl hit rfl rfl]
    exact ((Block.OnRegs.refl c1).setWord _ _).lower _ _
  have hticks : c3.ticks = b.ticks := by
    rw [regs.only, ← h1]
    split <;> rfl
  have hctr (a : Nat) : t.ctr a = c1.ctr a := by rw [ht, Block.modPort_ctr, regs.ctr]
  have hport : t.port p = { c3.port p with bwRx := 0, bwTx := 0, bwFrom := (c3.ticks + n * 1000 - 1) / (n * 1000) * (n * 1000) } := by
    rw [ht, Block.port_modPort, if_pos rfl]
  have hpos : 0 < n * 1000 := by omega
  have hdiv := Nat.div_add_mod (c3.ticks + n * 1000 - 1) (n * 1000)
  have hmod := Nat.mod_lt (c3.ticks + n * 1000 - 1) hpos
  rw [Nat.mul_comm] at hdiv
  refine ⟨?_, ?_, by rw [hport], by rw [hport], ?_, ?_, ?_, fun clr => ⟨?_, ?_⟩, fun keep => ?_⟩
  · rw [ht, Block.modPort_fld, ← h3, Block.lower, Block.fld_of_word (Block.word_setFld_ne _ _ _ (by unfold R.MAC_BW_CFG R.MAC_BW_STATUS; omega)), ← h2]
    exact Block.fld_storeReg hit rfl w v (f := ⟨19, 0, .rw, 1000⟩) (by simp [reg1])
  · rw [ht, Block.modPort_flag, ← h3]
    exact Block.flag_lower _ _ _ (by decide) (by decide)
  · rw [hport]
    exact Nat.mul_mod_left _ _
  · rw [hport, ← hticks]
    dsimp only
    omega
  · rw [hport, ← hticks]
    dsimp only
    omega
  · rw [hctr, ← h1, if_pos (by simp [clr]), Block.ctr_setCtr_other _ _ (by unfold R.MAC_BW_TX_MAX R.MAC_BW_RX_MAX; omega), Block.ctr_setCtr_zero]
  · rw [hctr, ← h1, if_pos (by simp [clr]), Block.ctr_setCtr_zero]
  · rw [ht, Block.modPort_ctrs, regs.only, ← h1, if_neg (by simp [keep])]

end Sys2Proof.Machine
end

section
/-!
PROOFS. Snapshots of the counters (R456, R508 to R510); and O49 from this and the counter units.
-/
namespace Sys2Proof.Machine
open Sys2Proof

variable {b c d : Block}

/-- Writes at other keys leave what a key holds. -/
theorem SMap.get_foldl_set_other {α : Type} [DecidableEq α] (dflt : α) (f : Nat → α) {l : List Nat} {x : Nat} (h : ∀ a ∈ l, x ≠ a) (m : SMap α) :
    SMap.get dflt (l.foldl (fun m a => SMap.set dflt m a (f a)) m) x = SMap.get dflt m x := by
  induction l generalizing m with
  | nil => rfl
  | cons a l ih =>
    rw [List.foldl_cons, ih fun y hy => h y (List.mem_cons_of_mem _ hy), SMap.get_set, if_neg (h a List.mem_cons_self)]

theorem SMap.get_filter {α : Type} (dflt : α) (m : SMap α) (p : Nat → Bool) {x : Nat} (h : p x = true) :
    SMap.get dflt (m.filter fun e => p e.1) x = SMap.get dflt m x := by
  cases hfind : SMap.find m x with
  | none => rw [SMap.get_of_find_none hfind, SMap.get_of_find_none (by rw [SMap.find_filter m p h, hfind])]
  | some v => rw [SMap.get_of_find hfind, SMap.get_of_find (by rw [SMap.find_filter m p h, hfind])]

/-- The copies hold every 64-bit counter that is no unit's reference. -/
theorem Block.copies_ctr (b : Block) {a : Nat} {h : RegHit} (hit : findReg a = some h) (counter : isCounter h = true) (wide : h.desc.wide = true)
    (noRef : isPmcRef h = false) : SMap.get 0 b.copies a = SMap.get 0 b.ctrs a := by
  have hesc : ∀ e ∈ [R.FLT_ESC_COUNT] ++ (List.range 4).map R.DIE_ESC_COUNT, a ≠ e := fun e he same => by
    have narrow : ∀ e ∈ [R.FLT_ESC_COUNT] ++ (List.range 4).map R.DIE_ESC_COUNT, (findReg e).map (·.desc.wide) = some false := by decide
    have := narrow e he
    rw [← same, hit, Option.map_some, wide] at this
    cases this
  have href : a ≠ R.OBS_PMC_REF := fun same => by
    have ref : (findReg R.OBS_PMC_REF).map isPmcRef = some true := by decide
    rw [← same, hit, Option.map_some, noRef] at ref
    cases ref
  unfold Block.copies
  dsimp only
  rw [SMap.get_set, if_neg href, SMap.get_foldl_set_other 0 _ hesc]
  refine SMap.get_filter 0 b.ctrs (fun a => match findReg a with | some h => isCounter h && !(h.desc.wide && isPmcRef h) | none => false) ?_
  simp only [hit]
  simp [counter, wide, noRef]

/-! ## The latch -/

/-- What a snapshot with a tag copies and shows. -/
def Block.LatchTells (b : Block) (tag : Nat) (t : Block) : Prop :=
  (∀ a h, findReg a = some h → isCounter h = true → h.desc.wide = true → isPmcRef h = false → SMap.get 0 t.snap a = SMap.get 0 b.ctrs a) ∧
  t.fld R.OBS_SNAP_STATUS F.OBS_SNAP_STATUS_SEQ = (b.fld R.OBS_SNAP_STATUS F.OBS_SNAP_STATUS_SEQ + 1) % 65536 ∧
  t.word R.CHN_SNAP_ID = tag % 2 ^ 32 ∧ t.ticks = b.ticks ∧ t.frames = b.frames ∧ t.ports = b.ports

theorem Block.latchAll_tells (b : Block) (x : Stamp) (tag : Nat) :
    b.LatchTells tag (b.latchAll x tag) ∧ (b.latchAll x tag).ctrs = b.ctrs ∧ (b.latchAll x tag).pendSnap = b.pendSnap := by
  obtain ⟨rg, hrg⟩ : ∃ rg, (b.regions.map fun (e : Nat × Region) => (e.1, { e.2 with pairs := e.2.pairs.map fun (e : Nat × Pair) =>
    (e.1, { e.2 with snapPackets := e.2.packets, snapBytes := e.2.bytes }) })) = rg := ⟨_, rfl⟩
  obtain ⟨c, hc⟩ : ∃ c : Block, { b with snap := b.copies, regions := rg } = c := ⟨_, rfl⟩
  obtain ⟨d, hd⟩ : ∃ d : Block, c.setFld R.OBS_SNAP_STATUS F.OBS_SNAP_STATUS_SEQ (c.fld R.OBS_SNAP_STATUS F.OBS_SNAP_STATUS_SEQ + 1) = d := ⟨_, rfl⟩
  obtain ⟨e, he⟩ : ∃ e : Block, (((d.setWord R.OBS_SNAP_TIME_NS x.word).setWord R.OBS_SNAP_TIME_S_LO (x.s % 2 ^ 32)).setWord R.OBS_SNAP_TIME_S_HI
    (x.s / 2 ^ 32)) = e := ⟨_, rfl⟩
  obtain ⟨g, hg⟩ : ∃ g : Block, (e.setWord R.OBS_SNAP_REF_LO (e.ticks % 2 ^ 32)).setWord R.OBS_SNAP_REF_HI (e.ticks / 2 ^ 32) = g := ⟨_, rfl⟩
  have ht : b.latchAll x tag = g.setWord R.CHN_SNAP_ID tag := by
    rw [← hg, ← he, ← hd, ← hc, ← hrg]
    rfl
  obtain ⟨w, hw⟩ : ∃ w, b.latchAll x tag = w := ⟨_, rfl⟩
  rw [hw] at ht ⊢
  have hregs : c.OnRegs w := by
    rw [ht, ← hg, ← he, ← hd]
    exact (((((((Block.OnRegs.refl c).setFld _ _ _).setWord _ _).setWord _ _).setWord _ _).setWord _ _).setWord _ _).setWord _ _
  have honly : w = { b with regs := w.regs, snap := b.copies, regions := rg } := by rw [hregs.only, ← hc]
  have hseq : w.word R.OBS_SNAP_STATUS = d.word R.OBS_SNAP_STATUS := by
    rw [ht, Block.word_setWord_other _ _ (by decide), ← hg, Block.word_setWord_other _ _ (by decide), Block.word_setWord_other _ _ (by decide), ← he,
      Block.word_setWord_other _ _ (by decide), Block.word_setWord_other _ _ (by decide), Block.word_setWord_other _ _ (by decide)]
  have hc' : c.fld R.OBS_SNAP_STATUS F.OBS_SNAP_STATUS_SEQ = b.fld R.OBS_SNAP_STATUS F.OBS_SNAP_STATUS_SEQ := by rw [← hc]; rfl
  have hsnap : w.snap = b.copies := by rw [honly]
  refine ⟨⟨fun a h hit counter wide noRef => ?_, ?_, ?_, ?_, ?_, ?_⟩, ?_, ?_⟩
  · rw [hsnap]
    exact b.copies_ctr hit counter wide noRef
  · rw [Block.fld_of_word hseq, ← hd, Block.fld_setFld_same _ _ _ _ (by decide) (by decide), hc']
    rfl
  · rw [ht]
    exact Block.word_setWord_same _ _ _
  all_goals rw [honly]

theorem Block.nextTick_only (b : Block) : b.nextTick = { b with ticks := b.nextTick.ticks, baseA := b.nextTick.baseA, baseB := b.nextTick.baseB } := by
  unfold Block.nextTick
  split <;> rfl

/-- NOW latches the counters at the next tick, which has not come. -/
theorem Block.snapNow_tells (b : Block) (w : Writer) {v : Nat} (now : F.OBS_SNAP_CTRL_NOW.of v = 1) (noArm : F.OBS_SNAP_CTRL_ARM.of v = 0)
    (noCancel : F.OBS_SNAP_CTRL_CANCEL.of v = 0) :
    b.LatchTells (b.word R.OBS_SNAP_TAG) (b.snapNow w v) ∧ (b.snapNow w v).pendSnap = b.pendSnap ∧ (b.snapNow w v).ctrs = b.ctrs := by
  obtain ⟨n, hn⟩ : ∃ n, b.nextTick = n := ⟨_, rfl⟩
  obtain ⟨c, hc⟩ : ∃ c, n.latchAll n.stampNow (b.word R.OBS_SNAP_TAG) = c := ⟨_, rfl⟩
  have ht : b.snapNow w v = { c with ticks := b.ticks, baseA := b.baseA, baseB := b.baseB } := by
    rw [← hc, ← hn]
    unfold Block.snapNow Block.snapCtrl
    simp [now, noArm, noCancel]
  have hnext : n = { b with ticks := n.ticks, baseA := n.baseA, baseB := n.baseB } := by rw [← hn]; exact b.nextTick_only
  obtain ⟨⟨hcopy, hseq, hid, -, hframes, hports⟩, hctrs, hpend⟩ := n.latchAll_tells n.stampNow (b.word R.OBS_SNAP_TAG)
  rw [hc] at hcopy hseq hid hframes hports hctrs hpend
  have hnctrs : n.ctrs = b.ctrs := by rw [hnext]
  rw [ht]
  refine ⟨⟨fun a h hit counter wide noRef => ?_, hseq.trans ?_, hid, rfl, hframes.trans ?_, hports.trans ?_⟩, hpend.trans ?_, hctrs.trans hnctrs⟩
  · rw [← hnctrs]
    exact hcopy a h hit counter wide noRef
  · rw [hnext]
    rfl
  all_goals rw [hnext]

theorem Block.snapCancel_cancels (b : Block) (w : Writer) {v : Nat} (cancel : F.OBS_SNAP_CTRL_CANCEL.of v = 1) (noArm : F.OBS_SNAP_CTRL_ARM.of v = 0)
    (noNow : F.OBS_SNAP_CTRL_NOW.of v = 0) : b.snapCancel w v = { b with pendSnap := none } := by
  unfold Block.snapCancel Block.snapCtrl
  simp [cancel, noArm, noNow]

/-- The instant that SNAP_AT names. -/
def Block.armedSnap (b : Block) : PendSnap :=
  { base := F.OBS_SNAP_AT_NS_BASE.of (b.word R.OBS_SNAP_AT_NS), ns := F.OBS_SNAP_AT_NS_NS.of (b.word R.OBS_SNAP_AT_NS), tag := b.word R.OBS_SNAP_TAG,
    s := b.word R.OBS_SNAP_AT_S_LO + 2 ^ 32 * b.word R.OBS_SNAP_AT_S_HI }

theorem Block.snapArm_bad (b : Block) (w : Writer) {v : Nat} (arm : F.OBS_SNAP_CTRL_ARM.of v = 1) (bad : 999999999 < b.armedSnap.ns) :
    b.snapArm w v = b.refuse w R.OBS_SNAP_CTRL := by
  unfold Block.snapArm Block.snapCtrl
  rw [if_neg (by simp [arm])]
  have hns : 999999999 < F.OBS_SNAP_AT_NS_NS.of (b.word R.OBS_SNAP_AT_NS) := bad
  exact if_pos (by simpa [arm] using hns)

theorem Block.snapArm_eq (b : Block) (w : Writer) {v : Nat} (arm : F.OBS_SNAP_CTRL_ARM.of v = 1) (noNow : F.OBS_SNAP_CTRL_NOW.of v = 0)
    (noCancel : F.OBS_SNAP_CTRL_CANCEL.of v = 0) (good : b.armedSnap.ns ≤ 999999999) :
    b.snapArm w v = if (b.setSnap b.armedSnap).1 then (b.setSnap b.armedSnap).2
      else (b.setSnap b.armedSnap).2.raise R.OBS_SNAP_STATUS F.OBS_SNAP_STATUS_REFUSED := by
  have hns : ¬ 999999999 < F.OBS_SNAP_AT_NS_NS.of (b.word R.OBS_SNAP_AT_NS) := not_lt.mpr good
  have hctrl : b.snapArm w v = b.snapCtrl w v := if_neg (by simp [arm])
  have hnow : ¬ (F.OBS_SNAP_CTRL_NOW.of v == 1) = true := by simp [noNow]
  have hcancel : ¬ (F.OBS_SNAP_CTRL_CANCEL.of v == 1) = true := by simp [noCancel]
  have harm : (F.OBS_SNAP_CTRL_ARM.of v == 1) = true := by simp [arm]
  rw [hctrl, Block.snapCtrl]
  dsimp only
  rw [if_neg (by simpa [arm] using hns), if_neg hnow, if_neg hcancel, if_pos harm]
  rfl

/-- An instant on a base that is not stepped is refused, one to come waits, one already passed latches at once (R456). -/
theorem Block.snapArm_tells (b : Block) (w : Writer) {v : Nat} (arm : F.OBS_SNAP_CTRL_ARM.of v = 1) (noNow : F.OBS_SNAP_CTRL_NOW.of v = 0)
    (noCancel : F.OBS_SNAP_CTRL_CANCEL.of v = 0) (good : b.armedSnap.ns ≤ 999999999) :
    let x := b.armedSnap
    let t := b.snapArm w v
    ((b.tbase x.base).state ≠ .stepped → t.flag R.OBS_SNAP_STATUS F.OBS_SNAP_STATUS_REFUSED = true ∧ t.pendSnap = b.pendSnap ∧ t.snap = b.snap ∧
      t.ctr R.CHN_SNAP_REFUSED = (b.ctr R.CHN_SNAP_REFUSED + 1) % 2 ^ 64) ∧
    ((b.tbase x.base).state = .stepped → b.reached x = false → t = { b with pendSnap := some x }) ∧
    ((b.tbase x.base).state = .stepped → b.reached x = true →
      b.LatchTells x.tag t ∧ t.pendSnap = none ∧ t.flag R.CHN_STATUS F.CHN_STATUS_SNAP_LATE = true) := by
  intro x t
  have ht : t = if (b.setSnap x).1 then (b.setSnap x).2 else (b.setSnap x).2.raise R.OBS_SNAP_STATUS F.OBS_SNAP_STATUS_REFUSED :=
    b.snapArm_eq w arm noNow noCancel good
  clear_value t
  refine ⟨fun off => ?_, fun on early => ?_, fun on late => ?_⟩
  · have hset : b.setSnap x = (false, b.count R.CHN_SNAP_REFUSED 1) := if_pos (by simp [off])
    rw [hset, if_neg Bool.false_ne_true] at ht
    rw [ht]
    refine ⟨Block.flag_raise _ _ _ (by decide) (by decide), ?_, ?_, ?_⟩
    · rw [Block.raise_only_regs, Block.count_pendSnap]
    · rw [Block.raise_only_regs, Block.count_snap]
    · rw [Block.raise, Block.setFld_ctr, Block.ctr_count_same _ _ _ (by rw [Block.stopped, show freezer R.CHN_SNAP_REFUSED = none by decide])]
  · have hset : b.setSnap x = (true, { b with pendSnap := some x }) := by
      unfold Block.setSnap
      rw [if_neg (by simp [on]), if_neg (by simp [early])]
    rw [ht, hset]
    exact if_pos rfl
  · obtain ⟨c, hc⟩ : ∃ c : Block, ({ b with pendSnap := none } : Block).latchAll (b.stampOf x.base) x.tag = c := ⟨_, rfl⟩
    have hset : b.setSnap x = (true, c.raise R.CHN_STATUS F.CHN_STATUS_SNAP_LATE) := by
      unfold Block.setSnap
      rw [if_neg (by simp [on]), if_pos late, ← hc]
    obtain ⟨⟨hcopy, hseq, hid, hticks, hframes, hports⟩, -, hpend⟩ := Block.latchAll_tells { b with pendSnap := none } (b.stampOf x.base) x.tag
    rw [hc] at hcopy hseq hid hticks hframes hports hpend
    rw [hset, if_pos rfl] at ht
    dsimp only at ht
    have honly := c.raise_only_regs R.CHN_STATUS F.CHN_STATUS_SNAP_LATE
    rw [← ht] at honly
    refine ⟨⟨fun a h hit counter wide noRef => ?_, ?_, ?_, ?_, ?_, ?_⟩, ?_, ?_⟩
    · rw [honly]
      exact hcopy a h hit counter wide noRef
    · rw [ht, Block.raise, Block.fld_of_word (Block.word_setFld_ne _ _ _ (by decide)), hseq]
      rfl
    · rw [ht, Block.raise, Block.word_setFld_ne _ _ _ (by decide), hid]
    · rw [honly, hticks]
    · rw [honly, hframes]
    · rw [honly, hports]
    · rw [honly, hpend]
    · rw [ht]
      exact Block.flag_raise _ _ _ (by decide) (by decide)

theorem Block.snapshotLatch_tells (b : Block) :
    (b.pendSnap = none → b.snapshotLatch = b) ∧
    (∀ x, b.pendSnap = some x → b.reached x = false → b.snapshotLatch = b) ∧
    (∀ x, b.pendSnap = some x → b.reached x = true →
      b.LatchTells x.tag b.snapshotLatch ∧ b.snapshotLatch.pendSnap = none ∧ b.snapshotLatch.ctrs = b.ctrs) := by
  unfold Block.snapshotLatch
  refine ⟨fun h => by rw [h], fun x h early => by rw [h]; exact if_neg (by simp [early]), fun x h late => ?_⟩
  have ht : b.snapshotLatch = ({ b with pendSnap := none } : Block).latchAll (b.stampOf x.base) x.tag := by
    rw [Block.snapshotLatch, h]
    exact if_pos late
  obtain ⟨hlatch, hctrs, hpend⟩ := Block.latchAll_tells { b with pendSnap := none } (b.stampOf x.base) x.tag
  rw [Block.snapshotLatch] at ht
  rw [ht]
  exact ⟨hlatch, hpend, hctrs⟩

/-- Settles O49: unit by unit, window by window, and for each write of SNAP_CTRL. -/
theorem counterUnitsWindowsAndSnapshots : Obligations.CounterUnitsWindowsAndSnapshots := by
  unfold Obligations.CounterUnitsWindowsAndSnapshots
  refine ⟨⟨fun b w u v hreach => ?_, fun b w v hreach => ?_, fun b p => ?_, fun b w p v hreach => ?_⟩, fun b => ?_⟩
  · obtain ⟨hfreeze, hother, hfrozen, hclr, hctrs, honly⟩ := b.pmcCtrl_tells w u v.toNat
    have hclear : Takes (.pmcClr w u v) b (b.pmcClr w u v.toNat) := takes_of_write hreach fun _ => rfl
    have hwrite : Takes (.pmcFreeze w u v) b (b.pmcCtrl w (unitOf u) v.toNat) := takes_of_write hreach fun _ => rfl
    have hsel (k : Fin 8) : Takes (.pmcSel w u k v) b (b.pmcSelWrite w (unitOf u) k v.toNat) := takes_of_write hreach fun _ => rfl
    refine ⟨fun k => ⟨fun bad => ?_, fun ok => ?_⟩, fun clr => ?_, fun clr => ?_, ?_⟩
    · exact takes_congr (hsel k) (if_neg (by simp [bad]))
    · exact (hsel k).to (b.pmcSelWrite_tells w u k v.toNat ok)
    · exact takes_congr hclear (if_pos (by simp [clr]))
    · exact Takes.to (takes_congr hclear (if_neg (by simp [clr]))) ⟨hclr clr, hother, hfrozen, honly⟩
    · exact hwrite.to ⟨hfreeze, hother, hfrozen, hctrs⟩
  · obtain ⟨hfreeze, hclear, hkeep⟩ := b.pmcGlobal_tells w v.toNat
    have hall : Takes (.clearAll w v) b (b.clearAll w v.toNat) := takes_of_write hreach fun _ => rfl
    have hfreezes : Takes (.freezeAll w v) b (b.pmcGlobal w v.toNat) := takes_of_write hreach fun _ => rfl
    refine ⟨fun clr => takes_congr hall (if_pos (by simp [clr])), fun clr => ?_, fun clr => hfreezes.to ⟨hfreeze, hkeep clr⟩⟩
    obtain ⟨hzero, hother, honly⟩ := hclear clr
    exact Takes.to (takes_congr hall (if_neg (by simp [clr]))) ⟨hzero, hfreeze, hother, honly⟩
  · obtain ⟨hearly, hended⟩ := b.bwWindow_tells p
    have h : Takes (.bwWindow p) b (b.bwWindow p) := fun _ => rfl
    exact ⟨fun early => takes_congr h (hearly early), fun ended => h.to (hended ended)⟩
  · obtain ⟨hbad, hgood⟩ := b.bwCfgWrite_tells w p.isLt v.toNat
    have h : Takes (.bwCfgWrite w p v) b (b.bwCfgWrite w p v.toNat) := takes_of_write hreach fun _ => rfl
    exact ⟨fun bad => takes_congr h (hbad bad), fun low high => h.to (hgood low high)⟩
  · obtain ⟨hnone, hearly, hlate⟩ := b.snapshotLatch_tells
    have h : Takes .snapshotLatch b b.snapshotLatch := fun _ => rfl
    refine ⟨fun none => takes_congr h (hnone none), fun x some early => takes_congr h (hearly x some early), fun x some late => h.to (hlate x some late),
      fun w v hreach => ?_⟩
    have hnow : Takes (.snapNow w v) b (b.snapNow w v.toNat) := takes_of_write hreach fun _ => rfl
    have harm : Takes (.snapArm w v) b (b.snapArm w v.toNat) := takes_of_write hreach fun _ => rfl
    have hcancel : Takes (.snapCancel w v) b (b.snapCancel w v.toNat) := takes_of_write hreach fun _ => rfl
    have haddr : Takes (.snapAddr w v) b (b.snapAddr w v.toNat) := takes_of_write hreach fun _ => rfl
    refine ⟨fun no => takes_congr hnow (if_pos (by simp [no])), fun no => takes_congr harm (if_pos (by simp [no])),
      fun no => takes_congr hcancel (if_pos (by simp [no])), fun now noArm noCancel => hnow.to (b.snapNow_tells w now noArm noCancel),
      fun cancel noArm noNow => takes_congr hcancel (b.snapCancel_cancels w cancel noArm noNow),
      fun arm bad => takes_congr harm (b.snapArm_bad w arm bad), fun arm noNow noCancel good => ?_, haddr⟩
    obtain ⟨hoff, hwait, hpassed⟩ := b.snapArm_tells w arm noNow noCancel good
    exact ⟨fun off => harm.to (hoff off), fun on early => takes_congr harm (hwait on early), fun on late => harm.to (hpassed on late)⟩

end Sys2Proof.Machine
end

section
/-!
PROOFS. The trace rings and the OBS port (R511 to R517); and O50 from these.
-/
namespace Sys2Proof.Machine
open Sys2Proof

variable {b c d : Block}

/-! ## A record's bytes in the ring -/

theorem length_leBytes (n v : Nat) : (leBytes n v).length = n := by
  induction n generalizing v with
  | zero => rfl
  | succ n ih => rw [leBytes, List.length_cons, ih]

theorem TraceRec.bytes_length (r : TraceRec) (lost : Bool) (seq : Nat) : (r.bytes lost seq).length = 32 * recUnits r.typ := by
  have hpos : 1 ≤ recUnits r.typ := by
    unfold recUnits
    split <;> decide
  simp only [TraceRec.bytes, List.length_append, length_leBytes, List.length_take, zeros, List.length_replicate]
  omega

/-- Units written in turn round a ring at least as long: each stands where it was put. -/
theorem SMap.find_puts {n u : Nat} (f : Nat → List Byte) {m : Nat} (hm : m ≤ n) {j : Nat} (hj : j < m) (filled : f j ≠ []) (s : SMap (List Byte)) :
    SMap.find ((List.range m).foldl (fun s k => SMap.set [] s ((u + k) % n) (f k)) s) ((u + j) % n) = some (f j) := by
  induction m with
  | zero => omega
  | succ m ih =>
    rw [List.range_succ, List.foldl_append, List.foldl_cons, List.foldl_nil, SMap.find_set]
    by_cases h : j = m
    · rw [h, if_pos rfl, if_neg (h ▸ filled)]
    · have apart : (u + j) % n ≠ (u + m) % n := fun e => by
        have := Nat.sub_mod_eq_zero_of_mod_eq e.symm
        rw [show u + m - (u + j) = m - j by omega, Nat.mod_eq_of_lt (by omega)] at this
        omega
      rw [if_neg apart]
      exact ih (by omega) (by omega)

/-- The units of a record that follows `pad` units of padding. -/
theorem TraceRing.find_write (t : TraceRing) {n u pad : Nat} {bytes : List Byte} {len : Nat} (hlen : bytes.length = 32 * len) (hpos : 0 < len)
    (fits : pad + len ≤ n) :
    SMap.find (t.write n u ((List.replicate pad padUnit).flatten ++ bytes)).units ((u + pad) % n) = some (bytes.take 32) := by
  have hpad : (List.replicate pad padUnit).flatten.length = 32 * pad := by
    rw [List.length_flatten, List.map_replicate, List.sum_replicate, show padUnit.length = 32 from rfl, smul_eq_mul, Nat.mul_comm]
  have hunits : ((List.replicate pad padUnit).flatten ++ bytes).length / 32 = pad + len := by
    rw [List.length_append, hpad, hlen]
    omega
  have hfirst : slice ((List.replicate pad padUnit).flatten ++ bytes) (32 * pad) (32 * pad + 32) = bytes.take 32 := by
    rw [slice_add, List.drop_append_of_le_length (by omega), List.drop_of_length_le (by omega), List.nil_append]
  have filled : bytes.take 32 ≠ [] := fun e => by
    have := congrArg List.length e
    rw [List.length_take, hlen, List.length_nil] at this
    omega
  unfold TraceRing.write
  dsimp only
  rw [hunits, ← hfirst]
  refine SMap.find_puts (fun k => slice ((List.replicate pad padUnit).flatten ++ bytes) (32 * k) (32 * k + 32)) fits (by omega) ?_ t.units
  rw [hfirst]
  exact filled

theorem leVal_lt (l : List Byte) : leVal l < 256 ^ l.length := by
  induction l with
  | nil => decide
  | cons x l ih =>
    have := x.isLt
    rw [leVal, List.length_cons, Nat.pow_succ]
    omega

theorem payloadWord_lt (l : List Byte) (k : Nat) : payloadWord l k < 2 ^ 32 := by
  refine (leVal_lt _).trans_le ((Nat.pow_le_pow_right (by decide) ?_).trans (show 256 ^ 4 ≤ 2 ^ 32 by decide))
  rw [slice, List.length_take]
  omega

/-! ## What a write to the ring changes -/

theorem Block.keeps_only (b : Block) (r : TraceRec) : (b.keeps r).2 = { b with regions := (b.keeps r).2.regions } := by
  unfold Block.keeps
  split
  · rfl
  · split
    · rfl
    · rfl
    · dsimp only
      split <;> rfl
    · rfl

theorem Block.freezeRings_regs (b : Block) : b.OnRegs b.freezeRings := by
  unfold Block.freezeRings
  split
  · exact Block.each_inv (P := b.OnRegs) (.refl b) fun c k _ h => h.raise _ _
  · exact .refl b

theorem Block.OnRegs.rings (h : b.OnRegs c) : c.rings = b.rings := by rw [h.only]
theorem Block.OnRegs.ctrs (h : b.OnRegs c) : c.ctrs = b.ctrs := by rw [h.only]
theorem Block.OnRegs.records (h : b.OnRegs c) : c.records = b.records := by rw [h.only]

/-- A freeze leaves the SEQ of every ring. -/
theorem Block.freezeRings_seq (b : Block) (d : Nat) : b.freezeRings.word (R.OBS_TRC_SEQ d) = b.word (R.OBS_TRC_SEQ d) := by
  unfold Block.freezeRings
  split
  · refine Block.each_inv (P := fun c => c.word (R.OBS_TRC_SEQ d) = b.word (R.OBS_TRC_SEQ d)) rfl fun c k _ h => ?_
    rw [Block.raise, Block.word_setFld_ne _ _ _ (by unfold R.OBS_TRC_SEQ R.OBS_TRC_STATUS; omega), h]
  · rfl

theorem Block.ctr_pmc_low (b : Block) (ev q n : Nat) {a : Nat} (h : a < 0x61000) : (b.pmc .pkg ev q n).ctr a = b.ctr a :=
  b.ctr_pmc_other .pkg ev q n fun k _ e => by
    unfold PUnit.base at e
    dsimp only at e
    omega

/-- A record that the ring does not take consumes a SEQ, is counted, and leaves the ring as it is but for the loss. -/
theorem Block.dropRec_tells (b : Block) {d : Nat} (hd : d < 4) (typ : Nat) :
    let t := b.dropRec d typ
    t.records = b.records ∧ t.ring d = { b.ring d with lost := true } ∧ t.ctr (R.OBS_TRC_HEAD d) = b.ctr (R.OBS_TRC_HEAD d) ∧
    t.word (R.OBS_TRC_SEQ d) = (b.word (R.OBS_TRC_SEQ d) + 1) % 2 ^ 32 ∧ t.ctr (R.OBS_TRC_DROP d) = (b.ctr (R.OBS_TRC_DROP d) + 1) % 2 ^ 64 := by
  intro t
  obtain ⟨c, hc⟩ : ∃ c, b.setWord (R.OBS_TRC_SEQ d) (b.word (R.OBS_TRC_SEQ d) + 1) = c := ⟨_, rfl⟩
  obtain ⟨e, he⟩ : ∃ e, c.count (R.OBS_TRC_DROP d) 1 = e := ⟨_, rfl⟩
  obtain ⟨g, hg⟩ : ∃ g, e.modRing d (fun t => { t with lost := true }) = g := ⟨_, rfl⟩
  have ht : t = g.pmc .pkg 0x06 typ 1 := by
    rw [← hg, ← he, ← hc]
    rfl
  clear_value t
  have hregs : b.OnRegs c := by
    rw [← hc]
    exact (Block.OnRegs.refl b).setWord _ _
  have hrun : c.stopped (R.OBS_TRC_DROP d) = false := by
    have hf : freezer (R.OBS_TRC_DROP d) = none := by
      unfold freezer R.OBS_TRC_DROP obsBase
      rw [if_neg (by omega), if_neg (by omega), if_neg (by omega)]
    simp only [Block.stopped, hf]
  have hctr (a : Nat) (low : a < 0x61000) : t.ctr a = e.ctr a := by
    rw [ht, Block.ctr_pmc_low _ _ _ _ low, ← hg]
    rfl
  refine ⟨?_, ?_, ?_, ?_, ?_⟩
  · rw [ht, Block.pmc_records, ← hg]
    change e.records = _
    rw [← he, Block.count_records, hregs.records]
  · rw [ht, Block.pmc_ring, ← hg, Block.ring, Block.modRing, SMap.get_mod, if_pos rfl, ← he, Block.count_rings, hregs.rings]
    rfl
  · rw [hctr _ (by unfold R.OBS_TRC_HEAD obsBase; omega), ← he, Block.ctr_count_other _ _ (by unfold R.OBS_TRC_HEAD R.OBS_TRC_DROP; omega), hregs.ctr]
  · rw [ht, Block.pmc_word, ← hg]
    change e.word _ = _
    rw [← he, Block.count_word, ← hc, Block.word_setWord_same]
  · rw [hctr _ (by unfold R.OBS_TRC_DROP obsBase; omega), ← he, Block.ctr_count_same _ _ _ hrun, hregs.ctr]

/-- What a ring's unit asks of the stacks leaves the rings, the records and the registers of the ring. -/
def Block.OnStacks (b c : Block) : Prop :=
  c.rings = b.rings ∧ c.records = b.records ∧ c.out = b.out ∧ c.ctrs = b.ctrs ∧ ∀ a, a < 0x100000 → c.word a = b.word a

namespace Block.OnStacks

theorem refl (b : Block) : b.OnStacks b := ⟨rfl, rfl, rfl, rfl, fun _ _ => rfl⟩

theorem wakeStack (h : b.OnStacks c) (d s : Nat) : b.OnStacks (c.wakeStack d s) := by
  obtain ⟨hrings, hrecords, hout, hctrs, hword⟩ := h
  obtain ⟨e, he⟩ : ∃ e, c.andNotFld (R.HBM_SR_STATUS d) F.HBM_SR_STATUS_V (2 ^ s) = e := ⟨_, rfl⟩
  have hregs : c.OnRegs e := by
    rw [← he]
    exact (Block.OnRegs.refl c).setFld _ _ _
  have ht : c.wakeStack d s = e.modDie d fun x => { x with srAt := SMap.set 0 x.srAt s e.ticks } := by
    rw [← he]
    rfl
  rw [ht]
  refine ⟨hregs.rings.trans hrings, hregs.records.trans hrecords, ?_, hregs.ctrs.trans hctrs, fun a ha => ?_⟩
  · rw [Block.modDie_out, hregs.only, hout]
  · rw [Block.modDie_word, ← he, Block.andNotFld, Block.word_setFld_ne _ _ _ (by unfold R.HBM_SR_STATUS hbmBase dieBase; omega), hword a ha]

theorem hbmAsk (h : b.OnStacks c) (d s u : Nat) (write : Bool) (tag : Nat) : b.OnStacks (c.hbmAsk d s u write tag) := h

theorem wakeStacks (h : b.OnStacks c) (d : Nat) : b.OnStacks (c.wakeStacks d) := (h.wakeStack d 0).wakeStack d 1

end Block.OnStacks

/-- A record that the ring takes, where it does not stop when full. -/
theorem Block.writeRec_tells (b : Block) {d : Nat} (hd : d < 4) (r : TraceRec) (room : b.traceMiB d * 32768 ≠ 0) (wraps : bitOf (b.filterByte 3) 0 = false) :
    let t := b.writeRec d r
    let n := b.traceMiB d * 32768
    let head := b.ctr (R.OBS_TRC_HEAD d)
    let u := head / 32 % n
    let pad := if 128 - u % 128 < recUnits r.typ then 128 - u % 128 else 0
    t.records = b.records ∧ (t.ring d).lost = false ∧ t.word (R.OBS_TRC_SEQ d) = (b.word (R.OBS_TRC_SEQ d) + 1) % 2 ^ 32 ∧
    t.ctr (R.OBS_TRC_HEAD d) = (head + 32 * (pad + recUnits r.typ)) % 2 ^ 64 ∧
    SMap.find (t.ring d).units ((u + pad) % n) = some ((r.bytes (b.ring d).lost (b.word (R.OBS_TRC_SEQ d))).take 32) ∧
    ∀ e, e ≠ d → t.ring e = b.ring e := by
  intro t n head u pad
  obtain ⟨bytes, hbytes⟩ : ∃ l, (List.replicate pad padUnit).flatten ++ r.bytes (b.ring d).lost (b.word (R.OBS_TRC_SEQ d)) = l := ⟨_, rfl⟩
  obtain ⟨ring, hring⟩ : ∃ x : TraceRing, { (b.ring d).write n u bytes with lost := false, since := (b.ring d).since + 32 * (pad + recUnits r.typ) } = x := ⟨_, rfl⟩
  obtain ⟨c, hc⟩ : ∃ c, b.modRing d (fun _ => ring) = c := ⟨_, rfl⟩
  obtain ⟨e, he⟩ : ∃ e, c.setCtr (R.OBS_TRC_HEAD d) (head + 32 * (pad + recUnits r.typ)) = e := ⟨_, rfl⟩
  obtain ⟨g, hg⟩ : ∃ g, e.setWord (R.OBS_TRC_SEQ d) (b.word (R.OBS_TRC_SEQ d) + 1) = g := ⟨_, rfl⟩
  obtain ⟨p, hp⟩ : ∃ p, (g.wakeStacks d).pmc .pkg 0x05 r.typ 1 = p := ⟨_, rfl⟩
  have ht : t = p.each (pad + recUnits r.typ) fun b k => b.hbmAsk d (traceStack ((u + k) % n)) (traceUnit ((u + k) % n)) true 0 := by
    rw [← hp, ← hg, ← he, ← hc, ← hring, ← hbytes, show t = b.writeRec d r from rfl, Block.writeRec]
    dsimp only
    rw [wraps, Bool.false_and, if_neg Bool.false_ne_true, Bool.false_and, if_neg Bool.false_ne_true]
  clear_value t
  obtain ⟨wRings, wRecords, -, wCtrs, wWord⟩ := (Block.OnStacks.refl g).wakeStacks d
  obtain ⟨aRings, aRecords, -, aCtrs, aWord⟩ : p.OnStacks t := by
    rw [ht]
    exact Block.each_inv (P := p.OnStacks) (.refl p) fun c k _ h => h.hbmAsk _ _ _ _ _
  have hrings : t.rings = c.rings := by
    rw [aRings, ← hp, Block.pmc_rings, wRings, ← hg, ← he]
    rfl
  have hringAt (x : Nat) : t.ring x = if x = d then ring else b.ring x := by
    rw [Block.ring, hrings, ← hc, Block.modRing, SMap.get_mod]
    rfl
  have hlen : 0 < recUnits r.typ ∧ recUnits r.typ ≤ 9 := by
    unfold recUnits
    split <;> decide
  have hpadLen : pad ≤ 128 := by
    by_cases h : 128 - u % 128 < recUnits r.typ
    · rw [show pad = 128 - u % 128 from if_pos h]
      omega
    · rw [show pad = 0 from if_neg h]
      omega
  refine ⟨?_, ?_, ?_, ?_, ?_, fun x hx => ?_⟩
  · rw [aRecords, ← hp, Block.pmc_records, wRecords, ← hg, ← he, ← hc]
    rfl
  · rw [hringAt, if_pos rfl, ← hring]
  · rw [aWord _ (by unfold R.OBS_TRC_SEQ obsBase; omega), ← hp, Block.pmc_word, wWord _ (by unfold R.OBS_TRC_SEQ obsBase; omega), ← hg, Block.word_setWord_same]
  · have hctr : t.ctr (R.OBS_TRC_HEAD d) = p.ctr (R.OBS_TRC_HEAD d) := by rw [Block.ctr, aCtrs, ← Block.ctr]
    have hwake : (g.wakeStacks d).ctr (R.OBS_TRC_HEAD d) = g.ctr (R.OBS_TRC_HEAD d) := by rw [Block.ctr, wCtrs, ← Block.ctr]
    rw [hctr, ← hp, Block.ctr_pmc_low _ _ _ _ (by unfold R.OBS_TRC_HEAD obsBase; omega), hwake, ← hg, Block.setWord_ctr, ← he, Block.ctr_setCtr, if_pos rfl]
  · rw [hringAt, if_pos rfl, ← hring, ← hbytes]
    exact TraceRing.find_write _ (TraceRec.bytes_length _ _ _) hlen.1 (by omega)
  · rw [hringAt, if_neg hx]

/-! ## TRACE_RECORD_WRITE -/

/-- What follows the record itself: a freeze, where the record asks for it. -/
def Block.freezeAfter (b : Block) (r : TraceRec) : Block := if r.freeze then b.freezeRings else b

theorem Block.freezeAfter_regs (b : Block) (r : TraceRec) : b.OnRegs (b.freezeAfter r) := by
  unfold Block.freezeAfter
  split
  · exact b.freezeRings_regs
  · exact .refl b

theorem Block.freezeAfter_seq (b : Block) (r : TraceRec) (d : Nat) : (b.freezeAfter r).word (R.OBS_TRC_SEQ d) = b.word (R.OBS_TRC_SEQ d) := by
  unfold Block.freezeAfter
  split
  · exact b.freezeRings_seq d
  · rfl

/-- Whether the ring of die d takes no record. -/
def Block.ringShut (b : Block) (d : Nat) : Prop :=
  b.flag (R.OBS_TRC_STATUS d) F.OBS_TRC_STATUS_STOPPED = true ∨ b.flag (R.OBS_TRC_STATUS d) F.OBS_TRC_STATUS_FROZEN = true

theorem Block.traceWrite_eq (b : Block) (d : Nat) (room : Bool) {r : TraceRec} {rest : List TraceRec} (hpop : popRec d b.records = some (r, rest))
    (trained : b.flag (R.HBM_TRAIN_STATUS d) F.HBM_TRAIN_STATUS_DONE = true) :
    let k := ({ b with records := rest } : Block).keeps r
    (k.1 = false → b.traceWrite d room = k.2.freezeAfter r) ∧
    (k.1 = true → room = false ∨ b.traceMiB d * 32768 = 0 ∨ b.ringShut d → b.traceWrite d room = (k.2.dropRec d r.typ).freezeAfter r) ∧
    (k.1 = true → room = true → b.traceMiB d * 32768 ≠ 0 → ¬ b.ringShut d → b.traceWrite d room = (k.2.writeRec d r).freezeAfter r) := by
  intro k
  have ht : b.traceWrite d room = Block.freezeAfter (if !k.1 then k.2
        else if !room || b.traceMiB d == 0 || F.OBS_TRC_STATUS_STOPPED.of (b.word (R.OBS_TRC_STATUS d)) == 1 ||
          F.OBS_TRC_STATUS_FROZEN.of (b.word (R.OBS_TRC_STATUS d)) == 1 then k.2.dropRec d r.typ
        else k.2.writeRec d r) r := by
    unfold Block.traceWrite
    rw [hpop]
    exact if_neg (by simp [trained])
  rw [ht]
  have hshut : (F.OBS_TRC_STATUS_STOPPED.of (b.word (R.OBS_TRC_STATUS d)) == 1 || F.OBS_TRC_STATUS_FROZEN.of (b.word (R.OBS_TRC_STATUS d)) == 1) = true ↔
      b.ringShut d := by
    rw [Bool.or_eq_true]
    rfl
  refine ⟨fun drop => ?_, fun keep full => ?_, fun keep hroom hn open_ => ?_⟩
  · rw [if_pos (by simp [drop])]
  · rw [if_neg (by simp [keep]), if_pos]
    rw [Bool.or_assoc, Bool.or_eq_true, hshut]
    rcases full with h | h | h
    · simp [h]
    · simp [show b.traceMiB d = 0 by omega]
    · exact .inr h
  · rw [if_neg (by simp [keep]), if_neg]
    rw [Bool.or_assoc, Bool.or_eq_true, hshut]
    rintro (h | h)
    · simp only [hroom, Bool.not_true, Bool.false_or, beq_iff_eq] at h
      omega
    · exact open_ h

theorem Block.traceWrite_waits (b : Block) (d : Nat) (room : Bool)
    (h : popRec d b.records = none ∨ b.flag (R.HBM_TRAIN_STATUS d) F.HBM_TRAIN_STATUS_DONE = false) : b.traceWrite d room = b := by
  unfold Block.traceWrite
  cases hpop : popRec d b.records with
  | none => rfl
  | some x =>
    rcases h with h | h
    · rw [hpop] at h
      cases h
    · exact if_pos (by simp [h])


end Sys2Proof.Machine
end

section
/-!
PROOFS. The trace's control, its reads, and the OBS port (R512, R514 to R517); and O50 from these.
-/
namespace Sys2Proof.Machine
open Sys2Proof

variable {b c d : Block}

/-- What a die's record changes, at the ring it is for. -/
theorem Block.traceWrite_tells (b : Block) {d : Nat} (hd : d < 4) (room : Bool) {r : TraceRec} {rest : List TraceRec}
    (hpop : popRec d b.records = some (r, rest)) (trained : b.flag (R.HBM_TRAIN_STATUS d) F.HBM_TRAIN_STATUS_DONE = true) :
    let kept := (({ b with records := rest } : Block).keeps r).1 = true
    let n := b.traceMiB d * 32768
    let head := b.ctr (R.OBS_TRC_HEAD d)
    let u := head / 32 % n
    let pad := if 128 - u % 128 < recUnits r.typ then 128 - u % 128 else 0
    let t := b.traceWrite d room
    (¬ kept → t.records = rest ∧ t.rings = b.rings ∧ t.ctrs = b.ctrs) ∧
    (kept → room = false ∨ n = 0 ∨ b.ringShut d →
      t.records = rest ∧ t.ring d = { b.ring d with lost := true } ∧ t.ctr (R.OBS_TRC_HEAD d) = head ∧
      t.word (R.OBS_TRC_SEQ d) = (b.word (R.OBS_TRC_SEQ d) + 1) % 2 ^ 32 ∧
      t.ctr (R.OBS_TRC_DROP d) = (b.ctr (R.OBS_TRC_DROP d) + 1) % 2 ^ 64) ∧
    (kept → room = true → n ≠ 0 → ¬ b.ringShut d → bitOf (b.filterByte 3) 0 = false →
      t.records = rest ∧ (t.ring d).lost = false ∧ t.word (R.OBS_TRC_SEQ d) = (b.word (R.OBS_TRC_SEQ d) + 1) % 2 ^ 32 ∧
      t.ctr (R.OBS_TRC_HEAD d) = (head + 32 * (pad + recUnits r.typ)) % 2 ^ 64 ∧
      SMap.find (t.ring d).units ((u + pad) % n) = some ((r.bytes (b.ring d).lost (b.word (R.OBS_TRC_SEQ d))).take 32) ∧
      ∀ e, e ≠ d → t.ring e = b.ring e) := by
  intro kept n head u pad t
  obtain ⟨hdrop, hfull, htake⟩ := b.traceWrite_eq d room hpop trained
  obtain ⟨c, hc⟩ : ∃ c, (({ b with records := rest } : Block).keeps r).2 = c := ⟨_, rfl⟩
  rw [hc] at hdrop hfull htake
  have honly : c = { b with records := rest, regions := c.regions } := by
    rw [← hc]
    exact Block.keeps_only _ r
  have hrings : c.rings = b.rings := by rw [honly]
  have hring (e : Nat) : c.ring e = b.ring e := by rw [Block.ring, hrings, ← Block.ring]
  have hctrs : c.ctrs = b.ctrs := by rw [honly]
  have hctr (a : Nat) : c.ctr a = b.ctr a := by rw [Block.ctr, hctrs, ← Block.ctr]
  have hregs : c.regs = b.regs := by rw [honly]
  have hword (a : Nat) : c.word a = b.word a := Block.word_of_regs hregs a
  have hrecords : c.records = rest := by rw [honly]
  have after (e : Block) : let f := e.freezeAfter r
      f.records = e.records ∧ f.rings = e.rings ∧ f.ctrs = e.ctrs ∧ (∀ x, f.ring x = e.ring x) ∧ (∀ a, f.ctr a = e.ctr a) ∧
        f.word (R.OBS_TRC_SEQ d) = e.word (R.OBS_TRC_SEQ d) := by
    intro f
    have h := e.freezeAfter_regs r
    exact ⟨h.records, h.rings, h.ctrs, fun x => by rw [Block.ring, h.rings, ← Block.ring], h.ctr, e.freezeAfter_seq r d⟩
  refine ⟨fun drop => ?_, fun keep full => ?_, fun keep hroom hn open_ wraps => ?_⟩
  · obtain ⟨aRecords, aRings, aCtrs, -, -, -⟩ := after c
    rw [show t = _ from hdrop (Bool.eq_false_iff.mpr drop)]
    exact ⟨aRecords.trans hrecords, aRings.trans hrings, aCtrs.trans hctrs⟩
  · obtain ⟨aRecords, -, -, aRing, aCtr, aSeq⟩ := after (c.dropRec d r.typ)
    obtain ⟨dRecords, dRing, dHead, dSeq, dDrop⟩ := c.dropRec_tells hd r.typ
    rw [show t = _ from hfull keep full]
    exact ⟨by rw [aRecords, dRecords, hrecords], by rw [aRing, dRing, hring], by rw [aCtr, dHead, hctr], by rw [aSeq, dSeq, hword], by rw [aCtr, dDrop, hctr]⟩
  · obtain ⟨aRecords, -, -, aRing, aCtr, aSeq⟩ := after (c.writeRec d r)
    have hmib : c.traceMiB d = b.traceMiB d := by rw [honly]; rfl
    have hfilter : c.filterByte 3 = b.filterByte 3 := by rw [Block.filterByte, hword, ← Block.filterByte]
    obtain ⟨wRecords, wLost, wSeq, wHead, wUnit, wOther⟩ := c.writeRec_tells hd r (by rw [hmib]; exact hn) (by rw [hfilter, wraps])
    rw [hmib, hctr, hring, hword] at wUnit
    rw [hmib, hctr] at wHead
    rw [show t = _ from htake keep hroom hn open_]
    exact ⟨by rw [aRecords, wRecords, hrecords], by rw [aRing, wLost], by rw [aSeq, wSeq, hword], by rw [aCtr, wHead], by rw [aRing, wUnit],
      fun e he => by rw [aRing, wOther e he, hring]⟩

/-! ## TRC_CTRL (R512) -/

theorem Block.ring_modRing (b : Block) (d : Nat) (f : TraceRing → TraceRing) (x : Nat) : (b.modRing d f).ring x = if x = d then f (b.ring d) else b.ring x :=
  SMap.get_mod _ _ _ _ _

/-- The end of a freeze: no ring is frozen, and all else stands. -/
def Block.unfreezeRings (b : Block) : Block := b.each 4 fun b d => b.lower (R.OBS_TRC_STATUS d) F.OBS_TRC_STATUS_FROZEN
/-- Ring d started again, and every ring. -/
def Block.restartRing (b : Block) (d : Nat) : Block := (b.lower (R.OBS_TRC_STATUS d) F.OBS_TRC_STATUS_STOPPED).modRing d fun t => { t with since := 0 }
def Block.restartRings (b : Block) : Block := b.each 4 fun b d => b.restartRing d

theorem Block.restartRing_flag (b : Block) (d a : Nat) (f : Bf) :
    (b.restartRing d).flag a f = (b.lower (R.OBS_TRC_STATUS d) F.OBS_TRC_STATUS_STOPPED).flag a f := Block.modRing_flag _ _ _ _ _

theorem Block.restartRing_ring (b : Block) (d x : Nat) : (b.restartRing d).ring x = if x = d then { b.ring d with since := 0 } else b.ring x := by
  rw [Block.restartRing, Block.ring_modRing, Block.lower_ring, Block.lower_ring]

theorem Block.restartRing_only (b : Block) (d : Nat) : b.restartRing d = { b with regs := (b.restartRing d).regs, rings := (b.restartRing d).rings } := by
  have h : b.OnRegs (b.lower (R.OBS_TRC_STATUS d) F.OBS_TRC_STATUS_STOPPED) := (Block.OnRegs.refl b).lower _ _
  unfold Block.restartRing
  rw [h.only]
  rfl

theorem Block.unfreezeRings_tells (b : Block) :
    b.OnRegs b.unfreezeRings ∧ ∀ e : Nat, e < 4 → b.unfreezeRings.flag (R.OBS_TRC_STATUS e) F.OBS_TRC_STATUS_FROZEN = false := by
  refine ⟨Block.each_inv (P := b.OnRegs) (.refl b) fun c k _ h => h.lower _ _, fun e he => ?_⟩
  refine foldl_all (Q := fun e c => c.flag (R.OBS_TRC_STATUS e) F.OBS_TRC_STATUS_FROZEN = false)
    (fun c e => Block.flag_lower _ _ _ (by decide) (by decide)) (fun c x y h => ?_) _ (.inl (List.mem_range.mpr he))
  by_cases same : y = x
  · rw [same]
    exact Block.flag_lower _ _ _ (by decide) (by decide)
  · rw [Block.flag, Block.lower, Block.fld_of_word (Block.word_setFld_ne _ _ _ (by unfold R.OBS_TRC_STATUS; omega)), ← Block.flag, h]

theorem Block.restartRings_tells (b : Block) :
    b.restartRings = { b with regs := b.restartRings.regs, rings := b.restartRings.rings } ∧
    (∀ e : Nat, e < 4 → b.restartRings.flag (R.OBS_TRC_STATUS e) F.OBS_TRC_STATUS_STOPPED = false ∧
      b.restartRings.ring e = { b.ring e with since := 0 }) ∧
    ∀ e : Nat, b.restartRings.flag (R.OBS_TRC_STATUS e) F.OBS_TRC_STATUS_FROZEN = b.flag (R.OBS_TRC_STATUS e) F.OBS_TRC_STATUS_FROZEN := by
  refine ⟨?_, fun e he => ⟨?_, ?_⟩, fun e => ?_⟩
  · refine Block.each_inv (P := fun c => c = { b with regs := c.regs, rings := c.rings }) rfl fun c k _ h => ?_
    rw [Block.restartRing_only, h]
  · refine foldl_all (Q := fun e c => c.flag (R.OBS_TRC_STATUS e) F.OBS_TRC_STATUS_STOPPED = false) (fun c e => ?_) (fun c x y h => ?_) _
      (.inl (List.mem_range.mpr he))
    · rw [Block.restartRing_flag]
      exact Block.flag_lower _ _ _ (by decide) (by decide)
    · rw [Block.restartRing_flag]
      by_cases same : y = x
      · rw [same]
        exact Block.flag_lower _ _ _ (by decide) (by decide)
      · rw [Block.flag, Block.lower, Block.fld_of_word (Block.word_setFld_ne _ _ _ (by unfold R.OBS_TRC_STATUS; omega)), ← Block.flag, h]
  · refine Block.each_turn (k := e) he (I := fun c => c.ring e = b.ring e) (P := fun c => c.ring e = { b.ring e with since := 0 }) rfl
      (fun c j hj h => ?_) (fun c h => ?_) fun c j hj _ h => ?_
    · rw [Block.restartRing_ring, if_neg (by omega), h]
    · rw [Block.restartRing_ring, if_pos rfl, h]
    · rw [Block.restartRing_ring, if_neg (by omega), h]
  · refine Block.each_inv (P := fun c => c.flag (R.OBS_TRC_STATUS e) F.OBS_TRC_STATUS_FROZEN = b.flag (R.OBS_TRC_STATUS e) F.OBS_TRC_STATUS_FROZEN) rfl
      fun c k _ h => ?_
    rw [Block.restartRing_flag]
    by_cases same : e = k
    · rw [same, Block.lower, Block.flag_setFld_apart _ _ _ (by decide), ← same, h]
    · rw [Block.flag, Block.lower, Block.fld_of_word (Block.word_setFld_ne _ _ _ (by unfold R.OBS_TRC_STATUS; omega)), ← Block.flag, h]

theorem Block.trcCtrl_eq (b : Block) (v : Nat) : b.trcCtrl v =
    (fun c => if F.OBS_TRC_CTRL_RESTART.of v == 1 then c.restartRings else c)
      (if F.OBS_TRC_CTRL_UNFREEZE.of v == 1 then b.unfreezeRings else b) := rfl

/-- A write of TRC_CTRL ends the freeze, and starts the rings again, as its bits ask. -/
theorem Block.trcCtrl_tells (b : Block) (v : Nat) :
    let t := b.trcCtrl v
    t = { b with regs := t.regs, rings := t.rings } ∧ t.ctrs = b.ctrs ∧
    (F.OBS_TRC_CTRL_UNFREEZE.of v = 1 → ∀ e : Fin 4, t.flag (R.OBS_TRC_STATUS e) F.OBS_TRC_STATUS_FROZEN = false) ∧
    (F.OBS_TRC_CTRL_RESTART.of v = 1 → ∀ e : Fin 4,
      t.flag (R.OBS_TRC_STATUS e) F.OBS_TRC_STATUS_STOPPED = false ∧ t.ring e = { b.ring e with since := 0 }) ∧
    (F.OBS_TRC_CTRL_RESTART.of v = 0 → t.rings = b.rings) := by
  intro t
  obtain ⟨c, hc⟩ : ∃ c, (if F.OBS_TRC_CTRL_UNFREEZE.of v == 1 then b.unfreezeRings else b) = c := ⟨_, rfl⟩
  have hcregs : b.OnRegs c := by
    rw [← hc]
    split
    · exact b.unfreezeRings_tells.1
    · exact .refl b
  have hring (e : Nat) : c.ring e = b.ring e := by rw [Block.ring, hcregs.rings, ← Block.ring]
  have hfrozen (on : F.OBS_TRC_CTRL_UNFREEZE.of v = 1) (e : Fin 4) : c.flag (R.OBS_TRC_STATUS e) F.OBS_TRC_STATUS_FROZEN = false := by
    rw [← hc, if_pos (by simp [on])]
    exact b.unfreezeRings_tells.2 e e.isLt
  have ht : t = if F.OBS_TRC_CTRL_RESTART.of v == 1 then c.restartRings else c := by
    rw [← hc]
    exact b.trcCtrl_eq v
  clear_value t
  obtain ⟨ronly, rrun, rfrozen⟩ := c.restartRings_tells
  by_cases on : F.OBS_TRC_CTRL_RESTART.of v = 1
  · rw [if_pos (by simp [on])] at ht
    rw [← ht] at ronly rrun rfrozen
    have honly : t = { b with regs := t.regs, rings := t.rings } := by rw [ronly, hcregs.only]
    refine ⟨honly, by rw [honly], fun un e => by rw [rfrozen, hfrozen un], fun _ e => ?_, fun off => absurd (on.symm.trans off) (by decide)⟩
    rw [← hring]
    exact rrun e e.isLt
  · rw [if_neg (by simp [on])] at ht
    have honly : t = { b with regs := t.regs, rings := t.rings } := by rw [ht, hcregs.only]
    exact ⟨honly, by rw [honly], fun un e => by rw [ht, hfrozen un], fun h => absurd h on, fun _ => by rw [ht, hcregs.rings]⟩

/-! ## Reads of the rings (R514, R517) -/

theorem payloadWord_zeros {k : Nat} : payloadWord (zeros 32) k = 0 := by
  have all (n : Nat) : leVal (List.replicate n 0) = 0 := by
    induction n with
    | zero => rfl
    | succ n ih => rw [List.replicate_succ, leVal, ih]; rfl
  rw [payloadWord, slice, zeros, List.drop_replicate, List.take_replicate, all]

theorem Block.readUnit_tells (b : Block) (d u : Nat) :
    (∀ r, b.traceMiB d * 32768 ≤ u → b.readUnit d u r = (zeros 32, false, false, b)) ∧
    (∀ l, u < b.traceMiB d * 32768 → SMap.find (b.ring d).units u = some l →
      (∀ s, ∃ t, b.readUnit d u (.good s) = (l, true, false, t) ∧ b.OnStacks t) ∧
      ∀ s a, ∃ t, b.readUnit d u (.bad s a) = (l, true, true, t)) := by
  refine ⟨fun r out => if_pos out, fun l inside hit => ⟨fun s => ?_, fun s a => ?_⟩⟩
  · refine ⟨(b.wakeStack d s.val).hbmAsk d s.val (traceUnit u) false 0, ?_, ((Block.OnStacks.refl b).wakeStack _ _).hbmAsk _ _ _ _ _⟩
    unfold Block.readUnit
    rw [if_neg (not_le.mpr inside), hit]
  · refine ⟨((b.wakeStack d s.val).hbmAsk d s.val (traceUnit u) false 0).hbmUe d a.toNat, ?_⟩
    unfold Block.readUnit
    rw [if_neg (not_le.mpr inside), hit]

/-- What a read of a unit shows in RD_STATUS and RD_DATA. -/
theorem Block.trcRdAddr_tells (b : Block) (w : Writer) (v : Nat) (r : TraceRead) {l : List Byte} {good bad : Bool} {c : Block}
    (hread : b.readUnit (F.OBS_TRC_RD_ADDR_DIE.of v) (F.OBS_TRC_RD_ADDR_UNIT.of v) r = (l, good, bad, c)) :
    let t := b.trcRdAddr w v r
    t.word R.OBS_TRC_RD_STATUS = b2n good * 2 ^ 31 + b2n bad * 2 ^ 30 ∧ (∀ k, k < 8 → t.word (R.OBS_TRC_RD_DATA k) = payloadWord l k) ∧ t.rings = c.rings := by
  intro t
  obtain ⟨e, he⟩ : ∃ e, c.storeReg w R.OBS_TRC_RD_ADDR v = e := ⟨_, rfl⟩
  obtain ⟨g, hg⟩ : ∃ g, e.setWord R.OBS_TRC_RD_STATUS (b2n good * 2 ^ 31 + b2n bad * 2 ^ 30) = g := ⟨_, rfl⟩
  have ht : t = g.each 8 fun b k => b.setWord (R.OBS_TRC_RD_DATA k) (payloadWord l k) := by
    rw [← hg, ← he, show t = b.trcRdAddr w v r from rfl, Block.trcRdAddr, hread]
  clear_value t
  have small : b2n good * 2 ^ 31 + b2n bad * 2 ^ 30 < 2 ^ 32 := by
    cases good <;> cases bad <;> decide
  refine ⟨?_, fun k hk => ?_, ?_⟩
  · rw [ht]
    refine Block.each_inv (P := fun c => c.word R.OBS_TRC_RD_STATUS = _) ?_ fun c k _ h => ?_
    · rw [← hg, Block.word_setWord_same, Nat.mod_eq_of_lt small]
    · rw [Block.word_setWord_other _ _ (by unfold R.OBS_TRC_RD_STATUS R.OBS_TRC_RD_DATA; omega), h]
  · rw [ht]
    refine foldl_all (Q := fun k c => c.word (R.OBS_TRC_RD_DATA k) = payloadWord l k) (fun c k => ?_) (fun c x y h => ?_) _ (.inl (List.mem_range.mpr hk))
    · rw [Block.word_setWord_same, Nat.mod_eq_of_lt (payloadWord_lt l k)]
    · by_cases same : y = x
      · rw [same, Block.word_setWord_same, Nat.mod_eq_of_lt (payloadWord_lt l x)]
      · rw [Block.word_setWord_other _ _ (by unfold R.OBS_TRC_RD_DATA; omega), h]
  · have : g.OnRegs t := by
      rw [ht]
      exact Block.each_inv (P := g.OnRegs) (.refl g) fun c k _ h => h.setWord _ _
    rw [this.rings, ← hg, Block.setWord_rings, ← he, Block.storeReg_rings]

/-! ## The OBS port (R515 to R517) -/

theorem Block.obsServes_eq (b : Block) (f : Block → Block) :
    (b.boot.phase = .off → b.obsServes f = b) ∧
    (b.boot.phase ≠ .off → b.flag R.OBS_PORT_CFG F.OBS_PORT_CFG_DISABLE = true → b.obsServes f = { b with out := b.out ++ [.obs 1 []] }) ∧
    (b.boot.phase ≠ .off → b.flag R.OBS_PORT_CFG F.OBS_PORT_CFG_DISABLE = false → b.obsServes f = f b) := by
  unfold Block.obsServes
  refine ⟨fun off => if_pos (by simp [off]), fun on denied => ?_, fun on open_ => ?_⟩
  · rw [if_neg (by simp [on]), if_pos denied]
    rfl
  · rw [if_neg (by simp [on]), if_neg (by simp [open_])]

theorem Block.obsTrace_good (b : Block) {d u : Nat} {l : List Byte} (s : Fin 2) (inside : u < b.traceMiB d * 32768)
    (hit : SMap.find (b.ring d).units u = some l) (on : b.boot.phase ≠ .off) (open_ : b.flag R.OBS_PORT_CFG F.OBS_PORT_CFG_DISABLE = false) :
    (b.obsTrace d u [.good s]).out = b.out ++ [.obs 0 [], .obs 0 ((List.range 8).map (payloadWord l))] := by
  obtain ⟨e, he⟩ : ∃ e, b.emit (.obs 0 []) = e := ⟨_, rfl⟩
  have hout : e.out = b.out ++ [.obs 0 []] := by rw [← he]; rfl
  have hmib : e.traceMiB d = b.traceMiB d := by rw [← he]; rfl
  have hring : e.ring d = b.ring d := by rw [← he]; rfl
  obtain ⟨hgood, -⟩ := (e.readUnit_tells d u).2 l (by rw [hmib]; exact inside) (by rw [hring]; exact hit)
  obtain ⟨t, hread, -, -, htout, -⟩ := hgood s
  rw [Block.obsTrace, (b.obsServes_eq _).2.2 on open_, he]
  dsimp only [List.foldl_cons, List.foldl_nil]
  rw [hread]
  change t.out ++ [_] = _
  rw [htout, hout, List.append_assoc]
  rfl

theorem Block.obsReg_one (b : Block) (a : Nat) (on : b.boot.phase ≠ .off) (open_ : b.flag R.OBS_PORT_CFG F.OBS_PORT_CFG_DISABLE = false) :
    b.obsReg a 1 = { (b.readReg reqObs false false a).2 with
      out := (b.readReg reqObs false false a).2.out ++ [.obs 0 [(b.readReg reqObs false false a).1]] } := by
  rw [Block.obsReg, (b.obsServes_eq _).2.2 on open_]
  rfl

theorem Block.obsSnap_one (b : Block) (a : Nat) (on : b.boot.phase ≠ .off) (open_ : b.flag R.OBS_PORT_CFG F.OBS_PORT_CFG_DISABLE = false) :
    (∀ x, b.snapAt a = some x → b.obsSnap a 1 = { b with out := b.out ++ [.obs 0 [x % 2 ^ 32, x / 2 ^ 32]] }) ∧
    (b.snapAt a = none → b.obsSnap a 1 = (b.accessFault reqObs 0 false (viewOff a)).emit (.obs 0 [0, 0])) := by
  rw [Block.obsSnap, (b.obsServes_eq _).2.2 on open_]
  refine ⟨fun x h => ?_, fun h => ?_⟩
  · unfold obsRun obsRun
    dsimp only
    rw [h]
    rfl
  · unfold obsRun obsRun
    dsimp only
    rw [h]
    rfl

theorem obs_answers (b : Block) (d : Fin 4) (a : BitVec 32) (n : BitVec 8) (u : BitVec 26) (rs : List TraceRead) :
    let denied := ({ b with out := b.out ++ [.obs 1 []] } : Block)
    (b.boot.phase = .off → Takes (.obsReg a n) b b ∧ Takes (.obsSnap a n) b b ∧ Takes (.obsTrace d u rs) b b) ∧
    (b.boot.phase ≠ .off → b.flag R.OBS_PORT_CFG F.OBS_PORT_CFG_DISABLE = true →
      Takes (.obsReg a n) b denied ∧ Takes (.obsSnap a n) b denied ∧ Takes (.obsTrace d u rs) b denied) ∧
    (b.boot.phase ≠ .off → b.flag R.OBS_PORT_CFG F.OBS_PORT_CFG_DISABLE = false →
      (let r := b.readReg reqObs false false a.toNat
       Takes (.obsReg a 1) b { r.2 with out := r.2.out ++ [.obs 0 [r.1]] }) ∧
      (∀ x, b.snapAt a.toNat = some x →
        Takes (.obsSnap a 1) b { b with out := b.out ++ [.obs 0 [x % 2 ^ 32, x / 2 ^ 32]] }) ∧
      (b.snapAt a.toNat = none → TakesTo (.obsSnap a 1) b fun t => t.out = b.out ++ [.obs 0 [0, 0]] ∧
        t.inflight = (b.accessFault reqObs 0 false (viewOff a.toNat)).inflight) ∧
      (∀ l s, u.toNat < b.traceMiB d * 32768 → SMap.find (b.ring d).units u.toNat = some l →
        TakesTo (.obsTrace d u [.good s]) b fun t =>
          t.out = b.out ++ [.obs 0 [], .obs 0 ((List.range 8).map fun k => leVal (slice l (4 * k) (4 * k + 4)))])) := by
  intro denied
  have hreg (n : BitVec 8) : Takes (.obsReg a n) b (b.obsReg a.toNat n.toNat) := fun _ => rfl
  have hsnap (n : BitVec 8) : Takes (.obsSnap a n) b (b.obsSnap a.toNat n.toNat) := fun _ => rfl
  have htrace (rs : List TraceRead) : Takes (.obsTrace d u rs) b (b.obsTrace d u.toNat rs) := fun _ => rfl
  refine ⟨fun off => ?_, fun on denied => ?_, fun on open_ => ⟨?_, fun x h => ?_, fun h => ?_, fun l s inside hit => ?_⟩⟩
  · exact ⟨takes_congr (hreg n) ((b.obsServes_eq _).1 off), takes_congr (hsnap n) ((b.obsServes_eq _).1 off),
      takes_congr (htrace rs) ((b.obsServes_eq _).1 off)⟩
  · exact ⟨takes_congr (hreg n) ((b.obsServes_eq _).2.1 on denied), takes_congr (hsnap n) ((b.obsServes_eq _).2.1 on denied),
      takes_congr (htrace rs) ((b.obsServes_eq _).2.1 on denied)⟩
  · exact takes_congr (hreg 1) (b.obsReg_one a.toNat on open_)
  · exact takes_congr (hsnap 1) ((b.obsSnap_one a.toNat on open_).1 x h)
  · refine Takes.to (takes_congr (hsnap 1) ((b.obsSnap_one a.toNat on open_).2 h)) ⟨?_, rfl⟩
    rw [Block.emit, Block.accessFault_out]
  · exact (htrace [.good s]).to (b.obsTrace_good s inside hit on open_)

/-- Settles O50: the record, the control, the reads and the port in turn. -/
theorem traceRingsAndTheObservationPort : Obligations.TraceRingsAndTheObservationPort := by
  unfold Obligations.TraceRingsAndTheObservationPort
  intro b d off st shut
  have hwrite (room : Bool) : Takes (.traceRecordWrite d room) b (b.traceWrite d room) := fun _ => rfl
  refine ⟨fun room h => takes_congr (hwrite room) (b.traceWrite_waits d room (.inl h)), fun room h => takes_congr (hwrite room) (b.traceWrite_waits d room (.inr h)),
    fun room r rest hpop trained => ?_, fun v hreach => ?_, fun w v s hreach => ?_, obs_answers b d⟩
  · obtain ⟨hdrop, hfull, htake⟩ := b.traceWrite_tells d.isLt room hpop trained
    refine ⟨fun h => (hwrite room).to (hdrop h), fun h full => (hwrite room).to (hfull h full), fun h hroom hn open_ wraps => (hwrite room).to ?_⟩
    obtain ⟨hrecords, hlost, hseq, hhead, hunit, hother⟩ := htake h hroom hn open_ wraps
    exact ⟨hrecords, hlost, hseq, hhead, hunit, fun e he => hother e fun same => he (Fin.ext same)⟩
  · have hun : Takes (.trcUnfreeze v) b (b.trcUnfreeze v.toNat) := takes_of_write hreach fun _ => rfl
    have hre : Takes (.trcRestart v) b (b.trcRestart v.toNat) := takes_of_write hreach fun _ => rfl
    exact ⟨fun h => takes_congr hun (if_pos (by simp [h])), fun h => takes_congr hre (if_pos (by simp [h])),
      fun h => Takes.to (takes_congr hun (if_neg (by simp [h]))) (b.trcCtrl_tells v.toNat),
      fun h => Takes.to (takes_congr hre (if_neg (by simp [h]))) (b.trcCtrl_tells v.toNat)⟩
  · obtain ⟨hout, hin⟩ := b.readUnit_tells (F.OBS_TRC_RD_ADDR_DIE.of v.toNat) (F.OBS_TRC_RD_ADDR_UNIT.of v.toNat)
    have h (r : TraceRead) : Takes (.trcRdAddr w v r) b (b.trcRdAddr w v.toNat r) := takes_of_write hreach fun _ => rfl
    refine ⟨fun beyond => ?_, fun l inside hit => ⟨?_, fun a => ?_⟩⟩
    · obtain ⟨hstatus, hdata, -⟩ := b.trcRdAddr_tells w v.toNat _ (hout (.good s) beyond)
      exact (h _).to ⟨hstatus, fun k hk => (hdata k hk).trans payloadWord_zeros⟩
    · obtain ⟨t, hread, stacks_⟩ := (hin l inside hit).1 s
      obtain ⟨hstatus, hdata, hrings⟩ := b.trcRdAddr_tells w v.toNat _ hread
      exact (h _).to ⟨hstatus, hrings.trans stacks_.1, hdata⟩
    · obtain ⟨t, hread⟩ := (hin l inside hit).2 s a
      obtain ⟨hstatus, -, -⟩ := b.trcRdAddr_tells w v.toNat _ hread
      exact (h _).to hstatus

end Sys2Proof.Machine
end

section
/-!
PROOFS. The parse stage (R93, R122 to R149): the head of a frame, the host limiters and the fragment tables; and O8 from these.
-/
namespace Sys2Proof.Machine
open Sys2Proof

variable {b c d : Block}

/-- From b to c nothing changed that the parse of a head reads or answers, but for the fragment slot of frame i. -/
structure Block.Heading (i : Nat) (b c : Block) : Prop where
  regs : c.regs = b.regs
  others : ∀ j, j ≠ i → c.frame j = b.frame j
  slow : c.slow = b.slow
  mine : ∃ s, c.frame i = { b.frame i with fragSlot := s }

namespace Block.Heading
variable {i : Nat}

theorem refl (b : Block) : b.Heading i b := ⟨rfl, fun _ _ => rfl, rfl, ⟨(b.frame i).fragSlot, rfl⟩⟩

theorem of_frames (h : b.Heading i c) (regs : d.regs = c.regs) (frames : d.frames = c.frames) (slow : d.slow = c.slow) : b.Heading i d := by
  have hframe (j : Nat) : d.frame j = c.frame j := by rw [Block.frame, frames, ← Block.frame]
  obtain ⟨s, hs⟩ := h.mine
  exact ⟨regs.trans h.regs, fun j hj => (hframe j).trans (h.others j hj), slow.trans h.slow, s, (hframe i).trans hs⟩

theorem count (h : b.Heading i c) (a n : Nat) : b.Heading i (c.count a n) := h.of_frames (c.count_regs a n) (c.count_frames a n) (c.count_slow a n)
theorem pmc (h : b.Heading i c) (u : PUnit) (e q n : Nat) : b.Heading i (c.pmc u e q n) :=
  h.of_frames (c.pmc_regs u e q n) (c.pmc_frames u e q n) (c.pmc_slow u e q n)
theorem sendOncePerMs (h : b.Heading i c) (t x k a : Nat) : b.Heading i (c.sendOncePerMs t x k a) :=
  h.of_frames (c.sendOncePerMs_regs t x k a) (c.sendOncePerMs_frames t x k a) (c.sendOncePerMs_slow t x k a)
theorem modCluster (h : b.Heading i c) (C : Nat) (f : Cluster → Cluster) : b.Heading i (c.modCluster C f) := h.of_frames rfl rfl rfl
theorem stgWatch (h : b.Heading i c) (p n : Nat) : b.Heading i (c.stgWatch p n) := by
  obtain ⟨cs, ps, e⟩ := c.stgWatch_onPorts p n
  exact h.of_frames (by rw [e]) (by rw [e]) (by rw [e])

theorem modSlot (h : b.Heading i c) (s : Option Nat) : b.Heading i (c.modFrame i fun f => { f with fragSlot := s }) := by
  obtain ⟨s', hs⟩ := h.mine
  refine ⟨h.regs, fun j hj => ?_, h.slow, s, ?_⟩
  · rw [Block.frame_modFrame, if_neg hj, h.others j hj]
  · rw [Block.frame_modFrame, if_pos rfl, hs]

theorem fragExpire (h : b.Heading i c) (C : Nat) : b.Heading i (c.fragExpire C) := by
  unfold Block.fragExpire
  dsimp only
  split
  · exact h
  · exact (h.modCluster C _).count _ _

theorem fragFirst (h : b.Heading i c) (C : Nat) (v6 : Bool) (key : List Byte) : b.Heading i (c.fragFirst i C v6 key) := by
  have he := h.fragExpire C
  unfold Block.fragFirst
  extract_lets b' e slot
  cases slot with
  | some s => exact ((he.modCluster C _).count _ _).modSlot (some s)
  | none => exact (he.count _ _).sendOncePerMs _ _ _ _

end Block.Heading

/-! ## The parse of a head -/

/-- What the Sieve finds in frame i. -/
def Block.sieved (b : Block) (i : Nat) : Sv := sieve (b.sieveCfg (clsOfPort (b.frame i).port)) (b.frame i).bytes

/-- Whether the fragment table takes part. -/
def Block.fragsOn (b : Block) (i : Nat) : Bool :=
  b.flag (R.CLS_FRAG_CFG (clsOfPort (b.frame i).port)) F.CLS_FRAG_CFG_EN && (b.frame i).host.isNone

/-- Frame i with its vector, before the fragment table, and after it. -/
def Block.headGiven (b : Block) (i : Nat) : Block :=
  (b.pmc (.cls (clsOfPort (b.frame i).port)) 0x01 ((b.frame i).port % 8) 1).modFrame i fun f =>
    { f with loc := .pipe, stage := 0, hv := (b.sieved i).hv, fragKey := (b.sieved i).fragKey, fragV6 := (b.sieved i).fragV6,
             fragUse := (b.sieved i).frag && b.fragsOn i && !(Vec.f (b.sieved i).hv 0 ⟨28, 28⟩ == 1) }
def Block.headTaken (b : Block) (i : Nat) : Block :=
  if (b.sieved i).frag && b.fragsOn i && Vec.f (b.sieved i).hv 0 ⟨28, 28⟩ == 1 then
    (b.headGiven i).fragFirst i (clsOfPort (b.frame i).port) (b.sieved i).fragV6 (b.sieved i).fragKey
  else b.headGiven i

theorem Block.parseFrame_whole (b : Block) {i : Nat} (stop : (b.sieved i).stop = 0) : b.parseFrame i = (b.headTaken i).classify i 0 :=
  if_pos (by rw [← Block.sieved, stop]; rfl)

theorem Block.parseFrame_routine (b : Block) {i : Nat} (stop : (b.sieved i).stop ≠ 0)
    (on : ((b.headTaken i).pmc (.cls (clsOfPort (b.frame i).port)) 0x02 (b.sieved i).stop 1).flag
      (R.CLS_HANDOFF (clsOfPort (b.frame i).port) (b.sieved i).stop) F.CLS_HANDOFF_ROUTINE_EN = true) :
    let c := (b.headTaken i).pmc (.cls (clsOfPort (b.frame i).port)) 0x02 (b.sieved i).stop 1
    b.parseFrame i = c.modFrame i fun f =>
      { f with me := .waiting (c.fld (R.CLS_HANDOFF (clsOfPort (b.frame i).port) (b.sieved i).stop) F.CLS_HANDOFF_ENTRY) } := by
  intro c
  have hstop : ¬ ((b.sieved i).stop == 0) = true := by simp [stop]
  exact (if_neg hstop).trans (if_pos on)

/-- Up to the classifier or the hand-off the parse gives frame i its vector, and touches no register and no other frame. -/
theorem Block.headTaken_tells (b : Block) (i : Nat) :
    let v := b.sieved i
    let c := b.headTaken i
    c.regs = b.regs ∧ (∀ j, j ≠ i → c.frame j = b.frame j) ∧ c.slow = b.slow ∧ ∃ use slot, c.frame i =
      { b.frame i with loc := .pipe, stage := 0, hv := v.hv, fragKey := v.fragKey, fragV6 := v.fragV6, fragUse := use, fragSlot := slot } := by
  intro v c
  have h1 : b.Heading i (b.pmc (.cls (clsOfPort (b.frame i).port)) 0x01 ((b.frame i).port % 8) 1) := (Block.Heading.refl b).pmc _ _ _ _
  have h3 : (b.headGiven i).Heading i c := by
    rw [show c = b.headTaken i from rfl, Block.headTaken]
    split
    · exact (Block.Heading.refl _).fragFirst _ _ _
    · exact .refl _
  clear_value c
  obtain ⟨s1, hs1⟩ := h1.mine
  obtain ⟨s3, hs3⟩ := h3.mine
  refine ⟨h3.regs.trans h1.regs, fun j hj => ?_, h3.slow.trans h1.slow,
    v.frag && b.fragsOn i && !(Vec.f v.hv 0 ⟨28, 28⟩ == 1), s3, hs3.trans ?_⟩
  · rw [h3.others j hj, Block.headGiven, Block.frame_modFrame, if_neg hj, h1.others j hj]
  · rw [Block.headGiven, Block.frame_modFrame, if_pos rfl, hs1]

/-! ## The classifier (R133, R134) -/

/-- A frame that waits for no routine, and that nothing is wrong with, passes as it is. -/
theorem Block.classify_passes (b : Block) {i : Nat} (sub : Nat) (mal : Vec.f (b.frame i).hv 0 ⟨19, 16⟩ = 0) (fail : Vec.f (b.frame i).hv 0 ⟨23, 20⟩ = 0)
    (none : (b.frame i).me = .none) : (b.classify i sub).frame i = b.frame i ∧ ∀ j, j ≠ i → (b.classify i sub).frame j = b.frame j := by
  unfold Block.classify
  dsimp only
  rw [mal, fail, if_neg (by simp), if_neg (by simp)]
  refine ⟨?_, fun j hj => ?_⟩
  · rw [Block.frame_modFrame, if_pos rfl, none]
    dsimp only
    rw [← none]
  · rw [Block.frame_modFrame, if_neg hj]

theorem Block.dropFrame_gone (b : Block) (i : Nat) :
    SMap.find (b.dropFrame i).frames i = none ∧ (∀ j, j ≠ i → (b.dropFrame i).frame j = b.frame j) ∧ (b.dropFrame i).slow = b.slow :=
  ⟨SMap.find_del_same _ _, fun _ hj => SMap.get_del_other _ _ hj, rfl⟩

/-- A malformed frame whose action is 0 is dropped. -/
theorem Block.classify_drops (b : Block) {i : Nat} (sub : Nat) (mal : Vec.f (b.frame i).hv 0 ⟨19, 16⟩ ≠ 0)
    (action : b.word (R.CLS_MAL_ACTION (clsOfPort (b.frame i).port)) / 4 ^ (Vec.f (b.frame i).hv 0 ⟨19, 16⟩ - 1) % 4 = 0) :
    SMap.find (b.classify i sub).frames i = none ∧ (∀ j, j ≠ i → (b.classify i sub).frame j = b.frame j) ∧ (b.classify i sub).slow = b.slow := by
  unfold Block.classify
  dsimp only
  rw [if_pos (by simp [mal])]
  generalize hc : b.modFrame i _ = c
  have h := (((Block.Heading.refl (i := i) c).count (R.CLS_MAL_CNT (clsOfPort (b.frame i).port) (Vec.f (b.frame i).hv 0 ⟨19, 16⟩ - 1)) 1).pmc
    (.cls (clsOfPort (b.frame i).port)) 0x05 (Vec.f (b.frame i).hv 0 ⟨19, 16⟩) 1).sendOncePerMs 0xB (clsOfPort (b.frame i).port) 0x21
    (Vec.f (b.frame i).hv 0 ⟨19, 16⟩)
  generalize Block.sendOncePerMs _ _ _ _ _ = e at h ⊢
  have hregs : e.regs = b.regs := h.regs.trans (by rw [← hc, Block.modFrame_regs])
  rw [Block.word_of_regs hregs, action]
  obtain ⟨hgone, hothers, hslow⟩ := e.dropFrame_gone i
  refine ⟨hgone, fun j hj => (hothers j hj).trans ?_, hslow.trans (h.slow.trans (by rw [← hc, Block.modFrame_slow]))⟩
  rw [h.others j hj, ← hc, Block.frame_modFrame, if_neg hj]

/-! ## PIPE_TAKE_HEAD (R93, R123) -/

/-- The pipe's frame, as the parse takes it. -/
theorem Block.pipeTakeHead_takes (b : Block) {p i : Nat} {f g : Frame} {r : List (Nat × Frame)} (may : b.mayTake p = true)
    (head : b.at_ p .staging = (i, g) :: r) (hf : b.frame i = f) :
    ∃ c : Block, b.pipeTakeHead p = c.parseFrame i ∧ c.regs = b.regs ∧ (∀ j, j ≠ i → c.frame j = b.frame j) ∧ c.slow = b.slow ∧
      ∃ s, c.frame i = { f with loc := .pipe, fragSlot := s } := by
  have h : (b.modFrame i fun f => { f with loc := .pipe }).Heading i ((b.modFrame i fun f => { f with loc := .pipe }).stgWatch p (b.stgFill p)) :=
    (Block.Heading.refl _).stgWatch _ _
  obtain ⟨c, hc⟩ : ∃ c, (b.modFrame i fun f => { f with loc := .pipe }).stgWatch p (b.stgFill p) = c := ⟨_, rfl⟩
  have ht : b.pipeTakeHead p = c.parseFrame i := by
    rw [← hc, Block.pipeTakeHead, if_neg (by simp [may]), head]
  rw [hc] at h
  obtain ⟨s, hs⟩ := h.mine
  refine ⟨c, ht, h.regs, fun j hj => ?_, h.slow, s, ?_⟩
  · rw [h.others j hj, Block.frame_modFrame, if_neg hj]
  · rw [hs, Block.frame_modFrame, if_pos rfl, hf]

theorem Block.sieveCfg_of_regs (h : c.regs = b.regs) (C : Nat) : c.sieveCfg C = b.sieveCfg C := by
  have hfld (a : Nat) (f : Bf) : c.fld a f = b.fld a f := Block.fld_of_word (Block.word_of_regs h a) f
  have hflag (a : Nat) (f : Bf) : c.flag a f = b.flag a f := by rw [Block.flag, hfld, ← Block.flag]
  simp only [Block.sieveCfg, hfld, hflag]

theorem Block.pipeTakeHead_tells (b : Block) {p i : Nat} {f : Frame} {r : List (Nat × Frame)} (may : b.mayTake p = true)
    (head : b.at_ p .staging = (i, f) :: r) (hf : b.frame i = f) (fresh : f.me = .none) :
    let C := clsOfPort p
    let v := sieve (b.sieveCfg C) f.bytes
    let mal := Vec.f v.hv 0 ⟨19, 16⟩
    let t := b.pipeTakeHead p
    (v.stop = 0 → mal = 0 → Vec.f v.hv 0 ⟨23, 20⟩ = 0 →
      (t.frame i).loc = .pipe ∧ (t.frame i).stage = 0 ∧ (t.frame i).hv = v.hv ∧ (t.frame i).me = .none ∧
      (t.frame i).bytes = f.bytes ∧ (∀ j, j ≠ i → t.frame j = b.frame j)) ∧
    (v.stop ≠ 0 → b.flag (R.CLS_HANDOFF C v.stop) F.CLS_HANDOFF_ROUTINE_EN = true →
      (t.frame i).loc = .pipe ∧ (t.frame i).hv = v.hv ∧
      (t.frame i).me = .waiting (b.fld (R.CLS_HANDOFF C v.stop) F.CLS_HANDOFF_ENTRY) ∧
      (∀ j, j ≠ i → t.frame j = b.frame j)) ∧
    (v.stop = 0 → mal ≠ 0 → b.word (R.CLS_MAL_ACTION C) / 4 ^ (mal - 1) % 4 = 0 →
      SMap.find t.frames i = none ∧ (∀ j, j ≠ i → t.frame j = b.frame j) ∧ t.slow = b.slow) := by
  intro C v mal t
  have hport : f.port = p := by
    have : (i, f) ∈ b.at_ p .staging := head ▸ List.mem_cons_self
    have := (List.mem_filter.mp this).2
    simp only [Bool.and_eq_true, beq_iff_eq] at this
    exact this.1
  obtain ⟨c, ht, cRegs, cOthers, cSlow, s, cMine⟩ := b.pipeTakeHead_takes may head hf
  have hcport : clsOfPort (c.frame i).port = C := by
    rw [cMine]
    exact congrArg clsOfPort hport
  have hv : c.sieved i = v := by
    rw [Block.sieved, hcport, Block.sieveCfg_of_regs cRegs, cMine]
  obtain ⟨hRegs, hOthers, hSlow, use, slot, hMine⟩ := c.headTaken_tells i
  obtain ⟨e, he⟩ : ∃ e, c.headTaken i = e := ⟨_, rfl⟩
  rw [he, hv] at hMine
  rw [he] at hRegs hOthers hSlow
  have heport : clsOfPort (e.frame i).port = C := by rw [hMine]; exact hcport
  have hehv : (e.frame i).hv = v.hv := by rw [hMine]
  have heregs : e.regs = b.regs := hRegs.trans cRegs
  have heothers (j : Nat) (hj : j ≠ i) : e.frame j = b.frame j := (hOthers j hj).trans (cOthers j hj)
  refine ⟨fun stop nomal nofail => ?_, fun stop routine => ?_, fun stop hmal action => ?_⟩
  · have hend : t = e.classify i 0 := by rw [show t = _ from ht, c.parseFrame_whole (by rw [hv, stop]), he]
    obtain ⟨hmine, hothers⟩ := e.classify_passes 0 (by rw [hehv]; exact nomal) (by rw [hehv]; exact nofail) (by rw [hMine, cMine]; exact fresh)
    rw [hend, hmine, hMine, cMine]
    exact ⟨rfl, rfl, rfl, fresh, rfl, fun j hj => (hothers j hj).trans (heothers j hj)⟩
  · obtain ⟨g, hg⟩ : ∃ g, e.pmc (.cls C) 0x02 v.stop 1 = g := ⟨_, rfl⟩
    have hgregs : g.regs = b.regs := by rw [← hg, Block.pmc_regs, heregs]
    have hgframe (j : Nat) : g.frame j = e.frame j := by rw [← hg, Block.pmc_frame]
    have hfld (a : Nat) (x : Bf) : g.fld a x = b.fld a x := Block.fld_of_word (Block.word_of_regs hgregs a) x
    have hflag (a : Nat) (x : Bf) : g.flag a x = b.flag a x := by rw [Block.flag, hfld, ← Block.flag]
    have hend : t = g.modFrame i fun f => { f with me := .waiting (b.fld (R.CLS_HANDOFF C v.stop) F.CLS_HANDOFF_ENTRY) } := by
      have := c.parseFrame_routine (i := i) (by rw [hv]; exact stop) (by rw [he, hcport, hv, hg, hflag]; exact routine)
      dsimp only at this
      rw [he, hcport, hv, hg, hfld] at this
      exact ht.trans this
    rw [hend, Block.frame_modFrame, if_pos rfl, hgframe, hMine]
    refine ⟨rfl, rfl, rfl, fun j hj => ?_⟩
    rw [Block.frame_modFrame, if_neg hj, hgframe, heothers j hj]
  · have hend : t = e.classify i 0 := by rw [show t = _ from ht, c.parseFrame_whole (by rw [hv, stop]), he]
    obtain ⟨hgone, hothers, hslow⟩ := e.classify_drops (i := i) 0 (by rw [hehv]; exact hmal)
      (by rw [hehv, heport, Block.word_of_regs heregs]; exact action)
    rw [hend]
    exact ⟨hgone, fun j hj => (hothers j hj).trans (heothers j hj), hslow.trans (hSlow.trans cSlow)⟩

/-! ## The limiters and the fragment tables (R139, R145 to R147) -/

theorem Block.hostlimWrite_tells (b : Block) (w : Writer) (p r v : Nat) :
    let t := b.hostlimWrite w p r v
    SMap.get {} (t.port p).lims r = { missing := 0, at_ := b.usNow } ∧
    (∀ n, n ≠ r → SMap.get {} (t.port p).lims n = SMap.get {} (b.port p).lims n) ∧
    (∀ a, a ≠ R.PRT_HOSTLIM p r → t.word a = b.word a) := by
  intro t
  obtain ⟨c, hc⟩ : ∃ c, b.storeReg w (R.PRT_HOSTLIM p r) v = c := ⟨_, rfl⟩
  have hport : c.port p = b.port p := by rw [← hc, Block.storeReg_port]
  have ht : t = c.modPort p fun x => { x with lims := SMap.set {} x.lims r ⟨0, b.usNow⟩ } := by
    rw [← hc]
    rfl
  rw [ht, Block.port_modPort, if_pos rfl, hport]
  refine ⟨SMap.get_set_same _ _ _ _, fun n hn => SMap.get_set_other _ _ _ hn, fun a ha => ?_⟩
  rw [Block.modPort_word, ← hc, Block.word_storeReg_other _ _ _ ha]

/-- The entries of cluster C that have reached FRAG_LIFE. -/
def Block.fragOld (b : Block) (C : Nat) (e : Nat × FragEntry) : Bool := b.fragLife C ≤ (b.ticks - e.2.born) / 1000

theorem Block.fragExpire_tells (b : Block) (C : Nat) :
    let t := b.fragExpire C
    (t.cluster C).frags = (b.cluster C).frags.filter (fun e => !b.fragOld C e) ∧
    t.ctrs = (if (b.cluster C).frags.any (b.fragOld C) then
      (b.count (R.CLS_FRAG_EXPIRED C) ((b.cluster C).frags.filter (b.fragOld C)).length).ctrs else b.ctrs) ∧
    (∀ c, c ≠ C → t.cluster c = b.cluster c) ∧ t = { b with clusters := t.clusters, ctrs := t.ctrs } := by
  intro t
  have ht : t = if ((b.cluster C).frags.filter (b.fragOld C)).isEmpty then b
      else (b.modCluster C fun x => { x with frags := x.frags.filter fun e => !b.fragOld C e }).count (R.CLS_FRAG_EXPIRED C)
        ((b.cluster C).frags.filter (b.fragOld C)).length := rfl
  clear_value t
  by_cases none : ∀ e ∈ (b.cluster C).frags, b.fragOld C e = false
  · have hempty : (b.cluster C).frags.filter (b.fragOld C) = [] := List.filter_eq_nil_iff.mpr fun e he => by rw [none e he]; decide
    have hall : (b.cluster C).frags.filter (fun e => !b.fragOld C e) = (b.cluster C).frags := List.filter_eq_self.mpr fun e he => by rw [none e he]; rfl
    have hany : (b.cluster C).frags.any (b.fragOld C) = false := List.any_eq_false.mpr fun e he => by rw [none e he]; decide
    rw [hempty] at ht
    rw [show t = b from ht, hall, hany]
    exact ⟨rfl, rfl, fun _ _ => rfl, rfl⟩
  · simp only [not_forall, Bool.not_eq_false] at none
    obtain ⟨e, he, hold⟩ := none
    have hany : (b.cluster C).frags.any (b.fragOld C) = true := List.any_eq_true.mpr ⟨e, he, hold⟩
    have hfilter : ((b.cluster C).frags.filter (b.fragOld C)).isEmpty = false := by
      rw [List.isEmpty_eq_false_iff_exists_mem]
      exact ⟨e, List.mem_filter.mpr ⟨he, hold⟩⟩
    rw [hfilter, if_neg Bool.false_ne_true] at ht
    have honly := Block.count_only (b.modCluster C fun x => { x with frags := x.frags.filter fun e => !b.fragOld C e }) (R.CLS_FRAG_EXPIRED C)
      ((b.cluster C).frags.filter (b.fragOld C)).length
    rw [← ht] at honly
    have hcluster (c : Nat) : t.cluster c = (b.modCluster C fun x => { x with frags := x.frags.filter fun e => !b.fragOld C e }).cluster c := by
      rw [honly]
      rfl
    refine ⟨?_, ?_, fun c hc => ?_, ?_⟩
    · rw [hcluster, Block.cluster_modCluster, if_pos rfl]
    · rw [hany, if_pos rfl, ht]
      unfold Block.count
      rw [Block.modCluster_stopped]
      split <;> rfl
    · rw [hcluster, Block.cluster_modCluster, if_neg hc]
    · rw [honly]
      rfl

theorem findReg_fragCfg {C : Nat} (hC : C < 32) :
    findReg (R.CLS_FRAG_CFG C) = some ⟨.cls, C, 0x100, reg1 0x100 [⟨31, 31, .rw, 1⟩, ⟨30, 30, .wo, 0⟩, ⟨15, 0, .rw, 2000⟩], 0, 0, 0⟩ :=
  findReg_base rfl hC (by decide) (by decide)

theorem Block.fragFlush_tells (b : Block) (w : Writer) {C : Nat} (hC : C < 32) (v : Nat) :
    let t := b.fragFlush w C v
    (F.CLS_FRAG_CFG_FRAG_LIFE.of v = 0 → t = b.refuse w (R.CLS_FRAG_CFG C)) ∧
    (F.CLS_FRAG_CFG_FRAG_LIFE.of v ≠ 0 → F.CLS_FRAG_CFG_FLUSH.of v = 1 →
      (t.cluster C).frags = [] ∧ t.flag (R.CLS_FRAG_STATUS C) F.CLS_FRAG_STATUS_FLUSH_BUSY = true ∧
      t.fld (R.CLS_FRAG_CFG C) F.CLS_FRAG_CFG_FRAG_LIFE = F.CLS_FRAG_CFG_FRAG_LIFE.of v ∧ (∀ c, c ≠ C → t.cluster c = b.cluster c)) ∧
    (F.CLS_FRAG_CFG_FRAG_LIFE.of v ≠ 0 → F.CLS_FRAG_CFG_FLUSH.of v = 0 → t = (b.fragExpire C).storeReg w (R.CLS_FRAG_CFG C) v) := by
  intro t
  have hlife (h : F.CLS_FRAG_CFG_FRAG_LIFE.of v ≠ 0) : ¬ (F.CLS_FRAG_CFG_FRAG_LIFE.of v == 0) = true := by simp [h]
  refine ⟨fun zero => if_pos (by simp [zero]), fun life flush => ?_, fun life keep => ?_⟩
  · obtain ⟨e, he⟩ : ∃ e, b.fragExpire C = e := ⟨_, rfl⟩
    obtain ⟨c, hc⟩ : ∃ c, e.storeReg w (R.CLS_FRAG_CFG C) v = c := ⟨_, rfl⟩
    obtain ⟨g, hg⟩ : ∃ g, c.modCluster C (fun x => { x with frags := [] }) = g := ⟨_, rfl⟩
    have ht : t = g.raise (R.CLS_FRAG_STATUS C) F.CLS_FRAG_STATUS_FLUSH_BUSY := by
      rw [← hg, ← hc, ← he]
      exact (if_neg (hlife life)).trans (if_pos (by simp [flush]))
    have hcluster (x : Nat) : t.cluster x = if x = C then { c.cluster C with frags := [] } else c.cluster x := by
      rw [ht, Block.raise, Block.setFld_cluster, ← hg, Block.cluster_modCluster]
    refine ⟨by rw [hcluster, if_pos rfl], ?_, ?_, fun x hx => ?_⟩
    · rw [ht]
      exact Block.flag_raise _ _ _ (by decide) (by decide)
    · rw [ht, Block.raise, Block.fld_of_word (Block.word_setFld_ne _ _ _ (by unfold R.CLS_FRAG_CFG R.CLS_FRAG_STATUS; omega)), ← hg, Block.modCluster_fld, ← hc]
      exact Block.fld_storeReg (findReg_fragCfg hC) rfl w v (f := ⟨15, 0, .rw, 2000⟩) (by simp [reg1])
    · rw [hcluster, if_neg hx, ← hc, Block.storeReg_cluster, ← he, (b.fragExpire_tells C).2.2.1 x hx]
  · exact (if_neg (hlife life)).trans (if_neg (by simp [keep]))

/-- Settles O8: what the Sieve finds decides the head's path; then the limiters and the fragment tables. -/
theorem headsAreParsedAndFragmentsExpire : Obligations.HeadsAreParsedAndFragmentsExpire := by
  unfold Obligations.HeadsAreParsedAndFragmentsExpire
  refine ⟨fun b p i f r may head hf fresh => ?_, fun b w p r v hreach => ?_, fun b C => ?_, fun b w C v hreach => ?_, fun b C => ?_⟩
  · obtain ⟨hwhole, hroutine, hdrop⟩ := b.pipeTakeHead_tells may head hf fresh
    have h : Takes (.pipeTakeHead p) b (b.pipeTakeHead p) := fun _ => rfl
    exact ⟨fun stop mal fail => h.to (hwhole stop mal fail), fun stop routine => h.to (hroutine stop routine), fun stop mal action => h.to (hdrop stop mal action)⟩
  · have h : Takes (.hostlimWrite w p r v) b (b.hostlimWrite w p r v.toNat) := takes_of_write hreach fun _ => rfl
    exact h.to (b.hostlimWrite_tells w p r v.toNat)
  · have h : Takes (.fragExpire C) b (b.fragExpire C) := fun _ => rfl
    exact h.to (b.fragExpire_tells C)
  · obtain ⟨hbad, hflush, hkeep⟩ := b.fragFlush_tells w C.isLt v.toNat
    have h : Takes (.fragFlush w C v) b (b.fragFlush w C v.toNat) := takes_of_write hreach fun _ => rfl
    exact ⟨fun zero => takes_congr h (hbad zero), fun life flush => h.to (hflush life flush), fun life keep => takes_congr h (hkeep life keep)⟩
  · have h : Takes (.fragFlushDone C) b (b.lower (R.CLS_FRAG_STATUS C) F.CLS_FRAG_STATUS_FLUSH_BUSY) := fun _ => rfl
    exact h.to ⟨Block.flag_lower _ _ _ (by decide) (by decide), ((Block.OnRegs.refl b).lower _ _).only, fun a ha => b.word_setFld_ne _ _ ha⟩

end Sys2Proof.Machine
end

section
/-!
PROOFS. Doorbells, pool tails and the enabling of rings (R379, R385, R386, R391, R395); and O35 from these.
-/
namespace Sys2Proof.Machine
open Sys2Proof

variable {b c d : Block}

/-! ## An instance's writes -/

/-- A write of instance i to its layout that reaches it does what its operation says. -/
theorem takes_of_inst {b : Block} {c : Instr} {i : Fin 256} {f : Block → Block} (hr : b.reaches (.inst i) .lay = true)
    (h : ∀ q, exec c ⟨b, q⟩ = State.doing ⟨b, q⟩ fun b => b.byInst i.val f) : Takes c b (f b) := by
  have hi : Fin.ofNat 256 i.val = i := Fin.ext (Nat.mod_eq_of_lt i.isLt)
  refine takes_of_write hr fun q => (h q).trans ?_
  unfold Block.byInst
  rw [hi]

theorem Block.layWrite_reset (b : Block) {i : Nat} (f : Block → Block) (h : b.resetting i = true) : b.layWrite i f = b := if_pos h
theorem Block.layWrite_live (b : Block) {i : Nat} (f : Block → Block) (h : b.resetting i = false) : b.layWrite i f = f b :=
  if_neg (by simp [h])

/-- Where an instance resets, or its function is in D3hot, its doorbells are discarded (R374). -/
def Block.deaf (b : Block) (i : Nat) : Prop := b.resetting i = true ∨ (b.inst i).d3hot = true

theorem Block.layWrite_deaf (b : Block) {i : Nat} (f : Block → Block) (h : b.deaf i) :
    b.layWrite i (fun b => if (b.inst i).d3hot then b else f b) = b := by
  unfold Block.layWrite
  split
  · rfl
  · next live => exact if_pos (h.resolve_left live)

theorem Block.layWrite_heard (b : Block) {i : Nat} (f : Block → Block) (h : ¬ b.deaf i) :
    b.layWrite i (fun b => if (b.inst i).d3hot then b else f b) = f b := by
  unfold Block.deaf at h
  rw [not_or] at h
  unfold Block.layWrite
  exact (if_neg h.1).trans (if_neg h.2)

/-! ## Doorbells (R386, R391) -/

theorem Block.txRing_modTxRing (b : Block) (r : Nat) (f : TxRing → TxRing) (q : Nat) :
    (b.modTxRing r f).txRing q = if q = r then f (b.txRing r) else b.txRing q := SMap.get_mod _ _ _ _ _
theorem Block.rxRing_modRxRing (b : Block) (r : Nat) (f : RxRing → RxRing) (q : Nat) :
    (b.modRxRing r f).rxRing q = if q = r then f (b.rxRing r) else b.rxRing q := SMap.get_mod _ _ _ _ _

/-- Transmit ring r with its doorbell at v. -/
def Block.rung (b : Block) (i r v : Nat) : Block := (b.modTxRing r fun x => { x with db := v }).pmc .hif 0x04 i 1

theorem Block.rung_tells (b : Block) (i r v : Nat) :
    let t := b.rung i r v
    t.txRing r = { b.txRing r with db := v } ∧ (∀ q, q ≠ r → t.txRing q = b.txRing q) ∧ t = { b with ctrs := t.ctrs, txRings := t.txRings } := by
  intro t
  obtain ⟨c, hc⟩ : ∃ c, b.modTxRing r (fun x => { x with db := v }) = c := ⟨_, rfl⟩
  have hcount : c.Counted t := by
    rw [← hc]
    exact (Block.Counted.refl _).pmc _ _ _ _
  clear_value t
  have hring (q : Nat) : t.txRing q = if q = r then { b.txRing r with db := v } else b.txRing q := by
    have h : t.txRing q = c.txRing q := by rw [hcount.only]; rfl
    rw [h, ← hc, Block.txRing_modTxRing]
  refine ⟨by rw [hring, if_pos rfl], fun q hq => by rw [hring, if_neg hq], ?_⟩
  rw [hcount.only, ← hc]
  rfl

/-- What a doorbell that is heard does. -/
def Block.txHeard (b : Block) (i j r v : Nat) : Block :=
  if v ≥ b.txSize r then b.notMine i (R.LAY_TXDB i j)
  else if b.txAvail r == 0 && (b.txRing r).frame.isNone then (b.rung i r v).modTxRing r fun x => { x with since := (b.rung i r v).ticks }
  else b.rung i r v

theorem Block.txDoorbell_mine (b : Block) {i j r : Nat} (v : Nat) (mine : b.ringOf true i j = some r) :
    b.txDoorbell i j v = b.layWrite i fun b => if (b.inst i).d3hot then b else b.txHeard i j r (v % 65536) := by
  unfold Block.txDoorbell
  rw [mine]
  rfl

theorem Block.txHeard_tells (b : Block) (i j r : Nat) {v : Nat} (inside : v < b.txSize r) :
    let t := b.txHeard i j r v
    t.txRing r = { b.txRing r with
      db := v, since := if b.txAvail r = 0 ∧ (b.txRing r).frame = none then b.ticks else (b.txRing r).since } ∧
    (∀ q, q ≠ r → t.txRing q = b.txRing q) ∧ t = { b with ctrs := t.ctrs, txRings := t.txRings } := by
  intro t
  obtain ⟨c, hc⟩ : ∃ c, b.rung i r v = c := ⟨_, rfl⟩
  obtain ⟨hmine, hothers, honly⟩ := b.rung_tells i r v
  rw [hc] at hmine hothers honly
  have hempty : (b.txAvail r == 0 && (b.txRing r).frame.isNone) = true ↔ b.txAvail r = 0 ∧ (b.txRing r).frame = none := by
    rw [Bool.and_eq_true, beq_iff_eq, Option.isNone_iff_eq_none]
  have ht : t = if b.txAvail r == 0 && (b.txRing r).frame.isNone then c.modTxRing r fun x => { x with since := c.ticks } else c := by
    rw [← hc]
    exact if_neg (not_le.mpr inside)
  clear_value t
  have hticks : c.ticks = b.ticks := by rw [honly]
  by_cases empty : b.txAvail r = 0 ∧ (b.txRing r).frame = none
  · rw [if_pos (hempty.mpr empty)] at ht
    rw [if_pos empty, ht]
    refine ⟨?_, fun q hq => ?_, ?_⟩
    · rw [Block.txRing_modTxRing, if_pos rfl, hmine, hticks]
    · rw [Block.txRing_modTxRing, if_neg hq, hothers q hq]
    · rw [honly]
      rfl
  · rw [if_neg (mt hempty.mp empty)] at ht
    rw [if_neg empty, ht]
    exact ⟨hmine, hothers, honly⟩

theorem Block.rxDoorbell_mine (b : Block) {i j r : Nat} (v : Nat) (mine : b.ringOf false i j = some r) :
    b.rxDoorbell i j v = b.layWrite i fun b => if (b.inst i).d3hot then b else (b.modRxRing r fun x => { x with db := v % 65536 }).pmc .hif 0x04 i 1 := by
  unfold Block.rxDoorbell
  rw [mine]

theorem Block.rxHeard_tells (b : Block) (i r v : Nat) :
    let t := (b.modRxRing r fun x => { x with db := v }).pmc .hif 0x04 i 1
    t.rxRing r = { b.rxRing r with db := v } ∧ (∀ q, q ≠ r → t.rxRing q = b.rxRing q) ∧ t = { b with ctrs := t.ctrs, rxRings := t.rxRings } := by
  intro t
  obtain ⟨c, hc⟩ : ∃ c, b.modRxRing r (fun x => { x with db := v }) = c := ⟨_, rfl⟩
  have hcount : c.Counted t := by
    rw [← hc]
    exact (Block.Counted.refl _).pmc _ _ _ _
  clear_value t
  have hring (q : Nat) : t.rxRing q = if q = r then { b.rxRing r with db := v } else b.rxRing q := by
    have h : t.rxRing q = c.rxRing q := by rw [hcount.only]; rfl
    rw [h, ← hc, Block.rxRing_modRxRing]
  refine ⟨by rw [hring, if_pos rfl], fun q hq => by rw [hring, if_neg hq], ?_⟩
  rw [hcount.only, ← hc]
  rfl

theorem Block.poolHeard_tells (b : Block) (i k : Nat) {v : Nat} (hv : v < 2 ^ 32) :
    let t := ((b.setWord (R.LAY_POOL_TAIL i k) v).pmc .hif 0x04 i 1).modPool i k fun x => { x with failed := false }
    t.word (R.LAY_POOL_TAIL i k) = v ∧ (∀ a, a ≠ R.LAY_POOL_TAIL i k → t.word a = b.word a) ∧
    t.pool i k = { b.pool i k with failed := false } ∧ t = { b with regs := t.regs, ctrs := t.ctrs, pools := t.pools } := by
  intro t
  obtain ⟨c, hc⟩ : ∃ c, b.setWord (R.LAY_POOL_TAIL i k) v = c := ⟨_, rfl⟩
  obtain ⟨e, he⟩ : ∃ e, c.pmc .hif 0x04 i 1 = e := ⟨_, rfl⟩
  have ht : t = e.modPool i k fun x => { x with failed := false } := by rw [← he, ← hc]
  clear_value t
  have hregs : b.OnRegs c := hc ▸ (Block.OnRegs.refl b).setWord _ _
  have hcount : c.Counted e := he ▸ (Block.Counted.refl c).pmc _ _ _ _
  have hword (a : Nat) : t.word a = c.word a := by rw [ht, Block.modPool_word, ← he, Block.pmc_word]
  refine ⟨?_, fun a ha => ?_, ?_, ?_⟩
  · rw [hword, ← hc, Block.word_setWord_same, Nat.mod_eq_of_lt hv]
  · rw [hword, ← hc, Block.word_setWord_other _ _ ha]
  · have hpool : e.pool i k = b.pool i k := by rw [hcount.only, hregs.only]; rfl
    rw [ht, Block.pool, Block.modPool, SMap.get_mod, if_pos rfl, ← Block.pool, hpool]
  · rw [ht, hcount.only, hregs.only]
    rfl

/-! ## Enabling and disabling rings (R385) -/

theorem Block.ringInt_modRingInt (b : Block) (tx : Bool) (r : Nat) (f : RingInt → RingInt) : (b.modRingInt tx r f).ringInt tx r = f (b.ringInt tx r) := by
  rw [Block.ringInt, Block.modRingInt, SMap.get_mod, if_pos rfl, ← Block.ringInt]

theorem Block.ringClear_tells (b : Block) (tx : Bool) (r : Nat) :
    let t := b.ringClear tx r
    t.ringInt tx r = { reg := (b.ringInt tx r).reg } ∧ t.regs = b.regs ∧
    (tx = true → t.txRing r = {} ∧ ∀ q, q ≠ r → t.txRing q = b.txRing q) ∧ (tx = false → t.rxRing r = {} ∧ ∀ q, q ≠ r → t.rxRing q = b.rxRing q) := by
  intro t
  obtain ⟨c, hc⟩ : ∃ c, b.modRingInt tx r (fun x => { reg := x.reg }) = c := ⟨_, rfl⟩
  have hint : c.ringInt tx r = { reg := (b.ringInt tx r).reg } := by rw [← hc, Block.ringInt_modRingInt]
  have hregs : c.regs = b.regs := by rw [← hc]; rfl
  have htx (q : Nat) : c.txRing q = b.txRing q := by rw [← hc]; rfl
  have hrx (q : Nat) : c.rxRing q = b.rxRing q := by rw [← hc]; rfl
  cases tx with
  | true =>
    have ht : t = c.modTxRing r fun _ => {} := by rw [← hc]; rfl
    rw [ht]
    refine ⟨hint, hregs, fun _ => ⟨by rw [Block.txRing_modTxRing, if_pos rfl], fun q hq => ?_⟩, fun h => nomatch h⟩
    rw [Block.txRing_modTxRing, if_neg hq, htx]
  | false =>
    have ht : t = c.modRxRing r fun _ => {} := by rw [← hc]; rfl
    rw [ht]
    refine ⟨hint, hregs, (fun h => nomatch h), fun _ => ⟨by rw [Block.rxRing_modRxRing, if_pos rfl], fun q hq => ?_⟩⟩
    rw [Block.rxRing_modRxRing, if_neg hq, hrx]

theorem sizeOk_put (v : Nat) :
    sizeOk (F.HIF_TXR_CFG_SIZE_LOG2.of (F.HIF_TXR_CFG_ENABLE.put v 1)) = true ↔ ¬ F.HIF_TXR_CFG_SIZE_LOG2.of v < 6 := by
  rw [Bf.of_put_below _ _ _ _ (by decide) (by decide), sizeOk, decide_eq_true_iff]
  omega

theorem Block.ringEnable_eq (b : Block) (w : Writer) (tx : Bool) (r v : Nat) :
    let a := Block.ringCfgReg tx r
    let lo := b.word (if tx then R.HIF_TXR_BASE_LO r else R.HIF_RXR_BASE_LO r)
    (F.HIF_TXR_CFG_SIZE_LOG2.of v < 6 ∨ lo % 4096 ≠ 0 → b.ringEnable w tx r v = b.refuse w a) ∧
    (¬ F.HIF_TXR_CFG_SIZE_LOG2.of v < 6 → lo % 4096 = 0 →
      b.ringEnable w tx r v = (b.storeReg w a (F.HIF_TXR_CFG_ENABLE.put v 1)).ringClear tx r) := by
  intro a lo
  have hok := sizeOk_put v
  refine ⟨fun bad => if_pos ?_, fun good aligned => if_neg ?_⟩
  · rw [Bool.or_eq_true]
    rcases bad with h | h
    · left
      rw [Bool.not_eq_true', Bool.eq_false_iff]
      exact fun e => hok.mp e h
    · right
      simpa using h
  · rw [hok.mpr good]
    simpa using aligned

theorem Block.ringEnable_tells (b : Block) (w : Writer) (tx : Bool) (r v : Nat) :
    let a := Block.ringCfgReg tx r
    let t := (b.storeReg w a v).ringClear tx r
    t.ringInt tx r = { reg := (b.ringInt tx r).reg } ∧ t.word a = (b.storeReg w a v).word a ∧
    (tx = true → t.txRing r = {} ∧ ∀ q, q ≠ r → t.txRing q = b.txRing q) ∧ (tx = false → t.rxRing r = {} ∧ ∀ q, q ≠ r → t.rxRing q = b.rxRing q) := by
  intro a t
  obtain ⟨c, hc⟩ : ∃ c, b.storeReg w a v = c := ⟨_, rfl⟩
  obtain ⟨hint, hregs, htx, hrx⟩ := c.ringClear_tells tx r
  have cint : c.ringInt tx r = b.ringInt tx r := by rw [← hc, Block.ringInt, Block.storeReg_ringInts, ← Block.ringInt]
  have ctx (q : Nat) : c.txRing q = b.txRing q := by rw [← hc, Block.storeReg_txRing]
  have crx (q : Nat) : c.rxRing q = b.rxRing q := by rw [← hc, Block.storeReg_rxRing]
  rw [show t = c.ringClear tx r by rw [← hc], hc]
  exact ⟨by rw [hint, cint], Block.word_of_regs hregs a, fun h => ⟨(htx h).1, fun q hq => ((htx h).2 q hq).trans (ctx q)⟩,
    fun h => ⟨(hrx h).1, fun q hq => ((hrx h).2 q hq).trans (crx q)⟩⟩

/-- The frames staged for a ring, from the oldest on. -/
theorem Block.slowOf_some {b : Block} {r n : Nat} (h : b.slowOf r = some n) :
    ∃ x, b.slow[n]? = some x ∧ x.ring = r := by
  have := List.find?_some h
  cases hx : b.slow[n]? with
  | none => simp [hx] at this
  | some x =>
    simp only [hx, beq_iff_eq] at this
    exact ⟨x, rfl, this⟩

theorem Block.slowOf_none {b : Block} {r : Nat} (h : b.slowOf r = none) : ∀ x ∈ b.slow, x.ring ≠ r := by
  intro x hx e
  obtain ⟨n, hn, hget⟩ := List.mem_iff_getElem.mp hx
  have := List.find?_eq_none.mp h n (List.mem_range.mpr hn)
  simp [List.getElem?_eq_getElem hn, hget, e] at this

theorem eraseIdx_filters {α : Type} {l : List α} {n : Nat} {x : α} (h : l[n]? = some x) (p : α → Bool) (hp : p x = true) :
    (l.eraseIdx n).filter (fun y => !p y) = l.filter (fun y => !p y) ∧ ((l.eraseIdx n).filter p).length + 1 = (l.filter p).length := by
  obtain ⟨hn, hx⟩ := List.getElem?_eq_some_iff.mp h
  have hl : l = l.take n ++ x :: l.drop (n + 1) := by
    rw [← hx, ← List.drop_eq_getElem_cons hn, List.take_append_drop]
  have he := List.eraseIdx_eq_take_drop_succ l n
  rw [he]
  conv => congr
          · rhs; rw [hl]
          · rhs; rw [hl]
  simp [List.filter_append, hp]
  omega

theorem ownerIn_congr {range : Nat → Nat} (ring : Nat) {l : List Nat} (h : ∀ i ∈ l, c.word (range i) = b.word (range i)) :
    ownerIn c range ring l = ownerIn b range ring l := by
  induction l with
  | nil => rfl
  | cons i l ih =>
    rw [ownerIn, ownerIn, h i List.mem_cons_self, ih fun j hj => h j (List.mem_cons_of_mem _ hj)]

theorem Block.rxOwner_of_words (r : Nat) (h : ∀ i, i < 256 → c.word (R.INS_RX_RANGE i) = b.word (R.INS_RX_RANGE i)) : c.rxOwner r = b.rxOwner r := by
  refine ownerIn_congr r fun i hi => h i ?_
  simp only [List.mem_append, List.mem_map, List.mem_range, List.mem_singleton] at hi
  omega

/-- A receive ring that stops, none of whose staged frames has a buffer written: they are dropped, and counted. -/
theorem Block.stopStaged_tells {r i : Nat} (fuel : Nat) (b : Block) (owner : b.rxOwner r = some i) (unwritten : ∀ h ∈ b.slow, h.ring = r → h.written = [])
    (enough : (b.slow.filter fun h => h.ring == r).length ≤ fuel) :
    let t := b.stopStaged r fuel
    t.slow = b.slow.filter (fun h => h.ring != r) ∧
    t.ctr R.HIF_RING_DISABLED_DROP = (b.ctr R.HIF_RING_DISABLED_DROP + (b.slow.filter fun h => h.ring == r).length) % 2 ^ 64 ∧ t.regs = b.regs := by
  have hself (b : Block) (h : ∀ x ∈ b.slow, x.ring ≠ r) :
      b.slow = b.slow.filter (fun h => h.ring != r) ∧
      b.ctr R.HIF_RING_DISABLED_DROP = (b.ctr R.HIF_RING_DISABLED_DROP + (b.slow.filter fun h => h.ring == r).length) % 2 ^ 64 := by
    have hnone : b.slow.filter (fun h => h.ring == r) = [] := List.filter_eq_nil_iff.mpr fun x hx e => h x hx (beq_iff_eq.mp e)
    have hall : b.slow.filter (fun h => h.ring != r) = b.slow := List.filter_eq_self.mpr fun x hx => by simpa using h x hx
    rw [hnone, hall]
    exact ⟨rfl, (Nat.mod_eq_of_lt (SMap.get 0 b.ctrs R.HIF_RING_DISABLED_DROP).isLt).symm⟩
  induction fuel generalizing b with
  | zero =>
    intro t
    have hnone := List.filter_eq_nil_iff.mp (List.length_eq_zero_iff.mp (Nat.le_zero.mp enough))
    obtain ⟨hslow, hctr⟩ := hself b fun x hx e => hnone x hx (by simp [e])
    exact ⟨hslow, hctr, rfl⟩
  | succ fuel ih =>
    intro t
    cases hfirst : b.slowOf r with
    | none =>
      have ht : t = b := by rw [show t = b.stopStaged r (fuel + 1) from rfl, Block.stopStaged, hfirst]
      obtain ⟨hslow, hctr⟩ := hself b (Block.slowOf_none hfirst)
      rw [ht]
      exact ⟨hslow, hctr, rfl⟩
    | some n =>
      obtain ⟨x, hx, hring⟩ := Block.slowOf_some hfirst
      have hmem : x ∈ b.slow := List.mem_of_getElem? hx
      obtain ⟨c, hc⟩ : ∃ c, (b.dropSlow n).count R.HIF_RING_DISABLED_DROP 1 = c := ⟨_, rfl⟩
      have ht : t = c.stopStaged r fuel := by
        rw [show t = b.stopStaged r (fuel + 1) from rfl, Block.stopStaged, hfirst]
        dsimp only
        rw [hx, owner]
        dsimp only
        rw [unwritten x hmem hring, ← hc]
        rfl
      have hcslow : c.slow = b.slow.eraseIdx n := by rw [← hc, Block.count_slow]; rfl
      have hcregs : c.regs = b.regs := by rw [← hc, Block.count_regs]; rfl
      have hrun : (b.dropSlow n).stopped R.HIF_RING_DISABLED_DROP = false := by rw [Block.stopped, show freezer R.HIF_RING_DISABLED_DROP = none by decide]
      have hcctr : c.ctr R.HIF_RING_DISABLED_DROP = (b.ctr R.HIF_RING_DISABLED_DROP + 1) % 2 ^ 64 := by rw [← hc, Block.ctr_count_same _ _ _ hrun]; rfl
      obtain ⟨hothers, hcount⟩ := eraseIdx_filters hx (fun h => h.ring == r) (by simp [hring])
      obtain ⟨hslow, hctr, hregs⟩ := ih c (by rw [Block.rxOwner_of_words r fun i _ => Block.word_of_regs hcregs _, owner])
        (fun h hh => unwritten h (List.mem_of_mem_eraseIdx (hcslow ▸ hh))) (by rw [hcslow]; omega)
      rw [ht]
      refine ⟨?_, ?_, hregs.trans hcregs⟩
      · rw [hslow, hcslow]
        exact hothers
      · rw [hctr, hcctr, hcslow, ← hcount]
        omega

theorem Block.ringDisable_rx (b : Block) (w : Writer) {r i : Nat} (v : Nat) (owner : b.rxOwner r = some i)
    (unwritten : ∀ h ∈ b.slow, h.ring = r → h.written = []) :
    let t := b.ringDisable w false r v
    t.slow = b.slow.filter (fun h => h.ring != r) ∧
    t.ctr R.HIF_RING_DISABLED_DROP = (b.ctr R.HIF_RING_DISABLED_DROP + (b.slow.filter fun h => h.ring == r).length) % 2 ^ 64 ∧
    t.regs = (b.storeReg w (R.HIF_RXR_CFG r) (F.HIF_TXR_CFG_ENABLE.put v 0)).regs := by
  intro t
  obtain ⟨c, hc⟩ : ∃ c, b.storeReg w (R.HIF_RXR_CFG r) (F.HIF_TXR_CFG_ENABLE.put v 0) = c := ⟨_, rfl⟩
  have hslow : c.slow = b.slow := by rw [← hc, Block.storeReg_slow]
  have hctr : c.ctr R.HIF_RING_DISABLED_DROP = b.ctr R.HIF_RING_DISABLED_DROP := by rw [← hc, Block.storeReg_ctr]
  have howner : c.rxOwner r = some i := by
    rw [Block.rxOwner_of_words r fun i hi => ?_, owner]
    rw [← hc, Block.word_storeReg_other _ _ _ (by unfold R.INS_RX_RANGE insBase R.HIF_RXR_CFG hifBase; omega)]
  obtain ⟨tslow, tctr, tregs⟩ := Block.stopStaged_tells c.slow.length c howner (by rw [hslow]; exact unwritten) (List.length_filter_le _ _)
  rw [hslow, hctr] at tctr
  rw [hslow] at tslow
  have ht : t = c.stopStaged r c.slow.length := by rw [← hc]; rfl
  rw [ht, hslow]
  rw [hslow] at tregs
  exact ⟨tslow, tctr, tregs.trans (by rw [hc])⟩

/-- Settles O35: the writes of an instance, then those of the rings' CFG registers. -/
theorem doorbellsAndRingEnables : Obligations.DoorbellsAndRingEnables := by
  unfold Obligations.DoorbellsAndRingEnables
  refine ⟨fun b i j k v hreach => ?_, fun b w r v hreach => ?_⟩
  · have htx : Takes (.txDoorbell i j v) b (b.txDoorbell i j.toNat v.toNat) := takes_of_inst hreach fun _ => rfl
    have hrx : Takes (.rxDoorbell i j v) b (b.rxDoorbell i j.toNat v.toNat) := takes_of_inst hreach fun _ => rfl
    have hpool : Takes (.poolTail i k v) b (b.poolTail i k v.toNat) := takes_of_inst hreach fun _ => rfl
    refine ⟨fun none => takes_congr htx ?_, fun none => takes_congr hrx ?_, fun r mine deaf => takes_congr htx ?_, fun r mine deaf => takes_congr hrx ?_,
      fun r mine heard => ⟨fun beyond => takes_congr htx ?_, fun inside => Takes.to (takes_congr htx ?_) (b.txHeard_tells i j.toNat r inside)⟩,
      fun r mine heard => Takes.to (takes_congr hrx ?_) (b.rxHeard_tells i r _), fun deaf => takes_congr hpool (b.layWrite_deaf _ deaf),
      fun heard => Takes.to (takes_congr hpool (b.layWrite_heard _ heard)) (b.poolHeard_tells i k (by omega))⟩
    · rw [Block.txDoorbell, none]
      rfl
    · rw [Block.rxDoorbell, none]
      rfl
    · rw [b.txDoorbell_mine _ mine]
      exact b.layWrite_deaf _ deaf
    · rw [b.rxDoorbell_mine _ mine]
      exact b.layWrite_deaf _ deaf
    · rw [b.txDoorbell_mine _ mine]
      exact (b.layWrite_heard _ heard).trans (if_pos beyond)
    · rw [b.txDoorbell_mine _ mine]
      exact b.layWrite_heard _ heard
    · rw [b.rxDoorbell_mine _ mine]
      exact b.layWrite_heard _ heard
  · have hen (tx : Bool) : Takes (.ringEnable w tx r v) b (b.ringEnable w tx r.toNat v.toNat) := takes_of_write hreach fun _ => rfl
    have hdis (tx : Bool) : Takes (.ringDisable w tx r v) b (b.ringDisable w tx r.toNat v.toNat) := takes_of_write hreach fun _ => rfl
    obtain ⟨txBad, txGood⟩ := b.ringEnable_eq w true r.toNat v.toNat
    obtain ⟨rxBad, rxGood⟩ := b.ringEnable_eq w false r.toNat v.toNat
    obtain ⟨txInt, txWord, txRing, -⟩ := b.ringEnable_tells w true r.toNat (F.HIF_TXR_CFG_ENABLE.put v.toNat 1)
    obtain ⟨rxInt, rxWord, -, rxRing⟩ := b.ringEnable_tells w false r.toNat (F.HIF_TXR_CFG_ENABLE.put v.toNat 1)
    exact ⟨fun bad => takes_congr (hen true) (txBad bad), fun bad => takes_congr (hen false) (rxBad bad),
      fun good aligned => Takes.to (takes_congr (hen true) (txGood good aligned)) ⟨(txRing rfl).1, txInt, txWord, (txRing rfl).2⟩,
      fun good aligned => Takes.to (takes_congr (hen false) (rxGood good aligned)) ⟨(rxRing rfl).1, rxInt, rxWord, (rxRing rfl).2⟩,
      hdis true, fun i owner unwritten => (hdis false).to (b.ringDisable_rx w v.toNat owner unwritten)⟩

end Sys2Proof.Machine
end

section
/-!
PROOFS. Ring interrupts, device causes and mailboxes (R380, R399, R400); and O36 from these.
-/
namespace Sys2Proof.Machine
open Sys2Proof

variable {b c d : Block}

/-! ## Messages (R374, R399) -/

theorem Block.msix_masked (b : Block) {i vec : Nat} (shut : b.msixOpen i vec = false) (on : (b.inst i).msixEn = true) :
    b.msix i vec = b.modInst i fun x => { x with msixPend := x.msixPend ||| 2 ^ vec } := by
  unfold Block.msix
  rw [if_neg (by simp [shut]), if_pos on]

theorem Block.msix_insts (b : Block) {i vec : Nat} (h : b.msixOpen i vec = true ∨ (b.inst i).msixEn = false) : (b.msix i vec).insts = b.insts := by
  unfold Block.msix
  by_cases out : b.msixOpen i vec = true
  · rw [if_pos out, Block.pmc_insts]
    rfl
  · rw [if_neg out, if_neg (by simp [h.resolve_left out])]

/-- What a message reads of the block: MSI-X of its function, and the vector's mask. -/
theorem Block.msixOpen_congr {i vec : Nat} (hinst : c.inst i = b.inst i) (hctl : c.regs = b.regs ∨ SMap.get 0 c.regs (vectorCtl i vec) = SMap.get 0 b.regs (vectorCtl i vec)) :
    c.msixOpen i vec = b.msixOpen i vec := by
  have : c.vecMasked i vec = b.vecMasked i vec := by
    unfold Block.vecMasked
    rcases hctl with h | h
    · rw [h]
    · rw [h]
  rw [Block.msixOpen, Block.msixOpen, hinst, this]

/-- Blocks that a message reads alike send it alike. -/
theorem Block.msix_alike {i vec : Nat} (hinsts : c.insts = b.insts)
    (hctl : c.regs = b.regs ∨ SMap.get 0 c.regs (vectorCtl i vec) = SMap.get 0 b.regs (vectorCtl i vec)) (hout : c.out = b.out) :
    (c.msix i vec).out = (b.msix i vec).out ∧ (c.msix i vec).insts = (b.msix i vec).insts := by
  have hinst : c.inst i = b.inst i := by rw [Block.inst, hinsts, ← Block.inst]
  have hopen := Block.msixOpen_congr hinst hctl
  refine ⟨by rw [Block.msix_out, Block.msix_out, hopen, hout], ?_⟩
  by_cases h : b.msixOpen i vec = true ∨ (b.inst i).msixEn = false
  · rw [b.msix_insts h, c.msix_insts (by rw [hopen, hinst]; exact h), hinsts]
  · rw [not_or, Bool.not_eq_true, Bool.not_eq_false] at h
    rw [b.msix_masked h.1 h.2, c.msix_masked (hopen.trans h.1) (by rw [hinst]; exact h.2)]
    rw [Block.modInst, Block.modInst, hinsts]

/-! ## Ring interrupts (R399) -/

/-- Whether ring r of instance i sends its message now. -/
def Block.ringSends (b : Block) (x : RingInt) (i : Nat) : Prop :=
  x.arm = true ∧ F.LAY_RXINT_EN.of x.reg = 1 ∧ F.LAY_RXINT_VECTOR.of x.reg < b.vectors i ∧ x.due b.ticks = true

theorem Block.ringTry_quiet (b : Block) {tx : Bool} {i r : Nat} (h : ¬ b.ringSends (b.ringInt tx r) i) : b.ringTry tx i r = b := by
  refine if_neg fun e => h ?_
  simp only [Bool.and_eq_true, beq_iff_eq, decide_eq_true_eq] at e
  obtain ⟨⟨⟨harm, hen⟩, hvec⟩, hdue⟩ := e
  exact ⟨harm, hen, hvec, hdue⟩

theorem Block.ringTry_sends (b : Block) {tx : Bool} {i r : Nat} (h : b.ringSends (b.ringInt tx r) i) :
    let vec := F.LAY_RXINT_VECTOR.of (b.ringInt tx r).reg
    let t := b.ringTry tx i r
    t.ringInt tx r = { reg := F.LAY_RXINT_ARM.put (b.ringInt tx r).reg 0 } ∧ t.out = (b.msix i vec).out ∧ t.insts = (b.msix i vec).insts ∧ t.regs = b.regs := by
  intro vec t
  obtain ⟨harm, hen, hvec, hdue⟩ := h
  obtain ⟨c, hc⟩ : ∃ c, b.modRingInt tx r (fun x => { reg := F.LAY_RXINT_ARM.put x.reg 0 }) = c := ⟨_, rfl⟩
  have ht : t = c.msix i vec := by
    rw [← hc, show t = b.ringTry tx i r from rfl, Block.ringTry]
    rw [if_pos (by simp [harm, hen, hdue, hvec])]
  have honly : c = { b with ringInts := c.ringInts } := by rw [← hc, Block.modRingInt]
  have hregs : c.regs = b.regs := by rw [honly]
  obtain ⟨hout, hinsts⟩ := Block.msix_alike (b := b) (c := c) (i := i) (vec := vec) (by rw [honly]) (.inl hregs) (by rw [honly])
  rw [ht]
  refine ⟨?_, hout, hinsts, by rw [Block.msix_regs, hregs]⟩
  rw [Block.ringInt, Block.msix_ringInts, ← Block.ringInt, ← hc, Block.ringInt_modRingInt]

/-- The fields of an interrupt register, but for ARM, as a number. -/
def intRest (v : Nat) : Nat :=
  F.LAY_RXINT_EN.of v * 2 ^ 30 + F.LAY_RXINT_VECTOR.of v * 2 ^ 16 + F.LAY_RXINT_COUNT.of v * 2 ^ 8 + F.LAY_RXINT_TIMER.of v

theorem intRest_fields (v : Nat) {a : Nat} (ha : a < 2) :
    F.LAY_RXINT_ARM.of (a * 2 ^ 31 + intRest v) = a ∧ F.LAY_RXINT_EN.of (a * 2 ^ 31 + intRest v) = F.LAY_RXINT_EN.of v ∧
    F.LAY_RXINT_VECTOR.of (a * 2 ^ 31 + intRest v) = F.LAY_RXINT_VECTOR.of v ∧ F.LAY_RXINT_ARM.put (a * 2 ^ 31 + intRest v) 0 = intRest v := by
  have hen := F.LAY_RXINT_EN.of_lt v
  have hvec := F.LAY_RXINT_VECTOR.of_lt v
  have hcount := F.LAY_RXINT_COUNT.of_lt v
  have htimer := F.LAY_RXINT_TIMER.of_lt v
  rw [Bf.put_eq]
  unfold intRest
  generalize F.LAY_RXINT_EN.of v = en at *
  generalize F.LAY_RXINT_VECTOR.of v = vec at *
  generalize F.LAY_RXINT_COUNT.of v = ct at *
  generalize F.LAY_RXINT_TIMER.of v = tm at *
  simp only [Bf.of, F.LAY_RXINT_ARM, F.LAY_RXINT_EN, F.LAY_RXINT_VECTOR, F.LAY_RXINT_COUNT, F.LAY_RXINT_TIMER] at *
  omega

theorem intRest_low (v : Nat) : F.LAY_RXINT_EN.of v * 2 ^ 30 + F.LAY_RXINT_VECTOR.of v * 2 ^ 16 + v % 2 ^ 16 = intRest v := by
  unfold intRest F.LAY_RXINT_COUNT F.LAY_RXINT_TIMER Bf.of
  dsimp only
  omega

/-- An interrupt register as a write of v leaves it: a 1 in ARM arms it, and completions count from then on. -/
def RingInt.written (x : RingInt) (v : Nat) : RingInt :=
  if x.arm then { x with reg := 2 ^ 31 + intRest v } else { reg := F.LAY_RXINT_ARM.of v * 2 ^ 31 + intRest v }

theorem RingInt.written_fields (x : RingInt) (v : Nat) :
    F.LAY_RXINT_EN.of (x.written v).reg = F.LAY_RXINT_EN.of v ∧ F.LAY_RXINT_VECTOR.of (x.written v).reg = F.LAY_RXINT_VECTOR.of v ∧
    ((x.written v).arm = true → F.LAY_RXINT_ARM.put (x.written v).reg 0 = intRest v) := by
  obtain ⟨a, ha, hreg⟩ : ∃ a, a < 2 ∧ (x.written v).reg = a * 2 ^ 31 + intRest v := by
    unfold RingInt.written
    by_cases h : x.arm = true
    · rw [if_pos h]
      exact ⟨1, by decide, by rw [Nat.one_mul]⟩
    · rw [if_neg h]
      exact ⟨F.LAY_RXINT_ARM.of v, F.LAY_RXINT_ARM.of_lt v, rfl⟩
  obtain ⟨-, hen, hvec, hput⟩ := intRest_fields v ha
  rw [hreg]
  exact ⟨hen, hvec, fun _ => hput⟩

theorem RingInt.written_eq (x : RingInt) (v : Nat) :
    (if x.arm then { x with reg := 2 ^ 31 + (F.LAY_RXINT_EN.of v * 2 ^ 30 + F.LAY_RXINT_VECTOR.of v * 2 ^ 16 + v % 2 ^ 16) }
      else { reg := b2n (F.LAY_RXINT_ARM.of v == 1) * 2 ^ 31 + (F.LAY_RXINT_EN.of v * 2 ^ 30 + F.LAY_RXINT_VECTOR.of v * 2 ^ 16 + v % 2 ^ 16) } : RingInt) =
      x.written v := by
  have hbit : b2n (F.LAY_RXINT_ARM.of v == 1) = F.LAY_RXINT_ARM.of v := by
    have h : F.LAY_RXINT_ARM.of v < 2 := F.LAY_RXINT_ARM.of_lt v
    obtain h | h : F.LAY_RXINT_ARM.of v = 0 ∨ F.LAY_RXINT_ARM.of v = 1 := by omega
    · rw [h]; rfl
    · rw [h]; rfl
  rw [intRest_low, hbit]
  rfl

/-- The write of an interrupt register, before its message is tried. -/
def Block.intWritten (b : Block) (tx : Bool) (i j r v : Nat) : Block :=
  let c := b.modRingInt tx r fun x => x.written v
  if F.LAY_RXINT_VECTOR.of v ≥ c.vectors i then c.notMine i (if tx then R.LAY_TXINT i j else R.LAY_RXINT i j) else c

theorem Block.ringIntArm_mine (b : Block) {tx : Bool} {i j r : Nat} (v : Nat) (mine : b.ringOf tx i j = some r) :
    b.ringIntArm tx i j v = b.layWrite i fun b => (b.intWritten tx i j r v).ringTry tx i r := by
  have hwritten : (fun x : RingInt => x.written v) = fun x =>
      if x.arm then { x with reg := 2 ^ 31 + (F.LAY_RXINT_EN.of v * 2 ^ 30 + F.LAY_RXINT_VECTOR.of v * 2 ^ 16 + v % 2 ^ 16) }
      else { reg := b2n (F.LAY_RXINT_ARM.of v == 1) * 2 ^ 31 + (F.LAY_RXINT_EN.of v * 2 ^ 30 + F.LAY_RXINT_VECTOR.of v * 2 ^ 16 + v % 2 ^ 16) } :=
    funext fun x => (x.written_eq v).symm
  unfold Block.ringIntArm Block.intWritten
  rw [mine, hwritten]

/-- An access fault does not read the rings' interrupts. -/
theorem Block.accessFault_with_ringInts (b : Block) (m : SMap RingInt) (req acc : Nat) (w : Bool) (off : Nat) :
    ({ b with ringInts := m } : Block).accessFault req acc w off = { b.accessFault req acc w off with ringInts := m } := by
  unfold Block.accessFault Block.sendLimited
  dsimp only
  split <;> rfl

theorem Block.ringIntArm_tells (b : Block) (tx : Bool) (i j r v : Nat) :
    let x := b.ringInt tx r
    let y := x.written v
    let vec := F.LAY_RXINT_VECTOR.of v
    let sends := y.arm = true ∧ F.LAY_RXINT_EN.of v = 1 ∧ y.due b.ticks = true
    let t := (b.intWritten tx i j r v).ringTry tx i r
    (vec < b.vectors i → ¬ sends → t.ringInt tx r = y ∧ t = { b with ringInts := t.ringInts } ∧
      ∀ k, k ≠ ringKey tx r → SMap.get {} t.ringInts k = SMap.get {} b.ringInts k) ∧
    (vec < b.vectors i → sends → t.ringInt tx r = { reg := intRest v } ∧ t.out = (b.msix i vec).out ∧ t.insts = (b.msix i vec).insts ∧ t.regs = b.regs) ∧
    (b.vectors i ≤ vec → t.ringInt tx r = y ∧
      t = { b.accessFault i 1 true (viewOff (if tx then R.LAY_TXINT i j else R.LAY_RXINT i j)) with ringInts := t.ringInts }) := by
  intro x y vec sends t
  obtain ⟨hen, hvec, hput⟩ := x.written_fields v
  obtain ⟨c, hc⟩ : ∃ c, b.modRingInt tx r (fun x => x.written v) = c := ⟨_, rfl⟩
  have honly : c = { b with ringInts := c.ringInts } := by rw [← hc, Block.modRingInt]
  have hint : c.ringInt tx r = y := by rw [← hc, Block.ringInt_modRingInt]
  have hvectors : c.vectors i = b.vectors i := by rw [honly]; rfl
  have hothers (k : Nat) (hk : k ≠ ringKey tx r) : SMap.get {} c.ringInts k = SMap.get {} b.ringInts k := by
    rw [← hc, Block.modRingInt, SMap.get_mod, if_neg hk]
  have hticks : c.ticks = b.ticks := by rw [honly]
  have hw : b.intWritten tx i j r v = if vec ≥ c.vectors i then c.notMine i (if tx then R.LAY_TXINT i j else R.LAY_RXINT i j) else c := by
    rw [← hc]
    rfl
  have ht : t = (b.intWritten tx i j r v).ringTry tx i r := rfl
  rw [hw, hvectors] at ht
  clear_value t
  refine ⟨fun inside quiet => ?_, fun inside on => ?_, fun beyond => ?_⟩
  · rw [if_neg (not_le.mpr inside), c.ringTry_quiet fun h => quiet ?_] at ht
    · rw [ht]
      exact ⟨hint, honly, hothers⟩
    · obtain ⟨harm, hon, -, hdue⟩ := h
      rw [hint] at harm hon hdue
      exact ⟨harm, hen.symm.trans hon, hticks ▸ hdue⟩
  · obtain ⟨harm, hon, hdue⟩ := on
    obtain ⟨htInt, htOut, htInsts, htRegs⟩ := c.ringTry_sends (tx := tx) (i := i) (r := r) (by
      rw [hint]
      exact ⟨harm, hen.trans hon, by rw [hvec, hvectors]; exact inside, by rw [hticks]; exact hdue⟩)
    obtain ⟨hout, hinsts⟩ := Block.msix_alike (b := b) (c := c) (i := i) (vec := vec) (by rw [honly]) (.inl (by rw [honly])) (by rw [honly])
    rw [hint] at htInt htOut htInsts
    rw [if_neg (not_le.mpr inside)] at ht
    rw [ht]
    refine ⟨htInt.trans ?_, htOut.trans ?_, htInsts.trans ?_, htRegs.trans (by rw [honly])⟩
    · rw [hput harm]
    · rw [hvec, hout]
    · rw [hvec, hinsts]
  · obtain ⟨e, he⟩ : ∃ e, c.notMine i (if tx then R.LAY_TXINT i j else R.LAY_RXINT i j) = e := ⟨_, rfl⟩
    have heq : e = { b.accessFault i 1 true (viewOff (if tx then R.LAY_TXINT i j else R.LAY_RXINT i j)) with ringInts := c.ringInts } := by
      rw [← he, Block.notMine, honly, Block.accessFault_with_ringInts]
    have heint : e.ringInt tx r = y := by
      rw [← hint, heq]
      rfl
    have hevectors : e.vectors i = b.vectors i := by
      rw [heq, Block.accessFault_only]
      rfl
    rw [if_pos beyond, he, e.ringTry_quiet fun h => ?_] at ht
    · rw [ht]
      refine ⟨heint, ?_⟩
      rw [heq]
    · obtain ⟨-, -, hlt, -⟩ := h
      rw [heint, hvec, hevectors] at hlt
      omega

theorem RingInt.due_iff (x : RingInt) (now : Nat) :
    x.due now = true ↔ 0 < x.done ∧ (F.LAY_RXINT_COUNT.of x.reg ≤ x.done ∨
      ∃ f, x.first = some f ∧ f + F.LAY_RXINT_TIMER.of x.reg * 1000 ≤ now) := by
  unfold RingInt.due
  cases x.first <;> simp

/-! ## Device causes (R400) -/

theorem Block.int0Ack_none (b : Block) {v : Nat} (h : ∀ n, n < 10 → bitOf v n = true → b.causePending n = false) : b.int0Ack v = b := by
  refine b.each_id fun n hn => if_neg fun e => ?_
  obtain ⟨hbit, hpending⟩ := (Bool.and_eq_true _ _).mp e
  rw [h n hn hbit] at hpending
  cases hpending

theorem Block.int0Ack_one (b : Block) {n : Nat} (hn : n < 10) (pending : b.causePending n = true) : b.int0Ack (2 ^ n) = b.sendCause n := by
  have other (c : Block) (j : Nat) (hj : j ≠ n) : (if bitOf (2 ^ n) j && c.causePending j then c.sendCause j else c) = c := by
    rw [bitOf_two_pow, decide_eq_false (Ne.symm hj)]
    rfl
  refine Block.each_turn hn (I := fun c => c = b) (P := fun c => c = b.sendCause n) rfl (fun c j hj h => ?_) (fun c h => ?_) fun c j hj _ h => ?_
  · rw [other c j (by omega), h]
  · rw [h, bitOf_two_pow, pending]
    simp
  · rw [other c j (by omega), h]

/-! ## Mailboxes (R380) -/

theorem SMap.any_put {α : Type} (m : SMap α) {i : Nat} (v : α) {p : Nat → Bool} (q : α → Bool) (h : p i = false) :
    (SMap.put m i v).any (fun e => p e.1 && q e.2) = m.any fun e => p e.1 && q e.2 := by
  induction m with
  | nil => simp [SMap.put, h]
  | cons e m ih =>
    obtain ⟨k, w⟩ := e
    unfold SMap.put
    split
    · simp [h]
    · split
      · next same => simp [← same, h]
      · rw [List.any_cons, List.any_cons, ih]

theorem SMap.any_del {α : Type} (m : SMap α) {i : Nat} {p : Nat → Bool} (q : α → Bool) (h : p i = false) :
    (SMap.del m i).any (fun e => p e.1 && q e.2) = m.any fun e => p e.1 && q e.2 := by
  unfold SMap.del
  rw [List.any_filter]
  congr 1
  funext e
  by_cases same : e.1 = i
  · simp [same, h]
  · simp [same]

/-- A register apart from a set of registers does not tell whether one of them has a bit of m. -/
theorem Block.anySet_setWord (b : Block) {a : Nat} (v : Nat) {p : Nat → Bool} (m : Nat) (h : p a = false) : (b.setWord a v).anySet p m = b.anySet p m := by
  unfold Block.anySet Block.setWord SMap.set
  dsimp only
  split
  · exact SMap.any_del b.regs (fun v => v.toNat &&& m != 0) h
  · exact SMap.any_put b.regs _ (fun v => v.toNat &&& m != 0) h

/-- One of a set of registers that has a bit of m, where they reset to 0. -/
theorem Block.anySet_of_word (b : Block) {a : Nat} {p : Nat → Bool} {m : Nat} (hp : p a = true) (reset : resetWord a = 0) (h : b.word a &&& m ≠ 0) :
    b.anySet p m = true := by
  rw [Block.anySet, List.any_eq_true]
  unfold Block.word at h
  cases hfind : SMap.find b.regs a with
  | none =>
    rw [hfind] at h
    dsimp only at h
    rw [reset, Nat.zero_and] at h
    exact absurd rfl h
  | some v =>
    rw [hfind] at h
    exact ⟨(a, v), SMap.mem_of_find hfind, by simpa [hp] using h⟩

/-- Every register but a is listed as it was. -/
theorem Block.find_setWord_other (b : Block) {a x : Nat} (v : Nat) (h : x ≠ a) : SMap.find (b.setWord a v).regs x = SMap.find b.regs x := by
  rw [Block.setWord, SMap.find_set, if_neg h]

theorem Block.word_of_find {a : Nat} (h : SMap.find c.regs a = SMap.find b.regs a) : c.word a = b.word a := by rw [Block.word, h, Block.word]

theorem SMap.get_of_finds {α : Type} {m n : SMap α} {a : Nat} (dflt : α) (h : SMap.find m a = SMap.find n a) : SMap.get dflt m a = SMap.get dflt n a := by
  cases hn : SMap.find n a with
  | none => rw [SMap.get_of_find_none hn, SMap.get_of_find_none (h.trans hn)]
  | some v => rw [SMap.get_of_find hn, SMap.get_of_find (h.trans hn)]

/-- Words copied to other places, one after the other. -/
theorem Block.copied_tells (b : Block) {n : Nat} {src dst : Nat → Nat} (apart : ∀ j k, j < n → k < n → src j ≠ dst k) (inj : ∀ j k, j ≠ k → dst j ≠ dst k) :
    let t := b.each n fun b k => b.setWord (dst k) (b.word (src k))
    (∀ k, k < n → t.word (dst k) = b.word (src k)) ∧ (∀ a, (∀ k, k < n → a ≠ dst k) → SMap.find t.regs a = SMap.find b.regs a) ∧ b.OnRegs t ∧
    ∀ p m, (∀ k, k < n → p (dst k) = false) → t.anySet p m = b.anySet p m := by
  intro t
  refine ⟨fun k hk => ?_, fun a ha => ?_, Block.each_inv (P := b.OnRegs) (.refl b) fun c k _ h => h.setWord _ _, fun p m hp => ?_⟩
  · refine Block.each_turn hk (I := fun c => c.word (src k) = b.word (src k)) (P := fun t => t.word (dst k) = b.word (src k)) rfl (fun c j hj h => ?_)
      (fun c h => ?_) fun c j hj _ h => ?_
    · rw [Block.word_setWord_other _ _ (apart k j hk (by omega)), h]
    · rw [Block.word_setWord_same, h, Nat.mod_eq_of_lt (b.word_lt _)]
    · rw [Block.word_setWord_other _ _ (inj k j (by omega)), h]
  · refine Block.each_inv (P := fun c => SMap.find c.regs a = SMap.find b.regs a) rfl fun c k hk h => ?_
    rw [Block.find_setWord_other _ _ (ha k hk), h]
  · refine Block.each_inv (P := fun c => c.anySet p m = b.anySet p m) rfl fun c k hk h => ?_
    rw [Block.anySet_setWord _ _ _ (hp k hk), h]

theorem Block.insVector_alike {i a : Nat} (hinsts : c.insts = b.insts) (hout : c.out = b.out) (hvec : c.word a = b.word a)
    (hvectors : c.vectors i = b.vectors i) (hctl : ∀ vec, SMap.find c.regs (vectorCtl i vec) = SMap.find b.regs (vectorCtl i vec)) :
    (c.insVector i a).out = (let vec := b.word a % 64; if vec < b.vectors i then (b.msix i vec).out else b.out) ∧
    (c.insVector i a).regs = c.regs := by
  unfold Block.insVector
  rw [hvec, hvectors]
  dsimp only
  by_cases h : b.word a % 64 < b.vectors i
  · rw [if_pos h, if_pos h]
    exact ⟨(Block.msix_alike hinsts (.inr (SMap.get_of_finds 0 (hctl _))) hout).1, Block.msix_regs _ _ _⟩
  · rw [if_neg h, if_neg h]
    exact ⟨hout, rfl⟩

theorem findReg_mboxCtrl {i : Nat} (hi : i < 256) :
    findReg (R.INS_MBOX_CTRL i) = some ⟨.ins, i, 0x380, reg1 0x380 [⟨31, 31, .wo, 0⟩, ⟨1, 1, .w1c, 0⟩, ⟨0, 0, .ro, 0⟩], 0, 0, 0⟩ :=
  findReg_base rfl hi (by decide) (by decide)

theorem findReg_layMboxCtrl {i : Nat} (hi : i < 256) :
    findReg (R.LAY_MBOX_CTRL i) = some ⟨.lay, i, 0xA00C0, reg1 0xA00C0 [⟨31, 31, .wo, 0⟩, ⟨1, 1, .w1c, 0⟩, ⟨0, 0, .ro, 0⟩], 0, 0, 0⟩ :=
  findReg_base rfl hi (by decide) (by decide)

theorem Block.mboxToVf_busy (b : Block) (w : Writer) {i v : Nat} (send : F.INS_MBOX_CTRL_SEND.of v = 1)
    (pending : b.flag (R.LAY_MBOX_CTRL i) F.LAY_MBOX_CTRL_FROM_PF_PENDING = true) :
    b.mboxToVf w i v = (b.storeReg w (R.INS_MBOX_CTRL i) v).refuse w (R.INS_MBOX_CTRL i) := by
  have hflag : (b.storeReg w (R.INS_MBOX_CTRL i) v).flag (R.LAY_MBOX_CTRL i) F.LAY_MBOX_CTRL_FROM_PF_PENDING = true := by
    rw [Block.flag, Block.fld_of_word (Block.word_storeReg_other _ _ _ ?_), ← Block.flag, pending]
    unfold R.LAY_MBOX_CTRL layBase R.INS_MBOX_CTRL insBase
    omega
  have hsend : ¬ (F.INS_MBOX_CTRL_SEND.of v == 0) = true := by simp [send]
  exact (if_neg hsend).trans ((if_neg hsend).trans (if_pos hflag))

theorem Block.mboxToVf_sends (b : Block) (w : Writer) {i v : Nat} (hi : i < 256) (send : F.INS_MBOX_CTRL_SEND.of v = 1)
    (idle : b.flag (R.LAY_MBOX_CTRL i) F.LAY_MBOX_CTRL_FROM_PF_PENDING = false) :
    let t := b.mboxToVf w i v
    t.flag (R.LAY_MBOX_CTRL i) F.LAY_MBOX_CTRL_FROM_PF_PENDING = true ∧ (∀ k, k < 16 → t.word (R.LAY_MBOX_FROM_PF i k) = b.word (R.INS_MBOX_TO_VF i k)) ∧
    t.out = let vec := b.word (R.LAY_MBOX_VEC i) % 64; if vec < b.vectors i then (b.msix i vec).out else b.out := by
  intro t
  obtain ⟨u, hu⟩ : ∃ u, b.storeReg w (R.INS_MBOX_CTRL i) v = b.setWord (R.INS_MBOX_CTRL i) u := ⟨_, Block.storeReg_of_noRwl (findReg_mboxCtrl hi) rfl rfl w v⟩
  obtain ⟨c, hc⟩ : ∃ c, b.setWord (R.INS_MBOX_CTRL i) u = c := ⟨_, rfl⟩
  obtain ⟨e, he⟩ : ∃ e, (c.each 16 fun b k => b.setWord (R.LAY_MBOX_FROM_PF i k) (b.word (R.INS_MBOX_TO_VF i k))) = e := ⟨_, rfl⟩
  obtain ⟨g, hg⟩ : ∃ g, e.raise (R.LAY_MBOX_CTRL i) F.LAY_MBOX_CTRL_FROM_PF_PENDING = g := ⟨_, rfl⟩
  obtain ⟨hcopied, hfind, hregs, -⟩ := c.copied_tells (n := 16) (src := R.INS_MBOX_TO_VF i) (dst := R.LAY_MBOX_FROM_PF i)
    (fun j k hj hk => by unfold R.INS_MBOX_TO_VF R.LAY_MBOX_FROM_PF insBase layBase; omega) (fun j k h => by unfold R.LAY_MBOX_FROM_PF; omega)
  rw [he] at hcopied hfind hregs
  have hflag : c.flag (R.LAY_MBOX_CTRL i) F.LAY_MBOX_CTRL_FROM_PF_PENDING = false := by
    rw [Block.flag, ← hc, Block.fld_of_word (Block.word_setWord_other _ _ ?_), ← Block.flag, idle]
    unfold R.LAY_MBOX_CTRL layBase R.INS_MBOX_CTRL insBase
    omega
  have ht : t = g.insVector i (R.LAY_MBOX_VEC i) := by
    have hsend : ¬ (F.INS_MBOX_CTRL_SEND.of v == 0) = true := by simp [send]
    rw [← hg, ← he, show t = b.mboxToVf w i v from rfl, Block.mboxToVf, if_neg hsend, Block.mboxCtrl, hu, hc]
    dsimp only
    rw [if_neg hsend, hflag, if_neg Bool.false_ne_true]
  have hgregs : b.OnRegs g := by
    have hbc : b.OnRegs c := hc ▸ (Block.OnRegs.refl b).setWord _ _
    exact hg ▸ (hbc.trans hregs).raise _ _
  have hsame (a : Nat) (h1 : a ≠ R.INS_MBOX_CTRL i) (h2 : ∀ k, k < 16 → a ≠ R.LAY_MBOX_FROM_PF i k) (h3 : a ≠ R.LAY_MBOX_CTRL i) :
      SMap.find g.regs a = SMap.find b.regs a := by
    rw [← hg, Block.raise, Block.setFld, Block.find_setWord_other _ _ h3, hfind a h2, ← hc, Block.find_setWord_other _ _ h1]
  obtain ⟨hout, htregs⟩ := Block.insVector_alike (b := b) (c := g) (i := i) (a := R.LAY_MBOX_VEC i) (by rw [hgregs.only]) (by rw [hgregs.only])
    (Block.word_of_find (hsame _ (by unfold R.LAY_MBOX_VEC layBase R.INS_MBOX_CTRL insBase; omega)
      (fun k hk => by unfold R.LAY_MBOX_VEC R.LAY_MBOX_FROM_PF; omega) (by unfold R.LAY_MBOX_VEC R.LAY_MBOX_CTRL; omega)))
    (by
      have : g.word R.HIF_VF_VECTORS = b.word R.HIF_VF_VECTORS := Block.word_of_find (hsame _ (by unfold R.HIF_VF_VECTORS hifBase R.INS_MBOX_CTRL insBase; omega)
        (fun k hk => by unfold R.HIF_VF_VECTORS hifBase R.LAY_MBOX_FROM_PF layBase; omega) (by unfold R.HIF_VF_VECTORS hifBase R.LAY_MBOX_CTRL layBase; omega))
      rw [Block.vectors, Block.vectors, Block.fld_of_word this])
    (fun vec => hsame _ (by unfold vectorCtl layBase R.INS_MBOX_CTRL insBase; omega) (fun k hk => by unfold vectorCtl R.LAY_MBOX_FROM_PF; omega)
      (by unfold vectorCtl R.LAY_MBOX_CTRL; omega))
  have hword (a : Nat) : t.word a = g.word a := by rw [ht, Block.word_of_regs htregs]
  refine ⟨?_, fun k hk => ?_, by rw [ht, hout]⟩
  · rw [Block.flag, Block.fld_of_word (hword _), ← Block.flag, ← hg]
    exact Block.flag_raise _ _ _ (by decide) (by decide)
  · rw [hword, ← hg, Block.raise, Block.word_setFld_ne _ _ _ (by unfold R.LAY_MBOX_FROM_PF R.LAY_MBOX_CTRL; omega), hcopied k hk, ← hc,
      Block.word_setWord_other _ _ (by unfold R.INS_MBOX_TO_VF R.INS_MBOX_CTRL; omega)]

theorem resetWord_mboxCtrl {i : Nat} (hi : i < 256) : resetWord (R.INS_MBOX_CTRL i) = 0 := by
  refine resetWord_of_find fun h hit => ?_
  rw [findReg_mboxCtrl hi] at hit
  cases hit
  rfl

/-- Bit 1 of a register, as a flag and as a mask. -/
theorem and_two_of_flag {a : Nat} {f : Bf} (hhi : f.hi = 1) (hlo : f.lo = 1) (h : b.flag a f = true) : b.word a &&& 2 ≠ 0 := by
  have hbit : (b.word a).testBit 1 = true := by
    have : b.word a / 2 ^ f.lo % 2 ^ (f.hi + 1 - f.lo) = 1 := beq_iff_eq.mp h
    rw [hhi, hlo] at this
    rw [Nat.testBit_eq_decide_div_mod_eq, decide_eq_true_iff]
    exact this
  have := Nat.and_two_pow (b.word a) 1
  rw [hbit] at this
  rw [show (2 : Nat) = 2 ^ 1 from rfl, this]
  decide

/-- Whether the mailbox of a virtual function waits for the physical one (cause 8). -/
theorem Block.causePending_mbox (b : Block) : b.causePending 8 = (bitOf (b.word R.HIF_INT0_MASK) 8 && b.anySet (isInsReg 0x380) 2) := rfl

theorem Block.mboxToPf_off (b : Block) {i : Fin 256} {v : Nat} (h : F.LAY_MBOX_CTRL_SEND.of v = 0 ∨ b.resetting i = true) : b.mboxToPf i v = b := by
  unfold Block.mboxToPf
  by_cases send : (F.LAY_MBOX_CTRL_SEND.of v == 0) = true
  · exact if_pos send
  · rw [if_neg send]
    exact b.layWrite_reset _ (h.resolve_left fun e => send (beq_iff_eq.mpr e))

/-- The mailbox's write, of an instance that does not reset. -/
theorem Block.mboxToPf_live (b : Block) {i : Fin 256} {v : Nat} (send : F.LAY_MBOX_CTRL_SEND.of v = 1) (live : b.resetting i = false) {c e : Block}
    (hc : b.storeReg (.inst i) (R.LAY_MBOX_CTRL i) v = c)
    (he : (c.each 16 fun b k => b.setWord (R.INS_MBOX_FROM_VF i k) (b.word (R.LAY_MBOX_TO_PF i k))) = e) :
    (c.flag (R.INS_MBOX_CTRL i) F.INS_MBOX_CTRL_TO_PF_PENDING = true → b.mboxToPf i v = c.accessFault i 1 true (viewOff (R.LAY_MBOX_CTRL i))) ∧
    (c.flag (R.INS_MBOX_CTRL i) F.INS_MBOX_CTRL_TO_PF_PENDING = false →
      b.mboxToPf i v = e.raising 8 fun b => b.raise (R.INS_MBOX_CTRL i) F.INS_MBOX_CTRL_TO_PF_PENDING) := by
  have hsend : ¬ (F.LAY_MBOX_CTRL_SEND.of v == 0) = true := by simp [send]
  have hi : Fin.ofNat 256 i.val = i := Fin.ext (Nat.mod_eq_of_lt i.isLt)
  unfold Block.mboxToPf Block.layMboxCtrl
  rw [if_neg hsend, b.layWrite_live _ live, hi]
  dsimp only
  rw [hc, if_neg hsend, he]
  refine ⟨fun pending => ?_, fun idle => ?_⟩
  · rw [if_pos pending]
    rfl
  · rw [if_neg (by simp [idle])]

theorem Block.mboxToPf_sends (b : Block) {i : Fin 256} {v : Nat} (send : F.LAY_MBOX_CTRL_SEND.of v = 1) (live : b.resetting i = false) :
    let t := b.mboxToPf i v
    (b.flag (R.INS_MBOX_CTRL i) F.INS_MBOX_CTRL_TO_PF_PENDING = true →
      t = (b.storeReg (.inst i) (R.LAY_MBOX_CTRL i) v).accessFault i 1 true (viewOff (R.LAY_MBOX_CTRL i))) ∧
    (b.flag (R.INS_MBOX_CTRL i) F.INS_MBOX_CTRL_TO_PF_PENDING = false →
      t.flag (R.INS_MBOX_CTRL i) F.INS_MBOX_CTRL_TO_PF_PENDING = true ∧
      (∀ k, k < 16 → t.word (R.INS_MBOX_FROM_VF i k) = b.word (R.LAY_MBOX_TO_PF i k)) ∧
      (b.causePending 8 = false → bitOf (b.word R.HIF_INT0_MASK) 8 = true → t.out = (b.msix 0 (b.fld (R.HIF_INT0_VEC 8) F.HIF_INT0_VEC_V)).out)) := by
  intro t
  have hi := i.isLt
  obtain ⟨u, hu⟩ : ∃ u, b.storeReg (.inst i) (R.LAY_MBOX_CTRL i) v = b.setWord (R.LAY_MBOX_CTRL i) u :=
    ⟨_, Block.storeReg_of_noRwl (findReg_layMboxCtrl hi) rfl rfl (.inst i) v⟩
  obtain ⟨c, hc⟩ : ∃ c, b.storeReg (.inst i) (R.LAY_MBOX_CTRL i) v = c := ⟨_, rfl⟩
  obtain ⟨e, he⟩ : ∃ e, (c.each 16 fun b k => b.setWord (R.INS_MBOX_FROM_VF i k) (b.word (R.LAY_MBOX_TO_PF i k))) = e := ⟨_, rfl⟩
  obtain ⟨g, hg⟩ : ∃ g, e.raise (R.INS_MBOX_CTRL i) F.INS_MBOX_CTRL_TO_PF_PENDING = g := ⟨_, rfl⟩
  obtain ⟨hbusy, hidle⟩ := b.mboxToPf_live send live hc he
  have hcu : c = b.setWord (R.LAY_MBOX_CTRL i) u := hc.symm.trans hu
  have hcword (a : Nat) (h : a ≠ R.LAY_MBOX_CTRL i) : c.word a = b.word a := by rw [hcu, Block.word_setWord_other _ _ h]
  have hcflag : c.flag (R.INS_MBOX_CTRL i) F.INS_MBOX_CTRL_TO_PF_PENDING = b.flag (R.INS_MBOX_CTRL i) F.INS_MBOX_CTRL_TO_PF_PENDING := by
    rw [Block.flag, Block.fld_of_word (hcword _ (by unfold R.INS_MBOX_CTRL insBase R.LAY_MBOX_CTRL layBase; omega)), ← Block.flag]
  refine ⟨fun pending => (hbusy (hcflag.trans pending)).trans (by rw [hc]), fun idle => ?_⟩
  obtain ⟨hcopied, hfind, hregs, hany⟩ := c.copied_tells (n := 16) (src := R.LAY_MBOX_TO_PF i) (dst := R.INS_MBOX_FROM_VF i)
    (fun j k hj hk => by unfold R.LAY_MBOX_TO_PF R.INS_MBOX_FROM_VF insBase layBase; omega) (fun j k h => by unfold R.INS_MBOX_FROM_VF; omega)
  rw [he] at hcopied hfind hregs hany
  have ht : t = e.raising 8 fun b => b.raise (R.INS_MBOX_CTRL i) F.INS_MBOX_CTRL_TO_PF_PENDING := hidle (hcflag.trans idle)
  clear_value t
  have hword (a : Nat) : t.word a = g.word a := by rw [ht, (e.raising_tells 8 _).1 a, hg]
  refine ⟨?_, fun k hk => ?_, fun quiet mask => ?_⟩
  · rw [Block.flag, Block.fld_of_word (hword _), ← Block.flag, ← hg]
    exact Block.flag_raise _ _ _ (by decide) (by decide)
  · rw [hword, ← hg, Block.raise, Block.word_setFld_ne _ _ _ (by unfold R.INS_MBOX_FROM_VF R.INS_MBOX_CTRL; omega), hcopied k hk,
      hcword _ (by unfold R.LAY_MBOX_TO_PF R.LAY_MBOX_CTRL; omega)]
  · obtain ⟨hbc, hce⟩ : b.OnRegs c ∧ b.OnRegs e := by
      have : b.OnRegs c := hcu ▸ (Block.OnRegs.refl b).setWord _ _
      exact ⟨this, this.trans hregs⟩
    have hgregs : b.OnRegs g := hg ▸ hce.raise _ _
    have hsame (a : Nat) (h1 : a ≠ R.LAY_MBOX_CTRL i) (h2 : ∀ k, k < 16 → a ≠ R.INS_MBOX_FROM_VF i k) (h3 : a ≠ R.INS_MBOX_CTRL i) :
        SMap.find g.regs a = SMap.find b.regs a := by
      rw [← hg, Block.raise, Block.setFld, Block.find_setWord_other _ _ h3, hfind a h2, hcu, Block.find_setWord_other _ _ h1]
    have hmask : g.word R.HIF_INT0_MASK = b.word R.HIF_INT0_MASK :=
      Block.word_of_find (hsame _ (by unfold R.HIF_INT0_MASK hifBase R.LAY_MBOX_CTRL layBase; omega)
        (fun k hk => by unfold R.HIF_INT0_MASK hifBase R.INS_MBOX_FROM_VF insBase; omega) (by unfold R.HIF_INT0_MASK hifBase R.INS_MBOX_CTRL insBase; omega))
    have hevec : g.word (R.HIF_INT0_VEC 8) = b.word (R.HIF_INT0_VEC 8) :=
      Block.word_of_find (hsame _ (by unfold R.HIF_INT0_VEC hifBase R.LAY_MBOX_CTRL layBase; omega)
        (fun k hk => by unfold R.HIF_INT0_VEC hifBase R.INS_MBOX_FROM_VF insBase; omega) (by unfold R.HIF_INT0_VEC hifBase R.INS_MBOX_CTRL insBase; omega))
    have heany : e.anySet (isInsReg 0x380) 2 = b.anySet (isInsReg 0x380) 2 := by
      rw [hany _ _ fun k hk => ?_, hcu, Block.anySet_setWord _ _ _ ?_]
      · unfold isInsReg R.LAY_MBOX_CTRL layBase
        simp
        omega
      · unfold isInsReg R.INS_MBOX_FROM_VF insBase
        simp
        omega
    have hequiet : e.causePending 8 = false := by
      rw [Block.causePending_mbox, mask, Bool.true_and] at quiet
      rw [Block.causePending_mbox, heany, quiet, Bool.and_false]
    have hgpending : g.causePending 8 = true := by
      rw [Block.causePending_mbox, hmask, mask, Bool.true_and]
      refine g.anySet_of_word (a := R.INS_MBOX_CTRL i) ?_ (resetWord_mboxCtrl hi) ?_
      · unfold isInsReg R.INS_MBOX_CTRL insBase
        simp
        omega
      · refine and_two_of_flag (f := F.INS_MBOX_CTRL_TO_PF_PENDING) rfl rfl ?_
        rw [← hg]
        exact Block.flag_raise _ _ _ (by decide) (by decide)
    have hend : t = g.msix 0 (b.fld (R.HIF_INT0_VEC 8) F.HIF_INT0_VEC_V) := by
      rw [ht, Block.raising, hg]
      rw [hequiet, hgpending, if_pos (by rfl), Block.sendCause, Block.fld_of_word hevec]
    rw [hend]
    exact (Block.msix_alike (by rw [hgregs.only]) (.inr (SMap.get_of_finds 0 (hsame _ (by unfold vectorCtl R.LAY_MBOX_CTRL layBase; omega)
      (fun k hk => by unfold vectorCtl layBase R.INS_MBOX_FROM_VF insBase; omega) (by unfold vectorCtl layBase R.INS_MBOX_CTRL insBase; omega)))) (by rw [hgregs.only])).1

/-- Settles O36: ring interrupts, messages, the device causes and both mailboxes. -/
theorem interruptsAndMailboxes : Obligations.InterruptsAndMailboxes := by
  unfold Obligations.InterruptsAndMailboxes
  refine ⟨fun b tx i j v hreach => ?_, fun b i vec => ?_, fun b tx r => ?_, fun b v hreach => ?_, fun b w i v hreach => ?_, fun b i v hreach => ?_⟩
  · have h : Takes (.ringIntArm tx i j v) b (b.ringIntArm tx i j.toNat v.toNat) := takes_of_inst hreach fun _ => rfl
    refine ⟨fun none => takes_congr h ?_, fun r mine reset => takes_congr h ?_, fun r mine live => ?_⟩
    · rw [Block.ringIntArm, none]
      rfl
    · rw [b.ringIntArm_mine _ mine]
      exact b.layWrite_reset _ reset
    · obtain ⟨hquiet, hsends, hbeyond⟩ := b.ringIntArm_tells tx i j.toNat r v.toNat
      rw [b.ringIntArm_mine _ mine, b.layWrite_live _ live] at h
      exact ⟨fun inside quiet => h.to (hquiet inside quiet), fun inside on => h.to (hsends inside on), fun beyond => h.to (hbeyond beyond)⟩
  · refine ⟨b.msix_out i vec, b.msix_insts, fun shut on => ?_, b.msix_only i vec⟩
    rw [b.msix_masked shut on]
    have hinst (k : Nat) : (b.modInst i fun x => { x with msixPend := x.msixPend ||| 2 ^ vec }).inst k =
        if k = i then { b.inst i with msixPend := (b.inst i).msixPend ||| 2 ^ vec } else b.inst k :=
      Block.inst_modInst _ _ _ _
    exact ⟨by rw [hinst, if_pos rfl], fun k hk => by rw [hinst, if_neg hk]⟩
  · have h : Takes (.ringIntTimer tx r) b (b.ringIntTimer tx r.toNat) := fun _ => rfl
    refine ⟨fun none => takes_congr h ?_, fun i owner => ?_⟩
    · rw [Block.ringIntTimer, none]
    · have htry : b.ringIntTimer tx r.toNat = b.ringTry tx i r.toNat := by rw [Block.ringIntTimer, owner]
      rw [htry] at h
      refine ⟨fun quiet => takes_congr h (b.ringTry_quiet fun sends => quiet ?_), fun sends => h.to (b.ringTry_sends ?_)⟩
      · obtain ⟨harm, hen, hvec, hdue⟩ := sends
        exact ⟨(RingInt.due_iff _ _).mp hdue, harm, hen, hvec⟩
      · obtain ⟨hdue, harm, hen, hvec⟩ := sends
        exact ⟨harm, hen, hvec, (RingInt.due_iff _ _).mpr hdue⟩
  · have h : Takes (.int0Ack v) b (b.int0Ack v.toNat) := takes_of_write hreach fun _ => rfl
    refine ⟨fun none => takes_congr h (b.int0Ack_none none), fun n hn pending hv => takes_congr h ?_⟩
    rw [hv, b.int0Ack_one hn pending]
    rfl
  · have h : Takes (.mboxSendToVf w i v) b (b.mboxToVf w i v.toNat) := takes_of_write hreach fun _ => rfl
    exact ⟨fun off => takes_congr h (if_pos (by simp [off])), fun send pending => takes_congr h (b.mboxToVf_busy w send pending),
      fun send idle => h.to (b.mboxToVf_sends w i.isLt send idle)⟩
  · have h : Takes (.mboxSendToPf i v) b (b.mboxToPf i v.toNat) := takes_of_inst hreach fun _ => rfl
    refine ⟨fun off => takes_congr h (b.mboxToPf_off off), fun send live => ?_⟩
    obtain ⟨hbusy, hidle⟩ := b.mboxToPf_sends send live
    exact ⟨fun pending => takes_congr h (hbusy pending), fun idle => h.to (hidle idle)⟩

end Sys2Proof.Machine
end

section
/-!
PROOFS. The transmit path of the host (R386 to R390): what a read of host memory, the start and the completion of a ring's frame, and
the refill of an injection buffer leave as it was.
-/
namespace Sys2Proof.Machine
open Sys2Proof

variable {b c d : Block}

/-! ## Marks do not reach the host interface -/

/-- The registers of the host interface, and of every block below the instances, are the same. -/
def Block.SameLow (b c : Block) : Prop := ∀ a, a < 0x200000 → c.word a = b.word a

theorem Block.SameLow.refl (b : Block) : b.SameLow b := fun _ _ => rfl
theorem Block.SameLow.trans (h : b.SameLow c) (h' : c.SameLow d) : b.SameLow d := fun a ha => (h' a ha).trans (h a ha)
theorem Block.SameLow.of_regs (h : c.regs = b.regs) : b.SameLow c := fun a _ => Block.word_of_regs h a

theorem Block.mark_low (b : Block) (i addr len : Nat) : b.SameLow (b.mark i addr len) := by
  unfold Block.mark
  split
  · exact .refl b
  · extract_lets start n p0 pages inside b1
    have hword (a : Nat) : b1.word a = b.word a :=
      foldl_keeps b (f := Block.markPage i start) (g := fun c => c.word a) (fun _ _ => rfl) inside
    split
    · exact fun a _ => hword a
    · intro a ha
      rw [Block.count_word, Block.raise, Block.word_setFld_other, hword]
      unfold R.INS_DIRTY_CFG insBase
      omega

theorem Block.dispatchDma_low (b : Block) (n : Nat) : b.SameLow (b.dispatchDma n) := by
  induction n generalizing b with
  | zero => exact .refl b
  | succ n ih =>
    unfold Block.dispatchDma
    split
    · exact .refl b
    · split
      · exact .refl b
      · next e _ j _ =>
        extract_lets b1 b2
        have h1 : b.SameLow b1 := .of_regs rfl
        have h2 : b1.SameLow b2 := by
          show b1.SameLow (if j.kind.logged then _ else b1)
          split
          · exact foldl_inv (P := b1.SameLow) j.writes (.refl b1) fun c w _ h => h.trans (c.mark_low j.inst w.1 w.2.length)
          · exact .refl b1
        exact (h1.trans h2).trans (ih b2)

theorem Block.pushJob_low (b : Block) (i : Nat) (k : JobKind) (w : List (Nat × List Byte)) : b.SameLow (b.pushJob i k w) :=
  (Block.SameLow.of_regs rfl : b.SameLow { b with jobs := b.jobs ++ [{ n := b.jobCount, inst := i, kind := k, writes := w }], jobCount := b.jobCount + 1 }).trans
    (Block.dispatchDma_low _ 17)
theorem Block.readGot_low {i : Nat} {k : JobKind} (h : b.readGot i k = some c) : b.SameLow c := by
  obtain ⟨e, rfl⟩ := Block.readGot_eq b h
  refine .trans ?_ (.of_regs rfl)
  unfold Block.askRead
  split
  · exact .refl b
  · exact b.pushJob_low i k []

/-! ## What the transmit path keeps -/

/-- From b to c nothing changed that the transmit path reads or answers, but for the rings and the counters. -/
structure Block.TxKeeps (b c : Block) : Prop where
  frames : c.frames = b.frames
  next : c.nextFrame = b.nextFrame
  hostLinks : c.hostLinks = b.hostLinks
  last : c.txLast = b.txLast
  dies : c.dies = b.dies
  ticks : c.ticks = b.ticks
  word : ∀ a, a % 0x1000 ≠ 0x400 → c.word a = b.word a
  low : b.SameLow c

namespace Block.TxKeeps

theorem refl (b : Block) : b.TxKeeps b := ⟨rfl, rfl, rfl, rfl, rfl, rfl, fun _ _ => rfl, .refl b⟩
theorem trans (h : b.TxKeeps c) (h' : c.TxKeeps d) : b.TxKeeps d :=
  ⟨h'.frames.trans h.frames, h'.next.trans h.next, h'.hostLinks.trans h.hostLinks, h'.last.trans h.last, h'.dies.trans h.dies, h'.ticks.trans h.ticks,
    fun a ha => (h'.word a ha).trans (h.word a ha), h.low.trans h'.low⟩
theorem of_dma (h : b.OnDma c) (low : b.SameLow c) : b.TxKeeps c := by
  have hword := h.word
  obtain ⟨rs, cs, js, n, es, l, rfl⟩ := h.only
  exact ⟨rfl, rfl, rfl, rfl, rfl, rfl, hword, low⟩
theorem dispatchDma (b : Block) (n : Nat) : b.TxKeeps (b.dispatchDma n) := of_dma (Block.OnDma.dispatchDma n) (b.dispatchDma_low n)
theorem pushJob (b : Block) (i : Nat) (k : JobKind) (w : List (Nat × List Byte)) : b.TxKeeps (b.pushJob i k w) :=
  of_dma (.pushJob i k w) (b.pushJob_low i k w)
theorem counted (h : b.Counted c) : b.TxKeeps c := by
  obtain ⟨cs, rfl⟩ := h
  exact ⟨rfl, rfl, rfl, rfl, rfl, rfl, fun _ _ => rfl, fun _ _ => rfl⟩
theorem modTxRing (b : Block) (r : Nat) (f : TxRing → TxRing) : b.TxKeeps (b.modTxRing r f) :=
  ⟨rfl, rfl, rfl, rfl, rfl, rfl, fun _ _ => rfl, fun _ _ => rfl⟩

theorem frozen (h : b.TxKeeps c) (e : Nat) : c.frozen e = b.frozen e := by
  rw [Block.frozen, Block.die, h.dies, ← Block.die, ← Block.frozen]
theorem fld (h : b.TxKeeps c) {a : Nat} (ha : a % 0x1000 ≠ 0x400) (f : Bf) : c.fld a f = b.fld a f := Block.fld_of_word (h.word a ha) f
theorem owner (h : b.TxKeeps c) (r : Nat) : c.txOwner r = b.txOwner r :=
  ownerIn_congr r fun i _ => h.word _ (by unfold R.INS_TX_RANGE insBase; omega)
theorem size (h : b.TxKeeps c) {r : Nat} (hr : r < 0xB000) : c.txSize r = b.txSize r := by
  rw [Block.txSize, Block.fld_of_word (h.low _ (by unfold R.HIF_TXR_CFG hifBase; omega)), ← Block.txSize]
theorem frame (h : b.TxKeeps c) (k : Nat) : c.frame k = b.frame k := by rw [Block.frame, h.frames, ← Block.frame]
theorem fill (h : b.TxKeeps c) (p : Nat) : c.injectFill p = b.injectFill p := by
  unfold Block.injectFill Block.injected Block.at_ Block.framesOf
  rw [h.frames]

end Block.TxKeeps

/-- A ring that an instance owns has a number below 0xB000. -/
theorem inRange_lt {v ring : Nat} (h : inRange v ring = true) : ring < 0xB000 := by
  unfold inRange at h
  simp only [Bool.and_eq_true, decide_eq_true_eq] at h
  omega

theorem ownerIn_some {range : Nat → Nat} {ring i : Nat} {l : List Nat} (h : ownerIn b range ring l = some i) :
    i ∈ l ∧ inRange (b.word (range i)) ring = true := by
  induction l with
  | nil => cases h
  | cons j l ih =>
    unfold ownerIn at h
    split at h
    · next hin =>
      cases h
      exact ⟨List.mem_cons_self, hin⟩
    · obtain ⟨hmem, hin⟩ := ih h
      exact ⟨List.mem_cons_of_mem _ hmem, hin⟩

theorem Block.txOwner_bounds {r i : Nat} (h : b.txOwner r = some i) : i < 256 ∧ r < 0xB000 := by
  obtain ⟨hmem, hin⟩ := ownerIn_some h
  refine ⟨?_, inRange_lt hin⟩
  simp only [List.mem_append, List.mem_map, List.mem_range, List.mem_singleton] at hmem
  omega

/-! ## The counters of an instance -/

/-- The counters of an instance's frames lie here in its page. -/
def rowPage (a : Nat) : Prop := 0x800 ≤ a % 0x1000 ∧ a % 0x1000 < 0x888

theorem Block.ctr_pmc_row (b : Block) (u : PUnit) (ev q n : Nat) {a : Nat} (h : rowPage a) : (b.pmc u ev q n).ctr a = b.ctr a :=
  b.ctr_pmc_other u ev q n fun k hk e => by
    obtain ⟨hlo, hhi⟩ := h
    have := u.base_page
    omega
theorem Block.OnDma.row (h : b.OnDma c) {a : Nat} (ha : rowPage a) : c.ctr a = b.ctr a := h.ctr a (by unfold rowPage at ha; omega)

/-- No Hold stops a counter of an instance. -/
theorem Block.stopped_inst (b : Block) {a : Nat} (h : a < 0x1000000) : b.stopped a = false := by
  have hf : freezer a = none := by
    unfold freezer
    rw [if_neg (by omega), if_neg (by omega), if_neg (by omega)]
  rw [Block.stopped, hf]

theorem txCounter_row {i : Nat} (hi : i < 256) (status : Nat) : rowPage (txCounter i status) ∧ txCounter i status < 0x1000000 := by
  unfold txCounter rowPage R.INS_TX_HELD R.INS_TX_INJECT_TIMEOUT R.INS_TX_DMA_ERR R.INS_TX_DENIED insBase
  split
  · omega
  · split
    · omega
    · split <;> omega
/-! ## A frame completes (R386) -/

theorem Block.txComplete_tells {r i : Nat} {f : TxFrame} (status : Nat) (hf : (b.txRing r).frame = some f) (own : b.txOwner r = some i) :
    let t := b.txComplete r status
    b.TxKeeps t ∧ t.txRing r = { b.txRing r with frame := none, since := b.ticks } ∧ (∀ q, q ≠ r → t.txRing q = b.txRing q) ∧
    (status ≠ txOk → t.ctr (txCounter i status) = (b.ctr (txCounter i status) + 1) % 2 ^ 64) ∧
    (status = txOk → t.ctr (R.INS_TX_FRAMES i) = (b.ctr (R.INS_TX_FRAMES i) + 1) % 2 ^ 64) := by
  intro t
  obtain ⟨hi, -⟩ := Block.txOwner_bounds own
  obtain ⟨c, hc⟩ : ∃ c, (if status == txOk then (b.count (R.INS_TX_FRAMES i) 1).count (R.INS_TX_BYTES i) f.bytes.length
    else b.count (txCounter i status) 1) = c := ⟨_, rfl⟩
  obtain ⟨d, hd⟩ : ∃ d, c.modTxRing r (fun x => { x with frame := none, since := c.ticks }) = d := ⟨_, rfl⟩
  obtain ⟨w, ht⟩ : ∃ w, t = d.pushJob i (.txDone r f.slots) w := by
    refine ⟨(List.range f.slots).map fun k => (d.txSlot r (f.first + k) + 48, txDoneBytes status (phaseOf (d.txSize r) (f.first + k))), ?_⟩
    rw [← hd, ← hc, show t = b.txComplete r status from rfl, Block.txComplete, hf, own]
  clear_value t
  have hcounted : b.Counted c := by
    rw [← hc]
    split
    · exact ((Block.Counted.refl b).count _ _).count _ _
    · exact (Block.Counted.refl b).count _ _
  have hcd : c.TxKeeps d := hd ▸ .modTxRing c r _
  have hdma : d.OnDma t := ht ▸ .pushJob i _ w
  have hdt : d.TxKeeps t := ht ▸ .pushJob d i _ w
  have hring (q : Nat) : t.txRing q = if q = r then { b.txRing r with frame := none, since := b.ticks } else b.txRing q := by
    have h1 : t.txRing q = d.txRing q := by
      obtain ⟨rs, cs, js, n, es, l, rfl⟩ := hdma.only
      rfl
    rw [h1, ← hd, Block.txRing_modTxRing]
    obtain ⟨cs, rfl⟩ := hcounted
    rfl
  have hctr {a : Nat} (ha : rowPage a) : t.ctr a = c.ctr a := by
    rw [hdma.row ha, ← hd]
    rfl
  refine ⟨((Block.TxKeeps.counted hcounted).trans hcd).trans hdt, by rw [hring, if_pos rfl], fun q hq => by rw [hring, if_neg hq],
    fun other => ?_, fun ok => ?_⟩
  · obtain ⟨hrow, hlow⟩ := txCounter_row hi status
    rw [hctr hrow, ← hc, if_neg (by simpa using other), Block.ctr_count_same _ _ _ (b.stopped_inst hlow)]
  · have hlow : R.INS_TX_FRAMES i < 0x1000000 := by unfold R.INS_TX_FRAMES insBase; omega
    have hne : R.INS_TX_FRAMES i ≠ R.INS_TX_BYTES i := by unfold R.INS_TX_FRAMES R.INS_TX_BYTES insBase; omega
    rw [hctr (by unfold rowPage R.INS_TX_FRAMES insBase; omega), ← hc, if_pos (by simpa using ok), Block.ctr_count_other _ _ hne, Block.ctr_count_same _ _ _ (b.stopped_inst hlow)]

/-! ## A frame starts (R387, R390) -/

theorem Block.txBegin_tells (b : Block) (i r : Nat) (f : TxFrame) :
    let t := b.txBegin i r f
    ({ b with txLast := i } : Block).TxKeeps t ∧ t.txRing r = { b.txRing r with fetch := (b.txRing r).fetch + f.slots, frame := some f } ∧
    (∀ q, q ≠ r → t.txRing q = b.txRing q) ∧ (∀ a, t.ctr a = b.ctr a) := by
  intro t
  obtain ⟨c, hc⟩ : ∃ c, ({ b with txLast := i } : Block).modInst i (fun x => { x with lastRing := r }) = c := ⟨_, rfl⟩
  have ht : t = c.modTxRing r fun x => { x with fetch := x.fetch + f.slots, frame := some f } := by rw [← hc]; rfl
  clear_value t
  have hkeeps : ({ b with txLast := i } : Block).TxKeeps c := hc ▸ ⟨rfl, rfl, rfl, rfl, rfl, rfl, fun _ _ => rfl, fun _ _ => rfl⟩
  have hring (q : Nat) : c.txRing q = b.txRing q := by rw [← hc]; rfl
  have hctr (a : Nat) : c.ctr a = b.ctr a := by rw [← hc]; rfl
  rw [ht]
  refine ⟨hkeeps.trans (.modTxRing c r _), ?_, fun q hq => ?_, hctr⟩
  · rw [Block.txRing_modTxRing, if_pos rfl, hring]
  · rw [Block.txRing_modTxRing, if_neg hq, hring]

/-! ## The injection buffer (R388) -/

/-- From b to c frames entered injection buffers: those there stay, and a ring with no frame in progress stays so. -/
structure Block.Refilled (b c : Block) : Prop where
  only : ∃ fs n tr, c = { b with frames := fs, nextFrame := n, txRings := tr }
  next : b.nextFrame ≤ c.nextFrame
  kept : ∀ k, k < b.nextFrame → SMap.find c.frames k = SMap.find b.frames k ∧ c.frame k = b.frame k
  free : ∀ r, (b.txRing r).frame = none → (c.txRing r).frame = none

namespace Block.Refilled

theorem refl (b : Block) : b.Refilled b := ⟨⟨_, _, _, rfl⟩, Nat.le_refl _, fun _ _ => ⟨rfl, rfl⟩, fun _ h => h⟩
theorem trans (h : b.Refilled c) (h' : c.Refilled d) : b.Refilled d := by
  refine ⟨?_, h.next.trans h'.next, fun k hk => ?_, fun r hr => h'.free r (h.free r hr)⟩
  · obtain ⟨fs, n, tr, rfl⟩ := h.only
    obtain ⟨fs', n', tr', rfl⟩ := h'.only
    exact ⟨_, _, _, rfl⟩
  · obtain ⟨hfind, hframe⟩ := h.kept k hk
    obtain ⟨hfind', hframe'⟩ := h'.kept k (hk.trans_le h.next)
    exact ⟨hfind'.trans hfind, hframe'.trans hframe⟩

end Block.Refilled

/-- The frame that enters the injection buffer for ring f's host frame. -/
def Block.injecting (b : Block) (f : TxFrame) : Frame :=
  { port := f.port, bytes := wholeFrame f.bytes, loc := .injected, stamp := b.rxStamp f.port, advA := b.baseA.advance,
    advB := b.baseB.advance, host := some f.host }

/-- Whether the frame in progress enters the injection buffer now. -/
def Block.enters (b : Block) (f : TxFrame) : Prop :=
  f.direct = false ∧ f.id = none ∧ b.injectFill f.port + (wholeFrame f.bytes).length ≤ 32768

theorem Block.injectTry_waits (b : Block) {r : Nat} (h : ∀ f, (b.txRing r).frame = some f → ¬ b.enters f) : b.injectTry r = b := by
  unfold Block.injectTry
  split
  · next f hf =>
    refine if_pos ?_
    have := h f hf
    unfold Block.enters at this
    simp only [Bool.or_eq_true, decide_eq_true_eq]
    by_cases hd : f.direct = true
    · exact .inl (.inl hd)
    · by_cases hid : f.id = none
      · exact .inr (by_contra fun hle => this ⟨by simpa using hd, hid, by omega⟩)
      · exact .inl (.inr (Option.isSome_iff_ne_none.mpr hid))
  · rfl

theorem Block.injectTry_enters (b : Block) {r : Nat} {f : TxFrame} (hf : (b.txRing r).frame = some f) (h : b.enters f) :
    b.injectTry r = (b.addFrame (b.injecting f)).modTxRing r fun x => { x with frame := some { f with id := some b.nextFrame } } := by
  obtain ⟨hd, hid, hroom⟩ := h
  unfold Block.injectTry
  rw [hf]
  exact if_neg (by simp [hd, hid, hroom])

theorem Block.injectTry_refilled (b : Block) (r : Nat) : b.Refilled (b.injectTry r) := by
  by_cases h : ∃ f, (b.txRing r).frame = some f ∧ b.enters f
  · obtain ⟨f, hf, enters⟩ := h
    rw [b.injectTry_enters hf enters]
    obtain ⟨c, hc⟩ : ∃ c, b.addFrame (b.injecting f) = c := ⟨_, rfl⟩
    have hframes : c.frames = SMap.put b.frames b.nextFrame (b.injecting f) := by rw [← hc]; rfl
    have honly : c = { b with frames := c.frames, nextFrame := b.nextFrame + 1 } := by rw [← hc]; rfl
    rw [hc]
    refine ⟨?_, ?_, fun k hk => ⟨?_, ?_⟩, fun q hq => ?_⟩
    · rw [honly]
      exact ⟨_, _, _, rfl⟩
    · rw [honly]
      exact Nat.le_succ _
    · show SMap.find c.frames k = _
      rw [hframes, SMap.find_put_other _ _ (by omega)]
    · show SMap.get {} c.frames k = _
      rw [hframes, SMap.get_put_other _ _ _ (by omega)]
      rfl
    · have hring : c.txRing q = b.txRing q := by rw [honly]; rfl
      rw [Block.txRing_modTxRing, if_neg (by rintro rfl; simp [hf] at hq), hring, hq]
  · rw [b.injectTry_waits fun f hf enters => h ⟨f, hf, enters⟩]
    exact .refl b

theorem Block.injectRefill_refilled (b : Block) (p : Nat) : b.Refilled (b.injectRefill p) := by
  unfold Block.injectRefill
  exact foldl_inv (P := b.Refilled) _ (.refl b) fun c x _ h => h.trans (c.injectTry_refilled x.1)

end Sys2Proof.Machine
end

section
/-!
PROOFS. Transmit rings (R376, R386 to R390, R401): fetching, injection, completion, and what the DMA engines complete; and O37 from these.
-/
namespace Sys2Proof.Machine
open Sys2Proof

variable {b c d e : Block}

/-! ## The ring whose turn it is has begun its frame -/

/-- Ring r of instance i has begun frame f, and nothing else that its path reads has changed. -/
structure Block.Begun (b e : Block) (i r : Nat) (f : TxFrame) : Prop where
  keeps : ({ b with txLast := i } : Block).TxKeeps e
  ring : e.txRing r = { b.txRing r with fetch := (b.txRing r).fetch + f.slots, frame := some f }
  row : ∀ a, rowPage a → e.ctr a = b.ctr a

/-- What a frame that ends at once leaves. -/
def Block.txEnds (b : Block) (i r n counter : Nat) (t : Block) : Prop :=
  (t.txRing r).frame = none ∧ (t.txRing r).fetch = (b.txRing r).fetch + n ∧ t.txLast = i ∧ t.frames = b.frames ∧
  t.ctr counter = (b.ctr counter + 1) % 2 ^ 64

namespace Block.Begun
variable {i r : Nat} {f : TxFrame}

theorem of_keeps (h : b.TxKeeps c) (ring : c.txRing r = b.txRing r) (row : ∀ a, rowPage a → c.ctr a = b.ctr a) :
    b.Begun (c.txBegin i r f) i r f := by
  obtain ⟨hkeeps, hmine, -, hctr⟩ := c.txBegin_tells i r f
  refine ⟨?_, by rw [hmine, ring], fun a ha => (hctr a).trans (row a ha)⟩
  have h' : ({ b with txLast := i } : Block).TxKeeps { c with txLast := i } :=
    ⟨h.frames, h.next, h.hostLinks, rfl, h.dies, h.ticks, h.word, h.low⟩
  exact h'.trans hkeeps

theorem step (h : b.Begun e i r f) (keeps : e.TxKeeps d) (ring : d.txRing r = e.txRing r) (row : ∀ a, rowPage a → d.ctr a = e.ctr a) :
    b.Begun d i r f :=
  ⟨h.keeps.trans keeps, ring.trans h.ring, fun a ha => (row a ha).trans (h.row a ha)⟩

theorem counted (h : b.Begun e i r f) (n : e.Counted d) (row : ∀ a, rowPage a → d.ctr a = e.ctr a) : b.Begun d i r f :=
  h.step (.counted n) (by obtain ⟨cs, rfl⟩ := n; rfl) row

theorem dispatched (h : b.Begun e i r f) : b.Begun (e.dispatchDma 17) i r f := by
  have hdma : e.OnDma (e.dispatchDma 17) := .dispatchDma 17
  refine h.step (.dispatchDma e 17) ?_ fun a ha => hdma.row ha
  obtain ⟨rs, cs, js, n, es, l, honly⟩ := hdma.only
  rw [honly]
  rfl

theorem owner (h : b.Begun e i r f) (q : Nat) : e.txOwner q = b.txOwner q :=
  ownerIn_congr q fun j _ => h.keeps.word _ (by unfold R.INS_TX_RANGE insBase; omega)

/-- A frame that has begun completes. -/
theorem ends (h : b.Begun e i r f) (own : b.txOwner r = some i) {status : Nat} (bad : status ≠ txOk) :
    b.txEnds i r f.slots (txCounter i status) ((e.txComplete r status).dispatchDma 17) := by
  obtain ⟨hi, -⟩ := Block.txOwner_bounds own
  obtain ⟨hkeeps, hmine, -, hctr, -⟩ := e.txComplete_tells (r := r) (i := i) (f := f) status (by rw [h.ring]) ((h.owner r).trans own)
  generalize e.txComplete r status = t at *
  have hdma : t.OnDma (t.dispatchDma 17) := .dispatchDma 17
  have hrow := (txCounter_row hi status).1
  have hring : (t.dispatchDma 17).txRing r = t.txRing r := by
    obtain ⟨rs, cs, js, n, es, l, honly⟩ := hdma.only
    rw [honly]
    rfl
  have hend := (h.keeps.trans hkeeps).trans (.dispatchDma t 17)
  refine ⟨by rw [hring, hmine], by rw [hring, hmine, h.ring], hend.last, hend.frames, ?_⟩
  rw [hdma.row hrow, hctr bad, h.row _ hrow]

end Block.Begun

/-! ## Descriptors (R386, R387, R382) -/

theorem frameSlots_le {l : List (List Byte)} {k n : Nat} (h : frameSlots k l = some n) (hk : k ≤ 8) : n ≤ k + l.length := by
  induction l generalizing k with
  | nil =>
    by_cases h8 : k = 8
    · subst h8
      cases h
      simp
    · rw [frameSlots] at h
      · cases h
      · exact h8
  | cons x l ih =>
    by_cases h8 : k = 8
    · subst h8
      cases h
      omega
    · rw [frameSlots] at h
      · have := List.length_cons (a := x) (as := l)
        split at h
        · cases h
          omega
        · split at h
          · cases h
            omega
          · have := ih h (by omega)
            omega
      · exact h8

/-- What a frame may not do reads the registers of its instance. -/
theorem Block.txDenies_congr (h : ∀ a, a % 0x1000 ≠ 0x400 → c.word a = b.word a) (i : Nat) (f : List Byte) : c.txDenies i f = b.txDenies i f := by
  have hfld (a : Nat) (x : Bf) (ha : a % 0x1000 ≠ 0x400) : c.fld a x = b.fld a x := Block.fld_of_word (h a ha) x
  have hmask : c.portPermitted i (leAt f 11 1) = b.portPermitted i (leAt f 11 1) := by
    have : leAt f 11 1 < 256 ^ (slice f 11 12).length := leVal_lt _
    have hlen : (slice f 11 12).length ≤ 1 := by unfold slice; simp only [List.length_take, List.length_drop]; omega
    have hpow : 256 ^ (slice f 11 12).length ≤ 256 ^ 1 := Nat.pow_le_pow_right (by omega) hlen
    rw [Block.portPermitted, h _ (by unfold R.INS_PORT_MASK insBase; omega), ← Block.portPermitted]
  have hwin (t x : Nat) : c.inWin i t x = b.inWin i t x := by
    have hof : c.windowOf i t = b.windowOf i t := by
      unfold Block.windowOf
      refine List.find?_congr fun w hw => ?_
      have := List.mem_range.mp hw
      rw [Block.flag, hfld _ _ (by unfold R.INS_WIN_CFG insBase; omega), hfld _ _ (by unfold R.INS_WIN_CFG insBase; omega), ← Block.flag]
    unfold Block.inWin
    rw [hof]
    split
    · next w hw =>
      have hw8 : w < 8 := List.mem_range.mp (List.mem_of_find?_eq_some hw)
      rw [Block.winBase, Block.winSize, hfld _ _ (by unfold R.INS_WIN_BASE insBase; omega), hfld _ _ (by unfold R.INS_WIN_SIZE insBase; omega),
        ← Block.winBase, ← Block.winSize]
    · rfl
  unfold Block.txDenies
  dsimp only
  rw [hmask, hwin, hfld _ _ (by unfold R.INS_CQ_RANGE insBase; omega), hfld _ _ (by unfold R.INS_CQ_RANGE insBase; omega)]
/-! ## The fetch (R386 to R390) -/

/-- A read that an engine has made leaves what the transmit path reads. -/
theorem Block.readGot_keeps {i : Nat} {k : JobKind} (got : b.readGot i k = some c) :
    b.TxKeeps c ∧ (∀ r, c.txRing r = b.txRing r) ∧ ∀ a, rowPage a → c.ctr a = b.ctr a := by
  have hdma : b.OnDma c := .readGot got
  refine ⟨.of_dma hdma (Block.readGot_low got), fun r => ?_, fun a ha => hdma.row ha⟩
  obtain ⟨rs, cs, js, n, es, l, honly⟩ := hdma.only
  rw [honly]
  rfl

theorem Block.TxKeeps.avail (h : b.TxKeeps c) {r : Nat} (hr : r < 0xB000) (ring : c.txRing r = b.txRing r) : c.txAvail r = b.txAvail r := by
  rw [Block.txAvail, h.size hr, ring, ← Block.txAvail]

/-- The descriptors of ring r as read. -/
def Block.txRead (b : Block) (r : Nat) (raw : List Byte) : List (List Byte) := descsOf (min 8 (b.txAvail r)) raw

theorem Block.txDescs_none {i r : Nat} (got : b.readGot i (.txRead r) = some c) (own : b.txOwner r = some i) (raw data : List Byte)
    (go : List (List Byte) → Block → Block) (none : frameSlots 0 (b.txRead r raw) = none) : c.txDescs i r raw data go = c := by
  obtain ⟨hkeeps, hring, -⟩ := Block.readGot_keeps got
  rw [Block.txRead, ← hkeeps.avail (Block.txOwner_bounds own).2 (hring r)] at none
  unfold Block.txDescs
  dsimp only
  rw [none]

theorem Block.txDescs_begun {i r n : Nat} (got : b.readGot i (.txRead r) = some c) (own : b.txOwner r = some i) (raw data : List Byte)
    (go : List (List Byte) → Block → Block) (whole : frameSlots 0 (b.txRead r raw) = some n) :
    let ds := (b.txRead r raw).take n
    let f := txFrameOf i r (b.txRing r).fetch ds data
    f.slots = n ∧ ∃ e, b.Begun e i r f ∧ c.txDescs i r raw data go =
      if badDesc ds then e.txComplete r txBadDesc
      else if b.txDenies i (ds.headD []) then e.txComplete r txDenied
      else if b.frozen (dieOfPort f.port) then e.txComplete r txHeld
      else go ds e := by
  intro ds f
  obtain ⟨hkeeps, hring, hrow⟩ := Block.readGot_keeps got
  have hread : c.txRead r raw = b.txRead r raw := by
    rw [Block.txRead, hkeeps.avail (Block.txOwner_bounds own).2 (hring r), ← Block.txRead]
  have hcount : c.Counted (c.dmaRead i (64 * n)) := c.dmaRead_counted _ _
  obtain ⟨m, hm⟩ : ∃ m, c.dmaRead i (64 * n) = m := ⟨_, rfl⟩
  rw [hm] at hcount
  have hbegun : b.Begun (m.txBegin i r f) i r f := by
    refine .of_keeps (hkeeps.trans (.counted hcount)) ?_ fun a ha => ?_
    · rw [← hring r]
      obtain ⟨cs, rfl⟩ := hcount
      rfl
    · rw [← hm, Block.dmaRead, Block.ctr_pmc_row _ _ _ _ _ ha, Block.ctr_pmc_row _ _ _ _ _ ha, hrow a ha]
  have hslots : f.slots = n := by
    have := frameSlots_le whole (Nat.zero_le 8)
    show ((b.txRead r raw).take n).length = n
    rw [List.length_take]
    omega
  refine ⟨hslots, m.txBegin i r f, hbegun, ?_⟩
  have hdenies (x : List Byte) : (m.txBegin i r f).txDenies i x = b.txDenies i x := Block.txDenies_congr hbegun.keeps.word i x
  have hfrozen (x : Nat) : (m.txBegin i r f).frozen x = b.frozen x := hbegun.keeps.frozen x
  rw [← hdenies, ← hfrozen]
  unfold Block.txDescs
  rw [← Block.txRead, hread]
  dsimp only
  rw [whole]
  dsimp only
  rw [hm, hring]

/-- What the sitting ring's frame is, as a fetch begins it. -/
theorem Block.txFetch_turn {i r : Nat} (turn : b.txTurn = some (i, r)) (raw data : List Byte) : b.txFetch raw data =
    b.withRead i (.txRead r) fun b => b.txDescs i r raw data fun ds b => (ds.foldl (fun b d => b.dmaRead i (leAt d 8 2)) b).injectTry r := by
  unfold Block.txFetch
  rw [turn]

theorem Block.dmaErr_txData {i r : Nat} (turn : b.txTurn = some (i, r)) (raw : List Byte) : b.dmaErr (.txData raw) =
    b.withRead i (.txRead r) fun b => b.txDescs i r raw [] fun _ b => (b.dmaFailed i).txComplete r txDmaErr := by
  unfold Block.dmaErr
  dsimp only
  rw [turn]

theorem Block.dmaErr_txDesc {i r : Nat} (turn : b.txTurn = some (i, r)) (n : Fin 8) : b.dmaErr (.txDesc n) =
    b.withRead i (.txRead r) fun b =>
      ((b.dmaFailed i).txBegin i r { first := (b.txRing r).fetch, slots := min (n.val + 1) (b.txAvail r) }).txComplete r txDmaErr := by
  unfold Block.dmaErr
  dsimp only
  rw [turn]

/-- A failed read is counted and told. -/
theorem Block.dmaFailed_tells (b : Block) (i : Nat) :
    let t := b.dmaFailed i
    b.TxKeeps t ∧ t = { b with ctrs := t.ctrs, inflight := t.inflight, lastMsg := t.lastMsg } ∧ (∀ a, rowPage a → t.ctr a = b.ctr a) ∧
    t.ctr R.HIF_DMA_ERR = (b.ctr R.HIF_DMA_ERR + 1) % 2 ^ 64 := by
  intro t
  obtain ⟨c, hc⟩ : ∃ c, b.count R.HIF_DMA_ERR 1 = c := ⟨_, rfl⟩
  have ht : t = c.sendLimited (limitKey 0x59 4 0xFFF i) 4 0xFFF 0x59 i i 4 := by rw [← hc]; rfl
  clear_value t
  have hcount : b.Counted c := hc ▸ (Block.Counted.refl b).count _ _
  have honly := c.sendLimited_only (limitKey 0x59 4 0xFFF i) 4 0xFFF 0x59 i i 4
  rw [← ht] at honly
  have hctr (a : Nat) : t.ctr a = c.ctr a := by rw [honly]; rfl
  have hkeeps : c.TxKeeps t := by
    rw [honly]
    exact ⟨rfl, rfl, rfl, rfl, rfl, rfl, fun _ _ => rfl, fun _ _ => rfl⟩
  refine ⟨(Block.TxKeeps.counted hcount).trans hkeeps, ?_, fun a ha => ?_, ?_⟩
  · obtain ⟨cs, rfl⟩ := hcount
    rw [honly]
  · rw [hctr, ← hc, Block.ctr_count_other]
    rintro rfl
    revert ha
    unfold rowPage R.HIF_DMA_ERR hifBase
    omega
  · rw [hctr, ← hc, Block.ctr_count_same _ _ _ (b.stopped_inst (by decide))]

theorem Block.Begun.failed {i r : Nat} {f : TxFrame} (h : b.Begun e i r f) (j : Nat) : b.Begun (e.dmaFailed j) i r f := by
  obtain ⟨hkeeps, honly, hrow, -⟩ := e.dmaFailed_tells j
  refine h.step hkeeps ?_ hrow
  rw [honly]
  rfl
/-- What a frame read from ring r comes to, whatever follows where its segments are read. -/
theorem Block.txDescs_tells {i r n : Nat} (got : b.readGot i (.txRead r) = some c) (own : b.txOwner r = some i) (raw data : List Byte)
    (go : List (List Byte) → Block → Block) (whole : frameSlots 0 (b.txRead r raw) = some n) :
    let ds := (b.txRead r raw).take n
    let f := txFrameOf i r (b.txRing r).fetch ds data
    let t := c.txDescs i r raw data go
    let passes := badDesc ds = false ∧ b.txDenies i (ds.headD []) = false
    f.slots = n ∧ (badDesc ds = true ∨ b.txDenies i (ds.headD []) = true → b.txEnds i r n (R.INS_TX_DENIED i) (t.dispatchDma 17)) ∧
    (passes → b.frozen (dieOfPort f.port) = true → b.txEnds i r n (R.INS_TX_HELD i) (t.dispatchDma 17)) ∧
    (passes → b.frozen (dieOfPort f.port) = false → ∃ e, b.Begun e i r f ∧ t = go ds e) := by
  intro ds f t passes
  obtain ⟨hslots, e, hbegun, ht⟩ := Block.txDescs_begun got own raw data go whole
  have hends {status : Nat} (bad : status ≠ txOk) := hslots ▸ hbegun.ends own bad
  have ht' : t = _ := ht
  clear_value t
  refine ⟨hslots, fun bad => ?_, fun pass held => ?_, fun pass live => ⟨e, hbegun, ?_⟩⟩
  · by_cases desc : badDesc ds = true
    · rw [ht', if_pos desc]
      exact hends (status := txBadDesc) (by decide)
    · rw [ht', if_neg desc, if_pos (bad.resolve_left desc)]
      exact hends (status := txDenied) (by decide)
  · obtain ⟨desc, mine⟩ := pass
    rw [ht', if_neg (ne_true_of_eq_false desc), if_neg (ne_true_of_eq_false mine), if_pos held]
    exact hends (status := txHeld) (by decide)
  · obtain ⟨desc, mine⟩ := pass
    rw [ht', if_neg (ne_true_of_eq_false desc), if_neg (ne_true_of_eq_false mine), if_neg (ne_true_of_eq_false live)]

/-- The reads of a frame's segments are counted, and the frame enters the injection buffer of its port where there is room. -/
theorem Block.Begun.segments {i r : Nat} {f : TxFrame} (h : b.Begun e i r f) (ds : List (List Byte)) :
    b.Begun (ds.foldl (fun b d => b.dmaRead i (leAt d 8 2)) e) i r f :=
  foldl_inv (P := fun c => b.Begun c i r f) ds h fun c x _ hc =>
    hc.counted (c.dmaRead_counted _ _) fun a ha => by rw [Block.dmaRead, Block.ctr_pmc_row _ _ _ _ _ ha, Block.ctr_pmc_row _ _ _ _ _ ha]

theorem Block.Begun.waits {i r : Nat} {f : TxFrame} (h : b.Begun e i r f) (full : ¬ b.enters f) :
    let t := (e.injectTry r).dispatchDma 17
    (t.txRing r).frame = some f ∧ (t.txRing r).fetch = (b.txRing r).fetch + f.slots ∧ t.txLast = i ∧ t.frames = b.frames := by
  intro t
  have hwait : e.injectTry r = e := e.injectTry_waits fun g hg enters => by
    rw [h.ring] at hg
    cases hg
    obtain ⟨hd, hid, hroom⟩ := enters
    rw [h.keeps.fill] at hroom
    exact full ⟨hd, hid, hroom⟩
  have hend : b.Begun t i r f := by
    rw [show t = (e.injectTry r).dispatchDma 17 from rfl, hwait]
    exact h.dispatched
  clear_value t
  exact ⟨by rw [hend.ring], by rw [hend.ring], hend.keeps.last, hend.keeps.frames⟩

theorem Block.Begun.enters {i r : Nat} {f : TxFrame} (h : b.Begun e i r f) (room : b.enters f) :
    let t := (e.injectTry r).dispatchDma 17
    (t.txRing r).frame = some { f with id := some b.nextFrame } ∧ (t.frame b.nextFrame).bytes = wholeFrame f.bytes ∧
    (t.frame b.nextFrame).loc = .injected ∧ (t.frame b.nextFrame).host = some f.host ∧ ∀ k, k ≠ b.nextFrame → t.frame k = b.frame k := by
  intro t
  obtain ⟨hd, hid, hroom⟩ := room
  have hnext : e.nextFrame = b.nextFrame := h.keeps.next
  have hframes : e.frames = b.frames := h.keeps.frames
  have hentered := e.injectTry_enters (r := r) (f := f) (by rw [h.ring]) ⟨hd, hid, by rw [h.keeps.fill]; exact hroom⟩
  rw [hnext] at hentered
  obtain ⟨g, hg⟩ : ∃ g, e.addFrame (e.injecting f) = g := ⟨_, rfl⟩
  obtain ⟨m, hm⟩ : ∃ m, e.injectTry r = m := ⟨_, rfl⟩
  have hgframes : g.frames = SMap.put b.frames b.nextFrame (e.injecting f) := by rw [← hg, ← hframes, ← hnext]; rfl
  rw [hg, hm] at hentered
  have hmring : (m.txRing r).frame = some { f with id := some b.nextFrame } := by
    rw [hentered, Block.txRing_modTxRing, if_pos rfl]
  have hmframes : m.frames = SMap.put b.frames b.nextFrame (e.injecting f) := by rw [← hgframes, hentered, Block.modTxRing]
  have ht : t = m.dispatchDma 17 := by rw [← hm]
  clear_value t
  obtain ⟨rs, cs, js, n, es, l, honly⟩ := (Block.OnDma.dispatchDma (b := m) 17).only
  rw [← ht] at honly
  have htframe (k : Nat) : t.frame k = SMap.get {} (SMap.put b.frames b.nextFrame (e.injecting f)) k := by
    rw [← hmframes, honly]
    rfl
  have hmine : t.frame b.nextFrame = e.injecting f := by rw [htframe, SMap.get_put_same]
  rw [hmine]
  refine ⟨?_, rfl, rfl, rfl, fun k hk => ?_⟩
  · rw [honly]
    exact hmring
  · rw [htframe, SMap.get_put_other _ _ _ hk, Block.frame]
/-! ## The failed reads (R376) -/

/-- The read of ring r's descriptors fails. -/
theorem Block.dmaErr_txDesc_tells {i r : Nat} (turn : b.txTurn = some (i, r)) (own : b.txOwner r = some i) (n : Fin 8)
    (got : b.readGot i (.txRead r) = some c) :
    b.txEnds i r (min (n.val + 1) (b.txAvail r)) (R.INS_TX_DMA_ERR i) (b.dmaErr (.txDesc n)) := by
  obtain ⟨hkeeps, hring, hrow⟩ := Block.readGot_keeps got
  obtain ⟨hfailed, honly, hfrow, -⟩ := c.dmaFailed_tells i
  have hbegun : b.Begun ((c.dmaFailed i).txBegin i r { first := (c.txRing r).fetch, slots := min (n.val + 1) (c.txAvail r) }) i r
      { first := (c.txRing r).fetch, slots := min (n.val + 1) (c.txAvail r) } := by
    refine .of_keeps (hkeeps.trans hfailed) ?_ fun a ha => (hfrow a ha).trans (hrow a ha)
    rw [← hring r, honly]
    rfl
  have hends := hbegun.ends own (status := txDmaErr) (by decide)
  rw [Block.dmaErr_txDesc turn, Block.withRead_some _ got]
  rw [hkeeps.avail (Block.txOwner_bounds own).2 (hring r)] at hends ⊢
  exact hends

/-- The read of a frame's segments fails. -/
theorem Block.Begun.dataFails {i r : Nat} {f : TxFrame} (h : b.Begun e i r f) (own : b.txOwner r = some i) :
    b.txEnds i r f.slots (R.INS_TX_DMA_ERR i) (((e.dmaFailed i).txComplete r txDmaErr).dispatchDma 17) :=
  (h.failed i).ends own (status := txDmaErr) (by decide)

/-- Whether the pool's cache is not to be filled now. -/
def Block.poolIdle (b : Block) (i k : Nat) : Prop :=
  b.poolOn i k = false ∨ b.resetting i = true ∨ (b.pool i k).failed = true ∨ 32 ≤ (b.pool i k).cache.length ∨ b.poolEntries i k = 0

theorem Block.poolIdle_iff (b : Block) (i k : Nat) :
    (!b.poolOn i k || b.resetting i || (b.pool i k).failed || (b.pool i k).cache.length ≥ 32 || b.poolEntries i k == 0) = true ↔ b.poolIdle i k := by
  unfold Block.poolIdle
  simp only [Bool.or_eq_true, Bool.not_eq_true', decide_eq_true_eq, beq_iff_eq, or_assoc, ge_iff_le]

theorem Block.pool_modPool (b : Block) (i k : Nat) (f : Pool → Pool) (q : Nat) :
    SMap.get {} (b.modPool i k f).pools q = if q = i * 4 + k then f (b.pool i k) else SMap.get {} b.pools q := SMap.get_mod _ _ _ _ _

theorem Block.dmaErr_pool_idle {i : Fin 256} {k : Fin 4} (idle : b.poolIdle i k) : b.dmaErr (.pool i k) = b :=
  if_pos ((b.poolIdle_iff i k).mpr idle)
theorem Block.dmaErr_pool_busy {i : Fin 256} {k : Fin 4} (busy : ¬ b.poolIdle i k) : b.dmaErr (.pool i k) =
    b.withRead i (.poolRead k) fun b => (b.dmaFailed i).modPool i k fun x => { x with failed := true } :=
  if_neg (mt (b.poolIdle_iff i k).mp busy)

theorem Block.dmaErr_pool_tells {i : Fin 256} {k : Fin 4} (busy : ¬ b.poolIdle i k) (got : b.readGot i (.poolRead k) = some c) :
    let t := b.dmaErr (.pool i k)
    t.pool i k = { b.pool i k with failed := true } ∧ (∀ q, q ≠ i.val * 4 + k.val → SMap.get {} t.pools q = SMap.get {} b.pools q) ∧
    t.ctr R.HIF_DMA_ERR = (b.ctr R.HIF_DMA_ERR + 1) % 2 ^ 64 ∧ t.txRings = b.txRings := by
  intro t
  have hdma : b.OnDma c := .readGot got
  obtain ⟨-, honly, -, hctr⟩ := c.dmaFailed_tells i
  obtain ⟨d, hd⟩ : ∃ d, c.dmaFailed i = d := ⟨_, rfl⟩
  obtain ⟨e, he⟩ : ∃ e, d.modPool i k (fun x => { x with failed := true }) = e := ⟨_, rfl⟩
  have ht : t = e.dispatchDma 17 := by
    rw [show t = b.dmaErr (.pool i k) from rfl, Block.dmaErr_pool_busy busy, Block.withRead_some _ got, hd, he]
  clear_value t
  rw [hd] at honly hctr
  have hend : e.OnDma t := ht ▸ .dispatchDma 17
  have hdpools : d.pools = b.pools := by
    obtain ⟨rs, cs, js, n, es, l, hc⟩ := hdma.only
    rw [honly, hc]
  have hdrings : d.txRings = b.txRings := by
    obtain ⟨rs, cs, js, n, es, l, hc⟩ := hdma.only
    rw [honly, hc]
  obtain ⟨rs, cs, js, n, es, l, hto⟩ := hend.only
  have hpools : t.pools = e.pools := by rw [hto]
  have hpool (q : Nat) : SMap.get {} t.pools q = if q = i.val * 4 + k.val then { b.pool i k with failed := true } else SMap.get {} b.pools q := by
    rw [hpools, ← he, Block.pool_modPool, Block.pool, hdpools, ← Block.pool]
  refine ⟨by rw [Block.pool, hpool, if_pos rfl], fun q hq => by rw [hpool, if_neg hq], ?_, ?_⟩
  · rw [hend.ctr _ (by decide), ← he, Block.modPool_ctr, hctr, hdma.ctr _ (by decide)]
  · rw [hto, ← hdrings, ← he, Block.modPool]

/-! ## INJECT (R388) -/

/-- From b to c every frame but i stands as it was, and frame i stands in its pipe with its bytes. -/
structure Block.InPipe (i : Nat) (b c : Block) : Prop where
  others : ∀ k, k ≠ i → SMap.find c.frames k = SMap.find b.frames k
  rings : c.txRings = b.txRings
  loc : (c.frame i).loc = .pipe
  bytes : (c.frame i).bytes = (b.frame i).bytes

namespace Block.InPipe
variable {i : Nat}

theorem of_frames (h : b.InPipe i c) (frames : d.frames = c.frames) (rings : d.txRings = c.txRings) : b.InPipe i d := by
  have hframe : d.frame i = c.frame i := by rw [Block.frame, frames, ← Block.frame]
  exact ⟨fun k hk => by rw [frames, h.others k hk], rings.trans h.rings, by rw [hframe, h.loc], by rw [hframe, h.bytes]⟩
theorem count (h : b.InPipe i c) (a n : Nat) : b.InPipe i (c.count a n) := h.of_frames (c.count_frames a n) (c.count_txRings a n)
theorem pmc (h : b.InPipe i c) (u : PUnit) (x q n : Nat) : b.InPipe i (c.pmc u x q n) := h.of_frames (c.pmc_frames u x q n) (c.pmc_txRings u x q n)
theorem sendOncePerMs (h : b.InPipe i c) (t x k a : Nat) : b.InPipe i (c.sendOncePerMs t x k a) :=
  h.of_frames (c.sendOncePerMs_frames t x k a) (c.sendOncePerMs_txRings t x k a)
theorem modCluster (h : b.InPipe i c) (C : Nat) (f : Cluster → Cluster) : b.InPipe i (c.modCluster C f) := h.of_frames rfl rfl
theorem modFrame (h : b.InPipe i c) (f : Frame → Frame) (loc : ∀ x : Frame, x.loc = .pipe → (f x).loc = .pipe) (bytes : ∀ x, (f x).bytes = x.bytes) :
    b.InPipe i (c.modFrame i f) := by
  have hframe : (c.modFrame i f).frame i = f (c.frame i) := by rw [Block.frame_modFrame, if_pos rfl]
  refine ⟨fun k hk => ?_, h.rings, by rw [hframe, loc _ h.loc], by rw [hframe, bytes, h.bytes]⟩
  rw [Block.modFrame, SMap.mod, SMap.find_set, if_neg hk, h.others k hk]

theorem fragExpire (h : b.InPipe i c) (C : Nat) : b.InPipe i (c.fragExpire C) := by
  unfold Block.fragExpire
  dsimp only
  split
  · exact h
  · exact (h.modCluster C _).count _ _

theorem fragFirst (h : b.InPipe i c) (C : Nat) (v6 : Bool) (key : List Byte) : b.InPipe i (c.fragFirst i C v6 key) := by
  have he := h.fragExpire C
  unfold Block.fragFirst
  extract_lets b' e slot
  cases slot with
  | some s => exact ((he.modCluster C _).count _ _).modFrame _ (fun _ hx => hx) fun _ => rfl
  | none => exact (he.count _ _).sendOncePerMs _ _ _ _

end Block.InPipe

/-- What the parse of frame i leaves of the frames and the transmit rings. -/
structure Block.PipeTaken (i : Nat) (b c : Block) : Prop where
  others : ∀ k, k ≠ i → SMap.find c.frames k = SMap.find b.frames k
  rings : c.txRings = b.txRings
  mine : SMap.find c.frames i = none ∨ ((c.frame i).loc = .pipe ∧ (c.frame i).bytes = (b.frame i).bytes)

theorem Block.InPipe.taken {i : Nat} (h : b.InPipe i c) : b.PipeTaken i c := ⟨h.others, h.rings, .inr ⟨h.loc, h.bytes⟩⟩

/-- From b to c the frames and the transmit rings stand. -/
def Block.SameFrames (b c : Block) : Prop := c.frames = b.frames ∧ c.txRings = b.txRings

namespace Block.SameFrames
theorem refl (b : Block) : b.SameFrames b := ⟨rfl, rfl⟩
theorem count (h : b.SameFrames c) (a n : Nat) : b.SameFrames (c.count a n) := ⟨(c.count_frames a n).trans h.1, (c.count_txRings a n).trans h.2⟩
theorem pmc (h : b.SameFrames c) (u : PUnit) (x q n : Nat) : b.SameFrames (c.pmc u x q n) :=
  ⟨(c.pmc_frames u x q n).trans h.1, (c.pmc_txRings u x q n).trans h.2⟩
theorem sendOncePerMs (h : b.SameFrames c) (t x k a : Nat) : b.SameFrames (c.sendOncePerMs t x k a) :=
  ⟨(c.sendOncePerMs_frames t x k a).trans h.1, (c.sendOncePerMs_txRings t x k a).trans h.2⟩
theorem stageHost (h : b.SameFrames c) (x : HostFrame) : b.SameFrames (c.stageHost x) := by
  have hcount (a : Nat) : b.SameFrames (c.count a 1) := h.count a 1
  unfold Block.stageHost
  dsimp only
  split_ifs
  · split
    · exact hcount _
    · exact h
  · exact hcount _
  · exact (hcount _).sendOncePerMs _ _ _ _
  · exact (show b.SameFrames { c with slow := c.slow ++ [x] } from h).pmc _ _ _ _
theorem toHost (h : b.SameFrames c) (x : HostFrame) : b.SameFrames (c.toHost x) := by
  unfold Block.toHost
  dsimp only
  split
  · exact h.count _ _
  · exact h.stageHost _
theorem unitLimit (h : b.SameFrames c) (f : Frame) (r sub : Nat) : b.SameFrames (c.unitLimit f r sub) := by
  unfold Block.unitLimit
  dsimp only
  split
  · exact h.count _ _
  · split
    · exact (((show b.SameFrames (c.modPort _ _) from h).count _ _).pmc _ _ _ _).toHost _
    · exact (h.count _ _).sendOncePerMs _ _ _ _
theorem malLimit (h : b.SameFrames c) (f : Frame) (m : Nat) : b.SameFrames (c.malLimit f m) := by
  unfold Block.malLimit
  dsimp only
  split
  · exact h.count _ _
  · split
    · exact (show b.SameFrames (c.modCluster _ _) from h).toHost _
    · exact h.count _ _
end Block.SameFrames

/-- A frame that leaves the pipe. -/
theorem Block.InPipe.drops {i : Nat} (h : b.InPipe i c) (same : (c.dropFrame i).SameFrames d) : b.PipeTaken i d := by
  obtain ⟨hframes, hrings⟩ := same
  have hdel : d.frames = SMap.del c.frames i := hframes
  exact ⟨fun k hk => by rw [hdel, SMap.find_del_other _ hk, h.others k hk], hrings.trans h.rings, .inl (by rw [hdel, SMap.find_del_same])⟩

theorem Block.InPipe.classify {i : Nat} (h : b.InPipe i c) (sub : Nat) : b.PipeTaken i (c.classify i sub) := by
  unfold Block.classify
  extract_lets f C mal fail c1 c2
  have h1 : b.InPipe i c1 := h.modFrame _ (fun _ hx => hx) fun _ => rfl
  have h2 : b.InPipe i c2 := ((h1.count _ _).pmc _ _ _ _).sendOncePerMs _ _ _ _
  clear_value c2 c1
  split
  · split
    · exact h2.drops (.refl _)
    · exact h2.drops (.malLimit (.refl _) f mal)
    · exact h2.taken
  · split
    · exact h1.drops (.unitLimit (.refl _) f fail sub)
    · exact h1.taken

theorem Block.parseFrame_taken (b : Block) {i : Nat} (loc : (b.frame i).loc = .pipe) : b.PipeTaken i (b.parseFrame i) := by
  have hself : b.InPipe i b := ⟨fun _ _ => rfl, rfl, loc, rfl⟩
  have hgiven : b.InPipe i (b.headGiven i) := (hself.pmc _ _ _ _).modFrame _ (fun _ _ => rfl) fun _ => rfl
  have htaken : b.InPipe i (b.headTaken i) := by
    unfold Block.headTaken
    split
    · exact hgiven.fragFirst _ _ _
    · exact hgiven
  by_cases stop : (b.sieved i).stop = 0
  · rw [b.parseFrame_whole stop]
    exact htaken.classify 0
  · obtain ⟨c, hc⟩ : ∃ c, (b.headTaken i).pmc (.cls (clsOfPort (b.frame i).port)) 0x02 (b.sieved i).stop 1 = c := ⟨_, rfl⟩
    have hin : b.InPipe i c := hc ▸ htaken.pmc _ _ _ _
    have hrest : b.parseFrame i =
        if c.flag (R.CLS_HANDOFF (clsOfPort (b.frame i).port) (b.sieved i).stop) F.CLS_HANDOFF_ROUTINE_EN then
          c.modFrame i fun f => { f with me := .waiting (c.fld (R.CLS_HANDOFF (clsOfPort (b.frame i).port) (b.sieved i).stop) F.CLS_HANDOFF_ENTRY) }
        else if c.flag (R.CLS_HANDOFF (clsOfPort (b.frame i).port) (b.sieved i).stop) F.CLS_HANDOFF_NOROUTINE && (b.sieved i).mal == 0 then
          (c.modFrame i fun f => { f with hv := Vec.put f.hv 0 ⟨23, 20⟩ 2 }).classify i 0
        else c.classify i 0 := by
      rw [← hc]
      exact if_neg (mt beq_iff_eq.mp stop)
    rw [hrest]
    split
    · refine (hin.modFrame _ ?_ ?_).taken
      · exact fun _ hx => hx
      · exact fun _ => rfl
    · split
      · refine (hin.modFrame _ ?_ ?_).classify 0
        · exact fun _ hx => hx
        · exact fun _ => rfl
      · exact hin.classify 0
theorem Block.inject_idle (b : Block) {p : Nat} (h : b.mayTake p = false ∨ b.at_ p .staging ≠ [] ∨ b.injected p = []) : b.inject p = b := by
  unfold Block.inject
  by_cases hc : (!b.mayTake p || !(b.at_ p .staging).isEmpty) = true
  · exact if_pos hc
  · rw [Bool.or_eq_true, not_or, Bool.not_eq_true', Bool.not_eq_true', Bool.not_eq_false, Bool.not_eq_false, List.isEmpty_iff] at hc
    obtain ⟨may, staged⟩ := hc
    have hnone := (h.resolve_left (by simp [may])).resolve_left (not_not_intro staged)
    rw [hnone]
    exact ite_self b

theorem Block.inject_tells (b : Block) {p i : Nat} {f : Frame} {rest : List (Nat × Frame)} {h : HostTx} {x : TxFrame}
    (may : b.mayTake p = true) (staged : b.at_ p .staging = []) (head : b.injected p = (i, f) :: rest) (old : i < b.nextFrame)
    (host : f.host = some h) (sits : (b.txRing h.ring).frame = some x) (mine : x.id = some i) {j : Nat} (own : b.txOwner h.ring = some j) :
    let t := b.inject p
    (t.txRing h.ring).frame = none ∧ SMap.find t.frames i = none ∧
    (SMap.find t.frames b.nextFrame = none ∨ ((t.frame b.nextFrame).loc = .pipe ∧ (t.frame b.nextFrame).bytes = f.bytes)) := by
  intro t
  obtain ⟨c, hc⟩ : ∃ c, (b.dropFrame i).addFrame { f with loc := .pipe } = c := ⟨_, rfl⟩
  obtain ⟨d, hd⟩ : ∃ d, c.txComplete h.ring txOk = d := ⟨_, rfl⟩
  obtain ⟨e, he⟩ : ∃ e, d.injectRefill p = e := ⟨_, rfl⟩
  have honly : c = { b with frames := SMap.put (SMap.del b.frames i) b.nextFrame { f with loc := .pipe }, nextFrame := b.nextFrame + 1 } := by
    rw [← hc]
    rfl
  have hring : c.txRing h.ring = b.txRing h.ring := by rw [honly]; rfl
  have hsits : (c.txRing h.ring).frame = some x := by rw [hring, sits]
  have ht : t = e.parseFrame b.nextFrame := by
    rw [show t = b.inject p from rfl, Block.inject, if_neg (by simp [may, staged]), head]
    dsimp only
    rw [hc, host]
    dsimp only
    rw [hring, sits, Option.bind_some, mine, if_pos (beq_self_eq_true _), hd, he]
  clear_value t
  have hown : c.txOwner h.ring = some j := by
    rw [← own]
    exact ownerIn_congr h.ring fun k _ => by rw [honly]; rfl
  obtain ⟨hkeeps, hdone, -⟩ := c.txComplete_tells txOk hsits hown
  rw [hd] at hkeeps hdone
  have href : d.Refilled e := he ▸ d.injectRefill_refilled p
  have hnext : d.nextFrame = b.nextFrame + 1 := by rw [hkeeps.next, honly]
  have hframes : d.frames = SMap.put (SMap.del b.frames i) b.nextFrame { f with loc := .pipe } := by rw [hkeeps.frames, honly]
  have hnew : e.frame b.nextFrame = { f with loc := .pipe } := by
    rw [(href.kept b.nextFrame (by omega)).2, Block.frame, hframes, SMap.get_put_same]
  have hgone : SMap.find e.frames i = none := by
    rw [(href.kept i (by omega)).1, hframes, SMap.find_put_other _ _ (by omega), SMap.find_del_same]
  have htaken := e.parseFrame_taken (i := b.nextFrame) (by rw [hnew])
  rw [← ht] at htaken
  refine ⟨?_, by rw [htaken.others i (by omega), hgone], ?_⟩
  · rw [Block.txRing, htaken.rings, ← Block.txRing]
    exact href.free h.ring (by rw [hdone])
  · have hmine := htaken.mine
    rw [hnew] at hmine
    exact hmine

/-! ## INJECT_TIMEOUT and TX_DIRECT_HANDOFF (R388, R389) -/

/-- A frame that waits in the pipe's queue is dropped, one that has no number yet is not there. -/
def Block.dropNumbered (b : Block) : Option Nat → Block
  | some i => b.dropFrame i
  | none => b

theorem Block.txRefuse_eq (b : Block) {r : Nat} {f : TxFrame} (sits : (b.txRing r).frame = some f) (status : Nat) :
    b.txRefuse r status = ((b.dropNumbered f.id).txComplete r status).injectRefill f.port := by
  unfold Block.txRefuse
  rw [sits]
  cases hid : f.id <;> simp only [hid] <;> rfl

theorem Block.txRefuse_tells (b : Block) {r i : Nat} {f : TxFrame} {status : Nat} (sits : (b.txRing r).frame = some f) (own : b.txOwner r = some i)
    (bad : status ≠ txOk) :
    let t := b.txRefuse r status
    (t.txRing r).frame = none ∧ (∀ k, f.id = some k → k < b.nextFrame → SMap.find t.frames k = none) ∧
    t.ctr (txCounter i status) = (b.ctr (txCounter i status) + 1) % 2 ^ 64 := by
  intro t
  obtain ⟨c, hc⟩ : ∃ c, b.dropNumbered f.id = c := ⟨_, rfl⟩
  have honly : c = { b with frames := c.frames } := by
    rw [← hc]
    cases f.id <;> rfl
  obtain ⟨d, hd⟩ : ∃ d, c.txComplete r status = d := ⟨_, rfl⟩
  have ht : t = d.injectRefill f.port := by
    rw [← hd, ← hc]
    exact b.txRefuse_eq sits status
  clear_value t
  have hring : c.txRing r = b.txRing r := by rw [honly]; rfl
  have hown : c.txOwner r = some i := by
    rw [← own]
    exact ownerIn_congr r fun k _ => by rw [honly]; rfl
  obtain ⟨hkeeps, hdone, -, hctr, -⟩ := c.txComplete_tells status (by rw [hring, sits]) hown
  rw [hd] at hkeeps hdone hctr
  have href : d.Refilled t := ht ▸ d.injectRefill_refilled f.port
  refine ⟨href.free r (by rw [hdone]), fun k hk hold => ?_, ?_⟩
  · have hnext : d.nextFrame = b.nextFrame := by rw [hkeeps.next, honly]
    have hdrop : c.frames = SMap.del b.frames k := by rw [← hc, hk]; rfl
    rw [(href.kept k (by omega)).1, hkeeps.frames, hdrop, SMap.find_del_same]
  · have hsame : t.ctr (txCounter i status) = d.ctr (txCounter i status) := by
      obtain ⟨fs, n, tr, rfl⟩ := href.only
      rfl
    rw [hsame, hctr bad, honly]
    rfl

/-- Whether the frame at the head of ring r has stood there too long. -/
def Block.txLate (b : Block) (r : Nat) : Prop := (b.txRing r).since + b.fld R.HIF_TX_INJECT_LIMIT F.HIF_TX_INJECT_LIMIT_V * 1000 ≤ b.ticks

theorem Block.injectTimeout_none (b : Block) {r : Nat} (h : (b.txRing r).frame = none) : b.injectTimeout r = b := by
  unfold Block.injectTimeout
  rw [h]
theorem Block.injectTimeout_waits (b : Block) {r : Nat} {f : TxFrame} (sits : (b.txRing r).frame = some f) (h : f.direct = true ∨ ¬ b.txLate r) :
    b.injectTimeout r = b := by
  unfold Block.injectTimeout
  rw [sits]
  refine if_pos ?_
  rw [Bool.or_eq_true, decide_eq_true_eq]
  exact h.imp_right not_le.mp
theorem Block.injectTimeout_late (b : Block) {r : Nat} {f : TxFrame} (sits : (b.txRing r).frame = some f) (indirect : f.direct = false)
    (late : b.txLate r) : b.injectTimeout r = b.txRefuse r txTimeout := by
  unfold Block.injectTimeout
  rw [sits]
  refine if_neg ?_
  rw [Bool.or_eq_true, decide_eq_true_eq, not_or]
  exact ⟨ne_true_of_eq_false indirect, not_lt.mpr late⟩

theorem Block.txHandoff_none (b : Block) {r : Nat} (h : (b.txRing r).frame = none) : b.txHandoff r = b := by
  unfold Block.txHandoff
  rw [h]
theorem Block.txHandoff_indirect (b : Block) {r : Nat} {f : TxFrame} (sits : (b.txRing r).frame = some f) (indirect : f.direct = false) :
    b.txHandoff r = b := by
  unfold Block.txHandoff
  rw [sits]
  exact if_pos (by simp [indirect])

theorem Block.txHandoff_held (b : Block) {r i : Nat} {f : TxFrame} (sits : (b.txRing r).frame = some f) (own : b.txOwner r = some i)
    (direct : f.direct = true) (held : b.frozen (dieOfPort f.port) = true) :
    let t := b.txHandoff r
    (t.txRing r).frame = none ∧ t.hostLinks = b.hostLinks ∧ t.ctr (R.INS_TX_HELD i) = (b.ctr (R.INS_TX_HELD i) + 1) % 2 ^ 64 := by
  intro t
  have ht : t = b.txComplete r txHeld := by
    rw [show t = b.txHandoff r from rfl, Block.txHandoff, sits]
    exact (if_neg (by simp [direct])).trans (if_pos held)
  obtain ⟨hkeeps, hdone, -, hctr, -⟩ := b.txComplete_tells txHeld sits own
  rw [ht]
  exact ⟨by rw [hdone], hkeeps.hostLinks, hctr (by decide)⟩

/-- A direct frame as it enters the host link of its region (R389). -/
def Block.direct (b : Block) (f : TxFrame) : Pkt :=
  { bytes := f.bytes ++ fcsOf f.bytes, desc := f.desc, stamp := b.rxStamp f.port, advA := b.baseA.advance, advB := b.baseB.advance,
    die := dieOfPort f.port, host := some f.host }

theorem Block.txHandoff_live (b : Block) {r i : Nat} {f : TxFrame} (sits : (b.txRing r).frame = some f) (own : b.txOwner r = some i)
    (direct : f.direct = true) (live : b.frozen (dieOfPort f.port) = false) :
    let t := b.txHandoff r
    (t.txRing r).frame = none ∧ t.ctr (R.INS_TX_FRAMES i) = (b.ctr (R.INS_TX_FRAMES i) + 1) % 2 ^ 64 ∧
    ∃ k : Pkt, SMap.get [] t.hostLinks (rgnOfPort f.port) = SMap.get [] b.hostLinks (rgnOfPort f.port) ++ [{ pkt := k }] ∧
      k.bytes = f.bytes ++ fcsOf f.bytes ∧ k.desc = f.desc := by
  intro t
  obtain ⟨l, hl⟩ : ∃ l : List Transit, SMap.get [] b.hostLinks (rgnOfPort f.port) ++ [{ pkt := b.direct f }] = l := ⟨_, rfl⟩
  obtain ⟨c, hc⟩ : ∃ c, ({ b with hostLinks := SMap.set [] b.hostLinks (rgnOfPort f.port) l } : Block) = c := ⟨_, rfl⟩
  have ht : t = c.txComplete r txOk := by
    rw [← hc, ← hl, show t = b.txHandoff r from rfl, Block.txHandoff, sits]
    exact (if_neg (by simp [direct])).trans (if_neg (by simp [live]))
  have hring : c.txRing r = b.txRing r := by rw [← hc]; rfl
  have hown : c.txOwner r = some i := by
    rw [← own]
    exact ownerIn_congr r fun k _ => by rw [← hc]; rfl
  obtain ⟨hkeeps, hdone, -, -, hctr⟩ := c.txComplete_tells txOk (by rw [hring, sits]) hown
  rw [ht]
  refine ⟨by rw [hdone], ?_, b.direct f, ?_, rfl, rfl⟩
  · rw [hctr rfl, ← hc]
    rfl
  · rw [hkeeps.hostLinks, ← hc, hl]
    exact SMap.get_set_same _ _ _ _
/-! ## DMA_JOB_DONE (R401) -/

theorem Block.dispatchDma_idle (b : Block) (n : Nat) (h : b.jobs = []) : b.dispatchDma n = b := by
  cases n with
  | zero => rfl
  | succ n =>
    have hnone : b.nextJob = none := by rw [Block.nextJob, h]; rfl
    unfold Block.dispatchDma
    split
    · rfl
    · rw [hnone]

/-- The writes of a job reach host memory in their order. -/
theorem Block.dmaWrites_only (i : Nat) (l : List (Nat × List Byte)) (b : Block) :
    ∃ cs, l.foldl (fun b w => b.dmaWrite i w.1 w.2) b = { b with out := b.out ++ l.map (fun x => .dma i x.1 x.2), ctrs := cs } := by
  induction l generalizing b with
  | nil => exact ⟨b.ctrs, by simp⟩
  | cons w l ih =>
    have hcount : (b.emit (.dma i w.1 w.2)).Counted (b.dmaWrite i w.1 w.2) := (Block.Counted.refl _).pmc _ _ _ _
    obtain ⟨c, hc⟩ : ∃ c, b.dmaWrite i w.1 w.2 = c := ⟨_, rfl⟩
    rw [hc] at hcount
    obtain ⟨cs, hcs⟩ := ih c
    rw [List.foldl_cons, hc, hcs]
    refine ⟨cs, ?_⟩
    obtain ⟨cs', rfl⟩ := hcount
    rw [Block.emit, List.map_cons]
    simp only [List.append_assoc, List.singleton_append]

/-- The message of a ring goes out behind what went out before, and touches neither rings nor jobs. -/
def Block.Messaged (b c : Block) : Prop :=
  (∃ l, c.out = b.out ++ l) ∧ c.dmaEng = b.dmaEng ∧ c.jobs = b.jobs ∧ c.txRings = b.txRings ∧ c.rxRings = b.rxRings

theorem Block.msix_messaged (b : Block) (i v : Nat) : b.Messaged (b.msix i v) := by
  refine ⟨?_, b.msix_dmaEng i v, b.msix_jobs i v, b.msix_txRings i v, b.msix_rxRings i v⟩
  rw [Block.msix_out]
  split
  · exact ⟨_, rfl⟩
  · exact ⟨[], rfl⟩

theorem Block.Messaged.refl (b : Block) : b.Messaged b := ⟨⟨[], (List.append_nil _).symm⟩, rfl, rfl, rfl, rfl⟩

theorem Block.Messaged.ints {m : SMap RingInt} (h : ({ b with ringInts := m } : Block).Messaged d) : b.Messaged d := h

theorem Block.ringTry_messaged (b : Block) (tx : Bool) (i r : Nat) : b.Messaged (b.ringTry tx i r) := by
  unfold Block.ringTry
  dsimp only
  split
  · exact (Block.msix_messaged _ i _).ints
  · exact .refl b

theorem Block.ringDone_messaged (b : Block) (tx : Bool) (i r : Nat) : b.Messaged (b.ringDone tx i r) := by
  unfold Block.ringDone
  split
  · exact .refl b
  · exact (Block.ringTry_messaged _ tx i r).ints

/-- The block as engine e's job j has made its writes. -/
def Block.jobWritten (b : Block) (e : Nat) (j : Job) : Block :=
  j.writes.foldl (fun b w => b.dmaWrite j.inst w.1 w.2) (({ b with dmaEng := SMap.del b.dmaEng e } : Block).pmc .hif 0x01 j.inst 1)

theorem Block.jobWritten_only (b : Block) (e : Nat) (j : Job) : ∃ cs, b.jobWritten e j =
    { b with dmaEng := SMap.del b.dmaEng e, out := b.out ++ j.writes.map (fun x => .dma j.inst x.1 x.2), ctrs := cs } := by
  have hcount : ({ b with dmaEng := SMap.del b.dmaEng e } : Block).Counted (({ b with dmaEng := SMap.del b.dmaEng e } : Block).pmc .hif 0x01 j.inst 1) :=
    (Block.Counted.refl _).pmc _ _ _ _
  obtain ⟨c, hc⟩ : ∃ c, ({ b with dmaEng := SMap.del b.dmaEng e } : Block).pmc .hif 0x01 j.inst 1 = c := ⟨_, rfl⟩
  rw [Block.jobWritten, hc]
  rw [hc] at hcount
  obtain ⟨cs, hcs⟩ := Block.dmaWrites_only j.inst j.writes c
  refine ⟨cs, hcs.trans ?_⟩
  obtain ⟨cs', rfl⟩ := hcount
  rfl

theorem Block.dmaJobDone_none (b : Block) {e : Nat} (raw : List Byte) (h : SMap.find b.dmaEng e = none) : b.dmaJobDone e raw = b := by
  unfold Block.dmaJobDone
  rw [h]
theorem Block.dmaJobDone_behind (b : Block) {e : Nat} {j : Job} (raw : List Byte) (h : SMap.find b.dmaEng e = some j)
    (behind : b.dmaEng.any (fun x => x.2.sameOrder j && x.2.n < j.n) = true) : b.dmaJobDone e raw = b := by
  unfold Block.dmaJobDone
  rw [h]
  exact if_pos behind
theorem Block.dmaJobDone_ends (b : Block) {e : Nat} {j : Job} (raw : List Byte) (h : SMap.find b.dmaEng e = some j)
    (first : b.dmaEng.any (fun x => x.2.sameOrder j && x.2.n < j.n) = false) : b.dmaJobDone e raw =
      ((({ b with dmaEng := SMap.del b.dmaEng e } : Block).pmc .hif 0x01 j.inst 1).jobEffect j raw).dispatchDma 17 := by
  unfold Block.dmaJobDone
  rw [h]
  exact if_neg (ne_true_of_eq_false first)

theorem Block.Messaged.done {e : Nat} (h : c.Messaged d) (jobs : c.jobs = []) (eng : c.dmaEng = SMap.del b.dmaEng e) {w : List Output} (out : c.out = b.out ++ w) :
    (∃ l, (d.dispatchDma 17).out = b.out ++ w ++ l) ∧ (d.dispatchDma 17).dmaEng = SMap.del b.dmaEng e ∧
    (d.dispatchDma 17).txRings = c.txRings ∧ (d.dispatchDma 17).rxRings = c.rxRings := by
  obtain ⟨⟨l, hout⟩, heng, hjobs, htx, hrx⟩ := h
  rw [d.dispatchDma_idle 17 (hjobs.trans jobs)]
  exact ⟨⟨l, by rw [hout, out]⟩, heng.trans eng, htx, hrx⟩

/-- A write of descriptors completes: the frames of its ring that are done are counted, and the ring's message may go out. -/
theorem Block.dmaJobDone_ring (b : Block) {e r n : Nat} {j : Job} (raw : List Byte) (h : SMap.find b.dmaEng e = some j)
    (first : b.dmaEng.any (fun x => x.2.sameOrder j && x.2.n < j.n) = false) (jobs : b.jobs = [])
    (kind : j.kind = .txDone r n ∨ j.kind = .rxDesc r n) :
    let t := b.dmaJobDone e raw
    (∃ l, t.out = b.out ++ j.writes.map (fun x => .dma j.inst x.1 x.2) ++ l) ∧ t.dmaEng = SMap.del b.dmaEng e ∧
    (if j.kind = .txDone r n then (t.txRing r).hw = (b.txRing r).hw + n else (t.rxRing r).hw = (b.rxRing r).hw + n) := by
  intro t
  have ht : t = _ := b.dmaJobDone_ends raw h first
  clear_value t
  obtain ⟨cs, hwritten⟩ := b.jobWritten_only e j
  obtain ⟨c, hc⟩ : ∃ c, b.jobWritten e j = c := ⟨_, rfl⟩
  rw [hc] at hwritten
  unfold Block.jobEffect at ht
  rw [← Block.jobWritten, hc] at ht
  dsimp only at ht
  rcases kind with kind | kind
  · rw [kind] at ht ⊢
    obtain ⟨m, hm⟩ : ∃ m, c.modTxRing r (fun x => { x with hw := x.hw + n }) = m := ⟨_, rfl⟩
    dsimp only at ht
    rw [hm] at ht
    have honly : m = { c with txRings := m.txRings } := by rw [← hm, Block.modTxRing]
    obtain ⟨hout, heng, htx, -⟩ := (m.ringDone_messaged true j.inst r).done (b := b) (e := e) (by rw [honly, hwritten, jobs])
      (by rw [honly, hwritten]) (w := j.writes.map (fun x => .dma j.inst x.1 x.2)) (by rw [honly, hwritten])
    rw [← ht] at hout heng htx
    refine ⟨hout, heng, ?_⟩
    rw [if_pos rfl, Block.txRing, htx, ← Block.txRing, ← hm, Block.txRing_modTxRing, if_pos rfl, hwritten]
    rfl
  · rw [kind] at ht ⊢
    obtain ⟨m, hm⟩ : ∃ m, c.modRxRing r (fun x => { x with hw := x.hw + n }) = m := ⟨_, rfl⟩
    dsimp only at ht
    rw [hm] at ht
    have honly : m = { c with rxRings := m.rxRings } := by rw [← hm, Block.modRxRing]
    obtain ⟨hout, heng, -, hrx⟩ := (m.ringDone_messaged false j.inst r).done (b := b) (e := e) (by rw [honly, hwritten, jobs])
      (by rw [honly, hwritten]) (w := j.writes.map (fun x => .dma j.inst x.1 x.2)) (by rw [honly, hwritten])
    rw [← ht] at hout heng hrx
    refine ⟨hout, heng, ?_⟩
    rw [if_neg (by simp), Block.rxRing, hrx, ← Block.rxRing, ← hm, Block.rxRing_modRxRing, if_pos rfl, hwritten]
    rfl

/-- A job with no effect but its writes. -/
theorem Block.dmaJobDone_plain (b : Block) {e r : Nat} {j : Job} (raw : List Byte) (h : SMap.find b.dmaEng e = some j)
    (first : b.dmaEng.any (fun x => x.2.sameOrder j && x.2.n < j.n) = false) (jobs : b.jobs = [])
    (kind : j.kind = .rxBuf r ∨ j.kind = .winnow ∨ j.kind.isRead = true) :
    let t := b.dmaJobDone e raw
    t.out = b.out ++ j.writes.map (fun x => .dma j.inst x.1 x.2) ∧ t.dmaEng = SMap.del b.dmaEng e ∧ t.regs = b.regs := by
  intro t
  have ht : t = _ := b.dmaJobDone_ends raw h first
  clear_value t
  obtain ⟨cs, hwritten⟩ := b.jobWritten_only e j
  obtain ⟨c, hc⟩ : ∃ c, b.jobWritten e j = c := ⟨_, rfl⟩
  rw [hc] at hwritten
  have heffect : (({ b with dmaEng := SMap.del b.dmaEng e } : Block).pmc .hif 0x01 j.inst 1).jobEffect j raw = c := by
    unfold Block.jobEffect
    rw [← Block.jobWritten, hc]
    rcases kind with kind | kind | kind
    · rw [kind]
    · rw [kind]
    · revert kind
      cases j.kind <;> intro kind <;> cases kind <;> rfl
  rw [heffect, c.dispatchDma_idle 17 (by rw [hwritten, jobs])] at ht
  rw [ht, hwritten]
  exact ⟨rfl, rfl, rfl⟩

/-- Settles O37: the rings in turn, the failed reads, the injection buffers, the host links, and the engines. -/
theorem transmitRingsFetchInjectAndComplete : Obligations.TransmitRingsFetchInjectAndComplete := by
  unfold Obligations.TransmitRingsFetchInjectAndComplete
  refine ⟨fun b raw data => ?_, fun b i k => ?_, fun b n i r turn own => ?_, fun b p => ?_, fun b r => ?_, fun b e raw => ?_⟩
  · have hfetch : Takes (.txFetch raw data) b (b.txFetch raw data) := fun _ => rfl
    have herr : Takes (.dmaErr (.txData raw)) b (b.dmaErr (.txData raw)) := fun _ => rfl
    refine ⟨fun none => ⟨takes_congr hfetch ?_, takes_congr herr ?_⟩, fun i r turn own => ?_⟩
    · rw [Block.txFetch, none]
    · rw [Block.dmaErr, none]
    · rw [Block.txFetch_turn turn] at hfetch
      rw [Block.dmaErr_txData turn] at herr
      refine ⟨fun waits => ⟨takes_congr hfetch (Block.withRead_none _ waits _), takes_congr herr (Block.withRead_none _ waits _)⟩,
        fun c got => ?_⟩
      rw [Block.withRead_some _ got] at hfetch herr
      intro all
      refine ⟨fun none => takes_congr hfetch (by rw [Block.txDescs_none got own raw data _ none]), fun n whole => ?_⟩
      intro ds f ends passes
      obtain ⟨hslots, refused, held, live⟩ := Block.txDescs_tells got own raw data
        (fun ds b => (ds.foldl (fun b d => b.dmaRead i (leAt d 8 2)) b).injectTry r) whole
      obtain ⟨hslots', refused', -, live'⟩ := Block.txDescs_tells got own raw [] (fun _ b => (b.dmaFailed i).txComplete r txDmaErr) whole
      refine ⟨fun bad => ⟨hfetch.to (refused bad), herr.to (refused' bad)⟩, fun pass frozen => hfetch.to (held pass frozen),
        fun pass run direct => ?_, fun pass run indirect => ?_, fun pass run => ?_⟩
      · obtain ⟨e, begun, ht⟩ := live pass run
        have := (begun.segments ds).waits fun enters => ne_true_of_eq_false enters.1 direct
        rw [hslots] at this
        rw [ht] at hfetch
        exact hfetch.to this
      · obtain ⟨e, begun, ht⟩ := live pass run
        rw [ht] at hfetch
        refine ⟨fun room => hfetch.to ((begun.segments ds).enters ⟨indirect, rfl, room⟩), fun full => hfetch.to ?_⟩
        obtain ⟨hsits, -, -, hframes⟩ := (begun.segments ds).waits fun enters => absurd enters.2.2 (not_le.mpr full)
        exact ⟨hsits, hframes⟩
      · obtain ⟨e, begun, ht⟩ := live' pass run
        have := begun.dataFails own
        rw [hslots'] at this
        rw [ht] at herr
        exact herr.to this
  · have herr : Takes (.dmaErr (.pool i k)) b (b.dmaErr (.pool i k)) := fun _ => rfl
    refine ⟨fun idle => takes_congr herr (Block.dmaErr_pool_idle idle), fun busy waits => takes_congr herr ?_, fun busy got => ?_⟩
    · rw [Block.dmaErr_pool_busy busy, Block.withRead_none _ waits]
    · obtain ⟨c, hc⟩ := Option.isSome_iff_exists.mp got
      exact herr.to (Block.dmaErr_pool_tells busy hc)
  · have herr : Takes (.dmaErr (.txDesc n)) b (b.dmaErr (.txDesc n)) := fun _ => rfl
    refine ⟨fun waits => takes_congr herr ?_, fun got => herr.to ?_⟩
    · rw [Block.dmaErr_txDesc turn, Block.withRead_none _ waits]
    · obtain ⟨c, hc⟩ := Option.isSome_iff_exists.mp got
      obtain ⟨hnone, hfetch, -, -, hctr⟩ := Block.dmaErr_txDesc_tells turn own n hc
      exact ⟨hnone, hfetch, hctr⟩
  · have hinject : Takes (.inject p) b (b.inject p) := fun _ => rfl
    refine ⟨fun idle => takes_congr hinject (b.inject_idle idle), fun i f rest h x may staged head _ old host sits mine own => ?_⟩
    obtain ⟨j, hj⟩ := Option.ne_none_iff_exists'.mp own
    exact hinject.to (b.inject_tells may staged head old host sits mine hj)
  · have hlate : Takes (.injectTimeout r) b (b.injectTimeout r.toNat) := fun _ => rfl
    have hoff : Takes (.txDirectHandoff r) b (b.txHandoff r.toNat) := fun _ => rfl
    refine ⟨fun none => ⟨takes_congr hlate (b.injectTimeout_none none), takes_congr hoff (b.txHandoff_none none)⟩, fun f i sits own => ?_⟩
    refine ⟨fun waits => takes_congr hlate (b.injectTimeout_waits sits waits), fun indirect late => ?_,
      fun indirect => takes_congr hoff (b.txHandoff_indirect sits indirect), fun direct held => hoff.to (b.txHandoff_held sits own direct held),
      fun direct live => hoff.to (b.txHandoff_live sits own direct live)⟩
    rw [b.injectTimeout_late sits indirect late] at hlate
    exact hlate.to (b.txRefuse_tells sits own (status := txTimeout) (by decide))
  · have hdone : Takes (.dmaJobDone e raw) b (b.dmaJobDone e raw) := fun _ => rfl
    refine ⟨fun none => takes_congr hdone (b.dmaJobDone_none raw none), fun j sits => ⟨fun behind => takes_congr hdone ?_, fun first jobs => ⟨?_, ?_⟩⟩⟩
    · exact b.dmaJobDone_behind raw sits behind
    · exact fun r n kind => hdone.to (b.dmaJobDone_ring raw sits first jobs kind)
    · exact fun r kind => hdone.to (b.dmaJobDone_plain raw sits first jobs kind)

end Sys2Proof.Machine
end

section
/-!
PROOFS. Staged frames and the buffer pools (R376, R391, R394 to R397, R401); and O38 from these.
-/
namespace Sys2Proof.Machine
open Sys2Proof

variable {b c d : Block}

/-! ## What the delivery of a frame reads -/

/-- From b to c nothing changed that the delivery of a staged frame reads, but for the pools. -/
structure Block.RxKeeps (b c : Block) : Prop where
  slow : c.slow = b.slow
  rings : c.rxRings = b.rxRings
  ticks : c.ticks = b.ticks
  word : ∀ a, a % 0x1000 ≠ 0x400 → c.word a = b.word a
  low : b.SameLow c

namespace Block.RxKeeps

theorem refl (b : Block) : b.RxKeeps b := ⟨rfl, rfl, rfl, fun _ _ => rfl, .refl b⟩
theorem trans (h : b.RxKeeps c) (h' : c.RxKeeps d) : b.RxKeeps d :=
  ⟨h'.slow.trans h.slow, h'.rings.trans h.rings, h'.ticks.trans h.ticks, fun a ha => (h'.word a ha).trans (h.word a ha), h.low.trans h'.low⟩
theorem counted (h : b.Counted c) : b.RxKeeps c := by
  obtain ⟨cs, rfl⟩ := h
  exact ⟨rfl, rfl, rfl, fun _ _ => rfl, fun _ _ => rfl⟩
theorem of_dma (h : b.OnDma c) (low : b.SameLow c) : b.RxKeeps c := by
  have hword := h.word
  obtain ⟨rs, cs, js, n, es, l, rfl⟩ := h.only
  exact ⟨rfl, rfl, rfl, hword, low⟩
theorem modPool (b : Block) (i k : Nat) (f : Pool → Pool) : b.RxKeeps (b.modPool i k f) := ⟨rfl, rfl, rfl, fun _ _ => rfl, fun _ _ => rfl⟩

theorem fld (h : b.RxKeeps c) {a : Nat} (ha : a % 0x1000 ≠ 0x400) (f : Bf) : c.fld a f = b.fld a f := Block.fld_of_word (h.word a ha) f
theorem free (h : b.RxKeeps c) {r : Nat} (hr : r < 0xB000) : c.rxFree r = b.rxFree r := by
  have hring : c.rxRing r = b.rxRing r := by rw [Block.rxRing, h.rings, ← Block.rxRing]
  rw [Block.rxFree, Block.rxSize, Block.fld_of_word (h.low _ (by unfold R.HIF_RXR_CFG hifBase; omega)), hring, ← Block.rxSize, ← Block.rxFree]
theorem on (h : b.RxKeeps c) (i k : Nat) : c.poolOn i k = b.poolOn i k := by
  rw [Block.poolOn, Block.flag, h.fld (by unfold R.INS_POOL_CFG insBase; omega), ← Block.flag, ← Block.poolOn]

end Block.RxKeeps

/-! ## The buffers of a pool (R395) -/

/-- A pool that is on, whose read has not failed and that has a buffer in its cache, has buffers. -/
theorem Block.poolHas_of_cache (b : Block) {i k : Nat} (on : b.poolOn i k = true) (sound : (b.pool i k).failed = false) (some : (b.pool i k).cache ≠ []) :
    b.poolHas i k = true := by
  have : (b.pool i k).cache.isEmpty = false := by simpa using some
  simp [Block.poolHas, on, sound, this]

theorem Block.on_of_poolHas {i k : Nat} (h : b.poolHas i k = true) : b.poolOn i k = true ∧ (b.pool i k).failed = false := by
  unfold Block.poolHas at h
  simp only [Bool.and_eq_true, Bool.not_eq_true'] at h
  exact h.1

theorem choosePool_has {i n k : Nat} (h : (b.choosePool i n).2 = some k) : b.poolHas i k = true ∧ k < 4 := by
  have hlt : ((List.range 4).find? fun k => decide (n ≤ poolBytes k)).getD 3 < 4 := by
    cases hf : (List.range 4).find? fun k => decide (n ≤ poolBytes k) with
    | none => decide
    | some m => exact List.mem_range.mp (List.mem_of_find?_eq_some hf)
  unfold Block.choosePool at h
  dsimp only at h
  refine ⟨List.find?_some h, ?_⟩
  have hmem := List.mem_of_find?_eq_some h
  simp only [List.mem_cons, List.mem_append, List.mem_reverse, List.mem_map, List.mem_range] at hmem
  omega
/-- The first buffer of the cache takes the next part of the frame. -/
def Block.bufFilled (b : Block) (i k a : Nat) (rest : List Nat) (h : HostFrame) : Block :=
  (b.modPool i k fun x => { x with cache := rest }).pushJob i (.rxBuf h.ring)
    [(a, slice h.bytes (h.written.length * poolBytes k) (min h.bytes.length (h.written.length * poolBytes k + poolBytes k)))]
def HostFrame.bufFilled (h : HostFrame) (k a : Nat) : HostFrame :=
  { h with written := h.written ++ [(a, (slice h.bytes (h.written.length * poolBytes k)
    (min h.bytes.length (h.written.length * poolBytes k + poolBytes k))).length)] }

theorem Block.rxFill_next (b : Block) {i k need a : Nat} {rest : List Nat} (fuel : Nat) {h : HostFrame} (more : h.written.length < need)
    (has : b.poolHas i k = true) (cache : (b.pool i k).cache = a :: rest) :
    b.rxFill i k need (fuel + 1) h = (b.bufFilled i k a rest h).rxFill i k need fuel (h.bufFilled k a) := by
  rw [Block.rxFill, if_neg (not_le.mpr more), if_pos has, cache]
  rfl

theorem Block.rxFill_done (b : Block) {i k need : Nat} (fuel : Nat) {h : HostFrame} (done : need ≤ h.written.length) :
    b.rxFill i k need fuel h = (h, b) := by
  cases fuel with
  | zero => rfl
  | succ fuel => rw [Block.rxFill, if_pos done]

theorem Block.bufFilled_tells (b : Block) (i k a : Nat) (rest : List Nat) (h : HostFrame) :
    let t := b.bufFilled i k a rest h
    b.RxKeeps t ∧ t.pool i k = { b.pool i k with cache := rest } ∧ ∀ x, rowPage x → t.ctr x = b.ctr x := by
  intro t
  obtain ⟨c, hc⟩ : ∃ c, b.modPool i k (fun x => { x with cache := rest }) = c := ⟨_, rfl⟩
  have hdma : c.OnDma t := hc ▸ .pushJob i _ _
  have hlow : c.SameLow t := hc ▸ Block.pushJob_low _ i _ _
  clear_value t
  have hbc : b.RxKeeps c := hc ▸ .modPool b i k _
  refine ⟨hbc.trans (.of_dma hdma hlow), ?_, fun x hx => ?_⟩
  · have hpools : t.pools = c.pools := by
      obtain ⟨rs, cs, js, n, es, l, rfl⟩ := hdma.only
      rfl
    rw [Block.pool, hpools, ← hc, Block.pool_modPool, if_pos rfl]
  · rw [hdma.row hx, ← hc, Block.modPool_ctr]

/-- With buffers enough in the cache the whole frame is written. -/
theorem Block.rxFill_tells {i k need : Nat} (fuel : Nat) (b : Block) (h : HostFrame) (on : b.poolOn i k = true)
    (sound : (b.pool i k).failed = false) (some : need ≤ h.written.length + (b.pool i k).cache.length) (enough : need ≤ h.written.length + fuel)
    (upto : h.written.length ≤ need) :
    let y := b.rxFill i k need fuel h
    y.1.written.length = need ∧ y.1.ring = h.ring ∧ b.RxKeeps y.2 ∧
    (y.2.pool i k).cache = (b.pool i k).cache.drop (need - h.written.length) ∧ ∀ x, rowPage x → y.2.ctr x = b.ctr x := by
  induction fuel generalizing b h with
  | zero =>
    rw [b.rxFill_done 0 (by omega)]
    exact ⟨by dsimp only; omega, rfl, .refl b, by rw [show need - h.written.length = 0 by omega, List.drop_zero], fun _ _ => rfl⟩
  | succ fuel ih =>
    by_cases done : need ≤ h.written.length
    · rw [b.rxFill_done _ done]
      exact ⟨by dsimp only; omega, rfl, .refl b, by rw [show need - h.written.length = 0 by omega, List.drop_zero], fun _ _ => rfl⟩
    · obtain ⟨a, rest, hcache⟩ : ∃ a rest, (b.pool i k).cache = a :: rest := List.exists_cons_of_ne_nil (by rintro e; rw [e] at some; simp at some; omega)
      have hlen : (b.pool i k).cache.length = rest.length + 1 := by rw [hcache, List.length_cons]
      rw [b.rxFill_next fuel (by omega) (b.poolHas_of_cache on sound (by rw [hcache]; simp)) hcache]
      obtain ⟨hkeeps, hpool, hrow⟩ := b.bufFilled_tells i k a rest h
      generalize b.bufFilled i k a rest h = c at *
      have hwritten : (h.bufFilled k a).written.length = h.written.length + 1 := List.length_append
      obtain ⟨ylen, yring, ykeeps, ycache, yrow⟩ := ih c (h.bufFilled k a) (by rw [hkeeps.on, on]) (by rw [hpool, sound])
        (by rw [hwritten, hpool]; dsimp only; omega) (by omega) (by omega)
      refine ⟨ylen, yring, hkeeps.trans ykeeps, ?_, fun x hx => (yrow x hx).trans (hrow x hx)⟩
      rw [ycache, hpool, hwritten, hcache, show need - h.written.length = need - (h.written.length + 1) + 1 by omega, List.drop_succ_cons]

/-! ## RX_DELIVER (R394 to R397) -/

/-- The pool of a frame that has none yet is chosen; an empty one of its size is counted. -/
theorem Block.rxPool_none (b : Block) (i : Nat) {h : HostFrame} (none : h.pool = none) :
    (b.rxPool i h).1 = { h with pool := (b.choosePool i h.bytes.length).2, counted := true } ∧ b.Counted (b.rxPool i h).2 ∧
    (b.rxPool i h).2.ctr (R.INS_RX_FRAMES i) = b.ctr (R.INS_RX_FRAMES i) := by
  have hne (k : Nat) : R.INS_RX_FRAMES i ≠ R.INS_POOL_EMPTY i k := by unfold R.INS_RX_FRAMES R.INS_POOL_EMPTY insBase; omega
  unfold Block.rxPool
  rw [none]
  dsimp only
  refine ⟨rfl, ?_, ?_⟩
  · split
    · exact (Block.Counted.refl b).count _ _
    · exact .refl b
  · split
    · exact b.ctr_count_other _ (hne _)
    · rfl

/-- A frame that waits keeps the tick from which it has. -/
def Block.waiting (b : Block) (h : HostFrame) : HostFrame := { h with waitFrom := h.waitFrom.or (some b.ticks) }

/-- Whether ring r takes frames. -/
def Block.rxOn (b : Block) (i r : Nat) : Prop := b.rxEnabled r = true ∧ b.fld (R.INS_INS_STATUS i) F.INS_INS_STATUS_PHASE ≠ 2

theorem Block.slowOf_single {h : HostFrame} {r : Nat} (single : b.slow = [h]) (ring : h.ring = r) : b.slowOf r = some 0 := by
  unfold Block.slowOf
  rw [single]
  simp [ring]

/-- The delivery of the one frame staged, with its pool chosen. -/
def Block.rxGoesOn (b : Block) (i r : Nat) (h : HostFrame) (k : Nat) : Block :=
  let need := buffersOf h.bytes.length k
  if h.written.isEmpty && b.rxFree r < need then b.modSlow 0 fun _ => b.waiting h
  else
    let y := b.rxFill i k need 33 h
    if y.1.written.length ≥ need then y.2.rxFinish 0 i y.1 false
    else y.2.modSlow 0 fun _ => if y.2.poolHas i k then y.1 else b.waiting y.1

theorem Block.rxDeliver_off {i r : Nat} {h : HostFrame} (single : b.slow = [h]) (ring : h.ring = r) (own : b.rxOwner r = some i)
    (off : ¬ b.rxOn i r) : b.rxDeliver r = b := by
  unfold Block.rxDeliver
  rw [Block.slowOf_single single ring, own]
  dsimp only
  rw [single, List.getElem?_cons_zero]
  refine if_pos ?_
  rw [Bool.or_eq_true, Bool.not_eq_true', beq_iff_eq]
  unfold Block.rxOn at off
  rw [not_and_or, not_not, Bool.not_eq_true] at off
  exact off

theorem Block.rxDeliver_on {i r : Nat} {h : HostFrame} (single : b.slow = [h]) (ring : h.ring = r) (own : b.rxOwner r = some i)
    (on : b.rxOn i r) (fresh : h.pool = none) :
    let x : HostFrame := { h with pool := (b.choosePool i h.bytes.length).2, counted := true }
    let c := (b.rxPool i h).2
    ((b.choosePool i h.bytes.length).2 = none → b.rxDeliver r = c.modSlow 0 fun _ => c.waiting x) ∧
    ∀ k, (b.choosePool i h.bytes.length).2 = some k → b.rxDeliver r = c.rxGoesOn i r x k := by
  intro x c
  obtain ⟨hx, -, -⟩ := b.rxPool_none i fresh
  have ht : b.rxDeliver r = match x.pool with
      | none => c.modSlow 0 fun _ => c.waiting x
      | some k => c.rxGoesOn i r x k := by
    have hx' : (b.rxPool i h).1 = x := hx
    unfold Block.rxDeliver
    rw [Block.slowOf_single single ring, own]
    dsimp only
    rw [single, List.getElem?_cons_zero]
    dsimp only
    rw [hx']
    obtain ⟨enabled, phase⟩ := on
    exact if_neg (by simp [enabled, phase])
  rw [ht]
  refine ⟨fun none => ?_, fun k some => ?_⟩
  · rw [show x.pool = Option.none from none]
  · rw [show x.pool = Option.some k from some]

theorem Block.modSlow_single {h : HostFrame} (single : b.slow = [h]) (f : HostFrame → HostFrame) : (b.modSlow 0 f).slow = [f h] := by
  rw [Block.modSlow, single]
  rfl
/-- The one frame staged completes: its ring's slots are taken, and it is counted. -/
theorem Block.rxFinish_tells (b : Block) {i : Nat} (hi : i < 256) {h : HostFrame} {s : HostFrame} (single : b.slow = [s]) :
    let t := b.rxFinish 0 i h false
    t.slow = [] ∧ (t.rxRing h.ring).alloc = (b.rxRing h.ring).alloc + h.written.length ∧ t.pools = b.pools ∧
    t.ctr (R.INS_RX_FRAMES i) = (b.ctr (R.INS_RX_FRAMES i) + 1) % 2 ^ 64 := by
  intro t
  obtain ⟨c, hc⟩ : ∃ c, (b.dropSlow 0).modRxRing h.ring (fun x => { x with alloc := (b.rxRing h.ring).alloc + h.written.length }) = c := ⟨_, rfl⟩
  obtain ⟨d, hd⟩ : ∃ d, (c.count (R.INS_RX_FRAMES i) 1).count (R.INS_RX_BYTES i) h.bytes.length = d := ⟨_, rfl⟩
  have hcount : c.Counted d := hd ▸ ((Block.Counted.refl c).count _ _).count _ _
  have ht : t = d.pushJob i (.rxDesc h.ring h.written.length) ((List.range h.written.length).map fun k =>
      (d.rxSlot h.ring ((b.rxRing h.ring).alloc + k), rxDescriptor h k h.written.length (h.pool.getD 0)
        (phaseOf (d.rxSize h.ring) ((b.rxRing h.ring).alloc + k)) (h.written.getD k (0, 0)) false)) := by
    rw [show t = b.rxFinish 0 i h false from rfl, Block.rxFinish]
    rw [if_neg Bool.false_ne_true, hc, hd]
  have hdma : d.OnDma t := ht ▸ .pushJob i _ _
  clear_value t
  have hslow : c.slow = [] := by
    rw [← hc]
    show b.slow.eraseIdx 0 = []
    rw [single]
    rfl
  have hring : c.rxRing h.ring = { b.rxRing h.ring with alloc := (b.rxRing h.ring).alloc + h.written.length } := by
    rw [← hc, Block.rxRing_modRxRing, if_pos rfl]
    rfl
  have hpools : c.pools = b.pools := by rw [← hc]; rfl
  have hctr : c.ctr (R.INS_RX_FRAMES i) = b.ctr (R.INS_RX_FRAMES i) := by rw [← hc]; rfl
  have hdctr : d.ctr (R.INS_RX_FRAMES i) = (b.ctr (R.INS_RX_FRAMES i) + 1) % 2 ^ 64 := by
    have hne : R.INS_RX_FRAMES i ≠ R.INS_RX_BYTES i := by unfold R.INS_RX_FRAMES R.INS_RX_BYTES insBase; omega
    rw [← hd, Block.ctr_count_other _ _ hne, Block.ctr_count_same _ _ _ (c.stopped_inst (by unfold R.INS_RX_FRAMES insBase; omega)), hctr]
  have htctr : t.ctr (R.INS_RX_FRAMES i) = d.ctr (R.INS_RX_FRAMES i) := hdma.row (by unfold rowPage R.INS_RX_FRAMES insBase; omega)
  obtain ⟨cs, rfl⟩ := hcount
  obtain ⟨rs, cs', js, n, es, l, rfl⟩ := hdma.only
  exact ⟨hslow, congrArg RxRing.alloc hring, hpools, htctr.trans hdctr⟩

theorem Block.rxOwner_bounds {r i : Nat} (h : b.rxOwner r = some i) : i < 256 ∧ r < 0xB000 := by
  obtain ⟨hmem, hin⟩ := ownerIn_some h
  refine ⟨?_, inRange_lt hin⟩
  simp only [List.mem_append, List.mem_map, List.mem_range, List.mem_singleton] at hmem
  omega

/-- The staged frame waits. -/
def Block.rxWaits (b : Block) (h x : HostFrame) (t : Block) : Prop :=
  (∃ y : HostFrame, t.slow = [y] ∧ y.waitFrom = h.waitFrom.or (some b.ticks) ∧ y.bytes = h.bytes ∧ y.written = [] ∧ y.pool = x.pool) ∧
  t.rxRings = b.rxRings

theorem Block.rxDeliver_waits {i r : Nat} {h : HostFrame} (single : b.slow = [h]) (ring : h.ring = r) (own : b.rxOwner r = some i)
    (unwritten : h.written = []) (fresh : h.pool = none) (on : b.rxOn i r) :
    ((b.choosePool i h.bytes.length).2 = none → b.rxWaits h { h with pool := none } (b.rxDeliver r)) ∧
    ∀ k, (b.choosePool i h.bytes.length).2 = some k → b.rxFree r < buffersOf h.bytes.length k →
      b.rxWaits h { h with pool := some k } (b.rxDeliver r) := by
  obtain ⟨hempty, hfound⟩ := Block.rxDeliver_on single ring own on fresh
  obtain ⟨-, hcount, -⟩ := b.rxPool_none i fresh
  obtain ⟨c, hc⟩ : ∃ c, (b.rxPool i h).2 = c := ⟨_, rfl⟩
  rw [hc] at hempty hfound hcount
  have hkeeps : b.RxKeeps c := .counted hcount
  have hsingle : c.slow = [h] := hkeeps.slow.trans single
  have hwait {x : HostFrame} (hx : x.waitFrom = h.waitFrom) : (c.waiting x).waitFrom = h.waitFrom.or (some b.ticks) := by
    rw [Block.waiting, hx, hkeeps.ticks]
  refine ⟨fun none => ?_, fun k some full => ?_⟩
  · rw [hempty none]
    exact ⟨⟨_, Block.modSlow_single hsingle _, hwait rfl, rfl, unwritten, none⟩, hkeeps.rings⟩
  · rw [hfound k some, Block.rxGoesOn]
    have hlate : c.rxFree r < buffersOf h.bytes.length k := by rwa [hkeeps.free (Block.rxOwner_bounds own).2]
    rw [if_pos (by simp [unwritten, hlate])]
    exact ⟨⟨_, Block.modSlow_single hsingle _, hwait rfl, rfl, unwritten, some⟩, hkeeps.rings⟩

theorem Block.rxDeliver_ends {i r k : Nat} {h : HostFrame} (single : b.slow = [h]) (ring : h.ring = r) (own : b.rxOwner r = some i)
    (unwritten : h.written = []) (fresh : h.pool = none) (on : b.rxOn i r) (some : (b.choosePool i h.bytes.length).2 = some k)
    (free : buffersOf h.bytes.length k ≤ b.rxFree r) (cached : buffersOf h.bytes.length k ≤ (b.pool i k).cache.length)
    (short : buffersOf h.bytes.length k ≤ 33) :
    let t := b.rxDeliver r
    t.slow = [] ∧ (t.rxRing r).alloc = (b.rxRing r).alloc + buffersOf h.bytes.length k ∧
    (t.pool i k).cache = (b.pool i k).cache.drop (buffersOf h.bytes.length k) ∧
    t.ctr (R.INS_RX_FRAMES i) = (b.ctr (R.INS_RX_FRAMES i) + 1) % 2 ^ 64 := by
  obtain ⟨hi, hr⟩ := Block.rxOwner_bounds own
  obtain ⟨-, hfound⟩ := Block.rxDeliver_on single ring own on fresh
  obtain ⟨-, hcount, hframes⟩ := b.rxPool_none i fresh
  obtain ⟨c, hc⟩ : ∃ c, (b.rxPool i h).2 = c := ⟨_, rfl⟩
  rw [hc] at hfound hcount hframes
  have hkeeps : b.RxKeeps c := .counted hcount
  have hpools : c.pools = b.pools := by
    obtain ⟨cs, rfl⟩ := hcount
    rfl
  have hpool : c.pool i k = b.pool i k := by rw [Block.pool, hpools, ← Block.pool]
  obtain ⟨hhas, -⟩ := choosePool_has some
  obtain ⟨hon, hsound⟩ := Block.on_of_poolHas hhas
  have hlen : h.written.length = 0 := by rw [unwritten, List.length_nil]
  obtain ⟨x, hx⟩ : ∃ x : HostFrame, { h with pool := (b.choosePool i h.bytes.length).2, counted := true } = x := ⟨_, rfl⟩
  have hxwritten : x.written.length = 0 := by rw [← hx, hlen]
  have hxring : x.ring = r := by rw [← hx, ring]
  have hxbytes : x.bytes = h.bytes := by rw [← hx]
  obtain ⟨ylen, yring, ykeeps, ycache, yrow⟩ := Block.rxFill_tells (need := buffersOf h.bytes.length k) 33 c x (by rw [hkeeps.on, hon])
    (by rw [hpool, hsound]) (by rw [hpool]; omega) (by omega) (by omega)
  have ht : b.rxDeliver r = (c.rxFill i k (buffersOf h.bytes.length k) 33 x).2.rxFinish 0 i (c.rxFill i k (buffersOf h.bytes.length k) 33 x).1 false := by
    have hlate : ¬ c.rxFree r < buffersOf h.bytes.length k := by rw [hkeeps.free hr]; omega
    rw [hfound k some, hx, Block.rxGoesOn]
    dsimp only
    rw [hxbytes]
    exact (if_neg (by simp [hlate])).trans (if_pos (by omega))
  rw [ht]
  generalize c.rxFill i k (buffersOf h.bytes.length k) 33 x = y at *
  obtain ⟨tslow, talloc, tpools, tctr⟩ := Block.rxFinish_tells y.2 hi (h := y.1) (s := h) (ykeeps.slow.trans (hkeeps.slow.trans single))
  have hrings : y.2.rxRing r = b.rxRing r := by rw [Block.rxRing, ykeeps.rings, hkeeps.rings, ← Block.rxRing]
  rw [yring, hxring, ylen, hrings] at talloc
  refine ⟨tslow, talloc, ?_, ?_⟩
  · rw [Block.pool, tpools, ← Block.pool, ycache, hpool, hxwritten, Nat.sub_zero]
  · rw [tctr, yrow _ (by unfold rowPage R.INS_RX_FRAMES insBase; omega), hframes]

/-! ## POOL_WAIT_EXPIRE (R396) -/

theorem Block.poolWaitExpire_single {i r : Nat} {h : HostFrame} (single : b.slow = [h]) (ring : h.ring = r) (own : b.rxOwner r = some i)
    (unwritten : h.written = []) (fresh : h.pool = none) :
    (h.waitFrom = none → b.poolWaitExpire r = b) ∧ ∀ n, h.waitFrom = some n →
      b.poolWaitExpire r = if b.ticks < n + b.fld R.HIF_POOL_WAIT F.HIF_POOL_WAIT_V * 1000 then b
        else (b.dropSlow 0).count (R.INS_RX_POOL_DROP i) 1 := by
  unfold Block.poolWaitExpire
  rw [Block.slowOf_single single ring, own]
  dsimp only
  rw [single, List.getElem?_cons_zero]
  dsimp only
  refine ⟨fun none => by rw [none], fun n some => ?_⟩
  rw [some]
  dsimp only
  rw [unwritten, fresh]
  dsimp only
  rw [if_pos (show List.isEmpty [] = true from rfl), if_neg Bool.false_ne_true]

theorem Block.dropSlow_count (b : Block) {h : HostFrame} (a : Nat) (single : b.slow = [h]) :
    let t := (b.dropSlow 0).count a 1
    t.slow = [] ∧ t.ctrs = (b.count a 1).ctrs ∧ t.regs = b.regs := by
  intro t
  refine ⟨?_, ?_, Block.count_regs _ _ _⟩
  · rw [show t = (b.dropSlow 0).count a 1 from rfl, Block.count_slow, Block.dropSlow, single]
    rfl
  · rw [show t = (b.dropSlow 0).count a 1 from rfl, Block.count, Block.count, show (b.dropSlow 0).stopped a = b.stopped a from rfl]
    split <;> rfl

/-! ## POOL_FETCH (R395, R396) -/

/-- How many buffers a read of pool k's free ring brings. -/
def Block.poolRoom (b : Block) (i k : Nat) : Nat := min (64 - (b.pool i k).cache.length) (b.poolEntries i k)

/-- Whether the pool's cache is not to be filled now. -/
def Block.fetchIdle (b : Block) (i k : Nat) : Prop :=
  b.poolOn i k = false ∨ b.resetting i = true ∨ (b.pool i k).failed = true ∨ 32 ≤ (b.pool i k).cache.length ∨ b.poolRoom i k = 0

theorem Block.fetchIdle_iff (b : Block) (i k : Nat) :
    (!b.poolOn i k || b.resetting i || (b.pool i k).failed || (b.pool i k).cache.length ≥ 32 || b.poolRoom i k == 0) = true ↔ b.fetchIdle i k := by
  unfold Block.fetchIdle
  simp only [Bool.or_eq_true, Bool.not_eq_true', decide_eq_true_eq, beq_iff_eq, or_assoc, ge_iff_le]

/-- Pool x with n entries of its free ring of 2^l more. -/
def Pool.filled (x : Pool) (n l : Nat) (raw : List Byte) : Pool :=
  { x with cache := x.cache ++ (List.range n).map (fun j => leVal (slice raw (8 * j) (8 * j + 8))), head := (x.head + n) % 2 ^ l }

/-- The read of a pool's free ring takes its data. -/
def Block.poolFilled (b : Block) (i k n : Nat) (raw : List Byte) : Block :=
  (b.dmaRead i (8 * n)).modPool i k fun x => x.filled n (b.fld (R.INS_POOL_CFG i k) F.INS_POOL_CFG_SIZE_LOG2) raw

theorem Block.poolFetch_idle (b : Block) {i k : Nat} (raw : List Byte) (idle : b.fetchIdle i k) : b.poolFetch i k raw = b :=
  if_pos ((b.fetchIdle_iff i k).mpr idle)
theorem Block.poolFetch_busy (b : Block) {i k : Nat} (raw : List Byte) (busy : ¬ b.fetchIdle i k) : b.poolFetch i k raw =
    b.withRead i (.poolRead k) fun c => ((c.poolFilled i k (b.poolRoom i k) raw).waitingRings i).foldl (fun b r => b.rxDeliver r)
      (c.poolFilled i k (b.poolRoom i k) raw) :=
  if_neg (mt (b.fetchIdle_iff i k).mp busy)

theorem Block.poolFetch_tells (b : Block) {i k : Nat} (raw : List Byte) (busy : ¬ b.fetchIdle i k) (got : b.readGot i (.poolRead k) = some c)
    (empty : b.slow = []) :
    let t := b.poolFetch i k raw
    t.pool i k = (b.pool i k).filled (b.poolRoom i k) (b.fld (R.INS_POOL_CFG i k) F.INS_POOL_CFG_SIZE_LOG2) raw ∧
    (∀ q, q ≠ i * 4 + k → SMap.get {} t.pools q = SMap.get {} b.pools q) ∧ t.slow = [] ∧ t.rxRings = b.rxRings := by
  intro t
  have hdma : b.OnDma c := .readGot got
  have hsize : c.fld (R.INS_POOL_CFG i k) F.INS_POOL_CFG_SIZE_LOG2 = b.fld (R.INS_POOL_CFG i k) F.INS_POOL_CFG_SIZE_LOG2 :=
    hdma.fld (by unfold R.INS_POOL_CFG insBase; omega) _
  obtain ⟨d, hd⟩ : ∃ d, c.dmaRead i (8 * b.poolRoom i k) = d := ⟨_, rfl⟩
  have hcount : c.Counted d := hd ▸ c.dmaRead_counted _ _
  obtain ⟨e, he⟩ : ∃ e, c.poolFilled i k (b.poolRoom i k) raw = e := ⟨_, rfl⟩
  have hmod : e = d.modPool i k fun x => x.filled (b.poolRoom i k) (b.fld (R.INS_POOL_CFG i k) F.INS_POOL_CFG_SIZE_LOG2) raw := by
    rw [← he, ← hd, ← hsize]
    rfl
  obtain ⟨rs, cs, js, n, es, l, hc⟩ := hdma.only
  obtain ⟨cs', hd'⟩ := hcount
  have hslow : e.slow = [] := by rw [hmod, Block.modPool, hd', hc, empty]
  have hrings : e.rxRings = b.rxRings := by rw [hmod, Block.modPool, hd', hc]
  have hpools : d.pools = b.pools := by rw [hd', hc]
  have hpool (q : Nat) : SMap.get {} e.pools q = if q = i * 4 + k then
      (b.pool i k).filled (b.poolRoom i k) (b.fld (R.INS_POOL_CFG i k) F.INS_POOL_CFG_SIZE_LOG2) raw else SMap.get {} b.pools q := by
    rw [hmod, Block.pool_modPool, Block.pool, hpools, ← Block.pool]
  have ht : t = e.dispatchDma 17 := by
    rw [show t = b.poolFetch i k raw from rfl, b.poolFetch_busy raw busy, Block.withRead_some _ got, he]
    have hnone : e.waitingRings i = [] := by rw [Block.waitingRings, hslow]; rfl
    rw [hnone, List.foldl_nil]
  clear_value t
  obtain ⟨rs', cs'', js', n', es', l', ht'⟩ := (Block.OnDma.dispatchDma (b := e) 17).only
  rw [ht, ht']
  exact ⟨(hpool _).trans (if_pos rfl), fun q hq => (hpool q).trans (if_neg hq), hslow, hrings⟩

/-- Settles O38: the one frame staged, a ring with none, and the read of a free ring. -/
theorem stagedFramesReachTheHostOrExpire : Obligations.StagedFramesReachTheHostOrExpire := by
  unfold Obligations.StagedFramesReachTheHostOrExpire
  refine ⟨fun b r i h single ring own unwritten fresh => ?_, fun b r none => ⟨?_, ?_⟩, fun b i k raw => ?_⟩
  · have hdeliver : Takes (.rxDeliver r) b (b.rxDeliver r.toNat) := fun _ => rfl
    have hexpire : Takes (.poolWaitExpire r) b (b.poolWaitExpire r.toNat) := fun _ => rfl
    obtain ⟨hnever, hsince⟩ := Block.poolWaitExpire_single single ring own unwritten fresh
    refine ⟨fun off => takes_congr hdeliver (Block.rxDeliver_off single ring own off), fun on none => ?_, fun k on some full => ?_,
      fun k on some free cached short => ?_, fun none => takes_congr hexpire (hnever none), fun n from_ => ⟨fun early => ?_, fun late => ?_⟩⟩
    · exact hdeliver.to ((Block.rxDeliver_waits single ring own unwritten fresh on).1 none)
    · exact hdeliver.to ((Block.rxDeliver_waits single ring own unwritten fresh on).2 k some full)
    · exact hdeliver.to (Block.rxDeliver_ends single ring own unwritten fresh on some free cached short)
    · exact takes_congr hexpire ((hsince n from_).trans (if_pos early))
    · rw [(hsince n from_).trans (if_neg (not_lt.mpr late))] at hexpire
      exact hexpire.to (b.dropSlow_count _ single)
  · have hdeliver : Takes (.rxDeliver r) b (b.rxDeliver r.toNat) := fun _ => rfl
    exact takes_congr hdeliver (by rw [Block.rxDeliver, none])
  · have hexpire : Takes (.poolWaitExpire r) b (b.poolWaitExpire r.toNat) := fun _ => rfl
    exact takes_congr hexpire (by rw [Block.poolWaitExpire, none])
  · have hfetch : Takes (.poolFetch i k raw) b (b.poolFetch i k raw) := fun _ => rfl
    refine ⟨fun idle => takes_congr hfetch (b.poolFetch_idle raw idle), fun busy waits => takes_congr hfetch ?_, fun busy empty got => ?_⟩
    · rw [b.poolFetch_busy raw busy, Block.withRead_none _ waits]
    · obtain ⟨c, hc⟩ := Option.isSome_iff_exists.mp got
      exact hfetch.to (Block.poolFetch_tells _ raw busy hc empty)

end Sys2Proof.Machine
end

section
/-!
PROOFS. A Function Level Reset of an instance that resets already (R375, R407, assumption 75); and from it that O39 fails.
-/
namespace Sys2Proof.Machine
open Sys2Proof

/-- A block out of reset whose instance 1 drains its reset and whose host has put the function into D3hot meanwhile. -/
def resettingInD3hot : Block :=
  { regs := [(R.INS_INS_STATUS 1, BitVec.ofNat 32 (2 ^ 31))], insts := [(1, { d3hot := true })], pinLow := false }

theorem takes_flr {b : Block} (i : Fin 256) (out : b.inReset = false) : Takes (.instanceReset i .flr) b (b.flr i) := fun q => by
  have h : exec (.instanceReset i .flr) ⟨b, q⟩ = .next ⟨b.outOfReset (Block.instanceReset i .flr), q⟩ := rfl
  rw [h, Block.outOfReset, if_neg (ne_true_of_eq_false out)]
  rfl

/-- A reset that runs takes in another one, but the function's configuration returns to its reset values all the same. -/
theorem flr_resettingInD3hot :
    resettingInD3hot.inReset = false ∧ resettingInD3hot.resetting 1 = true ∧ (resettingInD3hot.inst 1).d3hot = true ∧
    ((resettingInD3hot.flr 1).inst 1).d3hot = false := by
  decide

/-- Refutes O39: a Function Level Reset of an instance that resets already does not leave the block as it was, for it takes the function's
configuration back to its reset values; instance 1 in D3hot leaves it. -/
theorem not_instancesCommandTablesAndReset : ¬ Obligations.InstancesCommandTablesAndReset := by
  unfold Obligations.InstancesCommandTablesAndReset
  intro h
  obtain ⟨-, -, -, resets, -⟩ := h
  obtain ⟨-, again, -⟩ := resets resettingInD3hot 1
  obtain ⟨out, resetting, before, after⟩ := flr_resettingInD3hot
  have same : exec (.instanceReset 1 .flr) ⟨resettingInD3hot, []⟩ = .next ⟨resettingInD3hot, []⟩ := again out (by decide) resetting []
  have taken : exec (.instanceReset 1 .flr) ⟨resettingInD3hot, []⟩ = .next ⟨resettingInD3hot.flr 1, []⟩ := takes_flr 1 out []
  rw [taken] at same
  injection same with same
  injection same with same
  rw [same, before] at after
  cases after

end Sys2Proof.Machine
end

section
/-!
PROOFS. The Sheaf chain (R444 to R453): frames that arrive, what a member passes on, breaks, and the head's registers; and O41 from these.
-/
namespace Sys2Proof.Machine
open Sys2Proof

variable {b c d : Block}

/-! ## Frames on the wire (R446 to R448) -/

/-- The bytes of a frame with its CRC, or with the inverse of it. -/
def ChainFrame.wire (f : ChainFrame) : List Byte :=
  f.body ++ beBytes 4 (if f.crcBad then crc32 f.body ^^^ 0xFFFFFFFF else crc32 f.body)

theorem Block.chainSend_eq (b : Block) (f : ChainFrame) : b.chainSend f = { b with out := b.out ++ [.chain f.wire] } := rfl

theorem ChainFrame.wire_good {f : ChainFrame} (h : f.crcBad = false) : f.wire = f.body ++ beBytes 4 (crc32 f.body) := by
  rw [ChainFrame.wire, if_neg (ne_true_of_eq_false h)]
theorem ChainFrame.wire_bad {f : ChainFrame} (h : f.crcBad = true) : f.wire = f.body ++ beBytes 4 (crc32 f.body ^^^ 0xFFFFFFFF) := by
  rw [ChainFrame.wire, if_pos h]

/-- What the package answers to the command that carried `tag`. -/
def Block.response (b : Block) (kind tag : Nat) (l : List Byte) : ChainFrame :=
  { dest := 2 ^ 15 + b.ringAddr, kind := kind, len := l.length, tag := tag, payload := l }

theorem Block.respond_eq (b : Block) (kind tag : Nat) (l : List Byte) :
    b.respond kind tag l = { b with out := b.out ++ [.chain (b.response kind tag l).wire] } := rfl
theorem Block.ack_eq (b : Block) (f : ChainFrame) (status : Nat) :
    b.ack f status = { b with out := b.out ++ [.chain (b.response 0x81 f.tag (beBytes 1 f.kind ++ beBytes 1 status)).wire] } := rfl

/-- A frame sent and then answered. -/
theorem Block.chainSend_ack (b : Block) (f : ChainFrame) (status : Nat) : (b.chainSend f).ack f status =
    { b with out := b.out ++ [.chain f.wire, .chain (b.response 0x81 f.tag (beBytes 1 f.kind ++ beBytes 1 status)).wire] } := by
  rw [Block.ack_eq, Block.chainSend_eq]
  simp only [List.append_assoc, List.singleton_append]
  rfl

/-- The package is named by a frame's destination. -/
def Block.names (b : Block) (f : ChainFrame) : Prop := b.hasAddr = true ∧ f.dest = b.ringAddr

/-- What a command reads of the chain's registers. -/
theorem Block.chain_of_regs (h : c.regs = b.regs) : c.isHead = b.isHead ∧ c.hasAddr = b.hasAddr ∧ c.ringAddr = b.ringAddr := by
  have hfld (a : Nat) (f : Bf) : c.fld a f = b.fld a f := Block.fld_of_word (Block.word_of_regs h a) f
  refine ⟨?_, ?_, hfld _ _⟩
  · rw [Block.isHead, Block.flag, hfld, ← Block.flag, ← Block.isHead]
  · rw [Block.hasAddr, Block.flag, hfld, ← Block.flag, ← Block.hasAddr]

theorem Block.names_iff (b : Block) (f : ChainFrame) : (b.hasAddr && f.dest == b.ringAddr) = true ↔ b.names f := by
  rw [Bool.and_eq_true, beq_iff_eq, Block.names]

/-! ## Commands (R447, R453) -/

/-- Whether no member acts on a frame: it is a response, or its destination is a source's address. -/
def ChainFrame.far (f : ChainFrame) : Bool := f.kind ≥ 0x81 || f.dest ≥ 2 ^ 15
theorem ChainFrame.far_iff (f : ChainFrame) : f.far = true ↔ 0x81 ≤ f.kind ∨ 2 ^ 15 ≤ f.dest := by
  rw [ChainFrame.far, Bool.or_eq_true, decide_eq_true_eq, decide_eq_true_eq]

/-- A frame that no member acts on goes on. -/
theorem Block.command_bad (b : Block) {f : ChainFrame} (bad : f.ok = false) (own : Bool) (straps : Nat) :
    (¬ b.names f ∨ kindDefined f.kind = false → b.command f own straps = b.chainSend f) ∧
    (b.names f → kindDefined f.kind = true → b.command f own straps = (b.chainSend f).ack f ackBad) := by
  have hc : b.command f own straps =
      if (b.hasAddr && f.dest == b.ringAddr) && kindDefined f.kind then (b.chainSend f).ack f ackBad else b.chainSend f := if_pos (by simp [bad])
  rw [hc]
  refine ⟨fun h => if_neg ?_, fun mine defined => if_pos ?_⟩
  · rw [Bool.and_eq_true, b.names_iff, not_and_or, Bool.not_eq_true]
    exact h
  · rw [Bool.and_eq_true, b.names_iff]
    exact ⟨mine, defined⟩

/-- A good frame that is a response, or that names another, or that acts only otherwise, goes on. -/
theorem Block.command_passes (b : Block) {f : ChainFrame} (good : f.ok = true) (own : Bool) (straps : Nat)
    (h : 0x81 ≤ f.kind ∨ 2 ^ 15 ≤ f.dest ∨ (f.dest ≠ 0x7FFF ∧ ¬ b.names f) ∨ (f.dest ≠ 0x7FFF ∧ (f.kind = 1 ∨ f.kind = 6 ∨ f.kind = 7)) ∨
      (f.dest = 0x7FFF ∧ f.kind = 8)) : b.command f own straps = b.chainSend f := by
  have hok : ¬ (!f.ok) = true := by simp [good]
  by_cases far : f.far = true
  · exact (if_neg hok).trans (if_pos far)
  · have hfar := far
    rw [f.far_iff, not_or] at hfar
    by_cases all : f.broadcast = true
    · have hall : f.dest = 0x7FFF := beq_iff_eq.mp all
      have hread : f.kind = 8 := by omega
      exact (if_neg hok).trans ((if_neg far).trans ((if_pos all).trans (if_pos (beq_iff_eq.mpr hread))))
    · have hone : f.dest ≠ 0x7FFF := fun e => all (beq_iff_eq.mpr e)
      have hpass : (!(b.hasAddr && f.dest == b.ringAddr) || f.kind == 1 || f.kind == 6 || f.kind == 7) = true := by
        simp only [Bool.or_eq_true, Bool.not_eq_true', beq_iff_eq]
        rw [← Bool.not_eq_true, b.names_iff]
        by_cases mine : b.names f
        · have : f.kind = 1 ∨ f.kind = 6 ∨ f.kind = 7 := by
            rcases h with h | h | h | h | h
            · exact absurd h hfar.1
            · exact absurd h hfar.2
            · exact absurd mine h.2
            · exact h.2
            · exact absurd h.1 hone
          tauto
        · exact .inl (.inl (.inl mine))
      exact (if_neg hok).trans ((if_neg far).trans ((if_neg all).trans (if_pos hpass)))

/-- What an addressed command comes to. -/
theorem Block.command_mine (b : Block) {f : ChainFrame} (good : f.ok = true) (own : Bool) (straps : Nat) (mine : b.names f)
    (one : f.dest < 0x7FFF) (kind : f.kind < 0x81) :
    let pass (c : Block) (status : Nat) : Block := if status == ackOk && !own then c else c.chainSend f
    (f.kind = 8 → b.command f own straps = (pass b (b.ringRead f.payload).1).respond 0x82 f.tag (b.ringRead f.payload).2) ∧
    (f.kind ≠ 1 → f.kind ≠ 6 → f.kind ≠ 7 → f.kind ≠ 8 → b.command f own straps =
      ((pass (b.chainAct f).2 (b.chainAct f).1).ack f (b.chainAct f).1).ringReset f (b.chainAct f).1 straps) := by
  intro pass
  have hok : ¬ (!f.ok) = true := by simp [good]
  have far : ¬ f.far = true := by rw [f.far_iff]; omega
  have all : ¬ f.broadcast = true := fun e => by
    have : f.dest = 0x7FFF := beq_iff_eq.mp e
    omega
  have hmine : (b.hasAddr && f.dest == b.ringAddr) = true := (b.names_iff f).mpr mine
  refine ⟨fun read => ?_, fun h1 h6 h7 h8 => ?_⟩
  · have hpass : ¬ (!(b.hasAddr && f.dest == b.ringAddr) || f.kind == 1 || f.kind == 6 || f.kind == 7) = true := by simp [hmine, read]
    exact (if_neg hok).trans ((if_neg far).trans ((if_neg all).trans ((if_neg hpass).trans (if_pos (beq_iff_eq.mpr read)))))
  · have hpass : ¬ (!(b.hasAddr && f.dest == b.ringAddr) || f.kind == 1 || f.kind == 6 || f.kind == 7) = true := by simp [hmine, h1, h6, h7]
    exact (if_neg hok).trans ((if_neg far).trans ((if_neg all).trans ((if_neg hpass).trans (if_neg (mt beq_iff_eq.mp h8)))))

/-- What a broadcast command comes to. -/
theorem Block.command_all (b : Block) {f : ChainFrame} (good : f.ok = true) (own : Bool) (straps : Nat) (all : f.dest = 0x7FFF)
    (kind : f.kind < 0x81) (act : f.kind ≠ 8) :
    b.command f own straps = ((b.chainApply f).2.2.chainSend (b.chainApply f).2.1).ringReset f (b.chainApply f).1 straps := by
  have hok : ¬ (!f.ok) = true := by simp [good]
  have far : ¬ f.far = true := by rw [f.far_iff]; omega
  exact (if_neg hok).trans ((if_neg far).trans ((if_pos (beq_iff_eq.mpr all)).trans (if_neg (mt beq_iff_eq.mp act))))

/-- What a command makes of a frame in flight: its payload alone, and only of ENUMERATE and TALLY_SUM. -/
theorem Block.chainApply_frame (b : Block) (f : ChainFrame) :
    let g := (b.chainApply f).2.1
    g.dest = f.dest ∧ g.kind = f.kind ∧ g.tag = f.tag ∧ (f.kind ≠ 1 → f.kind ≠ 7 → g = f) := by
  unfold Block.chainApply
  split
  · next h => exact ⟨rfl, rfl, rfl, fun h1 => absurd h h1⟩
  · exact ⟨rfl, rfl, rfl, fun _ _ => rfl⟩
  · next h => exact ⟨rfl, rfl, rfl, fun _ h7 => absurd h h7⟩
  · exact ⟨rfl, rfl, rfl, fun _ _ => rfl⟩
/-! ## A frame arrives (R444, R447, R448, R453) -/

/-- A frame of a kind as it arrives. -/
def arriving (kind dest tag : Nat) (payload : List Byte) (crcOk : Bool) : ChainFrame :=
  { dest := dest, kind := kind, len := (payload.take 255).length, tag := tag, payload := payload.take 255, crcBad := !crcOk }

/-- A frame that arrives is counted, by its kind or as one with a bad CRC. -/
def Block.chainTold (b : Block) (kind : Nat) (crcOk : Bool) : Block := if crcOk then b.pmc .pkg 0x01 kind 1 else b.count R.CHN_CRC_ERR 1

theorem Block.chainIn_deaf (b : Block) (kind dest tag : Nat) (payload : List Byte) (crcOk : Bool) (straps : Nat)
    (deaf : b.chain.on = false ∨ b.chain.lost = true) : b.chainIn kind dest tag payload crcOk straps = b :=
  if_pos (by rcases deaf with h | h <;> simp [h])

theorem Block.chainIn_takes (b : Block) (kind dest tag : Nat) (payload : List Byte) (crcOk : Bool) (straps : Nat)
    (on : b.chain.on = true) (live : b.chain.lost = false) :
    let c := b.chainTold kind crcOk
    let f := arriving kind dest tag payload crcOk
    b.chainIn kind dest tag payload crcOk straps = if c.isHead then c.headTakes f else if crcOk then c.memberTakes f straps else c.passBad f :=
  if_neg (by simp [on, live])

theorem Block.chainTold_tells (b : Block) (kind : Nat) (crcOk : Bool) :
    let c := b.chainTold kind crcOk
    b.Counted c ∧ (crcOk = false → c.ctr R.CHN_CRC_ERR = (b.ctr R.CHN_CRC_ERR + 1) % 2 ^ 64) ∧
    c.ctr R.CHN_BAD_FRAMES = b.ctr R.CHN_BAD_FRAMES ∧ c.ctr R.CHN_RX_OVERFLOW = b.ctr R.CHN_RX_OVERFLOW := by
  intro c
  cases crcOk with
  | true =>
    have hc : c = b.pmc .pkg 0x01 kind 1 := if_pos rfl
    rw [hc]
    exact ⟨(Block.Counted.refl b).pmc _ _ _ _, fun h => absurd h (by simp), b.ctr_pmc_low _ _ _ (by decide), b.ctr_pmc_low _ _ _ (by decide)⟩
  | false =>
    have hc : c = b.count R.CHN_CRC_ERR 1 := if_neg Bool.false_ne_true
    rw [hc]
    exact ⟨(Block.Counted.refl b).count _ _, fun _ => Block.ctr_count_same _ _ _ (b.stopped_inst (by decide)),
      Block.ctr_count_other _ _ (by decide), Block.ctr_count_other _ _ (by decide)⟩

/-- A frame whose CRC fails acts on nothing, and goes on with its CRC inverted. -/
theorem Block.passBad_tells (b : Block) {f : ChainFrame} (bad : f.crcBad = true) :
    ∃ g : ChainFrame, b.passBad f = { b with out := b.out ++ [.chain (g.body ++ beBytes 4 (crc32 g.body ^^^ 0xFFFFFFFF))] } ∧
      g.dest = f.dest ∧ g.kind = f.kind ∧ g.tag = f.tag ∧ (f.kind ≠ 1 ∧ f.kind ≠ 7 ∨ f.dest ≠ 0x7FFF ∨ f.ok = false → g = f) := by
  obtain ⟨hdest, hkind, htag, hsame⟩ := b.chainApply_frame f
  generalize hg : (b.chainApply f).2.1 = g at *
  by_cases changed : (f.ok && f.broadcast && f.kind < 0x81) = true
  · have hpass : b.passBad f = b.chainSend { g with crcBad := true } := by
      rw [← hg]
      exact congrArg b.chainSend (if_pos changed)
    refine ⟨{ g with crcBad := true }, ?_, hdest, hkind, htag, fun h => ?_⟩
    · rw [hpass, Block.chainSend_eq, ChainFrame.wire_bad rfl]
    · rcases h with h | h | h
      · rw [hsame h.1 h.2, ← bad]
      · exact absurd (by simpa [ChainFrame.broadcast] using (Bool.and_eq_true_iff.mp (Bool.and_eq_true_iff.mp changed).1).2) h
      · simp [h] at changed
  · have hpass : b.passBad f = b.chainSend f := congrArg b.chainSend (if_neg changed)
    exact ⟨f, by rw [hpass, Block.chainSend_eq, ChainFrame.wire_bad bad], rfl, rfl, rfl, fun _ => rfl⟩

/-- What the head does with a frame that it takes off the ring, before it keeps it. -/
def Block.headSees (b : Block) (f : ChainFrame) : Block :=
  let b := if f.crcBad || f.ok then b else b.count R.CHN_BAD_FRAMES 1
  let back := !f.crcBad && f.ok && f.kind == 1
  let count := beAt f.payload 0 2
  let n : Nat × Block := if count == 0xFFFF then b.free 16 else (count - 1, b)
  let b := if back then n.2.setFld R.CHN_HEAD_STATUS F.CHN_HEAD_STATUS_COUNT n.1 else b
  if back then { b with chain := { b.chain with enumBusy := false } } else b

theorem Block.headTakes_eq (b : Block) (f : ChainFrame) : b.headTakes f =
    if (b.headSees f).chain.rx.length ≥ 64 then (b.headSees f).count R.CHN_RX_OVERFLOW 1
    else { b.headSees f with chain := { (b.headSees f).chain with rx := (b.headSees f).chain.rx ++ [f] } } := rfl

theorem Block.headSees_only (b : Block) (f : ChainFrame) :
    (∃ rs cs n e, b.headSees f = { b with regs := rs, ctrs := cs, fresh := n, chain := { b.chain with enumBusy := e } }) ∧
    (b.headSees f).ctr R.CHN_RX_OVERFLOW = b.ctr R.CHN_RX_OVERFLOW := by
  obtain ⟨c, hc⟩ : ∃ c, (if f.crcBad || f.ok then b else b.count R.CHN_BAD_FRAMES 1) = c := ⟨_, rfl⟩
  have hcount : b.Counted c ∧ c.ctr R.CHN_RX_OVERFLOW = b.ctr R.CHN_RX_OVERFLOW := by
    rw [← hc]
    split
    · exact ⟨.refl b, rfl⟩
    · exact ⟨(Block.Counted.refl b).count _ _, Block.ctr_count_other _ _ (by decide)⟩
  obtain ⟨n, hn⟩ : ∃ n : Nat × Block, (if beAt f.payload 0 2 == 0xFFFF then c.free 16 else (beAt f.payload 0 2 - 1, c)) = n := ⟨_, rfl⟩
  have hfree : ∃ m, n.2 = { c with fresh := m } := by
    rw [← hn]
    split
    · exact ⟨_, rfl⟩
    · exact ⟨_, rfl⟩
  have ht : b.headSees f = (fun back : Bool =>
      let e := if back then n.2.setFld R.CHN_HEAD_STATUS F.CHN_HEAD_STATUS_COUNT n.1 else c
      if back then { e with chain := { e.chain with enumBusy := false } } else e) (!f.crcBad && f.ok && f.kind == 1) := by
    rw [← hn, ← hc]
    rfl
  rw [ht]
  obtain ⟨⟨cs, hcs⟩, hctr⟩ := hcount
  obtain ⟨m, hm⟩ := hfree
  cases (!f.crcBad && f.ok && f.kind == 1) with
  | false =>
    refine ⟨⟨c.regs, c.ctrs, c.fresh, c.chain.enumBusy, ?_⟩, hctr⟩
    show c = _
    rw [hcs]
  | true =>
    obtain ⟨rs, hrs⟩ := n.2.setFld_regs R.CHN_HEAD_STATUS F.CHN_HEAD_STATUS_COUNT n.1
    dsimp only
    rw [if_pos rfl, if_pos rfl, hrs]
    refine ⟨⟨rs, c.ctrs, m, false, ?_⟩, ?_⟩
    · rw [hm, hcs]
    · rw [hm]
      exact hctr

theorem Block.headTakes_tells (b : Block) (f : ChainFrame) :
    let t := b.headTakes f
    (b.chain.rx.length < 64 → t.chain.rx = b.chain.rx ++ [f] ∧ t.out = b.out ∧ t.dies = b.dies ∧ t.boot = b.boot) ∧
    (64 ≤ b.chain.rx.length → t.chain.rx = b.chain.rx ∧ t.ctr R.CHN_RX_OVERFLOW = (b.ctr R.CHN_RX_OVERFLOW + 1) % 2 ^ 64 ∧ t.out = b.out) := by
  intro t
  obtain ⟨⟨rs, cs, n, e, honly⟩, hctr⟩ := b.headSees_only f
  have ht : t = _ := b.headTakes_eq f
  clear_value t
  generalize b.headSees f = c at *
  have hrx : c.chain.rx = b.chain.rx := by rw [honly]
  have hout : c.out = b.out := by rw [honly]
  rw [hrx] at ht
  refine ⟨fun room => ?_, fun full => ?_⟩
  · rw [if_neg (not_le.mpr room)] at ht
    rw [ht, honly]
    exact ⟨rfl, rfl, rfl, rfl⟩
  · rw [if_pos full] at ht
    rw [ht, Block.count_chain, Block.count_out, hrx, hout, Block.ctr_count_same _ _ _ (c.stopped_inst (by decide)), hctr]
    exact ⟨rfl, rfl, rfl⟩

/-- A member passes a frame that it does not act on, or answers one that it cannot. -/
theorem Block.memberTakes_tells (b : Block) {f : ChainFrame} (crc : f.crcBad = false) (straps : Nat) :
    let t := b.memberTakes f straps
    let good : Output := .chain (f.body ++ beBytes 4 (crc32 f.body))
    (f.ok = true → 0x81 ≤ f.kind ∨ 2 ^ 15 ≤ f.dest ∨ (f.dest ≠ 0x7FFF ∧ ¬ b.names f) ∨
        (f.dest ≠ 0x7FFF ∧ (f.kind = 1 ∨ f.kind = 6 ∨ f.kind = 7)) ∨ (f.dest = 0x7FFF ∧ f.kind = 8) → t = { b with out := b.out ++ [good] }) ∧
    (f.ok = false → t.ctr R.CHN_BAD_FRAMES = (b.ctr R.CHN_BAD_FRAMES + 1) % 2 ^ 64 ∧ t = { b with out := t.out, ctrs := t.ctrs } ∧
      (¬ b.names f ∨ kindDefined f.kind = false → t.out = b.out ++ [good]) ∧
      (b.names f → kindDefined f.kind = true →
        t.out = b.out ++ [good, .chain (b.response 0x81 f.tag (beBytes 1 f.kind ++ beBytes 1 ackBad)).wire])) := by
  intro t good
  have hgood : (.chain f.wire : Output) = good := by rw [ChainFrame.wire_good crc]
  refine ⟨fun ok passes => ?_, fun bad => ?_⟩
  · have ht : t = b.command f false straps := congrArg (fun c : Block => c.command f false straps) (if_pos ok)
    rw [ht, b.command_passes ok false straps passes, Block.chainSend_eq, hgood]
  · obtain ⟨c, hc⟩ : ∃ c, b.count R.CHN_BAD_FRAMES 1 = c := ⟨_, rfl⟩
    have ht : t = c.command f false straps := by
      rw [← hc]
      exact congrArg (fun c : Block => c.command f false straps) (if_neg (ne_true_of_eq_false bad))
    obtain ⟨-, haddr, hring⟩ := Block.chain_of_regs (b := b) (c := c) (by rw [← hc, Block.count_regs])
    have hnames : c.names f ↔ b.names f := by rw [Block.names, Block.names, haddr, hring]
    have hctr : c.ctr R.CHN_BAD_FRAMES = (b.ctr R.CHN_BAD_FRAMES + 1) % 2 ^ 64 := by
      rw [← hc, Block.ctr_count_same _ _ _ (b.stopped_inst (by decide))]
    have hcount : b.Counted c := hc ▸ (Block.Counted.refl b).count _ _
    obtain ⟨cs, hcs⟩ := hcount
    have hanswer : c.response = b.response := by
      unfold Block.response
      rw [hring]
    obtain ⟨hpass, hack⟩ := c.command_bad bad false straps
    rw [hnames] at hpass hack
    by_cases mine : ¬ b.names f ∨ kindDefined f.kind = false
    · rw [ht, hpass mine, Block.chainSend_eq, hgood]
      refine ⟨hctr, by rw [hcs], fun _ => by rw [hcs], fun h1 h2 => ?_⟩
      rcases mine with h | h
      · exact absurd h1 h
      · simp [h] at h2
    · rw [not_or, not_not, Bool.not_eq_false] at mine
      rw [ht, hack mine.1 mine.2, Block.chainSend_ack, hgood, hanswer]
      refine ⟨hctr, by rw [hcs], fun h => ?_, fun _ _ => by rw [hcs]⟩
      rcases h with h | h
      · exact absurd mine.1 h
      · simp [h] at mine
/-! ## Breaks (R450, R452) -/

/-- A BREAK with the package's own address. -/
def Block.breakFrame (b : Block) : ChainFrame := { dest := 2 ^ 15 + b.ringAddr, kind := 0x83, len := 0, tag := 0, payload := [] }
/-- The ENUMERATE that a head starts. -/
def enumFrame : ChainFrame := { dest := 0x7FFF, kind := 1, len := 2, payload := beBytes 2 2 }

theorem Block.sendBreak_eq (b : Block) : b.sendBreak =
    { b with chain := { b.chain with breakAt := b.ticks }, out := b.out ++ [.chain (b.breakFrame.body ++ beBytes 4 (crc32 b.breakFrame.body))] } := by
  obtain ⟨c, hc⟩ : ∃ c : Block, { b with chain := { b.chain with breakAt := b.ticks } } = c := ⟨_, rfl⟩
  have hring : c.ringAddr = b.ringAddr := by
    rw [← hc]
    rfl
  have hframe : c.response 0x83 0 [] = b.breakFrame := by rw [Block.response, hring]; rfl
  rw [Block.sendBreak, hc, Block.respond_eq, hframe, ChainFrame.wire_good rfl, ← hc]

/-- The bytes of a frame that the loss of the input cuts. -/
theorem Block.chainCut_tells (b : Block) : ∃ cut n, b.chainCut =
    { b with fresh := n, out := b.out ++ if cut = [] then [] else [.chain (cut ++ beBytes 4 (crc32 cut ^^^ 0xFFFFFFFF))] } ∧
    (b.isHead = true → cut = []) := by
  unfold Block.chainCut
  by_cases head : b.isHead = true
  · rw [if_pos head]
    exact ⟨[], b.fresh, by rw [if_pos rfl, List.append_nil], fun _ => rfl⟩
  · have hbytes (n : Nat) (c : Block) : ∃ m, (c.freeBytes n).2 = { c with fresh := m } := by
      induction n generalizing c with
      | zero => exact ⟨c.fresh, rfl⟩
      | succ n ih =>
        obtain ⟨m, hm⟩ := ih (c.free 8).2
        exact ⟨m, hm⟩
    obtain ⟨m, hm⟩ := hbytes (b.free 8).1 (b.free 8).2
    rw [if_neg head]
    dsimp only
    generalize (b.free 8).2.freeBytes (b.free 8).1 = x at *
    have hx : x.2 = { b with fresh := m } := hm
    refine ⟨x.1, m, ?_, fun h => absurd h head⟩
    by_cases none : x.1 = []
    · rw [if_pos (List.isEmpty_iff.mpr none), if_pos none, hx, List.append_nil]
    · rw [if_neg (mt List.isEmpty_iff.mp none), if_neg none, hx]
      rfl

theorem Block.chainBreak_tells (b : Block) (on : b.chain.on = true) (live : b.chain.lost = false) :
    let t := b.chainBreak
    t.chain = { b.chain with lost := true, locked := false, breakAt := b.ticks } ∧
    t.flag R.CHN_STATUS F.CHN_STATUS_IN_LOST_SEEN = true ∧ t.inflight = (b.send 2 0 0x68 0).inflight ∧
    ∃ cut, t.out = b.out ++ (if cut = [] then [] else [.chain (cut ++ beBytes 4 (crc32 cut ^^^ 0xFFFFFFFF))]) ++
        [.chain (b.breakFrame.body ++ beBytes 4 (crc32 b.breakFrame.body))] ∧ (b.isHead = true → cut = []) := by
  intro t
  obtain ⟨cut, n, hcut, hhead⟩ := b.chainCut_tells
  obtain ⟨c, hc⟩ : ∃ c : Block, { b.chainCut with chain := { b.chainCut.chain with lost := true, locked := false } } = c := ⟨_, rfl⟩
  obtain ⟨d, hd⟩ : ∃ d, c.raise R.CHN_STATUS F.CHN_STATUS_IN_LOST_SEEN = d := ⟨_, rfl⟩
  have ht : t = (d.send 2 0 0x68 0).sendBreak := by
    rw [← hd, ← hc]
    exact if_neg (by simp [on, live])
  have hcb : c = { b with fresh := n, out := c.out, chain := { b.chain with lost := true, locked := false } } := by rw [← hc, hcut]
  have hcout : c.out = b.out ++ if cut = [] then [] else [.chain (cut ++ beBytes 4 (crc32 cut ^^^ 0xFFFFFFFF))] := by rw [← hc, hcut]
  have hdc : d = { c with regs := d.regs } := by rw [← hd, Block.raise, Block.setFld, Block.setWord_only]
  have hflag : d.flag R.CHN_STATUS F.CHN_STATUS_IN_LOST_SEEN = true := by
    rw [← hd]
    exact Block.flag_raise _ _ _ (by decide) (by decide)
  have hring : (d.send 2 0 0x68 0).ringAddr = b.ringAddr := by
    rw [Block.ringAddr, Block.send_fld, ← hd, Block.raise, Block.fld_of_word (Block.word_setFld_other _ _ _ (by decide)), hcb]
    rfl
  have hbrk : (d.send 2 0 0x68 0).breakFrame = b.breakFrame := by rw [Block.breakFrame, hring, ← Block.breakFrame]
  have hsent : (d.send 2 0 0x68 0).inflight = (b.send 2 0 0x68 0).inflight := by rw [hdc, hcb]; rfl
  rw [ht, Block.sendBreak_eq, hbrk]
  refine ⟨?_, ?_, hsent, cut, ?_, hhead⟩
  · rw [Block.send_chain, Block.send_ticks, hdc, hcb]
  · exact hflag
  · rw [Block.send_out, ← hcout, hdc]
theorem Block.breakRepeat_waits (b : Block) (h : b.chain.on = false ∨ b.chain.lost = false ∨ b.ticks < b.chain.breakAt + oneMs) : b.breakRepeat = b := by
  refine if_neg fun e => ?_
  simp only [Bool.and_eq_true, decide_eq_true_eq] at e
  obtain ⟨⟨on, lost⟩, late⟩ := e
  rcases h with h | h | h
  · simp [h] at on
  · simp [h] at lost
  · omega
theorem Block.breakRepeat_due (b : Block) (on : b.chain.on = true) (lost : b.chain.lost = true) (late : b.chain.breakAt + oneMs ≤ b.ticks) :
    b.breakRepeat = b.sendBreak := if_pos (by simp [on, lost, late])

/-! ## Enumeration by the head (R449, R450) -/

theorem Block.sendEnum_tells (b : Block) (head : b.isHead = true) (on : b.chain.on = true) :
    let t := b.sendEnum
    t.chain = { b.chain with enumBusy := true } ∧ t.word R.CHN_ADDR = 2 ^ 31 + 1 ∧
    t.out = b.out ++ [.chain (enumFrame.body ++ beBytes 4 (crc32 enumFrame.body))] := by
  intro t
  obtain ⟨c, hc⟩ : ∃ c, ({ b with chain := { b.chain with enumBusy := true } } : Block).setWord R.CHN_ADDR (2 ^ 31 + 1) = c := ⟨_, rfl⟩
  have ht : t = c.chainSend enumFrame := by
    rw [← hc]
    exact if_neg (by simp [head, on])
  have hword : c.word R.CHN_ADDR = 2 ^ 31 + 1 := by rw [← hc, Block.word_setWord_same]; rfl
  have hchain : c.chain = { b.chain with enumBusy := true } := by rw [← hc, Block.setWord_chain]
  have hout : c.out = b.out := by rw [← hc, Block.setWord_out]
  rw [ht, Block.chainSend_eq, hout, ChainFrame.wire_good rfl]
  exact ⟨hchain, hword, rfl⟩

theorem Block.chainRegained_off (b : Block) (off : b.chain.on = false) : b.chainRegained = b := if_pos (by simp [off])

/-- The chain input is aligned. -/
def Block.chainAligned (b : Block) : Block := { b with chain := { b.chain with lost := false, locked := true } }

theorem Block.chainRegained_on (b : Block) (on : b.chain.on = true) :
    b.chainRegained = if b.chain.lost then b.chainAligned.sendEnum else b.chainAligned := if_neg (by simp [on])

theorem Block.chainRegained_keeps (b : Block) (on : b.chain.on = true) (h : b.chain.lost = false ∨ b.isHead = false) :
    b.chainRegained = b.chainAligned := by
  rw [b.chainRegained_on on]
  by_cases lost : b.chain.lost = true
  · have member : b.chainAligned.isHead = false := h.resolve_left (by simp [lost])
    rw [if_pos lost]
    exact if_pos (by simp [member])
  · rw [if_neg lost]

/-! ## The head's registers (R449, R453) -/

theorem Block.headEnum_member (b : Block) (w : Writer) {v : Nat} (member : b.isHead = false) (set : F.CHN_HEAD_CTRL_ENUM.of v = 1) :
    b.headEnum w v = b.refuse w R.CHN_HEAD_CTRL := (if_neg (by simp [set])).trans (if_pos (by simp [member]))
theorem Block.headSend_member (b : Block) (w : Writer) {v : Nat} (straps : Nat) (member : b.isHead = false) (set : F.CHN_HEAD_CTRL_SEND.of v = 1) :
    b.headSendWrite w v straps = b.refuse w R.CHN_HEAD_CTRL := (if_neg (by simp [set])).trans (if_pos (by simp [member]))

theorem Block.headEnum_head (b : Block) (w : Writer) {v : Nat} (head : b.isHead = true) (set : F.CHN_HEAD_CTRL_ENUM.of v = 1)
    (alone : F.CHN_HEAD_CTRL_SEND.of v = 0) : b.headEnum w v = b.sendEnum := by
  have h : b.headEnum w v = (fun c : Block => if F.CHN_HEAD_CTRL_SEND.of v == 1 && c.chain.on then c.headSend b.strapPins else c) b.sendEnum := by
    refine (if_neg (by simp [set])).trans ((if_neg (by simp [head])).trans ?_)
    exact congrArg (fun c : Block => if F.CHN_HEAD_CTRL_SEND.of v == 1 && c.chain.on then c.headSend b.strapPins else c) (if_pos (by simp [set]))
  rw [h]
  exact if_neg (by simp [alone])

theorem Block.headSend_head (b : Block) (w : Writer) {v : Nat} (straps : Nat) (head : b.isHead = true) (on : b.chain.on = true)
    (set : F.CHN_HEAD_CTRL_SEND.of v = 1) (alone : F.CHN_HEAD_CTRL_ENUM.of v = 0) (other : b.txFrame.kind ≠ 1) :
    b.headSendWrite w v straps = b.command b.txFrame true straps := by
  have h : b.headSendWrite w v straps = (fun c : Block => if F.CHN_HEAD_CTRL_SEND.of v == 1 && c.chain.on then c.headSend straps else c) b := by
    refine (if_neg (by simp [set])).trans ((if_neg (by simp [head])).trans ?_)
    exact congrArg (fun c : Block => if F.CHN_HEAD_CTRL_SEND.of v == 1 && c.chain.on then c.headSend straps else c) (if_neg (by simp [alone]))
  rw [h]
  refine (if_pos (by simp [set, on])).trans ?_
  exact congrArg (fun c : Block => c.command b.txFrame true straps) (if_neg (by simp [other]))

/-! ## The ring Hold level (R454) -/

theorem Block.ringHold_word (b : Block) (m : Nat) : (b.ringHold m).word R.CHN_RING_HOLD = m % 16 := by
  unfold Block.ringHold
  refine Block.each_inv (P := fun c => c.word R.CHN_RING_HOLD = m % 16) ?_ fun c d _ h => ?_
  · rw [Block.word_setWord_same]
    omega
  · split
    · exact ((Block.startEntry_hold (b := c) (e := d) (cause := holdByRing) (by decide)).ringHold).trans h
    · exact ((c.recheck_hold d).ringHold).trans h

theorem Block.ringRelease_word (b : Block) : b.ringRelease.word R.CHN_RING_HOLD = 0 := by
  unfold Block.ringRelease
  refine Block.each_inv (P := fun c => c.word R.CHN_RING_HOLD = 0) (b.ringHold_word 0) fun c d _ h => ?_
  split
  · exact ((c.level_hold d).ringHold).trans h
  · exact h

theorem Block.ringReset_other (b : Block) {f : ChainFrame} (h : f.kind ≠ 4) (status straps : Nat) : b.ringReset f status straps = b :=
  if_neg (by simp [h])

theorem Block.chainAct_hold (b : Block) {f : ChainFrame} (kind : f.kind = 2) :
    (b.flag R.CHN_CMD_EN F.CHN_CMD_EN_HOLD_EN = true → byteAt f.payload 0 < 16 → b.chainAct f = (ackOk, b.ringHold (byteAt f.payload 0))) ∧
    (b.flag R.CHN_CMD_EN F.CHN_CMD_EN_HOLD_EN = false → b.chainAct f = (ackDisabled, b)) := by
  unfold Block.chainAct
  rw [kind]
  refine ⟨fun on small => ?_, fun off => if_neg (ne_true_of_eq_false off)⟩
  exact (if_pos on).trans (if_neg (not_le.mpr small))

theorem Block.chainApply_act (b : Block) {f : ChainFrame} (h1 : f.kind ≠ 1) (h6 : f.kind ≠ 6) (h7 : f.kind ≠ 7) :
    b.chainApply f = ((b.chainAct f).1, f, (b.chainAct f).2) := by
  unfold Block.chainApply
  split
  · contradiction
  · contradiction
  · contradiction
  · rfl

/-- The commands of the chain, with their kinds. -/
def chainCommands (dest : BitVec 16) (tag : BitVec 8) (payload : List Byte) (crcOk : Bool) (straps : BitVec 7) : List (Nat × Instr) :=
  [(1, .enumerate dest tag payload crcOk), (2, .ringHold dest tag payload crcOk), (3, .ringRelease dest tag payload crcOk),
    (4, .ringReset dest tag payload crcOk straps), (5, .snapshotAt dest tag payload crcOk), (6, .tallyLoad dest tag payload crcOk),
    (7, .tallySum dest tag payload crcOk), (8, .ringRead dest tag payload crcOk), (0x81, .ack dest tag payload crcOk),
    (0x82, .readResp dest tag payload crcOk), (0x83, Instr.breakFrame dest tag payload crcOk)]

/-- Each is a frame of its kind that arrives. -/
theorem takes_chain (b : Block) {dest : BitVec 16} {tag : BitVec 8} {payload : List Byte} {crcOk : Bool} {straps : BitVec 7} {x : Nat × Instr}
    (hx : x ∈ chainCommands dest tag payload crcOk straps) :
    ∃ s, Takes x.2 b (b.chainIn x.1 dest.toNat tag.toNat payload crcOk s) ∧ kindDefined x.1 = true := by
  unfold chainCommands at hx
  simp only [List.mem_cons, List.not_mem_nil, or_false] at hx
  rcases hx with rfl | rfl | rfl | rfl | rfl | rfl | rfl | rfl | rfl | rfl | rfl
  case inr.inr.inr.inl => exact ⟨straps.toNat, fun _ => rfl, rfl⟩
  all_goals exact ⟨b.strapPins, fun _ => rfl, rfl⟩

/-- A frame of a kind arrives at a member, or at the head. -/
theorem Block.chainIn_tells (b : Block) (kind dest tag : Nat) (payload : List Byte) (straps : Nat) (on : b.chain.on = true) (live : b.chain.lost = false) :
    let f (crcOk : Bool) : ChainFrame := arriving kind dest tag payload crcOk
    let t (crcOk : Bool) : Block := b.chainIn kind dest tag payload crcOk straps
    let good : Output := .chain ((f true).body ++ beBytes 4 (crc32 (f true).body))
    (b.isHead = false → ∃ g : ChainFrame, (t false).out = b.out ++ [.chain (g.body ++ beBytes 4 (crc32 g.body ^^^ 0xFFFFFFFF))] ∧
      g.dest = dest ∧ g.kind = kind ∧ g.tag = tag ∧ (kind ≠ 1 ∧ kind ≠ 7 ∨ dest ≠ 0x7FFF ∨ (f false).ok = false → g = f false) ∧
      (t false).ctr R.CHN_CRC_ERR = (b.ctr R.CHN_CRC_ERR + 1) % 2 ^ 64 ∧ t false = { b with out := (t false).out, ctrs := (t false).ctrs }) ∧
    (∀ crcOk, b.isHead = true → (b.chain.rx.length < 64 →
        (t crcOk).chain.rx = b.chain.rx ++ [f crcOk] ∧ (t crcOk).out = b.out ∧ (t crcOk).dies = b.dies ∧ (t crcOk).boot = b.boot) ∧
      (64 ≤ b.chain.rx.length → (t crcOk).chain.rx = b.chain.rx ∧
        (t crcOk).ctr R.CHN_RX_OVERFLOW = (b.ctr R.CHN_RX_OVERFLOW + 1) % 2 ^ 64 ∧ (t crcOk).out = b.out)) ∧
    (b.isHead = false → (f true).ok = true → 0x81 ≤ kind ∨ 2 ^ 15 ≤ dest ∨ (dest ≠ 0x7FFF ∧ ¬ b.names (f true)) ∨
        (dest ≠ 0x7FFF ∧ (kind = 1 ∨ kind = 6 ∨ kind = 7)) ∨ (dest = 0x7FFF ∧ kind = 8) →
      (t true).out = b.out ++ [good] ∧ t true = { b with out := (t true).out, ctrs := (t true).ctrs }) ∧
    (b.isHead = false → (f true).ok = false →
      (t true).ctr R.CHN_BAD_FRAMES = (b.ctr R.CHN_BAD_FRAMES + 1) % 2 ^ 64 ∧ t true = { b with out := (t true).out, ctrs := (t true).ctrs } ∧
      (¬ b.names (f true) ∨ kindDefined kind = false → (t true).out = b.out ++ [good]) ∧
      (b.names (f true) → kindDefined kind = true →
        (t true).out = b.out ++ [good, .chain (b.response 0x81 tag (beBytes 1 kind ++ beBytes 1 ackBad)).wire])) := by
  intro f t good
  have ht (crcOk : Bool) : t crcOk = _ := b.chainIn_takes kind dest tag payload crcOk straps on live
  have htold (crcOk : Bool) := b.chainTold_tells kind crcOk
  generalize t = t at *
  generalize b.chainTold kind = told at *
  have hregs (crcOk : Bool) : (told crcOk).regs = b.regs := by
    obtain ⟨⟨cs, hcs⟩, -⟩ := htold crcOk
    rw [hcs]
  have hhead (crcOk : Bool) : (told crcOk).isHead = b.isHead := (Block.chain_of_regs (hregs crcOk)).1
  refine ⟨fun member => ?_, fun crcOk head => ?_, fun member ok passes => ?_, fun member bad => ?_⟩
  · obtain ⟨⟨cs, hcs⟩, hcrc, -, -⟩ := htold false
    have hend := ht false
    rw [hhead, if_neg (ne_true_of_eq_false member), if_neg Bool.false_ne_true] at hend
    obtain ⟨g, hpass, hdest, hkind, htag, hsame⟩ := (told false).passBad_tells (f := f false) rfl
    rw [show arriving kind dest tag payload false = f false from rfl, hpass] at hend
    refine ⟨g, ?_, hdest, hkind, htag, hsame, ?_, ?_⟩
    · rw [hend, hcs]
    · rw [hend]
      exact hcrc rfl
    · rw [hend, hcs]
  · obtain ⟨⟨cs, hcs⟩, -, -, hover⟩ := htold crcOk
    have hend := ht crcOk
    rw [hhead, if_pos head] at hend
    obtain ⟨hroom, hfull⟩ := (told crcOk).headTakes_tells (f crcOk)
    rw [show (told crcOk).headTakes (f crcOk) = t crcOk from hend.symm] at hroom hfull
    rw [hover, hcs] at hfull
    rw [hcs] at hroom
    exact ⟨hroom, hfull⟩
  · obtain ⟨⟨cs, hcs⟩, -⟩ := htold true
    have hend := ht true
    rw [hhead, if_neg (ne_true_of_eq_false member), if_pos rfl] at hend
    obtain ⟨hpass, -⟩ := (told true).memberTakes_tells (f := f true) rfl straps
    rw [show t true = (told true).memberTakes (f true) straps from hend]
    obtain ⟨-, haddr, hring⟩ := Block.chain_of_regs (hregs true)
    rw [hpass ok (by rw [Block.names, haddr, hring]; exact passes), hcs]
    exact ⟨rfl, rfl⟩
  · obtain ⟨⟨cs, hcs⟩, -, hbad, -⟩ := htold true
    have hend := ht true
    rw [hhead, if_neg (ne_true_of_eq_false member), if_pos rfl] at hend
    obtain ⟨-, hdrops⟩ := (told true).memberTakes_tells (f := f true) rfl straps
    rw [show (told true).memberTakes (f true) straps = t true from hend.symm] at hdrops
    obtain ⟨hctr, honly, hgoes, hanswers⟩ := hdrops bad
    obtain ⟨-, haddr, hring⟩ := Block.chain_of_regs (hregs true)
    have hresp : (told true).response = b.response := by
      unfold Block.response
      rw [hring]
    rw [Block.names, haddr, hring, hcs] at hgoes
    rw [Block.names, haddr, hring, hresp, hcs] at hanswers
    refine ⟨by rw [hctr, hbad], ?_, hgoes, hanswers⟩
    rw [honly, hcs]

/-- BAD_FRAMES: a frame that no kind knows arrives. -/
theorem Block.badFrame_ok (b : Block) {kind dest tag : Nat} {payload : List Byte}
    (ok : (arriving kind dest tag payload true).ok = true ∨ b.chain.on = false ∨ b.chain.lost = true) : b.badFrame kind dest tag payload = b := by
  by_cases good : (arriving kind dest tag payload true).ok = true
  · exact if_pos good
  · exact (if_neg good).trans (b.chainIn_deaf _ _ _ _ _ _ (ok.resolve_left good))
theorem Block.badFrame_bad (b : Block) {kind dest tag : Nat} {payload : List Byte} (bad : (arriving kind dest tag payload true).ok = false) :
    b.badFrame kind dest tag payload = b.chainIn kind dest tag payload true b.strapPins := if_neg (ne_true_of_eq_false bad)

theorem length_beBytes (n v : Nat) : (beBytes n v).length = n := by
  unfold beBytes
  rw [List.length_reverse, length_leBytes]

/-- How an answer to a frame that the package cannot do begins. -/
theorem Block.response_take (b : Block) (tag kind status : Nat) :
    (b.response 0x81 tag (beBytes 1 kind ++ beBytes 1 status)).wire.take 7 =
      beBytes 2 (2 ^ 15 + b.ringAddr) ++ beBytes 1 0x81 ++ beBytes 1 2 ++ beBytes 1 tag ++ beBytes 1 kind ++ beBytes 1 status := by
  have hbody : (b.response 0x81 tag (beBytes 1 kind ++ beBytes 1 status)).body =
      beBytes 2 (2 ^ 15 + b.ringAddr) ++ beBytes 1 0x81 ++ beBytes 1 2 ++ beBytes 1 tag ++ beBytes 1 kind ++ beBytes 1 status := by
    rw [ChainFrame.body, Block.response]
    simp only [List.length_append, length_beBytes, List.append_assoc]
  rw [ChainFrame.wire, hbody]
  refine List.take_left' ?_
  simp only [List.length_append, length_beBytes]

theorem takes_headSend {b : Block} {w : Writer} {v : BitVec 32} {straps : BitVec 7} (hreach : b.reaches w .chn) :
    Takes (.headSend w v straps) b (b.headSendWrite w v.toNat straps.toNat) := takes_of_write hreach fun _ => rfl

/-- What the head's frame does at the head itself (R453). -/
theorem Block.headSend_tells (b : Block) {f : ChainFrame} (straps : Nat) (good : f.ok = true) (crc : f.crcBad = false) :
    let t := b.command f true straps
    let wire (r : ChainFrame) : Output := .chain (r.body ++ beBytes 4 (crc32 r.body))
    (f.dest ≠ 0x7FFF → ¬ b.names f → t.out = b.out ++ [wire f] ∧ t = { b with out := t.out }) ∧
    (f.kind = 2 → f.dest = 0x7FFF → b.flag R.CHN_CMD_EN F.CHN_CMD_EN_HOLD_EN = true → byteAt f.payload 0 < 16 →
      t.word R.CHN_RING_HOLD = byteAt f.payload 0) ∧
    (b.names f → f.dest < 0x7FFF →
      (f.kind = 8 → t.out = b.out ++ [wire f, wire (b.response 0x82 f.tag (b.ringRead f.payload).2)] ∧ t = { b with out := t.out }) ∧
      (f.kind = 2 → b.flag R.CHN_CMD_EN F.CHN_CMD_EN_HOLD_EN = false →
        t.out = b.out ++ [wire f, wire (b.response 0x81 f.tag (beBytes 1 2 ++ beBytes 1 1))] ∧ t = { b with out := t.out })) := by
  intro t wire
  have hwire : (.chain f.wire : Output) = wire f := by rw [ChainFrame.wire_good crc]
  refine ⟨fun one other => ?_, fun kind all on small => ?_, fun mine one => ⟨fun read => ?_, fun kind off => ?_⟩⟩
  · rw [show t = _ from b.command_passes good true straps (.inr (.inr (.inl ⟨one, other⟩))), Block.chainSend_eq, hwire]
    exact ⟨rfl, rfl⟩
  · have hact := (b.chainAct_hold kind).1 on small
    rw [show t = _ from b.command_all good true straps all (by omega) (by omega), Block.ringReset_other _ (by omega),
      b.chainApply_act (by omega) (by omega) (by omega), hact, Block.chainSend_eq]
    exact (b.ringHold_word _).trans (by omega)
  · obtain ⟨hread, -⟩ := b.command_mine good true straps mine one (by omega)
    have ht : t = (b.chainSend f).respond 0x82 f.tag (b.ringRead f.payload).2 := by
      refine (hread read).trans (congrArg (fun c : Block => c.respond 0x82 f.tag (b.ringRead f.payload).2) (if_neg ?_))
      simp
    rw [ht, Block.respond_eq, Block.chainSend_eq, hwire, ChainFrame.wire_good rfl]
    exact ⟨by rw [List.append_assoc]; rfl, rfl⟩
  · obtain ⟨-, hother⟩ := b.command_mine good true straps mine one (by omega)
    have hact := (b.chainAct_hold kind).2 off
    have ht : t = (b.chainSend f).ack f ackDisabled := by
      refine (hother (by omega) (by omega) (by omega) (by omega)).trans ?_
      rw [Block.ringReset_other _ (by omega), hact]
      exact congrArg (fun c : Block => c.ack f ackDisabled) (if_neg (by simp))
    rw [ht, Block.chainSend_ack, hwire, ChainFrame.wire_good rfl, kind]
    exact ⟨rfl, rfl⟩

/-- Settles O41: frames that arrive, those that no kind knows, breaks, enumeration, and what the head sends. -/
theorem chainFramesArePassedAndBreaksAreTold : Obligations.ChainFramesArePassedAndBreaksAreTold := by
  unfold Obligations.ChainFramesArePassedAndBreaksAreTold
  refine ⟨fun b dest tag payload crcOk straps x hx => ?_, fun b => ?_⟩
  · obtain ⟨s, htakes, hknown⟩ := takes_chain b hx
    refine ⟨fun deaf => takes_congr htakes (b.chainIn_deaf _ _ _ _ _ _ deaf), fun on live => ?_, fun kind => ⟨fun ok => ?_, fun other bad on live member => ?_⟩⟩
    · obtain ⟨hcrc, hhead, hpass, hdrop⟩ := b.chainIn_tells x.1 dest.toNat tag.toNat payload s on live
      refine ⟨fun crc member => ?_, fun head room => htakes.to ((hhead crcOk head).1 room), fun head full => htakes.to ((hhead crcOk head).2 full),
        fun crc member ok passes => ?_, fun crc member bad => ?_⟩
      · subst crc
        obtain ⟨g, hout, hdest, hkind, htag, hsame, hctr, honly⟩ := hcrc member
        exact htakes.to ⟨⟨g, hout, hdest, hkind, htag, hsame⟩, hctr, honly⟩
      · subst crc
        exact htakes.to (hpass member ok passes)
      · subst crc
        obtain ⟨hctr, honly, hgoes, hanswers⟩ := hdrop member bad
        refine htakes.to ⟨hctr, honly, fun other => hgoes (.inl other), fun mine => ⟨_, hanswers mine hknown, ?_⟩⟩
        exact b.response_take _ _ _
    · have hbad : Takes (.badFrames kind dest tag payload) b (b.badFrame kind.toNat dest.toNat tag.toNat payload) := fun _ => rfl
      exact takes_congr hbad (b.badFrame_ok ok)
    · have hbad : Takes (.badFrames kind dest tag payload) b (b.badFrame kind.toNat dest.toNat tag.toNat payload) := fun _ => rfl
      rw [b.badFrame_bad bad] at hbad
      obtain ⟨-, -, -, hdrop⟩ := b.chainIn_tells kind.toNat dest.toNat tag.toNat payload b.strapPins on live
      obtain ⟨hctr, honly, hgoes, -⟩ := hdrop member bad
      exact hbad.to ⟨hctr, honly, hgoes other.symm⟩
  · have hbreak : Takes .chainBreak b b.chainBreak := fun _ => rfl
    have hagain : Takes .breakRepeat b b.breakRepeat := fun _ => rfl
    have hback : Takes .chainInputRegained b b.chainRegained := fun _ => rfl
    refine ⟨fun deaf => takes_congr hbreak (if_pos (by rcases deaf with h | h <;> simp [h])), fun on live => hbreak.to (b.chainBreak_tells on live),
      fun waits => takes_congr hagain (b.breakRepeat_waits waits), fun on lost late => ?_, fun off => takes_congr hback (b.chainRegained_off off),
      fun on h => takes_congr hback (b.chainRegained_keeps on h), fun on lost head => ?_, fun w v straps hreach => ?_, fun v hreach => ?_⟩
    · rw [b.breakRepeat_due on lost late, b.sendBreak_eq] at hagain
      exact hagain.to ⟨rfl, rfl, rfl⟩
    · rw [b.chainRegained_on on, if_pos lost] at hback
      exact hback.to (b.chainAligned.sendEnum_tells head on)
    · have henum : Takes (.headEnum w v) b (b.headEnum w v.toNat) := takes_of_write hreach fun _ => rfl
      have hsend : Takes (.headSend w v straps) b (b.headSendWrite w v.toNat straps.toNat) := takes_headSend hreach
      refine ⟨fun off => takes_congr henum (if_pos (by simp [off])), fun off => takes_congr hsend (if_pos (by simp [off])),
        fun member => ⟨fun set => takes_congr henum (b.headEnum_member w member set), fun set => takes_congr hsend (b.headSend_member w _ member set)⟩,
        fun head on set alone => ?_, fun head on alone set => ?_⟩
      · rw [b.headEnum_head w head set alone] at henum
        exact henum.to (b.sendEnum_tells head on)
      · have hrun (other : b.txFrame.kind ≠ 1) : Takes (.headSend w v straps) b (b.command b.txFrame true straps.toNat) := by
          rw [b.headSend_head w _ head on set alone other] at hsend
          exact hsend
        refine ⟨fun good other one away => (hrun other).to (((b.headSend_tells _ good rfl).1) one away), fun good kind all hold small => ?_,
          fun good addr named one => ⟨fun read => ?_, fun kind off => ?_⟩⟩
        · exact (hrun (by omega)).to ((b.headSend_tells _ good rfl).2.1 kind all hold small)
        · exact (hrun (by omega)).to (((b.headSend_tells _ good rfl).2.2 ⟨addr, named⟩ one).1 read)
        · exact (hrun (by omega)).to (((b.headSend_tells _ good rfl).2.2 ⟨addr, named⟩ one).2 kind off)
    · have hpop : Takes (.rxPop v) b (b.rxPop v.toNat) := takes_of_write hreach fun _ => rfl
      exact ⟨fun off => takes_congr hpop (if_pos (by simp [off])), fun set => takes_congr hpop (if_neg (by simp [set]))⟩

end Sys2Proof.Machine
end

section
/-!
PROOFS. What the commands of the chain do at a member (R449, R453 to R457, R461); O42.
-/
namespace Sys2Proof.Machine
open Sys2Proof

variable {b c : Block}

/-! ## A whole frame at a member -/

/-- A frame with a good CRC. -/
def framed (kind dest tag : Nat) (l : List Byte) : ChainFrame := { dest := dest, kind := kind, len := l.length, tag := tag, payload := l }

theorem arriving_framed {l : List Byte} (short : l.length ≤ 255) (kind dest tag : Nat) : arriving kind dest tag l true = framed kind dest tag l := by
  rw [arriving, List.take_of_length_le short]
  rfl

/-- A member counts a frame that it can read, and handles it. -/
theorem Block.chainIn_member (b : Block) {kind dest tag : Nat} {l : List Byte} (on : b.chain.on = true) (live : b.chain.lost = false)
    (member : b.isHead = false) (short : l.length ≤ 255) (good : (framed kind dest tag l).ok = true) (straps : Nat) :
    b.chainIn kind dest tag l true straps = (b.pmc .pkg 0x01 kind 1).command (framed kind dest tag l) false straps := by
  obtain ⟨c, hc⟩ : ∃ c, b.pmc .pkg 0x01 kind 1 = c := ⟨_, rfl⟩
  have htold : b.chainTold kind true = c := (if_pos rfl).trans hc
  have hhead : c.isHead = false := by
    rw [(Block.chain_of_regs (b := b) (by rw [← hc, Block.pmc_regs])).1, member]
  have hin := b.chainIn_takes kind dest tag l true straps on live
  dsimp only at hin
  rw [htold, hhead, arriving_framed short] at hin
  rw [hc]
  exact hin.trans ((if_neg Bool.false_ne_true).trans ((if_pos rfl).trans (congrArg (fun c : Block => c.command _ false straps) (if_pos good))))

/-! ## HOLD, RELEASE, RESET and SNAPSHOT_AT: what is sent (R447) -/

/-- What a member sends of an addressed command: the frame where it did not act, and the answer. -/
def Block.answered (b : Block) (f : ChainFrame) (status : Nat) : Block := (if status == ackOk then b else b.chainSend f).ack f status

theorem Block.answered_ok (b : Block) (f : ChainFrame) : b.answered f ackOk =
    { b with out := b.out ++ [.chain (b.response 0x81 f.tag (beBytes 1 f.kind ++ beBytes 1 ackOk)).wire] } :=
  (congrArg (fun c : Block => c.ack f ackOk) (if_pos rfl)).trans (b.ack_eq f ackOk)

theorem Block.answered_word (b : Block) (f : ChainFrame) (status a : Nat) : (b.answered f status).word a = b.word a := by
  unfold Block.answered
  split <;> rfl

/-- Whom a command that acts is for. -/
def Block.hears (b : Block) (f : ChainFrame) : Prop := f.dest = 0x7FFF ∨ (b.names f ∧ f.dest < 0x7FFF)

/-- A command that is answered, at a member: sent on where it is for all, else answered. -/
theorem Block.command_acts (b : Block) {f : ChainFrame} (good : f.ok = true) (straps : Nat) (low : 2 ≤ f.kind) (high : f.kind ≤ 5) :
    (f.dest = 0x7FFF → b.command f false straps = ((b.chainAct f).2.chainSend f).ringReset f (b.chainAct f).1 straps) ∧
    (b.names f ∧ f.dest < 0x7FFF → b.command f false straps = ((b.chainAct f).2.answered f (b.chainAct f).1).ringReset f (b.chainAct f).1 straps) := by
  refine ⟨fun all => ?_, fun ⟨mine, one⟩ => ?_⟩
  · rw [b.command_all good false straps all (by omega) (by omega), b.chainApply_act (by omega) (by omega) (by omega)]
  · obtain ⟨-, hother⟩ := b.command_mine good false straps mine one (by omega)
    rw [hother (by omega) (by omega) (by omega) (by omega), Block.answered]
    dsimp only
    rw [Bool.not_false, Bool.and_true]

theorem Block.command_word (b : Block) {f : ChainFrame} (good : f.ok = true) (straps : Nat) (low : 2 ≤ f.kind) (high : f.kind ≤ 5) (other : f.kind ≠ 4)
    (heard : b.hears f) (a : Nat) : (b.command f false straps).word a = (b.chainAct f).2.word a := by
  obtain ⟨hall, hmine⟩ := b.command_acts good straps low high
  rcases heard with all | mine
  · rw [hall all, Block.ringReset_other _ other, Block.chainSend_eq]
    rfl
  · rw [hmine mine, Block.ringReset_other _ other, Block.answered_word]

/-! ## ENUMERATE (R449) -/

theorem Block.enumerate_command (b : Block) {f : ChainFrame} (good : f.ok = true) (straps : Nat) (kind : f.kind = 1) (all : f.dest = 0x7FFF)
    (low : 1 ≤ beAt f.payload 0 2) (high : beAt f.payload 0 2 ≤ 32766) :
    let t := b.command f false straps
    t.ringAddr = beAt f.payload 0 2 ∧ t.hasAddr = true ∧
      t.out = b.out ++ [.chain ({ f with payload := beBytes 2 (beAt f.payload 0 2 + 1) } : ChainFrame).wire] := by
  intro t
  obtain ⟨n, hn⟩ : ∃ n, beAt f.payload 0 2 = n := ⟨_, rfl⟩
  rw [hn] at low high ⊢
  have henum : b.enumerate n = (n + 1, b.takeAddr (2 ^ 31 + n)) := (if_neg (by simp; omega)).trans (if_pos high)
  have happly : b.chainApply f = (ackOk, { f with payload := beBytes 2 (n + 1) }, b.takeAddr (2 ^ 31 + n)) := by
    unfold Block.chainApply
    rw [kind, hn, henum]
    rfl
  have ht : t = (b.takeAddr (2 ^ 31 + n)).chainSend { f with payload := beBytes 2 (n + 1) } := by
    rw [show t = _ from b.command_all good false straps all (by omega) (by omega), happly, Block.ringReset_other _ (by omega)]
  clear_value t
  rw [Block.chainSend_eq] at ht
  have hword : t.word R.CHN_ADDR = 2 ^ 31 + n := by
    rw [ht]
    refine (Block.word_setWord_same b R.CHN_ADDR (2 ^ 31 + n)).trans ?_
    omega
  refine ⟨?_, ?_, by rw [ht]; rfl⟩
  · rw [Block.ringAddr, Block.fld, hword, Bf.of]
    show (2 ^ 31 + n) / 2 ^ 0 % 2 ^ 15 = n
    omega
  · rw [Block.hasAddr, Block.flag, Block.fld, hword, Bf.of]
    show ((2 ^ 31 + n) / 2 ^ 31 % 2 ^ 1 == 1) = true
    rw [beq_iff_eq]
    omega

/-! ## RESET (R455) -/

theorem Block.warmReset_out (b : Block) (k : PkgReset) (straps : Nat) : ∃ o, (b.warmReset k straps).out = b.out ++ o := by
  obtain ⟨⟨rs, honly⟩, -⟩ := b.resetBy_tells k
  obtain ⟨c, hc⟩ : ∃ c : Block, { b.resetBy k with strapPins := straps } = c := ⟨_, rfl⟩
  have hout : c.out = b.out ++ b.busTold := by
    rw [← hc, honly]
  have ht : b.warmReset k straps = if c.inReset then c else c.bootStart := by rw [Block.warmReset, hc]
  rw [ht]
  split
  · exact ⟨_, hout⟩
  · obtain ⟨⟨rs', ds, o, hboot⟩, -⟩ := c.bootStart_tells
    refine ⟨b.busTold ++ o, ?_⟩
    rw [hboot, ← List.append_assoc, ← hout]

/-- What a RESET leaves. -/
theorem Block.ringReset_tells (b : Block) {f : ChainFrame} (kind : f.kind = 4) (straps : Nat) :
    let t := b.ringReset f ackOk straps
    bitOf (t.word R.FLT_RESET_CAUSE) 28 = true ∧ t.frames = [] ∧ t.locked = false ∧ t.strapPins = straps ∧ ∃ o, t.out = b.out ++ o := by
  intro t
  have ht : t = b.warmReset .ring straps := if_pos (by simp [kind])
  rw [ht]
  obtain ⟨hcause, -, hframes, -, hlocked, hstraps⟩ := b.warmReset_tells (k := .ring) (by decide) straps
  refine ⟨?_, hframes, hlocked, hstraps, b.warmReset_out .ring straps⟩
  refine (congrArg (bitOf · 28) hcause).trans (Block.causeAfter_bit _ (by decide) (by decide) (fun s n hs hn => ?_) (by decide))
  simp only [bitOf, PkgReset.bits, beq_iff_eq]
  omega

theorem Block.reset_command (b : Block) {f : ChainFrame} (good : f.ok = true) (straps : Nat) (kind : f.kind = 4) (heard : b.hears f)
    (on : b.flag R.CHN_CMD_EN F.CHN_CMD_EN_RESET_EN = true) :
    let t := b.command f false straps
    bitOf (t.word R.FLT_RESET_CAUSE) 28 = true ∧ t.frames = [] ∧ t.locked = false ∧ t.strapPins = straps ∧ ∃ y r, t.out = b.out ++ .chain y :: r := by
  intro t
  have hact : b.chainAct f = (ackOk, b) := by
    unfold Block.chainAct
    rw [kind]
    exact if_pos on
  obtain ⟨hall, hmine⟩ := b.command_acts good straps (by omega) (by omega)
  rw [hact] at hall hmine
  have hsent : ∃ (c : Block) (y : _), t = c.ringReset f ackOk straps ∧ c.out = b.out ++ [.chain y] := by
    rcases heard with all | mine
    · exact ⟨b.chainSend f, f.wire, hall all, by rw [Block.chainSend_eq]⟩
    · exact ⟨b.answered f ackOk, _, hmine mine, by rw [Block.answered_ok]⟩
  obtain ⟨c, y, ht, hout⟩ := hsent
  rw [ht]
  obtain ⟨hcause, hframes, hlocked, hstraps, o, ho⟩ := c.ringReset_tells kind straps
  exact ⟨hcause, hframes, hlocked, hstraps, y, o, by rw [ho, hout, List.append_assoc]; rfl⟩

/-! ## SNAPSHOT_AT (R456) -/

/-- The instant that a SNAPSHOT_AT names. -/
def snapOf (l : List Byte) : PendSnap := { base := byteAt l 0, tag := beAt l 1 4, s := beAt l 5 6, ns := beAt l 11 4 }

theorem Block.snapFrame_valid (b : Block) {l : List Byte} (base : byteAt l 0 ≤ 1) (ns : beAt l 11 4 ≤ 999999999) :
    b.snapFrame l = (if (b.setSnap (snapOf l)).1 then ackOk else ackRefused, (b.setSnap (snapOf l)).2) :=
  if_neg (by simp; omega)

theorem Block.snap_command (b : Block) {f : ChainFrame} (good : f.ok = true) (straps : Nat) (kind : f.kind = 5) (base : byteAt f.payload 0 ≤ 1)
    (ns : beAt f.payload 11 4 ≤ 999999999) (on : b.flag R.CHN_CMD_EN F.CHN_CMD_EN_SNAP_EN = true) :
    let s := b.setSnap (snapOf f.payload)
    let t := b.command f false straps
    (f.dest = 0x7FFF → t = s.2.chainSend f) ∧
    (b.names f ∧ f.dest < 0x7FFF → (s.1 = true → t = s.2.ack f 0) ∧ (s.1 = false → t = (s.2.chainSend f).ack f 4)) := by
  intro s t
  have hact : b.chainAct f = (if s.1 then ackOk else ackRefused, s.2) := by
    unfold Block.chainAct
    rw [kind]
    exact (if_pos on).trans (b.snapFrame_valid base ns)
  obtain ⟨hall, hmine⟩ := b.command_acts good straps (by omega) (by omega)
  rw [hact] at hall hmine
  refine ⟨fun all => ?_, fun mine => ⟨fun took => ?_, fun not => ?_⟩⟩
  · rw [show t = _ from hall all, Block.ringReset_other _ (by omega)]
  · rw [show t = _ from hmine mine, Block.ringReset_other _ (by omega), took]
    rfl
  · rw [show t = _ from hmine mine, Block.ringReset_other _ (by omega), not]
    rfl

/-! ## TALLY_LOAD and TALLY_SUM (R461) -/

/-- The expected values as a TALLY_LOAD of n classes from class k0 leaves them. -/
def expectedOf (l : List Byte) (k0 : Nat) (e : SMap Nat) (n : Nat) : SMap Nat :=
  (List.range n).foldl (fun m i => if k0 + i == 15 || k0 + i == 17 then m else SMap.put m (k0 + i) (beAt l (8 + 8 * i) 8)) e

theorem find_expectedOf (l : List Byte) (k0 : Nat) (e : SMap Nat) {n i : Nat} (hi : i < n) (h15 : k0 + i ≠ 15) (h17 : k0 + i ≠ 17) :
    SMap.find (expectedOf l k0 e n) (k0 + i) = some (beAt l (8 + 8 * i) 8) := by
  induction n with
  | zero => omega
  | succ n ih =>
    rw [expectedOf, List.range_succ, List.foldl_append]
    show SMap.find (if k0 + n == 15 || k0 + n == 17 then expectedOf l k0 e n else SMap.put (expectedOf l k0 e n) (k0 + n) (beAt l (8 + 8 * n) 8)) _ = _
    by_cases hlast : i = n
    · subst hlast
      rw [if_neg (by simp; omega), SMap.find_put_same]
    · split
      · exact ih (by omega)
      · rw [SMap.find_put_other _ _ (by omega), ih (by omega)]

theorem Block.load_command (b : Block) {f : ChainFrame} (good : f.ok = true) (straps : Nat) (kind : f.kind = 6) (all : f.dest = 0x7FFF)
    (sweep : b.inSweep (byteAt f.payload 1) = true) :
    let t := b.command f false straps
    t.chain.sweep = byteAt f.payload 0 ∧
      (∃ e, t.chain.expected = expectedOf f.payload (byteAt f.payload 2) e (byteAt f.payload 3)) ∧ t.out = b.out ++ [.chain f.wire] := by
  intro t
  obtain ⟨ch, hch⟩ : ∃ ch, (if b.chain.sweep == byteAt f.payload 0 then b.chain else { b.chain with sweep := byteAt f.payload 0, expected := [] }) = ch :=
    ⟨_, rfl⟩
  have hsweep : ch.sweep = byteAt f.payload 0 := by
    rw [← hch]
    split
    · next h => exact beq_iff_eq.mp h
    · rfl
  have hload : b.tallyLoad f.payload =
      { b with chain := { ch with expected := expectedOf f.payload (byteAt f.payload 2) ch.expected (byteAt f.payload 3) } } := by
    rw [← hch]
    exact if_neg (by simp [sweep])
  have happly : b.chainApply f = (ackOk, f, b.tallyLoad f.payload) := by
    unfold Block.chainApply
    rw [kind]
    rfl
  have ht : t = (b.tallyLoad f.payload).chainSend f := by
    rw [show t = _ from b.command_all good false straps all (by omega) (by omega), happly, Block.ringReset_other _ (by omega)]
  rw [ht, hload, Block.chainSend_eq]
  exact ⟨hsweep, ⟨_, rfl⟩, rfl⟩

theorem Block.sum_command (b : Block) {f : ChainFrame} (good : f.ok = true) (straps : Nat) (kind : f.kind = 7) (all : f.dest = 0x7FFF) :
    b.command f false straps = (b.tallySum f.payload).2.chainSend { f with payload := (b.tallySum f.payload).1 } := by
  have happly : b.chainApply f = (ackOk, { f with payload := (b.tallySum f.payload).1 }, (b.tallySum f.payload).2) := by
    unfold Block.chainApply
    rw [kind]
    rfl
  rw [b.command_all good false straps all (by omega) (by omega), happly, Block.ringReset_other _ (by omega)]

/-- The classes in which the package does not match what was loaded. -/
def Block.unmatched (b : Block) (l : List Byte) : List Nat :=
  (sweepClasses (beAt l 4 4)).filter fun k => (if b.chain.sweep == byteAt l 0 then SMap.find b.chain.expected k else none) != some (b.tally k)

theorem Block.unmatched_nil (b : Block) {l : List Byte} (loaded : b.chain.sweep = byteAt l 0) :
    b.unmatched l = [] ↔ ∀ k ∈ sweepClasses (beAt l 4 4), SMap.find b.chain.expected k = some (b.tally k) := by
  rw [Block.unmatched, List.filter_eq_nil_iff]
  simp [loaded]

theorem Block.tallySum_away (b : Block) {l : List Byte} (away : b.inSweep (byteAt l 1) = false) : b.tallySum l = (bumpAt l 12, b) :=
  if_pos (by simp [away])

/-- What the package makes of the payload of a sweep that it takes part in. -/
theorem Block.tallySum_tells (b : Block) {l : List Byte} (sweep : b.inSweep (byteAt l 1) = true) :
    (b.unmatched l = [] → (b.tallySum l).1 = bumpAt l 8 ∧ (b.tallySum l).2.out = b.out ∧ (b.tallySum l).2.inflight = b.inflight) ∧
    (b.unmatched l ≠ [] → (b.tallySum l).2.out = b.out ∧ (b.tallySum l).2.inflight = (b.send 2 0 0x69 0).inflight ∧
      (b.tallySum l).1 = bumpAt (if beAt l 10 2 < 16 then patch l (16 + 2 * beAt l 10 2) (beBytes 2 b.ringAddr) else l) 10) := by
  obtain ⟨st, hst⟩ : ∃ st, b.tallySum l =
      if (b.unmatched l).isEmpty then (bumpAt l 8, b.setWord R.CHN_SWEEP_STATUS st)
      else (bumpAt (if beAt l 10 2 < 16 then patch l (16 + 2 * beAt l 10 2) (beBytes 2 (b.setWord R.CHN_SWEEP_STATUS st).ringAddr) else l) 10,
        (b.setWord R.CHN_SWEEP_STATUS st).send 2 0 0x69 0) := ⟨_, if_neg (by simp [sweep])⟩
  have hring : (b.setWord R.CHN_SWEEP_STATUS st).ringAddr = b.ringAddr := Block.fld_of_word (Block.word_setWord_other _ _ (by decide)) _
  rw [hst, hring]
  refine ⟨fun h => ?_, fun h => ?_⟩
  · rw [if_pos (by simp [h])]
    exact ⟨rfl, Block.setWord_out _ _ _, Block.setWord_inflight _ _ _⟩
  · rw [if_neg (by simp [h])]
    exact ⟨Block.setWord_out b R.CHN_SWEEP_STATUS st, by rw [Block.send, Block.send, Block.sendAs, Block.sendAs, Block.setWord_inflight, Block.setWord_ticks], rfl⟩

/-- A digest of class 1 reads counters, and no other class does. -/
theorem Block.tally_counted (h : b.Counted c) (same : ∀ C, c.ctr (R.CLS_CS_DIGEST_LOAD C) = b.ctr (R.CLS_CS_DIGEST_LOAD C)) (k : Nat) : c.tally k = b.tally k := by
  obtain ⟨cs, rfl⟩ := h
  have hset (k n mask : Nat) (reg : Nat → Nat) : ({ b with ctrs := cs } : Block).regSet k n mask reg = b.regSet k n mask reg := rfl
  have hsets (k n : Nat) (regs : List (Nat → Nat)) : ({ b with ctrs := cs } : Block).regSets k n regs = b.regSets k n regs := rfl
  have hshaper (G n : Nat) : ({ b with ctrs := cs } : Block).shaperHash G n = b.shaperHash G n := rfl
  have hgate : ({ b with ctrs := cs } : Block).gateHash = b.gateHash := rfl
  unfold Block.tally
  split
  · rfl
  · simp only [same]
  · simp only [Block.portDigest, hset, hsets]
  · simp only [Block.queueDigest, hset, hsets, hshaper, hgate]
  · rfl
  · rfl
  · rfl

/-! ## READ (R457) -/

theorem Block.peek_isSome (b c : Block) (a : Nat) : (c.peek a).isSome = (b.peek a).isSome := by
  unfold Block.peek
  split
  · split <;> rfl
  · rfl

theorem Block.ringRead_good (b : Block) {l : List Byte} (on : b.flag R.CHN_CMD_EN F.CHN_CMD_EN_READ_EN = true) (aligned : beAt l 0 4 % 4 = 0)
    (low : 1 ≤ byteAt l 4) (high : byteAt l 4 ≤ 15)
    (there : ∀ i, i < byteAt l 4 → ringReadable (beAt l 0 4 + 4 * i) = true ∧ (b.peek (beAt l 0 4 + 4 * i)).isSome = true) :
    b.ringRead l = (ackOk, beBytes 1 0 ++ beBytes 1 (byteAt l 4) ++ zeros 2 ++
      (List.range (byteAt l 4)).flatMap fun i => beBytes 4 ((b.peek (beAt l 0 4 + 4 * i)).getD 0)) := by
  have hall : (((List.range (byteAt l 4)).map fun i => beAt l 0 4 + 4 * i).all fun x => ringReadable x && (b.peek x).isSome) = true := by
    rw [List.all_eq_true]
    intro x hx
    obtain ⟨i, hi, rfl⟩ := List.mem_map.mp hx
    rw [Bool.and_eq_true]
    exact there i (List.mem_range.mp hi)
  refine (if_neg (by simp [on])).trans ((if_neg (by simp; omega)).trans ((if_pos hall).trans ?_))
  rw [List.flatMap_map]
/-- Settles O42: what a member does with each command that it hears. -/
theorem chainCommandsActAtTheMembers : Obligations.ChainCommandsActAtTheMembers := by
  unfold Obligations.ChainCommandsActAtTheMembers
  intro b dest tag l straps live lost member short all mine f answers on
  have hflag (k : Nat) (e : Bf) : (on k).flag R.CHN_CMD_EN e = b.flag R.CHN_CMD_EN e := Block.flag_of_regs (Block.pmc_regs ..) _ _
  have hout (k : Nat) : (on k).out = b.out := Block.pmc_out ..
  have hword (k a : Nat) : (on k).word a = b.word a := Block.word_of_regs (Block.pmc_regs ..) a
  have hchain (k : Nat) : (on k).ringAddr = b.ringAddr ∧ ((on k).names (f k) ↔ b.names (f k)) := by
    obtain ⟨-, haddr, hring⟩ := Block.chain_of_regs (b := b) (c := on k) (Block.pmc_regs ..)
    exact ⟨hring, by rw [Block.names, Block.names, haddr, hring]⟩
  have hsweep (k g : Nat) : (on k).inSweep g = b.inSweep g := by
    obtain ⟨-, haddr, -⟩ := Block.chain_of_regs (b := b) (c := on k) (Block.pmc_regs ..)
    rw [Block.inSweep, Block.inSweep, haddr, Block.fld_of_word (hword k _)]
  have hmine (h : mine) (k : Nat) : (on k).names (f k) ∧ (f k).dest < 0x7FFF := by
    obtain ⟨has, addr, one, small⟩ := h
    exact ⟨(hchain k).2.mpr ⟨has, addr⟩, by show dest.toNat < 0x7FFF; omega⟩
  have hhears (h : all ∨ mine) (k : Nat) : (on k).hears (f k) := h.imp id fun h => hmine h k
  have hin {k : Nat} (good : (f k).ok = true) (s : Nat) : b.chainIn k dest.toNat tag.toNat l true s = (on k).command (f k) false s :=
    b.chainIn_member live lost member short good s
  have hresp (k : Nat) : (on k).response = b.response := by
    unfold Block.response
    rw [(hchain k).1]
  have henum : Takes (.enumerate dest tag l true) b (b.chainIn 1 dest.toNat tag.toNat l true b.strapPins) := fun _ => rfl
  have hhold : Takes (.ringHold dest tag l true) b (b.chainIn 2 dest.toNat tag.toNat l true b.strapPins) := fun _ => rfl
  have hrel : Takes (.ringRelease dest tag l true) b (b.chainIn 3 dest.toNat tag.toNat l true b.strapPins) := fun _ => rfl
  have hreset : Takes (.ringReset dest tag l true straps) b (b.chainIn 4 dest.toNat tag.toNat l true straps.toNat) := fun _ => rfl
  have hsnap : Takes (.snapshotAt dest tag l true) b (b.chainIn 5 dest.toNat tag.toNat l true b.strapPins) := fun _ => rfl
  have hload : Takes (.tallyLoad dest tag l true) b (b.chainIn 6 dest.toNat tag.toNat l true b.strapPins) := fun _ => rfl
  have hsum : Takes (.tallySum dest tag l true) b (b.chainIn 7 dest.toNat tag.toNat l true b.strapPins) := fun _ => rfl
  have hread : Takes (.ringRead dest tag l true) b (b.chainIn 8 dest.toNat tag.toNat l true b.strapPins) := fun _ => rfl
  have hwire (g : ChainFrame) (h : g.crcBad = false) : g.wire = g.body ++ beBytes 4 (crc32 g.body) := ChainFrame.wire_good h
  refine ⟨fun hall two low high => ?_, fun heard one small en => ?_, fun me one en => ?_, fun heard nil en => ?_, fun heard nil en => ?_,
    fun len base ns en => ?_, fun hall good sweep => ?_, fun hall len away => ?_, fun hall len sweep loaded => ?_, fun me len en aligned low high there => ?_⟩
  · have good : (f 1).ok = true := beq_iff_eq.mpr two
    rw [hin good] at henum
    obtain ⟨haddr, hhas, ho⟩ := (on 1).enumerate_command (f := f 1) good b.strapPins rfl hall low high
    exact henum.to ⟨haddr, hhas, _, by rw [ho, hout, hwire _ rfl], rfl⟩
  · have good : (f 2).ok = true := beq_iff_eq.mpr one
    rw [hin good] at hhold
    refine hhold.to (((on 2).command_word (f := f 2) good _ (by decide : 2 ≤ 2) (by decide : 2 ≤ 5) (by decide : 2 ≠ 4) (hhears heard 2) _).trans ?_)
    rw [((on 2).chainAct_hold (f := f 2) rfl).1 ((hflag 2 _).trans en) small, Block.ringHold_word]
    exact Nat.mod_eq_of_lt small
  · have good : (f 2).ok = true := beq_iff_eq.mpr one
    rw [hin good] at hhold
    have hact := ((on 2).chainAct_hold (f := f 2) rfl).2 ((hflag 2 _).trans en)
    have hcmd := ((on 2).command_acts (f := f 2) good b.strapPins (by decide : 2 ≤ 2) (by decide : 2 ≤ 5)).2 (hmine me 2)
    rw [hact, Block.ringReset_other _ (by decide : 2 ≠ 4)] at hcmd
    have hans : (on 2).answered (f 2) ackDisabled = _ := (congrArg (fun c : Block => c.ack (f 2) ackDisabled) (if_neg (by decide))).trans
      ((on 2).chainSend_ack (f 2) ackDisabled)
    rw [hcmd, hans, hout, hwire (f 2) rfl, hresp] at hhold
    refine hhold.to ⟨hword 2 _, Block.pmc_dies .., _, rfl, b.response 0x81 tag.toNat (beBytes 1 2 ++ beBytes 1 1), ?_, rfl, rfl, rfl, rfl⟩
    exact hwire _ rfl
  · have good : (f 3).ok = true := beq_iff_eq.mpr (congrArg List.length nil)
    rw [hin good] at hrel
    refine hrel.to (((on 3).command_word (f := f 3) good _ (by decide : 2 ≤ 3) (by decide : 3 ≤ 5) (by decide : 3 ≠ 4) (hhears heard 3) _).trans ?_)
    have hact : (on 3).chainAct (f 3) = (ackOk, (on 3).ringRelease) := if_pos ((hflag 3 _).trans en)
    rw [hact, Block.ringRelease_word]
  · have good : (f 4).ok = true := beq_iff_eq.mpr (congrArg List.length nil)
    rw [hin good] at hreset
    have h := (on 4).reset_command (f := f 4) good straps.toNat rfl (hhears heard 4) ((hflag 4 _).trans en)
    rw [hout] at h
    exact hreset.to h
  · intro s
    have good : (f 5).ok = true := beq_iff_eq.mpr len
    rw [hin good] at hsnap
    obtain ⟨hall, hme⟩ := (on 5).snap_command (f := f 5) good b.strapPins rfl base ns ((hflag 5 _).trans en)
    exact ⟨fun h => takes_congr hsnap (hall h), fun h took => takes_congr hsnap ((hme (hmine h 5)).1 took),
      fun h not => takes_congr hsnap ((hme (hmine h 5)).2 not)⟩
  · rw [hin good] at hload
    obtain ⟨hid, ⟨e, he⟩, ho⟩ := (on 6).load_command (f := f 6) good b.strapPins rfl hall ((hsweep 6 _).trans sweep)
    refine hload.to ⟨hid, fun i hi h15 h17 => ?_, _, by rw [ho, hout]⟩
    rw [he]
    exact find_expectedOf l (byteAt l 2) e hi h15 h17
  · have good : (f 7).ok = true := beq_iff_eq.mpr len
    rw [hin good, (on 7).sum_command (f := f 7) good b.strapPins rfl hall, (on 7).tallySum_away ((hsweep 7 _).trans away), Block.chainSend_eq, hout,
      hwire _ rfl] at hsum
    exact hsum.to ⟨⟨_, rfl, rfl⟩, Block.pmc_regs ..⟩
  · intro matches_
    have good : (f 7).ok = true := beq_iff_eq.mpr len
    have htally (k : Nat) : (on 7).tally k = b.tally k := Block.tally_counted ((Block.Counted.refl b).pmc _ _ _ _) (fun C =>
      b.ctr_pmc_other .pkg _ _ _ fun k _ e => by
        unfold R.CLS_CS_DIGEST_LOAD clsBase PUnit.base at e
        dsimp only at e
        omega) k
    have hchn : (on 7).chain = b.chain := Block.pmc_chain ..
    have hmatch : (on 7).unmatched l = [] ↔ matches_ := by
      rw [(on 7).unmatched_nil (by rw [hchn, loaded]), hchn]
      simp only [htally]
      exact Iff.rfl
    obtain ⟨hyes, hno⟩ := (on 7).tallySum_tells (l := l) ((hsweep 7 _).trans sweep)
    rw [hin good, (on 7).sum_command (f := f 7) good b.strapPins rfl hall, Block.chainSend_eq, hwire _ rfl] at hsum
    refine ⟨fun h => ?_, fun h => ?_⟩
    · obtain ⟨hpay, ho, hi⟩ := hyes (hmatch.mpr h)
      exact hsum.to ⟨⟨_, by rw [ho, hout], hpay⟩, hi.trans (Block.pmc_inflight ..)⟩
    · obtain ⟨ho, hi, hpay⟩ := hno (mt hmatch.mp h)
      have hinfl : ((on 7).send 2 0 0x69 0).inflight = (b.send 2 0 0x69 0).inflight := by
        show (on 7).inflight ++ [_] = b.inflight ++ [_]
        rw [Block.pmc_inflight, Block.pmc_ticks]
      refine hsum.to ⟨hi.trans hinfl, _, by rw [ho, hout], fun few => ?_, fun many => ?_⟩
      · refine hpay.trans ?_
        rw [if_pos few, (hchain 7).1]
      · refine hpay.trans ?_
        rw [if_neg (by omega)]
  · have good : (f 8).ok = true := beq_iff_eq.mpr len
    obtain ⟨hnames, hone⟩ := hmine me 8
    have hgot := (on 8).ringRead_good (l := l) ((hflag 8 _).trans en) aligned low high fun i hi => by
      rw [b.peek_isSome]
      exact ⟨(there i hi).1, Option.isSome_iff_ne_none.mpr (there i hi).2⟩
    have hcmd := ((on 8).command_mine (f := f 8) good false b.strapPins hnames hone (by decide : 8 < 0x81)).1 rfl
    rw [show (f 8).payload = l from rfl, hgot] at hcmd
    have hans : (on 8).command (f 8) false b.strapPins = _ := hcmd.trans
      ((congrArg (fun c : Block => c.respond 0x82 tag.toNat _) (if_pos (by simp))).trans ((on 8).respond_eq 0x82 tag.toNat _))
    rw [hin good, hans, hout, hwire _ rfl] at hread
    obtain ⟨cs, hcs⟩ : b.Counted (on 8) := (Block.Counted.refl b).pmc _ _ _ _
    refine hread.to ⟨?_, _, rfl, rfl, rfl, rfl⟩
    rw [hcs]

end Sys2Proof.Machine
end

section
/-!
PROOFS. The redundancy pair (R463 to R470): what settling, a change of a role and a promotion leave of the block; O44 from these.
-/
namespace Sys2Proof.Machine
open Sys2Proof

variable {b c d : Block}

/-! ## Commands that complete (R470) -/

/-- From b to c operations have completed: what the host reads of them, and what left the block, apart, nothing below the instances'
registers changed. -/
structure Block.Settled (b c : Block) : Prop where
  only : ∃ rs cs es o rc is, c = { b with regs := rs, ctrs := cs, engines := es, out := o, records := rc, insts := is }
  low : b.SameLow c

namespace Block.Settled

theorem refl (b : Block) : b.Settled b := ⟨⟨b.regs, b.ctrs, b.engines, b.out, b.records, b.insts, rfl⟩, .refl b⟩

theorem trans (h : b.Settled c) (h' : c.Settled d) : b.Settled d := by
  obtain ⟨⟨rs, cs, es, o, rc, is, rfl⟩, low⟩ := h
  obtain ⟨⟨rs', cs', es', o', rc', is', rfl⟩, low'⟩ := h'
  exact ⟨⟨rs', cs', es', o', rc', is', rfl⟩, low.trans low'⟩

theorem setWord (h : b.Settled c) {a : Nat} (v : Nat) (high : 0x200000 ≤ a) : b.Settled (c.setWord a v) := by
  refine h.trans ⟨⟨_, _, _, _, _, _, c.setWord_only a v⟩, fun x hx => ?_⟩
  exact Block.word_setWord_other _ _ (by omega)

theorem setFld (h : b.Settled c) {a : Nat} (f : Bf) (v : Nat) (high : 0x200000 ≤ a) : b.Settled (c.setFld a f v) := h.setWord _ high
theorem raise (h : b.Settled c) {a : Nat} (f : Bf) (high : 0x200000 ≤ a) : b.Settled (c.raise a f) := h.setFld f 1 high
theorem lower (h : b.Settled c) {a : Nat} (f : Bf) (high : 0x200000 ≤ a) : b.Settled (c.lower a f) := h.setFld f 0 high

theorem counted (h : b.Settled c) (h' : c.Counted d) : b.Settled d := by
  obtain ⟨cs, rfl⟩ := h'
  exact h.trans ⟨⟨_, _, _, _, _, _, rfl⟩, .of_regs rfl⟩
theorem pmc (h : b.Settled c) (u : PUnit) (ev q n : Nat) : b.Settled (c.pmc u ev q n) := h.counted ((Counted.refl c).pmc u ev q n)

theorem trace (h : b.Settled c) (r : TraceRec) : b.Settled (c.trace r) := h.trans ⟨⟨_, _, _, _, _, _, rfl⟩, .of_regs rfl⟩
theorem modEngine (h : b.Settled c) (e : Nat) (f : Engine → Engine) : b.Settled (c.modEngine e f) :=
  h.trans ⟨⟨_, _, _, _, _, _, rfl⟩, .of_regs rfl⟩
theorem shaix (h : b.Settled c) (t : Nat) (l : List Byte) : b.Settled (c.shaix t l) :=
  h.trans ⟨⟨_, _, _, _, _, _, c.shaix_only t l⟩, .of_regs (by rw [c.shaix_only t l])⟩
theorem msix (h : b.Settled c) (i v : Nat) : b.Settled (c.msix i v) :=
  h.trans ⟨⟨_, _, _, _, _, _, c.msix_only i v⟩, .of_regs (by rw [c.msix_only i v])⟩

theorem each (h : b.Settled c) (n : Nat) (f : Block → Nat → Block) (turn : ∀ (d : Block) k, d.Settled (f d k)) : b.Settled (c.each n f) :=
  Block.each_inv (P := b.Settled) h fun d k _ hd => hd.trans (turn d k)

theorem pair (h : b.Settled c) : c.pair = b.pair := by obtain ⟨⟨rs, cs, es, o, rc, is, rfl⟩, -⟩ := h; rfl
theorem inflight (h : b.Settled c) : c.inflight = b.inflight := by obtain ⟨⟨rs, cs, es, o, rc, is, rfl⟩, -⟩ := h; rfl
theorem ticks (h : b.Settled c) : c.ticks = b.ticks := by obtain ⟨⟨rs, cs, es, o, rc, is, rfl⟩, -⟩ := h; rfl

end Block.Settled

theorem Block.publish_settled (b : Block) (d : Nat) (o : TblOp) : b.Settled (b.publish d o) := by
  have hreg (c : Block) : c.Settled (c.publishReg d o) := by
    have hst : 0x200000 ≤ R.TBL_CMD_STATUS d := by unfold R.TBL_CMD_STATUS tblBase dieBase; omega
    have hres : 0x200000 ≤ R.TBL_CMD_RESULT d := by unfold R.TBL_CMD_RESULT tblBase dieBase; omega
    have hdata (j : Nat) : 0x200000 ≤ R.TBL_CMD_DATA d j := by unfold R.TBL_CMD_DATA tblBase dieBase; omega
    have hshown : c.Settled (c.cmdShown d o) := by
      have h0 := (((Settled.refl c).lower F.TBL_CMD_STATUS_BUSY hst).setFld F.TBL_CMD_STATUS_STATUS o.status hst).setFld F.TBL_CMD_RESULT_INDEX o.res hres
      unfold Block.cmdShown
      dsimp only
      split
      · split
        · exact (h0.setFld _ _ hres).each _ _ fun d k => (Settled.refl d).setWord _ (hdata k)
        · exact h0.each _ _ fun d k => (Settled.refl d).setWord _ (hdata k)
      · split
        · exact h0.setFld _ _ hres
        · exact h0
    rw [Block.publishReg_eq]
    generalize c.cmdShown d o = e at hshown
    have honly := e.raising_only 0 fun b => b.raise (R.TBL_CMD_STATUS d) F.TBL_CMD_STATUS_DONE
    obtain ⟨hword, -⟩ := e.raising_tells 0 fun b => b.raise (R.TBL_CMD_STATUS d) F.TBL_CMD_STATUS_DONE
    refine (hshown.raise F.TBL_CMD_STATUS_DONE hst).trans ⟨⟨_, _, _, _, _, _, honly⟩, fun a _ => hword a⟩
  have hinst (c : Block) (i : Nat) : c.Settled (c.publishInst i o) := by
    have hst : 0x200000 ≤ R.LAY_INS_CMD_STATUS i := by unfold R.LAY_INS_CMD_STATUS layBase; omega
    have hres : 0x200000 ≤ R.LAY_INS_CMD_RESULT i := by unfold R.LAY_INS_CMD_RESULT layBase; omega
    have hins : 0x200000 ≤ R.INS_INS_STATUS i := by unfold R.INS_INS_STATUS insBase; omega
    have hdata (j : Nat) : 0x200000 ≤ R.LAY_INS_CMD_DATA i j := by unfold R.LAY_INS_CMD_DATA layBase; omega
    have hvec (d : Block) : d.Settled (d.insVector i (R.LAY_CMD_VEC i)) := by
      unfold Block.insVector
      split
      · exact (Settled.refl d).msix _ _
      · exact .refl d
    have h0 := (((Settled.refl c).lower F.LAY_INS_CMD_STATUS_BUSY hst).setFld F.LAY_INS_CMD_STATUS_STATUS o.status hst).setWord (o.res - o.base) hres
    have hdone (e : Block) : e.Settled ((e.raise (R.LAY_INS_CMD_STATUS i) F.LAY_INS_CMD_STATUS_DONE).raise (R.INS_INS_STATUS i) F.INS_INS_STATUS_CMD_IDLE) :=
      ((Settled.refl e).raise _ hst).raise _ hins
    unfold Block.publishInst
    dsimp only
    split <;> split
    · exact (h0.each _ _ fun d k => (Settled.refl d).setWord _ (hdata k)).trans (hdone _)
    · exact h0.trans (hdone _)
    · exact ((h0.each _ _ fun d k => (Settled.refl d).setWord _ (hdata k)).trans (hdone _)).trans (hvec _)
    · exact (h0.trans (hdone _)).trans (hvec _)
  have hcommit : 0x200000 ≤ R.TBL_EM_TMPL_CTRL d := by unfold R.TBL_EM_TMPL_CTRL tblBase dieBase; omega
  have hpmc : b.Settled (b.pmc (.tbl d) 0x01 o.op 1) := (Settled.refl b).pmc _ _ _ _
  unfold Block.publish Block.traceCmd
  dsimp only
  split
  · exact (hpmc.trans (hreg _)).trace _
  · exact (hpmc.trans (hinst _ _)).trace _
  · exact (Settled.refl b).lower _ hcommit
  · have hset (c : Block) (v : Nat) : c.Settled (c.setCtr R.PAIR_APPLIED_SEQ v) := (Settled.refl c).counted ((Counted.refl c).setCtr _ _)
    split
    · exact (hset b _).shaix _ _
    · exact (((hpmc.trace _).trans (hset _ _)).shaix _ _)

theorem Block.settleDie_settled (b : Block) (d : Nat) (fuel : Nat) : b.Settled (b.settleDie d fuel) := by
  induction fuel generalizing b with
  | zero => exact .refl b
  | succ fuel ih =>
    unfold Block.settleDie
    split
    · exact .refl b
    · split
      · exact (((Settled.refl b).modEngine d _).trans (Block.publish_settled _ d _)).trans (ih _)
      · exact .refl b

/-- Settling: the lag is empty, and what completed is told. -/
theorem Block.settle_tells (b : Block) : ∃ c, b.Settled c ∧ b.settle = { c with pair := { b.pair with lag := [] } } := by
  have h : b.Settled (b.each 4 fun b d => b.settleDie d (b.engine d).ops.length) := (Settled.refl b).each _ _ fun c d => c.settleDie_settled d _
  refine ⟨_, h, ?_⟩
  unfold Block.settle Block.modPair
  rw [h.pair]

/-- Where the engines have nothing, settling tells nothing. -/
theorem Block.settle_idle (b : Block) (idle : ∀ d, d < 4 → (b.engine d).ops = []) : b.settle = { b with pair := { b.pair with lag := [] } } := by
  have h : (b.each 4 fun b d => b.settleDie d (b.engine d).ops.length) = b := by
    refine Block.each_inv (P := fun c => c = b) rfl fun c d hd hc => ?_
    rw [hc, idle d hd]
    rfl
  unfold Block.settle Block.modPair
  rw [h]

/-! ## PAIR_STATUS -/

/-- From b to c nothing of PAIR_STATUS changed but fields of L, and no other register below the instances' but EPOCH. -/
structure Block.Pairs (L : List Bf) (b c : Block) : Prop where
  fld : ∀ g, (∀ f ∈ L, f.apart g = true) → c.fld R.PAIR_STATUS g = b.fld R.PAIR_STATUS g
  word : ∀ a, a < 0x200000 → a ≠ R.PAIR_STATUS → c.word a = b.word a

namespace Block.Pairs
variable {L M : List Bf}

theorem refl (L : List Bf) (b : Block) : b.Pairs L b := ⟨fun _ _ => rfl, fun _ _ _ => rfl⟩
theorem trans (h : b.Pairs L c) (h' : c.Pairs L d) : b.Pairs L d :=
  ⟨fun g hg => (h'.fld g hg).trans (h.fld g hg), fun a ha hs => (h'.word a ha hs).trans (h.word a ha hs)⟩
theorem mono (h : b.Pairs L c) (hLM : ∀ x ∈ L, x ∈ M) : b.Pairs M c := ⟨fun g hg => h.fld g fun x hx => hg x (hLM x hx), h.word⟩

theorem of_low (h : b.SameLow c) : b.Pairs L c := ⟨fun g _ => Block.fld_of_word (h _ (by decide)) g, fun a ha _ => h a ha⟩
theorem of_regs (h : c.regs = b.regs) : b.Pairs L c := of_low (.of_regs h)

theorem setFld (h : b.Pairs L c) {f : Bf} (v : Nat) (hm : f ∈ L) (wide : f.hi < 32) (order : f.lo ≤ f.hi) :
    b.Pairs L (c.setFld R.PAIR_STATUS f v) := by
  refine h.trans ⟨fun g hg => ?_, fun a _ hs => Block.word_setFld_ne _ _ _ hs⟩
  obtain ⟨hgo, hap⟩ := (Bf.apart_iff f g).mp (hg f hm)
  exact Block.fld_setFld_apart _ _ _ _ _ wide order hgo hap

theorem flag (h : b.Pairs L c) {g : Bf} (hg : ∀ f ∈ L, f.apart g = true) : c.flag R.PAIR_STATUS g = b.flag R.PAIR_STATUS g :=
  congrArg (· == 1) (h.fld g hg)

end Block.Pairs

/-- A message stands behind those in flight, whatever else the block holds. -/
theorem send_inflight_congr (ticks : c.ticks = b.ticks) (inflight : c.inflight = b.inflight) (t i k a : Nat) :
    (c.send t i k a).inflight = (b.send t i k a).inflight := by
  rw [Block.send, Block.send, Block.sendAs, Block.sendAs, ticks, inflight]

/-! ## Changes of a role (R470) -/

/-- Mirroring has ended: a flag and what the pair keeps of it. -/
theorem Block.mirrorOff_tells (b : Block) :
    ∃ rs, b.mirrorOff = { b with regs := rs, pair := { b.pair with mode := 0, expect := none, early := [] } } ∧
      b.Pairs [F.PAIR_STATUS_MIRRORING] b.mirrorOff ∧ b.mirrorOff.mirroring = false := by
  obtain ⟨rs, h⟩ := b.setFld_regs R.PAIR_STATUS F.PAIR_STATUS_MIRRORING 0
  obtain ⟨c, hc⟩ : ∃ c, b.lower R.PAIR_STATUS F.PAIR_STATUS_MIRRORING = c := ⟨_, rfl⟩
  have hoff : c.mirroring = false := hc ▸ Block.flag_lower _ _ _ (by decide) (by decide)
  have hpairs : b.Pairs [F.PAIR_STATUS_MIRRORING] c := hc ▸ (Pairs.refl _ b).setFld 0 (by decide) (by decide) (by decide)
  have ht : b.mirrorOff = { c with pair := { c.pair with mode := 0, expect := none, early := [] } } := by
    rw [← hc]
    rfl
  have honly : c = { b with regs := rs } := hc.symm.trans h
  rw [ht]
  refine ⟨rs, by rw [honly], hpairs.trans (.of_regs rfl), hoff⟩

/-- What a change of a role does beyond the change: it shows a conflict, and ends mirroring where one begins. -/
theorem Block.roleChange_tells (b : Block) (f : Block → Block) :
    let c := f b
    let t := b.roleChange f
    (c.bothPrimary = false → t = c.lower R.PAIR_STATUS F.PAIR_STATUS_CONFLICT) ∧
    (c.bothPrimary = true → c.flag R.PAIR_STATUS F.PAIR_STATUS_CONFLICT = true → t = c) ∧
    (c.bothPrimary = true → c.flag R.PAIR_STATUS F.PAIR_STATUS_CONFLICT = false →
      t = (c.settle.mirrorOff.raise R.PAIR_STATUS F.PAIR_STATUS_CONFLICT).send 3 0 0x6C 0) := by
  intro c t
  refine ⟨fun one => if_pos (by rw [one]; rfl), fun both was => ?_, fun both fresh => ?_⟩
  · exact (if_neg (by rw [both]; decide)).trans (if_pos was)
  · exact (if_neg (by rw [both]; decide)).trans (if_neg (ne_true_of_eq_false fresh))

/-- Settled, mirroring ended, and one flag of PAIR_STATUS set. -/
theorem Block.settleOff_tells (b : Block) :
    ∃ c, b.Settled c ∧ ∃ rs, b.settle.mirrorOff = { c with regs := rs, pair := { b.pair with lag := [], mode := 0, expect := none, early := [] } } ∧
      b.Pairs [F.PAIR_STATUS_MIRRORING] b.settle.mirrorOff ∧ b.settle.mirrorOff.mirroring = false := by
  obtain ⟨c, hc, hsettle⟩ := b.settle_tells
  obtain ⟨rs, hoff, hpairs, hmirror⟩ := b.settle.mirrorOff_tells
  refine ⟨c, hc, rs, ?_, ?_, hmirror⟩
  · rw [hoff, hsettle]
  · have h1 : b.Pairs [F.PAIR_STATUS_MIRRORING] c := .of_low hc.low
    have h2 : c.Pairs [F.PAIR_STATUS_MIRRORING] b.settle := .of_regs (by rw [hsettle])
    exact (h1.trans h2).trans hpairs

/-- A conflict has begun. -/
theorem Block.conflict_tells (b : Block) :
    let t := (b.settle.mirrorOff.raise R.PAIR_STATUS F.PAIR_STATUS_CONFLICT).send 3 0 0x6C 0
    b.Pairs [F.PAIR_STATUS_MIRRORING, F.PAIR_STATUS_CONFLICT] t ∧ t.mirroring = false ∧ t.flag R.PAIR_STATUS F.PAIR_STATUS_CONFLICT = true ∧
      t.inflight = (b.send 3 0 0x6C 0).inflight ∧ t.pair = { b.pair with lag := [], mode := 0, expect := none, early := [] } ∧ t.ticks = b.ticks := by
  obtain ⟨c, hc, rs, honly, hpairs, hmirror⟩ := b.settleOff_tells
  generalize b.settle.mirrorOff = m at *
  obtain ⟨r, hr⟩ : ∃ r, m.raise R.PAIR_STATUS F.PAIR_STATUS_CONFLICT = r := ⟨_, rfl⟩
  have hpair : r.pair = m.pair ∧ r.ticks = m.ticks ∧ r.inflight = m.inflight := by
    rw [← hr]
    exact ⟨Block.raise_pair .., Block.raise_ticks .., Block.raise_inflight ..⟩
  have hlater : m.Pairs [F.PAIR_STATUS_CONFLICT] r := hr ▸ (Pairs.refl _ m).setFld 1 (by decide) (by decide) (by decide)
  have hon : r.flag R.PAIR_STATUS F.PAIR_STATUS_CONFLICT = true := hr ▸ Block.flag_raise _ _ _ (by decide) (by decide)
  have hoff : r.mirroring = false := (hlater.flag (g := F.PAIR_STATUS_MIRRORING) (by decide)).trans hmirror
  have hall : b.Pairs [F.PAIR_STATUS_MIRRORING, F.PAIR_STATUS_CONFLICT] r := (hpairs.mono (by decide)).trans (hlater.mono (by decide))
  have hm : m.ticks = b.ticks ∧ m.inflight = b.inflight := by
    rw [honly]
    exact ⟨hc.ticks, hc.inflight⟩
  obtain ⟨hrp, hrt, hri⟩ := hpair
  rw [hr]
  refine ⟨hall.trans (.of_regs rfl), hoff, hon, send_inflight_congr (hrt.trans hm.1) (hri.trans hm.2) _ _ _ _, ?_, hrt.trans hm.1⟩
  show r.pair = _
  rw [hrp, honly]
/-- After a change that ended mirroring. -/
theorem Block.roleChange_after (b : Block) (f : Block → Block) (off : (f b).mirroring = false) :
    let c := f b
    let t := b.roleChange f
    c.Pairs [F.PAIR_STATUS_MIRRORING, F.PAIR_STATUS_CONFLICT] t ∧ t.mirroring = false ∧ (∃ l, t.inflight = c.inflight ++ l) ∧
      t.pair.seenAt = c.pair.seenAt ∧ t.ticks = c.ticks := by
  intro c t
  obtain ⟨hone, hsame, hnew⟩ := b.roleChange_tells f
  cases both : c.bothPrimary with
  | false =>
    rw [show t = _ from hone both]
    have h : c.Pairs [F.PAIR_STATUS_CONFLICT] (c.lower R.PAIR_STATUS F.PAIR_STATUS_CONFLICT) := (Pairs.refl _ c).setFld 0 (by decide) (by decide) (by decide)
    exact ⟨h.mono (by decide), (h.flag (g := F.PAIR_STATUS_MIRRORING) (by decide)).trans off, ⟨[], by rw [Block.lower_inflight, List.append_nil]⟩,
      by rw [Block.lower_pair], Block.lower_ticks ..⟩
  | true =>
    cases was : c.flag R.PAIR_STATUS F.PAIR_STATUS_CONFLICT with
    | true =>
      rw [show t = _ from hsame both was]
      exact ⟨.refl _ _, off, ⟨[], (List.append_nil _).symm⟩, rfl, rfl⟩
    | false =>
      rw [show t = _ from hnew both was]
      obtain ⟨hpairs, hoff, -, hinflight, hpair, hticks⟩ := c.conflict_tells
      exact ⟨hpairs, hoff, ⟨_, hinflight⟩, by rw [hpair], hticks⟩

/-- Mirroring off and the role stored. -/
theorem Block.roleStored_tells (b : Block) (r : Nat) (hr : r < 4) :
    let c := (b.setFld R.PAIR_STATUS F.PAIR_STATUS_ROLE r).mirrorOff
    c.pairRole = r ∧ c.mirroring = false ∧ b.Pairs [F.PAIR_STATUS_ROLE, F.PAIR_STATUS_MIRRORING] c ∧
      ∃ rs, c = { b with regs := rs, pair := { b.pair with mode := 0, expect := none, early := [] } } := by
  intro c
  obtain ⟨e, he⟩ : ∃ e, b.setFld R.PAIR_STATUS F.PAIR_STATUS_ROLE r = e := ⟨_, rfl⟩
  have hrole : e.pairRole = r := by
    rw [← he]
    exact (Block.fld_setFld_same _ _ _ _ (by decide) (by decide)).trans (Nat.mod_eq_of_lt hr)
  have hset : b.Pairs [F.PAIR_STATUS_ROLE] e := he ▸ (Pairs.refl _ b).setFld r (by decide) (by decide) (by decide)
  obtain ⟨rs', hrs⟩ := b.setFld_regs R.PAIR_STATUS F.PAIR_STATUS_ROLE r
  obtain ⟨rs, honly, hpairs, hmirror⟩ := e.mirrorOff_tells
  have hc : c = e.mirrorOff := congrArg Block.mirrorOff he
  rw [hc]
  refine ⟨(hpairs.fld F.PAIR_STATUS_ROLE (by decide)).trans hrole, hmirror, (hset.mono (by decide)).trans (hpairs.mono (by decide)), rs, ?_⟩
  rw [honly, ← he, hrs]

/-- The primary has become standby. -/
theorem Block.demoteNow_tells (b : Block) :
    ∃ c, b.Settled c ∧ ∃ rs, b.demoteNow =
      { c with regs := rs, pair := { b.pair with lag := [], handing := false, mode := 0, expect := none, early := [] } } ∧
      b.demoteNow.pairRole = roleStandby ∧ b.demoteNow.mirroring = false ∧ ((∀ d, d < 4 → (b.engine d).ops = []) → c = b) := by
  obtain ⟨c, hc, hidle, hsettle⟩ : ∃ c, b.Settled c ∧ ((∀ d, d < 4 → (b.engine d).ops = []) → c = b) ∧ b.settle = { c with pair := { b.pair with lag := [] } } := by
    by_cases idle : ∀ d, d < 4 → (b.engine d).ops = []
    · exact ⟨b, .refl b, fun _ => rfl, b.settle_idle idle⟩
    · obtain ⟨c, hc, h⟩ := b.settle_tells
      exact ⟨c, hc, fun i => absurd i idle, h⟩
  obtain ⟨e, he⟩ : ∃ e, (b.settle.modPair fun p => { p with handing := false }) = e := ⟨_, rfl⟩
  have heonly : e = { c with pair := { b.pair with lag := [], handing := false } } := by
    rw [← he, Block.modPair, hsettle]
  obtain ⟨n, hn⟩ : ∃ n, (e.setFld R.PAIR_STATUS F.PAIR_STATUS_ROLE roleStandby).mirrorOff = n := ⟨_, rfl⟩
  obtain ⟨hrole, hmirror, -, rs, honly⟩ := e.roleStored_tells roleStandby (by decide)
  rw [hn] at hrole hmirror honly
  have hone : n.bothPrimary = false := by
    rw [Block.bothPrimary, hrole]
    rfl
  have ht : b.demoteNow = n.lower R.PAIR_STATUS F.PAIR_STATUS_CONFLICT := by
    have h := (e.roleChange_tells fun b => (b.setFld R.PAIR_STATUS F.PAIR_STATUS_ROLE roleStandby).mirrorOff).1
    rw [hn] at h
    rw [← h hone, ← he]
    rfl
  obtain ⟨rs', hlower⟩ := n.setFld_regs R.PAIR_STATUS F.PAIR_STATUS_CONFLICT 0
  have hpairs : n.Pairs [F.PAIR_STATUS_CONFLICT] (n.lower R.PAIR_STATUS F.PAIR_STATUS_CONFLICT) := (Pairs.refl _ n).setFld 0 (by decide) (by decide) (by decide)
  rw [ht]
  refine ⟨c, hc, rs', ?_, (hpairs.fld F.PAIR_STATUS_ROLE (by decide)).trans hrole, (hpairs.flag (g := F.PAIR_STATUS_MIRRORING) (by decide)).trans hmirror, hidle⟩
  rw [Block.lower, hlower, honly, heonly]

/-! ## Promotion (R470) -/

theorem Block.pairPromote_waits (b : Block) (h : b.pair.promoting = false ∨ b.mirrorsLeft = true ∨ b.pair.reached = false) : b.pairPromote = b :=
  if_pos (by rcases h with h | h | h <;> simp [h])

/-- The standby has become primary, and nothing shown of the partner changed. -/
structure Block.Promoted (b t : Block) : Prop where
  role : t.pairRole = rolePrimary
  draining : t.flag R.PAIR_STATUS F.PAIR_STATUS_DRAINING = false
  mirroring : t.mirroring = false
  seen : t.flag R.PAIR_STATUS F.PAIR_STATUS_PROMOTED_SEEN = true
  epoch : t.word R.PAIR_EPOCH = (b.word R.PAIR_EPOCH + 1) % 2 ^ 32
  told : ∃ l, t.inflight = (b.send 3 0 0x6A 0).inflight ++ l
  alone : b.peerSeen = false ∨ b.pair.peerRole ≠ rolePrimary →
    t.inflight = (b.send 3 0 0x6A 0).inflight ∧ t.flag R.PAIR_STATUS F.PAIR_STATUS_CONFLICT = false
  peer : t.flag R.PAIR_STATUS F.PAIR_STATUS_PEER_SEEN = b.flag R.PAIR_STATUS F.PAIR_STATUS_PEER_SEEN ∧
    t.flag R.PAIR_STATUS F.PAIR_STATUS_SOLO = b.flag R.PAIR_STATUS F.PAIR_STATUS_SOLO ∧ t.pair.seenAt = b.pair.seenAt

/-- What is set before the role: DRAINING falls, the epoch goes on, PROMOTED_SEEN and a message tell it. -/
def Block.promoteFirst (b : Block) : Block :=
  let b := (b.modPair fun p => { p with promoting := false, upTo := none }).lower R.PAIR_STATUS F.PAIR_STATUS_DRAINING
  let b := (b.setWord R.PAIR_EPOCH (b.word R.PAIR_EPOCH + 1)).raise R.PAIR_STATUS F.PAIR_STATUS_PROMOTED_SEEN
  b.send 3 0 0x6A 0

theorem Block.promoteFirst_tells (b : Block) :
    let t := b.promoteFirst
    t.flag R.PAIR_STATUS F.PAIR_STATUS_DRAINING = false ∧ t.flag R.PAIR_STATUS F.PAIR_STATUS_PROMOTED_SEEN = true ∧
      t.word R.PAIR_EPOCH = (b.word R.PAIR_EPOCH + 1) % 2 ^ 32 ∧ t.inflight = (b.send 3 0 0x6A 0).inflight ∧
      t.pair = { b.pair with promoting := false, upTo := none } ∧ t.ticks = b.ticks ∧
      ∀ g, (∀ f ∈ [F.PAIR_STATUS_DRAINING, F.PAIR_STATUS_PROMOTED_SEEN], f.apart g = true) → t.fld R.PAIR_STATUS g = b.fld R.PAIR_STATUS g := by
  intro t
  obtain ⟨c, hc⟩ : ∃ c, (b.modPair fun p => { p with promoting := false, upTo := none }) = c := ⟨_, rfl⟩
  have hcb : b.Pairs [F.PAIR_STATUS_DRAINING] c := .of_regs (by rw [← hc]; rfl)
  have hce : c.pair = { b.pair with promoting := false, upTo := none } ∧ c.ticks = b.ticks ∧ c.inflight = b.inflight := by
    rw [← hc]
    exact ⟨rfl, rfl, rfl⟩
  obtain ⟨e, he⟩ : ∃ e, c.lower R.PAIR_STATUS F.PAIR_STATUS_DRAINING = e := ⟨_, rfl⟩
  have hec : c.Pairs [F.PAIR_STATUS_DRAINING] e := he ▸ (Pairs.refl _ c).setFld 0 (by decide) (by decide) (by decide)
  have hdrain : e.flag R.PAIR_STATUS F.PAIR_STATUS_DRAINING = false := he ▸ Block.flag_lower _ _ _ (by decide) (by decide)
  have hee : e.pair = c.pair ∧ e.ticks = c.ticks ∧ e.inflight = c.inflight := by
    rw [← he]
    exact ⟨Block.lower_pair .., Block.lower_ticks .., Block.lower_inflight ..⟩
  obtain ⟨f, hf⟩ : ∃ f, e.setWord R.PAIR_EPOCH (e.word R.PAIR_EPOCH + 1) = f := ⟨_, rfl⟩
  have hfw : f.word R.PAIR_STATUS = e.word R.PAIR_STATUS := by rw [← hf, Block.word_setWord_other _ _ (by decide)]
  have hepoch : f.word R.PAIR_EPOCH = (b.word R.PAIR_EPOCH + 1) % 2 ^ 32 := by
    rw [← hf, Block.word_setWord_same, hec.word _ (by decide) (by decide), hcb.word _ (by decide) (by decide)]
  have hfe : f.pair = e.pair ∧ f.ticks = e.ticks ∧ f.inflight = e.inflight := by
    rw [← hf]
    exact ⟨Block.setWord_pair .., Block.setWord_ticks .., Block.setWord_inflight ..⟩
  obtain ⟨g, hg⟩ : ∃ g, f.raise R.PAIR_STATUS F.PAIR_STATUS_PROMOTED_SEEN = g := ⟨_, rfl⟩
  have hgf : f.Pairs [F.PAIR_STATUS_PROMOTED_SEEN] g := hg ▸ (Pairs.refl _ f).setFld 1 (by decide) (by decide) (by decide)
  have hseen : g.flag R.PAIR_STATUS F.PAIR_STATUS_PROMOTED_SEEN = true := hg ▸ Block.flag_raise _ _ _ (by decide) (by decide)
  have hge : g.pair = f.pair ∧ g.ticks = f.ticks ∧ g.inflight = f.inflight := by
    rw [← hg]
    exact ⟨Block.raise_pair .., Block.raise_ticks .., Block.raise_inflight ..⟩
  have ht : t = g.send 3 0 0x6A 0 := by
    rw [← hg, ← hf, ← he, ← hc]
    rfl
  clear_value t
  obtain ⟨hcp, hct, hci⟩ := hce
  obtain ⟨hep, het, hei⟩ := hee
  obtain ⟨hfp, hft, hfi⟩ := hfe
  obtain ⟨hgp, hgt, hgi⟩ := hge
  have hregs (x : Nat) : t.word x = g.word x := Block.word_of_regs (by rw [ht]; exact Block.sendAs_regs ..) x
  have hfld (x : Bf) : t.fld R.PAIR_STATUS x = g.fld R.PAIR_STATUS x := Block.fld_of_word (hregs _) x
  refine ⟨?_, ?_, ?_, ?_, ?_, ?_, fun x hx => ?_⟩
  · refine (congrArg (· == 1) ((hfld F.PAIR_STATUS_DRAINING).trans ((hgf.fld _ (by decide)).trans (Block.fld_of_word hfw _)))).trans hdrain
  · exact (congrArg (· == 1) (hfld F.PAIR_STATUS_PROMOTED_SEEN)).trans hseen
  · rw [hregs, hgf.word _ (by decide) (by decide), hepoch]
  · rw [ht]
    exact send_inflight_congr (by rw [hgt, hft, het, hct]) (by rw [hgi, hfi, hei, hci]) _ _ _ _
  · rw [← hcp, ← hep, ← hfp, ← hgp, ht]
    rfl
  · rw [← hct, ← het, ← hft, ← hgt, ht]
    rfl
  · rw [hfld, hgf.fld x fun y hy => hx y (List.mem_cons_of_mem _ hy), Block.fld_of_word hfw, hec.fld x (by simp [hx]), hcb.fld x (by simp [hx])]

theorem Block.pairPromote_tells (b : Block) (promoting : b.pair.promoting = true) (done : b.mirrorsLeft = false) (reached : b.pair.reached = true) :
    b.Promoted b.pairPromote := by
  obtain ⟨hdrain, hseen, hepoch, hinflight, hpair, hticks, hfld⟩ := b.promoteFirst_tells
  have ht : b.pairPromote = b.promoteFirst.setRole rolePrimary := if_neg (by simp [promoting, done, reached])
  rw [ht]
  generalize b.promoteFirst = c at *
  obtain ⟨hrole, hoff, hstored, rs, honly⟩ := c.roleStored_tells rolePrimary (by decide)
  obtain ⟨hafter, htoff, ⟨l, hl⟩, hsee, -⟩ := c.roleChange_after (fun b => (b.setFld R.PAIR_STATUS F.PAIR_STATUS_ROLE rolePrimary).mirrorOff) hoff
  obtain ⟨hone, -, -⟩ := c.roleChange_tells fun b => (b.setFld R.PAIR_STATUS F.PAIR_STATUS_ROLE rolePrimary).mirrorOff
  have hset : c.setRole rolePrimary = c.roleChange fun b => (b.setFld R.PAIR_STATUS F.PAIR_STATUS_ROLE rolePrimary).mirrorOff := rfl
  rw [hset]
  generalize (c.roleChange fun b => (b.setFld R.PAIR_STATUS F.PAIR_STATUS_ROLE rolePrimary).mirrorOff) = t at *
  dsimp only at *
  generalize (c.setFld R.PAIR_STATUS F.PAIR_STATUS_ROLE rolePrimary).mirrorOff = n at *
  have hall : c.Pairs [F.PAIR_STATUS_ROLE, F.PAIR_STATUS_MIRRORING, F.PAIR_STATUS_CONFLICT] t := (hstored.mono (by decide)).trans (hafter.mono (by decide))
  have hni : n.inflight = c.inflight := by rw [honly]
  have hnp : n.pair.seenAt = b.pair.seenAt ∧ n.pair.peerRole = b.pair.peerRole := by
    rw [honly]
    dsimp only
    rw [hpair]
    exact ⟨rfl, rfl⟩
  exact {
    role := (hafter.fld F.PAIR_STATUS_ROLE (by decide)).trans hrole
    draining := (hall.flag (g := F.PAIR_STATUS_DRAINING) (by decide)).trans hdrain
    mirroring := htoff
    seen := (hall.flag (g := F.PAIR_STATUS_PROMOTED_SEEN) (by decide)).trans hseen
    epoch := by rw [hall.word _ (by decide) (by decide), hepoch]
    told := ⟨l, by rw [hl, hni, hinflight]⟩
    alone := fun h => by
      have hpeer : n.peerSeen = b.peerSeen := (hstored.flag (g := F.PAIR_STATUS_PEER_SEEN) (by decide)).trans
        (congrArg (· == 1) (hfld F.PAIR_STATUS_PEER_SEEN (by decide)))
      have hnot : n.bothPrimary = false := by
        rw [Block.bothPrimary, hpeer, hnp.2]
        rcases h with h | h <;> simp [h]
      rw [hone hnot]
      exact ⟨by rw [Block.lower_inflight, hni, hinflight], Block.flag_lower _ _ _ (by decide) (by decide)⟩
    peer := ⟨(hall.flag (g := F.PAIR_STATUS_PEER_SEEN) (by decide)).trans (congrArg (· == 1) (hfld F.PAIR_STATUS_PEER_SEEN (by decide))),
      (hall.flag (g := F.PAIR_STATUS_SOLO) (by decide)).trans (congrArg (· == 1) (hfld F.PAIR_STATUS_SOLO (by decide))), hsee.trans hnp.1⟩ }

end Sys2Proof.Machine
end

section
/-!
PROOFS. What the packages of a pair send, and when a role changes (R463 to R466, R469, R470, R544); O44.
-/
namespace Sys2Proof.Machine
open Sys2Proof

variable {b c d t : Block}

/-! ## The Shaix link (R463, R464) -/

/-- A message as it goes on the link. -/
def shaixBytes (typ : Nat) (body : List Byte) : List Byte := beBytes 1 typ ++ zeros 1 ++ beBytes 2 body.length ++ body

theorem length_shaixBytes (typ : Nat) (body : List Byte) : (shaixBytes typ body).length = 4 + body.length := by
  simp only [shaixBytes, List.length_append, length_beBytes, zeros, List.length_replicate]

theorem Block.shaix_linked (b : Block) (role : b.pairRole ≠ roleNone) (up : b.flag R.PAIR_STATUS F.PAIR_STATUS_LINK_UP = true) (typ : Nat)
    (body : List Byte) : ∃ cs, b.shaix typ body = { b with out := b.out ++ [.shaix typ (shaixBytes typ body)], ctrs := cs } := by
  have h : b.shaix typ body = (b.emit (.shaix typ (shaixBytes typ body))).pmc .pkg 0x03 typ 1 := if_neg (by
    rw [up, Bool.not_true, Bool.or_false]
    exact mt beq_iff_eq.mp role)
  refine ⟨_, h.trans (Block.pmc_only _ _ _ _ _)⟩

/-- A run of messages, each as its turn finds the block. -/
theorem Block.each_shaix (b : Block) (role : b.pairRole ≠ roleNone) (up : b.flag R.PAIR_STATUS F.PAIR_STATUS_LINK_UP = true) (typ : Nat)
    (body : Block → Nat → List Byte) (n : Nat) :
    ∃ cs l, b.each n (fun b k => b.shaix typ (body b k)) = { b with out := b.out ++ l, ctrs := cs } ∧ l.length = n := by
  induction n with
  | zero => exact ⟨b.ctrs, [], by rw [List.append_nil]; rfl, rfl⟩
  | succ n ih =>
    obtain ⟨cs, l, h, hl⟩ := ih
    rw [Block.each_succ]
    generalize b.each n (fun b k => b.shaix typ (body b k)) = c at *
    have hregs : c.regs = b.regs := by rw [h]
    have hrole : c.pairRole ≠ roleNone := by rw [Block.pairRole, Block.fld_of_word (Block.word_of_regs hregs _)]; exact role
    have hup := (Block.flag_of_regs hregs R.PAIR_STATUS F.PAIR_STATUS_LINK_UP).trans up
    obtain ⟨cs', h'⟩ := c.shaix_linked hrole hup typ (body c n)
    refine ⟨cs', l ++ [.shaix typ (shaixBytes typ (body c n))], ?_, by rw [List.length_append, hl]; rfl⟩
    rw [h', h, List.append_assoc]

theorem Block.heartbeatSend_due (b : Block) (role : b.pairRole ≠ roleNone) (due : b.since b.pair.beatAt b.hbInterval = true)
    (up : b.flag R.PAIR_STATUS F.PAIR_STATUS_LINK_UP = true) (alone : b.mirroring = false) :
    ∃ cs, b.heartbeatSend = { b with pair := { b.pair with beatAt := some b.ticks }, ctrs := cs, out := b.out ++
      [.shaix 1 (shaixBytes 1 (beBytes 1 b.pairRole ++ beBytes 1 0 ++ beBytes 4 (b.word R.PAIR_EPOCH) ++ beBytes 8 (b.ctr R.PAIR_NEXT_SEQ) ++
        beBytes 8 (b.ctr R.PAIR_APPLIED_SEQ)))] } := by
  obtain ⟨c, hc⟩ : ∃ c, (b.modPair fun p => { p with beatAt := some b.ticks }) = c := ⟨_, rfl⟩
  have honly : c = { b with pair := { b.pair with beatAt := some b.ticks } } := hc.symm
  have hregs : c.regs = b.regs := by rw [honly]
  have hrole : c.pairRole = b.pairRole := Block.fld_of_word (Block.word_of_regs hregs _) _
  have hmirror : c.mirroring = false := (Block.flag_of_regs hregs _ _).trans alone
  have hctr (a : Nat) : c.ctr a = b.ctr a := by rw [honly]; rfl
  obtain ⟨cs, h⟩ := c.shaix_linked (by rw [hrole]; exact role) ((Block.flag_of_regs hregs _ _).trans up) 1
    (beBytes 1 c.pairRole ++ beBytes 1 (if c.mirroring then c.pair.mode else 0) ++ beBytes 4 (c.word R.PAIR_EPOCH)
      ++ beBytes 8 (c.ctr R.PAIR_NEXT_SEQ) ++ beBytes 8 (c.ctr R.PAIR_APPLIED_SEQ))
  have ht : b.heartbeatSend = c.shaix 1 (beBytes 1 c.pairRole ++ beBytes 1 (if c.mirroring then c.pair.mode else 0) ++ beBytes 4 (c.word R.PAIR_EPOCH)
      ++ beBytes 8 (c.ctr R.PAIR_NEXT_SEQ) ++ beBytes 8 (c.ctr R.PAIR_APPLIED_SEQ)) := by
    rw [← hc]
    refine if_neg ?_
    rw [due, Bool.not_true, Bool.or_false]
    exact mt beq_iff_eq.mp role
  rw [ht, h, hmirror, hrole, hctr, hctr, Block.word_of_regs hregs, honly]
  exact ⟨cs, rfl⟩

theorem Block.length_timeBody (b : Block) (i : Nat) : (b.timeBody i).length = 16 := by
  simp only [Block.timeBody, List.length_append, length_beBytes]

/-- The messages of the period: the time, the digests, and a whole checkpoint (R469). -/
theorem Block.periodicSend_due (b : Block) (role : b.pairRole = rolePrimary) (mirrors : b.mirroring = true) (due : b.since b.pair.sentAt 10000000 = true)
    (up : b.flag R.PAIR_STATUS F.PAIR_STATUS_LINK_UP = true) :
    ∃ x y l cs p, b.periodicSend = { b with pair := p, ctrs := cs, out := b.out ++ ([.shaix 6 x, .shaix 7 y] ++ l) } ∧ p.sentAt = some b.ticks ∧
      l.length = 65536 ∧ x.length = 4 + 33 ∧ y.length = 4 + 160 := by
  obtain ⟨c, hc⟩ : ∃ c, (b.modPair fun p => { p with sentAt := some b.ticks }) = c := ⟨_, rfl⟩
  have hstands (e : Block) (h : e.regs = b.regs) : e.pairRole ≠ roleNone ∧ e.flag R.PAIR_STATUS F.PAIR_STATUS_LINK_UP = true := by
    refine ⟨?_, (Block.flag_of_regs h _ _).trans up⟩
    rw [Block.pairRole, Block.fld_of_word (Block.word_of_regs h _), show b.fld _ _ = _ from role]
    decide
  have hconly : c = { b with pair := { b.pair with sentAt := some b.ticks } } := hc.symm
  obtain ⟨time, htime⟩ : ∃ l, c.timeBody 0 ++ c.timeBody 1 ++ beBytes 1 c.active = l := ⟨_, rfl⟩
  have htlen : time.length = 33 := by
    rw [← htime]
    simp only [List.length_append, Block.length_timeBody, length_beBytes]
  obtain ⟨hcr, hcu⟩ := hstands c (by rw [hconly])
  obtain ⟨cs, h6⟩ := c.shaix_linked hcr hcu 6 time
  obtain ⟨e, he⟩ : ∃ e, c.shaix 6 time = e := ⟨_, rfl⟩
  rw [he] at h6
  obtain ⟨sums, hsums⟩ : ∃ l, ((List.range 20).flatMap fun k => beBytes 8 (e.tally k)) = l := ⟨_, rfl⟩
  have hslen : sums.length = 160 := by
    rw [← hsums]
    simp [List.length_flatMap, length_beBytes]
  obtain ⟨her, heu⟩ := hstands e (by rw [h6, hconly])
  obtain ⟨cs', h7⟩ := e.shaix_linked her heu 7 sums
  obtain ⟨f, hf⟩ : ∃ f, e.shaix 7 sums = f := ⟨_, rfl⟩
  rw [hf] at h7
  obtain ⟨g, hg⟩ : ∃ g, (f.modPair fun p => { p with ckptOut := (p.ckptOut + 1) % 2 ^ 32 }) = g := ⟨_, rfl⟩
  have hgonly : g = { f with pair := { f.pair with ckptOut := (f.pair.ckptOut + 1) % 2 ^ 32 } } := hg.symm
  obtain ⟨hgr, hgu⟩ := hstands g (by rw [hgonly, h7, h6, hconly])
  obtain ⟨cs'', l, h8, hl⟩ := g.each_shaix hgr hgu 8 (fun b k => beBytes 4 f.pair.ckptOut ++ beBytes 1 (k / (pairsPerRegion / 64)) ++
    beBytes 4 (k % (pairsPerRegion / 64) * 64) ++ beBytes 2 64 ++ (b.region (k / (pairsPerRegion / 64))).pairBytes (k % (pairsPerRegion / 64) * 64) 64) (pairsPerCkpt / 64)
  have ht : b.periodicSend = { g with out := g.out ++ l, ctrs := cs'' } := by
    rw [← h8, ← hg, ← hf, ← hsums, ← he, ← htime, ← hc]
    refine if_neg ?_
    simp [role, mirrors, oneMs, due]
  refine ⟨shaixBytes 6 time, shaixBytes 7 sums, l, cs'', g.pair, ?_, ?_, hl, by rw [length_shaixBytes, htlen], by rw [length_shaixBytes, hslen]⟩
  · rw [ht, hgonly, h7, h6, hconly]
    simp only [List.append_assoc]
    rfl
  · rw [hgonly, h7, h6, hconly]

/-! ## Timeouts and PROMOTE (R470) -/

theorem Block.Promoted.of (h : c.Promoted t) (pairs : b.Pairs [F.PAIR_STATUS_DRAINING] c) (ticks : c.ticks = b.ticks) (inflight : c.inflight = b.inflight)
    (peerRole : c.pair.peerRole = b.pair.peerRole) (seenAt : c.pair.seenAt = b.pair.seenAt) : b.Promoted t := by
  have hseen : c.peerSeen = b.peerSeen := pairs.flag (g := F.PAIR_STATUS_PEER_SEEN) (by decide)
  have hsend := send_inflight_congr ticks inflight 3 0 0x6A 0
  obtain ⟨hpeer, hsolo, hat⟩ := h.peer
  exact {
    role := h.role, draining := h.draining, mirroring := h.mirroring, seen := h.seen
    epoch := by rw [h.epoch, pairs.word _ (by decide) (by decide)]
    told := hsend ▸ h.told
    alone := fun a => hsend ▸ h.alone (by rw [hseen, peerRole]; exact a)
    peer := ⟨hpeer.trans hseen, hsolo.trans (pairs.flag (g := F.PAIR_STATUS_SOLO) (by decide)), hat.trans seenAt⟩ }

theorem Block.mirrorsLeft_congr (h : c.engines = b.engines) : c.mirrorsLeft = b.mirrorsLeft := by
  unfold Block.mirrorsLeft Block.engine
  rw [h]

/-- A promotion begins. -/
theorem Block.promoteStart_tells (b : Block) (upTo : Option Nat) :
    let t := b.promoteStart upTo
    (b.mirrorsLeft = false → (∀ s, upTo = some s → ∀ e, b.pair.expect = some e → s < e) → b.Promoted t) ∧
    (b.mirrorsLeft = true → b.Pairs [F.PAIR_STATUS_DRAINING] t ∧ t.flag R.PAIR_STATUS F.PAIR_STATUS_DRAINING = true ∧
      t.pair = { b.pair with promoting := true, upTo := upTo } ∧ t.inflight = b.inflight) := by
  intro t
  obtain ⟨e, he⟩ : ∃ e, (b.modPair fun p => { p with promoting := true, upTo := upTo }) = e := ⟨_, rfl⟩
  have heonly : e = { b with pair := { b.pair with promoting := true, upTo := upTo } } := he.symm
  obtain ⟨rs, hrs⟩ := e.setFld_regs R.PAIR_STATUS F.PAIR_STATUS_DRAINING 1
  obtain ⟨c, hc⟩ : ∃ c, e.raise R.PAIR_STATUS F.PAIR_STATUS_DRAINING = c := ⟨_, rfl⟩
  have honly : c = { b with regs := rs, pair := { b.pair with promoting := true, upTo := upTo } } := by
    rw [← hc, Block.raise, hrs, heonly]
  have hbe : b.Pairs [F.PAIR_STATUS_DRAINING] e := .of_regs (by rw [heonly])
  have hec : e.Pairs [F.PAIR_STATUS_DRAINING] c := hc ▸ (Pairs.refl _ e).setFld 1 (by decide) (by decide) (by decide)
  have hpairs : b.Pairs [F.PAIR_STATUS_DRAINING] c := hbe.trans hec
  have hon : c.flag R.PAIR_STATUS F.PAIR_STATUS_DRAINING = true := hc ▸ Block.flag_raise _ _ _ (by decide) (by decide)
  have ht : t = c.pairPromote := by
    rw [← hc, ← he]
    rfl
  clear_value t
  have hcp : c.pair = { b.pair with promoting := true, upTo := upTo } := by rw [honly]
  have hleft : c.mirrorsLeft = b.mirrorsLeft := mirrorsLeft_congr (by rw [honly])
  refine ⟨fun done all => ?_, fun left => ?_⟩
  · have hreached : c.pair.reached = true := by
      rw [hcp]
      unfold PairState.reached
      split
      · next s x hs hx => exact decide_eq_true (all s hs x hx)
      · rfl
    rw [ht]
    exact (c.pairPromote_tells (by rw [hcp]) (hleft.trans done) hreached).of hpairs (by rw [honly]) (by rw [honly]) (by rw [hcp]) (by rw [hcp])
  · rw [ht, c.pairPromote_waits (.inr (.inl (hleft.trans left)))]
    exact ⟨hpairs, hon, hcp, by rw [honly]⟩

/-- A promotion goes on, whatever was to come before it: at once, or once what has come is applied. -/
def Block.promoteOn (b : Block) : Block :=
  if b.pair.promoting then (b.modPair fun p => { p with upTo := none }).pairPromote else b.promoteStart none

theorem Block.promoteOn_tells (b : Block) :
    let t := b.promoteOn
    (b.mirrorsLeft = false → b.Promoted t) ∧
    (b.mirrorsLeft = true → (b.pair.promoting = true → b.flag R.PAIR_STATUS F.PAIR_STATUS_DRAINING = true) →
      t.pairRole = b.pairRole ∧ t.flag R.PAIR_STATUS F.PAIR_STATUS_DRAINING = true ∧ t.pair.promoting = true ∧ t.inflight = b.inflight) := by
  intro t
  by_cases running : b.pair.promoting = true
  · obtain ⟨c, hc⟩ : ∃ c, (b.modPair fun p => { p with upTo := none }) = c := ⟨_, rfl⟩
    have honly : c = { b with pair := { b.pair with upTo := none } } := hc.symm
    have ht : t = c.pairPromote := by
      rw [← hc]
      exact if_pos running
    have hleft : c.mirrorsLeft = b.mirrorsLeft := mirrorsLeft_congr (by rw [honly])
    have hregs : c.regs = b.regs := by rw [honly]
    have hprom : c.pair.promoting = true := by rw [honly]; exact running
    rw [ht]
    refine ⟨fun done => ?_, fun left shows => ?_⟩
    · exact (c.pairPromote_tells hprom (hleft.trans done) (by rw [honly]; rfl)).of (.of_regs hregs) (by rw [honly]) (by rw [honly]) (by rw [honly])
        (by rw [honly])
    · rw [c.pairPromote_waits (.inr (.inl (hleft.trans left)))]
      exact ⟨Block.fld_of_word (Block.word_of_regs hregs _) _, (Block.flag_of_regs hregs _ _).trans (shows running), hprom, by rw [honly]⟩
  · have ht : t = b.promoteStart none := if_neg running
    obtain ⟨hyes, hno⟩ := b.promoteStart_tells none
    rw [ht]
    refine ⟨fun done => hyes done (fun _ h => absurd h (by simp)), fun left _ => ?_⟩
    obtain ⟨hpairs, hon, hpair, hinflight⟩ := hno left
    exact ⟨hpairs.fld F.PAIR_STATUS_ROLE (by decide), hon, by rw [hpair], hinflight⟩

/-- The partner is no longer seen. -/
theorem Block.partnerLost_tells (b : Block) :
    ∃ c, (b.roleChange fun b => b.lower R.PAIR_STATUS F.PAIR_STATUS_PEER_SEEN) = c ∧ (∃ rs, c = { b with regs := rs }) ∧
      b.Pairs [F.PAIR_STATUS_PEER_SEEN, F.PAIR_STATUS_CONFLICT] c ∧ c.peerSeen = false := by
  obtain ⟨e, he⟩ : ∃ e, b.lower R.PAIR_STATUS F.PAIR_STATUS_PEER_SEEN = e := ⟨_, rfl⟩
  have hseen : e.peerSeen = false := he ▸ Block.flag_lower _ _ _ (by decide) (by decide)
  have hpairs : b.Pairs [F.PAIR_STATUS_PEER_SEEN] e := he ▸ (Pairs.refl _ b).setFld 0 (by decide) (by decide) (by decide)
  obtain ⟨rs, hrs⟩ := b.setFld_regs R.PAIR_STATUS F.PAIR_STATUS_PEER_SEEN 0
  have hone : e.bothPrimary = false := by
    rw [Block.bothPrimary, hseen, Bool.and_false, Bool.false_and]
  obtain ⟨h, -⟩ := b.roleChange_tells fun b => b.lower R.PAIR_STATUS F.PAIR_STATUS_PEER_SEEN
  rw [he] at h
  obtain ⟨rs', hrs'⟩ := e.setFld_regs R.PAIR_STATUS F.PAIR_STATUS_CONFLICT 0
  have hlater : e.Pairs [F.PAIR_STATUS_CONFLICT] (e.lower R.PAIR_STATUS F.PAIR_STATUS_CONFLICT) := (Pairs.refl _ e).setFld 0 (by decide) (by decide) (by decide)
  refine ⟨_, h hone, ⟨rs', ?_⟩, (hpairs.mono (by decide)).trans (hlater.mono (by decide)), (hlater.flag (g := F.PAIR_STATUS_PEER_SEEN) (by decide)).trans hseen⟩
  rw [Block.lower, hrs', ← he, Block.lower, hrs]
theorem Block.peerTimeout_due (b : Block) (role : b.pairRole ≠ roleNone) (seen : b.peerSeen = true)
    (late : b.since b.pair.seenAt (b.fld R.PAIR_TIMING F.PAIR_TIMING_HB_TIMEOUT * 1000000) = true) :
    ∃ c rs, c = { b with regs := rs } ∧ b.Pairs [F.PAIR_STATUS_PEER_SEEN, F.PAIR_STATUS_CONFLICT] c ∧ c.peerSeen = false ∧
      b.peerTimeout = if c.pairRole == rolePrimary then
        ((c.settle.mirrorOff.modPair fun p => { p with handing := false }).raise R.PAIR_STATUS F.PAIR_STATUS_SOLO).send 3 0 0x6B 0 else c.promoteOn := by
  obtain ⟨c, hc, ⟨rs, honly⟩, hpairs, hseen⟩ := b.partnerLost_tells
  refine ⟨c, rs, honly, hpairs, hseen, ?_⟩
  rw [← hc]
  refine if_neg ?_
  have late' : b.since b.pair.seenAt (b.fld R.PAIR_TIMING F.PAIR_TIMING_HB_TIMEOUT * oneMs) = true := late
  rw [seen, late', Bool.not_true, Bool.or_false, Bool.or_false]
  exact mt beq_iff_eq.mp role

/-- What a primary does that its partner has left. -/
theorem Block.goSolo_tells (b : Block) :
    let t := ((b.settle.mirrorOff.modPair fun p => { p with handing := false }).raise R.PAIR_STATUS F.PAIR_STATUS_SOLO).send 3 0 0x6B 0
    b.Pairs [F.PAIR_STATUS_MIRRORING, F.PAIR_STATUS_SOLO] t ∧ t.mirroring = false ∧ t.flag R.PAIR_STATUS F.PAIR_STATUS_SOLO = true ∧
      t.pair.lag = [] ∧ t.inflight = (b.send 3 0 0x6B 0).inflight := by
  obtain ⟨c, hc, rs, honly, hpairs, hmirror⟩ := b.settleOff_tells
  obtain ⟨e, he⟩ : ∃ e, (b.settle.mirrorOff.modPair fun p => { p with handing := false }) = e := ⟨_, rfl⟩
  have heonly : e = { b.settle.mirrorOff with pair := { b.settle.mirrorOff.pair with handing := false } } := he.symm
  have hregs : e.regs = b.settle.mirrorOff.regs := by rw [heonly]
  have hfacts : e.pair.lag = [] ∧ e.ticks = b.ticks ∧ e.inflight = b.inflight := by
    rw [heonly, honly]
    exact ⟨rfl, hc.ticks, hc.inflight⟩
  rw [he]
  generalize b.settle.mirrorOff = m at *
  obtain ⟨r, hr⟩ : ∃ r, e.raise R.PAIR_STATUS F.PAIR_STATUS_SOLO = r := ⟨_, rfl⟩
  have hlater : e.Pairs [F.PAIR_STATUS_SOLO] r := hr ▸ (Pairs.refl _ e).setFld 1 (by decide) (by decide) (by decide)
  have hon : r.flag R.PAIR_STATUS F.PAIR_STATUS_SOLO = true := hr ▸ Block.flag_raise _ _ _ (by decide) (by decide)
  have hme : m.Pairs [F.PAIR_STATUS_SOLO] e := .of_regs hregs
  have hmr : m.Pairs [F.PAIR_STATUS_SOLO] r := hme.trans hlater
  have hoff : r.mirroring = false := (hmr.flag (g := F.PAIR_STATUS_MIRRORING) (by decide)).trans hmirror
  have hall : b.Pairs [F.PAIR_STATUS_MIRRORING, F.PAIR_STATUS_SOLO] r := (hpairs.mono (by decide)).trans (hmr.mono (by decide))
  have hrest : r.pair.lag = [] ∧ r.ticks = b.ticks ∧ r.inflight = b.inflight := by
    rw [← hr, Block.raise_pair, Block.raise_ticks, Block.raise_inflight]
    exact hfacts
  rw [hr]
  exact ⟨hall.trans (.of_regs rfl), hoff, hon, hrest.1, send_inflight_congr hrest.2.1 hrest.2.2 _ _ _ _⟩

/-! ## The link (R463, R544) -/

theorem Block.linkFlag_tells (b : Block) (v : Nat) :
    (b.setFld R.PAIR_STATUS F.PAIR_STATUS_LINK_UP v).flag R.PAIR_STATUS F.PAIR_STATUS_LINK_UP = (v % 2 == 1) ∧
      b.setFld R.PAIR_STATUS F.PAIR_STATUS_LINK_UP v = { b with regs := (b.setFld R.PAIR_STATUS F.PAIR_STATUS_LINK_UP v).regs } := by
  refine ⟨congrArg (· == 1) (Block.fld_setFld_same _ _ _ _ (by decide) (by decide)), ?_⟩
  obtain ⟨rs, h⟩ := b.setFld_regs R.PAIR_STATUS F.PAIR_STATUS_LINK_UP v
  rw [h]

/-- Settles O44: what is sent in time, and each change of a role. -/
theorem rolesChangeAsTheTableSays : Obligations.RolesChangeAsTheTableSays := by
  unfold Obligations.RolesChangeAsTheTableSays
  intro b S up beatDue silent tooLong primary draining shows standby
  have hprimary (c t : Block) (h : b.Promoted t) : primary t := ⟨h.role, h.draining, h.mirroring, h.seen, h.epoch, h.told⟩
  have hstandby : b.pairRole = rolePrimary → standby b.demoteNow := fun _ => by
    obtain ⟨c, hc, rs, honly, hrole, hoff, -⟩ := b.demoteNow_tells
    refine ⟨hrole, hoff, by rw [honly], by rw [honly], ?_⟩
    rw [honly]
    exact hc.inflight
  have hbeat : Takes .heartbeatSend b b.heartbeatSend := fun _ => rfl
  have hperiod : Takes .pairPeriodicSend b b.periodicSend := fun _ => rfl
  have hhand : Takes .pairHandoverSend b b.handoverSend := fun _ => rfl
  have hout : Takes .peerTimeout b b.peerTimeout := fun _ => rfl
  have hprom : Takes .pairPromote b b.pairPromote := fun _ => rfl
  have hdown : Takes .shaixLinkDown b b.shaixDown := fun _ => rfl
  have hlost : Takes .shaixRefclkLost b b.shaixDown := fun _ => rfl
  have hup : Takes .shaixLinkUp b (b.outOfReset Block.shaixUp) := fun _ => rfl
  refine ⟨fun h => takes_congr hbeat (if_pos ?_), fun role due linked alone => ?_, fun h => takes_congr hperiod (if_pos ?_), fun role mirrors due linked => ?_,
    fun h => takes_congr hhand (if_pos ?_), fun role handing none linked idle => ?_, fun h => takes_congr hout (if_pos ?_), fun seen late => ⟨fun role => ?_, fun role done => ?_, fun role left hs => ?_⟩,
    fun h => takes_congr hprom (b.pairPromote_waits h), fun promoting done reached => hprom.to (hprimary b _ (b.pairPromote_tells promoting done reached)),
    hdown.to (b.linkFlag_tells 0), hlost.to (b.linkFlag_tells 0), fun inside => takes_congr hup (if_pos inside), fun outside => ?_, fun v => ⟨fun hreach => ?_, fun w hreach => ?_⟩⟩
  · rw [Bool.or_eq_true, beq_iff_eq, Bool.not_eq_true']
    exact h.imp id Bool.eq_false_iff.mpr
  · obtain ⟨cs, h⟩ := b.heartbeatSend_due role due linked alone
    rw [h] at hbeat
    refine hbeat.to ⟨rfl, rfl, ?_⟩
    have hlen (x : List Byte) (hx : x.length = 22) : shaixBytes 1 x = [1, 0, 0, 22] ++ x := by
      rw [shaixBytes, hx]
      rfl
    rw [hlen _ (by simp only [List.length_append, length_beBytes])]
    simp only [List.append_assoc]
    rfl
  · rw [Bool.or_eq_true, Bool.or_eq_true, bne_iff_ne, Bool.not_eq_true', Bool.not_eq_true', or_assoc]
    exact h.imp id (Or.imp id Bool.eq_false_iff.mpr)
  · obtain ⟨x, y, l, cs, p, h, hsent, hl, hx, hy⟩ := b.periodicSend_due role mirrors due linked
    rw [h] at hperiod
    refine hperiod.to ⟨hsent, rfl, rfl, ?_, _, rfl, x, y, rfl, hx, hy⟩
    have htwo : ([.shaix 6 x, .shaix 7 y] : List Output).length = 2 := rfl
    rw [List.length_append, List.length_append, htwo, hl, Nat.add_assoc]
  · rw [Bool.or_eq_true, Bool.or_eq_true, bne_iff_ne, Bool.not_eq_true', Bool.not_eq_true', or_assoc, List.isEmpty_eq_false_iff]
    exact h
  · obtain ⟨cs, hsend⟩ := b.shaix_linked (by rw [role]; decide) linked 9 (beBytes 8 (b.ctr R.PAIR_NEXT_SEQ + 2 ^ 64 - 1))
    have ht : b.handoverSend = (b.shaix 9 (beBytes 8 (b.ctr R.PAIR_NEXT_SEQ + 2 ^ 64 - 1))).demoteNow := if_neg (by simp [role, handing, none])
    generalize b.ctr R.PAIR_NEXT_SEQ + 2 ^ 64 - 1 = last at *
    generalize b.shaix 9 (beBytes 8 last) = c at *
    obtain ⟨e, he, rs, honly, hrole, hoff, hidle⟩ := c.demoteNow_tells
    have hec : e = c := hidle fun d hd => by
      rw [hsend]
      exact idle ⟨d, hd⟩
    refine (ht ▸ hhand).to ⟨⟨hrole, hoff, by rw [honly], by rw [honly], ?_⟩, ?_⟩
    · rw [honly, hec, hsend]
    · rw [honly, hec, hsend]
      have hwire (x : List Byte) (hx : x.length = 8) : shaixBytes 9 x = [9, 0, 0, 8] ++ x := by
        rw [shaixBytes, hx]
        rfl
      rw [hwire _ (length_beBytes _ _)]
  · rw [Bool.or_eq_true, Bool.or_eq_true, beq_iff_eq, Bool.not_eq_true', Bool.not_eq_true', or_assoc]
    exact h.imp id (Or.imp id Bool.eq_false_iff.mpr)
  · obtain ⟨c, rs, honly, hpairs, hseen, ht⟩ := b.peerTimeout_due (by rw [role]; decide) seen late
    have hrole : c.pairRole = rolePrimary := (hpairs.fld F.PAIR_STATUS_ROLE (by decide)).trans role
    rw [if_pos (beq_iff_eq.mpr hrole)] at ht
    obtain ⟨hsolo, hoff, hon, hlag, hinflight⟩ := c.goSolo_tells
    rw [ht] at hout
    refine hout.to ⟨(hsolo.flag (g := F.PAIR_STATUS_PEER_SEEN) (by decide)).trans hseen, hoff, hon, (hsolo.fld F.PAIR_STATUS_ROLE (by decide)).trans hrole, hlag, ?_⟩
    rw [hinflight]
    exact send_inflight_congr (by rw [honly]) (by rw [honly]) _ _ _ _
  · obtain ⟨c, rs, honly, hpairs, hseen, ht⟩ := b.peerTimeout_due (by rw [role]; decide) seen late
    have hrole : c.pairRole = roleStandby := (hpairs.fld F.PAIR_STATUS_ROLE (by decide)).trans role
    rw [if_neg (by rw [hrole]; decide)] at ht
    have h := c.promoteOn_tells.1 ((Block.mirrorsLeft_congr (by rw [honly])).trans done)
    rw [ht] at hout
    refine hout.to ⟨h.role, h.draining, h.mirroring, h.seen, by rw [h.epoch, hpairs.word _ (by decide) (by decide)], ?_⟩
    rw [← send_inflight_congr (b := b) (c := c) (by rw [honly]) (by rw [honly])]
    exact h.told
  · obtain ⟨c, rs, honly, hpairs, hseen, ht⟩ := b.peerTimeout_due (by rw [role]; decide) seen late
    have hrole : c.pairRole = roleStandby := (hpairs.fld F.PAIR_STATUS_ROLE (by decide)).trans role
    rw [if_neg (by rw [hrole]; decide)] at ht
    obtain ⟨htr, htd, htp, hti⟩ := c.promoteOn_tells.2 ((Block.mirrorsLeft_congr (by rw [honly])).trans left)
      (fun h => (hpairs.flag (g := F.PAIR_STATUS_DRAINING) (by decide)).trans (hs (by rw [honly] at h; exact h)))
    rw [ht] at hout
    exact hout.to ⟨htr.trans hrole, htd, htp, by rw [hti, honly]⟩
  · have h : b.outOfReset Block.shaixUp = b.shaixUp := if_neg (ne_true_of_eq_false outside)
    exact (h ▸ hup).to (b.linkFlag_tells 1)
  · have hstart : Takes (.pairStart v) b (b.pairStart v.toNat) := takes_of_write hreach fun _ => rfl
    have hhandover : Takes (.pairHandover v) b (b.pairHandover v.toNat) := takes_of_write hreach fun _ => rfl
    have hdemote : Takes (.demote v) b (b.demoteWrite v.toNat) := takes_of_write hreach fun _ => rfl
    refine ⟨fun h => takes_congr hstart (if_pos ?_), fun set role => ⟨fun zero => ?_, fun mode => ⟨fun seen peer => ?_, fun h => takes_congr hstart ?_⟩⟩,
      fun h => takes_congr hhandover (if_pos ?_), fun set role => takes_congr hhandover (if_neg (by simp [set, role])), fun h => takes_congr hdemote (if_pos ?_),
      fun set role => ?_⟩
    · rcases h with h | h <;> simp [h]
    · have ht : b.pairStart v.toNat = b.settle.mirrorOff := (if_neg (by simp [set, role])).trans (if_pos (beq_iff_eq.mpr zero))
      obtain ⟨c, hc, rs, honly, -, hoff⟩ := b.settleOff_tells
      rw [ht] at hstart
      exact hstart.to ⟨hoff, by rw [honly], by rw [honly]; exact hc.inflight⟩
    · have ht : b.pairStart v.toNat = (b.raise R.PAIR_STATUS F.PAIR_STATUS_MIRRORING).modPair fun p => { p with mode := b.fld R.PAIR_CFG F.PAIR_CFG_MIRROR } :=
        (if_neg (by simp [set, role])).trans ((if_neg (by simpa using mode)).trans (if_pos (by simp [seen, peer])))
      obtain ⟨rs, hrs⟩ := b.setFld_regs R.PAIR_STATUS F.PAIR_STATUS_MIRRORING 1
      obtain ⟨c, hc⟩ : ∃ c, b.raise R.PAIR_STATUS F.PAIR_STATUS_MIRRORING = c := ⟨_, rfl⟩
      have hon : c.mirroring = true := hc ▸ Block.flag_raise _ _ _ (by decide) (by decide)
      have honly : c = { b with regs := rs } := hc.symm.trans hrs
      rw [ht, hc] at hstart
      refine hstart.to ⟨hon, ?_, ?_⟩
      · rw [honly]
        rfl
      · rw [honly]
        rfl
    · refine (if_neg (by simp [set, role])).trans ((if_neg (by simpa using mode)).trans (if_neg ?_))
      rw [Bool.and_eq_true, beq_iff_eq, not_and_or, Bool.not_eq_true]
      exact h
    · rcases h with h | h <;> simp [h]
    · rcases h with h | h <;> simp [h]
    · have ht : b.demoteWrite v.toNat = b.demoteNow := if_neg (by simp [set, role])
      rw [ht] at hdemote
      exact hdemote.to (hstandby role)
  · have hpro : Takes (.promote w v) b (b.promoteWrite w v.toNat) := takes_of_write hreach fun _ => rfl
    refine ⟨fun h => takes_congr hpro (if_pos ?_), fun set role => ?_⟩
    · rcases h with h | h <;> simp [h]
    intro quiet
    refine ⟨fun no => takes_congr hpro ?_, fun yes done => ?_, fun yes left hs => ?_⟩
    · exact (if_neg (by simp [set, role])).trans (if_pos (by rw [Bool.not_eq_true']; exact Bool.eq_false_iff.mpr no))
    all_goals
      have hq : b.since b.pair.seenAt (3 * b.hbInterval) = true := yes
      have ht : b.promoteWrite w v.toNat = b.promoteOn := (if_neg (by simp [set, role])).trans (if_neg (by simp [hq]))
      rw [ht] at hpro
    · exact hpro.to (hprimary b _ (b.promoteOn_tells.1 done))
    · obtain ⟨htr, htd, htp, hti⟩ := b.promoteOn_tells.2 left hs
      exact hpro.to ⟨htr.trans role, htd, htp, hti⟩

end Sys2Proof.Machine
end

section
/-!
PROOFS. The messages of a pair as they arrive (R464 to R470); O43.
-/
namespace Sys2Proof.Machine
open Sys2Proof

variable {b c d t : Block}

/-! ## A message arrives (R464, R465) -/

/-- A message of the partner has come: it is seen, and the package is not alone. -/
structure Block.Heard (b c : Block) : Prop where
  only : ∃ rs cs, c = { b with regs := rs, ctrs := cs, pair := { b.pair with seenAt := some b.ticks } }
  pairs : b.Pairs [F.PAIR_STATUS_PEER_SEEN, F.PAIR_STATUS_SOLO] c
  word : ∀ a, a ≠ R.PAIR_STATUS → c.word a = b.word a
  seen : c.flag R.PAIR_STATUS F.PAIR_STATUS_PEER_SEEN = true
  solo : c.flag R.PAIR_STATUS F.PAIR_STATUS_SOLO = false
  ctr : ∀ a, a < 0x61000 → c.ctr a = b.ctr a

/-- What the package shows of a partner that it has just heard. -/
def Block.sees (b t : Block) : Prop :=
  t.flag R.PAIR_STATUS F.PAIR_STATUS_PEER_SEEN = true ∧ t.flag R.PAIR_STATUS F.PAIR_STATUS_SOLO = false ∧ t.pair.seenAt = some b.ticks

theorem Block.arrival_none (b : Block) (typ : Nat) (f : Block → Block) (idle : b.pairRole = roleNone ∨ b.shaixLinked = false) : b.arrival typ f = b :=
  if_pos (by rcases idle with h | h <;> simp [h])

theorem Block.arrival_heard (b : Block) (typ : Nat) (live : ¬ (b.pairRole = roleNone ∨ b.shaixLinked = false)) :
    ∃ c, b.Heard c ∧ ∀ f : Block → Block, b.arrival typ f = f c := by
  obtain ⟨d, hd⟩ : ∃ d, b.raise R.PAIR_STATUS F.PAIR_STATUS_PEER_SEEN = d := ⟨_, rfl⟩
  obtain ⟨e, he⟩ : ∃ e, d.lower R.PAIR_STATUS F.PAIR_STATUS_SOLO = e := ⟨_, rfl⟩
  obtain ⟨f, hf⟩ : ∃ f, (e.modPair fun p => { p with seenAt := some e.ticks }) = f := ⟨_, rfl⟩
  have hseen : d.flag R.PAIR_STATUS F.PAIR_STATUS_PEER_SEEN = true := hd ▸ Block.flag_raise _ _ _ (by decide) (by decide)
  have hsolo : e.flag R.PAIR_STATUS F.PAIR_STATUS_SOLO = false := he ▸ Block.flag_lower _ _ _ (by decide) (by decide)
  have hbd : b.Pairs [F.PAIR_STATUS_PEER_SEEN] d := hd ▸ (Pairs.refl _ b).setFld 1 (by decide) (by decide) (by decide)
  have hde : d.Pairs [F.PAIR_STATUS_SOLO] e := he ▸ (Pairs.refl _ d).setFld 0 (by decide) (by decide) (by decide)
  obtain ⟨rs, hrs⟩ := b.setFld_regs R.PAIR_STATUS F.PAIR_STATUS_PEER_SEEN 1
  obtain ⟨rs', hrs'⟩ := d.setFld_regs R.PAIR_STATUS F.PAIR_STATUS_SOLO 0
  have heonly : e = { b with regs := rs' } := by
    rw [← he, Block.lower, hrs', ← hd, Block.raise, hrs]
  have hfonly : f = { e with pair := { e.pair with seenAt := some e.ticks } } := hf.symm
  obtain ⟨cs, hcs⟩ : f.Counted (f.pmc .pkg 0x02 typ 1) := (Counted.refl f).pmc _ _ _ _
  have hregs : (f.pmc .pkg 0x02 typ 1).regs = e.regs := by rw [Block.pmc_regs, hfonly]
  have hword (a : Nat) : (f.pmc .pkg 0x02 typ 1).word a = e.word a := Block.word_of_regs hregs a
  refine ⟨f.pmc .pkg 0x02 typ 1, ⟨⟨rs', cs, ?_⟩, ?_, fun a ha => ?_, ?_, ?_, fun a ha => ?_⟩, fun g => ?_⟩
  · rw [hcs, hfonly, heonly]
  · exact ((hbd.mono (by decide)).trans (hde.mono (by decide))).trans (.of_regs hregs)
  · rw [hword, ← he, Block.lower, Block.word_setFld_ne _ _ _ ha, ← hd, Block.raise, Block.word_setFld_ne _ _ _ ha]
  · exact (Block.flag_of_regs hregs _ _).trans ((hde.flag (g := F.PAIR_STATUS_PEER_SEEN) (by decide)).trans hseen)
  · exact (Block.flag_of_regs hregs _ _).trans hsolo
  · rw [f.ctr_pmc_low _ _ _ ha, hfonly, heonly]
    rfl
  · have hticks : e.ticks = b.ticks := by rw [heonly]
    rw [← hf, ← he, ← hd]
    exact if_neg (by
      rw [not_or, Bool.not_eq_false] at live
      simp [live.1, live.2])

namespace Block.Heard

theorem sees (h : b.Heard c) {L : List Bf} (p : c.Pairs L t) (hL : L.all (fun f => f.apart F.PAIR_STATUS_PEER_SEEN && f.apart F.PAIR_STATUS_SOLO) = true)
    (hs : t.pair.seenAt = c.pair.seenAt) : b.sees t := by
  have hap : ∀ f ∈ L, f.apart F.PAIR_STATUS_PEER_SEEN = true ∧ f.apart F.PAIR_STATUS_SOLO = true := fun f hf =>
    Bool.and_eq_true_iff.mp (List.all_eq_true.mp hL f hf)
  refine ⟨(p.flag fun f hf => (hap f hf).1).trans h.seen, (p.flag fun f hf => (hap f hf).2).trans h.solo, hs.trans ?_⟩
  obtain ⟨rs, cs, rfl⟩ := h.only
  rfl

theorem sees_of_word (h : b.Heard c) (hw : t.word R.PAIR_STATUS = c.word R.PAIR_STATUS) (hs : t.pair.seenAt = c.pair.seenAt) : b.sees t := by
  have hflag (g : Bf) : t.flag R.PAIR_STATUS g = c.flag R.PAIR_STATUS g := congrArg (· == 1) (Block.fld_of_word hw g)
  refine ⟨(hflag _).trans h.seen, (hflag _).trans h.solo, hs.trans ?_⟩
  obtain ⟨rs, cs, rfl⟩ := h.only
  rfl

theorem role (h : b.Heard c) : c.pairRole = b.pairRole := h.pairs.fld F.PAIR_STATUS_ROLE (by decide)
theorem engine (h : b.Heard c) (d : Nat) : c.engine d = b.engine d := by obtain ⟨rs, cs, rfl⟩ := h.only; rfl
theorem pair (h : b.Heard c) : c.pair = { b.pair with seenAt := some b.ticks } := by obtain ⟨rs, cs, rfl⟩ := h.only; rfl
theorem rest (h : b.Heard c) : c.ticks = b.ticks ∧ c.inflight = b.inflight ∧ c.engines = b.engines ∧ c.clusters = b.clusters ∧ c.jobs = b.jobs ∧
    c.dmaEng = b.dmaEng ∧ c.jobCount = b.jobCount := by obtain ⟨rs, cs, rfl⟩ := h.only; exact ⟨rfl, rfl, rfl, rfl, rfl, rfl, rfl⟩

end Block.Heard
/-! ## HEARTBEAT (R465, R466, R470) -/

/-- The partner's role as a heartbeat gives it, where the packages are not both primary. -/
theorem Block.partnerRole_tells (b : Block) (role : Nat) (one : b.pairRole ≠ rolePrimary ∨ role ≠ rolePrimary) :
    let t := b.roleChange fun b => b.modPair fun p => { p with peerRole := role }
    (∃ rs, t = { b with regs := rs, pair := { b.pair with peerRole := role } }) ∧ b.Pairs [F.PAIR_STATUS_CONFLICT] t ∧
      t.flag R.PAIR_STATUS F.PAIR_STATUS_CONFLICT = false ∧ ∀ a, a ≠ R.PAIR_STATUS → t.word a = b.word a := by
  intro t
  obtain ⟨m, hm⟩ : ∃ m, (b.modPair fun p => { p with peerRole := role }) = m := ⟨_, rfl⟩
  have hmonly : m = { b with pair := { b.pair with peerRole := role } } := hm.symm
  have hrole : m.pairRole = b.pairRole := by rw [hmonly]; rfl
  have hnot : m.bothPrimary = false := by
    rw [Block.bothPrimary, hrole, hmonly]
    rcases one with h | h <;> simp [h]
  obtain ⟨h, -⟩ := b.roleChange_tells fun b => b.modPair fun p => { p with peerRole := role }
  rw [hm] at h
  have ht : t = m.lower R.PAIR_STATUS F.PAIR_STATUS_CONFLICT := h hnot
  obtain ⟨rs, hrs⟩ := m.setFld_regs R.PAIR_STATUS F.PAIR_STATUS_CONFLICT 0
  have hmt : m.Pairs [F.PAIR_STATUS_CONFLICT] (m.lower R.PAIR_STATUS F.PAIR_STATUS_CONFLICT) := (Pairs.refl _ m).setFld 0 (by decide) (by decide) (by decide)
  have hbm : b.Pairs [F.PAIR_STATUS_CONFLICT] m := .of_regs (by rw [hmonly])
  rw [ht]
  refine ⟨⟨rs, ?_⟩, hbm.trans hmt, Block.flag_lower _ _ _ (by decide) (by decide), fun a ha => ?_⟩
  · rw [Block.lower, hrs, hmonly]
  · rw [Block.lower, Block.word_setFld_ne _ _ _ ha, hmonly]
    rfl

/-- What a heartbeat does once it has been heard. -/
def Block.beaten (b : Block) (role mode : Nat) : Block :=
  let b := b.roleChange fun b => b.modPair fun p => { p with peerRole := role }
  if b.pairRole != roleStandby then b
  else if role == rolePrimary && mode != 0 then
    (b.raise R.PAIR_STATUS F.PAIR_STATUS_MIRRORING).modPair fun p => { p with mode := mode }
  else b.mirrorOff

theorem Block.beaten_standby (b : Block) {role mode : Nat} (standby : b.pairRole = roleStandby) :
    let t := b.beaten role mode
    t.pairRole = roleStandby ∧ b.Pairs [F.PAIR_STATUS_CONFLICT, F.PAIR_STATUS_MIRRORING] t ∧ t.pair.seenAt = b.pair.seenAt ∧
      (∃ rs p, t = { b with regs := rs, pair := p }) ∧
      (role = rolePrimary → mode ≠ 0 → t.mirroring = true ∧ t.pair.mode = mode ∧ ∀ a, a ≠ R.PAIR_STATUS → t.word a = b.word a) ∧
      (role ≠ rolePrimary ∨ mode = 0 → t.mirroring = false ∧ t.pair.early = []) := by
  intro t
  obtain ⟨⟨rs, honly⟩, hpairs, -, hword⟩ := b.partnerRole_tells role (.inl (by rw [standby]; decide))
  have ht : t = if (b.roleChange fun b => b.modPair fun p => { p with peerRole := role }).pairRole != roleStandby then
      b.roleChange fun b => b.modPair fun p => { p with peerRole := role }
    else if role == rolePrimary && mode != 0 then
      ((b.roleChange fun b => b.modPair fun p => { p with peerRole := role }).raise R.PAIR_STATUS F.PAIR_STATUS_MIRRORING).modPair fun p => { p with mode := mode }
    else (b.roleChange fun b => b.modPair fun p => { p with peerRole := role }).mirrorOff := rfl
  clear_value t
  generalize (b.roleChange fun b => b.modPair fun p => { p with peerRole := role }) = m at *
  have hrole : m.pairRole = roleStandby := (hpairs.fld F.PAIR_STATUS_ROLE (by decide)).trans standby
  rw [if_neg (by simp [hrole])] at ht
  by_cases mirrors : role = rolePrimary ∧ mode ≠ 0
  · rw [if_pos (by simp [mirrors.1, mirrors.2])] at ht
    obtain ⟨rs', hrs⟩ := m.setFld_regs R.PAIR_STATUS F.PAIR_STATUS_MIRRORING 1
    obtain ⟨r, hr⟩ : ∃ r, m.raise R.PAIR_STATUS F.PAIR_STATUS_MIRRORING = r := ⟨_, rfl⟩
    have hmr : m.Pairs [F.PAIR_STATUS_MIRRORING] r := hr ▸ (Pairs.refl _ m).setFld 1 (by decide) (by decide) (by decide)
    have hon : r.mirroring = true := hr ▸ Block.flag_raise _ _ _ (by decide) (by decide)
    have hrt : r.Pairs [F.PAIR_STATUS_MIRRORING] t := .of_regs (by rw [ht, hr]; rfl)
    have hmt := hmr.trans hrt
    have hronly : r = { m with regs := rs' } := hr.symm.trans hrs
    have htonly : t = { r with pair := { r.pair with mode := mode } } := by
      rw [ht, hr]
      rfl
    refine ⟨(hmt.fld F.PAIR_STATUS_ROLE (by decide)).trans hrole, (hpairs.mono (by decide)).trans (hmt.mono (by decide)), ?_, ⟨rs', t.pair, ?_⟩, fun _ _ => ⟨?_, ?_, fun a ha => ?_⟩,
      fun h => ?_⟩
    · rw [htonly, hronly, honly]
    · rw [htonly, hronly, honly]
    · rw [htonly]
      exact hon
    · rw [htonly]
    · rw [← hword a ha, htonly]
      show r.word a = m.word a
      rw [← hr, Block.raise, Block.word_setFld_ne _ _ _ ha]
    · rcases h with h | h
      · exact absurd mirrors.1 h
      · exact absurd h mirrors.2
  · rw [if_neg (by simpa [and_comm] using mirrors)] at ht
    obtain ⟨rs', hoff, hmt, hdown⟩ := m.mirrorOff_tells
    rw [← ht] at hoff hmt hdown
    refine ⟨(hmt.fld F.PAIR_STATUS_ROLE (by decide)).trans hrole, (hpairs.mono (by decide)).trans (hmt.mono (by decide)), ?_, ⟨rs', t.pair, ?_⟩, fun h1 h2 => absurd ⟨h1, h2⟩ mirrors,
      fun _ => ⟨hdown, ?_⟩⟩
    · rw [hoff, honly]
    · rw [hoff, honly]
    · rw [hoff]

theorem Block.beaten_primary (b : Block) {role mode : Nat} (primary : b.pairRole = rolePrimary) :
    let t := b.beaten role mode
    (role = rolePrimary → b.peerSeen = true → b.flag R.PAIR_STATUS F.PAIR_STATUS_CONFLICT = false →
      b.Pairs [F.PAIR_STATUS_MIRRORING, F.PAIR_STATUS_CONFLICT] t ∧ t.pair.seenAt = b.pair.seenAt ∧ t.flag R.PAIR_STATUS F.PAIR_STATUS_CONFLICT = true ∧
      t.mirroring = false ∧ t.inflight = (b.send 3 0 0x6C 0).inflight) ∧
    (role ≠ rolePrimary → b.Pairs [F.PAIR_STATUS_CONFLICT] t ∧ t.pair.seenAt = b.pair.seenAt ∧ t.flag R.PAIR_STATUS F.PAIR_STATUS_CONFLICT = false ∧
      t.inflight = b.inflight ∧ t.engines = b.engines) := by
  intro t
  have hstays (h : (b.roleChange fun b => b.modPair fun p => { p with peerRole := role }).pairRole = rolePrimary) :
      t = b.roleChange fun b => b.modPair fun p => { p with peerRole := role } := if_pos (by rw [h]; decide)
  refine ⟨fun both seen fresh => ?_, fun one => ?_⟩
  · obtain ⟨m, hm⟩ : ∃ m, (b.modPair fun p => { p with peerRole := role }) = m := ⟨_, rfl⟩
    have hmonly : m = { b with pair := { b.pair with peerRole := role } } := hm.symm
    have hregs : m.regs = b.regs := by rw [hmonly]
    have hboth : m.bothPrimary = true := by
      rw [Block.bothPrimary, Block.pairRole, Block.peerSeen, Block.fld_of_word (Block.word_of_regs hregs _), Block.flag_of_regs hregs,
        show b.fld _ _ = rolePrimary from primary, show b.flag _ _ = true from seen, hmonly]
      simp [both]
    obtain ⟨-, -, hnew⟩ := b.roleChange_tells fun b => b.modPair fun p => { p with peerRole := role }
    rw [hm] at hnew
    obtain ⟨hpairs, hoff, hon, hinflight, hpair, -⟩ := m.conflict_tells
    rw [← hnew hboth ((Block.flag_of_regs hregs _ _).trans fresh)] at hpairs hoff hon hinflight hpair
    have hbm : b.Pairs [F.PAIR_STATUS_MIRRORING, F.PAIR_STATUS_CONFLICT] m := .of_regs hregs
    have hall := hbm.trans hpairs
    rw [hstays ((hall.fld F.PAIR_STATUS_ROLE (by decide)).trans primary)]
    refine ⟨hall, ?_, hon, hoff, ?_⟩
    · rw [hpair, hmonly]
    · rw [hinflight]
      exact send_inflight_congr (by rw [hmonly]) (by rw [hmonly]) _ _ _ _
  · obtain ⟨⟨rs, honly⟩, hpairs, hoff, -⟩ := b.partnerRole_tells role (.inr one)
    rw [hstays ((hpairs.fld F.PAIR_STATUS_ROLE (by decide)).trans primary)]
    exact ⟨hpairs, by rw [honly], hoff, by rw [honly], by rw [honly]⟩

/-! ## CMD and CMD_ACK (R467, R468) -/

theorem Block.accept_standby (b : Block) {d : Nat} {o : TblOp} (role : b.pairRole = roleStandby) (plain : o.op ≠ 6) :
    ∃ o', b.accept d o = (b.modEngine d fun e => { e with ops := e.ops ++ [o'] }) ∧ ∃ l, o' = { o with after := l } := by
  obtain ⟨o', ho⟩ : ∃ o' : TblOp, (if (o.table == T.mcast && decide (o.index ≥ 2 ^ 19) && (o.op == 1 || o.op == 3) && !(o.via == .commit)) = true
      then { o with after := b.mcWaiting d } else o) = o' := ⟨_, rfl⟩
  have hafter : ∃ l, o' = { o with after := l } := by
    rw [← ho]
    split
    · exact ⟨_, rfl⟩
    · exact ⟨o.after, rfl⟩
  refine ⟨o', ?_, hafter⟩
  have hop : o'.op ≠ 6 := by
    obtain ⟨l, rfl⟩ := hafter
    exact plain
  have hrole : (b.pairRole == 1) = false := by rw [role]; rfl
  unfold Block.accept
  dsimp only
  rw [ho, hrole]
  refine (if_neg (by simp)).trans (if_neg (by simp [hop]))

/-- What a CMD does once it has been heard. -/
def Block.commanded (b : Block) (seq d : Nat) (o : TblOp) : Block :=
  if b.pairRole != roleStandby then b
  else
    let b := b.modPair fun p => { p with early := p.early ++ [(seq, d, o)] }
    b.applyCmds b.pair.early.length

theorem Block.commanded_turn (b : Block) {seq d : Nat} {o : TblOp} (standby : b.pairRole = roleStandby) (none : b.pair.early = [])
    (turn : b.pair.expect = Option.none ∨ b.pair.expect = some seq) (plain : o.op ≠ 6) :
    ∃ o', (∃ l, o' = { o with after := l }) ∧ b.commanded seq d o = { b with pair := { b.pair with expect := some (seq + 1), early := [] } }.modEngine d
      fun e => { e with ops := e.ops ++ [o'] } := by
  obtain ⟨m, hm⟩ : ∃ m, (b.modPair fun p => { p with early := p.early ++ [(seq, d, o)] }) = m := ⟨_, rfl⟩
  have hmp : m.pair = { b.pair with early := [(seq, d, o)] } := by
    rw [← hm, Block.modPair, none]
    rfl
  have hnext : (m.pair.early.find? fun x => m.pair.expect.all fun e => x.1 == e) = some (seq, d, o) := by
    rw [hmp]
    rcases turn with h | h <;> simp [h]
  obtain ⟨n, hn⟩ : ∃ n, (m.modPair fun p => { p with expect := some (seq + 1), early := m.pair.early.filter fun y => y.1 != seq }) = n := ⟨_, rfl⟩
  have hnonly : n = { b with pair := { b.pair with expect := some (seq + 1), early := [] } } := by
    rw [← hn, Block.modPair, hmp, ← hm, Block.modPair]
    simp
  have hrole : n.pairRole = roleStandby := by
    rw [hnonly]
    exact standby
  obtain ⟨o', haccept, hafter⟩ := n.accept_standby (d := d) (o := o) hrole plain
  refine ⟨o', hafter, ?_⟩
  have hrun : m.applyCmds 1 = n.accept d o := by
    unfold Block.applyCmds
    dsimp only
    rw [hnext]
    rw [← hn]
    rfl
  have ht : b.commanded seq d o = m.applyCmds m.pair.early.length := by
    rw [← hm]
    exact if_neg (by simp [standby])
  rw [ht, hmp]
  rw [← hnonly, ← haccept]
  exact hrun

theorem Block.commanded_early (b : Block) {seq d e : Nat} {o : TblOp} (standby : b.pairRole = roleStandby) (none : b.pair.early = [])
    (expects : b.pair.expect = some e) (other : e ≠ seq) :
    b.commanded seq d o = { b with pair := { b.pair with early := [(seq, d, o)] } } := by
  obtain ⟨m, hm⟩ : ∃ m, (b.modPair fun p => { p with early := p.early ++ [(seq, d, o)] }) = m := ⟨_, rfl⟩
  have hmonly : m = { b with pair := { b.pair with early := [(seq, d, o)] } } := by
    rw [← hm, Block.modPair, none]
    rfl
  have hnone : (m.pair.early.find? fun x => m.pair.expect.all fun e => x.1 == e) = Option.none := by
    rw [hmonly]
    simp [expects, other.symm]
  have hrun : m.applyCmds 1 = m := by
    unfold Block.applyCmds
    dsimp only
    rw [hnone]
  have ht : b.commanded seq d o = m.applyCmds m.pair.early.length := by
    rw [← hm]
    exact if_neg (by simp [standby])
  rw [ht, show m.pair.early.length = 1 by rw [hmonly]; rfl, hrun, hmonly]

theorem Block.completeSeq_settled (b : Block) (s : Nat) : b.Settled (b.completeSeq s) := by
  unfold Block.completeSeq
  refine (Settled.refl b).each _ _ fun c d => ?_
  split
  · exact .refl c
  · split
    · exact ((Settled.refl c).modEngine d _).trans (Block.publish_settled _ d _)
    · exact .refl c

theorem Block.diverge_tells (b : Block) {c : LagCmd} {x y : Nat × Nat} (own : c.own = some x) (ack : c.ack = some y) :
    let t := b.diverge c
    b.Pairs [F.PAIR_STATUS_DIVERGE] t ∧ t.pair = b.pair ∧
      t.flag R.PAIR_STATUS F.PAIR_STATUS_DIVERGE = (b.flag R.PAIR_STATUS F.PAIR_STATUS_DIVERGE || x != y) := by
  intro t
  have ht : t = if x == y then b else (b.raise R.PAIR_STATUS F.PAIR_STATUS_DIVERGE).sendOncePerMs 3 0 0x6D 0 := by
    rw [show t = b.diverge c from rfl, Block.diverge, own, ack]
  clear_value t
  by_cases same : x = y
  · rw [if_pos (beq_iff_eq.mpr same)] at ht
    rw [ht]
    exact ⟨.refl _ _, rfl, by simp [same]⟩
  · rw [if_neg (mt beq_iff_eq.mp same)] at ht
    obtain ⟨r, hr⟩ : ∃ r, b.raise R.PAIR_STATUS F.PAIR_STATUS_DIVERGE = r := ⟨_, rfl⟩
    have hbr : b.Pairs [F.PAIR_STATUS_DIVERGE] r := hr ▸ (Pairs.refl _ b).setFld 1 (by decide) (by decide) (by decide)
    have hon : r.flag R.PAIR_STATUS F.PAIR_STATUS_DIVERGE = true := hr ▸ Block.flag_raise _ _ _ (by decide) (by decide)
    have hregs : (r.sendOncePerMs 3 0 0x6D 0).regs = r.regs := Block.sendOncePerMs_regs ..
    rw [ht, hr]
    refine ⟨hbr.trans (.of_regs hregs), ?_, ?_⟩
    · rw [Block.sendOncePerMs_pair, ← hr, Block.raise_pair]
    · rw [Block.flag_of_regs hregs, hon]
      simp [same]

/-- What a CMD_ACK does once it has been heard. -/
def Block.acknowledged (b : Block) (seq status index : Nat) : Block :=
  match b.pair.lag.find? fun c => c.seq == seq with
  | none => b
  | some c =>
    let c := { c with ack := some (status, index) }
    let b := b.setCtr R.PAIR_APPLIED_SEQ seq
    if c.own.isSome then
      ((b.diverge c).modPair fun p => { p with lag := p.lag.filter fun x => x.seq != seq }).completeSeq seq
    else b.modPair fun p => { p with lag := p.lag.map fun x => if x.seq == seq then c else x }

theorem Block.acknowledged_unknown (b : Block) {seq status index : Nat} (none : b.pair.lag.find? (fun c => c.seq == seq) = Option.none) :
    b.acknowledged seq status index = b := by
  rw [Block.acknowledged, none]

theorem Block.acknowledged_waits (b : Block) {seq status index : Nat} {c : LagCmd} (found : b.pair.lag.find? (fun c => c.seq == seq) = some c)
    (waits : c.own = none) : b.acknowledged seq status index = { b.setCtr R.PAIR_APPLIED_SEQ seq with
      pair := { b.pair with lag := b.pair.lag.map fun x => if x.seq == seq then { c with ack := some (status, index) } else x } } := by
  rw [Block.acknowledged, found]
  exact if_neg (by simp [waits])

theorem Block.acknowledged_both (b : Block) {seq status index : Nat} {c : LagCmd} {r : Nat × Nat}
    (found : b.pair.lag.find? (fun c => c.seq == seq) = some c) (own : c.own = some r) :
    let t := b.acknowledged seq status index
    b.Pairs [F.PAIR_STATUS_DIVERGE] t ∧ t.pair = { b.pair with lag := b.pair.lag.filter fun x => x.seq != seq } ∧
      t.flag R.PAIR_STATUS F.PAIR_STATUS_DIVERGE = (b.flag R.PAIR_STATUS F.PAIR_STATUS_DIVERGE || r != (status, index)) := by
  intro t
  obtain ⟨s, hs⟩ : ∃ s, b.setCtr R.PAIR_APPLIED_SEQ seq = s := ⟨_, rfl⟩
  have hsr : s.regs = b.regs ∧ s.pair = b.pair := by
    rw [← hs]
    exact ⟨rfl, rfl⟩
  obtain ⟨v, hv⟩ : ∃ v, s.diverge { c with ack := some (status, index) } = v := ⟨_, rfl⟩
  obtain ⟨hpairs, hpair, hflag⟩ := s.diverge_tells (c := { c with ack := some (status, index) }) own rfl
  rw [hv] at hpairs hpair hflag
  obtain ⟨m, hm⟩ : ∃ m, (v.modPair fun p => { p with lag := p.lag.filter fun x => x.seq != seq }) = m := ⟨_, rfl⟩
  have ht : t = m.completeSeq seq := by
    rw [← hm, ← hv, ← hs, show t = b.acknowledged seq status index from rfl, Block.acknowledged, found]
    exact if_pos (by simp [own])
  have hmonly : m = { v with pair := { v.pair with lag := v.pair.lag.filter fun x => x.seq != seq } } := hm.symm
  have hset := m.completeSeq_settled seq
  have hbs : b.Pairs [F.PAIR_STATUS_DIVERGE] s := .of_regs hsr.1
  have hvm : v.Pairs [] m := .of_regs (by rw [hmonly])
  have hmt : m.Pairs [] (m.completeSeq seq) := .of_low hset.low
  have hvt := hvm.trans hmt
  rw [ht]
  refine ⟨(hbs.trans hpairs).trans (hvt.mono (by decide)), ?_, (hvt.flag (by decide)).trans (hflag.trans ?_)⟩
  · rw [hset.pair, hmonly]
    dsimp only
    rw [hpair, hsr.2]
  · rw [Block.flag_of_regs hsr.1]

end Sys2Proof.Machine
end

section
/-!
PROOFS. What a package learns of its partner's tables, time and counters, and a handover (R469, R470); O43.
-/
namespace Sys2Proof.Machine
open Sys2Proof

variable {b c d t : Block}

/-! ## GLEAN (R469) -/

theorem Block.fails_blk (b : Block) (s : Nat) : (b.fails s).blk = b := rfl

theorem Block.placeEntry_leaves (b : Block) (d s : Nat) (l : List Move) (x : EmEntry) :
    (b.placeEntry d s l x).regs = b.regs ∧ (b.placeEntry d s l x).pair = b.pair ∧ ∀ a, a < 0x200000 → (b.placeEntry d s l x).ctr a = b.ctr a := by
  obtain ⟨c, hc⟩ : ∃ c, (b.modEngine d fun e =>
    let e := l.foldl Engine.doMove e
    { e with em := SMap.put e.em s x }) = c := ⟨_, rfl⟩
  have ht : b.placeEntry d s l x = ((c.count (R.TBL_EM_INSERTS d) 1).count (R.TBL_EM_MOVES d) l.length).pmc (.tbl d) 0x03 0xFFF l.length := by
    rw [← hc]
    rfl
  have hcb : c.regs = b.regs ∧ c.pair = b.pair ∧ ∀ a, c.ctr a = b.ctr a := by
    rw [← hc]
    exact ⟨Block.modEngine_regs .., Block.modEngine_pair .., fun a => Block.modEngine_ctr ..⟩
  obtain ⟨hregs, hpair, hctr⟩ := hcb
  rw [ht]
  refine ⟨by rw [Block.pmc_regs, Block.count_regs, Block.count_regs, hregs], by rw [Block.pmc_pair, Block.count_pair, Block.count_pair, hpair], fun a ha => ?_⟩
  have hpmc (e : Block) : (e.pmc (.tbl d) 0x03 0xFFF l.length).ctr a = e.ctr a := e.ctr_pmc_other _ _ _ _ fun k _ h => by
    have h' : a = tblBase d + 0x3000 + 0x40 + 8 * k := h
    unfold tblBase dieBase at h'
    omega
  have hins : a ≠ R.TBL_EM_INSERTS d := by unfold R.TBL_EM_INSERTS tblBase dieBase; omega
  have hmoves : a ≠ R.TBL_EM_MOVES d := by unfold R.TBL_EM_MOVES tblBase dieBase; omega
  rw [hpmc, Block.ctr_count_other _ _ hmoves, Block.ctr_count_other _ _ hins, hctr]

/-- An insertion leaves the registers, the pair and the counters below the dies as they are. -/
theorem Block.insert_leaves (b : Block) (d t req : Nat) (v : Vec) :
    (b.insert d t req v).blk.regs = b.regs ∧ (b.insert d t req v).blk.pair = b.pair ∧
      ∀ a, a < 0x200000 → (b.insert d t req v).blk.ctr a = b.ctr a := by
  have hlimit (a : Nat) (ha : a < 0x200000) : a ≠ R.TBL_EM_LIMIT_FAILS d := by unfold R.TBL_EM_LIMIT_FAILS tblBase dieBase; omega
  have hfull (a : Nat) (ha : a < 0x200000) : a ≠ R.TBL_EM_FULL_FAILS d := by unfold R.TBL_EM_FULL_FAILS tblBase dieBase; omega
  obtain ⟨r, hr⟩ : ∃ r, b.insert d t req v = r := ⟨_, rfl⟩
  rw [hr]
  unfold Block.insert at hr
  dsimp only at hr
  split at hr
  · split at hr
    · subst hr
      exact ⟨rfl, rfl, fun _ _ => rfl⟩
    · subst hr
      dsimp only
      exact b.placeEntry_leaves d _ _ _
  · split at hr
    · subst hr
      rw [Block.fails_blk]
      exact ⟨Block.count_regs .., Block.count_pair .., fun a ha => Block.ctr_count_other _ _ (hlimit a ha)⟩
    · split at hr
      · subst hr
        dsimp only
        exact b.placeEntry_leaves d _ _ _
      · split at hr
        · subst hr
          dsimp only
          exact b.placeEntry_leaves d _ _ _
        · subst hr
          rw [Block.fails_blk]
          exact ⟨(Block.sendLimited_regs ..).trans (Block.count_regs ..), (Block.sendLimited_pair ..).trans (Block.count_pair ..),
            fun a ha => (Block.sendLimited_ctr ..).trans (Block.ctr_count_other _ _ (hfull a ha))⟩

/-- The image in a GLEAN message. -/
def gleanImage (raw : List Byte) : Vec := Vec.ofList ((List.range 8).map fun j => leVal (slice raw (16 + 4 * j) (20 + 4 * j)))

/-- What a GLEAN does once it has been heard. -/
def Block.gleaned (b : Block) (raw : List Byte) : Block :=
  let b := b.count R.PAIR_GLEAN_RX 1
  let ev := byteAt raw 3 / 16
  let d := byteAt raw 3 / 4 % 4
  let nh := b.fld R.PAIR_REMOTE_NH_BASE F.PAIR_REMOTE_NH_BASE_V + byteAt raw 2
  if ev == 1 || ev == 2 then
    (b.insert d T.l2 reqGleaner ((((gleanImage raw).put 3 ⟨30, 28⟩ 0).put 3 ⟨21, 20⟩ 0).put 3 ⟨19, 2⟩ nh)).blk
  else if ev == 3 && byteAt raw 0 == T.l2 then
    match b.emFind d T.l2 false (imgKey (gleanImage raw)) with
    | some (s, x) => if x.kind == 0 then b.modEngine d fun e => { e with em := SMap.del e.em s } else b
    | none => b
  else b

theorem Block.gleanMessage_eq (b : Block) (raw : List Byte) : b.gleanMessage raw = b.arrival 4 fun b => b.gleaned raw := rfl

theorem Block.gleaned_tells (b : Block) (raw : List Byte) :
    let t := b.gleaned raw
    let ev := byteAt raw 3 / 16
    let D := byteAt raw 3 / 4 % 4
    t.regs = b.regs ∧ t.pair = b.pair ∧ t.ctr R.PAIR_GLEAN_RX = (b.ctr R.PAIR_GLEAN_RX + 1) % 2 ^ 64 ∧ (ev = 0 ∨ 3 < ev → t.engines = b.engines) ∧
    (ev = 3 → byteAt raw 0 = T.l2 → (b.emFind D T.l2 false (imgKey (gleanImage raw)) = none → t.engines = b.engines) ∧
      ∀ s x, b.emFind D T.l2 false (imgKey (gleanImage raw)) = some (s, x) →
        (x.kind ≠ 0 → t.engines = b.engines) ∧ (x.kind = 0 → (t.engine D).em = SMap.del (b.engine D).em s)) := by
  intro t ev D
  obtain ⟨c, hc⟩ : ∃ c, b.count R.PAIR_GLEAN_RX 1 = c := ⟨_, rfl⟩
  have hctr : c.ctr R.PAIR_GLEAN_RX = (b.ctr R.PAIR_GLEAN_RX + 1) % 2 ^ 64 := hc ▸ Block.ctr_count_same _ _ _ (b.stopped_inst (by decide))
  have hcregs : c.regs = b.regs := hc ▸ Block.count_regs ..
  have hcpair : c.pair = b.pair := hc ▸ Block.count_pair ..
  have hceng : c.engines = b.engines := hc ▸ Block.count_engines ..
  have hfind : c.emFind D T.l2 false (imgKey (gleanImage raw)) = b.emFind D T.l2 false (imgKey (gleanImage raw)) := by
    rw [← hc]
    exact b.emFind_congr (fun a => Block.count_word ..) (by rw [Block.count_engine]) _ _ _
  have ht : t = if ev == 1 || ev == 2 then
        (c.insert D T.l2 reqGleaner ((((gleanImage raw).put 3 ⟨30, 28⟩ 0).put 3 ⟨21, 20⟩ 0).put 3 ⟨19, 2⟩
          (c.fld R.PAIR_REMOTE_NH_BASE F.PAIR_REMOTE_NH_BASE_V + byteAt raw 2))).blk
      else if ev == 3 && byteAt raw 0 == T.l2 then
        match c.emFind D T.l2 false (imgKey (gleanImage raw)) with
        | some (s, x) => if x.kind == 0 then c.modEngine D fun e => { e with em := SMap.del e.em s } else c
        | none => c
      else c := by
    rw [← hc]
    rfl
  clear_value t
  rw [hfind] at ht
  have hstays : t = c → t.regs = b.regs ∧ t.pair = b.pair ∧ t.ctr R.PAIR_GLEAN_RX = (b.ctr R.PAIR_GLEAN_RX + 1) % 2 ^ 64 ∧ t.engines = b.engines := fun h => by
    rw [h]
    exact ⟨hcregs, hcpair, hctr, hceng⟩
  by_cases learn : ev = 1 ∨ ev = 2
  · rw [if_pos (by simpa using learn)] at ht
    obtain ⟨hregs, hpair, hlow⟩ := c.insert_leaves D T.l2 reqGleaner ((((gleanImage raw).put 3 ⟨30, 28⟩ 0).put 3 ⟨21, 20⟩ 0).put 3 ⟨19, 2⟩
          (c.fld R.PAIR_REMOTE_NH_BASE F.PAIR_REMOTE_NH_BASE_V + byteAt raw 2))
    rw [← ht] at hregs hpair hlow
    exact ⟨hregs.trans hcregs, hpair.trans hcpair, (hlow _ (by decide)).trans hctr, fun h => by omega, fun h => by omega⟩
  · rw [if_neg (by simpa using learn)] at ht
    by_cases age : ev = 3 ∧ byteAt raw 0 = T.l2
    · rw [if_pos (by simpa using age)] at ht
      cases hf : b.emFind D T.l2 false (imgKey (gleanImage raw)) with
      | none =>
        rw [hf] at ht
        obtain ⟨hregs, hpair, hcount, heng⟩ := hstays ht
        exact ⟨hregs, hpair, hcount, fun _ => heng, fun _ _ => ⟨fun _ => heng, fun s x h => by contradiction⟩⟩
      | some y =>
        obtain ⟨s, x⟩ := y
        rw [hf] at ht
        by_cases remote : x.kind = 0
        · have ht' : t = c.modEngine D fun e => { e with em := SMap.del e.em s } := ht.trans (if_pos (beq_iff_eq.mpr remote))
          rw [ht']
          refine ⟨hcregs, hcpair, hctr, fun h => by omega, fun _ _ => ⟨fun h => by contradiction, fun s' x' h => ?_⟩⟩
          obtain ⟨rfl, rfl⟩ := Prod.mk.inj (Option.some.inj h)
          refine ⟨fun h => absurd remote h, fun _ => ?_⟩
          rw [Block.engine_modEngine, if_pos rfl, Block.engine, hceng]
          rfl
        · obtain ⟨hregs, hpair, hcount, heng⟩ := hstays (ht.trans (if_neg (mt beq_iff_eq.mp remote)))
          refine ⟨hregs, hpair, hcount, fun _ => heng, fun _ _ => ⟨fun _ => heng, fun s' x' h => ?_⟩⟩
          obtain ⟨rfl, rfl⟩ := Prod.mk.inj (Option.some.inj h)
          exact ⟨fun _ => heng, fun h => absurd h remote⟩
    · rw [if_neg (by simpa using age)] at ht
      obtain ⟨hregs, hpair, hcount, heng⟩ := hstays ht
      exact ⟨hregs, hpair, hcount, fun _ => heng, fun h1 h2 => absurd ⟨h1, h2⟩ age⟩

/-! ## FRAG (R469) -/

/-- What a FRAG does once it has been heard. -/
def Block.installed (b : Block) (C : Nat) (w : List Nat) : Block :=
  let b := b.fragExpire C
  let e := b.fragOf w
  match (fragSlots e.key).find? fun s => (SMap.find (b.cluster C).frags s).isNone with
  | some s => b.setFrag C s e
  | none => b.count R.PAIR_FRAG_DROP 1

theorem Block.fragMessage_eq (b : Block) (C : Nat) (w : List Nat) : b.fragMessage C w = b.arrival 5 fun b => b.installed C w := rfl

/-- What expires at a cluster hangs on its entries, the time and its configuration. -/
theorem Block.fragExpire_congr {C : Nat} (clusters : c.clusters = b.clusters) (ticks : c.ticks = b.ticks)
    (word : c.word (R.CLS_FRAG_CFG C) = b.word (R.CLS_FRAG_CFG C)) :
    ((c.fragExpire C).cluster C).frags = ((b.fragExpire C).cluster C).frags := by
  have hcl : c.cluster C = b.cluster C := by rw [Block.cluster, clusters]; rfl
  have hold : c.fragOld C = b.fragOld C := by
    funext e
    rw [Block.fragOld, Block.fragOld, Block.fragLife, Block.fragLife, Block.fld_of_word word, ticks]
  rw [(c.fragExpire_tells C).1, (b.fragExpire_tells C).1, hcl, hold]

theorem Block.installed_tells (b : Block) (C : Nat) (w : List Nat) :
    let t := b.installed C w
    let e := b.fragOf w
    let free := (fragSlots e.key).find? fun s => (SMap.find ((b.fragExpire C).cluster C).frags s).isNone
    t.regs = b.regs ∧ t.pair = b.pair ∧ (∀ s, free = some s → (t.cluster C).frags = SMap.put ((b.fragExpire C).cluster C).frags s e) ∧
      (free = none → t.ctr R.PAIR_FRAG_DROP = (b.ctr R.PAIR_FRAG_DROP + 1) % 2 ^ 64) := by
  intro t e free
  obtain ⟨-, hctrs, -, honly⟩ := b.fragExpire_tells C
  have ht : t = match (fragSlots ((b.fragExpire C).fragOf w).key).find? fun s => (SMap.find ((b.fragExpire C).cluster C).frags s).isNone with
    | some s => (b.fragExpire C).setFrag C s ((b.fragExpire C).fragOf w)
    | none => (b.fragExpire C).count R.PAIR_FRAG_DROP 1 := rfl
  have he : (b.fragExpire C).fragOf w = e := by
    rw [honly]
    rfl
  have hctr : (b.fragExpire C).ctr R.PAIR_FRAG_DROP = b.ctr R.PAIR_FRAG_DROP := by
    have hcount (n : Nat) : (b.count (R.CLS_FRAG_EXPIRED C) n).ctr R.PAIR_FRAG_DROP = b.ctr R.PAIR_FRAG_DROP :=
      Block.ctr_count_other _ _ (by unfold R.PAIR_FRAG_DROP R.CLS_FRAG_EXPIRED pairBase clsBase rgnBase dieBase; omega)
    rw [Block.ctr, hctrs]
    split
    · exact hcount _
    · rfl
  have hregs : (b.fragExpire C).regs = b.regs := by rw [honly]
  have hpair : (b.fragExpire C).pair = b.pair := by rw [honly]
  clear_value t
  rw [he] at ht
  obtain ⟨x, hx⟩ : ∃ x, b.fragExpire C = x := ⟨_, rfl⟩
  have hxfree : free = (fragSlots e.key).find? fun s => (SMap.find (x.cluster C).frags s).isNone := by rw [← hx]
  rw [hx] at ht hctr hregs hpair ⊢
  rw [← hxfree] at ht
  clear_value free
  cases hfree : free with
  | none =>
    rw [hfree] at ht
    rw [show t = x.count R.PAIR_FRAG_DROP 1 from ht]
    refine ⟨by rw [Block.count_regs, hregs], by rw [Block.count_pair, hpair], fun s h => by contradiction, fun _ => ?_⟩
    rw [Block.ctr_count_same _ _ _ (x.stopped_inst (by decide)), hctr]
  | some s =>
    rw [hfree] at ht
    rw [show t = x.setFrag C s e from ht]
    refine ⟨hregs, hpair, fun s' h => ?_, fun h => by contradiction⟩
    obtain rfl := Option.some.inj h
    rw [Block.setFrag, cluster_modCluster, if_pos rfl]

/-! ## TIME, TALLY and CKPT (R469) -/

theorem Block.each_setCtr (b : Block) (addr val : Nat → Nat) (apart : ∀ i j, addr i = addr j → i = j) (n : Nat) :
    b.Counted (b.each n fun b j => b.setCtr (addr j) (val j)) ∧
      ∀ j, j < n → (b.each n fun b j => b.setCtr (addr j) (val j)).ctr (addr j) = val j % 2 ^ 64 := by
  induction n with
  | zero => exact ⟨.refl b, fun j hj => absurd hj (by omega)⟩
  | succ n ih =>
    obtain ⟨hcount, hctr⟩ := ih
    rw [Block.each_succ]
    refine ⟨hcount.setCtr _ _, fun j hj => ?_⟩
    by_cases h : j = n
    · rw [h, Block.ctr_setCtr, if_pos rfl]
    · rw [Block.ctr_setCtr_other _ _ fun e => h (apart _ _ e), hctr j (by omega)]

/-- Where the checkpoint buffer begins; 0 where there is none. -/
def Block.ckptBase (b : Block) : Nat := b.word R.PAIR_CKPT_ADDR_HI * 2 ^ 32 + b.word R.PAIR_CKPT_ADDR_LO

/-- What a CKPT does once it has been heard. -/
def Block.checkpointed (b : Block) (base id G first : Nat) (raw : List Byte) : Block :=
  let p := b.pair
  if b.pairRole != roleStandby || base == 0 then b
  else
    let seen := (if p.ckptId == id then p.ckptSeen else 0) + raw.length / 16
    let whole := seen ≥ pairsPerCkpt
    let at_ := base + p.ckptHalf * 2 ^ 26 + (G * pairsPerRegion + first) * 16
    let b := b.modPair fun p =>
      { p with ckptId := id, ckptSeen := if whole then 0 else seen, ckptHalf := if whole then 1 - p.ckptHalf else p.ckptHalf }
    b.pushJob 0 (.ckpt (if whole then some (p.ckptHalf, id) else none)) [(at_, raw)]

theorem Block.ckptMessage_eq (b : Block) (id G first : Nat) (raw : List Byte) :
    b.ckptMessage id G first raw = b.arrival 8 fun b => b.checkpointed b.ckptBase id G first raw := rfl

/-- With every engine busy a job waits behind the others. -/
theorem Block.pushJob_busy (b : Block) (i : Nat) (k : JobKind) (w : List (Nat × List Byte)) (busy : ∀ e, e < 16 → (SMap.find b.dmaEng e).isSome) :
    b.pushJob i k w = { b with jobs := b.jobs ++ [{ n := b.jobCount, inst := i, kind := k, writes := w }], jobCount := b.jobCount + 1 } := by
  have hnone : ((List.range 16).find? fun e => (SMap.find b.dmaEng e).isNone) = none := by
    rw [List.find?_eq_none]
    intro e he
    rw [Option.isNone_iff_eq_none, ← Option.not_isSome_iff_eq_none, not_not]
    exact busy e (List.mem_range.mp he)
  unfold Block.pushJob
  unfold Block.dispatchDma
  dsimp only
  rw [hnone]

theorem Block.checkpointed_none (b : Block) {base id G first : Nat} {raw : List Byte} (h : b.pairRole ≠ roleStandby ∨ base = 0) :
    b.checkpointed base id G first raw = b := if_pos (by rcases h with h | h <;> simp [h])

theorem Block.checkpointed_part (b : Block) {base id G first : Nat} {raw : List Byte} (standby : b.pairRole = roleStandby)
    (there : base ≠ 0) (busy : ∀ e, e < 16 → (SMap.find b.dmaEng e).isSome)
    (same : b.pair.ckptId = id) (part : b.pair.ckptSeen + raw.length / 16 < pairsPerCkpt) :
    b.checkpointed base id G first raw = { b with
      pair := { b.pair with ckptId := id, ckptSeen := b.pair.ckptSeen + raw.length / 16 }
      jobs := b.jobs ++ [⟨b.jobCount, 0, .ckpt none, [(base + b.pair.ckptHalf * 2 ^ 26 + (G * pairsPerRegion + first) * 16, raw)]⟩]
      jobCount := b.jobCount + 1 } := by
  have hwhole : ¬ b.pair.ckptSeen + raw.length / 16 ≥ pairsPerCkpt := by omega
  obtain ⟨m, hm⟩ : ∃ m, (b.modPair fun p => { p with ckptId := id, ckptSeen := b.pair.ckptSeen + raw.length / 16 }) = m := ⟨_, rfl⟩
  have hmonly : m = { b with pair := { b.pair with ckptId := id, ckptSeen := b.pair.ckptSeen + raw.length / 16 } } := hm.symm
  unfold Block.checkpointed
  dsimp only
  rw [if_neg (by simp [standby, there]), if_pos (beq_iff_eq.mpr same)]
  simp only [if_neg hwhole]
  rw [hm, m.pushJob_busy _ _ _ (by rw [hmonly]; exact busy), hmonly]

/-! ## HANDOVER (R470) -/

/-- What a HANDOVER does once it has been heard. -/
def Block.handedOver (b : Block) (seq : Nat) : Block :=
  if b.pairRole != roleStandby then b
  else
    let b := b.modPair fun p => { p with peerRole := roleStandby }
    if b.pair.promoting then b else b.promoteStart (some seq)

theorem Block.handedOver_standby (b : Block) {seq : Nat} (standby : b.pairRole = roleStandby) (idle : b.pair.promoting = false) :
    ∃ c, c = { b with pair := { b.pair with peerRole := roleStandby } } ∧ b.handedOver seq = c.promoteStart (some seq) :=
  ⟨_, rfl, (if_neg (by simp [standby])).trans (if_neg (ne_true_of_eq_false idle))⟩
/-- Settles O43: each message of a pair, as it is taken. -/
theorem pairMessagesAreTaken : Obligations.PairMessagesAreTaken := by
  unfold Obligations.PairMessagesAreTaken
  intro b role mode status epoch word index id next applied seq d commit data raw body C entry digests g first S idle sees bump
  have hbeat : Takes (.heartbeat role mode epoch next applied) b (b.arrival 1 fun b => b.beaten role.toNat mode.toNat) := fun _ => rfl
  have hcmd : Takes (.cmd seq d commit word index data) b
      (b.arrival 2 fun b => b.commanded seq.toNat d (cmdOf seq.toNat commit word.toNat index.toNat (data.map BitVec.toNat))) := fun _ => rfl
  have hack : Takes (.cmdAck seq status index) b (b.arrival 3 fun b => b.acknowledged seq.toNat status.toNat index.toNat) := fun _ => rfl
  have hglean : Takes (.glean raw) b (b.arrival 4 fun b => b.gleaned raw) := fun _ => rfl
  have hfrag : Takes (.frag C entry) b (b.arrival 5 fun b => b.installed C (entry.map BitVec.toNat)) := fun _ => rfl
  have htime : Takes (.time body) b (b.arrival 6 fun b => b.each 9 fun b j =>
    b.setWord (R.PAIR_PEER_TIME j) (leVal (slice (body.take 33) (4 * j) (4 * j + 4)))) := fun _ => rfl
  have htally : Takes (.tally digests) b (b.arrival 7 fun b => b.each 20 fun b k =>
    b.setCtr (R.PAIR_PEER_TALLY k) ((digests.map BitVec.toNat).getD k 0)) := fun _ => rfl
  have hckpt : Takes (.ckpt id g first raw) b (b.arrival 8 fun b => b.checkpointed b.ckptBase id.toNat g first.toNat raw) := fun _ => rfl
  have hhand : Takes (.handover seq) b (b.arrival 9 fun b => b.handedOver seq.toNat) := fun _ => rfl
  have herr : Takes .msgErr b b.msgErr := fun _ => rfl
  refine ⟨fun none c hc => ?_, fun live => ?_⟩
  · simp only [List.mem_cons, List.not_mem_nil, or_false] at hc
    rcases hc with rfl | rfl | rfl | rfl | rfl | rfl | rfl | rfl | rfl | rfl
    · exact takes_congr hbeat (b.arrival_none _ _ none)
    · exact takes_congr hcmd (b.arrival_none _ _ none)
    · exact takes_congr hack (b.arrival_none _ _ none)
    · exact takes_congr hglean (b.arrival_none _ _ none)
    · exact takes_congr hfrag (b.arrival_none _ _ none)
    · exact takes_congr htime (b.arrival_none _ _ none)
    · exact takes_congr htally (b.arrival_none _ _ none)
    · exact takes_congr hckpt (b.arrival_none _ _ none)
    · exact takes_congr hhand (b.arrival_none _ _ none)
    · exact takes_congr herr (if_pos (by rcases none with h | h <;> simp [h]))
  refine ⟨fun standby primary on => ?_, fun standby off => ?_, fun primary both fresh => ?_, fun primary other => ?_, fun standby none turn plain => ?_,
    fun e standby none expects early => ?_, fun primary => ?_, fun none => ?_, fun c found waits => ?_, fun c r found own => ?_, ?_, ?_, ?_, ?_, ?_, fun primary => ?_,
    fun standby idle done all => ?_, fun standby idle left => ?_, ?_⟩
  · obtain ⟨c, hc, harr⟩ := b.arrival_heard 1 live
    rw [harr] at hbeat
    obtain ⟨hrole, hpairs, hseen, ⟨rs, p, honly⟩, hmirror, -⟩ := c.beaten_standby (role := role.toNat) (mode := mode.toNat) (hc.role.trans standby)
    obtain ⟨hon, hmode, hword⟩ := hmirror primary (fun h => on (BitVec.eq_of_toNat_eq h))
    refine hbeat.to ⟨hc.sees hpairs (by decide) hseen, hon, hmode, hrole, fun a ha => (hword a ha).trans (hc.word a ha), ?_⟩
    obtain ⟨rs', cs', h'⟩ := hc.only
    rw [honly, h']
  · obtain ⟨c, hc, harr⟩ := b.arrival_heard 1 live
    rw [harr] at hbeat
    obtain ⟨hrole, hpairs, hseen, ⟨rs, p, honly⟩, -, hmirror⟩ := c.beaten_standby (role := role.toNat) (mode := mode.toNat) (hc.role.trans standby)
    obtain ⟨hoff, hearly⟩ := hmirror (off.imp (fun h => h) fun h => by rw [h]; rfl)
    refine hbeat.to ⟨hc.sees hpairs (by decide) hseen, hoff, hearly, hrole, ?_⟩
    obtain ⟨rs', cs', h'⟩ := hc.only
    rw [honly, h']
  · obtain ⟨c, hc, harr⟩ := b.arrival_heard 1 live
    rw [harr] at hbeat
    obtain ⟨hboth, -⟩ := c.beaten_primary (role := role.toNat) (mode := mode.toNat) (hc.role.trans primary)
    obtain ⟨hpairs, hseen, hon, hoff, hinflight⟩ := hboth both hc.seen ((hc.pairs.flag (g := F.PAIR_STATUS_CONFLICT) (by decide)).trans fresh)
    exact hbeat.to ⟨hc.sees hpairs (by decide) hseen, hon, hoff, hinflight.trans (send_inflight_congr hc.rest.1 hc.rest.2.1 _ _ _ _)⟩
  · obtain ⟨c, hc, harr⟩ := b.arrival_heard 1 live
    rw [harr] at hbeat
    obtain ⟨-, hone⟩ := c.beaten_primary (role := role.toNat) (mode := mode.toNat) (hc.role.trans primary)
    obtain ⟨hpairs, hseen, hoff, hinflight, heng⟩ := hone other
    obtain ⟨-, hi, he, -⟩ := hc.rest
    exact hbeat.to ⟨hc.sees hpairs (by decide) hseen, hoff, hinflight.trans hi, heng.trans he⟩
  · obtain ⟨c, hc, harr⟩ := b.arrival_heard 2 live
    obtain ⟨o, ho⟩ : ∃ o, cmdOf seq.toNat commit word.toNat index.toNat (data.map BitVec.toNat) = o := ⟨_, rfl⟩
    have hvia : o.via = .mirror seq.toNat commit ∧ o.index = index.toNat ∧ o.table = word.toNat / 2 ^ 20 % 256 ∧ o.done = false := by
      rw [← ho]
      exact ⟨rfl, rfl, rfl, rfl⟩
    have hop : o.op = if commit then 2 else word.toNat / 2 ^ 28 % 16 := by rw [← ho]; rfl
    have hsmall : word.toNat / 2 ^ 28 % 16 = word.toNat / 2 ^ 28 := by
      have := word.isLt
      omega
    have hplain : o.op ≠ 6 := by
      rw [hop, hsmall]
      cases commit with
      | true =>
        rw [if_pos rfl]
        decide
      | false => exact plain.resolve_left Bool.false_ne_true
    rw [harr, ho] at hcmd
    obtain ⟨o', ⟨l, hl⟩, ht⟩ := c.commanded_turn (d := d) (hc.role.trans standby) (by rw [hc.pair]; exact none) (by rw [hc.pair]; exact turn) hplain
    rw [ht] at hcmd
    obtain ⟨m, hm⟩ : ∃ m : Block, { c with pair := { c.pair with expect := some (seq.toNat + 1), early := [] } } = m := ⟨_, rfl⟩
    have hmc : m.engine = c.engine ∧ m.regs = c.regs ∧ m.pair = { c.pair with expect := some (seq.toNat + 1), early := [] } := by
      rw [← hm]
      exact ⟨rfl, rfl, rfl⟩
    obtain ⟨hme, hmr, hmp⟩ := hmc
    rw [hm] at hcmd
    have hpair : (m.modEngine d fun e => { e with ops := e.ops ++ [o'] }).pair = m.pair := rfl
    refine hcmd.to ⟨hc.sees_of_word (Block.word_of_regs hmr _) (by rw [hpair, hmp]), by rw [hpair, hmp], by rw [hpair, hmp], fun k hk => ?_, o', ?_, ?_, ?_, ?_, ?_, fun off => ?_⟩
    · rw [Block.engine_modEngine, if_neg hk, hme, hc.engine]
    · rw [Block.engine_modEngine, if_pos rfl, hme, hc.engine]
    · rw [hl]; exact hvia.1
    · rw [hl]; exact hvia.2.1
    · rw [hl]; exact hvia.2.2.1
    · rw [hl]; exact hvia.2.2.2
    · rw [hl]
      exact hop.trans (by rw [off, if_neg Bool.false_ne_true, hsmall])
  · obtain ⟨c, hc, harr⟩ := b.arrival_heard 2 live
    have ht := c.commanded_early (d := d) (o := cmdOf seq.toNat commit word.toNat index.toNat (data.map BitVec.toNat)) (hc.role.trans standby)
      (by rw [hc.pair]; exact none) (by rw [hc.pair]; exact expects) early
    rw [harr, ht] at hcmd
    refine hcmd.to ⟨hc.sees_of_word rfl rfl, hc.rest.2.2.1, ?_, _, rfl⟩
    show c.pair.expect = some e
    rw [hc.pair]
    exact expects
  · obtain ⟨c, hc, harr⟩ := b.arrival_heard 2 live
    have ht : c.commanded seq.toNat d (cmdOf seq.toNat commit word.toNat index.toNat (data.map BitVec.toNat)) = c :=
      if_pos (by rw [hc.role, primary]; rfl)
    rw [harr, ht] at hcmd
    exact hcmd.to ⟨hc.sees_of_word rfl rfl, hc.rest.2.2.1⟩
  · obtain ⟨c, hc, harr⟩ := b.arrival_heard 3 live
    rw [harr, c.acknowledged_unknown (by rw [hc.pair]; exact none)] at hack
    exact hack.to ⟨hc.sees_of_word rfl rfl, hc.rest.2.2.1, by rw [hc.pair], hc.ctr _ (by decide)⟩
  · obtain ⟨e, he, harr⟩ := b.arrival_heard 3 live
    rw [harr, e.acknowledged_waits (by rw [he.pair]; exact found) waits] at hack
    refine hack.to ⟨he.sees_of_word rfl rfl, he.rest.2.2.1, ?_, ?_⟩
    · refine (Block.ctr_setCtr e R.PAIR_APPLIED_SEQ seq.toNat R.PAIR_APPLIED_SEQ).trans ?_
      rw [if_pos rfl]
      exact Nat.mod_eq_of_lt seq.isLt
    · rw [he.pair]
  · obtain ⟨e, he, harr⟩ := b.arrival_heard 3 live
    rw [harr] at hack
    obtain ⟨hpairs, hpair, hflag⟩ := e.acknowledged_both (status := status.toNat) (index := index.toNat) (by rw [he.pair]; exact found) own
    refine hack.to ⟨he.sees hpairs (by decide) (by rw [hpair]), by rw [hpair, he.pair], ?_⟩
    rw [hflag, he.pairs.flag (by decide)]
  · obtain ⟨c, hc, harr⟩ := b.arrival_heard 4 live
    rw [harr] at hglean
    obtain ⟨hregs, hpair, hcount, hnone, hage⟩ := c.gleaned_tells raw
    have hfind (D key : Nat) : c.emFind D T.l2 false key = b.emFind D T.l2 false key :=
      b.emFind_of_seeds (fun w _ => hc.word _ (by unfold R.TBL_EM_SEED R.PAIR_STATUS tblBase dieBase pairBase; omega)) (by rw [hc.engine]) _ _ _
    rw [hc.rest.2.2.1] at hnone hage
    rw [hc.ctr _ (by decide)] at hcount
    simp only [hfind, hc.engine] at hage
    exact hglean.to ⟨hc.sees_of_word (Block.word_of_regs hregs _) (by rw [hpair]), hcount, hnone, hage⟩
  · obtain ⟨c, hc, harr⟩ := b.arrival_heard 5 live
    rw [harr] at hfrag
    obtain ⟨hregs, hpair, hfree, hfull⟩ := c.installed_tells C (entry.map BitVec.toNat)
    obtain ⟨hticks, -, -, hclusters, -⟩ := hc.rest
    have hentry : c.fragOf (entry.map BitVec.toNat) = b.fragOf (entry.map BitVec.toNat) := by
      rw [Block.fragOf, Block.fragOf, hticks]
    have hfrags : ((c.fragExpire C).cluster C).frags = ((b.fragExpire C).cluster C).frags :=
      Block.fragExpire_congr hclusters hticks (hc.word _ (by unfold R.CLS_FRAG_CFG R.PAIR_STATUS clsBase rgnBase dieBase pairBase; omega))
    rw [hentry, hfrags] at hfree hfull
    rw [hc.ctr _ (by decide)] at hfull
    exact hfrag.to ⟨hc.sees_of_word (Block.word_of_regs hregs _) (by rw [hpair]), hfree, hfull⟩
  · obtain ⟨c, hc, harr⟩ := b.arrival_heard 6 live
    rw [harr] at htime
    have hapart (i j : Nat) (h : R.PAIR_PEER_TIME i = R.PAIR_PEER_TIME j) : i = j := by
      unfold R.PAIR_PEER_TIME at h
      omega
    obtain ⟨⟨rs, honly⟩, hwords, hothers⟩ := c.each_setWord R.PAIR_PEER_TIME (fun j => leVal (slice (body.take 33) (4 * j) (4 * j + 4))) hapart 9
    refine htime.to ⟨hc.sees_of_word (hothers _ fun j _ => ?_) (by rw [honly]), fun j hj => (hwords j hj).trans (Nat.mod_eq_of_lt ?_)⟩
    · unfold R.PAIR_PEER_TIME R.PAIR_STATUS
      omega
    · refine lt_of_lt_of_le (leVal_lt _) (Nat.pow_le_pow_right (by decide) ?_ : 256 ^ _ ≤ 256 ^ 4)
      rw [slice, List.length_take]
      omega
  · obtain ⟨c, hc, harr⟩ := b.arrival_heard 7 live
    rw [harr] at htally
    have hapart (i j : Nat) (h : R.PAIR_PEER_TALLY i = R.PAIR_PEER_TALLY j) : i = j := by
      unfold R.PAIR_PEER_TALLY at h
      omega
    obtain ⟨⟨cs, honly⟩, hctrs⟩ := c.each_setCtr R.PAIR_PEER_TALLY (fun k => (digests.map BitVec.toNat).getD k 0) hapart 20
    refine htally.to ⟨hc.sees_of_word (by rw [honly]; rfl) (by rw [honly]), fun k hk => (hctrs k hk).trans ?_⟩
    have hget : (digests.map BitVec.toNat).getD k 0 = (digests.getD k 0).toNat := by
      rw [List.getD_eq_getElem?_getD, List.getD_eq_getElem?_getD, List.getElem?_map]
      cases digests[k]? <;> rfl
    rw [hget]
    exact Nat.mod_eq_of_lt (digests.getD k 0).isLt
  · intro base
    obtain ⟨c, hc, harr⟩ := b.arrival_heard 8 live
    have hbase : c.ckptBase = base := by
      rw [Block.ckptBase, hc.word _ (by decide), hc.word _ (by decide)]
    obtain ⟨-, -, -, -, hjobs, heng, hjc⟩ := hc.rest
    rw [harr, hbase] at hckpt
    refine ⟨fun h => ?_, fun standby there busy same part => ?_⟩
    · rw [c.checkpointed_none (by rw [hc.role]; exact h)] at hckpt
      exact hckpt.to ⟨hc.sees_of_word rfl rfl, hjobs, heng⟩
    · have ht := c.checkpointed_part (base := base) (id := id.toNat) (G := g) (first := first.toNat) (raw := raw) (hc.role.trans standby) there (by rw [heng]; exact busy)
        (by rw [hc.pair]; exact same) (by rw [hc.pair]; exact part)
      rw [ht] at hckpt
      refine hckpt.to ⟨hc.sees_of_word rfl rfl, ?_, ?_, ?_⟩
      · dsimp only
        rw [hc.pair]
      · dsimp only
        rw [hc.pair]
      · dsimp only
        rw [hjobs, hjc, hc.pair]
        rfl
  · obtain ⟨c, hc, harr⟩ := b.arrival_heard 9 live
    have ht : c.handedOver seq.toNat = c := if_pos (by rw [hc.role, primary]; rfl)
    rw [harr, ht] at hhand
    exact hhand.to ⟨hc.sees_of_word rfl rfl, hc.role.trans primary, hc.rest.2.1⟩
  · obtain ⟨c, hc, harr⟩ := b.arrival_heard 9 live
    obtain ⟨m, hm, ht⟩ := c.handedOver_standby (seq := seq.toNat) (hc.role.trans standby) (by rw [hc.pair]; exact idle)
    obtain ⟨hticks, hinflight, heng, -⟩ := hc.rest
    have hleft : m.mirrorsLeft = b.mirrorsLeft := Block.mirrorsLeft_congr (by rw [hm]; exact heng)
    have h := (m.promoteStart_tells (some seq.toNat)).1 (hleft.trans done) (fun s hs e he => by
      obtain rfl := Option.some.inj hs
      refine all e ?_
      rw [hm] at he
      dsimp only at he
      rw [hc.pair] at he
      exact he)
    obtain ⟨hpeer, hsolo, hseen⟩ := h.peer
    have hmc : m.regs = c.regs := by rw [hm]
    obtain ⟨hi, hconf⟩ := h.alone (.inr (by rw [hm]; exact (by decide : roleStandby ≠ rolePrimary)))
    rw [harr, ht] at hhand
    refine hhand.to ⟨⟨hpeer.trans ((Block.flag_of_regs hmc _ _).trans hc.seen), hsolo.trans ((Block.flag_of_regs hmc _ _).trans hc.solo), ?_⟩, h.role, h.draining, hconf, h.seen, ?_, ?_⟩
    · rw [hseen, hm]
      dsimp only
      rw [hc.pair]
    · rw [h.epoch, Block.word_of_regs hmc, hc.word _ (by decide)]
    · rw [hi]
      exact send_inflight_congr (by rw [hm]; exact hticks) (by rw [hm]; exact hinflight) _ _ _ _
  · obtain ⟨c, hc, harr⟩ := b.arrival_heard 9 live
    obtain ⟨m, hm, ht⟩ := c.handedOver_standby (seq := seq.toNat) (hc.role.trans standby) (by rw [hc.pair]; exact idle)
    obtain ⟨hticks, hinflight, heng, -⟩ := hc.rest
    have hleft' : m.mirrorsLeft = b.mirrorsLeft := Block.mirrorsLeft_congr (by rw [hm]; exact heng)
    obtain ⟨hpairs, hon, hpair, hi⟩ := (m.promoteStart_tells (some seq.toNat)).2 (hleft'.trans left)
    have hcm : c.Pairs [F.PAIR_STATUS_DRAINING] m := .of_regs (by rw [hm])
    have hall := hcm.trans hpairs
    rw [harr, ht] at hhand
    refine hhand.to ⟨hc.sees hall (by decide) (by rw [hpair, hm]), (hall.fld F.PAIR_STATUS_ROLE (by decide)).trans (hc.role.trans standby), hon, by rw [hpair], by rw [hpair], ?_⟩
    rw [hi, hm]
    exact hinflight
  · have ht : b.msgErr = b.count R.PAIR_MSG_ERR 1 := if_neg (by
      rw [not_or, Bool.not_eq_false] at live
      simp [live.1, live.2])
    rw [ht] at herr
    obtain ⟨cs, hcs⟩ : b.Counted (b.count R.PAIR_MSG_ERR 1) := (Block.Counted.refl b).count _ _
    refine herr.to ⟨Block.ctr_count_same _ _ _ (b.stopped_inst (by decide)), ?_⟩
    rw [hcs]

end Sys2Proof.Machine
end

section
/-!
PROOFS. The ingress stages (R175): what the work of a stage leaves as it was, whatever it finds, and the reads that banks serve (R201,
R249); and O14 from these.
-/
namespace Sys2Proof.Machine
open Sys2Proof

variable {b c d : Block}

/-- From b to c a stage has worked on frame i: its place and its bytes, the other frames, the registers and the FIFOs are as they were. -/
structure Block.Stages (i : Nat) (b c : Block) : Prop where
  stage : (c.frame i).stage = (b.frame i).stage
  bytes : (c.frame i).bytes = (b.frame i).bytes
  hv : (c.frame i).hv = (b.frame i).hv
  loc : (c.frame i).loc = (b.frame i).loc
  others : ∀ j, j ≠ i → c.frame j = b.frame j
  regs : c.regs = b.regs
  slow : c.slow = b.slow
  fifos : c.fifos = b.fifos

namespace Block.Stages
variable {i : Nat}

theorem refl (b : Block) : b.Stages i b := ⟨rfl, rfl, rfl, rfl, fun _ _ => rfl, rfl, rfl, rfl⟩

theorem trans (h : b.Stages i c) (k : c.Stages i d) : b.Stages i d :=
  ⟨k.stage.trans h.stage, k.bytes.trans h.bytes, k.hv.trans h.hv, k.loc.trans h.loc, fun j hj => (k.others j hj).trans (h.others j hj),
    k.regs.trans h.regs, k.slow.trans h.slow, k.fifos.trans h.fifos⟩

theorem of_frames (h : b.Stages i c) (frames : d.frames = c.frames) (regs : d.regs = c.regs) (slow : d.slow = c.slow)
    (fifos : d.fifos = c.fifos) : b.Stages i d := by
  have same (j : Nat) : d.frame j = c.frame j := by rw [Block.frame, frames, ← Block.frame]
  exact h.trans ⟨by rw [same], by rw [same], by rw [same], by rw [same], fun j _ => same j, regs, slow, fifos⟩

theorem modFrame (h : b.Stages i c) {g : Frame → Frame}
    (keeps : ∀ f, (g f).stage = f.stage ∧ (g f).bytes = f.bytes ∧ (g f).hv = f.hv ∧ (g f).loc = f.loc) : b.Stages i (c.modFrame i g) := by
  have mine : (c.modFrame i g).frame i = g (c.frame i) := by rw [Block.frame_modFrame, if_pos rfl]
  obtain ⟨stage, bytes, hv, loc⟩ := keeps (c.frame i)
  exact h.trans ⟨by rw [mine, stage], by rw [mine, bytes], by rw [mine, hv], by rw [mine, loc],
    fun j hj => by rw [Block.frame_modFrame, if_neg hj], rfl, rfl, rfl⟩

theorem count (h : b.Stages i c) (a n : Nat) : b.Stages i (c.count a n) :=
  h.of_frames (c.count_frames a n) (c.count_regs a n) (c.count_slow a n) (c.count_fifos a n)
theorem pmc (h : b.Stages i c) (u : PUnit) (e q n : Nat) : b.Stages i (c.pmc u e q n) :=
  h.of_frames (c.pmc_frames u e q n) (c.pmc_regs u e q n) (c.pmc_slow u e q n) (c.pmc_fifos u e q n)
theorem sendLimited (h : b.Stages i c) (x t j k y r z : Nat) : b.Stages i (c.sendLimited x t j k y r z) :=
  h.of_frames (c.sendLimited_frames ..) (c.sendLimited_regs ..) (c.sendLimited_slow ..) (c.sendLimited_fifos ..)
theorem shaix (h : b.Stages i c) (t : Nat) (l : List Byte) : b.Stages i (c.shaix t l) :=
  h.of_frames (c.shaix_frames t l) (c.shaix_regs t l) (c.shaix_slow t l) (c.shaix_fifos t l)
theorem modRegion (h : b.Stages i c) (G : Nat) (g : Region → Region) : b.Stages i (c.modRegion G g) := h.of_frames rfl rfl rfl rfl
theorem modEngine (h : b.Stages i c) (e : Nat) (g : Engine → Engine) : b.Stages i (c.modEngine e g) := h.of_frames rfl rfl rfl rfl
theorem modCluster (h : b.Stages i c) (C : Nat) (g : Cluster → Cluster) : b.Stages i (c.modCluster C g) := h.of_frames rfl rfl rfl rfl
theorem setRec (h : b.Stages i c) (r : Vec) : b.Stages i (c.setRec i r) := h.modFrame fun _ => ⟨rfl, rfl, rfl, rfl⟩
theorem setCarry (h : b.Stages i c) (r : Vec) : b.Stages i (c.setCarry i r) := h.modFrame fun _ => ⟨rfl, rfl, rfl, rfl⟩
theorem emStamp (h : b.Stages i c) (e g s : Nat) : b.Stages i (c.emStamp e g s) := h.modEngine e _
theorem rcount (h : b.Stages i c) (f : Frame) (a : Nat → Nat) : b.Stages i (c.rcount f a) := h.count _ _

theorem missAct (h : b.Stages i c) (m reason : Nat) : b.Stages i (c.missAct i m reason) := by
  unfold Block.missAct
  split
  · exact h.modFrame fun _ => ⟨rfl, rfl, rfl, rfl⟩
  · exact h.modFrame fun _ => ⟨rfl, rfl, rfl, rfl⟩
  · exact h

theorem glOffer (h : b.Stages i c) (e key port : Nat) : b.Stages i (c.glOffer e key port) := by
  unfold Block.glOffer
  extract_lets q mine
  split
  · exact h.modEngine _ _
  · split
    · exact (h.count _ _).sendLimited ..
    · exact h.modEngine _ _

theorem sourceResult (h : b.Stages i c) (f : Frame) (key : Nat) : b.Stages i (c.sourceResult f key) := by
  unfold Block.sourceResult
  extract_lets p e hit c' home move
  have h' : b.Stages i c' := by
    show b.Stages i (match hit with | some (s, _) => c.emStamp e (rgnOfPort p % 2) s | none => c)
    cases hit with
    | some x => exact h.emStamp _ _ _
    | none => exact h
  clear_value c' hit
  split
  · exact h'
  · cases hit with
    | none => exact h'.glOffer _ _ _
    | some x =>
      dsimp only
      split
      · exact h'.glOffer _ _ _
      · split
        · exact h'.glOffer _ _ _
        · exact h'

theorem s1Hit (h : b.Stages i c) (s : Nat) (x : EmEntry) (label : Bool) : b.Stages i (c.s1Hit i s x label) :=
  ((h.setRec _).setCarry _).emStamp _ _ _

theorem noDest (h : b.Stages i c) : b.Stages i (c.noDest i) := h.modFrame fun _ => ⟨rfl, rfl, rfl, rfl⟩

theorem nextHop (h : b.Stages i c) (n : Nat) : b.Stages i (c.nextHop i n) := by
  unfold Block.nextHop
  dsimp only
  split
  · exact h.noDest
  · split <;> exact h.setRec _

theorem ecmp (h : b.Stages i c) : b.Stages i (c.ecmp i) := by
  unfold Block.ecmp
  dsimp only
  split
  · exact h.noDest
  · exact h.nextHop _

theorem mcast (h : b.Stages i c) : b.Stages i (c.mcast i) := by
  unfold Block.mcast
  dsimp only
  split
  · exact h.noDest
  · exact h.modFrame fun _ => ⟨rfl, rfl, rfl, rfl⟩

theorem resolve (h : b.Stages i c) : b.Stages i (c.resolve i) := by
  unfold Block.resolve
  extract_lets f act c'
  have h' : b.Stages i c' := h.modFrame fun _ => ⟨rfl, rfl, rfl, rfl⟩
  clear_value c'
  split
  · exact h
  · split
    · split
      · exact h.noDest
      · exact h
    · split
      · exact h'.nextHop _
      · exact h'.ecmp
      · exact h'.mcast

theorem fragExpire (h : b.Stages i c) (C : Nat) : b.Stages i (c.fragExpire C) := by
  unfold Block.fragExpire
  dsimp only
  split
  · exact h
  · exact (h.modCluster C _).count _ _

theorem fragAtS5 (h : b.Stages i c) : b.Stages i (c.fragAtS5 i) := by
  unfold Block.fragAtS5
  extract_lets f C
  clear_value f
  split
  case h_1 e _ _ _ =>
    have he : b.Stages i e := h.fragExpire C
    clear_value e
    split
    · split
      · exact (he.modCluster _ _).shaix _ _
      · exact he
    · exact he
  case h_2 e _ _ =>
    split
    · exact h
    · have he : b.Stages i e := h.fragExpire C
      clear_value e
      split
      · exact (he.count _ _).modFrame fun _ => ⟨rfl, rfl, rfl, rfl⟩
      · split
        · exact (he.count _ _).modFrame fun _ => ⟨rfl, rfl, rfl, rfl⟩
        case isFalse =>
          extract_lets found act
          have taken : b.Stages i found := (he.count _ _).modFrame fun _ => ⟨rfl, rfl, rfl, rfl⟩
          clear_value found
          split
          · exact taken.mcast
          · exact taken

theorem police (h : b.Stages i c) : b.Stages i (c.police i) := by
  unfold Block.police
  extract_lets f G x e bytes need inCol t r filled coloured counted tallied drop
  clear_value G x e r drop
  have hm : b.Stages i tallied :=
    ((((h.modRegion G _).modFrame (g := fun f => { f with rec_ := Vec.put f.rec_ 1 D.colour r.1 }) fun _ => ⟨rfl, rfl, rfl, rfl⟩).count _ _).pmc
      _ _ _ _)
  clear_value tallied
  split
  · exact h.count _ _
  · split
    · exact (hm.count _ _).modFrame fun _ => ⟨rfl, rfl, rfl, rfl⟩
    · exact hm

theorem countPair (h : b.Stages i c) (G x n : Nat) : b.Stages i (c.countPair G x n) := h.modRegion G _

theorem cascSearch {α : Type} (h : b.Stages i c) (x e : Nat) (f : Block → Option α) : b.Stages i (c.cascSearch x e f).2 := by
  unfold Block.cascSearch
  split
  · exact h.count _ _
  · exact h

theorem cascFind {α : Type} (x : Nat) (f : Nat → Block → Option α) (l : List Nat) {c : Block} (h : b.Stages i c) :
    b.Stages i (Block.cascFind x f l c).2 := by
  induction l generalizing c with
  | nil => exact h
  | cons e es ih => exact ih (h.cascSearch x e _)

theorem lpmSearch (h : b.Stages i c) (e fam vrf addr : Nat) : b.Stages i (c.lpmSearch e fam vrf addr).2 := h.cascFind _ _ _

theorem aclGroup (h : b.Stages i c) (f : Frame) (C n prof : Nat) : b.Stages i (c.aclGroup f C n prof).2 := by
  unfold Block.aclGroup
  dsimp only
  split
  · exact h.cascSearch _ _ _
  · exact h.cascFind _ _ _

end Block.Stages
/-! ## The reads of a search -/

/-- Banks that serve reads change their turns and what they count, and nothing else. -/
def Block.BanksServe (b c : Block) : Prop := ∃ gs cs, c = { b with regions := gs, ctrs := cs }

theorem Block.serveAsk_banks (b : Block) (p : Nat) (a : Ask) : b.BanksServe (b.serveAsk p a) := by
  unfold Block.serveAsk
  extract_lets G l c
  have hc : b.BanksServe c := ⟨c.regions, b.ctrs, rfl⟩
  clear_value c
  obtain ⟨gs, cs, rfl⟩ := hc
  cases a with
  | em s => exact ⟨gs, cs, rfl⟩
  | lpm e k => exact ⟨gs, _, by dsimp only; rw [Block.pmc_only, Block.count_only]⟩
  | acl e c u k => exact ⟨gs, cs, rfl⟩

theorem Block.askOne_banks (b : Block) (i p : Nat) (a : Ask) : b.BanksServe (b.askOne i p a).2 := by
  unfold Block.askOne
  dsimp only
  split
  · exact ⟨b.regions, b.ctrs, rfl⟩
  · split
    · exact b.serveAsk_banks p a
    · exact ⟨b.regions, b.ctrs, rfl⟩

theorem Block.BanksServe.trans (h : b.BanksServe c) (k : c.BanksServe d) : b.BanksServe d := by
  obtain ⟨gs, cs, rfl⟩ := h
  obtain ⟨gs', cs', rfl⟩ := k
  exact ⟨gs', cs', rfl⟩

/-- The reads of frame i that are left when its banks have served what they can, and the block then. -/
def Block.askEach (b : Block) (i : Nat) (l : List Ask) : List Ask × Block :=
  ((b.frame i).asks.getD l).foldl (fun (acc : List Ask × Block) a =>
    let o := acc.2.askOne i (b.frame i).port a
    (if o.1 then acc.1 else acc.1 ++ [a], o.2)) ([], b)

theorem Block.askEach_banks (b : Block) (i : Nat) (l : List Ask) : b.BanksServe (b.askEach i l).2 := by
  have each (l : List Ask) (acc : List Ask × Block) (h : b.BanksServe acc.2) :
      b.BanksServe (l.foldl (fun (acc : List Ask × Block) a =>
        let o := acc.2.askOne i (b.frame i).port a
        (if o.1 then acc.1 else acc.1 ++ [a], o.2)) acc).2 := by
    induction l generalizing acc with
    | nil => exact h
    | cons a l ih => exact ih _ (h.trans (Block.askOne_banks _ _ _ _))
  exact each _ _ ⟨b.regions, b.ctrs, rfl⟩

theorem Block.askAll_eq (b : Block) (i : Nat) (l : List Ask) : b.askAll i l =
    if (b.askEach i l).1.isEmpty then
      (true, if (b.frame i).asks.isNone then (b.askEach i l).2 else (b.askEach i l).2.modFrame i fun f => { f with asks := none })
    else (false, (b.askEach i l).2.modFrame i fun f => { f with asks := some (b.askEach i l).1 }) := rfl

theorem Block.askAll_served {i : Nat} {l : List Ask} (served : (b.askAll i l).1 = true) : ∃ c, b.BanksServe c ∧
    (b.askAll i l).2 = if (b.frame i).asks.isNone then c else c.modFrame i fun f => { f with asks := none } := by
  refine ⟨(b.askEach i l).2, b.askEach_banks i l, ?_⟩
  rw [Block.askAll_eq] at served ⊢
  by_cases none : (b.askEach i l).1.isEmpty = true
  · rw [if_pos none]
  · rw [if_neg none] at served
    cases served

theorem Block.askAll_waits {i : Nat} {l : List Ask} (waits : (b.askAll i l).1 = false) : ∃ c r, b.BanksServe c ∧
    (b.askAll i l).2 = c.modFrame i fun f => { f with asks := some r } := by
  refine ⟨(b.askEach i l).2, (b.askEach i l).1, b.askEach_banks i l, ?_⟩
  rw [Block.askAll_eq] at waits ⊢
  by_cases none : (b.askEach i l).1.isEmpty = true
  · rw [if_pos none] at waits
    cases waits
  · rw [if_neg none]

theorem Block.BanksServe.stages (h : b.BanksServe c) (i : Nat) : b.Stages i c := by
  obtain ⟨gs, cs, rfl⟩ := h
  exact (Block.Stages.refl b).of_frames rfl rfl rfl rfl

theorem Block.askAll_stages {i : Nat} {l : List Ask} (served : (b.askAll i l).1 = true) : b.Stages i (b.askAll i l).2 := by
  obtain ⟨c, hc, e⟩ := Block.askAll_served served
  rw [e]
  split
  · exact hc.stages i
  · exact (hc.stages i).modFrame fun _ => ⟨rfl, rfl, rfl, rfl⟩

/-! ## The work of a stage -/

section Runs
variable {p n i : Nat} {f : Frame} {reads : Frame → List Ask} {g : Nat → Frame → Block → Block}

theorem Block.stage_runs (live : b.frozen (dieOfPort p) = false) (there : b.atStage p n = some (i, f)) :
    b.stage p n g = g i f (b.modFrame i fun x => { x with stage := n + 1 }) := by
  rw [Block.stage, if_neg (ne_true_of_eq_false live), there]

theorem Block.stage_idle (idle : b.frozen (dieOfPort p) = true ∨ b.atStage p n = none) : b.stage p n g = b := by
  rw [Block.stage]
  by_cases held : b.frozen (dieOfPort p) = true
  · rw [if_pos held]
  · rw [if_neg held, idle.resolve_left held]

theorem Block.searchStage_idle (idle : b.frozen (dieOfPort p) = true ∨ b.atStage p n = none) : b.searchStage p n reads g = b := by
  rw [Block.searchStage]
  by_cases held : b.frozen (dieOfPort p) = true
  · rw [if_pos held]
  · rw [if_neg held, idle.resolve_left held]

theorem Block.searchStage_waits (live : b.frozen (dieOfPort p) = false) (there : b.atStage p n = some (i, f))
    (waits : (b.askAll i (reads f)).1 = false) : b.searchStage p n reads g = (b.askAll i (reads f)).2 := by
  rw [Block.searchStage, if_neg (ne_true_of_eq_false live), there]
  exact if_neg (ne_true_of_eq_false waits)

theorem Block.searchStage_runs (live : b.frozen (dieOfPort p) = false) (there : b.atStage p n = some (i, f))
    (served : (b.askAll i (reads f)).1 = true) :
    b.searchStage p n reads g = g i f ((b.askAll i (reads f)).2.modFrame i fun x => { x with stage := n + 1 }) := by
  rw [Block.searchStage, if_neg (ne_true_of_eq_false live), there]
  exact if_pos served

end Runs

/-- A frame of stage n has gone on to the next one, with its bytes, and nothing else of the block that waits or forwards has changed. -/
def Block.PassedOn (b t : Block) (n i : Nat) (f : Frame) : Prop :=
  (t.frame i).stage = n + 1 ∧ (t.frame i).bytes = f.bytes ∧ (t.frame i).hv = f.hv ∧ (t.frame i).loc = f.loc ∧
  (∀ j, j ≠ i → t.frame j = b.frame j) ∧ t.regs = b.regs ∧ t.slow = b.slow ∧ t.fifos = b.fifos

/-- What R175 says of a stage whose command is x and whose search reads `reads`. -/
def Block.StageTells (b : Block) (p : Nat) (n : Nat) (x : Instr) (reads : Frame → List Ask) : Prop :=
  (b.frozen (dieOfPort p) = true ∨ b.atStage p n = none → Takes x b b) ∧
  ∀ (i : Nat) (f : Frame), b.frozen (dieOfPort p) = false → b.atStage p n = some (i, f) → b.frame i = f →
    (n ∈ [1, 2, 3, 4] → (b.askAll i (reads f)).1 = false →
      TakesTo x b fun t =>
        t.frame i = { f with asks := (t.frame i).asks } ∧ (t.frame i).asks ≠ none ∧ (∀ j, j ≠ i → t.frame j = b.frame j) ∧
        t.regs = b.regs ∧ t.slow = b.slow ∧ t.fifos = b.fifos ∧ t.engines = b.engines) ∧
    (n ∈ [0, 5, 6] ∨ (b.askAll i (reads f)).1 = true → TakesTo x b fun t => b.PassedOn t n i f)

theorem Block.Stages.passedOn {i n : Nat} {f : Frame} (h : b.Stages i c) (hf : b.frame i = f) {g : Nat → Frame → Block → Block}
    (keeps : (c.modFrame i fun x => { x with stage := n + 1 }).Stages i (g i f (c.modFrame i fun x => { x with stage := n + 1 }))) :
    b.PassedOn (g i f (c.modFrame i fun x => { x with stage := n + 1 })) n i f := by
  have mine : (c.modFrame i fun x => { x with stage := n + 1 }).frame i = { c.frame i with stage := n + 1 } := by
    rw [Block.frame_modFrame, if_pos rfl]
  refine ⟨by rw [keeps.stage, mine], by rw [keeps.bytes, mine, ← hf, ← h.bytes], by rw [keeps.hv, mine, ← hf, ← h.hv],
    by rw [keeps.loc, mine, ← hf, ← h.loc], fun j hj => ?_, keeps.regs.trans h.regs, keeps.slow.trans h.slow, keeps.fifos.trans h.fifos⟩
  rw [keeps.others j hj, Block.frame_modFrame, if_neg hj, h.others j hj]

/-- A stage without a search runs as soon as a frame is there. -/
theorem Block.stageTells_of_stage {p n : Nat} {x : Instr} {g : Nat → Frame → Block → Block} (takes : Takes x b (b.stage p n g))
    (off : n ∉ [1, 2, 3, 4]) (keeps : ∀ (i : Nat) (f : Frame) (c : Block), c.Stages i (g i f c)) : b.StageTells p n x fun _ => [] := by
  refine ⟨fun idle => takes_congr takes (Block.stage_idle idle), fun i f live there hf => ⟨fun on => absurd on off, fun _ => ?_⟩⟩
  exact (takes_congr takes (Block.stage_runs live there)).to ((Block.Stages.refl b).passedOn hf (keeps i f _))

/-- One with a search runs when the banks have served it. -/
theorem Block.stageTells_of_searchStage {p n : Nat} {x : Instr} {reads : Frame → List Ask} {g : Nat → Frame → Block → Block}
    (takes : Takes x b (b.searchStage p n reads g)) (on : n ∉ [0, 5, 6]) (keeps : ∀ (i : Nat) (f : Frame) (c : Block), c.Stages i (g i f c)) :
    b.StageTells p n x reads := by
  refine ⟨fun idle => takes_congr takes (Block.searchStage_idle idle), fun i f live there hf => ⟨fun _ waits => ?_, fun served => ?_⟩⟩
  · obtain ⟨c, r, ⟨gs, cs, rfl⟩, e⟩ := Block.askAll_waits waits
    refine (takes_congr takes (Block.searchStage_waits live there waits)).to ?_
    rw [e]
    have mine (c : Block) : (c.modFrame i fun f => { f with asks := some r }).frame i = { c.frame i with asks := some r } := by
      rw [Block.frame_modFrame, if_pos rfl]
    refine ⟨by rw [mine, ← hf]; rfl, by rw [mine]; exact Option.some_ne_none r, fun j hj => ?_, rfl, rfl, rfl, rfl⟩
    rw [Block.frame_modFrame, if_neg hj]
    rfl
  · have served := served.resolve_left on
    exact (takes_congr takes (Block.searchStage_runs live there served)).to ((Block.askAll_stages served).passedOn hf (keeps i f _))

/-! ## The stages -/

theorem Block.s0_tells (b : Block) (p : Fin 256) : b.StageTells p 0 (.lookupS0 p) fun _ => [] := by
  have takes : Takes (.lookupS0 p) b (b.lookupS0 p) := fun _ => rfl
  unfold Block.lookupS0 at takes
  exact Block.stageTells_of_stage takes (by decide) fun i f c =>
    (((Block.Stages.refl c).pmc _ _ _ _).pmc _ _ _ _).modFrame fun _ => ⟨rfl, rfl, rfl, rfl⟩

theorem Block.s1_tells (b : Block) (p : Fin 256) : b.StageTells p 1 (.lookupS1 p) b.s1Asks := by
  have takes : Takes (.lookupS1 p) b (b.lookupS1 p) := fun _ => rfl
  unfold Block.lookupS1 at takes
  refine Block.stageTells_of_searchStage takes (by decide) fun i f c => ?_
  dsimp only
  split
  · exact .refl c
  · split
    · exact .refl c
    · have labelled (label : Bool) : c.Stages i (c.modFrame i fun f => { f with label := label }) :=
        (Block.Stages.refl c).modFrame fun _ => ⟨rfl, rfl, rfl, rfl⟩
      split
      · exact (labelled _).s1Hit _ _ _
      · split
        · exact ((labelled _).rcount _ _).missAct _ _
        · exact ((labelled _).rcount _ _).missAct _ _

theorem Block.s2_tells (b : Block) (p : Fin 256) : b.StageTells p 2 (.lookupS2 p) b.s2Asks := by
  have takes : Takes (.lookupS2 p) b (b.lookupS2 p) := fun _ => rfl
  unfold Block.lookupS2 at takes
  refine Block.stageTells_of_searchStage takes (by decide) fun i f c => ?_
  dsimp only
  split
  · exact .refl c
  · refine Block.Stages.sourceResult ?_ _ _
    split
    · exact ((Block.Stages.refl c).setRec _).setCarry _
    · exact ((Block.Stages.refl c).rcount _ _).missAct _ _

theorem Block.s3_tells (b : Block) (p : Fin 256) : b.StageTells p 3 (.lookupS3 p) b.s3Asks := by
  have takes : Takes (.lookupS3 p) b (b.lookupS3 p) := fun _ => rfl
  unfold Block.lookupS3 at takes
  refine Block.stageTells_of_searchStage takes (by decide) fun i f c => ?_
  dsimp only
  split
  · exact .refl c
  · split
    · exact (((((Block.Stages.refl c).lpmSearch _ _ _ _).setRec _).setCarry _).emStamp _ _ _).pmc _ _ _ _
    · exact ((((Block.Stages.refl c).lpmSearch _ _ _ _).setRec _).setCarry _).pmc _ _ _ _
    · exact (((Block.Stages.refl c).lpmSearch _ _ _ _).rcount _ _).missAct _ _

theorem Block.s4_tells (b : Block) (p : Fin 256) : b.StageTells p 4 (.lookupS4 p) b.s4Asks := by
  have takes : Takes (.lookupS4 p) b (b.lookupS4 p) := fun _ => rfl
  unfold Block.lookupS4 at takes
  refine Block.stageTells_of_searchStage takes (by decide) fun i f c => ?_
  dsimp only
  split
  · exact .refl c
  · refine foldl_inv (P := fun t => c.Stages i t) _ (.refl c) fun t n _ ht => ?_
    split
    · exact ht
    · have searched := (ht.pmc (.cls (clsOfPort p)) 0x06 n 1).aclGroup f (clsOfPort p) n
        (aclProf (c.word (R.CLS_ACL_SET (clsOfPort p) (Vec.f f.carry 3 Cy.aclSet))) n)
      split
      · exact searched
      · exact ((searched.pmc _ _ _ _).setRec _).setCarry _

theorem Block.s5_tells (b : Block) (p : Fin 256) : b.StageTells p 5 (.lookupS5 p) fun _ => [] := by
  have takes : Takes (.lookupS5 p) b (b.lookupS5 p) := fun _ => rfl
  unfold Block.lookupS5 at takes
  exact Block.stageTells_of_stage takes (by decide) fun i f c => (Block.Stages.refl c).resolve.fragAtS5

theorem Block.s6_tells (b : Block) (p : Fin 256) : b.StageTells p 6 (.lookupS6 p) fun _ => [] := by
  have takes : Takes (.lookupS6 p) b (b.lookupS6 p) := fun _ => rfl
  unfold Block.lookupS6 at takes
  refine Block.stageTells_of_stage takes (by decide) fun i f c => ?_
  extract_lets pol cnt hit metered
  have h1 : c.Stages i hit := by
    show c.Stages i (if pol || cnt then c.setCarry i (setHit f.carry 6) else c)
    split
    · exact (Block.Stages.refl c).setCarry _
    · exact .refl c
  have h2 : c.Stages i metered := by
    show c.Stages i (if pol then hit.police i else hit)
    split
    · exact h1.police
    · exact h1
  split
  · exact h2.countPair _ _ _
  · exact h2

/-- Settles O14: each stage does its work on the frame that it takes, and what the work leaves as it was is said once (`Block.Stages`). -/
theorem stagesPassFramesOnInOrder : Obligations.StagesPassFramesOnInOrder := by
  unfold Obligations.StagesPassFramesOnInOrder
  intro b p x hx
  suffices h : b.StageTells p x.1 x.2.1 x.2.2 from h
  simp only [List.mem_cons, List.not_mem_nil, or_false] at hx
  obtain rfl | rfl | rfl | rfl | rfl | rfl | rfl := hx
  · exact b.s0_tells p
  · exact b.s1_tells p
  · exact b.s2_tells p
  · exact b.s3_tells p
  · exact b.s4_tells p
  · exact b.s5_tells p
  · exact b.s6_tells p

end Sys2Proof.Machine
end

section
/-!
PROOFS. S5 resolves and S6 meters (R185, R259 to R264, R142, R143, R334 to R337, R505): the fields of vectors, what a stage leaves in the
frame that it took; and O16 from these.
-/
namespace Sys2Proof.Machine
open Sys2Proof

variable {b c d : Block}

/-! ## The fields of a vector -/

theorem Bf.of_mod (f : Bf) (w : Nat) (h : f.hi < 32) (ordered : f.lo ≤ f.hi) : f.of (w % 2 ^ 32) = f.of w := by
  have whole : 2 ^ 32 = 2 ^ f.lo * 2 ^ (32 - f.lo) := by
    rw [← Nat.pow_add]
    congr 1
    omega
  rw [Bf.of, Bf.of, whole, Nat.mod_mul_right_div_self]
  exact Nat.mod_mod_of_dvd _ (Nat.pow_dvd_pow 2 (by omega))

section Vecs
variable (v : Vec) (i x : Nat)

theorem Vec.w_set_same : (v.set i x).w i = x % 2 ^ 32 := SMap.get_set_same _ _ _ _
theorem Vec.w_set_other {j : Nat} (h : j ≠ i) : (v.set i x).w j = v.w j := SMap.get_set_other _ _ _ h
theorem Vec.f_put_other {f g : Bf} {j : Nat} (h : j ≠ i) : (v.put i f x).f j g = v.f j g := congrArg g.of (v.w_set_other i _ h)
theorem Vec.f_put_same {f : Bf} (h : f.hi < 32) (ordered : f.lo ≤ f.hi) : (v.put i f x).f i f = x % 2 ^ (f.hi + 1 - f.lo) := by
  rw [Vec.f, Vec.put, Vec.w_set_same, Bf.of_mod _ _ h ordered, Bf.of_put_same]
theorem Vec.f_put_apart {f g : Bf} (h : g.hi < 32) (ordered : f.lo ≤ f.hi) (apart : f.apart g = true) : (v.put i f x).f i g = v.f i g := by
  rw [Bf.apart_iff] at apart
  obtain ⟨hg, above | below⟩ := apart
  · rw [Vec.f, Vec.put, Vec.w_set_same, Bf.of_mod _ _ h hg, Bf.of_put_above _ _ _ _ above ordered, ← Vec.f]
  · rw [Vec.f, Vec.put, Vec.w_set_same, Bf.of_mod _ _ h hg, Bf.of_put_below _ _ _ _ below hg, ← Vec.f]

end Vecs

/-! ## S5 (R185, R259 to R264) -/

/-- From b to c nothing but frames has changed, and frame i is y there. -/
def Block.Showing (b : Block) (i : Nat) (y : Frame) (c : Block) : Prop := c.frame i = y ∧ ∃ fs, c = { b with frames := fs }

theorem Block.showing_modFrame (b : Block) (i : Nat) (g : Frame → Frame) : b.Showing i (g (b.frame i)) (b.modFrame i g) :=
  ⟨by rw [Block.frame_modFrame, if_pos rfl], _, rfl⟩

namespace Block.Showing
variable {i : Nat} {y : Frame}

theorem modFrame (h : b.Showing i y c) (g : Frame → Frame) : b.Showing i (g y) (c.modFrame i g) := by
  obtain ⟨rfl, fs, rfl⟩ := h
  exact ⟨by rw [Block.frame_modFrame, if_pos rfl], _, rfl⟩

theorem only (h : b.Showing i y c) : c = { b with frames := c.frames } := by
  obtain ⟨-, fs, rfl⟩ := h
  rfl

end Block.Showing

/-- A frame that S5 drops. -/
def Frame.undelivered (f : Frame) : Frame := { f with rec_ := Vec.put f.rec_ 0 D.act 1, dropBy := 1 }

/-- A frame that a next hop resolves (R259). -/
def Frame.hop (f : Frame) (e : Vec) : Frame :=
  if Vec.f e 0 ⟨31, 31⟩ = 0 then f.undelivered
  else match Vec.f e 0 ⟨30, 29⟩ with
    | 0 => { f with rec_ := (Vec.put f.rec_ 0 D.egPort (Vec.f e 0 ⟨25, 18⟩)).put 2 D.rewriteIdx (Vec.f e 0 ⟨17, 0⟩) }
    | 1 => { f with rec_ := Vec.put f.rec_ 0 D.act 1 }
    | _ => { f with rec_ := (Vec.put f.rec_ 0 D.act 2).put 0 D.hostCode (Vec.f e 1 ⟨31, 24⟩) }

namespace Block.Showing
variable {i : Nat} {y : Frame}

theorem nextHop (h : b.Showing i y c) (n : Nat) : b.Showing i (y.hop (b.entry (dieOfPort y.port) T.nexthop n)) (c.nextHop i n) := by
  obtain ⟨hy, fs, hc⟩ := id h
  have he : c.entry (dieOfPort y.port) T.nexthop n = b.entry (dieOfPort y.port) T.nexthop n := by rw [hc]; rfl
  unfold Block.nextHop Frame.hop
  dsimp only
  rw [hy, he]
  generalize b.entry (dieOfPort y.port) T.nexthop n = e
  by_cases valid : Vec.f e 0 ⟨31, 31⟩ = 0
  · rw [if_pos valid, if_pos (beq_iff_eq.mpr valid)]
    exact h.modFrame _
  · rw [if_neg valid, if_neg (by simpa using valid)]
    obtain h0 | h1 | ⟨k, h2⟩ : Vec.f e 0 ⟨30, 29⟩ = 0 ∨ Vec.f e 0 ⟨30, 29⟩ = 1 ∨ ∃ k, Vec.f e 0 ⟨30, 29⟩ = k + 2 := by
      obtain h | h | h : Vec.f e 0 ⟨30, 29⟩ = 0 ∨ Vec.f e 0 ⟨30, 29⟩ = 1 ∨ 2 ≤ Vec.f e 0 ⟨30, 29⟩ := by omega
      · exact .inl h
      · exact .inr (.inl h)
      · exact .inr (.inr ⟨Vec.f e 0 ⟨30, 29⟩ - 2, by omega⟩)
    · rw [h0]
      exact h.modFrame _
    · rw [h1]
      exact h.modFrame _
    · rw [h2]
      exact h.modFrame _

end Block.Showing

/-- A frame that ECMP resolves (R261). -/
def Block.ecmpHop (b : Block) (y : Frame) : Frame :=
  let e := b.entry (dieOfPort y.port) T.ecmp (Vec.f y.rec_ 1 D.fwdIdx)
  let h := h16 (beBytes 4 (b.word (R.RGN_ECMP_SEED (rgnOfPort y.port)))
    ++ ecmpBytes (b.word (R.RGN_ECMP_HASH (rgnOfPort y.port))) y.port y.hv (Vec.f y.rec_ 0 D.term == 1))
  let m := Vec.f e 0 ⟨17, 0⟩ + h * (Vec.f e 0 ⟨26, 18⟩ + 1) / 65536
  if Vec.f e 0 ⟨31, 31⟩ = 0 then y.undelivered
  else y.hop (b.entry (dieOfPort y.port) T.nexthop (Vec.f (b.entry (dieOfPort y.port) T.ecmp (2 ^ 19 + m)) 0 ⟨17, 0⟩))

/-- A frame that takes its multicast group (R264). -/
def Block.mcastTake (b : Block) (y : Frame) : Frame :=
  let e := b.entry (dieOfPort y.port) T.mcast (Vec.f y.rec_ 1 D.fwdIdx)
  if Vec.f e 0 ⟨31, 31⟩ = 0 ∨ (List.range 8).all (fun g => mcCount e g == 0) = true then y.undelivered else { y with group := e }

namespace Block.Showing
variable {i : Nat} {y : Frame}

theorem ecmp (h : b.Showing i y c) : b.Showing i (b.ecmpHop y) (c.ecmp i) := by
  obtain ⟨hy, fs, hc⟩ := id h
  have he (n : Nat) : c.entry (dieOfPort y.port) T.ecmp n = b.entry (dieOfPort y.port) T.ecmp n := by rw [hc]; rfl
  have hw (a : Nat) : c.word a = b.word a := by rw [hc]; rfl
  unfold Block.ecmp Block.ecmpHop
  dsimp only
  rw [hy, he, he, hw, hw]
  by_cases valid : Vec.f (b.entry (dieOfPort y.port) T.ecmp (Vec.f y.rec_ 1 D.fwdIdx)) 0 ⟨31, 31⟩ = 0
  · rw [if_pos valid, if_pos (beq_iff_eq.mpr valid)]
    exact h.modFrame _
  · rw [if_neg valid, if_neg (by simpa using valid)]
    exact h.nextHop _

theorem mcast (h : b.Showing i y c) : b.Showing i (b.mcastTake y) (c.mcast i) := by
  obtain ⟨hy, fs, hc⟩ := id h
  have he (n : Nat) : c.entry (dieOfPort y.port) T.mcast n = b.entry (dieOfPort y.port) T.mcast n := by rw [hc]; rfl
  unfold Block.mcast Block.mcastTake
  dsimp only
  rw [hy, he]
  generalize b.entry (dieOfPort y.port) T.mcast (Vec.f y.rec_ 1 D.fwdIdx) = e
  by_cases none : Vec.f e 0 ⟨31, 31⟩ = 0 ∨ (List.range 8).all (fun g => mcCount e g == 0) = true
  · rw [if_pos none, if_pos (by simpa using none)]
    exact h.modFrame _
  · rw [if_neg none, if_neg (by simpa using none)]
    exact h.modFrame _

/-- A frame whose classification has ended is not resolved. -/
theorem resolve_over (h : b.Showing i y c) (ended : y.over = true) : c.resolve i = c := by
  obtain ⟨hy, -⟩ := h
  exact if_pos (by rw [hy]; exact ended)

/-- The frame as its resolution begins. -/
def resolving (y : Frame) : Frame := { y with rec_ := Vec.put y.rec_ 0 D.resolved 1, carry := setHit y.carry 5 }

theorem resolving_port : (resolving y).port = y.port := by
  cases y
  rfl

theorem resolve_none (h : b.Showing i y c) (goes : y.over = false) (kind : Vec.f y.rec_ 0 D.fwdKind = 3) :
    b.Showing i (if Vec.f y.rec_ 0 D.act = 0 then y.undelivered else y) (c.resolve i) := by
  obtain ⟨hy, -⟩ := id h
  have eq : c.resolve i = if Vec.f (c.frame i).rec_ 0 D.act == 0 then c.noDest i else c :=
    (if_neg (by rw [hy, goes]; exact Bool.false_ne_true)).trans (if_pos (by rw [hy, kind]; rfl))
  rw [eq, hy]
  by_cases act : Vec.f y.rec_ 0 D.act = 0
  · rw [if_pos act, if_pos (beq_iff_eq.mpr act)]
    exact h.modFrame _
  · rw [if_neg act, if_neg (by simpa using act)]
    exact h

theorem resolve_nexthop (h : b.Showing i y c) (goes : y.over = false) (kind : Vec.f y.rec_ 0 D.fwdKind = 0) :
    b.Showing i ((resolving y).hop (b.entry (dieOfPort y.port) T.nexthop (Vec.f y.rec_ 1 D.fwdIdx))) (c.resolve i) := by
  obtain ⟨hy, -⟩ := id h
  unfold Block.resolve
  extract_lets f act c'
  have begun : b.Showing i (resolving y) c' := h.modFrame _
  clear_value c'
  rw [show f = y from hy, if_neg (ne_true_of_eq_false goes), if_neg (by rw [kind]; decide), kind]
  rw [← resolving_port]
  exact begun.nextHop (Vec.f y.rec_ 1 D.fwdIdx)

theorem resolve_ecmp (h : b.Showing i y c) (goes : y.over = false) (kind : Vec.f y.rec_ 0 D.fwdKind = 1) :
    b.Showing i (b.ecmpHop (resolving y)) (c.resolve i) := by
  obtain ⟨hy, -⟩ := id h
  unfold Block.resolve
  extract_lets f act c'
  have begun : b.Showing i (resolving y) c' := h.modFrame _
  clear_value c'
  rw [show f = y from hy, if_neg (ne_true_of_eq_false goes), if_neg (by rw [kind]; decide), kind]
  exact begun.ecmp

theorem resolve_mcast (h : b.Showing i y c) (goes : y.over = false) (kind : Vec.f y.rec_ 0 D.fwdKind = 2) :
    b.Showing i (b.mcastTake (resolving y)) (c.resolve i) := by
  obtain ⟨hy, -⟩ := id h
  unfold Block.resolve
  extract_lets f act c'
  have begun : b.Showing i (resolving y) c' := h.modFrame _
  clear_value c'
  rw [show f = y from hy, if_neg (ne_true_of_eq_false goes), if_neg (by rw [kind]; decide), kind]
  exact begun.mcast

end Block.Showing
theorem Frame.undelivered_frag (f : Frame) : f.undelivered.fragSlot = f.fragSlot ∧ f.undelivered.fragUse = f.fragUse := by
  unfold Frame.undelivered
  exact ⟨rfl, rfl⟩

theorem Frame.hop_frag (f : Frame) (e : Vec) : (f.hop e).fragSlot = f.fragSlot ∧ (f.hop e).fragUse = f.fragUse := by
  unfold Frame.hop
  split
  · exact f.undelivered_frag
  · split <;> exact ⟨rfl, rfl⟩

theorem Block.ecmpHop_frag (b : Block) (f : Frame) : (b.ecmpHop f).fragSlot = f.fragSlot ∧ (b.ecmpHop f).fragUse = f.fragUse := by
  unfold Block.ecmpHop
  dsimp only
  split
  · exact f.undelivered_frag
  · exact f.hop_frag _

theorem Block.mcastTake_frag (b : Block) (f : Frame) : (b.mcastTake f).fragSlot = f.fragSlot ∧ (b.mcastTake f).fragUse = f.fragUse := by
  unfold Block.mcastTake
  dsimp only
  split
  · exact f.undelivered_frag
  · exact ⟨rfl, rfl⟩

/-- A frame that is no fragment leaves S5 as it is. -/
theorem Block.fragAtS5_idle (b : Block) {i : Nat} (slot : (b.frame i).fragSlot = none) (use : (b.frame i).fragUse = false) : b.fragAtS5 i = b := by
  unfold Block.fragAtS5
  dsimp only
  rw [slot]
  exact if_pos (by rw [use]; rfl)

/-- A table in which no entry has reached its age stays. -/
theorem Block.fragExpire_young (b : Block) {C : Nat} (young : ∀ e ∈ (b.cluster C).frags, (b.ticks - e.2.born) / 1000 < b.fragLife C) :
    b.fragExpire C = b := by
  have none : ((b.cluster C).frags.filter fun e => b.fragAge e.2 ≥ b.fragLife C) = [] :=
    List.filter_eq_nil_iff.mpr fun e he => by
      have he := young e he
      rw [decide_eq_true_iff, Block.fragAge]
      omega
  unfold Block.fragExpire
  dsimp only
  exact if_pos (by rw [none]; rfl)

/-- The entry of a later fragment, where the table holds one. -/
def Block.fragEntry (b : Block) (f : Frame) : Option FragEntry :=
  (b.fragFind (clsOfPort f.port) f.fragV6 f.fragKey).bind fun s => SMap.find (b.cluster (clsOfPort f.port)).frags s

section Later
variable {i : Nat} {f : Frame} (hf : b.frame i = f) (slot : f.fragSlot = none) (use : f.fragUse = true)
  (young : ∀ e ∈ (b.cluster (clsOfPort f.port)).frags, (b.ticks - e.2.born) / 1000 < b.fragLife (clsOfPort f.port))
include hf slot use young

theorem Block.fragAtS5_missing (found : b.fragEntry f = none) :
    b.fragAtS5 i = (b.count (R.CLS_FRAG_MISS (clsOfPort f.port)) 1).modFrame i fun y => { y with reason := 8 } := by
  unfold Block.fragAtS5
  dsimp only
  rw [hf, slot]
  dsimp only
  rw [if_neg (by rw [use]; decide), b.fragExpire_young young, ← Block.fragEntry, found]

theorem Block.fragAtS5_pending {e : FragEntry} (found : b.fragEntry f = some e) (pending : e.pending = true) :
    b.fragAtS5 i = (b.count (R.CLS_FRAG_PENDING (clsOfPort f.port)) 1).modFrame i fun y => { y with reason := 9 } := by
  unfold Block.fragAtS5
  dsimp only
  rw [hf, slot]
  dsimp only
  rw [if_neg (by rw [use]; decide), b.fragExpire_young young, ← Block.fragEntry, found]
  exact if_pos pending

theorem Block.fragAtS5_result {e : FragEntry} (found : b.fragEntry f = some e) (ended : e.pending = false)
    (one : Vec.f e.result 0 D.fwdKind ≠ 2) :
    b.fragAtS5 i = (b.count (R.CLS_FRAG_HIT (clsOfPort f.port)) 1).modFrame i fun y =>
      { y with rec_ := e.result, reason := 0, dropBy := 0, fragRes := true, group := [] } := by
  unfold Block.fragAtS5
  dsimp only
  rw [hf, slot]
  dsimp only
  rw [if_neg (by rw [use]; decide), b.fragExpire_young young, ← Block.fragEntry, found]
  exact (if_neg (ne_true_of_eq_false ended)).trans (if_neg (by simp [one]))

end Later

theorem Block.count_withFrames (b : Block) (fs : SMap Frame) (a n : Nat) : (({ b with frames := fs } : Block).count a n).ctrs = (b.count a n).ctrs := by
  have same : Block.stopped { b with frames := fs } a = b.stopped a := rfl
  rw [Block.count, Block.count, same]
  split <;> rfl

/-! ## S6 (R334 to R337, R505) -/

/-- The policer of frame f meters it: its colour, and what the buckets hold then. -/
def Block.metered (b : Block) (f : Frame) : Nat × Nat × Nat :=
  let G := rgnOfPort f.port
  let e := b.entry (G / 2) T.policer (Vec.f f.rec_ 3 D.policerIdx)
  let k := b.polNow G (Vec.f f.rec_ 3 D.policerIdx)
  meter (Vec.f e 0 ⟨30, 30⟩) (if Vec.f e 0 ⟨29, 29⟩ == 0 then 0 else min 2 (Vec.f f.rec_ 1 D.colour)) k.c k.p
    (max 1 ((f.bytes.length : Int) + signed 8 (Vec.f e 0 ⟨23, 16⟩)).toNat * 8000)

/-- Whether its policer drops a frame of colour `col`. -/
def Block.policeDrops (b : Block) (f : Frame) (col : Nat) : Bool :=
  let e := b.entry (rgnOfPort f.port / 2) T.policer (Vec.f f.rec_ 3 D.policerIdx)
  (col == 2 && Vec.f e 0 ⟨28, 28⟩ == 1) || (col == 1 && Vec.f e 0 ⟨27, 27⟩ == 1)

/-- Frame i, which stands as f, has its colour, and its policer's buckets are charged. -/
def Block.coloured (b : Block) (i : Nat) (f : Frame) : Block :=
  let G := rgnOfPort f.port
  let x := Vec.f f.rec_ 3 D.policerIdx
  (b.modRegion G fun g =>
    { g with pol := SMap.set {} g.pol x { b.polNow G x with c := (b.metered f).2.1, p := (b.metered f).2.2 } }).modFrame i fun y =>
      { y with rec_ := Vec.put y.rec_ 1 D.colour (b.metered f).1 }

theorem meter_colour (mode colour c p need : Nat) : (meter mode colour c p need).1 < 3 := by
  unfold meter
  repeat' split
  all_goals simp

theorem Block.frame_modRegion (b : Block) (G : Nat) (g : Region → Region) (i : Nat) : (b.modRegion G g).frame i = b.frame i := rfl

theorem Block.region_modFrame (b : Block) (i : Nat) (g : Frame → Frame) (G : Nat) : (b.modFrame i g).region G = b.region G := rfl

section Police
variable {i : Nat} {f : Frame} (hf : b.frame i = f)
include hf

theorem Block.police_invalid (invalid : Vec.f (b.entry (rgnOfPort f.port / 2) T.policer (Vec.f f.rec_ 3 D.policerIdx)) 0 ⟨31, 31⟩ = 0) :
    b.police i = b.count (R.RGN_POL_INVALID (rgnOfPort f.port)) 1 := by
  unfold Block.police
  dsimp only
  rw [hf]
  exact if_pos (beq_iff_eq.mpr invalid)

theorem Block.police_valid (valid : Vec.f (b.entry (rgnOfPort f.port / 2) T.policer (Vec.f f.rec_ 3 D.policerIdx)) 0 ⟨31, 31⟩ = 1) :
    ∃ a, let c := ((b.coloured i f).count a 1).pmc (.rgn (rgnOfPort f.port)) 0x09 (b.metered f).1 1
      b.police i = if b.policeDrops f (b.metered f).1 && (Vec.f f.rec_ 0 D.act != 1 || f.reason != 0) then
        (c.count (R.RGN_POL_DROP (rgnOfPort f.port)) 1).modFrame i fun y =>
          { y with rec_ := Vec.put y.rec_ 0 D.act 1, reason := 0, dropBy := 2 }
        else c := by
  unfold Block.police
  dsimp only
  rw [hf, if_neg (by rw [show Vec.f _ _ _ = 1 from valid]; decide)]
  exact ⟨_, rfl⟩

theorem Block.police_tells (valid : Vec.f (b.entry (rgnOfPort f.port / 2) T.policer (Vec.f f.rec_ 3 D.policerIdx)) 0 ⟨31, 31⟩ = 1) :
    let G := rgnOfPort f.port
    let x := Vec.f f.rec_ 3 D.policerIdx
    let col := b.metered f
    let y : Frame := { f with rec_ := Vec.put f.rec_ 1 D.colour col.1 }
    SMap.get {} ((b.police i).region G).pol x = { b.polNow G x with c := col.2.1, p := col.2.2 } ∧
    ((b.policeDrops f col.1 && (Vec.f f.rec_ 0 D.act != 1 || f.reason != 0)) = true →
      (b.police i).frame i = { y with rec_ := Vec.put y.rec_ 0 D.act 1, reason := 0, dropBy := 2 }) ∧
    ((b.policeDrops f col.1 && (Vec.f f.rec_ 0 D.act != 1 || f.reason != 0)) = false → (b.police i).frame i = y) := by
  intro G x col y
  obtain ⟨a, hp⟩ := Block.police_valid hf valid
  have hy : (b.coloured i f).frame i = y := by
    rw [Block.coloured, Block.frame_modFrame, if_pos rfl, Block.frame_modRegion, hf]
  have hg : (b.coloured i f).region G = { b.region G with pol := SMap.set {} (b.region G).pol x { b.polNow G x with c := col.2.1, p := col.2.2 } } := by
    rw [Block.coloured, Block.region_modFrame, Block.region_modRegion, if_pos rfl]
  generalize b.coloured i f = c at hp hy hg
  have framed : ((c.count a 1).pmc (.rgn G) 0x09 col.1 1).frame i = y := by
    rw [Block.frame, Block.pmc_frames, Block.count_frames, ← Block.frame, hy]
  have regioned : ((c.count a 1).pmc (.rgn G) 0x09 col.1 1).region G = c.region G := by
    rw [Block.region, Block.pmc_regions, Block.count_regions, ← Block.region]
  generalize (c.count a 1).pmc (.rgn G) 0x09 col.1 1 = d at hp framed regioned
  generalize b.police i = t at hp ⊢
  refine ⟨?_, fun drops => ?_, fun keeps => ?_⟩
  · have pols : t.region G = c.region G := by
      rw [hp, ← regioned]
      split
      · rw [Block.region_modFrame, Block.region, Block.count_regions, ← Block.region]
      · rfl
    rw [pols, hg]
    exact SMap.get_set_same _ _ _ _
  · rw [hp, if_pos drops, Block.frame_modFrame, if_pos rfl, Block.frame, Block.count_frames, ← Block.frame, framed]
  · rw [hp, if_neg (ne_true_of_eq_false keeps), framed]

end Police

/-! ## The statement -/

section Runs
variable {p : Fin 256} {i : Nat} {f : Frame}

/-- Frame i as it stands once S5 has taken it and resolved it, where it is no fragment. -/
theorem Block.s5_resolved {y : Frame} (live : b.frozen (dieOfPort p) = false) (there : b.atStage p 5 = some (i, f))
    (h : b.Showing i y ((b.modFrame i fun x => { x with stage := 6 }).resolve i)) (slot : y.fragSlot = none) (use : y.fragUse = false) :
    b.Showing i y (b.lookupS5 p) := by
  obtain ⟨hy, -⟩ := id h
  rw [Block.lookupS5, Block.stage_runs live there, Block.fragAtS5_idle _ (by rw [hy, slot]) (by rw [hy, use])]
  exact h

theorem Block.s5_later (live : b.frozen (dieOfPort p) = false) (there : b.atStage p 5 = some (i, f)) (hf : b.frame i = f)
    (ended : f.over = true) : b.lookupS5 p = (b.modFrame i fun x => { x with stage := 6 }).fragAtS5 i := by
  have h := b.showing_modFrame i fun x => { x with stage := 6 }
  rw [Block.lookupS5, Block.stage_runs live there, h.resolve_over (by rw [hf]; exact ended)]

end Runs
/-! ## The statement -/

theorem Block.showing_stage {i : Nat} {f : Frame} (hf : b.frame i = f) (n : Nat) :
    b.Showing i { f with stage := n } (b.modFrame i fun x => { x with stage := n }) := by
  subst hf
  exact b.showing_modFrame i fun x => { x with stage := n }

/-- S5 of a frame that is no fragment. -/
theorem Block.s5_tells_whole {p : Fin 256} {i : Nat} {f : Frame} (live : b.frozen (dieOfPort p) = false) (hf : b.frame i = f) (port : f.port = p.val)
    (there : b.atStage p 5 = some (i, f)) (slot : f.fragSlot = none) (use : f.fragUse = false) :
    let y : Frame := { f with stage := 6 }
    (f.over = true → Takes (.lookupS5 p) b (b.modFrame i fun y => { y with stage := 6 })) ∧
    (f.over = false → Vec.f f.rec_ 0 D.fwdKind = 3 →
      b.Showing i (if Vec.f f.rec_ 0 D.act = 0 then y.undelivered else y) (b.lookupS5 p)) ∧
    (f.over = false → Vec.f f.rec_ 0 D.fwdKind = 0 →
      b.Showing i ((Block.Showing.resolving y).hop (b.entry (dieOfPort p) T.nexthop (Vec.f f.rec_ 1 D.fwdIdx))) (b.lookupS5 p)) ∧
    (f.over = false → Vec.f f.rec_ 0 D.fwdKind = 1 → b.Showing i (b.ecmpHop (Block.Showing.resolving y)) (b.lookupS5 p)) ∧
    (f.over = false → Vec.f f.rec_ 0 D.fwdKind = 2 → b.Showing i (b.mcastTake (Block.Showing.resolving y)) (b.lookupS5 p)) := by
  intro y
  have h : b.Showing i y (b.modFrame i fun x => { x with stage := 6 }) := Block.showing_stage hf 6
  have frag : y.fragSlot = none ∧ y.fragUse = false := ⟨slot, use⟩
  have begun : (Block.Showing.resolving y).fragSlot = none ∧ (Block.Showing.resolving y).fragUse = false := ⟨slot, use⟩
  refine ⟨fun ended => ?_, fun goes kind => ?_, fun goes kind => ?_, fun goes kind => ?_, fun goes kind => ?_⟩
  · have takes : Takes (.lookupS5 p) b (b.lookupS5 p) := fun _ => rfl
    have idle := h.resolve_over ended
    refine takes_congr takes ?_
    rw [Block.s5_later live there hf ended]
    exact Block.fragAtS5_idle _ (by rw [h.1]; exact slot) (by rw [h.1]; exact use)
  · refine Block.s5_resolved live there (h.resolve_none goes kind) ?_ ?_
    · split
      · exact y.undelivered_frag.1.trans slot
      · exact slot
    · split
      · exact y.undelivered_frag.2.trans use
      · exact use
  · obtain ⟨s, u⟩ := (Block.Showing.resolving y).hop_frag (b.entry (dieOfPort p) T.nexthop (Vec.f f.rec_ 1 D.fwdIdx))
    exact Block.s5_resolved live there (port ▸ h.resolve_nexthop goes kind) (s.trans begun.1) (u.trans begun.2)
  · obtain ⟨s, u⟩ := b.ecmpHop_frag (Block.Showing.resolving y)
    exact Block.s5_resolved live there (h.resolve_ecmp goes kind) (s.trans begun.1) (u.trans begun.2)
  · obtain ⟨s, u⟩ := b.mcastTake_frag (Block.Showing.resolving y)
    exact Block.s5_resolved live there (h.resolve_mcast goes kind) (s.trans begun.1) (u.trans begun.2)
/-- S5 of a later fragment whose classification has ended. -/
theorem Block.s5_fragment {p : Fin 256} {i : Nat} {f : Frame} (live : b.frozen (dieOfPort p) = false) (hf : b.frame i = f)
    (port : f.port = p.val) (there : b.atStage p 5 = some (i, f)) (slot : f.fragSlot = none) (use : f.fragUse = true) (ended : f.over = true)
    (young : ∀ e ∈ (b.cluster (clsOfPort p)).frags, (b.ticks - e.2.born) / 1000 < b.fragLife (clsOfPort p)) :
    let t := b.lookupS5 p
    let C := clsOfPort p
    (b.fragEntry f = none → (t.frame i).reason = 8 ∧ t.ctrs = (b.count (R.CLS_FRAG_MISS C) 1).ctrs) ∧
    (∀ e, b.fragEntry f = some e → e.pending = true → (t.frame i).reason = 9 ∧ t.ctrs = (b.count (R.CLS_FRAG_PENDING C) 1).ctrs) ∧
    (∀ e, b.fragEntry f = some e → e.pending = false → Vec.f e.result 0 D.fwdKind ≠ 2 →
      t.frame i = { f with stage := 6, rec_ := e.result, reason := 0, dropBy := 0, fragRes := true, group := [] } ∧
      t.ctrs = (b.count (R.CLS_FRAG_HIT C) 1).ctrs) := by
  intro t C
  have ht : t = (b.modFrame i fun x => { x with stage := 6 }).fragAtS5 i := Block.s5_later live there hf ended
  clear_value t
  obtain ⟨hy, fs, hc⟩ := Block.showing_stage hf 6
  generalize b.modFrame i (fun x => { x with stage := 6 }) = c at hy hc ht
  have young' : ∀ e ∈ (c.cluster (clsOfPort f.port)).frags, (c.ticks - e.2.born) / 1000 < c.fragLife (clsOfPort f.port) := by
    rw [hc, port]
    exact young
  have same : c.fragEntry { f with stage := 6 } = b.fragEntry f := by rw [hc]; rfl
  have told (a : Nat) (g : Frame → Frame) : ((c.count a 1).modFrame i g).ctrs = (b.count a 1).ctrs :=
    Eq.trans (by rw [hc]; rfl) (b.count_withFrames fs a 1)
  have shown (a : Nat) (g : Frame → Frame) : ((c.count a 1).modFrame i g).frame i = g { f with stage := 6 } := by
    rw [Block.frame_modFrame, if_pos rfl, Block.frame, Block.count_frames, ← Block.frame, hy]
  have hC : clsOfPort f.port = C := by rw [port]
  refine ⟨fun found => ?_, fun e found pending => ?_, fun e found whole one => ?_⟩
  · rw [ht, Block.fragAtS5_missing hy slot use young' (same.trans found), shown, told, ← hC]
    exact ⟨rfl, rfl⟩
  · rw [ht, Block.fragAtS5_pending hy slot use young' (same.trans found) pending, shown, told, ← hC]
    exact ⟨rfl, rfl⟩
  · rw [ht, Block.fragAtS5_result hy slot use young' (same.trans found) whole one, shown, told, ← hC]
    exact ⟨rfl, rfl⟩

/-- S6 of a frame, by what its record asks for (Table 11-8, R505). -/
theorem Block.s6_tells_whole {p : Fin 256} {i : Nat} {f : Frame} (live : b.frozen (dieOfPort p) = false) (hf : b.frame i = f)
    (there : b.atStage p 6 = some (i, f)) :
    (Vec.f f.rec_ 3 D.policeEn = 0 → Vec.f f.rec_ 3 D.countEn = 0 → b.lookupS6 p = b.modFrame i fun y => { y with stage := 7 }) ∧
    (Vec.f f.rec_ 3 D.policeEn = 0 → Vec.f f.rec_ 3 D.countEn = 1 → ∃ c, b.Showing i { f with stage := 7, carry := setHit f.carry 6 } c ∧
      b.lookupS6 p = c.countPair (rgnOfPort p) (Vec.f f.rec_ 4 D.counterIdx) f.bytes.length) ∧
    (Vec.f f.rec_ 3 D.policeEn = 1 → Vec.f f.rec_ 3 D.countEn = 0 → ∃ c, b.Showing i { f with stage := 7, carry := setHit f.carry 6 } c ∧
      b.lookupS6 p = c.police i) := by
  have h := Block.showing_stage hf 7
  have hit := h.modFrame fun x => { x with carry := setHit f.carry 6 }
  have runs : b.lookupS6 p = _ := Block.stage_runs live there
  rw [runs]
  generalize b.modFrame i (fun x => { x with stage := 7 }) = c at h hit
  refine ⟨fun police count => ?_, fun police count => ⟨_, hit, ?_⟩, fun police count => ⟨_, hit, ?_⟩⟩
  · rw [police, count]
    rfl
  · rw [police, count]
    rfl
  · rw [police, count]
    rfl
section Fields
variable {f : Frame}

theorem resolving_fwdIdx : Vec.f (Block.Showing.resolving f).rec_ 1 D.fwdIdx = Vec.f f.rec_ 1 D.fwdIdx := by
  unfold Block.Showing.resolving
  dsimp only
  exact Vec.f_put_other _ _ _ (by decide)
theorem resolving_term : Vec.f (Block.Showing.resolving f).rec_ 0 D.term = Vec.f f.rec_ 0 D.term := by
  unfold Block.Showing.resolving
  dsimp only
  exact Vec.f_put_apart _ _ _ (by decide) (by decide) (by decide)

end Fields

/-- The colour of a metered frame, and its ACT and its reason. -/
theorem coloured_fields (f : Frame) {col : Nat} (h : col < 3) :
    let r := Vec.put f.rec_ 1 D.colour col
    Vec.f r 1 D.colour = col ∧ Vec.f r 0 D.act = Vec.f f.rec_ 0 D.act ∧ Vec.f (Vec.put r 0 D.act 1) 1 D.colour = col ∧
    Vec.f (Vec.put r 0 D.act 1) 0 D.act = 1 := by
  intro r
  have hcol : Vec.f r 1 D.colour = col := (Vec.f_put_same _ _ _ (by decide) (by decide)).trans (Nat.mod_eq_of_lt (by simp only [D.colour]; omega))
  exact ⟨hcol, Vec.f_put_other _ _ _ (by decide), (Vec.f_put_other _ _ _ (by decide)).trans hcol,
    Vec.f_put_same _ _ _ (by decide) (by decide)⟩

/-- What the statement says of a metered frame. -/
theorem Block.police_says {i : Nat} {f : Frame} {G : Nat} (hy : b.frame i = f) (hG : rgnOfPort f.port = G)
    (valid : Vec.f (b.entry (G / 2) T.policer (Vec.f f.rec_ 3 D.policerIdx)) 0 ⟨31, 31⟩ = 1) :
    let x := Vec.f f.rec_ 3 D.policerIdx
    let e := b.entry (G / 2) T.policer x
    let col := b.metered f
    let t := b.police i
    SMap.get {} (t.region G).pol x = { b.polNow G x with c := col.2.1, p := col.2.2 } ∧ Vec.f (t.frame i).rec_ 1 D.colour = col.1 ∧
    ((col.1 = 2 ∧ Vec.f e 0 ⟨28, 28⟩ = 1) ∨ (col.1 = 1 ∧ Vec.f e 0 ⟨27, 27⟩ = 1) → Vec.f f.rec_ 0 D.act ≠ 1 →
      (t.frame i).dropBy = 2 ∧ (t.frame i).reason = 0 ∧ Vec.f (t.frame i).rec_ 0 D.act = 1) ∧
    (¬ ((col.1 = 2 ∧ Vec.f e 0 ⟨28, 28⟩ = 1) ∨ (col.1 = 1 ∧ Vec.f e 0 ⟨27, 27⟩ = 1)) →
      (t.frame i).dropBy = f.dropBy ∧ (t.frame i).reason = f.reason ∧ Vec.f (t.frame i).rec_ 0 D.act = Vec.f f.rec_ 0 D.act) := by
  subst hG
  intro x e col t
  obtain ⟨pol, dropped, kept⟩ := Block.police_tells hy valid
  obtain ⟨c1, a1, c2, a2⟩ := coloured_fields f (col := col.1) (meter_colour _ _ _ _ _)
  have drops : b.policeDrops f col.1 = true ↔ (col.1 = 2 ∧ Vec.f e 0 ⟨28, 28⟩ = 1) ∨ (col.1 = 1 ∧ Vec.f e 0 ⟨27, 27⟩ = 1) := by
    rw [Block.policeDrops, Bool.or_eq_true, Bool.and_eq_true, Bool.and_eq_true, beq_iff_eq, beq_iff_eq, beq_iff_eq, beq_iff_eq]
  rw [← drops]
  cases act : (b.policeDrops f col.1 && (Vec.f f.rec_ 0 D.act != 1 || f.reason != 0)) with
  | true =>
    have ht : t.frame i = _ := dropped act
    rw [ht]
    dsimp only
    exact ⟨pol, c2, fun _ _ => ⟨rfl, rfl, a2⟩, fun keeps => absurd (Bool.and_eq_true_iff.mp act).1 keeps⟩
  | false =>
    have ht : t.frame i = _ := kept act
    rw [ht]
    refine ⟨pol, c1, fun on live => ?_, fun _ => ⟨rfl, rfl, a1⟩⟩
    rw [on, bne_iff_ne.mpr live] at act
    cases act
/-- Settles O16: S5 and S6 change the frame that they take, and what they leave in it is said case by case. -/
theorem resolutionAndMetering : Obligations.ResolutionAndMetering := by
  unfold Obligations.ResolutionAndMetering
  intro b p i f live hf port d G kind x r on gone hops
  have t5 : Takes (.lookupS5 p) b (b.lookupS5 p) := fun _ => rfl
  have t6 : Takes (.lookupS6 p) b (b.lookupS6 p) := fun _ => rfl
  have hon : Block.Showing.resolving { f with stage := 6 } = on := by
    unfold Block.Showing.resolving
    rfl
  have hgone (y : Frame) : gone y = y.undelivered := by
    unfold Frame.undelivered
    rfl
  have hhops (e : Vec) : hops e = on.hop e := by
    unfold Frame.hop
    refine if_congr Iff.rfl (hgone on) ?_
    have hrec : on.rec_ = r := by dsimp only [on]
    rewrite [hrec]
    generalize Vec.f e 0 ⟨30, 29⟩ = k
    match k with
    | 0 => rfl
    | 1 => rfl
    | _ + 2 => rfl
  refine ⟨fun there slot use => ?_, fun there slot use ended young => ?_, fun there => ?_⟩
  · obtain ⟨ended, none, nexthop, ecmp, mcast⟩ := Block.s5_tells_whole live hf port there slot use
    refine ⟨ended, fun goes kind => t5.to (by rw [hgone]; exact (none goes kind).1), fun goes kind => ?_, fun goes kind => ?_, fun goes kind => ?_⟩
    · rw [hhops]
      exact t5.to ⟨hon ▸ (nexthop goes kind).1, (nexthop goes kind).only⟩
    · have h := ecmp goes kind
      unfold Block.ecmpHop at h
      rw [resolving_fwdIdx, resolving_term, hon, show on.port = p.val from port] at h
      rw [hgone]
      exact t5.to ⟨by rw [hhops]; exact h.1, h.only⟩
    · have h := mcast goes kind
      unfold Block.mcastTake at h
      rw [resolving_fwdIdx, hon, show dieOfPort on.port = d from congrArg dieOfPort port] at h
      rw [hgone]
      exact t5.to ⟨h.1, h.only⟩
  · obtain ⟨missing, pending, result⟩ := Block.s5_fragment live hf port there slot use ended young
    have same : b.fragEntry f = (b.fragFind (clsOfPort p) f.fragV6 f.fragKey).bind fun s => SMap.find (b.cluster (clsOfPort p)).frags s := by
      rw [Block.fragEntry, port]
    rw [same] at missing pending result
    exact ⟨fun found => t5.to (missing found), fun e found on => t5.to (pending e found on),
      fun e found whole one => t5.to (result e found whole one)⟩
  · obtain ⟨idle, counts, meters⟩ := Block.s6_tells_whole live hf there
    refine ⟨fun police count => takes_congr t6 (idle police count), fun police count => ?_, fun police count => ?_⟩
    · intro c
      obtain ⟨y, ⟨hy, fs, only⟩, e⟩ := counts police count
      rw [e] at t6
      refine t6.to ⟨?_, hy, by rw [only]; rfl⟩
      rw [Block.countPair, Block.region_modRegion, if_pos rfl, only]
      exact SMap.get_set_same _ _ _ _
    · intro x e k need col
      obtain ⟨y, ⟨hy, fs, only⟩, eq⟩ := meters police count
      rw [eq] at t6
      have hG : rgnOfPort ({ f with stage := 7, carry := setHit f.carry 6 } : Frame).port = G := congrArg rgnOfPort port
      refine t6.to ⟨fun invalid => ?_, fun valid => ?_⟩
      · rw [Block.police_invalid hy (by rw [hG, only]; exact invalid), hG, only, Block.count_regions, b.count_withFrames]
        exact ⟨by rw [Block.frame, Block.count_frames, ← only]; exact hy, rfl, rfl⟩
      · have hk : y.polNow G (Vec.f f.rec_ 3 D.policerIdx) = k := by rw [only]; rfl
        have he : y.entry (G / 2) T.policer (Vec.f f.rec_ 3 D.policerIdx) = e := by rw [only]; rfl
        have hcol : y.metered { f with stage := 7, carry := setHit f.carry 6 } = col := by
          unfold Block.metered
          rw [hG]
          dsimp only
          rw [hk, he]
          simp only [beq_iff_eq]
          rfl
        have told := Block.police_says hy hG (by rw [only]; exact valid)
        rw [hcol] at told
        dsimp only at told
        rw [he, hk] at told
        exact told

end Sys2Proof.Machine
end

section
/-!
PROOFS. S7 and the wait for a lossless source FIFO (R185, R187, R188, R284, R286, R47); and O17 from these.
-/
namespace Sys2Proof.Machine
open Sys2Proof

variable {b c d : Block}

/-! ## The words of a list as a vector, and the descriptor (R187) -/

theorem SMap.get_map_filter (ks : List Nat) (g : Nat → Nat) (n : Nat) :
    SMap.get 0 ((ks.map fun i => (i, g i)).filter fun e => e.2 != 0) n = if n ∈ ks then g n else 0 := by
  induction ks with
  | nil => rfl
  | cons k ks ih =>
    rw [List.map_cons]
    by_cases zero : g k = 0
    · rw [List.filter_cons_of_neg (by simp [zero]), ih]
      by_cases same : n = k
      · subst same
        rw [zero, ite_self, ite_self]
      · simp [same]
    · rw [List.filter_cons_of_pos (by simp [zero]), SMap.get, ih]
      by_cases same : k = n
      · subst same
        simp
      · simp [same, Ne.symm same]

theorem Vec.w_ofList (l : List Nat) {n : Nat} (h : n < l.length) : (Vec.ofList l).w n = l.getD n 0 % 2 ^ 32 :=
  (SMap.get_map_filter _ (fun i => l.getD i 0 % 2 ^ 32) n).trans (if_pos (List.mem_range.mpr h))

theorem Block.descriptor_first (b : Block) (f : Frame) (cq : Nat) : (b.descriptor f cq).w 0 = Vec.w f.rec_ 0 % 2 ^ 32 :=
  Vec.w_ofList _ (by simp)

theorem Block.descriptor_queue (b : Block) (f : Frame) {cq : Nat} (len : f.bytes.length < 2 ^ 14) (hcq : cq < 256) :
    Vec.f (b.descriptor f cq) 13 D.cq = cq := by
  have h : (b.descriptor f cq).w 13 = (f.port * 2 ^ 24 + cq * 2 ^ 16 + f.bytes.length * 4 + f.epoch % 4) % 2 ^ 32 := Vec.w_ofList _ (by simp)
  rw [Vec.f, h, Bf.of]
  simp only [D.cq]
  omega

/-! ## The source FIFOs (R284, R286) -/

/-- Frame i is gone from the block, and no other frame has changed. -/
def Block.Gone (b : Block) (i : Nat) (t : Block) : Prop := SMap.find t.frames i = none ∧ ∀ j, j ≠ i → t.frame j = b.frame j

theorem Block.gone_dropFrame {i : Nat} (others : ∀ j, j ≠ i → c.frame j = b.frame j) : b.Gone i (c.dropFrame i) := by
  obtain ⟨gone, rest, -⟩ := c.dropFrame_gone i
  exact ⟨gone, fun j hj => (rest j hj).trans (others j hj)⟩

section Offers
variable {e G : Nat} {k : Pkt}

theorem Block.offerFifo_enters (room : 32768 ≤ b.fifoFree e G ∨ (16384 ≤ b.fifoFree e G ∧ b.xbLossless e (Vec.f k.desc 0 D.class_) = true)) :
    b.offerFifo e G k = (false, b.setFifo e G (b.fifo e G ++ [{ pkt := k }])) := by
  unfold Block.offerFifo
  dsimp only
  by_cases much : 32768 ≤ b.fifoFree e G
  · rw [if_pos much]
  · obtain ⟨some, lossless⟩ := room.resolve_left much
    rw [if_neg much, if_pos lossless, if_pos some]

theorem Block.offerFifo_waits (full : b.fifoFree e G < 16384) (lossless : b.xbLossless e (Vec.f k.desc 0 D.class_) = true) :
    b.offerFifo e G k = (true, b) := by
  unfold Block.offerFifo
  dsimp only
  rw [if_neg (by omega), if_pos lossless, if_neg (by omega)]

theorem Block.offerFifo_drops (full : b.fifoFree e G < 32768) (lossy : b.xbLossless e (Vec.f k.desc 0 D.class_) = false) :
    b.offerFifo e G k = (false, (b.count (R.XEP_OVER_DROP e G) 1).pmc (.xep e) 0x05 G 1) := by
  unfold Block.offerFifo
  dsimp only
  rw [if_neg (by omega), if_neg (ne_true_of_eq_false lossy)]

end Offers

/-- A packet with one destination leaves, or waits for it. -/
theorem Block.sendTo_one (b : Block) (i : Nat) (k : Pkt) (G : Nat) : b.sendTo i k [G] =
    if (b.offerFifo k.die G k).1 then (b.offerFifo k.die G k).2.modFrame i fun f => { f with loc := .llWait, desc := k.desc, dests := [G] }
    else (b.offerFifo k.die G k).2.dropFrame i := by
  unfold Block.sendTo
  dsimp only [List.foldl_cons, List.foldl_nil]
  cases (b.offerFifo k.die G k).1 <;> rfl

/-- With one destination, and that one on a held die, the frame is dropped and counted. -/
theorem Block.forward_held {i cq G : Nat} (hG : G / 2 < 4) (held : b.frozen (G / 2) = true) :
    b.forward i cq [G] = (b.count (R.RGN_HELD_DROP (rgnOfPort (b.frame i).port) (G / 2)) 1).dropFrame i := by
  unfold Block.forward
  dsimp only
  rw [if_pos (by simp [held])]
  congr 1
  refine (Block.each_single (b := b) hG (f := fun c e =>
    if [G].any (fun g => g / 2 == e) then c.count (R.RGN_HELD_DROP (rgnOfPort (b.frame i).port) e) 1 else c) fun c e he => ?_).trans ?_
  · exact if_neg (by simp [Ne.symm he])
  · exact if_pos (by simp)

theorem Block.forward_live {i cq G : Nat} (live : b.frozen (G / 2) = false) : b.forward i cq [G] = b.sendTo i (b.pktOf i cq) [G] := by
  unfold Block.forward
  dsimp only
  have all : [G].filter (fun G => !b.frozen (G / 2)) = [G] := by simp [live]
  rw [all]
  rfl

/-! ## S7 (R185) -/

section Seven
variable {p : Fin 256} {i : Nat} {f : Frame}

/-- S7 takes a frame that is not sampled and has no reason: what stands in the block then, and what S7 does with it by its ACT. -/
theorem Block.s7_takes (clear : b.at_ p .llWait = []) (live : b.frozen (dieOfPort p) = false) (there : b.atStage p 7 = some (i, f))
    (hf : b.frame i = f) (unsampled : Vec.f f.rec_ 1 D.sampleEn = 0) (reason : f.reason = 0) :
    ∃ c, b.Showing i { f with stage := 8, carry := setHit f.carry 7 } c ∧ (∀ j, j ≠ i → c.frame j = b.frame j) ∧
      (Vec.f f.rec_ 0 D.act = 1 →
        (f.dropBy = 0 → b.lookupS7 p = (c.count (R.RGN_ACT_DROP (rgnOfPort p)) 1).dropFrame i) ∧
        (f.dropBy = 1 → b.lookupS7 p = (c.count (R.RGN_NO_DEST_DROP (rgnOfPort p)) 1).dropFrame i) ∧
        (2 ≤ f.dropBy → b.lookupS7 p = c.dropFrame i)) ∧
      (Vec.f f.rec_ 0 D.act = 0 → Vec.f f.rec_ 0 D.resolved = 1 → Vec.f f.rec_ 0 D.fwdKind ≠ 2 →
        b.lookupS7 p = c.forward i (Vec.f (b.entry (dieOfPort p) T.queueMap (Vec.f f.rec_ 0 D.egPort * 256 + Vec.f f.rec_ 0 D.class_)) 0 ⟨7, 0⟩)
          [Vec.f f.rec_ 0 D.egPort / 32]) := by
  have h : b.Showing i { f with stage := 8, carry := setHit f.carry 7 }
      ((b.modFrame i fun x => { x with stage := 8 }).modFrame i fun x => { x with carry := setHit x.carry 7 }) :=
    (Block.showing_stage hf 8).modFrame _
  have others (j : Nat) (hj : j ≠ i) :
      ((b.modFrame i fun x => { x with stage := 8 }).modFrame i fun x => { x with carry := setHit x.carry 7 }).frame j = b.frame j := by
    rw [Block.frame_modFrame, if_neg hj, Block.frame_modFrame, if_neg hj]
  have runs : b.lookupS7 p = _ := (if_neg (by rw [clear]; decide)).trans (Block.stage_runs live there)
  dsimp only at runs
  generalize ((b.modFrame i fun x => { x with stage := 8 }).modFrame i fun x => { x with carry := setHit x.carry 7 }) = c at h others runs
  obtain ⟨hy, fs, only⟩ := id h
  have quiet : c.sampleOffer i = c := if_pos (by rw [hy, unsampled]; rfl)
  rw [quiet, hy] at runs
  dsimp only at runs
  rw [reason, if_neg (by decide)] at runs
  refine ⟨c, h, others, fun act => ?_, fun act resolved kind => ?_⟩
  · rw [act, if_pos (by decide)] at runs
    refine ⟨fun by_ => ?_, fun by_ => ?_, fun by_ => ?_⟩
    · simp only [by_] at runs
      exact runs
    · simp only [by_] at runs
      exact runs
    · obtain ⟨n, hn⟩ : ∃ n, f.dropBy = n + 2 := ⟨f.dropBy - 2, by omega⟩
      rw [hn] at runs
      exact runs
  · rw [act, resolved, if_neg (by decide), if_neg (by decide), if_neg (by simpa using kind), if_neg (by decide)] at runs
    have entry (x : Nat) : c.entry (dieOfPort p) T.queueMap x = b.entry (dieOfPort p) T.queueMap x := by rw [only]; rfl
    rw [runs, entry]

end Seven
/-! ## What becomes of a forwarded frame -/

theorem Block.Gone.of_frames {i : Nat} {u : Block} (others : ∀ j, j ≠ i → c.frame j = b.frame j) (h : u.frames = c.frames) : b.Gone i (u.dropFrame i) :=
  Block.gone_dropFrame fun j hj => by rw [Block.frame, h, ← Block.frame, others j hj]

theorem Block.withFrames_fifoFree (h : ∃ fs, c = { b with frames := fs }) (e G : Nat) : c.fifoFree e G = b.fifoFree e G ∧ c.fifo e G = b.fifo e G := by
  obtain ⟨fs, rfl⟩ := h
  exact ⟨rfl, rfl⟩

theorem Block.fifos_dropFrame (b : Block) (i : Nat) : (b.dropFrame i).fifos = b.fifos := rfl
theorem Block.ctrs_dropFrame (b : Block) (i : Nat) : (b.dropFrame i).ctrs = b.ctrs := rfl
theorem Block.ctr_dropFrame (b : Block) (i a : Nat) : (b.dropFrame i).ctr a = b.ctr a := rfl

/-- A packet is offered to the one FIFO that it needs: it enters, waits, or is dropped and counted. -/
theorem Block.sendTo_tells {i e G : Nat} {k : Pkt} (same : ∃ fs, c = { b with frames := fs }) (others : ∀ j, j ≠ i → c.frame j = b.frame j)
    (he : k.die = e) (live : b.frozen e = false) (hd : e < 4) (hG : G < 8) :
    let t := c.sendTo i k [G]
    let lossless := b.xbLossless e (Vec.f k.desc 0 D.class_)
    (32768 ≤ b.fifoFree e G ∨ (16384 ≤ b.fifoFree e G ∧ lossless = true) →
      b.Gone i t ∧ t.ctrs = b.ctrs ∧ t.fifo e G = b.fifo e G ++ [{ pkt := k }] ∧ ∀ g, g ≠ G → g < 8 → t.fifo e g = b.fifo e g) ∧
    (b.fifoFree e G < 16384 → lossless = true →
      t.frame i = { c.frame i with loc := .llWait, desc := k.desc, dests := [G] } ∧ t.fifos = b.fifos ∧ ∀ j, j ≠ i → t.frame j = b.frame j) ∧
    (b.fifoFree e G < 32768 → lossless = false →
      b.Gone i t ∧ t.fifos = b.fifos ∧ t.ctr (R.XEP_OVER_DROP e G) = (b.ctr (R.XEP_OVER_DROP e G) + 1) % 2 ^ 64) := by
  subst he
  intro t lossless
  obtain ⟨free, fifo⟩ := Block.withFrames_fifoFree same k.die G
  have hx : c.xbLossless k.die (Vec.f k.desc 0 D.class_) = lossless := by
    obtain ⟨fs, rfl⟩ := same
    rfl
  have ht : t = _ := c.sendTo_one i k G
  clear_value t
  refine ⟨fun room => ?_, fun full waits => ?_, fun full lossy => ?_⟩
  · rw [Block.offerFifo_enters (by rw [free, hx]; exact room), if_neg Bool.false_ne_true] at ht
    rw [ht]
    refine ⟨Block.Gone.of_frames others rfl, by obtain ⟨fs, rfl⟩ := same; rfl, ?_, fun g hg hg8 => ?_⟩
    · refine (c.fifo_setFifo _ _ _ _ _).trans ?_
      rw [if_pos rfl, fifo]
    · refine (c.fifo_setFifo _ _ _ _ _).trans ?_
      rw [if_neg (by omega)]
      exact (Block.withFrames_fifoFree same k.die g).2
  · rw [Block.offerFifo_waits (by rw [free]; exact full) (by rw [hx]; exact waits), if_pos rfl] at ht
    rw [ht]
    refine ⟨by rw [Block.frame_modFrame, if_pos rfl], by obtain ⟨fs, rfl⟩ := same; rfl, fun j hj => ?_⟩
    rw [Block.frame_modFrame, if_neg hj, others j hj]
  · rw [Block.offerFifo_drops (by rw [free]; exact full) (by rw [hx]; exact lossy), if_neg Bool.false_ne_true] at ht
    rw [ht]
    refine ⟨Block.Gone.of_frames others (by rw [Block.pmc_frames, Block.count_frames]), ?_, ?_⟩
    · rw [Block.fifos_dropFrame, Block.pmc_fifos, Block.count_fifos]
      obtain ⟨fs, rfl⟩ := same
      rfl
    · have address : R.XEP_OVER_DROP k.die G = dieBase k.die + (0x200100 + G * 8) := by
        simp only [R.XEP_OVER_DROP, xepBase]
        omega
      have counts : c.stopped (R.XEP_OVER_DROP k.die G) = false := by
        rw [address, c.stopped_of_die hd (by omega) (by omega)]
        obtain ⟨fs, rfl⟩ := same
        exact live
      have page : midPage (R.XEP_OVER_DROP k.die G) := by
        rw [address, midPage, dieBase]
        omega
      have ctr : c.ctr (R.XEP_OVER_DROP k.die G) = b.ctr (R.XEP_OVER_DROP k.die G) := by
        obtain ⟨fs, rfl⟩ := same
        rfl
      rw [Block.ctr_dropFrame, Block.ctr_pmc_mid _ _ _ _ _ page, Block.ctr_count_same _ _ _ counts, ctr]

/-! ## The statement -/

/-- Settles O17: S7 drops the frame, or offers it to the one source FIFO that it needs, and so does the end of its wait. -/
theorem framesEnterTheSourceFifosOrWait : Obligations.FramesEnterTheSourceFifosOrWait := by
  unfold Obligations.FramesEnterTheSourceFifosOrWait
  intro b p i f live hf port d G gone
  have t7 : Takes (.lookupS7 p) b (b.lookupS7 p) := fun _ => rfl
  have tw : Takes (.llWaitEnd p) b (b.llWaitEnd p) := fun _ => rfl
  have hd : d < 4 := by
    show (p.val : Nat) / 64 < 4
    omega
  refine ⟨fun r there => ?_, fun clear there len unsampled reason => ?_, fun r H there dests hH => ?_, fun none => ?_⟩
  · refine takes_congr t7 (if_pos ?_)
    rw [there]
    rfl
  · obtain ⟨c, h, others, dropped, forwarded⟩ := Block.s7_takes clear live there hf unsampled reason
    obtain ⟨hy, fs, only⟩ := h
    refine ⟨fun act => ?_, fun act resolved kind => ?_⟩
    · obtain ⟨acted, lost, silent⟩ := dropped act
      have counted (a : Nat) : gone ((c.count a 1).dropFrame i) ∧ ((c.count a 1).dropFrame i).fifos = b.fifos ∧
          ((c.count a 1).dropFrame i).ctrs = (b.count a 1).ctrs := by
        refine ⟨Block.Gone.of_frames others (c.count_frames a 1), ?_, ?_⟩
        · rw [Block.fifos_dropFrame, Block.count_fifos, only]
        · rw [Block.ctrs_dropFrame, only, b.count_withFrames]
      obtain by0 | by1 | by2 : f.dropBy = 0 ∨ f.dropBy = 1 ∨ 2 ≤ f.dropBy := by omega
      · rw [acted by0] at t7
        obtain ⟨g, fifos, ctrs⟩ := counted (R.RGN_ACT_DROP (rgnOfPort p))
        exact t7.to ⟨g, fifos, fun _ => ctrs, fun h => absurd h (by omega), fun h => absurd h (by omega)⟩
      · rw [lost by1] at t7
        obtain ⟨g, fifos, ctrs⟩ := counted (R.RGN_NO_DEST_DROP (rgnOfPort p))
        exact t7.to ⟨g, fifos, fun h => absurd h (by omega), fun _ => ctrs, fun h => absurd h (by omega)⟩
      · rw [silent by2] at t7
        refine t7.to ⟨Block.gone_dropFrame others, ?_, fun h => absurd h (by omega), fun h => absurd h (by omega), fun _ => ?_⟩
        · rw [Block.fifos_dropFrame, only]
        · rw [Block.ctrs_dropFrame, only]
    · intro eg cq H lossless
      have heg : eg < 256 := Bf.of_lt D.egPort (Vec.w f.rec_ 0)
      have hcq : cq < 256 := Bf.of_lt ⟨7, 0⟩ _
      have forwards : b.lookupS7 p = c.forward i cq [H] := forwarded act resolved kind
      rw [forwards] at t7
      have hH : H < 8 := by
        show eg / 32 < 8
        omega
      have die : dieOfPort (c.frame i).port = d := by rw [hy]; exact congrArg dieOfPort port
      have region : rgnOfPort (c.frame i).port = G := by rw [hy]; exact congrArg rgnOfPort port
      have frozen : c.frozen (H / 2) = b.frozen (H / 2) := by rw [only]; rfl
      have word : Vec.w (c.descriptor (c.frame i) cq) 0 = Vec.w f.rec_ 0 % 2 ^ 32 := by rw [c.descriptor_first, hy]
      have class_ : Vec.f (c.pktOf i cq).desc 0 D.class_ = Vec.f f.rec_ 0 D.class_ := by
        show D.class_.of (Vec.w (c.descriptor (c.frame i) cq) 0) = _
        rw [word, Bf.of_mod _ _ (by decide) (by decide), ← Vec.f]
      have told := Block.sendTo_tells (k := c.pktOf i cq) ⟨fs, only⟩ others die live hd hH
      rw [class_] at told
      obtain ⟨enters, waiting, drops⟩ := told
      refine ⟨fun held => ?_, fun out room => ?_, fun out full waits => ?_, fun out full lossy => ?_⟩
      · rw [Block.forward_held (by omega) (frozen.trans held), region] at t7
        refine t7.to ⟨Block.Gone.of_frames others (c.count_frames _ _), ?_, ?_⟩
        · rw [Block.fifos_dropFrame, Block.count_fifos, only]
        · rw [Block.ctrs_dropFrame, only, b.count_withFrames]
      · rw [Block.forward_live (frozen.trans out)] at t7
        obtain ⟨g, ctrs, fifo, rest⟩ := enters room
        have bytes : (c.pktOf i cq).bytes = f.bytes := by
          show (c.frame i).bytes = _
          rw [hy]
        have epoch : (c.pktOf i cq).epoch = f.epoch := by
          show (c.frame i).epoch = _
          rw [hy]
        have queue : Vec.f (c.pktOf i cq).desc 13 D.cq = cq := c.descriptor_queue (c.frame i) (by rw [hy]; exact len) hcq
        exact t7.to ⟨g, ctrs, ⟨c.pktOf i cq, fifo, bytes, epoch, word, queue⟩, rest⟩
      · rw [Block.forward_live (frozen.trans out)] at t7
        obtain ⟨mine, fifos, rest⟩ := waiting full waits
        rw [hy] at mine
        exact t7.to ⟨by rw [mine], by rw [mine], by rw [mine], fifos, rest⟩
      · rw [Block.forward_live (frozen.trans out)] at t7
        exact t7.to (drops full lossy)
  · have ends : b.llWaitEnd p = b.sendTo i { b.pktOf i (Vec.f f.desc 13 D.cq) with desc := f.desc } [H] := by
      unfold Block.llWaitEnd
      rw [there, ← dests]
      exact if_neg (ne_true_of_eq_false live)
    rw [ends] at tw
    have die : dieOfPort (b.frame i).port = d := by rw [hf]; exact congrArg dieOfPort port
    obtain ⟨enters, waiting, -⟩ := Block.sendTo_tells (k := { b.pktOf i (Vec.f f.desc 13 D.cq) with desc := f.desc }) (b := b) (c := b) (i := i)
      ⟨b.frames, rfl⟩ (fun _ _ => rfl) die live hd hH
    refine ⟨fun room => ?_, fun full waits => ?_⟩
    · obtain ⟨g, ctrs, fifo, -⟩ := enters room
      refine tw.to ⟨g, ctrs, _, fifo, ?_, rfl⟩
      show (b.frame i).bytes = _
      rw [hf]
    · obtain ⟨mine, fifos, -⟩ := waiting full waits
      exact tw.to ⟨by rw [mine], by rw [mine], fifos⟩
  · refine takes_congr tw ?_
    unfold Block.llWaitEnd
    rw [none]

end Sys2Proof.Machine
end

section
/-!
PROOFS. A frame at S1 that still waits for the read of an LPM bank (R201, R249): the read is served, and counts, as S1 runs; and from it
that O15 fails.
-/
namespace Sys2Proof.Machine
open Sys2Proof

/-- A labelled frame of port 0 that stands at S1 and waits for a read of an LPM bank. -/
def labelledFrame : Frame := { port := 0, loc := .pipe, stage := 1, hv := [(1, 8)], asks := some [.lpm 0 0] }

/-- A block with that frame, port 0 of which looks labels up, and whose tables are empty. -/
def labelAtS1 : Block :=
  { regs := [(R.PRT_LOOKUP_CFG 0, BitVec.ofNat 32 (F.PRT_LOOKUP_CFG_MPLS_EN.put 0 1))], frames := [(0, labelledFrame)] }

theorem labelAtS1_waits :
    labelAtS1.frozen (dieOfPort 0) = false ∧ labelAtS1.atStage 0 1 = some (0, labelledFrame) ∧ labelledFrame.over = false ∧
    (labelAtS1.askAll 0 (labelAtS1.s1Asks labelledFrame)).1 = true := by
  decide

theorem labelAtS1_key : ∃ key, labelAtS1.s1Key labelledFrame = some (true, false, key) ∧ labelAtS1.emFind 0 T.tunnel false key = none :=
  ⟨_, rfl, rfl⟩

/-- The read counts at its bank, beside the label that is missed. -/
theorem labelAtS1_counts :
    (labelAtS1.lookupS1 0).ctr (R.RGN_LPM_SEARCH 0 0) = 1 ∧ (labelAtS1.count (R.RGN_MISS_LABEL 0) 1).ctr (R.RGN_LPM_SEARCH 0 0) = 0 := by
  decide

/-- Refutes O15: a frame that comes to S1 with a read of an LPM bank that still waits has it served there, and the bank counts it, so that
a missed label is not all that is counted. -/
theorem not_searchStagesMergeWhatTheyFind : ¬ Obligations.SearchStagesMergeWhatTheyFind := by
  unfold Obligations.SearchStagesMergeWhatTheyFind
  intro h
  obtain ⟨live, there, goes, served⟩ := labelAtS1_waits
  obtain ⟨key, hkey, none⟩ := labelAtS1_key
  obtain ⟨-, s1, -⟩ := h labelAtS1 0 0 labelledFrame live rfl rfl
  obtain ⟨-, searches⟩ := s1 there
  obtain ⟨-, missed⟩ := searches true false key goes hkey served
  obtain ⟨t, takes, misses, -⟩ := missed none
  obtain ⟨counts, stands⟩ := labelAtS1_counts
  have runs : exec (.lookupS1 0) ⟨labelAtS1, []⟩ = .next ⟨labelAtS1.lookupS1 0, []⟩ := rfl
  have same : t = labelAtS1.lookupS1 0 := by
    have := (takes []).symm.trans runs
    injection this with this
    injection this
  have ctrs : t.ctrs = (labelAtS1.count (R.RGN_MISS_LABEL 0) 1).ctrs := misses.1
  have ctr : t.ctr (R.RGN_LPM_SEARCH 0 0) = (labelAtS1.count (R.RGN_MISS_LABEL 0) 1).ctr (R.RGN_LPM_SEARCH 0 0) := by
    rw [Block.ctr, ctrs, ← Block.ctr]
  rw [same, counts, stands] at ctr
  cases ctr

end Sys2Proof.Machine
end

section
/-!
PROOFS. A region whose list of queues is not in order (no state that a run reaches, but one that the statement speaks of): the cells of its
Silo count twice once a queue is written; and from it that O28 fails.
-/
namespace Sys2Proof.Machine
open Sys2Proof

/-- A frame of class queue 3 of region 0. -/
def siloBound : Pkt := { desc := [(13, 3 * 2 ^ 16)] }

/-- Queue 3 of region 0 is spilled, with half of the die's Silo granted; the list names queue 5 before it. -/
def disorderedQueues : Block :=
  { regs := [(R.RGN_QLIM 0 3, BitVec.ofNat 32 (F.RGN_QLIM_SILO_MAX.put 0 46080))],
    fifos := [(0, [{ pkt := siloBound }])],
    regions := [(0, { queues := [(5, { use := 1 }), (3, { spilled := true, silo := [{ pkt := siloBound, arr := 0, eg := 0, rw := 0, enq := 0, charge := 100000000 }] })] })] }

theorem disorderedQueues_offers :
    disorderedQueues.inputUp 0 0 = true ∧ disorderedQueues.inTurn 0 0 = true ∧
    nextWaiting false [] (disorderedQueues.input 0 0) = some 0 ∧ (disorderedQueues.die 0).refusing = false ∧
    disorderedQueues.qcfg 0 3 F.RGN_QCFG_PO_CLASS = 0 ∧ (disorderedQueues.judge 0 3 siloBound).1 = .silo := by
  decide
/-- There is room for the frame in the queue's Silo part and in the die's. -/
theorem disorderedQueues_room :
    let x := (disorderedQueues.region 0).queue 3
    x.siloCells + 64 ≤ disorderedQueues.fld (R.RGN_QLIM 0 3) F.RGN_QLIM_SILO_MAX * 4096 ∧
    disorderedQueues.siloGranted 0 + 64 ≤ 188743680 := by
  decide

/-- Writing queue 3 lists it twice, and the frame is refused for the die's Silo. -/
theorem disorderedQueues_refuses :
    ((disorderedQueues.frameAdmit 0 0 true).input 0 0).map (fun t => t.st) = [.refused] := by
  decide

/-- Refutes O28: where the queues of a region are not listed in order, a frame for which Silo has room is refused, for what Silo holds is
counted with the queue written. -/
theorem not_framesAreAdmittedStoredAndEnqueued : ¬ Obligations.FramesAreAdmittedStoredAndEnqueued := by
  unfold Obligations.FramesAreAdmittedStoredAndEnqueued
  intro h
  obtain ⟨up, turn, next, takesFrames, lossy, judged⟩ := disorderedQueues_offers
  obtain ⟨limit, granted⟩ := disorderedQueues_room
  obtain ⟨-, admits⟩ := h.1 disorderedQueues 0 0 true
  obtain ⟨-, unicast, -⟩ := admits 0 siloBound up turn next rfl
  obtain ⟨-, -, -, silo⟩ := unicast takesFrames (.inl (by decide)) lossy
  obtain ⟨goes, -⟩ := silo judged
  obtain ⟨t, takes, ⟨input, -⟩, -⟩ := goes ⟨limit, rfl, granted⟩
  have runs : exec (.frameAdmit 0 0 true) ⟨disorderedQueues, []⟩ = .next ⟨disorderedQueues.frameAdmit 0 0 true, []⟩ := rfl
  have same : t = disorderedQueues.frameAdmit 0 0 true := by
    have := (takes []).symm.trans runs
    injection this with this
    injection this
  have refused := disorderedQueues_refuses
  rw [← same, show t.input 0 0 = _ from input] at refused
  revert refused
  decide

end Sys2Proof.Machine
end

section
/-!
PROOFS. What the accounts of a region leave in it as they move cells (R293, R296 to R298): the pointers and the Silo parts of its queues, and
which frames it stores; a last pointer that is released frees its frame (R265, R289).
-/
namespace Sys2Proof.Machine
open Sys2Proof

variable {b c d : Block}

theorem SMap.mem_of_find_none {α : Type} {m : SMap α} {i : Nat} {v : α} (h : SMap.find m i = none) : (i, v) ∉ m := by
  induction m with
  | nil => exact List.not_mem_nil
  | cons e m ih =>
    obtain ⟨k, w⟩ := e
    rw [SMap.find] at h
    by_cases same : k = i
    · rw [if_pos same] at h
      cases h
    · rw [if_neg same] at h
      intro hmem
      obtain he | hm := List.mem_cons.mp hmem
      · cases he
        exact same rfl
      · exact ih h hm

/-- From b to c cells moved between accounts: of the queues only what counts their cells has changed, and no frame came to be stored. -/
structure Block.Recounts (b c : Block) : Prop where
  queue : ∀ G q, ∃ use grp, (c.region G).queue q = { (b.region G).queue q with use := use, grp := grp }
  gone : ∀ G sid, SMap.find (b.region G).stored sid = none → SMap.find (c.region G).stored sid = none

namespace Block.Recounts

theorem refl (b : Block) : b.Recounts b := ⟨fun _ _ => ⟨_, _, rfl⟩, fun _ _ h => h⟩
theorem trans (h : b.Recounts c) (k : c.Recounts d) : b.Recounts d := by
  refine ⟨fun G q => ?_, fun G sid none => k.gone G sid (h.gone G sid none)⟩
  obtain ⟨u, g, hu⟩ := h.queue G q
  obtain ⟨u', g', hu'⟩ := k.queue G q
  exact ⟨u', g', by rw [hu', hu]⟩

theorem of_regions (h : b.Recounts c) (same : d.regions = c.regions) : b.Recounts d := by
  have region (G : Nat) : d.region G = c.region G := by rw [Block.region, same, ← Block.region]
  exact h.trans ⟨fun G q => ⟨_, _, by rw [region]⟩, fun G sid none => by rw [region]; exact none⟩

theorem modRegion (h : b.Recounts c) (G : Nat) {f : Region → Region} (queues : ∀ g, (f g).queues = g.queues)
    (stored : ∀ sid, SMap.find (c.region G).stored sid = none → SMap.find (f (c.region G)).stored sid = none) : b.Recounts (c.modRegion G f) := by
  refine h.trans ⟨fun H q => ⟨((c.region H).queue q).use, ((c.region H).queue q).grp, ?_⟩, fun H sid none => ?_⟩
  · rw [Block.region_modRegion]
    split
    · rename_i e
      rw [Region.queue, queues, ← Region.queue, e]
    · rfl
  · rw [Block.region_modRegion]
    split
    · rename_i e
      subst e
      exact stored sid none
    · exact none

theorem modQueue (h : b.Recounts c) (G q : Nat) {f : Queue → Queue} (counts : ∀ x, ∃ use grp, f x = { x with use := use, grp := grp }) :
    b.Recounts (c.modQueue G q f) := by
  refine h.trans ⟨fun H r => ?_, fun H sid none => ?_⟩
  · rw [Block.modQueue, Block.region_modRegion]
    split
    · rename_i e
      subst e
      show ∃ use grp, SMap.get {} (SMap.mod {} (c.region H).queues q f) r = _
      rw [SMap.get_mod]
      split
      · rename_i e
        subst e
        exact counts _
      · exact ⟨_, _, rfl⟩
    · exact ⟨_, _, rfl⟩
  · rw [Block.modQueue, Block.region_modRegion]
    split
    · rename_i e
      subst e
      exact none
    · exact none

theorem modStored (h : b.Recounts c) {G sid : Nat} (f : Stored → Stored) (there : SMap.find (c.region G).stored sid ≠ none) :
    b.Recounts (c.modStored G sid f) :=
  h.modRegion G (fun _ => rfl) fun i none => by
    dsimp only
    rw [SMap.mod, SMap.find_set, if_neg (by rintro rfl; exact there none), none]

theorem setGroupOf (h : b.Recounts c) (G p n : Nat) (x : LlGroup) : b.Recounts (c.setGroupOf G p n x) :=
  (h.modRegion G (fun _ => rfl) fun _ none => none : b.Recounts (c.setGroup G (groupKey p n) x)).of_regions rfl
theorem settleGroup (h : b.Recounts c) (G p n : Nat) (x : LlGroup) : b.Recounts (c.settleGroup G p n x) := h.setGroupOf G p n _

theorem toReserve (h : b.Recounts c) (G q n : Nat) : b.Recounts (c.toReserve G q n) := by
  induction n generalizing c with
  | zero => exact h
  | succ n ih =>
    unfold Block.toReserve
    split
    · exact h
    · split
      · exact h
      · rename_i found
        have there := List.mem_of_find?_eq_some found
        exact ih (((h.modStored _ fun none => SMap.mem_of_find_none none there).modQueue _ _ fun _ => ⟨_, _, rfl⟩).settleGroup _ _ _ _)

theorem toGroups (h : b.Recounts c) (G q n : Nat) : b.Recounts (c.toGroups G q n) := by
  induction n generalizing c with
  | zero => exact h
  | succ n ih =>
    unfold Block.toGroups
    split
    · exact h
    · split
      · exact h
      · rename_i found
        have there := List.mem_reverse.mp (List.mem_of_find?_eq_some found)
        exact ih (((h.modStored _ fun none => SMap.mem_of_find_none none there).modQueue _ _ fun _ => ⟨_, _, rfl⟩).setGroupOf _ _ _ _)

theorem resplit (h : b.Recounts c) (G q : Nat) : b.Recounts (c.resplit G q) := by
  unfold Block.resplit
  split
  · exact h
  · exact (h.toReserve _ _ _).toGroups _ _ _

theorem freeStored (h : b.Recounts c) (G sid : Nat) : b.Recounts (c.freeStored G sid) := by
  have deleted : b.Recounts (c.modRegion G fun g => { g with stored := SMap.del g.stored sid, mcPend := g.mcPend.filter fun m => m.sid != sid }) :=
    h.modRegion G (fun _ => rfl) fun i none => by
      by_cases same : i = sid
      · subst same
        exact SMap.find_del_same _ _
      · exact (SMap.find_del_other _ same).trans none
  unfold Block.freeStored
  dsimp only
  split
  · exact deleted
  · have counted := deleted.modQueue G ((c.region G).frame sid).q
      (f := fun x => { x with use := x.use - ((c.region G).frame sid).own, grp := x.grp - ((c.region G).frame sid).grp }) fun _ => ⟨_, _, rfl⟩
    split
    · exact counted.resplit _ _
    · exact (counted.settleGroup _ _ _ _).resplit _ _

end Block.Recounts

/-- A stored frame that is freed is gone. -/
theorem Block.freeStored_gone (b : Block) (G sid : Nat) : SMap.find ((b.freeStored G sid).region G).stored sid = none := by
  have deleted : SMap.find (((b.modRegion G fun g =>
      { g with stored := SMap.del g.stored sid, mcPend := g.mcPend.filter fun m => m.sid != sid }).region G).stored) sid = none := by
    rw [Block.region_modRegion, if_pos rfl]
    exact SMap.find_del_same _ _
  unfold Block.freeStored
  dsimp only
  generalize b.modRegion G (fun g => { g with stored := SMap.del g.stored sid, mcPend := g.mcPend.filter fun m => m.sid != sid }) = c at deleted ⊢
  split
  · exact deleted
  · have counted := (Block.Recounts.refl c).modQueue G ((b.region G).frame sid).q
      (f := fun x => { x with use := x.use - ((b.region G).frame sid).own, grp := x.grp - ((b.region G).frame sid).grp }) fun _ => ⟨_, _, rfl⟩
    split
    · exact (counted.resplit _ _).gone G sid deleted
    · exact ((counted.settleGroup _ _ _ _).resplit _ _).gone G sid deleted

theorem Block.frame_modStored (b : Block) (G sid : Nat) (f : Stored → Stored) :
    ((b.modStored G sid f).region G).frame sid = f ((b.region G).frame sid) := by
  rw [Block.modStored, Block.region_modRegion, if_pos rfl]
  exact SMap.get_set_same _ _ _ _

theorem Block.owes_modStored (b : Block) (G sid : Nat) (f : Stored → Stored) (i : Nat) :
    ((b.modStored G sid f).region G).owes i = (b.region G).owes i := by
  rw [Block.modStored, Block.region_modRegion, if_pos rfl]
  rfl

/-- The last pointer of a frame that waits for none frees it (R265). -/
theorem Block.releasePtr_frees {G sid : Nat} (last : ((b.region G).frame sid).refs = 1) (owes : (b.region G).owes sid = false) :
    SMap.find ((b.releasePtr G sid).region G).stored sid = none := by
  unfold Block.releasePtr
  dsimp only
  rw [if_pos (by rw [Block.frame_modStored, Block.owes_modStored, last, owes]; rfl)]
  exact Block.freeStored_gone _ G sid

/-- A pointer that is released leaves the pointers and the Silo parts of every queue as they were. -/
theorem Block.releasePtr_queue (b : Block) (G sid H q : Nat) :
    ∃ use grp, ((b.releasePtr G sid).region H).queue q = { (b.region H).queue q with use := use, grp := grp } := by
  have stored : ((b.modStored G sid fun s => { s with refs := s.refs - 1 }).region H).queue q = (b.region H).queue q := by
    rw [Block.modStored, Block.region_modRegion]
    split
    · rename_i e
      rw [e]
      rfl
    · rfl
  unfold Block.releasePtr
  dsimp only
  split
  · rw [← stored]
    exact ((Block.Recounts.refl _).freeStored G sid).queue H q
  · rw [stored]
    exact ⟨_, _, rfl⟩

end Sys2Proof.Machine
end

section
/-!
PROOFS. The transmit island (R107 to R111, R116 to R119): what the wire leaves of the copies of a port, how a copy starts, ends and is cut;
and O30 from these.
-/
namespace Sys2Proof.Machine
open Sys2Proof

variable {b c d : Block} {p : Nat}

/-! ## What goes on the wire -/

/-- From b to c bytes went on the wire of port p, and came to its receiver in near-end loopback: its copies, what the regions store and the
settings of cut-through are as they were. -/
structure Block.Wired (p : Nat) (b c : Block) : Prop where
  tx : (c.port p).tx = (b.port p).tx
  regions : c.regions = b.regions
  word : c.word (R.PRT_CT_CFG p) = b.word (R.PRT_CT_CFG p)

namespace Block.Wired

theorem refl (b : Block) : b.Wired p b := ⟨rfl, rfl, rfl⟩
theorem trans (h : b.Wired p c) (k : c.Wired p d) : b.Wired p d := ⟨k.tx.trans h.tx, k.regions.trans h.regions, k.word.trans h.word⟩

theorem of_regs (h : b.Wired p c) (ports : d.ports = c.ports) (regions : d.regions = c.regions) (regs : d.regs = c.regs) : b.Wired p d :=
  h.trans ⟨by rw [Block.port, ports, ← Block.port], regions, Block.word_of_regs regs _⟩

theorem count (h : b.Wired p c) (a n : Nat) : b.Wired p (c.count a n) := h.of_regs (c.count_ports a n) (c.count_regions a n) (c.count_regs a n)
theorem pmc (h : b.Wired p c) (u : PUnit) (e q n : Nat) : b.Wired p (c.pmc u e q n) :=
  h.of_regs (c.pmc_ports u e q n) (c.pmc_regions u e q n) (c.pmc_regs u e q n)
theorem emit (h : b.Wired p c) (o : Output) : b.Wired p (c.emit o) := h.of_regs rfl rfl rfl
theorem addFrame (h : b.Wired p c) (f : Frame) : b.Wired p (c.addFrame f) := h.of_regs rfl rfl rfl

theorem modPort (h : b.Wired p c) (q : Nat) {f : Port → Port} (keeps : ∀ x, (f x).tx = x.tx) : b.Wired p (c.modPort q f) := by
  refine h.trans ⟨?_, rfl, rfl⟩
  rw [Block.port_modPort]
  split
  · rename_i e
    rw [keeps, e]
  · rfl

theorem setFld (h : b.Wired p c) {a : Nat} (apart : R.PRT_CT_CFG p ≠ a) (f : Bf) (v : Nat) : b.Wired p (c.setFld a f v) := by
  refine h.trans ⟨?_, c.setFld_regions a f v, c.word_setFld_ne f v apart⟩
  rw [Block.port, Block.setFld_ports, ← Block.port]

theorem orFld (h : b.Wired p c) {a : Nat} (apart : R.PRT_CT_CFG p ≠ a) (f : Bf) (v : Nat) : b.Wired p (c.orFld a f v) := h.setFld apart f _
theorem andNotFld (h : b.Wired p c) {a : Nat} (apart : R.PRT_CT_CFG p ≠ a) (f : Bf) (v : Nat) : b.Wired p (c.andNotFld a f v) :=
  h.setFld apart f _

theorem ite (h : b.Wired p c) (k : b.Wired p d) {P : Prop} [Decidable P] : b.Wired p (if P then c else d) := by
  split
  · exact h
  · exact k

theorem bwCount (h : b.Wired p c) (q rx tx : Nat) : b.Wired p (c.bwCount q rx tx) := h.modPort q fun x => by
  split <;> rfl

theorem each (h : b.Wired p c) (n : Nat) {f : Block → Nat → Block} (turn : ∀ (c : Block) k, b.Wired p c → b.Wired p (f c k)) : b.Wired p (c.each n f) :=
  foldl_inv (P := fun t => b.Wired p t) _ h fun c k _ hc => turn c k hc

theorem stgWatch (h : b.Wired p c) (q n : Nat) : b.Wired p (c.stgWatch q n) := by
  have high := (h.count (R.MAC_STG_XOFF_EVENTS q) 1).modPort q (f := fun x => { x with stgHigh := true }) fun _ => rfl
  unfold Block.stgWatch
  dsimp only
  split <;> split
  · exact high.modPort q fun _ => rfl
  · exact h.modPort q fun _ => rfl
  · exact high
  · exact h

/-- The settings of cut-through are none of the registers of the pauses and of preemption. -/
theorem ctCfg_apart : p < 256 → R.PRT_CT_CFG p ≠ R.MAC_PAUSE_STATUS p ∧ R.PRT_CT_CFG p ≠ R.PRT_PAUSE_WDOG_STATUS p ∧
    R.PRT_CT_CFG p ≠ R.PRT_CT_STATUS p ∧ R.PRT_CT_CFG p ≠ R.MAC_PREEMPT_STATUS p := by
  intro _
  unfold R.PRT_CT_CFG R.MAC_PAUSE_STATUS R.PRT_PAUSE_WDOG_STATUS R.PRT_CT_STATUS R.MAC_PREEMPT_STATUS prtBase macBase rgnBase dieBase
  omega

section
variable (hp : p < 256)
include hp

theorem unpause (h : b.Wired p c) (pri : Nat) : b.Wired p (c.unpause p pri) := by
  obtain ⟨pause, -⟩ := ctCfg_apart hp
  exact (h.andNotFld pause _ _).modPort p fun _ => rfl

theorem loadPause (h : b.Wired p c) (q pri : Nat) : b.Wired p (c.loadPause p q pri) := by
  obtain ⟨pause, watch, -⟩ := ctCfg_apart hp
  unfold Block.loadPause
  dsimp only
  split
  · split
    · exact (h.andNotFld watch _ _).unpause hp pri
    · exact h.modPort p fun _ => rfl
  · split
    · split
      · exact h.unpause hp pri
      · exact h
    · exact (h.orFld pause _ _).modPort p fun x => by split <;> rfl

theorem pauseReceive (h : b.Wired p c) (q : Nat) : b.Wired p (c.pauseReceive p q) := by
  unfold Block.pauseReceive
  split
  · exact h
  · split
    · exact (h.count _ _).each 8 fun c k hc => hc.loadPause hp q k
    · exact h.count _ _

theorem pfcReceive (h : b.Wired p c) (vec : Nat) (times : List Nat) : b.Wired p (c.pfcReceive p vec times) := by
  unfold Block.pfcReceive
  dsimp only
  split
  · exact h
  · split
    · refine (h.count _ _).each 8 fun c k hc => ?_
      split
      · exact hc.loadPause hp _ k
      · exact hc
    · exact h.count _ _

theorem ctrlReceive (h : b.Wired p c) (raw : List Byte) (err : Option RxErr) : b.Wired p (c.ctrlReceive p raw err) := by
  unfold Block.ctrlReceive
  split
  · exact h.count _ _
  · split
    · exact h.pauseReceive hp _
    · exact h.pfcReceive hp _ _
    · exact h.count _ _

theorem arrive (h : b.Wired p c) (raw : List Byte) (i : RxInfo) : b.Wired p (c.arrive p raw i) := by
  unfold Block.arrive
  split
  · exact h
  · dsimp only
    have noted : b.Wired p ((((c.count (R.MAC_FEC_CW_CORRECTED p) i.fecCorrected.toNat).count (R.MAC_FEC_SYM_CORRECTED p)
        i.fecSymbols.toNat).count (R.MAC_FEC_CW_UNCORRECTED p) i.fecBad.toNat).pmc (.mac p) 0x07 i.fecLane i.fecCorrected.toNat) :=
      (((h.count _ _).count _ _).count _ _).pmc _ _ _ _
    generalize (((c.count (R.MAC_FEC_CW_CORRECTED p) i.fecCorrected.toNat).count (R.MAC_FEC_SYM_CORRECTED p) i.fecSymbols.toNat).count
      (R.MAC_FEC_CW_UNCORRECTED p) i.fecBad.toNat).pmc (.mac p) 0x07 i.fecLane i.fecCorrected.toNat = d at noted ⊢
    generalize raw.take (d.fld (R.MAC_PORT_CFG p) F.MAC_PORT_CFG_MAX_FRAME) = bytes
    have land := noted.bwCount p bytes.length 0
    generalize d.bwCount p bytes.length 0 = e at land ⊢
    have good := (((land.count (R.MAC_RX_FRAMES_OK p) 1).count (R.MAC_RX_BYTES_OK p) raw.length).pmc (.mac p) 0x01 0xFFF 1).pmc
      (.mac p) 0x02 0xFFF raw.length
    generalize (decide (raw.length ≥ 14) && beAt raw 12 2 == 0x8808) = ctrl
    generalize d.rxError p raw i.quality = err
    generalize (i.late && decide (bytes.length > 256) && err.isSome && !ctrl) = late
    cases err with
    | none =>
      cases ctrl with
      | true =>
        simp only [if_true]
        exact land.ctrlReceive hp _ _
      | false =>
        simp only [Bool.false_eq_true, if_false, Option.isSome_none, Bool.false_and]
        exact ((good.count _ _).count _ _).ite ((good.addFrame _).stgWatch _ _)
    | some err =>
      have bad := land.ite (land.count (rxErrCounter p err) 1) (P := late = true)
      cases ctrl with
      | true =>
        simp only [if_true]
        exact bad.ctrlReceive hp _ _
      | false =>
        simp only [Bool.false_eq_true, if_false]
        generalize (if late = true then e else e.count (rxErrCounter p err) 1) = g at bad ⊢
        refine ((bad.count _ _).count _ _).ite (bad.ite ?_)
        refine ((bad.modPort p ?_).addFrame _).stgWatch _ _
        exact fun _ => rfl

theorem wireOut (h : b.Wired p c) (l : List Byte) : b.Wired p (c.wireOut p l) := by
  have sent := (h.emit (.wire p l)).bwCount p 0 l.length
  unfold Block.wireOut
  dsimp only
  split
  · exact sent.arrive hp _ _
  · exact sent

end

end Block.Wired

end Sys2Proof.Machine
end

section
/-!
PROOFS. The transmit path of a port (R107, R108, R111, R118, R119): which copy starts, what the end of the copy on the wire leaves.
-/
namespace Sys2Proof.Machine
open Sys2Proof

variable {b : Block} {p : Nat} {c d : TxCopy}

/-! ## The copies of a port -/

theorem Block.tx_modTx (b : Block) (p : Nat) (f : List TxCopy → List TxCopy) : ((b.modTx p f).port p).tx = f (b.port p).tx := by
  rw [Block.modTx, Block.port_modPort, if_pos rfl]

theorem Block.txAt_of_tx {l : List TxCopy} (tx : (b.port p).tx = l) (st : TxStage) : b.txAt p st = l.find? fun c => c.stage == st := by
  rw [Block.txAt, tx]

/-- Of one copy alone the path finds that copy at its stage, and nothing at another. -/
theorem Block.txAt_alone (tx : (b.port p).tx = [c]) (st : TxStage) : b.txAt p st = if c.stage = st then some c else none := by
  rw [Block.txAt_of_tx tx, List.find?_singleton]
  simp only [beq_iff_eq]

theorem Block.txAt_head {l : List TxCopy} (tx : (b.port p).tx = c :: l) {st : TxStage} (stage : c.stage = st) : b.txAt p st = some c := by
  rw [Block.txAt_of_tx tx, List.find?_cons_of_pos (by rw [stage, beq_self_eq_true])]

/-! ## The end of a copy -/

/-- The copy that goes leaves the path; its pointer is released, which leaves the rest of the block but for the accounts. -/
theorem Block.endTx_head {l : List TxCopy} {st : TxStage} (tx : (b.port p).tx = c :: l) (stage : c.stage = st) :
    b.endTx p st = (b.modTx p (delFirst st)).releasePtr (rgnOfPort p) c.sid ∧ ((b.endTx p st).port p).tx = l := by
  have same : b.endTx p st = (b.modTx p (delFirst st)).releasePtr (rgnOfPort p) c.sid := by
    rw [Block.endTx, Block.txAt_head tx stage]
  refine ⟨same, ?_⟩
  rw [same, ((Block.OnAccounts.refl _).releasePtr _ _).port p]
  show ((b.modTx p (delFirst st)).port p).tx = l
  rw [Block.tx_modTx, tx, delFirst, if_pos (by rw [stage, beq_self_eq_true])]

theorem Block.resumeTx_only (b : Block) (p : Nat) : ∃ ps, b.resumeTx p = { b with ports := ps } := by
  unfold Block.resumeTx
  dsimp only
  split
  · exact ⟨_, rfl⟩
  · exact ⟨_, rfl⟩

theorem Block.preemptEnd_only (b : Block) (p : Nat) :
    (∃ rs, b.preemptEnd p = { b with regs := rs }) ∧ ∀ a, a ≠ R.MAC_PREEMPT_STATUS p → (b.preemptEnd p).word a = b.word a := by
  unfold Block.preemptEnd Block.preemptOff
  dsimp only
  split
  · exact ⟨⟨_, rfl⟩, fun _ _ => rfl⟩
  · split
    · exact ⟨⟨_, rfl⟩, fun _ _ => rfl⟩
    · exact ⟨⟨_, rfl⟩, fun a other => b.word_setFld_ne _ _ other⟩

/-- After a copy's end the path may resume a preempted one, and ACTIVE may fall. -/
theorem Block.afterTx_only (b : Block) (p : Nat) :
    (∃ rs ps, b.afterTx p = { b with regs := rs, ports := ps }) ∧ ∀ a, a ≠ R.MAC_PREEMPT_STATUS p → (b.afterTx p).word a = b.word a := by
  obtain ⟨ps, resumed⟩ := b.resumeTx_only p
  obtain ⟨⟨rs, ended⟩, word⟩ := (b.resumeTx p).preemptEnd_only p
  refine ⟨⟨rs, ps, ?_⟩, fun a other => (word a other).trans ?_⟩
  · rw [Block.afterTx, ended, resumed]
  · rw [resumed]
    rfl

theorem Block.tx_afterTx (b : Block) (p : Nat) : ((b.afterTx p).port p).tx = ((b.resumeTx p).port p).tx := by
  obtain ⟨⟨rs, ended⟩, -⟩ := (b.resumeTx p).preemptEnd_only p
  rw [Block.afterTx, ended]
  rfl

/-- With no copy left none resumes. -/
theorem Block.tx_afterTx_nil (tx : (b.port p).tx = []) : ((b.afterTx p).port p).tx = [] := by
  rw [Block.tx_afterTx]
  unfold Block.resumeTx
  dsimp only
  split
  · exact tx
  · rw [Block.modTxAt, Block.tx_modTx, tx]
    rfl

/-- A preempted copy resumes where no express frame goes first (R119). -/
theorem Block.tx_afterTx_preempted (tx : (b.port p).tx = [d]) (cut : d.stage = .preempted) (free : (b.port p).ctrl = [] ∨ b.mayPreempt p = false) :
    ((b.afterTx p).port p).tx = [{ d with stage := .sending, startAt := b.ticks }] := by
  have idle : ¬((b.txAt p .sending).isSome || (b.mayPreempt p &&
      (!(b.port p).ctrl.isEmpty || (b.port p).tx.any fun c => c.stage == .fifo && c.express && !b.pausedOut p c))) = true := by
    rw [Block.txAt_alone tx, tx, if_neg (by rw [cut]; decide), List.any_cons, List.any_nil, cut]
    rcases free with none | never
    · rw [none]
      simp
    · rw [never]
      simp
  rw [Block.tx_afterTx, Block.resumeTx]
  rw [if_neg idle, Block.modTxAt, Block.tx_modTx, tx, modFirst, if_pos (by rw [cut]; rfl)]

/-- The end of the copy on the wire: it is off the path, and its last pointer frees its frame (R289). -/
structure Block.Ended (b : Block) (p sid : Nat) (t : Block) : Prop where
  only : ∃ rs rg ps, t = { b with regs := rs, regions := rg, ports := ps }
  word : ∀ a, a ≠ R.MAC_PREEMPT_STATUS p → t.word a = b.word a
  freed : ((b.region (rgnOfPort p)).frame sid).refs = 1 → (b.region (rgnOfPort p)).owes sid = false →
    SMap.find (t.region (rgnOfPort p)).stored sid = none

theorem Block.ended_tells {l : List TxCopy} (tx : (b.port p).tx = c :: l) (sending : c.stage = .sending) :
    b.Ended p c.sid ((b.endTx p .sending).afterTx p) := by
  obtain ⟨same, -⟩ := Block.endTx_head tx sending
  obtain ⟨⟨rs, ps, after⟩, word⟩ := (b.endTx p .sending).afterTx_only p
  obtain ⟨rg, ps', accounts⟩ := ((Block.OnAccounts.refl (b.modTx p (delFirst .sending))).releasePtr (rgnOfPort p) c.sid).only
  refine ⟨⟨rs, rg, ps, ?_⟩, fun a other => (word a other).trans ?_, fun last owes => ?_⟩
  · rw [after, same, accounts]
    rfl
  · rw [same, accounts]
    rfl
  · rw [after]
    show SMap.find ((b.endTx p .sending).region (rgnOfPort p)).stored c.sid = none
    rw [same]
    exact Block.releasePtr_frees last owes

/-- Of one copy alone nothing stays on the path. -/
theorem Block.ended_alone (tx : (b.port p).tx = [c]) (sending : c.stage = .sending) : (((b.endTx p .sending).afterTx p).port p).tx = [] :=
  Block.tx_afterTx_nil (Block.endTx_head tx sending).2

/-- A preempted copy resumes at the end of the one that preempted it. -/
theorem Block.ended_resumes (tx : (b.port p).tx = [c, d]) (sending : c.stage = .sending) (cut : d.stage = .preempted)
    (free : (b.port p).ctrl = [] ∨ b.mayPreempt p = false) :
    (((b.endTx p .sending).afterTx p).port p).tx = [{ d with stage := .sending, startAt := b.ticks }] := by
  obtain ⟨same, left⟩ := Block.endTx_head tx sending
  have accounts := (Block.OnAccounts.refl (b.modTx p (delFirst .sending))).releasePtr (rgnOfPort p) c.sid
  rw [← same] at accounts
  have ctrl : ((b.endTx p .sending).port p).ctrl = (b.port p).ctrl := by
    rw [accounts.port p]
    show ((b.modTx p (delFirst .sending)).port p).ctrl = _
    rw [Block.modTx, Block.port_modPort, if_pos rfl]
  obtain ⟨rg, ps, only⟩ := accounts.only
  have may : (b.endTx p .sending).mayPreempt p = b.mayPreempt p := by
    rw [only]
    rfl
  have ticks : (b.endTx p .sending).ticks = b.ticks := by
    rw [only]
    rfl
  rw [Block.tx_afterTx_preempted left cut (by rw [ctrl, may]; exact free), ticks]

end Sys2Proof.Machine
end

section
/-!
PROOFS. The end of a copy on the wire, whole or cut off (R92, R108, R111, R116, R289).
-/
namespace Sys2Proof.Machine
open Sys2Proof

variable {b t : Block} {p : Nat} {c d : TxCopy}

/-! ## The bytes on the wire -/

/-- Where the receiver does not take what is sent, the bytes go on the wire and count in the window. -/
theorem Block.wireOut_off (off : b.landsOff p = false) (l : List Byte) : b.wireOut p l = (b.emit (.wire p l)).bwCount p 0 l.length := by
  have off' : ((b.emit (.wire p l)).bwCount p 0 l.length).landsOff p = false := off
  rw [Block.wireOut]
  exact if_neg (ne_true_of_eq_false off')

theorem Block.ctr_wireOut (off : b.landsOff p = false) (l : List Byte) (a : Nat) : (b.wireOut p l).ctr a = b.ctr a := by
  rw [Block.wireOut_off off]
  rfl

theorem Block.out_wireOut (off : b.landsOff p = false) (l : List Byte) : (b.wireOut p l).out = b.out ++ [.wire p l] := by
  rw [Block.wireOut_off off]
  rfl

theorem Block.stopped_wireOut (off : b.landsOff p = false) (l : List Byte) (a : Nat) : (b.wireOut p l).stopped a = b.stopped a := by
  rw [Block.wireOut_off off]
  rfl

theorem Block.ctrl_wireOut (off : b.landsOff p = false) (l : List Byte) : ((b.wireOut p l).port p).ctrl = (b.port p).ctrl := by
  rw [Block.wireOut_off off, Block.bwCount, Block.port_modPort, if_pos rfl]
  split <;> rfl

theorem Block.mayPreempt_wireOut (off : b.landsOff p = false) (l : List Byte) : (b.wireOut p l).mayPreempt p = b.mayPreempt p := by
  rw [Block.wireOut_off off]
  rfl

theorem Block.ticks_wireOut (off : b.landsOff p = false) (l : List Byte) : (b.wireOut p l).ticks = b.ticks := by
  rw [Block.wireOut_off off]
  rfl

/-! ## The end of the copy, once its bytes are on the wire -/

/-- The copy on the wire has ended: the path is empty, and its last pointer frees its frame. -/
def Block.Left (b : Block) (p sid : Nat) (t : Block) : Prop :=
  (t.port p).tx = [] ∧ (((b.region (rgnOfPort p)).frame sid).refs = 1 → (b.region (rgnOfPort p)).owes sid = false →
    SMap.find (t.region (rgnOfPort p)).stored sid = none)

/-- A block with the copies and the regions of this one ends as this one would. -/
theorem Block.Left.of_same {x : Block} (tx : (x.port p).tx = [c]) (sending : c.stage = .sending) (regions : x.regions = b.regions) :
    b.Left p c.sid ((x.endTx p .sending).afterTx p) := by
  have region : x.region (rgnOfPort p) = b.region (rgnOfPort p) := by rw [Block.region, regions, ← Block.region]
  refine ⟨Block.ended_alone tx sending, ?_⟩
  rw [← region]
  exact (Block.ended_tells tx sending).freed

theorem Block.Left.of_wired {x : Block} (h : b.Wired p x) (tx : (b.port p).tx = [c]) (sending : c.stage = .sending) :
    b.Left p c.sid ((x.endTx p .sending).afterTx p) := .of_same (h.tx.trans tx) sending h.regions

theorem Block.Ended.out {sid : Nat} (h : b.Ended p sid t) : t.out = b.out := by
  obtain ⟨rs, rg, ps, rfl⟩ := h.only
  rfl

theorem Block.Ended.ctr {sid : Nat} (h : b.Ended p sid t) (a : Nat) : t.ctr a = b.ctr a := by
  obtain ⟨rs, rg, ps, rfl⟩ := h.only
  rfl

/-- What a frame ends with on the wire of port p: the bytes of its copy, padded, with their check sum; or stomped. -/
theorem Block.frameTxEnd_good (tx : b.txAt p .sending = some c) (whole : ((b.region (rgnOfPort p)).frame c.sid).whole = true)
    (good : ((b.region (rgnOfPort p)).frame c.sid).pkt.bad = false) :
    b.frameTxEnd p = ((((((b.wireOut p (padded c.bytes ++ fcsOf (padded c.bytes))).count (R.MAC_TX_FRAMES_OK p) 1).count (R.MAC_TX_BYTES_OK p)
      ((padded c.bytes).length + 4)).pmc (.mac p) 0x03 0xFFF 1).pmc (.mac p) 0x04 0xFFF ((padded c.bytes).length + 4)).endTx p .sending).afterTx p := by
  unfold Block.frameTxEnd
  rw [tx]
  simp only [whole, good, Bool.not_true, Bool.false_eq_true, if_false]

theorem Block.frameTxEnd_bad (tx : b.txAt p .sending = some c) (whole : ((b.region (rgnOfPort p)).frame c.sid).whole = true)
    (bad : ((b.region (rgnOfPort p)).frame c.sid).pkt.bad = true) :
    b.frameTxEnd p =
      (((b.wireOut p (padded c.bytes ++ stompOf (padded c.bytes))).count (R.MAC_TX_STOMP_BAD p) 1).endTx p .sending).afterTx p := by
  unfold Block.frameTxEnd
  rw [tx]
  simp only [whole, bad, Bool.not_true, Bool.false_eq_true, if_false, if_true]

/-- A frame that has not come whole does not end. -/
theorem Block.frameTxEnd_early (tx : b.txAt p .sending = some c) (part : ((b.region (rgnOfPort p)).frame c.sid).whole = false) :
    b.frameTxEnd p = b := by
  unfold Block.frameTxEnd
  rw [tx]
  simp only [part, Bool.not_false, if_true]

theorem Block.txUnderrun_whole (tx : b.txAt p .sending = some c) (whole : ((b.region (rgnOfPort p)).frame c.sid).whole = true) (n : Nat) :
    b.txUnderrun p n = b := by
  unfold Block.txUnderrun
  rw [tx]
  simp only [whole, if_true]

section
variable (hp : p < 256) (tx : (b.port p).tx = [c]) (sending : c.stage = .sending)
  (whole : ((b.region (rgnOfPort p)).frame c.sid).whole = true)
include hp tx sending whole

/-- A whole frame ends with its check sum. -/
theorem Block.frameTxEnd_tells (good : ((b.region (rgnOfPort p)).frame c.sid).pkt.bad = false) :
    b.Left p c.sid (b.frameTxEnd p) ∧
      (b.landsOff p = false → (b.frameTxEnd p).out = b.out ++ [.wire p (padded c.bytes ++ fcsOf (padded c.bytes))] ∧
        (b.frozen (dieOfPort p) = false →
          (b.frameTxEnd p).ctr (R.MAC_TX_FRAMES_OK p) = (b.ctr (R.MAC_TX_FRAMES_OK p) + 1) % 2 ^ 64)) := by
  have wired := (((((Block.Wired.refl (p := p) b).wireOut hp (padded c.bytes ++ fcsOf (padded c.bytes))).count (R.MAC_TX_FRAMES_OK p) 1).count
    (R.MAC_TX_BYTES_OK p) ((padded c.bytes).length + 4)).pmc (.mac p) 0x03 0xFFF 1).pmc (.mac p) 0x04 0xFFF ((padded c.bytes).length + 4)
  have ended := Block.ended_tells (wired.tx.trans tx) sending
  rw [Block.frameTxEnd_good (Block.txAt_head tx sending) whole good]
  refine ⟨.of_wired wired tx sending, fun off => ⟨?_, fun runs => ?_⟩⟩
  · rw [ended.out, Block.pmc_out, Block.pmc_out, Block.count_out, Block.count_out, Block.out_wireOut off]
  · rw [ended.ctr]
    unfold R.MAC_TX_FRAMES_OK
    rw [Block.ctr_pmc_mac _ _ _ _ _ (by omega), Block.ctr_pmc_mac _ _ _ _ _ (by omega),
      Block.ctr_count_other _ _ (by unfold R.MAC_TX_BYTES_OK; omega), Block.ctr_count_same, Block.ctr_wireOut off]
    rw [Block.stopped_wireOut off, b.stopped_mac hp (by omega), runs]

/-- A frame whose tail was marked bad ends stomped. -/
theorem Block.frameTxEnd_stomps (bad : ((b.region (rgnOfPort p)).frame c.sid).pkt.bad = true) :
    b.Left p c.sid (b.frameTxEnd p) ∧
      (b.landsOff p = false → (b.frameTxEnd p).out = b.out ++ [.wire p (padded c.bytes ++ stompOf (padded c.bytes))]) := by
  have wired := ((Block.Wired.refl (p := p) b).wireOut hp (padded c.bytes ++ stompOf (padded c.bytes))).count (R.MAC_TX_STOMP_BAD p) 1
  have ended := Block.ended_tells (wired.tx.trans tx) sending
  rw [Block.frameTxEnd_bad (Block.txAt_head tx sending) whole bad]
  refine ⟨.of_wired wired tx sending, fun off => ?_⟩
  rw [ended.out, Block.count_out, Block.out_wireOut off]

end

/-- A preempted copy resumes at the end of the one that preempted it. -/
theorem Block.frameTxEnd_resumes (hp : p < 256) (tx : (b.port p).tx = [c, d]) (sending : c.stage = .sending) (cut : d.stage = .preempted)
    (whole : ((b.region (rgnOfPort p)).frame c.sid).whole = true) (off : b.landsOff p = false)
    (free : (b.port p).ctrl = [] ∨ b.mayPreempt p = false) :
    ((b.frameTxEnd p).port p).tx = [{ d with stage := .sending, startAt := b.ticks }] := by
  have of_counted {l : List Byte} {x : Block} (counted : (b.wireOut p l).Counted x) :
      (((x.endTx p .sending).afterTx p).port p).tx = [{ d with stage := .sending, startAt := b.ticks }] := by
    obtain ⟨cs, only⟩ := counted
    have port : x.port p = (b.wireOut p l).port p := by rw [only]; rfl
    have may : x.mayPreempt p = b.mayPreempt p := (by rw [only]; rfl : _ = (b.wireOut p l).mayPreempt p).trans (Block.mayPreempt_wireOut off l)
    have ticks : x.ticks = b.ticks := (by rw [only] : _ = (b.wireOut p l).ticks).trans (Block.ticks_wireOut off l)
    rw [← ticks]
    refine Block.ended_resumes ?_ sending cut ?_
    · rw [port, ((Block.Wired.refl b).wireOut hp l).tx, tx]
    · rw [port, may, Block.ctrl_wireOut off]
      exact free
  cases bad : ((b.region (rgnOfPort p)).frame c.sid).pkt.bad with
  | false =>
    rw [Block.frameTxEnd_good (Block.txAt_head tx sending) whole bad]
    exact of_counted (((((Block.Counted.refl _).count _ _).count _ _).pmc _ _ _ _).pmc _ _ _ _)
  | true =>
    rw [Block.frameTxEnd_bad (Block.txAt_head tx sending) whole bad]
    exact of_counted ((Block.Counted.refl _).count _ _)

/-! ## Underruns (R108) -/

/-- The block with the threshold of port p stepped up to th + 1. -/
def Block.ctStep (b : Block) (p th : Nat) : Block :=
  (((b.setFld (R.PRT_CT_CFG p) F.PRT_CT_CFG_THRESH (th + 1)).raise (R.PRT_CT_STATUS p) F.PRT_CT_STATUS_STEPPED).setFld (R.PRT_CT_STATUS p)
    F.PRT_CT_STATUS_AT_MAX (b2n (th + 1 == 32))).count (R.PRT_CT_STEPS p) 1

theorem Block.ctStep_tells (b : Block) (p : Nat) {th : Nat} (below : th < 32) :
    (b.ctStep p th).ports = b.ports ∧ (b.ctStep p th).regions = b.regions ∧ (b.ctStep p th).out = b.out ∧
      (b.ctStep p th).fld (R.PRT_CT_CFG p) F.PRT_CT_CFG_THRESH = th + 1 := by
  have apart : R.PRT_CT_CFG p ≠ R.PRT_CT_STATUS p := by unfold R.PRT_CT_CFG R.PRT_CT_STATUS; omega
  unfold Block.ctStep
  refine ⟨by rw [Block.count_ports]; rfl, by rw [Block.count_regions]; rfl, by rw [Block.count_out]; rfl, ?_⟩
  rw [Block.fld, Block.word_of_regs (Block.count_regs ..), Block.word_setFld_ne _ _ _ apart, Block.raise, Block.word_setFld_ne _ _ _ apart,
    ← Block.fld, Block.fld_setFld_same _ _ F.PRT_CT_CFG_THRESH _ (by decide) (by decide)]
  exact Nat.mod_eq_of_lt (Nat.lt_of_lt_of_le (Nat.succ_lt_succ below) (by decide))

/-- The block after the stomped bytes of an underrun are on the wire, and it is counted and told. -/
def Block.cutOff (b : Block) (p : Nat) (c : TxCopy) (n : Nat) : Block :=
  ((b.wireOut p (c.bytes.take n ++ stompOf (c.bytes.take n))).count (R.MAC_TX_STOMP_UNDERRUN p) 1).sendOncePerMs 0xD p 0x1B 0

theorem Block.cutOff_wired (hp : p < 256) (b : Block) (c : TxCopy) (n : Nat) : b.Wired p (b.cutOff p c n) := by
  rw [Block.cutOff, Block.sendOncePerMs]
  exact (((Block.Wired.refl b).wireOut hp _).count _ _).of_regs (Block.sendLimited_ports ..) (Block.sendLimited_regions ..) (Block.sendLimited_regs ..)

theorem Block.cutOff_out (off : b.landsOff p = false) (c : TxCopy) (n : Nat) :
    (b.cutOff p c n).out = b.out ++ [.wire p (c.bytes.take n ++ stompOf (c.bytes.take n))] := by
  rw [Block.cutOff, Block.sendOncePerMs, Block.sendLimited_out, Block.count_out, Block.out_wireOut off]

theorem Block.txUnderrun_cut (tx : b.txAt p .sending = some c) (part : ((b.region (rgnOfPort p)).frame c.sid).whole = false) (n : Nat) :
    b.txUnderrun p n = ((if ((b.cutOff p c n).flag (R.PRT_CT_CFG p) F.PRT_CT_CFG_STEP_EN &&
        decide ((b.cutOff p c n).fld (R.PRT_CT_CFG p) F.PRT_CT_CFG_THRESH < 32)) = true then
      (b.cutOff p c n).ctStep p ((b.cutOff p c n).fld (R.PRT_CT_CFG p) F.PRT_CT_CFG_THRESH) else b.cutOff p c n).endTx p .sending).afterTx p := by
  unfold Block.txUnderrun
  rw [tx]
  simp only [part, Bool.false_eq_true, if_false]
  unfold Block.ctStep Block.cutOff
  rfl

/-- A frame that the buffer does not feed in time ends stomped, and the threshold may step up. -/
theorem Block.txUnderrun_tells (hp : p < 256) (tx : (b.port p).tx = [c]) (sending : c.stage = .sending)
    (part : ((b.region (rgnOfPort p)).frame c.sid).whole = false) (n : Nat) :
    b.Left p c.sid (b.txUnderrun p n) ∧
      (b.landsOff p = false → (b.txUnderrun p n).out = b.out ++ [.wire p (c.bytes.take n ++ stompOf (c.bytes.take n))]) ∧
      (b.txUnderrun p n).fld (R.PRT_CT_CFG p) F.PRT_CT_CFG_THRESH =
        if b.flag (R.PRT_CT_CFG p) F.PRT_CT_CFG_STEP_EN = true ∧ b.fld (R.PRT_CT_CFG p) F.PRT_CT_CFG_THRESH < 32 then
          b.fld (R.PRT_CT_CFG p) F.PRT_CT_CFG_THRESH + 1 else b.fld (R.PRT_CT_CFG p) F.PRT_CT_CFG_THRESH := by
  have wired := Block.cutOff_wired hp b c n
  have fld (f : Bf) : (b.cutOff p c n).fld (R.PRT_CT_CFG p) f = b.fld (R.PRT_CT_CFG p) f := by
    rw [Block.fld, wired.word, ← Block.fld]
  have apart : R.PRT_CT_CFG p ≠ R.MAC_PREEMPT_STATUS p := by
    obtain ⟨-, -, -, h⟩ := Block.Wired.ctCfg_apart hp
    exact h
  have ends {x : Block} (tx' : (x.port p).tx = [c]) :
      (((x.endTx p .sending).afterTx p).out = x.out) ∧
        ((x.endTx p .sending).afterTx p).fld (R.PRT_CT_CFG p) F.PRT_CT_CFG_THRESH = x.fld (R.PRT_CT_CFG p) F.PRT_CT_CFG_THRESH := by
    have ended := Block.ended_tells tx' sending
    exact ⟨ended.out, by rw [Block.fld, ended.word _ apart, ← Block.fld]⟩
  rw [Block.txUnderrun_cut (Block.txAt_head tx sending) part, Block.flag, fld, fld, ← Block.flag]
  by_cases steps : b.flag (R.PRT_CT_CFG p) F.PRT_CT_CFG_STEP_EN = true ∧ b.fld (R.PRT_CT_CFG p) F.PRT_CT_CFG_THRESH < 32
  · obtain ⟨enabled, below⟩ := steps
    obtain ⟨ports, regions, out, th⟩ := (b.cutOff p c n).ctStep_tells p below
    have tx' : (((b.cutOff p c n).ctStep p (b.fld (R.PRT_CT_CFG p) F.PRT_CT_CFG_THRESH)).port p).tx = [c] := by
      rw [Block.port, ports, ← Block.port, wired.tx, tx]
    rw [if_pos (by rw [enabled, decide_eq_true below]; rfl), if_pos ⟨enabled, below⟩]
    obtain ⟨out', th'⟩ := ends tx'
    exact ⟨.of_same tx' sending (regions.trans wired.regions), fun off => by rw [out', out, Block.cutOff_out off], th'.trans th⟩
  · rw [if_neg (by simpa using steps), if_neg steps]
    obtain ⟨out', th'⟩ := ends (wired.tx.trans tx)
    exact ⟨.of_wired wired tx sending, fun off => by rw [out', Block.cutOff_out off], by rw [th', fld]⟩

end Sys2Proof.Machine
end

section
/-!
PROOFS. FRAME_START (R92, R99, R101, R107, R116, R118), and O30.
-/
namespace Sys2Proof.Machine
open Sys2Proof

variable {b : Block} {p got cut : Nat} {c d : TxCopy}

/-! ## A copy that stands alone -/

theorem Block.nextStart_paused (tx : (b.port p).tx = [c]) (held : b.pausedOut p c = true) : b.nextStart p = none := by
  rw [Block.nextStart, tx, List.filter_singleton, held, Bool.not_true, Bool.and_false]
  rfl

theorem Block.nextStart_alone (tx : (b.port p).tx = [c]) (fifo : c.stage = .fifo) (free : b.pausedOut p c = false) : b.nextStart p = some c := by
  rw [Block.nextStart, tx, List.filter_singleton, free, fifo]
  cases h : c.express
  · simp [h]
  · simp [h]

/-- Behind a frame on the wire the copy that may start is the express one. -/
theorem Block.nextStart_behind (tx : (b.port p).tx = [d, c]) (sending : d.stage = .sending) (fifo : c.stage = .fifo)
    (free : b.pausedOut p c = false) (express : c.express = true) : b.nextStart p = some c := by
  have left : ([d, c].filter fun c => c.stage == .fifo && !b.pausedOut p c) = [c] := by
    rw [List.filter_cons_of_neg (by rw [sending]; exact Bool.false_ne_true), List.filter_singleton, free, fifo]
    rfl
  rw [Block.nextStart, tx, left, List.find?_singleton, if_pos express]

/-- The block with the bytes come of the copy that starts next. -/
def Block.filled (b : Block) (p got : Nat) (c : TxCopy) : Block := b.modTx p (putCopy c (c.fill got))

theorem putCopy_head (c z : TxCopy) (l : List TxCopy) : putCopy c z (c :: l) = z :: l := by rw [putCopy, if_pos (by rw [beq_self_eq_true])]
theorem dropCopy_head (c : TxCopy) (l : List TxCopy) : dropCopy c (c :: l) = l := by rw [dropCopy, if_pos (by rw [beq_self_eq_true])]

theorem Block.tx_filled (tx : (b.port p).tx = [c]) (got : Nat) : ((b.filled p got c).port p).tx = [c.fill got] := by
  rw [Block.filled, Block.tx_modTx, tx, putCopy_head]

theorem Block.ctrl_modTx (b : Block) (p : Nat) (f : List TxCopy → List TxCopy) : ((b.modTx p f).port p).ctrl = (b.port p).ctrl := by
  rw [Block.modTx, Block.port_modPort, if_pos rfl]

/-- FRAME_START with copy c next. -/
theorem Block.frameStart_next (next : b.nextStart p = some c) (got cut : Nat) :
    b.frameStart p got cut =
      let e := b.filled p got c
      let z := c.fill got
      let s := (b.region (rgnOfPort p)).frame c.sid
      let ready := decide (z.filled ≥ min (e.fld (R.PRT_CT_CFG p) F.PRT_CT_CFG_THRESH * 64) z.bytes.length)
      let may := if (e.txAt p .sending).isSome then z.express && e.mayEnter p cut
        else (e.txAt p .preempted).isNone || (z.express && e.mayPreempt p)
      if !ready || !may || !(e.port p).ctrl.isEmpty || (e.txAt p .csum).isSome || e.frozen (dieOfPort p)
        || !e.flag (R.MAC_LINK_STATUS p) F.MAC_LINK_STATUS_LINK_UP then e
      else if s.pkt.bad then ((e.count (R.MAC_TX_BAD_DROP p) 1).modTx p (dropCopy z)).releasePtr (rgnOfPort p) z.sid
      else if e.fld (R.MAC_PORT_STATE p) F.MAC_PORT_STATE_LB_MODE == 2 then
        ((e.count (R.MAC_TX_LINKDOWN_DROP p) 1).modTx p (dropCopy z)).releasePtr (rgnOfPort p) z.sid
      else
        let f := e.cutAt p cut
        let f := if s.whole then f else f.pmc (.prt p) 0x08 0xFFF 1
        f.modTx p (putCopy z { z with stage := .sending, bytes := f.ptpBytes p z, startAt := f.ticks }) := by
  unfold Block.frameStart
  rw [next]
  rfl
/-! ## What the bytes on the wire are read from -/

theorem Block.portBase_modTx (b : Block) (p : Nat) (f : List TxCopy → List TxCopy) : (b.modTx p f).portBase p = b.portBase p := by
  rw [Block.portBase, Block.portBase, Block.modTx, Block.port_modPort, if_pos rfl]
  rfl

/-- The bytes of a copy do not depend on which copies the path holds. -/
theorem Block.ptpBytes_modTx (b : Block) (p : Nat) (f : List TxCopy → List TxCopy) (z : TxCopy) :
    (b.modTx p f).ptpBytes p z = b.ptpBytes p z := by
  have instant : (b.modTx p f).txInstant p = b.txInstant p := by
    rw [Block.txInstant, Block.portBase_modTx]
    rfl
  unfold Block.ptpBytes
  rw [instant, Block.portBase_modTx]
  rfl

theorem Block.Counted.ptpBytes {e : Block} (h : b.Counted e) (q : Nat) (z : TxCopy) : e.ptpBytes q z = b.ptpBytes q z := by
  obtain ⟨cs, rfl⟩ := h
  rfl

theorem Block.Counted.ticks {e : Block} (h : b.Counted e) : e.ticks = b.ticks := by
  obtain ⟨cs, rfl⟩ := h
  rfl

/-! ## One copy alone -/

/-- A frame that is dropped as it would start is off the path, and its last pointer frees it. -/
theorem Block.dropped_tells (tx : (b.port p).tx = [c]) (got a : Nat) :
    let t := (((b.filled p got c).count a 1).modTx p (dropCopy (c.fill got))).releasePtr (rgnOfPort p) (c.fill got).sid
    b.Left p c.sid t ∧ t.out = b.out ∧ (b.stopped a = false → t.ctr a = (b.ctr a + 1) % 2 ^ 64) := by
  intro t
  have accounts := (Block.OnAccounts.refl (((b.filled p got c).count a 1).modTx p (dropCopy (c.fill got)))).releasePtr (rgnOfPort p)
    (c.fill got).sid
  have region : (((b.filled p got c).count a 1).modTx p (dropCopy (c.fill got))).region (rgnOfPort p) = b.region (rgnOfPort p) := by
    show ((b.filled p got c).count a 1).region (rgnOfPort p) = _
    rw [Block.region, Block.count_regions]
    rfl
  have freed : ((b.region (rgnOfPort p)).frame c.sid).refs = 1 → (b.region (rgnOfPort p)).owes c.sid = false →
      SMap.find (t.region (rgnOfPort p)).stored c.sid = none := by
    rw [← region]
    exact Block.releasePtr_frees
  refine ⟨⟨?_, freed⟩, ?_, fun runs => ?_⟩
  · rw [accounts.port p]
    show ((((b.filled p got c).count a 1).modTx p (dropCopy (c.fill got))).port p).tx = []
    rw [Block.tx_modTx, Block.port, Block.count_ports, ← Block.port, Block.tx_filled tx, dropCopy_head]
  · obtain ⟨rg, ps, only⟩ := accounts.only
    rw [show t = _ from only]
    show ((b.filled p got c).count a 1).out = b.out
    rw [Block.count_out]
    rfl
  · obtain ⟨rg, ps, only⟩ := accounts.only
    have counted : ((b.filled p got c).count a 1).ctr a = ((b.filled p got c).ctr a + 1) % 2 ^ 64 := Block.ctr_count_same _ _ _ runs
    rw [show t = _ from only]
    exact counted

/-- A copy that starts is the one that is being sent; nothing else is on the path. -/
theorem Block.starts_tells (tx : (b.port p).tx = [c]) {f : Block} (counted : (b.filled p got c).Counted f) :
    let z := c.fill got
    let t := f.modTx p (putCopy z { z with stage := .sending, bytes := f.ptpBytes p z, startAt := f.ticks })
    (t.port p).tx = [{ z with stage := .sending, bytes := b.ptpBytes p z, startAt := b.ticks }] ∧ t.out = b.out ∧ t.regions = b.regions := by
  intro z t
  have ptp : f.ptpBytes p z = b.ptpBytes p z := (counted.ptpBytes p z).trans (b.ptpBytes_modTx ..)
  have ticks : f.ticks = b.ticks := counted.ticks
  obtain ⟨cs, only⟩ := counted
  refine ⟨?_, ?_, ?_⟩
  · have tx' : (f.port p).tx = [z] := by
      rw [only]
      exact Block.tx_filled tx got
    rw [Block.tx_modTx, tx', putCopy_head, ptp, ticks]
  · show f.out = _
    rw [only]
    rfl
  · show f.regions = _
    rw [only]
    rfl

section
variable (tx : (b.port p).tx = [c]) (fifo : c.stage = .fifo) (free : b.pausedOut p c = false)
include tx fifo free

/-- A copy that is not ready, or may not start, waits with the bytes that have come. -/
theorem Block.frameStart_waits (cut : Nat) (held : ¬(min (b.fld (R.PRT_CT_CFG p) F.PRT_CT_CFG_THRESH * 64) c.bytes.length ≤ (c.fill got).filled) ∨
    ¬(b.frozen (dieOfPort p) = false ∧ b.flag (R.MAC_LINK_STATUS p) F.MAC_LINK_STATUS_LINK_UP = true ∧ (b.port p).ctrl = [])) :
    b.frameStart p got cut = b.filled p got c := by
  rw [Block.frameStart_next (Block.nextStart_alone tx fifo free)]
  refine if_pos ?_
  have ctrl : ((b.filled p got c).port p).ctrl = (b.port p).ctrl := Block.ctrl_modTx ..
  have thresh : (b.filled p got c).fld (R.PRT_CT_CFG p) F.PRT_CT_CFG_THRESH = b.fld (R.PRT_CT_CFG p) F.PRT_CT_CFG_THRESH := rfl
  have frozen : (b.filled p got c).frozen (dieOfPort p) = b.frozen (dieOfPort p) := rfl
  have up : (b.filled p got c).flag (R.MAC_LINK_STATUS p) F.MAC_LINK_STATUS_LINK_UP = b.flag (R.MAC_LINK_STATUS p) F.MAC_LINK_STATUS_LINK_UP := rfl
  rw [ctrl, thresh, frozen, up]
  rcases held with unready | barred
  · have short : decide ((c.fill got).filled ≥ min (b.fld (R.PRT_CT_CFG p) F.PRT_CT_CFG_THRESH * 64) (c.fill got).bytes.length) = false :=
      decide_eq_false unready
    rw [short]
    rfl
  · cases hf : b.frozen (dieOfPort p)
    · cases hu : b.flag (R.MAC_LINK_STATUS p) F.MAC_LINK_STATUS_LINK_UP
      · simp
      · cases hc : (b.port p).ctrl with
        | nil => exact absurd ⟨hf, hu, hc⟩ barred
        | cons _ _ => simp
    · simp

section
variable (ready : min (b.fld (R.PRT_CT_CFG p) F.PRT_CT_CFG_THRESH * 64) c.bytes.length ≤ (c.fill got).filled)
  (run : b.frozen (dieOfPort p) = false) (up : b.flag (R.MAC_LINK_STATUS p) F.MAC_LINK_STATUS_LINK_UP = true) (quiet : (b.port p).ctrl = [])
include ready run up quiet

/-- A copy that is ready and may start is dropped, or starts. -/
theorem Block.frameStart_goes (cut : Nat) :
    b.frameStart p got cut =
      let e := b.filled p got c
      let z := c.fill got
      let s := (b.region (rgnOfPort p)).frame c.sid
      if s.pkt.bad then ((e.count (R.MAC_TX_BAD_DROP p) 1).modTx p (dropCopy z)).releasePtr (rgnOfPort p) z.sid
      else if b.fld (R.MAC_PORT_STATE p) F.MAC_PORT_STATE_LB_MODE == 2 then
        ((e.count (R.MAC_TX_LINKDOWN_DROP p) 1).modTx p (dropCopy z)).releasePtr (rgnOfPort p) z.sid
      else
        let f := if s.whole then e else e.pmc (.prt p) 0x08 0xFFF 1
        f.modTx p (putCopy z { z with stage := .sending, bytes := f.ptpBytes p z, startAt := f.ticks }) := by
  have tx' := Block.tx_filled tx got
  have at_ (st : TxStage) (other : st ≠ .fifo) : (b.filled p got c).txAt p st = none := by
    rw [Block.txAt_alone tx', if_neg (by rw [show (c.fill got).stage = .fifo from fifo]; exact other.symm)]
  have ctrl : ((b.filled p got c).port p).ctrl = [] := (Block.ctrl_modTx ..).trans quiet
  have thresh : decide ((c.fill got).filled ≥ min ((b.filled p got c).fld (R.PRT_CT_CFG p) F.PRT_CT_CFG_THRESH * 64) (c.fill got).bytes.length) = true :=
    decide_eq_true ready
  have frozen : (b.filled p got c).frozen (dieOfPort p) = false := run
  have up' : (b.filled p got c).flag (R.MAC_LINK_STATUS p) F.MAC_LINK_STATUS_LINK_UP = true := up
  have cutAt : (b.filled p got c).cutAt p cut = b.filled p got c := by
    rw [Block.cutAt, at_ .sending (by decide)]
    rfl
  rw [Block.frameStart_next (Block.nextStart_alone tx fifo free)]
  dsimp only
  rw [cutAt, thresh, at_ .sending (by decide), at_ .preempted (by decide), at_ .csum (by decide), ctrl, frozen, up']
  exact if_neg Bool.false_ne_true

end
end

/-! ## An express copy over a preemptable one -/

/-- The frame on the wire is cut, and the express copy starts (R118). -/
theorem Block.frameStart_preempts (tx : (b.port p).tx = [d, c]) (sending : d.stage = .sending) (slow : d.express = false)
    (fifo : c.stage = .fifo) (express : c.express = true) (run : b.frozen (dieOfPort p) = false)
    (up : b.flag (R.MAC_LINK_STATUS p) F.MAC_LINK_STATUS_LINK_UP = true) (quiet : (b.port p).ctrl = []) (free : b.pausedOut p c = false)
    (may : b.mayPreempt p = true) (active : b.flag (R.MAC_PREEMPT_STATUS p) F.MAC_PREEMPT_STATUS_ACTIVE = true)
    (cutOk : b.mayCut p d cut = true) (come : c.bytes.length ≤ got) (small : c.bytes.length ≤ 4096)
    (good : ((b.region (rgnOfPort p)).frame c.sid).pkt.bad = false) (wire : b.fld (R.MAC_PORT_STATE p) F.MAC_PORT_STATE_LB_MODE ≠ 2) :
    ∃ l, ((b.frameStart p got cut).port p).tx =
      [{ d with stage := .preempted, sent := cut }, { c.fill got with stage := .sending, bytes := l, startAt := b.ticks }] := by
  have apart {x : TxCopy} (h : x.stage ≠ .fifo) {z : TxCopy} (hz : z.stage = .fifo) : ¬(x == z) = true := by
    rw [beq_iff_eq]
    rintro rfl
    exact h hz
  have zfifo : (c.fill got).stage = .fifo := fifo
  have tx' : ((b.filled p got c).port p).tx = [d, c.fill got] := by
    rw [Block.filled, Block.tx_modTx, tx, putCopy, if_neg (apart (by rw [sending]; decide) fifo), putCopy_head]
  have on : (b.filled p got c).txAt p .sending = some d := Block.txAt_head tx' sending
  have csum : (b.filled p got c).txAt p .csum = none := by
    rw [Block.txAt_of_tx tx', List.find?_cons_of_neg (by rw [sending]; decide), List.find?_singleton, zfifo]
    rfl
  have ctrl : ((b.filled p got c).port p).ctrl = [] := (Block.ctrl_modTx ..).trans quiet
  have ready : decide ((c.fill got).filled ≥ min ((b.filled p got c).fld (R.PRT_CT_CFG p) F.PRT_CT_CFG_THRESH * 64) (c.fill got).bytes.length) = true := by
    refine decide_eq_true ?_
    have whole : c.bytes.length ≤ (c.fill got).filled := by
      unfold TxCopy.fill
      dsimp only
      omega
    exact (Nat.min_le_right _ _).trans whole
  have frozen : (b.filled p got c).frozen (dieOfPort p) = false := run
  have up' : (b.filled p got c).flag (R.MAC_LINK_STATUS p) F.MAC_LINK_STATUS_LINK_UP = true := up
  have enter : (b.filled p got c).mayEnter p cut = true := by
    rw [Block.mayEnter, on]
    show (!d.express && b.mayPreempt p && b.flag (R.MAC_PREEMPT_STATUS p) F.MAC_PREEMPT_STATUS_ACTIVE && b.mayCut p d cut) = true
    rw [slow, may, active, cutOk]
    rfl
  have lb : ((b.filled p got c).fld (R.MAC_PORT_STATE p) F.MAC_PORT_STATE_LB_MODE == 2) = false := beq_eq_false_iff_ne.mpr wire
  have cutTx : (((b.filled p got c).cutAt p cut).port p).tx = [{ d with stage := .preempted, sent := cut }, c.fill got] := by
    rw [Block.cutAt, on]
    dsimp only [Option.isSome_some]
    rw [if_pos rfl, Block.modTxAt, Block.tx_modTx, Block.port, Block.count_ports, ← Block.port, tx', modFirst, if_pos (by rw [sending]; rfl)]
  have ticks : ((b.filled p got c).cutAt p cut).ticks = b.ticks := by
    rw [Block.cutAt]
    split
    · rw [Block.modTxAt, Block.modTx, Block.modPort_ticks, Block.count_ticks]
      rfl
    · rfl
  have may' : (if ((b.filled p got c).txAt p .sending).isSome then (c.fill got).express && (b.filled p got c).mayEnter p cut
      else ((b.filled p got c).txAt p .preempted).isNone || ((c.fill got).express && (b.filled p got c).mayPreempt p)) = true := by
    rw [on, enter, show (c.fill got).express = true from express]
    rfl
  have goes : b.frameStart p got cut =
      let e := (b.filled p got c).cutAt p cut
      let f := if ((b.region (rgnOfPort p)).frame c.sid).whole then e else e.pmc (.prt p) 0x08 0xFFF 1
      f.modTx p (putCopy (c.fill got) { c.fill got with stage := .sending, bytes := f.ptpBytes p (c.fill got), startAt := f.ticks }) := by
    rw [Block.frameStart_next (Block.nextStart_behind tx sending fifo free express)]
    dsimp only
    rw [good, ready, may', csum, ctrl, frozen, up', lb]
    exact (if_neg Bool.false_ne_true).trans ((if_neg Bool.false_ne_true).trans (if_neg Bool.false_ne_true))
  rw [goes]
  generalize (b.filled p got c).cutAt p cut = e at cutTx ticks ⊢
  have started {f : Block} (counted : e.Counted f) :
      ∃ l, ((f.modTx p (putCopy (c.fill got) { c.fill got with stage := .sending, bytes := f.ptpBytes p (c.fill got), startAt := f.ticks })).port p).tx
        = [{ d with stage := .preempted, sent := cut }, { c.fill got with stage := .sending, bytes := l, startAt := b.ticks }] := by
    have portSame : f.port p = e.port p := by
      obtain ⟨cs, rfl⟩ := counted
      rfl
    refine ⟨f.ptpBytes p (c.fill got), ?_⟩
    rw [Block.tx_modTx, portSame, cutTx, putCopy, if_neg (apart (by dsimp only; decide) zfifo), putCopy_head, counted.ticks, ticks]
  have counted : e.Counted (if ((b.region (rgnOfPort p)).frame c.sid).whole then e else e.pmc (.prt p) 0x08 0xFFF 1) := by
    split
    · exact .refl e
    · exact (Block.Counted.refl e).pmc _ _ _ _
  exact started counted

/-! ## O30 -/

/-- Settles O30: copies start, are cut, dropped or sent to their end (R92, R99, R107, R108, R111, R116, R118, R119, R289). -/
theorem framesStartAndEndOnTheWire : Obligations.FramesStartAndEndOnTheWire := by
  unfold Obligations.FramesStartAndEndOnTheWire
  intro b p c G s up freed
  have starts (got cut : Nat) : Takes (.frameStart p got cut) b (b.frameStart p got cut) := fun _ => rfl
  have ends : Takes (.frameTxEnd p) b (b.frameTxEnd p) := fun _ => rfl
  have under (n : Nat) : Takes (.txUnderrun p n) b (b.txUnderrun p n) := fun _ => rfl
  refine ⟨fun tx fifo got cut => ?_, fun d got cut tx sending slow fifo express run up quiet free may active cutOk come small good wire => ?_,
    fun tx sending whole => ⟨fun good => ?_, fun bad => ?_, fun n => ?_⟩, fun d tx sending cut whole off free => ?_,
    fun n tx sending part => ⟨?_, ?_⟩⟩
  · intro z ready may
    have alone := Block.nextStart_alone tx fifo
    refine ⟨fun held => ?_, fun free => ⟨fun held => ?_, fun ready may bad => ?_, fun ready may good far => ?_, fun ready may good wire => ?_⟩⟩
    · have same : b.frameStart p got cut = b := by
        unfold Block.frameStart
        rw [Block.nextStart_paused tx held]
      exact takes_congr (starts got cut) same
    · refine (starts got cut).to ?_
      rw [Block.frameStart_waits tx fifo free cut held]
      exact ⟨Block.tx_filled tx got, rfl⟩
    · obtain ⟨run, up, quiet⟩ := may
      refine (starts got cut).to ?_
      obtain ⟨⟨none, freed⟩, out, ctr⟩ := Block.dropped_tells tx got (R.MAC_TX_BAD_DROP p)
      rw [Block.frameStart_goes tx fifo free ready run up quiet cut]
      dsimp only
      rw [if_pos bad]
      exact ⟨none, freed, out, ctr ((b.stopped_mac p.isLt (by decide)).trans run)⟩
    · obtain ⟨run, up, quiet⟩ := may
      refine (starts got cut).to ?_
      obtain ⟨⟨none, freed⟩, out, -⟩ := Block.dropped_tells tx got (R.MAC_TX_LINKDOWN_DROP p)
      rw [Block.frameStart_goes tx fifo free ready run up quiet cut]
      dsimp only
      rw [if_neg (ne_true_of_eq_false good), if_pos (beq_iff_eq.mpr far)]
      exact ⟨none, freed, out⟩
    · obtain ⟨run, up, quiet⟩ := may
      refine (starts got cut).to ?_
      rw [Block.frameStart_goes tx fifo free ready run up quiet cut]
      dsimp only
      rw [if_neg (ne_true_of_eq_false good), if_neg (ne_true_of_eq_false (beq_eq_false_iff_ne.mpr wire))]
      refine Block.starts_tells tx ?_
      split
      · exact .refl _
      · exact (Block.Counted.refl _).pmc _ _ _ _
  · exact (starts got cut).to (Block.frameStart_preempts tx sending slow fifo express run up quiet free may active cutOk come small good wire)
  · obtain ⟨⟨none, freed⟩, onWire⟩ := Block.frameTxEnd_tells p.isLt tx sending whole good
    exact ends.to ⟨none, freed, onWire⟩
  · obtain ⟨⟨none, freed⟩, onWire⟩ := Block.frameTxEnd_stomps p.isLt tx sending whole bad
    exact ends.to ⟨none, freed, onWire⟩
  · exact takes_congr (under n) (Block.txUnderrun_whole (Block.txAt_head tx sending) whole n)
  · exact ends.to (Block.frameTxEnd_resumes p.isLt tx sending cut whole off free)
  · exact takes_congr ends (Block.frameTxEnd_early (Block.txAt_head tx sending) part)
  · obtain ⟨⟨none, freed⟩, onWire, thresh⟩ := Block.txUnderrun_tells p.isLt tx sending part n
    exact (under n).to ⟨none, freed, onWire, thresh⟩

end Sys2Proof.Machine
end
